-- ==== Sys2Proof/Word.lean ====
section
/-! DEFINITION. The word types of the DT-48: a byte, and the 16-, 32- and 64-bit words of registers, descriptors and tags
(bit 0 is the least significant bit of each, R6). -/

namespace Sys2Proof

abbrev Byte := BitVec 8
abbrev W16 := BitVec 16
abbrev W32 := BitVec 32
abbrev W64 := BitVec 64

end Sys2Proof
end

