-- ==== Sys2Proof/Machine/Bits.lean ====
section
/-! DEFINITION. Bit fields, packing, saturation, byte order, keyed tables and the cyclic redundancy checks of the manual
(bit numbering R6, byte order R7, reserved fields R8, `mod` R10, CRC-32C R49, the check-value CRCs of Table 17-13). -/

namespace Sys2Proof.Machine

/-! ### Bit fields -/

/-- Field `[hi:lo]` of a natural number read as a word (R6). -/
def fldN (w hi lo : Nat) : Nat := (w / 2 ^ lo) % 2 ^ (hi + 1 - lo)

/-- Field `[hi:lo]` of a 32-bit word (R6). -/
def fld (w : W32) (hi lo : Nat) : Nat := fldN w.toNat hi lo

/-- Bit `i` of a 32-bit word. -/
def bitOf (w : W32) (i : Nat) : Bool := w.getLsbD i

/-- 1 for true, 0 for false. -/
def b1 (b : Bool) : Nat := if b then 1 else 0

/-- The value `v` placed in field `[hi:lo]`; bits above the field are dropped. -/
def put (hi lo v : Nat) : Nat := (v % 2 ^ (hi + 1 - lo)) * 2 ^ lo

/-- A word made of disjoint fields, each `(hi, lo, value)`. -/
def pack (fs : List (Nat × Nat × Nat)) : W32 :=
  BitVec.ofNat 32 (fs.foldl (fun acc f => acc + put f.1 f.2.1 f.2.2) 0)

/-- Low 32 bits of a natural number. -/
def w32 (n : Nat) : W32 := BitVec.ofNat 32 n

/-- The two's complement word of an integer. -/
def w32i (i : Int) : W32 := BitVec.ofInt 32 i

/-- A count held at its largest value. -/
def satTo (mx n : Nat) : Nat := if n < mx then n else mx

/-- A saturating 32-bit count. -/
def sat32 (n : Nat) : Nat := satTo 0xFFFFFFFF n

/-- A saturating 16-bit count. -/
def sat16 (n : Nat) : Nat := satTo 0xFFFF n

/-- A signed value saturated to 32 bits. -/
def sat32i (i : Int) : W32 :=
  if i < -2147483648 then w32i (-2147483648) else if i > 2147483647 then w32i 2147483647 else w32i i

/-- A word read as two's complement of `n` bits. -/
def sext (n w : Nat) : Int := let v := w % 2 ^ n; if v < 2 ^ (n - 1) then (v : Int) else (v : Int) - 2 ^ n

/-- `(a - b) mod 2^32` of free-running indices (R525). -/
def idxDiff (a b : W32) : Nat := (a - b).toNat

/-- An integer limited to a range. -/
def clampI (lo hi x : Int) : Int := if x < lo then lo else if x > hi then hi else x

/-- `ceil(a / b)`. -/
def ceilDiv (a b : Nat) : Nat := (a + b - 1) / b

/-! ### Bytes (little-endian, R7) -/

/-- The low `n` bytes of `v`, least significant first. -/
def bytesLE : Nat → Nat → List Byte
  | 0, _ => []
  | n + 1, v => BitVec.ofNat 8 v :: bytesLE n (v / 256)

/-- The number spelt by bytes, least significant first. -/
def natLE : List Byte → Nat
  | [] => 0
  | b :: bs => b.toNat + 256 * natLE bs

/-- `n` bytes at byte offset `off`, as a number. -/
def leAt (bs : List Byte) (off n : Nat) : Nat := natLE ((bs.drop off).take n)

/-- The 32-bit word at byte offset `off`. -/
def wordAt (bs : List Byte) (off : Nat) : W32 := BitVec.ofNat 32 (leAt bs off 4)

/-- Field `[hi:lo]` of the 32-bit word at byte offset `off` of a record. -/
def recFld (bs : List Byte) (off hi lo : Nat) : Nat := fld (wordAt bs off) hi lo

/-- The words of a byte record. -/
def wordsOf : Nat → List Byte → List W32
  | 0, _ => []
  | n + 1, bs => wordAt bs 0 :: wordsOf n (bs.drop 4)

/-- The bytes of a list of words. -/
def wordBytes (ws : List W32) : List Byte := ws.flatMap fun w => bytesLE 4 w.toNat

/-- Word `i` of a list of words, 0 past its end. -/
def wd (ws : List W32) (i : Nat) : W32 := ws.getD i 0

/-- A list of words brought to `n` words, zeros added. -/
def padW (n : Nat) (ws : List W32) : List W32 := (List.range n).map fun i => ws.getD i 0

/-- A list of bytes brought to `n` bytes, zeros added. -/
def padB (n : Nat) (bs : List Byte) : List Byte := (List.range n).map fun i => bs.getD i 0

/-- Two 32-bit words as one 64-bit number, low word first. -/
def w64of (lo hi : W32) : Nat := lo.toNat + 2 ^ 32 * hi.toNat

/-! ### Keyed tables: a list of (number, value) pairs, keys rising -/

/-- A table of values by number. -/
abbrev Tab (α : Type) := List (Nat × α)

/-- The entry of a number, if it is listed. -/
def tfind {α : Type} (k : Nat) : Tab α → Option α
  | [] => none
  | (k', v) :: t => if k = k' then some v else tfind k t

/-- The entry of a number, or the value an unlisted number has. -/
def tget {α : Type} (d : α) (t : Tab α) (k : Nat) : α := (tfind k t).getD d

/-- The table with the entry of a number replaced or added in order. -/
def tset {α : Type} (k : Nat) (v : α) : Tab α → Tab α
  | [] => [(k, v)]
  | (k', v') :: t =>
    if k = k' then (k, v) :: t else if k < k' then (k, v) :: (k', v') :: t else (k', v') :: tset k v t

/-- The table without the entry of a number. -/
def tdel {α : Type} (k : Nat) : Tab α → Tab α
  | [] => []
  | (k', v') :: t => if k = k' then tdel k t else (k', v') :: tdel k t

/-- The table with an entry changed by a function. -/
def tupd {α : Type} (d : α) (k : Nat) (f : α → α) (t : Tab α) : Tab α := tset k (f (tget d t k)) t

/-- The first condition that holds names the answer. -/
def firstOf {α : Type} : List (Bool × α) → Option α
  | [] => none
  | (c, a) :: cs => if c then some a else firstOf cs

/-! ### Cyclic redundancy checks -/

/-- One shift of a reflected CRC of `n` bits with the reflected polynomial `poly`. -/
def crcRefl1 (poly crc : Nat) : Nat := if crc % 2 = 1 then (crc / 2) ^^^ poly else crc / 2

/-- One byte into a reflected CRC. -/
def crcReflByte (poly crc : Nat) (b : Byte) : Nat := Nat.repeat (crcRefl1 poly) 8 (crc ^^^ b.toNat)

/-- One shift of a CRC-16 that takes bit 7 of each byte first. -/
def crcMsb1 (poly crc : Nat) : Nat := if crc < 0x8000 then (2 * crc) % 0x10000 else ((2 * crc) % 0x10000) ^^^ poly

/-- One byte into a CRC-16 that takes bit 7 first. -/
def crcMsbByte (poly crc : Nat) (b : Byte) : Nat := Nat.repeat (crcMsb1 poly) 8 (crc ^^^ (b.toNat * 256))

/-- CRC-32C of a list of bytes (R49): reflected, initial value and final XOR all ones. -/
def crc32c (bs : List Byte) : Nat := (bs.foldl (crcReflByte 0x82F63B78) 0xFFFFFFFF) ^^^ 0xFFFFFFFF

/-- The initial accumulator of a check-value polynomial (Table 17-13). -/
def cvuInit (poly : Nat) : Nat :=
  match poly with
  | 0 => 0xFFFFFFFF
  | 1 => 0xFFFFFFFF
  | 2 => 0xFFFF
  | _ => 0xFFFFFFFFFFFFFFFF

/-- One byte into the accumulator of a check-value polynomial (Table 17-13). -/
def cvuByte (poly acc : Nat) (b : Byte) : Nat :=
  match poly with
  | 0 => crcReflByte 0x82F63B78 acc b
  | 1 => crcReflByte 0xEDB88320 acc b
  | 2 => crcMsbByte 0x1021 acc b
  | _ => crcReflByte 0xC96C5795D7870F42 acc b

/-- The result of an accumulator: the final XOR of Table 17-13 applied. -/
def cvuResult (poly acc : Nat) : Nat :=
  match poly with
  | 0 => acc ^^^ 0xFFFFFFFF
  | 1 => acc ^^^ 0xFFFFFFFF
  | 2 => acc
  | _ => acc ^^^ 0xFFFFFFFFFFFFFFFF

end Sys2Proof.Machine
end

