-- ==== Sys2Proof/Machine/Operands.lean ====
section
/-! DEFINITION. The types of the operands that commands and events carry. Operands whose layout another standard owns (Ethernet, RTP
and AUX encodings, coded pictures, signature checks) are given parsed or decided (log 6). -/

namespace Sys2Proof

/-- The three ports a command can arrive on (R537). -/
inductive Port where
  | pf0 | pf1 | maint
deriving DecidableEq, Repr

/-- Where a maintenance command came from (R556, R558). -/
inductive MaintSrc where
  | udp (addr : W32) (port : W16)
  | uart
deriving DecidableEq, Repr

/-- The path a register access takes (R514): BAR0, one bit alias of BAR1, or the peek mirror. An internal initiator's fabric
access acts as a BAR0 access. -/
inductive RegPath where
  | bar0
  | bar1 (bit : Nat)
  | peek
deriving DecidableEq, Repr

/-- A register write of one word (R657-R672): the initiator (Table 14-6), the path, the word, and whether every byte enable is
set. -/
structure RegW where
  init : Nat
  path : RegPath := .bar0
  val : W32
  beFull : Bool := true
deriving DecidableEq, Repr

/-- A register read of one word. -/
structure RegR where
  init : Nat
  path : RegPath := .bar0
  beFull : Bool := true
deriving DecidableEq, Repr

/-- The reply of a sink to an AUX transaction of OUTPUT_AUX: none when the sink does not answer. -/
structure AuxReply where
  ack : Bool
  data : List Byte := []
deriving DecidableEq, Repr

/-- A firmware image file or buffer, as far as the manual lets it be seen: its first bytes (the header of Table 16-3), its
size, how it verifies under R644 (Table 16-7's code, 0 for verified), and the first word of its digest. -/
structure FwFile where
  header : List Byte
  size : Nat
  verdict : Nat
  digest : W32 := 0
deriving DecidableEq, Repr

/-- What a command meets outside the block: the sink's AUX reply, the named file of the SD card. -/
structure CmdEnv where
  aux : Option AuxReply := none
  card : Option FwFile := none
deriving DecidableEq, Repr

/-- A command as it is taken from a port (Table 13-8): the port, the command ring, TAG, the words from W2 on, and the parameter
record that the read at A returned (none: the read failed). -/
structure Cmd where
  port : Port
  ring : Nat := 0
  tag : W16 := 0
  w : List W32 := []
  record : Option (List Byte) := some []
  src : MaintSrc := .uart
  env : CmdEnv := {}
deriving DecidableEq, Repr

/-- What a command brings beside its descriptor words. -/
structure CmdIn where
  record : Option (List Byte) := some []
  env : CmdEnv := {}
deriving DecidableEq, Repr

/-- A descriptor read from a command ring: the words W0 to W15, and what it brings. -/
structure Descriptor where
  words : List W32
  io : CmdIn := {}
deriving DecidableEq, Repr

/-- A packet-out descriptor read from its ring (Table 13-12), with the frame read from its buffer (none: the read failed) and
the source MAC, EtherType and VLAN facts that R258 judges. -/
structure PacketOut where
  words : List W32
  frame : Option (List Byte)
deriving DecidableEq, Repr

/-- The sub-tick part of a timestamp: nanoseconds after the tick and quarter nanoseconds (R194). -/
structure StampNs where
  ns : Nat := 0
  qns : Nat := 0
deriving DecidableEq, Repr

/-- The generator parameters that FL_PARAM_WRITE writes (R219). -/
inductive FlParam where
  | num | originLo | originHi | phase
deriving DecidableEq, Repr

/-- The feed registers of a check-value unit (R687). -/
inductive FeedSize where
  | feed8 | feed16 | feed32
deriving DecidableEq, Repr

/-- What a merging window counts refusals of (R554, R583, R584, R693). -/
inductive WindowKey where
  | notPermitted (init : Nat)
  | gateDenied (gate init : Nat)
  | offBlock (init domain : Nat)
  | cvu (unit : Nat)
deriving DecidableEq, Repr

/-- What firmware finds when a transition ends: every retained helper memory matches or could be reloaded (R650); after Deep sleep, the
width and rate of the host link as the two ends settle them (HIF_LINK, R510). -/
structure ExitEnv where
  helpersOk : Bool := true
  link : W32 := 0x85
deriving DecidableEq, Repr

/-- The readings of one control period (R607-R612): the reading of each clockless domain, READ_VOUT in mV, whether the regulator
acknowledged. -/
structure GaugeEnv where
  readings : List (Nat × Nat)
  readVout : Nat
  ack : Bool := true
deriving DecidableEq, Repr

/-- What a scrub read of a unit finds (R576). -/
inductive ScrubResult where
  | clean | corrected | uncorrected
deriving DecidableEq, Repr

/-- A memory request (R560, R581): initiator, port, device address, bytes, page hint, and for a write its data. -/
structure MemReq where
  init : Nat
  port : Nat
  addr : Nat
  len : Nat
  hint : Nat := 0
  data : Option (List Byte) := none
deriving DecidableEq, Repr

/-- A request arriving at the fabric's arbiter (R593): its initiator, its address, the beats its owner means to issue under one
lock (1: an unlocked beat). -/
structure FabArrival where
  init : Nat
  addr : Nat
  beats : Nat := 1
deriving DecidableEq, Repr

/-- The boot flash as the ROM finds it: the slot indicator's copies are in State; the operand brings what is outside the block's
own writes: a replaced flash's contents, the console's "R" line, whether the core image of the helpers loads. -/
structure BootEnv where
  uartR : Bool := false
  /-- HIF_LINK after link training: width and rate as the two ends settle them (R510). -/
  link : W32 := 0x85
  slot0 : Option FwFile := none
  slot1 : Option FwFile := none
  identity : Option (List Byte) := none
deriving DecidableEq, Repr

/-- What cast-on finds before Ready: the lanes whose calibration failed (R700). -/
structure ReadyEnv where
  failedLanes : List Nat := []
deriving DecidableEq, Repr

/-- A request of the recovery protocol (Table 16-5) and its sender. -/
structure RecovReq where
  addr : W32
  port : W16
  op : Nat
  arg : Nat
  len : Nat
  crc : W32
  data : List Byte
deriving DecidableEq, Repr

/-- The result of a test loop (R703). -/
structure LoopResult where
  bitErrors : Nat
  units : Nat
  neverLocked : Bool := false
  lockLosses : Nat := 0
deriving DecidableEq, Repr

/-- A frame on the maintenance port that is not a command datagram (R556): what it asks for and who asks. -/
inductive MaintFrame where
  | arp (target : W32) (sender : W32)
  | icmpEcho (target : W32) (sender : W32) (payload : List Byte)
  | other
deriving DecidableEq, Repr

/-! ### Received network frames -/

/-- A run of samples of one line of an ST 2110-20 packet, unpacked from its pixel groups (R61, R245): the line of a frame, or of
the second segment of a segmented frame counted from 2^15, the first pixel, and the samples of each plane. -/
structure SampleSeg where
  line : Nat
  off : Nat
  y : List Nat
  cb : List Nat
  cr : List Nat
deriving DecidableEq, Repr

/-- An RTP packet: its fixed header and its payload. -/
structure RtpPkt where
  pt : Nat
  ssrc : W32
  seq : W16
  ts : W32
  marker : Bool
  payload : List Byte
deriving DecidableEq, Repr

/-- A UDP packet: IP version 4 or 6, addresses in network byte order, destination port, content. -/
structure UdpPkt where
  v6 : Bool
  dst : List Byte
  src : List Byte
  port : W16
  data : List Byte
deriving DecidableEq, Repr

/-- What a received frame carries, as its EtherType and its IP header say (R195, R229, Table 06-5): a PAUSE or priority-flow-control
frame, a PTP message over Ethernet with its message type, ARP, an ICMP message with its type, IGMP, TCP, UDP, or anything else. -/
inductive EthBody where
  | pause
  | ptp (type : Nat)
  | arp
  | icmp (v6 : Bool) (type : Nat)
  | igmp
  | tcp
  | udp (p : UdpPkt)
  | other
deriving DecidableEq, Repr

/-- A detected failure in a custody stage (Tables 02-6 and 02-8), or an upset that a check of the stage meets: the stage, the check
kind, the stitch or block, the layer slot, egress pixel or core of a gang concerned. `want` and `got` are what the protected unit should
hold and what it holds, from which the residue, the parity or the second copy is computed (R76 to R78); of a guarded right shift by
`shift` they are its operand and its quotient, with the remainder kept. An upset of a read that strikes the first read only (`times`
1) leaves the second to verify (R71). -/
structure StageFault where
  stage : Nat
  kind : Nat
  sx : Nat
  sy : Nat
  slot : Nat := 0
  times : Nat := 2
  want : Nat := 0
  got : Nat := 1
  shift : Nat := 0
  rem : Nat := 0
deriving DecidableEq, Repr

/-- A received Ethernet frame: its sub-tick stamp, its bytes from the destination MAC to the end of its payload, the frame check sequence
received, whether the receive buffer reports a parity error, and upsets of the ingest units that the frame's processing, or a later close
of a unit of reception, meets. -/
structure EthFrame where
  stamp : StampNs := {}
  bytes : List Byte
  fcs : W32
  parityOk : Bool := true
  faults : List StageFault := []
deriving DecidableEq, Repr

/-! ### Baseband -/

/-- An AUX transaction of a source: native or I2C-over-AUX, write or read, address, length (0: address only), data, and of an I2C
transaction whether the middle-of-transaction bit keeps it open. -/
structure AuxTrans where
  native : Bool
  write : Bool
  addr : Nat
  len : Nat
  data : List Byte := []
  mot : Bool := false
deriving DecidableEq, Repr

/-- The link of a baseband input fails: lost, or kept with a status change that the block tells with IRQ_HPD (R264). -/
structure BbLoss where
  input : Nat
  lost : Bool := true
deriving DecidableEq, Repr

/-- A baseband frame as its main stream attributes and its lines give it (R260, R266): multi-stream transport, Display Stream
Compression or content protection in use, chroma (0 RGB, 1 4:4:4, 2 4:2:2, 3 4:2:0) and bits per component, the signalled pixel rate in
pixel/s, scan type, size, total lines, how many ns before this event its first active pixel left the receive link layer, the
signalled line period in 32.32 ns, the samples of each plane in raster order (of an interlaced frame its first field in `planes`, its
second in `second`), the lines that did not arrive and those with link errors, signalled colour (0 none) and range. -/
structure BbFrame where
  mst : Bool := false
  dsc : Bool := false
  protect : Bool := false
  chroma : Nat := 0
  bpc : Nat := 10
  pixelRate : Nat
  interlaced : Bool := false
  w : Nat
  h : Nat
  totalLines : Nat
  ago : Nat := 0
  linePeriod : Nat
  planes : List (List Nat)
  second : List (List Nat) := []
  missing : List Nat := []
  errLines : List Nat := []
  colour : Nat := 0
  full : Bool := false
  narrowRgb : Bool := false
  faults : List StageFault := []
deriving DecidableEq, Repr

/-! ### Decoding -/

/-- A stitch of the picture reads samples of a stitch of a reference, given by its place in the picture's reference list, or of the
picture itself (R302, R304). -/
structure StitchRead where
  sx : Nat
  sy : Nat
  ref : Option Nat
  rx : Nat
  ry : Nat
deriving DecidableEq, Repr

/-- A reference that the picture's syntax names (R301): by its picture order count, or of AV1 by its slot, with the frame identifier
expected where identifiers are present. -/
structure RefEntry where
  key : Int
  id : Option Nat := none
deriving DecidableEq, Repr

/-- A rectangle of luma samples. -/
structure Rect where
  x : Nat
  y : Nat
  w : Nat
  h : Nat
deriving DecidableEq, Repr

/-- A slice, tile or other part of a picture (R303): the samples it covers, in the cropped picture; the bytes of the access unit that hold
it, from `lo` to below `hi`; whether it was not received at all; and the samples left where a syntax error or an out-of-range value
stops it. -/
structure PicPart where
  rects : List Rect
  lo : Nat := 0
  hi : Nat := 0
  missing : Bool := false
  broken : Option (List Rect) := none
deriving DecidableEq, Repr

/-- One stitch row of the decode statistics (Table 07-8), apart from its luma differences. -/
structure RowStat where
  motion : Nat
  intra : Nat
  inter : Nat
  bits : Nat
deriving DecidableEq, Repr

/-- A picture of an access unit as its bitstream gives it (R276 to R278, R297, R301 to R305): the parameter sets' profile, tier, level,
depth, chroma (0 monochrome, 1 4:2:0, 2 4:2:2, 3 4:4:4), whether only tools of Table 07-3 are used; whether its stream's context failed
verification at load; the width of the decoded planes (after AV1 superres) with their samples, and the cropping window; AV1's film grain
(seed and parameters); the facts that order it: a refresh that starts a new sequence, its picture order count, H.264's frame number and
its range, a reference picture, an output flag, H.265's NAL unit type, AV1's frame identifier, slots refreshed, show_frame and
show_existing_frame; its references, parts and reads; the decode numbers that its codec still references after it; the stitches written
when a watchdog ended it; statistics; the custody failures detected; which core of a gang writes each stitch, in raster order, and the
independent pieces it has; whether it is the last of its access unit. -/
structure DecPicture where
  profile : Nat
  tier : Nat := 0
  level : Nat
  depth10 : Bool := false
  chroma : Nat := 1
  tools : Bool := true
  contextFailed : Bool := false
  stride : Nat
  planes : List (List Nat)
  cropX : Nat := 0
  cropY : Nat := 0
  w : Nat
  h : Nat
  grain : Option (Nat × List Nat) := none
  refresh : Bool := false
  order : Int := 0
  frameNum : Nat := 0
  maxFrameNum : Nat := 16
  reference : Bool := true
  output : Bool := true
  nal : Nat := 0
  id : Option Nat := none
  slots : List Nat := []
  showFrame : Bool := true
  showSlot : Option Nat := none
  refs : List RefEntry := []
  parts : List PicPart := []
  reads : List StitchRead := []
  keeps : List Nat := []
  written : List (Nat × Nat) := []
  kind : Nat := 0
  bits : Nat := 0
  rows : List RowStat := []
  micros : Nat := 0
  colour : Nat := 0
  full : Bool := false
  faults : List StageFault := []
  writers : List Nat := []
  pieces : Nat := 64
  last : Bool := true
deriving DecidableEq, Repr

/-- A watchdog's trip: the engine, and the picture as far as the engine has decoded it (R307). -/
structure WatchdogTrip where
  engine : Nat
  picture : DecPicture
deriving DecidableEq, Repr

/-! ### Composition and scan-out -/

/-- A cut (R337): for a chase canvas the stitch row and its frame; whether memory lets the composition finish by its deadline,
and if not by how many ns it is late; the custody failures detected in the work. -/
structure CutEnv where
  frame : Nat
  row : Nat := 0
  finish : Bool := true
  late : Nat := 0
  faults : List StageFault := []
deriving DecidableEq, Repr

/-- A row fetch of the scan-out (R80): the custody failures detected in it. For SO_TREAT and SO_PACK the slot is the failing pixel
of the egress stitch, in raster order (R84). -/
structure ScanEnv where
  faults : List StageFault := []
deriving DecidableEq, Repr

/-- The end of a link training: its success, the sink's lowest Adaptive-Sync refresh in Hz (none: no support), its support of Panel
Replay with a granularity that divides 32 lines, and of test CRCs (R396 to R398, R403). -/
structure LinkTraining where
  ok : Bool
  asyncMin : Option Nat := none
  pr : Bool := false
  testCrc : Bool := false
deriving DecidableEq, Repr

/-- A sink's test CRCs, of R or Cr, G or Y, B or Cb, and its CRC count (R402). -/
structure EchoRead where
  r : W16
  g : W16
  b : W16
  count : Nat
deriving DecidableEq, Repr

/-- The input of a recorded frame (R415): the custody failures detected. For ENC_PRE `sy` is the encoded stitch row touched. -/
structure EncEnv where
  faults : List StageFault := []
deriving DecidableEq, Repr

/-- A coded picture as its codec gives it (R419 to R423): the bits of each coding block of each coding-block row when coded in full,
the bits of a filler block, the first stitch row not coded by D(n + DIVISOR), and the access unit's bytes before and after the
place of the recording message (R424). -/
structure EncCoded where
  blocks : List (List Nat) := []
  filler : Nat := 1
  late : Option Nat := none
  head : List Byte := []
  body : List Byte := []
deriving DecidableEq, Repr

/-- A heartbeat (Table 11-3), and whether its link frame's CRC is good. -/
structure Heartbeat where
  seq : W16
  mode : Nat
  leadOut : Bool
  fit : Bool := false
  request : Nat := 0
  frame : Nat := 0
  crcOk : Bool := true
deriving DecidableEq, Repr

/-- A stamp of a pair timing message on T0 and on T3, in quarter nanoseconds (R194, R199). -/
structure PairStamp where
  t0 : Nat
  t3 : Nat
deriving DecidableEq, Repr

/-- What a link frame of the Corler link carries, as far as it acts on the module outside the rows of its own: a class 1 request for the
snapshot (R464), a class 1 drill (R472) with its frame and return time, a class 4 lifeline
of the Lead (R468), a class 2 timing message (R199, R210; log 67), a message that Table 11-1 does not list, or any other. A timing
message has an identifier; it names a message of this module and the peer's receive stamps of it, and the peer's message before it with
its transmit stamps. -/
inductive CorlerMsg where
  | ordinary
  | snapshotRequest
  | drill (frame : Nat) (ret : Nat)
  | lifeline (canvas stitch tick : Nat) (bytes : List Byte)
  | timing (ident : W16) (echo prev : Option (W16 × PairStamp))
  | unlisted (words : W32)
deriving DecidableEq, Repr

/-- A Corler link frame as received (R438, R439): its CRC-32C verifies, its message class, its message, its sub-tick stamp. -/
structure CorlerFrame where
  crcOk : Bool := true
  cls : Nat := 1
  msg : CorlerMsg := .ordinary
  stamp : StampNs := {}
deriving DecidableEq, Repr

/-- The end of a Corler link training (R441, R470): the lanes that came up, bits 0 to 3; the peer's pair protocol word; whether the
peer is a Lead that accepts a knit-up; whether it is in position B. -/
structure CorlerTraining where
  lanes : W32
  peerWord : W32
  accepting : Bool := true
  posB : Bool := false
deriving DecidableEq, Repr

/-- The peer's digest record of an output frame (R452), and the configuration digest that travels in it (R455). -/
structure PeerDigest where
  output : Nat
  frame : W32
  digest : W32
  slipped : Nat
  rescan : Bool
  readback : Nat
  config : W32
deriving DecidableEq, Repr

/-- The listen slot of a scan (R486): for each of an engine's two panels, the demodulated value of each sense electrode at each of the
eight frequencies. -/
structure ListenEnv where
  p0 : List (List Int) := []
  p1 : List (List Int) := []
deriving DecidableEq, Repr

/-- The measurements of a scan (R484): for each of an engine's two panels, the demodulated value of each sense electrode in each code
slot. -/
structure ScanCounts where
  p0 : List (List Int) := []
  p1 : List (List Int) := []
deriving DecidableEq, Repr

/-- The measurements of a self-test (Table 12-8): the code slots of a normal scan at the start frequency, and the mean received
magnitude of each adjacent pair of drive and of sense electrodes. -/
structure TouchTest where
  slots : List (List Int) := []
  drvPairs : List Nat := []
  snsPairs : List Nat := []
deriving DecidableEq, Repr

end Sys2Proof
end

