-- ==== Sys2Proof/Machine/StHost.lean ====
section
/-! DEFINITION. The state of the host interface (rings, completions, events, maintenance port, register latches: chapter 13,
and R666-R693) and of the time bases (chapter 05). Plain data; a field's default is its reset value. -/

namespace Sys2Proof.Machine

/-! ### Ports, modes and power states -/

/-- The operating modes (Table 15-10). -/
inductive Mode where
  | castOn | recovery | ready | solo | lead | follow | knitUp | drill | night | maintenance | safeHold | bindOff
deriving DecidableEq, Repr

/-- The power states (Table 15-7). -/
inductive PowerState where
  | run | idle | sleep | deepSleep | off
deriving DecidableEq, Repr

/-- The states of T0 (Table 05-2). -/
inductive T0State where
  | unset | locked | holdover | unlocked
deriving DecidableEq, Repr

/-! ### Rings (R517-R529) -/

/-- One ring of a function: its registers (Tables 13-4 to 13-7) and its signalling state (R528). -/
structure Ring where
  en : Bool := false
  log2 : Nat := 6
  slot : Nat := 0
  cpl : Nat := 0
  vector : Nat := 0
  irqEn : Bool := false
  modTime : Nat := 0
  modCount : Nat := 1
  baseLo : W32 := 0
  baseHi : W32 := 0
  dataLo : W32 := 0
  dataHi : W32 := 0
  prod : W32 := 0
  cons : W32 := 0
  stopped : Bool := false
  cause : Nat := 0
  discards : Nat := 0
  /-- Entries written since the last signal (R528). -/
  unsignalled : Nat := 0
  /-- T2 when the first of them was written, in ns. -/
  firstAt : Nat := 0
  /-- Packet-in rings: frames discarded before the next frame (Table 13-13). -/
  lostFrames : Nat := 0
deriving DecidableEq, Repr

/-- One entry of an MSI-X table. The PCIe base specification's reset state is a masked vector (PRESUMED, log 10). -/
structure MsixEntry where
  addrLo : W32 := 0
  addrHi : W32 := 0
  data : W32 := 0
  masked : Bool := true
deriving DecidableEq, Repr

/-- One PCIe function's host interface. -/
structure Fn where
  rings : Tab Ring := []
  msix : Tab MsixEntry := []
  /-- MSI-X pending bits, vectors 0 to 63. -/
  pba : W64 := 0
deriving DecidableEq, Repr

/-- A command taken whose completion is still to be written (R532). -/
structure Outst where
  port : Port
  ring : Nat
  opcode : Nat
  tag : W16
  seq : W32
  cons : W32
  /-- What it acts on: an entry number, lane, panel, slot, by opcode. -/
  target : Nat
  /-- Further words the end of the work needs. -/
  arg : List Nat := []
  src : MaintSrc := .uart
  /-- Its rings were disabled by R513: the completion is discarded. -/
  discarded : Bool := false
deriving DecidableEq, Repr

/-- An open merging window of 10 ms: when it opened on T2, the refusals counted in it, and the last one's event words. -/
structure MergeWin where
  key : WindowKey
  openedAt : Nat
  count : Nat := 0
  last : List W32 := []
deriving DecidableEq, Repr

/-- PF1's limits (PF1_LIMITS_SET, R538). -/
structure Pf1Limits where
  classes : Nat := 0
  regions : Nat := 0
  /-- For region class 0 to 3: (smallest, largest) budget in ms. -/
  budgets : Tab (Nat × Nat) := []
  streams : Nat := 0
deriving DecidableEq, Repr

/-- The state of one event destination (Table 17-6). -/
structure EvDest where
  seq : W32 := 0
  lost : Nat := 0
deriving DecidableEq, Repr

/-- One check-value unit (R687-R692). -/
structure Cvu where
  aliveEn : Bool := false
  poly : Nat := 0
  tmo : Bool := false
  skip : Bool := false
  rep : Bool := false
  aliveSet : Bool := false
  /-- The accumulator of CRC-32C before its final XOR. -/
  acc : Nat := 0xFFFFFFFF
  /-- Bytes fed since the last initialisation. -/
  count : W32 := 0
  /-- False until the first initialisation or feed: RES reads its reset value 0 until then. -/
  fed : Bool := false
  alive : W16 := 0
  aliveTmo : Nat := 0
  /-- T2 of the last alive write, ns. -/
  aliveAt : Nat := 0
  /-- The expiry of this alive write has been reported. -/
  expired : Bool := false
deriving DecidableEq, Repr

/-- A command held until VCORE has reached the level that it needs (R610): its sequence number, opcode and words, the T2 (ns) at which it
was taken, and the readings that its domains need. -/
structure SupplyHold where
  seq : W32
  opcode : Nat
  cmd : Cmd
  since : Nat
  reqs : List (Nat × Nat)
deriving DecidableEq, Repr

/-- The host interface. -/
structure HostIf where
  fn0 : Fn := {}
  fn1 : Fn := {}
  /-- HIF_LINK: width and rate; 0 while the link is down. -/
  link : W32 := 0
  linkUp : Bool := false
  cmdSeq : W32 := 0
  /-- The command ring served last: 0 to 3 PF0, 4 to 7 PF1, 8 the maintenance port (R532). -/
  lastServed : Nat := 8
  outst : List Outst := []
  /-- The outstanding command that waits for the supply (R610). -/
  supply : Option SupplyHold := none
  mask0 : List W32 := [0xFFFFFFFF, 0xFFFFFFFF, 0xFFFFFFFF, 0xFFFFFFFF]
  mask1 : List W32 := [0xFF6E67FE, 0x0FD8F377, 0x00120000, 0]
  mask2 : List W32 := [0, 0, 0, 0]
  allow1 : List W32 := [0xFF6E67FE, 0x0FD8F377, 0x00120000, 0]
  dest0 : EvDest := {}
  dest1 : EvDest := {}
  dest2 : EvDest := {}
  /-- Events lost on the maintenance port since cast-on (DEVICE_STATUS W12). -/
  maintLost : Nat := 0
  /-- Where maintenance events go: the sender of the last EVENT_MASK_SET (R556). -/
  maintDest : Option MaintSrc := none
  /-- The second of T2 that the maintenance rate limit counts in, and its events (R556). -/
  maintSecond : Nat := 0
  maintCount : Nat := 0
  /-- A maintenance command that has arrived and waits to be taken: its opcode and the command (R532, R557). -/
  maintWait : Option (Nat × Cmd) := none
  windows : List MergeWin := []
  pf1 : Pf1Limits := {}
  /-- Pending low words of 64-bit writes, by initiator × 65536 + offset of X_LO (R668). -/
  pendLo : Tab W32 := []
  /-- Shadows of 64-bit reads, by initiator × 65536 + offset of X_LO (R667). -/
  shadow : Tab W32 := []
  scratch : Tab W32 := []
  cvu : Tab Cvu := []
  /-- Transmit order of the packet-out rings: the ring served last for each port (R257). -/
  txLast : Tab Nat := []
deriving DecidableEq, Repr

/-! ### Time bases (R172-R224) -/

/-- A step or load waiting for its tick (R184). -/
inductive TbOp where
  /-- Add signed ns; `beyond` when it exceeds the threshold (applied under the override). -/
  | step (ns : Int) (beyond : Bool)
  /-- Set the value; `first` for the first load; `beyond` as for a step, with the computed step in ns. -/
  | load (sec : W64) (ns : W32) (first beyond : Bool) (delta : Int)
deriving DecidableEq, Repr

/-- One time base (R173, Tables 05-6 to 05-8). -/
structure TimeBase where
  sec : W64 := 0
  ns : W32 := 0
  frac : W32 := 0
  inc : W64 := 0x200000000
  /-- An increment committed for the next tick (R176). -/
  incNext : Option W64 := none
  ops : List TbOp := []
  set : Bool := false
  ppsEn : Bool := false
  ovrArmed : Bool := false
  /-- T2 when the override was armed, ns. -/
  ovrAt : Nat := 0
  incRange : Bool := false
  stepRefused : Bool := false
  stepDone : Bool := false
  thr : W32 := 1000
  loadNs : W32 := 0
  loadLo : W32 := 0
  loadHi : W32 := 0
  stepLo : W32 := 0
  stepHi : W32 := 0
  snapFrac : W32 := 0
  snapNs : W32 := 0
  snapLo : W32 := 0
  snapHi : W32 := 0
  ppsNs : W32 := 0
  ppsLo : W32 := 0
  ppsHi : W32 := 0
deriving DecidableEq, Repr

/-- One entry of a transmit timestamp queue (R198). For queue 8 a copy on T0 stands beside the T3 stamp (R199). -/
structure TxStamp where
  ident : W16
  tbase : Nat
  nsq : W32
  sec : Nat
  t0sec : Nat := 0
  t0nsq : W32 := 0
deriving DecidableEq, Repr

/-- One transmit timestamp queue (R198, Tables 05-10, 05-11). -/
structure TxQueue where
  q : List TxStamp := []
  nsq : W32 := 0
  secLo : W32 := 0
  secHi : W32 := 0
  ovf : Bool := false
  drops : Nat := 0
deriving DecidableEq, Repr

/-- One frame-lock generator (R211, R219). -/
structure FrameLock where
  en : Bool := false
  den1001 : Bool := false
  num : W32 := 0
  originLo : W32 := 0
  originHi : W32 := 0
  phase : W32 := 0
  /-- The number of the frame whose display time comes next (a 64-bit counter), and the first frame of the present numbering (R216). -/
  next : Nat := 0
  first : Nat := 0
deriving DecidableEq, Repr

/-- The TB block. -/
structure TimeUnit where
  t0 : TimeBase := {}
  t1 : TimeBase := {}
  t2 : TimeBase := { set := true }
  t3 : TimeBase := {}
  state : T0State := .unset
  /-- How often T0 has entered each state (by its code), and each entry with its T0 (ns), newest first: what R433 takes over a span. -/
  entered : Tab Nat := []
  hist : List (Nat × T0State) := []
  errEst : W32 := 0
  holdLimit : W32 := 1000
  servoTmo : W32 := 2000
  refStab : W32 := 100
  /-- T2 of the last servo activity, ns (R187). -/
  servoAt : Nat := 0
  /-- E0 and the T2 of the entry to HOLDOVER (R189). -/
  e0 : W32 := 0
  holdAt : Nat := 0
  snapSeq : W32 := 0
  ppsSeq : W32 := 0
  pairT0Ofs : W32 := 0
  pairT3Ofs : W32 := 0
  pairLimit : W32 := 2000
  /-- The last T0 offset measured exceeded the limit (R210). -/
  pairOver : Bool := false
  txq : Tab TxQueue := []
  fl : Tab FrameLock := []
deriving DecidableEq, Repr

end Sys2Proof.Machine
end

