-- ==== Sys2Proof/Machine/StMem.lean ====
section
/-! DEFINITION. The state of memory, gates and the control fabric (chapter 14), of power and operating modes (chapter 15),
of cast-on and recovery (chapter 16) and of lanes, pins and timers (chapters 18 and 19). Plain data; a field's default is its
reset value. -/

namespace Sys2Proof.Machine

/-! ### HBM3, windows, ports, gates and the fabric -/

/-- A memory window (Table 14-9). -/
structure MemWindow where
  en : Bool := false
  order : Nat := 0
  base : Nat := 0
  rowCount : Nat := 0
  rowBase : Nat := 0
  mask : W32 := 0xFFFFFFFF
deriving DecidableEq, Repr

/-- A memory port's registers and its tension regulator (R571, Table 14-10). Tokens are counted in nano-bytes at `at`. -/
structure MemPort where
  guar : Bool := false
  rate : Nat := 0
  burst : Nat := 0
  units : W32 := 0
  dry : Nat := 0
  /-- Bytes of tokens held, and the T2 (ns) they were last counted. -/
  tokens : Nat := 0
  tokensAt : Nat := 0
deriving DecidableEq, Repr

/-- A gate rule (R579). -/
structure Rule where
  valid : Bool := false
  base : Nat := 0
  limit : Nat := 0
  mask : W32 := 0
  wr : Bool := false
  rd : Bool := false
deriving DecidableEq, Repr

/-- One access gate. -/
structure Gate where
  active : Tab Rule := []
  shadow : Tab Rule := []
  epoch : W32 := 0
  denied : Nat := 0
deriving DecidableEq, Repr

/-- A commit that is not done (R587): its gates, epoch and T2 of the commit, ns. -/
structure GateCommit where
  gates : W32
  epoch : W32
  since : Nat
deriving DecidableEq, Repr

/-- A request of the control fabric (R591-R594): its initiator, its address, the beats of its grant (more than one: a locked
sequence). `passed` counts grants that passed it over. -/
structure FabReq where
  init : Nat
  addr : Nat
  beats : Nat := 1
  passed : Nat := 0
  promoted : Bool := false
deriving DecidableEq, Repr

/-- An error counter of a pseudo-channel. -/
structure Ecc where
  corrected : Nat := 0
  uncorrected : Nat := 0
  /-- Corrected errors in all, for "every 256th" (R578). -/
  total : Nat := 0
deriving DecidableEq, Repr

/-- Memory, gates and the fabric. -/
structure MemState where
  /-- The stack's bytes by physical byte index, in canonical form (addresses rising, no zero byte listed). -/
  hbm : List (Nat × Byte) := []
  windows : Tab MemWindow := []
  ports : Tab MemPort := []
  gates : Tab Gate := []
  commits : List GateCommit := []
  gtDone : W32 := 0
  rselShadow : Bool := false
  rselGate : Nat := 0
  rselRule : Nat := 0
  /-- MC_STAT.STATE: 0 untrained, 1 training, 2 ready, 3 self-refresh. -/
  mcState : Nat := 0
  hot : Bool := false
  unmapped : Bool := false
  temp : W32 := 0
  pageTmo : W32 := 0xC8
  scrub : W32 := 0x80000018
  ecc : Tab Ecc := []
  /-- The pseudo-channel of the next 1 ms window, and per pseudo-channel the slices done and slices failed in a row (R575). -/
  retrainNext : Nat := 0
  slices : Tab Nat := []
  retrainFails : Tab Nat := []
  /-- The bank each pseudo-channel refreshes next (R574). -/
  refreshNext : Tab Nat := []
  parked : List FabReq := []
  atPort : List FabReq := []
  owner : Option FabReq := none
deriving DecidableEq, Repr

/-! ### Power and modes -/

/-- Who made a power request (R622): a POWER_STATE command, a PWC_REQ write, a wake source, or bind-off. -/
inductive PowerOrigin where
  | cmd (port : Port) (ring : Nat) (seq : W32)
  | reg
  | wake
  | bindOff
deriving DecidableEq, Repr

/-- A power-state transition in progress (R621). -/
structure PowerTrans where
  source : PowerState
  target : PowerState
  /-- T2 of acceptance, ns. -/
  since : Nat
  origin : PowerOrigin
  /-- An entry (or an exit followed by an entry); false: an exit to Run. -/
  entry : Bool
  /-- PWC_WAKE_STAT bits of the wake that asked for it, 0 for none, and its T2 (ns). -/
  wakeBits : Nat := 0
  wakeAt : Nat := 0
deriving DecidableEq, Repr

/-- A request in the pending slot (R622). -/
structure PowerPend where
  target : PowerState
  origin : PowerOrigin
  wakeBits : Nat := 0
  since : Nat := 0
deriving DecidableEq, Repr

/-- A gauge (R607, R608). -/
structure Gauge where
  req : Nat := 0
  reading : Nat := 0
deriving DecidableEq, Repr

/-- Power, temperatures and the operating mode (chapter 15). -/
structure PowerUnit where
  mode : Mode := .castOn
  state : PowerState := .run
  trans : Option PowerTrans := none
  pend : Option PowerPend := none
  /-- The POWER_STATE event of an entry to Deep sleep, raised after the return to Run (R623). -/
  owed : Option (List W32) := none
  /-- T2 of the last entry to the power state, ns. -/
  stateSince : Nat := 0
  reqState : Nat := 0
  wakeHigh : Bool := true
  wakeEdge : Bool := false
  wakeTouch : Bool := false
  wakeStat : Nat := 0
  /-- The level last seen at the WAKE pin. -/
  wakeLevel : Bool := false
  domains : W32 := 0x7FFF
  /-- Domains switched on whose readiness is still to come (R616). -/
  rising : W32 := 0
  iso : W32 := 0
  lidTemp : W16 := 0
  junctionTemp : W16 := 0
  /-- Upward crossings in force: lid 95 °C, junction 105 °C, 115 °C (R614). -/
  hotLid : Bool := false
  hotJunction : Bool := false
  hot115 : Bool := false
  /-- T2 of the crossing of 115 °C, ns. -/
  hot115At : Nat := 0
  /-- The last Safe-hold cause (Table 15-12), and what R631 asks of causes 1 to 4: the T2 (ns) at which the junction last fell back; the
  stack's and the regulator's faults with the T2 at which each last ended; a missed firmware watchdog since cast-on. -/
  cause : Nat := 0
  hotGoneAt : Nat := 0
  memFault : Bool := false
  memGoneAt : Nat := 0
  vrFault : Bool := false
  vrGoneAt : Nat := 0
  fwMiss : Bool := false
  /-- The domains that Safe hold switched off (R631). -/
  shDomains : W32 := 0
  /-- GA_CTL.AUTO, GA_VSET and GA_VCORE (R634). -/
  auto : Bool := true
  vset : Nat := 0x2D0
  vcore : Nat := 0
  /-- The VOUT_COMMAND in force in Run, mV (log 42), the T2 (ns) of firmware's last look at the headroom, and whether it was below 1.0. -/
  vcmd : Nat := 720
  gaugeAt : Nat := 0
  gaugeLow : Bool := false
  gauges : Tab Gauge := []
  /-- T2 (ns) since which the headroom has stood above 1.10, and since which it has stood below 1.0 at 0.85 V. -/
  headHighAt : Option Nat := none
  headLowAt : Option Nat := none
  headLost : Bool := false
  /-- The last VOLTAGE step not yet reported, and the T2 second of the last report. -/
  voltStep : Option (List W32) := none
  voltSecond : Nat := 0
  /-- FAULT_N driven low (ID_FAULT). -/
  faultN : Bool := true
deriving DecidableEq, Repr

/-! ### Boot flash, cast-on and recovery -/

/-- A copy of the slot indicator (Table 16-2). -/
structure SlotInd where
  valid : Bool := false
  seq : W32 := 0
  fails : Nat := 0
  prevOk : Bool := false
  trial : Bool := false
  active : Nat := 0
deriving DecidableEq, Repr

/-- What the boot flash's firmware slot holds, as far as the manual lets it be seen: whether its header is readable, the
header's words, how it verifies (Table 16-7: 0 verifies, 1 header, 2 key digest, 3 key revoked, 4 signature or section CRC),
and the first word of its digest. -/
structure SlotImage where
  readable : Bool := false
  version : W32 := 0xFFFFFFFF
  build : W32 := 0xFFFFFFFF
  pairWord : W32 := 0
  key : Nat := 0
  verdict : Nat := 1
  digest : W32 := 0
deriving DecidableEq, Repr

/-- A download in Recovery (R653). -/
structure Recovery where
  /-- 0 idle, 1 receiving, 2 verifying, 3 writing. -/
  phase : Nat := 0
  /-- BEGIN's image length. -/
  length : Nat := 0
  buf : List Byte := []
  /-- ARG, LEN and CRC of the last accepted DATA. -/
  lastData : Option (Nat × Nat × Nat) := none
deriving DecidableEq, Repr

/-- A panel's touch reference in the boot flash (R490): the geometry it was saved for, its baselines by frequency in 1/256 count, and
whether its CRC verifies. -/
structure TouchRef where
  drv : Nat
  sns : Nat
  base : Tab (List Int)
  crcOk : Bool := true
deriving DecidableEq, Repr

/-- The boot flash and the start of the module. -/
structure Boot where
  ind0 : SlotInd := {}
  ind1 : SlotInd := {}
  slot0 : SlotImage := {}
  slot1 : SlotImage := {}
  identity : List Byte := []
  /-- Touch reference baselines of each panel (R490). -/
  touchRef : Tab TouchRef := []
  wdFlag : Bool := false
  /-- The boot watchdog runs since this T2 (ns). -/
  wdAt : Option Nat := none
  /-- Cast-on step reached (Table 16-4): 0 before RESET_N is released. -/
  step : Nat := 0
  running : Nat := 0
  startPath : Nat := 0
  failsAtStart : Nat := 0
  trialAtStart : Bool := false
  /-- FW_STATE events to raise at Ready, oldest first (R656). -/
  record : List (List W32) := []
  fwVersion : W32 := 0
  recov : Recovery := {}
  /-- First start after Recovery wrote an image (FW_IDENT start path 3). -/
  afterRecovery : Bool := false
  /-- CAST_ON was accepted at this T2 (ns): the restart is due (R629). -/
  restartAt : Option Nat := none
  /-- RESET_N level. -/
  resetN : Bool := false
  /-- T2 of the last RECOVERY status line, ns. -/
  lineAt : Nat := 0
deriving DecidableEq, Repr

/-! ### Lanes, AUX_IO pins and event timers (chapter 18) -/

/-- One serial lane (Table 17-5). Whether it is active, in electrical idle or not enabled follows from the function behind it; what
stands over that is kept here. -/
structure Lane where
  /-- 0 nothing; 2 deep, 3 recalibrating or calibrating, 4 loop, 5 removed (Table 18-3 codes). -/
  ovl : Nat := 0
  /-- The kind of the test loop, 0 none. -/
  loop : Nat := 0
  recals : Nat := 0
  errs : Nat := 0
  /-- Its calibration at cast-on succeeded (R700). -/
  cal : Bool := false
  /-- The cause of the state above (Table 18-7), and the T2 (ns) of its start. -/
  cause : Nat := 0
  since : Nat := 0
  /-- A recalibration of a sending V lane waits for the end of the frame (R706). -/
  wait : Bool := false
deriving DecidableEq, Repr

/-- The use of an event timer (Table 18): 0 time-base pulse, 1 touch frame sync, 2 lead indication, 3 Night pacing. -/
structure AuxClaim where
  pin : Nat
  timer : Nat
  use : Nat
  args : List W32 := []
  /-- Output, for Night pacing. -/
  output : Nat := 0
  /-- Time-base pulses: the next pulse in ns of its time base. -/
  nextNs : Nat := 0
  level : Bool := false
deriving DecidableEq, Repr

/-- Lanes and pins. -/
structure LaneUnit where
  lanes : Tab Lane := []
  claims : List AuxClaim := []
deriving DecidableEq, Repr

end Sys2Proof.Machine
end

