-- ==== Sys2Proof/Machine/StPair.lean ====
section
/-! DEFINITION. The state of two-ply operation (chapter 11). Plain data; a field's default is its reset value. -/

namespace Sys2Proof.Machine

/-- Why a Lead wants a handover (R459, R630, R632, Table 15-11). -/
inductive HandReason where
  | outputFault (output : Nat)
  | safeHold (cause : Nat)
  | bindOff
  | maintenance (init : Nat)
deriving DecidableEq, Repr

/-- A handover under way: the frame of the reference generator it happens before, its reason on the Lead (none on the Follow),
and the T0 (ns) of the request. -/
structure Handover where
  frame : Nat
  reason : Option HandReason
  requestedAt : Nat
deriving DecidableEq, Repr

/-- A takeover under way: its frame, the T0 (ns) at which LEAD_OUT rises, its cause (1 silence, 2 peer Safe hold or Bind-off)
and t_d (T0, ns). -/
structure Takeover where
  frame : Nat
  due : Nat
  cause : Nat
  detected : Nat
  /-- The T0 (ns) at which the other module was last known to drive its outputs (R28). -/
  old : Nat := 0
deriving DecidableEq, Repr

/-- A drill (R472): frame n, return time in s, swaps done, the T0 (ns) of the last swap. -/
structure Drill where
  frame : Nat
  ret : Nat
  swaps : Nat := 0
  swapAt : Nat := 0
  swapFrame : Nat := 0
  wasLead : Bool := true
  /-- Sink echo while it was the new Lead: outputs matched, outputs mismatched (R473). -/
  matched : List Nat := []
  mismatched : List Nat := []
deriving DecidableEq, Repr

/-- One side's digest record of an output frame (R452). -/
structure DigRec where
  output : Nat
  frame : W32
  digest : W32
  slipped : Nat
  rescan : Bool
  readback : Nat
deriving DecidableEq, Repr

/-- The divergences of one output in the current second (R454). -/
structure DivCount where
  second : Nat := 0
  frames : Nat := 0
  /-- The first divergent frame in the second, and its own and peer digests. -/
  first : W32 := 0
  own : W32 := 0
  peer : W32 := 0
deriving DecidableEq, Repr

/-- The pair and time sequencer's state. -/
structure PairUnit where
  enabled : Bool := false
  posB : Bool := false
  refGen : Nat := 0
  limitS : Nat := 120
  leadOut : Bool := false
  leadIn : Bool := false
  peerMode : Nat := 0
  peerLeadOut : Bool := false
  peerFit : Bool := false
  peerRequest : Nat := 0
  peerFrame : Nat := 0
  hbRx : W16 := 0
  hbTx : W16 := 0
  hbMiss : Nat := 0
  /-- T2 (ns) of the last good heartbeat received and of the last one sent. -/
  lastRx : Nat := 0
  lastTx : Nat := 0
  silent : Bool := false
  linkUp : Bool := false
  /-- P lanes in use, bits 0 to 3. -/
  lanes : W32 := 0
  /-- Successive failed replays of each lane (R439). -/
  replays : Tab Nat := []
  /-- T2 (ns) of a failed training that is to be retried. -/
  trainFailed : Option Nat := none
  /-- A link training is under way. -/
  training : Bool := false
  /-- Phase 2: the T2 (ns) since which T0 has been LOCKED with its offset within the limit at every measurement, and the count of
  entries to LOCKED then. -/
  timeOk : Option (Nat × Nat) := none
  peerPair : W32 := 0
  /-- T2 (ns) until which knit-up may start (R462). -/
  acceptUntil : Option Nat := none
  /-- Knit-up phase, 0 when none; T2 (ns) of PAIR_KNIT. -/
  phase : Nat := 0
  knitAt : Nat := 0
  /-- Frames of the reference generator that met R469 in a row. -/
  proofFrames : Nat := 0
  /-- Copies of each stream abandoned, and streams that wait for a random access point (R467). -/
  copyTries : Tab Nat := []
  copyDone : List Nat := []
  rapWait : List Nat := []
  /-- Channels left disabled by the snapshot (R464). -/
  disabledCh : Nat := 0
  want : Option HandReason := none
  hand : Option Handover := none
  take : Option Takeover := none
  drill : Option Drill := none
  /-- Own and peer digest records not compared yet (R453). -/
  ownRecs : List DigRec := []
  peerRecs : List DigRec := []
  /-- Outputs for which the peer has sent a digest record since the link came up. -/
  peerSeen : List Nat := []
  cmpMatch : Nat := 0
  cmpExcused : Nat := 0
  cmpDiverge : Nat := 0
  cmpLate : Nat := 0
  cmpNone : Nat := 0
  div : Tab DivCount := []
  /-- The latest cross-compare result of each output: 1 match, 2 excused, 3 divergence, 4 late, 5 not compared (Table 11-4). -/
  cmpLast : Tab Nat := []
  /-- A switch-over gap (R502): the T0 (ns) from which the module's frames are its own as Lead; the outputs that have sent such a frame
  whole with its read-back passed. -/
  gap : Option Nat := none
  gapDone : List Nat := []
  /-- The T0 (ns) at which the other module was last known to drive its outputs, and the measured gap of each output in ns (R28). -/
  gapOld : Nat := 0
  gaps : Tab Nat := []
  /-- The exchange of pair timing messages (R199, R210): T2 (ns) of the last measurement; the last message received, by identifier, with
  its own receive stamps; what the peer has said of an own message, by identifier, with the peer's receive stamps; the peer's transmit
  stamps of a message and its own receive stamps. -/
  tmAt : Nat := 0
  tmRx : Option (W16 × PairStamp) := none
  tmEcho : Option (W16 × PairStamp) := none
  tmBack : Option (PairStamp × PairStamp) := none
  peerDigest : Option W32 := none
  /-- T2 (ns) since which the configuration digests have differed; PAIR_CONFIG has been raised for it. -/
  cfgSince : Option Nat := none
  cfgRaised : Bool := false
deriving DecidableEq, Repr

end Sys2Proof.Machine
end

