-- ==== Sys2Proof/Machine/StStream.lean ====
section
/-! DEFINITION. The state of ingest, of the stream table, of the decode cluster and of freeze detection (chapters 02, 03, 04, 06
and 07). Plain data; a field's default is its reset value. -/

namespace Sys2Proof.Machine

/-! ### Network ports -/

/-- A network port. The counts of the current statistics interval are P1 to P7 of INGEST_STATS. -/
structure NetPort where
  en : Bool := false
  up : Bool := false
  phy : Nat := 0
  fec : Nat := 0
  /-- Unicast filter entries 0 to 3 and multicast filter entries 0 to 15: MAC addresses of the valid ones. -/
  unicast : Tab Nat := []
  multicast : Tab Nat := []
  /-- The counts 1 to 7 of INGEST_STATS in the running interval (R271), and PAUSE frames ignored (R228). -/
  stats : Tab Nat := []
  pauses : Nat := 0
  /-- The same counts since each was last read as NET_Pp_CNT1 to NET_Pp_CNT7 (R681). -/
  cnt : Tab Nat := []
deriving DecidableEq, Repr

/-- A control class (Tables 06-5, R254, R255): tokens are counted in packets × 10^9 at a moment of T2. -/
structure PktClass where
  fn : Nat := 0
  ring : Nat := 0
  rate : Nat := 0
  burst : Nat := 0
  tokens : Nat := 0
  at_ : Nat := 0
  /-- The moments of T2 (ns) of the discards of the last second, newest first, and the T2 second of the last PKTIN_LIMIT plus one. -/
  drops : List Nat := []
  lastSec : Nat := 0
deriving DecidableEq, Repr

/-- A flow-table entry: its 64 bytes and the packets discarded against it by the SSRC and payload-type checks (R235). -/
structure Flow where
  rcd : List Byte
  refused : Nat := 0
  fmtErr : Nat := 0
deriving DecidableEq, Repr

/-- A frame taken from a packet-out ring that waits for its port: port, ring (PF0's 0 and 1, PF1's 2 and 3), bytes, and the time
base and identifier of a requested timestamp (R197, R257). -/
structure TxFrame where
  port : Nat
  ring : Nat
  frame : List Byte
  ts : Option (Nat × W16) := none
deriving DecidableEq, Repr

/-- The ingest units outside the stream table. -/
structure NetUnit where
  ports : Tab NetPort := []
  /-- Lane pairs in 100 Gb/s mode. -/
  mode100 : Tab Bool := []
  flows : Tab Flow := []
  classes : Tab PktClass := []
  statsMs : Nat := 1000
  /-- T2 (ns) of the last statistics interval's end. -/
  statsAt : Tab Nat := []
  /-- Frames waiting for their port, oldest first. -/
  tx : List TxFrame := []
deriving DecidableEq, Repr

/-! ### Baseband inputs -/

/-- A baseband input. -/
structure BbIn where
  en : Bool := false
  /-- The loaded images; none while Maelziten's default stands (R262). -/
  cap : Option (List Byte) := none
  edid : Option (List Byte) := none
  trained : Bool := false
  lanes : Nat := 0
  rate : Nat := 0
  d3 : Bool := false
  ihpd : Bool := false
  /-- The responder's own link and power registers that a source has written, by DPCD address. -/
  dpcd : Tab Byte := []
  /-- I2C-over-AUX: EDID offset and segment. -/
  i2cOfs : Nat := 0
  i2cSeg : Nat := 0
  /-- The arrival (T0 ns) of the previous frame since the link trained. -/
  prevArrival : Option Nat := none
  unsupported : Bool := false
  /-- The last frame was interlaced (R152). -/
  interlaced : Bool := false
deriving DecidableEq, Repr

/-- The baseband units: the split of each quad (Table 06-6 order; 3 at cast-on) and the inputs. -/
structure BbUnit where
  splits : Tab Nat := []
  ins : Tab BbIn := []
deriving DecidableEq, Repr

/-! ### Source frames and units under reception -/

/-- A source frame record (R99, R140): its number, its surface slot, its origin and arrival in ns of T0, its size and stored
format, its line period (32.32 ns), whether it is complete, its frame-level flags, the ledger generation that tagged it, its
stitch CRCs in raster order, its tainted stitches (R304: none of an uncompressed source, log 62), and its signalled colour. -/
structure SrcFrame where
  num : Nat
  slot : Nat
  origin : Nat
  arrival : Nat
  w : Nat
  h : Nat
  fmt : Nat
  tsrc : Nat := 0
  complete : Bool := true
  flags : Nat := 0
  gen : Nat := 0
  crcs : List W32 := []
  tainted : Nat := 0
  colour : Nat := 0
  full : Bool := false
  narrowRgb : Bool := false
  /-- The picture carries film grain (R278). -/
  grain : Bool := false
deriving DecidableEq, Repr

/-- One packet held for a unit under reception: extended sequence number, path, bytes. -/
structure Held where
  seq : Nat
  path : Nat
  bytes : List Byte := []
  bad : Bool := false
deriving DecidableEq, Repr

/-- A frame or access unit open for reception (R242, R246). -/
structure OpenUnit where
  ts : W32
  num : Nat
  /-- T2 (ns) of its opening; of its marker packet; of the first packet of a later unit. -/
  openedAt : Nat
  markerAt : Option Nat := none
  laterAt : Option Nat := none
  /-- Its first packet's T0 stamp and origin, in ns, and whether the origin came from arrival. -/
  arrival : Nat
  origin : Nat
  arrTimed : Bool
  /-- Its packets in sequence order, and the marker's number. -/
  held : List Held := []
  marker : Option Nat := none
  /-- The stream record in force at its opening (R238), and the origin of the frame of the flow before it (R154). -/
  rcd : List Byte := []
  before : Option Nat := none
  /-- The ports that delivered its packets (R232). -/
  ports : List Nat := []
  /-- Numbers that each path delivered (R249). -/
  seqA : List Nat := []
  seqB : List Nat := []
  rap : Bool := false
  /-- Surface slot; none when no surface was free: the frame is discarded (R247). -/
  slot : Option Nat := none
  dropped : Bool := false
  /-- Received samples, by plane × 2^32 + raster index. -/
  samples : Tab Nat := []
deriving DecidableEq, Repr

/-- A bitstream block (R64): its bytes and its tag. -/
structure Block where
  bytes : List Byte
  tag : W64
deriving DecidableEq, Repr

/-- A closed access unit in the bitstream buffer. -/
structure AccUnit where
  num : Nat
  arrival : Nat
  origin : Nat
  arrTimed : Bool
  degraded : Bool
  incomplete : Bool
  rap : Bool
  blocks : List Block := []
  /-- T2 (ns) of its close, and of the moment from which it waits for a surface. -/
  closedAt : Nat
  waitAt : Option Nat := none
  stalled : Bool := false
  /-- An engine has started it. -/
  started : Bool := false
deriving DecidableEq, Repr

/-- A reference slot of AV1 (R301): the decode number of the picture it holds, that picture's frame identifier, and whether it counts as
missing. -/
structure RefSlot where
  pic : Nat
  id : Option Nat := none
  lost : Bool := false
deriving DecidableEq, Repr

/-- What the statistics record of a picture takes from its decoding (Table 07-8): kind, engine, bits, duration in µs, rows. -/
structure PicStat where
  kind : Nat := 0
  engine : Nat := 0
  bits : Nat := 0
  micros : Nat := 0
  rows : List RowStat := []
deriving DecidableEq, Repr

/-- A custody failure found in the decoding of a picture: stage, engine, kind, stitch, due or origin tick, flags (R85, R86). -/
structure PicFault where
  stage : Nat
  engine : Nat
  kind : Nat
  sx : Nat := 0
  sy : Nat := 0
  due : Nat := 0
  flags : Nat := 0
deriving DecidableEq, Repr

/-- A decoded picture that the stream still holds (R300): decode number, slot, size, format, stitch CRCs, tainted and
custody-failed stitches, colour, statistics, and the origin facts of its access unit. -/
structure DecPic where
  num : Nat
  slot : Nat
  w : Nat
  h : Nat
  fmt : Nat
  crcs : List W32
  taint : List (Nat × Nat) := []
  failed : List (Nat × Nat) := []
  colour : Nat := 0
  full : Bool := false
  stat : PicStat := {}
  origin : Nat := 0
  arrival : Nat := 0
  arrTimed : Bool := false
  degraded : Bool := false
  /-- Its picture order count in its sequence, and whether it waits for output (R297). -/
  order : Int := 0
  waiting : Bool := false
  grain : Bool := false
  /-- The custody failures found in its decoding, reported as it leaves for output. -/
  faults : List PicFault := []
deriving DecidableEq, Repr

/-- An anchor (R204): RTP value, time in ns of T0, T2 (ns) of its acceptance. -/
structure Anchor where
  rtp : W32
  ns : Nat
  at_ : Nat
deriving DecidableEq, Repr

/-- One path of a merged stream (R249): up, and the T2 (ns) of its last packet. -/
structure Path where
  up : Bool := false
  at_ : Nat := 0
deriving DecidableEq, Repr

/-- A stream table entry (R279). -/
structure StreamE where
  /-- State code of Table 07-4. -/
  st : Nat := 0
  opener : Port := .pf0
  rcd : List Byte := []
  /-- A record waiting for the next frame or access-unit boundary (R238). -/
  next : Option (List Byte) := none
  /-- The engines that a pinned or privileged stream is bound to (R284, R285). -/
  home : List Nat := []
  /-- The engines that a STREAM_MODIFY binds it to from the next boundary (R296, R313). -/
  nextHome : Option (List Nat) := none
  /-- Admission order (R310). -/
  order : Nat := 0
  merged : Bool := false
  pathA : Path := {}
  pathB : Path := {}
  anchor : Option Anchor := none
  anchorNext : Option Anchor := none
  /-- Running in ARRIVAL mode for want of an anchor (R206); none before the first access unit. -/
  arrMode : Option Bool := none
  frames : List SrcFrame := []
  nextFrame : Nat := 0
  nextUnit : Nat := 0
  /-- Extended sequence number last seen. -/
  lastSeq : Option Nat := none
  opens : List OpenUnit := []
  /-- The units closed, without their content: late copies and what each path delivered are told by them (R242, R248, R249). -/
  closed : List OpenUnit := []
  aus : List AccUnit := []
  pics : List DecPic := []
  nextPic : Nat := 0
  /-- No access unit has been taken since STREAM_OPEN: the start policy decides (R305). -/
  starting : Bool := true
  /-- Discard access units up to the next random access point (FAULT, context failure). -/
  wantRap : Bool := false
  /-- The last access unit decoded; H.264's frame number of the last reference picture; AV1's reference slots (R301). -/
  lastAu : Option Nat := none
  refNum : Nat := 0
  slots : Tab RefSlot := []
  /-- Pictures have been decoded since decoding last started; the RASL pictures of its first random access point are kept back (R304). -/
  begun : Bool := false
  raslSkip : Bool := false
  /-- The size of the last picture (R307). -/
  lastSize : Option (Nat × Nat) := none
  /-- The engine that holds the stream's decoder context; none while it stands in HBM3 (R286, R309). -/
  ctxAt : Option Nat := none
  /-- T2 (ns) since which the latest picture has been tainted, and of the next REFRESH_WANTED. -/
  taintAt : Option Nat := none
  refreshAt : Nat := 0
  /-- Metering second of T2, pixels and bits in it, and whether the stream is demoted for its rest (R294). -/
  meterSec : Nat := 0
  meterPix : Nat := 0
  meterBits : Nat := 0
  demoted : Bool := false
  /-- Statistics records written, and the byte offset after the last (R308). -/
  statsCount : Nat := 0
  statsOff : Nat := 64
  /-- Exact repeat: repeats in a row, and the test's state (R146). -/
  repeats : Nat := 0
  repeatFrozen : Bool := false
  suspect : Bool := false
  /-- Selvedge tally: enabled for the previous frame, reference count, FROZEN state, state code of Table 04-3, failures. -/
  tallyOn : Bool := false
  tallyRef : Option Nat := none
  tallyFrozen : Bool := false
  tallyState : Nat := 0
  tallyFails : Nat := 0
  prevOrigin : Option Nat := none
  /-- T2 (ns) of STREAM_CLOSE. -/
  closedAt : Nat := 0
  /-- The live-source limit has been reported for this WAITING entry (R281). -/
  limitTold : Bool := false
deriving DecidableEq, Repr

/-! ### Engines, watch windows and custody runs -/

/-- A frame on an engine. -/
structure Job where
  stream : Nat
  au : Nat
  startedAt : Nat
  /-- A pooled frame on a reserved engine (R288). -/
  borrowed : Bool := false
  /-- The engines that decode it together, lowest first. -/
  gang : List Nat := []
  /-- Its context was loaded from HBM3 at its start (R286). -/
  loaded : Bool := false
deriving DecidableEq, Repr

/-- A decode engine. -/
structure Engine where
  /-- 0 in service, 1 retiring, 2 retired, 3 testing, 4 self-test failed (CORE_STATE). -/
  st : Nat := 0
  cause : Nat := 0
  job : Option Job := none
  /-- Pre-empted frames whose context stays on the engine, newest first (R289). -/
  held : List Job := []
  /-- T2 seconds of watchdogs within the last 60 s. -/
  wdogs : List Nat := []
  /-- Consecutive frames with residue, parity or duplicate failures (R87). -/
  badRun : Nat := 0
deriving DecidableEq, Repr

/-- What WATCH_SET sets of a window (R141, R737). -/
structure WatchCfg where
  en : Bool := false
  stream : Nat := 0
  x : Nat := 0
  y : Nat := 0
  w : Nat := 0
  h : Nat := 0
  period : Nat := 0
  pixThr : Nat := 16
  cntThr : Nat := 8
deriving DecidableEq, Repr

/-- A watch window (R141 to R143, R737). -/
structure Watch extends WatchCfg where
  /-- A setting that waits for a source frame: the number of the first frame it holds for, and whether it restarts the window. -/
  next : Option (Nat × Bool × WatchCfg) := none
  /-- The size of the part that the reference copy holds; none after a restart. Its samples stand in HBM3 (R142). -/
  ref : Option (Nat × Nat) := none
  /-- Origin (ns) of the frame of the last change. -/
  changed : Nat := 0
  frozen : Bool := false
deriving DecidableEq, Repr

/-- A run of frames with failures of one stage instance on one surface (R88). -/
structure CustRun where
  stage : Nat
  inst : Nat
  surf : Nat
  frame : Nat
  count : Nat := 1
  told : Bool := false
deriving DecidableEq, Repr

/-- Streams and the decode cluster. -/
structure StreamUnit where
  ents : Tab StreamE := []
  engines : Tab Engine := []
  watches : Tab Watch := []
  runs : List CustRun := []
  /-- Custody retries by stage (R71). -/
  retries : Tab Nat := []
  /-- Upsets in store for the ingest units, met by the next close of a unit of reception (log 6). -/
  upsets : List StageFault := []
  nextOrder : Nat := 0
  /-- Streams shed, last one first (R311). -/
  shed : List Nat := []
deriving DecidableEq, Repr

end Sys2Proof.Machine
end

