-- ==== Sys2Proof/Machine/StComp.lean ====
section
/-! DEFINITION. The state of the Region Ledger and of Intarsia composition (chapters 03 and 08). Plain data; a field's default is
its reset value. -/

namespace Sys2Proof.Machine

/-- A committed ledger generation (R326 to R330): its identifier, its effective origin in ns, the whole ledger under it, whether
it has been copied into the live ledger, the sources that still owe LEDGER_APPLIED, and for each source the frames with origin at
or after E that an older generation tagged. -/
structure Gen where
  id : W32
  e : Nat
  table : Tab (List W32)
  copied : Bool := false
  waiting : List Nat := []
  late : Tab Nat := []
deriving DecidableEq, Repr

/-- The Region Ledger: generation 0 is the empty ledger of cast-on; later ones follow in commit order. -/
structure Ledger where
  staging : Tab (List W32) := []
  staged : List Nat := []
  gens : List Gen := []
deriving DecidableEq, Repr

/-- A layout bank (R359): layer records by slot, coefficient banks that have been loaded, background, parameters of
Table 03-3. -/
structure Bank where
  layers : Tab (List W32) := []
  /-- Coefficient banks: 64 phases of 8 horizontal taps, then 64 of 6 vertical ones; an unlisted bank is the linear filter. -/
  coefs : Tab (List Int) := []
  bg : W32 := 0
  bgAlpha : Nat := 3
  allow : Nat := 2
  lead : Nat := 240
  purl : Bool := false
  lifeMs : Nat := 1000
  colA : W32 := 0x30380800
  colB : W32 := 0x08020080
deriving DecidableEq, Repr

/-- A layer's choice of source frames in a canvas frame: its slot, its stream, the frame (for a chase canvas, the frame of each
row chosen so far), and whether an older frame took the place of the wanted one, with their origins. -/
structure LayerSel where
  slot : Nat
  stream : Nat
  frame : Option Nat
  wanted : Option Nat := none
  gap : Nat := 0
deriving DecidableEq, Repr

/-- A custody failure found while composing: its stage, whether the surface is a still, the surface, its check kind, the stitch,
its due tick and flags. -/
structure CompFail where
  stage : Nat
  still : Bool
  surf : Nat
  kind : Nat
  sx : Nat
  sy : Nat
  due : Nat := 0
  flags : Nat := 0
deriving DecidableEq, Repr

/-- A canvas frame being composed (R337): its number, its buffer, the full tick of its cut, its selections, the layers that
underran with their first row and the time waited, whether its composition finishes in time, and the rows written. -/
structure Compose where
  frame : Nat
  buf : Nat
  cut : Nat
  cutFull : Nat
  sels : List LayerSel := []
  under : Tab (Nat × Nat) := []
  finish : Bool := true
  /-- The treatment of the bank that it is composed under (R133, R151, R362). -/
  purl : Bool := false
  lifeMs : Nat := 1000
  colA : W32 := 0
  colB : W32 := 0
  /-- Rows written; chase: the selections of each, and rows that missed their deadline with the first one's lateness in ns. -/
  rows : List Nat := []
  rowSels : Tab (List LayerSel) := []
  missed : List Nat := []
  lateNs : Nat := 0
  /-- By how many ns the work that does not finish is late, by row of a chase canvas, at 0 for a frame. -/
  lates : Tab Nat := []
  /-- Failures found so far, and the sources fetched from (whether a still, and its number). -/
  fails : List CompFail := []
  fetched : List (Bool × Nat) := []
deriving DecidableEq, Repr

/-- A canvas frame completely written: its number, buffer and cut, how many layers fell back or underran, and the treatment
parameters of its bank. -/
structure CanFrame where
  frame : Nat
  buf : Nat
  cutFull : Nat
  late : Nat := 0
  under : Nat := 0
  missed : List Nat := []
  purl : Bool := false
  lifeMs : Nat := 1000
  colA : W32 := 0
  colB : W32 := 0
deriving DecidableEq, Repr

/-- A row of a chase canvas as written in time: its frame, its buffer, the full tick of its cut (R115). -/
structure ChaseRow where
  frame : Nat
  buf : Nat
  cutFull : Nat
deriving DecidableEq, Repr

/-- A canvas (Table 08-1). -/
structure Canvas where
  set : Bool := false
  w : Nat := 0
  h : Nat := 0
  premul : Bool := false
  chase : Bool := false
  buf0 : Nat := 0
  buf1 : Nat := 0
  life : Nat := 0
  fetch : Nat := 200
  gen : Nat := 0
  active : Bank := {}
  pend : Bank := {}
  /-- The pending bank is closed since its commit took effect and until D(N) (R362). -/
  closed : Bool := false
  job : Option Compose := none
  /-- Chase: the frame before the one being composed, while its last rows may still miss their deadlines (R115). -/
  tail : Option Compose := none
  /-- Chase: what each row was written with, newest first. -/
  rowLog : Tab (List ChaseRow) := []
  /-- The number of the last frame cut, in the present numbering. -/
  taken : Option Nat := none
  /-- The newest completely written frame, and the one being scanned. -/
  last : Option CanFrame := none
  /-- The frame abandoned at its deadline, whose output frame rescans (R110). -/
  rescan : Option Nat := none
  /-- Layers that fell back in that frame (R138). -/
  rescanLate : Nat := 0
  /-- IC_CANc registers (Table 17-12): last frame written completely, commit identifier of the active bank, underrun frames and
  slipped stitches since the last read. -/
  frameReg : W32 := 0
  commitId : W32 := 0
  underReg : Nat := 0
  slipReg : Nat := 0
  /-- Valid lifelines, by stitch index: the display tick they were taken at (R132 to R134). -/
  lives : Tab Nat := []
deriving DecidableEq, Repr

/-- A scheduled layout commit (R360 to R363): its canvases, frame, identifier and generator; once its banks are in effect, the
canvases whose first frame has not been shown yet. -/
structure Commit where
  mask : W64
  frame : Nat
  id : W32
  gen : Nat
  applied : Bool := false
  /-- Canvases whose new banks are in effect, those whose first frame has been shown, and the first frame shown last. -/
  done : List Nat := []
  shown : List Nat := []
  first : Nat := 0
deriving DecidableEq, Repr

/-- A still surface (R335). -/
structure Still where
  w : Nat
  h : Nat
deriving DecidableEq, Repr

/-- Composition. -/
structure CompUnit where
  ledger : Ledger := {}
  canvases : Tab Canvas := []
  commits : List Commit := []
  stills : Tab Still := []
  /-- Transfer tables that have been loaded; an unlisted table is the identity map (R353). -/
  xfers : Tab (List Nat) := []
deriving DecidableEq, Repr

end Sys2Proof.Machine
end

