-- ==== Sys2Proof/Machine/StScan.lean ====
section
/-! DEFINITION. The state of scan-out and the display links (chapters 03 and 09). Plain data; a field's default is its reset
value. -/

namespace Sys2Proof.Machine

/-- One egress stitch of a frame as judged: its egress CRC, its kind (0 live, 1 test overlay, 2 stale), the report precedence it is
counted under (0 when not stale), the union of its parts' flags, the earliest live due tick among them, and whether it carries
UNVERIFIED or stands under a hold (R501). -/
structure EgStitch where
  crc : W32 := 0
  kind : Nat := 0
  reason : Nat := 0
  flags : Nat := 0
  due : Option Nat := none
  unver : Bool := false
deriving DecidableEq, Repr

/-- One egress row of a frame: its stitches, its display time, whether it is sent, and its read-back: 0 not compared yet, 1 passed,
2 failed. -/
structure EgRow where
  stitches : List EgStitch := []
  at_ : Nat := 0
  sent : Bool := false
  rb : Nat := 0
deriving DecidableEq, Repr

/-- What an output shows in a frame. -/
inductive Picture where
  | canvas | safeHold | noSource | swatch | dark
deriving DecidableEq, Repr

/-- One output. -/
structure Output where
  /-- The record that OUTPUT_SET last accepted, 16 words; empty until the first one (the defaults of R374 hold). -/
  rcd : List W32 := []
  en : Bool := false
  /-- The viewport's origin once an OUTPUT_VIEW has moved it (R376). -/
  pos : Option (Nat × Nat) := none
  /-- The last link state reported, codes of OUTPUT_LINK; whether the link is trained; the level of VHPD; a training under way; the
  T2 (ns) of a failed one; whether a training has succeeded since the enable (R379). -/
  link : Nat := 6
  up : Bool := false
  vhpd : Bool := false
  training : Bool := false
  trainFailed : Option Nat := none
  ever : Bool := false
  /-- The features in use (R398): Adaptive-Sync, Panel Replay, sink echo available. -/
  async : Bool := false
  pr : Bool := false
  echo : Bool := false
  /-- The T0 (ns) of the enable, that at which link training first completed, and frame 0 (R382). -/
  enAt : Nat := 0
  trainedAt : Option Nat := none
  frame0 : Option Nat := none
  /-- A frame that is not sent, because a T0 step has shortened the blanking before it (R215). -/
  skip : Option Nat := none
  /-- Generators have been renumbered since it began (R216). -/
  again : Bool := false
  /-- The T0 steps, in ns, absorbed in the blanking of the frame in progress (R215). -/
  absorbed : Int := 0
  /-- The frame in progress: its number, its picture, the canvas frame it shows, whether it rescans. -/
  cur : Option Nat := none
  pic : Picture := .canvas
  shot : Option CanFrame := none
  rescan : Bool := false
  /-- Layers that fell back in the abandoned frame that it rescans for (R138). -/
  fell : Nat := 0
  /-- Its rows judged so far; whether it may be sent at all, and must be sent whole or not at all (R396). -/
  rows : Tab EgRow := []
  maySend : Bool := false
  sendAll : Bool := false
  /-- Read-back was unavailable in it: 2 link, 3 lane (R433); it stood under a hold or met a mismatch (R391). -/
  unav : Nat := 0
  bad : Bool := false
  rbFailed : Nat := 0
  /-- Canvas stitches with some part judged in it: whether every part was live (R133). -/
  cellLive : Tab Bool := []
  fails : List CompFail := []
  testAcc : Nat := 0
  kaDone : Bool := false
  audited : Bool := true
  /-- The rows of the frame judged before (R125, R135). -/
  prev : Tab EgRow := []
  /-- The last frame judged and its READBACK code; the last frame sent; the next frame sent goes whole (R458, R706). -/
  last : W32 := 0
  lastRb : Nat := 0
  lastSent : Option Nat := none
  whole : Bool := false
  /-- Consecutive stale frames by egress stitch (row × 256 + column), and the stitches in a reported ladder (R136). -/
  stale : Tab Nat := []
  ladders : List Nat := []
  /-- Stitches failing read-back since SO_OUTo_RBFAIL was read. -/
  rbFail : Nat := 0
  /-- The OUTPUT_FAULT hold (R391); a clear has been accepted; the policy OFF holds (R392). -/
  hold : Bool := false
  clearing : Bool := false
  offTx : Bool := false
  /-- SWATCH_SET: 0 canvas, 1 swatch, 2 dark; the pattern. -/
  source : Nat := 0
  pattern : Nat := 0
  /-- A pending OUTPUT_VIEW: frame, VIEW_X, VIEW_Y. -/
  view : Option (Nat × Nat × Nat) := none
  /-- Whole purl frames audited in Bind-off (R632). -/
  purlFrames : Nat := 0
  /-- Test CRCs of the last 16 whole frames sent, newest first; the sink's count at the last poll; the last poll's mismatch; its
  T2 (ns). -/
  testCrcs : List Nat := []
  echoCount : Option Nat := none
  echoBad : Bool := false
  echoAt : Nat := 0
deriving DecidableEq, Repr

/-- Scan-out. -/
structure ScanUnit where
  outs : Tab Output := []
  /-- The device's test colour (Table 03-1). -/
  testColour : Nat := 0xC0F03
deriving DecidableEq, Repr

end Sys2Proof.Machine
end

