-- ==== Sys2Proof/Machine/StEnc.lean ====
section
/-! DEFINITION. The state of the encoder and of the audit ring (chapter 10). Plain data; a field's default is its reset value. -/

namespace Sys2Proof.Machine

/-- A recorded frame under way (R414 to R426): its number, its source frame and display time, its kind, whether ENC_KEYFRAME asked for
a key frame, whether it repeats an older canvas frame, its input digest, its stale and test input stitches, the cause mask of each
unrecorded encoded stitch row, the stale input stitches of each encoded row, the planes of the converted picture (the coder's
input), and the T0_STATE taken at its input deadline, which ends its input. -/
structure RecFrame where
  num : Nat
  n : Nat
  at_ : Nat
  full : Bool
  key : Bool := false
  again : Bool := false
  digest : W32 := 0
  stale : Nat := 0
  test : Nat := 0
  unrec : Tab Nat := []
  rowStale : List Nat := []
  luma : List Nat := []
  cb : List Nat := []
  cr : List Nat := []
  t0 : Option Nat := none
deriving DecidableEq, Repr

/-- The unrecorded rows of a channel in the current second of T2 (R436). -/
structure UnrecSum where
  second : Nat := 0
  mask : Nat := 0
  frames : Nat := 0
  rows : Nat := 0
deriving DecidableEq, Repr

/-- An encode channel. -/
structure EncChan where
  /-- The record that ENC_SET last accepted, 16 words; empty until the first one. -/
  rcd : List W32 := []
  en : Bool := false
  /-- 0 disabled, 1 full encode, 2 statistics-only; and the kind to take at the next recorded frame, with its cause. -/
  kind : Nat := 0
  next : Option (Nat × Nat) := none
  /-- The loaded coefficient bank; none while the linear filter of R349 stands. -/
  coefs : Option (List Int) := none
  /-- ENC_KEYFRAME asks for a key frame at the next recorded frame; one is owed to the next coded picture (the first one, R425 and
  R427), with the decoder buffer full (R421). -/
  keyAsk : Bool := false
  keyDue : Bool := false
  refill : Bool := false
  sinceKey : Nat := 0
  /-- The next recorded frame's number, and the last source frame taken. -/
  num : Nat := 0
  lastN : Option Nat := none
  /-- Frames whose input is read and whose record is not written yet, oldest first. -/
  frames : List RecFrame := []
  fill : Nat := 0
  /-- The luma of the previous recorded frame (R430). -/
  prevLuma : List Nat := []
  /-- The output buffer: records written, PROD and CONS of Table 17-11, records not written since the last one. -/
  count : Nat := 0
  prod : Nat := 64
  cons : Nat := 64
  lost : Nat := 0
  sum : UnrecSum := {}
deriving DecidableEq, Repr

/-- The encoder and the audit ring. -/
structure EncUnit where
  chans : Tab EncChan := []
  /-- Entries lost before the next one (R434), lost since the last AUDIT_GAP, and the T2 second of that event plus one. -/
  auditLost : Nat := 0
  gapLost : Nat := 0
  gapSecond : Nat := 0
deriving DecidableEq, Repr

end Sys2Proof.Machine
end

