-- ==== Sys2Proof/Machine/StTouch.lean ====
section
/-! DEFINITION. The state of the touch engines (chapter 12). Plain data; a field's default is its reset value. -/

namespace Sys2Proof.Machine

/-- A contact (R494 to R497): its identifier, peak node, position, peak delta and area, the t_s of its first scan (ns), the state last
reported for it (none before the first report), and the nodes that belong to it. -/
structure Contact where
  id : Nat
  d : Nat
  s : Nat
  u : Nat
  v : Nat
  peak : Nat
  area : Nat
  since : Nat
  last : Option Nat := none
  long : Bool := false
  present : Bool := false
  nodes : List Nat := []
deriving DecidableEq, Repr

/-- What a panel does in a scan: a start scan, a full scan or a refresh scan at a frequency (R488, R489), a ganged scan (R498). -/
inductive ScanKind where
  | start (freq : Nat)
  | full (freq : Nat)
  | refresh (freq : Nat)
  | ganged
deriving DecidableEq, Repr

/-- A scan under way (R482): its number, whether it is timed on T0, its sample time in ns, what its two panels do, and their noise at
each frequency. -/
structure TouchScan where
  k : Nat
  onT0 : Bool
  at_ : Nat
  p0 : Option ScanKind := none
  p1 : Option ScanKind := none
  noise0 : List Nat := []
  noise1 : List Nat := []
deriving DecidableEq, Repr

/-- A touch engine: the scan under way, and the base and number of the last one. -/
structure TouchEngine where
  cur : Option TouchScan := none
  lastK : Option (Bool × Nat) := none
deriving DecidableEq, Repr

/-- A panel. Its baselines are in 1/256 count, by frequency, nodes in order of drive × SNS_COUNT + sense. -/
structure TouchPanel where
  /-- The record that TOUCH_PANEL_SET last accepted, 16 words; empty until the first one. -/
  rcd : List W32 := []
  /-- 0 disabled, 1 baselining, 2 running, 3 ganged scan, 4 self-test. -/
  st : Nat := 0
  freq : Nat := 0
  refOk : Bool := false
  base : Tab (List Int) := []
  /-- Start scans taken, and the sums of their raw counts by frequency (R489). -/
  scans : Nat := 0
  sums : Tab (List Int) := []
  /-- Nodes that took the reference as touched and as higher, at any frequency (Table 12-4); the first full scan is still to come. -/
  present : List Nat := []
  higher : List Nat := []
  first : Bool := false
  /-- Scans since the baselining, and refresh scans among them (R488). -/
  fulls : Nat := 0
  refreshes : Nat := 0
  /-- The t_s (ns) since which a node's delta has been below −0.5 × T (R491). -/
  low : Tab Nat := []
  /-- Scans in a row with excess noise, and the frequency to move to with the scan that starts it (R487). -/
  noisy : Nat := 0
  hop : Option (Nat × Nat) := none
  contacts : List Contact := []
  /-- The t_s (ns) of the last scan with a contact, or of the start of full scanning. -/
  idleAt : Nat := 0
  /-- Ganged scans taken, the sums then means of their band counts, and ganged scans in a row that reached APPROACH. -/
  gangs : Nat := 0
  bands : List Int := []
  near : Nat := 0
  /-- Electrodes that a self-test has found faulty (R506). -/
  badDrv : List Nat := []
  badSns : List Nat := []
  /-- TCH_Pp_SCAN, TCH_Pp_NOISE and TCH_Pp_LOST (Table 17-8). -/
  scanNo : W32 := 0
  noise : W32 := 0
  lost : Nat := 0
deriving DecidableEq, Repr

/-- The touch engines: engines, panels, the descriptors lost before the next one on each function's touch ring (R504), and the
reference that TOUCH_REF_SAVE is writing. -/
structure TouchUnit where
  engines : Tab TouchEngine := []
  panels : Tab TouchPanel := []
  lost0 : Nat := 0
  lost1 : Nat := 0
  saving : Option (Nat × TouchRef) := none
deriving DecidableEq, Repr

end Sys2Proof.Machine
end

