-- ==== Sys2Proof/Machine/StCopy.lean ====
section
/-! DEFINITION. What the Corler link carries in bulk during knit-up, as a command's operand: the Lead's configuration (R464), a stream's
state (R466), the lifelines and the encoder's state (R468). -/

namespace Sys2Proof.Machine

/-- The snapshot of phase 3: what the configuration digest covers, and the pending banks, scheduled commits, staged and pending ledger
commits, coefficient banks, transfer tables and still surfaces (with their bytes, by still) beside it (R455, R464). -/
structure PairCopy where
  ledger : Ledger := {}
  /-- Stream records by entry; flow records by entry. -/
  streams : Tab (List Byte) := []
  flows : Tab (List Byte) := []
  canvases : Tab Canvas := []
  commits : List Commit := []
  xfers : Tab (List Nat) := []
  /-- Output records; encode records. -/
  outs : Tab (List W32) := []
  encs : Tab (List W32) := []
  gens : Tab FrameLock := []
  stills : Tab Still := []
  stillBytes : Tab (List Byte) := []
deriving DecidableEq, Repr

/-- What phase 4 copies beside the streams: each canvas's valid lifelines and its lifeline buffer's bytes, and the state of each
encode channel (R468). -/
structure StateCopy where
  lives : Tab (Tab Nat) := []
  lifeBytes : Tab (List Byte) := []
  encs : Tab EncChan := []
deriving DecidableEq, Repr

/-- The end of a knit-up phase as the rejoining module finds it: in phase 3 the snapshot, copied and verified; in phase 4 the state
copied, and whether every stream that waits for no random access point has been caught up. -/
structure KnitEnd where
  snap : Option PairCopy := none
  state : Option StateCopy := none
  caughtUp : Bool := true
deriving DecidableEq, Repr

/-- A stream's copy at a frame boundary (R466, R467): abandoned, because it would make the Lead wait for a surface; whether the decoder
context and what else is no stitch verified on both modules, and the stitches on the other module; upsets of the mover's own reads, by
slot, a watch window's reference copy under 256 plus its number; and on the rejoining module the entry, its watch windows, the bytes of
its surfaces by slot and of the windows' reference copies by window. -/
structure StreamCopy where
  wouldWait : Bool := false
  verified : Bool := true
  faults : List StageFault := []
  entry : Option StreamE := none
  watches : Tab Watch := []
  surfaces : List (Nat × List Byte) := []
  refs : List (Nat × List Byte) := []
deriving DecidableEq, Repr

end Sys2Proof.Machine
end

