-- ==== Sys2Proof/Syntax.lean ====
section
/-! DEFINITION. The commands and events of the block: one constructor of `Instr` for each row of spec/opcode_table.json, with the operands
that the row's rules name (their types: Machine/Operands.lean, Machine/StCopy.lean). -/

namespace Sys2Proof

/-- The commands and events of the block, one constructor for each row of spec/opcode_table.json. -/
inductive Instr where
  /-- NOP (R540). -/
  | nop (c : Cmd)
  /-- DEVICE_STATUS (R543). -/
  | deviceStatus (c : Cmd)
  /-- EVENT_MASK_SET (R550). -/
  | eventMaskSet (c : Cmd)
  /-- PF1_LIMITS_SET (R538). -/
  | pf1LimitsSet (c : Cmd)
  /-- MODE_SET (R629). -/
  | modeSet (c : Cmd)
  /-- POWER_STATE (R619). -/
  | powerState (c : Cmd)
  /-- DOMAIN_SET (R615). -/
  | domainSet (c : Cmd)
  /-- SELFTEST (R540). -/
  | selftest (c : Cmd)
  /-- LANE_LOOP (R701). -/
  | laneLoop (c : Cmd)
  /-- LANE_RECAL (R705). -/
  | laneRecal (c : Cmd)
  /-- AUXIO_CLAIM (R709). -/
  | auxioClaim (c : Cmd)
  /-- AUXIO_RELEASE (R710). -/
  | auxioRelease (c : Cmd)
  /-- NET_PORT_SET (R227). -/
  | netPortSet (c : Cmd)
  /-- NET_FILTER_SET (R230). -/
  | netFilterSet (c : Cmd)
  /-- FLOW_SET (R235). -/
  | flowSet (c : Cmd)
  /-- FLOW_CLEAR (R236). -/
  | flowClear (c : Cmd)
  /-- PKTIN_CLASS_SET (R254). -/
  | pktinClassSet (c : Cmd)
  /-- BB_QUAD_SET (R259). -/
  | bbQuadSet (c : Cmd)
  /-- BB_DPCD_LOAD (R261). -/
  | bbDpcdLoad (c : Cmd)
  /-- BB_ENABLE (R264). -/
  | bbEnable (c : Cmd)
  /-- BB_DISABLE (R264). -/
  | bbDisable (c : Cmd)
  /-- STREAM_OPEN (R280). -/
  | streamOpen (c : Cmd)
  /-- STREAM_MODIFY (R542). -/
  | streamModify (c : Cmd)
  /-- STREAM_CLOSE (R280). -/
  | streamClose (c : Cmd)
  /-- STREAM_ANCHOR (R204). -/
  | streamAnchor (c : Cmd)
  /-- WATCH_SET (R737). -/
  | watchSet (c : Cmd)
  /-- CORE_RETIRE (R309). -/
  | coreRetire (c : Cmd)
  /-- CORE_RETURN (R312). -/
  | coreReturn (c : Cmd)
  /-- STREAM_STATUS (R540). -/
  | streamStatus (c : Cmd)
  /-- LEDGER_WRITE (R326). -/
  | ledgerWrite (c : Cmd)
  /-- LEDGER_COMMIT (R330). -/
  | ledgerCommit (c : Cmd)
  /-- CANVAS_SET (R320). -/
  | canvasSet (c : Cmd)
  /-- LAYER_SET (R331). -/
  | layerSet (c : Cmd)
  /-- BANK_PARAM_SET (R151). -/
  | bankParamSet (c : Cmd)
  /-- COEF_LOAD (R348). -/
  | coefLoad (c : Cmd)
  /-- XFER_LOAD (R353). -/
  | xferLoad (c : Cmd)
  /-- STILL_LOAD (R335). -/
  | stillLoad (c : Cmd)
  /-- LAYOUT_COMMIT (R360). -/
  | layoutCommit (c : Cmd)
  /-- LAYOUT_CANCEL (R361). -/
  | layoutCancel (c : Cmd)
  /-- OUTPUT_SET (R375). -/
  | outputSet (c : Cmd)
  /-- OUTPUT_ENABLE (R382). -/
  | outputEnable (c : Cmd)
  /-- OUTPUT_DISABLE (R376). -/
  | outputDisable (c : Cmd)
  /-- OUTPUT_VIEW (R376). -/
  | outputView (c : Cmd)
  /-- OUTPUT_FAULT_CLEAR (R391). -/
  | outputFaultClear (c : Cmd)
  /-- OUTPUT_AUX (R380). -/
  | outputAux (c : Cmd)
  /-- NIGHT_PACE_SET (R405). -/
  | nightPaceSet (c : Cmd)
  /-- SWATCH_SET (R388). -/
  | swatchSet (c : Cmd)
  /-- OUTPUT_STATUS (R540). -/
  | outputStatus (c : Cmd)
  /-- ENC_SET (R412). -/
  | encSet (c : Cmd)
  /-- ENC_ENABLE (R429). -/
  | encEnable (c : Cmd)
  /-- ENC_DISABLE (R429). -/
  | encDisable (c : Cmd)
  /-- ENC_COEF_LOAD (R417). -/
  | encCoefLoad (c : Cmd)
  /-- ENC_KEYFRAME (R412). -/
  | encKeyframe (c : Cmd)
  /-- PAIR_SET (R446). -/
  | pairSet (c : Cmd)
  /-- PAIR_ACCEPT (R462). -/
  | pairAccept (c : Cmd)
  /-- PAIR_KNIT (R463). -/
  | pairKnit (c : Cmd)
  /-- PAIR_DRILL (R472). -/
  | pairDrill (c : Cmd)
  /-- PAIR_LEAVE (R447). -/
  | pairLeave (c : Cmd)
  /-- PAIR_STATUS (R476). -/
  | pairStatus (c : Cmd)
  /-- TOUCH_PANEL_SET (R481). -/
  | touchPanelSet (c : Cmd)
  /-- TOUCH_ENABLE (R489). -/
  | touchEnable (c : Cmd)
  /-- TOUCH_DISABLE (R481). -/
  | touchDisable (c : Cmd)
  /-- TOUCH_REF_SAVE (R493). -/
  | touchRefSave (c : Cmd)
  /-- TOUCH_SELFTEST (R505). -/
  | touchSelftest (c : Cmd)
  /-- TOUCH_STATUS (R508). -/
  | touchStatus (c : Cmd)
  /-- GATE_STAGE (R585). -/
  | gateStage (c : Cmd)
  /-- GATE_COMMIT (R586). -/
  | gateCommit (c : Cmd)
  /-- FW_STAGE (R651). -/
  | fwStage (c : Cmd)
  /-- CAST_ON (R629). -/
  | castOn (c : Cmd)
  /-- FW_IDENT (R655). -/
  | fwIdent (c : Cmd)
  /-- UNKNOWN_OPCODE (R540). -/
  | unknownOpcode (opcode : Nat) (c : Cmd)
  /-- COMMAND_TAKE (R532). -/
  | commandTake (d : Option Descriptor)
  /-- DOORBELL_WRITE (R525). -/
  | doorbellWrite (fn ring : Nat) (v : W32)
  /-- RING_ENABLE (R523). -/
  | ringEnable (fn ring : Nat) (a : RegW)
  /-- RING_DISABLE (R523). -/
  | ringDisable (fn ring : Nat) (a : RegW)
  /-- IRQ_MODERATION_TIMEOUT (R528). -/
  | irqModerationTimeout (fn ring : Nat)
  /-- PACKET_OUT_TAKE (R544). -/
  | packetOutTake (fn ring : Nat) (d : Option PacketOut)
  /-- FRAME_TRANSMIT (R257). -/
  | frameTransmit (port : Nat) (stamp : StampNs)
  /-- TXQ_ID_READ (R198). -/
  | txqIdRead (q : Nat) (a : RegR)
  /-- FUNCTION_LEVEL_RESET (R513). -/
  | functionLevelReset (fn : Nat)
  /-- D3HOT_ENTRY (R513). -/
  | d3hotEntry (fn : Nat)
  /-- HOST_LINK_LOSS (R513). -/
  | hostLinkLoss
  /-- MAINT_UDP_COMMAND (R556). -/
  | maintUdpCommand (addr : W32) (port : W16) (payload : List Byte) (c : CmdIn)
  /-- MAINT_UART_LINE (R558). -/
  | maintUartLine (line : List Byte) (c : CmdIn)
  /-- REGISTER_WRITE (R662). -/
  | registerWrite (off : Nat) (a : RegW)
  /-- NOT_PERMITTED_WINDOW_CLOSE (R554). -/
  | notPermittedWindowClose (key : WindowKey)
  /-- REGISTER_READ_CLEAR (R669). -/
  | registerReadClear (off : Nat) (a : RegR)
  /-- REGISTER_READ_LO_LATCH (R667). -/
  | registerReadLoLatch (off : Nat) (a : RegR)
  /-- TB_SNAP (R177). -/
  | tbSnap (a : RegW)
  /-- TB_INC_COMMIT (R176). -/
  | tbIncCommit (n : Nat) (a : RegW)
  /-- TB_STEP_COMMIT (R180). -/
  | tbStepCommit (n : Nat) (a : RegW)
  /-- TB_LOAD (R179). -/
  | tbLoad (n : Nat) (a : RegW)
  /-- TB_STEP_OVR (R182). -/
  | tbStepOvr (n : Nat) (a : RegW)
  /-- DECLARE_LOCK (R186). -/
  | declareLock (a : RegW)
  /-- DECLARE_HOLD (R186). -/
  | declareHold (a : RegW)
  /-- DECLARE_UNLOCK (R186). -/
  | declareUnlock (a : RegW)
  /-- TB0_ERR_EST_WRITE (R188). -/
  | tb0ErrEstWrite (a : RegW)
  /-- FL_CTL_WRITE (R219). -/
  | flCtlWrite (g : Nat) (a : RegW)
  /-- FL_PARAM_WRITE (R219). -/
  | flParamWrite (g : Nat) (p : FlParam) (a : RegW)
  /-- PWC_REQ_GO (R636). -/
  | pwcReqGo (a : RegW)
  /-- GA_CTL_WRITE (R613). -/
  | gaCtlWrite (a : RegW)
  /-- GA_VSET_WRITE (R613). -/
  | gaVsetWrite (a : RegW)
  /-- MC_WIN_ENABLE (R564). -/
  | mcWinEnable (n : Nat) (a : RegW)
  /-- MC_PORT_RATE_WRITE (R572). -/
  | mcPortRateWrite (p : Nat) (a : RegW)
  /-- CVU_INIT (R688). -/
  | cvuInit (u : Nat) (a : RegW)
  /-- CVU_POLY_WRITE (R688). -/
  | cvuPolyWrite (u : Nat) (a : RegW)
  /-- CVU_ALIVE_ENABLE (R688). -/
  | cvuAliveEnable (u : Nat) (a : RegW)
  /-- CVU_FEED (R689). -/
  | cvuFeed (u : Nat) (size : FeedSize) (a : RegW)
  /-- CVU_ALIVE_WRITE (R691). -/
  | cvuAliveWrite (u : Nat) (a : RegW)
  /-- CVU_ALIVE_TIMEOUT (R692). -/
  | cvuAliveTimeout (u : Nat)
  /-- VC_ENC_CONS_WRITE (R683). -/
  | vcEncConsWrite (ch : Nat) (a : RegW)
  /-- TIME_BASE_TICK (R174). -/
  | timeBaseTick
  /-- OVERRIDE_LAPSE (R182). -/
  | overrideLapse (n : Nat)
  /-- SERVO_TIMEOUT (R187). -/
  | servoTimeout
  /-- HOLDOVER_LIMIT_EXCEEDED (R189). -/
  | holdoverLimitExceeded
  /-- PPS_IN_EDGE (R200). -/
  | ppsInEdge
  /-- PAIR_OFFSET_MEASURE (R210). -/
  | pairOffsetMeasure (stamp : StampNs)
  /-- ANCHOR_EXPIRY (R206). -/
  | anchorExpiry (stream : Nat)
  /-- ETH_FRAME_RECEIVE (R60). -/
  | ethFrameReceive (port : Nat) (f : EthFrame)
  /-- NET_LINK_CHANGE (R232). -/
  | netLinkChange (port : Nat) (up : Bool)
  /-- ACCESS_UNIT_HOLD_TIMEOUT (R242). -/
  | accessUnitHoldTimeout (stream : Nat)
  /-- RECEPTION_WINDOW_TIMEOUT (R246). -/
  | receptionWindowTimeout (stream : Nat)
  /-- PATH_LOSS_TIMEOUT (R249). -/
  | pathLossTimeout (stream path : Nat)
  /-- INGEST_STATS_INTERVAL (R271). -/
  | ingestStatsInterval (port : Nat)
  /-- BB_AUX_TRANSACTION (R263). -/
  | bbAuxTransaction (input : Nat) (t : AuxTrans)
  /-- BB_LINK_TRAINED (R281). -/
  | bbLinkTrained (input : Nat) (lanes rate : Nat)
  /-- BB_LINK_LOSS (R264). -/
  | bbLinkLoss (loss : BbLoss)
  /-- BB_FRAME_ARRIVAL (R266). -/
  | bbFrameArrival (input : Nat) (f : BbFrame)
  /-- DECODE_DISPATCH (R288). -/
  | decodeDispatch (engine : Nat)
  /-- BLOCK_ROW_BOUNDARY (R289). -/
  | blockRowBoundary (engine : Nat)
  /-- DECODE_PICTURE_DONE (R293). -/
  | decodePictureDone (engine : Nat) (p : DecPicture)
  /-- ENGINE_WATCHDOG (R307). -/
  | engineWatchdog (trip : WatchdogTrip)
  /-- DECODE_STALL (R300). -/
  | decodeStall (stream : Nat)
  /-- OVERRATE_METER (R294). -/
  | overrateMeter
  /-- REFRESH_WANTED (R306). -/
  | refreshWanted (stream : Nat)
  /-- CORE_SELFTEST_DONE (R312). -/
  | coreSelftestDone (engine : Nat) (pass : Bool)
  /-- STREAM_CLOSING_RELEASE (R280). -/
  | streamClosingRelease (stream : Nat)
  /-- LEDGER_GENERATION_COPY (R327). -/
  | ledgerGenerationCopy
  /-- CANVAS_CUT (R337). -/
  | canvasCut (canvas : Nat) (env : CutEnv)
  /-- COMPOSE_DEADLINE (R110). -/
  | composeDeadline (canvas : Nat)
  /-- CHASE_ROW_DEADLINE (R115). -/
  | chaseRowDeadline (canvas row : Nat)
  /-- LAYER_UNDERRUN (R366). -/
  | layerUnderrun (canvas slot row waited : Nat)
  /-- FRAME_DISPLAY_START (R211). -/
  | frameDisplayStart (gen : Nat)
  /-- SCAN_ROW_FETCH (R383). -/
  | scanRowFetch (output row : Nat) (env : ScanEnv)
  /-- READBACK_COMPARE (R389). -/
  | readbackCompare (output row : Nat) (seen : List (Nat × List (List Nat)))
  /-- READBACK_LOCK_LOSS (R390). -/
  | readbackLockLoss (output : Nat)
  /-- KEEPALIVE_SET (R399). -/
  | keepaliveSet (output : Nat)
  /-- AUDIT_ENTRY_WRITE (R431). -/
  | auditEntryWrite (output : Nat)
  /-- VHPD_HIGH (R379). -/
  | vhpdHigh (output : Nat)
  /-- VHPD_IRQ_PULSE (R379). -/
  | vhpdIrqPulse (output : Nat) (ok : Bool)
  /-- VHPD_LOW (R379). -/
  | vhpdLow (output : Nat)
  /-- LINK_TRAINING_RETRY (R379). -/
  | linkTrainingRetry (output : Nat)
  /-- SINK_ECHO_POLL (R402). -/
  | sinkEchoPoll (output : Nat) (r : Option EchoRead)
  /-- ENC_FRAME_START (R414). -/
  | encFrameStart (ch : Nat) (env : EncEnv)
  /-- ENC_INPUT_DEADLINE (R425). -/
  | encInputDeadline (ch : Nat) (rows : List Nat)
  /-- ENC_RECORD_WRITE (R427). -/
  | encRecordWrite (ch : Nat) (r : EncCoded)
  /-- ENC_UNRECORDED (R436). -/
  | encUnrecorded (ch : Nat)
  /-- HEARTBEAT_SEND (R449). -/
  | heartbeatSend
  /-- HEARTBEAT_RECEIVE (R449). -/
  | heartbeatReceive (lane : Nat) (h : Heartbeat)
  /-- HEARTBEAT_SILENCE (R450). -/
  | heartbeatSilence
  /-- HEARTBEAT_TX_WATCHDOG (R444). -/
  | heartbeatTxWatchdog
  /-- LEAD_IN_YIELD (R444). -/
  | leadInYield
  /-- PAIR_PIN (R445). -/
  | pairPin
  /-- TAKEOVER (R457). -/
  | takeover
  /-- CORLER_FRAME_RECEIVE (R439). -/
  | corlerFrameReceive (lane : Nat) (f : CorlerFrame)
  /-- CORLER_LINK_TRAINING (R441). -/
  | corlerLinkTraining (r : CorlerTraining)
  /-- DIGEST_RECORD_RECEIVE (R453). -/
  | digestRecordReceive (r : PeerDigest)
  /-- DIGEST_RECORD_LATE (R453). -/
  | digestRecordLate (output : Nat)
  /-- PAIR_CONFIG (R455). -/
  | pairConfig
  /-- HANDOVER_REQUEST (R459). -/
  | handoverRequest
  /-- HANDOVER_SWITCH (R459). -/
  | handoverSwitch
  /-- HANDOVER_TIMEOUT (R459). -/
  | handoverTimeout
  /-- LEAVE_MESSAGE_RECEIVE (R447). -/
  | leaveMessageReceive
  /-- KNIT_PHASE_END (R463). -/
  | knitPhaseEnd (k : Machine.KnitEnd)
  /-- KNIT_STREAM_COPY (R466). -/
  | knitStreamCopy (stream : Nat) (k : Machine.StreamCopy)
  /-- KNIT_TIMEOUT (R470). -/
  | knitTimeout
  /-- PAIR_ACCEPT_EXPIRY (R462). -/
  | pairAcceptExpiry
  /-- DRILL_SWAP (R472). -/
  | drillSwap
  /-- DRILL_RETURN (R472). -/
  | drillReturn
  /-- DRILL_RESULT (R473); the event brings no data. -/
  | drillResult (nothing : Unit)
  /-- TOUCH_SCAN_START (R482). -/
  | touchScanStart (engine : Nat) (env : ListenEnv)
  /-- TOUCH_SCAN_COMPLETE (R504). -/
  | touchScanComplete (engine : Nat) (env : ScanCounts)
  /-- TOUCH_BASELINE_DONE (R489). -/
  | touchBaselineDone (panel : Nat)
  /-- GANGED_SCAN_ENTRY (R498). -/
  | gangedScanEntry (panel : Nat)
  /-- TOUCH_SELFTEST_DONE (R506). -/
  | touchSelftestDone (panel : Nat) (r : TouchTest)
  /-- POWER_TRANSITION_END (R623). -/
  | powerTransitionEnd (env : ExitEnv)
  /-- WAKE_PIN (R626). -/
  | wakePin (level : Bool)
  /-- HOST_ACCESS_WAKE (R624). -/
  | hostAccessWake
  /-- DOMAIN_READY (R616). -/
  | domainReady (domain : Nat)
  /-- GAUGE_CONTROL_PERIOD (R609). -/
  | gaugeControlPeriod (env : GaugeEnv)
  /-- HEADROOM_LOST (R611). -/
  | headroomLost
  /-- VR_ALERT (R612). -/
  | vrAlert (active : Bool)
  /-- THERMAL_CROSSING (R614). -/
  | thermalCrossing (lid junction : W16)
  /-- JUNCTION_OVERHEAT (R614). -/
  | junctionOverheat
  /-- THERMAL_TRIP (R614). -/
  | thermalTrip (junction : W16)
  /-- FIRMWARE_WATCHDOG_MISS (R630). -/
  | firmwareWatchdogMiss (processor : Nat)
  /-- BIND_OFF_END (R632). -/
  | bindOffEnd
  /-- BANK_REFRESH (R574). -/
  | bankRefresh (pc : Nat)
  /-- STACK_TEMP_CROSSING (R574). -/
  | stackTempCrossing (temp : W16)
  /-- RETRAIN_WINDOW (R575). -/
  | retrainWindow (marginLow : Bool)
  /-- SCRUB_READ (R576). -/
  | scrubRead (unit : Nat) (r : ScrubResult)
  /-- MEMORY_REQUEST (R581). -/
  | memoryRequest (r : MemReq)
  /-- GATE_COMMIT_DONE (R587). -/
  | gateCommitDone
  /-- FABRIC_GRANT (R594). -/
  | fabricGrant (arrivals : List FabArrival)
  /-- RESET_N_RELEASE (R648). -/
  | resetNRelease (env : BootEnv)
  /-- RESET_N_ASSERT (R719). -/
  | resetNAssert
  /-- BOOT_WATCHDOG_EXPIRY (R646). -/
  | bootWatchdogExpiry (env : BootEnv)
  /-- READY_REACHED (R647). -/
  | readyReached (env : ReadyEnv)
  /-- RECOVERY_BEGIN (R653). -/
  | recoveryBegin (q : RecovReq)
  /-- RECOVERY_DATA (R653). -/
  | recoveryData (q : RecovReq)
  /-- RECOVERY_END (R653). -/
  | recoveryEnd (q : RecovReq) (f : FwFile) (flashOk : Bool)
  /-- RECOVERY_STATUS (R653). -/
  | recoveryStatus (q : RecovReq)
  /-- RECOVERY_CARD (R653). -/
  | recoveryCard (q : RecovReq) (f : Option FwFile) (flashOk : Bool)
  /-- RECOVERY_IDENTITY (R653). -/
  | recoveryIdentity (q : RecovReq)
  /-- RECOVERY_UART_LOAD (R654). -/
  | recoveryUartLoad (line : List Byte) (f : Option FwFile) (flashOk : Bool)
  /-- RECOVERY_STATUS_LINE (R654). -/
  | recoveryStatusLine
  /-- AUXIO_PULSE (R709). -/
  | auxioPulse (timer : Nat)
  /-- LANE_RECAL_END (R705). -/
  | laneRecalEnd (lane : Nat) (ok : Bool)
  /-- LANE_LOOP_END (R703). -/
  | laneLoopEnd (r : LoopResult)
  /-- SELFTEST_END (R540). -/
  | selftestEnd (failed : W32)
  /-- FW_STAGE_END (R651). -/
  | fwStageEnd (flashOk : Bool)
  /-- LOAD_COPY_END (R535). -/
  | loadCopyEnd (data : Option (List Byte))
  /-- TOUCH_REF_SAVE_END (R493). -/
  | touchRefSaveEnd (flashOk : Bool)
  /-- OUTPUT_LINK_TRAINING_END (R379). -/
  | outputLinkTrainingEnd (output : Nat) (t : LinkTraining)
  /-- LANE_CALIBRATION_END (R700). -/
  | laneCalibrationEnd (failed : List Nat)
  /-- CORLER_TRAINING_RETRY (R441). -/
  | corlerTrainingRetry
  /-- CAST_ON_RESTART (R629). -/
  | castOnRestart (env : BootEnv)
  /-- MAINT_FRAME_RECEIVE (R556). -/
  | maintFrameReceive (f : MaintFrame)
deriving DecidableEq, Repr

end Sys2Proof
end

