-- ==== Sys2Proof/Config.lean ====
section
/-! DEFINITION. What an implementation fixes and the manual does not state: every constant here is opaque, so a claim about the
model holds whatever its value is. -/

namespace Sys2Proof

/-- UNVERIFIED (log 3): where firmware places slot `k` of the frame ring (or decoded-surface pool) of a stream, in units of
4 KiB of device address. The manual places the surface by no rule; the bound keeps a whole surface inside the 24 GB stack. -/
opaque Config.streamSurface : Nat → Nat → Fin 6160000

/-- UNVERIFIED (log 3): where firmware places a still surface, in units of 4 KiB of device address. -/
opaque Config.stillSurface : Nat → Fin 6160000

/-- Byte `i` of Maelziten's default capability image for an input of the given lane count (R262 says what it advertises, not
its bytes). A free value. -/
opaque Config.defaultCapability : Nat → Nat → Byte

/-- Byte `i` of Maelziten's default EDID for an input of the given lane count (R262). A free value. -/
opaque Config.defaultEdid : Nat → Nat → Byte

/-- The fused device serial number less one, modulo 2^64 - 1: R736 says only that the serial is non-zero and unique. A free value. -/
opaque Config.serialPred : Nat

/-- The fused ROM version of a module of stepping 0x01: 1.0.0 (R736). -/
def Config.romVersion : W32 := 0x01000000

/-- The fused key word of a module of stepping 0x01: key digests fused for key indices 0 and 1, none revoked (R736). -/
def Config.keyFuse : W32 := 0x30

/-- The diagnostic code that an INTERNAL event carries (Table 13-18): Maelziten's own, a free value. -/
opaque Config.diagnosticCode : Nat → W32

/-- A value that the manual leaves open, one for each count of such values taken so far (`State.free`). -/
opaque Config.freeValue : Nat → W32

/-- Byte `i` of the `n`th payload whose value the manual leaves open: what a stage works on in place of a stitch that failed
verification (R70, R82). A free value. -/
opaque Config.freeByte : Nat → Nat → Byte

/-- The headers that RFC 2435 implies for a JPEG frame of a type, Q, width and height in blocks and restart interval, with the in-band
quantisation tables (R241; the bytes are that RFC's). A free value. -/
opaque Config.jpegHeader : List Nat → List Byte → List Byte

/-- AV1's film grain on a sample (R278; the algorithm is that standard's): of a seed, its parameters, a plane, a raster index. A free
value. -/
opaque Config.filmGrain : Nat → List Nat → Nat → Nat → Nat → Nat

/-- The fixed receive latency of a baseband input in ns of T0 (R267). A free value. -/
opaque Config.bbLatency : Nat

/-- UNVERIFIED (log 3): where firmware places the reference copy of a watch window, in units of 4 KiB of device address. -/
opaque Config.watchSurface : Nat → Fin 6160000

/-- The fixed order in which firmware lays out the image of the configuration digest from its six parts (R455): Maelziten's own, a
free value. -/
opaque Config.digestImage : List (List Byte) → List Byte

/-- One line of link components taken into a frame's DisplayPort test CRCs (R402; the algorithm is DisplayPort's own): the next
accumulator, R or Cr in bits 47 to 32, G or Y in 31 to 16, B or Cb in 15 to 0. A free value. -/
opaque Config.testCrc : Nat → List Nat → Nat

end Sys2Proof
end

