-- ==== Sys2Proof/Machine/State.lean ====
section
/-! DEFINITION. The state of the block, its reset value, and the reasons a command can stop. -/

namespace Sys2Proof.Machine

/-- What the block sends to the outside: the model's record of its outputs, newest last (log 5). -/
inductive Outgoing where
  /-- A descriptor written to a ring of a function: function, ring, entry index, host address, its 16 words (R527). -/
  | desc (fn ring : Nat) (index : W32) (addr : Nat) (words : List W32)
  /-- An MSI-X message: function, vector, address and data (R528). -/
  | msix (fn vector : Nat) (addr : Nat) (data : W32)
  /-- A write of host memory. -/
  | hostWrite (addr : Nat) (bytes : List Byte)
  /-- A maintenance-port datagram: destination address and port, source port, payload (R556, R652). -/
  | udp (addr : W32) (dstPort : W16) (srcPort : Nat) (payload : List Byte)
  /-- An ARP or ICMP echo answer of the maintenance port (R556). -/
  | arpReply (addr : W32)
  | icmpReply (addr : W32) (payload : List Byte)
  /-- A UART line without its CR LF (R558, R654). -/
  | uart (line : List Byte)
  /-- The word answered to a register read. -/
  | readData (init off : Nat) (path : RegPath) (val : W32)
  /-- A frame sent on a network port, FCS appended (R257). -/
  | ethSend (port : Nat) (frame : List Byte)
  /-- A pulse on an AUX_IO pin: pin, edge time in ns of the named time base, width in ns (R709). -/
  | pulse (pin : Nat) (base : Nat) (at_ : Nat) (width : Nat)
  /-- The answer of a memory request: initiator, error completion, read data (R581). -/
  | memReply (init : Nat) (error : Bool) (data : List Byte)
  /-- A keep-alive packet of an output: its bytes PB0 to PB27 (R400). -/
  | keepAlive (output : Nat) (bytes : List Byte)
  /-- A message on the Corler link: class (Table 11-1) and its words. -/
  | corler (cls : Nat) (words : List W32)
  /-- A PMBus VOUT_COMMAND, in mV (R612). -/
  | pmbus (millivolt : Nat)
  /-- The reply of an input to an AUX transaction, and its IRQ_HPD pulse of 750 µs (R263, R264). -/
  | auxReply (input : Nat) (data : List Byte)
  | ihpdPulse (input : Nat)
deriving DecidableEq, Repr

/-- The whole block. A field's default is its reset value. -/
structure State where
  /-- The commands that are waiting, first in first out. -/
  pending : List Instr := []
  /-- What has been sent, newest last. -/
  outbox : List Outgoing := []
  /-- How many open values have been taken: the argument of the next free value (the model's own field). -/
  free : Nat := 0
  hif : HostIf := {}
  tb : TimeUnit := {}
  mem : MemState := {}
  pwr : PowerUnit := {}
  boot : Boot := {}
  lane : LaneUnit := {}
  pair : PairUnit := {}
  scan : ScanUnit := {}
  net : NetUnit := {}
  bb : BbUnit := {}
  str : StreamUnit := {}
  comp : CompUnit := {}
  enc : EncUnit := {}
  touch : TouchUnit := {}
deriving DecidableEq, Repr

/-- The block right after reset (cast-on not yet begun, RESET_N low). -/
def State.reset : State := {}

/-- The reasons the block stops. No command raises one: every error of the manual is a completion status, an event, or an
answer of the off-block responder, and the block goes on. Safe, since it never stands for an effect. -/
inductive Fault where
  /-- Raised by no command: the manual gives the block no stop. Safe. -/
  | halted
deriving DecidableEq, Repr

/-- The reasons a command has no meaning. -/
inductive Refusal where
  /-- Raised by an arm of `exec` whose command is not modelled yet; its mnemonic. Safe: no effect is claimed. -/
  | notModelled (mnemonic : String)
deriving DecidableEq, Repr

/-- The outcome of a command. -/
abbrev Res := Host.Outcome State Fault Refusal

end Sys2Proof.Machine
end

