-- ==== Sys2Proof/Machine/Ops.lean ====
section
/-! DEFINITION. The operations that every family shares: time and modes, rings and their signals, events and merging windows,
taking a command and completing it (chapter 13). A block takes no exception: raising an event is its counterpart. -/

namespace Sys2Proof.Machine

/-! ### Time and modes -/

/-- A time base's value in whole nanoseconds. -/
def tbNs (t : TimeBase) : Nat := t.sec.toNat * 1000000000 + t.ns.toNat

/-- T0 in ns. -/
def t0Ns (s : State) : Nat := tbNs s.tb.t0

/-- T2 in ns: the base of every duration for which the manual names no other (log 7). -/
def t2Ns (s : State) : Nat := tbNs s.tb.t2

/-- The number of an operating mode (Table 15-10). -/
def modeNum : Mode → Nat
  | .castOn => 1 | .recovery => 2 | .ready => 3 | .solo => 4 | .lead => 5 | .follow => 6 | .knitUp => 7 | .drill => 8
  | .night => 9 | .maintenance => 10 | .safeHold => 11 | .bindOff => 12

/-- The code of a power state (POWER_STATE). -/
def powerNum : PowerState → Nat
  | .run => 0 | .idle => 1 | .sleep => 2 | .deepSleep => 3 | .off => 4

/-- The code of a T0 state (Table 05-2). -/
def t0Num : T0State → Nat
  | .unset => 0 | .locked => 1 | .holdover => 2 | .unlocked => 3

/-- The initiator of a port (Table 14-6). -/
def portInit : Port → Nat
  | .pf0 => 0 | .pf1 => 1 | .maint => 2

/-- A time base by number. -/
def tbGet (u : TimeUnit) (n : Nat) : TimeBase :=
  match n with
  | 0 => u.t0 | 1 => u.t1 | 2 => u.t2 | _ => u.t3

/-- A time base replaced by number. -/
def tbSet (u : TimeUnit) (n : Nat) (t : TimeBase) : TimeUnit :=
  match n with
  | 0 => { u with t0 := t } | 1 => { u with t1 := t } | 2 => { u with t2 := t } | _ => { u with t3 := t }

/-- The block with one more thing sent. -/
def send (o : Outgoing) (s : State) : State := { s with outbox := s.outbox ++ [o] }

/-- The free value due next, and the block with its counter advanced. -/
def takeFree (s : State) : W32 × State := (Config.freeValue s.free, { s with free := s.free + 1 })

/-! ### Rings -/

/-- The host interface of a function. -/
def fnGet (s : State) (fn : Nat) : Fn := if fn = 0 then s.hif.fn0 else s.hif.fn1

/-- The block with a function's host interface replaced. -/
def fnSet (s : State) (fn : Nat) (f : Fn) : State :=
  if fn = 0 then { s with hif := { s.hif with fn0 := f } } else { s with hif := { s.hif with fn1 := f } }

/-- Ring `r` of function `fn`. -/
def ringGet (s : State) (fn r : Nat) : Ring := tget {} (fnGet s fn).rings r

/-- The block with ring `r` of function `fn` replaced. -/
def ringSet (s : State) (fn r : Nat) (x : Ring) : State :=
  fnSet s fn { fnGet s fn with rings := tset r x (fnGet s fn).rings }

/-- The host produces the ring's descriptors (Table 13-3). -/
def hostProduced (r : Nat) : Bool := r < 4 || r == 10 || r == 11

/-- The DT-48 produces the ring's descriptors; ring 14 exists on PF0 only (Table 13-3). -/
def deviceProduced (fn r : Nat) : Bool :=
  (4 ≤ r && r ≤ 9) || r == 12 || r == 13 || (r == 14 && fn == 0)

/-- The entries of a ring that are written and not consumed. -/
def ringUsed (x : Ring) : Nat := idxDiff x.prod x.cons

/-- The size of a ring (R518). -/
def ringSize (x : Ring) : Nat := 2 ^ x.log2

/-- The phase bit of entry `i` (R526). -/
def phaseBit (x : Ring) (i : W32) : Nat := (i.toNat / ringSize x + 1) % 2

/-- The host address of slot `i mod 2^LOG2` (R518, R525). -/
def slotAddr (x : Ring) (i : W32) : Nat := w64of x.baseLo x.baseHi + 64 * (i.toNat % ringSize x)

/-- A device-produced ring can take `n` more entries (R526). -/
def ringRoom (x : Ring) (n : Nat) : Bool := x.en && !x.stopped && ringUsed x + n ≤ ringSize x

/-- Signal a vector of a function (R528): a masked vector becomes pending. -/
def signalVector (fn v : Nat) (s : State) : State :=
  let f := fnGet s fn
  let m := tget {} f.msix v
  if m.masked then fnSet s fn { f with pba := f.pba ||| (BitVec.ofNat 64 (2 ^ v)) }
  else send (.msix fn v (w64of m.addrLo m.addrHi) m.data) s

/-- One descriptor, with its phase bit, written at the ring's producer index, and the signal that is due (R526 to R528).
`now` is true for an event of severity 3. -/
def ringPut (fn r : Nat) (ws : List W32) (now : Bool) (s : State) : State :=
  let x := ringGet s fn r
  let words := padW 16 ((wd ws 0 ||| w32 (phaseBit x x.prod)) :: ws.drop 1)
  let s1 := send (.desc fn r x.prod (slotAddr x x.prod) words) s
  let first := if x.unsignalled = 0 then t2Ns s else x.firstAt
  let due := x.irqEn && (now || Nat.max 1 x.modCount ≤ x.unsignalled + 1)
  let x' := { x with prod := x.prod + 1, unsignalled := if due then 0 else x.unsignalled + 1, firstAt := first }
  let s2 := ringSet s1 fn r x'
  if due then signalVector fn x.vector s2 else s2

/-- A descriptor that cannot be written is discarded and counted (R529). -/
def ringDiscard (fn r n : Nat) (s : State) : State :=
  let x := ringGet s fn r
  ringSet s fn r { x with discards := sat16 (x.discards + n) }

/-- A descriptor offered to a device-produced ring: written, or discarded and counted (R526, R529). -/
def ringWrite (fn r : Nat) (ws : List W32) (now : Bool) (s : State) : State :=
  if ringRoom (ringGet s fn r) 1 then ringPut fn r ws now s else ringDiscard fn r 1 s

/-! ### The maintenance port -/

/-- The hexadecimal digit of a value below 16, in ASCII. -/
def hexDigit (n : Nat) : Byte := if n < 10 then BitVec.ofNat 8 (48 + n) else BitVec.ofNat 8 (55 + n)

/-- Bytes as hexadecimal digits, in byte order (R558). -/
def hexBytes (bs : List Byte) : List Byte := bs.flatMap fun b => [hexDigit (b.toNat / 16), hexDigit (b.toNat % 16)]

/-- A 64-byte descriptor sent to a maintenance sender: a datagram from port 7248, or a line of `letter`, a space and the bytes
(R556, R558). -/
def sendMaint (src : MaintSrc) (letter : Nat) (words : List W32) (s : State) : State :=
  match src with
  | .udp a p => send (.udp a p 7248 (wordBytes (padW 16 words))) s
  | .uart => send (.uart (BitVec.ofNat 8 letter :: 32 :: hexBytes (wordBytes (padW 16 words)))) s

/-! ### Events (R549 to R553) -/

/-- The severity of an event code (Table 13-17). -/
def evSeverity (code : Nat) : Nat :=
  if code ∈ [0x10, 0x1E, 0x20, 0x21, 0x32, 0x39, 0x3A, 0x49] then 0
  else if code ∈ [0x03, 0x05, 0x06, 0x09, 0x0D, 0x13, 0x14, 0x16, 0x18, 0x19, 0x1A, 0x1B, 0x1C, 0x1D, 0x28, 0x29, 0x33, 0x34,
    0x36, 0x37, 0x38, 0x3B, 0x4B, 0x50, 0x52, 0x53, 0x58, 0x5C] then 1
  else if code ∈ [0x02, 0x0A, 0x24, 0x2C, 0x2D, 0x2E, 0x2F, 0x42, 0x43, 0x54] then 3
  else 2

/-- Bit `code` of a 128-bit mask held as four words. -/
def maskBit (m : List W32) (code : Nat) : Bool := bitOf (wd m (code / 32)) (code % 32)

/-- The event descriptor without its phase bit (Table 13-15). -/
def eventWords (code : Nat) (seq : W32) (p : List W32) (s : State) : List W32 :=
  [ pack [(31, 24, code), (23, 22, evSeverity code), (21, 18, modeNum s.pwr.mode)], seq,
    s.tb.t0.sec.setWidth 32, s.tb.t0.ns, s.tb.t3.sec.setWidth 32, s.tb.t3.ns, 0, 0 ] ++ padW 8 p

/-- Offer an event to the event ring of a function: SEQ counts it, and one that finds no room is lost (R549, R551). -/
def eventToFn (fn code : Nat) (p : List W32) (s : State) : State :=
  let d := if fn = 0 then s.hif.dest0 else s.hif.dest1
  let room := ringRoom (ringGet s fn 8) 1
  let s1 := ringWrite fn 8 (eventWords code d.seq p s) (evSeverity code == 3) s
  let d' : EvDest := { seq := d.seq + 1, lost := if room then d.lost else sat32 (d.lost + 1) }
  if fn = 0 then { s1 with hif := { s1.hif with dest0 := d' } } else { s1 with hif := { s1.hif with dest1 := d' } }

/-- Offer an event to the maintenance port: to the sender that set its mask, at most 1,000 in a second of T2 (R556). -/
def eventToMaint (code : Nat) (p : List W32) (s : State) : State :=
  let d := s.hif.dest2
  let sec := s.tb.t2.sec.toNat
  let n := if s.hif.maintSecond = sec then s.hif.maintCount else 0
  match s.hif.maintDest with
  | some src =>
    if n < 1000 then
      sendMaint src 69 (eventWords code d.seq p s)
        { s with hif := { s.hif with dest2 := { d with seq := d.seq + 1 }, maintSecond := sec, maintCount := n + 1 } }
    else
      { s with hif := { s.hif with dest2 := { seq := d.seq + 1, lost := sat32 (d.lost + 1) },
                                   maintLost := sat32 (s.hif.maintLost + 1) } }
  | none =>
    { s with hif := { s.hif with dest2 := { seq := d.seq + 1, lost := sat32 (d.lost + 1) },
                                 maintLost := sat32 (s.hif.maintLost + 1) } }

/-- Raise an event: each destination whose mask lets it through is offered it (R550). -/
def raise (code : Nat) (p : List W32) (s : State) : State :=
  let s1 := if maskBit s.hif.mask0 code || code == 0x40 || code == 0x42 then eventToFn 0 code p s else s
  let s2 := if maskBit s.hif.mask1 code && maskBit s.hif.allow1 code then eventToFn 1 code p s1 else s1
  if maskBit s.hif.mask2 code then eventToMaint code p s2 else s2

/-- The event code of a merging window (R554, R583, R584, R693). -/
def windowCode : WindowKey → Nat
  | .notPermitted _ => 0x40 | .gateDenied _ _ => 0x48 | .offBlock _ _ => 0x4A | .cvu _ => 0x5E

/-- The payload of a merged event with its count, and its summary bit (Tables 13-18, 14-13, 17-17). -/
def windowWords (k : WindowKey) (ws : List W32) (count : Nat) (summary : Bool) : List W32 :=
  let sm (i : Nat) : W32 := w32 (if summary then 2 ^ i else 0)
  match k with
  | .notPermitted _ => [wd ws 0 ||| sm 23, wd ws 1, wd ws 2, w32 count]
  | .gateDenied _ _ => [wd ws 0 ||| sm 20, wd ws 1, wd ws 2, wd ws 3, wd ws 4, w32 count]
  | .offBlock _ _ => [wd ws 0 ||| sm 20, wd ws 1, wd ws 2, w32 count]
  | .cvu _ => [wd ws 0 ||| sm 27, wd ws 1, w32 count]

/-- The open window of a key. -/
def windowFind (k : WindowKey) : List MergeWin → Option MergeWin
  | [] => none
  | x :: xs => if x.key = k then some x else windowFind k xs

/-- The windows with the one of a key replaced. -/
def windowSet (x : MergeWin) (ws : List MergeWin) : List MergeWin :=
  ws.map fun y => if y.key = x.key then x else y

/-- Raise a merged event (R554): at once with a count of 1 and a window opened, or counted in the open window. -/
def raiseMerged (k : WindowKey) (ws : List W32) (s : State) : State :=
  match windowFind k s.hif.windows with
  | some x =>
    { s with hif := { s.hif with windows := windowSet { x with count := sat32 (x.count + 1), last := ws } s.hif.windows } }
  | none =>
    let s1 := raise (windowCode k) (windowWords k ws 1 false) s
    { s1 with hif := { s1.hif with windows := s1.hif.windows ++ [{ key := k, openedAt := t2Ns s }] } }

/-- NOT_PERMITTED (Table 13-18): kind 1 command, 2 register write, 3 packet-out, 4 Corler message. -/
def notPermitted (init kind opcode : Nat) (p1 : W32) (tag : Nat) (s : State) : State :=
  raiseMerged (.notPermitted init) [pack [(31, 27, init), (26, 24, kind), (15, 0, opcode)], p1, w32 (tag % 65536)] s

/-- PARAM_REFUSED (R662, Table 13-18). -/
def paramRefused (init off : Nat) (val : W32) (s : State) : State :=
  raise 0x41 [pack [(31, 27, init)], w32 off, val] s

/-- Stop a ring with a cause and raise RING_ERROR (R525, R529, Table 13-18). -/
def ringStop (fn r cause : Nat) (doorbell : W32) (s : State) : State :=
  let x := ringGet s fn r
  let s1 := ringSet s fn r { x with stopped := true, cause := cause }
  raise 0x42 [pack [(31, 31, fn), (27, 24, r), (23, 20, cause)], if cause = 1 then doorbell else 0, x.prod, x.cons] s1

/-! ### Commands (R530 to R548) -/

/-- What a command answers: accepted with result words from W6; refused with a status and DETAIL; or accepted, to be completed
by a later event. -/
inductive Reply where
  | ok (words : List W32)
  | no (status : Nat) (detail : W32)
  | later (target : Nat) (arg : List Nat)
deriving DecidableEq, Repr

/-- A parameter error in a descriptor field at a byte offset (R548). -/
def badField (off : Nat) : Reply := .no 1 (w32 off)

/-- A parameter error in a record field at a byte offset (R548). -/
def badRecord (off : Nat) : Reply := .no 1 (w32 (0x10000 + off))

/-- A parameter error of a rule that spans several entries or records (R548). -/
def badRule (n : Nat) : Reply := .no 1 (w32 (0x20000 + n))

/-- NOT_PERMITTED. -/
def noRight : Reply := .no 2 0

/-- RESOURCE_HELD: the holder (0xFF for a configuration use) and the resource (R548). -/
def held (holder resource : Nat) : Reply := .no 3 (pack [(31, 24, holder), (15, 0, resource)])

/-- OVER_CAPACITY, LATE, WRONG_MODE, DMA_ERROR. -/
def overCap : Reply := .no 4 0
def tooLate : Reply := .no 5 0
def wrongMode : Reply := .no 6 0
def dmaError : Reply := .no 10 0

/-- Word Wn of a command's parameters. -/
def cw (c : Cmd) (n : Nat) : W32 := wd c.w (n - 2)

/-- The parameter record of a command, empty when its read failed. -/
def crec (c : Cmd) : List Byte := c.record.getD []

/-- The function of a ring port. -/
def portFn (p : Port) : Nat := match p with | .pf1 => 1 | _ => 0

/-- The completion ring of a command ring (R520). -/
def cplRing (s : State) (fn r : Nat) : Nat := 4 + (ringGet s fn r).cpl

/-- Completion entries that outstanding commands have reserved on a completion ring (R532). -/
def reserved (s : State) (fn q : Nat) : Nat :=
  (s.hif.outst.filter fun o => o.port != .maint && portFn o.port == fn && !o.discarded && cplRing s fn o.ring == q).length

/-- The device is free to take a command: nothing but POWER_STATE commands is outstanding (R532). -/
def deviceFree (s : State) : Bool := s.hif.outst.all fun o => o.opcode == 5

/-- The module takes commands: cast-on past step 4, not in Recovery, in Run or in a transition, host link apart
(R620, R625, R649, R652). -/
def commandsTaken (s : State) : Bool :=
  (s.pwr.mode != .castOn || 4 ≤ s.boot.step) && s.pwr.mode != .recovery && s.boot.restartAt.isNone &&
    (s.pwr.state == .run || s.pwr.trans.isSome)

/-- A command ring may have its next command taken (R532). -/
def ringEligible (s : State) (fn r : Nat) : Bool :=
  let x := ringGet s fn r
  let q := cplRing s fn r
  x.en && !x.stopped && x.prod != x.cons &&
    (s.hif.outst.all fun o => !(o.port != .maint && portFn o.port == fn && o.ring == r)) &&
    ringRoom (ringGet s fn q) (reserved s fn q + 1)

/-- The maintenance port has a command outstanding, or one that has arrived and waits to be taken (R557). -/
def maintBusy (s : State) : Bool := s.hif.maintWait.isSome || s.hif.outst.any fun o => o.port == .maint

/-- A command from this port and ring can be taken now. -/
def portReady (c : Cmd) (s : State) : Bool :=
  commandsTaken s && deviceFree s &&
    (match c.port with
     | .maint => !maintBusy s
     | .pf0 => c.ring < 4 && ringEligible s 0 c.ring
     | .pf1 => c.ring < 4 && ringEligible s 1 c.ring)

/-- The next sequence number: 1 after 0xFFFF_FFFE (R533). -/
def nextSeq (q : W32) : W32 := if q = 0xFFFFFFFE then 1 else q + 1

/-- The service position of a port's ring in the round-robin order (R532). -/
def servePos (c : Cmd) : Nat := match c.port with | .pf0 => c.ring | .pf1 => 4 + c.ring | .maint => 8

/-- The device takes the command: it consumes the ring's entry, gives it a sequence number and remembers whom it served
(R532, R533). -/
def takeCmd (c : Cmd) (s : State) : State :=
  let s1 := { s with hif := { s.hif with cmdSeq := nextSeq s.hif.cmdSeq, lastServed := servePos c } }
  match c.port with
  | .maint => s1
  | p =>
    let fn := portFn p
    let x := ringGet s1 fn c.ring
    ringSet s1 fn c.ring { x with cons := x.cons + 1 }

/-- The completion descriptor without its phase bit (Table 13-9). -/
def cplWords (tag : W16) (status ring opcode : Nat) (seq cons detail : W32) (res : List W32) : List W32 :=
  [ pack [(31, 16, tag.toNat), (15, 8, status), (7, 4, ring)], pack [(31, 16, opcode)], seq, cons, detail, 0 ] ++ padW 10 res

/-- Write a completion to the source's completion ring or maintenance sender (R531, R556, R558). -/
def complete (o : Outst) (status : Nat) (detail : W32) (res : List W32) (s : State) : State :=
  let ring := match o.port with | .maint => 0 | _ => o.ring
  let ws := cplWords o.tag status ring o.opcode o.seq o.cons detail res
  match o.port with
  | .maint => sendMaint o.src 75 ws s
  | p => if o.discarded then s else ringWrite (portFn p) (cplRing s (portFn p) o.ring) ws false s

/-- The ports of an opcode (Table 13-11): PF0, PF1, the maintenance port. None for an opcode that is not listed. -/
def opPorts (op : Nat) : Option (Bool × Bool × Bool) :=
  if op ∈ [0x0000, 0x0001, 0x0002, 0x0307, 0x0508, 0x0705, 0x0805, 0x0A02] then some (true, true, true)
  else if op ∈ [0x0202, 0x0203, 0x0300, 0x0301, 0x0302, 0x0303, 0x0400, 0x0401, 0x0403, 0x0404, 0x0405, 0x0406, 0x0407, 0x0408,
    0x0409, 0x0503, 0x0604] then some (true, true, false)
  else if op ∈ [0x0004, 0x0007, 0x0008, 0x0803, 0x0804, 0x0A00, 0x0A01] then some (true, false, true)
  else if op ∈ [0x0003, 0x0005, 0x0006, 0x0009, 0x000A, 0x000B, 0x0200, 0x0201, 0x0204, 0x0205, 0x0206, 0x0207, 0x0208, 0x0304,
    0x0305, 0x0306, 0x0402, 0x0500, 0x0501, 0x0502, 0x0504, 0x0505, 0x0506, 0x0507, 0x0600, 0x0601, 0x0602, 0x0603, 0x0700,
    0x0701, 0x0702, 0x0703, 0x0704, 0x0800, 0x0801, 0x0802, 0x0900, 0x0901] then some (true, false, false)
  else none

/-- Commands that read a parameter record at A when taken (R530); the loading commands copy their data later (R535). -/
def opHasRecord (op : Nat) : Bool :=
  op ∈ [0x0202, 0x0300, 0x0301, 0x0400, 0x0403, 0x0500, 0x0600, 0x0800]

/-- The refusals that come before a command's own checks: an unlisted opcode, a port without the right (R537, R540), the mode
and power state (R620, R649), a failed record read (R536). -/
def gatekeep (op : Nat) (c : Cmd) (s : State) : Option Reply :=
  match opPorts op with
  | none => some (.no 9 0)
  | some (a, b, m) =>
    firstOf [
      (!(match c.port with | .pf0 => a | .pf1 => b | .maint => m), noRight),
      (s.pwr.mode == .castOn && !(op ∈ [0x0000, 0x0001, 0x0A02]), wrongMode),
      (s.pwr.trans.isSome && !(op ∈ [0x0000, 0x0001, 0x0005]), wrongMode),
      (opHasRecord op && c.record.isNone, dmaError)]

/-- The end of taking a command: its completion, or its place among the outstanding ones; a refusal for lack of right is
reported (R531, R537, R554). -/
def finish (op : Nat) (c : Cmd) (seq cons : W32) (r : Reply) (s : State) : State :=
  let o : Outst := { port := c.port, ring := c.ring, opcode := op, tag := c.tag, seq := seq, cons := cons, target := 0,
                     src := c.src }
  match r with
  | .ok ws => complete o 0 0 ws s
  | .no st d =>
    let s1 := complete o st d [] s
    if st = 2 then notPermitted (portInit c.port) 1 op seq c.tag.toNat s1 else s1
  | .later t a => { s with hif := { s.hif with outst := s.hif.outst ++ [{ o with target := t, arg := a }] } }

/-- The consumer index that a completion carries: the ring's after this descriptor (Table 13-9); 0 for the maintenance port. -/
def consOf (c : Cmd) (s : State) : W32 :=
  match c.port with
  | .maint => 0
  | p => (ringGet s (portFn p) c.ring).cons

/-- A command run from its port: taken, judged, applied by `op`, completed. -/
def runCommand (opcode : Nat) (op : Cmd → State → State × Reply) (c : Cmd) (s : State) : State :=
  let s1 := takeCmd c s
  let seq := s1.hif.cmdSeq
  let cons := consOf c s1
  match gatekeep opcode c s1 with
  | some r => finish opcode c seq cons r s1
  | none => let (s2, r) := op c s1; finish opcode c seq cons r s2

/-- BUSY: the answer to a maintenance command that arrives while another is outstanding; it takes no sequence number (R557). -/
def maintBusyReply (opcode : Nat) (c : Cmd) (s : State) : State := sendMaint c.src 75 (cplWords c.tag 13 0 opcode 0 0 0 []) s

/-- A command row: the command arrives from its port; one that its port cannot have taken now changes nothing (log 2), and on
the maintenance port meets BUSY while another is outstanding (R557). -/
def hostCommand (opcode : Nat) (op : Cmd → State → State × Reply) (c : Cmd) (s : State) : State :=
  if portReady c s then runCommand opcode op c s
  else if c.port == .maint && commandsTaken s && maintBusy s then maintBusyReply opcode c s
  else s

/-- The first outstanding command of an opcode. -/
def outstOf (op : Nat) (s : State) : Option Outst := s.hif.outst.find? fun o => o.opcode == op

/-- The block with an outstanding command removed (by its sequence number). -/
def outstDrop (o : Outst) (s : State) : State :=
  { s with hif := { s.hif with outst := s.hif.outst.filter fun x => x.seq != o.seq } }

/-- Complete an outstanding command and forget it. -/
def completeOutst (o : Outst) (status : Nat) (detail : W32) (res : List W32) (s : State) : State :=
  complete o status detail res (outstDrop o s)

/-- A command whose checks are a list of refusals and whose work is one function of the state. -/
def checked (checks : List (Bool × Reply)) (work : State → State × Reply) (s : State) : State × Reply :=
  match firstOf checks with
  | some r => (s, r)
  | none => work s

end Sys2Proof.Machine
end

