-- ==== Sys2Proof/Machine/Outputs.lean ====
section
/-! DEFINITION. Outputs and their records (Table 09-2, R374, R733). -/

namespace Sys2Proof.Machine

/-- The block with its outputs replaced. -/
def withScan (s : State) (u : ScanUnit) : State := { s with scan := u }

/-- Output `o`. -/
def outGet (s : State) (o : Nat) : Output := tget {} s.scan.outs o

/-- The block with an output replaced, or changed by a function. -/
def outSet (o : Nat) (x : Output) (s : State) : State := withScan s { s.scan with outs := tset o x s.scan.outs }
def outUpd (o : Nat) (f : Output → Output) (s : State) : State := outSet o (f (outGet s o)) s

/-- The record of an output before any OUTPUT_SET (R374). -/
def outDefault (o : Nat) : List W32 :=
  [pack [(31, 26, o), (14, 12, 6), (9, 9, 1), (7, 7, 1), (2, 2, 1)], 0, 0, 0, 0, 0,
   pack [(31, 24, 24), (23, 16, 1), (15, 0, 30)], pack [(31, 16, 100), (15, 0, 1000)]]

/-- The record in force. -/
def outRec (s : State) (o : Nat) : List W32 := if (outGet s o).rcd.isEmpty then outDefault o else (outGet s o).rcd

/-- Fields of an output record. -/
def orOutput (r : List W32) : Nat := fld (wd r 0) 31 26
def orCanvas (r : List W32) : Nat := fld (wd r 0) 25 20
def orGen (r : List W32) : Nat := fld (wd r 0) 19 17
def orLanes (r : List W32) : Nat := fld (wd r 0) 16 15
def orRate (r : List W32) : Nat := fld (wd r 0) 14 12
def orFormat (r : List W32) : Nat := fld (wd r 0) 11 10
def orDepth10 (r : List W32) : Bool := bitOf (wd r 0) 9
def orNarrow (r : List W32) : Bool := bitOf (wd r 0) 8
def orDither (r : List W32) : Bool := bitOf (wd r 0) 7
def orPolicy (r : List W32) : Nat := fld (wd r 0) 6 5
def orAsync (r : List W32) : Bool := bitOf (wd r 0) 4
def orPr (r : List W32) : Bool := bitOf (wd r 0) 3
def orKa (r : List W32) : Bool := bitOf (wd r 0) 2
def orEcho (r : List W32) : Bool := bitOf (wd r 0) 1
def orViewY (r : List W32) : Nat := fld (wd r 1) 31 16
def orViewX (r : List W32) : Nat := fld (wd r 1) 15 0
def orHTotal (r : List W32) : Nat := fld (wd r 2) 31 16
def orW (r : List W32) : Nat := fld (wd r 2) 15 0
def orVTotal (r : List W32) : Nat := fld (wd r 4) 31 16
def orH (r : List W32) : Nat := fld (wd r 4) 15 0
/-- A field in which 0 selects the default (R733). -/
def orDefault (d v : Nat) : Nat := if v = 0 then d else v

def orAsyncMin (r : List W32) : Nat := orDefault 24 (fld (wd r 6) 31 24)
def orStride (r : List W32) : Nat := orDefault 1 (fld (wd r 6) 23 16)
def orLadder (r : List W32) : Nat := orDefault 30 (fld (wd r 6) 15 0)
def orKaTimeout (r : List W32) : Nat := orDefault 100 (fld (wd r 7) 31 16)
def orEchoInt (r : List W32) : Nat := orDefault 1000 (fld (wd r 7) 15 0)

/-- The viewport's origin (R372, R376). -/
def outView (s : State) (o : Nat) : Nat × Nat :=
  (outGet s o).pos.getD (orViewX (outRec s o), orViewY (outRec s o))

/-- The viewport's origin in frame `n`, a move that takes effect with it or before taken into account (R376). -/
def outViewAt (s : State) (o n : Nat) : Nat × Nat :=
  match (outGet s o).view with
  | some (m, v) => if m ≤ n then v else outView s o
  | none => outView s o

/-- A drill checks the sink echo of this module's outputs, as the new Lead, for 3 s after a swap (R473). -/
def drillEchoes (s : State) : Bool :=
  s.pair.leadOut && (match s.pair.drill with | some d => d.swaps != 0 && t0Ns s < d.swapAt + 3000000000 | none => false)

/-- The test CRCs of an output's frames are computed: ECHO_EN is set, or a drill runs (R402, R473). -/
def echoWanted (s : State) (r : List W32) : Bool := orEcho r || s.pair.drill.isSome

/-- The power domain of an output (R371). -/
def outDomain (o : Nat) : Nat := if o < 24 then 10 else 11

/-- The timing of a record: sizes, porches and polarity, which R106 asks to agree. -/
def orTiming (r : List W32) : List W32 := ((r.drop 2).take 4) ++ [w32 (b1 (bitOf (wd r 0) 0))]

/-- The enabled outputs that scan a canvas, lowest first. -/
def scanners (s : State) (c : Nat) : List Nat :=
  (s.scan.outs.filter fun x => x.2.en && orCanvas (outRec s x.1) == c).map Prod.fst

end Sys2Proof.Machine
end

