-- ==== Sys2Proof/Machine/Access.lean ====
section
/-! DEFINITION. Register accesses: the three checks of R583, the off-block responder (R584), byte enables (R658), bit aliases
(R671), the peek mirror (R672), the pending words and shadows of 64-bit registers (R667, R668), and the answer to a read. -/

namespace Sys2Proof.Machine

/-- The power domain of the register block at an offset (Table 17-3). -/
def blockDomain (off : Nat) : Nat :=
  match off / 0x1000 with
  | 1 => 0 | 2 => 2 | 3 => 3 | 5 => 13 | _ => 1

/-- PF1 may write this register (R516). -/
def pf1May (off : Nat) : Bool :=
  off == 0x2400 || (0x3C00 ≤ off && off < 0x4000) ||
    (0x3400 ≤ off && off < 0x3800 && (off % 0x40) ∈ [0x00, 0x04, 0x08, 0x0C, 0x18, 0x1C])

/-- The initiator may write the register (R178, R516, R665, R673, R685). -/
def mayWrite (init off : Nat) : Bool :=
  if off / 0x1000 = 7 then
    if off % 0x1000 < 0x80 then 4 ≤ init && init ≤ 10 else init == 0 || init == 4
  else if init = 0 || init = 4 then true
  else if init = 1 then pf1May off
  else match off / 0x1000 with
    | 2 => init == 9 | 8 => init == 9 | 9 => init == 10 | 0xA => init == 8
    | 0xC => init == 5 || init == 6 || init == 7 | 0xD => init == 8 | _ => false

/-! ### Gates (R579, R580) -/

/-- Gate `g`. -/
def gateGet (m : MemState) (g : Nat) : Gate := tget {} m.gates g

/-- The rules of a gate that cover an address (R580). -/
def rulesAt (g : Gate) (a : Nat) : List Rule :=
  (g.active.map Prod.snd).filter fun r => r.valid && r.base ≤ a && a ≤ r.limit

/-- A gate allows an initiator's access to an address (R580). -/
def gateAllows (g : Gate) (init a : Nat) (write : Bool) : Bool :=
  let rs := rulesAt g a
  rs.isEmpty || rs.any fun r => init < 21 && bitOf r.mask init && (if write then r.wr else r.rd)

/-! ### Domains that answer (R584, R618, R625, R649) -/

/-- The clockless domains have quiesced in an entry (R621 step 2). -/
def quiesced (s : State) : Bool :=
  match s.pwr.trans with
  | some t => t.entry && 300000 ≤ t2Ns s - t.since
  | none => false

/-- A power domain answers accesses. In Idle an access to a quiescent block is held and answered once it resumes, so it answers
(R625); during cast-on only the ID and HIF blocks do, from step 4 (R649), and the power controller in every state but Off. -/
def domainAnswers (s : State) (d block : Nat) : Bool :=
  match s.pwr.state with
  | .off => false
  | .deepSleep => d == 0
  | .sleep => d == 0 || d == 2 || d == 3
  | .idle => bitOf s.pwr.domains d
  | .run =>
    if d = 0 then true
    else if s.pwr.mode = .castOn then 4 ≤ s.boot.step && (block == 0 || block == 3)
    else bitOf s.pwr.domains d && !bitOf s.pwr.iso d && (d == 2 || d == 3 || d == 13 || !quiesced s)

/-- A unit in a power domain does its own work: the module runs past cast-on, outside Recovery and any transition, and the domain is
on and not isolated (R615, R617, R620, R649). -/
def works (s : State) (d : Nat) : Bool :=
  s.pwr.state == .run && s.pwr.trans.isNone && s.pwr.mode != .castOn && s.pwr.mode != .recovery &&
    bitOf s.pwr.domains d && !bitOf s.pwr.iso d

/-- The refusal of a command that needs a domain that is off (R616). -/
def domainOff (s : State) (d : Nat) : Bool × Reply := (!bitOf s.pwr.domains d || bitOf s.pwr.iso d, held 0xFF d)

/-- What the checks of R583 say of an access. -/
inductive Judged where
  | pass | np | gate | off
deriving DecidableEq, Repr

/-- The three checks of a register access, in order (R583). The main processor reaches GT and PWC past their gates. -/
def judgeReg (init off : Nat) (write : Bool) (s : State) : Judged :=
  let block := off / 0x1000
  if write && !mayWrite init off then .np
  else if !(init == 4 && (block == 4 || block == 1)) &&
      !gateAllows (gateGet s.mem (8 + block)) init (off % 0x1000) write then .gate
  else if !domainAnswers s (blockDomain off) block then .off
  else .pass

/-- GATE_DENIED for a register word (Table 14-13), merged per gate and initiator (R583). -/
def gateDenied (gate init : Nat) (write : Bool) (addr n : Nat) (s : State) : State :=
  let g := gateGet s.mem gate
  let s1 := { s with mem := { s.mem with gates := tset gate { g with denied := sat32 (g.denied + n) } s.mem.gates } }
  raiseMerged (.gateDenied gate init)
    [pack [(31, 27, init), (26, 22, gate), (21, 21, b1 write)], w32 addr, w32 (addr / 2 ^ 32), w32 n, g.epoch] s1

/-- OFF_BLOCK (Table 14-13), merged per initiator and domain (R584). -/
def offBlock (init domain : Nat) (write memory : Bool) (addr : Nat) (s : State) : State :=
  raiseMerged (.offBlock init domain)
    [pack [(31, 27, init), (26, 23, domain), (22, 22, b1 write), (21, 21, b1 memory)], w32 addr, w32 (addr / 2 ^ 32)] s

/-- The events of a refused register access (R583). -/
def refusedReg (j : Judged) (init off : Nat) (write : Bool) (s : State) : State :=
  match j with
  | .pass => s
  | .np => notPermitted init 2 0 (w32 off) 0 s
  | .gate => gateDenied (8 + off / 0x1000) init write off 1 s
  | .off => offBlock init (blockDomain off) write false off s

/-! ### Writes -/

/-- What the write of a register needs to know of it: its writable bits, its pulse bits, whether it is half of a 64-bit
register, and the word it holds. -/
structure RegInfo where
  rw : W32
  w1p : W32 := 0
  wide : Bool := false
  cur : W32 := 0
deriving DecidableEq, Repr

/-- A register write: its three checks, its byte enables, its path; then `eff` applies the word (R583, R658, R671, R672). -/
def regWrite (off : Nat) (i : RegInfo) (a : RegW) (eff : W32 → State → State) (s : State) : State :=
  match a.path with
  | .peek => s
  | .bar0 =>
    match judgeReg a.init off true s with
    | .pass => if a.beFull then eff a.val s else paramRefused a.init off a.val s
    | j => refusedReg j a.init off true s
  | .bar1 b =>
    match judgeReg a.init off true s with
    | .pass =>
      if !a.beFull || i.wide then paramRefused a.init off a.val s
      else
        let one := w32 (2 ^ (b % 32))
        if bitOf i.rw (b % 32) then
          eff (if bitOf a.val 0 then (i.cur &&& i.rw) ||| one else (i.cur &&& i.rw) &&& ~~~one) s
        else if bitOf i.w1p (b % 32) && bitOf a.val 0 then eff ((i.cur &&& i.rw) ||| one) s
        else s
    | j => refusedReg j a.init off true s

/-- The key of an initiator's pending word or shadow. -/
def wideKey (init off : Nat) : Nat := init * 65536 + off

/-- Hold the low word of a 64-bit write (R668). -/
def holdLo (init off : Nat) (v : W32) (s : State) : State :=
  { s with hif := { s.hif with pendLo := tset (wideKey init off) v s.hif.pendLo } }

/-- The low word that a commit takes: the pending one, else the current one (R668). -/
def commitLo (init off : Nat) (cur : W32) (s : State) : W32 := (tfind (wideKey init off) s.hif.pendLo).getD cur

/-- Forget an initiator's pending low word. -/
def dropLo (init off : Nat) (s : State) : State :=
  { s with hif := { s.hif with pendLo := tdel (wideKey init off) s.hif.pendLo } }

/-! ### Reads -/

/-- The path a read is performed by: one with a byte enable clear goes through the peek mirror (R658). -/
def readPath (a : RegR) : RegPath := if a.beFull then a.path else .peek

/-- The word a path answers: an alias carries its bit in bit 0 (R669). -/
def pathWord (p : RegPath) (v : W32) : W32 :=
  match p with
  | .bar1 b => if bitOf v (b % 32) then 1 else 0
  | _ => v

/-- A register read: refused reads answer 0, a block that is off answers 0x0FF0_0FF0, else `rd` answers the word and the state
after it for the path (R583, R584, R669). -/
def regRead (off : Nat) (a : RegR) (rd : RegPath → State → W32 × State) (s : State) : State :=
  match judgeReg a.init off false s with
  | .pass =>
    let p := readPath a
    let (v, s1) := rd p s
    send (.readData a.init off p (pathWord p v)) s1
  | .off => send (.readData a.init off a.path 0x0FF00FF0) (refusedReg .off a.init off false s)
  | j => send (.readData a.init off a.path 0) (refusedReg j a.init off false s)

end Sys2Proof.Machine
end

