-- ==== Sys2Proof/Machine/TimeBase.lean ====
section
/-! DEFINITION. The time bases, T0's state, timestamps and frame lock (chapter 05): register writes, the tick, and the events of
Table 05-5. -/

namespace Sys2Proof.Machine

/-- The block with its TB block replaced. -/
def withTb (s : State) (u : TimeUnit) : State := { s with tb := u }

/-- The block with time base `n` replaced. -/
def setTb (n : Nat) (t : TimeBase) (s : State) : State := withTb s (tbSet s.tb n t)

/-! ### T0's state (R186 to R192) -/

/-- The estimated error in HOLDOVER (R189). -/
def errNs (s : State) : Nat :=
  s.tb.e0.toNat + s.tb.refStab.toNat * (t2Ns s - s.tb.holdAt) / 1000000000

/-- T0 enters a state for a cause, and TIME_STATE is raised (R186, R192, Table 05-5). -/
def setT0State (new : T0State) (cause : Nat) (s : State) : State :=
  if s.tb.state = new then s
  else
    let old := s.tb.state
    let enter := new == .holdover
    let seen := tupd 0 (t0Num new) (· + 1) s.tb.entered
    let hist := (t0Ns s, new) :: s.tb.hist
    let s1 := if enter then withTb s { s.tb with state := new, entered := seen, hist := hist, e0 := s.tb.errEst, holdAt := t2Ns s }
              else withTb s { s.tb with state := new, entered := seen, hist := hist }
    let err := if old == .holdover || enter then (if enter then s.tb.errEst.toNat else errNs s) else s.tb.errEst.toNat
    raise 0x0A [pack [(31, 24, t0Num new), (23, 16, t0Num old), (15, 8, cause)], w32 (sat32 err),
                s.tb.t0.sec.setWidth 32, s.tb.t0.ns] s1

/-- How far a T0 state is from being trusted (R433). -/
def t0Rank (n : Nat) : Nat := match n with | 0 => 3 | 3 => 2 | 2 => 1 | _ => 0

/-- The less trustworthy of two state codes. -/
def t0Less (a b : Nat) : Nat := if t0Rank a < t0Rank b then b else a

/-- The least trustworthy state in force at any instant of a span, from the entries to states, newest first; before the first one T0 is
UNSET. -/
def t0Span (a b : Nat) : List (Nat × T0State) → Nat
  | [] => t0Num .unset
  | (t, st) :: l => if t ≤ a then t0Num st else if b < t then t0Span a b l else t0Less (t0Num st) (t0Span a b l)

/-- The code of the least trustworthy T0 state in force from `a` to `b`, in ns of T0 (R192, R433). -/
def t0Worst (a b : Nat) (s : State) : Nat := t0Span a b s.tb.hist

/-- Servo activity (R187). -/
def servoActive (s : State) : State := withTb s { s.tb with servoAt := t2Ns s }

/-- A write of TB0_STATE: its highest-ranked declaration alone (R222, Table 05-2). -/
def t0Declare (v : W32) (s : State) : State :=
  if bitOf v 5 then (if s.tb.state = .unset then s else setT0State .unlocked 1 s)
  else if bitOf v 6 then (if s.tb.state = .locked then setT0State .holdover 1 s else s)
  else if bitOf v 7 then
    (if s.tb.state = .unset then servoActive s else setT0State .locked 1 (servoActive s))
  else s

/-- TB0_STATE as a register. -/
def t0StateInfo : RegInfo := { rw := 0, w1p := 0xE0 }

/-! ### Increments (R176) -/

/-- The increment range of a time base (Table 05-1). -/
def incOk (n : Nat) (v : Nat) : Bool :=
  match n with
  | 0 => 0x1FFF2E48F ≤ v && v ≤ 0x2000D1B71
  | 1 => 0x1FF7CED92 ≤ v && v ≤ 0x20083126E
  | 2 => false
  | _ => 0x1FFF2E48F ≤ v && v ≤ 0x2000D1B71

/-- A commit of TBn_INC by an initiator writing the high word (R176, R668). -/
def incCommit (n init : Nat) (hi : W32) (s : State) : State :=
  let t := tbGet s.tb n
  let lo := commitLo init (0x2008 + 0x100 * n) (t.inc.setWidth 32) s
  let v := w64of lo hi
  let s1 := dropLo init (0x2008 + 0x100 * n) s
  let s2 := if incOk n v then setTb n { t with incNext := some (BitVec.ofNat 64 v) } s1
            else setTb n { t with incRange := true } s1
  if n = 0 then servoActive s2 else s2

/-! ### Steps and loads (R179 to R185) -/

/-- The step threshold in ns (R181). -/
def thrNs (t : TimeBase) : Nat := t.thr.toNat * 1000

/-- The modes in which T0 may move beyond its threshold (R183). -/
def t0MayJump (m : Mode) : Bool := m == .castOn || m == .ready || m == .knitUp || m == .maintenance

/-- STEP_REFUSED (Table 05-5). -/
def stepRefused (n reason : Nat) (d : Int) (s : State) : State :=
  let t := tbGet s.tb n
  let v := (BitVec.ofInt 64 d).toNat
  raise 0x0B [pack [(31, 24, n), (23, 16, reason)], w32 v, w32 (v / 2 ^ 32)] (setTb n { t with stepRefused := true } s)

/-- A step, or a load counted as one, is judged (R181 to R183): applied on its tick, or refused. The override is consumed
either way. -/
def judgeStep (n : Nat) (d : Int) (mk : Bool → TbOp) (s : State) : State :=
  let t := tbGet s.tb n
  let beyond := thrNs t < d.natAbs
  let armed := t.ovrArmed
  let t1 := { t with ovrArmed := false }
  if beyond && !armed then stepRefused n 1 d (setTb n t1 s)
  else if beyond && n == 0 && !t0MayJump s.pwr.mode then stepRefused n 2 d (setTb n t1 s)
  else setTb n { t1 with ops := t.ops ++ [mk beyond] } s

/-- A commit of TBn_STEP (R180). T2 is never stepped (R181, Table 05-5 reason 3). -/
def stepCommit (n init : Nat) (hi : W32) (s : State) : State :=
  let t := tbGet s.tb n
  let lo := commitLo init (0x2030 + 0x100 * n) t.stepLo s
  let d := sext 64 (w64of lo hi)
  let s1 := setTb n { t with stepLo := lo, stepHi := hi } (dropLo init (0x2030 + 0x100 * n) s)
  let s2 := if n = 2 then stepRefused 2 3 d s1 else judgeStep n d (fun b => .step d b) s1
  if n = 0 then servoActive s2 else s2

/-- The step that a load of the load value makes, in ns (R181). -/
def loadStep (t : TimeBase) : Int :=
  (((BitVec.ofNat 64 (w64of t.loadLo t.loadHi)).toNat * 1000000000 + t.loadNs.toNat : Nat) : Int) - (tbNs t : Int)

/-- A load of the load value (R179). A load waiting for its tick counts as the first one. Every load consumes the override (R182). -/
def tbLoad (n : Nat) (s : State) : State :=
  let t := tbGet s.tb n
  let sec := BitVec.ofNat 64 (w64of t.loadLo t.loadHi)
  let waiting := t.ops.any fun o => match o with | .load .. => true | .step .. => false
  let d := loadStep t
  if n = 2 then s
  else if t.set || waiting then judgeStep n d (fun b => .load sec t.loadNs false b d) s
  else setTb n { t with ovrArmed := false, ops := t.ops ++ [.load sec t.loadNs true (thrNs t < d.natAbs) d] } s

/-- A write of TBn_CTL (Table 05-7): the override first, then the load, so that a write with both loads under the override
(DESIGN CHOICE, log 11). Only PF0 arms the override (R182). -/
def tbCtlWrite (n init : Nat) (v : W32) (s : State) : State :=
  let t := tbGet s.tb n
  let s1 := setTb n { t with ppsEn := bitOf v 4 } s
  let t1 := tbGet s1.tb n
  let s2 := if bitOf v 3 && init == 0 then setTb n { t1 with ovrArmed := true, ovrAt := t2Ns s } s1 else s1
  if bitOf v 2 then tbLoad n s2 else s2

/-- TBn_CTL as a register. -/
def tbCtlInfo (n : Nat) (s : State) : RegInfo :=
  { rw := 0x10, w1p := 0xC, cur := if (tbGet s.tb n).ppsEn then 0x10 else 0 }

/-! ### Frame lock (R211 to R216) -/

/-- Generator `g`. -/
def flGet (s : State) (g : Nat) : FrameLock := tget {} s.tb.fl g

/-- The block with generator `g` replaced. -/
def flSet (g : Nat) (x : FrameLock) (s : State) : State := withTb s { s.tb with fl := tset g x s.tb.fl }

/-- den of a generator's rate. -/
def flDen (x : FrameLock) : Nat := if x.den1001 then 1001 else 1

/-- O in seconds. -/
def flOrigin (x : FrameLock) : Nat := w64of x.originLo x.originHi

/-- D(n) in ns of T0 (R211). -/
def displayTime (x : FrameLock) (n : Nat) : Nat :=
  flOrigin x * 1000000000 + x.phase.toNat + n * 1000000000 * flDen x / x.num.toNat

/-- The first frame whose display time is at least `t` (ns of T0). -/
def firstFrame (x : FrameLock) (t : Nat) : Nat :=
  let base := flOrigin x * 1000000000 + x.phase.toNat
  if t ≤ base then 0 else ceilDiv ((t - base) * x.num.toNat) (1000000000 * flDen x)

/-- The frame that 32 bits name: the number nearest the generator's next frame with those low bits (R211: frame numbers are
reported modulo 2^32). -/
def frameNamed (x : FrameLock) (w : W32) : Nat :=
  let d := (w.toNat + 2 ^ 32 - x.next % 2 ^ 32) % 2 ^ 32
  if d < 2 ^ 31 then x.next + d else x.next + d - 2 ^ 32

/-- The rate, origin and phase obey R211 and R212. -/
def flValid (x : FrameLock) : Bool :=
  let num := x.num.toNat
  let den := flDen x
  24 * den ≤ num && num ≤ 240 * den && ((x.phase.toNat + 1) * num ≤ 1000000000 * den) &&
    (!x.den1001 || flOrigin x % 1001 == 0)

/-- The frame period of a generator in ns, rounded down. -/
def flPeriod (x : FrameLock) : Nat := 1000000000 * flDen x / x.num.toNat

/-- A write of FLg_CTL (R219): while disabled it takes DEN1001, then judges EN; while enabled only EN is taken. -/
def flCtlWrite (g init : Nat) (v : W32) (s : State) : State :=
  let x := flGet s g
  if x.en then flSet g { x with en := bitOf v 31 } s
  else
    let y := { x with den1001 := bitOf v 0 }
    if bitOf v 31 then
      if flValid y then flSet g { y with en := true, next := firstFrame y (t0Ns s), first := firstFrame y (t0Ns s) } s
      else paramRefused init (0x2C00 + 0x20 * g) v (flSet g y s)
    else flSet g y s

/-- FLg_CTL as a register. -/
def flCtlInfo (g : Nat) (s : State) : RegInfo :=
  let x := flGet s g
  { rw := 0x80000001, cur := pack [(31, 31, b1 x.en), (0, 0, b1 x.den1001)] }

/-- The offset of a generator parameter within its block (Table 05-6). -/
def flParamOff (p : FlParam) : Nat := match p with | .num => 4 | .originLo => 8 | .originHi => 12 | .phase => 16

/-- A write of a generator parameter takes effect only while the generator is disabled; otherwise it is dropped (R219), which R662
reports (DEDUCED, log 60). -/
def flParamWrite (g init : Nat) (p : FlParam) (v : W32) (s : State) : State :=
  let x := flGet s g
  if x.en then paramRefused init (0x2C00 + 0x20 * g + flParamOff p) v s
  else match p with
    | .num => flSet g { x with num := v } s
    | .phase => flSet g { x with phase := v } s
    | .originLo => holdLo init (0x2C08 + 0x20 * g) v s
    | .originHi =>
      let lo := commitLo init (0x2C08 + 0x20 * g) x.originLo s
      flSet g { x with originLo := lo, originHi := v } (dropLo init (0x2C08 + 0x20 * g) s)

/-- A generator parameter as a register. -/
def flParamInfo (g : Nat) (p : FlParam) (s : State) : RegInfo :=
  let x := flGet s g
  match p with
  | .num => { rw := 0xFFFFFFFF, cur := x.num }
  | .phase => { rw := 0xFFFFFFFF, cur := x.phase }
  | .originLo => { rw := 0xFFFFFFFF, cur := x.originLo, wide := true }
  | .originHi => { rw := 0xFFFFFFFF, cur := x.originHi, wide := true }

/-- FRAME_LOCK_SLIP (Table 05-5): generator, frames not sent, repeat flag, first frame not sent, next frame sent. -/
def flSlip (g gap : Nat) (back : Bool) (first next : Nat) (s : State) : State :=
  raise 0x0E [pack [(31, 24, g), (23, 16, satTo 0xFF gap), (15, 15, b1 back)], w32 first, w32 next] s

/-- An output's part in a renumbering: a frame withheld before is no longer (R215), and one in progress does not stand in the way of a
frame of the same number. -/
def outRenumber (x : Output) : Output := { x with skip := none, again := x.cur.isSome }

/-- After a T0 step or load beyond the threshold a generator sends next the first frame at least 2 ms later (R216); canvas frames
are then cut in the new numbering. `back` says that T0 moved backward: then no frame counts as not sent. -/
def flRenumber (now : Nat) (back : Bool) (s : State) (g : Nat) : State :=
  let x := flGet s g
  if x.en then
    let n := firstFrame x (now + 2000000)
    let gap := if back then 0 else n - x.next
    let cs := s.comp.canvases.map fun c => (c.1, { c.2 with taken := none })
    let os := s.scan.outs.map fun o => (o.1, if o.2.en && orGen (outRec s o.1) == g then outRenumber o.2 else o.2)
    flSlip g gap (n < x.next) (if gap = 0 then n else x.next) n
      (flSet g { x with next := n, first := n } { s with comp := { s.comp with canvases := cs }, scan := { s.scan with outs := os } })
  else s

/-! ### The tick (R174, R184) -/

/-- One advance of a time base (R174). -/
def tbAdvance (t : TimeBase) : TimeBase :=
  let acc := t.ns.toNat * 2 ^ 32 + t.frac.toNat + t.inc.toNat
  let ovl := 1000000000 * 2 ^ 32 ≤ acc
  let acc' := if ovl then acc - 1000000000 * 2 ^ 32 else acc
  { t with ns := w32 (acc' / 2 ^ 32), frac := w32 acc', sec := if ovl then t.sec + 1 else t.sec }

/-- Signed ns added to the seconds and nanoseconds; the fraction is left (R180). -/
def tbAdd (d : Int) (t : TimeBase) : TimeBase :=
  let v : Int := ((tbNs t : Nat) : Int) + d
  { t with sec := BitVec.ofInt 64 (v / 1000000000), ns := w32 (v % 1000000000).toNat }

/-- One waiting step or load applied to the tick's value (R180, R184). -/
def tbApply (o : TbOp) (t : TimeBase) : TimeBase :=
  match o with
  | .step d _ => { tbAdd d t with stepDone := true }
  | .load sec ns _ _ _ => { t with sec := sec, ns := ns, frac := 0, set := true, stepDone := true }

/-- A committed increment comes into force at the tick (R176). -/
def tbTakeInc (t : TimeBase) : TimeBase :=
  match t.incNext with
  | some i => { t with inc := i, incNext := none }
  | none => t

/-- One step or load that waits is applied (R184). -/
def tbTakeOp (t : TimeBase) : TimeBase :=
  match t.ops with
  | o :: os => tbApply o { t with ops := os }
  | [] => t

/-- One time base over one tick: a committed increment, the advance, one waiting step or load (R174, R176, R184). -/
def tbTick (t : TimeBase) : TimeBase := tbTakeOp (tbAdvance (tbTakeInc t))

/-- What the step or load applied to T0 in this tick does to T0's state and the generators (R185, R186, R216). -/
def t0Applied (o : TbOp) (s : State) : State :=
  let renumber (d : Int) (st : State) : State := (List.range 8).foldl (flRenumber (t0Ns st) (d < 0)) st
  match o with
  | .step d beyond =>
    if beyond then renumber d (if s.tb.state = .unset then s else setT0State .unlocked 4 s) else s
  | .load _ _ first beyond d =>
    let s1 := if first then (if s.tb.state = .unset then setT0State .unlocked 5 s else s)
              else if beyond then (if s.tb.state = .unset then s else setT0State .unlocked 4 s) else s
    if beyond then renumber d s1 else s1

/-- All four time bases over one tick (R174), and what follows for T0. -/
def tbTickAll (s : State) : State :=
  let op := s.tb.t0.ops.head?
  let s1 := withTb s { s.tb with t0 := tbTick s.tb.t0, t1 := tbTick s.tb.t1, t2 := tbTick s.tb.t2, t3 := tbTick s.tb.t3 }
  match op with
  | some o => t0Applied o s1
  | none => s1

/-! ### Snapshots and captures (R177, R200) -/

/-- A time base captured into its snapshot registers. -/
def tbSnap (t : TimeBase) : TimeBase :=
  { t with snapFrac := t.frac, snapNs := t.ns, snapLo := t.sec.setWidth 32, snapHi := (t.sec >>> 32).setWidth 32 }

/-- A snapshot of all four time bases (R177). -/
def snapAll (s : State) : State :=
  let u := s.tb
  withTb s { u with t0 := tbSnap u.t0, t1 := tbSnap u.t1, t2 := tbSnap u.t2, t3 := tbSnap u.t3, snapSeq := u.snapSeq + 1 }

/-- A PPS_IN edge captured on a time base whose PPS_EN is 1. -/
def tbPps (t : TimeBase) : TimeBase :=
  if t.ppsEn then { t with ppsNs := t.ns, ppsLo := t.sec.setWidth 32, ppsHi := (t.sec >>> 32).setWidth 32 } else t

/-- A PPS_IN edge (R200). -/
def ppsEdge (s : State) : State :=
  let u := s.tb
  let any := u.t0.ppsEn || u.t1.ppsEn || u.t2.ppsEn || u.t3.ppsEn
  withTb s { u with t0 := tbPps u.t0, t1 := tbPps u.t1, t2 := tbPps u.t2, t3 := tbPps u.t3,
                    ppsSeq := if any then u.ppsSeq + 1 else u.ppsSeq }

/-! ### Transmit timestamps (R197 to R199) -/

/-- Queue `q`. -/
def txqGet (s : State) (q : Nat) : TxQueue := tget {} s.tb.txq q

/-- The block with queue `q` replaced. -/
def txqSet (q : Nat) (x : TxQueue) (s : State) : State := withTb s { s.tb with txq := tset q x s.tb.txq }

/-- A transmit timestamp enters its queue, or is dropped when 16 wait (R198). -/
def txqPush (q : Nat) (e : TxStamp) (s : State) : State :=
  let x := txqGet s q
  if x.q.length < 16 then txqSet q { x with q := x.q ++ [e] } s
  else txqSet q { x with ovf := true, drops := sat16 (x.drops + 1) } s

/-- TXQq_ID as a word (Table 05-10). -/
def txqId (x : TxQueue) : W32 :=
  match x.q with
  | e :: _ => pack [(31, 31, 1), (29, 28, e.tbase), (15, 0, e.ident.toNat)]
  | [] => 0

/-- A BAR0 read of TXQq_ID (R198): the head entry's identifier, the rest latched, the entry removed. -/
def txqRead (q : Nat) (p : RegPath) (s : State) : W32 × State :=
  let x := txqGet s q
  match p, x.q with
  | .bar0, e :: es =>
    (txqId x, txqSet q { x with q := es, nsq := e.nsq, secLo := w32 e.sec, secHi := w32 (e.sec / 2 ^ 32 % 65536) } s)
  | _, _ => (txqId x, s)

/-! ### Origins (R203, R204) -/

/-- The origin of a PTP-locked frame, (sec, ns) (R203). -/
def originLocked (rtp ofs : W32) (sec ns : Nat) : Nat × Nat :=
  let r := (rtp - ofs).toNat
  let a := sec * 90000 + ns * 9 / 100000
  if a + 2 ^ 31 < r then (0, 0)
  else
    let k := (a + 2 ^ 31 - r) / 2 ^ 32
    let full := r + k * 2 ^ 32
    (full / 90000, full % 90000 * 100000 / 9)

/-- The origin of an anchored access unit in ns of T0, not below 0 (R204, log 12). -/
def originAnchored (rtp anchorRtp : W32) (anchorNs : Nat) : Nat :=
  let d := sext 32 (rtp - anchorRtp).toNat
  ((anchorNs : Int) + d * 1000000000 / 90000).toNat

/-! ### The TB block as registers (Table 05-6) -/

/-- TBn_STAT (Table 05-8). -/
def tbStat (t : TimeBase) : W32 :=
  pack [(5, 5, b1 t.ovrArmed), (4, 4, b1 t.set), (3, 3, b1 t.incRange), (2, 2, b1 t.stepRefused), (1, 1, b1 t.stepDone)]

/-- TXQq_STAT (Table 05-11). -/
def txqStat (x : TxQueue) : W32 := pack [(31, 31, b1 x.ovf), (20, 16, x.q.length), (15, 0, x.drops)]

/-- The word of a TB register without any read effect; none where the map lists no register. -/
def tbPeek (off : Nat) (s : State) : Option W32 :=
  let u := s.tb
  if 0x2C00 ≤ off && off < 0x2D00 then
    let x := flGet s ((off - 0x2C00) / 0x20)
    match off % 0x20 with
    | 0 => some (pack [(31, 31, b1 x.en), (0, 0, b1 x.den1001)])
    | 4 => some x.num | 8 => some x.originLo | 12 => some x.originHi | 16 => some x.phase | _ => none
  else if 0x2800 ≤ off && off < 0x2920 then
    let x := txqGet s ((off - 0x2800) / 0x20)
    match off % 0x20 with
    | 0 => some (txqId x)
    | 4 => some x.nsq | 8 => some x.secLo | 12 => some x.secHi | 16 => some (txqStat x) | _ => none
  else match off with
    | 0x2050 => some (w32 (t0Num u.state)) | 0x2054 => some u.errEst | 0x2058 => some u.holdLimit | 0x205C => some u.servoTmo
    | 0x2060 => some u.refStab | 0x2400 => some 0 | 0x2404 => some u.snapSeq | 0x2408 => some u.ppsSeq
    | 0x2410 => some u.pairT0Ofs | 0x2414 => some u.pairT3Ofs | 0x2418 => some u.pairLimit
    | _ =>
      if off < 0x2400 then
        let t := tbGet u ((off - 0x2000) / 0x100)
        match off % 0x100 with
        | 0x00 => some (if t.ppsEn then 0x10 else 0) | 0x04 => some (tbStat t)
        | 0x08 => some (t.inc.setWidth 32) | 0x0C => some ((t.inc >>> 32).setWidth 32)
        | 0x10 => some t.snapFrac | 0x14 => some t.snapNs | 0x18 => some t.snapLo | 0x1C => some t.snapHi
        | 0x20 => some t.loadNs | 0x24 => some t.loadLo | 0x28 => some t.loadHi
        | 0x30 => some t.stepLo | 0x34 => some t.stepHi | 0x38 => some t.thr
        | 0x40 => some t.ppsNs | 0x44 => some t.ppsLo | 0x48 => some t.ppsHi | _ => none
      else none

/-- The clear-on-read bits of a TB register: TBn_STAT and TXQq_STAT. -/
def tbRc (off : Nat) : List (Nat × Nat) :=
  if off < 0x2400 && off % 0x100 = 4 then [(3, 3), (2, 2), (1, 1)]
  else if 0x2800 ≤ off && off < 0x2920 && off % 0x20 = 16 then [(31, 31), (15, 0)] else []

/-- Clear a field of a TB register, named by its low bit. -/
def tbClear (off lo : Nat) (s : State) : State :=
  if off < 0x2400 then
    let n := (off - 0x2000) / 0x100
    let t := tbGet s.tb n
    match lo with
    | 3 => setTb n { t with incRange := false } s
    | 2 => setTb n { t with stepRefused := false } s
    | _ => setTb n { t with stepDone := false } s
  else
    let q := (off - 0x2800) / 0x20
    let x := txqGet s q
    if lo = 31 then txqSet q { x with ovf := false } s else txqSet q { x with drops := 0 } s

/-- A write of a plain TB register by an initiator: its range, then its value (R662). -/
def tbPlainWrite (off init : Nat) (v : W32) (s : State) : State :=
  let n := (off - 0x2000) / 0x100
  let t := tbGet s.tb n
  let u := s.tb
  let ranged (lo hi : Nat) (s' : State) : State :=
    if lo ≤ v.toNat && v.toNat ≤ hi then s' else paramRefused init off v s
  match off with
  | 0x2058 => ranged 1 10000 (withTb s { u with holdLimit := v })
  | 0x205C => ranged 100 60000 (withTb s { u with servoTmo := v })
  | 0x2060 => ranged 1 100000 (withTb s { u with refStab := v })
  | 0x2418 => ranged 100 100000 (withTb s { u with pairLimit := v })
  | _ =>
    match off % 0x100 with
    | 0x20 => ranged 0 999999999 (setTb n { t with loadNs := v } s)
    | 0x24 => holdLo init off v s
    | 0x28 =>
      let lo := commitLo init (off - 4) t.loadLo s
      setTb n { t with loadLo := lo, loadHi := v } (dropLo init (off - 4) s)
    | 0x38 => if n = 2 then s else ranged 1 (if n = 0 then 1000 else 1000000) (setTb n { t with thr := v } s)
    | 0x08 => if n = 2 then s else holdLo init off v s
    | 0x30 => holdLo init off v s
    | _ => s

/-! ### The command rows of the time bases -/

/-- TB_SNAP (R177). -/
def execTbSnap (a : RegW) (s : State) : Res :=
  .next (regWrite 0x2400 { rw := 0, w1p := 1 } a (fun v st => if bitOf v 0 then snapAll st else st) s)

/-- TB_INC_COMMIT (R176). -/
def execTbIncCommit (n : Nat) (a : RegW) (s : State) : Res :=
  .next (regWrite (0x200C + 0x100 * (n % 4)) { rw := 0xFFFFFFFF, wide := true } a (incCommit (n % 4) a.init) s)

/-- TB_STEP_COMMIT (R180). -/
def execTbStepCommit (n : Nat) (a : RegW) (s : State) : Res :=
  .next (regWrite (0x2034 + 0x100 * (n % 4)) { rw := 0xFFFFFFFF, wide := true } a (stepCommit (n % 4) a.init) s)

/-- TB_LOAD (R179): a write of TBn_CTL. -/
def execTbLoad (n : Nat) (a : RegW) (s : State) : Res :=
  .next (regWrite (0x2000 + 0x100 * (n % 4)) (tbCtlInfo (n % 4) s) a (tbCtlWrite (n % 4) a.init) s)

/-- TB_STEP_OVR (R182): a write of TBn_CTL. -/
def execTbStepOvr (n : Nat) (a : RegW) (s : State) : Res :=
  .next (regWrite (0x2000 + 0x100 * (n % 4)) (tbCtlInfo (n % 4) s) a (tbCtlWrite (n % 4) a.init) s)

/-- DECLARE_LOCK (R186): a write of TB0_STATE. -/
def execDeclareLock (a : RegW) (s : State) : Res := .next (regWrite 0x2050 t0StateInfo a t0Declare s)

/-- DECLARE_HOLD (R186): a write of TB0_STATE. -/
def execDeclareHold (a : RegW) (s : State) : Res := .next (regWrite 0x2050 t0StateInfo a t0Declare s)

/-- DECLARE_UNLOCK (R186): a write of TB0_STATE. -/
def execDeclareUnlock (a : RegW) (s : State) : Res := .next (regWrite 0x2050 t0StateInfo a t0Declare s)

/-- A write of TB0_ERR_EST is servo activity (R187, R188). -/
def errEstWrite (v : W32) (s : State) : State := servoActive (withTb s { s.tb with errEst := v })

/-- TB0_ERR_EST_WRITE (R188). -/
def execTb0ErrEstWrite (a : RegW) (s : State) : Res :=
  .next (regWrite 0x2054 { rw := 0xFFFFFFFF, cur := s.tb.errEst } a errEstWrite s)

/-- FL_CTL_WRITE (R219). -/
def execFlCtlWrite (g : Nat) (a : RegW) (s : State) : Res :=
  .next (regWrite (0x2C00 + 0x20 * (g % 8)) (flCtlInfo (g % 8) s) a (flCtlWrite (g % 8) a.init) s)

/-- FL_PARAM_WRITE (R219). -/
def execFlParamWrite (g : Nat) (p : FlParam) (a : RegW) (s : State) : Res :=
  .next (regWrite (0x2C00 + 0x20 * (g % 8) + flParamOff p) (flParamInfo (g % 8) p s) a (flParamWrite (g % 8) a.init p) s)

/-- TXQ_ID_READ (R198). -/
def execTxqIdRead (q : Nat) (a : RegR) (s : State) : Res :=
  .next (regRead (0x2800 + 0x20 * (q % 9)) a (txqRead (q % 9)) s)

/-- OVERRIDE_LAPSE (R182): an override unused for 1 s of T2. -/
def execOverrideLapse (n : Nat) (s : State) : Res :=
  let t := tbGet s.tb (n % 4)
  .next (if t.ovrArmed && t.ovrAt + 1000000000 ≤ t2Ns s then setTb (n % 4) { t with ovrArmed := false } s else s)

/-- SERVO_TIMEOUT (R187). -/
def execServoTimeout (s : State) : Res :=
  .next (if s.tb.state == .locked && s.tb.servoAt + s.tb.servoTmo.toNat * 1000000 ≤ t2Ns s then setT0State .holdover 2 s else s)

/-- HOLDOVER_LIMIT_EXCEEDED (R189). -/
def execHoldoverLimitExceeded (s : State) : Res :=
  .next (if s.tb.state == .holdover && s.tb.holdLimit.toNat * 1000 < errNs s then setT0State .unlocked 3 s else s)

/-- PPS_IN_EDGE (R200). -/
def execPpsInEdge (s : State) : Res := .next (ppsEdge s)

end Sys2Proof.Machine
end

