-- ==== Sys2Proof/Machine/EncOps.lean ====
section
/-! DEFINITION. Encode channels: their records (Table 10-1), their loads (R411), and which kind of recording each takes (R429). -/

namespace Sys2Proof.Machine

/-- The block with its encoder unit replaced. -/
def withEnc (s : State) (u : EncUnit) : State := { s with enc := u }

/-- Channel `c`. -/
def ecGet (s : State) (c : Nat) : EncChan := tget {} s.enc.chans c

/-- The block with a channel replaced, or changed by a function. -/
def ecSet (c : Nat) (x : EncChan) (s : State) : State := withEnc s { s.enc with chans := tset c x s.enc.chans }
def ecUpd (c : Nat) (f : EncChan → EncChan) (s : State) : State := ecSet c (f (ecGet s c)) s

/-! ### Records -/

def erChan (r : List W32) : Nat := fld (wd r 0) 31 29
def erView (r : List W32) : Bool := bitOf (wd r 0) 28
def erSrc (r : List W32) : Nat := fld (wd r 0) 27 22
def erCodec (r : List W32) : Nat := fld (wd r 0) 21 20
def erRotate (r : List W32) : Nat := fld (wd r 0) 19 18
def erMirror (r : List W32) : Bool := bitOf (wd r 0) 17
def erDivisor (r : List W32) : Nat := fld (wd r 0) 16 13
def erPriority (r : List W32) : Nat := fld (wd r 0) 12 10
def erStats (r : List W32) : Bool := bitOf (wd r 0) 9
def erCapped (r : List W32) : Bool := bitOf (wd r 0) 8
def erX (r : List W32) : Nat := fld (wd r 1) 15 0
def erY (r : List W32) : Nat := fld (wd r 1) 31 16
def erW (r : List W32) : Nat := fld (wd r 2) 15 0
def erH (r : List W32) : Nat := fld (wd r 2) 31 16
def erEncW (r : List W32) : Nat := fld (wd r 3) 15 0
def erEncH (r : List W32) : Nat := fld (wd r 3) 31 16
def erTarget (r : List W32) : Nat := (wd r 4).toNat
def erMaxrate (r : List W32) : Nat := (wd r 5).toNat
def erBuffer (r : List W32) : Nat := fld (wd r 6) 31 16
def erIdr (r : List W32) : Nat := fld (wd r 6) 15 0
def erQpMin (r : List W32) : Nat := fld (wd r 7) 31 24
def erQpMax (r : List W32) : Nat := fld (wd r 7) 23 16
def erAddr (r : List W32) : Nat := w64of (wd r 8) (wd r 9)
def erLog2 (r : List W32) : Nat := fld (wd r 10) 4 0

/-- AV1 (codecs 2 and 3); 10 bits (codecs 1 and 3). -/
def erAv1 (r : List W32) : Bool := 2 ≤ erCodec r
def erTen (r : List W32) : Bool := erCodec r % 2 == 1

/-- A rotation by 90° or 270° swaps width and height. -/
def erTurned (r : List W32) : Bool := erRotate r % 2 == 1

/-- The picture before rotation. -/
def erScaled (r : List W32) : Nat × Nat := if erTurned r then (erEncH r, erEncW r) else (erEncW r, erEncH r)

/-- Encoded stitch rows. -/
def erRows (r : List W32) : Nat := (erEncH r + 31) / 32

/-! ### The source's generator -/

/-- The frame-lock generator of a channel's source (R410). -/
def encGenNo (s : State) (r : List W32) : Nat :=
  if erView r then orGen (outRec s (erSrc r)) else (tget {} s.comp.canvases (erSrc r)).gen

/-- It, as it stands. -/
def encGen (s : State) (r : List W32) : FrameLock := flGet s (encGenNo s r)

/-- An area per recorded frame as a load is at most `limit` pixel/s: loads are compared as area × num against limit × den × DIVISOR. -/
def loadWithin (s : State) (r : List W32) (area limit : Nat) : Bool :=
  area * (encGen s r).num.toNat ≤ limit * flDen (encGen s r) * erDivisor r

/-- A load in pixels per 1001 × 840 s: exact for both dividers of a rate and every DIVISOR (R411). -/
def exactLoad (s : State) (r : List W32) (area : Nat) : Nat :=
  area * (encGen s r).num.toNat * (840 / Nat.max 1 (erDivisor r)) * (1001 / flDen (encGen s r))

/-- Encoded and fetch load of a channel (R411). -/
def encLoad (s : State) (r : List W32) : Nat := exactLoad s r (erEncW r * erEncH r)
def encFetch (s : State) (r : List W32) : Nat := exactLoad s r (erW r * erH r)

/-! ### The assignment (R429) -/

/-- The enabled channels in order of priority, then number. -/
def encOrder (s : State) : List Nat :=
  (List.range 8).flatMap fun p => ((s.enc.chans.filter fun x => x.2.en && erPriority x.2.rcd == p).map Prod.fst)

/-- The kinds assigned: channel and kind, 1 full encode, 2 statistics-only. -/
def encKinds (s : State) : List Nat → Nat → Nat → List (Nat × Nat)
  | [], _, _ => []
  | c :: cs, enc, fetch =>
    let r := (ecGet s c).rcd
    let e := enc + encLoad s r
    let f := fetch + encFetch s r
    if !erStats r && e ≤ 4000000000 * 840840 && f ≤ 6000000000 * 840840 then (c, 1) :: encKinds s cs e f
    else (c, 2) :: encKinds s cs enc fetch

/-- The assignment takes effect at each channel's next recorded frame; its cause is the command for the channel that a command names
(unless capacity turned it down), else capacity (R436). -/
def encAssign (named : Option Nat) (s : State) : State :=
  (encKinds s (encOrder s) 0 0).foldl (fun st p =>
    let x := ecGet st p.1
    let cause := if named == some p.1 && (p.2 == 1 || erStats x.rcd) then 1 else 2
    ecSet p.1 { x with next := if x.kind = p.2 then none else some (p.2, cause) } st) s

end Sys2Proof.Machine
end

