-- ==== Sys2Proof/Machine/Host.lean ====
section
/-! DEFINITION. The host rings, doorbells, MSI-X, function resets, the event masks, merging windows and check-value units
(chapter 13, R674 to R693), and the commands that concern only them. -/

namespace Sys2Proof.Machine

/-! ### Ring registers (R519 to R523) -/

/-- The ring exists: rings 0 to 14 of PF0, 0 to 13 of PF1 (Table 13-3). -/
def ringExists (fn r : Nat) : Bool := r < 14 || (r == 14 && fn == 0)

/-- HIFf_RINGr_CTL as a word (Table 13-5). -/
def ringCtl (x : Ring) : W32 :=
  pack [(31, 31, b1 x.en), (28, 24, x.log2), (23, 22, x.slot), (19, 18, x.cpl), (13, 8, x.vector), (7, 7, b1 x.irqEn)]

/-- The writable bits of HIFf_RINGr_CTL. -/
def ringCtlRw : W32 := 0x9FCC3F80

/-- A write of HIFf_RINGr_CTL (R523). -/
def ringCtlWrite (fn r : Nat) (v : W32) (s : State) : State :=
  let x := ringGet s fn r
  if x.en then ringSet s fn r { x with en := bitOf v 31, vector := fld v 13 8, irqEn := bitOf v 7 }
  else
    let y := { x with log2 := fld v 28 24, slot := fld v 23 22, cpl := fld v 19 18, vector := fld v 13 8, irqEn := bitOf v 7 }
    if bitOf v 31 then
      let z := { y with en := true, prod := 0, cons := 0, stopped := false, cause := 0, unsignalled := 0 }
      if 6 ≤ z.log2 && z.log2 ≤ 16 then ringSet s fn r z
      else ringStop fn r 3 0 (ringSet s fn r z)
    else ringSet s fn r y

/-- The BAR0 offset of a ring's registers (R519). -/
def ringOff (fn r : Nat) : Nat := 0x3000 + 0x400 * fn + 0x40 * r

/-- HIFf_RINGr_MOD as a word (Table 13-6). -/
def ringMod (x : Ring) : W32 := pack [(25, 16, x.modTime), (7, 0, x.modCount)]

/-- A write of one of a ring's other registers: the base and data pairs only while it is disabled; otherwise it is dropped (R523),
which R662 reports (DEDUCED, log 60). -/
def ringOtherWrite (fn r sub init : Nat) (v : W32) (s : State) : State :=
  let x := ringGet s fn r
  let o := ringOff fn r
  match sub with
  | 0x00 => if x.en then paramRefused init o v s else holdLo init o (v &&& 0xFFFFF000) s
  | 0x04 =>
    if x.en then paramRefused init (o + 4) v s
    else ringSet (dropLo init o s) fn r { x with baseLo := commitLo init o x.baseLo s, baseHi := v }
  | 0x0C => ringSet s fn r { x with modTime := fld v 25 16, modCount := fld v 7 0 }
  | 0x18 =>
    if !(r == 12 || r == 13) then s
    else if x.en then paramRefused init (o + 0x18) v s
    else holdLo init (o + 0x18) (v &&& 0xFFFFF000) s
  | 0x1C =>
    if !(r == 12 || r == 13) then s
    else if x.en then paramRefused init (o + 0x1C) v s
    else ringSet (dropLo init (o + 0x18) s) fn r { x with dataLo := commitLo init (o + 0x18) x.dataLo s, dataHi := v }
  | _ => s

/-- HIFf_RINGr_STAT (Table 13-7). -/
def ringStat (x : Ring) : W32 := pack [(31, 31, b1 x.stopped), (30, 28, x.cause), (15, 0, x.discards)]

/-- The function whose MSI-X table and pending bits an initiator reaches as its own (R519). -/
def msixFn (init : Nat) : Option Nat := match init with | 0 => some 0 | 1 => some 1 | _ => none

/-- A word of the HIF block without any read effect. -/
def hifPeek (off init : Nat) (s : State) : Option W32 :=
  if off = 0x3800 then some s.hif.cmdSeq
  else if off = 0x3804 then some s.hif.link
  else if off = 0x3808 || off = 0x380C then
    match msixFn init with
    | some f => some ((if off = 0x3808 then (fnGet s f).pba else (fnGet s f).pba >>> 32).setWidth 32)
    | none => some 0
  else if 0x3C00 ≤ off && off < 0x4000 then
    match msixFn init with
    | some f =>
      let m := tget {} (fnGet s f).msix ((off - 0x3C00) / 16)
      some (match off % 16 with | 0 => m.addrLo | 4 => m.addrHi | 8 => m.data | _ => w32 (b1 m.masked))
    | none => some 0
  else if off < 0x3800 then
    let fn := (off - 0x3000) / 0x400
    let r := off % 0x400 / 0x40
    if ringExists fn r then
      let x := ringGet s fn r
      match off % 0x40 with
      | 0x00 => some x.baseLo | 0x04 => some x.baseHi | 0x08 => some (ringCtl x) | 0x0C => some (ringMod x)
      | 0x10 => some x.prod | 0x14 => some x.cons | 0x18 => some x.dataLo | 0x1C => some x.dataHi
      | 0x20 => some (ringStat x) | _ => none
    else none
  else none

/-- A write of an MSI-X table word; unmasking a pending vector sends it (R519, R528). -/
def msixWrite (off init : Nat) (v : W32) (s : State) : State :=
  match msixFn init with
  | none => s
  | some fn =>
    let f := fnGet s fn
    let k := (off - 0x3C00) / 16
    let m := tget {} f.msix k
    let m' := match off % 16 with
      | 0 => { m with addrLo := v &&& 0xFFFFFFFC } | 4 => { m with addrHi := v } | 8 => { m with data := v }
      | _ => { m with masked := bitOf v 0 }
    let s1 := fnSet s fn { f with msix := tset k m' f.msix }
    if off % 16 = 12 && !m'.masked && f.pba.getLsbD k then
      let f1 := fnGet s1 fn
      signalVector fn k (fnSet s1 fn { f1 with pba := f1.pba &&& ~~~(BitVec.ofNat 64 (2 ^ k)) })
    else s1

/-! ### Doorbells (R525) -/

/-- A doorbell write: its check, and the new index or the stop. -/
def doorbell (fn r : Nat) (v : W32) (s : State) : State :=
  let x := ringGet s fn r
  if !ringExists fn r || !x.en || x.stopped then s
  else if hostProduced r then
    if idxDiff v x.cons ≤ ringSize x && idxDiff v x.prod ≤ ringSize x then ringSet s fn r { x with prod := v }
    else ringStop fn r 1 v s
  else if idxDiff v x.cons ≤ ringUsed x then ringSet s fn r { x with cons := v }
  else ringStop fn r 1 v s

/-- The function number of an operand. -/
def fnOf (fn : Nat) : Nat := fn % 2

/-- DOORBELL_WRITE (R525). -/
def execDoorbellWrite (fn ring : Nat) (v : W32) (s : State) : Res := .next (doorbell (fnOf fn) ring v s)

/-- A write of a ring's CTL register by an initiator. -/
def ringCtlReg (fn ring : Nat) (a : RegW) (s : State) : State :=
  if ringExists fn ring then
    regWrite (ringOff fn ring + 8) { rw := ringCtlRw, cur := ringCtl (ringGet s fn ring) } a (ringCtlWrite fn ring) s
  else s

/-- RING_ENABLE (R523). -/
def execRingEnable (fn ring : Nat) (a : RegW) (s : State) : Res := .next (ringCtlReg (fnOf fn) ring a s)

/-- RING_DISABLE (R523). -/
def execRingDisable (fn ring : Nat) (a : RegW) (s : State) : Res := .next (ringCtlReg (fnOf fn) ring a s)

/-- A moderation time that has run out signals the ring's vector (R528). -/
def moderationExpire (fn r : Nat) (s : State) : State :=
  let x := ringGet s fn r
  if deviceProduced fn r && x.irqEn && x.unsignalled != 0 && x.firstAt + x.modTime * 1000 ≤ t2Ns s then
    signalVector fn x.vector (ringSet s fn r { x with unsignalled := 0 })
  else s

/-- IRQ_MODERATION_TIMEOUT (R528). -/
def execIrqModerationTimeout (fn ring : Nat) (s : State) : Res := .next (moderationExpire (fnOf fn) ring s)

/-! ### Function resets (R513, R668) -/

/-- A ring disabled as by a write of EN 0. -/
def ringOffNow (x : Ring) : Ring := { x with en := false }

/-- The host interface of a function after R513: its rings disabled, its completions discarded, its MSI-X table reset. -/
def fnQuiet (fn : Nat) (s : State) : State :=
  let f := fnGet s fn
  let s1 := fnSet s fn { rings := f.rings.map fun e => (e.1, ringOffNow e.2), msix := [], pba := 0 }
  { s1 with hif := { s1.hif with
      outst := s1.hif.outst.map fun o => if o.port != .maint && portFn o.port == fn then { o with discarded := true } else o } }

/-- The pending low words of an initiator are discarded (R668). -/
def dropPending (init : Nat) (s : State) : State :=
  { s with hif := { s.hif with pendLo := s.hif.pendLo.filter fun e => e.1 / 65536 != init } }

/-- FUNCTION_LEVEL_RESET (R513, R668). -/
def execFunctionLevelReset (fn : Nat) (s : State) : Res := .next (dropPending (fnOf fn) (fnQuiet (fnOf fn) s))

/-- D3HOT_ENTRY (R513). -/
def execD3hotEntry (fn : Nat) (s : State) : Res := .next (fnQuiet (fnOf fn) s)

/-- The loss of the host link, HPERST_N included (R513, R722). -/
def linkLoss (s : State) : State :=
  let s1 := fnQuiet 1 (fnQuiet 0 s)
  { s1 with hif := { s1.hif with link := 0, linkUp := false } }

/-- HOST_LINK_LOSS (R513). -/
def execHostLinkLoss (s : State) : Res := .next (linkLoss s)

/-! ### Merging windows (R554) -/

/-- A window of 10 ms closes; one with refusals counted writes its summary event. -/
def windowClose (k : WindowKey) (s : State) : State :=
  match windowFind k s.hif.windows with
  | some x =>
    if x.openedAt + 10000000 ≤ t2Ns s then
      let s1 := { s with hif := { s.hif with windows := s.hif.windows.filter fun y => y.key != k } }
      if x.count = 0 then s1 else raise (windowCode k) (windowWords k x.last x.count true) s1
    else s
  | none => s

/-- NOT_PERMITTED_WINDOW_CLOSE (R554). -/
def execNotPermittedWindowClose (key : WindowKey) (s : State) : Res := .next (windowClose key s)

/-! ### Check-value units (R685 to R693) -/

/-- Unit `u`. -/
def cvuGet (s : State) (u : Nat) : Cvu := tget {} s.hif.cvu u

/-- The block with unit `u` replaced. -/
def cvuSet (u : Nat) (x : Cvu) (s : State) : State := { s with hif := { s.hif with cvu := tset u x s.hif.cvu } }

/-- The offset of unit `u` (R687). -/
def cvuOff (u : Nat) : Nat := 0x7000 + 0x40 * u

/-- CVUu_CTL as a word (Table 17-15). -/
def cvuCtl (x : Cvu) : W32 := pack [(31, 31, b1 x.aliveEn), (1, 0, x.poly)]

/-- CVUu_STAT (Table 17-16). -/
def cvuStat (x : Cvu) : W32 := pack [(3, 3, b1 x.tmo), (2, 2, b1 x.skip), (1, 1, b1 x.rep), (0, 0, b1 x.aliveSet)]

/-- The result of a unit (R689); the reset value until its first initialisation or feed. -/
def cvuRes (x : Cvu) : Nat := if x.fed then cvuResult x.poly x.acc else 0

/-- A write of CVUu_CTL (R688): a change of POLY or INIT initialises once under the new POLY; ALIVE_EN from 0 to 1 clears the
alive reference. -/
def cvuCtlWrite (u : Nat) (v : W32) (s : State) : State :=
  let x := cvuGet s u
  let p := fld v 1 0
  let en := bitOf v 31
  let y := if bitOf v 8 || p != x.poly then { x with poly := p, acc := cvuInit p, count := 0, fed := true } else x
  let z := if en && !x.aliveEn then { y with aliveEn := true, aliveSet := false } else { y with aliveEn := en }
  cvuSet u z s

/-- CVUu_CTL as a register. -/
def cvuCtlInfo (u : Nat) (s : State) : RegInfo := { rw := 0x80000003, w1p := 0x100, cur := cvuCtl (cvuGet s u) }

/-- A feed of bytes (R689). -/
def cvuFeed (u : Nat) (bs : List Byte) (s : State) : State :=
  let x := cvuGet s u
  cvuSet u { x with acc := bs.foldl (cvuByte x.poly) x.acc, count := x.count + w32 bs.length, fed := true } s

/-- The bytes of a feed register, and its offset (R687). -/
def feedBytes (z : FeedSize) : Nat := match z with | .feed8 => 1 | .feed16 => 2 | .feed32 => 4
def feedOff (z : FeedSize) : Nat := match z with | .feed8 => 8 | .feed16 => 0xC | .feed32 => 0x10

/-- CVU_ALARM (Table 17-17), merged per unit (R693). -/
def cvuAlarm (u kind init : Nat) (prev new : Nat) (s : State) : State :=
  raiseMerged (.cvu u) [pack [(31, 30, u), (29, 28, kind), (4, 0, init)], pack [(31, 16, prev), (15, 0, new)]] s

/-- A write of CVUu_ALIVE (R691). -/
def cvuAlive (u init : Nat) (v : W32) (s : State) : State :=
  let x := cvuGet s u
  let c : W16 := v.setWidth 16
  let y := { x with alive := c, aliveAt := t2Ns s, expired := false }
  if !x.aliveEn then cvuSet u y s
  else if !x.aliveSet then cvuSet u { y with aliveSet := true } s
  else
    let d := (c - x.alive).toNat
    if d = 0 then cvuAlarm u 1 init x.alive.toNat c.toNat (cvuSet u { y with rep := true } s)
    else if 1 < d then cvuAlarm u 2 init x.alive.toNat c.toNat (cvuSet u { y with skip := true } s)
    else cvuSet u y s

/-- The alive timeout of a unit has run out (R692). -/
def cvuExpired (x : Cvu) (now : Nat) : Bool :=
  x.aliveEn && x.aliveSet && x.aliveTmo != 0 && !x.expired && x.aliveTmo ≤ (now - x.aliveAt) / 1000000

/-- The expiry of an alive timeout. -/
def cvuTimeout (u : Nat) (s : State) : State :=
  let x := cvuGet s u
  if cvuExpired x (t2Ns s) then cvuAlarm u 3 0x1F 0 x.alive.toNat (cvuSet u { x with tmo := true, expired := true } s) else s

/-- A word of the CVU block without any read effect. -/
def cvuPeek (off : Nat) (s : State) : Option W32 :=
  if off < 0x7100 then
    let x := cvuGet s ((off - 0x7000) / 0x40)
    match off % 0x40 with
    | 0x00 => some (cvuCtl x) | 0x04 => some (cvuStat x) | 0x08 => some 0 | 0x0C => some 0 | 0x10 => some 0
    | 0x14 => some (w32 (cvuRes x)) | 0x18 => some (w32 (cvuRes x / 2 ^ 32)) | 0x1C => some (w32 x.alive.toNat)
    | 0x20 => some (w32 x.aliveTmo) | 0x24 => some x.count | _ => none
  else none

/-- Clear a field of CVUu_STAT, named by its bit. -/
def cvuClear (off lo : Nat) (s : State) : State :=
  let u := (off - 0x7000) / 0x40
  let x := cvuGet s u
  match lo with
  | 3 => cvuSet u { x with tmo := false } s
  | 2 => cvuSet u { x with skip := false } s
  | _ => cvuSet u { x with rep := false } s

/-- CVU_INIT (R688). -/
def execCvuInit (u : Nat) (a : RegW) (s : State) : Res :=
  .next (regWrite (cvuOff (u % 4)) (cvuCtlInfo (u % 4) s) a (cvuCtlWrite (u % 4)) s)

/-- CVU_POLY_WRITE (R688). -/
def execCvuPolyWrite (u : Nat) (a : RegW) (s : State) : Res :=
  .next (regWrite (cvuOff (u % 4)) (cvuCtlInfo (u % 4) s) a (cvuCtlWrite (u % 4)) s)

/-- CVU_ALIVE_ENABLE (R688). -/
def execCvuAliveEnable (u : Nat) (a : RegW) (s : State) : Res :=
  .next (regWrite (cvuOff (u % 4)) (cvuCtlInfo (u % 4) s) a (cvuCtlWrite (u % 4)) s)

/-- CVU_FEED (R689): the feed registers are write-only, so an alias write of one is dropped (R671). -/
def execCvuFeed (u : Nat) (size : FeedSize) (a : RegW) (s : State) : Res :=
  .next (regWrite (cvuOff (u % 4) + feedOff size) { rw := 0 } a
    (fun v st => cvuFeed (u % 4) (bytesLE (feedBytes size) v.toNat) st) s)

/-- CVU_ALIVE_WRITE (R691). -/
def execCvuAliveWrite (u : Nat) (a : RegW) (s : State) : Res :=
  .next (regWrite (cvuOff (u % 4) + 0x1C) { rw := 0xFFFF, cur := w32 (cvuGet s (u % 4)).alive.toNat } a
    (cvuAlive (u % 4) a.init) s)

/-- CVU_ALIVE_TIMEOUT (R692). -/
def execCvuAliveTimeout (u : Nat) (s : State) : Res := .next (cvuTimeout (u % 4) s)

/-! ### ID and EV blocks (R674, R677) -/

/-- A word of the EV block without any read effect. -/
def evPeek (off : Nat) (s : State) : Option W32 :=
  let d (x : EvDest) : Option W32 := if off % 0x10 = 0 then some x.seq else if off % 0x10 = 4 then some (w32 x.lost) else none
  if off < 0xF010 then d s.hif.dest0
  else if off < 0xF020 then d s.hif.dest1
  else if off < 0xF030 then d s.hif.dest2
  else if 0xF100 ≤ off && off < 0xF110 then some (wd s.hif.mask0 (off % 0x10 / 4))
  else if 0xF110 ≤ off && off < 0xF120 then some (wd s.hif.mask1 (off % 0x10 / 4))
  else if 0xF120 ≤ off && off < 0xF130 then some (wd s.hif.mask2 (off % 0x10 / 4))
  else if 0xF130 ≤ off && off < 0xF140 then some (wd s.hif.allow1 (off % 0x10 / 4))
  else none

/-- EV_DESTd_LOST is cleared by a read. -/
def evClear (off : Nat) (s : State) : State :=
  if off < 0xF010 then { s with hif := { s.hif with dest0 := { s.hif.dest0 with lost := 0 } } }
  else if off < 0xF020 then { s with hif := { s.hif with dest1 := { s.hif.dest1 with lost := 0 } } }
  else { s with hif := { s.hif with dest2 := { s.hif.dest2 with lost := 0 } } }

/-! ### Commands of this chapter -/

/-- NOP does nothing (R540). -/
def opNop (_ : Cmd) (s : State) : State × Reply := (s, .ok [])

/-- NOP (R540). -/
def execNop (c : Cmd) (s : State) : Res := .next (hostCommand 0x0000 opNop c s)

/-- The words W3 to W6 of a mask. -/
def maskWords (c : Cmd) : List W32 := [cw c 3, cw c 4, cw c 5, cw c 6]

/-- Every bit of the first mask is a bit of the second. -/
def maskWithin (a b : List W32) : Bool := (List.range 4).all fun i => wd a i &&& ~~~(wd b i) == 0

/-- EVENT_MASK_SET (R538, R550, R556): PF1 sets only its own mask, within its allowance; the maintenance port only its own, and
its sender becomes the destination. -/
def opEventMaskSet (c : Cmd) (s : State) : State × Reply :=
  let t := (cw c 2).toNat
  let m := maskWords c
  checked [
    (c.port == .pf1 && t != 3, noRight), (c.port == .maint && t != 2, noRight),
    (!(t < 4), badField 8),
    (c.port == .pf1 && !maskWithin m s.hif.allow1, noRight)]
    (fun st =>
      let h := st.hif
      match t with
      | 0 => ({ st with hif := { h with mask0 := m } }, .ok [])
      | 1 => ({ st with hif := { h with allow1 := m } }, .ok [])
      | 2 => ({ st with hif := { h with mask2 := m, maintDest := if c.port == .maint then some c.src else h.maintDest } }, .ok [])
      | _ => ({ st with hif := { h with mask1 := m } }, .ok [])) s

/-- EVENT_MASK_SET (R550). -/
def execEventMaskSet (c : Cmd) (s : State) : Res := .next (hostCommand 0x0002 opEventMaskSet c s)

/-- A region class's budget limits are wrong (R538). -/
def limitBad (c : Cmd) (i : Nat) : Bool :=
  let v := cw c (4 + i)
  let lo := fld v 15 0
  let hi := fld v 31 16
  bitOf (cw c 3) i && !(20 ≤ lo && lo ≤ 60000 && 20 ≤ hi && hi ≤ 60000 && lo ≤ hi)

/-- PF1_LIMITS_SET (R538). -/
def opPf1LimitsSet (c : Cmd) (s : State) : State × Reply :=
  checked [
    (16 ≤ (cw c 2).toNat, badField 8), (16 ≤ (cw c 3).toNat, badField 12),
    (limitBad c 0, badField 16), (limitBad c 1, badField 20), (limitBad c 2, badField 24), (limitBad c 3, badField 28),
    (192 < (cw c 8).toNat, badField 32)]
    (fun st =>
      let b := (List.range 4).map fun i => (i, (fld (cw c (4 + i)) 15 0, fld (cw c (4 + i)) 31 16))
      ({ st with hif := { st.hif with pf1 :=
          { classes := (cw c 2).toNat, regions := (cw c 3).toNat, budgets := b, streams := (cw c 8).toNat } } }, .ok [])) s

/-- PF1_LIMITS_SET (R538). -/
def execPf1LimitsSet (c : Cmd) (s : State) : Res := .next (hostCommand 0x0003 opPf1LimitsSet c s)

/-- SELFTEST (R540): Maintenance only; it completes when the tests end. -/
def opSelftest (c : Cmd) (s : State) : State × Reply :=
  checked [(s.pwr.mode != .maintenance, wrongMode)] (fun st => (st, .later (cw c 2).toNat [])) s

/-- SELFTEST (R540). -/
def execSelftest (c : Cmd) (s : State) : Res := .next (hostCommand 0x0007 opSelftest c s)

/-- The end of the device self-tests: the mask of the failed ones among those selected, in W6 (R540, Table 13-11). -/
def selftestEnd (failed : W32) (s : State) : State :=
  match outstOf 0x0007 s with
  | some o => completeOutst o 0 0 [failed &&& w32 o.target] s
  | none => s

/-- SELFTEST_END (R540). -/
def execSelftestEnd (failed : W32) (s : State) : Res := .next (selftestEnd failed s)

/-- A command with an unlisted opcode completes with BAD_OPCODE (R540); one with a listed opcode has a row of its own, and here
changes nothing. -/
def unknownOpcode (opcode : Nat) (c : Cmd) (s : State) : State :=
  if (opPorts (opcode % 65536)).isNone then hostCommand (opcode % 65536) opNop c s else s

/-- UNKNOWN_OPCODE (R540). -/
def execUnknownOpcode (opcode : Nat) (c : Cmd) (s : State) : Res := .next (unknownOpcode opcode c s)

end Sys2Proof.Machine
end

