-- ==== Sys2Proof/Machine/Lanes.lean ====
section
/-! DEFINITION. Serial lanes as the functions behind them see them: states and rates (Tables 17-5, 18-1, 18-3), LANE_STATE
(R712), and the calibration before an enable (R700). -/

namespace Sys2Proof.Machine

/-! ### Which function uses a lane (R371, R259, R225, R437) -/

/-- The split of a quad: 3 (1 × 4 lanes) at cast-on. -/
def quadSplit (s : State) (q : Nat) : Nat := tget 3 s.bb.splits q

/-- The lanes of the input that lane `n` starts, 0 when it starts none. -/
def inputLanes (s : State) (n : Nat) : Nat :=
  let j := n % 4
  match quadSplit s (n / 4) with
  | 0 => 1
  | 1 => if j = 0 || j = 2 then 2 else 0
  | 2 => if j = 0 then 2 else if j = 1 then 0 else 1
  | _ => if j = 0 then 4 else 0

/-- The enabled output that uses V lane `i`. -/
def laneOutput (s : State) (i : Nat) : Option Nat :=
  (s.scan.outs.find? fun x => x.2.en && x.1 ≤ i && i < x.1 + 2 ^ orLanes (outRec s x.1)).map Prod.fst

/-- The enabled input that uses I lane `i`. -/
def laneInput (s : State) (i : Nat) : Option Nat :=
  (s.bb.ins.find? fun x => x.2.en && x.1 ≤ i && i < x.1 + inputLanes s x.1).map Prod.fst

/-- The port that N lane `i` belongs to: the first port of its pair in 100 Gb/s mode, else its own (R225). -/
def lanePort (s : State) (i : Nat) : Nat := if tget false s.net.mode100 (i / 2) then i - i % 2 else i

/-- The module works as one of a pair. -/
def pairMode (m : Mode) : Bool := m == .lead || m == .follow || m == .knitUp || m == .drill

/-- An enabled function uses lane `i`. -/
def laneUsed (s : State) (i : Nat) : Bool :=
  if i < 48 then (laneOutput s i).isSome
  else if i < 64 then (laneInput s (i - 48)).isSome
  else if i < 72 then (tget {} s.net.ports (lanePort s (i - 64))).en
  else if i < 80 then s.hif.linkUp && i - 72 < fld s.hif.link 7 4
  else pairMode s.pwr.mode || s.pair.linkUp

/-- The function sends or receives over lane `i`. -/
def laneLive (s : State) (i : Nat) : Bool :=
  if i < 48 then match laneOutput s i with
    | some o => (outGet s o).up
    | none => false
  else if i < 64 then match laneInput s (i - 48) with
    | some n => (tget {} s.bb.ins n).trained
    | none => false
  else if i < 72 then (tget {} s.net.ports (lanePort s (i - 64))).up
  else if i < 80 then s.hif.linkUp
  else s.pair.linkUp && bitOf s.pair.lanes (i - 80)

/-! ### States and events -/

/-- Lanes of an N port, of an input. -/
def portLaneList (s : State) (p : Nat) : List Nat := if tget false s.net.mode100 (p / 2) then [64 + p, 64 + p + 1] else [64 + p]
def inputLaneList (s : State) (n : Nat) : List Nat := (List.range (inputLanes s n)).map fun j => 48 + n + j

/-- A lane is being calibrated, or runs a test loop: its function receives nothing (R702, Table 18-4). -/
def laneOut (s : State) (i : Nat) : Bool := let o := (tget {} s.lane.lanes i : Lane).ovl; o == 3 || o == 4

/-- Lane `i`. -/
def laneGet (s : State) (i : Nat) : Lane := tget {} s.lane.lanes i

/-- The block with a lane changed by a function. -/
def laneUpd (i : Nat) (f : Lane → Lane) (s : State) : State :=
  { s with lane := { s.lane with lanes := tupd {} i f s.lane.lanes } }

/-- A lane's state (Table 18-3). -/
def laneState (s : State) (i : Nat) : Nat :=
  let o := (laneGet s i).ovl
  if o != 0 then o else if !laneUsed s i then 6 else if laneLive s i then 0 else 1

/-- A lane's rate code (Table 17-5); 0 while no function uses it. -/
def laneRate (s : State) (i : Nat) : Nat :=
  if !laneUsed s i then 0
  else if i < 48 then match laneOutput s i with | some o => orRate (outRec s o) | none => 0
  else if i < 64 then match laneInput s (i - 48) with | some n => (tget {} s.bb.ins n).rate | none => 0
  else if i < 72 then b1 (tget false s.net.mode100 ((i - 64) / 2))
  else if i < 80 then fld s.hif.link 2 0
  else 1

/-- LANE_STATE (Table 18-7): a change from `old` to the lane's present state. -/
def laneEvent (i old cause micros : Nat) (s : State) : State :=
  raise 0x5C [pack [(31, 24, i), (23, 21, laneState s i), (20, 18, old), (17, 10, cause)], w32 micros,
    w32 (laneGet s i).errs] s

/-- A lane enters a state that stands over its function's (recalibrating, loop, deep), with LANE_STATE. -/
def laneEnter (ovl cause : Nat) (i : Nat) (s : State) : State :=
  let old := laneState s i
  laneEvent i old cause 0 (laneUpd i (fun x => { x with ovl := ovl, cause := cause, since := t2Ns s, wait := false }) s)

/-- A lane leaves such a state, with LANE_STATE and the time it took. -/
def laneLeave (cause : Nat) (i : Nat) (s : State) : State :=
  let old := laneState s i
  let d := (t2Ns s - (laneGet s i).since) / 1000
  laneEvent i old cause d (laneUpd i (fun x => { x with ovl := 0, loop := 0, cause := 0 }) s)

/-! ### Calibration at an enable (R700) -/

/-- The first of some lanes whose cast-on calibration failed. -/
def laneBroken (s : State) (is : List Nat) : Option Nat := is.find? fun i => !(laneGet s i).cal

/-- RESOURCE_HELD for a lane. -/
def laneHeld (i : Nat) : Reply := held 0xFF (0x300 + i)

/-- An enable of a function on some lanes: refused for a broken lane; at once where none of them is in state 6; else its lanes
calibrate first and the command completes at their end. -/
def laneEnable (is : List Nat) (target : Nat) (arg : List Nat) (work : State → State × Reply) (s : State) : State × Reply :=
  match laneBroken s is with
  | some i => (s, laneHeld i)
  | none =>
    let cold := is.filter fun i => laneState s i == 6
    if cold.isEmpty then work s else (cold.foldl (fun st i => laneEnter 3 5 i st) s, .later target arg)

/-! ### Registers (R675, R676) -/

/-- LN_LANEi. -/
def lnStatus (s : State) (i : Nat) : W32 :=
  let x := laneGet s i
  pack [(31, 29, laneState s i), (28, 26, x.loop), (25, 22, laneRate s i), (15, 0, sat16 x.recals)]

/-- Reads of the LN block. -/
def lnPeek (off : Nat) (s : State) : Option W32 :=
  let a := off - 0x6000
  if off < 0x6000 || 0x7000 ≤ off then none
  else if a < 4 * 84 then some (lnStatus s (a / 4))
  else if 0x200 ≤ a && a < 0x200 + 4 * 84 then some (w32 (laneGet s ((a - 0x200) / 4)).errs)
  else none

/-- A read of LN_ERRi clears it. -/
def lnClear (off : Nat) (s : State) : State := laneUpd ((off - 0x6200) / 4) (fun x => { x with errs := 0 }) s

end Sys2Proof.Machine
end

