-- ==== Sys2Proof/Machine/Packet.lean ====
section
/-! DEFINITION. Received and transmitted Ethernet frames read byte by byte: the frame check sequence (R59, R257), tags and IP headers
(R231), what a frame carries (R195, R229, Table 06-5), RTP headers (R202), the sample rows of ST 2110-20 (R245), and the
depacketiser of Table 06-5a (R240, R241). The layouts are those of the standards that the rules name (PRESUMED, log 63). -/

namespace Sys2Proof.Machine

/-! ### Frames -/

/-- The number spelt by bytes, most significant first. -/
def natBE (bs : List Byte) : Nat := bs.foldl (fun a b => 256 * a + b.toNat) 0

/-- `n` bytes at an offset, most significant first. -/
def beAt (bs : List Byte) (off n : Nat) : Nat := natBE ((bs.drop off).take n)

/-- The frame check sequence of Ethernet: the reflected CRC of polynomial 0xEDB88320. -/
def ethFcs (bs : List Byte) : W32 := BitVec.ofNat 32 (bs.foldl (crcReflByte 0xEDB88320) 0xFFFFFFFF ^^^ 0xFFFFFFFF)

/-- A frame as it leaves a port: its FCS appended, least significant byte first (R257). -/
def withFcs (bs : List Byte) : List Byte := bs ++ bytesLE 4 (ethFcs bs).toNat

/-- The 802.1Q tags from an offset on. -/
def tagsAt (bs : List Byte) : Nat → Nat → Nat
  | 0, _ => 0
  | fuel + 1, o => if beAt bs o 2 = 0x8100 || beAt bs o 2 = 0x88A8 then tagsAt bs fuel (o + 4) + 1 else 0

/-- An IP packet: version 6, addresses, protocol (IPv6: that of the first header that is no extension), the bytes from there on,
and whether R231 discards it: a failed IPv4 header checksum, a fragment, a header cut short. -/
structure IpPkt where
  v6 : Bool
  src : List Byte
  dst : List Byte
  proto : Nat
  data : List Byte
  bad : Bool := false
deriving DecidableEq, Repr

/-- The sum of 16-bit words with its carries folded in. -/
def onesSum : Nat → List Byte → Nat
  | acc, a :: b :: l => onesSum (acc + 256 * a.toNat + b.toNat) l
  | acc, [a] => acc + 256 * a.toNat
  | acc, [] => acc

/-- The checksum of an IPv4 header holds. -/
def ipSumOk (hdr : List Byte) : Bool :=
  let n := onesSum 0 hdr
  let m := n % 65536 + n / 65536
  m % 65536 + m / 65536 == 0xFFFF

/-- An IPv4 packet. -/
def ip4Of (bs : List Byte) : IpPkt :=
  let n := 4 * ((bs.getD 0 0).toNat % 16)
  { v6 := false, src := (bs.drop 12).take 4, dst := (bs.drop 16).take 4, proto := (bs.getD 9 0).toNat,
    data := (bs.take (beAt bs 2 2)).drop n,
    bad := n < 20 || bs.length < n || (bs.getD 0 0).toNat / 16 != 4 || !ipSumOk (bs.take n) || beAt bs 6 2 % 0x4000 != 0 }

/-- The headers of an IPv6 packet after the fixed one: the protocol reached, the bytes from there on, a fragment header met. -/
def ip6Next : Nat → Nat → List Byte → Nat × List Byte × Bool
  | 0, p, bs => (p, bs, false)
  | fuel + 1, p, bs =>
    if p = 44 then (p, bs, true)
    else if p = 0 || p = 43 || p = 60 then ip6Next fuel (bs.getD 0 0).toNat (bs.drop (8 * (bs.getD 1 0).toNat + 8))
    else (p, bs, false)

/-- An IPv6 packet. -/
def ip6Of (bs : List Byte) : IpPkt :=
  let (p, d, frag) := ip6Next 8 (bs.getD 6 0).toNat ((bs.drop 40).take (beAt bs 4 2))
  { v6 := true, src := (bs.drop 8).take 16, dst := (bs.drop 24).take 16, proto := p, data := d,
    bad := bs.length < 40 || (bs.getD 0 0).toNat / 16 != 6 || frag }

end Sys2Proof.Machine

namespace Sys2Proof

/-! ### What a frame shows -/

/-- The FCS received is that of the bytes (R60). -/
def EthFrame.fcsOk (f : EthFrame) : Bool := Machine.ethFcs f.bytes == f.fcs

/-- The length with the FCS. -/
def EthFrame.len (f : EthFrame) : Nat := f.bytes.length + 4

/-- The destination MAC, its first byte most significant. -/
def EthFrame.dst (f : EthFrame) : Nat := Machine.beAt f.bytes 0 6

/-- The 802.1Q tags, up to four. -/
def EthFrame.tags (f : EthFrame) : Nat := Machine.tagsAt f.bytes 4 12

/-- The VLAN identifier of the first tag. -/
def EthFrame.vid (f : EthFrame) : Nat := Machine.beAt f.bytes 14 2 % 4096

/-- The EtherType after the tags. -/
def EthFrame.etherType (f : EthFrame) : Nat := Machine.beAt f.bytes (12 + 4 * f.tags) 2

/-- The bytes after the EtherType. -/
def EthFrame.payload (f : EthFrame) : List Byte := f.bytes.drop (14 + 4 * f.tags)

/-- The IP packet of a frame that carries one. -/
def EthFrame.ip (f : EthFrame) : Option Machine.IpPkt :=
  if f.etherType = 0x0800 then some (Machine.ip4Of f.payload)
  else if f.etherType = 0x86DD then some (Machine.ip6Of f.payload) else none

/-- The IP header is bad, or the packet is a fragment (R231). -/
def EthFrame.ipBad (f : EthFrame) : Bool := match f.ip with | some p => p.bad | none => false

/-- What the frame carries (R195, R229, Table 06-5). -/
def EthFrame.body (f : EthFrame) : EthBody :=
  if f.etherType = 0x8808 then .pause
  else if f.etherType = 0x88F7 then .ptp ((f.payload.getD 0 0).toNat % 16)
  else if f.etherType = 0x0806 then .arp
  else match f.ip with
    | some p =>
      match p.proto with
      | 1 => if p.v6 then .other else .icmp false (p.data.getD 0 0).toNat
      | 58 => if p.v6 then .icmp true (p.data.getD 0 0).toNat else .other
      | 2 => if p.v6 then .other else .igmp
      | 6 => .tcp
      | 17 => .udp { v6 := p.v6, dst := p.dst, src := p.src, port := BitVec.ofNat 16 (Machine.beAt p.data 2 2), data := p.data.drop 8 }
      | _ => .other
    | none => .other

/-- The RTP packet of a UDP payload: version 2, after the contributing sources and the header extension, without padding. -/
def UdpPkt.rtp (u : UdpPkt) : Option RtpPkt :=
  let d := u.data
  let b0 := (d.getD 0 0).toNat
  let b1 := (d.getD 1 0).toNat
  let n := 12 + 4 * (b0 % 16)
  let n' := if b0 / 16 % 2 = 1 then n + 4 + 4 * Machine.beAt d (n + 2) 2 else n
  let pad := if b0 / 32 % 2 = 1 then (d.getD (d.length - 1) 0).toNat else 0
  if b0 / 64 != 2 || d.length < n' + pad then none
  else some { pt := b1 % 128, ssrc := BitVec.ofNat 32 (Machine.beAt d 8 4), seq := BitVec.ofNat 16 (Machine.beAt d 2 2),
              ts := BitVec.ofNat 32 (Machine.beAt d 4 4), marker := 128 ≤ b1, payload := (d.take (d.length - pad)).drop n' }

end Sys2Proof

namespace Sys2Proof.Machine

/-! ### Control classes (Table 06-5) -/

/-- The control class that a frame's content names by itself: PTP event messages (R195), PTP general messages, IGMP and MLD, ARP and
ICMP. A frame of no such content is of class 4, 5 or 6, or of none. -/
def bodyClass (b : EthBody) : Option Nat :=
  match b with
  | .ptp t => if t < 4 then some 0 else some 1
  | .udp p => if p.port = 319 && (p.data.getD 0 0).toNat % 16 < 4 then some 0 else if p.port = 320 then some 1 else none
  | .igmp => some 2
  | .icmp v6 t => if v6 && (t == 130 || t == 131 || t == 132 || t == 143) then some 2 else some 3
  | .arp => some 3
  | .pause => none
  | .tcp => none
  | .other => none

/-! ### Sample rows of ST 2110-20 (R61, R245) -/

/-- The pixel pairs of a run of pixel groups, each as Cb, Y of the left pixel, Cr, Y of the right one. -/
def pixelGroups (ten : Bool) : Nat → List Byte → List (Nat × Nat × Nat × Nat)
  | 0, _ => []
  | n + 1, bs =>
    if ten then
      let v := beAt bs 0 5
      (v / 2 ^ 30 % 1024, v / 2 ^ 20 % 1024, v / 2 ^ 10 % 1024, v % 1024) :: pixelGroups ten n (bs.drop 5)
    else
      let g (i : Nat) : Nat := (bs.getD i 0).toNat
      (g 0, g 1, g 2, g 3) :: pixelGroups ten n (bs.drop 4)

/-- The sample row data headers of a payload, as (bytes, line, offset), and where the samples start; none past three headers. -/
def rowHeaders (bs : List Byte) : Nat → Nat → Option (List (Nat × Nat × Nat) × Nat)
  | 0, _ => none
  | fuel + 1, o =>
    let h := (beAt bs o 2, beAt bs (o + 2) 2, beAt bs (o + 4) 2 % 32768)
    if beAt bs (o + 4) 2 < 32768 then some ([h], o + 6)
    else (rowHeaders bs fuel (o + 6)).map fun x => (h :: x.1, x.2)

/-- The runs of samples that headers announce. -/
def rowRuns (ten : Bool) : List (Nat × Nat × Nat) → List Byte → Option (List SampleSeg)
  | [], _ => some []
  | (len, line, off) :: hs, bs =>
    let g := if ten then 5 else 4
    if len % g != 0 || bs.length < len then none
    else
      let ps := pixelGroups ten (len / g) bs
      (rowRuns ten hs (bs.drop len)).map fun l =>
        { line := line, off := off, y := ps.flatMap fun p => [p.2.1, p.2.2.2], cb := ps.map fun p => p.1, cr := ps.map fun p => p.2.2.1 } :: l

/-- The extended sequence field and the runs of samples of an ST 2110-20 payload; none where it is not well made. -/
def rowsOf (ten : Bool) (bs : List Byte) : Option (Nat × List SampleSeg) :=
  match rowHeaders bs 3 2 with
  | some (hs, o) => if bs.length < o then none else (rowRuns ten hs (bs.drop o)).map fun l => (beAt bs 0 2, l)
  | none => none

/-! ### The depacketiser (R240, R241) -/

/-- What a packet of a compressed stream gives: its mode is supported, its bytes rebuilt (of AV1, as received), and whether it holds
the start of a random access point (R305). -/
structure Depack where
  ok : Bool := true
  bytes : List Byte := []
  rap : Bool := false
deriving DecidableEq, Repr

/-- An Annex B start code. -/
def startCode : List Byte := [0, 0, 0, 1]

/-- The units of an aggregation packet, each after its 16-bit size. -/
def aggregated : Nat → List Byte → List (List Byte)
  | 0, _ => []
  | fuel + 1, bs =>
    if bs.length < 3 then [] else (bs.drop 2).take (beAt bs 0 2) :: aggregated fuel (bs.drop (2 + beAt bs 0 2))

/-- The NAL unit type of H.264 and of H.265. -/
def avcType (nal : List Byte) : Nat := (nal.getD 0 0).toNat % 32
def hevcType (nal : List Byte) : Nat := (nal.getD 0 0).toNat / 2 % 64

/-- A NAL unit type that makes a random access point: IDR; of H.265, IRAP types 16 to 21. -/
def avcRap (t : Nat) : Bool := t == 5
def hevcRap (t : Nat) : Bool := 16 ≤ t && t ≤ 21

/-- A packet of RFC 6184: single NAL unit, STAP-A, FU-A. -/
def depackAvc (p : List Byte) : Depack :=
  let t := avcType p
  if t = 24 then
    let ns := aggregated p.length (p.drop 1)
    { bytes := ns.flatMap fun n => startCode ++ n, rap := ns.any fun n => avcRap (avcType n) }
  else if t = 28 then
    let h := (p.getD 1 0).toNat
    let head : Byte := BitVec.ofNat 8 ((p.getD 0 0).toNat / 32 * 32 + h % 32)
    { bytes := (if 128 ≤ h then startCode ++ [head] else []) ++ p.drop 2, rap := avcRap (h % 32) }
  else if t = 0 || 24 ≤ t then { ok := false }
  else { bytes := startCode ++ p, rap := avcRap t }

/-- A packet of RFC 7798 without decoding-order numbers: single NAL unit, aggregation packet, fragmentation unit. -/
def depackHevc (p : List Byte) : Depack :=
  let t := hevcType p
  if t = 48 then
    let ns := aggregated p.length (p.drop 2)
    { bytes := ns.flatMap fun n => startCode ++ n, rap := ns.any fun n => hevcRap (hevcType n) }
  else if t = 49 then
    let h := (p.getD 2 0).toNat
    let b0 := (p.getD 0 0).toNat
    let head : Byte := BitVec.ofNat 8 (b0 / 128 * 128 + h % 64 * 2 + b0 % 2)
    { bytes := (if 128 ≤ h then startCode ++ [head, p.getD 1 0] else []) ++ p.drop 3, rap := hevcRap (h % 64) }
  else if 48 ≤ t then { ok := false }
  else { bytes := startCode ++ p, rap := hevcRap t }

/-- A leb128 number: its value and the bytes it takes. -/
def leb128 : Nat → List Byte → Nat × Nat
  | 0, _ => (0, 0)
  | _ + 1, [] => (0, 0)
  | fuel + 1, b :: bs =>
    if b.toNat < 128 then (b.toNat, 1)
    else let (v, n) := leb128 fuel bs; (b.toNat % 128 + 128 * v, n + 1)

/-- A number as leb128. -/
def toLeb128 : Nat → Nat → List Byte
  | 0, _ => []
  | fuel + 1, v => if v < 128 then [BitVec.ofNat 8 v] else BitVec.ofNat 8 (128 + v % 128) :: toLeb128 fuel (v / 128)

/-- The OBU elements of an AV1 packet: `left` of them still counted by the aggregation header (0: every one has its length). -/
def obuElements : Nat → Nat → Bool → List Byte → List (List Byte)
  | 0, _, _, _ => []
  | fuel + 1, left, counted, bs =>
    if bs.isEmpty then []
    else if counted && left = 1 then [bs]
    else
      let (n, k) := leb128 8 bs
      (bs.drop k).take n :: obuElements fuel (left - 1) counted (bs.drop (k + n))

/-- The elements of an AV1 payload. -/
def av1Elements (p : List Byte) : List (List Byte) :=
  let w := (p.getD 0 0).toNat / 16 % 4
  obuElements p.length w (w != 0) (p.drop 1)

/-- An OBU header's type, extension and size flags. -/
def obuType (d : List Byte) : Nat := (d.getD 0 0).toNat / 8 % 16
def obuExt (d : List Byte) : Bool := (d.getD 0 0).toNat / 4 % 2 == 1
def obuSized (d : List Byte) : Bool := (d.getD 0 0).toNat / 2 % 2 == 1

/-- An OBU of a key frame: a frame or its header, not shown from a slot, of frame type 0. -/
def obuKey (d : List Byte) : Bool :=
  let b := (d.getD (1 + b1 (obuExt d)) 0).toNat
  (obuType d == 3 || obuType d == 6) && b / 32 == 0

/-- A packet of the AV1 payload format: one spatial layer. Its elements are joined when the unit closes. -/
def depackAv1 (p : List Byte) : Depack :=
  let first := (p.getD 0 0).toNat / 128 == 1
  let es := if first then (av1Elements p).drop 1 else av1Elements p
  { ok := !(es.any fun d => obuExt d && (d.getD 1 0).toNat / 8 % 4 != 0), bytes := p, rap := es.any obuKey }

/-- An OBU in low-overhead bitstream format: with its size. -/
def obuOut (d : List Byte) : List Byte :=
  if d.isEmpty then []
  else if obuSized d then d
  else
    let n := 1 + b1 (obuExt d)
    BitVec.ofNat 8 ((d.getD 0 0).toNat + 2) :: (d.drop 1).take (n - 1) ++ toLeb128 8 (d.length - n) ++ d.drop n

/-- The elements of one packet joined to the fragment before them: the bytes out, the fragment left. -/
def av1Join (z y : Bool) : List (List Byte) → List Byte → List Byte × List Byte
  | [], carry => ([], carry)
  | e :: es, carry =>
    let d := if z then carry ++ e else e
    let pre := if z then [] else obuOut carry
    if es.isEmpty && y then (pre, d)
    else let (o, c) := av1Join false y es []; (pre ++ obuOut d ++ o, c)

/-- A packet of RFC 2435: types 0 and 1, 64 and 65 being the same with restart markers. The frame's first packet brings the headers
that the RFC implies, its last the end marker. -/
def depackJpeg (p : List Byte) (marker : Bool) : Depack :=
  let t := (p.getD 4 0).toNat
  let q := (p.getD 5 0).toNat
  let off := beAt p 1 3
  let n := if 64 ≤ t then 12 else 8
  let tabs := if off = 0 && 128 ≤ q then beAt p (n + 2) 2 else 0
  let m := if off = 0 && 128 ≤ q then n + 4 + tabs else n
  let head := if off = 0 then
      Config.jpegHeader [t, q, (p.getD 6 0).toNat, (p.getD 7 0).toNat, if 64 ≤ t then beAt p 8 2 else 0] ((p.drop (n + 4)).take tabs)
    else []
  { ok := t % 64 ≤ 1 && t < 128, bytes := head ++ p.drop m ++ (if marker then [0xFF, 0xD9] else []), rap := true }

/-- A packet of RFC 9134: a progressive codestream, in either mode. -/
def depackXs (p : List Byte) : Depack := { ok := (p.getD 0 0).toNat / 8 % 4 == 0, bytes := p.drop 4, rap := true }

/-- A packet of a compressed stream of a format code (Table 06-5a): none of those modes is a format error. -/
def depack (fmt : Nat) (h : RtpPkt) : Depack :=
  let d := match fmt with
    | 0 => depackAvc h.payload | 1 => depackHevc h.payload | 2 => depackAv1 h.payload | 3 => depackJpeg h.payload h.marker
    | _ => depackXs h.payload
  if d.ok && !h.payload.isEmpty then d else { ok := false }

end Sys2Proof.Machine
end

