-- ==== Sys2Proof/Machine/Memory.lean ====
section
/-! DEFINITION. The HBM3 stack, memory windows and ports, the access gates, and the control fabric (chapter 14). -/

namespace Sys2Proof.Machine

/-! ### Bytes in canonical form -/

/-- The byte at a physical index; an unlisted byte reads 0 (DESIGN CHOICE, log 4). -/
def memGet : List Host.Cell → Nat → Byte
  | [], _ => 0
  | (a, b) :: m, k => if k = a then b else memGet m k

/-- The memory with the byte at `k` set, addresses kept rising and no zero byte listed. -/
def memSet (k : Nat) (v : Byte) : List Host.Cell → List Host.Cell
  | [] => if v = 0 then [] else [(k, v)]
  | (a, b) :: m =>
    if k < a then (if v = 0 then (a, b) :: m else (k, v) :: (a, b) :: m)
    else if k = a then (if v = 0 then m else (k, v) :: m)
    else (a, b) :: memSet k v m

/-- Addresses strictly rising from above `lo`, no zero byte listed. -/
def memAbove (lo : Nat) : List Host.Cell → Bool
  | [] => true
  | (a, b) :: m => decide (lo ≤ a) && b != 0 && memAbove (a + 1) m

/-- The canonical form of a memory. -/
def Memory.wf (m : List Host.Cell) : Bool := memAbove 0 m

/-- The memory with several bytes set, in order. -/
def memSetAll (l : List (Nat × Byte)) (m : List Host.Cell) : List Host.Cell :=
  l.foldl (fun acc e => memSet e.1 e.2 acc) m

/-! ### Windows and address-map orders (R563 to R567) -/

/-- Window `n`. -/
def winGet (m : MemState) (n : Nat) : MemWindow := tget {} m.windows n

/-- How many of the low `n` bits are set. -/
def popBits : Nat → W32 → Nat
  | 0, _ => 0
  | n + 1, w => popBits n w + b1 (bitOf w n)

/-- The pseudo-channels of a window. -/
def winChannels (w : MemWindow) : Nat := popBits 32 w.mask

/-- A window's size in bytes (R563). -/
def winSize (w : MemWindow) : Nat := w.rowCount * 65536 * winChannels w

/-- A window's device base in bytes. -/
def winBase (w : MemWindow) : Nat := w.base * 65536

/-- The enabled window that holds a device address (R566). -/
def winOf (m : MemState) (a : Nat) : Option MemWindow :=
  ((List.range 8).map (winGet m)).find? fun w => w.en && decide (winBase w ≤ a) && decide (a < winBase w + winSize w)

/-- The position of the `k`-th lowest set bit of a mask, from 0, searching from bit `i`. -/
def nthBit (mask : W32) : Nat → Nat → Nat → Nat
  | 0, i, _ => i
  | fuel + 1, i, k => if bitOf mask i then (if k = 0 then i else nthBit mask fuel (i + 1) (k - 1)) else nthBit mask fuel (i + 1) k

/-- Pseudo-channel, bank, row and column of an offset in a window (R567). -/
def mapOrder (w : MemWindow) (o : Nat) : Nat × Nat × Nat × Nat :=
  let u := o / 1024
  let col := o / 32 % 32
  match w.order with
  | 0 =>
    let v := u / 32
    ((u ^^^ (u / 32) ^^^ (u / 1024)) % 32, (v ^^^ (v / 64)) % 64, w.rowBase + v / 64, col)
  | 1 =>
    let v := u / 128
    ((u / 4) % 32, (v ^^^ (v / 16)) % 16 * 4 + u % 4, w.rowBase + v / 16, col)
  | 2 =>
    let g := o / 256
    let x := g / 32
    let v := x / 4
    ((g ^^^ (g / 32)) % 32, (v ^^^ (v / 64)) % 64, w.rowBase + v / 64, 8 * (x % 4) + o / 32 % 8)
  | _ =>
    let k := winChannels w
    let v := u / k
    (nthBit w.mask 32 0 (u % k), (v ^^^ (v / 64)) % 64, w.rowBase + v / 64, col)

/-- The physical byte index of a device address in its window. -/
def physOf (w : MemWindow) (a : Nat) : Nat :=
  let o := a - winBase w
  let (pc, bk, row, col) := mapOrder w o
  ((pc * 64 + bk) * 12288 + row) * 1024 + col * 32 + o % 32

/-- The pseudo-channel of a device address in its window. -/
def pcOf (w : MemWindow) (a : Nat) : Nat := (mapOrder w (a - winBase w)).1

/-- The byte at a device address; unmapped addresses read 0 (R566). -/
def devByte (m : MemState) (a : Nat) : Byte :=
  match winOf m a with
  | some w => memGet m.hbm (physOf w a)
  | none => 0

/-- A whole range lies in stitch-interleaved windows (R569). -/
def stitchInterleaved (m : MemState) (a n : Nat) : Bool :=
  match winOf m a with
  | some w => w.order == 0 && decide (a + n ≤ winBase w + winSize w)
  | none => false

/-! ### Ports and tension regulators (R570 to R572) -/

/-- A port's reset registers (Table 14-4): class, rate in 0.1 GB/s, burst in 4 KiB; its bucket starts full (log 14). -/
def portDefault (p : Nat) : MemPort :=
  let mk (g : Bool) (r b : Nat) : MemPort := { guar := g, rate := r, burst := b, tokens := b * 4096 }
  match p with
  | 0 => mk true 360 256 | 1 => mk true 100 256 | 2 => mk true 360 256 | 3 => mk true 100 256 | 4 => mk true 80 256
  | 5 => mk false 400 1024 | 6 => mk false 400 1024 | 7 => mk false 400 1024 | 8 => mk false 400 1024
  | 9 => mk false 600 1024 | 10 => mk false 600 1024 | 11 => mk true 520 3072 | 12 => mk true 520 3072
  | 13 => mk false 80 256 | 14 => mk false 240 1024 | 15 => mk false 160 512 | 16 => mk true 520 256 | 17 => mk false 80 256
  | 18 => mk true 360 256 | 19 => mk false 200 1024 | 20 => mk false 250 1024 | 21 => mk false 40 64 | 22 => mk false 80 64
  | _ => mk false 160 256

/-- Port `p`. -/
def portGet (m : MemState) (p : Nat) : MemPort := tget (portDefault p) m.ports p

/-- The guaranteed rates' sum (MC_GSUM, R572). -/
def guarSum (m : MemState) : Nat :=
  (List.range 24).foldl (fun acc p => let x := portGet m p; if x.guar then acc + x.rate else acc) 0

/-- A port's bucket refilled to a moment of T2 (R571). -/
def portRefill (x : MemPort) (now : Nat) : MemPort :=
  { x with tokens := Nat.min (x.burst * 4096) (x.tokens + x.rate * (now - x.tokensAt) / 10), tokensAt := now }

/-- A port that will never issue: elastic, stopped and out of tokens (R571, Table 14-10). -/
def portStalled (x : MemPort) (n : Nat) : Bool := !x.guar && x.rate == 0 && decide (x.tokens < 64 * n)

/-- A port that has issued `n` units: tokens taken, units served, units that waited for tokens (R571). -/
def portIssue (x : MemPort) (n : Nat) : MemPort :=
  let k := Nat.min n (x.tokens / 64)
  { x with tokens := x.tokens - 64 * k, units := x.units + w32 n, dry := sat32 (x.dry + (n - k)) }

/-! ### Requests (R560, R566, R573, R580, R581, R584) -/

/-- The memory answers: its domain is on and not in self-refresh. -/
def memoryOn (s : State) : Bool := domainAnswers s 13 5

/-- How a unit of a request fares: served, unmapped, or forbidden at a gate. -/
inductive UnitFate where
  | served (phys : Nat)
  | unmapped
  | forbidden (gate : Nat)
deriving DecidableEq, Repr

/-- The fate of the unit at a device address (R566, R580). -/
def unitFate (m : MemState) (init a : Nat) (write : Bool) : UnitFate :=
  match winOf m a with
  | none => .unmapped
  | some w =>
    let g := pcOf w a / 4
    if gateAllows (gateGet m g) init a write then .served (physOf w a) else .forbidden g

/-- The addresses of a request's units. -/
def unitsOf (a n : Nat) : List Nat := (List.range ((a % 64 + n + 63) / 64)).map fun i => a / 64 * 64 + 64 * i

/-- The forbidden units of a request, with their gates. -/
def forbiddenUnits (m : MemState) (init : Nat) (us : List Nat) (write : Bool) : List (Nat × Nat) :=
  us.filterMap fun a => match unitFate m init a write with | .forbidden g => some (a, g) | _ => none

/-- The unmapped units of a request. -/
def unmappedUnits (m : MemState) (init : Nat) (us : List Nat) (write : Bool) : List Nat :=
  us.filter fun a => unitFate m init a write == .unmapped

/-- MEM_STATE (Table 14-13). -/
def memState (cause pc : Nat) (above : Bool) (addr p3 : Nat) (s : State) : State :=
  raise 0x4B [pack [(31, 24, cause), (23, 16, pc), (15, 15, b1 above)], w32 addr, w32 (addr / 2 ^ 32), w32 p3] s

/-- One GATE_DENIED event for a request, with every gate's count (R581). -/
def requestDenied (init : Nat) (write : Bool) (fs : List (Nat × Nat)) (s : State) : State :=
  match fs with
  | [] => s
  | (a, g) :: _ =>
    let m := s.mem
    let gates := fs.foldl (fun t f => tset f.2 { tget {} t f.2 with denied := sat32 ((tget {} t f.2 : Gate).denied + 1) } t) m.gates
    raiseMerged (.gateDenied g init)
      [pack [(31, 27, init), (26, 22, g), (21, 21, b1 write)], w32 a, w32 (a / 2 ^ 32), w32 fs.length, (gateGet m g).epoch]
      { s with mem := { m with gates := gates } }

/-- The unmapped units of a request are reported once (R566). -/
def requestUnmapped (init : Nat) (us : List Nat) (s : State) : State :=
  match us with
  | [] => s
  | a :: _ => memState 4 0xFF false a init { s with mem := { s.mem with unmapped := true } }

/-- The bytes a read returns: zeros for forbidden and unmapped units (R566, R581). -/
def readBytes (m : MemState) (init a n : Nat) : List Byte :=
  (List.range n).map fun i =>
    match unitFate m init ((a + i) / 64 * 64) false with
    | .served _ => devByte m (a + i)
    | _ => 0

/-- The bytes that a write puts into the stack: those of allowed, mapped units (R581). -/
def writeCells (m : MemState) (init a : Nat) (bs : List Byte) : List (Nat × Byte) :=
  (List.range bs.length).filterMap fun i =>
    match unitFate m init ((a + i) / 64 * 64) true, winOf m (a + i) with
    | .served _, some w => some (physOf w (a + i), bs.getD i 0)
    | _, _ => none

/-- One request of the port (R571, R581): its error completion, its data, and the block after it. -/
def request (init port a n : Nat) (data : Option (List Byte)) (s : State) : Bool × List Byte × State :=
  let write := data.isSome
  if !memoryOn s then
    (true, (List.range n).map fun i => if (a + i) % 2 = 0 then 0xF0 else 0x0F, offBlock init 13 write true a s)
  else
    let us := unitsOf a n
    let m0 := s.mem
    let m := { m0 with ports := tset port (portIssue (portRefill (portGet m0 port) (t2Ns s)) us.length) m0.ports }
    let fs := forbiddenUnits m init us write
    let un := unmappedUnits m init us write
    let out := if write then [] else readBytes m init a n
    let hbm := match data with | some bs => memSetAll (writeCells m init a bs) m.hbm | none => m.hbm
    let s1 := requestUnmapped init un (requestDenied init write fs { s with mem := { m with hbm := hbm } })
    (!(fs.isEmpty && un.isEmpty), out, s1)

/-- A stage's read of `n` bytes, split at 4 KiB boundaries (R560): whether any part ended with an error, and the bytes. -/
def busRead (init port : Nat) : Nat → Nat → Nat → State → Bool × List Byte × State
  | 0, _, _, s => (false, [], s)
  | fuel + 1, a, n, s =>
    if n = 0 then (false, [], s)
    else
      let k := Nat.min n (4096 - a % 4096)
      let (e, bs, s1) := request init port a k none s
      let (e2, bs2, s2) := busRead init port fuel (a + k) (n - k) s1
      (e || e2, bs ++ bs2, s2)

/-- A stage's write of bytes, split at 4 KiB boundaries (R560): whether any part ended with an error. -/
def busWrite (init port : Nat) : Nat → Nat → List Byte → State → Bool × State
  | 0, _, _, s => (false, s)
  | fuel + 1, a, bs, s =>
    if bs.isEmpty then (false, s)
    else
      let k := Nat.min bs.length (4096 - a % 4096)
      let (e, _, s1) := request init port a k (some (bs.take k)) s
      let (e2, s2) := busWrite init port fuel (a + k) (bs.drop k) s1
      (e || e2, s2)

/-- A request that R560 allows: 64 to 4,096 bytes, aligned to 64, within 4 KiB, by an initiator through a port, with data of its
length. -/
def requestOk (r : MemReq) : Bool :=
  64 ≤ r.len && r.len ≤ 4096 && r.len % 64 == 0 && r.addr % 64 == 0 && r.addr % 4096 + r.len ≤ 4096 && r.addr < 2 ^ 35 &&
    r.port < 24 && r.init < 21 && (match r.data with | some d => d.length == r.len | none => true)

/-- MEMORY_REQUEST: the request is served and answered; one that a stopped elastic port holds back waits (R571). -/
def memoryRequest (r : MemReq) (s : State) : State :=
  if !requestOk r || (memoryOn s && portStalled (portRefill (portGet s.mem r.port) (t2Ns s)) (r.len / 64)) then s
  else
    let (e, bs, s1) := request r.init r.port r.addr r.len r.data s
    send (.memReply r.init e bs) s1

/-- MEMORY_REQUEST (R581). -/
def execMemoryRequest (r : MemReq) (s : State) : Res := .next (memoryRequest r s)

/-! ### MC registers (R597 to R600) -/

/-- The block with its memory state replaced. -/
def withMem (s : State) (m : MemState) : State := { s with mem := m }

/-- Windows may be written in this mode (R565). -/
def winMode (m : Mode) : Bool := m == .castOn || m == .ready || m == .maintenance

/-- Two ranges meet; an empty one meets none. -/
def rangesMeet (a n b k : Nat) : Bool := n != 0 && k != 0 && decide (a < b + k) && decide (b < a + n)

/-- Two windows overlap in device address or own the same row of the same pseudo-channel (R564). -/
def winClash (x y : MemWindow) : Bool :=
  rangesMeet (winBase x) (winSize x) (winBase y) (winSize y) ||
    (rangesMeet x.rowBase x.rowCount y.rowBase y.rowCount && (x.mask &&& y.mask) != 0)

/-- Window `n` with settings `x` may be enabled (R563, R564). -/
def winMayEnable (m : MemState) (n : Nat) (x : MemWindow) : Bool :=
  x.rowBase + x.rowCount ≤ 12288 && (x.order == 3 || x.mask == 0xFFFFFFFF) &&
    (List.range 8).all fun k => k == n || !(winGet m k).en || !winClash x (winGet m k)

/-- A write of MC_WINn_CTL (R564, R565): while enabled it can only clear EN (DEDUCED, log 13). -/
def winCtlWrite (n init : Nat) (v : W32) (s : State) : State :=
  let x := winGet s.mem n
  let off := 0x5020 + 0x10 * n
  let put' (y : MemWindow) : State := withMem s { s.mem with windows := tset n y s.mem.windows }
  if !winMode s.pwr.mode then paramRefused init off v s
  else if x.en then (if bitOf v 31 then paramRefused init off v s else put' { x with en := false })
  else
    let y := { x with order := fld v 1 0 }
    if !bitOf v 31 then put' y
    else if winMayEnable s.mem n { y with en := true } then put' { y with en := true }
    else paramRefused init off v s

/-- A write of a window's BASE, ROWS or PCMASK (R565). -/
def winOtherWrite (n sub init : Nat) (v : W32) (s : State) : State :=
  let x := winGet s.mem n
  if !winMode s.pwr.mode || x.en then paramRefused init (0x5020 + 0x10 * n + sub) v s
  else
    let y := match sub with
      | 4 => { x with base := fld v 18 0 }
      | 8 => { x with rowCount := fld v 29 16, rowBase := fld v 13 0 }
      | _ => { x with mask := v }
    withMem s { s.mem with windows := tset n y s.mem.windows }

/-- MC_WINn_CTL as a register. -/
def winCtlInfo (n : Nat) (s : State) : RegInfo :=
  let x := winGet s.mem n
  { rw := 0x80000003, cur := pack [(31, 31, b1 x.en), (1, 0, x.order)] }

/-- MC_WIN_ENABLE (R564). -/
def execMcWinEnable (n : Nat) (a : RegW) (s : State) : Res :=
  .next (regWrite (0x5020 + 0x10 * (n % 8)) (winCtlInfo (n % 8) s) a (winCtlWrite (n % 8) a.init) s)

/-- MC_PORTp_RATE as a word (Table 14-10). -/
def portRateWord (x : MemPort) : W32 := pack [(31, 31, b1 x.guar), (15, 0, x.rate)]

/-- A write of MC_PORTp_RATE (R572, R600): dropped when the guaranteed rates would exceed 450 GB/s. -/
def portRateWrite (p init : Nat) (v : W32) (s : State) : State :=
  let x := portRefill (portGet s.mem p) (t2Ns s)
  let m := { s.mem with ports := tset p { x with guar := bitOf v 31, rate := fld v 15 0 } s.mem.ports }
  if 4500 < guarSum m then paramRefused init (0x5100 + 0x10 * p) v s else withMem s m

/-- A write of MC_PORTp_BURST: tokens held are cut to the new burst (R600). -/
def portBurstWrite (p init : Nat) (v : W32) (s : State) : State :=
  let x := portRefill (portGet s.mem p) (t2Ns s)
  let b := fld v 15 0
  if b = 0 then paramRefused init (0x5104 + 0x10 * p) v s
  else withMem s { s.mem with ports := tset p { x with burst := b, tokens := Nat.min x.tokens (b * 4096) } s.mem.ports }

/-- MC_PORT_RATE_WRITE (R572). -/
def execMcPortRateWrite (p : Nat) (a : RegW) (s : State) : Res :=
  .next (regWrite (0x5100 + 0x10 * (p % 24)) { rw := 0x8000FFFF, cur := portRateWord (portGet s.mem (p % 24)) } a
    (portRateWrite (p % 24) a.init) s)

/-- A pseudo-channel's error counters. -/
def eccGet (m : MemState) (pc : Nat) : Ecc := tget {} m.ecc pc

/-- A word of the MC block without any read effect. -/
def mcPeek (off : Nat) (s : State) : Option W32 :=
  let m := s.mem
  if 0x5400 ≤ off && off < 0x5480 then
    let e := eccGet m ((off - 0x5400) / 4)
    some (pack [(31, 16, e.corrected), (15, 0, e.uncorrected)])
  else if 0x5100 ≤ off && off < 0x5280 then
    let x := portGet m ((off - 0x5100) / 0x10)
    match off % 0x10 with
    | 0 => some (portRateWord x) | 4 => some (w32 x.burst) | 8 => some x.units | _ => some (w32 x.dry)
  else if 0x5020 ≤ off && off < 0x50A0 then
    let x := winGet m ((off - 0x5020) / 0x10)
    match off % 0x10 with
    | 0 => some (pack [(31, 31, b1 x.en), (1, 0, x.order)]) | 4 => some (w32 x.base)
    | 8 => some (pack [(29, 16, x.rowCount), (13, 0, x.rowBase)]) | _ => some x.mask
  else match off with
    | 0x5000 => some (pack [(3, 3, b1 m.hot), (2, 2, b1 m.unmapped), (1, 0, m.mcState)])
    | 0x5004 => some m.temp | 0x5008 => some m.pageTmo | 0x500C => some m.scrub | 0x5010 => some (w32 (guarSum m))
    | _ => none

/-- Clear a counter or bit of the MC block. -/
def mcClear (off lo : Nat) (s : State) : State :=
  let m := s.mem
  if 0x5400 ≤ off then
    let pc := (off - 0x5400) / 4
    let e := eccGet m pc
    withMem s { m with ecc := tset pc (if lo = 16 then { e with corrected := 0 } else { e with uncorrected := 0 }) m.ecc }
  else if 0x5100 ≤ off then
    let p := (off - 0x5100) / 0x10
    let x := portGet m p
    withMem s { m with ports := tset p (if off % 0x10 = 8 then { x with units := 0 } else { x with dry := 0 }) m.ports }
  else withMem s { m with unmapped := false }

/-! ### Refresh, retraining, scrub, temperature (R574 to R578) -/

/-- BANK_REFRESH (R574): one bank of the pseudo-channel is refreshed, the next one in turn follows. -/
def bankRefresh (pc : Nat) (s : State) : State :=
  if s.mem.mcState = 2 then
    withMem s { s.mem with refreshNext := tset pc ((tget 0 s.mem.refreshNext pc + 1) % 64) s.mem.refreshNext }
  else s

/-- BANK_REFRESH (R574). -/
def execBankRefresh (pc : Nat) (s : State) : Res := .next (bankRefresh (pc % 32) s)

/-- The stack's temperature sensor reads `temp`, in 1/16 °C (R574, MC_TEMP); a crossing of 85 °C is reported. -/
def stackTemp (temp : W16) (s : State) : State :=
  let hot := decide (1360 < temp.toInt)
  let s1 := withMem s { s.mem with temp := w32 temp.toNat, hot := hot }
  if hot != s.mem.hot then memState 3 0xFF hot 0 0 s1 else s1

/-- STACK_TEMP_CROSSING (R574). -/
def execStackTempCrossing (temp : W16) (s : State) : Res := .next (stackTemp temp s)

/-- SCRUB_READ of the unit at a device address (R576 to R578). -/
def scrubRead (a : Nat) (r : ScrubResult) (s : State) : State :=
  match winOf s.mem a with
  | none => s
  | some w =>
    if !bitOf s.mem.scrub 31 || s.mem.mcState != 2 then s
    else
      let pc := pcOf w a
      let e := eccGet s.mem pc
      match r with
      | .clean => s
      | .corrected =>
        let n := sat16 (e.corrected + 1)
        let s1 := withMem s { s.mem with ecc := tset pc { e with corrected := n, total := e.total + 1 } s.mem.ecc }
        if (e.total + 1) % 256 = 0 then memState 1 pc false 0 n s1 else s1
      | .uncorrected =>
        memState 2 pc false a 0
          (withMem s { s.mem with ecc := tset pc { e with uncorrected := sat16 (e.uncorrected + 1) } s.mem.ecc })

/-- SCRUB_READ (R576). -/
def execScrubRead (unit : Nat) (r : ScrubResult) (s : State) : Res := .next (scrubRead unit r s)

/-! ### Gate rules: staging, commits, epochs (R585 to R587) -/

/-- The block with gate `g` replaced. -/
def gateSet (g : Nat) (x : Gate) (s : State) : State := withMem s { s.mem with gates := tset g x s.mem.gates }

/-- The gates whose last commit is not done (GT_PEND). -/
def gatesPending (m : MemState) : W32 := m.commits.foldl (fun acc c => acc ||| c.gates) 0

/-- GATE_STAGE (R585). -/
def opGateStage (c : Cmd) (s : State) : State × Reply :=
  let g := fld (cw c 2) 4 0
  let base := w64of (cw c 4) (cw c 5)
  let limit := w64of (cw c 6) (cw c 7)
  checked [
    (24 ≤ g, badField 8),
    (g < 8 && base % 64 != 0, badField 16), (g < 8 && ((limit + 1) % 64 != 0 || 2 ^ 35 ≤ limit), badField 24),
    (g < 8 && limit < base, badField 16),
    (8 ≤ g && (base % 4 != 0 || 0xFFF < base), badField 16),
    (8 ≤ g && ((limit + 1) % 4 != 0 || 0xFFF < limit), badField 24)]
    (fun st =>
      let x := gateGet st.mem g
      let r : Rule := { valid := bitOf (cw c 9) 31, base := base, limit := limit, mask := cw c 8,
                        wr := bitOf (cw c 9) 1, rd := bitOf (cw c 9) 0 }
      (gateSet g { x with shadow := tset (fld (cw c 3) 5 0) r x.shadow } st, .ok [])) s

/-- GATE_STAGE (R585). -/
def execGateStage (c : Cmd) (s : State) : Res := .next (hostCommand 0x0900 opGateStage c s)

/-- The gates that a mask names. -/
def gatesOf (m : W32) : List Nat := (List.range 24).filter fun g => bitOf m g

/-- A gate that has taken its shadow set and a new epoch (R586). -/
def gateTake (epoch : W32) (x : Gate) : Gate := { x with active := x.shadow, epoch := epoch }

/-- GATE_COMMIT (R586). -/
def opGateCommit (c : Cmd) (s : State) : State × Reply :=
  let gs := gatesOf (cw c 2)
  let pend := gatesPending s.mem
  checked [
    (gs.any fun g => bitOf pend g, held 0xFF ((gs.find? fun g => bitOf pend g).getD 0)),
    (gs.any fun g => (gateGet s.mem g).epoch == cw c 3, badField 12)]
    (fun st =>
      let m := st.mem
      let gates := gs.foldl (fun t g => tset g (gateTake (cw c 3) (tget {} t g)) t) m.gates
      (withMem st { m with gates := gates,
                           commits := m.commits ++ [{ gates := cw c 2 &&& 0xFFFFFF, epoch := cw c 3, since := t2Ns st }] },
       .ok [])) s

/-- GATE_COMMIT (R586). -/
def execGateCommit (c : Cmd) (s : State) : Res := .next (hostCommand 0x0901 opGateCommit c s)

/-- The oldest commit is done: the model's accesses complete within their step, so none older remains (R587, log 15). -/
def gateCommitDone (s : State) : State :=
  match s.mem.commits with
  | [] => s
  | c :: cs =>
    raise 0x49 [c.gates, c.epoch, w32 (sat32 (t2Ns s - c.since))]
      (withMem s { s.mem with commits := cs, gtDone := s.mem.gtDone ||| c.gates })

/-- GATE_COMMIT_DONE (R587). -/
def execGateCommitDone (s : State) : Res := .next (gateCommitDone s)

/-- The rule that GT_RSEL selects (Table 14-12). -/
def selectedRule (m : MemState) : Rule :=
  let g := gateGet m m.rselGate
  tget {} (if m.rselShadow then g.shadow else g.active) m.rselRule

/-- A word of the GT block without any read effect. -/
def gtPeek (off : Nat) (s : State) : Option W32 :=
  let m := s.mem
  if off < 0x4060 then some (gateGet m ((off - 0x4000) / 4)).epoch
  else if 0x4100 ≤ off && off < 0x4160 then some (w32 (gateGet m ((off - 0x4100) / 4)).denied)
  else
    let r := selectedRule m
    match off with
    | 0x4080 => some (gatesPending m) | 0x4084 => some m.gtDone
    | 0x4200 => some (pack [(31, 31, b1 m.rselShadow), (12, 8, m.rselGate), (5, 0, m.rselRule)])
    | 0x4204 => some (w32 r.base) | 0x4208 => some (w32 (r.base / 2 ^ 32)) | 0x420C => some (w32 r.limit)
    | 0x4210 => some (w32 (r.limit / 2 ^ 32)) | 0x4214 => some r.mask
    | 0x4218 => some (pack [(31, 31, b1 r.valid), (1, 1, b1 r.wr), (0, 0, b1 r.rd)]) | _ => none

/-- Clear a field of the GT block: a bit of GT_DONE, or a GT_DENIED counter. -/
def gtClear (off lo : Nat) (s : State) : State :=
  if off = 0x4084 then withMem s { s.mem with gtDone := s.mem.gtDone &&& ~~~(w32 (2 ^ lo)) }
  else let g := (off - 0x4100) / 4; gateSet g { gateGet s.mem g with denied := 0 } s

/-- A write of GT_RSEL: a gate above 23 is out of range (Table 14-12, R662). -/
def rselWrite (init : Nat) (v : W32) (s : State) : State :=
  if 23 < fld v 12 8 then paramRefused init 0x4200 v s
  else withMem s { s.mem with rselShadow := bitOf v 31, rselGate := fld v 12 8, rselRule := fld v 5 0 }

/-! ### The control fabric (R591 to R594) -/

/-- The fabric rank of an initiator (Table 14-6). -/
def fabricRank (init : Nat) : Nat :=
  match init with
  | 0 => 3 | 1 => 4 | 2 => 3 | 4 => 2 | 5 => 1 | 6 => 1 | 7 => 1 | 8 => 0 | 9 => 0 | 10 => 1
  | 11 => 0 | 12 => 0 | 16 => 0 | 17 => 0 | _ => 5

/-- The initiator has a path onto the fabric (Table 14-6). -/
def onFabric (init : Nat) : Bool := fabricRank init < 5

/-- A request arrives: parked while fewer than eight are, else kept at its own port; one request of each requester (R593). -/
def fabArrive (m : MemState) (a : FabArrival) : MemState :=
  let known := (m.parked ++ m.atPort).any fun r => r.init == a.init
  let r : FabReq := { init := a.init, addr := a.addr, beats := Nat.max 1 a.beats }
  if known || !onFabric a.init then m
  else if m.parked.length < 8 then { m with parked := m.parked ++ [r] }
  else { m with atPort := m.atPort ++ [r] }

/-- The better of two parked requests, the first parked earlier (R594). -/
def fabBetter (x y : FabReq) : FabReq :=
  if x.promoted then x else if y.promoted then y else if fabricRank y.init < fabricRank x.init then y else x

/-- The request granted next (R594). -/
def fabChoose : List FabReq → Option FabReq
  | [] => none
  | r :: rs => some (rs.foldl fabBetter r)

/-- A request passed over by a grant; four of them promote it (R594). -/
def fabPassed (r : FabReq) : FabReq := { r with passed := r.passed + 1, promoted := r.promoted || 4 ≤ r.passed + 1 }

/-- LOCK_CUT (R592): a 17th beat under the lock. -/
def lockCut (r : FabReq) (s : State) : State :=
  if 16 < r.beats then raise 0x4C [pack [(31, 27, r.init)], w32 (r.addr + 64)] s else s

/-- FABRIC_GRANT: arrivals are parked, the fabric frees, the next request is granted; an over-long locked sequence is cut. -/
def fabricGrant (as : List FabArrival) (s : State) : State :=
  let m := as.foldl fabArrive s.mem
  match fabChoose m.parked with
  | none => withMem s { m with owner := none }
  | some r =>
    let rest := (m.parked.filter fun x => x.init != r.init).map fabPassed
    let m1 := match m.atPort with
      | [] => { m with parked := rest, owner := some r }
      | w :: ws => { m with parked := rest ++ [w], atPort := ws, owner := some r }
    lockCut r (withMem s m1)

/-- FABRIC_GRANT (R594). -/
def execFabricGrant (arrivals : List FabArrival) (s : State) : Res := .next (fabricGrant arrivals s)

end Sys2Proof.Machine
end

