-- ==== Sys2Proof/Machine/Surface.lean ====
section
/-! DEFINITION. Stitches: the grid, stored formats, slots and tags (R41 to R54), due ticks (R95 to R99), verified reads and tagged
writes of stitches (R52, R69 to R71), and the reports of custody failures (R85 to R88). -/

namespace Sys2Proof.Machine

/-! ### The grid and the stored formats -/

/-- Stitch columns of a width, or stitch rows of a height (R41). -/
def stitchN (n : Nat) : Nat := (n + 31) / 32

/-- Pixels of stitch `i` along an extent of `n` pixels: 32, or what is left (R42). -/
def stitchExt (n i : Nat) : Nat := Nat.min 32 (n - 32 * i)

/-- Full-stitch payload of a stored format, in Table 02-1's order from 0. -/
def slotSize (fmt : Nat) : Nat :=
  match fmt with
  | 0 => 1536 | 1 => 2048 | 2 => 3072 | 3 => 3072 | 5 => 6144 | _ => 4096

/-- Horizontal and vertical chroma divisors of a stored format (R44). -/
def chromaDiv (fmt : Nat) : Nat × Nat :=
  match fmt with
  | 0 => (2, 2) | 3 => (2, 2) | 1 => (2, 1) | 4 => (2, 1) | _ => (1, 1)

/-- The format holds separate Y, Cb and Cr planes. -/
def isPlanar (fmt : Nat) : Bool := fmt < 6

/-- Samples have 10 bits. -/
def isTenBit (fmt : Nat) : Bool := fmt == 3 || fmt == 4 || fmt == 5 || fmt == 7

/-- A surface of this format and size may exist (R43). -/
def surfaceOk (fmt w h : Nat) : Bool :=
  let d := chromaDiv fmt
  w % d.1 == 0 && h % d.2 == 0

/-- The divisors of plane `p` (0: Y or pixels). -/
def planeDiv (fmt p : Nat) : Nat × Nat := if p = 0 then (1, 1) else chromaDiv fmt

/-- A sample in its container. -/
def sampleBytes (fmt v : Nat) : List Byte := if isTenBit fmt then bytesLE 2 v else bytesLE 1 v

/-- Sample `(x, y)` of a plane held in raster order. -/
def planeAt (planes : List (List Nat)) (fmt w p x y : Nat) : Nat :=
  ((planes.getD p []).getD (y * (w / (planeDiv fmt p).1) + x) 0)

/-- Bytes of one plane of a stitch, row by row (R46). -/
def planeBytes (planes : List (List Nat)) (fmt w h sx sy p : Nat) : List Byte :=
  let d := planeDiv fmt p
  let cols := stitchExt w sx / d.1
  (List.range (stitchExt h sy / d.2)).flatMap fun y =>
    (List.range cols).flatMap fun x =>
      sampleBytes fmt (planeAt planes fmt w p (32 * sx / d.1 + x) (32 * sy / d.2 + y))

/-- One pixel of a packed RGB format (R46, R47): planes R, G, B. -/
def pixelBytes (planes : List (List Nat)) (fmt w x y : Nat) : List Byte :=
  let c (p : Nat) := planeAt planes fmt w p x y
  if fmt = 6 then bytesLE 4 (c 2 % 256 + 256 * (c 1 % 256) + 65536 * (c 0 % 256))
  else bytesLE 4 (c 2 % 1024 + 1024 * (c 1 % 1024) + 1048576 * (c 0 % 1024) + 3 * 2 ^ 30)

/-- The payload of a stitch in stored order (R46). -/
def payload (planes : List (List Nat)) (fmt w h sx sy : Nat) : List Byte :=
  if isPlanar fmt then (List.range 3).flatMap (planeBytes planes fmt w h sx sy)
  else (List.range (stitchExt h sy)).flatMap fun y =>
    (List.range (stitchExt w sx)).flatMap fun x => pixelBytes planes fmt w (32 * sx + x) (32 * sy + y)

/-- The payload length of a stitch. -/
def payloadLen (fmt w h sx sy : Nat) : Nat :=
  let n := stitchExt w sx * stitchExt h sy
  if isPlanar fmt then
    let d := chromaDiv fmt
    (n + 2 * ((stitchExt w sx / d.1) * (stitchExt h sy / d.2))) * (if isTenBit fmt then 2 else 1)
  else 4 * n

/-- Byte offset of sample `(x, y)` of plane `p` within a stitch's payload. -/
def sampleOff (fmt w h sx sy p x y : Nat) : Nat :=
  let k := if isTenBit fmt then 2 else 1
  let d := chromaDiv fmt
  let luma := stitchExt w sx * stitchExt h sy
  let chroma := (stitchExt w sx / d.1) * (stitchExt h sy / d.2)
  if !isPlanar fmt then 4 * (y * stitchExt w sx + x)
  else if p = 0 then k * (y * stitchExt w sx + x)
  else k * (luma + (p - 1) * chroma + y * (stitchExt w sx / d.1) + x)

/-- Sample `(x, y)` of component `p` read from a stitch's payload: R, G, B for packed formats. -/
def sampleOf (bs : List Byte) (fmt w h sx sy p x y : Nat) : Nat :=
  let o := sampleOff fmt w h sx sy p x y
  if fmt = 6 then (bs.getD (o + 2 - p) 0).toNat
  else if fmt = 7 then fldN (leAt bs o 4) (29 - 10 * p) (20 - 10 * p)
  else leAt bs o (if isTenBit fmt then 2 else 1)

/-- Alpha of a packed 10-bit pixel. -/
def alphaOf (bs : List Byte) (w h sx sy x y : Nat) : Nat := leAt bs (sampleOff 7 w h sx sy 0 x y) 4 / 2 ^ 30

/-- A planar 10-bit container holds a value above 10 bits: a transform treats the stitch as a parity failure (R47). -/
def containerBad (fmt : Nat) (bs : List Byte) : Bool :=
  isPlanar fmt && isTenBit fmt && (List.range (bs.length / 2)).any fun i => 4 ≤ (bs.getD (2 * i + 1) 0).toNat

/-- Mid-grey of a planar format's depth. -/
def midGrey (fmt : Nat) : Nat := if isTenBit fmt then 0x200 else 0x80

/-! ### Tags and ticks -/

/-- The full tick of a T0 time in ns (R95). -/
def fullTick (ns : Nat) : Nat := (ns / 1000000000) * 1024 + (ns % 1000000000) * 128 / 125000000

/-- The 20-bit tick (R95). -/
def tick (ns : Nat) : Nat := fullTick ns % 2 ^ 20

/-- DUE_TICK of an origin and a budget in ms (R98). -/
def dueTick (origin budget : Nat) : Nat := tick (origin + budget * 1000000)

/-- The full due tick of a source stitch, from its frame record and its tag (R99). -/
def dueFull (origin due : Nat) : Nat := fullTick origin + (due + 2 ^ 20 - tick origin) % 2 ^ 20

/-- A tag (Table 02-3). -/
def tagWord (crc due flags : Nat) : Nat := crc * 2 ^ 32 + (due % 2 ^ 20) * 4096 + flags % 4096

/-- The fields of a tag. -/
def tagCrc (t : Nat) : Nat := t / 2 ^ 32
def tagDue (t : Nat) : Nat := fldN t 31 12
def tagFlags (t : Nat) : Nat := fldN t 11 0

/-- A flag's bit in a mask of flags (R55). -/
def flagCONCEALED : Nat := 1
def flagFROZEN : Nat := 2
def flagTIME_SUSPECT : Nat := 4
def flagINCOMPLETE : Nat := 8
def flagCUSTODY_FAIL : Nat := 16
def flagARRIVAL_TIMED : Nat := 32
def flagTALLY_FAIL : Nat := 64
def flagTEST : Nat := 128
def flagNO_SOURCE : Nat := 256
def flagDEGRADED : Nat := 512
def flagUNVERIFIED : Nat := 1024

/-- The flags that force the stale treatment (R121). -/
def forceStale : Nat := 0x55F

/-- A mask has a flag. -/
def hasFlag (m f : Nat) : Bool := m &&& f != 0

/-! ### The checks of the custody chain (R68, R76 to R78) -/

/-- The parity of a number's low `n` bits. -/
def oddBits : Nat → Nat → Bool
  | 0, _ => false
  | n + 1, v => (v % 2 == 1) != oddBits n (v / 2)

/-- The even-parity bits of `n` 16-bit words (R68, R78), and the eight of a tag, one per byte (R68). -/
def parityBits (n v : Nat) : List Bool := (List.range n).map fun i => oddBits 16 (v / 2 ^ (16 * i))
def tagParity (v : Nat) : List Bool := (List.range 8).map fun i => oddBits 8 (v / 2 ^ (8 * i))

/-- The residue modulo 7 (R76). -/
def residue7 (v : Nat) : Nat := v % 7

/-- The residue check of a right shift by `k` of `x`, with quotient `q` and remainder `r` (R76). -/
def shiftChecked (x k q r : Nat) : Bool := residue7 (residue7 q * (2 ^ k % 7) + r) == residue7 x

/-- A fault that its check detects: a residue, parity or second copy that disagrees (R76 to R78), address or tag parity (R68, R72); a
check value or a link code always tells. -/
def faultSeen (f : StageFault) : Bool :=
  match f.kind with
  | 2 => if f.shift = 0 then residue7 f.want != residue7 f.got else !shiftChecked f.want f.shift f.got f.rem
  | 3 => parityBits 4 f.want != parityBits 4 f.got
  | 4 => f.want != f.got
  | 5 => oddBits 64 f.want != oddBits 64 f.got
  | 7 => tagParity f.want != tagParity f.got
  | _ => true

/-- The faults of a list that are detected (log 6). -/
def detected (fs : List StageFault) : List StageFault := fs.filter faultSeen

/-- The detected fault of a stage at a stitch, of certain kinds. -/
def upsetAt (stage : Nat) (kinds : List Nat) (us : List StageFault) (sx sy : Nat) : Option StageFault :=
  us.find? fun u => u.stage == stage && u.sx == sx && u.sy == sy && kinds.contains u.kind && faultSeen u

/-! ### Surfaces in HBM3 -/

/-- A surface: base, format, size (R48, R51). Its tag plane follows its slots. -/
structure Surf where
  base : Nat
  fmt : Nat
  w : Nat
  h : Nat
deriving DecidableEq, Repr

/-- The index of a stitch in raster order. -/
def stitchIdx (f : Surf) (sx sy : Nat) : Nat := sy * stitchN f.w + sx

/-- The number of stitches of a surface. -/
def stitchCount (f : Surf) : Nat := stitchN f.w * stitchN f.h

/-- The address of a stitch's slot (R48). -/
def slotOf (f : Surf) (sx sy : Nat) : Nat := f.base + slotSize f.fmt * stitchIdx f sx sy

/-- The address of a stitch's tag (R51). -/
def tagOf (f : Surf) (sx sy : Nat) : Nat := f.base + slotSize f.fmt * stitchCount f + 8 * stitchIdx f sx sy

/-- The coordinates of every stitch of a surface, in raster order. -/
def stitches (f : Surf) : List (Nat × Nat) :=
  (List.range (stitchN f.h)).flatMap fun sy => (List.range (stitchN f.w)).map fun sx => (sx, sy)

/-- The surface of a slot of a stream's frame ring or decoded-surface pool (log 3). -/
def streamSurf (stream slot fmt w h : Nat) : Surf :=
  { base := (Config.streamSurface stream slot).val * 4096, fmt := fmt, w := w, h := h }

/-- The surface of a still (R335, log 3). -/
def stillSurf (k w h : Nat) : Surf := { base := (Config.stillSurface k).val * 4096, fmt := 7, w := w, h := h }

/-- The surface of a watch window's reference copy (R142, log 54). -/
def watchSurf (n w h : Nat) : Surf := { base := (Config.watchSurface n).val * 4096, fmt := 7, w := w, h := h }

/-- The block with its streams replaced. -/
def withStr (s : State) (u : StreamUnit) : State := { s with str := u }

/-- A tag written (R52); where the write fails, it is written again with CUSTODY_FAIL (R72): whether it failed. -/
def writeTag (init port : Nat) (f : Surf) (sx sy tag : Nat) (s : State) : Bool × State :=
  let (e, s1) := busWrite init port 2 (tagOf f sx sy) (bytesLE 8 tag) s
  if e then (true, (busWrite init port 2 (tagOf f sx sy) (bytesLE 8 (tagWord (tagCrc tag) (tagDue tag) (tagFlags tag ||| flagCUSTODY_FAIL))) s1).2)
  else (false, s1)

/-- A stitch's payload and then its tag written (R52). A write that fails, or that an address-parity upset of the stage strikes, sets
CUSTODY_FAIL on the stitch (R72): whether one did. -/
def writeStitch (stage : Nat) (us : List StageFault) (init port : Nat) (f : Surf) (sx sy : Nat) (bs : List Byte) (tag : Nat) (s : State) :
    Bool × State :=
  let (e, s1) := busWrite init port 3 (slotOf f sx sy) bs s
  let bad := e || (upsetAt stage [5] us sx sy).isSome
  let (e2, s2) := writeTag init port f sx sy
    (if bad then tagWord (tagCrc tag) (tagDue tag) (tagFlags tag ||| flagCUSTODY_FAIL) else tag) s1
  (bad || e2, s2)

/-- A stitch read and verified once (R69): its payload, and its tag unless verification failed. -/
def readStitch (init port : Nat) (f : Surf) (sx sy : Nat) (s : State) : List Byte × Option Nat × State :=
  let (e, bs, s1) := busRead init port 3 (slotOf f sx sy) (payloadLen f.fmt f.w f.h sx sy) s
  let (e2, tb, s2) := busRead init port 2 (tagOf f sx sy) 8 s1
  let t := natLE tb
  (bs, if e || e2 || crc32c bs != tagCrc t then none else some t, s2)

/-- A custody retry of a stage counts (R71). -/
def countRetry (stage : Nat) (s : State) : State := withStr s { s.str with retries := tupd 0 stage (· + 1) s.str.retries }

/-- What a verified read gives: the payload, the tag unless both reads failed, and the check kind of the failure. -/
structure Fetched where
  bytes : List Byte
  tag : Option Nat
  kind : Nat := 1
deriving DecidableEq, Repr

/-- A stitch read and verified by a stage, once more where the first read fails (R69, R71, R72). An upset of the path strikes the first
read or both: a CRC mismatch, a parity error of the path, of the address or of the tag. -/
def fetchStitch (stage : Nat) (us : List StageFault) (init port : Nat) (f : Surf) (sx sy : Nat) (s : State) : Fetched × State :=
  let u := upsetAt stage [1, 3, 5, 7] us sx sy
  let (bs, t, s1) := readStitch init port f sx sy s
  if u.isNone && t.isSome then ({ bytes := bs, tag := t }, s1)
  else
    let (bs2, t2, s2) := readStitch init port f sx sy s1
    match u with
    | some x =>
      if 2 ≤ x.times then ({ bytes := bs2, tag := none, kind := x.kind }, s2)
      else ({ bytes := bs2, tag := t2 }, if t2.isSome then countRetry stage s2 else s2)
    | none => ({ bytes := bs2, tag := t2 }, if t2.isSome then countRetry stage s2 else s2)

/-- The tag of a stitch as it stands, verified or not. -/
def rawTag (init port : Nat) (f : Surf) (sx sy : Nat) (s : State) : Nat :=
  natLE (busRead init port 2 (tagOf f sx sy) 8 s).2.1

/-! ### Custody reports -/

/-- One failure found by a stage in a frame: check kind, stitch, due or origin tick, flags before. -/
structure Failure where
  kind : Nat
  sx : Nat := 0
  sy : Nat := 0
  due : Nat := 0
  flags : Nat := 0
deriving DecidableEq, Repr

/-- The failure of a stitch that does not verify: its due tick and flags are those its tag holds (Table 02-9). -/
def badStitch (kind init port : Nat) (f : Surf) (sx sy : Nat) (s : State) : Failure :=
  let t := rawTag init port f sx sy s
  { kind := kind, sx := sx, sy := sy, due := tagDue t, flags := tagFlags t }

/-- P0 of CUSTODY_FAIL (Table 02-9). -/
def custodyP0 (stage kind init inst still : Nat) : W32 :=
  pack [(31, 24, stage), (23, 20, kind), (19, 15, init), (14, 8, inst), (0, 0, still)]

/-- Frame numbers of which one follows the other (R88). -/
def follows (a b : Nat) : Bool := (a + 1) % 2 ^ 32 == b % 2 ^ 32

/-- The runs with one frame of a stage instance on a surface judged (R88): whether the run has just reached three. `every` says whether
every frame number of the surface is a frame of it; a frame that is missing then ends the run, as one without failures does. -/
def runStep (stage inst surf frame : Nat) (every failed : Bool) (rs : List CustRun) : List CustRun × Bool :=
  let mine := rs.find? fun r => r.stage == stage && r.inst == inst && r.surf == surf
  let rest := rs.filter fun r => !(r.stage == stage && r.inst == inst && r.surf == surf)
  let new : CustRun := { stage := stage, inst := inst, surf := surf, frame := frame }
  if !failed then (rest, false)
  else match mine with
    | some r =>
      if every && !follows r.frame frame then (new :: rest, false)
      else
        let n := r.count + 1
        ({ r with frame := frame, count := n, told := r.told || 3 ≤ n } :: rest, decide (n = 3) && !r.told)
    | none => (new :: rest, false)

/-- A stage whose surfaces show every frame number: all but the scan-out, which leaves numbers out (R214, R215, R405), and the encode
stages, which record one frame in some. -/
def everyFrame (stage : Nat) : Bool := stage < 0x30

/-- A stage instance finishes its work on a frame of a surface: CUSTODY_FAIL for its failures, and CUSTODY_PERSISTENT in the
third failing frame in a row (R85, R86, R88). Decode cores answer persistence under R87 instead. `sub` keeps runs of one surface apart
whose frames are numbered apart: the canvas of INT_FETCH. -/
def custodyReportOf (sub stage init inst still surf frame : Nat) (fs : List Failure) (s : State) : State :=
  let (rs, third) := runStep stage inst (surf + 65536 * still + 131072 * sub) frame (everyFrame stage) (!fs.isEmpty) s.str.runs
  let s1 := withStr s { s.str with runs := rs }
  match fs with
  | [] => s1
  | f :: _ =>
    let s2 := raise 0x01 [custodyP0 stage f.kind init inst still, pack [(31, 16, surf), (15, 0, sat16 fs.length)],
      pack [(31, 16, f.sy), (15, 0, f.sx)], w32 frame, pack [(31, 12, f.due), (11, 0, f.flags)]] s1
    if third && !(stage == 0x12 || stage == 0x13) then
      raise 0x02 [custodyP0 stage f.kind init inst 0, 3, pack [(31, 16, surf)]] s2
    else s2

/-- The same for stages whose surface's frames have one numbering. -/
def custodyReport (stage init inst still surf frame : Nat) (fs : List Failure) (s : State) : State :=
  custodyReportOf 0 stage init inst still surf frame fs s

end Sys2Proof.Machine
end

