-- ==== Sys2Proof/Machine/Ledger.lean ====
section
/-! DEFINITION. The Region Ledger (R321 to R330): entries, their rules, staging, commits, generations, and LEDGER_APPLIED. -/

namespace Sys2Proof.Machine

/-! ### Entries (Table 08-2) -/

/-- The fields of an entry's words. -/
def leValid (e : List W32) : Bool := bitOf (wd e 0) 31
def leClass (e : List W32) : Nat := fld (wd e 0) 30 29
def leDefault (e : List W32) : Bool := bitOf (wd e 0) 28
def leWhole (e : List W32) : Bool := bitOf (wd e 0) 27
def leTally (e : List W32) : Bool := bitOf (wd e 0) 26
def leStream (e : List W32) : Nat := fld (wd e 0) 7 0
def leBudget (e : List W32) : Nat := fld (wd e 3) 15 0

/-- The stitch columns and rows of an entry's rectangle, ends included. -/
def leX0 (e : List W32) : Nat := fld (wd e 1) 15 0
def leY0 (e : List W32) : Nat := fld (wd e 1) 31 16
def leX1 (e : List W32) : Nat := fld (wd e 2) 15 0
def leY1 (e : List W32) : Nat := fld (wd e 2) 31 16

/-- The watch windows that an entry names. -/
def leWatches (e : List W32) : List Nat :=
  [fld (wd e 4) 15 0, fld (wd e 4) 31 16].filter fun n => n != 0xFFFF

/-- An entry's rectangle holds a stitch. -/
def leHolds (e : List W32) (sx sy : Nat) : Bool :=
  !leDefault e && leX0 e ≤ sx && sx ≤ leX1 e && leY0 e ≤ sy && sy ≤ leY1 e

/-- The valid entries of a source, with their numbers. -/
def leOf (t : Tab (List W32)) (stream : Nat) : Tab (List W32) := t.filter fun x => leValid x.2 && leStream x.2 == stream

/-- The entry that governs a stitch of a source (R323). -/
def govern (t : Tab (List W32)) (stream sx sy : Nat) : Option (List W32) :=
  let es := (leOf t stream).map Prod.snd
  match es.find? fun e => leHolds e sx sy with
  | some e => some e
  | none => es.find? leDefault

/-- The age budget of a stitch in ms: 20 where no entry governs it (R323). -/
def budgetOf (t : Tab (List W32)) (stream sx sy : Nat) : Nat :=
  match govern t stream sx sy with
  | some e => leBudget e
  | none => 20

/-- The smallest budget among a source's entries and its default region (R287). -/
def minBudget (t : Tab (List W32)) (stream : Nat) : Nat :=
  let bs := (leOf t stream).map fun x => leBudget x.2
  let d := if ((leOf t stream).any fun x => leDefault x.2) then bs else 20 :: bs
  d.foldl Nat.min 60000

/-- The source has tally enabled (R153). -/
def tallyOf (t : Tab (List W32)) (stream : Nat) : Bool :=
  match govern t stream 0 0 with
  | some e => leTally e
  | none => false

/-- The watch windows of a source, in order of number. -/
def watchesOf (t : Tab (List W32)) (stream : Nat) : List Nat :=
  let ns := (leOf t stream).flatMap fun x => leWatches x.2
  (List.range 512).filter fun n => ns.contains n

/-! ### The rules of a commit (R322) -/

/-- Two rectangle entries overlap. -/
def leOverlap (a b : List W32) : Bool :=
  !leDefault a && !leDefault b && leX0 a ≤ leX1 b && leX0 b ≤ leX1 a && leY0 a ≤ leY1 b && leY0 b ≤ leY1 a

/-- The streams that valid entries name. -/
def leStreams (t : Tab (List W32)) : List Nat :=
  (List.range 256).filter fun k => t.any fun x => leValid x.2 && leStream x.2 == k

/-- The format of a stream (FORMAT of Table 13-10). -/
def strFormat (e : StreamE) : Nat := recFld e.rcd 0 31 28

/-- A stream entry. -/
def strGet (s : State) (k : Nat) : StreamE := tget {} s.str.ents k

/-- The nominal or shortest frame period, 32.32 ns. -/
def strPeriod (e : StreamE) : Nat := leAt e.rcd 8 8

/-- The frame period in whole ns. -/
def strPeriodNs (e : StreamE) : Nat := strPeriod e / 2 ^ 32

/-- A source that can carry a tally (R152): a baseband input whose last frame was interlaced is not progressive. -/
def tallySource (s : State) (e : StreamE) : Bool :=
  e.st != 0 && e.st != 5 && (strFormat e == 4 || (strFormat e == 6 && !(tget {} s.bb.ins (recFld e.rcd 64 11 8)).interlaced)) &&
    16666666 ≤ strPeriodNs e

/-- The setting of a watch window as WATCH_SET last accepted it (R737). -/
def watchLast (w : Watch) : WatchCfg := match w.next with | some x => x.2.2 | none => w.toWatchCfg

/-- The entries of one source that break a rule of R322, by number; none when the rules hold. -/
def leBroken (t : Tab (List W32)) (k : Nat) (s : State) : List Nat :=
  let es := leOf t k
  let ovl := es.filter fun x => es.any fun y => x.1 != y.1 && leOverlap x.2 y.2
  let defs := es.filter fun x => leDefault x.2
  let named := watchesOf t k
  let wbad := es.filter fun x => (leWatches x.2).any fun n =>
    let w := watchLast (tget {} s.str.watches n)
    !(w.stream == k && w.w != 0)
  let gov := govern t k 0 0
  let tbad := es.filter fun x => leTally x.2 && (some x.2 != gov || !tallySource s (strGet s k) || (!leDefault x.2 && !leHolds x.2 0 0))
  (firstOf [(!ovl.isEmpty, ovl), (1 < defs.length, defs), (1024 < es.length, es),
    (2 < named.length, es.filter fun x => !(leWatches x.2).isEmpty), (!wbad.isEmpty, wbad), (!tbad.isEmpty, tbad)]).getD []
    |>.map Prod.fst

/-- The lowest-numbered entry that takes part in a broken rule. -/
def ledgerBroken (t : Tab (List W32)) (s : State) : Option Nat :=
  let bad := (leStreams t).flatMap fun k => leBroken t k s
  match bad with
  | [] => none
  | b :: bs => some (bs.foldl Nat.min b)

/-! ### Tally layers (R166, R171) -/

/-- The ledger that the last commit left. -/
def ledgerLatest (s : State) : Tab (List W32) :=
  match s.comp.ledger.gens.getLast? with
  | some g => g.table
  | none => []

/-- The enabled layer records of a bank that name a stream. -/
def streamLayers (b : Bank) : List (List W32) :=
  (b.layers.map Prod.snd).filter fun r => bitOf (wd r 0) 31 && fld (wd r 1) 31 30 == 0

/-- The number of the generation that tags a frame of this origin: 0 for the empty ledger of cast-on (R328). -/
def genFor (gs : List Gen) (origin : Nat) : Nat :=
  (List.range gs.length).foldl (fun acc i =>
    match gs[i]? with
    | some g => if g.copied && g.e ≤ origin then i + 1 else acc
    | none => acc) 0

/-- The ledger of a generation. -/
def genTable (s : State) (n : Nat) : Tab (List W32) :=
  match n with
  | 0 => []
  | k + 1 => match s.comp.ledger.gens[k]? with
    | some g => g.table
    | none => []

/-- Some ledger that tags frames from now on, or will once it is due, enables a source's tally. -/
def tallyHeld (s : State) (k : Nat) : Bool :=
  let n := genFor s.comp.ledger.gens (t0Ns s)
  tallyOf (genTable s n) k || (s.comp.ledger.gens.drop n).any fun g => tallyOf g.table k

/-- Tally layers of a bank, under a ledger besides those that hold (R166, R171). -/
def bankTally (s : State) (t : Tab (List W32)) (b : Bank) : Nat :=
  ((streamLayers b).filter fun r => tallyOf t (fld (wd r 1) 7 0) || tallyHeld s (fld (wd r 1) 7 0)).length

/-- A commit not yet in effect on it names a canvas. -/
def commitNames (s : State) (c : Nat) : Bool :=
  s.comp.commits.any fun k => !k.done.contains c && k.mask.getLsbD c

/-- Tally layers device-wide (R171): active banks, and pending banks with a commit scheduled or named in `extra`. -/
def tallyCount (t : Tab (List W32)) (extra : W64) (s : State) : Nat :=
  (s.comp.canvases.map fun x =>
    bankTally s t x.2.active + (if commitNames s x.1 || extra.getLsbD x.1 then bankTally s t x.2.pend else 0)).foldl (· + ·) 0

/-! ### Generations (R328, R330) -/

/-- The block with its ledger replaced. -/
def withLedger (s : State) (l : Ledger) : State := { s with comp := { s.comp with ledger := l } }

/-- Commits not yet in effect: not copied, or with an E still to come. -/
def ledgerPending (s : State) : Nat := (s.comp.ledger.gens.filter fun g => !g.copied || decide (t0Ns s < g.e)).length

/-- One generation as a frame of a source is tagged under generation `n` (R330): LEDGER_APPLIED when it is due, else its count. -/
def genSeen (stream n num origin i : Nat) (s : State) : State :=
  match s.comp.ledger.gens[i]? with
  | none => s
  | some g =>
    if !g.waiting.contains stream then s
    else if i + 1 ≤ n then
      let g' := { g with waiting := g.waiting.filter fun k => k != stream }
      let s1 := withLedger s { s.comp.ledger with gens := s.comp.ledger.gens.set i g' }
      raise 0x21 [pack [(31, 24, stream)], g.id, w32 num, w32 (sat32 (tget 0 g.late stream))] s1
    else if g.e ≤ origin then
      let g' := { g with late := tupd 0 stream (fun x => sat32 (x + 1)) g.late }
      withLedger s { s.comp.ledger with gens := s.comp.ledger.gens.set i g' }
    else s

/-- A frame of a source is tagged under generation `n`. -/
def ledgerTagged (stream n num origin : Nat) (s : State) : State :=
  (List.range s.comp.ledger.gens.length).foldl (fun st i => genSeen stream n num origin i st) s

/-- The sources whose entries differ between two ledgers. -/
def changedSources (a b : Tab (List W32)) : List Nat :=
  (List.range 256).filter fun k => leOf a k != leOf b k

/-! ### Commands -/

/-- The words of entry `i` of a LEDGER_WRITE record. -/
def writeEntry (c : Cmd) (i : Nat) : List W32 := wordsOf 8 ((crec c).drop (32 * i))

/-- The entry number `i` that a LEDGER_WRITE names (Table 13-11). -/
def writeNumber (c : Cmd) (i : Nat) : Nat := if i % 2 = 0 then fld (cw c (5 + i / 2)) 13 0 else fld (cw c (5 + i / 2)) 29 16

/-- The first record field of an entry that R326 refuses, as a byte offset in the entry. -/
def entryBad (e : List W32) : Option Nat :=
  firstOf [
    (fld (wd e 0) 25 8 != 0, 0),
    (leValid e && !leDefault e && leY1 e < leY0 e, 4),
    (leValid e && !leDefault e && leX1 e < leX0 e, 4),
    (fld (wd e 3) 31 16 != 0, 12),
    (leValid e && (leBudget e < 20 || 60000 < leBudget e), 12),
    (leValid e && ((leWatches e).any fun n => 511 < n), 16),
    (wd e 5 != 0, 20), (wd e 6 != 0, 24), (wd e 7 != 0, 28)]

/-- PF1 may stage this entry over the one staged now: only its BUDGET differs, in a class it may edit and within the class's
range (R324). -/
def pf1Entry (old new : List W32) (l : Pf1Limits) : Bool :=
  let k := leClass old
  let (lo, hi) := tget (0, 0) l.budgets k
  leValid old && l.regions / 2 ^ k % 2 == 1 &&
    (List.range 8).all (fun i => i == 3 || wd old i == wd new i) && fld (wd old 3) 31 16 == fld (wd new 3) 31 16 &&
    lo ≤ leBudget new && leBudget new ≤ hi

/-- LEDGER_WRITE (R324, R326). -/
def opLedgerWrite (c : Cmd) (s : State) : State × Reply :=
  let n := fld (cw c 4) 4 0
  let is := List.range n
  let old (i : Nat) := tget [] s.comp.ledger.staging (writeNumber c i)
  let bad := firstOf (is.map fun i => ((entryBad (writeEntry c i)).isSome, 32 * i + (entryBad (writeEntry c i)).getD 0))
  checked [
    (n < 1 || 16 < n, badField 16),
    (c.port == .pf1 && is.any (fun i => !pf1Entry (old i) (writeEntry c i) s.hif.pf1), noRight),
    (bad.isSome, badRecord (bad.getD 0))]
    (fun s =>
      let l := s.comp.ledger
      (withLedger s { l with
        staging := is.foldl (fun t i => tset (writeNumber c i) (writeEntry c i) t) l.staging,
        staged := l.staged ++ is.map (writeNumber c) }, .ok [])) s

/-- LEDGER_WRITE (R326). -/
def execLedgerWrite (c : Cmd) (s : State) : Res := .next (hostCommand 0x0400 opLedgerWrite c s)

/-- E of a LEDGER_COMMIT: the time of acceptance where it is 0 (R326). -/
def commitE (c : Cmd) (s : State) : Nat :=
  let e := w64of (cw c 3) (cw c 4) * 1000000000 + (cw c 5).toNat
  if e = 0 then t0Ns s else e

/-- LEDGER_COMMIT (R322, R326, R330). -/
def opLedgerCommit (c : Cmd) (s : State) : State × Reply :=
  let e := commitE c s
  let l := s.comp.ledger
  let before := match l.gens.getLast? with | some g => g.e | none => 0
  let broken := ledgerBroken l.staging s
  checked [
    (1000000000 ≤ (cw c 5).toNat, badField 20),
    (8 ≤ ledgerPending s || e < before, held 0xFF 0),
    (broken.isSome, badRule (broken.getD 0)),
    (64 < tallyCount l.staging 0 s, held 0xFF 64)]
    (fun s =>
      let g : Gen := { id := cw c 2, e := e, table := l.staging, waiting := changedSources (ledgerLatest s) l.staging }
      (withLedger s { l with staged := [], gens := l.gens ++ [g] }, .ok [])) s

/-- LEDGER_COMMIT (R326). -/
def execLedgerCommit (c : Cmd) (s : State) : Res := .next (hostCommand 0x0401 opLedgerCommit c s)

/-- The oldest generation not yet copied is copied into the live ledger (R327). -/
def copyFirst : List Gen → List Gen
  | [] => []
  | g :: gs => if g.copied then g :: copyFirst gs else { g with copied := true } :: gs

/-- LEDGER_GENERATION_COPY (R327). -/
def execLedgerGenerationCopy (s : State) : Res :=
  .next (withLedger s { s.comp.ledger with gens := copyFirst s.comp.ledger.gens })

end Sys2Proof.Machine
end

