-- ==== Sys2Proof/Machine/Entry.lean ====
section
/-! DEFINITION. A source frame enters the frame records of its stream (R65, R96 to R99, R140): its stitches are tagged under one
ledger generation, its freeze, tally and time tests are judged (R141 to R150, R152 to R165), and it becomes selectable. -/

namespace Sys2Proof.Machine

/-! ### Stream entries -/

/-- The block with stream entry `k` replaced. -/
def strSet (k : Nat) (e : StreamE) (s : State) : State := withStr s { s.str with ents := tset k e s.str.ents }

/-- The block with stream entry `k` changed by a function. -/
def strUpd (k : Nat) (f : StreamE → StreamE) (s : State) : State := strSet k (f (strGet s k)) s

/-- Fields of a stream record (Table 13-10). -/
def recClass (r : List Byte) : Nat := recFld r 0 27 26
def recResidence (r : List Byte) : Nat := recFld r 0 25 24
def recPinEngine (r : List Byte) : Nat := recFld r 0 23 19
def recGang (r : List Byte) : Nat := recFld r 0 18 15
def recOrigin (r : List Byte) : Nat := recFld r 0 14 13
def recWaitRap (r : List Byte) : Bool := recFld r 0 12 12 == 1
def recDepth10 (r : List Byte) : Bool := recFld r 0 10 10 == 1
def recColour (r : List Byte) : Nat := recFld r 0 9 8
def recFull (r : List Byte) : Bool := recFld r 0 7 7 == 1
/-- Independent pieces: wavefront rows count as 8 (R274). -/
def recPieces (r : List Byte) : Nat := if recFld r 0 6 0 = 0 then 8 else recFld r 0 6 0
def recWidth (r : List Byte) : Nat := recFld r 4 31 16
def recHeight (r : List Byte) : Nat := recFld r 4 15 0
def recLine (r : List Byte) : Nat := leAt r 16 8
def recMediaOfs (r : List Byte) : W32 := wordAt r 24
def recPathLat (r : List Byte) : Nat := recFld r 28 31 16
def recAnchorLife (r : List Byte) : Nat := recFld r 28 15 0
def recHold (r : List Byte) : Nat := recFld r 32 31 16
def recMerge (r : List Byte) : Nat := recFld r 32 15 0
def recPathLoss (r : List Byte) : Nat := recFld r 36 31 16
def recRing (r : List Byte) : Nat := recFld r 36 15 8
def recBitbuf (r : List Byte) : Nat := recFld r 36 7 0
def recTol (r : List Byte) : Nat := recFld r 40 31 16
def recRepeat (r : List Byte) : Nat := recFld r 40 15 8
def recReorder (r : List Byte) : Nat := recFld r 44 22 18
def recMargin (r : List Byte) : Nat := recFld r 44 17 15
def recLevel (r : List Byte) : Nat := recFld r 44 7 0
def recBitrate (r : List Byte) : Nat := recFld r 48 31 0
def recRefresh (r : List Byte) : Nat := recFld r 52 31 16
def recBacklog (r : List Byte) : Nat := recFld r 52 15 8
def recBbLanes (r : List Byte) : Nat := recFld r 52 7 4
def recBbRate (r : List Byte) : Nat := recFld r 52 3 0
def recStatsAddr (r : List Byte) : Nat := leAt r 56 8
def recBbInput (r : List Byte) : Nat := recFld r 64 11 8
def recStatsLog2 (r : List Byte) : Nat := recFld r 64 4 0

/-- The entry is a live source (R279). -/
def isLive (e : StreamE) : Bool := e.st == 1 || e.st == 2 || e.st == 3

/-- Live sources (R279). -/
def liveCount (s : State) : Nat := (s.str.ents.filter fun x => isLive x.2).length

/-- The numbers of the frames of a stream that canvas frames being composed still read (R247, R280, R300). -/
def readFrames (s : State) (k : Nat) : List Nat :=
  s.comp.canvases.flatMap fun c =>
    match c.2.job with
    | some j => j.sels.filterMap fun l => if l.stream == k then l.frame else none
    | none => []

/-- A slot of a frame ring of `depth` surfaces that may be written: an unused one, else the one of the oldest frame that no
canvas frame being composed reads (R247). -/
def freeSlot (s : State) (k depth : Nat) : Option Nat :=
  let e := strGet s k
  let taken := e.opens.filterMap fun u => u.slot
  let unread := e.frames.filter fun f => !(readFrames s k).contains f.num
  let unused := (List.range depth).find? fun n => !taken.contains n && !(e.frames.any fun f => f.slot == n)
  match unused with
  | some n => some n
  | none => (unread.find? fun f => f.slot < depth && !taken.contains f.slot).map fun f => f.slot

/-- Frame records without the one whose surface is reused. -/
def dropSlot (slot : Nat) (fs : List SrcFrame) : List SrcFrame := fs.filter fun f => f.slot != slot

/-! ### What enters -/

/-- A complete source frame at its writing stage. -/
structure Incoming where
  stream : Nat
  stage : Nat
  init : Nat
  port : Nat
  inst : Nat
  frame : SrcFrame
  arrTimed : Bool
  /-- The payloads in raster order; none when they already stand in the surface (decoded pictures). -/
  cells : Option (List (List Byte))
  /-- Each stitch's flags before the ledger and the tests. -/
  flags : List Nat
  interlaced : Bool := false
  /-- The measured frame period (R154), where there is a frame before it. -/
  period : Option Int := none
  /-- Upsets that the work on the frame meets: writes of the entry stage, reads of the watch unit. -/
  us : List StageFault := []
  /-- The marker's sixteen samples in 10-bit units, lines 0 and 1 of columns 0 to 7; none when one of them was concealed or
  belongs to a failed stitch (R160). -/
  marker : Option (List Nat) := none
  fails : List Failure := []
deriving DecidableEq, Repr

/-- The frame is time-suspect (R148): exactly at the tolerance is not. -/
def suspectOf (tolMs origin arrival : Nat) (arrTimed : Bool) : Bool := !arrTimed && arrival + tolMs * 1000000 < origin

/-- The flags of a region with WHOLE_REGION: every stitch it governs carries what any of them does (R325). -/
def wholeFlags (t : Tab (List W32)) (k : Nat) (cells : List ((Nat × Nat) × Nat)) : List Nat :=
  cells.map fun x =>
    match govern t k x.1.1 x.1.2 with
    | some e =>
      if leWhole e then
        (cells.filter fun y => govern t k y.1.1 y.1.2 == some e).foldl (fun a y => a ||| (y.2 &&& 0x19)) x.2
      else x.2
    | none => x.2

/-- One stitch is tagged, its payload written first where the stage brings it (R52, R98); whether a write failed (R72). -/
def tagStitch (i : Incoming) (f : Surf) (t : Tab (List W32)) (n : Nat) (p : (Nat × Nat) × Nat) (s : State) : Bool × State :=
  let crc := (i.frame.crcs.getD n 0).toNat
  let tag := tagWord crc (dueTick i.frame.origin (budgetOf t i.stream p.1.1 p.1.2)) p.2
  match i.cells with
  | some bs => writeStitch i.stage i.us i.init i.port f p.1.1 p.1.2 (bs.getD n []) tag s
  | none => writeTag i.init i.port f p.1.1 p.1.2 tag s

/-- Every stitch of a frame is tagged; the failures of its writes. -/
def tagAll (i : Incoming) (f : Surf) (t : Tab (List W32)) : List ((Nat × Nat) × Nat) → Nat → State → List Failure × State
  | [], _, s => ([], s)
  | p :: ps, n, s =>
    let (bad, s1) := tagStitch i f t n p s
    let (l, s2) := tagAll i f t ps (n + 1) s1
    (if bad then { kind := 5, sx := p.1.1, sy := p.1.2, due := dueTick i.frame.origin (budgetOf t i.stream p.1.1 p.1.2), flags := p.2 } :: l else l, s2)

/-! ### Exact repeat (R145, R146) -/

/-- N of the exact-repeat test; 0 when it is off. -/
def repeatN (r : List Byte) : Nat := if recRepeat r = 1 then 8 else recRepeat r

/-- Repeats in a row after a frame, counted while the test is enabled; a frame with film grain is none (R278). -/
def repeatsAfter (e : StreamE) (f : SrcFrame) : Nat :=
  match e.frames.getLast? with
  | some p =>
    if repeatN e.rcd != 0 && !f.grain && p.num + 1 = f.num && p.w = f.w && p.h = f.h && p.crcs = f.crcs then e.repeats + 1 else 0
  | none => 0

/-! ### Selvedge tally (R155 to R165) -/

/-- A pair's reading: both samples at or above 0x300, both below, or unreadable (R156). -/
def readPair (a b : Nat) : Option Bool :=
  if 0x300 ≤ a && 0x300 ≤ b then some true else if a < 0x300 && b < 0x300 then some false else none

/-- The count of a Gray code of six bits (R157). -/
def ungray (g : Nat) : Nat := (List.range 6).foldl (fun c k => if k = 0 then c else c ^^^ (g / 2 ^ k)) g

/-- The marker's count from its eight pairs (R159). -/
def markerCount (p : List (Option Bool)) : Option Nat :=
  let v (i : Nat) : Bool := (p.getD i none).getD false
  let bit (i : Nat) (inv : Bool) : Nat := b1 (v i != inv)
  if p.any Option.isNone || v 6 == v 7 then none
  else
    let inv := v 7
    let c := ungray (32 * bit 0 false + 16 * bit 1 false + 8 * bit 2 false + 4 * bit 3 false + 2 * bit 4 inv + bit 5 inv)
    if 60 < c || (c % 2 == 1) != inv then none else some c

/-- The eight pairs of a marker's sixteen samples (Table 04-1). -/
def markerPairs (m : List Nat) : List (Option Bool) :=
  (List.range 8).map fun i => readPair (m.getD (2 * i) 0) (m.getD (2 * i + 1) 0)

/-- The judgement of a frame: flags, reference after (Table 04-2). -/
def tallyJudge (ref : Option Nat) (c : Option Nat) : Nat × Option Nat :=
  match c with
  | none => (flagTALLY_FAIL, none)
  | some 0 => (flagTEST, none)
  | some n =>
    match ref with
    | none => (flagTALLY_FAIL, some n)
    | some p =>
      if n = p then (flagFROZEN, some p) else if n = p % 60 + 1 then (0, some n) else (flagTALLY_FAIL, some n)

/-- The state of Table 04-3 that a judgement's flags put the tally in. -/
def tallyStateOf (fl : Nat) : Nat := if hasFlag fl flagTALLY_FAIL then 2 else if hasFlag fl flagTEST then 1 else 0

/-- A frame that R154 does not judge: its measured period below 16.6 ms, or interlaced. -/
def tallyExcluded (i : Incoming) : Bool :=
  i.interlaced || (match i.period with | some p => decide (p < 16600000) | none => false)

/-- The tally's outcome for a frame: flags, count read, reference after. The count of a frame that R154 does not judge is given as
unreadable (DESIGN CHOICE, log 64). -/
def tallyFrame (e : StreamE) (i : Incoming) : Nat × Option Nat × Option Nat :=
  let ref := if e.tallyOn then e.tallyRef else none
  if tallyExcluded i then (flagTALLY_FAIL, none, none)
  else
    let c := i.marker.bind fun m => markerCount (markerPairs m)
    let (fl, r) := tallyJudge ref c
    (fl, c, r)

/-! ### Watch windows (R141 to R144) -/

/-- The part of a window inside a frame. -/
def watchPart (w : WatchCfg) (f : Surf) : Nat × Nat :=
  (Nat.min (w.x + w.w) f.w - Nat.min w.x f.w, Nat.min (w.y + w.h) f.h - Nat.min w.y f.h)

/-- The stitches that a window's part meets. -/
def watchStitches (w : WatchCfg) (f : Surf) : List (Nat × Nat) :=
  let (pw, ph) := watchPart w f
  if pw = 0 || ph = 0 then []
  else (stitches f).filter fun p => 32 * p.1 < w.x + pw && w.x < 32 * p.1 + 32 && 32 * p.2 < w.y + ph && w.y < 32 * p.2 + 32

/-- Stitches read with verification by the watch unit: their payloads, none where verification failed, and the failures. An upset of
the compare buffers, or of the duplicated comparison, counts the stitch as failed too (log 54). -/
def watchRead (us : List StageFault) (f : Surf) : List (Nat × Nat) → State → List ((Nat × Nat) × Option (List Byte)) × List Failure × State
  | [], s => ([], [], s)
  | p :: ps, s =>
    let (r, s1) := fetchStitch 0x04 us 16 17 f p.1 p.2 s
    let (rest, fs, s2) := watchRead us f ps s1
    match r.tag, upsetAt 0x04 [4] us p.1 p.2 with
    | some _, none => ((p, some r.bytes) :: rest, fs, s2)
    | some t, some x => ((p, none) :: rest, { kind := x.kind, sx := p.1, sy := p.2, due := tagDue t, flags := tagFlags t } :: fs, s2)
    | none, _ => ((p, none) :: rest, badStitch r.kind 16 17 f p.1 p.2 s :: fs, s2)

/-- A sample of a read surface, in 10-bit units: luma, or G of an RGB source; none where its stitch failed. -/
def watchSample (f : Surf) (cells : List ((Nat × Nat) × Option (List Byte))) (x y : Nat) : Option Nat :=
  let p := (x / 32, y / 32)
  match cells.find? fun c => c.1 == p with
  | some (_, some bs) =>
    let v := sampleOf bs f.fmt f.w f.h p.1 p.2 (if isPlanar f.fmt then 0 else 1) (x % 32) (y % 32)
    some (if isTenBit f.fmt then v else 4 * v)
  | _ => none

/-- The samples of a rectangle of a read surface, row by row. -/
def watchSamples (x0 y0 w h : Nat) (f : Surf) (cells : List ((Nat × Nat) × Option (List Byte))) : List (Option Nat) :=
  (List.range h).flatMap fun y => (List.range w).map fun x => watchSample f cells (x0 + x) (y0 + y)

/-- A sample of the reference copy: none where its stitch failed, or where the copy holds no verified sample (alpha 0, log 54). -/
def refSample (f : Surf) (cells : List ((Nat × Nat) × Option (List Byte))) (x y : Nat) : Option Nat :=
  match cells.find? fun c => c.1 == (x / 32, y / 32) with
  | some (_, some bs) =>
    if alphaOf bs f.w f.h (x / 32) (y / 32) (x % 32) (y % 32) = 0 then none else watchSample f cells x y
  | _ => none

/-- The samples that differ from the reference by more than the pixel threshold; one that failed on either side counts as unchanged
(R144). -/
def watchDiffer (thr : Nat) (ref now : List (Option Nat)) : Nat :=
  ((List.range now.length).filter fun i =>
    match now.getD i none, ref.getD i none with
    | some v, some r => decide (thr < (v - r) + (r - v))
    | _, _ => false).length

/-- The window has changed (R142): `read` are the reference's samples and the frame's. -/
def watchChanged (w : Watch) (part : Nat × Nat) (ref now : List (Option Nat)) : Bool :=
  match w.ref with
  | none => true
  | some r => if part.1 = 0 || part.2 = 0 then false else if r != part then true else w.cntThr ≤ watchDiffer w.pixThr ref now

/-- The payload of a stitch of the reference copy: the sample in G; alpha 3 where it was verified, else 0. -/
def refBytes (part : Nat × Nat) (now : List (Option Nat)) (sx sy : Nat) : List Byte :=
  (List.range (stitchExt part.2 sy)).flatMap fun y => (List.range (stitchExt part.1 sx)).flatMap fun x =>
    match now.getD ((32 * sy + y) * part.1 + 32 * sx + x) none with
    | some v => bytesLE 4 (v % 1024 * 1024 + 3 * 2 ^ 30)
    | none => bytesLE 4 0

/-- The reference copy is written under stitch tags (R142); a failed write sets CUSTODY_FAIL in the copy's tag (R72). -/
def refWrite (n : Nat) (part : Nat × Nat) (origin : Nat) (us : List StageFault) (now : List (Option Nat)) (s : State) : State :=
  let f := watchSurf n part.1 part.2
  (stitches f).foldl (fun st p =>
    let bs := refBytes part now p.1 p.2
    (writeStitch 0x04 us 16 17 f p.1 p.2 bs (tagWord (crc32c bs) (tick origin) 0) st).2) s

/-- The window with a setting that holds from this frame on in force (R737). A restart drops the reference; a change of the period or
the thresholds keeps it. -/
def watchSettle (k num : Nat) (w : Watch) : Watch :=
  match w.next with
  | some (from_, restart, c) =>
    if c.stream = k && from_ ≤ num then
      if restart then { c with frozen := w.frozen } else { c with ref := w.ref, changed := w.changed, frozen := w.frozen }
    else w
  | none => w

/-- What the windows of a frame have come to: the block, the failures found, the windows whose state changed. -/
structure WatchRun where
  st : State
  fails : List Failure := []
  changes : List (Nat × Bool) := []

/-- One window of a frame judged (R142, R143). A window that is disabled, or is another source's, sets nothing, and its state ends. -/
def watchOne (i : Incoming) (f : Surf) (a : WatchRun) (n : Nat) : WatchRun :=
  let w := tget {} a.st.str.watches n
  let v := watchSettle i.stream i.frame.num w
  if w.stream != i.stream && v.stream != i.stream then a
  else if !v.en then
    { a with st := withStr a.st { a.st.str with watches := tset n { v with frozen := false } a.st.str.watches },
             changes := if w.frozen then a.changes ++ [(n, false)] else a.changes }
  else
    let part := watchPart v.toWatchCfg f
    let (cells, fs, s1) := watchRead (i.us.filter fun u => u.slot == 0) f (watchStitches v.toWatchCfg f) a.st
    let now := watchSamples v.x v.y part.1 part.2 f cells
    let rf := match v.ref with | some r => watchSurf n r.1 r.2 | none => watchSurf n 0 0
    let (rc, rs, s2) := if v.ref == some part then watchRead (i.us.filter fun u => u.slot == n + 1) rf (stitches rf) s1 else ([], [], s1)
    let old := (List.range part.2).flatMap fun y => (List.range part.1).map fun x => refSample rf rc x y
    let ch := watchChanged v part old now
    let s3 := if ch then refWrite n part i.frame.origin i.us now s2 else s2
    let x := if ch then { v with ref := some part, changed := i.frame.origin } else v
    let x := { x with frozen := decide ((x.changed : Int) + x.period * 1000000 ≤ i.frame.origin) }
    { st := withStr s3 { s3.str with watches := tset n x s3.str.watches }, fails := a.fails ++ fs ++ rs,
      changes := if w.frozen != x.frozen then a.changes ++ [(n, x.frozen)] else a.changes }

/-! ### The frame is accepted -/

/-- FROZEN_SOURCE or TIME_SUSPECT (Table 03-2). -/
def frozenEvent (code stream cause window : Nat) (any set : Bool) (f : SrcFrame) (s : State) : State :=
  raise code [pack [(31, 24, stream), (23, 20, cause), (19, 11, window), (1, 1, b1 any), (0, 0, b1 set)], w32 f.num,
    w32 (f.origin / 1000000000), w32 (f.origin % 1000000000)] s

/-- TALLY_STATE (Table 04-3): raised at a change of state, before this frame's own failure is counted. -/
def tallyEvent (k : Nat) (old new : Nat) (c : Option Nat) (f : SrcFrame) (s : State) : State :=
  if old = new then s
  else
    let e := strGet s k
    strUpd k (fun e => { e with tallyFails := 0 })
      (raise 0x09 [pack [(31, 24, k), (23, 16, new), (15, 8, c.getD 0xFF)], w32 f.num, pack [(31, 16, sat16 e.tallyFails)]] s)

/-- A complete source frame is tagged, tested and recorded. Before the first frame under a tally its state counts as counting
(DESIGN CHOICE, log 64). -/
def acceptFrame (i : Incoming) (s : State) : State :=
  let k := i.stream
  let e := strGet s k
  let f := streamSurf k i.frame.slot i.frame.fmt i.frame.w i.frame.h
  let n := genFor s.comp.ledger.gens i.frame.origin
  let t := genTable s n
  let sus := suspectOf (recTol e.rcd) i.frame.origin i.frame.arrival i.arrTimed
  let base := (if i.arrTimed then flagARRIVAL_TIMED else 0) ||| (if sus then flagTIME_SUSPECT else 0)
  let ps := (stitches f).zip i.flags
  let cells := (stitches f).zip ((wholeFlags t k ps).map fun x => x ||| base)
  let (wf, s1) := tagAll i f t cells 0 (ledgerTagged k n i.frame.num i.frame.origin s)
  let reps := repeatsAfter e i.frame
  let rn := repeatN e.rcd
  let repFrozen := rn != 0 && rn ≤ reps
  let tOn := tallyOf t k
  let failed0 := hasFlag ((cells.getD 0 ((0, 0), 0)).2) flagCUSTODY_FAIL || wf.any fun x => x.sx == 0 && x.sy == 0
  let (tfl, tc, tref) := if tOn then tallyFrame e { i with marker := if failed0 then none else i.marker } else (0, none, none)
  let tFrozen := hasFlag tfl flagFROZEN
  let ws := watchesOf t k
  let r := ws.foldl (watchOne i f) { st := s1 }
  let s2 := if ws.isEmpty then r.st else custodyReport 0x04 16 0 0 k i.frame.num r.fails r.st
  let wFrozen := ws.any fun n => let w := tget {} s2.str.watches n; w.en && w.stream == k && w.frozen
  let frozen := wFrozen || repFrozen || tFrozen
  let fl := i.frame.flags ||| tfl ||| (if frozen then flagFROZEN else 0)
  let rcd := { i.frame with complete := true, flags := fl, gen := n,
                            tainted := if i.cells.isNone then (cells.filter fun c => hasFlag c.2 flagCONCEALED).length else 0 }
  let s3 := strUpd k (fun x => { x with
      frames := (dropSlot rcd.slot x.frames) ++ [rcd], repeats := reps, repeatFrozen := repFrozen, suspect := sus,
      tallyOn := tOn, tallyRef := tref, tallyFrozen := tFrozen, tallyState := if tOn then tallyStateOf tfl else 0 }) s2
  let s4 := r.changes.foldl (fun st c => frozenEvent 0x07 k 0 c.1 frozen c.2 rcd st) s3
  let s5 := if repFrozen != e.repeatFrozen then frozenEvent 0x07 k 1 0 frozen repFrozen rcd s4 else s4
  let s6 := if tFrozen != e.tallyFrozen then frozenEvent 0x07 k 3 0 frozen tFrozen rcd s5 else s5
  let s7 := if tOn then tallyEvent k (if e.tallyOn then e.tallyState else 0) (tallyStateOf tfl) tc rcd s6 else s6
  let s8 := if hasFlag tfl flagTALLY_FAIL then strUpd k (fun x => { x with tallyFails := sat16 (x.tallyFails + 1) }) s7 else s7
  let s9 := if sus != e.suspect then frozenEvent 0x08 k 2 0 sus sus rcd s8 else s8
  custodyReport i.stage i.init i.inst 0 k rcd.num (i.fails ++ wf) s9

/-! ### Origins (R202 to R206) -/

/-- The origin of a frame or access unit from its RTP timestamp: ns, from arrival or not. -/
def originOf (e : StreamE) (rtp : W32) (arrival : Nat) (arrMode : Bool) : Nat × Bool :=
  let arr := (arrival - recPathLat e.rcd * 1000000, true)
  match recOrigin e.rcd with
  | 0 =>
    let (sec, ns) := originLocked rtp (recMediaOfs e.rcd) (arrival / 1000000000) (arrival % 1000000000)
    (sec * 1000000000 + ns, false)
  | 1 =>
    match e.anchor with
    | some a => if arrMode then arr else (originAnchored rtp a.rtp a.ns, false)
    | none => arr
  | _ => arr

/-- An anchor has outlived its lifetime (R206). -/
def anchorOld (e : StreamE) (now : Nat) : Bool :=
  match e.anchor with
  | some a => decide (a.at_ + recAnchorLife e.rcd * 1000000000 < now)
  | none => true

/-- ORIGIN_MODE (Table 05-5): the stream, the mode now used and the cause. -/
def originEvent (k mode cause : Nat) (s : State) : State :=
  raise 0x0D [pack [(31, 24, k), (23, 16, mode), (15, 8, cause)], w32 (strGet s k).nextFrame] s

/-- A frame or access-unit boundary of a stream: a new record and a new anchor take effect (R204, R238), and the origin mode of
the unit that opens is settled (R206). -/
def boundary (k : Nat) (s : State) : State :=
  let s1 := strUpd k (fun e => { e with rcd := e.next.getD e.rcd, next := none, home := e.nextHome.getD e.home, nextHome := none,
                                        anchor := (match e.anchorNext with | some a => some a | none => e.anchor), anchorNext := none }) s
  let e := strGet s1 k
  if recOrigin e.rcd != 1 || strFormat e == 6 then strUpd k (fun x => { x with arrMode := none }) s1
  else
    let arr := anchorOld e (t2Ns s)
    let s2 := strUpd k (fun x => { x with arrMode := some arr }) s1
    if arr && e.arrMode != some true then originEvent k 2 1 s2
    else if !arr && e.arrMode == some true then originEvent k 1 2 s2
    else s2

end Sys2Proof.Machine
end

