-- ==== Sys2Proof/Machine/Stream.lean ====
section
/-! DEFINITION. The stream table (R279 to R283, R541, R542): records, admission (R296), states, shedding (R310, R311), and the
commands that open, change and close streams, with anchors (R204) and watch windows (R737). -/

namespace Sys2Proof.Machine

/-! ### Records (Table 13-10) -/

/-- The record with field `[hi:lo]` of the word at `off` replaced. -/
def recPut (bs : List Byte) (off hi lo v : Nat) : List Byte :=
  let w := leAt bs off 4
  let w' := w - fldN w hi lo * 2 ^ lo + put hi lo v
  bs.take off ++ bytesLE 4 w' ++ bs.drop (off + 4)

/-- The record with a field that reads 0 given its default (R733). -/
def recDefault (bs : List Byte) (off hi lo v : Nat) : List Byte :=
  if recFld bs off hi lo = 0 then recPut bs off hi lo v else bs

/-- A network format. -/
def fmtNet (f : Nat) : Bool := f < 6
/-- A compressed format: RTP codecs and ST 2110-22. -/
def fmtCoded (f : Nat) : Bool := f < 4 || f == 5

/-- A stream record with its defaults in place (R733, Tables 06-4 and 07-5). -/
def normRecord (raw : List Byte) : List Byte :=
  let r0 := padB 128 raw
  let f := recFld r0 0 31 28
  let net (r : List Byte) := if fmtNet f then recDefault (recDefault (recDefault r 28 15 0 20) 36 31 16 50) 40 31 16 50 else r
  let ring (r : List Byte) := if f = 4 || f = 6 then recDefault r 36 15 8 4 else r
  let coded (r : List Byte) :=
    if fmtCoded f then
      let r1 := recDefault (recDefault (recDefault r 36 7 0 8) 44 17 15 3) 52 31 16 2000
      if 2 ≤ recClass r1 then recDefault r1 52 15 8 4 else r1
    else r
  coded (ring (net r0))

/-- A value lies outside a range. -/
def outside (lo hi v : Nat) : Bool := decide (v < lo) || decide (hi < v)

/-- The largest picture and level of a codec ceiling within Table 07-3: (width, height). -/
def ceilingSize (f : Nat) : Nat × Nat :=
  match f with
  | 0 => (4096, 2304) | 3 => (2040, 2040) | _ => (7680, 4320)

/-- The profile, tier and level of a codec ceiling lie within Table 07-3. -/
def ceilingOk (r : List Byte) : Bool :=
  let f := recFld r 0 31 28
  let p := recFld r 44 31 24
  let tier := recFld r 44 23 23
  let lv := recLevel r
  match f with
  | 0 => (p == 66 || p == 77 || p == 100) && tier == 0 && 0 < lv && lv ≤ 51 && !recDepth10 r
  | 1 => (p == 1 || p == 2) && 0 < lv && lv ≤ 183
  | 2 => p == 0 && tier == 0 && lv ≤ 16
  | _ => p == 0 && tier == 0 && lv == 0

/-- The chroma of a network stream's surfaces, by a stored format that has it: 4:2:0, and 4:2:2 of ST 2110-20 and JPEG XS (Table 07-3,
R244). -/
def surfaceFmt (f : Nat) : Nat := if f = 4 || f = 5 then 1 else 0

/-- The byte offset of the first field of a record that is out of range or does not apply (R541). -/
def recordBad (r : List Byte) : Option Nat :=
  let f := recFld r 0 31 28
  let net := fmtNet f
  let cod := fmtCoded f
  let cls := recClass r
  let res := recResidence r
  let per := leAt r 8 8
  let (mw, mh) := if f = 4 then (7680, 4320) else ceilingSize f
  firstOf [
    (6 < f, 0),
    (res == 3 || (!cod && res != 0) || (res != 0 && 2 ≤ cls), 0),
    (if res == 1 then 15 < recPinEngine r else recPinEngine r != 0, 0),
    (if res == 2 then outside 1 8 (recGang r) else recGang r != 0, 0),
    (recOrigin r == 3 || (!net && recOrigin r != 0), 0),
    (!cod && recWaitRap r, 0),
    (f != 4 && recFld r 0 11 11 != 0, 0),
    (!cod && f != 4 && recDepth10 r, 0),
    (if f = 4 || f = 5 then false else recColour r != 0 || recFull r, 0),
    (if cod then 64 < recFld r 0 6 0 else recFld r 0 6 0 != 0, 0),
    (if f = 6 then recWidth r != 0 || recHeight r != 0
     else outside 64 mw (recWidth r) || outside 64 mh (recHeight r) || !surfaceOk (surfaceFmt f) (recWidth r) (recHeight r), 4),
    (if f = 4 || f = 5 then outside (16666666 * 2 ^ 32) (41708334 * 2 ^ 32) per
     else outside (10 ^ 9 * 2 ^ 32 / 120) (10 ^ 9 * 2 ^ 32) per, 8),
    (f != 4 && recLine r != 0, 16),
    (!net && recMediaOfs r != 0, 24),
    (2000 < recPathLat r || (if net then outside 1 600 (recAnchorLife r) else recAnchorLife r != 0), 28),
    (if net then 5000 < recHold r || 20000 < recMerge r else recHold r != 0 || recMerge r != 0, 32),
    (if net then outside 10 1000 (recPathLoss r) else recPathLoss r != 0, 36),
    (if f = 4 || f = 6 then outside 3 8 (recRing r) else recRing r != 0, 36),
    (if cod then outside 1 64 (recBitbuf r) else recBitbuf r != 0, 36),
    (if net then outside 1 1000 (recTol r) else recTol r != 0, 40),
    (if cod then !ceilingOk r else recFld r 44 31 22 != 0 || recLevel r != 0, 44),
    (if f < 3 then 16 < recReorder r else recReorder r != 0, 44),
    (if cod then outside 2 6 (recMargin r) else recMargin r != 0, 44),
    (if cod then outside 100 1000000 (recBitrate r) else recBitrate r != 0, 48),
    (if cod then outside 100 60000 (recRefresh r) else recRefresh r != 0, 52),
    (if cod && 2 ≤ cls then outside 1 16 (recBacklog r) else recBacklog r != 0, 52),
    (if f = 6 then !(recBbLanes r == 1 || recBbLanes r == 2 || recBbLanes r == 4) || 6 < recBbRate r
     else recBbLanes r != 0 || recBbRate r != 0, 52),
    (!cod && recStatsAddr r != 0, 56),
    (f != 6 && recBbInput r != 0, 64),
    (if recStatsAddr r = 0 then recStatsLog2 r != 0 else outside 16 24 (recStatsLog2 r), 64)]

/-- The fields that change only by reopening (Table 07-5, R542), as (offset, high bit, low bit), in record order. -/
def reopenFields : List (Nat × Nat × Nat) :=
  [(0, 31, 28), (0, 27, 26), (0, 6, 0), (44, 31, 24), (44, 23, 23), (44, 22, 18), (44, 17, 15), (44, 7, 0), (48, 31, 0),
   (64, 11, 8)]

/-- The byte offset of the first Reopen field that differs. For a compressed stream the maximum size, depth and frame rate are
among them; for every format the frame rate is. -/
def reopenDiffers (old new : List Byte) : Option Nat :=
  let f := recFld old 0 31 28
  let diff (x : Nat × Nat × Nat) : Bool := recFld old x.1 x.2.1 x.2.2 != recFld new x.1 x.2.1 x.2.2
  firstOf ((reopenFields.take 3).map (fun x => (diff x, x.1)) ++
    [(fmtCoded f && recDepth10 old != recDepth10 new, 0),
     (fmtCoded f && wordAt old 4 != wordAt new 4, 4),
     (leAt old 8 8 != leAt new 8 8, 8)] ++
    (reopenFields.drop 3).map (fun x => (diff x, x.1)))

/-! ### Loads and admission (R275, R296) -/

/-- Pixels per second of a size at a 32.32 period. -/
def pixelRate (w h per : Nat) : Nat := if per = 0 then 0 else w * h * 1000000000 * 2 ^ 32 / per

/-- The load of a rate of bits, in pixel/s (Table 07-2). -/
def bitLoad (f bits : Nat) : Nat :=
  match f with
  | 3 => bits / 4 | 5 => bits / 8 | _ => bits * 2 / 3

/-- The load of a record in pixel/s (R275). -/
def loadOf (r : List Byte) : Nat :=
  let f := recFld r 0 31 28
  if fmtCoded f then Nat.max (pixelRate (recWidth r) (recHeight r) (leAt r 8 8)) (bitLoad f (recBitrate r * 1000)) else 0

/-- A guaranteed row pipeline and wide core, pixel/s (Table 07-1). -/
def rpRate : Nat := 560000000
def wcRate : Nat := 380000000

/-- Engine `n`. -/
def engGet (s : State) (n : Nat) : Engine := tget {} s.str.engines n

/-- The power domain of an engine is on (Table 07-1). -/
def engPowered (s : State) (n : Nat) : Bool := bitOf s.pwr.domains (if n < 8 || (16 ≤ n && n < 20) then 6 else 7)

/-- An engine in service. -/
def inService (s : State) (n : Nat) : Bool := n < 24 && (engGet s n).st == 0 && engPowered s n

/-- An entry as accepted: with the record and the engines that wait for its next boundary (R296). -/
def accepted (e : StreamE) : StreamE := { e with rcd := e.next.getD e.rcd, home := e.nextHome.getD e.home }

/-- The table as accepted, by which admission counts. -/
def acceptedAll (ents : Tab StreamE) : Tab StreamE := ents.map fun x => (x.1, accepted x.2)

/-- The entries that count against capacity: LIVE streams of class 0 and 1. -/
def holders (ents : Tab StreamE) : List StreamE :=
  (ents.map Prod.snd).filter fun e => e.st == 1 && recClass e.rcd < 2 && fmtCoded (strFormat e)

/-- A pinned or privileged stream stays bound to its engines while its decoding is suspended (R284, R285, R307). -/
def isBound (e : StreamE) : Bool := (e.st == 1 || e.st == 3) && recClass e.rcd < 2 && fmtCoded (strFormat e) && !e.home.isEmpty

/-- The entries bound to engines. -/
def boundOnes (ents : Tab StreamE) : List StreamE := (ents.map Prod.snd).filter isBound

/-- Engines reserved by pinned and privileged streams. -/
def reservedBy (ents : Tab StreamE) : List Nat := (boundOnes ents).flatMap fun e => e.home

/-- The sum of a list of loads. -/
def sumL (l : List Nat) : Nat := l.foldl (· + ·) 0

/-- The pool's load and partial loads fit the unreserved engines in service (R296). `res` are the reserved engines, `pooled` the
records of the pooled streams counted. -/
def poolFits (s : State) (res : List Nat) (pooled : List (List Byte)) : Bool :=
  let n (lo hi : Nat) := ((List.range 24).filter fun e => lo ≤ e && e < hi && inService s e && !res.contains e).length
  let p_rp := rpRate * n 0 16
  let p_wc := wcRate * n 16 24
  let part (p : List Byte → Bool) := sumL ((pooled.filter p).map loadOf)
  part (fun _ => true) ≤ p_rp + p_wc &&
    part (fun r => recWidth r ≤ 4096 && wcRate < loadOf r && recPieces r == 1) ≤ p_rp &&
    part (fun r => 4096 < recWidth r) ≤ p_wc

/-- The records of the pooled streams that count. -/
def pooledOf (ents : Tab StreamE) : List (List Byte) :=
  ((holders ents).filter fun e => recResidence e.rcd == 0).map fun e => e.rcd

/-- What admission answers: a refusal, or the engines bound. -/
inductive Admit where
  | no (r : Reply)
  | ok (home : List Nat)
deriving DecidableEq, Repr

/-- The unreserved wide cores in service, lowest first. -/
def freeCores (s : State) (res : List Nat) : List Nat :=
  (List.range 24).filter fun e => 16 ≤ e && inService s e && !res.contains e

/-- Admission of a pinned stream to engine `e` (R296). -/
def admitPinned (s : State) (ents : Tab StreamE) (r : List Byte) (e : Nat) : Admit :=
  let res := reservedBy ents
  let mine := (boundOnes ents).filter fun x => recResidence x.rcd == 1 && x.home == [e]
  let gang := (boundOnes ents).any fun x => recResidence x.rcd == 2 && x.home.contains e
  match firstOf [
    (!inService s e || gang, held 0xFF e),
    (mine.isEmpty && !poolFits s (e :: res) (pooledOf ents), overCap),
    (4 ≤ mine.length || 4096 < recWidth r, held 0xFF e),
    (rpRate < sumL (mine.map fun x => loadOf x.rcd) + loadOf r, overCap)] with
  | some x => .no x
  | none => .ok [e]

/-- Admission of a privileged stream (R296). -/
def admitPrivileged (s : State) (ents : Tab StreamE) (r : List Byte) : Admit :=
  let res := reservedBy ents
  let g := recGang r
  let cores := (freeCores s res).take g
  let n := ((boundOnes ents).filter fun x => recResidence x.rcd == 2).length
  match firstOf [
    (8 ≤ n, held 0xFF 8),
    (cores.length < g, held 0xFF 16),
    (1 < g && recPieces r < g, overCap),
    (wcRate * g < loadOf r, overCap),
    (!poolFits s (cores ++ res) (pooledOf ents), overCap)] with
  | some x => .no x
  | none => .ok cores

/-- Admission of a pooled stream (R296). -/
def admitPooled (s : State) (ents : Tab StreamE) (r : List Byte) : Admit :=
  let x := loadOf r
  if (4096 < recWidth r && wcRate * Nat.min 4 (recPieces r) < x) || (recWidth r ≤ 4096 && rpRate < x) ||
      !poolFits s (reservedBy ents) (r :: pooledOf ents) then .no overCap
  else .ok []

/-- Admission of a record against the other entries (R296), as they are accepted; `adds` is whether it would add a live source. -/
def admitStream (s : State) (table : Tab StreamE) (r : List Byte) (adds : Bool) : Admit :=
  let ents := acceptedAll table
  if adds && 192 ≤ (ents.filter fun x => isLive x.2).length then .no overCap
  else if 2 ≤ recClass r || !fmtCoded (recFld r 0 31 28) then .ok []
  else match recResidence r with
    | 1 => admitPinned s ents r (recPinEngine r)
    | 2 => admitPrivileged s ents r
    | _ => admitPooled s ents r

/-! ### States (Table 07-4) -/

/-- An entry takes a state for a cause: STREAM_STATE (Table 07-9). -/
def setStream (k st cause : Nat) (s : State) : State :=
  let e := strGet s k
  raise 0x18 [pack [(31, 24, k), (23, 20, st), (19, 16, e.st), (15, 8, cause)], w32 e.nextFrame]
    (strSet k { e with st := st } s)

/-- The baseband input of number `n`. -/
def bbGet (s : State) (n : Nat) : BbIn := tget {} s.bb.ins n

/-- The block with a baseband input replaced. -/
def bbSet (n : Nat) (x : BbIn) (s : State) : State := { s with bb := { s.bb with ins := tset n x s.bb.ins } }

/-- A shed stream is tried again (R311). -/
def tryShed (s : State) (k : Nat) : State :=
  let e := strGet s k
  if e.st != 2 then s
  else match admitStream s (tdel k s.str.ents) e.rcd false with
    | .ok home =>
      let s1 := setStream k 1 3 (strUpd k (fun x => { x with home := home, nextHome := none }) s)
      withStr s1 { s1.str with shed := s1.str.shed.filter fun j => j != k }
    | .no _ => s

/-- Every shed stream is tried, the last one shed first (R311). -/
def readmit (s : State) : State := s.str.shed.foldl tryShed s

/-- A WAITING baseband entry whose link is trained enters LIVE while fewer than 192 live sources exist (R281); its tally has no reference
(R162). -/
def tryWaiting (s : State) (k : Nat) : State :=
  let e := strGet s k
  let i := bbGet s (recBbInput e.rcd)
  if !(e.st == 4 && i.trained && i.en) then s
  else if liveCount s < 192 then
    setStream k 1 7 (strUpd k (fun x => { x with limitTold := false, tallyRef := none }) s)
  else if e.limitTold then s
  else setStream k 4 8 (strUpd k (fun x => { x with limitTold := true }) s)

/-- The live-source count changed: WAITING entries try again in order of index (R281), and shed streams (R311). -/
def liveChanged (s : State) : State := (List.range 256).foldl tryWaiting (readmit s)

/-- The entry that is not FREE and names a baseband input. -/
def inputUser (s : State) (n : Nat) : Option Nat :=
  (s.str.ents.find? fun x => x.2.st != 0 && strFormat x.2 == 6 && recBbInput x.2.rcd == n).map Prod.fst

/-- The link of an input is lost: its stream enters WAITING and gives up its live-source count (R281). -/
def inputLost (n : Nat) (s : State) : State :=
  match inputUser s n with
  | some k =>
    let s1 := strUpd k (fun x => { x with limitTold := false }) s
    if (strGet s k).st == 1 then liveChanged (setStream k 4 6 s1) else s1
  | none => s

/-- The flows of video kind that name a stream, by path. -/
def videoFlows (s : State) (k path : Nat) : Bool :=
  s.net.flows.any fun x => recFld x.2.rcd 0 31 31 == 1 && recFld x.2.rcd 0 30 28 < 3 && recFld x.2.rcd 4 31 24 == k &&
    recFld x.2.rcd 0 27 27 == path

/-- A stream becomes merged, with both paths down, or single-path, as its flows say (R239, R249). -/
def settleMerge (k : Nat) (s : State) : State :=
  let m := videoFlows s k 0 && videoFlows s k 1
  strUpd k (fun e =>
    if m && !e.merged then { e with merged := true, pathA := { at_ := t2Ns s }, pathB := { at_ := t2Ns s } }
    else { e with merged := m }) s

/-! ### Ready frames and their surfaces (R287, R300) -/

/-- The stream decodes. -/
def decodes (e : StreamE) : Bool := isLive e && fmtCoded (strFormat e)

/-- The access unit of a stream that is ready: the first one, while none before it is being decoded (R287). -/
def readyAu (e : StreamE) : Option AccUnit :=
  if !decodes e then none
  else match e.aus with
    | a :: _ => if a.started then none else some a
    | [] => none

/-- The macroblocks of H.264's decoded-picture buffer by level_idc, and the luma samples of H.265's largest picture by
general_level_idc (PRESUMED, log 17). -/
def avcDpbMbs (lv : Nat) : Nat :=
  if lv ≤ 10 then 396 else if lv ≤ 11 then 900 else if lv ≤ 20 then 2376 else if lv ≤ 21 then 4752 else if lv ≤ 30 then 8100
  else if lv ≤ 31 then 18000 else if lv ≤ 32 then 20480 else if lv ≤ 41 then 32768 else if lv ≤ 42 then 34816
  else if lv ≤ 50 then 110400 else 184320
def hevcLumaPs (lv : Nat) : Nat :=
  if lv ≤ 30 then 36864 else if lv ≤ 60 then 122880 else if lv ≤ 63 then 245760 else if lv ≤ 90 then 552960
  else if lv ≤ 93 then 983040 else if lv ≤ 123 then 2228224 else if lv ≤ 156 then 8912896 else 35651584

/-- The size of the decoded-picture buffer that a record's ceiling permits for its largest picture (R300, Table 07-3; PRESUMED for
each codec, log 17). -/
def dpbSize (r : List Byte) : Nat :=
  let w := recWidth r
  let h := recHeight r
  match recFld r 0 31 28 with
  | 0 => Nat.max 1 (Nat.min 16 (avcDpbMbs (recLevel r) / Nat.max 1 (ceilDiv w 16 * ceilDiv h 16)))
  | 1 =>
    let p := hevcLumaPs (recLevel r)
    if 4 * (w * h) ≤ p then 16 else if 2 * (w * h) ≤ p then 12 else if 4 * (w * h) ≤ 3 * p then 8 else 6
  | 2 => 8
  | _ => 0

/-- The surface that a picture of a stream takes (R300): unused, else the oldest that neither the codec nor a canvas frame needs. -/
def decSlot (s : State) (k : Nat) : Option Nat :=
  let e := strGet s k
  let n := dpbSize e.rcd + recMargin e.rcd
  let held := e.pics.map DecPic.slot
  let unused := (List.range n).find? fun i => !held.contains i && !(e.frames.any fun f => f.slot == i)
  match unused with
  | some i => some i
  | none => (e.frames.find? fun f => f.slot < n && !held.contains f.slot && !(readFrames s k).contains f.num).map fun f => f.slot

/-- The wait of a stream's ready frame for a surface begins when it finds none (R300). -/
def auWait (k : Nat) (s : State) : State :=
  match readyAu (strGet s k) with
  | some a =>
    if a.waitAt.isNone && (decSlot s k).isNone then
      strUpd k (fun x => { x with aus := x.aus.map fun b => if b.num = a.num then { b with waitAt := some (t2Ns s) } else b }) s
    else s
  | none => s

/-! ### STREAM_OPEN, STREAM_MODIFY, STREAM_CLOSE -/

/-- The entry number that W4 gives. -/
def strNo (c : Cmd) : Nat := fld (cw c 4) 7 0

/-- The port that opened an entry, as a holder (R548). -/
def openerOf (e : StreamE) : Nat := portInit e.opener

/-- Streams that PF1 has open. -/
def pf1Streams (s : State) : Nat := (s.str.ents.filter fun x => x.2.st != 0 && x.2.opener == .pf1).length

/-- The numbers and origins of a stream start afresh (R297). -/
def freshStream (c : Cmd) (r : List Byte) (st : Nat) (home : List Nat) (order : Nat) : StreamE :=
  { st := st, opener := c.port, rcd := r, home := home, order := order }

/-- Watch settings that wait for a frame of a stream that starts afresh hold from its first frame on (R737). -/
def watchRestart (k : Nat) (s : State) : State :=
  withStr s { s.str with watches := s.str.watches.map fun x =>
    (x.1, { x.2 with next := x.2.next.map fun y => if y.2.2.stream = k then (0, y.2) else y }) }

/-- STREAM_OPEN (R280, R281, R296, R538, R541). -/
def opStreamOpen (c : Cmd) (s : State) : State × Reply :=
  let k := strNo c
  let r := normRecord (crec c)
  let e := strGet s k
  let bb := recFld r 0 31 28 == 6
  let n := recBbInput r
  let waits := bb && !((bbGet s n).trained && (bbGet s n).en)
  let user := if bb then inputUser s n else none
  let a := if waits then .ok [] else admitStream s s.str.ents r true
  checked [
    (c.port == .pf1 && (recResidence r != 0 || s.hif.pf1.classes / 2 ^ recClass r % 2 == 0 || s.hif.pf1.streams ≤ pf1Streams s),
      noRight),
    ((recordBad r).isSome, badRecord ((recordBad r).getD 0)),
    (e.st != 0, held (openerOf e) k),
    (user.isSome, held (openerOf (strGet s (user.getD 0))) n)]
    (fun s =>
      match a with
      | .no x => (s, x)
      | .ok home =>
        let s1 := watchRestart k (settleMerge k (strSet k (freshStream c r 0 home s.str.nextOrder) s))
        let s2 := withStr s1 { s1.str with nextOrder := s1.str.nextOrder + 1 }
        (if waits then setStream k 4 6 s2 else setStream k 1 1 s2, .ok [])) s

/-- The fields of a stream record that PF1 may not change (R283), as (offset, high bit, low bit): all but the start policy, the
refresh-wanted time and the statistics buffer. Reserved bits are no fields (R8). -/
def pf1Fixed : List (Nat × Nat × Nat) :=
  [(0, 31, 13), (0, 11, 0), (4, 31, 0), (8, 31, 0), (12, 31, 0), (16, 31, 0), (20, 31, 0), (24, 31, 0), (28, 31, 0), (32, 31, 0),
   (36, 31, 0), (40, 31, 8), (44, 31, 15), (44, 7, 0), (48, 31, 0), (52, 15, 0), (64, 11, 8)]

/-- A record changes such a field of another. -/
def pf1Differs (old new : List Byte) : Bool := pf1Fixed.any fun x => recFld old x.1 x.2.1 x.2.2 != recFld new x.1 x.2.1 x.2.2

/-- The first field of a record that STREAM_MODIFY refuses, out of range or not modifiable (R542, R548). -/
def modifyBad (cur r : List Byte) : Option Nat :=
  match recordBad r, reopenDiffers cur r with
  | some x, some y => some (min x y)
  | some x, none => some x
  | none, y => y

/-- STREAM_MODIFY (R238, R280, R283, R313, R542). The record, and the engines where residence changes, take effect at the next frame or
access-unit boundary; admission counts them from now on. -/
def opStreamModify (c : Cmd) (s : State) : State × Reply :=
  let k := strNo c
  let e := strGet s k
  let cur := e.next.getD e.rcd
  let r := normRecord (crec c)
  let same := recFld cur 0 25 15 == recFld r 0 25 15
  let a := if same || e.st == 4 then .ok (accepted e).home else admitStream s (tdel k s.str.ents) r false
  checked [
    (e.st == 0 || e.st == 5, badField 16),
    (c.port == .pf1 && (e.opener != .pf1 || pf1Differs cur r), noRight),
    ((modifyBad cur r).isSome, badRecord ((modifyBad cur r).getD 0))]
    (fun s =>
      match a with
      | .no x => (s, x)
      | .ok home => (readmit (strUpd k (fun x => { x with next := some r, nextHome := some home }) s), .ok [])) s

/-- STREAM_CLOSE (R280, R538). -/
def opStreamClose (c : Cmd) (s : State) : State × Reply :=
  let k := strNo c
  let e := strGet s k
  checked [
    (e.st == 0 || e.st == 5, badField 16),
    (c.port == .pf1 && (e.opener != .pf1 || recResidence e.rcd != 0 || s.hif.pf1.classes / 2 ^ recClass e.rcd % 2 == 0), noRight)]
    (fun s =>
      let s1 := setStream k 5 1 (strUpd k (fun x => { x with home := [], nextHome := none, opens := [], aus := [], closedAt := t2Ns s }) s)
      (liveChanged (withStr s1 { s1.str with shed := s1.str.shed.filter fun j => j != k }), .ok [])) s

/-- STREAM_CLOSE (R280). -/
def execStreamClose (c : Cmd) (s : State) : Res := .next (hostCommand 0x0302 opStreamClose c s)

/-- The longest frame period of an enabled output, in ns (R280). -/
def slowestPeriod (s : State) : Nat :=
  ((s.scan.outs.filter fun x => x.2.en).map fun x => flPeriod (flGet s (orGen (outRec s x.1)))).foldl Nat.max 0

/-- A CLOSING entry becomes FREE once no canvas frame being composed reads its surfaces, and at the latest two frame periods of the
slowest output after it closed (R280). -/
def closingRelease (k : Nat) (s : State) : State :=
  let e := strGet s k
  if e.st == 5 && ((readFrames s k).isEmpty || e.closedAt + 2 * slowestPeriod s ≤ t2Ns s) then
    setStream k 0 1 s |> fun s1 => withStr s1 { s1.str with ents := tdel k s1.str.ents }
  else s

/-- STREAM_CLOSING_RELEASE (R280). -/
def execStreamClosingRelease (stream : Nat) (s : State) : Res := .next (closingRelease stream s)

/-- STREAM_ANCHOR (R204, R538). -/
def opStreamAnchor (c : Cmd) (s : State) : State × Reply :=
  let k := strNo c
  let e := strGet s k
  checked [
    (e.st == 0 || e.st == 5, badField 16),
    (c.port == .pf1 && e.opener != .pf1, noRight),
    (1000000000 ≤ (cw c 8).toNat, badField 32)]
    (fun s =>
      let a : Anchor := { rtp := cw c 5, ns := w64of (cw c 6) (cw c 7) * 1000000000 + (cw c 8).toNat, at_ := t2Ns s }
      (strUpd k (fun x => { x with anchorNext := some a }) s, .ok [])) s

/-- STREAM_ANCHOR (R204). -/
def execStreamAnchor (c : Cmd) (s : State) : Res := .next (hostCommand 0x0303 opStreamAnchor c s)

/-- An anchor that has outlived its lifetime is dropped: the stream's next access unit runs in ARRIVAL mode (R206). -/
def anchorExpiry (k : Nat) (s : State) : State :=
  let e := strGet s k
  if e.anchor.isSome && anchorOld e (t2Ns s) then strUpd k (fun x => { x with anchor := none }) s else s

/-- ANCHOR_EXPIRY (R206). -/
def execAnchorExpiry (stream : Nat) (s : State) : Res := .next (anchorExpiry stream s)

/-- STREAM_STATUS (Table 13-11). -/
def opStreamStatus (c : Cmd) (s : State) : State × Reply :=
  let e := strGet s (strNo c)
  let f := e.frames.getLast?
  let num := match f with | some x => x.num | none => 0
  let org := match f with | some x => x.origin | none => 0
  (s, .ok [pack [(31, 24, e.st), (23, 16, if e.st = 0 then 0 else openerOf e)], w32 num, w32 (org / 1000000000),
    w32 (org % 1000000000), w32 (match f with | some x => x.tainted | none => 0)])

/-- STREAM_STATUS (R540). -/
def execStreamStatus (c : Cmd) (s : State) : Res := .next (hostCommand 0x0307 opStreamStatus c s)

/-! ### WATCH_SET (R141, R151, R737) -/

/-- A valid entry of the live or staged ledger of a source names a window (R737): the ledger copied last, those committed and not yet
copied, and the staging bank. -/
def windowNamed (s : State) (k n : Nat) : Bool :=
  let live := (s.comp.ledger.gens.filter fun g => g.copied).getLast?.toList
  (watchesOf s.comp.ledger.staging k).contains n ||
    (live ++ s.comp.ledger.gens.filter fun g => !g.copied).any fun g => (watchesOf g.table k).contains n

/-- The window that a WATCH_SET describes, with the default thresholds in place of 0 (R733). -/
def watchNew (c : Cmd) : WatchCfg :=
  { en := bitOf (cw c 8) 0, stream := fld (cw c 3) 7 0, x := fld (cw c 4) 15 0, y := fld (cw c 4) 31 16, w := fld (cw c 5) 15 0,
    h := fld (cw c 5) 31 16, period := (cw c 6).toNat,
    pixThr := if fld (cw c 7) 25 16 = 0 then 16 else fld (cw c 7) 25 16,
    cntThr := if fld (cw c 7) 14 0 = 0 then 8 else fld (cw c 7) 14 0 }

/-- A setting enables the window, or changes its source or its rectangle (R737). -/
def watchRestarts (a b : WatchCfg) : Bool :=
  !(a.en && a.stream == b.stream && a.x == b.x && a.y == b.y && a.w == b.w && a.h == b.h)

/-- A window with a setting accepted for a source: it waits for that source's next frame, and restarts the window where it, or one that
waits before it, does (R737). -/
def watchPut (s : State) (w : Watch) (c : WatchCfg) : Watch :=
  { w with next := some ((strGet s c.stream).nextFrame,
      watchRestarts (watchLast w) c || (match w.next with | some x => x.2.1 | none => false), c) }

/-- WATCH_SET (R737). -/
def opWatchSet (c : Cmd) (s : State) : State × Reply :=
  let n := fld (cw c 2) 8 0
  let w := tget {} s.str.watches n
  let new := watchNew c
  checked [
    (outside 1 256 new.w || outside 1 64 new.h, badField 20),
    (outside 100 60000 new.period, badField 24),
    (16384 < new.cntThr, badField 28),
    ((watchLast w).stream != new.stream && windowNamed s (watchLast w).stream n, held 0xFF n)]
    (fun s => (withStr s { s.str with watches := tset n (watchPut s w new) s.str.watches }, .ok [])) s

/-- WATCH_SET (R737). -/
def execWatchSet (c : Cmd) (s : State) : Res := .next (hostCommand 0x0304 opWatchSet c s)

end Sys2Proof.Machine
end

