-- ==== Sys2Proof/Machine/Net.lean ====
section
/-! DEFINITION. Network ports, filters, the flow table, control classes, packet-in delivery and packet-out transmission
(R225 to R237, R253 to R258, R544 to R546). -/

namespace Sys2Proof.Machine

/-- The block with its network units replaced. -/
def withNet (s : State) (u : NetUnit) : State := { s with net := u }

/-- Network port `p`. -/
def netGet (s : State) (p : Nat) : NetPort := tget {} s.net.ports p

/-- The block with a network port changed by a function. -/
def netUpd (p : Nat) (f : NetPort → NetPort) (s : State) : State :=
  withNet s { s.net with ports := tupd {} p f s.net.ports }

/-- Count `k` of INGEST_STATS and of NET_Pp_CNTk (1 good, 2 FCS, 3 parity, 4 filtered, 5 unmatched, 6 late, 7 duplicate), each
with its own reset (R271, R681). -/
def netCount (p k : Nat) (s : State) : State :=
  let up (t : Tab Nat) : Tab Nat := tupd 0 k (fun n => sat32 (n + 1)) t
  netUpd p (fun x => { x with stats := up x.stats, cnt := up x.cnt }) s

/-- A lane pair runs in 100 Gb/s mode. -/
def pair100 (s : State) (p : Nat) : Bool := tget false s.net.mode100 p

/-! ### Flow entries (Table 06-3) -/

def flValidB (r : List Byte) : Bool := recFld r 0 31 31 == 1
def flKind (r : List Byte) : Nat := recFld r 0 30 28
def flPath (r : List Byte) : Nat := recFld r 0 27 27
def flSsm (r : List Byte) : Bool := recFld r 0 26 26 == 1
def flVer (r : List Byte) : Nat := recFld r 0 25 24
def flPorts (r : List Byte) : Nat := recFld r 0 23 16
def flSsrcChk (r : List Byte) : Bool := recFld r 0 15 15 == 1
def flPtChk (r : List Byte) : Bool := recFld r 0 14 14 == 1
def flVlan (r : List Byte) : Bool := recFld r 0 13 13 == 1
def flVid (r : List Byte) : Nat := recFld r 0 11 0
def flStream (r : List Byte) : Nat := recFld r 4 31 24
def flPt (r : List Byte) : Nat := recFld r 4 23 16
def flUdp (r : List Byte) : Nat := recFld r 4 15 0
def flSsrc (r : List Byte) : Nat := leAt r 8 4
/-- The address bytes that count: 4 for IPv4, 16 for IPv6. -/
def flAddrLen (r : List Byte) : Nat := if flVer r = 0 then 4 else 16
def flDst (r : List Byte) : List Byte := (r.drop 16).take (flAddrLen r)
def flSrc (r : List Byte) : List Byte := (r.drop 32).take (flAddrLen r)

/-- The bits of a mask of eight ports that two masks share. -/
def portsMeet (a b : Nat) : Bool := a &&& b != 0

/-- Two entries could match one packet, apart from their checks of source, SSRC and payload type (R235). -/
def flSameKey (a b : List Byte) : Bool :=
  flVer a == flVer b && flDst a == flDst b && flUdp a == flUdp b && portsMeet (flPorts a) (flPorts b) && flVlan a == flVlan b &&
    (!flVlan a || flVid a == flVid b)

/-- The SSRC or payload-type checks of two entries keep every packet from matching both (R234). -/
def flChecksApart (a b : List Byte) : Bool :=
  (flSsrcChk a && flSsrcChk b && flSsrc a != flSsrc b) || (flPtChk a && flPtChk b && flPt a != flPt b)

/-- Two valid entries could match one packet in a way that R235 refuses: an SSM entry and one without may stand together, and so
may two SSM entries of different sources, and two whose checks no packet passes both of. -/
def flClash (a b : List Byte) : Bool :=
  flSameKey a b && (flSsm a == flSsm b) && (!flSsm a || flSrc a == flSrc b) && !flChecksApart a b

/-- A frame and its UDP packet match an entry but for its SSRC and payload-type checks (R234). -/
def flMatch (r : List Byte) (port : Nat) (f : EthFrame) (p : UdpPkt) : Bool :=
  flValidB r && flPorts r / 2 ^ port % 2 == 1 && flVer r == b1 p.v6 && flDst r == p.dst && flUdp r == p.port.toNat &&
    (if flVlan r then f.tags == 1 && f.vid == flVid r else f.tags == 0) && (!flSsm r || flSrc r == p.src)

/-- The SSRC and payload type are as an entry expects (R234). The synchronisation source of an RTCP packet is its sender's. -/
def flChecks (r : List Byte) (p : UdpPkt) : Bool :=
  if flKind r = 3 then (!flSsrcChk r || beAt p.data 4 4 == flSsrc r) && (!flPtChk r || beAt p.data 1 1 % 128 == flPt r)
  else match p.rtp with
    | some h => (!flSsrcChk r || h.ssrc.toNat == flSsrc r) && (!flPtChk r || h.pt == flPt r)
    | none => !flSsrcChk r && !flPtChk r

/-- The first of a list of entries that names a source, else the first. -/
def ssmFirst (l : Tab Flow) : Option (Nat × Flow) :=
  match l.find? fun x => flSsm x.2.rcd with
  | some x => some x
  | none => l.head?

/-- The entry that a packet matches: an SSM entry before one without (R235); where it fails only the checks of those it would match, one
of those (DESIGN CHOICE, log 63: the SSM one, else the lowest). -/
def flowLookup (s : State) (port : Nat) (f : EthFrame) (p : UdpPkt) : Option (Nat × Flow) :=
  let ms := s.net.flows.filter fun x => flMatch x.2.rcd port f p
  match ssmFirst (ms.filter fun x => flChecks x.2.rcd p) with
  | some x => some x
  | none => ssmFirst ms

/-! ### Filters (R230) -/

/-- The MAC address that bytes 0 to 5 spell, as a number with byte 0 most significant. -/
def macOf (lo hi : W32) : Nat :=
  let b (n i : Nat) : Nat := n / 256 ^ i % 256
  ((((b lo.toNat 0 * 256 + b lo.toNat 1) * 256 + b lo.toNat 2) * 256 + b lo.toNat 3) * 256 + b hi.toNat 0) * 256 + b hi.toNat 1

/-- The broadcast address. -/
def macBroadcast : Nat := 2 ^ 48 - 1

/-- A multicast address (broadcast apart). -/
def macGroup (m : Nat) : Bool := m / 2 ^ 40 % 2 == 1 && m != macBroadcast

/-- The multicast MAC of a group address in network byte order (RFC 1112, RFC 2464; PRESUMED, log 6). -/
def groupMac (addr : List Byte) : Nat :=
  let n (i : Nat) : Nat := (addr.getD i 0).toNat
  if addr.length = 4 then 0x01005E000000 + (n 1 % 128) * 65536 + n 2 * 256 + n 3
  else 0x333300000000 + n 12 * 16777216 + n 13 * 65536 + n 14 * 256 + n 15

/-- A group address in network byte order. -/
def isGroup (addr : List Byte) : Bool :=
  if addr.length = 4 then (addr.getD 0 0).toNat / 16 == 14 else addr.getD 0 0 == 0xFF

/-- The address is one of the port's unicast filter entries. -/
def isUnicast (s : State) (port dst : Nat) : Bool := (netGet s port).unicast.any fun x => x.2 == dst

/-- A port accepts a frame (R230). -/
def filterPass (s : State) (port : Nat) (f : EthFrame) : Bool :=
  if macGroup f.dst then
    (s.net.flows.any fun x => flValidB x.2.rcd && flPorts x.2.rcd / 2 ^ port % 2 == 1 && isGroup (flDst x.2.rcd) &&
        groupMac (flDst x.2.rcd) == f.dst) ||
      (bodyClass f.body).isSome || ((netGet s port).multicast.any fun x => x.2 == f.dst)
  else f.dst == macBroadcast || isUnicast s port f.dst

/-! ### Control classes and packet-in rings (R253 to R256, R546) -/

/-- The default settings of a class (Table 06-5); its bucket starts full (log 14). -/
def classDefault (k : Nat) : PktClass :=
  let mk (ring rate burst : Nat) : PktClass := { ring := ring, rate := rate, burst := burst, tokens := burst * 1000000000 }
  match k with
  | 0 => mk 1 4000 64 | 1 => mk 1 4000 64 | 2 => mk 0 1000 64 | 3 => mk 0 2000 64 | 4 => mk 0 10000 256 | 5 => mk 0 20000 512
  | _ => mk 0 1000 32

/-- Control class `k`. -/
def classGet (s : State) (k : Nat) : PktClass := tget (classDefault k) s.net.classes k

/-- The block with a control class replaced. -/
def classSet (k : Nat) (x : PktClass) (s : State) : State :=
  withNet s { s.net with classes := tset k x s.net.classes }

/-- A class's bucket refilled to a moment of T2 (R254). -/
def classRefill (x : PktClass) (now : Nat) : PktClass :=
  { x with tokens := Nat.min (x.burst * 1000000000) (x.tokens + (now - x.at_) * x.rate), at_ := now }

/-- A control packet of a class is discarded for a cause (R255); PKTIN_LIMIT counts the discards of the last second (Table 06-7). -/
def classDrop (k cause : Nat) (s : State) : State :=
  let x := classGet s k
  let now := t2Ns s
  let l := now :: x.drops.filter fun t => decide (now < t + 1000000000)
  let sec := s.tb.t2.sec.toNat
  if sec + 1 ≤ x.lastSec then classSet k { x with drops := l } s
  else raise 0x14 [pack [(31, 24, k), (23, 16, cause)], w32 (sat32 l.length)] (classSet k { x with drops := l, lastSec := sec + 1 } s)

/-- Bytes of a packet-in data slot (Table 13-5). -/
def pktSlot (x : Ring) : Nat := 2048 * 2 ^ (x.slot % 4)

/-- The stamp words of a packet-in entry: seconds low, nanoseconds and quarters, seconds high. -/
def stampWords (t : TimeBase) (st : StampNs) : List W32 :=
  let ns := tbNs t + st.ns
  [w32 (ns / 1000000000), w32 (ns % 1000000000 * 4 + st.qns % 4), w32 (ns / 1000000000 / 2 ^ 32 % 65536)]

/-- Entry `j` of a delivered frame's `n` entries. -/
def pktinEntry (port k : Nat) (f : EthFrame) (slot n lost j : Nat) (s : State) : List W32 :=
  let len := f.bytes.length
  let held := Nat.min slot (len - j * slot)
  let t1 := if k = 0 then stampWords s.tb.t1 f.stamp else [0, 0, 0]
  [pack [(31, 16, if j = 0 then len else 0), (15, 13, port), (12, 10, k), (9, 9, b1 (j == 0))],
   pack [(31, 16, if j = 0 then n else 0), (15, 0, held)]] ++ stampWords s.tb.t0 f.stamp ++ t1 ++ [w32 lost]

/-- One slot of a delivered frame: its bytes, then its entry. -/
def pktinPut (fn r port k : Nat) (f : EthFrame) (n lost : Nat) (s : State) (j : Nat) : State :=
  let x := ringGet s fn r
  let slot := pktSlot x
  let a := w64of x.dataLo x.dataHi + slot * (x.prod.toNat % ringSize x)
  ringPut fn r (pktinEntry port k f slot n lost j s) false (send (.hostWrite a ((f.bytes.drop (j * slot)).take slot)) s)

/-- A control packet of a class is delivered to its packet-in ring or discarded (R254 to R256). -/
def classDeliver (port k : Nat) (f : EthFrame) (s : State) : State :=
  let x := classRefill (classGet s k) (t2Ns s)
  let s1 := classSet k x s
  let r := 12 + x.ring
  let ring := ringGet s x.fn r
  let n := ceilDiv f.bytes.length (pktSlot ring)
  if x.rate = 0 || x.tokens < 1000000000 then classDrop k 1 s1
  else if !ringRoom ring n then
    let s2 := ringSet s1 x.fn r { ring with lostFrames := sat32 (ring.lostFrames + 1), discards := sat16 (ring.discards + n) }
    classDrop k 2 s2
  else
    let s2 := classSet k { x with tokens := x.tokens - 1000000000 } s1
    let s3 := ringSet s2 x.fn r { ring with lostFrames := 0 }
    (List.range n).foldl (pktinPut x.fn r port k f n ring.lostFrames) s3

/-- PKTIN_CLASS_SET (R254): a burst of 0 selects the class's default (R733). -/
def opPktinClassSet (c : Cmd) (s : State) : State × Reply :=
  let k := (cw c 2).toNat
  checked [
    (6 < k, badField 8),
    (1000000 < (cw c 4).toNat, badField 16),
    (4096 < (cw c 5).toNat, badField 20)]
    (fun s =>
      let x := classRefill (classGet s k) (t2Ns s)
      let burst := if (cw c 5).toNat = 0 then (classDefault k).burst else (cw c 5).toNat
      (classSet k { x with fn := fld (cw c 3) 8 8, ring := fld (cw c 3) 0 0, rate := (cw c 4).toNat, burst := burst,
                           tokens := Nat.min x.tokens (burst * 1000000000) } s, .ok [])) s

/-- PKTIN_CLASS_SET (R254). -/
def execPktinClassSet (c : Cmd) (s : State) : Res := .next (hostCommand 0x0204 opPktinClassSet c s)

/-- NET_FILTER_SET (R230). -/
def opNetFilterSet (c : Cmd) (s : State) : State × Reply :=
  let p := fld (cw c 2) 2 0
  let multi := bitOf (cw c 2) 8
  let i := fld (cw c 2) 19 16
  let mac := macOf (cw c 3) (cw c 4)
  checked [(!multi && 3 < i, badField 8)]
    (fun s =>
      let put (t : Tab Nat) : Tab Nat := if bitOf (cw c 5) 0 then tset i mac t else tdel i t
      (netUpd p (fun x => if multi then { x with multicast := put x.multicast } else { x with unicast := put x.unicast }) s,
        .ok [])) s

/-- NET_FILTER_SET (R230). -/
def execNetFilterSet (c : Cmd) (s : State) : Res := .next (hostCommand 0x0201 opNetFilterSet c s)

/-! ### Packet-out rings (R257, R258, R544, R545) -/

/-- The completion ring of a packet-out ring has a free entry beside those reserved (R545). -/
def pktoutEligible (s : State) (fn r : Nat) : Bool :=
  let x := ringGet s fn r
  let q := cplRing s fn r
  x.en && !x.stopped && x.prod != x.cons && ringRoom (ringGet s fn q) (reserved s fn q + 1) && commandsTaken s

/-- A packet-out descriptor of a function judged (R258, R545): its status with DETAIL (R548), and the port it names. -/
def pktoutJudge (fn : Nat) (d : PacketOut) (s : State) : Nat × Nat :=
  let w0 := wd d.words 0
  let len := fld (wd d.words 1) 15 0
  (firstOf [
    (fn == 1 && bitOf w0 12, (2, 0)),
    (!(netGet s (fld w0 15 13)).en, (1, 0)),
    (outside 60 9596 len, (1, 4)),
    (d.frame.isNone, (10, 0))]).getD (0, 0)

/-- PACKET_OUT_TAKE: one descriptor of a packet-out ring is taken, judged and completed; its frame waits for its port. The completion
carries OPCODE 0xFFFE and SEQ 0xFFFFFFFF (Table 13-9). A descriptor that could not be read stops the ring (R529). -/
def packetOutTake (fn ring : Nat) (d : Option PacketOut) (s : State) : State :=
  let r := 10 + ring % 2
  if !pktoutEligible s fn r then s
  else
    match d with
    | none => ringStop fn r 2 0 s
    | some d =>
      let x := ringGet s fn r
      let s1 := ringSet s fn r { x with cons := x.cons + 1 }
      let w0 := wd d.words 0
      let (st, det) := pktoutJudge fn d s
      let tag : W16 := BitVec.ofNat 16 (fld w0 31 16)
      let ws := cplWords tag st r 0xFFFE 0xFFFFFFFF (x.cons + 1) (w32 det) []
      let s2 := if st != 0 || bitOf w0 9 then ringWrite fn (cplRing s1 fn r) ws false s1 else s1
      let s3 := if st = 2 then notPermitted fn 3 0 0 tag.toNat s2 else s2
      if st = 0 then
        let ts := if bitOf w0 12 then some (fld w0 11 10, BitVec.ofNat 16 (fld (wd d.words 1) 31 16)) else none
        let t : TxFrame := { port := fld w0 15 13, ring := 2 * fn + ring % 2, frame := (d.frame.getD []).take (fld (wd d.words 1) 15 0), ts := ts }
        withNet s3 { s3.net with tx := s3.net.tx ++ [t] }
      else s3

/-- PACKET_OUT_TAKE (R545). -/
def execPacketOutTake (fn ring : Nat) (d : Option PacketOut) (s : State) : Res := .next (packetOutTake (fnOf fn) ring d s)

/-- The ring that a port serves next: the first after the last served that has a frame for it (R257). -/
def txNextRing (s : State) (port : Nat) : Option Nat :=
  let last := tget 3 s.hif.txLast port
  ([1, 2, 3, 4].map fun k => (last + k) % 4).find? fun r => s.net.tx.any fun t => t.port == port && t.ring == r

/-- FRAME_TRANSMIT: a port with a link sends the next host frame with its FCS, and its timestamp enters the port's queue (R197, R198,
R257). A frame whose port is disabled or without a link waits (DESIGN CHOICE, log 63). -/
def frameTransmit (port : Nat) (stamp : StampNs) (s : State) : State :=
  if !((netGet s port).en && (netGet s port).up) then s
  else match txNextRing s port with
  | none => s
  | some r =>
    match s.net.tx.find? fun t => t.port == port && t.ring == r with
    | none => s
    | some t =>
      let rest := s.net.tx.erase t
      let s1 := send (.ethSend port (withFcs t.frame))
        { s with net := { s.net with tx := rest }, hif := { s.hif with txLast := tset port r s.hif.txLast } }
      match t.ts with
      | some (base, ident) =>
        let ns := tbNs (tbGet s.tb base) + stamp.ns
        txqPush port { ident := ident, tbase := base, nsq := w32 (ns % 1000000000 * 4 + stamp.qns % 4), sec := ns / 1000000000 } s1
      | none => s1

/-- FRAME_TRANSMIT (R257). -/
def execFrameTransmit (port : Nat) (stamp : StampNs) (s : State) : Res := .next (frameTransmit (port % 8) stamp s)

end Sys2Proof.Machine
end

