-- ==== Sys2Proof/Machine/Ingest.lean ====
section
/-! DEFINITION. Reception: packets placed into frames and access units (R240 to R246), their close, concealment and blocks (R61 to
R64), ST 2022-7 merge (R248 to R250), the port, flow and link commands that end reception (R227, R232, R236), statistics. -/

namespace Sys2Proof.Machine

/-! ### Sequence numbers and timestamps -/

/-- A number of a field that counts modulo `m`, extended to the value nearest the last one seen. -/
def extNear (m : Nat) (last : Option Nat) (v : Nat) : Nat :=
  match last with
  | none => m + v
  | some l =>
    let c := l / m * m + v
    if c + m / 2 < l then c + m else if l + m / 2 < c && m ≤ c then c - m else c

/-- The extended number of a 16-bit sequence number (R242). -/
def extSeq (last : Option Nat) (seq : W16) : Nat := extNear 65536 last seq.toNat

/-- Timestamp `a` is later than `b`, modulo 2^32. -/
def tsLater (a b : W32) : Bool := decide (0 < sext 32 (a - b).toNat)

/-- The hold time of a unit of a stream in ns, by the record in force at its opening (R238, R239). -/
def holdNs (e : StreamE) (u : OpenUnit) : Nat := (if e.merged then recMerge u.rcd else recHold u.rcd) * 1000

/-! ### Units -/

/-- The unit of a stream, open or closed, whose timestamp comes last before another's. -/
def unitBefore (e : StreamE) (ts : W32) : Option OpenUnit :=
  ((e.opens ++ e.closed).filter fun v => tsLater ts v.ts).foldl
    (fun a v => match a with | some b => if tsLater v.ts b.ts then some v else some b | none => some v) none

/-- The first sequence number a unit must hold: after the marker of the unit before it where that is known, else the least
received. -/
def unitFirst (e : StreamE) (u : OpenUnit) : Nat :=
  match (unitBefore e u.ts).bind OpenUnit.marker with
  | some m => m + 1
  | none => match u.held.map Held.seq with
    | [] => 0
    | a :: l => l.foldl Nat.min a

/-- Every number from the unit's first to its marker is in a list (R242, R246). -/
def wholeIn (e : StreamE) (u : OpenUnit) (seqs : List Nat) : Bool :=
  match u.marker with
  | none => false
  | some m => (List.range (m + 1 - unitFirst e u)).all fun i => seqs.contains (unitFirst e u + i)

/-- The greatest number known of a unit: its marker's, or the last received. -/
def unitLast (u : OpenUnit) : Option Nat :=
  match u.marker, (u.held.map Held.seq).max? with
  | some m, some n => some (Nat.max m n)
  | some m, none => some m
  | none, n => n

/-- The number from which an access unit's numbers may not lack (R242, R243): after the last known of the unit before it. -/
def codedFirst (e : StreamE) (u : OpenUnit) : Nat :=
  match (unitBefore e u.ts).bind unitLast with
  | some m => m + 1
  | none => unitFirst e u

/-- An access unit has its marker, no number before it is missing, and no unit before it is open (R242). -/
def codedWhole (e : StreamE) (u : OpenUnit) : Bool :=
  match u.marker with
  | none => false
  | some m =>
    ((List.range (m + 1 - codedFirst e u)).all fun i => (u.held.map Held.seq).contains (codedFirst e u + i)) &&
      !(e.opens.any fun v => tsLater u.ts v.ts)

/-- All its packets have arrived (R242; of ST 2110 frames R246, point 1). -/
def unitWhole (e : StreamE) (u : OpenUnit) : Bool :=
  if strFormat e < 4 then codedWhole e u else wholeIn e u (u.held.map Held.seq)

/-- A packet kept in sequence order. -/
def heldInsert (h : Held) : List Held → List Held
  | [] => [h]
  | x :: xs => if h.seq < x.seq then h :: x :: xs else x :: heldInsert h xs

/-- The lowest-numbered unit open, or the next to open (R249). -/
def lowestOpen (e : StreamE) : Nat := (e.opens.map OpenUnit.num).foldl Nat.min e.nextUnit

/-- A path of a merged stream changes: MERGE_PATH (Table 06-7). -/
def pathSet (k path : Nat) (up : Bool) (s : State) : State :=
  let e := strGet s k
  let p := if path = 0 then e.pathA else e.pathB
  if p.up == up then s
  else
    let e' := if path = 0 then { e with pathA := { p with up := up } } else { e with pathB := { p with up := up } }
    raise 0x12 [pack [(31, 24, k), (23, 23, path), (22, 22, b1 up)], w32 (lowestOpen e)] (strSet k e' s)

/-- FRAME_DROP (Table 06-7): the count since the previous one of this stream is 1, each drop raising its own. -/
def frameDrop (k cause num : Nat) (s : State) : State :=
  raise 0x13 [pack [(31, 24, k), (23, 16, cause), (15, 0, 1)], w32 num] s

/-! ### Closing a compressed access unit (R64, R242, R243) -/

/-- The blocks of an access unit: bytes in sequence order cut at 2,048, each with its tag; a block that holds data after a gap
carries INCOMPLETE. `gaps` are byte offsets before which a number is missing. -/
def blocksOf (origin base : Nat) (gaps : List Nat) : Nat → Nat → List Byte → List Block
  | 0, _, _ => []
  | fuel + 1, off, bs =>
    if bs.isEmpty then []
    else
      let b := bs.take 2048
      let gap := gaps.any fun g => off ≤ g && g < off + 2048
      let fl := base ||| (if gap then flagINCOMPLETE else 0)
      { bytes := b, tag := BitVec.ofNat 64 (tagWord (crc32c b) (tick origin) fl) } :: blocksOf origin base gaps fuel (off + 2048) (bs.drop 2048)

/-- The byte offsets of a unit's gaps: where a packet follows a missing number or an unsupported one. -/
def unitGaps : Nat → Nat → List Held → List Nat
  | _, _, [] => []
  | next, off, h :: hs =>
    (if h.seq != next || h.bad then [off] else []) ++ unitGaps (h.seq + 1) (off + h.bytes.length) hs

/-- Bytes that closed access units occupy. -/
def bufUsed (e : StreamE) : Nat := sumL (e.aus.map fun a => sumL (a.blocks.map fun b => b.bytes.length))

/-- REFRESH_WANTED (Table 07-9). -/
def refreshWanted (k : Nat) (s : State) : State :=
  let e := strGet s k
  let ms := match e.taintAt with | some t => (t2Ns s - t) / 1000000 | none => 0
  raise 0x1A [pack [(31, 24, k)], w32 (e.nextFrame - 1), w32 ms] s

/-- The access units left of a list from its next random access point on, none where it has none. -/
def fromRap : List AccUnit → List AccUnit
  | [] => []
  | a :: as => if a.rap then a :: as else fromRap as

/-- A class 2 or 3 stream over its backlog limit discards waiting access units (R295). -/
def backlog (k : Nat) (s : State) : State :=
  let e := strGet s k
  let waiting := e.aus.filter fun a => !a.started
  if recClass e.rcd < 2 || waiting.length ≤ recBacklog e.rcd then s
  else
    let kept := fromRap (waiting.drop 1)
    let n := waiting.length - kept.length
    let s1 := strUpd k (fun x => { x with aus := (x.aus.filter fun a => a.started) ++ kept }) s
    refreshWanted k (raise 0x1C [pack [(31, 24, k)], w32 n] s1)

/-- The packets of a unit with their bytes as the decoder takes them: of AV1, the OBUs joined and sized (R241). -/
def heldAv1 : Nat → List Byte → List Held → List Held
  | _, _, [] => []
  | next, carry, h :: hs =>
    let b0 := (h.bytes.getD 0 0).toNat
    let z := b0 / 128 == 1
    let es := av1Elements h.bytes
    let lost := h.seq != next
    let es' := if lost && z then es.drop 1 else es
    let (o, c) := av1Join (z && !lost) (b0 / 64 % 2 == 1) es' carry
    let fin := if hs.isEmpty then obuOut c else []
    { h with bytes := (if lost && z then obuOut carry else []) ++ o ++ fin } :: heldAv1 (h.seq + 1) c hs

/-- What a unit's packets bring to its access unit. -/
def auHeld (e : StreamE) (u : OpenUnit) : List Held :=
  if strFormat e = 2 then heldAv1 ((u.held.map Held.seq).headD 0) [] u.held else u.held

/-- An access unit takes its place in decode order among those not started. -/
def auInsert (a : AccUnit) : List AccUnit → List AccUnit
  | [] => [a]
  | x :: xs => if !x.started && a.num < x.num then a :: x :: xs else x :: auInsert a xs

/-- A compressed access unit closes: stored as blocks, or discarded for want of room or of a random access point (R243, R305). -/
def closeCoded (k : Nat) (u : OpenUnit) (degraded : Bool) (s : State) : State :=
  let e := strGet s k
  let held := auHeld e u
  let bytes := held.flatMap Held.bytes
  let gaps := unitGaps (codedFirst e u) 0 held
  let base := (if u.arrTimed then flagARRIVAL_TIMED else 0) ||| (if degraded then flagDEGRADED else 0)
  let a : AccUnit := {
    num := u.num, arrival := u.arrival, origin := u.origin, arrTimed := u.arrTimed, degraded := degraded,
    incomplete := !gaps.isEmpty || u.marker.isNone, rap := u.rap, closedAt := t2Ns s,
    blocks := blocksOf u.origin base gaps (bytes.length / 2048 + 1) 0 bytes }
  if (e.wantRap || (e.starting && recWaitRap e.rcd)) && !u.rap then s
  else if recBitbuf e.rcd * 2 ^ 20 < bufUsed e + bytes.length then frameDrop k 2 u.num s
  else auWait k (backlog k (strUpd k (fun x => { x with aus := auInsert a x.aus, wantRap := false, starting := false }) s))

/-! ### Closing an ST 2110-20 frame (R62, R246) -/

/-- The stored format of an ST 2110-20 record: Y8 or Y10 4:2:2 (R244). -/
def st20Fmt (r : List Byte) : Nat := if recDepth10 r then 4 else 1

/-- The key of a received sample. -/
def sampleKey (p i : Nat) : Nat := p * 2 ^ 32 + i

/-- The lines of the second segment of a segmented frame are counted from here (R244). -/
def segmentBase : Nat := 32768

/-- A frame is segmented: some of its samples came for the second segment. -/
def segmented (u : OpenUnit) (w : Nat) : Bool := u.samples.any fun x => segmentBase * (w / 2) ≤ x.1 % 2 ^ 32

/-- A received sample by plane, column and line, of a plane `pw` wide. -/
def unitSample (u : OpenUnit) (w p pw x y : Nat) : Option Nat :=
  let line := if segmented u w then y / 2 + segmentBase * (y % 2) else y
  tfind (sampleKey p (line * pw + x)) u.samples

/-- Sample `(x, y)` of plane `p` of a stitch, of a received frame. -/
def cellSample (u : OpenUnit) (fmt w sx sy p x y : Nat) : Option Nat :=
  let d := planeDiv fmt p
  unitSample u w p (w / d.1) (32 * sx / d.1 + x) (32 * sy / d.2 + y)

/-- Some sample of a stitch has not arrived. -/
def stitchLacks (u : OpenUnit) (fmt w h sx sy : Nat) : Bool :=
  (List.range 3).any fun p =>
    let d := planeDiv fmt p
    (List.range (stitchExt h sy / d.2)).any fun y => (List.range (stitchExt w sx / d.1)).any fun x => (cellSample u fmt w sx sy p x y).isNone

/-- The payload of a stitch with the samples that lack filled from another payload, or mid-grey. -/
def concealPayload (u : OpenUnit) (fmt w h sx sy : Nat) (prev : Option (List Byte)) : List Byte :=
  (List.range 3).flatMap fun p =>
    let d := planeDiv fmt p
    (List.range (stitchExt h sy / d.2)).flatMap fun y =>
      (List.range (stitchExt w sx / d.1)).flatMap fun x =>
        sampleBytes fmt ((cellSample u fmt w sx sy p x y).getD
          (match prev with | some b => sampleOf b fmt w h sx sy p x y | none => midGrey fmt))

/-- What the co-located stitch of the previous frame gives: its payload where it verifies, and the check kind where it does not. -/
structure PrevCell where
  bytes : Option (List Byte) := none
  bad : Option Nat := none
deriving DecidableEq, Repr

/-- The co-located stitch of the previous frame, read and verified by a stage (R62, R269). A previous frame of another size or stored
format has no co-located stitch: it counts as none (DESIGN CHOICE, log 65). A stitch that fails is not used (R70): its samples are
mid-grey (DESIGN CHOICE, log 65). -/
def prevStitch (stage : Nat) (us : List StageFault) (init port k : Nat) (prev : Option SrcFrame) (fmt w h sx sy : Nat) (s : State) :
    PrevCell × State :=
  match prev with
  | some f =>
    if f.fmt = fmt && f.w = w && f.h = h then
      let (r, s1) := fetchStitch stage us init port (streamSurf k f.slot fmt w h) sx sy s
      (if r.tag.isSome then { bytes := some r.bytes } else { bad := some r.kind }, s1)
    else ({}, s)
  | none => ({}, s)

/-- The failure of a previous frame's stitch, as its surface holds it. -/
def prevFailure (c : PrevCell) (init port : Nat) (k : Nat) (prev : Option SrcFrame) (sx sy : Nat) (s : State) : List Failure :=
  match prev, c.bad with
  | some f, some kind => [badStitch kind init port (streamSurf k f.slot f.fmt f.w f.h) sx sy s]
  | _, _ => []

/-- The stitches of a closing frame: payload, flags and failures of the concealment unit. A parity error of the entry stage or of the
concealment unit in a stitch sets CUSTODY_FAIL on it (log 65). -/
def closeStitches (us : List StageFault) (k : Nat) (u : OpenUnit) (prev : Option SrcFrame) (fmt w h : Nat) :
    List (Nat × Nat) → State → List (List Byte × Nat) × List Failure × State
  | [], s => ([], [], s)
  | p :: ps, s =>
    let own := if (upsetAt 0x01 [3] us p.1 p.2).isSome then flagCUSTODY_FAIL else 0
    if stitchLacks u fmt w h p.1 p.2 then
      let (c, s1) := prevStitch 0x03 us 16 17 k prev fmt w h p.1 p.2 s
      let fl := flagCONCEALED ||| (if c.bad.isSome then flagCUSTODY_FAIL else 0) ||| own
      let (l, fs, s2) := closeStitches us k u prev fmt w h ps s1
      ((concealPayload u fmt w h p.1 p.2 c.bytes, fl) :: l, prevFailure c 16 17 k prev p.1 p.2 s ++ fs, s2)
    else
      let (l, fs, s2) := closeStitches us k u prev fmt w h ps s
      ((concealPayload u fmt w h p.1 p.2 none, own) :: l, fs, s2)

/-- The failures that an entry stage finds itself: parity errors, and a disagreement of the tally's duplicated logic (R160). -/
def entryFailures (stage : Nat) (us : List StageFault) (due : Nat → Nat → Nat) (flags : Nat) : List Failure :=
  us.filterMap fun x =>
    if x.stage == stage && (x.kind == 3 || x.kind == 4) && faultSeen x then
      some { kind := x.kind, sx := x.sx, sy := x.sy, due := due x.sx x.sy, flags := flags }
    else none

/-- The marker's samples in 10-bit units, lines 0 and 1 of columns 0 to 7 (R156), none where one lacks. -/
def markerOf (get : Nat → Nat → Option Nat) : Option (List Nat) :=
  let l := (List.range 2).flatMap fun y => (List.range 8).map fun x => get x y
  if l.all Option.isSome then some (l.map fun v => v.getD 0) else none

/-- The frame record of an ST 2110-20 frame under reception in a surface (R99), by the record in force at its opening. -/
def openFrame (u : OpenUnit) (slot : Nat) : SrcFrame :=
  { num := u.num, slot := slot, origin := u.origin, arrival := u.arrival, w := recWidth u.rcd, h := recHeight u.rcd, fmt := st20Fmt u.rcd,
    tsrc := if recLine u.rcd = 0 then leAt u.rcd 8 8 / recHeight u.rcd else recLine u.rcd, complete := false,
    colour := recColour u.rcd, full := recFull u.rcd }

/-- An ST 2110-20 frame closes: concealed where parts lack, tagged and recorded (R62, R246, R250), by the record in force at its
opening. -/
def closeRows (k : Nat) (u : OpenUnit) (degraded : Bool) (s : State) : State :=
  match u.slot with
  | none => s
  | some slot =>
    let e := strGet s k
    let us := s.str.upsets
    let fmt := st20Fmt u.rcd
    let w := recWidth u.rcd
    let h := recHeight u.rcd
    let f := streamSurf k slot fmt w h
    let prev := e.frames.getLast?
    let (l, fs, s1) := closeStitches us k u prev fmt w h (stitches f) (withStr s { s.str with upsets := [] })
    let scale := if isTenBit fmt then 1 else 4
    let dup := us.any fun x => x.stage == 0x01 && x.kind == 4 && faultSeen x
    let mk := if dup then none else markerOf fun x y => (unitSample u w 0 w x y).map fun v => scale * v
    let table := genTable s1 (genFor s1.comp.ledger.gens u.origin)
    let own := entryFailures 0x01 us (fun sx sy => dueTick u.origin (budgetOf table k sx sy)) (if u.arrTimed then flagARRIVAL_TIMED else 0)
    let i : Incoming := {
      stream := k, stage := 0x01, init := 16, port := 16, inst := 0, arrTimed := u.arrTimed,
      frame := { openFrame u slot with flags := if degraded then flagDEGRADED else 0, crcs := l.map fun x => w32 (crc32c x.1) },
      cells := some (l.map Prod.fst), flags := l.map Prod.snd, marker := mk, fails := own, us := us,
      period := u.before.map fun p => (u.origin : Int) - p }
    custodyReport 0x03 16 0 0 k u.num fs (acceptFrame i s1)

/-! ### Closing a unit -/

/-- A path of a merged stream that has delivered nothing for the path-loss time goes down (R249). -/
def pathLoss (k path : Nat) (s : State) : State :=
  let e := strGet s k
  let p := if path = 0 then e.pathA else e.pathB
  if e.merged && p.up && p.at_ + recPathLoss e.rcd * 1000000 ≤ t2Ns s then pathSet k path false s else s

/-- How long a closed unit is remembered, in ns: half the range of a 90 kHz timestamp, past which its timestamp is no longer
told from a later one (DESIGN CHOICE, log 61). -/
def closedSpan : Nat := 2 ^ 31 * 100000 / 9

/-- What is kept of a unit that closes. -/
def closedUnit (u : OpenUnit) : OpenUnit :=
  { u with samples := [], held := u.held.map fun h => { h with bytes := [] } }

/-- A unit closes (R242, R246, R250): a path that becomes down at this very instant counts as down. -/
def closeUnit (k : Nat) (u : OpenUnit) (s : State) : State :=
  let s0 := pathLoss k 1 (pathLoss k 0 s)
  let e := strGet s0 k
  let degraded := e.merged && !(e.pathA.up && e.pathB.up)
  let s1 := strUpd k (fun x => { x with
    opens := x.opens.filter fun v => v.ts != u.ts,
    closed := closedUnit u :: x.closed.filter fun v => decide (t2Ns s < v.openedAt + closedSpan) }) s0
  if u.dropped then s1 else if strFormat e = 4 then closeRows k u degraded s1 else closeCoded k u degraded s1

/-- Access units of an RTP stream that waited for the unit before them close once it has closed (R242). -/
def closeNext (k : Nat) : Nat → State → State
  | 0, s => s
  | fuel + 1, s =>
    let e := strGet s k
    if strFormat e < 4 then
      match e.opens.find? (codedWhole e) with
      | some u => closeNext k fuel (closeUnit k u s)
      | none => s
    else s

/-- Every unit of a stream that meets a condition closes, oldest first, and what waited for them. -/
def closeWhere (k : Nat) (p : OpenUnit → Bool) (s : State) : State :=
  let us := (strGet s k).opens.filter p
  if us.isEmpty then s else closeNext k (strGet s k).opens.length (us.foldl (fun st u => closeUnit k u st) s)

/-- Every unit of a single-path stream closes at once (R232, R236). -/
def closeAll (k : Nat) (s : State) : State := closeWhere k (fun _ => true) s

/-- The hold time of a unit has run out (R242, R246 points 2 and 3). -/
def holdOver (e : StreamE) (now : Nat) (u : OpenUnit) : Bool :=
  let past (t : Option Nat) : Bool := match t with | some x => decide (x + holdNs e u ≤ now) | none => false
  past u.markerAt || past u.laterAt

/-- ACCESS_UNIT_HOLD_TIMEOUT: the access units of an RTP stream whose hold time has run out close (R242). -/
def auTimeout (k : Nat) (s : State) : State :=
  let e := strGet s k
  if strFormat e < 4 then closeWhere k (holdOver e (t2Ns s)) s else s

/-- ACCESS_UNIT_HOLD_TIMEOUT (R242). -/
def execAccessUnitHoldTimeout (stream : Nat) (s : State) : Res := .next (auTimeout stream s)

/-- RECEPTION_WINDOW_TIMEOUT: the same for ST 2110 frames, with point 4 of R246. -/
def windowTimeout (k : Nat) (s : State) : State :=
  let e := strGet s k
  if strFormat e = 4 || strFormat e = 5 then
    closeWhere k (fun u => holdOver e (t2Ns s) u || decide (u.openedAt + 2 * (leAt u.rcd 8 8 / 2 ^ 32) + holdNs e u ≤ t2Ns s)) s
  else s

/-- RECEPTION_WINDOW_TIMEOUT (R246). -/
def execReceptionWindowTimeout (stream : Nat) (s : State) : Res := .next (windowTimeout stream s)

/-! ### A video packet -/

/-- A unit opens with the first packet of its timestamp (R242, R246, R247). -/
def openUnit (k : Nat) (h : RtpPkt) (arrival : Nat) (s : State) : State :=
  let s1 := boundary k s
  let e := strGet s1 k
  let (org, arrT) := originOf e h.ts arrival (e.arrMode == some true)
  let rows := strFormat e == 4
  let slot := if rows then freeSlot s1 k (recRing e.rcd) else none
  let num := e.nextUnit
  let later := ((e.opens ++ e.closed).filter fun v => tsLater v.ts h.ts).map OpenUnit.openedAt
  let u : OpenUnit := { ts := h.ts, num := num, openedAt := t2Ns s, arrival := arrival, origin := org, arrTimed := arrT,
                        slot := slot, dropped := rows && slot.isNone, laterAt := later.min?, rcd := e.rcd, before := e.prevOrigin }
  let mark (v : OpenUnit) : OpenUnit :=
    if tsLater h.ts v.ts && v.laterAt.isNone then { v with laterAt := some (t2Ns s) } else v
  let s2 := strSet k { e with opens := e.opens.map mark ++ [u], nextUnit := num + 1,
                              nextFrame := if rows then num + 1 else e.nextFrame, prevOrigin := some org,
                              frames := match slot with | some n => dropSlot n e.frames | none => e.frames } s1
  if u.dropped then frameDrop k 1 num s2 else s2

/-- The sample segments of a packet lie inside the frame (R245): of its second segment where they name it. -/
def segsOk (w h : Nat) (segs : List SampleSeg) : Bool :=
  segs.all fun g => g.off + g.y.length ≤ w && g.off % 2 == 0 &&
    (if g.line < segmentBase then g.line < h else 2 * (g.line - segmentBase) + 1 < h)

/-- A run of samples placed in a plane. -/
def putRun (p start : Nat) (vs : List Nat) (t : Tab Nat) : Tab Nat :=
  (List.range vs.length).foldl (fun a i => tset (sampleKey p (start + i)) (vs.getD i 0) a) t

/-- The samples of a packet placed by line and offset. -/
def putSegs (w : Nat) (segs : List SampleSeg) (t : Tab Nat) : Tab Nat :=
  segs.foldl (fun a g =>
    putRun 2 (g.line * (w / 2) + g.off / 2) g.cr (putRun 1 (g.line * (w / 2) + g.off / 2) g.cb (putRun 0 (g.line * w + g.off) g.y a))) t

/-- A packet enters its unit (R240, R245, R248): a copy of a number already held only counts for its path. -/
def unitAdd (fmt port path seq : Nat) (now : Nat) (h : RtpPkt) (u : OpenUnit) : OpenUnit :=
  let dup := u.held.any fun x => x.seq == seq
  let rows := fmt = 4
  let d : Depack := if rows then {} else depack fmt h
  let u1 := { u with seqA := if path = 0 then seq :: u.seqA else u.seqA, seqB := if path = 1 then seq :: u.seqB else u.seqB,
                     ports := if u.ports.contains port then u.ports else port :: u.ports }
  if dup then u1
  else { u1 with
    held := heldInsert { seq := seq, path := path, bytes := d.bytes, bad := !d.ok } u1.held,
    rap := u1.rap || (d.ok && d.rap), marker := if h.marker then some seq else u1.marker,
    markerAt := if h.marker && u1.markerAt.isNone then some now else u1.markerAt,
    samples := if rows && !u.dropped then
        (match rowsOf (recDepth10 u.rcd) h.payload with | some r => putSegs (recWidth u.rcd) r.2 u1.samples | none => u1.samples)
      else u1.samples }

/-- A flow entry's format errors count. -/
def flowFmtErr (n : Nat) (s : State) : State :=
  match tfind n s.net.flows with
  | some x => withNet s { s.net with flows := tset n { x with fmtErr := sat32 (x.fmtErr + 1) } s.net.flows }
  | none => s

/-- The extended number of a packet: of ST 2110-20, from the 32 bits of R245. -/
def packetSeq (e : StreamE) (h : RtpPkt) : Nat :=
  if strFormat e = 4 then extNear (2 ^ 32) e.lastSeq (beAt h.payload 0 2 * 65536 + h.seq.toNat) else extSeq e.lastSeq h.seq

/-- The record that a packet's unit goes by: that of its unit where it is known, else the one in force from the next boundary (R238). -/
def packetRcd (e : StreamE) (h : RtpPkt) : List Byte :=
  match (e.opens ++ e.closed).find? fun u => u.ts == h.ts with
  | some u => u.rcd
  | none => e.next.getD e.rcd

/-- The packet's rows are well made and inside its frame (R245). -/
def packetOk (e : StreamE) (h : RtpPkt) : Bool :=
  strFormat e != 4 ||
    (match rowsOf (recDepth10 (packetRcd e h)) h.payload with
     | some x => segsOk (recWidth (packetRcd e h)) (recHeight (packetRcd e h)) x.2
     | none => false)

/-- A path of a merged stream that has delivered a whole unit, with the packet just placed in it, is up (R249). -/
def pathWhole (k path : Nat) (u : OpenUnit) (s : State) : State :=
  if (strGet s k).merged && wholeIn (strGet s k) u (if path = 0 then u.seqA else u.seqB) then pathSet k path true s else s

/-- After a packet: its path may be up, and its unit, if it is whole, closes. -/
def unitSettle (k path : Nat) (ts : W32) (s : State) : State :=
  match (strGet s k).opens.find? fun u => u.ts == ts with
  | none => s
  | some u =>
    let s1 := pathWhole k path u s
    if unitWhole (strGet s1 k) u then closeNext k (strGet s1 k).opens.length (closeUnit k u s1) else s1

/-- A late packet of a closed unit `c`: discarded and counted; its path has delivered it all the same (R242, R248, R249). -/
def lateAdd (port k path seq : Nat) (h : RtpPkt) (c : OpenUnit) (s : State) : State :=
  let c1 := { c with
    seqA := if path = 0 then seq :: c.seqA else c.seqA, seqB := if path = 1 then seq :: c.seqB else c.seqB,
    marker := if h.marker then some seq else c.marker }
  let s1 := strUpd k (fun e => { e with closed := e.closed.map fun v => if v.ts == c.ts then c1 else v }) (netCount port 6 s)
  pathWhole k path c1 s1

/-- A packet enters its open unit. -/
def unitTake (port k path seq : Nat) (h : RtpPkt) (now : Nat) (s : State) : State :=
  unitSettle k path h.ts (strUpd k (fun e => { e with
    opens := e.opens.map fun u => if u.ts == h.ts then unitAdd (strFormat e) port path seq now h u else u }) s)

/-- The path of a stream has delivered a packet now. -/
def pathHeard (path now : Nat) (e : StreamE) : StreamE :=
  if path = 0 then { e with pathA := { e.pathA with at_ := now } } else { e with pathB := { e.pathB with at_ := now } }

/-- A video packet of flow entry `n` reaches its stream (R240 to R249). -/
def videoPacket (port n : Nat) (flow : Flow) (h : RtpPkt) (arrival : Nat) (s : State) : State :=
  let k := flStream flow.rcd
  let path := flPath flow.rcd
  let now := t2Ns s
  let e0 := strGet s k
  if !isLive e0 then s
  else if !packetOk e0 h then flowFmtErr n s
  else
    let s0 := if strFormat e0 != 4 && !(depack (strFormat e0) h).ok then flowFmtErr n s else s
    let seq := packetSeq e0 h
    let s1 := strUpd k (fun e => { pathHeard path now e with lastSeq := some seq }) s0
    let known := e0.opens.find? fun u => u.ts == h.ts
    match known with
    | none =>
      match e0.closed.find? fun u => u.ts == h.ts with
      | some c => lateAdd port k path seq h c s1
      | none => if s.pwr.mode == .bindOff then s1 else unitTake port k path seq h now (openUnit k h arrival s1)
    | some u =>
      unitTake port k path seq h now (if e0.merged && (u.held.any fun x => x.seq == seq) then netCount port 7 s1 else s1)

/-! ### ETH_FRAME_RECEIVE -/

/-- The T0 arrival of a frame in ns. -/
def arrivalNs (f : EthFrame) (s : State) : Nat := t0Ns s + f.stamp.ns

/-- A frame of no video flow: the class that its content names, else TCP to a unicast filter address, else any frame to such an address or
broadcast; a UDP packet of no class is unmatched (R237, R253). -/
def hostFrame (port : Nat) (f : EthFrame) (s : State) : State :=
  let uni := isUnicast s port f.dst
  match bodyClass f.body with
  | some k => classDeliver port k f s
  | none =>
    match f.body with
    | .tcp => if uni then classDeliver port 5 f s else if f.dst = macBroadcast then classDeliver port 6 f s else s
    | .udp _ =>
      if uni || f.dst = macBroadcast then classDeliver port 6 f s
      else netCount port 5 s
    | _ => if uni || f.dst = macBroadcast then classDeliver port 6 f s else s

/-- An accepted frame goes to its video flow, else to its control class, that of RTCP entries after those that content names (R234, R235,
R237, R253). -/
def routeFrame (port : Nat) (f : EthFrame) (s : State) : State :=
  match f.body with
  | .udp p =>
    match flowLookup s port f p with
    | some (n, x) =>
      if !flChecks x.rcd p then
        withNet s { s.net with flows := tset n { x with refused := sat32 (x.refused + 1) } s.net.flows }
      else if flKind x.rcd = 3 then classDeliver port ((bodyClass f.body).getD 4) f s
      else match p.rtp with
        | some h => videoPacket port n x h (arrivalNs f s) s
        | none => flowFmtErr n s
    | none => hostFrame port f s
  | _ => hostFrame port f s

/-- Upsets in store for the ingest units (log 6). -/
def upsetsAdd (us : List StageFault) (s : State) : State := if us.isEmpty then s else withStr s { s.str with upsets := s.str.upsets ++ us }

/-- A frame received on a port (R60, R228 to R231): its FCS and parity, its length, tags and IP header, the filters. A frame whose FCS
fails counts as that alone, whatever the parity of the receive buffer (DESIGN CHOICE, log 65). -/
def ethReceive (port : Nat) (f : EthFrame) (s : State) : State :=
  let p := netGet s port
  if !(p.en && p.up) || !works s 4 || (portLaneList s port).any (laneOut s) then s
  else if !f.fcsOk then netCount port 2 s
  else if !f.parityOk then
    raise 0x01 [custodyP0 0x01 3 16 port 0, pack [(31, 16, port), (15, 0, 1)], 0, 0, 0]
      (netCount port 3 s)
  else
    let s1 := netCount port 1 (upsetsAdd f.faults s)
    if f.body = .pause then netUpd port (fun p => { p with pauses := sat32 (p.pauses + 1) }) s1
    else if 9600 < f.len || 1 < f.tags || f.ipBad || !filterPass s port f then netCount port 4 s1
    else routeFrame port f s1

/-- ETH_FRAME_RECEIVE (R60). -/
def execEthFrameReceive (port : Nat) (f : EthFrame) (s : State) : Res := .next (ethReceive (port % 8) f s)

/-! ### Paths, links and ports -/

/-- PATH_LOSS_TIMEOUT (R249). -/
def execPathLossTimeout (stream path : Nat) (s : State) : Res := .next (pathLoss stream (path % 2) s)

/-- A video flow of a stream on a path is valid on a port. -/
def flowOnPort (s : State) (k path port : Nat) : Bool :=
  s.net.flows.any fun x => flValidB x.2.rcd && flKind x.2.rcd < 3 && flStream x.2.rcd == k && flPath x.2.rcd == path &&
    flPorts x.2.rcd / 2 ^ port % 2 == 1

/-- A port's link goes down for a stream: a single-path stream's units open on that port close, a merged one's path is down (R232). -/
def streamLinkDown (port : Nat) (s : State) (k : Nat) : State :=
  let e := strGet s k
  if !isLive e then s
  else if e.merged then
    let s1 := if flowOnPort s k 0 port then pathSet k 0 false s else s
    if flowOnPort s k 1 port then pathSet k 1 false s1 else s1
  else closeWhere k (fun u => u.ports.contains port) s

/-- A port's link comes up or goes down: NET_LINK, and at a loss what R232 closes. -/
def netLink (port : Nat) (up : Bool) (s : State) : State :=
  let p := netGet s port
  if p.up == up || (up && (!p.en || (portLaneList s port).any fun i => (laneGet s i).ovl == 4)) then s
  else
    let s1 := raise 0x11 [pack [(31, 29, port), (28, 28, b1 up)]] (netUpd port (fun x => { x with up := up }) s)
    if up then s1 else (List.range 256).foldl (streamLinkDown port) s1

/-- NET_LINK_CHANGE (R232). -/
def execNetLinkChange (port : Nat) (up : Bool) (s : State) : Res := .next (netLink (port % 8) up s)

/-- Physical layer and FEC codes of a port that Table 06-2 supports (Table 13-11). -/
def phyOk (m100 : Bool) (phy fec : Nat) : Bool := if m100 then phy ≤ 3 else phy ≤ 4 && fec ≤ 2

/-- A port that becomes enabled starts a statistics interval (R271). -/
def statsStart (p : Nat) (s : State) : State :=
  let s1 := netUpd p (fun x => { x with stats := [] }) s
  withNet s1 { s1.net with statsAt := tset p (t2Ns s) s1.net.statsAt }

/-- A port set enabled or disabled, with its physical layer; disabling it takes its link down. -/
def portSet (p : Nat) (en : Bool) (phy fec : Nat) (s : State) : State :=
  let s0 := if en && !(netGet s p).en then statsStart p s else s
  let s1 := netUpd p (fun x => { x with en := en, phy := phy, fec := fec }) s0
  if en then s1 else netLink p false s1

/-- The lanes that a lane pair's setting enables. -/
def portLanes (k : Nat) (m e0 e1 : Bool) : List Nat :=
  (if e0 then [64 + 2 * k] else []) ++ (if e1 || (m && e0) then [64 + 2 * k + 1] else [])

/-- A lane pair set as W2 and W3 say (R225 to R227). -/
def portApply (w2 w3 : W32) (s : State) : State :=
  let k := fld w2 1 0
  let s1 := withNet s { s.net with mode100 := tset k (bitOf w2 4) s.net.mode100 }
  portSet (2 * k + 1) (bitOf w2 9) (fld w3 11 8) (fld w3 13 12) (portSet (2 * k) (bitOf w2 8) (fld w3 3 0) (fld w3 5 4) s1)

/-- NET_PORT_SET (R225 to R227): a port being enabled has its lanes calibrated first (R700). -/
def opNetPortSet (c : Cmd) (s : State) : State × Reply :=
  let k := fld (cw c 2) 1 0
  let m := bitOf (cw c 2) 4
  let a := 2 * k
  let e0 := bitOf (cw c 2) 8
  let e1 := bitOf (cw c 2) 9
  let w := cw c 3
  let named := s.net.flows.any fun x => flValidB x.2.rcd && flPorts x.2.rcd / 2 ^ a % 4 != 0
  checked [
    (m != pair100 s k && ((netGet s a).en || (netGet s (a + 1)).en || named), badField 8),
    (m && e1, badField 8),
    (!phyOk m (fld w 3 0) (fld w 5 4) || (!m && !phyOk m (fld w 11 8) (fld w 13 12)), badField 12),
    ((e0 || e1) && (domainOff s 4).1, (domainOff s 4).2)]
    (laneEnable (portLanes k m e0 e1) 0 [(cw c 2).toNat, w.toNat] fun s => (portApply (cw c 2) w s, .ok [])) s

/-- NET_PORT_SET (R227). -/
def execNetPortSet (c : Cmd) (s : State) : Res := .next (hostCommand 0x0200 opNetPortSet c s)

/-! ### FLOW_SET and FLOW_CLEAR -/

/-- The kind of flow that carries a stream format: compressed RTP, ST 2110-20, ST 2110-22; RTCP for any network stream. -/
def kindFits (kind fmt : Nat) : Bool :=
  match kind with
  | 0 => fmt < 4 | 1 => fmt == 4 | 2 => fmt == 5 | 3 => fmt < 6 | _ => false

/-- The first field of a flow entry out of range (Table 06-3). -/
def flowBad (r : List Byte) (s : State) : Option Nat :=
  let e := strGet s (flStream r)
  firstOf [
    (3 < flKind r || 1 < flVer r, 0),
    (!isLive e || !kindFits (flKind r) (strFormat e), 4),
    (127 < flPt r, 4),
    (flVer r == 0 && (((r.drop 20).take 12).any fun b => b != 0), 20)]

/-- The entry would clash with another, or give a stream two video entries for one path (R235). -/
def flowConflict (n : Nat) (r : List Byte) (s : State) : Bool :=
  s.net.flows.any fun x => x.1 != n && flValidB x.2.rcd &&
    (flClash r x.2.rcd || (flKind r < 3 && flKind x.2.rcd < 3 && flStream r == flStream x.2.rcd && flPath r == flPath x.2.rcd))

/-- The stream that an entry fed closes its open units when the entry goes or moves (R236). -/
def flowMoved (old : Option Flow) (s : State) : State :=
  match old with
  | some x =>
    if flValidB x.rcd && flKind x.rcd < 3 then
      let k := flStream x.rcd
      if (strGet s k).merged then pathSet k (flPath x.rcd) false s else closeAll k s
    else s
  | none => s

/-- FLOW_SET (R233, R235, R236, R280, R538). -/
def opFlowSet (c : Cmd) (s : State) : State × Reply :=
  let n := fld (cw c 4) 9 0
  let r := padB 64 (crec c)
  let old := tfind n s.net.flows
  let oldK := match old with | some x => flStream x.rcd | none => flStream r
  let mine (k : Nat) : Bool := (strGet s k).opener == .pf1 && (strGet s k).st != 0
  checked [
    (c.port == .pf1 && (!mine (flStream r) || !mine oldK), noRight),
    (!flValidB r && !isLive (strGet s (flStream r)), badRecord 4),
    (flValidB r && (flowBad r s).isSome, badRecord ((flowBad r s).getD 0)),
    (flValidB r && flowConflict n r s, badRecord 0)]
    (fun s =>
      let moved := match old with | some x => !(flValidB r && flStream x.rcd == flStream r) | none => false
      let s1 := if moved then flowMoved old s else s
      let s2 := withNet s1 { s1.net with flows := tset n { rcd := r } s1.net.flows }
      (settleMerge (flStream r) (settleMerge oldK s2), .ok [])) s

/-- FLOW_SET (R235). -/
def execFlowSet (c : Cmd) (s : State) : Res := .next (hostCommand 0x0202 opFlowSet c s)

/-- FLOW_CLEAR (R236, R538). -/
def opFlowClear (c : Cmd) (s : State) : State × Reply :=
  let n := fld (cw c 4) 9 0
  let old := tfind n s.net.flows
  let k := match old with | some x => flStream x.rcd | none => 0
  checked [(c.port == .pf1 && !(old.isSome && (strGet s k).opener == .pf1 && (strGet s k).st != 0), noRight)]
    (fun s =>
      let s1 := flowMoved old s
      let s2 := withNet s1 { s1.net with flows := tdel n s1.net.flows }
      (if old.isSome then settleMerge k s2 else s2, .ok [])) s

/-- FLOW_CLEAR (R236). -/
def execFlowClear (c : Cmd) (s : State) : Res := .next (hostCommand 0x0203 opFlowClear c s)

/-! ### Statistics (R271) -/

/-- INGEST_STATS_INTERVAL: the counts of an enabled port's interval are reported and start afresh. -/
def ingestStats (port : Nat) (s : State) : State :=
  let p := netGet s port
  let at_ := tget 0 s.net.statsAt port
  if !p.en || t2Ns s < at_ + s.net.statsMs * 1000000 then s
  else
    let n (k : Nat) : W32 := w32 (tget 0 p.stats k)
    let s1 := raise 0x10 [pack [(31, 29, port)], n 1, n 2, n 3, n 4, n 5, n 6, n 7] s
    let s2 := netUpd port (fun p => { p with stats := [] }) s1
    withNet s2 { s2.net with statsAt := tset port (t2Ns s) s2.net.statsAt }

/-- INGEST_STATS_INTERVAL (R271). -/
def execIngestStatsInterval (port : Nat) (s : State) : Res := .next (ingestStats (port % 8) s)

end Sys2Proof.Machine
end

