-- ==== Sys2Proof/Machine/Baseband.lean ====
section
/-! DEFINITION. Baseband inputs: quads, capability images and EDID, the AUX responder, links, and the arrival of frames
(R259 to R270). -/

namespace Sys2Proof.Machine

/-! ### Quads and inputs (Table 06-6) -/

/-- The input number that W4 gives, and whether it names no input. -/
def bbNo (c : Cmd) : Nat := (cw c 4).toNat
def noInput (s : State) (n : Nat) : Bool := 15 < n || inputLanes s n == 0

/-- The block with an input changed by a function. -/
def bbUpd (n : Nat) (f : BbIn → BbIn) (s : State) : State := bbSet n (f (bbGet s n)) s

/-- BB_QUAD_SET (R259): every input of the quad takes the default image of its new lane count. -/
def opBbQuadSet (c : Cmd) (s : State) : State × Reply :=
  let q := fld (cw c 2) 1 0
  let on := (List.range 4).find? fun j => (bbGet s (4 * q + j)).en
  checked [(on.isSome, held 0xFF (4 * q + on.getD 0))]
    (fun s =>
      let s1 := { s with bb := { s.bb with splits := tset q (fld (cw c 2) 5 4) s.bb.splits } }
      ((List.range 4).foldl (fun st j => bbSet (4 * q + j) {} st) s1, .ok [])) s

/-- BB_QUAD_SET (R259). -/
def execBbQuadSet (c : Cmd) (s : State) : Res := .next (hostCommand 0x0205 opBbQuadSet c s)

/-- BB_DPCD_LOAD (R261, R262): accepted for a disabled input; the copy that follows is judged at its end. -/
def opBbDpcdLoad (c : Cmd) (s : State) : State × Reply :=
  let n := bbNo c
  checked [
    (noInput s n, badField 16),
    (1 < (cw c 5).toNat, badField 20),
    ((bbGet s n).en, held 0xFF n)]
    (fun s => (s, .later n [(cw c 5).toNat, (cw c 6).toNat])) s

/-- BB_DPCD_LOAD (R261). -/
def execBbDpcdLoad (c : Cmd) (s : State) : Res := .next (hostCommand 0x0206 opBbDpcdLoad c s)

/-- The capability bits that R260 excludes, as (image byte, mask): multi-stream, DSC, panel self-refresh, Panel Replay and
Adaptive-Sync as the DisplayPort standard places them, in the second half of the image too (PRESUMED, log 16). -/
def excludedCaps : List (Nat × Nat) :=
  [(0x07, 0x40), (0x21, 0x01), (0x60, 0x01), (0x70, 0xFF), (0xB0, 0x03), (0x107, 0x40), (0x114, 0x01)]

/-- The preferred timing of the default EDID (R262): active width and height, total pixels and lines. -/
def preferredTiming (lanes : Nat) : Nat × Nat × Nat × Nat :=
  if lanes = 4 then (7680, 4320, 7760, 4444) else (3840, 2160, 4400, 2250)

/-- The bytes of the default capability image that R262 defines: the lane count, and 20 Gbit/s among the 128b/132b rates (PRESUMED places,
log 16). -/
def definedCaps (lanes : Nat) : Tab Byte := [(0x02, BitVec.ofNat 8 lanes), (0x115, 0x02)]

/-- The bytes of the default EDID that R262 defines (PRESUMED places, log 16): a digital input of 10 bits per component; the preferred
timing as the first detailed descriptor, or, where its pixel clock exceeds that form, as the first timing of a DisplayID block. -/
def definedEdid (lanes : Nat) : Tab Byte :=
  let (w, h, wt, ht) := preferredTiming lanes
  let at_ (n : Nat) (bs : List Byte) : Tab Byte := (List.range bs.length).map fun i => (n + i, bs.getD i 0)
  (20, 0xB5) ::
    (if lanes = 4 then
      at_ 128 [0x70, 0x20] ++ at_ 133 ([0x22, 0x00, 0x14] ++ bytesLE 3 (wt * ht * 60 / 1000 - 1)) ++
        at_ 140 (bytesLE 2 (w - 1) ++ bytesLE 2 (wt - w - 1)) ++ at_ 148 (bytesLE 2 (h - 1) ++ bytesLE 2 (ht - h - 1))
    else
      at_ 54 (bytesLE 2 (wt * ht * 60 / 10000) ++
        [BitVec.ofNat 8 w, BitVec.ofNat 8 (wt - w), BitVec.ofNat 8 (w / 256 * 16 + (wt - w) / 256),
         BitVec.ofNat 8 h, BitVec.ofNat 8 (ht - h), BitVec.ofNat 8 (h / 256 * 16 + (ht - h) / 256)]))

/-- A byte of the default images: defined, or Maelziten's own. -/
def defaultCap (lanes k : Nat) : Byte := (tfind k (definedCaps lanes)).getD (Config.defaultCapability lanes k)
def defaultEdidByte (lanes k : Nat) : Byte := (tfind k (definedEdid lanes)).getD (Config.defaultEdid lanes k)

/-- The first byte of a capability image with an excluded bit set. -/
def capBad (image : List Byte) : Option Nat :=
  (excludedCaps.find? fun x => (image.getD x.1 0).toNat &&& x.2 != 0).map Prod.fst

/-- The end of a BB_DPCD_LOAD's copy: its CRC, its capability bits, then the image takes its place. -/
def dpcdLoaded (n which crc : Nat) (image : List Byte) (s : State) : State × Reply :=
  checked [
    (crc32c image != crc, badField 24),
    (which == 0 && (capBad image).isSome, badRecord ((capBad image).getD 0))]
    (fun s => (bbUpd n (fun i => if which = 0 then { i with cap := some image } else { i with edid := some image }) s, .ok [])) s

/-- BB_LINK (Table 06-7): a link that has ended has no lanes in use. -/
def bbLink (n st : Nat) (s : State) : State :=
  let i := if st = 0 then {} else bbGet s n
  raise 0x15 [pack [(31, 28, n), (27, 24, st), (23, 21, i.lanes), (20, 18, i.rate)]] s

/-- A trained link ends: BB_LINK with state 0, and the stream that names the input enters WAITING (R264, R281). -/
def bbEnd (n : Nat) (s : State) : State :=
  if (bbGet s n).trained then
    inputLost n (bbLink n 0 (bbUpd n (fun i => { i with trained := false, d3 := false, prevArrival := none }) s))
  else s

/-- An input enabled: IHPD rises, the DPCD file being loaded (R264). -/
def bbOn (n : Nat) (s : State) : State := bbUpd n (fun i => { i with en := true, ihpd := true }) s

/-- BB_ENABLE (R264): the input's lanes calibrate first (R700). -/
def opBbEnable (c : Cmd) (s : State) : State × Reply :=
  let n := bbNo c
  checked [(noInput s n, badField 16), domainOff s 5]
    (laneEnable ((List.range (inputLanes s n)).map fun j => 48 + n + j) n [] fun s => (bbOn n s, .ok [])) s

/-- BB_ENABLE (R264). -/
def execBbEnable (c : Cmd) (s : State) : Res := .next (hostCommand 0x0207 opBbEnable c s)

/-- BB_DISABLE (R264). -/
def opBbDisable (c : Cmd) (s : State) : State × Reply :=
  let n := bbNo c
  checked [(noInput s n, badField 16)]
    (fun s => (bbUpd n (fun i => { i with en := false, ihpd := false, d3 := false, dpcd := [], i2cOfs := 0, i2cSeg := 0 }) (bbEnd n s),
      .ok [])) s

/-- BB_DISABLE (R264). -/
def execBbDisable (c : Cmd) (s : State) : Res := .next (hostCommand 0x0208 opBbDisable c s)

/-! ### The AUX responder (R261, R263, R264) -/

/-- Byte `a` of an input's DPCD file; the responder's unwritten status registers hold its own measurements, free values. -/
def dpcdByte (lanes : Nat) (i : BbIn) (a : Nat) (s : State) : Byte × State :=
  let cap (k : Nat) : Byte := match i.cap with | some b => b.getD k 0 | none => defaultCap lanes k
  if a < 0x100 then (cap a, s)
  else if 0x2200 ≤ a && a < 0x2300 then (cap (a - 0x2200 + 256), s)
  else match tfind a i.dpcd with
    | some b => (b, s)
    | none => if 0x200 ≤ a && a < 0x300 then let (v, s1) := takeFree s; (v.setWidth 8, s1) else (0, s)

/-- Several bytes of the file. -/
def dpcdBytes (lanes : Nat) (i : BbIn) : Nat → Nat → State → List Byte × State
  | 0, _, s => ([], s)
  | n + 1, a, s =>
    let (b, s1) := dpcdByte lanes i a s
    let (bs, s2) := dpcdBytes lanes i n (a + 1) s1
    (b :: bs, s2)

/-- The responder's own registers that a source writes: link configuration and power state. Its link status is its own to set. -/
def dpcdOwn (a : Nat) : Bool := (0x100 ≤ a && a < 0x200) || a == 0x600

/-- A byte written to the file: kept in the responder's own registers, ignored elsewhere. -/
def dpcdPut (a : Nat) (b : Byte) (i : BbIn) : BbIn := if dpcdOwn a then { i with dpcd := tset a b i.dpcd } else i

/-- A source writes the power state (DPCD 0x600: 2 is D3, 1 is D0; PRESUMED, log 16): storage stops or resumes (R264). -/
def powerWrite (n : Nat) (b : Byte) (s : State) : State :=
  let i := bbGet s n
  if b = 2 && !i.d3 then bbLink n 2 (bbUpd n (fun x => { x with d3 := true }) s)
  else if b = 1 && i.d3 then bbLink n 3 (bbUpd n (fun x => { x with d3 := false }) s)
  else s

/-- An I2C transaction that the middle-of-transaction bit does not keep open ends: the segment pointer is 0 again (PRESUMED, log 16). -/
def i2cEnd (n : Nat) (t : AuxTrans) (s : State) : State := if t.mot then s else bbUpd n (fun x => { x with i2cSeg := 0 }) s

/-- BB_AUX_TRANSACTION: a native or I2C-over-AUX transaction of up to 16 bytes is acknowledged and served; one without data is an
address. -/
def bbAux (n : Nat) (t : AuxTrans) (s : State) : State :=
  let i := bbGet s n
  let lanes := inputLanes s n
  if !i.en || !works s 5 || lanes = 0 || 16 < t.len then s
  else if t.native then
    if t.write then
      let data := t.data.take t.len
      let s1 := bbUpd n (fun x => (List.range data.length).foldl (fun y j => dpcdPut (t.addr + j) (data.getD j 0) y) x) s
      let s2 := if t.addr ≤ 0x600 && 0x600 < t.addr + data.length then powerWrite n (data.getD (0x600 - t.addr) 0) s1 else s1
      send (.auxReply n []) s2
    else
      let (bs, s1) := dpcdBytes lanes i t.len t.addr s
      send (.auxReply n bs) s1
  else if t.write then
    let s1 := match t.addr, t.data with
      | 0x50, b :: _ => bbUpd n (fun x => { x with i2cOfs := b.toNat }) s
      | 0x30, b :: _ => bbUpd n (fun x => { x with i2cSeg := b.toNat % 2 }) s
      | _, _ => s
    send (.auxReply n []) (i2cEnd n t s1)
  else if t.addr = 0x50 then
    let bs := (List.range t.len).map fun j =>
      let k := i.i2cSeg * 256 + (i.i2cOfs + j) % 256
      match i.edid with | some e => e.getD k 0 | none => defaultEdidByte lanes k
    send (.auxReply n bs) (i2cEnd n t (bbUpd n (fun x => { x with i2cOfs := (x.i2cOfs + t.len) % 256 }) s))
  else send (.auxReply n ((List.range t.len).map fun _ => 0)) (i2cEnd n t s)

/-- BB_AUX_TRANSACTION (R263). -/
def execBbAuxTransaction (input : Nat) (t : AuxTrans) (s : State) : Res := .next (bbAux input t s)

/-- BB_LINK_TRAINED: a source trains a link on an enabled input (R264, R268, R281). -/
def bbTrained (n lanes rate : Nat) (s : State) : State :=
  if !(bbGet s n).en || !(bbGet s n).ihpd || !works s 5 || noInput s n || outside 1 (inputLanes s n) lanes || 6 < rate then s
  else
    let s1 := bbLink n 1 (bbUpd n (fun i => { i with trained := true, lanes := lanes, rate := rate, prevArrival := none }) s)
    match inputUser s1 n with
    | some k => tryWaiting s1 k
    | none => s1

/-- BB_LINK_TRAINED (R264). -/
def execBbLinkTrained (input lanes rate : Nat) (s : State) : Res := .next (bbTrained input lanes rate s)

/-- BB_LINK_LOSS: a trained link is lost, or the link status changes in another way that the source must act on, as at a failed
interlane alignment: the input raises BB_LINK and pulses IRQ_HPD (R264, R270). A frame that the loss cuts short has arrived before it, its
lines named as missing (R269). -/
def bbLoss (n : Nat) (lost : Bool) (s : State) : State :=
  let i := bbGet s n
  if lost then (if i.trained then send (.ihpdPulse n) (bbEnd n s) else s)
  else if i.en && i.ihpd && works s 5 then send (.ihpdPulse n) (bbLink n 4 s) else s

/-- BB_LINK_LOSS (R270). -/
def execBbLinkLoss (l : BbLoss) (s : State) : Res := .next (bbLoss l.input l.lost s)

/-! ### Frames (R265 to R269) -/

/-- The pixel-rate limit of an input in pixel/s (R260). -/
def pixelLimit (lanes : Nat) : Nat := match lanes with | 1 => 600000000 | 2 => 1200000000 | _ => 2100000000

/-- The stored format of a frame (Table 02-1): RGB or YCbCr 4:4:4 of 8 or 10 bits. -/
def bbFmt (f : BbFrame) : Nat := if f.chroma = 0 then (if f.bpc = 8 then 6 else 7) else if f.bpc = 8 then 2 else 5

/-- The frame's format is excluded (R260, R266). -/
def bbExcluded (s : State) (n : Nat) (f : BbFrame) : Bool :=
  f.mst || f.dsc || f.protect || 1 < f.chroma || !(f.bpc == 8 || f.bpc == 10) || pixelLimit (inputLanes s n) < f.pixelRate

/-- A sample of a frame: the two fields of an interlaced one woven, its first field in the even lines (R266). -/
def bbSample (f : BbFrame) (p x y : Nat) : Nat :=
  if f.interlaced then planeAt (if y % 2 = 0 then f.planes else f.second) (bbFmt f) f.w p x (y / 2) else planeAt f.planes (bbFmt f) f.w p x y

/-- The arrival of a frame in ns of T0: of its first active pixel, less the fixed receive latency (R267). -/
def bbArrival (f : BbFrame) (s : State) : Nat := t0Ns s - f.ago - Config.bbLatency

/-- INPUT_FORMAT at the first excluded frame and at the return to a supported format (R266). -/
def formatEvent (n : Nat) (bad : Bool) (f : BbFrame) (s : State) : State :=
  if (bbGet s n).unsupported == bad then s
  else raise 0x16 [pack [(31, 28, n), (27, 27, b1 bad)], pack [(31, 16, f.w), (15, 0, f.h)]]
    (bbUpd n (fun i => { i with unsupported := bad }) s)

/-- The payload of a stitch whose samples a function gives. -/
def cellBytes (fmt w h sx sy : Nat) (get : Nat → Nat → Nat → Nat) : List Byte :=
  if isPlanar fmt then
    (List.range 3).flatMap fun p =>
      let d := planeDiv fmt p
      (List.range (stitchExt h sy / d.2)).flatMap fun y =>
        (List.range (stitchExt w sx / d.1)).flatMap fun x => sampleBytes fmt (get p x y)
  else (List.range (stitchExt h sy)).flatMap fun y =>
    (List.range (stitchExt w sx)).flatMap fun x =>
      if fmt = 6 then bytesLE 4 (get 2 x y % 256 + 256 * (get 1 x y % 256) + 65536 * (get 0 x y % 256))
      else bytesLE 4 (get 2 x y % 1024 + 1024 * (get 1 x y % 1024) + 1048576 * (get 0 x y % 1024) + 3 * 2 ^ 30)

/-- Some line of a list falls in stitch row `sy`. -/
def rowHas (lines : List Nat) (sy : Nat) : Bool := lines.any fun l => l / 32 == sy

/-- The stitches of an arriving frame: payloads, flags, failures (R66, R67, R269), a failure of this frame's stitch with the due tick and
flags it has, one of the previous frame's with those that its tag holds. -/
def bbStitches (k : Nat) (f : BbFrame) (prev : Option SrcFrame) (due : Nat → Nat → Nat) :
    List (Nat × Nat) → State → List (List Byte × Nat) × List Failure × State
  | [], s => ([], [], s)
  | p :: ps, s =>
    let fmt := bbFmt f
    let short := rowHas f.missing p.2
    let (b, s1) := if short then prevStitch 0x02 f.faults 17 18 k prev fmt f.w f.h p.1 p.2 s else ({}, s)
    let get (c x y : Nat) : Nat :=
      if f.missing.contains (32 * p.2 + y) then
        match b.bytes with | some bs => sampleOf bs fmt f.w f.h p.1 p.2 c x y | none => midGrey fmt
      else bbSample f c (32 * p.1 + x) (32 * p.2 + y)
    let link := rowHas f.errLines p.2
    let parity := !short && (upsetAt 0x02 [3] f.faults p.1 p.2).isSome
    let fl := (if short then flagINCOMPLETE else 0) ||| (if b.bad.isSome || link || parity then flagCUSTODY_FAIL else 0)
    let own (kind : Nat) : Failure := { kind := kind, sx := p.1, sy := p.2, due := due p.1 p.2,
                                        flags := flagARRIVAL_TIMED ||| (if short then flagINCOMPLETE else 0) }
    let fs := (if link then [own 6] else []) ++ (if parity then [own 3] else []) ++ prevFailure b 17 18 k prev p.1 p.2 s
    let (l, fs2, s2) := bbStitches k f prev due ps s1
    ((cellBytes fmt f.w f.h p.1 p.2 get, fl) :: l, fs ++ fs2, s2)

/-- A frame of a supported format is tagged and stored for its stream (R66, R265 to R269). -/
def bbStore (n k : Nat) (f : BbFrame) (s : State) : State :=
  let s0 := boundary k s
  let e := strGet s0 k
  let num := e.nextFrame
  let i := bbGet s n
  let arrival := bbArrival f s
  let s1 := strUpd k (fun x => { x with nextFrame := num + 1, nextUnit := num + 1 }) s0
  match freeSlot s1 k (recRing e.rcd) with
  | none => frameDrop k 1 num s1
  | some slot =>
    let fmt := bbFmt f
    let org := arrival - recPathLat e.rcd * 1000000
    let tsrc := match i.prevArrival with
      | some p => if f.totalLines = 0 then f.linePeriod else (arrival - p) * 2 ^ 32 / f.totalLines
      | none => f.linePeriod
    let degraded := if i.lanes < recBbLanes e.rcd || i.rate < recBbRate e.rcd then flagDEGRADED else 0
    let surf := streamSurf k slot fmt f.w f.h
    let prev := e.frames.getLast?
    let table := genTable s1 (genFor s1.comp.ledger.gens org)
    let due (sx sy : Nat) : Nat := dueTick org (budgetOf table k sx sy)
    let (l, fs, s2) := bbStitches k f prev due (stitches surf) s1
    let scale := if isTenBit fmt then 1 else 4
    let dup := f.faults.any fun x => x.stage == 0x02 && x.kind == 4 && faultSeen x
    let mk := if dup then none else markerOf fun x y =>
      if f.missing.contains y then none else some (scale * bbSample f (if isPlanar fmt then 0 else 1) x y)
    let dups := entryFailures 0x02 (f.faults.filter fun x => x.kind == 4) due flagARRIVAL_TIMED
    acceptFrame {
      stream := k, stage := 0x02, init := 17, port := 18, inst := n, arrTimed := true,
      frame := { num := num, slot := slot, origin := org, arrival := arrival, w := f.w, h := f.h, fmt := fmt, tsrc := tsrc,
                 flags := degraded, crcs := l.map fun x => w32 (crc32c x.1),
                 colour := f.colour, full := f.full, narrowRgb := f.narrowRgb },
      cells := some (l.map Prod.fst), flags := l.map fun x => x.2 ||| degraded, interlaced := f.interlaced, marker := mk,
      fails := fs ++ dups, us := f.faults, period := i.prevArrival.map fun p => (arrival : Int) - p }
      (strUpd k (fun x => { x with frames := dropSlot slot x.frames }) s2)

/-- BB_FRAME_ARRIVAL: a frame arrives on a trained, enabled input that its source has not put into D3. -/
def bbFrame (n : Nat) (f : BbFrame) (s : State) : State :=
  let i := bbGet s n
  if !(i.en && i.trained && !i.d3) || !works s 5 || s.pwr.mode == .bindOff || noInput s n ||
      (inputLaneList s n).any (laneOut s) then s
  else
    let bad := bbExcluded s n f
    let s1 := formatEvent n bad f s
    let s2 := match inputUser s1 n with
      | some k => if bad || (strGet s1 k).st != 1 then s1 else bbStore n k f s1
      | none => s1
    bbUpd n (fun x => { x with prevArrival := some (bbArrival f s), interlaced := f.interlaced }) s2

/-- BB_FRAME_ARRIVAL (R266). -/
def execBbFrameArrival (input : Nat) (f : BbFrame) (s : State) : Res := .next (bbFrame input f s)

end Sys2Proof.Machine
end

