-- ==== Sys2Proof/Machine/Engines.lean ====
section
/-! DEFINITION. The decode cluster: scheduling (R284 to R291), decoded pictures, taint and errors (R293 to R307), statistics (R308),
and engines retired and returned (R87, R309 to R314). -/

namespace Sys2Proof.Machine

/-! ### Ready frames and their order (R287) -/

/-- The block with engine `n` replaced. -/
def engSet (n : Nat) (x : Engine) (s : State) : State := withStr s { s.str with engines := tset n x s.str.engines }

/-- The block with engine `n` changed by a function. -/
def engUpd (n : Nat) (f : Engine → Engine) (s : State) : State := engSet n (f (engGet s n)) s

/-- The class in whose order a stream's frames run (R294, R310): class 3 in the rest of a second of T2 above its declaration. -/
def runClass (s : State) (e : StreamE) : Nat :=
  if e.demoted && e.meterSec == s.tb.t2.sec.toNat then 3 else if e.st = 2 then Nat.max 2 (recClass e.rcd) else recClass e.rcd

/-- The frame order key (R287). -/
def frameKey (s : State) (k : Nat) (e : StreamE) (a : AccUnit) : Nat × Nat × Nat :=
  (runClass s e, fullTick (a.origin + minBudget (genTable s (genFor s.comp.ledger.gens a.origin)) k * 1000000), k)

/-- Keys compared in order, smaller first. -/
def keyLess (a b : Nat × Nat × Nat) : Bool :=
  decide (a.1 < b.1) || (a.1 == b.1 && (decide (a.2.1 < b.2.1) || (a.2.1 == b.2.1 && decide (a.2.2 < b.2.2))))

/-- A stream whose state is still to be copied: its access units are stored and not decoded (R466). -/
def knitHolds (s : State) (k : Nat) : Bool :=
  s.pwr.mode == .knitUp && (s.pair.phase == 3 || s.pair.phase == 4) && !s.pair.copyDone.contains k && !s.pair.rapWait.contains k

/-- The streams with a ready frame and a surface for it, with their keys; none once Bind-off has begun (R632). -/
def readyList (s : State) : List (Nat × (Nat × Nat × Nat)) :=
  s.str.ents.filterMap fun x =>
    match readyAu x.2 with
    | some a => if (decSlot s x.1).isSome && !knitHolds s x.1 && s.pwr.mode != .bindOff then some (x.1, frameKey s x.1 x.2 a) else none
    | none => none

/-- The stream with the smallest key. -/
def bestOf : List (Nat × (Nat × Nat × Nat)) → Option Nat
  | [] => none
  | x :: xs => some (xs.foldl (fun b y => if keyLess y.2 b.2 then y else b) x).1

/-! ### What an engine can take (R286, R288) -/

/-- A row pipeline. -/
def isRp (n : Nat) : Bool := n < 16

/-- Engine `n` is reserved for pinned streams, or in the gang of a privileged stream. -/
def pinnedTo (s : State) (n : Nat) : List Nat :=
  (s.str.ents.filter fun x => isBound x.2 && recResidence x.2.rcd == 1 && x.2.home == [n]).map Prod.fst
def gangOf (s : State) (n : Nat) : Option Nat :=
  (s.str.ents.find? fun x => isBound x.2 && recResidence x.2.rcd == 2 && x.2.home.contains n).map Prod.fst

/-- The engine is free: in service and idle. -/
def engFree (s : State) (n : Nat) : Bool :=
  inService s n && (engGet s n).job.isNone && works s (if n % 24 < 8 || (16 ≤ n && n < 20) then 6 else 7)

/-- The pooled streams: those whose residence is pooled, and those bound to no engine, as shed ones are (R310). -/
def isPooled (e : StreamE) : Bool := recResidence e.rcd == 0 || e.home.isEmpty

/-- The cores that a pooled frame takes as a gang: two to four, as its load and its pieces ask. -/
def gangSize (r : List Byte) : Nat := Nat.min (Nat.min 4 (recPieces r)) (Nat.max 2 (ceilDiv (loadOf r) wcRate))

/-- Free unreserved wide cores. -/
def freePoolCores (s : State) : List Nat :=
  (List.range 24).filter fun n => 16 ≤ n && engFree s n && !(reservedBy s.str.ents).contains n

/-- Some free unreserved row pipeline exists. -/
def freeRp (s : State) : Bool :=
  (List.range 16).any fun n => engFree s n && !(reservedBy s.str.ents).contains n

/-- The width of a ready frame's pictures: of the last picture, which a size change only replaces from a random access point on (R307); else
the declared maximum (log 18). -/
def frameWidth (e : StreamE) (a : AccUnit) : Nat :=
  match a.rap, e.lastSize with
  | false, some x => x.1
  | _, _ => recWidth e.rcd

/-- A pooled frame of a width needs a gang (R288). -/
def needsGang (s : State) (w : Nat) (r : List Byte) : Bool :=
  (4096 < w || (wcRate < loadOf r && !freeRp s)) && 2 ≤ recPieces r

/-- The engine can take a pooled stream's frame alone. -/
def takesAlone (s : State) (n w : Nat) (r : List Byte) : Bool := if isRp n then w ≤ 4096 else !needsGang s w r

/-- The engine can take it alone or at the head of a gang of free cores. -/
def takesPooled (s : State) (n w : Nat) (r : List Byte) : Bool :=
  takesAlone s n w r || (!isRp n && needsGang s w r && gangSize r ≤ (freePoolCores s).length)

/-- The width of a stream's ready frame. -/
def readyWidth (s : State) (k : Nat) : Nat :=
  let e := strGet s k
  match readyAu e with | some a => frameWidth e a | none => recWidth e.rcd

/-- A stream's frame starts on engines: its context is loaded from HBM3 unless the first of them holds it (R286, R309). -/
def startJob (k : Nat) (engines : List Nat) (borrowed : Bool) (s : State) : State :=
  let e := strGet s k
  match readyAu e with
  | none => s
  | some a =>
    let j : Job := { stream := k, au := a.num, startedAt := t2Ns s, borrowed := borrowed, gang := engines,
                     loaded := e.ctxAt.isNone || e.ctxAt != engines.head? }
    let s1 := strSet k { e with ctxAt := engines.head?,
                                aus := e.aus.map fun b => if b.num = a.num then { b with started := true, waitAt := none } else b } s
    engines.foldl (fun st n => engUpd n (fun x => { x with job := some j }) st) s1

/-- A frame pre-empted earlier resumes on its engine (R289). -/
def resumeJob (n : Nat) (j : Job) (s : State) : State :=
  engUpd n (fun x => { x with job := some j, held := x.held.erase j }) s

/-- The key of a frame in progress. -/
def jobKey (s : State) (j : Job) : Nat × Nat × Nat :=
  let e := strGet s j.stream
  match e.aus.find? fun a => a.num == j.au with
  | some a => frameKey s j.stream e a
  | none => (0, 0, 0)

/-- What an engine may take: a stream's ready frame, or a frame whose context it holds. -/
inductive Pick where
  | start (k : Nat)
  | resume (j : Job)
deriving DecidableEq, Repr

/-- The ready frames of streams of a kind, and the frames held on an engine of streams of a kind, with their keys. -/
def picks (s : State) (n : Nat) (ready held : Nat → Bool) : List (Pick × (Nat × Nat × Nat)) :=
  (((readyList s).filter fun x => ready x.1).map fun x => (Pick.start x.1, x.2)) ++
    (((engGet s n).held.filter fun j => held j.stream).map fun j => (Pick.resume j, jobKey s j))

/-- The pick with the smallest key. -/
def bestPick : List (Pick × (Nat × Nat × Nat)) → Option Pick
  | [] => none
  | x :: xs => some (xs.foldl (fun b y => if keyLess y.2 b.2 then y else b) x).1

/-- An engine takes a pick alone. -/
def takePick (n : Nat) (borrowed : Bool) (p : Pick) (s : State) : State :=
  match p with
  | .start k => startJob k [n] borrowed s
  | .resume j => resumeJob n j s

/-- The pooled frame that a reserved engine borrows (R288): the best of those that it can take alone and those whose context it holds. -/
def borrow (n : Nat) (s : State) : State :=
  let pins := pinnedTo s n
  match bestPick (picks s n (fun k => isPooled (strGet s k) && takesAlone s n (readyWidth s k) (strGet s k).rcd) fun k => !pins.contains k) with
  | some p => takePick n true p s
  | none => s

/-- DECODE_DISPATCH: a free engine takes its next work (R288). A core of a gang whose stream has a ready frame takes nothing else, and the
frame starts once the gang's other cores are free. -/
def dispatch (n : Nat) (s : State) : State :=
  if !engFree s n then s
  else
    let pins := pinnedTo s n
    match gangOf s n with
    | some k =>
      let home := (strGet s k).home
      if (readyList s).any fun x => x.1 == k then (if home.all (engFree s) then startJob k home false s else s) else borrow n s
    | none =>
      if !pins.isEmpty then
        match bestPick (picks s n pins.contains pins.contains) with
        | some p => takePick n false p s
        | none => borrow n s
      else
        match bestPick (picks s n (fun k => isPooled (strGet s k) && takesPooled s n (readyWidth s k) (strGet s k).rcd) fun _ => true) with
        | some (.start k) =>
          let r := (strGet s k).rcd
          if !isRp n && needsGang s (readyWidth s k) r then startJob k ((freePoolCores s).take (gangSize r)) false s
          else startJob k [n] false s
        | some (.resume j) => resumeJob n j s
        | none => s

/-- DECODE_DISPATCH (R288). -/
def execDecodeDispatch (engine : Nat) (s : State) : Res := .next (dispatch engine s)

/-! ### Pre-emption (R289, R290) -/

/-- The frame on an engine stops with its context kept there. -/
def preemptHeld (n : Nat) (j : Job) (s : State) : State := engUpd n (fun x => { x with job := none, held := j :: x.held }) s

/-- The frame on engines stops and is ready again for whichever engine chooses it (R290); its context goes to HBM3. -/
def preemptPool (j : Job) (s : State) : State :=
  let s1 := strUpd j.stream (fun e => { e with ctxAt := none, aus := e.aus.map fun a => if a.num = j.au then { a with started := false } else a }) s
  j.gang.foldl (fun st n => engUpd n (fun x => { x with job := none }) st) s1

/-- BLOCK_ROW_BOUNDARY: a frame in progress may be pre-empted, and the engine takes its next work. On a retiring engine it runs to its
end (R309). -/
def blockRow (n : Nat) (s : State) : State :=
  match (engGet s n).job with
  | none => s
  | some j =>
    let rs := readyList s
    let pins := pinnedTo s n
    if (engGet s n).st != 0 then s
    else if !pins.isEmpty then
      if rs.any fun x => pins.contains x.1 && (j.borrowed || keyLess x.2 (jobKey s j)) then dispatch n (preemptHeld n j s) else s
    else match gangOf s n with
      | some k => if j.borrowed && rs.any fun x => x.1 == k then dispatch n (preemptHeld n j s) else s
      | none =>
        if 2 ≤ runClass s (strGet s j.stream) &&
            rs.any fun x => runClass s (strGet s x.1) < 2 && isPooled (strGet s x.1) && takesAlone s n (readyWidth s x.1) (strGet s x.1).rcd
        then dispatch n (preemptPool j s) else s

/-- BLOCK_ROW_BOUNDARY (R289). -/
def execBlockRowBoundary (engine : Nat) (s : State) : Res := .next (blockRow engine s)

/-! ### Retiring and returning engines (R309 to R314) -/

/-- CORE_STATE (Table 07-9). -/
def coreState (n st cause shed : Nat) (s : State) : State :=
  raise 0x1F [pack [(31, 27, n), (26, 24, st), (23, 16, cause), (15, 8, shed)]] s

/-- The engines that would hold a stream bound to one out of service: none while it fits nowhere. -/
def rehome (s : State) (k : Nat) : Option (List Nat) :=
  let e := accepted (strGet s k)
  let ents := acceptedAll (tdel k s.str.ents)
  if recResidence e.rcd = 1 then
    ((List.range 16).find? fun n => match admitPinned s ents e.rcd n with | .ok _ => true | .no _ => false).map fun n => [n]
  else match admitPrivileged s ents e.rcd with
    | .ok h => some h
    | .no _ => none

/-- Streams whose engines are not all in service. -/
def homeless (s : State) : List Nat :=
  ((acceptedAll s.str.ents).filter fun x => isBound x.2 && !(x.2.home.all (inService s))).map Prod.fst

/-- Every homeless stream rehomed where it fits; whether all are, and the pool fits (R309, R310). -/
def settleHomes (s : State) : State × Bool :=
  let (s1, ok) := (homeless s).foldl (fun (acc : State × Bool) k =>
    match rehome acc.1 k with
    | some h => (strUpd k (fun e => { e with home := h, nextHome := none }) acc.1, acc.2)
    | none => (acc.1, false)) (s, true)
  (s1, ok && poolFits s1 (reservedBy (acceptedAll s1.str.ents)) (pooledOf (acceptedAll s1.str.ents)))

/-- The next stream to shed: class 1 before class 0, the most recently admitted first (R310). -/
def victim (s : State) : Option Nat :=
  let c (n : Nat) := s.str.ents.filter fun x => (x.2.st == 1 || isBound x.2) && recClass x.2.rcd == n && decodes x.2
  let newest (l : Tab StreamE) : Option Nat :=
    match l with
    | [] => none
    | x :: xs => some (xs.foldl (fun b y => if b.2.order < y.2.order then y else b) x).1
  match newest (c 1) with
  | some k => some k
  | none => newest (c 0)

/-- Streams are shed one at a time until the rest fit; how many were. -/
def shedLoop : Nat → Nat → State → State × Nat
  | 0, n, s => (s, n)
  | fuel + 1, n, s =>
    let (s1, ok) := settleHomes s
    if ok then (s1, n)
    else match victim s1 with
      | none => (s1, n)
      | some k =>
        let s2 := setStream k 2 2 (strUpd k (fun e => { e with home := [], nextHome := none }) s1)
        shedLoop fuel (n + 1) (withStr s2 { s2.str with shed := k :: s2.str.shed })

/-- An engine leaves service: streams are rehomed, shed where they do not fit, and RETIRED is reported. A frame whose context stood on an
engine that fails is ready again (DESIGN CHOICE, log 18). -/
def retireDone (n cause : Nat) (s : State) : State :=
  let s1 := engUpd n (fun x => { x with st := 2, cause := cause, job := none, held := [] }) s
  let s2 := (engGet s n).held.foldl (fun st j => preemptPool { j with gang := [] } st) s1
  let (s3, shed) := shedLoop 257 0 s2
  coreState n 2 cause shed s3

/-- A retiring engine whose frame has ended runs the frames whose contexts it holds to their end, and is then retired (R273, R309). -/
def retireStep (n : Nat) (s : State) : State :=
  match (engGet s n).held with
  | j :: _ => resumeJob n j s
  | [] => retireDone n (engGet s n).cause s

/-- An engine that still works is left able to take a width. -/
def widthServed (s : State) (gone : Nat) (w : Nat) : Bool :=
  (List.range 24).any fun n => n != gone && inService s n && (w ≤ 4096 || 16 ≤ n)

/-- CORE_RETIRE (R309, R314). -/
def opCoreRetire (c : Cmd) (s : State) : State × Reply :=
  let n := fld (cw c 4) 4 0
  checked [
    (23 < n || (engGet s n).st != 0, badField 16),
    (s.str.ents.any (fun x => x.2.st == 1 && decodes x.2 && !widthServed s n (recWidth x.2.rcd)), held 0xFF n)]
    (fun s =>
      let s1 := coreState n 1 1 0 (engUpd n (fun x => { x with st := 1, cause := 1 }) s)
      (if (engGet s n).job.isNone then retireStep n s1 else s1, .ok [])) s

/-- CORE_RETIRE (R309). -/
def execCoreRetire (c : Cmd) (s : State) : Res := .next (hostCommand 0x0305 opCoreRetire c s)

/-- CORE_RETURN (R312): the self-test starts. -/
def opCoreReturn (c : Cmd) (s : State) : State × Reply :=
  let n := fld (cw c 4) 4 0
  checked [(23 < n || !((engGet s n).st == 2 || (engGet s n).st == 4), badField 16)]
    (fun s => (coreState n 3 4 0 (engUpd n (fun x => { x with st := 3, cause := 4 }) s), .ok [])) s

/-- CORE_RETURN (R312). -/
def execCoreReturn (c : Cmd) (s : State) : Res := .next (hostCommand 0x0306 opCoreReturn c s)

/-- CORE_SELFTEST_DONE: an engine that passes returns to service without stream state (R311 to R313). -/
def coreTested (n : Nat) (pass : Bool) (s : State) : State :=
  if (engGet s n).st != 3 then s
  else if pass then readmit (coreState n 0 4 0 (engSet n {} s))
  else coreState n 4 4 0 (engUpd n (fun x => { x with st := 4 }) s)

/-- CORE_SELFTEST_DONE (R312). -/
def execCoreSelftestDone (engine : Nat) (pass : Bool) (s : State) : Res := .next (coreTested engine pass s)

/-! ### Statistics (R308) -/

/-- The size of a statistics record of `rows` stitch rows. -/
def statSize (rows : Nat) : Nat := (48 + 16 * rows + 63) / 64 * 64

/-- The words of one row, with its sum of luma differences. -/
def statRow (r : RowStat) (diff : Nat) : List W32 :=
  [w32 (sat32 diff), w32 (sat32 r.motion), pack [(31, 16, sat16 r.intra), (15, 0, sat16 r.inter)], w32 r.bits]

/-- The words of a record (Table 07-8). -/
def statWords (k seq num : Nat) (p : DecPic) (origin tainted : Nat) (diffs : List Nat) : List W32 :=
  let rows := stitchN p.h
  [w32 seq, pack [(31, 24, k), (23, 16, rows), (15, 12, p.stat.kind), (11, 7, p.stat.engine)], w32 num,
   w32 (origin / 1000000000), w32 (origin % 1000000000), w32 p.stat.bits,
   pack [(31, 16, sat16 tainted), (15, 0, sat16 p.stat.micros)], 0] ++
    ((List.range rows).flatMap fun i => statRow (p.stat.rows.getD i { motion := 0, intra := 0, inter := 0, bits := 0 }) (diffs.getD i 0)) ++
    [w32 seq]

/-- The payload of a stitch as it stands in memory. -/
def rawPayload (f : Surf) (sx sy : Nat) (s : State) : List Byte := (busRead 11 1 3 (slotOf f sx sy) (payloadLen f.fmt f.w f.h sx sy) s).2.1

/-- The sum of absolute luma differences of a stitch row of two pictures of one size, in 10-bit units (Table 07-8). -/
def lumaDiff (a b : Surf) (sy : Nat) (s : State) : Nat :=
  sumL ((List.range (stitchN a.w)).map fun sx =>
    let pa := rawPayload a sx sy s
    let pb := rawPayload b sx sy s
    let v (f : Surf) (bs : List Byte) (x y : Nat) : Nat := sampleOf bs f.fmt f.w f.h sx sy 0 x y * (if isTenBit f.fmt then 1 else 4)
    sumL ((List.range (stitchExt a.h sy)).flatMap fun y => (List.range (stitchExt a.w sx)).map fun x =>
      (v a pa x y - v b pb x y) + (v b pb x y - v a pa x y)))

/-- As many free values. -/
def takeFrees : Nat → State → List Nat × State
  | 0, s => ([], s)
  | n + 1, s =>
    let (v, s1) := takeFree s
    let (l, s2) := takeFrees n s1
    (v.toNat :: l, s2)

/-- The luma differences of a picture's rows from the previous output picture; free values where there is none of its size (log 18). -/
def rowDiffs (k : Nat) (p : DecPic) (prev : Option SrcFrame) (s : State) : List Nat × State :=
  match prev with
  | some f =>
    if f.w = p.w && f.h = p.h then
      ((List.range (stitchN p.h)).map fun i => lumaDiff (streamSurf k p.slot p.fmt p.w p.h) (streamSurf k f.slot f.fmt f.w f.h) i s, s)
    else takeFrees (stitchN p.h) s
  | none => takeFrees (stitchN p.h) s

/-- The record of an output picture is written to the stream's buffer and the count after it. `statsCount` holds the count of
records, `statsOff` where the next one starts. -/
def statWrite (k num : Nat) (p : DecPic) (origin tainted : Nat) (prev : Option SrcFrame) (s : State) : State :=
  let e := strGet s k
  if recStatsAddr e.rcd = 0 then s
  else
    let n := e.statsCount
    let sz := statSize (stitchN p.h)
    let size := 2 ^ recStatsLog2 e.rcd
    let at_ := if size < Nat.max 64 e.statsOff + sz then 64 else Nat.max 64 e.statsOff
    let (diffs, s0) := rowDiffs k p prev s
    let s1 := send (.hostWrite (recStatsAddr e.rcd + at_) (wordBytes (statWords k (n % 2 ^ 32) num p origin tainted diffs))) s0
    let s2 := send (.hostWrite (recStatsAddr e.rcd) (bytesLE 8 (n + 1))) s1
    strUpd k (fun x => { x with statsCount := n + 1, statsOff := at_ + sz }) s2

/-! ### Pictures (R293, R297 to R304) -/

/-- DECODE_ERROR (Table 07-9). -/
def decodeError (k cause n au count : Nat) (s : State) : State :=
  raise 0x19 [pack [(31, 24, k), (23, 16, cause), (15, 11, n)], w32 au, pack [(31, 16, sat16 count)]] s

/-! #### References (R301, R302) -/

/-- The picture that a reference names (R301): of AV1, the one of its slot, with the identifier expected, or without identifiers while the
slot does not count as missing; of the others, the held picture with its picture order count. None is a missing reference. -/
def resolveRef (e : StreamE) (r : RefEntry) : Option Nat :=
  if strFormat e = 2 then
    match tfind r.key.toNat e.slots with
    | some x =>
      if (match r.id with | some i => x.id == some i | none => !x.lost) && e.pics.any (fun p => p.num == x.pic) then some x.pic else none
    | none => none
  else (e.pics.find? fun p => p.order == r.key).map DecPic.num

/-- A gap in H.264's frame_num. -/
def frameGap (e : StreamE) (p : DecPicture) : Bool :=
  strFormat e == 0 && e.begun && !p.refresh && p.frameNum != e.refNum && p.frameNum != (e.refNum + 1) % p.maxFrameNum

/-- The surface of the nearest earlier picture in output order that the stream holds decoded (R302, R303): the last of those that wait for
output before this one, else the last that left. -/
def nearestEarlier (k : Nat) (e : StreamE) (order : Int) : Option Surf :=
  let before := e.pics.filter fun p => p.waiting && decide (p.order < order)
  let last := before.foldl (fun (a : Option DecPic) p => match a with | some q => if q.order < p.order then some p else a | none => some p) none
  match last with
  | some p => some (streamSurf k p.slot p.fmt p.w p.h)
  | none => e.frames.getLast?.map fun f => streamSurf k f.slot f.fmt f.w f.h

/-- The surface that a reference stands for: the held picture, or the replacement of a missing one. -/
def refSurf (k : Nat) (e : StreamE) (near : Option Surf) (d : Option Nat) : Option Surf :=
  match d with
  | some n => (e.pics.find? fun p => p.num == n).map fun p => streamSurf k p.slot p.fmt p.w p.h
  | none => near

/-! #### Taint and custody (R82, R303, R304) -/

/-- A read lies in a tainted stitch: of the picture itself, of a reference, or of any replacement. -/
def readTaint (pics : List DecPic) (refs : List (Option Nat)) (own : List (Nat × Nat)) (r : StitchRead) : Bool :=
  match r.ref with
  | none => own.contains (r.rx, r.ry)
  | some i => match refs.getD i none with
    | some d => (match pics.find? fun p => p.num == d with | some p => p.taint.contains (r.rx, r.ry) | none => true)
    | none => true

/-- The same for custody failures: `bad` are the stitches, by place in the reference list, that failed verification or that a replacement's
tag holds as failed (R304). -/
def readFailed (pics : List DecPic) (refs : List (Option Nat)) (bad : List (Nat × Nat × Nat)) (own : List (Nat × Nat)) (r : StitchRead) : Bool :=
  match r.ref with
  | none => own.contains (r.rx, r.ry)
  | some i => bad.contains (i, r.rx, r.ry) || (match refs.getD i none with
    | some d => (match pics.find? fun p => p.num == d with | some p => p.failed.contains (r.rx, r.ry) | none => false)
    | none => false)

/-- One pass of propagation over a picture's reads. -/
def spread (bad : List (Nat × Nat) → StitchRead → Bool) (reads : List StitchRead) (t : List (Nat × Nat)) : List (Nat × Nat) :=
  reads.foldl (fun acc r => if bad acc r && !acc.contains (r.sx, r.sy) then (r.sx, r.sy) :: acc else acc) t

/-- Propagation to the end: no picture needs more passes than it has reads. -/
def spreadAll (bad : List (Nat × Nat) → StitchRead → Bool) (reads : List StitchRead) (t : List (Nat × Nat)) : List (Nat × Nat) :=
  Nat.repeat (spread bad reads) (reads.length + 1) t

/-- The stitches that a picture's detected failures in reconstruction and writing mark (Table 02-7): the rest of the stitch row as well, of
those that the failing core writes. -/
def faultStitches (cols : Nat) (core : Nat → Nat → Nat) (fs : List StageFault) : List (Nat × Nat) :=
  fs.flatMap fun f =>
    if f.stage = 0x12 || f.stage = 0x13 then
      ((List.range cols).filter fun x => x == f.sx || (f.sx < x && core x f.sy == f.slot)).map fun x => (x, f.sy)
    else []

/-- The memory write port and initiator of an engine (Tables 07-1, 14-4). -/
def engInit (n : Nat) : Nat := if n < 8 || (16 ≤ n && n < 20) then 11 else 12
def engPort (n : Nat) : Nat := if engInit n = 11 then 1 else 3

/-- A failure kept with a picture: stage, engine, and what CUSTODY_FAIL tells of it. -/
def faultOf (stage engine : Nat) (f : Failure) : PicFault :=
  { stage := stage, engine := engine, kind := f.kind, sx := f.sx, sy := f.sy, due := f.due, flags := f.flags }

/-- The failures of a list that one stage of one engine found. -/
def faultsAt (stage engine : Nat) (l : List PicFault) : List Failure :=
  (l.filter fun x => x.stage == stage && x.engine == engine).map fun x =>
    { kind := x.kind, sx := x.sx, sy := x.sy, due := x.due, flags := x.flags }

/-- The reference stitches that reads name are fetched and verified (R69, R75): those that fail, by place in the reference list, with those
of a replacement whose tag carries CUSTODY_FAIL; the failures; the block. -/
def fetchRefs (n : Nat) (us : List StageFault) (surf : Nat → Option Surf) (missing : Nat → Bool) :
    List (Nat × Nat × Nat) → State → List (Nat × Nat × Nat) × List Failure × State
  | [], s => ([], [], s)
  | (i, rx, ry) :: l, s =>
    match surf i with
    | none => fetchRefs n us surf missing l s
    | some f =>
      let (r, s1) := fetchStitch 0x11 (us.filter fun u => u.slot == i) (engInit n) (engPort n) f rx ry s
      let (bad, fs, s2) := fetchRefs n us surf missing l s1
      match r.tag with
      | some t => (if missing i && hasFlag (tagFlags t) flagCUSTODY_FAIL then (i, rx, ry) :: bad else bad, fs, s2)
      | none => ((i, rx, ry) :: bad, badStitch r.kind (engInit n) (engPort n) f rx ry s :: fs, s2)

/-- The distinct stitches that a picture reads of its references. -/
def refReads (reads : List StitchRead) : List (Nat × Nat × Nat) :=
  (reads.filterMap fun r => r.ref.map fun i => (i, r.rx, r.ry)).eraseDups

/-- A bitstream block fails its CRC at DEC_BITSTREAM, or the decoder's state its parity (R75, R82): an upset of one read leaves the retry to
verify. -/
def blockBad (us : List StageFault) (a : AccUnit) (i : Nat) : Bool :=
  match a.blocks[i]? with
  | none => false
  | some b =>
    crc32c b.bytes != tagCrc b.tag.toNat ||
      (match upsetAt 0x10 [1, 3, 5, 7] us i 0 with | some u => decide (2 ≤ u.times) || u.kind == 3 | none => false)

/-- The blocks that hold a part. -/
def partBlocks (p : PicPart) : List Nat :=
  (List.range (p.hi / 2048 + 1)).filter fun i => p.lo < p.hi && p.lo / 2048 ≤ i && 2048 * i < p.hi

/-- A part's data is not there: not received, in a block with INCOMPLETE, or in a block that fails (Table 07-7). -/
def partLost (us : List StageFault) (a : AccUnit) (p : PicPart) : Bool :=
  p.missing || (partBlocks p).any fun i =>
    blockBad us a i || (match a.blocks[i]? with | some b => hasFlag (tagFlags b.tag.toNat) flagINCOMPLETE | none => false)

/-- The rectangles of a picture that are concealed (R303): those of lost parts, and what a syntax error leaves of others. -/
def concealRects (us : List StageFault) (a : AccUnit) (ps : List PicPart) : List Rect :=
  ps.flatMap fun p => if partLost us a p then p.rects else p.broken.getD []

/-- A sample lies in a rectangle of a list; a stitch meets one. -/
def rectsHold (rs : List Rect) (x y : Nat) : Bool := rs.any fun r => r.x ≤ x && x < r.x + r.w && r.y ≤ y && y < r.y + r.h
def rectsMeetStitch (rs : List Rect) (p : Nat × Nat) : Bool :=
  rs.any fun r => 0 < r.w && 0 < r.h && r.x < 32 * p.1 + 32 && 32 * p.1 < r.x + r.w && r.y < 32 * p.2 + 32 && 32 * p.2 < r.y + r.h

/-! #### Samples (R276 to R278, R303) -/

/-- The stored format of a picture (Table 07-3): monochrome is 4:2:0 of its depth. -/
def pictureFmt (p : DecPicture) : Nat := if p.chroma = 2 then (if p.depth10 then 4 else 1) else if p.depth10 then 3 else 0

/-- A decoded sample of the cropped picture: from the decoded planes inside the window; mid-grey chroma of a monochrome picture. -/
def decodedSample (p : DecPicture) (c x y : Nat) : Nat :=
  let fmt := pictureFmt p
  let d := planeDiv fmt c
  if p.chroma = 0 && c != 0 then midGrey fmt
  else (p.planes.getD c []).getD ((p.cropY / d.2 + y) * (p.stride / d.1) + p.cropX / d.1 + x) 0

/-- A sample with the film grain of an AV1 picture applied (R278). -/
def grained (p : DecPicture) (c x y v : Nat) : Nat :=
  match p.grain with
  | some (seed, ps) => Config.filmGrain seed ps c (y * p.w + x) v % (if p.depth10 then 1024 else 256)
  | none => v

/-- The co-located stitches for concealment, read and verified from the nearest earlier picture (R70, R303): none where there is no such
stitch or it fails. -/
def concealCells (n : Nat) (us : List StageFault) (near : Option Surf) (fmt w h : Nat) :
    List (Nat × Nat) → State → List ((Nat × Nat) × Option (List Byte)) × List (Nat × Nat) × List Failure × State
  | [], s => ([], [], [], s)
  | p :: ps, s =>
    match near with
    | some f =>
      if f.fmt = fmt && f.w = w && f.h = h then
        let (r, s1) := fetchStitch 0x11 (us.filter fun u => u.slot == 255) (engInit n) (engPort n) f p.1 p.2 s
        let (l, bad, fs, s2) := concealCells n us near fmt w h ps s1
        match r.tag with
        | some _ => ((p, some r.bytes) :: l, bad, fs, s2)
        | none => ((p, none) :: l, p :: bad, badStitch r.kind (engInit n) (engPort n) f p.1 p.2 s :: fs, s2)
      else let (l, bad, fs, s2) := concealCells n us near fmt w h ps s; ((p, none) :: l, bad, fs, s2)
    | none => let (l, bad, fs, s2) := concealCells n us near fmt w h ps s; ((p, none) :: l, bad, fs, s2)

/-- The payload of a stitch of a picture: decoded samples, and where `hidden` says so the co-located ones or mid-grey. -/
def pictureCell (p : DecPicture) (hidden : Nat → Nat → Bool) (cells : List ((Nat × Nat) × Option (List Byte))) (sx sy : Nat) : List Byte :=
  let fmt := pictureFmt p
  let own := cells.find? fun c => c.1 == (sx, sy)
  cellBytes fmt p.w p.h sx sy fun c x y =>
    let d := planeDiv fmt c
    let gx := 32 * sx / d.1 + x
    let gy := 32 * sy / d.2 + y
    grained p c gx gy
      (if hidden (gx * d.1) (gy * d.2) then
        (match own with | some (_, some bs) => sampleOf bs fmt p.w p.h sx sy c x y | _ => midGrey fmt)
      else decodedSample p c gx gy)

/-- The samples and tags of a picture written into its surface (R65, R75); tags are made afresh at its output (R299). The stitches whose
writes failed. -/
def writePicture (core : Nat → Nat → Nat) (us : List StageFault) (f : Surf) (due : Nat → Nat → Nat) (flags : Nat × Nat → Nat) (crcs : List W32)
    (cells : List (List Byte)) : List (Nat × Nat) → Nat → State → List (Nat × Nat) × State
  | [], _, s => ([], s)
  | p :: ps, i, s =>
    let n := core p.1 p.2
    let (bad, s1) := writeStitch 0x13 us (engInit n) (engPort n) f p.1 p.2 (cells.getD i [])
      (tagWord (crcs.getD i 0).toNat (due p.1 p.2) (flags p)) s
    let (l, s2) := writePicture core us f due flags crcs cells ps (i + 1) s1
    (if bad then p :: l else l, s2)

/-! #### Output (R293, R297 to R299) -/

/-- The failures found in a picture's decoding are reported by stage and core (R85, R86), those of DEC_WRITE on one core apart, which the
acceptance of the frame reports. -/
def engineFaults (k num writer : Nat) (l : List PicFault) (s : State) : State :=
  let cores := (l.map PicFault.engine).eraseDups
  [0x10, 0x11, 0x12, 0x13].foldl (fun st g => cores.foldl (fun st n =>
    if g = 0x13 && n = writer then st else custodyReport g (engInit n) n 0 k num (faultsAt g n l) st) st) s

/-- A picture leaves for output: it becomes a source frame under its origin (R297 to R299). -/
def showPicture (k d : Nat) (us : List StageFault) (au : AccUnit) (s : State) : State :=
  let e := strGet s k
  match e.pics.find? fun p => p.num == d with
  | none => s
  | some p =>
    let n := p.stat.engine
    let av1 := strFormat e == 2
    let org := if av1 then au.origin else p.origin
    let arr := if av1 then au.arrival else p.arrival
    let tim := if av1 then au.arrTimed else p.arrTimed
    let deg := if av1 then au.degraded else p.degraded
    let f := streamSurf k p.slot p.fmt p.w p.h
    let fl := (stitches f).map fun q => (if p.taint.contains q then flagCONCEALED else 0) |||
      (if p.failed.contains q then flagCUSTODY_FAIL else 0) ||| (if deg then flagDEGRADED else 0)
    let num := e.nextFrame
    let s1 := strUpd k (fun x => { x with
      nextFrame := num + 1, pics := x.pics.map fun q => if q.num = d then { q with waiting := false, faults := [] } else q }) s
    let s2 := acceptFrame {
      stream := k, stage := 0x13, init := engInit n, port := engPort n, inst := n, arrTimed := tim,
      frame := { num := num, slot := p.slot, origin := org, arrival := arr, w := p.w, h := p.h, fmt := p.fmt, crcs := p.crcs,
                 colour := p.colour, full := p.full, grain := p.grain },
      cells := none, flags := fl, fails := faultsAt 0x13 n p.faults, us := us } (engineFaults k num n p.faults s1)
    let tainted := p.taint.length
    let s3 := statWrite k num p org tainted e.frames.getLast? s2
    strUpd k (fun x =>
      if tainted = 0 then { x with taintAt := none }
      else if x.taintAt.isSome then x
      else { x with taintAt := some (t2Ns s), refreshAt := t2Ns s + recRefresh x.rcd * 1000000 }) s3

/-- The waiting picture that is first in output order. -/
def firstWaiting (e : StreamE) : Option Nat :=
  ((e.pics.filter fun p => p.waiting).foldl (fun (a : Option DecPic) p =>
    match a with | some q => if p.order < q.order then some p else a | none => some p) none).map DecPic.num

/-- Pictures leave until at most `keep` wait (R297: no more than the reorder depth can still be followed by an earlier one). -/
def bump (k keep : Nat) (us : List StageFault) (au : AccUnit) : Nat → State → State
  | 0, s => s
  | fuel + 1, s =>
    let e := strGet s k
    if (e.pics.filter fun p => p.waiting).length ≤ keep then s
    else match firstWaiting e with
      | some d => bump k keep us au fuel (showPicture k d us au s)
      | none => s

/-- The work on an access unit ends: the stream's next frame is ready, its engines are free, and one that was retiring goes on to be
retired. A pooled stream's context is saved to HBM3 (R286). -/
def endJob (j : Job) (s : State) : State :=
  let s1 := auWait j.stream (strUpd j.stream (fun e => { e with
    aus := e.aus.filter fun a => a.num != j.au, ctxAt := if isPooled e then none else e.ctxAt }) s)
  j.gang.foldl (fun st n =>
    let st1 := engUpd n (fun x => { x with job := none }) st
    if (engGet st1 n).st = 1 then retireStep n st1 else st1) s1

/-- Discard waiting access units to the next random access point (Table 07-7). -/
def discardToRap (e : StreamE) : StreamE :=
  let kept := fromRap (e.aus.filter fun a => !a.started)
  { e with aus := (e.aus.filter fun a => a.started) ++ kept, wantRap := kept.isEmpty, begun := false }

/-- A stream's meter takes a picture in (R294). -/
def meter (pix bits : Nat) (sec : Nat) (e : StreamE) : StreamE :=
  if e.meterSec = sec then { e with meterPix := e.meterPix + pix, meterBits := e.meterBits + bits }
  else { e with meterSec := sec, meterPix := pix, meterBits := bits, demoted := false }

/-! #### A picture decoded -/

/-- Parameters that no picture of a stream may have (Table 07-7): outside Table 07-3, above the stream's ceiling, size or depth, or of a
surface that R43 refuses. -/
def pictureUnsupported (e : StreamE) (p : DecPicture) : Bool :=
  let r := e.rcd
  let f := strFormat e
  let outside := match f with
    | 0 => !(p.profile == 66 || p.profile == 77 || p.profile == 100) || 51 < p.level || p.depth10 ||
        !(p.chroma == 1 || (p.chroma == 0 && p.profile == 100)) || 36864 < ceilDiv p.w 16 * ceilDiv p.h 16
    | 1 => !(p.profile == 1 || p.profile == 2) || 183 < p.level || p.chroma != 1 || (p.depth10 && p.profile == 1)
    | 2 => p.profile != 0 || 16 < p.level || 1 < p.chroma
    | 3 => p.depth10 || !(p.chroma == 1 || p.chroma == 2)
    | _ => !p.depth10 || p.chroma != 2
  let (mw, mh) := ceilingSize f
  !p.tools || outside || mw < p.w || mh < p.h || recWidth r < p.w || recHeight r < p.h ||
    (f < 3 && (recLevel r < p.level || recFld r 44 31 24 < p.profile || recFld r 44 23 23 < p.tier)) ||
    (p.depth10 && !recDepth10 r && f != 5) || !surfaceOk (pictureFmt p) p.w p.h || p.w = 0 || p.h = 0

/-- The core of a gang that writes a stitch: its place in the gang. -/
def writerOf (p : DecPicture) (sx sy : Nat) : Nat := p.writers.getD (sy * stitchN p.w + sx) 0

/-- AV1's reference slots count as missing (R301). -/
def slotsLost (t : Tab RefSlot) : Tab RefSlot := t.map fun x => (x.1, { x.2 with lost := true })

/-- A unit begins to be decoded: after one that was lost, or with data missing before its first byte, AV1's slots count as missing. -/
def unitBegins (a : AccUnit) (e : StreamE) : StreamE :=
  if e.lastAu == some a.num then e
  else
    let gap := (match e.lastAu with | some m => m + 1 != a.num | none => false) ||
      (match a.blocks.head? with | some b => hasFlag (tagFlags b.tag.toNat) flagINCOMPLETE | none => false)
    { e with lastAu := some a.num, slots := if gap then slotsLost e.slots else e.slots }

/-- RASL pictures of the random access point at which decoding starts, or of a broken link, are not output (R304). -/
def raslSkips (e : StreamE) (nal : Nat) : Bool :=
  if strFormat e != 1 || nal < 16 || 21 < nal then e.raslSkip else if nal = 21 then !e.begun else nal < 19

/-- The picture leaves for output at some time. -/
def outputs (e : StreamE) (p : DecPicture) : Bool :=
  if strFormat e = 2 then p.showFrame else p.output && !(strFormat e == 1 && raslSkips e p.nal && (p.nal == 8 || p.nal == 9))

/-- What a stream keeps after a picture: what waits for output, what its codec still references. -/
def keepPics (e : StreamE) (keeps : List Nat) : List DecPic :=
  e.pics.filter fun q => q.waiting || (if strFormat e = 2 then e.slots.any fun x => x.2.pic == q.num else keeps.contains q.num)

/-- A decoded picture is stored, judged and made ready for output; pictures due leave for output. `unwritten` are stitches that a watchdog
leaves concealed, and `causes` the conditions found beside those of the picture itself. -/
def storePicture (n : Nat) (j : Job) (a : AccUnit) (p : DecPicture) (unwritten : List (Nat × Nat)) (causes : List Nat) (slot : Nat) (s : State) :
    State :=
  let k := j.stream
  let s0 := strUpd k (unitBegins a) s
  let e0 := strGet s0 k
  let us := detected p.faults
  let s1 := if p.refresh && strFormat e0 < 2 then bump k 0 us a e0.pics.length s0 else s0
  let e := strGet s1 k
  let d := e.nextPic
  let fmt := pictureFmt p
  let f := streamSurf k slot fmt p.w p.h
  let cores := j.gang.take (Nat.max 1 p.pieces)
  let coreOf (x y : Nat) : Nat := cores.getD (writerOf p x y) (j.gang.headD n)
  let lead := j.gang.headD n
  let near := nearestEarlier k e p.order
  let refs := p.refs.map (resolveRef e)
  let gone (i : Nat) : Bool := (refs.getD i none).isNone
  let (badRefs, refFs, s2) := fetchRefs lead us (fun i => refSurf k e near (refs.getD i none)) gone (refReads p.reads) s1
  let rects := concealRects us a p.parts
  let hiddenCells := (stitches f).filter fun q => unwritten.contains q || rectsMeetStitch rects q
  let (cc, ccBad, ccFs, s3) := concealCells lead us near fmt p.w p.h hiddenCells s2
  let hidden (x y : Nat) : Bool := unwritten.contains (x / 32, y / 32) || rectsHold rects x y
  let cells := (stitches f).map fun q => pictureCell p hidden cc q.1 q.2
  let crcs := cells.map fun b => w32 (crc32c b)
  let blockRects := (p.parts.filter fun x => (partBlocks x).any (blockBad us a)).flatMap PicPart.rects
  let taint := spreadAll (readTaint e.pics refs) p.reads hiddenCells
  let own := faultStitches (stitchN p.w) (fun x y => writerOf p x y) us ++ ccBad ++ (stitches f).filter (rectsMeetStitch blockRects)
  let failed := spreadAll (readFailed e.pics refs badRefs) p.reads own
  let table := genTable s3 (genFor s3.comp.ledger.gens a.origin)
  let due (x y : Nat) : Nat := dueTick a.origin (budgetOf table k x y)
  let base := (if a.arrTimed then flagARRIVAL_TIMED else 0) ||| (if a.degraded then flagDEGRADED else 0)
  let before (q : Nat × Nat) : Nat := (if taint.contains q then flagCONCEALED else 0) ||| base
  let flags (q : Nat × Nat) : Nat := before q ||| (if failed.contains q then flagCUSTODY_FAIL else 0)
  let (wBad, s4) := writePicture coreOf us f due flags crcs cells (stitches f) 0 (strUpd k (fun x => { x with frames := dropSlot slot x.frames }) s3)
  let blocks := (List.range a.blocks.length).filter (blockBad us a)
  let faults :=
    (blocks.map fun i => faultOf 0x10 lead
      { kind := (match upsetAt 0x10 [1, 3, 5, 7] us i 0 with | some u => u.kind | none => 1), due := tick a.origin,
        flags := (match a.blocks[i]? with | some b => tagFlags b.tag.toNat | none => 0),
        sx := (((stitches f).find? (rectsMeetStitch blockRects)).getD (0, 0)).1, sy := (((stitches f).find? (rectsMeetStitch blockRects)).getD (0, 0)).2 }) ++
    ((refFs ++ ccFs).map (faultOf 0x11 lead)) ++
    ((us.filter fun u => u.stage == 0x12 || (u.stage == 0x13 && u.kind != 5)).map fun u => faultOf u.stage (cores.getD u.slot lead)
      { kind := u.kind, sx := u.sx, sy := u.sy, due := due u.sx u.sy, flags := before (u.sx, u.sy) }) ++
    (wBad.map fun q => faultOf 0x13 (coreOf q.1 q.2) { kind := 5, sx := q.1, sy := q.2, due := due q.1 q.2, flags := flags q })
  let pic : DecPic := {
    num := d, slot := slot, w := p.w, h := p.h, fmt := fmt, crcs := crcs, taint := taint, failed := failed ++ wBad,
    colour := p.colour, full := p.full, origin := a.origin, arrival := a.arrival, arrTimed := a.arrTimed,
    degraded := a.degraded, stat := { kind := p.kind, engine := lead, bits := p.bits, micros := p.micros, rows := p.rows },
    order := p.order, waiting := outputs e p, grain := p.grain.isSome, faults := faults }
  let retried := (List.range a.blocks.length).filter fun i =>
    !blockBad us a i && (upsetAt 0x10 [1, 5, 7] us i 0).isSome
  let gap := frameGap e p
  let s5 := retried.foldl (fun st _ => countRetry 0x10 st) (strUpd k (fun x => { x with
    pics := x.pics ++ [pic], nextPic := d + 1, begun := true, raslSkip := raslSkips e p.nal, lastSize := some (p.w, p.h),
    refNum := if p.reference then p.frameNum else if gap then (p.frameNum + p.maxFrameNum - 1) % p.maxFrameNum else x.refNum,
    slots := p.slots.foldl (fun t i => tset i { pic := d, id := p.id } t) x.slots }) s4)
  let found := (if gap || p.refs.any (fun r => (resolveRef e r).isNone) then [1] else []) ++
    (if p.parts.any (partLost us a) then [2] else []) ++
    (if p.parts.any fun x => !partLost us a x && x.broken.isSome then [3] else []) ++ causes
  let s6 := found.foldl (fun st c => decodeError k c lead a.num taint.length st) s5
  let s7 := if (match e.lastSize with | some x => x != (p.w, p.h) | none => false) then
      raise 0x1E [pack [(31, 24, k)], pack [(31, 16, p.w), (15, 0, p.h)]] s6
    else s6
  let s8 := if pic.waiting then s7
    else engineFaults k e.nextFrame 255 faults (strUpd k (fun x => { x with pics := x.pics.map fun q => if q.num = d then { q with faults := [] } else q }) s7)
  let keep := if strFormat e < 2 then recReorder e.rcd else 0
  let s9 := bump k keep us a (e.pics.length + 1) s8
  strUpd k (fun x => meter (p.w * p.h) p.bits s.tb.t2.sec.toNat { x with pics := keepPics x (d :: p.keeps) }) s9

/-- After the last picture of a unit that is incomplete, AV1's slots count as missing (R301). -/
def unitEnds (a : AccUnit) (e : StreamE) : StreamE := if a.incomplete then { e with slots := slotsLost e.slots } else e

/-- AV1 shows the picture of a slot again (R297, R298): no new picture, no surface. A slot that counts as missing shows nothing. -/
def showAgain (k slot : Nat) (us : List StageFault) (a : AccUnit) (s : State) : State :=
  let e := strGet s k
  match tfind slot e.slots with
  | some x => if x.lost then s else showPicture k x.pic us a s
  | none => s

/-- The kinds of failures that R87 counts. -/
def hardFault (f : StageFault) : Bool := (f.kind == 2 || f.kind == 3 || f.kind == 4) && 0x10 ≤ f.stage && f.stage ≤ 0x13

/-- One core of a gang has finished a frame: its run of frames with residue, parity or duplicate failures, whatever their streams
(DESIGN CHOICE, log 65), and CUSTODY_PERSISTENT in the third (R87). -/
def coreRun (k : Nat) (cores : List Nat) (fs : List StageFault) (s : State) (i : Nat) : State :=
  let n := cores.getD i 0
  let mine := (detected fs).filter fun f => hardFault f && f.slot == i
  match mine with
  | [] => engUpd n (fun x => { x with badRun := 0 }) s
  | f :: _ =>
    let run := (engGet s n).badRun + 1
    let s1 := engUpd n (fun x => { x with badRun := run }) s
    if run = 3 then raise 0x02 [custodyP0 f.stage f.kind (engInit n) n 0, 3, pack [(31, 16, k)]] s1 else s1

/-- Every core that decoded a frame has its run judged. -/
def coreRuns (k : Nat) (cores : List Nat) (fs : List StageFault) (s : State) : State := (List.range cores.length).foldl (coreRun k cores fs) s

/-- The cores of a gang whose run has just reached three retire (R87, R309). -/
def retireBad (cores : List Nat) (s : State) : State :=
  cores.foldl (fun st n => if (engGet st n).badRun = 3 && (engGet st n).st = 0 then retireDone n 2 (engUpd n (fun x => { x with badRun := 0 }) st) else st) s

/-- DECODE_PICTURE_DONE: a picture of the access unit on an engine is decoded, with the outcomes of Table 07-7. -/
def pictureDone (n : Nat) (p : DecPicture) (s : State) : State :=
  match (engGet s n).job with
  | none => s
  | some j =>
    let k := j.stream
    let e := strGet s k
    match e.aus.find? fun a => a.num == j.au with
    | none => endJob j s
    | some a =>
      let fin (st : State) : State := if p.last then endJob j (strUpd k (unitEnds a) st) else st
      if p.contextFailed && j.loaded then
        refreshWanted k (decodeError k 6 n a.num 0 (strUpd k discardToRap (endJob j s)))
      else if strFormat e = 2 && p.showSlot.isSome then fin (showAgain k (p.showSlot.getD 0) (detected p.faults) a (strUpd k (unitBegins a) s))
      else if pictureUnsupported e p then
        let s1 := decodeError k 4 n a.num 0 (strUpd k discardToRap (endJob j s))
        if e.st = 3 then s1 else setStream k 3 4 s1
      else match decSlot s k with
        | none => s
        | some slot =>
          let s0 := if e.st = 3 && a.rap then setStream k 1 5 s else s
          let cores := j.gang.take (Nat.max 1 p.pieces)
          retireBad cores (fin (coreRuns k cores p.faults (storePicture n j a p [] [] slot s0)))

/-- DECODE_PICTURE_DONE (R293). -/
def execDecodePictureDone (engine : Nat) (p : DecPicture) (s : State) : Res := .next (pictureDone engine p s)

/-! ### Watchdog, stall, meter, refresh -/

/-- ENGINE_WATCHDOG: an access unit not decoded within 4 T_f of its start (R307). The picture as far as it is decoded completes, the stitches
not yet written concealed; of parameters that the stream may not have there is no picture. -/
def engineWatchdog (n : Nat) (p : DecPicture) (s : State) : State :=
  match (engGet s n).job with
  | none => s
  | some j =>
    let k := j.stream
    let e := strGet s k
    if t2Ns s < j.startedAt + 4 * strPeriodNs e then s
    else
      let sec := s.tb.t2.sec.toNat
      let dogs := ((engGet s n).wdogs.filter fun t => sec < t + 60) ++ [sec]
      let left := (stitches { base := 0, fmt := 0, w := p.w, h := p.h }).filter fun q => !p.written.contains q
      let s1 := match e.aus.find? fun a => a.num == j.au, decSlot s k with
        | some a, some slot =>
          if pictureUnsupported e p then decodeError k 5 n a.num 0 s else storePicture n j a p left [5] slot s
        | some a, none => decodeError k 5 n a.num 0 s
        | none, _ => s
      let s2 := engUpd n (fun x => { x with wdogs := dogs }) (endJob j s1)
      if 3 ≤ dogs.length && (engGet s2 n).st = 0 then retireDone n 3 s2 else s2

/-- ENGINE_WATCHDOG (R307). -/
def execEngineWatchdog (t : WatchdogTrip) (s : State) : Res := .next (engineWatchdog t.engine t.picture s)

/-- DECODE_STALL: a ready frame that has waited one T_f for a free surface is reported once (R300). -/
def decodeStall (k : Nat) (s : State) : State :=
  let s0 := auWait k s
  let e := strGet s0 k
  match readyAu e with
  | none => s0
  | some a =>
    match a.waitAt with
    | none => s0
    | some t =>
      if (decSlot s0 k).isNone && !a.stalled && t + strPeriodNs e ≤ t2Ns s then
        raise 0x1D [pack [(31, 24, k)], w32 e.nextFrame]
          (strUpd k (fun x => { x with aus := x.aus.map fun b => if b.num = a.num then { b with stalled := true } else b }) s0)
      else s0

/-- DECODE_STALL (R300). -/
def execDecodeStall (stream : Nat) (s : State) : Res := .next (decodeStall stream s)

/-- A class 0 or 1 stream's meter stands above 105 % of its declaration (R294). -/
def overrate (e : StreamE) : Bool :=
  let r := e.rcd
  recClass r < 2 && (pixelRate (recWidth r) (recHeight r) (leAt r 8 8) * 105 < e.meterPix * 100 ||
    recBitrate r * 1000 * 105 < e.meterBits * 100)

/-- One stream is metered. -/
def overrateOne (s : State) (k : Nat) : State :=
  let e := strGet s k
  if isLive e && e.meterSec == s.tb.t2.sec.toNat && !e.demoted && fmtCoded (strFormat e) && overrate e then
    raise 0x1B [pack [(31, 24, k)], w32 (Nat.max e.meterPix (bitLoad (strFormat e) e.meterBits) / 1000)] (strUpd k (fun x => { x with demoted := true }) s)
  else s

/-- OVERRATE_METER (R294). -/
def execOverrateMeter (s : State) : Res := .next ((List.range 256).foldl overrateOne s)

/-- REFRESH_WANTED: taint has stood for the refresh-wanted time, or a further one (R306). -/
def refreshDue (k : Nat) (s : State) : State :=
  let e := strGet s k
  if e.taintAt.isSome && isLive e && e.refreshAt ≤ t2Ns s then
    refreshWanted k (strUpd k (fun x => { x with refreshAt := x.refreshAt + recRefresh x.rcd * 1000000 }) s)
  else s

/-- REFRESH_WANTED (R306). -/
def execRefreshWanted (stream : Nat) (s : State) : Res := .next (refreshDue stream s)

end Sys2Proof.Machine
end

