-- ==== Sys2Proof/Machine/Layout.lean ====
section
/-! DEFINITION. Canvases, layout banks, loading commands' acceptance and layout commits (R316 to R320, R331, R332, R335, R336,
R340, R348, R353, R359 to R362, R734). -/

namespace Sys2Proof.Machine

/-! ### Canvases and their generators (R734) -/

/-- The block with its composition replaced. -/
def withComp (s : State) (u : CompUnit) : State := { s with comp := u }

/-- Canvas `c`. -/
def canGet (s : State) (c : Nat) : Canvas := tget {} s.comp.canvases c

/-- The block with a canvas replaced, or changed by a function. -/
def canSet (c : Nat) (x : Canvas) (s : State) : State := withComp s { s.comp with canvases := tset c x s.comp.canvases }
def canUpd (c : Nat) (f : Canvas → Canvas) (s : State) : State := canSet c (f (canGet s c)) s

/-- The generator from which a canvas takes its frame numbers. -/
def canvasGen (s : State) (c : Nat) : Option Nat :=
  if 48 ≤ c then (if (canGet s c).set then some (canGet s c).gen else none)
  else match scanners s c with
    | o :: _ => some (orGen (outRec s o))
    | [] => (s.scan.outs.find? fun x => !x.2.rcd.isEmpty && orCanvas x.2.rcd == c).map fun x => orGen x.2.rcd

/-- A generator's frame period as 32.32 ns. -/
def period32 (x : FrameLock) : Nat := if x.num = 0 then 0 else 1000000000 * flDen x * 2 ^ 32 / x.num.toNat

/-- t_line in 32.32 ns (R381). -/
def line32 (x : FrameLock) (vTotal : Nat) : Nat :=
  if x.num.toNat * vTotal = 0 then 0 else 1000000000 * flDen x * 2 ^ 32 / (x.num.toNat * vTotal)

/-- cut(n) of a frame-mode canvas in ns of T0 (R105): the period is rounded down on its own, as the rule says, so that cut(n + 1) may lie
1 ns after D(n) (DEDUCED, log 66). -/
def cutTime (x : FrameLock) (n : Nat) : Nat := displayTime x n - period32 x / 2 ^ 32

/-- D(n, r) (R120). -/
def rowTime (x : FrameLock) (vTotal n r : Nat) : Nat := displayTime x n + 32 * r * line32 x vTotal / 2 ^ 32

/-- cut(n, k) of a chase canvas's stitch row (R113): its display time on the lowest enabled output, less the chase lead. A row above the
viewport takes egress row 0's time; without an enabled output every row takes D(n) (DESIGN CHOICE, log 66). -/
def chaseCut (s : State) (c n k : Nat) (lead : Nat) : Nat :=
  match scanners s c with
  | o :: _ =>
    let r := outRec s o
    rowTime (flGet s (orGen r)) (orVTotal r) n (k - (outViewAt s o n).2 / 32) - lead * 1000
  | [] => match canvasGen s c with
    | some g => displayTime (flGet s g) n - lead * 1000
    | none => 0

/-- The cut that a commit for frame n must precede (R361). -/
def commitCut (s : State) (c n : Nat) : Nat :=
  let x := canGet s c
  if x.chase then chaseCut s c n 0 x.pend.lead
  else match canvasGen s c with
    | some g => cutTime (flGet s g) n
    | none => 0

/-- The pending bank of a canvas is closed to edits: a commit names it, or took effect and is not shown yet (R361, R362). -/
def bankClosed (s : State) (c : Nat) : Bool := commitNames s c || (canGet s c).closed

/-! ### Layer records (Table 08-3) -/

def lrEnable (r : List W32) : Bool := bitOf (wd r 0) 31
def lrZ (r : List W32) : Nat := fld (wd r 0) 21 16
def lrCanvas (r : List W32) : Nat := fld (wd r 0) 15 10
def lrSlot (r : List W32) : Nat := fld (wd r 0) 9 0
def lrStill (r : List W32) : Bool := fld (wd r 1) 31 30 == 1
def lrSource (r : List W32) : Nat := fld (wd r 1) 7 0
def lrSrcX (r : List W32) : Nat := fld (wd r 2) 15 0
def lrSrcY (r : List W32) : Nat := fld (wd r 2) 31 16
def lrSrcW (r : List W32) : Nat := fld (wd r 3) 15 0
def lrSrcH (r : List W32) : Nat := fld (wd r 3) 31 16
def lrDstX (r : List W32) : Int := sext 16 (fld (wd r 4) 15 0)
def lrDstY (r : List W32) : Int := sext 16 (fld (wd r 4) 31 16)
def lrDstW (r : List W32) : Nat := fld (wd r 5) 15 0
def lrDstH (r : List W32) : Nat := fld (wd r 5) 31 16
def lrAlpha (r : List W32) : Nat := fld (wd r 6) 31 24
def lrMode (r : List W32) : Nat := fld (wd r 6) 23 22
def lrBank (r : List W32) : Nat := fld (wd r 6) 21 20
def lrXferEn (r : List W32) : Bool := bitOf (wd r 6) 19
def lrXfer (r : List W32) : Nat := fld (wd r 6) 18 15
def lrColour (r : List W32) : Nat := fld (wd r 6) 14 12
def lrFull (r : List W32) : Bool := bitOf (wd r 6) 11

/-- The stored format of a stream's frames as it stands now; none when it is not open or a baseband stream has stored no frame. -/
def storedFmt (s : State) (k : Nat) : Option Nat :=
  let e := strGet s k
  if e.st = 0 || e.st = 5 then none
  else match e.frames.getLast? with
    | some f => some f.fmt
    | none => if strFormat e = 6 then none else if strFormat e = 4 then some (st20Fmt e.rcd)
      else if strFormat e = 5 then some 4 else some (if recDepth10 e.rcd then 3 else 0)

/-- A place or a size breaks the chroma alignment of a format (R332). -/
def misaligned (fmt x y : Nat) : Bool :=
  let d := chromaDiv fmt
  x % d.1 != 0 || y % d.2 != 0

/-- The first field of a layer record that R332 and Table 08-3 refuse. -/
def layerBad (r : List W32) (s : State) : Option Nat :=
  let scaleBad (d n : Nat) : Bool := d * 16 < n || 32 * n < d
  let fmt := if lrStill r then none else storedFmt s (lrSource r)
  firstOf [
    (1 < fld (wd r 1) 31 30, 4),
    (match fmt with | some f => misaligned f (lrSrcX r) (lrSrcY r) | none => false, 8),
    (lrSrcW r == 0 || lrSrcH r == 0 || (match fmt with | some f => misaligned f (lrSrcW r) (lrSrcH r) | none => false), 12),
    (lrDstW r == 0 || lrDstH r == 0 || scaleBad (lrDstW r) (lrSrcW r) || scaleBad (lrDstH r) (lrSrcH r), 20),
    (lrMode r == 3 || (lrMode r != 0 && !lrStill r) || (lrMode r == 2 && lrXferEn r) || 3 < lrColour r, 24)]

/-- A bank holds a slot with ENABLE 1. -/
def bankHas (b : Bank) (slot : Nat) : Bool :=
  match tfind slot b.layers with
  | some r => lrEnable r
  | none => false

/-- Another canvas holds a slot (R331). -/
def slotHolder (s : State) (c slot : Nat) : Option Nat :=
  (s.comp.canvases.find? fun x => x.1 != c && (bankHas x.2.active slot || bankHas x.2.pend slot)).map Prod.fst

/-- LAYER_SET (R331, R332). -/
def opLayerSet (c : Cmd) (s : State) : State × Reply :=
  let r := wordsOf 16 (padB 64 (crec c))
  let k := lrCanvas r
  checked [
    (!(canGet s k).set, badRecord 0),
    ((layerBad r s).isSome, badRecord ((layerBad r s).getD 0)),
    (bankClosed s k, held 0xFF k),
    (lrEnable r && (slotHolder s k (lrSlot r)).isSome, held 0xFF (lrSlot r))]
    (fun s => (canUpd k (fun x => { x with pend := { x.pend with layers := tset (lrSlot r) r x.pend.layers } }) s, .ok [])) s

/-- LAYER_SET (R331). -/
def execLayerSet (c : Cmd) (s : State) : Res := .next (hostCommand 0x0403 opLayerSet c s)

/-! ### CANVAS_SET and BANK_PARAM_SET -/

/-- A canvas's stitch count, and a buffer's bytes (R317). -/
def canStitches (w h : Nat) : Nat := stitchN w * stitchN h
def bufBytes (w h : Nat) : Nat := 4104 * canStitches w h

/-- A buffer base is aligned and its buffer lies in stitch-interleaved windows (R317, R569). -/
def bufOk (s : State) (a w h : Nat) : Bool := a % 4096 == 0 && stitchInterleaved s.mem a (bufBytes w h)

/-- An enabled encode channel reads a canvas (R320, Table 10-1). -/
def encReads (s : State) (c : Nat) : Bool :=
  s.enc.chans.any fun x => x.2.en && !erView x.2.rcd && erSrc x.2.rcd == c

/-- CANVAS_SET (R316 to R320, R364). -/
def opCanvasSet (c : Cmd) (s : State) : State × Reply :=
  let k := (cw c 2).toNat
  let h := fld (cw c 3) 31 16
  let w := fld (cw c 3) 15 0
  let premul := bitOf (cw c 4) 1
  let chase := bitOf (cw c 4) 0
  let b0 := w64of (cw c 5) (cw c 6)
  let b1 := w64of (cw c 7) (cw c 8)
  let lf := w64of (cw c 9) (cw c 10)
  let fetch := if (cw c 11).toNat = 0 then 200 else (cw c 11).toNat
  let old := canGet s k
  checked [
    (63 < k, badField 8),
    (outside 64 32768 w || w % 2 != 0 || outside 64 16384 h, badField 12),
    ((chase && 48 ≤ k) || (!premul && (old.active.bgAlpha != 3 || old.pend.bgAlpha != 3)), badField 16),
    (!bufOk s b0 w h, badField 20),
    (!bufOk s b1 w h, badField 28),
    (lf != 0 && (48 ≤ k || !bufOk s lf w h), badField 36),
    (outside 20 1000 fetch, badField 44),
    (!(scanners s k).isEmpty || encReads s k || bankClosed s k, held 0xFF k)]
    (fun s =>
      let bank (b : Bank) : Bank := if old.chase != chase then { b with allow := 2, lead := 240 } else b
      (canSet k { old with set := true, w := w, h := h, premul := premul, chase := chase, buf0 := b0, buf1 := b1, life := lf,
                           fetch := fetch, gen := fld (cw c 12) 2 0, active := bank old.active, pend := bank old.pend,
                           job := none, tail := none, last := none, rescan := none, rescanLate := 0, rowLog := [], lives := [] } s, .ok [])) s

/-- CANVAS_SET (R320). -/
def execCanvasSet (c : Cmd) (s : State) : Res := .next (hostCommand 0x0402 opCanvasSet c s)

/-- BANK_PARAM_SET (R151, R319, R359, R364). -/
def opBankParamSet (c : Cmd) (s : State) : State × Reply :=
  let k := (cw c 2).toNat
  let x := canGet s k
  let l := if fld (cw c 3) 6 0 = 0 then 2 else fld (cw c 3) 6 0
  let lead := if (cw c 4).toNat = 0 then 240 else (cw c 4).toNat
  let purl := bitOf (cw c 5) 31
  let life := if fld (cw c 5) 15 0 = 0 then 1000 else fld (cw c 5) 15 0
  let bga := fld (cw c 9) 1 0
  checked [
    (63 < k || !x.set, badField 8),
    (if x.chase then outside 2 64 l else outside 1 8 l, badField 12),
    (x.chase && outside 240 4000 lead, badField 16),
    ((!purl && x.life == 0) || outside 100 10000 life, badField 20),
    (!x.premul && bga != 3, badField 36),
    (bankClosed s k, held 0xFF k)]
    (fun s => (canUpd k (fun x => { x with pend := { x.pend with
        allow := l, lead := if x.chase then lead else x.pend.lead, purl := purl, lifeMs := life, colA := cw c 6, colB := cw c 7,
        bg := cw c 8, bgAlpha := bga } }) s, .ok [])) s

/-- BANK_PARAM_SET (R151). -/
def execBankParamSet (c : Cmd) (s : State) : Res := .next (hostCommand 0x0404 opBankParamSet c s)

/-! ### Loading commands (R335, R336, R348, R353, R535) -/

/-- Some record in an active or pending bank meets a condition, whether ENABLE is 1 or 0. -/
def anyLayer (s : State) (p : List W32 → Bool) : Bool :=
  s.comp.canvases.any fun x => (x.2.active.layers.any fun y => p y.2) || (x.2.pend.layers.any fun y => p y.2)

/-- COEF_LOAD (R348). -/
def opCoefLoad (c : Cmd) (s : State) : State × Reply :=
  let k := (cw c 4).toNat
  checked [
    (63 < k || !(canGet s k).set, badField 16),
    (3 < (cw c 5).toNat, badField 20),
    (bankClosed s k, held 0xFF k)]
    (fun s => (s, .later k [(cw c 5).toNat, (cw c 6).toNat])) s

/-- COEF_LOAD (R348). -/
def execCoefLoad (c : Cmd) (s : State) : Res := .next (hostCommand 0x0405 opCoefLoad c s)

/-- XFER_LOAD (R353). -/
def opXferLoad (c : Cmd) (s : State) : State × Reply :=
  let k := (cw c 4).toNat
  checked [
    (15 < k, badField 16),
    (anyLayer s fun r => lrXferEn r && lrXfer r == k, held 0xFF k)]
    (fun s => (s, .later k [(cw c 6).toNat])) s

/-- XFER_LOAD (R353). -/
def execXferLoad (c : Cmd) (s : State) : Res := .next (hostCommand 0x0406 opXferLoad c s)

/-- STILL_LOAD (R335, R336); the still's surface lies where firmware keeps it (log 3), in a stitch-interleaved window (R569). -/
def opStillLoad (c : Cmd) (s : State) : State × Reply :=
  let k := (cw c 4).toNat
  let h := fld (cw c 5) 31 16
  let w := fld (cw c 5) 15 0
  checked [
    (255 < k, badField 16),
    (outside 1 7680 w || outside 1 4320 h, badField 20),
    (!bufOk s (stillSurf k w h).base w h, badField 16),
    (anyLayer s fun r => lrStill r && lrSource r == k, held 0xFF k)]
    (fun s => (s, .later k [w, h, portInit c.port])) s

/-- STILL_LOAD (R335). -/
def execStillLoad (c : Cmd) (s : State) : Res := .next (hostCommand 0x0407 opStillLoad c s)

/-- Coefficient `i` (a halfword) of an image, sign-extended from 10 bits. -/
def coefAt (image : List Byte) (i : Nat) : Int := sext 10 (leAt image (2 * i) 2)

/-- The halfwords of a coefficient image that R348 refuses, and the phases whose taps do not sum to 256. -/
def coefBad (image : List Byte) : Bool :=
  let half (i : Nat) : Nat := leAt image (2 * i) 2
  let sext_ok (i : Nat) : Bool := half i / 512 == 0 || half i / 512 == 127
  let hsum (p : Nat) : Int := ((List.range 8).map fun t => coefAt image (8 * p + t)).foldl (· + ·) 0
  let vsum (p : Nat) : Int := ((List.range 6).map fun t => coefAt image (512 + 8 * p + t)).foldl (· + ·) 0
  image.length != 2048 ||
    (List.range 64).any fun p =>
      (List.range 8).any (fun t => !sext_ok (8 * p + t)) || (List.range 6).any (fun t => !sext_ok (512 + 8 * p + t)) ||
        half (512 + 8 * p + 6) != 0 || half (512 + 8 * p + 7) != 0 || hsum p != 256 || vsum p != 256

/-- The coefficients of an image: 64 × 8 horizontal, then 64 × 6 vertical. -/
def coefsOf (image : List Byte) : List Int :=
  ((List.range 512).map (coefAt image)) ++
    ((List.range 64).flatMap fun p => (List.range 6).map fun t => coefAt image (512 + 8 * p + t))

/-- The end of a COEF_LOAD's copy. -/
def coefLoaded (k bank crc : Nat) (image : List Byte) (s : State) : State × Reply :=
  checked [(crc32c image != crc, badField 24), (coefBad image, badRecord 0)]
    (fun s => (canUpd k (fun x => { x with pend := { x.pend with coefs := tset bank (coefsOf image) x.pend.coefs } }) s, .ok [])) s

/-- The end of an XFER_LOAD's copy. -/
def xferLoaded (k crc : Nat) (image : List Byte) (s : State) : State × Reply :=
  let vals := (List.range 1024).map fun i => leAt image (2 * i) 2
  checked [(crc32c image != crc || image.length != 2048, badField 24), (vals.any fun v => 65472 < v, badRecord 0)]
    (fun s => (withComp s { s.comp with xfers := tset k vals s.comp.xfers }, .ok [])) s

/-- The end of a STILL_LOAD's copy: pixel slots and tag plane as they come (R335). -/
def stillLoaded (k w h init : Nat) (data : List Byte) (s : State) : State × Reply :=
  let n := bufBytes w h
  let s1 := (busWrite init 23 (n / 4096 + 2) (stillSurf k w h).base (data.take n) s).2
  (withComp s1 { s1.comp with stills := tset k { w := w, h := h } s1.comp.stills }, .ok [])

/-! ### Capacity (R340) -/

/-- The largest size of a layer's source. -/
def sourceMax (s : State) (r : List W32) : Nat × Nat :=
  if lrStill r then
    match tfind (lrSource r) s.comp.stills with
    | some x => (x.w, x.h)
    | none => (7680, 4320)
  else
    let e := strGet s (lrSource r)
    if e.st = 0 || e.st = 5 || strFormat e = 6 then (7680, 4320) else (recWidth e.rcd, recHeight e.rcd)

/-- A canvas's frame rate in 1/1000 Hz. -/
def canRate (s : State) (c : Nat) : Nat :=
  match canvasGen s c with
  | some g => let x := flGet s g; x.num.toNat * 1000 / flDen x
  | none => 0

/-- The layers of a bank that take part. -/
def bankLayers (b : Bank) : List (List W32) := (b.layers.map Prod.snd).filter lrEnable

/-- Stitches of an extent from `a` (signed) of length `n`, clipped to a limit: first and one past the last. -/
def stitchSpan (a : Int) (n limit : Nat) : Nat × Nat :=
  let lo := (clampI 0 limit a).toNat
  let hi := (clampI 0 limit (a + n)).toNat
  if lo < hi then (lo / 32, (hi + 31) / 32) else (0, 0)

/-- A layer contributes to a canvas stitch (R100). -/
def contributes (x : Canvas) (r : List W32) (sx sy : Nat) : Bool :=
  let (x0, x1) := stitchSpan (lrDstX r) (lrDstW r) x.w
  let (y0, y1) := stitchSpan (lrDstY r) (lrDstH r) x.h
  lrEnable r && lrAlpha r != 0 && x0 ≤ sx && sx < x1 && y0 ≤ sy && sy < y1

/-- The composition load of a canvas under a bank, in pixels per frame (Table 08-4). -/
def composeLoad (x : Canvas) (b : Bank) : Nat :=
  let extra := (stitches { base := 0, fmt := 7, w := x.w, h := x.h }).map fun p =>
    let n := ((bankLayers b).filter fun r => contributes x r p.1 p.2).length
    if 16 < n then (ceilDiv n 16 - 1) * (stitchExt x.w p.1 * stitchExt x.h p.2) else 0
  x.w * x.h + sumL extra

/-- The fetch load of a layer, in pixels per canvas frame (Table 08-4). -/
def fetchLoad (s : State) (x : Canvas) (r : List W32) : Nat :=
  let (mw, mh) := sourceMax s r
  let (a, b) := stitchSpan (lrSrcX r) (lrSrcW r) mw
  let (c, d) := stitchSpan (lrSrcY r) (lrSrcH r) mh
  let (e, f) := stitchSpan (lrDstY r) (lrDstH r) x.h
  1024 * (b - a) * Nat.max (d - c) (f - e)

/-- The loads with the named canvases' pending banks in place fit (R340). -/
def capacityOk (s : State) (mask : W64) : Bool :=
  let cs := s.comp.canvases.filter fun c => c.2.set
  let bank (c : Nat × Canvas) : Bank := if mask.getLsbD c.1 then c.2.pend else c.2.active
  let comp := cs.map fun c => composeLoad c.2 (bank c) * canRate s c.1
  let fetch := cs.map fun c => sumL ((bankLayers (bank c)).map (fetchLoad s c.2)) * canRate s c.1
  sumL comp ≤ 24000000000 * 1000 && sumL fetch ≤ 36000000000 * 1000

/-! ### LAYOUT_COMMIT and LAYOUT_CANCEL -/

/-- The canvases that a mask names. -/
def canvasesOf (m : W64) : List Nat := (List.range 64).filter fun c => m.getLsbD c

/-- A pending bank breaks its own rules: more than 64 slots, shared stacking values, a record of R332, a chase rule of R116. -/
def bankBad (s : State) (c : Nat) : Bool :=
  let x := canGet s c
  let rs := bankLayers x.pend
  let zs := rs.map lrZ
  let live (r : List W32) : Bool :=
    let e := strGet s (lrSource r)
    !lrStill r && e.st != 0 && (strFormat e == 4 || strFormat e == 6)
  64 < rs.length || !zs.Nodup || (rs.any fun r => (layerBad r s).isSome) ||
    (x.chase && ((rs.any fun r => !live r) ||
      ((scanners s c).any fun o => (outView s o).2 % 32 != 0 || (outView s o).2 != (outView s ((scanners s c).headD 0)).2)))

/-- A slot that two canvases would hold. -/
def slotClash (s : State) (cs : List Nat) : Option Nat :=
  (cs.flatMap fun c => ((canGet s c).pend.layers.filter fun y => lrEnable y.2 && (slotHolder s c y.1).isSome).map Prod.fst).head?

/-- LAYOUT_COMMIT (R340, R360, R361, R734); the encode channels are assigned anew (R429). -/
def opLayoutCommit (c : Cmd) (s : State) : State × Reply :=
  let mask : W64 := BitVec.ofNat 64 (w64of (cw c 2) (cw c 3))
  let cs := canvasesOf mask
  let gens := cs.map (canvasGen s)
  let g := gens.headD none
  let n := frameNamed (flGet s (g.getD 0)) (cw c 4)
  let busy := cs.find? (bankClosed s)
  let clash := slotClash s cs
  let now := t0Ns s
  checked [
    (cs.isEmpty, badField 8),
    (cs.any fun k => !(canGet s k).set, badField (if cs.any fun k => k < 32 && !(canGet s k).set then 8 else 12)),
    (g.isNone || gens.any (fun x => x != g), badField 8),
    (cs.any (bankBad s), badRule 0),
    (busy.isSome, held 0xFF (busy.getD 0)),
    (clash.isSome, held 0xFF (clash.getD 0)),
    (64 < tallyCount (ledgerLatest s) mask s, held 0xFF 64),
    (!capacityOk s mask, overCap),
    (n + 1 < (flGet s (g.getD 0)).next || cs.any (fun k => commitCut s k n < now + 2000000), tooLate)]
    (fun s =>
      let k : Commit := { mask := mask, frame := n, id := cw c 5, gen := g.getD 0 }
      (encAssign none (withComp s { s.comp with commits := s.comp.commits ++ [k] }), .ok [])) s

/-- LAYOUT_CANCEL (R361). -/
def opLayoutCancel (c : Cmd) (s : State) : State × Reply :=
  let mine := s.comp.commits.find? fun k => !k.applied && k.id == cw c 5
  match mine with
  | none => (s, badField 20)
  | some k =>
    if (canvasesOf k.mask).any fun x => commitCut s x k.frame < t0Ns s + 2000000 then (s, tooLate)
    else (withComp s { s.comp with commits := s.comp.commits.erase k }, .ok [])

/-- LAYOUT_CANCEL (R361). -/
def execLayoutCancel (c : Cmd) (s : State) : Res := .next (hostCommand 0x0409 opLayoutCancel c s)

end Sys2Proof.Machine
end

