-- ==== Sys2Proof/Machine/Pixels.lean ====
section
/-! DEFINITION. The pixel arithmetic: polyphase scaling (R342 to R349), colour (R350 to R353), blending (R354 to R358), the stale
treatment and test overlay (R126 to R131), the swatch (R388), and packing for the link (R384 to R386, R91). Colours are triples
R, G, B. -/

namespace Sys2Proof.Machine

/-- A limit of the 10.6 values. -/
def lim106 (x : Int) : Nat := (clampI 0 65472 x).toNat

/-! ### Scaling -/

/-- Position and phase of a destination coordinate (R342): `floor(num / den)` and the phase from 0 to 63. -/
def tapAt (num den : Int) : Int × Nat :=
  let i := num / den
  (i, (64 * (num - i * den) / den).toNat)

/-- Horizontal position of destination column `x` on a plane whose horizontal divisor is `d` (R342, R345). -/
def tapX (x ws wd d : Nat) : Int × Nat := tapAt (((2 * x + 1) * ws : Nat) - (wd : Int)) (2 * wd * d : Nat)

/-- Vertical position of destination row `y` on a plane whose vertical divisor is `d` (R342, R345). -/
def tapY (y hs hd d : Nat) : Int × Nat := tapAt (((2 * y + 1) * hs : Nat) - (d * hd : Nat)) (2 * hd * d : Nat)

/-- Tap `t` of the horizontal filter at a phase: the built-in linear filter (R349), or a loaded bank's. -/
def coefH (bank : Option (List Int)) (p t : Nat) : Int :=
  match bank with
  | some c => c.getD (8 * p + t) 0
  | none => if t = 3 then 256 - 4 * p else if t = 4 then 4 * p else 0

/-- Tap `t` of the vertical filter at a phase. -/
def coefV (bank : Option (List Int)) (p t : Nat) : Int :=
  match bank with
  | some c => c.getD (512 + 6 * p + t) 0
  | none => if t = 2 then 256 - 4 * p else if t = 3 then 4 * p else 0

/-- Tap `t` of the vertical filter of a tally layer: the outer taps folded into their neighbours (R170). -/
def coefVTally (bank : Option (List Int)) (p t : Nat) : Int :=
  match t with
  | 1 => coefV bank p 1 + coefV bank p 0
  | 2 => coefV bank p 2
  | 3 => coefV bank p 3
  | 4 => coefV bank p 4 + coefV bank p 5
  | _ => 0

/-- A sum of integers. -/
def sumI (l : List Int) : Int := l.foldl (· + ·) 0

/-- The vertical filter's rounding (R344). -/
def roundV (x : Int) : Int := clampI (-32768) 32767 ((x + 4) / 8)

/-- The horizontal filter's rounding (R344). -/
def roundH (x : Int) : Nat := lim106 ((x + 64) / 128)

/-- One component of one pixel, filtered vertically and then horizontally (R344). `src` gives a 10-bit code at a column and row
relative to the source rectangle, clamped as R333 says. -/
def filterAt (cH cV : Nat → Int) (px py : Int) (src : Int → Int → Nat) : Nat :=
  roundH (sumI ((List.range 8).map fun t =>
    cH t * roundV (sumI ((List.range 6).map fun u => cV u * (src (px - 3 + t) (py - 2 + u) : Int)))))

/-! ### Colour -/

/-- The constants cy, crv, cgu, cgv, cbu of Table 08-6: standard 1 BT.601, 2 BT.709, 3 BT.2020. -/
def yccConst (std : Nat) (full : Bool) : Int × Int × Int × Int × Int :=
  match std, full with
  | 1, false => (4783, 6557, 1609, 3340, 8287)
  | 1, true => (4096, 5743, 1410, 2925, 7258)
  | 3, false => (4783, 6896, 770, 2672, 8798)
  | 3, true => (4096, 6040, 674, 2340, 7706)
  | _, false => (4783, 7365, 876, 2189, 8678)
  | _, true => (4096, 6450, 767, 1917, 7601)

/-- YCbCr to RGB in 10.6 (R351). -/
def yccToRgb (std : Nat) (full : Bool) (y cb cr : Nat) : Nat × Nat × Nat :=
  let (cy, crv, cgu, cgv, cbu) := yccConst std full
  let l : Int := cy * ((y : Int) - (if full then 0 else 4096))
  let u : Int := (cb : Int) - 32768
  let v : Int := (cr : Int) - 32768
  (lim106 ((l + crv * v + 2048) / 4096), lim106 ((l - cgu * u - cgv * v + 2048) / 4096), lim106 ((l + cbu * u + 2048) / 4096))

/-- A narrow-range RGB component brought to full range (R352). -/
def rgbWiden (v : Nat) : Nat := lim106 ((4783 * ((v : Int) - 4096) + 2048) / 4096)

/-- A component through a transfer table (R353). -/
def transfer (t : List Nat) (v : Nat) : Nat :=
  let i := v / 64
  let f := v % 64
  (t.getD i (64 * i) * (64 - f) + t.getD (Nat.min (i + 1) 1023) (64 * Nat.min (i + 1) 1023) * f + 32) / 64

/-! ### Blending -/

/-- An accumulated pixel: colour in 10.6, coverage from 0 to 256. -/
structure Acc where
  r : Nat
  g : Nat
  b : Nat
  a : Nat
deriving DecidableEq, Repr

/-- Coverage of a 2-bit alpha (R338). -/
def alpha4 (n : Nat) : Nat := match n with | 0 => 0 | 1 => 85 | 2 => 171 | _ => 256

/-- The combined alpha A of R354. -/
def alphaA (pa la : Nat) : Nat :=
  let t := pa * la + 128
  let a8 := (t + t / 256) / 256
  a8 + a8 / 128

/-- L of R354. -/
def alphaL (la : Nat) : Nat := la + la / 128

/-- One pixel blended into the accumulator (R355 to R357). -/
def blend (premul : Bool) (pa la : Nat) (s : Nat × Nat × Nat) (d : Acc) : Acc :=
  let A := alphaA pa la
  let one (x y : Nat) : Nat :=
    if premul then Nat.min ((x * alphaL la + y * (256 - A) + 128) / 256) 65472 else (x * A + y * (256 - A) + 128) / 256
  { r := one s.1 d.r, g := one s.2.1 d.g, b := one s.2.2 d.b, a := A + (d.a * (256 - A) + 128) / 256 }

/-- A rounded 10-bit component (R358). -/
def round106 (d : Nat) : Nat := Nat.min 1023 ((d + 32) / 64)

/-- A canvas pixel as its ARGB2101010 word (R358). -/
def accWord (p : Acc) : Nat :=
  (p.a * 3 + 128) / 256 * 2 ^ 30 + round106 p.r * 2 ^ 20 + round106 p.g * 2 ^ 10 + round106 p.b

/-- The accumulator that a stored pixel gives at a pass boundary (R338, R339). -/
def accOf (w : Nat) : Acc :=
  { r := 64 * fldN w 29 20, g := 64 * fldN w 19 10, b := 64 * fldN w 9 0, a := alpha4 (fldN w 31 30) }

/-! ### The treatment -/

/-- A 10-bit colour word: R [29:20], G [19:10], B [9:0]. -/
def rgbOf (w : Nat) : Nat × Nat × Nat := (fldN w 29 20, fldN w 19 10, fldN w 9 0)

/-- Canvas pixel `(cx, cy)` of full purl, or of purl over a lifeline pixel (R127, R129). -/
def purlAt (colA colB : Nat × Nat × Nat) (life : Option (Nat × Nat × Nat)) (cx cy : Nat) : Nat × Nat × Nat :=
  if (cx + cy) % 16 < 8 then colA
  else match life with
    | some v => ((v.1 + 2) / 4, (v.2.1 + 2) / 4, (v.2.2 + 2) / 4)
    | none => colB

/-- The test overlay over a pixel (R131). -/
def testAt (col px : Nat × Nat × Nat) (cx cy : Nat) : Nat × Nat × Nat :=
  let ring (v : Nat) : Bool := v % 32 < 4 || 27 < v % 32
  if (ring cx || ring cy) && (cx / 4 + cy / 4) % 2 == 0 then col else px

/-- The full-range primaries and their mixes, left to right: white, yellow, cyan, green, magenta, red, blue, black. -/
def barAt (i : Nat) : Nat × Nat × Nat :=
  let on (b : Bool) : Nat := if b then 1023 else 0
  (on (i ∈ [0, 1, 4, 5]), on (i ∈ [0, 1, 2, 3]), on (i ∈ [0, 2, 4, 6]))

/-- Pixel `(x, y)` of a swatch pattern on an output of width `w` (R388). -/
def swatchAt (pattern w x y : Nat) : Nat × Nat × Nat :=
  match pattern with
  | 0 => barAt (x * 8 / w)
  | 1 => (x % 1024, x % 1024, x % 1024)
  | 2 => if x % 32 = 0 || y % 32 = 0 then (1023, 1023, 1023) else (0, 0, 0)
  | _ => let g := (x / 32 * 7 + y / 32 * 13) % 1024; (g, g, g)

/-! ### Link packing -/

/-- The constants of Table 09-4: rows a, b, c. -/
def rgbYcc (full : Bool) : List (Int × Int × Int) :=
  if full then [(871, 2929, 296), (-469, -1579, 2048), (2048, -1860, -188)]
  else [(746, 2509, 253), (-411, -1383, 1794), (1794, -1629, -165)]

/-- A canvas pixel converted to the link's components (R384): R, G, B or Y, Cb, Cr. -/
def linkPixel (ycc narrow : Bool) (p : Nat × Nat × Nat) : Nat × Nat × Nat :=
  if !ycc then
    if narrow then
      let f (v : Nat) : Nat := 64 + (3507 * v + 2048) / 4096
      (f p.1, f p.2.1, f p.2.2)
    else p
  else
    let m := rgbYcc (!narrow)
    let dot (k : Int × Int × Int) : Int := (k.1 * p.1 + k.2.1 * p.2.1 + k.2.2 * p.2.2 + 2048) / 4096
    let c (i : Nat) (o : Int) : Nat := (clampI 0 1023 (dot (m.getD i (0, 0, 0)) + o)).toNat
    (c 0 (if narrow then 64 else 0), c 1 512, c 2 512)

/-- A 10-bit component at 8 bits (R386). -/
def to8 (dither : Bool) (x y v : Nat) : Nat :=
  let d := if y % 2 = 0 then (if x % 2 = 0 then 0 else 2) else (if x % 2 = 0 then 3 else 1)
  if dither then Nat.min 255 ((v + d) / 4) else Nat.min 255 ((v + 2) / 4)

/-- The component stream of a run of pixels of one line, the first at raster position `(x0, y)`: components in Table 02-10's
order (R91, R384 to R386). -/
def lineComps (format : Nat) (ten narrow dither : Bool) (x0 y : Nat) (ps : List (Nat × Nat × Nat)) : List Nat :=
  let q (x v : Nat) : Nat := if ten then v else to8 dither x y v
  let cs := ps.map (linkPixel (format != 0) narrow)
  if format = 2 then
    (List.range (cs.length / 2)).flatMap fun i =>
      let l := cs.getD (2 * i) (0, 0, 0)
      let r := cs.getD (2 * i + 1) (0, 0, 0)
      let x := x0 + 2 * i
      [q x ((l.2.1 + r.2.1 + 1) / 2), q x l.1, q x ((l.2.2 + r.2.2 + 1) / 2), q (x + 1) r.1]
  else
    (List.range cs.length).flatMap fun i =>
      let c := cs.getD i (0, 0, 0)
      [q (x0 + i) c.1, q (x0 + i) c.2.1, q (x0 + i) c.2.2]

/-- The bytes of a line of components, least significant bit first, padded with zero bits (R91). -/
def packComps (bits : Nat) (cs : List Nat) : List Byte :=
  let v := (List.range cs.length).foldl (fun acc i => acc + (cs.getD i 0 % 2 ^ bits) * 2 ^ (bits * i)) 0
  bytesLE (ceilDiv (bits * cs.length) 8) v

end Sys2Proof.Machine
end

