-- ==== Sys2Proof/Machine/Compose.lean ====
section
/-! DEFINITION. Composition (R100 to R116, R134, R138, R333 to R339, R362 to R370): cuts, source selection, canvas stitches and
their tags, deadlines, underruns. -/

namespace Sys2Proof.Machine

/-! ### What a layer reads -/

/-- A layer as a canvas frame reads it: its record, its surface (none: NO_SOURCE), whether it is a still, its stream or still
number, the frame, its origin and flags, its colour standard and range, whether its tally is on. -/
structure LayerSrc where
  rcd : List W32
  still : Bool
  id : Nat
  surf : Option Surf := none
  frame : Option Nat := none
  origin : Option Nat := none
  flags : Nat := 0
  std : Nat := 2
  full : Bool := false
  narrowRgb : Bool := false
  tally : Bool := false
deriving DecidableEq, Repr

/-- The part of the source rectangle inside a source of this size (R333): columns and rows, first and one past the last. -/
def srcPart (r : List W32) (w h : Nat) : Nat × Nat × Nat × Nat :=
  (lrSrcX r, lrSrcY r, Nat.min (lrSrcX r + lrSrcW r) w, Nat.min (lrSrcY r + lrSrcH r) h)

/-- The part is empty. -/
def partEmpty (r : List W32) (w h : Nat) : Bool :=
  let (a, b, c, d) := srcPart r w h
  c ≤ a || d ≤ b

/-- The colour standard and range of a layer's source (R350). -/
def srcColour (r : List W32) (e : StreamE) (f : SrcFrame) : Nat × Bool :=
  if lrColour r != 0 then (lrColour r, lrFull r)
  else if strFormat e = 3 then (1, true)
  else if strFormat e = 4 || strFormat e = 5 then
    if recColour e.rcd = 0 then (2, false) else (recColour e.rcd, recFull e.rcd)
  else if f.colour = 0 then (2, false) else (f.colour, f.full)

/-- The frame of a stream by its number: one recorded, or on a chase canvas one under reception (R114). -/
def frameNumbered (s : State) (e : StreamE) (n : Nat) : Option SrcFrame :=
  match e.frames.find? fun f => f.num == n with
  | some f => some f
  | none => (e.opens.find? fun u => u.num == n && u.slot.isSome).map fun u =>
      { openFrame u (u.slot.getD 0) with gen := genFor s.comp.ledger.gens u.origin }

/-- A layer with the source frame chosen for it (R332, R333). -/
def layerSrc (s : State) (r : List W32) (frame : Option Nat) : LayerSrc :=
  let k := lrSource r
  let none_ : LayerSrc := { rcd := r, still := lrStill r, id := k }
  if lrStill r then
    match tfind k s.comp.stills with
    | some st =>
      if partEmpty r st.w st.h then none_
      else { none_ with surf := some (stillSurf k st.w st.h), full := true }
    | none => none_
  else
    let e := strGet s k
    match frame.bind (frameNumbered s e) with
    | some f =>
      if e.st = 0 || e.st = 5 || partEmpty r f.w f.h || misaligned f.fmt (lrSrcX r) (lrSrcY r) || misaligned f.fmt (lrSrcW r) (lrSrcH r) then none_
      else
        let (std, full) := srcColour r e f
        { none_ with surf := some (streamSurf k f.slot f.fmt f.w f.h), frame := some f.num, origin := some f.origin,
                     flags := f.flags, std := std, full := full, narrowRgb := f.narrowRgb, tally := tallyOf (genTable s f.gen) k }
    | none => none_

/-! ### Selection (R107 to R109, R112, R114) -/

/-- A source frame that selection may want: its number, its origin, its line period, whether it is complete, its format and size, and
whether its tally is on. -/
structure Candidate where
  num : Nat
  origin : Nat
  tsrc : Nat
  complete : Bool
  fmt : Nat := 4
  w : Nat := 0
  h : Nat := 0
  tally : Bool := false
deriving DecidableEq, Repr

/-- A frame record as a candidate. -/
def asCandidate (s : State) (k : Nat) (f : SrcFrame) (complete : Bool) : Candidate :=
  { num := f.num, origin := f.origin, tsrc := f.tsrc, complete := complete, fmt := f.fmt, w := f.w, h := f.h,
    tally := tallyOf (genTable s f.gen) k }

/-- The frames of a stream, complete or known to be coming (R108, R109, R114). -/
def candidates (s : State) (k : Nat) : List Candidate :=
  let e := strGet s k
  if e.st = 0 || e.st = 5 then []
  else
    let done := e.frames.map fun f => asCandidate s k f true
    let last := (e.frames.getLast?.map fun f => f.origin).getD 0
    let known (o : Nat) : Bool := e.frames.any fun f => f.origin == o
    let coming (os : List Nat) : List Candidate :=
      (os.filter fun o => !known o).map fun o => { num := 0, origin := o, tsrc := recLine e.rcd, complete := false }
    let opens := (e.opens.filter fun u => !u.dropped && !known u.origin).map fun u =>
      asCandidate s k { openFrame u (u.slot.getD 0) with gen := genFor s.comp.ledger.gens u.origin } false
    done ++ opens ++ coming (e.aus.map fun a => a.origin) ++ coming ((e.pics.filter fun p => last < p.origin).map fun p => p.origin)

/-- The candidate with the latest origin among those that are ready. -/
def latest (ready : Candidate → Bool) : List Candidate → Option Candidate
  | [] => none
  | c :: cs =>
    match latest ready cs with
    | some d => if ready c && d.origin < c.origin then some c else some d
    | none => if ready c then some c else none

/-- The frame a layer uses, the wanted one where an older one takes its place, and their distance in µs (R108, R109); `here` says whether
what the layer reads of a frame has been written. -/
def choose (ready here : Candidate → Bool) (cs : List Candidate) : Option Nat × Option Nat × Nat :=
  match latest ready cs with
  | none => (none, none, 0)
  | some w =>
    if here w then (some w.num, none, 0)
    else match latest (fun c => here c && decide (c.origin < w.origin)) cs with
      | some o => (some o.num, some w.num, (w.origin - o.origin) / 1000)
      | none => (none, none, 0)

/-- Ready by R107 at a frame-mode cut. -/
def readyFrame (per allow cut : Nat) (c : Candidate) : Bool := c.origin + allow * per / 2 ^ 32 ≤ cut

/-- Ready by R112 and R114 at a chase row's cut: the last source stitch row of the footprint decides. -/
def readyChase (tline allow cut row : Nat) (c : Candidate) : Bool :=
  c.origin + 32 * row * c.tsrc / 2 ^ 32 + allow * 32 * tline / 2 ^ 32 ≤ cut

/-- Destination rows of a layer that lie in a canvas stitch row: first and one past the last, from the destination's top. -/
def dstRows (x : Canvas) (r : List W32) (k : Nat) : Nat × Nat :=
  let lo : Int := (32 * k : Nat) - lrDstY r
  let hi : Int := (Nat.min (32 * k + 32) x.h : Nat) - lrDstY r
  ((clampI 0 (lrDstH r) lo).toNat, (clampI 0 (lrDstH r) hi).toNat)

/-- Destination columns of a layer that lie in a canvas stitch column. -/
def dstCols (x : Canvas) (r : List W32) (k : Nat) : Nat × Nat :=
  let lo : Int := (32 * k : Nat) - lrDstX r
  let hi : Int := (Nat.min (32 * k + 32) x.w : Nat) - lrDstX r
  ((clampI 0 (lrDstW r) lo).toNat, (clampI 0 (lrDstW r) hi).toNat)

/-! ### Footprints (R83, R333, R346) -/

/-- Source columns (or rows) of a plane that an extent of destination positions reads: first and last, clamped. `a` and `b` are
the first and last tap offsets. -/
def planeSpan (pos : Nat → Int × Nat) (d0 d1 : Nat) (a b : Int) (src lo hi d : Nat) : Nat × Nat :=
  let c (v : Int) : Nat := (clampI (lo / d : Nat) ((hi - 1) / d : Nat) ((src / d : Nat) + v)).toNat
  (c ((pos d0).1 + a), c ((pos (d1 - 1)).1 + b))

/-- Source stitches along one axis that an extent of destination positions reads, first and last; `ds` are the divisors of the
planes. -/
def axisSpan (posOf : Nat → Nat → Int × Nat) (ds : List Nat) (d0 d1 : Nat) (a b : Int) (src lo hi : Nat) : Nat × Nat :=
  let spans := ds.map fun d => let (x, y) := planeSpan (posOf d) d0 d1 a b src lo hi d; (x * d / 32, y * d / 32)
  (spans.foldl (fun m x => Nat.min m x.1) ((spans.headD (0, 0)).1), spans.foldl (fun m x => Nat.max m x.2) 0)

/-- The divisors of a format's planes along one axis. -/
def divisors (fmt : Nat) (vertical : Bool) : List Nat :=
  let d := chromaDiv fmt
  if isPlanar fmt then [1, if vertical then d.2 else d.1] else [1]

/-- Source stitch rows that a layer reads for a canvas stitch row: first and last. -/
def footRows (x : Canvas) (r : List W32) (f : Surf) (tally : Bool) (k : Nat) : Nat × Nat :=
  let (y0, y1) := dstRows x r k
  let (_, iy0, _, iy1) := srcPart r f.w f.h
  axisSpan (fun d y => tapY y (lrSrcH r) (lrDstH r) d) (divisors f.fmt true) y0 y1
    (if tally then -1 else -2) (if tally then 2 else 3) (lrSrcY r) iy0 iy1

/-- Source stitch columns that a layer reads for a canvas stitch column: first and last. -/
def footCols (x : Canvas) (r : List W32) (f : Surf) (k : Nat) : Nat × Nat :=
  let (x0, x1) := dstCols x r k
  let (ix0, _, ix1, _) := srcPart r f.w f.h
  axisSpan (fun d v => tapX v (lrSrcW r) (lrDstW r) d) (divisors f.fmt false) x0 x1 (-3) 4 (lrSrcX r) ix0 ix1

/-- A range of numbers, both ends included. -/
def upTo (a b : Nat) : List Nat := (List.range (b + 1 - a)).map fun i => a + i

/-! ### Fetching -/

/-- A source stitch as fetched: its payload (free bytes where it failed), its tag, whether it verified, the check kind of its failure. -/
structure Cell where
  sx : Nat
  sy : Nat
  bytes : List Byte
  tag : Nat
  ok : Bool
  kind : Nat := 1
deriving DecidableEq, Repr

/-- The memory ports of the compositor for a canvas: reading and writing (Table 14-4). -/
def icRead (c : Nat) : Nat := 5 + c % 4
def icWrite (c : Nat) : Nat := 9 + c % 2

/-- The payload of a stitch that failed verification: free bytes. -/
def freeBytes (n : Nat) (s : State) : List Byte × State :=
  ((List.range n).map (Config.freeByte s.free), { s with free := s.free + 1 })

/-- One source stitch fetched and verified by INT_FETCH (R69 to R71). -/
def fetchCell (us : List StageFault) (port : Nat) (f : Surf) (p : Nat × Nat) (s : State) : Cell × State :=
  let tag := rawTag 14 port f p.1 p.2 s
  let (r, s1) := fetchStitch 0x20 us 14 port f p.1 p.2 s
  if r.tag.isSome then ({ sx := p.1, sy := p.2, bytes := r.bytes, tag := tag, ok := true }, s1)
  else
    let (fb, s2) := freeBytes r.bytes.length s1
    ({ sx := p.1, sy := p.2, bytes := fb, tag := tag, ok := false, kind := r.kind }, s2)

/-- Source stitches fetched in order. -/
def fetchCells (us : List StageFault) (port : Nat) (f : Surf) : List (Nat × Nat) → State → List Cell × State
  | [], s => ([], s)
  | p :: ps, s =>
    let (c, s1) := fetchCell us port f p s
    let (cs, s2) := fetchCells us port f ps s1
    (c :: cs, s2)

/-! ### Layer pixels -/

/-- The value of one sample in 10-bit codes at column and row `cx`, `cy` of its plane (component 3: the alpha of a still, R347),
with the tally marker replaced (R167). -/
def srcSample (l : LayerSrc) (f : Surf) (cells : List Cell) (p cx cy : Nat) : Nat :=
  let d := if isPlanar f.fmt && p != 0 then chromaDiv f.fmt else (1, 1)
  let x := if l.tally && lrSrcW l.rcd ≤ lrDstW l.rcd && cy * d.2 < 2 && cx < 8 / d.1 then 8 / d.1 else cx
  let sx := x * d.1 / 32
  let sy := cy * d.2 / 32
  match cells.find? fun c => c.sx == sx && c.sy == sy with
  | some c =>
    let ix := x - 32 * sx / d.1
    let iy := cy - 32 * sy / d.2
    if p = 3 then (match alphaOf c.bytes f.w f.h sx sy ix iy with | 0 => 0 | 1 => 341 | 2 => 682 | _ => 1023)
    else
      let v := sampleOf c.bytes f.fmt f.w f.h sx sy p ix iy
      if isTenBit f.fmt then v else 4 * v
  | none => 0

/-- One filtered component at destination pixel `(x, y)` (R342 to R347, R170). -/
def layerComp (l : LayerSrc) (f : Surf) (bank : Option (List Int)) (cells : List Cell) (p x y : Nat) : Nat :=
  let r := l.rcd
  let d := if isPlanar f.fmt && p != 0 && p != 3 then chromaDiv f.fmt else (1, 1)
  let (ix0, iy0, ix1, iy1) := srcPart r f.w f.h
  let (px, hx) := tapX x (lrSrcW r) (lrDstW r) d.1
  let (py, hy) := tapY y (lrSrcH r) (lrDstH r) d.2
  filterAt (coefH bank hx) (if l.tally then coefVTally bank hy else coefV bank hy) px py fun cx cy =>
    srcSample l f cells p (clampI (ix0 / d.1 : Nat) ((ix1 - 1) / d.1 : Nat) ((lrSrcX r / d.1 : Nat) + cx)).toNat
      (clampI (iy0 / d.2 : Nat) ((iy1 - 1) / d.2 : Nat) ((lrSrcY r / d.2 : Nat) + cy)).toNat

/-- A layer's pixel: its canvas colour in 10.6 and its pixel alpha (R347, R350 to R353). -/
def layerPixel (s : State) (l : LayerSrc) (f : Surf) (bank : Option (List Int)) (cells : List Cell) (x y : Nat) :
    (Nat × Nat × Nat) × Nat :=
  let c (p : Nat) : Nat := layerComp l f bank cells p x y
  let rgb :=
    if isPlanar f.fmt then yccToRgb l.std l.full (c 0) (c 1) (c 2)
    else if l.narrowRgb then (rgbWiden (c 0), rgbWiden (c 1), rgbWiden (c 2)) else (c 0, c 1, c 2)
  let t := (tfind (lrXfer l.rcd) s.comp.xfers).getD []
  let out := if lrXferEn l.rcd then (transfer t rgb.1, transfer t rgb.2.1, transfer t rgb.2.2) else rgb
  (out, if l.still && lrMode l.rcd != 0 then c 3 / 256 else 255)

/-! ### Canvas stitches (R338, R339) -/

/-- The surface of a canvas buffer, and of its lifeline buffer (R317). -/
def canSurf (x : Canvas) (buf : Nat) : Surf := { base := if buf = 0 then x.buf0 else x.buf1, fmt := 7, w := x.w, h := x.h }
def lifeSurf (x : Canvas) : Surf := { base := x.life, fmt := 7, w := x.w, h := x.h }

/-- What the composition of a row works with: the canvas number, the canvas, its bank, the frame, its layers in ascending Z and
the failures detected in the work. -/
structure ComposeCtx where
  c : Nat
  x : Canvas
  bank : Bank
  cutFull : Nat
  buf : Nat
  under : Tab (Nat × Nat)
  layers : List LayerSrc
  faults : List StageFault
deriving DecidableEq, Repr

/-- A canvas stitch in the making: its pixels in raster order, flags and smallest due offset; the failures of its own arithmetic
(stage, kind); the layers whose arithmetic has failed in this row (slot, stage, kind); all failures found. -/
structure StitchWork where
  st : State
  pix : List Acc := []
  flags : Nat := 0
  best : Nat := 2 ^ 18
  own : List (Nat × Nat) := []
  broken : List (Nat × Nat × Nat) := []
  fails : List CompFail := []
deriving DecidableEq, Repr

/-- The due offset of a source stitch (R101): stills add none (R336). -/
def dueOffset (cutFull : Nat) (l : LayerSrc) (tag : Nat) : Nat :=
  match l.origin with
  | some o => let d := dueFull o (tagDue tag); if d ≤ cutFull then 0 else Nat.min (d - cutFull) (2 ^ 18)
  | none => 2 ^ 18

/-- The pixels of a canvas stitch with a layer blended in (R334, R338). -/
def blendLayer (g : ComposeCtx) (s : State) (l : LayerSrc) (f : Surf) (cells : List Cell) (sx sy : Nat) (pix : List Acc) :
    List Acc :=
  let w := stitchExt g.x.w sx
  (List.range pix.length).map fun i =>
    let d := pix.getD i ⟨0, 0, 0, 0⟩
    let x : Int := (32 * sx + i % w : Nat) - lrDstX l.rcd
    let y : Int := (32 * sy + i / w : Nat) - lrDstY l.rcd
    if 0 ≤ x && x < lrDstW l.rcd && 0 ≤ y && y < lrDstH l.rcd then
      let (rgb, pa) := layerPixel s l f (tfind (lrBank l.rcd) g.bank.coefs) cells x.toNat y.toNat
      blend (lrMode l.rcd == 2) pa (lrAlpha l.rcd) rgb d
    else d

/-- The pixels of a stitch as bytes (R358). -/
def accBytes (pix : List Acc) : List Byte := pix.flatMap fun p => bytesLE 4 (accWord p)

/-- A pass boundary (R338, R339): the stitch written, read back by INT_BLEND and verified. -/
def passBoundary (g : ComposeCtx) (sx sy : Nat) (w : StitchWork) : StitchWork :=
  let f := canSurf g.x g.buf
  let bs := accBytes w.pix
  let (bad, s1) := writeStitch 0x25 g.faults 14 (icWrite g.c) f sx sy bs (tagWord (crc32c bs) ((g.cutFull + w.best) % 2 ^ 20) w.flags) w.st
  let (r, s2) := fetchStitch 0x23 (g.faults.filter fun q => q.kind != 3) 14 (icWrite g.c) f sx sy s1
  let (px, s3) := if r.tag.isSome then (r.bytes, s2) else freeBytes r.bytes.length s2
  { w with st := s3, pix := (List.range w.pix.length).map fun i => accOf (leAt px (4 * i) 4),
           own := w.own ++ (if bad then [(0x25, 5)] else []) ++ if r.tag.isSome then [] else [(0x23, r.kind)] }

/-- One layer taken into a canvas stitch (R338, R82). -/
def layerOver (g : ComposeCtx) (sx sy : Nat) (l : LayerSrc) (w : StitchWork) : StitchWork :=
  let slot := lrSlot l.rcd
  if (match tfind slot g.under with | some u => decide (u.1 ≤ sy) | none => false) then { w with flags := w.flags ||| flagINCOMPLETE }
  else match l.surf with
    | none => { w with flags := w.flags ||| flagNO_SOURCE }
    | some f =>
      let (x0, x1) := footCols g.x l.rcd f sx
      let (y0, y1) := footRows g.x l.rcd f l.tally sy
      let ps := (upTo y0 y1).flatMap fun y => (upTo x0 x1).map fun x => (x, y)
      let (cells, s1) := fetchCells (g.faults.filter fun q => q.slot == slot) (icRead g.c) f ps w.st
      let bad := cells.filter fun c => !c.ok
      let fails := bad.map fun c =>
        { stage := 0x20, still := l.still, surf := l.id,
          kind := c.kind, sx := c.sx, sy := c.sy, due := tagDue c.tag, flags := tagFlags c.tag : CompFail }
      let fl := cells.foldl (fun a c => a ||| tagFlags c.tag) l.flags
      let best := cells.foldl (fun a c => Nat.min a (dueOffset g.cutFull l c.tag)) w.best
      let here := (g.faults.filter fun q => 0x21 ≤ q.stage && q.stage ≤ 0x23 && 2 ≤ q.kind && q.kind ≤ 4 && q.slot == slot &&
        q.sx == sx && q.sy == sy).map fun q => (slot, q.stage, q.kind)
      let cont := if cells.any fun c => c.ok && containerBad f.fmt c.bytes then [(slot, 0x21, 3)] else []
      let broken := w.broken ++ here ++ cont
      let mine := (broken.filter fun b => b.1 == slot).map Prod.snd
      { w with st := s1, pix := blendLayer g s1 l f cells sx sy w.pix,
               flags := w.flags ||| fl ||| (if bad.isEmpty then 0 else flagCUSTODY_FAIL), best := best,
               own := w.own ++ mine, broken := broken, fails := w.fails ++ fails }

/-- The layers of a stitch in ascending Z, with a pass boundary after each sixteen (R338). -/
def layersOver (g : ComposeCtx) (sx sy : Nat) : Nat → List LayerSrc → StitchWork → StitchWork
  | _, [], w => w
  | i, l :: ls, w =>
    let w1 := if 0 < i && i % 16 == 0 then passBoundary g sx sy w else w
    layersOver g sx sy (i + 1) ls (layerOver g sx sy l w1)

/-- The background of a bank as an accumulated pixel (R338). -/
def backgroundAcc (b : Bank) : Acc :=
  let (r, g, bl) := rgbOf b.bg.toNat
  { r := 64 * r, g := 64 * g, b := 64 * bl, a := alpha4 b.bgAlpha }

/-- One canvas stitch composed, tagged and written (R338, R101 to R103, R72). Every stitch that a failing layer marks counts as a failed
stitch of the stage (DESIGN CHOICE, log 65). -/
def composeStitch (g : ComposeCtx) (sy : Nat) (w : StitchWork) (sx : Nat) : StitchWork :=
  let n := stitchExt g.x.w sx * stitchExt g.x.h sy
  let w0 := { w with pix := List.replicate n (backgroundAcc g.bank), flags := 0, best := 2 ^ 18, own := [] }
  let w1 := layersOver g sx sy 0 (g.layers.filter fun l => contributes g.x l.rcd sx sy) w0
  let late := g.faults.filter fun q => (q.stage == 0x24 || (q.stage == 0x25 && q.kind != 5)) && q.sx == sx && q.sy == sy
  let own := w1.own ++ late.map fun q => (q.stage, q.kind)
  let best := if late.any fun q => q.stage == 0x24 then 0 else w1.best
  let due := (g.cutFull + best) % 2 ^ 20
  let bs := accBytes w1.pix
  let flags := w1.flags ||| (if own.isEmpty then 0 else flagCUSTODY_FAIL)
  let (bad, s1) := writeStitch 0x25 g.faults 14 (icWrite g.c) (canSurf g.x g.buf) sx sy bs (tagWord (crc32c bs) due flags) w1.st
  let fails := (own ++ if bad then [(0x25, 5)] else []).map fun (o : Nat × Nat) =>
    { stage := o.1, still := false, surf := g.c, kind := o.2, sx := sx, sy := sy, due := due, flags := w1.flags : CompFail }
  { w1 with st := s1, fails := w1.fails ++ fails }

/-- One canvas stitch row composed, left to right. -/
def composeRow (g : ComposeCtx) (w : StitchWork) (sy : Nat) : StitchWork :=
  (List.range (stitchN g.x.w)).foldl (composeStitch g sy) { w with broken := [] }

/-! ### Frames under composition -/

/-- The layers of a frame in ascending Z. -/
def byZ (rs : List (List W32)) : List (List W32) :=
  (List.range 64).flatMap fun z => rs.filter fun r => lrZ r == z

/-- The context of a row of a job. -/
def composeCtx (s : State) (c : Nat) (j : Compose) (cutFull : Nat) (sels : List LayerSel) (faults : List StageFault) : ComposeCtx :=
  let x := canGet s c
  { c := c, x := x, bank := x.active, cutFull := cutFull, buf := j.buf, under := j.under, faults := detected faults,
    layers := (byZ (bankLayers x.active)).map fun r =>
      layerSrc s r ((sels.find? fun l => l.slot == lrSlot r).bind fun l => l.frame) }

/-- Rows of a job composed: the block with the job's failures and sources recorded. -/
def composeRows (c : Nat) (j : Compose) (cutFull : Nat) (sels : List LayerSel) (faults : List StageFault) (rows : List Nat)
    (s : State) : Compose × State :=
  let g := composeCtx s c j cutFull sels faults
  let w := rows.foldl (composeRow g) { st := s }
  let srcs := g.layers.filterMap fun l => if l.surf.isSome then some (l.still, l.id) else none
  ({ j with fails := j.fails ++ w.fails, fetched := j.fetched ++ srcs, rows := j.rows ++ rows }, w.st)

/-- The failures of a stage on a surface, each stitch once. -/
def failuresOf (fs : List CompFail) (stage : Nat) (still : Bool) (surf : Nat) : List Failure :=
  (fs.filter fun f => f.stage == stage && f.still == still && f.surf == surf).foldl (fun acc f =>
    if acc.any fun a : Failure => a.sx == f.sx && a.sy == f.sy then acc
    else acc ++ [{ kind := f.kind, sx := f.sx, sy := f.sy, due := f.due, flags := f.flags }]) []

/-- The custody reports of a canvas frame (R85, R88): each source fetched from, then each later stage. -/
def composeReport (c : Nat) (j : Compose) (s : State) : State :=
  let s1 := j.fetched.eraseDups.foldl (fun st p =>
    custodyReportOf c 0x20 14 0 (b1 p.1) p.2 j.frame (failuresOf j.fails 0x20 p.1 p.2) st) s
  [0x21, 0x22, 0x23, 0x24, 0x25].foldl (fun st g => custodyReport g 14 0 0 c j.frame (failuresOf j.fails g false c) st) s1

/-- SLIPPED_STITCH (Table 03-2). -/
def slippedEvent (c cause frame p2 count first : Nat) (s : State) : State :=
  raise 0x06 [pack [(31, 26, c), (25, 24, cause)], w32 frame, w32 (sat32 p2), pack [(31, 16, count), (15, 0, first)]] s

/-- The layers of a frame that fell back, lowest slot first (R109). -/
def fellBack (j : Compose) : List LayerSel :=
  let late := j.sels.filter fun l => l.wanted.isSome
  (List.range 1024).filterMap fun k => late.find? fun l => l.slot == k

/-- SOURCE_LATE of a frame (R109, R138). -/
def sourceLate (c : Nat) (j : Compose) (s : State) : State :=
  match fellBack j with
  | [] => s
  | l :: ls => slippedEvent c 2 j.frame l.gap (ls.length + 1) l.slot s

/-- Canvas stitches that underran layers left INCOMPLETE (Table 08-8). -/
def underStitches (x : Canvas) (j : Compose) : Nat :=
  ((stitches (canSurf x 0)).filter fun p =>
    j.under.any fun u => u.2.1 ≤ p.2 &&
      (bankLayers x.active).any fun r => lrSlot r == u.1 && contributes x r p.1 p.2).length

/-- LAYER_UNDERRUN for a frame (R369, Table 08-8): the layer whose underrun came first stands first in the job's list. -/
def underEvent (c : Nat) (x : Canvas) (j : Compose) (s : State) : State :=
  match j.under.head? with
  | none => s
  | some u =>
    let row := j.under.foldl (fun m v => Nat.min m v.2.1) u.2.1
    raise 0x22 [pack [(31, 26, c), (25, 16, u.1), (15, 8, satTo 0xFF j.under.length)], w32 j.frame,
      pack [(31, 16, row), (15, 0, sat16 (underStitches x j))], w32 (sat32 u.2.2)] s

/-- CHASE_ROW_LATE of a frame (R115, R138). -/
def chaseLate (c : Nat) (j : Compose) (s : State) : State :=
  match j.missed with
  | [] => s
  | r :: rs => slippedEvent c 3 j.frame j.lateNs (rs.length + 1) r s

/-- A finished frame becomes the newest completely written one; its events are raised (R138, R369), those of a frame shown before the
canvas has been completely written once being none (R735): SOURCE_LATE of the first frame of a frame-mode canvas is raised as it
completes, of others at their cut. A chase frame with missed rows stands as one only over an earlier frame. -/
def promote (c : Nat) (j : Compose) (s : State) : State :=
  let x := canGet s c
  let whole := j.missed.isEmpty || x.last.isSome
  let frame : CanFrame := { frame := j.frame, buf := j.buf, cutFull := j.cutFull, late := (fellBack j).length,
                            under := j.under.length, missed := j.missed, purl := j.purl, lifeMs := j.lifeMs, colA := j.colA, colB := j.colB }
  let s1 := canSet c { x with job := if x.chase then x.job else none, tail := none,
                              frameReg := if j.missed.isEmpty then w32 j.frame else x.frameReg,
                              underReg := if j.under.isEmpty then x.underReg else sat32 (x.underReg + 1),
                              last := if whole then some frame else none } s
  let s2 := underEvent c x j s1
  if x.chase then
    let s3 := composeReport c j s2
    if x.last.isSome then chaseLate c j (sourceLate c j s3) else s3
  else if x.last.isSome then s2 else sourceLate c j s2

/-- COMPOSE_LATE for the frame of a job (R110, R735): the frame is abandoned and its output frame rescans. -/
def abandon (c : Nat) (j : Compose) (late : Nat) (s : State) : State :=
  let x := canGet s c
  let shown := x.last.isSome
  let s1 := composeReport c j (canSet c { x with job := none, rescan := some j.frame, rescanLate := (fellBack j).length,
                                                 slipReg := if shown then sat32 (x.slipReg + 1) else x.slipReg } s)
  if shown then slippedEvent c 1 j.frame late 0 0 s1 else s1

/-- The job of an earlier frame is settled before a later one: finished, or abandoned. -/
def settle (c : Nat) (s : State) : State :=
  match (canGet s c).job with
  | some j => if j.finish then promote c j s else abandon c j (tget 0 j.lates 0) s
  | none => s

/-- A row of a chase frame has missed its deadline by `late` ns (R115). -/
def missRow (j : Compose) (row late : Nat) : Compose :=
  { j with missed := j.missed ++ [row], lateNs := if j.missed.isEmpty then late else j.lateNs }

/-- Rows missed count in IC_CANc while the canvas shows anything (R735). -/
def slipMore (x : Canvas) (n : Nat) : Canvas := { x with slipReg := if x.last.isSome then sat32 (x.slipReg + n) else x.slipReg }

/-- A chase frame is over: its rows not written by now have missed their deadlines (R115). -/
def chaseFinish (c : Nat) (j : Compose) (s : State) : State :=
  let left := (List.range (stitchN (canGet s c).h)).filter fun k => !j.rows.contains k && !j.missed.contains k
  promote c (left.foldl (fun a k => missRow a k (tget 0 a.lates k)) j) (canUpd c (fun x => slipMore x left.length) s)

/-- The chase frame being composed makes way for the next: its last rows may still be due. The one before it is over. -/
def chaseNext (c : Nat) (s : State) : State :=
  let s1 := match (canGet s c).tail with
    | some t => chaseFinish c t s
    | none => s
  canUpd c (fun x => { x with tail := x.job, job := none }) s1

/-- The chase frames before frame `n` are over: every row of theirs has been due. -/
def chaseSettle (c n : Nat) (s : State) : State :=
  let s1 := match (canGet s c).job with
    | some j => if j.frame < n then chaseNext c s else s
    | none => s
  match (canGet s1 c).tail with
  | some t => if t.frame < n then chaseFinish c t s1 else s1
  | none => s1

/-! ### Layout commits take effect (R362, R134) -/

/-- Fields of a layer whose change invalidates lifelines (R134): a new Z counts as a change of the stacking order even where the order stays
(DESIGN CHOICE, log 66). -/
def lifeKey (r : List W32) : List Nat :=
  [b1 (lrStill r), lrSource r, (wd r 4).toNat, (wd r 5).toNat, lrAlpha r, lrZ r]

/-- The enabled record of a slot in a bank. -/
def bankSlot (b : Bank) (k : Nat) : Option (List W32) := (bankLayers b).find? fun r => lrSlot r == k

/-- Canvas stitch `(sx, sy)` loses its lifeline when the bank changes (R134). -/
def lifeLost (x : Canvas) (old new : Bank) (sx sy : Nat) : Bool :=
  (((bankLayers old) ++ (bankLayers new)).map lrSlot).any fun k =>
    let a := bankSlot old k
    let b := bankSlot new k
    let on (r : Option (List W32)) : Bool := match r with | some r => contributes x r sx sy | none => false
    (a.map lifeKey) != (b.map lifeKey) && (on a || on b)

/-- A scheduled commit that names the canvas takes effect at the cut of frame n (R362). -/
def takeCommit (c n : Nat) (s : State) : State :=
  match s.comp.commits.find? fun k => !k.done.contains c && k.mask.getLsbD c && k.frame ≤ n with
  | none => s
  | some k =>
    let x := canGet s c
    let w := stitchN x.w
    let lives := x.lives.filter fun l => !lifeLost x x.active x.pend (l.1 % w) (l.1 / w)
    let s1 := canSet c { x with active := x.pend, pend := x.active, closed := true, commitId := k.id, lives := lives } s
    withComp s1 { s1.comp with commits := s1.comp.commits.map fun q =>
      if q.id = k.id && q.frame = k.frame && q.mask = k.mask then { q with applied := true, done := q.done ++ [c] } else q }

/-! ### CANVAS_CUT -/

/-- The choices of a frame-mode canvas frame (R108, R109). -/
def frameSels (s : State) (x : Canvas) (per cut : Nat) : List LayerSel :=
  ((bankLayers x.active).filter fun r => !lrStill r).map fun r =>
    let (f, w, g) := choose (readyFrame per x.active.allow cut) Candidate.complete (candidates s (lrSource r))
    { slot := lrSlot r, stream := lrSource r, frame := f, wanted := w, gap := g }

/-- The source stitch rows of a candidate that a chase row reads (R83, R114), by its own size and its own tally. -/
def candRows (x : Canvas) (r : List W32) (row : Nat) (c : Candidate) : Nat × Nat :=
  footRows x r { base := 0, fmt := c.fmt, w := c.w, h := c.h } c.tally row

/-- Every stitch of some stitch rows of a frame under reception has arrived. -/
def rowsArrived (u : OpenUnit) (rows : Nat × Nat) : Bool :=
  let w := recWidth u.rcd
  (upTo rows.1 rows.2).all fun sy => (List.range (stitchN w)).all fun sx => !stitchLacks u (st20Fmt u.rcd) w (recHeight u.rcd) sx sy

/-- What a chase row reads of a candidate is there: the frame is complete, or those rows of it have arrived (R34, R114, log 66). -/
def chaseHere (e : StreamE) (x : Canvas) (r : List W32) (row : Nat) (c : Candidate) : Bool :=
  c.complete || e.opens.any fun u => u.slot.isSome && u.num == c.num && u.origin == c.origin && rowsArrived u (candRows x r row c)

/-- The choices of a chase canvas row (R112, R114). -/
def chaseSels (s : State) (x : Canvas) (tline cut row : Nat) : List LayerSel :=
  ((bankLayers x.active).filter fun r => !lrStill r).map fun r =>
    let (n, w, g) := choose (fun c => readyChase tline x.active.allow cut (candRows x r row c).2 c)
      (chaseHere (strGet s (lrSource r)) x r row) (candidates s (lrSource r))
    { slot := lrSlot r, stream := lrSource r, frame := n, wanted := w, gap := g }

/-- Stitches of a frame under reception stand in its surface under their tags, as its parts arrived (R52, R61, R98). -/
def arriveStitches (k : Nat) (u : OpenUnit) (f : Surf) (t : Tab (List W32)) (ps : List (Nat × Nat)) (s : State) : State :=
  let sus := suspectOf (recTol u.rcd) u.origin u.arrival u.arrTimed
  let flags := (if u.arrTimed then flagARRIVAL_TIMED else 0) ||| (if sus then flagTIME_SUSPECT else 0)
  ps.foldl (fun st p =>
    let bs := concealPayload u f.fmt f.w f.h p.1 p.2 none
    (writeStitch 0x01 [] 16 16 f p.1 p.2 bs (tagWord (crc32c bs) (dueTick u.origin (budgetOf t k p.1 p.2)) flags) st).2) s

/-- The rows of a frame under reception that a chase row's layer reads. -/
def arriveRows (x : Canvas) (row : Nat) (s : State) (l : LayerSel) : State :=
  match bankSlot x.active l.slot, (strGet s l.stream).opens.find? fun u => u.slot.isSome && some u.num == l.frame with
  | some r, some u =>
    let t := genTable s (genFor s.comp.ledger.gens u.origin)
    let f := streamSurf l.stream (u.slot.getD 0) (st20Fmt u.rcd) (recWidth u.rcd) (recHeight u.rcd)
    let (a, b) := footRows x r f (tallyOf t l.stream) row
    arriveStitches l.stream u f t ((upTo a b).flatMap fun sy => (List.range (stitchN f.w)).map fun sx => (sx, sy)) s
  | _, _ => s

/-- The buffer a new frame is written to: the one not being scanned (R318, R110). -/
def nextBuf (x : Canvas) : Nat :=
  match x.tail, x.last with
  | some t, _ => 1 - t.buf
  | none, some l => 1 - l.buf
  | none, none => 0

/-- A frame of a canvas as its composition opens, with the treatment of its bank. -/
def openJob (x : Canvas) (n cut : Nat) : Compose :=
  { frame := n, buf := nextBuf x, cut := cut, cutFull := fullTick cut, purl := x.active.purl, lifeMs := x.active.lifeMs,
    colA := x.active.colA, colB := x.active.colB }

/-- The cut of a frame-mode canvas frame (R337, R362, R107 to R109). -/
def frameCut (c g : Nat) (env : CutEnv) (s : State) : State :=
  let n := env.frame
  let fl := flGet s g
  let cut := cutTime fl n
  let s1 := takeCommit c n (settle c s)
  let x := canGet s1 c
  let j : Compose := { openJob x n cut with sels := frameSels s1 x (period32 fl) cut, finish := env.finish, lates := tset 0 env.late [] }
  let rows := List.range (if env.finish then stitchN x.h else Nat.min env.row (stitchN x.h))
  let s0 := canSet c { x with job := some j, taken := some n } s1
  let s2 := if x.last.isSome then sourceLate c j s0 else s0
  let (j', s3) := composeRows c j j.cutFull j.sels env.faults rows s2
  let s4 := canUpd c (fun x => { x with job := some j' }) s3
  if env.finish then composeReport c j' s4 else s4

/-- The first output that scans a canvas: the line period and the first canvas stitch row it shows. -/
def chaseLine (s : State) (c : Nat) : Nat :=
  match scanners s c with
  | o :: _ => let r := outRec s o; line32 (flGet s (orGen r)) (orVTotal r)
  | [] => 0

/-- The first row of a chase frame opens its job (R113, R337). -/
def chaseOpen (c : Nat) (env : CutEnv) (s : State) : State :=
  if (canGet s c).taken == some env.frame then s
  else
    let s1 := takeCommit c env.frame (chaseNext c s)
    let x := canGet s1 c
    canSet c { x with job := some (openJob x env.frame (chaseCut s1 c env.frame env.row x.active.lead)), taken := some env.frame } s1

/-- The cut of a chase canvas row (R113, R114). -/
def chaseRow (c : Nat) (env : CutEnv) (s : State) : State :=
  let s1 := chaseOpen c env s
  let x := canGet s1 c
  match x.job with
  | none => s1
  | some j =>
    if j.frame != env.frame || j.rows.contains env.row || j.missed.contains env.row then s1
    else
      let cut := chaseCut s1 c env.frame env.row x.active.lead
      let sels := chaseSels s1 x (chaseLine s1 c) cut env.row
      let merged := j.sels ++ sels.filter fun l => !j.sels.contains l
      if env.finish then
        let (j', s2) := composeRows c { j with sels := merged } (fullTick cut) sels env.faults [env.row] (sels.foldl (arriveRows x env.row) s1)
        canUpd c (fun x => { x with
          job := some { j' with rowSels := tset env.row sels j'.rowSels },
          rowLog := tupd [] env.row (fun l => ({ frame := j.frame, buf := j.buf, cutFull := fullTick cut } :: l).take 3) x.rowLog }) s2
      else canUpd c (fun x => { x with job := some { j with sels := merged, lates := tset env.row env.late j.lates } }) s1

/-- The deadline of a cut in ns of T0: D(n) − 80 µs, or D(n, k) − 80 µs (R337). -/
def cutDeadline (s : State) (c g n row : Nat) : Nat :=
  let x := canGet s c
  if x.chase then chaseCut s c n row x.active.lead + x.active.lead * 1000 - 80000 else displayTime (flGet s g) n - 80000

/-- CANVAS_CUT: the compositor starts a canvas frame, or a row of a chase frame, at its cut (R337). A cut that is not due, or whose
frame has been cut already, changes nothing (log 2). -/
def canvasCut (c : Nat) (env : CutEnv) (s : State) : State :=
  let x := canGet s c
  match canvasGen s c with
  | none => s
  | some g =>
    let fl := flGet s g
    let now := t0Ns s
    let fresh := match x.taken with | some m => if x.chase then m ≤ env.frame else m < env.frame | none => true
    let due := if x.chase then chaseCut s c env.frame env.row x.active.lead else cutTime fl env.frame
    if !x.set || !works s 9 || s.pwr.mode == .bindOff || !fl.en || !fresh || now < due || cutDeadline s c g env.frame env.row < now || stitchN x.h ≤ env.row && x.chase then s
    else if x.chase then chaseRow c env s else frameCut c g env s

/-- CANVAS_CUT (R337). -/
def execCanvasCut (canvas : Nat) (env : CutEnv) (s : State) : Res := .next (canvasCut (canvas % 64) env s)

/-! ### Deadlines -/

/-- COMPOSE_DEADLINE: a frame not completely written at D(n) − 80 µs is abandoned (R110). -/
def composeDeadline (c : Nat) (s : State) : State :=
  let x := canGet s c
  match x.job, canvasGen s c with
  | some j, some g =>
    let dl := cutDeadline s c g j.frame 0
    if x.chase || j.finish || t0Ns s < dl then s else abandon c j (Nat.max (t0Ns s - dl) (tget 0 j.lates 0)) s
  | _, _ => s

/-- COMPOSE_DEADLINE (R110). -/
def execComposeDeadline (canvas : Nat) (s : State) : Res := .next (composeDeadline (canvas % 64) s)

/-- By how many ns a row of a chase frame is late at its deadline, or none where it has been written, was counted, or is not due. -/
def rowLate (s : State) (c g row : Nat) (j : Compose) : Option (Compose × Nat) :=
  let dl := cutDeadline s c g j.frame row
  if j.rows.contains row || j.missed.contains row || t0Ns s < dl then none else some (j, Nat.max (t0Ns s - dl) (tget 0 j.lates row))

/-- CHASE_ROW_DEADLINE: a row not written at D(n, k) − 80 µs shows the frame before (R115): of the frame whose last rows are still due, or
of the one being composed. -/
def chaseRowDeadline (c row : Nat) (s : State) : State :=
  let x := canGet s c
  match canvasGen s c with
  | none => s
  | some g =>
    if !x.chase || stitchN x.h ≤ row then s
    else match x.tail.bind (rowLate s c g row), x.job.bind (rowLate s c g row) with
      | some (j, late), _ => canSet c { slipMore x 1 with tail := some (missRow j row late) } s
      | none, some (j, late) => canSet c { slipMore x 1 with job := some (missRow j row late) } s
      | none, none => s

/-- CHASE_ROW_DEADLINE (R115). -/
def execChaseRowDeadline (canvas row : Nat) (s : State) : Res := .next (chaseRowDeadline (canvas % 64) row s)

/-! ### Underruns (R366 to R369) -/

/-- LAYER_UNDERRUN: a read of a layer's stitches has not completed within the fetch limit. From its row on the layer is left out of
the frame; rows already written are written again without it. -/
def layerUnderrun (c slot row waited : Nat) (s : State) : State :=
  let x := canGet s c
  let reads := (bankLayers x.active).any fun r => lrSlot r == slot && lrAlpha r != 0 &&
    (List.range (stitchN x.w)).any fun sx => contributes x r sx row
  match x.job with
  | some j =>
    if !reads || waited < x.fetch * 1000 || (tfind slot j.under).isSome then s
    else
      let j1 := { j with under := j.under ++ [(slot, row, waited)] }
      let again := j.rows.filter fun k => row ≤ k
      let one (st : State) (k : Nat) : State :=
        let cut := if x.chase then chaseCut st c j.frame k x.active.lead else j.cut
        let sels := if x.chase then tget [] j.rowSels k else j.sels
        (composeRows c j1 (fullTick cut) sels [] [k] st).2
      again.foldl one (canSet c { x with job := some j1 } s)
  | none => s

/-- LAYER_UNDERRUN (R366). -/
def execLayerUnderrun (canvas slot row waited : Nat) (s : State) : Res := .next (layerUnderrun (canvas % 64) slot row waited s)

end Sys2Proof.Machine
end

