-- ==== Sys2Proof/Machine/Audit.lean ====
section
/-! DEFINITION. The audit ring (R431 to R434), the configuration digest and the cross-compare of digest records (R452 to R455). -/

namespace Sys2Proof.Machine

/-! ### The audit ring -/

/-- An audit entry's 16 words with its CRC, over bytes 0 to 59 with the phase bit 0 (R432). `ws` are words 0 to 13. -/
def auditWords (ws : List W32) (lost : Nat) : List W32 :=
  let body := (wd ws 0 ||| w32 (2 ^ 15 * b1 (lost != 0))) :: (padW 14 ws).drop 1 ++ [w32 (sat32 lost)]
  body ++ [w32 (crc32c (wordBytes body))]

/-- An entry offered to the audit ring, ring 14 of PF0: written, or lost and counted, with AUDIT_GAP at most once a second of T2
(R431, R434). -/
def auditWrite (ws : List W32) (s : State) : State :=
  let u := s.enc
  if ringRoom (ringGet s 0 14) 1 then ringWrite 0 14 (auditWords ws u.auditLost) false (withEnc s { u with auditLost := 0 })
  else
    let lost := u.auditLost + 1
    let gap := u.gapLost + 1
    let sec := s.tb.t2.sec.toNat + 1
    let s1 := ringDiscard 0 14 1 s
    if u.gapSecond = sec then withEnc s1 { u with auditLost := lost, gapLost := gap }
    else raise 0x2A [w32 (sat32 gap), w32 (sat32 lost)] (withEnc s1 { u with auditLost := lost, gapLost := 0, gapSecond := sec })

/-! ### The configuration digest (R455) -/

/-- A record's bytes in an image. -/
def natBytes (ns : List Nat) : List Byte := ns.flatMap (bytesLE 8)

/-- An active layout bank in an image. -/
def bankImage (c : Nat) (b : Bank) : List Byte :=
  natBytes [c, b.bg.toNat, b.bgAlpha, b.allow, b.lead, b1 b.purl, b.lifeMs, b.colA.toNat, b.colB.toNat] ++
    (b.layers.flatMap fun l => wordBytes l.2) ++ (b.coefs.flatMap fun l => l.2.flatMap fun k => bytesLE 2 ((k + 65536) % 65536).toNat)

/-- A canvas record in an image: what CANVAS_SET gave. -/
def canvasImage (c : Nat) (x : Canvas) : List Byte :=
  natBytes [c, x.w, x.h, b1 x.premul, b1 x.chase, x.buf0, x.buf1, x.life, x.fetch, x.gen]

/-- A stream record without its host address and buffer size. -/
def streamImage (r : List Byte) : List Byte := (r.take 56) ++ (r.drop 64).take 8

/-- The tag plane of a still. -/
def stillImage (s : State) (k : Nat) (x : Still) : List Byte :=
  let f := stillSurf k x.w x.h
  (stitches f).flatMap fun p => bytesLE 8 (rawTag 4 22 f p.1 p.2 s)

/-- The live Region Ledger: the newest generation copied (R327). -/
def liveLedger (s : State) : Tab (List W32) :=
  match (s.comp.ledger.gens.filter fun g => g.copied).getLast? with
  | some g => g.table
  | none => []

/-- The configuration digest: the CRC-32C of the image of its six parts. -/
def configDigest (s : State) : W32 :=
  let parts : List (List Byte) := [
    s.comp.canvases.flatMap fun x => bankImage x.1 x.2.active,
    (liveLedger s).flatMap fun x => wordBytes x.2,
    (s.str.ents.flatMap fun x => if x.2.st = 0 then [] else bytesLE 1 x.1 ++ streamImage x.2.rcd) ++
      s.net.flows.flatMap fun x => bytesLE 2 x.1 ++ x.2.rcd,
    (s.comp.canvases.flatMap fun x => canvasImage x.1 x.2) ++ s.scan.outs.flatMap fun x => wordBytes (outRec s x.1),
    s.tb.fl.flatMap fun x =>
      natBytes [x.1, b1 x.2.en, b1 x.2.den1001, x.2.num.toNat, x.2.originLo.toNat, x.2.originHi.toNat, x.2.phase.toNat],
    s.comp.stills.flatMap fun x => bytesLE 1 x.1 ++ stillImage s x.1 x.2]
  w32 (crc32c (Config.digestImage parts))

/-! ### Digest records (R452 to R454) -/

/-- The block with its pair unit replaced. -/
def withPair (s : State) (u : PairUnit) : State := { s with pair := u }

/-- The modes that exchange digest records (R452). -/
def pairCompares (s : State) : Bool := pairMode s.pwr.mode

/-- A divergence of an output (R454): DIVERGENCE with the first one in a second of T2, later ones counted. -/
def diverged (a b : DigRec) (s : State) : State :=
  let sec := s.tb.t2.sec.toNat + 1
  let d := tget {} s.pair.div a.output
  let d' : DivCount :=
    if d.second = sec then { d with frames := d.frames + 1 }
    else { second := sec, frames := 1, first := a.frame, own := a.digest, peer := b.digest }
  let s1 := withPair s { s.pair with cmpDiverge := sat32 (s.pair.cmpDiverge + 1), div := tset a.output d' s.pair.div }
  if d.second = sec then s1
  else raise 0x2D [pack [(31, 26, a.output)], a.frame, a.digest, b.digest, w32 d'.frames] s1

/-- A cross-compare result of an output (Table 11-4). -/
def cmpResult (o code : Nat) (s : State) : State := withPair s { s.pair with cmpLast := tset o code s.pair.cmpLast }

/-- The two records of one output and frame compared (Table 11-4): own first. -/
def compareRecs (a b : DigRec) (s : State) : State :=
  let u := s.pair
  if a.digest == b.digest then withPair s { u with cmpMatch := sat32 (u.cmpMatch + 1) }
  else if a.slipped != 0 || b.slipped != 0 || a.rescan || b.rescan then withPair s { u with cmpExcused := sat32 (u.cmpExcused + 1) }
  else diverged a b s

/-- The comparison, with its result kept. -/
def comparePair (a b : DigRec) (s : State) : State :=
  let code := if a.digest == b.digest then 1
    else if a.slipped != 0 || b.slipped != 0 || a.rescan || b.rescan then 2 else 3
  compareRecs a b (cmpResult a.output code s)

/-- A Follow's work would let it take over without loss: fitness under R456, apart from its mode. -/
def pairFit (s : State) : Bool :=
  (s.tb.state == .locked || s.tb.state == .holdover) && !s.tb.pairOver && !(s.scan.outs.any fun x => x.2.hold) &&
    s.pair.peerDigest == some (configDigest s)

/-- Two records belong to one output and frame. -/
def sameFrame (a b : DigRec) : Bool := a.output == b.output && a.frame == b.frame

/-- The module's own record of a frame: sent to the peer, and compared when the peer's is present. -/
def ownDigest (a : DigRec) (s : State) : State :=
  if !pairCompares s then s
  else
    let s1 := send (.corler 3 [w32 a.output, a.frame, a.digest, pack [(31, 16, sat16 a.slipped), (2, 2, b1 a.rescan), (1, 0, a.readback)],
      configDigest s]) s
    match s.pair.peerRecs.find? (sameFrame a) with
    | some b => comparePair a b (withPair s1 { s1.pair with peerRecs := s1.pair.peerRecs.filter fun x => !sameFrame a x })
    | none => withPair s1 { s1.pair with ownRecs := s1.pair.ownRecs ++ [a] }

end Sys2Proof.Machine
end

