-- ==== Sys2Proof/Machine/OutCtl.lean ====
section
/-! DEFINITION. Outputs: their commands (R371 to R380, R388, R391), their links and features (R377 to R379, R398), sink echo
(R402, R403). -/

namespace Sys2Proof.Machine

/-! ### OUTPUT_SET (R374 to R376, R378) -/

/-- Payload of a lane by rate code, in Mbit/s (Table 09-3). -/
def lanePayload (rate : Nat) : Nat :=
  match rate with
  | 0 => 1296 | 1 => 2160 | 2 => 4320 | 3 => 6480 | 4 => 9671 | 5 => 13056 | _ => 19342

/-- The lanes of an output. -/
def outLanes (r : List W32) : Nat := 2 ^ orLanes r

/-- The V lanes of an output, by lane index. -/
def outLaneList (o : Nat) (r : List W32) : List Nat := (List.range (outLanes r)).map fun j => o + j

/-- Vertical blanking in 32.32 ns (R381). -/
def outBlank (s : State) (r : List W32) : Nat := (orVTotal r - orH r) * line32 (flGet s (orGen r)) (orVTotal r)

/-- Bits per pixel on the link (R378). -/
def outBpp (r : List W32) : Nat :=
  if orFormat r = 2 then (if orDepth10 r then 20 else 16) else (if orDepth10 r then 30 else 24)

/-- The capacity check (R378). -/
def linkFits (s : State) (r : List W32) : Bool :=
  let x := flGet s (orGen r)
  let pix := orHTotal r * orVTotal r * x.num.toNat
  let n := outLanes r * flDen x
  pix * outBpp r ≤ n * lanePayload (orRate r) * 1000000 && pix ≤ n * 700000000

/-- A viewport lies inside its canvas (R372). -/
def viewInside (s : State) (r : List W32) (vx vy : Nat) : Bool :=
  let x := canGet s (orCanvas r)
  x.set && vx + orW r ≤ x.w && vy + orH r ≤ x.h

/-- The enabled outputs of a canvas other than `o`. -/
def otherScanners (s : State) (o c : Nat) : List Nat := (scanners s c).filter fun k => k != o

/-- A viewport breaks R116 on a chase canvas. -/
def chaseViewBad (s : State) (o : Nat) (r : List W32) (vy : Nat) : Bool :=
  (canGet s (orCanvas r)).chase &&
    (vy % 32 != 0 || (otherScanners s o (orCanvas r)).any fun k => (outView s k).2 != vy)

/-- The lanes of a record fit the output's number, and no other enabled output has them (Table 09-1). -/
def lanesFree (s : State) (o : Nat) (r : List W32) : Bool :=
  o % outLanes r == 0 && (s.scan.outs.all fun x =>
    !x.2.en || x.1 == o || x.1 + outLanes (outRec s x.1) ≤ o || o + outLanes r ≤ x.1)

/-- The first word of an output record with a field out of range or against a rule of R375. -/
def outputBad (s : State) (o : Nat) (r : List W32) : Option Nat :=
  let f (i hi lo : Nat) : Nat := fld (wd r i) hi lo
  let blank := outBlank s r
  firstOf [
    (47 < o || 47 < orCanvas r || orLanes r == 3 || 6 < orRate r || orFormat r == 3 || orPolicy r == 3, 0),
    (!(canGet s (orCanvas r)).set || !lanesFree s o r || (flGet s (orGen r)).num == 0 || !linkFits s r, 0),
    (!viewInside s r (orViewX r) (orViewY r) || chaseViewBad s o r (orViewY r), 4),
    (orW r == 0 || orHTotal r < orW r || (orFormat r == 2 && orW r % 2 != 0), 8),
    (orH r == 0 || orVTotal r ≤ orH r || blank < 250000 * 2 ^ 32, 16),
    ((s.pwr.mode == .lead || s.pwr.mode == .follow || s.pwr.mode == .knitUp) && decide (1900000 * 2 ^ 32 < blank), 16),
    (outside 24 240 (orDefault 24 (f 6 31 24)) || outside 1 10 (orDefault 1 (f 6 23 16)), 24),
    (outside 20 1000 (orDefault 100 (f 7 31 16)) || outside 100 10000 (orDefault 1000 (f 7 15 0)), 28),
    ((otherScanners s o (orCanvas r)).any fun k => orGen (outRec s k) != orGen r || orTiming (outRec s k) != orTiming r, 0)]

/-- OUTPUT_SET (R374 to R376). The reserved words of the record are not kept (R8). -/
def opOutputSet (c : Cmd) (s : State) : State × Reply :=
  let r := (wordsOf 16 (crec c)).take 8
  let o := orOutput r
  checked [
    (47 < o, badRecord 0),
    ((outGet s o).en, held 0xFF o),
    ((outputBad s o r).isSome, badRecord ((outputBad s o r).getD 0))]
    (fun s => (outUpd o (fun x => { x with rcd := r, pos := none }) s, .ok [])) s

/-- OUTPUT_SET (R374). -/
def execOutputSet (c : Cmd) (s : State) : Res := .next (hostCommand 0x0500 opOutputSet c s)

/-! ### Links (R379, R398) -/

/-- W6 of OUTPUT_STATUS and P0 of OUTPUT_LINK (Table 09-8). -/
def linkWord (s : State) (o : Nat) : W32 :=
  let x := outGet s o
  let r := outRec s o
  pack [(31, 26, o), (25, 22, x.link), (21, 20, orLanes r), (19, 17, orRate r), (16, 16, b1 x.async), (15, 15, b1 x.pr),
    (14, 14, b1 x.echo)]

/-- A change of an output's link: OUTPUT_LINK (R379). -/
def linkEvent (o code : Nat) (s : State) : State :=
  let s1 := outUpd o (fun x => { x with link := code }) s
  raise 0x25 [linkWord s1 o, (outGet s1 o).last] s1

/-- An output whose link the sequencer handles: enabled, its domain in service, not switched off by the policy OFF,
no lane of it in a test loop (R392, R617, R702). -/
def linkHandled (s : State) (o : Nat) : Bool :=
  (outGet s o).en && !(outGet s o).offTx && works s (outDomain o) &&
    (outLaneList o (outRec s o)).all fun i => (laneGet s i).ovl != 4

/-- Training of an output's link begins. -/
def trainBegin (o : Nat) (s : State) : State := outUpd o (fun x => { x with up := false, training := true, trainFailed := none }) s

/-- VHPD_HIGH: VHPD has been high for 100 ms after being low. -/
def vhpdHigh (o : Nat) (s : State) : State :=
  if (outGet s o).vhpd then s
  else
    let s1 := outUpd o (fun x => { x with vhpd := true }) s
    if linkHandled s o then trainBegin o (linkEvent o 1 s1) else s1

/-- VHPD_HIGH (R379). -/
def execVhpdHigh (output : Nat) (s : State) : Res := .next (vhpdHigh (output % 48) s)

/-- VHPD_IRQ_PULSE: the sequencer reads the link status, and retrains when the sink asks (`ok` false). -/
def vhpdIrq (o : Nat) (ok : Bool) (s : State) : State :=
  if linkHandled s o && (outGet s o).up then
    let s1 := linkEvent o 4 s
    if ok then s1 else trainBegin o s1
  else s

/-- VHPD_IRQ_PULSE (R379). -/
def execVhpdIrqPulse (output : Nat) (ok : Bool) (s : State) : Res := .next (vhpdIrq (output % 48) ok s)

/-- VHPD_LOW: low for more than 2 ms, the link is down. -/
def vhpdLow (o : Nat) (s : State) : State :=
  if !(outGet s o).vhpd then s
  else
    let s1 := outUpd o (fun x => { x with vhpd := false }) s
    if linkHandled s o then linkEvent o 0 (outUpd o (fun x => { x with up := false, training := false, trainFailed := none }) s1)
    else s1

/-- VHPD_LOW (R379). -/
def execVhpdLow (output : Nat) (s : State) : Res := .next (vhpdLow (output % 48) s)

/-- OUTPUT_LINK_TRAINING_END: a training succeeds, with the features that sink and record allow in use, or fails (R379, R396 to
R398, R403). The first frame after it goes whole (log 26). -/
def trainEnd (o : Nat) (t : LinkTraining) (s : State) : State :=
  let x := outGet s o
  if !(x.training && linkHandled s o) then s
  else if t.ok then
    let r := outRec s o
    let pr := orPr r && t.pr
    let async := orAsync r && !pr && (match t.asyncMin with | some m => m ≤ orAsyncMin r | none => false)
    linkEvent o (if x.ever then 5 else 2) (outSet o { x with
      training := false, up := true, ever := true, pr := pr, async := async, echo := t.testCrc && !pr, whole := true,
      trainedAt := x.trainedAt.orElse fun _ => some (t0Ns s) } s)
  else linkEvent o 3 (outSet o { x with training := false, up := false, trainFailed := some (t2Ns s) } s)

/-- OUTPUT_LINK_TRAINING_END (R379). -/
def execOutputLinkTrainingEnd (output : Nat) (t : LinkTraining) (s : State) : Res := .next (trainEnd (output % 48) t s)

/-- LINK_TRAINING_RETRY: a failed training is tried again after 1 s. -/
def trainRetry (o : Nat) (s : State) : State :=
  match (outGet s o).trainFailed with
  | some t => if linkHandled s o && (outGet s o).vhpd && t + 1000000000 ≤ t2Ns s then trainBegin o s else s
  | none => s

/-- LINK_TRAINING_RETRY (R379). -/
def execLinkTrainingRetry (output : Nat) (s : State) : Res := .next (trainRetry (output % 48) s)

/-! ### OUTPUT_ENABLE and OUTPUT_DISABLE -/

/-- A quad's outputs form a split of Table 09-1: (position, lanes) pairs. -/
def quadOk (us : List (Nat × Nat)) : Bool :=
  [[(0, 1), (1, 1), (2, 1), (3, 1)], [(0, 2), (2, 2)], [(0, 2), (2, 1), (3, 1)], [(0, 4)]].any fun f =>
    us.all fun u => f.contains u

/-- The outputs of a quad that are enabled, with output `o` added. -/
def quadUse (s : State) (o : Nat) : List (Nat × Nat) :=
  ((List.range 4).map fun j => 4 * (o / 4) + j).filterMap fun k =>
    if k == o || (outGet s k).en then some (k % 4, outLanes (outRec s k)) else none

/-- The scan rate of an output in pixel/s × 1001. -/
def scanRate (s : State) (o : Nat) : Nat :=
  let r := outRec s o
  let x := flGet s (orGen r)
  orW r * orH r * x.num.toNat * 1001 / flDen x

/-- The sum of R373 with output `o` enabled. -/
def scanRates (s : State) (o : Nat) : Nat :=
  ((s.scan.outs.filter fun x => x.2.en && x.1 != o).map fun x => scanRate s x.1).foldl (· + ·) (scanRate s o)

/-- A commit names the output's canvas under another generator (R734). -/
def commitClash (s : State) (r : List W32) : Bool :=
  s.comp.commits.any fun k => !k.applied && k.mask.getLsbD (orCanvas r) && k.gen != orGen r

/-- An output enabled: its record stays, everything of its frames and its link starts afresh. -/
def outOn (o : Nat) (s : State) : State :=
  let x := outGet s o
  outSet o { rcd := x.rcd, pos := x.pos, vhpd := x.vhpd, link := x.link, source := x.source, pattern := x.pattern,
             last := x.last, lastRb := x.lastRb, rbFail := x.rbFail, en := true, enAt := t0Ns s, training := x.vhpd, whole := true } s

/-- OUTPUT_ENABLE (R373, R375, R382, R616, R700, R734). -/
def opOutputEnable (c : Cmd) (s : State) : State × Reply :=
  let o := (cw c 4).toNat
  let r := outRec s o
  if o ≤ 47 && (outGet s o).en then (s, .ok [])
  else
    checked [
      (47 < o, badField 16),
      domainOff s (outDomain o),
      domainOff s 9,
      ((outputBad s o r).isSome || !quadOk (quadUse s o), badField 16),
      (commitClash s r, held 0xFF (orCanvas r)),
      (24000000000 * 1001 < scanRates s o, overCap)]
      (laneEnable (outLaneList o r) o [] fun s => (outOn o s, .ok [])) s

/-- An output disabled: OUTPUT_LINK with state 6. -/
def outOff (o : Nat) (s : State) : State :=
  let x := outGet s o
  linkEvent o 6 (outSet o { rcd := x.rcd, pos := x.pos, vhpd := x.vhpd, link := x.link, source := x.source, pattern := x.pattern,
                            last := x.last, lastRb := x.lastRb, rbFail := x.rbFail } s)

/-- OUTPUT_DISABLE (R376). -/
def opOutputDisable (c : Cmd) (s : State) : State × Reply :=
  let o := (cw c 4).toNat
  checked [(47 < o, badField 16)] (fun s => (if (outGet s o).en then outOff o s else s, .ok [])) s

/-- OUTPUT_DISABLE (R376). -/
def execOutputDisable (c : Cmd) (s : State) : Res := .next (hostCommand 0x0502 opOutputDisable c s)

/-! ### Other commands of outputs -/

/-- OUTPUT_VIEW (R376): judged as R361 judges a commit; a later one replaces one that waits. -/
def opOutputView (c : Cmd) (s : State) : State × Reply :=
  let o := (cw c 4).toNat
  let r := outRec s o
  let vy := fld (cw c 5) 31 16
  let vx := fld (cw c 5) 15 0
  let x := flGet s (orGen r)
  let n := frameNamed x (cw c 6)
  let cut := if (canGet s (orCanvas r)).chase then chaseCut s (orCanvas r) n 0 (canGet s (orCanvas r)).active.lead else cutTime x n
  checked [
    (47 < o || !(outGet s o).en, badField 16),
    (!viewInside s r vx vy || chaseViewBad s o r vy, badField 20),
    (n + 1 < x.next || cut < t0Ns s + 2000000, tooLate)]
    (fun s => (outUpd o (fun y => { y with view := some (n, vx, vy) }) s, .ok [])) s

/-- OUTPUT_VIEW (R376). -/
def execOutputView (c : Cmd) (s : State) : Res := .next (hostCommand 0x0503 opOutputView c s)

/-- OUTPUT_FAULT_CLEAR (R391, R394): the hold ends at the next output frame boundary. -/
def opOutputFaultClear (c : Cmd) (s : State) : State × Reply :=
  let o := (cw c 4).toNat
  checked [(47 < o, badField 16)] (fun s => (outUpd o (fun x => { x with clearing := x.hold }) s, .ok [])) s

/-- OUTPUT_FAULT_CLEAR (R391). -/
def execOutputFaultClear (c : Cmd) (s : State) : Res := .next (hostCommand 0x0504 opOutputFaultClear c s)

/-- `n` words whose bytes a transaction without an answer leaves open. -/
def freeWords : Nat → State → List W32 × State
  | 0, s => ([], s)
  | n + 1, s =>
    let (w, s1) := takeFree s
    let (ws, s2) := freeWords n s1
    (w :: ws, s2)

/-- OUTPUT_AUX (R380): the sink's reply comes in the operand; the data of a read that no sink answers is open. -/
def opOutputAux (c : Cmd) (s : State) : State × Reply :=
  let o := (cw c 4).toNat
  let i2c := bitOf (cw c 5) 31
  let wr := bitOf (cw c 5) 30
  let len := fld (cw c 5) 28 24
  let a := fld (cw c 5) 19 0
  checked [
    (47 < o, badField 16),
    (outside 1 16 len || (!i2c && wr && a < 0x300 && 0x100 < a + len), badField 20),
    domainOff s (outDomain o),
    ((outGet s o).training, held 0xFF o)]
    (fun s =>
      if wr then (s, .ok [])
      else match c.env.aux with
        | some a => if a.ack then (s, .ok (wordsOf 4 (padB 16 (a.data.take len))))
                    else let (ws, s1) := freeWords (ceilDiv len 4) s; (s1, .ok ws)
        | none => let (ws, s1) := freeWords (ceilDiv len 4) s; (s1, .ok ws)) s

/-- OUTPUT_AUX (R380). -/
def execOutputAux (c : Cmd) (s : State) : Res := .next (hostCommand 0x0505 opOutputAux c s)

/-- SWATCH_SET (R131, R388): the device's test colour, or an output's picture. -/
def opSwatchSet (c : Cmd) (s : State) : State × Reply :=
  let o := (cw c 4).toNat
  let kind := (cw c 5).toNat
  let pat := (cw c 6).toNat
  if o = 0xFF then (withScan s { s.scan with testColour := fld (cw c 7) 29 0 }, .ok [])
  else
    checked [
      (47 < o, badField 16),
      (2 < kind, badField 20),
      (3 < pat, badField 24),
      (kind != 0 && s.pwr.mode != .ready && s.pwr.mode != .maintenance, wrongMode)]
      (fun s => (outUpd o (fun x => { x with source := kind, pattern := pat }) s, .ok [])) s

/-- SWATCH_SET (R388). -/
def execSwatchSet (c : Cmd) (s : State) : Res := .next (hostCommand 0x0507 opSwatchSet c s)

/-- OUTPUT_STATUS (Table 13-11). -/
def opOutputStatus (c : Cmd) (s : State) : State × Reply :=
  let o := (cw c 4).toNat
  checked [(47 < o, badField 16)]
    (fun s => (s, .ok [linkWord s o, (outGet s o).last, w32 (outGet s o).lastRb])) s

/-- OUTPUT_STATUS. -/
def execOutputStatus (c : Cmd) (s : State) : Res := .next (hostCommand 0x0508 opOutputStatus c s)

/-! ### Sink echo (R402, R403) -/

/-- An echo result counts for a drill (R473). -/
def drillEcho (o : Nat) (good : Bool) (s : State) : State :=
  match s.pair.drill with
  | some d =>
    if !drillEchoes s then s
    else
      let d' := if good then { d with matched := o :: d.matched.filter fun x => x != o }
        else { d with mismatched := o :: d.mismatched.filter fun x => x != o }
      withPair s { s.pair with drill := some d' }
  | none => s

/-- SINK_ECHO_POLL: the sink's test CRCs and CRC count against those of the last 16 whole frames sent. A poll without an answer
does not match. -/
def echoPoll (o : Nat) (a : Option EchoRead) (s : State) : State :=
  let x := outGet s o
  let r := outRec s o
  let drill := drillEchoes s
  if !(x.en && x.up && x.echo && (orEcho r || drill)) ||
      t2Ns s < x.echoAt + (if drill then 100 else orEchoInt r) * 1000000 then s
  else
    let v := match a with | some e => e.r.toNat * 2 ^ 32 + e.g.toNat * 2 ^ 16 + e.b.toNat | none => 0
    let good := match a with
      | some e => x.testCrcs.contains v && x.echoCount != some e.count
      | none => false
    let s1 := drillEcho o good (outSet o { x with
      echoCount := (a.map fun e => e.count).orElse fun _ => x.echoCount, echoBad := !good, echoAt := t2Ns s } s)
    if good == !x.echoBad then s1
    else raise 0x26 [pack [(31, 26, o), (25, 25, b1 (!good))], w32 (v / 2 ^ 16), w32 (v % 2 ^ 16 * 2 ^ 16)] s1

/-- SINK_ECHO_POLL (R402). -/
def execSinkEchoPoll (output : Nat) (r : Option EchoRead) (s : State) : Res := .next (echoPoll (output % 48) r s)

/-! ### Registers (R680) -/

/-- Reads of the SO block. -/
def soPeek (off : Nat) (s : State) : Option W32 :=
  if 0xA000 ≤ off && off < 0xAC00 then
    let a := off - 0xA000
    some (wd (padW 16 (outRec s (a / 64))) (a % 64 / 4))
  else if 0xAC00 ≤ off && off < 0xAF00 then
    let o := (off - 0xAC00) / 16
    let x := outGet s o
    let r := outRec s o
    match (off - 0xAC00) % 16 with
    | 0 => some (pack [(31, 28, x.link), (27, 26, orLanes r), (25, 23, orRate r), (22, 22, b1 x.async), (21, 21, b1 x.pr),
        (20, 20, b1 x.echo), (19, 18, x.lastRb)])
    | 4 => some x.last
    | 8 => some (w32 x.rbFail)
    | _ => none
  else none

/-- A read of SO_OUTo_RBFAIL clears it. -/
def soClear (off : Nat) (s : State) : State := outUpd ((off - 0xAC00) / 16) (fun x => { x with rbFail := 0 }) s

end Sys2Proof.Machine
end

