-- ==== Sys2Proof/Machine/Scan.lean ====
section
/-! DEFINITION. Scan-out of a frame: verdicts (R118 to R125), the stale treatment and lifelines (R126 to R133), egress CRCs (R90,
R387), what is sent (R382, R396 to R398, R404), row by row at SCAN_ROW_FETCH. -/

namespace Sys2Proof.Machine

/-! ### Verdicts -/

/-- The verdict of a stitch part (R121): 0 live, 1 test overlay, 2 stale. -/
def verdict (flags due display age : Nat) (hold : Bool) : Nat :=
  if hold then 2
  else if hasFlag flags forceStale then 2
  else if (display + 2 ^ 20 - due) % 2 ^ 20 < 2 ^ 19 then 2
  else if 2 ^ 18 ≤ age then 2
  else if hasFlag flags flagTEST then 1
  else 0

/-- The report precedence that a stale part is counted under (R55, R122, R123). Under a hold UNVERIFIED is not counted (R395). -/
def reasonOf (flags : Nat) (hold : Bool) : Nat :=
  (firstOf [(hasFlag flags flagCUSTODY_FAIL, 1), (hasFlag flags flagUNVERIFIED && !hold, 2), (hold, 3), (hasFlag flags flagNO_SOURCE, 4),
    (hasFlag flags flagINCOMPLETE, 5), (hasFlag flags flagCONCEALED, 6), (hasFlag flags flagTALLY_FAIL, 7),
    (hasFlag flags flagFROZEN, 8), (hasFlag flags flagTIME_SUSPECT, 9)]).getD 10

/-- The bit of the reason mask for a report precedence (R139). -/
def reasonBit (p : Nat) : Nat :=
  match p with
  | 1 => 4 | 2 => 10 | 3 => 13 | 4 => 8 | 5 => 3 | 6 => 0 | 7 => 6 | 8 => 1 | 9 => 2 | _ => 12

/-! ### Parts of a row -/

/-- How a part is drawn: the canvas pixels, the test overlay over them, full purl, purl over its lifeline, black, the swatch. -/
inductive Draw where
  | live | test | purl | overLife | black | swatch
deriving DecidableEq, Repr

/-- A canvas stitch part of an egress row as judged: its canvas stitch, its verdict, reason, flags, due tick, how it is drawn, and
the payload that is drawn. -/
structure Part where
  cx : Nat
  cy : Nat
  kind : Nat
  reason : Nat
  flags : Nat
  due : Nat
  draw : Draw
  bytes : List Byte := []
deriving DecidableEq, Repr

/-- What a row of an output is judged and drawn with. -/
structure RowCtx where
  o : Nat
  r : List W32
  n : Nat
  row : Nat
  vx : Nat
  vy : Nat
  /-- Rows of pixels in the egress row. -/
  h : Nat
  fullTick : Nat
  hold : Bool
  unver : Bool
  pic : Picture
  shot : Option CanFrame
  canvas : Canvas
  colA : Nat × Nat × Nat
  colB : Nat × Nat × Nat
  test : Nat × Nat × Nat
  /-- Purl pictures and holds: black in place of purl (R392). -/
  dark : Bool
  lifeOn : Bool
  lifeMs : Nat := 1000
  pattern : Nat
  faults : List StageFault
deriving DecidableEq, Repr

/-- Egress rows and columns of an output. -/
def egRows (r : List W32) : Nat := stitchN (orH r)
def egCols (r : List W32) : Nat := stitchN (orW r)

/-- The buffer and the full cut tick of canvas row `k` in frame `n`: a row of a chase canvas is that of the newest frame up to `n` that
wrote it in time (R115). -/
def rowSource (s : State) (c : Nat) (shot : Option CanFrame) (n k : Nat) : Option (Nat × Nat) :=
  let x := canGet s c
  if !x.chase then shot.map fun f => (f.buf, f.cutFull)
  else if x.last.isNone then none
  else
    let l := tget [] x.rowLog k
    ((l.find? fun r => r.frame ≤ n).orElse fun _ => l.getLast?).map fun r => (r.buf, r.cutFull)

/-- The chase frame of number `n` while it is composed or its last rows are due. -/
def chaseJob (x : Canvas) (n : Nat) : Option Compose :=
  match x.job with
  | some j => if j.frame = n then some j else x.tail.filter fun t => t.frame == n
  | none => x.tail.filter fun t => t.frame == n

/-- The treatment under which frame `n` of a canvas is shown: purl only, the lifeline interval, the colours A and B. It is that of the
frame scanned; on a chase canvas of frame `n` itself (R133, R362). -/
def frameLook (x : Canvas) (shot : Option CanFrame) (n : Nat) : Bool × Nat × W32 × W32 :=
  let kept (f : CanFrame) : Bool × Nat × W32 × W32 := (f.purl, f.lifeMs, f.colA, f.colB)
  let own := (x.active.purl, x.active.lifeMs, x.active.colA, x.active.colB)
  if !x.chase then (shot.map kept).getD own
  else match chaseJob x n, x.last with
    | some j, _ => (j.purl, j.lifeMs, j.colA, j.colB)
    | none, some l => if l.frame = n then kept l else own
    | none, none => own

/-- The memory ports of the scan-out: its half's fetch port, and the lifeline port (Table 14-4). -/
def soPort (o : Nat) : Nat := if o < 24 then 11 else 12
def soLifePort : Nat := 13

/-- The egress stitch columns of a row that overlap canvas column `cx`: first and last. -/
def egSpan (g : RowCtx) (cx : Nat) : Nat × Nat :=
  ((32 * cx - g.vx) / 32, Nat.min (32 * cx + 31 - g.vx) (orW g.r - 1) / 32)

/-- A failure of a canvas or lifeline stitch as the egress stitches of the row that it strikes, in the output's own grid (R82, R86,
log 65). -/
def egFails (g : RowCtx) (stage kind cx tag : Nat) : List CompFail :=
  let (a, b) := egSpan g cx
  (upTo a b).map fun sx => { stage := stage, still := false, surf := g.o, kind := kind, sx := sx, sy := g.row, due := tagDue tag, flags := tagFlags tag }

/-- A stale part's lifeline, read and verified (R130, R82). -/
def lifeline (g : RowCtx) (cx cy : Nat) (s : State) : Option (List Byte) × List CompFail × State :=
  let x := g.canvas
  let idx := cy * stitchN x.w + cx
  if !g.lifeOn || (tfind idx x.lives).isNone then (none, [], s)
  else
    let tag := rawTag 15 soLifePort (lifeSurf x) cx cy s
    let (r, s1) := fetchStitch 0x31 g.faults 15 soLifePort (lifeSurf x) cx cy s
    if r.tag.isSome then (some r.bytes, [], s1) else (none, egFails g 0x31 r.kind cx tag, s1)

/-- One canvas stitch part fetched, verified and judged (R80, R82, R119, R121). -/
def canvasPart (g : RowCtx) (cx cy : Nat) (s : State) : Part × List CompFail × State :=
  let un := if g.unver then flagUNVERIFIED else 0
  let disp := g.fullTick % 2 ^ 20
  let stale (flags reason : Nat) : Part :=
    { cx := cx, cy := cy, kind := 2, reason := reason, flags := flags, due := 0, draw := if g.dark then .black else .purl }
  match rowSource s (orCanvas g.r) g.shot g.n cy with
  | none => let fl := flagNO_SOURCE ||| un; (stale fl (reasonOf fl g.hold), [], s)
  | some (buf, cut) =>
    let f := canSurf g.canvas buf
    let raw := rawTag 15 (soPort g.o) f cx cy s
    let (r, s1) := fetchStitch 0x30 g.faults 15 (soPort g.o) f cx cy s
    let bad := r.tag.isNone
    let flags := tagFlags raw ||| un ||| (if bad then flagCUSTODY_FAIL else 0)
    let fails : List CompFail := if bad then egFails g 0x30 r.kind cx raw else []
    let kind := verdict flags (tagDue raw) disp (g.fullTick - cut) g.hold
    let p : Part := { cx := cx, cy := cy, kind := kind, reason := 0, flags := flags, due := tagDue raw,
                      draw := if kind = 1 then .test else .live, bytes := r.bytes }
    if kind != 2 then (p, fails, s1)
    else
      let p2 := { stale flags (reasonOf flags g.hold) with due := tagDue raw }
      if bad || g.hold then (p2, fails, s1)
      else
        let (l, more, s2) := lifeline g cx cy s1
        match l with
        | some lb => ({ p2 with draw := .overLife, bytes := lb }, fails ++ more, s2)
        | none => (p2, fails ++ more, s2)

/-- The payload of a stitch that the swatch generates, in ARGB2101010 (R58, R388). -/
def swatchBytes (g : RowCtx) (cx cy : Nat) : List Byte :=
  (List.range (stitchExt g.canvas.h cy)).flatMap fun y => (List.range (stitchExt g.canvas.w cx)).flatMap fun x =>
    let (r, gr, b) := swatchAt g.pattern (orW g.r) (32 * cx + x - g.vx) (32 * cy + y - g.vy)
    bytesLE 4 (b + 1024 * gr + 1048576 * r + 3 * 2 ^ 30)

/-- The tag of a plain part's stitch: the swatch's carries TEST and the CRC of its pattern (R58). -/
def plainTag (g : RowCtx) (bs : List Byte) : Nat :=
  tagWord (crc32c bs) ((g.fullTick + 2 ^ 18) % 2 ^ 20)
    (match g.pic with | .swatch => flagTEST | .noSource => flagNO_SOURCE | .dark => flagNO_SOURCE | .safeHold => 0 | .canvas => 0)

/-- A part of a picture that reads no canvas (R388, R631, R632). -/
def plainPart (g : RowCtx) (cx cy : Nat) : Part :=
  let un := if g.unver then flagUNVERIFIED else 0
  let bs := if g.pic == .swatch then swatchBytes g cx cy else []
  let tag := plainTag g bs
  let flags := tagFlags tag ||| un
  let kind := verdict flags (tagDue tag) (g.fullTick % 2 ^ 20) 0 g.hold
  { cx := cx, cy := cy, kind := kind, reason := if kind = 2 then reasonOf flags g.hold else 0, flags := flags, due := tagDue tag, bytes := bs,
    draw := if g.dark || (g.pic == .dark && !g.hold) then .black else if kind = 1 then .swatch else .purl }

/-- The canvas stitches that an egress row shows: rows and columns. -/
def rowCells (g : RowCtx) : List (Nat × Nat) :=
  (upTo ((g.vy + 32 * g.row) / 32) ((g.vy + 32 * g.row + g.h - 1) / 32)).flatMap fun cy =>
    (upTo (g.vx / 32) ((g.vx + orW g.r - 1) / 32)).map fun cx => (cx, cy)

/-- The parts of a row, in raster order. -/
def rowParts (g : RowCtx) : List (Nat × Nat) → State → List Part × List CompFail × State
  | [], s => ([], [], s)
  | p :: ps, s =>
    let (q, fs, s1) := if g.pic == .canvas then canvasPart g p.1 p.2 s else (plainPart g p.1 p.2, [], s)
    let (qs, more, s2) := rowParts g ps s1
    (q :: qs, fs ++ more, s2)

/-! ### Drawing and packing (R126 to R131, R384 to R386, R90, R91) -/

/-- The colour of a part at canvas pixel `(cx, cy)`, output pixel `(x, y)`. -/
def partPixel (g : RowCtx) (p : Part) (x y : Nat) : Nat × Nat × Nat :=
  let cx := g.vx + x
  let cy := g.vy + y
  let px : Nat × Nat × Nat := rgbOf (leAt p.bytes (sampleOff 7 g.canvas.w g.canvas.h p.cx p.cy 0 (cx - 32 * p.cx) (cy - 32 * p.cy)) 4)
  match p.draw with
  | .live => px
  | .test => testAt g.test px cx cy
  | .purl => purlAt g.colA g.colB none cx cy
  | .overLife => purlAt g.colA g.colB (some px) cx cy
  | .black => (0, 0, 0)
  | .swatch => testAt g.test px cx cy

/-- The colour of output pixel `(x, y)` of a row. -/
def rowPixel (g : RowCtx) (ps : List Part) (x y : Nat) : Nat × Nat × Nat :=
  let cx := (g.vx + x) / 32
  let cy := (g.vy + y) / 32
  match ps.find? fun p => p.cx == cx && p.cy == cy with
  | some p => partPixel g p x y
  | none => (0, 0, 0)

/-- The earliest failing pixel of an egress stitch in SO_TREAT or SO_PACK, in raster order (R82, R84). -/
def packFault (g : RowCtx) (sx : Nat) : List StageFault :=
  g.faults.filter fun f => (f.stage == 0x32 || f.stage == 0x33) && f.sx == sx && f.sy == g.row

/-- The pixels of an egress stitch, line by line: from a failing pixel on they are purl (R84). -/
def stitchLines (g : RowCtx) (ps : List Part) (sx : Nat) : List (List (Nat × Nat × Nat)) :=
  let w := stitchExt (orW g.r) sx
  let cut := ((packFault g sx).map fun f => f.slot).foldl Nat.min (32 * 32)
  (List.range g.h).map fun y => (List.range w).map fun x =>
    if cut ≤ y * w + x then purlAt g.colA g.colB none (g.vx + 32 * sx + x) (g.vy + 32 * g.row + y)
    else rowPixel g ps (32 * sx + x) (32 * g.row + y)

/-- The link components of the lines of an egress stitch. -/
def stitchComps (g : RowCtx) (ls : List (List (Nat × Nat × Nat))) (sx : Nat) : List (List Nat) :=
  (List.range ls.length).map fun y =>
    lineComps (orFormat g.r) (orDepth10 g.r) (orNarrow g.r) (orDither g.r) (32 * sx) (32 * g.row + y) (ls.getD y [])

/-- The egress CRC of a stitch from its components (R91). -/
def egressCrc (ten : Bool) (comps : List (List Nat)) : W32 :=
  w32 (crc32c (comps.flatMap (packComps (if ten then 10 else 8))))

/-- The earliest of some due ticks after a display tick. -/
def earliestDue (disp : Nat) (ds : List Nat) : Option Nat :=
  ds.foldl (fun m d => match m with
    | none => some d
    | some e => if (d + 2 ^ 20 - disp) % 2 ^ 20 < (e + 2 ^ 20 - disp) % 2 ^ 20 then some d else m) none

/-- The parts that an egress stitch of a row shows. -/
def egParts (g : RowCtx) (ps : List Part) (sx : Nat) : List Part :=
  let x0 := g.vx + 32 * sx
  let x1 := x0 + stitchExt (orW g.r) sx - 1
  ps.filter fun p => x0 / 32 ≤ p.cx && p.cx ≤ x1 / 32

/-- The union of some parts' flags. -/
def partFlags (ps : List Part) : Nat := ps.foldl (fun m p => m ||| p.flags) 0

/-- An egress stitch of a row: its verdict over its parts, and its CRC (R124, R90). -/
def egressStitch (g : RowCtx) (ps : List Part) (sx : Nat) : EgStitch × List (List Nat) :=
  let mine := egParts g ps sx
  let stale := mine.filter fun p => p.kind == 2
  let broken := !(packFault g sx).isEmpty
  let comps := stitchComps g (stitchLines g ps sx) sx
  let kind := if broken || !stale.isEmpty then 2 else if mine.any fun p => p.kind == 1 then 1 else 0
  let fl := if broken then partFlags mine ||| flagCUSTODY_FAIL else partFlags mine
  ({ crc := egressCrc (orDepth10 g.r) comps, kind := kind,
     reason := if kind != 2 then 0 else if broken then 1 else (stale.map fun p => p.reason).foldl Nat.min 10,
     flags := fl,
     due := if kind = 0 then earliestDue (g.fullTick % 2 ^ 20) (mine.map fun p => p.due) else none,
     unver := g.hold || hasFlag fl flagUNVERIFIED }, comps)

/-- The failures of SO_TREAT and SO_PACK in a row, with the due tick and the flags of the stitch before them: the earliest and the union
over its parts (R86). -/
def packFails (g : RowCtx) (ps : List Part) : List CompFail :=
  (g.faults.filter fun f => (f.stage == 0x32 || f.stage == 0x33) && f.sy == g.row && f.sx < egCols g.r).map fun f =>
    let mine := egParts g ps f.sx
    { stage := f.stage, still := false, surf := g.o, kind := f.kind, sx := f.sx, sy := f.sy,
      due := (earliestDue (g.fullTick % 2 ^ 20) (mine.map fun p => p.due)).getD 0, flags := partFlags mine }

/-- A row judged and drawn: its stitches, its parts, the failures found, its components line by line. -/
def judgeRow (g : RowCtx) (s : State) : List EgStitch × List Part × List CompFail × List (List Nat) × State :=
  let (ps, fs, s1) := rowParts g (rowCells g) s
  let es := (List.range (egCols g.r)).map (egressStitch g ps)
  let lines := (List.range g.h).map fun y => es.flatMap fun e => e.2.getD y []
  (es.map Prod.fst, ps, fs ++ packFails g ps, lines, s1)

/-! ### The start of a frame -/

/-- The picture of an output in the present mode (R388, R628, R631, R632). -/
def pictureOf (s : State) (x : Output) : Picture :=
  match s.pwr.mode with
  | .safeHold => .safeHold
  | .bindOff => .noSource
  | .maintenance => .swatch
  | .ready => if x.source = 1 then .swatch else .dark
  | _ => .canvas

/-- A V lane of an output is being recalibrated, and one runs a near-end serial loop (R395). -/
def laneBusy (s : State) (o : Nat) : Bool :=
  (outLaneList o (outRec s o)).any fun i => (laneGet s i).ovl == 3 || ((laneGet s i).ovl == 4 && (laneGet s i).loop == 1)

/-- Read-back of an output is unavailable: 2 for its link or the policy OFF, 3 for its lanes, 0 when it is available (R395). -/
def rbUnav (s : State) (o : Nat) : Nat :=
  if !(outGet s o).up || (outGet s o).offTx then 2 else if laneBusy s o then 3 else 0

/-- The frame that row 0 of an output starts now: the first of the present numbering whose fetch is due and that is not begun (R383, R216);
none where it is not to be sent (R215). -/
def frameDue (s : State) (o : Nat) : Option Nat :=
  let fl := flGet s (orGen (outRec s o))
  if !fl.en then none
  else if displayTime fl fl.next ≤ t0Ns s + 80000 then (if (outGet s o).skip == some fl.next then none else some fl.next)
  else if (outGet s o).skip == some (fl.next - 1) then none
  else if fl.next ≤ fl.first || displayTime fl (fl.next - 1) < (outGet s o).enAt + 80000 then none
  else some (fl.next - 1)

/-- The hold of an output ends at a frame boundary once its clear has been accepted; a link that the policy OFF had switched off is
trained again (R391, R392). -/
def holdEnds (o : Nat) (s : State) : State :=
  let x := outGet s o
  if !(x.hold && x.clearing) then s
  else
    let s1 := outSet o { x with hold := false, clearing := false, offTx := false } s
    if x.offTx && x.vhpd then trainBegin o s1 else s1

/-- A pending OUTPUT_VIEW takes effect: the viewport moves, and stale counts restart (R376). -/
def viewMoves (o n : Nat) (s : State) : State :=
  let x := outGet s o
  match x.view with
  | some (m, vx, vy) => if m ≤ n then outSet o { x with view := none, pos := some (vx, vy), stale := [], ladders := [] } s else s
  | none => s

/-- The modes in which the fault policy applies to an output (R20, R393). -/
def policyActs (s : State) : Bool := s.pwr.mode == .solo || s.pwr.mode == .lead || s.pwr.mode == .follow

/-- The context of a row of a frame. -/
def rowCtx (s : State) (o n row : Nat) (faults : List StageFault) : RowCtx :=
  let x := outGet s o
  let r := outRec s o
  let c := canGet s (orCanvas r)
  let fl := flGet s (orGen r)
  let hold := x.hold || x.pic == .safeHold
  let v := outView s o
  let look := frameLook c x.shot n
  { o := o, r := r, n := n, row := row, vx := v.1, vy := v.2, h := stitchExt (orH r) row,
    fullTick := fullTick (rowTime fl (orVTotal r) n row), hold := hold, unver := rbUnav s o != 0 || (x.unav == 3 && !x.maySend), pic := x.pic,
    shot := x.shot, canvas := c, colA := rgbOf look.2.2.1.toNat, colB := rgbOf look.2.2.2.toNat, test := rgbOf s.scan.testColour,
    dark := x.hold && orPolicy r == 1 && policyActs s, lifeOn := !look.1 && c.life != 0, lifeMs := look.2.1, pattern := x.pattern,
    faults := detected faults }

/-- The CRCs of a row. -/
def rowCrcs (r : EgRow) : List W32 := r.stitches.map fun e => e.crc

/-- A row's bits differ from those of the frame before (R125). -/
def rowChanged (x : Output) (row : Nat) (es : List EgStitch) : Bool :=
  match tfind row x.prev with
  | some p => rowCrcs p != es.map fun e => e.crc
  | none => true

/-- Some row of a frame differs, found before its first row leaves (R396). -/
def frameChanged (o n : Nat) (s : State) : Bool :=
  let x := outGet s o
  (List.range (egRows (outRec s o))).any fun row => rowChanged x row (judgeRow (rowCtx s o n row []) s).1

/-- An Adaptive-Sync frame is sent: something changed, or the floor of R396 forces it, in Night only on the stride (R404). -/
def asyncSends (o n : Nat) (s : State) : Bool :=
  let x := outGet s o
  let r := outRec s o
  let fl := flGet s (orGen r)
  let floor := match x.lastSent with
    | some m => 1000000000 < (displayTime fl (n + 1) - displayTime fl m) * orAsyncMin r
    | none => true
  x.whole || frameChanged o n s || (floor && (s.pwr.mode != .night || n % orStride r == 0))

/-- Frame `n` of an output begins with the fetch of its first row. -/
def frameBegin (o n : Nat) (s : State) : State :=
  let c := orCanvas (outRec s o)
  let settled := match (canGet s c).job with
    | some j => if (canGet s c).chase then chaseSettle c n s else if j.frame ≤ n then settle c s else s
    | none => if (canGet s c).chase then chaseSettle c n s else s
  let s1 := viewMoves o n (holdEnds o settled)
  let x := outGet s1 o
  let fl := flGet s1 (orGen (outRec s1 o))
  let f0 := x.frame0.orElse fun _ =>
    match x.trainedAt with
    | some t => if t + 2000000 ≤ displayTime fl n then some n else none
    | none => none
  let may := x.up && !x.offTx && (match f0 with | some f => f ≤ n | none => false) && !laneBusy s1 o
  let k := canGet s1 c
  let pic := pictureOf s1 x
  let shot := if pic == .canvas then k.last else none
  let s2 := outSet o { x with
    cur := some n, pic := pic, shot := shot, frame0 := f0, maySend := may, sendAll := false,
    rescan := !k.chase && (match shot with | some f => f.frame != n | none => false),
    fell := if k.rescan = some n then k.rescanLate else 0,
    again := false, rows := [], prev := x.rows,
    unav := 0, bad := x.hold, rbFailed := 0, cellLive := [], fails := [], testAcc := 0, kaDone := false, audited := false } s1
  outUpd o (fun y => { y with sendAll := may && (x.whole || (!x.pr && !x.async) || (x.async && asyncSends o n s2)) }) s2

/-! ### SCAN_ROW_FETCH -/

/-- The last egress row that shows a pixel of canvas stitch row `cy`. -/
def lastRowOf (r : List W32) (vy cy : Nat) : Nat := Nat.min ((32 * cy + 31 - vy) / 32) (egRows r - 1)

/-- The enabled output that writes a canvas stitch's lifeline: the lowest whose viewport has a pixel of it (R132). -/
def lifeWriter (s : State) (c cx cy : Nat) : Option Nat :=
  (scanners s c).find? fun o =>
    let r := outRec s o
    let v := outView s o
    v.1 < 32 * cx + 32 && 32 * cx < v.1 + orW r && v.2 < 32 * cy + 32 && 32 * cy < v.2 + orH r

/-- The canvas stitch of a part verified once more before its lifeline is written (R79, R82): its payload and tag, or its failures. -/
def lifeVerify (g : RowCtx) (p : Part) (s : State) : Option (List Byte × Nat) × List CompFail × State :=
  match rowSource s (orCanvas g.r) g.shot g.n p.cy with
  | none => (none, [], s)
  | some (buf, _) =>
    let f := canSurf (canGet s (orCanvas g.r)) buf
    let raw := rawTag 15 (soPort g.o) f p.cx p.cy s
    let (r, s1) := fetchStitch 0x31 g.faults 15 (soPort g.o) f p.cx p.cy s
    match r.tag with
    | some t => (some (r.bytes, t), [], s1)
    | none => (none, egFails g 0x31 r.kind p.cx raw, s1)

/-- A canvas stitch is copied into its lifeline slot when its last part has been judged (R132, R133, R54); while its peer
is in Knit-up a Lead sends it over the link as well (R468). Scan-out of the frame before a commit's still writes what it shows
(DESIGN CHOICE, log 66). -/
def lifeWrite (g : RowCtx) (rescan : Bool) (s : State) (p : Part) : State :=
  let c := orCanvas g.r
  let x := canGet s c
  let idx := p.cy * stitchN x.w + p.cx
  let fl := flGet s (orGen g.r)
  let N := Nat.max 1 (g.lifeMs * 1000000 * 2 ^ 32 / period32 fl)
  let due := lastRowOf g.r g.vy p.cy == g.row && (g.n + idx) % N == 0
  let live := tget true (outGet s g.o).cellLive idx && !hasFlag p.flags flagTEST
  if due && live && g.lifeOn && !rescan && !g.hold && g.pic == .canvas && lifeWriter s c p.cx p.cy == some g.o then
    let (v, fs, s1) := lifeVerify g p s
    let fail (l : List CompFail) (st : State) : State := if l.isEmpty then st else outUpd g.o (fun y => { y with fails := y.fails ++ l }) st
    match v with
    | none => fail fs s1
    | some (bs, ct) =>
      let t := tick (displayTime fl g.n)
      let tag := tagWord (tagCrc ct) t 0
      let (bad, s2) := writeStitch 0x31 g.faults 15 soLifePort (lifeSurf x) p.cx p.cy bs tag s1
      if bad then fail (egFails g 0x31 5 p.cx tag) (canUpd c (fun k => { k with lives := k.lives.filter fun l => l.1 != idx }) s2)
      else
        let s3 := canUpd c (fun k => { k with lives := tset idx t k.lives }) s2
        if s.pwr.mode == .lead && s.pair.linkUp && s.pair.peerMode == 7 then
          send (.corler 4 (pack [(31, 24, c), (19, 0, t)] :: w32 idx :: wordsOf (bs.length / 4) bs)) s3
        else s3
  else s

/-- Whether a part of each canvas stitch has been other than live in the frame. -/
def cellsSeen (g : RowCtx) (ps : List Part) (t : Tab Bool) : Tab Bool :=
  ps.foldl (fun t p => tupd true (p.cy * stitchN g.canvas.w + p.cx) (fun b => b && p.kind == 0) t) t

/-- Row `row` of the frame in progress is fetched, judged, drawn, and sent or not. -/
def rowFetch (o row : Nat) (env : ScanEnv) (s : State) : State :=
  let x := outGet s o
  match x.cur with
  | none => s
  | some n =>
    let un := rbUnav s o
    let g := rowCtx s o n row env.faults
    let (es, ps, fs, lines, s1) := judgeRow g s
    let sent := x.maySend && un == 0 && (x.sendAll || (x.pr && rowChanged x row es))
    let e : EgRow := { stitches := es, at_ := rowTime (flGet s (orGen g.r)) (orVTotal g.r) n row, sent := sent }
    let acc := if x.echo && echoWanted s g.r then lines.foldl Config.testCrc x.testAcc else x.testAcc
    let y := outGet s1 o
    let s2 := outSet o { y with
      rows := tset row e y.rows, unav := if x.unav = 0 then un else x.unav, cellLive := cellsSeen g ps y.cellLive,
      fails := y.fails ++ fs, testAcc := acc } s1
    if g.pic == .canvas then ps.foldl (lifeWrite g x.rescan) s2 else s2

/-- SCAN_ROW_FETCH: rows of a frame are fetched in order, row 0 beginning the frame; a fetch before D(n, r) − 80 µs, or of another
row, changes nothing (log 2). -/
def scanRow (o row : Nat) (env : ScanEnv) (s : State) : State :=
  let x := outGet s o
  let r := outRec s o
  if !x.en || !works s (outDomain o) || egRows r ≤ row then s
  else if row = 0 then
    match frameDue s o with
    | none => s
    | some n =>
      if (x.cur == some n && !x.again) || !(x.audited || x.rows.length < egRows r) then s
      else rowFetch o 0 env (frameBegin o n s)
  else match x.cur with
    | none => s
    | some n =>
      if x.rows.length != row || t0Ns s + 80000 < rowTime (flGet s (orGen r)) (orVTotal r) n row then s
      else rowFetch o row env s

/-- SCAN_ROW_FETCH (R383). -/
def execScanRowFetch (output row : Nat) (env : ScanEnv) (s : State) : Res := .next (scanRow (output % 48) row env s)

end Sys2Proof.Machine
end

