-- ==== Sys2Proof/Machine/FrameEnd.lean ====
section
/-! DEFINITION. What happens to a frame at its display time and after its rows: sending, LAYOUT_APPLIED, Night pulses (R211, R362,
R405), read-back and OUTPUT_FAULT (R389 to R393), keep-alive packets (R399 to R401), the audit entry and the verdict events
(R135 to R139, R431 to R433). -/

namespace Sys2Proof.Machine

/-! ### FRAME_DISPLAY_START -/

/-- At D(n) the blanking of frame n is still whole (R215), and a frame begun by an output is sent or withheld for its lanes (R706). -/
def frameLanes (n : Nat) (s : State) (o : Nat) : State :=
  let x : Output := { outGet s o with absorbed := 0 }
  if x.cur != some n then outSet o x s
  else if laneBusy s o then
    outSet o { x with maySend := false, whole := true, unav := if x.unav = 0 then 3 else x.unav,
                      rows := x.rows.map fun r => (r.1, { r.2 with sent := false }) } s
  else if x.unav == 3 && !x.maySend && x.up && !x.offTx && (match x.frame0 with | some f => f ≤ n | none => false) then
    outSet o { x with maySend := true, sendAll := true, rows := x.rows.map fun r => (r.1, { r.2 with sent := true }) } s
  else outSet o x s

/-- A canvas whose job's frame is due is settled at its display time (R110). -/
def frameSettle (g n : Nat) (s : State) (c : Nat) : State :=
  match (canGet s c).job with
  | some j => if !(canGet s c).chase && canvasGen s c == some g && j.frame ≤ n then settle c s else s
  | none => s

/-- A canvas shows its first frame under new banks: its pending bank takes a copy of the active one and opens (R362). -/
def bankShown (s : State) (k : Commit) (n c : Nat) : Bool :=
  let x := canGet s c
  k.done.contains c && !k.shown.contains c &&
    (if x.chase then k.frame ≤ n else match x.last with | some f => k.frame ≤ f.frame | none => false)

/-- The commits of a generator at D(n): canvases shown for the first time, LAYOUT_APPLIED when all of a commit's are (R362, R363). -/
def commitsShown (g n : Nat) (s : State) : State :=
  let one (acc : State × List Commit) (k : Commit) : State × List Commit :=
    if k.gen != g then (acc.1, acc.2 ++ [k])
    else
      let now := (canvasesOf k.mask).filter (bankShown acc.1 k n)
      let s1 := now.foldl (fun st c => canUpd c (fun x => { x with pend := x.active, closed := false }) st) acc.1
      let k' := { k with shown := k.shown ++ now, first := if now.isEmpty then k.first else n }
      if !now.isEmpty && (canvasesOf k.mask).all fun c => k'.shown.contains c then
        (raise 0x20 [k.id, w32 k.frame, w32 n, w32 k.mask.toNat, w32 (k.mask.toNat / 2 ^ 32)] s1, acc.2)
      else (s1, acc.2 ++ [k'])
  let (s1, ks) := s.comp.commits.foldl one (s, [])
  withComp s1 { s1.comp with commits := ks }

/-- The Night pacing pulses of a frame (R405). The manual states no width for them: a free value. -/
def nightPulses (g n : Nat) (s : State) : State :=
  if s.pwr.mode != .night then s
  else
    (s.lane.claims.filter fun k => k.use == 3 && (outGet s k.output).en && orGen (outRec s k.output) == g &&
        n % orStride (outRec s k.output) == 0).foldl (fun st k =>
      let (w, st1) := takeFree st
      send (.pulse k.pin 0 (displayTime (flGet s g) n) w.toNat) st1) s

/-- A grid frame of the reference generator in phase 5 of a knit-up: it counts when every output that both modules have enabled gave
Match or Excused, the configuration digests agree and the module is fit (R469). -/
def proofStep (g : Nat) (s : State) : State :=
  let u := s.pair
  if s.pwr.mode != .knitUp || u.phase != 5 || g != u.refGen then s
  else
    let both := (s.scan.outs.filter fun x => x.2.en && u.peerSeen.contains x.1).map Prod.fst
    let good := pairFit s && both.all fun o => tget 0 u.cmpLast o == 1 || tget 0 u.cmpLast o == 2
    withPair s { u with proofFrames := if good then u.proofFrames + 1 else 0 }

/-- FRAME_DISPLAY_START: a generator reaches D(n) of its next frame. -/
def frameStart (g : Nat) (s : State) : State :=
  let x := flGet s g
  let n := x.next
  if !x.en || x.num == 0 || t0Ns s < displayTime x n then s
  else
    let outs := (s.scan.outs.filter fun y => y.2.en && orGen (outRec s y.1) == g).map Prod.fst
    let s1 := outs.foldl (frameLanes n) (flSet g { x with next := n + 1 } s)
    let s2 := (s1.comp.canvases.map Prod.fst).foldl (frameSettle g n) s1
    nightPulses g n (proofStep g (commitsShown g n s2))

/-- FRAME_DISPLAY_START (R211). -/
def execFrameDisplayStart (gen : Nat) (s : State) : Res := .next (frameStart (gen % 8) s)

/-! ### Lane recalibration of a sending output (R706) -/

/-- The frame in progress is over for the pins: its rows are judged, those sent are compared, its keep-alive set has gone. -/
def frameQuiet (s : State) (o : Nat) : Bool :=
  let x := outGet s o
  let r := outRec s o
  x.cur.isNone || (x.rows.length == egRows r && (x.rows.all fun y => !y.2.sent || y.2.rb != 0) && (x.kaDone || !orKa r))

/-- A lane's recalibration starts. -/
def recalStart (s : State) (i : Nat) : State :=
  laneEnter 3 1 i (laneUpd i (fun x => { x with recals := sat16 (x.recals + 1) }) s)

/-- Recalibrations that wait for the end of an output's frame start. -/
def recalWaiting (o : Nat) (s : State) : State :=
  if frameQuiet s o then
    ((outLaneList o (outRec s o)).filter fun i => (laneGet s i).wait).foldl recalStart s
  else s

/-! ### Read-back (R389 to R393) -/

/-- OUTPUT_FAULT and its hold, unless one stands (R390 to R393), with the policy OFF in the modes that have one (R20): cause, egress row and column of the first failed stitch, its CRCs. -/
def outputFault (o cause sy sx : Nat) (crc got : W32) (s : State) : State :=
  let x := outGet s o
  if x.hold then s
  else
    let p := orPolicy (outRec s o)
    let swap := s.pwr.mode == .lead && s.pair.peerFit
    let x1 := { x with hold := true, clearing := false }
    let x2 := if p = 2 && policyActs s then { x1 with offTx := true, up := false, training := false, trainFailed := none } else x1
    let s1 := outSet o x2 s
    let s2 := if swap && s.pair.want.isNone then withPair s1 { s1.pair with want := some (.outputFault o) } else s1
    raise 0x24 [pack [(31, 26, o), (25, 24, cause), (23, 22, p), (21, 21, b1 swap)], w32 (x.cur.getD 0),
      pack [(31, 24, sy), (23, 16, sx), (15, 0, sat16 x.rbFailed)], crc, got] s2

/-- The time at which the last line of an egress row has left. -/
def rowEnd (s : State) (o n row : Nat) : Nat :=
  let r := outRec s o
  let fl := flGet s (orGen r)
  displayTime fl n + (32 * row + stitchExt (orH r) row) * line32 fl (orVTotal r) / 2 ^ 32

/-- The Follow's side of a pair: Follow itself, or the module of a drill that does not drive LEAD_OUT. -/
def followSide (s : State) : Bool := s.pwr.mode == .follow || (s.pwr.mode == .drill && !s.pair.leadOut)

/-- The Lead's side: Lead itself, or the module of a drill that drives LEAD_OUT. -/
def leadSide (s : State) : Bool := s.pwr.mode == .lead || (s.pwr.mode == .drill && s.pair.leadOut)

/-- The time at which the last active line of an output's frame ends. -/
def activeEnd (s : State) (o n : Nat) : Nat :=
  let r := outRec s o
  let fl := flGet s (orGen r)
  displayTime fl n + orH r * line32 fl (orVTotal r) / 2 ^ 32

/-- The gap of an output at the pins whose first complete frame from the new Lead is `n`, in ns (R28): from the last line of the last
frame that the other module can have sent complete. -/
def outputGap (s : State) (o n : Nat) : Nat :=
  let fl := flGet s (orGen (outRec s o))
  let span := activeEnd s o 0 - displayTime fl 0
  displayTime fl n - activeEnd s o (firstFrame fl (s.pair.gapOld - span + 1) - 1)

/-- A switch-over gap ends for the module once each of its sending outputs has sent a frame of its own as Lead whole, with its read-back
passed (R502); each output's gap at the pins is measured then (R28). -/
def gapCheck (o : Nat) (s : State) : State :=
  let x := outGet s o
  match s.pair.gap, x.cur with
  | some t, some n =>
    if leadSide s && t ≤ displayTime (flGet s (orGen (outRec s o))) n && x.rows.length == egRows (outRec s o) &&
        x.rows.all fun y => y.2.sent && y.2.rb == 1 then
      let u := if s.pair.gapDone.contains o then s.pair
        else { s.pair with gapDone := o :: s.pair.gapDone, gaps := tset o (outputGap s o n) s.pair.gaps }
      if s.scan.outs.all fun y => !(y.2.en && y.2.up) || u.gapDone.contains y.1 then withPair s { u with gap := none, gapDone := [] }
      else withPair s u
    else s
  | _, _ => s

/-- READBACK_COMPARE: a sent row is compared. `seen` gives, for the stitches that the sampler did not decode as they were sent, their
components line by line; from these the CRC is formed as at the egress point (R91, R92). -/
def readbackCompare (o row : Nat) (seen : List (Nat × List (List Nat))) (s : State) : State :=
  let x := outGet s o
  match x.cur, tfind row x.rows with
  | some n, some e =>
    if !x.en || !e.sent || e.rb != 0 || !x.up || x.offTx || t0Ns s < rowEnd s o n row then s
    else
      let read := seen.map fun b => (b.1, egressCrc (orDepth10 (outRec s o)) b.2)
      let wrong := read.filter fun b => b.1 < e.stitches.length && (e.stitches.getD b.1 {}).crc != b.2
      let k := wrong.length
      let y := { x with rows := tset row { e with rb := if k = 0 then 1 else 2 } x.rows, rbFailed := x.rbFailed + k,
                        rbFail := sat32 (x.rbFail + k), bad := x.bad || k != 0 }
      let s1 := outSet o y s
      let s2 := match wrong with
        | b :: _ => outputFault o 1 row b.1 (e.stitches.getD b.1 {}).crc b.2 s1
        | [] => s1
      recalWaiting o (gapCheck o s2)
  | _, _ => s

/-- READBACK_COMPARE (R389). -/
def execReadbackCompare (output row : Nat) (seen : List (Nat × List (List Nat))) (s : State) : Res :=
  .next (readbackCompare (output % 48) row seen s)

/-- READBACK_LOCK_LOSS: the sampler loses symbol lock on a sending lane. The row being sent fails as a whole; its stitches have no
read-back CRC, so the event carries a free value (log 27). -/
def lockLoss (o : Nat) (s : State) : State :=
  let x := outGet s o
  if !x.en || !x.up || x.offTx || laneBusy s o || !works s (outDomain o) then s
  else
    let (w, s1) := takeFree s
    match x.rows.find? fun y => y.2.sent && y.2.rb == 0 with
    | some (row, e) =>
      let k := e.stitches.length
      let y := { x with rows := tset row { e with rb := 2 } x.rows, rbFailed := x.rbFailed + k, rbFail := sat32 (x.rbFail + k),
                        bad := true }
      outputFault o 2 row 0 (e.stitches.getD 0 {}).crc w (outSet o y s1)
    | none => outputFault o 2 0 0 0 w (outSet o { x with bad := true } s1)

/-- READBACK_LOCK_LOSS (R390). -/
def execReadbackLockLoss (output : Nat) (s : State) : Res := .next (lockLoss (output % 48) s)

/-! ### Keep-alive packets (R399 to R401) -/

/-- The entries of a frame's keep-alive set in row order: row, whether it was sent, alive counter, row CRC (R401). -/
def keepEntries (x : Output) (n f0 : Nat) : List (Nat × Bool × Nat × Nat) :=
  x.rows.map fun r => (r.1, r.2.sent, (n - f0) % 2 ^ 16, crc32c (wordBytes (rowCrcs r.2)))

/-- One packet's bytes PB0 to PB27 (Table 09-6), of at most three entries. The checksum makes HB0 to HB3's counted bytes and PB0 to
PB27 sum to 0 modulo 256 (CTA-861; PRESUMED, log 28). -/
def keepPacket (timeout : Nat) (es : List (Nat × Bool × Nat × Nat)) : List Byte :=
  let sent := (List.range es.length).foldl (fun m i => m + b1 ((es.getD i (0, false, 0, 0)).2.1) * 2 ^ i) 0
  let head : List Byte := [0x3A, 0xD7, 0x41, BitVec.ofNat 8 (64 + sent * 8 + es.length)] ++ bytesLE 2 timeout
  let body := padB 27 (head ++ es.flatMap fun e => bytesLE 1 e.1 ++ bytesLE 2 e.2.2.1 ++ bytesLE 4 e.2.2.2)
  let sum := body.foldl (fun m b => m + b.toNat) (0x81 + 0x01 + 27)
  BitVec.ofNat 8 (256 - sum % 256) :: body

/-- Entries three to a packet. -/
def keepPackets (timeout : Nat) (es : List (Nat × Bool × Nat × Nat)) : List (List Byte) :=
  (List.range (ceilDiv es.length 3)).map fun i => keepPacket timeout ((es.drop (3 * i)).take 3)

/-- KEEPALIVE_SET: after the last active line of a frame, sent or not. -/
def keepAlive (o : Nat) (s : State) : State :=
  let x := outGet s o
  let r := outRec s o
  match x.cur, x.frame0 with
  | some n, some f0 =>
    if !x.en || !orKa r || x.kaDone || n < f0 || x.rows.length != egRows r || t0Ns s < activeEnd s o n || !works s (outDomain o) then s
    else
      let s1 := outSet o { x with kaDone := true } s
      let s2 := if x.up && !x.offTx && !laneBusy s o then
          (keepPackets (orKaTimeout r) (keepEntries x n f0)).foldl (fun st p => send (.keepAlive o p) st) s1
        else s1
      recalWaiting o s2
  | _, _ => s

/-- KEEPALIVE_SET (R399). -/
def execKeepaliveSet (output : Nat) (s : State) : Res := .next (keepAlive (output % 48) s)

/-! ### The end of a frame: verdict events and the audit entry -/

/-- The egress stitches of a frame with their keys (row × 256 + column). -/
def frameStitches (rows : Tab EgRow) : List (Nat × EgStitch) :=
  rows.flatMap fun r => (List.range r.2.stitches.length).map fun i => (r.1 * 256 + i, r.2.stitches.getD i {})

/-- The frame digest (R93). -/
def frameDigest (rows : Tab EgRow) : W32 := w32 (crc32c (wordBytes (rows.flatMap fun r => rowCrcs r.2)))

/-- A verdict event over some stitches (R137, R139); none when there are none. Its mask holds the one reason that each stitch is counted
under (DESIGN CHOICE, log 66). -/
def verdictEvent (code o n : Nat) (es : List (Nat × EgStitch)) (mask : Bool) (s : State) : State :=
  match es with
  | [] => s
  | e :: _ =>
    let m := if mask then es.foldl (fun m x => m ||| 2 ^ reasonBit x.2.reason) 0 else 0
    let lo (f : Nat → Nat) : Nat := es.foldl (fun a x => Nat.min a (f x.1)) (f e.1)
    let hi (f : Nat → Nat) : Nat := es.foldl (fun a x => Nat.max a (f x.1)) 0
    raise code [pack [(31, 26, o)], w32 n, pack [(31, 16, sat16 es.length), (15, 0, m)],
      pack [(31, 24, lo (· / 256)), (23, 16, lo (· % 256)), (15, 8, hi (· / 256)), (7, 0, hi (· % 256))]] s

/-- What a frame leaves of the consecutive-stale counts: the counts, the stitches in a reported ladder, those dropped, those that
form a ladder now and those whose ladder ends (R135 to R137). -/
structure LadderStep where
  stale : Tab Nat
  ladders : List Nat
  dropped : List (Nat × EgStitch)
  formed : List (Nat × EgStitch)
  ended : List (Nat × EgStitch)
deriving DecidableEq, Repr

/-- The stitch was stale in the frame before. -/
def wasStale (x : Output) (key : Nat) : Bool :=
  match tfind (key / 256) x.prev with
  | some r => (r.stitches.getD (key % 256) {}).kind == 2
  | none => false

/-- The counts taken over one frame (R135, R136). In frame 0 every stale stitch is dropped. -/
def ladderStep (x : Output) (len : Nat) (first : Bool) (es : List (Nat × EgStitch)) : LadderStep :=
  let stale := es.filter fun e => e.2.kind == 2
  let old (k : Nat) : Nat := if first then 0 else tget 0 x.stale k
  let counts : Tab Nat := stale.map fun e => (e.1, satTo 65536 (old e.1 + 1))
  let formed := stale.filter fun e => tget 0 counts e.1 == len + 1 && !(x.ladders.contains e.1)
  let kept := x.ladders.filter fun k => (tfind k counts).isSome
  { stale := counts, ladders := kept ++ formed.map Prod.fst,
    dropped := stale.filter fun e => first || !wasStale x e.1,
    formed := formed,
    ended := es.filter fun e => e.2.kind != 2 && x.ladders.contains e.1 }

/-- The slipped stitches of a frame (R138): a rescan with the layers that fell back in the frame abandoned, or the layers that fell back or
underran and the chase rows repeated. -/
def slippedCount (s : State) (o n : Nat) : Nat :=
  let x := outGet s o
  let r := outRec s o
  let k := canGet s (orCanvas r)
  let v := (outView s o).2
  let shownRows (l : List Nat) : Nat := (l.filter fun i => v / 32 ≤ i && i ≤ (v + orH r - 1) / 32).length
  if x.pic != .canvas || x.shot.isNone then 0
  else if x.rescan then 1 + x.fell
  else if !k.chase then match x.shot with | some f => f.late + f.under | none => 0
  else match chaseJob k n, k.last with
    | some j, _ => (fellBack j).length + j.under.length + shownRows j.missed
    | none, some f => if f.frame = n then f.late + f.under + shownRows f.missed else 0
    | none, none => 0

/-- The READBACK code of a frame (R433). -/
def readbackCode (x : Output) : Nat := if x.bad then 1 else x.unav

/-- Words 0 to 13 of an output's audit entry (Table 10-6). -/
def outputEntry (s : State) (o n : Nat) (l : LadderStep) (slipped : Nat) : List W32 :=
  let x := outGet s o
  let d := displayTime (flGet s (orGen (outRec s o))) n
  let es := frameStitches x.rows
  let count (p : EgStitch → Bool) : Nat := sat16 (es.filter fun e => p e.2).length
  let stale (k : Nat) : Nat := count fun e => e.kind == 2 && e.reason == k
  let live (f : Nat) : Nat := count fun e => e.kind == 0 && hasFlag e.flags f
  [pack [(31, 28, 1), (27, 22, o), (21, 18, modeNum s.pwr.mode), (17, 16, t0Worst (d - 80000) (activeEnd s o n) s), (14, 13, readbackCode x),
     (12, 12, b1 x.rescan)],
   w32 n, w32 (d / 1000000000), w32 (d % 1000000000), frameDigest x.rows,
   pack [(31, 16, count fun e => e.kind == 0), (15, 0, count fun e => e.kind == 1)]] ++
  ((List.range 5).map fun i => pack [(31, 16, stale (2 * i + 2)), (15, 0, stale (2 * i + 1))]) ++
  [pack [(31, 16, live flagARRIVAL_TIMED), (15, 0, live flagDEGRADED)],
   pack [(31, 16, sat16 slipped), (15, 0, sat16 l.dropped.length)],
   pack [(31, 16, sat16 l.ladders.length), (15, 0, sat16 x.rbFailed)]]

/-- The custody reports of a frame's scan-out stages (R85, R88). -/
def scanReport (o n : Nat) (fails : List CompFail) (s : State) : State :=
  [0x30, 0x31, 0x32, 0x33].foldl (fun st g => custodyReport g 15 o 0 o n (failuresOf fails g false o) st) s

/-- A frame of an output ends: its reports, its verdict events, its audit entry, its digest record. -/
def frameFinish (o n : Nat) (s : State) : State :=
  let x := outGet s o
  let r := outRec s o
  let es := frameStitches x.rows
  let counting : Bool := match x.frame0 with | some f => decide (f ≤ n) | none => false
  let l : LadderStep :=
    if counting then ladderStep x (orLadder r) (x.frame0 == some n) es
    else { stale := x.stale, ladders := x.ladders, dropped := [], formed := [], ended := [] }
  let slipped := slippedCount s o n
  let s1 := scanReport o n x.fails s
  let s2 := verdictEvent 0x05 o n l.ended false (verdictEvent 0x04 o n l.formed true (verdictEvent 0x03 o n l.dropped true s1))
  let s3 := auditWrite (outputEntry s2 o n l slipped) s2
  let all := !x.rows.isEmpty && x.rows.all fun y => y.2.sent
  let s4 := outSet o { x with
    audited := true, stale := l.stale, ladders := l.ladders, last := w32 n, lastRb := readbackCode x,
    lastSent := if all then some n else x.lastSent, whole := x.whole && !all,
    testCrcs := if all && x.echo && echoWanted s r then (x.testAcc :: x.testCrcs).take 16 else x.testCrcs,
    purlFrames := if x.pic == .noSource then x.purlFrames + 1 else 0 } s3
  ownDigest { output := o, frame := w32 n, digest := frameDigest x.rows, slipped := slipped, rescan := x.rescan,
              readback := readbackCode x } s4

/-- AUDIT_ENTRY_WRITE: after a frame's last active line, once its sent rows are compared. -/
def auditEntry (o : Nat) (s : State) : State :=
  let x := outGet s o
  match x.cur with
  | none => s
  | some n =>
    let compared := x.rows.all fun y => !y.2.sent || y.2.rb != 0 || !x.up || x.offTx
    if !x.en || x.audited || x.rows.length != egRows (outRec s o) || !compared || (!x.again && t0Ns s < activeEnd s o n) ||
        !works s (outDomain o) then s
    else recalWaiting o (frameFinish o n s)

/-- AUDIT_ENTRY_WRITE (R431). -/
def execAuditEntryWrite (output : Nat) (s : State) : Res := .next (auditEntry (output % 48) s)

end Sys2Proof.Machine
end

