-- ==== Sys2Proof/Machine/TouchOps.lean ====
section
/-! DEFINITION. Touch panels and their records (Tables 12-1, 12-2), TOUCH_STATE (R509), and what a change of power state or mode does
to them (R498, R499, R621). -/

namespace Sys2Proof.Machine

/-- The block with its touch unit replaced. -/
def withTouch (s : State) (u : TouchUnit) : State := { s with touch := u }

/-- Panel `p`. -/
def tpGet (s : State) (p : Nat) : TouchPanel := tget {} s.touch.panels p

/-- The block with a panel replaced, or changed by a function. -/
def tpSet (p : Nat) (x : TouchPanel) (s : State) : State :=
  withTouch s { s.touch with panels := tset p x s.touch.panels }
def tpUpd (p : Nat) (f : TouchPanel → TouchPanel) (s : State) : State := tpSet p (f (tpGet s p)) s

/-- Engine `e`. -/
def teGet (s : State) (e : Nat) : TouchEngine := tget {} s.touch.engines e

/-- The block with an engine replaced. -/
def teSet (e : Nat) (x : TouchEngine) (s : State) : State :=
  withTouch s { s.touch with engines := tset e x s.touch.engines }

/-! ### Panel records (Table 12-2) -/

def prPanel (r : List W32) : Nat := fld (wd r 0) 31 29
def prDrv (r : List W32) : Nat := fld (wd r 0) 28 22
def prSns (r : List W32) : Nat := fld (wd r 0) 21 16
def prSuppress (r : List W32) : Bool := bitOf (wd r 0) 15
def prNight (r : List W32) : Bool := bitOf (wd r 0) 14
def prStart (r : List W32) : Nat := fld (wd r 0) 13 11
def prOutput (r : List W32) : Nat := fld (wd r 0) 10 5
def prPf0 (r : List W32) : Bool := bitOf (wd r 0) 4
def prPf1 (r : List W32) : Bool := bitOf (wd r 0) 3
def prApproach (r : List W32) : Nat := orDefault 60 (fld (wd r 1) 31 16)
def prThr (r : List W32) : Nat := orDefault 120 (fld (wd r 1) 15 0)
def prLong (r : List W32) : Nat := fld (wd r 2) 31 16
def prDrift (r : List W32) : Nat := orDefault 10 (fld (wd r 2) 15 8)
def prIdle (r : List W32) : Nat := orDefault 30 (fld (wd r 2) 7 0)
def prSplit (r : List W32) : Bool := bitOf (wd r 3) 31
def prPhase (r : List W32) : Nat := fld (wd r 3) 22 0
/-- A calibration coefficient, 0 for a to 5 for f (R500). -/
def prCal (r : List W32) (i : Nat) : Int := sext 32 (wd r (4 + i)).toNat

/-- Engine `e` runs two panels; SPLIT and PHASE come from panel 2e's record (R481). -/
def teSplit (s : State) (e : Nat) : Bool := prSplit (tpGet s (2 * e)).rcd
def tePhase (s : State) (e : Nat) : Nat := prPhase (tpGet s (2 * e)).rcd

/-! ### TOUCH_STATE -/

/-- The state of a panel as reported: a running panel with faulty electrodes is impaired (R506). -/
def tpCode (x : TouchPanel) : Nat := if x.st = 2 && !(x.badDrv.isEmpty && x.badSns.isEmpty) then 5 else x.st

/-- P0 of TOUCH_STATE (Table 12-9). -/
def touchWord (p : Nat) (x : TouchPanel) : W32 := pack [(31, 29, p), (28, 25, tpCode x), (24, 24, b1 x.refOk)]

/-- TOUCH_STATE for a panel: each change of its state raises it (R489, R506; DEDUCED for the other changes, log 29). -/
def touchEvent (p : Nat) (s : State) : State :=
  let x := tpGet s p
  raise 0x36 [touchWord p x, pack [(31, 16, sat16 x.present.length), (15, 0, sat16 x.higher.length)]] s

/-! ### Ganged and full scanning (R498, R499, R621) -/

/-- A panel's contacts end without a report. -/
def tpDrop (x : TouchPanel) : TouchPanel := { x with contacts := [], low := [], noisy := 0, hop := none }

/-- A panel changes to ganged scanning. -/
def gangEnter (p : Nat) (s : State) : State :=
  touchEvent p (tpUpd p (fun x => { tpDrop x with st := 3, gangs := 0, bands := [], near := 0 }) s)

/-- A panel returns to full scanning, with the baselines it had before; its idle time counts anew from `now`. -/
def gangLeave (now p : Nat) (s : State) : State :=
  touchEvent p (tpUpd p (fun x => { x with st := 2, idleAt := now }) s)

/-- Every ganged panel returns to full scanning (leaving Night, R499; the return to Run). -/
def gangsLeave (s : State) : State :=
  let now := if s.tb.state == .unset then t2Ns s else t0Ns s
  ((s.touch.panels.filter fun x => x.2.st == 3).map Prod.fst).foldl (fun st p => gangLeave now p st) s

/-- Entry step 1 for the touch panels (Table 15-8): running ones with NIGHT_SCAN set change to ganged scanning, the others stop: the
scan under way ends without a result, and with it the others' contacts. -/
def touchQuiesce (s : State) : State :=
  let s1 := withTouch s { s.touch with engines := s.touch.engines.map fun e => (e.1, { e.2 with cur := none }) }
  let s2 := ((s1.touch.panels.filter fun x => x.2.st == 2 && prNight x.2.rcd).map Prod.fst).foldl (fun st p => gangEnter p st) s1
  withTouch s2 { s2.touch with panels := s2.touch.panels.map fun x => (x.1, if x.2.st = 2 then tpDrop x.2 else x.2) }

end Sys2Proof.Machine
end

