-- ==== Sys2Proof/Machine/ModeOps.lean ====
section
/-! DEFINITION. What every change of operating mode or of power state shares: MODE_CHANGE (R629, R639), entering Safe hold (R630, R631),
the lanes and isolation of a domain (R615 to R617, R698). -/

namespace Sys2Proof.Machine

/-- The block with its power unit replaced. -/
def withPwr (s : State) (u : PowerUnit) : State := { s with pwr := u }

/-! ### Lanes by domain (Tables 18-1, 18-3) -/

/-- The power domain of a lane. -/
def laneDomain (i : Nat) : Nat :=
  if i < 24 then 10 else if i < 48 then 11 else if i < 64 then 5 else if i < 72 then 4 else if i < 80 then 3 else 14

/-- The calibrated lanes that a condition selects. -/
def lanesWhere (s : State) (p : Nat → Bool) : List Nat := (List.range 84).filter fun i => p i && (laneGet s i).cal

/-- Lanes become deep. Table 18-7 names no cause for it, so no LANE_STATE is raised (log 30). -/
def lanesDeep (p : Nat → Bool) (s : State) : State :=
  (lanesWhere s p).foldl (fun st i => laneUpd i (fun x => { x with ovl := 2, cause := 0, since := t2Ns st, wait := false }) st) s

/-- Deep lanes start their fast recalibration for a cause (R616, R699). -/
def lanesWake (cause : Nat) (p : Nat → Bool) (s : State) : State :=
  (lanesWhere s fun i => p i && (laneGet s i).ovl == 2).foldl (fun st i => laneEnter 3 cause i st) s

/-- A domain leaves service into retention, isolated (R615, R617). -/
def domainDown (d : Nat) (s : State) : State :=
  let m := w32 (2 ^ d)
  lanesDeep (fun i => laneDomain i == d)
    (withPwr s { s.pwr with domains := s.pwr.domains &&& ~~~m, iso := s.pwr.iso ||| m, rising := s.pwr.rising &&& ~~~m })

/-- A domain is switched on: it will be ready (R616). -/
def domainUp (d : Nat) (s : State) : State :=
  if bitOf s.pwr.domains d then s else withPwr s { s.pwr with rising := s.pwr.rising ||| w32 (2 ^ d) }

/-! ### The slot indicator (R642, R647) -/

/-- The block with its boot unit replaced. -/
def withBoot (s : State) (b : Boot) : State := { s with boot := b }

/-- The copy in force: the valid one with the higher SEQ; none when neither is valid. -/
def indCopy (b : Boot) : Option SlotInd :=
  if b.ind0.valid && b.ind1.valid then (if b.ind0.seq.toNat < b.ind1.seq.toNat then some b.ind1 else some b.ind0)
  else if b.ind0.valid then some b.ind0
  else if b.ind1.valid then some b.ind1
  else none

/-- The indicator as the ROM takes it. -/
def indGet (b : Boot) : SlotInd := (indCopy b).getD {}

/-- An update of the indicator: into the copy with the lower SEQ, or the invalid one, with SEQ one higher than the copy it supersedes. -/
def indWrite (x : SlotInd) (b : Boot) : Boot :=
  let y := { x with valid := true, seq := (indGet b).seq + 1 }
  if !b.ind0.valid then { b with ind0 := y }
  else if !b.ind1.valid then { b with ind1 := y }
  else if b.ind0.seq.toNat < b.ind1.seq.toNat then { b with ind0 := y } else { b with ind1 := y }

/-- A firmware slot. -/
def slotOfBoot (b : Boot) (n : Nat) : SlotImage := if n = 0 then b.slot0 else b.slot1

/-- FW_STATE (Table 16-7) of a slot. -/
def fwWords (cause slot verdict fails : Nat) (b : Boot) : List W32 :=
  [pack [(31, 24, cause), (23, 23, slot), (22, 20, verdict), (19, 18, fails)], (slotOfBoot b slot).version, (slotOfBoot b slot).build]

/-- Every entry to Ready: with TRIAL or FAILS set the indicator is written, and a trial is committed (R647). -/
def trialCommit (s : State) : State :=
  let i := indGet s.boot
  if !i.trial && i.fails = 0 then s
  else
    let b := indWrite { i with trial := false, fails := 0, prevOk := true } s.boot
    let s1 := withBoot s b
    if i.trial then raise 0x58 (fwWords 4 i.active 0 0 b) s1 else s1

/-! ### Modes -/

/-- MODE_CHANGE and the new mode (R629, Table 15-17): cause, Safe-hold cause, port or initiator. LEAD_OUT follows it (R442). Leaving
Night ends ganged scanning (R499); leaving Maintenance returns VCORE to firmware (R613); an entry to Ready commits a trial (R647). -/
def setMode (new : Mode) (cause sh port : Nat) (s : State) : State :=
  let old := s.pwr.mode
  let s1 := withPair (withPwr s { s.pwr with mode := new, auto := s.pwr.auto || old == .maintenance })
    { s.pair with leadOut := new == .lead }
  let s2 := raise 0x51 [pack [(31, 28, modeNum new), (27, 24, modeNum old), (23, 16, cause), (15, 8, sh), (7, 0, port)]] s1
  let s3 := if new == .ready then trialCommit s2 else s2
  if old == .night then gangsLeave s3 else s3

/-- A mode from Ready to Maintenance (3 to 10): one that a Safe-hold cause ends (Table 15-11). -/
def holdable (m : Mode) : Bool := 3 ≤ modeNum m && modeNum m ≤ 10

/-- A mask of outputs in two words. -/
def outputMask (os : List Nat) : List W32 :=
  let m := os.foldl (fun m o => m ||| 2 ^ o) 0
  [w32 m, w32 (m / 2 ^ 32 % 65536)]

/-- A drill under way ends, with DRILL_RESULT (R39, R473): the largest gap that this module measured as the new Lead (R28), and what its
own outputs' sinks echoed (log 41). -/
def drillEnd (s : State) : State :=
  match s.pair.drill with
  | some d =>
    let outs := (s.scan.outs.filter fun x => x.2.en).map Prod.fst
    let bad := outs.filter fun o => d.mismatched.contains o
    let good := outs.filter fun o => d.matched.contains o && !d.mismatched.contains o
    let gap := (s.pair.gaps.map Prod.snd).foldl Nat.max 0
    raise 0x34 ([pack [(31, 16, sat16 (gap / 1000)), (15, 8, bad.length), (7, 0, outs.length - bad.length - good.length)],
      w32 d.swapFrame] ++ outputMask good ++ outputMask bad) (withPair s { s.pair with drill := none })
  | none => s

/-- What a pair drops when its module leaves the pair modes: a handover, a takeover, a drill, a knit-up. -/
def pairDrop (s0 : State) : State :=
  let s := drillEnd s0
  withPair s { s.pair with want := none, hand := none, take := none, drill := none, phase := 0, acceptUntil := none, gap := none,
                           gapDone := [] }

/-- The module enters Safe hold for a cause (R631): PWC_CAUSE, FAULT_N low, and DECA, DECB, ENC and INT off. -/
def enterSafeHold (cause port : Nat) (s : State) : State :=
  let on := s.pwr.domains &&& 0x3C0
  let s1 := setMode .safeHold 2 cause port (pairDrop s)
  let s2 := withPwr s1 { s1.pwr with cause := cause, faultN := true, shDomains := on }
  ([6, 7, 8, 9].filter fun d => bitOf on d).foldl (fun st d => domainDown d st) s2

/-- A Safe-hold cause strikes (R630): a Lead with a fit Follow asks for a handover first for causes 1 to 4 and 7; in Safe hold only
PWC_CAUSE changes. -/
def safeHoldCause (cause port : Nat) (s : State) : State :=
  if s.pwr.mode == .safeHold then withPwr s { s.pwr with cause := cause }
  else if !holdable s.pwr.mode then s
  else if s.pwr.mode == .lead && s.pair.peerFit && cause ∈ [1, 2, 3, 4, 7] then
    withPair s { s.pair with want := some (.safeHold cause) }
  else enterSafeHold cause port s

/-- A Safe-hold cause still persists (R631). -/
def causePersists (s : State) : Bool :=
  let p := s.pwr
  let now := t2Ns s
  match p.cause with
  | 1 => p.hot115 || now < p.hotGoneAt + 1000000000
  | 2 => p.memFault || now < p.memGoneAt + 1000000000
  | 3 => p.vrFault || now < p.vrGoneAt + 1000000000
  | 4 => p.fwMiss
  | _ => false

/-- The module enters Off (R614, R618, R632): the host link is down, the outputs send nothing, and everything but PD0 is without
power. -/
def enterOff (s : State) : State :=
  let s1 := linkLoss s
  let outs := s1.scan.outs.map fun x => (x.1, { x.2 with up := false, training := false, trainFailed := none })
  let p : PowerUnit := { s1.pwr with state := .off, vcore := 0, trans := none, pend := none, owed := none, stateSince := t2Ns s, iso := 0x7FFE }
  let s2 := withScan (withPwr s1 { p with domains := 1, rising := 0 }) { s1.scan with outs := outs }
  withPair s2 { s2.pair with leadOut := false, linkUp := false }

end Sys2Proof.Machine
end

