-- ==== Sys2Proof/Machine/Power.lean ====
section
/-! DEFINITION. Power states, wake sources, power domains and temperatures (R614 to R627, R634 to R639). -/

namespace Sys2Proof.Machine

/-! ### Requests -/

/-- The power state of a code (POWER_STATE). -/
def powerOf (n : Nat) : PowerState :=
  match n with
  | 0 => .run | 1 => .idle | 2 => .sleep | 3 => .deepSleep | _ => .off

/-- An enabled output, or an enabled encode channel. -/
def busyWith (s : State) : Option Nat :=
  match s.scan.outs.find? fun x => x.2.en with
  | some x => some x.1
  | none => (s.enc.chans.find? fun x => x.2.en).map Prod.fst

/-- What a power request meets: carried out or in force already, refused, or under way. -/
inductive PowerAns where
  | done
  | refused (r : Reply)
  | waits
deriving DecidableEq, Repr

/-- The result of a finished request: the POWER_STATE command among its origins completes (R622, R623). -/
def powerComplete (o : PowerOrigin) (status : Nat) (detail : W32) (s : State) : State :=
  match o with
  | .cmd port ring seq =>
    match s.hif.outst.find? fun x => x.opcode == 5 && x.port == port && x.ring == ring && x.seq == seq with
    | some x => completeOutst x status detail [] s
    | none => s
  | _ => s

/-- POWER_STATE (Table 15-17): new and previous state, result, time spent in the previous one. -/
def powerWords (new old : PowerState) (result : Nat) (s : State) : List W32 :=
  [pack [(31, 29, powerNum new), (28, 26, powerNum old), (25, 24, result)],
   w32 (sat32 ((t2Ns s - s.pwr.stateSince) / 1000000))]

/-- WAKE: the bits of the wake and the time from it to Run (Table 15-17). -/
def wakeEvent (bits at_ : Nat) (s : State) : State :=
  if bits = 0 then s else raise 0x52 [w32 bits, w32 (sat32 ((t2Ns s - at_) / 1000))] s

/-- A request made while no transition runs (R619, R620). -/
def powerStart (tgt : PowerState) (o : PowerOrigin) (bits at_ : Nat) (s : State) : State × PowerAns :=
  let p := s.pwr
  if tgt = p.state then (s, .done)
  else
    let t : PowerTrans := { source := p.state, target := tgt, since := t2Ns s, origin := o, entry := tgt != .run, wakeBits := bits,
                            wakeAt := at_ }
    if tgt = .run then (withPwr s { p with trans := some t }, .waits)
    else if tgt = .off then
      if p.mode == .ready || p.mode == .safeHold then (touchQuiesce (withPwr s { p with trans := some t }), .waits)
      else (s, .refused wrongMode)
    else if p.mode != .ready then (s, .refused wrongMode)
    else match busyWith s with
      | some n => (s, .refused (held 0xFF n))
      | none => (touchQuiesce (withPwr s { p with trans := some t }), .waits)

/-- Before step 4, the entry's point of no return (Table 15-8). -/
def beforeStep4 (t : PowerTrans) (s : State) : Bool := t2Ns s - t.since < 310000

/-- Domains that isolation clamps in a state (Table 15-7, R617): the quiescent ones and those without power. A touch domain in ganged
scan stays in service. -/
def isoIn (st : PowerState) (s : State) : W32 :=
  let off := 0x7FFF &&& ~~~s.pwr.domains
  let tch : W32 := if s.touch.panels.any fun x => x.2.st == 3 then 0 else 0x1000
  match st with
  | .run => off
  | .idle => off ||| 0x4FC2 ||| tch
  | .sleep => off ||| 0x6FF2 ||| tch
  | .deepSleep => 0x7FFE
  | .off => 0x7FFE

/-- Back in Run: the domains that are on leave isolation, the stack leaves self-refresh, and deep lanes make their fast recalibration
(R617, R699). -/
def resumeRun (s : State) : State :=
  let s1 := withPwr s { s.pwr with state := .run, trans := none, stateSince := t2Ns s, iso := isoIn .run s }
  let s2 := { s1 with mem := { s1.mem with mcState := if s1.mem.mcState = 3 then 2 else s1.mem.mcState } }
  lanesWake 2 (fun i => bitOf s2.pwr.domains (laneDomain i)) s2

/-- An entry is aborted by a request for Run: its request completes with ABORTED, a pending one with SUPERSEDED, and the module is in
Run again (R622). -/
def powerAbort (t : PowerTrans) (bits at_ : Nat) (s : State) : State :=
  let s1 := powerComplete t.origin 8 0 s
  let s2 := match s1.pwr.pend with | some q => powerComplete q.origin 7 0 s1 | none => s1
  let s3 := raise 0x50 (powerWords .run t.source 1 s2) (resumeRun (withPwr s2 { s2.pwr with pend := none }))
  gangsLeave (wakeEvent bits at_ s3)

/-- A request for a power state (R619, R622). -/
def powerAsk (tgt : PowerState) (o : PowerOrigin) (bits : Nat) (s : State) : State × PowerAns :=
  let now := t2Ns s
  match s.pwr.trans with
  | none => powerStart tgt o bits now s
  | some t =>
    if tgt = .run && t.entry && t.target != .idle && beforeStep4 t s then (powerAbort t bits now s, .done)
    else
      let s1 := match s.pwr.pend with | some q => powerComplete q.origin 7 0 s | none => s
      (withPwr s1 { s1.pwr with pend := some { target := tgt, origin := o, wakeBits := bits, since := now } }, .waits)

/-- The pending request runs when a transition ends (R622). -/
def powerPending (s : State) : State :=
  match s.pwr.pend with
  | none => s
  | some q =>
    let (s1, a) := powerStart q.target q.origin q.wakeBits q.since (withPwr s { s.pwr with pend := none })
    match a with
    | .done => powerComplete q.origin 0 0 s1
    | .refused (.no st d) => powerComplete q.origin st d s1
    | _ => s1

/-- POWER_STATE (R619). -/
def opPowerState (c : Cmd) (s : State) : State × Reply :=
  let n := fld (cw c 2) 2 0
  if 4 < n then (s, badField 8)
  else
    let (s1, a) := powerAsk (powerOf n) (.cmd c.port c.ring s.hif.cmdSeq) 0 s
    match a with
    | .done => (s1, .ok [])
    | .refused r => (s1, r)
    | .waits => (s1, .later n [])

/-- POWER_STATE (R619). -/
def execPowerState (c : Cmd) (s : State) : Res := .next (hostCommand 0x0005 opPowerState c s)

/-! ### Wake sources (R624 to R626) -/

/-- A wake makes its request for Run, and sets its bit in PWC_WAKE_STAT. -/
def wakeUp (bit : Nat) (s : State) : State :=
  let s1 := withPwr s { s.pwr with wakeStat := s.pwr.wakeStat ||| 2 ^ bit }
  (powerAsk .run .wake (2 ^ bit) s1).1

/-- The level or edge that PWC_WAKE_CFG asks for is at the pin. -/
def pinActive (p : PowerUnit) (level : Bool) : Bool :=
  level == p.wakeHigh && (!p.wakeEdge || p.wakeLevel != level)

/-- An edge falls into the window of 40 ns between disarming the latch and arming the comparator (R626). -/
def edgeLost (s : State) : Bool :=
  match s.pwr.trans with
  | some t => s.pwr.wakeEdge && t.entry && t.target != .idle && 300000 ≤ t2Ns s - t.since && t2Ns s - t.since < 300040
  | none => false

/-- WAKE_PIN: the WAKE pin stands at a level. Off: cast-on is due (Table 15-11). -/
def wakePin (level : Bool) (s : State) : State :=
  let act := pinActive s.pwr level
  let s1 := withPwr s { s.pwr with wakeLevel := level }
  if !act then s1
  else if s.pwr.state = .off then
    if s.boot.resetN then { s1 with boot := { s1.boot with restartAt := some 0 } } else s1
  else if (s.pwr.state = .run && s.pwr.trans.isNone) || edgeLost s then s1
  else wakeUp 0 s1

/-- WAKE_PIN (R626). -/
def execWakePin (level : Bool) (s : State) : Res := .next (wakePin level s)

/-- HOST_ACCESS_WAKE: a TLP to PF0 or PF1 in Idle or Sleep. -/
def hostAccessWake (s : State) : State :=
  if (s.pwr.state = .idle || s.pwr.state = .sleep) && s.pwr.trans.isNone then wakeUp 1 s else s

/-- HOST_ACCESS_WAKE (R624). -/
def execHostAccessWake (s : State) : Res := .next (hostAccessWake s)

/-- A touch approach wakes while TOUCH_EN is set (R499, Table 15-9). -/
def touchApproachWake (s : State) : State :=
  if s.pwr.wakeTouch && (s.pwr.state = .idle || s.pwr.state = .sleep) && s.pwr.trans.isNone then wakeUp 2 s else s

/-! ### The end of a transition (R621, R623, R627) -/

/-- VCORE as a power state holds it, taken as read back (R618; log 42); 0 where it is off. -/
def vcoreHold (mv : Nat) (s : State) : State :=
  let s1 := withPwr s { s.pwr with vcore := mv }
  if mv = 0 then s1 else send (.pmbus mv) s1

/-- An entry ends: the state is entered. -/
def entryEnd (t : PowerTrans) (s : State) : State :=
  let now := t2Ns s
  let words := powerWords t.target t.source 0 s
  let enter (st : State) : State :=
    withPwr st { st.pwr with state := t.target, trans := none, stateSince := now, iso := isoIn t.target st }
  let refresh (st : State) : State := { st with mem := { st.mem with mcState := 3 } }
  match t.target with
  | .idle =>
    powerComplete t.origin 0 0 (raise 0x50 words (lanesDeep (fun i => i < 48 || 80 ≤ i) (enter s)))
  | .sleep =>
    powerComplete t.origin 0 0 (raise 0x50 words (lanesDeep (fun i => !(72 ≤ i && i < 80)) (vcoreHold 600 (refresh (enter s)))))
  | .deepSleep =>
    let s1 := linkLoss (powerComplete t.origin 0 0 s)
    let s2 := lanesDeep (fun _ => true) (vcoreHold 0 (refresh (enter s1)))
    withPwr s2 { s2.pwr with owed := some words }
  | _ => enterOff (powerComplete t.origin 0 0 s)

/-- What Deep sleep takes from the time bases (R627). -/
def deepTimes (s : State) : State :=
  let u := s.tb
  setT0State .unset 0 { s with tb := { u with t0 := { u.t0 with set := false }, t1 := { u.t1 with set := false },
                                              t3 := { u.t3 with set := false } } }

/-- A lane back from deep without a recalibration of its own to come: the exit from Deep sleep includes it (R699). -/
def lanesBack (s : State) : State := (lanesWhere s fun i => (laneGet s i).ovl == 2).foldl (fun st i => laneLeave 2 i st) s

/-- An exit to Run ends: every domain that was on is ready, and the host link is up again after Deep sleep (R623, R627). -/
def exitEnd (t : PowerTrans) (env : ExitEnv) (s : State) : State :=
  let deep := t.source == .deepSleep
  let woken := t.wakeBits != 0
  let words := powerWords .run t.source (if woken then 2 else 0) s
  let s0 := withPwr s { s.pwr with owed := none }
  let s1 := if deep || t.source == .sleep then vcoreHold s0.pwr.vcmd s0 else s0
  let s4 := resumeRun (if deep then lanesBack (deepTimes { s1 with hif := { s1.hif with link := env.link, linkUp := true } }) else s1)
  let s5 := match s.pwr.owed with | some w => raise 0x50 w s4 | none => s4
  let s6 := wakeEvent t.wakeBits t.wakeAt (raise 0x50 words s5)
  let s7 := gangsLeave (powerComplete t.origin 0 0 s6)
  if deep && !env.helpersOk then safeHoldCause 4 0xFF (withPwr s7 { s7.pwr with fwMiss := true }) else s7

/-- A level wake still at the pin is seen as soon as the entry is done (R626). -/
def levelWake (s : State) : State :=
  if !s.pwr.wakeEdge && s.pwr.wakeLevel == s.pwr.wakeHigh && s.pwr.trans.isNone && s.pwr.state != .run && s.pwr.state != .off then
    wakeUp 0 s
  else s

/-- POWER_TRANSITION_END: not before the entry's steps are over (Table 15-8). -/
def transitionEnd (env : ExitEnv) (s : State) : State :=
  match s.pwr.trans with
  | none => s
  | some t =>
    if t.entry then
      if t2Ns s - t.since < (if t.target = .idle then 300000 else 310000) then s
      else levelWake (powerPending (entryEnd t s))
    else powerPending (exitEnd t env s)

/-- POWER_TRANSITION_END (R623). -/
def execPowerTransitionEnd (env : ExitEnv) (s : State) : Res := .next (transitionEnd env s)

/-! ### Domains (R615, R616) -/

/-- A domain may be switched off (Table 15-5). -/
def domainFree (s : State) (d : Nat) : Bool :=
  let outs (p : Nat → Bool) : Bool := s.scan.outs.any fun x => x.2.en && p x.1
  let encs := s.enc.chans.any fun x => x.2.en
  let retired (e : Nat) : Bool := (tget {} s.str.engines e).st == 2
  match d with
  | 4 => !s.net.ports.any fun x => x.2.en
  | 5 => !s.bb.ins.any fun x => x.2.en
  | 6 => (List.range 8).all retired
  | 7 => (List.range 8).all fun e => retired (8 + e)
  | 8 => !encs
  | 9 => !(outs fun _ => true) && !encs
  | 10 => !outs fun o => o < 24
  | 11 => !outs fun o => 24 ≤ o
  | 12 => !s.touch.panels.any fun x => x.2.st != 0
  | 14 => s.pwr.mode == .ready || s.pwr.mode == .solo || s.pwr.mode == .night || s.pwr.mode == .maintenance
  | _ => false

/-- DOMAIN_SET (R615): a switch-off is refused for the lowest domain that may not go. -/
def opDomainSet (c : Cmd) (s : State) : State × Reply :=
  let m := cw c 2
  let on := bitOf (cw c 3) 0
  let ds := (List.range 15).filter fun d => bitOf m d
  let stuck := ds.find? fun d => !domainFree s d
  checked [
    (ds.any fun d => d ∈ [0, 1, 2, 3, 13], badField 8),
    (!on && stuck.isSome, held 0xFF (stuck.getD 0))]
    (fun s => (ds.foldl (fun st d => if on then domainUp d st else domainDown d st) s, .ok [])) s

/-- DOMAIN_READY: a domain switched on is ready, and its lanes recalibrate (R616). -/
def domainReady (d : Nat) (s : State) : State :=
  if !bitOf s.pwr.rising d then s
  else
    let m := w32 (2 ^ d)
    lanesWake 3 (fun i => laneDomain i == d)
      (withPwr s { s.pwr with domains := s.pwr.domains ||| m, iso := s.pwr.iso &&& ~~~m, rising := s.pwr.rising &&& ~~~m })

/-- DOMAIN_READY (R616). -/
def execDomainReady (domain : Nat) (s : State) : Res := .next (domainReady (domain % 15) s)

/-! ### Temperature (R614) -/

/-- Thresholds of Table 15-4 in 1/16 °C: lid 95 °C, junction 105 °C and 115 °C; and whether a reading stands above one, which it leaves
only 2 °C below. -/
def aboveNow (thr : Int) (above : Bool) (t : Int) : Bool := decide (t > (if above then thr - 32 else thr))

/-- THERMAL (Table 15-17). -/
def thermalEvent (cond : Nat) (up : Bool) (lid junction : W16) (s : State) : State :=
  raise 0x54 [pack [(31, 24, cond), (23, 23, b1 up)], pack [(31, 16, lid.toNat), (15, 0, junction.toNat)]] s

/-- THERMAL_CROSSING: new readings of the lid and of the hottest junction. -/
def thermalCrossing (lid junction : W16) (s : State) : State :=
  if s.pwr.state = .off then s
  else
    let p := s.pwr
    let a := aboveNow 1520 p.hotLid lid.toInt
    let b := aboveNow 1680 p.hotJunction junction.toInt
    let c := aboveNow 1840 p.hot115 junction.toInt
    let now := t2Ns s
    let s1 := withPwr s { p with
      lidTemp := lid, junctionTemp := junction, hotLid := a, hotJunction := b, hot115 := c,
      hot115At := if c && !p.hot115 then now else p.hot115At, hotGoneAt := if p.hot115 && !c then now else p.hotGoneAt }
    let s2 := if a != p.hotLid then thermalEvent 1 a lid junction s1 else s1
    let s3 := if b != p.hotJunction then thermalEvent 2 b lid junction s2 else s2
    if c != p.hot115 then thermalEvent 3 c lid junction s3 else s3

/-- THERMAL_CROSSING (R614). -/
def execThermalCrossing (lid junction : W16) (s : State) : Res := .next (thermalCrossing lid junction s)

/-- JUNCTION_OVERHEAT: the junction has stood above 115 °C for 100 ms. -/
def junctionOverheat (s : State) : State :=
  if s.pwr.hot115 && s.pwr.hot115At + 100000000 ≤ t2Ns s && s.pwr.state = .run then safeHoldCause 1 0xFF s else s

/-- JUNCTION_OVERHEAT (R614). -/
def execJunctionOverheat (s : State) : Res := .next (junctionOverheat s)

/-- THERMAL_TRIP: a site above 125 °C; PD0 switches everything else off at once and drives FAULT_N low. -/
def thermalTrip (junction : W16) (s : State) : State :=
  if decide (junction.toInt ≤ 2000) || s.pwr.state = .off then s
  else enterOff (withPwr s { s.pwr with junctionTemp := junction, faultN := true })

/-- THERMAL_TRIP (R614). -/
def execThermalTrip (junction : W16) (s : State) : Res := .next (thermalTrip junction s)

/-- FIRMWARE_WATCHDOG_MISS: the main processor or a helper (initiators 4 to 10) has missed its watchdog for 100 ms. -/
def watchdogMiss (processor : Nat) (s : State) : State :=
  if !(4 ≤ processor && processor ≤ 10) || s.pwr.state != .run || !(holdable s.pwr.mode || s.pwr.mode == .safeHold) then s
  else safeHoldCause 4 0xFF (withPwr s { s.pwr with fwMiss := true })

/-- FIRMWARE_WATCHDOG_MISS (R630). -/
def execFirmwareWatchdogMiss (processor : Nat) (s : State) : Res := .next (watchdogMiss processor s)

/-! ### PWC registers (R634 to R638) -/

/-- PWC_STATE (Table 15-13). TARGET reads the state being entered: that of the transition, else 0. -/
def pwcState (p : PowerUnit) : W32 :=
  pack [(11, 11, b1 p.trans.isSome), (10, 10, b1 p.pend.isSome), (9, 7, (p.pend.map fun q => powerNum q.target).getD 0),
    (6, 4, (p.trans.map fun t => powerNum t.target).getD 0), (2, 0, powerNum p.state)]

/-- PWC_WAKE_CFG (Table 15-15). -/
def pwcWakeCfg (p : PowerUnit) : W32 := pack [(2, 2, b1 p.wakeTouch), (1, 1, b1 p.wakeEdge), (0, 0, b1 p.wakeHigh)]

/-- A word of the PWC block without any read effect. -/
def pwcPeek (off : Nat) (s : State) : Option W32 :=
  let p := s.pwr
  match off with
  | 0x1000 => some (pwcState p) | 0x1004 => some (w32 p.reqState) | 0x1008 => some (pwcWakeCfg p)
  | 0x100C => some (w32 p.wakeStat) | 0x1010 => some p.domains | 0x1014 => some p.iso
  | 0x1018 => some (pack [(31, 16, p.lidTemp.toNat), (15, 0, p.junctionTemp.toNat)]) | 0x101C => some (w32 p.cause)
  | _ => none

/-- A read of PWC_WAKE_STAT clears a bit of it. -/
def pwcClear (lo : Nat) (s : State) : State :=
  withPwr s { s.pwr with wakeStat := s.pwr.wakeStat - (if s.pwr.wakeStat.testBit lo then 2 ^ lo else 0) }

/-- A write of PWC_WAKE_CFG. -/
def pwcCfgWrite (v : W32) (s : State) : State :=
  withPwr s { s.pwr with wakeTouch := bitOf v 2, wakeEdge := bitOf v 1, wakeHigh := bitOf v 0 }

/-- A write of PWC_REQ: STATE is kept, GO makes its request (R636); a refused one raises PARAM_REFUSED (R619). A request for Run from
Idle or Sleep is a wake source (Table 15-9). -/
def pwcReqWrite (init : Nat) (v : W32) (s : State) : State :=
  let n := fld v 2 0
  let s1 := withPwr s { s.pwr with reqState := n }
  if !bitOf v 31 then s1
  else if 4 < n then paramRefused init 0x1004 v s1
  else
    let wakes := n = 0 && (s.pwr.state = .idle || s.pwr.state = .sleep)
    let bits := if wakes then 8 else 0
    let s2 := withPwr s1 { s1.pwr with wakeStat := s1.pwr.wakeStat ||| bits }
    let (s3, a) := powerAsk (powerOf n) .reg bits s2
    match a with
    | .refused _ => paramRefused init 0x1004 v s3
    | _ => s3

/-- PWC_REQ as a register. -/
def pwcReqInfo (s : State) : RegInfo := { rw := 7, w1p := 0x80000000, cur := w32 s.pwr.reqState }

/-- PWC_REQ_GO (R636). -/
def execPwcReqGo (a : RegW) (s : State) : Res := .next (regWrite 0x1004 (pwcReqInfo s) a (pwcReqWrite a.init) s)

end Sys2Proof.Machine
end

