-- ==== Sys2Proof/Machine/Touch.lean ====
section
/-! DEFINITION. The touch engines (chapter 12): panels, scanning, hopping, baselines, contacts, gating, reports and self-tests. -/

namespace Sys2Proof.Machine

/-! ### Commands on panels (R481, R489, R493, R505, R508) -/

/-- The panel exists: panel 2e always, 2e + 1 while its engine is split (Table 12-1). -/
def panelExists (s : State) (p : Nat) : Bool := p % 2 == 0 || teSplit s (p / 2)

/-- The first field of a panel record outside its range: its byte offset (Table 12-2). -/
def panelBad (s : State) (r : List W32) : Option Nat :=
  let p := prPanel r
  let split := if p % 2 = 0 then prSplit r else true
  let out (lo hi v : Nat) : Bool := v < lo || hi < v
  firstOf [
    (p % 2 == 1 && !teSplit s (p / 2), 0),
    (out 1 (if split then 32 else 64) (prDrv r) || out 1 (if split then 24 else 48) (prSns r), 0),
    (47 < prOutput r && prOutput r != 63, 0),
    (out 16 4095 (prApproach r) || out 16 4095 (prThr r), 4),
    ((prLong r != 0 && prLong r < 10) || out 4 12 (prDrift r), 8),
    (p % 2 == 0 && 4166666 < prPhase r, 12)]

/-- A change of SPLIT or PHASE under a running panel 2e + 1 (DEDUCED, log 33: held, as for the panel itself). -/
def splitHeld (s : State) (r : List W32) : Bool :=
  let p := prPanel r
  p % 2 == 0 && (tpGet s (p + 1)).st != 0 && (!prSplit r || prPhase r != prPhase (tpGet s p).rcd)

/-- TOUCH_PANEL_SET (R481). -/
def opTouchPanelSet (c : Cmd) (s : State) : State × Reply :=
  let r := wordsOf 16 (crec c)
  let p := prPanel r
  checked [
    ((tpGet s p).st != 0, held 0xFF p),
    (splitHeld s r, held 0xFF (p + 1)),
    ((panelBad s r).isSome, badRecord ((panelBad s r).getD 0))]
    (fun s => (tpUpd p (fun x => { x with rcd := r, freq := prStart r }) s, .ok [])) s

/-- TOUCH_PANEL_SET (R481). -/
def execTouchPanelSet (c : Cmd) (s : State) : Res := .next (hostCommand 0x0800 opTouchPanelSet c s)

/-- The panel of a command's W4. -/
def panelArg (c : Cmd) : Nat := (cw c 4).toNat

/-- A panel starts taking its baselines (R489). -/
def baselineStart (p : Nat) (s : State) : State :=
  touchEvent p (tpUpd p (fun x => { tpDrop x with
    st := 1, freq := prStart x.rcd, scans := 0, sums := [], present := [], higher := [], fulls := 0, refreshes := 0 }) s)

/-- TOUCH_ENABLE (R489): of a panel that has a record; an enabled one goes on (DEDUCED, log 33). -/
def opTouchEnable (c : Cmd) (s : State) : State × Reply :=
  let p := panelArg c
  checked [
    (7 < p || (tpGet s p).rcd.isEmpty || !panelExists s p, badField 16),
    domainOff s 12]
    (fun s => if (tpGet s p).st != 0 then (s, .ok []) else (baselineStart p s, .ok [])) s

/-- TOUCH_ENABLE (R489). -/
def execTouchEnable (c : Cmd) (s : State) : Res := .next (hostCommand 0x0801 opTouchEnable c s)

/-- TOUCH_DISABLE (R481): its contacts end without a report (DEDUCED, log 33). -/
def opTouchDisable (c : Cmd) (s : State) : State × Reply :=
  let p := panelArg c
  checked [(7 < p, badField 16)]
    (fun s => if (tpGet s p).st = 0 then (s, .ok [])
      else (touchEvent p (tpUpd p (fun x => { tpDrop x with st := 0, refOk := false, present := [], higher := [] }) s), .ok [])) s

/-- TOUCH_DISABLE (R481). -/
def execTouchDisable (c : Cmd) (s : State) : Res := .next (hostCommand 0x0802 opTouchDisable c s)

/-- Ready or Maintenance. -/
def readyOrMaint (s : State) : Bool := s.pwr.mode == .ready || s.pwr.mode == .maintenance

/-- TOUCH_REF_SAVE (R493): the current baselines are taken, and written to the flash by TOUCH_REF_SAVE_END. -/
def opTouchRefSave (c : Cmd) (s : State) : State × Reply :=
  let p := panelArg c
  let x := tpGet s p
  checked [
    (!readyOrMaint s, wrongMode),
    (7 < p || x.st == 0, badField 16),
    (!x.contacts.isEmpty || x.st == 1 || x.st == 4, held 0xFF p)]
    (fun s => (withTouch s { s.touch with saving := some (p, { drv := prDrv x.rcd, sns := prSns x.rcd, base := x.base }) },
      .later p [])) s

/-- TOUCH_REF_SAVE (R493). -/
def execTouchRefSave (c : Cmd) (s : State) : Res := .next (hostCommand 0x0803 opTouchRefSave c s)

/-- TOUCH_REF_SAVE_END: the write and read-back of the reference end. After a failed write the manual does not say what the flash
holds: a free value decides whether the old reference still verifies. -/
def refSaveEnd (flashOk : Bool) (s : State) : State :=
  match outstOf 0x0803 s, s.touch.saving with
  | some o, some (p, r) =>
    let s1 := withTouch s { s.touch with saving := none }
    if flashOk then
      completeOutst o 0 0 [] { s1 with boot := { s1.boot with touchRef := tset p r s1.boot.touchRef } }
    else
      let (w, s2) := takeFree s1
      let refs := if bitOf w 0 then s2.boot.touchRef else tdel p s2.boot.touchRef
      completeOutst o 11 0 [] { s2 with boot := { s2.boot with touchRef := refs } }
  | _, _ => s

/-- TOUCH_REF_SAVE_END (R493). -/
def execTouchRefSaveEnd (flashOk : Bool) (s : State) : Res := .next (refSaveEnd flashOk s)

/-- TOUCH_SELFTEST (R505): the panel sends no reports until the test ends. -/
def opTouchSelftest (c : Cmd) (s : State) : State × Reply :=
  let p := panelArg c
  checked [
    (!readyOrMaint s, wrongMode),
    (7 < p || (tpGet s p).st == 0, badField 16),
    domainOff s 12]
    (fun s => (touchEvent p (tpUpd p (fun x => { tpDrop x with st := 4 }) s), .later p [])) s

/-- TOUCH_SELFTEST (R505). -/
def execTouchSelftest (c : Cmd) (s : State) : Res := .next (hostCommand 0x0804 opTouchSelftest c s)

/-- TOUCH_STATUS (R508). -/
def opTouchStatus (c : Cmd) (s : State) : State × Reply :=
  let p := panelArg c
  checked [(7 < p, badField 16)] (fun s => (s, .ok [touchWord p (tpGet s p), w32 (tpGet s p).freq])) s

/-- TOUCH_STATUS (R508). -/
def execTouchStatus (c : Cmd) (s : State) : Res := .next (hostCommand 0x0805 opTouchStatus c s)

/-! ### The scan grid (R482) -/

/-- S(k) in ns. -/
def scanStart (phase k : Nat) : Nat := phase + k * 1000000000 / 240

/-- The last scan whose start has come. -/
def scanDue (phase now : Nat) : Option Nat :=
  if now < phase then none
  else
    let k := ((now - phase + 1) * 240 - 1) / 1000000000
    some k

/-- The time from S(k) to the sample time: whole or split. -/
def sampleOffset (split : Bool) : Nat := if split then 1980000 else 3900000

/-- Scans are timed on T0, or on T2 while T0 is UNSET. -/
def scanOnT0 (s : State) : Bool := s.tb.state != .unset
def scanNow (s : State) : Nat := if scanOnT0 s then t0Ns s else t2Ns s

/-- The engines scan: in Run; in Idle and Sleep the ganged panels alone (Table 15-7). -/
def scanRuns (s : State) (gang : Bool) : Bool :=
  works s 12 || (gang && s.pwr.trans.isNone && (s.pwr.state == .idle || s.pwr.state == .sleep) && bitOf s.pwr.domains 12)

/-- The frequencies other than one, from the lowest index. -/
def otherFreqs (f : Nat) : List Nat := (List.range 8).filter fun g => g != f

/-- What a panel does in scan `k` (R488, R489, R498): the start scans go through the eight frequencies, the start frequency last. -/
def scanKind (x : TouchPanel) (k : Nat) : Option ScanKind :=
  match x.st with
  | 1 => if x.scans < 64 then some (.start ((otherFreqs (prStart x.rcd) ++ [prStart x.rcd]).getD (x.scans / 8) 0)) else none
  | 2 => if (x.fulls + 1) % 60 = 0 then some (.refresh ((otherFreqs x.freq).getD (x.refreshes % 7) 0)) else some (.full x.freq)
  | 3 => if k % 24 = 0 then some .ganged else none
  | _ => none

/-- The noise of each frequency (R486): the largest magnitude over the panel's sense electrodes. -/
def noiseOf (r : List W32) (vs : List (List Int)) : List Nat :=
  (List.range 8).map fun f => (((vs.getD f []).take (prSns r)).map Int.natAbs).foldl Nat.max 0

/-- The quietest frequency other than one, and its noise; equal noise goes to the lower index. -/
def quietest (freq : Nat) (n : List Nat) : Nat × Nat :=
  match otherFreqs freq with
  | f :: fs => fs.foldl (fun b g => if n.getD g 0 < b.2 then (g, n.getD g 0) else b) (f, n.getD f 0)
  | [] => (freq, 0)

/-- A hop that is due with scan `k` takes effect (R487). -/
def hopApply (k : Nat) (x : TouchPanel) : TouchPanel :=
  match x.hop with
  | some (f, k0) => if k0 ≤ k then { x with freq := f, hop := none, noisy := 0 } else x
  | none => x

/-- A panel at the start of a scan: its hop, its scan number and its noise. -/
def panelScan (k : Nat) (vs : List (List Int)) (p : Nat) (s : State) : Option ScanKind × List Nat × State :=
  let x := hopApply k (tpGet s p)
  match if scanRuns s (x.st == 3) && panelExists s p then scanKind x k else none with
  | none => (none, [], s)
  | some kind =>
    let n := noiseOf x.rcd vs
    let y := { x with scanNo := w32 k, noise := pack [(31, 16, sat16 (n.getD x.freq 0)), (15, 0, sat16 (quietest x.freq n).2)] }
    (some kind, n, tpSet p y s)

/-- TOUCH_SCAN_START: the engine reaches S(k) of a scan it has not started. -/
def touchScanStart (e : Nat) (env : ListenEnv) (s : State) : State :=
  let t := teGet s e
  let base := scanOnT0 s
  match scanDue (tePhase s e) (scanNow s) with
  | none => s
  | some k =>
    let fresh : Bool := match t.lastK with
      | some (b, j) => b != base || j != k
      | none => true
    if !fresh || t.cur.isSome then s
    else
      let (k0, n0, s1) := panelScan k env.p0 (2 * e) s
      let (k1, n1, s2) := panelScan k env.p1 (2 * e + 1) s1
      if k0.isNone && k1.isNone then s2
      else
        let sc : TouchScan := { k := k, onT0 := base, at_ := scanStart (tePhase s e) k + sampleOffset (teSplit s e),
                                p0 := k0, p1 := k1, noise0 := n0, noise1 := n1 }
        teSet e { cur := some sc, lastK := some (base, k) } s2

/-- TOUCH_SCAN_START (R482). -/
def execTouchScanStart (engine : Nat) (env : ListenEnv) (s : State) : Res := .next (touchScanStart (engine % 4) env s)

/-! ### Counts and deltas (R484, R485) -/

/-- H(i, j) = (−1)^popcount(i AND j), for indices of four bits. -/
def hadamard (i j : Nat) : Int :=
  let a := i &&& j
  if (a % 2 + a / 2 % 2 + a / 4 % 2 + a / 8 % 2) % 2 = 0 then 1 else -1

/-- A measurement: a signed 16-bit value. -/
def measured (m : List (List Int)) (slot sns : Nat) : Int := sext 16 (((m.getD slot []).getD sns 0) % 65536).toNat

/-- The raw count of node (d, s) (R484). -/
def rawCount (m : List (List Int)) (d s : Nat) : Int :=
  let g := d / 16
  ((List.range 16).foldl (fun acc j => acc + hadamard (d % 16) j * measured m (16 * g + j) s) 0 + 8) / 16

/-- The raw counts of a panel, nodes in order of drive × SNS_COUNT + sense. -/
def rawCounts (r : List W32) (m : List (List Int)) : List Int :=
  (List.range (prDrv r)).flatMap fun d => (List.range (prSns r)).map fun s => rawCount m d s

/-- The counts of the 16 band nodes of a ganged scan (R498): four drive bands coded over four slots (DEDUCED, log 34: as R484). -/
def bandCounts (m : List (List Int)) : List Int :=
  (List.range 4).flatMap fun d => (List.range 4).map fun s =>
    ((List.range 4).foldl (fun acc j => acc + hadamard d j * measured m j s) 0 + 2) / 4

/-- A list of integers added to another, position by position. -/
def addLists (a b : List Int) : List Int :=
  if a.isEmpty then b else (List.range b.length).map fun i => a.getD i 0 + b.getD i 0

/-- The node at drive `d`, sense `s` takes part: inside the panel and on no faulty electrode (R494). -/
def nodeLive (x : TouchPanel) (d s : Int) : Bool :=
  0 ≤ d && d < prDrv x.rcd && 0 ≤ s && s < prSns x.rcd &&
    !x.badDrv.contains d.toNat && !x.badSns.contains s.toNat

/-- The delta of a node in 1/256 count; a node that takes no part has −1. -/
def nodeDelta (x : TouchPanel) (delta : List Int) (d s : Int) : Int :=
  if nodeLive x d s then delta.getD (d.toNat * prSns x.rcd + s.toNat) 0 else -1

/-- The offsets −n to n. -/
def offsets (n : Nat) : List Int := (List.range (2 * n + 1)).map fun (i : Nat) => (i : Int) - (n : Int)

/-- The pairs of offsets of a square around a node. -/
def square (n : Nat) : List (Int × Int) := (offsets n).flatMap fun i => (offsets n).map fun j => (i, j)

/-- T in 1/256 count. -/
def thrQ (x : TouchPanel) : Int := 256 * (prThr x.rcd : Int)

/-! ### Contacts (R494 to R497) -/

/-- A node is a local maximum: at least each of its eight neighbours, of two equal ones the lower drive, then the lower sense index. -/
def isPeak (x : TouchPanel) (delta : List Int) (d s : Int) : Bool :=
  let v := nodeDelta x delta d s
  (square 1).all fun o =>
    let w := nodeDelta x delta (d + o.1) (s + o.2)
    (o.1 == 0 && o.2 == 0) || w < v || (w == v && (0 < o.1 || (o.1 == 0 && 0 < o.2)))

/-- A candidate contact at a peak: position, peak and area (R495), and the nodes that belong to it. -/
def contactAt (x : TouchPanel) (delta : List Int) (d s : Nat) : Contact :=
  let at_ (o : Int × Int) : Int := nodeDelta x delta ((d : Int) + o.1) ((s : Int) + o.2)
  let weight (o : Int × Int) : Int := if at_ o < 0 then 0 else at_ o
  let total := (square 1).foldl (fun a o => a + weight o) 0
  let mean (f : Int × Int → Int) : Nat :=
    let num := (square 1).foldl (fun a o => a + weight o * 256 * f o) 0
    ((2 * num + total) / (2 * total)).toNat
  let inside := (square 2).filter fun o => thrQ x ≤ 2 * at_ o
  { id := 0, d := d, s := s, u := mean fun o => (d : Int) + o.1, v := mean fun o => (s : Int) + o.2,
    peak := (at_ (0, 0) / 256).toNat, area := inside.length, since := 0,
    nodes := inside.map fun o => (((d : Int) + o.1) * prSns x.rcd + ((s : Int) + o.2)).toNat }

/-- Every peak of at least 0.5 × T, in node order. -/
def peakContacts (x : TouchPanel) (delta : List Int) : List Contact :=
  ((List.range (prDrv x.rcd * prSns x.rcd)).filter fun i =>
    let d := i / prSns x.rcd
    let s := i % prSns x.rcd
    thrQ x ≤ 2 * nodeDelta x delta d s && isPeak x delta d s).map fun i =>
      contactAt x delta (i / prSns x.rcd) (i % prSns x.rcd)

/-- An element put into a list in rising order of a key. -/
def insertKey {α : Type} (key : α → Nat) (a : α) : List α → List α
  | [] => [a]
  | b :: bs => if key a < key b then a :: b :: bs else b :: insertKey key a bs

/-- A list in rising order of a key, equal keys in their first order. -/
def sortKey {α : Type} (key : α → Nat) (l : List α) : List α := l.foldl (fun acc a => insertKey key a acc) []

/-- The pairs of an earlier contact and a candidate within 512 units in both directions, closest first (R496): distance, identifier,
candidate number. -/
def nearPairs (old : List Contact) (cs : List Contact) : List (Nat × Nat × Nat) :=
  let away (a b : Nat) : Nat := if a < b then b - a else a - b
  let ps := old.flatMap fun o => (List.range cs.length).filterMap fun i =>
    match cs[i]? with
    | some c =>
      let du := away o.u c.u
      let dv := away o.v c.v
      if du ≤ 512 && dv ≤ 512 then some (du * du + dv * dv, o.id, i) else none
    | none => none
  sortKey (fun p => p.1) ps

/-- Pairs taken in order, each contact and candidate once: (identifier, candidate number). -/
def takePairs : List (Nat × Nat × Nat) → List (Nat × Nat) → List (Nat × Nat)
  | [], acc => acc
  | (_, id, i) :: ps, acc =>
    if acc.any fun a => a.1 == id || a.2 == i then takePairs ps acc else takePairs ps (acc ++ [(id, i)])

/-- New contacts take the lowest free identifiers, the largest peaks first; past 16 contacts a further one is not followed (DEDUCED, log
35). -/
def nameNew : List Contact → List Contact → List Contact
  | [], live => live
  | c :: cs, live =>
    match (List.range 16).find? fun k => !(live.any fun l => l.id == k) with
    | some k => nameNew cs (live ++ [{ c with id := k }])
    | none => live

/-- The contacts of a scan and the earlier ones that ended (R494, R496), each in identifier order. -/
def trackContacts (x : TouchPanel) (delta : List Int) (at_ : Nat) : List Contact × List Contact :=
  let cs := peakContacts x delta
  let pairs := takePairs (nearPairs x.contacts cs) []
  let kept := pairs.filterMap fun p =>
    match x.contacts.find? fun o => o.id == p.1, cs[p.2]? with
    | some o, some c => some { c with id := o.id, since := o.since, last := o.last, long := o.long, present := o.present }
    | _, _ => none
  let atStart (c : Contact) : Bool := x.first && c.nodes.any fun i => x.present.contains i
  let fresh := (List.range cs.length).filterMap fun i =>
    match cs[i]? with
    | some c =>
      let begins := thrQ x ≤ nodeDelta x delta c.d c.s || (x.first && x.present.contains (c.d * prSns x.rcd + c.s))
      if begins && !(pairs.any fun p => p.2 == i) then some { c with since := at_, present := atStart c } else none
    | none => none
  let live := nameNew (sortKey (fun c => 65536 * 256 - c.peak) fresh) kept
  (sortKey (fun c => c.id) live, x.contacts.filter fun o => !(pairs.any fun p => p.1 == o.id))

/-! ### Baselines (R489 to R492) -/

/-- The nodes within one electrode of a contact. -/
def guarded (x : TouchPanel) : List Nat :=
  let n := prSns x.rcd
  x.contacts.flatMap fun c => ((c.d * n + c.s) :: c.nodes).flatMap fun i =>
    (square 1).filterMap fun o =>
      let d := ((i / n : Nat) : Int) + o.1
      let s := ((i % n : Nat) : Int) + o.2
      if 0 ≤ d && 0 ≤ s && s < n then some (d.toNat * n + s.toNat) else none

/-- The baselines after drift tracking at one frequency (R492): rounding toward zero. -/
def drift (x : TouchPanel) (raw base : List Int) : List Int :=
  let g := guarded x
  (List.range base.length).map fun i =>
    let b := base.getD i 0
    let r := 256 * raw.getD i 0
    if 4 * (b - r) < thrQ x && !g.contains i then b + Int.tdiv (r - b) (2 ^ prDrift x.rcd : Nat) else b

/-- The nodes whose delta is below −0.5 × T, with the t_s since which it has been (R491). -/
def lowNodes (x : TouchPanel) (delta : List Int) (at_ : Nat) : Tab Nat :=
  (List.range delta.length).filterMap fun i =>
    if 2 * delta.getD i 0 < -thrQ x then some (i, tget at_ x.low i) else none

/-- Nodes that have been low for 500 ms. -/
def staleNodes (low : Tab Nat) (at_ : Nat) : List Nat := (low.filter fun e => e.2 + 500000000 ≤ at_).map Prod.fst

/-- One full scan's effect on the baselines of its frequency: re-baselined nodes, then drift (R491, R492). -/
def rebase (x : TouchPanel) (f : Nat) (raw : List Int) (delta : List Int) (k at_ p : Nat) (s : State) : State :=
  let low := lowNodes x delta at_
  let stale := staleNodes low at_
  let old := tget [] x.base f
  let base := (List.range old.length).map fun i => if stale.contains i then 256 * raw.getD i 0 else old.getD i 0
  let y := { x with base := tset f (drift x raw base) x.base, low := low.filter fun e => !stale.contains e.1 }
  let s1 := tpSet p y s
  if stale.isEmpty then s1
  else raise 0x37 [pack [(31, 29, p)], w32 k, pack [(15, 0, sat16 stale.length)]] s1

/-! ### Verdicts (R500 to R502) -/

/-- The pixel under a panel position (R500). -/
def pixelAt (r : List W32) (u v : Nat) : Int × Int :=
  (((prCal r 0) * u + (prCal r 1) * v + prCal r 2 + 32768) / 65536, ((prCal r 3) * u + (prCal r 4) * v + prCal r 5 + 32768) / 65536)

/-- The verdict, reason and TEST bit of a contact, and its pixel when inside the active area. -/
structure TouchJudged where
  verdict : Nat
  reason : Nat := 0
  test : Bool := false
  pixel : Option (Nat × Nat) := none
deriving DecidableEq, Repr

/-- The egress stitch as last displayed at or before a moment of T0 (R501). -/
def shownStitch (x : Output) (sx sy at_ : Nat) : Option EgStitch :=
  let of (t : Tab EgRow) : Option EgStitch :=
    match tfind sy t with
    | some r => if r.at_ ≤ at_ then r.stitches[sx]? else none
    | none => none
  (of x.rows).orElse fun _ => of x.prev

/-- The verdict of a contact at t_s (Table 12-5, R29, R30). A takeover's gap begins at its detection (R502). Line 3 and a stitch not
displayed yet name no shown verdict: reason 2, that of UNVERIFIED (DEDUCED, log 36). -/
def contactVerdict (r : List W32) (u v at_ : Nat) (onT0 : Bool) (s : State) : TouchJudged :=
  let o := prOutput r
  let x := outGet s o
  let q := outRec s o
  let px := pixelAt r u v
  let inside := o < 48 && x.en && 0 ≤ px.1 && px.1 < orW q && 0 ≤ px.2 && px.2 < orH q
  if !inside then { verdict := 3 }
  else
    let pix := some (px.1.toNat, px.2.toNat)
    if !onT0 then { verdict := 3, pixel := pix }
    else if s.pwr.mode == .safeHold then { verdict := 1, reason := 3, pixel := pix }
    else if s.pair.gap.isSome || s.pair.take.isSome || s.pwr.mode == .knitUp ||
        (s.pwr.mode == .follow && !(tget 0 s.pair.cmpLast o == 1 || tget 0 s.pair.cmpLast o == 2)) then
      { verdict := 2, reason := 2, pixel := pix }
    else match shownStitch x (px.1.toNat / 32) (px.2.toNat / 32) at_ with
      | none => { verdict := 2, reason := 2, pixel := pix }
      | some e =>
        if e.unver then { verdict := 2, reason := e.reason, test := e.kind == 1, pixel := pix }
        else if e.kind != 0 then { verdict := 1, reason := e.reason, test := e.kind == 1, pixel := pix }
        else
          let late : Bool := match e.due with
            | some due => (tick at_ + 2 ^ 20 - due % 2 ^ 20) % 2 ^ 20 < 2 ^ 19
            | none => false
          if late then { verdict := 1, reason := 10, pixel := pix } else { verdict := 0, pixel := pix }

/-- The state reported for a contact (R503, Table 12-6): 0 DOWN, 1 HELD, 2 UP, 3 SUPPRESSED, 4 CANCELLED, 5 GONE. -/
def contactState (suppress : Bool) (last : Option Nat) (ended : Bool) (verdict : Nat) : Nat :=
  let fine := verdict == 0 || verdict == 3
  let pressed : Bool := match last with | some l => l == 0 || l == 1 | none => false
  if ended then (if !suppress || pressed then 2 else 5)
  else match last with
    | none => if !suppress || fine then 0 else 3
    | some _ => if !suppress then 1 else if pressed then (if fine then 1 else 4) else 3

/-! ### Reports (R504) -/

/-- A contact entry (Table 12-7). -/
def contactWords (r : List W32) (c : Contact) (st : Nat) (j : TouchJudged) : List W32 :=
  let (x, y) := match j.pixel with | some p => p | none => (0xFFFF, 0xFFFF)
  [pack [(31, 28, c.id), (27, 25, st), (24, 23, j.verdict), (22, 22, b1 c.present), (21, 21, b1 c.long), (20, 20, b1 j.test),
     (19, 14, prOutput r), (13, 10, j.reason)],
   pack [(31, 16, y), (15, 0, x)], pack [(31, 16, c.v), (15, 0, c.u)], pack [(31, 16, sat16 c.peak), (15, 8, c.area)]]

/-- One report descriptor offered to a function's touch ring: a lost one is counted in the next one's LOST and in TCH_Pp_LOST. -/
def touchPut (fn p : Nat) (ws : List W32) (s : State) : State :=
  let lost := if fn = 0 then s.touch.lost0 else s.touch.lost1
  let room := ringRoom (ringGet s fn 9) 1
  let lost' := if room then 0 else lost + 1
  let s1 := ringWrite fn 9 ((wd ws 0 ||| pack [(7, 1, satTo 127 lost)]) :: ws.drop 1) false s
  let s2 := withTouch s1 (if fn = 0 then { s1.touch with lost0 := lost' } else { s1.touch with lost1 := lost' })
  if room then s2 else tpUpd p (fun x => { x with lost := sat32 (x.lost + 1) }) s2

/-- A scan's descriptors: three entries to each. -/
def touchReport (p freq : Nat) (sc : TouchScan) (repeated ovl : Bool) (entries : List (List W32)) (s : State) : State :=
  let r := (tpGet s p).rcd
  let n := ceilDiv entries.length 3
  let desc (i : Nat) : List W32 :=
    [pack [(31, 28, 1), (27, 25, p), (24, 23, i), (22, 22, b1 (i + 1 == n)), (21, 18, entries.length), (17, 15, freq),
       (14, 14, b1 (prSuppress r)), (13, 13, b1 repeated), (12, 12, b1 ovl), (11, 11, b1 (!sc.onT0))],
     w32 sc.k, w32 (sc.at_ / 1000000000), w32 (sc.at_ % 1000000000)] ++ padW 12 ((entries.drop (3 * i)).take 3).flatten
  [0, 1].foldl (fun st fn =>
    if (if fn = 0 then prPf0 r else prPf1 r) then (List.range n).foldl (fun st i => touchPut fn p (desc i) st) st else st) s

/-- Contacts judged and reported: at most ten, ended ones first, then the largest peaks (R494; the ended first DEDUCED, log 35). The
contacts keep what was reported of them. -/
def reportContacts (p freq : Nat) (sc : TouchScan) (repeated : Bool) (live ended : List Contact) (s : State) : State :=
  let r := (tpGet s p).rcd
  let sup := prSuppress r
  let gone := (ended.filter fun c => c.last.isSome).take 10
  let shown := (sortKey (fun c => 65536 * 256 - c.peak) live).take (10 - gone.length)
  let all := sortKey (fun e => 2 * e.1.id + b1 (!e.2)) ((gone.map fun c => (c, true)) ++ shown.map fun c => (c, false))
  let judged := all.map fun e =>
    let j := contactVerdict r e.1.u e.1.v sc.at_ sc.onT0 s
    (e.1, e.2, contactState sup e.1.last e.2 j.verdict, j)
  let keep := live.map fun c =>
    match judged.find? fun q => !q.2.1 && q.1.id == c.id with
    | some q => { c with last := some q.2.2.1 }
    | none => c
  let s1 := tpUpd p (fun x => { x with contacts := keep }) s
  if judged.isEmpty then s1
  else touchReport p freq sc repeated (10 < live.length) (judged.map fun q => contactWords r q.1 q.2.2.1 q.2.2.2) s1

/-- LONG_CONTACT (R497) for a contact that has lasted LONG_S. -/
def longContact (p : Nat) (sc : TouchScan) (acc : State × List Contact) (c : Contact) : State × List Contact :=
  let r := (tpGet acc.1 p).rcd
  if prLong r = 0 || c.long || sc.at_ < c.since + prLong r * 1000000000 then (acc.1, acc.2 ++ [c])
  else
    let (x, y) := ((contactVerdict r c.u c.v sc.at_ sc.onT0 acc.1).pixel).getD (0xFFFF, 0xFFFF)
    (raise 0x38 [pack [(31, 29, p), (28, 25, c.id)], w32 sc.k, pack [(31, 16, y), (15, 0, x)]] acc.1,
     acc.2 ++ [{ c with long := true }])

/-! ### Hopping (R487) -/

/-- The first scan that starts at least 1 ms after scan `k` ends. -/
def hopScan (phase k at_ : Nat) : Nat :=
  if at_ + 1000000 ≤ scanStart phase (k + 1) then k + 1 else k + 2

/-- The noise of a scan is judged; after three scans of excess noise in a row the panel hops. -/
def noiseJudge (p : Nat) (sc : TouchScan) (n : List Nat) (s : State) : State :=
  let x := tpGet s p
  let cur := n.getD x.freq 0
  let (f, q) := quietest x.freq n
  if x.hop.isSome || 2 * cur ≤ 3 * q then tpSet p { x with noisy := 0 } s
  else if x.noisy < 2 then tpSet p { x with noisy := x.noisy + 1 } s
  else
    let k0 := hopScan (tePhase s (p / 2)) sc.k sc.at_
    raise 0x39 [pack [(31, 29, p), (28, 26, x.freq), (25, 23, f)], w32 k0, w32 cur, w32 q]
      (tpSet p { x with noisy := 0, hop := some (f, k0) } s)

/-! ### TOUCH_SCAN_COMPLETE -/

/-- A start scan adds its counts (R489). -/
def startScan (p f : Nat) (raw : List Int) (s : State) : State :=
  tpUpd p (fun x => { x with scans := x.scans + 1, sums := tset f (addLists (tget [] x.sums f) raw) x.sums }) s

/-- A full scan: contacts, baselines, LONG_CONTACT, report (R491, R492, R494 to R504). -/
def fullScan (p f : Nat) (sc : TouchScan) (raw : List Int) (s : State) : State :=
  let x := tpGet s p
  let base := tget [] x.base f
  let delta := (List.range base.length).map fun i => base.getD i 0 - 256 * raw.getD i 0
  let (live, ended) := trackContacts x delta sc.at_
  let y := { x with contacts := live, fulls := x.fulls + 1, first := false, idleAt := if live.isEmpty then x.idleAt else sc.at_ }
  let s1 := rebase y f raw delta sc.k sc.at_ p s
  let (s2, live2) := live.foldl (longContact p sc) (s1, [])
  reportContacts p f sc false live2 ended s2

/-- A refresh scan: the baselines of its own frequency, and the previous scan's contacts again (R488). -/
def refreshScan (p f : Nat) (sc : TouchScan) (raw : List Int) (s : State) : State :=
  let x := tpGet s p
  let y := { x with base := tset f (drift x raw (tget [] x.base f)) x.base, fulls := x.fulls + 1, refreshes := x.refreshes + 1 }
  let (s1, live) := x.contacts.foldl (longContact p sc) (tpSet p y s, [])
  reportContacts p f sc true live [] s1

/-- A ganged scan: its first four give the band baselines; then two in a row that reach APPROACH return the panel to full scanning, with
TOUCH_WAKE, and wake the module (R498, R499). In Idle and Sleep a panel whose approach may not wake goes on ganged. -/
def gangScan (p : Nat) (sc : TouchScan) (raw : List Int) (s : State) : State :=
  let x := tpGet s p
  if x.gangs < 4 then tpSet p { x with gangs := x.gangs + 1, bands := addLists x.bands raw } s
  else
    let reach := (List.range 16).any fun i => 4 * (prApproach x.rcd : Int) ≤ x.bands.getD i 0 - 4 * raw.getD i 0
    let near := if reach then x.near + 1 else 0
    let awake := s.pwr.state == .run || s.pwr.wakeTouch
    if near < 2 || !awake then tpSet p { x with gangs := x.gangs + 1, near := Nat.min near 2 } s
    else
      let s1 := raise 0x3A [pack [(31, 29, p)], w32 (sc.k + 1)] (gangLeave sc.at_ p (tpSet p { x with near := 0 } s))
      touchApproachWake s1

/-- What one panel makes of a scan. -/
def panelResult (p : Nat) (sc : TouchScan) (kind : Option ScanKind) (noise : List Nat) (m : List (List Int)) (s : State) : State :=
  let x := tpGet s p
  match kind, x.st with
  | some (.start f), 1 => startScan p f (rawCounts x.rcd m) s
  | some (.full f), 2 => noiseJudge p sc noise (fullScan p f sc (rawCounts x.rcd m) s)
  | some (.refresh f), 2 => noiseJudge p sc noise (refreshScan p f sc (rawCounts x.rcd m) s)
  | some .ganged, 3 => gangScan p sc (bandCounts m) s
  | _, _ => s

/-- TOUCH_SCAN_COMPLETE: the scan's last code slot has ended. -/
def touchScanComplete (e : Nat) (env : ScanCounts) (s : State) : State :=
  let t := teGet s e
  match t.cur with
  | none => s
  | some sc =>
    if (if sc.onT0 then t0Ns s else t2Ns s) < sc.at_ then s
    else
      let s1 := teSet e { t with cur := none } s
      panelResult (2 * e + 1) sc sc.p1 sc.noise1 env.p1 (panelResult (2 * e) sc sc.p0 sc.noise0 env.p0 s1)

/-- TOUCH_SCAN_COMPLETE (R504). -/
def execTouchScanComplete (engine : Nat) (env : ScanCounts) (s : State) : Res := .next (touchScanComplete (engine % 4) env s)

/-! ### TOUCH_BASELINE_DONE, GANGED_SCAN_ENTRY -/

/-- The reference of a panel, when valid (R490). -/
def touchRef (s : State) (p : Nat) : Option TouchRef :=
  match tfind p s.boot.touchRef with
  | some r => if r.crcOk && r.drv == prDrv (tpGet s p).rcd && r.sns == prSns (tpGet s p).rcd then some r else none
  | none => none

/-- The start baselines of a frequency against the reference (Table 12-4): the baselines taken, the nodes touched, the nodes higher. -/
def againstRef (thr : Int) (start ref : List Int) : List Int × List Nat × List Nat :=
  let is := List.range start.length
  let low (i : Nat) : Bool := decide (thr < 2 * (ref.getD i 0 - start.getD i 0))
  let high (i : Nat) : Bool := decide (thr < 2 * (start.getD i 0 - ref.getD i 0))
  (is.map fun i => if low i || high i then ref.getD i 0 else start.getD i 0, is.filter low, is.filter high)

/-- The union of two lists of nodes. -/
def unionNodes (a b : List Nat) : List Nat := a ++ b.filter fun i => !a.contains i

/-- TOUCH_BASELINE_DONE: the mean of 8 raw counts is 32 times their sum in 1/256 count. -/
def baselineDone (p : Nat) (s : State) : State :=
  let x := tpGet s p
  if x.st != 1 || x.scans < 64 then s
  else
    let ref := touchRef s p
    let one (acc : Tab (List Int) × List Nat × List Nat) (f : Nat) : Tab (List Int) × List Nat × List Nat :=
      let start := (tget [] x.sums f).map fun v => 32 * v
      match ref with
      | none => (tset f start acc.1, acc.2)
      | some r =>
        let (b, lo, hi) := againstRef (thrQ x) start (tget [] r.base f)
        (tset f b acc.1, unionNodes acc.2.1 lo, unionNodes acc.2.2 hi)
    let (base, lo, hi) := (List.range 8).foldl one ([], [], [])
    touchEvent p (tpSet p { x with st := 2, refOk := ref.isSome, base := base, present := lo, higher := hi, first := true, sums := [],
                                   fulls := 0, refreshes := 0, low := [], idleAt := scanNow s } s)

/-- TOUCH_BASELINE_DONE (R489). -/
def execTouchBaselineDone (panel : Nat) (s : State) : Res := .next (baselineDone (panel % 8) s)

/-- GANGED_SCAN_ENTRY: in Night mode, no contact for NIGHT_IDLE seconds. -/
def gangedEntry (p : Nat) (s : State) : State :=
  let x := tpGet s p
  if s.pwr.mode == .night && x.st == 2 && prNight x.rcd && x.contacts.isEmpty && works s 12 &&
      x.idleAt + prIdle x.rcd * 1000000000 ≤ scanNow s then gangEnter p s
  else s

/-- GANGED_SCAN_ENTRY (R498). -/
def execGangedScanEntry (panel : Nat) (s : State) : Res := .next (gangedEntry (panel % 8) s)

/-! ### Self-test (R505, R506) -/

/-- Four times the median of some magnitudes times a share in quarters is compared without division: twice the median (the mean of
the two middle ones for an even number). -/
def twiceMedian (l : List Nat) : Nat :=
  let t := sortKey (fun x => x) l
  let n := t.length
  t.getD ((n - 1) / 2) 0 + t.getD (n / 2) 0

/-- The electrodes of one kind that are open: the sum of their nodes' magnitudes below half that of the reference, or below half the
median of their kind. -/
def openOnes (sums : List Nat) (refs : Option (List Nat)) : List Nat :=
  (List.range sums.length).filter fun i =>
    match refs with
    | some r => 2 * sums.getD i 0 < r.getD i 0
    | none => 4 * sums.getD i 0 < twiceMedian sums

/-- The adjacent pairs that are shorted: below a quarter of the median of their kind. -/
def shortOnes (pairs : List Nat) : List Nat :=
  (List.range pairs.length).filter fun i => 8 * pairs.getD i 0 < twiceMedian pairs

/-- The sums of the magnitudes of the nodes of each electrode: drives, senses. -/
def electrodeSums (r : List W32) (v : List Int) : List Nat × List Nat :=
  let n := prSns r
  let m (i : Nat) : Nat := (v.getD i 0).natAbs
  ((List.range (prDrv r)).map fun d => (List.range n).foldl (fun a j => a + m (d * n + j)) 0,
   (List.range n).map fun j => (List.range (prDrv r)).foldl (fun a d => a + m (d * n + j)) 0)

/-- A mask word of electrodes from `lo` on. -/
def electrodeMask (l : List Nat) (lo n : Nat) : Nat :=
  (l.filter fun i => lo ≤ i && i < lo + n).foldl (fun a i => a + 2 ^ (i - lo)) 0

/-- TOUCH_SELFTEST_DONE: faults are kept until a test finds none; the panel re-baselines, and the command completes. -/
def selftestDone (p : Nat) (t : TouchTest) (s : State) : State :=
  let x := tpGet s p
  if x.st != 4 then s
  else
    let r := x.rcd
    let (ds, ss) := electrodeSums r (rawCounts r t.slots)
    let refs := (touchRef s p).map fun q => electrodeSums r ((tget [] q.base (prStart r)).map fun v => v / 256)
    let od := openOnes ds (refs.map Prod.fst)
    let os := openOnes ss (refs.map Prod.snd)
    let sd := shortOnes ((List.range (prDrv r - 1)).map fun i => t.drvPairs.getD i 0)
    let ss' := shortOnes ((List.range (prSns r - 1)).map fun i => t.snsPairs.getD i 0)
    let found := !(od.isEmpty && os.isEmpty && sd.isEmpty && ss'.isEmpty)
    let both (l : List Nat) : List Nat := l.flatMap fun i => [i, i + 1]
    let bd := if found then unionNodes x.badDrv (unionNodes od (both sd)) else []
    let bs := if found then unionNodes x.badSns (unionNodes os (both ss')) else []
    let s1 := raise 0x3B [pack [(31, 29, p), (28, 28, b1 found)], w32 (electrodeMask od 0 32), w32 (electrodeMask od 32 32),
      w32 (electrodeMask sd 0 32), w32 (electrodeMask sd 32 32), w32 (electrodeMask os 0 32), w32 (electrodeMask ss' 0 32),
      pack [(31, 16, electrodeMask ss' 32 16), (15, 0, electrodeMask os 32 16)]] (tpSet p { x with badDrv := bd, badSns := bs } s)
    let s2 := baselineStart p s1
    match outstOf 0x0804 s2 with
    | some o => if o.target = p then completeOutst o 0 0 [] s2 else s2
    | none => s2

/-- TOUCH_SELFTEST_DONE (R506). -/
def execTouchSelftestDone (panel : Nat) (r : TouchTest) (s : State) : Res := .next (selftestDone (panel % 8) r s)

/-! ### TCH registers (R679) -/

/-- A word of the TCH block without any read effect. -/
def tchPeek (off : Nat) (s : State) : Option W32 :=
  if off < 0x9000 || 0x9080 ≤ off then none
  else
    let x := tpGet s ((off - 0x9000) / 0x10)
    match off % 0x10 with
    | 0 => some (pack [(28, 25, tpCode x), (24, 24, b1 x.refOk), (2, 0, x.freq)])
    | 4 => some x.scanNo | 8 => some x.noise | 12 => some (w32 x.lost) | _ => none

/-- A read of TCH_Pp_LOST clears it. -/
def tchClear (off : Nat) (s : State) : State := tpUpd ((off - 0x9000) / 0x10) (fun x => { x with lost := 0 }) s

end Sys2Proof.Machine
end

