-- ==== Sys2Proof/Machine/AuxIo.lean ====
section
/-! DEFINITION. The AUX_IO pins and event timers: claims (R405, R709, R710) and pulses (R201, R711). -/

namespace Sys2Proof.Machine

/-- The claim that holds a pin, and the one that holds a timer. -/
def pinClaim (s : State) (p : Nat) : Option AuxClaim := s.lane.claims.find? fun k => k.pin == p
def timerClaim (s : State) (t : Nat) : Option AuxClaim := s.lane.claims.find? fun k => k.timer == t

/-- The holder that DETAIL names: PF0 for AUXIO_CLAIM, 0xFF for Night pacing, a configuration use (R709). -/
def claimHolder (k : Option AuxClaim) : Nat := match k with | some x => if x.use = 3 then 0xFF else 0 | none => 0xFF

/-- The refusals of a claim of a pin and a timer that are held; a timer of 0xFF is none (R709). -/
def claimHeld (s : State) (pin timer : Nat) : List (Bool × Reply) :=
  [((pinClaim s pin).isSome, held (claimHolder (pinClaim s pin)) (0x100 + pin)),
   (timer != 0xFF && (timerClaim s timer).isSome, held (claimHolder (timerClaim s timer)) (0x200 + timer))]

/-- The block with its claims replaced. -/
def withClaims (s : State) (cs : List AuxClaim) : State := { s with lane := { s.lane with claims := cs } }

/-- The first edge of a train at or after a moment: first + k × period (Table 18-6). -/
def nextEdge (first period now : Nat) : Nat :=
  if now ≤ first || period = 0 then first else first + ceilDiv (now - first) period * period

/-! ### The commands -/

/-- AUXIO_CLAIM (R709, Table 18-6). -/
def opAuxioClaim (c : Cmd) (s : State) : State × Reply :=
  let use := (cw c 4).toNat
  let pin := fld (cw c 2) 2 0
  let timer := if use = 2 then 0xFF else fld (cw c 3) 2 0
  let period := (cw c 8).toNat
  let width := (cw c 9).toNat
  let first := (cw c 6).toNat * 1000000000 + (cw c 7).toNat
  let checks : List (Bool × Reply) := [
    (2 < use, badField 16),
    (use == 2 && cw c 3 != 0xFF, badField 12),
    (use == 0 && 1000000000 ≤ (cw c 7).toNat, badField 28),
    (use == 0 && (period < 1000 || 1000000000 < period), badField 32),
    (use == 0 && (width < 10 || period < width + 10), badField 36),
    (use == 1 && (width < 100 || 4000000 < width), badField 36)]
  checked (checks ++ claimHeld s pin timer)
    (fun s =>
      let k : AuxClaim := { pin := pin, timer := timer, use := use, args := c.w, level := bitOf (cw c 5) 31,
                            nextNs := if use = 0 then nextEdge first period (tbNs (tbGet s.tb (fld (cw c 5) 1 0))) else 0 }
      (withClaims s (s.lane.claims ++ [k]), .ok [])) s

/-- AUXIO_CLAIM (R709). -/
def execAuxioClaim (c : Cmd) (s : State) : Res := .next (hostCommand 0x000A opAuxioClaim c s)

/-- AUXIO_RELEASE (R710): the pin and timer of one claim of AUXIO_CLAIM; a lead indication has no timer. -/
def opAuxioRelease (c : Cmd) (s : State) : State × Reply :=
  let pin := fld (cw c 2) 2 0
  let timer := if cw c 3 = 0xFF then 0xFF else fld (cw c 3) 2 0
  let mine (k : AuxClaim) : Bool := k.use != 3 && k.pin == pin && k.timer == timer
  let ofPin := match pinClaim s pin with | some k => k.use != 3 | none => false
  checked [
    (!ofPin, held (claimHolder (pinClaim s pin)) (0x100 + pin)),
    (!s.lane.claims.any mine, held (claimHolder (timerClaim s timer)) (0x200 + timer))]
    (fun s => (withClaims s (s.lane.claims.filter fun k => !mine k), .ok [])) s

/-- AUXIO_RELEASE (R710). -/
def execAuxioRelease (c : Cmd) (s : State) : Res := .next (hostCommand 0x000B opAuxioRelease c s)

/-- NIGHT_PACE_SET (R405, R710): claims a pin and a timer for an output's Night pacing, or releases them. -/
def opNightPaceSet (c : Cmd) (s : State) : State × Reply :=
  let o := (cw c 4).toNat
  let pin := (cw c 5).toNat
  let timer := (cw c 6).toNat
  let mine (k : AuxClaim) : Bool := k.use == 3 && k.output == o
  if pin = 0xFF then
    checked [(47 < o, badField 16)] (fun s => (withClaims s (s.lane.claims.filter fun k => !mine k), .ok [])) s
  else
    let checks : List (Bool × Reply) := [(47 < o, badField 16), (7 < pin, badField 20), (7 < timer, badField 24)]
    checked (checks ++ claimHeld s pin timer)
      (fun s => (withClaims s (s.lane.claims ++ [{ pin := pin, timer := timer, use := 3, output := o }]), .ok [])) s

/-- NIGHT_PACE_SET (R405). -/
def execNightPaceSet (c : Cmd) (s : State) : Res := .next (hostCommand 0x0506 opNightPaceSet c s)

/-! ### AUXIO_PULSE -/

/-- Parameter word Wn of a claim. -/
def claimW (k : AuxClaim) (n : Nat) : W32 := wd k.args (n - 2)

/-- A claim after its timer has run. -/
def claimSet (k : AuxClaim) (s : State) : State :=
  withClaims s (s.lane.claims.map fun x => if x.pin == k.pin then k else x)

/-- A time-base pulse whose edge has been reached; nothing while its time base is unset (R711). -/
def tbPulse (k : AuxClaim) (s : State) : State :=
  let b := fld (claimW k 5) 1 0
  let t := tbGet s.tb b
  let now := tbNs t
  let period := (claimW k 8).toNat
  if !t.set || now < k.nextNs then s
  else send (.pulse k.pin b k.nextNs (claimW k 9).toNat) (claimSet { k with nextNs := nextEdge (k.nextNs + period) period (now + 1) } s)

/-- A touch frame sync at S(k) of the scan that its engine has reached, one pulse for each scan (R482). -/
def touchPulse (k : AuxClaim) (s : State) : State :=
  let e := fld (claimW k 5) 2 0
  let runs : Bool := (List.range 2).any fun j => (tpGet s (2 * e + j)).st != 0
  match if e < 4 && runs then scanDue (tePhase s e) (scanNow s) else none with
  | none => s
  | some n =>
    let t := scanStart (tePhase s e) n
    if k.nextNs = t + 1 then s
    else send (.pulse k.pin (if scanOnT0 s then 0 else 2) t (claimW k 9).toNat) (claimSet { k with nextNs := t + 1 } s)

/-- AUXIO_PULSE: an event timer reaches its time; the pins are held low while PD2 is isolated (R711, Table 15-6). -/
def auxPulse (timer : Nat) (s : State) : State :=
  match timerClaim s timer with
  | some k =>
    if !bitOf s.pwr.domains 2 || bitOf s.pwr.iso 2 then s
    else if k.use = 0 then tbPulse k s
    else if k.use = 1 then touchPulse k s
    else s
  | none => s

/-- AUXIO_PULSE (R709). -/
def execAuxioPulse (timer : Nat) (s : State) : Res := .next (auxPulse (timer % 8) s)

end Sys2Proof.Machine
end

