-- ==== Sys2Proof/Machine/Modes.lean ====
section
/-! DEFINITION. MODE_SET and Bind-off (R193, R629 to R633). -/

namespace Sys2Proof.Machine

/-- The modes that MODE_SET `n` may leave (Table 15-11). -/
def modeFrom (n : Nat) (m : Mode) : Bool :=
  match n with
  | 3 => m == .solo || m == .maintenance || m == .safeHold
  | 4 => m == .ready || m == .night
  | 9 => m == .solo
  | 10 => m == .ready || m == .solo || m == .night || m == .follow || m == .lead
  | 11 => holdable m
  | 12 => holdable m || m == .safeHold
  | _ => false

/-- A Lead that must hand over before it leaves its role (R459). -/
def mustHand (s : State) : Bool := s.pwr.mode == .lead && s.pair.peerFit

/-- A Lead asks for a handover for a reason. -/
def wantHand (r : HandReason) (s : State) : State := withPair s { s.pair with want := some r }

/-- Back to Ready; from Safe hold FAULT_N rises and the domains that Safe hold switched off come back (R631). -/
def toReady (port : Nat) (s : State) : State :=
  let held := s.pwr.mode == .safeHold
  let s1 := setMode .ready 1 0 port s
  if held then
    ([6, 7, 8, 9].filter fun d => bitOf s.pwr.shDomains d).foldl (fun st d => domainUp d st)
      (withPwr s1 { s1.pwr with faultN := false, shDomains := 0 })
  else s1

/-- Bind-off begins (R632). -/
def enterBindOff (port : Nat) (s : State) : State := setMode .bindOff 1 0 port (pairDrop s)

/-- A MODE_SET whose transition is listed (Table 15-11). -/
def modeChange (n port : Nat) (s : State) : State × Reply :=
  match n with
  | 3 => (toReady port s, .ok [])
  | 4 => (setMode .solo 1 0 port s, .ok [])
  | 9 => (setMode .night 1 0 port s, .ok [])
  | 10 => if mustHand s then (wantHand (.maintenance port) s, .ok []) else (setMode .maintenance 1 0 port (pairDrop s), .ok [])
  | 11 => (safeHoldCause 7 port s, .ok [])
  | _ => if mustHand s then (wantHand .bindOff s, .later n []) else (enterBindOff port s, .later n [])

/-- MODE_SET (R629). The refusal of Solo while T0 is UNSET has no status of its own: PARAM_ERROR as R448 gives it (DEDUCED, log 31). -/
def opModeSet (c : Cmd) (s : State) : State × Reply :=
  let n := fld (cw c 2) 3 0
  let m := s.pwr.mode
  checked [
    (c.port == .maint && !(n == 10 || (n == 3 && m == .maintenance)), noRight),
    (n == 0 || 12 < n || (5 ≤ n && n ≤ 8), badField 8),
    (!modeFrom n m, wrongMode),
    (n == 4 && s.tb.state == .unset, badField 8),
    (n == 3 && m == .safeHold && causePersists s, wrongMode)]
    (modeChange n (portInit c.port)) s

/-- MODE_SET (R629). -/
def execModeSet (c : Cmd) (s : State) : Res := .next (hostCommand 0x0004 opModeSet c s)

/-- An enabled output has sent its two frames of full purl (R632 step 3); one whose generator stands still has no frame to send. -/
def purlDone (s : State) (o : Nat) : Bool := !(flGet s (orGen (outRec s o))).en || 2 ≤ (outGet s o).purlFrames

/-- BIND_OFF_END: the last records and frames are done; the panels stop, MODE_SET 12 completes, and the module enters Off (R632). Off
has no mode number: MODE_CHANGE carries 0 (DEDUCED, log 32). -/
def bindOffEnd (s : State) : State :=
  if s.pwr.mode != .bindOff || s.pwr.state != .run then s
  else if !((s.scan.outs.filter fun x => x.2.en).all fun x => purlDone s x.1) || s.enc.chans.any fun x => !x.2.frames.isEmpty then s
  else
    let s1 := match outstOf 4 s with
      | some o => completeOutst o 0 0 [] s
      | none => s
    let s2 := withTouch s1 { s1.touch with engines := [], panels := s1.touch.panels.map fun x => (x.1, tpDrop x.2) }
    enterOff (raise 0x51 [pack [(31, 28, 0), (27, 24, 12), (23, 16, 5), (7, 0, 0xFF)]] s2)

/-- BIND_OFF_END (R632). -/
def execBindOffEnd (s : State) : Res := .next (bindOffEnd s)

end Sys2Proof.Machine
end

