-- ==== Sys2Proof/Machine/PairOps.lean ====
section
/-! DEFINITION. What the pair commands and the pair's events share: PAIR_ROLE and its companions (Table 11-8), entry to Lead and to
Ready, takeover (R457), the end of a knit-up (R470). -/

namespace Sys2Proof.Machine

/-- The pair and time sequencer works on its lanes: the PAIR domain is in service (Table 15-5). -/
def pairWorks (s : State) : Bool := works s 14

/-- The reference generator (R459). -/
def refGenOf (s : State) : FrameLock := flGet s s.pair.refGen

/-- A moment of the reference generator by T0: the first frame with D(n) − 100 µs at or after it. -/
def refFrame (s : State) (t : Nat) : Nat := if (refGenOf s).en then firstFrame (refGenOf s) (t + 100000) else 0

/-- D(n) − 100 µs of a frame of the reference generator has been reached, or a moment `extra` ns after it. -/
def refReached (s : State) (n extra : Nat) : Bool :=
  (refGenOf s).en && decide (displayTime (refGenOf s) n + extra ≤ t0Ns s + 100000)

/-- PAIR_ROLE (Table 11-8): modes before and after, cause, frame of the change, T0 nanoseconds of t_d or of the request. -/
def roleEvent (new prev cause frame ns : Nat) (s : State) : State :=
  raise 0x2C [pack [(31, 28, new), (27, 24, prev), (23, 16, cause)], w32 frame, w32 (ns % 1000000000)] s

/-- PAIR_LINK (Table 11-8): lanes in use as a mask (DEDUCED, log 39), the lane removed, whether for silence. -/
def linkEventPair (removed : Nat) (silence : Bool) (s : State) : State :=
  raise 0x2E [pack [(31, 28, s.pair.lanes.toNat), (27, 24, removed), (23, 23, b1 silence)]] s

/-- KNIT_STATE (Table 11-8). -/
def knitEvent (result cause : Nat) (s : State) : State :=
  raise 0x33 [pack [(31, 28, s.pair.phase), (27, 24, result), (23, 16, cause), (15, 8, satTo 255 s.pair.rapWait.length),
    (7, 0, satTo 255 s.pair.disabledCh)]] s

/-- The Corler link is down, with what was known of the peer. -/
def pairLinkDown (u : PairUnit) : PairUnit :=
  { u with linkUp := false, training := false, trainFailed := none, lanes := 0, peerMode := 0, peerLeadOut := false, peerFit := false,
           peerRequest := 0, peerDigest := none, peerSeen := [], ownRecs := [], peerRecs := [], hand := none, take := none,
           cfgSince := none, cfgRaised := false, tmRx := none, tmEcho := none, tmBack := none }

/-- The knit-up is over. -/
def knitOver (u : PairUnit) : PairUnit :=
  { u with phase := 0, proofFrames := 0, copyTries := [], copyDone := [], rapWait := [], disabledCh := 0, timeOk := none }

/-- The first frame that each output sends from now on goes whole (R458). -/
def allWhole (s : State) : State :=
  withScan s { s.scan with outs := s.scan.outs.map fun x => (x.1, if x.2.en then { x.2 with whole := true } else x.2) }

/-- The module's frames are the pair's from a moment of T0 on (R458, R502), the other's until `old` (R28). -/
def showsFrom (old t : Nat) (s : State) : State :=
  let s1 := allWhole s
  withPair s1 { s1.pair with gap := some t, gapDone := [], gapOld := old, gaps := [] }

/-- The module becomes Lead (R457, R459): LEAD_OUT rises, its frames are the pair's from `t` on; a drill ends. -/
def becomeLead (cause frame old t ns : Nat) (s0 : State) : State :=
  let s := drillEnd s0
  let s1 := withPair s { s.pair with hand := none, take := none, want := none, peerFit := false }
  roleEvent 5 (modeNum s0.pwr.mode) cause frame ns (showsFrom old t (setMode .lead 3 0 0xFF s1))

/-- The outputs that time a takeover: enabled, on a running generator. -/
def takeoverOutputs (s : State) : List Nat :=
  (s.scan.outs.filter fun x => x.2.en && (flGet s (orGen (outRec s x.1))).en).map Prod.fst

/-- The earliest D(n_o) − 100 µs at or after t_d; t_d where no output is enabled. -/
def takeoverDue (s : State) (td : Nat) : Nat :=
  match (takeoverOutputs s).map fun o =>
      let g := flGet s (orGen (outRec s o))
      displayTime g (firstFrame g (td + 100000)) - 100000 with
  | [] => td
  | t :: ts => ts.foldl Nat.min t

/-- Takeover starts (R457): cause 1 silence, 2 the peer's Safe hold or Bind-off. A silent peer was last known to drive its outputs at
its last good heartbeat (log 41). -/
def startTakeover (cause : Nat) (s : State) : State :=
  if s.pair.take.isSome then s
  else
    let td := t0Ns s
    let due := takeoverDue s td
    let old := if cause = 1 then td - (t2Ns s - s.pair.lastRx) else td
    withPair s { s.pair with take := some { frame := refFrame s due, due := due, cause := cause, detected := td, old := old },
                             hand := none }

/-- Knit-up fails: KNIT_STATE, and the module returns to Ready, by a command (1) or a pair event (3) (R470). -/
def knitFail (cause why port : Nat) (s : State) : State :=
  let s1 := knitEvent 2 cause s
  setMode .ready why 0 port (withPair s1 (pairLinkDown (knitOver s1.pair)))

/-- The Lead is lost during knit-up: KNIT_STATE with cause 6, and Safe hold with cause 6 (R451, Tables 11-2 and 15-12). -/
def leadLost (s : State) : State :=
  let s1 := knitEvent 2 6 s
  enterSafeHold 6 0xFF (withPair s1 (knitOver s1.pair))

/-- A Lead has lost its Follow (R451): no Follow is in step any more; a drill ends. -/
def followLost (silence : Bool) (s : State) : State :=
  let s0 := drillEnd s
  let s1 := withPair s0 { s0.pair with peerFit := false }
  let s2 := if s.pwr.mode == .drill then
      roleEvent 5 8 5 (refFrame s1 (t0Ns s1)) (t0Ns s1) (setMode .lead 3 0 0xFF s1) else s1
  linkEventPair 0xF silence s2

/-- An enabled output has vertical blanking over 1,900 µs (R448). -/
def blankTooLong (s : State) : Bool :=
  s.scan.outs.any fun x => x.2.en && decide (1900000 * 2 ^ 32 < outBlank s (outRec s x.1))

/-- R448 refuses the entry to Lead, Follow and Knit-up. -/
def pairRefused (s : State) : Bool := s.tb.state == .unset || blankTooLong s

/-- Two pair protocol words are compatible: the version of each is at least the lowest compatible version of the other (R441). -/
def pairCompatible (a b : W32) : Bool := fld b 31 16 ≤ fld a 15 0 && fld a 31 16 ≤ fld b 15 0

/-- The pair protocol word of the running image (R655). -/
def ownPairWord (s : State) : W32 := (if s.boot.running = 0 then s.boot.slot0 else s.boot.slot1).pairWord

end Sys2Proof.Machine
end

