-- ==== Sys2Proof/Machine/PairCmd.lean ====
section
/-! DEFINITION. The pair commands (Table 11-7): PAIR_SET, PAIR_ACCEPT, PAIR_KNIT, PAIR_DRILL, PAIR_LEAVE, PAIR_STATUS. -/

namespace Sys2Proof.Machine

/-- The peer is in Follow or Knit-up, as its heartbeats say. -/
def peerJoined (s : State) : Bool := s.pair.linkUp && !s.pair.silent && (s.pair.peerMode == 6 || s.pair.peerMode == 7)

/-- A peer Lead is present: LEAD_IN is high, or heartbeats report it. -/
def peerLeads (s : State) : Bool := s.pair.leadIn || (s.pair.linkUp && !s.pair.silent && s.pair.peerMode == 5)

/-- The settings of PAIR_SET (R446, R448, R470, R733); with the pair enabled a module in Solo, or in Ready with no peer Lead present,
becomes Lead. A Lead whose peer has joined takes no PAIR_SET. -/
def opPairSet (c : Cmd) (s : State) : State × Reply :=
  let w := cw c 2
  let m := s.pwr.mode
  let limit := if (cw c 3).toNat = 0 then 120 else (cw c 3).toNat
  let leads := bitOf w 31 && (m == .solo || (m == .ready && !peerLeads s))
  checked [
    (!(m == .ready || m == .solo || (m == .lead && !peerJoined s)), wrongMode),
    (limit < 10 || 3600 < limit, badField 12),
    (leads && pairRefused s, badField 8)]
    (fun s =>
      let s1 := withPair s { s.pair with enabled := bitOf w 31, posB := bitOf w 30, refGen := fld w 2 0, limitS := limit }
      (if leads then setMode .lead 1 0 (portInit c.port) s1 else s1, .ok [])) s

/-- PAIR_SET (R446). -/
def execPairSet (c : Cmd) (s : State) : Res := .next (hostCommand 0x0700 opPairSet c s)

/-- PAIR_ACCEPT (R462): the Lead accepts a knit-up for a time, and the sequencer brings the link up (R441). -/
def opPairAccept (c : Cmd) (s : State) : State × Reply :=
  let t := (cw c 2).toNat
  checked [
    (s.pwr.mode != .lead, wrongMode),
    (t = 0 || 3600 < t, badField 8),
    domainOff s 14]
    (fun s => (withPair s { s.pair with acceptUntil := some (t2Ns s + t * 1000000000), training := !s.pair.linkUp || s.pair.training },
      .ok [])) s

/-- PAIR_ACCEPT (R462). -/
def execPairAccept (c : Cmd) (s : State) : Res := .next (hostCommand 0x0701 opPairAccept c s)

/-- The knit-up begins: phase 1, link training (R441, R463). -/
def knitBegin (s : State) : State :=
  let u := knitOver (pairLinkDown s.pair)
  let s1 := setMode .knitUp 1 0 0 (withPair s { u with phase := 1, knitAt := t2Ns s, training := true })
  knitEvent 0 0 s1

/-- PAIR_KNIT (R463): lanes that are not calibrated calibrate first (R700). With the pair disabled it breaks R463 in a mode that takes
it, a parameter error (R547; DEDUCED, log 60). -/
def opPairKnit (_c : Cmd) (s : State) : State × Reply :=
  checked [
    (s.pwr.mode != .ready, wrongMode),
    (!s.pair.enabled || pairRefused s, badField 0),
    domainOff s 14]
    (laneEnable [80, 81, 82, 83] 0 [] fun s => (knitBegin s, .ok [])) s

/-- PAIR_KNIT (R463). -/
def execPairKnit (c : Cmd) (s : State) : Res := .next (hostCommand 0x0702 opPairKnit c s)

/-- A drill begins on one of the modules; LEAD_OUT stays as it was (R472). -/
def drillBegin (frame ret cause port : Nat) (s : State) : State :=
  let out := s.pair.leadOut
  let s1 := setMode .drill cause 0 port s
  withPair s1 { s1.pair with leadOut := out, gaps := [], drill := some { frame := frame, ret := ret, wasLead := out } }

/-- PAIR_DRILL (R472). -/
def opPairDrill (c : Cmd) (s : State) : State × Reply :=
  let n := frameNamed (refGenOf s) (cw c 4)
  let ret := (cw c 5).toNat
  checked [
    (s.pwr.mode != .lead || !s.pair.peerFit, wrongMode),
    (86400 < ret, badField 20),
    (!(refGenOf s).en || displayTime (refGenOf s) n < t0Ns s + 100000000, tooLate)]
    (fun s => (drillBegin n ret 1 (portInit c.port) (send (.corler 1 [2, cw c 4, w32 ret]) s), .ok [])) s

/-- PAIR_DRILL (R472). -/
def execPairDrill (c : Cmd) (s : State) : Res := .next (hostCommand 0x0703 opPairDrill c s)

/-- A Follow goes to Ready, by its own PAIR_LEAVE or by its Lead's (R447). -/
def followLeaves (cause port : Nat) (s : State) : State :=
  let s1 := setMode .ready cause 0 port (withPair s (pairLinkDown s.pair))
  roleEvent 3 6 8 (refFrame s1 (t0Ns s1)) (t0Ns s1) s1

/-- PAIR_LEAVE (R447, Table 11-2). -/
def pairLeave (port : Nat) (s : State) : State :=
  match s.pwr.mode with
  | .follow => followLeaves 1 port s
  | .knitUp => knitFail 5 1 port s
  | _ =>
    if peerJoined s then
      let s1 := send (.corler 1 [1]) s
      withPair s1 { s1.pair with peerFit := false, peerMode := 3, want := none, hand := none }
    else
      let s1 := setMode .solo 1 0 port (withPair s { pairLinkDown s.pair with acceptUntil := none, want := none })
      roleEvent 4 5 8 (refFrame s1 (t0Ns s1)) (t0Ns s1) s1

/-- PAIR_LEAVE (R447). -/
def opPairLeave (c : Cmd) (s : State) : State × Reply :=
  let m := s.pwr.mode
  checked [(!(m == .lead || m == .follow || m == .knitUp), wrongMode)]
    (fun s => (pairLeave (portInit c.port) s, .ok [])) s

/-- PAIR_LEAVE (R447). -/
def execPairLeave (c : Cmd) (s : State) : Res := .next (hostCommand 0x0704 opPairLeave c s)

/-- PAIR_STATUS W6, and PAIR_STAT (R678). -/
def pairStatWord (s : State) : W32 :=
  let u := s.pair
  pack [(31, 28, modeNum s.pwr.mode), (27, 24, u.peerMode), (23, 23, b1 u.peerFit), (22, 22, b1 u.leadIn), (19, 16, u.lanes.toNat),
    (15, 8, u.phase)]

/-- PAIR_STATUS (R476). -/
def opPairStatus (_c : Cmd) (s : State) : State × Reply := (s, .ok [pairStatWord s, s.tb.pairT0Ofs])

/-- PAIR_STATUS (R476). -/
def execPairStatus (c : Cmd) (s : State) : Res := .next (hostCommand 0x0705 opPairStatus c s)

/-! ### Registers (R678) -/

/-- Reads of the PAIR block (Table 17-7). -/
def pairPeek (off : Nat) (s : State) : Option W32 :=
  let u := s.pair
  match off with
  | 0x8000 => some (pairStatWord s)
  | 0x8004 => some (w32 u.hbRx.toNat)
  | 0x8008 => some (w32 u.hbMiss)
  | 0x8010 => some (w32 u.cmpMatch)
  | 0x8014 => some (w32 u.cmpExcused)
  | 0x8018 => some (w32 u.cmpDiverge)
  | 0x801C => some (w32 u.cmpLate)
  | 0x8020 => some (w32 u.cmpNone)
  | _ => none

/-- A read of a counter of the PAIR block clears it. -/
def pairClear (off : Nat) (s : State) : State :=
  let u := s.pair
  match off with
  | 0x8008 => withPair s { u with hbMiss := 0 }
  | 0x8010 => withPair s { u with cmpMatch := 0 }
  | 0x8014 => withPair s { u with cmpExcused := 0 }
  | 0x8018 => withPair s { u with cmpDiverge := 0 }
  | 0x801C => withPair s { u with cmpLate := 0 }
  | 0x8020 => withPair s { u with cmpNone := 0 }
  | _ => s

end Sys2Proof.Machine
end

