-- ==== Sys2Proof/Machine/PairEv.lean ====
section
/-! DEFINITION. The events of a pair: offsets (R210), heartbeats and LEAD_IN (R444, R445, R449 to R451), the Corler link (R439, R441),
digest records (R453 to R455), takeover, handover and drills (R457 to R460, R472, R473). -/

namespace Sys2Proof.Machine

/-! ### PAIR_OFFSET_MEASURE -/

/-- A signed ns saturated to 32 bits. -/
def ofsWord (x : Int) : W32 := sat32i x

/-- Phase 2 of a knit-up: since when T0 has been LOCKED with its offset within the limit (Table 11-5). -/
def timeOkStep (ok : Bool) (s : State) : Option (Nat × Nat) :=
  let n := tget 0 s.tb.entered 1
  if !ok || s.tb.state != .locked then none
  else match s.pair.timeOk with
    | some (t, k) => if k = n then some (t, k) else some (t2Ns s, n)
    | none => some (t2Ns s, n)

/-- A stamp at the present tick and a sub-tick part, on T0 and on T3 (R194, R199). -/
def pairStampNow (p : StampNs) (s : State) : PairStamp :=
  let at_ (t : TimeBase) : Nat := (tbNs t + p.ns) * 4 + p.qns % 4
  { t0 := at_ s.tb.t0, t3 := at_ s.tb.t3 }

/-- A stamp as an entry of queue 8: time base T3, with a copy on T0 (R199). -/
def pairTxStamp (ident : W16) (p : PairStamp) : TxStamp :=
  { ident := ident, tbase := 3, nsq := w32 (p.t3 % 4000000000), sec := p.t3 / 4000000000, t0sec := p.t0 / 4000000000,
    t0nsq := w32 (p.t0 % 4000000000) }

/-- The stamp that an entry of queue 8 holds. -/
def txPairStamp (e : TxStamp) : PairStamp :=
  { t0 := e.t0sec * 4000000000 + e.t0nsq.toNat, t3 := e.sec * 4000000000 + e.nsq.toNat }

/-- An identified stamp as words of a timing message (log 67). -/
def identWords (x : Option (W16 × PairStamp)) : List W32 :=
  match x with
  | some (i, p) => [pack [(31, 31, 1), (15, 0, i.toNat)], w32 (p.t0 / 4000000000), w32 (p.t0 % 4000000000), w32 (p.t3 / 4000000000),
      w32 (p.t3 % 4000000000)]
  | none => [0, 0, 0, 0, 0]

/-- The peer's time minus the module's own, in ns, from the four stamps of a two-way exchange over a symmetric link (R210): own transmit
and peer receive of one message, peer transmit and own receive of another, in quarter nanoseconds. -/
def twoWay (ownTx peerRx peerTx ownRx : Nat) : Int :=
  (((peerRx : Int) - ownTx) + ((peerTx : Int) - ownRx)) / 8

/-- The offsets of T0 and T3 that the stamps at hand give: an own transmit stamp of queue 8, the peer's receive stamp of that message,
and the stamps of a message of the peer. -/
def pairOffsets (s : State) : Option (Int × Int) :=
  match s.pair.tmEcho, s.pair.tmBack with
  | some (i, rx), some (ptx, orx) =>
    ((txqGet s 8).q.find? fun e => e.ident == i).map fun e =>
      let tx := txPairStamp e
      (twoWay tx.t0 rx.t0 ptx.t0 orx.t0, twoWay tx.t3 rx.t3 ptx.t3 orx.t3)
  | _, _ => none

/-- The offsets are reported, with PAIR_TIME when the limit is crossed (R210). -/
def pairReport (t0 t3 : Int) (s : State) : State :=
  let ovl : Bool := decide (s.tb.pairLimit.toNat < t0.natAbs)
  let s1 := withTb s { s.tb with pairT0Ofs := ofsWord t0, pairT3Ofs := ofsWord t3, pairOver := ovl }
  let s2 := withPair s1 { s1.pair with timeOk := timeOkStep (!ovl) s1 }
  if ovl == s.tb.pairOver then s2
  else raise 0x0C [pack [(31, 24, b1 ovl)], ofsWord t0, ofsWord t3] s2

/-- The next timing message goes out, stamped on transmit (R199): it tells the peer the receive stamps of the peer's last message and
the transmit stamps of the own message before it. The identifiers of timing messages are a free value. -/
def pairSend (p : StampNs) (s : State) : State :=
  let (w, s1) := takeFree s
  let i := w.setWidth 16
  let prev := (txqGet s1 8).q.getLast?.map fun e => (e.ident, txPairStamp e)
  let s2 := txqPush 8 (pairTxStamp i (pairStampNow p s1)) (txqSet 8 { txqGet s1 8 with q := [] } s1)
  send (.corler 2 (w32 i.toNat :: (identWords s2.pair.tmRx ++ identWords prev))) (withPair s2 { s2.pair with tmEcho := none, tmAt := t2Ns s2 })

/-- PAIR_OFFSET_MEASURE: every 10 ms of T2 the sequencer consumes the stamps of the messages exchanged, reports the offsets that they
give, and sends the next message. -/
def pairMeasure (p : StampNs) (s : State) : State :=
  if !pairWorks s || !s.pair.linkUp || t2Ns s < s.pair.tmAt + 10000000 then s
  else match pairOffsets s with
    | some (t0, t3) => pairSend p (pairReport t0 t3 s)
    | none => pairSend p s

/-- PAIR_OFFSET_MEASURE (R210). -/
def execPairOffsetMeasure (p : StampNs) (s : State) : Res := .next (pairMeasure p s)

/-- A timing message of the peer, stamped on receive on T0 and T3 (R199). -/
def timingReceive (p : StampNs) (ident : W16) (echo prev : Option (W16 × PairStamp)) (s : State) : State :=
  let u := s.pair
  let back := match prev, u.tmRx with
    | some (i, ptx), some (j, orx) => if i = j then some (ptx, orx) else u.tmBack
    | _, _ => u.tmBack
  withPair s { u with tmRx := some (ident, pairStampNow p s), tmEcho := echo, tmBack := back }

/-! ### Heartbeats (R449 to R451) -/

/-- The module reports Fit (R456). -/
def reportsFit (s : State) : Bool := followSide s && pairFit s

/-- The request that a heartbeat carries, and its frame (Table 11-3). -/
def heartbeatRequest (s : State) : Nat × Nat :=
  match s.pair.hand, s.pair.drill with
  | some h, _ => if h.reason.isSome then (1, h.frame) else (0, 0)
  | none, some d => if d.wasLead && d.swaps = 0 then (2, d.frame) else (0, 0)
  | none, none => (0, 0)

/-- One heartbeat on one lane (Table 11-3; the fields' places in the record are the model's own). -/
def heartbeatOn (s : State) (i : Nat) : Outgoing :=
  let (q, f) := heartbeatRequest s
  .corler 0 [pack [(31, 16, s.pair.hbTx.toNat), (15, 12, modeNum s.pwr.mode), (11, 11, b1 s.pair.leadOut), (10, 10, b1 (reportsFit s)),
    (9, 8, q), (3, 0, i)], w32 f]

/-- HEARTBEAT_SEND: 10 µs after the last one, on every lane in use. A 10 µs interval in which nothing was received counts. A Lead whose
transmitter sends again drives LEAD_OUT high again (R442, R444; log 40). -/
def heartbeatSend (s : State) : State :=
  let now := t2Ns s
  if !pairWorks s || !s.pair.enabled || now < s.pair.lastTx + 10000 then s
  else
    let u := s.pair
    let miss : Bool := u.linkUp && decide (u.lastRx ≤ u.lastTx)
    let s1 := withPair s { u with
      lastTx := now, hbTx := u.hbTx + 1, hbMiss := if miss then sat32 (u.hbMiss + 1) else u.hbMiss,
      leadOut := u.leadOut || s.pwr.mode == .lead }
    if !u.linkUp then s1
    else ((List.range 4).filter fun i => bitOf u.lanes i).foldl (fun st i => send (heartbeatOn s1 i) st) s1

/-- HEARTBEAT_SEND (R449). -/
def execHeartbeatSend (s : State) : Res := .next (heartbeatSend s)

/-- The peer reports Safe hold or Bind-off (R451). -/
def peerGone (mode : Nat) : Bool := mode == 11 || mode == 12

/-- What a heartbeat's report of the peer brings about (R451, R459). -/
def heartbeatActs (h : Heartbeat) (old : Nat) (s : State) : State :=
  if peerGone h.mode then
    if s.pwr.mode == .knitUp then leadLost s
    else if followSide s then (if s.pair.hand.isSome then s else startTakeover 2 s)
    else if leadSide s && !peerGone old then followLost false s
    else s
  else if h.request == 1 && s.pwr.mode == .follow && s.pair.hand.isNone && s.pair.take.isNone && h.leadOut then
    withPair s { s.pair with hand := some { frame := frameNamed (refGenOf s) (w32 h.frame), reason := none, requestedAt := t0Ns s } }
  else s

/-- HEARTBEAT_RECEIVE: one with a good link-frame CRC, on a lane in use. LEAD_IN is wired to the peer's LEAD_OUT (R443, log 40). -/
def heartbeatReceive (lane : Nat) (h : Heartbeat) (s : State) : State :=
  let u := s.pair
  if !pairWorks s || !u.linkUp || !bitOf u.lanes (lane % 4) || !h.crcOk || h.mode = 0 || 12 < h.mode then s
  else
    heartbeatActs h u.peerMode (withPair s { u with
      hbRx := h.seq, lastRx := t2Ns s, silent := false, peerMode := h.mode, peerLeadOut := h.leadOut, leadIn := h.leadOut,
      peerFit := h.fit, peerRequest := h.request, peerFrame := h.frame })

/-- HEARTBEAT_RECEIVE (R449). -/
def execHeartbeatReceive (lane : Nat) (h : Heartbeat) (s : State) : Res := .next (heartbeatReceive lane h s)

/-- HEARTBEAT_SILENCE: 30 µs without a good heartbeat on any lane. -/
def heartbeatSilence (s : State) : State :=
  let u := s.pair
  if !pairWorks s || !u.linkUp || u.silent || t2Ns s < u.lastRx + 30000 then s
  else
    let s1 := withPair s { u with silent := true, peerFit := false }
    if s.pwr.mode == .knitUp then leadLost s1
    else if followSide s then startTakeover 1 s1
    else if leadSide s then followLost true s1
    else s1

/-- HEARTBEAT_SILENCE (R450). -/
def execHeartbeatSilence (s : State) : Res := .next (heartbeatSilence s)

/-! ### LEAD_OUT and LEAD_IN (R442 to R445) -/

/-- HEARTBEAT_TX_WATCHDOG: the own transmitter has sent nothing for 20 µs. -/
def txWatchdog (s : State) : State :=
  if s.pair.leadOut && s.pair.lastTx + 20000 ≤ t2Ns s && s.pwr.state != .off then withPair s { s.pair with leadOut := false } else s

/-- HEARTBEAT_TX_WATCHDOG (R444). -/
def execHeartbeatTxWatchdog (s : State) : Res := .next (txWatchdog s)

/-- PAIR_SPLIT and PAIR_PIN (Table 11-8). -/
def pinEvent (code : Nat) (s : State) : State := raise code [pack [(31, 31, b1 s.pair.leadIn), (30, 30, b1 s.pair.peerLeadOut)]] s

/-- LEAD_IN_YIELD: LEAD_IN has been high for 2 µs. A Lead yields: LEAD_OUT low, PAIR_SPLIT, Safe hold with cause 5. -/
def leadInYield (s : State) : State :=
  let s1 := withPair s { s.pair with leadIn := true }
  if !(leadSide s && s.pair.leadOut) then s1
  else
    let s2 := pinEvent 0x2F (withPair s1 { s1.pair with leadOut := false })
    roleEvent 11 (modeNum s.pwr.mode) 6 (refFrame s2 (t0Ns s2)) (t0Ns s2) (enterSafeHold 5 0xFF s2)

/-- LEAD_IN_YIELD (R444). -/
def execLeadInYield (s : State) : Res := .next (leadInYield s)

/-- PAIR_PIN: LEAD_IN has disagreed with the reported LEAD_OUT for 1 ms. -/
def pairPin (s : State) : State :=
  if !pairWorks s || !s.pair.linkUp || s.pair.silent then s
  else pinEvent 0x30 (withPair s { s.pair with leadIn := !s.pair.peerLeadOut })

/-- PAIR_PIN (R445). -/
def execPairPin (s : State) : Res := .next (pairPin s)

/-! ### The Corler link (R438, R439, R441) -/

/-- A lane is removed from the link (R439). -/
def laneRemove (i : Nat) (s : State) : State :=
  let s1 := laneUpd (80 + i) (fun x => { x with ovl := 5, since := t2Ns s }) s
  linkEventPair i false (withPair s1 { s1.pair with lanes := s1.pair.lanes &&& ~~~(w32 (2 ^ i)), replays := tset i 0 s1.pair.replays })

/-- A lifeline that the Lead wrote since phase 4 began enters this module's buffer (R468). -/
def takeLifeline (c i t : Nat) (bs : List Byte) (s : State) : State :=
  let x := canGet s c
  let cols := stitchN x.w
  if cols = 0 then s
  else canUpd c (fun k => { k with lives := tset i t k.lives })
    (writeStitch 0x50 [] 3 20 (lifeSurf x) (i % cols) (i / cols) bs (tagWord (crc32c bs) t 0) s).2

/-- A message that has passed its frame check. -/
def corlerMessage (p : StampNs) (m : CorlerMsg) (s : State) : State :=
  match m with
  | .ordinary => s
  | .snapshotRequest =>
    if s.pwr.mode == .lead then
      raise 0x32 [0, s.hif.cmdSeq] (send (.corler 4 [configDigest s])
        (withPair s { s.pair with copyTries := [], copyDone := [], rapWait := [] }))
    else s
  | .lifeline c i t bs => if s.pwr.mode == .knitUp && (s.pair.phase = 4 || s.pair.phase = 5) then takeLifeline c i t bs s else s
  | .drill f r => if s.pwr.mode == .follow then drillBegin (frameNamed (refGenOf s) (w32 f)) r 3 0xFF s else s
  | .timing i echo prev => timingReceive p i echo prev s
  | .unlisted w => notPermitted 3 4 0 w 0 s

/-- CORLER_FRAME_RECEIVE: a frame that fails its check is discarded; one of a replayed class is sent again up to four times, and the
lane is removed when the fourth replay fails as well (R439). -/
def corlerFrame (lane : Nat) (f : CorlerFrame) (s : State) : State :=
  let i := lane % 4
  let u := s.pair
  if !pairWorks s || !u.linkUp || !bitOf u.lanes i then s
  else if f.crcOk then corlerMessage f.stamp f.msg (withPair s { u with replays := tset i 0 u.replays })
  else if f.cls == 1 || f.cls == 3 || f.cls == 4 then
    let n := tget 0 u.replays i
    if n < 4 then withPair s { u with replays := tset i (n + 1) u.replays } else laneRemove i s
  else s

/-- CORLER_FRAME_RECEIVE (R439). -/
def execCorlerFrameReceive (lane : Nat) (f : CorlerFrame) (s : State) : Res := .next (corlerFrame lane f s)

/-- A knit-up phase is passed and the next one starts (R463, R477). -/
def phaseNext (s : State) : State :=
  let s1 := knitEvent 1 0 s
  knitEvent 0 0 (withPair s1 { s1.pair with phase := s1.pair.phase + 1 })

/-- CORLER_LINK_TRAINING: the training ends. With no lane it has failed and is retried; else the versions are exchanged (R441), and the
rejoining module needs a Lead in the other position that accepts it (R463, R470). -/
def corlerTraining (r : CorlerTraining) (s : State) : State :=
  let u := s.pair
  let lanes := r.lanes &&& 0xF
  let accepts : Bool := s.pwr.mode == .lead && u.acceptUntil.isSome
  if !pairWorks s || !(u.training || accepts) then s
  else if lanes = 0 then withPair s { u with training := false, trainFailed := some (t2Ns s) }
  else if s.pwr.mode == .knitUp && !pairCompatible (ownPairWord s) r.peerWord then knitFail 2 3 0xFF s
  else if s.pwr.mode == .knitUp && (!r.accepting || r.posB == u.posB) then knitFail 3 3 0xFF s
  else if !pairCompatible (ownPairWord s) r.peerWord then withPair s { u with training := false }
  else
    let s1 := (List.range 4).foldl (fun st i =>
      if bitOf lanes i then laneUpd (80 + i) (fun x => if x.ovl == 5 then { x with ovl := 0 } else x) st else st) s
    let s2 := send (.corler 1 [ownPairWord s]) (withPair s1 { u with
      training := false, trainFailed := none, linkUp := true, lanes := lanes, replays := [], lastRx := t2Ns s, silent := false,
      peerPair := r.peerWord, peerSeen := [], ownRecs := [], peerRecs := [] })
    if s.pwr.mode == .knitUp && u.phase == 1 then phaseNext s2 else s2

/-- CORLER_LINK_TRAINING (R441). -/
def execCorlerLinkTraining (r : CorlerTraining) (s : State) : Res := .next (corlerTraining r s)

/-- CORLER_TRAINING_RETRY: 1 s after a failed training, while the knit-up or its acceptance lasts. -/
def trainingRetry (s : State) : State :=
  match s.pair.trainFailed with
  | some t =>
    if t + 1000000000 ≤ t2Ns s && (s.pwr.mode == .knitUp || (s.pwr.mode == .lead && s.pair.acceptUntil.isSome)) then
      withPair s { s.pair with training := true, trainFailed := none }
    else s
  | none => s

/-- CORLER_TRAINING_RETRY (R441). -/
def execCorlerTrainingRetry (s : State) : Res := .next (trainingRetry s)

/-! ### Digest records (R452 to R455) -/

/-- A result that no comparison gave: 4 late, 5 not compared (Table 11-4). -/
def notCompared (o code : Nat) (s : State) : State :=
  let s1 := cmpResult o code s
  let u := s1.pair
  withPair s1 (if code = 4 then { u with cmpLate := sat32 (u.cmpLate + 1) } else { u with cmpNone := sat32 (u.cmpNone + 1) })

/-- PAIR_CONFIG (Table 11-8). -/
def configEvent (differ : Bool) (s : State) : State :=
  raise 0x31 [pack [(31, 31, b1 differ)], configDigest s, s.pair.peerDigest.getD 0] s

/-- The configuration digests compared (R455): a mismatch is timed; agreement ends it, and is told if the mismatch was. -/
def configCheck (s : State) : State :=
  let u := s.pair
  match u.peerDigest with
  | none => s
  | some d =>
    if d == configDigest s then
      let s1 := withPair s { u with cfgSince := none, cfgRaised := false }
      if u.cfgRaised then configEvent false s1 else s1
    else if u.cfgSince.isNone then withPair s { u with cfgSince := some (t2Ns s) }
    else s

/-- DIGEST_RECORD_RECEIVE: the peer's record of an output frame. -/
def digestReceive (r : PeerDigest) (s : State) : State :=
  if !pairWorks s || !pairCompares s || !s.pair.linkUp then s
  else
    let o := r.output % 48
    let b : DigRec := { output := o, frame := r.frame, digest := r.digest, slipped := r.slipped, rescan := r.rescan, readback := r.readback }
    let seen := if s.pair.peerSeen.contains o then s.pair.peerSeen else o :: s.pair.peerSeen
    let s1 := configCheck (withPair s { s.pair with peerDigest := some r.config, peerSeen := seen })
    if !(outGet s1 o).en then notCompared o 5 s1
    else match s1.pair.ownRecs.find? (sameFrame b) with
      | some a => comparePair a b (withPair s1 { s1.pair with ownRecs := s1.pair.ownRecs.filter fun x => !sameFrame b x })
      | none => withPair s1 { s1.pair with peerRecs := s1.pair.peerRecs ++ [b] }

/-- DIGEST_RECORD_RECEIVE (R453). -/
def execDigestRecordReceive (r : PeerDigest) (s : State) : Res := .next (digestReceive r s)

/-- DIGEST_RECORD_LATE: four frames after the own record of a frame, sent at its end, the peer's is missing. It is late, or, where the
peer has sent no record of this output at all, the output is enabled on one module only (Table 11-4). -/
def digestLate (o : Nat) (s : State) : State :=
  let g := flGet s (orGen (outRec s o))
  match s.pair.ownRecs.find? fun a => a.output == o with
  | some a =>
    if frameNamed g a.frame + 6 ≤ g.next then
      notCompared o (if s.pair.peerSeen.contains o then 4 else 5)
        (withPair s { s.pair with ownRecs := s.pair.ownRecs.filter fun x => !sameFrame a x })
    else s
  | none => s

/-- DIGEST_RECORD_LATE (R453). -/
def execDigestRecordLate (output : Nat) (s : State) : Res := .next (digestLate (output % 48) s)

/-- PAIR_CONFIG: the digests have differed for 100 ms, or agree again. -/
def pairConfig (s : State) : State :=
  let s1 := configCheck s
  match s1.pair.cfgSince with
  | some t =>
    if !s1.pair.cfgRaised && t + 100000000 ≤ t2Ns s1 then configEvent true (withPair s1 { s1.pair with cfgRaised := true }) else s1
  | none => s1

/-- PAIR_CONFIG (R455). -/
def execPairConfig (s : State) : Res := .next (if pairCompares s then pairConfig s else s)

/-! ### Takeover and handover (R457 to R460) -/

/-- TAKEOVER: the earliest D(n_o) − 100 µs after the detection. -/
def takeover (s : State) : State :=
  match s.pair.take with
  | some t =>
    if followSide s && decide (t.due ≤ t0Ns s) then becomeLead t.cause t.frame t.old (t.detected + 100000) t.detected s else s
  | none => s

/-- TAKEOVER (R457). -/
def execTakeover (s : State) : Res := .next (takeover s)

/-- A Lead leaves its role for the reason it wanted to (R459, R630, R632, Table 11-2). -/
def leadActs (r : HandReason) (s : State) : State :=
  match r with
  | .outputFault _ => setMode .follow 3 0 0xFF s
  | .safeHold k => enterSafeHold k 0xFF s
  | .bindOff => enterBindOff 0xFF s
  | .maintenance p => setMode .maintenance 1 0 p (pairDrop s)

/-- HANDOVER_REQUEST: the request names the first frame of the reference generator with D(n) − 100 µs at least 50 µs ahead; it is
refused when the Follow is not fit, or no reference generator runs. A Lead that is refused goes its way alone (R459, R460). -/
def handoverRequest (s : State) : State :=
  match s.pair.want with
  | some r =>
    let s1 := withPair s { s.pair with want := none }
    if s.pwr.mode != .lead then s1
    else if s.pair.peerFit && !s.pair.silent && (refGenOf s).en then
      withPair s1 { s1.pair with hand := some { frame := refFrame s (t0Ns s + 50000), reason := some r, requestedAt := t0Ns s } }
    else
      let s2 := roleEvent 5 5 9 (refFrame s1 (t0Ns s1)) (t0Ns s1) s1
      match r with
      | .outputFault _ => s2
      | _ => leadActs r s2
  | none => s

/-- HANDOVER_REQUEST (R459). -/
def execHandoverRequest (s : State) : Res := .next (handoverRequest s)

/-- HANDOVER_SWITCH: at D(n) − 100 µs the Lead releases LEAD_OUT; the Follow takes it then, or when the first heartbeat after it reports
the peer's LEAD_OUT low. A Follow whose peer reports Follow names cause 3, else 4. -/
def handoverSwitch (s : State) : State :=
  match s.pair.hand with
  | some h =>
    if !refReached s h.frame 0 then s
    else match h.reason with
      | some r =>
        if s.pwr.mode != .lead then s
        else
          let s1 := leadActs r (withPair s { s.pair with hand := none, leadOut := false, peerFit := false, gap := none, gapDone := [] })
          let cause := match r with | .outputFault _ => 3 | _ => 4
          roleEvent (modeNum s1.pwr.mode) 5 cause h.frame h.requestedAt s1
      | none =>
        if s.pwr.mode == .follow && !s.pair.peerLeadOut then
          becomeLead (if s.pair.peerMode == 6 then 3 else 4) h.frame (t0Ns s) (t0Ns s) h.requestedAt s
        else s
  | none => s

/-- HANDOVER_SWITCH (R459). -/
def execHandoverSwitch (s : State) : Res := .next (handoverSwitch s)

/-- HANDOVER_TIMEOUT: 200 µs after its own D(n) − 100 µs no heartbeat has reported the peer's LEAD_OUT low, while heartbeats continue:
the Follow stays Follow. A drill's swap ends in the same way (R472). -/
def handoverTimeout (s : State) : State :=
  let refuse (frame ns prev : Nat) (st : State) : State := roleEvent 6 prev 9 frame ns st
  if s.pair.silent || !s.pair.peerLeadOut then s
  else match s.pair.hand, s.pair.drill with
    | some h, _ =>
      if s.pwr.mode == .follow && h.reason.isNone && refReached s h.frame 0 && displayTime (refGenOf s) h.frame + 100000 ≤ t0Ns s then
        refuse h.frame h.requestedAt 6 (withPair s { s.pair with hand := none })
      else s
    | none, some d =>
      if followSide s && d.swaps = 0 && refReached s d.frame 0 && displayTime (refGenOf s) d.frame + 100000 ≤ t0Ns s then
        refuse d.frame (t0Ns s) 8 (setMode .follow 3 0 0xFF (drillEnd s))
      else s
    | none, none => s

/-- HANDOVER_TIMEOUT (R459). -/
def execHandoverTimeout (s : State) : Res := .next (handoverTimeout s)

/-- LEAVE_MESSAGE_RECEIVE: the Lead has taken its peer out of the pair. -/
def leaveReceive (s : State) : State :=
  if !pairWorks s || !s.pair.linkUp then s
  else match s.pwr.mode with
    | .follow => followLeaves 3 0xFF s
    | .knitUp => knitFail 5 3 0xFF s
    | _ => s

/-- LEAVE_MESSAGE_RECEIVE (R447). -/
def execLeaveMessageReceive (s : State) : Res := .next (leaveReceive s)

/-! ### Drills (R472, R473) -/

/-- The roles of a drill swap on this module: the one that drives LEAD_OUT releases it, the other takes it once the peer's is reported
low. -/
def drillTurn (d : Drill) (frame : Nat) (s : State) : State :=
  let d' := { d with swaps := d.swaps + 1, swapAt := t0Ns s, swapFrame := frame }
  let told (st : State) : State := roleEvent 8 8 5 frame (t0Ns st) st
  if s.pair.leadOut then told (withPair s { s.pair with leadOut := false, drill := some d', gap := none, gapDone := [] })
  else if s.pair.peerLeadOut then s
  else told (showsFrom (t0Ns s) (t0Ns s) (withPair s { s.pair with leadOut := true, drill := some d' }))

/-- DRILL_SWAP: the drill's frame. -/
def drillSwap (s : State) : State :=
  match s.pair.drill with
  | some d => if s.pwr.mode == .drill && d.swaps = 0 && refReached s d.frame 0 then drillTurn d d.frame s else s
  | none => s

/-- DRILL_SWAP (R472). -/
def execDrillSwap (s : State) : Res := .next (drillSwap s)

/-- The first frame of the reference generator at or after n plus the return time. -/
def drillBack (s : State) (d : Drill) : Nat :=
  firstFrame (refGenOf s) (displayTime (refGenOf s) d.frame + d.ret * 1000000000)

/-- DRILL_RETURN: the roles swap back. -/
def drillReturn (s : State) : State :=
  match s.pair.drill with
  | some d =>
    if s.pwr.mode == .drill && d.swaps = 1 && d.ret != 0 && refReached s (drillBack s d) 0 then drillTurn d (drillBack s d) s else s
  | none => s

/-- DRILL_RETURN (R472). -/
def execDrillReturn (s : State) : Res := .next (drillReturn s)

/-- DRILL_RESULT: 3 s after the last swap the drill ends (log 41). -/
def drillResult (s : State) : State :=
  match s.pair.drill with
  | some d =>
    let last : Nat := if d.ret = 0 then 1 else 2
    if s.pwr.mode != .drill || d.swaps < last || t0Ns s < d.swapAt + 3000000000 then s
    else
      let new : Mode := if s.pair.leadOut then .lead else .follow
      let s1 := drillEnd s
      roleEvent (modeNum new) 8 5 (refFrame s1 (t0Ns s1)) (t0Ns s1) (setMode new 3 0 0xFF s1)
  | none => s

/-- DRILL_RESULT (R473). -/
def execDrillResult (_ : Unit) (s : State) : Res := .next (drillResult s)

end Sys2Proof.Machine
end

