-- ==== Sys2Proof/Machine/Knit.lean ====
section
/-! DEFINITION. Knit-up: its phases (R463 to R470), the stream copies (R466, R467), its time limit and the Lead's acceptance (R462). -/

namespace Sys2Proof.Machine

/-! ### Phase 3: the snapshot is applied (R464) -/

/-- A stream record from the Lead with this module's own statistics buffer. -/
def ownStats (own r : List Byte) : List Byte :=
  let keep := if own.isEmpty then List.replicate 12 0 else ((padB 128 own).drop 56).take 12
  r.take 56 ++ keep ++ r.drop 68

/-- The streams of the snapshot: entries open as on the Lead, numbers and engines their own. -/
def copyStreams (t : Tab (List Byte)) (s : State) : State :=
  let ents := t.map fun x =>
    let own := strGet s x.1
    let e : StreamE := if own.st = 0 then { st := 1, rcd := ownStats [] x.2, wantRap := recWaitRap x.2 }
      else { own with rcd := ownStats own.rcd x.2, next := none, home := own.nextHome.getD own.home, nextHome := none }
    (x.1, e)
  let s1 := withStr s { s.str with ents := ents }
  (t.map Prod.fst).foldl (fun st k => settleMerge k st) s1

/-- A canvas of the snapshot: its settings and banks; what this module shows and keeps stays its own. -/
def copyCanvas (own peer : Canvas) : Canvas :=
  { own with set := peer.set, w := peer.w, h := peer.h, premul := peer.premul, chase := peer.chase, buf0 := peer.buf0, buf1 := peer.buf1,
             life := peer.life, fetch := peer.fetch, gen := peer.gen, active := peer.active, pend := peer.pend, closed := peer.closed,
             commitId := peer.commitId, lives := if peer.life = own.life && peer.w = own.w && peer.h = own.h then own.lives else [] }

/-- An encode record from the Lead with this module's own output buffer. -/
def ownBuffer (own r : List W32) : List W32 := r.take 8 ++ ((padW 16 own).drop 8).take 3 ++ r.drop 11

/-- Channels of the snapshot whose buffer has no address here, and enabled statistics buffers likewise: they stay disabled. -/
def unsetBuffers (p : PairCopy) (s : State) : Nat :=
  (p.encs.filter fun x => erAddr (ownBuffer (ecGet s x.1).rcd x.2) = 0).length +
    (p.streams.filter fun x => recStatsAddr x.2 != 0 && recStatsAddr (strGet s x.1).rcd = 0).length

/-- The bytes of the still surfaces written as knit-up writes (initiator 3, port 20). -/
def copyStills (p : PairCopy) (s : State) : State :=
  p.stillBytes.foldl (fun st x =>
    let k := tget { w := 0, h := 0 } p.stills x.1
    (busWrite 3 20 (x.2.length / 4096 + 2) (stillSurf x.1 k.w k.h).base x.2 st).2) s

/-- A generator of the snapshot, numbering frames by this module's T0. -/
def copyGen (s : State) (g : FrameLock) : FrameLock := { g with next := if g.num = 0 then 0 else firstFrame g (t0Ns s) }

/-- The snapshot applied (R464): configuration as the Lead's; host-memory settings this module's own. -/
def applySnapshot (p : PairCopy) (s : State) : State :=
  let off := unsetBuffers p s
  let s1 := copyStreams p.streams s
  let s2 := withNet s1 { s1.net with flows := p.flows.map fun x => (x.1, ({ rcd := x.2 } : Flow)) }
  let s3 := withTb s2 { s2.tb with fl := p.gens.map fun x => (x.1, copyGen s2 x.2) }
  let cans := p.canvases.map fun x => (x.1, copyCanvas (canGet s3 x.1) x.2)
  let s4 := withComp s3 { s3.comp with ledger := p.ledger, canvases := cans, commits := p.commits, xfers := p.xfers, stills := p.stills }
  let s5 := p.outs.foldl (fun st x => outUpd x.1 (fun y => { y with rcd := x.2 }) st) s4
  let s6 := p.encs.foldl (fun st x => ecUpd x.1 (fun y => { y with rcd := ownBuffer y.rcd x.2 }) st) s5
  let s7 := copyStills p s6
  withPair s7 { s7.pair with disabledCh := off }

/-! ### Phase 4: lifelines and the encoder (R468) -/

/-- An encode channel's copied state: buffer fill, reference picture and frame counters; enabled as on the Lead where its output buffer
has an address. -/
def copyChan (own peer : EncChan) : EncChan :=
  { own with en := peer.en && erAddr own.rcd != 0, kind := peer.kind, coefs := peer.coefs, keyAsk := peer.keyAsk, keyDue := peer.keyDue,
             refill := peer.refill, sinceKey := peer.sinceKey, num := peer.num, lastN := peer.lastN, fill := peer.fill,
             prevLuma := peer.prevLuma }

/-- The lifelines and encode channels applied. -/
def applyState (p : StateCopy) (s : State) : State :=
  let s1 := p.lifeBytes.foldl (fun st x => (busWrite 3 20 (x.2.length / 4096 + 2) (canGet st x.1).life x.2 st).2) s
  let s2 := p.lives.foldl (fun st x => canUpd x.1 (fun c => { c with lives := x.2 }) st) s1
  p.encs.foldl (fun st x => ecUpd x.1 (fun c => copyChan c x.2) st) s2

/-! ### KNIT_PHASE_END -/

/-- The compressed streams that are open. -/
def codedOpen (s : State) : List Nat :=
  (s.str.ents.filter fun x => x.2.st != 0 && x.2.st != 5 && fmtCoded (strFormat x.2)).map Prod.fst

/-- T0 has been LOCKED with its offset within the limit for 1 s (Table 11-5). -/
def timeProven (s : State) : Bool :=
  s.tb.state == .locked && !s.tb.pairOver &&
    (match s.pair.timeOk with
     | some (t, k) => k == tget 0 s.tb.entered 1 && decide (t + 1000000000 ≤ t2Ns s)
     | none => false)

/-- KNIT_PHASE_END: the phase in force has ended as Table 11-5 says; after phase 5 the module is Follow. Phase 1 ends with
CORLER_LINK_TRAINING. -/
def knitPhaseEnd (k : KnitEnd) (s : State) : State :=
  let u := s.pair
  if s.pwr.mode != .knitUp || !pairWorks s || !u.linkUp then s
  else match u.phase with
    | 2 => if timeProven s then phaseNext (send (.corler 1 [3]) s) else s
    | 3 => match k.snap with
      | some p => phaseNext (applySnapshot p s)
      | none => s
    | 4 =>
      if k.caughtUp && (codedOpen s).all fun n => u.copyDone.contains n || u.rapWait.contains n then
        let s1 := match k.state with
          | some p => applyState p s
          | none => s
        phaseNext (withPair s1 { s1.pair with proofFrames := 0 })
      else s
    | 5 =>
      if 8 ≤ u.proofFrames && pairFit s then
        let s1 := knitEvent 1 0 s
        let s2 := setMode .follow 3 0 0xFF (withPair s1 (knitOver s1.pair))
        roleEvent 6 7 7 (refFrame s2 (t0Ns s2)) (t0Ns s2) s2
      else s
    | _ => s

/-- KNIT_PHASE_END (R463). -/
def execKnitPhaseEnd (k : KnitEnd) (s : State) : Res := .next (knitPhaseEnd k s)

/-! ### KNIT_STREAM_COPY -/

/-- A copy is abandoned, or fails verification: after three abandoned copies, or one failed verification, the stream waits for a random
access point (R467). -/
def copyFailed (k : Nat) (abandoned : Bool) (s : State) : State :=
  let u := s.pair
  let n := tget 0 u.copyTries k + 1
  if abandoned && n < 3 then withPair s { u with copyTries := tset k n u.copyTries }
  else
    let s1 := withPair s { u with rapWait := if u.rapWait.contains k then u.rapWait else k :: u.rapWait }
    if s.pwr.mode == .knitUp then strUpd k (fun e => { e with wantRap := true }) s1 else s1

/-- The mover reads and verifies a stitch (R74): its bytes with its tag, sent over the link on the Lead; a stitch that fails is added. -/
def moverStitch (k : Nat) (sends : Bool) (us : List StageFault) (f : Surf) (r : List Failure × State) (c : Nat × Nat) :
    List Failure × State :=
  let (x, s1) := fetchStitch 0x50 us 20 19 f c.1 c.2 r.2
  let bs := x.bytes ++ bytesLE 8 (x.tag.getD 0)
  let s2 := if sends then send (.corler 4 (w32 k :: wordsOf (bs.length / 4) bs)) s1 else s1
  match x.tag with
  | some _ => (r.1, s2)
  | none => (r.1 ++ [badStitch x.kind 20 19 f c.1 c.2 s2], s2)

/-- The mover reads one surface, whose upsets go under a slot and whose failures under a frame: CUSTODY_FAIL for them (R85); whether any
surface failed so far. -/
def moverSurface (k : Nat) (sends : Bool) (us : List StageFault) (slot frame : Nat) (f : Surf) (r : Bool × State) : Bool × State :=
  let (fails, s1) := (stitches f).foldl (moverStitch k sends (us.filter fun u => u.slot == slot) f) ([], r.2)
  (r.1 || !fails.isEmpty, custodyReport 0x50 20 0 0 k frame fails s1)

/-- The reference copies of a stream's watch windows, by window (R142, R466). -/
def watchRefs (k : Nat) (s : State) : List (Nat × Surf) :=
  s.str.watches.filterMap fun x => match x.2.en && x.2.stream == k, x.2.ref with
    | true, some r => some (x.1, watchSurf x.1 r.1 r.2)
    | _, _ => none

/-- The mover reads the surfaces of a stream's pictures and its windows' reference copies, on the Lead to send them, on the rejoining
module as their first read (R74, R466): whether any failed. The failures of the reference copies name the stream's next frame. -/
def moverRead (k : Nat) (sends : Bool) (us : List StageFault) (s : State) : Bool × State :=
  let r1 := (strGet s k).pics.foldl (fun r p => moverSurface k sends us p.slot p.num (streamSurf k p.slot p.fmt p.w p.h) r) (false, s)
  (watchRefs k s).foldl (fun r x => moverSurface k sends us (256 + x.1) (strGet s k).nextFrame x.2 r) r1

/-- A copied stream takes its place: pictures, decoder context, tests and counters; the module's own record, access units, engines and
statistics buffer stay (R466). -/
def copyEntry (own e : StreamE) : StreamE :=
  { e with rcd := own.rcd, next := none, aus := own.aus, opens := own.opens, home := own.home, nextHome := own.nextHome, order := own.order, opener := own.opener,
           st := own.st, wantRap := false, statsCount := own.statsCount, statsOff := own.statsOff, meterSec := own.meterSec,
           meterPix := own.meterPix, meterBits := own.meterBits, demoted := own.demoted }

/-- The rejoining module takes a stream over: entry, watch windows, surfaces, reference copies (R466). -/
def copyIn (k : Nat) (x : StreamCopy) (s : State) : State :=
  let s1 := match x.entry with
    | some e => strUpd k (fun own => copyEntry own e) s
    | none => s
  let s2 := withStr s1 { s1.str with watches := x.watches.foldl (fun t w => tset w.1 w.2 t) s1.str.watches }
  let put (a : Nat) (bs : List Byte) (st : State) : State := (busWrite 3 20 (bs.length / 4096 + 2) a bs st).2
  let s3 := x.surfaces.foldl (fun st y => put (streamSurf k y.1 0 0 0).base y.2 st) s2
  x.refs.foldl (fun st y => put (watchSurf y.1 0 0).base y.2 st) s3

/-- KNIT_STREAM_COPY: the Lead's mover sends a compressed stream at a frame boundary; the rejoining module takes it over. A stream whose
state fails verification on either side is not in step by transfer (R74). -/
def streamCopy (k : Nat) (x : StreamCopy) (s : State) : State :=
  let u := s.pair
  let lead : Bool := s.pwr.mode == .lead && u.peerMode == 7
  let joins : Bool := s.pwr.mode == .knitUp && u.phase == 4
  if !pairWorks s || !u.linkUp || !(lead || joins) || !(codedOpen s).contains k || u.copyDone.contains k || u.rapWait.contains k then s
  else if x.wouldWait then copyFailed k true s
  else
    let (bad, s1) := if lead then moverRead k true x.faults s else moverRead k false x.faults (if x.verified then copyIn k x s else s)
    if bad || !x.verified then copyFailed k false s1
    else withPair s1 { s1.pair with copyDone := k :: s1.pair.copyDone }

/-- KNIT_STREAM_COPY (R466). -/
def execKnitStreamCopy (stream : Nat) (k : StreamCopy) (s : State) : Res := .next (streamCopy (stream % 256) k s)

/-! ### Time limits -/

/-- KNIT_TIMEOUT: the limit of PAIR_SET since PAIR_KNIT. -/
def knitTimeout (s : State) : State :=
  if s.pwr.mode == .knitUp && s.pair.knitAt + s.pair.limitS * 1000000000 ≤ t2Ns s then knitFail 4 3 0xFF s else s

/-- KNIT_TIMEOUT (R470). -/
def execKnitTimeout (s : State) : Res := .next (knitTimeout s)

/-- PAIR_ACCEPT_EXPIRY: the time of PAIR_ACCEPT is over; a knit-up that has started may run on (R462). -/
def acceptExpiry (s : State) : State :=
  match s.pair.acceptUntil with
  | some t =>
    if t ≤ t2Ns s then withPair s { s.pair with acceptUntil := none, training := s.pair.training && s.pwr.mode != .lead, trainFailed := none }
    else s
  | none => s

/-- PAIR_ACCEPT_EXPIRY (R462). -/
def execPairAcceptExpiry (s : State) : Res := .next (acceptExpiry s)

end Sys2Proof.Machine
end

