-- ==== Sys2Proof/Machine/Encode.lean ====
section
/-! DEFINITION. Recording encode (R408 to R430, R436, R683): channel commands, the input path, coding under its budget, the output
buffer and the recording audit entries. -/

namespace Sys2Proof.Machine

/-! ### Commands -/

/-- The first word of a channel record with a field out of range or against R409 to R413. -/
def encBad (s : State) (r : List W32) : Option Nat :=
  let src := erSrc r
  let o := outRec s src
  let k := canGet s src
  let (fw, fh) := if erView r then (orW o, orH o) else (k.w, k.h)
  let (sw, sh) := erScaled r
  let out (lo hi v : Nat) : Bool := v < lo || hi < v
  firstOf [
    (if erView r then 47 < src else src < 48 || !k.set, 0),
    (out 1 8 (erDivisor r), 0),
    (fw < erX r + erW r || fh < erY r + erH r, 4),
    (erW r == 0 || erH r == 0, 8),
    (out 64 8192 (erEncW r) || out 64 4352 (erEncH r) || erEncW r % 2 != 0 || erEncH r % 2 != 0 || 35651584 < erEncW r * erEncH r, 12),
    (erW r < sw || 8 * sw < erW r || erH r < sh || 8 * sh < erH r, 12),
    (!loadWithin s r (erEncW r * erEncH r) 2000000000, 12),
    (out 100 400000 (erTarget r), 16),
    (erMaxrate r < erTarget r || (!erCapped r && erMaxrate r != erTarget r), 20),
    (out 100 5000 (erBuffer r) || erIdr r == 0, 24),
    (51 < erQpMax r || erQpMax r < erQpMin r, 28),
    (erAddr r % 4096 != 0, 32),
    (out 16 28 (erLog2 r), 40)]

/-- ENC_SET (R412, R413). -/
def opEncSet (c : Cmd) (s : State) : State × Reply :=
  let r := wordsOf 16 (crec c)
  let k := erChan r
  checked [
    ((ecGet s k).en, held 0xFF k),
    ((encBad s r).isSome, badRecord ((encBad s r).getD 0))]
    (fun s => (ecUpd k (fun x => { x with rcd := r }) s, .ok [])) s

/-- ENC_SET (R412). -/
def execEncSet (c : Cmd) (s : State) : Res := .next (hostCommand 0x0600 opEncSet c s)

/-- The channel of a command's W4. -/
def chanArg (c : Cmd) : Nat := (cw c 4).toNat

/-- ENC_ENABLE (R413, R427, R429, R683): the output buffer starts anew, and the first picture is a key frame with the decoder buffer
full. The record is checked again, since its source may have changed (DEDUCED, log 37). -/
def opEncEnable (c : Cmd) (s : State) : State × Reply :=
  let k := chanArg c
  let x := ecGet s k
  checked [
    (7 < k || x.rcd.isEmpty, badField 16),
    domainOff s 8,
    (!x.en && erView x.rcd && !(outGet s (erSrc x.rcd)).en, held 0xFF (erSrc x.rcd)),
    (!x.en && (encBad s x.rcd).isSome, badField 16)]
    (fun s =>
      if x.en then (s, .ok [])
      else
        let y : EncChan := { rcd := x.rcd, coefs := x.coefs, en := true, keyDue := true, refill := true }
        (encAssign (some k) (ecSet k y s), .ok [])) s

/-- ENC_STATE (Table 10-8). -/
def encStateEvent (k kind cause n : Nat) (s : State) : State := raise 0x28 [pack [(31, 29, k), (28, 27, kind), (26, 24, cause)], w32 n] s

/-- ENC_DISABLE: the frames under way are given up, and the other channels are assigned anew (R412, R429). -/
def opEncDisable (c : Cmd) (s : State) : State × Reply :=
  let k := chanArg c
  checked [(7 < k, badField 16)]
    (fun s =>
      let x := ecGet s k
      if !x.en then (s, .ok [])
      else
        let n := (encGen s x.rcd).next
        let s1 := ecSet k { x with en := false, kind := 0, next := none, frames := [] } s
        (encAssign none (if x.kind = 0 then s1 else encStateEvent k 0 1 n s1), .ok [])) s

/-- ENC_DISABLE (R412). -/
def execEncDisable (c : Cmd) (s : State) : Res := .next (hostCommand 0x0602 opEncDisable c s)

/-- ENC_COEF_LOAD (R412, R417): the image is copied by LOAD_COPY_END. -/
def opEncCoefLoad (c : Cmd) (s : State) : State × Reply :=
  let k := chanArg c
  checked [(7 < k, badField 16)] (fun s => (s, .later k [(cw c 6).toNat])) s

/-- ENC_COEF_LOAD (R412). -/
def execEncCoefLoad (c : Cmd) (s : State) : Res := .next (hostCommand 0x0603 opEncCoefLoad c s)

/-- ENC_KEYFRAME (R412). -/
def opEncKeyframe (c : Cmd) (s : State) : State × Reply :=
  let k := chanArg c
  checked [(7 < k || !(ecGet s k).en, badField 16)] (fun s => (ecUpd k (fun x => { x with keyAsk := true }) s, .ok [])) s

/-- ENC_KEYFRAME (R412). -/
def execEncKeyframe (c : Cmd) (s : State) : Res := .next (hostCommand 0x0604 opEncKeyframe c s)

/-! ### The input path (R414 to R418) -/

/-- A canvas stitch of the input as fetched: its bytes, how it is judged (0 live, 1 test, 2 stale), whether it failed. -/
structure EncCell where
  cx : Nat
  cy : Nat
  bytes : List Byte := []
  kind : Nat := 2
  bad : Bool := false
  crc : W32 := 0
  due : Nat := 0
  flags : Nat := 0
  failure : Option Failure := none
deriving DecidableEq, Repr

/-- What a channel reads a frame with: its record, its canvas, the origin of its rectangle on the canvas, the buffer and full cut of
each canvas row, the frame's display time, the treatment colours, the scan-out's rows for a viewport, the failures detected. -/
structure EncCtx where
  r : List W32
  can : Canvas
  x0 : Nat
  y0 : Nat
  source : Nat → Option (Nat × Nat)
  at_ : Nat
  colA : Nat × Nat × Nat
  colB : Nat × Nat × Nat
  test : Nat × Nat × Nat
  rows : Tab EgRow
  coefs : Option (List Int)
  faults : List StageFault

/-- One canvas stitch of the input fetched, verified (R415) and judged for a write-back canvas (R416). -/
def encCell (g : EncCtx) (cx cy : Nat) (s : State) : EncCell × State :=
  match g.source cy with
  | none => ({ cx := cx, cy := cy }, s)
  | some (buf, cut) =>
    let f := canSurf g.can buf
    let raw := rawTag 13 14 f cx cy s
    let (r, s1) := fetchStitch 0x40 g.faults 13 14 f cx cy s
    let bad := r.tag.isNone
    let (px, s2) := if bad then freeBytes r.bytes.length s1 else (r.bytes, s1)
    let full := fullTick g.at_
    let kind := verdict (tagFlags raw) (tagDue raw) (full % 2 ^ 20) (full - cut) false
    let fail : Failure := { kind := r.kind, sx := cx, sy := cy, due := tagDue raw, flags := tagFlags raw }
    ({ cx := cx, cy := cy, bytes := px, kind := kind, bad := bad, crc := w32 (tagCrc raw), due := tagDue raw, flags := tagFlags raw,
       failure := if bad then some fail else none }, s2)

/-- The canvas stitches of the input, in raster order. -/
def encCells (g : EncCtx) : List (Nat × Nat) :=
  (upTo (g.y0 / 32) ((g.y0 + erH g.r - 1) / 32)).flatMap fun cy =>
    (upTo (g.x0 / 32) ((g.x0 + erW g.r - 1) / 32)).map fun cx => (cx, cy)

/-- All of them fetched. -/
def encFetchAll (g : EncCtx) : List (Nat × Nat) → State → List EncCell × State
  | [], s => ([], s)
  | p :: ps, s =>
    let (c, s1) := encCell g p.1 p.2 s
    let (cs, s2) := encFetchAll g ps s1
    (c :: cs, s2)

/-- The kind of the egress stitch under a pixel of the input rectangle of a viewport (R416). -/
def viewKind (g : EncCtx) (x y : Nat) : Nat :=
  match tfind ((erY g.r + y) / 32) g.rows with
  | some e => (e.stitches.getD ((erX g.r + x) / 32) { kind := 2 }).kind
  | none => 2

/-- The treated input pixel at column `x`, row `y` of the rectangle (R416). -/
def encPixel (g : EncCtx) (cells : List EncCell) (x y : Nat) : Nat × Nat × Nat :=
  let cx := g.x0 + x
  let cy := g.y0 + y
  match cells.find? fun c => c.cx == cx / 32 && c.cy == cy / 32 with
  | none => purlAt g.colA g.colB none cx cy
  | some c =>
    let px := rgbOf (leAt c.bytes (sampleOff 7 g.can.w g.can.h c.cx c.cy 0 (cx % 32) (cy % 32)) 4)
    let kind := if erView g.r then viewKind g x y else c.kind
    if kind = 2 then purlAt g.colA g.colB none cx cy else if kind = 1 then testAt g.test px cx cy else px

/-- The treated input, component by component, mirrored (R417 step 1) and clamped at the rectangle's edges. -/
def encInput (g : EncCtx) (px : List (Nat × Nat × Nat)) (p : Nat) (x y : Int) : Nat :=
  let w := erW g.r
  let i := (clampI 0 ((w : Int) - 1) x).toNat
  let j := (clampI 0 ((erH g.r : Int) - 1) y).toNat
  let v := px.getD (j * w + (if erMirror g.r then w - 1 - i else i)) (0, 0, 0)
  if p = 0 then v.1 else if p = 1 then v.2.1 else v.2.2

/-- A component of pixel `(x, y)` of the scaled picture, at 10 bits (R417 step 2). -/
def encScaled (g : EncCtx) (px : List (Nat × Nat × Nat)) (p x y : Nat) : Nat :=
  let (w, h) := erScaled g.r
  let (ix, px_) := tapX x (erW g.r) w 1
  let (iy, py_) := tapY y (erH g.r) h 1
  Nat.min 1023 ((filterAt (coefH g.coefs px_) (coefV g.coefs py_) ix iy (encInput g px p) + 32) / 64)

/-- Where pixel `(x, y)` of the encoded picture comes from in the scaled one (R417 step 3): clockwise rotation. -/
def unrotate (r : List W32) (x y : Nat) : Nat × Nat :=
  match erRotate r with
  | 0 => (x, y)
  | 1 => (y, erEncW r - 1 - x)
  | 2 => (erEncW r - 1 - x, erEncH r - 1 - y)
  | _ => (erEncH r - 1 - y, x)

/-- The encoded picture before chroma subsampling: Y, Cb, Cr of each pixel in raster order (R417 steps 2 to 4). -/
def encPicture (g : EncCtx) (cells : List EncCell) : List (Nat × Nat × Nat) :=
  let px := (List.range (erH g.r)).flatMap fun y => (List.range (erW g.r)).map fun x => encPixel g cells x y
  (List.range (erEncH g.r)).flatMap fun y => (List.range (erEncW g.r)).map fun x =>
    let (a, b) := unrotate g.r x y
    linkPixel true true (encScaled g px 0 a b, encScaled g px 1 a b, encScaled g px 2 a b)

/-- A component at the codec's depth (R417). -/
def encDepth (r : List W32) (v : Nat) : Nat := if erTen r then v else Nat.min 255 ((v + 2) / 4)

/-- A 4:2:0 chroma plane (R417 step 5). -/
def encChroma (r : List W32) (pic : List (Nat × Nat × Nat)) (f : Nat × Nat × Nat → Nat) : List Nat :=
  let w := erEncW r
  let at_ (x y : Nat) : Nat := f (pic.getD (y * w + x) (0, 0, 0))
  (List.range (erEncH r / 2)).flatMap fun j => (List.range (w / 2)).map fun i =>
    encDepth r ((at_ (2 * i) (2 * j) + at_ (2 * i + 1) (2 * j) + at_ (2 * i) (2 * j + 1) + at_ (2 * i + 1) (2 * j + 1) + 2) / 4)

/-- The source rows (or columns) that the taps of scaled coordinate `v` can reach, first and last. -/
def tapSpan (pos : Int) (before after limit : Nat) : Nat × Nat :=
  let l : Int := (limit : Int) - 1
  ((clampI 0 l (pos - before)).toNat, (clampI 0 l (pos + after)).toNat)

/-- The part of the input rectangle that an encoded stitch row reads: its columns and rows, first and last. Every tap counts, whatever
its coefficient (R83). -/
def rowReads (r : List W32) (i : Nat) : (Nat × Nat) × (Nat × Nat) :=
  let (w, h) := erScaled r
  let y0 := 32 * i
  let y1 := Nat.min (32 * i + 31) (erEncH r - 1)
  let all (n : Nat) : Nat × Nat := (0, n - 1)
  let two (f : Nat → Nat × Nat) (a b : Nat) : Nat × Nat := (Nat.min (f a).1 (f b).1, Nat.max (f a).2 (f b).2)
  let flip (s : Nat × Nat) : Nat × Nat := if erMirror r then (erW r - 1 - s.2, erW r - 1 - s.1) else s
  let col (x : Nat) : Nat × Nat := tapSpan (tapX x (erW r) w 1).1 3 4 (erW r)
  let row (y : Nat) : Nat × Nat := tapSpan (tapY y (erH r) h 1).1 2 3 (erH r)
  match erRotate r with
  | 0 => (all (erW r), two row y0 y1)
  | 1 => (flip (two col y0 y1), all (erH r))
  | 2 => (all (erW r), two row (erEncH r - 1 - y1) (erEncH r - 1 - y0))
  | _ => (flip (two col (erEncH r - 1 - y1) (erEncH r - 1 - y0)), all (erH r))

/-- A rectangle of pixels meets a stitch of the grid. -/
def meetsCell (x0 y0 : Nat) (span : (Nat × Nat) × (Nat × Nat)) (cx cy : Nat) : Bool :=
  (x0 + span.1.1) / 32 ≤ cx && cx ≤ (x0 + span.1.2) / 32 && (y0 + span.2.1) / 32 ≤ cy && cy ≤ (y0 + span.2.2) / 32

/-- The input stitches as the counts of stale and test ones take them: canvas stitches of a write-back canvas, egress stitches of a
viewport (R416, R424), with their kinds. -/
def inputKinds (g : EncCtx) (cells : List EncCell) : List (Nat × Nat × Nat) :=
  if erView g.r then
    (upTo (erY g.r / 32) ((erY g.r + erH g.r - 1) / 32)).flatMap fun ey =>
      (upTo (erX g.r / 32) ((erX g.r + erW g.r - 1) / 32)).map fun ex =>
        (ex, ey, match tfind ey g.rows with | some e => (e.stitches.getD ex { kind := 2 }).kind | none => 2)
  else cells.map fun c => (c.cx, c.cy, c.kind)

/-- The grid origin against which `inputKinds` counts. -/
def kindOrigin (g : EncCtx) : Nat × Nat := if erView g.r then (erX g.r, erY g.r) else (g.x0, g.y0)

/-! ### ENC_FRAME_START -/

/-- The source frame in progress whose input a channel may read: the last one displayed, when it is one to record and new (R410). -/
def encDue (s : State) (k : Nat) : Option Nat :=
  let x := ecGet s k
  let fl := encGen s x.rcd
  if !x.en || !works s 8 || s.pwr.mode == .bindOff || !fl.en || fl.next = 0 then none
  else
    let n := fl.next - 1
    let fresh : Bool := match x.lastN with | some m => m != n | none => true
    if n % Nat.max 1 (erDivisor x.rcd) = 0 && fresh then some n else none

/-- A viewport channel's output gives it no input (R418). -/
def encNoInput (s : State) (r : List W32) : Bool :=
  erView r && (!(outGet s (erSrc r)).en || !(outGet s (erSrc r)).up)

/-- The output has judged every row of frame `n` (R414). -/
def viewJudged (s : State) (r : List W32) (n : Nat) : Bool :=
  let x := outGet s (erSrc r)
  x.cur == some n && x.rows.length == egRows (outRec s (erSrc r))

/-- The cause mask of rows, all or some, merged into a table (bit 0 BUDGET, 1 LATE, 2 CUSTODY, 3 NO_INPUT). -/
def markRows (rows : List Nat) (bit : Nat) (t : Tab Nat) : Tab Nat := rows.foldl (fun t i => tupd 0 i (fun m => m ||| 2 ^ bit) t) t

/-- What a channel reads frame `n` with. -/
def encCtx (s : State) (k n : Nat) (faults : List StageFault) : EncCtx :=
  let x := ecGet s k
  let r := x.rcd
  let src := erSrc r
  let o := outGet s src
  let view := erView r
  let c := if view then orCanvas (outRec s src) else src
  let v := if view then outView s src else (0, 0)
  let can := canGet s c
  let shot := if view then (if o.shot.isSome then o.shot else can.last) else can.last
  { r := r, can := can, x0 := v.1 + erX r, y0 := v.2 + erY r,
    source := if view then rowSource s c shot n else fun _ => shot.map fun f => (f.buf, f.cutFull),
    at_ := displayTime (encGen s r) n,
    colA := rgbOf (frameLook can shot n).2.2.1.toNat, colB := rgbOf (frameLook can shot n).2.2.2.toNat,
    test := rgbOf s.scan.testColour, rows := if view then o.rows else [], coefs := x.coefs, faults := detected faults }

/-- The kind that a channel takes at a recorded frame, with ENC_STATE when it changes (R429). -/
def encTakeKind (k n : Nat) (s : State) : State :=
  let x := ecGet s k
  match x.next with
  | some (kind, cause) => encStateEvent k kind cause n (ecSet k { x with kind := kind, next := none } s)
  | none => s

/-- A recorded frame without input: all rows unrecorded for a cause. -/
def emptyFrame (s : State) (k n bit : Nat) : RecFrame :=
  let x := ecGet s k
  let at_ := displayTime (encGen s x.rcd) n
  { num := x.num, n := n, at_ := at_, full := x.kind == 1, key := x.keyAsk, unrec := markRows (List.range (erRows x.rcd)) bit [],
    rowStale := [] }

/-- The failures of ENC_PRE: an encoded stitch, with the earliest due tick and the flags of the input stitches that its row reads (R86). -/
def preFails (g : EncCtx) (cells : List EncCell) : List Failure :=
  (g.faults.filter fun f => f.stage == 0x41).map fun f =>
    let mine := cells.filter fun c => meetsCell g.x0 g.y0 (rowReads g.r f.sy) c.cx c.cy
    { kind := f.kind, sx := f.sx, sy := f.sy, due := (earliestDue (fullTick g.at_ % 2 ^ 20) (mine.map EncCell.due)).getD 0,
      flags := mine.foldl (fun a c => a ||| c.flags) 0 }

/-- A recorded frame as read (R414 to R417), and the failures found in ENC_FETCH and in ENC_PRE. -/
def readFrame (k n : Nat) (env : EncEnv) (s : State) : RecFrame × List Failure × List Failure × State :=
  let x := ecGet s k
  let r := x.rcd
  let g := encCtx s k n env.faults
  let (cells, s1) := encFetchAll g (encCells g) s
  let rows := List.range (erRows r)
  let bad := cells.filter fun c => c.bad
  let hit := rows.filter fun i => bad.any fun c => meetsCell g.x0 g.y0 (rowReads r i) c.cx c.cy
  let pre := (g.faults.filter fun f => f.stage == 0x41).map fun f => f.sy
  let kinds := inputKinds g cells
  let org := kindOrigin g
  let pic := encPicture g cells
  let again : Bool := !erView r && (match g.can.last with | some f => f.frame != n | none => false)
  let read := cells.filter fun c => (g.source c.cy).isSome
  let digest := if erView r then frameDigest g.rows else w32 (crc32c (wordBytes (read.map fun c => c.crc)))
  ({ num := x.num, n := n, at_ := g.at_, full := x.kind == 1, key := x.keyAsk, again := again, digest := digest,
     stale := (kinds.filter fun q => q.2.2 == 2).length, test := (kinds.filter fun q => q.2.2 == 1).length,
     unrec := markRows (hit ++ pre.filter fun i => i < erRows r) 2 [],
     rowStale := rows.map fun i => (kinds.filter fun q => q.2.2 == 2 && meetsCell org.1 org.2 (rowReads r i) q.1 q.2.1).length,
     luma := pic.map fun v => encDepth r v.1, cb := encChroma r pic fun v => v.2.1, cr := encChroma r pic fun v => v.2.2 }, cells.filterMap fun c => c.failure, preFails g cells, s1)

/-- A channel takes up a recorded frame. -/
def encPush (k n : Nat) (f : RecFrame) (s : State) : State :=
  ecUpd k (fun x => { x with frames := x.frames ++ [f], num := x.num + 1, lastN := some n, keyAsk := false }) s

/-- ENC_FRAME_START: the input of a recorded frame is read. A viewport's is read once its rows have been judged. -/
def encFrameStart (k : Nat) (env : EncEnv) (s : State) : State :=
  match encDue s k with
  | none => s
  | some n =>
    let r := (ecGet s k).rcd
    if t0Ns s < displayTime (encGen s r) n then s
    else if encNoInput s r then
      let s1 := encTakeKind k n s
      encPush k n (emptyFrame s1 k n 3) s1
    else if erView r && !viewJudged s r n then s
    else
      let s1 := encTakeKind k n s
      let (f, fails, pre, s2) := readFrame k n env s1
      encPush k n f (custodyReport 0x41 13 k 0 k n pre (custodyReport 0x40 13 k 0 k n fails s2))

/-- ENC_FRAME_START (R414). -/
def execEncFrameStart (ch : Nat) (env : EncEnv) (s : State) : Res := .next (encFrameStart (ch % 8) env s)

/-! ### ENC_INPUT_DEADLINE (R425) -/

/-- The last frame of a list, changed. -/
def updLast (f : RecFrame → RecFrame) (l : List RecFrame) : List RecFrame :=
  (List.range l.length).filterMap fun i => (l[i]?).map fun x => if i + 1 = l.length then f x else x

/-- ENC_INPUT_DEADLINE: at D(n + 1) − 80 µs the rows not read carry LATE; a frame whose reading never began has them all. T0_STATE is
taken over the frame's span (R433). -/
def encDeadline (k : Nat) (rows : List Nat) (s : State) : State :=
  let r := (ecGet s k).rcd
  let fl := encGen s r
  let s1 := match encDue s k with
    | some n => if t0Ns s + 80000 < displayTime fl (n + 1) then s else let s0 := encTakeKind k n s; encPush k n (emptyFrame s0 k n 1) s0
    | none => s
  match (ecGet s1 k).frames.getLast? with
  | none => s1
  | some f =>
    if f.t0.isSome || t0Ns s1 + 80000 < displayTime fl (f.n + 1) then s1
    else
      let late := rows.filter fun i => i < erRows r
      ecUpd k (fun y => { y with frames := updLast (fun q =>
        { q with unrec := markRows late 1 q.unrec, t0 := some (t0Worst q.at_ (displayTime fl (f.n + 1) - 80000) s1) }) y.frames }) s1

/-- ENC_INPUT_DEADLINE (R425). -/
def execEncInputDeadline (ch : Nat) (rows : List Nat) (s : State) : Res := .next (encDeadline (ch % 8) rows s)

/-! ### Coding (R421 to R423) -/

/-- Bits kept back for the coding blocks still to code (R422). -/
def reserveBits (k : Nat) : Nat := 16 * k + 512

/-- The blocks of one row coded while the budget lasts (R422): the bits used, and how many of the row's blocks were coded. -/
def codeBlocks (budget after : Nat) : List Nat → Nat → Nat → Nat × Nat
  | [], used, n => (used, n)
  | b :: bs, used, n =>
    if budget < used + b + reserveBits (bs.length + after) then (used, n) else codeBlocks budget after bs (used + b) (n + 1)

/-- The rows of a picture coded under its budget (R422): the bits used, and the first row that holds a filler block. `fill` lists the rows
coded as filler for another cause. -/
def codeRows (budget filler : Nat) (fill : List Nat) : List (List Nat) → Nat → Nat → Nat → Nat × Option Nat
  | [], _, _, used => (used, none)
  | row :: rest, j, prev, used =>
    let after := (rest.map List.length).foldl (· + ·) 0
    if 0 < j && budget < used + prev + reserveBits after then (used + (row.length + after) * filler, some j)
    else
      let blocks := if fill.contains j then row.map fun _ => filler else row
      let (u, n) := codeBlocks budget after blocks used 0
      if n < blocks.length then (u + (blocks.length - n + after) * filler, some j)
      else codeRows budget filler fill rest (j + 1) (u - used) u

/-- Stitch rows of one coding-block row. -/
def blockSpan (r : List W32) : Nat := if erAv1 r then 2 else 1

/-- What coding a frame gives: its bits, the cause masks of its rows, whether it is a key picture, the decoder buffer's fill after it. -/
structure Coded where
  bits : Nat
  unrec : Tab Nat
  key : Bool
  fill : Nat
deriving DecidableEq, Repr

/-- The per-frame inflow of the decoder buffer (R421). -/
def encInflow (s : State) (r : List W32) : Nat :=
  let fl := encGen s r
  if fl.num = 0 then 0 else erMaxrate r * 1000 * flDen fl * erDivisor r / fl.num.toNat

/-- A full-encode frame coded (R419 to R425). -/
def codeFrame (s : State) (x : EncChan) (f : RecFrame) (p : EncCoded) : Coded :=
  let r := x.rcd
  let rows := List.range (erRows r)
  let key := f.key || x.keyDue || erIdr r ≤ x.sinceKey
  let bs := erMaxrate r * erBuffer r
  let fill := if key && x.refill then bs else Nat.min bs (x.fill + encInflow s r)
  let overdue : Bool := match p.late with
    | some _ => decide (displayTime (encGen s r) (f.n + erDivisor r) ≤ t0Ns s)
    | none => false
  let late := if overdue then rows.filter fun i => p.late.getD 0 ≤ i else []
  let un1 := markRows late 1 f.unrec
  let span := blockSpan r
  let mates (i : Nat) : Nat := (un1.filter fun e => e.1 / span == i / span).foldl (fun m e => m ||| e.2) 0
  let un2 : Tab Nat := rows.filterMap fun i => if mates i = 0 then none else some (i, mates i)
  let fillRows := (un2.map fun e => e.1 / span).eraseDups
  let (bits, stop) := codeRows fill p.filler fillRows p.blocks 0 0 0
  let cut := match stop with
    | some j => rows.filter fun i => j * span ≤ i
    | none => []
  { bits := bits, unrec := markRows cut 0 un2, key := key, fill := fill - bits }

/-! ### The recording message (R424) -/

/-- The frame's unrecorded rows as its metadata give them: their count, the first, and the cause mask. -/
def unrecWords (f : RecFrame) (un : Tab Nat) : Nat × Nat × Nat :=
  (un.length, (un.head?.map Prod.fst).getD 0xFFFF, un.foldl (fun m e => m ||| e.2) (if f.again then 16 else 0))

/-- The bytes of the recording message (Table 10-3). -/
def recMessage (k : Nat) (f : RecFrame) (un : Tab Nat) : List Byte :=
  let (n, first, mask) := unrecWords f un
  [0x6D, 0x61, 0x65, 0x6C, 0x2D, 0x72, 0x65, 0x63, 0x0A, 0x44, 0x54, 0x34, 0x38, 0x00, 0x00, 0x01, 0x01] ++ bytesLE 1 k ++
    bytesLE 4 f.n ++ bytesLE 4 (f.at_ / 1000000000) ++ bytesLE 4 (f.at_ % 1000000000) ++ bytesLE 2 n ++ bytesLE 2 first ++
    bytesLE 1 mask ++ [0] ++ bytesLE 4 f.digest.toNat ++ bytesLE 2 (sat16 f.stale)

/-- Emulation prevention of a NAL unit's payload (H.265; PRESUMED, log 38): after two zero bytes a byte of at most 3 is preceded by 3. -/
def emulate : List Byte → Nat → List Byte
  | [], _ => []
  | b :: bs, zeros =>
    if 2 ≤ zeros && b ≤ 3 then 3 :: b :: emulate bs (if b = 0 then 1 else 0) else b :: emulate bs (if b = 0 then zeros + 1 else 0)

/-- The message in its wrapping (R424): an H.265 suffix SEI NAL unit of payload type 5 in Annex B form, or an AV1 metadata OBU of type 24
(the wrappings are those standards'; PRESUMED, log 38). -/
def recWrapped (av1 : Bool) (m : List Byte) : List Byte :=
  if av1 then [0x2A, BitVec.ofNat 8 (m.length + 2), 24] ++ m ++ [0x80]
  else [0, 0, 0, 1, 0x50, 0x01] ++ emulate ([5, BitVec.ofNat 8 m.length] ++ m ++ [0x80]) 0

/-- The access unit (R424, R428): for H.265 the message follows the last slice, for AV1 it precedes the frame OBU. -/
def accessUnit (av1 : Bool) (p : EncCoded) (m : List Byte) : List Byte :=
  if av1 then p.head ++ recWrapped true m ++ p.body else p.head ++ p.body ++ recWrapped false m

/-! ### Statistics-only records (R430) -/

/-- Luma in 10-bit units. -/
def luma10 (r : List W32) (v : Nat) : Nat := if erTen r then v else 4 * v

/-- The distance of two numbers. -/
def absDiff (a b : Nat) : Nat := if a < b then b - a else a - b

/-- One row's entry (Table 10-5). The gradients are those to the left and upper neighbours inside the picture; the first frame is
compared with itself (DEDUCED, log 37). -/
def statsRow (r : List W32) (prev : List Nat) (f : RecFrame) (i : Nat) : List W32 :=
  let w := erEncW r
  let at_ (l : List Nat) (x y : Nat) : Nat := luma10 r (l.getD (y * w + x) 0)
  let px := (List.range (Nat.min 32 (erEncH r - 32 * i))).flatMap fun j => (List.range w).map fun x => (x, 32 * i + j)
  let old := if prev.isEmpty then f.luma else prev
  let diff := px.foldl (fun a p => a + absDiff (at_ f.luma p.1 p.2) (at_ old p.1 p.2)) 0
  let grad := px.foldl (fun a p =>
    a + (if p.1 = 0 then 0 else absDiff (at_ f.luma p.1 p.2) (at_ f.luma (p.1 - 1) p.2)) +
      (if p.2 = 0 then 0 else absDiff (at_ f.luma p.1 p.2) (at_ f.luma p.1 (p.2 - 1)))) 0
  let lost := (tget 0 f.unrec i) &&& 6 != 0
  [w32 (sat32 diff), w32 (sat32 grad), pack [(31, 16, sat16 (f.rowStale.getD i 0)), (15, 0, b1 lost)], 0]

/-! ### The output buffer (R427, R428, R683) -/

/-- The next multiple of `n`. -/
def roundUp (n a : Nat) : Nat := ceilDiv a n * n

/-- Where a record of `len` bytes goes, and PROD after it; none when it would overwrite unconsumed bytes or make PROD equal to a CONS
behind it (R427, R683). -/
def recPlace (size prod cons len : Nat) : Option (Nat × Nat) :=
  let at_ := if size < prod + len then 64 else prod
  let stop := roundUp 64 (at_ + len)
  let next := if size ≤ stop then 64 else stop
  let wraps := at_ < prod
  let free : Bool :=
    if size < at_ + len then false
    else if prod < cons then !wraps && stop < cons
    else if wraps then stop < cons else next != cons && (next = stop || 64 < cons)
  if free then some (at_, next) else none

/-- A record's bytes (Table 10-4): header, payload, sequence number repeated. -/
def recBytes (k seq : Nat) (f : RecFrame) (key : Bool) (un : Tab Nat) (lost : Nat) (payload : List Byte) : List Byte :=
  let (n, first, mask) := unrecWords f un
  let head := [w32 seq, pack [(31, 29, k), (28, 27, if f.full then 0 else 1), (26, 26, b1 key)], w32 f.num, w32 f.n,
    w32 (f.at_ / 1000000000), w32 (f.at_ % 1000000000), w32 payload.length, f.digest, pack [(31, 16, sat16 n), (15, 0, first)],
    w32 mask, w32 (sat32 lost)]
  wordBytes (padW 16 head) ++ padB (roundUp 4 payload.length) payload ++ bytesLE 4 seq

/-- Words 0 to 13 of a recording audit entry (Table 10-7). -/
def recEntry (s : State) (k : Nat) (f : RecFrame) (un : Tab Nat) (bits : Nat) (dropped : Bool) : List W32 :=
  let r := (ecGet s k).rcd
  let (n, first, mask) := unrecWords f un
  [pack [(31, 28, 2), (27, 25, k), (24, 24, b1 (erView r)), (23, 18, erSrc r), (17, 16, f.t0.getD 0), (14, 14, b1 (!f.full)),
     (13, 13, b1 dropped)],
   w32 f.num, w32 f.n, w32 (f.at_ / 1000000000), w32 (f.at_ % 1000000000), f.digest, w32 (sat32 bits),
   pack [(31, 16, sat16 n), (15, 0, first)], w32 mask, pack [(31, 16, sat16 f.stale), (15, 0, sat16 f.test)]]

/-! ### ENC_UNRECORDED (R436) -/

/-- The summary of a second raised. -/
def unrecRaise (k : Nat) (s : State) : State :=
  let m := (ecGet s k).sum
  if m.frames = 0 then s
  else raise 0x29 [pack [(31, 29, k), (28, 24, m.mask)], w32 (sat32 m.frames), w32 (sat32 m.rows)] (ecUpd k (fun x => { x with sum := {} }) s)

/-- A frame's unrecorded rows counted in the second of T2; an older second's summary leaves first. -/
def unrecCount (k : Nat) (un : Tab Nat) (mask : Nat) (s : State) : State :=
  if un.isEmpty then s
  else
    let sec := s.tb.t2.sec.toNat
    let s1 := if (ecGet s k).sum.second = sec then s else unrecRaise k s
    ecUpd k (fun x => { x with sum := { second := sec, mask := x.sum.mask ||| mask, frames := x.sum.frames + 1,
                                        rows := x.sum.rows + un.length } }) s1

/-- ENC_UNRECORDED: a second of T2 in which rows went unrecorded is over. -/
def encUnrecorded (k : Nat) (s : State) : State :=
  if (ecGet s k).sum.frames != 0 && (ecGet s k).sum.second < s.tb.t2.sec.toNat then unrecRaise k s else s

/-- ENC_UNRECORDED (R436). -/
def execEncUnrecorded (ch : Nat) (s : State) : Res := .next (encUnrecorded (ch % 8) s)

/-! ### ENC_RECORD_WRITE -/

/-- A record written, or found not to fit: its audit entry follows (R427, R431). -/
def recWrite (k : Nat) (f : RecFrame) (key : Bool) (un : Tab Nat) (payload : List Byte) (s : State) : State :=
  let x := ecGet s k
  let r := x.rcd
  let bytes := recBytes k (x.count % 2 ^ 32) f key un x.lost payload
  let s3 := match recPlace (2 ^ erLog2 r) x.prod x.cons bytes.length with
    | some (at_, next) =>
      let s1 := ecSet k { x with count := x.count + 1, prod := next, lost := 0 } s
      let s2 := send (.hostWrite (erAddr r) (bytesLE 8 (x.count + 1))) (send (.hostWrite (erAddr r + at_) bytes) s1)
      auditWrite (recEntry s2 k f un (if f.full then 8 * payload.length else 0) false) s2
    | none =>
      let s1 := ecSet k { x with lost := x.lost + 1, keyDue := true } s
      auditWrite (recEntry s1 k f un 0 true) s1
  unrecCount k un (unrecWords f un).2.2 s3

/-- ENC_RECORD_WRITE: the oldest recorded frame whose input has ended is coded, or its statistics are taken, and its record leaves. -/
def encRecord (k : Nat) (p : EncCoded) (s : State) : State :=
  let x := ecGet s k
  match x.frames with
  | [] => s
  | f :: fs =>
    if f.t0.isNone || !x.en || !works s 8 then s
    else if f.full then
      let c := codeFrame s x f p
      let late := c.unrec.any fun e => e.2.testBit 1
      let y := { x with frames := fs, fill := c.fill, sinceKey := if c.key then 1 else x.sinceKey + 1, keyDue := late,
                        refill := late || (x.refill && !c.key), prevLuma := if f.luma.isEmpty then x.prevLuma else f.luma }
      recWrite k f c.key c.unrec (accessUnit (erAv1 x.rcd) p (recMessage k f c.unrec)) (ecSet k y s)
    else
      let rows := (List.range (erRows x.rcd)).flatMap (statsRow x.rcd x.prevLuma f)
      let y := { x with frames := fs, sinceKey := x.sinceKey + 1, prevLuma := if f.luma.isEmpty then x.prevLuma else f.luma,
                        keyDue := x.keyDue || f.key }
      recWrite k f false f.unrec (wordBytes rows) (ecSet k y s)

/-- ENC_RECORD_WRITE (R428). -/
def execEncRecordWrite (ch : Nat) (r : EncCoded) (s : State) : Res := .next (encRecord (ch % 8) r s)

/-! ### VC registers of the channels (R682, R683) -/

/-- A consumer offset that a write may set (R683). -/
def consOk (x : EncChan) (v : Nat) : Bool :=
  let size := 2 ^ erLog2 x.rcd
  v % 64 == 0 && 64 ≤ v && v ≤ size - 64 &&
    (if x.cons ≤ x.prod then x.cons ≤ v && v ≤ x.prod else x.cons ≤ v || v ≤ x.prod)

/-- A write of VC_ENCc_CONS. -/
def encConsWrite (k init : Nat) (v : W32) (s : State) : State :=
  let x := ecGet s k
  let n := fld v 27 0
  if consOk x n then ecSet k { x with cons := n } s else paramRefused init (0xC100 + 0x10 * k) v s

/-- VC_ENCc_CONS as a register. -/
def encConsInfo (k : Nat) (s : State) : RegInfo := { rw := 0x0FFFFFFF, cur := w32 (ecGet s k).cons }

/-- VC_ENC_CONS_WRITE (R683). -/
def execVcEncConsWrite (ch : Nat) (a : RegW) (s : State) : Res :=
  .next (regWrite (0xC100 + 0x10 * (ch % 8)) (encConsInfo (ch % 8) s) a (encConsWrite (ch % 8) a.init) s)

end Sys2Proof.Machine
end

