-- ==== Sys2Proof/Machine/Loads.lean ====
section
/-! DEFINITION. The end of a loading command's copy (R535, R536). -/

namespace Sys2Proof.Machine

/-- The end of an ENC_COEF_LOAD's copy (R348, R417). -/
def encCoefLoaded (k crc : Nat) (image : List Byte) (s : State) : State × Reply :=
  checked [(crc32c image != crc, badField 24), (coefBad image, badRecord 0)]
    (fun s => (ecUpd k (fun x => { x with coefs := some (coefsOf image) }) s, .ok [])) s

/-- The opcodes of the loading commands (R535). -/
def loadOps : List Nat := [0x0206, 0x0405, 0x0406, 0x0407, 0x0603]

/-- A loading command that waits for its data. -/
def loadOutst (s : State) : Option Outst := s.hif.outst.find? fun o => loadOps.contains o.opcode

/-- What the data of a loading command does. -/
def loadApply (o : Outst) (data : List Byte) (s : State) : State × Reply :=
  let a (i : Nat) : Nat := o.arg.getD i 0
  match o.opcode with
  | 0x0206 => dpcdLoaded o.target (a 0) (a 1) data s
  | 0x0405 => coefLoaded o.target (a 0) (a 1) data s
  | 0x0406 => xferLoaded o.target (a 0) data s
  | 0x0407 => stillLoaded o.target (a 0) (a 1) (a 2) data s
  | _ => encCoefLoaded o.target (a 0) data s

/-- The outcome of a copied command written: its completion (R531). -/
def loadReply (o : Outst) (r : Reply) (s : State) : State :=
  match r with
  | .ok ws => completeOutst o 0 0 ws s
  | .no st d => completeOutst o st d [] s
  | .later _ _ => s

/-- LOAD_COPY_END: the data of the outstanding loading command has been copied, or its read has failed. -/
def loadEnd (data : Option (List Byte)) (s : State) : State :=
  match loadOutst s, data with
  | none, _ => s
  | some o, none => loadReply o dmaError s
  | some o, some d =>
    let (s1, r) := loadApply o d s
    loadReply o r s1

/-- LOAD_COPY_END (R535). -/
def execLoadCopyEnd (data : Option (List Byte)) (s : State) : Res := .next (loadEnd data s)

end Sys2Proof.Machine
end

