-- ==== Sys2Proof/Machine/LaneCmd.lean ====
section
/-! DEFINITION. Test loops (R701 to R704), recalibration while running (R705 to R707) and calibration at an enable (R700). -/

namespace Sys2Proof.Machine

/-- The lane that W2 names: group and lane within it (Table 13-11); none where the group has no such lane. -/
def laneNamed (w : W32) : Option Nat :=
  let g := fld w 9 8
  let l := fld w 5 0
  let size := match g with | 0 => 48 | 1 => 16 | 2 => 8 | _ => 4
  let base := match g with | 0 => 0 | 1 => 48 | 2 => 64 | _ => 80
  if l < size then some (base + l) else none

/-- The group of a lane: 0 V, 1 I, 2 N, 3 P; 4 for the lanes of the host link, which no command names. -/
def laneGroup (i : Nat) : Nat := if i < 48 then 0 else if i < 64 then 1 else if i < 72 then 2 else if i < 80 then 4 else 3

/-- The loops that Table 18-5 marks Yes. -/
def loopListed (g kind : Nat) : Bool :=
  match kind with
  | 0 => g != 1
  | 1 => true
  | 2 => g == 2 || g == 3
  | _ => false

/-- The input that a lane serves. -/
def inputOfLane (s : State) (i : Nat) : Option Nat :=
  (List.range 16).find? fun n => (inputLaneList s n).contains i

/-- The output that a V lane serves, enabled. -/
def outputOfLane (s : State) (i : Nat) : Option Nat := laneOutput s i

/-! ### LANE_LOOP -/

/-- The function behind a lane is taken off it for a loop (R702). -/
def loopDetach (i : Nat) (s : State) : State :=
  match laneGroup i with
  | 0 => match outputOfLane s i with
    | some o =>
      let x := outGet s o
      let s1 := outSet o { x with up := false, training := false, trainFailed := none } s
      if x.up then linkEvent o 0 s1 else s1
    | none => s
  | 1 => match inputOfLane s i with
    | some n => if (bbGet s n).en then bbUpd n (fun x => { x with ihpd := false }) (bbEnd n s) else s
    | none => s
  | 2 => netLink (lanePort s (i - 64)) false s
  | _ => s

/-- The function behind a lane resumes as after a link loss (R702). -/
def loopAttach (i : Nat) (s : State) : State :=
  match laneGroup i with
  | 0 => match outputOfLane s i with
    | some o => if (outGet s o).vhpd && linkHandled s o then trainBegin o s else s
    | none => s
  | 1 => match inputOfLane s i with
    | some n => if (bbGet s n).en then bbUpd n (fun x => { x with ihpd := true }) s else s
    | none => s
  | _ => s

/-- A loop starts on a lane. -/
def loopStart (i kind : Nat) (s : State) : State :=
  laneUpd i (fun x => { x with loop := kind + 1 }) (laneEnter 4 4 i (loopDetach i s))

/-- LANE_LOOP (R701): accepted in Maintenance only; completes at the end of the loop. -/
def opLaneLoop (c : Cmd) (s : State) : State × Reply :=
  let lane := laneNamed (cw c 2)
  let i := lane.getD 0
  let kind := fld (cw c 3) 1 0
  let t := (cw c 4).toNat
  checked [
    (s.pwr.mode != .maintenance, wrongMode),
    (lane.isNone, badField 8),
    (!loopListed (laneGroup i) kind, badField 12),
    (t = 0 || 60000 < t, badField 16),
    domainOff s (laneDomain i),
    ((laneGet s i).ovl != 0 || !(laneGet s i).cal, laneHeld i)]
    (fun s => (loopStart i kind s, .later i [kind, t])) s

/-- LANE_LOOP (R701). -/
def execLaneLoop (c : Cmd) (s : State) : Res := .next (hostCommand 0x0008 opLaneLoop c s)

/-- LANE_LOOP's result words (R703). -/
def loopWords (kind : Nat) (r : LoopResult) : List W32 :=
  if kind = 2 then [0, 0, pack [(31, 31, b1 r.neverLocked), (15, 0, sat16 r.lockLosses)]]
  else [w32 (sat32 r.bitErrors), w32 r.units, pack [(31, 31, b1 r.neverLocked), (15, 0, sat16 r.lockLosses)]]

/-- LANE_LOOP_END: the loop's time is over. -/
def loopEnd (r : LoopResult) (s : State) : State :=
  match outstOf 8 s with
  | some o =>
    let i := o.target
    if t2Ns s < (laneGet s i).since + (o.arg.getD 1 0) * 1000000 then s
    else loopAttach i (completeOutst o 0 0 (loopWords (o.arg.getD 0 0) r) (laneLeave 4 i s))
  | none => s

/-- LANE_LOOP_END (R703). -/
def execLaneLoopEnd (r : LoopResult) (s : State) : Res := .next (loopEnd r s)

/-! ### LANE_RECAL -/

/-- Some other P lane is in use (R707). -/
def otherPLane (s : State) (i : Nat) : Bool := (List.range 4).any fun j => 80 + j != i && s.pair.linkUp && bitOf s.pair.lanes j

/-- A recalibration starts, or waits for the end of its output's frame (R705 to R707, Table 18-4). -/
def recalBegin (i : Nat) (s : State) : State :=
  match laneGroup i with
  | 0 => match outputOfLane s i with
    | some o => recalWaiting o (laneUpd i (fun x => { x with wait := true }) s)
    | none => recalStart s i
  | 2 =>
    let p := lanePort s (i - 64)
    let s1 := recalStart s i
    if (netGet s p).up then (List.range 256).foldl (streamLinkDown p) s1 else s1
  | 3 => let s1 := recalStart s i; withPair s1 { s1.pair with lanes := s1.pair.lanes &&& ~~~(w32 (2 ^ (i - 80))) }
  | _ => recalStart s i

/-- LANE_RECAL (R705, R707). -/
def opLaneRecal (c : Cmd) (s : State) : State × Reply :=
  let lane := laneNamed (cw c 2)
  let i := lane.getD 0
  checked [
    (lane.isNone, badField 8),
    domainOff s (laneDomain i),
    ((laneGet s i).ovl != 0 || (laneGet s i).wait || !(laneGet s i).cal, laneHeld i),
    (laneGroup i == 3 && !otherPLane s i, laneHeld i)]
    (fun s => (recalBegin i s, .ok [])) s

/-- LANE_RECAL (R705). -/
def execLaneRecal (c : Cmd) (s : State) : Res := .next (hostCommand 0x0009 opLaneRecal c s)

/-- A recalibrated lane returns to its function: a P lane to the link, a V lane whose output was down with its link to training. -/
def recalReturn (i : Nat) (s : State) : State :=
  if laneGroup i == 3 && s.pair.linkUp then withPair s { s.pair with lanes := s.pair.lanes ||| w32 (2 ^ (i - 80)) }
  else if laneGroup i == 0 then
    match outputOfLane s i with
    | some o => if (outGet s o).vhpd && !(outGet s o).up && !(outGet s o).training && linkHandled s o then trainBegin o s else s
    | none => s
  else s

/-- LANE_RECAL_END: a recalibration of causes 1 to 3 ends; one that fails leaves a P lane removed (R707), another lane without its
calibration. -/
def recalEnd (i : Nat) (ok : Bool) (s : State) : State :=
  let x := laneGet s i
  if x.ovl != 3 || x.cause = 0 || 3 < x.cause then s
  else if ok then recalReturn i (laneLeave x.cause i s)
  else if 80 ≤ i then
    linkEventPair (i - 80) false (laneUpd i (fun y => { y with ovl := 5, cause := 0 }) (laneLeave 6 i s))
  else laneLeave 6 i s

/-- LANE_RECAL_END (R705). -/
def execLaneRecalEnd (lane : Nat) (ok : Bool) (s : State) : Res := .next (recalEnd (lane % 84) ok s)

/-! ### LANE_CALIBRATION_END -/

/-- The commands that calibrate lanes before they complete (R700). -/
def enableOps : List Nat := [0x0200, 0x0207, 0x0501, 0x0702]

/-- The work of an enable whose lanes are calibrated. -/
def enableWork (o : Outst) (s : State) : State :=
  match o.opcode with
  | 0x0200 => portApply (w32 (o.arg.getD 0 0)) (w32 (o.arg.getD 1 0)) s
  | 0x0207 => bbOn o.target s
  | 0x0501 => outOn o.target s
  | _ => knitBegin s

/-- LANE_CALIBRATION_END: every calibration of an enable ends; LANE_STATE for each lane; the command completes, or is refused for a lane
that failed. -/
def calibrationEnd (failed : List Nat) (s : State) : State :=
  match s.hif.supply.isNone, s.hif.outst.find? fun o => enableOps.contains o.opcode with
  | false, _ => s
  | true, none => s
  | true, some o =>
    let busy := (List.range 84).filter fun i => (laneGet s i).ovl == 3 && (laneGet s i).cause == 5
    let bad := busy.filter fun i => failed.contains i
    match bad with
    | i :: _ =>
      let s1 := busy.foldl (fun st j => laneLeave (if failed.contains j then 6 else 5) j st) s
      completeOutst o 3 (pack [(31, 24, 0xFF), (15, 0, 0x300 + i)]) [] s1
    | [] =>
      completeOutst o 0 0 [] (busy.foldl (fun st j => laneLeave 5 j st) (enableWork o s))

/-- LANE_CALIBRATION_END (R700). -/
def execLaneCalibrationEnd (failed : List Nat) (s : State) : Res := .next (calibrationEnd failed s)

end Sys2Proof.Machine
end

