-- ==== Sys2Proof/Machine/Boot.lean ====
section
/-! DEFINITION. Cast-on, firmware slots, staging and identity (chapter 16, R629, R719). -/

namespace Sys2Proof.Machine

/-! ### Images (R643, R644) -/

/-- ASCII "DT48FWIM". -/
def fwMagic : List Byte := [0x44, 0x54, 0x34, 0x38, 0x46, 0x57, 0x49, 0x4D]

/-- The first header field that is wrong: its byte offset (R643). -/
def headerBad (f : FwFile) : Option Nat :=
  firstOf [
    (f.header.take 8 != fwMagic, 0),
    (leAt f.header 8 4 != 1, 8),
    (leAt f.header 12 4 != f.size || f.size < 4096 || 33554432 < f.size, 12)]

/-- How an image whose header is right verifies (R644, Table 16-7): a key whose digest is not fused never does (R736), nor does a
revoked one; the rest of the verification comes with the file. -/
def keyVerdict (key v : Nat) : Nat :=
  if !bitOf Config.keyFuse (4 + key) then 2 else if bitOf Config.keyFuse key then 3 else v

/-- What a slot holds once a file stands in it. -/
def imageOf (f : FwFile) : SlotImage :=
  if (headerBad f).isSome then { verdict := 1 }
  else { readable := true, version := wordAt f.header 16, build := wordAt f.header 20, pairWord := wordAt f.header 24,
         key := recFld f.header 28 1 0, verdict := keyVerdict (recFld f.header 28 1 0) f.verdict, digest := f.digest }

/-! ### The identity block (R641, R653; its byte places are PRESUMED, log 44) -/

/-- The block's CRC stands in its last four bytes, over the others. -/
def identityOk (b : List Byte) : Bool := b.length == 256 && leAt b 252 4 == crc32c (b.take 252)

/-- The maintenance port's IPv4 address: bytes 4 to 7, else 169.254.48.1. -/
def ownAddr (s : State) : W32 :=
  let b := s.boot.identity
  if identityOk b then
    w32 ((((b.getD 4 0).toNat * 256 + (b.getD 5 0).toNat) * 256 + (b.getD 6 0).toNat) * 256 + (b.getD 7 0).toNat)
  else 0xA9FE3001

/-! ### Choosing a slot (R645) -/

/-- What the ROM decides: the slot, or Recovery; the indicator; the start path; the boot record. -/
structure Chosen where
  slot : Option Nat
  ind : SlotInd
  path : Nat := 0
  log : List (List W32) := []
deriving DecidableEq, Repr

/-- The other slot. -/
def otherSlot (n : Nat) : Nat := 1 - n

/-- The verification of the slots in turn. -/
def verifySlots (b : Boot) (c : Chosen) : Chosen :=
  let a := c.ind.active
  let v := (slotOfBoot b a).verdict
  if v = 0 then { c with slot := some a, log := c.log ++ [fwWords 1 a 0 c.ind.fails b] }
  else
    let o := otherSlot a
    let w := (slotOfBoot b o).verdict
    let rec1 := c.log ++ [fwWords 2 a v c.ind.fails b]
    if w = 0 then
      { slot := some o, ind := { c.ind with active := o, trial := false, fails := 0, prevOk := false }, path := 1,
        log := rec1 ++ [fwWords 3 o 0 0 b, fwWords 1 o 0 0 b] }
    else { c with slot := none, log := rec1 ++ [fwWords 2 o w c.ind.fails b] }

/-- choose_slot. -/
def chooseSlot (uartR : Bool) (b : Boot) : Chosen :=
  let i0 := indGet b
  let i1 := if b.wdFlag then { i0 with fails := Nat.min 3 (i0.fails + 1) } else i0
  let rec1 := b.record ++ (if b.wdFlag then [fwWords 8 i0.active 0 i1.fails b] else [])
  let c : Chosen := { slot := none, ind := i1, log := rec1 }
  if uartR || 3 ≤ i1.fails then c
  else if i1.trial && 1 ≤ i1.fails then
    let i2 := { i1 with active := otherSlot i1.active, trial := false, fails := 0, prevOk := false }
    verifySlots b { c with ind := i2, path := 2, log := rec1 ++ [fwWords 5 i1.active 0 0 b] }
  else verifySlots b c

/-! ### Cast-on (R648, R649) -/

/-- The flash and the watchdog flag, which alone a restart carries across (R649), with what the operand brings from outside. -/
def flashOf (env : BootEnv) (b : Boot) : Boot :=
  { ind0 := b.ind0, ind1 := b.ind1,
    slot0 := match env.slot0 with | some f => imageOf f | none => b.slot0,
    slot1 := match env.slot1 with | some f => imageOf f | none => b.slot1,
    identity := env.identity.getD b.identity, touchRef := b.touchRef, wdFlag := b.wdFlag, afterRecovery := b.afterRecovery,
    record := if b.afterRecovery then b.record else [], resetN := true }

/-- Everything at its reset value but a boot unit; the model's own fields go on. -/
def blank (b : Boot) (s : State) : State := { ({} : State) with pending := s.pending, outbox := s.outbox, free := s.free, boot := b }

/-- Steps 1 to 4 of cast-on: the ROM chooses a slot and starts the main processor with the boot watchdog, the host link trains; or
Recovery begins. -/
def castOnFrom (env : BootEnv) (b : Boot) (s : State) : State :=
  let b1 := flashOf env b
  let c := chooseSlot env.uartR b1
  let i0 := indGet b1
  let b2 := if c.ind == i0 then b1 else indWrite c.ind b1
  let b3 := { b2 with wdFlag := false, record := c.log, failsAtStart := c.ind.fails, trialAtStart := c.ind.trial }
  match c.slot with
  | some n =>
    let img := slotOfBoot b3 n
    let s1 := blank { b3 with step := 4, running := n, startPath := if b3.afterRecovery then 3 else c.path, afterRecovery := false,
                              wdAt := some 0, fwVersion := img.version } s
    { s1 with hif := { s1.hif with link := env.link, linkUp := true } }
  | none =>
    let s1 := blank { b3 with step := 3 } s
    withPwr s1 { s1.pwr with mode := .recovery }

/-- RESET_N_RELEASE: it clears the watchdog flag (R646). -/
def resetRelease (env : BootEnv) (s : State) : State :=
  if s.boot.resetN then s else castOnFrom env { s.boot with wdFlag := false } s

/-- RESET_N_RELEASE (R648). -/
def execResetNRelease (env : BootEnv) (s : State) : Res := .next (resetRelease env s)

/-- RESET_N_ASSERT: every pin at its isolation value, LEAD_OUT and FAULT_N low; the flash alone stays (R719). -/
def resetAssert (s : State) : State := blank { flashOf {} s.boot with resetN := false, wdFlag := false } s

/-- RESET_N_ASSERT (R719). -/
def execResetNAssert (s : State) : Res := .next (resetAssert s)

/-- BOOT_WATCHDOG_EXPIRY: 60 s of T2 without Ready: the die resets with the flag set. -/
def watchdogExpiry (env : BootEnv) (s : State) : State :=
  match s.boot.wdAt with
  | some t => if t + 60000000000 ≤ t2Ns s then castOnFrom env { s.boot with wdFlag := true } s else s
  | none => s

/-- BOOT_WATCHDOG_EXPIRY (R646). -/
def execBootWatchdogExpiry (env : BootEnv) (s : State) : Res := .next (watchdogExpiry env s)

/-- CAST_ON_RESTART: 1 ms after CAST_ON's completion; at once after a wake from Off or an image written in Recovery. -/
def castOnRestart (env : BootEnv) (s : State) : State :=
  match s.boot.restartAt with
  | some t => if t = 0 || t + 1000000 ≤ t2Ns s then castOnFrom env s.boot s else s
  | none => s

/-- CAST_ON_RESTART (R629). -/
def execCastOnRestart (env : BootEnv) (s : State) : Res := .next (castOnRestart env s)

/-- The lanes as step 6 leaves them (R700). -/
def lanesCalibrated (failed : List Nat) (s : State) : State :=
  (List.range 84).foldl (fun st i =>
    if failed.contains i then laneEvent i 6 6 0 st else laneUpd i (fun x => { x with cal := true }) st) s

/-- READY_REACHED: steps 5 to 7 are done: HBM3 is trained, window 0 lies over the whole stack, the lanes are calibrated; the watchdog
stops, the boot record is told, the module enters Ready (R565, R647, R649, R656). Firmware's write of window 0 obeys R564 like any other. -/
def readyReached (env : ReadyEnv) (s : State) : State :=
  if s.pwr.mode != .castOn || s.boot.step < 4 || s.boot.restartAt.isSome then s
  else
    let w : MemWindow := { en := winMayEnable s.mem 0 { en := true, rowCount := 12288 }, rowCount := 12288 }
    let s1 : State := { s with mem := { s.mem with mcState := 2, windows := tset 0 w s.mem.windows } }
    let s2 := lanesCalibrated env.failedLanes s1
    let s3 := s2.boot.record.foldl (fun st ws => raise 0x58 ws st) s2
    let s4 := withBoot s3 { s3.boot with record := [], step := 7, wdAt := none }
    setMode .ready 4 0 0xFF (withPwr s4 { s4.pwr with faultN := false })

/-- READY_REACHED (R647). -/
def execReadyReached (env : ReadyEnv) (s : State) : Res := .next (readyReached env s)

/-! ### CAST_ON, FW_STAGE, FW_IDENT -/

/-- CAST_ON (R629): Ready, Maintenance or Safe hold; from the maintenance port in Maintenance only. -/
def opCastOn (c : Cmd) (s : State) : State × Reply :=
  let m := s.pwr.mode
  checked [(!(m == .maintenance || (c.port != .maint && (m == .ready || m == .safeHold))), wrongMode)]
    (fun s => (withBoot s { s.boot with restartAt := some (Nat.max 1 (t2Ns s)) }, .ok [])) s

/-- CAST_ON (R629). -/
def execCastOn (c : Cmd) (s : State) : Res := .next (hostCommand 0x0A01 opCastOn c s)

/-- The slot that does not run. -/
def idleSlot (s : State) : Nat := otherSlot s.boot.running

/-- The block with a slot's contents replaced. -/
def slotWrite (n : Nat) (x : SlotImage) (s : State) : State :=
  withBoot s (if n = 0 then { s.boot with slot0 := x } else { s.boot with slot1 := x })

/-- The words of an image that wait for the end of the programming. -/
def imageArgs (x : SlotImage) : List Nat := [x.version.toNat, x.build.toNat, x.pairWord.toNat, x.key, x.verdict, x.digest.toNat]

/-- The image that they spell. -/
def imageFrom (a : List Nat) : SlotImage :=
  { readable := true, version := w32 (a.getD 0 0), build := w32 (a.getD 1 0), pairWord := w32 (a.getD 2 0), key := a.getD 3 0,
    verdict := a.getD 4 0, digest := w32 (a.getD 5 0) }

/-- FW_STAGE (R651): the header is checked, the signature not; the idle slot is erased and programmed until FW_STAGE_END. -/
def opFwStage (c : Cmd) (s : State) : State × Reply :=
  let m := s.pwr.mode
  match c.env.card with
  | none => checked [(!(m == .ready || m == .follow || m == .maintenance || m == .safeHold), wrongMode)] (fun s => (s, .no 12 0)) s
  | some f =>
    checked [
      (!(m == .ready || m == .follow || m == .maintenance || m == .safeHold), wrongMode),
      (33554432 < f.size, .no 12 0),
      ((headerBad f).isSome, badRecord ((headerBad f).getD 0))]
      (fun s => (slotWrite (idleSlot s) {} s, .later (idleSlot s) (imageArgs (imageOf f)))) s

/-- FW_STAGE (R651). -/
def execFwStage (c : Cmd) (s : State) : Res := .next (hostCommand 0x0A00 opFwStage c s)

/-- FW_STAGE_END: the slot reads back as written, and the indicator names it for a trial; or FLASH_ERROR, the indicator unchanged, the
slot without a readable image (log 43). -/
def stageEnd (flashOk : Bool) (s : State) : State :=
  match outstOf 0x0A00 s with
  | none => s
  | some o =>
    if !flashOk then completeOutst o 11 0 [] s
    else
      let s1 := slotWrite o.target (imageFrom o.arg) s
      let b := indWrite { indGet s1.boot with active := o.target, trial := true, fails := 0, prevOk := true } s1.boot
      raise 0x58 (fwWords 6 o.target 0 0 b) (completeOutst o 0 0 [] (withBoot s1 b))

/-- FW_STAGE_END (R651). -/
def execFwStageEnd (flashOk : Bool) (s : State) : Res := .next (stageEnd flashOk s)

/-- FW_IDENT (Table 16-6). -/
def opFwIdent (_c : Cmd) (s : State) : State × Reply :=
  let b := s.boot
  let x := slotOfBoot b b.running
  let y := slotOfBoot b (otherSlot b.running)
  (s, .ok [pack [(31, 31, b.running), (30, 30, b1 (indGet b).trial), (29, 28, b.startPath), (27, 26, b.failsAtStart), (25, 24, x.key)],
    b.fwVersion, x.build, x.pairWord, if y.readable then y.version else 0xFFFFFFFF, if y.readable then y.build else 0xFFFFFFFF,
    y.pairWord, Config.romVersion, x.digest])

/-- FW_IDENT (R655). -/
def execFwIdent (c : Cmd) (s : State) : Res := .next (hostCommand 0x0A02 opFwIdent c s)

/-! ### DEVICE_STATUS (Table 13-14) -/

/-- W6 of DEVICE_STATUS, which ID_STATUS also shows. -/
def statusWord (s : State) : W32 :=
  pack [(31, 28, modeNum s.pwr.mode), (27, 25, powerNum s.pwr.state), (24, 23, t0Num s.tb.state), (22, 22, b1 s.pair.posB),
    (21, 21, b1 s.pair.enabled), (15, 8, satTo 255 (liveCount s))]

/-- DEVICE_STATUS. -/
def opDeviceStatus (_c : Cmd) (s : State) : State × Reply :=
  let outs := (s.scan.outs.filter fun x => x.2.en).foldl (fun m x => m ||| 2 ^ x.1) 0
  let layouts := (s.comp.commits.filter fun k => !k.applied).length
  (s, .ok [statusWord s,
    pack [(31, 31, (indGet s.boot).active), (15, 8, satTo 255 layouts), (7, 0, satTo 255 (ledgerPending s))],
    pack [(31, 16, s.pwr.lidTemp.toNat), (15, 0, s.pwr.junctionTemp.toNat)], w32 s.pwr.vcore, w32 outs, w32 (outs / 2 ^ 32 % 65536),
    w32 s.hif.maintLost])

/-- DEVICE_STATUS (R543). -/
def execDeviceStatus (c : Cmd) (s : State) : Res := .next (hostCommand 0x0001 opDeviceStatus c s)

end Sys2Proof.Machine
end

