-- ==== Sys2Proof/Machine/Gauge.lean ====
section
/-! DEFINITION. Gauges and adaptive VCORE (R607 to R613, R634), and the retraining windows of the memory (R575). -/

namespace Sys2Proof.Machine

/-! ### Required readings (R608, Table 15-3) -/

/-- The clockless domains (R607). -/
def gaugeDomains : List Nat := [1, 4, 5, 6, 7, 8, 9, 10, 11, 12, 14]

/-- The engines of a decode cluster's domain (Table 07-1). -/
def clusterEngines (d : Nat) : List Nat := (List.range 24).filter fun n => (n < 8 || (16 ≤ n && n < 20)) == (d == 6)

/-- The guaranteed capacity of some engines in service, in pixel/s. -/
def capacityOf (s : State) (es : List Nat) : Nat :=
  sumL ((es.filter (inService s)).map fun n => if n < 16 then rpRate else wcRate)

/-- The admitted class 0 and 1 load of a cluster, as load × the unreserved capacity of both clusters: pinned and privileged streams
count where their engines are, pooled ones by each cluster's share of the unreserved engines (DESIGN CHOICE, log 42). -/
def clusterLoad (s : State) (d : Nat) : Nat × Nat :=
  let es := clusterEngines d
  let res := reservedBy s.str.ents
  let free (l : List Nat) : Nat := capacityOf s (l.filter fun n => !res.contains n)
  let all := free (List.range 24)
  let own := sumL ((holders s.str.ents).map fun e =>
    let k := (e.home.filter fun n => es.contains n).length
    if recResidence e.rcd = 0 || e.home.isEmpty then 0 else loadOf e.rcd * k / e.home.length)
  let pool := sumL ((pooledOf s.str.ents).map loadOf)
  (own * Nat.max 1 all + pool * free es, Nat.max 1 all * capacityOf s es)

/-- The banks of a canvas that are admitted: the active one, and the pending one of a commit that has not taken effect (R340; log 42). -/
def admittedBanks (s : State) (c : Nat × Canvas) : List Bank :=
  if s.comp.commits.any fun k => !k.applied && k.mask.getLsbD c.1 then [c.2.active, c.2.pend] else [c.2.active]

/-- The composition and fetch loads of the admitted banks, in 1/1000 pixel/s (R340): the larger of a canvas's. -/
def intLoads (s : State) : Nat × Nat :=
  let cs := s.comp.canvases.filter fun c => c.2.set
  let most (c : Nat × Canvas) (f : Bank → Nat) : Nat := ((admittedBanks s c).map f).foldl Nat.max 0 * canRate s c.1
  (sumL (cs.map fun c => most c (composeLoad c.2)),
   sumL (cs.map fun c => most c fun b => sumL ((bankLayers b).map (fetchLoad s c.2))))

/-- The larger of two fractions. -/
def fracMax (a b : Nat × Nat) : Nat × Nat := if a.1 * b.2 < b.1 * a.2 then b else a

/-- u of a domain as a fraction; none where it is off or has no work (R608). -/
def loadFraction (s : State) (d : Nat) : Option (Nat × Nat) :=
  let part (x : Nat × Nat) : Option (Nat × Nat) := if x.1 = 0 || x.2 = 0 then none else some x
  let unit (b : Bool) : Option (Nat × Nat) := if b then some (1, 1) else none
  if !bitOf s.pwr.domains d then none
  else match d with
    | 1 => some (1, 1)
    | 4 => unit (s.net.ports.any fun p => p.2.en)
    | 5 => unit (s.bb.ins.any fun i => i.2.en)
    | 6 => part (clusterLoad s 6)
    | 7 => part (clusterLoad s 7)
    | 8 => part (sumL ((s.enc.chans.filter fun x => x.2.en && x.2.kind = 1).map fun x => encLoad s x.2.rcd), 4000000000 * 840 * 1001)
    | 9 => let l := intLoads s; part (fracMax (l.1, 24000000000 * 1000) (l.2, 36000000000 * 1000))
    | 10 => part (sumL ((s.scan.outs.filter fun x => x.2.en && x.1 < 24).map fun x => scanRate s x.1), 12000000000 * 1001)
    | 11 => part (sumL ((s.scan.outs.filter fun x => x.2.en && 24 ≤ x.1).map fun x => scanRate s x.1), 12000000000 * 1001)
    | 12 => unit (s.touch.panels.any fun p => p.2.st != 0)
    | _ => unit (pairMode s.pwr.mode || s.pair.linkUp)

/-- G_req = ceil(G_S × max(0.6, u) × 1.05) with G_S 1,200 (R607, R608); 0 for no requirement. -/
def gaugeReq (s : State) (d : Nat) : Nat :=
  match loadFraction s d with
  | some (n, k) => Nat.max 756 (ceilDiv (1260 * n) k)
  | none => 0

/-- The requirement that a held command adds to a domain (R610). -/
def heldReq (s : State) (d : Nat) : Nat :=
  match s.hif.supply with
  | some h => ((h.reqs.filter fun x => x.1 == d).map Prod.snd).foldl Nat.max 0
  | none => 0

/-- The reading of a domain; for one that is off, which has no gauge to read, the least of the domains that are on (DESIGN CHOICE,
log 42). -/
def gaugeRead (gs : Tab Gauge) (s : State) (d : Nat) : Nat :=
  if bitOf s.pwr.domains d then (tget {} gs d).reading
  else match (gaugeDomains.filter fun e => bitOf s.pwr.domains e).map fun e => (tget {} gs e).reading with
    | r :: rs => rs.foldl Nat.min r
    | [] => 0

/-- The gauges with new readings and requirements. -/
def gaugesNow (readings : List (Nat × Nat)) (s : State) : Tab Gauge :=
  let read := gaugeDomains.foldl (fun t d =>
    let g := tget {} t d
    let r := match tfind d readings with | some v => v | none => g.reading
    tset d { g with reading := satTo 0xFFFF r } t) s.pwr.gauges
  gaugeDomains.foldl (fun t d =>
    tset d { req := satTo 0xFFFF (Nat.max (gaugeReq s d) (heldReq s d)), reading := gaugeRead read s d } t) read

/-- The domain with the least headroom among those with a requirement (R609). -/
def leastHeadroom (gs : Tab Gauge) : Option (Nat × Gauge) :=
  (gs.filter fun x => x.2.req != 0).foldl (fun b x =>
    match b with
    | none => some x
    | some y => if x.2.reading * y.2.req < y.2.reading * x.2.req then some x else some y) none

/-! ### GAUGE_CONTROL_PERIOD -/

/-- VOLTAGE (Table 15-17). -/
def voltWords (cause : Nat) (least : Option (Nat × Gauge)) (s : State) : List W32 :=
  let (d, g) := least.getD (0, {})
  [pack [(31, 24, cause), (23, 20, d), (11, 0, s.pwr.vcore)], pack [(31, 16, g.req), (15, 0, g.reading)]]

/-- The last step of a second that is over is reported (Table 15-17). -/
def voltReport (s : State) : State :=
  match s.pwr.voltStep with
  | some ws =>
    if s.pwr.voltSecond = s.tb.t2.sec.toNat then s else raise 0x53 ws (withPwr s { s.pwr with voltStep := none })
  | none => s

/-- The regulator's condition (R612): a fault raises VOLTAGE with cause 3 and is Safe-hold cause 3. -/
def regulator (bad : Bool) (s : State) : State :=
  let p := s.pwr
  if bad == p.vrFault then s
  else if bad then
    safeHoldCause 3 0xFF (raise 0x53 (voltWords 3 (leastHeadroom p.gauges) s) (withPwr s { p with vrFault := true }))
  else withPwr s { p with vrFault := false, vrGoneAt := t2Ns s }

/-- READ_VOUT read back and judged against the command in force (R612). -/
def readVcore (readVout : Nat) (ack : Bool) (s : State) : State :=
  let mv := s.pwr.vcmd
  let s1 := withPwr s { s.pwr with vcore := if ack then readVout % 4096 else s.pwr.vcore }
  regulator (!ack || readVout + 15 < mv || mv + 15 < readVout) s1

/-- VOUT_COMMAND written, READ_VOUT read back and judged (R612). -/
def setVcore (mv readVout : Nat) (ack : Bool) (s : State) : State :=
  readVcore readVout ack (send (.pmbus mv) (withPwr s { s.pwr with vcmd := mv }))

/-- The VOUT_COMMAND that R609 asks for, from the least headroom `r / q`: raised below 1.02, lowered when it has stayed above 1.10. -/
def nextVcore (r q : Nat) (s : State) : Nat :=
  let v := s.pwr.vcmd
  if r * 100 < q * 102 then Nat.min 850 (v + 10)
  else match s.pwr.headHighAt with
    | some t => if q * 110 < r * 100 && t + 100000000 ≤ t2Ns s then Nat.max 550 (v - 5) else v
    | none => v

/-- GAUGE_CONTROL_PERIOD: firmware looks at the headroom every 1 ms, and every 50 µs while it is below 1.0; while AUTO is 1 it steps
VCORE (R608, R609, R611). While AUTO is 0 it reads back what GA_VSET asked for (R612). -/
def gaugePeriod (env : GaugeEnv) (s : State) : State :=
  let now := t2Ns s
  let p := s.pwr
  if p.state != .run || p.trans.isSome || now < p.gaugeAt + (if p.gaugeLow then 50000 else 1000000) then s
  else
    let gs := gaugesNow env.readings s
    match leastHeadroom gs with
    | none => voltReport (withPwr s { p with gauges := gs, gaugeAt := now })
    | some (d, g) =>
      let low : Bool := g.reading < g.req
      let high : Bool := g.req * 110 < g.reading * 100
      let target := if p.auto then nextVcore g.reading g.req s else p.vcmd
      let lowered : Bool := target < p.vcmd
      let p1 := { p with
        gauges := gs, gaugeAt := now, gaugeLow := low,
        headHighAt := if !high then none else if lowered then some now else p.headHighAt.orElse fun _ => some now,
        headLowAt := if low && p.vcmd = 850 then p.headLowAt.orElse fun _ => some now else none,
        headLost := p.headLost && low && p.vcmd = 850 }
      let s1 := voltReport (withPwr s p1)
      if target = p.vcmd then (if p.auto then s1 else readVcore env.readVout env.ack s1)
      else
        let s2 := setVcore target env.readVout env.ack s1
        withPwr s2 { s2.pwr with voltStep := some (voltWords 1 (some (d, g)) s2), voltSecond := s2.tb.t2.sec.toNat }

/-- HEADROOM_LOST: the headroom has stayed below 1.0 at 0.85 V for 10 ms. -/
def headroomLost (s : State) : State :=
  match s.pwr.headLowAt with
  | some t =>
    if !s.pwr.headLost && t + 10000000 ≤ t2Ns s then
      raise 0x53 (voltWords 2 (leastHeadroom s.pwr.gauges) s) (withPwr s { s.pwr with headLost := true })
    else s
  | none => s

/-- HEADROOM_LOST (R611). -/
def execHeadroomLost (s : State) : Res := .next (headroomLost s)

/-- VR_ALERT (R612): VR_ALERT_N is pulled low, or released. -/
def execVrAlert (active : Bool) (s : State) : Res := .next (regulator active s)

/-! ### GA registers (R613, R634) -/

/-- Reads of the GA block. -/
def gaPeek (off : Nat) (s : State) : Option W32 :=
  match off with
  | 0xE000 => some (w32 (b1 s.pwr.auto))
  | 0xE004 => some (w32 s.pwr.vcore)
  | 0xE008 => some (w32 s.pwr.vset)
  | _ =>
    if 0xE040 ≤ off && off < 0xE040 + 4 * 15 then
      let g := tget {} s.pwr.gauges ((off - 0xE040) / 4)
      some (pack [(31, 16, g.req), (15, 0, g.reading)])
    else none

/-- VCORE outside firmware's control follows GA_VSET; READ_VOUT is read at firmware's next look. -/
def manualVcore (s : State) : State :=
  if s.pwr.auto then s else send (.pmbus s.pwr.vset) (withPwr s { s.pwr with vcmd := s.pwr.vset })

/-- A write of GA_CTL: AUTO 0 is taken in Maintenance only (R613, R662). -/
def gaCtlWrite (init : Nat) (v : W32) (s : State) : State :=
  if bitOf v 0 then withPwr s { s.pwr with auto := true }
  else if s.pwr.mode == .maintenance then manualVcore (withPwr s { s.pwr with auto := false })
  else paramRefused init 0xE000 v s

/-- A write of GA_VSET: 550 to 850 mV (R662). -/
def gaVsetWrite (init : Nat) (v : W32) (s : State) : State :=
  let mv := fld v 11 0
  if 550 ≤ mv && mv ≤ 850 then manualVcore (withPwr s { s.pwr with vset := mv }) else paramRefused init 0xE008 v s

/-- GA_CTL and GA_VSET as registers. -/
def gaCtlInfo (s : State) : RegInfo := { rw := 1, cur := w32 (b1 s.pwr.auto) }
def gaVsetInfo (s : State) : RegInfo := { rw := 0xFFF, cur := w32 s.pwr.vset }

/-- GA_CTL_WRITE (R613). -/
def execGaCtlWrite (a : RegW) (s : State) : Res := .next (regWrite 0xE000 (gaCtlInfo s) a (gaCtlWrite a.init) s)

/-- GA_VSET_WRITE (R613). -/
def execGaVsetWrite (a : RegW) (s : State) : Res := .next (regWrite 0xE008 (gaVsetInfo s) a (gaVsetWrite a.init) s)

/-! ### RETRAIN_WINDOW (R575) -/

/-- RETRAIN_WINDOW: one pseudo-channel's slice; a slice that finds the eye margin below the limit repeats at the channel's next window,
and the third in a row is Safe-hold cause 2 (Table 15-12). -/
def retrain (low : Bool) (s : State) : State :=
  if s.mem.mcState != 2 then s
  else
    let pc := s.mem.retrainNext
    let m1 := { s.mem with retrainNext := (pc + 1) % 32 }
    if low then
      let n : Nat := tget 0 m1.retrainFails pc + 1
      let s1 := memState 5 pc false 0 0 { s with mem := { m1 with retrainFails := tset pc n m1.retrainFails } }
      if n = 3 then safeHoldCause 2 0xFF (withPwr s1 { s1.pwr with memFault := true }) else s1
    else
      let fails := tset pc 0 m1.retrainFails
      let still : Bool := fails.any fun x => 3 ≤ x.2
      let s1 := { s with mem := { m1 with retrainFails := fails, slices := tset pc ((tget 0 m1.slices pc + 1) % 16) m1.slices } }
      if s.pwr.memFault && !still then withPwr s1 { s1.pwr with memFault := false, memGoneAt := t2Ns s1 } else s1

/-- RETRAIN_WINDOW (R575). -/
def execRetrainWindow (marginLow : Bool) (s : State) : Res := .next (retrain marginLow s)

end Sys2Proof.Machine
end

