-- ==== Sys2Proof/Machine/Recovery.lean ====
section
/-! DEFINITION. Recovery: the ROM's protocol on the maintenance port (R652 to R654), and what that port answers beside commands (R556). -/

namespace Sys2Proof.Machine

/-! ### Replies (Table 16-5) -/

/-- A word's bytes, lowest first, in a number of bytes. -/
def bytesLow (n k : Nat) : List Byte := (List.range k).map fun i => BitVec.ofNat 8 (n / 2 ^ (8 * i))

/-- A reply: the request's header with OP bit 7 set, the status, ARG and LEN (R652). -/
def recovSend (q : RecovReq) (status arg len : Nat) (s : State) : State :=
  send (.udp q.addr q.port 7249
    (bytesLow (q.op ||| 0x80) 2 ++ bytesLow status 2 ++ bytesLow arg 4 ++ bytesLow len 4 ++ bytesLow q.crc.toNat 4)) s

/-- A reply that copies ARG and LEN. -/
def recovReply (q : RecovReq) (status : Nat) (s : State) : State := recovSend q status q.arg q.len s

/-- The block with its download replaced. -/
def withRecov (s : State) (r : Recovery) : State := withBoot s { s.boot with recov := r }

/-- A request in Recovery: status 6 while the ROM writes, else its work; in no other mode does the ROM serve it (R652, R653). -/
def inRecovery (q : RecovReq) (work : State → State) (s : State) : State :=
  if s.pwr.mode != .recovery then s
  else if s.boot.recov.phase = 3 then recovReply q 6 s
  else work s

/-! ### BEGIN, DATA, STATUS, IDENTITY -/

/-- BEGIN: the buffer is cleared for an image of a length within R643; another length is out of range, status 2. -/
def recovBegin (q : RecovReq) (s : State) : State :=
  if 4096 ≤ q.arg && q.arg ≤ 33554432 then
    recovReply q 0 (withRecov s { phase := 1, length := q.arg })
  else recovReply q 2 s

/-- RECOVERY_BEGIN (R653). -/
def execRecoveryBegin (q : RecovReq) (s : State) : Res := .next (inRecovery q (recovBegin q) s)

/-- DATA: the CRC, then the offset: the bytes received so far, within the length of BEGIN; a repeat of the last one changes nothing. -/
def recovData (q : RecovReq) (s : State) : State :=
  let r := s.boot.recov
  if crc32c q.data != q.crc.toNat then recovReply q 1 s
  else if r.lastData == some (q.arg, q.len, q.crc.toNat) then recovReply q 0 s
  else if r.phase != 1 || q.arg != r.buf.length || q.data.length != q.len || 1024 < q.len || r.length < q.arg + q.len then
    recovReply q 2 s
  else recovReply q 0 (withRecov s { r with buf := r.buf ++ q.data, lastData := some (q.arg, q.len, q.crc.toNat) })

/-- RECOVERY_DATA (R653). -/
def execRecoveryData (q : RecovReq) (s : State) : Res := .next (inRecovery q (recovData q) s)

/-- STATUS: the bytes received and the state; while the ROM writes, with status 6 as every request then (log 45). -/
def recovStatus (q : RecovReq) (s : State) : State :=
  if s.pwr.mode != .recovery then s
  else recovSend q (if s.boot.recov.phase = 3 then 6 else 0) s.boot.recov.buf.length s.boot.recov.phase s

/-- RECOVERY_STATUS (R653). -/
def execRecoveryStatus (q : RecovReq) (s : State) : Res := .next (recovStatus q s)

/-- IDENTITY: the identity block is rewritten when it is whole and its CRC is correct. -/
def recovIdentity (q : RecovReq) (s : State) : State :=
  if crc32c q.data != q.crc.toNat then recovReply q 1 s
  else if q.data.length != 256 then recovReply q 2 s
  else if !identityOk q.data then recovReply q 1 s
  else recovReply q 0 (withBoot s { s.boot with identity := q.data })

/-- RECOVERY_IDENTITY (R653). -/
def execRecoveryIdentity (q : RecovReq) (s : State) : Res := .next (inRecovery q (recovIdentity q) s)

/-! ### END and CARD -/

/-- What comes of an image in the buffer: it is verified under R644, and when it verifies written into both slots and read back, the
indicator is written, and cast-on restarts. The result is the status of the reply (R653). -/
def recovInstall (f : FwFile) (flashOk : Bool) (s : State) : State × Nat :=
  if (imageOf f).verdict != 0 then (withRecov s {}, 3)
  else if !flashOk then (withRecov (slotWrite 1 {} (slotWrite 0 {} s)) {}, 4)
  else
    let x := imageOf f
    let s1 := slotWrite 1 x (slotWrite 0 x s)
    let b := indWrite { active := 0, trial := false, fails := 0, prevOk := true } s1.boot
    (withBoot s1 { b with record := b.record ++ [fwWords 7 0 0 0 b], afterRecovery := true, restartAt := some 0,
                          recov := { b.recov with phase := 3 } }, 0)

/-- END: the buffered image; one shorter than BEGIN's length does not verify. -/
def recovEnd (q : RecovReq) (f : FwFile) (flashOk : Bool) (s : State) : State :=
  let r := s.boot.recov
  let g : FwFile := { f with header := r.buf.take 4096, size := r.buf.length }
  if r.phase != 1 || r.buf.length < r.length then recovReply q 3 s
  else
    let x := recovInstall g flashOk s
    recovReply q x.2 x.1

/-- RECOVERY_END (R653). -/
def execRecoveryEnd (q : RecovReq) (f : FwFile) (flashOk : Bool) (s : State) : Res := .next (inRecovery q (recovEnd q f flashOk) s)

/-- The card's DT48.IMG taken as the image; the status, 5 where it cannot be read. -/
def recovFromCard (f : Option FwFile) (flashOk : Bool) (s : State) : State × Nat :=
  match f with
  | none => (s, 5)
  | some f => recovInstall f flashOk s

/-- CARD. -/
def recovCard (q : RecovReq) (f : Option FwFile) (flashOk : Bool) (s : State) : State :=
  let x := recovFromCard f flashOk s
  recovReply q x.2 x.1

/-- RECOVERY_CARD (R653). -/
def execRecoveryCard (q : RecovReq) (f : Option FwFile) (flashOk : Bool) (s : State) : Res := .next (inRecovery q (recovCard q f flashOk) s)

/-! ### The UART (R654) -/

/-- The line "L" is CARD without a datagram to answer. -/
def uartLoad (line : List Byte) (f : Option FwFile) (flashOk : Bool) (s : State) : State :=
  if s.pwr.mode == .recovery && s.boot.recov.phase != 3 && line == [0x4C] then (recovFromCard f flashOk s).1 else s

/-- RECOVERY_UART_LOAD (R654). -/
def execRecoveryUartLoad (line : List Byte) (f : Option FwFile) (flashOk : Bool) (s : State) : Res :=
  .next (uartLoad line f flashOk s)

/-- A number in decimal digits. -/
def decimal (n : Nat) : List Byte := (Nat.toDigits 10 n).map fun c => BitVec.ofNat 8 c.toNat

/-- Once a second the line "RECOVERY", the state and the byte count; its spaces and its decimal digits are the model's (log 45). -/
def statusLine (s : State) : State :=
  let now := t2Ns s
  if s.pwr.mode == .recovery && (s.boot.lineAt = 0 || s.boot.lineAt + 1000000000 ≤ now) then
    let r := s.boot.recov
    let s1 := send (.uart ([0x52, 0x45, 0x43, 0x4F, 0x56, 0x45, 0x52, 0x59, 32] ++ decimal r.phase ++ [32] ++ decimal r.buf.length)) s
    withBoot s1 { s1.boot with lineAt := Nat.max 1 now }
  else s

/-- RECOVERY_STATUS_LINE (R654). -/
def execRecoveryStatusLine (s : State) : Res := .next (statusLine s)

/-! ### Other frames on the maintenance port -/

/-- The maintenance port answers frames: from step 4 of cast-on, where firmware runs, and in Recovery (R556, R652). -/
def maintAnswers (s : State) : Bool :=
  s.boot.resetN && (s.pwr.mode == .recovery || 4 ≤ s.boot.step) && s.pwr.state != .off

/-- MAINT_FRAME_RECEIVE: ARP and ICMP echo for its own address are answered, anything else is discarded. -/
def maintFrame (f : MaintFrame) (s : State) : State :=
  if !maintAnswers s then s
  else match f with
    | .arp target sender => if target = ownAddr s then send (.arpReply sender) s else s
    | .icmpEcho target sender payload => if target = ownAddr s then send (.icmpReply sender payload) s else s
    | .other => s

/-- MAINT_FRAME_RECEIVE (R556). -/
def execMaintFrameReceive (f : MaintFrame) (s : State) : Res := .next (maintFrame f s)

end Sys2Proof.Machine
end

