-- ==== Sys2Proof/Machine/Regs.lean ====
section
/-! DEFINITION. The register map (chapter 17): what each offset holds, which bits a write reaches, which fields a read clears, which
pairs are 64-bit registers; the plain register write and the reads with an effect (R657 to R673). -/

namespace Sys2Proof.Machine

/-! ### What each offset holds -/

/-- A word of the ID block (Table 17-4). -/
def idPeek (off : Nat) (s : State) : Option W32 :=
  let serial := Config.serialPred % (2 ^ 64 - 1) + 1
  match off with
  | 0x00 => some 0x44543438 | 0x04 => some 1 | 0x08 => some (w32 serial) | 0x0C => some (w32 (serial / 2 ^ 32))
  | 0x10 => some Config.romVersion | 0x14 => some s.boot.fwVersion | 0x18 => some Config.keyFuse | 0x1C => some (statusWord s)
  | 0x20 => some (w32 (b1 s.pwr.faultN))
  | 0x30 => some (tget 0 s.hif.scratch 0) | 0x34 => some (tget 0 s.hif.scratch 1)
  | 0x38 => some (tget 0 s.hif.scratch 2) | 0x3C => some (tget 0 s.hif.scratch 3)
  | _ => none

/-- A word of the NET block (Table 17-10). -/
def netPeek (off : Nat) (s : State) : Option W32 :=
  if 0xB100 ≤ off then none
  else
    let p := (off - 0xB000) / 0x20
    let x := netGet s p
    if off % 0x20 = 0 then
      some (pack [(31, 31, b1 x.up), (30, 30, b1 (pair100 s (p / 2))), (29, 29, b1 x.en), (27, 24, x.phy), (21, 20, x.fec)])
    else some (w32 (sat32 (tget 0 x.cnt (off % 0x20 / 4))))

/-- An engine belongs to the gang of a privileged stream. -/
def inGang (s : State) (n : Nat) : Bool :=
  s.str.ents.any fun x => isBound x.2 && recResidence x.2.rcd == 2 && x.2.home.contains n

/-- A word of the VC block (Table 17-11). -/
def vcPeek (off : Nat) (s : State) : Option W32 :=
  if off < 0xC060 then
    let n := (off - 0xC000) / 4
    let pins := (pinnedTo s n).length
    some (pack [(31, 29, (engGet s n).st), (9, 9, b1 (inGang s n)), (8, 8, b1 (pins != 0)), (7, 0, pins)])
  else if 0xC100 ≤ off && off < 0xC180 then
    let x := ecGet s ((off - 0xC100) / 0x10)
    match off % 0x10 with
    | 0 => some (w32 x.cons) | 4 => some (w32 x.prod) | 8 => some (w32 (if x.en then x.kind else 0)) | _ => none
  else none

/-- The commit identifier of the last ledger generation copied (R327); 0 before the first. -/
def ledgerId (s : State) : W32 := (s.comp.ledger.gens.foldl (fun a g => if g.copied then g.id else a) 0)

/-- A word of the IC block (Table 17-12). -/
def icPeek (off : Nat) (s : State) : Option W32 :=
  if off < 0xD400 then
    let x : Canvas := tget {} s.comp.canvases ((off - 0xD000) / 0x10)
    match off % 0x10 with
    | 0 => some x.frameReg | 4 => some x.commitId | 8 => some (w32 (sat32 x.underReg)) | _ => some (w32 (sat32 x.slipReg))
  else match off with
    | 0xD400 => some (ledgerId s)
    | 0xD404 => some (w32 (satTo 15 (ledgerPending s)))
    | _ => none

/-- A listed register as it stands: what a read through the peek mirror returns to an initiator (Table 17-3); none where no map lists a
register (R657, R660). -/
def regPeek (off init : Nat) (s : State) : Option W32 :=
  if off % 4 != 0 || 0x10000 ≤ off then none
  else match off / 0x1000 with
    | 0 => idPeek off s | 1 => pwcPeek off s | 2 => tbPeek off s | 3 => hifPeek off init s | 4 => gtPeek off s | 5 => mcPeek off s
    | 6 => lnPeek off s | 7 => cvuPeek off s | 8 => pairPeek off s | 9 => tchPeek off s | 0xA => soPeek off s | 0xB => netPeek off s
    | 0xC => vcPeek off s | 0xD => icPeek off s | 0xE => gaPeek off s | _ => evPeek off s

/-! ### 64-bit registers (R666) -/

/-- The offset is the low word of a 64-bit register. -/
def wideLow (off : Nat) : Bool :=
  match off / 0x1000 with
  | 0 => off == 8
  | 2 =>
    if off < 0x2400 then off % 0x100 ∈ [0x08, 0x18, 0x24, 0x30, 0x44]
    else if 0x2800 ≤ off && off < 0x2920 then off % 0x20 == 8
    else 0x2C00 ≤ off && off < 0x2D00 && off % 0x20 == 8
  | 3 => off < 0x3800 && (off % 0x40 == 0 || off % 0x40 == 0x18)
  | 4 => off == 0x4204 || off == 0x420C
  | 7 => off < 0x7100 && off % 0x40 == 0x14
  | _ => false

/-- The offset is the high word of one. -/
def wideHigh (off : Nat) : Bool := 4 ≤ off && wideLow (off - 4)

/-! ### Clear-on-read fields -/

/-- The RC fields of a register, each (high bit, low bit). -/
def rcFields (off : Nat) : List (Nat × Nat) :=
  match off / 0x1000 with
  | 1 => if off = 0x100C then [(3, 3), (2, 2), (1, 1), (0, 0)] else []
  | 2 => tbRc off
  | 3 => if off < 0x3800 && off % 0x40 = 0x20 then [(15, 0)] else []
  | 4 =>
    if off = 0x4084 then (List.range 24).map fun i => (i, i)
    else if 0x4100 ≤ off && off < 0x4160 then [(31, 0)] else []
  | 5 =>
    if off = 0x5000 then [(2, 2)]
    else if 0x5400 ≤ off then [(31, 16), (15, 0)]
    else if 0x5100 ≤ off && 8 ≤ off % 0x10 then [(31, 0)] else []
  | 6 => if 0x6200 ≤ off then [(31, 0)] else []
  | 7 => if off % 0x40 = 4 then [(3, 3), (2, 2), (1, 1)] else []
  | 8 => if 0x8008 ≤ off then [(31, 0)] else []
  | 9 => if off % 0x10 = 0xC then [(31, 0)] else []
  | 0xA => if 0xAC00 ≤ off && off % 0x10 = 8 then [(31, 0)] else []
  | 0xB => if off % 0x20 != 0 then [(31, 0)] else []
  | 0xD => if off < 0xD400 && 8 ≤ off % 0x10 then [(31, 0)] else []
  | 0xF => if off < 0xF030 && off % 0x10 = 4 then [(31, 0)] else []
  | _ => []

/-- A field of a register, named by its low bit, is cleared. -/
def regClear (off lo : Nat) (s : State) : State :=
  match off / 0x1000 with
  | 1 => pwcClear lo s
  | 2 => tbClear off lo s
  | 3 =>
    let fn := (off - 0x3000) / 0x400
    let r := off % 0x400 / 0x40
    ringSet s fn r { ringGet s fn r with discards := 0 }
  | 4 => gtClear off lo s
  | 5 => mcClear off lo s
  | 6 => lnClear off s
  | 7 => cvuClear off lo s
  | 8 => pairClear off s
  | 9 => tchClear off s
  | 0xA => soClear off s
  | 0xB => netUpd ((off - 0xB000) / 0x20) (fun x => { x with cnt := tset (off % 0x20 / 4) 0 x.cnt }) s
  | 0xD =>
    let f (x : Canvas) : Canvas := if off % 0x10 = 8 then { x with underReg := 0 } else { x with slipReg := 0 }
    { s with comp := { s.comp with canvases := tupd {} ((off - 0xD000) / 0x10) f s.comp.canvases } }
  | 0xF => evClear off s
  | _ => s

/-- TXQq_ID. -/
def isTxqId (off : Nat) : Bool := 0x2800 ≤ off && off < 0x2920 && off % 0x20 == 0

/-! ### Reads (Table 17-1) -/

/-- A 64-bit register's high word is latched for an initiator (R667). -/
def latchHigh (off init : Nat) (s : State) : State :=
  let hi := (regPeek (off + 4) init s).getD 0
  { s with hif := { s.hif with shadow := tset (wideKey init off) hi s.hif.shadow } }

/-- What a read of a listed register by a path answers, and the block after it. -/
def readBy (off init : Nat) (live : W32) (p : RegPath) (s : State) : W32 × State :=
  match p with
  | .peek => (live, s)
  | .bar1 b => (live, if rcFields off |>.contains (b, b) then regClear off b s else s)
  | .bar0 =>
    if isTxqId off then txqRead ((off - 0x2800) / 0x20) .bar0 s
    else if wideLow off then (live, latchHigh off init s)
    else if wideHigh off then ((tfind (wideKey init (off - 4)) s.hif.shadow).getD live, s)
    else (live, (rcFields off).foldl (fun st f => regClear off f.2 st) s)

/-- A read of any register: an offset that no map lists returns 0 without a check (R660). -/
def readAny (off : Nat) (a : RegR) (s : State) : State :=
  match regPeek off a.init s with
  | none => send (.readData a.init off a.path 0) s
  | some v => regRead off a (readBy off a.init v) s

/-- REGISTER_READ_CLEAR (R669). -/
def execRegisterReadClear (off : Nat) (a : RegR) (s : State) : Res := .next (readAny off a s)

/-- REGISTER_READ_LO_LATCH (R667). -/
def execRegisterReadLoLatch (off : Nat) (a : RegR) (s : State) : Res := .next (readAny off a s)

/-! ### Writes -/

/-- A write of MC_PAGE_TMO and MC_SCRUB (Table 14-7). -/
def mcPlainWrite (off init : Nat) (v : W32) (s : State) : State :=
  if off = 0x5008 then
    if 20 ≤ v.toNat && v.toNat ≤ 2000 then withMem s { s.mem with pageTmo := v } else paramRefused init off v s
  else
    let h := fld v 7 0
    if 1 ≤ h && h ≤ 168 then withMem s { s.mem with scrub := v &&& 0x800000FF } else paramRefused init off v s

/-- The MSI-X table word at an offset: its writable bits. -/
def msixRw (off : Nat) : W32 := match off % 16 with | 0 => 0xFFFFFFFC | 12 => 1 | _ => 0xFFFFFFFF

/-- A listed register as a write finds it, but for its present word: its writable and its pulse bits; nothing for the RO, RC and WO ones
(R661, Table 17-2). -/
def regBits (off : Nat) (s : State) : RegInfo :=
  let all : RegInfo := { rw := 0xFFFFFFFF }
  match off / 0x1000 with
  | 0 => if 0x30 ≤ off then all else { rw := 0 }
  | 1 => if off = 0x1004 then pwcReqInfo s else if off = 0x1008 then { rw := 7 } else { rw := 0 }
  | 2 =>
    if off < 0x2400 then
      let n := (off - 0x2000) / 0x100
      match off % 0x100 with
      | 0 => tbCtlInfo n s
      | 0x38 => if n = 2 then { rw := 0 } else all
      | 0x08 => all | 0x0C => all | 0x20 => all | 0x24 => all | 0x28 => all | 0x30 => all | 0x34 => all
      | 0x50 => t0StateInfo
      | 0x54 => all | 0x58 => all | 0x5C => all | 0x60 => all
      | _ => { rw := 0 }
    else if off = 0x2400 then { rw := 0, w1p := 1 }
    else if off = 0x2418 then all
    else if 0x2C00 ≤ off then (if off % 0x20 = 0 then flCtlInfo ((off - 0x2C00) / 0x20) s else all)
    else { rw := 0 }
  | 3 =>
    if 0x3C00 ≤ off then { rw := msixRw off }
    else if 0x3800 ≤ off then { rw := 0 }
    else match off % 0x40 with
      | 0x08 => { rw := ringCtlRw } | 0x0C => { rw := 0x03FF00FF } | 0x00 => all | 0x04 => all | 0x18 => all | 0x1C => all
      | _ => { rw := 0 }
  | 4 => if off = 0x4200 then { rw := 0x80001F3F } else { rw := 0 }
  | 5 =>
    if off = 0x5008 then all
    else if off = 0x500C then { rw := 0x800000FF }
    else if 0x5020 ≤ off && off < 0x50A0 then
      match off % 0x10 with
      | 0 => { rw := 0x80000003 } | 4 => { rw := 0x0007FFFF } | 8 => { rw := 0x3FFF3FFF } | _ => all
    else if 0x5100 ≤ off && off < 0x5280 then
      (match off % 0x10 with | 0 => { rw := 0x8000FFFF } | 4 => { rw := 0xFFFF } | _ => { rw := 0 })
    else { rw := 0 }
  | 7 => match off % 0x40 with
    | 0x00 => { rw := 0x80000003, w1p := 0x100 } | 0x1C => { rw := 0xFFFF } | 0x20 => { rw := 0xFFFF } | _ => { rw := 0 }
  | 0xC => if 0xC100 ≤ off && off % 0x10 = 0 then { rw := 0x0FFFFFFF } else { rw := 0 }
  | 0xE => if off = 0xE000 then { rw := 1 } else if off = 0xE008 then { rw := 0xFFF } else { rw := 0 }
  | _ => { rw := 0 }

/-- A listed register as a write finds it. -/
def regInfo (off init : Nat) (s : State) : RegInfo :=
  { regBits off s with cur := (regPeek off init s).getD 0, wide := wideLow off || wideHigh off }

/-- A write of a register of the TB block. -/
def tbApplyWrite (off init : Nat) (v : W32) (s : State) : State :=
  if off < 0x2400 then
    let n := (off - 0x2000) / 0x100
    match off % 0x100 with
    | 0x00 => tbCtlWrite n init v s
    | 0x0C => incCommit n init v s
    | 0x34 => stepCommit n init v s
    | 0x50 => t0Declare v s
    | 0x54 => errEstWrite v s
    | _ => tbPlainWrite off init v s
  else if off = 0x2400 then (if bitOf v 0 then snapAll s else s)
  else if off = 0x2418 then tbPlainWrite off init v s
  else if 0x2C00 ≤ off then
    let g := (off - 0x2C00) / 0x20
    match off % 0x20 with
    | 0 => flCtlWrite g init v s
    | 4 => flParamWrite g init .num v s
    | 8 => flParamWrite g init .originLo v s
    | 12 => flParamWrite g init .originHi v s
    | _ => flParamWrite g init .phase v s
  else s

/-- A write of a register of the HIF block. -/
def hifApplyWrite (off init : Nat) (v : W32) (s : State) : State :=
  if 0x3C00 ≤ off then msixWrite off init v s
  else if 0x3800 ≤ off then s
  else
    let fn := (off - 0x3000) / 0x400
    let r := off % 0x400 / 0x40
    if off % 0x40 = 8 then ringCtlWrite fn r v s else ringOtherWrite fn r (off % 0x40) init v s

/-- A write of a register of the MC block. -/
def mcApplyWrite (off init : Nat) (v : W32) (s : State) : State :=
  if off = 0x5008 || off = 0x500C then mcPlainWrite off init v s
  else if 0x5020 ≤ off && off < 0x50A0 then
    let n := (off - 0x5020) / 0x10
    if off % 0x10 = 0 then winCtlWrite n init v s else winOtherWrite n (off % 0x10) init v s
  else if 0x5100 ≤ off && off < 0x5280 then
    let p := (off - 0x5100) / 0x10
    match off % 0x10 with
    | 0 => portRateWrite p init v s
    | 4 => portBurstWrite p init v s
    | _ => s
  else s

/-- A write of a register of a check-value unit. -/
def cvuApplyWrite (off init : Nat) (v : W32) (s : State) : State :=
  let u := (off - 0x7000) / 0x40
  match off % 0x40 with
  | 0x00 => cvuCtlWrite u v s
  | 0x08 => cvuFeed u (bytesLE 1 v.toNat) s
  | 0x0C => cvuFeed u (bytesLE 2 v.toNat) s
  | 0x10 => cvuFeed u (bytesLE 4 v.toNat) s
  | 0x1C => cvuAlive u init v s
  | 0x20 => cvuSet u { cvuGet s u with aliveTmo := fld v 15 0 } s
  | _ => s

/-- The word applied to a listed register: its own rule, or nothing for a register that a write does not reach (R661, R662). -/
def regApply (off init : Nat) (v : W32) (s : State) : State :=
  match off / 0x1000 with
  | 0 => if 0x30 ≤ off then { s with hif := { s.hif with scratch := tset ((off - 0x30) / 4) v s.hif.scratch } } else s
  | 1 => if off = 0x1004 then pwcReqWrite init v s else if off = 0x1008 then pwcCfgWrite v s else s
  | 2 => tbApplyWrite off init v s
  | 3 => hifApplyWrite off init v s
  | 4 => if off = 0x4200 then rselWrite init v s else s
  | 5 => mcApplyWrite off init v s
  | 7 => cvuApplyWrite off init v s
  | 0xC => if 0xC100 ≤ off && off % 0x10 = 0 then encConsWrite ((off - 0xC100) / 0x10) init v s else s
  | 0xE => if off = 0xE000 then gaCtlWrite init v s else if off = 0xE008 then gaVsetWrite init v s else s
  | _ => s

/-- A write of any register; one of an offset that no map lists is dropped in silence (R660). -/
def writeAny (off : Nat) (a : RegW) (s : State) : State :=
  if (regPeek off a.init s).isSome then regWrite off (regInfo off a.init s) a (regApply off a.init) s else s

/-- REGISTER_WRITE (R662). -/
def execRegisterWrite (off : Nat) (a : RegW) (s : State) : Res := .next (writeAny off a s)

end Sys2Proof.Machine
end

