-- ==== Sys2Proof/Machine/Supply.lean ====
section
/-! DEFINITION. The supply wait (R610): STREAM_OPEN, STREAM_MODIFY, LAYOUT_COMMIT, OUTPUT_ENABLE, ENC_ENABLE and DOMAIN_SET, held while they
raise a domain's load above what VCORE carries. -/

namespace Sys2Proof.Machine

/-- The state in which an accepted command is in effect, for one that R610 names: an OUTPUT_ENABLE whose lanes calibrate first is so at
their end, a DOMAIN_SET on with its domains ready; DOMAIN_SET off is not named. -/
def supplyState (op : Nat) (c : Cmd) (s : State) (p : State × Reply) : Option State :=
  match p.2 with
  | .ok _ =>
    if op != 0x0006 then some p.1
    else if bitOf (cw c 3) 0 then
      some (withPwr p.1 { p.1.pwr with domains := p.1.pwr.domains ||| (p.1.pwr.rising &&& ~~~s.pwr.rising) })
    else none
  | .later o _ => if op = 0x0501 then some (outOn o p.1) else none
  | .no _ _ => none

/-- The domains whose u is larger in a state than in the present one, with the readings that they then need (R610). -/
def raisedReqs (s s2 : State) : List (Nat × Nat) :=
  gaugeDomains.filterMap fun d =>
    match loadFraction s2 d with
    | some (n, k) =>
      let old := (loadFraction s d).getD (0, 1)
      if old.1 * k < n * old.2 then some (d, gaugeReq s2 d) else none
    | none => none

/-- VCORE has reached the level that some requirements ask for: each domain's reading, or that of its neighbours while it is off. -/
def supplyMet (s : State) (reqs : List (Nat × Nat)) : Bool := reqs.all fun x => x.2 ≤ gaugeRead s.pwr.gauges s x.1

/-- What a command asks of VCORE before it may be applied (R610). -/
def supplyNeeds (op : Nat) (f : Cmd → State → State × Reply) (c : Cmd) (s : State) : List (Nat × Nat) :=
  match supplyState op c s (f c s) with
  | none => []
  | some s2 => raisedReqs s s2

/-- The block with a command held until VCORE carries what it needs (R610). -/
def supplyHold (op : Nat) (c : Cmd) (reqs : List (Nat × Nat)) (s : State) : State :=
  { s with hif := { s.hif with supply := some { seq := s.hif.cmdSeq, opcode := op, cmd := c, since := t2Ns s, reqs := reqs } } }

/-- A command that R610 names: applied at once where the level is met, else held. -/
def supplied (op : Nat) (f : Cmd → State → State × Reply) (c : Cmd) (s : State) : State × Reply :=
  if supplyMet s (supplyNeeds op f c s) then f c s else (supplyHold op c (supplyNeeds op f c s) s, .later 0 [])

/-- The work of the commands that R610 names. -/
def supplyWork (op : Nat) : Cmd → State → State × Reply :=
  match op with
  | 0x0300 => opStreamOpen
  | 0x0301 => opStreamModify
  | 0x0408 => opLayoutCommit
  | 0x0501 => opOutputEnable
  | 0x0601 => opEncEnable
  | _ => opDomainSet

/-- The end of an outstanding command's taking: its completion, or its place among the outstanding ones. -/
def finishOutst (o : Outst) (r : Reply) (s : State) : State :=
  match r with
  | .ok ws => complete o 0 0 ws s
  | .no st d => complete o st d [] s
  | .later t a => { s with hif := { s.hif with outst := s.hif.outst ++ [{ o with target := t, arg := a }] } }

/-- The held command is judged and applied once the level is met, 15 ms after it was taken at the latest (R610). -/
def supplyRelease (s : State) : State :=
  match s.hif.supply with
  | none => s
  | some h =>
    if !supplyMet s h.reqs && t2Ns s < h.since + 15000000 then s
    else
      let s1 := { s with hif := { s.hif with supply := none } }
      match s1.hif.outst.find? fun o => o.seq == h.seq with
      | none => s1
      | some o =>
        let s2 := outstDrop o s1
        match gatekeep h.opcode h.cmd s2 with
        | some r => finishOutst o r s2
        | none => let p := supplyWork h.opcode h.cmd s2; finishOutst o p.2 p.1

/-- GAUGE_CONTROL_PERIOD (R609, R610). -/
def execGaugeControlPeriod (env : GaugeEnv) (s : State) : Res := .next (supplyRelease (gaugePeriod env s))

/-- STREAM_OPEN (R280). -/
def execStreamOpen (c : Cmd) (s : State) : Res := .next (hostCommand 0x0300 (supplied 0x0300 opStreamOpen) c s)

/-- STREAM_MODIFY (R542). -/
def execStreamModify (c : Cmd) (s : State) : Res := .next (hostCommand 0x0301 (supplied 0x0301 opStreamModify) c s)

/-- LAYOUT_COMMIT (R360). -/
def execLayoutCommit (c : Cmd) (s : State) : Res := .next (hostCommand 0x0408 (supplied 0x0408 opLayoutCommit) c s)

/-- OUTPUT_ENABLE (R373). -/
def execOutputEnable (c : Cmd) (s : State) : Res := .next (hostCommand 0x0501 (supplied 0x0501 opOutputEnable) c s)

/-- ENC_ENABLE (R413). -/
def execEncEnable (c : Cmd) (s : State) : Res := .next (hostCommand 0x0601 (supplied 0x0601 opEncEnable) c s)

/-- DOMAIN_SET (R615). -/
def execDomainSet (c : Cmd) (s : State) : Res := .next (hostCommand 0x0006 (supplied 0x0006 opDomainSet) c s)

end Sys2Proof.Machine
end

