-- ==== Sys2Proof/Machine/Commands.lean ====
section
/-! DEFINITION. Taking commands: the round-robin choice of the rings and the maintenance port (R532), the opcodes of Table 13-11, and the
two sides of the maintenance port (R556 to R558). -/

namespace Sys2Proof.Machine

/-! ### The opcodes (Table 13-11) -/

/-- The work of a command by its opcode; an unlisted one never reaches its work (R540). -/
def opWork (op : Nat) : Cmd → State → State × Reply :=
  match op with
  | 0x0000 => opNop
  | 0x0001 => opDeviceStatus
  | 0x0002 => opEventMaskSet
  | 0x0003 => opPf1LimitsSet
  | 0x0004 => opModeSet
  | 0x0005 => opPowerState
  | 0x0006 => supplied 0x0006 opDomainSet
  | 0x0007 => opSelftest
  | 0x0008 => opLaneLoop
  | 0x0009 => opLaneRecal
  | 0x000A => opAuxioClaim
  | 0x000B => opAuxioRelease
  | 0x0200 => opNetPortSet
  | 0x0201 => opNetFilterSet
  | 0x0202 => opFlowSet
  | 0x0203 => opFlowClear
  | 0x0204 => opPktinClassSet
  | 0x0205 => opBbQuadSet
  | 0x0206 => opBbDpcdLoad
  | 0x0207 => opBbEnable
  | 0x0208 => opBbDisable
  | 0x0300 => supplied 0x0300 opStreamOpen
  | 0x0301 => supplied 0x0301 opStreamModify
  | 0x0302 => opStreamClose
  | 0x0303 => opStreamAnchor
  | 0x0304 => opWatchSet
  | 0x0305 => opCoreRetire
  | 0x0306 => opCoreReturn
  | 0x0307 => opStreamStatus
  | 0x0400 => opLedgerWrite
  | 0x0401 => opLedgerCommit
  | 0x0402 => opCanvasSet
  | 0x0403 => opLayerSet
  | 0x0404 => opBankParamSet
  | 0x0405 => opCoefLoad
  | 0x0406 => opXferLoad
  | 0x0407 => opStillLoad
  | 0x0408 => supplied 0x0408 opLayoutCommit
  | 0x0409 => opLayoutCancel
  | 0x0500 => opOutputSet
  | 0x0501 => supplied 0x0501 opOutputEnable
  | 0x0502 => opOutputDisable
  | 0x0503 => opOutputView
  | 0x0504 => opOutputFaultClear
  | 0x0505 => opOutputAux
  | 0x0506 => opNightPaceSet
  | 0x0507 => opSwatchSet
  | 0x0508 => opOutputStatus
  | 0x0600 => opEncSet
  | 0x0601 => supplied 0x0601 opEncEnable
  | 0x0602 => opEncDisable
  | 0x0603 => opEncCoefLoad
  | 0x0604 => opEncKeyframe
  | 0x0700 => opPairSet
  | 0x0701 => opPairAccept
  | 0x0702 => opPairKnit
  | 0x0703 => opPairDrill
  | 0x0704 => opPairLeave
  | 0x0705 => opPairStatus
  | 0x0800 => opTouchPanelSet
  | 0x0801 => opTouchEnable
  | 0x0802 => opTouchDisable
  | 0x0803 => opTouchRefSave
  | 0x0804 => opTouchSelftest
  | 0x0805 => opTouchStatus
  | 0x0900 => opGateStage
  | 0x0901 => opGateCommit
  | 0x0A00 => opFwStage
  | 0x0A01 => opCastOn
  | 0x0A02 => opFwIdent
  | _ => opNop

/-! ### The choice of the next command (R532) -/

/-- A place in the service order (0 to 3 PF0's rings, 4 to 7 PF1's, 8 the maintenance port) has a command that can be taken. -/
def placeEligible (s : State) (p : Nat) : Bool :=
  if p < 8 then ringEligible s (p / 4) (p % 4) else s.hif.maintWait.isSome

/-- The place served next: the first eligible one after the place served last. -/
def placeNext (s : State) : Option Nat :=
  ((List.range 9).map fun i => (s.hif.lastServed + 1 + i) % 9).find? (placeEligible s)

/-- The command that a descriptor spells, from a port and ring (Table 13-8). -/
def cmdOf (p : Port) (ring : Nat) (src : MaintSrc) (ws : List W32) (io : CmdIn) : Cmd :=
  { port := p, ring := ring, tag := (wd ws 0).setWidth 16, w := ws.drop 2, record := io.record, src := src, env := io.env }

/-- The words of a descriptor's bytes (R7). -/
def bytesWords (bs : List Byte) : List W32 := (List.range (bs.length / 4)).map fun i => wordAt bs (4 * i)

/-- The opcode of a descriptor. -/
def opcodeOf (ws : List W32) : Nat := fld (wd ws 0) 31 16

/-- The waiting maintenance command is taken. -/
def takeWaiting (s : State) : State :=
  match s.hif.maintWait with
  | none => s
  | some (op, c) => runCommand op (opWork op) c { s with hif := { s.hif with maintWait := none } }

/-- COMMAND_TAKE: the device takes the next eligible command and applies it. The descriptor is what the read of the chosen ring's entry
returns; a read that fails stops the ring (R529). -/
def commandTake (d : Option Descriptor) (s : State) : State :=
  if !(commandsTaken s && deviceFree s) then s
  else match placeNext s with
    | none => s
    | some 8 => takeWaiting s
    | some p =>
      match d with
      | none => ringStop (p / 4) (p % 4) 2 0 s
      | some d =>
        let port : Port := if p < 4 then .pf0 else .pf1
        runCommand (opcodeOf d.words) (opWork (opcodeOf d.words)) (cmdOf port (p % 4) .uart d.words d.io) s

/-- COMMAND_TAKE (R532). -/
def execCommandTake (d : Option Descriptor) (s : State) : Res := .next (commandTake d s)

/-! ### The maintenance port (R556 to R558) -/

/-- The maintenance port takes commands in, also while the module idles or sleeps: such a command waits for Run, as a doorbell does
(R625, log 46). -/
def maintHears (s : State) : Bool := commandsTaken s || (s.pwr.mode == .ready && (s.pwr.state == .idle || s.pwr.state == .sleep))

/-- A maintenance command arrives: BUSY while another is outstanding, else it waits for its turn, which may be at once. -/
def maintArrive (op : Nat) (c : Cmd) (s : State) : State :=
  if !maintHears s then s
  else if maintBusy s then maintBusyReply op c s
  else
    let s1 := { s with hif := { s.hif with maintWait := some (op, c) } }
    if commandsTaken s1 && deviceFree s1 && placeNext s1 == some 8 then takeWaiting s1 else s1

/-- MAINT_UDP_COMMAND: a datagram of 64 bytes to port 7248; one of any other length is discarded. -/
def maintUdp (addr : W32) (port : W16) (payload : List Byte) (io : CmdIn) (s : State) : State :=
  if payload.length != 64 then s
  else
    let ws := bytesWords payload
    maintArrive (opcodeOf ws) (cmdOf .maint 0 (.udp addr port) ws io) s

/-- MAINT_UDP_COMMAND (R556). -/
def execMaintUdpCommand (addr : W32) (port : W16) (payload : List Byte) (c : CmdIn) (s : State) : Res :=
  .next (maintUdp addr port payload c s)

/-- The value of a hexadecimal digit. -/
def hexVal (b : Byte) : Option Nat :=
  let n := b.toNat
  if 48 ≤ n && n ≤ 57 then some (n - 48)
  else if 65 ≤ n && n ≤ 70 then some (n - 55)
  else if 97 ≤ n && n ≤ 102 then some (n - 87)
  else none

/-- The bytes that pairs of hexadecimal digits spell. -/
def hexDecode : List Byte → Option (List Byte)
  | [] => some []
  | a :: b :: r =>
    match hexVal a, hexVal b, hexDecode r with
    | some x, some y, some bs => some (BitVec.ofNat 8 (16 * x + y) :: bs)
    | _, _, _ => none
  | [_] => none

/-- The descriptor of a UART line: "C", a space and 64 bytes in hexadecimal. -/
def uartBytes (line : List Byte) : Option (List Byte) :=
  match line with
  | 0x43 :: 0x20 :: r => if r.length = 128 then hexDecode r else none
  | _ => none

/-- MAINT_UART_LINE: a command line, or a malformed one, which is answered with PARAM_ERROR and OPCODE 0xFFFF. -/
def maintUart (line : List Byte) (io : CmdIn) (s : State) : State :=
  if !maintHears s then s
  else match uartBytes line with
    | some bs => let ws := bytesWords bs; maintArrive (opcodeOf ws) (cmdOf .maint 0 .uart ws io) s
    | none => sendMaint .uart 75 (cplWords 0 1 0 0xFFFF 0 0 0 []) s

/-- MAINT_UART_LINE (R558). -/
def execMaintUartLine (line : List Byte) (c : CmdIn) (s : State) : Res := .next (maintUart line c s)

end Sys2Proof.Machine
end

