-- ==== Sys2Proof/Machine/Tick.lean ====
section
/-! DEFINITION. TIME_BASE_TICK: the time bases advance (R174), and a T0 step within the threshold is absorbed (R215). -/

namespace Sys2Proof.Machine

/-- The step within the threshold that T0 takes in its next tick, in ns. -/
def stepNext (s : State) : Int :=
  match s.tb.t0.ops with
  | .step d false :: _ => d
  | .load _ _ false false d :: _ => d
  | _ => 0

/-- A frame of an output that is not sent after all although its first row has been fetched: nothing of it is judged, sent or audited. -/
def frameDrop215 (x : Output) : Output := { x with cur := none, rows := x.prev, fails := [], audited := true }

/-- A step is absorbed in the blanking of an output's frame in progress, with those that the frame has absorbed before. Where the blanking
falls below the least that R375 allows, the next frame is not sent (R215). -/
def absorbOne (d : Int) (s : State) (o : Nat) : State :=
  let x := outGet s o
  let r := outRec s o
  let n := (flGet s (orGen r)).next
  let sum := x.absorbed + d
  let y := { x with absorbed := sum }
  if (outBlank s r : Int) - sum * 2 ^ 32 < 250000 * 2 ^ 32 && x.skip != some n then
    flSlip (orGen r) 1 false n (n + 1) (outSet o { (if x.cur == some n then frameDrop215 y else y) with skip := some n } s)
  else outSet o y s

/-- A step absorbed in the blanking of the frame in progress of each output that has begun one. -/
def absorbStep (d : Int) (s : State) : State :=
  if d = 0 then s
  else ((s.scan.outs.filter fun x => x.2.en && x.2.cur.isSome).map Prod.fst).foldl (absorbOne d) s

/-- TIME_BASE_TICK: nothing ticks before RESET_N is released, in Off, or in Deep sleep. -/
def timeTick (s : State) : State :=
  if !s.boot.resetN || s.pwr.state == .off || s.pwr.state == .deepSleep then s
  else absorbStep (stepNext s) (tbTickAll s)

/-- TIME_BASE_TICK (R174). -/
def execTimeBaseTick (s : State) : Res := .next (timeTick s)

end Sys2Proof.Machine
end

