-- ==== Sys2Proof/Machine/Dispatch.lean ====
section
/-! DEFINITION. The dispatch: one arm for each constructor of `Instr`, each one call of its meaning. -/

namespace Sys2Proof.Machine

/-- The effect of a command on everything but the queue. -/
def exec (i : Instr) (s : State) : Host.Outcome State Fault Refusal :=
  match i with
  | .nop c => Sys2Proof.Machine.execNop c s
  | .deviceStatus c => Sys2Proof.Machine.execDeviceStatus c s
  | .eventMaskSet c => Sys2Proof.Machine.execEventMaskSet c s
  | .pf1LimitsSet c => Sys2Proof.Machine.execPf1LimitsSet c s
  | .modeSet c => Sys2Proof.Machine.execModeSet c s
  | .powerState c => Sys2Proof.Machine.execPowerState c s
  | .domainSet c => Sys2Proof.Machine.execDomainSet c s
  | .selftest c => Sys2Proof.Machine.execSelftest c s
  | .laneLoop c => Sys2Proof.Machine.execLaneLoop c s
  | .laneRecal c => Sys2Proof.Machine.execLaneRecal c s
  | .auxioClaim c => Sys2Proof.Machine.execAuxioClaim c s
  | .auxioRelease c => Sys2Proof.Machine.execAuxioRelease c s
  | .netPortSet c => Sys2Proof.Machine.execNetPortSet c s
  | .netFilterSet c => Sys2Proof.Machine.execNetFilterSet c s
  | .flowSet c => Sys2Proof.Machine.execFlowSet c s
  | .flowClear c => Sys2Proof.Machine.execFlowClear c s
  | .pktinClassSet c => Sys2Proof.Machine.execPktinClassSet c s
  | .bbQuadSet c => Sys2Proof.Machine.execBbQuadSet c s
  | .bbDpcdLoad c => Sys2Proof.Machine.execBbDpcdLoad c s
  | .bbEnable c => Sys2Proof.Machine.execBbEnable c s
  | .bbDisable c => Sys2Proof.Machine.execBbDisable c s
  | .streamOpen c => Sys2Proof.Machine.execStreamOpen c s
  | .streamModify c => Sys2Proof.Machine.execStreamModify c s
  | .streamClose c => Sys2Proof.Machine.execStreamClose c s
  | .streamAnchor c => Sys2Proof.Machine.execStreamAnchor c s
  | .watchSet c => Sys2Proof.Machine.execWatchSet c s
  | .coreRetire c => Sys2Proof.Machine.execCoreRetire c s
  | .coreReturn c => Sys2Proof.Machine.execCoreReturn c s
  | .streamStatus c => Sys2Proof.Machine.execStreamStatus c s
  | .ledgerWrite c => Sys2Proof.Machine.execLedgerWrite c s
  | .ledgerCommit c => Sys2Proof.Machine.execLedgerCommit c s
  | .canvasSet c => Sys2Proof.Machine.execCanvasSet c s
  | .layerSet c => Sys2Proof.Machine.execLayerSet c s
  | .bankParamSet c => Sys2Proof.Machine.execBankParamSet c s
  | .coefLoad c => Sys2Proof.Machine.execCoefLoad c s
  | .xferLoad c => Sys2Proof.Machine.execXferLoad c s
  | .stillLoad c => Sys2Proof.Machine.execStillLoad c s
  | .layoutCommit c => Sys2Proof.Machine.execLayoutCommit c s
  | .layoutCancel c => Sys2Proof.Machine.execLayoutCancel c s
  | .outputSet c => Sys2Proof.Machine.execOutputSet c s
  | .outputEnable c => Sys2Proof.Machine.execOutputEnable c s
  | .outputDisable c => Sys2Proof.Machine.execOutputDisable c s
  | .outputView c => Sys2Proof.Machine.execOutputView c s
  | .outputFaultClear c => Sys2Proof.Machine.execOutputFaultClear c s
  | .outputAux c => Sys2Proof.Machine.execOutputAux c s
  | .nightPaceSet c => Sys2Proof.Machine.execNightPaceSet c s
  | .swatchSet c => Sys2Proof.Machine.execSwatchSet c s
  | .outputStatus c => Sys2Proof.Machine.execOutputStatus c s
  | .encSet c => Sys2Proof.Machine.execEncSet c s
  | .encEnable c => Sys2Proof.Machine.execEncEnable c s
  | .encDisable c => Sys2Proof.Machine.execEncDisable c s
  | .encCoefLoad c => Sys2Proof.Machine.execEncCoefLoad c s
  | .encKeyframe c => Sys2Proof.Machine.execEncKeyframe c s
  | .pairSet c => Sys2Proof.Machine.execPairSet c s
  | .pairAccept c => Sys2Proof.Machine.execPairAccept c s
  | .pairKnit c => Sys2Proof.Machine.execPairKnit c s
  | .pairDrill c => Sys2Proof.Machine.execPairDrill c s
  | .pairLeave c => Sys2Proof.Machine.execPairLeave c s
  | .pairStatus c => Sys2Proof.Machine.execPairStatus c s
  | .touchPanelSet c => Sys2Proof.Machine.execTouchPanelSet c s
  | .touchEnable c => Sys2Proof.Machine.execTouchEnable c s
  | .touchDisable c => Sys2Proof.Machine.execTouchDisable c s
  | .touchRefSave c => Sys2Proof.Machine.execTouchRefSave c s
  | .touchSelftest c => Sys2Proof.Machine.execTouchSelftest c s
  | .touchStatus c => Sys2Proof.Machine.execTouchStatus c s
  | .gateStage c => Sys2Proof.Machine.execGateStage c s
  | .gateCommit c => Sys2Proof.Machine.execGateCommit c s
  | .fwStage c => Sys2Proof.Machine.execFwStage c s
  | .castOn c => Sys2Proof.Machine.execCastOn c s
  | .fwIdent c => Sys2Proof.Machine.execFwIdent c s
  | .unknownOpcode opcode c => Sys2Proof.Machine.execUnknownOpcode opcode c s
  | .commandTake d => Sys2Proof.Machine.execCommandTake d s
  | .doorbellWrite fn ring v => Sys2Proof.Machine.execDoorbellWrite fn ring v s
  | .ringEnable fn ring a => Sys2Proof.Machine.execRingEnable fn ring a s
  | .ringDisable fn ring a => Sys2Proof.Machine.execRingDisable fn ring a s
  | .irqModerationTimeout fn ring => Sys2Proof.Machine.execIrqModerationTimeout fn ring s
  | .packetOutTake fn ring d => Sys2Proof.Machine.execPacketOutTake fn ring d s
  | .frameTransmit port stamp => Sys2Proof.Machine.execFrameTransmit port stamp s
  | .txqIdRead q a => Sys2Proof.Machine.execTxqIdRead q a s
  | .functionLevelReset fn => Sys2Proof.Machine.execFunctionLevelReset fn s
  | .d3hotEntry fn => Sys2Proof.Machine.execD3hotEntry fn s
  | .hostLinkLoss => Sys2Proof.Machine.execHostLinkLoss s
  | .maintUdpCommand addr port payload c => Sys2Proof.Machine.execMaintUdpCommand addr port payload c s
  | .maintUartLine line c => Sys2Proof.Machine.execMaintUartLine line c s
  | .registerWrite off a => Sys2Proof.Machine.execRegisterWrite off a s
  | .notPermittedWindowClose key => Sys2Proof.Machine.execNotPermittedWindowClose key s
  | .registerReadClear off a => Sys2Proof.Machine.execRegisterReadClear off a s
  | .registerReadLoLatch off a => Sys2Proof.Machine.execRegisterReadLoLatch off a s
  | .tbSnap a => Sys2Proof.Machine.execTbSnap a s
  | .tbIncCommit n a => Sys2Proof.Machine.execTbIncCommit n a s
  | .tbStepCommit n a => Sys2Proof.Machine.execTbStepCommit n a s
  | .tbLoad n a => Sys2Proof.Machine.execTbLoad n a s
  | .tbStepOvr n a => Sys2Proof.Machine.execTbStepOvr n a s
  | .declareLock a => Sys2Proof.Machine.execDeclareLock a s
  | .declareHold a => Sys2Proof.Machine.execDeclareHold a s
  | .declareUnlock a => Sys2Proof.Machine.execDeclareUnlock a s
  | .tb0ErrEstWrite a => Sys2Proof.Machine.execTb0ErrEstWrite a s
  | .flCtlWrite g a => Sys2Proof.Machine.execFlCtlWrite g a s
  | .flParamWrite g p a => Sys2Proof.Machine.execFlParamWrite g p a s
  | .pwcReqGo a => Sys2Proof.Machine.execPwcReqGo a s
  | .gaCtlWrite a => Sys2Proof.Machine.execGaCtlWrite a s
  | .gaVsetWrite a => Sys2Proof.Machine.execGaVsetWrite a s
  | .mcWinEnable n a => Sys2Proof.Machine.execMcWinEnable n a s
  | .mcPortRateWrite p a => Sys2Proof.Machine.execMcPortRateWrite p a s
  | .cvuInit u a => Sys2Proof.Machine.execCvuInit u a s
  | .cvuPolyWrite u a => Sys2Proof.Machine.execCvuPolyWrite u a s
  | .cvuAliveEnable u a => Sys2Proof.Machine.execCvuAliveEnable u a s
  | .cvuFeed u size a => Sys2Proof.Machine.execCvuFeed u size a s
  | .cvuAliveWrite u a => Sys2Proof.Machine.execCvuAliveWrite u a s
  | .cvuAliveTimeout u => Sys2Proof.Machine.execCvuAliveTimeout u s
  | .vcEncConsWrite ch a => Sys2Proof.Machine.execVcEncConsWrite ch a s
  | .timeBaseTick => Sys2Proof.Machine.execTimeBaseTick s
  | .overrideLapse n => Sys2Proof.Machine.execOverrideLapse n s
  | .servoTimeout => Sys2Proof.Machine.execServoTimeout s
  | .holdoverLimitExceeded => Sys2Proof.Machine.execHoldoverLimitExceeded s
  | .ppsInEdge => Sys2Proof.Machine.execPpsInEdge s
  | .pairOffsetMeasure stamp => Sys2Proof.Machine.execPairOffsetMeasure stamp s
  | .anchorExpiry stream => Sys2Proof.Machine.execAnchorExpiry stream s
  | .ethFrameReceive port f => Sys2Proof.Machine.execEthFrameReceive port f s
  | .netLinkChange port up => Sys2Proof.Machine.execNetLinkChange port up s
  | .accessUnitHoldTimeout stream => Sys2Proof.Machine.execAccessUnitHoldTimeout stream s
  | .receptionWindowTimeout stream => Sys2Proof.Machine.execReceptionWindowTimeout stream s
  | .pathLossTimeout stream path => Sys2Proof.Machine.execPathLossTimeout stream path s
  | .ingestStatsInterval port => Sys2Proof.Machine.execIngestStatsInterval port s
  | .bbAuxTransaction input t => Sys2Proof.Machine.execBbAuxTransaction input t s
  | .bbLinkTrained input lanes rate => Sys2Proof.Machine.execBbLinkTrained input lanes rate s
  | .bbLinkLoss loss => Sys2Proof.Machine.execBbLinkLoss loss s
  | .bbFrameArrival input f => Sys2Proof.Machine.execBbFrameArrival input f s
  | .decodeDispatch engine => Sys2Proof.Machine.execDecodeDispatch engine s
  | .blockRowBoundary engine => Sys2Proof.Machine.execBlockRowBoundary engine s
  | .decodePictureDone engine p => Sys2Proof.Machine.execDecodePictureDone engine p s
  | .engineWatchdog trip => Sys2Proof.Machine.execEngineWatchdog trip s
  | .decodeStall stream => Sys2Proof.Machine.execDecodeStall stream s
  | .overrateMeter => Sys2Proof.Machine.execOverrateMeter s
  | .refreshWanted stream => Sys2Proof.Machine.execRefreshWanted stream s
  | .coreSelftestDone engine pass => Sys2Proof.Machine.execCoreSelftestDone engine pass s
  | .streamClosingRelease stream => Sys2Proof.Machine.execStreamClosingRelease stream s
  | .ledgerGenerationCopy => Sys2Proof.Machine.execLedgerGenerationCopy s
  | .canvasCut canvas env => Sys2Proof.Machine.execCanvasCut canvas env s
  | .composeDeadline canvas => Sys2Proof.Machine.execComposeDeadline canvas s
  | .chaseRowDeadline canvas row => Sys2Proof.Machine.execChaseRowDeadline canvas row s
  | .layerUnderrun canvas slot row waited => Sys2Proof.Machine.execLayerUnderrun canvas slot row waited s
  | .frameDisplayStart gen => Sys2Proof.Machine.execFrameDisplayStart gen s
  | .scanRowFetch output row env => Sys2Proof.Machine.execScanRowFetch output row env s
  | .readbackCompare output row seen => Sys2Proof.Machine.execReadbackCompare output row seen s
  | .readbackLockLoss output => Sys2Proof.Machine.execReadbackLockLoss output s
  | .keepaliveSet output => Sys2Proof.Machine.execKeepaliveSet output s
  | .auditEntryWrite output => Sys2Proof.Machine.execAuditEntryWrite output s
  | .vhpdHigh output => Sys2Proof.Machine.execVhpdHigh output s
  | .vhpdIrqPulse output ok => Sys2Proof.Machine.execVhpdIrqPulse output ok s
  | .vhpdLow output => Sys2Proof.Machine.execVhpdLow output s
  | .linkTrainingRetry output => Sys2Proof.Machine.execLinkTrainingRetry output s
  | .sinkEchoPoll output r => Sys2Proof.Machine.execSinkEchoPoll output r s
  | .encFrameStart ch env => Sys2Proof.Machine.execEncFrameStart ch env s
  | .encInputDeadline ch rows => Sys2Proof.Machine.execEncInputDeadline ch rows s
  | .encRecordWrite ch r => Sys2Proof.Machine.execEncRecordWrite ch r s
  | .encUnrecorded ch => Sys2Proof.Machine.execEncUnrecorded ch s
  | .heartbeatSend => Sys2Proof.Machine.execHeartbeatSend s
  | .heartbeatReceive lane h => Sys2Proof.Machine.execHeartbeatReceive lane h s
  | .heartbeatSilence => Sys2Proof.Machine.execHeartbeatSilence s
  | .heartbeatTxWatchdog => Sys2Proof.Machine.execHeartbeatTxWatchdog s
  | .leadInYield => Sys2Proof.Machine.execLeadInYield s
  | .pairPin => Sys2Proof.Machine.execPairPin s
  | .takeover => Sys2Proof.Machine.execTakeover s
  | .corlerFrameReceive lane f => Sys2Proof.Machine.execCorlerFrameReceive lane f s
  | .corlerLinkTraining r => Sys2Proof.Machine.execCorlerLinkTraining r s
  | .digestRecordReceive r => Sys2Proof.Machine.execDigestRecordReceive r s
  | .digestRecordLate output => Sys2Proof.Machine.execDigestRecordLate output s
  | .pairConfig => Sys2Proof.Machine.execPairConfig s
  | .handoverRequest => Sys2Proof.Machine.execHandoverRequest s
  | .handoverSwitch => Sys2Proof.Machine.execHandoverSwitch s
  | .handoverTimeout => Sys2Proof.Machine.execHandoverTimeout s
  | .leaveMessageReceive => Sys2Proof.Machine.execLeaveMessageReceive s
  | .knitPhaseEnd k => Sys2Proof.Machine.execKnitPhaseEnd k s
  | .knitStreamCopy stream k => Sys2Proof.Machine.execKnitStreamCopy stream k s
  | .knitTimeout => Sys2Proof.Machine.execKnitTimeout s
  | .pairAcceptExpiry => Sys2Proof.Machine.execPairAcceptExpiry s
  | .drillSwap => Sys2Proof.Machine.execDrillSwap s
  | .drillReturn => Sys2Proof.Machine.execDrillReturn s
  | .drillResult nothing => Sys2Proof.Machine.execDrillResult nothing s
  | .touchScanStart engine env => Sys2Proof.Machine.execTouchScanStart engine env s
  | .touchScanComplete engine env => Sys2Proof.Machine.execTouchScanComplete engine env s
  | .touchBaselineDone panel => Sys2Proof.Machine.execTouchBaselineDone panel s
  | .gangedScanEntry panel => Sys2Proof.Machine.execGangedScanEntry panel s
  | .touchSelftestDone panel r => Sys2Proof.Machine.execTouchSelftestDone panel r s
  | .powerTransitionEnd env => Sys2Proof.Machine.execPowerTransitionEnd env s
  | .wakePin level => Sys2Proof.Machine.execWakePin level s
  | .hostAccessWake => Sys2Proof.Machine.execHostAccessWake s
  | .domainReady domain => Sys2Proof.Machine.execDomainReady domain s
  | .gaugeControlPeriod env => Sys2Proof.Machine.execGaugeControlPeriod env s
  | .headroomLost => Sys2Proof.Machine.execHeadroomLost s
  | .vrAlert active => Sys2Proof.Machine.execVrAlert active s
  | .thermalCrossing lid junction => Sys2Proof.Machine.execThermalCrossing lid junction s
  | .junctionOverheat => Sys2Proof.Machine.execJunctionOverheat s
  | .thermalTrip junction => Sys2Proof.Machine.execThermalTrip junction s
  | .firmwareWatchdogMiss processor => Sys2Proof.Machine.execFirmwareWatchdogMiss processor s
  | .bindOffEnd => Sys2Proof.Machine.execBindOffEnd s
  | .bankRefresh pc => Sys2Proof.Machine.execBankRefresh pc s
  | .stackTempCrossing temp => Sys2Proof.Machine.execStackTempCrossing temp s
  | .retrainWindow marginLow => Sys2Proof.Machine.execRetrainWindow marginLow s
  | .scrubRead unit r => Sys2Proof.Machine.execScrubRead unit r s
  | .memoryRequest r => Sys2Proof.Machine.execMemoryRequest r s
  | .gateCommitDone => Sys2Proof.Machine.execGateCommitDone s
  | .fabricGrant arrivals => Sys2Proof.Machine.execFabricGrant arrivals s
  | .resetNRelease env => Sys2Proof.Machine.execResetNRelease env s
  | .resetNAssert => Sys2Proof.Machine.execResetNAssert s
  | .bootWatchdogExpiry env => Sys2Proof.Machine.execBootWatchdogExpiry env s
  | .readyReached env => Sys2Proof.Machine.execReadyReached env s
  | .recoveryBegin q => Sys2Proof.Machine.execRecoveryBegin q s
  | .recoveryData q => Sys2Proof.Machine.execRecoveryData q s
  | .recoveryEnd q f flashOk => Sys2Proof.Machine.execRecoveryEnd q f flashOk s
  | .recoveryStatus q => Sys2Proof.Machine.execRecoveryStatus q s
  | .recoveryCard q f flashOk => Sys2Proof.Machine.execRecoveryCard q f flashOk s
  | .recoveryIdentity q => Sys2Proof.Machine.execRecoveryIdentity q s
  | .recoveryUartLoad line f flashOk => Sys2Proof.Machine.execRecoveryUartLoad line f flashOk s
  | .recoveryStatusLine => Sys2Proof.Machine.execRecoveryStatusLine s
  | .auxioPulse timer => Sys2Proof.Machine.execAuxioPulse timer s
  | .laneRecalEnd lane ok => Sys2Proof.Machine.execLaneRecalEnd lane ok s
  | .laneLoopEnd r => Sys2Proof.Machine.execLaneLoopEnd r s
  | .selftestEnd failed => Sys2Proof.Machine.execSelftestEnd failed s
  | .fwStageEnd flashOk => Sys2Proof.Machine.execFwStageEnd flashOk s
  | .loadCopyEnd data => Sys2Proof.Machine.execLoadCopyEnd data s
  | .touchRefSaveEnd flashOk => Sys2Proof.Machine.execTouchRefSaveEnd flashOk s
  | .outputLinkTrainingEnd output t => Sys2Proof.Machine.execOutputLinkTrainingEnd output t s
  | .laneCalibrationEnd failed => Sys2Proof.Machine.execLaneCalibrationEnd failed s
  | .corlerTrainingRetry => Sys2Proof.Machine.execCorlerTrainingRetry s
  | .castOnRestart env => Sys2Proof.Machine.execCastOnRestart env s
  | .maintFrameReceive f => Sys2Proof.Machine.execMaintFrameReceive f s

end Sys2Proof.Machine
end

