-- ==== Sys2Proof/Safety.lean ====
section
/-! DEFINITION. What the block's claims are about: the invariant that every step keeps, what a command may touch, and runs. -/

namespace Sys2Proof.Machine

/-! ### The invariant -/

/-- The increments that a time base may hold (R176, Table 05-1); T2 holds its nominal one, for its increment is read-only. -/
def incIn (n v : Nat) : Bool := if n = 2 then v == 0x200000000 else incOk n v

/-- A time base is sound (R173, R176, R179, R181): its nanoseconds and its load value's stay below a second, its increment and the one that
waits for the tick lie in its range, and so does every load that waits. -/
def TimeBase.Sound (n : Nat) (t : TimeBase) : Prop :=
  t.ns.toNat < 1000000000 ∧ t.loadNs.toNat < 1000000000 ∧ incIn n t.inc.toNat = true ∧
    (∀ v, t.incNext = some v → incIn n v.toNat = true) ∧
    ∀ sec ns f b d, TbOp.load sec ns f b d ∈ t.ops → ns.toNat < 1000000000

/-- The four time bases are sound, and nothing waits to move T2 (R181). -/
def TimeUnit.Sound (u : TimeUnit) : Prop :=
  u.t0.Sound 0 ∧ u.t1.Sound 1 ∧ u.t2.Sound 2 ∧ u.t3.Sound 3 ∧ u.t2.ops = []

/-- The memory windows are lawful (R563, R564): every enabled one lies within the rows of its pseudo-channels and has all of them unless its
order is 3, and no two enabled ones share a device address or a row. -/
def WindowsLawful (ws : Tab MemWindow) : Prop :=
  (∀ n, n < 8 → (tget {} ws n : MemWindow).en = true →
    (tget {} ws n : MemWindow).rowBase + (tget {} ws n : MemWindow).rowCount ≤ 12288 ∧
      ((tget {} ws n : MemWindow).order = 3 ∨ (tget {} ws n : MemWindow).mask = 0xFFFFFFFF)) ∧
  ∀ i j, i < 8 → j < 8 → i ≠ j → (tget {} ws i : MemWindow).en = true → (tget {} ws j : MemWindow).en = true →
    winClash (tget {} ws i) (tget {} ws j) = false

/-- The invariant of the block: the stack's memory is in canonical form, its windows are lawful, the time bases are sound, and no command
bears the sequence number that packet-out completions carry (R533). -/
structure State.Good (s : State) : Prop where
  mem : Memory.wf s.mem.hbm = true
  win : WindowsLawful s.mem.windows
  time : s.tb.Sound
  seq : s.hif.cmdSeq ≠ 0xFFFFFFFF

/-! ### Commands and register writes that are let through -/

/-- The device takes command `c` of opcode `op` now, and none of the refusals that come before the command's own checks stands against it
(R532, R536, R537, R540). -/
abbrev Taken (op : Nat) (c : Cmd) (s : State) : Prop := portReady c s = true ∧ gatekeep op c (takeCmd c s) = none

/-- The block after command `c` of opcode `op`, taken in `s`, has left its work at `u` and answers `r`: its completion, with the sequence
number and the consumer index of its taking (R531, R533). -/
def answer (op : Nat) (c : Cmd) (s : State) (r : Reply) (u : State) : State :=
  finish op c (takeCmd c s).hif.cmdSeq (consOf c (takeCmd c s)) r u

/-- A whole-word write through BAR0 that passes the three checks of R583. -/
abbrev Writes (off : Nat) (a : RegW) (s : State) : Prop :=
  a.path = .bar0 ∧ a.beFull = true ∧ judgeReg a.init off true s = .pass

/-- A whole-word read through BAR0 that passes them. -/
abbrev Reads (off : Nat) (a : RegR) (s : State) : Prop :=
  a.path = .bar0 ∧ a.beFull = true ∧ judgeReg a.init off false s = .pass

/-! ### Runs -/

/-- A state reached by steps that all answer a next state. -/
inductive Reaches : State → State → Prop where
  | refl (s : State) : Reaches s s
  | tail {s t u : State} (h : Reaches s t) (hs : step t = .next u) : Reaches s u

end Sys2Proof.Machine
end

