-- ==== Sys2Proof/Certificates/Slice0/Obligations.lean ====
section
/-! DEFINITION. The statements about the block, for the provers. `u` names a block after its command has been taken. -/

open Sys2Proof Sys2Proof.Machine

/-- For every command `c` and every block, a step of the block with `c` at the front of its queue is the command run on the block with the
queue's rest; a step with an empty queue answers the block as it is (the model's choice, log 1). -/
def Obligations.StepRunsTheFrontCommandOrIdles : Prop :=
  (∀ (c : Instr) (q : List Instr) (s : State), step { s with pending := c :: q } = exec c { s with pending := q }) ∧
  (∀ s : State, s.pending = [] → step s = .next s)

/-- Every command answers a next state in every block: what the manual refuses, it answers with a status, an event or a dropped access, and
the block goes on. -/
def Obligations.EveryCommandAnswersANextState : Prop := ∀ (c : Instr) (s : State), ∃ t, exec c s = .next t

/-- After reset the queue and the record of what was sent are empty (the model's own fields, log 1 and log 5); no command has a sequence
number; every ring is disabled with a LOG2 of 6 and indices 0; the four increments are 2.0 ns and T0 is UNSET; only T2 counts as set;
the event masks, the limits of the time bases, the holdover and servo times, and the check-value units stand at their tables' reset
values; the module is in cast-on, in Run, with all fifteen domains on and none isolated. -/
def Obligations.ResetHoldsTheTabledValues : Prop :=
  State.reset.pending = [] ∧ State.reset.outbox = [] ∧ State.reset.hif.cmdSeq = 0 ∧ State.reset.hif.outst = [] ∧
  (∀ fn r, (ringGet State.reset fn r).en = false ∧ (ringGet State.reset fn r).log2 = 6 ∧ (ringGet State.reset fn r).prod = 0 ∧
    (ringGet State.reset fn r).cons = 0 ∧ (ringGet State.reset fn r).stopped = false ∧ (ringGet State.reset fn r).discards = 0) ∧
  (∀ n, (tbGet State.reset.tb n).inc = 0x200000000 ∧ (tbGet State.reset.tb n).thr = 1000 ∧ tbNs (tbGet State.reset.tb n) = 0) ∧
  State.reset.tb.state = .unset ∧ State.reset.tb.t2.set = true ∧ State.reset.tb.t0.set = false ∧ State.reset.tb.t1.set = false ∧ State.reset.tb.t3.set = false ∧
  State.reset.tb.holdLimit = 1000 ∧ State.reset.tb.servoTmo = 2000 ∧ State.reset.tb.refStab = 100 ∧ State.reset.tb.pairLimit = 2000 ∧
  State.reset.hif.mask0 = [0xFFFFFFFF, 0xFFFFFFFF, 0xFFFFFFFF, 0xFFFFFFFF] ∧ State.reset.hif.mask2 = [0, 0, 0, 0] ∧
  State.reset.hif.mask1 = [0xFF6E67FE, 0x0FD8F377, 0x00120000, 0] ∧ State.reset.hif.allow1 = State.reset.hif.mask1 ∧
  (∀ u, (cvuGet State.reset u).poly = 0 ∧ cvuRes (cvuGet State.reset u) = 0 ∧ (cvuGet State.reset u).aliveEn = false) ∧
  State.reset.pwr.mode = .castOn ∧ State.reset.pwr.state = .run ∧ State.reset.pwr.domains = 0x7FFF ∧ State.reset.pwr.iso = 0 ∧ State.reset.mem.hbm = []

/-- The invariant of the block (`State.Good`: memory in its canonical form, lawful windows, sound time bases, no packet-out sequence number) holds right after
reset. -/
def Obligations.ResetIsGood : Prop := State.reset.Good

/-- From every block that meets the invariant, whatever command stands at the front of the queue, a step answers a block that meets it:
the memory's list stays sorted without a listed zero, no two enabled windows share a device address or a row, no time base reaches a whole second in its nanoseconds, every increment, also one
that waits for its tick, stays in the range of its base, no load or step waits to move T2, and no command ever bears 0xFFFFFFFF. -/
def Obligations.EveryStepKeepsTheInvariant : Prop := ∀ s t : State, s.Good → step s = .next t → t.Good

/-- Every block that steps reach from one that meets the invariant meets it, and the sequence number that it would give next is neither 0
nor 0xFFFFFFFF (R533). -/
def Obligations.ReachableBlocksGiveLawfulNumbers : Prop :=
  ∀ s t : State, s.Good → Reaches s t → t.Good ∧ nextSeq t.hif.cmdSeq ≠ 0xFFFFFFFF ∧ nextSeq t.hif.cmdSeq ≠ 0

/-- In a block that meets the invariant, a command leaves the queue as it stands, keeps everything already sent in its order and only adds to
it, and never takes an open value twice: the count of those taken does not fall. The three are the model's own fields (logs 1 and 5). -/
def Obligations.CommandsKeepTheQueueAndTheRecord : Prop :=
  ∀ (c : Instr) (s t : State), s.Good → exec c s = .next t → t.pending = s.pending ∧ s.outbox <+: t.outbox ∧ s.free ≤ t.free

/-- Taking a command from any port, whatever it is and whether or not it is accepted, gives it the next value of one counter, which HIF_CMD_SEQ
shows and which reads 0 after reset: one more, but 1 after 0xFFFFFFFE, so never 0 or 0xFFFFFFFF from a lawful number, and 1 for the first. A completion returns its command's number in SEQ. Beside it, taking a command moves only the consumer index of its own ring, by
one, and the place served last: every other ring, and everything outside the host interface, stays. -/
def Obligations.TakingGivesTheNextSequenceNumber : Prop :=
  (∀ (c : Cmd) (s : State), s.hif.cmdSeq ≠ 0xFFFFFFFF →
    (takeCmd c s).hif.cmdSeq = (if s.hif.cmdSeq = 0xFFFFFFFE then 1 else s.hif.cmdSeq + 1) ∧
    (takeCmd c s).hif.cmdSeq ≠ 0 ∧ (takeCmd c s).hif.cmdSeq ≠ 0xFFFFFFFF) ∧
  (∀ (c : Cmd) (s : State), c.port ≠ .maint →
    (ringGet (takeCmd c s) (portFn c.port) c.ring).cons = (ringGet s (portFn c.port) c.ring).cons + 1 ∧
    (ringGet (takeCmd c s) (portFn c.port) c.ring).prod = (ringGet s (portFn c.port) c.ring).prod) ∧
  (∀ (c : Cmd) (s : State) (fn r : Nat), fn < 2 → (c.port = .maint ∨ fn ≠ portFn c.port ∨ r ≠ c.ring) →
    ringGet (takeCmd c s) fn r = ringGet s fn r) ∧
  (∀ (init : Nat) (s : State), regPeek 0x3800 init s = some s.hif.cmdSeq) ∧ regPeek 0x3800 0 State.reset = some 0 ∧
  (∀ (tag : W16) (st ring op : Nat) (seq cons det : W32) (res : List W32), wd (cplWords tag st ring op seq cons det res) 2 = seq) ∧
  (∀ (c : Cmd) (s : State), ∃ h, takeCmd c s = { s with hif := h } ∧ h.outst = s.hif.outst ∧ h.windows = s.hif.windows ∧
    h.mask0 = s.hif.mask0 ∧ h.mask1 = s.hif.mask1 ∧ h.mask2 = s.hif.mask2 ∧ h.allow1 = s.hif.allow1 ∧ h.pf1 = s.hif.pf1 ∧
    h.fn0.msix = s.hif.fn0.msix ∧ h.fn1.msix = s.hif.fn1.msix ∧ h.pendLo = s.hif.pendLo ∧ h.shadow = s.hif.shadow ∧
    h.scratch = s.hif.scratch ∧ h.cvu = s.hif.cvu ∧ h.maintWait = s.hif.maintWait)

/-- Where the completion ring of a function's command has room and signals nothing, the answer of the command, a success or a refusal other than NOT_PERMITTED, is one descriptor written
at that ring's producer index: TAG, STATUS, RING and OPCODE, the command's sequence number, the consumer index after it, DETAIL and the ten result
words at their places, with the phase bit of that index; the index advances by one, and beside that ring and the record of what was sent
nothing changes. -/
def Obligations.CompletionIsOneDescriptorWithItsFields : Prop :=
  ∀ (op : Nat) (c : Cmd) (s u : State) (q : Nat) (x : Ring) (res : List W32) (r : Reply) (st : Nat) (det : W32),
    ((r = .ok res ∧ st = 0 ∧ det = 0) ∨ (r = .no st det ∧ res = [] ∧ st < 256 ∧ st ≠ 2)) → c.port ≠ .maint → c.ring < 16 → op < 65536 → res.length ≤ 10 → q = cplRing u (portFn c.port) c.ring →
    x = ringGet u (portFn c.port) q → ringRoom x 1 = true → x.irqEn = false →
    ∃ ws, (answer op c s r u).outbox = u.outbox ++ [.desc (portFn c.port) q x.prod (slotAddr x x.prod) ws] ∧
      fld (wd ws 0) 31 16 = c.tag.toNat ∧ fld (wd ws 0) 15 8 = st ∧ fld (wd ws 0) 7 4 = c.ring ∧
      fld (wd ws 0) 0 0 = phaseBit x x.prod ∧ fld (wd ws 1) 31 16 = op ∧ wd ws 2 = (takeCmd c s).hif.cmdSeq ∧
      wd ws 3 = consOf c (takeCmd c s) ∧ wd ws 4 = det ∧ (∀ i, i < 10 → wd ws (6 + i) = wd res i) ∧
      (ringGet (answer op c s r u) (portFn c.port) q).prod = x.prod + 1 ∧
      (∀ fn k, fn < 2 → (fn ≠ portFn c.port ∨ k ≠ q) → ringGet (answer op c s r u) fn k = ringGet u fn k) ∧
      (∃ f0 f1 ob, answer op c s r u = { u with outbox := ob, hif := { u.hif with fn0 := f0, fn1 := f1 } } ∧
        f0.msix = u.hif.fn0.msix ∧ f1.msix = u.hif.fn1.msix ∧ f0.pba = u.hif.fn0.pba ∧ f1.pba = u.hif.fn1.pba)

/-- A command that its port can have taken, whatever its row does: an unlisted opcode is answered with BAD_OPCODE (9); a port without the right
with NOT_PERMITTED (2), beside which NOT_PERMITTED of kind 1 is raised; during cast-on every command but NOP, DEVICE_STATUS and FW_IDENT,
and during a transition every command but NOP, DEVICE_STATUS and POWER_STATE, with WRONG_MODE (6); a parameter record that could not be
read with DMA_ERROR (10). None of its work is done. UNKNOWN_OPCODE is the row of the first. -/
def Obligations.GatekeptCommandsDoNothing : Prop :=
  (∀ (op : Nat) (c : Cmd) (s : State), portReady c s = true → opPorts (op % 65536) = none →
    exec (.unknownOpcode op c) s = .next (answer (op % 65536) c s (.no 9 0) (takeCmd c s))) ∧
  (∀ (op : Nat) (work : Cmd → State → State × Reply) (c : Cmd) (s : State) (a b m : Bool), portReady c s = true →
    opPorts op = some (a, b, m) →
    ((match c.port with | .pf0 => a | .pf1 => b | .maint => m) = false →
      hostCommand op work c s = notPermitted (portInit c.port) 1 op (takeCmd c s).hif.cmdSeq c.tag.toNat
        (complete { port := c.port, ring := c.ring, opcode := op, tag := c.tag, seq := (takeCmd c s).hif.cmdSeq,
                    cons := consOf c (takeCmd c s), target := 0, src := c.src } 2 0 [] (takeCmd c s))) ∧
    ((match c.port with | .pf0 => a | .pf1 => b | .maint => m) = true →
      ((s.pwr.mode = .castOn ∧ op ∉ [0x0000, 0x0001, 0x0A02]) ∨ (s.pwr.trans.isSome = true ∧ op ∉ [0x0000, 0x0001, 0x0005]) →
        hostCommand op work c s = answer op c s (.no 6 0) (takeCmd c s)) ∧
      (s.pwr.mode ≠ .castOn → s.pwr.trans = none → opHasRecord op = true → c.record = none →
        hostCommand op work c s = answer op c s (.no 10 0) (takeCmd c s))))

/-- NOP succeeds and changes nothing. EVENT_MASK_SET of PF0 sets the mask of PF0, PF1's allowance, the maintenance mask or PF1's mask, by its
target 0 to 3; PF1's own, with target 3, sets its mask when it lies within the allowance; the maintenance port's own, with target 2, sets
the maintenance mask and makes its sender the destination. PF1_LIMITS_SET stores PF1's limits. SELFTEST, taken in Maintenance, waits among
the outstanding commands, and SELFTEST_END completes it with the failed tests among those selected. Beside the completion nothing else
changes. -/
def Obligations.GeneralCommandsChangeWhatTheyName : Prop :=
  (∀ (c : Cmd) (s : State), Taken 0x0000 c s → exec (.nop c) s = .next (answer 0x0000 c s (.ok []) (takeCmd c s))) ∧
  (∀ (c : Cmd) (s u : State), u = takeCmd c s → Taken 0x0002 c s →
    (c.port = .pf0 → cw c 2 = 0 → exec (.eventMaskSet c) s = .next (answer 0x0002 c s (.ok []) { u with hif := { u.hif with mask0 := maskWords c } })) ∧
    (c.port = .pf0 → cw c 2 = 1 → exec (.eventMaskSet c) s = .next (answer 0x0002 c s (.ok []) { u with hif := { u.hif with allow1 := maskWords c } })) ∧
    (c.port = .pf0 → cw c 2 = 2 → exec (.eventMaskSet c) s = .next (answer 0x0002 c s (.ok []) { u with hif := { u.hif with mask2 := maskWords c } })) ∧
    (c.port = .pf0 → cw c 2 = 3 → exec (.eventMaskSet c) s = .next (answer 0x0002 c s (.ok []) { u with hif := { u.hif with mask1 := maskWords c } })) ∧
    (c.port = .pf1 → cw c 2 = 3 → maskWithin (maskWords c) s.hif.allow1 = true →
      exec (.eventMaskSet c) s = .next (answer 0x0002 c s (.ok []) { u with hif := { u.hif with mask1 := maskWords c } })) ∧
    (c.port = .maint → cw c 2 = 2 →
      exec (.eventMaskSet c) s = .next (answer 0x0002 c s (.ok []) { u with hif := { u.hif with mask2 := maskWords c, maintDest := some c.src } }))) ∧
  (∀ (c : Cmd) (s u : State), u = takeCmd c s → Taken 0x0003 c s → (cw c 2).toNat < 16 → (cw c 3).toNat < 16 →
    (∀ i, i < 4 → limitBad c i = false) → (cw c 8).toNat ≤ 192 →
    exec (.pf1LimitsSet c) s = .next (answer 0x0003 c s (.ok []) { u with hif := { u.hif with pf1 :=
      { classes := (cw c 2).toNat, regions := (cw c 3).toNat, streams := (cw c 8).toNat,
        budgets := [(0, fld (cw c 4) 15 0, fld (cw c 4) 31 16), (1, fld (cw c 5) 15 0, fld (cw c 5) 31 16),
                    (2, fld (cw c 6) 15 0, fld (cw c 6) 31 16), (3, fld (cw c 7) 15 0, fld (cw c 7) 31 16)] } } })) ∧
  (∀ (c : Cmd) (s : State), Taken 0x0007 c s → s.pwr.mode = .maintenance →
    exec (.selftest c) s = .next (answer 0x0007 c s (.later (cw c 2).toNat []) (takeCmd c s))) ∧
  (∀ (failed : W32) (s : State) (o : Outst), outstOf 0x0007 s = some o →
    exec (.selftestEnd failed) s = .next (completeOutst o 0 0 [failed &&& w32 o.target] s))

/-- Where the device takes commands and is free, the place served next is the first eligible one after the place served last, in the order PF0
rings 0 to 3, PF1 rings 0 to 3, maintenance port. COMMAND_TAKE then runs the command that the descriptor read from that ring spells, by its
opcode, from that port and ring; at the maintenance port it runs the command that waits there; a ring whose descriptor could not be read
stops with CAUSE 2; with no eligible place nothing changes. -/
def Obligations.CommandTakeServesRoundRobin : Prop :=
  (∀ (s : State) (p : Nat), placeNext s = some p → ∃ i, i < 9 ∧ p = (s.hif.lastServed + 1 + i) % 9 ∧ placeEligible s p = true ∧
    ∀ j, j < i → placeEligible s ((s.hif.lastServed + 1 + j) % 9) = false) ∧
  (∀ (d : Descriptor) (s : State) (p : Nat), commandsTaken s = true → deviceFree s = true → placeNext s = some p → p < 8 →
    exec (.commandTake (some d)) s = .next (runCommand (opcodeOf d.words) (opWork (opcodeOf d.words))
      (cmdOf (if p < 4 then .pf0 else .pf1) (p % 4) .uart d.words d.io) s)) ∧
  (∀ (d : Option Descriptor) (s : State) (op : Nat) (c : Cmd), commandsTaken s = true → deviceFree s = true → placeNext s = some 8 →
    s.hif.maintWait = some (op, c) →
    exec (.commandTake d) s = .next (runCommand op (opWork op) c { s with hif := { s.hif with maintWait := none } })) ∧
  (∀ (s : State) (p : Nat), commandsTaken s = true → deviceFree s = true → placeNext s = some p → p < 8 →
    exec (.commandTake none) s = .next (ringStop (p / 4) (p % 4) 2 0 s)) ∧
  (∀ (d : Option Descriptor) (s : State), placeNext s = none → exec (.commandTake d) s = .next s) ∧
  (∀ (c : Cmd) (s : State), portReady c s = true → exec (.outputDisable c) s = .next (runCommand 0x0502 (opWork 0x0502) c s))

/-- A doorbell value v of an enabled ring that is not stopped: on a host-produced ring it becomes PROD when (v - CONS) mod 2^32 and (v - PROD) mod
2^32 are at most 2^LOG2; on a device-produced ring it becomes CONS when (v - CONS) mod 2^32 is at most (PROD - CONS) mod 2^32; nothing else
changes. A value that fails its check stops the ring with CAUSE 1 and raises RING_ERROR. The doorbell of a disabled ring, of a stopped one, and of a
ring that the function does not have changes nothing. -/
def Obligations.DoorbellMovesTheIndexOrStopsTheRing : Prop :=
  (∀ (fn r : Nat) (v : W32) (s : State) (x : Ring), fn < 2 → ringExists fn r = true → x = ringGet s fn r → x.en = true → x.stopped = false →
    (hostProduced r = true → (v - x.cons).toNat ≤ 2 ^ x.log2 → (v - x.prod).toNat ≤ 2 ^ x.log2 →
      exec (.doorbellWrite fn r v) s = .next (ringSet s fn r { x with prod := v })) ∧
    (hostProduced r = true → (2 ^ x.log2 < (v - x.cons).toNat ∨ 2 ^ x.log2 < (v - x.prod).toNat) →
      exec (.doorbellWrite fn r v) s = .next (raise 0x42 [pack [(31, 31, fn), (27, 24, r), (23, 20, 1)], v, x.prod, x.cons]
        (ringSet s fn r { x with stopped := true, cause := 1 }))) ∧
    (hostProduced r = false → (v - x.cons).toNat ≤ (x.prod - x.cons).toNat →
      exec (.doorbellWrite fn r v) s = .next (ringSet s fn r { x with cons := v })) ∧
    (hostProduced r = false → (x.prod - x.cons).toNat < (v - x.cons).toNat →
      exec (.doorbellWrite fn r v) s = .next (raise 0x42 [pack [(31, 31, fn), (27, 24, r), (23, 20, 1)], v, x.prod, x.cons]
        (ringSet s fn r { x with stopped := true, cause := 1 })))) ∧
  (∀ (fn r : Nat) (v : W32) (s : State), fn < 2 →
    (ringExists fn r = false ∨ (ringGet s fn r).en = false ∨ (ringGet s fn r).stopped = true) →
    exec (.doorbellWrite fn r v) s = .next s)

/-- A passing write of CTL with EN 1 to a disabled ring stores its fields and sets PROD and CONS to 0 and clears STOPPED and CAUSE; with a LOG2 outside 6
to 16 the ring then stops with CAUSE 3, EN 1, and RING_ERROR is raised. A write made while EN is 1 changes EN, VECTOR and IRQ_EN only,
also the one that clears EN; RING_ENABLE and RING_DISABLE are the two directions of that one register. A write with EN 0 to a disabled ring
stores its fields, whatever its LOG2. -/
def Obligations.RingControlStartsAndStopsRings : Prop :=
  (∀ (fn r : Nat) (a : RegW) (s : State) (x z : Ring), fn < 2 → ringExists fn r = true → Writes (ringOff fn r + 8) a s →
    x = ringGet s fn r → x.en = false → bitOf a.val 31 = true →
    z = { x with en := true, log2 := fld a.val 28 24, slot := fld a.val 23 22, cpl := fld a.val 19 18, vector := fld a.val 13 8,
                 irqEn := bitOf a.val 7, prod := 0, cons := 0, stopped := false, cause := 0, unsignalled := 0 } →
    (6 ≤ fld a.val 28 24 → fld a.val 28 24 ≤ 16 → exec (.ringEnable fn r a) s = .next (ringSet s fn r z)) ∧
    ((fld a.val 28 24 < 6 ∨ 16 < fld a.val 28 24) →
      exec (.ringEnable fn r a) s = .next (raise 0x42 [pack [(31, 31, fn), (27, 24, r), (23, 20, 3)], 0, 0, 0]
        (ringSet (ringSet s fn r z) fn r { z with stopped := true, cause := 3 })))) ∧
  (∀ (fn r : Nat) (a : RegW) (s : State) (x : Ring), fn < 2 → ringExists fn r = true → Writes (ringOff fn r + 8) a s →
    x = ringGet s fn r →
    (x.en = true →
      exec (.ringDisable fn r a) s = .next (ringSet s fn r { x with en := bitOf a.val 31, vector := fld a.val 13 8, irqEn := bitOf a.val 7 })) ∧
    exec (.ringEnable fn r a) s = exec (.ringDisable fn r a) s ∧
    (x.en = false → bitOf a.val 31 = false →
      exec (.ringDisable fn r a) s = .next (ringSet s fn r
        { x with log2 := fld a.val 28 24, slot := fld a.val 23 22, cpl := fld a.val 19 18, vector := fld a.val 13 8,
                 irqEn := bitOf a.val 7 })))

/-- IRQ_MODERATION_TIMEOUT, once MOD_TIME has passed since the first unsignalled entry of a signalling ring, signals its vector and counts anew.
PACKET_OUT_TAKE of an eligible ring consumes one descriptor: a lawful frame waits for its port, with its timestamp request, and is completed when CPL_ALWAYS
asks for it; PF1's request of a timestamp, a bad length or port, and a failed read are completed with NOT_PERMITTED, PARAM_ERROR and
DMA_ERROR, and no frame waits; a descriptor that could not be read stops its ring with CAUSE 2. FRAME_TRANSMIT of an enabled port with a link sends, with its FCS, the first waiting
frame of the ring whose turn it is and queues its stamp when one was asked for; a port disabled or without a link sends nothing (the model's choice, log 63).
TXQ_ID_READ through BAR0 answers the head entry, latches its words and removes it, and of an empty queue answers VALID 0. -/
def Obligations.PacketsOutAndStampsInOrder : Prop :=
  (∀ (fn r : Nat) (s : State) (x : Ring), fn < 2 → x = ringGet s fn r → deviceProduced fn r = true → x.irqEn = true → x.unsignalled ≠ 0 →
    x.firstAt + x.modTime * 1000 ≤ t2Ns s →
    exec (.irqModerationTimeout fn r) s = .next (signalVector fn x.vector (ringSet s fn r { x with unsignalled := 0 }))) ∧
  (∀ (fn ring : Nat) (d : PacketOut) (s s1 : State) (x : Ring) (w0 w1 : W32) (done : Nat → Nat → State), fn < 2 → ring < 2 → pktoutEligible s fn (10 + ring) = true →
    x = ringGet s fn (10 + ring) → s1 = ringSet s fn (10 + ring) { x with cons := x.cons + 1 } → w0 = wd d.words 0 → w1 = wd d.words 1 →
    (∀ st det, done st det = ringWrite fn (cplRing s1 fn (10 + ring))
      (cplWords (BitVec.ofNat 16 (fld w0 31 16)) st (10 + ring) 0xFFFE 0xFFFFFFFF (x.cons + 1) (w32 det) []) false s1) →
    (∀ f, d.frame = some f → (fn = 0 ∨ bitOf w0 12 = false) → 60 ≤ fld w1 15 0 → fld w1 15 0 ≤ 9596 → (netGet s (fld w0 15 13)).en = true →
      ∃ t, exec (.packetOutTake fn ring (some d)) s = .next t ∧
        t.net = { s.net with tx := s.net.tx ++ [TxFrame.mk (fld w0 15 13) (2 * fn + ring) (f.take (fld w1 15 0))
          (if bitOf w0 12 then some (fld w0 11 10, BitVec.ofNat 16 (fld w1 31 16)) else none)] } ∧
        t = withNet (if bitOf w0 9 then done 0 0 else s1) t.net) ∧
    (fn = 1 → bitOf w0 12 = true → exec (.packetOutTake fn ring (some d)) s = .next (notPermitted 1 3 0 0 (fld w0 31 16) (done 2 0))) ∧
    ((fn = 0 ∨ bitOf w0 12 = false) → (netGet s (fld w0 15 13)).en = false →
      exec (.packetOutTake fn ring (some d)) s = .next (done 1 0)) ∧
    ((fn = 0 ∨ bitOf w0 12 = false) → (netGet s (fld w0 15 13)).en = true → (fld w1 15 0 < 60 ∨ 9596 < fld w1 15 0) →
      exec (.packetOutTake fn ring (some d)) s = .next (done 1 4)) ∧
    (d.frame = none → (fn = 0 ∨ bitOf w0 12 = false) → 60 ≤ fld w1 15 0 → fld w1 15 0 ≤ 9596 → (netGet s (fld w0 15 13)).en = true →
      exec (.packetOutTake fn ring (some d)) s = .next (done 10 0))) ∧
  (∀ (fn ring : Nat) (s : State), fn < 2 → ring < 2 → pktoutEligible s fn (10 + ring) = true →
    exec (.packetOutTake fn ring none) s = .next (ringStop fn (10 + ring) 2 0 s)) ∧
  (∀ (fn ring : Nat) (d : Option PacketOut) (s : State), fn < 2 → ring < 2 → pktoutEligible s fn (10 + ring) = false →
    exec (.packetOutTake fn ring d) s = .next s) ∧
  (∀ (p : Nat) (st : StampNs) (s : State), p < 8 → ((netGet s p).en = false ∨ (netGet s p).up = false) → exec (.frameTransmit p st) s = .next s) ∧
  (∀ (p r : Nat) (st : StampNs) (s s1 : State) (f : TxFrame), p < 8 → (netGet s p).en = true → (netGet s p).up = true → txNextRing s p = some r →
    (s.net.tx.find? fun t => t.port == p && t.ring == r) = some f →
    s1 = send (.ethSend p (withFcs f.frame)) { s with net := { s.net with tx := s.net.tx.erase f }, hif := { s.hif with txLast := tset p r s.hif.txLast } } →
    (f.ts = none → exec (.frameTransmit p st) s = .next s1) ∧
    (∀ base ident ns, f.ts = some (base, ident) → ns = tbNs (tbGet s.tb base) + st.ns →
      exec (.frameTransmit p st) s = .next (txqPush p
        { ident := ident, tbase := base, nsq := w32 (ns % 1000000000 * 4 + st.qns % 4), sec := ns / 1000000000 } s1))) ∧
  (∀ (q : Nat) (a : RegR) (s : State), q < 9 → Reads (0x2800 + 0x20 * q) a s →
    ((txqGet s q).q = [] → ∃ v, bitOf v 31 = false ∧
      exec (.txqIdRead q a) s = .next (send (.readData a.init (0x2800 + 0x20 * q) .bar0 v) s)) ∧
    (∀ e rest, (txqGet s q).q = e :: rest → ∃ v t, exec (.txqIdRead q a) s = .next (send (.readData a.init (0x2800 + 0x20 * q) .bar0 v) t) ∧
      bitOf v 31 = true ∧ fld v 15 0 = e.ident.toNat ∧ (txqGet t q).q = rest ∧ (txqGet t q).nsq = e.nsq ∧
      w64of (txqGet t q).secLo (txqGet t q).secHi = e.sec % 2 ^ 48 ∧ t = txqSet q (txqGet t q) s))

/-- An FLR, a move to D3hot and the loss of the host link disable every ring of the function (of both, on link loss), clear its MSI-X table, and mark the
completions of its outstanding commands as discarded; nothing outside the host interface changes, nothing is sent, and the other function's
rings and table stay. An FLR also forgets the pending low words of its function; link loss shows a link that is down. -/
def Obligations.FunctionResetsTouchOnlyTheHostInterface : Prop :=
  (∀ (fn : Nat) (s : State), fn < 2 → ∃ h k, exec (.functionLevelReset fn) s = .next { s with hif := h } ∧
    exec (.d3hotEntry fn) s = .next { s with hif := k } ∧
    (∀ r, (ringGet { s with hif := h } fn r).en = false ∧ (ringGet { s with hif := k } fn r).en = false) ∧
    (fnGet { s with hif := h } fn).msix = [] ∧ (fnGet { s with hif := k } fn).msix = [] ∧
    fnGet { s with hif := h } (1 - fn) = fnGet s (1 - fn) ∧ fnGet { s with hif := k } (1 - fn) = fnGet s (1 - fn) ∧
    k.pendLo = s.hif.pendLo ∧ (∀ e ∈ h.pendLo, e ∈ s.hif.pendLo ∧ e.1 / 65536 ≠ fn) ∧
    (∀ o ∈ h.outst, portFn o.port = fn → o.port ≠ .maint → o.discarded = true) ∧
    h.link = s.hif.link ∧ h.mask0 = s.hif.mask0 ∧ h.mask1 = s.hif.mask1 ∧ h.cmdSeq = s.hif.cmdSeq ∧ h.windows = s.hif.windows) ∧
  (∀ s : State, ∃ h, exec .hostLinkLoss s = .next { s with hif := h } ∧ h.link = 0 ∧ h.linkUp = false ∧ h.fn0.msix = [] ∧ h.fn1.msix = [] ∧
    (∀ fn r, (ringGet { s with hif := h } fn r).en = false) ∧ h.cmdSeq = s.hif.cmdSeq ∧ h.mask0 = s.hif.mask0 ∧
    (∀ o ∈ h.outst, o.port ≠ .maint → o.discarded = true))

/-- A datagram of 64 bytes is one command: taken at once where the device takes commands and the maintenance port's turn has come, else kept until COMMAND_TAKE;
while another is outstanding it completes at once with BUSY. A datagram of another length is discarded. A line of "C", a space and 128 digits is the same from
the UART; a malformed line is answered with PARAM_ERROR and OPCODE 0xFFFF. ARP requests and ICMP echoes of the module's own address are answered,
another frame is not. -/
def Obligations.MaintenancePortTakesOneCommandAtATime : Prop :=
  (∀ (ip : W32) (p : W16) (bs : List Byte) (io : CmdIn) (s s1 : State) (ws : List W32) (c : Cmd), bs.length = 64 → ws = bytesWords bs →
    c = cmdOf .maint 0 (.udp ip p) ws io → maintHears s = true →
    s1 = { s with hif := { s.hif with maintWait := some (opcodeOf ws, c) } } →
    (maintBusy s = true → exec (.maintUdpCommand ip p bs io) s = .next
      (send (.udp ip p 7248 (wordBytes (padW 16 (cplWords c.tag 13 0 (opcodeOf ws) 0 0 0 [])))) s)) ∧
    (maintBusy s = false → commandsTaken s = true → deviceFree s = true → placeNext s1 = some 8 →
      exec (.maintUdpCommand ip p bs io) s = .next (runCommand (opcodeOf ws) (opWork (opcodeOf ws)) c { s with hif := { s.hif with maintWait := none } })) ∧
    (maintBusy s = false → (commandsTaken s = false ∨ deviceFree s = false ∨ placeNext s1 ≠ some 8) →
      exec (.maintUdpCommand ip p bs io) s = .next s1)) ∧
  (∀ (ip : W32) (p : W16) (bs : List Byte) (io : CmdIn) (s : State), bs.length ≠ 64 → exec (.maintUdpCommand ip p bs io) s = .next s) ∧
  (∀ (line bs : List Byte) (io : CmdIn) (s : State), uartBytes line = some bs → maintHears s = true →
    exec (.maintUartLine line io) s = .next (maintArrive (opcodeOf (bytesWords bs)) (cmdOf .maint 0 .uart (bytesWords bs) io) s)) ∧
  (∀ (line : List Byte) (io : CmdIn) (s : State), uartBytes line = none → maintHears s = true →
    exec (.maintUartLine line io) s = .next (sendMaint .uart 75 (cplWords 0 1 0 0xFFFF 0 0 0 []) s)) ∧
  (∀ (snd : W32) (s : State), maintAnswers s = true →
    exec (.maintFrameReceive (.arp (ownAddr s) snd)) s = .next (send (.arpReply snd) s) ∧
    (∀ pl, exec (.maintFrameReceive (.icmpEcho (ownAddr s) snd pl)) s = .next (send (.icmpReply snd pl) s)) ∧
    exec (.maintFrameReceive .other) s = .next s)

/-- REGISTER_WRITE of a register that no map lists changes nothing. A write through the peek mirror changes nothing. One that fails a check of R583 leaves
the register alone: it is answered by the events of its refusal, in the order right, gate, domain. A whole-word write that passes applies its word;
one with a byte enable clear is refused with PARAM_REFUSED. A write through bit b of an alias acts on a 32-bit register as a BAR0 write of the register's word with
its writable bit b replaced, and is refused on a half of a 64-bit one. A clear-on-read register read through BAR0 answers its word and clears exactly its
clear-on-read fields; through the peek mirror, and with a byte enable clear,
it clears nothing; through an alias it answers its bit and clears it only as a field of its own; a refused read answers 0, or 0x0FF00FF0 of a block that is off;
reading the low word of a 64-bit register latches its high word. -/
def Obligations.RegisterAccessesByPath : Prop :=
  (∀ (off : Nat) (a : RegW) (s : State), regPeek off a.init s = none → exec (.registerWrite off a) s = .next s) ∧
  (∀ (off : Nat) (a : RegW) (s : State), a.path = .peek → exec (.registerWrite off a) s = .next s) ∧
  (∀ (off : Nat) (a : RegW) (s : State), (regPeek off a.init s).isSome = true → a.path ≠ .peek → judgeReg a.init off true s ≠ .pass →
    exec (.registerWrite off a) s = .next (refusedReg (judgeReg a.init off true s) a.init off true s)) ∧
  (∀ (off : Nat) (a : RegW) (s : State), (regPeek off a.init s).isSome = true → Writes off a s →
    exec (.registerWrite off a) s = .next (regApply off a.init a.val s)) ∧
  (∀ (off : Nat) (a : RegW) (s : State), (regPeek off a.init s).isSome = true → a.path ≠ .peek → a.beFull = false → judgeReg a.init off true s = .pass →
    exec (.registerWrite off a) s = .next (paramRefused a.init off a.val s)) ∧
  (∀ (off b : Nat) (a : RegW) (s : State) (cur : W32), regPeek off a.init s = some cur → a.path = .bar1 b → b < 32 → a.beFull = true →
    judgeReg a.init off true s = .pass →
    ((wideLow off = true ∨ wideHigh off = true) → exec (.registerWrite off a) s = .next (paramRefused a.init off a.val s)) ∧
    (wideLow off = false → wideHigh off = false → bitOf (regBits off s).rw b = true →
      ∃ v, exec (.registerWrite off a) s = .next (regApply off a.init v s) ∧ bitOf v b = bitOf a.val 0 ∧
        ∀ k, k < 32 → k ≠ b → bitOf v k = (bitOf cur k && bitOf (regBits off s).rw k))) ∧
  (∀ (off : Nat) (a : RegR) (s : State) (v : W32), regPeek off a.init s = some v → judgeReg a.init off false s = .pass →
    ((a.path = .peek ∨ a.beFull = false) → exec (.registerReadClear off a) s = .next (send (.readData a.init off .peek v) s)) ∧
    (∀ b, a.path = .bar1 b → b < 32 → a.beFull = true → exec (.registerReadClear off a) s =
      .next (send (.readData a.init off (.bar1 b) (if bitOf v b then 1 else 0))
        (if (rcFields off).contains (b, b) then regClear off b s else s))) ∧
    (a.path = .bar0 → a.beFull = true → isTxqId off = false → wideLow off = false → wideHigh off = false →
      exec (.registerReadClear off a) s =
        .next (send (.readData a.init off .bar0 v) ((rcFields off).foldl (fun st f => regClear off f.2 st) s))) ∧
    (a.path = .bar0 → a.beFull = true → isTxqId off = false → wideLow off = true →
      exec (.registerReadLoLatch off a) s = .next (send (.readData a.init off .bar0 v) (latchHigh off a.init s))) ∧
    (a.path = .bar0 → a.beFull = true → isTxqId off = false → wideLow off = false → wideHigh off = true →
      exec (.registerReadLoLatch off a) s = .next (send (.readData a.init off .bar0 ((tfind (wideKey a.init (off - 4)) s.hif.shadow).getD v)) s))) ∧
  (∀ (off : Nat) (a : RegR) (s : State), (regPeek off a.init s).isSome = true → judgeReg a.init off false s ≠ .pass →
    exec (.registerReadClear off a) s = .next (send (.readData a.init off a.path (if judgeReg a.init off false s = .off then 0x0FF00FF0 else 0))
      (refusedReg (judgeReg a.init off false s) a.init off false s))) ∧
  (∀ (off : Nat) (a : RegR) (s : State), regPeek off a.init s = none →
    exec (.registerReadClear off a) s = .next (send (.readData a.init off a.path 0) s))

/-- A merged refusal raises its event at once with a count of 1 and opens a window for its key; within the window a further one of the key raises nothing and is
counted. NOT_PERMITTED_WINDOW_CLOSE, 10 ms of T2 after the opening, ends the window: with a count it writes one summary event that describes the last
refusal and carries the count, without one it writes none; earlier it changes nothing. A closed window is gone, so the next refusal raises its event at once. -/
def Obligations.MergedRefusalsAreCountedOnce : Prop :=
  (∀ (k : WindowKey) (ws : List W32) (s : State), windowFind k s.hif.windows = none →
    ∃ t, raiseMerged k ws s = { raise (windowCode k) (windowWords k ws 1 false) s with hif := t } ∧ windowFind k t.windows =
      some { key := k, openedAt := t2Ns s }) ∧
  (∀ (k : WindowKey) (ws : List W32) (s : State) (x : MergeWin), windowFind k s.hif.windows = some x →
    ∃ l, raiseMerged k ws s = { s with hif := { s.hif with windows := l } } ∧
      windowFind k l = some { x with count := sat32 (x.count + 1), last := ws } ∧
      ∀ k', k' ≠ k → windowFind k' l = windowFind k' s.hif.windows) ∧
  (∀ (k : WindowKey) (s s1 : State) (x : MergeWin), windowFind k s.hif.windows = some x →
    s1 = { s with hif := { s.hif with windows := s.hif.windows.filter fun y => y.key != k } } →
    (t2Ns s < x.openedAt + 10000000 → exec (.notPermittedWindowClose k) s = .next s) ∧
    (x.openedAt + 10000000 ≤ t2Ns s → x.count = 0 → exec (.notPermittedWindowClose k) s = .next s1) ∧
    (x.openedAt + 10000000 ≤ t2Ns s → x.count ≠ 0 →
      exec (.notPermittedWindowClose k) s = .next (raise (windowCode k) (windowWords k x.last x.count true) s1)) ∧
    windowFind k s1.hif.windows = none)

/-- Whatever is written, by whom and through which path, to the increment, the step, the load or the control register of a time base, by its own row or as
a plain register write, every other time base stands as it stood, and all four stand at the values they counted to; each tick advances
each from its own value alone. The increments that each takes are those of Table 05-1, none for T2, which is never stepped or loaded. -/
def Obligations.AWriteToOneTimeBaseChangesNoOther : Prop :=
  (∀ (n m : Nat) (a : RegW) (s t : State), n < 4 → m < 4 → m ≠ n →
    (exec (.tbIncCommit n a) s = .next t ∨ exec (.tbStepCommit n a) s = .next t ∨ exec (.tbLoad n a) s = .next t ∨
      exec (.tbStepOvr n a) s = .next t ∨
      (∃ off, 0x2000 + 0x100 * n ≤ off ∧ off < 0x2100 + 0x100 * n ∧ exec (.registerWrite off a) s = .next t)) →
    tbGet t.tb m = tbGet s.tb m ∧ tbNs (tbGet t.tb n) = tbNs (tbGet s.tb n) ∧ (tbGet t.tb n).frac = (tbGet s.tb n).frac) ∧
  (∀ (m : Nat) (s : State), m < 4 → tbGet (tbTickAll s).tb m = tbTick (tbGet s.tb m)) ∧
  (∀ (a : RegW) (s t : State), exec (.tbStepCommit 2 a) s = .next t ∨ exec (.tbLoad 2 a) s = .next t → t.tb.t2.ops = s.tb.t2.ops ∧ t.tb.t2.inc = s.tb.t2.inc) ∧
  (∀ v, (incOk 0 v = true ↔ 0x1FFF2E48F ≤ v ∧ v ≤ 0x2000D1B71) ∧ (incOk 1 v = true ↔ 0x1FF7CED92 ≤ v ∧ v ≤ 0x20083126E) ∧ incOk 2 v = false ∧ incOk 3 v = incOk 0 v)

/-- With no step, load or increment waiting, TIME_BASE_TICK adds to each time base its increment as one 32.32 number of nanoseconds, carrying a
whole second into the seconds, in every block past reset outside Off and Deep sleep; nothing but the time bases moves. -/
def Obligations.ATickAddsTheIncrement : Prop :=
  (∀ (n : Nat) (t : TimeBase), t.Sound n → t.ops = [] → t.incNext = none → t.sec.toNat + 1 < 2 ^ 64 →
    ((tbTick t).sec.toNat * 1000000000 + (tbTick t).ns.toNat) * 2 ^ 32 + (tbTick t).frac.toNat =
      (t.sec.toNat * 1000000000 + t.ns.toNat) * 2 ^ 32 + t.frac.toNat + t.inc.toNat ∧ (tbTick t).inc = t.inc) ∧
  (∀ s : State, s.boot.resetN = true → s.pwr.state ≠ .off → s.pwr.state ≠ .deepSleep → s.tb.t0.ops = [] →
    exec .timeBaseTick s = .next (withTb s { s.tb with t0 := tbTick s.tb.t0, t1 := tbTick s.tb.t1, t2 := tbTick s.tb.t2, t3 := tbTick s.tb.t3 }))

/-- TB_SNAP captures all four time bases and counts the snapshot. A commit of TBn_INC in range waits for the next tick, one out of range, and every one
of T2, sets INC_RANGE and leaves the increment. A step within the threshold waits for its tick; one beyond it is refused with STEP_REFUSED unless
the override is armed, and T0's also with it outside Cast-on, Ready, Knit-up and Maintenance; either way the override is consumed; T2's step is refused and its load does nothing. The first
load of an unset time base waits whatever its size, consuming the override; a load of a set one is judged as the step that it makes. STEP_OVR written by PF0 arms the override, and OVERRIDE_LAPSE ends it 1 s of T2 later, not before.
Writes of TB0_INC_HI and TB0_STEP_HI are servo activity. -/
def Obligations.StepsLoadsAndIncrements : Prop :=
  (∀ (a : RegW) (s : State), Writes 0x2400 a s → bitOf a.val 0 = true → exec (.tbSnap a) s = .next (withTb s
    { s.tb with t0 := tbSnap s.tb.t0, t1 := tbSnap s.tb.t1, t2 := tbSnap s.tb.t2, t3 := tbSnap s.tb.t3, snapSeq := s.tb.snapSeq + 1 })) ∧
  (∀ (n : Nat) (a : RegW) (s s1 : State) (t : TimeBase) (v : Nat), n < 4 → Writes (0x200C + 0x100 * n) a s → t = tbGet s.tb n →
    v = w64of (commitLo a.init (0x2008 + 0x100 * n) (t.inc.setWidth 32) s) a.val → s1 = dropLo a.init (0x2008 + 0x100 * n) s →
    (incOk n v = true → exec (.tbIncCommit n a) s = .next
      (if n = 0 then servoActive (setTb n { t with incNext := some (BitVec.ofNat 64 v) } s1) else setTb n { t with incNext := some (BitVec.ofNat 64 v) } s1)) ∧
    (incOk n v = false → exec (.tbIncCommit n a) s = .next
      (if n = 0 then servoActive (setTb n { t with incRange := true } s1) else setTb n { t with incRange := true } s1)) ∧
    incOk 2 v = false) ∧
  (∀ (n : Nat) (a : RegW) (s s1 : State) (t t1 : TimeBase) (lo : W32) (d : Int), n < 4 → n ≠ 2 → Writes (0x2034 + 0x100 * n) a s → t = tbGet s.tb n →
    lo = commitLo a.init (0x2030 + 0x100 * n) t.stepLo s → d = sext 64 (w64of lo a.val) → t1 = { t with stepLo := lo, stepHi := a.val, ovrArmed := false } →
    s1 = dropLo a.init (0x2030 + 0x100 * n) s →
    (d.natAbs ≤ t.thr.toNat * 1000 → exec (.tbStepCommit n a) s = .next
      (if n = 0 then servoActive (setTb n { t1 with ops := t.ops ++ [.step d false] } s1) else setTb n { t1 with ops := t.ops ++ [.step d false] } s1)) ∧
    (t.thr.toNat * 1000 < d.natAbs → t.ovrArmed = true → (n = 0 → t0MayJump s.pwr.mode = true) → exec (.tbStepCommit n a) s = .next
      (if n = 0 then servoActive (setTb n { t1 with ops := t.ops ++ [.step d true] } s1) else setTb n { t1 with ops := t.ops ++ [.step d true] } s1)) ∧
    (∀ u, t.thr.toNat * 1000 < d.natAbs → (t.ovrArmed = false ∨ (n = 0 ∧ t0MayJump s.pwr.mode = false)) →
      u = raise 0x0B [pack [(31, 24, n), (23, 16, if t.ovrArmed then 2 else 1)], (BitVec.ofInt 64 d).setWidth 32, ((BitVec.ofInt 64 d) >>> 32).setWidth 32]
        (setTb n { t1 with stepRefused := true } s1) → exec (.tbStepCommit n a) s = .next (if n = 0 then servoActive u else u))) ∧
  (∀ (a : RegW) (s s1 : State) (lo : W32), Writes 0x2234 a s → lo = commitLo a.init 0x2230 s.tb.t2.stepLo s → s1 = dropLo a.init 0x2230 s →
    exec (.tbStepCommit 2 a) s = .next (stepRefused 2 3 (sext 64 (w64of lo a.val)) (setTb 2 { s.tb.t2 with stepLo := lo, stepHi := a.val } s1))) ∧
  (∀ (n : Nat) (a : RegW) (s s1 : State) (t : TimeBase), n < 4 → Writes (0x2000 + 0x100 * n) a s →
    t = { tbGet s.tb n with ppsEn := bitOf a.val 4 } → s1 = setTb n t s →
    (bitOf a.val 2 = true → bitOf a.val 3 = false → n ≠ 2 → t.set = false → t.ops = [] →
      exec (.tbLoad n a) s = .next (setTb n { t with ovrArmed := false, ops := [.load (BitVec.ofNat 64 (w64of t.loadLo t.loadHi)) t.loadNs true
        (decide (t.thr.toNat * 1000 < (loadStep t).natAbs)) (loadStep t)] } s1)) ∧
    (bitOf a.val 2 = true → bitOf a.val 3 = false → n ≠ 2 → t.set = true → exec (.tbLoad n a) s = .next
      (judgeStep n (loadStep t) (fun b => .load (BitVec.ofNat 64 (w64of t.loadLo t.loadHi)) t.loadNs false b (loadStep t)) s1)) ∧
    (bitOf a.val 2 = true → bitOf a.val 3 = false → n = 2 → exec (.tbLoad n a) s = .next s1) ∧
    (bitOf a.val 3 = true → bitOf a.val 2 = false → a.init = 0 →
      exec (.tbStepOvr n a) s = .next (setTb n { t with ovrArmed := true, ovrAt := t2Ns s } s1)) ∧
    (bitOf a.val 3 = true → bitOf a.val 2 = false → a.init ≠ 0 → exec (.tbStepOvr n a) s = .next s1)) ∧
  (∀ (n : Nat) (s : State), n < 4 →
    ((tbGet s.tb n).ovrArmed = true → (tbGet s.tb n).ovrAt + 1000000000 ≤ t2Ns s →
      exec (.overrideLapse n) s = .next (setTb n { tbGet s.tb n with ovrArmed := false } s)) ∧
    (((tbGet s.tb n).ovrArmed = false ∨ t2Ns s < (tbGet s.tb n).ovrAt + 1000000000) → exec (.overrideLapse n) s = .next s))

/-- DECLARE_LOCK locks T0 from UNLOCKED or HOLDOVER and is ignored while UNSET; DECLARE_HOLD takes LOCKED alone to HOLDOVER, DECLARE_UNLOCK every set state to
UNLOCKED. SERVO_TIMEOUT takes LOCKED to HOLDOVER once the servo timeout has passed; HOLDOVER_LIMIT_EXCEEDED takes HOLDOVER to UNLOCKED once the
estimated error exceeds the limit; before that neither does anything. A change raises TIME_STATE with both states and moves nothing else but the state,
its entry count, the record of its entries (the model's own field) and, into HOLDOVER, E0 and its moment. A write of TB0_ERR_EST stores the estimate and is servo activity. A PPS edge is captured by the
time bases whose PPS_EN is 1, and counted when there is one. -/
def Obligations.T0StateFollowsItsTable : Prop :=
  (∀ (a : RegW) (s : State), Writes 0x2050 a s →
    (bitOf a.val 5 = false → bitOf a.val 6 = false → bitOf a.val 7 = true → s.tb.state ≠ .unset →
      exec (.declareLock a) s = .next (setT0State .locked 1 (servoActive s))) ∧
    (bitOf a.val 5 = false → bitOf a.val 6 = false → bitOf a.val 7 = true → s.tb.state = .unset →
      exec (.declareLock a) s = .next (servoActive s)) ∧
    (bitOf a.val 5 = false → bitOf a.val 6 = true → s.tb.state = .locked → exec (.declareHold a) s = .next (setT0State .holdover 1 s)) ∧
    (bitOf a.val 5 = false → bitOf a.val 6 = true → s.tb.state ≠ .locked → exec (.declareHold a) s = .next s) ∧
    (bitOf a.val 5 = true → s.tb.state ≠ .unset → exec (.declareUnlock a) s = .next (setT0State .unlocked 1 s)) ∧
    (bitOf a.val 5 = true → s.tb.state = .unset → exec (.declareUnlock a) s = .next s)) ∧
  (∀ s : State, s.tb.state = .locked → s.tb.servoAt + s.tb.servoTmo.toNat * 1000000 ≤ t2Ns s →
    exec .servoTimeout s = .next (setT0State .holdover 2 s)) ∧
  (∀ s : State, (s.tb.state ≠ .locked ∨ t2Ns s < s.tb.servoAt + s.tb.servoTmo.toNat * 1000000) → exec .servoTimeout s = .next s) ∧
  (∀ s : State, s.tb.state = .holdover →
    s.tb.holdLimit.toNat * 1000 < s.tb.e0.toNat + s.tb.refStab.toNat * (t2Ns s - s.tb.holdAt) / 1000000000 →
    exec .holdoverLimitExceeded s = .next (setT0State .unlocked 3 s)) ∧
  (∀ s : State, (s.tb.state ≠ .holdover ∨
      s.tb.e0.toNat + s.tb.refStab.toNat * (t2Ns s - s.tb.holdAt) / 1000000000 ≤ s.tb.holdLimit.toNat * 1000) →
    exec .holdoverLimitExceeded s = .next s) ∧
  (∀ (new : T0State) (cause : Nat) (s : State), s.tb.state ≠ new → ∃ seen e0 at_, setT0State new cause s =
    raise 0x0A [pack [(31, 24, t0Num new), (23, 16, t0Num s.tb.state), (15, 8, cause)],
        (if s.tb.state = .holdover then w32 (sat32 (errNs s)) else s.tb.errEst), s.tb.t0.sec.setWidth 32, s.tb.t0.ns]
      (withTb s { s.tb with state := new, entered := seen, hist := (t0Ns s, new) :: s.tb.hist, e0 := e0, holdAt := at_ }) ∧
    (∀ k, tget 0 seen k = tget 0 s.tb.entered k + (if k = t0Num new then 1 else 0)) ∧ (new = .holdover → e0 = s.tb.errEst ∧ at_ = t2Ns s) ∧ (new ≠ .holdover → e0 = s.tb.e0 ∧ at_ = s.tb.holdAt)) ∧
  (∀ (a : RegW) (s : State), Writes 0x2054 a s →
    exec (.tb0ErrEstWrite a) s = .next (withTb s { s.tb with errEst := a.val, servoAt := t2Ns s })) ∧
  (∀ s : State, exec .ppsInEdge s = .next (withTb s
    { s.tb with t0 := tbPps s.tb.t0, t1 := tbPps s.tb.t1, t2 := tbPps s.tb.t2, t3 := tbPps s.tb.t3,
                ppsSeq := if s.tb.t0.ppsEn || s.tb.t1.ppsEn || s.tb.t2.ppsEn || s.tb.t3.ppsEn then s.tb.ppsSeq + 1 else s.tb.ppsSeq }))

/-- A passing write of FLg_CTL to a disabled generator stores DEN1001, and with EN 1 starts it at the first frame whose display time has not passed when its
rate (24 to 240 Hz), origin and phase are lawful, else raises PARAM_REFUSED and leaves it disabled; an enabled generator takes EN alone. Its number, phase and
origin are written only while it is disabled; in an enabled one the write is refused with PARAM_REFUSED (the model's reading, log 60); the origin's low word held until its high word commits both. -/
def Obligations.FrameLockTakesParametersWhileDisabled : Prop :=
  (∀ (g : Nat) (a : RegW) (s : State) (x y : FrameLock), g < 8 → Writes (0x2C00 + 0x20 * g) a s → x = flGet s g →
    y = { x with den1001 := bitOf a.val 0 } →
    (x.en = true → exec (.flCtlWrite g a) s = .next (flSet g { x with en := bitOf a.val 31 } s)) ∧
    (x.en = false → bitOf a.val 31 = false → exec (.flCtlWrite g a) s = .next (flSet g y s)) ∧
    (x.en = false → bitOf a.val 31 = true → flValid y = true →
      exec (.flCtlWrite g a) s = .next (flSet g { y with en := true, next := firstFrame y (t0Ns s), first := firstFrame y (t0Ns s) } s)) ∧
    (x.en = false → bitOf a.val 31 = true → flValid y = false →
      exec (.flCtlWrite g a) s = .next (raise 0x41 [pack [(31, 27, a.init)], w32 (0x2C00 + 0x20 * g), a.val] (flSet g y s)))) ∧
  (∀ (g : Nat) (p : FlParam) (a : RegW) (s : State), g < 8 → Writes (0x2C00 + 0x20 * g + flParamOff p) a s → (flGet s g).en = true →
    exec (.flParamWrite g p a) s = .next (paramRefused a.init (0x2C00 + 0x20 * g + flParamOff p) a.val s)) ∧
  (∀ x : FrameLock, flValid x = true ↔ 24 * flDen x ≤ x.num.toNat ∧ x.num.toNat ≤ 240 * flDen x ∧ (x.phase.toNat + 1) * x.num.toNat ≤ 1000000000 * flDen x ∧
    (x.den1001 = true → flOrigin x % 1001 = 0)) ∧
  (∀ (x : FrameLock) (t : Nat), x.num ≠ 0 → t ≤ displayTime x (firstFrame x t) ∧ ∀ n, n < firstFrame x t → displayTime x n < t) ∧
  (∀ (g : Nat) (a : RegW) (s : State) (x : FrameLock), g < 8 → x = flGet s g → x.en = false →
    (Writes (0x2C04 + 0x20 * g) a s → exec (.flParamWrite g .num a) s = .next (flSet g { x with num := a.val } s)) ∧
    (Writes (0x2C10 + 0x20 * g) a s → exec (.flParamWrite g .phase a) s = .next (flSet g { x with phase := a.val } s)) ∧
    (Writes (0x2C08 + 0x20 * g) a s → exec (.flParamWrite g .originLo a) s = .next (holdLo a.init (0x2C08 + 0x20 * g) a.val s)) ∧
    (Writes (0x2C0C + 0x20 * g) a s → exec (.flParamWrite g .originHi a) s = .next
      (flSet g { x with originLo := commitLo a.init (0x2C08 + 0x20 * g) x.originLo s, originHi := a.val }
        (dropLo a.init (0x2C08 + 0x20 * g) s))))

/-- A write of CVUu_CTL with INIT, or with a new POLY, initialises the unit under that POLY; ALIVE_EN from 0 to 1 clears the alive reference; with neither, the
accumulator stays. A feed takes its bytes, lowest first, into the accumulator of the unit's CRC and counts them, and every unit but the fed one stays. An alive write is
held while ALIVE_EN is 0, sets the reference when none is held, and else a repeat or a jump sets REPEAT or SKIP and raises CVU_ALARM. CVU_ALIVE_TIMEOUT
sets TMO and raises kind 3 once the timeout has passed, once for each alive write. -/
def Obligations.CheckValueUnitsFollowTheirRules : Prop :=
  (∀ (u : Nat) (a : RegW) (s t : State) (x y : Cvu), u < 4 → Writes (0x7000 + 0x40 * u) a s → x = cvuGet s u →
    y = (if bitOf a.val 8 || fld a.val 1 0 != x.poly then
          { x with poly := fld a.val 1 0, acc := cvuInit (fld a.val 1 0), count := 0, fed := true } else x) →
    t = cvuSet u { y with aliveEn := bitOf a.val 31, aliveSet := if bitOf a.val 31 && !x.aliveEn then false else x.aliveSet } s →
    exec (.cvuInit u a) s = .next t ∧ exec (.cvuPolyWrite u a) s = .next t ∧ exec (.cvuAliveEnable u a) s = .next t) ∧
  (∀ (u : Nat) (z : FeedSize) (a : RegW) (s : State) (x : Cvu) (bs : List Byte), u < 4 → Writes (0x7000 + 0x40 * u + feedOff z) a s → x = cvuGet s u →
    bs = (match z with
      | .feed8 => [a.val.setWidth 8]
      | .feed16 => [a.val.setWidth 8, (a.val >>> 8).setWidth 8]
      | .feed32 => [a.val.setWidth 8, (a.val >>> 8).setWidth 8, (a.val >>> 16).setWidth 8, (a.val >>> 24).setWidth 8]) →
    exec (.cvuFeed u z a) s = .next (cvuSet u { x with acc := bs.foldl (cvuByte x.poly) x.acc, count := x.count + w32 bs.length, fed := true } s)) ∧
  (∀ (u v : Nat) (x : Cvu) (s : State), u ≠ v → cvuGet (cvuSet u x s) v = cvuGet s v ∧ cvuGet (cvuSet u x s) u = x) ∧
  (∀ (u : Nat) (a : RegW) (s : State) (x y : Cvu) (c : W16), u < 4 → Writes (0x701C + 0x40 * u) a s → x = cvuGet s u → c = a.val.setWidth 16 →
    y = { x with alive := c, aliveAt := t2Ns s, expired := false } →
    (x.aliveEn = false → exec (.cvuAliveWrite u a) s = .next (cvuSet u y s)) ∧
    (x.aliveEn = true → x.aliveSet = false → exec (.cvuAliveWrite u a) s = .next (cvuSet u { y with aliveSet := true } s)) ∧
    (x.aliveEn = true → x.aliveSet = true → c = x.alive + 1 → exec (.cvuAliveWrite u a) s = .next (cvuSet u y s)) ∧
    (x.aliveEn = true → x.aliveSet = true → c = x.alive →
      exec (.cvuAliveWrite u a) s = .next (cvuAlarm u 1 a.init x.alive.toNat c.toNat (cvuSet u { y with rep := true } s))) ∧
    (x.aliveEn = true → x.aliveSet = true → c ≠ x.alive → c ≠ x.alive + 1 →
      exec (.cvuAliveWrite u a) s = .next (cvuAlarm u 2 a.init x.alive.toNat c.toNat (cvuSet u { y with skip := true } s)))) ∧
  (∀ (u : Nat) (s : State) (x : Cvu), u < 4 → x = cvuGet s u → x.aliveEn = true → x.aliveSet = true → x.aliveTmo ≠ 0 →
    (x.expired = false → x.aliveTmo ≤ (t2Ns s - x.aliveAt) / 1000000 →
      exec (.cvuAliveTimeout u) s = .next (cvuAlarm u 3 0x1F 0 x.alive.toNat (cvuSet u { x with tmo := true, expired := true } s))) ∧
    ((x.expired = true ∨ (t2Ns s - x.aliveAt) / 1000000 < x.aliveTmo) → exec (.cvuAliveTimeout u) s = .next s))

/-- Under lawful windows, two different device addresses, each in an enabled window and whatever the orders of the two windows are, map to different
physical bytes: pseudo-channel, bank, row, column and byte within the 32 of a column. -/
def Obligations.EnabledWindowsNeverAlias : Prop :=
  ∀ (ws : Tab MemWindow) (i j a b : Nat) (x y : MemWindow), WindowsLawful ws → i < 8 → j < 8 → x = tget {} ws i → y = tget {} ws j →
    x.en = true → y.en = true → winBase x ≤ a → a < winBase x + winSize x → winBase y ≤ b → b < winBase y + winSize y → a ≠ b →
    physOf x a ≠ physOf y b

/-- In a block that meets the invariant and whose memory answers, a write whose units are all mapped and allowed leaves its bytes at their device addresses, ends
without error, and leaves every other device address reading as before, mapped or not; the memory stays in canonical form. A read changes no byte. -/
def Obligations.AStackWriteIsReadBack : Prop :=
  (∀ (init port a : Nat) (bs : List Byte) (s s1 : State), s.Good → memoryOn s = true →
    (∀ i, i < bs.length → ∃ p, unitFate s.mem init ((a + i) / 64 * 64) true = .served p) → bs ≠ [] → s1 = (request init port a bs.length (some bs) s).2.2 →
    (request init port a bs.length (some bs) s).1 = false ∧ Memory.wf s1.mem.hbm = true ∧
    (∀ i, i < bs.length → devByte s1.mem (a + i) = bs.getD i 0) ∧
    (∀ b, (b < a ∨ a + bs.length ≤ b) → devByte s1.mem b = devByte s.mem b)) ∧
  (∀ (init port a n : Nat) (s : State), (request init port a n none s).2.2.mem.hbm = s.mem.hbm)

/-- A lawful request of a port that may issue is answered to its initiator with the data and the error of its units; while the memory is off it is answered by
the off-block pattern with an error and OFF_BLOCK; one that no port would make, and one that a stopped port holds back, changes nothing. A write of a
window's CTL in Cast-on, Ready or Maintenance stores the order while it is disabled, enables it when R564 allows it, and can disable it; every other one
raises PARAM_REFUSED and leaves it. A port rate is stored unless the guaranteed rates would exceed 450 GB/s. -/
def Obligations.RequestsWindowsAndRates : Prop :=
  (∀ (r : MemReq) (s : State), requestOk r = true → memoryOn s = true →
    portStalled (portRefill (portGet s.mem r.port) (t2Ns s)) (r.len / 64) = false →
    ∃ e bs u, exec (.memoryRequest r) s = .next (send (.memReply r.init e bs) u) ∧ u = (request r.init r.port r.addr r.len r.data s).2.2 ∧
      (e = false ↔ ∀ x ∈ unitsOf r.addr r.len, ∃ p, unitFate s.mem r.init x r.data.isSome = .served p) ∧
      (r.data = none → bs = readBytes s.mem r.init r.addr r.len)) ∧
  (∀ (r : MemReq) (s : State), requestOk r = true → memoryOn s = false →
    ∃ bs, exec (.memoryRequest r) s = .next (send (.memReply r.init true bs) (offBlock r.init 13 r.data.isSome true r.addr s)) ∧ bs.length = r.len) ∧
  (∀ (r : MemReq) (s : State), (requestOk r = false ∨ (memoryOn s = true ∧
      portStalled (portRefill (portGet s.mem r.port) (t2Ns s)) (r.len / 64) = true)) → exec (.memoryRequest r) s = .next s) ∧
  (∀ (n : Nat) (a : RegW) (s : State) (x : MemWindow) (put : MemWindow → State), n < 8 → Writes (0x5020 + 0x10 * n) a s → x = winGet s.mem n →
    (∀ y, put y = withMem s { s.mem with windows := tset n y s.mem.windows }) →
    (winMode s.pwr.mode = true → x.en = false → bitOf a.val 31 = false →
      exec (.mcWinEnable n a) s = .next (put { x with order := fld a.val 1 0 })) ∧
    (winMode s.pwr.mode = true → x.en = false → bitOf a.val 31 = true → winMayEnable s.mem n { x with order := fld a.val 1 0, en := true } = true →
      exec (.mcWinEnable n a) s = .next (put { x with order := fld a.val 1 0, en := true })) ∧
    (winMode s.pwr.mode = true → x.en = true → bitOf a.val 31 = false → exec (.mcWinEnable n a) s = .next (put { x with en := false })) ∧
    ((winMode s.pwr.mode = false ∨ (bitOf a.val 31 = true ∧ (x.en = true ∨ winMayEnable s.mem n { x with order := fld a.val 1 0, en := true } = false))) →
      exec (.mcWinEnable n a) s = .next (paramRefused a.init (0x5020 + 0x10 * n) a.val s))) ∧
  (∀ (p : Nat) (a : RegW) (s : State) (m : MemState), p < 24 → Writes (0x5100 + 0x10 * p) a s →
    m = { s.mem with ports := tset p { portRefill (portGet s.mem p) (t2Ns s) with guar := bitOf a.val 31, rate := fld a.val 15 0 } s.mem.ports } →
    (guarSum m ≤ 4500 → exec (.mcPortRateWrite p a) s = .next (withMem s m)) ∧
    (4500 < guarSum m → exec (.mcPortRateWrite p a) s = .next (paramRefused a.init (0x5100 + 0x10 * p) a.val s)))

/-- BANK_REFRESH advances the bank due next of its pseudo-channel while the stack works. STACK_TEMP_CROSSING stores the reading and reports a crossing of 85 C. SCRUB_READ
leaves a clean unit; a corrected one counts, with an event at each 256th; an uncorrected one counts and is reported; the data is never changed.
RETRAIN_WINDOW of a good margin counts a slice of the channel whose turn it is and clears its failures; a low margin is reported, the third in a row being
Safe-hold cause 2. While the stack does not work, refresh, scrub and retraining do nothing. -/
def Obligations.MemoryUpkeepTouchesItsCounters : Prop :=
  (∀ (pc : Nat) (s : State), pc < 32 → s.mem.mcState = 2 → exec (.bankRefresh pc) s = .next (withMem s
    { s.mem with refreshNext := tset pc ((tget 0 s.mem.refreshNext pc + 1) % 64) s.mem.refreshNext })) ∧
  (∀ (temp : W16) (s s1 : State), s1 = withMem s { s.mem with temp := w32 temp.toNat, hot := decide (1360 < temp.toInt) } →
    (decide (1360 < temp.toInt) = s.mem.hot → exec (.stackTempCrossing temp) s = .next s1) ∧
    (decide (1360 < temp.toInt) ≠ s.mem.hot → exec (.stackTempCrossing temp) s = .next (memState 3 0xFF (decide (1360 < temp.toInt)) 0 0 s1))) ∧
  (∀ (a : Nat) (w : MemWindow) (s : State) (pc : Nat) (e : Ecc), winOf s.mem a = some w → bitOf s.mem.scrub 31 = true → s.mem.mcState = 2 →
    pc = pcOf w a → e = eccGet s.mem pc →
    exec (.scrubRead a .clean) s = .next s ∧
    exec (.scrubRead a .corrected) s = .next
      (if (e.total + 1) % 256 = 0 then memState 1 pc false 0 (sat16 (e.corrected + 1))
          (withMem s { s.mem with ecc := tset pc { e with corrected := sat16 (e.corrected + 1), total := e.total + 1 } s.mem.ecc })
        else withMem s { s.mem with ecc := tset pc { e with corrected := sat16 (e.corrected + 1), total := e.total + 1 } s.mem.ecc }) ∧
    exec (.scrubRead a .uncorrected) s = .next (memState 2 pc false a 0
      (withMem s { s.mem with ecc := tset pc { e with uncorrected := sat16 (e.uncorrected + 1) } s.mem.ecc }))) ∧
  (∀ (s : State) (pc : Nat) (m1 : MemState), s.mem.mcState = 2 → pc = s.mem.retrainNext → m1 = { s.mem with retrainNext := (pc + 1) % 32 } →
    (tget 0 m1.retrainFails pc + 1 ≠ 3 → exec (.retrainWindow true) s = .next (memState 5 pc false 0 0
      (withMem s { m1 with retrainFails := tset pc (tget 0 m1.retrainFails pc + 1) m1.retrainFails }))) ∧
    (tget 0 m1.retrainFails pc + 1 = 3 → ∃ u, exec (.retrainWindow true) s = .next (safeHoldCause 2 0xFF u) ∧ u.pwr.memFault = true ∧
      u.mem = { m1 with retrainFails := tset pc 3 m1.retrainFails }) ∧
    (∃ u, exec (.retrainWindow false) s = .next u ∧ u.mem = { m1 with
        retrainFails := tset pc 0 m1.retrainFails, slices := tset pc ((tget 0 m1.slices pc + 1) % 16) m1.slices } ∧
      (s.pwr.memFault = false → u = withMem s u.mem))) ∧
  (∀ s : State, s.mem.mcState ≠ 2 → (∀ pc, exec (.bankRefresh pc) s = .next s) ∧ (∀ a r, exec (.scrubRead a r) s = .next s) ∧
    (∀ b, exec (.retrainWindow b) s = .next s))

/-- GATE_STAGE puts one rule into the shadow set of one gate, which changes no access. GATE_COMMIT, with an epoch new to its gates and none of them pending, makes their shadow sets their
active ones under that epoch, and no other gate's; one of a gate that still holds a commit is RESOURCE_HELD, one with an epoch in force a parameter error; the commit waits, oldest first, until GATE_COMMIT_DONE raises its event. A gate without a rule over an address
allows everything there; with some, only what one of them allows. A register access is refused for its right before its gate, and for its gate before its
domain. -/
def Obligations.GateRulesAreStagedAndCommitted : Prop :=
  (∀ (c : Cmd) (s u : State) (g base limit : Nat) (r : Rule), u = takeCmd c s → Taken 0x0900 c s → g = fld (cw c 2) 4 0 → g < 24 →
    base = w64of (cw c 4) (cw c 5) → limit = w64of (cw c 6) (cw c 7) →
    (g < 8 → base % 64 = 0 ∧ (limit + 1) % 64 = 0 ∧ limit < 2 ^ 35 ∧ base ≤ limit) →
    (8 ≤ g → base % 4 = 0 ∧ base ≤ 0xFFF ∧ (limit + 1) % 4 = 0 ∧ limit ≤ 0xFFF) →
    r = { valid := bitOf (cw c 9) 31, base := base, limit := limit, mask := cw c 8, wr := bitOf (cw c 9) 1, rd := bitOf (cw c 9) 0 } →
    exec (.gateStage c) s = .next (answer 0x0900 c s (.ok []) (gateSet g { gateGet u.mem g with shadow := tset (fld (cw c 3) 5 0) r (gateGet u.mem g).shadow } u))) ∧
  (∀ (c : Cmd) (s u : State), u = takeCmd c s → Taken 0x0901 c s → (∀ g ∈ gatesOf (cw c 2), bitOf (gatesPending s.mem) g = false) →
    (∀ g ∈ gatesOf (cw c 2), (gateGet s.mem g).epoch ≠ cw c 3) →
    ∃ t gates, exec (.gateCommit c) s = .next (answer 0x0901 c s (.ok []) t) ∧
      t = withMem u { u.mem with gates := gates, commits := u.mem.commits ++ [{ gates := cw c 2 &&& 0xFFFFFF, epoch := cw c 3, since := t2Ns u }] } ∧
      (∀ g ∈ gatesOf (cw c 2), (gateGet t.mem g).active = (gateGet s.mem g).shadow ∧ (gateGet t.mem g).epoch = cw c 3 ∧
        (gateGet t.mem g).denied = (gateGet s.mem g).denied ∧ (gateGet t.mem g).shadow = (gateGet s.mem g).shadow) ∧
      ∀ g, g ∉ gatesOf (cw c 2) → gateGet t.mem g = gateGet s.mem g) ∧
  (∀ (c : Cmd) (s u : State), u = takeCmd c s → Taken 0x0901 c s →
    (∀ g, (gatesOf (cw c 2)).find? (fun g => bitOf (gatesPending s.mem) g) = some g → exec (.gateCommit c) s = .next (answer 0x0901 c s (held 0xFF g) u)) ∧
    ((∀ g ∈ gatesOf (cw c 2), bitOf (gatesPending s.mem) g = false) → (∃ g ∈ gatesOf (cw c 2), (gateGet s.mem g).epoch = cw c 3) →
      exec (.gateCommit c) s = .next (answer 0x0901 c s (badField 12) u))) ∧
  (∀ (s : State) (k : GateCommit) (ks : List GateCommit), s.mem.commits = k :: ks →
    exec .gateCommitDone s = .next (raise 0x49 [k.gates, k.epoch, w32 (sat32 (t2Ns s - k.since))]
      (withMem s { s.mem with commits := ks, gtDone := s.mem.gtDone ||| k.gates }))) ∧
  (∀ s : State, s.mem.commits = [] → exec .gateCommitDone s = .next s) ∧
  (∀ (g : Gate) (init a : Nat) (w : Bool), rulesAt g a = [] → gateAllows g init a w = true) ∧
  (∀ (g : Gate) (init a : Nat) (w : Bool), rulesAt g a ≠ [] → (gateAllows g init a w = true ↔
    ∃ r ∈ rulesAt g a, init < 21 ∧ bitOf r.mask init = true ∧ (if w then r.wr else r.rd) = true)) ∧
  (∀ (init off : Nat) (s : State), mayWrite init off = false → judgeReg init off true s = .np) ∧
  (∀ (init off : Nat) (s : State), mayWrite init off = true → init ≠ 4 → gateAllows (gateGet s.mem (8 + off / 0x1000)) init (off % 0x1000) true = false →
    judgeReg init off true s = .gate)

/-- FABRIC_GRANT parks the arrivals while fewer than eight are parked, keeps the rest at their ports, and grants one parked request: no promoted one is passed over for one
that is not, among requests not promoted none of a better rank is, and among equals the one parked first is granted. Each request passed over counts it, and at four it is promoted; a port's waiting request takes the
free place. A locked sequence of more than 16 beats is cut with LOCK_CUT. With nothing parked the fabric has no owner. -/
def Obligations.TheFabricGrantsByRank : Prop :=
  (∀ (l : List FabReq) (r : FabReq), fabChoose l = some r → r ∈ l ∧ (r.promoted = true → l.find? (fun x => x.promoted) = some r) ∧
    (r.promoted = false → (∀ x ∈ l, x.promoted = false ∧ fabricRank r.init ≤ fabricRank x.init) ∧
      l.find? (fun x => fabricRank x.init == fabricRank r.init) = some r)) ∧
  (∀ (m : MemState) (a : FabArrival) (r : FabReq), onFabric a.init = true → (∀ x ∈ m.parked ++ m.atPort, x.init ≠ a.init) →
    r = { init := a.init, addr := a.addr, beats := Nat.max 1 a.beats } →
    (m.parked.length < 8 → fabArrive m a = { m with parked := m.parked ++ [r] }) ∧ (8 ≤ m.parked.length → fabArrive m a = { m with atPort := m.atPort ++ [r] })) ∧
  (∀ (as : List FabArrival) (s : State) (m : MemState), m = as.foldl fabArrive s.mem →
    (m.parked = [] → exec (.fabricGrant as) s = .next (withMem s { m with owner := none })) ∧
    (∀ r, fabChoose m.parked = some r → ∃ rest, rest = (m.parked.filter fun x => x.init != r.init).map fabPassed ∧
      (∀ x ∈ rest, ∃ y ∈ m.parked, x.init = y.init ∧ x.passed = y.passed + 1 ∧ x.promoted = (y.promoted || decide (4 ≤ y.passed + 1))) ∧
      (m.atPort = [] → exec (.fabricGrant as) s = .next (lockCut r (withMem s { m with parked := rest, owner := some r }))) ∧
      (∀ w ws, m.atPort = w :: ws →
        exec (.fabricGrant as) s = .next (lockCut r (withMem s { m with parked := rest ++ [w], atPort := ws, owner := some r }))))) ∧
  (∀ (r : FabReq) (s : State), 16 < r.beats → lockCut r s = raise 0x4C [pack [(31, 27, r.init)], w32 (r.addr + 64)] s) ∧
  (∀ (m : MemState) (a : FabArrival), (fabArrive m a).parked.length ≤ Nat.max 8 m.parked.length)

/-- MODE_SET, in a mode that Table 15-11 lets it leave: 3 to Ready (from Safe hold once its cause is gone, with FAULT_N released), 4 to Solo while T0 is set, 9 to Night, 10 to
Maintenance and 12 to Bind-off, unless a Lead with a fit Follow must hand over first, and 11 to Safe hold with cause 7. A transition that is not listed is answered with
WRONG_MODE, a mode number that MODE_SET does not take with a parameter error, and Solo while T0 is UNSET likewise (the model's reading, log 31); nothing then changes. BIND_OFF_END completes MODE_SET 12
and enters Off once the last frames and records are done, not before, raising MODE_CHANGE with the model's number 0 (log 32). Entering a mode raises MODE_CHANGE with both modes and sets LEAD_OUT to whether the new mode
is Lead. The maintenance port, which may only enter Maintenance and return from it to Ready, is otherwise answered with NOT_PERMITTED. -/
def Obligations.ModeSetFollowsItsTable : Prop :=
  (∀ (c : Cmd) (s u : State) (n : Nat), u = takeCmd c s → Taken 0x0004 c s → n = fld (cw c 2) 3 0 → (c.port ≠ .maint ∨ n = 10 ∨ (n = 3 ∧ s.pwr.mode = .maintenance)) →
    (n = 3 → (s.pwr.mode = .solo ∨ s.pwr.mode = .maintenance) →
      exec (.modeSet c) s = .next (answer 0x0004 c s (.ok []) (setMode .ready 1 0 (portInit c.port) u))) ∧
    (n = 3 → s.pwr.mode = .safeHold → causePersists s = false →
      ∃ t, exec (.modeSet c) s = .next (answer 0x0004 c s (.ok []) t) ∧ t.pwr.mode = .ready ∧ t.pwr.faultN = false ∧
        t.pwr.rising &&& s.pwr.shDomains &&& 0x3C0 &&& ~~~s.pwr.domains = s.pwr.shDomains &&& 0x3C0 &&& ~~~s.pwr.domains) ∧
    (n = 3 → s.pwr.mode = .safeHold → causePersists s = true → exec (.modeSet c) s = .next (answer 0x0004 c s (.no 6 0) u)) ∧
    (n = 4 → (s.pwr.mode = .ready ∨ s.pwr.mode = .night) → s.tb.state ≠ .unset →
      exec (.modeSet c) s = .next (answer 0x0004 c s (.ok []) (setMode .solo 1 0 (portInit c.port) u))) ∧
    (n = 4 → (s.pwr.mode = .ready ∨ s.pwr.mode = .night) → s.tb.state = .unset → exec (.modeSet c) s = .next (answer 0x0004 c s (badField 8) u)) ∧
    (n = 9 → s.pwr.mode = .solo → exec (.modeSet c) s = .next (answer 0x0004 c s (.ok []) (setMode .night 1 0 (portInit c.port) u))) ∧
    (n = 10 → modeFrom 10 s.pwr.mode = true → mustHand s = false →
      exec (.modeSet c) s = .next (answer 0x0004 c s (.ok []) (setMode .maintenance 1 0 (portInit c.port) (pairDrop u)))) ∧
    (n = 10 → modeFrom 10 s.pwr.mode = true → mustHand s = true →
      exec (.modeSet c) s = .next (answer 0x0004 c s (.ok []) (withPair u { u.pair with want := some (.maintenance (portInit c.port)) }))) ∧
    (n = 11 → holdable s.pwr.mode = true → exec (.modeSet c) s = .next (answer 0x0004 c s (.ok []) (safeHoldCause 7 (portInit c.port) u))) ∧
    (n = 12 → modeFrom 12 s.pwr.mode = true → mustHand s = false →
      exec (.modeSet c) s = .next (answer 0x0004 c s (.later 12 []) (setMode .bindOff 1 0 (portInit c.port) (pairDrop u)))) ∧
    (n = 12 → modeFrom 12 s.pwr.mode = true → mustHand s = true →
      exec (.modeSet c) s = .next (answer 0x0004 c s (.later 12 []) (withPair u { u.pair with want := some .bindOff }))) ∧
    ((n = 0 ∨ 12 < n ∨ (5 ≤ n ∧ n ≤ 8)) → exec (.modeSet c) s = .next (answer 0x0004 c s (badField 8) u)) ∧
    ((n = 3 ∨ n = 4 ∨ (9 ≤ n ∧ n ≤ 12)) → modeFrom n s.pwr.mode = false → exec (.modeSet c) s = .next (answer 0x0004 c s (.no 6 0) u))) ∧
  (∀ (c : Cmd) (s : State) (n : Nat), Taken 0x0004 c s → n = fld (cw c 2) 3 0 → c.port = .maint → n ≠ 10 → (n ≠ 3 ∨ s.pwr.mode ≠ .maintenance) →
    exec (.modeSet c) s = .next (answer 0x0004 c s (.no 2 0) (takeCmd c s))) ∧
  (∀ (new : Mode) (cause sh port : Nat) (s u : State), u =
      raise 0x51 [pack [(31, 28, modeNum new), (27, 24, modeNum s.pwr.mode), (23, 16, cause), (15, 8, sh), (7, 0, port)]]
        (withPair (withPwr s { s.pwr with mode := new, auto := s.pwr.auto || s.pwr.mode == .maintenance }) { s.pair with leadOut := new == .lead }) →
    (setMode new cause sh port s).pwr.mode = new ∧ (setMode new cause sh port s).pair.leadOut = (new == .lead) ∧
    u.outbox <+: (setMode new cause sh port s).outbox ∧ (new ≠ .ready → s.pwr.mode ≠ .night → setMode new cause sh port s = u)) ∧
  (∀ s : State, s.pwr.mode = .bindOff → s.pwr.state = .run → (∀ x ∈ s.scan.outs, x.2.en = true → purlDone s x.1 = true) →
    (∀ x ∈ s.enc.chans, x.2.frames = []) →
    ∃ t, exec .bindOffEnd s = .next t ∧ t.pwr.state = .off ∧ t.pwr.domains = 1 ∧ t.hif.linkUp = false ∧ t.pair.leadOut = false ∧
      (∀ x ∈ t.scan.outs, x.2.up = false) ∧ (∀ o, outstOf 4 s = some o → ∀ x ∈ t.hif.outst, x.seq ≠ o.seq) ∧
      t.mem.hbm = s.mem.hbm ∧ (∃ v, s.outbox <+: v.outbox ∧ (raise 0x51 [pack [(31, 28, 0), (27, 24, 12), (23, 16, 5), (7, 0, 0xFF)]] v).outbox <+: t.outbox)) ∧
  (∀ s : State, (s.pwr.mode ≠ .bindOff ∨ s.pwr.state ≠ .run ∨ (∃ x ∈ s.scan.outs, x.2.en = true ∧ purlDone s x.1 = false) ∨
    (∃ x ∈ s.enc.chans, x.2.frames ≠ [])) → exec .bindOffEnd s = .next s)

/-- POWER_STATE for the state in force succeeds; for Off from Ready or Safe hold, and for Idle, Sleep or Deep sleep from Ready with no output or
encode channel enabled, it begins the entry; from another mode it is answered with WRONG_MODE, and over an enabled output with RESOURCE_HELD. While a transition runs, a request for Run before step 4 of an entry
to Sleep, Deep sleep or Off aborts it, and any other takes the pending place. PWC_REQ_GO makes the same requests by the same operation, raising PARAM_REFUSED for one that is refused; from Idle or Sleep its Run is a wake. POWER_TRANSITION_END ends an entry whose
steps are over in its target and an exit in Run, then runs the pending request; before that it changes nothing. WAKE_PIN at its level or edge, and a host access in Idle or
Sleep, set their bit of PWC_WAKE_STAT and ask for Run; in Off the pin makes cast-on due. -/
def Obligations.PowerRequestsAndTransitions : Prop :=
  (∀ (c : Cmd) (s u : State) (n : Nat) (tr : PowerTrans), u = takeCmd c s → Taken 0x0005 c s → n = fld (cw c 2) 2 0 → n ≤ 4 → s.pwr.trans = none →
    tr = { source := s.pwr.state, target := powerOf n, since := t2Ns s, origin := .cmd c.port c.ring u.hif.cmdSeq, entry := powerOf n != .run, wakeBits := 0, wakeAt := t2Ns s } →
    (powerOf n = s.pwr.state → exec (.powerState c) s = .next (answer 0x0005 c s (.ok []) u)) ∧
    (powerOf n ≠ s.pwr.state → powerOf n = .off → (s.pwr.mode = .ready ∨ s.pwr.mode = .safeHold) →
      exec (.powerState c) s = .next (answer 0x0005 c s (.later n []) (touchQuiesce (withPwr u { u.pwr with trans := some tr })))) ∧
    (powerOf n ≠ s.pwr.state → powerOf n ≠ .run → powerOf n ≠ .off → s.pwr.mode = .ready → busyWith s = none →
      exec (.powerState c) s = .next (answer 0x0005 c s (.later n []) (touchQuiesce (withPwr u { u.pwr with trans := some tr })))) ∧
    (powerOf n ≠ s.pwr.state → powerOf n ≠ .run → s.pwr.mode ≠ .ready → (s.pwr.mode ≠ .safeHold ∨ powerOf n ≠ .off) →
      exec (.powerState c) s = .next (answer 0x0005 c s (.no 6 0) u)) ∧
    (∀ o, powerOf n ≠ s.pwr.state → powerOf n ≠ .run → powerOf n ≠ .off → s.pwr.mode = .ready → busyWith s = some o →
      exec (.powerState c) s = .next (answer 0x0005 c s (held 0xFF o) u))) ∧
  (∀ (c : Cmd) (s u v : State) (n : Nat) (r : PowerAns), u = takeCmd c s → Taken 0x0005 c s → n = fld (cw c 2) 2 0 →
    (n ≤ 4 → powerAsk (powerOf n) (.cmd c.port c.ring u.hif.cmdSeq) 0 u = (v, r) →
      exec (.powerState c) s = .next (answer 0x0005 c s (match r with | .done => .ok [] | .refused x => x | .waits => .later n []) v)) ∧
    (4 < n → exec (.powerState c) s = .next (answer 0x0005 c s (badField 8) u))) ∧
  (∀ (c : Cmd) (s u : State) (n : Nat) (tr : PowerTrans) (p : PowerPend), u = takeCmd c s → Taken 0x0005 c s → n = fld (cw c 2) 2 0 → n ≤ 4 → s.pwr.trans = some tr →
    p = { target := powerOf n, origin := .cmd c.port c.ring u.hif.cmdSeq, wakeBits := 0, since := t2Ns s } →
    (powerOf n = .run → tr.entry = true → tr.target ≠ .idle → t2Ns s - tr.since < 310000 →
      exec (.powerState c) s = .next (answer 0x0005 c s (.ok []) (powerAbort tr 0 (t2Ns s) u))) ∧
    ((powerOf n ≠ .run ∨ tr.entry = false ∨ tr.target = .idle ∨ 310000 ≤ t2Ns s - tr.since) → s.pwr.pend = none →
      exec (.powerState c) s = .next (answer 0x0005 c s (.later n []) (withPwr u { u.pwr with pend := some p })))) ∧
  (∀ (env : ExitEnv) (s : State) (tr : PowerTrans), s.pwr.trans = some tr →
    (tr.entry = true → t2Ns s - tr.since < (if tr.target = .idle then 300000 else 310000) → exec (.powerTransitionEnd env) s = .next s) ∧
    (tr.entry = true → (if tr.target = .idle then 300000 else 310000) ≤ t2Ns s - tr.since →
      exec (.powerTransitionEnd env) s = .next (levelWake (powerPending (entryEnd tr s)))) ∧
    (tr.entry = false → exec (.powerTransitionEnd env) s = .next (powerPending (exitEnd tr env s)))) ∧
  (∀ (env : ExitEnv) (s : State), s.pwr.trans = none → exec (.powerTransitionEnd env) s = .next s) ∧
  (∀ (tr : PowerTrans) (s : State), (entryEnd tr s).pwr.state = (match tr.target with | .idle => .idle | .sleep => .sleep | .deepSleep => .deepSleep | _ => .off) ∧
    (entryEnd tr s).pwr.trans = none) ∧
  (∀ (tr : PowerTrans) (env : ExitEnv) (s : State), (exitEnd tr env s).pwr.state = .run ∧ (exitEnd tr env s).pwr.trans = none ∧
    (tr.source = .deepSleep → (exitEnd tr env s).hif.linkUp = true ∧ (exitEnd tr env s).tb.state = .unset)) ∧
  (∀ (a : RegW) (s s1 : State) (n : Nat) (tr : PowerTrans), Writes 0x1004 a s → n = fld a.val 2 0 →
    tr = { source := s.pwr.state, target := powerOf n, since := t2Ns s, origin := .reg, entry := true, wakeBits := 0, wakeAt := t2Ns s } →
    s1 = withPwr s { s.pwr with reqState := n } →
    (bitOf a.val 31 = false → exec (.pwcReqGo a) s = .next s1) ∧
    (bitOf a.val 31 = true → 4 < n → exec (.pwcReqGo a) s = .next (paramRefused a.init 0x1004 a.val s1)) ∧
    (bitOf a.val 31 = true → n ≤ 4 → s.pwr.trans = none → powerOf n ≠ s.pwr.state → powerOf n ≠ .run → powerOf n ≠ .off → s.pwr.mode = .ready → busyWith s = none →
      exec (.pwcReqGo a) s = .next (touchQuiesce (withPwr s1 { s1.pwr with trans := some tr }))) ∧
    (∀ v r, bitOf a.val 31 = true → n ≤ 4 → (n ≠ 0 ∨ (s.pwr.state ≠ .idle ∧ s.pwr.state ≠ .sleep)) → powerAsk (powerOf n) .reg 0 s1 = (v, r) →
      exec (.pwcReqGo a) s = .next (match r with | .refused _ => paramRefused a.init 0x1004 a.val v | _ => v)) ∧
    (∀ v r, bitOf a.val 31 = true → n = 0 → (s.pwr.state = .idle ∨ s.pwr.state = .sleep) →
      powerAsk .run .reg 8 (withPwr s1 { s1.pwr with wakeStat := s.pwr.wakeStat ||| 8 }) = (v, r) →
      exec (.pwcReqGo a) s = .next (match r with | .refused _ => paramRefused a.init 0x1004 a.val v | _ => v))) ∧
  (∀ (level : Bool) (s s1 : State) (tr : PowerTrans), s1 = withPwr s { s.pwr with wakeLevel := level } →
    tr = { source := s.pwr.state, target := .run, since := t2Ns s, origin := .wake, entry := false, wakeBits := 1, wakeAt := t2Ns s } →
    ((pinActive s.pwr level = false ∨ (s.pwr.state = .run ∧ s.pwr.trans = none)) → exec (.wakePin level) s = .next s1) ∧
    (pinActive s.pwr level = true → s.pwr.state = .off → s.boot.resetN = true →
      exec (.wakePin level) s = .next (withBoot s1 { s1.boot with restartAt := some 0 })) ∧
    (pinActive s.pwr level = true → (s.pwr.state = .idle ∨ s.pwr.state = .sleep ∨ s.pwr.state = .deepSleep) → s.pwr.trans = none →
      exec (.wakePin level) s = .next (withPwr s1 { s1.pwr with wakeStat := s.pwr.wakeStat ||| 1, trans := some tr }))) ∧
  (∀ (s : State) (tr : PowerTrans), s.pwr.trans = none →
    tr = { source := s.pwr.state, target := .run, since := t2Ns s, origin := .wake, entry := false, wakeBits := 2, wakeAt := t2Ns s } →
    ((s.pwr.state = .idle ∨ s.pwr.state = .sleep) → exec .hostAccessWake s = .next (withPwr s { s.pwr with wakeStat := s.pwr.wakeStat ||| 2, trans := some tr })) ∧
    (s.pwr.state ≠ .idle → s.pwr.state ≠ .sleep → exec .hostAccessWake s = .next s))

/-- DOMAIN_SET of domains that may be switched, to on, marks each that is off as coming up; to off, with none in use, it takes each out of service into isolation; a domain it may not name is a
parameter error, one in use is RESOURCE_HELD with the lowest. An on that raises a domain's load waits for the supply (R610). DOMAIN_READY makes a rising domain ready: on and out of isolation. THERMAL_CROSSING stores the readings, and reports a threshold that is crossed; below 125 C a THERMAL_TRIP does
nothing, above it the module enters Off with FAULT_N low. JUNCTION_OVERHEAT after 100 ms above 115 C, and a missed firmware watchdog, are Safe-hold causes 1 and 4: outside Safe hold,
without a fit Follow, the module is then in Safe hold; a Lead with one asks for a handover first. -/
def Obligations.DomainsTemperaturesAndWatchdogs : Prop :=
  (∀ (c : Cmd) (s u : State) (ds : List Nat), u = takeCmd c s → Taken 0x0006 c s → ds = (List.range 15).filter (fun d => bitOf (cw c 2) d) →
    ((∃ d ∈ ds, d = 0 ∨ d = 1 ∨ d = 2 ∨ d = 3 ∨ d = 13) → exec (.domainSet c) s = .next (answer 0x0006 c s (badField 8) u)) ∧
    ((∀ d ∈ ds, d ≠ 0 ∧ d ≠ 1 ∧ d ≠ 2 ∧ d ≠ 3 ∧ d ≠ 13) → bitOf (cw c 3) 0 = true → supplyMet u (supplyNeeds 0x0006 opDomainSet c u) = true →
      ∃ t, exec (.domainSet c) s = .next (answer 0x0006 c s (.ok []) t) ∧ t = withPwr u { u.pwr with rising := t.pwr.rising } ∧
        ∀ d, d < 32 → bitOf t.pwr.rising d = (bitOf s.pwr.rising d || (decide (d ∈ ds) && !bitOf s.pwr.domains d))) ∧
    ((∀ d ∈ ds, d ≠ 0 ∧ d ≠ 1 ∧ d ≠ 2 ∧ d ≠ 3 ∧ d ≠ 13) → bitOf (cw c 3) 0 = false → (∀ d ∈ ds, domainFree s d = true) →
      ∃ t, exec (.domainSet c) s = .next (answer 0x0006 c s (.ok []) t) ∧ t.mem = s.mem ∧ t.pwr.mode = s.pwr.mode ∧ t.pwr.state = s.pwr.state ∧
        ∀ d, d < 32 → bitOf t.pwr.domains d = (bitOf s.pwr.domains d && !decide (d ∈ ds)) ∧ bitOf t.pwr.iso d = (bitOf s.pwr.iso d || decide (d ∈ ds))) ∧
    (∀ d, (∀ d ∈ ds, d ≠ 0 ∧ d ≠ 1 ∧ d ≠ 2 ∧ d ≠ 3 ∧ d ≠ 13) → bitOf (cw c 3) 0 = false → ds.find? (fun d => !domainFree s d) = some d →
      exec (.domainSet c) s = .next (answer 0x0006 c s (held 0xFF d) u))) ∧
  (∀ (d : Nat) (s : State), d < 15 →
    (bitOf s.pwr.rising d = true → ∃ t, exec (.domainReady d) s = .next t ∧ t.mem = s.mem ∧ t.scan = s.scan ∧
      (∀ k, k < 32 → bitOf t.pwr.domains k = (bitOf s.pwr.domains k || k == d) ∧ bitOf t.pwr.iso k = (bitOf s.pwr.iso k && k != d) ∧
        bitOf t.pwr.rising k = (bitOf s.pwr.rising k && k != d))) ∧
    (bitOf s.pwr.rising d = false → exec (.domainReady d) s = .next s)) ∧
  (∀ (lid j : W16) (s : State) (ev : Nat → Bool → Bool → State → State), s.pwr.state ≠ .off →
    (∀ k old new v, ev k old new v = if new = old then v else raise 0x54 [pack [(31, 24, k), (23, 23, b1 new)], pack [(31, 16, lid.toNat), (15, 0, j.toNat)]] v) →
    ∃ p, exec (.thermalCrossing lid j) s = .next (ev 3 s.pwr.hot115 p.hot115 (ev 2 s.pwr.hotJunction p.hotJunction (ev 1 s.pwr.hotLid p.hotLid (withPwr s p)))) ∧
      p.lidTemp = lid ∧ p.junctionTemp = j ∧ p.hotLid = aboveNow 1520 s.pwr.hotLid lid.toInt ∧ p.hotJunction = aboveNow 1680 s.pwr.hotJunction j.toInt ∧
      p.hot115 = aboveNow 1840 s.pwr.hot115 j.toInt ∧ p.mode = s.pwr.mode ∧ p.domains = s.pwr.domains ∧ p.state = s.pwr.state ∧
      (s.pwr.hot115 = false → p.hot115 = true → p.hot115At = t2Ns s)) ∧
  (∀ (lid j : W16) (s : State), s.pwr.state = .off → exec (.thermalCrossing lid j) s = .next s ∧ exec (.thermalTrip j) s = .next s) ∧
  (∀ (j : W16) (s : State), s.pwr.state ≠ .off →
    (2000 < j.toInt → exec (.thermalTrip j) s = .next (enterOff (withPwr s { s.pwr with junctionTemp := j, faultN := true }))) ∧
    (j.toInt ≤ 2000 → exec (.thermalTrip j) s = .next s)) ∧
  (∀ s : State, (enterOff s).pwr.state = .off ∧ (enterOff s).pwr.domains = 1 ∧ (enterOff s).pwr.faultN = s.pwr.faultN ∧ (enterOff s).hif.linkUp = false) ∧
  (∀ s : State, s.pwr.hot115 = true → s.pwr.hot115At + 100000000 ≤ t2Ns s → s.pwr.state = .run → exec .junctionOverheat s = .next (safeHoldCause 1 0xFF s)) ∧
  (∀ s : State, (s.pwr.hot115 = false ∨ t2Ns s < s.pwr.hot115At + 100000000 ∨ s.pwr.state ≠ .run) → exec .junctionOverheat s = .next s) ∧
  (∀ (p : Nat) (s : State), 4 ≤ p → p ≤ 10 → s.pwr.state = .run → (holdable s.pwr.mode = true ∨ s.pwr.mode = .safeHold) →
    exec (.firmwareWatchdogMiss p) s = .next (safeHoldCause 4 0xFF (withPwr s { s.pwr with fwMiss := true }))) ∧
  (∀ (p : Nat) (s : State), (p < 4 ∨ 10 < p ∨ s.pwr.state ≠ .run ∨ (holdable s.pwr.mode = false ∧ s.pwr.mode ≠ .safeHold)) →
    exec (.firmwareWatchdogMiss p) s = .next s) ∧
  (∀ (cause port : Nat) (s : State), s.pwr.mode = .lead → s.pair.peerFit = true → cause ∈ [1, 2, 3, 4, 7] →
    safeHoldCause cause port s = withPair s { s.pair with want := some (.safeHold cause) }) ∧
  (∀ (cause port : Nat) (s : State), holdable s.pwr.mode = true → (s.pwr.mode ≠ .lead ∨ s.pair.peerFit = false) →
    (safeHoldCause cause port s).pwr.mode = .safeHold ∧ (safeHoldCause cause port s).pwr.cause = cause ∧ (safeHoldCause cause port s).pwr.faultN = true ∧
      (∀ d, d = 6 ∨ d = 7 ∨ d = 8 ∨ d = 9 → bitOf (safeHoldCause cause port s).pwr.domains d = false)) ∧
  (∀ (cause port : Nat) (s : State), s.pwr.mode = .safeHold → safeHoldCause cause port s = withPwr s { s.pwr with cause := cause })

/-- A command that raises a domain's load is applied at once where VCORE carries what it needs, and is else held, with its reply, until a gauge period finds the
level reached, 15 ms after it was taken at the latest. GAUGE_CONTROL_PERIOD takes new readings and requirements; while AUTO is 1 the least headroom below 1.02 raises VCORE by 10 mV to at most 850, and one above 1.10 for 100 ms lowers it by 5 mV to at least 550; a step writes VOUT_COMMAND and reads VCORE back;
within its period it changes nothing. HEADROOM_LOST after 10 ms below 1.0 at 850 mV raises VOLTAGE once. VR_ALERT raises VOLTAGE with cause 3 and is Safe-hold cause 3. GA_CTL takes AUTO 0 in Maintenance only; GA_VSET takes 550 to 850 mV, and with AUTO 0 it is VCORE's command. -/
def Obligations.GaugesHoldVcore : Prop :=
  (∀ (op : Nat) (c : Cmd) (s : State), op = 0x0300 ∨ op = 0x0301 ∨ op = 0x0408 ∨ op = 0x0501 ∨ op = 0x0601 ∨ op = 0x0006 →
    (supplyMet s (supplyNeeds op (supplyWork op) c s) = true → supplied op (supplyWork op) c s = supplyWork op c s) ∧
    (supplyMet s (supplyNeeds op (supplyWork op) c s) = false → ∃ h, supplied op (supplyWork op) c s =
      ({ s with hif := { s.hif with supply := some h } }, .later 0 []) ∧ h.seq = s.hif.cmdSeq ∧ h.opcode = op ∧ h.cmd = c ∧ h.since = t2Ns s ∧
      h.reqs = supplyNeeds op (supplyWork op) c s)) ∧
  (∀ (env : GaugeEnv) (s t : State) (h : SupplyHold) (o : Outst), t = gaugePeriod env s → t.hif.supply = some h →
    t.hif.outst.find? (fun x => x.seq == h.seq) = some o →
    (supplyMet t h.reqs = false → t2Ns t < h.since + 15000000 → exec (.gaugeControlPeriod env) s = .next t) ∧
    (supplyMet t h.reqs = true ∨ h.since + 15000000 ≤ t2Ns t →
      ∀ v, v = outstDrop o { t with hif := { t.hif with supply := none } } → gatekeep h.opcode h.cmd v = none →
        exec (.gaugeControlPeriod env) s = .next (finishOutst o (supplyWork h.opcode h.cmd v).2 (supplyWork h.opcode h.cmd v).1))) ∧
  (∀ (env : GaugeEnv) (s : State) (gs : Tab Gauge) (d : Nat) (g : Gauge), s.pwr.state = .run → s.pwr.trans = none → s.hif.supply = none →
    s.pwr.gaugeAt + (if s.pwr.gaugeLow then 50000 else 1000000) ≤ t2Ns s → gs = gaugesNow env.readings s → leastHeadroom gs = some (d, g) →
    ∃ t, exec (.gaugeControlPeriod env) s = .next t ∧ t.pwr.gauges = gs ∧ t.pwr.gaugeAt = t2Ns s ∧ t.pwr.gaugeLow = decide (g.reading < g.req) ∧
      (s.pwr.auto = false → t.pwr.vcmd = s.pwr.vcmd) ∧
      (s.pwr.auto = true → g.reading * 100 < g.req * 102 → t.pwr.vcmd = Nat.min 850 (s.pwr.vcmd + 10)) ∧
      (s.pwr.auto = true → g.req * 102 ≤ g.reading * 100 → g.reading * 100 ≤ g.req * 110 → t.pwr.vcmd = s.pwr.vcmd) ∧
      (∀ at_, s.pwr.auto = true → g.req * 110 < g.reading * 100 → s.pwr.headHighAt = some at_ →
        t.pwr.vcmd = if at_ + 100000000 ≤ t2Ns s then Nat.max 550 (s.pwr.vcmd - 5) else s.pwr.vcmd) ∧
      (t.pwr.vcmd ≠ s.pwr.vcmd → Outgoing.pmbus t.pwr.vcmd ∈ t.outbox ∧ (env.ack = true → t.pwr.vcore = env.readVout % 4096)) ∧ t.mem = s.mem ∧ t.tb = s.tb) ∧
  (∀ (env : GaugeEnv) (s : State), s.hif.supply = none → (t2Ns s < s.pwr.gaugeAt + (if s.pwr.gaugeLow then 50000 else 1000000) ∨ s.pwr.state ≠ .run ∨
    s.pwr.trans ≠ none) → exec (.gaugeControlPeriod env) s = .next s) ∧
  (∀ (s : State) (at_ : Nat), s.pwr.headLowAt = some at_ →
    (s.pwr.headLost = false → at_ + 10000000 ≤ t2Ns s →
      exec .headroomLost s = .next (raise 0x53 (voltWords 2 (leastHeadroom s.pwr.gauges) s) (withPwr s { s.pwr with headLost := true }))) ∧
    ((s.pwr.headLost = true ∨ t2Ns s < at_ + 10000000) → exec .headroomLost s = .next s)) ∧
  (∀ s : State, s.pwr.headLowAt = none → exec .headroomLost s = .next s) ∧
  (∀ s : State, s.pwr.vrFault = false → exec (.vrAlert true) s =
    .next (safeHoldCause 3 0xFF (raise 0x53 (voltWords 3 (leastHeadroom s.pwr.gauges) s) (withPwr s { s.pwr with vrFault := true })))) ∧
  (∀ s : State, s.pwr.vrFault = true → exec (.vrAlert false) s = .next (withPwr s { s.pwr with vrFault := false, vrGoneAt := t2Ns s })) ∧
  (∀ (b : Bool) (s : State), s.pwr.vrFault = b → exec (.vrAlert b) s = .next s) ∧
  (∀ (a : RegW) (s : State), Writes 0xE000 a s →
    (bitOf a.val 0 = true → exec (.gaCtlWrite a) s = .next (withPwr s { s.pwr with auto := true })) ∧
    (bitOf a.val 0 = false → s.pwr.mode = .maintenance → exec (.gaCtlWrite a) s =
      .next (send (.pmbus s.pwr.vset) (withPwr s { s.pwr with auto := false, vcmd := s.pwr.vset }))) ∧
    (bitOf a.val 0 = false → s.pwr.mode ≠ .maintenance → exec (.gaCtlWrite a) s = .next (paramRefused a.init 0xE000 a.val s))) ∧
  (∀ (a : RegW) (s : State) (mv : Nat), Writes 0xE008 a s → mv = fld a.val 11 0 →
    (550 ≤ mv → mv ≤ 850 → s.pwr.auto = true → exec (.gaVsetWrite a) s = .next (withPwr s { s.pwr with vset := mv })) ∧
    (550 ≤ mv → mv ≤ 850 → s.pwr.auto = false → exec (.gaVsetWrite a) s = .next (send (.pmbus mv) (withPwr s { s.pwr with vset := mv, vcmd := mv }))) ∧
    ((mv < 550 ∨ 850 < mv) → exec (.gaVsetWrite a) s = .next (paramRefused a.init 0xE008 a.val s)))

/-- LANE_LOOP in Maintenance, on a lane that is calibrated, in no other state and in a domain that is on, and of a kind and time that Table 18-5 and the command allow, detaches the
lane's function, puts the lane into state 4 and completes later; in another mode it is WRONG_MODE. LANE_LOOP_END, not before the time is over, ends it with the error and
unit counts of R703. LANE_RECAL of a lane of no enabled output completes at once with the lane in state 3, counted; a V lane that is sending waits for the end of its output's frame;
a P lane leaves the pair link first and is refused where no other P lane is in use. LANE_RECAL_END gives the lane back to its function, or leaves a failed
P lane removed. LANE_CALIBRATION_END ends every calibration of an enable; where none failed the enable is carried out and its command succeeds, else it is RESOURCE_HELD with the lane; with no such enable, or one that waits for the supply, it changes nothing. In
each, the other lanes stay. LOAD_COPY_END with no loading command outstanding changes nothing, and a failed read completes it with DMA_ERROR. -/
def Obligations.LanesAreTakenOutAndGivenBack : Prop :=
  (∀ (c : Cmd) (s u : State) (i k t : Nat), u = takeCmd c s → Taken 0x0008 c s → laneNamed (cw c 2) = some i → k = fld (cw c 3) 1 0 → t = (cw c 4).toNat →
    (s.pwr.mode = .maintenance → loopListed (laneGroup i) k = true → 0 < t → t ≤ 60000 → bitOf s.pwr.domains (laneDomain i) = true →
      bitOf s.pwr.iso (laneDomain i) = false → (laneGet s i).ovl = 0 → (laneGet s i).cal = true →
      exec (.laneLoop c) s = .next (answer 0x0008 c s (.later i [k, t]) (loopStart i k u))) ∧
    (s.pwr.mode ≠ .maintenance → exec (.laneLoop c) s = .next (answer 0x0008 c s (.no 6 0) u)) ∧
    (s.pwr.mode = .maintenance → loopListed (laneGroup i) k = false → exec (.laneLoop c) s = .next (answer 0x0008 c s (badField 12) u))) ∧
  (∀ (i k : Nat) (s : State), laneGet (loopStart i k s) i = { laneGet s i with ovl := 4, loop := k + 1, cause := 4, since := t2Ns s, wait := false } ∧
    (∀ j, j ≠ i → laneGet (loopStart i k s) j = laneGet s j) ∧ (loopStart i k s).tb = s.tb ∧ (loopStart i k s).pair = s.pair) ∧
  (∀ (r : LoopResult) (s : State) (o : Outst), outstOf 8 s = some o →
    (t2Ns s < (laneGet s o.target).since + (o.arg.getD 1 0) * 1000000 → exec (.laneLoopEnd r) s = .next s) ∧
    ((laneGet s o.target).since + (o.arg.getD 1 0) * 1000000 ≤ t2Ns s → ∃ t, exec (.laneLoopEnd r) s = .next t ∧
      (laneGet t o.target).ovl = 0 ∧ (laneGet t o.target).loop = 0 ∧ (∀ j, j ≠ o.target → laneGet t j = laneGet s j) ∧ t.mem = s.mem ∧
      (∀ x ∈ t.hif.outst, x.seq ≠ o.seq) ∧
      (¬ (laneGroup o.target ≤ 1) → t = completeOutst o 0 0 (loopWords (o.arg.getD 0 0) r) (laneLeave 4 o.target s)))) ∧
  (∀ (r : LoopResult) (s : State), outstOf 8 s = none → exec (.laneLoopEnd r) s = .next s) ∧
  (∀ (c : Cmd) (s u : State) (i : Nat), u = takeCmd c s → Taken 0x0009 c s → laneNamed (cw c 2) = some i → bitOf s.pwr.domains (laneDomain i) = true →
    bitOf s.pwr.iso (laneDomain i) = false →
    ((laneGet s i).ovl = 0 → (laneGet s i).wait = false → (laneGet s i).cal = true → (i < 80 ∨ otherPLane s i = true) →
      ∃ t, exec (.laneRecal c) s = .next (answer 0x0009 c s (.ok []) t) ∧ t.tb = s.tb ∧
        (i < 48 → laneOutput s i = none → t = recalStart u i) ∧ (48 ≤ i → i < 64 → t = recalStart u i) ∧
        (∀ o, i < 48 → laneOutput s i = some o → frameQuiet s o = false → t = laneUpd i (fun x => { x with wait := true }) u) ∧
        (64 ≤ i → (laneGet t i).ovl = 3 ∧ (∀ j, j ≠ i → laneGet t j = laneGet s j)) ∧
        (80 ≤ i → bitOf t.pair.lanes (i - 80) = false)) ∧
    (80 ≤ i → otherPLane s i = false → exec (.laneRecal c) s = .next (answer 0x0009 c s (laneHeld i) u)) ∧
    ((laneGet s i).ovl ≠ 0 → exec (.laneRecal c) s = .next (answer 0x0009 c s (laneHeld i) u))) ∧
  (∀ (i : Nat) (s : State), laneGet (recalStart s i) i = { laneGet s i with ovl := 3, cause := 1, since := t2Ns s, wait := false, recals := sat16 ((laneGet s i).recals + 1) } ∧
    (∀ j, j ≠ i → laneGet (recalStart s i) j = laneGet s j)) ∧
  (∀ (i : Nat) (ok : Bool) (s : State), i < 84 →
    (((laneGet s i).ovl ≠ 3 ∨ (laneGet s i).cause = 0 ∨ 3 < (laneGet s i).cause) → exec (.laneRecalEnd i ok) s = .next s) ∧
    ((laneGet s i).ovl = 3 → 1 ≤ (laneGet s i).cause → (laneGet s i).cause ≤ 3 →
      ∃ t, exec (.laneRecalEnd i ok) s = .next t ∧ (∀ j, j ≠ i → laneGet t j = laneGet s j) ∧ t.mem = s.mem ∧ t.tb = s.tb ∧
        ((ok = true ∨ i < 80) → (laneGet t i).ovl = 0) ∧ (ok = false → 80 ≤ i → (laneGet t i).ovl = 5) ∧
        (ok = true → 80 ≤ i → s.pair.linkUp = true → bitOf t.pair.lanes (i - 80) = true))) ∧
  (∀ (failed : List Nat) (s : State) (o : Outst) (busy : List Nat), s.hif.supply = none → (s.hif.outst.find? fun o => enableOps.contains o.opcode) = some o →
    busy = (List.range 84).filter (fun i => (laneGet s i).ovl == 3 && (laneGet s i).cause == 5) →
    ((∀ i ∈ busy, i ∉ failed) → exec (.laneCalibrationEnd failed) s =
      .next (completeOutst o 0 0 [] (busy.foldl (fun st j => laneLeave 5 j st) (enableWork o s)))) ∧
    (∀ i, busy.find? (fun i => failed.contains i) = some i → exec (.laneCalibrationEnd failed) s =
      .next (completeOutst o 3 (pack [(31, 24, 0xFF), (15, 0, 0x300 + i)]) [] (busy.foldl (fun st j => laneLeave (if failed.contains j then 6 else 5) j st) s)))) ∧
  (∀ (failed : List Nat) (s : State), (s.hif.supply ≠ none ∨ ∀ o ∈ s.hif.outst, o.opcode ∉ enableOps) → exec (.laneCalibrationEnd failed) s = .next s) ∧
  (∀ (d : Option (List Byte)) (s : State), loadOutst s = none → exec (.loadCopyEnd d) s = .next s) ∧
  (∀ (s : State) (o : Outst), loadOutst s = some o → exec (.loadCopyEnd none) s = .next (completeOutst o 10 0 [] s))

/-- AUXIO_CLAIM of a free pin and a free timer with the fields of Table 18-6 adds one claim; of a held pin or timer it is RESOURCE_HELD with the holder and the resource. AUXIO_RELEASE takes out exactly the claim of that pin and timer.
NIGHT_PACE_SET claims a free pin and timer for an output, and pin 0xFF releases them. AUXIO_PULSE of a time-base claim whose edge has been reached sends one pulse at that edge and moves to the
next edge still to come; before the edge, while the time base is unset, while PD2 is off or isolated, or with no claim on the timer, it changes nothing. -/
def Obligations.PinsAndTimersFollowTheirClaims : Prop :=
  (∀ (c : Cmd) (s u : State) (use pin timer : Nat), u = takeCmd c s → Taken 0x000A c s → use = (cw c 4).toNat → pin = fld (cw c 2) 2 0 →
    timer = (if use = 2 then 0xFF else fld (cw c 3) 2 0) → use ≤ 2 → (use = 2 → cw c 3 = 0xFF) → (use = 0 → (cw c 7).toNat < 1000000000 ∧
      1000 ≤ (cw c 8).toNat ∧ (cw c 8).toNat ≤ 1000000000 ∧ 10 ≤ (cw c 9).toNat ∧ (cw c 9).toNat + 10 ≤ (cw c 8).toNat) →
    (use = 1 → 100 ≤ (cw c 9).toNat ∧ (cw c 9).toNat ≤ 4000000) →
    (pinClaim s pin = none → (timer = 0xFF ∨ timerClaim s timer = none) →
      ∃ k, exec (.auxioClaim c) s = .next (answer 0x000A c s (.ok []) (withClaims u (s.lane.claims ++ [k]))) ∧ k.pin = pin ∧ k.timer = timer ∧ k.use = use ∧
        k.args = c.w ∧ (use = 0 → k.nextNs = nextEdge ((cw c 6).toNat * 1000000000 + (cw c 7).toNat) (cw c 8).toNat (tbNs (tbGet s.tb (fld (cw c 5) 1 0))))) ∧
    (∀ k, pinClaim s pin = some k → exec (.auxioClaim c) s = .next (answer 0x000A c s (held (if k.use = 3 then 0xFF else 0) (0x100 + pin)) u)) ∧
    (∀ k, pinClaim s pin = none → timer ≠ 0xFF → timerClaim s timer = some k →
      exec (.auxioClaim c) s = .next (answer 0x000A c s (held (if k.use = 3 then 0xFF else 0) (0x200 + timer)) u))) ∧
  (∀ (c : Cmd) (s u : State) (pin timer : Nat), u = takeCmd c s → Taken 0x000B c s → pin = fld (cw c 2) 2 0 →
    timer = (if cw c 3 = 0xFF then 0xFF else fld (cw c 3) 2 0) → (∃ k, pinClaim s pin = some k ∧ k.use ≠ 3) →
    ((∃ k ∈ s.lane.claims, k.use ≠ 3 ∧ k.pin = pin ∧ k.timer = timer) →
      exec (.auxioRelease c) s = .next (answer 0x000B c s (.ok []) (withClaims u (s.lane.claims.filter fun k => !(k.use != 3 && k.pin == pin && k.timer == timer)))))) ∧
  (∀ (c : Cmd) (s u : State) (o pin timer : Nat), u = takeCmd c s → Taken 0x0506 c s → o = (cw c 4).toNat → pin = (cw c 5).toNat → timer = (cw c 6).toNat → o < 48 →
    (pin = 0xFF → exec (.nightPaceSet c) s = .next (answer 0x0506 c s (.ok []) (withClaims u (s.lane.claims.filter fun k => !(k.use == 3 && k.output == o))))) ∧
    (pin < 8 → timer < 8 → pinClaim s pin = none → timerClaim s timer = none → exec (.nightPaceSet c) s =
      .next (answer 0x0506 c s (.ok []) (withClaims u (s.lane.claims ++ [{ pin := pin, timer := timer, use := 3, output := o }])))) ∧
    (pin ≠ 0xFF → 7 < pin → exec (.nightPaceSet c) s = .next (answer 0x0506 c s (badField 20) u))) ∧
  (∀ (n : Nat) (s : State) (k : AuxClaim) (b : Nat), n < 8 → timerClaim s n = some k → b = fld (claimW k 5) 1 0 →
    bitOf s.pwr.domains 2 = true → bitOf s.pwr.iso 2 = false → k.use = 0 →
    ((tbGet s.tb b).set = true → k.nextNs ≤ tbNs (tbGet s.tb b) → exec (.auxioPulse n) s =
      .next (send (.pulse k.pin b k.nextNs (claimW k 9).toNat)
        (claimSet { k with nextNs := nextEdge (k.nextNs + (claimW k 8).toNat) (claimW k 8).toNat (tbNs (tbGet s.tb b) + 1) } s))) ∧
    (((tbGet s.tb b).set = false ∨ tbNs (tbGet s.tb b) < k.nextNs) → exec (.auxioPulse n) s = .next s)) ∧
  (∀ first period now : Nat, 0 < period → now ≤ nextEdge first period now ∧ first ≤ nextEdge first period now ∧ (nextEdge first period now - first) % period = 0 ∧
    (first < now → nextEdge first period now < now + period)) ∧
  (∀ (n : Nat) (s : State), n < 8 → (timerClaim s n = none ∨ bitOf s.pwr.domains 2 = false ∨ bitOf s.pwr.iso 2 = true) → exec (.auxioPulse n) s = .next s)

/-- RESET_N low leaves nothing but the flash: the slots, the two copies of the indicator, the identity block and the touch references. RESET_N_RELEASE, BOOT_WATCHDOG_EXPIRY after 60 s and CAST_ON_RESTART after 1 ms run cast-on: from an active slot that
verifies, with no trial failure counted and UART_R high, that slot's firmware runs at step 4 with the boot watchdog started; three failures or UART_R lead to Recovery; nothing of the
state before stays but the flash. READY_REACHED after step 4 calibrates the lanes, trains the stack, stops the watchdog, and enters Ready with FAULT_N released; before step 4 it changes nothing. CAST_ON
makes the restart due. FW_STAGE erases the slot that does not run and completes at FW_STAGE_END, which stores the image and names it in the indicator as a trial. FW_IDENT and
DEVICE_STATUS answer with the state they describe and change nothing. -/
def Obligations.CastOnStagingAndIdentity : Prop :=
  (∀ s : State, ∃ t, exec .resetNAssert s = .next t ∧ t.boot.slot0 = s.boot.slot0 ∧ t.boot.slot1 = s.boot.slot1 ∧ t.boot.ind0 = s.boot.ind0 ∧ t.boot.ind1 = s.boot.ind1 ∧
    t.boot.identity = s.boot.identity ∧ t.boot.touchRef = s.boot.touchRef ∧ t.boot.resetN = false ∧ t.pending = s.pending ∧ t.outbox = s.outbox ∧
    t = { State.reset with pending := s.pending, outbox := s.outbox, free := s.free, boot := t.boot }) ∧
  (∀ (b : Boot) (n : Nat) (env : BootEnv) (s : State), env.slot0 = none → env.slot1 = none → env.uartR = false → (indGet b).active = n → n < 2 →
    (slotOfBoot b n).verdict = 0 → (indGet b).trial = false → b.wdFlag = false → (indGet b).fails < 3 →
    ∃ t, castOnFrom env b s = t ∧ t.boot.step = 4 ∧ t.boot.running = n ∧ t.boot.wdAt = some 0 ∧ t.boot.fwVersion = (slotOfBoot b n).version ∧ t.boot.restartAt = none ∧
      t.boot.slot0 = b.slot0 ∧ t.boot.slot1 = b.slot1 ∧ t.boot.ind0 = b.ind0 ∧ t.boot.ind1 = b.ind1 ∧ t.pwr = ({} : State).pwr ∧ t.mem = ({} : State).mem ∧ t.tb = ({} : State).tb ∧
      t.pair = ({} : State).pair ∧ t.hif.linkUp = true ∧ t.hif.cmdSeq = 0 ∧ t.pending = s.pending) ∧
  (∀ (b : Boot) (env : BootEnv) (s : State), env.slot0 = none → env.slot1 = none → (env.uartR = true ∨ 3 ≤ (indGet b).fails) → b.wdFlag = false →
    (castOnFrom env b s).pwr.mode = .recovery ∧ (castOnFrom env b s).boot.wdAt = none) ∧
  (∀ (env : BootEnv) (s : State), (s.boot.resetN = true → exec (.resetNRelease env) s = .next s) ∧
    (s.boot.resetN = false → exec (.resetNRelease env) s = .next (castOnFrom env { s.boot with wdFlag := false } s))) ∧
  (∀ (env : BootEnv) (s : State),
    (∀ t, s.boot.wdAt = some t → t + 60000000000 ≤ t2Ns s → exec (.bootWatchdogExpiry env) s = .next (castOnFrom env { s.boot with wdFlag := true } s)) ∧
    (∀ t, s.boot.wdAt = some t → t2Ns s < t + 60000000000 → exec (.bootWatchdogExpiry env) s = .next s) ∧
    (s.boot.wdAt = none → exec (.bootWatchdogExpiry env) s = .next s) ∧
    (∀ t, s.boot.restartAt = some t → 0 < t → t2Ns s < t + 1000000 → exec (.castOnRestart env) s = .next s) ∧
    (∀ t, s.boot.restartAt = some t → (t = 0 ∨ t + 1000000 ≤ t2Ns s) → exec (.castOnRestart env) s = .next (castOnFrom env s.boot s)) ∧
    (s.boot.restartAt = none → exec (.castOnRestart env) s = .next s)) ∧
  (∀ (env : ReadyEnv) (s : State), s.pwr.mode = .castOn → 4 ≤ s.boot.step → s.boot.restartAt = none →
    ∃ t, exec (.readyReached env) s = .next t ∧ t.pwr.mode = .ready ∧ t.pwr.faultN = false ∧ t.boot.wdAt = none ∧ t.boot.step = 7 ∧ t.boot.record = [] ∧ t.mem.mcState = 2 ∧
      t.mem.hbm = s.mem.hbm ∧ t.tb = s.tb ∧ t.scan = s.scan ∧ (∀ i, i < 84 → i ∉ env.failedLanes → (laneGet t i).cal = true)) ∧
  (∀ (env : ReadyEnv) (s : State), (s.pwr.mode ≠ .castOn ∨ s.boot.step < 4) → exec (.readyReached env) s = .next s) ∧
  (∀ (c : Cmd) (s u : State), u = takeCmd c s → Taken 0x0A01 c s →
    ((s.pwr.mode = .maintenance ∨ (c.port ≠ .maint ∧ (s.pwr.mode = .ready ∨ s.pwr.mode = .safeHold))) →
      exec (.castOn c) s = .next (answer 0x0A01 c s (.ok []) (withBoot u { u.boot with restartAt := some (Nat.max 1 (t2Ns s)) }))) ∧
    (s.pwr.mode ≠ .maintenance → s.pwr.mode ≠ .ready → s.pwr.mode ≠ .safeHold → exec (.castOn c) s = .next (answer 0x0A01 c s (.no 6 0) u))) ∧
  (∀ (c : Cmd) (s u : State) (f : FwFile), u = takeCmd c s → Taken 0x0A00 c s → c.env.card = some f → f.size ≤ 33554432 →
    (s.pwr.mode = .ready ∨ s.pwr.mode = .follow ∨ s.pwr.mode = .maintenance ∨ s.pwr.mode = .safeHold) →
    (headerBad f = none → exec (.fwStage c) s = .next (answer 0x0A00 c s (.later (idleSlot s) (imageArgs (imageOf f))) (slotWrite (idleSlot s) {} u))) ∧
    (∀ n, headerBad f = some n → exec (.fwStage c) s = .next (answer 0x0A00 c s (badRecord n) u))) ∧
  (∀ (s : State) (o : Outst), outstOf 0x0A00 s = some o →
    exec (.fwStageEnd false) s = .next (completeOutst o 11 0 [] s) ∧
    (o.target < 2 → ∃ t, exec (.fwStageEnd true) s = .next t ∧ slotOfBoot t.boot o.target = imageFrom o.arg ∧
      slotOfBoot t.boot (1 - o.target) = slotOfBoot s.boot (1 - o.target) ∧ t.mem = s.mem ∧ t.pwr = s.pwr ∧ ∃ b, t.boot = b ∧
      ((s.boot.ind0.valid = false ∨ (s.boot.ind1.valid = true ∧ s.boot.ind0.seq.toNat < s.boot.ind1.seq.toNat)) →
        b.ind1 = s.boot.ind1 ∧ b.ind0 = { active := o.target, trial := true, fails := 0, prevOk := true, valid := true, seq := (indGet s.boot).seq + 1 }) ∧
      ((s.boot.ind0.valid = true ∧ (s.boot.ind1.valid = false ∨ s.boot.ind1.seq.toNat ≤ s.boot.ind0.seq.toNat)) →
        b.ind0 = s.boot.ind0 ∧ b.ind1 = { active := o.target, trial := true, fails := 0, prevOk := true, valid := true, seq := (indGet s.boot).seq + 1 }))) ∧
  (∀ (c : Cmd) (s u : State), u = takeCmd c s →
    (Taken 0x0A02 c s → ∃ ws, exec (.fwIdent c) s = .next (answer 0x0A02 c s (.ok ws) u) ∧ ws.length = 9 ∧ wd ws 1 = s.boot.fwVersion ∧
      wd ws 2 = (slotOfBoot s.boot s.boot.running).build ∧ bitOf (wd ws 0) 30 = (indGet s.boot).trial ∧ fld (wd ws 0) 29 28 = s.boot.startPath % 4) ∧
    (Taken 0x0001 c s → ∃ ws, exec (.deviceStatus c) s = .next (answer 0x0001 c s (.ok ws) u) ∧ ws.length = 7 ∧ fld (wd ws 0) 31 28 = modeNum s.pwr.mode ∧
      fld (wd ws 0) 27 25 = powerNum s.pwr.state ∧ fld (wd ws 0) 24 23 = t0Num s.tb.state ∧ bitOf (wd ws 0) 21 = s.pair.enabled ∧
      fld (wd ws 2) 15 0 = s.pwr.junctionTemp.toNat ∧ wd ws 6 = w32 s.hif.maintLost))

/-- In Recovery BEGIN of a length in range opens an empty buffer, and DATA at the offset of the bytes received, with the right CRC and within that length, appends its bytes; a wrong CRC is answered with
status 1 and another offset with 2, and the buffer stays; a repeat of the last piece is answered with 0 again. STATUS reports the byte count. IDENTITY rewrites a whole block whose CRC is right. END of an incomplete image is status 3. An image that does not verify leaves the
slots as they were; one that verifies is written into both slots, the indicator names slot 0 with no trial, and cast-on is due (a flash that fails leaves both slots erased, status 4); CARD and the UART line L do the same with the card's image. Outside Recovery none of these changes anything. The status line is sent at most once a second. -/
def Obligations.RecoveryLoadsAnImage : Prop :=
  (∀ (q : RecovReq) (s : State), s.pwr.mode = .recovery → s.boot.recov.phase ≠ 3 →
    (4096 ≤ q.arg → q.arg ≤ 33554432 → exec (.recoveryBegin q) s = .next (recovReply q 0 (withRecov s { phase := 1, length := q.arg }))) ∧
    ((q.arg < 4096 ∨ 33554432 < q.arg) → exec (.recoveryBegin q) s = .next (recovReply q 2 s)) ∧
    (crc32c q.data ≠ q.crc.toNat → exec (.recoveryData q) s = .next (recovReply q 1 s)) ∧
    (crc32c q.data = q.crc.toNat → s.boot.recov.lastData = some (q.arg, q.len, q.crc.toNat) → exec (.recoveryData q) s = .next (recovReply q 0 s)) ∧
    (crc32c q.data = q.crc.toNat → s.boot.recov.lastData ≠ some (q.arg, q.len, q.crc.toNat) → s.boot.recov.phase = 1 → q.arg = s.boot.recov.buf.length →
      q.data.length = q.len → q.len ≤ 1024 → q.arg + q.len ≤ s.boot.recov.length →
      exec (.recoveryData q) s = .next (recovReply q 0 (withRecov s { s.boot.recov with buf := s.boot.recov.buf ++ q.data, lastData := some (q.arg, q.len, q.crc.toNat) }))) ∧
    (crc32c q.data = q.crc.toNat → s.boot.recov.lastData ≠ some (q.arg, q.len, q.crc.toNat) → q.arg ≠ s.boot.recov.buf.length → exec (.recoveryData q) s = .next (recovReply q 2 s)) ∧
    (exec (.recoveryStatus q) s = .next (recovSend q 0 s.boot.recov.buf.length s.boot.recov.phase s)) ∧
    (crc32c q.data = q.crc.toNat → q.data.length = 256 → identityOk q.data = true → exec (.recoveryIdentity q) s = .next (recovReply q 0 (withBoot s { s.boot with identity := q.data })))) ∧
  (∀ (q : RecovReq) (f : FwFile) (ok : Bool) (s : State), s.pwr.mode = .recovery → s.boot.recov.phase ≠ 3 →
    ((s.boot.recov.phase ≠ 1 ∨ s.boot.recov.buf.length < s.boot.recov.length) → exec (.recoveryEnd q f ok) s = .next (recovReply q 3 s)) ∧
    (∀ g : FwFile, s.boot.recov.phase = 1 → s.boot.recov.length ≤ s.boot.recov.buf.length → g = { f with header := s.boot.recov.buf.take 4096, size := s.boot.recov.buf.length } →
      exec (.recoveryEnd q f ok) s = .next (recovReply q (recovInstall g ok s).2 (recovInstall g ok s).1)) ∧
    (exec (.recoveryCard q none ok) s = .next (recovReply q 5 s)) ∧
    (exec (.recoveryCard q (some f) ok) s = .next (recovReply q (recovInstall f ok s).2 (recovInstall f ok s).1)) ∧
    (exec (.recoveryUartLoad [0x4C] (some f) ok) s = .next (recovInstall f ok s).1)) ∧
  (∀ (f : FwFile) (ok : Bool) (s : State),
    ((imageOf f).verdict ≠ 0 → recovInstall f ok s = (withRecov s {}, 3)) ∧
    ((imageOf f).verdict = 0 → ok = false → recovInstall f ok s = (withRecov (slotWrite 1 {} (slotWrite 0 {} s)) {}, 4)) ∧
    ((imageOf f).verdict = 0 → ok = true → ∃ t, recovInstall f ok s = (t, 0) ∧ t.boot.slot0 = imageOf f ∧ t.boot.slot1 = imageOf f ∧ t.boot.restartAt = some 0 ∧
      (∃ y : SlotInd, y = { active := 0, trial := false, fails := 0, prevOk := true, valid := true, seq := (indGet s.boot).seq + 1 } ∧ (t.boot.ind0 = y ∨ t.boot.ind1 = y)) ∧
      t.boot.identity = s.boot.identity ∧ t = withBoot s t.boot)) ∧
  (∀ (q : RecovReq) (f : FwFile) (c : Option FwFile) (l : List Byte) (ok : Bool) (s : State), s.pwr.mode ≠ .recovery →
    exec (.recoveryBegin q) s = .next s ∧ exec (.recoveryData q) s = .next s ∧ exec (.recoveryStatus q) s = .next s ∧ exec (.recoveryIdentity q) s = .next s ∧
    exec (.recoveryEnd q f ok) s = .next s ∧ exec (.recoveryCard q c ok) s = .next s ∧ exec (.recoveryUartLoad l c ok) s = .next s ∧ exec .recoveryStatusLine s = .next s) ∧
  (∀ s : State, s.pwr.mode = .recovery →
    ((s.boot.lineAt = 0 ∨ s.boot.lineAt + 1000000000 ≤ t2Ns s) → ∃ line, exec .recoveryStatusLine s =
      .next (withBoot (send (.uart ([0x52, 0x45, 0x43, 0x4F, 0x56, 0x45, 0x52, 0x59, 32] ++ line)) s) { s.boot with lineAt := Nat.max 1 (t2Ns s) })) ∧
    (s.boot.lineAt ≠ 0 → t2Ns s < s.boot.lineAt + 1000000000 → exec .recoveryStatusLine s = .next s))

/-- NET_PORT_SET of a lane pair whose mode does not change under an enabled port or a named flow, with layers that Table 06-2 supports and its domain on, sets both ports at once where no lane
that it enables is in state 6, and else first calibrates those lanes; 100 Gb/s mode over an enabled port is refused. NET_FILTER_SET writes or removes one entry. PKTIN_CLASS_SET
sets ring, rate and burst of one class, and keeps its tokens within the burst; a burst of 0 selects the class's default. A port being enabled starts a statistics interval. FLOW_SET of a lawful entry that clashes with none is stored at its index, a clash, a field out of range and an entry of a stream that is not open are parameter errors, and PF1 may not
set or clear one of a stream it has not opened; FLOW_CLEAR empties the entry. Setting an entry where none stood, and clearing one where none stood, changes beside it only whether its streams are merged. -/
def Obligations.NetworkCommandsSetTheirTables : Prop :=
  (∀ (c : Cmd) (s u : State) (k : Nat) (m e0 e1 : Bool) (w w2 : W32) (xs : List Nat), u = takeCmd c s → Taken 0x0200 c s → k = fld (cw c 2) 1 0 →
    m = bitOf (cw c 2) 4 → e0 = bitOf (cw c 2) 8 → e1 = bitOf (cw c 2) 9 → w = cw c 3 → w2 = cw c 2 →
    (m = true → e1 = false) → phyOk m (fld w 3 0) (fld w 5 4) = true → (m = false → phyOk m (fld w 11 8) (fld w 13 12) = true) →
    ((e0 = true ∨ e1 = true) → bitOf s.pwr.domains 4 = true ∧ bitOf s.pwr.iso 4 = false) → laneBroken u (portLanes k m e0 e1) = none →
    xs = (portLanes k m e0 e1).filter (fun i => laneState u i == 6) →
    (m = pair100 s k ∨ ((netGet s (2 * k)).en = false ∧ (netGet s (2 * k + 1)).en = false ∧
      (s.net.flows.any fun x => flValidB x.2.rcd && flPorts x.2.rcd / 2 ^ (2 * k) % 4 != 0) = false) →
      (xs = [] → exec (.netPortSet c) s = .next (answer 0x0200 c s (.ok []) (portApply w2 w u))) ∧
      (xs ≠ [] → exec (.netPortSet c) s = .next (answer 0x0200 c s (.later 0 [w2.toNat, w.toNat]) (xs.foldl (fun st i => laneEnter 3 5 i st) u)))) ∧
    (m ≠ pair100 s k → (netGet s (2 * k)).en = true → exec (.netPortSet c) s = .next (answer 0x0200 c s (badField 8) u))) ∧
  (∀ (w2 w3 : W32) (s : State) (k : Nat), k = fld w2 1 0 → (bitOf w2 8 = true ∨ (netGet s (2 * k)).up = false) →
    (bitOf w2 9 = true ∨ (netGet s (2 * k + 1)).up = false) → (bitOf w2 8 = true → (netGet s (2 * k)).en = true) →
    (bitOf w2 9 = true → (netGet s (2 * k + 1)).en = true) →
    portApply w2 w3 s = withNet s { s.net with
      mode100 := tset k (bitOf w2 4) s.net.mode100,
      ports := tupd {} (2 * k + 1) (fun x => { x with en := bitOf w2 9, phy := fld w3 11 8, fec := fld w3 13 12 })
        (tupd {} (2 * k) (fun x => { x with en := bitOf w2 8, phy := fld w3 3 0, fec := fld w3 5 4 }) s.net.ports) }) ∧
  (∀ (p phy fec : Nat) (s : State), (netGet s p).en = false → portSet p true phy fec s = withNet s { s.net with
    ports := tset p { netGet s p with stats := [], en := true, phy := phy, fec := fec } s.net.ports, statsAt := tset p (t2Ns s) s.net.statsAt }) ∧
  (∀ (c : Cmd) (s u : State) (p i mac : Nat), u = takeCmd c s → Taken 0x0201 c s → p = fld (cw c 2) 2 0 → i = fld (cw c 2) 19 16 → mac = macOf (cw c 3) (cw c 4) →
    (bitOf (cw c 2) 8 = true → exec (.netFilterSet c) s = .next (answer 0x0201 c s (.ok [])
      (netUpd p (fun x => { x with multicast := if bitOf (cw c 5) 0 then tset i mac x.multicast else tdel i x.multicast }) u))) ∧
    (bitOf (cw c 2) 8 = false → i ≤ 3 → exec (.netFilterSet c) s = .next (answer 0x0201 c s (.ok [])
      (netUpd p (fun x => { x with unicast := if bitOf (cw c 5) 0 then tset i mac x.unicast else tdel i x.unicast }) u))) ∧
    (bitOf (cw c 2) 8 = false → 3 < i → exec (.netFilterSet c) s = .next (answer 0x0201 c s (badField 8) u))) ∧
  (∀ (c : Cmd) (s u : State) (k : Nat) (x : PktClass), u = takeCmd c s → Taken 0x0204 c s → k = (cw c 2).toNat → x = classRefill (classGet s k) (t2Ns s) →
    (k ≤ 6 → (cw c 4).toNat ≤ 1000000 → 1 ≤ (cw c 5).toNat → (cw c 5).toNat ≤ 4096 → exec (.pktinClassSet c) s = .next (answer 0x0204 c s (.ok [])
      (classSet k { x with fn := fld (cw c 3) 8 8, ring := fld (cw c 3) 0 0, rate := (cw c 4).toNat, burst := (cw c 5).toNat,
                           tokens := Nat.min x.tokens ((cw c 5).toNat * 1000000000) } u))) ∧
    (k ≤ 6 → (cw c 4).toNat ≤ 1000000 → cw c 5 = 0 → exec (.pktinClassSet c) s = .next (answer 0x0204 c s (.ok [])
      (classSet k { x with fn := fld (cw c 3) 8 8, ring := fld (cw c 3) 0 0, rate := (cw c 4).toNat, burst := (classDefault k).burst,
                           tokens := Nat.min x.tokens ((classDefault k).burst * 1000000000) } u))) ∧
    (6 < k → exec (.pktinClassSet c) s = .next (answer 0x0204 c s (badField 8) u))) ∧
  (∀ (c : Cmd) (s u : State) (n : Nat) (r : List Byte), u = takeCmd c s → Taken 0x0202 c s → n = fld (cw c 4) 9 0 → r = padB 64 (crec c) →
    (c.port = .pf0 → flValidB r = false → isLive (strGet s (flStream r)) = false → exec (.flowSet c) s = .next (answer 0x0202 c s (badRecord 4) u)) ∧
    (c.port = .pf0 → ((flValidB r = false ∧ isLive (strGet s (flStream r)) = true) ∨ (flValidB r = true ∧ flowBad r s = none ∧ flowConflict n r s = false)) → ∃ t, exec (.flowSet c) s = .next (answer 0x0202 c s (.ok []) t) ∧
      tfind n t.net.flows = some { rcd := r } ∧
      (tfind n s.net.flows = none → t = settleMerge (flStream r) (settleMerge (flStream r) (withNet u { u.net with flows := tset n { rcd := r } s.net.flows })))) ∧
    (∀ x, c.port = .pf0 → flValidB r = true → flowBad r s = some x → exec (.flowSet c) s = .next (answer 0x0202 c s (badRecord x) u)) ∧
    (flValidB r = true → isLive (strGet s (flStream r)) = false → ∃ x, flowBad r s = some x) ∧
    (c.port = .pf0 → flValidB r = true → flowBad r s = none → flowConflict n r s = true → exec (.flowSet c) s = .next (answer 0x0202 c s (badRecord 0) u)) ∧
    (c.port = .pf1 → (strGet s (flStream r)).opener ≠ .pf1 → exec (.flowSet c) s = .next (answer 0x0202 c s (.no 2 0) u))) ∧
  (∀ (c : Cmd) (s u : State) (n : Nat), u = takeCmd c s → Taken 0x0203 c s → n = fld (cw c 4) 9 0 → c.port = .pf0 →
    ∃ t, exec (.flowClear c) s = .next (answer 0x0203 c s (.ok []) t) ∧ tfind n t.net.flows = none ∧
      (tfind n s.net.flows = none → t = withNet u { u.net with flows := tdel n s.net.flows })) ∧
  (∀ (c : Cmd) (s : State) (n : Nat), Taken 0x0203 c s → n = fld (cw c 4) 9 0 → c.port = .pf1 → (∀ x, tfind n s.net.flows = some x → (strGet s (flStream x.rcd)).opener ≠ .pf1) →
    exec (.flowClear c) s = .next (answer 0x0203 c s (.no 2 0) (takeCmd c s))) ∧
  (∀ (n m : Nat) (x : Flow) (t : Tab Flow), m ≠ n → tfind m (tset n x t) = tfind m t ∧ tfind m (tdel n t) = tfind m t)

/-- ETH_FRAME_RECEIVE on a port in service: a bad FCS counts, a parity error of the receive buffer counts and raises CUSTODY_FAIL, a PAUSE frame counts and is ignored, a frame too long, double-tagged, with a bad header or not accepted counts as filtered, and an accepted one is counted good and routed: a frame of a
control class to its class, a UDP packet that no flow matches and that is for no address of ours counts as unmatched, one that fails the SSRC or type check counts against its entry, and a video packet goes to its stream; the frames carry no other upset (log 6). A class without
tokens discards. A port out of service takes nothing. NET_LINK_CHANGE sets the link with NET_LINK, and a loss closes what R232 says. A timeout closes exactly the units whose time is
over: a lone coded unit that may be kept, while no path goes down with it, becomes one access unit at its place in decode order, with its bytes in sequence. A path silent for its time goes down; an interval that is over is reported and starts afresh. -/
def Obligations.ReceptionIsCheckedCountedAndRouted : Prop :=
  (∀ (p : Nat) (f : EthFrame) (s : State), p < 8 →
    (((netGet s p).en = false ∨ (netGet s p).up = false ∨ works s 4 = false) → exec (.ethFrameReceive p f) s = .next s) ∧
    ((netGet s p).en = true → (netGet s p).up = true → works s 4 = true → (∀ i ∈ portLaneList s p, laneOut s i = false) → f.faults = [] →
      (f.fcsOk = false → exec (.ethFrameReceive p f) s = .next (netCount p 2 s)) ∧
      (f.fcsOk = true → f.parityOk = false → exec (.ethFrameReceive p f) s = .next
        (raise 0x01 [custodyP0 0x01 3 16 p 0, pack [(31, 16, p), (15, 0, 1)], 0, 0, 0] (netCount p 3 s))) ∧
      (f.fcsOk = true → f.parityOk = true →
        (f.body = .pause → exec (.ethFrameReceive p f) s = .next (netUpd p (fun x => { x with pauses := sat32 (x.pauses + 1) }) (netCount p 1 s))) ∧
        (f.body ≠ .pause → (9600 < f.len ∨ 1 < f.tags ∨ f.ipBad = true ∨ filterPass s p f = false) → exec (.ethFrameReceive p f) s = .next (netCount p 4 (netCount p 1 s))) ∧
        (f.body ≠ .pause → f.len ≤ 9600 → f.tags ≤ 1 → f.ipBad = false → filterPass s p f = true →
          exec (.ethFrameReceive p f) s = .next (routeFrame p f (netCount p 1 s)))))) ∧
  (∀ (p : Nat) (f : EthFrame) (s : State),
    (∀ k, bodyClass f.body = some k → (∀ d, f.body = .udp d → flowLookup s p f d = none) → routeFrame p f s = classDeliver p k f s) ∧
    (∀ d, f.body = .udp d → flowLookup s p f d = none → bodyClass f.body = none → isUnicast s p f.dst = false → f.dst ≠ macBroadcast → routeFrame p f s = netCount p 5 s) ∧
    (∀ d n x, f.body = .udp d → flowLookup s p f d = some (n, x) → flChecks x.rcd d = false →
      routeFrame p f s = withNet s { s.net with flows := tset n { x with refused := sat32 (x.refused + 1) } s.net.flows }) ∧
    (∀ d n x h, f.body = .udp d → flowLookup s p f d = some (n, x) → flChecks x.rcd d = true → flKind x.rcd ≠ 3 → d.rtp = some h →
      routeFrame p f s = videoPacket p n x h (t0Ns s + f.stamp.ns) s) ∧
    (∀ k, ((classRefill (classGet s k) (t2Ns s)).rate = 0 ∨ (classRefill (classGet s k) (t2Ns s)).tokens < 1000000000) →
      classDeliver p k f s = classDrop k 1 (classSet k (classRefill (classGet s k) (t2Ns s)) s))) ∧
  (∀ (p : Nat) (s : State), p < 8 →
    ((netGet s p).up = false → (netGet s p).en = true → (∀ i ∈ portLaneList s p, (laneGet s i).ovl ≠ 4) → exec (.netLinkChange p true) s =
      .next (raise 0x11 [pack [(31, 29, p), (28, 28, 1)]] (netUpd p (fun x => { x with up := true }) s))) ∧
    ((netGet s p).up = true → exec (.netLinkChange p false) s =
      .next ((List.range 256).foldl (streamLinkDown p) (raise 0x11 [pack [(31, 29, p), (28, 28, 0)]] (netUpd p (fun x => { x with up := false }) s)))) ∧
    (∀ b, (netGet s p).up = b → exec (.netLinkChange p b) s = .next s)) ∧
  (∀ (k : Nat) (s : State) (e : StreamE), e = strGet s k →
    (strFormat e < 4 → (∀ v ∈ e.opens, holdOver e (t2Ns s) v = false) → exec (.accessUnitHoldTimeout k) s = .next s) ∧
    (4 ≤ strFormat e → exec (.accessUnitHoldTimeout k) s = .next s) ∧
    (strFormat e ≠ 4 → strFormat e ≠ 5 → exec (.receptionWindowTimeout k) s = .next s) ∧
    ((∀ v ∈ e.opens, holdOver e (t2Ns s) v = false ∧ t2Ns s < v.openedAt + 2 * (leAt v.rcd 8 8 / 2 ^ 32) + holdNs e v) → exec (.receptionWindowTimeout k) s = .next s) ∧
    (∀ (v : OpenUnit) (noWait : AccUnit → AccUnit), (∀ b, noWait b = { b with waitAt := none }) → e.opens = [v] → v.dropped = false → (e.wantRap = true ∨ (e.starting = true ∧ recWaitRap e.rcd = true) → v.rap = true) → recClass e.rcd < 2 →
      bufUsed e + ((auHeld e v).flatMap Held.bytes).length ≤ recBitbuf e.rcd * 2 ^ 20 →
      (e.merged = true → e.pathA.up = true → t2Ns s < e.pathA.at_ + recPathLoss e.rcd * 1000000) →
      (e.merged = true → e.pathB.up = true → t2Ns s < e.pathB.at_ + recPathLoss e.rcd * 1000000) →
      ((strFormat e < 4 ∧ holdOver e (t2Ns s) v = true) → ∃ t a, exec (.accessUnitHoldTimeout k) s = .next t ∧ (strGet t k).opens = [] ∧
        (strGet t k).aus.map noWait = (auInsert a e.aus).map noWait ∧ a.num = v.num ∧ a.origin = v.origin ∧ a.rap = v.rap ∧ a.closedAt = t2Ns s ∧
        a.blocks.flatMap Block.bytes = (auHeld e v).flatMap Held.bytes ∧ (∀ j, j ≠ k → strGet t j = strGet s j) ∧ t = { s with str := t.str }) ∧
      ((strFormat e = 5 ∧ (holdOver e (t2Ns s) v = true ∨ v.openedAt + 2 * (leAt v.rcd 8 8 / 2 ^ 32) + holdNs e v ≤ t2Ns s)) → ∃ t a,
        exec (.receptionWindowTimeout k) s = .next t ∧ (strGet t k).opens = [] ∧ (strGet t k).aus.map noWait = (auInsert a e.aus).map noWait ∧ a.num = v.num ∧
        a.closedAt = t2Ns s ∧ a.blocks.flatMap Block.bytes = (auHeld e v).flatMap Held.bytes ∧
        (∀ j, j ≠ k → strGet t j = strGet s j) ∧ t = { s with str := t.str }))) ∧
  (∀ (k p : Nat) (s : State) (e : StreamE) (x : Path), p < 2 → e = strGet s k → x = (if p = 0 then e.pathA else e.pathB) →
    (e.merged = true → x.up = true → x.at_ + recPathLoss e.rcd * 1000000 ≤ t2Ns s → exec (.pathLossTimeout k p) s =
      .next (raise 0x12 [pack [(31, 24, k), (23, 23, p), (22, 22, 0)], w32 (lowestOpen e)]
        (strSet k (if p = 0 then { e with pathA := { x with up := false } } else { e with pathB := { x with up := false } }) s))) ∧
    ((e.merged = false ∨ x.up = false ∨ t2Ns s < x.at_ + recPathLoss e.rcd * 1000000) → exec (.pathLossTimeout k p) s = .next s)) ∧
  (∀ (p : Nat) (s : State), p < 8 →
    (((netGet s p).en = false ∨ t2Ns s < tget 0 s.net.statsAt p + s.net.statsMs * 1000000) → exec (.ingestStatsInterval p) s = .next s) ∧
    ((netGet s p).en = true → tget 0 s.net.statsAt p + s.net.statsMs * 1000000 ≤ t2Ns s → ∃ t, exec (.ingestStatsInterval p) s = .next t ∧
      (netGet t p).stats = [] ∧ (netGet t p).cnt = (netGet s p).cnt ∧ tget 0 t.net.statsAt p = t2Ns s ∧ (∀ q, q ≠ p → netGet t q = netGet s q) ∧
      (∃ v n, t = withNet v n ∧ v = raise 0x10 (pack [(31, 29, p)] :: [1, 2, 3, 4, 5, 6, 7].map fun k => w32 (tget 0 (netGet s p).stats k)) s) ∧
      (maskBit s.hif.mask0 0x10 = false → maskBit s.hif.mask1 0x10 = false → maskBit s.hif.mask2 0x10 = false → t = withNet s t.net)))

/-- BB_QUAD_SET of a quad with no enabled input sets its split and gives its four inputs back their default images. BB_DPCD_LOAD of a disabled input waits for its data; its end, with the right CRC, stores the EDID image or a capability image without an excluded bit, and
a wrong CRC is a parameter error. BB_ENABLE raises IHPD once no lane of the input is in state 6. BB_DISABLE takes enable, IHPD and what the source wrote away. A link trained within the input's lanes is recorded with BB_LINK; a lost link pulses IRQ_HPD and ends
with BB_LINK 0, and a change of its status without loss pulses it with BB_LINK 4. The responder answers an EDID read with the image's bytes from the offset on, and forgets the segment once the I2C transaction ends. A frame on an input that is not enabled or trained changes nothing; one of a supported format that no stream names records only its arrival and its scan. -/
def Obligations.BasebandInputsFollowTheirRules : Prop :=
  (∀ (c : Cmd) (s u : State) (q : Nat), u = takeCmd c s → Taken 0x0205 c s → q = fld (cw c 2) 1 0 →
    ((∀ j, j < 4 → (bbGet s (4 * q + j)).en = false) → ∃ t, exec (.bbQuadSet c) s = .next (answer 0x0205 c s (.ok []) t) ∧ t = { u with bb := t.bb } ∧
      quadSplit t q = fld (cw c 2) 5 4 ∧ (∀ r, r ≠ q → quadSplit t r = quadSplit s r) ∧ (∀ j, j < 4 → bbGet t (4 * q + j) = {}) ∧
      (∀ n, n / 4 ≠ q → bbGet t n = bbGet s n)) ∧
    (∀ j, j < 4 → (bbGet s (4 * q + j)).en = true → (∀ i, i < j → (bbGet s (4 * q + i)).en = false) →
      exec (.bbQuadSet c) s = .next (answer 0x0205 c s (held 0xFF (4 * q + j)) u))) ∧
  (∀ (c : Cmd) (s u : State) (n : Nat), u = takeCmd c s → n = (cw c 4).toNat → n ≤ 15 → inputLanes s n ≠ 0 →
    (Taken 0x0206 c s → (cw c 5).toNat ≤ 1 → (bbGet s n).en = false →
      exec (.bbDpcdLoad c) s = .next (answer 0x0206 c s (.later n [(cw c 5).toNat, (cw c 6).toNat]) u)) ∧
    (Taken 0x0207 c s → bitOf s.pwr.domains 5 = true → bitOf s.pwr.iso 5 = false →
      (∀ j, j < inputLanes s n → (laneGet s (48 + n + j)).cal = true ∧ laneState u (48 + n + j) ≠ 6) →
      exec (.bbEnable c) s = .next (answer 0x0207 c s (.ok []) (bbSet n { bbGet s n with en := true, ihpd := true } u))) ∧
    (Taken 0x0207 c s → bitOf s.pwr.domains 5 = false → exec (.bbEnable c) s = .next (answer 0x0207 c s (held 0xFF 5) u)) ∧
    (Taken 0x0208 c s → (bbGet s n).trained = false → exec (.bbDisable c) s = .next (answer 0x0208 c s (.ok [])
      (bbSet n { bbGet s n with en := false, ihpd := false, d3 := false, dpcd := [], i2cOfs := 0, i2cSeg := 0 } u)))) ∧
  (∀ (s : State) (o : Outst) (d : List Byte), loadOutst s = some o → o.opcode = 0x0206 →
    (crc32c d ≠ o.arg.getD 1 0 → exec (.loadCopyEnd (some d)) s = .next (completeOutst o 1 24 [] s)) ∧
    (crc32c d = o.arg.getD 1 0 → o.arg.getD 0 0 = 1 → exec (.loadCopyEnd (some d)) s =
      .next (completeOutst o 0 0 [] (bbSet o.target { bbGet s o.target with edid := some d } s))) ∧
    (crc32c d = o.arg.getD 1 0 → o.arg.getD 0 0 = 0 → capBad d = none → exec (.loadCopyEnd (some d)) s =
      .next (completeOutst o 0 0 [] (bbSet o.target { bbGet s o.target with cap := some d } s)))) ∧
  (∀ (n lanes rate : Nat) (s : State),
    ((bbGet s n).en = true → (bbGet s n).ihpd = true → works s 5 = true → n ≤ 15 → 1 ≤ lanes → lanes ≤ inputLanes s n → rate ≤ 6 → inputUser s n = none →
      exec (.bbLinkTrained n lanes rate) s = .next (bbLink n 1 (bbSet n { bbGet s n with trained := true, lanes := lanes, rate := rate, prevArrival := none } s))) ∧
    (((bbGet s n).en = false ∨ inputLanes s n < lanes) → exec (.bbLinkTrained n lanes rate) s = .next s) ∧
    ((bbGet s n).trained = true → inputUser s n = none → exec (.bbLinkLoss ⟨n, true⟩) s =
      .next (send (.ihpdPulse n) (bbLink n 0 (bbSet n { bbGet s n with trained := false, d3 := false, prevArrival := none } s)))) ∧
    ((bbGet s n).trained = false → exec (.bbLinkLoss ⟨n, true⟩) s = .next s) ∧
    ((bbGet s n).en = true → (bbGet s n).ihpd = true → works s 5 = true → exec (.bbLinkLoss ⟨n, false⟩) s = .next (send (.ihpdPulse n) (bbLink n 4 s))) ∧
    ((bbGet s n).en = false → exec (.bbLinkLoss ⟨n, false⟩) s = .next s)) ∧
  (∀ (n : Nat) (x : AuxTrans) (s : State) (e : List Byte), (bbGet s n).en = true → works s 5 = true → inputLanes s n ≠ 0 → x.len ≤ 16 →
    (x.native = false → x.write = false → x.addr = 0x50 → (bbGet s n).edid = some e → exec (.bbAuxTransaction n x) s =
      .next (send (.auxReply n ((List.range x.len).map fun j => e.getD ((bbGet s n).i2cSeg * 256 + ((bbGet s n).i2cOfs + j) % 256) 0))
        (bbSet n { bbGet s n with i2cOfs := ((bbGet s n).i2cOfs + x.len) % 256, i2cSeg := if x.mot then (bbGet s n).i2cSeg else 0 } s))) ∧
    (x.native = true → x.write = true → x.data.length ≤ x.len → (∀ j, j < x.data.length → dpcdOwn (x.addr + j) = false) → ∃ t,
      exec (.bbAuxTransaction n x) s = .next (send (.auxReply n []) t) ∧ (∀ m, bbGet t m = bbGet s m) ∧ t = { s with bb := t.bb })) ∧
  (∀ (n : Nat) (x : AuxTrans) (s : State), (bbGet s n).en = false → exec (.bbAuxTransaction n x) s = .next s) ∧
  (∀ (n : Nat) (f : BbFrame) (s : State),
    (((bbGet s n).en = false ∨ (bbGet s n).trained = false ∨ (bbGet s n).d3 = true) → exec (.bbFrameArrival n f) s = .next s) ∧
    ((bbGet s n).en = true → (bbGet s n).trained = true → (bbGet s n).d3 = false → works s 5 = true → s.pwr.mode ≠ .bindOff → n ≤ 15 → inputLanes s n ≠ 0 →
      (∀ i ∈ inputLaneList s n, laneOut s i = false) → bbExcluded s n f = false → (bbGet s n).unsupported = false →
      (inputUser s n = none → exec (.bbFrameArrival n f) s =
        .next (bbSet n { bbGet s n with prevArrival := some (bbArrival f s), interlaced := f.interlaced } s)) ∧
      (∀ k, inputUser s n = some k → (strGet s k).st = 1 →
        exec (.bbFrameArrival n f) s = .next (bbUpd n (fun x => { x with prevArrival := some (bbArrival f s), interlaced := f.interlaced }) (bbStore n k f s)))))

/-- STREAM_OPEN by PF0 of a lawful record on a FREE entry that admission accepts makes the entry LIVE with that record and its engines; a baseband record whose input is not
trained makes it WAITING; a record out of range, a taken entry and a refused admission answer so and change nothing. STREAM_MODIFY stores the record for the next boundary.
STREAM_CLOSE drops what the stream had under reception and makes it CLOSING, which STREAM_CLOSING_RELEASE turns into FREE once no canvas frame being composed reads its surfaces, or two frame periods of the slowest output have passed. STREAM_ANCHOR stores an anchor for the next boundary,
ANCHOR_EXPIRY drops one that has outlived its life, STREAM_STATUS answers and changes nothing. WATCH_SET stores a setting that waits for its source's next frame,
which then holds, keeping the reference when only period or thresholds change and dropping it at a restart. The supply carries what they raise (R610). -/
def Obligations.StreamCommandsFollowTheirRules : Prop :=
  (∀ (c : Cmd) (s u : State) (k : Nat) (r : List Byte), u = takeCmd c s → Taken 0x0300 c s → k = strNo c → r = normRecord (crec c) → c.port = .pf0 →
    (recordBad r = none → (strGet s k).st = 0 → recFld r 0 31 28 ≠ 6 → supplyMet u (supplyNeeds 0x0300 opStreamOpen c u) = true →
      ∀ home, admitStream u u.str.ents r true = .ok home → ∃ t, exec (.streamOpen c) s = .next (answer 0x0300 c s (.ok []) t) ∧ (strGet t k).st = 1 ∧ (strGet t k).rcd = r ∧ (strGet t k).home = home ∧
        (strGet t k).opener = .pf0 ∧ (strGet t k).order = s.str.nextOrder ∧ t.str.nextOrder = s.str.nextOrder + 1 ∧ (∀ j, j ≠ k → strGet t j = strGet s j) ∧
        t.mem = s.mem ∧ t.net = s.net ∧ t.comp = s.comp ∧ t.scan = s.scan) ∧
    (recordBad r = none → (strGet s k).st = 0 → recFld r 0 31 28 = 6 → (bbGet s (recBbInput r)).trained = false → inputUser s (recBbInput r) = none →
      supplyMet u (supplyNeeds 0x0300 opStreamOpen c u) = true →
      ∃ t, exec (.streamOpen c) s = .next (answer 0x0300 c s (.ok []) t) ∧ (strGet t k).st = 4 ∧ (strGet t k).rcd = r ∧ (∀ j, j ≠ k → strGet t j = strGet s j)) ∧
    (∀ n, recordBad r = some n → exec (.streamOpen c) s = .next (answer 0x0300 c s (badRecord n) u)) ∧
    (recordBad r = none → (strGet s k).st ≠ 0 → exec (.streamOpen c) s = .next (answer 0x0300 c s (held (openerOf (strGet s k)) k) u)) ∧
    (∀ x, recordBad r = none → (strGet s k).st = 0 → recFld r 0 31 28 ≠ 6 → admitStream u u.str.ents r true = .no x → exec (.streamOpen c) s = .next (answer 0x0300 c s x u))) ∧
  (∀ (c : Cmd) (s u : State) (k : Nat) (e : StreamE) (r cur : List Byte), u = takeCmd c s → Taken 0x0301 c s → k = strNo c → e = strGet s k → r = normRecord (crec c) → cur = e.next.getD e.rcd →
    c.port = .pf0 → e.st ≠ 0 → e.st ≠ 5 →
    (recordBad r = none → reopenDiffers cur r = none → recFld cur 0 25 15 = recFld r 0 25 15 → s.str.shed = [] → supplyMet u (supplyNeeds 0x0301 opStreamModify c u) = true →
      exec (.streamModify c) s = .next (answer 0x0301 c s (.ok []) (strSet k { e with next := some r, nextHome := some (accepted e).home } u))) ∧
    (∀ n, recordBad r = none → reopenDiffers cur r = some n → exec (.streamModify c) s = .next (answer 0x0301 c s (badRecord n) u))) ∧
  (∀ (c : Cmd) (s u : State) (k : Nat), u = takeCmd c s → k = strNo c → c.port = .pf0 → (strGet s k).st ≠ 0 → (strGet s k).st ≠ 5 →
    (Taken 0x0302 c s → ∃ t, exec (.streamClose c) s = .next (answer 0x0302 c s (.ok []) t) ∧
      strGet t k = { strGet s k with st := 5, home := [], nextHome := none, opens := [], aus := [], closedAt := t2Ns s } ∧ t.mem = s.mem ∧ t.net = s.net ∧ t.comp = s.comp) ∧
    (Taken 0x0303 c s → (cw c 8).toNat < 1000000000 → exec (.streamAnchor c) s = .next (answer 0x0303 c s (.ok [])
      (strSet k { strGet s k with anchorNext := some { rtp := cw c 5, ns := w64of (cw c 6) (cw c 7) * 1000000000 + (cw c 8).toNat, at_ := t2Ns s } } u)))) ∧
  (∀ (c : Cmd) (s u : State), u = takeCmd c s → ((strGet s (strNo c)).st = 0 ∨ (strGet s (strNo c)).st = 5) →
    (Taken 0x0302 c s → exec (.streamClose c) s = .next (answer 0x0302 c s (badField 16) u)) ∧
    (Taken 0x0303 c s → exec (.streamAnchor c) s = .next (answer 0x0303 c s (badField 16) u)) ∧
    (Taken 0x0301 c s → exec (.streamModify c) s = .next (answer 0x0301 c s (badField 16) u))) ∧
  (∀ (k : Nat) (s : State),
    ((strGet s k).st = 5 → (readFrames s k = [] ∨ (strGet s k).closedAt + 2 * slowestPeriod s ≤ t2Ns s) → ∃ t, exec (.streamClosingRelease k) s = .next t ∧ strGet t k = {} ∧ (∀ j, j ≠ k → strGet t j = strGet s j) ∧ t.mem = s.mem) ∧
    (((strGet s k).st ≠ 5 ∨ (readFrames s k ≠ [] ∧ t2Ns s < (strGet s k).closedAt + 2 * slowestPeriod s)) → exec (.streamClosingRelease k) s = .next s) ∧
    (∀ a, (strGet s k).anchor = some a → a.at_ + recAnchorLife (strGet s k).rcd * 1000000000 < t2Ns s →
      exec (.anchorExpiry k) s = .next (strSet k { strGet s k with anchor := none } s)) ∧
    (∀ a, (strGet s k).anchor = some a → t2Ns s ≤ a.at_ + recAnchorLife (strGet s k).rcd * 1000000000 → exec (.anchorExpiry k) s = .next s) ∧
    ((strGet s k).anchor = none → exec (.anchorExpiry k) s = .next s)) ∧
  (∀ (c : Cmd) (s u : State), u = takeCmd c s → Taken 0x0307 c s → ∃ ws, exec (.streamStatus c) s = .next (answer 0x0307 c s (.ok ws) u) ∧ ws.length = 5 ∧
    (∀ f, (strGet s (strNo c)).frames.getLast? = some f → wd ws 1 = w32 f.num ∧ wd ws 2 = w32 (f.origin / 1000000000) ∧ wd ws 3 = w32 (f.origin % 1000000000) ∧ wd ws 4 = w32 f.tainted)) ∧
  (∀ (c : Cmd) (s u : State) (n : Nat) (old : Watch) (new : WatchCfg), u = takeCmd c s → Taken 0x0304 c s → n = fld (cw c 2) 8 0 → old = tget {} s.str.watches n → new = watchNew c →
    1 ≤ new.w → new.w ≤ 256 → 1 ≤ new.h → new.h ≤ 64 → 100 ≤ new.period → new.period ≤ 60000 → new.cntThr ≤ 16384 →
    (((watchLast old).stream = new.stream ∨ windowNamed u (watchLast old).stream n = false) → exec (.watchSet c) s = .next (answer 0x0304 c s (.ok [])
      (withStr u { u.str with watches := tset n { old with next := some ((strGet s new.stream).nextFrame,
        watchRestarts (watchLast old) new || (match old.next with | some x => x.2.1 | none => false), new) } s.str.watches }))) ∧
    ((watchLast old).stream ≠ new.stream → windowNamed u (watchLast old).stream n = true → exec (.watchSet c) s = .next (answer 0x0304 c s (held 0xFF n) u))) ∧
  (∀ (k num first : Nat) (restart : Bool) (w : Watch) (c : WatchCfg), w.next = some (first, restart, c) →
    (c.stream = k → first ≤ num → restart = true → (watchSettle k num w).ref = none ∧ (watchSettle k num w).toWatchCfg = c) ∧
    (c.stream = k → first ≤ num → restart = false → (watchSettle k num w).ref = w.ref ∧ (watchSettle k num w).changed = w.changed ∧ (watchSettle k num w).toWatchCfg = c) ∧
    ((c.stream ≠ k ∨ num < first) → watchSettle k num w = w))

/-- CORE_RETIRE of an engine in service that is idle, and without which every decoding stream's width is still served, retires it at once, and one at work once its frame ends; CORE_RETURN of a retired engine starts its self-test, whose success returns it to service empty and whose failure
keeps it out. DECODE_DISPATCH leaves an engine that is not free alone, and an unreserved row pipeline takes the ready pooled frame of smallest key: its access unit is started and stands as the engine's job. BLOCK_ROW_BOUNDARY takes a
frame of class 2 or 3 off an unreserved engine only where a ready pooled frame of class 0 or 1 can run there. DECODE_PICTURE_DONE and ENGINE_WATCHDOG on an idle engine, and the watchdog before four frame periods, change nothing; a context failure and an unsupported syntax end the work and
discard up to the next random access point, and a picture is stored. A frame without a free surface is marked, and reported once after a frame period. The meter demotes exactly the streams above 105 % of what they declare. REFRESH_WANTED repeats at its interval.
A lost AV1 slot gives no reference without an identifier, and film grain alters the samples of a picture that carries it. -/
def Obligations.EnginesTakeAndFinishWork : Prop :=
  (∀ (c : Cmd) (s u : State) (n : Nat), u = takeCmd c s → n = fld (cw c 4) 4 0 → n ≤ 23 →
    (Taken 0x0305 c s → (engGet s n).st = 0 → (engGet s n).held = [] → (s.str.ents.any fun x => x.2.st == 1 && decodes x.2 && !widthServed u n (recWidth x.2.rcd)) = false →
      (∀ j, (engGet s n).job = some j → exec (.coreRetire c) s = .next (answer 0x0305 c s (.ok []) (coreState n 1 1 0 (engSet n { engGet s n with st := 1, cause := 1 } u)))) ∧
      ((engGet s n).job = none → ∃ t, exec (.coreRetire c) s = .next (answer 0x0305 c s (.ok []) t) ∧ (engGet t n).st = 2 ∧ (engGet t n).job = none ∧ (engGet t n).held = [] ∧
        (∀ m, m ≠ n → engGet t m = engGet s m) ∧ t.mem = s.mem)) ∧
    (Taken 0x0305 c s → (engGet s n).st ≠ 0 → exec (.coreRetire c) s = .next (answer 0x0305 c s (badField 16) u)) ∧
    (Taken 0x0306 c s → ((engGet s n).st = 2 ∨ (engGet s n).st = 4) →
      exec (.coreReturn c) s = .next (answer 0x0306 c s (.ok []) (coreState n 3 4 0 (engSet n { engGet s n with st := 3, cause := 4 } u)))) ∧
    (Taken 0x0306 c s → (engGet s n).st = 0 → exec (.coreReturn c) s = .next (answer 0x0306 c s (badField 16) u))) ∧
  (∀ (n : Nat) (s : State),
    ((engGet s n).st = 3 → s.str.shed = [] → exec (.coreSelftestDone n true) s = .next (coreState n 0 4 0 (engSet n {} s))) ∧
    ((engGet s n).st = 3 → exec (.coreSelftestDone n false) s = .next (coreState n 4 4 0 (engSet n { engGet s n with st := 4 } s))) ∧
    (∀ b, (engGet s n).st ≠ 3 → exec (.coreSelftestDone n b) s = .next s)) ∧
  (∀ (n : Nat) (s : State),
    (engFree s n = false → exec (.decodeDispatch n) s = .next s) ∧
    (∀ k a, n < 16 → engFree s n = true → gangOf s n = none → pinnedTo s n = [] → readyAu (strGet s k) = some a →
      bestOf ((readyList s).filter fun x => isPooled (strGet s x.1) && takesPooled s n (readyWidth s x.1) (strGet s x.1).rcd) = some k →
      (engGet s n).held = [] →
      ∃ t, exec (.decodeDispatch n) s = .next t ∧ (engGet t n).job = some { stream := k, au := a.num, startedAt := t2Ns s, borrowed := false, gang := [n], loaded := ((strGet s k).ctxAt.isNone || (strGet s k).ctxAt != some n) } ∧ (strGet t k).ctxAt = some n ∧
        (∀ m, m ≠ n → engGet t m = engGet s m) ∧ (∀ j, j ≠ k → strGet t j = strGet s j) ∧ (∀ b ∈ (strGet t k).aus, b.num = a.num → b.started = true) ∧ t = { s with str := t.str }) ∧
    ((engGet s n).job = none → exec (.blockRowBoundary n) s = .next s) ∧
    (readyList s = [] → exec (.blockRowBoundary n) s = .next s) ∧
    (∀ j, (engGet s n).job = some j → (engGet s n).st ≠ 0 → exec (.blockRowBoundary n) s = .next s) ∧
    (∀ j, (engGet s n).job = some j → pinnedTo s n = [] → gangOf s n = none → runClass s (strGet s j.stream) < 2 → exec (.blockRowBoundary n) s = .next s) ∧
    (∀ j, (engGet s n).job = some j → pinnedTo s n = [] → gangOf s n = none → (engGet s n).st = 0 → 2 ≤ runClass s (strGet s j.stream) →
      (∃ x ∈ readyList s, runClass s (strGet s x.1) < 2 ∧ isPooled (strGet s x.1) = true ∧ takesAlone s n (readyWidth s x.1) (strGet s x.1).rcd = true) →
      exec (.blockRowBoundary n) s = .next (dispatch n (preemptPool j s)))) ∧
  (∀ (n : Nat) (p : DecPicture) (s : State),
    ((engGet s n).job = none → exec (.decodePictureDone n p) s = .next s ∧ exec (.engineWatchdog ⟨n, p⟩) s = .next s) ∧
    (∀ j a e, (engGet s n).job = some j → e = strGet s j.stream → (e.aus.find? fun a => a.num == j.au) = some a →
      (p.contextFailed = true → j.loaded = true → exec (.decodePictureDone n p) s =
        .next (refreshWanted j.stream (decodeError j.stream 6 n a.num 0 (strUpd j.stream discardToRap (endJob j s))))) ∧
      (p.contextFailed = false → p.showSlot = none → pictureUnsupported e p = true → e.st ≠ 3 → exec (.decodePictureDone n p) s =
        .next (setStream j.stream 3 4 (decodeError j.stream 4 n a.num 0 (strUpd j.stream discardToRap (endJob j s))))) ∧
      (∀ slot, p.contextFailed = false → p.showSlot = none → p.last = true → pictureUnsupported e p = false → decSlot s j.stream = some slot → e.st ≠ 3 →
        exec (.decodePictureDone n p) s = .next (retireBad (j.gang.take (Nat.max 1 p.pieces)) (endJob j (strUpd j.stream (unitEnds a)
          (coreRuns j.stream (j.gang.take (Nat.max 1 p.pieces)) p.faults (storePicture n j a p [] [] slot s)))))) ∧
      (∀ slot, p.contextFailed = false → p.showSlot = none → p.last = false → pictureUnsupported e p = false → decSlot s j.stream = some slot → e.st ≠ 3 →
        exec (.decodePictureDone n p) s = .next (retireBad (j.gang.take (Nat.max 1 p.pieces))
          (coreRuns j.stream (j.gang.take (Nat.max 1 p.pieces)) p.faults (storePicture n j a p [] [] slot s)))) ∧
      (∀ q x, p.contextFailed = false → strFormat e = 2 → p.showSlot = some q → p.last = true → p.faults = [] → tfind q e.slots = some x → x.lost = false →
        e.lastAu = some a.num → exec (.decodePictureDone n p) s =
          .next (endJob j (strUpd j.stream (unitEnds a) (showPicture j.stream x.pic [] a (strUpd j.stream (unitBegins a) s))))) ∧
      (t2Ns s < j.startedAt + 4 * strPeriodNs e → exec (.engineWatchdog ⟨n, p⟩) s = .next s) ∧
      (∀ slot dogs, decSlot s j.stream = some slot → pictureUnsupported e p = false → j.startedAt + 4 * strPeriodNs e ≤ t2Ns s →
        dogs = ((engGet s n).wdogs.filter fun x => s.tb.t2.sec.toNat < x + 60) ++ [s.tb.t2.sec.toNat] → dogs.length < 3 →
        exec (.engineWatchdog ⟨n, p⟩) s = .next (engUpd n (fun x => { x with wdogs := dogs }) (endJob j (storePicture n j a p
          ((stitches { base := 0, fmt := 0, w := p.w, h := p.h }).filter fun q => !p.written.contains q) [5] slot s)))))) ∧
  (∀ (k : Nat) (s : State) (e : StreamE), e = strGet s k →
    ((readyAu e = none ∨ decSlot s k ≠ none) → exec (.decodeStall k) s = .next s) ∧
    (∀ a as, e.aus = a :: as → readyAu e = some a → decSlot s k = none → a.waitAt = none → 0 < strPeriodNs e → (∀ b ∈ as, b.num ≠ a.num) →
      exec (.decodeStall k) s = .next (strSet k { e with aus := { a with waitAt := some (t2Ns s) } :: as } s)) ∧
    (∀ a as x, e.aus = a :: as → readyAu e = some a → decSlot s k = none → a.waitAt = some x → a.stalled = false → x + strPeriodNs e ≤ t2Ns s → (∀ b ∈ as, b.num ≠ a.num) →
      exec (.decodeStall k) s = .next (raise 0x1D [pack [(31, 24, k)], w32 e.nextFrame] (strSet k { e with aus := { a with stalled := true } :: as } s))) ∧
    (∀ t, e.taintAt = some t → isLive e = true → e.refreshAt ≤ t2Ns s → exec (.refreshWanted k) s =
      .next (refreshWanted k (strSet k { e with refreshAt := e.refreshAt + recRefresh e.rcd * 1000000 } s))) ∧
    ((e.taintAt = none ∨ t2Ns s < e.refreshAt) → exec (.refreshWanted k) s = .next s)) ∧
  (∀ s : State, ∃ t, exec .overrateMeter s = .next t ∧ (∀ k, k < 256 → strGet t k = { strGet s k with demoted := (strGet s k).demoted ||
      (isLive (strGet s k) && (strGet s k).meterSec == s.tb.t2.sec.toNat && fmtCoded (strFormat (strGet s k)) && overrate (strGet s k)) }) ∧ t.mem = s.mem ∧ t.tb = s.tb) ∧
  (∀ (e : StreamE) (r : RefEntry) (x : RefSlot), strFormat e = 2 → tfind r.key.toNat e.slots = some x → r.id = none → x.lost = true → resolveRef e r = none) ∧
  (∀ (p : DecPicture) (c x y v : Nat), (p.grain = none → grained p c x y v = v) ∧
    (∀ seed ps, p.grain = some (seed, ps) → grained p c x y v = Config.filmGrain seed ps c (y * p.w + x) v % (if p.depth10 then 1024 else 256)))

/-- LEDGER_WRITE by PF0 of 1 to 16 lawful entries stages them at their numbers and records the numbers; PF1 may not stage one that differs in more than its budget. LEDGER_COMMIT of a staging ledger that
keeps the rules of R322, with room for one more generation and an effective time not before the last one's, appends one generation with that identifier, time and ledger, owed LEDGER_APPLIED by
every source that it changes; where a rule is broken it is a parameter error with the rule's lowest entry, with eight commits waiting RESOURCE_HELD. LEDGER_GENERATION_COPY copies the oldest generation that is not yet copied and no other. A stitch is governed by the
lowest rectangle entry that holds it, else by the source's default region, else has a budget of 20 ms. -/
def Obligations.LedgerIsStagedCommittedAndCopied : Prop :=
  (∀ (c : Cmd) (s u : State) (n : Nat), u = takeCmd c s → Taken 0x0400 c s → n = fld (cw c 4) 4 0 → 1 ≤ n → n ≤ 16 →
    (c.port = .pf0 → (∀ i, i < n → entryBad (writeEntry c i) = none) → ∃ st, exec (.ledgerWrite c) s = .next (answer 0x0400 c s (.ok [])
        (withLedger u { u.comp.ledger with staging := st, staged := s.comp.ledger.staged ++ (List.range n).map (writeNumber c) })) ∧
      (∀ m, (∀ i, i < n → writeNumber c i ≠ m) → tfind m st = tfind m s.comp.ledger.staging) ∧
      (∀ i, i < n → (∀ j, i < j → j < n → writeNumber c j ≠ writeNumber c i) → tfind (writeNumber c i) st = some (writeEntry c i))) ∧
    (c.port = .pf0 → ∀ i x, i < n → entryBad (writeEntry c i) = some x → (∀ j, j < i → entryBad (writeEntry c j) = none) →
      exec (.ledgerWrite c) s = .next (answer 0x0400 c s (badRecord (32 * i + x)) u)) ∧
    (c.port = .pf1 → ∀ i, i < n → pf1Entry (tget [] s.comp.ledger.staging (writeNumber c i)) (writeEntry c i) s.hif.pf1 = false →
      exec (.ledgerWrite c) s = .next (answer 0x0400 c s (.no 2 0) u))) ∧
  (∀ (c : Cmd) (s u : State) (e : Nat) (l : Ledger), u = takeCmd c s → Taken 0x0401 c s → e = commitE c s → l = s.comp.ledger → (cw c 5).toNat < 1000000000 →
    (ledgerPending s < 8 → (∀ g, l.gens.getLast? = some g → g.e ≤ e) →
      (ledgerBroken l.staging u = none → tallyCount l.staging 0 u ≤ 64 → exec (.ledgerCommit c) s = .next (answer 0x0401 c s (.ok [])
        (withLedger u { l with staged := [], gens := l.gens ++ [{ id := cw c 2, e := e, table := l.staging, waiting := changedSources (ledgerLatest s) l.staging }] }))) ∧
      (∀ k, ledgerBroken l.staging u = some k → exec (.ledgerCommit c) s = .next (answer 0x0401 c s (badRule k) u)) ∧
      (ledgerBroken l.staging u = none → 64 < tallyCount l.staging 0 u → exec (.ledgerCommit c) s = .next (answer 0x0401 c s (held 0xFF 64) u))) ∧
    ((8 ≤ ledgerPending s ∨ ∃ g, l.gens.getLast? = some g ∧ e < g.e) → exec (.ledgerCommit c) s = .next (answer 0x0401 c s (held 0xFF 0) u))) ∧
  (∀ s : State, ∃ gs, exec .ledgerGenerationCopy s = .next (withLedger s { s.comp.ledger with gens := gs }) ∧ gs.length = s.comp.ledger.gens.length ∧
    (∀ (i : Nat) (g : Gen), s.comp.ledger.gens[i]? = some g → g.copied = false → (∀ (j : Nat) (h : Gen), j < i → s.comp.ledger.gens[j]? = some h → h.copied = true) → gs[i]? = some { g with copied := true } ∧
      ∀ j, j ≠ i → gs[j]? = s.comp.ledger.gens[j]?) ∧ ((∀ g ∈ s.comp.ledger.gens, g.copied = true) → gs = s.comp.ledger.gens)) ∧
  (∀ (t : Tab (List W32)) (k x y : Nat), ((∀ z ∈ t, leValid z.2 = true → leStream z.2 = k → leDefault z.2 = false ∧ leHolds z.2 x y = false) → budgetOf t k x y = 20) ∧
    (∀ e, govern t k x y = some e → budgetOf t k x y = leBudget e ∧ leStream e = k ∧ leValid e = true ∧ (leHolds e x y = true ∨ leDefault e = true)))

/-- CANVAS_SET of a canvas that nothing reads, with a lawful size, aligned buffers and fetch limit, sets it and drops what was composed for it. LAYER_SET of a lawful record into an open pending bank stores it at its slot, and BANK_PARAM_SET the bank's parameters; each is RESOURCE_HELD
while a commit keeps the bank closed, and CANVAS_SET also while an output or an encode channel reads the canvas. COEF_LOAD, XFER_LOAD and STILL_LOAD wait for their data, unless what they load is in use or, for a still, lies in no stitch-interleaved window: with the right CRC and contents
COEF_LOAD's end sets a coefficient bank of the pending bank and XFER_LOAD's a transfer table; with a wrong CRC or contents it changes nothing but the completion; STILL_LOAD's, which carries no CRC, writes the still's bytes and records its size. LAYOUT_COMMIT in time over set canvases of one generator, within its rules, the slots, the tally layers and the capacity,
schedules one commit and assigns the encode channels anew; against the slots or the tally layers it is RESOURCE_HELD, past the capacity OVER_CAPACITY, and it is LATE after its cut (the supply carries what it raises, R610); LAYOUT_CANCEL in time takes out the first commit with that identifier. -/
def Obligations.LayoutIsPreparedAndCommitted : Prop :=
  (∀ (c : Cmd) (s u : State) (k w h fetch lf : Nat) (old : Canvas), u = takeCmd c s → Taken 0x0402 c s → k = (cw c 2).toNat → w = fld (cw c 3) 15 0 → h = fld (cw c 3) 31 16 →
    fetch = (if (cw c 11).toNat = 0 then 200 else (cw c 11).toNat) → old = canGet s k → k ≤ 63 → 64 ≤ w → w ≤ 32768 → w % 2 = 0 → 64 ≤ h → h ≤ 16384 → 20 ≤ fetch → fetch ≤ 1000 →
    (bitOf (cw c 4) 0 = true → k < 48) → (bitOf (cw c 4) 1 = true ∨ (old.active.bgAlpha = 3 ∧ old.pend.bgAlpha = 3)) → bufOk s (w64of (cw c 5) (cw c 6)) w h = true →
    bufOk s (w64of (cw c 7) (cw c 8)) w h = true → lf = w64of (cw c 9) (cw c 10) →
    (lf = 0 ∨ (k < 48 ∧ bufOk s lf w h = true)) →
    (scanners s k = [] → encReads s k = false → bankClosed s k = false → ∃ x, exec (.canvasSet c) s = .next (answer 0x0402 c s (.ok []) (canSet k x u)) ∧
      x.set = true ∧ x.w = w ∧ x.h = h ∧ x.premul = bitOf (cw c 4) 1 ∧ x.chase = bitOf (cw c 4) 0 ∧ x.buf0 = w64of (cw c 5) (cw c 6) ∧ x.buf1 = w64of (cw c 7) (cw c 8) ∧
      x.life = lf ∧ x.gen = fld (cw c 12) 2 0 ∧ x.fetch = fetch ∧ x.rescan = none ∧ x.job = none ∧ x.tail = none ∧ x.last = none ∧ x.rowLog = [] ∧ x.lives = [] ∧ x.active.layers = old.active.layers ∧ x.pend.layers = old.pend.layers ∧
      (old.chase = x.chase → x.active = old.active ∧ x.pend = old.pend) ∧
      (old.chase ≠ x.chase → x.active = { old.active with allow := 2, lead := 240 } ∧ x.pend = { old.pend with allow := 2, lead := 240 })) ∧
    ((scanners s k ≠ [] ∨ encReads s k = true ∨ bankClosed s k = true) → exec (.canvasSet c) s = .next (answer 0x0402 c s (held 0xFF k) u))) ∧
  (∀ (c : Cmd) (s u : State) (r : List W32) (k : Nat), u = takeCmd c s → Taken 0x0403 c s → r = wordsOf 16 (padB 64 (crec c)) → k = lrCanvas r → (canGet s k).set = true → layerBad r s = none →
    (bankClosed s k = false → (lrEnable r = true → slotHolder s k (lrSlot r) = none) → exec (.layerSet c) s = .next (answer 0x0403 c s (.ok [])
      (canUpd k (fun x => { x with pend := { x.pend with layers := tset (lrSlot r) r x.pend.layers } }) u))) ∧
    (bankClosed s k = true → exec (.layerSet c) s = .next (answer 0x0403 c s (held 0xFF k) u)) ∧
    (∀ o, bankClosed s k = false → lrEnable r = true → slotHolder s k (lrSlot r) = some o → exec (.layerSet c) s = .next (answer 0x0403 c s (held 0xFF (lrSlot r)) u))) ∧
  (∀ (c : Cmd) (s u : State) (k l lead life : Nat) (x : Canvas), u = takeCmd c s → Taken 0x0404 c s → k = (cw c 2).toNat → x = canGet s k → k ≤ 63 → x.set = true →
    l = (if fld (cw c 3) 6 0 = 0 then 2 else fld (cw c 3) 6 0) → lead = (if (cw c 4).toNat = 0 then 240 else (cw c 4).toNat) → life = (if fld (cw c 5) 15 0 = 0 then 1000 else fld (cw c 5) 15 0) →
    (if x.chase = true then 2 ≤ l ∧ l ≤ 64 ∧ 240 ≤ lead ∧ lead ≤ 4000 else 1 ≤ l ∧ l ≤ 8) → (bitOf (cw c 5) 31 = true ∨ x.life ≠ 0) → 100 ≤ life → life ≤ 10000 →
    (x.premul = true ∨ fld (cw c 9) 1 0 = 3) →
    (bankClosed s k = false → exec (.bankParamSet c) s = .next (answer 0x0404 c s (.ok []) (canSet k { x with pend := { x.pend with
      allow := l, lead := if x.chase then lead else x.pend.lead, purl := bitOf (cw c 5) 31, lifeMs := life, colA := cw c 6, colB := cw c 7,
      bg := cw c 8, bgAlpha := fld (cw c 9) 1 0 } } u))) ∧
    (bankClosed s k = true → exec (.bankParamSet c) s = .next (answer 0x0404 c s (held 0xFF k) u))) ∧
  (∀ (c : Cmd) (s u : State) (k w h : Nat), u = takeCmd c s → k = (cw c 4).toNat → w = fld (cw c 5) 15 0 → h = fld (cw c 5) 31 16 →
    (Taken 0x0405 c s → k ≤ 63 → (canGet s k).set = true → (cw c 5).toNat ≤ 3 → bankClosed s k = false →
      exec (.coefLoad c) s = .next (answer 0x0405 c s (.later k [(cw c 5).toNat, (cw c 6).toNat]) u)) ∧
    (Taken 0x0406 c s → k ≤ 15 → anyLayer s (fun r => lrXferEn r && lrXfer r == k) = false → exec (.xferLoad c) s = .next (answer 0x0406 c s (.later k [(cw c 6).toNat]) u)) ∧
    (Taken 0x0407 c s → k ≤ 255 → 1 ≤ w → w ≤ 7680 → 1 ≤ h → h ≤ 4320 → bufOk s (stillSurf k w h).base w h = true → anyLayer s (fun r => lrStill r && lrSource r == k) = false →
      exec (.stillLoad c) s = .next (answer 0x0407 c s (.later k [w, h, portInit c.port]) u)) ∧
    (Taken 0x0407 c s → k ≤ 255 → 1 ≤ w → w ≤ 7680 → 1 ≤ h → h ≤ 4320 → bufOk s (stillSurf k w h).base w h = true → anyLayer s (fun r => lrStill r && lrSource r == k) = true →
      exec (.stillLoad c) s = .next (answer 0x0407 c s (held 0xFF k) u)) ∧
    (Taken 0x0407 c s → k ≤ 255 → 1 ≤ w → w ≤ 7680 → 1 ≤ h → h ≤ 4320 → bufOk s (stillSurf k w h).base w h = false →
      exec (.stillLoad c) s = .next (answer 0x0407 c s (badField 16) u)) ∧
    (Taken 0x0405 c s → k ≤ 63 → (canGet s k).set = true → (cw c 5).toNat ≤ 3 → bankClosed s k = true → exec (.coefLoad c) s = .next (answer 0x0405 c s (held 0xFF k) u)) ∧
    (Taken 0x0406 c s → k ≤ 15 → anyLayer s (fun r => lrXferEn r && lrXfer r == k) = true → exec (.xferLoad c) s = .next (answer 0x0406 c s (held 0xFF k) u))) ∧
  (∀ (s : State) (o : Outst) (d : List Byte), loadOutst s = some o →
    (o.opcode = 0x0405 → crc32c d = o.arg.getD 1 0 → coefBad d = false → exec (.loadCopyEnd (some d)) s = .next (completeOutst o 0 0 []
      (canUpd o.target (fun x => { x with pend := { x.pend with coefs := tset (o.arg.getD 0 0) (coefsOf d) x.pend.coefs } }) s))) ∧
    (o.opcode = 0x0405 → crc32c d ≠ o.arg.getD 1 0 → exec (.loadCopyEnd (some d)) s = .next (completeOutst o 1 24 [] s)) ∧
    (o.opcode = 0x0405 → crc32c d = o.arg.getD 1 0 → coefBad d = true → exec (.loadCopyEnd (some d)) s = .next (completeOutst o 1 0x10000 [] s)) ∧
    (o.opcode = 0x0406 → (crc32c d ≠ o.arg.getD 0 0 ∨ d.length ≠ 2048) → exec (.loadCopyEnd (some d)) s = .next (completeOutst o 1 24 [] s)) ∧
    (o.opcode = 0x0406 → crc32c d = o.arg.getD 0 0 → d.length = 2048 → (∃ i, i < 1024 ∧ 65472 < leAt d (2 * i) 2) →
      exec (.loadCopyEnd (some d)) s = .next (completeOutst o 1 0x10000 [] s)) ∧
    (o.opcode = 0x0406 → crc32c d = o.arg.getD 0 0 → d.length = 2048 → (∀ i, i < 1024 → leAt d (2 * i) 2 ≤ 65472) → exec (.loadCopyEnd (some d)) s =
      .next (completeOutst o 0 0 [] (withComp s { s.comp with xfers := tset o.target ((List.range 1024).map fun i => leAt d (2 * i) 2) s.comp.xfers }))) ∧
    (∀ w h v, o.opcode = 0x0407 → w = o.arg.getD 0 0 → h = o.arg.getD 1 0 →
      v = (busWrite (o.arg.getD 2 0) 23 (bufBytes w h / 4096 + 2) (stillSurf o.target w h).base (d.take (bufBytes w h)) s).2 →
      exec (.loadCopyEnd (some d)) s = .next (completeOutst o 0 0 [] (withComp v { v.comp with stills := tset o.target { w := w, h := h } v.comp.stills })) ∧
      v.comp = s.comp ∧ v.scan = s.scan)) ∧
  (∀ (c : Cmd) (s u : State) (m : W64) (cs : List Nat) (g n : Nat), u = takeCmd c s → Taken 0x0408 c s → m = BitVec.ofNat 64 (w64of (cw c 2) (cw c 3)) → cs = canvasesOf m → cs ≠ [] →
    (∀ k ∈ cs, (canGet s k).set = true ∧ canvasGen s k = some g ∧ bankBad s k = false ∧ bankClosed s k = false) → n = frameNamed (flGet s g) (cw c 4) →
    (∀ x, slotClash s cs = some x → exec (.layoutCommit c) s = .next (answer 0x0408 c s (held 0xFF x) u)) ∧
    (slotClash s cs = none → 64 < tallyCount (ledgerLatest s) m u → exec (.layoutCommit c) s = .next (answer 0x0408 c s (held 0xFF 64) u)) ∧
    (slotClash s cs = none → tallyCount (ledgerLatest s) m u ≤ 64 → capacityOk u m = false → exec (.layoutCommit c) s = .next (answer 0x0408 c s overCap u)) ∧
    (slotClash s cs = none → tallyCount (ledgerLatest s) m u ≤ 64 → capacityOk u m = true → (flGet s g).next ≤ n + 1 → (∀ k ∈ cs, t0Ns s + 2000000 ≤ commitCut s k n) → supplyMet u (supplyNeeds 0x0408 opLayoutCommit c u) = true → exec (.layoutCommit c) s = .next (answer 0x0408 c s (.ok [])
      (encAssign none (withComp u { u.comp with commits := s.comp.commits ++ [{ mask := m, frame := n, id := cw c 5, gen := g }] })))) ∧
    (slotClash s cs = none → tallyCount (ledgerLatest s) m u ≤ 64 → capacityOk u m = true → (n + 1 < (flGet s g).next ∨ ∃ k ∈ cs, commitCut s k n < t0Ns s + 2000000) → exec (.layoutCommit c) s = .next (answer 0x0408 c s (.no 5 0) u))) ∧
  (∀ (c : Cmd) (s u : State), u = takeCmd c s → Taken 0x0409 c s →
    (∀ k, (s.comp.commits.find? fun k => !k.applied && k.id == cw c 5) = some k →
      ((∀ x ∈ canvasesOf k.mask, t0Ns s + 2000000 ≤ commitCut s x k.frame) → exec (.layoutCancel c) s =
        .next (answer 0x0409 c s (.ok []) (withComp u { u.comp with commits := s.comp.commits.erase k }))) ∧
      ((∃ x ∈ canvasesOf k.mask, commitCut s x k.frame < t0Ns s + 2000000) → exec (.layoutCancel c) s = .next (answer 0x0409 c s (.no 5 0) u))) ∧
    ((∀ k ∈ s.comp.commits, k.applied = true ∨ k.id ≠ cw c 5) → exec (.layoutCancel c) s = .next (answer 0x0409 c s (badField 20) u)))

/-- CANVAS_CUT before the cut, after the deadline, of a frame already cut, of a canvas that is not set or with its domain out of service, changes nothing. In its time a frame-mode cut leaves that frame as the canvas's job, in the buffer that is not being scanned, with its cut and every stitch row
composed where it finishes, and puts a scheduled commit that is due into effect before. COMPOSE_DEADLINE abandons a frame that is not finished at its deadline, and CHASE_ROW_DEADLINE marks a chase row as missed, each once and neither before its deadline. LAYER_UNDERRUN of a layer that the row
reads, past the fetch limit, is recorded in the frame, once for each layer; within the limit, or with no frame being composed, nothing changes. -/
def Obligations.CanvasFramesAreCutAndJudged : Prop :=
  (∀ (c : Nat) (env : CutEnv) (s : State), c < 64 →
    ((canvasGen s c = none ∨ (canGet s c).set = false ∨ works s 9 = false ∨ s.pwr.mode = .bindOff) → exec (.canvasCut c env) s = .next s) ∧
    (∀ g, canvasGen s c = some g → (canGet s c).chase = false → (t0Ns s < cutTime (flGet s g) env.frame ∨ displayTime (flGet s g) env.frame - 80000 < t0Ns s ∨
      ∃ m, (canGet s c).taken = some m ∧ env.frame ≤ m) → exec (.canvasCut c env) s = .next s) ∧
    (∀ g, canvasGen s c = some g → (canGet s c).chase = false → (canGet s c).set = true → works s 9 = true → s.pwr.mode ≠ .bindOff → (flGet s g).en = true →
      cutTime (flGet s g) env.frame ≤ t0Ns s → t0Ns s ≤ displayTime (flGet s g) env.frame - 80000 → (∀ m, (canGet s c).taken = some m → m < env.frame) →
      exec (.canvasCut c env) s = .next (frameCut c g env s)) ∧
    (∀ g, canvasGen s c = some g → (canGet s c).chase = true → (canGet s c).set = true → works s 9 = true → s.pwr.mode ≠ .bindOff → (flGet s g).en = true →
      env.row < stitchN (canGet s c).h → chaseCut s c env.frame env.row (canGet s c).active.lead ≤ t0Ns s → t0Ns s ≤ cutDeadline s c g env.frame env.row →
      (∀ m, (canGet s c).taken = some m → m ≤ env.frame) → exec (.canvasCut c env) s = .next (chaseRow c env s))) ∧
  (∀ (c g : Nat) (env : CutEnv) (s : State), (canGet s c).job = none → (canGet s c).tail = none → (∀ k ∈ s.comp.commits, c ∉ k.done → k.mask.getLsbD c = true → env.frame < k.frame) →
    ∃ j, (canGet (frameCut c g env s) c).job = some j ∧ j.frame = env.frame ∧ j.cut = cutTime (flGet s g) env.frame ∧ j.cutFull = fullTick j.cut ∧ j.finish = env.finish ∧
      j.buf = (match (canGet s c).last with | some l => 1 - l.buf | none => 0) ∧ (env.finish = true → j.rows = List.range (stitchN (canGet s c).h)) ∧
      (canGet (frameCut c g env s) c).taken = some env.frame ∧ (canGet (frameCut c g env s) c).active = (canGet s c).active ∧ (frameCut c g env s).tb = s.tb ∧
      (frameCut c g env s).scan = s.scan ∧ (∀ d, d ≠ c → canGet (frameCut c g env s) d = canGet s d)) ∧
  (∀ (c n : Nat) (s : State) (k : Commit), (s.comp.commits.find? fun k => !k.done.contains c && k.mask.getLsbD c && k.frame ≤ n) = some k →
    (canGet (takeCommit c n s) c).active = (canGet s c).pend ∧ (canGet (takeCommit c n s) c).pend = (canGet s c).active ∧ (canGet (takeCommit c n s) c).closed = true ∧
    (canGet (takeCommit c n s) c).commitId = k.id) ∧
  (∀ (c : Nat) (s : State) (j : Compose) (g dl : Nat), c < 64 → (canGet s c).job = some j → canvasGen s c = some g →
    (dl = displayTime (flGet s g) j.frame - 80000 → (canGet s c).chase = false →
      (j.finish = false → dl ≤ t0Ns s → ∃ t, exec (.composeDeadline c) s = .next t ∧ (canGet t c).job = none ∧ (canGet t c).rescan = some j.frame ∧ (canGet t c).last = (canGet s c).last ∧
        t.mem = s.mem ∧ (∀ d, d ≠ c → canGet t d = canGet s d)) ∧
      ((j.finish = true ∨ t0Ns s < dl) → exec (.composeDeadline c) s = .next s)) ∧
    (∀ row, dl = cutDeadline s c g j.frame row → (canGet s c).chase = true →
      (row < stitchN (canGet s c).h → (canGet s c).tail = none → row ∉ j.rows → row ∉ j.missed → dl ≤ t0Ns s → ∃ x, exec (.chaseRowDeadline c row) s = .next (canSet c x s) ∧
        x.job = some { j with missed := j.missed ++ [row], lateNs := if j.missed = [] then Nat.max (t0Ns s - dl) (tget 0 j.lates row) else j.lateNs } ∧ x.active = (canGet s c).active ∧ x.last = (canGet s c).last) ∧
      ((canGet s c).tail = none → (row ∈ j.rows ∨ row ∈ j.missed ∨ t0Ns s < dl) → exec (.chaseRowDeadline c row) s = .next s))) ∧
  (∀ (c row : Nat) (s : State), c < 64 → (canGet s c).job = none → (canGet s c).tail = none → exec (.composeDeadline c) s = .next s ∧ exec (.chaseRowDeadline c row) s = .next s) ∧
  (∀ (c slot row waited : Nat) (s : State), c < 64 →
    (∀ j, (canGet s c).job = some j → (bankLayers (canGet s c).active).any (fun r => lrSlot r == slot && lrAlpha r != 0 &&
        (List.range (stitchN (canGet s c).w)).any fun sx => contributes (canGet s c) r sx row) = true →
      tfind slot j.under = none → (canGet s c).fetch * 1000 ≤ waited → (∀ k ∈ j.rows, k < row) →
      exec (.layerUnderrun c slot row waited) s = .next (canSet c { canGet s c with job := some { j with under := j.under ++ [(slot, row, waited)] } } s)) ∧
    (((canGet s c).job = none ∨ waited < (canGet s c).fetch * 1000) → exec (.layerUnderrun c slot row waited) s = .next s))

/-- The headline of scan-out. A canvas stitch part of any row of any output, in any state, is judged live only where the output is not under a hold, the part's stitch was read and verified under its tag, at the first read or
at the one retry, no detected upset struck both, its flags hold neither any that force stale nor TEST, its due tick lies after the row's display tick in the wrapping order of 20-bit ticks, and less than 2^18 ticks have passed since its cut. A live part is drawn from the verified bytes; a stale one never is
drawn as live or as a test. An egress stitch is live only where none of the parts it shows is stale or under the test overlay and no stage failed in it. -/
def Obligations.OnlyVerifiedTimelyPixelsAreLive : Prop :=
  (∀ (flags due display age : Nat) (hold : Bool), verdict flags due display age hold = 0 ↔
    (hold = false ∧ hasFlag flags forceStale = false ∧ 2 ^ 19 ≤ (display + 2 ^ 20 - due) % 2 ^ 20 ∧ age < 2 ^ 18 ∧ hasFlag flags flagTEST = false)) ∧
  (∀ (g : RowCtx) (cx cy : Nat) (s : State) (p : Part) (fs : List CompFail) (t : State), canvasPart g cx cy s = (p, fs, t) → p.kind = 0 →
    g.hold = false ∧ (∀ x, upsetAt 0x30 [1, 3, 5, 7] g.faults cx cy = some x → x.times < 2) ∧ hasFlag p.flags forceStale = false ∧ hasFlag p.flags flagTEST = false ∧ p.draw = .live ∧ fs = [] ∧
      ∃ buf cut bs tag u v, rowSource s (orCanvas g.r) g.shot g.n cy = some (buf, cut) ∧ (u = s ∨ u = (readStitch 15 (soPort g.o) (canSurf g.canvas buf) cx cy s).2.2) ∧
        readStitch 15 (soPort g.o) (canSurf g.canvas buf) cx cy u = (bs, some tag, v) ∧ p.bytes = bs ∧ (t = v ∨ t = countRetry 0x30 v) ∧
        2 ^ 19 ≤ (g.fullTick % 2 ^ 20 + 2 ^ 20 - p.due) % 2 ^ 20 ∧ g.fullTick - cut < 2 ^ 18) ∧
  (∀ (g : RowCtx) (cx cy : Nat) (s : State), (canvasPart g cx cy s).1.kind = 2 → (canvasPart g cx cy s).1.draw ≠ .live ∧ (canvasPart g cx cy s).1.draw ≠ .test ∧
    1 ≤ (canvasPart g cx cy s).1.reason) ∧
  (∀ (g : RowCtx) (ps : List Part) (sx : Nat), (egressStitch g ps sx).1.kind = 0 → packFault g sx = [] ∧
    ∀ p ∈ ps, (g.vx + 32 * sx) / 32 ≤ p.cx → p.cx ≤ (g.vx + 32 * sx + stitchExt (orW g.r) sx - 1) / 32 → p.kind ≠ 2 ∧ p.kind ≠ 1)

/-- OUTPUT_SET of a lawful record for a disabled output stores it, and is RESOURCE_HELD for an enabled one. OUTPUT_ENABLE of an output whose record still is lawful, whose quad, rate and generator agree with what is in use, whose domains are on and whose lanes are calibrated enables it afresh where VCORE carries it (R610), training where VHPD is high;
an enabled one stays as it is; past the 24 Gpixel/s of all outputs it is OVER_CAPACITY, against a commit of another generator RESOURCE_HELD, and with lanes still to be calibrated it waits for them. OUTPUT_DISABLE disables it with OUTPUT_LINK 6. OUTPUT_VIEW inside the canvas and in time is kept for its frame, and is LATE after. OUTPUT_FAULT_CLEAR lets a hold end at the next frame. OUTPUT_AUX answers
a read, native or over I2C, with the sink's data, or with open words where no sink acknowledges; a write of the link configuration is a parameter error, another write completes, and while the link trains it is RESOURCE_HELD. SWATCH_SET sets the test colour, or an output's picture in Ready and Maintenance. OUTPUT_STATUS answers and changes nothing. An output number above 47 is a parameter error. -/
def Obligations.OutputCommandsFollowTheirRules : Prop :=
  (∀ (c : Cmd) (s u : State) (r : List W32) (o : Nat), u = takeCmd c s → Taken 0x0500 c s → r = wordsOf 16 (crec c) → o = orOutput r → o ≤ 47 →
    ((outGet s o).en = false → outputBad u o r = none → exec (.outputSet c) s = .next (answer 0x0500 c s (.ok []) (outSet o { outGet s o with rcd := r, pos := none } u))) ∧
    (∀ n, (outGet s o).en = false → outputBad u o r = some n → exec (.outputSet c) s = .next (answer 0x0500 c s (badRecord n) u)) ∧
    ((outGet s o).en = true → exec (.outputSet c) s = .next (answer 0x0500 c s (held 0xFF o) u))) ∧
  (∀ (c : Cmd) (s u : State) (o : Nat) (r : List W32), u = takeCmd c s → o = (cw c 4).toNat → o ≤ 47 → r = outRec s o →
    (Taken 0x0501 c s → (outGet s o).en = true → exec (.outputEnable c) s = .next (answer 0x0501 c s (.ok []) u)) ∧
    (Taken 0x0501 c s → (outGet s o).en = false → bitOf s.pwr.domains (outDomain o) = true → bitOf s.pwr.iso (outDomain o) = false → bitOf s.pwr.domains 9 = true → bitOf s.pwr.iso 9 = false →
      outputBad u o r = none → quadOk (quadUse u o) = true → commitClash u r = false → scanRates u o ≤ 24000000000 * 1001 →
      (∀ i ∈ outLaneList o r, (laneGet s i).cal = true ∧ laneState u i ≠ 6) → supplyMet u (supplyNeeds 0x0501 opOutputEnable c u) = true →
      ∃ x, exec (.outputEnable c) s = .next (answer 0x0501 c s (.ok []) (outSet o x u)) ∧ x.en = true ∧ x.rcd = (outGet s o).rcd ∧ x.enAt = t0Ns s ∧ x.training = (outGet s o).vhpd ∧
        x.up = false ∧ x.hold = false ∧ x.cur = none ∧ x.frame0 = none ∧ x.rows = [] ∧ x.stale = []) ∧
    (Taken 0x0501 c s → (outGet s o).en = false → bitOf s.pwr.domains (outDomain o) = true → bitOf s.pwr.iso (outDomain o) = false → bitOf s.pwr.domains 9 = true → bitOf s.pwr.iso 9 = false →
      outputBad u o r = none → quadOk (quadUse u o) = true → supplyMet u (supplyNeeds 0x0501 opOutputEnable c u) = true →
      (commitClash u r = true → exec (.outputEnable c) s = .next (answer 0x0501 c s (held 0xFF (orCanvas r)) u)) ∧
      (commitClash u r = false → 24000000000 * 1001 < scanRates u o → exec (.outputEnable c) s = .next (answer 0x0501 c s overCap u)) ∧
      (commitClash u r = false → scanRates u o ≤ 24000000000 * 1001 → laneBroken u (outLaneList o r) = none → (∃ i ∈ outLaneList o r, laneState u i = 6) →
        ∃ v, exec (.outputEnable c) s = .next (answer 0x0501 c s (.later o []) v) ∧ v.scan = s.scan ∧ v.mem = s.mem)) ∧
    (Taken 0x0502 c s → (outGet s o).en = true → exec (.outputDisable c) s = .next (answer 0x0502 c s (.ok []) (outOff o u)) ∧ (outGet (outOff o u) o).en = false ∧
      (outGet (outOff o u) o).up = false ∧ (outGet (outOff o u) o).link = 6 ∧ (outGet (outOff o u) o).hold = false ∧ ∀ p, p ≠ o → outGet (outOff o u) p = outGet s p) ∧
    (Taken 0x0502 c s → (outGet s o).en = false → exec (.outputDisable c) s = .next (answer 0x0502 c s (.ok []) u)) ∧
    (Taken 0x0504 c s → exec (.outputFaultClear c) s = .next (answer 0x0504 c s (.ok []) (outSet o { outGet s o with clearing := (outGet s o).hold } u))) ∧
    (Taken 0x0508 c s → exec (.outputStatus c) s = .next (answer 0x0508 c s (.ok [linkWord s o, (outGet s o).last, w32 (outGet s o).lastRb]) u))) ∧
  (∀ (c : Cmd) (s u : State) (o vx vy n cut : Nat) (r : List W32), u = takeCmd c s → Taken 0x0503 c s → o = (cw c 4).toNat → o ≤ 47 → (outGet s o).en = true → r = outRec s o → vx = fld (cw c 5) 15 0 →
    vy = fld (cw c 5) 31 16 → n = frameNamed (flGet s (orGen r)) (cw c 6) →
    cut = (if (canGet s (orCanvas r)).chase then chaseCut s (orCanvas r) n 0 (canGet s (orCanvas r)).active.lead else cutTime (flGet s (orGen r)) n) →
    viewInside s r vx vy = true → chaseViewBad s o r vy = false →
    ((flGet s (orGen r)).next ≤ n + 1 → t0Ns s + 2000000 ≤ cut → exec (.outputView c) s = .next (answer 0x0503 c s (.ok []) (outSet o { outGet s o with view := some (n, vx, vy) } u))) ∧
    ((n + 1 < (flGet s (orGen r)).next ∨ cut < t0Ns s + 2000000) → exec (.outputView c) s = .next (answer 0x0503 c s (.no 5 0) u))) ∧
  (∀ (c : Cmd) (s u : State) (o len : Nat), u = takeCmd c s → Taken 0x0505 c s → o = (cw c 4).toNat → o ≤ 47 → len = fld (cw c 5) 28 24 → 1 ≤ len → len ≤ 16 → (outGet s o).training = false →
    bitOf s.pwr.domains (outDomain o) = true → bitOf s.pwr.iso (outDomain o) = false →
    (bitOf (cw c 5) 30 = false → ∀ a, c.env.aux = some a → a.ack = true → exec (.outputAux c) s = .next (answer 0x0505 c s (.ok (wordsOf 4 (padB 16 (a.data.take len)))) u)) ∧
    (bitOf (cw c 5) 30 = false → (∀ a, c.env.aux = some a → a.ack = false) →
      exec (.outputAux c) s = .next (answer 0x0505 c s (.ok (freeWords (ceilDiv len 4) u).1) (freeWords (ceilDiv len 4) u).2)) ∧
    (bitOf (cw c 5) 30 = true → (bitOf (cw c 5) 31 = true ∨ 0x300 ≤ fld (cw c 5) 19 0 ∨ fld (cw c 5) 19 0 + len ≤ 0x100) → exec (.outputAux c) s = .next (answer 0x0505 c s (.ok []) u)) ∧
    (bitOf (cw c 5) 30 = true → bitOf (cw c 5) 31 = false → fld (cw c 5) 19 0 < 0x300 → 0x100 < fld (cw c 5) 19 0 + len →
      exec (.outputAux c) s = .next (answer 0x0505 c s (badField 20) u))) ∧
  (∀ (c : Cmd) (s u : State) (o : Nat), u = takeCmd c s → Taken 0x0505 c s → o = (cw c 4).toNat → o ≤ 47 → (outGet s o).training = true →
    bitOf s.pwr.domains (outDomain o) = true → bitOf s.pwr.iso (outDomain o) = false → 1 ≤ fld (cw c 5) 28 24 → fld (cw c 5) 28 24 ≤ 16 →
    (bitOf (cw c 5) 30 = false ∨ bitOf (cw c 5) 31 = true) → exec (.outputAux c) s = .next (answer 0x0505 c s (held 0xFF o) u)) ∧
  (∀ (c : Cmd) (s u : State) (o : Nat), u = takeCmd c s → Taken 0x0507 c s → o = (cw c 4).toNat →
    (o = 0xFF → exec (.swatchSet c) s = .next (answer 0x0507 c s (.ok []) (withScan u { u.scan with testColour := fld (cw c 7) 29 0 }))) ∧
    (o ≤ 47 → (cw c 5).toNat ≤ 2 → (cw c 6).toNat ≤ 3 → ((cw c 5).toNat = 0 ∨ s.pwr.mode = .ready ∨ s.pwr.mode = .maintenance) →
      exec (.swatchSet c) s = .next (answer 0x0507 c s (.ok []) (outSet o { outGet s o with source := (cw c 5).toNat, pattern := (cw c 6).toNat } u))) ∧
    (o ≤ 47 → 1 ≤ (cw c 5).toNat → (cw c 5).toNat ≤ 2 → (cw c 6).toNat ≤ 3 → s.pwr.mode ≠ .ready → s.pwr.mode ≠ .maintenance → exec (.swatchSet c) s = .next (answer 0x0507 c s (.no 6 0) u))) ∧
  (∀ (c : Cmd) (s u : State), u = takeCmd c s → 47 < (cw c 4).toNat →
    (Taken 0x0502 c s → exec (.outputDisable c) s = .next (answer 0x0502 c s (badField 16) u)) ∧ (Taken 0x0504 c s → exec (.outputFaultClear c) s = .next (answer 0x0504 c s (badField 16) u)) ∧
    (Taken 0x0508 c s → exec (.outputStatus c) s = .next (answer 0x0508 c s (badField 16) u)) ∧ (Taken 0x0503 c s → exec (.outputView c) s = .next (answer 0x0503 c s (badField 16) u)) ∧
    (Taken 0x0505 c s → exec (.outputAux c) s = .next (answer 0x0505 c s (badField 16) u)) ∧
    (Taken 0x0501 c s → supplyMet u (supplyNeeds 0x0501 opOutputEnable c u) = true → exec (.outputEnable c) s = .next (answer 0x0501 c s (badField 16) u)) ∧
    (Taken 0x0507 c s → (cw c 4).toNat ≠ 0xFF → exec (.swatchSet c) s = .next (answer 0x0507 c s (badField 16) u))) ∧
  (∀ (c : Cmd) (s u : State), u = takeCmd c s → Taken 0x0500 c s → 47 < orOutput (wordsOf 16 (crec c)) → exec (.outputSet c) s = .next (answer 0x0500 c s (badRecord 0) u))

/-- VHPD_HIGH of an enabled output in service reports OUTPUT_LINK 1 and starts training; VHPD_LOW reports 0 and takes the link down; each changes nothing at the level that stands already. OUTPUT_LINK_TRAINING_END of a training that succeeds puts the link up with the features that
sink and record allow (2 the first time, 5 later), one that fails is remembered and reported as 3; without a training under way it changes nothing. LINK_TRAINING_RETRY trains again 1 s after a failure. VHPD_IRQ_PULSE of a link that is up reports 4 and trains
where the sink asks; without such a link it changes nothing. SINK_ECHO_POLL of a link that offers it, where the record or a drill asks for it, at its interval (100 ms in a drill), keeps the count and whether it matched. -/
def Obligations.LinksFollowVhpdTrainingAndEcho : Prop :=
  (∀ (o : Nat) (s : State), o < 48 →
    ((outGet s o).vhpd = true → exec (.vhpdHigh o) s = .next s) ∧ ((outGet s o).vhpd = false → exec (.vhpdLow o) s = .next s) ∧
    ((outGet s o).vhpd = false → linkHandled s o = true → ∃ t, exec (.vhpdHigh o) s = .next t ∧
      outGet t o = { outGet s o with vhpd := true, link := 1, up := false, training := true, trainFailed := none } ∧ (∀ p, p ≠ o → outGet t p = outGet s p) ∧ t.mem = s.mem ∧ t.comp = s.comp) ∧
    ((outGet s o).vhpd = false → linkHandled s o = false → exec (.vhpdHigh o) s = .next (outSet o { outGet s o with vhpd := true } s)) ∧
    ((outGet s o).vhpd = true → linkHandled s o = true → ∃ t, exec (.vhpdLow o) s = .next t ∧
      outGet t o = { outGet s o with vhpd := false, link := 0, up := false, training := false, trainFailed := none } ∧ (∀ p, p ≠ o → outGet t p = outGet s p) ∧ t.mem = s.mem ∧ t.comp = s.comp) ∧
    ((outGet s o).vhpd = true → linkHandled s o = false → exec (.vhpdLow o) s = .next (outSet o { outGet s o with vhpd := false } s)) ∧
    (linkHandled s o = true → (outGet s o).up = true → exec (.vhpdIrqPulse o true) s = .next (linkEvent o 4 s) ∧ exec (.vhpdIrqPulse o false) s = .next (trainBegin o (linkEvent o 4 s))) ∧
    (∀ b, ((outGet s o).up = false ∨ linkHandled s o = false) → exec (.vhpdIrqPulse o b) s = .next s)) ∧
  (∀ (o : Nat) (x : LinkTraining) (s : State), o < 48 →
    (((outGet s o).training = false ∨ linkHandled s o = false) → exec (.outputLinkTrainingEnd o x) s = .next s) ∧
    ((outGet s o).training = true → linkHandled s o = true →
      (x.ok = true → ∃ t y, exec (.outputLinkTrainingEnd o x) s = .next t ∧ y = outGet t o ∧ y.up = true ∧ y.training = false ∧ y.ever = true ∧ y.link = (if (outGet s o).ever then 5 else 2) ∧
        y.pr = (orPr (outRec s o) && x.pr) ∧ (y.async = true ↔ orAsync (outRec s o) = true ∧ y.pr = false ∧ ∃ m, x.asyncMin = some m ∧ m ≤ orAsyncMin (outRec s o)) ∧ y.echo = (x.testCrc && !y.pr) ∧ y.whole = true ∧
        ((outGet s o).trainedAt = none → y.trainedAt = some (t0Ns s)) ∧ (∀ p, p ≠ o → outGet t p = outGet s p) ∧ t.mem = s.mem) ∧
      (x.ok = false → ∃ t, exec (.outputLinkTrainingEnd o x) s = .next t ∧ outGet t o = { outGet s o with training := false, up := false, trainFailed := some (t2Ns s), link := 3 } ∧
        (∀ p, p ≠ o → outGet t p = outGet s p) ∧ t.mem = s.mem))) ∧
  (∀ (o : Nat) (s : State), o < 48 →
    (∀ a, (outGet s o).trainFailed = some a → linkHandled s o = true → (outGet s o).vhpd = true → a + 1000000000 ≤ t2Ns s → exec (.linkTrainingRetry o) s =
      .next (outSet o { outGet s o with up := false, training := true, trainFailed := none } s)) ∧
    (∀ a, (outGet s o).trainFailed = some a → (t2Ns s < a + 1000000000 ∨ linkHandled s o = false ∨ (outGet s o).vhpd = false) → exec (.linkTrainingRetry o) s = .next s) ∧
    ((outGet s o).trainFailed = none → exec (.linkTrainingRetry o) s = .next s)) ∧
  (∀ (o gap : Nat) (a : Option EchoRead) (s : State), o < 48 → gap = (if drillEchoes s = true then 100 else orEchoInt (outRec s o)) * 1000000 →
    (((outGet s o).en = false ∨ (outGet s o).up = false ∨ (outGet s o).echo = false ∨ (orEcho (outRec s o) = false ∧ drillEchoes s = false) ∨
      t2Ns s < (outGet s o).echoAt + gap) → exec (.sinkEchoPoll o a) s = .next s) ∧
    ((outGet s o).en = true → (outGet s o).up = true → (outGet s o).echo = true → (orEcho (outRec s o) = true ∨ drillEchoes s = true) → (outGet s o).echoAt + gap ≤ t2Ns s →
      ∃ t, exec (.sinkEchoPoll o a) s = .next t ∧ (outGet t o).echoAt = t2Ns s ∧ (a = none → (outGet t o).echoBad = true ∧ (outGet t o).echoCount = (outGet s o).echoCount) ∧
        (∀ e, a = some e → (outGet t o).echoCount = some e.count ∧ ((outGet t o).echoBad = false ↔
          ((outGet s o).testCrcs.contains (e.r.toNat * 2 ^ 32 + e.g.toNat * 2 ^ 16 + e.b.toNat) = true ∧ (outGet s o).echoCount ≠ some e.count))) ∧
        (∀ p, p ≠ o → outGet t p = outGet s p) ∧ t.mem = s.mem))

/-- FRAME_DISPLAY_START, not before D(n), moves its generator to the next frame. SCAN_ROW_FETCH fetches rows in order and in time: the row is judged whole, and is not marked as sent where the frame may not be sent; a row out of order, too early, or of a disabled output changes nothing, nor does a frame that is begun already or before the frame in progress is closed. READBACK_COMPARE of a sent row after its last line passes
where every CRC formed of the components read back agrees, and where one differs the row fails and the output is held; before that it changes nothing. READBACK_LOCK_LOSS holds the output. KEEPALIVE_SET and AUDIT_ENTRY_WRITE come once a frame, after its last line, with all rows judged; the audit entry goes to ring 14 of PF0, or is
counted as lost where that has no room. -/
def Obligations.FramesAreFetchedComparedAndAudited : Prop :=
  (∀ (g : Nat) (s : State), g < 8 →
    (((flGet s g).en = false ∨ (flGet s g).num = 0 ∨ t0Ns s < displayTime (flGet s g) (flGet s g).next) → exec (.frameDisplayStart g) s = .next s) ∧
    ((flGet s g).en = true → (flGet s g).num ≠ 0 → displayTime (flGet s g) (flGet s g).next ≤ t0Ns s → ∃ t, exec (.frameDisplayStart g) s = .next t ∧
      flGet t g = { flGet s g with next := (flGet s g).next + 1 } ∧ (∀ k, k ≠ g → flGet t k = flGet s k) ∧ t.tb.t0 = s.tb.t0 ∧ t.mem = s.mem ∧ t.net = s.net)) ∧
  (∀ (o row : Nat) (env : ScanEnv) (s : State) (x : Output) (r : List W32), o < 48 → x = outGet s o → r = outRec s o →
    ((x.en = false ∨ works s (outDomain o) = false ∨ egRows r ≤ row ∨ (0 < row ∧ x.cur = none)) → exec (.scanRowFetch o row env) s = .next s) ∧
    (∀ n, x.cur = some n → 0 < row → (x.rows.length ≠ row ∨ t0Ns s + 80000 < rowTime (flGet s (orGen r)) (orVTotal r) n row) → exec (.scanRowFetch o row env) s = .next s) ∧
    (∀ n, x.cur = some n → 0 < row → row < egRows r → x.en = true → works s (outDomain o) = true → x.rows.length = row →
      rowTime (flGet s (orGen r)) (orVTotal r) n row ≤ t0Ns s + 80000 → ∃ t e, exec (.scanRowFetch o row env) s = .next t ∧ (outGet t o).rows = tset row e x.rows ∧
        e.stitches.length = egCols r ∧ e.rb = 0 ∧ (x.maySend = false → e.sent = false) ∧ (∀ p, p ≠ o → outGet t p = outGet s p) ∧ t.tb = s.tb) ∧
    (∀ n, row = 0 → 0 < egRows r → x.en = true → works s (outDomain o) = true → frameDue s o = some n → (x.cur ≠ some n ∨ x.again = true) → (x.audited = true ∨ x.rows.length < egRows r) →
      exec (.scanRowFetch o 0 env) s = .next (rowFetch o 0 env (frameBegin o n s))) ∧
    (∀ n, row = 0 → frameDue s o = some n → ((x.cur = some n ∧ x.again = false) ∨ (x.audited = false ∧ egRows r ≤ x.rows.length)) → exec (.scanRowFetch o 0 env) s = .next s) ∧
    (row = 0 → frameDue s o = none → exec (.scanRowFetch o 0 env) s = .next s)) ∧
  (∀ (o row n : Nat) (bad : List (Nat × List (List Nat))) (crc : List (List Nat) → W32) (s : State) (x : Output) (e : EgRow), o < 48 → x = outGet s o → x.cur = some n → crc = egressCrc (orDepth10 (outRec s o)) → tfind row x.rows = some e →
    ((x.en = false ∨ x.up = false ∨ x.offTx = true ∨ e.sent = false ∨ e.rb ≠ 0 ∨ t0Ns s < rowEnd s o n row) → exec (.readbackCompare o row bad) s = .next s) ∧
    (x.en = true → e.sent = true → e.rb = 0 → x.up = true → x.offTx = false → rowEnd s o n row ≤ t0Ns s →
      ((∀ b ∈ bad, b.1 < e.stitches.length → (e.stitches.getD b.1 {}).crc = crc b.2) → ∃ t, exec (.readbackCompare o row bad) s = .next t ∧
        outGet t o = { x with rows := tset row { e with rb := 1 } x.rows, rbFail := sat32 x.rbFail } ∧ (∀ p, p ≠ o → outGet t p = outGet s p) ∧ t.mem = s.mem) ∧
      ((∃ b ∈ bad, b.1 < e.stitches.length ∧ (e.stitches.getD b.1 {}).crc ≠ crc b.2) → ∃ t, exec (.readbackCompare o row bad) s = .next t ∧
        (outGet t o).hold = true ∧ (outGet t o).bad = true ∧ tfind row (outGet t o).rows = some { e with rb := 2 } ∧ (∀ p, p ≠ o → outGet t p = outGet s p) ∧ t.mem = s.mem))) ∧
  (∀ (o : Nat) (s : State), o < 48 →
    (((outGet s o).en = false ∨ (outGet s o).up = false ∨ (outGet s o).offTx = true ∨ laneBusy s o = true ∨ works s (outDomain o) = false) → exec (.readbackLockLoss o) s = .next s) ∧
    ((outGet s o).en = true → (outGet s o).up = true → (outGet s o).offTx = false → laneBusy s o = false → works s (outDomain o) = true →
      ∃ t, exec (.readbackLockLoss o) s = .next t ∧ (outGet t o).hold = true ∧ (outGet t o).bad = true ∧ (∀ p, p ≠ o → outGet t p = outGet s p) ∧ t.mem = s.mem)) ∧
  (∀ (o n : Nat) (s : State) (x : Output), o < 48 → x = outGet s o → x.cur = some n →
    ((x.en = false ∨ orKa (outRec s o) = false ∨ works s (outDomain o) = false ∨ (∀ f, x.frame0 = some f → n < f) ∨ x.kaDone = true ∨ x.rows.length ≠ egRows (outRec s o) ∨ t0Ns s < activeEnd s o n) → exec (.keepaliveSet o) s = .next s) ∧
    (∀ f, x.frame0 = some f → f ≤ n → x.en = true → orKa (outRec s o) = true → x.kaDone = false → x.rows.length = egRows (outRec s o) → activeEnd s o n ≤ t0Ns s →
      works s (outDomain o) = true → ∃ t, exec (.keepaliveSet o) s = .next t ∧ outGet t o = { x with kaDone := true } ∧ (∀ p, p ≠ o → outGet t p = outGet s p) ∧ t.mem = s.mem) ∧
    ((x.en = false ∨ works s (outDomain o) = false ∨ x.audited = true ∨ x.rows.length ≠ egRows (outRec s o) ∨ (x.again = false ∧ t0Ns s < activeEnd s o n)) → exec (.auditEntryWrite o) s = .next s) ∧
    (x.en = true → x.audited = false → x.rows.length = egRows (outRec s o) → (x.up = false ∨ x.offTx = true ∨ ∀ y ∈ x.rows, y.2.sent = false ∨ y.2.rb ≠ 0) → (x.again = true ∨ activeEnd s o n ≤ t0Ns s) → works s (outDomain o) = true →
      ∃ t, exec (.auditEntryWrite o) s = .next t ∧ (outGet t o).audited = true ∧ (outGet t o).last = w32 n ∧ (outGet t o).lastRb = (if x.bad then 1 else x.unav) ∧
        (outGet t o).hold = x.hold ∧ (∀ p, p ≠ o → outGet t p = outGet s p) ∧ t.mem = s.mem)) ∧
  (∀ (ws : List W32) (s : State),
    (ringRoom (ringGet s 0 14) 1 = true → auditWrite ws s = ringWrite 0 14 (auditWords ws s.enc.auditLost) false (withEnc s { s.enc with auditLost := 0 })) ∧
    (ringRoom (ringGet s 0 14) 1 = false → (auditWrite ws s).enc.auditLost = s.enc.auditLost + 1 ∧ (ringGet (auditWrite ws s) 0 14).prod = (ringGet s 0 14).prod))

/-- ENC_SET of a lawful record into a channel that is not enabled stores it and changes nothing else of any channel; one out of range is a parameter error at the record's lowest bad word, an enabled channel is RESOURCE_HELD. ENC_ENABLE of a channel with a record, while the ENC domain is in service, starts
the channel anew (buffer counts and offsets as after reset, the first picture a key frame with the decoder's buffer full) and assigns kinds anew, where VCORE carries it (R610); an enabled one completes unchanged. ENC_DISABLE gives up its frames and assigns the others anew. ENC_COEF_LOAD waits for its data: with the right CRC and
lawful coefficients LOAD_COPY_END stores the bank, with a wrong CRC, bad coefficients or a failed copy it completes with that error alone. ENC_KEYFRAME of an enabled channel asks for a key frame. A write of VC_ENCc_CONS sets the consumer offset to a multiple of 64 between the old one and the producer, and raises PARAM_REFUSED for any other. (That enabling an enabled channel completes unchanged is DEDUCED, log 37.) -/
def Obligations.EncodeChannelsAreSetAndEnabled : Prop :=
  (∀ (c : Cmd) (s u : State) (r : List W32) (k : Nat), u = takeCmd c s → Taken 0x0600 c s → r = wordsOf 16 (crec c) → k = erChan r →
    ((ecGet s k).en = true → exec (.encSet c) s = .next (answer 0x0600 c s (held 0xFF k) u)) ∧
    (∀ n, (ecGet s k).en = false → encBad u r = some n → exec (.encSet c) s = .next (answer 0x0600 c s (badRecord n) u)) ∧
    ((ecGet s k).en = false → encBad u r = none → exec (.encSet c) s = .next (answer 0x0600 c s (.ok []) (ecSet k { ecGet s k with rcd := r } u)))) ∧
  (∀ (c : Cmd) (s u : State) (k : Nat) (x : EncChan), u = takeCmd c s → k = (cw c 4).toNat → x = ecGet s k →
    (Taken 0x0601 c s → (7 < k ∨ x.rcd = []) → exec (.encEnable c) s = .next (answer 0x0601 c s (badField 16) u)) ∧
    (Taken 0x0601 c s → k ≤ 7 → x.rcd ≠ [] → (bitOf s.pwr.domains 8 = false ∨ bitOf s.pwr.iso 8 = true) → exec (.encEnable c) s = .next (answer 0x0601 c s (held 0xFF 8) u)) ∧
    (Taken 0x0601 c s → k ≤ 7 → x.rcd ≠ [] → bitOf s.pwr.domains 8 = true → bitOf s.pwr.iso 8 = false →
      (x.en = true → exec (.encEnable c) s = .next (answer 0x0601 c s (.ok []) u)) ∧
      (x.en = false → erView x.rcd = true → (outGet s (erSrc x.rcd)).en = false → exec (.encEnable c) s = .next (answer 0x0601 c s (held 0xFF (erSrc x.rcd)) u)) ∧
      (x.en = false → (erView x.rcd = false ∨ (outGet s (erSrc x.rcd)).en = true) → encBad u x.rcd ≠ none → exec (.encEnable c) s = .next (answer 0x0601 c s (badField 16) u)) ∧
      (x.en = false → (erView x.rcd = false ∨ (outGet s (erSrc x.rcd)).en = true) → encBad u x.rcd = none → supplyMet u (supplyNeeds 0x0601 opEncEnable c u) = true →
        exec (.encEnable c) s = .next (answer 0x0601 c s (.ok []) (encAssign (some k)
          (ecSet k { rcd := x.rcd, coefs := x.coefs, en := true, keyDue := true, refill := true } u))))) ∧
    (Taken 0x0602 c s → 7 < k → exec (.encDisable c) s = .next (answer 0x0602 c s (badField 16) u)) ∧
    (Taken 0x0602 c s → k ≤ 7 → x.en = false → exec (.encDisable c) s = .next (answer 0x0602 c s (.ok []) u)) ∧
    (Taken 0x0602 c s → k ≤ 7 → x.en = true → ∃ t w, exec (.encDisable c) s = .next (answer 0x0602 c s (.ok []) t) ∧ t = encAssign none w ∧ ecGet w k = { x with en := false, kind := 0, next := none, frames := [] } ∧
      (∀ i, i ≠ k → ecGet w i = ecGet s i) ∧ (ecGet t k).en = false ∧ (ecGet t k).frames = [] ∧
      (ecGet t k).kind = 0 ∧ (ecGet t k).rcd = x.rcd ∧ (ecGet t k).cons = x.cons ∧ (∀ i, i ≠ k → (ecGet t i).en = (ecGet s i).en ∧ (ecGet t i).frames = (ecGet s i).frames) ∧ t.mem = s.mem) ∧
    (Taken 0x0603 c s → k ≤ 7 → exec (.encCoefLoad c) s = .next (answer 0x0603 c s (.later k [(cw c 6).toNat]) u)) ∧
    (Taken 0x0603 c s → 7 < k → exec (.encCoefLoad c) s = .next (answer 0x0603 c s (badField 16) u)) ∧
    (Taken 0x0604 c s → k ≤ 7 → x.en = true → exec (.encKeyframe c) s = .next (answer 0x0604 c s (.ok []) (ecSet k { x with keyAsk := true } u))) ∧
    (Taken 0x0604 c s → (7 < k ∨ x.en = false) → exec (.encKeyframe c) s = .next (answer 0x0604 c s (badField 16) u))) ∧
  (∀ (s : State) (o : Outst) (d : List Byte), loadOutst s = some o → o.opcode = 0x0603 →
    (crc32c d = o.arg.getD 0 0 → coefBad d = false → exec (.loadCopyEnd (some d)) s =
      .next (completeOutst o 0 0 [] (ecSet o.target { ecGet s o.target with coefs := some (coefsOf d) } s))) ∧
    (crc32c d ≠ o.arg.getD 0 0 → exec (.loadCopyEnd (some d)) s = .next (completeOutst o 1 24 [] s)) ∧
    (crc32c d = o.arg.getD 0 0 → coefBad d = true → exec (.loadCopyEnd (some d)) s = .next (completeOutst o 1 0x10000 [] s)) ∧
    (exec (.loadCopyEnd none) s = .next (completeOutst o 10 0 [] s))) ∧
  (∀ (ch : Nat) (a : RegW) (s : State) (x : EncChan) (n : Nat), ch < 8 → Writes (0xC100 + 0x10 * ch) a s → x = ecGet s ch → n = fld a.val 27 0 →
    (n % 64 = 0 → 64 ≤ n → n ≤ 2 ^ erLog2 x.rcd - 64 → ((x.cons ≤ x.prod ∧ x.cons ≤ n ∧ n ≤ x.prod) ∨ (x.prod < x.cons ∧ (x.cons ≤ n ∨ n ≤ x.prod))) →
      exec (.vcEncConsWrite ch a) s = .next (ecSet ch { x with cons := n } s)) ∧
    ((n % 64 ≠ 0 ∨ n < 64 ∨ 2 ^ erLog2 x.rcd - 64 < n ∨ (x.cons ≤ x.prod ∧ (n < x.cons ∨ x.prod < n)) ∨ (x.prod < x.cons ∧ x.prod < n ∧ n < x.cons)) →
      exec (.vcEncConsWrite ch a) s = .next (paramRefused a.init (0xC100 + 0x10 * ch) a.val s)))

/-- ENC_FRAME_START of a frame that the channel is to record, once its display time has come, adds one frame with the next number to the channel's frames; with no input (an output that is disabled or has no link) every row of it is unrecorded for that cause. Without such a frame, or before its time, or while a viewport's rows are not all
judged, it changes nothing. ENC_INPUT_DEADLINE, not before 80 us ahead of the next frame, closes the newest frame's input, marking the rows not read late; a frame whose reading never began is taken up with every row late. ENC_RECORD_WRITE takes the oldest closed frame off: its record is placed where the output buffer has
room, with the count raised, else it is counted as lost and the next coded picture is a key frame; the other channels and the stack's memory stay. ENC_UNRECORDED tells of the unrecorded rows of a second that is over and clears their count. -/
def Obligations.EncodeFramesAreReadClosedAndWritten : Prop :=
  (∀ (k : Nat) (env : EncEnv) (s : State) (r : List W32), k < 8 → r = (ecGet s k).rcd →
    (encDue s k = none → exec (.encFrameStart k env) s = .next s) ∧
    (∀ n, encDue s k = some n → t0Ns s < displayTime (encGen s r) n → exec (.encFrameStart k env) s = .next s) ∧
    (∀ n, encDue s k = some n → displayTime (encGen s r) n ≤ t0Ns s →
      (encNoInput s r = false → erView r = true → viewJudged s r n = false → exec (.encFrameStart k env) s = .next s) ∧
      ((encNoInput s r = true ∨ erView r = false ∨ viewJudged s r n = true) → ∃ t f, exec (.encFrameStart k env) s = .next t ∧
        (ecGet t k).frames = (ecGet s k).frames ++ [f] ∧ f.num = (ecGet s k).num ∧ f.n = n ∧ f.at_ = displayTime (encGen s r) n ∧ f.key = (ecGet s k).keyAsk ∧ f.t0 = none ∧
        (ecGet t k).num = (ecGet s k).num + 1 ∧ (ecGet t k).lastN = some n ∧ (ecGet t k).keyAsk = false ∧ (ecGet t k).next = none ∧
        (∀ p, (ecGet s k).next = some p → (ecGet t k).kind = p.1) ∧ (encNoInput s r = true → ∀ i, i < erRows r → tfind i f.unrec = some 8) ∧
        (∀ j, j ≠ k → ecGet t j = ecGet s j) ∧ t.scan = s.scan ∧ t.comp = s.comp))) ∧
  (∀ (k : Nat) (rows : List Nat) (s : State) (r : List W32), k < 8 → r = (ecGet s k).rcd →
    (∀ fs f, (∀ n, encDue s k = some n → t0Ns s + 80000 < displayTime (encGen s r) (n + 1)) → (ecGet s k).frames = fs ++ [f] →
      ((f.t0 ≠ none ∨ t0Ns s + 80000 < displayTime (encGen s r) (f.n + 1)) → exec (.encInputDeadline k rows) s = .next s) ∧
      (f.t0 = none → displayTime (encGen s r) (f.n + 1) ≤ t0Ns s + 80000 → exec (.encInputDeadline k rows) s = .next (ecSet k { ecGet s k with frames := fs ++
        [{ f with unrec := markRows (rows.filter fun i => i < erRows r) 1 f.unrec, t0 := some (t0Worst f.at_ (displayTime (encGen s r) (f.n + 1) - 80000) s) }] } s))) ∧
    ((∀ n, encDue s k = some n → t0Ns s + 80000 < displayTime (encGen s r) (n + 1)) → (ecGet s k).frames = [] → exec (.encInputDeadline k rows) s = .next s) ∧
    (∀ n, encDue s k = some n → displayTime (encGen s r) (n + 1) ≤ t0Ns s + 80000 → ∃ t f, exec (.encInputDeadline k rows) s = .next t ∧
      (ecGet t k).frames = (ecGet s k).frames ++ [f] ∧ f.n = n ∧ f.num = (ecGet s k).num ∧ f.t0 ≠ none ∧ (∀ i, i < erRows r → tfind i f.unrec = some 2) ∧ (ecGet t k).lastN = some n ∧
      (∀ j, j ≠ k → ecGet t j = ecGet s j) ∧ t.mem = s.mem ∧ t.scan = s.scan)) ∧
  (∀ (k : Nat) (p : EncCoded) (s : State) (x : EncChan), k < 8 → x = ecGet s k →
    ((x.frames = [] ∨ (∃ f fs, x.frames = f :: fs ∧ f.t0 = none) ∨ x.en = false ∨ works s 8 = false) → exec (.encRecordWrite k p) s = .next s) ∧
    (∀ f fs, x.frames = f :: fs → f.t0 ≠ none → x.en = true → works s 8 = true → ∃ t y, exec (.encRecordWrite k p) s = .next t ∧ y = ecGet t k ∧ y.frames = fs ∧
      y.rcd = x.rcd ∧ y.num = x.num ∧ y.cons = x.cons ∧
      (∃ len, 68 ≤ len ∧ ((∃ a, recPlace (2 ^ erLog2 x.rcd) x.prod x.cons len = some (a, y.prod) ∧ y.count = x.count + 1 ∧ y.lost = 0 ∧ y.prod % 64 = 0) ∨
        (recPlace (2 ^ erLog2 x.rcd) x.prod x.cons len = none ∧ y.count = x.count ∧ y.prod = x.prod ∧ y.lost = x.lost + 1 ∧ y.keyDue = true))) ∧
      (f.full = false → y.fill = x.fill) ∧ (∀ j, j ≠ k → ecGet t j = ecGet s j) ∧ t.mem = s.mem ∧ t.scan = s.scan ∧ t.comp = s.comp)) ∧
  (∀ (k : Nat) (s : State), k < 8 →
    ((ecGet s k).sum.frames = 0 ∨ s.tb.t2.sec.toNat ≤ (ecGet s k).sum.second → exec (.encUnrecorded k) s = .next s) ∧
    ((ecGet s k).sum.frames ≠ 0 → (ecGet s k).sum.second < s.tb.t2.sec.toNat → exec (.encUnrecorded k) s = .next
      (raise 0x29 [pack [(31, 29, k), (28, 24, (ecGet s k).sum.mask)], w32 (sat32 (ecGet s k).sum.frames), w32 (sat32 (ecGet s k).sum.rows)]
        (ecSet k { ecGet s k with sum := {} } s))))

/-- PAIR_SET in Ready, Solo, or Lead without a joined peer stores the position, the reference generator and the limit; with the pair enabled a module in Solo, or in Ready with no peer Lead, becomes Lead, unless T0 is UNSET or an enabled output blanks too long (R448). PAIR_ACCEPT on a Lead opens the acceptance and starts link training. PAIR_KNIT in Ready with
calibrated lanes starts phase 1, and with cold ones calibrates them first; with the pair disabled it is a parameter error. PAIR_DRILL on a Lead with a fit Follow, at least 100 ms ahead, tells the peer and enters Drill with LEAD_OUT kept. PAIR_LEAVE takes a Follow or a knit-up to Ready, a Lead without a joined peer to Solo, and a Lead with one tells the peer to leave. PAIR_STATUS gives the status word and the T0 offset. In another mode
each of them is answered with WRONG_MODE. -/
def Obligations.PairCommandsFollowTheirModes : Prop :=
  (∀ (c : Cmd) (s u : State) (limit : Nat) (leads : Bool) (p : PairUnit), u = takeCmd c s → Taken 0x0700 c s → limit = (if (cw c 3).toNat = 0 then 120 else (cw c 3).toNat) →
    leads = (bitOf (cw c 2) 31 && (s.pwr.mode == .solo || (s.pwr.mode == .ready && !peerLeads u))) →
    p = { s.pair with enabled := bitOf (cw c 2) 31, posB := bitOf (cw c 2) 30, refGen := fld (cw c 2) 2 0, limitS := limit } →
    ((s.pwr.mode = .ready ∨ s.pwr.mode = .solo ∨ (s.pwr.mode = .lead ∧ peerJoined u = false)) →
      (10 ≤ limit → limit ≤ 3600 → leads = false → exec (.pairSet c) s = .next (answer 0x0700 c s (.ok []) (withPair u p))) ∧
      (10 ≤ limit → limit ≤ 3600 → leads = true → pairRefused u = false → exec (.pairSet c) s = .next (answer 0x0700 c s (.ok []) (setMode .lead 1 0 (portInit c.port) (withPair u p))) ∧
        (setMode .lead 1 0 (portInit c.port) (withPair u p)).pair.leadOut = true) ∧
      (10 ≤ limit → limit ≤ 3600 → leads = true → pairRefused u = true → exec (.pairSet c) s = .next (answer 0x0700 c s (badField 8) u)) ∧
      ((limit < 10 ∨ 3600 < limit) → exec (.pairSet c) s = .next (answer 0x0700 c s (badField 12) u))) ∧
    ((s.pwr.mode ≠ .ready ∧ s.pwr.mode ≠ .solo ∧ (s.pwr.mode ≠ .lead ∨ peerJoined u = true)) → exec (.pairSet c) s = .next (answer 0x0700 c s (.no 6 0) u))) ∧
  (∀ (c : Cmd) (s u : State), u = takeCmd c s → Taken 0x0701 c s →
    (s.pwr.mode = .lead → 1 ≤ (cw c 2).toNat → (cw c 2).toNat ≤ 3600 → bitOf s.pwr.domains 14 = true → bitOf s.pwr.iso 14 = false → exec (.pairAccept c) s = .next (answer 0x0701 c s (.ok [])
      (withPair u { u.pair with acceptUntil := some (t2Ns s + (cw c 2).toNat * 1000000000), training := !u.pair.linkUp || u.pair.training }))) ∧
    (s.pwr.mode = .lead → ((cw c 2).toNat = 0 ∨ 3600 < (cw c 2).toNat) → exec (.pairAccept c) s = .next (answer 0x0701 c s (badField 8) u)) ∧
    (s.pwr.mode = .lead → 1 ≤ (cw c 2).toNat → (cw c 2).toNat ≤ 3600 → (bitOf s.pwr.domains 14 = false ∨ bitOf s.pwr.iso 14 = true) → exec (.pairAccept c) s = .next (answer 0x0701 c s (held 0xFF 14) u)) ∧
    (s.pwr.mode ≠ .lead → exec (.pairAccept c) s = .next (answer 0x0701 c s (.no 6 0) u))) ∧
  (∀ (c : Cmd) (s u : State), u = takeCmd c s → Taken 0x0702 c s →
    (s.pwr.mode = .ready → s.pair.enabled = true → pairRefused u = false → bitOf s.pwr.domains 14 = true → bitOf s.pwr.iso 14 = false →
      (∀ i ∈ [80, 81, 82, 83], (laneGet s i).cal = true ∧ laneState u i ≠ 6) → ∃ t, exec (.pairKnit c) s = .next (answer 0x0702 c s (.ok []) t) ∧ t.pwr.mode = .knitUp ∧ t.pair.phase = 1 ∧
        t.pair.knitAt = t2Ns s ∧ t.pair.training = true ∧ t.pair.linkUp = false ∧ t.pair.leadOut = false ∧ t.mem = s.mem ∧ t.comp = s.comp ∧ t.scan = s.scan) ∧
    (s.pwr.mode = .ready → s.pair.enabled = true → pairRefused u = false → bitOf s.pwr.domains 14 = true → bitOf s.pwr.iso 14 = false →
      (∀ i ∈ [80, 81, 82, 83], (laneGet s i).cal = true) → (∃ i ∈ [80, 81, 82, 83], laneState u i = 6) → exec (.pairKnit c) s =
        .next (answer 0x0702 c s (.later 0 []) (([80, 81, 82, 83].filter fun i => laneState u i == 6).foldl (fun st i => laneEnter 3 5 i st) u))) ∧
    (∀ i, s.pwr.mode = .ready → s.pair.enabled = true → pairRefused u = false → bitOf s.pwr.domains 14 = true → bitOf s.pwr.iso 14 = false →
      laneBroken u [80, 81, 82, 83] = some i → exec (.pairKnit c) s = .next (answer 0x0702 c s (held 0xFF (0x300 + i)) u)) ∧
    (s.pwr.mode = .ready → s.pair.enabled = true → pairRefused u = false → (bitOf s.pwr.domains 14 = false ∨ bitOf s.pwr.iso 14 = true) →
      exec (.pairKnit c) s = .next (answer 0x0702 c s (held 0xFF 14) u)) ∧
    (s.pwr.mode = .ready → s.pair.enabled = true → pairRefused u = true → exec (.pairKnit c) s = .next (answer 0x0702 c s (badField 0) u)) ∧
    (s.pwr.mode = .ready → s.pair.enabled = false → exec (.pairKnit c) s = .next (answer 0x0702 c s (badField 0) u)) ∧
    (s.pwr.mode ≠ .ready → exec (.pairKnit c) s = .next (answer 0x0702 c s (.no 6 0) u))) ∧
  (∀ (c : Cmd) (s u : State) (n ret : Nat), u = takeCmd c s → Taken 0x0703 c s → n = frameNamed (refGenOf s) (cw c 4) → ret = (cw c 5).toNat →
    (s.pwr.mode = .lead → s.pair.peerFit = true → ret ≤ 86400 → (refGenOf s).en = true → t0Ns s + 100000000 ≤ displayTime (refGenOf s) n →
      ∃ t, exec (.pairDrill c) s = .next (answer 0x0703 c s (.ok []) t) ∧ t.pwr.mode = .drill ∧ t.pair = { s.pair with gaps := [], drill := some { frame := n, ret := ret, wasLead := s.pair.leadOut } } ∧
        Outgoing.corler 1 [2, cw c 4, w32 ret] ∈ t.outbox ∧ t.mem = s.mem ∧ t.scan = s.scan ∧ t.comp = s.comp ∧ t.tb = s.tb) ∧
    (s.pwr.mode = .lead → s.pair.peerFit = true → ret ≤ 86400 → ((refGenOf s).en = false ∨ displayTime (refGenOf s) n < t0Ns s + 100000000) →
      exec (.pairDrill c) s = .next (answer 0x0703 c s (.no 5 0) u)) ∧
    (s.pwr.mode = .lead → s.pair.peerFit = true → 86400 < ret → exec (.pairDrill c) s = .next (answer 0x0703 c s (badField 20) u)) ∧
    ((s.pwr.mode ≠ .lead ∨ s.pair.peerFit = false) → exec (.pairDrill c) s = .next (answer 0x0703 c s (.no 6 0) u))) ∧
  (∀ (c : Cmd) (s u : State), u = takeCmd c s → Taken 0x0704 c s →
    ((s.pwr.mode = .follow ∨ s.pwr.mode = .knitUp) → ∃ t, exec (.pairLeave c) s = .next (answer 0x0704 c s (.ok []) t) ∧ t.pwr.mode = .ready ∧ t.pair.linkUp = false ∧ t.pair.leadOut = false ∧
      (s.pwr.mode = .knitUp → t.pair.phase = 0) ∧ t.mem = s.mem ∧ t.comp = s.comp ∧ t.scan = s.scan) ∧
    (s.pwr.mode = .lead → peerJoined u = true → exec (.pairLeave c) s = .next (answer 0x0704 c s (.ok [])
      (withPair (send (.corler 1 [1]) u) { u.pair with peerFit := false, peerMode := 3, want := none, hand := none }))) ∧
    (s.pwr.mode = .lead → peerJoined u = false → ∃ t, exec (.pairLeave c) s = .next (answer 0x0704 c s (.ok []) t) ∧ t.pwr.mode = .solo ∧ t.pair.leadOut = false ∧ t.pair.linkUp = false ∧
      t.pair.acceptUntil = none ∧ t.mem = s.mem ∧ t.scan = s.scan) ∧
    (s.pwr.mode ≠ .lead → s.pwr.mode ≠ .follow → s.pwr.mode ≠ .knitUp → exec (.pairLeave c) s = .next (answer 0x0704 c s (.no 6 0) u))) ∧
  (∀ (c : Cmd) (s u : State), u = takeCmd c s → Taken 0x0705 c s → exec (.pairStatus c) s = .next (answer 0x0705 c s (.ok [
    pack [(31, 28, modeNum s.pwr.mode), (27, 24, s.pair.peerMode), (23, 23, b1 s.pair.peerFit), (22, 22, b1 s.pair.leadIn), (19, 16, s.pair.lanes.toNat), (15, 8, s.pair.phase)],
    s.tb.pairT0Ofs]) u))

/-- HEARTBEAT_SEND, 10 us after the last one, numbers a heartbeat and sends it on every lane in use, counting an interval in which none came. HEARTBEAT_RECEIVE of a good one on a lane in use takes over what it says of the peer; a Lead's handover request is noted by a Follow; a peer that reports Safe hold or Bind-off starts a Follow's takeover with cause 2, ends a knit-up in Safe hold with
cause 6, and tells a Lead that it has lost its Follow, the module of a drill acting by the LEAD_OUT that it drives. HEARTBEAT_SILENCE, 30 us after the last good one, does the same with cause 1. HEARTBEAT_TX_WATCHDOG releases LEAD_OUT after 20 us without a heartbeat sent. LEAD_IN_YIELD sends a Lead to Safe hold with cause 5, LEAD_OUT low; PAIR_PIN reports a pin that disagrees. Each changes nothing otherwise. (How LEAD_IN
follows heartbeats and what a yield does on a module that does not lead are the model's readings, log 40.) -/
def Obligations.HeartbeatsAndPinsDecideTheLead : Prop :=
  (∀ s v : State, v = withPair s { s.pair with lastTx := t2Ns s, hbTx := s.pair.hbTx + 1, hbMiss := if s.pair.linkUp = true ∧ s.pair.lastRx ≤ s.pair.lastTx then sat32 (s.pair.hbMiss + 1) else s.pair.hbMiss, leadOut := s.pair.leadOut || s.pwr.mode == .lead } →
    ((pairWorks s = false ∨ s.pair.enabled = false ∨ t2Ns s < s.pair.lastTx + 10000) → exec .heartbeatSend s = .next s) ∧
    (pairWorks s = true → s.pair.enabled = true → s.pair.lastTx + 10000 ≤ t2Ns s → exec .heartbeatSend s = .next (if s.pair.linkUp = true
      then { v with outbox := s.outbox ++ ((List.range 4).filter fun i => bitOf s.pair.lanes i).map (heartbeatOn v) } else v))) ∧
  (∀ (lane : Nat) (h : Heartbeat) (s v : State), lane < 4 → v = withPair s { s.pair with hbRx := h.seq, lastRx := t2Ns s, silent := false, peerMode := h.mode, peerLeadOut := h.leadOut, leadIn := h.leadOut, peerFit := h.fit, peerRequest := h.request, peerFrame := h.frame } →
    ((pairWorks s = false ∨ s.pair.linkUp = false ∨ bitOf s.pair.lanes lane = false ∨ h.crcOk = false ∨ h.mode = 0 ∨ 12 < h.mode) → exec (.heartbeatReceive lane h) s = .next s) ∧
    (pairWorks s = true → s.pair.linkUp = true → bitOf s.pair.lanes lane = true → h.crcOk = true →
      (1 ≤ h.mode → h.mode ≤ 10 → (h.request ≠ 1 ∨ s.pwr.mode ≠ .follow ∨ s.pair.hand ≠ none ∨ s.pair.take ≠ none ∨ h.leadOut = false) → exec (.heartbeatReceive lane h) s = .next v) ∧
      (1 ≤ h.mode → h.mode ≤ 10 → h.request = 1 → s.pwr.mode = .follow → s.pair.hand = none → s.pair.take = none → h.leadOut = true → exec (.heartbeatReceive lane h) s =
        .next (withPair v { v.pair with hand := some { frame := frameNamed (refGenOf s) (w32 h.frame), reason := none, requestedAt := t0Ns s } })) ∧
      ((h.mode = 11 ∨ h.mode = 12) →
        (followSide s = true → s.pair.hand = none → s.pair.take = none → exec (.heartbeatReceive lane h) s = .next (withPair v { v.pair with hand := none, take := some { frame := refFrame s (takeoverDue s (t0Ns s)), due := takeoverDue s (t0Ns s), cause := 2, detected := t0Ns s, old := t0Ns s } })) ∧
        (s.pwr.mode = .knitUp → ∃ t, exec (.heartbeatReceive lane h) s = .next t ∧ t.pwr.mode = .safeHold ∧ t.pwr.cause = 6 ∧ t.pair.phase = 0 ∧ t.mem = s.mem) ∧
        (followSide s = true → (s.pair.hand ≠ none ∨ s.pair.take ≠ none) → exec (.heartbeatReceive lane h) s = .next v) ∧
        (leadSide s = true → s.pair.peerMode ≠ 11 → s.pair.peerMode ≠ 12 → exec (.heartbeatReceive lane h) s = .next (followLost false v)) ∧
        (leadSide s = true → (s.pair.peerMode = 11 ∨ s.pair.peerMode = 12) → exec (.heartbeatReceive lane h) s = .next v) ∧
        (followSide s = false → leadSide s = false → s.pwr.mode ≠ .knitUp → exec (.heartbeatReceive lane h) s = .next v) ∧
        (s.pwr.mode = .lead → s.pair.drill = none → s.pair.peerMode ≠ 11 → s.pair.peerMode ≠ 12 → exec (.heartbeatReceive lane h) s =
          .next (linkEventPair 0xF false (withPair v { v.pair with peerFit := false })))))) ∧
  (∀ s v : State, v = withPair s { s.pair with silent := true, peerFit := false } →
    ((pairWorks s = false ∨ s.pair.linkUp = false ∨ s.pair.silent = true ∨ t2Ns s < s.pair.lastRx + 30000) → exec .heartbeatSilence s = .next s) ∧
    (pairWorks s = true → s.pair.linkUp = true → s.pair.silent = false → s.pair.lastRx + 30000 ≤ t2Ns s →
      (followSide s = true → s.pair.take ≠ none → exec .heartbeatSilence s = .next v) ∧ (leadSide s = true → exec .heartbeatSilence s = .next (followLost true v)) ∧
      (followSide s = true → s.pair.take = none → exec .heartbeatSilence s = .next (withPair v { v.pair with hand := none, take := some { frame := refFrame s (takeoverDue s (t0Ns s)), due := takeoverDue s (t0Ns s), cause := 1, detected := t0Ns s, old := t0Ns s - (t2Ns s - s.pair.lastRx) } })) ∧
      (s.pwr.mode = .lead → s.pair.drill = none → exec .heartbeatSilence s = .next (linkEventPair 0xF true v)) ∧
      (s.pwr.mode = .knitUp → ∃ t, exec .heartbeatSilence s = .next t ∧ t.pwr.mode = .safeHold ∧ t.pwr.cause = 6 ∧ t.pair.phase = 0 ∧ t.mem = s.mem) ∧
      (s.pwr.mode ≠ .follow → s.pwr.mode ≠ .lead → s.pwr.mode ≠ .knitUp → s.pwr.mode ≠ .drill → exec .heartbeatSilence s = .next v))) ∧
  (∀ s : State,
    (s.pair.leadOut = true → s.pair.lastTx + 20000 ≤ t2Ns s → s.pwr.state ≠ .off → exec .heartbeatTxWatchdog s = .next (withPair s { s.pair with leadOut := false })) ∧
    (∀ b d, s.pwr.mode = .drill → s.pair.drill = some d → (followLost b s).pwr.mode = .lead ∧ (followLost b s).pair.drill = none ∧ (followLost b s).pair.peerFit = false ∧ (followLost b s).mem = s.mem) ∧
    ((s.pair.leadOut = false ∨ t2Ns s < s.pair.lastTx + 20000 ∨ s.pwr.state = .off) → exec .heartbeatTxWatchdog s = .next s) ∧
    ((s.pair.leadOut = false ∨ (s.pwr.mode ≠ .lead ∧ s.pwr.mode ≠ .drill)) → exec .leadInYield s = .next (withPair s { s.pair with leadIn := true })) ∧
    (s.pair.leadOut = true → (s.pwr.mode = .lead ∨ s.pwr.mode = .drill) → ∃ t, exec .leadInYield s = .next t ∧ t.pwr.mode = .safeHold ∧ t.pwr.cause = 5 ∧ t.pwr.faultN = true ∧
      t.pair.leadOut = false ∧ t.pair.leadIn = true ∧ t.mem = s.mem ∧ t.scan = s.scan) ∧
    (pairWorks s = true → s.pair.linkUp = true → s.pair.silent = false → exec .pairPin s = .next (raise 0x30 [pack [(31, 31, b1 (!s.pair.peerLeadOut)), (30, 30, b1 s.pair.peerLeadOut)]]
      (withPair s { s.pair with leadIn := !s.pair.peerLeadOut }))) ∧
    ((pairWorks s = false ∨ s.pair.linkUp = false ∨ s.pair.silent = true) → exec .pairPin s = .next s))

/-- CORLER_LINK_TRAINING with lanes between compatible modules brings the link up on them and, in knit-up phase 1 with a Lead that accepts in the other position, passes to phase 2; between incompatible ones, or where the Lead does not accept, a knit-up fails and a Lead only ends the training; without a lane it is remembered as failed, and CORLER_TRAINING_RETRY starts it anew 1 s later. CORLER_FRAME_RECEIVE of a bad frame of a replayed class counts a replay on its lane and after the fourth one removes the
lane; a good one clears the count: the drill message takes a Follow into Drill, the snapshot request has a Lead send its configuration, a lifeline enters the buffer of a module in knit-up phase 4 or 5, and a message that Table 11-1 does not list is not permitted. A timing message is kept with its receive stamp. A two-way exchange over a symmetric link
gives the peer's offset. PAIR_OFFSET_MEASURE, 10 ms after the last, stores the offsets that the stamps at hand give and whether the limit is exceeded, and sends the next message (its layout is log 67's). DIGEST_RECORD_RECEIVE compares with the module's own record of that frame, counting a match, an excuse or a divergence, or keeps the record; a disabled output is
counted as not compared. DIGEST_RECORD_LATE counts an own record as late, or as not compared where the peer has sent none. PAIR_CONFIG reports digests that have differed for 100 ms. -/
def Obligations.CorlerLinkCarriesThePair : Prop :=
  (∀ (r : CorlerTraining) (s : State) (l : W32), l = r.lanes &&& 0xF →
    ((pairWorks s = false ∨ (s.pair.training = false ∧ (s.pwr.mode ≠ .lead ∨ s.pair.acceptUntil = none))) → exec (.corlerLinkTraining r) s = .next s) ∧
    (pairWorks s = true → (s.pair.training = true ∨ (s.pwr.mode = .lead ∧ s.pair.acceptUntil ≠ none)) →
      (l = 0 → exec (.corlerLinkTraining r) s = .next (withPair s { s.pair with training := false, trainFailed := some (t2Ns s) })) ∧
      (l ≠ 0 → s.pwr.mode = .knitUp → pairCompatible (ownPairWord s) r.peerWord = true → r.accepting = true → r.posB ≠ s.pair.posB → ∃ t, exec (.corlerLinkTraining r) s = .next t ∧
        t.pair.linkUp = true ∧ t.pair.lanes = l ∧ t.pair.training = false ∧ (s.pair.phase = 1 → t.pair.phase = 2) ∧ (s.pair.phase ≠ 1 → t.pair.phase = s.pair.phase) ∧ t.pwr = s.pwr ∧ t.mem = s.mem ∧ t.comp = s.comp) ∧
      (l ≠ 0 → s.pwr.mode = .knitUp → (pairCompatible (ownPairWord s) r.peerWord = false ∨ r.accepting = false ∨ r.posB = s.pair.posB) → ∃ t, exec (.corlerLinkTraining r) s = .next t ∧
        t.pwr.mode = .ready ∧ t.pair.phase = 0 ∧ t.pair.linkUp = false ∧ t.mem = s.mem) ∧
      (l ≠ 0 → s.pwr.mode ≠ .knitUp → pairCompatible (ownPairWord s) r.peerWord = false → exec (.corlerLinkTraining r) s = .next (withPair s { s.pair with training := false })) ∧
      (l ≠ 0 → s.pwr.mode ≠ .knitUp → pairCompatible (ownPairWord s) r.peerWord = true → ∃ t, exec (.corlerLinkTraining r) s = .next t ∧ t.pair.linkUp = true ∧ t.pair.lanes = l ∧
        t.pair.training = false ∧ Outgoing.corler 1 [ownPairWord s] ∈ t.outbox ∧ t.pwr = s.pwr ∧ t.mem = s.mem))) ∧
  (∀ s : State,
    (∀ a, s.pair.trainFailed = some a → a + 1000000000 ≤ t2Ns s → (s.pwr.mode = .knitUp ∨ (s.pwr.mode = .lead ∧ s.pair.acceptUntil ≠ none)) →
      exec .corlerTrainingRetry s = .next (withPair s { s.pair with training := true, trainFailed := none })) ∧
    (∀ a, s.pair.trainFailed = some a → (t2Ns s < a + 1000000000 ∨ (s.pwr.mode ≠ .knitUp ∧ (s.pwr.mode ≠ .lead ∨ s.pair.acceptUntil = none))) → exec .corlerTrainingRetry s = .next s) ∧ (s.pair.trainFailed = none → exec .corlerTrainingRetry s = .next s)) ∧
  (∀ (lane : Nat) (f : CorlerFrame) (s v : State), lane < 4 → v = withPair s { s.pair with replays := tset lane 0 s.pair.replays } →
    ((pairWorks s = false ∨ s.pair.linkUp = false ∨ bitOf s.pair.lanes lane = false) → exec (.corlerFrameReceive lane f) s = .next s) ∧
    (pairWorks s = true → s.pair.linkUp = true → bitOf s.pair.lanes lane = true →
      (f.crcOk = true → f.msg = .ordinary → exec (.corlerFrameReceive lane f) s = .next v) ∧
      (∀ w, f.crcOk = true → f.msg = .unlisted w → exec (.corlerFrameReceive lane f) s = .next (notPermitted 3 4 0 w 0 v)) ∧
      (∀ n ret, f.crcOk = true → f.msg = .drill n ret → s.pwr.mode = .follow → ∃ t, exec (.corlerFrameReceive lane f) s = .next t ∧ t.pwr.mode = .drill ∧ t.pair.leadOut = s.pair.leadOut ∧
        t.pair.drill = some { frame := frameNamed (refGenOf s) (w32 n), ret := ret, wasLead := s.pair.leadOut } ∧ t.mem = s.mem) ∧
      (f.crcOk = true → f.msg = .snapshotRequest → s.pwr.mode = .lead → ∃ t, exec (.corlerFrameReceive lane f) s = .next t ∧ Outgoing.corler 4 [configDigest s] ∈ t.outbox ∧
        t.pair.copyTries = [] ∧ t.pair.copyDone = [] ∧ t.pair.rapWait = [] ∧ t.mem = s.mem) ∧
      ((∀ n ret, f.crcOk = true → f.msg = .drill n ret → s.pwr.mode ≠ .follow → exec (.corlerFrameReceive lane f) s = .next v) ∧
        (f.crcOk = true → f.msg = .snapshotRequest → s.pwr.mode ≠ .lead → exec (.corlerFrameReceive lane f) s = .next v)) ∧
      (∀ n i k bs, f.crcOk = true → f.msg = .lifeline n i k bs → ((s.pwr.mode = .knitUp ∧ (s.pair.phase = 4 ∨ s.pair.phase = 5) ∧ 0 < stitchN (canGet s n).w → ∃ t, exec (.corlerFrameReceive lane f) s = .next t ∧
          tfind i (canGet t n).lives = some k ∧ (∀ d, d ≠ n → canGet t d = canGet s d) ∧ t.pair = v.pair ∧ t.scan = s.scan) ∧
        ((s.pwr.mode ≠ .knitUp ∨ (s.pair.phase ≠ 4 ∧ s.pair.phase ≠ 5)) → exec (.corlerFrameReceive lane f) s = .next v))) ∧
      (f.crcOk = false → f.cls ≠ 1 → f.cls ≠ 3 → f.cls ≠ 4 → exec (.corlerFrameReceive lane f) s = .next s) ∧
      (f.crcOk = false → (f.cls = 1 ∨ f.cls = 3 ∨ f.cls = 4) → tget 0 s.pair.replays lane < 4 → exec (.corlerFrameReceive lane f) s =
        .next (withPair s { s.pair with replays := tset lane (tget 0 s.pair.replays lane + 1) s.pair.replays })) ∧
      (f.crcOk = false → (f.cls = 1 ∨ f.cls = 3 ∨ f.cls = 4) → 4 ≤ tget 0 s.pair.replays lane → ∃ t, exec (.corlerFrameReceive lane f) s = .next t ∧
        t.pair.lanes = s.pair.lanes &&& ~~~(w32 (2 ^ lane)) ∧ (laneGet t (80 + lane)).ovl = 5 ∧ t.pair.linkUp = true ∧ t.mem = s.mem))) ∧
  (∀ (lane : Nat) (f : CorlerFrame) (s : State) (i : W16) (echo prev : Option (W16 × PairStamp)), lane < 4 → pairWorks s = true → s.pair.linkUp = true → bitOf s.pair.lanes lane = true →
    f.crcOk = true → f.msg = .timing i echo prev → ∃ t, exec (.corlerFrameReceive lane f) s = .next t ∧ t.pair.tmRx = some (i, pairStampNow f.stamp s) ∧ t.pair.tmEcho = echo ∧
      t.tb = s.tb ∧ t.mem = s.mem ∧ t.pwr = s.pwr) ∧
  (∀ (ownTx peerRx peerTx ownRx d : Nat) (o : Int), (peerRx : Int) = ownTx + d + 4 * o → (peerTx : Int) + d = ownRx + 4 * o → twoWay ownTx peerRx peerTx ownRx = o) ∧
  (∀ (p : StampNs) (s : State),
    ((pairWorks s = false ∨ s.pair.linkUp = false ∨ t2Ns s < s.pair.tmAt + 10000000) → exec (.pairOffsetMeasure p) s = .next s) ∧
    (pairWorks s = true → s.pair.linkUp = true → s.pair.tmAt + 10000000 ≤ t2Ns s →
      (pairOffsets s = none → ∃ t, exec (.pairOffsetMeasure p) s = .next t ∧ t.tb.pairT0Ofs = s.tb.pairT0Ofs ∧ t.tb.pairT3Ofs = s.tb.pairT3Ofs ∧ t.pair.tmAt = t2Ns s ∧ t.pair.tmEcho = none ∧ t.mem = s.mem) ∧
      (∀ a b, pairOffsets s = some (a, b) → ∃ t, exec (.pairOffsetMeasure p) s = .next t ∧ t.tb.pairT0Ofs = sat32i a ∧ t.tb.pairT3Ofs = sat32i b ∧
        t.tb.pairOver = decide (s.tb.pairLimit.toNat < a.natAbs) ∧ t.tb.t0 = s.tb.t0 ∧ t.tb.t3 = s.tb.t3 ∧ t.pair.peerMode = s.pair.peerMode ∧ t.pair.tmAt = t2Ns s ∧ t.pair.tmEcho = none ∧ t.mem = s.mem ∧
        (s.tb.pairLimit.toNat < a.natAbs → t.pair.timeOk = none)))) ∧
  (∀ (r : PeerDigest) (s : State) (b : DigRec), r.output < 48 →
    b = { output := r.output, frame := r.frame, digest := r.digest, slipped := r.slipped, rescan := r.rescan, readback := r.readback } →
    ((pairWorks s = false ∨ pairCompares s = false ∨ s.pair.linkUp = false) → exec (.digestRecordReceive r) s = .next s) ∧
    (pairWorks s = true → pairCompares s = true → s.pair.linkUp = true → ∃ t, exec (.digestRecordReceive r) s = .next t ∧ t.pair.peerDigest = some r.config ∧ r.output ∈ t.pair.peerSeen ∧ t.mem = s.mem ∧ t.scan = s.scan ∧
      ((outGet s r.output).en = false → t.pair.cmpNone = sat32 (s.pair.cmpNone + 1) ∧ tget 0 t.pair.cmpLast r.output = 5 ∧ t.pair.ownRecs = s.pair.ownRecs ∧ t.pair.peerRecs = s.pair.peerRecs) ∧
      ((outGet s r.output).en = true → s.pair.ownRecs.find? (sameFrame b) = none → t.pair.peerRecs = s.pair.peerRecs ++ [b] ∧ t.pair.ownRecs = s.pair.ownRecs ∧ t.pair.cmpLast = s.pair.cmpLast) ∧
      (∀ a, (outGet s r.output).en = true → s.pair.ownRecs.find? (sameFrame b) = some a → t.pair.ownRecs = (s.pair.ownRecs.filter fun x => !sameFrame b x) ∧ t.pair.peerRecs = s.pair.peerRecs ∧
        (a.digest = b.digest → t.pair.cmpMatch = sat32 (s.pair.cmpMatch + 1) ∧ tget 0 t.pair.cmpLast r.output = 1) ∧
        (a.digest ≠ b.digest → (a.slipped ≠ 0 ∨ b.slipped ≠ 0 ∨ a.rescan = true ∨ b.rescan = true) → t.pair.cmpExcused = sat32 (s.pair.cmpExcused + 1) ∧ tget 0 t.pair.cmpLast r.output = 2) ∧
        (a.digest ≠ b.digest → a.slipped = 0 → b.slipped = 0 → a.rescan = false → b.rescan = false → t.pair.cmpDiverge = sat32 (s.pair.cmpDiverge + 1) ∧ tget 0 t.pair.cmpLast r.output = 3)))) ∧
  (∀ (o : Nat) (s : State), o < 48 →
    (s.pair.ownRecs.find? (fun a => a.output == o) = none → exec (.digestRecordLate o) s = .next s) ∧
    (∀ a, s.pair.ownRecs.find? (fun a => a.output == o) = some a →
      ((flGet s (orGen (outRec s o))).next < frameNamed (flGet s (orGen (outRec s o))) a.frame + 6 → exec (.digestRecordLate o) s = .next s) ∧
      (frameNamed (flGet s (orGen (outRec s o))) a.frame + 6 ≤ (flGet s (orGen (outRec s o))).next →
        (s.pair.peerSeen.contains o = true → exec (.digestRecordLate o) s = .next (withPair s { s.pair with cmpLast := tset o 4 s.pair.cmpLast, cmpLate := sat32 (s.pair.cmpLate + 1), ownRecs := s.pair.ownRecs.filter fun x => !sameFrame a x })) ∧
        (s.pair.peerSeen.contains o = false → exec (.digestRecordLate o) s = .next (withPair s { s.pair with cmpLast := tset o 5 s.pair.cmpLast, cmpNone := sat32 (s.pair.cmpNone + 1), ownRecs := s.pair.ownRecs.filter fun x => !sameFrame a x }))))) ∧
  (∀ (s : State) (d : W32), (pairCompares s = false → exec .pairConfig s = .next s) ∧
    (pairCompares s = true → s.pair.peerDigest = some d →
      (d = configDigest s → ∃ t, exec .pairConfig s = .next t ∧ t.pair = { s.pair with cfgSince := none, cfgRaised := false } ∧ t.mem = s.mem) ∧
      (∀ a, d ≠ configDigest s → s.pair.cfgSince = some a → s.pair.cfgRaised = false → a + 100000000 ≤ t2Ns s → exec .pairConfig s =
        .next (raise 0x31 [pack [(31, 31, 1)], configDigest s, d] (withPair s { s.pair with cfgRaised := true }))) ∧
      (d ≠ configDigest s → s.pair.cfgSince = none → exec .pairConfig s = .next (withPair s { s.pair with cfgSince := some (t2Ns s) })) ∧
      (∀ a, d ≠ configDigest s → s.pair.cfgSince = some a → (s.pair.cfgRaised = true ∨ t2Ns s < a + 100000000) → exec .pairConfig s = .next s)))

/-- TAKEOVER, at its moment, makes a Follow, or the module of a drill that does not drive LEAD_OUT, the Lead: LEAD_OUT rises and every enabled output's next frame goes whole. HANDOVER_REQUEST names a frame when the Follow is fit; a Lead that is refused stays Lead for an output fault, and otherwise leaves its role alone. HANDOVER_SWITCH, at that frame, releases a Lead's LEAD_OUT and takes it where its reason says, and makes the Follow
Lead once its peer's LEAD_OUT is reported low. HANDOVER_TIMEOUT gives a Follow's handover, or a drill's swap, up 200 us after its moment. LEAVE_MESSAGE_RECEIVE takes a Follow or a knit-up to Ready. DRILL_SWAP and DRILL_RETURN swap LEAD_OUT at their frames; DRILL_RESULT, 3 s after the last swap, ends the drill in Lead or Follow by LEAD_OUT (log 41).
However a drill ends, DRILL_RESULT gives the largest gap measured and the outputs whose echo matched or did not. Before its moment each changes nothing. -/
def Obligations.RolesMoveAtTheirFrames : Prop :=
  (∀ s : State, (s.pair.take = none → exec .takeover s = .next s) ∧
    (∀ k, s.pair.take = some k → (t0Ns s < k.due ∨ followSide s = false) → exec .takeover s = .next s) ∧
    (∀ k, s.pair.take = some k → k.due ≤ t0Ns s → followSide s = true → ∃ t, exec .takeover s = .next t ∧ t.pwr.mode = .lead ∧ t.pair.leadOut = true ∧ t.pair.take = none ∧ t.pair.hand = none ∧
      t.pair.drill = none ∧ t.pair.gap = some (k.detected + 100000) ∧ (∀ o, (outGet s o).en = true → outGet t o = { outGet s o with whole := true }) ∧
      (∀ o, (outGet s o).en = false → outGet t o = outGet s o) ∧ t.mem = s.mem ∧ t.comp = s.comp)) ∧
  (∀ s : State, (s.pair.want = none → exec .handoverRequest s = .next s) ∧
    (∀ r, s.pair.want = some r → s.pwr.mode ≠ .lead → exec .handoverRequest s = .next (withPair s { s.pair with want := none })) ∧
    (∀ r, s.pair.want = some r → s.pwr.mode = .lead → s.pair.peerFit = true → s.pair.silent = false → (refGenOf s).en = true → exec .handoverRequest s =
      .next (withPair s { s.pair with want := none, hand := some { frame := refFrame s (t0Ns s + 50000), reason := some r, requestedAt := t0Ns s } })) ∧
    (∀ r, s.pair.want = some r → s.pwr.mode = .lead → (s.pair.peerFit = false ∨ s.pair.silent = true ∨ (refGenOf s).en = false) → ∃ t, exec .handoverRequest s = .next t ∧ t.pair.want = none ∧ t.mem = s.mem ∧
      (∀ o, r = .outputFault o → t = roleEvent 5 5 9 (refFrame s (t0Ns s)) (t0Ns s) (withPair s { s.pair with want := none })) ∧
      (∀ k, r = .safeHold k → t.pwr.mode = .safeHold ∧ t.pwr.cause = k ∧ t.pair.leadOut = false) ∧ (r = .bindOff → t.pwr.mode = .bindOff ∧ t.pair.leadOut = false) ∧
      (∀ p, r = .maintenance p → t.pwr.mode = .maintenance ∧ t.pair.leadOut = false))) ∧
  (∀ s : State, (s.pair.hand = none → exec .handoverSwitch s = .next s) ∧
    (∀ h, s.pair.hand = some h → refReached s h.frame 0 = false → exec .handoverSwitch s = .next s) ∧
    (∀ h, s.pair.hand = some h → ((h.reason ≠ none ∧ s.pwr.mode ≠ .lead) ∨ (h.reason = none ∧ s.pwr.mode ≠ .follow)) → exec .handoverSwitch s = .next s) ∧
    (∀ h r, s.pair.hand = some h → h.reason = some r → refReached s h.frame 0 = true → s.pwr.mode = .lead → ∃ t, exec .handoverSwitch s = .next t ∧ t.pair.leadOut = false ∧ t.pair.hand = none ∧
      t.pwr.mode = (match r with | .outputFault _ => .follow | .safeHold _ => .safeHold | .bindOff => .bindOff | .maintenance _ => .maintenance) ∧ t.mem = s.mem ∧ t.scan = s.scan) ∧
    (∀ h, s.pair.hand = some h → h.reason = none → refReached s h.frame 0 = true → s.pwr.mode = .follow → s.pair.peerLeadOut = true → exec .handoverSwitch s = .next s) ∧
    (∀ h, s.pair.hand = some h → h.reason = none → refReached s h.frame 0 = true → s.pwr.mode = .follow → s.pair.peerLeadOut = false → ∃ t, exec .handoverSwitch s = .next t ∧
      t.pwr.mode = .lead ∧ t.pair.leadOut = true ∧ t.pair.hand = none ∧ t.pair.gap = some (t0Ns s) ∧ (∀ o, (outGet s o).en = true → (outGet t o).whole = true) ∧ t.mem = s.mem)) ∧
  (∀ s : State, ((s.pair.silent = true ∨ s.pair.peerLeadOut = false ∨ (s.pair.hand = none ∧ s.pair.drill = none)) → exec .handoverTimeout s = .next s) ∧
    (∀ h, s.pair.silent = false → s.pair.peerLeadOut = true → s.pair.hand = some h → h.reason = none → s.pwr.mode = .follow →
      (refReached s h.frame 0 = true → displayTime (refGenOf s) h.frame + 100000 ≤ t0Ns s → exec .handoverTimeout s =
        .next (roleEvent 6 6 9 h.frame h.requestedAt (withPair s { s.pair with hand := none }))) ∧
      ((t0Ns s < displayTime (refGenOf s) h.frame + 100000 ∨ refReached s h.frame 0 = false) → exec .handoverTimeout s = .next s)) ∧
    (∀ h, s.pair.hand = some h → (h.reason ≠ none ∨ s.pwr.mode ≠ .follow) → exec .handoverTimeout s = .next s) ∧
    (∀ d, s.pair.silent = false → s.pair.peerLeadOut = true → s.pair.hand = none → s.pair.drill = some d →
      (followSide s = true → d.swaps = 0 → refReached s d.frame 0 = true → displayTime (refGenOf s) d.frame + 100000 ≤ t0Ns s → ∃ t, exec .handoverTimeout s = .next t ∧ t.pwr.mode = .follow ∧
        t.pair.drill = none ∧ t.mem = s.mem ∧ t.scan = s.scan) ∧
      ((followSide s = false ∨ d.swaps ≠ 0 ∨ refReached s d.frame 0 = false ∨ t0Ns s < displayTime (refGenOf s) d.frame + 100000) → exec .handoverTimeout s = .next s))) ∧
  (∀ s : State, (pairWorks s = true → s.pair.linkUp = true → (s.pwr.mode = .follow ∨ s.pwr.mode = .knitUp) → ∃ t, exec .leaveMessageReceive s = .next t ∧ t.pwr.mode = .ready ∧
      t.pair.linkUp = false ∧ t.pair.leadOut = false ∧ t.mem = s.mem ∧ t.scan = s.scan) ∧
    ((pairWorks s = false ∨ s.pair.linkUp = false ∨ (s.pwr.mode ≠ .follow ∧ s.pwr.mode ≠ .knitUp)) → exec .leaveMessageReceive s = .next s)) ∧
  (∀ s : State, (s.pair.drill = none ∨ s.pwr.mode ≠ .drill) → exec .drillSwap s = .next s ∧ exec .drillReturn s = .next s ∧ exec (.drillResult ()) s = .next s) ∧
  (∀ (s : State) (d : Drill), s.pair.drill = some d → s.pwr.mode = .drill →
    (d.swaps = 0 → refReached s d.frame 0 = true → s.pair.leadOut = true → exec .drillSwap s = .next (roleEvent 8 8 5 d.frame (t0Ns s)
      (withPair s { s.pair with leadOut := false, gap := none, gapDone := [], drill := some { d with swaps := 1, swapAt := t0Ns s, swapFrame := d.frame } }))) ∧
    (d.swaps = 0 → refReached s d.frame 0 = true → s.pair.leadOut = false → s.pair.peerLeadOut = false → ∃ t, exec .drillSwap s = .next t ∧ t.pair.leadOut = true ∧
      t.pair.drill = some { d with swaps := 1, swapAt := t0Ns s, swapFrame := d.frame } ∧ (∀ o, (outGet s o).en = true → (outGet t o).whole = true) ∧ t.pwr = s.pwr ∧ t.mem = s.mem) ∧
    ((d.swaps ≠ 0 ∨ refReached s d.frame 0 = false ∨ (s.pair.leadOut = false ∧ s.pair.peerLeadOut = true)) → exec .drillSwap s = .next s) ∧
    (d.swaps = 1 → d.ret ≠ 0 → refReached s (drillBack s d) 0 = true → s.pair.leadOut = true → exec .drillReturn s = .next (roleEvent 8 8 5 (drillBack s d) (t0Ns s)
      (withPair s { s.pair with leadOut := false, gap := none, gapDone := [], drill := some { d with swaps := 2, swapAt := t0Ns s, swapFrame := drillBack s d } }))) ∧
    (d.swaps = 1 → d.ret ≠ 0 → refReached s (drillBack s d) 0 = true → s.pair.leadOut = false → s.pair.peerLeadOut = false → ∃ t, exec .drillReturn s = .next t ∧ t.pair.leadOut = true ∧
      t.pair.drill = some { d with swaps := 2, swapAt := t0Ns s, swapFrame := drillBack s d } ∧ t.pwr = s.pwr ∧ t.mem = s.mem) ∧
    ((d.swaps ≠ 1 ∨ d.ret = 0 ∨ refReached s (drillBack s d) 0 = false ∨ (s.pair.leadOut = false ∧ s.pair.peerLeadOut = true)) → exec .drillReturn s = .next s) ∧
    ((if d.ret = 0 then 1 else 2) ≤ d.swaps → d.swapAt + 3000000000 ≤ t0Ns s → ∃ t, exec (.drillResult ()) s = .next t ∧ t.pwr.mode = (if s.pair.leadOut = true then .lead else .follow) ∧
      t.pair = { s.pair with drill := none } ∧ t.mem = s.mem ∧ t.scan = s.scan) ∧
    ((d.swaps < (if d.ret = 0 then 1 else 2) ∨ t0Ns s < d.swapAt + 3000000000) → exec (.drillResult ()) s = .next s)) ∧
  (∀ s : State, (s.pair.drill = none → drillEnd s = s) ∧
    (∀ d, s.pair.drill = some d → ∃ w good bad, drillEnd s = raise 0x34 ([w, w32 d.swapFrame] ++ outputMask good ++ outputMask bad) (withPair s { s.pair with drill := none }) ∧
      fld w 31 16 = sat16 ((s.pair.gaps.map Prod.snd).foldl Nat.max 0 / 1000) ∧ (∀ o ∈ good, (outGet s o).en = true ∧ o ∈ d.matched ∧ o ∉ d.mismatched) ∧ (∀ o ∈ bad, (outGet s o).en = true ∧ o ∈ d.mismatched)))

/-- KNIT_PHASE_END ends phase 2 when T0 has been LOCKED in its limit for 1 s, phase 3 when the snapshot is there, which the module then holds, phase 4 when every open compressed stream is copied or waits for a random access point, and phase 5, after eight matching frames on a fit module, in Follow; each passes to the next phase and to no other, and without its condition
nothing changes. KNIT_STREAM_COPY marks a stream as copied where every surface that the mover reads verifies; the rejoining module then holds the Lead's pictures of it with its own record. A copy that would make the Lead wait is abandoned, and after the third, or one that fails to verify, the stream waits for a random access point. KNIT_TIMEOUT at the limit ends the knit-up in Ready; PAIR_ACCEPT_EXPIRY ends the acceptance. -/
def Obligations.KnitUpPassesItsPhasesInOrder : Prop :=
  (∀ (k : KnitEnd) (s : State), (s.pwr.mode ≠ .knitUp ∨ pairWorks s = false ∨ s.pair.linkUp = false ∨ s.pair.phase < 2 ∨ 5 < s.pair.phase) → exec (.knitPhaseEnd k) s = .next s) ∧
  (∀ (k : KnitEnd) (s : State), s.pwr.mode = .knitUp → pairWorks s = true → s.pair.linkUp = true →
    (s.pair.phase = 2 → timeProven s = true → ∃ t, exec (.knitPhaseEnd k) s = .next t ∧ t.pair = { s.pair with phase := 3 } ∧ t.comp = s.comp ∧ t.mem = s.mem) ∧
    (s.pair.phase = 2 → timeProven s = false → exec (.knitPhaseEnd k) s = .next s) ∧
    (∀ p, s.pair.phase = 3 → k.snap = some p → ∃ t, exec (.knitPhaseEnd k) s = .next t ∧ t.pair.phase = 4 ∧ t.comp.ledger = p.ledger ∧ t.comp.commits = p.commits ∧
      t.comp.xfers = p.xfers ∧ t.comp.stills = p.stills ∧ (∀ x ∈ t.net.flows, ∃ y ∈ p.flows, x.1 = y.1 ∧ x.2.rcd = y.2) ∧ (∀ o, (∀ x ∈ p.outs, x.1 ≠ o) → outGet t o = outGet s o) ∧
      (∀ o, (outGet t o).en = (outGet s o).en) ∧ (∀ c, (ecGet t c).en = (ecGet s c).en) ∧ t.pwr = s.pwr ∧ t.tb.t0 = s.tb.t0) ∧
    (s.pair.phase = 3 → k.snap = none → exec (.knitPhaseEnd k) s = .next s) ∧
    (s.pair.phase = 4 → k.caughtUp = true → (∀ n ∈ codedOpen s, n ∈ s.pair.copyDone ∨ n ∈ s.pair.rapWait) → ∃ t, exec (.knitPhaseEnd k) s = .next t ∧ t.pair = { s.pair with phase := 5, proofFrames := 0 } ∧
      t.pwr = s.pwr ∧ t.str = s.str ∧ t.scan = s.scan ∧ (k.state = none → t.mem = s.mem ∧ t.comp = s.comp ∧ t.enc = s.enc)) ∧
    (s.pair.phase = 4 → (k.caughtUp = false ∨ ∃ n ∈ codedOpen s, n ∉ s.pair.copyDone ∧ n ∉ s.pair.rapWait) → exec (.knitPhaseEnd k) s = .next s) ∧
    (s.pair.phase = 5 → 8 ≤ s.pair.proofFrames → pairFit s = true → ∃ t, exec (.knitPhaseEnd k) s = .next t ∧ t.pwr.mode = .follow ∧ t.pair.phase = 0 ∧ t.pair.leadOut = false ∧
      t.pair.linkUp = true ∧ t.mem = s.mem ∧ t.comp = s.comp ∧ t.scan = s.scan) ∧
    (s.pair.phase = 5 → (s.pair.proofFrames < 8 ∨ pairFit s = false) → exec (.knitPhaseEnd k) s = .next s)) ∧
  (∀ (n : Nat) (x : StreamCopy) (s : State), n < 256 →
    ((pairWorks s = false ∨ s.pair.linkUp = false ∨ n ∉ codedOpen s ∨ n ∈ s.pair.copyDone ∨ n ∈ s.pair.rapWait) → exec (.knitStreamCopy n x) s = .next s) ∧
    ((s.pwr.mode ≠ .lead ∨ s.pair.peerMode ≠ 7) → (s.pwr.mode ≠ .knitUp ∨ s.pair.phase ≠ 4) → exec (.knitStreamCopy n x) s = .next s) ∧
    (pairWorks s = true → s.pair.linkUp = true → n ∈ codedOpen s → n ∉ s.pair.copyDone → n ∉ s.pair.rapWait →
      ((s.pwr.mode = .lead ∧ s.pair.peerMode = 7) ∨ (s.pwr.mode = .knitUp ∧ s.pair.phase = 4)) →
      (x.wouldWait = true → tget 0 s.pair.copyTries n < 2 → exec (.knitStreamCopy n x) s =
        .next (withPair s { s.pair with copyTries := tset n (tget 0 s.pair.copyTries n + 1) s.pair.copyTries })) ∧
      (x.wouldWait = true → 2 ≤ tget 0 s.pair.copyTries n → ∃ t, exec (.knitStreamCopy n x) s = .next t ∧
        t.pair = { s.pair with rapWait := n :: s.pair.rapWait } ∧ (s.pwr.mode = .lead → t.str = s.str) ∧ (s.pwr.mode = .knitUp → (strGet t n) = { strGet s n with wantRap := true }) ∧ t.mem = s.mem) ∧
      (∀ bad, x.wouldWait = false → bad = (if s.pwr.mode = .lead then (moverRead n true x.faults s).1 else (moverRead n false x.faults (if x.verified = true then copyIn n x s else s)).1) →
        ((bad = true ∨ x.verified = false) → ∃ t, exec (.knitStreamCopy n x) s = .next t ∧ t.pair = { s.pair with rapWait := n :: s.pair.rapWait } ∧
          (s.pwr.mode = .knitUp → (strGet t n).wantRap = true) ∧ (∀ m, m ≠ n → strGet t m = strGet s m)) ∧
        (bad = false → x.verified = true → ∃ t, exec (.knitStreamCopy n x) s = .next t ∧ t.pair = { s.pair with copyDone := n :: s.pair.copyDone } ∧
          (s.pwr.mode = .lead → strGet t n = strGet s n) ∧
          (∀ e, s.pwr.mode = .knitUp → x.entry = some e → (strGet t n).pics = e.pics ∧ (strGet t n).rcd = (strGet s n).rcd ∧ (strGet t n).st = (strGet s n).st ∧ (strGet t n).wantRap = false) ∧
          (∀ m, m ≠ n → strGet t m = strGet s m))))) ∧
  (∀ s : State, (s.pwr.mode = .knitUp → s.pair.knitAt + s.pair.limitS * 1000000000 ≤ t2Ns s → ∃ t, exec .knitTimeout s = .next t ∧ t.pwr.mode = .ready ∧ t.pair.phase = 0 ∧ t.pair.linkUp = false ∧
      t.mem = s.mem ∧ t.scan = s.scan) ∧
    ((s.pwr.mode ≠ .knitUp ∨ t2Ns s < s.pair.knitAt + s.pair.limitS * 1000000000) → exec .knitTimeout s = .next s) ∧
    (∀ a, s.pair.acceptUntil = some a → a ≤ t2Ns s → exec .pairAcceptExpiry s = .next (withPair s { s.pair with acceptUntil := none, trainFailed := none, training := s.pair.training && s.pwr.mode != .lead })) ∧
    (∀ a, s.pair.acceptUntil = some a → t2Ns s < a → exec .pairAcceptExpiry s = .next s) ∧ (s.pair.acceptUntil = none → exec .pairAcceptExpiry s = .next s))

/-- TOUCH_PANEL_SET of a lawful record for a disabled panel stores it and its start frequency; a bad one is a parameter error at its lowest bad word, an enabled panel is RESOURCE_HELD. TOUCH_ENABLE of a panel with a record, in service, starts its baselining, and TOUCH_DISABLE stops it; each raises TOUCH_STATE. TOUCH_REF_SAVE in Ready or Maintenance takes the current baselines, and TOUCH_REF_SAVE_END
makes them the panel's reference when the flash took them (after a failed write the flash's content is free). TOUCH_SELFTEST starts a test, whose end adds the electrodes found open or shorted to the faulty ones, or clears these where none is found, and starts baselining; in another mode, or while a contact, a baselining or a test stands, each is refused. TOUCH_BASELINE_DONE, after 64 start scans, takes 32 times each sum as its baseline where no valid reference says otherwise, and runs the panel. TOUCH_STATUS reports a panel. (That enabling an
enabled panel succeeds and disabling ends contacts without a report are DEDUCED, log 33.) -/
def Obligations.TouchPanelsAreSetEnabledAndTested : Prop :=
  (∀ (c : Cmd) (s u : State) (r : List W32) (p : Nat), u = takeCmd c s → Taken 0x0800 c s → r = wordsOf 16 (crec c) → p = prPanel r →
    ((tpGet s p).st ≠ 0 → exec (.touchPanelSet c) s = .next (answer 0x0800 c s (held 0xFF p) u)) ∧
    ((tpGet s p).st = 0 → splitHeld u r = true → exec (.touchPanelSet c) s = .next (answer 0x0800 c s (held 0xFF (p + 1)) u)) ∧
    (∀ n, (tpGet s p).st = 0 → splitHeld u r = false → panelBad u r = some n → exec (.touchPanelSet c) s = .next (answer 0x0800 c s (badRecord n) u)) ∧
    ((tpGet s p).st = 0 → splitHeld u r = false → panelBad u r = none → exec (.touchPanelSet c) s =
      .next (answer 0x0800 c s (.ok []) (tpSet p { tpGet s p with rcd := r, freq := prStart r } u)))) ∧
  (∀ (c : Cmd) (s u : State) (p : Nat) (x : TouchPanel), u = takeCmd c s → p = (cw c 4).toNat → x = tpGet s p →
    (Taken 0x0801 c s → (7 < p ∨ x.rcd = [] ∨ panelExists u p = false) → exec (.touchEnable c) s = .next (answer 0x0801 c s (badField 16) u)) ∧
    (Taken 0x0801 c s → p ≤ 7 → x.rcd ≠ [] → panelExists u p = true → bitOf s.pwr.domains 12 = true → bitOf s.pwr.iso 12 = false →
      (x.st ≠ 0 → exec (.touchEnable c) s = .next (answer 0x0801 c s (.ok []) u)) ∧
      (x.st = 0 → ∃ t, exec (.touchEnable c) s = .next (answer 0x0801 c s (.ok []) t) ∧ tpGet t p = { tpDrop x with st := 1, freq := prStart x.rcd, scans := 0, sums := [], present := [], higher := [], fulls := 0, refreshes := 0 } ∧ (∀ q, q ≠ p → tpGet t q = tpGet s q) ∧ t.mem = s.mem ∧ t.scan = s.scan)) ∧
    (Taken 0x0801 c s → p ≤ 7 → x.rcd ≠ [] → panelExists u p = true → (bitOf s.pwr.domains 12 = false ∨ bitOf s.pwr.iso 12 = true) → exec (.touchEnable c) s = .next (answer 0x0801 c s (held 0xFF 12) u)) ∧
    (Taken 0x0802 c s → 7 < p → exec (.touchDisable c) s = .next (answer 0x0802 c s (badField 16) u)) ∧
    (Taken 0x0803 c s → (s.pwr.mode = .ready ∨ s.pwr.mode = .maintenance) → (7 < p ∨ x.st = 0) → exec (.touchRefSave c) s = .next (answer 0x0803 c s (badField 16) u)) ∧
    (Taken 0x0803 c s → (s.pwr.mode = .ready ∨ s.pwr.mode = .maintenance) → p ≤ 7 → x.st ≠ 0 → (x.st = 1 ∨ x.st = 4 ∨ x.contacts ≠ []) → exec (.touchRefSave c) s = .next (answer 0x0803 c s (held 0xFF p) u)) ∧
    (Taken 0x0804 c s → (s.pwr.mode = .ready ∨ s.pwr.mode = .maintenance) → (7 < p ∨ x.st = 0) → exec (.touchSelftest c) s = .next (answer 0x0804 c s (badField 16) u)) ∧
    (Taken 0x0804 c s → (s.pwr.mode = .ready ∨ s.pwr.mode = .maintenance) → p ≤ 7 → x.st ≠ 0 → (bitOf s.pwr.domains 12 = false ∨ bitOf s.pwr.iso 12 = true) → exec (.touchSelftest c) s = .next (answer 0x0804 c s (held 0xFF 12) u)) ∧
    (Taken 0x0802 c s → p ≤ 7 → x.st = 0 → exec (.touchDisable c) s = .next (answer 0x0802 c s (.ok []) u)) ∧
    (Taken 0x0802 c s → p ≤ 7 → x.st ≠ 0 → ∃ t, exec (.touchDisable c) s = .next (answer 0x0802 c s (.ok []) t) ∧ (tpGet t p).st = 0 ∧ (tpGet t p).contacts = [] ∧ (tpGet t p).refOk = false ∧
      (tpGet t p).rcd = x.rcd ∧ (∀ q, q ≠ p → tpGet t q = tpGet s q) ∧ t.mem = s.mem ∧ t.scan = s.scan) ∧
    (Taken 0x0803 c s → (s.pwr.mode = .ready ∨ s.pwr.mode = .maintenance) → p ≤ 7 → x.st ≠ 0 → x.st ≠ 1 → x.st ≠ 4 → x.contacts = [] → exec (.touchRefSave c) s = .next (answer 0x0803 c s (.later p [])
      (withTouch u { u.touch with saving := some (p, { drv := prDrv x.rcd, sns := prSns x.rcd, base := x.base }) }))) ∧
    (Taken 0x0803 c s → s.pwr.mode ≠ .ready → s.pwr.mode ≠ .maintenance → exec (.touchRefSave c) s = .next (answer 0x0803 c s (.no 6 0) u)) ∧
    (Taken 0x0804 c s → (s.pwr.mode = .ready ∨ s.pwr.mode = .maintenance) → p ≤ 7 → x.st ≠ 0 → bitOf s.pwr.domains 12 = true → bitOf s.pwr.iso 12 = false → ∃ t, exec (.touchSelftest c) s =
      .next (answer 0x0804 c s (.later p []) t) ∧ tpGet t p = { tpDrop x with st := 4 } ∧ (∀ q, q ≠ p → tpGet t q = tpGet s q) ∧ t.mem = s.mem) ∧
    (Taken 0x0804 c s → s.pwr.mode ≠ .ready → s.pwr.mode ≠ .maintenance → exec (.touchSelftest c) s = .next (answer 0x0804 c s (.no 6 0) u)) ∧
    (Taken 0x0805 c s → p ≤ 7 → exec (.touchStatus c) s = .next (answer 0x0805 c s (.ok [pack [(31, 29, p), (28, 25, tpCode x), (24, 24, b1 x.refOk)], w32 x.freq]) u)) ∧
    (Taken 0x0805 c s → 7 < p → exec (.touchStatus c) s = .next (answer 0x0805 c s (badField 16) u))) ∧
  (∀ (ok : Bool) (s : State) (o : Outst) (p : Nat) (r : TouchRef), (outstOf 0x0803 s = none ∨ s.touch.saving = none → exec (.touchRefSaveEnd ok) s = .next s) ∧
    (outstOf 0x0803 s = some o → s.touch.saving = some (p, r) →
      (exec (.touchRefSaveEnd true) s = .next (completeOutst o 0 0 [] { s with touch := { s.touch with saving := none }, boot := { s.boot with touchRef := tset p r s.boot.touchRef } })) ∧
      (∃ refs, exec (.touchRefSaveEnd false) s = .next (completeOutst o 11 0 [] { s with touch := { s.touch with saving := none }, free := s.free + 1, boot := { s.boot with touchRef := refs } }) ∧
        ∀ q, q ≠ p → tfind q refs = tfind q s.boot.touchRef))) ∧
  (∀ (p : Nat) (s : State) (x : TouchPanel), p < 8 → x = tpGet s p →
    ((x.st ≠ 1 ∨ x.scans < 64) → exec (.touchBaselineDone p) s = .next s) ∧
    (x.st = 1 → 64 ≤ x.scans → ∃ t y, exec (.touchBaselineDone p) s = .next t ∧ y = tpGet t p ∧ y.st = 2 ∧ y.refOk = (touchRef s p).isSome ∧ y.first = true ∧ y.fulls = 0 ∧ y.rcd = x.rcd ∧ y.freq = x.freq ∧
      y.idleAt = scanNow s ∧ (touchRef s p = none → y.present = [] ∧ y.higher = [] ∧ ∀ f, f < 8 → tget [] y.base f = (tget [] x.sums f).map fun v => 32 * v) ∧
      (∀ r f i, touchRef s p = some r → f < 8 → i < (tget [] x.sums f).length →
        (tget [] y.base f).getD i 0 = (if thrQ x < 2 * ((tget [] r.base f).getD i 0 - 32 * (tget [] x.sums f).getD i 0).natAbs then (tget [] r.base f).getD i 0 else 32 * (tget [] x.sums f).getD i 0)) ∧
      (∀ q, q ≠ p → tpGet t q = tpGet s q) ∧ t.mem = s.mem ∧ t.scan = s.scan)) ∧
  (∀ (p : Nat) (a : TouchTest) (s : State) (x : TouchPanel) (m : List Nat × List Nat) (refs : Option (List Nat × List Nat)) (od sd os ss : List Nat), p < 8 → x = tpGet s p → m = electrodeSums x.rcd (rawCounts x.rcd a.slots) →
    refs = ((touchRef s p).map fun q => electrodeSums x.rcd ((tget [] q.base (prStart x.rcd)).map fun v => v / 256)) → od = openOnes m.1 (refs.map Prod.fst) → os = openOnes m.2 (refs.map Prod.snd) →
    sd = shortOnes ((List.range (prDrv x.rcd - 1)).map fun i => a.drvPairs.getD i 0) → ss = shortOnes ((List.range (prSns x.rcd - 1)).map fun i => a.snsPairs.getD i 0) →
    (x.st ≠ 4 → exec (.touchSelftestDone p a) s = .next s) ∧
    (x.st = 4 → ∃ t y, exec (.touchSelftestDone p a) s = .next t ∧ y = tpGet t p ∧ y.st = 1 ∧ y.freq = prStart x.rcd ∧ y.scans = 0 ∧ y.rcd = x.rcd ∧ (od = [] → os = [] → sd = [] → ss = [] → y.badDrv = [] ∧ y.badSns = []) ∧
      ((od ≠ [] ∨ os ≠ [] ∨ sd ≠ [] ∨ ss ≠ []) → ∀ i, (i ∈ y.badDrv ↔ i ∈ x.badDrv ∨ i ∈ od ∨ i ∈ sd ∨ ∃ j ∈ sd, i = j + 1) ∧ (i ∈ y.badSns ↔ i ∈ x.badSns ∨ i ∈ os ∨ i ∈ ss ∨ ∃ j ∈ ss, i = j + 1)) ∧ (∀ q, q ≠ p → tpGet t q = tpGet s q) ∧ t.mem = s.mem ∧ t.scan = s.scan))

/-- TOUCH_SCAN_START at a scan of the grid that the engine has not started, with nothing under way, starts it for each of its panels that scans, and remembers its number; otherwise it changes nothing. TOUCH_SCAN_COMPLETE, at the scan's sample time and not before, ends it: a start scan counts, a full or refresh scan of a running panel counts, a refresh scan keeping its contacts, and one of the first four ganged scans adds to the bands. Contacts are gated: a contact is
reported DOWN, when its panel suppresses, only with a verdict LIVE or NONE, one that was never DOWN stays SUPPRESSED, and one that loses its verdict is CANCELLED (Table 12-6). In Safe hold a contact over the picture is STALE; a contact over no picture has no verdict. GANGED_SCAN_ENTRY, in Night mode after the idle time without a contact, changes a panel with NIGHT_SCAN to ganged scanning, else changes nothing. -/
def Obligations.TouchScansContactsAndGating : Prop :=
  (∀ (e : Nat) (env : ListenEnv) (s : State), e < 4 →
    ((scanDue (tePhase s e) (scanNow s) = none ∨ (teGet s e).cur ≠ none ∨ ∃ k, scanDue (tePhase s e) (scanNow s) = some k ∧ (teGet s e).lastK = some (scanOnT0 s, k)) →
      exec (.touchScanStart e env) s = .next s) ∧
    (∀ (k : Nat) (K : Nat → Option ScanKind), scanDue (tePhase s e) (scanNow s) = some k → (teGet s e).cur = none → (teGet s e).lastK ≠ some (scanOnT0 s, k) →
      (∀ p, K p = if scanRuns s ((hopApply k (tpGet s p)).st == 3) && panelExists s p then scanKind (hopApply k (tpGet s p)) k else none) →
      (K (2 * e) = none → K (2 * e + 1) = none → exec (.touchScanStart e env) s = .next s) ∧
      ((K (2 * e) ≠ none ∨ K (2 * e + 1) ≠ none) → ∃ t c, exec (.touchScanStart e env) s = .next t ∧ (teGet t e).cur = some c ∧ (teGet t e).lastK = some (scanOnT0 s, k) ∧
        c.k = k ∧ c.onT0 = scanOnT0 s ∧ c.at_ = scanStart (tePhase s e) k + sampleOffset (teSplit s e) ∧ c.p0 = K (2 * e) ∧ c.p1 = K (2 * e + 1) ∧
        (K (2 * e) ≠ none → (tpGet t (2 * e)).scanNo = w32 k) ∧ (K (2 * e + 1) ≠ none → (tpGet t (2 * e + 1)).scanNo = w32 k) ∧
        (∀ i, i ≠ e → teGet t i = teGet s i) ∧ (∀ p, p / 2 ≠ e → tpGet t p = tpGet s p) ∧ t.mem = s.mem ∧ t.hif = s.hif))) ∧
  (∀ (e : Nat) (env : ScanCounts) (s : State), e < 4 →
    ((teGet s e).cur = none → exec (.touchScanComplete e env) s = .next s) ∧
    (∀ c, (teGet s e).cur = some c → (if c.onT0 = true then t0Ns s else t2Ns s) < c.at_ → exec (.touchScanComplete e env) s = .next s) ∧
    (∀ c, (teGet s e).cur = some c → c.at_ ≤ (if c.onT0 = true then t0Ns s else t2Ns s) → ∃ t, exec (.touchScanComplete e env) s = .next t ∧ (teGet t e).cur = none ∧ (teGet t e).lastK = (teGet s e).lastK ∧
      (s.pwr.state = .run → (∀ i, i ≠ e → teGet t i = teGet s i) ∧ (∀ p, p / 2 ≠ e → tpGet t p = tpGet s p) ∧ t.mem = s.mem ∧ t.scan = s.scan ∧ t.pwr = s.pwr) ∧
      (∀ (p : Nat) (d : Option ScanKind), s.pwr.state = .run → ((p = 2 * e ∧ d = c.p0) ∨ (p = 2 * e + 1 ∧ d = c.p1)) →
        (∀ f, d = some (.start f) → (tpGet s p).st = 1 → (tpGet t p).scans = (tpGet s p).scans + 1 ∧ (tpGet t p).st = 1) ∧
        (∀ f, (d = some (.full f) ∨ d = some (.refresh f)) → (tpGet s p).st = 2 → (tpGet t p).fulls = (tpGet s p).fulls + 1 ∧ (tpGet t p).st = 2) ∧
        (∀ f, d = some (.refresh f) → (tpGet s p).st = 2 → (tpGet t p).contacts.map Contact.id = (tpGet s p).contacts.map Contact.id) ∧
        (d = some .ganged → (tpGet s p).st = 3 → (tpGet s p).gangs < 4 → (tpGet t p).gangs = (tpGet s p).gangs + 1)) ∧
      ((tpGet s (2 * e)).st = 0 → (tpGet s (2 * e + 1)).st = 0 → t = teSet e { teGet s e with cur := none } s))) ∧
  (∀ (last : Option Nat) (v : Nat),
    (contactState true none false v = 0 ↔ (v = 0 ∨ v = 3)) ∧ (v ≠ 0 → v ≠ 3 → contactState true none false v = 3) ∧ contactState false none false v = 0 ∧
    (∀ l, last = some l → l ≠ 0 → l ≠ 1 → contactState true last false v = 3 ∧ contactState true last true v = 5) ∧
    (∀ l, last = some l → (l = 0 ∨ l = 1) → contactState true last true v = 2 ∧ (contactState true last false v = 1 ↔ (v = 0 ∨ v = 3)) ∧ (v ≠ 0 → v ≠ 3 → contactState true last false v = 4)) ∧
    contactState false last true v = 2 ∧ (last ≠ none → contactState false last false v = 1)) ∧
  (∀ (r : List W32) (px py at_ : Nat) (onT0 : Bool) (s : State) (x : Output) (q : List W32) (z : Int × Int), x = outGet s (prOutput r) → q = outRec s (prOutput r) → z = pixelAt r px py →
    ((47 < prOutput r ∨ x.en = false ∨ z.1 < 0 ∨ (orW q : Int) ≤ z.1 ∨ z.2 < 0 ∨ (orH q : Int) ≤ z.2) → (contactVerdict r px py at_ onT0 s).verdict = 3) ∧
    (prOutput r ≤ 47 → x.en = true → 0 ≤ z.1 → z.1 < (orW q : Int) → 0 ≤ z.2 → z.2 < (orH q : Int) → onT0 = true → s.pwr.mode = .safeHold →
      (contactVerdict r px py at_ onT0 s).verdict = 1 ∧ (contactVerdict r px py at_ onT0 s).reason = 3) ∧
    ((contactVerdict r px py at_ onT0 s).verdict = 0 → onT0 = true ∧ x.en = true ∧ s.pwr.mode ≠ .safeHold ∧ s.pwr.mode ≠ .knitUp ∧ s.pair.gap = none ∧
      ∃ g, shownStitch x (z.1.toNat / 32) (z.2.toNat / 32) at_ = some g ∧ g.kind = 0 ∧ g.unver = false)) ∧
  (∀ (p : Nat) (s : State) (x : TouchPanel), p < 8 → x = tpGet s p →
    (s.pwr.mode = .night → x.st = 2 → prNight x.rcd = true → x.contacts = [] → works s 12 = true → x.idleAt + prIdle x.rcd * 1000000000 ≤ scanNow s → ∃ t, exec (.gangedScanEntry p) s = .next t ∧
      tpGet t p = { tpDrop x with st := 3, gangs := 0, bands := [], near := 0 } ∧ (∀ q, q ≠ p → tpGet t q = tpGet s q) ∧ t.mem = s.mem ∧ t.scan = s.scan) ∧
    ((s.pwr.mode ≠ .night ∨ x.st ≠ 2 ∨ prNight x.rcd = false ∨ x.contacts ≠ [] ∨ works s 12 = false ∨ scanNow s < x.idleAt + prIdle x.rcd * 1000000000) → exec (.gangedScanEntry p) s = .next s))
end

