-- ==== Sys2Proof/Laws/Frame.lean ====
section
/-! SUPPORT. What every function may change (`Agree`): outside the units that its lemma names, the host interface, the record and the
count of open values, the block stays as it was. One lemma for each function of the block, named after it. -/

namespace Sys2Proof.Machine

set_option linter.all false
set_option Elab.async false

/-- The units that may change. -/
structure Units where
  tb : Bool := false
  mem : Bool := false
  pwr : Bool := false
  boot : Bool := false
  lane : Bool := false
  pair : Bool := false
  scan : Bool := false
  net : Bool := false
  bb : Bool := false
  str : Bool := false
  comp : Bool := false
  enc : Bool := false
  touch : Bool := false
deriving DecidableEq, Repr

/-- `t` agrees with `s` on its queue and on every unit outside `m`; on the host interface, the record and the count of open values it says
nothing. -/
structure Agree (m : Units) (s t : State) : Prop where
  pending : t.pending = s.pending
  tb : m.tb = true ∨ t.tb = s.tb
  mem : m.mem = true ∨ t.mem = s.mem
  pwr : m.pwr = true ∨ t.pwr = s.pwr
  boot : m.boot = true ∨ t.boot = s.boot
  lane : m.lane = true ∨ t.lane = s.lane
  pair : m.pair = true ∨ t.pair = s.pair
  scan : m.scan = true ∨ t.scan = s.scan
  net : m.net = true ∨ t.net = s.net
  bb : m.bb = true ∨ t.bb = s.bb
  str : m.str = true ∨ t.str = s.str
  comp : m.comp = true ∨ t.comp = s.comp
  enc : m.enc = true ∨ t.enc = s.enc
  touch : m.touch = true ∨ t.touch = s.touch

variable {m : Units} {s₀ : State}

theorem Agree.refl (m : Units) (s : State) : Agree m s s :=
  ⟨rfl, .inr rfl, .inr rfl, .inr rfl, .inr rfl, .inr rfl, .inr rfl, .inr rfl, .inr rfl, .inr rfl, .inr rfl, .inr rfl, .inr rfl, .inr rfl⟩

/-- The same by its parts. -/
def AgreeAt (m : Units) (s₀ : State) (p : List Instr) (tb : TimeUnit) (mem : MemState) (pwr : PowerUnit) (boot : Boot) (lane : LaneUnit) (pair : PairUnit) (scan : ScanUnit) (net : NetUnit) (bb : BbUnit) (str : StreamUnit) (comp : CompUnit) (enc : EncUnit) (touch : TouchUnit) : Prop :=
  p = s₀.pending ∧ (m.tb = true ∨ tb = s₀.tb) ∧ (m.mem = true ∨ mem = s₀.mem) ∧ (m.pwr = true ∨ pwr = s₀.pwr) ∧ (m.boot = true ∨ boot = s₀.boot) ∧ (m.lane = true ∨ lane = s₀.lane) ∧ (m.pair = true ∨ pair = s₀.pair) ∧ (m.scan = true ∨ scan = s₀.scan) ∧ (m.net = true ∨ net = s₀.net) ∧ (m.bb = true ∨ bb = s₀.bb) ∧ (m.str = true ∨ str = s₀.str) ∧ (m.comp = true ∨ comp = s₀.comp) ∧ (m.enc = true ∨ enc = s₀.enc) ∧ (m.touch = true ∨ touch = s₀.touch)

theorem agree_mk {pending outbox free hif tb mem pwr boot lane pair scan net bb str comp enc touch} :
    Agree m s₀ ⟨pending, outbox, free, hif, tb, mem, pwr, boot, lane, pair, scan, net, bb, str, comp, enc, touch⟩ ↔ AgreeAt m s₀ pending tb mem pwr boot lane pair scan net bb str comp enc touch :=
  ⟨fun h => ⟨h.pending, h.tb, h.mem, h.pwr, h.boot, h.lane, h.pair, h.scan, h.net, h.bb, h.str, h.comp, h.enc, h.touch⟩, fun h => ⟨h.1, h.2.1, h.2.2.1, h.2.2.2.1, h.2.2.2.2.1, h.2.2.2.2.2.1, h.2.2.2.2.2.2.1, h.2.2.2.2.2.2.2.1, h.2.2.2.2.2.2.2.2.1, h.2.2.2.2.2.2.2.2.2.1, h.2.2.2.2.2.2.2.2.2.2.1, h.2.2.2.2.2.2.2.2.2.2.2.1, h.2.2.2.2.2.2.2.2.2.2.2.2.1, h.2.2.2.2.2.2.2.2.2.2.2.2.2⟩⟩

theorem agreeAt {s : State} (hg : Agree m s₀ s)
    : AgreeAt m s₀ s.pending s.tb s.mem s.pwr s.boot s.lane s.pair s.scan s.net s.bb s.str s.comp s.enc s.touch :=
  agree_mk.1 hg

theorem agreeAt_tb {s : State} {v : TimeUnit} (h : m.tb = true) (hg : Agree m s₀ s) :
    AgreeAt m s₀ s.pending v s.mem s.pwr s.boot s.lane s.pair s.scan s.net s.bb s.str s.comp s.enc s.touch :=
  ⟨hg.pending, .inl h, hg.mem, hg.pwr, hg.boot, hg.lane, hg.pair, hg.scan, hg.net, hg.bb, hg.str, hg.comp, hg.enc, hg.touch⟩

theorem agreeAt_mem {s : State} {v : MemState} (h : m.mem = true) (hg : Agree m s₀ s) :
    AgreeAt m s₀ s.pending s.tb v s.pwr s.boot s.lane s.pair s.scan s.net s.bb s.str s.comp s.enc s.touch :=
  ⟨hg.pending, hg.tb, .inl h, hg.pwr, hg.boot, hg.lane, hg.pair, hg.scan, hg.net, hg.bb, hg.str, hg.comp, hg.enc, hg.touch⟩

theorem agreeAt_pwr {s : State} {v : PowerUnit} (h : m.pwr = true) (hg : Agree m s₀ s) :
    AgreeAt m s₀ s.pending s.tb s.mem v s.boot s.lane s.pair s.scan s.net s.bb s.str s.comp s.enc s.touch :=
  ⟨hg.pending, hg.tb, hg.mem, .inl h, hg.boot, hg.lane, hg.pair, hg.scan, hg.net, hg.bb, hg.str, hg.comp, hg.enc, hg.touch⟩

theorem agreeAt_boot {s : State} {v : Boot} (h : m.boot = true) (hg : Agree m s₀ s) :
    AgreeAt m s₀ s.pending s.tb s.mem s.pwr v s.lane s.pair s.scan s.net s.bb s.str s.comp s.enc s.touch :=
  ⟨hg.pending, hg.tb, hg.mem, hg.pwr, .inl h, hg.lane, hg.pair, hg.scan, hg.net, hg.bb, hg.str, hg.comp, hg.enc, hg.touch⟩

theorem agreeAt_lane {s : State} {v : LaneUnit} (h : m.lane = true) (hg : Agree m s₀ s) :
    AgreeAt m s₀ s.pending s.tb s.mem s.pwr s.boot v s.pair s.scan s.net s.bb s.str s.comp s.enc s.touch :=
  ⟨hg.pending, hg.tb, hg.mem, hg.pwr, hg.boot, .inl h, hg.pair, hg.scan, hg.net, hg.bb, hg.str, hg.comp, hg.enc, hg.touch⟩

theorem agreeAt_pair {s : State} {v : PairUnit} (h : m.pair = true) (hg : Agree m s₀ s) :
    AgreeAt m s₀ s.pending s.tb s.mem s.pwr s.boot s.lane v s.scan s.net s.bb s.str s.comp s.enc s.touch :=
  ⟨hg.pending, hg.tb, hg.mem, hg.pwr, hg.boot, hg.lane, .inl h, hg.scan, hg.net, hg.bb, hg.str, hg.comp, hg.enc, hg.touch⟩

theorem agreeAt_scan {s : State} {v : ScanUnit} (h : m.scan = true) (hg : Agree m s₀ s) :
    AgreeAt m s₀ s.pending s.tb s.mem s.pwr s.boot s.lane s.pair v s.net s.bb s.str s.comp s.enc s.touch :=
  ⟨hg.pending, hg.tb, hg.mem, hg.pwr, hg.boot, hg.lane, hg.pair, .inl h, hg.net, hg.bb, hg.str, hg.comp, hg.enc, hg.touch⟩

theorem agreeAt_net {s : State} {v : NetUnit} (h : m.net = true) (hg : Agree m s₀ s) :
    AgreeAt m s₀ s.pending s.tb s.mem s.pwr s.boot s.lane s.pair s.scan v s.bb s.str s.comp s.enc s.touch :=
  ⟨hg.pending, hg.tb, hg.mem, hg.pwr, hg.boot, hg.lane, hg.pair, hg.scan, .inl h, hg.bb, hg.str, hg.comp, hg.enc, hg.touch⟩

theorem agreeAt_bb {s : State} {v : BbUnit} (h : m.bb = true) (hg : Agree m s₀ s) :
    AgreeAt m s₀ s.pending s.tb s.mem s.pwr s.boot s.lane s.pair s.scan s.net v s.str s.comp s.enc s.touch :=
  ⟨hg.pending, hg.tb, hg.mem, hg.pwr, hg.boot, hg.lane, hg.pair, hg.scan, hg.net, .inl h, hg.str, hg.comp, hg.enc, hg.touch⟩

theorem agreeAt_str {s : State} {v : StreamUnit} (h : m.str = true) (hg : Agree m s₀ s) :
    AgreeAt m s₀ s.pending s.tb s.mem s.pwr s.boot s.lane s.pair s.scan s.net s.bb v s.comp s.enc s.touch :=
  ⟨hg.pending, hg.tb, hg.mem, hg.pwr, hg.boot, hg.lane, hg.pair, hg.scan, hg.net, hg.bb, .inl h, hg.comp, hg.enc, hg.touch⟩

theorem agreeAt_comp {s : State} {v : CompUnit} (h : m.comp = true) (hg : Agree m s₀ s) :
    AgreeAt m s₀ s.pending s.tb s.mem s.pwr s.boot s.lane s.pair s.scan s.net s.bb s.str v s.enc s.touch :=
  ⟨hg.pending, hg.tb, hg.mem, hg.pwr, hg.boot, hg.lane, hg.pair, hg.scan, hg.net, hg.bb, hg.str, .inl h, hg.enc, hg.touch⟩

theorem agreeAt_enc {s : State} {v : EncUnit} (h : m.enc = true) (hg : Agree m s₀ s) :
    AgreeAt m s₀ s.pending s.tb s.mem s.pwr s.boot s.lane s.pair s.scan s.net s.bb s.str s.comp v s.touch :=
  ⟨hg.pending, hg.tb, hg.mem, hg.pwr, hg.boot, hg.lane, hg.pair, hg.scan, hg.net, hg.bb, hg.str, hg.comp, .inl h, hg.touch⟩

theorem agreeAt_touch {s : State} {v : TouchUnit} (h : m.touch = true) (hg : Agree m s₀ s) :
    AgreeAt m s₀ s.pending s.tb s.mem s.pwr s.boot s.lane s.pair s.scan s.net s.bb s.str s.comp s.enc v :=
  ⟨hg.pending, hg.tb, hg.mem, hg.pwr, hg.boot, hg.lane, hg.pair, hg.scan, hg.net, hg.bb, hg.str, hg.comp, hg.enc, .inl h⟩

theorem agree_foldl {α : Type} {f : State → α → State} {l : List α} {s : State} (hf : ∀ u a, Agree m s₀ u → Agree m s₀ (f u a))
    (h : Agree m s₀ s) : Agree m s₀ (l.foldl f s) := by
  induction l generalizing s with
  | nil => exact h
  | cons a l ih => exact ih (hf s a h)

theorem agree_foldl_fst {α β : Type} {f : State × β → α → State × β} {l : List α} {x : State × β}
    (hf : ∀ (y : State × β) a, Agree m s₀ y.1 → Agree m s₀ (f y a).1) (h : Agree m s₀ x.1) : Agree m s₀ (l.foldl f x).1 := by
  induction l generalizing x with
  | nil => exact h
  | cons a l ih => exact ih (hf x a h)

theorem agree_pair {β : Type} {x : State × β} {u : State} {r : β} (e : x = (u, r)) (h : Agree m s₀ x.1) : Agree m s₀ u := by
  rw [e] at h; exact h

theorem agree_pair2 {β : Type} {x : β × State} {u : State} {r : β} (e : x = (r, u)) (h : Agree m s₀ x.2) : Agree m s₀ u := by
  rw [e] at h; exact h

theorem agree_pair3 {β γ : Type} {x : β × γ × State} {u : State} {r : β} {q : γ} (e : x = (r, q, u)) (h : Agree m s₀ x.2.2) :
    Agree m s₀ u := by
  rw [e] at h; exact h

theorem agree_pair5 {a b c d : Type} {x : a × b × c × d × State} {u : State} {p : a} {q : b} {r : c} {v : d} (e : x = (p, q, r, v, u))
    (h : Agree m s₀ x.2.2.2.2) : Agree m s₀ u := by
  rw [e] at h; exact h

theorem agree_foldl_snd {α β : Type} {f : β × State → α → β × State} {l : List α} {x : β × State}
    (hf : ∀ (y : β × State) a, Agree m s₀ y.2 → Agree m s₀ (f y a).2) (h : Agree m s₀ x.2) : Agree m s₀ (l.foldl f x).2 := by
  induction l generalizing x with
  | nil => exact h
  | cons a l ih => exact ih (hf x a h)

theorem agree_foldl_snd2 {α β γ : Type} {f : β × γ × State → α → β × γ × State} {l : List α} {x : β × γ × State}
    (hf : ∀ (y : β × γ × State) a, Agree m s₀ y.2.2 → Agree m s₀ (f y a).2.2) (h : Agree m s₀ x.2.2) :
    Agree m s₀ (l.foldl f x).2.2 := by
  induction l generalizing x with
  | nil => exact h
  | cons a l ih => exact ih (hf x a h)

theorem ite_frame {c : Prop} [Decidable c] {a b : State} (ha : Agree m s₀ a) (hb : Agree m s₀ b) : Agree m s₀ (if c then a else b) := by
  split
  · exact ha
  · exact hb

theorem send_frame (o : Outgoing) (s : State) (hg : Agree m s₀ s) : Agree m s₀ (send o s) := by
  unfold send
  try dsimp only
  repeat' first
    | (with_reducible first
        | assumption | apply agree_foldl | apply agree_foldl_fst)
    | (simp only [agree_mk]; with_reducible refine agreeAt ?_) | intro _ | dsimp only | split

theorem takeFree_frame (s : State) (hg : Agree m s₀ s) : Agree m s₀ (takeFree s).2 := by
  unfold takeFree
  try dsimp only
  repeat' first
    | (with_reducible first
        | assumption | apply agree_foldl | apply agree_foldl_fst)
    | (simp only [agree_mk]; with_reducible refine agreeAt ?_) | intro _ | dsimp only | split

theorem fnSet_frame (s : State) (fn : Nat) (f : Fn) (hg : Agree m s₀ s) : Agree m s₀ (fnSet s fn f) := by
  unfold fnSet
  try dsimp only
  repeat' first
    | (with_reducible first
        | assumption | apply agree_foldl | apply agree_foldl_fst)
    | (simp only [agree_mk]; with_reducible refine agreeAt ?_) | intro _ | dsimp only | split

theorem ringSet_frame (s : State) (fn : Nat) (r : Nat) (x : Ring) (hg : Agree m s₀ s) : Agree m s₀ (ringSet s fn r x) := by
  unfold ringSet
  repeat' first
    | (with_reducible first
        | assumption | apply fnSet_frame)
    | split

theorem signalVector_frame (fn : Nat) (v : Nat) (s : State) (hg : Agree m s₀ s) : Agree m s₀ (signalVector fn v s) := by
  unfold signalVector
  try dsimp only
  repeat' first
    | (with_reducible first
        | assumption | apply fnSet_frame | apply send_frame | apply agree_foldl | apply agree_foldl_fst)
    | intro _ | dsimp only | split

theorem ringPut_frame (fn : Nat) (r : Nat) (ws : List W32) (now : Bool) (s : State) (hg : Agree m s₀ s) : Agree m s₀
    (ringPut fn r ws now s) := by
  unfold ringPut
  try dsimp only
  repeat' first
    | (with_reducible first
        | assumption | apply send_frame | apply ringSet_frame | apply signalVector_frame | apply agree_foldl
        | apply agree_foldl_fst)
    | intro _ | dsimp only | split

theorem ringDiscard_frame (fn : Nat) (r : Nat) (n : Nat) (s : State) (hg : Agree m s₀ s) : Agree m s₀ (ringDiscard fn r n s) := by
  unfold ringDiscard
  repeat' first
    | (with_reducible first
        | assumption | apply ringSet_frame)
    | split

theorem ringWrite_frame (fn : Nat) (r : Nat) (ws : List W32) (now : Bool) (s : State) (hg : Agree m s₀ s) : Agree m s₀
    (ringWrite fn r ws now s) := by
  unfold ringWrite
  repeat' first
    | (with_reducible first
        | assumption | apply ringPut_frame | apply ringDiscard_frame)
    | split

theorem sendMaint_frame (src : MaintSrc) (letter : Nat) (words : List W32) (s : State) (hg : Agree m s₀ s) : Agree m s₀
    (sendMaint src letter words s) := by
  unfold sendMaint
  repeat' first
    | (with_reducible first
        | assumption | apply send_frame)
    | split

theorem eventToFn_frame (fn : Nat) (code : Nat) (p : List W32) (s : State) (hg : Agree m s₀ s) : Agree m s₀ (eventToFn fn code p s) := by
  unfold eventToFn
  try dsimp only
  repeat' first
    | (with_reducible first
        | assumption | apply ringWrite_frame | apply agree_foldl | apply agree_foldl_fst)
    | (simp only [agree_mk]; with_reducible refine agreeAt ?_) | intro _ | dsimp only | split

theorem eventToMaint_frame (code : Nat) (p : List W32) (s : State) (hg : Agree m s₀ s) : Agree m s₀ (eventToMaint code p s) := by
  unfold eventToMaint
  try dsimp only
  repeat' first
    | (with_reducible first
        | assumption | apply sendMaint_frame | apply agree_foldl | apply agree_foldl_fst)
    | (simp only [agree_mk]; with_reducible refine agreeAt ?_) | intro _ | dsimp only | split

theorem raise_frame (code : Nat) (p : List W32) (s : State) (hg : Agree m s₀ s) : Agree m s₀ (raise code p s) := by
  unfold raise
  repeat' first
    | (with_reducible first
        | assumption | apply eventToFn_frame | apply eventToMaint_frame)
    | split

theorem raiseMerged_frame (k : WindowKey) (ws : List W32) (s : State) (hg : Agree m s₀ s) : Agree m s₀ (raiseMerged k ws s) := by
  unfold raiseMerged
  try dsimp only
  repeat' first
    | (with_reducible first
        | assumption | apply raise_frame | apply agree_foldl | apply agree_foldl_fst)
    | (simp only [agree_mk]; with_reducible refine agreeAt ?_) | intro _ | dsimp only | split

theorem notPermitted_frame (init : Nat) (kind : Nat) (opcode : Nat) (p1 : W32) (tag : Nat) (s : State) (hg : Agree m s₀ s) : Agree m s₀
    (notPermitted init kind opcode p1 tag s) := by
  unfold notPermitted
  repeat' first
    | (with_reducible first
        | assumption | apply raiseMerged_frame)
    | split

theorem paramRefused_frame (init : Nat) (off : Nat) (val : W32) (s : State) (hg : Agree m s₀ s) : Agree m s₀
    (paramRefused init off val s) := by
  unfold paramRefused
  repeat' first
    | (with_reducible first
        | assumption | apply raise_frame)
    | split

theorem ringStop_frame (fn : Nat) (r : Nat) (cause : Nat) (doorbell : W32) (s : State) (hg : Agree m s₀ s) : Agree m s₀
    (ringStop fn r cause doorbell s) := by
  unfold ringStop
  repeat' first
    | (with_reducible first
        | assumption | apply ringSet_frame | apply raise_frame | apply doorbell_frame)
    | split

theorem takeCmd_frame (c : Cmd) (s : State) (hg : Agree m s₀ s) : Agree m s₀ (takeCmd c s) := by
  unfold takeCmd
  repeat' first
    | (with_reducible first
        | assumption | apply ringSet_frame)
    | (simp only [agree_mk]; with_reducible refine agreeAt ?_) | split

theorem complete_frame (o : Outst) (status : Nat) (detail : W32) (res : List W32) (s : State) (hg : Agree m s₀ s) : Agree m s₀
    (complete o status detail res s) := by
  unfold complete
  repeat' first
    | (with_reducible first
        | assumption | apply sendMaint_frame | apply ringWrite_frame)
    | split

theorem finish_frame (op : Nat) (c : Cmd) (seq : W32) (cons : W32) (r : Reply) (s : State) (hg : Agree m s₀ s) : Agree m s₀
    (finish op c seq cons r s) := by
  unfold finish
  try dsimp only
  repeat' first
    | (with_reducible first
        | assumption | apply complete_frame | apply notPermitted_frame | apply agree_foldl | apply agree_foldl_fst)
    | (simp only [agree_mk]; with_reducible refine agreeAt ?_) | intro _ | dsimp only | split

theorem runCommand_frame (opcode : Nat) (op : Cmd → State → State × Reply) (c : Cmd) (s : State) (hw : ∀ y u, Agree m s₀ u → Agree m s₀
    (op y u).1) (hg : Agree m s₀ s) : Agree m s₀ (runCommand opcode op c s) := by
  unfold runCommand
  try dsimp only
  repeat' first
    | (with_reducible first
        | assumption | apply takeCmd_frame | apply finish_frame | apply hw | apply agree_foldl
        | apply agree_foldl_fst)
    | intro _ | dsimp only | split

theorem maintBusyReply_frame (opcode : Nat) (c : Cmd) (s : State) (hg : Agree m s₀ s) : Agree m s₀ (maintBusyReply opcode c s) := by
  unfold maintBusyReply
  repeat' first
    | (with_reducible first
        | assumption | apply sendMaint_frame)
    | split

theorem hostCommand_frame (opcode : Nat) (op : Cmd → State → State × Reply) (c : Cmd) (s : State) (hw : ∀ y u, Agree m s₀ u → Agree m s₀
    (op y u).1) (hg : Agree m s₀ s) : Agree m s₀ (hostCommand opcode op c s) := by
  unfold hostCommand
  repeat' first
    | (with_reducible first
        | assumption | apply runCommand_frame | apply maintBusyReply_frame | apply hw)
    | split

theorem outstDrop_frame (o : Outst) (s : State) (hg : Agree m s₀ s) : Agree m s₀ (outstDrop o s) := by
  unfold outstDrop
  try dsimp only
  repeat' first
    | (with_reducible first
        | assumption | apply agree_foldl | apply agree_foldl_fst)
    | (simp only [agree_mk]; with_reducible refine agreeAt ?_) | intro _ | dsimp only | split

theorem completeOutst_frame (o : Outst) (status : Nat) (detail : W32) (res : List W32) (s : State) (hg : Agree m s₀ s) : Agree m s₀
    (completeOutst o status detail res s) := by
  unfold completeOutst
  repeat' first
    | (with_reducible first
        | assumption | apply complete_frame | apply outstDrop_frame)
    | split

theorem checked_frame (checks : List (Bool × Reply)) (work : State → State × Reply) (s : State) (hw : ∀ u, Agree m s₀ u → Agree m s₀
    (work u).1) (hg : Agree m s₀ s) : Agree m s₀ (checked checks work s).1 := by
  unfold checked
  repeat' first
    | (with_reducible first
        | assumption | apply hw)
    | split

theorem gateDenied_frame (gate : Nat) (init : Nat) (write : Bool) (addr : Nat) (n : Nat) (s : State) (hg : Agree m s₀ s)
    (h_mem : m.mem = true := by assumption) : Agree m s₀ (gateDenied gate init write addr n s) := by
  unfold gateDenied
  try dsimp only
  repeat' first
    | (with_reducible first
        | assumption | apply raiseMerged_frame | apply agree_foldl | apply agree_foldl_fst)
    | (simp only [agree_mk]; with_reducible refine agreeAt_mem (by assumption) ?_) | intro _ | dsimp only | split

theorem offBlock_frame (init : Nat) (domain : Nat) (write : Bool) (memory : Bool) (addr : Nat) (s : State) (hg : Agree m s₀ s)
    : Agree m s₀ (offBlock init domain write memory addr s) := by
  unfold offBlock
  repeat' first
    | (with_reducible first
        | assumption | apply raiseMerged_frame)
    | split

theorem refusedReg_frame (j : Judged) (init : Nat) (off : Nat) (write : Bool) (s : State) (hg : Agree m s₀ s)
    (h_mem : m.mem = true := by assumption) : Agree m s₀ (refusedReg j init off write s) := by
  unfold refusedReg
  repeat' first
    | (with_reducible first
        | assumption | apply notPermitted_frame | apply gateDenied_frame | apply offBlock_frame)
    | split

theorem regWrite_frame (off : Nat) (i : RegInfo) (a : RegW) (eff : W32 → State → State) (s : State) (hw : ∀ y u, Agree m s₀ u → Agree m s₀
    (eff y u)) (hg : Agree m s₀ s) (h_mem : m.mem = true := by assumption) : Agree m s₀ (regWrite off i a eff s) := by
  unfold regWrite
  repeat' first
    | (with_reducible first
        | assumption | apply paramRefused_frame | apply refusedReg_frame | apply hw)
    | split

theorem holdLo_frame (init : Nat) (off : Nat) (v : W32) (s : State) (hg : Agree m s₀ s) : Agree m s₀ (holdLo init off v s) := by
  unfold holdLo
  try dsimp only
  repeat' first
    | (with_reducible first
        | assumption | apply agree_foldl | apply agree_foldl_fst)
    | (simp only [agree_mk]; with_reducible refine agreeAt ?_) | intro _ | dsimp only | split

theorem dropLo_frame (init : Nat) (off : Nat) (s : State) (hg : Agree m s₀ s) : Agree m s₀ (dropLo init off s) := by
  unfold dropLo
  try dsimp only
  repeat' first
    | (with_reducible first
        | assumption | apply agree_foldl | apply agree_foldl_fst)
    | (simp only [agree_mk]; with_reducible refine agreeAt ?_) | intro _ | dsimp only | split

theorem regRead_frame (off : Nat) (a : RegR) (rd : RegPath → State → W32 × State) (s : State) (hw : ∀ y u, Agree m s₀ u → Agree m s₀
    (rd y u).2) (hg : Agree m s₀ s) (h_mem : m.mem = true := by assumption) : Agree m s₀ (regRead off a rd s) := by
  unfold regRead
  repeat' first
    | (with_reducible first
        | assumption | apply send_frame | apply refusedReg_frame | apply hw)
    | split

theorem memState_frame (cause : Nat) (pc : Nat) (above : Bool) (addr : Nat) (p3 : Nat) (s : State) (hg : Agree m s₀ s) : Agree m s₀
    (memState cause pc above addr p3 s) := by
  unfold memState
  repeat' first
    | (with_reducible first
        | assumption | apply raise_frame)
    | split

theorem requestDenied_frame (init : Nat) (write : Bool) (fs : List (Nat × Nat)) (s : State) (hg : Agree m s₀ s)
    (h_mem : m.mem = true := by assumption) : Agree m s₀ (requestDenied init write fs s) := by
  unfold requestDenied
  try dsimp only
  repeat' first
    | (with_reducible first
        | assumption | apply raiseMerged_frame | apply agree_foldl | apply agree_foldl_fst)
    | (simp only [agree_mk]; with_reducible refine agreeAt_mem (by assumption) ?_) | intro _ | dsimp only | split

theorem requestUnmapped_frame (init : Nat) (us : List Nat) (s : State) (hg : Agree m s₀ s) (h_mem : m.mem = true := by assumption)
    : Agree m s₀ (requestUnmapped init us s) := by
  unfold requestUnmapped
  try dsimp only
  repeat' first
    | (with_reducible first
        | assumption | apply memState_frame | apply agree_foldl | apply agree_foldl_fst)
    | (simp only [agree_mk]; with_reducible refine agreeAt_mem (by assumption) ?_) | intro _ | dsimp only | split

theorem request_frame (init : Nat) (port : Nat) (a : Nat) (n : Nat) (data : Option (List Byte)) (s : State) (hg : Agree m s₀ s)
    (h_mem : m.mem = true := by assumption) : Agree m s₀ (request init port a n data s).2.2 := by
  unfold request
  repeat' first
    | (with_reducible first
        | assumption | apply offBlock_frame | apply requestUnmapped_frame | apply requestDenied_frame)
    | (simp only [agree_mk]; with_reducible refine agreeAt_mem (by assumption) ?_) | split

theorem busRead_frame (init : Nat) (port : Nat) (x2 : Nat) (x3 : Nat) (x4 : Nat) (x5 : State) (hg : Agree m s₀ x5)
    (h_mem : m.mem = true := by assumption) : Agree m s₀ (busRead init port x2 x3 x4 x5).2.2 := by
  induction x2 generalizing x3 x4 x5 with
  | zero =>
    unfold busRead
    try dsimp only
    repeat' first
      | (with_reducible first
          | assumption | apply request_frame | apply agree_foldl | apply agree_foldl_fst | apply agree_foldl_snd
          | apply agree_foldl_snd2)
      | intro _ | dsimp only | (refine agree_pair (by with_reducible assumption) ?_)
      | (refine agree_pair2 (by with_reducible assumption) ?_)
      | (refine agree_pair3 (by with_reducible assumption) ?_)
      | (refine agree_pair5 (by with_reducible assumption) ?_) | split
  | succ _ ih =>
    unfold busRead
    try dsimp only
    repeat' first
      | (with_reducible first
          | assumption | apply ih | apply request_frame | apply agree_foldl | apply agree_foldl_fst | apply agree_foldl_snd
          | apply agree_foldl_snd2)
      | intro _ | dsimp only | (refine agree_pair (by with_reducible assumption) ?_)
      | (refine agree_pair2 (by with_reducible assumption) ?_)
      | (refine agree_pair3 (by with_reducible assumption) ?_)
      | (refine agree_pair5 (by with_reducible assumption) ?_) | split

theorem busWrite_frame (init : Nat) (port : Nat) (x2 : Nat) (x3 : Nat) (x4 : List Byte) (x5 : State) (hg : Agree m s₀ x5)
    (h_mem : m.mem = true := by assumption) : Agree m s₀ (busWrite init port x2 x3 x4 x5).2 := by
  induction x2 generalizing x3 x4 x5 with
  | zero =>
    unfold busWrite
    try dsimp only
    repeat' first
      | (with_reducible first
          | assumption | apply request_frame | apply agree_foldl | apply agree_foldl_fst | apply agree_foldl_snd
          | apply agree_foldl_snd2)
      | intro _ | dsimp only | (refine agree_pair (by with_reducible assumption) ?_)
      | (refine agree_pair2 (by with_reducible assumption) ?_)
      | (refine agree_pair3 (by with_reducible assumption) ?_)
      | (refine agree_pair5 (by with_reducible assumption) ?_) | split
  | succ _ ih =>
    unfold busWrite
    try dsimp only
    repeat' first
      | (with_reducible first
          | assumption | apply ih | apply request_frame | apply agree_foldl | apply agree_foldl_fst | apply agree_foldl_snd
          | apply agree_foldl_snd2)
      | intro _ | dsimp only | (refine agree_pair (by with_reducible assumption) ?_)
      | (refine agree_pair2 (by with_reducible assumption) ?_)
      | (refine agree_pair3 (by with_reducible assumption) ?_)
      | (refine agree_pair5 (by with_reducible assumption) ?_) | split

theorem memoryRequest_frame (r : MemReq) (s : State) (hg : Agree m s₀ s) (h_mem : m.mem = true := by assumption) : Agree m s₀
    (memoryRequest r s) := by
  unfold memoryRequest
  repeat' first
    | (with_reducible first
        | assumption | apply request_frame | apply send_frame)
    | split

theorem execMemoryRequest_frame (r : MemReq) (s : State) {s₁ : State} (he : execMemoryRequest r s = .next s₁) (hg : Agree m s₀ s)
    (h_mem : m.mem = true := by assumption) : Agree m s₀ s₁ := by
  injection he with he
  subst he
  repeat' first
    | (with_reducible first
        | assumption | apply memoryRequest_frame)
    | split

theorem withMem_frame (s : State) (x1 : MemState) (hg : Agree m s₀ s) (h_mem : m.mem = true := by assumption) : Agree m s₀
    (withMem s x1) := by
  unfold withMem
  repeat' first
    | (with_reducible first
        | assumption)
    | (simp only [agree_mk]; with_reducible refine agreeAt_mem (by assumption) ?_) | split

theorem winCtlWrite_frame (n : Nat) (init : Nat) (v : W32) (s : State) (hg : Agree m s₀ s) (h_mem : m.mem = true := by assumption)
    : Agree m s₀ (winCtlWrite n init v s) := by
  unfold winCtlWrite
  try dsimp only
  repeat' first
    | (with_reducible first
        | assumption | apply withMem_frame | apply paramRefused_frame | apply agree_foldl | apply agree_foldl_fst)
    | intro _ | dsimp only | split

theorem winOtherWrite_frame (n : Nat) (sub : Nat) (init : Nat) (v : W32) (s : State) (hg : Agree m s₀ s)
    (h_mem : m.mem = true := by assumption) : Agree m s₀ (winOtherWrite n sub init v s) := by
  unfold winOtherWrite
  try dsimp only
  repeat' first
    | (with_reducible first
        | assumption | apply paramRefused_frame | apply withMem_frame | apply agree_foldl | apply agree_foldl_fst)
    | intro _ | dsimp only | split

theorem execMcWinEnable_frame (n : Nat) (a : RegW) (s : State) {s₁ : State} (he : execMcWinEnable n a s = .next s₁) (hg : Agree m s₀ s)
    (h_mem : m.mem = true := by assumption) : Agree m s₀ s₁ := by
  injection he with he
  subst he
  repeat' first
    | (with_reducible first
        | assumption | apply regWrite_frame | apply winCtlWrite_frame | apply agree_foldl | apply agree_foldl_fst)
    | intro _ | dsimp only | split

theorem portRateWrite_frame (p : Nat) (init : Nat) (v : W32) (s : State) (hg : Agree m s₀ s) (h_mem : m.mem = true := by assumption)
    : Agree m s₀ (portRateWrite p init v s) := by
  unfold portRateWrite
  try dsimp only
  repeat' first
    | (with_reducible first
        | assumption | apply paramRefused_frame | apply withMem_frame | apply agree_foldl | apply agree_foldl_fst)
    | intro _ | dsimp only | split

theorem portBurstWrite_frame (p : Nat) (init : Nat) (v : W32) (s : State) (hg : Agree m s₀ s) (h_mem : m.mem = true := by assumption)
    : Agree m s₀ (portBurstWrite p init v s) := by
  unfold portBurstWrite
  try dsimp only
  repeat' first
    | (with_reducible first
        | assumption | apply paramRefused_frame | apply withMem_frame | apply agree_foldl | apply agree_foldl_fst)
    | intro _ | dsimp only | split

theorem execMcPortRateWrite_frame (p : Nat) (a : RegW) (s : State) {s₁ : State} (he : execMcPortRateWrite p a s = .next s₁)
    (hg : Agree m s₀ s) (h_mem : m.mem = true := by assumption) : Agree m s₀ s₁ := by
  injection he with he
  subst he
  repeat' first
    | (with_reducible first
        | assumption | apply regWrite_frame | apply portRateWrite_frame | apply agree_foldl | apply agree_foldl_fst)
    | intro _ | dsimp only | split

theorem mcClear_frame (off : Nat) (lo : Nat) (s : State) (hg : Agree m s₀ s) (h_mem : m.mem = true := by assumption) : Agree m s₀
    (mcClear off lo s) := by
  unfold mcClear
  try dsimp only
  repeat' first
    | (with_reducible first
        | assumption | apply withMem_frame | apply agree_foldl | apply agree_foldl_fst)
    | intro _ | dsimp only | split

theorem bankRefresh_frame (pc : Nat) (s : State) (hg : Agree m s₀ s) (h_mem : m.mem = true := by assumption) : Agree m s₀
    (bankRefresh pc s) := by
  unfold bankRefresh
  try dsimp only
  repeat' first
    | (with_reducible first
        | assumption | apply withMem_frame | apply agree_foldl | apply agree_foldl_fst)
    | intro _ | dsimp only | split

theorem execBankRefresh_frame (pc : Nat) (s : State) {s₁ : State} (he : execBankRefresh pc s = .next s₁) (hg : Agree m s₀ s)
    (h_mem : m.mem = true := by assumption) : Agree m s₀ s₁ := by
  injection he with he
  subst he
  repeat' first
    | (with_reducible first
        | assumption | apply bankRefresh_frame)
    | split

theorem stackTemp_frame (temp : W16) (s : State) (hg : Agree m s₀ s) (h_mem : m.mem = true := by assumption) : Agree m s₀
    (stackTemp temp s) := by
  unfold stackTemp
  try dsimp only
  repeat' first
    | (with_reducible first
        | assumption | apply withMem_frame | apply memState_frame | apply agree_foldl | apply agree_foldl_fst)
    | intro _ | dsimp only | split

theorem execStackTempCrossing_frame (temp : W16) (s : State) {s₁ : State} (he : execStackTempCrossing temp s = .next s₁)
    (hg : Agree m s₀ s) (h_mem : m.mem = true := by assumption) : Agree m s₀ s₁ := by
  injection he with he
  subst he
  repeat' first
    | (with_reducible first
        | assumption | apply stackTemp_frame)
    | split

theorem scrubRead_frame (a : Nat) (r : ScrubResult) (s : State) (hg : Agree m s₀ s) (h_mem : m.mem = true := by assumption) : Agree m s₀
    (scrubRead a r s) := by
  unfold scrubRead
  try dsimp only
  repeat' first
    | (with_reducible first
        | assumption | apply withMem_frame | apply memState_frame | apply agree_foldl | apply agree_foldl_fst)
    | intro _ | dsimp only | split

theorem execScrubRead_frame (unit : Nat) (r : ScrubResult) (s : State) {s₁ : State} (he : execScrubRead unit r s = .next s₁)
    (hg : Agree m s₀ s) (h_mem : m.mem = true := by assumption) : Agree m s₀ s₁ := by
  injection he with he
  subst he
  repeat' first
    | (with_reducible first
        | assumption | apply scrubRead_frame)
    | split

theorem gateSet_frame (g : Nat) (x : Gate) (s : State) (hg : Agree m s₀ s) (h_mem : m.mem = true := by assumption) : Agree m s₀
    (gateSet g x s) := by
  unfold gateSet
  try dsimp only
  repeat' first
    | (with_reducible first
        | assumption | apply withMem_frame | apply agree_foldl | apply agree_foldl_fst)
    | intro _ | dsimp only | split

theorem opGateStage_frame (c : Cmd) (s : State) (hg : Agree m s₀ s) (h_mem : m.mem = true := by assumption) : Agree m s₀
    (opGateStage c s).1 := by
  unfold opGateStage
  try dsimp only
  repeat' first
    | (with_reducible first
        | assumption | apply checked_frame | apply gateSet_frame | apply agree_foldl | apply agree_foldl_fst)
    | intro _ | dsimp only | split

theorem execGateStage_frame (c : Cmd) (s : State) {s₁ : State} (he : execGateStage c s = .next s₁) (hg : Agree m s₀ s)
    (h_mem : m.mem = true := by assumption) : Agree m s₀ s₁ := by
  injection he with he
  subst he
  repeat' first
    | (with_reducible first
        | assumption | apply hostCommand_frame | apply opGateStage_frame | apply agree_foldl
        | apply agree_foldl_fst)
    | intro _ | dsimp only | split

theorem opGateCommit_frame (c : Cmd) (s : State) (hg : Agree m s₀ s) (h_mem : m.mem = true := by assumption) : Agree m s₀
    (opGateCommit c s).1 := by
  unfold opGateCommit
  try dsimp only
  repeat' first
    | (with_reducible first
        | assumption | apply checked_frame | apply withMem_frame | apply agree_foldl | apply agree_foldl_fst)
    | intro _ | dsimp only | split

theorem execGateCommit_frame (c : Cmd) (s : State) {s₁ : State} (he : execGateCommit c s = .next s₁) (hg : Agree m s₀ s)
    (h_mem : m.mem = true := by assumption) : Agree m s₀ s₁ := by
  injection he with he
  subst he
  repeat' first
    | (with_reducible first
        | assumption | apply hostCommand_frame | apply opGateCommit_frame | apply agree_foldl
        | apply agree_foldl_fst)
    | intro _ | dsimp only | split

theorem gateCommitDone_frame (s : State) (hg : Agree m s₀ s) (h_mem : m.mem = true := by assumption) : Agree m s₀ (gateCommitDone s) := by
  unfold gateCommitDone
  try dsimp only
  repeat' first
    | (with_reducible first
        | assumption | apply raise_frame | apply withMem_frame | apply agree_foldl | apply agree_foldl_fst)
    | intro _ | dsimp only | split

theorem execGateCommitDone_frame (s : State) {s₁ : State} (he : execGateCommitDone s = .next s₁) (hg : Agree m s₀ s)
    (h_mem : m.mem = true := by assumption) : Agree m s₀ s₁ := by
  injection he with he
  subst he
  repeat' first
    | (with_reducible first
        | assumption | apply gateCommitDone_frame)
    | split

theorem gtClear_frame (off : Nat) (lo : Nat) (s : State) (hg : Agree m s₀ s) (h_mem : m.mem = true := by assumption) : Agree m s₀
    (gtClear off lo s) := by
  unfold gtClear
  try dsimp only
  repeat' first
    | (with_reducible first
        | assumption | apply withMem_frame | apply gateSet_frame | apply agree_foldl | apply agree_foldl_fst)
    | intro _ | dsimp only | split

theorem rselWrite_frame (init : Nat) (v : W32) (s : State) (hg : Agree m s₀ s) (h_mem : m.mem = true := by assumption) : Agree m s₀
    (rselWrite init v s) := by
  unfold rselWrite
  try dsimp only
  repeat' first
    | (with_reducible first
        | assumption | apply paramRefused_frame | apply withMem_frame | apply agree_foldl | apply agree_foldl_fst)
    | intro _ | dsimp only | split

theorem lockCut_frame (r : FabReq) (s : State) (hg : Agree m s₀ s) : Agree m s₀ (lockCut r s) := by
  unfold lockCut
  repeat' first
    | (with_reducible first
        | assumption | apply raise_frame)
    | split

theorem fabricGrant_frame (as : List FabArrival) (s : State) (hg : Agree m s₀ s) (h_mem : m.mem = true := by assumption) : Agree m s₀
    (fabricGrant as s) := by
  unfold fabricGrant
  try dsimp only
  repeat' first
    | (with_reducible first
        | assumption | apply withMem_frame | apply lockCut_frame | apply agree_foldl | apply agree_foldl_fst)
    | intro _ | dsimp only | split

theorem execFabricGrant_frame (arrivals : List FabArrival) (s : State) {s₁ : State} (he : execFabricGrant arrivals s = .next s₁)
    (hg : Agree m s₀ s) (h_mem : m.mem = true := by assumption) : Agree m s₀ s₁ := by
  injection he with he
  subst he
  repeat' first
    | (with_reducible first
        | assumption | apply fabricGrant_frame)
    | split

theorem withStr_frame (s : State) (u : StreamUnit) (hg : Agree m s₀ s) (h_str : m.str = true := by assumption) : Agree m s₀
    (withStr s u) := by
  unfold withStr
  try dsimp only
  repeat' first
    | (with_reducible first
        | assumption | apply agree_foldl | apply agree_foldl_fst)
    | (simp only [agree_mk]; with_reducible refine agreeAt_str (by assumption) ?_) | intro _ | dsimp only | split

theorem writeTag_frame (init : Nat) (port : Nat) (f : Surf) (sx : Nat) (sy : Nat) (tag : Nat) (s : State) (hg : Agree m s₀ s)
    (h_mem : m.mem = true := by assumption) : Agree m s₀ (writeTag init port f sx sy tag s).2 := by
  unfold writeTag
  try dsimp only
  repeat' first
    | (with_reducible first
        | assumption | apply busWrite_frame | apply agree_foldl | apply agree_foldl_fst | apply agree_foldl_snd
        | apply agree_foldl_snd2)
    | intro _ | dsimp only | (refine agree_pair (by with_reducible assumption) ?_)
    | (refine agree_pair2 (by with_reducible assumption) ?_)
    | (refine agree_pair3 (by with_reducible assumption) ?_)
    | (refine agree_pair5 (by with_reducible assumption) ?_) | split

theorem writeStitch_frame (stage : Nat) (us : List StageFault) (init : Nat) (port : Nat) (f : Surf) (sx : Nat) (sy : Nat) (bs : List Byte)
    (tag : Nat) (s : State) (hg : Agree m s₀ s) (h_mem : m.mem = true := by assumption) : Agree m s₀
    (writeStitch stage us init port f sx sy bs tag s).2 := by
  unfold writeStitch
  try dsimp only
  repeat' first
    | (with_reducible first
        | assumption | apply busWrite_frame | apply writeTag_frame | apply agree_foldl | apply agree_foldl_fst
        | apply agree_foldl_snd | apply agree_foldl_snd2)
    | intro _ | dsimp only | (refine agree_pair (by with_reducible assumption) ?_)
    | (refine agree_pair2 (by with_reducible assumption) ?_)
    | (refine agree_pair3 (by with_reducible assumption) ?_)
    | (refine agree_pair5 (by with_reducible assumption) ?_) | split

theorem readStitch_frame (init : Nat) (port : Nat) (f : Surf) (sx : Nat) (sy : Nat) (s : State) (hg : Agree m s₀ s)
    (h_mem : m.mem = true := by assumption) : Agree m s₀ (readStitch init port f sx sy s).2.2 := by
  unfold readStitch
  repeat' first
    | (with_reducible first
        | assumption | apply busRead_frame)
    | split

theorem countRetry_frame (stage : Nat) (s : State) (hg : Agree m s₀ s) (h_str : m.str = true := by assumption) : Agree m s₀
    (countRetry stage s) := by
  unfold countRetry
  try dsimp only
  repeat' first
    | (with_reducible first
        | assumption | apply withStr_frame | apply agree_foldl | apply agree_foldl_fst | apply agree_foldl_snd
        | apply agree_foldl_snd2)
    | intro _ | dsimp only | (refine agree_pair (by with_reducible assumption) ?_)
    | (refine agree_pair2 (by with_reducible assumption) ?_)
    | (refine agree_pair3 (by with_reducible assumption) ?_)
    | (refine agree_pair5 (by with_reducible assumption) ?_) | split

theorem fetchStitch_frame (stage : Nat) (us : List StageFault) (init : Nat) (port : Nat) (f : Surf) (sx : Nat) (sy : Nat) (s : State)
    (hg : Agree m s₀ s) (h_mem : m.mem = true := by assumption) (h_str : m.str = true := by assumption) : Agree m s₀
    (fetchStitch stage us init port f sx sy s).2 := by
  unfold fetchStitch
  try dsimp only
  repeat' first
    | (with_reducible first
        | assumption | apply readStitch_frame | apply countRetry_frame | apply agree_foldl | apply agree_foldl_fst
        | apply agree_foldl_snd | apply agree_foldl_snd2)
    | intro _ | dsimp only | (refine agree_pair (by with_reducible assumption) ?_)
    | (refine agree_pair2 (by with_reducible assumption) ?_)
    | (refine agree_pair3 (by with_reducible assumption) ?_)
    | (refine agree_pair5 (by with_reducible assumption) ?_) | split

theorem custodyReportOf_frame (sub : Nat) (stage : Nat) (init : Nat) (inst : Nat) (still : Nat) (surf : Nat) (frame : Nat)
    (fs : List Failure) (s : State) (hg : Agree m s₀ s) (h_str : m.str = true := by assumption) : Agree m s₀
    (custodyReportOf sub stage init inst still surf frame fs s) := by
  unfold custodyReportOf
  try dsimp only
  repeat' first
    | (with_reducible first
        | assumption | apply withStr_frame | apply raise_frame | apply agree_foldl | apply agree_foldl_fst
        | apply agree_foldl_snd | apply agree_foldl_snd2)
    | intro _ | dsimp only | (refine agree_pair (by with_reducible assumption) ?_)
    | (refine agree_pair2 (by with_reducible assumption) ?_)
    | (refine agree_pair3 (by with_reducible assumption) ?_)
    | (refine agree_pair5 (by with_reducible assumption) ?_) | split

theorem custodyReport_frame (stage : Nat) (init : Nat) (inst : Nat) (still : Nat) (surf : Nat) (frame : Nat) (fs : List Failure)
    (s : State) (hg : Agree m s₀ s) (h_str : m.str = true := by assumption) : Agree m s₀
    (custodyReport stage init inst still surf frame fs s) := by
  unfold custodyReport
  try dsimp only
  repeat' first
    | (with_reducible first
        | assumption | apply custodyReportOf_frame | apply agree_foldl | apply agree_foldl_fst
        | apply agree_foldl_snd | apply agree_foldl_snd2)
    | intro _ | dsimp only | (refine agree_pair (by with_reducible assumption) ?_)
    | (refine agree_pair2 (by with_reducible assumption) ?_)
    | (refine agree_pair3 (by with_reducible assumption) ?_)
    | (refine agree_pair5 (by with_reducible assumption) ?_) | split

theorem withLedger_frame (s : State) (l : Ledger) (hg : Agree m s₀ s) (h_comp : m.comp = true := by assumption) : Agree m s₀
    (withLedger s l) := by
  unfold withLedger
  try dsimp only
  repeat' first
    | (with_reducible first
        | assumption | apply agree_foldl | apply agree_foldl_fst)
    | (simp only [agree_mk]; with_reducible refine agreeAt_comp (by assumption) ?_) | intro _ | dsimp only | split

theorem genSeen_frame (stream : Nat) (n : Nat) (num : Nat) (origin : Nat) (i : Nat) (s : State) (hg : Agree m s₀ s)
    (h_comp : m.comp = true := by assumption) : Agree m s₀ (genSeen stream n num origin i s) := by
  unfold genSeen
  repeat' first
    | (with_reducible first
        | assumption | apply withLedger_frame | apply raise_frame)
    | split

theorem ledgerTagged_frame (stream : Nat) (n : Nat) (num : Nat) (origin : Nat) (s : State) (hg : Agree m s₀ s)
    (h_comp : m.comp = true := by assumption) : Agree m s₀ (ledgerTagged stream n num origin s) := by
  unfold ledgerTagged
  try dsimp only
  repeat' first
    | (with_reducible first
        | assumption | apply genSeen_frame | apply agree_foldl | apply agree_foldl_fst)
    | intro _ | dsimp only | split

theorem opLedgerWrite_frame (c : Cmd) (s : State) (hg : Agree m s₀ s) (h_comp : m.comp = true := by assumption) : Agree m s₀
    (opLedgerWrite c s).1 := by
  unfold opLedgerWrite
  try dsimp only
  repeat' first
    | (with_reducible first
        | assumption | apply checked_frame | apply withLedger_frame | apply agree_foldl | apply agree_foldl_fst)
    | intro _ | dsimp only | split

theorem execLedgerWrite_frame (c : Cmd) (s : State) {s₁ : State} (he : execLedgerWrite c s = .next s₁) (hg : Agree m s₀ s)
    (h_comp : m.comp = true := by assumption) : Agree m s₀ s₁ := by
  injection he with he
  subst he
  repeat' first
    | (with_reducible first
        | assumption | apply hostCommand_frame | apply opLedgerWrite_frame | apply agree_foldl
        | apply agree_foldl_fst)
    | intro _ | dsimp only | split

theorem opLedgerCommit_frame (c : Cmd) (s : State) (hg : Agree m s₀ s) (h_comp : m.comp = true := by assumption) : Agree m s₀
    (opLedgerCommit c s).1 := by
  unfold opLedgerCommit
  try dsimp only
  repeat' first
    | (with_reducible first
        | assumption | apply checked_frame | apply withLedger_frame | apply agree_foldl | apply agree_foldl_fst)
    | intro _ | dsimp only | split

theorem execLedgerCommit_frame (c : Cmd) (s : State) {s₁ : State} (he : execLedgerCommit c s = .next s₁) (hg : Agree m s₀ s)
    (h_comp : m.comp = true := by assumption) : Agree m s₀ s₁ := by
  injection he with he
  subst he
  repeat' first
    | (with_reducible first
        | assumption | apply hostCommand_frame | apply opLedgerCommit_frame | apply agree_foldl
        | apply agree_foldl_fst)
    | intro _ | dsimp only | split

theorem execLedgerGenerationCopy_frame (s : State) {s₁ : State} (he : execLedgerGenerationCopy s = .next s₁) (hg : Agree m s₀ s)
    (h_comp : m.comp = true := by assumption) : Agree m s₀ s₁ := by
  injection he with he
  subst he
  repeat' first
    | (with_reducible first
        | assumption | apply withLedger_frame)
    | split

theorem withScan_frame (s : State) (u : ScanUnit) (hg : Agree m s₀ s) (h_scan : m.scan = true := by assumption) : Agree m s₀
    (withScan s u) := by
  unfold withScan
  try dsimp only
  repeat' first
    | (with_reducible first
        | assumption | apply agree_foldl | apply agree_foldl_fst)
    | (simp only [agree_mk]; with_reducible refine agreeAt_scan (by assumption) ?_) | intro _ | dsimp only | split

theorem outSet_frame (o : Nat) (x : Output) (s : State) (hg : Agree m s₀ s) (h_scan : m.scan = true := by assumption) : Agree m s₀
    (outSet o x s) := by
  unfold outSet
  repeat' first
    | (with_reducible first
        | assumption | apply withScan_frame)
    | split

theorem outUpd_frame (o : Nat) (f : Output → Output) (s : State) (hg : Agree m s₀ s) (h_scan : m.scan = true := by assumption)
    : Agree m s₀ (outUpd o f s) := by
  unfold outUpd
  repeat' first
    | (with_reducible first
        | assumption | apply outSet_frame)
    | split

theorem withTb_frame (s : State) (u : TimeUnit) (hg : Agree m s₀ s) (h_tb : m.tb = true := by assumption) : Agree m s₀ (withTb s u) := by
  unfold withTb
  repeat' first
    | (with_reducible first
        | assumption)
    | (simp only [agree_mk]; with_reducible refine agreeAt_tb (by assumption) ?_) | split

theorem setTb_frame (n : Nat) (t : TimeBase) (s : State) (hg : Agree m s₀ s) (h_tb : m.tb = true := by assumption) : Agree m s₀
    (setTb n t s) := by
  unfold setTb
  repeat' first
    | (with_reducible first
        | assumption | apply withTb_frame)
    | split

theorem setT0State_frame (new : T0State) (cause : Nat) (s : State) (hg : Agree m s₀ s) (h_tb : m.tb = true := by assumption) : Agree m s₀
    (setT0State new cause s) := by
  unfold setT0State
  try dsimp only
  repeat' first
    | (with_reducible first
        | assumption | apply withTb_frame | apply raise_frame | apply agree_foldl | apply agree_foldl_fst
        | apply agree_foldl_snd | apply agree_foldl_snd2)
    | intro _ | dsimp only | (refine agree_pair (by with_reducible assumption) ?_)
    | (refine agree_pair2 (by with_reducible assumption) ?_)
    | (refine agree_pair3 (by with_reducible assumption) ?_)
    | (refine agree_pair5 (by with_reducible assumption) ?_) | split

theorem servoActive_frame (s : State) (hg : Agree m s₀ s) (h_tb : m.tb = true := by assumption) : Agree m s₀ (servoActive s) := by
  unfold servoActive
  try dsimp only
  repeat' first
    | (with_reducible first
        | assumption | apply withTb_frame | apply agree_foldl | apply agree_foldl_fst)
    | intro _ | dsimp only | (refine agree_pair (by with_reducible assumption) ?_)
    | (refine agree_pair2 (by with_reducible assumption) ?_)
    | (refine agree_pair3 (by with_reducible assumption) ?_)
    | (refine agree_pair5 (by with_reducible assumption) ?_) | split

theorem t0Declare_frame (v : W32) (s : State) (hg : Agree m s₀ s) (h_tb : m.tb = true := by assumption) : Agree m s₀ (t0Declare v s) := by
  unfold t0Declare
  repeat' first
    | (with_reducible first
        | assumption | apply setT0State_frame | apply servoActive_frame)
    | split

theorem incCommit_frame (n : Nat) (init : Nat) (hi : W32) (s : State) (hg : Agree m s₀ s) (h_tb : m.tb = true := by assumption)
    : Agree m s₀ (incCommit n init hi s) := by
  unfold incCommit
  try dsimp only
  repeat' first
    | (with_reducible first
        | assumption | apply dropLo_frame | apply setTb_frame | apply servoActive_frame | apply agree_foldl
        | apply agree_foldl_fst)
    | intro _ | dsimp only | split

theorem stepRefused_frame (n : Nat) (reason : Nat) (d : Int) (s : State) (hg : Agree m s₀ s) (h_tb : m.tb = true := by assumption)
    : Agree m s₀ (stepRefused n reason d s) := by
  unfold stepRefused
  repeat' first
    | (with_reducible first
        | assumption | apply raise_frame | apply setTb_frame)
    | split

theorem judgeStep_frame (n : Nat) (d : Int) (mk : Bool → TbOp) (s : State) (hg : Agree m s₀ s) (h_tb : m.tb = true := by assumption)
    : Agree m s₀ (judgeStep n d mk s) := by
  unfold judgeStep
  try dsimp only
  repeat' first
    | (with_reducible first
        | assumption | apply stepRefused_frame | apply setTb_frame | apply agree_foldl | apply agree_foldl_fst)
    | intro _ | dsimp only | split

theorem stepCommit_frame (n : Nat) (init : Nat) (hi : W32) (s : State) (hg : Agree m s₀ s) (h_tb : m.tb = true := by assumption)
    : Agree m s₀ (stepCommit n init hi s) := by
  unfold stepCommit
  repeat' first
    | (with_reducible first
        | assumption | apply setTb_frame | apply dropLo_frame | apply stepRefused_frame | apply judgeStep_frame
        | apply servoActive_frame)
    | split

theorem tbLoad_frame (n : Nat) (s : State) (hg : Agree m s₀ s) (h_tb : m.tb = true := by assumption) : Agree m s₀ (tbLoad n s) := by
  unfold tbLoad
  try dsimp only
  repeat' first
    | (with_reducible first
        | assumption | apply judgeStep_frame | apply setTb_frame | apply agree_foldl | apply agree_foldl_fst
        | apply agree_foldl_snd | apply agree_foldl_snd2)
    | intro _ | dsimp only | (refine agree_pair (by with_reducible assumption) ?_)
    | (refine agree_pair2 (by with_reducible assumption) ?_)
    | (refine agree_pair3 (by with_reducible assumption) ?_)
    | (refine agree_pair5 (by with_reducible assumption) ?_) | split

theorem tbCtlWrite_frame (n : Nat) (init : Nat) (v : W32) (s : State) (hg : Agree m s₀ s) (h_tb : m.tb = true := by assumption)
    : Agree m s₀ (tbCtlWrite n init v s) := by
  unfold tbCtlWrite
  repeat' first
    | (with_reducible first
        | assumption | apply setTb_frame | apply tbLoad_frame)
    | split

theorem flSet_frame (g : Nat) (x : FrameLock) (s : State) (hg : Agree m s₀ s) (h_tb : m.tb = true := by assumption) : Agree m s₀
    (flSet g x s) := by
  unfold flSet
  try dsimp only
  repeat' first
    | (with_reducible first
        | assumption | apply withTb_frame | apply agree_foldl | apply agree_foldl_fst)
    | intro _ | dsimp only | (refine agree_pair (by with_reducible assumption) ?_)
    | (refine agree_pair2 (by with_reducible assumption) ?_)
    | (refine agree_pair3 (by with_reducible assumption) ?_)
    | (refine agree_pair5 (by with_reducible assumption) ?_) | split

theorem flCtlWrite_frame (g : Nat) (init : Nat) (v : W32) (s : State) (hg : Agree m s₀ s) (h_tb : m.tb = true := by assumption)
    : Agree m s₀ (flCtlWrite g init v s) := by
  unfold flCtlWrite
  try dsimp only
  repeat' first
    | (with_reducible first
        | assumption | apply flSet_frame | apply paramRefused_frame | apply agree_foldl | apply agree_foldl_fst
        | apply agree_foldl_snd | apply agree_foldl_snd2)
    | intro _ | dsimp only | (refine agree_pair (by with_reducible assumption) ?_)
    | (refine agree_pair2 (by with_reducible assumption) ?_)
    | (refine agree_pair3 (by with_reducible assumption) ?_)
    | (refine agree_pair5 (by with_reducible assumption) ?_) | split

theorem flParamWrite_frame (g : Nat) (init : Nat) (p : FlParam) (v : W32) (s : State) (hg : Agree m s₀ s)
    (h_tb : m.tb = true := by assumption) : Agree m s₀ (flParamWrite g init p v s) := by
  unfold flParamWrite
  try dsimp only
  repeat' first
    | (with_reducible first
        | assumption | apply paramRefused_frame | apply flSet_frame | apply holdLo_frame | apply dropLo_frame | apply agree_foldl
        | apply agree_foldl_fst)
    | intro _ | dsimp only | split

theorem flSlip_frame (g : Nat) (gap : Nat) (back : Bool) (first : Nat) (next : Nat) (s : State) (hg : Agree m s₀ s) : Agree m s₀
    (flSlip g gap back first next s) := by
  unfold flSlip
  repeat' first
    | (with_reducible first
        | assumption | apply raise_frame)
    | split

theorem flRenumber_frame (now : Nat) (back : Bool) (s : State) (g : Nat) (hg : Agree m s₀ s)  (h_tb : m.tb = true := by assumption)
    (h_scan : m.scan = true := by assumption) (h_comp : m.comp = true := by assumption) :
    Agree m s₀ (flRenumber now back s g) := by
  unfold flRenumber
  dsimp only
  split
  · refine flSlip_frame _ _ _ _ _ _ (flSet_frame _ _ _ ?_)
    exact ⟨hg.pending, hg.tb, hg.mem, hg.pwr, hg.boot, hg.lane, hg.pair, .inl h_scan, hg.net, hg.bb, hg.str, .inl h_comp, hg.enc, hg.touch⟩
  · exact hg

theorem t0Applied_frame (o : TbOp) (s : State) (hg : Agree m s₀ s) (h_tb : m.tb = true := by assumption)
    (h_scan : m.scan = true := by assumption) (h_comp : m.comp = true := by assumption) : Agree m s₀ (t0Applied o s) := by
  unfold t0Applied
  try dsimp only
  repeat' first
    | (with_reducible first
        | assumption | apply flRenumber_frame | apply setT0State_frame | apply agree_foldl | apply agree_foldl_fst
        | apply agree_foldl_snd | apply agree_foldl_snd2)
    | intro _ | dsimp only | (refine agree_pair (by with_reducible assumption) ?_)
    | (refine agree_pair2 (by with_reducible assumption) ?_)
    | (refine agree_pair3 (by with_reducible assumption) ?_)
    | (refine agree_pair5 (by with_reducible assumption) ?_) | split

theorem tbTickAll_frame (s : State) (hg : Agree m s₀ s) (h_tb : m.tb = true := by assumption) (h_scan : m.scan = true := by assumption)
    (h_comp : m.comp = true := by assumption) : Agree m s₀ (tbTickAll s) := by
  unfold tbTickAll
  try dsimp only
  repeat' first
    | (with_reducible first
        | assumption | apply withTb_frame | apply t0Applied_frame | apply agree_foldl | apply agree_foldl_fst)
    | intro _ | dsimp only | split

theorem snapAll_frame (s : State) (hg : Agree m s₀ s) (h_tb : m.tb = true := by assumption) : Agree m s₀ (snapAll s) := by
  unfold snapAll
  repeat' first
    | (with_reducible first
        | assumption | apply withTb_frame)
    | split

theorem ppsEdge_frame (s : State) (hg : Agree m s₀ s) (h_tb : m.tb = true := by assumption) : Agree m s₀ (ppsEdge s) := by
  unfold ppsEdge
  repeat' first
    | (with_reducible first
        | assumption | apply withTb_frame)
    | split

theorem txqSet_frame (q : Nat) (x : TxQueue) (s : State) (hg : Agree m s₀ s) (h_tb : m.tb = true := by assumption) : Agree m s₀
    (txqSet q x s) := by
  unfold txqSet
  try dsimp only
  repeat' first
    | (with_reducible first
        | assumption | apply withTb_frame | apply agree_foldl | apply agree_foldl_fst)
    | intro _ | dsimp only | (refine agree_pair (by with_reducible assumption) ?_)
    | (refine agree_pair2 (by with_reducible assumption) ?_)
    | (refine agree_pair3 (by with_reducible assumption) ?_)
    | (refine agree_pair5 (by with_reducible assumption) ?_) | split

theorem txqPush_frame (q : Nat) (e : TxStamp) (s : State) (hg : Agree m s₀ s) (h_tb : m.tb = true := by assumption) : Agree m s₀
    (txqPush q e s) := by
  unfold txqPush
  try dsimp only
  repeat' first
    | (with_reducible first
        | assumption | apply txqSet_frame | apply agree_foldl | apply agree_foldl_fst)
    | intro _ | dsimp only | split

theorem txqRead_frame (q : Nat) (p : RegPath) (s : State) (hg : Agree m s₀ s) (h_tb : m.tb = true := by assumption) : Agree m s₀
    (txqRead q p s).2 := by
  unfold txqRead
  try dsimp only
  repeat' first
    | (with_reducible first
        | assumption | apply txqSet_frame | apply agree_foldl | apply agree_foldl_fst)
    | intro _ | dsimp only | split

theorem tbClear_frame (off : Nat) (lo : Nat) (s : State) (hg : Agree m s₀ s) (h_tb : m.tb = true := by assumption) : Agree m s₀
    (tbClear off lo s) := by
  unfold tbClear
  repeat' first
    | (with_reducible first
        | assumption | apply setTb_frame | apply txqSet_frame | apply stepRefused_frame)
    | split

theorem tbPlainWrite_frame (off : Nat) (init : Nat) (v : W32) (s : State) (hg : Agree m s₀ s) (h_tb : m.tb = true := by assumption)
    : Agree m s₀ (tbPlainWrite off init v s) := by
  unfold tbPlainWrite
  try dsimp only
  repeat' first
    | (with_reducible first
        | assumption | apply paramRefused_frame | apply withTb_frame | apply setTb_frame | apply holdLo_frame
        | apply dropLo_frame | apply agree_foldl | apply agree_foldl_fst)
    | intro _ | dsimp only | split

theorem execTbSnap_frame (a : RegW) (s : State) {s₁ : State} (he : execTbSnap a s = .next s₁) (hg : Agree m s₀ s)
    (h_tb : m.tb = true := by assumption) (h_mem : m.mem = true := by assumption) : Agree m s₀ s₁ := by
  injection he with he
  subst he
  repeat' first
    | (with_reducible first
        | assumption | apply regWrite_frame | apply snapAll_frame | apply agree_foldl | apply agree_foldl_fst)
    | intro _ | dsimp only | split

theorem execTbIncCommit_frame (n : Nat) (a : RegW) (s : State) {s₁ : State} (he : execTbIncCommit n a s = .next s₁) (hg : Agree m s₀ s)
    (h_tb : m.tb = true := by assumption) (h_mem : m.mem = true := by assumption) : Agree m s₀ s₁ := by
  injection he with he
  subst he
  repeat' first
    | (with_reducible first
        | assumption | apply regWrite_frame | apply incCommit_frame | apply agree_foldl | apply agree_foldl_fst)
    | intro _ | dsimp only | split

theorem execTbStepCommit_frame (n : Nat) (a : RegW) (s : State) {s₁ : State} (he : execTbStepCommit n a s = .next s₁) (hg : Agree m s₀ s)
    (h_tb : m.tb = true := by assumption) (h_mem : m.mem = true := by assumption) : Agree m s₀ s₁ := by
  injection he with he
  subst he
  repeat' first
    | (with_reducible first
        | assumption | apply regWrite_frame | apply stepCommit_frame | apply agree_foldl | apply agree_foldl_fst)
    | intro _ | dsimp only | split

theorem execTbLoad_frame (n : Nat) (a : RegW) (s : State) {s₁ : State} (he : execTbLoad n a s = .next s₁) (hg : Agree m s₀ s)
    (h_tb : m.tb = true := by assumption) (h_mem : m.mem = true := by assumption) : Agree m s₀ s₁ := by
  injection he with he
  subst he
  repeat' first
    | (with_reducible first
        | assumption | apply regWrite_frame | apply tbCtlWrite_frame | apply agree_foldl | apply agree_foldl_fst)
    | intro _ | dsimp only | split

theorem execTbStepOvr_frame (n : Nat) (a : RegW) (s : State) {s₁ : State} (he : execTbStepOvr n a s = .next s₁) (hg : Agree m s₀ s)
    (h_tb : m.tb = true := by assumption) (h_mem : m.mem = true := by assumption) : Agree m s₀ s₁ := by
  injection he with he
  subst he
  repeat' first
    | (with_reducible first
        | assumption | apply regWrite_frame | apply tbCtlWrite_frame | apply agree_foldl | apply agree_foldl_fst)
    | intro _ | dsimp only | split

theorem execDeclareLock_frame (a : RegW) (s : State) {s₁ : State} (he : execDeclareLock a s = .next s₁) (hg : Agree m s₀ s)
    (h_tb : m.tb = true := by assumption) (h_mem : m.mem = true := by assumption) : Agree m s₀ s₁ := by
  injection he with he
  subst he
  repeat' first
    | (with_reducible first
        | assumption | apply regWrite_frame | apply t0Declare_frame | apply agree_foldl | apply agree_foldl_fst)
    | intro _ | dsimp only | split

theorem execDeclareHold_frame (a : RegW) (s : State) {s₁ : State} (he : execDeclareHold a s = .next s₁) (hg : Agree m s₀ s)
    (h_tb : m.tb = true := by assumption) (h_mem : m.mem = true := by assumption) : Agree m s₀ s₁ := by
  injection he with he
  subst he
  repeat' first
    | (with_reducible first
        | assumption | apply regWrite_frame | apply t0Declare_frame | apply agree_foldl | apply agree_foldl_fst)
    | intro _ | dsimp only | split

theorem execDeclareUnlock_frame (a : RegW) (s : State) {s₁ : State} (he : execDeclareUnlock a s = .next s₁) (hg : Agree m s₀ s)
    (h_tb : m.tb = true := by assumption) (h_mem : m.mem = true := by assumption) : Agree m s₀ s₁ := by
  injection he with he
  subst he
  repeat' first
    | (with_reducible first
        | assumption | apply regWrite_frame | apply t0Declare_frame | apply agree_foldl | apply agree_foldl_fst)
    | intro _ | dsimp only | split

theorem errEstWrite_frame (v : W32) (s : State) (hg : Agree m s₀ s) (h_tb : m.tb = true := by assumption) : Agree m s₀
    (errEstWrite v s) := by
  unfold errEstWrite
  try dsimp only
  repeat' first
    | (with_reducible first
        | assumption | apply servoActive_frame | apply withTb_frame | apply agree_foldl | apply agree_foldl_fst)
    | intro _ | dsimp only | (refine agree_pair (by with_reducible assumption) ?_)
    | (refine agree_pair2 (by with_reducible assumption) ?_)
    | (refine agree_pair3 (by with_reducible assumption) ?_)
    | (refine agree_pair5 (by with_reducible assumption) ?_) | split

theorem execTb0ErrEstWrite_frame (a : RegW) (s : State) {s₁ : State} (he : execTb0ErrEstWrite a s = .next s₁) (hg : Agree m s₀ s)
    (h_tb : m.tb = true := by assumption) (h_mem : m.mem = true := by assumption) : Agree m s₀ s₁ := by
  injection he with he
  subst he
  repeat' first
    | (with_reducible first
        | assumption | apply regWrite_frame | apply errEstWrite_frame | apply agree_foldl | apply agree_foldl_fst)
    | intro _ | dsimp only | split

theorem execFlCtlWrite_frame (g : Nat) (a : RegW) (s : State) {s₁ : State} (he : execFlCtlWrite g a s = .next s₁) (hg : Agree m s₀ s)
    (h_tb : m.tb = true := by assumption) (h_mem : m.mem = true := by assumption) : Agree m s₀ s₁ := by
  injection he with he
  subst he
  repeat' first
    | (with_reducible first
        | assumption | apply regWrite_frame | apply flCtlWrite_frame | apply agree_foldl | apply agree_foldl_fst)
    | intro _ | dsimp only | split

theorem execFlParamWrite_frame (g : Nat) (p : FlParam) (a : RegW) (s : State) {s₁ : State} (he : execFlParamWrite g p a s = .next s₁)
    (hg : Agree m s₀ s) (h_tb : m.tb = true := by assumption) (h_mem : m.mem = true := by assumption) : Agree m s₀ s₁ := by
  injection he with he
  subst he
  repeat' first
    | (with_reducible first
        | assumption | apply regWrite_frame | apply flParamWrite_frame | apply agree_foldl | apply agree_foldl_fst)
    | intro _ | dsimp only | split

theorem execTxqIdRead_frame (q : Nat) (a : RegR) (s : State) {s₁ : State} (he : execTxqIdRead q a s = .next s₁) (hg : Agree m s₀ s)
    (h_tb : m.tb = true := by assumption) (h_mem : m.mem = true := by assumption) : Agree m s₀ s₁ := by
  injection he with he
  subst he
  repeat' first
    | (with_reducible first
        | assumption | apply regRead_frame | apply txqRead_frame | apply agree_foldl | apply agree_foldl_fst)
    | intro _ | dsimp only | split

theorem execOverrideLapse_frame (n : Nat) (s : State) {s₁ : State} (he : execOverrideLapse n s = .next s₁) (hg : Agree m s₀ s)
    (h_tb : m.tb = true := by assumption) : Agree m s₀ s₁ := by
  injection he with he
  subst he
  repeat' first
    | (with_reducible first
        | assumption | apply setTb_frame)
    | split

theorem execServoTimeout_frame (s : State) {s₁ : State} (he : execServoTimeout s = .next s₁) (hg : Agree m s₀ s)
    (h_tb : m.tb = true := by assumption) : Agree m s₀ s₁ := by
  injection he with he
  subst he
  repeat' first
    | (with_reducible first
        | assumption | apply setT0State_frame)
    | split

theorem execHoldoverLimitExceeded_frame (s : State) {s₁ : State} (he : execHoldoverLimitExceeded s = .next s₁) (hg : Agree m s₀ s)
    (h_tb : m.tb = true := by assumption) : Agree m s₀ s₁ := by
  injection he with he
  subst he
  repeat' first
    | (with_reducible first
        | assumption | apply setT0State_frame)
    | split

theorem execPpsInEdge_frame (s : State) {s₁ : State} (he : execPpsInEdge s = .next s₁) (hg : Agree m s₀ s)
    (h_tb : m.tb = true := by assumption) : Agree m s₀ s₁ := by
  injection he with he
  subst he
  repeat' first
    | (with_reducible first
        | assumption | apply ppsEdge_frame)
    | split

theorem strSet_frame (k : Nat) (e : StreamE) (s : State) (hg : Agree m s₀ s) (h_str : m.str = true := by assumption) : Agree m s₀
    (strSet k e s) := by
  unfold strSet
  repeat' first
    | (with_reducible first
        | assumption | apply withStr_frame)
    | split

theorem strUpd_frame (k : Nat) (f : StreamE → StreamE) (s : State) (hg : Agree m s₀ s) (h_str : m.str = true := by assumption)
    : Agree m s₀ (strUpd k f s) := by
  unfold strUpd
  repeat' first
    | (with_reducible first
        | assumption | apply strSet_frame)
    | split

theorem tagStitch_frame (i : Incoming) (f : Surf) (t : Tab (List W32)) (n : Nat) (p : (Nat × Nat) × Nat) (s : State) (hg : Agree m s₀ s)
    (h_mem : m.mem = true := by assumption) : Agree m s₀ (tagStitch i f t n p s).2 := by
  unfold tagStitch
  try dsimp only
  repeat' first
    | (with_reducible first
        | assumption | apply writeStitch_frame | apply writeTag_frame | apply agree_foldl | apply agree_foldl_fst
        | apply agree_foldl_snd | apply agree_foldl_snd2)
    | intro _ | dsimp only | (refine agree_pair (by with_reducible assumption) ?_)
    | (refine agree_pair2 (by with_reducible assumption) ?_)
    | (refine agree_pair3 (by with_reducible assumption) ?_)
    | (refine agree_pair5 (by with_reducible assumption) ?_) | split

theorem tagAll_frame (i : Incoming) (f : Surf) (t : Tab (List W32)) (x3 : List ((Nat × Nat) × Nat)) (x4 : Nat) (x5 : State)
    (hg : Agree m s₀ x5) (h_mem : m.mem = true := by assumption) : Agree m s₀ (tagAll i f t x3 x4 x5).2 := by
  induction x3 generalizing x4 x5 with
  | nil =>
    unfold tagAll
    try dsimp only
    repeat' first
      | (with_reducible first
          | assumption | apply tagStitch_frame | apply agree_foldl | apply agree_foldl_fst | apply agree_foldl_snd
          | apply agree_foldl_snd2)
      | intro _ | dsimp only | (refine agree_pair (by with_reducible assumption) ?_)
      | (refine agree_pair2 (by with_reducible assumption) ?_)
      | (refine agree_pair3 (by with_reducible assumption) ?_)
      | (refine agree_pair5 (by with_reducible assumption) ?_) | split
  | cons _ _ ih =>
    unfold tagAll
    try dsimp only
    repeat' first
      | (with_reducible first
          | assumption | apply ih | apply tagStitch_frame | apply agree_foldl | apply agree_foldl_fst | apply agree_foldl_snd
          | apply agree_foldl_snd2)
      | intro _ | dsimp only | (refine agree_pair (by with_reducible assumption) ?_)
      | (refine agree_pair2 (by with_reducible assumption) ?_)
      | (refine agree_pair3 (by with_reducible assumption) ?_)
      | (refine agree_pair5 (by with_reducible assumption) ?_) | split

theorem watchRead_frame (us : List StageFault) (f : Surf) (x2 : List (Nat × Nat)) (x3 : State) (hg : Agree m s₀ x3)
    (h_mem : m.mem = true := by assumption) (h_str : m.str = true := by assumption) : Agree m s₀ (watchRead us f x2 x3).2.2 := by
  induction x2 generalizing x3 with
  | nil =>
    unfold watchRead
    try dsimp only
    repeat' first
      | (with_reducible first
          | assumption | apply fetchStitch_frame | apply agree_foldl | apply agree_foldl_fst | apply agree_foldl_snd
          | apply agree_foldl_snd2)
      | intro _ | dsimp only | (refine agree_pair (by with_reducible assumption) ?_)
      | (refine agree_pair2 (by with_reducible assumption) ?_)
      | (refine agree_pair3 (by with_reducible assumption) ?_)
      | (refine agree_pair5 (by with_reducible assumption) ?_) | split
  | cons _ _ ih =>
    unfold watchRead
    try dsimp only
    repeat' first
      | (with_reducible first
          | assumption | apply ih | apply fetchStitch_frame | apply agree_foldl | apply agree_foldl_fst | apply agree_foldl_snd
          | apply agree_foldl_snd2)
      | intro _ | dsimp only | (refine agree_pair (by with_reducible assumption) ?_)
      | (refine agree_pair2 (by with_reducible assumption) ?_)
      | (refine agree_pair3 (by with_reducible assumption) ?_)
      | (refine agree_pair5 (by with_reducible assumption) ?_) | split

theorem refWrite_frame (n : Nat) (part : Nat × Nat) (origin : Nat) (us : List StageFault) (now : List (Option Nat)) (s : State)
    (hg : Agree m s₀ s) (h_mem : m.mem = true := by assumption) : Agree m s₀ (refWrite n part origin us now s) := by
  unfold refWrite
  try dsimp only
  repeat' first
    | (with_reducible first
        | assumption | apply writeStitch_frame | apply agree_foldl | apply agree_foldl_fst | apply agree_foldl_snd
        | apply agree_foldl_snd2)
    | intro _ | dsimp only | (refine agree_pair (by with_reducible assumption) ?_)
    | (refine agree_pair2 (by with_reducible assumption) ?_)
    | (refine agree_pair3 (by with_reducible assumption) ?_)
    | (refine agree_pair5 (by with_reducible assumption) ?_) | split

theorem frozenEvent_frame (code : Nat) (stream : Nat) (cause : Nat) (window : Nat) (any : Bool) (set : Bool) (f : SrcFrame) (s : State)
    (hg : Agree m s₀ s) : Agree m s₀ (frozenEvent code stream cause window any set f s) := by
  unfold frozenEvent
  repeat' first
    | (with_reducible first
        | assumption | apply raise_frame)
    | split

theorem tallyEvent_frame (k : Nat) (old : Nat) (new : Nat) (c : Option Nat) (f : SrcFrame) (s : State) (hg : Agree m s₀ s)
    (h_str : m.str = true := by assumption) : Agree m s₀ (tallyEvent k old new c f s) := by
  unfold tallyEvent
  repeat' first
    | (with_reducible first
        | assumption | apply strUpd_frame | apply raise_frame)
    | split

theorem watchOne_helper (i : Incoming) (f : Surf) (a : WatchRun) (n : Nat) (h : Agree m s₀ a.st) (h_str : m.str = true := by assumption)
    (h_mem : m.mem = true := by assumption) :
    Agree m s₀ (watchOne i f a n).st := by
  unfold watchOne
  dsimp only
  repeat' first
    | (with_reducible first
        | assumption | apply withStr_frame | apply refWrite_frame | apply watchRead_frame | apply agree_foldl)
    | intro _ | dsimp only | split

theorem agree_watch {α : Type} {f : WatchRun → α → WatchRun} {l : List α} {w : WatchRun}
    (hf : ∀ u a, Agree m s₀ u.st → Agree m s₀ (f u a).st) (h : Agree m s₀ w.st) : Agree m s₀ (l.foldl f w).st := by
  induction l generalizing w with
  | nil => exact h
  | cons a l ih => exact ih (hf w a h)

theorem acceptFrame_frame (i : Incoming) (s : State) (hg : Agree m s₀ s) (h_mem : m.mem = true := by assumption)
    (h_str : m.str = true := by assumption) (h_comp : m.comp = true := by assumption) : Agree m s₀ (acceptFrame i s) := by
  unfold acceptFrame
  dsimp only
  have hw : ∀ {s1 : State}, Agree m s₀ s1 → ∀ f ws, Agree m s₀ (List.foldl (watchOne i f) { st := s1 } ws).st :=
    fun h _ _ => agree_watch (fun _ _ hu => watchOne_helper _ _ _ _ hu) h
  repeat' first
    | (with_reducible first
        | assumption | apply custodyReport_frame | apply frozenEvent_frame | apply strUpd_frame | apply tallyEvent_frame
        | apply ledgerTagged_frame | apply tagAll_frame | apply hw | apply agree_foldl | apply ite_frame)
    | intro _ | dsimp only | split

theorem originEvent_frame (k : Nat) (mode : Nat) (cause : Nat) (s : State) (hg : Agree m s₀ s) : Agree m s₀
    (originEvent k mode cause s) := by
  unfold originEvent
  repeat' first
    | (with_reducible first
        | assumption | apply raise_frame)
    | split

theorem boundary_frame (k : Nat) (s : State) (hg : Agree m s₀ s) (h_str : m.str = true := by assumption) : Agree m s₀ (boundary k s) := by
  unfold boundary
  try dsimp only
  repeat' first
    | (with_reducible first
        | assumption | apply strUpd_frame | apply originEvent_frame | apply agree_foldl | apply agree_foldl_fst
        | apply agree_foldl_snd | apply agree_foldl_snd2)
    | intro _ | dsimp only | (refine agree_pair (by with_reducible assumption) ?_)
    | (refine agree_pair2 (by with_reducible assumption) ?_)
    | (refine agree_pair3 (by with_reducible assumption) ?_)
    | (refine agree_pair5 (by with_reducible assumption) ?_) | split

theorem setStream_frame (k : Nat) (st : Nat) (cause : Nat) (s : State) (hg : Agree m s₀ s) (h_str : m.str = true := by assumption)
    : Agree m s₀ (setStream k st cause s) := by
  unfold setStream
  repeat' first
    | (with_reducible first
        | assumption | apply raise_frame | apply strSet_frame)
    | split

theorem bbSet_frame (n : Nat) (x : BbIn) (s : State) (hg : Agree m s₀ s) (h_bb : m.bb = true := by assumption) : Agree m s₀
    (bbSet n x s) := by
  unfold bbSet
  try dsimp only
  repeat' first
    | (with_reducible first
        | assumption | apply agree_foldl | apply agree_foldl_fst)
    | (simp only [agree_mk]; with_reducible refine agreeAt_bb (by assumption) ?_) | intro _ | dsimp only | split

theorem tryShed_frame (s : State) (k : Nat) (hg : Agree m s₀ s) (h_str : m.str = true := by assumption) : Agree m s₀ (tryShed s k) := by
  unfold tryShed
  try dsimp only
  repeat' first
    | (with_reducible first
        | assumption | apply setStream_frame | apply strUpd_frame | apply withStr_frame | apply agree_foldl
        | apply agree_foldl_fst | apply agree_foldl_snd | apply agree_foldl_snd2)
    | intro _ | dsimp only | (refine agree_pair (by with_reducible assumption) ?_)
    | (refine agree_pair2 (by with_reducible assumption) ?_)
    | (refine agree_pair3 (by with_reducible assumption) ?_)
    | (refine agree_pair5 (by with_reducible assumption) ?_) | split

theorem readmit_frame (s : State) (hg : Agree m s₀ s) (h_str : m.str = true := by assumption) : Agree m s₀ (readmit s) := by
  unfold readmit
  try dsimp only
  repeat' first
    | (with_reducible first
        | assumption | apply tryShed_frame | apply agree_foldl | apply agree_foldl_fst)
    | intro _ | dsimp only | split

theorem tryWaiting_frame (s : State) (k : Nat) (hg : Agree m s₀ s) (h_str : m.str = true := by assumption) : Agree m s₀
    (tryWaiting s k) := by
  unfold tryWaiting
  try dsimp only
  repeat' first
    | (with_reducible first
        | assumption | apply setStream_frame | apply strUpd_frame | apply agree_foldl | apply agree_foldl_fst
        | apply agree_foldl_snd | apply agree_foldl_snd2)
    | intro _ | dsimp only | (refine agree_pair (by with_reducible assumption) ?_)
    | (refine agree_pair2 (by with_reducible assumption) ?_)
    | (refine agree_pair3 (by with_reducible assumption) ?_)
    | (refine agree_pair5 (by with_reducible assumption) ?_) | split

theorem liveChanged_frame (s : State) (hg : Agree m s₀ s) (h_str : m.str = true := by assumption) : Agree m s₀ (liveChanged s) := by
  unfold liveChanged
  try dsimp only
  repeat' first
    | (with_reducible first
        | assumption | apply tryWaiting_frame | apply readmit_frame | apply agree_foldl | apply agree_foldl_fst)
    | intro _ | dsimp only | split

theorem inputLost_frame (n : Nat) (s : State) (hg : Agree m s₀ s) (h_str : m.str = true := by assumption) : Agree m s₀ (inputLost n s) := by
  unfold inputLost
  try dsimp only
  repeat' first
    | (with_reducible first
        | assumption | apply strUpd_frame | apply liveChanged_frame | apply setStream_frame | apply agree_foldl
        | apply agree_foldl_fst | apply agree_foldl_snd | apply agree_foldl_snd2)
    | intro _ | dsimp only | (refine agree_pair (by with_reducible assumption) ?_)
    | (refine agree_pair2 (by with_reducible assumption) ?_)
    | (refine agree_pair3 (by with_reducible assumption) ?_)
    | (refine agree_pair5 (by with_reducible assumption) ?_) | split

theorem settleMerge_frame (k : Nat) (s : State) (hg : Agree m s₀ s) (h_str : m.str = true := by assumption) : Agree m s₀
    (settleMerge k s) := by
  unfold settleMerge
  repeat' first
    | (with_reducible first
        | assumption | apply strUpd_frame)
    | split

theorem auWait_frame (k : Nat) (s : State) (hg : Agree m s₀ s) (h_str : m.str = true := by assumption) : Agree m s₀ (auWait k s) := by
  unfold auWait
  try dsimp only
  repeat' first
    | (with_reducible first
        | assumption | apply strUpd_frame | apply agree_foldl | apply agree_foldl_fst | apply agree_foldl_snd
        | apply agree_foldl_snd2)
    | intro _ | dsimp only | (refine agree_pair (by with_reducible assumption) ?_)
    | (refine agree_pair2 (by with_reducible assumption) ?_)
    | (refine agree_pair3 (by with_reducible assumption) ?_)
    | (refine agree_pair5 (by with_reducible assumption) ?_) | split

theorem watchRestart_frame (k : Nat) (s : State) (hg : Agree m s₀ s) (h_str : m.str = true := by assumption) : Agree m s₀
    (watchRestart k s) := by
  unfold watchRestart
  try dsimp only
  repeat' first
    | (with_reducible first
        | assumption | apply withStr_frame | apply agree_foldl | apply agree_foldl_fst | apply agree_foldl_snd
        | apply agree_foldl_snd2)
    | intro _ | dsimp only | (refine agree_pair (by with_reducible assumption) ?_)
    | (refine agree_pair2 (by with_reducible assumption) ?_)
    | (refine agree_pair3 (by with_reducible assumption) ?_)
    | (refine agree_pair5 (by with_reducible assumption) ?_) | split

theorem opStreamOpen_frame (c : Cmd) (s : State) (hg : Agree m s₀ s) (h_str : m.str = true := by assumption) : Agree m s₀
    (opStreamOpen c s).1 := by
  unfold opStreamOpen
  try dsimp only
  repeat' first
    | (with_reducible first
        | assumption | apply checked_frame | apply watchRestart_frame | apply settleMerge_frame
        | apply strSet_frame | apply withStr_frame | apply setStream_frame | apply agree_foldl
        | apply agree_foldl_fst | apply agree_foldl_snd | apply agree_foldl_snd2)
    | intro _ | dsimp only | (refine agree_pair (by with_reducible assumption) ?_)
    | (refine agree_pair2 (by with_reducible assumption) ?_)
    | (refine agree_pair3 (by with_reducible assumption) ?_)
    | (refine agree_pair5 (by with_reducible assumption) ?_) | split

theorem opStreamModify_frame (c : Cmd) (s : State) (hg : Agree m s₀ s) (h_str : m.str = true := by assumption) : Agree m s₀
    (opStreamModify c s).1 := by
  unfold opStreamModify
  try dsimp only
  repeat' first
    | (with_reducible first
        | assumption | apply checked_frame | apply readmit_frame | apply strUpd_frame | apply agree_foldl
        | apply agree_foldl_fst | apply agree_foldl_snd | apply agree_foldl_snd2)
    | intro _ | dsimp only | (refine agree_pair (by with_reducible assumption) ?_)
    | (refine agree_pair2 (by with_reducible assumption) ?_)
    | (refine agree_pair3 (by with_reducible assumption) ?_)
    | (refine agree_pair5 (by with_reducible assumption) ?_) | split

theorem opStreamClose_frame (c : Cmd) (s : State) (hg : Agree m s₀ s) (h_str : m.str = true := by assumption) : Agree m s₀
    (opStreamClose c s).1 := by
  unfold opStreamClose
  try dsimp only
  repeat' first
    | (with_reducible first
        | assumption | apply checked_frame | apply setStream_frame | apply strUpd_frame | apply liveChanged_frame
        | apply withStr_frame | apply agree_foldl | apply agree_foldl_fst | apply agree_foldl_snd
        | apply agree_foldl_snd2)
    | intro _ | dsimp only | (refine agree_pair (by with_reducible assumption) ?_)
    | (refine agree_pair2 (by with_reducible assumption) ?_)
    | (refine agree_pair3 (by with_reducible assumption) ?_)
    | (refine agree_pair5 (by with_reducible assumption) ?_) | split

theorem execStreamClose_frame (c : Cmd) (s : State) {s₁ : State} (he : execStreamClose c s = .next s₁) (hg : Agree m s₀ s)
    (h_str : m.str = true := by assumption) : Agree m s₀ s₁ := by
  injection he with he
  subst he
  repeat' first
    | (with_reducible first
        | assumption | apply hostCommand_frame | apply opStreamClose_frame | apply agree_foldl
        | apply agree_foldl_fst)
    | intro _ | dsimp only | split

theorem closingRelease_frame (k : Nat) (s : State) (hg : Agree m s₀ s) (h_str : m.str = true := by assumption) : Agree m s₀
    (closingRelease k s) := by
  unfold closingRelease
  try dsimp only
  repeat' first
    | (with_reducible first
        | assumption | apply withStr_frame | apply setStream_frame | apply agree_foldl | apply agree_foldl_fst
        | apply agree_foldl_snd | apply agree_foldl_snd2)
    | intro _ | dsimp only | (refine agree_pair (by with_reducible assumption) ?_)
    | (refine agree_pair2 (by with_reducible assumption) ?_)
    | (refine agree_pair3 (by with_reducible assumption) ?_)
    | (refine agree_pair5 (by with_reducible assumption) ?_) | split

theorem execStreamClosingRelease_frame (stream : Nat) (s : State) {s₁ : State} (he : execStreamClosingRelease stream s = .next s₁)
    (hg : Agree m s₀ s) (h_str : m.str = true := by assumption) : Agree m s₀ s₁ := by
  injection he with he
  subst he
  repeat' first
    | (with_reducible first
        | assumption | apply closingRelease_frame)
    | split

theorem opStreamAnchor_frame (c : Cmd) (s : State) (hg : Agree m s₀ s) (h_str : m.str = true := by assumption) : Agree m s₀
    (opStreamAnchor c s).1 := by
  unfold opStreamAnchor
  try dsimp only
  repeat' first
    | (with_reducible first
        | assumption | apply checked_frame | apply strUpd_frame | apply agree_foldl | apply agree_foldl_fst)
    | intro _ | dsimp only | split

theorem execStreamAnchor_frame (c : Cmd) (s : State) {s₁ : State} (he : execStreamAnchor c s = .next s₁) (hg : Agree m s₀ s)
    (h_str : m.str = true := by assumption) : Agree m s₀ s₁ := by
  injection he with he
  subst he
  repeat' first
    | (with_reducible first
        | assumption | apply hostCommand_frame | apply opStreamAnchor_frame | apply agree_foldl
        | apply agree_foldl_fst)
    | intro _ | dsimp only | split

theorem anchorExpiry_frame (k : Nat) (s : State) (hg : Agree m s₀ s) (h_str : m.str = true := by assumption) : Agree m s₀
    (anchorExpiry k s) := by
  unfold anchorExpiry
  try dsimp only
  repeat' first
    | (with_reducible first
        | assumption | apply strUpd_frame | apply agree_foldl | apply agree_foldl_fst)
    | intro _ | dsimp only | split

theorem execAnchorExpiry_frame (stream : Nat) (s : State) {s₁ : State} (he : execAnchorExpiry stream s = .next s₁) (hg : Agree m s₀ s)
    (h_str : m.str = true := by assumption) : Agree m s₀ s₁ := by
  injection he with he
  subst he
  repeat' first
    | (with_reducible first
        | assumption | apply anchorExpiry_frame)
    | split

theorem opStreamStatus_frame (c : Cmd) (s : State) (hg : Agree m s₀ s) : Agree m s₀ (opStreamStatus c s).1 := by
  unfold opStreamStatus
  repeat' first
    | (with_reducible first
        | assumption)
    | split

theorem execStreamStatus_frame (c : Cmd) (s : State) {s₁ : State} (he : execStreamStatus c s = .next s₁) (hg : Agree m s₀ s)
    : Agree m s₀ s₁ := by
  injection he with he
  subst he
  repeat' first
    | (with_reducible first
        | assumption | apply hostCommand_frame | apply opStreamStatus_frame)
    | split

theorem opWatchSet_frame (c : Cmd) (s : State) (hg : Agree m s₀ s) (h_str : m.str = true := by assumption) : Agree m s₀
    (opWatchSet c s).1 := by
  unfold opWatchSet
  try dsimp only
  repeat' first
    | (with_reducible first
        | assumption | apply checked_frame | apply withStr_frame | apply agree_foldl | apply agree_foldl_fst
        | apply agree_foldl_snd | apply agree_foldl_snd2)
    | intro _ | dsimp only | (refine agree_pair (by with_reducible assumption) ?_)
    | (refine agree_pair2 (by with_reducible assumption) ?_)
    | (refine agree_pair3 (by with_reducible assumption) ?_)
    | (refine agree_pair5 (by with_reducible assumption) ?_) | split

theorem execWatchSet_frame (c : Cmd) (s : State) {s₁ : State} (he : execWatchSet c s = .next s₁) (hg : Agree m s₀ s)
    (h_str : m.str = true := by assumption) : Agree m s₀ s₁ := by
  injection he with he
  subst he
  repeat' first
    | (with_reducible first
        | assumption | apply hostCommand_frame | apply opWatchSet_frame | apply agree_foldl | apply agree_foldl_fst)
    | intro _ | dsimp only | split

theorem ringCtlWrite_frame (fn : Nat) (r : Nat) (v : W32) (s : State) (hg : Agree m s₀ s) : Agree m s₀ (ringCtlWrite fn r v s) := by
  unfold ringCtlWrite
  try dsimp only
  repeat' first
    | (with_reducible first
        | assumption | apply ringSet_frame | apply ringStop_frame | apply agree_foldl | apply agree_foldl_fst)
    | intro _ | dsimp only | split

theorem ringOtherWrite_frame (fn : Nat) (r : Nat) (sub : Nat) (init : Nat) (v : W32) (s : State) (hg : Agree m s₀ s) : Agree m s₀
    (ringOtherWrite fn r sub init v s) := by
  unfold ringOtherWrite
  try dsimp only
  repeat' first
    | (with_reducible first
        | assumption | apply paramRefused_frame | apply holdLo_frame | apply ringSet_frame | apply dropLo_frame | apply agree_foldl
        | apply agree_foldl_fst)
    | intro _ | dsimp only | split

theorem msixWrite_frame (off : Nat) (init : Nat) (v : W32) (s : State) (hg : Agree m s₀ s) : Agree m s₀ (msixWrite off init v s) := by
  unfold msixWrite
  try dsimp only
  repeat' first
    | (with_reducible first
        | assumption | apply fnSet_frame | apply signalVector_frame | apply agree_foldl | apply agree_foldl_fst)
    | intro _ | dsimp only | split

theorem doorbell_frame (fn : Nat) (r : Nat) (v : W32) (s : State) (hg : Agree m s₀ s) : Agree m s₀ (doorbell fn r v s) := by
  unfold doorbell
  try dsimp only
  repeat' first
    | (with_reducible first
        | assumption | apply ringSet_frame | apply ringStop_frame | apply agree_foldl | apply agree_foldl_fst)
    | intro _ | dsimp only | split

theorem execDoorbellWrite_frame (fn : Nat) (ring : Nat) (v : W32) (s : State) {s₁ : State} (he : execDoorbellWrite fn ring v s = .next s₁)
    (hg : Agree m s₀ s) : Agree m s₀ s₁ := by
  injection he with he
  subst he
  repeat' first
    | (with_reducible first
        | assumption | apply doorbell_frame)
    | split

theorem ringCtlReg_frame (fn : Nat) (ring : Nat) (a : RegW) (s : State) (hg : Agree m s₀ s) (h_mem : m.mem = true := by assumption)
    : Agree m s₀ (ringCtlReg fn ring a s) := by
  unfold ringCtlReg
  repeat' first
    | (with_reducible first
        | assumption | apply regWrite_frame | apply ringCtlWrite_frame)
    | split

theorem execRingEnable_frame (fn : Nat) (ring : Nat) (a : RegW) (s : State) {s₁ : State} (he : execRingEnable fn ring a s = .next s₁)
    (hg : Agree m s₀ s) (h_mem : m.mem = true := by assumption) : Agree m s₀ s₁ := by
  injection he with he
  subst he
  repeat' first
    | (with_reducible first
        | assumption | apply ringCtlReg_frame)
    | split

theorem execRingDisable_frame (fn : Nat) (ring : Nat) (a : RegW) (s : State) {s₁ : State} (he : execRingDisable fn ring a s = .next s₁)
    (hg : Agree m s₀ s) (h_mem : m.mem = true := by assumption) : Agree m s₀ s₁ := by
  injection he with he
  subst he
  repeat' first
    | (with_reducible first
        | assumption | apply ringCtlReg_frame)
    | split

theorem moderationExpire_frame (fn : Nat) (r : Nat) (s : State) (hg : Agree m s₀ s) : Agree m s₀ (moderationExpire fn r s) := by
  unfold moderationExpire
  try dsimp only
  repeat' first
    | (with_reducible first
        | assumption | apply signalVector_frame | apply ringSet_frame | apply agree_foldl | apply agree_foldl_fst)
    | intro _ | dsimp only | split

theorem execIrqModerationTimeout_frame (fn : Nat) (ring : Nat) (s : State) {s₁ : State}
    (he : execIrqModerationTimeout fn ring s = .next s₁) (hg : Agree m s₀ s) : Agree m s₀ s₁ := by
  injection he with he
  subst he
  repeat' first
    | (with_reducible first
        | assumption | apply moderationExpire_frame)
    | split

theorem fnQuiet_frame (fn : Nat) (s : State) (hg : Agree m s₀ s) : Agree m s₀ (fnQuiet fn s) := by
  unfold fnQuiet
  try dsimp only
  repeat' first
    | (with_reducible first
        | assumption | apply fnSet_frame | apply agree_foldl | apply agree_foldl_fst)
    | (simp only [agree_mk]; with_reducible refine agreeAt ?_) | intro _ | dsimp only | split

theorem dropPending_frame (init : Nat) (s : State) (hg : Agree m s₀ s) : Agree m s₀ (dropPending init s) := by
  unfold dropPending
  try dsimp only
  repeat' first
    | (with_reducible first
        | assumption | apply agree_foldl | apply agree_foldl_fst)
    | (simp only [agree_mk]; with_reducible refine agreeAt ?_) | intro _ | dsimp only | split

theorem execFunctionLevelReset_frame (fn : Nat) (s : State) {s₁ : State} (he : execFunctionLevelReset fn s = .next s₁)
    (hg : Agree m s₀ s) : Agree m s₀ s₁ := by
  injection he with he
  subst he
  repeat' first
    | (with_reducible first
        | assumption | apply dropPending_frame | apply fnQuiet_frame)
    | split

theorem execD3hotEntry_frame (fn : Nat) (s : State) {s₁ : State} (he : execD3hotEntry fn s = .next s₁) (hg : Agree m s₀ s)
    : Agree m s₀ s₁ := by
  injection he with he
  subst he
  repeat' first
    | (with_reducible first
        | assumption | apply fnQuiet_frame)
    | split

theorem linkLoss_frame (s : State) (hg : Agree m s₀ s) : Agree m s₀ (linkLoss s) := by
  unfold linkLoss
  try dsimp only
  repeat' first
    | (with_reducible first
        | assumption | apply fnQuiet_frame | apply agree_foldl | apply agree_foldl_fst)
    | (simp only [agree_mk]; with_reducible refine agreeAt ?_) | intro _ | dsimp only | split

theorem execHostLinkLoss_frame (s : State) {s₁ : State} (he : execHostLinkLoss s = .next s₁) (hg : Agree m s₀ s) : Agree m s₀ s₁ := by
  injection he with he
  subst he
  repeat' first
    | (with_reducible first
        | assumption | apply linkLoss_frame)
    | split

theorem windowClose_frame (k : WindowKey) (s : State) (hg : Agree m s₀ s) : Agree m s₀ (windowClose k s) := by
  unfold windowClose
  try dsimp only
  repeat' first
    | (with_reducible first
        | assumption | apply raise_frame | apply agree_foldl | apply agree_foldl_fst)
    | (simp only [agree_mk]; with_reducible refine agreeAt ?_) | intro _ | dsimp only | split

theorem execNotPermittedWindowClose_frame (key : WindowKey) (s : State) {s₁ : State} (he : execNotPermittedWindowClose key s = .next s₁)
    (hg : Agree m s₀ s) : Agree m s₀ s₁ := by
  injection he with he
  subst he
  repeat' first
    | (with_reducible first
        | assumption | apply windowClose_frame)
    | split

theorem cvuSet_frame (u : Nat) (x : Cvu) (s : State) (hg : Agree m s₀ s) : Agree m s₀ (cvuSet u x s) := by
  unfold cvuSet
  try dsimp only
  repeat' first
    | (with_reducible first
        | assumption | apply agree_foldl | apply agree_foldl_fst)
    | (simp only [agree_mk]; with_reducible refine agreeAt ?_) | intro _ | dsimp only | split

theorem cvuCtlWrite_frame (u : Nat) (v : W32) (s : State) (hg : Agree m s₀ s) : Agree m s₀ (cvuCtlWrite u v s) := by
  unfold cvuCtlWrite
  repeat' first
    | (with_reducible first
        | assumption | apply cvuSet_frame)
    | split

theorem cvuFeed_frame (u : Nat) (bs : List Byte) (s : State) (hg : Agree m s₀ s) : Agree m s₀ (cvuFeed u bs s) := by
  unfold cvuFeed
  repeat' first
    | (with_reducible first
        | assumption | apply cvuSet_frame)
    | split

theorem cvuAlarm_frame (u : Nat) (kind : Nat) (init : Nat) (prev : Nat) (new : Nat) (s : State) (hg : Agree m s₀ s) : Agree m s₀
    (cvuAlarm u kind init prev new s) := by
  unfold cvuAlarm
  repeat' first
    | (with_reducible first
        | assumption | apply raiseMerged_frame)
    | split

theorem cvuAlive_frame (u : Nat) (init : Nat) (v : W32) (s : State) (hg : Agree m s₀ s) : Agree m s₀ (cvuAlive u init v s) := by
  unfold cvuAlive
  try dsimp only
  repeat' first
    | (with_reducible first
        | assumption | apply cvuSet_frame | apply cvuAlarm_frame | apply agree_foldl | apply agree_foldl_fst)
    | intro _ | dsimp only | split

theorem cvuTimeout_frame (u : Nat) (s : State) (hg : Agree m s₀ s) : Agree m s₀ (cvuTimeout u s) := by
  unfold cvuTimeout
  try dsimp only
  repeat' first
    | (with_reducible first
        | assumption | apply cvuAlarm_frame | apply cvuSet_frame | apply agree_foldl | apply agree_foldl_fst)
    | intro _ | dsimp only | split

theorem cvuClear_frame (off : Nat) (lo : Nat) (s : State) (hg : Agree m s₀ s) : Agree m s₀ (cvuClear off lo s) := by
  unfold cvuClear
  repeat' first
    | (with_reducible first
        | assumption | apply cvuSet_frame)
    | split

theorem execCvuInit_frame (u : Nat) (a : RegW) (s : State) {s₁ : State} (he : execCvuInit u a s = .next s₁) (hg : Agree m s₀ s)
    (h_mem : m.mem = true := by assumption) : Agree m s₀ s₁ := by
  injection he with he
  subst he
  repeat' first
    | (with_reducible first
        | assumption | apply regWrite_frame | apply cvuCtlWrite_frame)
    | split

theorem execCvuPolyWrite_frame (u : Nat) (a : RegW) (s : State) {s₁ : State} (he : execCvuPolyWrite u a s = .next s₁) (hg : Agree m s₀ s)
    (h_mem : m.mem = true := by assumption) : Agree m s₀ s₁ := by
  injection he with he
  subst he
  repeat' first
    | (with_reducible first
        | assumption | apply regWrite_frame | apply cvuCtlWrite_frame)
    | split

theorem execCvuAliveEnable_frame (u : Nat) (a : RegW) (s : State) {s₁ : State} (he : execCvuAliveEnable u a s = .next s₁)
    (hg : Agree m s₀ s) (h_mem : m.mem = true := by assumption) : Agree m s₀ s₁ := by
  injection he with he
  subst he
  repeat' first
    | (with_reducible first
        | assumption | apply regWrite_frame | apply cvuCtlWrite_frame)
    | split

theorem execCvuFeed_frame (u : Nat) (size : FeedSize) (a : RegW) (s : State) {s₁ : State} (he : execCvuFeed u size a s = .next s₁)
    (hg : Agree m s₀ s) (h_mem : m.mem = true := by assumption) : Agree m s₀ s₁ := by
  injection he with he
  subst he
  repeat' first
    | (with_reducible first
        | assumption | apply regWrite_frame | apply cvuFeed_frame | apply agree_foldl | apply agree_foldl_fst)
    | intro _ | dsimp only | split

theorem execCvuAliveWrite_frame (u : Nat) (a : RegW) (s : State) {s₁ : State} (he : execCvuAliveWrite u a s = .next s₁)
    (hg : Agree m s₀ s) (h_mem : m.mem = true := by assumption) : Agree m s₀ s₁ := by
  injection he with he
  subst he
  repeat' first
    | (with_reducible first
        | assumption | apply regWrite_frame | apply cvuAlive_frame)
    | split

theorem execCvuAliveTimeout_frame (u : Nat) (s : State) {s₁ : State} (he : execCvuAliveTimeout u s = .next s₁) (hg : Agree m s₀ s)
    : Agree m s₀ s₁ := by
  injection he with he
  subst he
  repeat' first
    | (with_reducible first
        | assumption | apply cvuTimeout_frame)
    | split

theorem evClear_frame (off : Nat) (s : State) (hg : Agree m s₀ s) : Agree m s₀ (evClear off s) := by
  unfold evClear
  try dsimp only
  repeat' first
    | (with_reducible first
        | assumption | apply agree_foldl | apply agree_foldl_fst)
    | (simp only [agree_mk]; with_reducible refine agreeAt ?_) | intro _ | dsimp only | split

theorem opNop_frame (x0 : Cmd) (s : State) (hg : Agree m s₀ s) : Agree m s₀ (opNop x0 s).1 := by
  unfold opNop
  repeat' first
    | (with_reducible first
        | assumption)
    | split

theorem execNop_frame (c : Cmd) (s : State) {s₁ : State} (he : execNop c s = .next s₁) (hg : Agree m s₀ s) : Agree m s₀ s₁ := by
  injection he with he
  subst he
  repeat' first
    | (with_reducible first
        | assumption | apply hostCommand_frame | apply opNop_frame)
    | split

theorem opEventMaskSet_frame (c : Cmd) (s : State) (hg : Agree m s₀ s) : Agree m s₀ (opEventMaskSet c s).1 := by
  unfold opEventMaskSet
  try dsimp only
  repeat' first
    | (with_reducible first
        | assumption | apply checked_frame | apply agree_foldl | apply agree_foldl_fst)
    | (simp only [agree_mk]; with_reducible refine agreeAt ?_) | intro _ | dsimp only | split

theorem execEventMaskSet_frame (c : Cmd) (s : State) {s₁ : State} (he : execEventMaskSet c s = .next s₁) (hg : Agree m s₀ s)
    : Agree m s₀ s₁ := by
  injection he with he
  subst he
  repeat' first
    | (with_reducible first
        | assumption | apply hostCommand_frame | apply opEventMaskSet_frame)
    | split

theorem opPf1LimitsSet_frame (c : Cmd) (s : State) (hg : Agree m s₀ s) : Agree m s₀ (opPf1LimitsSet c s).1 := by
  unfold opPf1LimitsSet
  try dsimp only
  repeat' first
    | (with_reducible first
        | assumption | apply checked_frame | apply agree_foldl | apply agree_foldl_fst)
    | (simp only [agree_mk]; with_reducible refine agreeAt ?_) | intro _ | dsimp only | split

theorem execPf1LimitsSet_frame (c : Cmd) (s : State) {s₁ : State} (he : execPf1LimitsSet c s = .next s₁) (hg : Agree m s₀ s)
    : Agree m s₀ s₁ := by
  injection he with he
  subst he
  repeat' first
    | (with_reducible first
        | assumption | apply hostCommand_frame | apply opPf1LimitsSet_frame)
    | split

theorem opSelftest_frame (c : Cmd) (s : State) (hg : Agree m s₀ s) : Agree m s₀ (opSelftest c s).1 := by
  unfold opSelftest
  try dsimp only
  repeat' first
    | (with_reducible first
        | assumption | apply checked_frame | apply agree_foldl | apply agree_foldl_fst)
    | intro _ | dsimp only | split

theorem execSelftest_frame (c : Cmd) (s : State) {s₁ : State} (he : execSelftest c s = .next s₁) (hg : Agree m s₀ s) : Agree m s₀ s₁ := by
  injection he with he
  subst he
  repeat' first
    | (with_reducible first
        | assumption | apply hostCommand_frame | apply opSelftest_frame)
    | split

theorem selftestEnd_frame (failed : W32) (s : State) (hg : Agree m s₀ s) : Agree m s₀ (selftestEnd failed s) := by
  unfold selftestEnd
  repeat' first
    | (with_reducible first
        | assumption | apply completeOutst_frame)
    | split

theorem execSelftestEnd_frame (failed : W32) (s : State) {s₁ : State} (he : execSelftestEnd failed s = .next s₁) (hg : Agree m s₀ s)
    : Agree m s₀ s₁ := by
  injection he with he
  subst he
  repeat' first
    | (with_reducible first
        | assumption | apply selftestEnd_frame)
    | split

theorem unknownOpcode_frame (opcode : Nat) (c : Cmd) (s : State) (hg : Agree m s₀ s) : Agree m s₀ (unknownOpcode opcode c s) := by
  unfold unknownOpcode
  repeat' first
    | (with_reducible first
        | assumption | apply hostCommand_frame | apply opNop_frame)
    | split

theorem execUnknownOpcode_frame (opcode : Nat) (c : Cmd) (s : State) {s₁ : State} (he : execUnknownOpcode opcode c s = .next s₁)
    (hg : Agree m s₀ s) : Agree m s₀ s₁ := by
  injection he with he
  subst he
  repeat' first
    | (with_reducible first
        | assumption | apply unknownOpcode_frame)
    | split

theorem laneUpd_frame (i : Nat) (f : Lane → Lane) (s : State) (hg : Agree m s₀ s) (h_lane : m.lane = true := by assumption) : Agree m s₀
    (laneUpd i f s) := by
  unfold laneUpd
  try dsimp only
  repeat' first
    | (with_reducible first
        | assumption | apply agree_foldl | apply agree_foldl_fst)
    | (simp only [agree_mk]; with_reducible refine agreeAt_lane (by assumption) ?_) | intro _ | dsimp only | split

theorem laneEvent_frame (i : Nat) (old : Nat) (cause : Nat) (micros : Nat) (s : State) (hg : Agree m s₀ s) : Agree m s₀
    (laneEvent i old cause micros s) := by
  unfold laneEvent
  repeat' first
    | (with_reducible first
        | assumption | apply raise_frame)
    | split

theorem laneEnter_frame (ovl : Nat) (cause : Nat) (i : Nat) (s : State) (hg : Agree m s₀ s) (h_lane : m.lane = true := by assumption)
    : Agree m s₀ (laneEnter ovl cause i s) := by
  unfold laneEnter
  repeat' first
    | (with_reducible first
        | assumption | apply laneEvent_frame | apply laneUpd_frame)
    | split

theorem laneLeave_frame (cause : Nat) (i : Nat) (s : State) (hg : Agree m s₀ s) (h_lane : m.lane = true := by assumption) : Agree m s₀
    (laneLeave cause i s) := by
  unfold laneLeave
  repeat' first
    | (with_reducible first
        | assumption | apply laneEvent_frame | apply laneUpd_frame)
    | split

theorem laneEnable_frame (is : List Nat) (target : Nat) (arg : List Nat) (work : State → State × Reply) (s : State)
    (hw : ∀ u, Agree m s₀ u → Agree m s₀ (work u).1) (hg : Agree m s₀ s) (h_lane : m.lane = true := by assumption) : Agree m s₀
    (laneEnable is target arg work s).1 := by
  unfold laneEnable
  try dsimp only
  repeat' first
    | (with_reducible first
        | assumption | apply laneEnter_frame | apply hw | apply agree_foldl | apply agree_foldl_fst)
    | intro _ | dsimp only | split

theorem lnClear_frame (off : Nat) (s : State) (hg : Agree m s₀ s) (h_lane : m.lane = true := by assumption) : Agree m s₀
    (lnClear off s) := by
  unfold lnClear
  repeat' first
    | (with_reducible first
        | assumption | apply laneUpd_frame)
    | split

theorem withNet_frame (s : State) (u : NetUnit) (hg : Agree m s₀ s) (h_net : m.net = true := by assumption) : Agree m s₀ (withNet s u) := by
  unfold withNet
  try dsimp only
  repeat' first
    | (with_reducible first
        | assumption | apply agree_foldl | apply agree_foldl_fst)
    | (simp only [agree_mk]; with_reducible refine agreeAt_net (by assumption) ?_) | intro _ | dsimp only | split

theorem netUpd_frame (p : Nat) (f : NetPort → NetPort) (s : State) (hg : Agree m s₀ s) (h_net : m.net = true := by assumption)
    : Agree m s₀ (netUpd p f s) := by
  unfold netUpd
  repeat' first
    | (with_reducible first
        | assumption | apply withNet_frame)
    | split

theorem netCount_frame (p : Nat) (k : Nat) (s : State) (hg : Agree m s₀ s) (h_net : m.net = true := by assumption) : Agree m s₀
    (netCount p k s) := by
  unfold netCount
  repeat' first
    | (with_reducible first
        | assumption | apply netUpd_frame)
    | split

theorem classSet_frame (k : Nat) (x : PktClass) (s : State) (hg : Agree m s₀ s) (h_net : m.net = true := by assumption) : Agree m s₀
    (classSet k x s) := by
  unfold classSet
  repeat' first
    | (with_reducible first
        | assumption | apply withNet_frame)
    | split

theorem classDrop_frame (k : Nat) (cause : Nat) (s : State) (hg : Agree m s₀ s) (h_net : m.net = true := by assumption) : Agree m s₀
    (classDrop k cause s) := by
  unfold classDrop
  try dsimp only
  repeat' first
    | (with_reducible first
        | assumption | apply classSet_frame | apply raise_frame | apply agree_foldl | apply agree_foldl_fst
        | apply agree_foldl_snd | apply agree_foldl_snd2)
    | intro _ | dsimp only | (refine agree_pair (by with_reducible assumption) ?_)
    | (refine agree_pair2 (by with_reducible assumption) ?_)
    | (refine agree_pair3 (by with_reducible assumption) ?_)
    | (refine agree_pair5 (by with_reducible assumption) ?_) | split

theorem pktinPut_frame (fn : Nat) (r : Nat) (port : Nat) (k : Nat) (f : EthFrame) (n : Nat) (lost : Nat) (s : State) (j : Nat)
    (hg : Agree m s₀ s) : Agree m s₀ (pktinPut fn r port k f n lost s j) := by
  unfold pktinPut
  repeat' first
    | (with_reducible first
        | assumption | apply ringPut_frame | apply send_frame)
    | split

theorem classDeliver_frame (port : Nat) (k : Nat) (f : EthFrame) (s : State) (hg : Agree m s₀ s) (h_net : m.net = true := by assumption)
    : Agree m s₀ (classDeliver port k f s) := by
  unfold classDeliver
  try dsimp only
  repeat' first
    | (with_reducible first
        | assumption | apply classSet_frame | apply classDrop_frame | apply ringSet_frame | apply pktinPut_frame
        | apply agree_foldl | apply agree_foldl_fst)
    | intro _ | dsimp only | split

theorem opPktinClassSet_frame (c : Cmd) (s : State) (hg : Agree m s₀ s) (h_net : m.net = true := by assumption) : Agree m s₀
    (opPktinClassSet c s).1 := by
  unfold opPktinClassSet
  try dsimp only
  repeat' first
    | (with_reducible first
        | assumption | apply checked_frame | apply classSet_frame | apply agree_foldl | apply agree_foldl_fst
        | apply agree_foldl_snd | apply agree_foldl_snd2)
    | intro _ | dsimp only | (refine agree_pair (by with_reducible assumption) ?_)
    | (refine agree_pair2 (by with_reducible assumption) ?_)
    | (refine agree_pair3 (by with_reducible assumption) ?_)
    | (refine agree_pair5 (by with_reducible assumption) ?_) | split

theorem execPktinClassSet_frame (c : Cmd) (s : State) {s₁ : State} (he : execPktinClassSet c s = .next s₁) (hg : Agree m s₀ s)
    (h_net : m.net = true := by assumption) : Agree m s₀ s₁ := by
  injection he with he
  subst he
  repeat' first
    | (with_reducible first
        | assumption | apply hostCommand_frame | apply opPktinClassSet_frame | apply agree_foldl
        | apply agree_foldl_fst)
    | intro _ | dsimp only | split

theorem opNetFilterSet_frame (c : Cmd) (s : State) (hg : Agree m s₀ s) (h_net : m.net = true := by assumption) : Agree m s₀
    (opNetFilterSet c s).1 := by
  unfold opNetFilterSet
  try dsimp only
  repeat' first
    | (with_reducible first
        | assumption | apply checked_frame | apply netUpd_frame | apply agree_foldl | apply agree_foldl_fst)
    | intro _ | dsimp only | split

theorem execNetFilterSet_frame (c : Cmd) (s : State) {s₁ : State} (he : execNetFilterSet c s = .next s₁) (hg : Agree m s₀ s)
    (h_net : m.net = true := by assumption) : Agree m s₀ s₁ := by
  injection he with he
  subst he
  repeat' first
    | (with_reducible first
        | assumption | apply hostCommand_frame | apply opNetFilterSet_frame | apply agree_foldl
        | apply agree_foldl_fst)
    | intro _ | dsimp only | split

theorem packetOutTake_frame (fn : Nat) (ring : Nat) (d : Option PacketOut) (s : State) (hg : Agree m s₀ s)
    (h_net : m.net = true := by assumption) : Agree m s₀ (packetOutTake fn ring d s) := by
  unfold packetOutTake
  try dsimp only
  repeat' first
    | (with_reducible first
        | assumption | apply ringStop_frame | apply ringSet_frame | apply ringWrite_frame | apply notPermitted_frame | apply withNet_frame
        | apply agree_foldl | apply agree_foldl_fst)
    | intro _ | dsimp only | split

theorem execPacketOutTake_frame (fn : Nat) (ring : Nat) (d : Option PacketOut) (s : State) {s₁ : State}
    (he : execPacketOutTake fn ring d s = .next s₁) (hg : Agree m s₀ s) (h_net : m.net = true := by assumption) : Agree m s₀ s₁ := by
  injection he with he
  subst he
  repeat' first
    | (with_reducible first
        | assumption | apply packetOutTake_frame)
    | split

theorem frameTransmit_frame (port : Nat) (stamp : StampNs) (s : State) (hg : Agree m s₀ s) (h_tb : m.tb = true := by assumption)
    (h_net : m.net = true := by assumption) : Agree m s₀ (frameTransmit port stamp s) := by
  unfold frameTransmit
  try dsimp only
  repeat' first
    | (with_reducible first
        | assumption | apply send_frame | apply txqPush_frame | apply agree_foldl | apply agree_foldl_fst
        | apply agree_foldl_snd | apply agree_foldl_snd2)
    | (simp only [agree_mk]; with_reducible refine agreeAt ?_)
    | (simp only [agree_mk]; with_reducible refine agreeAt_net (by assumption) ?_) | intro _ | dsimp only
    | (refine agree_pair (by with_reducible assumption) ?_)
    | (refine agree_pair2 (by with_reducible assumption) ?_)
    | (refine agree_pair3 (by with_reducible assumption) ?_)
    | (refine agree_pair5 (by with_reducible assumption) ?_) | split

theorem execFrameTransmit_frame (port : Nat) (stamp : StampNs) (s : State) {s₁ : State} (he : execFrameTransmit port stamp s = .next s₁)
    (hg : Agree m s₀ s) (h_tb : m.tb = true := by assumption) (h_net : m.net = true := by assumption) : Agree m s₀ s₁ := by
  injection he with he
  subst he
  repeat' first
    | (with_reducible first
        | assumption | apply frameTransmit_frame)
    | split

theorem pathSet_frame (k : Nat) (path : Nat) (up : Bool) (s : State) (hg : Agree m s₀ s) (h_str : m.str = true := by assumption)
    : Agree m s₀ (pathSet k path up s) := by
  unfold pathSet
  try dsimp only
  repeat' first
    | (with_reducible first
        | assumption | apply raise_frame | apply strSet_frame | apply agree_foldl | apply agree_foldl_fst)
    | intro _ | dsimp only | split

theorem frameDrop_frame (k : Nat) (cause : Nat) (num : Nat) (s : State) (hg : Agree m s₀ s) : Agree m s₀ (frameDrop k cause num s) := by
  unfold frameDrop
  repeat' first
    | (with_reducible first
        | assumption | apply raise_frame)
    | split

theorem refreshWanted_frame (k : Nat) (s : State) (hg : Agree m s₀ s) : Agree m s₀ (refreshWanted k s) := by
  unfold refreshWanted
  repeat' first
    | (with_reducible first
        | assumption | apply raise_frame)
    | split

theorem backlog_frame (k : Nat) (s : State) (hg : Agree m s₀ s) (h_str : m.str = true := by assumption) : Agree m s₀ (backlog k s) := by
  unfold backlog
  try dsimp only
  repeat' first
    | (with_reducible first
        | assumption | apply strUpd_frame | apply refreshWanted_frame | apply raise_frame | apply agree_foldl
        | apply agree_foldl_fst)
    | intro _ | dsimp only | split

theorem closeCoded_frame (k : Nat) (u : OpenUnit) (degraded : Bool) (s : State) (hg : Agree m s₀ s)
    (h_str : m.str = true := by assumption) : Agree m s₀ (closeCoded k u degraded s) := by
  unfold closeCoded
  try dsimp only
  repeat' first
    | (with_reducible first
        | assumption | apply frameDrop_frame | apply auWait_frame | apply backlog_frame | apply strUpd_frame
        | apply agree_foldl | apply agree_foldl_fst | apply agree_foldl_snd | apply agree_foldl_snd2)
    | intro _ | dsimp only | (refine agree_pair (by with_reducible assumption) ?_)
    | (refine agree_pair2 (by with_reducible assumption) ?_)
    | (refine agree_pair3 (by with_reducible assumption) ?_)
    | (refine agree_pair5 (by with_reducible assumption) ?_) | split

theorem prevStitch_frame (stage : Nat) (us : List StageFault) (init : Nat) (port : Nat) (k : Nat) (prev : Option SrcFrame) (fmt : Nat)
    (w : Nat) (h : Nat) (sx : Nat) (sy : Nat) (s : State) (hg : Agree m s₀ s) (h_mem : m.mem = true := by assumption)
    (h_str : m.str = true := by assumption) : Agree m s₀ (prevStitch stage us init port k prev fmt w h sx sy s).2 := by
  unfold prevStitch
  try dsimp only
  repeat' first
    | (with_reducible first
        | assumption | apply fetchStitch_frame | apply agree_foldl | apply agree_foldl_fst | apply agree_foldl_snd
        | apply agree_foldl_snd2)
    | intro _ | dsimp only | (refine agree_pair (by with_reducible assumption) ?_)
    | (refine agree_pair2 (by with_reducible assumption) ?_)
    | (refine agree_pair3 (by with_reducible assumption) ?_)
    | (refine agree_pair5 (by with_reducible assumption) ?_) | split

theorem closeStitches_frame (us : List StageFault) (k : Nat) (u : OpenUnit) (prev : Option SrcFrame) (fmt : Nat) (w : Nat) (h : Nat)
    (x7 : List (Nat × Nat)) (x8 : State) (hg : Agree m s₀ x8) (h_mem : m.mem = true := by assumption)
    (h_str : m.str = true := by assumption) : Agree m s₀ (closeStitches us k u prev fmt w h x7 x8).2.2 := by
  induction x7 generalizing x8 with
  | nil =>
    unfold closeStitches
    try dsimp only
    repeat' first
      | (with_reducible first
          | assumption | apply prevStitch_frame | apply agree_foldl | apply agree_foldl_fst | apply agree_foldl_snd
          | apply agree_foldl_snd2)
      | intro _ | dsimp only | (refine agree_pair (by with_reducible assumption) ?_)
      | (refine agree_pair2 (by with_reducible assumption) ?_)
      | (refine agree_pair3 (by with_reducible assumption) ?_)
      | (refine agree_pair5 (by with_reducible assumption) ?_) | split
  | cons _ _ ih =>
    unfold closeStitches
    try dsimp only
    repeat' first
      | (with_reducible first
          | assumption | apply ih | apply prevStitch_frame | apply agree_foldl | apply agree_foldl_fst | apply agree_foldl_snd
          | apply agree_foldl_snd2)
      | intro _ | dsimp only | (refine agree_pair (by with_reducible assumption) ?_)
      | (refine agree_pair2 (by with_reducible assumption) ?_)
      | (refine agree_pair3 (by with_reducible assumption) ?_)
      | (refine agree_pair5 (by with_reducible assumption) ?_) | split

theorem closeRows_frame (k : Nat) (u : OpenUnit) (degraded : Bool) (s : State) (hg : Agree m s₀ s) (h_mem : m.mem = true := by assumption)
    (h_str : m.str = true := by assumption) (h_comp : m.comp = true := by assumption) : Agree m s₀ (closeRows k u degraded s) := by
  unfold closeRows
  try dsimp only
  repeat' first
    | (with_reducible first
        | assumption | apply closeStitches_frame | apply withStr_frame | apply custodyReport_frame
        | apply acceptFrame_frame | apply agree_foldl | apply agree_foldl_fst | apply agree_foldl_snd
        | apply agree_foldl_snd2)
    | intro _ | dsimp only | (refine agree_pair (by with_reducible assumption) ?_)
    | (refine agree_pair2 (by with_reducible assumption) ?_)
    | (refine agree_pair3 (by with_reducible assumption) ?_)
    | (refine agree_pair5 (by with_reducible assumption) ?_) | split

theorem pathLoss_frame (k : Nat) (path : Nat) (s : State) (hg : Agree m s₀ s) (h_str : m.str = true := by assumption) : Agree m s₀
    (pathLoss k path s) := by
  unfold pathLoss
  try dsimp only
  repeat' first
    | (with_reducible first
        | assumption | apply pathSet_frame | apply agree_foldl | apply agree_foldl_fst)
    | intro _ | dsimp only | split

theorem closeUnit_frame (k : Nat) (u : OpenUnit) (s : State) (hg : Agree m s₀ s) (h_mem : m.mem = true := by assumption)
    (h_str : m.str = true := by assumption) (h_comp : m.comp = true := by assumption) : Agree m s₀ (closeUnit k u s) := by
  unfold closeUnit
  try dsimp only
  repeat' first
    | (with_reducible first
        | assumption | apply pathLoss_frame | apply strUpd_frame | apply closeRows_frame | apply closeCoded_frame | apply agree_foldl
        | apply agree_foldl_fst)
    | intro _ | dsimp only | split

theorem closeNext_frame (k : Nat) (x1 : Nat) (x2 : State) (hg : Agree m s₀ x2) (h_mem : m.mem = true := by assumption)
    (h_str : m.str = true := by assumption) (h_comp : m.comp = true := by assumption) : Agree m s₀ (closeNext k x1 x2) := by
  induction x1 generalizing x2 with
  | zero =>
    unfold closeNext
    try dsimp only
    repeat' first
      | (with_reducible first
          | assumption | apply closeUnit_frame | apply agree_foldl | apply agree_foldl_fst | apply agree_foldl_snd
          | apply agree_foldl_snd2)
      | intro _ | dsimp only | (refine agree_pair (by with_reducible assumption) ?_)
      | (refine agree_pair2 (by with_reducible assumption) ?_)
      | (refine agree_pair3 (by with_reducible assumption) ?_)
      | (refine agree_pair5 (by with_reducible assumption) ?_) | split
  | succ _ ih =>
    unfold closeNext
    try dsimp only
    repeat' first
      | (with_reducible first
          | assumption | apply ih | apply closeUnit_frame | apply agree_foldl | apply agree_foldl_fst | apply agree_foldl_snd
          | apply agree_foldl_snd2)
      | intro _ | dsimp only | (refine agree_pair (by with_reducible assumption) ?_)
      | (refine agree_pair2 (by with_reducible assumption) ?_)
      | (refine agree_pair3 (by with_reducible assumption) ?_)
      | (refine agree_pair5 (by with_reducible assumption) ?_) | split

theorem closeWhere_frame (k : Nat) (p : OpenUnit → Bool) (s : State) (hg : Agree m s₀ s) (h_mem : m.mem = true := by assumption)
    (h_str : m.str = true := by assumption) (h_comp : m.comp = true := by assumption) : Agree m s₀ (closeWhere k p s) := by
  unfold closeWhere
  try dsimp only
  repeat' first
    | (with_reducible first
        | assumption | apply closeNext_frame | apply closeUnit_frame | apply agree_foldl | apply agree_foldl_fst
        | apply agree_foldl_snd | apply agree_foldl_snd2)
    | intro _ | dsimp only | (refine agree_pair (by with_reducible assumption) ?_)
    | (refine agree_pair2 (by with_reducible assumption) ?_)
    | (refine agree_pair3 (by with_reducible assumption) ?_)
    | (refine agree_pair5 (by with_reducible assumption) ?_) | split

theorem closeAll_frame (k : Nat) (s : State) (hg : Agree m s₀ s) (h_mem : m.mem = true := by assumption)
    (h_str : m.str = true := by assumption) (h_comp : m.comp = true := by assumption) : Agree m s₀ (closeAll k s) := by
  unfold closeAll
  repeat' first
    | (with_reducible first
        | assumption | apply closeWhere_frame)
    | split

theorem auTimeout_frame (k : Nat) (s : State) (hg : Agree m s₀ s) (h_mem : m.mem = true := by assumption)
    (h_str : m.str = true := by assumption) (h_comp : m.comp = true := by assumption) : Agree m s₀ (auTimeout k s) := by
  unfold auTimeout
  try dsimp only
  repeat' first
    | (with_reducible first
        | assumption | apply closeWhere_frame | apply agree_foldl | apply agree_foldl_fst)
    | intro _ | dsimp only | split

theorem execAccessUnitHoldTimeout_frame (stream : Nat) (s : State) {s₁ : State} (he : execAccessUnitHoldTimeout stream s = .next s₁)
    (hg : Agree m s₀ s) (h_mem : m.mem = true := by assumption) (h_str : m.str = true := by assumption)
    (h_comp : m.comp = true := by assumption) : Agree m s₀ s₁ := by
  injection he with he
  subst he
  repeat' first
    | (with_reducible first
        | assumption | apply auTimeout_frame)
    | split

theorem windowTimeout_frame (k : Nat) (s : State) (hg : Agree m s₀ s) (h_mem : m.mem = true := by assumption)
    (h_str : m.str = true := by assumption) (h_comp : m.comp = true := by assumption) : Agree m s₀ (windowTimeout k s) := by
  unfold windowTimeout
  try dsimp only
  repeat' first
    | (with_reducible first
        | assumption | apply closeWhere_frame | apply agree_foldl | apply agree_foldl_fst | apply agree_foldl_snd
        | apply agree_foldl_snd2)
    | intro _ | dsimp only | (refine agree_pair (by with_reducible assumption) ?_)
    | (refine agree_pair2 (by with_reducible assumption) ?_)
    | (refine agree_pair3 (by with_reducible assumption) ?_)
    | (refine agree_pair5 (by with_reducible assumption) ?_) | split

theorem execReceptionWindowTimeout_frame (stream : Nat) (s : State) {s₁ : State} (he : execReceptionWindowTimeout stream s = .next s₁)
    (hg : Agree m s₀ s) (h_mem : m.mem = true := by assumption) (h_str : m.str = true := by assumption)
    (h_comp : m.comp = true := by assumption) : Agree m s₀ s₁ := by
  injection he with he
  subst he
  repeat' first
    | (with_reducible first
        | assumption | apply windowTimeout_frame)
    | split

theorem openUnit_frame (k : Nat) (h : RtpPkt) (arrival : Nat) (s : State) (hg : Agree m s₀ s) (h_str : m.str = true := by assumption)
    : Agree m s₀ (openUnit k h arrival s) := by
  unfold openUnit
  try dsimp only
  repeat' first
    | (with_reducible first
        | assumption | apply boundary_frame | apply strSet_frame | apply frameDrop_frame | apply agree_foldl
        | apply agree_foldl_fst | apply agree_foldl_snd | apply agree_foldl_snd2)
    | intro _ | dsimp only | (refine agree_pair (by with_reducible assumption) ?_)
    | (refine agree_pair2 (by with_reducible assumption) ?_)
    | (refine agree_pair3 (by with_reducible assumption) ?_)
    | (refine agree_pair5 (by with_reducible assumption) ?_) | split

theorem flowFmtErr_frame (n : Nat) (s : State) (hg : Agree m s₀ s) (h_net : m.net = true := by assumption) : Agree m s₀
    (flowFmtErr n s) := by
  unfold flowFmtErr
  repeat' first
    | (with_reducible first
        | assumption | apply withNet_frame)
    | split

theorem pathWhole_frame (k : Nat) (path : Nat) (u : OpenUnit) (s : State) (hg : Agree m s₀ s) (h_str : m.str = true := by assumption)
    : Agree m s₀ (pathWhole k path u s) := by
  unfold pathWhole
  repeat' first
    | (with_reducible first
        | assumption | apply pathSet_frame)
    | intro _ | dsimp only | split

theorem unitSettle_frame (k : Nat) (path : Nat) (ts : W32) (s : State) (hg : Agree m s₀ s) (h_mem : m.mem = true := by assumption)
    (h_str : m.str = true := by assumption) (h_comp : m.comp = true := by assumption) : Agree m s₀ (unitSettle k path ts s) := by
  unfold unitSettle
  try dsimp only
  repeat' first
    | (with_reducible first
        | assumption | apply pathWhole_frame | apply closeNext_frame | apply closeUnit_frame | apply agree_foldl
        | apply agree_foldl_fst | apply agree_foldl_snd | apply agree_foldl_snd2)
    | intro _ | dsimp only | (refine agree_pair (by with_reducible assumption) ?_)
    | (refine agree_pair2 (by with_reducible assumption) ?_)
    | (refine agree_pair3 (by with_reducible assumption) ?_)
    | (refine agree_pair5 (by with_reducible assumption) ?_) | split

theorem lateAdd_frame (port k path seq : Nat) (h : RtpPkt) (c : OpenUnit) (s : State) (hg : Agree m s₀ s)
    (h_net : m.net = true := by assumption) (h_str : m.str = true := by assumption) : Agree m s₀ (lateAdd port k path seq h c s) := by
  unfold lateAdd
  repeat' first
    | (with_reducible first
        | assumption | apply pathWhole_frame | apply strUpd_frame | apply netCount_frame)
    | intro _ | dsimp only | split

theorem unitTake_frame (port : Nat) (k : Nat) (path : Nat) (seq : Nat) (h : RtpPkt) (now : Nat) (s : State) (hg : Agree m s₀ s)
    (h_mem : m.mem = true := by assumption) (h_str : m.str = true := by assumption) (h_comp : m.comp = true := by assumption) : Agree m s₀
    (unitTake port k path seq h now s) := by
  unfold unitTake
  try dsimp only
  repeat' first
    | (with_reducible first
        | assumption | apply unitSettle_frame | apply strUpd_frame | apply agree_foldl | apply agree_foldl_fst
        | apply agree_foldl_snd | apply agree_foldl_snd2)
    | intro _ | dsimp only | (refine agree_pair (by with_reducible assumption) ?_)
    | (refine agree_pair2 (by with_reducible assumption) ?_)
    | (refine agree_pair3 (by with_reducible assumption) ?_)
    | (refine agree_pair5 (by with_reducible assumption) ?_) | split

theorem videoPacket_frame (port : Nat) (n : Nat) (flow : Flow) (h : RtpPkt) (arrival : Nat) (s : State) (hg : Agree m s₀ s)
    (h_mem : m.mem = true := by assumption) (h_net : m.net = true := by assumption) (h_str : m.str = true := by assumption)
    (h_comp : m.comp = true := by assumption) : Agree m s₀ (videoPacket port n flow h arrival s) := by
  unfold videoPacket
  try dsimp only
  repeat' first
    | (with_reducible first
        | assumption | apply flowFmtErr_frame | apply strUpd_frame | apply lateAdd_frame | apply unitTake_frame
        | apply openUnit_frame | apply netCount_frame | apply agree_foldl | apply agree_foldl_fst
        | apply agree_foldl_snd | apply agree_foldl_snd2)
    | intro _ | dsimp only | (refine agree_pair (by with_reducible assumption) ?_)
    | (refine agree_pair2 (by with_reducible assumption) ?_)
    | (refine agree_pair3 (by with_reducible assumption) ?_)
    | (refine agree_pair5 (by with_reducible assumption) ?_) | split

theorem hostFrame_frame (port : Nat) (f : EthFrame) (s : State) (hg : Agree m s₀ s) (h_net : m.net = true := by assumption) : Agree m s₀
    (hostFrame port f s) := by
  unfold hostFrame
  try dsimp only
  repeat' first
    | (with_reducible first
        | assumption | apply classDeliver_frame | apply netCount_frame | apply agree_foldl | apply agree_foldl_fst
        | apply agree_foldl_snd | apply agree_foldl_snd2)
    | intro _ | dsimp only | (refine agree_pair (by with_reducible assumption) ?_)
    | (refine agree_pair2 (by with_reducible assumption) ?_)
    | (refine agree_pair3 (by with_reducible assumption) ?_)
    | (refine agree_pair5 (by with_reducible assumption) ?_) | split

theorem routeFrame_frame (port : Nat) (f : EthFrame) (s : State) (hg : Agree m s₀ s) (h_mem : m.mem = true := by assumption)
    (h_net : m.net = true := by assumption) (h_str : m.str = true := by assumption) (h_comp : m.comp = true := by assumption) : Agree m s₀
    (routeFrame port f s) := by
  unfold routeFrame
  try dsimp only
  repeat' first
    | (with_reducible first
        | assumption | apply withNet_frame | apply classDeliver_frame | apply videoPacket_frame
        | apply flowFmtErr_frame | apply hostFrame_frame | apply agree_foldl | apply agree_foldl_fst
        | apply agree_foldl_snd | apply agree_foldl_snd2)
    | intro _ | dsimp only | (refine agree_pair (by with_reducible assumption) ?_)
    | (refine agree_pair2 (by with_reducible assumption) ?_)
    | (refine agree_pair3 (by with_reducible assumption) ?_)
    | (refine agree_pair5 (by with_reducible assumption) ?_) | split

theorem upsetsAdd_frame (us : List StageFault) (s : State) (hg : Agree m s₀ s) (h_str : m.str = true := by assumption) : Agree m s₀
    (upsetsAdd us s) := by
  unfold upsetsAdd
  try dsimp only
  repeat' first
    | (with_reducible first
        | assumption | apply withStr_frame | apply agree_foldl | apply agree_foldl_fst | apply agree_foldl_snd
        | apply agree_foldl_snd2)
    | intro _ | dsimp only | (refine agree_pair (by with_reducible assumption) ?_)
    | (refine agree_pair2 (by with_reducible assumption) ?_)
    | (refine agree_pair3 (by with_reducible assumption) ?_)
    | (refine agree_pair5 (by with_reducible assumption) ?_) | split

theorem ethReceive_frame (port : Nat) (f : EthFrame) (s : State) (hg : Agree m s₀ s) (h_mem : m.mem = true := by assumption)
    (h_net : m.net = true := by assumption) (h_str : m.str = true := by assumption) (h_comp : m.comp = true := by assumption) : Agree m s₀
    (ethReceive port f s) := by
  unfold ethReceive
  try dsimp only
  repeat' first
    | (with_reducible first
        | assumption | apply netCount_frame | apply raise_frame | apply upsetsAdd_frame | apply netUpd_frame
        | apply routeFrame_frame | apply agree_foldl | apply agree_foldl_fst | apply agree_foldl_snd
        | apply agree_foldl_snd2)
    | intro _ | dsimp only | (refine agree_pair (by with_reducible assumption) ?_)
    | (refine agree_pair2 (by with_reducible assumption) ?_)
    | (refine agree_pair3 (by with_reducible assumption) ?_)
    | (refine agree_pair5 (by with_reducible assumption) ?_) | split

theorem execEthFrameReceive_frame (port : Nat) (f : EthFrame) (s : State) {s₁ : State} (he : execEthFrameReceive port f s = .next s₁)
    (hg : Agree m s₀ s) (h_mem : m.mem = true := by assumption) (h_net : m.net = true := by assumption)
    (h_str : m.str = true := by assumption) (h_comp : m.comp = true := by assumption) : Agree m s₀ s₁ := by
  injection he with he
  subst he
  repeat' first
    | (with_reducible first
        | assumption | apply ethReceive_frame)
    | split

theorem execPathLossTimeout_frame (stream : Nat) (path : Nat) (s : State) {s₁ : State} (he : execPathLossTimeout stream path s = .next s₁)
    (hg : Agree m s₀ s) (h_str : m.str = true := by assumption) : Agree m s₀ s₁ := by
  injection he with he
  subst he
  repeat' first
    | (with_reducible first
        | assumption | apply pathLoss_frame)
    | split

theorem streamLinkDown_frame (port : Nat) (s : State) (k : Nat) (hg : Agree m s₀ s) (h_mem : m.mem = true := by assumption)
    (h_str : m.str = true := by assumption) (h_comp : m.comp = true := by assumption) : Agree m s₀ (streamLinkDown port s k) := by
  unfold streamLinkDown
  try dsimp only
  repeat' first
    | (with_reducible first
        | assumption | apply pathSet_frame | apply closeWhere_frame | apply agree_foldl | apply agree_foldl_fst
        | apply agree_foldl_snd | apply agree_foldl_snd2)
    | intro _ | dsimp only | (refine agree_pair (by with_reducible assumption) ?_)
    | (refine agree_pair2 (by with_reducible assumption) ?_)
    | (refine agree_pair3 (by with_reducible assumption) ?_)
    | (refine agree_pair5 (by with_reducible assumption) ?_) | split

theorem netLink_frame (port : Nat) (up : Bool) (s : State) (hg : Agree m s₀ s) (h_mem : m.mem = true := by assumption)
    (h_net : m.net = true := by assumption) (h_str : m.str = true := by assumption) (h_comp : m.comp = true := by assumption) : Agree m s₀
    (netLink port up s) := by
  unfold netLink
  try dsimp only
  repeat' first
    | (with_reducible first
        | assumption | apply raise_frame | apply netUpd_frame | apply streamLinkDown_frame | apply agree_foldl
        | apply agree_foldl_fst)
    | intro _ | dsimp only | split

theorem execNetLinkChange_frame (port : Nat) (up : Bool) (s : State) {s₁ : State} (he : execNetLinkChange port up s = .next s₁)
    (hg : Agree m s₀ s) (h_mem : m.mem = true := by assumption) (h_net : m.net = true := by assumption)
    (h_str : m.str = true := by assumption) (h_comp : m.comp = true := by assumption) : Agree m s₀ s₁ := by
  injection he with he
  subst he
  repeat' first
    | (with_reducible first
        | assumption | apply netLink_frame)
    | split

theorem statsStart_frame (p : Nat) (s : State) (hg : Agree m s₀ s) (h_net : m.net = true := by assumption) : Agree m s₀
    (statsStart p s) := by
  unfold statsStart
  try dsimp only
  repeat' first
    | (with_reducible first
        | assumption | apply netUpd_frame | apply withNet_frame | apply agree_foldl | apply agree_foldl_fst
        | apply agree_foldl_snd | apply agree_foldl_snd2)
    | intro _ | dsimp only | (refine agree_pair (by with_reducible assumption) ?_)
    | (refine agree_pair2 (by with_reducible assumption) ?_)
    | (refine agree_pair3 (by with_reducible assumption) ?_)
    | (refine agree_pair5 (by with_reducible assumption) ?_) | split

theorem portSet_frame (p : Nat) (en : Bool) (phy : Nat) (fec : Nat) (s : State) (hg : Agree m s₀ s)
    (h_mem : m.mem = true := by assumption) (h_net : m.net = true := by assumption) (h_str : m.str = true := by assumption)
    (h_comp : m.comp = true := by assumption) : Agree m s₀ (portSet p en phy fec s) := by
  unfold portSet
  try dsimp only
  repeat' first
    | (with_reducible first
        | assumption | apply statsStart_frame | apply netUpd_frame | apply netLink_frame | apply agree_foldl
        | apply agree_foldl_fst | apply agree_foldl_snd | apply agree_foldl_snd2)
    | intro _ | dsimp only | (refine agree_pair (by with_reducible assumption) ?_)
    | (refine agree_pair2 (by with_reducible assumption) ?_)
    | (refine agree_pair3 (by with_reducible assumption) ?_)
    | (refine agree_pair5 (by with_reducible assumption) ?_) | split

theorem portApply_frame (w2 : W32) (w3 : W32) (s : State) (hg : Agree m s₀ s) (h_mem : m.mem = true := by assumption)
    (h_net : m.net = true := by assumption) (h_str : m.str = true := by assumption) (h_comp : m.comp = true := by assumption) : Agree m s₀
    (portApply w2 w3 s) := by
  unfold portApply
  repeat' first
    | (with_reducible first
        | assumption | apply withNet_frame | apply portSet_frame)
    | split

theorem opNetPortSet_frame (c : Cmd) (s : State) (hg : Agree m s₀ s) (h_mem : m.mem = true := by assumption)
    (h_lane : m.lane = true := by assumption) (h_net : m.net = true := by assumption) (h_str : m.str = true := by assumption)
    (h_comp : m.comp = true := by assumption) : Agree m s₀ (opNetPortSet c s).1 := by
  unfold opNetPortSet
  try dsimp only
  repeat' first
    | (with_reducible first
        | assumption | apply checked_frame | apply laneEnable_frame | apply portApply_frame | apply agree_foldl
        | apply agree_foldl_fst)
    | intro _ | dsimp only | split

theorem execNetPortSet_frame (c : Cmd) (s : State) {s₁ : State} (he : execNetPortSet c s = .next s₁) (hg : Agree m s₀ s)
    (h_mem : m.mem = true := by assumption) (h_lane : m.lane = true := by assumption) (h_net : m.net = true := by assumption)
    (h_str : m.str = true := by assumption) (h_comp : m.comp = true := by assumption) : Agree m s₀ s₁ := by
  injection he with he
  subst he
  repeat' first
    | (with_reducible first
        | assumption | apply hostCommand_frame | apply opNetPortSet_frame | apply agree_foldl
        | apply agree_foldl_fst)
    | intro _ | dsimp only | split

theorem flowMoved_frame (old : Option Flow) (s : State) (hg : Agree m s₀ s) (h_mem : m.mem = true := by assumption)
    (h_str : m.str = true := by assumption) (h_comp : m.comp = true := by assumption) : Agree m s₀ (flowMoved old s) := by
  unfold flowMoved
  try dsimp only
  repeat' first
    | (with_reducible first
        | assumption | apply pathSet_frame | apply closeAll_frame | apply agree_foldl | apply agree_foldl_fst)
    | intro _ | dsimp only | split

theorem opFlowSet_frame (c : Cmd) (s : State) (hg : Agree m s₀ s) (h_mem : m.mem = true := by assumption)
    (h_net : m.net = true := by assumption) (h_str : m.str = true := by assumption) (h_comp : m.comp = true := by assumption) : Agree m s₀
    (opFlowSet c s).1 := by
  unfold opFlowSet
  try dsimp only
  repeat' first
    | (with_reducible first
        | assumption | apply checked_frame | apply flowMoved_frame | apply withNet_frame | apply settleMerge_frame
        | apply agree_foldl | apply agree_foldl_fst | apply agree_foldl_snd | apply agree_foldl_snd2)
    | intro _ | dsimp only | (refine agree_pair (by with_reducible assumption) ?_)
    | (refine agree_pair2 (by with_reducible assumption) ?_)
    | (refine agree_pair3 (by with_reducible assumption) ?_)
    | (refine agree_pair5 (by with_reducible assumption) ?_) | split

theorem execFlowSet_frame (c : Cmd) (s : State) {s₁ : State} (he : execFlowSet c s = .next s₁) (hg : Agree m s₀ s)
    (h_mem : m.mem = true := by assumption) (h_net : m.net = true := by assumption) (h_str : m.str = true := by assumption)
    (h_comp : m.comp = true := by assumption) : Agree m s₀ s₁ := by
  injection he with he
  subst he
  repeat' first
    | (with_reducible first
        | assumption | apply hostCommand_frame | apply opFlowSet_frame | apply agree_foldl | apply agree_foldl_fst)
    | intro _ | dsimp only | split

theorem opFlowClear_frame (c : Cmd) (s : State) (hg : Agree m s₀ s) (h_mem : m.mem = true := by assumption)
    (h_net : m.net = true := by assumption) (h_str : m.str = true := by assumption) (h_comp : m.comp = true := by assumption) : Agree m s₀
    (opFlowClear c s).1 := by
  unfold opFlowClear
  try dsimp only
  repeat' first
    | (with_reducible first
        | assumption | apply checked_frame | apply flowMoved_frame | apply withNet_frame | apply settleMerge_frame
        | apply agree_foldl | apply agree_foldl_fst)
    | intro _ | dsimp only | split

theorem execFlowClear_frame (c : Cmd) (s : State) {s₁ : State} (he : execFlowClear c s = .next s₁) (hg : Agree m s₀ s)
    (h_mem : m.mem = true := by assumption) (h_net : m.net = true := by assumption) (h_str : m.str = true := by assumption)
    (h_comp : m.comp = true := by assumption) : Agree m s₀ s₁ := by
  injection he with he
  subst he
  repeat' first
    | (with_reducible first
        | assumption | apply hostCommand_frame | apply opFlowClear_frame | apply agree_foldl
        | apply agree_foldl_fst)
    | intro _ | dsimp only | split

theorem ingestStats_frame (port : Nat) (s : State) (hg : Agree m s₀ s) (h_net : m.net = true := by assumption) : Agree m s₀
    (ingestStats port s) := by
  unfold ingestStats
  try dsimp only
  repeat' first
    | (with_reducible first
        | assumption | apply raise_frame | apply netUpd_frame | apply withNet_frame | apply agree_foldl
        | apply agree_foldl_fst)
    | intro _ | dsimp only | split

theorem execIngestStatsInterval_frame (port : Nat) (s : State) {s₁ : State} (he : execIngestStatsInterval port s = .next s₁)
    (hg : Agree m s₀ s) (h_net : m.net = true := by assumption) : Agree m s₀ s₁ := by
  injection he with he
  subst he
  repeat' first
    | (with_reducible first
        | assumption | apply ingestStats_frame)
    | split

theorem bbUpd_frame (n : Nat) (f : BbIn → BbIn) (s : State) (hg : Agree m s₀ s) (h_bb : m.bb = true := by assumption) : Agree m s₀
    (bbUpd n f s) := by
  unfold bbUpd
  repeat' first
    | (with_reducible first
        | assumption | apply bbSet_frame)
    | split

theorem opBbQuadSet_frame (c : Cmd) (s : State) (hg : Agree m s₀ s) (h_bb : m.bb = true := by assumption) : Agree m s₀
    (opBbQuadSet c s).1 := by
  unfold opBbQuadSet
  try dsimp only
  repeat' first
    | (with_reducible first
        | assumption | apply checked_frame | apply bbSet_frame | apply agree_foldl | apply agree_foldl_fst)
    | (simp only [agree_mk]; with_reducible refine agreeAt_bb (by assumption) ?_) | intro _ | dsimp only | split

theorem execBbQuadSet_frame (c : Cmd) (s : State) {s₁ : State} (he : execBbQuadSet c s = .next s₁) (hg : Agree m s₀ s)
    (h_bb : m.bb = true := by assumption) : Agree m s₀ s₁ := by
  injection he with he
  subst he
  repeat' first
    | (with_reducible first
        | assumption | apply hostCommand_frame | apply opBbQuadSet_frame | apply agree_foldl
        | apply agree_foldl_fst)
    | intro _ | dsimp only | split

theorem opBbDpcdLoad_frame (c : Cmd) (s : State) (hg : Agree m s₀ s) : Agree m s₀ (opBbDpcdLoad c s).1 := by
  unfold opBbDpcdLoad
  try dsimp only
  repeat' first
    | (with_reducible first
        | assumption | apply checked_frame | apply agree_foldl | apply agree_foldl_fst)
    | intro _ | dsimp only | split

theorem execBbDpcdLoad_frame (c : Cmd) (s : State) {s₁ : State} (he : execBbDpcdLoad c s = .next s₁) (hg : Agree m s₀ s)
    : Agree m s₀ s₁ := by
  injection he with he
  subst he
  repeat' first
    | (with_reducible first
        | assumption | apply hostCommand_frame | apply opBbDpcdLoad_frame)
    | split

theorem dpcdLoaded_frame (n : Nat) (which : Nat) (crc : Nat) (image : List Byte) (s : State) (hg : Agree m s₀ s)
    (h_bb : m.bb = true := by assumption) : Agree m s₀ (dpcdLoaded n which crc image s).1 := by
  unfold dpcdLoaded
  try dsimp only
  repeat' first
    | (with_reducible first
        | assumption | apply checked_frame | apply bbUpd_frame | apply agree_foldl | apply agree_foldl_fst)
    | intro _ | dsimp only | split

theorem bbLink_frame (n : Nat) (st : Nat) (s : State) (hg : Agree m s₀ s) : Agree m s₀ (bbLink n st s) := by
  unfold bbLink
  repeat' first
    | (with_reducible first
        | assumption | apply raise_frame)
    | split

theorem bbEnd_frame (n : Nat) (s : State) (hg : Agree m s₀ s) (h_bb : m.bb = true := by assumption)
    (h_str : m.str = true := by assumption) : Agree m s₀ (bbEnd n s) := by
  unfold bbEnd
  repeat' first
    | (with_reducible first
        | assumption | apply inputLost_frame | apply bbLink_frame | apply bbUpd_frame)
    | split

theorem bbOn_frame (n : Nat) (s : State) (hg : Agree m s₀ s) (h_bb : m.bb = true := by assumption) : Agree m s₀ (bbOn n s) := by
  unfold bbOn
  repeat' first
    | (with_reducible first
        | assumption | apply bbUpd_frame)
    | split

theorem opBbEnable_frame (c : Cmd) (s : State) (hg : Agree m s₀ s) (h_lane : m.lane = true := by assumption)
    (h_bb : m.bb = true := by assumption) : Agree m s₀ (opBbEnable c s).1 := by
  unfold opBbEnable
  try dsimp only
  repeat' first
    | (with_reducible first
        | assumption | apply checked_frame | apply laneEnable_frame | apply bbOn_frame | apply agree_foldl
        | apply agree_foldl_fst)
    | intro _ | dsimp only | split

theorem execBbEnable_frame (c : Cmd) (s : State) {s₁ : State} (he : execBbEnable c s = .next s₁) (hg : Agree m s₀ s)
    (h_lane : m.lane = true := by assumption) (h_bb : m.bb = true := by assumption) : Agree m s₀ s₁ := by
  injection he with he
  subst he
  repeat' first
    | (with_reducible first
        | assumption | apply hostCommand_frame | apply opBbEnable_frame | apply agree_foldl | apply agree_foldl_fst)
    | intro _ | dsimp only | split

theorem opBbDisable_frame (c : Cmd) (s : State) (hg : Agree m s₀ s) (h_bb : m.bb = true := by assumption)
    (h_str : m.str = true := by assumption) : Agree m s₀ (opBbDisable c s).1 := by
  unfold opBbDisable
  try dsimp only
  repeat' first
    | (with_reducible first
        | assumption | apply checked_frame | apply bbUpd_frame | apply bbEnd_frame | apply agree_foldl
        | apply agree_foldl_fst)
    | intro _ | dsimp only | split

theorem execBbDisable_frame (c : Cmd) (s : State) {s₁ : State} (he : execBbDisable c s = .next s₁) (hg : Agree m s₀ s)
    (h_bb : m.bb = true := by assumption) (h_str : m.str = true := by assumption) : Agree m s₀ s₁ := by
  injection he with he
  subst he
  repeat' first
    | (with_reducible first
        | assumption | apply hostCommand_frame | apply opBbDisable_frame | apply agree_foldl
        | apply agree_foldl_fst)
    | intro _ | dsimp only | split

theorem dpcdByte_frame (lanes : Nat) (i : BbIn) (a : Nat) (s : State) (hg : Agree m s₀ s) : Agree m s₀ (dpcdByte lanes i a s).2 := by
  unfold dpcdByte
  try dsimp only
  repeat' first
    | (with_reducible first
        | assumption | apply takeFree_frame | apply agree_foldl | apply agree_foldl_fst | apply agree_foldl_snd
        | apply agree_foldl_snd2)
    | intro _ | dsimp only | (refine agree_pair (by with_reducible assumption) ?_)
    | (refine agree_pair2 (by with_reducible assumption) ?_)
    | (refine agree_pair3 (by with_reducible assumption) ?_)
    | (refine agree_pair5 (by with_reducible assumption) ?_) | split

theorem dpcdBytes_frame (lanes : Nat) (i : BbIn) (n a : Nat) (s : State) (h : Agree m s₀ s) : Agree m s₀ (dpcdBytes lanes i n a s).2 := by
  induction n generalizing a s with
  | zero => exact h
  | succ n ih => exact ih _ _ (dpcdByte_frame _ _ _ _ h)

theorem powerWrite_frame (n : Nat) (b : Byte) (s : State) (hg : Agree m s₀ s) (h_bb : m.bb = true := by assumption) : Agree m s₀
    (powerWrite n b s) := by
  unfold powerWrite
  try dsimp only
  repeat' first
    | (with_reducible first
        | assumption | apply bbLink_frame | apply bbUpd_frame | apply agree_foldl | apply agree_foldl_fst)
    | intro _ | dsimp only | split

theorem i2cEnd_frame (n : Nat) (t : AuxTrans) (s : State) (hg : Agree m s₀ s) (h_bb : m.bb = true := by assumption) : Agree m s₀
    (i2cEnd n t s) := by
  unfold i2cEnd
  try dsimp only
  repeat' first
    | (with_reducible first
        | assumption | apply bbUpd_frame | apply agree_foldl | apply agree_foldl_fst | apply agree_foldl_snd
        | apply agree_foldl_snd2)
    | intro _ | dsimp only | (refine agree_pair (by with_reducible assumption) ?_)
    | (refine agree_pair2 (by with_reducible assumption) ?_)
    | (refine agree_pair3 (by with_reducible assumption) ?_)
    | (refine agree_pair5 (by with_reducible assumption) ?_) | split

theorem bbAux_frame (n : Nat) (t : AuxTrans) (s : State) (hg : Agree m s₀ s) (h_bb : m.bb = true := by assumption) : Agree m s₀
    (bbAux n t s) := by
  unfold bbAux
  try dsimp only
  repeat' first
    | (with_reducible first
        | assumption | apply bbUpd_frame | apply powerWrite_frame | apply send_frame | apply dpcdBytes_frame
        | apply i2cEnd_frame | apply agree_foldl | apply agree_foldl_fst | apply agree_foldl_snd
        | apply agree_foldl_snd2)
    | intro _ | dsimp only | (refine agree_pair (by with_reducible assumption) ?_)
    | (refine agree_pair2 (by with_reducible assumption) ?_)
    | (refine agree_pair3 (by with_reducible assumption) ?_)
    | (refine agree_pair5 (by with_reducible assumption) ?_) | split

theorem execBbAuxTransaction_frame (input : Nat) (t : AuxTrans) (s : State) {s₁ : State} (he : execBbAuxTransaction input t s = .next s₁)
    (hg : Agree m s₀ s) (h_bb : m.bb = true := by assumption) : Agree m s₀ s₁ := by
  injection he with he
  subst he
  repeat' first
    | (with_reducible first
        | assumption | apply bbAux_frame | apply agree_foldl | apply agree_foldl_fst)
    | intro _ | dsimp only | (refine agree_pair (by with_reducible assumption) ?_)
    | (refine agree_pair2 (by with_reducible assumption) ?_)
    | (refine agree_pair3 (by with_reducible assumption) ?_)
    | (refine agree_pair5 (by with_reducible assumption) ?_) | split

theorem bbTrained_frame (n : Nat) (lanes : Nat) (rate : Nat) (s : State) (hg : Agree m s₀ s) (h_bb : m.bb = true := by assumption)
    (h_str : m.str = true := by assumption) : Agree m s₀ (bbTrained n lanes rate s) := by
  unfold bbTrained
  try dsimp only
  repeat' first
    | (with_reducible first
        | assumption | apply bbLink_frame | apply bbUpd_frame | apply tryWaiting_frame | apply agree_foldl
        | apply agree_foldl_fst)
    | intro _ | dsimp only | split

theorem execBbLinkTrained_frame (input : Nat) (lanes : Nat) (rate : Nat) (s : State) {s₁ : State}
    (he : execBbLinkTrained input lanes rate s = .next s₁) (hg : Agree m s₀ s) (h_bb : m.bb = true := by assumption)
    (h_str : m.str = true := by assumption) : Agree m s₀ s₁ := by
  injection he with he
  subst he
  repeat' first
    | (with_reducible first
        | assumption | apply bbTrained_frame)
    | split

theorem bbLoss_frame (n : Nat) (lost : Bool) (s : State) (hg : Agree m s₀ s) (h_bb : m.bb = true := by assumption)
    (h_str : m.str = true := by assumption) : Agree m s₀ (bbLoss n lost s) := by
  unfold bbLoss
  try dsimp only
  repeat' first
    | (with_reducible first
        | assumption | apply send_frame | apply bbEnd_frame | apply bbLink_frame | apply agree_foldl
        | apply agree_foldl_fst | apply agree_foldl_snd | apply agree_foldl_snd2)
    | intro _ | dsimp only | (refine agree_pair (by with_reducible assumption) ?_)
    | (refine agree_pair2 (by with_reducible assumption) ?_)
    | (refine agree_pair3 (by with_reducible assumption) ?_)
    | (refine agree_pair5 (by with_reducible assumption) ?_) | split

theorem execBbLinkLoss_frame (l : BbLoss) (s : State) {s₁ : State} (he : execBbLinkLoss l s = .next s₁)
    (hg : Agree m s₀ s) (h_bb : m.bb = true := by assumption) (h_str : m.str = true := by assumption) : Agree m s₀ s₁ := by
  injection he with he
  subst he
  repeat' first
    | (with_reducible first
        | assumption | apply bbLoss_frame | apply agree_foldl | apply agree_foldl_fst | apply agree_foldl_snd
        | apply agree_foldl_snd2)
    | intro _ | dsimp only | (refine agree_pair (by with_reducible assumption) ?_)
    | (refine agree_pair2 (by with_reducible assumption) ?_)
    | (refine agree_pair3 (by with_reducible assumption) ?_)
    | (refine agree_pair5 (by with_reducible assumption) ?_) | split

theorem formatEvent_frame (n : Nat) (bad : Bool) (f : BbFrame) (s : State) (hg : Agree m s₀ s) (h_bb : m.bb = true := by assumption)
    : Agree m s₀ (formatEvent n bad f s) := by
  unfold formatEvent
  repeat' first
    | (with_reducible first
        | assumption | apply raise_frame | apply bbUpd_frame)
    | split

theorem bbStitches_frame (k : Nat) (f : BbFrame) (prev : Option SrcFrame) (due : Nat → Nat → Nat) (x4 : List (Nat × Nat)) (x5 : State)
    (hg : Agree m s₀ x5) (h_mem : m.mem = true := by assumption) (h_str : m.str = true := by assumption) : Agree m s₀
    (bbStitches k f prev due x4 x5).2.2 := by
  induction x4 generalizing x5 with
  | nil =>
    unfold bbStitches
    try dsimp only
    repeat' first
      | (with_reducible first
          | assumption | apply prevStitch_frame | apply agree_foldl | apply agree_foldl_fst | apply agree_foldl_snd
          | apply agree_foldl_snd2)
      | intro _ | dsimp only | (refine agree_pair (by with_reducible assumption) ?_)
      | (refine agree_pair2 (by with_reducible assumption) ?_)
      | (refine agree_pair3 (by with_reducible assumption) ?_)
      | (refine agree_pair5 (by with_reducible assumption) ?_) | split
  | cons _ _ ih =>
    unfold bbStitches
    try dsimp only
    repeat' first
      | (with_reducible first
          | assumption | apply ih | apply prevStitch_frame | apply agree_foldl | apply agree_foldl_fst | apply agree_foldl_snd
          | apply agree_foldl_snd2)
      | intro _ | dsimp only | (refine agree_pair (by with_reducible assumption) ?_)
      | (refine agree_pair2 (by with_reducible assumption) ?_)
      | (refine agree_pair3 (by with_reducible assumption) ?_)
      | (refine agree_pair5 (by with_reducible assumption) ?_) | split

theorem bbStore_frame (n : Nat) (k : Nat) (f : BbFrame) (s : State) (hg : Agree m s₀ s) (h_mem : m.mem = true := by assumption)
    (h_str : m.str = true := by assumption) (h_comp : m.comp = true := by assumption) : Agree m s₀ (bbStore n k f s) := by
  unfold bbStore
  try dsimp only
  repeat' first
    | (with_reducible first
        | assumption | apply boundary_frame | apply strUpd_frame | apply frameDrop_frame | apply bbStitches_frame
        | apply acceptFrame_frame | apply agree_foldl | apply agree_foldl_fst | apply agree_foldl_snd
        | apply agree_foldl_snd2)
    | intro _ | dsimp only | (refine agree_pair (by with_reducible assumption) ?_)
    | (refine agree_pair2 (by with_reducible assumption) ?_)
    | (refine agree_pair3 (by with_reducible assumption) ?_)
    | (refine agree_pair5 (by with_reducible assumption) ?_) | split

theorem bbFrame_frame (n : Nat) (f : BbFrame) (s : State) (hg : Agree m s₀ s) (h_mem : m.mem = true := by assumption)
    (h_bb : m.bb = true := by assumption) (h_str : m.str = true := by assumption) (h_comp : m.comp = true := by assumption) : Agree m s₀
    (bbFrame n f s) := by
  unfold bbFrame
  try dsimp only
  repeat' first
    | (with_reducible first
        | assumption | apply formatEvent_frame | apply bbStore_frame | apply bbUpd_frame | apply agree_foldl
        | apply agree_foldl_fst | apply agree_foldl_snd | apply agree_foldl_snd2)
    | intro _ | dsimp only | (refine agree_pair (by with_reducible assumption) ?_)
    | (refine agree_pair2 (by with_reducible assumption) ?_)
    | (refine agree_pair3 (by with_reducible assumption) ?_)
    | (refine agree_pair5 (by with_reducible assumption) ?_) | split

theorem execBbFrameArrival_frame (input : Nat) (f : BbFrame) (s : State) {s₁ : State} (he : execBbFrameArrival input f s = .next s₁)
    (hg : Agree m s₀ s) (h_mem : m.mem = true := by assumption) (h_bb : m.bb = true := by assumption)
    (h_str : m.str = true := by assumption) (h_comp : m.comp = true := by assumption) : Agree m s₀ s₁ := by
  injection he with he
  subst he
  repeat' first
    | (with_reducible first
        | assumption | apply bbFrame_frame)
    | split

theorem engSet_frame (n : Nat) (x : Engine) (s : State) (hg : Agree m s₀ s) (h_str : m.str = true := by assumption) : Agree m s₀
    (engSet n x s) := by
  unfold engSet
  repeat' first
    | (with_reducible first
        | assumption | apply withStr_frame)
    | split

theorem engUpd_frame (n : Nat) (f : Engine → Engine) (s : State) (hg : Agree m s₀ s) (h_str : m.str = true := by assumption) : Agree m s₀
    (engUpd n f s) := by
  unfold engUpd
  repeat' first
    | (with_reducible first
        | assumption | apply engSet_frame)
    | split

theorem startJob_frame (k : Nat) (engines : List Nat) (borrowed : Bool) (s : State) (hg : Agree m s₀ s)
    (h_str : m.str = true := by assumption) : Agree m s₀ (startJob k engines borrowed s) := by
  unfold startJob
  try dsimp only
  repeat' first
    | (with_reducible first
        | assumption | apply strSet_frame | apply engUpd_frame | apply agree_foldl | apply agree_foldl_fst
        | apply agree_foldl_snd | apply agree_foldl_snd2)
    | intro _ | dsimp only | (refine agree_pair (by with_reducible assumption) ?_)
    | (refine agree_pair2 (by with_reducible assumption) ?_)
    | (refine agree_pair3 (by with_reducible assumption) ?_)
    | (refine agree_pair5 (by with_reducible assumption) ?_) | split

theorem resumeJob_frame (n : Nat) (j : Job) (s : State) (hg : Agree m s₀ s) (h_str : m.str = true := by assumption) : Agree m s₀
    (resumeJob n j s) := by
  unfold resumeJob
  repeat' first
    | (with_reducible first
        | assumption | apply engUpd_frame)
    | split

theorem takePick_frame (n : Nat) (borrowed : Bool) (p : Pick) (s : State) (hg : Agree m s₀ s) (h_str : m.str = true := by assumption)
    : Agree m s₀ (takePick n borrowed p s) := by
  unfold takePick
  try dsimp only
  repeat' first
    | (with_reducible first
        | assumption | apply startJob_frame | apply resumeJob_frame | apply agree_foldl | apply agree_foldl_fst
        | apply agree_foldl_snd | apply agree_foldl_snd2)
    | intro _ | dsimp only | (refine agree_pair (by with_reducible assumption) ?_)
    | (refine agree_pair2 (by with_reducible assumption) ?_)
    | (refine agree_pair3 (by with_reducible assumption) ?_)
    | (refine agree_pair5 (by with_reducible assumption) ?_) | split

theorem borrow_frame (n : Nat) (s : State) (hg : Agree m s₀ s) (h_str : m.str = true := by assumption) : Agree m s₀ (borrow n s) := by
  unfold borrow
  try dsimp only
  repeat' first
    | (with_reducible first
        | assumption | apply takePick_frame | apply agree_foldl | apply agree_foldl_fst | apply agree_foldl_snd
        | apply agree_foldl_snd2)
    | intro _ | dsimp only | (refine agree_pair (by with_reducible assumption) ?_)
    | (refine agree_pair2 (by with_reducible assumption) ?_)
    | (refine agree_pair3 (by with_reducible assumption) ?_)
    | (refine agree_pair5 (by with_reducible assumption) ?_) | split

theorem dispatch_frame (n : Nat) (s : State) (hg : Agree m s₀ s) (h_str : m.str = true := by assumption) : Agree m s₀ (dispatch n s) := by
  unfold dispatch
  try dsimp only
  repeat' first
    | (with_reducible first
        | assumption | apply startJob_frame | apply borrow_frame | apply takePick_frame | apply resumeJob_frame
        | apply agree_foldl | apply agree_foldl_fst | apply agree_foldl_snd | apply agree_foldl_snd2)
    | intro _ | dsimp only | (refine agree_pair (by with_reducible assumption) ?_)
    | (refine agree_pair2 (by with_reducible assumption) ?_)
    | (refine agree_pair3 (by with_reducible assumption) ?_)
    | (refine agree_pair5 (by with_reducible assumption) ?_) | split

theorem execDecodeDispatch_frame (engine : Nat) (s : State) {s₁ : State} (he : execDecodeDispatch engine s = .next s₁) (hg : Agree m s₀ s)
    (h_str : m.str = true := by assumption) : Agree m s₀ s₁ := by
  injection he with he
  subst he
  repeat' first
    | (with_reducible first
        | assumption | apply dispatch_frame)
    | split

theorem preemptHeld_frame (n : Nat) (j : Job) (s : State) (hg : Agree m s₀ s) (h_str : m.str = true := by assumption) : Agree m s₀
    (preemptHeld n j s) := by
  unfold preemptHeld
  repeat' first
    | (with_reducible first
        | assumption | apply engUpd_frame)
    | split

theorem preemptPool_frame (j : Job) (s : State) (hg : Agree m s₀ s) (h_str : m.str = true := by assumption) : Agree m s₀
    (preemptPool j s) := by
  unfold preemptPool
  try dsimp only
  repeat' first
    | (with_reducible first
        | assumption | apply strUpd_frame | apply engUpd_frame | apply agree_foldl | apply agree_foldl_fst
        | apply agree_foldl_snd | apply agree_foldl_snd2)
    | intro _ | dsimp only | (refine agree_pair (by with_reducible assumption) ?_)
    | (refine agree_pair2 (by with_reducible assumption) ?_)
    | (refine agree_pair3 (by with_reducible assumption) ?_)
    | (refine agree_pair5 (by with_reducible assumption) ?_) | split

theorem blockRow_frame (n : Nat) (s : State) (hg : Agree m s₀ s) (h_str : m.str = true := by assumption) : Agree m s₀ (blockRow n s) := by
  unfold blockRow
  try dsimp only
  repeat' first
    | (with_reducible first
        | assumption | apply dispatch_frame | apply preemptHeld_frame | apply preemptPool_frame | apply agree_foldl
        | apply agree_foldl_fst | apply agree_foldl_snd | apply agree_foldl_snd2)
    | intro _ | dsimp only | (refine agree_pair (by with_reducible assumption) ?_)
    | (refine agree_pair2 (by with_reducible assumption) ?_)
    | (refine agree_pair3 (by with_reducible assumption) ?_)
    | (refine agree_pair5 (by with_reducible assumption) ?_) | split

theorem execBlockRowBoundary_frame (engine : Nat) (s : State) {s₁ : State} (he : execBlockRowBoundary engine s = .next s₁)
    (hg : Agree m s₀ s) (h_str : m.str = true := by assumption) : Agree m s₀ s₁ := by
  injection he with he
  subst he
  repeat' first
    | (with_reducible first
        | assumption | apply blockRow_frame)
    | split

theorem coreState_frame (n : Nat) (st : Nat) (cause : Nat) (shed : Nat) (s : State) (hg : Agree m s₀ s) : Agree m s₀
    (coreState n st cause shed s) := by
  unfold coreState
  repeat' first
    | (with_reducible first
        | assumption | apply raise_frame)
    | split

theorem settleHomes_frame (s : State) (hg : Agree m s₀ s) (h_str : m.str = true := by assumption) : Agree m s₀ (settleHomes s).1 := by
  unfold settleHomes
  try dsimp only
  repeat' first
    | (with_reducible first
        | assumption | apply strUpd_frame | apply agree_foldl | apply agree_foldl_fst | apply agree_foldl_snd
        | apply agree_foldl_snd2)
    | intro _ | dsimp only | (refine agree_pair (by with_reducible assumption) ?_)
    | (refine agree_pair2 (by with_reducible assumption) ?_)
    | (refine agree_pair3 (by with_reducible assumption) ?_)
    | (refine agree_pair5 (by with_reducible assumption) ?_) | split

theorem shedLoop_frame (x0 : Nat) (x1 : Nat) (x2 : State) (hg : Agree m s₀ x2) (h_str : m.str = true := by assumption) : Agree m s₀
    (shedLoop x0 x1 x2).1 := by
  induction x0 generalizing x1 x2 with
  | zero =>
    unfold shedLoop
    try dsimp only
    repeat' first
      | (with_reducible first
          | assumption | apply settleHomes_frame | apply setStream_frame | apply strUpd_frame | apply withStr_frame
          | apply agree_foldl | apply agree_foldl_fst | apply agree_foldl_snd | apply agree_foldl_snd2)
      | intro _ | dsimp only | (refine agree_pair (by with_reducible assumption) ?_)
      | (refine agree_pair2 (by with_reducible assumption) ?_)
      | (refine agree_pair3 (by with_reducible assumption) ?_)
      | (refine agree_pair5 (by with_reducible assumption) ?_) | split
  | succ _ ih =>
    unfold shedLoop
    try dsimp only
    repeat' first
      | (with_reducible first
          | assumption | apply ih | apply settleHomes_frame | apply setStream_frame | apply strUpd_frame | apply withStr_frame
          | apply agree_foldl | apply agree_foldl_fst | apply agree_foldl_snd | apply agree_foldl_snd2)
      | intro _ | dsimp only | (refine agree_pair (by with_reducible assumption) ?_)
      | (refine agree_pair2 (by with_reducible assumption) ?_)
      | (refine agree_pair3 (by with_reducible assumption) ?_)
      | (refine agree_pair5 (by with_reducible assumption) ?_) | split

theorem retireDone_frame (n : Nat) (cause : Nat) (s : State) (hg : Agree m s₀ s) (h_str : m.str = true := by assumption) : Agree m s₀
    (retireDone n cause s) := by
  unfold retireDone
  try dsimp only
  repeat' first
    | (with_reducible first
        | assumption | apply engUpd_frame | apply preemptPool_frame | apply shedLoop_frame | apply coreState_frame
        | apply agree_foldl | apply agree_foldl_fst)
    | intro _ | dsimp only | split

theorem retireStep_frame (n : Nat) (s : State) (hg : Agree m s₀ s) (h_str : m.str = true := by assumption) : Agree m s₀
    (retireStep n s) := by
  unfold retireStep
  try dsimp only
  repeat' first
    | (with_reducible first
        | assumption | apply resumeJob_frame | apply retireDone_frame | apply agree_foldl | apply agree_foldl_fst
        | apply agree_foldl_snd | apply agree_foldl_snd2)
    | intro _ | dsimp only | (refine agree_pair (by with_reducible assumption) ?_)
    | (refine agree_pair2 (by with_reducible assumption) ?_)
    | (refine agree_pair3 (by with_reducible assumption) ?_)
    | (refine agree_pair5 (by with_reducible assumption) ?_) | split

theorem opCoreRetire_frame (c : Cmd) (s : State) (hg : Agree m s₀ s) (h_str : m.str = true := by assumption) : Agree m s₀
    (opCoreRetire c s).1 := by
  unfold opCoreRetire
  try dsimp only
  repeat' first
    | (with_reducible first
        | assumption | apply checked_frame | apply coreState_frame | apply engUpd_frame | apply retireStep_frame
        | apply agree_foldl | apply agree_foldl_fst | apply agree_foldl_snd | apply agree_foldl_snd2)
    | intro _ | dsimp only | (refine agree_pair (by with_reducible assumption) ?_)
    | (refine agree_pair2 (by with_reducible assumption) ?_)
    | (refine agree_pair3 (by with_reducible assumption) ?_)
    | (refine agree_pair5 (by with_reducible assumption) ?_) | split

theorem execCoreRetire_frame (c : Cmd) (s : State) {s₁ : State} (he : execCoreRetire c s = .next s₁) (hg : Agree m s₀ s)
    (h_str : m.str = true := by assumption) : Agree m s₀ s₁ := by
  injection he with he
  subst he
  repeat' first
    | (with_reducible first
        | assumption | apply hostCommand_frame | apply opCoreRetire_frame | apply agree_foldl
        | apply agree_foldl_fst)
    | intro _ | dsimp only | split

theorem opCoreReturn_frame (c : Cmd) (s : State) (hg : Agree m s₀ s) (h_str : m.str = true := by assumption) : Agree m s₀
    (opCoreReturn c s).1 := by
  unfold opCoreReturn
  try dsimp only
  repeat' first
    | (with_reducible first
        | assumption | apply checked_frame | apply coreState_frame | apply engUpd_frame | apply agree_foldl
        | apply agree_foldl_fst)
    | intro _ | dsimp only | split

theorem execCoreReturn_frame (c : Cmd) (s : State) {s₁ : State} (he : execCoreReturn c s = .next s₁) (hg : Agree m s₀ s)
    (h_str : m.str = true := by assumption) : Agree m s₀ s₁ := by
  injection he with he
  subst he
  repeat' first
    | (with_reducible first
        | assumption | apply hostCommand_frame | apply opCoreReturn_frame | apply agree_foldl
        | apply agree_foldl_fst)
    | intro _ | dsimp only | split

theorem coreTested_frame (n : Nat) (pass : Bool) (s : State) (hg : Agree m s₀ s) (h_str : m.str = true := by assumption) : Agree m s₀
    (coreTested n pass s) := by
  unfold coreTested
  repeat' first
    | (with_reducible first
        | assumption | apply readmit_frame | apply coreState_frame | apply engSet_frame | apply engUpd_frame)
    | split

theorem execCoreSelftestDone_frame (engine : Nat) (pass : Bool) (s : State) {s₁ : State}
    (he : execCoreSelftestDone engine pass s = .next s₁) (hg : Agree m s₀ s) (h_str : m.str = true := by assumption) : Agree m s₀ s₁ := by
  injection he with he
  subst he
  repeat' first
    | (with_reducible first
        | assumption | apply coreTested_frame)
    | split

theorem takeFrees_frame (x0 : Nat) (x1 : State) (hg : Agree m s₀ x1) : Agree m s₀ (takeFrees x0 x1).2 := by
  induction x0 generalizing x1 with
  | zero =>
    unfold takeFrees
    try dsimp only
    repeat' first
      | (with_reducible first
          | assumption | apply takeFree_frame | apply agree_foldl | apply agree_foldl_fst | apply agree_foldl_snd
          | apply agree_foldl_snd2)
      | intro _ | dsimp only | (refine agree_pair (by with_reducible assumption) ?_)
      | (refine agree_pair2 (by with_reducible assumption) ?_)
      | (refine agree_pair3 (by with_reducible assumption) ?_)
      | (refine agree_pair5 (by with_reducible assumption) ?_) | split
  | succ _ ih =>
    unfold takeFrees
    try dsimp only
    repeat' first
      | (with_reducible first
          | assumption | apply ih | apply takeFree_frame | apply agree_foldl | apply agree_foldl_fst | apply agree_foldl_snd
          | apply agree_foldl_snd2)
      | intro _ | dsimp only | (refine agree_pair (by with_reducible assumption) ?_)
      | (refine agree_pair2 (by with_reducible assumption) ?_)
      | (refine agree_pair3 (by with_reducible assumption) ?_)
      | (refine agree_pair5 (by with_reducible assumption) ?_) | split

theorem rowDiffs_frame (k : Nat) (p : DecPic) (prev : Option SrcFrame) (s : State) (hg : Agree m s₀ s) : Agree m s₀
    (rowDiffs k p prev s).2 := by
  unfold rowDiffs
  try dsimp only
  repeat' first
    | (with_reducible first
        | assumption | apply takeFrees_frame | apply agree_foldl | apply agree_foldl_fst | apply agree_foldl_snd
        | apply agree_foldl_snd2)
    | intro _ | dsimp only | (refine agree_pair (by with_reducible assumption) ?_)
    | (refine agree_pair2 (by with_reducible assumption) ?_)
    | (refine agree_pair3 (by with_reducible assumption) ?_)
    | (refine agree_pair5 (by with_reducible assumption) ?_) | split

theorem statWrite_frame (k : Nat) (num : Nat) (p : DecPic) (origin : Nat) (tainted : Nat) (prev : Option SrcFrame) (s : State)
    (hg : Agree m s₀ s) (h_str : m.str = true := by assumption) : Agree m s₀ (statWrite k num p origin tainted prev s) := by
  unfold statWrite
  try dsimp only
  repeat' first
    | (with_reducible first
        | assumption | apply rowDiffs_frame | apply send_frame | apply strUpd_frame | apply agree_foldl
        | apply agree_foldl_fst | apply agree_foldl_snd | apply agree_foldl_snd2)
    | intro _ | dsimp only | (refine agree_pair (by with_reducible assumption) ?_)
    | (refine agree_pair2 (by with_reducible assumption) ?_)
    | (refine agree_pair3 (by with_reducible assumption) ?_)
    | (refine agree_pair5 (by with_reducible assumption) ?_) | split

theorem decodeError_frame (k : Nat) (cause : Nat) (n : Nat) (au : Nat) (count : Nat) (s : State) (hg : Agree m s₀ s) : Agree m s₀
    (decodeError k cause n au count s) := by
  unfold decodeError
  repeat' first
    | (with_reducible first
        | assumption | apply raise_frame)
    | split

theorem fetchRefs_frame (n : Nat) (us : List StageFault) (surf : Nat → Option Surf) (missing : Nat → Bool) (x4 : List (Nat × Nat × Nat))
    (x5 : State) (hg : Agree m s₀ x5) (h_mem : m.mem = true := by assumption) (h_str : m.str = true := by assumption) : Agree m s₀
    (fetchRefs n us surf missing x4 x5).2.2 := by
  induction x4 generalizing x5 with
  | nil =>
    unfold fetchRefs
    try dsimp only
    repeat' first
      | (with_reducible first
          | assumption | apply fetchStitch_frame | apply agree_foldl | apply agree_foldl_fst | apply agree_foldl_snd
          | apply agree_foldl_snd2)
      | intro _ | dsimp only | (refine agree_pair (by with_reducible assumption) ?_)
      | (refine agree_pair2 (by with_reducible assumption) ?_)
      | (refine agree_pair3 (by with_reducible assumption) ?_)
      | (refine agree_pair5 (by with_reducible assumption) ?_) | split
  | cons _ _ ih =>
    unfold fetchRefs
    try dsimp only
    repeat' first
      | (with_reducible first
          | assumption | apply ih | apply fetchStitch_frame | apply agree_foldl | apply agree_foldl_fst | apply agree_foldl_snd
          | apply agree_foldl_snd2)
      | intro _ | dsimp only | (refine agree_pair (by with_reducible assumption) ?_)
      | (refine agree_pair2 (by with_reducible assumption) ?_)
      | (refine agree_pair3 (by with_reducible assumption) ?_)
      | (refine agree_pair5 (by with_reducible assumption) ?_) | split

theorem concealCells_frame (n : Nat) (us : List StageFault) (near : Option Surf) (fmt : Nat) (w : Nat) (h : Nat) (x6 : List (Nat × Nat))
    (x7 : State) (hg : Agree m s₀ x7) (h_mem : m.mem = true := by assumption) (h_str : m.str = true := by assumption) : Agree m s₀
    (concealCells n us near fmt w h x6 x7).2.2.2 := by
  induction x6 generalizing x7 with
  | nil =>
    unfold concealCells
    try dsimp only
    repeat' first
      | (with_reducible first
          | assumption | apply fetchStitch_frame | apply agree_foldl | apply agree_foldl_fst | apply agree_foldl_snd
          | apply agree_foldl_snd2)
      | intro _ | dsimp only | (refine agree_pair (by with_reducible assumption) ?_)
      | (refine agree_pair2 (by with_reducible assumption) ?_)
      | (refine agree_pair3 (by with_reducible assumption) ?_)
      | (refine agree_pair5 (by with_reducible assumption) ?_) | split
  | cons _ _ ih =>
    unfold concealCells
    try dsimp only
    repeat' first
      | (with_reducible first
          | assumption | apply ih | apply fetchStitch_frame | apply agree_foldl | apply agree_foldl_fst | apply agree_foldl_snd
          | apply agree_foldl_snd2)
      | intro _ | dsimp only | (refine agree_pair (by with_reducible assumption) ?_)
      | (refine agree_pair2 (by with_reducible assumption) ?_)
      | (refine agree_pair3 (by with_reducible assumption) ?_)
      | (refine agree_pair5 (by with_reducible assumption) ?_) | split

theorem writePicture_frame (core : Nat → Nat → Nat) (us : List StageFault) (f : Surf) (due : Nat → Nat → Nat) (flags : Nat × Nat → Nat)
    (crcs : List W32) (cells : List (List Byte)) (x7 : List (Nat × Nat)) (x8 : Nat) (x9 : State) (hg : Agree m s₀ x9)
    (h_mem : m.mem = true := by assumption) : Agree m s₀ (writePicture core us f due flags crcs cells x7 x8 x9).2 := by
  induction x7 generalizing x8 x9 with
  | nil =>
    unfold writePicture
    try dsimp only
    repeat' first
      | (with_reducible first
          | assumption | apply writeStitch_frame | apply agree_foldl | apply agree_foldl_fst | apply agree_foldl_snd
          | apply agree_foldl_snd2)
      | intro _ | dsimp only | (refine agree_pair (by with_reducible assumption) ?_)
      | (refine agree_pair2 (by with_reducible assumption) ?_)
      | (refine agree_pair3 (by with_reducible assumption) ?_)
      | (refine agree_pair5 (by with_reducible assumption) ?_) | split
  | cons _ _ ih =>
    unfold writePicture
    try dsimp only
    repeat' first
      | (with_reducible first
          | assumption | apply ih | apply writeStitch_frame | apply agree_foldl | apply agree_foldl_fst | apply agree_foldl_snd
          | apply agree_foldl_snd2)
      | intro _ | dsimp only | (refine agree_pair (by with_reducible assumption) ?_)
      | (refine agree_pair2 (by with_reducible assumption) ?_)
      | (refine agree_pair3 (by with_reducible assumption) ?_)
      | (refine agree_pair5 (by with_reducible assumption) ?_) | split

theorem engineFaults_frame (k : Nat) (num : Nat) (writer : Nat) (l : List PicFault) (s : State) (hg : Agree m s₀ s)
    (h_str : m.str = true := by assumption) : Agree m s₀ (engineFaults k num writer l s) := by
  unfold engineFaults
  try dsimp only
  repeat' first
    | (with_reducible first
        | assumption | apply custodyReport_frame | apply agree_foldl | apply agree_foldl_fst
        | apply agree_foldl_snd | apply agree_foldl_snd2)
    | intro _ | dsimp only | (refine agree_pair (by with_reducible assumption) ?_)
    | (refine agree_pair2 (by with_reducible assumption) ?_)
    | (refine agree_pair3 (by with_reducible assumption) ?_)
    | (refine agree_pair5 (by with_reducible assumption) ?_) | split

theorem showPicture_frame (k : Nat) (d : Nat) (us : List StageFault) (au : AccUnit) (s : State) (hg : Agree m s₀ s)
    (h_mem : m.mem = true := by assumption) (h_str : m.str = true := by assumption) (h_comp : m.comp = true := by assumption) : Agree m s₀
    (showPicture k d us au s) := by
  unfold showPicture
  try dsimp only
  repeat' first
    | (with_reducible first
        | assumption | apply strUpd_frame | apply acceptFrame_frame | apply engineFaults_frame
        | apply statWrite_frame | apply agree_foldl | apply agree_foldl_fst | apply agree_foldl_snd
        | apply agree_foldl_snd2)
    | intro _ | dsimp only | (refine agree_pair (by with_reducible assumption) ?_)
    | (refine agree_pair2 (by with_reducible assumption) ?_)
    | (refine agree_pair3 (by with_reducible assumption) ?_)
    | (refine agree_pair5 (by with_reducible assumption) ?_) | split

theorem bump_frame (k : Nat) (keep : Nat) (us : List StageFault) (au : AccUnit) (x4 : Nat) (x5 : State) (hg : Agree m s₀ x5)
    (h_mem : m.mem = true := by assumption) (h_str : m.str = true := by assumption) (h_comp : m.comp = true := by assumption) : Agree m s₀
    (bump k keep us au x4 x5) := by
  induction x4 generalizing x5 with
  | zero =>
    unfold bump
    try dsimp only
    repeat' first
      | (with_reducible first
          | assumption | apply showPicture_frame | apply agree_foldl | apply agree_foldl_fst | apply agree_foldl_snd
          | apply agree_foldl_snd2)
      | intro _ | dsimp only | (refine agree_pair (by with_reducible assumption) ?_)
      | (refine agree_pair2 (by with_reducible assumption) ?_)
      | (refine agree_pair3 (by with_reducible assumption) ?_)
      | (refine agree_pair5 (by with_reducible assumption) ?_) | split
  | succ _ ih =>
    unfold bump
    try dsimp only
    repeat' first
      | (with_reducible first
          | assumption | apply ih | apply showPicture_frame | apply agree_foldl | apply agree_foldl_fst | apply agree_foldl_snd
          | apply agree_foldl_snd2)
      | intro _ | dsimp only | (refine agree_pair (by with_reducible assumption) ?_)
      | (refine agree_pair2 (by with_reducible assumption) ?_)
      | (refine agree_pair3 (by with_reducible assumption) ?_)
      | (refine agree_pair5 (by with_reducible assumption) ?_) | split

theorem endJob_frame (j : Job) (s : State) (hg : Agree m s₀ s) (h_str : m.str = true := by assumption) : Agree m s₀ (endJob j s) := by
  unfold endJob
  try dsimp only
  repeat' first
    | (with_reducible first
        | assumption | apply auWait_frame | apply strUpd_frame | apply engUpd_frame | apply retireStep_frame
        | apply agree_foldl | apply agree_foldl_fst | apply agree_foldl_snd | apply agree_foldl_snd2)
    | intro _ | dsimp only | (refine agree_pair (by with_reducible assumption) ?_)
    | (refine agree_pair2 (by with_reducible assumption) ?_)
    | (refine agree_pair3 (by with_reducible assumption) ?_)
    | (refine agree_pair5 (by with_reducible assumption) ?_) | split

theorem storePicture_frame (n : Nat) (j : Job) (a : AccUnit) (p : DecPicture) (unwritten : List (Nat × Nat)) (causes : List Nat)
    (slot : Nat) (s : State) (hg : Agree m s₀ s) (h_mem : m.mem = true := by assumption) (h_str : m.str = true := by assumption) (h_comp : m.comp = true := by assumption) : Agree m s₀ (storePicture n j a p unwritten causes slot s) := by
  unfold storePicture
  dsimp only
  repeat' first
    | (with_reducible first
        | assumption | apply strUpd_frame | apply bump_frame | apply engineFaults_frame | apply raise_frame
        | apply decodeError_frame | apply countRetry_frame | apply writePicture_frame | apply concealCells_frame | apply fetchRefs_frame
        | apply agree_foldl | apply ite_frame)
    | intro _ | dsimp only | split

theorem showAgain_frame (k : Nat) (slot : Nat) (us : List StageFault) (a : AccUnit) (s : State) (hg : Agree m s₀ s)
    (h_mem : m.mem = true := by assumption) (h_str : m.str = true := by assumption) (h_comp : m.comp = true := by assumption) : Agree m s₀
    (showAgain k slot us a s) := by
  unfold showAgain
  try dsimp only
  repeat' first
    | (with_reducible first
        | assumption | apply showPicture_frame | apply agree_foldl | apply agree_foldl_fst | apply agree_foldl_snd
        | apply agree_foldl_snd2)
    | intro _ | dsimp only | (refine agree_pair (by with_reducible assumption) ?_)
    | (refine agree_pair2 (by with_reducible assumption) ?_)
    | (refine agree_pair3 (by with_reducible assumption) ?_)
    | (refine agree_pair5 (by with_reducible assumption) ?_) | split

theorem coreRun_frame (k : Nat) (cores : List Nat) (fs : List StageFault) (s : State) (i : Nat) (hg : Agree m s₀ s)
    (h_str : m.str = true := by assumption) : Agree m s₀ (coreRun k cores fs s i) := by
  unfold coreRun
  try dsimp only
  repeat' first
    | (with_reducible first
        | assumption | apply engUpd_frame | apply raise_frame | apply agree_foldl | apply agree_foldl_fst
        | apply agree_foldl_snd | apply agree_foldl_snd2)
    | intro _ | dsimp only | (refine agree_pair (by with_reducible assumption) ?_)
    | (refine agree_pair2 (by with_reducible assumption) ?_)
    | (refine agree_pair3 (by with_reducible assumption) ?_)
    | (refine agree_pair5 (by with_reducible assumption) ?_) | split

theorem coreRuns_frame (k : Nat) (cores : List Nat) (fs : List StageFault) (s : State) (hg : Agree m s₀ s)
    (h_str : m.str = true := by assumption) : Agree m s₀ (coreRuns k cores fs s) := by
  unfold coreRuns
  try dsimp only
  repeat' first
    | (with_reducible first
        | assumption | apply coreRun_frame | apply agree_foldl | apply agree_foldl_fst | apply agree_foldl_snd
        | apply agree_foldl_snd2)
    | intro _ | dsimp only | (refine agree_pair (by with_reducible assumption) ?_)
    | (refine agree_pair2 (by with_reducible assumption) ?_)
    | (refine agree_pair3 (by with_reducible assumption) ?_)
    | (refine agree_pair5 (by with_reducible assumption) ?_) | split

theorem retireBad_frame (cores : List Nat) (s : State) (hg : Agree m s₀ s) (h_str : m.str = true := by assumption) : Agree m s₀
    (retireBad cores s) := by
  unfold retireBad
  try dsimp only
  repeat' first
    | (with_reducible first
        | assumption | apply retireDone_frame | apply engUpd_frame | apply agree_foldl | apply agree_foldl_fst
        | apply agree_foldl_snd | apply agree_foldl_snd2)
    | intro _ | dsimp only | (refine agree_pair (by with_reducible assumption) ?_)
    | (refine agree_pair2 (by with_reducible assumption) ?_)
    | (refine agree_pair3 (by with_reducible assumption) ?_)
    | (refine agree_pair5 (by with_reducible assumption) ?_) | split

theorem pictureDone_frame (n : Nat) (p : DecPicture) (s : State) (hg : Agree m s₀ s) (h_mem : m.mem = true := by assumption)
    (h_str : m.str = true := by assumption) (h_comp : m.comp = true := by assumption) : Agree m s₀ (pictureDone n p s) := by
  unfold pictureDone
  try dsimp only
  repeat' first
    | (with_reducible first
        | assumption | apply endJob_frame | apply strUpd_frame | apply refreshWanted_frame
        | apply decodeError_frame | apply showAgain_frame | apply setStream_frame | apply retireBad_frame
        | apply coreRuns_frame | apply storePicture_frame | apply agree_foldl | apply agree_foldl_fst
        | apply agree_foldl_snd | apply agree_foldl_snd2)
    | intro _ | dsimp only | (refine agree_pair (by with_reducible assumption) ?_)
    | (refine agree_pair2 (by with_reducible assumption) ?_)
    | (refine agree_pair3 (by with_reducible assumption) ?_)
    | (refine agree_pair5 (by with_reducible assumption) ?_) | split

theorem execDecodePictureDone_frame (engine : Nat) (p : DecPicture) (s : State) {s₁ : State}
    (he : execDecodePictureDone engine p s = .next s₁) (hg : Agree m s₀ s) (h_mem : m.mem = true := by assumption)
    (h_str : m.str = true := by assumption) (h_comp : m.comp = true := by assumption) : Agree m s₀ s₁ := by
  injection he with he
  subst he
  repeat' first
    | (with_reducible first
        | assumption | apply pictureDone_frame)
    | split

theorem engineWatchdog_frame (n : Nat) (p : DecPicture) (s : State) (hg : Agree m s₀ s) (h_mem : m.mem = true := by assumption)
    (h_str : m.str = true := by assumption) (h_comp : m.comp = true := by assumption) : Agree m s₀ (engineWatchdog n p s) := by
  unfold engineWatchdog
  try dsimp only
  repeat' first
    | (with_reducible first
        | assumption | apply decodeError_frame | apply storePicture_frame | apply engUpd_frame | apply endJob_frame
        | apply retireDone_frame | apply agree_foldl | apply agree_foldl_fst | apply agree_foldl_snd
        | apply agree_foldl_snd2)
    | intro _ | dsimp only | (refine agree_pair (by with_reducible assumption) ?_)
    | (refine agree_pair2 (by with_reducible assumption) ?_)
    | (refine agree_pair3 (by with_reducible assumption) ?_)
    | (refine agree_pair5 (by with_reducible assumption) ?_) | split

theorem execEngineWatchdog_frame (t : WatchdogTrip) (s : State) {s₁ : State} (he : execEngineWatchdog t s = .next s₁)
    (hg : Agree m s₀ s) (h_mem : m.mem = true := by assumption) (h_str : m.str = true := by assumption)
    (h_comp : m.comp = true := by assumption) : Agree m s₀ s₁ := by
  injection he with he
  subst he
  repeat' first
    | (with_reducible first
        | assumption | apply engineWatchdog_frame | apply agree_foldl | apply agree_foldl_fst
        | apply agree_foldl_snd | apply agree_foldl_snd2)
    | intro _ | dsimp only | (refine agree_pair (by with_reducible assumption) ?_)
    | (refine agree_pair2 (by with_reducible assumption) ?_)
    | (refine agree_pair3 (by with_reducible assumption) ?_)
    | (refine agree_pair5 (by with_reducible assumption) ?_) | split

theorem decodeStall_frame (k : Nat) (s : State) (hg : Agree m s₀ s) (h_str : m.str = true := by assumption) : Agree m s₀
    (decodeStall k s) := by
  unfold decodeStall
  try dsimp only
  repeat' first
    | (with_reducible first
        | assumption | apply auWait_frame | apply raise_frame | apply strUpd_frame | apply agree_foldl
        | apply agree_foldl_fst | apply agree_foldl_snd | apply agree_foldl_snd2)
    | intro _ | dsimp only | (refine agree_pair (by with_reducible assumption) ?_)
    | (refine agree_pair2 (by with_reducible assumption) ?_)
    | (refine agree_pair3 (by with_reducible assumption) ?_)
    | (refine agree_pair5 (by with_reducible assumption) ?_) | split

theorem execDecodeStall_frame (stream : Nat) (s : State) {s₁ : State} (he : execDecodeStall stream s = .next s₁) (hg : Agree m s₀ s)
    (h_str : m.str = true := by assumption) : Agree m s₀ s₁ := by
  injection he with he
  subst he
  repeat' first
    | (with_reducible first
        | assumption | apply decodeStall_frame)
    | split

theorem overrateOne_frame (s : State) (k : Nat) (hg : Agree m s₀ s) (h_str : m.str = true := by assumption) : Agree m s₀
    (overrateOne s k) := by
  unfold overrateOne
  try dsimp only
  repeat' first
    | (with_reducible first
        | assumption | apply raise_frame | apply strUpd_frame | apply agree_foldl | apply agree_foldl_fst)
    | intro _ | dsimp only | split

theorem execOverrateMeter_frame (s : State) {s₁ : State} (he : execOverrateMeter s = .next s₁) (hg : Agree m s₀ s)
    (h_str : m.str = true := by assumption) : Agree m s₀ s₁ := by
  injection he with he
  subst he
  repeat' first
    | (with_reducible first
        | assumption | apply overrateOne_frame | apply agree_foldl | apply agree_foldl_fst)
    | intro _ | dsimp only | split

theorem refreshDue_frame (k : Nat) (s : State) (hg : Agree m s₀ s) (h_str : m.str = true := by assumption) : Agree m s₀
    (refreshDue k s) := by
  unfold refreshDue
  try dsimp only
  repeat' first
    | (with_reducible first
        | assumption | apply refreshWanted_frame | apply strUpd_frame | apply agree_foldl | apply agree_foldl_fst)
    | intro _ | dsimp only | split

theorem execRefreshWanted_frame (stream : Nat) (s : State) {s₁ : State} (he : execRefreshWanted stream s = .next s₁) (hg : Agree m s₀ s)
    (h_str : m.str = true := by assumption) : Agree m s₀ s₁ := by
  injection he with he
  subst he
  repeat' first
    | (with_reducible first
        | assumption | apply refreshDue_frame)
    | split

theorem withEnc_frame (s : State) (u : EncUnit) (hg : Agree m s₀ s) (h_enc : m.enc = true := by assumption) : Agree m s₀ (withEnc s u) := by
  unfold withEnc
  try dsimp only
  repeat' first
    | (with_reducible first
        | assumption | apply agree_foldl | apply agree_foldl_fst)
    | (simp only [agree_mk]; with_reducible refine agreeAt_enc (by assumption) ?_) | intro _ | dsimp only | split

theorem ecSet_frame (c : Nat) (x : EncChan) (s : State) (hg : Agree m s₀ s) (h_enc : m.enc = true := by assumption) : Agree m s₀
    (ecSet c x s) := by
  unfold ecSet
  repeat' first
    | (with_reducible first
        | assumption | apply withEnc_frame)
    | split

theorem ecUpd_frame (c : Nat) (f : EncChan → EncChan) (s : State) (hg : Agree m s₀ s) (h_enc : m.enc = true := by assumption) : Agree m s₀
    (ecUpd c f s) := by
  unfold ecUpd
  repeat' first
    | (with_reducible first
        | assumption | apply ecSet_frame)
    | split

theorem encAssign_frame (named : Option Nat) (s : State) (hg : Agree m s₀ s) (h_enc : m.enc = true := by assumption) : Agree m s₀
    (encAssign named s) := by
  unfold encAssign
  try dsimp only
  repeat' first
    | (with_reducible first
        | assumption | apply ecSet_frame | apply agree_foldl | apply agree_foldl_fst)
    | intro _ | dsimp only | split

theorem withComp_frame (s : State) (u : CompUnit) (hg : Agree m s₀ s) (h_comp : m.comp = true := by assumption) : Agree m s₀
    (withComp s u) := by
  unfold withComp
  try dsimp only
  repeat' first
    | (with_reducible first
        | assumption | apply agree_foldl | apply agree_foldl_fst)
    | (simp only [agree_mk]; with_reducible refine agreeAt_comp (by assumption) ?_) | intro _ | dsimp only | split

theorem canSet_frame (c : Nat) (x : Canvas) (s : State) (hg : Agree m s₀ s) (h_comp : m.comp = true := by assumption) : Agree m s₀
    (canSet c x s) := by
  unfold canSet
  repeat' first
    | (with_reducible first
        | assumption | apply withComp_frame)
    | split

theorem canUpd_frame (c : Nat) (f : Canvas → Canvas) (s : State) (hg : Agree m s₀ s) (h_comp : m.comp = true := by assumption)
    : Agree m s₀ (canUpd c f s) := by
  unfold canUpd
  repeat' first
    | (with_reducible first
        | assumption | apply canSet_frame)
    | split

theorem opLayerSet_frame (c : Cmd) (s : State) (hg : Agree m s₀ s) (h_comp : m.comp = true := by assumption) : Agree m s₀
    (opLayerSet c s).1 := by
  unfold opLayerSet
  try dsimp only
  repeat' first
    | (with_reducible first
        | assumption | apply checked_frame | apply canUpd_frame | apply agree_foldl | apply agree_foldl_fst)
    | intro _ | dsimp only | split

theorem execLayerSet_frame (c : Cmd) (s : State) {s₁ : State} (he : execLayerSet c s = .next s₁) (hg : Agree m s₀ s)
    (h_comp : m.comp = true := by assumption) : Agree m s₀ s₁ := by
  injection he with he
  subst he
  repeat' first
    | (with_reducible first
        | assumption | apply hostCommand_frame | apply opLayerSet_frame | apply agree_foldl | apply agree_foldl_fst)
    | intro _ | dsimp only | split

theorem opCanvasSet_frame (c : Cmd) (s : State) (hg : Agree m s₀ s) (h_comp : m.comp = true := by assumption) : Agree m s₀
    (opCanvasSet c s).1 := by
  unfold opCanvasSet
  try dsimp only
  repeat' first
    | (with_reducible first
        | assumption | apply checked_frame | apply canSet_frame | apply agree_foldl | apply agree_foldl_fst
        | apply agree_foldl_snd | apply agree_foldl_snd2)
    | intro _ | dsimp only | (refine agree_pair (by with_reducible assumption) ?_)
    | (refine agree_pair2 (by with_reducible assumption) ?_)
    | (refine agree_pair3 (by with_reducible assumption) ?_)
    | (refine agree_pair5 (by with_reducible assumption) ?_) | split

theorem execCanvasSet_frame (c : Cmd) (s : State) {s₁ : State} (he : execCanvasSet c s = .next s₁) (hg : Agree m s₀ s)
    (h_comp : m.comp = true := by assumption) : Agree m s₀ s₁ := by
  injection he with he
  subst he
  repeat' first
    | (with_reducible first
        | assumption | apply hostCommand_frame | apply opCanvasSet_frame | apply agree_foldl
        | apply agree_foldl_fst)
    | intro _ | dsimp only | split

theorem opBankParamSet_frame (c : Cmd) (s : State) (hg : Agree m s₀ s) (h_comp : m.comp = true := by assumption) : Agree m s₀
    (opBankParamSet c s).1 := by
  unfold opBankParamSet
  try dsimp only
  repeat' first
    | (with_reducible first
        | assumption | apply checked_frame | apply canUpd_frame | apply agree_foldl | apply agree_foldl_fst)
    | intro _ | dsimp only | split

theorem execBankParamSet_frame (c : Cmd) (s : State) {s₁ : State} (he : execBankParamSet c s = .next s₁) (hg : Agree m s₀ s)
    (h_comp : m.comp = true := by assumption) : Agree m s₀ s₁ := by
  injection he with he
  subst he
  repeat' first
    | (with_reducible first
        | assumption | apply hostCommand_frame | apply opBankParamSet_frame | apply agree_foldl
        | apply agree_foldl_fst)
    | intro _ | dsimp only | split

theorem opCoefLoad_frame (c : Cmd) (s : State) (hg : Agree m s₀ s) : Agree m s₀ (opCoefLoad c s).1 := by
  unfold opCoefLoad
  try dsimp only
  repeat' first
    | (with_reducible first
        | assumption | apply checked_frame | apply agree_foldl | apply agree_foldl_fst)
    | intro _ | dsimp only | split

theorem execCoefLoad_frame (c : Cmd) (s : State) {s₁ : State} (he : execCoefLoad c s = .next s₁) (hg : Agree m s₀ s) : Agree m s₀ s₁ := by
  injection he with he
  subst he
  repeat' first
    | (with_reducible first
        | assumption | apply hostCommand_frame | apply opCoefLoad_frame)
    | split

theorem opXferLoad_frame (c : Cmd) (s : State) (hg : Agree m s₀ s) : Agree m s₀ (opXferLoad c s).1 := by
  unfold opXferLoad
  try dsimp only
  repeat' first
    | (with_reducible first
        | assumption | apply checked_frame | apply agree_foldl | apply agree_foldl_fst)
    | intro _ | dsimp only | split

theorem execXferLoad_frame (c : Cmd) (s : State) {s₁ : State} (he : execXferLoad c s = .next s₁) (hg : Agree m s₀ s) : Agree m s₀ s₁ := by
  injection he with he
  subst he
  repeat' first
    | (with_reducible first
        | assumption | apply hostCommand_frame | apply opXferLoad_frame)
    | split

theorem opStillLoad_frame (c : Cmd) (s : State) (hg : Agree m s₀ s) : Agree m s₀ (opStillLoad c s).1 := by
  unfold opStillLoad
  try dsimp only
  repeat' first
    | (with_reducible first
        | assumption | apply checked_frame | apply agree_foldl | apply agree_foldl_fst)
    | intro _ | dsimp only | split

theorem execStillLoad_frame (c : Cmd) (s : State) {s₁ : State} (he : execStillLoad c s = .next s₁) (hg : Agree m s₀ s) : Agree m s₀ s₁ := by
  injection he with he
  subst he
  repeat' first
    | (with_reducible first
        | assumption | apply hostCommand_frame | apply opStillLoad_frame)
    | split

theorem coefLoaded_frame (k : Nat) (bank : Nat) (crc : Nat) (image : List Byte) (s : State) (hg : Agree m s₀ s)
    (h_comp : m.comp = true := by assumption) : Agree m s₀ (coefLoaded k bank crc image s).1 := by
  unfold coefLoaded
  try dsimp only
  repeat' first
    | (with_reducible first
        | assumption | apply checked_frame | apply canUpd_frame | apply agree_foldl | apply agree_foldl_fst)
    | intro _ | dsimp only | split

theorem xferLoaded_frame (k : Nat) (crc : Nat) (image : List Byte) (s : State) (hg : Agree m s₀ s)
    (h_comp : m.comp = true := by assumption) : Agree m s₀ (xferLoaded k crc image s).1 := by
  unfold xferLoaded
  try dsimp only
  repeat' first
    | (with_reducible first
        | assumption | apply checked_frame | apply withComp_frame | apply agree_foldl | apply agree_foldl_fst)
    | intro _ | dsimp only | split

theorem stillLoaded_frame (k : Nat) (w : Nat) (h : Nat) (init : Nat) (data : List Byte) (s : State) (hg : Agree m s₀ s)
    (h_mem : m.mem = true := by assumption) (h_comp : m.comp = true := by assumption) : Agree m s₀ (stillLoaded k w h init data s).1 := by
  unfold stillLoaded
  repeat' first
    | (with_reducible first
        | assumption | apply busWrite_frame | apply withComp_frame)
    | split

theorem opLayoutCommit_frame (c : Cmd) (s : State) (hg : Agree m s₀ s) (h_comp : m.comp = true := by assumption)
    (h_enc : m.enc = true := by assumption) : Agree m s₀ (opLayoutCommit c s).1 := by
  unfold opLayoutCommit
  try dsimp only
  repeat' first
    | (with_reducible first
        | assumption | apply checked_frame | apply encAssign_frame | apply withComp_frame | apply agree_foldl
        | apply agree_foldl_fst)
    | intro _ | dsimp only | split

theorem opLayoutCancel_frame (c : Cmd) (s : State) (hg : Agree m s₀ s) (h_comp : m.comp = true := by assumption) : Agree m s₀
    (opLayoutCancel c s).1 := by
  unfold opLayoutCancel
  try dsimp only
  repeat' first
    | (with_reducible first
        | assumption | apply withComp_frame | apply agree_foldl | apply agree_foldl_fst)
    | intro _ | dsimp only | split

theorem execLayoutCancel_frame (c : Cmd) (s : State) {s₁ : State} (he : execLayoutCancel c s = .next s₁) (hg : Agree m s₀ s)
    (h_comp : m.comp = true := by assumption) : Agree m s₀ s₁ := by
  injection he with he
  subst he
  repeat' first
    | (with_reducible first
        | assumption | apply hostCommand_frame | apply opLayoutCancel_frame | apply agree_foldl
        | apply agree_foldl_fst)
    | intro _ | dsimp only | split

theorem freeBytes_frame (n : Nat) (s : State) (hg : Agree m s₀ s) : Agree m s₀ (freeBytes n s).2 := by
  unfold freeBytes
  try dsimp only
  repeat' first
    | (with_reducible first
        | assumption | apply agree_foldl | apply agree_foldl_fst)
    | (simp only [agree_mk]; with_reducible refine agreeAt ?_) | intro _ | dsimp only | split

theorem fetchCell_frame (us : List StageFault) (port : Nat) (f : Surf) (p : Nat × Nat) (s : State) (hg : Agree m s₀ s)
    (h_mem : m.mem = true := by assumption) (h_str : m.str = true := by assumption) : Agree m s₀ (fetchCell us port f p s).2 := by
  unfold fetchCell
  try dsimp only
  repeat' first
    | (with_reducible first
        | assumption | apply fetchStitch_frame | apply freeBytes_frame | apply agree_foldl | apply agree_foldl_fst
        | apply agree_foldl_snd | apply agree_foldl_snd2)
    | intro _ | dsimp only | (refine agree_pair (by with_reducible assumption) ?_)
    | (refine agree_pair2 (by with_reducible assumption) ?_)
    | (refine agree_pair3 (by with_reducible assumption) ?_)
    | (refine agree_pair5 (by with_reducible assumption) ?_) | split

theorem fetchCells_frame (us : List StageFault) (port : Nat) (f : Surf) (x3 : List (Nat × Nat)) (x4 : State) (hg : Agree m s₀ x4)
    (h_mem : m.mem = true := by assumption) (h_str : m.str = true := by assumption) : Agree m s₀ (fetchCells us port f x3 x4).2 := by
  induction x3 generalizing x4 with
  | nil =>
    unfold fetchCells
    try dsimp only
    repeat' first
      | (with_reducible first
          | assumption | apply fetchCell_frame | apply agree_foldl | apply agree_foldl_fst | apply agree_foldl_snd
          | apply agree_foldl_snd2)
      | intro _ | dsimp only | (refine agree_pair (by with_reducible assumption) ?_)
      | (refine agree_pair2 (by with_reducible assumption) ?_)
      | (refine agree_pair3 (by with_reducible assumption) ?_)
      | (refine agree_pair5 (by with_reducible assumption) ?_) | split
  | cons _ _ ih =>
    unfold fetchCells
    try dsimp only
    repeat' first
      | (with_reducible first
          | assumption | apply ih | apply fetchCell_frame | apply agree_foldl | apply agree_foldl_fst | apply agree_foldl_snd
          | apply agree_foldl_snd2)
      | intro _ | dsimp only | (refine agree_pair (by with_reducible assumption) ?_)
      | (refine agree_pair2 (by with_reducible assumption) ?_)
      | (refine agree_pair3 (by with_reducible assumption) ?_)
      | (refine agree_pair5 (by with_reducible assumption) ?_) | split

theorem agree_stitches {α : Type} {f : StitchWork → α → StitchWork} {l : List α} {w : StitchWork}
    (hf : ∀ u a, Agree m s₀ u.st → Agree m s₀ (f u a).st) (h : Agree m s₀ w.st) : Agree m s₀ (l.foldl f w).st := by
  induction l generalizing w with
  | nil => exact h
  | cons a l ih => exact ih (hf w a h)

theorem passBoundary_helper (g : ComposeCtx) (sx sy : Nat) (w : StitchWork) (h : Agree m s₀ w.st) (h_mem : m.mem = true := by assumption)
    (h_str : m.str = true := by assumption) :
    Agree m s₀ (passBoundary g sx sy w).st := by
  unfold passBoundary
  dsimp only
  repeat' first
    | (with_reducible first
        | assumption | apply freeBytes_frame | apply fetchStitch_frame | apply writeStitch_frame)
    | intro _ | dsimp only | split

theorem layerOver_helper (g : ComposeCtx) (sx sy : Nat) (l : LayerSrc) (w : StitchWork) (h : Agree m s₀ w.st)
    (h_mem : m.mem = true := by assumption) (h_str : m.str = true := by assumption) :
    Agree m s₀ (layerOver g sx sy l w).st := by
  unfold layerOver
  dsimp only
  repeat' first | exact h | exact fetchCells_frame _ _ _ _ _ h | split

theorem layersOver_helper (g : ComposeCtx) (sx sy i : Nat) (ls : List LayerSrc) (w : StitchWork) (h : Agree m s₀ w.st)
    (h_mem : m.mem = true := by assumption) (h_str : m.str = true := by assumption) :
    Agree m s₀ (layersOver g sx sy i ls w).st := by
  induction ls generalizing i w with
  | nil => exact h
  | cons l ls ih =>
    refine ih _ _ (layerOver_helper _ _ _ _ _ ?_)
    split
    · exact passBoundary_helper _ _ _ _ h
    · exact h

theorem composeStitch_helper (g : ComposeCtx) (sy : Nat) (w : StitchWork) (sx : Nat) (h : Agree m s₀ w.st)
    (h_mem : m.mem = true := by assumption) (h_str : m.str = true := by assumption) :
    Agree m s₀ (composeStitch g sy w sx).st :=
  writeStitch_frame _ _ _ _ _ _ _ _ _ _ (layersOver_helper _ _ _ _ _ _ h)

theorem composeRow_helper (g : ComposeCtx) (w : StitchWork) (sy : Nat) (h : Agree m s₀ w.st) (h_mem : m.mem = true := by assumption)
    (h_str : m.str = true := by assumption) : Agree m s₀ (composeRow g w sy).st :=
  agree_stitches (w := { w with broken := [] }) (fun _ _ hu => composeStitch_helper _ _ _ _ hu) h

theorem composeRows_frame (c : Nat) (j : Compose) (cutFull : Nat) (sels : List LayerSel) (faults : List StageFault) (rows : List Nat)
    (s : State) (h : Agree m s₀ s) (h_mem : m.mem = true := by assumption) (h_str : m.str = true := by assumption) : Agree m s₀ (composeRows c j cutFull sels faults rows s).2 :=
  agree_stitches (w := { st := s }) (fun _ _ hu => composeRow_helper _ _ _ hu) h

theorem composeReport_frame (c : Nat) (j : Compose) (s : State) (hg : Agree m s₀ s) (h_str : m.str = true := by assumption) : Agree m s₀
    (composeReport c j s) := by
  unfold composeReport
  try dsimp only
  repeat' first
    | (with_reducible first
        | assumption | apply custodyReportOf_frame | apply custodyReport_frame | apply agree_foldl
        | apply agree_foldl_fst | apply agree_foldl_snd | apply agree_foldl_snd2)
    | intro _ | dsimp only | (refine agree_pair (by with_reducible assumption) ?_)
    | (refine agree_pair2 (by with_reducible assumption) ?_)
    | (refine agree_pair3 (by with_reducible assumption) ?_)
    | (refine agree_pair5 (by with_reducible assumption) ?_) | split

theorem slippedEvent_frame (c : Nat) (cause : Nat) (frame : Nat) (p2 : Nat) (count : Nat) (first : Nat) (s : State) (hg : Agree m s₀ s)
    : Agree m s₀ (slippedEvent c cause frame p2 count first s) := by
  unfold slippedEvent
  repeat' first
    | (with_reducible first
        | assumption | apply raise_frame)
    | split

theorem sourceLate_frame (c : Nat) (j : Compose) (s : State) (hg : Agree m s₀ s) : Agree m s₀ (sourceLate c j s) := by
  unfold sourceLate
  repeat' first
    | (with_reducible first
        | assumption | apply slippedEvent_frame)
    | split

theorem underEvent_frame (c : Nat) (x : Canvas) (j : Compose) (s : State) (hg : Agree m s₀ s) : Agree m s₀ (underEvent c x j s) := by
  unfold underEvent
  repeat' first
    | (with_reducible first
        | assumption | apply raise_frame)
    | split

theorem chaseLate_frame (c : Nat) (j : Compose) (s : State) (hg : Agree m s₀ s) : Agree m s₀ (chaseLate c j s) := by
  unfold chaseLate
  repeat' first
    | (with_reducible first
        | assumption | apply slippedEvent_frame)
    | split

theorem promote_frame (c : Nat) (j : Compose) (s : State) (hg : Agree m s₀ s) (h_str : m.str = true := by assumption)
    (h_comp : m.comp = true := by assumption) : Agree m s₀ (promote c j s) := by
  unfold promote
  try dsimp only
  repeat' first
    | (with_reducible first
        | assumption | apply canSet_frame | apply underEvent_frame | apply composeReport_frame
        | apply chaseLate_frame | apply sourceLate_frame | apply agree_foldl | apply agree_foldl_fst
        | apply agree_foldl_snd | apply agree_foldl_snd2)
    | intro _ | dsimp only | (refine agree_pair (by with_reducible assumption) ?_)
    | (refine agree_pair2 (by with_reducible assumption) ?_)
    | (refine agree_pair3 (by with_reducible assumption) ?_)
    | (refine agree_pair5 (by with_reducible assumption) ?_) | split

theorem abandon_frame (c : Nat) (j : Compose) (late : Nat) (s : State) (hg : Agree m s₀ s) (h_str : m.str = true := by assumption)
    (h_comp : m.comp = true := by assumption) : Agree m s₀ (abandon c j late s) := by
  unfold abandon
  try dsimp only
  repeat' first
    | (with_reducible first
        | assumption | apply composeReport_frame | apply canSet_frame | apply slippedEvent_frame
        | apply agree_foldl | apply agree_foldl_fst | apply agree_foldl_snd | apply agree_foldl_snd2)
    | intro _ | dsimp only | (refine agree_pair (by with_reducible assumption) ?_)
    | (refine agree_pair2 (by with_reducible assumption) ?_)
    | (refine agree_pair3 (by with_reducible assumption) ?_)
    | (refine agree_pair5 (by with_reducible assumption) ?_) | split

theorem settle_frame (c : Nat) (s : State) (hg : Agree m s₀ s) (h_str : m.str = true := by assumption)
    (h_comp : m.comp = true := by assumption) : Agree m s₀ (settle c s) := by
  unfold settle
  repeat' first
    | (with_reducible first
        | assumption | apply promote_frame | apply abandon_frame)
    | split

theorem chaseFinish_frame (c : Nat) (j : Compose) (s : State) (hg : Agree m s₀ s) (h_str : m.str = true := by assumption)
    (h_comp : m.comp = true := by assumption) : Agree m s₀ (chaseFinish c j s) := by
  unfold chaseFinish
  try dsimp only
  repeat' first
    | (with_reducible first
        | assumption | apply promote_frame | apply canUpd_frame | apply agree_foldl | apply agree_foldl_fst
        | apply agree_foldl_snd | apply agree_foldl_snd2)
    | intro _ | dsimp only | (refine agree_pair (by with_reducible assumption) ?_)
    | (refine agree_pair2 (by with_reducible assumption) ?_)
    | (refine agree_pair3 (by with_reducible assumption) ?_)
    | (refine agree_pair5 (by with_reducible assumption) ?_) | split

theorem chaseNext_frame (c : Nat) (s : State) (hg : Agree m s₀ s) (h_str : m.str = true := by assumption)
    (h_comp : m.comp = true := by assumption) : Agree m s₀ (chaseNext c s) := by
  unfold chaseNext
  try dsimp only
  repeat' first
    | (with_reducible first
        | assumption | apply chaseFinish_frame | apply canUpd_frame | apply agree_foldl | apply agree_foldl_fst
        | apply agree_foldl_snd | apply agree_foldl_snd2)
    | intro _ | dsimp only | (refine agree_pair (by with_reducible assumption) ?_)
    | (refine agree_pair2 (by with_reducible assumption) ?_)
    | (refine agree_pair3 (by with_reducible assumption) ?_)
    | (refine agree_pair5 (by with_reducible assumption) ?_) | split

theorem chaseSettle_frame (c : Nat) (n : Nat) (s : State) (hg : Agree m s₀ s) (h_str : m.str = true := by assumption)
    (h_comp : m.comp = true := by assumption) : Agree m s₀ (chaseSettle c n s) := by
  unfold chaseSettle
  try dsimp only
  repeat' first
    | (with_reducible first
        | assumption | apply chaseNext_frame | apply chaseFinish_frame | apply agree_foldl | apply agree_foldl_fst
        | apply agree_foldl_snd | apply agree_foldl_snd2)
    | intro _ | dsimp only | (refine agree_pair (by with_reducible assumption) ?_)
    | (refine agree_pair2 (by with_reducible assumption) ?_)
    | (refine agree_pair3 (by with_reducible assumption) ?_)
    | (refine agree_pair5 (by with_reducible assumption) ?_) | split

theorem takeCommit_frame (c : Nat) (n : Nat) (s : State) (hg : Agree m s₀ s) (h_comp : m.comp = true := by assumption) : Agree m s₀
    (takeCommit c n s) := by
  unfold takeCommit
  repeat' first
    | (with_reducible first
        | assumption | apply canSet_frame | apply withComp_frame)
    | split

theorem arriveStitches_frame (k : Nat) (u : OpenUnit) (f : Surf) (t : Tab (List W32)) (ps : List (Nat × Nat)) (s : State)
    (hg : Agree m s₀ s) (h_mem : m.mem = true := by assumption) : Agree m s₀ (arriveStitches k u f t ps s) := by
  unfold arriveStitches
  try dsimp only
  repeat' first
    | (with_reducible first
        | assumption | apply writeStitch_frame | apply agree_foldl | apply agree_foldl_fst | apply agree_foldl_snd
        | apply agree_foldl_snd2)
    | intro _ | dsimp only | (refine agree_pair (by with_reducible assumption) ?_)
    | (refine agree_pair2 (by with_reducible assumption) ?_)
    | (refine agree_pair3 (by with_reducible assumption) ?_)
    | (refine agree_pair5 (by with_reducible assumption) ?_) | split

theorem arriveRows_frame (x : Canvas) (row : Nat) (s : State) (l : LayerSel) (hg : Agree m s₀ s) (h_mem : m.mem = true := by assumption)
    : Agree m s₀ (arriveRows x row s l) := by
  unfold arriveRows
  try dsimp only
  repeat' first
    | (with_reducible first
        | assumption | apply arriveStitches_frame | apply agree_foldl | apply agree_foldl_fst
        | apply agree_foldl_snd | apply agree_foldl_snd2)
    | intro _ | dsimp only | (refine agree_pair (by with_reducible assumption) ?_)
    | (refine agree_pair2 (by with_reducible assumption) ?_)
    | (refine agree_pair3 (by with_reducible assumption) ?_)
    | (refine agree_pair5 (by with_reducible assumption) ?_) | split

theorem frameCut_frame (c : Nat) (g : Nat) (env : CutEnv) (s : State) (hg : Agree m s₀ s) (h_mem : m.mem = true := by assumption)
    (h_str : m.str = true := by assumption) (h_comp : m.comp = true := by assumption) : Agree m s₀ (frameCut c g env s) := by
  unfold frameCut
  try dsimp only
  repeat' first
    | (with_reducible first
        | assumption | apply takeCommit_frame | apply settle_frame | apply sourceLate_frame | apply canSet_frame
        | apply composeRows_frame | apply canUpd_frame | apply composeReport_frame | apply agree_foldl
        | apply agree_foldl_fst | apply agree_foldl_snd | apply agree_foldl_snd2)
    | intro _ | dsimp only | (refine agree_pair (by with_reducible assumption) ?_)
    | (refine agree_pair2 (by with_reducible assumption) ?_)
    | (refine agree_pair3 (by with_reducible assumption) ?_)
    | (refine agree_pair5 (by with_reducible assumption) ?_) | split

theorem chaseOpen_frame (c : Nat) (env : CutEnv) (s : State) (hg : Agree m s₀ s) (h_str : m.str = true := by assumption)
    (h_comp : m.comp = true := by assumption) : Agree m s₀ (chaseOpen c env s) := by
  unfold chaseOpen
  try dsimp only
  repeat' first
    | (with_reducible first
        | assumption | apply takeCommit_frame | apply chaseNext_frame | apply canSet_frame | apply agree_foldl
        | apply agree_foldl_fst | apply agree_foldl_snd | apply agree_foldl_snd2)
    | intro _ | dsimp only | (refine agree_pair (by with_reducible assumption) ?_)
    | (refine agree_pair2 (by with_reducible assumption) ?_)
    | (refine agree_pair3 (by with_reducible assumption) ?_)
    | (refine agree_pair5 (by with_reducible assumption) ?_) | split

theorem chaseRow_frame (c : Nat) (env : CutEnv) (s : State) (hg : Agree m s₀ s) (h_mem : m.mem = true := by assumption)
    (h_str : m.str = true := by assumption) (h_comp : m.comp = true := by assumption) : Agree m s₀ (chaseRow c env s) := by
  unfold chaseRow
  try dsimp only
  repeat' first
    | (with_reducible first
        | assumption | apply chaseOpen_frame | apply composeRows_frame | apply arriveRows_frame
        | apply canUpd_frame | apply agree_foldl | apply agree_foldl_fst | apply agree_foldl_snd
        | apply agree_foldl_snd2)
    | intro _ | dsimp only | (refine agree_pair (by with_reducible assumption) ?_)
    | (refine agree_pair2 (by with_reducible assumption) ?_)
    | (refine agree_pair3 (by with_reducible assumption) ?_)
    | (refine agree_pair5 (by with_reducible assumption) ?_) | split

theorem canvasCut_frame (c : Nat) (env : CutEnv) (s : State) (hg : Agree m s₀ s) (h_mem : m.mem = true := by assumption)
    (h_str : m.str = true := by assumption) (h_comp : m.comp = true := by assumption) : Agree m s₀ (canvasCut c env s) := by
  unfold canvasCut
  try dsimp only
  repeat' first
    | (with_reducible first
        | assumption | apply chaseRow_frame | apply frameCut_frame | apply agree_foldl | apply agree_foldl_fst)
    | intro _ | dsimp only | split

theorem execCanvasCut_frame (canvas : Nat) (env : CutEnv) (s : State) {s₁ : State} (he : execCanvasCut canvas env s = .next s₁)
    (hg : Agree m s₀ s) (h_mem : m.mem = true := by assumption) (h_str : m.str = true := by assumption)
    (h_comp : m.comp = true := by assumption) : Agree m s₀ s₁ := by
  injection he with he
  subst he
  repeat' first
    | (with_reducible first
        | assumption | apply canvasCut_frame)
    | split

theorem composeDeadline_frame (c : Nat) (s : State) (hg : Agree m s₀ s) (h_str : m.str = true := by assumption)
    (h_comp : m.comp = true := by assumption) : Agree m s₀ (composeDeadline c s) := by
  unfold composeDeadline
  try dsimp only
  repeat' first
    | (with_reducible first
        | assumption | apply abandon_frame | apply agree_foldl | apply agree_foldl_fst)
    | intro _ | dsimp only | split

theorem execComposeDeadline_frame (canvas : Nat) (s : State) {s₁ : State} (he : execComposeDeadline canvas s = .next s₁)
    (hg : Agree m s₀ s) (h_str : m.str = true := by assumption) (h_comp : m.comp = true := by assumption) : Agree m s₀ s₁ := by
  injection he with he
  subst he
  repeat' first
    | (with_reducible first
        | assumption | apply composeDeadline_frame)
    | split

theorem chaseRowDeadline_frame (c : Nat) (row : Nat) (s : State) (hg : Agree m s₀ s) (h_comp : m.comp = true := by assumption)
    : Agree m s₀ (chaseRowDeadline c row s) := by
  unfold chaseRowDeadline
  try dsimp only
  repeat' first
    | (with_reducible first
        | assumption | apply canSet_frame | apply agree_foldl | apply agree_foldl_fst | apply agree_foldl_snd
        | apply agree_foldl_snd2)
    | intro _ | dsimp only | (refine agree_pair (by with_reducible assumption) ?_)
    | (refine agree_pair2 (by with_reducible assumption) ?_)
    | (refine agree_pair3 (by with_reducible assumption) ?_)
    | (refine agree_pair5 (by with_reducible assumption) ?_) | split

theorem execChaseRowDeadline_frame (canvas : Nat) (row : Nat) (s : State) {s₁ : State} (he : execChaseRowDeadline canvas row s = .next s₁)
    (hg : Agree m s₀ s) (h_comp : m.comp = true := by assumption) : Agree m s₀ s₁ := by
  injection he with he
  subst he
  repeat' first
    | (with_reducible first
        | assumption | apply chaseRowDeadline_frame)
    | split

theorem layerUnderrun_frame (c : Nat) (slot : Nat) (row : Nat) (waited : Nat) (s : State) (hg : Agree m s₀ s)
    (h_mem : m.mem = true := by assumption) (h_str : m.str = true := by assumption) (h_comp : m.comp = true := by assumption) : Agree m s₀
    (layerUnderrun c slot row waited s) := by
  unfold layerUnderrun
  try dsimp only
  repeat' first
    | (with_reducible first
        | assumption | apply composeRows_frame | apply canSet_frame | apply agree_foldl | apply agree_foldl_fst
        | apply agree_foldl_snd | apply agree_foldl_snd2)
    | intro _ | dsimp only | (refine agree_pair (by with_reducible assumption) ?_)
    | (refine agree_pair2 (by with_reducible assumption) ?_)
    | (refine agree_pair3 (by with_reducible assumption) ?_)
    | (refine agree_pair5 (by with_reducible assumption) ?_) | split

theorem execLayerUnderrun_frame (canvas : Nat) (slot : Nat) (row : Nat) (waited : Nat) (s : State) {s₁ : State}
    (he : execLayerUnderrun canvas slot row waited s = .next s₁) (hg : Agree m s₀ s) (h_mem : m.mem = true := by assumption)
    (h_str : m.str = true := by assumption) (h_comp : m.comp = true := by assumption) : Agree m s₀ s₁ := by
  injection he with he
  subst he
  repeat' first
    | (with_reducible first
        | assumption | apply layerUnderrun_frame)
    | split

theorem auditWrite_frame (ws : List W32) (s : State) (hg : Agree m s₀ s) (h_enc : m.enc = true := by assumption) : Agree m s₀
    (auditWrite ws s) := by
  unfold auditWrite
  try dsimp only
  repeat' first
    | (with_reducible first
        | assumption | apply ringWrite_frame | apply withEnc_frame | apply ringDiscard_frame | apply raise_frame
        | apply agree_foldl | apply agree_foldl_fst)
    | intro _ | dsimp only | split

theorem withPair_frame (s : State) (u : PairUnit) (hg : Agree m s₀ s) (h_pair : m.pair = true := by assumption) : Agree m s₀
    (withPair s u) := by
  unfold withPair
  try dsimp only
  repeat' first
    | (with_reducible first
        | assumption | apply agree_foldl | apply agree_foldl_fst)
    | (simp only [agree_mk]; with_reducible refine agreeAt_pair (by assumption) ?_) | intro _ | dsimp only | split

theorem diverged_frame (a : DigRec) (b : DigRec) (s : State) (hg : Agree m s₀ s) (h_pair : m.pair = true := by assumption) : Agree m s₀
    (diverged a b s) := by
  unfold diverged
  try dsimp only
  repeat' first
    | (with_reducible first
        | assumption | apply withPair_frame | apply raise_frame | apply agree_foldl | apply agree_foldl_fst)
    | intro _ | dsimp only | split

theorem cmpResult_frame (o : Nat) (code : Nat) (s : State) (hg : Agree m s₀ s) (h_pair : m.pair = true := by assumption) : Agree m s₀
    (cmpResult o code s) := by
  unfold cmpResult
  repeat' first
    | (with_reducible first
        | assumption | apply withPair_frame)
    | split

theorem compareRecs_frame (a : DigRec) (b : DigRec) (s : State) (hg : Agree m s₀ s) (h_pair : m.pair = true := by assumption) : Agree m s₀
    (compareRecs a b s) := by
  unfold compareRecs
  repeat' first
    | (with_reducible first
        | assumption | apply withPair_frame | apply diverged_frame)
    | split

theorem comparePair_frame (a : DigRec) (b : DigRec) (s : State) (hg : Agree m s₀ s) (h_pair : m.pair = true := by assumption) : Agree m s₀
    (comparePair a b s) := by
  unfold comparePair
  repeat' first
    | (with_reducible first
        | assumption | apply compareRecs_frame | apply cmpResult_frame)
    | split

theorem ownDigest_frame (a : DigRec) (s : State) (hg : Agree m s₀ s) (h_pair : m.pair = true := by assumption) : Agree m s₀
    (ownDigest a s) := by
  unfold ownDigest
  repeat' first
    | (with_reducible first
        | assumption | apply send_frame | apply comparePair_frame | apply withPair_frame)
    | split

theorem opOutputSet_frame (c : Cmd) (s : State) (hg : Agree m s₀ s) (h_scan : m.scan = true := by assumption) : Agree m s₀
    (opOutputSet c s).1 := by
  unfold opOutputSet
  try dsimp only
  repeat' first
    | (with_reducible first
        | assumption | apply checked_frame | apply outUpd_frame | apply agree_foldl | apply agree_foldl_fst
        | apply agree_foldl_snd | apply agree_foldl_snd2)
    | intro _ | dsimp only | (refine agree_pair (by with_reducible assumption) ?_)
    | (refine agree_pair2 (by with_reducible assumption) ?_)
    | (refine agree_pair3 (by with_reducible assumption) ?_)
    | (refine agree_pair5 (by with_reducible assumption) ?_) | split

theorem execOutputSet_frame (c : Cmd) (s : State) {s₁ : State} (he : execOutputSet c s = .next s₁) (hg : Agree m s₀ s)
    (h_scan : m.scan = true := by assumption) : Agree m s₀ s₁ := by
  injection he with he
  subst he
  repeat' first
    | (with_reducible first
        | assumption | apply hostCommand_frame | apply opOutputSet_frame | apply agree_foldl
        | apply agree_foldl_fst)
    | intro _ | dsimp only | split

theorem linkEvent_frame (o : Nat) (code : Nat) (s : State) (hg : Agree m s₀ s) (h_scan : m.scan = true := by assumption) : Agree m s₀
    (linkEvent o code s) := by
  unfold linkEvent
  repeat' first
    | (with_reducible first
        | assumption | apply outUpd_frame | apply raise_frame)
    | split

theorem trainBegin_frame (o : Nat) (s : State) (hg : Agree m s₀ s) (h_scan : m.scan = true := by assumption) : Agree m s₀
    (trainBegin o s) := by
  unfold trainBegin
  repeat' first
    | (with_reducible first
        | assumption | apply outUpd_frame)
    | split

theorem vhpdHigh_frame (o : Nat) (s : State) (hg : Agree m s₀ s) (h_scan : m.scan = true := by assumption) : Agree m s₀ (vhpdHigh o s) := by
  unfold vhpdHigh
  repeat' first
    | (with_reducible first
        | assumption | apply outUpd_frame | apply trainBegin_frame | apply linkEvent_frame)
    | split

theorem execVhpdHigh_frame (output : Nat) (s : State) {s₁ : State} (he : execVhpdHigh output s = .next s₁) (hg : Agree m s₀ s)
    (h_scan : m.scan = true := by assumption) : Agree m s₀ s₁ := by
  injection he with he
  subst he
  repeat' first
    | (with_reducible first
        | assumption | apply vhpdHigh_frame)
    | split

theorem vhpdIrq_frame (o : Nat) (ok : Bool) (s : State) (hg : Agree m s₀ s) (h_scan : m.scan = true := by assumption) : Agree m s₀
    (vhpdIrq o ok s) := by
  unfold vhpdIrq
  repeat' first
    | (with_reducible first
        | assumption | apply linkEvent_frame | apply trainBegin_frame)
    | split

theorem execVhpdIrqPulse_frame (output : Nat) (ok : Bool) (s : State) {s₁ : State} (he : execVhpdIrqPulse output ok s = .next s₁)
    (hg : Agree m s₀ s) (h_scan : m.scan = true := by assumption) : Agree m s₀ s₁ := by
  injection he with he
  subst he
  repeat' first
    | (with_reducible first
        | assumption | apply vhpdIrq_frame)
    | split

theorem vhpdLow_frame (o : Nat) (s : State) (hg : Agree m s₀ s) (h_scan : m.scan = true := by assumption) : Agree m s₀ (vhpdLow o s) := by
  unfold vhpdLow
  repeat' first
    | (with_reducible first
        | assumption | apply outUpd_frame | apply linkEvent_frame)
    | split

theorem execVhpdLow_frame (output : Nat) (s : State) {s₁ : State} (he : execVhpdLow output s = .next s₁) (hg : Agree m s₀ s)
    (h_scan : m.scan = true := by assumption) : Agree m s₀ s₁ := by
  injection he with he
  subst he
  repeat' first
    | (with_reducible first
        | assumption | apply vhpdLow_frame)
    | split

theorem trainEnd_frame (o : Nat) (t : LinkTraining) (s : State) (hg : Agree m s₀ s) (h_scan : m.scan = true := by assumption) : Agree m s₀
    (trainEnd o t s) := by
  unfold trainEnd
  try dsimp only
  repeat' first
    | (with_reducible first
        | assumption | apply linkEvent_frame | apply outSet_frame | apply agree_foldl | apply agree_foldl_fst)
    | intro _ | dsimp only | split

theorem execOutputLinkTrainingEnd_frame (output : Nat) (t : LinkTraining) (s : State) {s₁ : State}
    (he : execOutputLinkTrainingEnd output t s = .next s₁) (hg : Agree m s₀ s) (h_scan : m.scan = true := by assumption)
    : Agree m s₀ s₁ := by
  injection he with he
  subst he
  repeat' first
    | (with_reducible first
        | assumption | apply trainEnd_frame | apply agree_foldl | apply agree_foldl_fst)
    | intro _ | dsimp only | (refine agree_pair (by with_reducible assumption) ?_)
    | (refine agree_pair2 (by with_reducible assumption) ?_)
    | (refine agree_pair3 (by with_reducible assumption) ?_)
    | (refine agree_pair5 (by with_reducible assumption) ?_) | split

theorem trainRetry_frame (o : Nat) (s : State) (hg : Agree m s₀ s) (h_scan : m.scan = true := by assumption) : Agree m s₀
    (trainRetry o s) := by
  unfold trainRetry
  repeat' first
    | (with_reducible first
        | assumption | apply trainBegin_frame)
    | split

theorem execLinkTrainingRetry_frame (output : Nat) (s : State) {s₁ : State} (he : execLinkTrainingRetry output s = .next s₁)
    (hg : Agree m s₀ s) (h_scan : m.scan = true := by assumption) : Agree m s₀ s₁ := by
  injection he with he
  subst he
  repeat' first
    | (with_reducible first
        | assumption | apply trainRetry_frame)
    | split

theorem outOn_frame (o : Nat) (s : State) (hg : Agree m s₀ s) (h_scan : m.scan = true := by assumption) : Agree m s₀ (outOn o s) := by
  unfold outOn
  repeat' first
    | (with_reducible first
        | assumption | apply outSet_frame)
    | split

theorem opOutputEnable_frame (c : Cmd) (s : State) (hg : Agree m s₀ s) (h_lane : m.lane = true := by assumption)
    (h_scan : m.scan = true := by assumption) : Agree m s₀ (opOutputEnable c s).1 := by
  unfold opOutputEnable
  try dsimp only
  repeat' first
    | (with_reducible first
        | assumption | apply checked_frame | apply laneEnable_frame | apply outOn_frame | apply agree_foldl
        | apply agree_foldl_fst)
    | intro _ | dsimp only | split

theorem outOff_frame (o : Nat) (s : State) (hg : Agree m s₀ s) (h_scan : m.scan = true := by assumption) : Agree m s₀ (outOff o s) := by
  unfold outOff
  repeat' first
    | (with_reducible first
        | assumption | apply linkEvent_frame | apply outSet_frame)
    | split

theorem opOutputDisable_frame (c : Cmd) (s : State) (hg : Agree m s₀ s) (h_scan : m.scan = true := by assumption) : Agree m s₀
    (opOutputDisable c s).1 := by
  unfold opOutputDisable
  try dsimp only
  repeat' first
    | (with_reducible first
        | assumption | apply checked_frame | apply outOff_frame | apply agree_foldl | apply agree_foldl_fst)
    | intro _ | dsimp only | split

theorem execOutputDisable_frame (c : Cmd) (s : State) {s₁ : State} (he : execOutputDisable c s = .next s₁) (hg : Agree m s₀ s)
    (h_scan : m.scan = true := by assumption) : Agree m s₀ s₁ := by
  injection he with he
  subst he
  repeat' first
    | (with_reducible first
        | assumption | apply hostCommand_frame | apply opOutputDisable_frame | apply agree_foldl
        | apply agree_foldl_fst)
    | intro _ | dsimp only | split

theorem opOutputView_frame (c : Cmd) (s : State) (hg : Agree m s₀ s) (h_scan : m.scan = true := by assumption) : Agree m s₀
    (opOutputView c s).1 := by
  unfold opOutputView
  try dsimp only
  repeat' first
    | (with_reducible first
        | assumption | apply checked_frame | apply outUpd_frame | apply agree_foldl | apply agree_foldl_fst)
    | intro _ | dsimp only | split

theorem execOutputView_frame (c : Cmd) (s : State) {s₁ : State} (he : execOutputView c s = .next s₁) (hg : Agree m s₀ s)
    (h_scan : m.scan = true := by assumption) : Agree m s₀ s₁ := by
  injection he with he
  subst he
  repeat' first
    | (with_reducible first
        | assumption | apply hostCommand_frame | apply opOutputView_frame | apply agree_foldl
        | apply agree_foldl_fst)
    | intro _ | dsimp only | split

theorem opOutputFaultClear_frame (c : Cmd) (s : State) (hg : Agree m s₀ s) (h_scan : m.scan = true := by assumption) : Agree m s₀
    (opOutputFaultClear c s).1 := by
  unfold opOutputFaultClear
  try dsimp only
  repeat' first
    | (with_reducible first
        | assumption | apply checked_frame | apply outUpd_frame | apply agree_foldl | apply agree_foldl_fst)
    | intro _ | dsimp only | split

theorem execOutputFaultClear_frame (c : Cmd) (s : State) {s₁ : State} (he : execOutputFaultClear c s = .next s₁) (hg : Agree m s₀ s)
    (h_scan : m.scan = true := by assumption) : Agree m s₀ s₁ := by
  injection he with he
  subst he
  repeat' first
    | (with_reducible first
        | assumption | apply hostCommand_frame | apply opOutputFaultClear_frame | apply agree_foldl
        | apply agree_foldl_fst)
    | intro _ | dsimp only | split

theorem freeWords_frame (n : Nat) (s : State) (h : Agree m s₀ s) : Agree m s₀ (freeWords n s).2 := by
  induction n generalizing s with
  | zero => exact h
  | succ n ih => exact ih _ (takeFree_frame _ h)

theorem opOutputAux_frame (c : Cmd) (s : State) (hg : Agree m s₀ s) : Agree m s₀ (opOutputAux c s).1 := by
  unfold opOutputAux
  try dsimp only
  repeat' first
    | (with_reducible first
        | assumption | apply checked_frame | apply freeWords_frame | apply agree_foldl | apply agree_foldl_fst)
    | intro _ | dsimp only | split

theorem execOutputAux_frame (c : Cmd) (s : State) {s₁ : State} (he : execOutputAux c s = .next s₁) (hg : Agree m s₀ s) : Agree m s₀ s₁ := by
  injection he with he
  subst he
  repeat' first
    | (with_reducible first
        | assumption | apply hostCommand_frame | apply opOutputAux_frame)
    | split

theorem opSwatchSet_frame (c : Cmd) (s : State) (hg : Agree m s₀ s) (h_scan : m.scan = true := by assumption) : Agree m s₀
    (opSwatchSet c s).1 := by
  unfold opSwatchSet
  try dsimp only
  repeat' first
    | (with_reducible first
        | assumption | apply withScan_frame | apply checked_frame | apply outUpd_frame | apply agree_foldl
        | apply agree_foldl_fst)
    | intro _ | dsimp only | split

theorem execSwatchSet_frame (c : Cmd) (s : State) {s₁ : State} (he : execSwatchSet c s = .next s₁) (hg : Agree m s₀ s)
    (h_scan : m.scan = true := by assumption) : Agree m s₀ s₁ := by
  injection he with he
  subst he
  repeat' first
    | (with_reducible first
        | assumption | apply hostCommand_frame | apply opSwatchSet_frame | apply agree_foldl
        | apply agree_foldl_fst)
    | intro _ | dsimp only | split

theorem opOutputStatus_frame (c : Cmd) (s : State) (hg : Agree m s₀ s) : Agree m s₀ (opOutputStatus c s).1 := by
  unfold opOutputStatus
  try dsimp only
  repeat' first
    | (with_reducible first
        | assumption | apply checked_frame | apply agree_foldl | apply agree_foldl_fst)
    | intro _ | dsimp only | split

theorem execOutputStatus_frame (c : Cmd) (s : State) {s₁ : State} (he : execOutputStatus c s = .next s₁) (hg : Agree m s₀ s)
    : Agree m s₀ s₁ := by
  injection he with he
  subst he
  repeat' first
    | (with_reducible first
        | assumption | apply hostCommand_frame | apply opOutputStatus_frame)
    | split

theorem drillEcho_frame (o : Nat) (good : Bool) (s : State) (hg : Agree m s₀ s) (h_pair : m.pair = true := by assumption) : Agree m s₀
    (drillEcho o good s) := by
  unfold drillEcho
  repeat' first
    | (with_reducible first
        | assumption | apply withPair_frame)
    | split

theorem echoPoll_frame (o : Nat) (a : Option EchoRead) (s : State) (hg : Agree m s₀ s) (h_pair : m.pair = true := by assumption)
    (h_scan : m.scan = true := by assumption) : Agree m s₀ (echoPoll o a s) := by
  unfold echoPoll
  try dsimp only
  repeat' first
    | (with_reducible first
        | assumption | apply drillEcho_frame | apply outSet_frame | apply raise_frame | apply agree_foldl
        | apply agree_foldl_fst)
    | intro _ | dsimp only | split

theorem execSinkEchoPoll_frame (output : Nat) (r : Option EchoRead) (s : State) {s₁ : State} (he : execSinkEchoPoll output r s = .next s₁)
    (hg : Agree m s₀ s) (h_pair : m.pair = true := by assumption) (h_scan : m.scan = true := by assumption) : Agree m s₀ s₁ := by
  injection he with he
  subst he
  repeat' first
    | (with_reducible first
        | assumption | apply echoPoll_frame)
    | split

theorem soClear_frame (off : Nat) (s : State) (hg : Agree m s₀ s) (h_scan : m.scan = true := by assumption) : Agree m s₀
    (soClear off s) := by
  unfold soClear
  repeat' first
    | (with_reducible first
        | assumption | apply outUpd_frame)
    | split

theorem lifeline_frame (g : RowCtx) (cx : Nat) (cy : Nat) (s : State) (hg : Agree m s₀ s) (h_mem : m.mem = true := by assumption)
    (h_str : m.str = true := by assumption) : Agree m s₀ (lifeline g cx cy s).2.2 := by
  unfold lifeline
  try dsimp only
  repeat' first
    | (with_reducible first
        | assumption | apply fetchStitch_frame | apply agree_foldl | apply agree_foldl_fst | apply agree_foldl_snd
        | apply agree_foldl_snd2)
    | intro _ | dsimp only | (refine agree_pair (by with_reducible assumption) ?_)
    | (refine agree_pair2 (by with_reducible assumption) ?_)
    | (refine agree_pair3 (by with_reducible assumption) ?_)
    | (refine agree_pair5 (by with_reducible assumption) ?_) | split

theorem canvasPart_frame (g : RowCtx) (cx : Nat) (cy : Nat) (s : State) (hg : Agree m s₀ s) (h_mem : m.mem = true := by assumption)
    (h_str : m.str = true := by assumption) : Agree m s₀ (canvasPart g cx cy s).2.2 := by
  unfold canvasPart
  try dsimp only
  repeat' first
    | (with_reducible first
        | assumption | apply fetchStitch_frame | apply lifeline_frame | apply agree_foldl | apply agree_foldl_fst
        | apply agree_foldl_snd | apply agree_foldl_snd2)
    | intro _ | dsimp only | (refine agree_pair (by with_reducible assumption) ?_)
    | (refine agree_pair2 (by with_reducible assumption) ?_)
    | (refine agree_pair3 (by with_reducible assumption) ?_)
    | (refine agree_pair5 (by with_reducible assumption) ?_) | split

theorem rowParts_frame (g : RowCtx) (x1 : List (Nat × Nat)) (x2 : State) (hg : Agree m s₀ x2) (h_mem : m.mem = true := by assumption)
    (h_str : m.str = true := by assumption) : Agree m s₀ (rowParts g x1 x2).2.2 := by
  induction x1 generalizing x2 with
  | nil =>
    unfold rowParts
    try dsimp only
    repeat' first
      | (with_reducible first
          | assumption | apply canvasPart_frame | apply agree_foldl | apply agree_foldl_fst | apply agree_foldl_snd
          | apply agree_foldl_snd2)
      | intro _ | dsimp only | (refine agree_pair (by with_reducible assumption) ?_)
      | (refine agree_pair2 (by with_reducible assumption) ?_)
      | (refine agree_pair3 (by with_reducible assumption) ?_)
      | (refine agree_pair5 (by with_reducible assumption) ?_) | split
  | cons _ _ ih =>
    unfold rowParts
    try dsimp only
    repeat' first
      | (with_reducible first
          | assumption | apply ih | apply canvasPart_frame | apply agree_foldl | apply agree_foldl_fst | apply agree_foldl_snd
          | apply agree_foldl_snd2)
      | intro _ | dsimp only | (refine agree_pair (by with_reducible assumption) ?_)
      | (refine agree_pair2 (by with_reducible assumption) ?_)
      | (refine agree_pair3 (by with_reducible assumption) ?_)
      | (refine agree_pair5 (by with_reducible assumption) ?_) | split

theorem judgeRow_frame (g : RowCtx) (s : State) (hg : Agree m s₀ s) (h_mem : m.mem = true := by assumption)
    (h_str : m.str = true := by assumption) : Agree m s₀ (judgeRow g s).2.2.2.2 := by
  unfold judgeRow
  try dsimp only
  repeat' first
    | (with_reducible first
        | assumption | apply rowParts_frame | apply agree_foldl | apply agree_foldl_fst | apply agree_foldl_snd
        | apply agree_foldl_snd2)
    | intro _ | dsimp only | (refine agree_pair (by with_reducible assumption) ?_)
    | (refine agree_pair2 (by with_reducible assumption) ?_)
    | (refine agree_pair3 (by with_reducible assumption) ?_)
    | (refine agree_pair5 (by with_reducible assumption) ?_) | split

theorem holdEnds_frame (o : Nat) (s : State) (hg : Agree m s₀ s) (h_scan : m.scan = true := by assumption) : Agree m s₀ (holdEnds o s) := by
  unfold holdEnds
  try dsimp only
  repeat' first
    | (with_reducible first
        | assumption | apply outSet_frame | apply trainBegin_frame | apply agree_foldl | apply agree_foldl_fst)
    | intro _ | dsimp only | split

theorem viewMoves_frame (o : Nat) (n : Nat) (s : State) (hg : Agree m s₀ s) (h_scan : m.scan = true := by assumption) : Agree m s₀
    (viewMoves o n s) := by
  unfold viewMoves
  try dsimp only
  repeat' first
    | (with_reducible first
        | assumption | apply outSet_frame | apply agree_foldl | apply agree_foldl_fst)
    | intro _ | dsimp only | split

theorem frameBegin_frame (o : Nat) (n : Nat) (s : State) (hg : Agree m s₀ s) (h_scan : m.scan = true := by assumption)
    (h_str : m.str = true := by assumption) (h_comp : m.comp = true := by assumption) : Agree m s₀ (frameBegin o n s) := by
  unfold frameBegin
  try dsimp only
  repeat' first
    | (with_reducible first
        | assumption | apply chaseSettle_frame | apply settle_frame | apply viewMoves_frame | apply holdEnds_frame
        | apply outSet_frame | apply outUpd_frame | apply agree_foldl | apply agree_foldl_fst
        | apply agree_foldl_snd | apply agree_foldl_snd2)
    | intro _ | dsimp only | (refine agree_pair (by with_reducible assumption) ?_)
    | (refine agree_pair2 (by with_reducible assumption) ?_)
    | (refine agree_pair3 (by with_reducible assumption) ?_)
    | (refine agree_pair5 (by with_reducible assumption) ?_) | split

theorem lifeVerify_frame (g : RowCtx) (p : Part) (s : State) (hg : Agree m s₀ s) (h_mem : m.mem = true := by assumption)
    (h_str : m.str = true := by assumption) : Agree m s₀ (lifeVerify g p s).2.2 := by
  unfold lifeVerify
  try dsimp only
  repeat' first
    | (with_reducible first
        | assumption | apply fetchStitch_frame | apply agree_foldl | apply agree_foldl_fst | apply agree_foldl_snd
        | apply agree_foldl_snd2)
    | intro _ | dsimp only | (refine agree_pair (by with_reducible assumption) ?_)
    | (refine agree_pair2 (by with_reducible assumption) ?_)
    | (refine agree_pair3 (by with_reducible assumption) ?_)
    | (refine agree_pair5 (by with_reducible assumption) ?_) | split

theorem lifeWrite_frame (g : RowCtx) (rescan : Bool) (s : State) (p : Part) (hg : Agree m s₀ s) (h_mem : m.mem = true := by assumption)
    (h_scan : m.scan = true := by assumption) (h_str : m.str = true := by assumption) (h_comp : m.comp = true := by assumption)
    : Agree m s₀ (lifeWrite g rescan s p) := by
  unfold lifeWrite
  try dsimp only
  repeat' first
    | (with_reducible first
        | assumption | apply lifeVerify_frame | apply outUpd_frame | apply writeStitch_frame | apply canUpd_frame
        | apply send_frame | apply agree_foldl | apply agree_foldl_fst | apply agree_foldl_snd
        | apply agree_foldl_snd2)
    | intro _ | dsimp only | (refine agree_pair (by with_reducible assumption) ?_)
    | (refine agree_pair2 (by with_reducible assumption) ?_)
    | (refine agree_pair3 (by with_reducible assumption) ?_)
    | (refine agree_pair5 (by with_reducible assumption) ?_) | split

theorem rowFetch_frame (o : Nat) (row : Nat) (env : ScanEnv) (s : State) (hg : Agree m s₀ s) (h_mem : m.mem = true := by assumption)
    (h_scan : m.scan = true := by assumption) (h_str : m.str = true := by assumption) (h_comp : m.comp = true := by assumption)
    : Agree m s₀ (rowFetch o row env s) := by
  unfold rowFetch
  try dsimp only
  repeat' first
    | (with_reducible first
        | assumption | apply judgeRow_frame | apply outSet_frame | apply lifeWrite_frame | apply agree_foldl
        | apply agree_foldl_fst | apply agree_foldl_snd | apply agree_foldl_snd2)
    | intro _ | dsimp only | (refine agree_pair (by with_reducible assumption) ?_)
    | (refine agree_pair2 (by with_reducible assumption) ?_)
    | (refine agree_pair3 (by with_reducible assumption) ?_)
    | (refine agree_pair5 (by with_reducible assumption) ?_) | split

theorem scanRow_frame (o : Nat) (row : Nat) (env : ScanEnv) (s : State) (hg : Agree m s₀ s) (h_mem : m.mem = true := by assumption)
    (h_scan : m.scan = true := by assumption) (h_str : m.str = true := by assumption) (h_comp : m.comp = true := by assumption)
    : Agree m s₀ (scanRow o row env s) := by
  unfold scanRow
  try dsimp only
  repeat' first
    | (with_reducible first
        | assumption | apply rowFetch_frame | apply frameBegin_frame | apply agree_foldl | apply agree_foldl_fst
        | apply agree_foldl_snd | apply agree_foldl_snd2)
    | intro _ | dsimp only | (refine agree_pair (by with_reducible assumption) ?_)
    | (refine agree_pair2 (by with_reducible assumption) ?_)
    | (refine agree_pair3 (by with_reducible assumption) ?_)
    | (refine agree_pair5 (by with_reducible assumption) ?_) | split

theorem execScanRowFetch_frame (output : Nat) (row : Nat) (env : ScanEnv) (s : State) {s₁ : State}
    (he : execScanRowFetch output row env s = .next s₁) (hg : Agree m s₀ s) (h_mem : m.mem = true := by assumption)
    (h_scan : m.scan = true := by assumption) (h_str : m.str = true := by assumption) (h_comp : m.comp = true := by assumption)
    : Agree m s₀ s₁ := by
  injection he with he
  subst he
  repeat' first
    | (with_reducible first
        | assumption | apply scanRow_frame)
    | split

theorem frameLanes_frame (n : Nat) (s : State) (o : Nat) (hg : Agree m s₀ s) (h_scan : m.scan = true := by assumption) : Agree m s₀
    (frameLanes n s o) := by
  unfold frameLanes
  try dsimp only
  repeat' first
    | (with_reducible first
        | assumption | apply outSet_frame | apply agree_foldl | apply agree_foldl_fst | apply agree_foldl_snd
        | apply agree_foldl_snd2)
    | intro _ | dsimp only | (refine agree_pair (by with_reducible assumption) ?_)
    | (refine agree_pair2 (by with_reducible assumption) ?_)
    | (refine agree_pair3 (by with_reducible assumption) ?_)
    | (refine agree_pair5 (by with_reducible assumption) ?_) | split

theorem frameSettle_frame (g : Nat) (n : Nat) (s : State) (c : Nat) (hg : Agree m s₀ s) (h_str : m.str = true := by assumption)
    (h_comp : m.comp = true := by assumption) : Agree m s₀ (frameSettle g n s c) := by
  unfold frameSettle
  repeat' first
    | (with_reducible first
        | assumption | apply settle_frame)
    | split

theorem commitsShown_frame (g : Nat) (n : Nat) (s : State) (hg : Agree m s₀ s) (h_comp : m.comp = true := by assumption) : Agree m s₀
    (commitsShown g n s) := by
  unfold commitsShown
  try dsimp only
  repeat' first
    | (with_reducible first
        | assumption | apply canUpd_frame | apply raise_frame | apply withComp_frame | apply agree_foldl
        | apply agree_foldl_fst)
    | intro _ | dsimp only | split

theorem nightPulses_frame (g : Nat) (n : Nat) (s : State) (hg : Agree m s₀ s) : Agree m s₀ (nightPulses g n s) := by
  unfold nightPulses
  try dsimp only
  repeat' first
    | (with_reducible first
        | assumption | apply takeFree_frame | apply send_frame | apply agree_foldl | apply agree_foldl_fst)
    | intro _ | dsimp only | split

theorem proofStep_frame (g : Nat) (s : State) (hg : Agree m s₀ s) (h_pair : m.pair = true := by assumption) : Agree m s₀
    (proofStep g s) := by
  unfold proofStep
  try dsimp only
  repeat' first
    | (with_reducible first
        | assumption | apply withPair_frame | apply agree_foldl | apply agree_foldl_fst)
    | intro _ | dsimp only | split

theorem frameStart_frame (g : Nat) (s : State) (hg : Agree m s₀ s) (h_tb : m.tb = true := by assumption)
    (h_pair : m.pair = true := by assumption) (h_scan : m.scan = true := by assumption) (h_str : m.str = true := by assumption)
    (h_comp : m.comp = true := by assumption) : Agree m s₀ (frameStart g s) := by
  unfold frameStart
  try dsimp only
  repeat' first
    | (with_reducible first
        | assumption | apply frameLanes_frame | apply flSet_frame | apply frameSettle_frame
        | apply nightPulses_frame | apply proofStep_frame | apply commitsShown_frame | apply agree_foldl
        | apply agree_foldl_fst)
    | intro _ | dsimp only | split

theorem execFrameDisplayStart_frame (gen : Nat) (s : State) {s₁ : State} (he : execFrameDisplayStart gen s = .next s₁) (hg : Agree m s₀ s)
    (h_tb : m.tb = true := by assumption) (h_pair : m.pair = true := by assumption) (h_scan : m.scan = true := by assumption)
    (h_str : m.str = true := by assumption) (h_comp : m.comp = true := by assumption) : Agree m s₀ s₁ := by
  injection he with he
  subst he
  repeat' first
    | (with_reducible first
        | assumption | apply frameStart_frame)
    | split

theorem recalStart_frame (s : State) (i : Nat) (hg : Agree m s₀ s) (h_lane : m.lane = true := by assumption) : Agree m s₀
    (recalStart s i) := by
  unfold recalStart
  repeat' first
    | (with_reducible first
        | assumption | apply laneEnter_frame | apply laneUpd_frame)
    | split

theorem recalWaiting_frame (o : Nat) (s : State) (hg : Agree m s₀ s) (h_lane : m.lane = true := by assumption) : Agree m s₀
    (recalWaiting o s) := by
  unfold recalWaiting
  try dsimp only
  repeat' first
    | (with_reducible first
        | assumption | apply recalStart_frame | apply agree_foldl | apply agree_foldl_fst)
    | intro _ | dsimp only | split

theorem outputFault_frame (o : Nat) (cause : Nat) (sy : Nat) (sx : Nat) (crc : W32) (got : W32) (s : State) (hg : Agree m s₀ s)
    (h_pair : m.pair = true := by assumption) (h_scan : m.scan = true := by assumption) : Agree m s₀
    (outputFault o cause sy sx crc got s) := by
  unfold outputFault
  try dsimp only
  repeat' first
    | (with_reducible first
        | assumption | apply outSet_frame | apply withPair_frame | apply raise_frame | apply agree_foldl
        | apply agree_foldl_fst | apply agree_foldl_snd | apply agree_foldl_snd2)
    | intro _ | dsimp only | (refine agree_pair (by with_reducible assumption) ?_)
    | (refine agree_pair2 (by with_reducible assumption) ?_)
    | (refine agree_pair3 (by with_reducible assumption) ?_)
    | (refine agree_pair5 (by with_reducible assumption) ?_) | split

theorem gapCheck_frame (o : Nat) (s : State) (hg : Agree m s₀ s) (h_pair : m.pair = true := by assumption) : Agree m s₀ (gapCheck o s) := by
  unfold gapCheck
  try dsimp only
  repeat' first
    | (with_reducible first
        | assumption | apply withPair_frame | apply agree_foldl | apply agree_foldl_fst | apply agree_foldl_snd
        | apply agree_foldl_snd2)
    | intro _ | dsimp only | (refine agree_pair (by with_reducible assumption) ?_)
    | (refine agree_pair2 (by with_reducible assumption) ?_)
    | (refine agree_pair3 (by with_reducible assumption) ?_)
    | (refine agree_pair5 (by with_reducible assumption) ?_) | split

theorem readbackCompare_frame (o : Nat) (row : Nat) (seen : List (Nat × List (List Nat))) (s : State) (hg : Agree m s₀ s)
    (h_lane : m.lane = true := by assumption) (h_pair : m.pair = true := by assumption) (h_scan : m.scan = true := by assumption)
    : Agree m s₀ (readbackCompare o row seen s) := by
  unfold readbackCompare
  try dsimp only
  repeat' first
    | (with_reducible first
        | assumption | apply outSet_frame | apply outputFault_frame | apply recalWaiting_frame
        | apply gapCheck_frame | apply agree_foldl | apply agree_foldl_fst | apply agree_foldl_snd
        | apply agree_foldl_snd2)
    | intro _ | dsimp only | (refine agree_pair (by with_reducible assumption) ?_)
    | (refine agree_pair2 (by with_reducible assumption) ?_)
    | (refine agree_pair3 (by with_reducible assumption) ?_)
    | (refine agree_pair5 (by with_reducible assumption) ?_) | split

theorem execReadbackCompare_frame (output : Nat) (row : Nat) (seen : List (Nat × List (List Nat))) (s : State) {s₁ : State}
    (he : execReadbackCompare output row seen s = .next s₁) (hg : Agree m s₀ s) (h_lane : m.lane = true := by assumption)
    (h_pair : m.pair = true := by assumption) (h_scan : m.scan = true := by assumption) : Agree m s₀ s₁ := by
  injection he with he
  subst he
  repeat' first
    | (with_reducible first
        | assumption | apply readbackCompare_frame | apply agree_foldl | apply agree_foldl_fst
        | apply agree_foldl_snd | apply agree_foldl_snd2)
    | intro _ | dsimp only | (refine agree_pair (by with_reducible assumption) ?_)
    | (refine agree_pair2 (by with_reducible assumption) ?_)
    | (refine agree_pair3 (by with_reducible assumption) ?_)
    | (refine agree_pair5 (by with_reducible assumption) ?_) | split

theorem lockLoss_frame (o : Nat) (s : State) (hg : Agree m s₀ s) (h_pair : m.pair = true := by assumption)
    (h_scan : m.scan = true := by assumption) : Agree m s₀ (lockLoss o s) := by
  unfold lockLoss
  try dsimp only
  repeat' first
    | (with_reducible first
        | assumption | apply takeFree_frame | apply outputFault_frame | apply outSet_frame | apply agree_foldl
        | apply agree_foldl_fst)
    | intro _ | dsimp only | split

theorem execReadbackLockLoss_frame (output : Nat) (s : State) {s₁ : State} (he : execReadbackLockLoss output s = .next s₁)
    (hg : Agree m s₀ s) (h_pair : m.pair = true := by assumption) (h_scan : m.scan = true := by assumption) : Agree m s₀ s₁ := by
  injection he with he
  subst he
  repeat' first
    | (with_reducible first
        | assumption | apply lockLoss_frame)
    | split

theorem keepAlive_frame (o : Nat) (s : State) (hg : Agree m s₀ s) (h_lane : m.lane = true := by assumption)
    (h_scan : m.scan = true := by assumption) : Agree m s₀ (keepAlive o s) := by
  unfold keepAlive
  try dsimp only
  repeat' first
    | (with_reducible first
        | assumption | apply outSet_frame | apply send_frame | apply recalWaiting_frame | apply agree_foldl
        | apply agree_foldl_fst)
    | intro _ | dsimp only | split

theorem execKeepaliveSet_frame (output : Nat) (s : State) {s₁ : State} (he : execKeepaliveSet output s = .next s₁) (hg : Agree m s₀ s)
    (h_lane : m.lane = true := by assumption) (h_scan : m.scan = true := by assumption) : Agree m s₀ s₁ := by
  injection he with he
  subst he
  repeat' first
    | (with_reducible first
        | assumption | apply keepAlive_frame)
    | split

theorem verdictEvent_frame (code : Nat) (o : Nat) (n : Nat) (es : List (Nat × EgStitch)) (mask : Bool) (s : State) (hg : Agree m s₀ s)
    : Agree m s₀ (verdictEvent code o n es mask s) := by
  unfold verdictEvent
  repeat' first
    | (with_reducible first
        | assumption | apply raise_frame)
    | split

theorem scanReport_frame (o : Nat) (n : Nat) (fails : List CompFail) (s : State) (hg : Agree m s₀ s)
    (h_str : m.str = true := by assumption) : Agree m s₀ (scanReport o n fails s) := by
  unfold scanReport
  try dsimp only
  repeat' first
    | (with_reducible first
        | assumption | apply custodyReport_frame | apply agree_foldl | apply agree_foldl_fst)
    | intro _ | dsimp only | split

theorem frameFinish_frame (o : Nat) (n : Nat) (s : State) (hg : Agree m s₀ s) (h_pair : m.pair = true := by assumption)
    (h_scan : m.scan = true := by assumption) (h_str : m.str = true := by assumption) (h_enc : m.enc = true := by assumption) : Agree m s₀
    (frameFinish o n s) := by
  unfold frameFinish
  repeat' first
    | (with_reducible first
        | assumption | apply scanReport_frame | apply verdictEvent_frame | apply auditWrite_frame
        | apply outSet_frame | apply ownDigest_frame)
    | split

theorem auditEntry_frame (o : Nat) (s : State) (hg : Agree m s₀ s) (h_lane : m.lane = true := by assumption)
    (h_pair : m.pair = true := by assumption) (h_scan : m.scan = true := by assumption) (h_str : m.str = true := by assumption)
    (h_enc : m.enc = true := by assumption) : Agree m s₀ (auditEntry o s) := by
  unfold auditEntry
  try dsimp only
  repeat' first
    | (with_reducible first
        | assumption | apply recalWaiting_frame | apply frameFinish_frame | apply agree_foldl
        | apply agree_foldl_fst | apply agree_foldl_snd | apply agree_foldl_snd2)
    | intro _ | dsimp only | (refine agree_pair (by with_reducible assumption) ?_)
    | (refine agree_pair2 (by with_reducible assumption) ?_)
    | (refine agree_pair3 (by with_reducible assumption) ?_)
    | (refine agree_pair5 (by with_reducible assumption) ?_) | split

theorem execAuditEntryWrite_frame (output : Nat) (s : State) {s₁ : State} (he : execAuditEntryWrite output s = .next s₁)
    (hg : Agree m s₀ s) (h_lane : m.lane = true := by assumption) (h_pair : m.pair = true := by assumption)
    (h_scan : m.scan = true := by assumption) (h_str : m.str = true := by assumption) (h_enc : m.enc = true := by assumption)
    : Agree m s₀ s₁ := by
  injection he with he
  subst he
  repeat' first
    | (with_reducible first
        | assumption | apply auditEntry_frame)
    | split

theorem withTouch_frame (s : State) (u : TouchUnit) (hg : Agree m s₀ s) (h_touch : m.touch = true := by assumption) : Agree m s₀
    (withTouch s u) := by
  unfold withTouch
  try dsimp only
  repeat' first
    | (with_reducible first
        | assumption | apply agree_foldl | apply agree_foldl_fst)
    | (simp only [agree_mk]; with_reducible refine agreeAt_touch (by assumption) ?_) | intro _ | dsimp only | split

theorem tpSet_frame (p : Nat) (x : TouchPanel) (s : State) (hg : Agree m s₀ s) (h_touch : m.touch = true := by assumption) : Agree m s₀
    (tpSet p x s) := by
  unfold tpSet
  repeat' first
    | (with_reducible first
        | assumption | apply withTouch_frame)
    | split

theorem tpUpd_frame (p : Nat) (f : TouchPanel → TouchPanel) (s : State) (hg : Agree m s₀ s) (h_touch : m.touch = true := by assumption)
    : Agree m s₀ (tpUpd p f s) := by
  unfold tpUpd
  repeat' first
    | (with_reducible first
        | assumption | apply tpSet_frame)
    | split

theorem teSet_frame (e : Nat) (x : TouchEngine) (s : State) (hg : Agree m s₀ s) (h_touch : m.touch = true := by assumption) : Agree m s₀
    (teSet e x s) := by
  unfold teSet
  repeat' first
    | (with_reducible first
        | assumption | apply withTouch_frame)
    | split

theorem touchEvent_frame (p : Nat) (s : State) (hg : Agree m s₀ s) : Agree m s₀ (touchEvent p s) := by
  unfold touchEvent
  repeat' first
    | (with_reducible first
        | assumption | apply raise_frame)
    | split

theorem gangEnter_frame (p : Nat) (s : State) (hg : Agree m s₀ s) (h_touch : m.touch = true := by assumption) : Agree m s₀
    (gangEnter p s) := by
  unfold gangEnter
  repeat' first
    | (with_reducible first
        | assumption | apply touchEvent_frame | apply tpUpd_frame)
    | split

theorem gangLeave_frame (now : Nat) (p : Nat) (s : State) (hg : Agree m s₀ s) (h_touch : m.touch = true := by assumption) : Agree m s₀
    (gangLeave now p s) := by
  unfold gangLeave
  repeat' first
    | (with_reducible first
        | assumption | apply touchEvent_frame | apply tpUpd_frame)
    | split

theorem gangsLeave_frame (s : State) (hg : Agree m s₀ s) (h_touch : m.touch = true := by assumption) : Agree m s₀ (gangsLeave s) := by
  unfold gangsLeave
  try dsimp only
  repeat' first
    | (with_reducible first
        | assumption | apply gangLeave_frame | apply agree_foldl | apply agree_foldl_fst)
    | intro _ | dsimp only | split

theorem touchQuiesce_frame (s : State) (hg : Agree m s₀ s) (h_touch : m.touch = true := by assumption) : Agree m s₀ (touchQuiesce s) := by
  unfold touchQuiesce
  try dsimp only
  repeat' first
    | (with_reducible first
        | assumption | apply withTouch_frame | apply gangEnter_frame | apply agree_foldl | apply agree_foldl_fst)
    | intro _ | dsimp only | split

theorem withPwr_frame (s : State) (u : PowerUnit) (hg : Agree m s₀ s) (h_pwr : m.pwr = true := by assumption) : Agree m s₀
    (withPwr s u) := by
  unfold withPwr
  try dsimp only
  repeat' first
    | (with_reducible first
        | assumption | apply agree_foldl | apply agree_foldl_fst)
    | (simp only [agree_mk]; with_reducible refine agreeAt_pwr (by assumption) ?_) | intro _ | dsimp only | split

theorem lanesDeep_frame (p : Nat → Bool) (s : State) (hg : Agree m s₀ s) (h_lane : m.lane = true := by assumption) : Agree m s₀
    (lanesDeep p s) := by
  unfold lanesDeep
  try dsimp only
  repeat' first
    | (with_reducible first
        | assumption | apply laneUpd_frame | apply agree_foldl | apply agree_foldl_fst)
    | intro _ | dsimp only | split

theorem lanesWake_frame (cause : Nat) (p : Nat → Bool) (s : State) (hg : Agree m s₀ s) (h_lane : m.lane = true := by assumption)
    : Agree m s₀ (lanesWake cause p s) := by
  unfold lanesWake
  try dsimp only
  repeat' first
    | (with_reducible first
        | assumption | apply laneEnter_frame | apply agree_foldl | apply agree_foldl_fst)
    | intro _ | dsimp only | split

theorem domainDown_frame (d : Nat) (s : State) (hg : Agree m s₀ s) (h_pwr : m.pwr = true := by assumption)
    (h_lane : m.lane = true := by assumption) : Agree m s₀ (domainDown d s) := by
  unfold domainDown
  repeat' first
    | (with_reducible first
        | assumption | apply lanesDeep_frame | apply withPwr_frame)
    | split

theorem domainUp_frame (d : Nat) (s : State) (hg : Agree m s₀ s) (h_pwr : m.pwr = true := by assumption) : Agree m s₀ (domainUp d s) := by
  unfold domainUp
  repeat' first
    | (with_reducible first
        | assumption | apply withPwr_frame)
    | split

theorem withBoot_frame (s : State) (b : Boot) (hg : Agree m s₀ s) (h_boot : m.boot = true := by assumption) : Agree m s₀
    (withBoot s b) := by
  unfold withBoot
  try dsimp only
  repeat' first
    | (with_reducible first
        | assumption | apply agree_foldl | apply agree_foldl_fst)
    | (simp only [agree_mk]; with_reducible refine agreeAt_boot (by assumption) ?_) | intro _ | dsimp only | split

theorem trialCommit_frame (s : State) (hg : Agree m s₀ s) (h_boot : m.boot = true := by assumption) : Agree m s₀ (trialCommit s) := by
  unfold trialCommit
  try dsimp only
  repeat' first
    | (with_reducible first
        | assumption | apply withBoot_frame | apply raise_frame | apply agree_foldl | apply agree_foldl_fst)
    | intro _ | dsimp only | split

theorem setMode_frame (new : Mode) (cause : Nat) (sh : Nat) (port : Nat) (s : State) (hg : Agree m s₀ s)
    (h_pwr : m.pwr = true := by assumption) (h_boot : m.boot = true := by assumption) (h_pair : m.pair = true := by assumption)
    (h_touch : m.touch = true := by assumption) : Agree m s₀ (setMode new cause sh port s) := by
  unfold setMode
  try dsimp only
  repeat' first
    | (with_reducible first
        | assumption | apply withPair_frame | apply withPwr_frame | apply raise_frame | apply trialCommit_frame
        | apply gangsLeave_frame | apply agree_foldl | apply agree_foldl_fst)
    | intro _ | dsimp only | split

theorem drillEnd_frame (s : State) (hg : Agree m s₀ s) (h_pair : m.pair = true := by assumption) : Agree m s₀ (drillEnd s) := by
  unfold drillEnd
  try dsimp only
  repeat' first
    | (with_reducible first
        | assumption | apply raise_frame | apply withPair_frame | apply agree_foldl | apply agree_foldl_fst
        | apply agree_foldl_snd | apply agree_foldl_snd2)
    | intro _ | dsimp only | (refine agree_pair (by with_reducible assumption) ?_)
    | (refine agree_pair2 (by with_reducible assumption) ?_)
    | (refine agree_pair3 (by with_reducible assumption) ?_)
    | (refine agree_pair5 (by with_reducible assumption) ?_) | split

theorem pairDrop_frame (s0 : State) (hg : Agree m s₀ s0) (h_pair : m.pair = true := by assumption) : Agree m s₀ (pairDrop s0) := by
  unfold pairDrop
  try dsimp only
  repeat' first
    | (with_reducible first
        | assumption | apply drillEnd_frame | apply withPair_frame | apply agree_foldl | apply agree_foldl_fst
        | apply agree_foldl_snd | apply agree_foldl_snd2)
    | intro _ | dsimp only | (refine agree_pair (by with_reducible assumption) ?_)
    | (refine agree_pair2 (by with_reducible assumption) ?_)
    | (refine agree_pair3 (by with_reducible assumption) ?_)
    | (refine agree_pair5 (by with_reducible assumption) ?_) | split

theorem enterSafeHold_frame (cause : Nat) (port : Nat) (s : State) (hg : Agree m s₀ s) (h_pwr : m.pwr = true := by assumption)
    (h_boot : m.boot = true := by assumption) (h_lane : m.lane = true := by assumption) (h_pair : m.pair = true := by assumption)
    (h_touch : m.touch = true := by assumption) : Agree m s₀ (enterSafeHold cause port s) := by
  unfold enterSafeHold
  try dsimp only
  repeat' first
    | (with_reducible first
        | assumption | apply setMode_frame | apply pairDrop_frame | apply withPwr_frame | apply domainDown_frame
        | apply agree_foldl | apply agree_foldl_fst)
    | intro _ | dsimp only | split

theorem safeHoldCause_frame (cause : Nat) (port : Nat) (s : State) (hg : Agree m s₀ s) (h_pwr : m.pwr = true := by assumption)
    (h_boot : m.boot = true := by assumption) (h_lane : m.lane = true := by assumption) (h_pair : m.pair = true := by assumption)
    (h_touch : m.touch = true := by assumption) : Agree m s₀ (safeHoldCause cause port s) := by
  unfold safeHoldCause
  repeat' first
    | (with_reducible first
        | assumption | apply withPwr_frame | apply withPair_frame | apply enterSafeHold_frame)
    | split

theorem enterOff_frame (s : State) (hg : Agree m s₀ s) (h_pwr : m.pwr = true := by assumption) (h_pair : m.pair = true := by assumption)
    (h_scan : m.scan = true := by assumption) : Agree m s₀ (enterOff s) := by
  unfold enterOff
  repeat' first
    | (with_reducible first
        | assumption | apply linkLoss_frame | apply withScan_frame | apply withPwr_frame | apply withPair_frame)
    | split

theorem powerComplete_frame (o : PowerOrigin) (status : Nat) (detail : W32) (s : State) (hg : Agree m s₀ s) : Agree m s₀
    (powerComplete o status detail s) := by
  unfold powerComplete
  repeat' first
    | (with_reducible first
        | assumption | apply completeOutst_frame)
    | split

theorem wakeEvent_frame (bits : Nat) (at_ : Nat) (s : State) (hg : Agree m s₀ s) : Agree m s₀ (wakeEvent bits at_ s) := by
  unfold wakeEvent
  repeat' first
    | (with_reducible first
        | assumption | apply raise_frame)
    | split

theorem powerStart_frame (tgt : PowerState) (o : PowerOrigin) (bits : Nat) (at_ : Nat) (s : State) (hg : Agree m s₀ s)
    (h_pwr : m.pwr = true := by assumption) (h_touch : m.touch = true := by assumption) : Agree m s₀ (powerStart tgt o bits at_ s).1 := by
  unfold powerStart
  try dsimp only
  repeat' first
    | (with_reducible first
        | assumption | apply withPwr_frame | apply touchQuiesce_frame | apply agree_foldl | apply agree_foldl_fst)
    | intro _ | dsimp only | split

theorem resumeRun_frame (s : State) (hg : Agree m s₀ s) (h_mem : m.mem = true := by assumption) (h_pwr : m.pwr = true := by assumption)
    (h_lane : m.lane = true := by assumption) : Agree m s₀ (resumeRun s) := by
  unfold resumeRun
  try dsimp only
  repeat' first
    | (with_reducible first
        | assumption | apply withPwr_frame | apply lanesWake_frame | apply agree_foldl | apply agree_foldl_fst)
    | (simp only [agree_mk]; with_reducible refine agreeAt_mem (by assumption) ?_) | intro _ | dsimp only | split

theorem powerAbort_frame (t : PowerTrans) (bits : Nat) (at_ : Nat) (s : State) (hg : Agree m s₀ s) (h_mem : m.mem = true := by assumption)
    (h_pwr : m.pwr = true := by assumption) (h_lane : m.lane = true := by assumption) (h_touch : m.touch = true := by assumption)
    : Agree m s₀ (powerAbort t bits at_ s) := by
  unfold powerAbort
  repeat' first
    | (with_reducible first
        | assumption | apply powerComplete_frame | apply raise_frame | apply resumeRun_frame | apply withPwr_frame
        | apply gangsLeave_frame | apply wakeEvent_frame)
    | split

theorem powerAsk_frame (tgt : PowerState) (o : PowerOrigin) (bits : Nat) (s : State) (hg : Agree m s₀ s)
    (h_mem : m.mem = true := by assumption) (h_pwr : m.pwr = true := by assumption) (h_lane : m.lane = true := by assumption)
    (h_touch : m.touch = true := by assumption) : Agree m s₀ (powerAsk tgt o bits s).1 := by
  unfold powerAsk
  repeat' first
    | (with_reducible first
        | assumption | apply powerStart_frame | apply powerAbort_frame | apply powerComplete_frame
        | apply withPwr_frame)
    | split

theorem powerPending_frame (s : State) (hg : Agree m s₀ s) (h_pwr : m.pwr = true := by assumption)
    (h_touch : m.touch = true := by assumption) : Agree m s₀ (powerPending s) := by
  unfold powerPending
  try dsimp only
  repeat' first
    | (with_reducible first
        | assumption | apply powerStart_frame | apply withPwr_frame | apply powerComplete_frame | apply agree_foldl
        | apply agree_foldl_fst)
    | intro _ | dsimp only | split

theorem opPowerState_frame (c : Cmd) (s : State) (hg : Agree m s₀ s) (h_mem : m.mem = true := by assumption)
    (h_pwr : m.pwr = true := by assumption) (h_lane : m.lane = true := by assumption) (h_touch : m.touch = true := by assumption)
    : Agree m s₀ (opPowerState c s).1 := by
  unfold opPowerState
  try dsimp only
  repeat' first
    | (with_reducible first
        | assumption | apply powerAsk_frame | apply agree_foldl | apply agree_foldl_fst)
    | intro _ | dsimp only | split

theorem execPowerState_frame (c : Cmd) (s : State) {s₁ : State} (he : execPowerState c s = .next s₁) (hg : Agree m s₀ s)
    (h_mem : m.mem = true := by assumption) (h_pwr : m.pwr = true := by assumption) (h_lane : m.lane = true := by assumption)
    (h_touch : m.touch = true := by assumption) : Agree m s₀ s₁ := by
  injection he with he
  subst he
  repeat' first
    | (with_reducible first
        | assumption | apply hostCommand_frame | apply opPowerState_frame | apply agree_foldl
        | apply agree_foldl_fst)
    | intro _ | dsimp only | split

theorem wakeUp_frame (bit : Nat) (s : State) (hg : Agree m s₀ s) (h_mem : m.mem = true := by assumption)
    (h_pwr : m.pwr = true := by assumption) (h_lane : m.lane = true := by assumption) (h_touch : m.touch = true := by assumption)
    : Agree m s₀ (wakeUp bit s) := by
  unfold wakeUp
  repeat' first
    | (with_reducible first
        | assumption | apply withPwr_frame | apply powerAsk_frame)
    | split

theorem wakePin_frame (level : Bool) (s : State) (hg : Agree m s₀ s) (h_mem : m.mem = true := by assumption)
    (h_pwr : m.pwr = true := by assumption) (h_boot : m.boot = true := by assumption) (h_lane : m.lane = true := by assumption)
    (h_touch : m.touch = true := by assumption) : Agree m s₀ (wakePin level s) := by
  unfold wakePin
  try dsimp only
  repeat' first
    | (with_reducible first
        | assumption | apply withPwr_frame | apply wakeUp_frame | apply agree_foldl | apply agree_foldl_fst)
    | (simp only [agree_mk]; with_reducible refine agreeAt_boot (by assumption) ?_) | intro _ | dsimp only | split

theorem execWakePin_frame (level : Bool) (s : State) {s₁ : State} (he : execWakePin level s = .next s₁) (hg : Agree m s₀ s)
    (h_mem : m.mem = true := by assumption) (h_pwr : m.pwr = true := by assumption) (h_boot : m.boot = true := by assumption)
    (h_lane : m.lane = true := by assumption) (h_touch : m.touch = true := by assumption) : Agree m s₀ s₁ := by
  injection he with he
  subst he
  repeat' first
    | (with_reducible first
        | assumption | apply wakePin_frame)
    | split

theorem hostAccessWake_frame (s : State) (hg : Agree m s₀ s) (h_mem : m.mem = true := by assumption)
    (h_pwr : m.pwr = true := by assumption) (h_lane : m.lane = true := by assumption) (h_touch : m.touch = true := by assumption)
    : Agree m s₀ (hostAccessWake s) := by
  unfold hostAccessWake
  repeat' first
    | (with_reducible first
        | assumption | apply wakeUp_frame)
    | split

theorem execHostAccessWake_frame (s : State) {s₁ : State} (he : execHostAccessWake s = .next s₁) (hg : Agree m s₀ s)
    (h_mem : m.mem = true := by assumption) (h_pwr : m.pwr = true := by assumption) (h_lane : m.lane = true := by assumption)
    (h_touch : m.touch = true := by assumption) : Agree m s₀ s₁ := by
  injection he with he
  subst he
  repeat' first
    | (with_reducible first
        | assumption | apply hostAccessWake_frame)
    | split

theorem touchApproachWake_frame (s : State) (hg : Agree m s₀ s) (h_mem : m.mem = true := by assumption)
    (h_pwr : m.pwr = true := by assumption) (h_lane : m.lane = true := by assumption) (h_touch : m.touch = true := by assumption)
    : Agree m s₀ (touchApproachWake s) := by
  unfold touchApproachWake
  repeat' first
    | (with_reducible first
        | assumption | apply wakeUp_frame)
    | split

theorem vcoreHold_frame (mv : Nat) (s : State) (hg : Agree m s₀ s) (h_pwr : m.pwr = true := by assumption) : Agree m s₀
    (vcoreHold mv s) := by
  unfold vcoreHold
  repeat' first
    | (with_reducible first
        | assumption | apply withPwr_frame | apply send_frame)
    | split

theorem entryEnd_frame (t : PowerTrans) (s : State) (hg : Agree m s₀ s) (h_mem : m.mem = true := by assumption)
    (h_pwr : m.pwr = true := by assumption) (h_lane : m.lane = true := by assumption) (h_pair : m.pair = true := by assumption)
    (h_scan : m.scan = true := by assumption) : Agree m s₀ (entryEnd t s) := by
  unfold entryEnd
  try dsimp only
  repeat' first
    | (with_reducible first
        | assumption | apply withPwr_frame | apply powerComplete_frame | apply raise_frame | apply lanesDeep_frame
        | apply vcoreHold_frame | apply linkLoss_frame | apply enterOff_frame | apply agree_foldl
        | apply agree_foldl_fst)
    | (simp only [agree_mk]; with_reducible refine agreeAt_mem (by assumption) ?_) | intro _ | dsimp only | split

theorem deepTimes_frame (s : State) (hg : Agree m s₀ s) (h_tb : m.tb = true := by assumption) : Agree m s₀ (deepTimes s) := by
  unfold deepTimes
  repeat' first
    | (with_reducible first
        | assumption | apply setT0State_frame)
    | (simp only [agree_mk]; with_reducible refine agreeAt_tb (by assumption) ?_) | split

theorem lanesBack_frame (s : State) (hg : Agree m s₀ s) (h_lane : m.lane = true := by assumption) : Agree m s₀ (lanesBack s) := by
  unfold lanesBack
  try dsimp only
  repeat' first
    | (with_reducible first
        | assumption | apply laneLeave_frame | apply agree_foldl | apply agree_foldl_fst)
    | intro _ | dsimp only | split

theorem exitEnd_frame (t : PowerTrans) (env : ExitEnv) (s : State) (hg : Agree m s₀ s) (h_tb : m.tb = true := by assumption)
    (h_mem : m.mem = true := by assumption) (h_pwr : m.pwr = true := by assumption) (h_boot : m.boot = true := by assumption)
    (h_lane : m.lane = true := by assumption) (h_pair : m.pair = true := by assumption) (h_touch : m.touch = true := by assumption)
    : Agree m s₀ (exitEnd t env s) := by
  unfold exitEnd
  try dsimp only
  repeat' first
    | (with_reducible first
        | assumption | apply withPwr_frame | apply vcoreHold_frame | apply resumeRun_frame | apply lanesBack_frame
        | apply deepTimes_frame | apply raise_frame | apply wakeEvent_frame | apply gangsLeave_frame
        | apply powerComplete_frame | apply safeHoldCause_frame | apply agree_foldl | apply agree_foldl_fst)
    | (simp only [agree_mk]; with_reducible refine agreeAt ?_) | intro _ | dsimp only | split

theorem levelWake_frame (s : State) (hg : Agree m s₀ s) (h_mem : m.mem = true := by assumption) (h_pwr : m.pwr = true := by assumption)
    (h_lane : m.lane = true := by assumption) (h_touch : m.touch = true := by assumption) : Agree m s₀ (levelWake s) := by
  unfold levelWake
  repeat' first
    | (with_reducible first
        | assumption | apply wakeUp_frame)
    | split

theorem transitionEnd_frame (env : ExitEnv) (s : State) (hg : Agree m s₀ s) (h_tb : m.tb = true := by assumption)
    (h_mem : m.mem = true := by assumption) (h_pwr : m.pwr = true := by assumption) (h_boot : m.boot = true := by assumption)
    (h_lane : m.lane = true := by assumption) (h_pair : m.pair = true := by assumption) (h_scan : m.scan = true := by assumption)
    (h_touch : m.touch = true := by assumption) : Agree m s₀ (transitionEnd env s) := by
  unfold transitionEnd
  repeat' first
    | (with_reducible first
        | assumption | apply levelWake_frame | apply powerPending_frame | apply entryEnd_frame
        | apply exitEnd_frame)
    | split

theorem execPowerTransitionEnd_frame (env : ExitEnv) (s : State) {s₁ : State} (he : execPowerTransitionEnd env s = .next s₁)
    (hg : Agree m s₀ s) (h_tb : m.tb = true := by assumption) (h_mem : m.mem = true := by assumption)
    (h_pwr : m.pwr = true := by assumption) (h_boot : m.boot = true := by assumption) (h_lane : m.lane = true := by assumption)
    (h_pair : m.pair = true := by assumption) (h_scan : m.scan = true := by assumption) (h_touch : m.touch = true := by assumption)
    : Agree m s₀ s₁ := by
  injection he with he
  subst he
  repeat' first
    | (with_reducible first
        | assumption | apply transitionEnd_frame)
    | split

theorem opDomainSet_frame (c : Cmd) (s : State) (hg : Agree m s₀ s) (h_pwr : m.pwr = true := by assumption)
    (h_lane : m.lane = true := by assumption) : Agree m s₀ (opDomainSet c s).1 := by
  unfold opDomainSet
  try dsimp only
  repeat' first
    | (with_reducible first
        | assumption | apply checked_frame | apply domainUp_frame | apply domainDown_frame | apply agree_foldl
        | apply agree_foldl_fst)
    | intro _ | dsimp only | split

theorem domainReady_frame (d : Nat) (s : State) (hg : Agree m s₀ s) (h_pwr : m.pwr = true := by assumption)
    (h_lane : m.lane = true := by assumption) : Agree m s₀ (domainReady d s) := by
  unfold domainReady
  repeat' first
    | (with_reducible first
        | assumption | apply lanesWake_frame | apply withPwr_frame)
    | split

theorem execDomainReady_frame (domain : Nat) (s : State) {s₁ : State} (he : execDomainReady domain s = .next s₁) (hg : Agree m s₀ s)
    (h_pwr : m.pwr = true := by assumption) (h_lane : m.lane = true := by assumption) : Agree m s₀ s₁ := by
  injection he with he
  subst he
  repeat' first
    | (with_reducible first
        | assumption | apply domainReady_frame)
    | split

theorem thermalEvent_frame (cond : Nat) (up : Bool) (lid : W16) (junction : W16) (s : State) (hg : Agree m s₀ s) : Agree m s₀
    (thermalEvent cond up lid junction s) := by
  unfold thermalEvent
  repeat' first
    | (with_reducible first
        | assumption | apply raise_frame)
    | split

theorem thermalCrossing_frame (lid : W16) (junction : W16) (s : State) (hg : Agree m s₀ s) (h_pwr : m.pwr = true := by assumption)
    : Agree m s₀ (thermalCrossing lid junction s) := by
  unfold thermalCrossing
  try dsimp only
  repeat' first
    | (with_reducible first
        | assumption | apply withPwr_frame | apply thermalEvent_frame | apply agree_foldl | apply agree_foldl_fst)
    | intro _ | dsimp only | split

theorem execThermalCrossing_frame (lid : W16) (junction : W16) (s : State) {s₁ : State}
    (he : execThermalCrossing lid junction s = .next s₁) (hg : Agree m s₀ s) (h_pwr : m.pwr = true := by assumption) : Agree m s₀ s₁ := by
  injection he with he
  subst he
  repeat' first
    | (with_reducible first
        | assumption | apply thermalCrossing_frame)
    | split

theorem junctionOverheat_frame (s : State) (hg : Agree m s₀ s) (h_pwr : m.pwr = true := by assumption)
    (h_boot : m.boot = true := by assumption) (h_lane : m.lane = true := by assumption) (h_pair : m.pair = true := by assumption)
    (h_touch : m.touch = true := by assumption) : Agree m s₀ (junctionOverheat s) := by
  unfold junctionOverheat
  repeat' first
    | (with_reducible first
        | assumption | apply safeHoldCause_frame)
    | split

theorem execJunctionOverheat_frame (s : State) {s₁ : State} (he : execJunctionOverheat s = .next s₁) (hg : Agree m s₀ s)
    (h_pwr : m.pwr = true := by assumption) (h_boot : m.boot = true := by assumption) (h_lane : m.lane = true := by assumption)
    (h_pair : m.pair = true := by assumption) (h_touch : m.touch = true := by assumption) : Agree m s₀ s₁ := by
  injection he with he
  subst he
  repeat' first
    | (with_reducible first
        | assumption | apply junctionOverheat_frame)
    | split

theorem thermalTrip_frame (junction : W16) (s : State) (hg : Agree m s₀ s) (h_pwr : m.pwr = true := by assumption)
    (h_pair : m.pair = true := by assumption) (h_scan : m.scan = true := by assumption) : Agree m s₀ (thermalTrip junction s) := by
  unfold thermalTrip
  repeat' first
    | (with_reducible first
        | assumption | apply enterOff_frame | apply withPwr_frame)
    | split

theorem execThermalTrip_frame (junction : W16) (s : State) {s₁ : State} (he : execThermalTrip junction s = .next s₁) (hg : Agree m s₀ s)
    (h_pwr : m.pwr = true := by assumption) (h_pair : m.pair = true := by assumption) (h_scan : m.scan = true := by assumption)
    : Agree m s₀ s₁ := by
  injection he with he
  subst he
  repeat' first
    | (with_reducible first
        | assumption | apply thermalTrip_frame)
    | split

theorem watchdogMiss_frame (processor : Nat) (s : State) (hg : Agree m s₀ s) (h_pwr : m.pwr = true := by assumption)
    (h_boot : m.boot = true := by assumption) (h_lane : m.lane = true := by assumption) (h_pair : m.pair = true := by assumption)
    (h_touch : m.touch = true := by assumption) : Agree m s₀ (watchdogMiss processor s) := by
  unfold watchdogMiss
  repeat' first
    | (with_reducible first
        | assumption | apply safeHoldCause_frame | apply withPwr_frame)
    | split

theorem execFirmwareWatchdogMiss_frame (processor : Nat) (s : State) {s₁ : State} (he : execFirmwareWatchdogMiss processor s = .next s₁)
    (hg : Agree m s₀ s) (h_pwr : m.pwr = true := by assumption) (h_boot : m.boot = true := by assumption)
    (h_lane : m.lane = true := by assumption) (h_pair : m.pair = true := by assumption) (h_touch : m.touch = true := by assumption)
    : Agree m s₀ s₁ := by
  injection he with he
  subst he
  repeat' first
    | (with_reducible first
        | assumption | apply watchdogMiss_frame)
    | split

theorem pwcClear_frame (lo : Nat) (s : State) (hg : Agree m s₀ s) (h_pwr : m.pwr = true := by assumption) : Agree m s₀ (pwcClear lo s) := by
  unfold pwcClear
  repeat' first
    | (with_reducible first
        | assumption | apply withPwr_frame)
    | split

theorem pwcCfgWrite_frame (v : W32) (s : State) (hg : Agree m s₀ s) (h_pwr : m.pwr = true := by assumption) : Agree m s₀
    (pwcCfgWrite v s) := by
  unfold pwcCfgWrite
  repeat' first
    | (with_reducible first
        | assumption | apply withPwr_frame)
    | split

theorem pwcReqWrite_frame (init : Nat) (v : W32) (s : State) (hg : Agree m s₀ s) (h_mem : m.mem = true := by assumption)
    (h_pwr : m.pwr = true := by assumption) (h_lane : m.lane = true := by assumption) (h_touch : m.touch = true := by assumption)
    : Agree m s₀ (pwcReqWrite init v s) := by
  unfold pwcReqWrite
  try dsimp only
  repeat' first
    | (with_reducible first
        | assumption | apply withPwr_frame | apply paramRefused_frame | apply powerAsk_frame | apply agree_foldl
        | apply agree_foldl_fst)
    | intro _ | dsimp only | split

theorem execPwcReqGo_frame (a : RegW) (s : State) {s₁ : State} (he : execPwcReqGo a s = .next s₁) (hg : Agree m s₀ s)
    (h_mem : m.mem = true := by assumption) (h_pwr : m.pwr = true := by assumption) (h_lane : m.lane = true := by assumption)
    (h_touch : m.touch = true := by assumption) : Agree m s₀ s₁ := by
  injection he with he
  subst he
  repeat' first
    | (with_reducible first
        | assumption | apply regWrite_frame | apply pwcReqWrite_frame | apply agree_foldl | apply agree_foldl_fst)
    | intro _ | dsimp only | split

theorem opTouchPanelSet_frame (c : Cmd) (s : State) (hg : Agree m s₀ s) (h_touch : m.touch = true := by assumption) : Agree m s₀
    (opTouchPanelSet c s).1 := by
  unfold opTouchPanelSet
  try dsimp only
  repeat' first
    | (with_reducible first
        | assumption | apply checked_frame | apply tpUpd_frame | apply agree_foldl | apply agree_foldl_fst)
    | intro _ | dsimp only | split

theorem execTouchPanelSet_frame (c : Cmd) (s : State) {s₁ : State} (he : execTouchPanelSet c s = .next s₁) (hg : Agree m s₀ s)
    (h_touch : m.touch = true := by assumption) : Agree m s₀ s₁ := by
  injection he with he
  subst he
  repeat' first
    | (with_reducible first
        | assumption | apply hostCommand_frame | apply opTouchPanelSet_frame | apply agree_foldl
        | apply agree_foldl_fst)
    | intro _ | dsimp only | split

theorem baselineStart_frame (p : Nat) (s : State) (hg : Agree m s₀ s) (h_touch : m.touch = true := by assumption) : Agree m s₀
    (baselineStart p s) := by
  unfold baselineStart
  repeat' first
    | (with_reducible first
        | assumption | apply touchEvent_frame | apply tpUpd_frame)
    | split

theorem opTouchEnable_frame (c : Cmd) (s : State) (hg : Agree m s₀ s) (h_touch : m.touch = true := by assumption) : Agree m s₀
    (opTouchEnable c s).1 := by
  unfold opTouchEnable
  try dsimp only
  repeat' first
    | (with_reducible first
        | assumption | apply checked_frame | apply baselineStart_frame | apply agree_foldl | apply agree_foldl_fst)
    | intro _ | dsimp only | split

theorem execTouchEnable_frame (c : Cmd) (s : State) {s₁ : State} (he : execTouchEnable c s = .next s₁) (hg : Agree m s₀ s)
    (h_touch : m.touch = true := by assumption) : Agree m s₀ s₁ := by
  injection he with he
  subst he
  repeat' first
    | (with_reducible first
        | assumption | apply hostCommand_frame | apply opTouchEnable_frame | apply agree_foldl
        | apply agree_foldl_fst)
    | intro _ | dsimp only | split

theorem opTouchDisable_frame (c : Cmd) (s : State) (hg : Agree m s₀ s) (h_touch : m.touch = true := by assumption) : Agree m s₀
    (opTouchDisable c s).1 := by
  unfold opTouchDisable
  try dsimp only
  repeat' first
    | (with_reducible first
        | assumption | apply checked_frame | apply touchEvent_frame | apply tpUpd_frame | apply agree_foldl
        | apply agree_foldl_fst)
    | intro _ | dsimp only | split

theorem execTouchDisable_frame (c : Cmd) (s : State) {s₁ : State} (he : execTouchDisable c s = .next s₁) (hg : Agree m s₀ s)
    (h_touch : m.touch = true := by assumption) : Agree m s₀ s₁ := by
  injection he with he
  subst he
  repeat' first
    | (with_reducible first
        | assumption | apply hostCommand_frame | apply opTouchDisable_frame | apply agree_foldl
        | apply agree_foldl_fst)
    | intro _ | dsimp only | split

theorem opTouchRefSave_frame (c : Cmd) (s : State) (hg : Agree m s₀ s) (h_touch : m.touch = true := by assumption) : Agree m s₀
    (opTouchRefSave c s).1 := by
  unfold opTouchRefSave
  try dsimp only
  repeat' first
    | (with_reducible first
        | assumption | apply checked_frame | apply withTouch_frame | apply agree_foldl | apply agree_foldl_fst)
    | intro _ | dsimp only | split

theorem execTouchRefSave_frame (c : Cmd) (s : State) {s₁ : State} (he : execTouchRefSave c s = .next s₁) (hg : Agree m s₀ s)
    (h_touch : m.touch = true := by assumption) : Agree m s₀ s₁ := by
  injection he with he
  subst he
  repeat' first
    | (with_reducible first
        | assumption | apply hostCommand_frame | apply opTouchRefSave_frame | apply agree_foldl
        | apply agree_foldl_fst)
    | intro _ | dsimp only | split

theorem refSaveEnd_frame (flashOk : Bool) (s : State) (hg : Agree m s₀ s) (h_boot : m.boot = true := by assumption)
    (h_touch : m.touch = true := by assumption) : Agree m s₀ (refSaveEnd flashOk s) := by
  unfold refSaveEnd
  try dsimp only
  repeat' first
    | (with_reducible first
        | assumption | apply withTouch_frame | apply completeOutst_frame | apply takeFree_frame | apply agree_foldl
        | apply agree_foldl_fst)
    | (simp only [agree_mk]; with_reducible refine agreeAt_boot (by assumption) ?_) | intro _ | dsimp only | split

theorem execTouchRefSaveEnd_frame (flashOk : Bool) (s : State) {s₁ : State} (he : execTouchRefSaveEnd flashOk s = .next s₁)
    (hg : Agree m s₀ s) (h_boot : m.boot = true := by assumption) (h_touch : m.touch = true := by assumption) : Agree m s₀ s₁ := by
  injection he with he
  subst he
  repeat' first
    | (with_reducible first
        | assumption | apply refSaveEnd_frame)
    | split

theorem opTouchSelftest_frame (c : Cmd) (s : State) (hg : Agree m s₀ s) (h_touch : m.touch = true := by assumption) : Agree m s₀
    (opTouchSelftest c s).1 := by
  unfold opTouchSelftest
  try dsimp only
  repeat' first
    | (with_reducible first
        | assumption | apply checked_frame | apply touchEvent_frame | apply tpUpd_frame | apply agree_foldl
        | apply agree_foldl_fst)
    | intro _ | dsimp only | split

theorem execTouchSelftest_frame (c : Cmd) (s : State) {s₁ : State} (he : execTouchSelftest c s = .next s₁) (hg : Agree m s₀ s)
    (h_touch : m.touch = true := by assumption) : Agree m s₀ s₁ := by
  injection he with he
  subst he
  repeat' first
    | (with_reducible first
        | assumption | apply hostCommand_frame | apply opTouchSelftest_frame | apply agree_foldl
        | apply agree_foldl_fst)
    | intro _ | dsimp only | split

theorem opTouchStatus_frame (c : Cmd) (s : State) (hg : Agree m s₀ s) : Agree m s₀ (opTouchStatus c s).1 := by
  unfold opTouchStatus
  try dsimp only
  repeat' first
    | (with_reducible first
        | assumption | apply checked_frame | apply agree_foldl | apply agree_foldl_fst)
    | intro _ | dsimp only | split

theorem execTouchStatus_frame (c : Cmd) (s : State) {s₁ : State} (he : execTouchStatus c s = .next s₁) (hg : Agree m s₀ s)
    : Agree m s₀ s₁ := by
  injection he with he
  subst he
  repeat' first
    | (with_reducible first
        | assumption | apply hostCommand_frame | apply opTouchStatus_frame)
    | split

theorem panelScan_frame (k : Nat) (vs : List (List Int)) (p : Nat) (s : State) (hg : Agree m s₀ s)
    (h_touch : m.touch = true := by assumption) : Agree m s₀ (panelScan k vs p s).2.2 := by
  unfold panelScan
  try dsimp only
  repeat' first
    | (with_reducible first
        | assumption | apply tpSet_frame | apply agree_foldl | apply agree_foldl_fst)
    | intro _ | dsimp only | split

theorem touchScanStart_frame (e : Nat) (env : ListenEnv) (s : State) (hg : Agree m s₀ s) (h_touch : m.touch = true := by assumption)
    : Agree m s₀ (touchScanStart e env s) := by
  unfold touchScanStart
  try dsimp only
  repeat' first
    | (with_reducible first
        | assumption | apply panelScan_frame | apply teSet_frame | apply agree_foldl | apply agree_foldl_fst)
    | intro _ | dsimp only | split

theorem execTouchScanStart_frame (engine : Nat) (env : ListenEnv) (s : State) {s₁ : State}
    (he : execTouchScanStart engine env s = .next s₁) (hg : Agree m s₀ s) (h_touch : m.touch = true := by assumption) : Agree m s₀ s₁ := by
  injection he with he
  subst he
  repeat' first
    | (with_reducible first
        | assumption | apply touchScanStart_frame)
    | split

theorem rebase_frame (x : TouchPanel) (f : Nat) (raw : List Int) (delta : List Int) (k : Nat) (at_ : Nat) (p : Nat) (s : State)
    (hg : Agree m s₀ s) (h_touch : m.touch = true := by assumption) : Agree m s₀ (rebase x f raw delta k at_ p s) := by
  unfold rebase
  try dsimp only
  repeat' first
    | (with_reducible first
        | assumption | apply tpSet_frame | apply raise_frame | apply agree_foldl | apply agree_foldl_fst)
    | intro _ | dsimp only | split

theorem touchPut_frame (fn : Nat) (p : Nat) (ws : List W32) (s : State) (hg : Agree m s₀ s) (h_touch : m.touch = true := by assumption)
    : Agree m s₀ (touchPut fn p ws s) := by
  unfold touchPut
  try dsimp only
  repeat' first
    | (with_reducible first
        | assumption | apply ringWrite_frame | apply withTouch_frame | apply tpUpd_frame | apply agree_foldl
        | apply agree_foldl_fst)
    | intro _ | dsimp only | split

theorem touchReport_frame (p : Nat) (freq : Nat) (sc : TouchScan) (repeated : Bool) (ovl : Bool) (entries : List (List W32)) (s : State)
    (hg : Agree m s₀ s) (h_touch : m.touch = true := by assumption) : Agree m s₀ (touchReport p freq sc repeated ovl entries s) := by
  unfold touchReport
  try dsimp only
  repeat' first
    | (with_reducible first
        | assumption | apply touchPut_frame | apply agree_foldl | apply agree_foldl_fst)
    | intro _ | dsimp only | split

theorem reportContacts_frame (p : Nat) (freq : Nat) (sc : TouchScan) (repeated : Bool) (live : List Contact) (ended : List Contact)
    (s : State) (hg : Agree m s₀ s) (h_touch : m.touch = true := by assumption) : Agree m s₀
    (reportContacts p freq sc repeated live ended s) := by
  unfold reportContacts
  try dsimp only
  repeat' first
    | (with_reducible first
        | assumption | apply tpUpd_frame | apply touchReport_frame | apply agree_foldl | apply agree_foldl_fst)
    | intro _ | dsimp only | split

theorem noiseJudge_frame (p : Nat) (sc : TouchScan) (n : List Nat) (s : State) (hg : Agree m s₀ s)
    (h_touch : m.touch = true := by assumption) : Agree m s₀ (noiseJudge p sc n s) := by
  unfold noiseJudge
  try dsimp only
  repeat' first
    | (with_reducible first
        | assumption | apply tpSet_frame | apply raise_frame | apply agree_foldl | apply agree_foldl_fst)
    | intro _ | dsimp only | split

theorem startScan_frame (p : Nat) (f : Nat) (raw : List Int) (s : State) (hg : Agree m s₀ s) (h_touch : m.touch = true := by assumption)
    : Agree m s₀ (startScan p f raw s) := by
  unfold startScan
  repeat' first
    | (with_reducible first
        | assumption | apply tpUpd_frame)
    | split

theorem longContact_helper (p : Nat) (sc : TouchScan) (acc : State × List Contact) (c : Contact) (h : Agree m s₀ acc.1) :
    Agree m s₀ (longContact p sc acc c).1 := by
  unfold longContact
  dsimp only
  split
  · exact h
  · exact raise_frame _ _ _ h

theorem fullScan_frame (p f : Nat) (sc : TouchScan) (raw : List Int) (s : State) (h : Agree m s₀ s)
    (h_touch : m.touch = true := by assumption) : Agree m s₀ (fullScan p f sc raw s) := by
  exact reportContacts_frame _ _ _ _ _ _ _ (agree_foldl_fst (fun _ _ hy => longContact_helper _ _ _ _ hy) (rebase_frame _ _ _ _ _ _ _ _ h))

theorem refreshScan_frame (p f : Nat) (sc : TouchScan) (raw : List Int) (s : State) (h : Agree m s₀ s)
    (h_touch : m.touch = true := by assumption) : Agree m s₀ (refreshScan p f sc raw s) := by
  exact reportContacts_frame _ _ _ _ _ _ _ (agree_foldl_fst (fun _ _ hy => longContact_helper _ _ _ _ hy) (tpSet_frame _ _ _ h))

theorem gangScan_frame (p : Nat) (sc : TouchScan) (raw : List Int) (s : State) (hg : Agree m s₀ s) (h_mem : m.mem = true := by assumption)
    (h_pwr : m.pwr = true := by assumption) (h_lane : m.lane = true := by assumption) (h_touch : m.touch = true := by assumption)
    : Agree m s₀ (gangScan p sc raw s) := by
  unfold gangScan
  try dsimp only
  repeat' first
    | (with_reducible first
        | assumption | apply tpSet_frame | apply raise_frame | apply gangLeave_frame
        | apply touchApproachWake_frame | apply agree_foldl | apply agree_foldl_fst)
    | intro _ | dsimp only | split

theorem panelResult_frame (p : Nat) (sc : TouchScan) (kind : Option ScanKind) (noise : List Nat) (x4 : List (List Int)) (s : State)
    (hg : Agree m s₀ s) (h_mem : m.mem = true := by assumption) (h_pwr : m.pwr = true := by assumption)
    (h_lane : m.lane = true := by assumption) (h_touch : m.touch = true := by assumption) : Agree m s₀
    (panelResult p sc kind noise x4 s) := by
  unfold panelResult
  try dsimp only
  repeat' first
    | (with_reducible first
        | assumption | apply startScan_frame | apply noiseJudge_frame | apply fullScan_frame
        | apply refreshScan_frame | apply gangScan_frame | apply agree_foldl | apply agree_foldl_fst)
    | intro _ | dsimp only | split

theorem touchScanComplete_frame (e : Nat) (env : ScanCounts) (s : State) (hg : Agree m s₀ s) (h_mem : m.mem = true := by assumption)
    (h_pwr : m.pwr = true := by assumption) (h_lane : m.lane = true := by assumption) (h_touch : m.touch = true := by assumption)
    : Agree m s₀ (touchScanComplete e env s) := by
  unfold touchScanComplete
  try dsimp only
  repeat' first
    | (with_reducible first
        | assumption | apply teSet_frame | apply panelResult_frame | apply agree_foldl | apply agree_foldl_fst)
    | intro _ | dsimp only | split

theorem execTouchScanComplete_frame (engine : Nat) (env : ScanCounts) (s : State) {s₁ : State}
    (he : execTouchScanComplete engine env s = .next s₁) (hg : Agree m s₀ s) (h_mem : m.mem = true := by assumption)
    (h_pwr : m.pwr = true := by assumption) (h_lane : m.lane = true := by assumption) (h_touch : m.touch = true := by assumption)
    : Agree m s₀ s₁ := by
  injection he with he
  subst he
  repeat' first
    | (with_reducible first
        | assumption | apply touchScanComplete_frame)
    | split

theorem baselineDone_frame (p : Nat) (s : State) (hg : Agree m s₀ s) (h_touch : m.touch = true := by assumption) : Agree m s₀
    (baselineDone p s) := by
  unfold baselineDone
  try dsimp only
  repeat' first
    | (with_reducible first
        | assumption | apply touchEvent_frame | apply tpSet_frame | apply agree_foldl | apply agree_foldl_fst)
    | intro _ | dsimp only | split

theorem execTouchBaselineDone_frame (panel : Nat) (s : State) {s₁ : State} (he : execTouchBaselineDone panel s = .next s₁)
    (hg : Agree m s₀ s) (h_touch : m.touch = true := by assumption) : Agree m s₀ s₁ := by
  injection he with he
  subst he
  repeat' first
    | (with_reducible first
        | assumption | apply baselineDone_frame)
    | split

theorem gangedEntry_frame (p : Nat) (s : State) (hg : Agree m s₀ s) (h_touch : m.touch = true := by assumption) : Agree m s₀
    (gangedEntry p s) := by
  unfold gangedEntry
  try dsimp only
  repeat' first
    | (with_reducible first
        | assumption | apply gangEnter_frame | apply agree_foldl | apply agree_foldl_fst)
    | intro _ | dsimp only | split

theorem execGangedScanEntry_frame (panel : Nat) (s : State) {s₁ : State} (he : execGangedScanEntry panel s = .next s₁) (hg : Agree m s₀ s)
    (h_touch : m.touch = true := by assumption) : Agree m s₀ s₁ := by
  injection he with he
  subst he
  repeat' first
    | (with_reducible first
        | assumption | apply gangedEntry_frame)
    | split

theorem selftestDone_frame (p : Nat) (t : TouchTest) (s : State) (hg : Agree m s₀ s) (h_touch : m.touch = true := by assumption)
    : Agree m s₀ (selftestDone p t s) := by
  unfold selftestDone
  try dsimp only
  repeat' first
    | (with_reducible first
        | assumption | apply raise_frame | apply tpSet_frame | apply baselineStart_frame
        | apply completeOutst_frame | apply agree_foldl | apply agree_foldl_fst)
    | intro _ | dsimp only | split

theorem execTouchSelftestDone_frame (panel : Nat) (r : TouchTest) (s : State) {s₁ : State}
    (he : execTouchSelftestDone panel r s = .next s₁) (hg : Agree m s₀ s) (h_touch : m.touch = true := by assumption) : Agree m s₀ s₁ := by
  injection he with he
  subst he
  repeat' first
    | (with_reducible first
        | assumption | apply selftestDone_frame)
    | split

theorem tchClear_frame (off : Nat) (s : State) (hg : Agree m s₀ s) (h_touch : m.touch = true := by assumption) : Agree m s₀
    (tchClear off s) := by
  unfold tchClear
  repeat' first
    | (with_reducible first
        | assumption | apply tpUpd_frame)
    | split

theorem withClaims_frame (s : State) (cs : List AuxClaim) (hg : Agree m s₀ s) (h_lane : m.lane = true := by assumption) : Agree m s₀
    (withClaims s cs) := by
  unfold withClaims
  try dsimp only
  repeat' first
    | (with_reducible first
        | assumption | apply agree_foldl | apply agree_foldl_fst)
    | (simp only [agree_mk]; with_reducible refine agreeAt_lane (by assumption) ?_) | intro _ | dsimp only | split

theorem opAuxioClaim_frame (c : Cmd) (s : State) (hg : Agree m s₀ s) (h_lane : m.lane = true := by assumption) : Agree m s₀
    (opAuxioClaim c s).1 := by
  unfold opAuxioClaim
  try dsimp only
  repeat' first
    | (with_reducible first
        | assumption | apply checked_frame | apply withClaims_frame | apply agree_foldl | apply agree_foldl_fst)
    | intro _ | dsimp only | split

theorem execAuxioClaim_frame (c : Cmd) (s : State) {s₁ : State} (he : execAuxioClaim c s = .next s₁) (hg : Agree m s₀ s)
    (h_lane : m.lane = true := by assumption) : Agree m s₀ s₁ := by
  injection he with he
  subst he
  repeat' first
    | (with_reducible first
        | assumption | apply hostCommand_frame | apply opAuxioClaim_frame | apply agree_foldl
        | apply agree_foldl_fst)
    | intro _ | dsimp only | split

theorem opAuxioRelease_frame (c : Cmd) (s : State) (hg : Agree m s₀ s) (h_lane : m.lane = true := by assumption) : Agree m s₀
    (opAuxioRelease c s).1 := by
  unfold opAuxioRelease
  try dsimp only
  repeat' first
    | (with_reducible first
        | assumption | apply checked_frame | apply withClaims_frame | apply agree_foldl | apply agree_foldl_fst)
    | intro _ | dsimp only | split

theorem execAuxioRelease_frame (c : Cmd) (s : State) {s₁ : State} (he : execAuxioRelease c s = .next s₁) (hg : Agree m s₀ s)
    (h_lane : m.lane = true := by assumption) : Agree m s₀ s₁ := by
  injection he with he
  subst he
  repeat' first
    | (with_reducible first
        | assumption | apply hostCommand_frame | apply opAuxioRelease_frame | apply agree_foldl
        | apply agree_foldl_fst)
    | intro _ | dsimp only | split

theorem opNightPaceSet_frame (c : Cmd) (s : State) (hg : Agree m s₀ s) (h_lane : m.lane = true := by assumption) : Agree m s₀
    (opNightPaceSet c s).1 := by
  unfold opNightPaceSet
  try dsimp only
  repeat' first
    | (with_reducible first
        | assumption | apply checked_frame | apply withClaims_frame | apply agree_foldl | apply agree_foldl_fst)
    | intro _ | dsimp only | split

theorem execNightPaceSet_frame (c : Cmd) (s : State) {s₁ : State} (he : execNightPaceSet c s = .next s₁) (hg : Agree m s₀ s)
    (h_lane : m.lane = true := by assumption) : Agree m s₀ s₁ := by
  injection he with he
  subst he
  repeat' first
    | (with_reducible first
        | assumption | apply hostCommand_frame | apply opNightPaceSet_frame | apply agree_foldl
        | apply agree_foldl_fst)
    | intro _ | dsimp only | split

theorem claimSet_frame (k : AuxClaim) (s : State) (hg : Agree m s₀ s) (h_lane : m.lane = true := by assumption) : Agree m s₀
    (claimSet k s) := by
  unfold claimSet
  repeat' first
    | (with_reducible first
        | assumption | apply withClaims_frame)
    | split

theorem tbPulse_frame (k : AuxClaim) (s : State) (hg : Agree m s₀ s) (h_lane : m.lane = true := by assumption) : Agree m s₀
    (tbPulse k s) := by
  unfold tbPulse
  try dsimp only
  repeat' first
    | (with_reducible first
        | assumption | apply send_frame | apply claimSet_frame | apply agree_foldl | apply agree_foldl_fst)
    | intro _ | dsimp only | split

theorem touchPulse_frame (k : AuxClaim) (s : State) (hg : Agree m s₀ s) (h_lane : m.lane = true := by assumption) : Agree m s₀
    (touchPulse k s) := by
  unfold touchPulse
  try dsimp only
  repeat' first
    | (with_reducible first
        | assumption | apply send_frame | apply claimSet_frame | apply agree_foldl | apply agree_foldl_fst)
    | intro _ | dsimp only | split

theorem auxPulse_frame (timer : Nat) (s : State) (hg : Agree m s₀ s) (h_lane : m.lane = true := by assumption) : Agree m s₀
    (auxPulse timer s) := by
  unfold auxPulse
  repeat' first
    | (with_reducible first
        | assumption | apply tbPulse_frame | apply touchPulse_frame)
    | split

theorem execAuxioPulse_frame (timer : Nat) (s : State) {s₁ : State} (he : execAuxioPulse timer s = .next s₁) (hg : Agree m s₀ s)
    (h_lane : m.lane = true := by assumption) : Agree m s₀ s₁ := by
  injection he with he
  subst he
  repeat' first
    | (with_reducible first
        | assumption | apply auxPulse_frame)
    | split

theorem opEncSet_frame (c : Cmd) (s : State) (hg : Agree m s₀ s) (h_enc : m.enc = true := by assumption) : Agree m s₀ (opEncSet c s).1 := by
  unfold opEncSet
  try dsimp only
  repeat' first
    | (with_reducible first
        | assumption | apply checked_frame | apply ecUpd_frame | apply agree_foldl | apply agree_foldl_fst)
    | intro _ | dsimp only | split

theorem execEncSet_frame (c : Cmd) (s : State) {s₁ : State} (he : execEncSet c s = .next s₁) (hg : Agree m s₀ s)
    (h_enc : m.enc = true := by assumption) : Agree m s₀ s₁ := by
  injection he with he
  subst he
  repeat' first
    | (with_reducible first
        | assumption | apply hostCommand_frame | apply opEncSet_frame | apply agree_foldl | apply agree_foldl_fst)
    | intro _ | dsimp only | split

theorem opEncEnable_frame (c : Cmd) (s : State) (hg : Agree m s₀ s) (h_enc : m.enc = true := by assumption) : Agree m s₀
    (opEncEnable c s).1 := by
  unfold opEncEnable
  try dsimp only
  repeat' first
    | (with_reducible first
        | assumption | apply checked_frame | apply encAssign_frame | apply ecSet_frame | apply agree_foldl
        | apply agree_foldl_fst)
    | intro _ | dsimp only | split

theorem encStateEvent_frame (k : Nat) (kind : Nat) (cause : Nat) (n : Nat) (s : State) (hg : Agree m s₀ s) : Agree m s₀
    (encStateEvent k kind cause n s) := by
  unfold encStateEvent
  repeat' first
    | (with_reducible first
        | assumption | apply raise_frame)
    | split

theorem opEncDisable_frame (c : Cmd) (s : State) (hg : Agree m s₀ s) (h_enc : m.enc = true := by assumption) : Agree m s₀
    (opEncDisable c s).1 := by
  unfold opEncDisable
  try dsimp only
  repeat' first
    | (with_reducible first
        | assumption | apply checked_frame | apply ecSet_frame | apply encAssign_frame | apply encStateEvent_frame
        | apply agree_foldl | apply agree_foldl_fst)
    | intro _ | dsimp only | split

theorem execEncDisable_frame (c : Cmd) (s : State) {s₁ : State} (he : execEncDisable c s = .next s₁) (hg : Agree m s₀ s)
    (h_enc : m.enc = true := by assumption) : Agree m s₀ s₁ := by
  injection he with he
  subst he
  repeat' first
    | (with_reducible first
        | assumption | apply hostCommand_frame | apply opEncDisable_frame | apply agree_foldl
        | apply agree_foldl_fst)
    | intro _ | dsimp only | split

theorem opEncCoefLoad_frame (c : Cmd) (s : State) (hg : Agree m s₀ s) : Agree m s₀ (opEncCoefLoad c s).1 := by
  unfold opEncCoefLoad
  try dsimp only
  repeat' first
    | (with_reducible first
        | assumption | apply checked_frame | apply agree_foldl | apply agree_foldl_fst)
    | intro _ | dsimp only | split

theorem execEncCoefLoad_frame (c : Cmd) (s : State) {s₁ : State} (he : execEncCoefLoad c s = .next s₁) (hg : Agree m s₀ s)
    : Agree m s₀ s₁ := by
  injection he with he
  subst he
  repeat' first
    | (with_reducible first
        | assumption | apply hostCommand_frame | apply opEncCoefLoad_frame)
    | split

theorem opEncKeyframe_frame (c : Cmd) (s : State) (hg : Agree m s₀ s) (h_enc : m.enc = true := by assumption) : Agree m s₀
    (opEncKeyframe c s).1 := by
  unfold opEncKeyframe
  try dsimp only
  repeat' first
    | (with_reducible first
        | assumption | apply checked_frame | apply ecUpd_frame | apply agree_foldl | apply agree_foldl_fst)
    | intro _ | dsimp only | split

theorem execEncKeyframe_frame (c : Cmd) (s : State) {s₁ : State} (he : execEncKeyframe c s = .next s₁) (hg : Agree m s₀ s)
    (h_enc : m.enc = true := by assumption) : Agree m s₀ s₁ := by
  injection he with he
  subst he
  repeat' first
    | (with_reducible first
        | assumption | apply hostCommand_frame | apply opEncKeyframe_frame | apply agree_foldl
        | apply agree_foldl_fst)
    | intro _ | dsimp only | split

theorem encCell_frame (g : EncCtx) (cx : Nat) (cy : Nat) (s : State) (hg : Agree m s₀ s) (h_mem : m.mem = true := by assumption)
    (h_str : m.str = true := by assumption) : Agree m s₀ (encCell g cx cy s).2 := by
  unfold encCell
  try dsimp only
  repeat' first
    | (with_reducible first
        | assumption | apply fetchStitch_frame | apply freeBytes_frame | apply agree_foldl | apply agree_foldl_fst
        | apply agree_foldl_snd | apply agree_foldl_snd2)
    | intro _ | dsimp only | (refine agree_pair (by with_reducible assumption) ?_)
    | (refine agree_pair2 (by with_reducible assumption) ?_)
    | (refine agree_pair3 (by with_reducible assumption) ?_)
    | (refine agree_pair5 (by with_reducible assumption) ?_) | split

theorem encFetchAll_frame (g : EncCtx) (x1 : List (Nat × Nat)) (x2 : State) (hg : Agree m s₀ x2) (h_mem : m.mem = true := by assumption)
    (h_str : m.str = true := by assumption) : Agree m s₀ (encFetchAll g x1 x2).2 := by
  induction x1 generalizing x2 with
  | nil =>
    unfold encFetchAll
    try dsimp only
    repeat' first
      | (with_reducible first
          | assumption | apply encCell_frame | apply agree_foldl | apply agree_foldl_fst | apply agree_foldl_snd
          | apply agree_foldl_snd2)
      | intro _ | dsimp only | (refine agree_pair (by with_reducible assumption) ?_)
      | (refine agree_pair2 (by with_reducible assumption) ?_)
      | (refine agree_pair3 (by with_reducible assumption) ?_)
      | (refine agree_pair5 (by with_reducible assumption) ?_) | split
  | cons _ _ ih =>
    unfold encFetchAll
    try dsimp only
    repeat' first
      | (with_reducible first
          | assumption | apply ih | apply encCell_frame | apply agree_foldl | apply agree_foldl_fst | apply agree_foldl_snd
          | apply agree_foldl_snd2)
      | intro _ | dsimp only | (refine agree_pair (by with_reducible assumption) ?_)
      | (refine agree_pair2 (by with_reducible assumption) ?_)
      | (refine agree_pair3 (by with_reducible assumption) ?_)
      | (refine agree_pair5 (by with_reducible assumption) ?_) | split

theorem encTakeKind_frame (k : Nat) (n : Nat) (s : State) (hg : Agree m s₀ s) (h_enc : m.enc = true := by assumption) : Agree m s₀
    (encTakeKind k n s) := by
  unfold encTakeKind
  try dsimp only
  repeat' first
    | (with_reducible first
        | assumption | apply encStateEvent_frame | apply ecSet_frame | apply agree_foldl | apply agree_foldl_fst)
    | intro _ | dsimp only | split

theorem readFrame_frame (k : Nat) (n : Nat) (env : EncEnv) (s : State) (hg : Agree m s₀ s) (h_mem : m.mem = true := by assumption)
    (h_str : m.str = true := by assumption) : Agree m s₀ (readFrame k n env s).2.2.2 := by
  unfold readFrame
  try dsimp only
  repeat' first
    | (with_reducible first
        | assumption | apply encFetchAll_frame | apply agree_foldl | apply agree_foldl_fst | apply agree_foldl_snd
        | apply agree_foldl_snd2)
    | intro _ | dsimp only | (refine agree_pair (by with_reducible assumption) ?_)
    | (refine agree_pair2 (by with_reducible assumption) ?_)
    | (refine agree_pair3 (by with_reducible assumption) ?_)
    | (refine agree_pair5 (by with_reducible assumption) ?_) | split

theorem encPush_frame (k : Nat) (n : Nat) (f : RecFrame) (s : State) (hg : Agree m s₀ s) (h_enc : m.enc = true := by assumption)
    : Agree m s₀ (encPush k n f s) := by
  unfold encPush
  repeat' first
    | (with_reducible first
        | assumption | apply ecUpd_frame)
    | split

theorem encFrameStart_frame (k : Nat) (env : EncEnv) (s : State) (hg : Agree m s₀ s) (h_mem : m.mem = true := by assumption)
    (h_str : m.str = true := by assumption) (h_enc : m.enc = true := by assumption) : Agree m s₀ (encFrameStart k env s) := by
  unfold encFrameStart
  try dsimp only
  repeat' first
    | (with_reducible first
        | assumption | apply encTakeKind_frame | apply encPush_frame | apply readFrame_frame
        | apply custodyReport_frame | apply agree_foldl | apply agree_foldl_fst | apply agree_foldl_snd
        | apply agree_foldl_snd2)
    | intro _ | dsimp only | (refine agree_pair (by with_reducible assumption) ?_)
    | (refine agree_pair2 (by with_reducible assumption) ?_)
    | (refine agree_pair3 (by with_reducible assumption) ?_)
    | (refine agree_pair5 (by with_reducible assumption) ?_) | split

theorem execEncFrameStart_frame (ch : Nat) (env : EncEnv) (s : State) {s₁ : State} (he : execEncFrameStart ch env s = .next s₁)
    (hg : Agree m s₀ s) (h_mem : m.mem = true := by assumption) (h_str : m.str = true := by assumption)
    (h_enc : m.enc = true := by assumption) : Agree m s₀ s₁ := by
  injection he with he
  subst he
  repeat' first
    | (with_reducible first
        | assumption | apply encFrameStart_frame)
    | split

theorem encDeadline_frame (k : Nat) (rows : List Nat) (s : State) (hg : Agree m s₀ s) (h_enc : m.enc = true := by assumption) : Agree m s₀
    (encDeadline k rows s) := by
  unfold encDeadline
  try dsimp only
  repeat' first
    | (with_reducible first
        | assumption | apply encTakeKind_frame | apply encPush_frame | apply ecUpd_frame | apply agree_foldl
        | apply agree_foldl_fst | apply agree_foldl_snd | apply agree_foldl_snd2)
    | intro _ | dsimp only | (refine agree_pair (by with_reducible assumption) ?_)
    | (refine agree_pair2 (by with_reducible assumption) ?_)
    | (refine agree_pair3 (by with_reducible assumption) ?_)
    | (refine agree_pair5 (by with_reducible assumption) ?_) | split

theorem execEncInputDeadline_frame (ch : Nat) (rows : List Nat) (s : State) {s₁ : State} (he : execEncInputDeadline ch rows s = .next s₁)
    (hg : Agree m s₀ s) (h_enc : m.enc = true := by assumption) : Agree m s₀ s₁ := by
  injection he with he
  subst he
  repeat' first
    | (with_reducible first
        | assumption | apply encDeadline_frame)
    | split

theorem unrecRaise_frame (k : Nat) (s : State) (hg : Agree m s₀ s) (h_enc : m.enc = true := by assumption) : Agree m s₀
    (unrecRaise k s) := by
  unfold unrecRaise
  try dsimp only
  repeat' first
    | (with_reducible first
        | assumption | apply raise_frame | apply ecUpd_frame | apply agree_foldl | apply agree_foldl_fst)
    | intro _ | dsimp only | split

theorem unrecCount_frame (k : Nat) (un : Tab Nat) (mask : Nat) (s : State) (hg : Agree m s₀ s) (h_enc : m.enc = true := by assumption)
    : Agree m s₀ (unrecCount k un mask s) := by
  unfold unrecCount
  repeat' first
    | (with_reducible first
        | assumption | apply unrecRaise_frame | apply ecUpd_frame)
    | split

theorem encUnrecorded_frame (k : Nat) (s : State) (hg : Agree m s₀ s) (h_enc : m.enc = true := by assumption) : Agree m s₀
    (encUnrecorded k s) := by
  unfold encUnrecorded
  repeat' first
    | (with_reducible first
        | assumption | apply unrecRaise_frame)
    | split

theorem execEncUnrecorded_frame (ch : Nat) (s : State) {s₁ : State} (he : execEncUnrecorded ch s = .next s₁) (hg : Agree m s₀ s)
    (h_enc : m.enc = true := by assumption) : Agree m s₀ s₁ := by
  injection he with he
  subst he
  repeat' first
    | (with_reducible first
        | assumption | apply encUnrecorded_frame)
    | split

theorem recWrite_frame (k : Nat) (f : RecFrame) (key : Bool) (un : Tab Nat) (payload : List Byte) (s : State) (hg : Agree m s₀ s)
    (h_enc : m.enc = true := by assumption) : Agree m s₀ (recWrite k f key un payload s) := by
  unfold recWrite
  repeat' first
    | (with_reducible first
        | assumption | apply ecSet_frame | apply send_frame | apply auditWrite_frame | apply unrecCount_frame)
    | split

theorem encRecord_frame (k : Nat) (p : EncCoded) (s : State) (hg : Agree m s₀ s) (h_enc : m.enc = true := by assumption) : Agree m s₀
    (encRecord k p s) := by
  unfold encRecord
  try dsimp only
  repeat' first
    | (with_reducible first
        | assumption | apply recWrite_frame | apply ecSet_frame | apply agree_foldl | apply agree_foldl_fst)
    | intro _ | dsimp only | split

theorem execEncRecordWrite_frame (ch : Nat) (r : EncCoded) (s : State) {s₁ : State} (he : execEncRecordWrite ch r s = .next s₁)
    (hg : Agree m s₀ s) (h_enc : m.enc = true := by assumption) : Agree m s₀ s₁ := by
  injection he with he
  subst he
  repeat' first
    | (with_reducible first
        | assumption | apply encRecord_frame)
    | split

theorem encConsWrite_frame (k : Nat) (init : Nat) (v : W32) (s : State) (hg : Agree m s₀ s) (h_enc : m.enc = true := by assumption)
    : Agree m s₀ (encConsWrite k init v s) := by
  unfold encConsWrite
  try dsimp only
  repeat' first
    | (with_reducible first
        | assumption | apply ecSet_frame | apply paramRefused_frame | apply agree_foldl | apply agree_foldl_fst)
    | intro _ | dsimp only | split

theorem execVcEncConsWrite_frame (ch : Nat) (a : RegW) (s : State) {s₁ : State} (he : execVcEncConsWrite ch a s = .next s₁)
    (hg : Agree m s₀ s) (h_mem : m.mem = true := by assumption) (h_enc : m.enc = true := by assumption) : Agree m s₀ s₁ := by
  injection he with he
  subst he
  repeat' first
    | (with_reducible first
        | assumption | apply regWrite_frame | apply encConsWrite_frame | apply agree_foldl | apply agree_foldl_fst)
    | intro _ | dsimp only | split

theorem encCoefLoaded_frame (k : Nat) (crc : Nat) (image : List Byte) (s : State) (hg : Agree m s₀ s)
    (h_enc : m.enc = true := by assumption) : Agree m s₀ (encCoefLoaded k crc image s).1 := by
  unfold encCoefLoaded
  try dsimp only
  repeat' first
    | (with_reducible first
        | assumption | apply checked_frame | apply ecUpd_frame | apply agree_foldl | apply agree_foldl_fst)
    | intro _ | dsimp only | split

theorem loadApply_frame (o : Outst) (data : List Byte) (s : State) (hg : Agree m s₀ s) (h_mem : m.mem = true := by assumption)
    (h_bb : m.bb = true := by assumption) (h_comp : m.comp = true := by assumption) (h_enc : m.enc = true := by assumption) : Agree m s₀
    (loadApply o data s).1 := by
  unfold loadApply
  repeat' first
    | (with_reducible first
        | assumption | apply dpcdLoaded_frame | apply coefLoaded_frame | apply xferLoaded_frame
        | apply stillLoaded_frame | apply encCoefLoaded_frame)
    | split

theorem loadReply_frame (o : Outst) (r : Reply) (s : State) (hg : Agree m s₀ s) : Agree m s₀ (loadReply o r s) := by
  unfold loadReply
  repeat' first
    | (with_reducible first
        | assumption | apply completeOutst_frame)
    | split

theorem loadEnd_frame (data : Option (List Byte)) (s : State) (hg : Agree m s₀ s) (h_mem : m.mem = true := by assumption)
    (h_bb : m.bb = true := by assumption) (h_comp : m.comp = true := by assumption) (h_enc : m.enc = true := by assumption) : Agree m s₀
    (loadEnd data s) := by
  unfold loadEnd
  repeat' first
    | (with_reducible first
        | assumption | apply loadReply_frame | apply loadApply_frame)
    | split

theorem execLoadCopyEnd_frame (data : Option (List Byte)) (s : State) {s₁ : State} (he : execLoadCopyEnd data s = .next s₁)
    (hg : Agree m s₀ s) (h_mem : m.mem = true := by assumption) (h_bb : m.bb = true := by assumption)
    (h_comp : m.comp = true := by assumption) (h_enc : m.enc = true := by assumption) : Agree m s₀ s₁ := by
  injection he with he
  subst he
  repeat' first
    | (with_reducible first
        | assumption | apply loadEnd_frame)
    | split

theorem wantHand_frame (r : HandReason) (s : State) (hg : Agree m s₀ s) (h_pair : m.pair = true := by assumption) : Agree m s₀
    (wantHand r s) := by
  unfold wantHand
  repeat' first
    | (with_reducible first
        | assumption | apply withPair_frame)
    | split

theorem toReady_frame (port : Nat) (s : State) (hg : Agree m s₀ s) (h_pwr : m.pwr = true := by assumption)
    (h_boot : m.boot = true := by assumption) (h_pair : m.pair = true := by assumption) (h_touch : m.touch = true := by assumption)
    : Agree m s₀ (toReady port s) := by
  unfold toReady
  try dsimp only
  repeat' first
    | (with_reducible first
        | assumption | apply setMode_frame | apply domainUp_frame | apply withPwr_frame | apply agree_foldl
        | apply agree_foldl_fst)
    | intro _ | dsimp only | split

theorem enterBindOff_frame (port : Nat) (s : State) (hg : Agree m s₀ s) (h_pwr : m.pwr = true := by assumption)
    (h_boot : m.boot = true := by assumption) (h_pair : m.pair = true := by assumption) (h_touch : m.touch = true := by assumption)
    : Agree m s₀ (enterBindOff port s) := by
  unfold enterBindOff
  repeat' first
    | (with_reducible first
        | assumption | apply setMode_frame | apply pairDrop_frame)
    | split

theorem modeChange_frame (n : Nat) (port : Nat) (s : State) (hg : Agree m s₀ s) (h_pwr : m.pwr = true := by assumption)
    (h_boot : m.boot = true := by assumption) (h_lane : m.lane = true := by assumption) (h_pair : m.pair = true := by assumption)
    (h_touch : m.touch = true := by assumption) : Agree m s₀ (modeChange n port s).1 := by
  unfold modeChange
  repeat' first
    | (with_reducible first
        | assumption | apply toReady_frame | apply setMode_frame | apply wantHand_frame | apply pairDrop_frame
        | apply safeHoldCause_frame | apply enterBindOff_frame)
    | split

theorem opModeSet_frame (c : Cmd) (s : State) (hg : Agree m s₀ s) (h_pwr : m.pwr = true := by assumption)
    (h_boot : m.boot = true := by assumption) (h_lane : m.lane = true := by assumption) (h_pair : m.pair = true := by assumption)
    (h_touch : m.touch = true := by assumption) : Agree m s₀ (opModeSet c s).1 := by
  unfold opModeSet
  try dsimp only
  repeat' first
    | (with_reducible first
        | assumption | apply checked_frame | apply modeChange_frame | apply agree_foldl | apply agree_foldl_fst)
    | intro _ | dsimp only | split

theorem execModeSet_frame (c : Cmd) (s : State) {s₁ : State} (he : execModeSet c s = .next s₁) (hg : Agree m s₀ s)
    (h_pwr : m.pwr = true := by assumption) (h_boot : m.boot = true := by assumption) (h_lane : m.lane = true := by assumption)
    (h_pair : m.pair = true := by assumption) (h_touch : m.touch = true := by assumption) : Agree m s₀ s₁ := by
  injection he with he
  subst he
  repeat' first
    | (with_reducible first
        | assumption | apply hostCommand_frame | apply opModeSet_frame | apply agree_foldl | apply agree_foldl_fst)
    | intro _ | dsimp only | split

theorem bindOffEnd_frame (s : State) (hg : Agree m s₀ s) (h_pwr : m.pwr = true := by assumption) (h_pair : m.pair = true := by assumption)
    (h_scan : m.scan = true := by assumption) (h_touch : m.touch = true := by assumption) : Agree m s₀ (bindOffEnd s) := by
  unfold bindOffEnd
  repeat' first
    | (with_reducible first
        | assumption | apply completeOutst_frame | apply withTouch_frame | apply enterOff_frame | apply raise_frame)
    | split

theorem execBindOffEnd_frame (s : State) {s₁ : State} (he : execBindOffEnd s = .next s₁) (hg : Agree m s₀ s)
    (h_pwr : m.pwr = true := by assumption) (h_pair : m.pair = true := by assumption) (h_scan : m.scan = true := by assumption)
    (h_touch : m.touch = true := by assumption) : Agree m s₀ s₁ := by
  injection he with he
  subst he
  repeat' first
    | (with_reducible first
        | assumption | apply bindOffEnd_frame)
    | split

theorem roleEvent_frame (new : Nat) (prev : Nat) (cause : Nat) (frame : Nat) (ns : Nat) (s : State) (hg : Agree m s₀ s) : Agree m s₀
    (roleEvent new prev cause frame ns s) := by
  unfold roleEvent
  repeat' first
    | (with_reducible first
        | assumption | apply raise_frame)
    | split

theorem linkEventPair_frame (removed : Nat) (silence : Bool) (s : State) (hg : Agree m s₀ s) : Agree m s₀
    (linkEventPair removed silence s) := by
  unfold linkEventPair
  repeat' first
    | (with_reducible first
        | assumption | apply raise_frame)
    | split

theorem knitEvent_frame (result : Nat) (cause : Nat) (s : State) (hg : Agree m s₀ s) : Agree m s₀ (knitEvent result cause s) := by
  unfold knitEvent
  repeat' first
    | (with_reducible first
        | assumption | apply raise_frame)
    | split

theorem allWhole_frame (s : State) (hg : Agree m s₀ s) (h_scan : m.scan = true := by assumption) : Agree m s₀ (allWhole s) := by
  unfold allWhole
  repeat' first
    | (with_reducible first
        | assumption | apply withScan_frame)
    | split

theorem showsFrom_frame (old : Nat) (t : Nat) (s : State) (hg : Agree m s₀ s) (h_pair : m.pair = true := by assumption)
    (h_scan : m.scan = true := by assumption) : Agree m s₀ (showsFrom old t s) := by
  unfold showsFrom
  try dsimp only
  repeat' first
    | (with_reducible first
        | assumption | apply allWhole_frame | apply withPair_frame | apply agree_foldl | apply agree_foldl_fst
        | apply agree_foldl_snd | apply agree_foldl_snd2)
    | intro _ | dsimp only | (refine agree_pair (by with_reducible assumption) ?_)
    | (refine agree_pair2 (by with_reducible assumption) ?_)
    | (refine agree_pair3 (by with_reducible assumption) ?_)
    | (refine agree_pair5 (by with_reducible assumption) ?_) | split

theorem becomeLead_frame (cause : Nat) (frame : Nat) (old : Nat) (t : Nat) (ns : Nat) (s0 : State) (hg : Agree m s₀ s0)
    (h_pwr : m.pwr = true := by assumption) (h_boot : m.boot = true := by assumption) (h_pair : m.pair = true := by assumption)
    (h_scan : m.scan = true := by assumption) (h_touch : m.touch = true := by assumption) : Agree m s₀
    (becomeLead cause frame old t ns s0) := by
  unfold becomeLead
  try dsimp only
  repeat' first
    | (with_reducible first
        | assumption | apply drillEnd_frame | apply withPair_frame | apply roleEvent_frame | apply showsFrom_frame
        | apply setMode_frame | apply agree_foldl | apply agree_foldl_fst | apply agree_foldl_snd
        | apply agree_foldl_snd2)
    | intro _ | dsimp only | (refine agree_pair (by with_reducible assumption) ?_)
    | (refine agree_pair2 (by with_reducible assumption) ?_)
    | (refine agree_pair3 (by with_reducible assumption) ?_)
    | (refine agree_pair5 (by with_reducible assumption) ?_) | split

theorem startTakeover_frame (cause : Nat) (s : State) (hg : Agree m s₀ s) (h_pair : m.pair = true := by assumption) : Agree m s₀
    (startTakeover cause s) := by
  unfold startTakeover
  try dsimp only
  repeat' first
    | (with_reducible first
        | assumption | apply withPair_frame | apply agree_foldl | apply agree_foldl_fst | apply agree_foldl_snd
        | apply agree_foldl_snd2)
    | intro _ | dsimp only | (refine agree_pair (by with_reducible assumption) ?_)
    | (refine agree_pair2 (by with_reducible assumption) ?_)
    | (refine agree_pair3 (by with_reducible assumption) ?_)
    | (refine agree_pair5 (by with_reducible assumption) ?_) | split

theorem knitFail_frame (cause : Nat) (why : Nat) (port : Nat) (s : State) (hg : Agree m s₀ s) (h_pwr : m.pwr = true := by assumption)
    (h_boot : m.boot = true := by assumption) (h_pair : m.pair = true := by assumption) (h_touch : m.touch = true := by assumption)
    : Agree m s₀ (knitFail cause why port s) := by
  unfold knitFail
  repeat' first
    | (with_reducible first
        | assumption | apply knitEvent_frame | apply setMode_frame | apply withPair_frame)
    | split

theorem leadLost_frame (s : State) (hg : Agree m s₀ s) (h_pwr : m.pwr = true := by assumption) (h_boot : m.boot = true := by assumption)
    (h_lane : m.lane = true := by assumption) (h_pair : m.pair = true := by assumption) (h_touch : m.touch = true := by assumption)
    : Agree m s₀ (leadLost s) := by
  unfold leadLost
  repeat' first
    | (with_reducible first
        | assumption | apply knitEvent_frame | apply enterSafeHold_frame | apply withPair_frame)
    | split

theorem followLost_frame (silence : Bool) (s : State) (hg : Agree m s₀ s) (h_pwr : m.pwr = true := by assumption)
    (h_boot : m.boot = true := by assumption) (h_pair : m.pair = true := by assumption) (h_touch : m.touch = true := by assumption)
    : Agree m s₀ (followLost silence s) := by
  unfold followLost
  try dsimp only
  repeat' first
    | (with_reducible first
        | assumption | apply drillEnd_frame | apply withPair_frame | apply roleEvent_frame | apply setMode_frame
        | apply linkEventPair_frame | apply agree_foldl | apply agree_foldl_fst | apply agree_foldl_snd
        | apply agree_foldl_snd2)
    | intro _ | dsimp only | (refine agree_pair (by with_reducible assumption) ?_)
    | (refine agree_pair2 (by with_reducible assumption) ?_)
    | (refine agree_pair3 (by with_reducible assumption) ?_)
    | (refine agree_pair5 (by with_reducible assumption) ?_) | split

theorem opPairSet_frame (c : Cmd) (s : State) (hg : Agree m s₀ s) (h_pwr : m.pwr = true := by assumption)
    (h_boot : m.boot = true := by assumption) (h_pair : m.pair = true := by assumption) (h_touch : m.touch = true := by assumption)
    : Agree m s₀ (opPairSet c s).1 := by
  unfold opPairSet
  try dsimp only
  repeat' first
    | (with_reducible first
        | assumption | apply checked_frame | apply withPair_frame | apply setMode_frame | apply agree_foldl
        | apply agree_foldl_fst)
    | intro _ | dsimp only | split

theorem execPairSet_frame (c : Cmd) (s : State) {s₁ : State} (he : execPairSet c s = .next s₁) (hg : Agree m s₀ s)
    (h_pwr : m.pwr = true := by assumption) (h_boot : m.boot = true := by assumption) (h_pair : m.pair = true := by assumption)
    (h_touch : m.touch = true := by assumption) : Agree m s₀ s₁ := by
  injection he with he
  subst he
  repeat' first
    | (with_reducible first
        | assumption | apply hostCommand_frame | apply opPairSet_frame | apply agree_foldl | apply agree_foldl_fst)
    | intro _ | dsimp only | split

theorem opPairAccept_frame (c : Cmd) (s : State) (hg : Agree m s₀ s) (h_pair : m.pair = true := by assumption) : Agree m s₀
    (opPairAccept c s).1 := by
  unfold opPairAccept
  try dsimp only
  repeat' first
    | (with_reducible first
        | assumption | apply checked_frame | apply withPair_frame | apply agree_foldl | apply agree_foldl_fst)
    | intro _ | dsimp only | split

theorem execPairAccept_frame (c : Cmd) (s : State) {s₁ : State} (he : execPairAccept c s = .next s₁) (hg : Agree m s₀ s)
    (h_pair : m.pair = true := by assumption) : Agree m s₀ s₁ := by
  injection he with he
  subst he
  repeat' first
    | (with_reducible first
        | assumption | apply hostCommand_frame | apply opPairAccept_frame | apply agree_foldl
        | apply agree_foldl_fst)
    | intro _ | dsimp only | split

theorem knitBegin_frame (s : State) (hg : Agree m s₀ s) (h_pwr : m.pwr = true := by assumption) (h_boot : m.boot = true := by assumption)
    (h_pair : m.pair = true := by assumption) (h_touch : m.touch = true := by assumption) : Agree m s₀ (knitBegin s) := by
  unfold knitBegin
  repeat' first
    | (with_reducible first
        | assumption | apply setMode_frame | apply withPair_frame | apply knitEvent_frame)
    | split

theorem opPairKnit_frame (_c : Cmd) (s : State) (hg : Agree m s₀ s) (h_pwr : m.pwr = true := by assumption)
    (h_boot : m.boot = true := by assumption) (h_lane : m.lane = true := by assumption) (h_pair : m.pair = true := by assumption)
    (h_touch : m.touch = true := by assumption) : Agree m s₀ (opPairKnit _c s).1 := by
  unfold opPairKnit
  try dsimp only
  repeat' first
    | (with_reducible first
        | assumption | apply checked_frame | apply laneEnable_frame | apply knitBegin_frame | apply agree_foldl
        | apply agree_foldl_fst)
    | intro _ | dsimp only | split

theorem execPairKnit_frame (c : Cmd) (s : State) {s₁ : State} (he : execPairKnit c s = .next s₁) (hg : Agree m s₀ s)
    (h_pwr : m.pwr = true := by assumption) (h_boot : m.boot = true := by assumption) (h_lane : m.lane = true := by assumption)
    (h_pair : m.pair = true := by assumption) (h_touch : m.touch = true := by assumption) : Agree m s₀ s₁ := by
  injection he with he
  subst he
  repeat' first
    | (with_reducible first
        | assumption | apply hostCommand_frame | apply opPairKnit_frame | apply agree_foldl | apply agree_foldl_fst)
    | intro _ | dsimp only | split

theorem drillBegin_frame (frame : Nat) (ret : Nat) (cause : Nat) (port : Nat) (s : State) (hg : Agree m s₀ s)
    (h_pwr : m.pwr = true := by assumption) (h_boot : m.boot = true := by assumption) (h_pair : m.pair = true := by assumption)
    (h_touch : m.touch = true := by assumption) : Agree m s₀ (drillBegin frame ret cause port s) := by
  unfold drillBegin
  try dsimp only
  repeat' first
    | (with_reducible first
        | assumption | apply setMode_frame | apply withPair_frame | apply agree_foldl | apply agree_foldl_fst
        | apply agree_foldl_snd | apply agree_foldl_snd2)
    | intro _ | dsimp only | (refine agree_pair (by with_reducible assumption) ?_)
    | (refine agree_pair2 (by with_reducible assumption) ?_)
    | (refine agree_pair3 (by with_reducible assumption) ?_)
    | (refine agree_pair5 (by with_reducible assumption) ?_) | split

theorem opPairDrill_frame (c : Cmd) (s : State) (hg : Agree m s₀ s) (h_pwr : m.pwr = true := by assumption)
    (h_boot : m.boot = true := by assumption) (h_pair : m.pair = true := by assumption) (h_touch : m.touch = true := by assumption)
    : Agree m s₀ (opPairDrill c s).1 := by
  unfold opPairDrill
  try dsimp only
  repeat' first
    | (with_reducible first
        | assumption | apply checked_frame | apply drillBegin_frame | apply send_frame | apply agree_foldl
        | apply agree_foldl_fst)
    | intro _ | dsimp only | split

theorem execPairDrill_frame (c : Cmd) (s : State) {s₁ : State} (he : execPairDrill c s = .next s₁) (hg : Agree m s₀ s)
    (h_pwr : m.pwr = true := by assumption) (h_boot : m.boot = true := by assumption) (h_pair : m.pair = true := by assumption)
    (h_touch : m.touch = true := by assumption) : Agree m s₀ s₁ := by
  injection he with he
  subst he
  repeat' first
    | (with_reducible first
        | assumption | apply hostCommand_frame | apply opPairDrill_frame | apply agree_foldl
        | apply agree_foldl_fst)
    | intro _ | dsimp only | split

theorem followLeaves_frame (cause : Nat) (port : Nat) (s : State) (hg : Agree m s₀ s) (h_pwr : m.pwr = true := by assumption)
    (h_boot : m.boot = true := by assumption) (h_pair : m.pair = true := by assumption) (h_touch : m.touch = true := by assumption)
    : Agree m s₀ (followLeaves cause port s) := by
  unfold followLeaves
  repeat' first
    | (with_reducible first
        | assumption | apply setMode_frame | apply withPair_frame | apply roleEvent_frame)
    | split

theorem pairLeave_frame (port : Nat) (s : State) (hg : Agree m s₀ s) (h_pwr : m.pwr = true := by assumption)
    (h_boot : m.boot = true := by assumption) (h_pair : m.pair = true := by assumption) (h_touch : m.touch = true := by assumption)
    : Agree m s₀ (pairLeave port s) := by
  unfold pairLeave
  repeat' first
    | (with_reducible first
        | assumption | apply followLeaves_frame | apply knitFail_frame | apply send_frame | apply withPair_frame
        | apply setMode_frame | apply roleEvent_frame)
    | split

theorem opPairLeave_frame (c : Cmd) (s : State) (hg : Agree m s₀ s) (h_pwr : m.pwr = true := by assumption)
    (h_boot : m.boot = true := by assumption) (h_pair : m.pair = true := by assumption) (h_touch : m.touch = true := by assumption)
    : Agree m s₀ (opPairLeave c s).1 := by
  unfold opPairLeave
  try dsimp only
  repeat' first
    | (with_reducible first
        | assumption | apply checked_frame | apply pairLeave_frame | apply agree_foldl | apply agree_foldl_fst)
    | intro _ | dsimp only | split

theorem execPairLeave_frame (c : Cmd) (s : State) {s₁ : State} (he : execPairLeave c s = .next s₁) (hg : Agree m s₀ s)
    (h_pwr : m.pwr = true := by assumption) (h_boot : m.boot = true := by assumption) (h_pair : m.pair = true := by assumption)
    (h_touch : m.touch = true := by assumption) : Agree m s₀ s₁ := by
  injection he with he
  subst he
  repeat' first
    | (with_reducible first
        | assumption | apply hostCommand_frame | apply opPairLeave_frame | apply agree_foldl
        | apply agree_foldl_fst)
    | intro _ | dsimp only | split

theorem opPairStatus_frame (_c : Cmd) (s : State) (hg : Agree m s₀ s) : Agree m s₀ (opPairStatus _c s).1 := by
  unfold opPairStatus
  repeat' first
    | (with_reducible first
        | assumption)
    | split

theorem execPairStatus_frame (c : Cmd) (s : State) {s₁ : State} (he : execPairStatus c s = .next s₁) (hg : Agree m s₀ s)
    : Agree m s₀ s₁ := by
  injection he with he
  subst he
  repeat' first
    | (with_reducible first
        | assumption | apply hostCommand_frame | apply opPairStatus_frame)
    | split

theorem pairClear_frame (off : Nat) (s : State) (hg : Agree m s₀ s) (h_pair : m.pair = true := by assumption) : Agree m s₀
    (pairClear off s) := by
  unfold pairClear
  repeat' first
    | (with_reducible first
        | assumption | apply withPair_frame)
    | split

theorem pairReport_frame (t0 : Int) (t3 : Int) (s : State) (hg : Agree m s₀ s) (h_tb : m.tb = true := by assumption)
    (h_pair : m.pair = true := by assumption) : Agree m s₀ (pairReport t0 t3 s) := by
  unfold pairReport
  try dsimp only
  repeat' first
    | (with_reducible first
        | assumption | apply withTb_frame | apply withPair_frame | apply raise_frame | apply agree_foldl
        | apply agree_foldl_fst | apply agree_foldl_snd | apply agree_foldl_snd2)
    | intro _ | dsimp only | (refine agree_pair (by with_reducible assumption) ?_)
    | (refine agree_pair2 (by with_reducible assumption) ?_)
    | (refine agree_pair3 (by with_reducible assumption) ?_)
    | (refine agree_pair5 (by with_reducible assumption) ?_) | split

theorem pairSend_frame (p : StampNs) (s : State) (hg : Agree m s₀ s) (h_tb : m.tb = true := by assumption)
    (h_pair : m.pair = true := by assumption) : Agree m s₀ (pairSend p s) := by
  unfold pairSend
  try dsimp only
  repeat' first
    | (with_reducible first
        | assumption | apply takeFree_frame | apply txqPush_frame | apply txqSet_frame | apply send_frame
        | apply withPair_frame | apply agree_foldl | apply agree_foldl_fst | apply agree_foldl_snd
        | apply agree_foldl_snd2)
    | intro _ | dsimp only | (refine agree_pair (by with_reducible assumption) ?_)
    | (refine agree_pair2 (by with_reducible assumption) ?_)
    | (refine agree_pair3 (by with_reducible assumption) ?_)
    | (refine agree_pair5 (by with_reducible assumption) ?_) | split

theorem pairMeasure_frame (p : StampNs) (s : State) (hg : Agree m s₀ s) (h_tb : m.tb = true := by assumption)
    (h_pair : m.pair = true := by assumption) : Agree m s₀ (pairMeasure p s) := by
  unfold pairMeasure
  try dsimp only
  repeat' first
    | (with_reducible first
        | assumption | apply pairSend_frame | apply pairReport_frame | apply agree_foldl | apply agree_foldl_fst
        | apply agree_foldl_snd | apply agree_foldl_snd2)
    | intro _ | dsimp only | (refine agree_pair (by with_reducible assumption) ?_)
    | (refine agree_pair2 (by with_reducible assumption) ?_)
    | (refine agree_pair3 (by with_reducible assumption) ?_)
    | (refine agree_pair5 (by with_reducible assumption) ?_) | split

theorem execPairOffsetMeasure_frame (p : StampNs) (s : State) {s₁ : State} (he : execPairOffsetMeasure p s = .next s₁) (hg : Agree m s₀ s)
    (h_tb : m.tb = true := by assumption) (h_pair : m.pair = true := by assumption) : Agree m s₀ s₁ := by
  injection he with he
  subst he
  repeat' first
    | (with_reducible first
        | assumption | apply pairMeasure_frame | apply agree_foldl | apply agree_foldl_fst | apply agree_foldl_snd
        | apply agree_foldl_snd2)
    | intro _ | dsimp only | (refine agree_pair (by with_reducible assumption) ?_)
    | (refine agree_pair2 (by with_reducible assumption) ?_)
    | (refine agree_pair3 (by with_reducible assumption) ?_)
    | (refine agree_pair5 (by with_reducible assumption) ?_) | split

theorem timingReceive_frame (p : StampNs) (ident : W16) (echo : Option (W16 × PairStamp)) (prev : Option (W16 × PairStamp)) (s : State)
    (hg : Agree m s₀ s) (h_pair : m.pair = true := by assumption) : Agree m s₀ (timingReceive p ident echo prev s) := by
  unfold timingReceive
  try dsimp only
  repeat' first
    | (with_reducible first
        | assumption | apply withPair_frame | apply agree_foldl | apply agree_foldl_fst | apply agree_foldl_snd
        | apply agree_foldl_snd2)
    | intro _ | dsimp only | (refine agree_pair (by with_reducible assumption) ?_)
    | (refine agree_pair2 (by with_reducible assumption) ?_)
    | (refine agree_pair3 (by with_reducible assumption) ?_)
    | (refine agree_pair5 (by with_reducible assumption) ?_) | split

theorem heartbeatSend_frame (s : State) (hg : Agree m s₀ s) (h_pair : m.pair = true := by assumption) : Agree m s₀ (heartbeatSend s) := by
  unfold heartbeatSend
  try dsimp only
  repeat' first
    | (with_reducible first
        | assumption | apply withPair_frame | apply send_frame | apply agree_foldl | apply agree_foldl_fst)
    | intro _ | dsimp only | split

theorem execHeartbeatSend_frame (s : State) {s₁ : State} (he : execHeartbeatSend s = .next s₁) (hg : Agree m s₀ s)
    (h_pair : m.pair = true := by assumption) : Agree m s₀ s₁ := by
  injection he with he
  subst he
  repeat' first
    | (with_reducible first
        | assumption | apply heartbeatSend_frame)
    | split

theorem heartbeatActs_frame (h : Heartbeat) (old : Nat) (s : State) (hg : Agree m s₀ s) (h_pwr : m.pwr = true := by assumption)
    (h_boot : m.boot = true := by assumption) (h_lane : m.lane = true := by assumption) (h_pair : m.pair = true := by assumption)
    (h_touch : m.touch = true := by assumption) : Agree m s₀ (heartbeatActs h old s) := by
  unfold heartbeatActs
  repeat' first
    | (with_reducible first
        | assumption | apply leadLost_frame | apply startTakeover_frame | apply followLost_frame
        | apply withPair_frame)
    | split

theorem heartbeatReceive_frame (lane : Nat) (h : Heartbeat) (s : State) (hg : Agree m s₀ s) (h_pwr : m.pwr = true := by assumption)
    (h_boot : m.boot = true := by assumption) (h_lane : m.lane = true := by assumption) (h_pair : m.pair = true := by assumption)
    (h_touch : m.touch = true := by assumption) : Agree m s₀ (heartbeatReceive lane h s) := by
  unfold heartbeatReceive
  try dsimp only
  repeat' first
    | (with_reducible first
        | assumption | apply heartbeatActs_frame | apply withPair_frame | apply agree_foldl | apply agree_foldl_fst)
    | intro _ | dsimp only | split

theorem execHeartbeatReceive_frame (lane : Nat) (h : Heartbeat) (s : State) {s₁ : State} (he : execHeartbeatReceive lane h s = .next s₁)
    (hg : Agree m s₀ s) (h_pwr : m.pwr = true := by assumption) (h_boot : m.boot = true := by assumption)
    (h_lane : m.lane = true := by assumption) (h_pair : m.pair = true := by assumption) (h_touch : m.touch = true := by assumption)
    : Agree m s₀ s₁ := by
  injection he with he
  subst he
  repeat' first
    | (with_reducible first
        | assumption | apply heartbeatReceive_frame)
    | split

theorem heartbeatSilence_frame (s : State) (hg : Agree m s₀ s) (h_pwr : m.pwr = true := by assumption)
    (h_boot : m.boot = true := by assumption) (h_lane : m.lane = true := by assumption) (h_pair : m.pair = true := by assumption)
    (h_touch : m.touch = true := by assumption) : Agree m s₀ (heartbeatSilence s) := by
  unfold heartbeatSilence
  try dsimp only
  repeat' first
    | (with_reducible first
        | assumption | apply withPair_frame | apply leadLost_frame | apply startTakeover_frame
        | apply followLost_frame | apply agree_foldl | apply agree_foldl_fst)
    | intro _ | dsimp only | split

theorem execHeartbeatSilence_frame (s : State) {s₁ : State} (he : execHeartbeatSilence s = .next s₁) (hg : Agree m s₀ s)
    (h_pwr : m.pwr = true := by assumption) (h_boot : m.boot = true := by assumption) (h_lane : m.lane = true := by assumption)
    (h_pair : m.pair = true := by assumption) (h_touch : m.touch = true := by assumption) : Agree m s₀ s₁ := by
  injection he with he
  subst he
  repeat' first
    | (with_reducible first
        | assumption | apply heartbeatSilence_frame)
    | split

theorem txWatchdog_frame (s : State) (hg : Agree m s₀ s) (h_pair : m.pair = true := by assumption) : Agree m s₀ (txWatchdog s) := by
  unfold txWatchdog
  repeat' first
    | (with_reducible first
        | assumption | apply withPair_frame)
    | split

theorem execHeartbeatTxWatchdog_frame (s : State) {s₁ : State} (he : execHeartbeatTxWatchdog s = .next s₁) (hg : Agree m s₀ s)
    (h_pair : m.pair = true := by assumption) : Agree m s₀ s₁ := by
  injection he with he
  subst he
  repeat' first
    | (with_reducible first
        | assumption | apply txWatchdog_frame)
    | split

theorem pinEvent_frame (code : Nat) (s : State) (hg : Agree m s₀ s) : Agree m s₀ (pinEvent code s) := by
  unfold pinEvent
  repeat' first
    | (with_reducible first
        | assumption | apply raise_frame)
    | split

theorem leadInYield_frame (s : State) (hg : Agree m s₀ s) (h_pwr : m.pwr = true := by assumption)
    (h_boot : m.boot = true := by assumption) (h_lane : m.lane = true := by assumption) (h_pair : m.pair = true := by assumption)
    (h_touch : m.touch = true := by assumption) : Agree m s₀ (leadInYield s) := by
  unfold leadInYield
  repeat' first
    | (with_reducible first
        | assumption | apply withPair_frame | apply pinEvent_frame | apply roleEvent_frame
        | apply enterSafeHold_frame)
    | split

theorem execLeadInYield_frame (s : State) {s₁ : State} (he : execLeadInYield s = .next s₁) (hg : Agree m s₀ s)
    (h_pwr : m.pwr = true := by assumption) (h_boot : m.boot = true := by assumption) (h_lane : m.lane = true := by assumption)
    (h_pair : m.pair = true := by assumption) (h_touch : m.touch = true := by assumption) : Agree m s₀ s₁ := by
  injection he with he
  subst he
  repeat' first
    | (with_reducible first
        | assumption | apply leadInYield_frame)
    | split

theorem pairPin_frame (s : State) (hg : Agree m s₀ s) (h_pair : m.pair = true := by assumption) : Agree m s₀ (pairPin s) := by
  unfold pairPin
  repeat' first
    | (with_reducible first
        | assumption | apply pinEvent_frame | apply withPair_frame)
    | split

theorem execPairPin_frame (s : State) {s₁ : State} (he : execPairPin s = .next s₁) (hg : Agree m s₀ s)
    (h_pair : m.pair = true := by assumption) : Agree m s₀ s₁ := by
  injection he with he
  subst he
  repeat' first
    | (with_reducible first
        | assumption | apply pairPin_frame)
    | split

theorem laneRemove_frame (i : Nat) (s : State) (hg : Agree m s₀ s) (h_lane : m.lane = true := by assumption)
    (h_pair : m.pair = true := by assumption) : Agree m s₀ (laneRemove i s) := by
  unfold laneRemove
  repeat' first
    | (with_reducible first
        | assumption | apply laneUpd_frame | apply linkEventPair_frame | apply withPair_frame)
    | split

theorem takeLifeline_frame (c : Nat) (i : Nat) (t : Nat) (bs : List Byte) (s : State) (hg : Agree m s₀ s)
    (h_mem : m.mem = true := by assumption) (h_comp : m.comp = true := by assumption) : Agree m s₀ (takeLifeline c i t bs s) := by
  unfold takeLifeline
  try dsimp only
  repeat' first
    | (with_reducible first
        | assumption | apply canUpd_frame | apply writeStitch_frame | apply agree_foldl | apply agree_foldl_fst
        | apply agree_foldl_snd | apply agree_foldl_snd2)
    | intro _ | dsimp only | (refine agree_pair (by with_reducible assumption) ?_)
    | (refine agree_pair2 (by with_reducible assumption) ?_)
    | (refine agree_pair3 (by with_reducible assumption) ?_)
    | (refine agree_pair5 (by with_reducible assumption) ?_) | split

theorem corlerMessage_frame (p : StampNs) (x1 : CorlerMsg) (s : State) (hg : Agree m s₀ s) (h_mem : m.mem = true := by assumption)
    (h_pwr : m.pwr = true := by assumption) (h_boot : m.boot = true := by assumption) (h_pair : m.pair = true := by assumption)
    (h_comp : m.comp = true := by assumption) (h_touch : m.touch = true := by assumption) : Agree m s₀ (corlerMessage p x1 s) := by
  unfold corlerMessage
  try dsimp only
  repeat' first
    | (with_reducible first
        | assumption | apply raise_frame | apply send_frame | apply withPair_frame | apply takeLifeline_frame
        | apply drillBegin_frame | apply timingReceive_frame | apply notPermitted_frame | apply agree_foldl
        | apply agree_foldl_fst | apply agree_foldl_snd | apply agree_foldl_snd2)
    | intro _ | dsimp only | (refine agree_pair (by with_reducible assumption) ?_)
    | (refine agree_pair2 (by with_reducible assumption) ?_)
    | (refine agree_pair3 (by with_reducible assumption) ?_)
    | (refine agree_pair5 (by with_reducible assumption) ?_) | split

theorem corlerFrame_frame (lane : Nat) (f : CorlerFrame) (s : State) (hg : Agree m s₀ s) (h_mem : m.mem = true := by assumption)
    (h_pwr : m.pwr = true := by assumption) (h_boot : m.boot = true := by assumption) (h_lane : m.lane = true := by assumption)
    (h_pair : m.pair = true := by assumption) (h_comp : m.comp = true := by assumption) (h_touch : m.touch = true := by assumption)
    : Agree m s₀ (corlerFrame lane f s) := by
  unfold corlerFrame
  try dsimp only
  repeat' first
    | (with_reducible first
        | assumption | apply corlerMessage_frame | apply withPair_frame | apply laneRemove_frame
        | apply agree_foldl | apply agree_foldl_fst | apply agree_foldl_snd | apply agree_foldl_snd2)
    | intro _ | dsimp only | (refine agree_pair (by with_reducible assumption) ?_)
    | (refine agree_pair2 (by with_reducible assumption) ?_)
    | (refine agree_pair3 (by with_reducible assumption) ?_)
    | (refine agree_pair5 (by with_reducible assumption) ?_) | split

theorem execCorlerFrameReceive_frame (lane : Nat) (f : CorlerFrame) (s : State) {s₁ : State}
    (he : execCorlerFrameReceive lane f s = .next s₁) (hg : Agree m s₀ s) (h_mem : m.mem = true := by assumption)
    (h_pwr : m.pwr = true := by assumption) (h_boot : m.boot = true := by assumption) (h_lane : m.lane = true := by assumption)
    (h_pair : m.pair = true := by assumption) (h_comp : m.comp = true := by assumption) (h_touch : m.touch = true := by assumption)
    : Agree m s₀ s₁ := by
  injection he with he
  subst he
  repeat' first
    | (with_reducible first
        | assumption | apply corlerFrame_frame)
    | split

theorem phaseNext_frame (s : State) (hg : Agree m s₀ s) (h_pair : m.pair = true := by assumption) : Agree m s₀ (phaseNext s) := by
  unfold phaseNext
  repeat' first
    | (with_reducible first
        | assumption | apply knitEvent_frame | apply withPair_frame)
    | split

theorem corlerTraining_frame (r : CorlerTraining) (s : State) (hg : Agree m s₀ s) (h_pwr : m.pwr = true := by assumption)
    (h_boot : m.boot = true := by assumption) (h_lane : m.lane = true := by assumption) (h_pair : m.pair = true := by assumption)
    (h_touch : m.touch = true := by assumption) : Agree m s₀ (corlerTraining r s) := by
  unfold corlerTraining
  try dsimp only
  repeat' first
    | (with_reducible first
        | assumption | apply withPair_frame | apply knitFail_frame | apply laneUpd_frame | apply send_frame
        | apply phaseNext_frame | apply agree_foldl | apply agree_foldl_fst)
    | intro _ | dsimp only | split

theorem execCorlerLinkTraining_frame (r : CorlerTraining) (s : State) {s₁ : State} (he : execCorlerLinkTraining r s = .next s₁)
    (hg : Agree m s₀ s) (h_pwr : m.pwr = true := by assumption) (h_boot : m.boot = true := by assumption)
    (h_lane : m.lane = true := by assumption) (h_pair : m.pair = true := by assumption) (h_touch : m.touch = true := by assumption)
    : Agree m s₀ s₁ := by
  injection he with he
  subst he
  repeat' first
    | (with_reducible first
        | assumption | apply corlerTraining_frame)
    | split

theorem trainingRetry_frame (s : State) (hg : Agree m s₀ s) (h_pair : m.pair = true := by assumption) : Agree m s₀ (trainingRetry s) := by
  unfold trainingRetry
  repeat' first
    | (with_reducible first
        | assumption | apply withPair_frame)
    | split

theorem execCorlerTrainingRetry_frame (s : State) {s₁ : State} (he : execCorlerTrainingRetry s = .next s₁) (hg : Agree m s₀ s)
    (h_pair : m.pair = true := by assumption) : Agree m s₀ s₁ := by
  injection he with he
  subst he
  repeat' first
    | (with_reducible first
        | assumption | apply trainingRetry_frame)
    | split

theorem notCompared_frame (o : Nat) (code : Nat) (s : State) (hg : Agree m s₀ s) (h_pair : m.pair = true := by assumption) : Agree m s₀
    (notCompared o code s) := by
  unfold notCompared
  repeat' first
    | (with_reducible first
        | assumption | apply cmpResult_frame | apply withPair_frame)
    | split

theorem configEvent_frame (differ : Bool) (s : State) (hg : Agree m s₀ s) : Agree m s₀ (configEvent differ s) := by
  unfold configEvent
  repeat' first
    | (with_reducible first
        | assumption | apply raise_frame)
    | split

theorem configCheck_frame (s : State) (hg : Agree m s₀ s) (h_pair : m.pair = true := by assumption) : Agree m s₀ (configCheck s) := by
  unfold configCheck
  try dsimp only
  repeat' first
    | (with_reducible first
        | assumption | apply withPair_frame | apply configEvent_frame | apply agree_foldl | apply agree_foldl_fst)
    | intro _ | dsimp only | split

theorem digestReceive_frame (r : PeerDigest) (s : State) (hg : Agree m s₀ s) (h_pair : m.pair = true := by assumption) : Agree m s₀
    (digestReceive r s) := by
  unfold digestReceive
  try dsimp only
  repeat' first
    | (with_reducible first
        | assumption | apply configCheck_frame | apply withPair_frame | apply notCompared_frame
        | apply comparePair_frame | apply agree_foldl | apply agree_foldl_fst)
    | intro _ | dsimp only | split

theorem execDigestRecordReceive_frame (r : PeerDigest) (s : State) {s₁ : State} (he : execDigestRecordReceive r s = .next s₁)
    (hg : Agree m s₀ s) (h_pair : m.pair = true := by assumption) : Agree m s₀ s₁ := by
  injection he with he
  subst he
  repeat' first
    | (with_reducible first
        | assumption | apply digestReceive_frame)
    | split

theorem digestLate_frame (o : Nat) (s : State) (hg : Agree m s₀ s) (h_pair : m.pair = true := by assumption) : Agree m s₀
    (digestLate o s) := by
  unfold digestLate
  try dsimp only
  repeat' first
    | (with_reducible first
        | assumption | apply notCompared_frame | apply withPair_frame | apply agree_foldl | apply agree_foldl_fst)
    | intro _ | dsimp only | split

theorem execDigestRecordLate_frame (output : Nat) (s : State) {s₁ : State} (he : execDigestRecordLate output s = .next s₁)
    (hg : Agree m s₀ s) (h_pair : m.pair = true := by assumption) : Agree m s₀ s₁ := by
  injection he with he
  subst he
  repeat' first
    | (with_reducible first
        | assumption | apply digestLate_frame)
    | split

theorem pairConfig_frame (s : State) (hg : Agree m s₀ s) (h_pair : m.pair = true := by assumption) : Agree m s₀ (pairConfig s) := by
  unfold pairConfig
  try dsimp only
  repeat' first
    | (with_reducible first
        | assumption | apply configCheck_frame | apply configEvent_frame | apply withPair_frame | apply agree_foldl
        | apply agree_foldl_fst)
    | intro _ | dsimp only | split

theorem execPairConfig_frame (s : State) {s₁ : State} (he : execPairConfig s = .next s₁) (hg : Agree m s₀ s)
    (h_pair : m.pair = true := by assumption) : Agree m s₀ s₁ := by
  injection he with he
  subst he
  repeat' first
    | (with_reducible first
        | assumption | apply pairConfig_frame)
    | split

theorem takeover_frame (s : State) (hg : Agree m s₀ s) (h_pwr : m.pwr = true := by assumption) (h_boot : m.boot = true := by assumption)
    (h_pair : m.pair = true := by assumption) (h_scan : m.scan = true := by assumption) (h_touch : m.touch = true := by assumption)
    : Agree m s₀ (takeover s) := by
  unfold takeover
  try dsimp only
  repeat' first
    | (with_reducible first
        | assumption | apply becomeLead_frame | apply agree_foldl | apply agree_foldl_fst | apply agree_foldl_snd
        | apply agree_foldl_snd2)
    | intro _ | dsimp only | (refine agree_pair (by with_reducible assumption) ?_)
    | (refine agree_pair2 (by with_reducible assumption) ?_)
    | (refine agree_pair3 (by with_reducible assumption) ?_)
    | (refine agree_pair5 (by with_reducible assumption) ?_) | split

theorem execTakeover_frame (s : State) {s₁ : State} (he : execTakeover s = .next s₁) (hg : Agree m s₀ s)
    (h_pwr : m.pwr = true := by assumption) (h_boot : m.boot = true := by assumption) (h_pair : m.pair = true := by assumption)
    (h_scan : m.scan = true := by assumption) (h_touch : m.touch = true := by assumption) : Agree m s₀ s₁ := by
  injection he with he
  subst he
  repeat' first
    | (with_reducible first
        | assumption | apply takeover_frame)
    | split

theorem leadActs_frame (r : HandReason) (s : State) (hg : Agree m s₀ s) (h_pwr : m.pwr = true := by assumption)
    (h_boot : m.boot = true := by assumption) (h_lane : m.lane = true := by assumption) (h_pair : m.pair = true := by assumption)
    (h_touch : m.touch = true := by assumption) : Agree m s₀ (leadActs r s) := by
  unfold leadActs
  repeat' first
    | (with_reducible first
        | assumption | apply setMode_frame | apply enterSafeHold_frame | apply enterBindOff_frame
        | apply pairDrop_frame)
    | split

theorem handoverRequest_frame (s : State) (hg : Agree m s₀ s) (h_pwr : m.pwr = true := by assumption)
    (h_boot : m.boot = true := by assumption) (h_lane : m.lane = true := by assumption) (h_pair : m.pair = true := by assumption)
    (h_touch : m.touch = true := by assumption) : Agree m s₀ (handoverRequest s) := by
  unfold handoverRequest
  repeat' first
    | (with_reducible first
        | assumption | apply withPair_frame | apply roleEvent_frame | apply leadActs_frame)
    | split

theorem execHandoverRequest_frame (s : State) {s₁ : State} (he : execHandoverRequest s = .next s₁) (hg : Agree m s₀ s)
    (h_pwr : m.pwr = true := by assumption) (h_boot : m.boot = true := by assumption) (h_lane : m.lane = true := by assumption)
    (h_pair : m.pair = true := by assumption) (h_touch : m.touch = true := by assumption) : Agree m s₀ s₁ := by
  injection he with he
  subst he
  repeat' first
    | (with_reducible first
        | assumption | apply handoverRequest_frame)
    | split

theorem handoverSwitch_frame (s : State) (hg : Agree m s₀ s) (h_pwr : m.pwr = true := by assumption)
    (h_boot : m.boot = true := by assumption) (h_lane : m.lane = true := by assumption) (h_pair : m.pair = true := by assumption)
    (h_scan : m.scan = true := by assumption) (h_touch : m.touch = true := by assumption) : Agree m s₀ (handoverSwitch s) := by
  unfold handoverSwitch
  try dsimp only
  repeat' first
    | (with_reducible first
        | assumption | apply leadActs_frame | apply withPair_frame | apply roleEvent_frame | apply becomeLead_frame
        | apply agree_foldl | apply agree_foldl_fst | apply agree_foldl_snd | apply agree_foldl_snd2)
    | intro _ | dsimp only | (refine agree_pair (by with_reducible assumption) ?_)
    | (refine agree_pair2 (by with_reducible assumption) ?_)
    | (refine agree_pair3 (by with_reducible assumption) ?_)
    | (refine agree_pair5 (by with_reducible assumption) ?_) | split

theorem execHandoverSwitch_frame (s : State) {s₁ : State} (he : execHandoverSwitch s = .next s₁) (hg : Agree m s₀ s)
    (h_pwr : m.pwr = true := by assumption) (h_boot : m.boot = true := by assumption) (h_lane : m.lane = true := by assumption)
    (h_pair : m.pair = true := by assumption) (h_scan : m.scan = true := by assumption) (h_touch : m.touch = true := by assumption)
    : Agree m s₀ s₁ := by
  injection he with he
  subst he
  repeat' first
    | (with_reducible first
        | assumption | apply handoverSwitch_frame)
    | split

theorem handoverTimeout_frame (s : State) (hg : Agree m s₀ s) (h_pwr : m.pwr = true := by assumption)
    (h_boot : m.boot = true := by assumption) (h_pair : m.pair = true := by assumption) (h_touch : m.touch = true := by assumption)
    : Agree m s₀ (handoverTimeout s) := by
  unfold handoverTimeout
  try dsimp only
  repeat' first
    | (with_reducible first
        | assumption | apply roleEvent_frame | apply withPair_frame | apply setMode_frame | apply drillEnd_frame
        | apply agree_foldl | apply agree_foldl_fst | apply agree_foldl_snd | apply agree_foldl_snd2)
    | intro _ | dsimp only | (refine agree_pair (by with_reducible assumption) ?_)
    | (refine agree_pair2 (by with_reducible assumption) ?_)
    | (refine agree_pair3 (by with_reducible assumption) ?_)
    | (refine agree_pair5 (by with_reducible assumption) ?_) | split

theorem execHandoverTimeout_frame (s : State) {s₁ : State} (he : execHandoverTimeout s = .next s₁) (hg : Agree m s₀ s)
    (h_pwr : m.pwr = true := by assumption) (h_boot : m.boot = true := by assumption) (h_pair : m.pair = true := by assumption)
    (h_touch : m.touch = true := by assumption) : Agree m s₀ s₁ := by
  injection he with he
  subst he
  repeat' first
    | (with_reducible first
        | assumption | apply handoverTimeout_frame)
    | split

theorem leaveReceive_frame (s : State) (hg : Agree m s₀ s) (h_pwr : m.pwr = true := by assumption)
    (h_boot : m.boot = true := by assumption) (h_pair : m.pair = true := by assumption) (h_touch : m.touch = true := by assumption)
    : Agree m s₀ (leaveReceive s) := by
  unfold leaveReceive
  repeat' first
    | (with_reducible first
        | assumption | apply followLeaves_frame | apply knitFail_frame)
    | split

theorem execLeaveMessageReceive_frame (s : State) {s₁ : State} (he : execLeaveMessageReceive s = .next s₁) (hg : Agree m s₀ s)
    (h_pwr : m.pwr = true := by assumption) (h_boot : m.boot = true := by assumption) (h_pair : m.pair = true := by assumption)
    (h_touch : m.touch = true := by assumption) : Agree m s₀ s₁ := by
  injection he with he
  subst he
  repeat' first
    | (with_reducible first
        | assumption | apply leaveReceive_frame)
    | split

theorem drillTurn_frame (d : Drill) (frame : Nat) (s : State) (hg : Agree m s₀ s) (h_pair : m.pair = true := by assumption)
    (h_scan : m.scan = true := by assumption) : Agree m s₀ (drillTurn d frame s) := by
  unfold drillTurn
  try dsimp only
  repeat' first
    | (with_reducible first
        | assumption | apply roleEvent_frame | apply withPair_frame | apply showsFrom_frame | apply agree_foldl
        | apply agree_foldl_fst | apply agree_foldl_snd | apply agree_foldl_snd2)
    | intro _ | dsimp only | (refine agree_pair (by with_reducible assumption) ?_)
    | (refine agree_pair2 (by with_reducible assumption) ?_)
    | (refine agree_pair3 (by with_reducible assumption) ?_)
    | (refine agree_pair5 (by with_reducible assumption) ?_) | split

theorem drillSwap_frame (s : State) (hg : Agree m s₀ s) (h_pair : m.pair = true := by assumption)
    (h_scan : m.scan = true := by assumption) : Agree m s₀ (drillSwap s) := by
  unfold drillSwap
  repeat' first
    | (with_reducible first
        | assumption | apply drillTurn_frame)
    | split

theorem execDrillSwap_frame (s : State) {s₁ : State} (he : execDrillSwap s = .next s₁) (hg : Agree m s₀ s)
    (h_pair : m.pair = true := by assumption) (h_scan : m.scan = true := by assumption) : Agree m s₀ s₁ := by
  injection he with he
  subst he
  repeat' first
    | (with_reducible first
        | assumption | apply drillSwap_frame)
    | split

theorem drillReturn_frame (s : State) (hg : Agree m s₀ s) (h_pair : m.pair = true := by assumption)
    (h_scan : m.scan = true := by assumption) : Agree m s₀ (drillReturn s) := by
  unfold drillReturn
  repeat' first
    | (with_reducible first
        | assumption | apply drillTurn_frame)
    | split

theorem execDrillReturn_frame (s : State) {s₁ : State} (he : execDrillReturn s = .next s₁) (hg : Agree m s₀ s)
    (h_pair : m.pair = true := by assumption) (h_scan : m.scan = true := by assumption) : Agree m s₀ s₁ := by
  injection he with he
  subst he
  repeat' first
    | (with_reducible first
        | assumption | apply drillReturn_frame)
    | split

theorem drillResult_frame (s : State) (hg : Agree m s₀ s) (h_pwr : m.pwr = true := by assumption)
    (h_boot : m.boot = true := by assumption) (h_pair : m.pair = true := by assumption) (h_touch : m.touch = true := by assumption)
    : Agree m s₀ (drillResult s) := by
  unfold drillResult
  try dsimp only
  repeat' first
    | (with_reducible first
        | assumption | apply drillEnd_frame | apply roleEvent_frame | apply setMode_frame | apply agree_foldl
        | apply agree_foldl_fst | apply agree_foldl_snd | apply agree_foldl_snd2)
    | intro _ | dsimp only | (refine agree_pair (by with_reducible assumption) ?_)
    | (refine agree_pair2 (by with_reducible assumption) ?_)
    | (refine agree_pair3 (by with_reducible assumption) ?_)
    | (refine agree_pair5 (by with_reducible assumption) ?_) | split

theorem execDrillResult_frame (u : Unit) (s : State) {s₁ : State} (he : execDrillResult u s = .next s₁) (hg : Agree m s₀ s)
    (h_pwr : m.pwr = true := by assumption) (h_boot : m.boot = true := by assumption) (h_pair : m.pair = true := by assumption)
    (h_touch : m.touch = true := by assumption) : Agree m s₀ s₁ := by
  injection he with he
  subst he
  repeat' first
    | (with_reducible first
        | assumption | apply drillResult_frame | apply agree_foldl | apply agree_foldl_fst | apply agree_foldl_snd
        | apply agree_foldl_snd2)
    | intro _ | dsimp only | (refine agree_pair (by with_reducible assumption) ?_)
    | (refine agree_pair2 (by with_reducible assumption) ?_)
    | (refine agree_pair3 (by with_reducible assumption) ?_)
    | (refine agree_pair5 (by with_reducible assumption) ?_) | split

theorem copyStreams_frame (t : Tab (List Byte)) (s : State) (hg : Agree m s₀ s) (h_str : m.str = true := by assumption) : Agree m s₀
    (copyStreams t s) := by
  unfold copyStreams
  try dsimp only
  repeat' first
    | (with_reducible first
        | assumption | apply withStr_frame | apply settleMerge_frame | apply agree_foldl | apply agree_foldl_fst)
    | intro _ | dsimp only | split

theorem copyStills_frame (p : PairCopy) (s : State) (hg : Agree m s₀ s) (h_mem : m.mem = true := by assumption) : Agree m s₀
    (copyStills p s) := by
  unfold copyStills
  try dsimp only
  repeat' first
    | (with_reducible first
        | assumption | apply busWrite_frame | apply agree_foldl | apply agree_foldl_fst)
    | intro _ | dsimp only | split

theorem applySnapshot_frame (p : PairCopy) (s : State) (hg : Agree m s₀ s) (h_tb : m.tb = true := by assumption)
    (h_mem : m.mem = true := by assumption) (h_pair : m.pair = true := by assumption) (h_scan : m.scan = true := by assumption)
    (h_net : m.net = true := by assumption) (h_str : m.str = true := by assumption) (h_comp : m.comp = true := by assumption)
    (h_enc : m.enc = true := by assumption) : Agree m s₀ (applySnapshot p s) := by
  unfold applySnapshot
  try dsimp only
  repeat' first
    | (with_reducible first
        | assumption | apply copyStreams_frame | apply withNet_frame | apply withTb_frame | apply withComp_frame
        | apply outUpd_frame | apply ecUpd_frame | apply copyStills_frame | apply withPair_frame
        | apply agree_foldl | apply agree_foldl_fst)
    | intro _ | dsimp only | (refine agree_pair (by with_reducible assumption) ?_)
    | (refine agree_pair2 (by with_reducible assumption) ?_)
    | (refine agree_pair3 (by with_reducible assumption) ?_)
    | (refine agree_pair5 (by with_reducible assumption) ?_) | split

theorem applyState_frame (p : StateCopy) (s : State) (hg : Agree m s₀ s) (h_mem : m.mem = true := by assumption)
    (h_comp : m.comp = true := by assumption) (h_enc : m.enc = true := by assumption) : Agree m s₀ (applyState p s) := by
  unfold applyState
  try dsimp only
  repeat' first
    | (with_reducible first
        | assumption | apply busWrite_frame | apply canUpd_frame | apply ecUpd_frame | apply agree_foldl
        | apply agree_foldl_fst)
    | intro _ | dsimp only | split

theorem knitPhaseEnd_frame (k : KnitEnd) (s : State) (hg : Agree m s₀ s) (h_tb : m.tb = true := by assumption)
    (h_mem : m.mem = true := by assumption) (h_pwr : m.pwr = true := by assumption) (h_boot : m.boot = true := by assumption)
    (h_pair : m.pair = true := by assumption) (h_scan : m.scan = true := by assumption) (h_net : m.net = true := by assumption)
    (h_str : m.str = true := by assumption) (h_comp : m.comp = true := by assumption) (h_enc : m.enc = true := by assumption)
    (h_touch : m.touch = true := by assumption) : Agree m s₀ (knitPhaseEnd k s) := by
  unfold knitPhaseEnd
  try dsimp only
  repeat' first
    | (with_reducible first
        | assumption | apply phaseNext_frame | apply send_frame | apply applySnapshot_frame
        | apply applyState_frame | apply withPair_frame | apply knitEvent_frame | apply setMode_frame
        | apply roleEvent_frame | apply agree_foldl | apply agree_foldl_fst)
    | intro _ | dsimp only | split

theorem execKnitPhaseEnd_frame (k : KnitEnd) (s : State) {s₁ : State} (he : execKnitPhaseEnd k s = .next s₁) (hg : Agree m s₀ s)
    (h_tb : m.tb = true := by assumption) (h_mem : m.mem = true := by assumption) (h_pwr : m.pwr = true := by assumption)
    (h_boot : m.boot = true := by assumption) (h_pair : m.pair = true := by assumption) (h_scan : m.scan = true := by assumption)
    (h_net : m.net = true := by assumption) (h_str : m.str = true := by assumption) (h_comp : m.comp = true := by assumption)
    (h_enc : m.enc = true := by assumption) (h_touch : m.touch = true := by assumption) : Agree m s₀ s₁ := by
  injection he with he
  subst he
  repeat' first
    | (with_reducible first
        | assumption | apply knitPhaseEnd_frame)
    | split

theorem copyFailed_frame (k : Nat) (abandoned : Bool) (s : State) (hg : Agree m s₀ s) (h_pair : m.pair = true := by assumption)
    (h_str : m.str = true := by assumption) : Agree m s₀ (copyFailed k abandoned s) := by
  unfold copyFailed
  try dsimp only
  repeat' first
    | (with_reducible first
        | assumption | apply withPair_frame | apply strUpd_frame | apply agree_foldl | apply agree_foldl_fst)
    | intro _ | dsimp only | split

theorem moverStitch_helper (k : Nat) (sends : Bool) (us : List StageFault) (f : Surf) (r : List Failure × State) (c : Nat × Nat)
    (h : Agree m s₀ r.2) (h_mem : m.mem = true := by assumption) (h_str : m.str = true := by assumption) : Agree m s₀ (moverStitch k sends us f r c).2 := by
  unfold moverStitch
  dsimp only
  repeat' first
    | (with_reducible first
        | assumption | apply send_frame | apply fetchStitch_frame)
    | intro _ | dsimp only | split

theorem moverSurface_helper (k : Nat) (sends : Bool) (us : List StageFault) (slot frame : Nat) (f : Surf) (r : Bool × State)
    (h : Agree m s₀ r.2) (h_mem : m.mem = true := by assumption) (h_str : m.str = true := by assumption) : Agree m s₀ (moverSurface k sends us slot frame f r).2 := by
  unfold moverSurface
  dsimp only
  refine custodyReport_frame _ _ _ _ _ _ _ _ ?_
  refine agree_foldl_snd (fun _ _ hy => moverStitch_helper _ _ _ _ _ _ hy) ?_
  exact h

theorem moverRead_frame (k : Nat) (sends : Bool) (us : List StageFault) (s : State) (hg : Agree m s₀ s)
    (h_mem : m.mem = true := by assumption) (h_str : m.str = true := by assumption) :
    Agree m s₀ (moverRead k sends us s).2 := by
  unfold moverRead
  dsimp only
  refine agree_foldl_snd (fun _ _ hy => moverSurface_helper _ _ _ _ _ _ _ hy) ?_
  refine agree_foldl_snd (fun _ _ hy => moverSurface_helper _ _ _ _ _ _ _ hy) ?_
  exact hg

theorem copyIn_frame (k : Nat) (x : StreamCopy) (s : State) (hg : Agree m s₀ s) (h_mem : m.mem = true := by assumption)
    (h_str : m.str = true := by assumption) : Agree m s₀ (copyIn k x s) := by
  unfold copyIn
  try dsimp only
  repeat' first
    | (with_reducible first
        | assumption | apply strUpd_frame | apply withStr_frame | apply busWrite_frame | apply agree_foldl
        | apply agree_foldl_fst | apply agree_foldl_snd | apply agree_foldl_snd2)
    | intro _ | dsimp only | (refine agree_pair (by with_reducible assumption) ?_)
    | (refine agree_pair2 (by with_reducible assumption) ?_)
    | (refine agree_pair3 (by with_reducible assumption) ?_)
    | (refine agree_pair5 (by with_reducible assumption) ?_) | split

theorem streamCopy_frame (k : Nat) (x : StreamCopy) (s : State) (hg : Agree m s₀ s) (h_mem : m.mem = true := by assumption)
    (h_pair : m.pair = true := by assumption) (h_str : m.str = true := by assumption) : Agree m s₀ (streamCopy k x s) := by
  unfold streamCopy
  try dsimp only
  repeat' first
    | (with_reducible first
        | assumption | apply copyFailed_frame | apply moverRead_frame | apply copyIn_frame | apply withPair_frame
        | apply agree_foldl | apply agree_foldl_fst | apply agree_foldl_snd | apply agree_foldl_snd2)
    | intro _ | dsimp only | (refine agree_pair (by with_reducible assumption) ?_)
    | (refine agree_pair2 (by with_reducible assumption) ?_)
    | (refine agree_pair3 (by with_reducible assumption) ?_)
    | (refine agree_pair5 (by with_reducible assumption) ?_) | split

theorem execKnitStreamCopy_frame (stream : Nat) (k : StreamCopy) (s : State) {s₁ : State} (he : execKnitStreamCopy stream k s = .next s₁)
    (hg : Agree m s₀ s) (h_mem : m.mem = true := by assumption) (h_pair : m.pair = true := by assumption)
    (h_str : m.str = true := by assumption) : Agree m s₀ s₁ := by
  injection he with he
  subst he
  repeat' first
    | (with_reducible first
        | assumption | apply streamCopy_frame)
    | split

theorem knitTimeout_frame (s : State) (hg : Agree m s₀ s) (h_pwr : m.pwr = true := by assumption)
    (h_boot : m.boot = true := by assumption) (h_pair : m.pair = true := by assumption) (h_touch : m.touch = true := by assumption)
    : Agree m s₀ (knitTimeout s) := by
  unfold knitTimeout
  repeat' first
    | (with_reducible first
        | assumption | apply knitFail_frame)
    | split

theorem execKnitTimeout_frame (s : State) {s₁ : State} (he : execKnitTimeout s = .next s₁) (hg : Agree m s₀ s)
    (h_pwr : m.pwr = true := by assumption) (h_boot : m.boot = true := by assumption) (h_pair : m.pair = true := by assumption)
    (h_touch : m.touch = true := by assumption) : Agree m s₀ s₁ := by
  injection he with he
  subst he
  repeat' first
    | (with_reducible first
        | assumption | apply knitTimeout_frame)
    | split

theorem acceptExpiry_frame (s : State) (hg : Agree m s₀ s) (h_pair : m.pair = true := by assumption) : Agree m s₀ (acceptExpiry s) := by
  unfold acceptExpiry
  repeat' first
    | (with_reducible first
        | assumption | apply withPair_frame)
    | split

theorem execPairAcceptExpiry_frame (s : State) {s₁ : State} (he : execPairAcceptExpiry s = .next s₁) (hg : Agree m s₀ s)
    (h_pair : m.pair = true := by assumption) : Agree m s₀ s₁ := by
  injection he with he
  subst he
  repeat' first
    | (with_reducible first
        | assumption | apply acceptExpiry_frame)
    | split

theorem loopDetach_frame (i : Nat) (s : State) (hg : Agree m s₀ s) (h_mem : m.mem = true := by assumption)
    (h_scan : m.scan = true := by assumption) (h_net : m.net = true := by assumption) (h_bb : m.bb = true := by assumption)
    (h_str : m.str = true := by assumption) (h_comp : m.comp = true := by assumption) : Agree m s₀ (loopDetach i s) := by
  unfold loopDetach
  try dsimp only
  repeat' first
    | (with_reducible first
        | assumption | apply outSet_frame | apply linkEvent_frame | apply bbUpd_frame | apply bbEnd_frame
        | apply netLink_frame | apply agree_foldl | apply agree_foldl_fst)
    | intro _ | dsimp only | split

theorem loopAttach_frame (i : Nat) (s : State) (hg : Agree m s₀ s) (h_scan : m.scan = true := by assumption)
    (h_bb : m.bb = true := by assumption) : Agree m s₀ (loopAttach i s) := by
  unfold loopAttach
  repeat' first
    | (with_reducible first
        | assumption | apply trainBegin_frame | apply bbUpd_frame)
    | split

theorem loopStart_frame (i : Nat) (kind : Nat) (s : State) (hg : Agree m s₀ s) (h_mem : m.mem = true := by assumption)
    (h_lane : m.lane = true := by assumption) (h_scan : m.scan = true := by assumption) (h_net : m.net = true := by assumption)
    (h_bb : m.bb = true := by assumption) (h_str : m.str = true := by assumption) (h_comp : m.comp = true := by assumption) : Agree m s₀
    (loopStart i kind s) := by
  unfold loopStart
  repeat' first
    | (with_reducible first
        | assumption | apply laneUpd_frame | apply laneEnter_frame | apply loopDetach_frame)
    | split

theorem opLaneLoop_frame (c : Cmd) (s : State) (hg : Agree m s₀ s) (h_mem : m.mem = true := by assumption)
    (h_lane : m.lane = true := by assumption) (h_scan : m.scan = true := by assumption) (h_net : m.net = true := by assumption)
    (h_bb : m.bb = true := by assumption) (h_str : m.str = true := by assumption) (h_comp : m.comp = true := by assumption) : Agree m s₀
    (opLaneLoop c s).1 := by
  unfold opLaneLoop
  try dsimp only
  repeat' first
    | (with_reducible first
        | assumption | apply checked_frame | apply loopStart_frame | apply agree_foldl | apply agree_foldl_fst)
    | (simp only [agree_mk]; with_reducible refine agreeAt_lane (by assumption) ?_) | intro _ | dsimp only | split

theorem execLaneLoop_frame (c : Cmd) (s : State) {s₁ : State} (he : execLaneLoop c s = .next s₁) (hg : Agree m s₀ s)
    (h_mem : m.mem = true := by assumption) (h_lane : m.lane = true := by assumption) (h_scan : m.scan = true := by assumption)
    (h_net : m.net = true := by assumption) (h_bb : m.bb = true := by assumption) (h_str : m.str = true := by assumption)
    (h_comp : m.comp = true := by assumption) : Agree m s₀ s₁ := by
  injection he with he
  subst he
  repeat' first
    | (with_reducible first
        | assumption | apply hostCommand_frame | apply opLaneLoop_frame | apply agree_foldl | apply agree_foldl_fst)
    | intro _ | dsimp only | split

theorem loopEnd_frame (r : LoopResult) (s : State) (hg : Agree m s₀ s) (h_lane : m.lane = true := by assumption)
    (h_scan : m.scan = true := by assumption) (h_bb : m.bb = true := by assumption) : Agree m s₀ (loopEnd r s) := by
  unfold loopEnd
  try dsimp only
  repeat' first
    | (with_reducible first
        | assumption | apply loopAttach_frame | apply completeOutst_frame | apply laneLeave_frame
        | apply agree_foldl | apply agree_foldl_fst)
    | intro _ | dsimp only | split

theorem execLaneLoopEnd_frame (r : LoopResult) (s : State) {s₁ : State} (he : execLaneLoopEnd r s = .next s₁) (hg : Agree m s₀ s)
    (h_lane : m.lane = true := by assumption) (h_scan : m.scan = true := by assumption) (h_bb : m.bb = true := by assumption)
    : Agree m s₀ s₁ := by
  injection he with he
  subst he
  repeat' first
    | (with_reducible first
        | assumption | apply loopEnd_frame)
    | split

theorem recalBegin_frame (i : Nat) (s : State) (hg : Agree m s₀ s) (h_mem : m.mem = true := by assumption)
    (h_lane : m.lane = true := by assumption) (h_pair : m.pair = true := by assumption) (h_str : m.str = true := by assumption)
    (h_comp : m.comp = true := by assumption) : Agree m s₀ (recalBegin i s) := by
  unfold recalBegin
  try dsimp only
  repeat' first
    | (with_reducible first
        | assumption | apply recalWaiting_frame | apply laneUpd_frame | apply recalStart_frame
        | apply streamLinkDown_frame | apply withPair_frame | apply agree_foldl | apply agree_foldl_fst)
    | intro _ | dsimp only | split

theorem opLaneRecal_frame (c : Cmd) (s : State) (hg : Agree m s₀ s) (h_mem : m.mem = true := by assumption)
    (h_lane : m.lane = true := by assumption) (h_pair : m.pair = true := by assumption) (h_str : m.str = true := by assumption)
    (h_comp : m.comp = true := by assumption) : Agree m s₀ (opLaneRecal c s).1 := by
  unfold opLaneRecal
  try dsimp only
  repeat' first
    | (with_reducible first
        | assumption | apply checked_frame | apply recalBegin_frame | apply agree_foldl | apply agree_foldl_fst)
    | (simp only [agree_mk]; with_reducible refine agreeAt_lane (by assumption) ?_) | intro _ | dsimp only | split

theorem execLaneRecal_frame (c : Cmd) (s : State) {s₁ : State} (he : execLaneRecal c s = .next s₁) (hg : Agree m s₀ s)
    (h_mem : m.mem = true := by assumption) (h_lane : m.lane = true := by assumption) (h_pair : m.pair = true := by assumption)
    (h_str : m.str = true := by assumption) (h_comp : m.comp = true := by assumption) : Agree m s₀ s₁ := by
  injection he with he
  subst he
  repeat' first
    | (with_reducible first
        | assumption | apply hostCommand_frame | apply opLaneRecal_frame | apply agree_foldl
        | apply agree_foldl_fst)
    | intro _ | dsimp only | split

theorem recalReturn_frame (i : Nat) (s : State) (hg : Agree m s₀ s) (h_pair : m.pair = true := by assumption)
    (h_scan : m.scan = true := by assumption) : Agree m s₀ (recalReturn i s) := by
  unfold recalReturn
  repeat' first
    | (with_reducible first
        | assumption | apply withPair_frame | apply trainBegin_frame)
    | split

theorem recalEnd_frame (i : Nat) (ok : Bool) (s : State) (hg : Agree m s₀ s) (h_lane : m.lane = true := by assumption)
    (h_pair : m.pair = true := by assumption) (h_scan : m.scan = true := by assumption) : Agree m s₀ (recalEnd i ok s) := by
  unfold recalEnd
  try dsimp only
  repeat' first
    | (with_reducible first
        | assumption | apply recalReturn_frame | apply laneLeave_frame | apply linkEventPair_frame
        | apply laneUpd_frame | apply agree_foldl | apply agree_foldl_fst)
    | intro _ | dsimp only | split

theorem execLaneRecalEnd_frame (lane : Nat) (ok : Bool) (s : State) {s₁ : State} (he : execLaneRecalEnd lane ok s = .next s₁)
    (hg : Agree m s₀ s) (h_lane : m.lane = true := by assumption) (h_pair : m.pair = true := by assumption)
    (h_scan : m.scan = true := by assumption) : Agree m s₀ s₁ := by
  injection he with he
  subst he
  repeat' first
    | (with_reducible first
        | assumption | apply recalEnd_frame)
    | split

theorem enableWork_frame (o : Outst) (s : State) (hg : Agree m s₀ s) (h_mem : m.mem = true := by assumption)
    (h_pwr : m.pwr = true := by assumption) (h_boot : m.boot = true := by assumption) (h_pair : m.pair = true := by assumption)
    (h_scan : m.scan = true := by assumption) (h_net : m.net = true := by assumption) (h_bb : m.bb = true := by assumption)
    (h_str : m.str = true := by assumption) (h_comp : m.comp = true := by assumption) (h_touch : m.touch = true := by assumption)
    : Agree m s₀ (enableWork o s) := by
  unfold enableWork
  repeat' first
    | (with_reducible first
        | assumption | apply portApply_frame | apply bbOn_frame | apply outOn_frame | apply knitBegin_frame)
    | split

theorem calibrationEnd_frame (failed : List Nat) (s : State) (hg : Agree m s₀ s) (h_mem : m.mem = true := by assumption)
    (h_pwr : m.pwr = true := by assumption) (h_boot : m.boot = true := by assumption) (h_lane : m.lane = true := by assumption)
    (h_pair : m.pair = true := by assumption) (h_scan : m.scan = true := by assumption) (h_net : m.net = true := by assumption)
    (h_bb : m.bb = true := by assumption) (h_str : m.str = true := by assumption) (h_comp : m.comp = true := by assumption)
    (h_touch : m.touch = true := by assumption) : Agree m s₀ (calibrationEnd failed s) := by
  unfold calibrationEnd
  try dsimp only
  repeat' first
    | (with_reducible first
        | assumption | apply laneLeave_frame | apply completeOutst_frame | apply enableWork_frame
        | apply agree_foldl | apply agree_foldl_fst | apply agree_foldl_snd | apply agree_foldl_snd2)
    | intro _ | dsimp only | (refine agree_pair (by with_reducible assumption) ?_)
    | (refine agree_pair2 (by with_reducible assumption) ?_)
    | (refine agree_pair3 (by with_reducible assumption) ?_)
    | (refine agree_pair5 (by with_reducible assumption) ?_) | split

theorem execLaneCalibrationEnd_frame (failed : List Nat) (s : State) {s₁ : State} (he : execLaneCalibrationEnd failed s = .next s₁)
    (hg : Agree m s₀ s) (h_mem : m.mem = true := by assumption) (h_pwr : m.pwr = true := by assumption)
    (h_boot : m.boot = true := by assumption) (h_lane : m.lane = true := by assumption) (h_pair : m.pair = true := by assumption)
    (h_scan : m.scan = true := by assumption) (h_net : m.net = true := by assumption) (h_bb : m.bb = true := by assumption)
    (h_str : m.str = true := by assumption) (h_comp : m.comp = true := by assumption) (h_touch : m.touch = true := by assumption)
    : Agree m s₀ s₁ := by
  injection he with he
  subst he
  repeat' first
    | (with_reducible first
        | assumption | apply calibrationEnd_frame)
    | split

theorem blank_frame (b : Boot) (s : State) (h : Agree m s₀ s) (h_tb : m.tb = true := by assumption)
    (h_mem : m.mem = true := by assumption) (h_pwr : m.pwr = true := by assumption) (h_boot : m.boot = true := by assumption)
    (h_lane : m.lane = true := by assumption) (h_pair : m.pair = true := by assumption) (h_scan : m.scan = true := by assumption)
    (h_net : m.net = true := by assumption) (h_bb : m.bb = true := by assumption) (h_str : m.str = true := by assumption)
    (h_comp : m.comp = true := by assumption) (h_enc : m.enc = true := by assumption) (h_touch : m.touch = true := by assumption)
    : Agree m s₀ (blank b s) :=
  ⟨h.pending, .inl h_tb, .inl h_mem, .inl h_pwr, .inl h_boot, .inl h_lane, .inl h_pair, .inl h_scan, .inl h_net, .inl h_bb, .inl h_str, .inl h_comp, .inl h_enc, .inl h_touch⟩

theorem castOnFrom_frame (env : BootEnv) (b : Boot) (s : State) (hg : Agree m s₀ s) (h_tb : m.tb = true := by assumption)
    (h_mem : m.mem = true := by assumption) (h_pwr : m.pwr = true := by assumption) (h_boot : m.boot = true := by assumption)
    (h_lane : m.lane = true := by assumption) (h_pair : m.pair = true := by assumption) (h_scan : m.scan = true := by assumption)
    (h_net : m.net = true := by assumption) (h_bb : m.bb = true := by assumption) (h_str : m.str = true := by assumption)
    (h_comp : m.comp = true := by assumption) (h_enc : m.enc = true := by assumption) (h_touch : m.touch = true := by assumption)
    : Agree m s₀ (castOnFrom env b s) := by
  unfold castOnFrom
  try dsimp only
  repeat' first
    | (with_reducible first
        | assumption | apply blank_frame | apply withPwr_frame | apply agree_foldl | apply agree_foldl_fst)
    | (simp only [agree_mk]; with_reducible refine agreeAt ?_) | intro _ | dsimp only | split

theorem resetRelease_frame (env : BootEnv) (s : State) (hg : Agree m s₀ s) (h_tb : m.tb = true := by assumption)
    (h_mem : m.mem = true := by assumption) (h_pwr : m.pwr = true := by assumption) (h_boot : m.boot = true := by assumption)
    (h_lane : m.lane = true := by assumption) (h_pair : m.pair = true := by assumption) (h_scan : m.scan = true := by assumption)
    (h_net : m.net = true := by assumption) (h_bb : m.bb = true := by assumption) (h_str : m.str = true := by assumption)
    (h_comp : m.comp = true := by assumption) (h_enc : m.enc = true := by assumption) (h_touch : m.touch = true := by assumption)
    : Agree m s₀ (resetRelease env s) := by
  unfold resetRelease
  repeat' first
    | (with_reducible first
        | assumption | apply castOnFrom_frame)
    | split

theorem execResetNRelease_frame (env : BootEnv) (s : State) {s₁ : State} (he : execResetNRelease env s = .next s₁) (hg : Agree m s₀ s)
    (h_tb : m.tb = true := by assumption) (h_mem : m.mem = true := by assumption) (h_pwr : m.pwr = true := by assumption)
    (h_boot : m.boot = true := by assumption) (h_lane : m.lane = true := by assumption) (h_pair : m.pair = true := by assumption)
    (h_scan : m.scan = true := by assumption) (h_net : m.net = true := by assumption) (h_bb : m.bb = true := by assumption)
    (h_str : m.str = true := by assumption) (h_comp : m.comp = true := by assumption) (h_enc : m.enc = true := by assumption)
    (h_touch : m.touch = true := by assumption) : Agree m s₀ s₁ := by
  injection he with he
  subst he
  repeat' first
    | (with_reducible first
        | assumption | apply resetRelease_frame)
    | split

theorem resetAssert_frame (s : State) (hg : Agree m s₀ s) (h_tb : m.tb = true := by assumption) (h_mem : m.mem = true := by assumption)
    (h_pwr : m.pwr = true := by assumption) (h_boot : m.boot = true := by assumption) (h_lane : m.lane = true := by assumption)
    (h_pair : m.pair = true := by assumption) (h_scan : m.scan = true := by assumption) (h_net : m.net = true := by assumption)
    (h_bb : m.bb = true := by assumption) (h_str : m.str = true := by assumption) (h_comp : m.comp = true := by assumption)
    (h_enc : m.enc = true := by assumption) (h_touch : m.touch = true := by assumption) : Agree m s₀ (resetAssert s) := by
  unfold resetAssert
  repeat' first
    | (with_reducible first
        | assumption | apply blank_frame)
    | split

theorem execResetNAssert_frame (s : State) {s₁ : State} (he : execResetNAssert s = .next s₁) (hg : Agree m s₀ s)
    (h_tb : m.tb = true := by assumption) (h_mem : m.mem = true := by assumption) (h_pwr : m.pwr = true := by assumption)
    (h_boot : m.boot = true := by assumption) (h_lane : m.lane = true := by assumption) (h_pair : m.pair = true := by assumption)
    (h_scan : m.scan = true := by assumption) (h_net : m.net = true := by assumption) (h_bb : m.bb = true := by assumption)
    (h_str : m.str = true := by assumption) (h_comp : m.comp = true := by assumption) (h_enc : m.enc = true := by assumption)
    (h_touch : m.touch = true := by assumption) : Agree m s₀ s₁ := by
  injection he with he
  subst he
  repeat' first
    | (with_reducible first
        | assumption | apply resetAssert_frame)
    | split

theorem watchdogExpiry_frame (env : BootEnv) (s : State) (hg : Agree m s₀ s) (h_tb : m.tb = true := by assumption)
    (h_mem : m.mem = true := by assumption) (h_pwr : m.pwr = true := by assumption) (h_boot : m.boot = true := by assumption)
    (h_lane : m.lane = true := by assumption) (h_pair : m.pair = true := by assumption) (h_scan : m.scan = true := by assumption)
    (h_net : m.net = true := by assumption) (h_bb : m.bb = true := by assumption) (h_str : m.str = true := by assumption)
    (h_comp : m.comp = true := by assumption) (h_enc : m.enc = true := by assumption) (h_touch : m.touch = true := by assumption)
    : Agree m s₀ (watchdogExpiry env s) := by
  unfold watchdogExpiry
  repeat' first
    | (with_reducible first
        | assumption | apply castOnFrom_frame)
    | split

theorem execBootWatchdogExpiry_frame (env : BootEnv) (s : State) {s₁ : State} (he : execBootWatchdogExpiry env s = .next s₁)
    (hg : Agree m s₀ s) (h_tb : m.tb = true := by assumption) (h_mem : m.mem = true := by assumption)
    (h_pwr : m.pwr = true := by assumption) (h_boot : m.boot = true := by assumption) (h_lane : m.lane = true := by assumption)
    (h_pair : m.pair = true := by assumption) (h_scan : m.scan = true := by assumption) (h_net : m.net = true := by assumption)
    (h_bb : m.bb = true := by assumption) (h_str : m.str = true := by assumption) (h_comp : m.comp = true := by assumption)
    (h_enc : m.enc = true := by assumption) (h_touch : m.touch = true := by assumption) : Agree m s₀ s₁ := by
  injection he with he
  subst he
  repeat' first
    | (with_reducible first
        | assumption | apply watchdogExpiry_frame)
    | split

theorem castOnRestart_frame (env : BootEnv) (s : State) (hg : Agree m s₀ s) (h_tb : m.tb = true := by assumption)
    (h_mem : m.mem = true := by assumption) (h_pwr : m.pwr = true := by assumption) (h_boot : m.boot = true := by assumption)
    (h_lane : m.lane = true := by assumption) (h_pair : m.pair = true := by assumption) (h_scan : m.scan = true := by assumption)
    (h_net : m.net = true := by assumption) (h_bb : m.bb = true := by assumption) (h_str : m.str = true := by assumption)
    (h_comp : m.comp = true := by assumption) (h_enc : m.enc = true := by assumption) (h_touch : m.touch = true := by assumption)
    : Agree m s₀ (castOnRestart env s) := by
  unfold castOnRestart
  repeat' first
    | (with_reducible first
        | assumption | apply castOnFrom_frame)
    | split

theorem execCastOnRestart_frame (env : BootEnv) (s : State) {s₁ : State} (he : execCastOnRestart env s = .next s₁) (hg : Agree m s₀ s)
    (h_tb : m.tb = true := by assumption) (h_mem : m.mem = true := by assumption) (h_pwr : m.pwr = true := by assumption)
    (h_boot : m.boot = true := by assumption) (h_lane : m.lane = true := by assumption) (h_pair : m.pair = true := by assumption)
    (h_scan : m.scan = true := by assumption) (h_net : m.net = true := by assumption) (h_bb : m.bb = true := by assumption)
    (h_str : m.str = true := by assumption) (h_comp : m.comp = true := by assumption) (h_enc : m.enc = true := by assumption)
    (h_touch : m.touch = true := by assumption) : Agree m s₀ s₁ := by
  injection he with he
  subst he
  repeat' first
    | (with_reducible first
        | assumption | apply castOnRestart_frame)
    | split

theorem lanesCalibrated_frame (failed : List Nat) (s : State) (hg : Agree m s₀ s) (h_lane : m.lane = true := by assumption) : Agree m s₀
    (lanesCalibrated failed s) := by
  unfold lanesCalibrated
  try dsimp only
  repeat' first
    | (with_reducible first
        | assumption | apply laneEvent_frame | apply laneUpd_frame | apply agree_foldl | apply agree_foldl_fst)
    | intro _ | dsimp only | split

theorem readyReached_frame (env : ReadyEnv) (s : State) (hg : Agree m s₀ s) (h_mem : m.mem = true := by assumption)
    (h_pwr : m.pwr = true := by assumption) (h_boot : m.boot = true := by assumption) (h_lane : m.lane = true := by assumption)
    (h_pair : m.pair = true := by assumption) (h_touch : m.touch = true := by assumption) : Agree m s₀ (readyReached env s) := by
  unfold readyReached
  try dsimp only
  repeat' first
    | (with_reducible first
        | assumption | apply lanesCalibrated_frame | apply raise_frame | apply withBoot_frame | apply setMode_frame
        | apply withPwr_frame | apply agree_foldl | apply agree_foldl_fst)
    | (simp only [agree_mk]; with_reducible refine agreeAt_mem (by assumption) ?_) | intro _ | dsimp only
    | (refine agree_pair (by with_reducible assumption) ?_)
    | (refine agree_pair2 (by with_reducible assumption) ?_)
    | (refine agree_pair3 (by with_reducible assumption) ?_)
    | (refine agree_pair5 (by with_reducible assumption) ?_) | split

theorem execReadyReached_frame (env : ReadyEnv) (s : State) {s₁ : State} (he : execReadyReached env s = .next s₁) (hg : Agree m s₀ s)
    (h_mem : m.mem = true := by assumption) (h_pwr : m.pwr = true := by assumption) (h_boot : m.boot = true := by assumption)
    (h_lane : m.lane = true := by assumption) (h_pair : m.pair = true := by assumption) (h_touch : m.touch = true := by assumption)
    : Agree m s₀ s₁ := by
  injection he with he
  subst he
  repeat' first
    | (with_reducible first
        | assumption | apply readyReached_frame)
    | split

theorem opCastOn_frame (c : Cmd) (s : State) (hg : Agree m s₀ s) (h_boot : m.boot = true := by assumption) : Agree m s₀
    (opCastOn c s).1 := by
  unfold opCastOn
  try dsimp only
  repeat' first
    | (with_reducible first
        | assumption | apply checked_frame | apply withBoot_frame | apply agree_foldl | apply agree_foldl_fst)
    | intro _ | dsimp only | split

theorem execCastOn_frame (c : Cmd) (s : State) {s₁ : State} (he : execCastOn c s = .next s₁) (hg : Agree m s₀ s)
    (h_boot : m.boot = true := by assumption) : Agree m s₀ s₁ := by
  injection he with he
  subst he
  repeat' first
    | (with_reducible first
        | assumption | apply hostCommand_frame | apply opCastOn_frame | apply agree_foldl | apply agree_foldl_fst)
    | intro _ | dsimp only | split

theorem slotWrite_frame (n : Nat) (x : SlotImage) (s : State) (hg : Agree m s₀ s) (h_boot : m.boot = true := by assumption) : Agree m s₀
    (slotWrite n x s) := by
  unfold slotWrite
  repeat' first
    | (with_reducible first
        | assumption | apply withBoot_frame)
    | split

theorem opFwStage_frame (c : Cmd) (s : State) (hg : Agree m s₀ s) (h_boot : m.boot = true := by assumption) : Agree m s₀
    (opFwStage c s).1 := by
  unfold opFwStage
  try dsimp only
  repeat' first
    | (with_reducible first
        | assumption | apply checked_frame | apply slotWrite_frame | apply agree_foldl | apply agree_foldl_fst)
    | intro _ | dsimp only | split

theorem execFwStage_frame (c : Cmd) (s : State) {s₁ : State} (he : execFwStage c s = .next s₁) (hg : Agree m s₀ s)
    (h_boot : m.boot = true := by assumption) : Agree m s₀ s₁ := by
  injection he with he
  subst he
  repeat' first
    | (with_reducible first
        | assumption | apply hostCommand_frame | apply opFwStage_frame | apply agree_foldl | apply agree_foldl_fst)
    | intro _ | dsimp only | split

theorem stageEnd_frame (flashOk : Bool) (s : State) (hg : Agree m s₀ s) (h_boot : m.boot = true := by assumption) : Agree m s₀
    (stageEnd flashOk s) := by
  unfold stageEnd
  repeat' first
    | (with_reducible first
        | assumption | apply completeOutst_frame | apply slotWrite_frame | apply raise_frame | apply withBoot_frame)
    | split

theorem execFwStageEnd_frame (flashOk : Bool) (s : State) {s₁ : State} (he : execFwStageEnd flashOk s = .next s₁) (hg : Agree m s₀ s)
    (h_boot : m.boot = true := by assumption) : Agree m s₀ s₁ := by
  injection he with he
  subst he
  repeat' first
    | (with_reducible first
        | assumption | apply stageEnd_frame)
    | split

theorem opFwIdent_frame (_c : Cmd) (s : State) (hg : Agree m s₀ s) : Agree m s₀ (opFwIdent _c s).1 := by
  unfold opFwIdent
  repeat' first
    | (with_reducible first
        | assumption)
    | split

theorem execFwIdent_frame (c : Cmd) (s : State) {s₁ : State} (he : execFwIdent c s = .next s₁) (hg : Agree m s₀ s) : Agree m s₀ s₁ := by
  injection he with he
  subst he
  repeat' first
    | (with_reducible first
        | assumption | apply hostCommand_frame | apply opFwIdent_frame)
    | split

theorem opDeviceStatus_frame (_c : Cmd) (s : State) (hg : Agree m s₀ s) : Agree m s₀ (opDeviceStatus _c s).1 := by
  unfold opDeviceStatus
  repeat' first
    | (with_reducible first
        | assumption)
    | split

theorem execDeviceStatus_frame (c : Cmd) (s : State) {s₁ : State} (he : execDeviceStatus c s = .next s₁) (hg : Agree m s₀ s)
    : Agree m s₀ s₁ := by
  injection he with he
  subst he
  repeat' first
    | (with_reducible first
        | assumption | apply hostCommand_frame | apply opDeviceStatus_frame)
    | split

theorem recovSend_frame (q : RecovReq) (status : Nat) (arg : Nat) (len : Nat) (s : State) (hg : Agree m s₀ s) : Agree m s₀
    (recovSend q status arg len s) := by
  unfold recovSend
  repeat' first
    | (with_reducible first
        | assumption | apply send_frame)
    | split

theorem recovReply_frame (q : RecovReq) (status : Nat) (s : State) (hg : Agree m s₀ s) : Agree m s₀ (recovReply q status s) := by
  unfold recovReply
  repeat' first
    | (with_reducible first
        | assumption | apply recovSend_frame)
    | split

theorem withRecov_frame (s : State) (r : Recovery) (hg : Agree m s₀ s) (h_boot : m.boot = true := by assumption) : Agree m s₀
    (withRecov s r) := by
  unfold withRecov
  repeat' first
    | (with_reducible first
        | assumption | apply withBoot_frame)
    | split

theorem inRecovery_frame (q : RecovReq) (work : State → State) (s : State) (hw : ∀ u, Agree m s₀ u → Agree m s₀ (work u))
    (hg : Agree m s₀ s) : Agree m s₀ (inRecovery q work s) := by
  unfold inRecovery
  repeat' first
    | (with_reducible first
        | assumption | apply recovReply_frame | apply hw)
    | split

theorem recovBegin_frame (q : RecovReq) (s : State) (hg : Agree m s₀ s) (h_boot : m.boot = true := by assumption) : Agree m s₀
    (recovBegin q s) := by
  unfold recovBegin
  repeat' first
    | (with_reducible first
        | assumption | apply recovReply_frame | apply withRecov_frame)
    | split

theorem execRecoveryBegin_frame (q : RecovReq) (s : State) {s₁ : State} (he : execRecoveryBegin q s = .next s₁) (hg : Agree m s₀ s)
    (h_boot : m.boot = true := by assumption) : Agree m s₀ s₁ := by
  injection he with he
  subst he
  repeat' first
    | (with_reducible first
        | assumption | apply inRecovery_frame | apply recovBegin_frame | apply agree_foldl | apply agree_foldl_fst)
    | intro _ | dsimp only | split

theorem recovData_frame (q : RecovReq) (s : State) (hg : Agree m s₀ s) (h_boot : m.boot = true := by assumption) : Agree m s₀
    (recovData q s) := by
  unfold recovData
  try dsimp only
  repeat' first
    | (with_reducible first
        | assumption | apply recovReply_frame | apply withRecov_frame | apply agree_foldl | apply agree_foldl_fst)
    | intro _ | dsimp only | split

theorem execRecoveryData_frame (q : RecovReq) (s : State) {s₁ : State} (he : execRecoveryData q s = .next s₁) (hg : Agree m s₀ s)
    (h_boot : m.boot = true := by assumption) : Agree m s₀ s₁ := by
  injection he with he
  subst he
  repeat' first
    | (with_reducible first
        | assumption | apply inRecovery_frame | apply recovData_frame | apply agree_foldl | apply agree_foldl_fst)
    | intro _ | dsimp only | split

theorem recovStatus_frame (q : RecovReq) (s : State) (hg : Agree m s₀ s) : Agree m s₀ (recovStatus q s) := by
  unfold recovStatus
  repeat' first
    | (with_reducible first
        | assumption | apply recovSend_frame)
    | split

theorem execRecoveryStatus_frame (q : RecovReq) (s : State) {s₁ : State} (he : execRecoveryStatus q s = .next s₁) (hg : Agree m s₀ s)
    : Agree m s₀ s₁ := by
  injection he with he
  subst he
  repeat' first
    | (with_reducible first
        | assumption | apply recovStatus_frame)
    | split

theorem recovIdentity_frame (q : RecovReq) (s : State) (hg : Agree m s₀ s) (h_boot : m.boot = true := by assumption) : Agree m s₀
    (recovIdentity q s) := by
  unfold recovIdentity
  repeat' first
    | (with_reducible first
        | assumption | apply recovReply_frame | apply withBoot_frame)
    | split

theorem execRecoveryIdentity_frame (q : RecovReq) (s : State) {s₁ : State} (he : execRecoveryIdentity q s = .next s₁) (hg : Agree m s₀ s)
    (h_boot : m.boot = true := by assumption) : Agree m s₀ s₁ := by
  injection he with he
  subst he
  repeat' first
    | (with_reducible first
        | assumption | apply inRecovery_frame | apply recovIdentity_frame | apply agree_foldl
        | apply agree_foldl_fst)
    | intro _ | dsimp only | split

theorem recovInstall_frame (f : FwFile) (flashOk : Bool) (s : State) (hg : Agree m s₀ s) (h_boot : m.boot = true := by assumption)
    : Agree m s₀ (recovInstall f flashOk s).1 := by
  unfold recovInstall
  repeat' first
    | (with_reducible first
        | assumption | apply withRecov_frame | apply slotWrite_frame | apply withBoot_frame)
    | split

theorem recovEnd_frame (q : RecovReq) (f : FwFile) (flashOk : Bool) (s : State) (hg : Agree m s₀ s)
    (h_boot : m.boot = true := by assumption) : Agree m s₀ (recovEnd q f flashOk s) := by
  unfold recovEnd
  try dsimp only
  repeat' first
    | (with_reducible first
        | assumption | apply recovReply_frame | apply recovInstall_frame | apply agree_foldl
        | apply agree_foldl_fst)
    | intro _ | dsimp only | split

theorem execRecoveryEnd_frame (q : RecovReq) (f : FwFile) (flashOk : Bool) (s : State) {s₁ : State}
    (he : execRecoveryEnd q f flashOk s = .next s₁) (hg : Agree m s₀ s) (h_boot : m.boot = true := by assumption) : Agree m s₀ s₁ := by
  injection he with he
  subst he
  repeat' first
    | (with_reducible first
        | assumption | apply inRecovery_frame | apply recovEnd_frame | apply agree_foldl | apply agree_foldl_fst)
    | intro _ | dsimp only | split

theorem recovFromCard_frame (f : Option FwFile) (flashOk : Bool) (s : State) (hg : Agree m s₀ s)
    (h_boot : m.boot = true := by assumption) : Agree m s₀ (recovFromCard f flashOk s).1 := by
  unfold recovFromCard
  repeat' first
    | (with_reducible first
        | assumption | apply recovInstall_frame)
    | split

theorem recovCard_frame (q : RecovReq) (f : Option FwFile) (flashOk : Bool) (s : State) (hg : Agree m s₀ s)
    (h_boot : m.boot = true := by assumption) : Agree m s₀ (recovCard q f flashOk s) := by
  unfold recovCard
  repeat' first
    | (with_reducible first
        | assumption | apply recovFromCard_frame | apply recovReply_frame)
    | split

theorem execRecoveryCard_frame (q : RecovReq) (f : Option FwFile) (flashOk : Bool) (s : State) {s₁ : State}
    (he : execRecoveryCard q f flashOk s = .next s₁) (hg : Agree m s₀ s) (h_boot : m.boot = true := by assumption) : Agree m s₀ s₁ := by
  injection he with he
  subst he
  repeat' first
    | (with_reducible first
        | assumption | apply inRecovery_frame | apply recovCard_frame | apply agree_foldl | apply agree_foldl_fst)
    | intro _ | dsimp only | split

theorem uartLoad_frame (line : List Byte) (f : Option FwFile) (flashOk : Bool) (s : State) (hg : Agree m s₀ s)
    (h_boot : m.boot = true := by assumption) : Agree m s₀ (uartLoad line f flashOk s) := by
  unfold uartLoad
  repeat' first
    | (with_reducible first
        | assumption | apply recovFromCard_frame)
    | split

theorem execRecoveryUartLoad_frame (line : List Byte) (f : Option FwFile) (flashOk : Bool) (s : State) {s₁ : State}
    (he : execRecoveryUartLoad line f flashOk s = .next s₁) (hg : Agree m s₀ s) (h_boot : m.boot = true := by assumption)
    : Agree m s₀ s₁ := by
  injection he with he
  subst he
  repeat' first
    | (with_reducible first
        | assumption | apply uartLoad_frame)
    | split

theorem statusLine_frame (s : State) (hg : Agree m s₀ s) (h_boot : m.boot = true := by assumption) : Agree m s₀ (statusLine s) := by
  unfold statusLine
  try dsimp only
  repeat' first
    | (with_reducible first
        | assumption | apply send_frame | apply withBoot_frame | apply agree_foldl | apply agree_foldl_fst)
    | intro _ | dsimp only | split

theorem execRecoveryStatusLine_frame (s : State) {s₁ : State} (he : execRecoveryStatusLine s = .next s₁) (hg : Agree m s₀ s)
    (h_boot : m.boot = true := by assumption) : Agree m s₀ s₁ := by
  injection he with he
  subst he
  repeat' first
    | (with_reducible first
        | assumption | apply statusLine_frame)
    | split

theorem maintFrame_frame (f : MaintFrame) (s : State) (hg : Agree m s₀ s) : Agree m s₀ (maintFrame f s) := by
  unfold maintFrame
  repeat' first
    | (with_reducible first
        | assumption | apply send_frame)
    | split

theorem execMaintFrameReceive_frame (f : MaintFrame) (s : State) {s₁ : State} (he : execMaintFrameReceive f s = .next s₁)
    (hg : Agree m s₀ s) : Agree m s₀ s₁ := by
  injection he with he
  subst he
  repeat' first
    | (with_reducible first
        | assumption | apply maintFrame_frame)
    | split

theorem voltReport_frame (s : State) (hg : Agree m s₀ s) (h_pwr : m.pwr = true := by assumption) : Agree m s₀ (voltReport s) := by
  unfold voltReport
  repeat' first
    | (with_reducible first
        | assumption | apply raise_frame | apply withPwr_frame)
    | split

theorem regulator_frame (bad : Bool) (s : State) (hg : Agree m s₀ s) (h_pwr : m.pwr = true := by assumption)
    (h_boot : m.boot = true := by assumption) (h_lane : m.lane = true := by assumption) (h_pair : m.pair = true := by assumption)
    (h_touch : m.touch = true := by assumption) : Agree m s₀ (regulator bad s) := by
  unfold regulator
  try dsimp only
  repeat' first
    | (with_reducible first
        | assumption | apply safeHoldCause_frame | apply raise_frame | apply withPwr_frame | apply agree_foldl
        | apply agree_foldl_fst)
    | intro _ | dsimp only | split

theorem readVcore_frame (readVout : Nat) (ack : Bool) (s : State) (hg : Agree m s₀ s) (h_pwr : m.pwr = true := by assumption)
    (h_boot : m.boot = true := by assumption) (h_lane : m.lane = true := by assumption) (h_pair : m.pair = true := by assumption)
    (h_touch : m.touch = true := by assumption) : Agree m s₀ (readVcore readVout ack s) := by
  unfold readVcore
  dsimp only
  repeat' first
    | (with_reducible first
        | assumption | apply withPwr_frame | apply regulator_frame)
    | split

theorem setVcore_frame (mv : Nat) (readVout : Nat) (ack : Bool) (s : State) (hg : Agree m s₀ s) (h_pwr : m.pwr = true := by assumption)
    (h_boot : m.boot = true := by assumption) (h_lane : m.lane = true := by assumption) (h_pair : m.pair = true := by assumption)
    (h_touch : m.touch = true := by assumption) : Agree m s₀ (setVcore mv readVout ack s) := by
  unfold setVcore
  repeat' first
    | (with_reducible first
        | assumption | apply send_frame | apply withPwr_frame | apply readVcore_frame)
    | split

theorem gaugePeriod_frame (env : GaugeEnv) (s : State) (hg : Agree m s₀ s) (h_pwr : m.pwr = true := by assumption)
    (h_boot : m.boot = true := by assumption) (h_lane : m.lane = true := by assumption) (h_pair : m.pair = true := by assumption)
    (h_touch : m.touch = true := by assumption) : Agree m s₀ (gaugePeriod env s) := by
  unfold gaugePeriod
  try dsimp only
  repeat' first
    | (with_reducible first
        | assumption | apply voltReport_frame | apply withPwr_frame | apply setVcore_frame | apply readVcore_frame | apply agree_foldl
        | apply agree_foldl_fst)
    | intro _ | dsimp only | split

theorem headroomLost_frame (s : State) (hg : Agree m s₀ s) (h_pwr : m.pwr = true := by assumption) : Agree m s₀ (headroomLost s) := by
  unfold headroomLost
  repeat' first
    | (with_reducible first
        | assumption | apply raise_frame | apply withPwr_frame)
    | split

theorem execHeadroomLost_frame (s : State) {s₁ : State} (he : execHeadroomLost s = .next s₁) (hg : Agree m s₀ s)
    (h_pwr : m.pwr = true := by assumption) : Agree m s₀ s₁ := by
  injection he with he
  subst he
  repeat' first
    | (with_reducible first
        | assumption | apply headroomLost_frame)
    | split

theorem execVrAlert_frame (active : Bool) (s : State) {s₁ : State} (he : execVrAlert active s = .next s₁) (hg : Agree m s₀ s)
    (h_pwr : m.pwr = true := by assumption) (h_boot : m.boot = true := by assumption) (h_lane : m.lane = true := by assumption)
    (h_pair : m.pair = true := by assumption) (h_touch : m.touch = true := by assumption) : Agree m s₀ s₁ := by
  injection he with he
  subst he
  repeat' first
    | (with_reducible first
        | assumption | apply regulator_frame)
    | split

theorem manualVcore_frame (s : State) (hg : Agree m s₀ s) (h_pwr : m.pwr = true := by assumption) : Agree m s₀ (manualVcore s) := by
  unfold manualVcore
  repeat' first
    | (with_reducible first
        | assumption | apply send_frame | apply withPwr_frame)
    | split

theorem gaCtlWrite_frame (init : Nat) (v : W32) (s : State) (hg : Agree m s₀ s) (h_pwr : m.pwr = true := by assumption) : Agree m s₀
    (gaCtlWrite init v s) := by
  unfold gaCtlWrite
  repeat' first
    | (with_reducible first
        | assumption | apply withPwr_frame | apply manualVcore_frame | apply paramRefused_frame)
    | split

theorem gaVsetWrite_frame (init : Nat) (v : W32) (s : State) (hg : Agree m s₀ s) (h_pwr : m.pwr = true := by assumption) : Agree m s₀
    (gaVsetWrite init v s) := by
  unfold gaVsetWrite
  try dsimp only
  repeat' first
    | (with_reducible first
        | assumption | apply manualVcore_frame | apply withPwr_frame | apply paramRefused_frame | apply agree_foldl
        | apply agree_foldl_fst)
    | intro _ | dsimp only | split

theorem execGaCtlWrite_frame (a : RegW) (s : State) {s₁ : State} (he : execGaCtlWrite a s = .next s₁) (hg : Agree m s₀ s)
    (h_mem : m.mem = true := by assumption) (h_pwr : m.pwr = true := by assumption) : Agree m s₀ s₁ := by
  injection he with he
  subst he
  repeat' first
    | (with_reducible first
        | assumption | apply regWrite_frame | apply gaCtlWrite_frame | apply agree_foldl | apply agree_foldl_fst)
    | intro _ | dsimp only | split

theorem execGaVsetWrite_frame (a : RegW) (s : State) {s₁ : State} (he : execGaVsetWrite a s = .next s₁) (hg : Agree m s₀ s)
    (h_mem : m.mem = true := by assumption) (h_pwr : m.pwr = true := by assumption) : Agree m s₀ s₁ := by
  injection he with he
  subst he
  repeat' first
    | (with_reducible first
        | assumption | apply regWrite_frame | apply gaVsetWrite_frame | apply agree_foldl | apply agree_foldl_fst)
    | intro _ | dsimp only | split

theorem retrain_frame (low : Bool) (s : State) (hg : Agree m s₀ s) (h_mem : m.mem = true := by assumption)
    (h_pwr : m.pwr = true := by assumption) (h_boot : m.boot = true := by assumption) (h_lane : m.lane = true := by assumption)
    (h_pair : m.pair = true := by assumption) (h_touch : m.touch = true := by assumption) : Agree m s₀ (retrain low s) := by
  unfold retrain
  try dsimp only
  repeat' first
    | (with_reducible first
        | assumption | apply memState_frame | apply safeHoldCause_frame | apply withPwr_frame | apply agree_foldl
        | apply agree_foldl_fst)
    | (simp only [agree_mk]; with_reducible refine agreeAt_mem (by assumption) ?_) | intro _ | dsimp only | split

theorem execRetrainWindow_frame (marginLow : Bool) (s : State) {s₁ : State} (he : execRetrainWindow marginLow s = .next s₁)
    (hg : Agree m s₀ s) (h_mem : m.mem = true := by assumption) (h_pwr : m.pwr = true := by assumption)
    (h_boot : m.boot = true := by assumption) (h_lane : m.lane = true := by assumption) (h_pair : m.pair = true := by assumption)
    (h_touch : m.touch = true := by assumption) : Agree m s₀ s₁ := by
  injection he with he
  subst he
  repeat' first
    | (with_reducible first
        | assumption | apply retrain_frame)
    | split

theorem regClear_frame (off : Nat) (lo : Nat) (s : State) (hg : Agree m s₀ s) (h_tb : m.tb = true := by assumption)
    (h_mem : m.mem = true := by assumption) (h_pwr : m.pwr = true := by assumption) (h_lane : m.lane = true := by assumption)
    (h_pair : m.pair = true := by assumption) (h_scan : m.scan = true := by assumption) (h_net : m.net = true := by assumption)
    (h_comp : m.comp = true := by assumption) (h_touch : m.touch = true := by assumption) : Agree m s₀ (regClear off lo s) := by
  unfold regClear
  try dsimp only
  repeat' first
    | (with_reducible first
        | assumption | apply pwcClear_frame | apply tbClear_frame | apply ringSet_frame | apply gtClear_frame
        | apply mcClear_frame | apply lnClear_frame | apply cvuClear_frame | apply pairClear_frame
        | apply tchClear_frame | apply soClear_frame | apply netUpd_frame | apply evClear_frame | apply agree_foldl
        | apply agree_foldl_fst)
    | (simp only [agree_mk]; with_reducible refine agreeAt_comp (by assumption) ?_) | intro _ | dsimp only | split

theorem latchHigh_frame (off : Nat) (init : Nat) (s : State) (hg : Agree m s₀ s) : Agree m s₀ (latchHigh off init s) := by
  unfold latchHigh
  try dsimp only
  repeat' first
    | (with_reducible first
        | assumption | apply agree_foldl | apply agree_foldl_fst)
    | (simp only [agree_mk]; with_reducible refine agreeAt ?_) | intro _ | dsimp only | split

theorem readBy_frame (off : Nat) (init : Nat) (live : W32) (p : RegPath) (s : State) (hg : Agree m s₀ s)
    (h_tb : m.tb = true := by assumption) (h_mem : m.mem = true := by assumption) (h_pwr : m.pwr = true := by assumption)
    (h_lane : m.lane = true := by assumption) (h_pair : m.pair = true := by assumption) (h_scan : m.scan = true := by assumption)
    (h_net : m.net = true := by assumption) (h_comp : m.comp = true := by assumption) (h_touch : m.touch = true := by assumption)
    : Agree m s₀ (readBy off init live p s).2 := by
  unfold readBy
  try dsimp only
  repeat' first
    | (with_reducible first
        | assumption | apply regClear_frame | apply txqRead_frame | apply latchHigh_frame | apply agree_foldl
        | apply agree_foldl_fst)
    | intro _ | dsimp only | split

theorem readAny_frame (off : Nat) (a : RegR) (s : State) (hg : Agree m s₀ s) (h_tb : m.tb = true := by assumption)
    (h_mem : m.mem = true := by assumption) (h_pwr : m.pwr = true := by assumption) (h_lane : m.lane = true := by assumption)
    (h_pair : m.pair = true := by assumption) (h_scan : m.scan = true := by assumption) (h_net : m.net = true := by assumption)
    (h_comp : m.comp = true := by assumption) (h_touch : m.touch = true := by assumption) : Agree m s₀ (readAny off a s) := by
  unfold readAny
  try dsimp only
  repeat' first
    | (with_reducible first
        | assumption | apply send_frame | apply regRead_frame | apply readBy_frame | apply agree_foldl
        | apply agree_foldl_fst)
    | intro _ | dsimp only | split

theorem execRegisterReadClear_frame (off : Nat) (a : RegR) (s : State) {s₁ : State} (he : execRegisterReadClear off a s = .next s₁)
    (hg : Agree m s₀ s) (h_tb : m.tb = true := by assumption) (h_mem : m.mem = true := by assumption)
    (h_pwr : m.pwr = true := by assumption) (h_lane : m.lane = true := by assumption) (h_pair : m.pair = true := by assumption)
    (h_scan : m.scan = true := by assumption) (h_net : m.net = true := by assumption) (h_comp : m.comp = true := by assumption)
    (h_touch : m.touch = true := by assumption) : Agree m s₀ s₁ := by
  injection he with he
  subst he
  repeat' first
    | (with_reducible first
        | assumption | apply readAny_frame)
    | split

theorem execRegisterReadLoLatch_frame (off : Nat) (a : RegR) (s : State) {s₁ : State} (he : execRegisterReadLoLatch off a s = .next s₁)
    (hg : Agree m s₀ s) (h_tb : m.tb = true := by assumption) (h_mem : m.mem = true := by assumption)
    (h_pwr : m.pwr = true := by assumption) (h_lane : m.lane = true := by assumption) (h_pair : m.pair = true := by assumption)
    (h_scan : m.scan = true := by assumption) (h_net : m.net = true := by assumption) (h_comp : m.comp = true := by assumption)
    (h_touch : m.touch = true := by assumption) : Agree m s₀ s₁ := by
  injection he with he
  subst he
  repeat' first
    | (with_reducible first
        | assumption | apply readAny_frame)
    | split

theorem mcPlainWrite_frame (off : Nat) (init : Nat) (v : W32) (s : State) (hg : Agree m s₀ s) (h_mem : m.mem = true := by assumption)
    : Agree m s₀ (mcPlainWrite off init v s) := by
  unfold mcPlainWrite
  try dsimp only
  repeat' first
    | (with_reducible first
        | assumption | apply withMem_frame | apply paramRefused_frame | apply agree_foldl | apply agree_foldl_fst)
    | intro _ | dsimp only | split

theorem tbApplyWrite_frame (off : Nat) (init : Nat) (v : W32) (s : State) (hg : Agree m s₀ s) (h_tb : m.tb = true := by assumption)
    : Agree m s₀ (tbApplyWrite off init v s) := by
  unfold tbApplyWrite
  try dsimp only
  repeat' first
    | (with_reducible first
        | assumption | apply tbCtlWrite_frame | apply incCommit_frame | apply stepCommit_frame
        | apply t0Declare_frame | apply errEstWrite_frame | apply tbPlainWrite_frame | apply snapAll_frame
        | apply flCtlWrite_frame | apply flParamWrite_frame | apply agree_foldl | apply agree_foldl_fst)
    | intro _ | dsimp only | split

theorem hifApplyWrite_frame (off : Nat) (init : Nat) (v : W32) (s : State) (hg : Agree m s₀ s) : Agree m s₀
    (hifApplyWrite off init v s) := by
  unfold hifApplyWrite
  repeat' first
    | (with_reducible first
        | assumption | apply msixWrite_frame | apply ringCtlWrite_frame | apply ringOtherWrite_frame)
    | split

theorem mcApplyWrite_frame (off : Nat) (init : Nat) (v : W32) (s : State) (hg : Agree m s₀ s) (h_mem : m.mem = true := by assumption)
    : Agree m s₀ (mcApplyWrite off init v s) := by
  unfold mcApplyWrite
  repeat' first
    | (with_reducible first
        | assumption | apply mcPlainWrite_frame | apply winCtlWrite_frame | apply winOtherWrite_frame
        | apply portRateWrite_frame | apply portBurstWrite_frame)
    | split

theorem cvuApplyWrite_frame (off : Nat) (init : Nat) (v : W32) (s : State) (hg : Agree m s₀ s) : Agree m s₀
    (cvuApplyWrite off init v s) := by
  unfold cvuApplyWrite
  repeat' first
    | (with_reducible first
        | assumption | apply cvuCtlWrite_frame | apply cvuFeed_frame | apply cvuAlive_frame | apply cvuSet_frame)
    | split

theorem regApply_frame (off : Nat) (init : Nat) (v : W32) (s : State) (hg : Agree m s₀ s) (h_tb : m.tb = true := by assumption)
    (h_mem : m.mem = true := by assumption) (h_pwr : m.pwr = true := by assumption) (h_lane : m.lane = true := by assumption)
    (h_enc : m.enc = true := by assumption) (h_touch : m.touch = true := by assumption) : Agree m s₀ (regApply off init v s) := by
  unfold regApply
  try dsimp only
  repeat' first
    | (with_reducible first
        | assumption | apply pwcReqWrite_frame | apply pwcCfgWrite_frame | apply tbApplyWrite_frame
        | apply hifApplyWrite_frame | apply rselWrite_frame | apply mcApplyWrite_frame | apply cvuApplyWrite_frame
        | apply encConsWrite_frame | apply gaCtlWrite_frame | apply gaVsetWrite_frame | apply agree_foldl
        | apply agree_foldl_fst)
    | (simp only [agree_mk]; with_reducible refine agreeAt ?_) | intro _ | dsimp only | split

theorem writeAny_frame (off : Nat) (a : RegW) (s : State) (hg : Agree m s₀ s) (h_tb : m.tb = true := by assumption)
    (h_mem : m.mem = true := by assumption) (h_pwr : m.pwr = true := by assumption) (h_lane : m.lane = true := by assumption)
    (h_enc : m.enc = true := by assumption) (h_touch : m.touch = true := by assumption) : Agree m s₀ (writeAny off a s) := by
  unfold writeAny
  try dsimp only
  repeat' first
    | (with_reducible first
        | assumption | apply regWrite_frame | apply regApply_frame | apply agree_foldl | apply agree_foldl_fst)
    | intro _ | dsimp only | split

theorem execRegisterWrite_frame (off : Nat) (a : RegW) (s : State) {s₁ : State} (he : execRegisterWrite off a s = .next s₁)
    (hg : Agree m s₀ s) (h_tb : m.tb = true := by assumption) (h_mem : m.mem = true := by assumption)
    (h_pwr : m.pwr = true := by assumption) (h_lane : m.lane = true := by assumption) (h_enc : m.enc = true := by assumption)
    (h_touch : m.touch = true := by assumption) : Agree m s₀ s₁ := by
  injection he with he
  subst he
  repeat' first
    | (with_reducible first
        | assumption | apply writeAny_frame)
    | split

theorem supplyHold_frame (op : Nat) (c : Cmd) (reqs : List (Nat × Nat)) (s : State) (hg : Agree m s₀ s) :
    Agree m s₀ (supplyHold op c reqs s) := by
  unfold supplyHold
  simp only [agree_mk]
  with_reducible refine agreeAt ?_
  assumption

theorem supplied_frame (op : Nat) (f : Cmd → State → State × Reply) (c : Cmd) (s : State) (hw : ∀ y u, Agree m s₀ u → Agree m s₀
    (f y u).1) (hg : Agree m s₀ s) : Agree m s₀ (supplied op f c s).1 := by
  unfold supplied
  try dsimp only
  repeat' first
    | (with_reducible first
        | assumption | apply hw | apply supplyHold_frame | apply agree_foldl | apply agree_foldl_fst | apply agree_foldl_snd
        | apply agree_foldl_snd2)
    | (simp only [agree_mk]; with_reducible refine agreeAt ?_) | intro _ | dsimp only
    | (refine agree_pair (by with_reducible assumption) ?_)
    | (refine agree_pair2 (by with_reducible assumption) ?_)
    | (refine agree_pair3 (by with_reducible assumption) ?_)
    | (refine agree_pair5 (by with_reducible assumption) ?_) | split

theorem supplyWork_frame (op : Nat) (x1 : Cmd) (x2 : State) (hg : Agree m s₀ x2) (h_pwr : m.pwr = true := by assumption)
    (h_lane : m.lane = true := by assumption) (h_scan : m.scan = true := by assumption) (h_str : m.str = true := by assumption)
    (h_comp : m.comp = true := by assumption) (h_enc : m.enc = true := by assumption) : Agree m s₀ (supplyWork op x1 x2).1 := by
  unfold supplyWork
  try dsimp only
  repeat' first
    | (with_reducible first
        | assumption | apply opStreamOpen_frame | apply opStreamModify_frame | apply opLayoutCommit_frame
        | apply opOutputEnable_frame | apply opEncEnable_frame | apply opDomainSet_frame | apply agree_foldl
        | apply agree_foldl_fst | apply agree_foldl_snd | apply agree_foldl_snd2)
    | intro _ | dsimp only | (refine agree_pair (by with_reducible assumption) ?_)
    | (refine agree_pair2 (by with_reducible assumption) ?_)
    | (refine agree_pair3 (by with_reducible assumption) ?_)
    | (refine agree_pair5 (by with_reducible assumption) ?_) | split

theorem finishOutst_frame (o : Outst) (r : Reply) (s : State) (hg : Agree m s₀ s) : Agree m s₀ (finishOutst o r s) := by
  unfold finishOutst
  try dsimp only
  repeat' first
    | (with_reducible first
        | assumption | apply complete_frame | apply agree_foldl | apply agree_foldl_fst | apply agree_foldl_snd
        | apply agree_foldl_snd2)
    | (simp only [agree_mk]; with_reducible refine agreeAt ?_) | intro _ | dsimp only
    | (refine agree_pair (by with_reducible assumption) ?_)
    | (refine agree_pair2 (by with_reducible assumption) ?_)
    | (refine agree_pair3 (by with_reducible assumption) ?_)
    | (refine agree_pair5 (by with_reducible assumption) ?_) | split

theorem supplyRelease_frame (s : State) (hg : Agree m s₀ s) (h_pwr : m.pwr = true := by assumption)
    (h_lane : m.lane = true := by assumption) (h_scan : m.scan = true := by assumption) (h_str : m.str = true := by assumption)
    (h_comp : m.comp = true := by assumption) (h_enc : m.enc = true := by assumption) : Agree m s₀ (supplyRelease s) := by
  unfold supplyRelease
  try dsimp only
  repeat' first
    | (with_reducible first
        | assumption | apply outstDrop_frame | apply finishOutst_frame | apply supplyWork_frame | apply agree_foldl
        | apply agree_foldl_fst | apply agree_foldl_snd | apply agree_foldl_snd2)
    | (simp only [agree_mk]; with_reducible refine agreeAt ?_) | intro _ | dsimp only
    | (refine agree_pair (by with_reducible assumption) ?_)
    | (refine agree_pair2 (by with_reducible assumption) ?_)
    | (refine agree_pair3 (by with_reducible assumption) ?_)
    | (refine agree_pair5 (by with_reducible assumption) ?_) | split

theorem execGaugeControlPeriod_frame (env : GaugeEnv) (s : State) {s₁ : State} (he : execGaugeControlPeriod env s = .next s₁)
    (hg : Agree m s₀ s) (h_pwr : m.pwr = true := by assumption) (h_boot : m.boot = true := by assumption)
    (h_lane : m.lane = true := by assumption) (h_pair : m.pair = true := by assumption) (h_scan : m.scan = true := by assumption)
    (h_str : m.str = true := by assumption) (h_comp : m.comp = true := by assumption) (h_enc : m.enc = true := by assumption)
    (h_touch : m.touch = true := by assumption) : Agree m s₀ s₁ := by
  injection he with he
  subst he
  repeat' first
    | (with_reducible first
        | assumption | apply supplyRelease_frame | apply gaugePeriod_frame | apply agree_foldl
        | apply agree_foldl_fst | apply agree_foldl_snd | apply agree_foldl_snd2)
    | intro _ | dsimp only | (refine agree_pair (by with_reducible assumption) ?_)
    | (refine agree_pair2 (by with_reducible assumption) ?_)
    | (refine agree_pair3 (by with_reducible assumption) ?_)
    | (refine agree_pair5 (by with_reducible assumption) ?_) | split

theorem execStreamOpen_frame (c : Cmd) (s : State) {s₁ : State} (he : execStreamOpen c s = .next s₁) (hg : Agree m s₀ s)
    (h_str : m.str = true := by assumption) : Agree m s₀ s₁ := by
  injection he with he
  subst he
  repeat' first
    | (with_reducible first
        | assumption | apply hostCommand_frame | apply supplied_frame | apply opStreamOpen_frame
        | apply agree_foldl | apply agree_foldl_fst | apply agree_foldl_snd | apply agree_foldl_snd2)
    | intro _ | dsimp only | (refine agree_pair (by with_reducible assumption) ?_)
    | (refine agree_pair2 (by with_reducible assumption) ?_)
    | (refine agree_pair3 (by with_reducible assumption) ?_)
    | (refine agree_pair5 (by with_reducible assumption) ?_) | split

theorem execStreamModify_frame (c : Cmd) (s : State) {s₁ : State} (he : execStreamModify c s = .next s₁) (hg : Agree m s₀ s)
    (h_str : m.str = true := by assumption) : Agree m s₀ s₁ := by
  injection he with he
  subst he
  repeat' first
    | (with_reducible first
        | assumption | apply hostCommand_frame | apply supplied_frame | apply opStreamModify_frame
        | apply agree_foldl | apply agree_foldl_fst | apply agree_foldl_snd | apply agree_foldl_snd2)
    | intro _ | dsimp only | (refine agree_pair (by with_reducible assumption) ?_)
    | (refine agree_pair2 (by with_reducible assumption) ?_)
    | (refine agree_pair3 (by with_reducible assumption) ?_)
    | (refine agree_pair5 (by with_reducible assumption) ?_) | split

theorem execLayoutCommit_frame (c : Cmd) (s : State) {s₁ : State} (he : execLayoutCommit c s = .next s₁) (hg : Agree m s₀ s)
    (h_comp : m.comp = true := by assumption) (h_enc : m.enc = true := by assumption) : Agree m s₀ s₁ := by
  injection he with he
  subst he
  repeat' first
    | (with_reducible first
        | assumption | apply hostCommand_frame | apply supplied_frame | apply opLayoutCommit_frame
        | apply agree_foldl | apply agree_foldl_fst | apply agree_foldl_snd | apply agree_foldl_snd2)
    | intro _ | dsimp only | (refine agree_pair (by with_reducible assumption) ?_)
    | (refine agree_pair2 (by with_reducible assumption) ?_)
    | (refine agree_pair3 (by with_reducible assumption) ?_)
    | (refine agree_pair5 (by with_reducible assumption) ?_) | split

theorem execOutputEnable_frame (c : Cmd) (s : State) {s₁ : State} (he : execOutputEnable c s = .next s₁) (hg : Agree m s₀ s)
    (h_lane : m.lane = true := by assumption) (h_scan : m.scan = true := by assumption) : Agree m s₀ s₁ := by
  injection he with he
  subst he
  repeat' first
    | (with_reducible first
        | assumption | apply hostCommand_frame | apply supplied_frame | apply opOutputEnable_frame
        | apply agree_foldl | apply agree_foldl_fst | apply agree_foldl_snd | apply agree_foldl_snd2)
    | intro _ | dsimp only | (refine agree_pair (by with_reducible assumption) ?_)
    | (refine agree_pair2 (by with_reducible assumption) ?_)
    | (refine agree_pair3 (by with_reducible assumption) ?_)
    | (refine agree_pair5 (by with_reducible assumption) ?_) | split

theorem execEncEnable_frame (c : Cmd) (s : State) {s₁ : State} (he : execEncEnable c s = .next s₁) (hg : Agree m s₀ s)
    (h_enc : m.enc = true := by assumption) : Agree m s₀ s₁ := by
  injection he with he
  subst he
  repeat' first
    | (with_reducible first
        | assumption | apply hostCommand_frame | apply supplied_frame | apply opEncEnable_frame | apply agree_foldl
        | apply agree_foldl_fst | apply agree_foldl_snd | apply agree_foldl_snd2)
    | intro _ | dsimp only | (refine agree_pair (by with_reducible assumption) ?_)
    | (refine agree_pair2 (by with_reducible assumption) ?_)
    | (refine agree_pair3 (by with_reducible assumption) ?_)
    | (refine agree_pair5 (by with_reducible assumption) ?_) | split

theorem execDomainSet_frame (c : Cmd) (s : State) {s₁ : State} (he : execDomainSet c s = .next s₁) (hg : Agree m s₀ s)
    (h_pwr : m.pwr = true := by assumption) (h_lane : m.lane = true := by assumption) : Agree m s₀ s₁ := by
  injection he with he
  subst he
  repeat' first
    | (with_reducible first
        | assumption | apply hostCommand_frame | apply supplied_frame | apply opDomainSet_frame | apply agree_foldl
        | apply agree_foldl_fst | apply agree_foldl_snd | apply agree_foldl_snd2)
    | intro _ | dsimp only | (refine agree_pair (by with_reducible assumption) ?_)
    | (refine agree_pair2 (by with_reducible assumption) ?_)
    | (refine agree_pair3 (by with_reducible assumption) ?_)
    | (refine agree_pair5 (by with_reducible assumption) ?_) | split

theorem opWork_frame (op : Nat) (x1 : Cmd) (x2 : State) (hg : Agree m s₀ x2) (h_mem : m.mem = true := by assumption)
    (h_pwr : m.pwr = true := by assumption) (h_boot : m.boot = true := by assumption) (h_lane : m.lane = true := by assumption)
    (h_pair : m.pair = true := by assumption) (h_scan : m.scan = true := by assumption) (h_net : m.net = true := by assumption)
    (h_bb : m.bb = true := by assumption) (h_str : m.str = true := by assumption) (h_comp : m.comp = true := by assumption)
    (h_enc : m.enc = true := by assumption) (h_touch : m.touch = true := by assumption) : Agree m s₀ (opWork op x1 x2).1 := by
  unfold opWork
  try dsimp only
  repeat' first
    | (with_reducible first
        | assumption | apply opNop_frame | apply opDeviceStatus_frame | apply opEventMaskSet_frame
        | apply opPf1LimitsSet_frame | apply opModeSet_frame | apply opPowerState_frame | apply supplied_frame
        | apply opDomainSet_frame | apply opSelftest_frame | apply opLaneLoop_frame | apply opLaneRecal_frame
        | apply opAuxioClaim_frame | apply opAuxioRelease_frame | apply opNetPortSet_frame
        | apply opNetFilterSet_frame | apply opFlowSet_frame | apply opFlowClear_frame
        | apply opPktinClassSet_frame | apply opBbQuadSet_frame | apply opBbDpcdLoad_frame | apply opBbEnable_frame
        | apply opBbDisable_frame | apply opStreamOpen_frame | apply opStreamModify_frame
        | apply opStreamClose_frame | apply opStreamAnchor_frame | apply opWatchSet_frame
        | apply opCoreRetire_frame | apply opCoreReturn_frame | apply opStreamStatus_frame
        | apply opLedgerWrite_frame | apply opLedgerCommit_frame | apply opCanvasSet_frame | apply opLayerSet_frame
        | apply opBankParamSet_frame | apply opCoefLoad_frame | apply opXferLoad_frame | apply opStillLoad_frame
        | apply opLayoutCommit_frame | apply opLayoutCancel_frame | apply opOutputSet_frame
        | apply opOutputEnable_frame | apply opOutputDisable_frame | apply opOutputView_frame
        | apply opOutputFaultClear_frame | apply opOutputAux_frame | apply opNightPaceSet_frame
        | apply opSwatchSet_frame | apply opOutputStatus_frame | apply opEncSet_frame | apply opEncEnable_frame
        | apply opEncDisable_frame | apply opEncCoefLoad_frame | apply opEncKeyframe_frame | apply opPairSet_frame
        | apply opPairAccept_frame | apply opPairKnit_frame | apply opPairDrill_frame | apply opPairLeave_frame
        | apply opPairStatus_frame | apply opTouchPanelSet_frame | apply opTouchEnable_frame
        | apply opTouchDisable_frame | apply opTouchRefSave_frame | apply opTouchSelftest_frame
        | apply opTouchStatus_frame | apply opGateStage_frame | apply opGateCommit_frame | apply opFwStage_frame
        | apply opCastOn_frame | apply opFwIdent_frame | apply agree_foldl | apply agree_foldl_fst
        | apply agree_foldl_snd | apply agree_foldl_snd2)
    | intro _ | dsimp only | (refine agree_pair (by with_reducible assumption) ?_)
    | (refine agree_pair2 (by with_reducible assumption) ?_)
    | (refine agree_pair3 (by with_reducible assumption) ?_)
    | (refine agree_pair5 (by with_reducible assumption) ?_) | split

theorem takeWaiting_frame (s : State) (hg : Agree m s₀ s) (h_mem : m.mem = true := by assumption) (h_pwr : m.pwr = true := by assumption)
    (h_boot : m.boot = true := by assumption) (h_lane : m.lane = true := by assumption) (h_pair : m.pair = true := by assumption)
    (h_scan : m.scan = true := by assumption) (h_net : m.net = true := by assumption) (h_bb : m.bb = true := by assumption)
    (h_str : m.str = true := by assumption) (h_comp : m.comp = true := by assumption) (h_enc : m.enc = true := by assumption)
    (h_touch : m.touch = true := by assumption) : Agree m s₀ (takeWaiting s) := by
  unfold takeWaiting
  try dsimp only
  repeat' first
    | (with_reducible first
        | assumption | apply runCommand_frame | apply opWork_frame | apply agree_foldl | apply agree_foldl_fst)
    | (simp only [agree_mk]; with_reducible refine agreeAt ?_) | intro _ | dsimp only | split

theorem commandTake_frame (d : Option Descriptor) (s : State) (hg : Agree m s₀ s) (h_mem : m.mem = true := by assumption)
    (h_pwr : m.pwr = true := by assumption) (h_boot : m.boot = true := by assumption) (h_lane : m.lane = true := by assumption)
    (h_pair : m.pair = true := by assumption) (h_scan : m.scan = true := by assumption) (h_net : m.net = true := by assumption)
    (h_bb : m.bb = true := by assumption) (h_str : m.str = true := by assumption) (h_comp : m.comp = true := by assumption)
    (h_enc : m.enc = true := by assumption) (h_touch : m.touch = true := by assumption) : Agree m s₀ (commandTake d s) := by
  unfold commandTake
  try dsimp only
  repeat' first
    | (with_reducible first
        | assumption | apply takeWaiting_frame | apply ringStop_frame | apply runCommand_frame | apply opWork_frame
        | apply agree_foldl | apply agree_foldl_fst)
    | intro _ | dsimp only | split

theorem execCommandTake_frame (d : Option Descriptor) (s : State) {s₁ : State} (he : execCommandTake d s = .next s₁) (hg : Agree m s₀ s)
    (h_mem : m.mem = true := by assumption) (h_pwr : m.pwr = true := by assumption) (h_boot : m.boot = true := by assumption)
    (h_lane : m.lane = true := by assumption) (h_pair : m.pair = true := by assumption) (h_scan : m.scan = true := by assumption)
    (h_net : m.net = true := by assumption) (h_bb : m.bb = true := by assumption) (h_str : m.str = true := by assumption)
    (h_comp : m.comp = true := by assumption) (h_enc : m.enc = true := by assumption) (h_touch : m.touch = true := by assumption)
    : Agree m s₀ s₁ := by
  injection he with he
  subst he
  repeat' first
    | (with_reducible first
        | assumption | apply commandTake_frame)
    | split

theorem maintArrive_frame (op : Nat) (c : Cmd) (s : State) (hg : Agree m s₀ s) (h_mem : m.mem = true := by assumption)
    (h_pwr : m.pwr = true := by assumption) (h_boot : m.boot = true := by assumption) (h_lane : m.lane = true := by assumption)
    (h_pair : m.pair = true := by assumption) (h_scan : m.scan = true := by assumption) (h_net : m.net = true := by assumption)
    (h_bb : m.bb = true := by assumption) (h_str : m.str = true := by assumption) (h_comp : m.comp = true := by assumption)
    (h_enc : m.enc = true := by assumption) (h_touch : m.touch = true := by assumption) : Agree m s₀ (maintArrive op c s) := by
  unfold maintArrive
  try dsimp only
  repeat' first
    | (with_reducible first
        | assumption | apply maintBusyReply_frame | apply takeWaiting_frame | apply agree_foldl
        | apply agree_foldl_fst)
    | (simp only [agree_mk]; with_reducible refine agreeAt ?_) | intro _ | dsimp only | split

theorem maintUdp_frame (addr : W32) (port : W16) (payload : List Byte) (io : CmdIn) (s : State) (hg : Agree m s₀ s)
    (h_mem : m.mem = true := by assumption) (h_pwr : m.pwr = true := by assumption) (h_boot : m.boot = true := by assumption)
    (h_lane : m.lane = true := by assumption) (h_pair : m.pair = true := by assumption) (h_scan : m.scan = true := by assumption)
    (h_net : m.net = true := by assumption) (h_bb : m.bb = true := by assumption) (h_str : m.str = true := by assumption)
    (h_comp : m.comp = true := by assumption) (h_enc : m.enc = true := by assumption) (h_touch : m.touch = true := by assumption)
    : Agree m s₀ (maintUdp addr port payload io s) := by
  unfold maintUdp
  repeat' first
    | (with_reducible first
        | assumption | apply maintArrive_frame)
    | split

theorem execMaintUdpCommand_frame (addr : W32) (port : W16) (payload : List Byte) (c : CmdIn) (s : State) {s₁ : State}
    (he : execMaintUdpCommand addr port payload c s = .next s₁) (hg : Agree m s₀ s) (h_mem : m.mem = true := by assumption)
    (h_pwr : m.pwr = true := by assumption) (h_boot : m.boot = true := by assumption) (h_lane : m.lane = true := by assumption)
    (h_pair : m.pair = true := by assumption) (h_scan : m.scan = true := by assumption) (h_net : m.net = true := by assumption)
    (h_bb : m.bb = true := by assumption) (h_str : m.str = true := by assumption) (h_comp : m.comp = true := by assumption)
    (h_enc : m.enc = true := by assumption) (h_touch : m.touch = true := by assumption) : Agree m s₀ s₁ := by
  injection he with he
  subst he
  repeat' first
    | (with_reducible first
        | assumption | apply maintUdp_frame)
    | split

theorem maintUart_frame (line : List Byte) (io : CmdIn) (s : State) (hg : Agree m s₀ s) (h_mem : m.mem = true := by assumption)
    (h_pwr : m.pwr = true := by assumption) (h_boot : m.boot = true := by assumption) (h_lane : m.lane = true := by assumption)
    (h_pair : m.pair = true := by assumption) (h_scan : m.scan = true := by assumption) (h_net : m.net = true := by assumption)
    (h_bb : m.bb = true := by assumption) (h_str : m.str = true := by assumption) (h_comp : m.comp = true := by assumption)
    (h_enc : m.enc = true := by assumption) (h_touch : m.touch = true := by assumption) : Agree m s₀ (maintUart line io s) := by
  unfold maintUart
  repeat' first
    | (with_reducible first
        | assumption | apply maintArrive_frame | apply sendMaint_frame)
    | split

theorem execMaintUartLine_frame (line : List Byte) (c : CmdIn) (s : State) {s₁ : State} (he : execMaintUartLine line c s = .next s₁)
    (hg : Agree m s₀ s) (h_mem : m.mem = true := by assumption) (h_pwr : m.pwr = true := by assumption)
    (h_boot : m.boot = true := by assumption) (h_lane : m.lane = true := by assumption) (h_pair : m.pair = true := by assumption)
    (h_scan : m.scan = true := by assumption) (h_net : m.net = true := by assumption) (h_bb : m.bb = true := by assumption)
    (h_str : m.str = true := by assumption) (h_comp : m.comp = true := by assumption) (h_enc : m.enc = true := by assumption)
    (h_touch : m.touch = true := by assumption) : Agree m s₀ s₁ := by
  injection he with he
  subst he
  repeat' first
    | (with_reducible first
        | assumption | apply maintUart_frame)
    | split

theorem absorbOne_frame (d : Int) (s : State) (o : Nat) (hg : Agree m s₀ s) (h_scan : m.scan = true := by assumption) : Agree m s₀
    (absorbOne d s o) := by
  unfold absorbOne
  try dsimp only
  repeat' first
    | (with_reducible first
        | assumption | apply flSlip_frame | apply outSet_frame | apply agree_foldl | apply agree_foldl_fst
        | apply agree_foldl_snd | apply agree_foldl_snd2)
    | intro _ | dsimp only | (refine agree_pair (by with_reducible assumption) ?_)
    | (refine agree_pair2 (by with_reducible assumption) ?_)
    | (refine agree_pair3 (by with_reducible assumption) ?_)
    | (refine agree_pair5 (by with_reducible assumption) ?_) | split

theorem absorbStep_frame (d : Int) (s : State) (hg : Agree m s₀ s) (h_scan : m.scan = true := by assumption) : Agree m s₀
    (absorbStep d s) := by
  unfold absorbStep
  try dsimp only
  repeat' first
    | (with_reducible first
        | assumption | apply absorbOne_frame | apply agree_foldl | apply agree_foldl_fst | apply agree_foldl_snd
        | apply agree_foldl_snd2)
    | intro _ | dsimp only | (refine agree_pair (by with_reducible assumption) ?_)
    | (refine agree_pair2 (by with_reducible assumption) ?_)
    | (refine agree_pair3 (by with_reducible assumption) ?_)
    | (refine agree_pair5 (by with_reducible assumption) ?_) | split

theorem timeTick_frame (s : State) (hg : Agree m s₀ s) (h_tb : m.tb = true := by assumption) (h_scan : m.scan = true := by assumption)
    (h_comp : m.comp = true := by assumption) : Agree m s₀ (timeTick s) := by
  unfold timeTick
  repeat' first
    | (with_reducible first
        | assumption | apply absorbStep_frame | apply tbTickAll_frame)
    | split

theorem execTimeBaseTick_frame (s : State) {s₁ : State} (he : execTimeBaseTick s = .next s₁) (hg : Agree m s₀ s)
    (h_tb : m.tb = true := by assumption) (h_scan : m.scan = true := by assumption) (h_comp : m.comp = true := by assumption)
    : Agree m s₀ s₁ := by
  injection he with he
  subst he
  repeat' first
    | (with_reducible first
        | assumption | apply timeTick_frame)
    | split

end Sys2Proof.Machine
end

