-- ==== Sys2Proof/Laws/State.lean ====
section
/-! SUPPORT. What a record update leaves: one lemma for each unit of `State` and each update of one, and, for each table of a unit, what a
lookup finds after a replacement. -/

namespace Sys2Proof.Machine

/-! ### Tables -/

theorem tfind_tset {α : Type} (k k' : Nat) (v : α) (t : Tab α) : tfind k' (tset k v t) = if k' = k then some v else tfind k' t := by
  induction t with
  | nil => simp [tset, tfind]
  | cons e t ih =>
    obtain ⟨a, b⟩ := e
    unfold tset
    by_cases h1 : k = a
    · subst h1
      simp only [if_true, tfind]
      split <;> rfl
    · rw [if_neg h1]
      by_cases h2 : k < a
      · rw [if_pos h2]
        simp only [tfind]
      · rw [if_neg h2]
        simp only [tfind, ih]
        by_cases h3 : k' = a
        · have : k' ≠ k := fun e => h1 (e.symm.trans h3)
          simp only [if_pos h3, if_neg this]
        · simp only [if_neg h3]

theorem tget_tset {α : Type} (d : α) (k k' : Nat) (v : α) (t : Tab α) : tget d (tset k v t) k' = if k' = k then v else tget d t k' := by
  unfold tget
  rw [tfind_tset]
  split <;> rfl

theorem tfind_tset_same {α : Type} (k : Nat) (v : α) (t : Tab α) : tfind k (tset k v t) = some v := by
  rw [tfind_tset, if_pos rfl]

theorem tget_tset_other {α : Type} (d : α) {k k' : Nat} (h : k' ≠ k) (v : α) (t : Tab α) : tget d (tset k v t) k' = tget d t k' := by
  rw [tget_tset, if_neg h]

theorem tfind_tdel {α : Type} (k k' : Nat) (t : Tab α) : tfind k' (tdel k t) = if k' = k then none else tfind k' t := by
  induction t with
  | nil => simp [tdel, tfind]
  | cons e t ih =>
    obtain ⟨a, b⟩ := e
    unfold tdel
    by_cases h1 : k = a
    · subst h1
      rw [if_pos rfl, ih]
      by_cases h2 : k' = k
      · simp only [if_pos h2]
      · simp only [if_neg h2, tfind]
    · simp only [if_neg h1, tfind, ih]
      by_cases h3 : k' = a
      · have : k' ≠ k := fun e => h1 (e.symm.trans h3)
        simp only [if_pos h3, if_neg this]
      · simp only [if_neg h3]

theorem tget_tupd {α : Type} (d : α) (k k' : Nat) (f : α → α) (t : Tab α) :
    tget d (tupd d k f t) k' = if k' = k then f (tget d t k) else tget d t k' := by
  unfold tupd
  rw [tget_tset]

/-! ### Units of the state -/

@[simp] theorem withPair_pending (s : State) (u : PairUnit) : (withPair s u).pending = s.pending := rfl
@[simp] theorem withPair_outbox (s : State) (u : PairUnit) : (withPair s u).outbox = s.outbox := rfl
@[simp] theorem withPair_free (s : State) (u : PairUnit) : (withPair s u).free = s.free := rfl
@[simp] theorem withPair_hif (s : State) (u : PairUnit) : (withPair s u).hif = s.hif := rfl
@[simp] theorem withPair_tb (s : State) (u : PairUnit) : (withPair s u).tb = s.tb := rfl
@[simp] theorem withPair_mem (s : State) (u : PairUnit) : (withPair s u).mem = s.mem := rfl
@[simp] theorem withPair_pwr (s : State) (u : PairUnit) : (withPair s u).pwr = s.pwr := rfl
@[simp] theorem withPair_boot (s : State) (u : PairUnit) : (withPair s u).boot = s.boot := rfl
@[simp] theorem withPair_lane (s : State) (u : PairUnit) : (withPair s u).lane = s.lane := rfl
@[simp] theorem withPair_pair (s : State) (u : PairUnit) : (withPair s u).pair = u := rfl
@[simp] theorem withPair_scan (s : State) (u : PairUnit) : (withPair s u).scan = s.scan := rfl
@[simp] theorem withPair_net (s : State) (u : PairUnit) : (withPair s u).net = s.net := rfl
@[simp] theorem withPair_bb (s : State) (u : PairUnit) : (withPair s u).bb = s.bb := rfl
@[simp] theorem withPair_str (s : State) (u : PairUnit) : (withPair s u).str = s.str := rfl
@[simp] theorem withPair_comp (s : State) (u : PairUnit) : (withPair s u).comp = s.comp := rfl
@[simp] theorem withPair_enc (s : State) (u : PairUnit) : (withPair s u).enc = s.enc := rfl
@[simp] theorem withPair_touch (s : State) (u : PairUnit) : (withPair s u).touch = s.touch := rfl

@[simp] theorem withEnc_pending (s : State) (u : EncUnit) : (withEnc s u).pending = s.pending := rfl
@[simp] theorem withEnc_outbox (s : State) (u : EncUnit) : (withEnc s u).outbox = s.outbox := rfl
@[simp] theorem withEnc_free (s : State) (u : EncUnit) : (withEnc s u).free = s.free := rfl
@[simp] theorem withEnc_hif (s : State) (u : EncUnit) : (withEnc s u).hif = s.hif := rfl
@[simp] theorem withEnc_tb (s : State) (u : EncUnit) : (withEnc s u).tb = s.tb := rfl
@[simp] theorem withEnc_mem (s : State) (u : EncUnit) : (withEnc s u).mem = s.mem := rfl
@[simp] theorem withEnc_pwr (s : State) (u : EncUnit) : (withEnc s u).pwr = s.pwr := rfl
@[simp] theorem withEnc_boot (s : State) (u : EncUnit) : (withEnc s u).boot = s.boot := rfl
@[simp] theorem withEnc_lane (s : State) (u : EncUnit) : (withEnc s u).lane = s.lane := rfl
@[simp] theorem withEnc_pair (s : State) (u : EncUnit) : (withEnc s u).pair = s.pair := rfl
@[simp] theorem withEnc_scan (s : State) (u : EncUnit) : (withEnc s u).scan = s.scan := rfl
@[simp] theorem withEnc_net (s : State) (u : EncUnit) : (withEnc s u).net = s.net := rfl
@[simp] theorem withEnc_bb (s : State) (u : EncUnit) : (withEnc s u).bb = s.bb := rfl
@[simp] theorem withEnc_str (s : State) (u : EncUnit) : (withEnc s u).str = s.str := rfl
@[simp] theorem withEnc_comp (s : State) (u : EncUnit) : (withEnc s u).comp = s.comp := rfl
@[simp] theorem withEnc_enc (s : State) (u : EncUnit) : (withEnc s u).enc = u := rfl
@[simp] theorem withEnc_touch (s : State) (u : EncUnit) : (withEnc s u).touch = s.touch := rfl

@[simp] theorem withComp_pending (s : State) (u : CompUnit) : (withComp s u).pending = s.pending := rfl
@[simp] theorem withComp_outbox (s : State) (u : CompUnit) : (withComp s u).outbox = s.outbox := rfl
@[simp] theorem withComp_free (s : State) (u : CompUnit) : (withComp s u).free = s.free := rfl
@[simp] theorem withComp_hif (s : State) (u : CompUnit) : (withComp s u).hif = s.hif := rfl
@[simp] theorem withComp_tb (s : State) (u : CompUnit) : (withComp s u).tb = s.tb := rfl
@[simp] theorem withComp_mem (s : State) (u : CompUnit) : (withComp s u).mem = s.mem := rfl
@[simp] theorem withComp_pwr (s : State) (u : CompUnit) : (withComp s u).pwr = s.pwr := rfl
@[simp] theorem withComp_boot (s : State) (u : CompUnit) : (withComp s u).boot = s.boot := rfl
@[simp] theorem withComp_lane (s : State) (u : CompUnit) : (withComp s u).lane = s.lane := rfl
@[simp] theorem withComp_pair (s : State) (u : CompUnit) : (withComp s u).pair = s.pair := rfl
@[simp] theorem withComp_scan (s : State) (u : CompUnit) : (withComp s u).scan = s.scan := rfl
@[simp] theorem withComp_net (s : State) (u : CompUnit) : (withComp s u).net = s.net := rfl
@[simp] theorem withComp_bb (s : State) (u : CompUnit) : (withComp s u).bb = s.bb := rfl
@[simp] theorem withComp_str (s : State) (u : CompUnit) : (withComp s u).str = s.str := rfl
@[simp] theorem withComp_comp (s : State) (u : CompUnit) : (withComp s u).comp = u := rfl
@[simp] theorem withComp_enc (s : State) (u : CompUnit) : (withComp s u).enc = s.enc := rfl
@[simp] theorem withComp_touch (s : State) (u : CompUnit) : (withComp s u).touch = s.touch := rfl

@[simp] theorem withMem_pending (s : State) (u : MemState) : (withMem s u).pending = s.pending := rfl
@[simp] theorem withMem_outbox (s : State) (u : MemState) : (withMem s u).outbox = s.outbox := rfl
@[simp] theorem withMem_free (s : State) (u : MemState) : (withMem s u).free = s.free := rfl
@[simp] theorem withMem_hif (s : State) (u : MemState) : (withMem s u).hif = s.hif := rfl
@[simp] theorem withMem_tb (s : State) (u : MemState) : (withMem s u).tb = s.tb := rfl
@[simp] theorem withMem_mem (s : State) (u : MemState) : (withMem s u).mem = u := rfl
@[simp] theorem withMem_pwr (s : State) (u : MemState) : (withMem s u).pwr = s.pwr := rfl
@[simp] theorem withMem_boot (s : State) (u : MemState) : (withMem s u).boot = s.boot := rfl
@[simp] theorem withMem_lane (s : State) (u : MemState) : (withMem s u).lane = s.lane := rfl
@[simp] theorem withMem_pair (s : State) (u : MemState) : (withMem s u).pair = s.pair := rfl
@[simp] theorem withMem_scan (s : State) (u : MemState) : (withMem s u).scan = s.scan := rfl
@[simp] theorem withMem_net (s : State) (u : MemState) : (withMem s u).net = s.net := rfl
@[simp] theorem withMem_bb (s : State) (u : MemState) : (withMem s u).bb = s.bb := rfl
@[simp] theorem withMem_str (s : State) (u : MemState) : (withMem s u).str = s.str := rfl
@[simp] theorem withMem_comp (s : State) (u : MemState) : (withMem s u).comp = s.comp := rfl
@[simp] theorem withMem_enc (s : State) (u : MemState) : (withMem s u).enc = s.enc := rfl
@[simp] theorem withMem_touch (s : State) (u : MemState) : (withMem s u).touch = s.touch := rfl

@[simp] theorem withPwr_pending (s : State) (u : PowerUnit) : (withPwr s u).pending = s.pending := rfl
@[simp] theorem withPwr_outbox (s : State) (u : PowerUnit) : (withPwr s u).outbox = s.outbox := rfl
@[simp] theorem withPwr_free (s : State) (u : PowerUnit) : (withPwr s u).free = s.free := rfl
@[simp] theorem withPwr_hif (s : State) (u : PowerUnit) : (withPwr s u).hif = s.hif := rfl
@[simp] theorem withPwr_tb (s : State) (u : PowerUnit) : (withPwr s u).tb = s.tb := rfl
@[simp] theorem withPwr_mem (s : State) (u : PowerUnit) : (withPwr s u).mem = s.mem := rfl
@[simp] theorem withPwr_pwr (s : State) (u : PowerUnit) : (withPwr s u).pwr = u := rfl
@[simp] theorem withPwr_boot (s : State) (u : PowerUnit) : (withPwr s u).boot = s.boot := rfl
@[simp] theorem withPwr_lane (s : State) (u : PowerUnit) : (withPwr s u).lane = s.lane := rfl
@[simp] theorem withPwr_pair (s : State) (u : PowerUnit) : (withPwr s u).pair = s.pair := rfl
@[simp] theorem withPwr_scan (s : State) (u : PowerUnit) : (withPwr s u).scan = s.scan := rfl
@[simp] theorem withPwr_net (s : State) (u : PowerUnit) : (withPwr s u).net = s.net := rfl
@[simp] theorem withPwr_bb (s : State) (u : PowerUnit) : (withPwr s u).bb = s.bb := rfl
@[simp] theorem withPwr_str (s : State) (u : PowerUnit) : (withPwr s u).str = s.str := rfl
@[simp] theorem withPwr_comp (s : State) (u : PowerUnit) : (withPwr s u).comp = s.comp := rfl
@[simp] theorem withPwr_enc (s : State) (u : PowerUnit) : (withPwr s u).enc = s.enc := rfl
@[simp] theorem withPwr_touch (s : State) (u : PowerUnit) : (withPwr s u).touch = s.touch := rfl

@[simp] theorem withBoot_pending (s : State) (u : Boot) : (withBoot s u).pending = s.pending := rfl
@[simp] theorem withBoot_outbox (s : State) (u : Boot) : (withBoot s u).outbox = s.outbox := rfl
@[simp] theorem withBoot_free (s : State) (u : Boot) : (withBoot s u).free = s.free := rfl
@[simp] theorem withBoot_hif (s : State) (u : Boot) : (withBoot s u).hif = s.hif := rfl
@[simp] theorem withBoot_tb (s : State) (u : Boot) : (withBoot s u).tb = s.tb := rfl
@[simp] theorem withBoot_mem (s : State) (u : Boot) : (withBoot s u).mem = s.mem := rfl
@[simp] theorem withBoot_pwr (s : State) (u : Boot) : (withBoot s u).pwr = s.pwr := rfl
@[simp] theorem withBoot_boot (s : State) (u : Boot) : (withBoot s u).boot = u := rfl
@[simp] theorem withBoot_lane (s : State) (u : Boot) : (withBoot s u).lane = s.lane := rfl
@[simp] theorem withBoot_pair (s : State) (u : Boot) : (withBoot s u).pair = s.pair := rfl
@[simp] theorem withBoot_scan (s : State) (u : Boot) : (withBoot s u).scan = s.scan := rfl
@[simp] theorem withBoot_net (s : State) (u : Boot) : (withBoot s u).net = s.net := rfl
@[simp] theorem withBoot_bb (s : State) (u : Boot) : (withBoot s u).bb = s.bb := rfl
@[simp] theorem withBoot_str (s : State) (u : Boot) : (withBoot s u).str = s.str := rfl
@[simp] theorem withBoot_comp (s : State) (u : Boot) : (withBoot s u).comp = s.comp := rfl
@[simp] theorem withBoot_enc (s : State) (u : Boot) : (withBoot s u).enc = s.enc := rfl
@[simp] theorem withBoot_touch (s : State) (u : Boot) : (withBoot s u).touch = s.touch := rfl

@[simp] theorem withNet_pending (s : State) (u : NetUnit) : (withNet s u).pending = s.pending := rfl
@[simp] theorem withNet_outbox (s : State) (u : NetUnit) : (withNet s u).outbox = s.outbox := rfl
@[simp] theorem withNet_free (s : State) (u : NetUnit) : (withNet s u).free = s.free := rfl
@[simp] theorem withNet_hif (s : State) (u : NetUnit) : (withNet s u).hif = s.hif := rfl
@[simp] theorem withNet_tb (s : State) (u : NetUnit) : (withNet s u).tb = s.tb := rfl
@[simp] theorem withNet_mem (s : State) (u : NetUnit) : (withNet s u).mem = s.mem := rfl
@[simp] theorem withNet_pwr (s : State) (u : NetUnit) : (withNet s u).pwr = s.pwr := rfl
@[simp] theorem withNet_boot (s : State) (u : NetUnit) : (withNet s u).boot = s.boot := rfl
@[simp] theorem withNet_lane (s : State) (u : NetUnit) : (withNet s u).lane = s.lane := rfl
@[simp] theorem withNet_pair (s : State) (u : NetUnit) : (withNet s u).pair = s.pair := rfl
@[simp] theorem withNet_scan (s : State) (u : NetUnit) : (withNet s u).scan = s.scan := rfl
@[simp] theorem withNet_net (s : State) (u : NetUnit) : (withNet s u).net = u := rfl
@[simp] theorem withNet_bb (s : State) (u : NetUnit) : (withNet s u).bb = s.bb := rfl
@[simp] theorem withNet_str (s : State) (u : NetUnit) : (withNet s u).str = s.str := rfl
@[simp] theorem withNet_comp (s : State) (u : NetUnit) : (withNet s u).comp = s.comp := rfl
@[simp] theorem withNet_enc (s : State) (u : NetUnit) : (withNet s u).enc = s.enc := rfl
@[simp] theorem withNet_touch (s : State) (u : NetUnit) : (withNet s u).touch = s.touch := rfl

@[simp] theorem withScan_pending (s : State) (u : ScanUnit) : (withScan s u).pending = s.pending := rfl
@[simp] theorem withScan_outbox (s : State) (u : ScanUnit) : (withScan s u).outbox = s.outbox := rfl
@[simp] theorem withScan_free (s : State) (u : ScanUnit) : (withScan s u).free = s.free := rfl
@[simp] theorem withScan_hif (s : State) (u : ScanUnit) : (withScan s u).hif = s.hif := rfl
@[simp] theorem withScan_tb (s : State) (u : ScanUnit) : (withScan s u).tb = s.tb := rfl
@[simp] theorem withScan_mem (s : State) (u : ScanUnit) : (withScan s u).mem = s.mem := rfl
@[simp] theorem withScan_pwr (s : State) (u : ScanUnit) : (withScan s u).pwr = s.pwr := rfl
@[simp] theorem withScan_boot (s : State) (u : ScanUnit) : (withScan s u).boot = s.boot := rfl
@[simp] theorem withScan_lane (s : State) (u : ScanUnit) : (withScan s u).lane = s.lane := rfl
@[simp] theorem withScan_pair (s : State) (u : ScanUnit) : (withScan s u).pair = s.pair := rfl
@[simp] theorem withScan_scan (s : State) (u : ScanUnit) : (withScan s u).scan = u := rfl
@[simp] theorem withScan_net (s : State) (u : ScanUnit) : (withScan s u).net = s.net := rfl
@[simp] theorem withScan_bb (s : State) (u : ScanUnit) : (withScan s u).bb = s.bb := rfl
@[simp] theorem withScan_str (s : State) (u : ScanUnit) : (withScan s u).str = s.str := rfl
@[simp] theorem withScan_comp (s : State) (u : ScanUnit) : (withScan s u).comp = s.comp := rfl
@[simp] theorem withScan_enc (s : State) (u : ScanUnit) : (withScan s u).enc = s.enc := rfl
@[simp] theorem withScan_touch (s : State) (u : ScanUnit) : (withScan s u).touch = s.touch := rfl

@[simp] theorem withStr_pending (s : State) (u : StreamUnit) : (withStr s u).pending = s.pending := rfl
@[simp] theorem withStr_outbox (s : State) (u : StreamUnit) : (withStr s u).outbox = s.outbox := rfl
@[simp] theorem withStr_free (s : State) (u : StreamUnit) : (withStr s u).free = s.free := rfl
@[simp] theorem withStr_hif (s : State) (u : StreamUnit) : (withStr s u).hif = s.hif := rfl
@[simp] theorem withStr_tb (s : State) (u : StreamUnit) : (withStr s u).tb = s.tb := rfl
@[simp] theorem withStr_mem (s : State) (u : StreamUnit) : (withStr s u).mem = s.mem := rfl
@[simp] theorem withStr_pwr (s : State) (u : StreamUnit) : (withStr s u).pwr = s.pwr := rfl
@[simp] theorem withStr_boot (s : State) (u : StreamUnit) : (withStr s u).boot = s.boot := rfl
@[simp] theorem withStr_lane (s : State) (u : StreamUnit) : (withStr s u).lane = s.lane := rfl
@[simp] theorem withStr_pair (s : State) (u : StreamUnit) : (withStr s u).pair = s.pair := rfl
@[simp] theorem withStr_scan (s : State) (u : StreamUnit) : (withStr s u).scan = s.scan := rfl
@[simp] theorem withStr_net (s : State) (u : StreamUnit) : (withStr s u).net = s.net := rfl
@[simp] theorem withStr_bb (s : State) (u : StreamUnit) : (withStr s u).bb = s.bb := rfl
@[simp] theorem withStr_str (s : State) (u : StreamUnit) : (withStr s u).str = u := rfl
@[simp] theorem withStr_comp (s : State) (u : StreamUnit) : (withStr s u).comp = s.comp := rfl
@[simp] theorem withStr_enc (s : State) (u : StreamUnit) : (withStr s u).enc = s.enc := rfl
@[simp] theorem withStr_touch (s : State) (u : StreamUnit) : (withStr s u).touch = s.touch := rfl

@[simp] theorem withTb_pending (s : State) (u : TimeUnit) : (withTb s u).pending = s.pending := rfl
@[simp] theorem withTb_outbox (s : State) (u : TimeUnit) : (withTb s u).outbox = s.outbox := rfl
@[simp] theorem withTb_free (s : State) (u : TimeUnit) : (withTb s u).free = s.free := rfl
@[simp] theorem withTb_hif (s : State) (u : TimeUnit) : (withTb s u).hif = s.hif := rfl
@[simp] theorem withTb_tb (s : State) (u : TimeUnit) : (withTb s u).tb = u := rfl
@[simp] theorem withTb_mem (s : State) (u : TimeUnit) : (withTb s u).mem = s.mem := rfl
@[simp] theorem withTb_pwr (s : State) (u : TimeUnit) : (withTb s u).pwr = s.pwr := rfl
@[simp] theorem withTb_boot (s : State) (u : TimeUnit) : (withTb s u).boot = s.boot := rfl
@[simp] theorem withTb_lane (s : State) (u : TimeUnit) : (withTb s u).lane = s.lane := rfl
@[simp] theorem withTb_pair (s : State) (u : TimeUnit) : (withTb s u).pair = s.pair := rfl
@[simp] theorem withTb_scan (s : State) (u : TimeUnit) : (withTb s u).scan = s.scan := rfl
@[simp] theorem withTb_net (s : State) (u : TimeUnit) : (withTb s u).net = s.net := rfl
@[simp] theorem withTb_bb (s : State) (u : TimeUnit) : (withTb s u).bb = s.bb := rfl
@[simp] theorem withTb_str (s : State) (u : TimeUnit) : (withTb s u).str = s.str := rfl
@[simp] theorem withTb_comp (s : State) (u : TimeUnit) : (withTb s u).comp = s.comp := rfl
@[simp] theorem withTb_enc (s : State) (u : TimeUnit) : (withTb s u).enc = s.enc := rfl
@[simp] theorem withTb_touch (s : State) (u : TimeUnit) : (withTb s u).touch = s.touch := rfl

@[simp] theorem withTouch_pending (s : State) (u : TouchUnit) : (withTouch s u).pending = s.pending := rfl
@[simp] theorem withTouch_outbox (s : State) (u : TouchUnit) : (withTouch s u).outbox = s.outbox := rfl
@[simp] theorem withTouch_free (s : State) (u : TouchUnit) : (withTouch s u).free = s.free := rfl
@[simp] theorem withTouch_hif (s : State) (u : TouchUnit) : (withTouch s u).hif = s.hif := rfl
@[simp] theorem withTouch_tb (s : State) (u : TouchUnit) : (withTouch s u).tb = s.tb := rfl
@[simp] theorem withTouch_mem (s : State) (u : TouchUnit) : (withTouch s u).mem = s.mem := rfl
@[simp] theorem withTouch_pwr (s : State) (u : TouchUnit) : (withTouch s u).pwr = s.pwr := rfl
@[simp] theorem withTouch_boot (s : State) (u : TouchUnit) : (withTouch s u).boot = s.boot := rfl
@[simp] theorem withTouch_lane (s : State) (u : TouchUnit) : (withTouch s u).lane = s.lane := rfl
@[simp] theorem withTouch_pair (s : State) (u : TouchUnit) : (withTouch s u).pair = s.pair := rfl
@[simp] theorem withTouch_scan (s : State) (u : TouchUnit) : (withTouch s u).scan = s.scan := rfl
@[simp] theorem withTouch_net (s : State) (u : TouchUnit) : (withTouch s u).net = s.net := rfl
@[simp] theorem withTouch_bb (s : State) (u : TouchUnit) : (withTouch s u).bb = s.bb := rfl
@[simp] theorem withTouch_str (s : State) (u : TouchUnit) : (withTouch s u).str = s.str := rfl
@[simp] theorem withTouch_comp (s : State) (u : TouchUnit) : (withTouch s u).comp = s.comp := rfl
@[simp] theorem withTouch_enc (s : State) (u : TouchUnit) : (withTouch s u).enc = s.enc := rfl
@[simp] theorem withTouch_touch (s : State) (u : TouchUnit) : (withTouch s u).touch = u := rfl

@[simp] theorem send_pending (e : Outgoing) (s : State) : (send e s).pending = s.pending := rfl
@[simp] theorem send_outbox (e : Outgoing) (s : State) : (send e s).outbox = s.outbox ++ [e] := rfl
@[simp] theorem send_free (e : Outgoing) (s : State) : (send e s).free = s.free := rfl
@[simp] theorem send_hif (e : Outgoing) (s : State) : (send e s).hif = s.hif := rfl
@[simp] theorem send_tb (e : Outgoing) (s : State) : (send e s).tb = s.tb := rfl
@[simp] theorem send_mem (e : Outgoing) (s : State) : (send e s).mem = s.mem := rfl
@[simp] theorem send_pwr (e : Outgoing) (s : State) : (send e s).pwr = s.pwr := rfl
@[simp] theorem send_boot (e : Outgoing) (s : State) : (send e s).boot = s.boot := rfl
@[simp] theorem send_lane (e : Outgoing) (s : State) : (send e s).lane = s.lane := rfl
@[simp] theorem send_pair (e : Outgoing) (s : State) : (send e s).pair = s.pair := rfl
@[simp] theorem send_scan (e : Outgoing) (s : State) : (send e s).scan = s.scan := rfl
@[simp] theorem send_net (e : Outgoing) (s : State) : (send e s).net = s.net := rfl
@[simp] theorem send_bb (e : Outgoing) (s : State) : (send e s).bb = s.bb := rfl
@[simp] theorem send_str (e : Outgoing) (s : State) : (send e s).str = s.str := rfl
@[simp] theorem send_comp (e : Outgoing) (s : State) : (send e s).comp = s.comp := rfl
@[simp] theorem send_enc (e : Outgoing) (s : State) : (send e s).enc = s.enc := rfl
@[simp] theorem send_touch (e : Outgoing) (s : State) : (send e s).touch = s.touch := rfl

/-! ### Tables of the units -/

@[simp] theorem ecGet_ecSet (k k' : Nat) (x : EncChan) (s : State) : ecGet (ecSet k x s) k' = if k' = k then x else ecGet s k' := by
  simp only [ecGet, ecSet, withEnc, tget_tset]
@[simp] theorem ecSet_pending (k : Nat) (x : EncChan) (s : State) : (ecSet k x s).pending = s.pending := rfl
@[simp] theorem ecSet_outbox (k : Nat) (x : EncChan) (s : State) : (ecSet k x s).outbox = s.outbox := rfl
@[simp] theorem ecSet_free (k : Nat) (x : EncChan) (s : State) : (ecSet k x s).free = s.free := rfl
@[simp] theorem ecSet_hif (k : Nat) (x : EncChan) (s : State) : (ecSet k x s).hif = s.hif := rfl
@[simp] theorem ecSet_tb (k : Nat) (x : EncChan) (s : State) : (ecSet k x s).tb = s.tb := rfl
@[simp] theorem ecSet_mem (k : Nat) (x : EncChan) (s : State) : (ecSet k x s).mem = s.mem := rfl
@[simp] theorem ecSet_pwr (k : Nat) (x : EncChan) (s : State) : (ecSet k x s).pwr = s.pwr := rfl
@[simp] theorem ecSet_boot (k : Nat) (x : EncChan) (s : State) : (ecSet k x s).boot = s.boot := rfl
@[simp] theorem ecSet_lane (k : Nat) (x : EncChan) (s : State) : (ecSet k x s).lane = s.lane := rfl
@[simp] theorem ecSet_pair (k : Nat) (x : EncChan) (s : State) : (ecSet k x s).pair = s.pair := rfl
@[simp] theorem ecSet_scan (k : Nat) (x : EncChan) (s : State) : (ecSet k x s).scan = s.scan := rfl
@[simp] theorem ecSet_net (k : Nat) (x : EncChan) (s : State) : (ecSet k x s).net = s.net := rfl
@[simp] theorem ecSet_bb (k : Nat) (x : EncChan) (s : State) : (ecSet k x s).bb = s.bb := rfl
@[simp] theorem ecSet_str (k : Nat) (x : EncChan) (s : State) : (ecSet k x s).str = s.str := rfl
@[simp] theorem ecSet_comp (k : Nat) (x : EncChan) (s : State) : (ecSet k x s).comp = s.comp := rfl
@[simp] theorem ecSet_touch (k : Nat) (x : EncChan) (s : State) : (ecSet k x s).touch = s.touch := rfl

@[simp] theorem canGet_canSet (k k' : Nat) (x : Canvas) (s : State) : canGet (canSet k x s) k' = if k' = k then x else canGet s k' := by
  simp only [canGet, canSet, withComp, tget_tset]
@[simp] theorem canSet_pending (k : Nat) (x : Canvas) (s : State) : (canSet k x s).pending = s.pending := rfl
@[simp] theorem canSet_outbox (k : Nat) (x : Canvas) (s : State) : (canSet k x s).outbox = s.outbox := rfl
@[simp] theorem canSet_free (k : Nat) (x : Canvas) (s : State) : (canSet k x s).free = s.free := rfl
@[simp] theorem canSet_hif (k : Nat) (x : Canvas) (s : State) : (canSet k x s).hif = s.hif := rfl
@[simp] theorem canSet_tb (k : Nat) (x : Canvas) (s : State) : (canSet k x s).tb = s.tb := rfl
@[simp] theorem canSet_mem (k : Nat) (x : Canvas) (s : State) : (canSet k x s).mem = s.mem := rfl
@[simp] theorem canSet_pwr (k : Nat) (x : Canvas) (s : State) : (canSet k x s).pwr = s.pwr := rfl
@[simp] theorem canSet_boot (k : Nat) (x : Canvas) (s : State) : (canSet k x s).boot = s.boot := rfl
@[simp] theorem canSet_lane (k : Nat) (x : Canvas) (s : State) : (canSet k x s).lane = s.lane := rfl
@[simp] theorem canSet_pair (k : Nat) (x : Canvas) (s : State) : (canSet k x s).pair = s.pair := rfl
@[simp] theorem canSet_scan (k : Nat) (x : Canvas) (s : State) : (canSet k x s).scan = s.scan := rfl
@[simp] theorem canSet_net (k : Nat) (x : Canvas) (s : State) : (canSet k x s).net = s.net := rfl
@[simp] theorem canSet_bb (k : Nat) (x : Canvas) (s : State) : (canSet k x s).bb = s.bb := rfl
@[simp] theorem canSet_str (k : Nat) (x : Canvas) (s : State) : (canSet k x s).str = s.str := rfl
@[simp] theorem canSet_enc (k : Nat) (x : Canvas) (s : State) : (canSet k x s).enc = s.enc := rfl
@[simp] theorem canSet_touch (k : Nat) (x : Canvas) (s : State) : (canSet k x s).touch = s.touch := rfl

@[simp] theorem strGet_strSet (k k' : Nat) (x : StreamE) (s : State) : strGet (strSet k x s) k' = if k' = k then x else strGet s k' := by
  simp only [strGet, strSet, withStr, tget_tset]
@[simp] theorem strSet_pending (k : Nat) (x : StreamE) (s : State) : (strSet k x s).pending = s.pending := rfl
@[simp] theorem strSet_outbox (k : Nat) (x : StreamE) (s : State) : (strSet k x s).outbox = s.outbox := rfl
@[simp] theorem strSet_free (k : Nat) (x : StreamE) (s : State) : (strSet k x s).free = s.free := rfl
@[simp] theorem strSet_hif (k : Nat) (x : StreamE) (s : State) : (strSet k x s).hif = s.hif := rfl
@[simp] theorem strSet_tb (k : Nat) (x : StreamE) (s : State) : (strSet k x s).tb = s.tb := rfl
@[simp] theorem strSet_mem (k : Nat) (x : StreamE) (s : State) : (strSet k x s).mem = s.mem := rfl
@[simp] theorem strSet_pwr (k : Nat) (x : StreamE) (s : State) : (strSet k x s).pwr = s.pwr := rfl
@[simp] theorem strSet_boot (k : Nat) (x : StreamE) (s : State) : (strSet k x s).boot = s.boot := rfl
@[simp] theorem strSet_lane (k : Nat) (x : StreamE) (s : State) : (strSet k x s).lane = s.lane := rfl
@[simp] theorem strSet_pair (k : Nat) (x : StreamE) (s : State) : (strSet k x s).pair = s.pair := rfl
@[simp] theorem strSet_scan (k : Nat) (x : StreamE) (s : State) : (strSet k x s).scan = s.scan := rfl
@[simp] theorem strSet_net (k : Nat) (x : StreamE) (s : State) : (strSet k x s).net = s.net := rfl
@[simp] theorem strSet_bb (k : Nat) (x : StreamE) (s : State) : (strSet k x s).bb = s.bb := rfl
@[simp] theorem strSet_comp (k : Nat) (x : StreamE) (s : State) : (strSet k x s).comp = s.comp := rfl
@[simp] theorem strSet_enc (k : Nat) (x : StreamE) (s : State) : (strSet k x s).enc = s.enc := rfl
@[simp] theorem strSet_touch (k : Nat) (x : StreamE) (s : State) : (strSet k x s).touch = s.touch := rfl

@[simp] theorem engGet_engSet (k k' : Nat) (x : Engine) (s : State) : engGet (engSet k x s) k' = if k' = k then x else engGet s k' := by
  simp only [engGet, engSet, withStr, tget_tset]
@[simp] theorem engSet_pending (k : Nat) (x : Engine) (s : State) : (engSet k x s).pending = s.pending := rfl
@[simp] theorem engSet_outbox (k : Nat) (x : Engine) (s : State) : (engSet k x s).outbox = s.outbox := rfl
@[simp] theorem engSet_free (k : Nat) (x : Engine) (s : State) : (engSet k x s).free = s.free := rfl
@[simp] theorem engSet_hif (k : Nat) (x : Engine) (s : State) : (engSet k x s).hif = s.hif := rfl
@[simp] theorem engSet_tb (k : Nat) (x : Engine) (s : State) : (engSet k x s).tb = s.tb := rfl
@[simp] theorem engSet_mem (k : Nat) (x : Engine) (s : State) : (engSet k x s).mem = s.mem := rfl
@[simp] theorem engSet_pwr (k : Nat) (x : Engine) (s : State) : (engSet k x s).pwr = s.pwr := rfl
@[simp] theorem engSet_boot (k : Nat) (x : Engine) (s : State) : (engSet k x s).boot = s.boot := rfl
@[simp] theorem engSet_lane (k : Nat) (x : Engine) (s : State) : (engSet k x s).lane = s.lane := rfl
@[simp] theorem engSet_pair (k : Nat) (x : Engine) (s : State) : (engSet k x s).pair = s.pair := rfl
@[simp] theorem engSet_scan (k : Nat) (x : Engine) (s : State) : (engSet k x s).scan = s.scan := rfl
@[simp] theorem engSet_net (k : Nat) (x : Engine) (s : State) : (engSet k x s).net = s.net := rfl
@[simp] theorem engSet_bb (k : Nat) (x : Engine) (s : State) : (engSet k x s).bb = s.bb := rfl
@[simp] theorem engSet_comp (k : Nat) (x : Engine) (s : State) : (engSet k x s).comp = s.comp := rfl
@[simp] theorem engSet_enc (k : Nat) (x : Engine) (s : State) : (engSet k x s).enc = s.enc := rfl
@[simp] theorem engSet_touch (k : Nat) (x : Engine) (s : State) : (engSet k x s).touch = s.touch := rfl

@[simp] theorem outGet_outSet (k k' : Nat) (x : Output) (s : State) : outGet (outSet k x s) k' = if k' = k then x else outGet s k' := by
  simp only [outGet, outSet, withScan, tget_tset]
@[simp] theorem outSet_pending (k : Nat) (x : Output) (s : State) : (outSet k x s).pending = s.pending := rfl
@[simp] theorem outSet_outbox (k : Nat) (x : Output) (s : State) : (outSet k x s).outbox = s.outbox := rfl
@[simp] theorem outSet_free (k : Nat) (x : Output) (s : State) : (outSet k x s).free = s.free := rfl
@[simp] theorem outSet_hif (k : Nat) (x : Output) (s : State) : (outSet k x s).hif = s.hif := rfl
@[simp] theorem outSet_tb (k : Nat) (x : Output) (s : State) : (outSet k x s).tb = s.tb := rfl
@[simp] theorem outSet_mem (k : Nat) (x : Output) (s : State) : (outSet k x s).mem = s.mem := rfl
@[simp] theorem outSet_pwr (k : Nat) (x : Output) (s : State) : (outSet k x s).pwr = s.pwr := rfl
@[simp] theorem outSet_boot (k : Nat) (x : Output) (s : State) : (outSet k x s).boot = s.boot := rfl
@[simp] theorem outSet_lane (k : Nat) (x : Output) (s : State) : (outSet k x s).lane = s.lane := rfl
@[simp] theorem outSet_pair (k : Nat) (x : Output) (s : State) : (outSet k x s).pair = s.pair := rfl
@[simp] theorem outSet_net (k : Nat) (x : Output) (s : State) : (outSet k x s).net = s.net := rfl
@[simp] theorem outSet_bb (k : Nat) (x : Output) (s : State) : (outSet k x s).bb = s.bb := rfl
@[simp] theorem outSet_str (k : Nat) (x : Output) (s : State) : (outSet k x s).str = s.str := rfl
@[simp] theorem outSet_comp (k : Nat) (x : Output) (s : State) : (outSet k x s).comp = s.comp := rfl
@[simp] theorem outSet_enc (k : Nat) (x : Output) (s : State) : (outSet k x s).enc = s.enc := rfl
@[simp] theorem outSet_touch (k : Nat) (x : Output) (s : State) : (outSet k x s).touch = s.touch := rfl

@[simp] theorem flGet_flSet (k k' : Nat) (x : FrameLock) (s : State) : flGet (flSet k x s) k' = if k' = k then x else flGet s k' := by
  simp only [flGet, flSet, withTb, tget_tset]
@[simp] theorem flSet_pending (k : Nat) (x : FrameLock) (s : State) : (flSet k x s).pending = s.pending := rfl
@[simp] theorem flSet_outbox (k : Nat) (x : FrameLock) (s : State) : (flSet k x s).outbox = s.outbox := rfl
@[simp] theorem flSet_free (k : Nat) (x : FrameLock) (s : State) : (flSet k x s).free = s.free := rfl
@[simp] theorem flSet_hif (k : Nat) (x : FrameLock) (s : State) : (flSet k x s).hif = s.hif := rfl
@[simp] theorem flSet_mem (k : Nat) (x : FrameLock) (s : State) : (flSet k x s).mem = s.mem := rfl
@[simp] theorem flSet_pwr (k : Nat) (x : FrameLock) (s : State) : (flSet k x s).pwr = s.pwr := rfl
@[simp] theorem flSet_boot (k : Nat) (x : FrameLock) (s : State) : (flSet k x s).boot = s.boot := rfl
@[simp] theorem flSet_lane (k : Nat) (x : FrameLock) (s : State) : (flSet k x s).lane = s.lane := rfl
@[simp] theorem flSet_pair (k : Nat) (x : FrameLock) (s : State) : (flSet k x s).pair = s.pair := rfl
@[simp] theorem flSet_scan (k : Nat) (x : FrameLock) (s : State) : (flSet k x s).scan = s.scan := rfl
@[simp] theorem flSet_net (k : Nat) (x : FrameLock) (s : State) : (flSet k x s).net = s.net := rfl
@[simp] theorem flSet_bb (k : Nat) (x : FrameLock) (s : State) : (flSet k x s).bb = s.bb := rfl
@[simp] theorem flSet_str (k : Nat) (x : FrameLock) (s : State) : (flSet k x s).str = s.str := rfl
@[simp] theorem flSet_comp (k : Nat) (x : FrameLock) (s : State) : (flSet k x s).comp = s.comp := rfl
@[simp] theorem flSet_enc (k : Nat) (x : FrameLock) (s : State) : (flSet k x s).enc = s.enc := rfl
@[simp] theorem flSet_touch (k : Nat) (x : FrameLock) (s : State) : (flSet k x s).touch = s.touch := rfl

@[simp] theorem txqGet_txqSet (k k' : Nat) (x : TxQueue) (s : State) : txqGet (txqSet k x s) k' = if k' = k then x else txqGet s k' := by
  simp only [txqGet, txqSet, withTb, tget_tset]
@[simp] theorem txqSet_pending (k : Nat) (x : TxQueue) (s : State) : (txqSet k x s).pending = s.pending := rfl
@[simp] theorem txqSet_outbox (k : Nat) (x : TxQueue) (s : State) : (txqSet k x s).outbox = s.outbox := rfl
@[simp] theorem txqSet_free (k : Nat) (x : TxQueue) (s : State) : (txqSet k x s).free = s.free := rfl
@[simp] theorem txqSet_hif (k : Nat) (x : TxQueue) (s : State) : (txqSet k x s).hif = s.hif := rfl
@[simp] theorem txqSet_mem (k : Nat) (x : TxQueue) (s : State) : (txqSet k x s).mem = s.mem := rfl
@[simp] theorem txqSet_pwr (k : Nat) (x : TxQueue) (s : State) : (txqSet k x s).pwr = s.pwr := rfl
@[simp] theorem txqSet_boot (k : Nat) (x : TxQueue) (s : State) : (txqSet k x s).boot = s.boot := rfl
@[simp] theorem txqSet_lane (k : Nat) (x : TxQueue) (s : State) : (txqSet k x s).lane = s.lane := rfl
@[simp] theorem txqSet_pair (k : Nat) (x : TxQueue) (s : State) : (txqSet k x s).pair = s.pair := rfl
@[simp] theorem txqSet_scan (k : Nat) (x : TxQueue) (s : State) : (txqSet k x s).scan = s.scan := rfl
@[simp] theorem txqSet_net (k : Nat) (x : TxQueue) (s : State) : (txqSet k x s).net = s.net := rfl
@[simp] theorem txqSet_bb (k : Nat) (x : TxQueue) (s : State) : (txqSet k x s).bb = s.bb := rfl
@[simp] theorem txqSet_str (k : Nat) (x : TxQueue) (s : State) : (txqSet k x s).str = s.str := rfl
@[simp] theorem txqSet_comp (k : Nat) (x : TxQueue) (s : State) : (txqSet k x s).comp = s.comp := rfl
@[simp] theorem txqSet_enc (k : Nat) (x : TxQueue) (s : State) : (txqSet k x s).enc = s.enc := rfl
@[simp] theorem txqSet_touch (k : Nat) (x : TxQueue) (s : State) : (txqSet k x s).touch = s.touch := rfl

@[simp] theorem tpGet_tpSet (k k' : Nat) (x : TouchPanel) (s : State) : tpGet (tpSet k x s) k' = if k' = k then x else tpGet s k' := by
  simp only [tpGet, tpSet, withTouch, tget_tset]
@[simp] theorem tpSet_pending (k : Nat) (x : TouchPanel) (s : State) : (tpSet k x s).pending = s.pending := rfl
@[simp] theorem tpSet_outbox (k : Nat) (x : TouchPanel) (s : State) : (tpSet k x s).outbox = s.outbox := rfl
@[simp] theorem tpSet_free (k : Nat) (x : TouchPanel) (s : State) : (tpSet k x s).free = s.free := rfl
@[simp] theorem tpSet_hif (k : Nat) (x : TouchPanel) (s : State) : (tpSet k x s).hif = s.hif := rfl
@[simp] theorem tpSet_tb (k : Nat) (x : TouchPanel) (s : State) : (tpSet k x s).tb = s.tb := rfl
@[simp] theorem tpSet_mem (k : Nat) (x : TouchPanel) (s : State) : (tpSet k x s).mem = s.mem := rfl
@[simp] theorem tpSet_pwr (k : Nat) (x : TouchPanel) (s : State) : (tpSet k x s).pwr = s.pwr := rfl
@[simp] theorem tpSet_boot (k : Nat) (x : TouchPanel) (s : State) : (tpSet k x s).boot = s.boot := rfl
@[simp] theorem tpSet_lane (k : Nat) (x : TouchPanel) (s : State) : (tpSet k x s).lane = s.lane := rfl
@[simp] theorem tpSet_pair (k : Nat) (x : TouchPanel) (s : State) : (tpSet k x s).pair = s.pair := rfl
@[simp] theorem tpSet_scan (k : Nat) (x : TouchPanel) (s : State) : (tpSet k x s).scan = s.scan := rfl
@[simp] theorem tpSet_net (k : Nat) (x : TouchPanel) (s : State) : (tpSet k x s).net = s.net := rfl
@[simp] theorem tpSet_bb (k : Nat) (x : TouchPanel) (s : State) : (tpSet k x s).bb = s.bb := rfl
@[simp] theorem tpSet_str (k : Nat) (x : TouchPanel) (s : State) : (tpSet k x s).str = s.str := rfl
@[simp] theorem tpSet_comp (k : Nat) (x : TouchPanel) (s : State) : (tpSet k x s).comp = s.comp := rfl
@[simp] theorem tpSet_enc (k : Nat) (x : TouchPanel) (s : State) : (tpSet k x s).enc = s.enc := rfl

@[simp] theorem teGet_teSet (k k' : Nat) (x : TouchEngine) (s : State) : teGet (teSet k x s) k' = if k' = k then x else teGet s k' := by
  simp only [teGet, teSet, withTouch, tget_tset]
@[simp] theorem teSet_pending (k : Nat) (x : TouchEngine) (s : State) : (teSet k x s).pending = s.pending := rfl
@[simp] theorem teSet_outbox (k : Nat) (x : TouchEngine) (s : State) : (teSet k x s).outbox = s.outbox := rfl
@[simp] theorem teSet_free (k : Nat) (x : TouchEngine) (s : State) : (teSet k x s).free = s.free := rfl
@[simp] theorem teSet_hif (k : Nat) (x : TouchEngine) (s : State) : (teSet k x s).hif = s.hif := rfl
@[simp] theorem teSet_tb (k : Nat) (x : TouchEngine) (s : State) : (teSet k x s).tb = s.tb := rfl
@[simp] theorem teSet_mem (k : Nat) (x : TouchEngine) (s : State) : (teSet k x s).mem = s.mem := rfl
@[simp] theorem teSet_pwr (k : Nat) (x : TouchEngine) (s : State) : (teSet k x s).pwr = s.pwr := rfl
@[simp] theorem teSet_boot (k : Nat) (x : TouchEngine) (s : State) : (teSet k x s).boot = s.boot := rfl
@[simp] theorem teSet_lane (k : Nat) (x : TouchEngine) (s : State) : (teSet k x s).lane = s.lane := rfl
@[simp] theorem teSet_pair (k : Nat) (x : TouchEngine) (s : State) : (teSet k x s).pair = s.pair := rfl
@[simp] theorem teSet_scan (k : Nat) (x : TouchEngine) (s : State) : (teSet k x s).scan = s.scan := rfl
@[simp] theorem teSet_net (k : Nat) (x : TouchEngine) (s : State) : (teSet k x s).net = s.net := rfl
@[simp] theorem teSet_bb (k : Nat) (x : TouchEngine) (s : State) : (teSet k x s).bb = s.bb := rfl
@[simp] theorem teSet_str (k : Nat) (x : TouchEngine) (s : State) : (teSet k x s).str = s.str := rfl
@[simp] theorem teSet_comp (k : Nat) (x : TouchEngine) (s : State) : (teSet k x s).comp = s.comp := rfl
@[simp] theorem teSet_enc (k : Nat) (x : TouchEngine) (s : State) : (teSet k x s).enc = s.enc := rfl

@[simp] theorem bbGet_bbSet (k k' : Nat) (x : BbIn) (s : State) : bbGet (bbSet k x s) k' = if k' = k then x else bbGet s k' := by
  simp only [bbGet, bbSet, tget_tset]
@[simp] theorem bbSet_pending (k : Nat) (x : BbIn) (s : State) : (bbSet k x s).pending = s.pending := rfl
@[simp] theorem bbSet_outbox (k : Nat) (x : BbIn) (s : State) : (bbSet k x s).outbox = s.outbox := rfl
@[simp] theorem bbSet_free (k : Nat) (x : BbIn) (s : State) : (bbSet k x s).free = s.free := rfl
@[simp] theorem bbSet_hif (k : Nat) (x : BbIn) (s : State) : (bbSet k x s).hif = s.hif := rfl
@[simp] theorem bbSet_tb (k : Nat) (x : BbIn) (s : State) : (bbSet k x s).tb = s.tb := rfl
@[simp] theorem bbSet_mem (k : Nat) (x : BbIn) (s : State) : (bbSet k x s).mem = s.mem := rfl
@[simp] theorem bbSet_pwr (k : Nat) (x : BbIn) (s : State) : (bbSet k x s).pwr = s.pwr := rfl
@[simp] theorem bbSet_boot (k : Nat) (x : BbIn) (s : State) : (bbSet k x s).boot = s.boot := rfl
@[simp] theorem bbSet_lane (k : Nat) (x : BbIn) (s : State) : (bbSet k x s).lane = s.lane := rfl
@[simp] theorem bbSet_pair (k : Nat) (x : BbIn) (s : State) : (bbSet k x s).pair = s.pair := rfl
@[simp] theorem bbSet_scan (k : Nat) (x : BbIn) (s : State) : (bbSet k x s).scan = s.scan := rfl
@[simp] theorem bbSet_net (k : Nat) (x : BbIn) (s : State) : (bbSet k x s).net = s.net := rfl
@[simp] theorem bbSet_str (k : Nat) (x : BbIn) (s : State) : (bbSet k x s).str = s.str := rfl
@[simp] theorem bbSet_comp (k : Nat) (x : BbIn) (s : State) : (bbSet k x s).comp = s.comp := rfl
@[simp] theorem bbSet_enc (k : Nat) (x : BbIn) (s : State) : (bbSet k x s).enc = s.enc := rfl
@[simp] theorem bbSet_touch (k : Nat) (x : BbIn) (s : State) : (bbSet k x s).touch = s.touch := rfl

@[simp] theorem cvuGet_cvuSet (k k' : Nat) (x : Cvu) (s : State) : cvuGet (cvuSet k x s) k' = if k' = k then x else cvuGet s k' := by
  simp only [cvuGet, cvuSet, tget_tset]
@[simp] theorem cvuSet_pending (k : Nat) (x : Cvu) (s : State) : (cvuSet k x s).pending = s.pending := rfl
@[simp] theorem cvuSet_outbox (k : Nat) (x : Cvu) (s : State) : (cvuSet k x s).outbox = s.outbox := rfl
@[simp] theorem cvuSet_free (k : Nat) (x : Cvu) (s : State) : (cvuSet k x s).free = s.free := rfl
@[simp] theorem cvuSet_tb (k : Nat) (x : Cvu) (s : State) : (cvuSet k x s).tb = s.tb := rfl
@[simp] theorem cvuSet_mem (k : Nat) (x : Cvu) (s : State) : (cvuSet k x s).mem = s.mem := rfl
@[simp] theorem cvuSet_pwr (k : Nat) (x : Cvu) (s : State) : (cvuSet k x s).pwr = s.pwr := rfl
@[simp] theorem cvuSet_boot (k : Nat) (x : Cvu) (s : State) : (cvuSet k x s).boot = s.boot := rfl
@[simp] theorem cvuSet_lane (k : Nat) (x : Cvu) (s : State) : (cvuSet k x s).lane = s.lane := rfl
@[simp] theorem cvuSet_pair (k : Nat) (x : Cvu) (s : State) : (cvuSet k x s).pair = s.pair := rfl
@[simp] theorem cvuSet_scan (k : Nat) (x : Cvu) (s : State) : (cvuSet k x s).scan = s.scan := rfl
@[simp] theorem cvuSet_net (k : Nat) (x : Cvu) (s : State) : (cvuSet k x s).net = s.net := rfl
@[simp] theorem cvuSet_bb (k : Nat) (x : Cvu) (s : State) : (cvuSet k x s).bb = s.bb := rfl
@[simp] theorem cvuSet_str (k : Nat) (x : Cvu) (s : State) : (cvuSet k x s).str = s.str := rfl
@[simp] theorem cvuSet_comp (k : Nat) (x : Cvu) (s : State) : (cvuSet k x s).comp = s.comp := rfl
@[simp] theorem cvuSet_enc (k : Nat) (x : Cvu) (s : State) : (cvuSet k x s).enc = s.enc := rfl
@[simp] theorem cvuSet_touch (k : Nat) (x : Cvu) (s : State) : (cvuSet k x s).touch = s.touch := rfl

@[simp] theorem laneGet_laneUpd (i j : Nat) (f : Lane → Lane) (s : State) : laneGet (laneUpd i f s) j = if j = i then f
    (laneGet s i) else laneGet s j := by
  simp only [laneGet, laneUpd, tget_tupd]
@[simp] theorem laneUpd_pending (i : Nat) (f : Lane → Lane) (s : State) : (laneUpd i f s).pending = s.pending := rfl
@[simp] theorem laneUpd_outbox (i : Nat) (f : Lane → Lane) (s : State) : (laneUpd i f s).outbox = s.outbox := rfl
@[simp] theorem laneUpd_free (i : Nat) (f : Lane → Lane) (s : State) : (laneUpd i f s).free = s.free := rfl
@[simp] theorem laneUpd_hif (i : Nat) (f : Lane → Lane) (s : State) : (laneUpd i f s).hif = s.hif := rfl
@[simp] theorem laneUpd_tb (i : Nat) (f : Lane → Lane) (s : State) : (laneUpd i f s).tb = s.tb := rfl
@[simp] theorem laneUpd_mem (i : Nat) (f : Lane → Lane) (s : State) : (laneUpd i f s).mem = s.mem := rfl
@[simp] theorem laneUpd_pwr (i : Nat) (f : Lane → Lane) (s : State) : (laneUpd i f s).pwr = s.pwr := rfl
@[simp] theorem laneUpd_boot (i : Nat) (f : Lane → Lane) (s : State) : (laneUpd i f s).boot = s.boot := rfl
@[simp] theorem laneUpd_pair (i : Nat) (f : Lane → Lane) (s : State) : (laneUpd i f s).pair = s.pair := rfl
@[simp] theorem laneUpd_scan (i : Nat) (f : Lane → Lane) (s : State) : (laneUpd i f s).scan = s.scan := rfl
@[simp] theorem laneUpd_net (i : Nat) (f : Lane → Lane) (s : State) : (laneUpd i f s).net = s.net := rfl
@[simp] theorem laneUpd_bb (i : Nat) (f : Lane → Lane) (s : State) : (laneUpd i f s).bb = s.bb := rfl
@[simp] theorem laneUpd_str (i : Nat) (f : Lane → Lane) (s : State) : (laneUpd i f s).str = s.str := rfl
@[simp] theorem laneUpd_comp (i : Nat) (f : Lane → Lane) (s : State) : (laneUpd i f s).comp = s.comp := rfl
@[simp] theorem laneUpd_enc (i : Nat) (f : Lane → Lane) (s : State) : (laneUpd i f s).enc = s.enc := rfl
@[simp] theorem laneUpd_touch (i : Nat) (f : Lane → Lane) (s : State) : (laneUpd i f s).touch = s.touch := rfl

/-- A block is what its units are. -/
theorem state_ext {s t : State} (h_pending : t.pending = s.pending) (h_outbox : t.outbox = s.outbox) (h_free : t.free = s.free)
    (h_hif : t.hif = s.hif) (h_tb : t.tb = s.tb) (h_mem : t.mem = s.mem) (h_pwr : t.pwr = s.pwr) (h_boot : t.boot = s.boot)
    (h_lane : t.lane = s.lane) (h_pair : t.pair = s.pair) (h_scan : t.scan = s.scan) (h_net : t.net = s.net) (h_bb : t.bb = s.bb)
    (h_str : t.str = s.str) (h_comp : t.comp = s.comp) (h_enc : t.enc = s.enc) (h_touch : t.touch = s.touch) : t = s := by
  cases s
  cases t
  simp_all

end Sys2Proof.Machine
end

