-- ==== Sys2Proof/Laws/Invariant.lean ====
section
/-! SUPPORT. What every function keeps (`Kept`): the queue, the growth of the record, the invariant `State.Good`; through every
function of the block: one lemma for each, named after it, which says that the state it answers keeps what the state it is given keeps. -/

namespace Sys2Proof.Machine

set_option linter.all false
set_option Elab.async false

/-- What a command keeps: the queue stands at `Q`, the record of what was sent only grows from `O`, the count of open values from `N`, and
the invariant holds. -/
structure Kept (Q : List Instr) (O : List Outgoing) (N : Nat) (s : State) : Prop where
  queue : s.pending = Q
  sent : O <+: s.outbox
  opened : N ≤ s.free
  mem : Memory.wf s.mem.hbm = true
  win : WindowsLawful s.mem.windows
  time : s.tb.Sound
  seq : s.hif.cmdSeq ≠ 0xFFFFFFFF

variable {Q : List Instr} {O : List Outgoing} {N : Nat}

/-- The same by its parts: of the queue, the record, the count, the memory, the time bases and the sequence number alone. -/
def KeptAt (Q : List Instr) (O : List Outgoing) (N : Nat) (p : List Instr) (o : List Outgoing) (f : Nat) (hbm : List Host.Cell) (ws : Tab MemWindow)
    (u : TimeUnit) (seq : W32) : Prop :=
  p = Q ∧ O <+: o ∧ N ≤ f ∧ Memory.wf hbm = true ∧ WindowsLawful ws ∧ u.Sound ∧ seq ≠ 0xFFFFFFFF

theorem kept_mk {p o f pw bo la pa sc ne bb st co en tch tb hif mem} :
    Kept Q O N ⟨p, o, f, hif, tb, mem, pw, bo, la, pa, sc, ne, bb, st, co, en, tch⟩ ↔ KeptAt Q O N p o f mem.hbm mem.windows tb hif.cmdSeq :=
  ⟨fun h => ⟨h.queue, h.sent, h.opened, h.mem, h.win, h.time, h.seq⟩, fun h => ⟨h.1, h.2.1, h.2.2.1, h.2.2.2.1, h.2.2.2.2.1, h.2.2.2.2.2.1, h.2.2.2.2.2.2⟩⟩

theorem keptAt {s : State}
    (h : Kept Q O N s) : KeptAt Q O N s.pending s.outbox s.free s.mem.hbm s.mem.windows s.tb s.hif.cmdSeq :=
  ⟨h.queue, h.sent, h.opened, h.mem, h.win, h.time, h.seq⟩

theorem foldl_inv_snd {α β : Type} {f : β × State → α → β × State} {l : List α} {x : β × State}
    (hf : ∀ (y : β × State) a, Kept Q O N y.2 → Kept Q O N (f y a).2) (h : Kept Q O N x.2) : Kept Q O N (l.foldl f x).2 := by
  induction l generalizing x with
  | nil => exact h
  | cons a l ih => exact ih (hf x a h)

theorem foldl_inv_snd2 {α β γ : Type} {f : β × γ × State → α → β × γ × State} {l : List α} {x : β × γ × State}
    (hf : ∀ (y : β × γ × State) a, Kept Q O N y.2.2 → Kept Q O N (f y a).2.2) (h : Kept Q O N x.2.2) :
    Kept Q O N (l.foldl f x).2.2 := by
  induction l generalizing x with
  | nil => exact h
  | cons a l ih => exact ih (hf x a h)

theorem foldl_inv {α : Type} {f : State → α → State} {l : List α} {s : State} (hf : ∀ u a, Kept Q O N u → Kept Q O N (f u a))
    (h : Kept Q O N s) :
    Kept Q O N (l.foldl f s) := by
  induction l generalizing s with
  | nil => exact h
  | cons a l ih => exact ih (hf s a h)

theorem foldl_inv_fst {α β : Type} {f : State × β → α → State × β} {l : List α} {x : State × β}
    (hf : ∀ (y : State × β) a, Kept Q O N y.1 → Kept Q O N (f y a).1) (h : Kept Q O N x.1) : Kept Q O N (l.foldl f x).1 := by
  induction l generalizing x with
  | nil => exact h
  | cons a l ih => exact ih (hf x a h)

theorem pair_inv {β : Type} {x : State × β} {u : State} {r : β} (e : x = (u, r)) (h : Kept Q O N x.1) : Kept Q O N u := by
  rw [e] at h; exact h

theorem pair_inv2 {β : Type} {x : β × State} {u : State} {r : β} (e : x = (r, u)) (h : Kept Q O N x.2) : Kept Q O N u := by
  rw [e] at h; exact h

theorem pair_inv3 {β γ : Type} {x : β × γ × State} {u : State} {r : β} {q : γ} (e : x = (r, q, u)) (h : Kept Q O N x.2.2) :
    Kept Q O N u := by
  rw [e] at h; exact h

theorem pair_inv5 {a b c d : Type} {x : a × b × c × d × State} {u : State} {p : a} {q : b} {r : c} {v : d} (e : x =
    (p, q, r, v, u))
    (h : Kept Q O N x.2.2.2.2) : Kept Q O N u := by
  rw [e] at h; exact h

theorem ite_good {c : Prop} [Decidable c] {a b : State} (ha : Kept Q O N a) (hb : Kept Q O N b) :
    Kept Q O N (if c then a else b) := by
  split
  · exact ha
  · exact hb

theorem windowsLawful_nil : WindowsLawful [] := by
  refine ⟨?_, ?_⟩
  · intro n _ h
    cases h
  · intro i j _ _ _ h
    cases h

theorem rangesMeet_comm (a n b k : Nat) : rangesMeet a n b k = rangesMeet b k a n := by
  rw [Bool.eq_iff_iff]
  simp only [rangesMeet, Bool.and_eq_true]
  exact ⟨fun h => ⟨⟨⟨h.1.1.2, h.1.1.1⟩, h.2⟩, h.1.2⟩, fun h => ⟨⟨⟨h.1.1.2, h.1.1.1⟩, h.2⟩, h.1.2⟩⟩

theorem winClash_comm (x y : MemWindow) : winClash x y = winClash y x := by
  unfold winClash
  rw [rangesMeet_comm, rangesMeet_comm x.rowBase, BitVec.and_comm]

/-- A window that is not enabled, or that may be enabled, takes its place among lawful windows. -/
theorem windowsLawful_set {m : MemState} (n : Nat) (y : MemWindow) (h : WindowsLawful m.windows)
    (hy : y.en = true → winMayEnable m n y = true) : WindowsLawful (tset n y m.windows) := by
  have hp : ∀ k, k < 8 → k ≠ n → y.en = true → (tget {} m.windows k : MemWindow).en = true → winClash y (tget {} m.windows k) = false := by
    intro k hk hn he hke
    have := hy he
    unfold winMayEnable at this
    simp only [Bool.and_eq_true, List.all_eq_true, List.mem_range, Bool.or_eq_true, beq_iff_eq, Bool.not_eq_true'] at this
    rcases this.2 k hk with (h1 | h1) | h1
    · exact absurd h1 hn
    · unfold winGet at h1; rw [hke] at h1; cases h1
    · exact h1
  refine ⟨?_, ?_⟩
  · intro k hk hke
    rw [tget_tset] at hke ⊢
    split
    · rename_i e
      rw [if_pos e] at hke
      have := hy hke
      unfold winMayEnable at this
      simp only [Bool.and_eq_true, Bool.or_eq_true, beq_iff_eq, decide_eq_true_eq] at this
      exact this.1
    · rename_i e
      rw [if_neg e] at hke
      exact h.1 k hk hke
  · intro i j hi hj hij hei hej
    rw [tget_tset] at hei hej ⊢
    rw [tget_tset]
    by_cases e1 : i = n
    · have e2 : j ≠ n := fun e => hij (e1.trans e.symm)
      rw [if_pos e1] at hei ⊢
      rw [if_neg e2] at hej ⊢
      exact hp j hj e2 hei hej
    · rw [if_neg e1] at hei ⊢
      by_cases e2 : j = n
      · rw [if_pos e2] at hej ⊢
        rw [winClash_comm]
        exact hp i hi e1 hej hei
      · rw [if_neg e2] at hej ⊢
        exact h.2 i j hi hj hij hei hej

theorem nextSeq_ok {q : W32} (h : q ≠ 0xFFFFFFFF) : nextSeq q ≠ 0xFFFFFFFF := by
  unfold nextSeq
  split
  · decide
  · intro hc; apply h; bv_omega

theorem memAbove_weaken {a b : Nat} {m : List Host.Cell} (h : memAbove b m = true) (hab : a ≤ b) : memAbove a m = true := by
  cases m with
  | nil => rfl
  | cons e m =>
    simp only [memAbove, Bool.and_eq_true, decide_eq_true_eq] at h ⊢
    exact ⟨⟨by omega, h.1.2⟩, h.2⟩

theorem memSet_above (lo k : Nat) (v : Byte) (m : List Host.Cell) (hk : lo ≤ k) (h : memAbove lo m = true) :
    memAbove lo (memSet k v m) = true := by
  induction m generalizing lo with
  | nil =>
    unfold memSet
    split
    · rfl
    · rename_i hv
      simp only [memAbove, Bool.and_eq_true, decide_eq_true_eq, bne_iff_ne, ne_eq]
      exact ⟨⟨hk, hv⟩, trivial⟩
  | cons e m ih =>
    obtain ⟨a, b⟩ := e
    simp only [memAbove, Bool.and_eq_true, decide_eq_true_eq] at h
    by_cases hv : v = 0
    · by_cases h1 : k < a
      · simp [memSet, memAbove, hv, h1, h.1.1, h.2, h.1.2]
        simpa using h.1.2
      · by_cases h2 : k = a
        · simpa [memSet, hv, h2] using memAbove_weaken h.2 (by omega)
        · have := ih (a + 1) (by omega) h.2
          simp only [memSet, h1, h2, if_false, memAbove, Bool.and_eq_true, decide_eq_true_eq]
          exact ⟨h.1, this⟩
    · by_cases h1 : k < a
      · simp only [memSet, h1, if_true, hv, if_false, memAbove, Bool.and_eq_true, decide_eq_true_eq]
        exact ⟨⟨hk, bne_iff_ne.2 hv⟩, ⟨by omega, h.1.2⟩, h.2⟩
      · by_cases h2 : k = a
        · simp only [memSet, h2, Nat.lt_irrefl, if_false, if_true, hv, memAbove, Bool.and_eq_true, decide_eq_true_eq]
          exact ⟨⟨by omega, bne_iff_ne.2 hv⟩, h.2⟩
        · have := ih (a + 1) (by omega) h.2
          simp only [memSet, h1, h2, if_false, memAbove, Bool.and_eq_true, decide_eq_true_eq]
          exact ⟨h.1, this⟩

theorem memSetAll_wf (l : List (Nat × Byte)) (m : List Host.Cell) (h : Memory.wf m = true) : Memory.wf
    (memSetAll l m) = true := by
  unfold memSetAll
  induction l generalizing m with
  | nil => exact h
  | cons e l ih => exact ih _ (memSet_above 0 e.1 e.2 m (Nat.zero_le _) h)

theorem time_keep {s : State} {u : TimeUnit} (h : Kept Q O N s) (h0 : u.t0 = s.tb.t0) (h1 : u.t1 = s.tb.t1) (h2 : u.t2 = s.tb.t2)
    (h3 : u.t3 = s.tb.t3) : u.Sound := by
  unfold TimeUnit.Sound
  rw [h0, h1, h2, h3]; exact h.time

/-- The index under which a time base's increment is judged. -/
def tbIdx (n : Nat) : Nat := if n < 3 then n else 3

theorem tbGet_sound {s : State} (h : Kept Q O N s) (n : Nat) : (tbGet s.tb n).Sound (tbIdx n) ∧ (n = 2 →
    (tbGet s.tb n).ops = []) := by
  have ht := h.time
  match n with
  | 0 => exact ⟨ht.1, by omega⟩
  | 1 => exact ⟨ht.2.1, by omega⟩
  | 2 => exact ⟨ht.2.2.1, fun _ => ht.2.2.2.2⟩
  | n + 3 =>
    have e : tbIdx (n + 3) = 3 := by unfold tbIdx; rw [if_neg (by omega)]
    rw [e]; exact ⟨ht.2.2.2.1, by omega⟩

theorem incNext_in (n v : Nat) (h : incOk n v = true) : incIn (tbIdx n) (BitVec.ofNat 64 v).toNat = true := by
  have hv : v < 2 ^ 64 := by
    match n with
    | 0 | 1 | 2 | n + 3 => simp [incOk] at h; try omega
  have e : (BitVec.ofNat 64 v).toNat = v := by
    rw [BitVec.toNat_ofNat]; exact Nat.mod_eq_of_lt hv
  rw [e]
  match n with
  | 0 => exact h
  | 1 => exact h
  | 2 => simp [incOk] at h
  | n + 3 =>
    have e3 : tbIdx (n + 3) = 3 := by unfold tbIdx; rw [if_neg (by omega)]
    rw [e3]; exact h

theorem incIn_le {n v : Nat} (h : incIn n v = true) : v < 0x300000000 := by
  unfold incIn at h
  split at h
  · simp at h; omega
  · match n with
    | 0 | 1 | 2 | n + 3 => simp [incOk] at h; try omega

theorem carry_lt {a f i : Nat} (ha : a < 1000000000) (hf : f < 2 ^ 32) (hi : i < 0x300000000) :
    (if 1000000000 * 2 ^ 32 ≤ a * 2 ^ 32 + f + i then a * 2 ^ 32 + f + i - 1000000000 * 2 ^ 32 else a * 2 ^ 32 + f + i) / 2 ^ 32 %
      2 ^ 32 < 1000000000 := by
  simp only [Nat.reducePow, Nat.reduceMul] at *
  split <;> omega

theorem tbAdvance_ops (t : TimeBase) : (tbAdvance t).ops = t.ops := by unfold tbAdvance; rfl

theorem tbAdvance_inc (t : TimeBase) : (tbAdvance t).inc = t.inc := by unfold tbAdvance; rfl

theorem tbAdvance_incNext (t : TimeBase) : (tbAdvance t).incNext = t.incNext := by unfold tbAdvance; rfl

theorem tbAdvance_loadNs (t : TimeBase) : (tbAdvance t).loadNs = t.loadNs := by unfold tbAdvance; rfl

theorem tbAdvance_sound {n : Nat} {t : TimeBase} (h : t.Sound n) : (tbAdvance t).Sound n := by
  unfold TimeBase.Sound
  rw [tbAdvance_ops, tbAdvance_inc, tbAdvance_incNext, tbAdvance_loadNs]
  refine ⟨?_, h.2⟩
  unfold tbAdvance w32
  simp only [BitVec.toNat_ofNat]
  exact carry_lt h.1 t.frac.isLt (incIn_le h.2.2.1)

theorem tbTakeInc_sound {n : Nat} {t : TimeBase} (h : t.Sound n) : (tbTakeInc t).Sound n := by
  unfold tbTakeInc
  split
  · rename_i i hi
    refine ⟨h.1, h.2.1, h.2.2.2.1 _ hi, ?_, h.2.2.2.2⟩
    intro v hv
    cases hv
  · exact h

theorem tbTakeOp_sound {n : Nat} {t : TimeBase} (h : t.Sound n) : (tbTakeOp t).Sound n := by
  unfold tbTakeOp
  split
  · rename_i o os ho
    have hrest : ∀ sec ns f b d, TbOp.load sec ns f b d ∈ os → ns.toNat < 1000000000 :=
      fun sec ns f b d hm => h.2.2.2.2 sec ns f b d (by rw [ho]; exact List.mem_cons_of_mem _ hm)
    cases o with
    | step d b =>
      refine ⟨?_, h.2.1, h.2.2.1, h.2.2.2.1, hrest⟩
      unfold tbApply tbAdd w32
      dsimp only
      rw [BitVec.toNat_ofNat]
      omega
    | load sec ns f b d =>
      exact ⟨h.2.2.2.2 sec ns f b d (by rw [ho]; exact List.mem_cons_self ..), h.2.1, h.2.2.1, h.2.2.2.1, hrest⟩
  · exact h

theorem tbTick_sound {n : Nat} {t : TimeBase} (h : t.Sound n) : (tbTick t).Sound n :=
  tbTakeOp_sound (tbAdvance_sound (tbTakeInc_sound h))

theorem tbTick_ops {t : TimeBase} (h : t.ops = []) : (tbTick t).ops = [] := by
  have h1 : (tbTakeInc t).ops = [] := by
    unfold tbTakeInc
    split <;> exact h
  have h2 : (tbAdvance (tbTakeInc t)).ops = [] := by rw [tbAdvance_ops]; exact h1
  unfold tbTick tbTakeOp
  rw [h2]
  exact h2

theorem tbPps_sound {n : Nat} {t : TimeBase} (h : t.Sound n) : (tbPps t).Sound n := by
  unfold tbPps
  split
  · exact h
  · exact h

theorem send_inv (o : Outgoing) (s : State) (h : Kept Q O N s) : Kept Q O N (send o s) :=
  ⟨h.queue, h.sent.trans (List.prefix_append _ _), h.opened, h.mem, h.win, h.time, h.seq⟩

theorem takeFree_inv (s : State) (h : Kept Q O N s) : Kept Q O N (takeFree s).2 :=
  ⟨h.queue, h.sent, Nat.le_succ_of_le h.opened, h.mem, h.win, h.time, h.seq⟩

theorem fnSet_inv (s : State) (fn : Nat) (f : Fn) (hg : Kept Q O N s) : Kept Q O N (fnSet s fn f) := by
  unfold fnSet
  try dsimp only
  repeat' first
    | (with_reducible first
        | assumption | apply foldl_inv | apply foldl_inv_fst)
    | (show _ = _; rfl) | (refine time_keep (Q := Q) (O := O) (N := N) ?_ rfl rfl rfl rfl)
    | (simp only [kept_mk]; with_reducible refine keptAt ?_) | intro _ | dsimp only | split

theorem ringSet_inv (s : State) (fn : Nat) (r : Nat) (x : Ring) (hg : Kept Q O N s) : Kept Q O N (ringSet s fn r x) := by
  unfold ringSet
  repeat' first
    | (with_reducible first
        | assumption | apply fnSet_inv)
    | split

theorem signalVector_inv (fn : Nat) (v : Nat) (s : State) (hg : Kept Q O N s) : Kept Q O N (signalVector fn v s) := by
  unfold signalVector
  try dsimp only
  repeat' first
    | (with_reducible first
        | assumption | apply fnSet_inv | apply send_inv | apply foldl_inv | apply foldl_inv_fst)
    | (show _ = _; rfl) | (refine time_keep (Q := Q) (O := O) (N := N) ?_ rfl rfl rfl rfl)
    | (simp only [kept_mk]; with_reducible refine keptAt ?_) | intro _ | dsimp only | split

theorem ringPut_inv (fn : Nat) (r : Nat) (ws : List W32) (now : Bool) (s : State) (hg : Kept Q O N s) :
    Kept Q O N (ringPut fn r ws now s) := by
  unfold ringPut
  try dsimp only
  repeat' first
    | (with_reducible first
        | assumption | apply send_inv | apply ringSet_inv | apply signalVector_inv | apply foldl_inv
        | apply foldl_inv_fst)
    | (show _ = _; rfl) | (refine time_keep (Q := Q) (O := O) (N := N) ?_ rfl rfl rfl rfl)
    | (simp only [kept_mk]; with_reducible refine keptAt ?_) | intro _ | dsimp only | split

theorem ringDiscard_inv (fn : Nat) (r : Nat) (n : Nat) (s : State) (hg : Kept Q O N s) : Kept Q O N (ringDiscard fn r n s) := by
  unfold ringDiscard
  repeat' first
    | (with_reducible first
        | assumption | apply ringSet_inv)
    | split

theorem ringWrite_inv (fn : Nat) (r : Nat) (ws : List W32) (now : Bool) (s : State) (hg : Kept Q O N s) :
    Kept Q O N (ringWrite fn r ws now s) := by
  unfold ringWrite
  repeat' first
    | (with_reducible first
        | assumption | apply ringPut_inv | apply ringDiscard_inv)
    | split

theorem sendMaint_inv (src : MaintSrc) (letter : Nat) (words : List W32) (s : State) (hg : Kept Q O N s) :
    Kept Q O N (sendMaint src letter words s) := by
  unfold sendMaint
  repeat' first
    | (with_reducible first
        | assumption | apply send_inv)
    | split

theorem eventToFn_inv (fn : Nat) (code : Nat) (p : List W32) (s : State) (hg : Kept Q O N s) :
    Kept Q O N (eventToFn fn code p s) := by
  unfold eventToFn
  try dsimp only
  repeat' first
    | (with_reducible first
        | assumption | apply ringWrite_inv | apply foldl_inv | apply foldl_inv_fst)
    | (show _ = _; rfl) | (refine time_keep (Q := Q) (O := O) (N := N) ?_ rfl rfl rfl rfl)
    | (simp only [kept_mk]; with_reducible refine keptAt ?_) | intro _ | dsimp only | split

theorem eventToMaint_inv (code : Nat) (p : List W32) (s : State) (hg : Kept Q O N s) : Kept Q O N (eventToMaint code p s) := by
  unfold eventToMaint
  try dsimp only
  repeat' first
    | (with_reducible first
        | assumption | apply sendMaint_inv | apply foldl_inv | apply foldl_inv_fst)
    | (show _ = _; rfl) | (refine time_keep (Q := Q) (O := O) (N := N) ?_ rfl rfl rfl rfl)
    | (simp only [kept_mk]; with_reducible refine keptAt ?_) | intro _ | dsimp only | split

theorem raise_inv (code : Nat) (p : List W32) (s : State) (hg : Kept Q O N s) : Kept Q O N (raise code p s) := by
  unfold raise
  repeat' first
    | (with_reducible first
        | assumption | apply eventToFn_inv | apply eventToMaint_inv)
    | split

theorem raiseMerged_inv (k : WindowKey) (ws : List W32) (s : State) (hg : Kept Q O N s) : Kept Q O N (raiseMerged k ws s) := by
  unfold raiseMerged
  try dsimp only
  repeat' first
    | (with_reducible first
        | assumption | apply raise_inv | apply foldl_inv | apply foldl_inv_fst)
    | (show _ = _; rfl) | (refine time_keep (Q := Q) (O := O) (N := N) ?_ rfl rfl rfl rfl)
    | (simp only [kept_mk]; with_reducible refine keptAt ?_) | intro _ | dsimp only | split

theorem notPermitted_inv (init : Nat) (kind : Nat) (opcode : Nat) (p1 : W32) (tag : Nat) (s : State)
 (hg : Kept Q O N s) : Kept Q O N (notPermitted init kind opcode p1 tag s) := by
  unfold notPermitted
  repeat' first
    | (with_reducible first
        | assumption | apply raiseMerged_inv)
    | split

theorem paramRefused_inv (init : Nat) (off : Nat) (val : W32) (s : State) (hg : Kept Q O N s) :
    Kept Q O N (paramRefused init off val s) := by
  unfold paramRefused
  repeat' first
    | (with_reducible first
        | assumption | apply raise_inv)
    | split

theorem ringStop_inv (fn : Nat) (r : Nat) (cause : Nat) (doorbell : W32) (s : State) (hg : Kept Q O N s) :
    Kept Q O N (ringStop fn r cause doorbell s) := by
  unfold ringStop
  repeat' first
    | (with_reducible first
        | assumption | apply ringSet_inv | apply raise_inv)
    | split

theorem takeCmd_inv (c : Cmd) (s : State) (h : Kept Q O N s) : Kept Q O N (takeCmd c s) := by
  have h1 : Kept Q O N { s with hif := { s.hif with cmdSeq := nextSeq s.hif.cmdSeq, lastServed := servePos c } } := ⟨h.queue, h.sent, h.opened, h.mem, h.win, h.time, nextSeq_ok h.seq⟩
  unfold takeCmd
  dsimp only
  split
  · exact h1
  · exact ringSet_inv _ _ _ _ h1

theorem complete_inv (o : Outst) (status : Nat) (detail : W32) (res : List W32) (s : State) (hg : Kept Q O N s) :
    Kept Q O N (complete o status detail res s) := by
  unfold complete
  repeat' first
    | (with_reducible first
        | assumption | apply sendMaint_inv | apply ringWrite_inv)
    | split

theorem finish_inv (op : Nat) (c : Cmd) (seq : W32) (cons : W32) (r : Reply) (s : State) (hg : Kept Q O N s) :
    Kept Q O N (finish op c seq cons r s) := by
  unfold finish
  try dsimp only
  repeat' first
    | (with_reducible first
        | assumption | apply complete_inv | apply notPermitted_inv | apply foldl_inv | apply foldl_inv_fst)
    | (show _ = _; rfl) | (refine time_keep (Q := Q) (O := O) (N := N) ?_ rfl rfl rfl rfl)
    | (simp only [kept_mk]; with_reducible refine keptAt ?_) | intro _ | dsimp only | split

theorem runCommand_inv (opcode : Nat) (op : Cmd → State → State × Reply) (c : Cmd) (s : State)
    (hw : ∀ y u, Kept Q O N u → Kept Q O N (op y u).1) (hg : Kept Q O N s) : Kept Q O N (runCommand opcode op c s) := by
  unfold runCommand
  try dsimp only
  repeat' first
    | (with_reducible first
        | assumption | apply takeCmd_inv | apply finish_inv | apply hw | apply foldl_inv | apply foldl_inv_fst)
    | (show _ = _; rfl) | (refine time_keep (Q := Q) (O := O) (N := N) ?_ rfl rfl rfl rfl)
    | (simp only [kept_mk]; with_reducible refine keptAt ?_) | intro _ | dsimp only | split

theorem maintBusyReply_inv (opcode : Nat) (c : Cmd) (s : State) (hg : Kept Q O N s) : Kept Q O N (maintBusyReply opcode c s) := by
  unfold maintBusyReply
  repeat' first
    | (with_reducible first
        | assumption | apply sendMaint_inv)
    | split

theorem hostCommand_inv (opcode : Nat) (op : Cmd → State → State × Reply) (c : Cmd) (s : State)
    (hw : ∀ y u, Kept Q O N u → Kept Q O N (op y u).1) (hg : Kept Q O N s) : Kept Q O N (hostCommand opcode op c s) := by
  unfold hostCommand
  repeat' first
    | (with_reducible first
        | assumption | apply runCommand_inv | apply maintBusyReply_inv | apply hw)
    | split

theorem outstDrop_inv (o : Outst) (s : State) (hg : Kept Q O N s) : Kept Q O N (outstDrop o s) := by
  unfold outstDrop
  try dsimp only
  repeat' first
    | (with_reducible first
        | assumption | apply foldl_inv | apply foldl_inv_fst)
    | (show _ = _; rfl) | (refine time_keep (Q := Q) (O := O) (N := N) ?_ rfl rfl rfl rfl)
    | (simp only [kept_mk]; with_reducible refine keptAt ?_) | intro _ | dsimp only | split

theorem completeOutst_inv (o : Outst) (status : Nat) (detail : W32) (res : List W32) (s : State) (hg : Kept Q O N s) :
    Kept Q O N (completeOutst o status detail res s) := by
  unfold completeOutst
  repeat' first
    | (with_reducible first
        | assumption | apply complete_inv | apply outstDrop_inv)
    | split

theorem checked_inv (checks : List (Bool × Reply)) (work : State → State × Reply) (s : State)
    (hw : ∀ u, Kept Q O N u → Kept Q O N (work u).1) (hg : Kept Q O N s) : Kept Q O N (checked checks work s).1 := by
  unfold checked
  repeat' first
    | (with_reducible first
        | assumption | apply hw)
    | split

theorem gateDenied_inv (gate : Nat) (init : Nat) (write : Bool) (addr : Nat) (n : Nat) (s : State)
 (hg : Kept Q O N s) : Kept Q O N (gateDenied gate init write addr n s) := by
  unfold gateDenied
  try dsimp only
  repeat' first
    | (with_reducible first
        | assumption | apply raiseMerged_inv | apply foldl_inv | apply foldl_inv_fst)
    | (show _ = _; rfl) | (refine time_keep (Q := Q) (O := O) (N := N) ?_ rfl rfl rfl rfl)
    | (simp only [kept_mk]; with_reducible refine keptAt ?_) | intro _ | dsimp only | split

theorem offBlock_inv (init : Nat) (domain : Nat) (write : Bool) (memory : Bool) (addr : Nat) (s : State)
 (hg : Kept Q O N s) : Kept Q O N (offBlock init domain write memory addr s) := by
  unfold offBlock
  repeat' first
    | (with_reducible first
        | assumption | apply raiseMerged_inv)
    | split

theorem refusedReg_inv (j : Judged) (init : Nat) (off : Nat) (write : Bool) (s : State) (hg : Kept Q O N s) :
    Kept Q O N (refusedReg j init off write s) := by
  unfold refusedReg
  repeat' first
    | (with_reducible first
        | assumption | apply notPermitted_inv | apply gateDenied_inv | apply offBlock_inv)
    | split

theorem regWrite_inv (off : Nat) (i : RegInfo) (a : RegW) (eff : W32 → State → State) (s : State)
    (hw : ∀ y u, Kept Q O N u → Kept Q O N (eff y u)) (hg : Kept Q O N s) : Kept Q O N (regWrite off i a eff s) := by
  unfold regWrite
  repeat' first
    | (with_reducible first
        | assumption | apply paramRefused_inv | apply refusedReg_inv | apply hw)
    | split

theorem holdLo_inv (init : Nat) (off : Nat) (v : W32) (s : State) (hg : Kept Q O N s) : Kept Q O N (holdLo init off v s) := by
  unfold holdLo
  try dsimp only
  repeat' first
    | (with_reducible first
        | assumption | apply foldl_inv | apply foldl_inv_fst)
    | (show _ = _; rfl) | (refine time_keep (Q := Q) (O := O) (N := N) ?_ rfl rfl rfl rfl)
    | (simp only [kept_mk]; with_reducible refine keptAt ?_) | intro _ | dsimp only | split

theorem dropLo_inv (init : Nat) (off : Nat) (s : State) (hg : Kept Q O N s) : Kept Q O N (dropLo init off s) := by
  unfold dropLo
  try dsimp only
  repeat' first
    | (with_reducible first
        | assumption | apply foldl_inv | apply foldl_inv_fst)
    | (show _ = _; rfl) | (refine time_keep (Q := Q) (O := O) (N := N) ?_ rfl rfl rfl rfl)
    | (simp only [kept_mk]; with_reducible refine keptAt ?_) | intro _ | dsimp only | split

theorem regRead_inv (off : Nat) (a : RegR) (rd : RegPath → State → W32 × State) (s : State)
    (hw : ∀ y u, Kept Q O N u → Kept Q O N (rd y u).2) (hg : Kept Q O N s) : Kept Q O N (regRead off a rd s) := by
  unfold regRead
  repeat' first
    | (with_reducible first
        | assumption | apply send_inv | apply refusedReg_inv | apply hw)
    | split

theorem memState_inv (cause : Nat) (pc : Nat) (above : Bool) (addr : Nat) (p3 : Nat) (s : State) (hg : Kept Q O N s) :
    Kept Q O N (memState cause pc above addr p3 s) := by
  unfold memState
  repeat' first
    | (with_reducible first
        | assumption | apply raise_inv)
    | split

theorem requestDenied_inv (init : Nat) (write : Bool) (fs : List (Nat × Nat)) (s : State) (hg : Kept Q O N s) :
    Kept Q O N (requestDenied init write fs s) := by
  unfold requestDenied
  try dsimp only
  repeat' first
    | (with_reducible first
        | assumption | apply raiseMerged_inv | apply foldl_inv | apply foldl_inv_fst)
    | (show _ = _; rfl) | (refine time_keep (Q := Q) (O := O) (N := N) ?_ rfl rfl rfl rfl)
    | (simp only [kept_mk]; with_reducible refine keptAt ?_) | intro _ | dsimp only | split

theorem requestUnmapped_inv (init : Nat) (us : List Nat) (s : State) (hg : Kept Q O N s) :
    Kept Q O N (requestUnmapped init us s) := by
  unfold requestUnmapped
  try dsimp only
  repeat' first
    | (with_reducible first
        | assumption | apply memState_inv | apply foldl_inv | apply foldl_inv_fst)
    | (show _ = _; rfl) | (refine time_keep (Q := Q) (O := O) (N := N) ?_ rfl rfl rfl rfl)
    | (simp only [kept_mk]; with_reducible refine keptAt ?_) | intro _ | dsimp only | split

theorem request_inv (init port a n : Nat) (data : Option (List Byte)) (s : State) (h : Kept Q O N s) :
    Kept Q O N (request init port a n data s).2.2 := by
  unfold request
  dsimp only
  split
  · exact offBlock_inv _ _ _ _ _ _ h
  · refine requestUnmapped_inv _ _ _ (requestDenied_inv _ _ _ _ ⟨h.queue, h.sent, h.opened, ?_, h.win, h.time, h.seq⟩)
    show Memory.wf (match data with | some bs => _ | none => s.mem.hbm) = true
    split
    · exact memSetAll_wf _ _ h.mem
    · exact h.mem

theorem busRead_inv (init port fuel a n : Nat) (s : State) (h : Kept Q O N s) :
    Kept Q O N (busRead init port fuel a n s).2.2 := by
  induction fuel generalizing a n s with
  | zero => exact h
  | succ fuel ih =>
    unfold busRead
    split
    · exact h
    · exact ih _ _ _ (request_inv _ _ _ _ _ _ h)

theorem busWrite_inv (init port fuel a : Nat) (bs : List Byte) (s : State) (h : Kept Q O N s) :
    Kept Q O N (busWrite init port fuel a bs s).2 := by
  induction fuel generalizing a bs s with
  | zero => exact h
  | succ fuel ih =>
    unfold busWrite
    split
    · exact h
    · exact ih _ _ _ (request_inv _ _ _ _ _ _ h)

theorem memoryRequest_inv (r : MemReq) (s : State) (hg : Kept Q O N s) : Kept Q O N (memoryRequest r s) := by
  unfold memoryRequest
  repeat' first
    | (with_reducible first
        | assumption | apply request_inv | apply send_inv)
    | split

theorem withMem_inv (s : State) (m : MemState) (h : Kept Q O N s) (hm : m.hbm = s.mem.hbm := by rfl)
    (hw : m.windows = s.mem.windows := by rfl) : Kept Q O N (withMem s m) :=
  ⟨h.queue, h.sent, h.opened, by show Memory.wf m.hbm = true; rw [hm]; exact h.mem, by show WindowsLawful m.windows; rw [hw]; exact h.win, h.time, h.seq⟩

theorem winSet_good (n : Nat) (y : MemWindow) (s : State) (h : Kept Q O N s) (hy : y.en = true → winMayEnable s.mem n y = true) :
    Kept Q O N (withMem s { s.mem with windows := tset n y s.mem.windows }) :=
  ⟨h.queue, h.sent, h.opened, h.mem, windowsLawful_set n y h.win hy, h.time, h.seq⟩

theorem winCtlWrite_inv (n init : Nat) (v : W32) (s : State) (h : Kept Q O N s) : Kept Q O N (winCtlWrite n init v s) := by
  unfold winCtlWrite
  dsimp only
  split
  · exact paramRefused_inv _ _ _ _ h
  · split
    · split
      · exact paramRefused_inv _ _ _ _ h
      · exact winSet_good _ _ _ h (fun e => by cases e)
    · rename_i he
      split
      · exact winSet_good _ _ _ h (fun e => absurd e he)
      · split
        · rename_i hm
          exact winSet_good _ _ _ h (fun _ => hm)
        · exact paramRefused_inv _ _ _ _ h

theorem winOtherWrite_inv (n sub init : Nat) (v : W32) (s : State) (h : Kept Q O N s) :
    Kept Q O N (winOtherWrite n sub init v s) := by
  unfold winOtherWrite
  dsimp only
  split
  · exact paramRefused_inv _ _ _ _ h
  · rename_i hc
    have he : (winGet s.mem n).en = false := by
      simp only [Bool.or_eq_true, not_or, Bool.not_eq_true] at hc
      exact hc.2
    refine winSet_good _ _ _ h fun e => ?_
    exfalso
    revert e
    split <;> intro e <;> (rw [he] at e; cases e)

theorem portRateWrite_inv (p : Nat) (init : Nat) (v : W32) (s : State) (hg : Kept Q O N s) :
    Kept Q O N (portRateWrite p init v s) := by
  unfold portRateWrite
  try dsimp only
  repeat' first
    | (with_reducible first
        | assumption | apply paramRefused_inv | apply withMem_inv | apply foldl_inv | apply foldl_inv_fst)
    | (show _ = _; rfl) | (refine time_keep (Q := Q) (O := O) (N := N) ?_ rfl rfl rfl rfl)
    | (simp only [kept_mk]; with_reducible refine keptAt ?_) | intro _ | dsimp only | split

theorem portBurstWrite_inv (p : Nat) (init : Nat) (v : W32) (s : State) (hg : Kept Q O N s) :
    Kept Q O N (portBurstWrite p init v s) := by
  unfold portBurstWrite
  try dsimp only
  repeat' first
    | (with_reducible first
        | assumption | apply paramRefused_inv | apply withMem_inv | apply foldl_inv | apply foldl_inv_fst)
    | (show _ = _; rfl) | (refine time_keep (Q := Q) (O := O) (N := N) ?_ rfl rfl rfl rfl)
    | (simp only [kept_mk]; with_reducible refine keptAt ?_) | intro _ | dsimp only | split

theorem mcClear_inv (off : Nat) (lo : Nat) (s : State) (hg : Kept Q O N s) : Kept Q O N (mcClear off lo s) := by
  unfold mcClear
  try dsimp only
  repeat' first
    | (with_reducible first
        | assumption | apply withMem_inv | apply foldl_inv | apply foldl_inv_fst)
    | (show _ = _; rfl) | (refine time_keep (Q := Q) (O := O) (N := N) ?_ rfl rfl rfl rfl)
    | (simp only [kept_mk]; with_reducible refine keptAt ?_) | intro _ | dsimp only | split

theorem bankRefresh_inv (pc : Nat) (s : State) (hg : Kept Q O N s) : Kept Q O N (bankRefresh pc s) := by
  unfold bankRefresh
  try dsimp only
  repeat' first
    | (with_reducible first
        | assumption | apply withMem_inv | apply foldl_inv | apply foldl_inv_fst)
    | (show _ = _; rfl) | (refine time_keep (Q := Q) (O := O) (N := N) ?_ rfl rfl rfl rfl)
    | (simp only [kept_mk]; with_reducible refine keptAt ?_) | intro _ | dsimp only | split

theorem stackTemp_inv (temp : W16) (s : State) (hg : Kept Q O N s) : Kept Q O N (stackTemp temp s) := by
  unfold stackTemp
  try dsimp only
  repeat' first
    | (with_reducible first
        | assumption | apply withMem_inv | apply memState_inv | apply foldl_inv | apply foldl_inv_fst)
    | (show _ = _; rfl) | (refine time_keep (Q := Q) (O := O) (N := N) ?_ rfl rfl rfl rfl)
    | (simp only [kept_mk]; with_reducible refine keptAt ?_) | intro _ | dsimp only | split

theorem scrubRead_inv (a : Nat) (r : ScrubResult) (s : State) (hg : Kept Q O N s) : Kept Q O N (scrubRead a r s) := by
  unfold scrubRead
  try dsimp only
  repeat' first
    | (with_reducible first
        | assumption | apply withMem_inv | apply memState_inv | apply foldl_inv | apply foldl_inv_fst)
    | (show _ = _; rfl) | (refine time_keep (Q := Q) (O := O) (N := N) ?_ rfl rfl rfl rfl)
    | (simp only [kept_mk]; with_reducible refine keptAt ?_) | intro _ | dsimp only | split

theorem gateSet_inv (g : Nat) (x : Gate) (s : State) (hg : Kept Q O N s) : Kept Q O N (gateSet g x s) := by
  unfold gateSet
  try dsimp only
  repeat' first
    | (with_reducible first
        | assumption | apply withMem_inv | apply foldl_inv | apply foldl_inv_fst)
    | (show _ = _; rfl) | (refine time_keep (Q := Q) (O := O) (N := N) ?_ rfl rfl rfl rfl)
    | (simp only [kept_mk]; with_reducible refine keptAt ?_) | intro _ | dsimp only | split

theorem opGateStage_inv (c : Cmd) (s : State) (hg : Kept Q O N s) : Kept Q O N (opGateStage c s).1 := by
  unfold opGateStage
  try dsimp only
  repeat' first
    | (with_reducible first
        | assumption | apply checked_inv | apply gateSet_inv | apply foldl_inv | apply foldl_inv_fst)
    | (show _ = _; rfl) | (refine time_keep (Q := Q) (O := O) (N := N) ?_ rfl rfl rfl rfl)
    | (simp only [kept_mk]; with_reducible refine keptAt ?_) | intro _ | dsimp only | split

theorem opGateCommit_inv (c : Cmd) (s : State) (hg : Kept Q O N s) : Kept Q O N (opGateCommit c s).1 := by
  unfold opGateCommit
  try dsimp only
  repeat' first
    | (with_reducible first
        | assumption | apply checked_inv | apply withMem_inv | apply foldl_inv | apply foldl_inv_fst)
    | (show _ = _; rfl) | (refine time_keep (Q := Q) (O := O) (N := N) ?_ rfl rfl rfl rfl)
    | (simp only [kept_mk]; with_reducible refine keptAt ?_) | intro _ | dsimp only | split

theorem gateCommitDone_inv (s : State) (hg : Kept Q O N s) : Kept Q O N (gateCommitDone s) := by
  unfold gateCommitDone
  try dsimp only
  repeat' first
    | (with_reducible first
        | assumption | apply raise_inv | apply withMem_inv | apply foldl_inv | apply foldl_inv_fst)
    | (show _ = _; rfl) | (refine time_keep (Q := Q) (O := O) (N := N) ?_ rfl rfl rfl rfl)
    | (simp only [kept_mk]; with_reducible refine keptAt ?_) | intro _ | dsimp only | split

theorem gtClear_inv (off : Nat) (lo : Nat) (s : State) (hg : Kept Q O N s) : Kept Q O N (gtClear off lo s) := by
  unfold gtClear
  try dsimp only
  repeat' first
    | (with_reducible first
        | assumption | apply withMem_inv | apply gateSet_inv | apply foldl_inv | apply foldl_inv_fst)
    | (show _ = _; rfl) | (refine time_keep (Q := Q) (O := O) (N := N) ?_ rfl rfl rfl rfl)
    | (simp only [kept_mk]; with_reducible refine keptAt ?_) | intro _ | dsimp only | split

theorem rselWrite_inv (init : Nat) (v : W32) (s : State) (hg : Kept Q O N s) : Kept Q O N (rselWrite init v s) := by
  unfold rselWrite
  try dsimp only
  repeat' first
    | (with_reducible first
        | assumption | apply paramRefused_inv | apply withMem_inv | apply foldl_inv | apply foldl_inv_fst)
    | (show _ = _; rfl) | (refine time_keep (Q := Q) (O := O) (N := N) ?_ rfl rfl rfl rfl)
    | (simp only [kept_mk]; with_reducible refine keptAt ?_) | intro _ | dsimp only | split

theorem lockCut_inv (r : FabReq) (s : State) (hg : Kept Q O N s) : Kept Q O N (lockCut r s) := by
  unfold lockCut
  repeat' first
    | (with_reducible first
        | assumption | apply raise_inv)
    | split

theorem fabArrive_win (m : MemState) (a : FabArrival) : (fabArrive m a).windows = m.windows := by
  unfold fabArrive
  dsimp only
  repeat' first | rfl | split

theorem fabArrives_win (as : List FabArrival) (m : MemState) : (as.foldl fabArrive m).windows = m.windows := by
  induction as generalizing m with
  | nil => rfl
  | cons a as ih => exact (ih _).trans (fabArrive_win m a)

theorem fabArrive_hbm (m : MemState) (a : FabArrival) : (fabArrive m a).hbm = m.hbm := by
  unfold fabArrive
  dsimp only
  repeat' first | rfl | split

theorem fabArrives_hbm (as : List FabArrival) (m : MemState) : (as.foldl fabArrive m).hbm = m.hbm := by
  induction as generalizing m with
  | nil => rfl
  | cons a as ih => exact (ih _).trans (fabArrive_hbm m a)

theorem fabricGrant_inv (as : List FabArrival) (s : State) (h : Kept Q O N s) : Kept Q O N (fabricGrant as s) := by
  have e := fabArrives_hbm as s.mem
  have e2 := fabArrives_win as s.mem
  unfold fabricGrant
  dsimp only
  split
  · exact withMem_inv _ _ h e e2
  · refine lockCut_inv _ _ (withMem_inv _ _ h ?_ ?_)
    · split <;> exact e
    · split <;> exact e2

theorem withStr_inv (s : State) (u : StreamUnit) (hg : Kept Q O N s) : Kept Q O N (withStr s u) := by
  unfold withStr
  try dsimp only
  repeat' first
    | (with_reducible first
        | assumption | apply foldl_inv | apply foldl_inv_fst)
    | (show _ = _; rfl) | (refine time_keep (Q := Q) (O := O) (N := N) ?_ rfl rfl rfl rfl)
    | (simp only [kept_mk]; with_reducible refine keptAt ?_) | intro _ | dsimp only | split

theorem writeTag_inv (init : Nat) (port : Nat) (f : Surf) (sx : Nat) (sy : Nat) (tag : Nat) (s : State) (hg : Kept Q O N s) : Kept Q O N
    (writeTag init port f sx sy tag s).2 := by
  unfold writeTag
  try dsimp only
  repeat' first
    | (with_reducible first
        | assumption | apply busWrite_inv | apply foldl_inv | apply foldl_inv_fst | apply foldl_inv_snd
        | apply foldl_inv_snd2)
    | (show _ = _; rfl) | (refine time_keep (Q := Q) (O := O) (N := N) ?_ rfl rfl rfl rfl)
    | (simp only [kept_mk]; with_reducible refine keptAt ?_) | intro _ | dsimp only
    | (refine pair_inv (by with_reducible assumption) ?_) | (refine pair_inv2 (by with_reducible assumption) ?_)
    | (refine pair_inv3 (by with_reducible assumption) ?_) | (refine pair_inv5 (by with_reducible assumption) ?_)
    | split

theorem writeStitch_inv (stage : Nat) (us : List StageFault) (init : Nat) (port : Nat) (f : Surf) (sx : Nat) (sy : Nat) (bs : List Byte)
    (tag : Nat) (s : State) (hg : Kept Q O N s) : Kept Q O N (writeStitch stage us init port f sx sy bs tag s).2 := by
  unfold writeStitch
  try dsimp only
  repeat' first
    | (with_reducible first
        | assumption | apply busWrite_inv | apply writeTag_inv | apply foldl_inv | apply foldl_inv_fst
        | apply foldl_inv_snd | apply foldl_inv_snd2)
    | (show _ = _; rfl) | (refine time_keep (Q := Q) (O := O) (N := N) ?_ rfl rfl rfl rfl)
    | (simp only [kept_mk]; with_reducible refine keptAt ?_) | intro _ | dsimp only
    | (refine pair_inv (by with_reducible assumption) ?_) | (refine pair_inv2 (by with_reducible assumption) ?_)
    | (refine pair_inv3 (by with_reducible assumption) ?_) | (refine pair_inv5 (by with_reducible assumption) ?_)
    | split

theorem readStitch_inv (init : Nat) (port : Nat) (f : Surf) (sx : Nat) (sy : Nat) (s : State) (hg : Kept Q O N s) :
    Kept Q O N (readStitch init port f sx sy s).2.2 := by
  unfold readStitch
  repeat' first
    | (with_reducible first
        | assumption | apply busRead_inv)
    | split

theorem countRetry_inv (stage : Nat) (s : State) (hg : Kept Q O N s) : Kept Q O N (countRetry stage s) := by
  unfold countRetry
  try dsimp only
  repeat' first
    | (with_reducible first
        | assumption | apply withStr_inv | apply foldl_inv | apply foldl_inv_fst | apply foldl_inv_snd
        | apply foldl_inv_snd2)
    | (show _ = _; rfl) | (refine time_keep (Q := Q) (O := O) (N := N) ?_ rfl rfl rfl rfl)
    | (simp only [kept_mk]; with_reducible refine keptAt ?_) | intro _ | dsimp only
    | (refine pair_inv (by with_reducible assumption) ?_) | (refine pair_inv2 (by with_reducible assumption) ?_)
    | (refine pair_inv3 (by with_reducible assumption) ?_) | (refine pair_inv5 (by with_reducible assumption) ?_)
    | split

theorem fetchStitch_inv (stage : Nat) (us : List StageFault) (init : Nat) (port : Nat) (f : Surf) (sx : Nat) (sy : Nat) (s : State)
    (hg : Kept Q O N s) : Kept Q O N (fetchStitch stage us init port f sx sy s).2 := by
  unfold fetchStitch
  try dsimp only
  repeat' first
    | (with_reducible first
        | assumption | apply readStitch_inv | apply countRetry_inv | apply foldl_inv | apply foldl_inv_fst
        | apply foldl_inv_snd | apply foldl_inv_snd2)
    | (show _ = _; rfl) | (refine time_keep (Q := Q) (O := O) (N := N) ?_ rfl rfl rfl rfl)
    | (simp only [kept_mk]; with_reducible refine keptAt ?_) | intro _ | dsimp only
    | (refine pair_inv (by with_reducible assumption) ?_) | (refine pair_inv2 (by with_reducible assumption) ?_)
    | (refine pair_inv3 (by with_reducible assumption) ?_) | (refine pair_inv5 (by with_reducible assumption) ?_)
    | split

theorem custodyReportOf_inv (sub : Nat) (stage : Nat) (init : Nat) (inst : Nat) (still : Nat) (surf : Nat) (frame : Nat)
    (fs : List Failure) (s : State) (hg : Kept Q O N s) : Kept Q O N (custodyReportOf sub stage init inst still surf frame fs s) := by
  unfold custodyReportOf
  try dsimp only
  repeat' first
    | (with_reducible first
        | assumption | apply withStr_inv | apply raise_inv | apply foldl_inv | apply foldl_inv_fst
        | apply foldl_inv_snd | apply foldl_inv_snd2)
    | (show _ = _; rfl) | (refine time_keep (Q := Q) (O := O) (N := N) ?_ rfl rfl rfl rfl)
    | (simp only [kept_mk]; with_reducible refine keptAt ?_) | intro _ | dsimp only
    | (refine pair_inv (by with_reducible assumption) ?_) | (refine pair_inv2 (by with_reducible assumption) ?_)
    | (refine pair_inv3 (by with_reducible assumption) ?_) | (refine pair_inv5 (by with_reducible assumption) ?_)
    | split

theorem custodyReport_inv (stage : Nat) (init : Nat) (inst : Nat) (still : Nat) (surf : Nat) (frame : Nat) (fs : List Failure) (s : State)
    (hg : Kept Q O N s) : Kept Q O N (custodyReport stage init inst still surf frame fs s) := by
  unfold custodyReport
  try dsimp only
  repeat' first
    | (with_reducible first
        | assumption | apply custodyReportOf_inv | apply foldl_inv | apply foldl_inv_fst | apply foldl_inv_snd
        | apply foldl_inv_snd2)
    | (show _ = _; rfl) | (refine time_keep (Q := Q) (O := O) (N := N) ?_ rfl rfl rfl rfl)
    | (simp only [kept_mk]; with_reducible refine keptAt ?_) | intro _ | dsimp only
    | (refine pair_inv (by with_reducible assumption) ?_) | (refine pair_inv2 (by with_reducible assumption) ?_)
    | (refine pair_inv3 (by with_reducible assumption) ?_) | (refine pair_inv5 (by with_reducible assumption) ?_)
    | split

theorem withLedger_inv (s : State) (l : Ledger) (hg : Kept Q O N s) : Kept Q O N (withLedger s l) := by
  unfold withLedger
  try dsimp only
  repeat' first
    | (with_reducible first
        | assumption | apply foldl_inv | apply foldl_inv_fst)
    | (show _ = _; rfl) | (refine time_keep (Q := Q) (O := O) (N := N) ?_ rfl rfl rfl rfl)
    | (simp only [kept_mk]; with_reducible refine keptAt ?_) | intro _ | dsimp only | split

theorem genSeen_inv (stream : Nat) (n : Nat) (num : Nat) (origin : Nat) (i : Nat) (s : State) (hg : Kept Q O N s) :
    Kept Q O N (genSeen stream n num origin i s) := by
  unfold genSeen
  repeat' first
    | (with_reducible first
        | assumption | apply withLedger_inv | apply raise_inv)
    | split

theorem ledgerTagged_inv (stream : Nat) (n : Nat) (num : Nat) (origin : Nat) (s : State) (hg : Kept Q O N s) :
    Kept Q O N (ledgerTagged stream n num origin s) := by
  unfold ledgerTagged
  try dsimp only
  repeat' first
    | (with_reducible first
        | assumption | apply genSeen_inv | apply foldl_inv | apply foldl_inv_fst)
    | (show _ = _; rfl) | (refine time_keep (Q := Q) (O := O) (N := N) ?_ rfl rfl rfl rfl)
    | (simp only [kept_mk]; with_reducible refine keptAt ?_) | intro _ | dsimp only | split

theorem opLedgerWrite_inv (c : Cmd) (s : State) (hg : Kept Q O N s) : Kept Q O N (opLedgerWrite c s).1 := by
  unfold opLedgerWrite
  try dsimp only
  repeat' first
    | (with_reducible first
        | assumption | apply checked_inv | apply withLedger_inv | apply foldl_inv | apply foldl_inv_fst)
    | (show _ = _; rfl) | (refine time_keep (Q := Q) (O := O) (N := N) ?_ rfl rfl rfl rfl)
    | (simp only [kept_mk]; with_reducible refine keptAt ?_) | intro _ | dsimp only | split

theorem opLedgerCommit_inv (c : Cmd) (s : State) (hg : Kept Q O N s) : Kept Q O N (opLedgerCommit c s).1 := by
  unfold opLedgerCommit
  try dsimp only
  repeat' first
    | (with_reducible first
        | assumption | apply checked_inv | apply withLedger_inv | apply foldl_inv | apply foldl_inv_fst)
    | (show _ = _; rfl) | (refine time_keep (Q := Q) (O := O) (N := N) ?_ rfl rfl rfl rfl)
    | (simp only [kept_mk]; with_reducible refine keptAt ?_) | intro _ | dsimp only | split

theorem withScan_inv (s : State) (u : ScanUnit) (hg : Kept Q O N s) : Kept Q O N (withScan s u) := by
  unfold withScan
  try dsimp only
  repeat' first
    | (with_reducible first
        | assumption | apply foldl_inv | apply foldl_inv_fst)
    | (show _ = _; rfl) | (refine time_keep (Q := Q) (O := O) (N := N) ?_ rfl rfl rfl rfl)
    | (simp only [kept_mk]; with_reducible refine keptAt ?_) | intro _ | dsimp only | split

theorem outSet_inv (o : Nat) (x : Output) (s : State) (hg : Kept Q O N s) : Kept Q O N (outSet o x s) := by
  unfold outSet
  repeat' first
    | (with_reducible first
        | assumption | apply withScan_inv)
    | split

theorem outUpd_inv (o : Nat) (f : Output → Output) (s : State) (hg : Kept Q O N s) : Kept Q O N (outUpd o f s) := by
  unfold outUpd
  repeat' first
    | (with_reducible first
        | assumption | apply outSet_inv)
    | split

theorem withTb_inv (s : State) (u : TimeUnit) (h : Kept Q O N s) (hu : u.Sound) :
    Kept Q O N (withTb s u) := ⟨h.queue, h.sent, h.opened, h.mem, h.win, hu, h.seq⟩

theorem setTb_inv (n : Nat) (t : TimeBase) (s : State) (h : Kept Q O N s) (ht : t.Sound (tbIdx n)) (h2 : n = 2 → t.ops = []) :
    Kept Q O N (setTb n t s) := by
  refine ⟨h.queue, h.sent, h.opened, h.mem, h.win, ?_, h.seq⟩
  have hs := h.time
  show (tbSet s.tb n t).Sound
  match n with
  | 0 => exact ⟨ht, hs.2⟩
  | 1 => exact ⟨hs.1, ht, hs.2.2⟩
  | 2 => exact ⟨hs.1, hs.2.1, ht, hs.2.2.2.1, h2 rfl⟩
  | n + 3 =>
    have e : tbIdx (n + 3) = 3 := by unfold tbIdx; rw [if_neg (by omega)]
    rw [e] at ht
    exact ⟨hs.1, hs.2.1, hs.2.2.1, ht, hs.2.2.2.2⟩

theorem setT0State_inv (new : T0State) (cause : Nat) (s : State) (hg : Kept Q O N s) : Kept Q O N (setT0State new cause s) := by
  unfold setT0State
  try dsimp only
  repeat' first
    | (with_reducible first
        | assumption | apply withTb_inv | apply raise_inv | apply foldl_inv | apply foldl_inv_fst
        | apply foldl_inv_snd | apply foldl_inv_snd2)
    | (show _ = _; rfl) | (refine time_keep (Q := Q) (O := O) (N := N) ?_ rfl rfl rfl rfl)
    | (simp only [kept_mk]; with_reducible refine keptAt ?_) | intro _ | dsimp only
    | (refine pair_inv (by with_reducible assumption) ?_) | (refine pair_inv2 (by with_reducible assumption) ?_)
    | (refine pair_inv3 (by with_reducible assumption) ?_) | (refine pair_inv5 (by with_reducible assumption) ?_)
    | split

theorem servoActive_inv (s : State) (hg : Kept Q O N s) : Kept Q O N (servoActive s) := by
  unfold servoActive
  try dsimp only
  repeat' first
    | (with_reducible first
        | assumption | apply withTb_inv | apply foldl_inv | apply foldl_inv_fst)
    | (show _ = _; rfl) | (refine time_keep (Q := Q) (O := O) (N := N) ?_ rfl rfl rfl rfl)
    | (simp only [kept_mk]; with_reducible refine keptAt ?_) | intro _ | dsimp only
    | (refine pair_inv (by with_reducible assumption) ?_) | (refine pair_inv2 (by with_reducible assumption) ?_)
    | (refine pair_inv3 (by with_reducible assumption) ?_) | (refine pair_inv5 (by with_reducible assumption) ?_)
    | split

theorem t0Declare_inv (v : W32) (s : State) (hg : Kept Q O N s) : Kept Q O N (t0Declare v s) := by
  unfold t0Declare
  repeat' first
    | (with_reducible first
        | assumption | apply setT0State_inv | apply servoActive_inv)
    | split

theorem incCommit_inv (n init : Nat) (hi : W32) (s : State) (h : Kept Q O N s) : Kept Q O N (incCommit n init hi s) := by
  have hd := dropLo_inv init (0x2008 + 0x100 * n) s h
  have g := tbGet_sound h n
  have key : Kept Q O N (if incOk n (w64of (commitLo init (0x2008 + 0x100 * n) ((tbGet s.tb n).inc.setWidth 32) s) hi)
      then setTb n { tbGet s.tb n with incNext := some (BitVec.ofNat 64 (w64of (commitLo init (0x2008 + 0x100 * n) ((tbGet s.tb n).inc.setWidth 32) s) hi)) }
        (dropLo init (0x2008 + 0x100 * n) s)
      else setTb n { tbGet s.tb n with incRange := true } (dropLo init (0x2008 + 0x100 * n) s)) := by
    split
    · rename_i ho
      refine setTb_inv n _ _ hd ⟨g.1.1, g.1.2.1, g.1.2.2.1, ?_, g.1.2.2.2.2⟩ g.2
      intro v hv
      simp only [Option.some.injEq] at hv
      subst hv
      exact incNext_in n _ ho
    · exact setTb_inv n _ _ hd g.1 g.2
  unfold incCommit
  dsimp only
  split
  · exact servoActive_inv _ key
  · exact key

theorem stepRefused_inv (n reason : Nat) (d : Int) (s : State) (h : Kept Q O N s) : Kept Q O N (stepRefused n reason d s) :=
  raise_inv _ _ _ (setTb_inv n _ _ h (tbGet_sound h n).1 (tbGet_sound h n).2)

theorem judgeStep_inv (n : Nat) (d : Int) (mk : Bool → TbOp) (s : State) (h : Kept Q O N s) (h2 : n ≠ 2)
    (hm : ∀ b sec ns f b' d', mk b = .load sec ns f b' d' → ns.toNat < 1000000000) : Kept Q O N (judgeStep n d mk s) := by
  have g := tbGet_sound h n
  have hs : Kept Q O N (setTb n { tbGet s.tb n with ovrArmed := false } s) := setTb_inv n _ _ h g.1 g.2
  unfold judgeStep
  dsimp only
  split
  · exact stepRefused_inv _ _ _ _ hs
  · split
    · exact stepRefused_inv _ _ _ _ hs
    · refine setTb_inv n _ _ h ⟨g.1.1, g.1.2.1, g.1.2.2.1, g.1.2.2.2.1, ?_⟩ (fun e => absurd e h2)
      intro sec ns f b' d' hmem
      rcases List.mem_append.1 hmem with hl | hr
      · exact g.1.2.2.2.2 _ _ _ _ _ hl
      · simp only [List.mem_singleton] at hr
        exact hm _ _ _ _ _ _ hr.symm

theorem stepCommit_inv (n init : Nat) (hi : W32) (s : State) (h : Kept Q O N s) : Kept Q O N (stepCommit n init hi s) := by
  have g := tbGet_sound h n
  have h1 : ∀ lo, Kept Q O N (setTb n { tbGet s.tb n with stepLo := lo, stepHi := hi } (dropLo init (0x2030 + 0x100 * n) s)) :=
    fun lo => setTb_inv n _ _ (dropLo_inv _ _ _ h) g.1 g.2
  unfold stepCommit
  dsimp only
  have h2 : ∀ lo d, Kept Q O N (if n = 2 then
      stepRefused 2 3 d (setTb n { tbGet s.tb n with stepLo := lo, stepHi := hi } (dropLo init (0x2030 + 0x100 * n) s))
      else judgeStep n d (fun b => .step d b) (setTb n { tbGet s.tb n with stepLo := lo, stepHi := hi } (dropLo init (0x2030 + 0x100 * n) s))) := by
    intro lo d
    split
    · exact stepRefused_inv _ _ _ _ (h1 lo)
    · rename_i hn
      exact judgeStep_inv n _ _ _ (h1 lo) hn (by intro b sec ns f b' d' e; cases e)
  split
  · exact servoActive_inv _ (h2 _ _)
  · exact h2 _ _

theorem tbLoad_inv (n : Nat) (s : State) (h : Kept Q O N s) : Kept Q O N (tbLoad n s) := by
  have g := tbGet_sound h n
  unfold tbLoad
  dsimp only
  split
  · exact h
  · rename_i hn
    split
    · refine judgeStep_inv n _ _ _ h hn ?_
      intro b sec ns f b' d' e
      cases e
      exact g.1.2.1
    · refine setTb_inv n _ _ h ⟨g.1.1, g.1.2.1, g.1.2.2.1, g.1.2.2.2.1, ?_⟩ (fun e => absurd e hn)
      intro sec ns f b' d' hmem
      rcases List.mem_append.1 hmem with hl | hr
      · exact g.1.2.2.2.2 _ _ _ _ _ hl
      · simp only [List.mem_singleton] at hr
        cases hr
        exact g.1.2.1

theorem tbCtlWrite_inv (n init : Nat) (v : W32) (s : State) (h : Kept Q O N s) : Kept Q O N (tbCtlWrite n init v s) := by
  have g := tbGet_sound h n
  have h1 : Kept Q O N (setTb n { tbGet s.tb n with ppsEn := bitOf v 4 } s) := setTb_inv n _ _ h g.1 g.2
  have g1 := tbGet_sound h1 n
  unfold tbCtlWrite
  dsimp only
  repeat' first | exact h1 | apply tbLoad_inv | exact setTb_inv n _ _ h1 g1.1 g1.2 | split

theorem flSet_inv (g : Nat) (x : FrameLock) (s : State) (hg : Kept Q O N s) : Kept Q O N (flSet g x s) := by
  unfold flSet
  try dsimp only
  repeat' first
    | (with_reducible first
        | assumption | apply withTb_inv | apply foldl_inv | apply foldl_inv_fst)
    | (show _ = _; rfl) | (refine time_keep (Q := Q) (O := O) (N := N) ?_ rfl rfl rfl rfl)
    | (simp only [kept_mk]; with_reducible refine keptAt ?_) | intro _ | dsimp only
    | (refine pair_inv (by with_reducible assumption) ?_) | (refine pair_inv2 (by with_reducible assumption) ?_)
    | (refine pair_inv3 (by with_reducible assumption) ?_) | (refine pair_inv5 (by with_reducible assumption) ?_)
    | split

theorem flCtlWrite_inv (g : Nat) (init : Nat) (v : W32) (s : State) (hg : Kept Q O N s) : Kept Q O N (flCtlWrite g init v s) := by
  unfold flCtlWrite
  try dsimp only
  repeat' first
    | (with_reducible first
        | assumption | apply flSet_inv | apply paramRefused_inv | apply foldl_inv | apply foldl_inv_fst
        | apply foldl_inv_snd | apply foldl_inv_snd2)
    | (show _ = _; rfl) | (refine time_keep (Q := Q) (O := O) (N := N) ?_ rfl rfl rfl rfl)
    | (simp only [kept_mk]; with_reducible refine keptAt ?_) | intro _ | dsimp only
    | (refine pair_inv (by with_reducible assumption) ?_) | (refine pair_inv2 (by with_reducible assumption) ?_)
    | (refine pair_inv3 (by with_reducible assumption) ?_) | (refine pair_inv5 (by with_reducible assumption) ?_)
    | split

theorem flParamWrite_inv (g : Nat) (init : Nat) (p : FlParam) (v : W32) (s : State) (hg : Kept Q O N s) :
    Kept Q O N (flParamWrite g init p v s) := by
  unfold flParamWrite
  try dsimp only
  repeat' first
    | (with_reducible first
        | assumption | apply paramRefused_inv | apply flSet_inv | apply holdLo_inv | apply dropLo_inv | apply foldl_inv
        | apply foldl_inv_fst)
    | (show _ = _; rfl) | (refine time_keep (Q := Q) (O := O) (N := N) ?_ rfl rfl rfl rfl)
    | (simp only [kept_mk]; with_reducible refine keptAt ?_) | intro _ | dsimp only | split

theorem flSlip_inv (g : Nat) (gap : Nat) (back : Bool) (first : Nat) (next : Nat) (s : State) (hg : Kept Q O N s) :
    Kept Q O N (flSlip g gap back first next s) := by
  unfold flSlip
  repeat' first
    | (with_reducible first
        | assumption | apply raise_inv)
    | split

theorem flRenumber_inv (now : Nat) (back : Bool) (s : State) (g : Nat) (hg : Kept Q O N s) : Kept Q O N (flRenumber now back s g) := by
  unfold flRenumber
  try dsimp only
  repeat' first
    | (with_reducible first
        | assumption | apply flSlip_inv | apply flSet_inv | apply foldl_inv | apply foldl_inv_fst
        | apply foldl_inv_snd | apply foldl_inv_snd2)
    | (show _ = _; rfl) | (refine time_keep (Q := Q) (O := O) (N := N) ?_ rfl rfl rfl rfl)
    | (simp only [kept_mk]; with_reducible refine keptAt ?_) | intro _ | dsimp only
    | (refine pair_inv (by with_reducible assumption) ?_) | (refine pair_inv2 (by with_reducible assumption) ?_)
    | (refine pair_inv3 (by with_reducible assumption) ?_) | (refine pair_inv5 (by with_reducible assumption) ?_)
    | split

theorem t0Applied_inv (o : TbOp) (s : State) (hg : Kept Q O N s) : Kept Q O N (t0Applied o s) := by
  unfold t0Applied
  try dsimp only
  repeat' first
    | (with_reducible first
        | assumption | apply flRenumber_inv | apply setT0State_inv | apply foldl_inv | apply foldl_inv_fst
        | apply foldl_inv_snd | apply foldl_inv_snd2)
    | (show _ = _; rfl) | (refine time_keep (Q := Q) (O := O) (N := N) ?_ rfl rfl rfl rfl)
    | (simp only [kept_mk]; with_reducible refine keptAt ?_) | intro _ | dsimp only
    | (refine pair_inv (by with_reducible assumption) ?_) | (refine pair_inv2 (by with_reducible assumption) ?_)
    | (refine pair_inv3 (by with_reducible assumption) ?_) | (refine pair_inv5 (by with_reducible assumption) ?_)
    | split

theorem tbTickAll_inv (s : State) (h : Kept Q O N s) : Kept Q O N (tbTickAll s) := by
  have ht := h.time
  have h1 : Kept Q O N (withTb s { s.tb with t0 := tbTick s.tb.t0, t1 := tbTick s.tb.t1, t2 := tbTick s.tb.t2, t3 := tbTick s.tb.t3 }) :=
    withTb_inv _ _ h ⟨tbTick_sound ht.1, tbTick_sound ht.2.1, tbTick_sound ht.2.2.1, tbTick_sound ht.2.2.2.1, tbTick_ops ht.2.2.2.2⟩
  unfold tbTickAll
  dsimp only
  split
  · exact t0Applied_inv _ _ h1
  · exact h1

theorem snapAll_inv (s : State) (h : Kept Q O N s) : Kept Q O N (snapAll s) := withTb_inv _ _ h h.time

theorem ppsEdge_inv (s : State) (h : Kept Q O N s) : Kept Q O N (ppsEdge s) := by
  have ht := h.time
  refine withTb_inv _ _ h ⟨tbPps_sound ht.1, tbPps_sound ht.2.1, tbPps_sound ht.2.2.1, tbPps_sound ht.2.2.2.1, ?_⟩
  show (tbPps s.tb.t2).ops = []
  unfold tbPps
  split <;> exact ht.2.2.2.2

theorem txqSet_inv (q : Nat) (x : TxQueue) (s : State) (hg : Kept Q O N s) : Kept Q O N (txqSet q x s) := by
  unfold txqSet
  try dsimp only
  repeat' first
    | (with_reducible first
        | assumption | apply withTb_inv | apply foldl_inv | apply foldl_inv_fst)
    | (show _ = _; rfl) | (refine time_keep (Q := Q) (O := O) (N := N) ?_ rfl rfl rfl rfl)
    | (simp only [kept_mk]; with_reducible refine keptAt ?_) | intro _ | dsimp only
    | (refine pair_inv (by with_reducible assumption) ?_) | (refine pair_inv2 (by with_reducible assumption) ?_)
    | (refine pair_inv3 (by with_reducible assumption) ?_) | (refine pair_inv5 (by with_reducible assumption) ?_)
    | split

theorem txqPush_inv (q : Nat) (e : TxStamp) (s : State) (hg : Kept Q O N s) : Kept Q O N (txqPush q e s) := by
  unfold txqPush
  try dsimp only
  repeat' first
    | (with_reducible first
        | assumption | apply txqSet_inv | apply foldl_inv | apply foldl_inv_fst)
    | (show _ = _; rfl) | (refine time_keep (Q := Q) (O := O) (N := N) ?_ rfl rfl rfl rfl)
    | (simp only [kept_mk]; with_reducible refine keptAt ?_) | intro _ | dsimp only | split

theorem txqRead_inv (q : Nat) (p : RegPath) (s : State) (hg : Kept Q O N s) : Kept Q O N (txqRead q p s).2 := by
  unfold txqRead
  try dsimp only
  repeat' first
    | (with_reducible first
        | assumption | apply txqSet_inv | apply foldl_inv | apply foldl_inv_fst)
    | (show _ = _; rfl) | (refine time_keep (Q := Q) (O := O) (N := N) ?_ rfl rfl rfl rfl)
    | (simp only [kept_mk]; with_reducible refine keptAt ?_) | intro _ | dsimp only | split

theorem tbKeep_good (n : Nat) (t b : TimeBase) (s : State) (h : Kept Q O N s) (e : tbGet s.tb n = b) (h0 : t.ns = b.ns)
    (h1 : t.loadNs = b.loadNs) (h2 : t.inc = b.inc) (h3 : t.incNext = b.incNext) (h4 : t.ops = b.ops) : Kept Q O N (setTb n t s) := by
  have g := tbGet_sound h n
  rw [e] at g
  refine setTb_inv n t s h ?_ fun e => by rw [h4]; exact g.2 e
  unfold TimeBase.Sound
  rw [h0, h1, h2, h3, h4]
  exact g.1

theorem tbClear_inv (off lo : Nat) (s : State) (h : Kept Q O N s) : Kept Q O N (tbClear off lo s) := by
  have g : ∀ n b, tbGet s.tb n = b → Kept Q O N (match lo with
      | 3 => setTb n { b with incRange := false } s
      | 2 => setTb n { b with stepRefused := false } s
      | _ => setTb n { b with stepDone := false } s) := by
    intro n b e
    split <;> exact tbKeep_good _ _ b _ h e rfl rfl rfl rfl rfl
  unfold tbClear
  split
  · exact g _ _ rfl
  · split <;> exact txqSet_inv _ _ _ h

theorem tbPlainWrite_inv (off init : Nat) (v : W32) (s : State) (h : Kept Q O N s) : Kept Q O N (tbPlainWrite off init v s) := by
  have r : ∀ lo hi s', (lo ≤ v.toNat → v.toNat ≤ hi → Kept Q O N s') →
      Kept Q O N (if (decide (lo ≤ v.toNat) && decide (v.toNat ≤ hi)) = true then s' else paramRefused init off v s) := by
    intro lo hi s' hs'
    split
    · rename_i hc
      simp only [Bool.and_eq_true, decide_eq_true_eq] at hc
      exact hs' hc.1 hc.2
    · exact paramRefused_inv _ _ _ _ h
  have ld : ∀ n, v.toNat ≤ 999999999 → Kept Q O N (setTb n { tbGet s.tb n with loadNs := v } s) := by
    intro n hv
    have g := tbGet_sound h n
    exact setTb_inv _ _ _ h ⟨g.1.1, Nat.lt_of_le_of_lt hv (by decide), g.1.2.2⟩ g.2
  have lo : ∀ n b, tbGet s.tb n = b → ∀ x lo, Kept Q O N (setTb n { b with loadLo := lo, loadHi := v } (dropLo init x s)) :=
    fun n b e x lo => tbKeep_good _ _ b _ (dropLo_inv _ _ _ h) e rfl rfl rfl rfl rfl
  have th : ∀ n b, tbGet s.tb n = b → Kept Q O N (setTb n { b with thr := v } s) :=
    fun n b e => tbKeep_good _ _ b _ h e rfl rfl rfl rfl rfl
  unfold tbPlainWrite
  dsimp only
  split
  · exact r _ _ _ fun _ _ => withTb_inv _ _ h (time_keep h rfl rfl rfl rfl)
  · exact r _ _ _ fun _ _ => withTb_inv _ _ h (time_keep h rfl rfl rfl rfl)
  · exact r _ _ _ fun _ _ => withTb_inv _ _ h (time_keep h rfl rfl rfl rfl)
  · exact r _ _ _ fun _ _ => withTb_inv _ _ h (time_keep h rfl rfl rfl rfl)
  · split
    · exact r _ _ _ fun _ hv => ld _ hv
    · exact holdLo_inv _ _ _ _ h
    · exact lo _ _ rfl _ _
    · split
      · exact h
      · exact r _ _ _ fun _ _ => th _ _ rfl
    · split
      · exact h
      · exact holdLo_inv _ _ _ _ h
    · exact holdLo_inv _ _ _ _ h
    · exact h

theorem errEstWrite_inv (v : W32) (s : State) (hg : Kept Q O N s) : Kept Q O N (errEstWrite v s) := by
  unfold errEstWrite
  try dsimp only
  repeat' first
    | (with_reducible first
        | assumption | apply servoActive_inv | apply withTb_inv | apply foldl_inv | apply foldl_inv_fst)
    | (show _ = _; rfl) | (refine time_keep (Q := Q) (O := O) (N := N) ?_ rfl rfl rfl rfl)
    | (simp only [kept_mk]; with_reducible refine keptAt ?_) | intro _ | dsimp only
    | (refine pair_inv (by with_reducible assumption) ?_) | (refine pair_inv2 (by with_reducible assumption) ?_)
    | (refine pair_inv3 (by with_reducible assumption) ?_) | (refine pair_inv5 (by with_reducible assumption) ?_)
    | split

theorem strSet_inv (k : Nat) (e : StreamE) (s : State) (hg : Kept Q O N s) : Kept Q O N (strSet k e s) := by
  unfold strSet
  repeat' first
    | (with_reducible first
        | assumption | apply withStr_inv)
    | split

theorem strUpd_inv (k : Nat) (f : StreamE → StreamE) (s : State) (hg : Kept Q O N s) : Kept Q O N (strUpd k f s) := by
  unfold strUpd
  repeat' first
    | (with_reducible first
        | assumption | apply strSet_inv)
    | split

theorem tagStitch_inv (i : Incoming) (f : Surf) (t : Tab (List W32)) (n : Nat) (p : (Nat × Nat) × Nat) (s : State) (hg : Kept Q O N s)
    : Kept Q O N (tagStitch i f t n p s).2 := by
  unfold tagStitch
  try dsimp only
  repeat' first
    | (with_reducible first
        | assumption | apply writeStitch_inv | apply writeTag_inv | apply foldl_inv | apply foldl_inv_fst
        | apply foldl_inv_snd | apply foldl_inv_snd2)
    | (show _ = _; rfl) | (refine time_keep (Q := Q) (O := O) (N := N) ?_ rfl rfl rfl rfl)
    | (simp only [kept_mk]; with_reducible refine keptAt ?_) | intro _ | dsimp only
    | (refine pair_inv (by with_reducible assumption) ?_) | (refine pair_inv2 (by with_reducible assumption) ?_)
    | (refine pair_inv3 (by with_reducible assumption) ?_) | (refine pair_inv5 (by with_reducible assumption) ?_)
    | split

theorem tagAll_inv (i : Incoming) (f : Surf) (t : Tab (List W32)) (x3 : List ((Nat × Nat) × Nat)) (x4 : Nat) (x5 : State)
    (hg : Kept Q O N x5) : Kept Q O N (tagAll i f t x3 x4 x5).2 := by
  induction x3 generalizing x4 x5 with
  | nil =>
    unfold tagAll
    try dsimp only
    repeat' first
      | (with_reducible first
          | assumption | apply tagStitch_inv | apply foldl_inv | apply foldl_inv_fst | apply foldl_inv_snd
          | apply foldl_inv_snd2)
      | (show _ = _; rfl) | (refine time_keep (Q := Q) (O := O) (N := N) ?_ rfl rfl rfl rfl)
      | (simp only [kept_mk]; with_reducible refine keptAt ?_) | intro _ | dsimp only
      | (refine pair_inv (by with_reducible assumption) ?_) | (refine pair_inv2 (by with_reducible assumption) ?_)
      | (refine pair_inv3 (by with_reducible assumption) ?_) | (refine pair_inv5 (by with_reducible assumption) ?_)
      | split
  | cons _ _ ih =>
    unfold tagAll
    try dsimp only
    repeat' first
      | (with_reducible first
          | assumption | apply ih | apply tagStitch_inv | apply foldl_inv | apply foldl_inv_fst | apply foldl_inv_snd
          | apply foldl_inv_snd2)
      | (show _ = _; rfl) | (refine time_keep (Q := Q) (O := O) (N := N) ?_ rfl rfl rfl rfl)
      | (simp only [kept_mk]; with_reducible refine keptAt ?_) | intro _ | dsimp only
      | (refine pair_inv (by with_reducible assumption) ?_) | (refine pair_inv2 (by with_reducible assumption) ?_)
      | (refine pair_inv3 (by with_reducible assumption) ?_) | (refine pair_inv5 (by with_reducible assumption) ?_)
      | split

theorem watchRead_inv (us : List StageFault) (f : Surf) (x2 : List (Nat × Nat)) (x3 : State) (hg : Kept Q O N x3) : Kept Q O N
    (watchRead us f x2 x3).2.2 := by
  induction x2 generalizing x3 with
  | nil =>
    unfold watchRead
    try dsimp only
    repeat' first
      | (with_reducible first
          | assumption | apply fetchStitch_inv | apply foldl_inv | apply foldl_inv_fst | apply foldl_inv_snd
          | apply foldl_inv_snd2)
      | (show _ = _; rfl) | (refine time_keep (Q := Q) (O := O) (N := N) ?_ rfl rfl rfl rfl)
      | (simp only [kept_mk]; with_reducible refine keptAt ?_) | intro _ | dsimp only
      | (refine pair_inv (by with_reducible assumption) ?_) | (refine pair_inv2 (by with_reducible assumption) ?_)
      | (refine pair_inv3 (by with_reducible assumption) ?_) | (refine pair_inv5 (by with_reducible assumption) ?_)
      | split
  | cons _ _ ih =>
    unfold watchRead
    try dsimp only
    repeat' first
      | (with_reducible first
          | assumption | apply ih | apply fetchStitch_inv | apply foldl_inv | apply foldl_inv_fst | apply foldl_inv_snd
          | apply foldl_inv_snd2)
      | (show _ = _; rfl) | (refine time_keep (Q := Q) (O := O) (N := N) ?_ rfl rfl rfl rfl)
      | (simp only [kept_mk]; with_reducible refine keptAt ?_) | intro _ | dsimp only
      | (refine pair_inv (by with_reducible assumption) ?_) | (refine pair_inv2 (by with_reducible assumption) ?_)
      | (refine pair_inv3 (by with_reducible assumption) ?_) | (refine pair_inv5 (by with_reducible assumption) ?_)
      | split

theorem refWrite_inv (n : Nat) (part : Nat × Nat) (origin : Nat) (us : List StageFault) (now : List (Option Nat)) (s : State)
    (hg : Kept Q O N s) : Kept Q O N (refWrite n part origin us now s) := by
  unfold refWrite
  try dsimp only
  repeat' first
    | (with_reducible first
        | assumption | apply writeStitch_inv | apply foldl_inv | apply foldl_inv_fst | apply foldl_inv_snd
        | apply foldl_inv_snd2)
    | (show _ = _; rfl) | (refine time_keep (Q := Q) (O := O) (N := N) ?_ rfl rfl rfl rfl)
    | (simp only [kept_mk]; with_reducible refine keptAt ?_) | intro _ | dsimp only
    | (refine pair_inv (by with_reducible assumption) ?_) | (refine pair_inv2 (by with_reducible assumption) ?_)
    | (refine pair_inv3 (by with_reducible assumption) ?_) | (refine pair_inv5 (by with_reducible assumption) ?_)
    | split

theorem frozenEvent_inv (code : Nat) (stream : Nat) (cause : Nat) (window : Nat) (any : Bool) (set : Bool) (f : SrcFrame)
    (s : State) (hg : Kept Q O N s) : Kept Q O N (frozenEvent code stream cause window any set f s) := by
  unfold frozenEvent
  repeat' first
    | (with_reducible first
        | assumption | apply raise_inv)
    | split

theorem tallyEvent_inv (k : Nat) (old : Nat) (new : Nat) (c : Option Nat) (f : SrcFrame) (s : State)
 (hg : Kept Q O N s) : Kept Q O N (tallyEvent k old new c f s) := by
  unfold tallyEvent
  repeat' first
    | (with_reducible first
        | assumption | apply strUpd_inv | apply raise_inv)
    | split

theorem watchOne_good (i : Incoming) (f : Surf) (a : WatchRun) (n : Nat) (h : Kept Q O N a.st) :
    Kept Q O N (watchOne i f a n).st := by
  unfold watchOne
  dsimp only
  repeat' first
    | (with_reducible first
        | assumption | apply withStr_inv | apply refWrite_inv | apply watchRead_inv | apply foldl_inv)
    | intro _ | dsimp only | split

theorem kept_watch {α : Type} {f : WatchRun → α → WatchRun} {l : List α} {w : WatchRun}
    (hf : ∀ u a, Kept Q O N u.st → Kept Q O N (f u a).st) (h : Kept Q O N w.st) : Kept Q O N (l.foldl f w).st := by
  induction l generalizing w with
  | nil => exact h
  | cons a l ih => exact ih (hf w a h)

theorem acceptFrame_inv (i : Incoming) (s : State) (hg : Kept Q O N s) : Kept Q O N (acceptFrame i s) := by
  unfold acceptFrame
  dsimp only
  have hw : ∀ {s1 : State}, Kept Q O N s1 → ∀ f ws, Kept Q O N (List.foldl (watchOne i f) { st := s1 } ws).st :=
    fun h _ _ => kept_watch (fun _ _ hu => watchOne_good _ _ _ _ hu) h
  repeat' first
    | (with_reducible first
        | assumption | apply custodyReport_inv | apply frozenEvent_inv | apply strUpd_inv | apply tallyEvent_inv
        | apply ledgerTagged_inv | apply tagAll_inv | apply hw | apply foldl_inv | apply ite_good)
    | intro _ | dsimp only | split

theorem originEvent_inv (k : Nat) (mode : Nat) (cause : Nat) (s : State) (hg : Kept Q O N s) :
    Kept Q O N (originEvent k mode cause s) := by
  unfold originEvent
  repeat' first
    | (with_reducible first
        | assumption | apply raise_inv)
    | split

theorem boundary_inv (k : Nat) (s : State) (hg : Kept Q O N s) : Kept Q O N (boundary k s) := by
  unfold boundary
  try dsimp only
  repeat' first
    | (with_reducible first
        | assumption | apply strUpd_inv | apply originEvent_inv | apply foldl_inv | apply foldl_inv_fst
        | apply foldl_inv_snd | apply foldl_inv_snd2)
    | (show _ = _; rfl) | (refine time_keep (Q := Q) (O := O) (N := N) ?_ rfl rfl rfl rfl)
    | (simp only [kept_mk]; with_reducible refine keptAt ?_) | intro _ | dsimp only
    | (refine pair_inv (by with_reducible assumption) ?_) | (refine pair_inv2 (by with_reducible assumption) ?_)
    | (refine pair_inv3 (by with_reducible assumption) ?_) | (refine pair_inv5 (by with_reducible assumption) ?_)
    | split

theorem setStream_inv (k : Nat) (st : Nat) (cause : Nat) (s : State) (hg : Kept Q O N s) :
    Kept Q O N (setStream k st cause s) := by
  unfold setStream
  repeat' first
    | (with_reducible first
        | assumption | apply raise_inv | apply strSet_inv)
    | split

theorem bbSet_inv (n : Nat) (x : BbIn) (s : State) (hg : Kept Q O N s) : Kept Q O N (bbSet n x s) := by
  unfold bbSet
  try dsimp only
  repeat' first
    | (with_reducible first
        | assumption | apply foldl_inv | apply foldl_inv_fst)
    | (show _ = _; rfl) | (refine time_keep (Q := Q) (O := O) (N := N) ?_ rfl rfl rfl rfl)
    | (simp only [kept_mk]; with_reducible refine keptAt ?_) | intro _ | dsimp only | split

theorem tryShed_inv (s : State) (k : Nat) (hg : Kept Q O N s) : Kept Q O N (tryShed s k) := by
  unfold tryShed
  try dsimp only
  repeat' first
    | (with_reducible first
        | assumption | apply setStream_inv | apply strUpd_inv | apply withStr_inv | apply foldl_inv
        | apply foldl_inv_fst | apply foldl_inv_snd | apply foldl_inv_snd2)
    | (show _ = _; rfl) | (refine time_keep (Q := Q) (O := O) (N := N) ?_ rfl rfl rfl rfl)
    | (simp only [kept_mk]; with_reducible refine keptAt ?_) | intro _ | dsimp only
    | (refine pair_inv (by with_reducible assumption) ?_) | (refine pair_inv2 (by with_reducible assumption) ?_)
    | (refine pair_inv3 (by with_reducible assumption) ?_) | (refine pair_inv5 (by with_reducible assumption) ?_)
    | split

theorem readmit_inv (s : State) (hg : Kept Q O N s) : Kept Q O N (readmit s) := by
  unfold readmit
  try dsimp only
  repeat' first
    | (with_reducible first
        | assumption | apply tryShed_inv | apply foldl_inv | apply foldl_inv_fst)
    | (show _ = _; rfl) | (refine time_keep (Q := Q) (O := O) (N := N) ?_ rfl rfl rfl rfl)
    | (simp only [kept_mk]; with_reducible refine keptAt ?_) | intro _ | dsimp only | split

theorem tryWaiting_inv (s : State) (k : Nat) (hg : Kept Q O N s) : Kept Q O N (tryWaiting s k) := by
  unfold tryWaiting
  try dsimp only
  repeat' first
    | (with_reducible first
        | assumption | apply setStream_inv | apply strUpd_inv | apply foldl_inv | apply foldl_inv_fst
        | apply foldl_inv_snd | apply foldl_inv_snd2)
    | (show _ = _; rfl) | (refine time_keep (Q := Q) (O := O) (N := N) ?_ rfl rfl rfl rfl)
    | (simp only [kept_mk]; with_reducible refine keptAt ?_) | intro _ | dsimp only
    | (refine pair_inv (by with_reducible assumption) ?_) | (refine pair_inv2 (by with_reducible assumption) ?_)
    | (refine pair_inv3 (by with_reducible assumption) ?_) | (refine pair_inv5 (by with_reducible assumption) ?_)
    | split

theorem liveChanged_inv (s : State) (hg : Kept Q O N s) : Kept Q O N (liveChanged s) := by
  unfold liveChanged
  try dsimp only
  repeat' first
    | (with_reducible first
        | assumption | apply tryWaiting_inv | apply readmit_inv | apply foldl_inv | apply foldl_inv_fst)
    | (show _ = _; rfl) | (refine time_keep (Q := Q) (O := O) (N := N) ?_ rfl rfl rfl rfl)
    | (simp only [kept_mk]; with_reducible refine keptAt ?_) | intro _ | dsimp only | split

theorem inputLost_inv (n : Nat) (s : State) (hg : Kept Q O N s) : Kept Q O N (inputLost n s) := by
  unfold inputLost
  try dsimp only
  repeat' first
    | (with_reducible first
        | assumption | apply strUpd_inv | apply liveChanged_inv | apply setStream_inv | apply foldl_inv
        | apply foldl_inv_fst | apply foldl_inv_snd | apply foldl_inv_snd2)
    | (show _ = _; rfl) | (refine time_keep (Q := Q) (O := O) (N := N) ?_ rfl rfl rfl rfl)
    | (simp only [kept_mk]; with_reducible refine keptAt ?_) | intro _ | dsimp only
    | (refine pair_inv (by with_reducible assumption) ?_) | (refine pair_inv2 (by with_reducible assumption) ?_)
    | (refine pair_inv3 (by with_reducible assumption) ?_) | (refine pair_inv5 (by with_reducible assumption) ?_)
    | split

theorem settleMerge_inv (k : Nat) (s : State) (hg : Kept Q O N s) : Kept Q O N (settleMerge k s) := by
  unfold settleMerge
  repeat' first
    | (with_reducible first
        | assumption | apply strUpd_inv)
    | split

theorem auWait_inv (k : Nat) (s : State) (hg : Kept Q O N s) : Kept Q O N (auWait k s) := by
  unfold auWait
  try dsimp only
  repeat' first
    | (with_reducible first
        | assumption | apply strUpd_inv | apply foldl_inv | apply foldl_inv_fst | apply foldl_inv_snd
        | apply foldl_inv_snd2)
    | (show _ = _; rfl) | (refine time_keep (Q := Q) (O := O) (N := N) ?_ rfl rfl rfl rfl)
    | (simp only [kept_mk]; with_reducible refine keptAt ?_) | intro _ | dsimp only
    | (refine pair_inv (by with_reducible assumption) ?_) | (refine pair_inv2 (by with_reducible assumption) ?_)
    | (refine pair_inv3 (by with_reducible assumption) ?_) | (refine pair_inv5 (by with_reducible assumption) ?_)
    | split

theorem watchRestart_inv (k : Nat) (s : State) (hg : Kept Q O N s) : Kept Q O N (watchRestart k s) := by
  unfold watchRestart
  try dsimp only
  repeat' first
    | (with_reducible first
        | assumption | apply withStr_inv | apply foldl_inv | apply foldl_inv_fst | apply foldl_inv_snd
        | apply foldl_inv_snd2)
    | (show _ = _; rfl) | (refine time_keep (Q := Q) (O := O) (N := N) ?_ rfl rfl rfl rfl)
    | (simp only [kept_mk]; with_reducible refine keptAt ?_) | intro _ | dsimp only
    | (refine pair_inv (by with_reducible assumption) ?_) | (refine pair_inv2 (by with_reducible assumption) ?_)
    | (refine pair_inv3 (by with_reducible assumption) ?_) | (refine pair_inv5 (by with_reducible assumption) ?_)
    | split

theorem opStreamOpen_inv (c : Cmd) (s : State) (hg : Kept Q O N s) : Kept Q O N (opStreamOpen c s).1 := by
  unfold opStreamOpen
  try dsimp only
  repeat' first
    | (with_reducible first
        | assumption | apply checked_inv | apply watchRestart_inv | apply settleMerge_inv | apply strSet_inv
        | apply withStr_inv | apply setStream_inv | apply foldl_inv | apply foldl_inv_fst | apply foldl_inv_snd
        | apply foldl_inv_snd2)
    | (show _ = _; rfl) | (refine time_keep (Q := Q) (O := O) (N := N) ?_ rfl rfl rfl rfl)
    | (simp only [kept_mk]; with_reducible refine keptAt ?_) | intro _ | dsimp only
    | (refine pair_inv (by with_reducible assumption) ?_) | (refine pair_inv2 (by with_reducible assumption) ?_)
    | (refine pair_inv3 (by with_reducible assumption) ?_) | (refine pair_inv5 (by with_reducible assumption) ?_)
    | split

theorem opStreamModify_inv (c : Cmd) (s : State) (hg : Kept Q O N s) : Kept Q O N (opStreamModify c s).1 := by
  unfold opStreamModify
  try dsimp only
  repeat' first
    | (with_reducible first
        | assumption | apply checked_inv | apply readmit_inv | apply strUpd_inv | apply foldl_inv
        | apply foldl_inv_fst | apply foldl_inv_snd | apply foldl_inv_snd2)
    | (show _ = _; rfl) | (refine time_keep (Q := Q) (O := O) (N := N) ?_ rfl rfl rfl rfl)
    | (simp only [kept_mk]; with_reducible refine keptAt ?_) | intro _ | dsimp only
    | (refine pair_inv (by with_reducible assumption) ?_) | (refine pair_inv2 (by with_reducible assumption) ?_)
    | (refine pair_inv3 (by with_reducible assumption) ?_) | (refine pair_inv5 (by with_reducible assumption) ?_)
    | split

theorem opStreamClose_inv (c : Cmd) (s : State) (hg : Kept Q O N s) : Kept Q O N (opStreamClose c s).1 := by
  unfold opStreamClose
  try dsimp only
  repeat' first
    | (with_reducible first
        | assumption | apply checked_inv | apply setStream_inv | apply strUpd_inv | apply liveChanged_inv
        | apply withStr_inv | apply foldl_inv | apply foldl_inv_fst | apply foldl_inv_snd | apply foldl_inv_snd2)
    | (show _ = _; rfl) | (refine time_keep (Q := Q) (O := O) (N := N) ?_ rfl rfl rfl rfl)
    | (simp only [kept_mk]; with_reducible refine keptAt ?_) | intro _ | dsimp only
    | (refine pair_inv (by with_reducible assumption) ?_) | (refine pair_inv2 (by with_reducible assumption) ?_)
    | (refine pair_inv3 (by with_reducible assumption) ?_) | (refine pair_inv5 (by with_reducible assumption) ?_)
    | split

theorem closingRelease_inv (k : Nat) (s : State) (hg : Kept Q O N s) : Kept Q O N (closingRelease k s) := by
  unfold closingRelease
  try dsimp only
  repeat' first
    | (with_reducible first
        | assumption | apply withStr_inv | apply setStream_inv | apply foldl_inv | apply foldl_inv_fst
        | apply foldl_inv_snd | apply foldl_inv_snd2)
    | (show _ = _; rfl) | (refine time_keep (Q := Q) (O := O) (N := N) ?_ rfl rfl rfl rfl)
    | (simp only [kept_mk]; with_reducible refine keptAt ?_) | intro _ | dsimp only
    | (refine pair_inv (by with_reducible assumption) ?_) | (refine pair_inv2 (by with_reducible assumption) ?_)
    | (refine pair_inv3 (by with_reducible assumption) ?_) | (refine pair_inv5 (by with_reducible assumption) ?_)
    | split

theorem opStreamAnchor_inv (c : Cmd) (s : State) (hg : Kept Q O N s) : Kept Q O N (opStreamAnchor c s).1 := by
  unfold opStreamAnchor
  try dsimp only
  repeat' first
    | (with_reducible first
        | assumption | apply checked_inv | apply strUpd_inv | apply foldl_inv | apply foldl_inv_fst)
    | (show _ = _; rfl) | (refine time_keep (Q := Q) (O := O) (N := N) ?_ rfl rfl rfl rfl)
    | (simp only [kept_mk]; with_reducible refine keptAt ?_) | intro _ | dsimp only | split

theorem anchorExpiry_inv (k : Nat) (s : State) (hg : Kept Q O N s) : Kept Q O N (anchorExpiry k s) := by
  unfold anchorExpiry
  try dsimp only
  repeat' first
    | (with_reducible first
        | assumption | apply strUpd_inv | apply foldl_inv | apply foldl_inv_fst)
    | (show _ = _; rfl) | (refine time_keep (Q := Q) (O := O) (N := N) ?_ rfl rfl rfl rfl)
    | (simp only [kept_mk]; with_reducible refine keptAt ?_) | intro _ | dsimp only | split

theorem opStreamStatus_inv (c : Cmd) (s : State) (hg : Kept Q O N s) : Kept Q O N (opStreamStatus c s).1 := by
  unfold opStreamStatus
  repeat' first
    | (with_reducible first
        | assumption)
    | split

theorem opWatchSet_inv (c : Cmd) (s : State) (hg : Kept Q O N s) : Kept Q O N (opWatchSet c s).1 := by
  unfold opWatchSet
  try dsimp only
  repeat' first
    | (with_reducible first
        | assumption | apply checked_inv | apply withStr_inv | apply foldl_inv | apply foldl_inv_fst
        | apply foldl_inv_snd | apply foldl_inv_snd2)
    | (show _ = _; rfl) | (refine time_keep (Q := Q) (O := O) (N := N) ?_ rfl rfl rfl rfl)
    | (simp only [kept_mk]; with_reducible refine keptAt ?_) | intro _ | dsimp only
    | (refine pair_inv (by with_reducible assumption) ?_) | (refine pair_inv2 (by with_reducible assumption) ?_)
    | (refine pair_inv3 (by with_reducible assumption) ?_) | (refine pair_inv5 (by with_reducible assumption) ?_)
    | split

theorem ringCtlWrite_inv (fn : Nat) (r : Nat) (v : W32) (s : State) (hg : Kept Q O N s) : Kept Q O N (ringCtlWrite fn r v s) := by
  unfold ringCtlWrite
  try dsimp only
  repeat' first
    | (with_reducible first
        | assumption | apply ringSet_inv | apply ringStop_inv | apply foldl_inv | apply foldl_inv_fst)
    | (show _ = _; rfl) | (refine time_keep (Q := Q) (O := O) (N := N) ?_ rfl rfl rfl rfl)
    | (simp only [kept_mk]; with_reducible refine keptAt ?_) | intro _ | dsimp only | split

theorem ringOtherWrite_inv (fn : Nat) (r : Nat) (sub : Nat) (init : Nat) (v : W32) (s : State) (hg : Kept Q O N s) :
    Kept Q O N (ringOtherWrite fn r sub init v s) := by
  unfold ringOtherWrite
  try dsimp only
  repeat' first
    | (with_reducible first
        | assumption | apply paramRefused_inv | apply holdLo_inv | apply ringSet_inv | apply dropLo_inv | apply foldl_inv
        | apply foldl_inv_fst)
    | (show _ = _; rfl) | (refine time_keep (Q := Q) (O := O) (N := N) ?_ rfl rfl rfl rfl)
    | (simp only [kept_mk]; with_reducible refine keptAt ?_) | intro _ | dsimp only | split

theorem msixWrite_inv (off : Nat) (init : Nat) (v : W32) (s : State) (hg : Kept Q O N s) :
    Kept Q O N (msixWrite off init v s) := by
  unfold msixWrite
  try dsimp only
  repeat' first
    | (with_reducible first
        | assumption | apply fnSet_inv | apply signalVector_inv | apply foldl_inv | apply foldl_inv_fst)
    | (show _ = _; rfl) | (refine time_keep (Q := Q) (O := O) (N := N) ?_ rfl rfl rfl rfl)
    | (simp only [kept_mk]; with_reducible refine keptAt ?_) | intro _ | dsimp only | split

theorem doorbell_inv (fn : Nat) (r : Nat) (v : W32) (s : State) (hg : Kept Q O N s) : Kept Q O N (doorbell fn r v s) := by
  unfold doorbell
  try dsimp only
  repeat' first
    | (with_reducible first
        | assumption | apply ringSet_inv | apply ringStop_inv | apply foldl_inv | apply foldl_inv_fst)
    | (show _ = _; rfl) | (refine time_keep (Q := Q) (O := O) (N := N) ?_ rfl rfl rfl rfl)
    | (simp only [kept_mk]; with_reducible refine keptAt ?_) | intro _ | dsimp only | split

theorem ringCtlReg_inv (fn : Nat) (ring : Nat) (a : RegW) (s : State) (hg : Kept Q O N s) :
    Kept Q O N (ringCtlReg fn ring a s) := by
  unfold ringCtlReg
  repeat' first
    | (with_reducible first
        | assumption | apply regWrite_inv | apply ringCtlWrite_inv)
    | split

theorem moderationExpire_inv (fn : Nat) (r : Nat) (s : State) (hg : Kept Q O N s) : Kept Q O N (moderationExpire fn r s) := by
  unfold moderationExpire
  try dsimp only
  repeat' first
    | (with_reducible first
        | assumption | apply signalVector_inv | apply ringSet_inv | apply foldl_inv | apply foldl_inv_fst)
    | (show _ = _; rfl) | (refine time_keep (Q := Q) (O := O) (N := N) ?_ rfl rfl rfl rfl)
    | (simp only [kept_mk]; with_reducible refine keptAt ?_) | intro _ | dsimp only | split

theorem fnQuiet_inv (fn : Nat) (s : State) (hg : Kept Q O N s) : Kept Q O N (fnQuiet fn s) := by
  unfold fnQuiet
  try dsimp only
  repeat' first
    | (with_reducible first
        | assumption | apply fnSet_inv | apply foldl_inv | apply foldl_inv_fst)
    | (show _ = _; rfl) | (refine time_keep (Q := Q) (O := O) (N := N) ?_ rfl rfl rfl rfl)
    | (simp only [kept_mk]; with_reducible refine keptAt ?_) | intro _ | dsimp only | split

theorem dropPending_inv (init : Nat) (s : State) (hg : Kept Q O N s) : Kept Q O N (dropPending init s) := by
  unfold dropPending
  try dsimp only
  repeat' first
    | (with_reducible first
        | assumption | apply foldl_inv | apply foldl_inv_fst)
    | (show _ = _; rfl) | (refine time_keep (Q := Q) (O := O) (N := N) ?_ rfl rfl rfl rfl)
    | (simp only [kept_mk]; with_reducible refine keptAt ?_) | intro _ | dsimp only | split

theorem linkLoss_inv (s : State) (hg : Kept Q O N s) : Kept Q O N (linkLoss s) := by
  unfold linkLoss
  try dsimp only
  repeat' first
    | (with_reducible first
        | assumption | apply fnQuiet_inv | apply foldl_inv | apply foldl_inv_fst)
    | (show _ = _; rfl) | (refine time_keep (Q := Q) (O := O) (N := N) ?_ rfl rfl rfl rfl)
    | (simp only [kept_mk]; with_reducible refine keptAt ?_) | intro _ | dsimp only | split

theorem windowClose_inv (k : WindowKey) (s : State) (hg : Kept Q O N s) : Kept Q O N (windowClose k s) := by
  unfold windowClose
  try dsimp only
  repeat' first
    | (with_reducible first
        | assumption | apply raise_inv | apply foldl_inv | apply foldl_inv_fst)
    | (show _ = _; rfl) | (refine time_keep (Q := Q) (O := O) (N := N) ?_ rfl rfl rfl rfl)
    | (simp only [kept_mk]; with_reducible refine keptAt ?_) | intro _ | dsimp only | split

theorem cvuSet_inv (u : Nat) (x : Cvu) (s : State) (hg : Kept Q O N s) : Kept Q O N (cvuSet u x s) := by
  unfold cvuSet
  try dsimp only
  repeat' first
    | (with_reducible first
        | assumption | apply foldl_inv | apply foldl_inv_fst)
    | (show _ = _; rfl) | (refine time_keep (Q := Q) (O := O) (N := N) ?_ rfl rfl rfl rfl)
    | (simp only [kept_mk]; with_reducible refine keptAt ?_) | intro _ | dsimp only | split

theorem cvuCtlWrite_inv (u : Nat) (v : W32) (s : State) (hg : Kept Q O N s) : Kept Q O N (cvuCtlWrite u v s) := by
  unfold cvuCtlWrite
  repeat' first
    | (with_reducible first
        | assumption | apply cvuSet_inv)
    | split

theorem cvuFeed_inv (u : Nat) (bs : List Byte) (s : State) (hg : Kept Q O N s) : Kept Q O N (cvuFeed u bs s) := by
  unfold cvuFeed
  repeat' first
    | (with_reducible first
        | assumption | apply cvuSet_inv)
    | split

theorem cvuAlarm_inv (u : Nat) (kind : Nat) (init : Nat) (prev : Nat) (new : Nat) (s : State) (hg : Kept Q O N s) :
    Kept Q O N (cvuAlarm u kind init prev new s) := by
  unfold cvuAlarm
  repeat' first
    | (with_reducible first
        | assumption | apply raiseMerged_inv)
    | split

theorem cvuAlive_inv (u : Nat) (init : Nat) (v : W32) (s : State) (hg : Kept Q O N s) : Kept Q O N (cvuAlive u init v s) := by
  unfold cvuAlive
  try dsimp only
  repeat' first
    | (with_reducible first
        | assumption | apply cvuSet_inv | apply cvuAlarm_inv | apply foldl_inv | apply foldl_inv_fst)
    | (show _ = _; rfl) | (refine time_keep (Q := Q) (O := O) (N := N) ?_ rfl rfl rfl rfl)
    | (simp only [kept_mk]; with_reducible refine keptAt ?_) | intro _ | dsimp only | split

theorem cvuTimeout_inv (u : Nat) (s : State) (hg : Kept Q O N s) : Kept Q O N (cvuTimeout u s) := by
  unfold cvuTimeout
  try dsimp only
  repeat' first
    | (with_reducible first
        | assumption | apply cvuAlarm_inv | apply cvuSet_inv | apply foldl_inv | apply foldl_inv_fst)
    | (show _ = _; rfl) | (refine time_keep (Q := Q) (O := O) (N := N) ?_ rfl rfl rfl rfl)
    | (simp only [kept_mk]; with_reducible refine keptAt ?_) | intro _ | dsimp only | split

theorem cvuClear_inv (off : Nat) (lo : Nat) (s : State) (hg : Kept Q O N s) : Kept Q O N (cvuClear off lo s) := by
  unfold cvuClear
  repeat' first
    | (with_reducible first
        | assumption | apply cvuSet_inv)
    | split

theorem evClear_inv (off : Nat) (s : State) (hg : Kept Q O N s) : Kept Q O N (evClear off s) := by
  unfold evClear
  try dsimp only
  repeat' first
    | (with_reducible first
        | assumption | apply foldl_inv | apply foldl_inv_fst)
    | (show _ = _; rfl) | (refine time_keep (Q := Q) (O := O) (N := N) ?_ rfl rfl rfl rfl)
    | (simp only [kept_mk]; with_reducible refine keptAt ?_) | intro _ | dsimp only | split

theorem opNop_inv (x0 : Cmd) (s : State) (hg : Kept Q O N s) : Kept Q O N (opNop x0 s).1 := by
  unfold opNop
  repeat' first
    | (with_reducible first
        | assumption)
    | split

theorem opEventMaskSet_inv (c : Cmd) (s : State) (hg : Kept Q O N s) : Kept Q O N (opEventMaskSet c s).1 := by
  unfold opEventMaskSet
  try dsimp only
  repeat' first
    | (with_reducible first
        | assumption | apply checked_inv | apply foldl_inv | apply foldl_inv_fst)
    | (show _ = _; rfl) | (refine time_keep (Q := Q) (O := O) (N := N) ?_ rfl rfl rfl rfl)
    | (simp only [kept_mk]; with_reducible refine keptAt ?_) | intro _ | dsimp only | split

theorem opPf1LimitsSet_inv (c : Cmd) (s : State) (hg : Kept Q O N s) : Kept Q O N (opPf1LimitsSet c s).1 := by
  unfold opPf1LimitsSet
  try dsimp only
  repeat' first
    | (with_reducible first
        | assumption | apply checked_inv | apply foldl_inv | apply foldl_inv_fst)
    | (show _ = _; rfl) | (refine time_keep (Q := Q) (O := O) (N := N) ?_ rfl rfl rfl rfl)
    | (simp only [kept_mk]; with_reducible refine keptAt ?_) | intro _ | dsimp only | split

theorem opSelftest_inv (c : Cmd) (s : State) (hg : Kept Q O N s) : Kept Q O N (opSelftest c s).1 := by
  unfold opSelftest
  try dsimp only
  repeat' first
    | (with_reducible first
        | assumption | apply checked_inv | apply foldl_inv | apply foldl_inv_fst)
    | (show _ = _; rfl) | (refine time_keep (Q := Q) (O := O) (N := N) ?_ rfl rfl rfl rfl)
    | (simp only [kept_mk]; with_reducible refine keptAt ?_) | intro _ | dsimp only | split

theorem selftestEnd_inv (failed : W32) (s : State) (hg : Kept Q O N s) : Kept Q O N (selftestEnd failed s) := by
  unfold selftestEnd
  repeat' first
    | (with_reducible first
        | assumption | apply completeOutst_inv)
    | split

theorem unknownOpcode_inv (opcode : Nat) (c : Cmd) (s : State) (hg : Kept Q O N s) : Kept Q O N (unknownOpcode opcode c s) := by
  unfold unknownOpcode
  repeat' first
    | (with_reducible first
        | assumption | apply hostCommand_inv | apply opNop_inv)
    | split

theorem laneUpd_inv (i : Nat) (f : Lane → Lane) (s : State) (hg : Kept Q O N s) : Kept Q O N (laneUpd i f s) := by
  unfold laneUpd
  try dsimp only
  repeat' first
    | (with_reducible first
        | assumption | apply foldl_inv | apply foldl_inv_fst)
    | (show _ = _; rfl) | (refine time_keep (Q := Q) (O := O) (N := N) ?_ rfl rfl rfl rfl)
    | (simp only [kept_mk]; with_reducible refine keptAt ?_) | intro _ | dsimp only | split

theorem laneEvent_inv (i : Nat) (old : Nat) (cause : Nat) (micros : Nat) (s : State) (hg : Kept Q O N s) :
    Kept Q O N (laneEvent i old cause micros s) := by
  unfold laneEvent
  repeat' first
    | (with_reducible first
        | assumption | apply raise_inv)
    | split

theorem laneEnter_inv (ovl : Nat) (cause : Nat) (i : Nat) (s : State) (hg : Kept Q O N s) :
    Kept Q O N (laneEnter ovl cause i s) := by
  unfold laneEnter
  repeat' first
    | (with_reducible first
        | assumption | apply laneEvent_inv | apply laneUpd_inv)
    | split

theorem laneLeave_inv (cause : Nat) (i : Nat) (s : State) (hg : Kept Q O N s) : Kept Q O N (laneLeave cause i s) := by
  unfold laneLeave
  repeat' first
    | (with_reducible first
        | assumption | apply laneEvent_inv | apply laneUpd_inv)
    | split

theorem laneEnable_inv (is : List Nat) (target : Nat) (arg : List Nat) (work : State → State × Reply) (s : State)
    (hw : ∀ u, Kept Q O N u → Kept Q O N (work u).1) (hg : Kept Q O N s) : Kept Q O N (laneEnable is target arg work s).1 := by
  unfold laneEnable
  try dsimp only
  repeat' first
    | (with_reducible first
        | assumption | apply laneEnter_inv | apply hw | apply foldl_inv | apply foldl_inv_fst)
    | (show _ = _; rfl) | (refine time_keep (Q := Q) (O := O) (N := N) ?_ rfl rfl rfl rfl)
    | (simp only [kept_mk]; with_reducible refine keptAt ?_) | intro _ | dsimp only | split

theorem lnClear_inv (off : Nat) (s : State) (hg : Kept Q O N s) : Kept Q O N (lnClear off s) := by
  unfold lnClear
  repeat' first
    | (with_reducible first
        | assumption | apply laneUpd_inv)
    | split

theorem withNet_inv (s : State) (u : NetUnit) (hg : Kept Q O N s) : Kept Q O N (withNet s u) := by
  unfold withNet
  try dsimp only
  repeat' first
    | (with_reducible first
        | assumption | apply foldl_inv | apply foldl_inv_fst)
    | (show _ = _; rfl) | (refine time_keep (Q := Q) (O := O) (N := N) ?_ rfl rfl rfl rfl)
    | (simp only [kept_mk]; with_reducible refine keptAt ?_) | intro _ | dsimp only | split

theorem netUpd_inv (p : Nat) (f : NetPort → NetPort) (s : State) (hg : Kept Q O N s) : Kept Q O N (netUpd p f s) := by
  unfold netUpd
  repeat' first
    | (with_reducible first
        | assumption | apply withNet_inv)
    | split

theorem netCount_inv (p : Nat) (k : Nat) (s : State) (hg : Kept Q O N s) : Kept Q O N (netCount p k s) := by
  unfold netCount
  repeat' first
    | (with_reducible first
        | assumption | apply netUpd_inv)
    | split

theorem classSet_inv (k : Nat) (x : PktClass) (s : State) (hg : Kept Q O N s) : Kept Q O N (classSet k x s) := by
  unfold classSet
  repeat' first
    | (with_reducible first
        | assumption | apply withNet_inv)
    | split

theorem classDrop_inv (k : Nat) (cause : Nat) (s : State) (hg : Kept Q O N s) : Kept Q O N (classDrop k cause s) := by
  unfold classDrop
  try dsimp only
  repeat' first
    | (with_reducible first
        | assumption | apply classSet_inv | apply raise_inv | apply foldl_inv | apply foldl_inv_fst
        | apply foldl_inv_snd | apply foldl_inv_snd2)
    | (show _ = _; rfl) | (refine time_keep (Q := Q) (O := O) (N := N) ?_ rfl rfl rfl rfl)
    | (simp only [kept_mk]; with_reducible refine keptAt ?_) | intro _ | dsimp only
    | (refine pair_inv (by with_reducible assumption) ?_) | (refine pair_inv2 (by with_reducible assumption) ?_)
    | (refine pair_inv3 (by with_reducible assumption) ?_) | (refine pair_inv5 (by with_reducible assumption) ?_)
    | split

theorem pktinPut_inv (fn : Nat) (r : Nat) (port : Nat) (k : Nat) (f : EthFrame) (n : Nat) (lost : Nat) (s : State) (j : Nat)
 (hg : Kept Q O N s) : Kept Q O N (pktinPut fn r port k f n lost s j) := by
  unfold pktinPut
  repeat' first
    | (with_reducible first
        | assumption | apply ringPut_inv | apply send_inv)
    | split

theorem classDeliver_inv (port : Nat) (k : Nat) (f : EthFrame) (s : State) (hg : Kept Q O N s) :
    Kept Q O N (classDeliver port k f s) := by
  unfold classDeliver
  try dsimp only
  repeat' first
    | (with_reducible first
        | assumption | apply classSet_inv | apply classDrop_inv | apply ringSet_inv | apply pktinPut_inv
        | apply foldl_inv | apply foldl_inv_fst)
    | (show _ = _; rfl) | (refine time_keep (Q := Q) (O := O) (N := N) ?_ rfl rfl rfl rfl)
    | (simp only [kept_mk]; with_reducible refine keptAt ?_) | intro _ | dsimp only | split

theorem opPktinClassSet_inv (c : Cmd) (s : State) (hg : Kept Q O N s) : Kept Q O N (opPktinClassSet c s).1 := by
  unfold opPktinClassSet
  try dsimp only
  repeat' first
    | (with_reducible first
        | assumption | apply checked_inv | apply classSet_inv | apply foldl_inv | apply foldl_inv_fst
        | apply foldl_inv_snd | apply foldl_inv_snd2)
    | (show _ = _; rfl) | (refine time_keep (Q := Q) (O := O) (N := N) ?_ rfl rfl rfl rfl)
    | (simp only [kept_mk]; with_reducible refine keptAt ?_) | intro _ | dsimp only
    | (refine pair_inv (by with_reducible assumption) ?_) | (refine pair_inv2 (by with_reducible assumption) ?_)
    | (refine pair_inv3 (by with_reducible assumption) ?_) | (refine pair_inv5 (by with_reducible assumption) ?_)
    | split

theorem opNetFilterSet_inv (c : Cmd) (s : State) (hg : Kept Q O N s) : Kept Q O N (opNetFilterSet c s).1 := by
  unfold opNetFilterSet
  repeat' first
    | (with_reducible first
        | assumption | apply checked_inv | apply netUpd_inv)
    | split

theorem packetOutTake_inv (fn : Nat) (ring : Nat) (d : Option PacketOut) (s : State) (hg : Kept Q O N s) :
    Kept Q O N (packetOutTake fn ring d s) := by
  unfold packetOutTake
  try dsimp only
  repeat' first
    | (with_reducible first
        | assumption | apply ringStop_inv | apply ringSet_inv | apply ringWrite_inv | apply notPermitted_inv | apply withNet_inv
        | apply foldl_inv | apply foldl_inv_fst)
    | (show _ = _; rfl) | (refine time_keep (Q := Q) (O := O) (N := N) ?_ rfl rfl rfl rfl)
    | (simp only [kept_mk]; with_reducible refine keptAt ?_) | intro _ | dsimp only | split

theorem frameTransmit_inv (port : Nat) (stamp : StampNs) (s : State) (hg : Kept Q O N s) : Kept Q O N (frameTransmit port stamp s) := by
  unfold frameTransmit
  try dsimp only
  repeat' first
    | (with_reducible first
        | assumption | apply send_inv | apply txqPush_inv | apply foldl_inv | apply foldl_inv_fst
        | apply foldl_inv_snd | apply foldl_inv_snd2)
    | (show _ = _; rfl) | (refine time_keep (Q := Q) (O := O) (N := N) ?_ rfl rfl rfl rfl)
    | (simp only [kept_mk]; with_reducible refine keptAt ?_) | intro _ | dsimp only
    | (refine pair_inv (by with_reducible assumption) ?_) | (refine pair_inv2 (by with_reducible assumption) ?_)
    | (refine pair_inv3 (by with_reducible assumption) ?_) | (refine pair_inv5 (by with_reducible assumption) ?_)
    | split

theorem pathSet_inv (k : Nat) (path : Nat) (up : Bool) (s : State) (hg : Kept Q O N s) : Kept Q O N (pathSet k path up s) := by
  unfold pathSet
  try dsimp only
  repeat' first
    | (with_reducible first
        | assumption | apply raise_inv | apply strSet_inv | apply foldl_inv | apply foldl_inv_fst)
    | (show _ = _; rfl) | (refine time_keep (Q := Q) (O := O) (N := N) ?_ rfl rfl rfl rfl)
    | (simp only [kept_mk]; with_reducible refine keptAt ?_) | intro _ | dsimp only | split

theorem frameDrop_inv (k : Nat) (cause : Nat) (num : Nat) (s : State) (hg : Kept Q O N s) :
    Kept Q O N (frameDrop k cause num s) := by
  unfold frameDrop
  repeat' first
    | (with_reducible first
        | assumption | apply raise_inv)
    | split

theorem refreshWanted_inv (k : Nat) (s : State) (hg : Kept Q O N s) : Kept Q O N (refreshWanted k s) := by
  unfold refreshWanted
  repeat' first
    | (with_reducible first
        | assumption | apply raise_inv)
    | split

theorem backlog_inv (k : Nat) (s : State) (hg : Kept Q O N s) : Kept Q O N (backlog k s) := by
  unfold backlog
  try dsimp only
  repeat' first
    | (with_reducible first
        | assumption | apply strUpd_inv | apply refreshWanted_inv | apply raise_inv | apply foldl_inv
        | apply foldl_inv_fst)
    | (show _ = _; rfl) | (refine time_keep (Q := Q) (O := O) (N := N) ?_ rfl rfl rfl rfl)
    | (simp only [kept_mk]; with_reducible refine keptAt ?_) | intro _ | dsimp only | split

theorem closeCoded_inv (k : Nat) (u : OpenUnit) (degraded : Bool) (s : State) (hg : Kept Q O N s) : Kept Q O N
    (closeCoded k u degraded s) := by
  unfold closeCoded
  try dsimp only
  repeat' first
    | (with_reducible first
        | assumption | apply frameDrop_inv | apply auWait_inv | apply backlog_inv | apply strUpd_inv
        | apply foldl_inv | apply foldl_inv_fst | apply foldl_inv_snd | apply foldl_inv_snd2)
    | (show _ = _; rfl) | (refine time_keep (Q := Q) (O := O) (N := N) ?_ rfl rfl rfl rfl)
    | (simp only [kept_mk]; with_reducible refine keptAt ?_) | intro _ | dsimp only
    | (refine pair_inv (by with_reducible assumption) ?_) | (refine pair_inv2 (by with_reducible assumption) ?_)
    | (refine pair_inv3 (by with_reducible assumption) ?_) | (refine pair_inv5 (by with_reducible assumption) ?_)
    | split

theorem prevStitch_inv (stage : Nat) (us : List StageFault) (init : Nat) (port : Nat) (k : Nat) (prev : Option SrcFrame) (fmt : Nat)
    (w : Nat) (h : Nat) (sx : Nat) (sy : Nat) (s : State) (hg : Kept Q O N s) : Kept Q O N
    (prevStitch stage us init port k prev fmt w h sx sy s).2 := by
  unfold prevStitch
  try dsimp only
  repeat' first
    | (with_reducible first
        | assumption | apply fetchStitch_inv | apply foldl_inv | apply foldl_inv_fst | apply foldl_inv_snd
        | apply foldl_inv_snd2)
    | (show _ = _; rfl) | (refine time_keep (Q := Q) (O := O) (N := N) ?_ rfl rfl rfl rfl)
    | (simp only [kept_mk]; with_reducible refine keptAt ?_) | intro _ | dsimp only
    | (refine pair_inv (by with_reducible assumption) ?_) | (refine pair_inv2 (by with_reducible assumption) ?_)
    | (refine pair_inv3 (by with_reducible assumption) ?_) | (refine pair_inv5 (by with_reducible assumption) ?_)
    | split

theorem closeStitches_inv (us : List StageFault) (k : Nat) (u : OpenUnit) (prev : Option SrcFrame) (fmt : Nat) (w : Nat) (h : Nat)
    (x7 : List (Nat × Nat)) (x8 : State) (hg : Kept Q O N x8) : Kept Q O N (closeStitches us k u prev fmt w h x7 x8).2.2 := by
  induction x7 generalizing x8 with
  | nil =>
    unfold closeStitches
    try dsimp only
    repeat' first
      | (with_reducible first
          | assumption | apply prevStitch_inv | apply foldl_inv | apply foldl_inv_fst | apply foldl_inv_snd
          | apply foldl_inv_snd2)
      | (show _ = _; rfl) | (refine time_keep (Q := Q) (O := O) (N := N) ?_ rfl rfl rfl rfl)
      | (simp only [kept_mk]; with_reducible refine keptAt ?_) | intro _ | dsimp only
      | (refine pair_inv (by with_reducible assumption) ?_) | (refine pair_inv2 (by with_reducible assumption) ?_)
      | (refine pair_inv3 (by with_reducible assumption) ?_) | (refine pair_inv5 (by with_reducible assumption) ?_)
      | split
  | cons _ _ ih =>
    unfold closeStitches
    try dsimp only
    repeat' first
      | (with_reducible first
          | assumption | apply ih | apply prevStitch_inv | apply foldl_inv | apply foldl_inv_fst | apply foldl_inv_snd
          | apply foldl_inv_snd2)
      | (show _ = _; rfl) | (refine time_keep (Q := Q) (O := O) (N := N) ?_ rfl rfl rfl rfl)
      | (simp only [kept_mk]; with_reducible refine keptAt ?_) | intro _ | dsimp only
      | (refine pair_inv (by with_reducible assumption) ?_) | (refine pair_inv2 (by with_reducible assumption) ?_)
      | (refine pair_inv3 (by with_reducible assumption) ?_) | (refine pair_inv5 (by with_reducible assumption) ?_)
      | split

theorem closeRows_inv (k : Nat) (u : OpenUnit) (degraded : Bool) (s : State) (hg : Kept Q O N s) : Kept Q O N
    (closeRows k u degraded s) := by
  unfold closeRows
  try dsimp only
  repeat' first
    | (with_reducible first
        | assumption | apply closeStitches_inv | apply withStr_inv | apply custodyReport_inv
        | apply acceptFrame_inv | apply foldl_inv | apply foldl_inv_fst | apply foldl_inv_snd
        | apply foldl_inv_snd2)
    | (show _ = _; rfl) | (refine time_keep (Q := Q) (O := O) (N := N) ?_ rfl rfl rfl rfl)
    | (simp only [kept_mk]; with_reducible refine keptAt ?_) | intro _ | dsimp only
    | (refine pair_inv (by with_reducible assumption) ?_) | (refine pair_inv2 (by with_reducible assumption) ?_)
    | (refine pair_inv3 (by with_reducible assumption) ?_) | (refine pair_inv5 (by with_reducible assumption) ?_)
    | split

theorem pathLoss_inv (k : Nat) (path : Nat) (s : State) (hg : Kept Q O N s) : Kept Q O N (pathLoss k path s) := by
  unfold pathLoss
  try dsimp only
  repeat' first
    | (with_reducible first
        | assumption | apply pathSet_inv | apply foldl_inv | apply foldl_inv_fst)
    | (show _ = _; rfl) | (refine time_keep (Q := Q) (O := O) (N := N) ?_ rfl rfl rfl rfl)
    | (simp only [kept_mk]; with_reducible refine keptAt ?_) | intro _ | dsimp only | split

theorem closeUnit_inv (k : Nat) (u : OpenUnit) (s : State) (hg : Kept Q O N s) : Kept Q O N (closeUnit k u s) := by
  unfold closeUnit
  try dsimp only
  repeat' first
    | (with_reducible first
        | assumption | apply pathLoss_inv | apply strUpd_inv | apply closeRows_inv | apply closeCoded_inv | apply foldl_inv
        | apply foldl_inv_fst)
    | (show _ = _; rfl) | (refine time_keep (Q := Q) (O := O) (N := N) ?_ rfl rfl rfl rfl)
    | (simp only [kept_mk]; with_reducible refine keptAt ?_) | intro _ | dsimp only | split

theorem closeNext_inv (k : Nat) (x1 : Nat) (x2 : State) (hg : Kept Q O N x2) : Kept Q O N (closeNext k x1 x2) := by
  induction x1 generalizing x2 with
  | zero =>
    unfold closeNext
    try dsimp only
    repeat' first
      | (with_reducible first
          | assumption | apply closeUnit_inv | apply foldl_inv | apply foldl_inv_fst | apply foldl_inv_snd
          | apply foldl_inv_snd2)
      | (show _ = _; rfl) | (refine time_keep (Q := Q) (O := O) (N := N) ?_ rfl rfl rfl rfl)
      | (simp only [kept_mk]; with_reducible refine keptAt ?_) | intro _ | dsimp only
      | (refine pair_inv (by with_reducible assumption) ?_) | (refine pair_inv2 (by with_reducible assumption) ?_)
      | (refine pair_inv3 (by with_reducible assumption) ?_) | (refine pair_inv5 (by with_reducible assumption) ?_)
      | split
  | succ _ ih =>
    unfold closeNext
    try dsimp only
    repeat' first
      | (with_reducible first
          | assumption | apply ih | apply closeUnit_inv | apply foldl_inv | apply foldl_inv_fst | apply foldl_inv_snd
          | apply foldl_inv_snd2)
      | (show _ = _; rfl) | (refine time_keep (Q := Q) (O := O) (N := N) ?_ rfl rfl rfl rfl)
      | (simp only [kept_mk]; with_reducible refine keptAt ?_) | intro _ | dsimp only
      | (refine pair_inv (by with_reducible assumption) ?_) | (refine pair_inv2 (by with_reducible assumption) ?_)
      | (refine pair_inv3 (by with_reducible assumption) ?_) | (refine pair_inv5 (by with_reducible assumption) ?_)
      | split

theorem closeWhere_inv (k : Nat) (p : OpenUnit → Bool) (s : State) (hg : Kept Q O N s) : Kept Q O N (closeWhere k p s) := by
  unfold closeWhere
  try dsimp only
  repeat' first
    | (with_reducible first
        | assumption | apply closeNext_inv | apply closeUnit_inv | apply foldl_inv | apply foldl_inv_fst
        | apply foldl_inv_snd | apply foldl_inv_snd2)
    | (show _ = _; rfl) | (refine time_keep (Q := Q) (O := O) (N := N) ?_ rfl rfl rfl rfl)
    | (simp only [kept_mk]; with_reducible refine keptAt ?_) | intro _ | dsimp only
    | (refine pair_inv (by with_reducible assumption) ?_) | (refine pair_inv2 (by with_reducible assumption) ?_)
    | (refine pair_inv3 (by with_reducible assumption) ?_) | (refine pair_inv5 (by with_reducible assumption) ?_)
    | split

theorem closeAll_inv (k : Nat) (s : State) (hg : Kept Q O N s) : Kept Q O N (closeAll k s) := by
  unfold closeAll
  repeat' first
    | (with_reducible first
        | assumption | apply closeWhere_inv)
    | split

theorem auTimeout_inv (k : Nat) (s : State) (hg : Kept Q O N s) : Kept Q O N (auTimeout k s) := by
  unfold auTimeout
  try dsimp only
  repeat' first
    | (with_reducible first
        | assumption | apply closeWhere_inv | apply foldl_inv | apply foldl_inv_fst)
    | (show _ = _; rfl) | (refine time_keep (Q := Q) (O := O) (N := N) ?_ rfl rfl rfl rfl)
    | (simp only [kept_mk]; with_reducible refine keptAt ?_) | intro _ | dsimp only | split

theorem windowTimeout_inv (k : Nat) (s : State) (hg : Kept Q O N s) : Kept Q O N (windowTimeout k s) := by
  unfold windowTimeout
  try dsimp only
  repeat' first
    | (with_reducible first
        | assumption | apply closeWhere_inv | apply foldl_inv | apply foldl_inv_fst | apply foldl_inv_snd
        | apply foldl_inv_snd2)
    | (show _ = _; rfl) | (refine time_keep (Q := Q) (O := O) (N := N) ?_ rfl rfl rfl rfl)
    | (simp only [kept_mk]; with_reducible refine keptAt ?_) | intro _ | dsimp only
    | (refine pair_inv (by with_reducible assumption) ?_) | (refine pair_inv2 (by with_reducible assumption) ?_)
    | (refine pair_inv3 (by with_reducible assumption) ?_) | (refine pair_inv5 (by with_reducible assumption) ?_)
    | split

theorem openUnit_inv (k : Nat) (h : RtpPkt) (arrival : Nat) (s : State) (hg : Kept Q O N s) : Kept Q O N (openUnit k h arrival s) := by
  unfold openUnit
  try dsimp only
  repeat' first
    | (with_reducible first
        | assumption | apply boundary_inv | apply strSet_inv | apply frameDrop_inv | apply foldl_inv
        | apply foldl_inv_fst | apply foldl_inv_snd | apply foldl_inv_snd2)
    | (show _ = _; rfl) | (refine time_keep (Q := Q) (O := O) (N := N) ?_ rfl rfl rfl rfl)
    | (simp only [kept_mk]; with_reducible refine keptAt ?_) | intro _ | dsimp only
    | (refine pair_inv (by with_reducible assumption) ?_) | (refine pair_inv2 (by with_reducible assumption) ?_)
    | (refine pair_inv3 (by with_reducible assumption) ?_) | (refine pair_inv5 (by with_reducible assumption) ?_)
    | split

theorem flowFmtErr_inv (n : Nat) (s : State) (hg : Kept Q O N s) : Kept Q O N (flowFmtErr n s) := by
  unfold flowFmtErr
  repeat' first
    | (with_reducible first
        | assumption | apply withNet_inv)
    | split

theorem pathWhole_inv (k : Nat) (path : Nat) (u : OpenUnit) (s : State) (hg : Kept Q O N s) : Kept Q O N (pathWhole k path u s) := by
  unfold pathWhole
  repeat' first
    | (with_reducible first
        | assumption | apply pathSet_inv)
    | intro _ | dsimp only | split

theorem unitSettle_inv (k : Nat) (path : Nat) (ts : W32) (s : State) (hg : Kept Q O N s) : Kept Q O N (unitSettle k path ts s) := by
  unfold unitSettle
  try dsimp only
  repeat' first
    | (with_reducible first
        | assumption | apply pathWhole_inv | apply closeNext_inv | apply closeUnit_inv | apply foldl_inv
        | apply foldl_inv_fst | apply foldl_inv_snd | apply foldl_inv_snd2)
    | (show _ = _; rfl) | (refine time_keep (Q := Q) (O := O) (N := N) ?_ rfl rfl rfl rfl)
    | (simp only [kept_mk]; with_reducible refine keptAt ?_) | intro _ | dsimp only
    | (refine pair_inv (by with_reducible assumption) ?_) | (refine pair_inv2 (by with_reducible assumption) ?_)
    | (refine pair_inv3 (by with_reducible assumption) ?_) | (refine pair_inv5 (by with_reducible assumption) ?_)
    | split

theorem lateAdd_inv (port k path seq : Nat) (h : RtpPkt) (c : OpenUnit) (s : State) (hg : Kept Q O N s) :
    Kept Q O N (lateAdd port k path seq h c s) := by
  unfold lateAdd
  repeat' first
    | (with_reducible first
        | assumption | apply pathWhole_inv | apply strUpd_inv | apply netCount_inv)
    | intro _ | dsimp only | split

theorem unitTake_inv (port : Nat) (k : Nat) (path : Nat) (seq : Nat) (h : RtpPkt) (now : Nat) (s : State) (hg : Kept Q O N s) : Kept Q O N
    (unitTake port k path seq h now s) := by
  unfold unitTake
  try dsimp only
  repeat' first
    | (with_reducible first
        | assumption | apply unitSettle_inv | apply strUpd_inv | apply foldl_inv | apply foldl_inv_fst
        | apply foldl_inv_snd | apply foldl_inv_snd2)
    | (show _ = _; rfl) | (refine time_keep (Q := Q) (O := O) (N := N) ?_ rfl rfl rfl rfl)
    | (simp only [kept_mk]; with_reducible refine keptAt ?_) | intro _ | dsimp only
    | (refine pair_inv (by with_reducible assumption) ?_) | (refine pair_inv2 (by with_reducible assumption) ?_)
    | (refine pair_inv3 (by with_reducible assumption) ?_) | (refine pair_inv5 (by with_reducible assumption) ?_)
    | split

theorem videoPacket_inv (port : Nat) (n : Nat) (flow : Flow) (h : RtpPkt) (arrival : Nat) (s : State) (hg : Kept Q O N s) : Kept Q O N
    (videoPacket port n flow h arrival s) := by
  unfold videoPacket
  try dsimp only
  repeat' first
    | (with_reducible first
        | assumption | apply flowFmtErr_inv | apply strUpd_inv | apply lateAdd_inv | apply unitTake_inv
        | apply openUnit_inv | apply netCount_inv | apply foldl_inv | apply foldl_inv_fst | apply foldl_inv_snd
        | apply foldl_inv_snd2)
    | (show _ = _; rfl) | (refine time_keep (Q := Q) (O := O) (N := N) ?_ rfl rfl rfl rfl)
    | (simp only [kept_mk]; with_reducible refine keptAt ?_) | intro _ | dsimp only
    | (refine pair_inv (by with_reducible assumption) ?_) | (refine pair_inv2 (by with_reducible assumption) ?_)
    | (refine pair_inv3 (by with_reducible assumption) ?_) | (refine pair_inv5 (by with_reducible assumption) ?_)
    | split

theorem hostFrame_inv (port : Nat) (f : EthFrame) (s : State) (hg : Kept Q O N s) : Kept Q O N (hostFrame port f s) := by
  unfold hostFrame
  try dsimp only
  repeat' first
    | (with_reducible first
        | assumption | apply classDeliver_inv | apply netCount_inv | apply foldl_inv | apply foldl_inv_fst
        | apply foldl_inv_snd | apply foldl_inv_snd2)
    | (show _ = _; rfl) | (refine time_keep (Q := Q) (O := O) (N := N) ?_ rfl rfl rfl rfl)
    | (simp only [kept_mk]; with_reducible refine keptAt ?_) | intro _ | dsimp only
    | (refine pair_inv (by with_reducible assumption) ?_) | (refine pair_inv2 (by with_reducible assumption) ?_)
    | (refine pair_inv3 (by with_reducible assumption) ?_) | (refine pair_inv5 (by with_reducible assumption) ?_)
    | split

theorem routeFrame_inv (port : Nat) (f : EthFrame) (s : State) (hg : Kept Q O N s) : Kept Q O N (routeFrame port f s) := by
  unfold routeFrame
  try dsimp only
  repeat' first
    | (with_reducible first
        | assumption | apply withNet_inv | apply classDeliver_inv | apply videoPacket_inv | apply flowFmtErr_inv
        | apply hostFrame_inv | apply foldl_inv | apply foldl_inv_fst | apply foldl_inv_snd | apply foldl_inv_snd2)
    | (show _ = _; rfl) | (refine time_keep (Q := Q) (O := O) (N := N) ?_ rfl rfl rfl rfl)
    | (simp only [kept_mk]; with_reducible refine keptAt ?_) | intro _ | dsimp only
    | (refine pair_inv (by with_reducible assumption) ?_) | (refine pair_inv2 (by with_reducible assumption) ?_)
    | (refine pair_inv3 (by with_reducible assumption) ?_) | (refine pair_inv5 (by with_reducible assumption) ?_)
    | split

theorem upsetsAdd_inv (us : List StageFault) (s : State) (hg : Kept Q O N s) : Kept Q O N (upsetsAdd us s) := by
  unfold upsetsAdd
  try dsimp only
  repeat' first
    | (with_reducible first
        | assumption | apply withStr_inv | apply foldl_inv | apply foldl_inv_fst | apply foldl_inv_snd
        | apply foldl_inv_snd2)
    | (show _ = _; rfl) | (refine time_keep (Q := Q) (O := O) (N := N) ?_ rfl rfl rfl rfl)
    | (simp only [kept_mk]; with_reducible refine keptAt ?_) | intro _ | dsimp only
    | (refine pair_inv (by with_reducible assumption) ?_) | (refine pair_inv2 (by with_reducible assumption) ?_)
    | (refine pair_inv3 (by with_reducible assumption) ?_) | (refine pair_inv5 (by with_reducible assumption) ?_)
    | split

theorem ethReceive_inv (port : Nat) (f : EthFrame) (s : State) (hg : Kept Q O N s) : Kept Q O N (ethReceive port f s) := by
  unfold ethReceive
  try dsimp only
  repeat' first
    | (with_reducible first
        | assumption | apply netCount_inv | apply raise_inv | apply upsetsAdd_inv | apply netUpd_inv
        | apply routeFrame_inv | apply foldl_inv | apply foldl_inv_fst | apply foldl_inv_snd | apply foldl_inv_snd2)
    | (show _ = _; rfl) | (refine time_keep (Q := Q) (O := O) (N := N) ?_ rfl rfl rfl rfl)
    | (simp only [kept_mk]; with_reducible refine keptAt ?_) | intro _ | dsimp only
    | (refine pair_inv (by with_reducible assumption) ?_) | (refine pair_inv2 (by with_reducible assumption) ?_)
    | (refine pair_inv3 (by with_reducible assumption) ?_) | (refine pair_inv5 (by with_reducible assumption) ?_)
    | split

theorem streamLinkDown_inv (port : Nat) (s : State) (k : Nat) (hg : Kept Q O N s) : Kept Q O N (streamLinkDown port s k) := by
  unfold streamLinkDown
  try dsimp only
  repeat' first
    | (with_reducible first
        | assumption | apply pathSet_inv | apply closeWhere_inv | apply foldl_inv | apply foldl_inv_fst
        | apply foldl_inv_snd | apply foldl_inv_snd2)
    | (show _ = _; rfl) | (refine time_keep (Q := Q) (O := O) (N := N) ?_ rfl rfl rfl rfl)
    | (simp only [kept_mk]; with_reducible refine keptAt ?_) | intro _ | dsimp only
    | (refine pair_inv (by with_reducible assumption) ?_) | (refine pair_inv2 (by with_reducible assumption) ?_)
    | (refine pair_inv3 (by with_reducible assumption) ?_) | (refine pair_inv5 (by with_reducible assumption) ?_)
    | split

theorem netLink_inv (port : Nat) (up : Bool) (s : State) (hg : Kept Q O N s) : Kept Q O N (netLink port up s) := by
  unfold netLink
  try dsimp only
  repeat' first
    | (with_reducible first
        | assumption | apply raise_inv | apply netUpd_inv | apply streamLinkDown_inv | apply foldl_inv
        | apply foldl_inv_fst)
    | (show _ = _; rfl) | (refine time_keep (Q := Q) (O := O) (N := N) ?_ rfl rfl rfl rfl)
    | (simp only [kept_mk]; with_reducible refine keptAt ?_) | intro _ | dsimp only | split

theorem statsStart_inv (p : Nat) (s : State) (hg : Kept Q O N s) : Kept Q O N (statsStart p s) := by
  unfold statsStart
  try dsimp only
  repeat' first
    | (with_reducible first
        | assumption | apply netUpd_inv | apply withNet_inv | apply foldl_inv | apply foldl_inv_fst
        | apply foldl_inv_snd | apply foldl_inv_snd2)
    | (show _ = _; rfl) | (refine time_keep (Q := Q) (O := O) (N := N) ?_ rfl rfl rfl rfl)
    | (simp only [kept_mk]; with_reducible refine keptAt ?_) | intro _ | dsimp only
    | (refine pair_inv (by with_reducible assumption) ?_) | (refine pair_inv2 (by with_reducible assumption) ?_)
    | (refine pair_inv3 (by with_reducible assumption) ?_) | (refine pair_inv5 (by with_reducible assumption) ?_)
    | split

theorem portSet_inv (p : Nat) (en : Bool) (phy : Nat) (fec : Nat) (s : State) (hg : Kept Q O N s) : Kept Q O N
    (portSet p en phy fec s) := by
  unfold portSet
  try dsimp only
  repeat' first
    | (with_reducible first
        | assumption | apply statsStart_inv | apply netUpd_inv | apply netLink_inv | apply foldl_inv
        | apply foldl_inv_fst | apply foldl_inv_snd | apply foldl_inv_snd2)
    | (show _ = _; rfl) | (refine time_keep (Q := Q) (O := O) (N := N) ?_ rfl rfl rfl rfl)
    | (simp only [kept_mk]; with_reducible refine keptAt ?_) | intro _ | dsimp only
    | (refine pair_inv (by with_reducible assumption) ?_) | (refine pair_inv2 (by with_reducible assumption) ?_)
    | (refine pair_inv3 (by with_reducible assumption) ?_) | (refine pair_inv5 (by with_reducible assumption) ?_)
    | split

theorem portApply_inv (w2 : W32) (w3 : W32) (s : State) (hg : Kept Q O N s) : Kept Q O N (portApply w2 w3 s) := by
  unfold portApply
  repeat' first
    | (with_reducible first
        | assumption | apply withNet_inv | apply portSet_inv)
    | split

theorem opNetPortSet_inv (c : Cmd) (s : State) (hg : Kept Q O N s) : Kept Q O N (opNetPortSet c s).1 := by
  unfold opNetPortSet
  try dsimp only
  repeat' first
    | (with_reducible first
        | assumption | apply checked_inv | apply laneEnable_inv | apply portApply_inv | apply foldl_inv
        | apply foldl_inv_fst)
    | (show _ = _; rfl) | (refine time_keep (Q := Q) (O := O) (N := N) ?_ rfl rfl rfl rfl)
    | (simp only [kept_mk]; with_reducible refine keptAt ?_) | intro _ | dsimp only | split

theorem flowMoved_inv (old : Option Flow) (s : State) (hg : Kept Q O N s) : Kept Q O N (flowMoved old s) := by
  unfold flowMoved
  try dsimp only
  repeat' first
    | (with_reducible first
        | assumption | apply pathSet_inv | apply closeAll_inv | apply foldl_inv | apply foldl_inv_fst)
    | (show _ = _; rfl) | (refine time_keep (Q := Q) (O := O) (N := N) ?_ rfl rfl rfl rfl)
    | (simp only [kept_mk]; with_reducible refine keptAt ?_) | intro _ | dsimp only | split

theorem opFlowSet_inv (c : Cmd) (s : State) (hg : Kept Q O N s) : Kept Q O N (opFlowSet c s).1 := by
  unfold opFlowSet
  try dsimp only
  repeat' first
    | (with_reducible first
        | assumption | apply checked_inv | apply flowMoved_inv | apply withNet_inv | apply settleMerge_inv
        | apply foldl_inv | apply foldl_inv_fst | apply foldl_inv_snd | apply foldl_inv_snd2)
    | (show _ = _; rfl) | (refine time_keep (Q := Q) (O := O) (N := N) ?_ rfl rfl rfl rfl)
    | (simp only [kept_mk]; with_reducible refine keptAt ?_) | intro _ | dsimp only
    | (refine pair_inv (by with_reducible assumption) ?_) | (refine pair_inv2 (by with_reducible assumption) ?_)
    | (refine pair_inv3 (by with_reducible assumption) ?_) | (refine pair_inv5 (by with_reducible assumption) ?_)
    | split

theorem opFlowClear_inv (c : Cmd) (s : State) (hg : Kept Q O N s) : Kept Q O N (opFlowClear c s).1 := by
  unfold opFlowClear
  try dsimp only
  repeat' first
    | (with_reducible first
        | assumption | apply checked_inv | apply flowMoved_inv | apply withNet_inv | apply settleMerge_inv
        | apply foldl_inv | apply foldl_inv_fst)
    | (show _ = _; rfl) | (refine time_keep (Q := Q) (O := O) (N := N) ?_ rfl rfl rfl rfl)
    | (simp only [kept_mk]; with_reducible refine keptAt ?_) | intro _ | dsimp only | split

theorem ingestStats_inv (port : Nat) (s : State) (hg : Kept Q O N s) : Kept Q O N (ingestStats port s) := by
  unfold ingestStats
  try dsimp only
  repeat' first
    | (with_reducible first
        | assumption | apply raise_inv | apply netUpd_inv | apply withNet_inv | apply foldl_inv
        | apply foldl_inv_fst)
    | (show _ = _; rfl) | (refine time_keep (Q := Q) (O := O) (N := N) ?_ rfl rfl rfl rfl)
    | (simp only [kept_mk]; with_reducible refine keptAt ?_) | intro _ | dsimp only | split

theorem bbUpd_inv (n : Nat) (f : BbIn → BbIn) (s : State) (hg : Kept Q O N s) : Kept Q O N (bbUpd n f s) := by
  unfold bbUpd
  repeat' first
    | (with_reducible first
        | assumption | apply bbSet_inv)
    | split

theorem opBbQuadSet_inv (c : Cmd) (s : State) (hg : Kept Q O N s) : Kept Q O N (opBbQuadSet c s).1 := by
  unfold opBbQuadSet
  try dsimp only
  repeat' first
    | (with_reducible first
        | assumption | apply checked_inv | apply bbSet_inv | apply foldl_inv | apply foldl_inv_fst)
    | (show _ = _; rfl) | (refine time_keep (Q := Q) (O := O) (N := N) ?_ rfl rfl rfl rfl)
    | (simp only [kept_mk]; with_reducible refine keptAt ?_) | intro _ | dsimp only | split

theorem opBbDpcdLoad_inv (c : Cmd) (s : State) (hg : Kept Q O N s) : Kept Q O N (opBbDpcdLoad c s).1 := by
  unfold opBbDpcdLoad
  try dsimp only
  repeat' first
    | (with_reducible first
        | assumption | apply checked_inv | apply foldl_inv | apply foldl_inv_fst)
    | (show _ = _; rfl) | (refine time_keep (Q := Q) (O := O) (N := N) ?_ rfl rfl rfl rfl)
    | (simp only [kept_mk]; with_reducible refine keptAt ?_) | intro _ | dsimp only | split

theorem dpcdLoaded_inv (n : Nat) (which : Nat) (crc : Nat) (image : List Byte) (s : State) (hg : Kept Q O N s) :
    Kept Q O N (dpcdLoaded n which crc image s).1 := by
  unfold dpcdLoaded
  repeat' first
    | (with_reducible first
        | assumption | apply checked_inv | apply bbUpd_inv)
    | split

theorem bbLink_inv (n : Nat) (st : Nat) (s : State) (hg : Kept Q O N s) : Kept Q O N (bbLink n st s) := by
  unfold bbLink
  repeat' first
    | (with_reducible first
        | assumption | apply raise_inv)
    | split

theorem bbEnd_inv (n : Nat) (s : State) (hg : Kept Q O N s) : Kept Q O N (bbEnd n s) := by
  unfold bbEnd
  repeat' first
    | (with_reducible first
        | assumption | apply inputLost_inv | apply bbLink_inv | apply bbUpd_inv)
    | split

theorem bbOn_inv (n : Nat) (s : State) (hg : Kept Q O N s) : Kept Q O N (bbOn n s) := by
  unfold bbOn
  repeat' first
    | (with_reducible first
        | assumption | apply bbUpd_inv)
    | split

theorem opBbEnable_inv (c : Cmd) (s : State) (hg : Kept Q O N s) : Kept Q O N (opBbEnable c s).1 := by
  unfold opBbEnable
  try dsimp only
  repeat' first
    | (with_reducible first
        | assumption | apply checked_inv | apply laneEnable_inv | apply bbOn_inv | apply foldl_inv
        | apply foldl_inv_fst)
    | (show _ = _; rfl) | (refine time_keep (Q := Q) (O := O) (N := N) ?_ rfl rfl rfl rfl)
    | (simp only [kept_mk]; with_reducible refine keptAt ?_) | intro _ | dsimp only | split

theorem opBbDisable_inv (c : Cmd) (s : State) (hg : Kept Q O N s) : Kept Q O N (opBbDisable c s).1 := by
  unfold opBbDisable
  try dsimp only
  repeat' first
    | (with_reducible first
        | assumption | apply checked_inv | apply bbUpd_inv | apply bbEnd_inv | apply foldl_inv
        | apply foldl_inv_fst)
    | (show _ = _; rfl) | (refine time_keep (Q := Q) (O := O) (N := N) ?_ rfl rfl rfl rfl)
    | (simp only [kept_mk]; with_reducible refine keptAt ?_) | intro _ | dsimp only | split

theorem dpcdByte_inv (lanes : Nat) (i : BbIn) (a : Nat) (s : State) (hg : Kept Q O N s) : Kept Q O N (dpcdByte lanes i a s).2 := by
  unfold dpcdByte
  try dsimp only
  repeat' first
    | (with_reducible first
        | assumption | apply takeFree_inv | apply foldl_inv | apply foldl_inv_fst | apply foldl_inv_snd
        | apply foldl_inv_snd2)
    | (show _ = _; rfl) | (refine time_keep (Q := Q) (O := O) (N := N) ?_ rfl rfl rfl rfl)
    | (simp only [kept_mk]; with_reducible refine keptAt ?_) | intro _ | dsimp only
    | (refine pair_inv (by with_reducible assumption) ?_) | (refine pair_inv2 (by with_reducible assumption) ?_)
    | (refine pair_inv3 (by with_reducible assumption) ?_) | (refine pair_inv5 (by with_reducible assumption) ?_)
    | split

theorem dpcdBytes_inv (lanes : Nat) (i : BbIn) (n a : Nat) (s : State) (h : Kept Q O N s) :
    Kept Q O N (dpcdBytes lanes i n a s).2 := by
  induction n generalizing a s with
  | zero => exact h
  | succ n ih => exact ih _ _ (dpcdByte_inv _ _ _ _ h)

theorem powerWrite_inv (n : Nat) (b : Byte) (s : State) (hg : Kept Q O N s) : Kept Q O N (powerWrite n b s) := by
  unfold powerWrite
  try dsimp only
  repeat' first
    | (with_reducible first
        | assumption | apply bbLink_inv | apply bbUpd_inv | apply foldl_inv | apply foldl_inv_fst)
    | (show _ = _; rfl) | (refine time_keep (Q := Q) (O := O) (N := N) ?_ rfl rfl rfl rfl)
    | (simp only [kept_mk]; with_reducible refine keptAt ?_) | intro _ | dsimp only | split

theorem i2cEnd_inv (n : Nat) (t : AuxTrans) (s : State) (hg : Kept Q O N s) : Kept Q O N (i2cEnd n t s) := by
  unfold i2cEnd
  try dsimp only
  repeat' first
    | (with_reducible first
        | assumption | apply bbUpd_inv | apply foldl_inv | apply foldl_inv_fst | apply foldl_inv_snd
        | apply foldl_inv_snd2)
    | (show _ = _; rfl) | (refine time_keep (Q := Q) (O := O) (N := N) ?_ rfl rfl rfl rfl)
    | (simp only [kept_mk]; with_reducible refine keptAt ?_) | intro _ | dsimp only
    | (refine pair_inv (by with_reducible assumption) ?_) | (refine pair_inv2 (by with_reducible assumption) ?_)
    | (refine pair_inv3 (by with_reducible assumption) ?_) | (refine pair_inv5 (by with_reducible assumption) ?_)
    | split

theorem bbAux_inv (n : Nat) (t : AuxTrans) (s : State) (hg : Kept Q O N s) : Kept Q O N (bbAux n t s) := by
  unfold bbAux
  try dsimp only
  repeat' first
    | (with_reducible first
        | assumption | apply bbUpd_inv | apply powerWrite_inv | apply send_inv | apply dpcdBytes_inv
        | apply i2cEnd_inv | apply foldl_inv | apply foldl_inv_fst | apply foldl_inv_snd | apply foldl_inv_snd2)
    | (show _ = _; rfl) | (refine time_keep (Q := Q) (O := O) (N := N) ?_ rfl rfl rfl rfl)
    | (simp only [kept_mk]; with_reducible refine keptAt ?_) | intro _ | dsimp only
    | (refine pair_inv (by with_reducible assumption) ?_) | (refine pair_inv2 (by with_reducible assumption) ?_)
    | (refine pair_inv3 (by with_reducible assumption) ?_) | (refine pair_inv5 (by with_reducible assumption) ?_)
    | split

theorem bbTrained_inv (n : Nat) (lanes : Nat) (rate : Nat) (s : State) (hg : Kept Q O N s) :
    Kept Q O N (bbTrained n lanes rate s) := by
  unfold bbTrained
  try dsimp only
  repeat' first
    | (with_reducible first
        | assumption | apply bbLink_inv | apply bbUpd_inv | apply tryWaiting_inv | apply foldl_inv
        | apply foldl_inv_fst)
    | (show _ = _; rfl) | (refine time_keep (Q := Q) (O := O) (N := N) ?_ rfl rfl rfl rfl)
    | (simp only [kept_mk]; with_reducible refine keptAt ?_) | intro _ | dsimp only | split

theorem bbLoss_inv (n : Nat) (lost : Bool) (s : State) (hg : Kept Q O N s) : Kept Q O N (bbLoss n lost s) := by
  unfold bbLoss
  try dsimp only
  repeat' first
    | (with_reducible first
        | assumption | apply send_inv | apply bbEnd_inv | apply bbLink_inv | apply foldl_inv | apply foldl_inv_fst
        | apply foldl_inv_snd | apply foldl_inv_snd2)
    | (show _ = _; rfl) | (refine time_keep (Q := Q) (O := O) (N := N) ?_ rfl rfl rfl rfl)
    | (simp only [kept_mk]; with_reducible refine keptAt ?_) | intro _ | dsimp only
    | (refine pair_inv (by with_reducible assumption) ?_) | (refine pair_inv2 (by with_reducible assumption) ?_)
    | (refine pair_inv3 (by with_reducible assumption) ?_) | (refine pair_inv5 (by with_reducible assumption) ?_)
    | split

theorem formatEvent_inv (n : Nat) (bad : Bool) (f : BbFrame) (s : State) (hg : Kept Q O N s) :
    Kept Q O N (formatEvent n bad f s) := by
  unfold formatEvent
  repeat' first
    | (with_reducible first
        | assumption | apply raise_inv | apply bbUpd_inv)
    | split

theorem bbStitches_inv (k : Nat) (f : BbFrame) (prev : Option SrcFrame) (due : Nat → Nat → Nat) (x4 : List (Nat × Nat)) (x5 : State)
    (hg : Kept Q O N x5) : Kept Q O N (bbStitches k f prev due x4 x5).2.2 := by
  induction x4 generalizing x5 with
  | nil =>
    unfold bbStitches
    try dsimp only
    repeat' first
      | (with_reducible first
          | assumption | apply prevStitch_inv | apply foldl_inv | apply foldl_inv_fst | apply foldl_inv_snd
          | apply foldl_inv_snd2)
      | (show _ = _; rfl) | (refine time_keep (Q := Q) (O := O) (N := N) ?_ rfl rfl rfl rfl)
      | (simp only [kept_mk]; with_reducible refine keptAt ?_) | intro _ | dsimp only
      | (refine pair_inv (by with_reducible assumption) ?_) | (refine pair_inv2 (by with_reducible assumption) ?_)
      | (refine pair_inv3 (by with_reducible assumption) ?_) | (refine pair_inv5 (by with_reducible assumption) ?_)
      | split
  | cons _ _ ih =>
    unfold bbStitches
    try dsimp only
    repeat' first
      | (with_reducible first
          | assumption | apply ih | apply prevStitch_inv | apply foldl_inv | apply foldl_inv_fst | apply foldl_inv_snd
          | apply foldl_inv_snd2)
      | (show _ = _; rfl) | (refine time_keep (Q := Q) (O := O) (N := N) ?_ rfl rfl rfl rfl)
      | (simp only [kept_mk]; with_reducible refine keptAt ?_) | intro _ | dsimp only
      | (refine pair_inv (by with_reducible assumption) ?_) | (refine pair_inv2 (by with_reducible assumption) ?_)
      | (refine pair_inv3 (by with_reducible assumption) ?_) | (refine pair_inv5 (by with_reducible assumption) ?_)
      | split

theorem bbStore_inv (n : Nat) (k : Nat) (f : BbFrame) (s : State) (hg : Kept Q O N s) : Kept Q O N (bbStore n k f s) := by
  unfold bbStore
  try dsimp only
  repeat' first
    | (with_reducible first
        | assumption | apply boundary_inv | apply strUpd_inv | apply frameDrop_inv | apply bbStitches_inv
        | apply acceptFrame_inv | apply foldl_inv | apply foldl_inv_fst | apply foldl_inv_snd
        | apply foldl_inv_snd2)
    | (show _ = _; rfl) | (refine time_keep (Q := Q) (O := O) (N := N) ?_ rfl rfl rfl rfl)
    | (simp only [kept_mk]; with_reducible refine keptAt ?_) | intro _ | dsimp only
    | (refine pair_inv (by with_reducible assumption) ?_) | (refine pair_inv2 (by with_reducible assumption) ?_)
    | (refine pair_inv3 (by with_reducible assumption) ?_) | (refine pair_inv5 (by with_reducible assumption) ?_)
    | split

theorem bbFrame_inv (n : Nat) (f : BbFrame) (s : State) (hg : Kept Q O N s) : Kept Q O N (bbFrame n f s) := by
  unfold bbFrame
  try dsimp only
  repeat' first
    | (with_reducible first
        | assumption | apply formatEvent_inv | apply bbStore_inv | apply bbUpd_inv | apply foldl_inv
        | apply foldl_inv_fst | apply foldl_inv_snd | apply foldl_inv_snd2)
    | (show _ = _; rfl) | (refine time_keep (Q := Q) (O := O) (N := N) ?_ rfl rfl rfl rfl)
    | (simp only [kept_mk]; with_reducible refine keptAt ?_) | intro _ | dsimp only
    | (refine pair_inv (by with_reducible assumption) ?_) | (refine pair_inv2 (by with_reducible assumption) ?_)
    | (refine pair_inv3 (by with_reducible assumption) ?_) | (refine pair_inv5 (by with_reducible assumption) ?_)
    | split

theorem engSet_inv (n : Nat) (x : Engine) (s : State) (hg : Kept Q O N s) : Kept Q O N (engSet n x s) := by
  unfold engSet
  repeat' first
    | (with_reducible first
        | assumption | apply withStr_inv)
    | split

theorem engUpd_inv (n : Nat) (f : Engine → Engine) (s : State) (hg : Kept Q O N s) : Kept Q O N (engUpd n f s) := by
  unfold engUpd
  repeat' first
    | (with_reducible first
        | assumption | apply engSet_inv)
    | split

theorem startJob_inv (k : Nat) (engines : List Nat) (borrowed : Bool) (s : State) (hg : Kept Q O N s) : Kept Q O N
    (startJob k engines borrowed s) := by
  unfold startJob
  try dsimp only
  repeat' first
    | (with_reducible first
        | assumption | apply strSet_inv | apply engUpd_inv | apply foldl_inv | apply foldl_inv_fst
        | apply foldl_inv_snd | apply foldl_inv_snd2)
    | (show _ = _; rfl) | (refine time_keep (Q := Q) (O := O) (N := N) ?_ rfl rfl rfl rfl)
    | (simp only [kept_mk]; with_reducible refine keptAt ?_) | intro _ | dsimp only
    | (refine pair_inv (by with_reducible assumption) ?_) | (refine pair_inv2 (by with_reducible assumption) ?_)
    | (refine pair_inv3 (by with_reducible assumption) ?_) | (refine pair_inv5 (by with_reducible assumption) ?_)
    | split

theorem resumeJob_inv (n : Nat) (j : Job) (s : State) (hg : Kept Q O N s) : Kept Q O N (resumeJob n j s) := by
  unfold resumeJob
  repeat' first
    | (with_reducible first
        | assumption | apply engUpd_inv)
    | split

theorem takePick_inv (n : Nat) (borrowed : Bool) (p : Pick) (s : State) (hg : Kept Q O N s) : Kept Q O N (takePick n borrowed p s) := by
  unfold takePick
  try dsimp only
  repeat' first
    | (with_reducible first
        | assumption | apply startJob_inv | apply resumeJob_inv | apply foldl_inv | apply foldl_inv_fst
        | apply foldl_inv_snd | apply foldl_inv_snd2)
    | (show _ = _; rfl) | (refine time_keep (Q := Q) (O := O) (N := N) ?_ rfl rfl rfl rfl)
    | (simp only [kept_mk]; with_reducible refine keptAt ?_) | intro _ | dsimp only
    | (refine pair_inv (by with_reducible assumption) ?_) | (refine pair_inv2 (by with_reducible assumption) ?_)
    | (refine pair_inv3 (by with_reducible assumption) ?_) | (refine pair_inv5 (by with_reducible assumption) ?_)
    | split

theorem borrow_inv (n : Nat) (s : State) (hg : Kept Q O N s) : Kept Q O N (borrow n s) := by
  unfold borrow
  try dsimp only
  repeat' first
    | (with_reducible first
        | assumption | apply takePick_inv | apply foldl_inv | apply foldl_inv_fst | apply foldl_inv_snd
        | apply foldl_inv_snd2)
    | (show _ = _; rfl) | (refine time_keep (Q := Q) (O := O) (N := N) ?_ rfl rfl rfl rfl)
    | (simp only [kept_mk]; with_reducible refine keptAt ?_) | intro _ | dsimp only
    | (refine pair_inv (by with_reducible assumption) ?_) | (refine pair_inv2 (by with_reducible assumption) ?_)
    | (refine pair_inv3 (by with_reducible assumption) ?_) | (refine pair_inv5 (by with_reducible assumption) ?_)
    | split

theorem dispatch_inv (n : Nat) (s : State) (hg : Kept Q O N s) : Kept Q O N (dispatch n s) := by
  unfold dispatch
  try dsimp only
  repeat' first
    | (with_reducible first
        | assumption | apply startJob_inv | apply borrow_inv | apply takePick_inv | apply resumeJob_inv
        | apply foldl_inv | apply foldl_inv_fst | apply foldl_inv_snd | apply foldl_inv_snd2)
    | (show _ = _; rfl) | (refine time_keep (Q := Q) (O := O) (N := N) ?_ rfl rfl rfl rfl)
    | (simp only [kept_mk]; with_reducible refine keptAt ?_) | intro _ | dsimp only
    | (refine pair_inv (by with_reducible assumption) ?_) | (refine pair_inv2 (by with_reducible assumption) ?_)
    | (refine pair_inv3 (by with_reducible assumption) ?_) | (refine pair_inv5 (by with_reducible assumption) ?_)
    | split

theorem preemptHeld_inv (n : Nat) (j : Job) (s : State) (hg : Kept Q O N s) : Kept Q O N (preemptHeld n j s) := by
  unfold preemptHeld
  repeat' first
    | (with_reducible first
        | assumption | apply engUpd_inv)
    | split

theorem preemptPool_inv (j : Job) (s : State) (hg : Kept Q O N s) : Kept Q O N (preemptPool j s) := by
  unfold preemptPool
  try dsimp only
  repeat' first
    | (with_reducible first
        | assumption | apply strUpd_inv | apply engUpd_inv | apply foldl_inv | apply foldl_inv_fst
        | apply foldl_inv_snd | apply foldl_inv_snd2)
    | (show _ = _; rfl) | (refine time_keep (Q := Q) (O := O) (N := N) ?_ rfl rfl rfl rfl)
    | (simp only [kept_mk]; with_reducible refine keptAt ?_) | intro _ | dsimp only
    | (refine pair_inv (by with_reducible assumption) ?_) | (refine pair_inv2 (by with_reducible assumption) ?_)
    | (refine pair_inv3 (by with_reducible assumption) ?_) | (refine pair_inv5 (by with_reducible assumption) ?_)
    | split

theorem blockRow_inv (n : Nat) (s : State) (hg : Kept Q O N s) : Kept Q O N (blockRow n s) := by
  unfold blockRow
  try dsimp only
  repeat' first
    | (with_reducible first
        | assumption | apply dispatch_inv | apply preemptHeld_inv | apply preemptPool_inv | apply foldl_inv
        | apply foldl_inv_fst | apply foldl_inv_snd | apply foldl_inv_snd2)
    | (show _ = _; rfl) | (refine time_keep (Q := Q) (O := O) (N := N) ?_ rfl rfl rfl rfl)
    | (simp only [kept_mk]; with_reducible refine keptAt ?_) | intro _ | dsimp only
    | (refine pair_inv (by with_reducible assumption) ?_) | (refine pair_inv2 (by with_reducible assumption) ?_)
    | (refine pair_inv3 (by with_reducible assumption) ?_) | (refine pair_inv5 (by with_reducible assumption) ?_)
    | split

theorem coreState_inv (n : Nat) (st : Nat) (cause : Nat) (shed : Nat) (s : State) (hg : Kept Q O N s) :
    Kept Q O N (coreState n st cause shed s) := by
  unfold coreState
  repeat' first
    | (with_reducible first
        | assumption | apply raise_inv)
    | split

theorem settleHomes_inv (s : State) (hg : Kept Q O N s) : Kept Q O N (settleHomes s).1 := by
  unfold settleHomes
  try dsimp only
  repeat' first
    | (with_reducible first
        | assumption | apply strUpd_inv | apply foldl_inv | apply foldl_inv_fst | apply foldl_inv_snd
        | apply foldl_inv_snd2)
    | (show _ = _; rfl) | (refine time_keep (Q := Q) (O := O) (N := N) ?_ rfl rfl rfl rfl)
    | (simp only [kept_mk]; with_reducible refine keptAt ?_) | intro _ | dsimp only
    | (refine pair_inv (by with_reducible assumption) ?_) | (refine pair_inv2 (by with_reducible assumption) ?_)
    | (refine pair_inv3 (by with_reducible assumption) ?_) | (refine pair_inv5 (by with_reducible assumption) ?_)
    | split

theorem shedLoop_inv (x0 : Nat) (x1 : Nat) (x2 : State) (hg : Kept Q O N x2) : Kept Q O N (shedLoop x0 x1 x2).1 := by
  induction x0 generalizing x1 x2 with
  | zero =>
    unfold shedLoop
    try dsimp only
    repeat' first
      | (with_reducible first
          | assumption | apply settleHomes_inv | apply setStream_inv | apply strUpd_inv | apply withStr_inv
          | apply foldl_inv | apply foldl_inv_fst | apply foldl_inv_snd | apply foldl_inv_snd2)
      | (show _ = _; rfl) | (refine time_keep (Q := Q) (O := O) (N := N) ?_ rfl rfl rfl rfl)
      | (simp only [kept_mk]; with_reducible refine keptAt ?_) | intro _ | dsimp only
      | (refine pair_inv (by with_reducible assumption) ?_) | (refine pair_inv2 (by with_reducible assumption) ?_)
      | (refine pair_inv3 (by with_reducible assumption) ?_) | (refine pair_inv5 (by with_reducible assumption) ?_)
      | split
  | succ _ ih =>
    unfold shedLoop
    try dsimp only
    repeat' first
      | (with_reducible first
          | assumption | apply ih | apply settleHomes_inv | apply setStream_inv | apply strUpd_inv | apply withStr_inv
          | apply foldl_inv | apply foldl_inv_fst | apply foldl_inv_snd | apply foldl_inv_snd2)
      | (show _ = _; rfl) | (refine time_keep (Q := Q) (O := O) (N := N) ?_ rfl rfl rfl rfl)
      | (simp only [kept_mk]; with_reducible refine keptAt ?_) | intro _ | dsimp only
      | (refine pair_inv (by with_reducible assumption) ?_) | (refine pair_inv2 (by with_reducible assumption) ?_)
      | (refine pair_inv3 (by with_reducible assumption) ?_) | (refine pair_inv5 (by with_reducible assumption) ?_)
      | split

theorem retireDone_inv (n : Nat) (cause : Nat) (s : State) (hg : Kept Q O N s) : Kept Q O N (retireDone n cause s) := by
  unfold retireDone
  try dsimp only
  repeat' first
    | (with_reducible first
        | assumption | apply engUpd_inv | apply preemptPool_inv | apply shedLoop_inv | apply coreState_inv
        | apply foldl_inv | apply foldl_inv_fst)
    | (show _ = _; rfl) | (refine time_keep (Q := Q) (O := O) (N := N) ?_ rfl rfl rfl rfl)
    | (simp only [kept_mk]; with_reducible refine keptAt ?_) | intro _ | dsimp only | split

theorem retireStep_inv (n : Nat) (s : State) (hg : Kept Q O N s) : Kept Q O N (retireStep n s) := by
  unfold retireStep
  try dsimp only
  repeat' first
    | (with_reducible first
        | assumption | apply resumeJob_inv | apply retireDone_inv | apply foldl_inv | apply foldl_inv_fst
        | apply foldl_inv_snd | apply foldl_inv_snd2)
    | (show _ = _; rfl) | (refine time_keep (Q := Q) (O := O) (N := N) ?_ rfl rfl rfl rfl)
    | (simp only [kept_mk]; with_reducible refine keptAt ?_) | intro _ | dsimp only
    | (refine pair_inv (by with_reducible assumption) ?_) | (refine pair_inv2 (by with_reducible assumption) ?_)
    | (refine pair_inv3 (by with_reducible assumption) ?_) | (refine pair_inv5 (by with_reducible assumption) ?_)
    | split

theorem opCoreRetire_inv (c : Cmd) (s : State) (hg : Kept Q O N s) : Kept Q O N (opCoreRetire c s).1 := by
  unfold opCoreRetire
  try dsimp only
  repeat' first
    | (with_reducible first
        | assumption | apply checked_inv | apply coreState_inv | apply engUpd_inv | apply retireStep_inv
        | apply foldl_inv | apply foldl_inv_fst | apply foldl_inv_snd | apply foldl_inv_snd2)
    | (show _ = _; rfl) | (refine time_keep (Q := Q) (O := O) (N := N) ?_ rfl rfl rfl rfl)
    | (simp only [kept_mk]; with_reducible refine keptAt ?_) | intro _ | dsimp only
    | (refine pair_inv (by with_reducible assumption) ?_) | (refine pair_inv2 (by with_reducible assumption) ?_)
    | (refine pair_inv3 (by with_reducible assumption) ?_) | (refine pair_inv5 (by with_reducible assumption) ?_)
    | split

theorem opCoreReturn_inv (c : Cmd) (s : State) (hg : Kept Q O N s) : Kept Q O N (opCoreReturn c s).1 := by
  unfold opCoreReturn
  try dsimp only
  repeat' first
    | (with_reducible first
        | assumption | apply checked_inv | apply coreState_inv | apply engUpd_inv | apply foldl_inv
        | apply foldl_inv_fst)
    | (show _ = _; rfl) | (refine time_keep (Q := Q) (O := O) (N := N) ?_ rfl rfl rfl rfl)
    | (simp only [kept_mk]; with_reducible refine keptAt ?_) | intro _ | dsimp only | split

theorem coreTested_inv (n : Nat) (pass : Bool) (s : State) (hg : Kept Q O N s) : Kept Q O N (coreTested n pass s) := by
  unfold coreTested
  repeat' first
    | (with_reducible first
        | assumption | apply readmit_inv | apply coreState_inv | apply engSet_inv | apply engUpd_inv)
    | split

theorem takeFrees_inv (x0 : Nat) (x1 : State) (hg : Kept Q O N x1) : Kept Q O N (takeFrees x0 x1).2 := by
  induction x0 generalizing x1 with
  | zero =>
    unfold takeFrees
    try dsimp only
    repeat' first
      | (with_reducible first
          | assumption | apply takeFree_inv | apply foldl_inv | apply foldl_inv_fst | apply foldl_inv_snd
          | apply foldl_inv_snd2)
      | (show _ = _; rfl) | (refine time_keep (Q := Q) (O := O) (N := N) ?_ rfl rfl rfl rfl)
      | (simp only [kept_mk]; with_reducible refine keptAt ?_) | intro _ | dsimp only
      | (refine pair_inv (by with_reducible assumption) ?_) | (refine pair_inv2 (by with_reducible assumption) ?_)
      | (refine pair_inv3 (by with_reducible assumption) ?_) | (refine pair_inv5 (by with_reducible assumption) ?_)
      | split
  | succ _ ih =>
    unfold takeFrees
    try dsimp only
    repeat' first
      | (with_reducible first
          | assumption | apply ih | apply takeFree_inv | apply foldl_inv | apply foldl_inv_fst | apply foldl_inv_snd
          | apply foldl_inv_snd2)
      | (show _ = _; rfl) | (refine time_keep (Q := Q) (O := O) (N := N) ?_ rfl rfl rfl rfl)
      | (simp only [kept_mk]; with_reducible refine keptAt ?_) | intro _ | dsimp only
      | (refine pair_inv (by with_reducible assumption) ?_) | (refine pair_inv2 (by with_reducible assumption) ?_)
      | (refine pair_inv3 (by with_reducible assumption) ?_) | (refine pair_inv5 (by with_reducible assumption) ?_)
      | split

theorem rowDiffs_inv (k : Nat) (p : DecPic) (prev : Option SrcFrame) (s : State) (hg : Kept Q O N s) : Kept Q O N
    (rowDiffs k p prev s).2 := by
  unfold rowDiffs
  try dsimp only
  repeat' first
    | (with_reducible first
        | assumption | apply takeFrees_inv | apply foldl_inv | apply foldl_inv_fst | apply foldl_inv_snd
        | apply foldl_inv_snd2)
    | (show _ = _; rfl) | (refine time_keep (Q := Q) (O := O) (N := N) ?_ rfl rfl rfl rfl)
    | (simp only [kept_mk]; with_reducible refine keptAt ?_) | intro _ | dsimp only
    | (refine pair_inv (by with_reducible assumption) ?_) | (refine pair_inv2 (by with_reducible assumption) ?_)
    | (refine pair_inv3 (by with_reducible assumption) ?_) | (refine pair_inv5 (by with_reducible assumption) ?_)
    | split

theorem statWrite_inv (k : Nat) (num : Nat) (p : DecPic) (origin : Nat) (tainted : Nat) (prev : Option SrcFrame) (s : State)
    (hg : Kept Q O N s) : Kept Q O N (statWrite k num p origin tainted prev s) := by
  unfold statWrite
  try dsimp only
  repeat' first
    | (with_reducible first
        | assumption | apply rowDiffs_inv | apply send_inv | apply strUpd_inv | apply foldl_inv
        | apply foldl_inv_fst | apply foldl_inv_snd | apply foldl_inv_snd2)
    | (show _ = _; rfl) | (refine time_keep (Q := Q) (O := O) (N := N) ?_ rfl rfl rfl rfl)
    | (simp only [kept_mk]; with_reducible refine keptAt ?_) | intro _ | dsimp only
    | (refine pair_inv (by with_reducible assumption) ?_) | (refine pair_inv2 (by with_reducible assumption) ?_)
    | (refine pair_inv3 (by with_reducible assumption) ?_) | (refine pair_inv5 (by with_reducible assumption) ?_)
    | split

theorem decodeError_inv (k : Nat) (cause : Nat) (n : Nat) (au : Nat) (count : Nat) (s : State) (hg : Kept Q O N s) :
    Kept Q O N (decodeError k cause n au count s) := by
  unfold decodeError
  repeat' first
    | (with_reducible first
        | assumption | apply raise_inv)
    | split

theorem fetchRefs_inv (n : Nat) (us : List StageFault) (surf : Nat → Option Surf) (missing : Nat → Bool) (x4 : List (Nat × Nat × Nat))
    (x5 : State) (hg : Kept Q O N x5) : Kept Q O N (fetchRefs n us surf missing x4 x5).2.2 := by
  induction x4 generalizing x5 with
  | nil =>
    unfold fetchRefs
    try dsimp only
    repeat' first
      | (with_reducible first
          | assumption | apply fetchStitch_inv | apply foldl_inv | apply foldl_inv_fst | apply foldl_inv_snd
          | apply foldl_inv_snd2)
      | (show _ = _; rfl) | (refine time_keep (Q := Q) (O := O) (N := N) ?_ rfl rfl rfl rfl)
      | (simp only [kept_mk]; with_reducible refine keptAt ?_) | intro _ | dsimp only
      | (refine pair_inv (by with_reducible assumption) ?_) | (refine pair_inv2 (by with_reducible assumption) ?_)
      | (refine pair_inv3 (by with_reducible assumption) ?_) | (refine pair_inv5 (by with_reducible assumption) ?_)
      | split
  | cons _ _ ih =>
    unfold fetchRefs
    try dsimp only
    repeat' first
      | (with_reducible first
          | assumption | apply ih | apply fetchStitch_inv | apply foldl_inv | apply foldl_inv_fst | apply foldl_inv_snd
          | apply foldl_inv_snd2)
      | (show _ = _; rfl) | (refine time_keep (Q := Q) (O := O) (N := N) ?_ rfl rfl rfl rfl)
      | (simp only [kept_mk]; with_reducible refine keptAt ?_) | intro _ | dsimp only
      | (refine pair_inv (by with_reducible assumption) ?_) | (refine pair_inv2 (by with_reducible assumption) ?_)
      | (refine pair_inv3 (by with_reducible assumption) ?_) | (refine pair_inv5 (by with_reducible assumption) ?_)
      | split

theorem concealCells_inv (n : Nat) (us : List StageFault) (near : Option Surf) (fmt : Nat) (w : Nat) (h : Nat) (x6 : List (Nat × Nat))
    (x7 : State) (hg : Kept Q O N x7) : Kept Q O N (concealCells n us near fmt w h x6 x7).2.2.2 := by
  induction x6 generalizing x7 with
  | nil =>
    unfold concealCells
    try dsimp only
    repeat' first
      | (with_reducible first
          | assumption | apply fetchStitch_inv | apply foldl_inv | apply foldl_inv_fst | apply foldl_inv_snd
          | apply foldl_inv_snd2)
      | (show _ = _; rfl) | (refine time_keep (Q := Q) (O := O) (N := N) ?_ rfl rfl rfl rfl)
      | (simp only [kept_mk]; with_reducible refine keptAt ?_) | intro _ | dsimp only
      | (refine pair_inv (by with_reducible assumption) ?_) | (refine pair_inv2 (by with_reducible assumption) ?_)
      | (refine pair_inv3 (by with_reducible assumption) ?_) | (refine pair_inv5 (by with_reducible assumption) ?_)
      | split
  | cons _ _ ih =>
    unfold concealCells
    try dsimp only
    repeat' first
      | (with_reducible first
          | assumption | apply ih | apply fetchStitch_inv | apply foldl_inv | apply foldl_inv_fst | apply foldl_inv_snd
          | apply foldl_inv_snd2)
      | (show _ = _; rfl) | (refine time_keep (Q := Q) (O := O) (N := N) ?_ rfl rfl rfl rfl)
      | (simp only [kept_mk]; with_reducible refine keptAt ?_) | intro _ | dsimp only
      | (refine pair_inv (by with_reducible assumption) ?_) | (refine pair_inv2 (by with_reducible assumption) ?_)
      | (refine pair_inv3 (by with_reducible assumption) ?_) | (refine pair_inv5 (by with_reducible assumption) ?_)
      | split

theorem writePicture_inv (core : Nat → Nat → Nat) (us : List StageFault) (f : Surf) (due : Nat → Nat → Nat) (flags : Nat × Nat → Nat)
    (crcs : List W32) (cells : List (List Byte)) (x7 : List (Nat × Nat)) (x8 : Nat) (x9 : State) (hg : Kept Q O N x9) : Kept Q O N
    (writePicture core us f due flags crcs cells x7 x8 x9).2 := by
  induction x7 generalizing x8 x9 with
  | nil =>
    unfold writePicture
    try dsimp only
    repeat' first
      | (with_reducible first
          | assumption | apply writeStitch_inv | apply foldl_inv | apply foldl_inv_fst | apply foldl_inv_snd
          | apply foldl_inv_snd2)
      | (show _ = _; rfl) | (refine time_keep (Q := Q) (O := O) (N := N) ?_ rfl rfl rfl rfl)
      | (simp only [kept_mk]; with_reducible refine keptAt ?_) | intro _ | dsimp only
      | (refine pair_inv (by with_reducible assumption) ?_) | (refine pair_inv2 (by with_reducible assumption) ?_)
      | (refine pair_inv3 (by with_reducible assumption) ?_) | (refine pair_inv5 (by with_reducible assumption) ?_)
      | split
  | cons _ _ ih =>
    unfold writePicture
    try dsimp only
    repeat' first
      | (with_reducible first
          | assumption | apply ih | apply writeStitch_inv | apply foldl_inv | apply foldl_inv_fst | apply foldl_inv_snd
          | apply foldl_inv_snd2)
      | (show _ = _; rfl) | (refine time_keep (Q := Q) (O := O) (N := N) ?_ rfl rfl rfl rfl)
      | (simp only [kept_mk]; with_reducible refine keptAt ?_) | intro _ | dsimp only
      | (refine pair_inv (by with_reducible assumption) ?_) | (refine pair_inv2 (by with_reducible assumption) ?_)
      | (refine pair_inv3 (by with_reducible assumption) ?_) | (refine pair_inv5 (by with_reducible assumption) ?_)
      | split

theorem engineFaults_inv (k : Nat) (num : Nat) (writer : Nat) (l : List PicFault) (s : State) (hg : Kept Q O N s) : Kept Q O N
    (engineFaults k num writer l s) := by
  unfold engineFaults
  try dsimp only
  repeat' first
    | (with_reducible first
        | assumption | apply custodyReport_inv | apply foldl_inv | apply foldl_inv_fst | apply foldl_inv_snd
        | apply foldl_inv_snd2)
    | (show _ = _; rfl) | (refine time_keep (Q := Q) (O := O) (N := N) ?_ rfl rfl rfl rfl)
    | (simp only [kept_mk]; with_reducible refine keptAt ?_) | intro _ | dsimp only
    | (refine pair_inv (by with_reducible assumption) ?_) | (refine pair_inv2 (by with_reducible assumption) ?_)
    | (refine pair_inv3 (by with_reducible assumption) ?_) | (refine pair_inv5 (by with_reducible assumption) ?_)
    | split

theorem showPicture_inv (k : Nat) (d : Nat) (us : List StageFault) (au : AccUnit) (s : State) (hg : Kept Q O N s) : Kept Q O N
    (showPicture k d us au s) := by
  unfold showPicture
  try dsimp only
  repeat' first
    | (with_reducible first
        | assumption | apply strUpd_inv | apply acceptFrame_inv | apply engineFaults_inv | apply statWrite_inv
        | apply foldl_inv | apply foldl_inv_fst | apply foldl_inv_snd | apply foldl_inv_snd2)
    | (show _ = _; rfl) | (refine time_keep (Q := Q) (O := O) (N := N) ?_ rfl rfl rfl rfl)
    | (simp only [kept_mk]; with_reducible refine keptAt ?_) | intro _ | dsimp only
    | (refine pair_inv (by with_reducible assumption) ?_) | (refine pair_inv2 (by with_reducible assumption) ?_)
    | (refine pair_inv3 (by with_reducible assumption) ?_) | (refine pair_inv5 (by with_reducible assumption) ?_)
    | split

theorem bump_inv (k : Nat) (keep : Nat) (us : List StageFault) (au : AccUnit) (x4 : Nat) (x5 : State) (hg : Kept Q O N x5) : Kept Q O N
    (bump k keep us au x4 x5) := by
  induction x4 generalizing x5 with
  | zero =>
    unfold bump
    try dsimp only
    repeat' first
      | (with_reducible first
          | assumption | apply showPicture_inv | apply foldl_inv | apply foldl_inv_fst | apply foldl_inv_snd
          | apply foldl_inv_snd2)
      | (show _ = _; rfl) | (refine time_keep (Q := Q) (O := O) (N := N) ?_ rfl rfl rfl rfl)
      | (simp only [kept_mk]; with_reducible refine keptAt ?_) | intro _ | dsimp only
      | (refine pair_inv (by with_reducible assumption) ?_) | (refine pair_inv2 (by with_reducible assumption) ?_)
      | (refine pair_inv3 (by with_reducible assumption) ?_) | (refine pair_inv5 (by with_reducible assumption) ?_)
      | split
  | succ _ ih =>
    unfold bump
    try dsimp only
    repeat' first
      | (with_reducible first
          | assumption | apply ih | apply showPicture_inv | apply foldl_inv | apply foldl_inv_fst | apply foldl_inv_snd
          | apply foldl_inv_snd2)
      | (show _ = _; rfl) | (refine time_keep (Q := Q) (O := O) (N := N) ?_ rfl rfl rfl rfl)
      | (simp only [kept_mk]; with_reducible refine keptAt ?_) | intro _ | dsimp only
      | (refine pair_inv (by with_reducible assumption) ?_) | (refine pair_inv2 (by with_reducible assumption) ?_)
      | (refine pair_inv3 (by with_reducible assumption) ?_) | (refine pair_inv5 (by with_reducible assumption) ?_)
      | split

theorem endJob_inv (j : Job) (s : State) (hg : Kept Q O N s) : Kept Q O N (endJob j s) := by
  unfold endJob
  try dsimp only
  repeat' first
    | (with_reducible first
        | assumption | apply auWait_inv | apply strUpd_inv | apply engUpd_inv | apply retireStep_inv
        | apply foldl_inv | apply foldl_inv_fst | apply foldl_inv_snd | apply foldl_inv_snd2)
    | (show _ = _; rfl) | (refine time_keep (Q := Q) (O := O) (N := N) ?_ rfl rfl rfl rfl)
    | (simp only [kept_mk]; with_reducible refine keptAt ?_) | intro _ | dsimp only
    | (refine pair_inv (by with_reducible assumption) ?_) | (refine pair_inv2 (by with_reducible assumption) ?_)
    | (refine pair_inv3 (by with_reducible assumption) ?_) | (refine pair_inv5 (by with_reducible assumption) ?_)
    | split

theorem storePicture_inv (n : Nat) (j : Job) (a : AccUnit) (p : DecPicture) (unwritten : List (Nat × Nat)) (causes : List Nat)
    (slot : Nat) (s : State) (hg : Kept Q O N s) : Kept Q O N (storePicture n j a p unwritten causes slot s) := by
  unfold storePicture
  dsimp only
  repeat' first
    | (with_reducible first
        | assumption | apply strUpd_inv | apply bump_inv | apply engineFaults_inv | apply raise_inv
        | apply decodeError_inv | apply countRetry_inv | apply writePicture_inv | apply concealCells_inv | apply fetchRefs_inv
        | apply foldl_inv | apply ite_good)
    | intro _ | dsimp only | split

theorem showAgain_inv (k : Nat) (slot : Nat) (us : List StageFault) (a : AccUnit) (s : State) (hg : Kept Q O N s) : Kept Q O N
    (showAgain k slot us a s) := by
  unfold showAgain
  try dsimp only
  repeat' first
    | (with_reducible first
        | assumption | apply showPicture_inv | apply foldl_inv | apply foldl_inv_fst | apply foldl_inv_snd
        | apply foldl_inv_snd2)
    | (show _ = _; rfl) | (refine time_keep (Q := Q) (O := O) (N := N) ?_ rfl rfl rfl rfl)
    | (simp only [kept_mk]; with_reducible refine keptAt ?_) | intro _ | dsimp only
    | (refine pair_inv (by with_reducible assumption) ?_) | (refine pair_inv2 (by with_reducible assumption) ?_)
    | (refine pair_inv3 (by with_reducible assumption) ?_) | (refine pair_inv5 (by with_reducible assumption) ?_)
    | split

theorem coreRun_inv (k : Nat) (cores : List Nat) (fs : List StageFault) (s : State) (i : Nat) (hg : Kept Q O N s) : Kept Q O N
    (coreRun k cores fs s i) := by
  unfold coreRun
  try dsimp only
  repeat' first
    | (with_reducible first
        | assumption | apply engUpd_inv | apply raise_inv | apply foldl_inv | apply foldl_inv_fst
        | apply foldl_inv_snd | apply foldl_inv_snd2)
    | (show _ = _; rfl) | (refine time_keep (Q := Q) (O := O) (N := N) ?_ rfl rfl rfl rfl)
    | (simp only [kept_mk]; with_reducible refine keptAt ?_) | intro _ | dsimp only
    | (refine pair_inv (by with_reducible assumption) ?_) | (refine pair_inv2 (by with_reducible assumption) ?_)
    | (refine pair_inv3 (by with_reducible assumption) ?_) | (refine pair_inv5 (by with_reducible assumption) ?_)
    | split

theorem coreRuns_inv (k : Nat) (cores : List Nat) (fs : List StageFault) (s : State) (hg : Kept Q O N s) : Kept Q O N
    (coreRuns k cores fs s) := by
  unfold coreRuns
  try dsimp only
  repeat' first
    | (with_reducible first
        | assumption | apply coreRun_inv | apply foldl_inv | apply foldl_inv_fst | apply foldl_inv_snd
        | apply foldl_inv_snd2)
    | (show _ = _; rfl) | (refine time_keep (Q := Q) (O := O) (N := N) ?_ rfl rfl rfl rfl)
    | (simp only [kept_mk]; with_reducible refine keptAt ?_) | intro _ | dsimp only
    | (refine pair_inv (by with_reducible assumption) ?_) | (refine pair_inv2 (by with_reducible assumption) ?_)
    | (refine pair_inv3 (by with_reducible assumption) ?_) | (refine pair_inv5 (by with_reducible assumption) ?_)
    | split

theorem retireBad_inv (cores : List Nat) (s : State) (hg : Kept Q O N s) : Kept Q O N (retireBad cores s) := by
  unfold retireBad
  try dsimp only
  repeat' first
    | (with_reducible first
        | assumption | apply retireDone_inv | apply engUpd_inv | apply foldl_inv | apply foldl_inv_fst
        | apply foldl_inv_snd | apply foldl_inv_snd2)
    | (show _ = _; rfl) | (refine time_keep (Q := Q) (O := O) (N := N) ?_ rfl rfl rfl rfl)
    | (simp only [kept_mk]; with_reducible refine keptAt ?_) | intro _ | dsimp only
    | (refine pair_inv (by with_reducible assumption) ?_) | (refine pair_inv2 (by with_reducible assumption) ?_)
    | (refine pair_inv3 (by with_reducible assumption) ?_) | (refine pair_inv5 (by with_reducible assumption) ?_)
    | split

theorem pictureDone_inv (n : Nat) (p : DecPicture) (s : State) (hg : Kept Q O N s) : Kept Q O N (pictureDone n p s) := by
  unfold pictureDone
  try dsimp only
  repeat' first
    | (with_reducible first
        | assumption | apply endJob_inv | apply strUpd_inv | apply refreshWanted_inv | apply decodeError_inv
        | apply showAgain_inv | apply setStream_inv | apply retireBad_inv | apply coreRuns_inv
        | apply storePicture_inv | apply foldl_inv | apply foldl_inv_fst | apply foldl_inv_snd
        | apply foldl_inv_snd2)
    | (show _ = _; rfl) | (refine time_keep (Q := Q) (O := O) (N := N) ?_ rfl rfl rfl rfl)
    | (simp only [kept_mk]; with_reducible refine keptAt ?_) | intro _ | dsimp only
    | (refine pair_inv (by with_reducible assumption) ?_) | (refine pair_inv2 (by with_reducible assumption) ?_)
    | (refine pair_inv3 (by with_reducible assumption) ?_) | (refine pair_inv5 (by with_reducible assumption) ?_)
    | split

theorem engineWatchdog_inv (n : Nat) (p : DecPicture) (s : State) (hg : Kept Q O N s) : Kept Q O N (engineWatchdog n p s) := by
  unfold engineWatchdog
  try dsimp only
  repeat' first
    | (with_reducible first
        | assumption | apply decodeError_inv | apply storePicture_inv | apply engUpd_inv | apply endJob_inv
        | apply retireDone_inv | apply foldl_inv | apply foldl_inv_fst | apply foldl_inv_snd | apply foldl_inv_snd2)
    | (show _ = _; rfl) | (refine time_keep (Q := Q) (O := O) (N := N) ?_ rfl rfl rfl rfl)
    | (simp only [kept_mk]; with_reducible refine keptAt ?_) | intro _ | dsimp only
    | (refine pair_inv (by with_reducible assumption) ?_) | (refine pair_inv2 (by with_reducible assumption) ?_)
    | (refine pair_inv3 (by with_reducible assumption) ?_) | (refine pair_inv5 (by with_reducible assumption) ?_)
    | split

theorem decodeStall_inv (k : Nat) (s : State) (hg : Kept Q O N s) : Kept Q O N (decodeStall k s) := by
  unfold decodeStall
  try dsimp only
  repeat' first
    | (with_reducible first
        | assumption | apply auWait_inv | apply raise_inv | apply strUpd_inv | apply foldl_inv
        | apply foldl_inv_fst | apply foldl_inv_snd | apply foldl_inv_snd2)
    | (show _ = _; rfl) | (refine time_keep (Q := Q) (O := O) (N := N) ?_ rfl rfl rfl rfl)
    | (simp only [kept_mk]; with_reducible refine keptAt ?_) | intro _ | dsimp only
    | (refine pair_inv (by with_reducible assumption) ?_) | (refine pair_inv2 (by with_reducible assumption) ?_)
    | (refine pair_inv3 (by with_reducible assumption) ?_) | (refine pair_inv5 (by with_reducible assumption) ?_)
    | split

theorem overrateOne_inv (s : State) (k : Nat) (hg : Kept Q O N s) : Kept Q O N (overrateOne s k) := by
  unfold overrateOne
  try dsimp only
  repeat' first
    | (with_reducible first
        | assumption | apply raise_inv | apply strUpd_inv | apply foldl_inv | apply foldl_inv_fst)
    | (show _ = _; rfl) | (refine time_keep (Q := Q) (O := O) (N := N) ?_ rfl rfl rfl rfl)
    | (simp only [kept_mk]; with_reducible refine keptAt ?_) | intro _ | dsimp only | split

theorem refreshDue_inv (k : Nat) (s : State) (hg : Kept Q O N s) : Kept Q O N (refreshDue k s) := by
  unfold refreshDue
  try dsimp only
  repeat' first
    | (with_reducible first
        | assumption | apply refreshWanted_inv | apply strUpd_inv | apply foldl_inv | apply foldl_inv_fst)
    | (show _ = _; rfl) | (refine time_keep (Q := Q) (O := O) (N := N) ?_ rfl rfl rfl rfl)
    | (simp only [kept_mk]; with_reducible refine keptAt ?_) | intro _ | dsimp only | split

theorem withEnc_inv (s : State) (u : EncUnit) (hg : Kept Q O N s) : Kept Q O N (withEnc s u) := by
  unfold withEnc
  try dsimp only
  repeat' first
    | (with_reducible first
        | assumption | apply foldl_inv | apply foldl_inv_fst)
    | (show _ = _; rfl) | (refine time_keep (Q := Q) (O := O) (N := N) ?_ rfl rfl rfl rfl)
    | (simp only [kept_mk]; with_reducible refine keptAt ?_) | intro _ | dsimp only | split

theorem ecSet_inv (c : Nat) (x : EncChan) (s : State) (hg : Kept Q O N s) : Kept Q O N (ecSet c x s) := by
  unfold ecSet
  repeat' first
    | (with_reducible first
        | assumption | apply withEnc_inv)
    | split

theorem ecUpd_inv (c : Nat) (f : EncChan → EncChan) (s : State) (hg : Kept Q O N s) : Kept Q O N (ecUpd c f s) := by
  unfold ecUpd
  repeat' first
    | (with_reducible first
        | assumption | apply ecSet_inv)
    | split

theorem encAssign_inv (named : Option Nat) (s : State) (hg : Kept Q O N s) : Kept Q O N (encAssign named s) := by
  unfold encAssign
  try dsimp only
  repeat' first
    | (with_reducible first
        | assumption | apply ecSet_inv | apply foldl_inv | apply foldl_inv_fst)
    | (show _ = _; rfl) | (refine time_keep (Q := Q) (O := O) (N := N) ?_ rfl rfl rfl rfl)
    | (simp only [kept_mk]; with_reducible refine keptAt ?_) | intro _ | dsimp only | split

theorem withComp_inv (s : State) (u : CompUnit) (hg : Kept Q O N s) : Kept Q O N (withComp s u) := by
  unfold withComp
  try dsimp only
  repeat' first
    | (with_reducible first
        | assumption | apply foldl_inv | apply foldl_inv_fst)
    | (show _ = _; rfl) | (refine time_keep (Q := Q) (O := O) (N := N) ?_ rfl rfl rfl rfl)
    | (simp only [kept_mk]; with_reducible refine keptAt ?_) | intro _ | dsimp only | split

theorem canSet_inv (c : Nat) (x : Canvas) (s : State) (hg : Kept Q O N s) : Kept Q O N (canSet c x s) := by
  unfold canSet
  repeat' first
    | (with_reducible first
        | assumption | apply withComp_inv)
    | split

theorem canUpd_inv (c : Nat) (f : Canvas → Canvas) (s : State) (hg : Kept Q O N s) : Kept Q O N (canUpd c f s) := by
  unfold canUpd
  repeat' first
    | (with_reducible first
        | assumption | apply canSet_inv)
    | split

theorem opLayerSet_inv (c : Cmd) (s : State) (hg : Kept Q O N s) : Kept Q O N (opLayerSet c s).1 := by
  unfold opLayerSet
  repeat' first
    | (with_reducible first
        | assumption | apply checked_inv | apply canUpd_inv)
    | split

theorem opCanvasSet_inv (c : Cmd) (s : State) (hg : Kept Q O N s) : Kept Q O N (opCanvasSet c s).1 := by
  unfold opCanvasSet
  try dsimp only
  repeat' first
    | (with_reducible first
        | assumption | apply checked_inv | apply canSet_inv | apply foldl_inv | apply foldl_inv_fst
        | apply foldl_inv_snd | apply foldl_inv_snd2)
    | (show _ = _; rfl) | (refine time_keep (Q := Q) (O := O) (N := N) ?_ rfl rfl rfl rfl)
    | (simp only [kept_mk]; with_reducible refine keptAt ?_) | intro _ | dsimp only
    | (refine pair_inv (by with_reducible assumption) ?_) | (refine pair_inv2 (by with_reducible assumption) ?_)
    | (refine pair_inv3 (by with_reducible assumption) ?_) | (refine pair_inv5 (by with_reducible assumption) ?_)
    | split

theorem opBankParamSet_inv (c : Cmd) (s : State) (hg : Kept Q O N s) : Kept Q O N (opBankParamSet c s).1 := by
  unfold opBankParamSet
  repeat' first
    | (with_reducible first
        | assumption | apply checked_inv | apply canUpd_inv)
    | split

theorem opCoefLoad_inv (c : Cmd) (s : State) (hg : Kept Q O N s) : Kept Q O N (opCoefLoad c s).1 := by
  unfold opCoefLoad
  try dsimp only
  repeat' first
    | (with_reducible first
        | assumption | apply checked_inv | apply foldl_inv | apply foldl_inv_fst)
    | (show _ = _; rfl) | (refine time_keep (Q := Q) (O := O) (N := N) ?_ rfl rfl rfl rfl)
    | (simp only [kept_mk]; with_reducible refine keptAt ?_) | intro _ | dsimp only | split

theorem opXferLoad_inv (c : Cmd) (s : State) (hg : Kept Q O N s) : Kept Q O N (opXferLoad c s).1 := by
  unfold opXferLoad
  try dsimp only
  repeat' first
    | (with_reducible first
        | assumption | apply checked_inv | apply foldl_inv | apply foldl_inv_fst)
    | (show _ = _; rfl) | (refine time_keep (Q := Q) (O := O) (N := N) ?_ rfl rfl rfl rfl)
    | (simp only [kept_mk]; with_reducible refine keptAt ?_) | intro _ | dsimp only | split

theorem opStillLoad_inv (c : Cmd) (s : State) (hg : Kept Q O N s) : Kept Q O N (opStillLoad c s).1 := by
  unfold opStillLoad
  try dsimp only
  repeat' first
    | (with_reducible first
        | assumption | apply checked_inv | apply foldl_inv | apply foldl_inv_fst)
    | (show _ = _; rfl) | (refine time_keep (Q := Q) (O := O) (N := N) ?_ rfl rfl rfl rfl)
    | (simp only [kept_mk]; with_reducible refine keptAt ?_) | intro _ | dsimp only | split

theorem coefLoaded_inv (k : Nat) (bank : Nat) (crc : Nat) (image : List Byte) (s : State) (hg : Kept Q O N s) :
    Kept Q O N (coefLoaded k bank crc image s).1 := by
  unfold coefLoaded
  repeat' first
    | (with_reducible first
        | assumption | apply checked_inv | apply canUpd_inv)
    | split

theorem xferLoaded_inv (k : Nat) (crc : Nat) (image : List Byte) (s : State) (hg : Kept Q O N s) :
    Kept Q O N (xferLoaded k crc image s).1 := by
  unfold xferLoaded
  try dsimp only
  repeat' first
    | (with_reducible first
        | assumption | apply checked_inv | apply withComp_inv | apply foldl_inv | apply foldl_inv_fst)
    | (show _ = _; rfl) | (refine time_keep (Q := Q) (O := O) (N := N) ?_ rfl rfl rfl rfl)
    | (simp only [kept_mk]; with_reducible refine keptAt ?_) | intro _ | dsimp only | split

theorem stillLoaded_inv (k : Nat) (w : Nat) (h : Nat) (init : Nat) (data : List Byte) (s : State) (hg : Kept Q O N s) :
    Kept Q O N (stillLoaded k w h init data s).1 := by
  unfold stillLoaded
  repeat' first
    | (with_reducible first
        | assumption | apply busWrite_inv | apply withComp_inv)
    | split

theorem opLayoutCommit_inv (c : Cmd) (s : State) (hg : Kept Q O N s) : Kept Q O N (opLayoutCommit c s).1 := by
  unfold opLayoutCommit
  try dsimp only
  repeat' first
    | (with_reducible first
        | assumption | apply checked_inv | apply encAssign_inv | apply withComp_inv | apply foldl_inv
        | apply foldl_inv_fst)
    | (show _ = _; rfl) | (refine time_keep (Q := Q) (O := O) (N := N) ?_ rfl rfl rfl rfl)
    | (simp only [kept_mk]; with_reducible refine keptAt ?_) | intro _ | dsimp only | split

theorem opLayoutCancel_inv (c : Cmd) (s : State) (hg : Kept Q O N s) : Kept Q O N (opLayoutCancel c s).1 := by
  unfold opLayoutCancel
  try dsimp only
  repeat' first
    | (with_reducible first
        | assumption | apply withComp_inv | apply foldl_inv | apply foldl_inv_fst)
    | (show _ = _; rfl) | (refine time_keep (Q := Q) (O := O) (N := N) ?_ rfl rfl rfl rfl)
    | (simp only [kept_mk]; with_reducible refine keptAt ?_) | intro _ | dsimp only | split

theorem freeBytes_inv (n : Nat) (s : State) (h : Kept Q O N s) : Kept Q O N (freeBytes n s).2 :=
  ⟨h.queue, h.sent, Nat.le_succ_of_le h.opened, h.mem, h.win, h.time, h.seq⟩

theorem fetchCell_inv (us : List StageFault) (port : Nat) (f : Surf) (p : Nat × Nat) (s : State) (hg : Kept Q O N s) : Kept Q O N
    (fetchCell us port f p s).2 := by
  unfold fetchCell
  try dsimp only
  repeat' first
    | (with_reducible first
        | assumption | apply fetchStitch_inv | apply freeBytes_inv | apply foldl_inv | apply foldl_inv_fst
        | apply foldl_inv_snd | apply foldl_inv_snd2)
    | (show _ = _; rfl) | (refine time_keep (Q := Q) (O := O) (N := N) ?_ rfl rfl rfl rfl)
    | (simp only [kept_mk]; with_reducible refine keptAt ?_) | intro _ | dsimp only
    | (refine pair_inv (by with_reducible assumption) ?_) | (refine pair_inv2 (by with_reducible assumption) ?_)
    | (refine pair_inv3 (by with_reducible assumption) ?_) | (refine pair_inv5 (by with_reducible assumption) ?_)
    | split

theorem fetchCells_inv (us : List StageFault) (port : Nat) (f : Surf) (x3 : List (Nat × Nat)) (x4 : State) (hg : Kept Q O N x4)
    : Kept Q O N (fetchCells us port f x3 x4).2 := by
  induction x3 generalizing x4 with
  | nil =>
    unfold fetchCells
    try dsimp only
    repeat' first
      | (with_reducible first
          | assumption | apply fetchCell_inv | apply foldl_inv | apply foldl_inv_fst | apply foldl_inv_snd
          | apply foldl_inv_snd2)
      | (show _ = _; rfl) | (refine time_keep (Q := Q) (O := O) (N := N) ?_ rfl rfl rfl rfl)
      | (simp only [kept_mk]; with_reducible refine keptAt ?_) | intro _ | dsimp only
      | (refine pair_inv (by with_reducible assumption) ?_) | (refine pair_inv2 (by with_reducible assumption) ?_)
      | (refine pair_inv3 (by with_reducible assumption) ?_) | (refine pair_inv5 (by with_reducible assumption) ?_)
      | split
  | cons _ _ ih =>
    unfold fetchCells
    try dsimp only
    repeat' first
      | (with_reducible first
          | assumption | apply ih | apply fetchCell_inv | apply foldl_inv | apply foldl_inv_fst | apply foldl_inv_snd
          | apply foldl_inv_snd2)
      | (show _ = _; rfl) | (refine time_keep (Q := Q) (O := O) (N := N) ?_ rfl rfl rfl rfl)
      | (simp only [kept_mk]; with_reducible refine keptAt ?_) | intro _ | dsimp only
      | (refine pair_inv (by with_reducible assumption) ?_) | (refine pair_inv2 (by with_reducible assumption) ?_)
      | (refine pair_inv3 (by with_reducible assumption) ?_) | (refine pair_inv5 (by with_reducible assumption) ?_)
      | split

theorem kept_stitches {α : Type} {f : StitchWork → α → StitchWork} {l : List α} {w : StitchWork}
    (hf : ∀ u a, Kept Q O N u.st → Kept Q O N (f u a).st) (h : Kept Q O N w.st) : Kept Q O N (l.foldl f w).st := by
  induction l generalizing w with
  | nil => exact h
  | cons a l ih => exact ih (hf w a h)

theorem passBoundary_good (g : ComposeCtx) (sx sy : Nat) (w : StitchWork) (h : Kept Q O N w.st) :
    Kept Q O N (passBoundary g sx sy w).st := by
  unfold passBoundary
  dsimp only
  repeat' first
    | (with_reducible first
        | assumption | apply freeBytes_inv | apply fetchStitch_inv | apply writeStitch_inv)
    | intro _ | dsimp only | split

theorem layerOver_good (g : ComposeCtx) (sx sy : Nat) (l : LayerSrc) (w : StitchWork) (h : Kept Q O N w.st) :
    Kept Q O N (layerOver g sx sy l w).st := by
  unfold layerOver
  dsimp only
  repeat' first | exact h | exact fetchCells_inv _ _ _ _ _ h | split

theorem layersOver_good (g : ComposeCtx) (sx sy i : Nat) (ls : List LayerSrc) (w : StitchWork) (h : Kept Q O N w.st) :
    Kept Q O N (layersOver g sx sy i ls w).st := by
  induction ls generalizing i w with
  | nil => exact h
  | cons l ls ih =>
    refine ih _ _ (layerOver_good _ _ _ _ _ ?_)
    split
    · exact passBoundary_good _ _ _ _ h
    · exact h

theorem composeStitch_good (g : ComposeCtx) (sy : Nat) (w : StitchWork) (sx : Nat) (h : Kept Q O N w.st) :
    Kept Q O N (composeStitch g sy w sx).st :=
  writeStitch_inv _ _ _ _ _ _ _ _ _ _ (layersOver_good _ _ _ _ _ _ h)

theorem composeRow_good (g : ComposeCtx) (w : StitchWork) (sy : Nat) (h : Kept Q O N w.st) : Kept Q O N (composeRow g w sy).st :=
  kept_stitches (w := { w with broken := [] }) (fun _ _ hu => composeStitch_good _ _ _ _ hu) h

theorem composeRows_inv (c : Nat) (j : Compose) (cutFull : Nat) (sels : List LayerSel) (faults : List StageFault) (rows : List Nat)
    (s : State) (h : Kept Q O N s) : Kept Q O N (composeRows c j cutFull sels faults rows s).2 :=
  kept_stitches (w := { st := s }) (fun _ _ hu => composeRow_good _ _ _ hu) h

theorem composeReport_inv (c : Nat) (j : Compose) (s : State) (hg : Kept Q O N s) : Kept Q O N (composeReport c j s) := by
  unfold composeReport
  try dsimp only
  repeat' first
    | (with_reducible first
        | assumption | apply custodyReportOf_inv | apply custodyReport_inv | apply foldl_inv | apply foldl_inv_fst
        | apply foldl_inv_snd | apply foldl_inv_snd2)
    | (show _ = _; rfl) | (refine time_keep (Q := Q) (O := O) (N := N) ?_ rfl rfl rfl rfl)
    | (simp only [kept_mk]; with_reducible refine keptAt ?_) | intro _ | dsimp only
    | (refine pair_inv (by with_reducible assumption) ?_) | (refine pair_inv2 (by with_reducible assumption) ?_)
    | (refine pair_inv3 (by with_reducible assumption) ?_) | (refine pair_inv5 (by with_reducible assumption) ?_)
    | split

theorem slippedEvent_inv (c : Nat) (cause : Nat) (frame : Nat) (p2 : Nat) (count : Nat) (first : Nat) (s : State)
 (hg : Kept Q O N s) : Kept Q O N (slippedEvent c cause frame p2 count first s) := by
  unfold slippedEvent
  repeat' first
    | (with_reducible first
        | assumption | apply raise_inv)
    | split

theorem sourceLate_inv (c : Nat) (j : Compose) (s : State) (hg : Kept Q O N s) : Kept Q O N (sourceLate c j s) := by
  unfold sourceLate
  repeat' first
    | (with_reducible first
        | assumption | apply slippedEvent_inv)
    | split

theorem underEvent_inv (c : Nat) (x : Canvas) (j : Compose) (s : State) (hg : Kept Q O N s) :
    Kept Q O N (underEvent c x j s) := by
  unfold underEvent
  repeat' first
    | (with_reducible first
        | assumption | apply raise_inv)
    | split

theorem chaseLate_inv (c : Nat) (j : Compose) (s : State) (hg : Kept Q O N s) : Kept Q O N (chaseLate c j s) := by
  unfold chaseLate
  repeat' first
    | (with_reducible first
        | assumption | apply slippedEvent_inv)
    | split

theorem promote_inv (c : Nat) (j : Compose) (s : State) (hg : Kept Q O N s) : Kept Q O N (promote c j s) := by
  unfold promote
  try dsimp only
  repeat' first
    | (with_reducible first
        | assumption | apply canSet_inv | apply underEvent_inv | apply composeReport_inv | apply chaseLate_inv
        | apply sourceLate_inv | apply foldl_inv | apply foldl_inv_fst | apply foldl_inv_snd | apply foldl_inv_snd2)
    | (show _ = _; rfl) | (refine time_keep (Q := Q) (O := O) (N := N) ?_ rfl rfl rfl rfl)
    | (simp only [kept_mk]; with_reducible refine keptAt ?_) | intro _ | dsimp only
    | (refine pair_inv (by with_reducible assumption) ?_) | (refine pair_inv2 (by with_reducible assumption) ?_)
    | (refine pair_inv3 (by with_reducible assumption) ?_) | (refine pair_inv5 (by with_reducible assumption) ?_)
    | split

theorem abandon_inv (c : Nat) (j : Compose) (late : Nat) (s : State) (hg : Kept Q O N s) : Kept Q O N (abandon c j late s) := by
  unfold abandon
  try dsimp only
  repeat' first
    | (with_reducible first
        | assumption | apply composeReport_inv | apply canSet_inv | apply slippedEvent_inv | apply foldl_inv
        | apply foldl_inv_fst | apply foldl_inv_snd | apply foldl_inv_snd2)
    | (show _ = _; rfl) | (refine time_keep (Q := Q) (O := O) (N := N) ?_ rfl rfl rfl rfl)
    | (simp only [kept_mk]; with_reducible refine keptAt ?_) | intro _ | dsimp only
    | (refine pair_inv (by with_reducible assumption) ?_) | (refine pair_inv2 (by with_reducible assumption) ?_)
    | (refine pair_inv3 (by with_reducible assumption) ?_) | (refine pair_inv5 (by with_reducible assumption) ?_)
    | split

theorem settle_inv (c : Nat) (s : State) (hg : Kept Q O N s) : Kept Q O N (settle c s) := by
  unfold settle
  repeat' first
    | (with_reducible first
        | assumption | apply promote_inv | apply abandon_inv)
    | split

theorem chaseFinish_inv (c : Nat) (j : Compose) (s : State) (hg : Kept Q O N s) : Kept Q O N (chaseFinish c j s) := by
  unfold chaseFinish
  try dsimp only
  repeat' first
    | (with_reducible first
        | assumption | apply promote_inv | apply canUpd_inv | apply foldl_inv | apply foldl_inv_fst
        | apply foldl_inv_snd | apply foldl_inv_snd2)
    | (show _ = _; rfl) | (refine time_keep (Q := Q) (O := O) (N := N) ?_ rfl rfl rfl rfl)
    | (simp only [kept_mk]; with_reducible refine keptAt ?_) | intro _ | dsimp only
    | (refine pair_inv (by with_reducible assumption) ?_) | (refine pair_inv2 (by with_reducible assumption) ?_)
    | (refine pair_inv3 (by with_reducible assumption) ?_) | (refine pair_inv5 (by with_reducible assumption) ?_)
    | split

theorem chaseNext_inv (c : Nat) (s : State) (hg : Kept Q O N s) : Kept Q O N (chaseNext c s) := by
  unfold chaseNext
  try dsimp only
  repeat' first
    | (with_reducible first
        | assumption | apply chaseFinish_inv | apply canUpd_inv | apply foldl_inv | apply foldl_inv_fst
        | apply foldl_inv_snd | apply foldl_inv_snd2)
    | (show _ = _; rfl) | (refine time_keep (Q := Q) (O := O) (N := N) ?_ rfl rfl rfl rfl)
    | (simp only [kept_mk]; with_reducible refine keptAt ?_) | intro _ | dsimp only
    | (refine pair_inv (by with_reducible assumption) ?_) | (refine pair_inv2 (by with_reducible assumption) ?_)
    | (refine pair_inv3 (by with_reducible assumption) ?_) | (refine pair_inv5 (by with_reducible assumption) ?_)
    | split

theorem chaseSettle_inv (c : Nat) (n : Nat) (s : State) (hg : Kept Q O N s) : Kept Q O N (chaseSettle c n s) := by
  unfold chaseSettle
  try dsimp only
  repeat' first
    | (with_reducible first
        | assumption | apply chaseNext_inv | apply chaseFinish_inv | apply foldl_inv | apply foldl_inv_fst
        | apply foldl_inv_snd | apply foldl_inv_snd2)
    | (show _ = _; rfl) | (refine time_keep (Q := Q) (O := O) (N := N) ?_ rfl rfl rfl rfl)
    | (simp only [kept_mk]; with_reducible refine keptAt ?_) | intro _ | dsimp only
    | (refine pair_inv (by with_reducible assumption) ?_) | (refine pair_inv2 (by with_reducible assumption) ?_)
    | (refine pair_inv3 (by with_reducible assumption) ?_) | (refine pair_inv5 (by with_reducible assumption) ?_)
    | split

theorem takeCommit_inv (c : Nat) (n : Nat) (s : State) (hg : Kept Q O N s) : Kept Q O N (takeCommit c n s) := by
  unfold takeCommit
  repeat' first
    | (with_reducible first
        | assumption | apply canSet_inv | apply withComp_inv)
    | split

theorem arriveStitches_inv (k : Nat) (u : OpenUnit) (f : Surf) (t : Tab (List W32)) (ps : List (Nat × Nat)) (s : State)
    (hg : Kept Q O N s) : Kept Q O N (arriveStitches k u f t ps s) := by
  unfold arriveStitches
  try dsimp only
  repeat' first
    | (with_reducible first
        | assumption | apply writeStitch_inv | apply foldl_inv | apply foldl_inv_fst | apply foldl_inv_snd
        | apply foldl_inv_snd2)
    | (show _ = _; rfl) | (refine time_keep (Q := Q) (O := O) (N := N) ?_ rfl rfl rfl rfl)
    | (simp only [kept_mk]; with_reducible refine keptAt ?_) | intro _ | dsimp only
    | (refine pair_inv (by with_reducible assumption) ?_) | (refine pair_inv2 (by with_reducible assumption) ?_)
    | (refine pair_inv3 (by with_reducible assumption) ?_) | (refine pair_inv5 (by with_reducible assumption) ?_)
    | split

theorem arriveRows_inv (x : Canvas) (row : Nat) (s : State) (l : LayerSel) (hg : Kept Q O N s) : Kept Q O N (arriveRows x row s l) := by
  unfold arriveRows
  try dsimp only
  repeat' first
    | (with_reducible first
        | assumption | apply arriveStitches_inv | apply foldl_inv | apply foldl_inv_fst | apply foldl_inv_snd
        | apply foldl_inv_snd2)
    | (show _ = _; rfl) | (refine time_keep (Q := Q) (O := O) (N := N) ?_ rfl rfl rfl rfl)
    | (simp only [kept_mk]; with_reducible refine keptAt ?_) | intro _ | dsimp only
    | (refine pair_inv (by with_reducible assumption) ?_) | (refine pair_inv2 (by with_reducible assumption) ?_)
    | (refine pair_inv3 (by with_reducible assumption) ?_) | (refine pair_inv5 (by with_reducible assumption) ?_)
    | split

theorem frameCut_inv (c : Nat) (g : Nat) (env : CutEnv) (s : State) (hg : Kept Q O N s) : Kept Q O N (frameCut c g env s) := by
  unfold frameCut
  try dsimp only
  repeat' first
    | (with_reducible first
        | assumption | apply takeCommit_inv | apply settle_inv | apply sourceLate_inv | apply canSet_inv
        | apply composeRows_inv | apply canUpd_inv | apply composeReport_inv | apply foldl_inv
        | apply foldl_inv_fst | apply foldl_inv_snd | apply foldl_inv_snd2)
    | (show _ = _; rfl) | (refine time_keep (Q := Q) (O := O) (N := N) ?_ rfl rfl rfl rfl)
    | (simp only [kept_mk]; with_reducible refine keptAt ?_) | intro _ | dsimp only
    | (refine pair_inv (by with_reducible assumption) ?_) | (refine pair_inv2 (by with_reducible assumption) ?_)
    | (refine pair_inv3 (by with_reducible assumption) ?_) | (refine pair_inv5 (by with_reducible assumption) ?_)
    | split

theorem chaseOpen_inv (c : Nat) (env : CutEnv) (s : State) (hg : Kept Q O N s) : Kept Q O N (chaseOpen c env s) := by
  unfold chaseOpen
  try dsimp only
  repeat' first
    | (with_reducible first
        | assumption | apply takeCommit_inv | apply chaseNext_inv | apply canSet_inv | apply foldl_inv
        | apply foldl_inv_fst | apply foldl_inv_snd | apply foldl_inv_snd2)
    | (show _ = _; rfl) | (refine time_keep (Q := Q) (O := O) (N := N) ?_ rfl rfl rfl rfl)
    | (simp only [kept_mk]; with_reducible refine keptAt ?_) | intro _ | dsimp only
    | (refine pair_inv (by with_reducible assumption) ?_) | (refine pair_inv2 (by with_reducible assumption) ?_)
    | (refine pair_inv3 (by with_reducible assumption) ?_) | (refine pair_inv5 (by with_reducible assumption) ?_)
    | split

theorem chaseRow_inv (c : Nat) (env : CutEnv) (s : State) (hg : Kept Q O N s) : Kept Q O N (chaseRow c env s) := by
  unfold chaseRow
  try dsimp only
  repeat' first
    | (with_reducible first
        | assumption | apply chaseOpen_inv | apply composeRows_inv | apply arriveRows_inv | apply canUpd_inv
        | apply foldl_inv | apply foldl_inv_fst | apply foldl_inv_snd | apply foldl_inv_snd2)
    | (show _ = _; rfl) | (refine time_keep (Q := Q) (O := O) (N := N) ?_ rfl rfl rfl rfl)
    | (simp only [kept_mk]; with_reducible refine keptAt ?_) | intro _ | dsimp only
    | (refine pair_inv (by with_reducible assumption) ?_) | (refine pair_inv2 (by with_reducible assumption) ?_)
    | (refine pair_inv3 (by with_reducible assumption) ?_) | (refine pair_inv5 (by with_reducible assumption) ?_)
    | split

theorem canvasCut_inv (c : Nat) (env : CutEnv) (s : State) (hg : Kept Q O N s) : Kept Q O N (canvasCut c env s) := by
  unfold canvasCut
  try dsimp only
  repeat' first
    | (with_reducible first
        | assumption | apply chaseRow_inv | apply frameCut_inv | apply foldl_inv | apply foldl_inv_fst)
    | (show _ = _; rfl) | (refine time_keep (Q := Q) (O := O) (N := N) ?_ rfl rfl rfl rfl)
    | (simp only [kept_mk]; with_reducible refine keptAt ?_) | intro _ | dsimp only | split

theorem composeDeadline_inv (c : Nat) (s : State) (hg : Kept Q O N s) : Kept Q O N (composeDeadline c s) := by
  unfold composeDeadline
  try dsimp only
  repeat' first
    | (with_reducible first
        | assumption | apply abandon_inv | apply foldl_inv | apply foldl_inv_fst)
    | (show _ = _; rfl) | (refine time_keep (Q := Q) (O := O) (N := N) ?_ rfl rfl rfl rfl)
    | (simp only [kept_mk]; with_reducible refine keptAt ?_) | intro _ | dsimp only | split

theorem chaseRowDeadline_inv (c : Nat) (row : Nat) (s : State) (hg : Kept Q O N s) : Kept Q O N (chaseRowDeadline c row s) := by
  unfold chaseRowDeadline
  try dsimp only
  repeat' first
    | (with_reducible first
        | assumption | apply canSet_inv | apply foldl_inv | apply foldl_inv_fst | apply foldl_inv_snd
        | apply foldl_inv_snd2)
    | (show _ = _; rfl) | (refine time_keep (Q := Q) (O := O) (N := N) ?_ rfl rfl rfl rfl)
    | (simp only [kept_mk]; with_reducible refine keptAt ?_) | intro _ | dsimp only
    | (refine pair_inv (by with_reducible assumption) ?_) | (refine pair_inv2 (by with_reducible assumption) ?_)
    | (refine pair_inv3 (by with_reducible assumption) ?_) | (refine pair_inv5 (by with_reducible assumption) ?_)
    | split

theorem layerUnderrun_inv (c : Nat) (slot : Nat) (row : Nat) (waited : Nat) (s : State) (hg : Kept Q O N s) :
    Kept Q O N (layerUnderrun c slot row waited s) := by
  unfold layerUnderrun
  try dsimp only
  repeat' first
    | (with_reducible first
        | assumption | apply composeRows_inv | apply canSet_inv | apply foldl_inv | apply foldl_inv_fst)
    | (show _ = _; rfl) | (refine time_keep (Q := Q) (O := O) (N := N) ?_ rfl rfl rfl rfl)
    | (simp only [kept_mk]; with_reducible refine keptAt ?_) | intro _ | dsimp only | split

theorem auditWrite_inv (ws : List W32) (s : State) (hg : Kept Q O N s) : Kept Q O N (auditWrite ws s) := by
  unfold auditWrite
  try dsimp only
  repeat' first
    | (with_reducible first
        | assumption | apply ringWrite_inv | apply withEnc_inv | apply ringDiscard_inv | apply raise_inv
        | apply foldl_inv | apply foldl_inv_fst)
    | (show _ = _; rfl) | (refine time_keep (Q := Q) (O := O) (N := N) ?_ rfl rfl rfl rfl)
    | (simp only [kept_mk]; with_reducible refine keptAt ?_) | intro _ | dsimp only | split

theorem withPair_inv (s : State) (u : PairUnit) (hg : Kept Q O N s) : Kept Q O N (withPair s u) := by
  unfold withPair
  try dsimp only
  repeat' first
    | (with_reducible first
        | assumption | apply foldl_inv | apply foldl_inv_fst)
    | (show _ = _; rfl) | (refine time_keep (Q := Q) (O := O) (N := N) ?_ rfl rfl rfl rfl)
    | (simp only [kept_mk]; with_reducible refine keptAt ?_) | intro _ | dsimp only | split

theorem diverged_inv (a : DigRec) (b : DigRec) (s : State) (hg : Kept Q O N s) : Kept Q O N (diverged a b s) := by
  unfold diverged
  try dsimp only
  repeat' first
    | (with_reducible first
        | assumption | apply withPair_inv | apply raise_inv | apply foldl_inv | apply foldl_inv_fst)
    | (show _ = _; rfl) | (refine time_keep (Q := Q) (O := O) (N := N) ?_ rfl rfl rfl rfl)
    | (simp only [kept_mk]; with_reducible refine keptAt ?_) | intro _ | dsimp only | split

theorem cmpResult_inv (o : Nat) (code : Nat) (s : State) (hg : Kept Q O N s) : Kept Q O N (cmpResult o code s) := by
  unfold cmpResult
  repeat' first
    | (with_reducible first
        | assumption | apply withPair_inv)
    | split

theorem compareRecs_inv (a : DigRec) (b : DigRec) (s : State) (hg : Kept Q O N s) : Kept Q O N (compareRecs a b s) := by
  unfold compareRecs
  repeat' first
    | (with_reducible first
        | assumption | apply withPair_inv | apply diverged_inv)
    | split

theorem comparePair_inv (a : DigRec) (b : DigRec) (s : State) (hg : Kept Q O N s) : Kept Q O N (comparePair a b s) := by
  unfold comparePair
  repeat' first
    | (with_reducible first
        | assumption | apply compareRecs_inv | apply cmpResult_inv)
    | split

theorem ownDigest_inv (a : DigRec) (s : State) (hg : Kept Q O N s) : Kept Q O N (ownDigest a s) := by
  unfold ownDigest
  repeat' first
    | (with_reducible first
        | assumption | apply send_inv | apply comparePair_inv | apply withPair_inv)
    | split

theorem opOutputSet_inv (c : Cmd) (s : State) (hg : Kept Q O N s) : Kept Q O N (opOutputSet c s).1 := by
  unfold opOutputSet
  try dsimp only
  repeat' first
    | (with_reducible first
        | assumption | apply checked_inv | apply outUpd_inv | apply foldl_inv | apply foldl_inv_fst
        | apply foldl_inv_snd | apply foldl_inv_snd2)
    | (show _ = _; rfl) | (refine time_keep (Q := Q) (O := O) (N := N) ?_ rfl rfl rfl rfl)
    | (simp only [kept_mk]; with_reducible refine keptAt ?_) | intro _ | dsimp only
    | (refine pair_inv (by with_reducible assumption) ?_) | (refine pair_inv2 (by with_reducible assumption) ?_)
    | (refine pair_inv3 (by with_reducible assumption) ?_) | (refine pair_inv5 (by with_reducible assumption) ?_)
    | split

theorem linkEvent_inv (o : Nat) (code : Nat) (s : State) (hg : Kept Q O N s) : Kept Q O N (linkEvent o code s) := by
  unfold linkEvent
  repeat' first
    | (with_reducible first
        | assumption | apply outUpd_inv | apply raise_inv)
    | split

theorem trainBegin_inv (o : Nat) (s : State) (hg : Kept Q O N s) : Kept Q O N (trainBegin o s) := by
  unfold trainBegin
  repeat' first
    | (with_reducible first
        | assumption | apply outUpd_inv)
    | split

theorem vhpdHigh_inv (o : Nat) (s : State) (hg : Kept Q O N s) : Kept Q O N (vhpdHigh o s) := by
  unfold vhpdHigh
  repeat' first
    | (with_reducible first
        | assumption | apply outUpd_inv | apply trainBegin_inv | apply linkEvent_inv)
    | split

theorem vhpdIrq_inv (o : Nat) (ok : Bool) (s : State) (hg : Kept Q O N s) : Kept Q O N (vhpdIrq o ok s) := by
  unfold vhpdIrq
  repeat' first
    | (with_reducible first
        | assumption | apply linkEvent_inv | apply trainBegin_inv)
    | split

theorem vhpdLow_inv (o : Nat) (s : State) (hg : Kept Q O N s) : Kept Q O N (vhpdLow o s) := by
  unfold vhpdLow
  repeat' first
    | (with_reducible first
        | assumption | apply outUpd_inv | apply linkEvent_inv)
    | split

theorem trainEnd_inv (o : Nat) (t : LinkTraining) (s : State) (hg : Kept Q O N s) : Kept Q O N (trainEnd o t s) := by
  unfold trainEnd
  try dsimp only
  repeat' first
    | (with_reducible first
        | assumption | apply linkEvent_inv | apply outSet_inv | apply foldl_inv | apply foldl_inv_fst)
    | (show _ = _; rfl) | (refine time_keep (Q := Q) (O := O) (N := N) ?_ rfl rfl rfl rfl)
    | (simp only [kept_mk]; with_reducible refine keptAt ?_) | intro _ | dsimp only | split

theorem trainRetry_inv (o : Nat) (s : State) (hg : Kept Q O N s) : Kept Q O N (trainRetry o s) := by
  unfold trainRetry
  repeat' first
    | (with_reducible first
        | assumption | apply trainBegin_inv)
    | split

theorem outOn_inv (o : Nat) (s : State) (hg : Kept Q O N s) : Kept Q O N (outOn o s) := by
  unfold outOn
  repeat' first
    | (with_reducible first
        | assumption | apply outSet_inv)
    | split

theorem opOutputEnable_inv (c : Cmd) (s : State) (hg : Kept Q O N s) : Kept Q O N (opOutputEnable c s).1 := by
  unfold opOutputEnable
  try dsimp only
  repeat' first
    | (with_reducible first
        | assumption | apply checked_inv | apply laneEnable_inv | apply outOn_inv | apply foldl_inv
        | apply foldl_inv_fst)
    | (show _ = _; rfl) | (refine time_keep (Q := Q) (O := O) (N := N) ?_ rfl rfl rfl rfl)
    | (simp only [kept_mk]; with_reducible refine keptAt ?_) | intro _ | dsimp only | split

theorem outOff_inv (o : Nat) (s : State) (hg : Kept Q O N s) : Kept Q O N (outOff o s) := by
  unfold outOff
  repeat' first
    | (with_reducible first
        | assumption | apply linkEvent_inv | apply outSet_inv)
    | split

theorem opOutputDisable_inv (c : Cmd) (s : State) (hg : Kept Q O N s) : Kept Q O N (opOutputDisable c s).1 := by
  unfold opOutputDisable
  try dsimp only
  repeat' first
    | (with_reducible first
        | assumption | apply checked_inv | apply outOff_inv | apply foldl_inv | apply foldl_inv_fst)
    | (show _ = _; rfl) | (refine time_keep (Q := Q) (O := O) (N := N) ?_ rfl rfl rfl rfl)
    | (simp only [kept_mk]; with_reducible refine keptAt ?_) | intro _ | dsimp only | split

theorem opOutputView_inv (c : Cmd) (s : State) (hg : Kept Q O N s) : Kept Q O N (opOutputView c s).1 := by
  unfold opOutputView
  repeat' first
    | (with_reducible first
        | assumption | apply checked_inv | apply outUpd_inv)
    | split

theorem opOutputFaultClear_inv (c : Cmd) (s : State) (hg : Kept Q O N s) : Kept Q O N (opOutputFaultClear c s).1 := by
  unfold opOutputFaultClear
  repeat' first
    | (with_reducible first
        | assumption | apply checked_inv | apply outUpd_inv)
    | split

theorem freeWords_inv (n : Nat) (s : State) (h : Kept Q O N s) : Kept Q O N (freeWords n s).2 := by
  induction n generalizing s with
  | zero => exact h
  | succ n ih => exact ih _ (takeFree_inv _ h)

theorem opOutputAux_inv (c : Cmd) (s : State) (hg : Kept Q O N s) : Kept Q O N (opOutputAux c s).1 := by
  unfold opOutputAux
  try dsimp only
  repeat' first
    | (with_reducible first
        | assumption | apply checked_inv | apply freeWords_inv | apply foldl_inv | apply foldl_inv_fst)
    | (show _ = _; rfl) | (refine time_keep (Q := Q) (O := O) (N := N) ?_ rfl rfl rfl rfl)
    | (simp only [kept_mk]; with_reducible refine keptAt ?_) | intro _ | dsimp only | split

theorem opSwatchSet_inv (c : Cmd) (s : State) (hg : Kept Q O N s) : Kept Q O N (opSwatchSet c s).1 := by
  unfold opSwatchSet
  try dsimp only
  repeat' first
    | (with_reducible first
        | assumption | apply withScan_inv | apply checked_inv | apply outUpd_inv | apply foldl_inv
        | apply foldl_inv_fst)
    | (show _ = _; rfl) | (refine time_keep (Q := Q) (O := O) (N := N) ?_ rfl rfl rfl rfl)
    | (simp only [kept_mk]; with_reducible refine keptAt ?_) | intro _ | dsimp only | split

theorem opOutputStatus_inv (c : Cmd) (s : State) (hg : Kept Q O N s) : Kept Q O N (opOutputStatus c s).1 := by
  unfold opOutputStatus
  try dsimp only
  repeat' first
    | (with_reducible first
        | assumption | apply checked_inv | apply foldl_inv | apply foldl_inv_fst)
    | (show _ = _; rfl) | (refine time_keep (Q := Q) (O := O) (N := N) ?_ rfl rfl rfl rfl)
    | (simp only [kept_mk]; with_reducible refine keptAt ?_) | intro _ | dsimp only | split

theorem drillEcho_inv (o : Nat) (good : Bool) (s : State) (hg : Kept Q O N s) : Kept Q O N (drillEcho o good s) := by
  unfold drillEcho
  repeat' first
    | (with_reducible first
        | assumption | apply withPair_inv)
    | split

theorem echoPoll_inv (o : Nat) (a : Option EchoRead) (s : State) (hg : Kept Q O N s) : Kept Q O N (echoPoll o a s) := by
  unfold echoPoll
  try dsimp only
  repeat' first
    | (with_reducible first
        | assumption | apply drillEcho_inv | apply outSet_inv | apply raise_inv | apply foldl_inv
        | apply foldl_inv_fst)
    | (show _ = _; rfl) | (refine time_keep (Q := Q) (O := O) (N := N) ?_ rfl rfl rfl rfl)
    | (simp only [kept_mk]; with_reducible refine keptAt ?_) | intro _ | dsimp only | split

theorem soClear_inv (off : Nat) (s : State) (hg : Kept Q O N s) : Kept Q O N (soClear off s) := by
  unfold soClear
  repeat' first
    | (with_reducible first
        | assumption | apply outUpd_inv)
    | split

theorem lifeline_inv (g : RowCtx) (cx : Nat) (cy : Nat) (s : State) (hg : Kept Q O N s) : Kept Q O N (lifeline g cx cy s).2.2 := by
  unfold lifeline
  try dsimp only
  repeat' first
    | (with_reducible first
        | assumption | apply fetchStitch_inv | apply foldl_inv | apply foldl_inv_fst | apply foldl_inv_snd
        | apply foldl_inv_snd2)
    | (show _ = _; rfl) | (refine time_keep (Q := Q) (O := O) (N := N) ?_ rfl rfl rfl rfl)
    | (simp only [kept_mk]; with_reducible refine keptAt ?_) | intro _ | dsimp only
    | (refine pair_inv (by with_reducible assumption) ?_) | (refine pair_inv2 (by with_reducible assumption) ?_)
    | (refine pair_inv3 (by with_reducible assumption) ?_) | (refine pair_inv5 (by with_reducible assumption) ?_)
    | split

theorem canvasPart_inv (g : RowCtx) (cx : Nat) (cy : Nat) (s : State) (hg : Kept Q O N s) : Kept Q O N (canvasPart g cx cy s).2.2 := by
  unfold canvasPart
  try dsimp only
  repeat' first
    | (with_reducible first
        | assumption | apply fetchStitch_inv | apply lifeline_inv | apply foldl_inv | apply foldl_inv_fst
        | apply foldl_inv_snd | apply foldl_inv_snd2)
    | (show _ = _; rfl) | (refine time_keep (Q := Q) (O := O) (N := N) ?_ rfl rfl rfl rfl)
    | (simp only [kept_mk]; with_reducible refine keptAt ?_) | intro _ | dsimp only
    | (refine pair_inv (by with_reducible assumption) ?_) | (refine pair_inv2 (by with_reducible assumption) ?_)
    | (refine pair_inv3 (by with_reducible assumption) ?_) | (refine pair_inv5 (by with_reducible assumption) ?_)
    | split

theorem rowParts_inv (g : RowCtx) (ps : List (Nat × Nat)) (s : State) (h : Kept Q O N s) : Kept Q O N (rowParts g ps s).2.2 := by
  induction ps generalizing s with
  | nil => exact h
  | cons p ps ih =>
    unfold rowParts
    refine ih _ ?_
    split
    · exact canvasPart_inv _ _ _ _ h
    · exact h

theorem judgeRow_inv (g : RowCtx) (s : State) (hg : Kept Q O N s) : Kept Q O N (judgeRow g s).2.2.2.2 := by
  unfold judgeRow
  try dsimp only
  repeat' first
    | (with_reducible first
        | assumption | apply rowParts_inv | apply foldl_inv | apply foldl_inv_fst | apply foldl_inv_snd
        | apply foldl_inv_snd2)
    | (show _ = _; rfl) | (refine time_keep (Q := Q) (O := O) (N := N) ?_ rfl rfl rfl rfl)
    | (simp only [kept_mk]; with_reducible refine keptAt ?_) | intro _ | dsimp only
    | (refine pair_inv (by with_reducible assumption) ?_) | (refine pair_inv2 (by with_reducible assumption) ?_)
    | (refine pair_inv3 (by with_reducible assumption) ?_) | (refine pair_inv5 (by with_reducible assumption) ?_)
    | split

theorem holdEnds_inv (o : Nat) (s : State) (hg : Kept Q O N s) : Kept Q O N (holdEnds o s) := by
  unfold holdEnds
  try dsimp only
  repeat' first
    | (with_reducible first
        | assumption | apply outSet_inv | apply trainBegin_inv | apply foldl_inv | apply foldl_inv_fst)
    | (show _ = _; rfl) | (refine time_keep (Q := Q) (O := O) (N := N) ?_ rfl rfl rfl rfl)
    | (simp only [kept_mk]; with_reducible refine keptAt ?_) | intro _ | dsimp only | split

theorem viewMoves_inv (o : Nat) (n : Nat) (s : State) (hg : Kept Q O N s) : Kept Q O N (viewMoves o n s) := by
  unfold viewMoves
  try dsimp only
  repeat' first
    | (with_reducible first
        | assumption | apply outSet_inv | apply foldl_inv | apply foldl_inv_fst)
    | (show _ = _; rfl) | (refine time_keep (Q := Q) (O := O) (N := N) ?_ rfl rfl rfl rfl)
    | (simp only [kept_mk]; with_reducible refine keptAt ?_) | intro _ | dsimp only | split

theorem frameBegin_inv (o : Nat) (n : Nat) (s : State) (hg : Kept Q O N s) : Kept Q O N (frameBegin o n s) := by
  unfold frameBegin
  try dsimp only
  repeat' first
    | (with_reducible first
        | assumption | apply chaseSettle_inv | apply settle_inv | apply viewMoves_inv | apply holdEnds_inv
        | apply outSet_inv | apply outUpd_inv | apply foldl_inv | apply foldl_inv_fst | apply foldl_inv_snd
        | apply foldl_inv_snd2)
    | (show _ = _; rfl) | (refine time_keep (Q := Q) (O := O) (N := N) ?_ rfl rfl rfl rfl)
    | (simp only [kept_mk]; with_reducible refine keptAt ?_) | intro _ | dsimp only
    | (refine pair_inv (by with_reducible assumption) ?_) | (refine pair_inv2 (by with_reducible assumption) ?_)
    | (refine pair_inv3 (by with_reducible assumption) ?_) | (refine pair_inv5 (by with_reducible assumption) ?_)
    | split

theorem lifeVerify_inv (g : RowCtx) (p : Part) (s : State) (hg : Kept Q O N s) : Kept Q O N (lifeVerify g p s).2.2 := by
  unfold lifeVerify
  try dsimp only
  repeat' first
    | (with_reducible first
        | assumption | apply fetchStitch_inv | apply foldl_inv | apply foldl_inv_fst | apply foldl_inv_snd
        | apply foldl_inv_snd2)
    | (show _ = _; rfl) | (refine time_keep (Q := Q) (O := O) (N := N) ?_ rfl rfl rfl rfl)
    | (simp only [kept_mk]; with_reducible refine keptAt ?_) | intro _ | dsimp only
    | (refine pair_inv (by with_reducible assumption) ?_) | (refine pair_inv2 (by with_reducible assumption) ?_)
    | (refine pair_inv3 (by with_reducible assumption) ?_) | (refine pair_inv5 (by with_reducible assumption) ?_)
    | split

theorem lifeWrite_inv (g : RowCtx) (rescan : Bool) (s : State) (p : Part) (hg : Kept Q O N s) : Kept Q O N (lifeWrite g rescan s p) := by
  unfold lifeWrite
  try dsimp only
  repeat' first
    | (with_reducible first
        | assumption | apply lifeVerify_inv | apply outUpd_inv | apply writeStitch_inv | apply canUpd_inv
        | apply send_inv | apply foldl_inv | apply foldl_inv_fst | apply foldl_inv_snd | apply foldl_inv_snd2)
    | (show _ = _; rfl) | (refine time_keep (Q := Q) (O := O) (N := N) ?_ rfl rfl rfl rfl)
    | (simp only [kept_mk]; with_reducible refine keptAt ?_) | intro _ | dsimp only
    | (refine pair_inv (by with_reducible assumption) ?_) | (refine pair_inv2 (by with_reducible assumption) ?_)
    | (refine pair_inv3 (by with_reducible assumption) ?_) | (refine pair_inv5 (by with_reducible assumption) ?_)
    | split

theorem rowFetch_inv (o : Nat) (row : Nat) (env : ScanEnv) (s : State) (hg : Kept Q O N s) : Kept Q O N (rowFetch o row env s) := by
  unfold rowFetch
  try dsimp only
  repeat' first
    | (with_reducible first
        | assumption | apply judgeRow_inv | apply outSet_inv | apply lifeWrite_inv | apply foldl_inv
        | apply foldl_inv_fst | apply foldl_inv_snd | apply foldl_inv_snd2)
    | (show _ = _; rfl) | (refine time_keep (Q := Q) (O := O) (N := N) ?_ rfl rfl rfl rfl)
    | (simp only [kept_mk]; with_reducible refine keptAt ?_) | intro _ | dsimp only
    | (refine pair_inv (by with_reducible assumption) ?_) | (refine pair_inv2 (by with_reducible assumption) ?_)
    | (refine pair_inv3 (by with_reducible assumption) ?_) | (refine pair_inv5 (by with_reducible assumption) ?_)
    | split

theorem scanRow_inv (o : Nat) (row : Nat) (env : ScanEnv) (s : State) (hg : Kept Q O N s) : Kept Q O N (scanRow o row env s) := by
  unfold scanRow
  try dsimp only
  repeat' first
    | (with_reducible first
        | assumption | apply rowFetch_inv | apply frameBegin_inv | apply foldl_inv | apply foldl_inv_fst
        | apply foldl_inv_snd | apply foldl_inv_snd2)
    | (show _ = _; rfl) | (refine time_keep (Q := Q) (O := O) (N := N) ?_ rfl rfl rfl rfl)
    | (simp only [kept_mk]; with_reducible refine keptAt ?_) | intro _ | dsimp only
    | (refine pair_inv (by with_reducible assumption) ?_) | (refine pair_inv2 (by with_reducible assumption) ?_)
    | (refine pair_inv3 (by with_reducible assumption) ?_) | (refine pair_inv5 (by with_reducible assumption) ?_)
    | split

theorem frameLanes_inv (n : Nat) (s : State) (o : Nat) (hg : Kept Q O N s) : Kept Q O N (frameLanes n s o) := by
  unfold frameLanes
  try dsimp only
  repeat' first
    | (with_reducible first
        | assumption | apply outSet_inv | apply foldl_inv | apply foldl_inv_fst | apply foldl_inv_snd
        | apply foldl_inv_snd2)
    | (show _ = _; rfl) | (refine time_keep (Q := Q) (O := O) (N := N) ?_ rfl rfl rfl rfl)
    | (simp only [kept_mk]; with_reducible refine keptAt ?_) | intro _ | dsimp only
    | (refine pair_inv (by with_reducible assumption) ?_) | (refine pair_inv2 (by with_reducible assumption) ?_)
    | (refine pair_inv3 (by with_reducible assumption) ?_) | (refine pair_inv5 (by with_reducible assumption) ?_)
    | split

theorem frameSettle_inv (g : Nat) (n : Nat) (s : State) (c : Nat) (hg : Kept Q O N s) : Kept Q O N (frameSettle g n s c) := by
  unfold frameSettle
  repeat' first
    | (with_reducible first
        | assumption | apply settle_inv)
    | split

theorem commitsShown_inv (g : Nat) (n : Nat) (s : State) (hg : Kept Q O N s) : Kept Q O N (commitsShown g n s) := by
  unfold commitsShown
  try dsimp only
  repeat' first
    | (with_reducible first
        | assumption | apply canUpd_inv | apply raise_inv | apply withComp_inv | apply foldl_inv
        | apply foldl_inv_fst)
    | (show _ = _; rfl) | (refine time_keep (Q := Q) (O := O) (N := N) ?_ rfl rfl rfl rfl)
    | (simp only [kept_mk]; with_reducible refine keptAt ?_) | intro _ | dsimp only | split

theorem nightPulses_inv (g : Nat) (n : Nat) (s : State) (hg : Kept Q O N s) : Kept Q O N (nightPulses g n s) := by
  unfold nightPulses
  try dsimp only
  repeat' first
    | (with_reducible first
        | assumption | apply takeFree_inv | apply send_inv | apply foldl_inv | apply foldl_inv_fst)
    | (show _ = _; rfl) | (refine time_keep (Q := Q) (O := O) (N := N) ?_ rfl rfl rfl rfl)
    | (simp only [kept_mk]; with_reducible refine keptAt ?_) | intro _ | dsimp only | split

theorem proofStep_inv (g : Nat) (s : State) (hg : Kept Q O N s) : Kept Q O N (proofStep g s) := by
  unfold proofStep
  try dsimp only
  repeat' first
    | (with_reducible first
        | assumption | apply withPair_inv | apply foldl_inv | apply foldl_inv_fst)
    | (show _ = _; rfl) | (refine time_keep (Q := Q) (O := O) (N := N) ?_ rfl rfl rfl rfl)
    | (simp only [kept_mk]; with_reducible refine keptAt ?_) | intro _ | dsimp only | split

theorem frameStart_inv (g : Nat) (s : State) (hg : Kept Q O N s) : Kept Q O N (frameStart g s) := by
  unfold frameStart
  try dsimp only
  repeat' first
    | (with_reducible first
        | assumption | apply frameLanes_inv | apply flSet_inv | apply frameSettle_inv | apply nightPulses_inv
        | apply proofStep_inv | apply commitsShown_inv | apply foldl_inv | apply foldl_inv_fst)
    | (show _ = _; rfl) | (refine time_keep (Q := Q) (O := O) (N := N) ?_ rfl rfl rfl rfl)
    | (simp only [kept_mk]; with_reducible refine keptAt ?_) | intro _ | dsimp only | split

theorem recalStart_inv (s : State) (i : Nat) (hg : Kept Q O N s) : Kept Q O N (recalStart s i) := by
  unfold recalStart
  repeat' first
    | (with_reducible first
        | assumption | apply laneEnter_inv | apply laneUpd_inv)
    | split

theorem recalWaiting_inv (o : Nat) (s : State) (hg : Kept Q O N s) : Kept Q O N (recalWaiting o s) := by
  unfold recalWaiting
  try dsimp only
  repeat' first
    | (with_reducible first
        | assumption | apply recalStart_inv | apply foldl_inv | apply foldl_inv_fst)
    | (show _ = _; rfl) | (refine time_keep (Q := Q) (O := O) (N := N) ?_ rfl rfl rfl rfl)
    | (simp only [kept_mk]; with_reducible refine keptAt ?_) | intro _ | dsimp only | split

theorem outputFault_inv (o : Nat) (cause : Nat) (sy : Nat) (sx : Nat) (crc : W32) (got : W32) (s : State) (hg : Kept Q O N s) : Kept Q O N
    (outputFault o cause sy sx crc got s) := by
  unfold outputFault
  try dsimp only
  repeat' first
    | (with_reducible first
        | assumption | apply outSet_inv | apply withPair_inv | apply raise_inv | apply foldl_inv
        | apply foldl_inv_fst | apply foldl_inv_snd | apply foldl_inv_snd2)
    | (show _ = _; rfl) | (refine time_keep (Q := Q) (O := O) (N := N) ?_ rfl rfl rfl rfl)
    | (simp only [kept_mk]; with_reducible refine keptAt ?_) | intro _ | dsimp only
    | (refine pair_inv (by with_reducible assumption) ?_) | (refine pair_inv2 (by with_reducible assumption) ?_)
    | (refine pair_inv3 (by with_reducible assumption) ?_) | (refine pair_inv5 (by with_reducible assumption) ?_)
    | split

theorem gapCheck_inv (o : Nat) (s : State) (hg : Kept Q O N s) : Kept Q O N (gapCheck o s) := by
  unfold gapCheck
  try dsimp only
  repeat' first
    | (with_reducible first
        | assumption | apply withPair_inv | apply foldl_inv | apply foldl_inv_fst | apply foldl_inv_snd
        | apply foldl_inv_snd2)
    | (show _ = _; rfl) | (refine time_keep (Q := Q) (O := O) (N := N) ?_ rfl rfl rfl rfl)
    | (simp only [kept_mk]; with_reducible refine keptAt ?_) | intro _ | dsimp only
    | (refine pair_inv (by with_reducible assumption) ?_) | (refine pair_inv2 (by with_reducible assumption) ?_)
    | (refine pair_inv3 (by with_reducible assumption) ?_) | (refine pair_inv5 (by with_reducible assumption) ?_)
    | split

theorem readbackCompare_inv (o : Nat) (row : Nat) (seen : List (Nat × List (List Nat))) (s : State) (hg : Kept Q O N s) : Kept Q O N
    (readbackCompare o row seen s) := by
  unfold readbackCompare
  try dsimp only
  repeat' first
    | (with_reducible first
        | assumption | apply outSet_inv | apply outputFault_inv | apply recalWaiting_inv | apply gapCheck_inv
        | apply foldl_inv | apply foldl_inv_fst | apply foldl_inv_snd | apply foldl_inv_snd2)
    | (show _ = _; rfl) | (refine time_keep (Q := Q) (O := O) (N := N) ?_ rfl rfl rfl rfl)
    | (simp only [kept_mk]; with_reducible refine keptAt ?_) | intro _ | dsimp only
    | (refine pair_inv (by with_reducible assumption) ?_) | (refine pair_inv2 (by with_reducible assumption) ?_)
    | (refine pair_inv3 (by with_reducible assumption) ?_) | (refine pair_inv5 (by with_reducible assumption) ?_)
    | split

theorem lockLoss_inv (o : Nat) (s : State) (hg : Kept Q O N s) : Kept Q O N (lockLoss o s) := by
  unfold lockLoss
  try dsimp only
  repeat' first
    | (with_reducible first
        | assumption | apply takeFree_inv | apply outputFault_inv | apply outSet_inv | apply foldl_inv
        | apply foldl_inv_fst)
    | (show _ = _; rfl) | (refine time_keep (Q := Q) (O := O) (N := N) ?_ rfl rfl rfl rfl)
    | (simp only [kept_mk]; with_reducible refine keptAt ?_) | intro _ | dsimp only | split

theorem keepAlive_inv (o : Nat) (s : State) (hg : Kept Q O N s) : Kept Q O N (keepAlive o s) := by
  unfold keepAlive
  try dsimp only
  repeat' first
    | (with_reducible first
        | assumption | apply outSet_inv | apply send_inv | apply recalWaiting_inv | apply foldl_inv
        | apply foldl_inv_fst)
    | (show _ = _; rfl) | (refine time_keep (Q := Q) (O := O) (N := N) ?_ rfl rfl rfl rfl)
    | (simp only [kept_mk]; with_reducible refine keptAt ?_) | intro _ | dsimp only | split

theorem verdictEvent_inv (code : Nat) (o : Nat) (n : Nat) (es : List (Nat × EgStitch)) (mask : Bool) (s : State)
 (hg : Kept Q O N s) : Kept Q O N (verdictEvent code o n es mask s) := by
  unfold verdictEvent
  repeat' first
    | (with_reducible first
        | assumption | apply raise_inv)
    | split

theorem scanReport_inv (o : Nat) (n : Nat) (fails : List CompFail) (s : State) (hg : Kept Q O N s) :
    Kept Q O N (scanReport o n fails s) := by
  unfold scanReport
  try dsimp only
  repeat' first
    | (with_reducible first
        | assumption | apply custodyReport_inv | apply foldl_inv | apply foldl_inv_fst)
    | (show _ = _; rfl) | (refine time_keep (Q := Q) (O := O) (N := N) ?_ rfl rfl rfl rfl)
    | (simp only [kept_mk]; with_reducible refine keptAt ?_) | intro _ | dsimp only | split

theorem frameFinish_inv (o : Nat) (n : Nat) (s : State) (hg : Kept Q O N s) : Kept Q O N (frameFinish o n s) := by
  unfold frameFinish
  repeat' first
    | (with_reducible first
        | assumption | apply scanReport_inv | apply verdictEvent_inv | apply auditWrite_inv | apply outSet_inv
        | apply ownDigest_inv)
    | split

theorem auditEntry_inv (o : Nat) (s : State) (hg : Kept Q O N s) : Kept Q O N (auditEntry o s) := by
  unfold auditEntry
  try dsimp only
  repeat' first
    | (with_reducible first
        | assumption | apply recalWaiting_inv | apply frameFinish_inv | apply foldl_inv | apply foldl_inv_fst
        | apply foldl_inv_snd | apply foldl_inv_snd2)
    | (show _ = _; rfl) | (refine time_keep (Q := Q) (O := O) (N := N) ?_ rfl rfl rfl rfl)
    | (simp only [kept_mk]; with_reducible refine keptAt ?_) | intro _ | dsimp only
    | (refine pair_inv (by with_reducible assumption) ?_) | (refine pair_inv2 (by with_reducible assumption) ?_)
    | (refine pair_inv3 (by with_reducible assumption) ?_) | (refine pair_inv5 (by with_reducible assumption) ?_)
    | split

theorem withTouch_inv (s : State) (u : TouchUnit) (hg : Kept Q O N s) : Kept Q O N (withTouch s u) := by
  unfold withTouch
  try dsimp only
  repeat' first
    | (with_reducible first
        | assumption | apply foldl_inv | apply foldl_inv_fst)
    | (show _ = _; rfl) | (refine time_keep (Q := Q) (O := O) (N := N) ?_ rfl rfl rfl rfl)
    | (simp only [kept_mk]; with_reducible refine keptAt ?_) | intro _ | dsimp only | split

theorem tpSet_inv (p : Nat) (x : TouchPanel) (s : State) (hg : Kept Q O N s) : Kept Q O N (tpSet p x s) := by
  unfold tpSet
  repeat' first
    | (with_reducible first
        | assumption | apply withTouch_inv)
    | split

theorem tpUpd_inv (p : Nat) (f : TouchPanel → TouchPanel) (s : State) (hg : Kept Q O N s) : Kept Q O N (tpUpd p f s) := by
  unfold tpUpd
  repeat' first
    | (with_reducible first
        | assumption | apply tpSet_inv)
    | split

theorem teSet_inv (e : Nat) (x : TouchEngine) (s : State) (hg : Kept Q O N s) : Kept Q O N (teSet e x s) := by
  unfold teSet
  repeat' first
    | (with_reducible first
        | assumption | apply withTouch_inv)
    | split

theorem touchEvent_inv (p : Nat) (s : State) (hg : Kept Q O N s) : Kept Q O N (touchEvent p s) := by
  unfold touchEvent
  repeat' first
    | (with_reducible first
        | assumption | apply raise_inv)
    | split

theorem gangEnter_inv (p : Nat) (s : State) (hg : Kept Q O N s) : Kept Q O N (gangEnter p s) := by
  unfold gangEnter
  repeat' first
    | (with_reducible first
        | assumption | apply touchEvent_inv | apply tpUpd_inv)
    | split

theorem gangLeave_inv (now : Nat) (p : Nat) (s : State) (hg : Kept Q O N s) : Kept Q O N (gangLeave now p s) := by
  unfold gangLeave
  repeat' first
    | (with_reducible first
        | assumption | apply touchEvent_inv | apply tpUpd_inv)
    | split

theorem gangsLeave_inv (s : State) (hg : Kept Q O N s) : Kept Q O N (gangsLeave s) := by
  unfold gangsLeave
  try dsimp only
  repeat' first
    | (with_reducible first
        | assumption | apply gangLeave_inv | apply foldl_inv | apply foldl_inv_fst)
    | (show _ = _; rfl) | (refine time_keep (Q := Q) (O := O) (N := N) ?_ rfl rfl rfl rfl)
    | (simp only [kept_mk]; with_reducible refine keptAt ?_) | intro _ | dsimp only | split

theorem touchQuiesce_inv (s : State) (hg : Kept Q O N s) : Kept Q O N (touchQuiesce s) := by
  unfold touchQuiesce
  try dsimp only
  repeat' first
    | (with_reducible first
        | assumption | apply withTouch_inv | apply gangEnter_inv | apply foldl_inv | apply foldl_inv_fst)
    | (show _ = _; rfl) | (refine time_keep (Q := Q) (O := O) (N := N) ?_ rfl rfl rfl rfl)
    | (simp only [kept_mk]; with_reducible refine keptAt ?_) | intro _ | dsimp only | split

theorem withPwr_inv (s : State) (u : PowerUnit) (hg : Kept Q O N s) : Kept Q O N (withPwr s u) := by
  unfold withPwr
  try dsimp only
  repeat' first
    | (with_reducible first
        | assumption | apply foldl_inv | apply foldl_inv_fst)
    | (show _ = _; rfl) | (refine time_keep (Q := Q) (O := O) (N := N) ?_ rfl rfl rfl rfl)
    | (simp only [kept_mk]; with_reducible refine keptAt ?_) | intro _ | dsimp only | split

theorem lanesDeep_inv (p : Nat → Bool) (s : State) (hg : Kept Q O N s) : Kept Q O N (lanesDeep p s) := by
  unfold lanesDeep
  try dsimp only
  repeat' first
    | (with_reducible first
        | assumption | apply laneUpd_inv | apply foldl_inv | apply foldl_inv_fst)
    | (show _ = _; rfl) | (refine time_keep (Q := Q) (O := O) (N := N) ?_ rfl rfl rfl rfl)
    | (simp only [kept_mk]; with_reducible refine keptAt ?_) | intro _ | dsimp only | split

theorem lanesWake_inv (cause : Nat) (p : Nat → Bool) (s : State) (hg : Kept Q O N s) : Kept Q O N (lanesWake cause p s) := by
  unfold lanesWake
  try dsimp only
  repeat' first
    | (with_reducible first
        | assumption | apply laneEnter_inv | apply foldl_inv | apply foldl_inv_fst)
    | (show _ = _; rfl) | (refine time_keep (Q := Q) (O := O) (N := N) ?_ rfl rfl rfl rfl)
    | (simp only [kept_mk]; with_reducible refine keptAt ?_) | intro _ | dsimp only | split

theorem domainDown_inv (d : Nat) (s : State) (hg : Kept Q O N s) : Kept Q O N (domainDown d s) := by
  unfold domainDown
  repeat' first
    | (with_reducible first
        | assumption | apply lanesDeep_inv | apply withPwr_inv)
    | split

theorem domainUp_inv (d : Nat) (s : State) (hg : Kept Q O N s) : Kept Q O N (domainUp d s) := by
  unfold domainUp
  repeat' first
    | (with_reducible first
        | assumption | apply withPwr_inv)
    | split

theorem withBoot_inv (s : State) (b : Boot) (hg : Kept Q O N s) : Kept Q O N (withBoot s b) := by
  unfold withBoot
  try dsimp only
  repeat' first
    | (with_reducible first
        | assumption | apply foldl_inv | apply foldl_inv_fst)
    | (show _ = _; rfl) | (refine time_keep (Q := Q) (O := O) (N := N) ?_ rfl rfl rfl rfl)
    | (simp only [kept_mk]; with_reducible refine keptAt ?_) | intro _ | dsimp only | split

theorem trialCommit_inv (s : State) (hg : Kept Q O N s) : Kept Q O N (trialCommit s) := by
  unfold trialCommit
  try dsimp only
  repeat' first
    | (with_reducible first
        | assumption | apply withBoot_inv | apply raise_inv | apply foldl_inv | apply foldl_inv_fst)
    | (show _ = _; rfl) | (refine time_keep (Q := Q) (O := O) (N := N) ?_ rfl rfl rfl rfl)
    | (simp only [kept_mk]; with_reducible refine keptAt ?_) | intro _ | dsimp only | split

theorem setMode_inv (new : Mode) (cause : Nat) (sh : Nat) (port : Nat) (s : State) (hg : Kept Q O N s) :
    Kept Q O N (setMode new cause sh port s) := by
  unfold setMode
  try dsimp only
  repeat' first
    | (with_reducible first
        | assumption | apply withPair_inv | apply withPwr_inv | apply raise_inv | apply trialCommit_inv
        | apply gangsLeave_inv | apply foldl_inv | apply foldl_inv_fst)
    | (show _ = _; rfl) | (refine time_keep (Q := Q) (O := O) (N := N) ?_ rfl rfl rfl rfl)
    | (simp only [kept_mk]; with_reducible refine keptAt ?_) | intro _ | dsimp only | split

theorem drillEnd_inv (s : State) (hg : Kept Q O N s) : Kept Q O N (drillEnd s) := by
  unfold drillEnd
  try dsimp only
  repeat' first
    | (with_reducible first
        | assumption | apply raise_inv | apply withPair_inv | apply foldl_inv | apply foldl_inv_fst
        | apply foldl_inv_snd | apply foldl_inv_snd2)
    | (show _ = _; rfl) | (refine time_keep (Q := Q) (O := O) (N := N) ?_ rfl rfl rfl rfl)
    | (simp only [kept_mk]; with_reducible refine keptAt ?_) | intro _ | dsimp only
    | (refine pair_inv (by with_reducible assumption) ?_) | (refine pair_inv2 (by with_reducible assumption) ?_)
    | (refine pair_inv3 (by with_reducible assumption) ?_) | (refine pair_inv5 (by with_reducible assumption) ?_)
    | split

theorem pairDrop_inv (s0 : State) (hg : Kept Q O N s0) : Kept Q O N (pairDrop s0) := by
  unfold pairDrop
  try dsimp only
  repeat' first
    | (with_reducible first
        | assumption | apply drillEnd_inv | apply withPair_inv | apply foldl_inv | apply foldl_inv_fst
        | apply foldl_inv_snd | apply foldl_inv_snd2)
    | (show _ = _; rfl) | (refine time_keep (Q := Q) (O := O) (N := N) ?_ rfl rfl rfl rfl)
    | (simp only [kept_mk]; with_reducible refine keptAt ?_) | intro _ | dsimp only
    | (refine pair_inv (by with_reducible assumption) ?_) | (refine pair_inv2 (by with_reducible assumption) ?_)
    | (refine pair_inv3 (by with_reducible assumption) ?_) | (refine pair_inv5 (by with_reducible assumption) ?_)
    | split

theorem enterSafeHold_inv (cause : Nat) (port : Nat) (s : State) (hg : Kept Q O N s) :
    Kept Q O N (enterSafeHold cause port s) := by
  unfold enterSafeHold
  try dsimp only
  repeat' first
    | (with_reducible first
        | assumption | apply setMode_inv | apply pairDrop_inv | apply withPwr_inv | apply domainDown_inv
        | apply foldl_inv | apply foldl_inv_fst)
    | (show _ = _; rfl) | (refine time_keep (Q := Q) (O := O) (N := N) ?_ rfl rfl rfl rfl)
    | (simp only [kept_mk]; with_reducible refine keptAt ?_) | intro _ | dsimp only | split

theorem safeHoldCause_inv (cause : Nat) (port : Nat) (s : State) (hg : Kept Q O N s) :
    Kept Q O N (safeHoldCause cause port s) := by
  unfold safeHoldCause
  repeat' first
    | (with_reducible first
        | assumption | apply withPwr_inv | apply withPair_inv | apply enterSafeHold_inv)
    | split

theorem enterOff_inv (s : State) (hg : Kept Q O N s) : Kept Q O N (enterOff s) := by
  unfold enterOff
  repeat' first
    | (with_reducible first
        | assumption | apply linkLoss_inv | apply withScan_inv | apply withPwr_inv | apply withPair_inv)
    | split

theorem powerComplete_inv (o : PowerOrigin) (status : Nat) (detail : W32) (s : State) (hg : Kept Q O N s) :
    Kept Q O N (powerComplete o status detail s) := by
  unfold powerComplete
  repeat' first
    | (with_reducible first
        | assumption | apply completeOutst_inv)
    | split

theorem wakeEvent_inv (bits : Nat) (at_ : Nat) (s : State) (hg : Kept Q O N s) : Kept Q O N (wakeEvent bits at_ s) := by
  unfold wakeEvent
  repeat' first
    | (with_reducible first
        | assumption | apply raise_inv)
    | split

theorem powerStart_inv (tgt : PowerState) (o : PowerOrigin) (bits : Nat) (at_ : Nat) (s : State) (hg : Kept Q O N s) :
    Kept Q O N (powerStart tgt o bits at_ s).1 := by
  unfold powerStart
  try dsimp only
  repeat' first
    | (with_reducible first
        | assumption | apply withPwr_inv | apply touchQuiesce_inv | apply foldl_inv | apply foldl_inv_fst)
    | (show _ = _; rfl) | (refine time_keep (Q := Q) (O := O) (N := N) ?_ rfl rfl rfl rfl)
    | (simp only [kept_mk]; with_reducible refine keptAt ?_) | intro _ | dsimp only | split

theorem resumeRun_inv (s : State) (hg : Kept Q O N s) : Kept Q O N (resumeRun s) := by
  unfold resumeRun
  try dsimp only
  repeat' first
    | (with_reducible first
        | assumption | apply withPwr_inv | apply lanesWake_inv | apply foldl_inv | apply foldl_inv_fst)
    | (show _ = _; rfl) | (refine time_keep (Q := Q) (O := O) (N := N) ?_ rfl rfl rfl rfl)
    | (simp only [kept_mk]; with_reducible refine keptAt ?_) | intro _ | dsimp only | split

theorem powerAbort_inv (t : PowerTrans) (bits : Nat) (at_ : Nat) (s : State) (hg : Kept Q O N s) :
    Kept Q O N (powerAbort t bits at_ s) := by
  unfold powerAbort
  repeat' first
    | (with_reducible first
        | assumption | apply powerComplete_inv | apply raise_inv | apply resumeRun_inv | apply withPwr_inv
        | apply gangsLeave_inv | apply wakeEvent_inv)
    | split

theorem powerAsk_inv (tgt : PowerState) (o : PowerOrigin) (bits : Nat) (s : State) (hg : Kept Q O N s) :
    Kept Q O N (powerAsk tgt o bits s).1 := by
  unfold powerAsk
  repeat' first
    | (with_reducible first
        | assumption | apply powerStart_inv | apply powerAbort_inv | apply powerComplete_inv | apply withPwr_inv)
    | split

theorem powerPending_inv (s : State) (hg : Kept Q O N s) : Kept Q O N (powerPending s) := by
  unfold powerPending
  try dsimp only
  repeat' first
    | (with_reducible first
        | assumption | apply powerStart_inv | apply withPwr_inv | apply powerComplete_inv | apply foldl_inv
        | apply foldl_inv_fst)
    | (show _ = _; rfl) | (refine time_keep (Q := Q) (O := O) (N := N) ?_ rfl rfl rfl rfl)
    | (simp only [kept_mk]; with_reducible refine keptAt ?_) | intro _ | dsimp only | split

theorem opPowerState_inv (c : Cmd) (s : State) (hg : Kept Q O N s) : Kept Q O N (opPowerState c s).1 := by
  unfold opPowerState
  try dsimp only
  repeat' first
    | (with_reducible first
        | assumption | apply powerAsk_inv | apply foldl_inv | apply foldl_inv_fst)
    | (show _ = _; rfl) | (refine time_keep (Q := Q) (O := O) (N := N) ?_ rfl rfl rfl rfl)
    | (simp only [kept_mk]; with_reducible refine keptAt ?_) | intro _ | dsimp only | split

theorem wakeUp_inv (bit : Nat) (s : State) (hg : Kept Q O N s) : Kept Q O N (wakeUp bit s) := by
  unfold wakeUp
  repeat' first
    | (with_reducible first
        | assumption | apply withPwr_inv | apply powerAsk_inv)
    | split

theorem wakePin_inv (level : Bool) (s : State) (hg : Kept Q O N s) : Kept Q O N (wakePin level s) := by
  unfold wakePin
  try dsimp only
  repeat' first
    | (with_reducible first
        | assumption | apply withPwr_inv | apply wakeUp_inv | apply foldl_inv | apply foldl_inv_fst)
    | (show _ = _; rfl) | (refine time_keep (Q := Q) (O := O) (N := N) ?_ rfl rfl rfl rfl)
    | (simp only [kept_mk]; with_reducible refine keptAt ?_) | intro _ | dsimp only | split

theorem hostAccessWake_inv (s : State) (hg : Kept Q O N s) : Kept Q O N (hostAccessWake s) := by
  unfold hostAccessWake
  repeat' first
    | (with_reducible first
        | assumption | apply wakeUp_inv)
    | split

theorem touchApproachWake_inv (s : State) (hg : Kept Q O N s) : Kept Q O N (touchApproachWake s) := by
  unfold touchApproachWake
  repeat' first
    | (with_reducible first
        | assumption | apply wakeUp_inv)
    | split

theorem vcoreHold_inv (mv : Nat) (s : State) (hg : Kept Q O N s) : Kept Q O N (vcoreHold mv s) := by
  unfold vcoreHold
  repeat' first
    | (with_reducible first
        | assumption | apply withPwr_inv | apply send_inv)
    | split

theorem entryEnd_inv (t : PowerTrans) (s : State) (hg : Kept Q O N s) : Kept Q O N (entryEnd t s) := by
  unfold entryEnd
  try dsimp only
  repeat' first
    | (with_reducible first
        | assumption | apply withPwr_inv | apply powerComplete_inv | apply raise_inv | apply lanesDeep_inv
        | apply vcoreHold_inv | apply linkLoss_inv | apply enterOff_inv | apply foldl_inv | apply foldl_inv_fst)
    | (show _ = _; rfl) | (refine time_keep (Q := Q) (O := O) (N := N) ?_ rfl rfl rfl rfl)
    | (simp only [kept_mk]; with_reducible refine keptAt ?_) | intro _ | dsimp only | split

theorem deepTimes_inv (s : State) (h : Kept Q O N s) : Kept Q O N (deepTimes s) := by
  have ht := h.time
  unfold deepTimes
  exact setT0State_inv _ _ _ ⟨h.queue, h.sent, h.opened, h.mem, h.win, ⟨ht.1, ht.2.1, ht.2.2.1, ht.2.2.2.1, ht.2.2.2.2⟩, h.seq⟩

theorem lanesBack_inv (s : State) (hg : Kept Q O N s) : Kept Q O N (lanesBack s) := by
  unfold lanesBack
  try dsimp only
  repeat' first
    | (with_reducible first
        | assumption | apply laneLeave_inv | apply foldl_inv | apply foldl_inv_fst)
    | (show _ = _; rfl) | (refine time_keep (Q := Q) (O := O) (N := N) ?_ rfl rfl rfl rfl)
    | (simp only [kept_mk]; with_reducible refine keptAt ?_) | intro _ | dsimp only | split

theorem exitEnd_inv (t : PowerTrans) (env : ExitEnv) (s : State) (hg : Kept Q O N s) : Kept Q O N (exitEnd t env s) := by
  unfold exitEnd
  try dsimp only
  repeat' first
    | (with_reducible first
        | assumption | apply withPwr_inv | apply vcoreHold_inv | apply resumeRun_inv | apply lanesBack_inv
        | apply deepTimes_inv | apply raise_inv | apply wakeEvent_inv | apply gangsLeave_inv
        | apply powerComplete_inv | apply safeHoldCause_inv | apply foldl_inv | apply foldl_inv_fst)
    | (show _ = _; rfl) | (refine time_keep (Q := Q) (O := O) (N := N) ?_ rfl rfl rfl rfl)
    | (simp only [kept_mk]; with_reducible refine keptAt ?_) | intro _ | dsimp only | split

theorem levelWake_inv (s : State) (hg : Kept Q O N s) : Kept Q O N (levelWake s) := by
  unfold levelWake
  repeat' first
    | (with_reducible first
        | assumption | apply wakeUp_inv)
    | split

theorem transitionEnd_inv (env : ExitEnv) (s : State) (hg : Kept Q O N s) : Kept Q O N (transitionEnd env s) := by
  unfold transitionEnd
  repeat' first
    | (with_reducible first
        | assumption | apply levelWake_inv | apply powerPending_inv | apply entryEnd_inv | apply exitEnd_inv)
    | split

theorem opDomainSet_inv (c : Cmd) (s : State) (hg : Kept Q O N s) : Kept Q O N (opDomainSet c s).1 := by
  unfold opDomainSet
  try dsimp only
  repeat' first
    | (with_reducible first
        | assumption | apply checked_inv | apply domainUp_inv | apply domainDown_inv | apply foldl_inv
        | apply foldl_inv_fst)
    | (show _ = _; rfl) | (refine time_keep (Q := Q) (O := O) (N := N) ?_ rfl rfl rfl rfl)
    | (simp only [kept_mk]; with_reducible refine keptAt ?_) | intro _ | dsimp only | split

theorem domainReady_inv (d : Nat) (s : State) (hg : Kept Q O N s) : Kept Q O N (domainReady d s) := by
  unfold domainReady
  repeat' first
    | (with_reducible first
        | assumption | apply lanesWake_inv | apply withPwr_inv)
    | split

theorem thermalEvent_inv (cond : Nat) (up : Bool) (lid : W16) (junction : W16) (s : State) (hg : Kept Q O N s) :
    Kept Q O N (thermalEvent cond up lid junction s) := by
  unfold thermalEvent
  repeat' first
    | (with_reducible first
        | assumption | apply raise_inv)
    | split

theorem thermalCrossing_inv (lid : W16) (junction : W16) (s : State) (hg : Kept Q O N s) :
    Kept Q O N (thermalCrossing lid junction s) := by
  unfold thermalCrossing
  try dsimp only
  repeat' first
    | (with_reducible first
        | assumption | apply withPwr_inv | apply thermalEvent_inv | apply foldl_inv | apply foldl_inv_fst)
    | (show _ = _; rfl) | (refine time_keep (Q := Q) (O := O) (N := N) ?_ rfl rfl rfl rfl)
    | (simp only [kept_mk]; with_reducible refine keptAt ?_) | intro _ | dsimp only | split

theorem junctionOverheat_inv (s : State) (hg : Kept Q O N s) : Kept Q O N (junctionOverheat s) := by
  unfold junctionOverheat
  repeat' first
    | (with_reducible first
        | assumption | apply safeHoldCause_inv)
    | split

theorem thermalTrip_inv (junction : W16) (s : State) (hg : Kept Q O N s) : Kept Q O N (thermalTrip junction s) := by
  unfold thermalTrip
  repeat' first
    | (with_reducible first
        | assumption | apply enterOff_inv | apply withPwr_inv)
    | split

theorem watchdogMiss_inv (processor : Nat) (s : State) (hg : Kept Q O N s) : Kept Q O N (watchdogMiss processor s) := by
  unfold watchdogMiss
  repeat' first
    | (with_reducible first
        | assumption | apply safeHoldCause_inv | apply withPwr_inv)
    | split

theorem pwcClear_inv (lo : Nat) (s : State) (hg : Kept Q O N s) : Kept Q O N (pwcClear lo s) := by
  unfold pwcClear
  repeat' first
    | (with_reducible first
        | assumption | apply withPwr_inv)
    | split

theorem pwcCfgWrite_inv (v : W32) (s : State) (hg : Kept Q O N s) : Kept Q O N (pwcCfgWrite v s) := by
  unfold pwcCfgWrite
  repeat' first
    | (with_reducible first
        | assumption | apply withPwr_inv)
    | split

theorem pwcReqWrite_inv (init : Nat) (v : W32) (s : State) (hg : Kept Q O N s) : Kept Q O N (pwcReqWrite init v s) := by
  unfold pwcReqWrite
  try dsimp only
  repeat' first
    | (with_reducible first
        | assumption | apply withPwr_inv | apply paramRefused_inv | apply powerAsk_inv | apply foldl_inv
        | apply foldl_inv_fst)
    | (show _ = _; rfl) | (refine time_keep (Q := Q) (O := O) (N := N) ?_ rfl rfl rfl rfl)
    | (simp only [kept_mk]; with_reducible refine keptAt ?_) | intro _ | dsimp only | split

theorem opTouchPanelSet_inv (c : Cmd) (s : State) (hg : Kept Q O N s) : Kept Q O N (opTouchPanelSet c s).1 := by
  unfold opTouchPanelSet
  repeat' first
    | (with_reducible first
        | assumption | apply checked_inv | apply tpUpd_inv)
    | split

theorem baselineStart_inv (p : Nat) (s : State) (hg : Kept Q O N s) : Kept Q O N (baselineStart p s) := by
  unfold baselineStart
  repeat' first
    | (with_reducible first
        | assumption | apply touchEvent_inv | apply tpUpd_inv)
    | split

theorem opTouchEnable_inv (c : Cmd) (s : State) (hg : Kept Q O N s) : Kept Q O N (opTouchEnable c s).1 := by
  unfold opTouchEnable
  try dsimp only
  repeat' first
    | (with_reducible first
        | assumption | apply checked_inv | apply baselineStart_inv | apply foldl_inv | apply foldl_inv_fst)
    | (show _ = _; rfl) | (refine time_keep (Q := Q) (O := O) (N := N) ?_ rfl rfl rfl rfl)
    | (simp only [kept_mk]; with_reducible refine keptAt ?_) | intro _ | dsimp only | split

theorem opTouchDisable_inv (c : Cmd) (s : State) (hg : Kept Q O N s) : Kept Q O N (opTouchDisable c s).1 := by
  unfold opTouchDisable
  try dsimp only
  repeat' first
    | (with_reducible first
        | assumption | apply checked_inv | apply touchEvent_inv | apply tpUpd_inv | apply foldl_inv
        | apply foldl_inv_fst)
    | (show _ = _; rfl) | (refine time_keep (Q := Q) (O := O) (N := N) ?_ rfl rfl rfl rfl)
    | (simp only [kept_mk]; with_reducible refine keptAt ?_) | intro _ | dsimp only | split

theorem opTouchRefSave_inv (c : Cmd) (s : State) (hg : Kept Q O N s) : Kept Q O N (opTouchRefSave c s).1 := by
  unfold opTouchRefSave
  try dsimp only
  repeat' first
    | (with_reducible first
        | assumption | apply checked_inv | apply withTouch_inv | apply foldl_inv | apply foldl_inv_fst)
    | (show _ = _; rfl) | (refine time_keep (Q := Q) (O := O) (N := N) ?_ rfl rfl rfl rfl)
    | (simp only [kept_mk]; with_reducible refine keptAt ?_) | intro _ | dsimp only | split

theorem refSaveEnd_inv (flashOk : Bool) (s : State) (hg : Kept Q O N s) : Kept Q O N (refSaveEnd flashOk s) := by
  unfold refSaveEnd
  try dsimp only
  repeat' first
    | (with_reducible first
        | assumption | apply withTouch_inv | apply completeOutst_inv | apply takeFree_inv | apply foldl_inv
        | apply foldl_inv_fst)
    | (show _ = _; rfl) | (refine time_keep (Q := Q) (O := O) (N := N) ?_ rfl rfl rfl rfl)
    | (simp only [kept_mk]; with_reducible refine keptAt ?_) | intro _ | dsimp only | split

theorem opTouchSelftest_inv (c : Cmd) (s : State) (hg : Kept Q O N s) : Kept Q O N (opTouchSelftest c s).1 := by
  unfold opTouchSelftest
  try dsimp only
  repeat' first
    | (with_reducible first
        | assumption | apply checked_inv | apply touchEvent_inv | apply tpUpd_inv | apply foldl_inv
        | apply foldl_inv_fst)
    | (show _ = _; rfl) | (refine time_keep (Q := Q) (O := O) (N := N) ?_ rfl rfl rfl rfl)
    | (simp only [kept_mk]; with_reducible refine keptAt ?_) | intro _ | dsimp only | split

theorem opTouchStatus_inv (c : Cmd) (s : State) (hg : Kept Q O N s) : Kept Q O N (opTouchStatus c s).1 := by
  unfold opTouchStatus
  try dsimp only
  repeat' first
    | (with_reducible first
        | assumption | apply checked_inv | apply foldl_inv | apply foldl_inv_fst)
    | (show _ = _; rfl) | (refine time_keep (Q := Q) (O := O) (N := N) ?_ rfl rfl rfl rfl)
    | (simp only [kept_mk]; with_reducible refine keptAt ?_) | intro _ | dsimp only | split

theorem panelScan_inv (k : Nat) (vs : List (List Int)) (p : Nat) (s : State) (hg : Kept Q O N s) :
    Kept Q O N (panelScan k vs p s).2.2 := by
  unfold panelScan
  try dsimp only
  repeat' first
    | (with_reducible first
        | assumption | apply tpSet_inv | apply foldl_inv | apply foldl_inv_fst)
    | (show _ = _; rfl) | (refine time_keep (Q := Q) (O := O) (N := N) ?_ rfl rfl rfl rfl)
    | (simp only [kept_mk]; with_reducible refine keptAt ?_) | intro _ | dsimp only | split

theorem touchScanStart_inv (e : Nat) (env : ListenEnv) (s : State) (hg : Kept Q O N s) : Kept Q O N (touchScanStart e env s) := by
  unfold touchScanStart
  try dsimp only
  repeat' first
    | (with_reducible first
        | assumption | apply panelScan_inv | apply teSet_inv | apply foldl_inv | apply foldl_inv_fst)
    | (show _ = _; rfl) | (refine time_keep (Q := Q) (O := O) (N := N) ?_ rfl rfl rfl rfl)
    | (simp only [kept_mk]; with_reducible refine keptAt ?_) | intro _ | dsimp only | split

theorem rebase_inv (x : TouchPanel) (f : Nat) (raw : List Int) (delta : List Int) (k : Nat) (at_ : Nat) (p : Nat) (s : State)
 (hg : Kept Q O N s) : Kept Q O N (rebase x f raw delta k at_ p s) := by
  unfold rebase
  try dsimp only
  repeat' first
    | (with_reducible first
        | assumption | apply tpSet_inv | apply raise_inv | apply foldl_inv | apply foldl_inv_fst)
    | (show _ = _; rfl) | (refine time_keep (Q := Q) (O := O) (N := N) ?_ rfl rfl rfl rfl)
    | (simp only [kept_mk]; with_reducible refine keptAt ?_) | intro _ | dsimp only | split

theorem touchPut_inv (fn : Nat) (p : Nat) (ws : List W32) (s : State) (hg : Kept Q O N s) : Kept Q O N (touchPut fn p ws s) := by
  unfold touchPut
  try dsimp only
  repeat' first
    | (with_reducible first
        | assumption | apply ringWrite_inv | apply withTouch_inv | apply tpUpd_inv | apply foldl_inv
        | apply foldl_inv_fst)
    | (show _ = _; rfl) | (refine time_keep (Q := Q) (O := O) (N := N) ?_ rfl rfl rfl rfl)
    | (simp only [kept_mk]; with_reducible refine keptAt ?_) | intro _ | dsimp only | split

theorem touchReport_inv (p : Nat) (freq : Nat) (sc : TouchScan) (repeated : Bool) (ovl : Bool) (entries : List (List W32))
    (s : State) (hg : Kept Q O N s) : Kept Q O N (touchReport p freq sc repeated ovl entries s) := by
  unfold touchReport
  try dsimp only
  repeat' first
    | (with_reducible first
        | assumption | apply touchPut_inv | apply foldl_inv | apply foldl_inv_fst)
    | (show _ = _; rfl) | (refine time_keep (Q := Q) (O := O) (N := N) ?_ rfl rfl rfl rfl)
    | (simp only [kept_mk]; with_reducible refine keptAt ?_) | intro _ | dsimp only | split

theorem reportContacts_inv (p : Nat) (freq : Nat) (sc : TouchScan) (repeated : Bool) (live : List Contact)
    (ended : List Contact) (s : State) (hg : Kept Q O N s) : Kept Q O N (reportContacts p freq sc repeated live ended s) := by
  unfold reportContacts
  try dsimp only
  repeat' first
    | (with_reducible first
        | assumption | apply tpUpd_inv | apply touchReport_inv | apply foldl_inv | apply foldl_inv_fst)
    | (show _ = _; rfl) | (refine time_keep (Q := Q) (O := O) (N := N) ?_ rfl rfl rfl rfl)
    | (simp only [kept_mk]; with_reducible refine keptAt ?_) | intro _ | dsimp only | split

theorem noiseJudge_inv (p : Nat) (sc : TouchScan) (n : List Nat) (s : State) (hg : Kept Q O N s) :
    Kept Q O N (noiseJudge p sc n s) := by
  unfold noiseJudge
  try dsimp only
  repeat' first
    | (with_reducible first
        | assumption | apply tpSet_inv | apply raise_inv | apply foldl_inv | apply foldl_inv_fst)
    | (show _ = _; rfl) | (refine time_keep (Q := Q) (O := O) (N := N) ?_ rfl rfl rfl rfl)
    | (simp only [kept_mk]; with_reducible refine keptAt ?_) | intro _ | dsimp only | split

theorem startScan_inv (p : Nat) (f : Nat) (raw : List Int) (s : State) (hg : Kept Q O N s) :
    Kept Q O N (startScan p f raw s) := by
  unfold startScan
  repeat' first
    | (with_reducible first
        | assumption | apply tpUpd_inv)
    | split

theorem longContact_good (p : Nat) (sc : TouchScan) (acc : State × List Contact) (c : Contact) (h : Kept Q O N acc.1) :
    Kept Q O N (longContact p sc acc c).1 := by
  unfold longContact
  dsimp only
  split
  · exact h
  · exact raise_inv _ _ _ h

theorem fullScan_inv (p f : Nat) (sc : TouchScan) (raw : List Int) (s : State) (h : Kept Q O N s) :
    Kept Q O N (fullScan p f sc raw s) := by
  exact reportContacts_inv _ _ _ _ _ _ _ (foldl_inv_fst (fun _ _ hy => longContact_good _ _ _ _ hy) (rebase_inv _ _ _ _ _ _ _ _ h))

theorem refreshScan_inv (p f : Nat) (sc : TouchScan) (raw : List Int) (s : State) (h : Kept Q O N s) :
    Kept Q O N (refreshScan p f sc raw s) := by
  exact reportContacts_inv _ _ _ _ _ _ _ (foldl_inv_fst (fun _ _ hy => longContact_good _ _ _ _ hy) (tpSet_inv _ _ _ h))

theorem gangScan_inv (p : Nat) (sc : TouchScan) (raw : List Int) (s : State) (hg : Kept Q O N s) :
    Kept Q O N (gangScan p sc raw s) := by
  unfold gangScan
  try dsimp only
  repeat' first
    | (with_reducible first
        | assumption | apply tpSet_inv | apply raise_inv | apply gangLeave_inv | apply touchApproachWake_inv
        | apply foldl_inv | apply foldl_inv_fst)
    | (show _ = _; rfl) | (refine time_keep (Q := Q) (O := O) (N := N) ?_ rfl rfl rfl rfl)
    | (simp only [kept_mk]; with_reducible refine keptAt ?_) | intro _ | dsimp only | split

theorem panelResult_inv (p : Nat) (sc : TouchScan) (kind : Option ScanKind) (noise : List Nat) (m : List (List Int))
    (s : State) (hg : Kept Q O N s) : Kept Q O N (panelResult p sc kind noise m s) := by
  unfold panelResult
  try dsimp only
  repeat' first
    | (with_reducible first
        | assumption | apply startScan_inv | apply noiseJudge_inv | apply fullScan_inv | apply refreshScan_inv
        | apply gangScan_inv | apply foldl_inv | apply foldl_inv_fst)
    | (show _ = _; rfl) | (refine time_keep (Q := Q) (O := O) (N := N) ?_ rfl rfl rfl rfl)
    | (simp only [kept_mk]; with_reducible refine keptAt ?_) | intro _ | dsimp only | split

theorem touchScanComplete_inv (e : Nat) (env : ScanCounts) (s : State) (hg : Kept Q O N s) :
    Kept Q O N (touchScanComplete e env s) := by
  unfold touchScanComplete
  try dsimp only
  repeat' first
    | (with_reducible first
        | assumption | apply teSet_inv | apply panelResult_inv | apply foldl_inv | apply foldl_inv_fst)
    | (show _ = _; rfl) | (refine time_keep (Q := Q) (O := O) (N := N) ?_ rfl rfl rfl rfl)
    | (simp only [kept_mk]; with_reducible refine keptAt ?_) | intro _ | dsimp only | split

theorem baselineDone_inv (p : Nat) (s : State) (hg : Kept Q O N s) : Kept Q O N (baselineDone p s) := by
  unfold baselineDone
  try dsimp only
  repeat' first
    | (with_reducible first
        | assumption | apply touchEvent_inv | apply tpSet_inv | apply foldl_inv | apply foldl_inv_fst)
    | (show _ = _; rfl) | (refine time_keep (Q := Q) (O := O) (N := N) ?_ rfl rfl rfl rfl)
    | (simp only [kept_mk]; with_reducible refine keptAt ?_) | intro _ | dsimp only | split

theorem gangedEntry_inv (p : Nat) (s : State) (hg : Kept Q O N s) : Kept Q O N (gangedEntry p s) := by
  unfold gangedEntry
  try dsimp only
  repeat' first
    | (with_reducible first
        | assumption | apply gangEnter_inv | apply foldl_inv | apply foldl_inv_fst)
    | (show _ = _; rfl) | (refine time_keep (Q := Q) (O := O) (N := N) ?_ rfl rfl rfl rfl)
    | (simp only [kept_mk]; with_reducible refine keptAt ?_) | intro _ | dsimp only | split

theorem selftestDone_inv (p : Nat) (t : TouchTest) (s : State) (hg : Kept Q O N s) : Kept Q O N (selftestDone p t s) := by
  unfold selftestDone
  try dsimp only
  repeat' first
    | (with_reducible first
        | assumption | apply raise_inv | apply tpSet_inv | apply baselineStart_inv | apply completeOutst_inv
        | apply foldl_inv | apply foldl_inv_fst)
    | (show _ = _; rfl) | (refine time_keep (Q := Q) (O := O) (N := N) ?_ rfl rfl rfl rfl)
    | (simp only [kept_mk]; with_reducible refine keptAt ?_) | intro _ | dsimp only | split

theorem tchClear_inv (off : Nat) (s : State) (hg : Kept Q O N s) : Kept Q O N (tchClear off s) := by
  unfold tchClear
  repeat' first
    | (with_reducible first
        | assumption | apply tpUpd_inv)
    | split

theorem withClaims_inv (s : State) (cs : List AuxClaim) (hg : Kept Q O N s) : Kept Q O N (withClaims s cs) := by
  unfold withClaims
  try dsimp only
  repeat' first
    | (with_reducible first
        | assumption | apply foldl_inv | apply foldl_inv_fst)
    | (show _ = _; rfl) | (refine time_keep (Q := Q) (O := O) (N := N) ?_ rfl rfl rfl rfl)
    | (simp only [kept_mk]; with_reducible refine keptAt ?_) | intro _ | dsimp only | split

theorem opAuxioClaim_inv (c : Cmd) (s : State) (hg : Kept Q O N s) : Kept Q O N (opAuxioClaim c s).1 := by
  unfold opAuxioClaim
  try dsimp only
  repeat' first
    | (with_reducible first
        | assumption | apply checked_inv | apply withClaims_inv | apply foldl_inv | apply foldl_inv_fst)
    | (show _ = _; rfl) | (refine time_keep (Q := Q) (O := O) (N := N) ?_ rfl rfl rfl rfl)
    | (simp only [kept_mk]; with_reducible refine keptAt ?_) | intro _ | dsimp only | split

theorem opAuxioRelease_inv (c : Cmd) (s : State) (hg : Kept Q O N s) : Kept Q O N (opAuxioRelease c s).1 := by
  unfold opAuxioRelease
  try dsimp only
  repeat' first
    | (with_reducible first
        | assumption | apply checked_inv | apply withClaims_inv | apply foldl_inv | apply foldl_inv_fst)
    | (show _ = _; rfl) | (refine time_keep (Q := Q) (O := O) (N := N) ?_ rfl rfl rfl rfl)
    | (simp only [kept_mk]; with_reducible refine keptAt ?_) | intro _ | dsimp only | split

theorem opNightPaceSet_inv (c : Cmd) (s : State) (hg : Kept Q O N s) : Kept Q O N (opNightPaceSet c s).1 := by
  unfold opNightPaceSet
  try dsimp only
  repeat' first
    | (with_reducible first
        | assumption | apply checked_inv | apply withClaims_inv | apply foldl_inv | apply foldl_inv_fst)
    | (show _ = _; rfl) | (refine time_keep (Q := Q) (O := O) (N := N) ?_ rfl rfl rfl rfl)
    | (simp only [kept_mk]; with_reducible refine keptAt ?_) | intro _ | dsimp only | split

theorem claimSet_inv (k : AuxClaim) (s : State) (hg : Kept Q O N s) : Kept Q O N (claimSet k s) := by
  unfold claimSet
  repeat' first
    | (with_reducible first
        | assumption | apply withClaims_inv)
    | split

theorem tbPulse_inv (k : AuxClaim) (s : State) (hg : Kept Q O N s) : Kept Q O N (tbPulse k s) := by
  unfold tbPulse
  try dsimp only
  repeat' first
    | (with_reducible first
        | assumption | apply send_inv | apply claimSet_inv | apply foldl_inv | apply foldl_inv_fst)
    | (show _ = _; rfl) | (refine time_keep (Q := Q) (O := O) (N := N) ?_ rfl rfl rfl rfl)
    | (simp only [kept_mk]; with_reducible refine keptAt ?_) | intro _ | dsimp only | split

theorem touchPulse_inv (k : AuxClaim) (s : State) (hg : Kept Q O N s) : Kept Q O N (touchPulse k s) := by
  unfold touchPulse
  try dsimp only
  repeat' first
    | (with_reducible first
        | assumption | apply send_inv | apply claimSet_inv | apply foldl_inv | apply foldl_inv_fst)
    | (show _ = _; rfl) | (refine time_keep (Q := Q) (O := O) (N := N) ?_ rfl rfl rfl rfl)
    | (simp only [kept_mk]; with_reducible refine keptAt ?_) | intro _ | dsimp only | split

theorem auxPulse_inv (timer : Nat) (s : State) (hg : Kept Q O N s) : Kept Q O N (auxPulse timer s) := by
  unfold auxPulse
  repeat' first
    | (with_reducible first
        | assumption | apply tbPulse_inv | apply touchPulse_inv)
    | split

theorem opEncSet_inv (c : Cmd) (s : State) (hg : Kept Q O N s) : Kept Q O N (opEncSet c s).1 := by
  unfold opEncSet
  repeat' first
    | (with_reducible first
        | assumption | apply checked_inv | apply ecUpd_inv)
    | split

theorem opEncEnable_inv (c : Cmd) (s : State) (hg : Kept Q O N s) : Kept Q O N (opEncEnable c s).1 := by
  unfold opEncEnable
  try dsimp only
  repeat' first
    | (with_reducible first
        | assumption | apply checked_inv | apply encAssign_inv | apply ecSet_inv | apply foldl_inv
        | apply foldl_inv_fst)
    | (show _ = _; rfl) | (refine time_keep (Q := Q) (O := O) (N := N) ?_ rfl rfl rfl rfl)
    | (simp only [kept_mk]; with_reducible refine keptAt ?_) | intro _ | dsimp only | split

theorem encStateEvent_inv (k : Nat) (kind : Nat) (cause : Nat) (n : Nat) (s : State) (hg : Kept Q O N s) :
    Kept Q O N (encStateEvent k kind cause n s) := by
  unfold encStateEvent
  repeat' first
    | (with_reducible first
        | assumption | apply raise_inv)
    | split

theorem opEncDisable_inv (c : Cmd) (s : State) (hg : Kept Q O N s) : Kept Q O N (opEncDisable c s).1 := by
  unfold opEncDisable
  try dsimp only
  repeat' first
    | (with_reducible first
        | assumption | apply checked_inv | apply ecSet_inv | apply encAssign_inv | apply encStateEvent_inv
        | apply foldl_inv | apply foldl_inv_fst)
    | (show _ = _; rfl) | (refine time_keep (Q := Q) (O := O) (N := N) ?_ rfl rfl rfl rfl)
    | (simp only [kept_mk]; with_reducible refine keptAt ?_) | intro _ | dsimp only | split

theorem opEncCoefLoad_inv (c : Cmd) (s : State) (hg : Kept Q O N s) : Kept Q O N (opEncCoefLoad c s).1 := by
  unfold opEncCoefLoad
  try dsimp only
  repeat' first
    | (with_reducible first
        | assumption | apply checked_inv | apply foldl_inv | apply foldl_inv_fst)
    | (show _ = _; rfl) | (refine time_keep (Q := Q) (O := O) (N := N) ?_ rfl rfl rfl rfl)
    | (simp only [kept_mk]; with_reducible refine keptAt ?_) | intro _ | dsimp only | split

theorem opEncKeyframe_inv (c : Cmd) (s : State) (hg : Kept Q O N s) : Kept Q O N (opEncKeyframe c s).1 := by
  unfold opEncKeyframe
  repeat' first
    | (with_reducible first
        | assumption | apply checked_inv | apply ecUpd_inv)
    | split

theorem encCell_inv (g : EncCtx) (cx : Nat) (cy : Nat) (s : State) (hg : Kept Q O N s) : Kept Q O N (encCell g cx cy s).2 := by
  unfold encCell
  try dsimp only
  repeat' first
    | (with_reducible first
        | assumption | apply fetchStitch_inv | apply freeBytes_inv | apply foldl_inv | apply foldl_inv_fst
        | apply foldl_inv_snd | apply foldl_inv_snd2)
    | (show _ = _; rfl) | (refine time_keep (Q := Q) (O := O) (N := N) ?_ rfl rfl rfl rfl)
    | (simp only [kept_mk]; with_reducible refine keptAt ?_) | intro _ | dsimp only
    | (refine pair_inv (by with_reducible assumption) ?_) | (refine pair_inv2 (by with_reducible assumption) ?_)
    | (refine pair_inv3 (by with_reducible assumption) ?_) | (refine pair_inv5 (by with_reducible assumption) ?_)
    | split

theorem encFetchAll_inv (g : EncCtx) (ps : List (Nat × Nat)) (s : State) (h : Kept Q O N s) :
    Kept Q O N (encFetchAll g ps s).2 := by
  induction ps generalizing s with
  | nil => exact h
  | cons p ps ih => exact ih _ (encCell_inv _ _ _ _ h)

theorem encTakeKind_inv (k : Nat) (n : Nat) (s : State) (hg : Kept Q O N s) : Kept Q O N (encTakeKind k n s) := by
  unfold encTakeKind
  try dsimp only
  repeat' first
    | (with_reducible first
        | assumption | apply encStateEvent_inv | apply ecSet_inv | apply foldl_inv | apply foldl_inv_fst)
    | (show _ = _; rfl) | (refine time_keep (Q := Q) (O := O) (N := N) ?_ rfl rfl rfl rfl)
    | (simp only [kept_mk]; with_reducible refine keptAt ?_) | intro _ | dsimp only | split

theorem readFrame_inv (k : Nat) (n : Nat) (env : EncEnv) (s : State) (hg : Kept Q O N s) : Kept Q O N (readFrame k n env s).2.2.2 := by
  unfold readFrame
  try dsimp only
  repeat' first
    | (with_reducible first
        | assumption | apply encFetchAll_inv | apply foldl_inv | apply foldl_inv_fst | apply foldl_inv_snd
        | apply foldl_inv_snd2)
    | (show _ = _; rfl) | (refine time_keep (Q := Q) (O := O) (N := N) ?_ rfl rfl rfl rfl)
    | (simp only [kept_mk]; with_reducible refine keptAt ?_) | intro _ | dsimp only
    | (refine pair_inv (by with_reducible assumption) ?_) | (refine pair_inv2 (by with_reducible assumption) ?_)
    | (refine pair_inv3 (by with_reducible assumption) ?_) | (refine pair_inv5 (by with_reducible assumption) ?_)
    | split

theorem encPush_inv (k : Nat) (n : Nat) (f : RecFrame) (s : State) (hg : Kept Q O N s) : Kept Q O N (encPush k n f s) := by
  unfold encPush
  repeat' first
    | (with_reducible first
        | assumption | apply ecUpd_inv)
    | split

theorem encFrameStart_inv (k : Nat) (env : EncEnv) (s : State) (hg : Kept Q O N s) : Kept Q O N (encFrameStart k env s) := by
  unfold encFrameStart
  try dsimp only
  repeat' first
    | (with_reducible first
        | assumption | apply encTakeKind_inv | apply encPush_inv | apply readFrame_inv | apply custodyReport_inv
        | apply foldl_inv | apply foldl_inv_fst | apply foldl_inv_snd | apply foldl_inv_snd2)
    | (show _ = _; rfl) | (refine time_keep (Q := Q) (O := O) (N := N) ?_ rfl rfl rfl rfl)
    | (simp only [kept_mk]; with_reducible refine keptAt ?_) | intro _ | dsimp only
    | (refine pair_inv (by with_reducible assumption) ?_) | (refine pair_inv2 (by with_reducible assumption) ?_)
    | (refine pair_inv3 (by with_reducible assumption) ?_) | (refine pair_inv5 (by with_reducible assumption) ?_)
    | split

theorem encDeadline_inv (k : Nat) (rows : List Nat) (s : State) (hg : Kept Q O N s) : Kept Q O N (encDeadline k rows s) := by
  unfold encDeadline
  try dsimp only
  repeat' first
    | (with_reducible first
        | assumption | apply encTakeKind_inv | apply encPush_inv | apply ecUpd_inv | apply foldl_inv
        | apply foldl_inv_fst | apply foldl_inv_snd | apply foldl_inv_snd2)
    | (show _ = _; rfl) | (refine time_keep (Q := Q) (O := O) (N := N) ?_ rfl rfl rfl rfl)
    | (simp only [kept_mk]; with_reducible refine keptAt ?_) | intro _ | dsimp only
    | (refine pair_inv (by with_reducible assumption) ?_) | (refine pair_inv2 (by with_reducible assumption) ?_)
    | (refine pair_inv3 (by with_reducible assumption) ?_) | (refine pair_inv5 (by with_reducible assumption) ?_)
    | split

theorem unrecRaise_inv (k : Nat) (s : State) (hg : Kept Q O N s) : Kept Q O N (unrecRaise k s) := by
  unfold unrecRaise
  try dsimp only
  repeat' first
    | (with_reducible first
        | assumption | apply raise_inv | apply ecUpd_inv | apply foldl_inv | apply foldl_inv_fst)
    | (show _ = _; rfl) | (refine time_keep (Q := Q) (O := O) (N := N) ?_ rfl rfl rfl rfl)
    | (simp only [kept_mk]; with_reducible refine keptAt ?_) | intro _ | dsimp only | split

theorem unrecCount_inv (k : Nat) (un : Tab Nat) (mask : Nat) (s : State) (hg : Kept Q O N s) :
    Kept Q O N (unrecCount k un mask s) := by
  unfold unrecCount
  repeat' first
    | (with_reducible first
        | assumption | apply unrecRaise_inv | apply ecUpd_inv)
    | split

theorem encUnrecorded_inv (k : Nat) (s : State) (hg : Kept Q O N s) : Kept Q O N (encUnrecorded k s) := by
  unfold encUnrecorded
  repeat' first
    | (with_reducible first
        | assumption | apply unrecRaise_inv)
    | split

theorem recWrite_inv (k : Nat) (f : RecFrame) (key : Bool) (un : Tab Nat) (payload : List Byte) (s : State)
 (hg : Kept Q O N s) : Kept Q O N (recWrite k f key un payload s) := by
  unfold recWrite
  repeat' first
    | (with_reducible first
        | assumption | apply ecSet_inv | apply send_inv | apply auditWrite_inv | apply unrecCount_inv)
    | split

theorem encRecord_inv (k : Nat) (p : EncCoded) (s : State) (hg : Kept Q O N s) : Kept Q O N (encRecord k p s) := by
  unfold encRecord
  try dsimp only
  repeat' first
    | (with_reducible first
        | assumption | apply recWrite_inv | apply ecSet_inv | apply foldl_inv | apply foldl_inv_fst)
    | (show _ = _; rfl) | (refine time_keep (Q := Q) (O := O) (N := N) ?_ rfl rfl rfl rfl)
    | (simp only [kept_mk]; with_reducible refine keptAt ?_) | intro _ | dsimp only | split

theorem encConsWrite_inv (k : Nat) (init : Nat) (v : W32) (s : State) (hg : Kept Q O N s) :
    Kept Q O N (encConsWrite k init v s) := by
  unfold encConsWrite
  try dsimp only
  repeat' first
    | (with_reducible first
        | assumption | apply ecSet_inv | apply paramRefused_inv | apply foldl_inv | apply foldl_inv_fst)
    | (show _ = _; rfl) | (refine time_keep (Q := Q) (O := O) (N := N) ?_ rfl rfl rfl rfl)
    | (simp only [kept_mk]; with_reducible refine keptAt ?_) | intro _ | dsimp only | split

theorem encCoefLoaded_inv (k : Nat) (crc : Nat) (image : List Byte) (s : State) (hg : Kept Q O N s) :
    Kept Q O N (encCoefLoaded k crc image s).1 := by
  unfold encCoefLoaded
  repeat' first
    | (with_reducible first
        | assumption | apply checked_inv | apply ecUpd_inv)
    | split

theorem loadApply_inv (o : Outst) (data : List Byte) (s : State) (hg : Kept Q O N s) : Kept Q O N (loadApply o data s).1 := by
  unfold loadApply
  repeat' first
    | (with_reducible first
        | assumption | apply dpcdLoaded_inv | apply coefLoaded_inv | apply xferLoaded_inv | apply stillLoaded_inv
        | apply encCoefLoaded_inv)
    | split

theorem loadReply_inv (o : Outst) (r : Reply) (s : State) (hg : Kept Q O N s) : Kept Q O N (loadReply o r s) := by
  unfold loadReply
  repeat' first
    | (with_reducible first
        | assumption | apply completeOutst_inv)
    | split

theorem loadEnd_inv (data : Option (List Byte)) (s : State) (hg : Kept Q O N s) : Kept Q O N (loadEnd data s) := by
  unfold loadEnd
  repeat' first
    | (with_reducible first
        | assumption | apply loadReply_inv | apply loadApply_inv)
    | split

theorem wantHand_inv (r : HandReason) (s : State) (hg : Kept Q O N s) : Kept Q O N (wantHand r s) := by
  unfold wantHand
  repeat' first
    | (with_reducible first
        | assumption | apply withPair_inv)
    | split

theorem toReady_inv (port : Nat) (s : State) (hg : Kept Q O N s) : Kept Q O N (toReady port s) := by
  unfold toReady
  try dsimp only
  repeat' first
    | (with_reducible first
        | assumption | apply setMode_inv | apply domainUp_inv | apply withPwr_inv | apply foldl_inv
        | apply foldl_inv_fst)
    | (show _ = _; rfl) | (refine time_keep (Q := Q) (O := O) (N := N) ?_ rfl rfl rfl rfl)
    | (simp only [kept_mk]; with_reducible refine keptAt ?_) | intro _ | dsimp only | split

theorem enterBindOff_inv (port : Nat) (s : State) (hg : Kept Q O N s) : Kept Q O N (enterBindOff port s) := by
  unfold enterBindOff
  repeat' first
    | (with_reducible first
        | assumption | apply setMode_inv | apply pairDrop_inv)
    | split

theorem modeChange_inv (n : Nat) (port : Nat) (s : State) (hg : Kept Q O N s) : Kept Q O N (modeChange n port s).1 := by
  unfold modeChange
  repeat' first
    | (with_reducible first
        | assumption | apply toReady_inv | apply setMode_inv | apply wantHand_inv | apply pairDrop_inv
        | apply safeHoldCause_inv | apply enterBindOff_inv)
    | split

theorem opModeSet_inv (c : Cmd) (s : State) (hg : Kept Q O N s) : Kept Q O N (opModeSet c s).1 := by
  unfold opModeSet
  repeat' first
    | (with_reducible first
        | assumption | apply checked_inv | apply modeChange_inv)
    | split

theorem bindOffEnd_inv (s : State) (hg : Kept Q O N s) : Kept Q O N (bindOffEnd s) := by
  unfold bindOffEnd
  repeat' first
    | (with_reducible first
        | assumption | apply completeOutst_inv | apply withTouch_inv | apply enterOff_inv | apply raise_inv)
    | split

theorem roleEvent_inv (new : Nat) (prev : Nat) (cause : Nat) (frame : Nat) (ns : Nat) (s : State) (hg : Kept Q O N s) :
    Kept Q O N (roleEvent new prev cause frame ns s) := by
  unfold roleEvent
  repeat' first
    | (with_reducible first
        | assumption | apply raise_inv)
    | split

theorem linkEventPair_inv (removed : Nat) (silence : Bool) (s : State) (hg : Kept Q O N s) :
    Kept Q O N (linkEventPair removed silence s) := by
  unfold linkEventPair
  repeat' first
    | (with_reducible first
        | assumption | apply raise_inv)
    | split

theorem knitEvent_inv (result : Nat) (cause : Nat) (s : State) (hg : Kept Q O N s) : Kept Q O N (knitEvent result cause s) := by
  unfold knitEvent
  repeat' first
    | (with_reducible first
        | assumption | apply raise_inv)
    | split

theorem allWhole_inv (s : State) (hg : Kept Q O N s) : Kept Q O N (allWhole s) := by
  unfold allWhole
  repeat' first
    | (with_reducible first
        | assumption | apply withScan_inv)
    | split

theorem showsFrom_inv (old : Nat) (t : Nat) (s : State) (hg : Kept Q O N s) : Kept Q O N (showsFrom old t s) := by
  unfold showsFrom
  try dsimp only
  repeat' first
    | (with_reducible first
        | assumption | apply allWhole_inv | apply withPair_inv | apply foldl_inv | apply foldl_inv_fst
        | apply foldl_inv_snd | apply foldl_inv_snd2)
    | (show _ = _; rfl) | (refine time_keep (Q := Q) (O := O) (N := N) ?_ rfl rfl rfl rfl)
    | (simp only [kept_mk]; with_reducible refine keptAt ?_) | intro _ | dsimp only
    | (refine pair_inv (by with_reducible assumption) ?_) | (refine pair_inv2 (by with_reducible assumption) ?_)
    | (refine pair_inv3 (by with_reducible assumption) ?_) | (refine pair_inv5 (by with_reducible assumption) ?_)
    | split

theorem becomeLead_inv (cause : Nat) (frame : Nat) (old : Nat) (t : Nat) (ns : Nat) (s0 : State) (hg : Kept Q O N s0) : Kept Q O N
    (becomeLead cause frame old t ns s0) := by
  unfold becomeLead
  try dsimp only
  repeat' first
    | (with_reducible first
        | assumption | apply drillEnd_inv | apply withPair_inv | apply roleEvent_inv | apply showsFrom_inv
        | apply setMode_inv | apply foldl_inv | apply foldl_inv_fst | apply foldl_inv_snd | apply foldl_inv_snd2)
    | (show _ = _; rfl) | (refine time_keep (Q := Q) (O := O) (N := N) ?_ rfl rfl rfl rfl)
    | (simp only [kept_mk]; with_reducible refine keptAt ?_) | intro _ | dsimp only
    | (refine pair_inv (by with_reducible assumption) ?_) | (refine pair_inv2 (by with_reducible assumption) ?_)
    | (refine pair_inv3 (by with_reducible assumption) ?_) | (refine pair_inv5 (by with_reducible assumption) ?_)
    | split

theorem startTakeover_inv (cause : Nat) (s : State) (hg : Kept Q O N s) : Kept Q O N (startTakeover cause s) := by
  unfold startTakeover
  try dsimp only
  repeat' first
    | (with_reducible first
        | assumption | apply withPair_inv | apply foldl_inv | apply foldl_inv_fst | apply foldl_inv_snd
        | apply foldl_inv_snd2)
    | (show _ = _; rfl) | (refine time_keep (Q := Q) (O := O) (N := N) ?_ rfl rfl rfl rfl)
    | (simp only [kept_mk]; with_reducible refine keptAt ?_) | intro _ | dsimp only
    | (refine pair_inv (by with_reducible assumption) ?_) | (refine pair_inv2 (by with_reducible assumption) ?_)
    | (refine pair_inv3 (by with_reducible assumption) ?_) | (refine pair_inv5 (by with_reducible assumption) ?_)
    | split

theorem knitFail_inv (cause : Nat) (why : Nat) (port : Nat) (s : State) (hg : Kept Q O N s) :
    Kept Q O N (knitFail cause why port s) := by
  unfold knitFail
  repeat' first
    | (with_reducible first
        | assumption | apply knitEvent_inv | apply setMode_inv | apply withPair_inv)
    | split

theorem leadLost_inv (s : State) (hg : Kept Q O N s) : Kept Q O N (leadLost s) := by
  unfold leadLost
  repeat' first
    | (with_reducible first
        | assumption | apply knitEvent_inv | apply enterSafeHold_inv | apply withPair_inv)
    | split

theorem followLost_inv (silence : Bool) (s : State) (hg : Kept Q O N s) : Kept Q O N (followLost silence s) := by
  unfold followLost
  try dsimp only
  repeat' first
    | (with_reducible first
        | assumption | apply drillEnd_inv | apply withPair_inv | apply roleEvent_inv | apply setMode_inv
        | apply linkEventPair_inv | apply foldl_inv | apply foldl_inv_fst | apply foldl_inv_snd
        | apply foldl_inv_snd2)
    | (show _ = _; rfl) | (refine time_keep (Q := Q) (O := O) (N := N) ?_ rfl rfl rfl rfl)
    | (simp only [kept_mk]; with_reducible refine keptAt ?_) | intro _ | dsimp only
    | (refine pair_inv (by with_reducible assumption) ?_) | (refine pair_inv2 (by with_reducible assumption) ?_)
    | (refine pair_inv3 (by with_reducible assumption) ?_) | (refine pair_inv5 (by with_reducible assumption) ?_)
    | split

theorem opPairSet_inv (c : Cmd) (s : State) (hg : Kept Q O N s) : Kept Q O N (opPairSet c s).1 := by
  unfold opPairSet
  try dsimp only
  repeat' first
    | (with_reducible first
        | assumption | apply checked_inv | apply withPair_inv | apply setMode_inv | apply foldl_inv
        | apply foldl_inv_fst)
    | (show _ = _; rfl) | (refine time_keep (Q := Q) (O := O) (N := N) ?_ rfl rfl rfl rfl)
    | (simp only [kept_mk]; with_reducible refine keptAt ?_) | intro _ | dsimp only | split

theorem opPairAccept_inv (c : Cmd) (s : State) (hg : Kept Q O N s) : Kept Q O N (opPairAccept c s).1 := by
  unfold opPairAccept
  try dsimp only
  repeat' first
    | (with_reducible first
        | assumption | apply checked_inv | apply withPair_inv | apply foldl_inv | apply foldl_inv_fst)
    | (show _ = _; rfl) | (refine time_keep (Q := Q) (O := O) (N := N) ?_ rfl rfl rfl rfl)
    | (simp only [kept_mk]; with_reducible refine keptAt ?_) | intro _ | dsimp only | split

theorem knitBegin_inv (s : State) (hg : Kept Q O N s) : Kept Q O N (knitBegin s) := by
  unfold knitBegin
  repeat' first
    | (with_reducible first
        | assumption | apply setMode_inv | apply withPair_inv | apply knitEvent_inv)
    | split

theorem opPairKnit_inv (_c : Cmd) (s : State) (hg : Kept Q O N s) : Kept Q O N (opPairKnit _c s).1 := by
  unfold opPairKnit
  try dsimp only
  repeat' first
    | (with_reducible first
        | assumption | apply checked_inv | apply laneEnable_inv | apply knitBegin_inv | apply foldl_inv
        | apply foldl_inv_fst)
    | (show _ = _; rfl) | (refine time_keep (Q := Q) (O := O) (N := N) ?_ rfl rfl rfl rfl)
    | (simp only [kept_mk]; with_reducible refine keptAt ?_) | intro _ | dsimp only | split

theorem drillBegin_inv (frame : Nat) (ret : Nat) (cause : Nat) (port : Nat) (s : State) (hg : Kept Q O N s) : Kept Q O N
    (drillBegin frame ret cause port s) := by
  unfold drillBegin
  try dsimp only
  repeat' first
    | (with_reducible first
        | assumption | apply setMode_inv | apply withPair_inv | apply foldl_inv | apply foldl_inv_fst
        | apply foldl_inv_snd | apply foldl_inv_snd2)
    | (show _ = _; rfl) | (refine time_keep (Q := Q) (O := O) (N := N) ?_ rfl rfl rfl rfl)
    | (simp only [kept_mk]; with_reducible refine keptAt ?_) | intro _ | dsimp only
    | (refine pair_inv (by with_reducible assumption) ?_) | (refine pair_inv2 (by with_reducible assumption) ?_)
    | (refine pair_inv3 (by with_reducible assumption) ?_) | (refine pair_inv5 (by with_reducible assumption) ?_)
    | split

theorem opPairDrill_inv (c : Cmd) (s : State) (hg : Kept Q O N s) : Kept Q O N (opPairDrill c s).1 := by
  unfold opPairDrill
  try dsimp only
  repeat' first
    | (with_reducible first
        | assumption | apply checked_inv | apply drillBegin_inv | apply send_inv | apply foldl_inv
        | apply foldl_inv_fst)
    | (show _ = _; rfl) | (refine time_keep (Q := Q) (O := O) (N := N) ?_ rfl rfl rfl rfl)
    | (simp only [kept_mk]; with_reducible refine keptAt ?_) | intro _ | dsimp only | split

theorem followLeaves_inv (cause : Nat) (port : Nat) (s : State) (hg : Kept Q O N s) : Kept Q O N (followLeaves cause port s) := by
  unfold followLeaves
  repeat' first
    | (with_reducible first
        | assumption | apply setMode_inv | apply withPair_inv | apply roleEvent_inv)
    | split

theorem pairLeave_inv (port : Nat) (s : State) (hg : Kept Q O N s) : Kept Q O N (pairLeave port s) := by
  unfold pairLeave
  repeat' first
    | (with_reducible first
        | assumption | apply followLeaves_inv | apply knitFail_inv | apply send_inv | apply withPair_inv
        | apply setMode_inv | apply roleEvent_inv)
    | split

theorem opPairLeave_inv (c : Cmd) (s : State) (hg : Kept Q O N s) : Kept Q O N (opPairLeave c s).1 := by
  unfold opPairLeave
  repeat' first
    | (with_reducible first
        | assumption | apply checked_inv | apply pairLeave_inv)
    | split

theorem opPairStatus_inv (_c : Cmd) (s : State) (hg : Kept Q O N s) : Kept Q O N (opPairStatus _c s).1 := by
  unfold opPairStatus
  repeat' first
    | (with_reducible first
        | assumption)
    | split

theorem pairClear_inv (off : Nat) (s : State) (hg : Kept Q O N s) : Kept Q O N (pairClear off s) := by
  unfold pairClear
  repeat' first
    | (with_reducible first
        | assumption | apply withPair_inv)
    | split

theorem pairReport_inv (t0 : Int) (t3 : Int) (s : State) (hg : Kept Q O N s) : Kept Q O N (pairReport t0 t3 s) := by
  unfold pairReport
  try dsimp only
  repeat' first
    | (with_reducible first
        | assumption | apply withTb_inv | apply withPair_inv | apply raise_inv | apply foldl_inv
        | apply foldl_inv_fst | apply foldl_inv_snd | apply foldl_inv_snd2)
    | (show _ = _; rfl) | (refine time_keep (Q := Q) (O := O) (N := N) ?_ rfl rfl rfl rfl)
    | (simp only [kept_mk]; with_reducible refine keptAt ?_) | intro _ | dsimp only
    | (refine pair_inv (by with_reducible assumption) ?_) | (refine pair_inv2 (by with_reducible assumption) ?_)
    | (refine pair_inv3 (by with_reducible assumption) ?_) | (refine pair_inv5 (by with_reducible assumption) ?_)
    | split

theorem pairSend_inv (p : StampNs) (s : State) (hg : Kept Q O N s) : Kept Q O N (pairSend p s) := by
  unfold pairSend
  try dsimp only
  repeat' first
    | (with_reducible first
        | assumption | apply takeFree_inv | apply txqPush_inv | apply txqSet_inv | apply send_inv
        | apply withPair_inv | apply foldl_inv | apply foldl_inv_fst | apply foldl_inv_snd | apply foldl_inv_snd2)
    | (show _ = _; rfl) | (refine time_keep (Q := Q) (O := O) (N := N) ?_ rfl rfl rfl rfl)
    | (simp only [kept_mk]; with_reducible refine keptAt ?_) | intro _ | dsimp only
    | (refine pair_inv (by with_reducible assumption) ?_) | (refine pair_inv2 (by with_reducible assumption) ?_)
    | (refine pair_inv3 (by with_reducible assumption) ?_) | (refine pair_inv5 (by with_reducible assumption) ?_)
    | split

theorem pairMeasure_inv (p : StampNs) (s : State) (hg : Kept Q O N s) : Kept Q O N (pairMeasure p s) := by
  unfold pairMeasure
  try dsimp only
  repeat' first
    | (with_reducible first
        | assumption | apply pairSend_inv | apply pairReport_inv | apply foldl_inv | apply foldl_inv_fst
        | apply foldl_inv_snd | apply foldl_inv_snd2)
    | (show _ = _; rfl) | (refine time_keep (Q := Q) (O := O) (N := N) ?_ rfl rfl rfl rfl)
    | (simp only [kept_mk]; with_reducible refine keptAt ?_) | intro _ | dsimp only
    | (refine pair_inv (by with_reducible assumption) ?_) | (refine pair_inv2 (by with_reducible assumption) ?_)
    | (refine pair_inv3 (by with_reducible assumption) ?_) | (refine pair_inv5 (by with_reducible assumption) ?_)
    | split

theorem timingReceive_inv (p : StampNs) (ident : W16) (echo : Option (W16 × PairStamp)) (prev : Option (W16 × PairStamp)) (s : State)
    (hg : Kept Q O N s) : Kept Q O N (timingReceive p ident echo prev s) := by
  unfold timingReceive
  try dsimp only
  repeat' first
    | (with_reducible first
        | assumption | apply withPair_inv | apply foldl_inv | apply foldl_inv_fst | apply foldl_inv_snd
        | apply foldl_inv_snd2)
    | (show _ = _; rfl) | (refine time_keep (Q := Q) (O := O) (N := N) ?_ rfl rfl rfl rfl)
    | (simp only [kept_mk]; with_reducible refine keptAt ?_) | intro _ | dsimp only
    | (refine pair_inv (by with_reducible assumption) ?_) | (refine pair_inv2 (by with_reducible assumption) ?_)
    | (refine pair_inv3 (by with_reducible assumption) ?_) | (refine pair_inv5 (by with_reducible assumption) ?_)
    | split

theorem heartbeatSend_inv (s : State) (hg : Kept Q O N s) : Kept Q O N (heartbeatSend s) := by
  unfold heartbeatSend
  try dsimp only
  repeat' first
    | (with_reducible first
        | assumption | apply withPair_inv | apply send_inv | apply foldl_inv | apply foldl_inv_fst)
    | (show _ = _; rfl) | (refine time_keep (Q := Q) (O := O) (N := N) ?_ rfl rfl rfl rfl)
    | (simp only [kept_mk]; with_reducible refine keptAt ?_) | intro _ | dsimp only | split

theorem heartbeatActs_inv (h : Heartbeat) (old : Nat) (s : State) (hg : Kept Q O N s) : Kept Q O N (heartbeatActs h old s) := by
  unfold heartbeatActs
  repeat' first
    | (with_reducible first
        | assumption | apply leadLost_inv | apply startTakeover_inv | apply followLost_inv | apply withPair_inv)
    | split

theorem heartbeatReceive_inv (lane : Nat) (h : Heartbeat) (s : State) (hg : Kept Q O N s) :
    Kept Q O N (heartbeatReceive lane h s) := by
  unfold heartbeatReceive
  try dsimp only
  repeat' first
    | (with_reducible first
        | assumption | apply heartbeatActs_inv | apply withPair_inv | apply foldl_inv | apply foldl_inv_fst)
    | (show _ = _; rfl) | (refine time_keep (Q := Q) (O := O) (N := N) ?_ rfl rfl rfl rfl)
    | (simp only [kept_mk]; with_reducible refine keptAt ?_) | intro _ | dsimp only | split

theorem heartbeatSilence_inv (s : State) (hg : Kept Q O N s) : Kept Q O N (heartbeatSilence s) := by
  unfold heartbeatSilence
  try dsimp only
  repeat' first
    | (with_reducible first
        | assumption | apply withPair_inv | apply leadLost_inv | apply startTakeover_inv | apply followLost_inv
        | apply foldl_inv | apply foldl_inv_fst)
    | (show _ = _; rfl) | (refine time_keep (Q := Q) (O := O) (N := N) ?_ rfl rfl rfl rfl)
    | (simp only [kept_mk]; with_reducible refine keptAt ?_) | intro _ | dsimp only | split

theorem txWatchdog_inv (s : State) (hg : Kept Q O N s) : Kept Q O N (txWatchdog s) := by
  unfold txWatchdog
  repeat' first
    | (with_reducible first
        | assumption | apply withPair_inv)
    | split

theorem pinEvent_inv (code : Nat) (s : State) (hg : Kept Q O N s) : Kept Q O N (pinEvent code s) := by
  unfold pinEvent
  repeat' first
    | (with_reducible first
        | assumption | apply raise_inv)
    | split

theorem leadInYield_inv (s : State) (hg : Kept Q O N s) : Kept Q O N (leadInYield s) := by
  unfold leadInYield
  repeat' first
    | (with_reducible first
        | assumption | apply withPair_inv | apply pinEvent_inv | apply roleEvent_inv | apply enterSafeHold_inv)
    | split

theorem pairPin_inv (s : State) (hg : Kept Q O N s) : Kept Q O N (pairPin s) := by
  unfold pairPin
  repeat' first
    | (with_reducible first
        | assumption | apply pinEvent_inv | apply withPair_inv)
    | split

theorem laneRemove_inv (i : Nat) (s : State) (hg : Kept Q O N s) : Kept Q O N (laneRemove i s) := by
  unfold laneRemove
  repeat' first
    | (with_reducible first
        | assumption | apply laneUpd_inv | apply linkEventPair_inv | apply withPair_inv)
    | split

theorem takeLifeline_inv (c : Nat) (i : Nat) (t : Nat) (bs : List Byte) (s : State) (hg : Kept Q O N s) : Kept Q O N
    (takeLifeline c i t bs s) := by
  unfold takeLifeline
  try dsimp only
  repeat' first
    | (with_reducible first
        | assumption | apply canUpd_inv | apply writeStitch_inv | apply foldl_inv | apply foldl_inv_fst
        | apply foldl_inv_snd | apply foldl_inv_snd2)
    | (show _ = _; rfl) | (refine time_keep (Q := Q) (O := O) (N := N) ?_ rfl rfl rfl rfl)
    | (simp only [kept_mk]; with_reducible refine keptAt ?_) | intro _ | dsimp only
    | (refine pair_inv (by with_reducible assumption) ?_) | (refine pair_inv2 (by with_reducible assumption) ?_)
    | (refine pair_inv3 (by with_reducible assumption) ?_) | (refine pair_inv5 (by with_reducible assumption) ?_)
    | split

theorem corlerMessage_inv (p : StampNs) (x1 : CorlerMsg) (s : State) (hg : Kept Q O N s) : Kept Q O N (corlerMessage p x1 s) := by
  unfold corlerMessage
  try dsimp only
  repeat' first
    | (with_reducible first
        | assumption | apply raise_inv | apply send_inv | apply withPair_inv | apply takeLifeline_inv
        | apply drillBegin_inv | apply timingReceive_inv | apply notPermitted_inv | apply foldl_inv
        | apply foldl_inv_fst | apply foldl_inv_snd | apply foldl_inv_snd2)
    | (show _ = _; rfl) | (refine time_keep (Q := Q) (O := O) (N := N) ?_ rfl rfl rfl rfl)
    | (simp only [kept_mk]; with_reducible refine keptAt ?_) | intro _ | dsimp only
    | (refine pair_inv (by with_reducible assumption) ?_) | (refine pair_inv2 (by with_reducible assumption) ?_)
    | (refine pair_inv3 (by with_reducible assumption) ?_) | (refine pair_inv5 (by with_reducible assumption) ?_)
    | split

theorem corlerFrame_inv (lane : Nat) (f : CorlerFrame) (s : State) (hg : Kept Q O N s) : Kept Q O N (corlerFrame lane f s) := by
  unfold corlerFrame
  try dsimp only
  repeat' first
    | (with_reducible first
        | assumption | apply corlerMessage_inv | apply withPair_inv | apply laneRemove_inv | apply foldl_inv
        | apply foldl_inv_fst | apply foldl_inv_snd | apply foldl_inv_snd2)
    | (show _ = _; rfl) | (refine time_keep (Q := Q) (O := O) (N := N) ?_ rfl rfl rfl rfl)
    | (simp only [kept_mk]; with_reducible refine keptAt ?_) | intro _ | dsimp only
    | (refine pair_inv (by with_reducible assumption) ?_) | (refine pair_inv2 (by with_reducible assumption) ?_)
    | (refine pair_inv3 (by with_reducible assumption) ?_) | (refine pair_inv5 (by with_reducible assumption) ?_)
    | split

theorem phaseNext_inv (s : State) (hg : Kept Q O N s) : Kept Q O N (phaseNext s) := by
  unfold phaseNext
  repeat' first
    | (with_reducible first
        | assumption | apply knitEvent_inv | apply withPair_inv)
    | split

theorem corlerTraining_inv (r : CorlerTraining) (s : State) (hg : Kept Q O N s) : Kept Q O N (corlerTraining r s) := by
  unfold corlerTraining
  try dsimp only
  repeat' first
    | (with_reducible first
        | assumption | apply withPair_inv | apply knitFail_inv | apply laneUpd_inv | apply send_inv
        | apply phaseNext_inv | apply foldl_inv | apply foldl_inv_fst)
    | (show _ = _; rfl) | (refine time_keep (Q := Q) (O := O) (N := N) ?_ rfl rfl rfl rfl)
    | (simp only [kept_mk]; with_reducible refine keptAt ?_) | intro _ | dsimp only | split

theorem trainingRetry_inv (s : State) (hg : Kept Q O N s) : Kept Q O N (trainingRetry s) := by
  unfold trainingRetry
  repeat' first
    | (with_reducible first
        | assumption | apply withPair_inv)
    | split

theorem notCompared_inv (o : Nat) (code : Nat) (s : State) (hg : Kept Q O N s) : Kept Q O N (notCompared o code s) := by
  unfold notCompared
  repeat' first
    | (with_reducible first
        | assumption | apply cmpResult_inv | apply withPair_inv)
    | split

theorem configEvent_inv (differ : Bool) (s : State) (hg : Kept Q O N s) : Kept Q O N (configEvent differ s) := by
  unfold configEvent
  repeat' first
    | (with_reducible first
        | assumption | apply raise_inv)
    | split

theorem configCheck_inv (s : State) (hg : Kept Q O N s) : Kept Q O N (configCheck s) := by
  unfold configCheck
  try dsimp only
  repeat' first
    | (with_reducible first
        | assumption | apply withPair_inv | apply configEvent_inv | apply foldl_inv | apply foldl_inv_fst)
    | (show _ = _; rfl) | (refine time_keep (Q := Q) (O := O) (N := N) ?_ rfl rfl rfl rfl)
    | (simp only [kept_mk]; with_reducible refine keptAt ?_) | intro _ | dsimp only | split

theorem digestReceive_inv (r : PeerDigest) (s : State) (hg : Kept Q O N s) : Kept Q O N (digestReceive r s) := by
  unfold digestReceive
  try dsimp only
  repeat' first
    | (with_reducible first
        | assumption | apply configCheck_inv | apply withPair_inv | apply notCompared_inv | apply comparePair_inv
        | apply foldl_inv | apply foldl_inv_fst)
    | (show _ = _; rfl) | (refine time_keep (Q := Q) (O := O) (N := N) ?_ rfl rfl rfl rfl)
    | (simp only [kept_mk]; with_reducible refine keptAt ?_) | intro _ | dsimp only | split

theorem digestLate_inv (o : Nat) (s : State) (hg : Kept Q O N s) : Kept Q O N (digestLate o s) := by
  unfold digestLate
  try dsimp only
  repeat' first
    | (with_reducible first
        | assumption | apply notCompared_inv | apply withPair_inv | apply foldl_inv | apply foldl_inv_fst)
    | (show _ = _; rfl) | (refine time_keep (Q := Q) (O := O) (N := N) ?_ rfl rfl rfl rfl)
    | (simp only [kept_mk]; with_reducible refine keptAt ?_) | intro _ | dsimp only | split

theorem pairConfig_inv (s : State) (hg : Kept Q O N s) : Kept Q O N (pairConfig s) := by
  unfold pairConfig
  try dsimp only
  repeat' first
    | (with_reducible first
        | assumption | apply configCheck_inv | apply configEvent_inv | apply withPair_inv | apply foldl_inv
        | apply foldl_inv_fst)
    | (show _ = _; rfl) | (refine time_keep (Q := Q) (O := O) (N := N) ?_ rfl rfl rfl rfl)
    | (simp only [kept_mk]; with_reducible refine keptAt ?_) | intro _ | dsimp only | split

theorem takeover_inv (s : State) (hg : Kept Q O N s) : Kept Q O N (takeover s) := by
  unfold takeover
  try dsimp only
  repeat' first
    | (with_reducible first
        | assumption | apply becomeLead_inv | apply foldl_inv | apply foldl_inv_fst | apply foldl_inv_snd
        | apply foldl_inv_snd2)
    | (show _ = _; rfl) | (refine time_keep (Q := Q) (O := O) (N := N) ?_ rfl rfl rfl rfl)
    | (simp only [kept_mk]; with_reducible refine keptAt ?_) | intro _ | dsimp only
    | (refine pair_inv (by with_reducible assumption) ?_) | (refine pair_inv2 (by with_reducible assumption) ?_)
    | (refine pair_inv3 (by with_reducible assumption) ?_) | (refine pair_inv5 (by with_reducible assumption) ?_)
    | split

theorem leadActs_inv (r : HandReason) (s : State) (hg : Kept Q O N s) : Kept Q O N (leadActs r s) := by
  unfold leadActs
  repeat' first
    | (with_reducible first
        | assumption | apply setMode_inv | apply enterSafeHold_inv | apply enterBindOff_inv | apply pairDrop_inv)
    | split

theorem handoverRequest_inv (s : State) (hg : Kept Q O N s) : Kept Q O N (handoverRequest s) := by
  unfold handoverRequest
  repeat' first
    | (with_reducible first
        | assumption | apply withPair_inv | apply roleEvent_inv | apply leadActs_inv)
    | split

theorem handoverSwitch_inv (s : State) (hg : Kept Q O N s) : Kept Q O N (handoverSwitch s) := by
  unfold handoverSwitch
  try dsimp only
  repeat' first
    | (with_reducible first
        | assumption | apply leadActs_inv | apply withPair_inv | apply roleEvent_inv | apply becomeLead_inv
        | apply foldl_inv | apply foldl_inv_fst | apply foldl_inv_snd | apply foldl_inv_snd2)
    | (show _ = _; rfl) | (refine time_keep (Q := Q) (O := O) (N := N) ?_ rfl rfl rfl rfl)
    | (simp only [kept_mk]; with_reducible refine keptAt ?_) | intro _ | dsimp only
    | (refine pair_inv (by with_reducible assumption) ?_) | (refine pair_inv2 (by with_reducible assumption) ?_)
    | (refine pair_inv3 (by with_reducible assumption) ?_) | (refine pair_inv5 (by with_reducible assumption) ?_)
    | split

theorem handoverTimeout_inv (s : State) (hg : Kept Q O N s) : Kept Q O N (handoverTimeout s) := by
  unfold handoverTimeout
  try dsimp only
  repeat' first
    | (with_reducible first
        | assumption | apply roleEvent_inv | apply withPair_inv | apply setMode_inv | apply drillEnd_inv
        | apply foldl_inv | apply foldl_inv_fst | apply foldl_inv_snd | apply foldl_inv_snd2)
    | (show _ = _; rfl) | (refine time_keep (Q := Q) (O := O) (N := N) ?_ rfl rfl rfl rfl)
    | (simp only [kept_mk]; with_reducible refine keptAt ?_) | intro _ | dsimp only
    | (refine pair_inv (by with_reducible assumption) ?_) | (refine pair_inv2 (by with_reducible assumption) ?_)
    | (refine pair_inv3 (by with_reducible assumption) ?_) | (refine pair_inv5 (by with_reducible assumption) ?_)
    | split

theorem leaveReceive_inv (s : State) (hg : Kept Q O N s) : Kept Q O N (leaveReceive s) := by
  unfold leaveReceive
  repeat' first
    | (with_reducible first
        | assumption | apply followLeaves_inv | apply knitFail_inv)
    | split

theorem drillTurn_inv (d : Drill) (frame : Nat) (s : State) (hg : Kept Q O N s) : Kept Q O N (drillTurn d frame s) := by
  unfold drillTurn
  try dsimp only
  repeat' first
    | (with_reducible first
        | assumption | apply roleEvent_inv | apply withPair_inv | apply showsFrom_inv | apply foldl_inv
        | apply foldl_inv_fst | apply foldl_inv_snd | apply foldl_inv_snd2)
    | (show _ = _; rfl) | (refine time_keep (Q := Q) (O := O) (N := N) ?_ rfl rfl rfl rfl)
    | (simp only [kept_mk]; with_reducible refine keptAt ?_) | intro _ | dsimp only
    | (refine pair_inv (by with_reducible assumption) ?_) | (refine pair_inv2 (by with_reducible assumption) ?_)
    | (refine pair_inv3 (by with_reducible assumption) ?_) | (refine pair_inv5 (by with_reducible assumption) ?_)
    | split

theorem drillSwap_inv (s : State) (hg : Kept Q O N s) : Kept Q O N (drillSwap s) := by
  unfold drillSwap
  repeat' first
    | (with_reducible first
        | assumption | apply drillTurn_inv)
    | split

theorem drillReturn_inv (s : State) (hg : Kept Q O N s) : Kept Q O N (drillReturn s) := by
  unfold drillReturn
  repeat' first
    | (with_reducible first
        | assumption | apply drillTurn_inv)
    | split

theorem drillResult_inv (s : State) (hg : Kept Q O N s) : Kept Q O N (drillResult s) := by
  unfold drillResult
  try dsimp only
  repeat' first
    | (with_reducible first
        | assumption | apply drillEnd_inv | apply roleEvent_inv | apply setMode_inv | apply foldl_inv
        | apply foldl_inv_fst | apply foldl_inv_snd | apply foldl_inv_snd2)
    | (show _ = _; rfl) | (refine time_keep (Q := Q) (O := O) (N := N) ?_ rfl rfl rfl rfl)
    | (simp only [kept_mk]; with_reducible refine keptAt ?_) | intro _ | dsimp only
    | (refine pair_inv (by with_reducible assumption) ?_) | (refine pair_inv2 (by with_reducible assumption) ?_)
    | (refine pair_inv3 (by with_reducible assumption) ?_) | (refine pair_inv5 (by with_reducible assumption) ?_)
    | split

theorem copyStreams_inv (t : Tab (List Byte)) (s : State) (hg : Kept Q O N s) : Kept Q O N (copyStreams t s) := by
  unfold copyStreams
  try dsimp only
  repeat' first
    | (with_reducible first
        | assumption | apply withStr_inv | apply settleMerge_inv | apply foldl_inv | apply foldl_inv_fst)
    | (show _ = _; rfl) | (refine time_keep (Q := Q) (O := O) (N := N) ?_ rfl rfl rfl rfl)
    | (simp only [kept_mk]; with_reducible refine keptAt ?_) | intro _ | dsimp only | split

theorem copyStills_inv (p : PairCopy) (s : State) (hg : Kept Q O N s) : Kept Q O N (copyStills p s) := by
  unfold copyStills
  try dsimp only
  repeat' first
    | (with_reducible first
        | assumption | apply busWrite_inv | apply foldl_inv | apply foldl_inv_fst)
    | (show _ = _; rfl) | (refine time_keep (Q := Q) (O := O) (N := N) ?_ rfl rfl rfl rfl)
    | (simp only [kept_mk]; with_reducible refine keptAt ?_) | intro _ | dsimp only | split

theorem applySnapshot_inv (p : PairCopy) (s : State) (hg : Kept Q O N s) : Kept Q O N (applySnapshot p s) := by
  unfold applySnapshot
  try dsimp only
  repeat' first
    | (with_reducible first
        | assumption | apply copyStreams_inv | apply withNet_inv | apply withTb_inv | apply withComp_inv
        | apply outUpd_inv | apply ecUpd_inv | apply copyStills_inv | apply withPair_inv | apply foldl_inv
        | apply foldl_inv_fst)
    | (show _ = _; rfl) | (refine time_keep (Q := Q) (O := O) (N := N) ?_ rfl rfl rfl rfl)
    | (simp only [kept_mk]; with_reducible refine keptAt ?_) | intro _ | dsimp only
    | (refine pair_inv (by with_reducible assumption) ?_) | (refine pair_inv2 (by with_reducible assumption) ?_)
    | (refine pair_inv3 (by with_reducible assumption) ?_) | (refine pair_inv5 (by with_reducible assumption) ?_)
    | split

theorem applyState_inv (p : StateCopy) (s : State) (hg : Kept Q O N s) : Kept Q O N (applyState p s) := by
  unfold applyState
  try dsimp only
  repeat' first
    | (with_reducible first
        | assumption | apply busWrite_inv | apply canUpd_inv | apply ecUpd_inv | apply foldl_inv
        | apply foldl_inv_fst)
    | (show _ = _; rfl) | (refine time_keep (Q := Q) (O := O) (N := N) ?_ rfl rfl rfl rfl)
    | (simp only [kept_mk]; with_reducible refine keptAt ?_) | intro _ | dsimp only | split

theorem knitPhaseEnd_inv (k : KnitEnd) (s : State) (hg : Kept Q O N s) : Kept Q O N (knitPhaseEnd k s) := by
  unfold knitPhaseEnd
  try dsimp only
  repeat' first
    | (with_reducible first
        | assumption | apply phaseNext_inv | apply send_inv | apply applySnapshot_inv | apply applyState_inv
        | apply withPair_inv | apply knitEvent_inv | apply setMode_inv | apply roleEvent_inv | apply foldl_inv
        | apply foldl_inv_fst)
    | (show _ = _; rfl) | (refine time_keep (Q := Q) (O := O) (N := N) ?_ rfl rfl rfl rfl)
    | (simp only [kept_mk]; with_reducible refine keptAt ?_) | intro _ | dsimp only | split

theorem copyFailed_inv (k : Nat) (abandoned : Bool) (s : State) (hg : Kept Q O N s) : Kept Q O N (copyFailed k abandoned s) := by
  unfold copyFailed
  try dsimp only
  repeat' first
    | (with_reducible first
        | assumption | apply withPair_inv | apply strUpd_inv | apply foldl_inv | apply foldl_inv_fst)
    | (show _ = _; rfl) | (refine time_keep (Q := Q) (O := O) (N := N) ?_ rfl rfl rfl rfl)
    | (simp only [kept_mk]; with_reducible refine keptAt ?_) | intro _ | dsimp only | split

theorem moverStitch_good (k : Nat) (sends : Bool) (us : List StageFault) (f : Surf) (r : List Failure × State) (c : Nat × Nat)
    (h : Kept Q O N r.2) : Kept Q O N (moverStitch k sends us f r c).2 := by
  unfold moverStitch
  dsimp only
  repeat' first
    | (with_reducible first
        | assumption | apply send_inv | apply fetchStitch_inv)
    | intro _ | dsimp only | split

theorem moverSurface_good (k : Nat) (sends : Bool) (us : List StageFault) (slot frame : Nat) (f : Surf) (r : Bool × State)
    (h : Kept Q O N r.2) : Kept Q O N (moverSurface k sends us slot frame f r).2 := by
  unfold moverSurface
  dsimp only
  refine custodyReport_inv _ _ _ _ _ _ _ _ ?_
  refine foldl_inv_snd (fun _ _ hy => moverStitch_good _ _ _ _ _ _ hy) ?_
  exact h

theorem moverRead_inv (k : Nat) (sends : Bool) (us : List StageFault) (s : State) (hg : Kept Q O N s) :
    Kept Q O N (moverRead k sends us s).2 := by
  unfold moverRead
  dsimp only
  refine foldl_inv_snd (fun _ _ hy => moverSurface_good _ _ _ _ _ _ _ hy) ?_
  refine foldl_inv_snd (fun _ _ hy => moverSurface_good _ _ _ _ _ _ _ hy) ?_
  exact hg

theorem copyIn_inv (k : Nat) (x : StreamCopy) (s : State) (hg : Kept Q O N s) : Kept Q O N (copyIn k x s) := by
  unfold copyIn
  try dsimp only
  repeat' first
    | (with_reducible first
        | assumption | apply strUpd_inv | apply withStr_inv | apply busWrite_inv | apply foldl_inv
        | apply foldl_inv_fst | apply foldl_inv_snd | apply foldl_inv_snd2)
    | (show _ = _; rfl) | (refine time_keep (Q := Q) (O := O) (N := N) ?_ rfl rfl rfl rfl)
    | (simp only [kept_mk]; with_reducible refine keptAt ?_) | intro _ | dsimp only
    | (refine pair_inv (by with_reducible assumption) ?_) | (refine pair_inv2 (by with_reducible assumption) ?_)
    | (refine pair_inv3 (by with_reducible assumption) ?_) | (refine pair_inv5 (by with_reducible assumption) ?_)
    | split

theorem streamCopy_inv (k : Nat) (x : StreamCopy) (s : State) (hg : Kept Q O N s) : Kept Q O N (streamCopy k x s) := by
  unfold streamCopy
  try dsimp only
  repeat' first
    | (with_reducible first
        | assumption | apply copyFailed_inv | apply moverRead_inv | apply copyIn_inv | apply withPair_inv
        | apply foldl_inv | apply foldl_inv_fst | apply foldl_inv_snd | apply foldl_inv_snd2)
    | (show _ = _; rfl) | (refine time_keep (Q := Q) (O := O) (N := N) ?_ rfl rfl rfl rfl)
    | (simp only [kept_mk]; with_reducible refine keptAt ?_) | intro _ | dsimp only
    | (refine pair_inv (by with_reducible assumption) ?_) | (refine pair_inv2 (by with_reducible assumption) ?_)
    | (refine pair_inv3 (by with_reducible assumption) ?_) | (refine pair_inv5 (by with_reducible assumption) ?_)
    | split

theorem knitTimeout_inv (s : State) (hg : Kept Q O N s) : Kept Q O N (knitTimeout s) := by
  unfold knitTimeout
  repeat' first
    | (with_reducible first
        | assumption | apply knitFail_inv)
    | split

theorem acceptExpiry_inv (s : State) (hg : Kept Q O N s) : Kept Q O N (acceptExpiry s) := by
  unfold acceptExpiry
  repeat' first
    | (with_reducible first
        | assumption | apply withPair_inv)
    | split

theorem loopDetach_inv (i : Nat) (s : State) (hg : Kept Q O N s) : Kept Q O N (loopDetach i s) := by
  unfold loopDetach
  try dsimp only
  repeat' first
    | (with_reducible first
        | assumption | apply outSet_inv | apply linkEvent_inv | apply bbUpd_inv | apply bbEnd_inv
        | apply netLink_inv | apply foldl_inv | apply foldl_inv_fst)
    | (show _ = _; rfl) | (refine time_keep (Q := Q) (O := O) (N := N) ?_ rfl rfl rfl rfl)
    | (simp only [kept_mk]; with_reducible refine keptAt ?_) | intro _ | dsimp only | split

theorem loopAttach_inv (i : Nat) (s : State) (hg : Kept Q O N s) : Kept Q O N (loopAttach i s) := by
  unfold loopAttach
  repeat' first
    | (with_reducible first
        | assumption | apply trainBegin_inv | apply bbUpd_inv)
    | split

theorem loopStart_inv (i : Nat) (kind : Nat) (s : State) (hg : Kept Q O N s) : Kept Q O N (loopStart i kind s) := by
  unfold loopStart
  repeat' first
    | (with_reducible first
        | assumption | apply laneUpd_inv | apply laneEnter_inv | apply loopDetach_inv)
    | split

theorem opLaneLoop_inv (c : Cmd) (s : State) (hg : Kept Q O N s) : Kept Q O N (opLaneLoop c s).1 := by
  unfold opLaneLoop
  repeat' first
    | (with_reducible first
        | assumption | apply checked_inv | apply loopStart_inv)
    | split

theorem loopEnd_inv (r : LoopResult) (s : State) (hg : Kept Q O N s) : Kept Q O N (loopEnd r s) := by
  unfold loopEnd
  try dsimp only
  repeat' first
    | (with_reducible first
        | assumption | apply loopAttach_inv | apply completeOutst_inv | apply laneLeave_inv | apply foldl_inv
        | apply foldl_inv_fst)
    | (show _ = _; rfl) | (refine time_keep (Q := Q) (O := O) (N := N) ?_ rfl rfl rfl rfl)
    | (simp only [kept_mk]; with_reducible refine keptAt ?_) | intro _ | dsimp only | split

theorem recalBegin_inv (i : Nat) (s : State) (hg : Kept Q O N s) : Kept Q O N (recalBegin i s) := by
  unfold recalBegin
  try dsimp only
  repeat' first
    | (with_reducible first
        | assumption | apply recalWaiting_inv | apply laneUpd_inv | apply recalStart_inv | apply streamLinkDown_inv
        | apply withPair_inv | apply foldl_inv | apply foldl_inv_fst)
    | (show _ = _; rfl) | (refine time_keep (Q := Q) (O := O) (N := N) ?_ rfl rfl rfl rfl)
    | (simp only [kept_mk]; with_reducible refine keptAt ?_) | intro _ | dsimp only | split

theorem opLaneRecal_inv (c : Cmd) (s : State) (hg : Kept Q O N s) : Kept Q O N (opLaneRecal c s).1 := by
  unfold opLaneRecal
  repeat' first
    | (with_reducible first
        | assumption | apply checked_inv | apply recalBegin_inv)
    | split

theorem recalReturn_inv (i : Nat) (s : State) (hg : Kept Q O N s) : Kept Q O N (recalReturn i s) := by
  unfold recalReturn
  repeat' first
    | (with_reducible first
        | assumption | apply withPair_inv | apply trainBegin_inv)
    | split

theorem recalEnd_inv (i : Nat) (ok : Bool) (s : State) (hg : Kept Q O N s) : Kept Q O N (recalEnd i ok s) := by
  unfold recalEnd
  try dsimp only
  repeat' first
    | (with_reducible first
        | assumption | apply recalReturn_inv | apply laneLeave_inv | apply linkEventPair_inv | apply laneUpd_inv
        | apply foldl_inv | apply foldl_inv_fst)
    | (show _ = _; rfl) | (refine time_keep (Q := Q) (O := O) (N := N) ?_ rfl rfl rfl rfl)
    | (simp only [kept_mk]; with_reducible refine keptAt ?_) | intro _ | dsimp only | split

theorem enableWork_inv (o : Outst) (s : State) (hg : Kept Q O N s) : Kept Q O N (enableWork o s) := by
  unfold enableWork
  repeat' first
    | (with_reducible first
        | assumption | apply portApply_inv | apply bbOn_inv | apply outOn_inv | apply knitBegin_inv)
    | split

theorem calibrationEnd_inv (failed : List Nat) (s : State) (hg : Kept Q O N s) : Kept Q O N (calibrationEnd failed s) := by
  unfold calibrationEnd
  try dsimp only
  repeat' first
    | (with_reducible first
        | assumption | apply laneLeave_inv | apply completeOutst_inv | apply enableWork_inv | apply foldl_inv
        | apply foldl_inv_fst | apply foldl_inv_snd | apply foldl_inv_snd2)
    | (show _ = _; rfl) | (refine time_keep (Q := Q) (O := O) (N := N) ?_ rfl rfl rfl rfl)
    | (simp only [kept_mk]; with_reducible refine keptAt ?_) | intro _ | dsimp only
    | (refine pair_inv (by with_reducible assumption) ?_) | (refine pair_inv2 (by with_reducible assumption) ?_)
    | (refine pair_inv3 (by with_reducible assumption) ?_) | (refine pair_inv5 (by with_reducible assumption) ?_)
    | split

theorem reset_kept : Kept [] [] 0 {} := by
  refine ⟨rfl, List.prefix_rfl, Nat.le_refl 0, rfl, windowsLawful_nil, ⟨?_, ?_, ?_, ?_, rfl⟩, by decide⟩ <;> exact ⟨by decide, by decide, by decide, by simp, by simp⟩

theorem blank_inv (b : Boot) (s : State) (h : Kept Q O N s) : Kept Q O N (blank b s) :=
  ⟨h.queue, h.sent, h.opened, reset_kept.mem, reset_kept.win, reset_kept.time, reset_kept.seq⟩

theorem castOnFrom_inv (env : BootEnv) (b : Boot) (s : State) (hg : Kept Q O N s) : Kept Q O N (castOnFrom env b s) := by
  unfold castOnFrom
  try dsimp only
  repeat' first
    | (with_reducible first
        | assumption | apply blank_inv | apply withPwr_inv | apply foldl_inv | apply foldl_inv_fst)
    | (show _ = _; rfl) | (refine time_keep (Q := Q) (O := O) (N := N) ?_ rfl rfl rfl rfl)
    | (simp only [kept_mk]; with_reducible refine keptAt ?_) | intro _ | dsimp only | split

theorem resetRelease_inv (env : BootEnv) (s : State) (hg : Kept Q O N s) : Kept Q O N (resetRelease env s) := by
  unfold resetRelease
  repeat' first
    | (with_reducible first
        | assumption | apply castOnFrom_inv)
    | split

theorem resetAssert_inv (s : State) (hg : Kept Q O N s) : Kept Q O N (resetAssert s) := by
  unfold resetAssert
  repeat' first
    | (with_reducible first
        | assumption | apply blank_inv)
    | split

theorem watchdogExpiry_inv (env : BootEnv) (s : State) (hg : Kept Q O N s) : Kept Q O N (watchdogExpiry env s) := by
  unfold watchdogExpiry
  repeat' first
    | (with_reducible first
        | assumption | apply castOnFrom_inv)
    | split

theorem castOnRestart_inv (env : BootEnv) (s : State) (hg : Kept Q O N s) : Kept Q O N (castOnRestart env s) := by
  unfold castOnRestart
  repeat' first
    | (with_reducible first
        | assumption | apply castOnFrom_inv)
    | split

theorem lanesCalibrated_inv (failed : List Nat) (s : State) (hg : Kept Q O N s) : Kept Q O N (lanesCalibrated failed s) := by
  unfold lanesCalibrated
  try dsimp only
  repeat' first
    | (with_reducible first
        | assumption | apply laneEvent_inv | apply laneUpd_inv | apply foldl_inv | apply foldl_inv_fst)
    | (show _ = _; rfl) | (refine time_keep (Q := Q) (O := O) (N := N) ?_ rfl rfl rfl rfl)
    | (simp only [kept_mk]; with_reducible refine keptAt ?_) | intro _ | dsimp only | split

theorem readyReached_inv (env : ReadyEnv) (s : State) (h : Kept Q O N s) : Kept Q O N (readyReached env s) := by
  unfold readyReached
  split
  · exact h
  · have h1 : ∀ y : MemWindow, (y.en = true → winMayEnable s.mem 0 y = true) →
        Kept Q O N { s with mem := { s.mem with mcState := 2, windows := tset 0 y s.mem.windows } } :=
      fun y hy => ⟨h.queue, h.sent, h.opened, h.mem, windowsLawful_set 0 _ h.win hy, h.time, h.seq⟩
    refine setMode_inv _ _ _ _ _ (withPwr_inv _ _ (withBoot_inv _ _ (foldl_inv (fun _ _ hu => raise_inv _ _ _ hu)
      (lanesCalibrated_inv env.failedLanes _ (h1 _ ?_)))))
    intro e
    have e2 : winMayEnable s.mem 0 { en := true, rowCount := 12288 } = true := e
    rw [e2]
    exact e2

theorem opCastOn_inv (c : Cmd) (s : State) (hg : Kept Q O N s) : Kept Q O N (opCastOn c s).1 := by
  unfold opCastOn
  try dsimp only
  repeat' first
    | (with_reducible first
        | assumption | apply checked_inv | apply withBoot_inv | apply foldl_inv | apply foldl_inv_fst)
    | (show _ = _; rfl) | (refine time_keep (Q := Q) (O := O) (N := N) ?_ rfl rfl rfl rfl)
    | (simp only [kept_mk]; with_reducible refine keptAt ?_) | intro _ | dsimp only | split

theorem slotWrite_inv (n : Nat) (x : SlotImage) (s : State) (hg : Kept Q O N s) : Kept Q O N (slotWrite n x s) := by
  unfold slotWrite
  repeat' first
    | (with_reducible first
        | assumption | apply withBoot_inv)
    | split

theorem opFwStage_inv (c : Cmd) (s : State) (hg : Kept Q O N s) : Kept Q O N (opFwStage c s).1 := by
  unfold opFwStage
  try dsimp only
  repeat' first
    | (with_reducible first
        | assumption | apply checked_inv | apply slotWrite_inv | apply foldl_inv | apply foldl_inv_fst)
    | (show _ = _; rfl) | (refine time_keep (Q := Q) (O := O) (N := N) ?_ rfl rfl rfl rfl)
    | (simp only [kept_mk]; with_reducible refine keptAt ?_) | intro _ | dsimp only | split

theorem stageEnd_inv (flashOk : Bool) (s : State) (hg : Kept Q O N s) : Kept Q O N (stageEnd flashOk s) := by
  unfold stageEnd
  repeat' first
    | (with_reducible first
        | assumption | apply completeOutst_inv | apply slotWrite_inv | apply raise_inv | apply withBoot_inv)
    | split

theorem opFwIdent_inv (_c : Cmd) (s : State) (hg : Kept Q O N s) : Kept Q O N (opFwIdent _c s).1 := by
  unfold opFwIdent
  repeat' first
    | (with_reducible first
        | assumption)
    | split

theorem opDeviceStatus_inv (_c : Cmd) (s : State) (hg : Kept Q O N s) : Kept Q O N (opDeviceStatus _c s).1 := by
  unfold opDeviceStatus
  repeat' first
    | (with_reducible first
        | assumption)
    | split

theorem recovSend_inv (q : RecovReq) (status : Nat) (arg : Nat) (len : Nat) (s : State) (hg : Kept Q O N s) :
    Kept Q O N (recovSend q status arg len s) := by
  unfold recovSend
  repeat' first
    | (with_reducible first
        | assumption | apply send_inv)
    | split

theorem recovReply_inv (q : RecovReq) (status : Nat) (s : State) (hg : Kept Q O N s) : Kept Q O N (recovReply q status s) := by
  unfold recovReply
  repeat' first
    | (with_reducible first
        | assumption | apply recovSend_inv)
    | split

theorem withRecov_inv (s : State) (r : Recovery) (hg : Kept Q O N s) : Kept Q O N (withRecov s r) := by
  unfold withRecov
  repeat' first
    | (with_reducible first
        | assumption | apply withBoot_inv)
    | split

theorem inRecovery_inv (q : RecovReq) (work : State → State) (s : State) (hw : ∀ u, Kept Q O N u → Kept Q O N (work u))
 (hg : Kept Q O N s) : Kept Q O N (inRecovery q work s) := by
  unfold inRecovery
  repeat' first
    | (with_reducible first
        | assumption | apply recovReply_inv | apply hw)
    | split

theorem recovBegin_inv (q : RecovReq) (s : State) (hg : Kept Q O N s) : Kept Q O N (recovBegin q s) := by
  unfold recovBegin
  repeat' first
    | (with_reducible first
        | assumption | apply recovReply_inv | apply withRecov_inv)
    | split

theorem recovData_inv (q : RecovReq) (s : State) (hg : Kept Q O N s) : Kept Q O N (recovData q s) := by
  unfold recovData
  try dsimp only
  repeat' first
    | (with_reducible first
        | assumption | apply recovReply_inv | apply withRecov_inv | apply foldl_inv | apply foldl_inv_fst)
    | (show _ = _; rfl) | (refine time_keep (Q := Q) (O := O) (N := N) ?_ rfl rfl rfl rfl)
    | (simp only [kept_mk]; with_reducible refine keptAt ?_) | intro _ | dsimp only | split

theorem recovStatus_inv (q : RecovReq) (s : State) (hg : Kept Q O N s) : Kept Q O N (recovStatus q s) := by
  unfold recovStatus
  repeat' first
    | (with_reducible first
        | assumption | apply recovSend_inv)
    | split

theorem recovIdentity_inv (q : RecovReq) (s : State) (hg : Kept Q O N s) : Kept Q O N (recovIdentity q s) := by
  unfold recovIdentity
  repeat' first
    | (with_reducible first
        | assumption | apply recovReply_inv | apply withBoot_inv)
    | split

theorem recovInstall_inv (f : FwFile) (flashOk : Bool) (s : State) (hg : Kept Q O N s) :
    Kept Q O N (recovInstall f flashOk s).1 := by
  unfold recovInstall
  repeat' first
    | (with_reducible first
        | assumption | apply withRecov_inv | apply slotWrite_inv | apply withBoot_inv)
    | split

theorem recovEnd_inv (q : RecovReq) (f : FwFile) (flashOk : Bool) (s : State) (hg : Kept Q O N s) :
    Kept Q O N (recovEnd q f flashOk s) := by
  unfold recovEnd
  try dsimp only
  repeat' first
    | (with_reducible first
        | assumption | apply recovReply_inv | apply recovInstall_inv | apply foldl_inv | apply foldl_inv_fst)
    | (show _ = _; rfl) | (refine time_keep (Q := Q) (O := O) (N := N) ?_ rfl rfl rfl rfl)
    | (simp only [kept_mk]; with_reducible refine keptAt ?_) | intro _ | dsimp only | split

theorem recovFromCard_inv (f : Option FwFile) (flashOk : Bool) (s : State) (hg : Kept Q O N s) :
    Kept Q O N (recovFromCard f flashOk s).1 := by
  unfold recovFromCard
  repeat' first
    | (with_reducible first
        | assumption | apply recovInstall_inv)
    | split

theorem recovCard_inv (q : RecovReq) (f : Option FwFile) (flashOk : Bool) (s : State) (hg : Kept Q O N s) :
    Kept Q O N (recovCard q f flashOk s) := by
  unfold recovCard
  repeat' first
    | (with_reducible first
        | assumption | apply recovFromCard_inv | apply recovReply_inv)
    | split

theorem uartLoad_inv (line : List Byte) (f : Option FwFile) (flashOk : Bool) (s : State) (hg : Kept Q O N s) :
    Kept Q O N (uartLoad line f flashOk s) := by
  unfold uartLoad
  repeat' first
    | (with_reducible first
        | assumption | apply recovFromCard_inv)
    | split

theorem statusLine_inv (s : State) (hg : Kept Q O N s) : Kept Q O N (statusLine s) := by
  unfold statusLine
  try dsimp only
  repeat' first
    | (with_reducible first
        | assumption | apply send_inv | apply withBoot_inv | apply foldl_inv | apply foldl_inv_fst)
    | (show _ = _; rfl) | (refine time_keep (Q := Q) (O := O) (N := N) ?_ rfl rfl rfl rfl)
    | (simp only [kept_mk]; with_reducible refine keptAt ?_) | intro _ | dsimp only | split

theorem maintFrame_inv (f : MaintFrame) (s : State) (hg : Kept Q O N s) : Kept Q O N (maintFrame f s) := by
  unfold maintFrame
  repeat' first
    | (with_reducible first
        | assumption | apply send_inv)
    | split

theorem voltReport_inv (s : State) (hg : Kept Q O N s) : Kept Q O N (voltReport s) := by
  unfold voltReport
  repeat' first
    | (with_reducible first
        | assumption | apply raise_inv | apply withPwr_inv)
    | split

theorem regulator_inv (bad : Bool) (s : State) (hg : Kept Q O N s) : Kept Q O N (regulator bad s) := by
  unfold regulator
  try dsimp only
  repeat' first
    | (with_reducible first
        | assumption | apply safeHoldCause_inv | apply raise_inv | apply withPwr_inv | apply foldl_inv
        | apply foldl_inv_fst)
    | (show _ = _; rfl) | (refine time_keep (Q := Q) (O := O) (N := N) ?_ rfl rfl rfl rfl)
    | (simp only [kept_mk]; with_reducible refine keptAt ?_) | intro _ | dsimp only | split

theorem readVcore_inv (readVout : Nat) (ack : Bool) (s : State) (hg : Kept Q O N s) : Kept Q O N (readVcore readVout ack s) := by
  unfold readVcore
  dsimp only
  repeat' first
    | (with_reducible first
        | assumption | apply withPwr_inv | apply regulator_inv)
    | split

theorem setVcore_inv (mv : Nat) (readVout : Nat) (ack : Bool) (s : State) (hg : Kept Q O N s) :
    Kept Q O N (setVcore mv readVout ack s) := by
  unfold setVcore
  repeat' first
    | (with_reducible first
        | assumption | apply send_inv | apply withPwr_inv | apply readVcore_inv)
    | split

theorem gaugePeriod_inv (env : GaugeEnv) (s : State) (hg : Kept Q O N s) : Kept Q O N (gaugePeriod env s) := by
  unfold gaugePeriod
  try dsimp only
  repeat' first
    | (with_reducible first
        | assumption | apply voltReport_inv | apply withPwr_inv | apply setVcore_inv | apply readVcore_inv | apply foldl_inv
        | apply foldl_inv_fst)
    | (show _ = _; rfl) | (refine time_keep (Q := Q) (O := O) (N := N) ?_ rfl rfl rfl rfl)
    | (simp only [kept_mk]; with_reducible refine keptAt ?_) | intro _ | dsimp only | split

theorem headroomLost_inv (s : State) (hg : Kept Q O N s) : Kept Q O N (headroomLost s) := by
  unfold headroomLost
  repeat' first
    | (with_reducible first
        | assumption | apply raise_inv | apply withPwr_inv)
    | split

theorem manualVcore_inv (s : State) (hg : Kept Q O N s) : Kept Q O N (manualVcore s) := by
  unfold manualVcore
  repeat' first
    | (with_reducible first
        | assumption | apply send_inv | apply withPwr_inv)
    | split

theorem gaCtlWrite_inv (init : Nat) (v : W32) (s : State) (hg : Kept Q O N s) : Kept Q O N (gaCtlWrite init v s) := by
  unfold gaCtlWrite
  repeat' first
    | (with_reducible first
        | assumption | apply withPwr_inv | apply manualVcore_inv | apply paramRefused_inv)
    | split

theorem gaVsetWrite_inv (init : Nat) (v : W32) (s : State) (hg : Kept Q O N s) : Kept Q O N (gaVsetWrite init v s) := by
  unfold gaVsetWrite
  try dsimp only
  repeat' first
    | (with_reducible first
        | assumption | apply manualVcore_inv | apply withPwr_inv | apply paramRefused_inv | apply foldl_inv
        | apply foldl_inv_fst)
    | (show _ = _; rfl) | (refine time_keep (Q := Q) (O := O) (N := N) ?_ rfl rfl rfl rfl)
    | (simp only [kept_mk]; with_reducible refine keptAt ?_) | intro _ | dsimp only | split

theorem retrain_inv (low : Bool) (s : State) (hg : Kept Q O N s) : Kept Q O N (retrain low s) := by
  unfold retrain
  try dsimp only
  repeat' first
    | (with_reducible first
        | assumption | apply memState_inv | apply safeHoldCause_inv | apply withPwr_inv | apply foldl_inv
        | apply foldl_inv_fst)
    | (show _ = _; rfl) | (refine time_keep (Q := Q) (O := O) (N := N) ?_ rfl rfl rfl rfl)
    | (simp only [kept_mk]; with_reducible refine keptAt ?_) | intro _ | dsimp only | split

theorem regClear_inv (off : Nat) (lo : Nat) (s : State) (hg : Kept Q O N s) : Kept Q O N (regClear off lo s) := by
  unfold regClear
  try dsimp only
  repeat' first
    | (with_reducible first
        | assumption | apply pwcClear_inv | apply tbClear_inv | apply ringSet_inv | apply gtClear_inv
        | apply mcClear_inv | apply lnClear_inv | apply cvuClear_inv | apply pairClear_inv | apply tchClear_inv
        | apply soClear_inv | apply netUpd_inv | apply evClear_inv | apply foldl_inv | apply foldl_inv_fst)
    | (show _ = _; rfl) | (refine time_keep (Q := Q) (O := O) (N := N) ?_ rfl rfl rfl rfl)
    | (simp only [kept_mk]; with_reducible refine keptAt ?_) | intro _ | dsimp only | split

theorem latchHigh_inv (off : Nat) (init : Nat) (s : State) (hg : Kept Q O N s) : Kept Q O N (latchHigh off init s) := by
  unfold latchHigh
  try dsimp only
  repeat' first
    | (with_reducible first
        | assumption | apply foldl_inv | apply foldl_inv_fst)
    | (show _ = _; rfl) | (refine time_keep (Q := Q) (O := O) (N := N) ?_ rfl rfl rfl rfl)
    | (simp only [kept_mk]; with_reducible refine keptAt ?_) | intro _ | dsimp only | split

theorem readBy_inv (off : Nat) (init : Nat) (live : W32) (p : RegPath) (s : State) (hg : Kept Q O N s) :
    Kept Q O N (readBy off init live p s).2 := by
  unfold readBy
  try dsimp only
  repeat' first
    | (with_reducible first
        | assumption | apply regClear_inv | apply txqRead_inv | apply latchHigh_inv | apply foldl_inv
        | apply foldl_inv_fst)
    | (show _ = _; rfl) | (refine time_keep (Q := Q) (O := O) (N := N) ?_ rfl rfl rfl rfl)
    | (simp only [kept_mk]; with_reducible refine keptAt ?_) | intro _ | dsimp only | split

theorem readAny_inv (off : Nat) (a : RegR) (s : State) (hg : Kept Q O N s) : Kept Q O N (readAny off a s) := by
  unfold readAny
  repeat' first
    | (with_reducible first
        | assumption | apply send_inv | apply regRead_inv | apply readBy_inv)
    | split

theorem mcPlainWrite_inv (off : Nat) (init : Nat) (v : W32) (s : State) (hg : Kept Q O N s) :
    Kept Q O N (mcPlainWrite off init v s) := by
  unfold mcPlainWrite
  try dsimp only
  repeat' first
    | (with_reducible first
        | assumption | apply withMem_inv | apply paramRefused_inv | apply foldl_inv | apply foldl_inv_fst)
    | (show _ = _; rfl) | (refine time_keep (Q := Q) (O := O) (N := N) ?_ rfl rfl rfl rfl)
    | (simp only [kept_mk]; with_reducible refine keptAt ?_) | intro _ | dsimp only | split

theorem tbApplyWrite_inv (off : Nat) (init : Nat) (v : W32) (s : State) (hg : Kept Q O N s) :
    Kept Q O N (tbApplyWrite off init v s) := by
  unfold tbApplyWrite
  try dsimp only
  repeat' first
    | (with_reducible first
        | assumption | apply tbCtlWrite_inv | apply incCommit_inv | apply stepCommit_inv | apply t0Declare_inv
        | apply errEstWrite_inv | apply tbPlainWrite_inv | apply snapAll_inv | apply flCtlWrite_inv
        | apply flParamWrite_inv | apply foldl_inv | apply foldl_inv_fst)
    | (show _ = _; rfl) | (refine time_keep (Q := Q) (O := O) (N := N) ?_ rfl rfl rfl rfl)
    | (simp only [kept_mk]; with_reducible refine keptAt ?_) | intro _ | dsimp only | split

theorem hifApplyWrite_inv (off : Nat) (init : Nat) (v : W32) (s : State) (hg : Kept Q O N s) :
    Kept Q O N (hifApplyWrite off init v s) := by
  unfold hifApplyWrite
  repeat' first
    | (with_reducible first
        | assumption | apply msixWrite_inv | apply ringCtlWrite_inv | apply ringOtherWrite_inv)
    | split

theorem mcApplyWrite_inv (off : Nat) (init : Nat) (v : W32) (s : State) (hg : Kept Q O N s) :
    Kept Q O N (mcApplyWrite off init v s) := by
  unfold mcApplyWrite
  repeat' first
    | (with_reducible first
        | assumption | apply mcPlainWrite_inv | apply winCtlWrite_inv | apply winOtherWrite_inv
        | apply portRateWrite_inv | apply portBurstWrite_inv)
    | split

theorem cvuApplyWrite_inv (off : Nat) (init : Nat) (v : W32) (s : State) (hg : Kept Q O N s) :
    Kept Q O N (cvuApplyWrite off init v s) := by
  unfold cvuApplyWrite
  repeat' first
    | (with_reducible first
        | assumption | apply cvuCtlWrite_inv | apply cvuFeed_inv | apply cvuAlive_inv | apply cvuSet_inv)
    | split

theorem regApply_inv (off : Nat) (init : Nat) (v : W32) (s : State) (hg : Kept Q O N s) : Kept Q O N (regApply off init v s) := by
  unfold regApply
  try dsimp only
  repeat' first
    | (with_reducible first
        | assumption | apply pwcReqWrite_inv | apply pwcCfgWrite_inv | apply tbApplyWrite_inv
        | apply hifApplyWrite_inv | apply rselWrite_inv | apply mcApplyWrite_inv | apply cvuApplyWrite_inv
        | apply encConsWrite_inv | apply gaCtlWrite_inv | apply gaVsetWrite_inv | apply foldl_inv
        | apply foldl_inv_fst)
    | (show _ = _; rfl) | (refine time_keep (Q := Q) (O := O) (N := N) ?_ rfl rfl rfl rfl)
    | (simp only [kept_mk]; with_reducible refine keptAt ?_) | intro _ | dsimp only | split

theorem writeAny_inv (off : Nat) (a : RegW) (s : State) (hg : Kept Q O N s) : Kept Q O N (writeAny off a s) := by
  unfold writeAny
  repeat' first
    | (with_reducible first
        | assumption | apply regWrite_inv | apply regApply_inv)
    | split

theorem supplyHold_inv (op : Nat) (c : Cmd) (reqs : List (Nat × Nat)) (s : State) (hg : Kept Q O N s) :
    Kept Q O N (supplyHold op c reqs s) := by
  unfold supplyHold
  simp only [kept_mk]
  with_reducible refine keptAt ?_
  assumption

theorem supplied_inv (op : Nat) (f : Cmd → State → State × Reply) (c : Cmd) (s : State) (hw : ∀ y u, Kept Q O N u → Kept Q O N (f y u).1)
    (hg : Kept Q O N s) : Kept Q O N (supplied op f c s).1 := by
  unfold supplied
  try dsimp only
  repeat' first
    | (with_reducible first
        | assumption | apply hw | apply supplyHold_inv | apply foldl_inv | apply foldl_inv_fst | apply foldl_inv_snd
        | apply foldl_inv_snd2)
    | (show _ = _; rfl) | (refine time_keep (Q := Q) (O := O) (N := N) ?_ rfl rfl rfl rfl)
    | (simp only [kept_mk]; with_reducible refine keptAt ?_) | intro _ | dsimp only
    | (refine pair_inv (by with_reducible assumption) ?_) | (refine pair_inv2 (by with_reducible assumption) ?_)
    | (refine pair_inv3 (by with_reducible assumption) ?_) | (refine pair_inv5 (by with_reducible assumption) ?_)
    | split

theorem supplyWork_inv (op : Nat) (x1 : Cmd) (x2 : State) (hg : Kept Q O N x2) : Kept Q O N (supplyWork op x1 x2).1 := by
  unfold supplyWork
  try dsimp only
  repeat' first
    | (with_reducible first
        | assumption | apply opStreamOpen_inv | apply opStreamModify_inv | apply opLayoutCommit_inv
        | apply opOutputEnable_inv | apply opEncEnable_inv | apply opDomainSet_inv | apply foldl_inv
        | apply foldl_inv_fst | apply foldl_inv_snd | apply foldl_inv_snd2)
    | (show _ = _; rfl) | (refine time_keep (Q := Q) (O := O) (N := N) ?_ rfl rfl rfl rfl)
    | (simp only [kept_mk]; with_reducible refine keptAt ?_) | intro _ | dsimp only
    | (refine pair_inv (by with_reducible assumption) ?_) | (refine pair_inv2 (by with_reducible assumption) ?_)
    | (refine pair_inv3 (by with_reducible assumption) ?_) | (refine pair_inv5 (by with_reducible assumption) ?_)
    | split

theorem finishOutst_inv (o : Outst) (r : Reply) (s : State) (hg : Kept Q O N s) : Kept Q O N (finishOutst o r s) := by
  unfold finishOutst
  try dsimp only
  repeat' first
    | (with_reducible first
        | assumption | apply complete_inv | apply foldl_inv | apply foldl_inv_fst | apply foldl_inv_snd
        | apply foldl_inv_snd2)
    | (show _ = _; rfl) | (refine time_keep (Q := Q) (O := O) (N := N) ?_ rfl rfl rfl rfl)
    | (simp only [kept_mk]; with_reducible refine keptAt ?_) | intro _ | dsimp only
    | (refine pair_inv (by with_reducible assumption) ?_) | (refine pair_inv2 (by with_reducible assumption) ?_)
    | (refine pair_inv3 (by with_reducible assumption) ?_) | (refine pair_inv5 (by with_reducible assumption) ?_)
    | split

theorem supplyRelease_inv (s : State) (hg : Kept Q O N s) : Kept Q O N (supplyRelease s) := by
  unfold supplyRelease
  try dsimp only
  repeat' first
    | (with_reducible first
        | assumption | apply outstDrop_inv | apply finishOutst_inv | apply supplyWork_inv | apply foldl_inv
        | apply foldl_inv_fst | apply foldl_inv_snd | apply foldl_inv_snd2)
    | (show _ = _; rfl) | (refine time_keep (Q := Q) (O := O) (N := N) ?_ rfl rfl rfl rfl)
    | (simp only [kept_mk]; with_reducible refine keptAt ?_) | intro _ | dsimp only
    | (refine pair_inv (by with_reducible assumption) ?_) | (refine pair_inv2 (by with_reducible assumption) ?_)
    | (refine pair_inv3 (by with_reducible assumption) ?_) | (refine pair_inv5 (by with_reducible assumption) ?_)
    | split

theorem opWork_inv (op : Nat) (x1 : Cmd) (x2 : State) (hg : Kept Q O N x2) : Kept Q O N (opWork op x1 x2).1 := by
  unfold opWork
  try dsimp only
  repeat' first
    | (with_reducible first
        | assumption | apply opNop_inv | apply opDeviceStatus_inv | apply opEventMaskSet_inv
        | apply opPf1LimitsSet_inv | apply opModeSet_inv | apply opPowerState_inv | apply supplied_inv
        | apply opDomainSet_inv | apply opSelftest_inv | apply opLaneLoop_inv | apply opLaneRecal_inv
        | apply opAuxioClaim_inv | apply opAuxioRelease_inv | apply opNetPortSet_inv | apply opNetFilterSet_inv
        | apply opFlowSet_inv | apply opFlowClear_inv | apply opPktinClassSet_inv | apply opBbQuadSet_inv
        | apply opBbDpcdLoad_inv | apply opBbEnable_inv | apply opBbDisable_inv | apply opStreamOpen_inv
        | apply opStreamModify_inv | apply opStreamClose_inv | apply opStreamAnchor_inv | apply opWatchSet_inv
        | apply opCoreRetire_inv | apply opCoreReturn_inv | apply opStreamStatus_inv | apply opLedgerWrite_inv
        | apply opLedgerCommit_inv | apply opCanvasSet_inv | apply opLayerSet_inv | apply opBankParamSet_inv
        | apply opCoefLoad_inv | apply opXferLoad_inv | apply opStillLoad_inv | apply opLayoutCommit_inv
        | apply opLayoutCancel_inv | apply opOutputSet_inv | apply opOutputEnable_inv | apply opOutputDisable_inv
        | apply opOutputView_inv | apply opOutputFaultClear_inv | apply opOutputAux_inv | apply opNightPaceSet_inv
        | apply opSwatchSet_inv | apply opOutputStatus_inv | apply opEncSet_inv | apply opEncEnable_inv
        | apply opEncDisable_inv | apply opEncCoefLoad_inv | apply opEncKeyframe_inv | apply opPairSet_inv
        | apply opPairAccept_inv | apply opPairKnit_inv | apply opPairDrill_inv | apply opPairLeave_inv
        | apply opPairStatus_inv | apply opTouchPanelSet_inv | apply opTouchEnable_inv | apply opTouchDisable_inv
        | apply opTouchRefSave_inv | apply opTouchSelftest_inv | apply opTouchStatus_inv | apply opGateStage_inv
        | apply opGateCommit_inv | apply opFwStage_inv | apply opCastOn_inv | apply opFwIdent_inv | apply foldl_inv
        | apply foldl_inv_fst | apply foldl_inv_snd | apply foldl_inv_snd2)
    | (show _ = _; rfl) | (refine time_keep (Q := Q) (O := O) (N := N) ?_ rfl rfl rfl rfl)
    | (simp only [kept_mk]; with_reducible refine keptAt ?_) | intro _ | dsimp only
    | (refine pair_inv (by with_reducible assumption) ?_) | (refine pair_inv2 (by with_reducible assumption) ?_)
    | (refine pair_inv3 (by with_reducible assumption) ?_) | (refine pair_inv5 (by with_reducible assumption) ?_)
    | split

theorem takeWaiting_inv (s : State) (hg : Kept Q O N s) : Kept Q O N (takeWaiting s) := by
  unfold takeWaiting
  try dsimp only
  repeat' first
    | (with_reducible first
        | assumption | apply runCommand_inv | apply opWork_inv | apply foldl_inv | apply foldl_inv_fst)
    | (show _ = _; rfl) | (refine time_keep (Q := Q) (O := O) (N := N) ?_ rfl rfl rfl rfl)
    | (simp only [kept_mk]; with_reducible refine keptAt ?_) | intro _ | dsimp only | split

theorem commandTake_inv (d : Option Descriptor) (s : State) (hg : Kept Q O N s) : Kept Q O N (commandTake d s) := by
  unfold commandTake
  repeat' first
    | (with_reducible first
        | assumption | apply takeWaiting_inv | apply ringStop_inv | apply runCommand_inv | apply opWork_inv)
    | split

theorem maintArrive_inv (op : Nat) (c : Cmd) (s : State) (hg : Kept Q O N s) : Kept Q O N (maintArrive op c s) := by
  unfold maintArrive
  try dsimp only
  repeat' first
    | (with_reducible first
        | assumption | apply maintBusyReply_inv | apply takeWaiting_inv | apply foldl_inv | apply foldl_inv_fst)
    | (show _ = _; rfl) | (refine time_keep (Q := Q) (O := O) (N := N) ?_ rfl rfl rfl rfl)
    | (simp only [kept_mk]; with_reducible refine keptAt ?_) | intro _ | dsimp only | split

theorem maintUdp_inv (addr : W32) (port : W16) (payload : List Byte) (io : CmdIn) (s : State) (hg : Kept Q O N s) :
    Kept Q O N (maintUdp addr port payload io s) := by
  unfold maintUdp
  repeat' first
    | (with_reducible first
        | assumption | apply maintArrive_inv)
    | split

theorem maintUart_inv (line : List Byte) (io : CmdIn) (s : State) (hg : Kept Q O N s) : Kept Q O N (maintUart line io s) := by
  unfold maintUart
  repeat' first
    | (with_reducible first
        | assumption | apply maintArrive_inv | apply sendMaint_inv)
    | split

theorem absorbOne_inv (d : Int) (s : State) (o : Nat) (hg : Kept Q O N s) : Kept Q O N (absorbOne d s o) := by
  unfold absorbOne
  try dsimp only
  repeat' first
    | (with_reducible first
        | assumption | apply flSlip_inv | apply outSet_inv | apply foldl_inv | apply foldl_inv_fst
        | apply foldl_inv_snd | apply foldl_inv_snd2)
    | (show _ = _; rfl) | (refine time_keep (Q := Q) (O := O) (N := N) ?_ rfl rfl rfl rfl)
    | (simp only [kept_mk]; with_reducible refine keptAt ?_) | intro _ | dsimp only
    | (refine pair_inv (by with_reducible assumption) ?_) | (refine pair_inv2 (by with_reducible assumption) ?_)
    | (refine pair_inv3 (by with_reducible assumption) ?_) | (refine pair_inv5 (by with_reducible assumption) ?_)
    | split

theorem absorbStep_inv (d : Int) (s : State) (hg : Kept Q O N s) : Kept Q O N (absorbStep d s) := by
  unfold absorbStep
  try dsimp only
  repeat' first
    | (with_reducible first
        | assumption | apply absorbOne_inv | apply foldl_inv | apply foldl_inv_fst | apply foldl_inv_snd
        | apply foldl_inv_snd2)
    | (show _ = _; rfl) | (refine time_keep (Q := Q) (O := O) (N := N) ?_ rfl rfl rfl rfl)
    | (simp only [kept_mk]; with_reducible refine keptAt ?_) | intro _ | dsimp only
    | (refine pair_inv (by with_reducible assumption) ?_) | (refine pair_inv2 (by with_reducible assumption) ?_)
    | (refine pair_inv3 (by with_reducible assumption) ?_) | (refine pair_inv5 (by with_reducible assumption) ?_)
    | split

theorem timeTick_inv (s : State) (hg : Kept Q O N s) : Kept Q O N (timeTick s) := by
  unfold timeTick
  repeat' first
    | (with_reducible first
        | assumption | apply absorbStep_inv | apply tbTickAll_inv)
    | split

end Sys2Proof.Machine
end

