-- ==== Sys2Proof/Laws/Ops.lean ====
section
/-! SUPPORT. The shared operations: how a command is taken, judged and completed, and what raising an event, offering a descriptor or
completing a command may change. -/

namespace Sys2Proof.Machine

/-! ### Commands -/

/-- A command that the device takes and that nothing refuses beforehand does its own work, and is answered with its own reply. -/
theorem hostCommand_taken (op : Nat) (f : Cmd → State → State × Reply) (c : Cmd) (s : State) (h : Taken op c s) :
    hostCommand op f c s = answer op c s (f c (takeCmd c s)).2 (f c (takeCmd c s)).1 := by
  unfold hostCommand runCommand answer
  rw [if_pos h.1]
  simp only [h.2]

/-- A command that is refused beforehand is answered with that refusal and does nothing else. -/
theorem hostCommand_refused (op : Nat) (f : Cmd → State → State × Reply) (c : Cmd) (s : State) (r : Reply) (h : portReady c s = true)
    (hr : gatekeep op c (takeCmd c s) = some r) : hostCommand op f c s = answer op c s r (takeCmd c s) := by
  unfold hostCommand runCommand answer
  rw [if_pos h]
  simp only [hr]

/-- A command of a function's ring that the device cannot take now waits: nothing changes. -/
theorem hostCommand_waits (op : Nat) (f : Cmd → State → State × Reply) (c : Cmd) (s : State) (h : portReady c s = false)
    (hp : c.port ≠ .maint) : hostCommand op f c s = s := by
  unfold hostCommand
  have : (c.port == .maint) = false := by simpa using hp
  simp [h, this]

/-- Checks that all pass leave a command to its work. -/
theorem checked_pass {checks : List (Bool × Reply)} (work : State → State × Reply) (s : State) (h : firstOf checks = none) :
    checked checks work s = work s := by
  unfold checked
  rw [h]

/-- The first check that fails is the answer, and nothing else happens. -/
theorem checked_fail {checks : List (Bool × Reply)} (work : State → State × Reply) (s : State) {r : Reply} (h : firstOf checks = some r) :
    checked checks work s = (s, r) := by
  unfold checked
  rw [h]

@[simp] theorem firstOf_nil {α : Type} : firstOf ([] : List (Bool × α)) = none := rfl
@[simp] theorem firstOf_true {α : Type} (a : α) (cs : List (Bool × α)) : firstOf ((true, a) :: cs) = some a := rfl
@[simp] theorem firstOf_false {α : Type} (a : α) (cs : List (Bool × α)) : firstOf ((false, a) :: cs) = firstOf cs := rfl

/-- What a block is made of without its host interface. -/
theorem Agree.only_host {s t : State} (h : Agree {} s t) : ∃ o f x, t = { s with outbox := o, free := f, hif := x } := by
  obtain ⟨h0, h1, h2, h3, h4, h5, h6, h7, h8, h9, h10, h11, h12, h13⟩ := h
  refine ⟨t.outbox, t.free, t.hif, ?_⟩
  cases s
  cases t
  simp_all

/-- Taking a command changes the host interface and nothing else. -/
theorem takeCmd_other (c : Cmd) (s : State) : ∃ h, takeCmd c s = { s with hif := h } := by
  unfold takeCmd ringSet fnSet
  dsimp only
  split
  · exact ⟨_, rfl⟩
  · split <;> exact ⟨_, rfl⟩

/-- Raising an event changes the host interface and the record of what was sent, and nothing else. -/
theorem raise_other (code : Nat) (p : List W32) (s : State) : ∃ o f x, raise code p s = { s with outbox := o, free := f, hif := x } :=
  (raise_frame code p s (Agree.refl {} s)).only_host

/-- Completing a command changes the host interface and the record, and nothing else. -/
theorem completeOutst_other (o : Outst) (st : Nat) (d : W32) (res : List W32) (s : State) :
    ∃ b f x, completeOutst o st d res s = { s with outbox := b, free := f, hif := x } :=
  (completeOutst_frame o st d res s (Agree.refl {} s)).only_host

/-- Answering a command adds to what it left the host interface's part alone. -/
theorem answer_other (op : Nat) (c : Cmd) (s : State) (r : Reply) (u : State) :
    ∃ o f x, answer op c s r u = { u with outbox := o, free := f, hif := x } :=
  (finish_frame op c _ _ r u (Agree.refl {} u)).only_host

@[simp] theorem takeCmd_pending (c : Cmd) (s : State) : (takeCmd c s).pending = s.pending := by
  obtain ⟨_, h⟩ := takeCmd_other c s
  rw [h]
@[simp] theorem takeCmd_tb (c : Cmd) (s : State) : (takeCmd c s).tb = s.tb := by
  obtain ⟨_, h⟩ := takeCmd_other c s
  rw [h]
@[simp] theorem takeCmd_mem (c : Cmd) (s : State) : (takeCmd c s).mem = s.mem := by
  obtain ⟨_, h⟩ := takeCmd_other c s
  rw [h]
@[simp] theorem takeCmd_pwr (c : Cmd) (s : State) : (takeCmd c s).pwr = s.pwr := by
  obtain ⟨_, h⟩ := takeCmd_other c s
  rw [h]
@[simp] theorem takeCmd_boot (c : Cmd) (s : State) : (takeCmd c s).boot = s.boot := by
  obtain ⟨_, h⟩ := takeCmd_other c s
  rw [h]
@[simp] theorem takeCmd_lane (c : Cmd) (s : State) : (takeCmd c s).lane = s.lane := by
  obtain ⟨_, h⟩ := takeCmd_other c s
  rw [h]
@[simp] theorem takeCmd_pair (c : Cmd) (s : State) : (takeCmd c s).pair = s.pair := by
  obtain ⟨_, h⟩ := takeCmd_other c s
  rw [h]
@[simp] theorem takeCmd_scan (c : Cmd) (s : State) : (takeCmd c s).scan = s.scan := by
  obtain ⟨_, h⟩ := takeCmd_other c s
  rw [h]
@[simp] theorem takeCmd_net (c : Cmd) (s : State) : (takeCmd c s).net = s.net := by
  obtain ⟨_, h⟩ := takeCmd_other c s
  rw [h]
@[simp] theorem takeCmd_bb (c : Cmd) (s : State) : (takeCmd c s).bb = s.bb := by
  obtain ⟨_, h⟩ := takeCmd_other c s
  rw [h]
@[simp] theorem takeCmd_str (c : Cmd) (s : State) : (takeCmd c s).str = s.str := by
  obtain ⟨_, h⟩ := takeCmd_other c s
  rw [h]
@[simp] theorem takeCmd_comp (c : Cmd) (s : State) : (takeCmd c s).comp = s.comp := by
  obtain ⟨_, h⟩ := takeCmd_other c s
  rw [h]
@[simp] theorem takeCmd_enc (c : Cmd) (s : State) : (takeCmd c s).enc = s.enc := by
  obtain ⟨_, h⟩ := takeCmd_other c s
  rw [h]
@[simp] theorem takeCmd_touch (c : Cmd) (s : State) : (takeCmd c s).touch = s.touch := by
  obtain ⟨_, h⟩ := takeCmd_other c s
  rw [h]

@[simp] theorem raise_pending (code : Nat) (p : List W32) (s : State) : (raise code p s).pending = s.pending := by
  obtain ⟨_, _, _, h⟩ := raise_other code p s
  rw [h]
@[simp] theorem raise_tb (code : Nat) (p : List W32) (s : State) : (raise code p s).tb = s.tb := by
  obtain ⟨_, _, _, h⟩ := raise_other code p s
  rw [h]
@[simp] theorem raise_mem (code : Nat) (p : List W32) (s : State) : (raise code p s).mem = s.mem := by
  obtain ⟨_, _, _, h⟩ := raise_other code p s
  rw [h]
@[simp] theorem raise_pwr (code : Nat) (p : List W32) (s : State) : (raise code p s).pwr = s.pwr := by
  obtain ⟨_, _, _, h⟩ := raise_other code p s
  rw [h]
@[simp] theorem raise_boot (code : Nat) (p : List W32) (s : State) : (raise code p s).boot = s.boot := by
  obtain ⟨_, _, _, h⟩ := raise_other code p s
  rw [h]
@[simp] theorem raise_lane (code : Nat) (p : List W32) (s : State) : (raise code p s).lane = s.lane := by
  obtain ⟨_, _, _, h⟩ := raise_other code p s
  rw [h]
@[simp] theorem raise_pair (code : Nat) (p : List W32) (s : State) : (raise code p s).pair = s.pair := by
  obtain ⟨_, _, _, h⟩ := raise_other code p s
  rw [h]
@[simp] theorem raise_scan (code : Nat) (p : List W32) (s : State) : (raise code p s).scan = s.scan := by
  obtain ⟨_, _, _, h⟩ := raise_other code p s
  rw [h]
@[simp] theorem raise_net (code : Nat) (p : List W32) (s : State) : (raise code p s).net = s.net := by
  obtain ⟨_, _, _, h⟩ := raise_other code p s
  rw [h]
@[simp] theorem raise_bb (code : Nat) (p : List W32) (s : State) : (raise code p s).bb = s.bb := by
  obtain ⟨_, _, _, h⟩ := raise_other code p s
  rw [h]
@[simp] theorem raise_str (code : Nat) (p : List W32) (s : State) : (raise code p s).str = s.str := by
  obtain ⟨_, _, _, h⟩ := raise_other code p s
  rw [h]
@[simp] theorem raise_comp (code : Nat) (p : List W32) (s : State) : (raise code p s).comp = s.comp := by
  obtain ⟨_, _, _, h⟩ := raise_other code p s
  rw [h]
@[simp] theorem raise_enc (code : Nat) (p : List W32) (s : State) : (raise code p s).enc = s.enc := by
  obtain ⟨_, _, _, h⟩ := raise_other code p s
  rw [h]
@[simp] theorem raise_touch (code : Nat) (p : List W32) (s : State) : (raise code p s).touch = s.touch := by
  obtain ⟨_, _, _, h⟩ := raise_other code p s
  rw [h]

@[simp] theorem completeOutst_pending (e : Outst) (st : Nat) (d : W32) (res : List W32) (s : State) : (completeOutst e st d res s).pending = s.pending := by
  obtain ⟨_, _, _, h⟩ := completeOutst_other e st d res s
  rw [h]
@[simp] theorem completeOutst_tb (e : Outst) (st : Nat) (d : W32) (res : List W32) (s : State) : (completeOutst e st d res s).tb = s.tb := by
  obtain ⟨_, _, _, h⟩ := completeOutst_other e st d res s
  rw [h]
@[simp] theorem completeOutst_mem (e : Outst) (st : Nat) (d : W32) (res : List W32) (s : State) : (completeOutst e st d res s).mem = s.mem := by
  obtain ⟨_, _, _, h⟩ := completeOutst_other e st d res s
  rw [h]
@[simp] theorem completeOutst_pwr (e : Outst) (st : Nat) (d : W32) (res : List W32) (s : State) : (completeOutst e st d res s).pwr = s.pwr := by
  obtain ⟨_, _, _, h⟩ := completeOutst_other e st d res s
  rw [h]
@[simp] theorem completeOutst_boot (e : Outst) (st : Nat) (d : W32) (res : List W32) (s : State) : (completeOutst e st d res s).boot = s.boot := by
  obtain ⟨_, _, _, h⟩ := completeOutst_other e st d res s
  rw [h]
@[simp] theorem completeOutst_lane (e : Outst) (st : Nat) (d : W32) (res : List W32) (s : State) : (completeOutst e st d res s).lane = s.lane := by
  obtain ⟨_, _, _, h⟩ := completeOutst_other e st d res s
  rw [h]
@[simp] theorem completeOutst_pair (e : Outst) (st : Nat) (d : W32) (res : List W32) (s : State) : (completeOutst e st d res s).pair = s.pair := by
  obtain ⟨_, _, _, h⟩ := completeOutst_other e st d res s
  rw [h]
@[simp] theorem completeOutst_scan (e : Outst) (st : Nat) (d : W32) (res : List W32) (s : State) : (completeOutst e st d res s).scan = s.scan := by
  obtain ⟨_, _, _, h⟩ := completeOutst_other e st d res s
  rw [h]
@[simp] theorem completeOutst_net (e : Outst) (st : Nat) (d : W32) (res : List W32) (s : State) : (completeOutst e st d res s).net = s.net := by
  obtain ⟨_, _, _, h⟩ := completeOutst_other e st d res s
  rw [h]
@[simp] theorem completeOutst_bb (e : Outst) (st : Nat) (d : W32) (res : List W32) (s : State) : (completeOutst e st d res s).bb = s.bb := by
  obtain ⟨_, _, _, h⟩ := completeOutst_other e st d res s
  rw [h]
@[simp] theorem completeOutst_str (e : Outst) (st : Nat) (d : W32) (res : List W32) (s : State) : (completeOutst e st d res s).str = s.str := by
  obtain ⟨_, _, _, h⟩ := completeOutst_other e st d res s
  rw [h]
@[simp] theorem completeOutst_comp (e : Outst) (st : Nat) (d : W32) (res : List W32) (s : State) : (completeOutst e st d res s).comp = s.comp := by
  obtain ⟨_, _, _, h⟩ := completeOutst_other e st d res s
  rw [h]
@[simp] theorem completeOutst_enc (e : Outst) (st : Nat) (d : W32) (res : List W32) (s : State) : (completeOutst e st d res s).enc = s.enc := by
  obtain ⟨_, _, _, h⟩ := completeOutst_other e st d res s
  rw [h]
@[simp] theorem completeOutst_touch (e : Outst) (st : Nat) (d : W32) (res : List W32) (s : State) : (completeOutst e st d res s).touch = s.touch := by
  obtain ⟨_, _, _, h⟩ := completeOutst_other e st d res s
  rw [h]

@[simp] theorem answer_pending (op : Nat) (c : Cmd) (s : State) (r : Reply) (u : State) : (answer op c s r u).pending = u.pending := by
  obtain ⟨_, _, _, h⟩ := answer_other op c s r u
  rw [h]
@[simp] theorem answer_tb (op : Nat) (c : Cmd) (s : State) (r : Reply) (u : State) : (answer op c s r u).tb = u.tb := by
  obtain ⟨_, _, _, h⟩ := answer_other op c s r u
  rw [h]
@[simp] theorem answer_mem (op : Nat) (c : Cmd) (s : State) (r : Reply) (u : State) : (answer op c s r u).mem = u.mem := by
  obtain ⟨_, _, _, h⟩ := answer_other op c s r u
  rw [h]
@[simp] theorem answer_pwr (op : Nat) (c : Cmd) (s : State) (r : Reply) (u : State) : (answer op c s r u).pwr = u.pwr := by
  obtain ⟨_, _, _, h⟩ := answer_other op c s r u
  rw [h]
@[simp] theorem answer_boot (op : Nat) (c : Cmd) (s : State) (r : Reply) (u : State) : (answer op c s r u).boot = u.boot := by
  obtain ⟨_, _, _, h⟩ := answer_other op c s r u
  rw [h]
@[simp] theorem answer_lane (op : Nat) (c : Cmd) (s : State) (r : Reply) (u : State) : (answer op c s r u).lane = u.lane := by
  obtain ⟨_, _, _, h⟩ := answer_other op c s r u
  rw [h]
@[simp] theorem answer_pair (op : Nat) (c : Cmd) (s : State) (r : Reply) (u : State) : (answer op c s r u).pair = u.pair := by
  obtain ⟨_, _, _, h⟩ := answer_other op c s r u
  rw [h]
@[simp] theorem answer_scan (op : Nat) (c : Cmd) (s : State) (r : Reply) (u : State) : (answer op c s r u).scan = u.scan := by
  obtain ⟨_, _, _, h⟩ := answer_other op c s r u
  rw [h]
@[simp] theorem answer_net (op : Nat) (c : Cmd) (s : State) (r : Reply) (u : State) : (answer op c s r u).net = u.net := by
  obtain ⟨_, _, _, h⟩ := answer_other op c s r u
  rw [h]
@[simp] theorem answer_bb (op : Nat) (c : Cmd) (s : State) (r : Reply) (u : State) : (answer op c s r u).bb = u.bb := by
  obtain ⟨_, _, _, h⟩ := answer_other op c s r u
  rw [h]
@[simp] theorem answer_str (op : Nat) (c : Cmd) (s : State) (r : Reply) (u : State) : (answer op c s r u).str = u.str := by
  obtain ⟨_, _, _, h⟩ := answer_other op c s r u
  rw [h]
@[simp] theorem answer_comp (op : Nat) (c : Cmd) (s : State) (r : Reply) (u : State) : (answer op c s r u).comp = u.comp := by
  obtain ⟨_, _, _, h⟩ := answer_other op c s r u
  rw [h]
@[simp] theorem answer_enc (op : Nat) (c : Cmd) (s : State) (r : Reply) (u : State) : (answer op c s r u).enc = u.enc := by
  obtain ⟨_, _, _, h⟩ := answer_other op c s r u
  rw [h]
@[simp] theorem answer_touch (op : Nat) (c : Cmd) (s : State) (r : Reply) (u : State) : (answer op c s r u).touch = u.touch := by
  obtain ⟨_, _, _, h⟩ := answer_other op c s r u
  rw [h]

/-! ### Lookups -/

@[simp] theorem ecGet_takeCmd (c : Cmd) (s : State) (k : Nat) : ecGet (takeCmd c s) k = ecGet s k := by
  obtain ⟨_, h⟩ := takeCmd_other c s
  rw [h]
  rfl
@[simp] theorem ecGet_raise (code : Nat) (p : List W32) (s : State) (k : Nat) : ecGet (raise code p s) k = ecGet s k := by
  obtain ⟨_, _, _, h⟩ := raise_other code p s
  rw [h]
  rfl
@[simp] theorem ecGet_completeOutst (e : Outst) (st : Nat) (d : W32) (res : List W32) (s : State) (k : Nat) : ecGet (completeOutst e st d res s) k = ecGet s k := by
  obtain ⟨_, _, _, h⟩ := completeOutst_other e st d res s
  rw [h]
  rfl
@[simp] theorem ecGet_answer (op : Nat) (c : Cmd) (s : State) (r : Reply) (u : State) (k : Nat) : ecGet (answer op c s r u) k = ecGet u k := by
  obtain ⟨_, _, _, h⟩ := answer_other op c s r u
  rw [h]
  rfl
@[simp] theorem ecGet_send (e : Outgoing) (s : State) (k : Nat) : ecGet (send e s) k = ecGet s k := rfl

@[simp] theorem canGet_takeCmd (c : Cmd) (s : State) (k : Nat) : canGet (takeCmd c s) k = canGet s k := by
  obtain ⟨_, h⟩ := takeCmd_other c s
  rw [h]
  rfl
@[simp] theorem canGet_raise (code : Nat) (p : List W32) (s : State) (k : Nat) : canGet (raise code p s) k = canGet s k := by
  obtain ⟨_, _, _, h⟩ := raise_other code p s
  rw [h]
  rfl
@[simp] theorem canGet_completeOutst (e : Outst) (st : Nat) (d : W32) (res : List W32) (s : State) (k : Nat) : canGet (completeOutst e st d res s) k = canGet s k := by
  obtain ⟨_, _, _, h⟩ := completeOutst_other e st d res s
  rw [h]
  rfl
@[simp] theorem canGet_answer (op : Nat) (c : Cmd) (s : State) (r : Reply) (u : State) (k : Nat) : canGet (answer op c s r u) k = canGet u k := by
  obtain ⟨_, _, _, h⟩ := answer_other op c s r u
  rw [h]
  rfl
@[simp] theorem canGet_send (e : Outgoing) (s : State) (k : Nat) : canGet (send e s) k = canGet s k := rfl

@[simp] theorem strGet_takeCmd (c : Cmd) (s : State) (k : Nat) : strGet (takeCmd c s) k = strGet s k := by
  obtain ⟨_, h⟩ := takeCmd_other c s
  rw [h]
  rfl
@[simp] theorem strGet_raise (code : Nat) (p : List W32) (s : State) (k : Nat) : strGet (raise code p s) k = strGet s k := by
  obtain ⟨_, _, _, h⟩ := raise_other code p s
  rw [h]
  rfl
@[simp] theorem strGet_completeOutst (e : Outst) (st : Nat) (d : W32) (res : List W32) (s : State) (k : Nat) : strGet (completeOutst e st d res s) k = strGet s k := by
  obtain ⟨_, _, _, h⟩ := completeOutst_other e st d res s
  rw [h]
  rfl
@[simp] theorem strGet_answer (op : Nat) (c : Cmd) (s : State) (r : Reply) (u : State) (k : Nat) : strGet (answer op c s r u) k = strGet u k := by
  obtain ⟨_, _, _, h⟩ := answer_other op c s r u
  rw [h]
  rfl
@[simp] theorem strGet_send (e : Outgoing) (s : State) (k : Nat) : strGet (send e s) k = strGet s k := rfl

@[simp] theorem engGet_takeCmd (c : Cmd) (s : State) (k : Nat) : engGet (takeCmd c s) k = engGet s k := by
  obtain ⟨_, h⟩ := takeCmd_other c s
  rw [h]
  rfl
@[simp] theorem engGet_raise (code : Nat) (p : List W32) (s : State) (k : Nat) : engGet (raise code p s) k = engGet s k := by
  obtain ⟨_, _, _, h⟩ := raise_other code p s
  rw [h]
  rfl
@[simp] theorem engGet_completeOutst (e : Outst) (st : Nat) (d : W32) (res : List W32) (s : State) (k : Nat) : engGet (completeOutst e st d res s) k = engGet s k := by
  obtain ⟨_, _, _, h⟩ := completeOutst_other e st d res s
  rw [h]
  rfl
@[simp] theorem engGet_answer (op : Nat) (c : Cmd) (s : State) (r : Reply) (u : State) (k : Nat) : engGet (answer op c s r u) k = engGet u k := by
  obtain ⟨_, _, _, h⟩ := answer_other op c s r u
  rw [h]
  rfl
@[simp] theorem engGet_send (e : Outgoing) (s : State) (k : Nat) : engGet (send e s) k = engGet s k := rfl

@[simp] theorem outGet_takeCmd (c : Cmd) (s : State) (k : Nat) : outGet (takeCmd c s) k = outGet s k := by
  obtain ⟨_, h⟩ := takeCmd_other c s
  rw [h]
  rfl
@[simp] theorem outGet_raise (code : Nat) (p : List W32) (s : State) (k : Nat) : outGet (raise code p s) k = outGet s k := by
  obtain ⟨_, _, _, h⟩ := raise_other code p s
  rw [h]
  rfl
@[simp] theorem outGet_completeOutst (e : Outst) (st : Nat) (d : W32) (res : List W32) (s : State) (k : Nat) : outGet (completeOutst e st d res s) k = outGet s k := by
  obtain ⟨_, _, _, h⟩ := completeOutst_other e st d res s
  rw [h]
  rfl
@[simp] theorem outGet_answer (op : Nat) (c : Cmd) (s : State) (r : Reply) (u : State) (k : Nat) : outGet (answer op c s r u) k = outGet u k := by
  obtain ⟨_, _, _, h⟩ := answer_other op c s r u
  rw [h]
  rfl
@[simp] theorem outGet_send (e : Outgoing) (s : State) (k : Nat) : outGet (send e s) k = outGet s k := rfl

@[simp] theorem flGet_takeCmd (c : Cmd) (s : State) (k : Nat) : flGet (takeCmd c s) k = flGet s k := by
  obtain ⟨_, h⟩ := takeCmd_other c s
  rw [h]
  rfl
@[simp] theorem flGet_raise (code : Nat) (p : List W32) (s : State) (k : Nat) : flGet (raise code p s) k = flGet s k := by
  obtain ⟨_, _, _, h⟩ := raise_other code p s
  rw [h]
  rfl
@[simp] theorem flGet_completeOutst (e : Outst) (st : Nat) (d : W32) (res : List W32) (s : State) (k : Nat) : flGet (completeOutst e st d res s) k = flGet s k := by
  obtain ⟨_, _, _, h⟩ := completeOutst_other e st d res s
  rw [h]
  rfl
@[simp] theorem flGet_answer (op : Nat) (c : Cmd) (s : State) (r : Reply) (u : State) (k : Nat) : flGet (answer op c s r u) k = flGet u k := by
  obtain ⟨_, _, _, h⟩ := answer_other op c s r u
  rw [h]
  rfl
@[simp] theorem flGet_send (e : Outgoing) (s : State) (k : Nat) : flGet (send e s) k = flGet s k := rfl

@[simp] theorem txqGet_takeCmd (c : Cmd) (s : State) (k : Nat) : txqGet (takeCmd c s) k = txqGet s k := by
  obtain ⟨_, h⟩ := takeCmd_other c s
  rw [h]
  rfl
@[simp] theorem txqGet_raise (code : Nat) (p : List W32) (s : State) (k : Nat) : txqGet (raise code p s) k = txqGet s k := by
  obtain ⟨_, _, _, h⟩ := raise_other code p s
  rw [h]
  rfl
@[simp] theorem txqGet_completeOutst (e : Outst) (st : Nat) (d : W32) (res : List W32) (s : State) (k : Nat) : txqGet (completeOutst e st d res s) k = txqGet s k := by
  obtain ⟨_, _, _, h⟩ := completeOutst_other e st d res s
  rw [h]
  rfl
@[simp] theorem txqGet_answer (op : Nat) (c : Cmd) (s : State) (r : Reply) (u : State) (k : Nat) : txqGet (answer op c s r u) k = txqGet u k := by
  obtain ⟨_, _, _, h⟩ := answer_other op c s r u
  rw [h]
  rfl
@[simp] theorem txqGet_send (e : Outgoing) (s : State) (k : Nat) : txqGet (send e s) k = txqGet s k := rfl

@[simp] theorem tpGet_takeCmd (c : Cmd) (s : State) (k : Nat) : tpGet (takeCmd c s) k = tpGet s k := by
  obtain ⟨_, h⟩ := takeCmd_other c s
  rw [h]
  rfl
@[simp] theorem tpGet_raise (code : Nat) (p : List W32) (s : State) (k : Nat) : tpGet (raise code p s) k = tpGet s k := by
  obtain ⟨_, _, _, h⟩ := raise_other code p s
  rw [h]
  rfl
@[simp] theorem tpGet_completeOutst (e : Outst) (st : Nat) (d : W32) (res : List W32) (s : State) (k : Nat) : tpGet (completeOutst e st d res s) k = tpGet s k := by
  obtain ⟨_, _, _, h⟩ := completeOutst_other e st d res s
  rw [h]
  rfl
@[simp] theorem tpGet_answer (op : Nat) (c : Cmd) (s : State) (r : Reply) (u : State) (k : Nat) : tpGet (answer op c s r u) k = tpGet u k := by
  obtain ⟨_, _, _, h⟩ := answer_other op c s r u
  rw [h]
  rfl
@[simp] theorem tpGet_send (e : Outgoing) (s : State) (k : Nat) : tpGet (send e s) k = tpGet s k := rfl

@[simp] theorem teGet_takeCmd (c : Cmd) (s : State) (k : Nat) : teGet (takeCmd c s) k = teGet s k := by
  obtain ⟨_, h⟩ := takeCmd_other c s
  rw [h]
  rfl
@[simp] theorem teGet_raise (code : Nat) (p : List W32) (s : State) (k : Nat) : teGet (raise code p s) k = teGet s k := by
  obtain ⟨_, _, _, h⟩ := raise_other code p s
  rw [h]
  rfl
@[simp] theorem teGet_completeOutst (e : Outst) (st : Nat) (d : W32) (res : List W32) (s : State) (k : Nat) : teGet (completeOutst e st d res s) k = teGet s k := by
  obtain ⟨_, _, _, h⟩ := completeOutst_other e st d res s
  rw [h]
  rfl
@[simp] theorem teGet_answer (op : Nat) (c : Cmd) (s : State) (r : Reply) (u : State) (k : Nat) : teGet (answer op c s r u) k = teGet u k := by
  obtain ⟨_, _, _, h⟩ := answer_other op c s r u
  rw [h]
  rfl
@[simp] theorem teGet_send (e : Outgoing) (s : State) (k : Nat) : teGet (send e s) k = teGet s k := rfl

@[simp] theorem bbGet_takeCmd (c : Cmd) (s : State) (k : Nat) : bbGet (takeCmd c s) k = bbGet s k := by
  obtain ⟨_, h⟩ := takeCmd_other c s
  rw [h]
  rfl
@[simp] theorem bbGet_raise (code : Nat) (p : List W32) (s : State) (k : Nat) : bbGet (raise code p s) k = bbGet s k := by
  obtain ⟨_, _, _, h⟩ := raise_other code p s
  rw [h]
  rfl
@[simp] theorem bbGet_completeOutst (e : Outst) (st : Nat) (d : W32) (res : List W32) (s : State) (k : Nat) : bbGet (completeOutst e st d res s) k = bbGet s k := by
  obtain ⟨_, _, _, h⟩ := completeOutst_other e st d res s
  rw [h]
  rfl
@[simp] theorem bbGet_answer (op : Nat) (c : Cmd) (s : State) (r : Reply) (u : State) (k : Nat) : bbGet (answer op c s r u) k = bbGet u k := by
  obtain ⟨_, _, _, h⟩ := answer_other op c s r u
  rw [h]
  rfl
@[simp] theorem bbGet_send (e : Outgoing) (s : State) (k : Nat) : bbGet (send e s) k = bbGet s k := rfl

@[simp] theorem laneGet_takeCmd (c : Cmd) (s : State) (k : Nat) : laneGet (takeCmd c s) k = laneGet s k := by
  obtain ⟨_, h⟩ := takeCmd_other c s
  rw [h]
  rfl
@[simp] theorem laneGet_raise (code : Nat) (p : List W32) (s : State) (k : Nat) : laneGet (raise code p s) k = laneGet s k := by
  obtain ⟨_, _, _, h⟩ := raise_other code p s
  rw [h]
  rfl
@[simp] theorem laneGet_completeOutst (e : Outst) (st : Nat) (d : W32) (res : List W32) (s : State) (k : Nat) : laneGet (completeOutst e st d res s) k = laneGet s k := by
  obtain ⟨_, _, _, h⟩ := completeOutst_other e st d res s
  rw [h]
  rfl
@[simp] theorem laneGet_answer (op : Nat) (c : Cmd) (s : State) (r : Reply) (u : State) (k : Nat) : laneGet (answer op c s r u) k = laneGet u k := by
  obtain ⟨_, _, _, h⟩ := answer_other op c s r u
  rw [h]
  rfl
@[simp] theorem laneGet_send (e : Outgoing) (s : State) (k : Nat) : laneGet (send e s) k = laneGet s k := rfl

@[simp] theorem netGet_takeCmd (c : Cmd) (s : State) (k : Nat) : netGet (takeCmd c s) k = netGet s k := by
  obtain ⟨_, h⟩ := takeCmd_other c s
  rw [h]
  rfl
@[simp] theorem netGet_raise (code : Nat) (p : List W32) (s : State) (k : Nat) : netGet (raise code p s) k = netGet s k := by
  obtain ⟨_, _, _, h⟩ := raise_other code p s
  rw [h]
  rfl
@[simp] theorem netGet_completeOutst (e : Outst) (st : Nat) (d : W32) (res : List W32) (s : State) (k : Nat) : netGet (completeOutst e st d res s) k = netGet s k := by
  obtain ⟨_, _, _, h⟩ := completeOutst_other e st d res s
  rw [h]
  rfl
@[simp] theorem netGet_answer (op : Nat) (c : Cmd) (s : State) (r : Reply) (u : State) (k : Nat) : netGet (answer op c s r u) k = netGet u k := by
  obtain ⟨_, _, _, h⟩ := answer_other op c s r u
  rw [h]
  rfl
@[simp] theorem netGet_send (e : Outgoing) (s : State) (k : Nat) : netGet (send e s) k = netGet s k := rfl

@[simp] theorem classGet_takeCmd (c : Cmd) (s : State) (k : Nat) : classGet (takeCmd c s) k = classGet s k := by
  obtain ⟨_, h⟩ := takeCmd_other c s
  rw [h]
  rfl
@[simp] theorem classGet_raise (code : Nat) (p : List W32) (s : State) (k : Nat) : classGet (raise code p s) k = classGet s k := by
  obtain ⟨_, _, _, h⟩ := raise_other code p s
  rw [h]
  rfl
@[simp] theorem classGet_completeOutst (e : Outst) (st : Nat) (d : W32) (res : List W32) (s : State) (k : Nat) : classGet (completeOutst e st d res s) k = classGet s k := by
  obtain ⟨_, _, _, h⟩ := completeOutst_other e st d res s
  rw [h]
  rfl
@[simp] theorem classGet_answer (op : Nat) (c : Cmd) (s : State) (r : Reply) (u : State) (k : Nat) : classGet (answer op c s r u) k = classGet u k := by
  obtain ⟨_, _, _, h⟩ := answer_other op c s r u
  rw [h]
  rfl
@[simp] theorem classGet_send (e : Outgoing) (s : State) (k : Nat) : classGet (send e s) k = classGet s k := rfl

@[simp] theorem t0Ns_takeCmd (c : Cmd) (s : State) : t0Ns (takeCmd c s) = t0Ns s := by
  obtain ⟨_, h⟩ := takeCmd_other c s
  rw [h]
  rfl
@[simp] theorem t0Ns_raise (code : Nat) (p : List W32) (s : State) : t0Ns (raise code p s) = t0Ns s := by
  obtain ⟨_, _, _, h⟩ := raise_other code p s
  rw [h]
  rfl
@[simp] theorem t0Ns_completeOutst (e : Outst) (st : Nat) (d : W32) (res : List W32) (s : State) : t0Ns (completeOutst e st d res s) = t0Ns s := by
  obtain ⟨_, _, _, h⟩ := completeOutst_other e st d res s
  rw [h]
  rfl
@[simp] theorem t0Ns_answer (op : Nat) (c : Cmd) (s : State) (r : Reply) (u : State) : t0Ns (answer op c s r u) = t0Ns u := by
  obtain ⟨_, _, _, h⟩ := answer_other op c s r u
  rw [h]
  rfl
@[simp] theorem t0Ns_send (e : Outgoing) (s : State) : t0Ns (send e s) = t0Ns s := rfl

@[simp] theorem t2Ns_takeCmd (c : Cmd) (s : State) : t2Ns (takeCmd c s) = t2Ns s := by
  obtain ⟨_, h⟩ := takeCmd_other c s
  rw [h]
  rfl
@[simp] theorem t2Ns_raise (code : Nat) (p : List W32) (s : State) : t2Ns (raise code p s) = t2Ns s := by
  obtain ⟨_, _, _, h⟩ := raise_other code p s
  rw [h]
  rfl
@[simp] theorem t2Ns_completeOutst (e : Outst) (st : Nat) (d : W32) (res : List W32) (s : State) : t2Ns (completeOutst e st d res s) = t2Ns s := by
  obtain ⟨_, _, _, h⟩ := completeOutst_other e st d res s
  rw [h]
  rfl
@[simp] theorem t2Ns_answer (op : Nat) (c : Cmd) (s : State) (r : Reply) (u : State) : t2Ns (answer op c s r u) = t2Ns u := by
  obtain ⟨_, _, _, h⟩ := answer_other op c s r u
  rw [h]
  rfl
@[simp] theorem t2Ns_send (e : Outgoing) (s : State) : t2Ns (send e s) = t2Ns s := rfl

@[simp] theorem outRec_takeCmd (c : Cmd) (s : State) (k : Nat) : outRec (takeCmd c s) k = outRec s k := by
  obtain ⟨_, h⟩ := takeCmd_other c s
  rw [h]
  rfl
@[simp] theorem outRec_raise (code : Nat) (p : List W32) (s : State) (k : Nat) : outRec (raise code p s) k = outRec s k := by
  obtain ⟨_, _, _, h⟩ := raise_other code p s
  rw [h]
  rfl
@[simp] theorem outRec_completeOutst (e : Outst) (st : Nat) (d : W32) (res : List W32) (s : State) (k : Nat) : outRec (completeOutst e st d res s) k = outRec s k := by
  obtain ⟨_, _, _, h⟩ := completeOutst_other e st d res s
  rw [h]
  rfl
@[simp] theorem outRec_answer (op : Nat) (c : Cmd) (s : State) (r : Reply) (u : State) (k : Nat) : outRec (answer op c s r u) k = outRec u k := by
  obtain ⟨_, _, _, h⟩ := answer_other op c s r u
  rw [h]
  rfl
@[simp] theorem outRec_send (e : Outgoing) (s : State) (k : Nat) : outRec (send e s) k = outRec s k := rfl

end Sys2Proof.Machine
end

