-- ==== Sys2Proof/Laws/Modes.lean ====
section
/-! SUPPORT. What a change of mode leaves in the power unit and in the pair's unit. -/

namespace Sys2Proof.Machine

/-- A trial that is committed leaves the power unit as it was. -/
@[simp] theorem trialCommit_pwr (s : State) : (trialCommit s).pwr = s.pwr :=
  Or.resolve_left (trialCommit_frame s (Agree.refl { boot := true } s) rfl).pwr Bool.false_ne_true

@[simp] theorem trialCommit_pair (s : State) : (trialCommit s).pair = s.pair :=
  Or.resolve_left (trialCommit_frame s (Agree.refl { boot := true } s) rfl).pair Bool.false_ne_true

@[simp] theorem gangsLeave_pwr (s : State) : (gangsLeave s).pwr = s.pwr :=
  Or.resolve_left (gangsLeave_frame s (Agree.refl { touch := true } s) rfl).pwr Bool.false_ne_true

@[simp] theorem gangsLeave_pair (s : State) : (gangsLeave s).pair = s.pair :=
  Or.resolve_left (gangsLeave_frame s (Agree.refl { touch := true } s) rfl).pair Bool.false_ne_true

/-- A change of mode sets the mode, and takes VCORE back to firmware when it leaves Maintenance. -/
@[simp] theorem setMode_pwr (new : Mode) (cause sh port : Nat) (s : State) :
    (setMode new cause sh port s).pwr = { s.pwr with mode := new, auto := s.pwr.auto || s.pwr.mode == .maintenance } := by
  unfold setMode
  dsimp only
  split <;> split <;> simp

/-- A change of mode sets LEAD_OUT to whether the new mode is Lead. -/
@[simp] theorem setMode_pair (new : Mode) (cause sh port : Nat) (s : State) :
    (setMode new cause sh port s).pair = { s.pair with leadOut := new == .lead } := by
  unfold setMode
  dsimp only
  split <;> split <;> simp

/-- A change of mode changes the power, pair, boot and touch units at most. -/
theorem setMode_agree (new : Mode) (cause sh port : Nat) (s : State) :
    Agree { pwr := true, pair := true, boot := true, touch := true } s (setMode new cause sh port s) :=
  setMode_frame new cause sh port s (Agree.refl _ s) rfl rfl rfl rfl

/-- Deep lanes change the lane unit alone. -/
theorem lanesDeep_agree (p : Nat → Bool) (s : State) : Agree { lane := true } s (lanesDeep p s) :=
  lanesDeep_frame p s (Agree.refl _ s) rfl

/-- A domain that leaves service stays in its power unit but for that domain's bits. -/
@[simp] theorem domainDown_pwr (d : Nat) (s : State) : (domainDown d s).pwr = { s.pwr with
    domains := s.pwr.domains &&& ~~~(w32 (2 ^ d)), iso := s.pwr.iso ||| w32 (2 ^ d), rising := s.pwr.rising &&& ~~~(w32 (2 ^ d)) } := by
  unfold domainDown
  exact Or.resolve_left (lanesDeep_agree _ _).pwr Bool.false_ne_true

@[simp] theorem domainDown_pair (d : Nat) (s : State) : (domainDown d s).pair = s.pair := by
  unfold domainDown
  exact Or.resolve_left (lanesDeep_agree _ _).pair Bool.false_ne_true

/-- Domains that leave service one after another change neither the mode nor the cause, FAULT_N or the pair. -/
theorem domainsDown_keeps (ds : List Nat) (s : State) :
    (ds.foldl (fun st d => domainDown d st) s).pwr.mode = s.pwr.mode ∧ (ds.foldl (fun st d => domainDown d st) s).pwr.cause = s.pwr.cause ∧
      (ds.foldl (fun st d => domainDown d st) s).pwr.faultN = s.pwr.faultN ∧ (ds.foldl (fun st d => domainDown d st) s).pair = s.pair := by
  induction ds generalizing s with
  | nil => exact ⟨rfl, rfl, rfl, rfl⟩
  | cons d ds ih =>
    obtain ⟨h1, h2, h3, h4⟩ := ih (domainDown d s)
    refine ⟨h1.trans ?_, h2.trans ?_, h3.trans ?_, h4.trans ?_⟩ <;> simp

@[simp] theorem enterSafeHold_mode (cause port : Nat) (s : State) : (enterSafeHold cause port s).pwr.mode = .safeHold := by
  unfold enterSafeHold
  dsimp only
  rw [(domainsDown_keeps _ _).1]
  simp

@[simp] theorem enterSafeHold_cause (cause port : Nat) (s : State) : (enterSafeHold cause port s).pwr.cause = cause := by
  unfold enterSafeHold
  dsimp only
  rw [(domainsDown_keeps _ _).2.1]
  simp

@[simp] theorem enterSafeHold_faultN (cause port : Nat) (s : State) : (enterSafeHold cause port s).pwr.faultN = true := by
  unfold enterSafeHold
  dsimp only
  rw [(domainsDown_keeps _ _).2.2.1]
  simp

/-- The pair's unit in Safe hold: nothing of a handover, takeover, drill or knit-up is left, and LEAD_OUT is low. -/
@[simp] theorem enterSafeHold_pair (cause port : Nat) (s : State) :
    (enterSafeHold cause port s).pair = { (pairDrop s).pair with leadOut := false } := by
  unfold enterSafeHold
  dsimp only
  rw [(domainsDown_keeps _ _).2.2.2]
  simp

end Sys2Proof.Machine
end

