-- ==== Sys2Proof/WellFormed.lean ====
section
/-! DEFINITION. Well-formed commands: every index within the range that the manual gives the thing it names, every parameter record of its
length, a descriptor of sixteen words, an alias path that names one of 32 bits, a register offset that names a word. -/

namespace Sys2Proof

/-- What well-formedness asks of an instruction: the opcode of a host command (Table 13-11), the command, its record's length, its indices
each with its bound, the path and the offset of a register access. -/
structure Shape where
  opcode : Option Nat := none
  cmd : Option Cmd := none
  recLen : Option Nat := none
  idx : List (Nat × Nat) := []
  path : Option RegPath := none
  off : Option Nat := none
deriving DecidableEq, Repr

/-- The shape of each instruction. -/
def Instr.shape (i : Instr) : Shape :=
  match i with
  | .nop c => { opcode := some 0x0000, cmd := some c }
  | .deviceStatus c => { opcode := some 0x0001, cmd := some c }
  | .eventMaskSet c => { opcode := some 0x0002, cmd := some c }
  | .pf1LimitsSet c => { opcode := some 0x0003, cmd := some c }
  | .modeSet c => { opcode := some 0x0004, cmd := some c }
  | .powerState c => { opcode := some 0x0005, cmd := some c }
  | .domainSet c => { opcode := some 0x0006, cmd := some c }
  | .selftest c => { opcode := some 0x0007, cmd := some c }
  | .laneLoop c => { opcode := some 0x0008, cmd := some c }
  | .laneRecal c => { opcode := some 0x0009, cmd := some c }
  | .auxioClaim c => { opcode := some 0x000A, cmd := some c }
  | .auxioRelease c => { opcode := some 0x000B, cmd := some c }
  | .netPortSet c => { opcode := some 0x0200, cmd := some c }
  | .netFilterSet c => { opcode := some 0x0201, cmd := some c }
  | .flowSet c => { opcode := some 0x0202, cmd := some c, recLen := some 64 }
  | .flowClear c => { opcode := some 0x0203, cmd := some c }
  | .pktinClassSet c => { opcode := some 0x0204, cmd := some c }
  | .bbQuadSet c => { opcode := some 0x0205, cmd := some c }
  | .bbDpcdLoad c => { opcode := some 0x0206, cmd := some c }
  | .bbEnable c => { opcode := some 0x0207, cmd := some c }
  | .bbDisable c => { opcode := some 0x0208, cmd := some c }
  | .streamOpen c => { opcode := some 0x0300, cmd := some c, recLen := some 128 }
  | .streamModify c => { opcode := some 0x0301, cmd := some c, recLen := some 128 }
  | .streamClose c => { opcode := some 0x0302, cmd := some c }
  | .streamAnchor c => { opcode := some 0x0303, cmd := some c }
  | .watchSet c => { opcode := some 0x0304, cmd := some c }
  | .coreRetire c => { opcode := some 0x0305, cmd := some c }
  | .coreReturn c => { opcode := some 0x0306, cmd := some c }
  | .streamStatus c => { opcode := some 0x0307, cmd := some c }
  | .ledgerWrite c => { opcode := some 0x0400, cmd := some c }
  | .ledgerCommit c => { opcode := some 0x0401, cmd := some c }
  | .canvasSet c => { opcode := some 0x0402, cmd := some c }
  | .layerSet c => { opcode := some 0x0403, cmd := some c, recLen := some 64 }
  | .bankParamSet c => { opcode := some 0x0404, cmd := some c }
  | .coefLoad c => { opcode := some 0x0405, cmd := some c }
  | .xferLoad c => { opcode := some 0x0406, cmd := some c }
  | .stillLoad c => { opcode := some 0x0407, cmd := some c }
  | .layoutCommit c => { opcode := some 0x0408, cmd := some c }
  | .layoutCancel c => { opcode := some 0x0409, cmd := some c }
  | .outputSet c => { opcode := some 0x0500, cmd := some c, recLen := some 64 }
  | .outputEnable c => { opcode := some 0x0501, cmd := some c }
  | .outputDisable c => { opcode := some 0x0502, cmd := some c }
  | .outputView c => { opcode := some 0x0503, cmd := some c }
  | .outputFaultClear c => { opcode := some 0x0504, cmd := some c }
  | .outputAux c => { opcode := some 0x0505, cmd := some c }
  | .nightPaceSet c => { opcode := some 0x0506, cmd := some c }
  | .swatchSet c => { opcode := some 0x0507, cmd := some c }
  | .outputStatus c => { opcode := some 0x0508, cmd := some c }
  | .encSet c => { opcode := some 0x0600, cmd := some c, recLen := some 64 }
  | .encEnable c => { opcode := some 0x0601, cmd := some c }
  | .encDisable c => { opcode := some 0x0602, cmd := some c }
  | .encCoefLoad c => { opcode := some 0x0603, cmd := some c }
  | .encKeyframe c => { opcode := some 0x0604, cmd := some c }
  | .pairSet c => { opcode := some 0x0700, cmd := some c }
  | .pairAccept c => { opcode := some 0x0701, cmd := some c }
  | .pairKnit c => { opcode := some 0x0702, cmd := some c }
  | .pairDrill c => { opcode := some 0x0703, cmd := some c }
  | .pairLeave c => { opcode := some 0x0704, cmd := some c }
  | .pairStatus c => { opcode := some 0x0705, cmd := some c }
  | .touchPanelSet c => { opcode := some 0x0800, cmd := some c, recLen := some 64 }
  | .touchEnable c => { opcode := some 0x0801, cmd := some c }
  | .touchDisable c => { opcode := some 0x0802, cmd := some c }
  | .touchRefSave c => { opcode := some 0x0803, cmd := some c }
  | .touchSelftest c => { opcode := some 0x0804, cmd := some c }
  | .touchStatus c => { opcode := some 0x0805, cmd := some c }
  | .gateStage c => { opcode := some 0x0900, cmd := some c }
  | .gateCommit c => { opcode := some 0x0901, cmd := some c }
  | .fwStage c => { opcode := some 0x0A00, cmd := some c }
  | .castOn c => { opcode := some 0x0A01, cmd := some c }
  | .fwIdent c => { opcode := some 0x0A02, cmd := some c }
  | .unknownOpcode opcode c => { cmd := some c, idx := [(opcode, 65536)] }
  | .commandTake _ => {}
  | .doorbellWrite fn ring _ => { idx := [(fn, 2), (ring, 16)] }
  | .ringEnable fn ring a => { path := some a.path, idx := [(fn, 2), (ring, 16)] }
  | .ringDisable fn ring a => { path := some a.path, idx := [(fn, 2), (ring, 16)] }
  | .irqModerationTimeout fn ring => { idx := [(fn, 2), (ring, 16)] }
  | .packetOutTake fn ring _ => { idx := [(fn, 2), (ring, 16)] }
  | .frameTransmit port _ => { idx := [(port, 8)] }
  | .txqIdRead q a => { path := some a.path, idx := [(q, 9)] }
  | .functionLevelReset fn => { idx := [(fn, 2)] }
  | .d3hotEntry fn => { idx := [(fn, 2)] }
  | .hostLinkLoss => {}
  | .maintUdpCommand _ _ _ _ => {}
  | .maintUartLine _ _ => {}
  | .registerWrite off a => { off := some off, path := some a.path }
  | .notPermittedWindowClose _ => {}
  | .registerReadClear off a => { off := some off, path := some a.path }
  | .registerReadLoLatch off a => { off := some off, path := some a.path }
  | .tbSnap a => { path := some a.path }
  | .tbIncCommit n a => { path := some a.path, idx := [(n, 4)] }
  | .tbStepCommit n a => { path := some a.path, idx := [(n, 4)] }
  | .tbLoad n a => { path := some a.path, idx := [(n, 4)] }
  | .tbStepOvr n a => { path := some a.path, idx := [(n, 4)] }
  | .declareLock a => { path := some a.path }
  | .declareHold a => { path := some a.path }
  | .declareUnlock a => { path := some a.path }
  | .tb0ErrEstWrite a => { path := some a.path }
  | .flCtlWrite g a => { path := some a.path, idx := [(g, 8)] }
  | .flParamWrite g _ a => { path := some a.path, idx := [(g, 8)] }
  | .pwcReqGo a => { path := some a.path }
  | .gaCtlWrite a => { path := some a.path }
  | .gaVsetWrite a => { path := some a.path }
  | .mcWinEnable n a => { path := some a.path, idx := [(n, 8)] }
  | .mcPortRateWrite p a => { path := some a.path, idx := [(p, 24)] }
  | .cvuInit u a => { path := some a.path, idx := [(u, 4)] }
  | .cvuPolyWrite u a => { path := some a.path, idx := [(u, 4)] }
  | .cvuAliveEnable u a => { path := some a.path, idx := [(u, 4)] }
  | .cvuFeed u _ a => { path := some a.path, idx := [(u, 4)] }
  | .cvuAliveWrite u a => { path := some a.path, idx := [(u, 4)] }
  | .cvuAliveTimeout u => { idx := [(u, 4)] }
  | .vcEncConsWrite ch a => { path := some a.path, idx := [(ch, 8)] }
  | .timeBaseTick => {}
  | .overrideLapse n => { idx := [(n, 4)] }
  | .servoTimeout => {}
  | .holdoverLimitExceeded => {}
  | .ppsInEdge => {}
  | .pairOffsetMeasure _ => {}
  | .anchorExpiry stream => { idx := [(stream, 256)] }
  | .ethFrameReceive port _ => { idx := [(port, 8)] }
  | .netLinkChange port _ => { idx := [(port, 8)] }
  | .accessUnitHoldTimeout stream => { idx := [(stream, 256)] }
  | .receptionWindowTimeout stream => { idx := [(stream, 256)] }
  | .pathLossTimeout stream path => { idx := [(stream, 256), (path, 2)] }
  | .ingestStatsInterval port => { idx := [(port, 8)] }
  | .bbAuxTransaction input _ => { idx := [(input, 16)] }
  | .bbLinkTrained input _ _ => { idx := [(input, 16)] }
  | .bbLinkLoss loss => { idx := [(loss.input, 16)] }
  | .bbFrameArrival input _ => { idx := [(input, 16)] }
  | .decodeDispatch engine => { idx := [(engine, 24)] }
  | .blockRowBoundary engine => { idx := [(engine, 24)] }
  | .decodePictureDone engine _ => { idx := [(engine, 24)] }
  | .engineWatchdog trip => { idx := [(trip.engine, 24)] }
  | .decodeStall stream => { idx := [(stream, 256)] }
  | .overrateMeter => {}
  | .refreshWanted stream => { idx := [(stream, 256)] }
  | .coreSelftestDone engine _ => { idx := [(engine, 24)] }
  | .streamClosingRelease stream => { idx := [(stream, 256)] }
  | .ledgerGenerationCopy => {}
  | .canvasCut canvas _ => { idx := [(canvas, 64)] }
  | .composeDeadline canvas => { idx := [(canvas, 64)] }
  | .chaseRowDeadline canvas _ => { idx := [(canvas, 64)] }
  | .layerUnderrun canvas slot _ _ => { idx := [(canvas, 64), (slot, 64)] }
  | .frameDisplayStart gen => { idx := [(gen, 8)] }
  | .scanRowFetch output _ _ => { idx := [(output, 48)] }
  | .readbackCompare output _ _ => { idx := [(output, 48)] }
  | .readbackLockLoss output => { idx := [(output, 48)] }
  | .keepaliveSet output => { idx := [(output, 48)] }
  | .auditEntryWrite output => { idx := [(output, 48)] }
  | .vhpdHigh output => { idx := [(output, 48)] }
  | .vhpdIrqPulse output _ => { idx := [(output, 48)] }
  | .vhpdLow output => { idx := [(output, 48)] }
  | .linkTrainingRetry output => { idx := [(output, 48)] }
  | .sinkEchoPoll output _ => { idx := [(output, 48)] }
  | .encFrameStart ch _ => { idx := [(ch, 8)] }
  | .encInputDeadline ch _ => { idx := [(ch, 8)] }
  | .encRecordWrite ch _ => { idx := [(ch, 8)] }
  | .encUnrecorded ch => { idx := [(ch, 8)] }
  | .heartbeatSend => {}
  | .heartbeatReceive lane _ => { idx := [(lane, 4)] }
  | .heartbeatSilence => {}
  | .heartbeatTxWatchdog => {}
  | .leadInYield => {}
  | .pairPin => {}
  | .takeover => {}
  | .corlerFrameReceive lane _ => { idx := [(lane, 4)] }
  | .corlerLinkTraining _ => {}
  | .digestRecordReceive _ => {}
  | .digestRecordLate output => { idx := [(output, 48)] }
  | .pairConfig => {}
  | .handoverRequest => {}
  | .handoverSwitch => {}
  | .handoverTimeout => {}
  | .leaveMessageReceive => {}
  | .knitPhaseEnd _ => {}
  | .knitStreamCopy stream _ => { idx := [(stream, 256)] }
  | .knitTimeout => {}
  | .pairAcceptExpiry => {}
  | .drillSwap => {}
  | .drillReturn => {}
  | .drillResult _ => {}
  | .touchScanStart engine _ => { idx := [(engine, 4)] }
  | .touchScanComplete engine _ => { idx := [(engine, 4)] }
  | .touchBaselineDone panel => { idx := [(panel, 8)] }
  | .gangedScanEntry panel => { idx := [(panel, 8)] }
  | .touchSelftestDone panel _ => { idx := [(panel, 8)] }
  | .powerTransitionEnd _ => {}
  | .wakePin _ => {}
  | .hostAccessWake => {}
  | .domainReady domain => { idx := [(domain, 15)] }
  | .gaugeControlPeriod _ => {}
  | .headroomLost => {}
  | .vrAlert _ => {}
  | .thermalCrossing _ _ => {}
  | .junctionOverheat => {}
  | .thermalTrip _ => {}
  | .firmwareWatchdogMiss processor => { idx := [(processor, 11)] }
  | .bindOffEnd => {}
  | .bankRefresh pc => { idx := [(pc, 32)] }
  | .stackTempCrossing _ => {}
  | .retrainWindow _ => {}
  | .scrubRead _ _ => {}
  | .memoryRequest _ => {}
  | .gateCommitDone => {}
  | .fabricGrant _ => {}
  | .resetNRelease _ => {}
  | .resetNAssert => {}
  | .bootWatchdogExpiry _ => {}
  | .readyReached _ => {}
  | .recoveryBegin _ => {}
  | .recoveryData _ => {}
  | .recoveryEnd _ _ _ => {}
  | .recoveryStatus _ => {}
  | .recoveryCard _ _ _ => {}
  | .recoveryIdentity _ => {}
  | .recoveryUartLoad _ _ _ => {}
  | .recoveryStatusLine => {}
  | .auxioPulse timer => { idx := [(timer, 8)] }
  | .laneRecalEnd lane _ => { idx := [(lane, 84)] }
  | .laneLoopEnd _ => {}
  | .selftestEnd _ => {}
  | .fwStageEnd _ => {}
  | .loadCopyEnd _ => {}
  | .touchRefSaveEnd _ => {}
  | .outputLinkTrainingEnd output _ => { idx := [(output, 48)] }
  | .laneCalibrationEnd _ => {}
  | .corlerTrainingRetry => {}
  | .castOnRestart _ => {}
  | .maintFrameReceive _ => {}

/-- A path names a bit of a word. -/
def RegPath.wf (p : RegPath) : Bool := match p with | .bar1 b => b < 32 | _ => true

/-- A command stands on a command ring and carries the words W2 to W15 (Table 13-8). -/
def Cmd.wf (c : Cmd) : Bool := c.ring < 4 && c.w.length == 14

/-- A parameter record that was read has its length. -/
def Cmd.recordIs (c : Cmd) (n : Nat) : Bool := c.record.all fun b => b.length == n

/-- The instruction is well formed. -/
def Instr.wf (i : Instr) : Bool :=
  let h := i.shape
  h.idx.all (fun x => decide (x.1 < x.2)) && h.cmd.all Cmd.wf && h.path.all RegPath.wf &&
    h.off.all (fun o => o % 4 == 0 && o < 0x10000) &&
    h.cmd.all fun c => h.recLen.all c.recordIs

end Sys2Proof
end

