-- ==== Sys2Proof/Laws/PerInstr.lean ====
section
/-! SUPPORT. One lemma per command: a host command bears an opcode that Table 13-11 lists for some port (R540, R541). -/

namespace Sys2Proof.Laws.Shape

/-- The opcode that a host command bears is one that the device knows (Table 13-11). -/
def Statement (i : Instr) : Prop := ∀ op, i.shape.opcode = some op → (Machine.opPorts op).isSome = true

theorem listed {i : Instr} {n : Nat} (h : i.shape.opcode = some n) (p : (Machine.opPorts n).isSome = true) : Statement i := by
  intro op e; rw [h] at e; cases e; exact p

theorem event {i : Instr} (h : i.shape.opcode = none) : Statement i := by
  intro op e; rw [h] at e; cases e

theorem nop : ∀ x0, Statement (.nop x0) := fun _ => listed rfl rfl
theorem deviceStatus : ∀ x0, Statement (.deviceStatus x0) := fun _ => listed rfl rfl
theorem eventMaskSet : ∀ x0, Statement (.eventMaskSet x0) := fun _ => listed rfl rfl
theorem pf1LimitsSet : ∀ x0, Statement (.pf1LimitsSet x0) := fun _ => listed rfl rfl
theorem modeSet : ∀ x0, Statement (.modeSet x0) := fun _ => listed rfl rfl
theorem powerState : ∀ x0, Statement (.powerState x0) := fun _ => listed rfl rfl
theorem domainSet : ∀ x0, Statement (.domainSet x0) := fun _ => listed rfl rfl
theorem selftest : ∀ x0, Statement (.selftest x0) := fun _ => listed rfl rfl
theorem laneLoop : ∀ x0, Statement (.laneLoop x0) := fun _ => listed rfl rfl
theorem laneRecal : ∀ x0, Statement (.laneRecal x0) := fun _ => listed rfl rfl
theorem auxioClaim : ∀ x0, Statement (.auxioClaim x0) := fun _ => listed rfl rfl
theorem auxioRelease : ∀ x0, Statement (.auxioRelease x0) := fun _ => listed rfl rfl
theorem netPortSet : ∀ x0, Statement (.netPortSet x0) := fun _ => listed rfl rfl
theorem netFilterSet : ∀ x0, Statement (.netFilterSet x0) := fun _ => listed rfl rfl
theorem flowSet : ∀ x0, Statement (.flowSet x0) := fun _ => listed rfl rfl
theorem flowClear : ∀ x0, Statement (.flowClear x0) := fun _ => listed rfl rfl
theorem pktinClassSet : ∀ x0, Statement (.pktinClassSet x0) := fun _ => listed rfl rfl
theorem bbQuadSet : ∀ x0, Statement (.bbQuadSet x0) := fun _ => listed rfl rfl
theorem bbDpcdLoad : ∀ x0, Statement (.bbDpcdLoad x0) := fun _ => listed rfl rfl
theorem bbEnable : ∀ x0, Statement (.bbEnable x0) := fun _ => listed rfl rfl
theorem bbDisable : ∀ x0, Statement (.bbDisable x0) := fun _ => listed rfl rfl
theorem streamOpen : ∀ x0, Statement (.streamOpen x0) := fun _ => listed rfl rfl
theorem streamModify : ∀ x0, Statement (.streamModify x0) := fun _ => listed rfl rfl
theorem streamClose : ∀ x0, Statement (.streamClose x0) := fun _ => listed rfl rfl
theorem streamAnchor : ∀ x0, Statement (.streamAnchor x0) := fun _ => listed rfl rfl
theorem watchSet : ∀ x0, Statement (.watchSet x0) := fun _ => listed rfl rfl
theorem coreRetire : ∀ x0, Statement (.coreRetire x0) := fun _ => listed rfl rfl
theorem coreReturn : ∀ x0, Statement (.coreReturn x0) := fun _ => listed rfl rfl
theorem streamStatus : ∀ x0, Statement (.streamStatus x0) := fun _ => listed rfl rfl
theorem ledgerWrite : ∀ x0, Statement (.ledgerWrite x0) := fun _ => listed rfl rfl
theorem ledgerCommit : ∀ x0, Statement (.ledgerCommit x0) := fun _ => listed rfl rfl
theorem canvasSet : ∀ x0, Statement (.canvasSet x0) := fun _ => listed rfl rfl
theorem layerSet : ∀ x0, Statement (.layerSet x0) := fun _ => listed rfl rfl
theorem bankParamSet : ∀ x0, Statement (.bankParamSet x0) := fun _ => listed rfl rfl
theorem coefLoad : ∀ x0, Statement (.coefLoad x0) := fun _ => listed rfl rfl
theorem xferLoad : ∀ x0, Statement (.xferLoad x0) := fun _ => listed rfl rfl
theorem stillLoad : ∀ x0, Statement (.stillLoad x0) := fun _ => listed rfl rfl
theorem layoutCommit : ∀ x0, Statement (.layoutCommit x0) := fun _ => listed rfl rfl
theorem layoutCancel : ∀ x0, Statement (.layoutCancel x0) := fun _ => listed rfl rfl
theorem outputSet : ∀ x0, Statement (.outputSet x0) := fun _ => listed rfl rfl
theorem outputEnable : ∀ x0, Statement (.outputEnable x0) := fun _ => listed rfl rfl
theorem outputDisable : ∀ x0, Statement (.outputDisable x0) := fun _ => listed rfl rfl
theorem outputView : ∀ x0, Statement (.outputView x0) := fun _ => listed rfl rfl
theorem outputFaultClear : ∀ x0, Statement (.outputFaultClear x0) := fun _ => listed rfl rfl
theorem outputAux : ∀ x0, Statement (.outputAux x0) := fun _ => listed rfl rfl
theorem nightPaceSet : ∀ x0, Statement (.nightPaceSet x0) := fun _ => listed rfl rfl
theorem swatchSet : ∀ x0, Statement (.swatchSet x0) := fun _ => listed rfl rfl
theorem outputStatus : ∀ x0, Statement (.outputStatus x0) := fun _ => listed rfl rfl
theorem encSet : ∀ x0, Statement (.encSet x0) := fun _ => listed rfl rfl
theorem encEnable : ∀ x0, Statement (.encEnable x0) := fun _ => listed rfl rfl
theorem encDisable : ∀ x0, Statement (.encDisable x0) := fun _ => listed rfl rfl
theorem encCoefLoad : ∀ x0, Statement (.encCoefLoad x0) := fun _ => listed rfl rfl
theorem encKeyframe : ∀ x0, Statement (.encKeyframe x0) := fun _ => listed rfl rfl
theorem pairSet : ∀ x0, Statement (.pairSet x0) := fun _ => listed rfl rfl
theorem pairAccept : ∀ x0, Statement (.pairAccept x0) := fun _ => listed rfl rfl
theorem pairKnit : ∀ x0, Statement (.pairKnit x0) := fun _ => listed rfl rfl
theorem pairDrill : ∀ x0, Statement (.pairDrill x0) := fun _ => listed rfl rfl
theorem pairLeave : ∀ x0, Statement (.pairLeave x0) := fun _ => listed rfl rfl
theorem pairStatus : ∀ x0, Statement (.pairStatus x0) := fun _ => listed rfl rfl
theorem touchPanelSet : ∀ x0, Statement (.touchPanelSet x0) := fun _ => listed rfl rfl
theorem touchEnable : ∀ x0, Statement (.touchEnable x0) := fun _ => listed rfl rfl
theorem touchDisable : ∀ x0, Statement (.touchDisable x0) := fun _ => listed rfl rfl
theorem touchRefSave : ∀ x0, Statement (.touchRefSave x0) := fun _ => listed rfl rfl
theorem touchSelftest : ∀ x0, Statement (.touchSelftest x0) := fun _ => listed rfl rfl
theorem touchStatus : ∀ x0, Statement (.touchStatus x0) := fun _ => listed rfl rfl
theorem gateStage : ∀ x0, Statement (.gateStage x0) := fun _ => listed rfl rfl
theorem gateCommit : ∀ x0, Statement (.gateCommit x0) := fun _ => listed rfl rfl
theorem fwStage : ∀ x0, Statement (.fwStage x0) := fun _ => listed rfl rfl
theorem castOn : ∀ x0, Statement (.castOn x0) := fun _ => listed rfl rfl
theorem fwIdent : ∀ x0, Statement (.fwIdent x0) := fun _ => listed rfl rfl
theorem unknownOpcode : ∀ x0 x1, Statement (.unknownOpcode x0 x1) := fun _ _ => event rfl
theorem commandTake : ∀ x0, Statement (.commandTake x0) := fun _ => event rfl
theorem doorbellWrite : ∀ x0 x1 x2, Statement (.doorbellWrite x0 x1 x2) := fun _ _ _ => event rfl
theorem ringEnable : ∀ x0 x1 x2, Statement (.ringEnable x0 x1 x2) := fun _ _ _ => event rfl
theorem ringDisable : ∀ x0 x1 x2, Statement (.ringDisable x0 x1 x2) := fun _ _ _ => event rfl
theorem irqModerationTimeout : ∀ x0 x1, Statement (.irqModerationTimeout x0 x1) := fun _ _ => event rfl
theorem packetOutTake : ∀ x0 x1 x2, Statement (.packetOutTake x0 x1 x2) := fun _ _ _ => event rfl
theorem frameTransmit : ∀ x0 x1, Statement (.frameTransmit x0 x1) := fun _ _ => event rfl
theorem txqIdRead : ∀ x0 x1, Statement (.txqIdRead x0 x1) := fun _ _ => event rfl
theorem functionLevelReset : ∀ x0, Statement (.functionLevelReset x0) := fun _ => event rfl
theorem d3hotEntry : ∀ x0, Statement (.d3hotEntry x0) := fun _ => event rfl
theorem hostLinkLoss : Statement .hostLinkLoss := event rfl
theorem maintUdpCommand : ∀ x0 x1 x2 x3, Statement (.maintUdpCommand x0 x1 x2 x3) := fun _ _ _ _ => event rfl
theorem maintUartLine : ∀ x0 x1, Statement (.maintUartLine x0 x1) := fun _ _ => event rfl
theorem registerWrite : ∀ x0 x1, Statement (.registerWrite x0 x1) := fun _ _ => event rfl
theorem notPermittedWindowClose : ∀ x0, Statement (.notPermittedWindowClose x0) := fun _ => event rfl
theorem registerReadClear : ∀ x0 x1, Statement (.registerReadClear x0 x1) := fun _ _ => event rfl
theorem registerReadLoLatch : ∀ x0 x1, Statement (.registerReadLoLatch x0 x1) := fun _ _ => event rfl
theorem tbSnap : ∀ x0, Statement (.tbSnap x0) := fun _ => event rfl
theorem tbIncCommit : ∀ x0 x1, Statement (.tbIncCommit x0 x1) := fun _ _ => event rfl
theorem tbStepCommit : ∀ x0 x1, Statement (.tbStepCommit x0 x1) := fun _ _ => event rfl
theorem tbLoad : ∀ x0 x1, Statement (.tbLoad x0 x1) := fun _ _ => event rfl
theorem tbStepOvr : ∀ x0 x1, Statement (.tbStepOvr x0 x1) := fun _ _ => event rfl
theorem declareLock : ∀ x0, Statement (.declareLock x0) := fun _ => event rfl
theorem declareHold : ∀ x0, Statement (.declareHold x0) := fun _ => event rfl
theorem declareUnlock : ∀ x0, Statement (.declareUnlock x0) := fun _ => event rfl
theorem tb0ErrEstWrite : ∀ x0, Statement (.tb0ErrEstWrite x0) := fun _ => event rfl
theorem flCtlWrite : ∀ x0 x1, Statement (.flCtlWrite x0 x1) := fun _ _ => event rfl
theorem flParamWrite : ∀ x0 x1 x2, Statement (.flParamWrite x0 x1 x2) := fun _ _ _ => event rfl
theorem pwcReqGo : ∀ x0, Statement (.pwcReqGo x0) := fun _ => event rfl
theorem gaCtlWrite : ∀ x0, Statement (.gaCtlWrite x0) := fun _ => event rfl
theorem gaVsetWrite : ∀ x0, Statement (.gaVsetWrite x0) := fun _ => event rfl
theorem mcWinEnable : ∀ x0 x1, Statement (.mcWinEnable x0 x1) := fun _ _ => event rfl
theorem mcPortRateWrite : ∀ x0 x1, Statement (.mcPortRateWrite x0 x1) := fun _ _ => event rfl
theorem cvuInit : ∀ x0 x1, Statement (.cvuInit x0 x1) := fun _ _ => event rfl
theorem cvuPolyWrite : ∀ x0 x1, Statement (.cvuPolyWrite x0 x1) := fun _ _ => event rfl
theorem cvuAliveEnable : ∀ x0 x1, Statement (.cvuAliveEnable x0 x1) := fun _ _ => event rfl
theorem cvuFeed : ∀ x0 x1 x2, Statement (.cvuFeed x0 x1 x2) := fun _ _ _ => event rfl
theorem cvuAliveWrite : ∀ x0 x1, Statement (.cvuAliveWrite x0 x1) := fun _ _ => event rfl
theorem cvuAliveTimeout : ∀ x0, Statement (.cvuAliveTimeout x0) := fun _ => event rfl
theorem vcEncConsWrite : ∀ x0 x1, Statement (.vcEncConsWrite x0 x1) := fun _ _ => event rfl
theorem timeBaseTick : Statement .timeBaseTick := event rfl
theorem overrideLapse : ∀ x0, Statement (.overrideLapse x0) := fun _ => event rfl
theorem servoTimeout : Statement .servoTimeout := event rfl
theorem holdoverLimitExceeded : Statement .holdoverLimitExceeded := event rfl
theorem ppsInEdge : Statement .ppsInEdge := event rfl
theorem pairOffsetMeasure : ∀ x0, Statement (.pairOffsetMeasure x0) := fun _ => event rfl
theorem anchorExpiry : ∀ x0, Statement (.anchorExpiry x0) := fun _ => event rfl
theorem ethFrameReceive : ∀ x0 x1, Statement (.ethFrameReceive x0 x1) := fun _ _ => event rfl
theorem netLinkChange : ∀ x0 x1, Statement (.netLinkChange x0 x1) := fun _ _ => event rfl
theorem accessUnitHoldTimeout : ∀ x0, Statement (.accessUnitHoldTimeout x0) := fun _ => event rfl
theorem receptionWindowTimeout : ∀ x0, Statement (.receptionWindowTimeout x0) := fun _ => event rfl
theorem pathLossTimeout : ∀ x0 x1, Statement (.pathLossTimeout x0 x1) := fun _ _ => event rfl
theorem ingestStatsInterval : ∀ x0, Statement (.ingestStatsInterval x0) := fun _ => event rfl
theorem bbAuxTransaction : ∀ x0 x1, Statement (.bbAuxTransaction x0 x1) := fun _ _ => event rfl
theorem bbLinkTrained : ∀ x0 x1 x2, Statement (.bbLinkTrained x0 x1 x2) := fun _ _ _ => event rfl
theorem bbLinkLoss : ∀ x0, Statement (.bbLinkLoss x0) := fun _ => event rfl
theorem bbFrameArrival : ∀ x0 x1, Statement (.bbFrameArrival x0 x1) := fun _ _ => event rfl
theorem decodeDispatch : ∀ x0, Statement (.decodeDispatch x0) := fun _ => event rfl
theorem blockRowBoundary : ∀ x0, Statement (.blockRowBoundary x0) := fun _ => event rfl
theorem decodePictureDone : ∀ x0 x1, Statement (.decodePictureDone x0 x1) := fun _ _ => event rfl
theorem engineWatchdog : ∀ x0, Statement (.engineWatchdog x0) := fun _ => event rfl
theorem decodeStall : ∀ x0, Statement (.decodeStall x0) := fun _ => event rfl
theorem overrateMeter : Statement .overrateMeter := event rfl
theorem refreshWanted : ∀ x0, Statement (.refreshWanted x0) := fun _ => event rfl
theorem coreSelftestDone : ∀ x0 x1, Statement (.coreSelftestDone x0 x1) := fun _ _ => event rfl
theorem streamClosingRelease : ∀ x0, Statement (.streamClosingRelease x0) := fun _ => event rfl
theorem ledgerGenerationCopy : Statement .ledgerGenerationCopy := event rfl
theorem canvasCut : ∀ x0 x1, Statement (.canvasCut x0 x1) := fun _ _ => event rfl
theorem composeDeadline : ∀ x0, Statement (.composeDeadline x0) := fun _ => event rfl
theorem chaseRowDeadline : ∀ x0 x1, Statement (.chaseRowDeadline x0 x1) := fun _ _ => event rfl
theorem layerUnderrun : ∀ x0 x1 x2 x3, Statement (.layerUnderrun x0 x1 x2 x3) := fun _ _ _ _ => event rfl
theorem frameDisplayStart : ∀ x0, Statement (.frameDisplayStart x0) := fun _ => event rfl
theorem scanRowFetch : ∀ x0 x1 x2, Statement (.scanRowFetch x0 x1 x2) := fun _ _ _ => event rfl
theorem readbackCompare : ∀ x0 x1 x2, Statement (.readbackCompare x0 x1 x2) := fun _ _ _ => event rfl
theorem readbackLockLoss : ∀ x0, Statement (.readbackLockLoss x0) := fun _ => event rfl
theorem keepaliveSet : ∀ x0, Statement (.keepaliveSet x0) := fun _ => event rfl
theorem auditEntryWrite : ∀ x0, Statement (.auditEntryWrite x0) := fun _ => event rfl
theorem vhpdHigh : ∀ x0, Statement (.vhpdHigh x0) := fun _ => event rfl
theorem vhpdIrqPulse : ∀ x0 x1, Statement (.vhpdIrqPulse x0 x1) := fun _ _ => event rfl
theorem vhpdLow : ∀ x0, Statement (.vhpdLow x0) := fun _ => event rfl
theorem linkTrainingRetry : ∀ x0, Statement (.linkTrainingRetry x0) := fun _ => event rfl
theorem sinkEchoPoll : ∀ x0 x1, Statement (.sinkEchoPoll x0 x1) := fun _ _ => event rfl
theorem encFrameStart : ∀ x0 x1, Statement (.encFrameStart x0 x1) := fun _ _ => event rfl
theorem encInputDeadline : ∀ x0 x1, Statement (.encInputDeadline x0 x1) := fun _ _ => event rfl
theorem encRecordWrite : ∀ x0 x1, Statement (.encRecordWrite x0 x1) := fun _ _ => event rfl
theorem encUnrecorded : ∀ x0, Statement (.encUnrecorded x0) := fun _ => event rfl
theorem heartbeatSend : Statement .heartbeatSend := event rfl
theorem heartbeatReceive : ∀ x0 x1, Statement (.heartbeatReceive x0 x1) := fun _ _ => event rfl
theorem heartbeatSilence : Statement .heartbeatSilence := event rfl
theorem heartbeatTxWatchdog : Statement .heartbeatTxWatchdog := event rfl
theorem leadInYield : Statement .leadInYield := event rfl
theorem pairPin : Statement .pairPin := event rfl
theorem takeover : Statement .takeover := event rfl
theorem corlerFrameReceive : ∀ x0 x1, Statement (.corlerFrameReceive x0 x1) := fun _ _ => event rfl
theorem corlerLinkTraining : ∀ x0, Statement (.corlerLinkTraining x0) := fun _ => event rfl
theorem digestRecordReceive : ∀ x0, Statement (.digestRecordReceive x0) := fun _ => event rfl
theorem digestRecordLate : ∀ x0, Statement (.digestRecordLate x0) := fun _ => event rfl
theorem pairConfig : Statement .pairConfig := event rfl
theorem handoverRequest : Statement .handoverRequest := event rfl
theorem handoverSwitch : Statement .handoverSwitch := event rfl
theorem handoverTimeout : Statement .handoverTimeout := event rfl
theorem leaveMessageReceive : Statement .leaveMessageReceive := event rfl
theorem knitPhaseEnd : ∀ x0, Statement (.knitPhaseEnd x0) := fun _ => event rfl
theorem knitStreamCopy : ∀ x0 x1, Statement (.knitStreamCopy x0 x1) := fun _ _ => event rfl
theorem knitTimeout : Statement .knitTimeout := event rfl
theorem pairAcceptExpiry : Statement .pairAcceptExpiry := event rfl
theorem drillSwap : Statement .drillSwap := event rfl
theorem drillReturn : Statement .drillReturn := event rfl
theorem drillResult : ∀ x0, Statement (.drillResult x0) := fun _ => event rfl
theorem touchScanStart : ∀ x0 x1, Statement (.touchScanStart x0 x1) := fun _ _ => event rfl
theorem touchScanComplete : ∀ x0 x1, Statement (.touchScanComplete x0 x1) := fun _ _ => event rfl
theorem touchBaselineDone : ∀ x0, Statement (.touchBaselineDone x0) := fun _ => event rfl
theorem gangedScanEntry : ∀ x0, Statement (.gangedScanEntry x0) := fun _ => event rfl
theorem touchSelftestDone : ∀ x0 x1, Statement (.touchSelftestDone x0 x1) := fun _ _ => event rfl
theorem powerTransitionEnd : ∀ x0, Statement (.powerTransitionEnd x0) := fun _ => event rfl
theorem wakePin : ∀ x0, Statement (.wakePin x0) := fun _ => event rfl
theorem hostAccessWake : Statement .hostAccessWake := event rfl
theorem domainReady : ∀ x0, Statement (.domainReady x0) := fun _ => event rfl
theorem gaugeControlPeriod : ∀ x0, Statement (.gaugeControlPeriod x0) := fun _ => event rfl
theorem headroomLost : Statement .headroomLost := event rfl
theorem vrAlert : ∀ x0, Statement (.vrAlert x0) := fun _ => event rfl
theorem thermalCrossing : ∀ x0 x1, Statement (.thermalCrossing x0 x1) := fun _ _ => event rfl
theorem junctionOverheat : Statement .junctionOverheat := event rfl
theorem thermalTrip : ∀ x0, Statement (.thermalTrip x0) := fun _ => event rfl
theorem firmwareWatchdogMiss : ∀ x0, Statement (.firmwareWatchdogMiss x0) := fun _ => event rfl
theorem bindOffEnd : Statement .bindOffEnd := event rfl
theorem bankRefresh : ∀ x0, Statement (.bankRefresh x0) := fun _ => event rfl
theorem stackTempCrossing : ∀ x0, Statement (.stackTempCrossing x0) := fun _ => event rfl
theorem retrainWindow : ∀ x0, Statement (.retrainWindow x0) := fun _ => event rfl
theorem scrubRead : ∀ x0 x1, Statement (.scrubRead x0 x1) := fun _ _ => event rfl
theorem memoryRequest : ∀ x0, Statement (.memoryRequest x0) := fun _ => event rfl
theorem gateCommitDone : Statement .gateCommitDone := event rfl
theorem fabricGrant : ∀ x0, Statement (.fabricGrant x0) := fun _ => event rfl
theorem resetNRelease : ∀ x0, Statement (.resetNRelease x0) := fun _ => event rfl
theorem resetNAssert : Statement .resetNAssert := event rfl
theorem bootWatchdogExpiry : ∀ x0, Statement (.bootWatchdogExpiry x0) := fun _ => event rfl
theorem readyReached : ∀ x0, Statement (.readyReached x0) := fun _ => event rfl
theorem recoveryBegin : ∀ x0, Statement (.recoveryBegin x0) := fun _ => event rfl
theorem recoveryData : ∀ x0, Statement (.recoveryData x0) := fun _ => event rfl
theorem recoveryEnd : ∀ x0 x1 x2, Statement (.recoveryEnd x0 x1 x2) := fun _ _ _ => event rfl
theorem recoveryStatus : ∀ x0, Statement (.recoveryStatus x0) := fun _ => event rfl
theorem recoveryCard : ∀ x0 x1 x2, Statement (.recoveryCard x0 x1 x2) := fun _ _ _ => event rfl
theorem recoveryIdentity : ∀ x0, Statement (.recoveryIdentity x0) := fun _ => event rfl
theorem recoveryUartLoad : ∀ x0 x1 x2, Statement (.recoveryUartLoad x0 x1 x2) := fun _ _ _ => event rfl
theorem recoveryStatusLine : Statement .recoveryStatusLine := event rfl
theorem auxioPulse : ∀ x0, Statement (.auxioPulse x0) := fun _ => event rfl
theorem laneRecalEnd : ∀ x0 x1, Statement (.laneRecalEnd x0 x1) := fun _ _ => event rfl
theorem laneLoopEnd : ∀ x0, Statement (.laneLoopEnd x0) := fun _ => event rfl
theorem selftestEnd : ∀ x0, Statement (.selftestEnd x0) := fun _ => event rfl
theorem fwStageEnd : ∀ x0, Statement (.fwStageEnd x0) := fun _ => event rfl
theorem loadCopyEnd : ∀ x0, Statement (.loadCopyEnd x0) := fun _ => event rfl
theorem touchRefSaveEnd : ∀ x0, Statement (.touchRefSaveEnd x0) := fun _ => event rfl
theorem outputLinkTrainingEnd : ∀ x0 x1, Statement (.outputLinkTrainingEnd x0 x1) := fun _ _ => event rfl
theorem laneCalibrationEnd : ∀ x0, Statement (.laneCalibrationEnd x0) := fun _ => event rfl
theorem corlerTrainingRetry : Statement .corlerTrainingRetry := event rfl
theorem castOnRestart : ∀ x0, Statement (.castOnRestart x0) := fun _ => event rfl
theorem maintFrameReceive : ∀ x0, Statement (.maintFrameReceive x0) := fun _ => event rfl

end Sys2Proof.Laws.Shape
end

