-- ==== Sys2Proof/Tests/Slice0.lean ====
section
/-! SUPPORT. Tests: for each statement with hypotheses, states and operands that meet the hypotheses of each of its clauses, at the
boundaries of their ranges; ill-formed commands that the check refuses; and single steps with values worked out from the spec. -/

namespace Sys2Proof.Tests

open Sys2Proof Sys2Proof.Machine

set_option Elab.async false

/-! ### Small states -/

/-- A ring that is enabled and has one entry. -/
def ringOn : Ring := { en := true, prod := 1 }

/-- A ring that the device writes, enabled and empty. -/
def ringIn : Ring := { en := true }

/-- Command ring 0 and its completion ring, packet-out ring 10 and the event ring enabled. -/
def fnOn : Fn := { rings := [(0, ringOn), (4, ringIn), (8, ringIn), (10, ringOn), (14, ringIn)] }

/-- A block in Ready and Run, the device links up, with a command waiting on ring 0 of each function. -/
def rdy : State :=
  { State.reset with
    hif := { State.reset.hif with fn0 := fnOn, fn1 := fnOn, linkUp := true }
    pwr := { State.reset.pwr with mode := .ready, faultN := false }
    mem := { State.reset.mem with mcState := 2 }
    boot := { State.reset.boot with step := 7, resetN := true } }

/-- That block in another mode. -/
def inMode (m : Mode) : State := { rdy with pwr := { rdy.pwr with mode := m } }

/-- A block at a time of T0 and T2, both set. -/
def atTime (ns : Nat) (s : State) : State :=
  { s with tb := { s.tb with
    t0 := { s.tb.t0 with sec := BitVec.ofNat 64 (ns / 1000000000), ns := w32 (ns % 1000000000), set := true }
    t2 := { s.tb.t2 with sec := BitVec.ofNat 64 (ns / 1000000000), ns := w32 (ns % 1000000000) }
    state := .locked } }

/-- A command on ring 0 of a port with some of its words, and its record. -/
def cmd (p : Port) (ws : List (Nat × W32)) (rcd : List Byte := []) : Cmd :=
  { port := p, w := (List.range 14).map fun i => ((ws.find? fun x => x.1 == i + 2).map Prod.snd).getD 0, record := some rcd }

/-- A record of words, some of them not 0. -/
def recd (n : Nat) (ws : List (Nat × W32)) : List Byte :=
  (List.range n).flatMap fun i => let v := ((ws.find? fun x => x.1 == i).map Prod.snd).getD 0
    [v.setWidth 8, (v >>> 8).setWidth 8, (v >>> 16).setWidth 8, (v >>> 24).setWidth 8]

/-- A whole-word write by PF0. -/
def wr (v : W32) : RegW := { init := 0, val := v }

/-- An outstanding command of an opcode. -/
def outst (op target : Nat) (arg : List Nat := []) (s : State := rdy) : State :=
  { s with hif := { s.hif with outst := [{ port := .pf0, ring := 0, opcode := op, tag := 0, seq := 1, cons := 1, target := target, arg := arg }] } }

/-- Two windows, the first and the last, that share nothing. -/
def winsTwo : Tab MemWindow := [(0, { en := true, rowCount := 64 }), (7, { en := true, base := 4096, rowCount := 64, rowBase := 64 })]

/-- The last device address of the first window. -/
def winTop : Nat := winSize { en := true, rowCount := 64 } - 1

/-- A block whose stack works through those windows. -/
def memRdy : State := { rdy with mem := { rdy.mem with windows := winsTwo } }

/-- A block in another power state. -/
def inPower (p : PowerState) (s : State := rdy) : State := { s with pwr := { s.pwr with state := p } }

/-- A block in a power transition that began at 0. -/
def inTrans (tr : PowerTrans) (s : State := rdy) : State := { s with pwr := { s.pwr with trans := some tr } }

/-- The entry to Sleep. -/
def toSleep : PowerTrans := { source := .run, target := .sleep, since := 0, origin := .reg, entry := true }

/-- A block with every lane as given. -/
def lanesAll (x : Lane) (s : State := rdy) : State := { s with lane := { s.lane with lanes := (List.range 84).map fun i => (i, x) } }

/-- The bytes of a number. -/
def bytesOf (n v : Nat) : List Byte := (List.range n).map fun i => BitVec.ofNat 8 (v / 256 ^ i)

/-- A firmware file of a length whose header is right. -/
def fwFile (n : Nat) : FwFile := { header := fwMagic ++ bytesOf 4 1 ++ bytesOf 4 n ++ bytesOf 16 0, size := n, verdict := 0 }

/-- An identity block of zeros. -/
def idBlock : List Byte := List.replicate 252 0 ++ bytesOf 4 (crc32c (List.replicate 252 0))

/-- A request to Recovery over data with its CRC. -/
def recq (arg : Nat) (data : List Byte) : RecovReq :=
  { addr := 0, port := 0, op := 0, arg := arg, len := data.length, crc := w32 (crc32c data), data := data }

/-- A stream record of a format: 64 by 64 pixels at 60 frames/s. -/
def strRec (f : Nat) : List Byte :=
  normRecord (recd 32 [(0, w32 (f * 2 ^ 28)), (1, if f = 6 then 0 else 0x00400040), (3, 16666667),
    (11, if f = 0 then 0x42000033 else 0), (12, if f < 4 || f = 5 then 10000 else 0), (13, if f = 6 then 0x40 else 0)])

/-- A stream that is open with such a record. -/
def strOn (k f : Nat) (s : State := rdy) : State := strSet k { st := 1, rcd := strRec f } s

/-- A number as bytes, most significant first. -/
def be (n v : Nat) : List Byte := (bytesOf n v).reverse

/-- The bytes of an Ethernet frame to MAC 00:00:00:00:00:10. -/
def ethOf (type : Nat) (pay : List Byte) : List Byte := be 6 0x10 ++ be 6 0 ++ be 2 type ++ pay

/-- A frame of those bytes, its check sequence right. -/
def fr (bs : List Byte) : EthFrame := { bytes := bs, fcs := ethFcs bs }

/-- An IPv4 packet of a protocol, its header checksum right, from and to address 0. -/
def ip4 (proto : Nat) (pay : List Byte) : List Byte :=
  let n := 20 + pay.length
  let c := 0x4500 + n + 0x4000 + proto
  be 2 0x4500 ++ be 2 n ++ be 4 0 ++ be 2 (0x4000 + proto) ++ be 2 (0xFFFF - (c % 65536 + c / 65536)) ++ be 8 0 ++ pay

/-- The payload of a UDP packet with an RTP header, payload type 96, SSRC 7: a single NAL unit. -/
def rtpData : List Byte := be 2 0x8060 ++ be 2 0 ++ be 4 0 ++ be 4 7 ++ [0x41, 0x80]

/-- A UDP packet to port 5004. -/
def udpTo (port : Nat) (data : List Byte) : List Byte := be 2 0 ++ be 2 port ++ be 2 (8 + data.length) ++ be 2 0 ++ data

/-- What the frame below brings. -/
def udp : UdpPkt := { v6 := false, dst := [0, 0, 0, 0], src := [0, 0, 0, 0], port := 5004, data := rtpData }

/-- The frame that carries it. -/
def frm : EthFrame := fr (ethOf 0x0800 (ip4 17 (udpTo 5004 rtpData)))

/-- A flow entry of port 7 for that packet to stream 255, with both checks. -/
def flowRec : List Byte := recd 16 [(0, 0x8080C000), (1, 0xFF60138C), (2, 7)]

/-- A block whose port 7 is up, with an address and that flow. -/
def netOn (s : State := rdy) : State :=
  { s with net := { s.net with ports := [(7, { en := true, up := true, unicast := [(0, 0x10)] })], flows := [(1023, { rcd := flowRec })] } }

/-- A coded unit that is open since 0. -/
def unitOpen : OpenUnit := { ts := 0, num := 0, openedAt := 0, markerAt := some 0, arrival := 0, origin := 0, arrTimed := true }

/-- A coded access unit. -/
def auOf (n : Nat) : AccUnit :=
  { num := n, arrival := 0, origin := 0, arrTimed := true, degraded := false, incomplete := false, rap := true, closedAt := 0 }

/-- A baseband input, with its link trained or not. -/
def bbOf (n : Nat) (x : BbIn) (s : State := rdy) : State := bbSet n x s

/-- A baseband frame. -/
def bbFrm : BbFrame := { chroma := 1, bpc := 8, pixelRate := 2100000000, w := 64, h := 64, totalLines := 70, linePeriod := 10, planes := [[]] }

/-- A generator at 60 frames/s, its origin at 0. -/
def genOn (g : Nat) (s : State := rdy) : State := flSet g { en := true, num := 60 } s

/-- A block whose first window is stitch-interleaved and large, with that generator. -/
def canRdy : State :=
  genOn 0 { rdy with mem := { rdy.mem with windows := [(0, { en := true, rowCount := 12288 })] } }

/-- A canvas of a size, of generator 0. -/
def canOf (w h : Nat) : Canvas := { set := true, w := w, h := h, buf1 := 2 ^ 24 }

/-- A layer record of 64 by 64 pixels: enabled, on a canvas and slot, from a stream. -/
def layRec (canvas slot stream : Nat) : List (Nat × W32) :=
  [(0, pack [(31, 31, 1), (21, 16, 1), (15, 10, canvas), (9, 0, slot)]), (1, w32 stream), (3, 0x00400040), (5, 0x00400040), (6, 0xFF000000)]

/-- The words of a record. -/
def recW (n : Nat) (ws : List (Nat × W32)) : List W32 := wordsOf n (recd n ws)

/-- A stream whose surfaces all hold pictures to keep, with an access unit that waits. -/
def fullStream : StreamE :=
  { st := 1, rcd := strRec 0, aus := [auOf 0]
    pics := (List.range 19).map fun i => { num := i, slot := i, w := 64, h := 64, fmt := 0, crcs := [] } }

/-- A block whose 65 layers all show a stream under tally. -/
def tallyMany : State :=
  strOn 255 4 { canRdy with comp := { rdy.comp with
    ledger := { staging := [(0, recW 8 [(0, 0x940000FF), (3, 20), (4, 0xFFFFFFFF)])] }
    canvases := [(63, { canOf 64 64 with active := { layers := (List.range 65).map fun i => (i, recW 16 (layRec 63 i 255)) } })] } }

/-- A coefficient image whose phases each sum to 1.0. -/
def coefImage : List Byte := (List.replicate 128 ([0, 1] ++ List.replicate 14 0)).flatten

/-- A commit of canvas 63 to frame 2. -/
def commit63 : Commit := { mask := 0x8000000000000000, frame := 2, id := 7, gen := 0 }

/-- A block with canvas 63. -/
def can63 (x : Canvas := canOf 64 64) (s : State := canRdy) : State := canSet 63 x s

/-- A frame that is being composed. -/
def jobOf (fin : Bool) : Compose := { frame := 2, buf := 0, cut := 0, cutFull := 0, finish := fin }

/-- An output record: output 47, canvas 47, generator 0, 64 by 64 of 400 by 128, echo, keep-alive. -/
def outRecd (o : Nat := 47) : List (Nat × W32) :=
  [(0, pack [(31, 26, o), (25, 20, 47), (14, 12, 6), (2, 2, 1), (1, 1, 1)]), (2, 0x01900040), (4, 0x00800040)]

/-- A block with canvas 47 and its output as given. -/
def out47 (x : Output := {}) (s : State := canRdy) : State := outSet 47 { x with rcd := recW 16 outRecd } (canSet 47 (canOf 64 64) s)

/-- What a row of a canvas of one pixel is judged with. -/
def rowCtx : RowCtx :=
  { o := 47, r := recW 16 outRecd, n := 0, row := 0, vx := 0, vy := 0, h := 1, fullTick := 0, hold := false, unver := false, pic := .canvas
    shot := some { frame := 0, buf := 0, cutFull := 0 }, canvas := { set := true, w := 1, h := 1 }, colA := (0, 0, 0), colB := (0, 0, 0)
    test := (0, 0, 0), dark := false, lifeOn := false, pattern := 0, faults := [] }

/-- A block in which that canvas's stitch stands under its tag, due at the next tick. -/
def liveStitch : State :=
  (writeTag 15 12 (canSurf rowCtx.canvas 0) 0 0 (tagWord (crc32c (readStitch 15 12 (canSurf rowCtx.canvas 0) 0 0 canRdy).1) 1 0) canRdy).2

/-- An encode record: channel 7, canvas 63, 64 by 64. -/
def encRecd : List (Nat × W32) :=
  [(0, pack [(31, 29, 7), (27, 22, 63), (16, 13, 1)]), (2, 0x00400040), (3, 0x00400040), (4, 100), (5, 100), (6, 0x00640001), (7, 0x00330000), (10, 16)]

/-- A block with canvas 63 and that channel as given. -/
def enc7 (x : EncChan := {}) (s : State := can63) : State := ecSet 7 { x with rcd := recW 16 encRecd } s

/-- A recorded frame. -/
def recFrm (t0 : Option Nat) : RecFrame := { num := 0, n := 0, at_ := 0, full := true, t0 := t0 }

/-- A block in a mode with its pair as given, at a time. -/
def pairIn (m : Mode) (p : PairUnit) (ns : Nat := 0) : State := atTime ns { inMode m with pair := p }

/-- That block with its Corler link up on four lanes. -/
def linked (m : Mode) (p : PairUnit) (ns : Nat := 0) : State := pairIn m { p with linkUp := true, lanes := 0xF } ns

/-- A handover before frame 2, and a takeover due at 1 microsecond. -/
def hand2 (r : Option HandReason) : Option Handover := some { frame := 2, reason := r, requestedAt := 0 }
def take2 : Option Takeover := some { frame := 2, due := 1000, cause := 1, detected := 0 }

/-- A module's record of a frame of output 47. -/
def dig47 : DigRec := { output := 47, frame := 2, digest := 0, slipped := 0, rescan := false, readback := 0 }

/-- The peer's. -/
def peer47 : PeerDigest := { output := 47, frame := 2, digest := 0, slipped := 0, rescan := false, readback := 0, config := 0 }

/-- A panel record of 64 by 48 nodes on output 47, a node to a pixel: Night and SPLIT as given. -/
def panRec (p : Nat) (night split : Bool := false) (phase : Nat := 0) : List (Nat × W32) :=
  [(0, pack [(31, 29, p), (28, 22, 64), (21, 16, 48), (14, 14, b1 night), (10, 5, 47)]), (3, pack [(31, 31, b1 split), (22, 0, phase)]),
    (4, 65536), (8, 65536)]

/-- A block with a panel of that record. -/
def panOn (p : Nat) (x : TouchPanel) (s : State := rdy) : State := tpSet p { x with rcd := recW 16 (panRec p) } s

/-- A scan under way, its sample time at 1 microsecond of T0. -/
def scan1 : TouchEngine := { cur := some { k := 0, onT0 := true, at_ := 1000 } }

/-- A reference of one node. -/
def ref1 : TouchRef := { drv := 1, sns := 1, base := [] }

/-- A block whose gauges all read 2 GHz. -/
def gauged (s : State) : State := { s with pwr := { s.pwr with gauges := (List.range 15).map fun d => (d, { reading := 2000 }) } }

/-- A block with a command that waits for VCORE since 0. -/
def supplied0 (s : State) : State :=
  let s1 := outst 0x0300 0 [] s
  { s1 with hif := { s1.hif with supply := some { seq := 1, opcode := 0x0300, cmd := cmd .pf0 [(4, 255)] (strRec 0), since := 0, reqs := [(6, 756)] } } }

/-- A frame that brings an ARP message. -/
def arpFrm : EthFrame := fr (ethOf 0x0806 [])

/-- The next state of an outcome. -/
def nextOf (r : Host.Outcome State Fault Refusal) : State := match r with | .next t => t | _ => rdy

/-- A decoded picture of 64 by 64. -/
def pic64 : DecPicture := { profile := 66, level := 40, stride := 64, planes := [], w := 64, h := 64 }

/-- A block whose engine decodes the first unit of stream 255. -/
def decoding (n : Nat) (e : StreamE) (s : State := rdy) : State :=
  engUpd n (fun x => { x with job := some ⟨255, 0, 0, false, [n], true⟩ }) (strSet 255 { e with st := 1, aus := [auOf 0] } s)

/-- The job it does. -/
def job255 (n : Nat) : Job := ⟨255, 0, 0, false, [n], true⟩

/-- A block with canvas 63 whose pending bank asks for more fetching than there is. -/
def heavy : State :=
  can63 { canOf 64 64 with pend := { layers := (List.range 20).map fun i =>
    (i, recW 16 [(0, pack [(31, 31, 1), (21, 16, i), (15, 10, 63), (9, 0, i)]), (1, 255), (3, 0x10E01E00), (5, 0x010E01E0), (6, 0xFF000000)]) } }

/-- A block with a transmit stamp of a timing message at hand. -/
def stamped (s : State) : State := { s with tb := { s.tb with txq := [(8, { q := [{ ident := 5, tbase := 0, nsq := 0, sec := 0 }] })] } }

/-! ### Facts of those states -/

/-- Time bases with nothing waiting are sound where their increments are in range. -/
theorem fresh_sound (n : Nat) (t : TimeBase) (h : t.ns.toNat < 1000000000 ∧ t.loadNs.toNat < 1000000000 ∧ incIn n t.inc.toNat = true)
    (hi : t.incNext = none) (ho : t.ops = []) : t.Sound n :=
  ⟨h.1, h.2.1, h.2.2, fun _ e => by simp [hi] at e, fun _ _ _ _ _ e => by simp [ho] at e⟩

theorem rdy_time : rdy.tb.Sound :=
  ⟨fresh_sound _ _ (by decide +kernel) rfl rfl, fresh_sound _ _ (by decide +kernel) rfl rfl, fresh_sound _ _ (by decide +kernel) rfl rfl,
    fresh_sound _ _ (by decide +kernel) rfl rfl, rfl⟩

/-- Windows are lawful where a check of all pairs of them says so. -/
theorem lawful_of_check (ws : Tab MemWindow)
    (h : (∀ n, n < 8 → (tget {} ws n : MemWindow).en = true →
        (tget {} ws n : MemWindow).rowBase + (tget {} ws n : MemWindow).rowCount ≤ 12288 ∧
          ((tget {} ws n : MemWindow).order = 3 ∨ (tget {} ws n : MemWindow).mask = 0xFFFFFFFF)) ∧
      ∀ i, i < 8 → ∀ j, j < 8 → i ≠ j → (tget {} ws i : MemWindow).en = true → (tget {} ws j : MemWindow).en = true →
        winClash (tget {} ws i) (tget {} ws j) = false) : WindowsLawful ws :=
  ⟨h.1, fun i j hi hj => h.2 i hi j hj⟩

theorem winsTwo_lawful : WindowsLawful winsTwo := lawful_of_check _ (by decide +kernel)

theorem rdy_good : rdy.Good := ⟨(by decide +kernel), lawful_of_check _ (by decide +kernel), rdy_time, (by decide +kernel)⟩

theorem rdy_good_with (q : List Instr) : State.Good { rdy with pending := q } := ⟨rdy_good.mem, rdy_good.win, rdy_good.time, rdy_good.seq⟩

theorem memRdy_good : memRdy.Good := ⟨(by decide +kernel), winsTwo_lawful, rdy_time, (by decide +kernel)⟩

/-- A word is not its successor. -/
theorem succ_ne (x : W32) : x + 1 ≠ x := by
  intro h; have := congrArg BitVec.toNat h; simp [BitVec.toNat_add] at this; omega

theorem triple_eta {α β γ : Type} (x : α × β × γ) : x = (x.1, x.2.1, x.2.2) := rfl

theorem memRdy_served (i : Nat) (h : i < [(1 : Byte)].length) :
    ∃ p, unitFate memRdy.mem 4 ((winTop + i) / 64 * 64) true = .served p := by
  obtain rfl : i = 0 := by simpa using h
  exact ⟨24964562880, by decide +kernel⟩

/-- Dropping whole copies of a block. -/
theorem drop_copies (b : List Byte) (n p : Nat) (h : p ≤ n) :
    (List.replicate n b).flatten.drop (b.length * p) = (List.replicate (n - p) b).flatten := by
  induction p generalizing n with
  | zero => simp
  | succ p ih =>
    obtain ⟨m, rfl⟩ : ∃ m, n = m + 1 := ⟨n - 1, by omega⟩
    rw [Nat.mul_succ, Nat.add_comm, ← List.drop_drop, List.replicate_succ, List.flatten_cons, List.drop_left, ih m (by omega)]
    congr 2; omega

theorem coefImage_half (p t : Nat) (hp : p < 128) (ht : t < 8) : leAt coefImage (2 * (8 * p + t)) 2 = if t = 0 then 256 else 0 := by
  have e : 2 * (8 * p + t) = 16 * p + 2 * t := by omega
  have d := drop_copies ([0, 1] ++ List.replicate 14 0) 128 p (by omega)
  have l : ([0, 1] ++ List.replicate 14 0 : List Byte).length = 16 := rfl
  rw [l] at d
  obtain ⟨m, hm⟩ : ∃ m, 128 - p = m + 1 := ⟨127 - p, by omega⟩
  rw [leAt, e, ← List.drop_drop, coefImage, d, hm, List.replicate_succ, List.flatten_cons]
  generalize (List.replicate m ([0, 1] ++ List.replicate 14 (0 : Byte))).flatten = r
  have : t = 0 ∨ t = 1 ∨ t = 2 ∨ t = 3 ∨ t = 4 ∨ t = 5 ∨ t = 6 ∨ t = 7 := by omega
  rcases this with rfl | rfl | rfl | rfl | rfl | rfl | rfl | rfl <;> rfl

theorem coefImage_good : coefBad coefImage = false := by
  have c (p t : Nat) (hp : p < 128) (ht : t < 8) : coefAt coefImage (8 * p + t) = if t = 0 then 256 else 0 := by
    rw [coefAt, coefImage_half p t hp ht]; split <;> rfl
  have l : coefImage.length = 2048 := by
    simp only [coefImage, List.length_flatten, List.map_replicate, List.sum_replicate_nat, List.length_append, List.length_replicate,
      List.length_cons, List.length_nil]
  have v (p : Nat) : 512 + 8 * p = 8 * (64 + p) := by omega
  have a (p t : Nat) (hp : p < 64) (ht : t < 8) : leAt coefImage (2 * (8 * p + t)) 2 = if t = 0 then 256 else 0 := coefImage_half p t (by omega) ht
  have b (p t : Nat) (hp : p < 64) (ht : t < 8) : leAt coefImage (2 * (8 * (64 + p) + t)) 2 = if t = 0 then 256 else 0 :=
    coefImage_half _ t (by omega) ht
  have ha (p t : Nat) (hp : p < 64) (ht : t < 8) := c p t (by omega) ht
  have hb (p t : Nat) (hp : p < 64) (ht : t < 8) := c (64 + p) t (by omega) ht
  unfold coefBad
  simp only [v, l, bne_self_eq_false, Bool.false_or, List.any_eq_false, List.mem_range, Bool.not_eq_true]
  intro p hp
  have r8 : List.range 8 = [0, 1, 2, 3, 4, 5, 6, 7] := rfl
  have r6 : List.range 6 = [0, 1, 2, 3, 4, 5] := rfl
  have a0 := a p 0 hp (by omega); have b0 := b p 0 hp (by omega); have c0 := ha p 0 hp (by omega); have d0 := hb p 0 hp (by omega)
  simp only [Nat.add_zero, if_true] at a0 b0 c0 d0
  simp [r8, r6, a0, b0, c0, d0, a p _ hp, b p _ hp, ha p _ hp, hb p _ hp]

theorem zeros_low (i : Nat) (h : i < 1024) : leAt (List.replicate 2048 0) (2 * i) 2 ≤ 65472 := by
  have : min 2 (2048 - 2 * i) = 2 := by omega
  rw [leAt, List.drop_replicate, List.take_replicate, this]; decide

/-- A load that is outstanding with a CRC, whatever the CRC. -/
theorem load_coef (y : Nat) : loadOutst (outst 0x0405 63 [3, y]) =
    some { port := .pf0, ring := 0, opcode := 0x0405, tag := 0, seq := 1, cons := 1, target := 63, arg := [3, y] } := by
  unfold loadOutst outst; rfl

theorem load_transfer (y : Nat) : loadOutst (outst 0x0406 15 [y]) =
    some { port := .pf0, ring := 0, opcode := 0x0406, tag := 0, seq := 1, cons := 1, target := 15, arg := [y] } := by
  unfold loadOutst outst; rfl

theorem load_enc (y : Nat) : loadOutst (outst 0x0603 7 [y]) =
    some { port := .pf0, ring := 0, opcode := 0x0603, tag := 0, seq := 1, cons := 1, target := 7, arg := [y] } := by
  unfold loadOutst outst; rfl

theorem second_arg (x y : Nat) : y = [x, y].getD 1 0 := rfl
theorem first_arg (x : Nat) : x = [x].getD 0 0 := rfl

/-- The pair is no part of the configuration digest; shown where no still is loaded. -/
theorem configDigest_pair (s : State) (p : PairUnit) (h : s.comp.stills = []) : configDigest { s with pair := p } = configDigest s := by
  have h1 : liveLedger { s with pair := p } = liveLedger s := rfl
  have h2 : ∀ o, outRec { s with pair := p } o = outRec s o := fun _ => rfl
  simp only [configDigest, h1, h2, h, List.flatMap_nil]

theorem linked_digest (m : Mode) (p : PairUnit) (ns : Nat) :
    configDigest (linked m p ns) = configDigest (linked m {} ns) :=
  configDigest_pair (linked m {} ns) { p with linkUp := true, lanes := 0xF } rfl

theorem fit_of (s : State) (h1 : (s.tb.state == .locked || s.tb.state == .holdover) = true) (h2 : s.tb.pairOver = false)
    (h3 : (s.scan.outs.any fun x => x.2.hold) = false) (h : s.pair.peerDigest = some (configDigest s)) : pairFit s = true := by
  simp only [pairFit, h1, h2, h3, h, beq_self_eq_true, Bool.not_false, Bool.and_self]

theorem knit_fit : pairFit (linked .knitUp { phase := 5, proofFrames := 8, peerDigest := some (configDigest (linked .knitUp {})) }) = true :=
  fit_of _ rfl rfl rfl (congrArg some (linked_digest _ _ _).symm)

/-- The CRC of the identity block of zeros, in two halves. -/
theorem zeros_fold : (List.replicate 252 (0 : Byte)).foldl (crcReflByte 0x82F63B78) 0xFFFFFFFF = 1743147809 ^^^ 0xFFFFFFFF := by
  rw [show (252 : Nat) = 126 + 126 from rfl, ← List.replicate_append_replicate, List.foldl_append]
  rw [show (List.replicate 126 (0 : Byte)).foldl (crcReflByte 0x82F63B78) 0xFFFFFFFF = 723379 by decide +kernel]
  decide +kernel

theorem zeros_crc : crc32c (List.replicate 252 0) = 1743147809 := by rw [crc32c, zeros_fold]; decide

theorem idBlock_eq : idBlock = List.replicate 252 0 ++ bytesOf 4 1743147809 := by rw [idBlock, zeros_crc]

theorem idBlock_crc : crc32c idBlock < 2 ^ 32 := by
  rw [idBlock_eq, crc32c, List.foldl_append, zeros_fold]; decide +kernel

theorem recq_crc (d : List Byte) (h : crc32c d < 2 ^ 32) : crc32c (recq 0 d).data = (recq 0 d).crc.toNat := by
  show crc32c d = (BitVec.ofNat 32 (crc32c d)).toNat
  rw [BitVec.toNat_ofNat, Nat.mod_eq_of_lt h]

theorem idBlock_ok : identityOk idBlock = true := by
  have t : (List.replicate 252 0 ++ bytesOf 4 1743147809 : List Byte).take 252 = List.replicate 252 0 :=
    List.take_left' List.length_replicate
  rw [idBlock_eq, identityOk, t, zeros_crc]; decide +kernel

theorem digest_ne (m : Mode) (p : PairUnit) (ns : Nat) : configDigest (linked m {} ns) + 1 ≠ configDigest (linked m p ns) := by
  rw [linked_digest m p ns]; exact succ_ne _

theorem idBlock_length : idBlock.length = 256 := by
  rw [idBlock_eq, List.length_append, List.length_replicate]; rfl


theorem arp_no_udp (P : UdpPkt → Prop) : ∀ d, arpFrm.body = .udp d → P d := by
  have h : arpFrm.body = .arp := by decide +kernel
  intro d e; rw [h] at e; cases e

/-- A still of a size fits wherever it lies in a stack of one window. -/
theorem still_fits (s : State) (h : s.mem = canRdy.mem) (k x y : Nat) (hb : bufBytes x y ≤ 500000000) :
    bufOk s (stillSurf k x y).base x y = true := by
  have hf := (Config.stillSurface k).isLt
  have hs : (stillSurf k x y).base = (Config.stillSurface k).val * 4096 := rfl
  have hw (a : Nat) (ha : a < 25769803776) : winOf canRdy.mem a = some { en := true, rowCount := 12288 } := by
    have e : (List.range 8).map (winGet canRdy.mem) =
        { en := true, rowCount := 12288 } :: ((List.range 8).map (winGet canRdy.mem)).tail := by decide +kernel
    have z : winSize { en := true, rowCount := 12288 } = 25769803776 := by decide +kernel
    rw [winOf, e, List.find?_cons_of_pos]
    simp only [winBase, z, Nat.zero_mul, Nat.zero_add, Nat.zero_le, decide_true, Bool.and_self, Bool.true_and, decide_eq_true_eq]
    exact ha
  have z : winBase { en := true, rowCount := 12288 } + winSize { en := true, rowCount := 12288 } = 25769803776 := by decide +kernel
  simp only [bufOk, stitchInterleaved, h, hs, hw _ (show (Config.stillSurface k).val * 4096 < 25769803776 by omega), z, Nat.mul_mod_left,
    beq_self_eq_true, Bool.true_and, decide_eq_true_eq]
  omega

theorem still_none (k x y : Nat) : bufOk rdy (stillSurf k x y).base x y = false := Bool.and_false _

theorem load_still : loadOutst (outst 0x0407 255 [1, 1, 4]) =
    some { port := .pf0, ring := 0, opcode := 0x0407, tag := 0, seq := 1, cons := 1, target := 255, arg := [1, 1, 4] } := rfl

/-! ### Ill-formed commands are refused -/

theorem smoke_wellformed : (Instr.nop (cmd .pf0 [])).wf = true ∧ (Instr.layerSet (cmd .pf0 [] (recd 16 []))).wf = true ∧
    (Instr.registerWrite 0xE008 (wr 0)).wf = true ∧ (Instr.doorbellWrite 1 15 0).wf = true := by decide +kernel

/-- A command ring above 3; a command of fewer than 14 words. -/
theorem smoke_ring : (Instr.nop { cmd .pf0 [] with ring := 4 }).wf = false := by decide +kernel
theorem smoke_words : (Instr.nop { cmd .pf0 [] with w := [] }).wf = false := by decide +kernel

/-- A record of another length than its command's. -/
theorem smoke_record : (Instr.layerSet (cmd .pf0 [] (recd 15 []))).wf = false := by decide +kernel

/-- An opcode of more than 16 bits; a ring of a function above 15; a third function; a ninth panel. -/
theorem smoke_opcode : (Instr.unknownOpcode 65536 (cmd .pf0 [])).wf = false := by decide +kernel
theorem smoke_index : (Instr.doorbellWrite 0 16 0).wf = false ∧ (Instr.functionLevelReset 2).wf = false ∧
    (Instr.gangedScanEntry 8).wf = false := by decide +kernel

/-- A bit of the bit alias above 31; a register offset that is no word's; one past the register space. -/
theorem smoke_alias : (Instr.registerWrite 0 { wr 0 with path := .bar1 32 }).wf = false := by decide +kernel
theorem smoke_offset : (Instr.registerWrite 2 (wr 0)).wf = false ∧ (Instr.registerWrite 0x10000 (wr 0)).wf = false := by decide +kernel

/-! ### Single steps, with values from the spec -/

/-- A property of the next state. -/
def after (r : Host.Outcome State Fault Refusal) (f : State → Bool) : Bool := match r with | .next t => f t | _ => false

/-- No word spells a command. -/
theorem test_no_word : decodeTableWord 64 0 = none ∧ rdy.withFetchWord 64 0 = rdy := ⟨rfl, rfl⟩

/-- The published check value of CRC-32C, of the digits 1 to 9 (R49). -/
theorem test_crc32c : crc32c [0x31, 0x32, 0x33, 0x34, 0x35, 0x36, 0x37, 0x38, 0x39] = 0xE3069283 := by decide +kernel

/-- The first command has sequence number 1 (R533), and its completion goes to the completion ring. -/
theorem test_nop : after (exec (.nop (cmd .pf0 [])) rdy) (fun t => t.hif.cmdSeq == 1 && (ringGet t 0 4).prod == 1) = true := by decide +kernel

/-- A doorbell 64 entries ahead of a ring of 64 stands; one more stops the ring (R525). -/
theorem test_doorbell_full : after (exec (.doorbellWrite 0 0 64) rdy) (fun t => !(ringGet t 0 0).stopped && (ringGet t 0 0).prod == 64) = true := by
  decide +kernel
theorem test_doorbell_over : after (exec (.doorbellWrite 0 0 65) rdy) (fun t => (ringGet t 0 0).stopped) = true := by decide +kernel

/-- A tick of 2 ns carries from the nanoseconds into the seconds (R173). -/
theorem test_tick_carries : after (exec .timeBaseTick (atTime 999999998 rdy)) (fun t => t.tb.t0.sec == 1 && t.tb.t0.ns == 0 &&
    t.tb.t2.sec == 1) = true := by decide +kernel

/-- D(n) of 60 frames/s, rounded down (R211). -/
theorem test_display_time : displayTime (flGet (genOn 0 rdy) 0) 2 = 33333333 ∧ displayTime (flGet (genOn 0 rdy) 0) 3 = 50000000 := by
  decide +kernel

/-- The Hadamard signs of R484. -/
theorem test_hadamard : hadamard 3 1 = -1 ∧ hadamard 3 3 = 1 ∧ hadamard 7 7 = -1 ∧ hadamard 0 15 = 1 := by decide +kernel

/-- A unit calibration maps a panel position to the pixel of its number (R500). -/
theorem test_pixel : pixelAt (recW 16 (panRec 7)) 399 127 = (399, 127) := by decide +kernel

/-- One byte, written through the first window, is read back; the byte beside it stays 0 (R566). -/
theorem test_memory : let s := (request 4 0 winTop 1 (some [0xA5]) memRdy).2.2
    devByte s.mem winTop = 0xA5 ∧ devByte s.mem (winTop - 1) = 0 := by decide +kernel

/-- A voltage above 850 mV is refused and changes no setting (GA_VSET, 550 to 850). -/
theorem test_vset_over : after (exec (.registerWrite 0xE008 (wr 851)) rdy) (fun t => t.pwr == rdy.pwr) = true := by decide +kernel

/-- A silent Lead makes its Follow take over, 30 microseconds after the last heartbeat and not before (R450). -/
theorem test_silence : after (exec .heartbeatSilence (linked .follow {} 30000)) (fun t => t.pair.silent && t.pair.take.isSome) = true := by
  decide +kernel
theorem test_no_silence : after (exec .heartbeatSilence (linked .follow {} 29999)) (fun t => t == linked .follow {} 29999) = true := by
  decide +kernel

/-- Example 11-1 with k = 1: the last heartbeat comes 15,985 microseconds after D(1), silence is found 30 microseconds later, and LEAD_OUT
is to rise 100 microseconds before D(2). -/
theorem test_takeover_example : after (exec .heartbeatSilence
    (genOn 0 (out47 { en := true } (linked .follow { lastRx := 32651666 } 32681666))))
    (fun t => t.pair.take == some { frame := 2, due := 33233333, cause := 1, detected := 32681666, old := 32651666 }) = true := by decide +kernel

/-- PAIR_LEAVE takes a Follow to Ready (R447). -/
theorem test_leave : after (exec (.pairLeave (cmd .pf0 [])) (inMode .follow)) (fun t => t.pwr.mode == .ready) = true := by decide +kernel

/-- A touch panel gives no verdict for a contact outside its output (R500, Table 12-5). -/
theorem test_outside : (contactVerdict (recW 16 (panRec 7)) 400 0 0 true (out47 { en := true })).verdict = 3 := by decide +kernel

/-- The published check value of Ethernet's frame check sequence, of the digits 1 to 9 (R59). -/
theorem test_fcs : ethFcs [0x31, 0x32, 0x33, 0x34, 0x35, 0x36, 0x37, 0x38, 0x39] = 0xCBF43926 := by decide +kernel

/-- A frame written out byte by byte is read as the UDP packet it carries (R229, R231). -/
theorem test_frame : frm.body = .udp udp ∧ frm.ipBad = false ∧ frm.fcsOk = true ∧ frm.len = 60 := by decide +kernel

/-- The residue check of a shift with its remainder kept holds for 1003 = 125 * 8 + 3 and fails for a quotient one less (R76). -/
theorem test_residue : shiftChecked 1003 3 125 3 = true ∧ shiftChecked 1003 3 124 3 = false := by decide +kernel

/-! ### The hypotheses of the statements are met -/

/-- States and operands that meet the hypotheses of each clause of `StepRunsTheFrontCommandOrIdles`. -/
theorem witness_StepRunsTheFrontCommandOrIdles :
  (∃ (s : State), s.pending = []) :=
  ⟨rdy, (by decide +kernel)⟩

/-- States and operands that meet the hypotheses of each clause of `EveryStepKeepsTheInvariant`. -/
theorem witness_EveryStepKeepsTheInvariant :
  (∃ (s t : State), s.Good ∧ step s = .next t) :=
  ⟨{ rdy with pending := [.timeBaseTick] }, { rdy with tb := (tbTickAll rdy).tb }, (rdy_good_with _), rfl⟩

/-- States and operands that meet the hypotheses of each clause of `ReachableBlocksGiveLawfulNumbers`. -/
theorem witness_ReachableBlocksGiveLawfulNumbers :
  (∃ (s t : State), s.Good ∧ Reaches s t) :=
  ⟨{ rdy with pending := [.timeBaseTick] }, { rdy with tb := (tbTickAll rdy).tb }, (rdy_good_with _), (.tail (.refl _) rfl)⟩

/-- States and operands that meet the hypotheses of each clause of `CommandsKeepTheQueueAndTheRecord`. -/
theorem witness_CommandsKeepTheQueueAndTheRecord :
  (∃ (c : Instr) (s t : State), s.Good ∧ exec c s = .next t) :=
  ⟨.timeBaseTick, { rdy with pending := [.timeBaseTick] }, { rdy with pending := [.timeBaseTick], tb := (tbTickAll rdy).tb },
    (rdy_good_with _), rfl⟩

/-- States and operands that meet the hypotheses of each clause of `TakingGivesTheNextSequenceNumber`. -/
theorem witness_TakingGivesTheNextSequenceNumber :
  (∃ (s : State), s.hif.cmdSeq ≠ 0xFFFFFFFF) ∧
  (∃ (c : Cmd), c.port ≠ .maint) ∧
  (∃ (c : Cmd) (fn r : Nat), fn < 2 ∧ (c.port = .maint ∨ fn ≠ portFn c.port ∨ r ≠ c.ring)) :=
  ⟨⟨{ rdy with hif := { rdy.hif with cmdSeq := 0xFFFFFFFE } }, (by decide +kernel)⟩,
  ⟨cmd .pf0 [], (by decide +kernel)⟩,
  ⟨cmd .pf0 [], 1, 0, (by decide +kernel), (by decide +kernel)⟩⟩

/-- States and operands that meet the hypotheses of each clause of `CompletionIsOneDescriptorWithItsFields`. -/
theorem witness_CompletionIsOneDescriptorWithItsFields :
  (∃ (op : Nat) (c : Cmd) (u : State) (q : Nat) (x : Ring) (res : List W32) (r : Reply) (st : Nat) (det : W32), ((r = .ok res ∧ st = 0 ∧
    det = 0) ∨ (r = .no st det ∧ res = [] ∧ st < 256 ∧ st ≠ 2)) ∧ c.port ≠ .maint ∧ c.ring < 16 ∧ op < 65536 ∧ res.length ≤ 10 ∧ q =
    cplRing u (portFn c.port) c.ring ∧ x = ringGet u (portFn c.port) q ∧ ringRoom x 1 = true ∧ x.irqEn = false) :=
  ⟨65535, { cmd .pf1 [] with ring := 15 }, { rdy with hif := { rdy.hif with fn1 := { rings := [(4, { ringIn with prod := 63 })] } } }, _,
    _, List.replicate 10 1, .ok (List.replicate 10 1), 0, 0, (by decide +kernel), (by decide +kernel), (by decide +kernel),
    (by decide +kernel), (by decide +kernel), rfl, rfl, (by decide +kernel), (by decide +kernel)⟩

/-- States and operands that meet the hypotheses of each clause of `GatekeptCommandsDoNothing`. -/
theorem witness_GatekeptCommandsDoNothing :
  (∃ (op : Nat) (c : Cmd) (s : State), portReady c s = true ∧ opPorts (op % 65536) = none) ∧
  (∃ (op : Nat) (c : Cmd) (s : State) (a b m : Bool), portReady c s = true ∧ opPorts op = some (a, b, m) ∧
    (match c.port with | .pf0 => a | .pf1 => b | .maint => m) = false) ∧
  (∃ (op : Nat) (c : Cmd) (s : State) (a b m : Bool), portReady c s = true ∧ opPorts op = some (a, b, m) ∧
    (match c.port with | .pf0 => a | .pf1 => b | .maint => m) = true ∧ ((s.pwr.mode = .castOn ∧ op ∉ [0x0000, 0x0001, 0x0A02]) ∨
    (s.pwr.trans.isSome = true ∧ op ∉ [0x0000, 0x0001, 0x0005]))) ∧
  (∃ (op : Nat) (c : Cmd) (s : State) (a b m : Bool), portReady c s = true ∧ opPorts op = some (a, b, m) ∧
    (match c.port with | .pf0 => a | .pf1 => b | .maint => m) = true ∧ s.pwr.mode ≠ .castOn ∧ s.pwr.trans = none ∧ opHasRecord op = true ∧
    c.record = none) :=
  ⟨⟨0xFFFF, cmd .pf0 [], rdy, (by decide +kernel), (by decide +kernel)⟩,
  ⟨3, cmd .pf1 [], rdy, true, false, false, (by decide +kernel), (by decide +kernel), (by decide +kernel)⟩,
  ⟨3, cmd .pf0 [], { inMode .castOn with boot := { rdy.boot with step := 4 } }, true, false, false, (by decide +kernel),
    (by decide +kernel), (by decide +kernel), (by decide +kernel)⟩,
  ⟨0x400, { cmd .pf0 [] with record := none }, rdy, true, true, false, (by decide +kernel), (by decide +kernel), (by decide +kernel),
    (by decide +kernel), (by decide +kernel), (by decide +kernel), (by decide +kernel)⟩⟩

/-- States and operands that meet the hypotheses of each clause of `GeneralCommandsChangeWhatTheyName`. -/
theorem witness_GeneralCommandsChangeWhatTheyName :
  (∃ (c : Cmd) (s : State), Taken 0x0000 c s) ∧
  (∃ (c : Cmd) (s u : State), u = takeCmd c s ∧ Taken 0x0002 c s ∧ c.port = .pf0 ∧ cw c 2 = 0) ∧
  (∃ (c : Cmd) (s u : State), u = takeCmd c s ∧ Taken 0x0002 c s ∧ c.port = .pf0 ∧ cw c 2 = 1) ∧
  (∃ (c : Cmd) (s u : State), u = takeCmd c s ∧ Taken 0x0002 c s ∧ c.port = .pf0 ∧ cw c 2 = 2) ∧
  (∃ (c : Cmd) (s u : State), u = takeCmd c s ∧ Taken 0x0002 c s ∧ c.port = .pf0 ∧ cw c 2 = 3) ∧
  (∃ (c : Cmd) (s u : State), u = takeCmd c s ∧ Taken 0x0002 c s ∧ c.port = .pf1 ∧ cw c 2 = 3 ∧ maskWithin (maskWords c) s.hif.allow1 =
    true) ∧
  (∃ (c : Cmd) (s u : State), u = takeCmd c s ∧ Taken 0x0002 c s ∧ c.port = .maint ∧ cw c 2 = 2) ∧
  (∃ (c : Cmd) (s u : State), u = takeCmd c s ∧ Taken 0x0003 c s ∧ (cw c 2).toNat < 16 ∧ (cw c 3).toNat < 16 ∧ (∀ i, i < 4 → limitBad c i
    = false) ∧ (cw c 8).toNat ≤ 192) ∧
  (∃ (c : Cmd) (s : State), Taken 0x0007 c s ∧ s.pwr.mode = .maintenance) ∧
  (∃ (s : State) (o : Outst), outstOf 0x0007 s = some o) :=
  ⟨⟨cmd .pf0 [], rdy, (by decide +kernel)⟩,
  ⟨cmd .pf0 [], rdy, _, rfl, (by decide +kernel), (by decide +kernel), (by decide +kernel)⟩,
  ⟨cmd .pf0 [(2,1)], rdy, _, rfl, (by decide +kernel), (by decide +kernel), (by decide +kernel)⟩,
  ⟨cmd .pf0 [(2,2)], rdy, _, rfl, (by decide +kernel), (by decide +kernel), (by decide +kernel)⟩,
  ⟨cmd .pf0 [(2,3)], rdy, _, rfl, (by decide +kernel), (by decide +kernel), (by decide +kernel)⟩,
  ⟨cmd .pf1 [(2,3)], rdy, _, rfl, (by decide +kernel), (by decide +kernel), (by decide +kernel), (by decide +kernel)⟩,
  ⟨cmd .maint [(2,2)], rdy, _, rfl, (by decide +kernel), (by decide +kernel), (by decide +kernel)⟩,
  ⟨cmd .pf0 [(2,15),(3,15),(4,0xEA600014),(5,0xEA600014),(6,0xEA600014),(7,0xEA60EA60),(8,192)], rdy, _, rfl, (by decide +kernel),
    (by decide +kernel), (by decide +kernel), (by decide +kernel), (by decide +kernel)⟩,
  ⟨cmd .maint [(2,0xFFFFFFFF)], inMode .maintenance, (by decide +kernel), (by decide +kernel)⟩,
  ⟨outst 7 3, _, (Option.some_get (by decide +kernel)).symm⟩⟩

/-- States and operands that meet the hypotheses of each clause of `CommandTakeServesRoundRobin`. -/
theorem witness_CommandTakeServesRoundRobin :
  (∃ (s : State) (p : Nat), placeNext s = some p) ∧
  (∃ (s : State) (p : Nat), commandsTaken s = true ∧ deviceFree s = true ∧ placeNext s = some p ∧ p < 8) ∧
  (∃ (s : State) (op : Nat) (c : Cmd), commandsTaken s = true ∧ deviceFree s = true ∧ placeNext s = some 8 ∧ s.hif.maintWait = some (op,
    c)) ∧
  (∃ (s : State) (p : Nat), commandsTaken s = true ∧ deviceFree s = true ∧ placeNext s = some p ∧ p < 8) ∧
  (∃ (s : State), placeNext s = none) ∧
  (∃ (c : Cmd) (s : State), portReady c s = true) :=
  ⟨⟨{ rdy with hif := { rdy.hif with lastServed := 0 } }, 4, (by decide +kernel)⟩,
  ⟨rdy, 0, (by decide +kernel), (by decide +kernel), (by decide +kernel), (by decide +kernel)⟩,
  ⟨{ rdy with hif := { rdy.hif with lastServed := 7, maintWait := some (0, cmd .maint []) } }, 0, cmd .maint [], (by decide +kernel),
    (by decide +kernel), (by decide +kernel), (by decide +kernel)⟩,
  ⟨{ rdy with hif := { rdy.hif with lastServed := 3 } }, 4, (by decide +kernel), (by decide +kernel), (by decide +kernel),
    (by decide +kernel)⟩,
  ⟨State.reset, (by decide +kernel)⟩,
  ⟨cmd .pf1 [], rdy, (by decide +kernel)⟩⟩

/-- States and operands that meet the hypotheses of each clause of `DoorbellMovesTheIndexOrStopsTheRing`. -/
theorem witness_DoorbellMovesTheIndexOrStopsTheRing :
  (∃ (fn r : Nat) (v : W32) (s : State) (x : Ring), fn < 2 ∧ ringExists fn r = true ∧ x = ringGet s fn r ∧ x.en = true ∧ x.stopped = false
    ∧ hostProduced r = true ∧ (v - x.cons).toNat ≤ 2 ^ x.log2 ∧ (v - x.prod).toNat ≤ 2 ^ x.log2) ∧
  (∃ (fn r : Nat) (v : W32) (s : State) (x : Ring), fn < 2 ∧ ringExists fn r = true ∧ x = ringGet s fn r ∧ x.en = true ∧ x.stopped = false
    ∧ hostProduced r = true ∧ (2 ^ x.log2 < (v - x.cons).toNat ∨ 2 ^ x.log2 < (v - x.prod).toNat)) ∧
  (∃ (fn r : Nat) (v : W32) (s : State) (x : Ring), fn < 2 ∧ ringExists fn r = true ∧ x = ringGet s fn r ∧ x.en = true ∧ x.stopped = false
    ∧ hostProduced r = false ∧ (v - x.cons).toNat ≤ (x.prod - x.cons).toNat) ∧
  (∃ (fn r : Nat) (v : W32) (s : State) (x : Ring), fn < 2 ∧ ringExists fn r = true ∧ x = ringGet s fn r ∧ x.en = true ∧ x.stopped = false
    ∧ hostProduced r = false ∧ (x.prod - x.cons).toNat < (v - x.cons).toNat) ∧
  (∃ (fn r : Nat) (s : State), fn < 2 ∧ (ringExists fn r = false ∨ (ringGet s fn r).en = false ∨ (ringGet s fn r).stopped = true)) :=
  ⟨⟨0, 0, 64, rdy, _, (by decide +kernel), (by decide +kernel), rfl, (by decide +kernel), (by decide +kernel), (by decide +kernel),
    (by decide +kernel), (by decide +kernel)⟩,
  ⟨1, 0, 65, rdy, _, (by decide +kernel), (by decide +kernel), rfl, (by decide +kernel), (by decide +kernel), (by decide +kernel),
    (by decide +kernel)⟩,
  ⟨0, 14, 0, rdy, _, (by decide +kernel), (by decide +kernel), rfl, (by decide +kernel), (by decide +kernel), (by decide +kernel),
    (by decide +kernel)⟩,
  ⟨1, 4, 1, rdy, _, (by decide +kernel), (by decide +kernel), rfl, (by decide +kernel), (by decide +kernel), (by decide +kernel),
    (by decide +kernel)⟩,
  ⟨1, 14, rdy, (by decide +kernel), (by decide +kernel)⟩⟩

/-- States and operands that meet the hypotheses of each clause of `RingControlStartsAndStopsRings`. -/
theorem witness_RingControlStartsAndStopsRings :
  (∃ (fn r : Nat) (a : RegW) (s : State) (x z : Ring), fn < 2 ∧ ringExists fn r = true ∧ Writes (ringOff fn r + 8) a s ∧ x = ringGet s fn
    r ∧ x.en = false ∧ bitOf a.val 31 = true ∧ z =
    { x with en := true, log2 := fld a.val 28 24, slot := fld a.val 23 22, cpl := fld a.val 19 18, vector := fld a.val 13 8, irqEn := bitOf a.val 7, prod := 0, cons := 0, stopped := false, cause := 0, unsignalled := 0 }
    ∧ 6 ≤ fld a.val 28 24 ∧ fld a.val 28 24 ≤ 16) ∧
  (∃ (fn r : Nat) (a : RegW) (s : State) (x z : Ring), fn < 2 ∧ ringExists fn r = true ∧ Writes (ringOff fn r + 8) a s ∧ x = ringGet s fn
    r ∧ x.en = false ∧ bitOf a.val 31 = true ∧ z =
    { x with en := true, log2 := fld a.val 28 24, slot := fld a.val 23 22, cpl := fld a.val 19 18, vector := fld a.val 13 8, irqEn := bitOf a.val 7, prod := 0, cons := 0, stopped := false, cause := 0, unsignalled := 0 }
    ∧ (fld a.val 28 24 < 6 ∨ 16 < fld a.val 28 24)) ∧
  (∃ (fn r : Nat) (a : RegW) (s : State) (x : Ring), fn < 2 ∧ ringExists fn r = true ∧ Writes (ringOff fn r + 8) a s ∧ x = ringGet s fn r
    ∧ x.en = true) ∧
  (∃ (fn r : Nat) (a : RegW) (s : State) (x : Ring), fn < 2 ∧ ringExists fn r = true ∧ Writes (ringOff fn r + 8) a s ∧ x = ringGet s fn r
    ∧ x.en = false ∧ bitOf a.val 31 = false) :=
  ⟨⟨0, 13, wr 0x90000000, rdy, _, _, (by decide +kernel), (by decide +kernel), (by decide +kernel), rfl, (by decide +kernel),
    (by decide +kernel), rfl, (by decide +kernel), (by decide +kernel)⟩,
  ⟨1, 13, { wr 0x91000000 with init := 1 }, rdy, _, _, (by decide +kernel), (by decide +kernel), (by decide +kernel), rfl,
    (by decide +kernel), (by decide +kernel), rfl, (by decide +kernel)⟩,
  ⟨0, 14, wr 0, rdy, _, (by decide +kernel), (by decide +kernel), (by decide +kernel), rfl, (by decide +kernel)⟩,
  ⟨0, 9, wr 0, rdy, _, (by decide +kernel), (by decide +kernel), (by decide +kernel), rfl, (by decide +kernel), (by decide +kernel)⟩⟩

/-- States and operands that meet the hypotheses of each clause of `PacketsOutAndStampsInOrder`. -/
theorem witness_PacketsOutAndStampsInOrder :
  (∃ (fn r : Nat) (s : State) (x : Ring), fn < 2 ∧ x = ringGet s fn r ∧ deviceProduced fn r = true ∧ x.irqEn = true ∧ x.unsignalled ≠ 0 ∧
    x.firstAt + x.modTime * 1000 ≤ t2Ns s) ∧
  (∃ (fn ring : Nat) (d : PacketOut) (s s1 : State) (x : Ring) (w0 w1 : W32) (done : Nat → Nat → State) (f : _), fn < 2 ∧ ring < 2 ∧
    pktoutEligible s fn (10 + ring) = true ∧ x = ringGet s fn (10 + ring) ∧ s1 = ringSet s fn (10 + ring) { x with cons := x.cons + 1 } ∧
    w0 = wd d.words 0 ∧ w1 = wd d.words 1 ∧ (∀ st det, done st det = ringWrite fn (cplRing s1 fn (10 + ring)) (cplWords (BitVec.ofNat 16
    (fld w0 31 16)) st (10 + ring) 0xFFFE 0xFFFFFFFF (x.cons + 1) (w32 det) []) false s1) ∧ d.frame = some f ∧ (fn = 0 ∨ bitOf w0 12 =
    false) ∧ 60 ≤ fld w1 15 0 ∧ fld w1 15 0 ≤ 9596 ∧ (netGet s (fld w0 15 13)).en = true) ∧
  (∃ (fn ring : Nat) (d : PacketOut) (s s1 : State) (x : Ring) (w0 w1 : W32) (done : Nat → Nat → State), fn < 2 ∧ ring < 2 ∧
    pktoutEligible s fn (10 + ring) = true ∧ x = ringGet s fn (10 + ring) ∧ s1 = ringSet s fn (10 + ring) { x with cons := x.cons + 1 } ∧
    w0 = wd d.words 0 ∧ w1 = wd d.words 1 ∧ (∀ st det, done st det = ringWrite fn (cplRing s1 fn (10 + ring)) (cplWords (BitVec.ofNat 16
    (fld w0 31 16)) st (10 + ring) 0xFFFE 0xFFFFFFFF (x.cons + 1) (w32 det) []) false s1) ∧ fn = 1 ∧ bitOf w0 12 = true) ∧
  (∃ (fn ring : Nat) (d : PacketOut) (s s1 : State) (x : Ring) (w0 w1 : W32) (done : Nat → Nat → State), fn < 2 ∧ ring < 2 ∧
    pktoutEligible s fn (10 + ring) = true ∧ x = ringGet s fn (10 + ring) ∧ s1 = ringSet s fn (10 + ring) { x with cons := x.cons + 1 } ∧
    w0 = wd d.words 0 ∧ w1 = wd d.words 1 ∧ (∀ st det, done st det = ringWrite fn (cplRing s1 fn (10 + ring)) (cplWords (BitVec.ofNat 16
    (fld w0 31 16)) st (10 + ring) 0xFFFE 0xFFFFFFFF (x.cons + 1) (w32 det) []) false s1) ∧ (fn = 0 ∨ bitOf w0 12 = false) ∧ (netGet s
    (fld w0 15 13)).en = false) ∧
  (∃ (fn ring : Nat) (d : PacketOut) (s s1 : State) (x : Ring) (w0 w1 : W32) (done : Nat → Nat → State), fn < 2 ∧ ring < 2 ∧
    pktoutEligible s fn (10 + ring) = true ∧ x = ringGet s fn (10 + ring) ∧ s1 = ringSet s fn (10 + ring) { x with cons := x.cons + 1 } ∧
    w0 = wd d.words 0 ∧ w1 = wd d.words 1 ∧ (∀ st det, done st det = ringWrite fn (cplRing s1 fn (10 + ring)) (cplWords (BitVec.ofNat 16
    (fld w0 31 16)) st (10 + ring) 0xFFFE 0xFFFFFFFF (x.cons + 1) (w32 det) []) false s1) ∧ (fn = 0 ∨ bitOf w0 12 = false) ∧ (netGet s
    (fld w0 15 13)).en = true ∧ (fld w1 15 0 < 60 ∨ 9596 < fld w1 15 0)) ∧
  (∃ (fn ring : Nat) (d : PacketOut) (s s1 : State) (x : Ring) (w0 w1 : W32) (done : Nat → Nat → State), fn < 2 ∧ ring < 2 ∧
    pktoutEligible s fn (10 + ring) = true ∧ x = ringGet s fn (10 + ring) ∧ s1 = ringSet s fn (10 + ring) { x with cons := x.cons + 1 } ∧
    w0 = wd d.words 0 ∧ w1 = wd d.words 1 ∧ (∀ st det, done st det = ringWrite fn (cplRing s1 fn (10 + ring)) (cplWords (BitVec.ofNat 16
    (fld w0 31 16)) st (10 + ring) 0xFFFE 0xFFFFFFFF (x.cons + 1) (w32 det) []) false s1) ∧ d.frame = none ∧ (fn = 0 ∨ bitOf w0 12 =
    false) ∧ 60 ≤ fld w1 15 0 ∧ fld w1 15 0 ≤ 9596 ∧ (netGet s (fld w0 15 13)).en = true) ∧
  (∃ (fn ring : Nat) (s : State), fn < 2 ∧ ring < 2 ∧ pktoutEligible s fn (10 + ring) = true) ∧
  (∃ (fn ring : Nat) (s : State), fn < 2 ∧ ring < 2 ∧ pktoutEligible s fn (10 + ring) = false) ∧
  (∃ (p : Nat) (s : State), p < 8 ∧ ((netGet s p).en = false ∨ (netGet s p).up = false)) ∧
  (∃ (p r : Nat) (s s1 : State) (f : TxFrame), p < 8 ∧ (netGet s p).en = true ∧ (netGet s p).up = true ∧ txNextRing s p = some r ∧
    (s.net.tx.find? fun t => t.port == p && t.ring == r) = some f ∧ s1 = send (.ethSend p (withFcs f.frame))
    { s with net := { s.net with tx := s.net.tx.erase f }, hif := { s.hif with txLast := tset p r s.hif.txLast } } ∧ f.ts = none) ∧
  (∃ (p r : Nat) (st : StampNs) (s s1 : State) (f : TxFrame) (base ident ns : _), p < 8 ∧ (netGet s p).en = true ∧ (netGet s p).up = true
    ∧ txNextRing s p = some r ∧ (s.net.tx.find? fun t => t.port == p && t.ring == r) = some f ∧ s1 = send (.ethSend p (withFcs f.frame))
    { s with net := { s.net with tx := s.net.tx.erase f }, hif := { s.hif with txLast := tset p r s.hif.txLast } } ∧ f.ts = some (base,
    ident) ∧ ns = tbNs (tbGet s.tb base) + st.ns) ∧
  (∃ (q : Nat) (a : RegR) (s : State), q < 9 ∧ Reads (0x2800 + 0x20 * q) a s ∧ (txqGet s q).q = []) ∧
  (∃ (q : Nat) (a : RegR) (s : State) (e rest : _), q < 9 ∧ Reads (0x2800 + 0x20 * q) a s ∧ (txqGet s q).q = e :: rest) :=
  ⟨⟨0, 4, { rdy with hif := { rdy.hif with fn0 := { rings := [(4, { ringIn with irqEn := true, unsignalled := 1 })] } } }, _,
    (by decide +kernel), rfl, (by decide +kernel), (by decide +kernel), (by decide +kernel), (by decide +kernel)⟩,
  ⟨0, 0, { words := [0, 60], frame := some [] }, { rdy with net := { rdy.net with ports := [(0, { en := true })] } }, _, _, _, _, _, ([] :
    List Byte), (by decide +kernel), (by decide +kernel), (by decide +kernel), rfl, rfl, rfl, rfl, (fun _ _ => rfl), (by decide +kernel),
    (by decide +kernel), (by decide +kernel), (by decide +kernel), (by decide +kernel)⟩,
  ⟨1, 0, { words := [0x1000, 60], frame := some [] }, rdy, _, _, _, _, _, (by decide +kernel), (by decide +kernel), (by decide +kernel),
    rfl, rfl, rfl, rfl, (fun _ _ => rfl), (by decide +kernel), (by decide +kernel)⟩,
  ⟨0, 0, { words := [0, 60], frame := some [] }, rdy, _, _, _, _, _, (by decide +kernel), (by decide +kernel), (by decide +kernel), rfl,
    rfl, rfl, rfl, (fun _ _ => rfl), (by decide +kernel), (by decide +kernel)⟩,
  ⟨0, 0, { words := [0, 59], frame := some [] }, { rdy with net := { rdy.net with ports := [(0, { en := true })] } }, _, _, _, _, _,
    (by decide +kernel), (by decide +kernel), (by decide +kernel), rfl, rfl, rfl, rfl, (fun _ _ => rfl), (by decide +kernel),
    (by decide +kernel), (by decide +kernel)⟩,
  ⟨0, 0, { words := [0, 9596], frame := none }, { rdy with net := { rdy.net with ports := [(0, { en := true })] } }, _, _, _, _, _,
    (by decide +kernel), (by decide +kernel), (by decide +kernel), rfl, rfl, rfl, rfl, (fun _ _ => rfl), (by decide +kernel),
    (by decide +kernel), (by decide +kernel), (by decide +kernel), (by decide +kernel)⟩,
  ⟨1, 0, { rdy with net := { rdy.net with ports := [(0, { en := true })] } }, (by decide +kernel), (by decide +kernel),
    (by decide +kernel)⟩,
  ⟨1, 1, rdy, (by decide +kernel), (by decide +kernel), (by decide +kernel)⟩,
  ⟨7, rdy, (by decide +kernel), (by decide +kernel)⟩,
  ⟨7, 3, { rdy with net := { rdy.net with ports := [(7, { en := true, up := true })], tx := [{ port := 7, ring := 3, frame := [] }] } },
    _, { port := 7, ring := 3, frame := [] }, (by decide +kernel), (by decide +kernel), (by decide +kernel), (by decide +kernel),
    (by decide +kernel), rfl, (by decide +kernel)⟩,
  ⟨7, _, {},
    { rdy with net := { rdy.net with ports := [(7, { en := true, up := true })], tx := [{ port := 7, ring := 3, frame := [], ts := some (1, 5) }] } },
    _, { port := 7, ring := 3, frame := [], ts := some (1, 5) }, 1, (5 : W16), _, (by decide +kernel), (by decide +kernel),
    (by decide +kernel), (Option.some_get (by decide +kernel)).symm, (by decide +kernel), rfl, (by decide +kernel), rfl⟩,
  ⟨8, { init := 0 }, rdy, (by decide +kernel), (by decide +kernel), (by decide +kernel)⟩,
  ⟨8, { init := 0 }, { rdy with tb := { rdy.tb with txq := [(8, { q := [{ ident := 1, tbase := 0, nsq := 0, sec := 0 }] })] } },
    ({ ident := 1, tbase := 0, nsq := 0, sec := 0 } : TxStamp), ([] : List TxStamp), (by decide +kernel), (by decide +kernel),
    (by decide +kernel)⟩⟩

/-- States and operands that meet the hypotheses of each clause of `FunctionResetsTouchOnlyTheHostInterface`. -/
theorem witness_FunctionResetsTouchOnlyTheHostInterface :
  (∃ (fn : Nat), fn < 2) :=
  ⟨1, (by decide +kernel)⟩

/-- States and operands that meet the hypotheses of each clause of `MaintenancePortTakesOneCommandAtATime`. -/
theorem witness_MaintenancePortTakesOneCommandAtATime :
  (∃ (ip : W32) (p : W16) (bs : List Byte) (io : CmdIn) (s s1 : State) (ws : List W32) (c : Cmd), bs.length = 64 ∧ ws = bytesWords bs ∧ c
    = cmdOf .maint 0 (.udp ip p) ws io ∧ maintHears s = true ∧ s1 = { s with hif := { s.hif with maintWait := some (opcodeOf ws, c) } } ∧
    maintBusy s = true) ∧
  (∃ (ip : W32) (p : W16) (bs : List Byte) (io : CmdIn) (s s1 : State) (ws : List W32) (c : Cmd), bs.length = 64 ∧ ws = bytesWords bs ∧ c
    = cmdOf .maint 0 (.udp ip p) ws io ∧ maintHears s = true ∧ s1 = { s with hif := { s.hif with maintWait := some (opcodeOf ws, c) } } ∧
    maintBusy s = false ∧ commandsTaken s = true ∧ deviceFree s = true ∧ placeNext s1 = some 8) ∧
  (∃ (ip : W32) (p : W16) (bs : List Byte) (io : CmdIn) (s s1 : State) (ws : List W32) (c : Cmd), bs.length = 64 ∧ ws = bytesWords bs ∧ c
    = cmdOf .maint 0 (.udp ip p) ws io ∧ maintHears s = true ∧ s1 = { s with hif := { s.hif with maintWait := some (opcodeOf ws, c) } } ∧
    maintBusy s = false ∧ (commandsTaken s = false ∨ deviceFree s = false ∨ placeNext s1 ≠ some 8)) ∧
  (∃ (bs : List Byte), bs.length ≠ 64) ∧
  (∃ (line bs : List Byte) (s : State), uartBytes line = some bs ∧ maintHears s = true) ∧
  (∃ (line : List Byte) (s : State), uartBytes line = none ∧ maintHears s = true) ∧
  (∃ (s : State), maintAnswers s = true) ∧
  (∃ (s : State), maintAnswers s = true) :=
  ⟨⟨0, 0, List.replicate 64 0, {}, { rdy with hif := { rdy.hif with maintWait := some (0, cmd .maint []) } }, _, _, _, (by decide +kernel),
    rfl, rfl, (by decide +kernel), rfl, (by decide +kernel)⟩,
  ⟨0, 0, List.replicate 64 0, {}, { rdy with hif := { rdy.hif with lastServed := 7 } }, _, _, _, (by decide +kernel), rfl, rfl,
    (by decide +kernel), rfl, (by decide +kernel), (by decide +kernel), (by decide +kernel), (by decide +kernel)⟩,
  ⟨0, 0, List.replicate 64 0, {}, rdy, _, _, _, (by decide +kernel), rfl, rfl, (by decide +kernel), rfl, (by decide +kernel),
    (by decide +kernel)⟩,
  ⟨[], (by decide +kernel)⟩,
  ⟨0x43 :: 0x20 :: List.replicate 128 0x30, List.replicate 64 0, rdy, (by decide +kernel), (by decide +kernel)⟩,
  ⟨[], rdy, (by decide +kernel), (by decide +kernel)⟩,
  ⟨rdy, (by decide +kernel)⟩,
  ⟨rdy, (by decide +kernel)⟩⟩

/-- States and operands that meet the hypotheses of each clause of `RegisterAccessesByPath`. -/
theorem witness_RegisterAccessesByPath :
  (∃ (off : Nat) (a : RegW) (s : State), regPeek off a.init s = none) ∧
  (∃ (a : RegW), a.path = .peek) ∧
  (∃ (off : Nat) (a : RegW) (s : State), (regPeek off a.init s).isSome = true ∧ a.path ≠ .peek ∧ judgeReg a.init off true s ≠ .pass) ∧
  (∃ (off : Nat) (a : RegW) (s : State), (regPeek off a.init s).isSome = true ∧ Writes off a s) ∧
  (∃ (off : Nat) (a : RegW) (s : State), (regPeek off a.init s).isSome = true ∧ a.path ≠ .peek ∧ a.beFull = false ∧ judgeReg a.init off
    true s = .pass) ∧
  (∃ (off b : Nat) (a : RegW) (s : State) (cur : W32), regPeek off a.init s = some cur ∧ a.path = .bar1 b ∧ b < 32 ∧ a.beFull = true ∧
    judgeReg a.init off true s = .pass ∧ (wideLow off = true ∨ wideHigh off = true)) ∧
  (∃ (off b : Nat) (a : RegW) (s : State) (cur : W32), regPeek off a.init s = some cur ∧ a.path = .bar1 b ∧ b < 32 ∧ a.beFull = true ∧
    judgeReg a.init off true s = .pass ∧ wideLow off = false ∧ wideHigh off = false ∧ bitOf (regBits off s).rw b = true) ∧
  (∃ (off : Nat) (a : RegR) (s : State) (v : W32), regPeek off a.init s = some v ∧ judgeReg a.init off false s = .pass ∧ (a.path = .peek ∨
    a.beFull = false)) ∧
  (∃ (off : Nat) (a : RegR) (s : State) (v : W32) (b : _), regPeek off a.init s = some v ∧ judgeReg a.init off false s = .pass ∧ a.path =
    .bar1 b ∧ b < 32 ∧ a.beFull = true) ∧
  (∃ (off : Nat) (a : RegR) (s : State) (v : W32), regPeek off a.init s = some v ∧ judgeReg a.init off false s = .pass ∧ a.path = .bar0 ∧
    a.beFull = true ∧ isTxqId off = false ∧ wideLow off = false ∧ wideHigh off = false) ∧
  (∃ (off : Nat) (a : RegR) (s : State) (v : W32), regPeek off a.init s = some v ∧ judgeReg a.init off false s = .pass ∧ a.path = .bar0 ∧
    a.beFull = true ∧ isTxqId off = false ∧ wideLow off = true) ∧
  (∃ (off : Nat) (a : RegR) (s : State) (v : W32), regPeek off a.init s = some v ∧ judgeReg a.init off false s = .pass ∧ a.path = .bar0 ∧
    a.beFull = true ∧ isTxqId off = false ∧ wideLow off = false ∧ wideHigh off = true) ∧
  (∃ (off : Nat) (a : RegR) (s : State), (regPeek off a.init s).isSome = true ∧ judgeReg a.init off false s ≠ .pass) ∧
  (∃ (off : Nat) (a : RegR) (s : State), regPeek off a.init s = none) :=
  ⟨⟨0xFFFC, wr 0, rdy, (by decide +kernel)⟩,
  ⟨{ wr 0 with path := .peek }, (by decide +kernel)⟩,
  ⟨0x2000, { wr 0 with init := 1 }, rdy, (by decide +kernel), (by decide +kernel), (by decide +kernel)⟩,
  ⟨0x2400, wr 0, rdy, (by decide +kernel), (by decide +kernel)⟩,
  ⟨0x2400, { wr 0 with beFull := false }, rdy, (by decide +kernel), (by decide +kernel), (by decide +kernel), (by decide +kernel)⟩,
  ⟨0x2008, 31, { wr 0 with path := .bar1 31 }, rdy, _, (Option.some_get (by decide +kernel)).symm, (by decide +kernel),
    (by decide +kernel), (by decide +kernel), (by decide +kernel), (by decide +kernel)⟩,
  ⟨0x2000, 4, { wr 0 with path := .bar1 4 }, rdy, _, (Option.some_get (by decide +kernel)).symm, (by decide +kernel), (by decide +kernel),
    (by decide +kernel), (by decide +kernel), (by decide +kernel), (by decide +kernel), (by decide +kernel)⟩,
  ⟨0x2400, { init := 0, path := .peek }, rdy, _, (Option.some_get (by decide +kernel)).symm, (by decide +kernel), (by decide +kernel)⟩,
  ⟨0x2400, { init := 0, path := .bar1 31 }, rdy, _, 31, (Option.some_get (by decide +kernel)).symm, (by decide +kernel),
    (by decide +kernel), (by decide +kernel), (by decide +kernel)⟩,
  ⟨0x2400, { init := 0 }, rdy, _, (Option.some_get (by decide +kernel)).symm, (by decide +kernel), (by decide +kernel),
    (by decide +kernel), (by decide +kernel), (by decide +kernel), (by decide +kernel)⟩,
  ⟨0x2008, { init := 0 }, rdy, _, (Option.some_get (by decide +kernel)).symm, (by decide +kernel), (by decide +kernel),
    (by decide +kernel), (by decide +kernel), (by decide +kernel)⟩,
  ⟨0x200C, { init := 0 }, rdy, _, (Option.some_get (by decide +kernel)).symm, (by decide +kernel), (by decide +kernel),
    (by decide +kernel), (by decide +kernel), (by decide +kernel), (by decide +kernel)⟩,
  ⟨0xA000, { init := 0 }, { rdy with pwr := { rdy.pwr with domains := 0 } }, (by decide +kernel), (by decide +kernel)⟩,
  ⟨0xFFFC, { init := 0 }, rdy, (by decide +kernel)⟩⟩

/-- States and operands that meet the hypotheses of each clause of `MergedRefusalsAreCountedOnce`. -/
theorem witness_MergedRefusalsAreCountedOnce :
  (∃ (k : WindowKey) (s : State), windowFind k s.hif.windows = none) ∧
  (∃ (k : WindowKey) (s : State) (x : MergeWin), windowFind k s.hif.windows = some x) ∧
  (∃ (k : WindowKey) (s s1 : State) (x : MergeWin), windowFind k s.hif.windows = some x ∧ s1 =
    { s with hif := { s.hif with windows := s.hif.windows.filter fun y => y.key != k } } ∧ t2Ns s < x.openedAt + 10000000) ∧
  (∃ (k : WindowKey) (s s1 : State) (x : MergeWin), windowFind k s.hif.windows = some x ∧ s1 =
    { s with hif := { s.hif with windows := s.hif.windows.filter fun y => y.key != k } } ∧ x.openedAt + 10000000 ≤ t2Ns s ∧ x.count = 0) ∧
  (∃ (k : WindowKey) (s s1 : State) (x : MergeWin), windowFind k s.hif.windows = some x ∧ s1 =
    { s with hif := { s.hif with windows := s.hif.windows.filter fun y => y.key != k } } ∧ x.openedAt + 10000000 ≤ t2Ns s ∧ x.count ≠ 0) :=
  ⟨⟨.cvu 3, rdy, (by decide +kernel)⟩,
  ⟨.cvu 3, { rdy with hif := { rdy.hif with windows := [{ key := .cvu 3, openedAt := 0 }] } }, _, (Option.some_get
    (by decide +kernel)).symm⟩,
  ⟨.cvu 3, atTime 9999999 { rdy with hif := { rdy.hif with windows := [{ key := .cvu 3, openedAt := 0 }] } }, _, _, (Option.some_get
    (by decide +kernel)).symm, rfl, (by decide +kernel)⟩,
  ⟨.cvu 3, atTime 10000000 { rdy with hif := { rdy.hif with windows := [{ key := .cvu 3, openedAt := 0 }] } }, _, _, (Option.some_get
    (by decide +kernel)).symm, rfl, (by decide +kernel), (by decide +kernel)⟩,
  ⟨.cvu 3, atTime 10000000 { rdy with hif := { rdy.hif with windows := [{ key := .cvu 3, openedAt := 0, count := 1 }] } }, _, _,
    (Option.some_get (by decide +kernel)).symm, rfl, (by decide +kernel), (by decide +kernel)⟩⟩

/-- States and operands that meet the hypotheses of each clause of `AWriteToOneTimeBaseChangesNoOther`. -/
theorem witness_AWriteToOneTimeBaseChangesNoOther :
  (∃ (n m : Nat) (a : RegW) (s t : State), n < 4 ∧ m < 4 ∧ m ≠ n ∧ (exec (.tbIncCommit n a) s = .next t ∨ exec (.tbStepCommit n a) s =
    .next t ∨ exec (.tbLoad n a) s = .next t ∨ exec (.tbStepOvr n a) s = .next t ∨ (∃ off, 0x2000 + 0x100 * n ≤ off ∧ off < 0x2100 + 0x100
    * n ∧ exec (.registerWrite off a) s = .next t))) ∧
  (∃ (m : Nat), m < 4) ∧
  (∃ (a : RegW) (s t : State), (exec (.tbStepCommit 2 a) s = .next t ∨ exec (.tbLoad 2 a) s = .next t)) :=
  ⟨⟨3, 0, wr 0, rdy, rdy, (by decide +kernel), (by decide +kernel), (by decide +kernel), (.inr (.inr (.inr (.inr ⟨0x23FC, by decide, by
    decide, rfl⟩))))⟩,
  ⟨3, (by decide +kernel)⟩,
  ⟨wr 0, rdy, nextOf (exec (.tbStepCommit 2 (wr 0)) rdy), (.inl rfl)⟩⟩

/-- States and operands that meet the hypotheses of each clause of `ATickAddsTheIncrement`. -/
theorem witness_ATickAddsTheIncrement :
  (∃ (n : Nat) (t : TimeBase), t.Sound n ∧ t.ops = [] ∧ t.incNext = none ∧ t.sec.toNat + 1 < 2 ^ 64) ∧
  (∃ (s : State), s.boot.resetN = true ∧ s.pwr.state ≠ .off ∧ s.pwr.state ≠ .deepSleep ∧ s.tb.t0.ops = []) :=
  ⟨⟨3, { ns := 999999999, frac := 0xFFFFFFFF, inc := 0x200000000 }, (⟨by decide, by decide, by decide, (fun _ h => by cases h),
    (fun _ _ _ _ _ h => by cases h)⟩), (by decide +kernel), (by decide +kernel), (by decide +kernel)⟩,
  ⟨rdy, (by decide +kernel), (by decide +kernel), (by decide +kernel), (by decide +kernel)⟩⟩

/-- States and operands that meet the hypotheses of each clause of `StepsLoadsAndIncrements`. -/
theorem witness_StepsLoadsAndIncrements :
  (∃ (a : RegW) (s : State), Writes 0x2400 a s ∧ bitOf a.val 0 = true) ∧
  (∃ (n : Nat) (a : RegW) (s s1 : State) (t : TimeBase) (v : Nat), n < 4 ∧ Writes (0x200C + 0x100 * n) a s ∧ t = tbGet s.tb n ∧ v = w64of
    (commitLo a.init (0x2008 + 0x100 * n) (t.inc.setWidth 32) s) a.val ∧ s1 = dropLo a.init (0x2008 + 0x100 * n) s ∧ incOk n v = true) ∧
  (∃ (n : Nat) (a : RegW) (s s1 : State) (t : TimeBase) (v : Nat), n < 4 ∧ Writes (0x200C + 0x100 * n) a s ∧ t = tbGet s.tb n ∧ v = w64of
    (commitLo a.init (0x2008 + 0x100 * n) (t.inc.setWidth 32) s) a.val ∧ s1 = dropLo a.init (0x2008 + 0x100 * n) s ∧ incOk n v = false) ∧
  (∃ (n : Nat) (a : RegW) (s s1 : State) (t t1 : TimeBase) (lo : W32) (d : Int), n < 4 ∧ n ≠ 2 ∧ Writes (0x2034 + 0x100 * n) a s ∧ t =
    tbGet s.tb n ∧ lo = commitLo a.init (0x2030 + 0x100 * n) t.stepLo s ∧ d = sext 64 (w64of lo a.val) ∧ t1 =
    { t with stepLo := lo, stepHi := a.val, ovrArmed := false } ∧ s1 = dropLo a.init (0x2030 + 0x100 * n) s ∧ d.natAbs ≤ t.thr.toNat *
    1000) ∧
  (∃ (n : Nat) (a : RegW) (s s1 : State) (t t1 : TimeBase) (lo : W32) (d : Int), n < 4 ∧ n ≠ 2 ∧ Writes (0x2034 + 0x100 * n) a s ∧ t =
    tbGet s.tb n ∧ lo = commitLo a.init (0x2030 + 0x100 * n) t.stepLo s ∧ d = sext 64 (w64of lo a.val) ∧ t1 =
    { t with stepLo := lo, stepHi := a.val, ovrArmed := false } ∧ s1 = dropLo a.init (0x2030 + 0x100 * n) s ∧ t.thr.toNat * 1000 <
    d.natAbs ∧ t.ovrArmed = true ∧ (n = 0 → t0MayJump s.pwr.mode = true)) ∧
  (∃ (n : Nat) (a : RegW) (s s1 : State) (t t1 : TimeBase) (lo : W32) (d : Int) (u : _), n < 4 ∧ n ≠ 2 ∧ Writes (0x2034 + 0x100 * n) a s ∧
    t = tbGet s.tb n ∧ lo = commitLo a.init (0x2030 + 0x100 * n) t.stepLo s ∧ d = sext 64 (w64of lo a.val) ∧ t1 =
    { t with stepLo := lo, stepHi := a.val, ovrArmed := false } ∧ s1 = dropLo a.init (0x2030 + 0x100 * n) s ∧ t.thr.toNat * 1000 <
    d.natAbs ∧ (t.ovrArmed = false ∨ (n = 0 ∧ t0MayJump s.pwr.mode = false)) ∧ u = raise 0x0B [pack [(31, 24, n), (23, 16, if t.ovrArmed
    then 2 else 1)], (BitVec.ofInt 64 d).setWidth 32, ((BitVec.ofInt 64 d) >>> 32).setWidth 32] (setTb n { t1 with stepRefused := true }
    s1)) ∧
  (∃ (a : RegW) (s s1 : State) (lo : W32), Writes 0x2234 a s ∧ lo = commitLo a.init 0x2230 s.tb.t2.stepLo s ∧ s1 = dropLo a.init 0x2230 s) ∧
  (∃ (n : Nat) (a : RegW) (s s1 : State) (t : TimeBase), n < 4 ∧ Writes (0x2000 + 0x100 * n) a s ∧ t =
    { tbGet s.tb n with ppsEn := bitOf a.val 4 } ∧ s1 = setTb n t s ∧ bitOf a.val 2 = true ∧ bitOf a.val 3 = false ∧ n ≠ 2 ∧ t.set = false
    ∧ t.ops = []) ∧
  (∃ (n : Nat) (a : RegW) (s s1 : State) (t : TimeBase), n < 4 ∧ Writes (0x2000 + 0x100 * n) a s ∧ t =
    { tbGet s.tb n with ppsEn := bitOf a.val 4 } ∧ s1 = setTb n t s ∧ bitOf a.val 2 = true ∧ bitOf a.val 3 = false ∧ n ≠ 2 ∧ t.set = true) ∧
  (∃ (n : Nat) (a : RegW) (s s1 : State) (t : TimeBase), n < 4 ∧ Writes (0x2000 + 0x100 * n) a s ∧ t =
    { tbGet s.tb n with ppsEn := bitOf a.val 4 } ∧ s1 = setTb n t s ∧ bitOf a.val 2 = true ∧ bitOf a.val 3 = false ∧ n = 2) ∧
  (∃ (n : Nat) (a : RegW) (s s1 : State) (t : TimeBase), n < 4 ∧ Writes (0x2000 + 0x100 * n) a s ∧ t =
    { tbGet s.tb n with ppsEn := bitOf a.val 4 } ∧ s1 = setTb n t s ∧ bitOf a.val 3 = true ∧ bitOf a.val 2 = false ∧ a.init = 0) ∧
  (∃ (n : Nat) (a : RegW) (s s1 : State) (t : TimeBase), n < 4 ∧ Writes (0x2000 + 0x100 * n) a s ∧ t =
    { tbGet s.tb n with ppsEn := bitOf a.val 4 } ∧ s1 = setTb n t s ∧ bitOf a.val 3 = true ∧ bitOf a.val 2 = false ∧ a.init ≠ 0) ∧
  (∃ (n : Nat) (s : State), n < 4 ∧ (tbGet s.tb n).ovrArmed = true ∧ (tbGet s.tb n).ovrAt + 1000000000 ≤ t2Ns s) ∧
  (∃ (n : Nat) (s : State), n < 4 ∧ ((tbGet s.tb n).ovrArmed = false ∨ t2Ns s < (tbGet s.tb n).ovrAt + 1000000000)) :=
  ⟨⟨wr 1, rdy, (by decide +kernel), (by decide +kernel)⟩,
  ⟨3, wr 2, rdy, _, _, _, (by decide +kernel), (by decide +kernel), rfl, rfl, rfl, (by decide +kernel)⟩,
  ⟨3, wr 3, rdy, _, _, _, (by decide +kernel), (by decide +kernel), rfl, rfl, rfl, (by decide +kernel)⟩,
  ⟨3, wr 0, rdy, _, _, _, _, _, (by decide +kernel), (by decide +kernel), (by decide +kernel), rfl, rfl, rfl, rfl, rfl,
    (by decide +kernel)⟩,
  ⟨0, wr 1, setTb 0 { tbGet rdy.tb 0 with ovrArmed := true } rdy, _, _, _, _, _, (by decide +kernel), (by decide +kernel),
    (by decide +kernel), rfl, rfl, rfl, rfl, rfl, (by decide +kernel), (by decide +kernel), (by decide +kernel)⟩,
  ⟨3, wr 1, rdy, _, _, _, _, _, _, (by decide +kernel), (by decide +kernel), (by decide +kernel), rfl, rfl, rfl, rfl, rfl,
    (by decide +kernel), (by decide +kernel), rfl⟩,
  ⟨wr 1, rdy, _, _, (by decide +kernel), rfl, rfl⟩,
  ⟨3, wr 4, rdy, _, _, (by decide +kernel), (by decide +kernel), rfl, rfl, (by decide +kernel), (by decide +kernel), (by decide +kernel),
    (by decide +kernel), (by decide +kernel)⟩,
  ⟨3, wr 4, setTb 3 { tbGet rdy.tb 3 with set := true } rdy, _, _, (by decide +kernel), (by decide +kernel), rfl, rfl,
    (by decide +kernel), (by decide +kernel), (by decide +kernel), (by decide +kernel)⟩,
  ⟨2, wr 4, rdy, _, _, (by decide +kernel), (by decide +kernel), rfl, rfl, (by decide +kernel), (by decide +kernel), (by decide +kernel)⟩,
  ⟨3, wr 8, rdy, _, _, (by decide +kernel), (by decide +kernel), rfl, rfl, (by decide +kernel), (by decide +kernel), (by decide +kernel)⟩,
  ⟨3, { wr 8 with init := 4 }, rdy, _, _, (by decide +kernel), (by decide +kernel), rfl, rfl, (by decide +kernel), (by decide +kernel),
    (by decide +kernel)⟩,
  ⟨3, setTb 3 { tbGet rdy.tb 3 with ovrArmed := true } (atTime 1000000000 rdy), (by decide +kernel), (by decide +kernel),
    (by decide +kernel)⟩,
  ⟨3, atTime 999999999 rdy, (by decide +kernel), (by decide +kernel)⟩⟩

/-- States and operands that meet the hypotheses of each clause of `T0StateFollowsItsTable`. -/
theorem witness_T0StateFollowsItsTable :
  (∃ (a : RegW) (s : State), Writes 0x2050 a s ∧ bitOf a.val 5 = false ∧ bitOf a.val 6 = false ∧ bitOf a.val 7 = true ∧ s.tb.state ≠
    .unset) ∧
  (∃ (a : RegW) (s : State), Writes 0x2050 a s ∧ bitOf a.val 5 = false ∧ bitOf a.val 6 = false ∧ bitOf a.val 7 = true ∧ s.tb.state =
    .unset) ∧
  (∃ (a : RegW) (s : State), Writes 0x2050 a s ∧ bitOf a.val 5 = false ∧ bitOf a.val 6 = true ∧ s.tb.state = .locked) ∧
  (∃ (a : RegW) (s : State), Writes 0x2050 a s ∧ bitOf a.val 5 = false ∧ bitOf a.val 6 = true ∧ s.tb.state ≠ .locked) ∧
  (∃ (a : RegW) (s : State), Writes 0x2050 a s ∧ bitOf a.val 5 = true ∧ s.tb.state ≠ .unset) ∧
  (∃ (a : RegW) (s : State), Writes 0x2050 a s ∧ bitOf a.val 5 = true ∧ s.tb.state = .unset) ∧
  (∃ (s : State), s.tb.state = .locked ∧ s.tb.servoAt + s.tb.servoTmo.toNat * 1000000 ≤ t2Ns s) ∧
  (∃ (s : State), (s.tb.state ≠ .locked ∨ t2Ns s < s.tb.servoAt + s.tb.servoTmo.toNat * 1000000)) ∧
  (∃ (s : State), s.tb.state = .holdover ∧ s.tb.holdLimit.toNat * 1000 < s.tb.e0.toNat + s.tb.refStab.toNat * (t2Ns s - s.tb.holdAt) /
    1000000000) ∧
  (∃ (s : State), (s.tb.state ≠ .holdover ∨ s.tb.e0.toNat + s.tb.refStab.toNat * (t2Ns s - s.tb.holdAt) / 1000000000 ≤
    s.tb.holdLimit.toNat * 1000)) ∧
  (∃ (new : T0State) (s : State), s.tb.state ≠ new) ∧
  (∃ (a : RegW) (s : State), Writes 0x2054 a s) :=
  ⟨⟨wr 0x80, atTime 0 rdy, (by decide +kernel), (by decide +kernel), (by decide +kernel), (by decide +kernel), (by decide +kernel)⟩,
  ⟨wr 0x80, rdy, (by decide +kernel), (by decide +kernel), (by decide +kernel), (by decide +kernel), (by decide +kernel)⟩,
  ⟨wr 0xC0, atTime 0 rdy, (by decide +kernel), (by decide +kernel), (by decide +kernel), (by decide +kernel)⟩,
  ⟨wr 0xC0, rdy, (by decide +kernel), (by decide +kernel), (by decide +kernel), (by decide +kernel)⟩,
  ⟨wr 0xE0, atTime 0 rdy, (by decide +kernel), (by decide +kernel), (by decide +kernel)⟩,
  ⟨wr 0xE0, rdy, (by decide +kernel), (by decide +kernel), (by decide +kernel)⟩,
  ⟨atTime 2000000000 rdy, (by decide +kernel), (by decide +kernel)⟩,
  ⟨atTime 1999999999 rdy, (by decide +kernel)⟩,
  ⟨setTb 2 { tbGet rdy.tb 2 with sec := 10001 } { rdy with tb := { rdy.tb with state := .holdover } }, (by decide +kernel),
    (by decide +kernel)⟩,
  ⟨setTb 2 { tbGet rdy.tb 2 with sec := 10000 } { rdy with tb := { rdy.tb with state := .holdover } }, (by decide +kernel)⟩,
  ⟨.locked, rdy, (by decide +kernel)⟩,
  ⟨wr 0xFFFFFFFF, rdy, (by decide +kernel)⟩⟩

/-- States and operands that meet the hypotheses of each clause of `FrameLockTakesParametersWhileDisabled`. -/
theorem witness_FrameLockTakesParametersWhileDisabled :
  (∃ (g : Nat) (a : RegW) (s : State) (x y : FrameLock), g < 8 ∧ Writes (0x2C00 + 0x20 * g) a s ∧ x = flGet s g ∧ y =
    { x with den1001 := bitOf a.val 0 } ∧ x.en = true) ∧
  (∃ (g : Nat) (a : RegW) (s : State) (x y : FrameLock), g < 8 ∧ Writes (0x2C00 + 0x20 * g) a s ∧ x = flGet s g ∧ y =
    { x with den1001 := bitOf a.val 0 } ∧ x.en = false ∧ bitOf a.val 31 = false) ∧
  (∃ (g : Nat) (a : RegW) (s : State) (x y : FrameLock), g < 8 ∧ Writes (0x2C00 + 0x20 * g) a s ∧ x = flGet s g ∧ y =
    { x with den1001 := bitOf a.val 0 } ∧ x.en = false ∧ bitOf a.val 31 = true ∧ flValid y = true) ∧
  (∃ (g : Nat) (a : RegW) (s : State) (x y : FrameLock), g < 8 ∧ Writes (0x2C00 + 0x20 * g) a s ∧ x = flGet s g ∧ y =
    { x with den1001 := bitOf a.val 0 } ∧ x.en = false ∧ bitOf a.val 31 = true ∧ flValid y = false) ∧
  (∃ (g : Nat) (p : FlParam) (a : RegW) (s : State), g < 8 ∧ Writes (0x2C00 + 0x20 * g + flParamOff p) a s ∧ (flGet s g).en = true) ∧
  (∃ (x : FrameLock) (t : Nat) (n : _), x.num ≠ 0 ∧ n < firstFrame x t) ∧
  (∃ (g : Nat) (a : RegW) (s : State) (x : FrameLock), g < 8 ∧ x = flGet s g ∧ x.en = false ∧ Writes (0x2C04 + 0x20 * g) a s) ∧
  (∃ (g : Nat) (a : RegW) (s : State) (x : FrameLock), g < 8 ∧ x = flGet s g ∧ x.en = false ∧ Writes (0x2C10 + 0x20 * g) a s) ∧
  (∃ (g : Nat) (a : RegW) (s : State) (x : FrameLock), g < 8 ∧ x = flGet s g ∧ x.en = false ∧ Writes (0x2C08 + 0x20 * g) a s) ∧
  (∃ (g : Nat) (a : RegW) (s : State) (x : FrameLock), g < 8 ∧ x = flGet s g ∧ x.en = false ∧ Writes (0x2C0C + 0x20 * g) a s) :=
  ⟨⟨7, wr 0, flSet 7 { en := true } rdy, _, _, (by decide +kernel), (by decide +kernel), rfl, rfl, (by decide +kernel)⟩,
  ⟨7, wr 1, rdy, _, _, (by decide +kernel), (by decide +kernel), rfl, rfl, (by decide +kernel), (by decide +kernel)⟩,
  ⟨7, wr 0x80000000, flSet 7 { num := 60 } rdy, _, _, (by decide +kernel), (by decide +kernel), rfl, rfl, (by decide +kernel),
    (by decide +kernel), (by decide +kernel)⟩,
  ⟨7, wr 0x80000000, rdy, _, _, (by decide +kernel), (by decide +kernel), rfl, rfl, (by decide +kernel), (by decide +kernel),
    (by decide +kernel)⟩,
  ⟨7, .originHi, wr 0, flSet 7 { en := true } rdy, (by decide +kernel), (by decide +kernel), (by decide +kernel)⟩,
  ⟨({ num := 60 } : FrameLock), 1000, 0, (by decide +kernel), (by decide +kernel)⟩,
  ⟨7, wr 60, rdy, _, (by decide +kernel), rfl, (by decide +kernel), (by decide +kernel)⟩,
  ⟨7, wr 60, rdy, _, (by decide +kernel), rfl, (by decide +kernel), (by decide +kernel)⟩,
  ⟨7, wr 60, rdy, _, (by decide +kernel), rfl, (by decide +kernel), (by decide +kernel)⟩,
  ⟨7, wr 60, rdy, _, (by decide +kernel), rfl, (by decide +kernel), (by decide +kernel)⟩⟩

/-- States and operands that meet the hypotheses of each clause of `CheckValueUnitsFollowTheirRules`. -/
theorem witness_CheckValueUnitsFollowTheirRules :
  (∃ (u : Nat) (a : RegW) (s t : State) (x y : Cvu), u < 4 ∧ Writes (0x7000 + 0x40 * u) a s ∧ x = cvuGet s u ∧ y =
    (if bitOf a.val 8 || fld a.val 1 0 != x.poly then { x with poly := fld a.val 1 0, acc := cvuInit (fld a.val 1 0), count := 0, fed := true } else x)
    ∧ t = cvuSet u { y with aliveEn := bitOf a.val 31, aliveSet := if bitOf a.val 31 && !x.aliveEn then false else x.aliveSet } s) ∧
  (∃ (u : Nat) (z : FeedSize) (a : RegW) (s : State) (x : Cvu) (bs : List Byte), u < 4 ∧ Writes (0x7000 + 0x40 * u + feedOff z) a s ∧ x =
    cvuGet s u ∧ bs =
    (match z with | .feed8 => [a.val.setWidth 8] | .feed16 => [a.val.setWidth 8, (a.val >>> 8).setWidth 8] | .feed32 => [a.val.setWidth 8, (a.val >>> 8).setWidth 8, (a.val >>> 16).setWidth 8, (a.val >>> 24).setWidth 8])) ∧
  (∃ (u v : Nat), u ≠ v) ∧
  (∃ (u : Nat) (a : RegW) (s : State) (x y : Cvu) (c : W16), u < 4 ∧ Writes (0x701C + 0x40 * u) a s ∧ x = cvuGet s u ∧ c = a.val.setWidth
    16 ∧ y = { x with alive := c, aliveAt := t2Ns s, expired := false } ∧ x.aliveEn = false) ∧
  (∃ (u : Nat) (a : RegW) (s : State) (x y : Cvu) (c : W16), u < 4 ∧ Writes (0x701C + 0x40 * u) a s ∧ x = cvuGet s u ∧ c = a.val.setWidth
    16 ∧ y = { x with alive := c, aliveAt := t2Ns s, expired := false } ∧ x.aliveEn = true ∧ x.aliveSet = false) ∧
  (∃ (u : Nat) (a : RegW) (s : State) (x y : Cvu) (c : W16), u < 4 ∧ Writes (0x701C + 0x40 * u) a s ∧ x = cvuGet s u ∧ c = a.val.setWidth
    16 ∧ y = { x with alive := c, aliveAt := t2Ns s, expired := false } ∧ x.aliveEn = true ∧ x.aliveSet = true ∧ c = x.alive + 1) ∧
  (∃ (u : Nat) (a : RegW) (s : State) (x y : Cvu) (c : W16), u < 4 ∧ Writes (0x701C + 0x40 * u) a s ∧ x = cvuGet s u ∧ c = a.val.setWidth
    16 ∧ y = { x with alive := c, aliveAt := t2Ns s, expired := false } ∧ x.aliveEn = true ∧ x.aliveSet = true ∧ c = x.alive) ∧
  (∃ (u : Nat) (a : RegW) (s : State) (x y : Cvu) (c : W16), u < 4 ∧ Writes (0x701C + 0x40 * u) a s ∧ x = cvuGet s u ∧ c = a.val.setWidth
    16 ∧ y = { x with alive := c, aliveAt := t2Ns s, expired := false } ∧ x.aliveEn = true ∧ x.aliveSet = true ∧ c ≠ x.alive ∧ c ≠ x.alive
    + 1) ∧
  (∃ (u : Nat) (s : State) (x : Cvu), u < 4 ∧ x = cvuGet s u ∧ x.aliveEn = true ∧ x.aliveSet = true ∧ x.aliveTmo ≠ 0 ∧ x.expired = false ∧
    x.aliveTmo ≤ (t2Ns s - x.aliveAt) / 1000000) ∧
  (∃ (u : Nat) (s : State) (x : Cvu), u < 4 ∧ x = cvuGet s u ∧ x.aliveEn = true ∧ x.aliveSet = true ∧ x.aliveTmo ≠ 0 ∧ (x.expired = true ∨
    (t2Ns s - x.aliveAt) / 1000000 < x.aliveTmo)) :=
  ⟨⟨3, wr 0x80000003, rdy, _, _, _, (by decide +kernel), (by decide +kernel), rfl, rfl, rfl⟩,
  ⟨3, .feed16, wr 0x11223344, rdy, _, _, (by decide +kernel), (by decide +kernel), rfl, rfl⟩,
  ⟨3, 0, (by decide +kernel)⟩,
  ⟨3, wr 1, rdy, _, _, _, (by decide +kernel), (by decide +kernel), rfl, rfl, rfl, (by decide +kernel)⟩,
  ⟨3, wr 1, cvuSet 3 { aliveEn := true } rdy, _, _, _, (by decide +kernel), (by decide +kernel), rfl, rfl, rfl, (by decide +kernel),
    (by decide +kernel)⟩,
  ⟨3, wr 0, cvuSet 3 { aliveEn := true, aliveSet := true, alive := 0xFFFF } rdy, _, _, _, (by decide +kernel), (by decide +kernel), rfl,
    rfl, rfl, (by decide +kernel), (by decide +kernel), (by decide +kernel)⟩,
  ⟨3, wr 0, cvuSet 3 { aliveEn := true, aliveSet := true } rdy, _, _, _, (by decide +kernel), (by decide +kernel), rfl, rfl, rfl,
    (by decide +kernel), (by decide +kernel), (by decide +kernel)⟩,
  ⟨3, wr 0, cvuSet 3 { aliveEn := true, aliveSet := true, alive := 1 } rdy, _, _, _, (by decide +kernel), (by decide +kernel), rfl, rfl,
    rfl, (by decide +kernel), (by decide +kernel), (by decide +kernel), (by decide +kernel)⟩,
  ⟨3, atTime 10000000 (cvuSet 3 { aliveEn := true, aliveSet := true, aliveTmo := 10 } rdy), _, (by decide +kernel), rfl,
    (by decide +kernel), (by decide +kernel), (by decide +kernel), (by decide +kernel), (by decide +kernel)⟩,
  ⟨3, atTime 9999999 (cvuSet 3 { aliveEn := true, aliveSet := true, aliveTmo := 10 } rdy), _, (by decide +kernel), rfl,
    (by decide +kernel), (by decide +kernel), (by decide +kernel), (by decide +kernel)⟩⟩

/-- States and operands that meet the hypotheses of each clause of `EnabledWindowsNeverAlias`. -/
theorem witness_EnabledWindowsNeverAlias :
  (∃ (ws : Tab MemWindow) (i j a b : Nat) (x y : MemWindow), WindowsLawful ws ∧ i < 8 ∧ j < 8 ∧ x = tget {} ws i ∧ y = tget {} ws j ∧ x.en
    = true ∧ y.en = true ∧ winBase x ≤ a ∧ a < winBase x + winSize x ∧ winBase y ≤ b ∧ b < winBase y + winSize y ∧ a ≠ b) :=
  ⟨winsTwo, 0, 7, 0, winBase { en := true, base := 4096, rowCount := 64, rowBase := 64 }, _, _, winsTwo_lawful, (by decide +kernel),
    (by decide +kernel), rfl, rfl, (by decide +kernel), (by decide +kernel), (by decide +kernel), (by decide +kernel),
    (by decide +kernel), (by decide +kernel), (by decide +kernel)⟩

/-- States and operands that meet the hypotheses of each clause of `AStackWriteIsReadBack`. -/
theorem witness_AStackWriteIsReadBack :
  (∃ (init port a : Nat) (bs : List Byte) (s s1 : State) (i : _), s.Good ∧ memoryOn s = true ∧ (∀ i, i < bs.length → ∃ p, unitFate s.mem
    init ((a + i) / 64 * 64) true = .served p) ∧ bs ≠ [] ∧ s1 = (request init port a bs.length (some bs) s).2.2 ∧ i < bs.length) ∧
  (∃ (init port a : Nat) (bs : List Byte) (s s1 : State) (b : _), s.Good ∧ memoryOn s = true ∧ (∀ i, i < bs.length → ∃ p, unitFate s.mem
    init ((a + i) / 64 * 64) true = .served p) ∧ bs ≠ [] ∧ s1 = (request init port a bs.length (some bs) s).2.2 ∧ (b < a ∨ a + bs.length ≤
    b)) :=
  ⟨⟨4, 0, winTop, [1], memRdy, _, 0, memRdy_good, (by decide +kernel), memRdy_served, (by decide +kernel), rfl, (by decide +kernel)⟩,
  ⟨4, 0, winTop, [1], memRdy, _, winTop + 1, memRdy_good, (by decide +kernel), memRdy_served, (by decide +kernel), rfl,
    (by decide +kernel)⟩⟩

/-- States and operands that meet the hypotheses of each clause of `RequestsWindowsAndRates`. -/
theorem witness_RequestsWindowsAndRates :
  (∃ (r : MemReq) (s : State), requestOk r = true ∧ memoryOn s = true ∧ portStalled (portRefill (portGet s.mem r.port) (t2Ns s)) (r.len /
    64) = false) ∧
  (∃ (r : MemReq) (s : State), requestOk r = true ∧ memoryOn s = false) ∧
  (∃ (r : MemReq) (s : State), (requestOk r = false ∨ (memoryOn s = true ∧ portStalled (portRefill (portGet s.mem r.port) (t2Ns s)) (r.len
    / 64) = true))) ∧
  (∃ (n : Nat) (a : RegW) (s : State) (x : MemWindow) (put : MemWindow → State), n < 8 ∧ Writes (0x5020 + 0x10 * n) a s ∧ x = winGet s.mem
    n ∧ (∀ y, put y = withMem s { s.mem with windows := tset n y s.mem.windows }) ∧ winMode s.pwr.mode = true ∧ x.en = false ∧ bitOf a.val
    31 = false) ∧
  (∃ (n : Nat) (a : RegW) (s : State) (x : MemWindow) (put : MemWindow → State), n < 8 ∧ Writes (0x5020 + 0x10 * n) a s ∧ x = winGet s.mem
    n ∧ (∀ y, put y = withMem s { s.mem with windows := tset n y s.mem.windows }) ∧ winMode s.pwr.mode = true ∧ x.en = false ∧ bitOf a.val
    31 = true ∧ winMayEnable s.mem n { x with order := fld a.val 1 0, en := true } = true) ∧
  (∃ (n : Nat) (a : RegW) (s : State) (x : MemWindow) (put : MemWindow → State), n < 8 ∧ Writes (0x5020 + 0x10 * n) a s ∧ x = winGet s.mem
    n ∧ (∀ y, put y = withMem s { s.mem with windows := tset n y s.mem.windows }) ∧ winMode s.pwr.mode = true ∧ x.en = true ∧ bitOf a.val
    31 = false) ∧
  (∃ (n : Nat) (a : RegW) (s : State) (x : MemWindow) (put : MemWindow → State), n < 8 ∧ Writes (0x5020 + 0x10 * n) a s ∧ x = winGet s.mem
    n ∧ (∀ y, put y = withMem s { s.mem with windows := tset n y s.mem.windows }) ∧ (winMode s.pwr.mode = false ∨ (bitOf a.val 31 = true ∧
    (x.en = true ∨ winMayEnable s.mem n { x with order := fld a.val 1 0, en := true } = false)))) ∧
  (∃ (p : Nat) (a : RegW) (s : State) (m : MemState), p < 24 ∧ Writes (0x5100 + 0x10 * p) a s ∧ m =
    { s.mem with ports := tset p { portRefill (portGet s.mem p) (t2Ns s) with guar := bitOf a.val 31, rate := fld a.val 15 0 } s.mem.ports }
    ∧ guarSum m ≤ 4500) ∧
  (∃ (p : Nat) (a : RegW) (s : State) (m : MemState), p < 24 ∧ Writes (0x5100 + 0x10 * p) a s ∧ m =
    { s.mem with ports := tset p { portRefill (portGet s.mem p) (t2Ns s) with guar := bitOf a.val 31, rate := fld a.val 15 0 } s.mem.ports }
    ∧ 4500 < guarSum m) :=
  ⟨⟨{ init := 4, port := 17, addr := 0, len := 64 }, memRdy, (by decide +kernel), (by decide +kernel), (by decide +kernel)⟩,
  ⟨{ init := 4, port := 17, addr := 0, len := 64 }, { memRdy with pwr := { memRdy.pwr with domains := 0 } }, (by decide +kernel),
    (by decide +kernel)⟩,
  ⟨{ init := 4, port := 24, addr := 0, len := 64 }, memRdy, (by decide +kernel)⟩,
  ⟨7, wr 2, rdy, _, _, (by decide +kernel), (by decide +kernel), rfl, (fun _ => rfl), (by decide +kernel), (by decide +kernel),
    (by decide +kernel)⟩,
  ⟨7, wr 0x80000001, withMem rdy { rdy.mem with windows := [(7, { rowCount := 64 })] }, _, _, (by decide +kernel), (by decide +kernel),
    rfl, (fun _ => rfl), (by decide +kernel), (by decide +kernel), (by decide +kernel), (by decide +kernel)⟩,
  ⟨0, wr 2, memRdy, _, _, (by decide +kernel), (by decide +kernel), rfl, (fun _ => rfl), (by decide +kernel), (by decide +kernel),
    (by decide +kernel)⟩,
  ⟨0, wr 0x80000000, memRdy, _, _, (by decide +kernel), (by decide +kernel), rfl, (fun _ => rfl), (by decide +kernel)⟩,
  ⟨23, wr 0x8000062C, rdy, _, (by decide +kernel), (by decide +kernel), rfl, (by decide +kernel)⟩,
  ⟨23, wr 0x8000062D, rdy, _, (by decide +kernel), (by decide +kernel), rfl, (by decide +kernel)⟩⟩

/-- States and operands that meet the hypotheses of each clause of `MemoryUpkeepTouchesItsCounters`. -/
theorem witness_MemoryUpkeepTouchesItsCounters :
  (∃ (pc : Nat) (s : State), pc < 32 ∧ s.mem.mcState = 2) ∧
  (∃ (temp : W16) (s s1 : State), s1 = withMem s { s.mem with temp := w32 temp.toNat, hot := decide (1360 < temp.toInt) } ∧ decide (1360 <
    temp.toInt) = s.mem.hot) ∧
  (∃ (temp : W16) (s s1 : State), s1 = withMem s { s.mem with temp := w32 temp.toNat, hot := decide (1360 < temp.toInt) } ∧ decide (1360 <
    temp.toInt) ≠ s.mem.hot) ∧
  (∃ (a : Nat) (w : MemWindow) (s : State) (pc : Nat) (e : Ecc), winOf s.mem a = some w ∧ bitOf s.mem.scrub 31 = true ∧ s.mem.mcState = 2
    ∧ pc = pcOf w a ∧ e = eccGet s.mem pc) ∧
  (∃ (s : State) (pc : Nat) (m1 : MemState), s.mem.mcState = 2 ∧ pc = s.mem.retrainNext ∧ m1 = { s.mem with retrainNext := (pc + 1) % 32 }
    ∧ tget 0 m1.retrainFails pc + 1 ≠ 3) ∧
  (∃ (s : State) (pc : Nat) (m1 : MemState), s.mem.mcState = 2 ∧ pc = s.mem.retrainNext ∧ m1 = { s.mem with retrainNext := (pc + 1) % 32 }
    ∧ tget 0 m1.retrainFails pc + 1 = 3) ∧
  (∃ (s : State), s.mem.mcState ≠ 2) ∧
  (∃ (s : State), s.mem.mcState ≠ 2) ∧
  (∃ (s : State), s.mem.mcState ≠ 2) :=
  ⟨⟨31, rdy, (by decide +kernel), (by decide +kernel)⟩,
  ⟨1360, rdy, _, rfl, (by decide +kernel)⟩,
  ⟨1361, rdy, _, rfl, (by decide +kernel)⟩,
  ⟨winTop, _, memRdy, _, _, (Option.some_get (by decide +kernel)).symm, (by decide +kernel), (by decide +kernel), rfl, rfl⟩,
  ⟨rdy, _, _, (by decide +kernel), rfl, rfl, (by decide +kernel)⟩,
  ⟨withMem rdy { rdy.mem with retrainNext := 31, retrainFails := [(31, 2)] }, _, _, (by decide +kernel), rfl, rfl, (by decide +kernel)⟩,
  ⟨State.reset, (by decide +kernel)⟩,
  ⟨State.reset, (by decide +kernel)⟩,
  ⟨State.reset, (by decide +kernel)⟩⟩

/-- States and operands that meet the hypotheses of each clause of `GateRulesAreStagedAndCommitted`. -/
theorem witness_GateRulesAreStagedAndCommitted :
  (∃ (c : Cmd) (s u : State) (g base limit : Nat) (r : Rule), u = takeCmd c s ∧ Taken 0x0900 c s ∧ g = fld (cw c 2) 4 0 ∧ g < 24 ∧ base =
    w64of (cw c 4) (cw c 5) ∧ limit = w64of (cw c 6) (cw c 7) ∧ (g < 8 → base % 64 = 0 ∧ (limit + 1) % 64 = 0 ∧ limit < 2 ^ 35 ∧ base ≤
    limit) ∧ (8 ≤ g → base % 4 = 0 ∧ base ≤ 0xFFF ∧ (limit + 1) % 4 = 0 ∧ limit ≤ 0xFFF) ∧ r =
    { valid := bitOf (cw c 9) 31, base := base, limit := limit, mask := cw c 8, wr := bitOf (cw c 9) 1, rd := bitOf (cw c 9) 0 }) ∧
  (∃ (c : Cmd) (s u : State), u = takeCmd c s ∧ Taken 0x0901 c s ∧ (∀ g ∈ gatesOf (cw c 2), bitOf (gatesPending s.mem) g = false) ∧ (∀ g ∈
    gatesOf (cw c 2), (gateGet s.mem g).epoch ≠ cw c 3)) ∧
  (∃ (c : Cmd) (s u : State) (g : _), u = takeCmd c s ∧ Taken 0x0901 c s ∧ (gatesOf (cw c 2)).find?
    (fun g => bitOf (gatesPending s.mem) g) = some g) ∧
  (∃ (c : Cmd) (s u : State), u = takeCmd c s ∧ Taken 0x0901 c s ∧ (∀ g ∈ gatesOf (cw c 2), bitOf (gatesPending s.mem) g = false) ∧ (∃ g ∈
    gatesOf (cw c 2), (gateGet s.mem g).epoch = cw c 3)) ∧
  (∃ (s : State) (k : GateCommit) (ks : List GateCommit), s.mem.commits = k :: ks) ∧
  (∃ (s : State), s.mem.commits = []) ∧
  (∃ (g : Gate) (a : Nat), rulesAt g a = []) ∧
  (∃ (g : Gate) (a : Nat), rulesAt g a ≠ []) ∧
  (∃ (init off : Nat), mayWrite init off = false) ∧
  (∃ (init off : Nat) (s : State), mayWrite init off = true ∧ init ≠ 4 ∧ gateAllows (gateGet s.mem (8 + off / 0x1000)) init (off % 0x1000)
    true = false) :=
  ⟨⟨cmd .pf0 [(2,23),(6,0xFFF),(9,0x80000003)], rdy, _, _, _, _, _, rfl, (by decide +kernel), rfl, (by decide +kernel), rfl, rfl,
    (by decide +kernel), (by decide +kernel), rfl⟩,
  ⟨cmd .pf0 [(2,0xFFFFFF),(3,1)], rdy, _, rfl, (by decide +kernel), (by decide +kernel), (by decide +kernel)⟩,
  ⟨cmd .pf0 [(2,0xFFFFFF)], withMem rdy { rdy.mem with commits := [⟨0x800000, 1, 0⟩] }, _, 23, rfl, (by decide +kernel),
    (by decide +kernel)⟩,
  ⟨cmd .pf0 [(2,0x800000)], rdy, _, rfl, (by decide +kernel), (by decide +kernel), (by decide +kernel)⟩,
  ⟨withMem rdy { rdy.mem with commits := [⟨1, 1, 0⟩] }, ⟨1, 1, 0⟩, [], (by decide +kernel)⟩,
  ⟨rdy, (by decide +kernel)⟩,
  ⟨{}, 64, (by decide +kernel)⟩,
  ⟨{ active := [(63, { valid := true, base := 0, limit := 63 })] }, 63, (by decide +kernel)⟩,
  ⟨1, 0x2000, (by decide +kernel)⟩,
  ⟨0, 0x2000, withMem rdy { rdy.mem with gates := [(10, { active := [(0, { valid := true, limit := 63 })] })] }, (by decide +kernel),
    (by decide +kernel), (by decide +kernel)⟩⟩

/-- States and operands that meet the hypotheses of each clause of `TheFabricGrantsByRank`. -/
theorem witness_TheFabricGrantsByRank :
  (∃ (l : List FabReq) (r : FabReq), fabChoose l = some r ∧ r.promoted = true) ∧
  (∃ (l : List FabReq) (r : FabReq) (x : _), x ∈ l ∧ fabChoose l = some r ∧ r.promoted = false) ∧
  (∃ (l : List FabReq) (r : FabReq), fabChoose l = some r ∧ r.promoted = false) ∧
  (∃ (m : MemState) (a : FabArrival) (r : FabReq), onFabric a.init = true ∧ (∀ x ∈ m.parked ++ m.atPort, x.init ≠ a.init) ∧ r =
    { init := a.init, addr := a.addr, beats := Nat.max 1 a.beats } ∧ m.parked.length < 8) ∧
  (∃ (m : MemState) (a : FabArrival) (r : FabReq), onFabric a.init = true ∧ (∀ x ∈ m.parked ++ m.atPort, x.init ≠ a.init) ∧ r =
    { init := a.init, addr := a.addr, beats := Nat.max 1 a.beats } ∧ 8 ≤ m.parked.length) ∧
  (∃ (as : List FabArrival) (s : State) (m : MemState), m = as.foldl fabArrive s.mem ∧ m.parked = []) ∧
  (∃ (as : List FabArrival) (s : State) (m : MemState) (r : _), m = as.foldl fabArrive s.mem ∧ fabChoose m.parked = some r) ∧
  (∃ (r : FabReq), 16 < r.beats) :=
  ⟨⟨[{ init := 3, addr := 0 }, { init := 4, addr := 0, promoted := true }], ({ init := 4, addr := 0, promoted := true } : FabReq),
    (by decide +kernel), (by decide +kernel)⟩,
  ⟨[{ init := 3, addr := 0 }], _, ({ init := 3, addr := 0 } : FabReq), (by decide +kernel), (Option.some_get (by decide +kernel)).symm,
    (by decide +kernel)⟩,
  ⟨[{ init := 1, addr := 0 }, { init := 17, addr := 0 }], ({ init := 17, addr := 0 } : FabReq), (by decide +kernel), (by decide +kernel)⟩,
  ⟨({ parked := (List.range 7).map fun i => { init := i + 5, addr := 0 } } : MemState), { init := 0, addr := 0 }, _, (by decide +kernel),
    (by decide +kernel), rfl, (by decide +kernel)⟩,
  ⟨({ parked := (List.range 8).map fun i => { init := i + 5, addr := 0 } } : MemState), { init := 0, addr := 0 }, _, (by decide +kernel),
    (by decide +kernel), rfl, (by decide +kernel)⟩,
  ⟨[], rdy, _, rfl, (by decide +kernel)⟩,
  ⟨[{ init := 0, addr := 0 }], rdy, _, _, rfl, (Option.some_get (by decide +kernel)).symm⟩,
  ⟨{ init := 3, addr := 0, beats := 17 }, (by decide +kernel)⟩⟩

/-- States and operands that meet the hypotheses of each clause of `ModeSetFollowsItsTable`. -/
theorem witness_ModeSetFollowsItsTable :
  (∃ (c : Cmd) (s u : State) (n : Nat), u = takeCmd c s ∧ Taken 0x0004 c s ∧ n = fld (cw c 2) 3 0 ∧ (c.port ≠ .maint ∨ n = 10 ∨ (n = 3 ∧
    s.pwr.mode = .maintenance)) ∧ n = 3 ∧ (s.pwr.mode = .solo ∨ s.pwr.mode = .maintenance)) ∧
  (∃ (c : Cmd) (s u : State) (n : Nat), u = takeCmd c s ∧ Taken 0x0004 c s ∧ n = fld (cw c 2) 3 0 ∧ (c.port ≠ .maint ∨ n = 10 ∨ (n = 3 ∧
    s.pwr.mode = .maintenance)) ∧ n = 3 ∧ s.pwr.mode = .safeHold ∧ causePersists s = false) ∧
  (∃ (c : Cmd) (s u : State) (n : Nat), u = takeCmd c s ∧ Taken 0x0004 c s ∧ n = fld (cw c 2) 3 0 ∧ (c.port ≠ .maint ∨ n = 10 ∨ (n = 3 ∧
    s.pwr.mode = .maintenance)) ∧ n = 3 ∧ s.pwr.mode = .safeHold ∧ causePersists s = true) ∧
  (∃ (c : Cmd) (s u : State) (n : Nat), u = takeCmd c s ∧ Taken 0x0004 c s ∧ n = fld (cw c 2) 3 0 ∧ (c.port ≠ .maint ∨ n = 10 ∨ (n = 3 ∧
    s.pwr.mode = .maintenance)) ∧ n = 4 ∧ (s.pwr.mode = .ready ∨ s.pwr.mode = .night) ∧ s.tb.state ≠ .unset) ∧
  (∃ (c : Cmd) (s u : State) (n : Nat), u = takeCmd c s ∧ Taken 0x0004 c s ∧ n = fld (cw c 2) 3 0 ∧ (c.port ≠ .maint ∨ n = 10 ∨ (n = 3 ∧
    s.pwr.mode = .maintenance)) ∧ n = 4 ∧ (s.pwr.mode = .ready ∨ s.pwr.mode = .night) ∧ s.tb.state = .unset) ∧
  (∃ (c : Cmd) (s u : State) (n : Nat), u = takeCmd c s ∧ Taken 0x0004 c s ∧ n = fld (cw c 2) 3 0 ∧ (c.port ≠ .maint ∨ n = 10 ∨ (n = 3 ∧
    s.pwr.mode = .maintenance)) ∧ n = 9 ∧ s.pwr.mode = .solo) ∧
  (∃ (c : Cmd) (s u : State) (n : Nat), u = takeCmd c s ∧ Taken 0x0004 c s ∧ n = fld (cw c 2) 3 0 ∧ (c.port ≠ .maint ∨ n = 10 ∨ (n = 3 ∧
    s.pwr.mode = .maintenance)) ∧ n = 10 ∧ modeFrom 10 s.pwr.mode = true ∧ mustHand s = false) ∧
  (∃ (c : Cmd) (s u : State) (n : Nat), u = takeCmd c s ∧ Taken 0x0004 c s ∧ n = fld (cw c 2) 3 0 ∧ (c.port ≠ .maint ∨ n = 10 ∨ (n = 3 ∧
    s.pwr.mode = .maintenance)) ∧ n = 10 ∧ modeFrom 10 s.pwr.mode = true ∧ mustHand s = true) ∧
  (∃ (c : Cmd) (s u : State) (n : Nat), u = takeCmd c s ∧ Taken 0x0004 c s ∧ n = fld (cw c 2) 3 0 ∧ (c.port ≠ .maint ∨ n = 10 ∨ (n = 3 ∧
    s.pwr.mode = .maintenance)) ∧ n = 11 ∧ holdable s.pwr.mode = true) ∧
  (∃ (c : Cmd) (s u : State) (n : Nat), u = takeCmd c s ∧ Taken 0x0004 c s ∧ n = fld (cw c 2) 3 0 ∧ (c.port ≠ .maint ∨ n = 10 ∨ (n = 3 ∧
    s.pwr.mode = .maintenance)) ∧ n = 12 ∧ modeFrom 12 s.pwr.mode = true ∧ mustHand s = false) ∧
  (∃ (c : Cmd) (s u : State) (n : Nat), u = takeCmd c s ∧ Taken 0x0004 c s ∧ n = fld (cw c 2) 3 0 ∧ (c.port ≠ .maint ∨ n = 10 ∨ (n = 3 ∧
    s.pwr.mode = .maintenance)) ∧ n = 12 ∧ modeFrom 12 s.pwr.mode = true ∧ mustHand s = true) ∧
  (∃ (c : Cmd) (s u : State) (n : Nat), u = takeCmd c s ∧ Taken 0x0004 c s ∧ n = fld (cw c 2) 3 0 ∧ (c.port ≠ .maint ∨ n = 10 ∨ (n = 3 ∧
    s.pwr.mode = .maintenance)) ∧ (n = 0 ∨ 12 < n ∨ (5 ≤ n ∧ n ≤ 8))) ∧
  (∃ (c : Cmd) (s u : State) (n : Nat), u = takeCmd c s ∧ Taken 0x0004 c s ∧ n = fld (cw c 2) 3 0 ∧ (c.port ≠ .maint ∨ n = 10 ∨ (n = 3 ∧
    s.pwr.mode = .maintenance)) ∧ (n = 3 ∨ n = 4 ∨ (9 ≤ n ∧ n ≤ 12)) ∧ modeFrom n s.pwr.mode = false) ∧
  (∃ (c : Cmd) (s : State) (n : Nat), Taken 0x0004 c s ∧ n = fld (cw c 2) 3 0 ∧ c.port = .maint ∧ n ≠ 10 ∧ (n ≠ 3 ∨ s.pwr.mode ≠
    .maintenance)) ∧
  (∃ (new : Mode) (cause sh port : Nat) (s u : State), u = raise 0x51 [pack [(31, 28, modeNum new), (27, 24, modeNum s.pwr.mode), (23, 16,
    cause), (15, 8, sh), (7, 0, port)]] (withPair (withPwr s { s.pwr with mode := new, auto := s.pwr.auto || s.pwr.mode == .maintenance })
    { s.pair with leadOut := new == .lead }) ∧ new ≠ .ready ∧ s.pwr.mode ≠ .night) ∧
  (∃ (s : State), s.pwr.mode = .bindOff ∧ s.pwr.state = .run ∧ (∀ x ∈ s.scan.outs, x.2.en = true → purlDone s x.1 = true) ∧ (∀ x ∈
    s.enc.chans, x.2.frames = [])) ∧
  (∃ (s : State), (s.pwr.mode ≠ .bindOff ∨ s.pwr.state ≠ .run ∨ (∃ x ∈ s.scan.outs, x.2.en = true ∧ purlDone s x.1 = false) ∨ (∃ x ∈
    s.enc.chans, x.2.frames ≠ []))) :=
  ⟨⟨cmd .maint [(2,3)], inMode .maintenance, _, _, rfl, (by decide +kernel), rfl, (by decide +kernel), (by decide +kernel),
    (by decide +kernel)⟩,
  ⟨cmd .pf0 [(2,3)], inMode .safeHold, _, _, rfl, (by decide +kernel), rfl, (by decide +kernel), (by decide +kernel), (by decide +kernel),
    (by decide +kernel)⟩,
  ⟨cmd .pf0 [(2,3)], { inMode .safeHold with pwr := { (inMode .safeHold).pwr with cause := 3, vrFault := true } }, _, _, rfl,
    (by decide +kernel), rfl, (by decide +kernel), (by decide +kernel), (by decide +kernel), (by decide +kernel)⟩,
  ⟨cmd .pf0 [(2,4)], atTime 0 (inMode .night), _, _, rfl, (by decide +kernel), rfl, (by decide +kernel), (by decide +kernel),
    (by decide +kernel), (by decide +kernel)⟩,
  ⟨cmd .pf0 [(2,4)], rdy, _, _, rfl, (by decide +kernel), rfl, (by decide +kernel), (by decide +kernel), (by decide +kernel),
    (by decide +kernel)⟩,
  ⟨cmd .pf0 [(2,9)], inMode .solo, _, _, rfl, (by decide +kernel), rfl, (by decide +kernel), (by decide +kernel), (by decide +kernel)⟩,
  ⟨cmd .maint [(2,10)], inMode .lead, _, _, rfl, (by decide +kernel), rfl, (by decide +kernel), (by decide +kernel), (by decide +kernel),
    (by decide +kernel)⟩,
  ⟨cmd .maint [(2,10)], { inMode .lead with pair := { rdy.pair with peerFit := true } }, _, _, rfl, (by decide +kernel), rfl,
    (by decide +kernel), (by decide +kernel), (by decide +kernel), (by decide +kernel)⟩,
  ⟨cmd .pf0 [(2,11)], inMode .maintenance, _, _, rfl, (by decide +kernel), rfl, (by decide +kernel), (by decide +kernel),
    (by decide +kernel)⟩,
  ⟨cmd .pf0 [(2,12)], inMode .safeHold, _, _, rfl, (by decide +kernel), rfl, (by decide +kernel), (by decide +kernel),
    (by decide +kernel), (by decide +kernel)⟩,
  ⟨cmd .pf0 [(2,12)], { inMode .lead with pair := { rdy.pair with peerFit := true } }, _, _, rfl, (by decide +kernel), rfl,
    (by decide +kernel), (by decide +kernel), (by decide +kernel), (by decide +kernel)⟩,
  ⟨cmd .pf0 [(2,13)], rdy, _, _, rfl, (by decide +kernel), rfl, (by decide +kernel), (by decide +kernel)⟩,
  ⟨cmd .maint [(2,10)], inMode .safeHold, _, _, rfl, (by decide +kernel), rfl, (by decide +kernel), (by decide +kernel),
    (by decide +kernel)⟩,
  ⟨cmd .maint [(2,12)], rdy, _, (by decide +kernel), rfl, (by decide +kernel), (by decide +kernel), (by decide +kernel)⟩,
  ⟨.solo, 0, 0, 0, rdy, _, rfl, (by decide +kernel), (by decide +kernel)⟩,
  ⟨inMode .bindOff, (by decide +kernel), (by decide +kernel), (by decide +kernel), (by decide +kernel)⟩,
  ⟨rdy, (by decide +kernel)⟩⟩

/-- States and operands that meet the hypotheses of each clause of `PowerRequestsAndTransitions`. -/
theorem witness_PowerRequestsAndTransitions :
  (∃ (c : Cmd) (s u : State) (n : Nat) (tr : PowerTrans), u = takeCmd c s ∧ Taken 0x0005 c s ∧ n = fld (cw c 2) 2 0 ∧ n ≤ 4 ∧ s.pwr.trans
    = none ∧ tr =
    { source := s.pwr.state, target := powerOf n, since := t2Ns s, origin := .cmd c.port c.ring u.hif.cmdSeq, entry := powerOf n != .run, wakeBits := 0, wakeAt := t2Ns s }
    ∧ powerOf n = s.pwr.state) ∧
  (∃ (c : Cmd) (s u : State) (n : Nat) (tr : PowerTrans), u = takeCmd c s ∧ Taken 0x0005 c s ∧ n = fld (cw c 2) 2 0 ∧ n ≤ 4 ∧ s.pwr.trans
    = none ∧ tr =
    { source := s.pwr.state, target := powerOf n, since := t2Ns s, origin := .cmd c.port c.ring u.hif.cmdSeq, entry := powerOf n != .run, wakeBits := 0, wakeAt := t2Ns s }
    ∧ powerOf n ≠ s.pwr.state ∧ powerOf n = .off ∧ (s.pwr.mode = .ready ∨ s.pwr.mode = .safeHold)) ∧
  (∃ (c : Cmd) (s u : State) (n : Nat) (tr : PowerTrans), u = takeCmd c s ∧ Taken 0x0005 c s ∧ n = fld (cw c 2) 2 0 ∧ n ≤ 4 ∧ s.pwr.trans
    = none ∧ tr =
    { source := s.pwr.state, target := powerOf n, since := t2Ns s, origin := .cmd c.port c.ring u.hif.cmdSeq, entry := powerOf n != .run, wakeBits := 0, wakeAt := t2Ns s }
    ∧ powerOf n ≠ s.pwr.state ∧ powerOf n ≠ .run ∧ powerOf n ≠ .off ∧ s.pwr.mode = .ready ∧ busyWith s = none) ∧
  (∃ (c : Cmd) (s u : State) (n : Nat) (tr : PowerTrans), u = takeCmd c s ∧ Taken 0x0005 c s ∧ n = fld (cw c 2) 2 0 ∧ n ≤ 4 ∧ s.pwr.trans
    = none ∧ tr =
    { source := s.pwr.state, target := powerOf n, since := t2Ns s, origin := .cmd c.port c.ring u.hif.cmdSeq, entry := powerOf n != .run, wakeBits := 0, wakeAt := t2Ns s }
    ∧ powerOf n ≠ s.pwr.state ∧ powerOf n ≠ .run ∧ s.pwr.mode ≠ .ready ∧ (s.pwr.mode ≠ .safeHold ∨ powerOf n ≠ .off)) ∧
  (∃ (c : Cmd) (s u : State) (n : Nat) (tr : PowerTrans) (o : _), u = takeCmd c s ∧ Taken 0x0005 c s ∧ n = fld (cw c 2) 2 0 ∧ n ≤ 4 ∧
    s.pwr.trans = none ∧ tr =
    { source := s.pwr.state, target := powerOf n, since := t2Ns s, origin := .cmd c.port c.ring u.hif.cmdSeq, entry := powerOf n != .run, wakeBits := 0, wakeAt := t2Ns s }
    ∧ powerOf n ≠ s.pwr.state ∧ powerOf n ≠ .run ∧ powerOf n ≠ .off ∧ s.pwr.mode = .ready ∧ busyWith s = some o) ∧
  (∃ (c : Cmd) (s u v : State) (n : Nat) (r : PowerAns), u = takeCmd c s ∧ Taken 0x0005 c s ∧ n = fld (cw c 2) 2 0 ∧ n ≤ 4 ∧ powerAsk
    (powerOf n) (.cmd c.port c.ring u.hif.cmdSeq) 0 u = (v, r)) ∧
  (∃ (c : Cmd) (s u : State) (n : Nat), u = takeCmd c s ∧ Taken 0x0005 c s ∧ n = fld (cw c 2) 2 0 ∧ 4 < n) ∧
  (∃ (c : Cmd) (s u : State) (n : Nat) (tr : PowerTrans) (p : PowerPend), u = takeCmd c s ∧ Taken 0x0005 c s ∧ n = fld (cw c 2) 2 0 ∧ n ≤
    4 ∧ s.pwr.trans = some tr ∧ p = { target := powerOf n, origin := .cmd c.port c.ring u.hif.cmdSeq, wakeBits := 0, since := t2Ns s } ∧
    powerOf n = .run ∧ tr.entry = true ∧ tr.target ≠ .idle ∧ t2Ns s - tr.since < 310000) ∧
  (∃ (c : Cmd) (s u : State) (n : Nat) (tr : PowerTrans) (p : PowerPend), u = takeCmd c s ∧ Taken 0x0005 c s ∧ n = fld (cw c 2) 2 0 ∧ n ≤
    4 ∧ s.pwr.trans = some tr ∧ p = { target := powerOf n, origin := .cmd c.port c.ring u.hif.cmdSeq, wakeBits := 0, since := t2Ns s } ∧
    (powerOf n ≠ .run ∨ tr.entry = false ∨ tr.target = .idle ∨ 310000 ≤ t2Ns s - tr.since) ∧ s.pwr.pend = none) ∧
  (∃ (s : State) (tr : PowerTrans), s.pwr.trans = some tr ∧ tr.entry = true ∧ t2Ns s - tr.since <
    (if tr.target = .idle then 300000 else 310000)) ∧
  (∃ (s : State) (tr : PowerTrans), s.pwr.trans = some tr ∧ tr.entry = true ∧ (if tr.target = .idle then 300000 else 310000) ≤ t2Ns s -
    tr.since) ∧
  (∃ (s : State) (tr : PowerTrans), s.pwr.trans = some tr ∧ tr.entry = false) ∧
  (∃ (s : State), s.pwr.trans = none) ∧
  (∃ (tr : PowerTrans), tr.source = .deepSleep) ∧
  (∃ (a : RegW) (s s1 : State) (n : Nat) (tr : PowerTrans), Writes 0x1004 a s ∧ n = fld a.val 2 0 ∧ tr =
    { source := s.pwr.state, target := powerOf n, since := t2Ns s, origin := .reg, entry := true, wakeBits := 0, wakeAt := t2Ns s } ∧ s1 =
    withPwr s { s.pwr with reqState := n } ∧ bitOf a.val 31 = false) ∧
  (∃ (a : RegW) (s s1 : State) (n : Nat) (tr : PowerTrans), Writes 0x1004 a s ∧ n = fld a.val 2 0 ∧ tr =
    { source := s.pwr.state, target := powerOf n, since := t2Ns s, origin := .reg, entry := true, wakeBits := 0, wakeAt := t2Ns s } ∧ s1 =
    withPwr s { s.pwr with reqState := n } ∧ bitOf a.val 31 = true ∧ 4 < n) ∧
  (∃ (a : RegW) (s s1 : State) (n : Nat) (tr : PowerTrans), Writes 0x1004 a s ∧ n = fld a.val 2 0 ∧ tr =
    { source := s.pwr.state, target := powerOf n, since := t2Ns s, origin := .reg, entry := true, wakeBits := 0, wakeAt := t2Ns s } ∧ s1 =
    withPwr s { s.pwr with reqState := n } ∧ bitOf a.val 31 = true ∧ n ≤ 4 ∧ s.pwr.trans = none ∧ powerOf n ≠ s.pwr.state ∧ powerOf n ≠
    .run ∧ powerOf n ≠ .off ∧ s.pwr.mode = .ready ∧ busyWith s = none) ∧
  (∃ (a : RegW) (s s1 : State) (n : Nat) (tr : PowerTrans) (v r : _), Writes 0x1004 a s ∧ n = fld a.val 2 0 ∧ tr =
    { source := s.pwr.state, target := powerOf n, since := t2Ns s, origin := .reg, entry := true, wakeBits := 0, wakeAt := t2Ns s } ∧ s1 =
    withPwr s { s.pwr with reqState := n } ∧ bitOf a.val 31 = true ∧ n ≤ 4 ∧ (n ≠ 0 ∨ (s.pwr.state ≠ .idle ∧ s.pwr.state ≠ .sleep)) ∧
    powerAsk (powerOf n) .reg 0 s1 = (v, r)) ∧
  (∃ (a : RegW) (s s1 : State) (n : Nat) (tr : PowerTrans) (v r : _), Writes 0x1004 a s ∧ n = fld a.val 2 0 ∧ tr =
    { source := s.pwr.state, target := powerOf n, since := t2Ns s, origin := .reg, entry := true, wakeBits := 0, wakeAt := t2Ns s } ∧ s1 =
    withPwr s { s.pwr with reqState := n } ∧ bitOf a.val 31 = true ∧ n = 0 ∧ (s.pwr.state = .idle ∨ s.pwr.state = .sleep) ∧ powerAsk .run
    .reg 8 (withPwr s1 { s1.pwr with wakeStat := s.pwr.wakeStat ||| 8 }) = (v, r)) ∧
  (∃ (level : Bool) (s s1 : State) (tr : PowerTrans), s1 = withPwr s { s.pwr with wakeLevel := level } ∧ tr =
    { source := s.pwr.state, target := .run, since := t2Ns s, origin := .wake, entry := false, wakeBits := 1, wakeAt := t2Ns s } ∧
    (pinActive s.pwr level = false ∨ (s.pwr.state = .run ∧ s.pwr.trans = none))) ∧
  (∃ (level : Bool) (s s1 : State) (tr : PowerTrans), s1 = withPwr s { s.pwr with wakeLevel := level } ∧ tr =
    { source := s.pwr.state, target := .run, since := t2Ns s, origin := .wake, entry := false, wakeBits := 1, wakeAt := t2Ns s } ∧
    pinActive s.pwr level = true ∧ s.pwr.state = .off ∧ s.boot.resetN = true) ∧
  (∃ (level : Bool) (s s1 : State) (tr : PowerTrans), s1 = withPwr s { s.pwr with wakeLevel := level } ∧ tr =
    { source := s.pwr.state, target := .run, since := t2Ns s, origin := .wake, entry := false, wakeBits := 1, wakeAt := t2Ns s } ∧
    pinActive s.pwr level = true ∧ (s.pwr.state = .idle ∨ s.pwr.state = .sleep ∨ s.pwr.state = .deepSleep) ∧ s.pwr.trans = none) ∧
  (∃ (s : State) (tr : PowerTrans), s.pwr.trans = none ∧ tr =
    { source := s.pwr.state, target := .run, since := t2Ns s, origin := .wake, entry := false, wakeBits := 2, wakeAt := t2Ns s } ∧
    (s.pwr.state = .idle ∨ s.pwr.state = .sleep)) ∧
  (∃ (s : State) (tr : PowerTrans), s.pwr.trans = none ∧ tr =
    { source := s.pwr.state, target := .run, since := t2Ns s, origin := .wake, entry := false, wakeBits := 2, wakeAt := t2Ns s } ∧
    s.pwr.state ≠ .idle ∧ s.pwr.state ≠ .sleep) :=
  ⟨⟨cmd .pf0 [(2,0)], rdy, _, _, _, rfl, (by decide +kernel), rfl, (by decide +kernel), (by decide +kernel), rfl, (by decide +kernel)⟩,
  ⟨cmd .pf0 [(2,4)], inMode .safeHold, _, _, _, rfl, (by decide +kernel), rfl, (by decide +kernel), (by decide +kernel), rfl,
    (by decide +kernel), (by decide +kernel), (by decide +kernel)⟩,
  ⟨cmd .pf0 [(2,3)], rdy, _, _, _, rfl, (by decide +kernel), rfl, (by decide +kernel), (by decide +kernel), rfl, (by decide +kernel),
    (by decide +kernel), (by decide +kernel), (by decide +kernel), (by decide +kernel)⟩,
  ⟨cmd .pf0 [(2,4)], inMode .solo, _, _, _, rfl, (by decide +kernel), rfl, (by decide +kernel), (by decide +kernel), rfl,
    (by decide +kernel), (by decide +kernel), (by decide +kernel), (by decide +kernel)⟩,
  ⟨cmd .pf0 [(2,1)], outSet 47 { en := true } rdy, _, _, _, _, rfl, (by decide +kernel), rfl, (by decide +kernel), (by decide +kernel),
    rfl, (by decide +kernel), (by decide +kernel), (by decide +kernel), (by decide +kernel), (Option.some_get (by decide +kernel)).symm⟩,
  ⟨cmd .pf0 [(2,4)], rdy, _, (powerAsk .off (.cmd .pf0 0 1) 0 (takeCmd (cmd .pf0 [(2,4)]) rdy)).1, _, (powerAsk .off (.cmd .pf0 0 1) 0
    (takeCmd (cmd .pf0 [(2,4)]) rdy)).2, rfl, (by decide +kernel), rfl, (by decide +kernel), rfl⟩,
  ⟨cmd .pf0 [(2,5)], rdy, _, _, rfl, (by decide +kernel), rfl, (by decide +kernel)⟩,
  ⟨cmd .pf0 [(2,0)], atTime 309999 (inTrans toSleep), _, _, _, _, rfl, (by decide +kernel), rfl, (by decide +kernel), (Option.some_get
    (by decide +kernel)).symm, rfl, (by decide +kernel), (by decide +kernel), (by decide +kernel), (by decide +kernel)⟩,
  ⟨cmd .pf0 [(2,0)], atTime 310000 (inTrans toSleep), _, _, _, _, rfl, (by decide +kernel), rfl, (by decide +kernel), (Option.some_get
    (by decide +kernel)).symm, rfl, (by decide +kernel), (by decide +kernel)⟩,
  ⟨atTime 309999 (inTrans toSleep), _, (Option.some_get (by decide +kernel)).symm, (by decide +kernel), (by decide +kernel)⟩,
  ⟨atTime 300000 (inTrans { toSleep with target := .idle }), _, (Option.some_get (by decide +kernel)).symm, (by decide +kernel),
    (by decide +kernel)⟩,
  ⟨inTrans { toSleep with entry := false }, _, (Option.some_get (by decide +kernel)).symm, (by decide +kernel)⟩,
  ⟨rdy, (by decide +kernel)⟩,
  ⟨{ toSleep with source := .deepSleep, target := .run, entry := false }, (by decide +kernel)⟩,
  ⟨wr 2, rdy, _, _, _, (by decide +kernel), rfl, rfl, rfl, (by decide +kernel)⟩,
  ⟨wr 0x80000005, rdy, _, _, _, (by decide +kernel), rfl, rfl, rfl, (by decide +kernel), (by decide +kernel)⟩,
  ⟨wr 0x80000002, rdy, _, _, _, (by decide +kernel), rfl, rfl, rfl, (by decide +kernel), (by decide +kernel), (by decide +kernel),
    (by decide +kernel), (by decide +kernel), (by decide +kernel), (by decide +kernel), (by decide +kernel)⟩,
  ⟨wr 0x80000004, rdy, _, _, _, (powerAsk .off .reg 0 (withPwr rdy { rdy.pwr with reqState := 4 })).1, (powerAsk .off .reg 0 (withPwr rdy
    { rdy.pwr with reqState := 4 })).2, (by decide +kernel), rfl, rfl, rfl, (by decide +kernel), (by decide +kernel), (by decide +kernel),
    rfl⟩,
  ⟨wr 0x80000000, inPower .sleep, _, _, _, (powerAsk .run .reg 8 (withPwr (inPower .sleep)
    { (inPower .sleep).pwr with wakeStat := 8 })).1, (powerAsk .run .reg 8 (withPwr (inPower .sleep)
    { (inPower .sleep).pwr with wakeStat := 8 })).2, (by decide +kernel), rfl, rfl, rfl, (by decide +kernel), (by decide +kernel),
    (by decide +kernel), rfl⟩,
  ⟨false, rdy, _, _, rfl, rfl, (by decide +kernel)⟩,
  ⟨true, inPower .off, _, _, rfl, rfl, (by decide +kernel), (by decide +kernel), (by decide +kernel)⟩,
  ⟨true, inPower .deepSleep, _, _, rfl, rfl, (by decide +kernel), (by decide +kernel), (by decide +kernel)⟩,
  ⟨inPower .sleep, _, (by decide +kernel), rfl, (by decide +kernel)⟩,
  ⟨inPower .deepSleep, _, (by decide +kernel), rfl, (by decide +kernel), (by decide +kernel)⟩⟩

/-- States and operands that meet the hypotheses of each clause of `DomainsTemperaturesAndWatchdogs`. -/
theorem witness_DomainsTemperaturesAndWatchdogs :
  (∃ (c : Cmd) (s u : State) (ds : List Nat), u = takeCmd c s ∧ Taken 0x0006 c s ∧ ds = (List.range 15).filter (fun d => bitOf (cw c 2) d)
    ∧ (∃ d ∈ ds, d = 0 ∨ d = 1 ∨ d = 2 ∨ d = 3 ∨ d = 13)) ∧
  (∃ (c : Cmd) (s u : State) (ds : List Nat), u = takeCmd c s ∧ Taken 0x0006 c s ∧ ds = (List.range 15).filter (fun d => bitOf (cw c 2) d)
    ∧ (∀ d ∈ ds, d ≠ 0 ∧ d ≠ 1 ∧ d ≠ 2 ∧ d ≠ 3 ∧ d ≠ 13) ∧ bitOf (cw c 3) 0 = true ∧ supplyMet u (supplyNeeds 0x0006 opDomainSet c u) =
    true) ∧
  (∃ (c : Cmd) (s u : State) (ds : List Nat), u = takeCmd c s ∧ Taken 0x0006 c s ∧ ds = (List.range 15).filter (fun d => bitOf (cw c 2) d)
    ∧ (∀ d ∈ ds, d ≠ 0 ∧ d ≠ 1 ∧ d ≠ 2 ∧ d ≠ 3 ∧ d ≠ 13) ∧ bitOf (cw c 3) 0 = false ∧ (∀ d ∈ ds, domainFree s d = true)) ∧
  (∃ (c : Cmd) (s u : State) (ds : List Nat) (d : _), u = takeCmd c s ∧ Taken 0x0006 c s ∧ ds = (List.range 15).filter
    (fun d => bitOf (cw c 2) d) ∧ (∀ d ∈ ds, d ≠ 0 ∧ d ≠ 1 ∧ d ≠ 2 ∧ d ≠ 3 ∧ d ≠ 13) ∧ bitOf (cw c 3) 0 = false ∧ ds.find?
    (fun d => !domainFree s d) = some d) ∧
  (∃ (d : Nat) (s : State), d < 15 ∧ bitOf s.pwr.rising d = true) ∧
  (∃ (d : Nat) (s : State), d < 15 ∧ bitOf s.pwr.rising d = false) ∧
  (∃ (lid j : W16) (s : State) (ev : Nat → Bool → Bool → State → State), s.pwr.state ≠ .off ∧ (∀ k old new v, ev k old new v = if new =
    old then v else raise 0x54 [pack [(31, 24, k), (23, 23, b1 new)], pack [(31, 16, lid.toNat), (15, 0, j.toNat)]] v)) ∧
  (∃ (s : State), s.pwr.state = .off) ∧
  (∃ (j : W16) (s : State), s.pwr.state ≠ .off ∧ 2000 < j.toInt) ∧
  (∃ (j : W16) (s : State), s.pwr.state ≠ .off ∧ j.toInt ≤ 2000) ∧
  (∃ (s : State), s.pwr.hot115 = true ∧ s.pwr.hot115At + 100000000 ≤ t2Ns s ∧ s.pwr.state = .run) ∧
  (∃ (s : State), (s.pwr.hot115 = false ∨ t2Ns s < s.pwr.hot115At + 100000000 ∨ s.pwr.state ≠ .run)) ∧
  (∃ (p : Nat) (s : State), 4 ≤ p ∧ p ≤ 10 ∧ s.pwr.state = .run ∧ (holdable s.pwr.mode = true ∨ s.pwr.mode = .safeHold)) ∧
  (∃ (p : Nat) (s : State), (p < 4 ∨ 10 < p ∨ s.pwr.state ≠ .run ∨ (holdable s.pwr.mode = false ∧ s.pwr.mode ≠ .safeHold))) ∧
  (∃ (cause : Nat) (s : State), s.pwr.mode = .lead ∧ s.pair.peerFit = true ∧ cause ∈ [1, 2, 3, 4, 7]) ∧
  (∃ (s : State) (d : _), holdable s.pwr.mode = true ∧ (s.pwr.mode ≠ .lead ∨ s.pair.peerFit = false) ∧ (d = 6 ∨ d = 7 ∨ d = 8 ∨ d = 9)) ∧
  (∃ (s : State), s.pwr.mode = .safeHold) :=
  ⟨⟨cmd .pf0 [(2,0x2000)], rdy, _, _, rfl, (by decide +kernel), rfl, (by decide +kernel)⟩,
  ⟨cmd .pf0 [(2,0x5FF0),(3,1)], rdy, _, _, rfl, (by decide +kernel), rfl, (by decide +kernel), (by decide +kernel), (by decide +kernel)⟩,
  ⟨cmd .pf0 [(2,0x10)], rdy, _, _, rfl, (by decide +kernel), rfl, (by decide +kernel), (by decide +kernel), (by decide +kernel)⟩,
  ⟨cmd .pf0 [(2,0x4010)], { rdy with net := { rdy.net with ports := [(7, { en := true })] } }, _, _, _, rfl, (by decide +kernel), rfl,
    (by decide +kernel), (by decide +kernel), (Option.some_get (by decide +kernel)).symm⟩,
  ⟨14, { rdy with pwr := { rdy.pwr with rising := 0x4000 } }, (by decide +kernel), (by decide +kernel)⟩,
  ⟨14, rdy, (by decide +kernel), (by decide +kernel)⟩,
  ⟨0x7FFF, 0x8000, rdy, fun k old new v => if new = old then v else raise 0x54 [pack [(31, 24, k), (23, 23, b1 new)], pack [(31, 16,
    BitVec.toNat (0x7FFF : W16)), (15, 0, BitVec.toNat (0x8000 : W16))]] v, (by decide +kernel), (fun _ _ _ _ => rfl)⟩,
  ⟨inPower .off, (by decide +kernel)⟩,
  ⟨2001, rdy, (by decide +kernel), (by decide +kernel)⟩,
  ⟨2000, rdy, (by decide +kernel), (by decide +kernel)⟩,
  ⟨atTime 100000000 { rdy with pwr := { rdy.pwr with hot115 := true } }, (by decide +kernel), (by decide +kernel), (by decide +kernel)⟩,
  ⟨atTime 99999999 { rdy with pwr := { rdy.pwr with hot115 := true } }, (by decide +kernel)⟩,
  ⟨10, inMode .safeHold, (by decide +kernel), (by decide +kernel), (by decide +kernel), (by decide +kernel)⟩,
  ⟨3, rdy, (by decide +kernel)⟩,
  ⟨7, { inMode .lead with pair := { rdy.pair with peerFit := true } }, (by decide +kernel), (by decide +kernel), (by decide +kernel)⟩,
  ⟨inMode .lead, 9, (by decide +kernel), (by decide +kernel), (by decide +kernel)⟩,
  ⟨inMode .safeHold, (by decide +kernel)⟩⟩

/-- States and operands that meet the hypotheses of each clause of `GaugesHoldVcore`. -/
theorem witness_GaugesHoldVcore :
  (∃ (op : Nat) (c : Cmd) (s : State), (op = 0x0300 ∨ op = 0x0301 ∨ op = 0x0408 ∨ op = 0x0501 ∨ op = 0x0601 ∨ op = 0x0006) ∧ supplyMet s
    (supplyNeeds op (supplyWork op) c s) = true) ∧
  (∃ (op : Nat) (c : Cmd) (s : State), (op = 0x0300 ∨ op = 0x0301 ∨ op = 0x0408 ∨ op = 0x0501 ∨ op = 0x0601 ∨ op = 0x0006) ∧ supplyMet s
    (supplyNeeds op (supplyWork op) c s) = false) ∧
  (∃ (env : GaugeEnv) (s t : State) (h : SupplyHold) (o : Outst), t = gaugePeriod env s ∧ t.hif.supply = some h ∧ t.hif.outst.find?
    (fun x => x.seq == h.seq) = some o ∧ supplyMet t h.reqs = false ∧ t2Ns t < h.since + 15000000) ∧
  (∃ (env : GaugeEnv) (s t : State) (h : SupplyHold) (o : Outst) (v : _), t = gaugePeriod env s ∧ t.hif.supply = some h ∧
    t.hif.outst.find? (fun x => x.seq == h.seq) = some o ∧ (supplyMet t h.reqs = true ∨ h.since + 15000000 ≤ t2Ns t) ∧ v = outstDrop o
    { t with hif := { t.hif with supply := none } } ∧ gatekeep h.opcode h.cmd v = none) ∧
  (∃ (env : GaugeEnv) (s : State) (gs : Tab Gauge) (d : Nat) (g : Gauge), s.pwr.state = .run ∧ s.pwr.trans = none ∧ s.hif.supply = none ∧
    s.pwr.gaugeAt + (if s.pwr.gaugeLow then 50000 else 1000000) ≤ t2Ns s ∧ gs = gaugesNow env.readings s ∧ leastHeadroom gs = some (d, g)) ∧
  (∃ (s : State), s.hif.supply = none ∧ (t2Ns s < s.pwr.gaugeAt + (if s.pwr.gaugeLow then 50000 else 1000000) ∨ s.pwr.state ≠ .run ∨
    s.pwr.trans ≠ none)) ∧
  (∃ (s : State) (at_ : Nat), s.pwr.headLowAt = some at_ ∧ s.pwr.headLost = false ∧ at_ + 10000000 ≤ t2Ns s) ∧
  (∃ (s : State) (at_ : Nat), s.pwr.headLowAt = some at_ ∧ (s.pwr.headLost = true ∨ t2Ns s < at_ + 10000000)) ∧
  (∃ (s : State), s.pwr.headLowAt = none) ∧
  (∃ (s : State), s.pwr.vrFault = false) ∧
  (∃ (s : State), s.pwr.vrFault = true) ∧
  (∃ (b : Bool) (s : State), s.pwr.vrFault = b) ∧
  (∃ (a : RegW) (s : State), Writes 0xE000 a s ∧ bitOf a.val 0 = true) ∧
  (∃ (a : RegW) (s : State), Writes 0xE000 a s ∧ bitOf a.val 0 = false ∧ s.pwr.mode = .maintenance) ∧
  (∃ (a : RegW) (s : State), Writes 0xE000 a s ∧ bitOf a.val 0 = false ∧ s.pwr.mode ≠ .maintenance) ∧
  (∃ (a : RegW) (s : State) (mv : Nat), Writes 0xE008 a s ∧ mv = fld a.val 11 0 ∧ 550 ≤ mv ∧ mv ≤ 850 ∧ s.pwr.auto = true) ∧
  (∃ (a : RegW) (s : State) (mv : Nat), Writes 0xE008 a s ∧ mv = fld a.val 11 0 ∧ 550 ≤ mv ∧ mv ≤ 850 ∧ s.pwr.auto = false) ∧
  (∃ (a : RegW) (s : State) (mv : Nat), Writes 0xE008 a s ∧ mv = fld a.val 11 0 ∧ (mv < 550 ∨ 850 < mv)) :=
  ⟨⟨0x0300, cmd .pf0 [(4,255)] (strRec 0), gauged rdy, (by decide +kernel), (by decide +kernel)⟩,
  ⟨0x0300, cmd .pf0 [(4,255)] (strRec 0), rdy, (by decide +kernel), (by decide +kernel)⟩,
  ⟨{ readings := [], readVout := 720 }, supplied0 rdy, _, _, _, rfl, (Option.some_get (by decide +kernel)).symm, (Option.some_get
    (by decide +kernel)).symm, (by decide +kernel), (by decide +kernel)⟩,
  ⟨{ readings := [], readVout := 720 }, atTime 15000000 (supplied0 rdy), _, _, _, _, rfl, (Option.some_get (by decide +kernel)).symm,
    (Option.some_get (by decide +kernel)).symm, (by decide +kernel), rfl, (by decide +kernel)⟩,
  ⟨{ readings := [], readVout := 720 }, atTime 1000000 rdy, _, 1, { req := 1260, reading := 0 }, (by decide +kernel), (by decide +kernel),
    (by decide +kernel), (by decide +kernel), rfl, (by decide +kernel)⟩,
  ⟨atTime 999999 rdy, (by decide +kernel), (by decide +kernel)⟩,
  ⟨atTime 10000000 { rdy with pwr := { rdy.pwr with headLowAt := some 0 } }, 0, (by decide +kernel), (by decide +kernel),
    (by decide +kernel)⟩,
  ⟨atTime 9999999 { rdy with pwr := { rdy.pwr with headLowAt := some 0 } }, 0, (by decide +kernel), (by decide +kernel)⟩,
  ⟨rdy, (by decide +kernel)⟩,
  ⟨rdy, (by decide +kernel)⟩,
  ⟨{ rdy with pwr := { rdy.pwr with vrFault := true } }, (by decide +kernel)⟩,
  ⟨false, rdy, (by decide +kernel)⟩,
  ⟨wr 1, rdy, (by decide +kernel), (by decide +kernel)⟩,
  ⟨wr 0, inMode .maintenance, (by decide +kernel), (by decide +kernel), (by decide +kernel)⟩,
  ⟨wr 0, rdy, (by decide +kernel), (by decide +kernel), (by decide +kernel)⟩,
  ⟨wr 850, rdy, _, (by decide +kernel), rfl, (by decide +kernel), (by decide +kernel), (by decide +kernel)⟩,
  ⟨wr 550, { rdy with pwr := { rdy.pwr with auto := false } }, _, (by decide +kernel), rfl, (by decide +kernel), (by decide +kernel),
    (by decide +kernel)⟩,
  ⟨wr 851, rdy, _, (by decide +kernel), rfl, (by decide +kernel)⟩⟩

/-- States and operands that meet the hypotheses of each clause of `LanesAreTakenOutAndGivenBack`. -/
theorem witness_LanesAreTakenOutAndGivenBack :
  (∃ (c : Cmd) (s u : State) (i k t : Nat), u = takeCmd c s ∧ Taken 0x0008 c s ∧ laneNamed (cw c 2) = some i ∧ k = fld (cw c 3) 1 0 ∧ t =
    (cw c 4).toNat ∧ s.pwr.mode = .maintenance ∧ loopListed (laneGroup i) k = true ∧ 0 < t ∧ t ≤ 60000 ∧ bitOf s.pwr.domains (laneDomain
    i) = true ∧ bitOf s.pwr.iso (laneDomain i) = false ∧ (laneGet s i).ovl = 0 ∧ (laneGet s i).cal = true) ∧
  (∃ (c : Cmd) (s u : State) (i k t : Nat), u = takeCmd c s ∧ Taken 0x0008 c s ∧ laneNamed (cw c 2) = some i ∧ k = fld (cw c 3) 1 0 ∧ t =
    (cw c 4).toNat ∧ s.pwr.mode ≠ .maintenance) ∧
  (∃ (c : Cmd) (s u : State) (i k t : Nat), u = takeCmd c s ∧ Taken 0x0008 c s ∧ laneNamed (cw c 2) = some i ∧ k = fld (cw c 3) 1 0 ∧ t =
    (cw c 4).toNat ∧ s.pwr.mode = .maintenance ∧ loopListed (laneGroup i) k = false) ∧
  (∃ (i : Nat) (j : _), j ≠ i) ∧
  (∃ (s : State) (o : Outst), outstOf 8 s = some o ∧ t2Ns s < (laneGet s o.target).since + (o.arg.getD 1 0) * 1000000) ∧
  (∃ (s : State) (o : Outst), outstOf 8 s = some o ∧ (laneGet s o.target).since + (o.arg.getD 1 0) * 1000000 ≤ t2Ns s) ∧
  (∃ (s : State), outstOf 8 s = none) ∧
  (∃ (c : Cmd) (s u : State) (i : Nat), u = takeCmd c s ∧ Taken 0x0009 c s ∧ laneNamed (cw c 2) = some i ∧ bitOf s.pwr.domains (laneDomain
    i) = true ∧ bitOf s.pwr.iso (laneDomain i) = false ∧ (laneGet s i).ovl = 0 ∧ (laneGet s i).wait = false ∧ (laneGet s i).cal = true ∧
    (i < 80 ∨ otherPLane s i = true)) ∧
  (∃ (c : Cmd) (s u : State) (i : Nat), u = takeCmd c s ∧ Taken 0x0009 c s ∧ laneNamed (cw c 2) = some i ∧ bitOf s.pwr.domains (laneDomain
    i) = true ∧ bitOf s.pwr.iso (laneDomain i) = false ∧ 80 ≤ i ∧ otherPLane s i = false) ∧
  (∃ (c : Cmd) (s u : State) (i : Nat), u = takeCmd c s ∧ Taken 0x0009 c s ∧ laneNamed (cw c 2) = some i ∧ bitOf s.pwr.domains (laneDomain
    i) = true ∧ bitOf s.pwr.iso (laneDomain i) = false ∧ (laneGet s i).ovl ≠ 0) ∧
  (∃ (i : Nat) (j : _), j ≠ i) ∧
  (∃ (i : Nat) (s : State), i < 84 ∧ ((laneGet s i).ovl ≠ 3 ∨ (laneGet s i).cause = 0 ∨ 3 < (laneGet s i).cause)) ∧
  (∃ (i : Nat) (s : State), i < 84 ∧ (laneGet s i).ovl = 3 ∧ 1 ≤ (laneGet s i).cause ∧ (laneGet s i).cause ≤ 3) ∧
  (∃ (failed : List Nat) (s : State) (o : Outst) (busy : List Nat), s.hif.supply = none ∧ (s.hif.outst.find? fun o => enableOps.contains
    o.opcode) = some o ∧ busy = (List.range 84).filter (fun i => (laneGet s i).ovl == 3 && (laneGet s i).cause == 5) ∧ (∀ i ∈ busy, i ∉
    failed)) ∧
  (∃ (failed : List Nat) (s : State) (o : Outst) (busy : List Nat) (i : _), s.hif.supply = none ∧ (s.hif.outst.find? fun o =>
    enableOps.contains o.opcode) = some o ∧ busy = (List.range 84).filter (fun i => (laneGet s i).ovl == 3 && (laneGet s i).cause == 5) ∧
    busy.find? (fun i => failed.contains i) = some i) ∧
  (∃ (s : State), (s.hif.supply ≠ none ∨ ∀ o ∈ s.hif.outst, o.opcode ∉ enableOps)) ∧
  (∃ (s : State), loadOutst s = none) ∧
  (∃ (s : State) (o : Outst), loadOutst s = some o) :=
  ⟨⟨cmd .pf0 [(2,0x303),(3,2),(4,60000)], lanesAll { cal := true } (inMode .maintenance), _, _, _, _, rfl, (by decide +kernel),
    (Option.some_get (by decide +kernel)).symm, rfl, rfl, (by decide +kernel), (by decide +kernel), (by decide +kernel),
    (by decide +kernel), (by decide +kernel), (by decide +kernel), (by decide +kernel), (by decide +kernel)⟩,
  ⟨cmd .pf0 [(2,0x303),(3,2),(4,60000)], rdy, _, _, _, _, rfl, (by decide +kernel), (Option.some_get (by decide +kernel)).symm, rfl, rfl,
    (by decide +kernel)⟩,
  ⟨cmd .pf0 [(2,0x10F),(3,0),(4,1)], inMode .maintenance, _, _, _, _, rfl, (by decide +kernel), (Option.some_get
    (by decide +kernel)).symm, rfl, rfl, (by decide +kernel), (by decide +kernel)⟩,
  ⟨83, 0, (by decide +kernel)⟩,
  ⟨atTime 999999 (outst 8 83 [0, 1]), _, (Option.some_get (by decide +kernel)).symm, (by decide +kernel)⟩,
  ⟨atTime 1000000 (outst 8 83 [0, 1]), _, (Option.some_get (by decide +kernel)).symm, (by decide +kernel)⟩,
  ⟨rdy, (by decide +kernel)⟩,
  ⟨cmd .pf0 [(2,0x303)], { lanesAll { cal := true } with pair := { rdy.pair with linkUp := true, lanes := 1 } }, _, _, rfl,
    (by decide +kernel), (Option.some_get (by decide +kernel)).symm, (by decide +kernel), (by decide +kernel), (by decide +kernel),
    (by decide +kernel), (by decide +kernel), (by decide +kernel)⟩,
  ⟨cmd .pf0 [(2,0x300)], { lanesAll { cal := true } with pair := { rdy.pair with linkUp := true, lanes := 1 } }, _, _, rfl,
    (by decide +kernel), (Option.some_get (by decide +kernel)).symm, (by decide +kernel), (by decide +kernel), (by decide +kernel),
    (by decide +kernel)⟩,
  ⟨cmd .pf0 [(2,47)], lanesAll { cal := true, ovl := 3, cause := 1 }, _, _, rfl, (by decide +kernel), (Option.some_get
    (by decide +kernel)).symm, (by decide +kernel), (by decide +kernel), (by decide +kernel)⟩,
  ⟨83, 0, (by decide +kernel)⟩,
  ⟨83, lanesAll { ovl := 3, cause := 4 }, (by decide +kernel), (by decide +kernel)⟩,
  ⟨83, lanesAll { ovl := 3, cause := 3 }, (by decide +kernel), (by decide +kernel), (by decide +kernel), (by decide +kernel)⟩,
  ⟨[0], laneUpd 64 (fun x => { x with ovl := 3, cause := 5 }) (outst 0x0702 0), _, _, (by decide +kernel), (Option.some_get
    (by decide +kernel)).symm, rfl, (by decide +kernel)⟩,
  ⟨[64], laneUpd 64 (fun x => { x with ovl := 3, cause := 5 }) (outst 0x0702 0), _, _, _, (by decide +kernel), (Option.some_get
    (by decide +kernel)).symm, rfl, (Option.some_get (by decide +kernel)).symm⟩,
  ⟨rdy, (by decide +kernel)⟩,
  ⟨rdy, (by decide +kernel)⟩,
  ⟨outst 0x0405 0, _, (Option.some_get (by decide +kernel)).symm⟩⟩

/-- States and operands that meet the hypotheses of each clause of `PinsAndTimersFollowTheirClaims`. -/
theorem witness_PinsAndTimersFollowTheirClaims :
  (∃ (c : Cmd) (s u : State) (use pin timer : Nat), u = takeCmd c s ∧ Taken 0x000A c s ∧ use = (cw c 4).toNat ∧ pin = fld (cw c 2) 2 0 ∧
    timer = (if use = 2 then 0xFF else fld (cw c 3) 2 0) ∧ use ≤ 2 ∧ (use = 2 → cw c 3 = 0xFF) ∧ (use = 0 → (cw c 7).toNat < 1000000000 ∧
    1000 ≤ (cw c 8).toNat ∧ (cw c 8).toNat ≤ 1000000000 ∧ 10 ≤ (cw c 9).toNat ∧ (cw c 9).toNat + 10 ≤ (cw c 8).toNat) ∧ (use = 1 → 100 ≤
    (cw c 9).toNat ∧ (cw c 9).toNat ≤ 4000000) ∧ pinClaim s pin = none ∧ (timer = 0xFF ∨ timerClaim s timer = none)) ∧
  (∃ (c : Cmd) (s u : State) (use pin timer : Nat) (k : _), u = takeCmd c s ∧ Taken 0x000A c s ∧ use = (cw c 4).toNat ∧ pin = fld (cw c 2)
    2 0 ∧ timer = (if use = 2 then 0xFF else fld (cw c 3) 2 0) ∧ use ≤ 2 ∧ (use = 2 → cw c 3 = 0xFF) ∧ (use = 0 → (cw c 7).toNat <
    1000000000 ∧ 1000 ≤ (cw c 8).toNat ∧ (cw c 8).toNat ≤ 1000000000 ∧ 10 ≤ (cw c 9).toNat ∧ (cw c 9).toNat + 10 ≤ (cw c 8).toNat) ∧ (use
    = 1 → 100 ≤ (cw c 9).toNat ∧ (cw c 9).toNat ≤ 4000000) ∧ pinClaim s pin = some k) ∧
  (∃ (c : Cmd) (s u : State) (use pin timer : Nat) (k : _), u = takeCmd c s ∧ Taken 0x000A c s ∧ use = (cw c 4).toNat ∧ pin = fld (cw c 2)
    2 0 ∧ timer = (if use = 2 then 0xFF else fld (cw c 3) 2 0) ∧ use ≤ 2 ∧ (use = 2 → cw c 3 = 0xFF) ∧ (use = 0 → (cw c 7).toNat <
    1000000000 ∧ 1000 ≤ (cw c 8).toNat ∧ (cw c 8).toNat ≤ 1000000000 ∧ 10 ≤ (cw c 9).toNat ∧ (cw c 9).toNat + 10 ≤ (cw c 8).toNat) ∧ (use
    = 1 → 100 ≤ (cw c 9).toNat ∧ (cw c 9).toNat ≤ 4000000) ∧ pinClaim s pin = none ∧ timer ≠ 0xFF ∧ timerClaim s timer = some k) ∧
  (∃ (c : Cmd) (s u : State) (pin timer : Nat), u = takeCmd c s ∧ Taken 0x000B c s ∧ pin = fld (cw c 2) 2 0 ∧ timer =
    (if cw c 3 = 0xFF then 0xFF else fld (cw c 3) 2 0) ∧ (∃ k, pinClaim s pin = some k ∧ k.use ≠ 3) ∧ (∃ k ∈ s.lane.claims, k.use ≠ 3 ∧
    k.pin = pin ∧ k.timer = timer)) ∧
  (∃ (c : Cmd) (s u : State) (o pin timer : Nat), u = takeCmd c s ∧ Taken 0x0506 c s ∧ o = (cw c 4).toNat ∧ pin = (cw c 5).toNat ∧ timer =
    (cw c 6).toNat ∧ o < 48 ∧ pin = 0xFF) ∧
  (∃ (c : Cmd) (s u : State) (o pin timer : Nat), u = takeCmd c s ∧ Taken 0x0506 c s ∧ o = (cw c 4).toNat ∧ pin = (cw c 5).toNat ∧ timer =
    (cw c 6).toNat ∧ o < 48 ∧ pin < 8 ∧ timer < 8 ∧ pinClaim s pin = none ∧ timerClaim s timer = none) ∧
  (∃ (c : Cmd) (s u : State) (o pin timer : Nat), u = takeCmd c s ∧ Taken 0x0506 c s ∧ o = (cw c 4).toNat ∧ pin = (cw c 5).toNat ∧ timer =
    (cw c 6).toNat ∧ o < 48 ∧ pin ≠ 0xFF ∧ 7 < pin) ∧
  (∃ (n : Nat) (s : State) (k : AuxClaim) (b : Nat), n < 8 ∧ timerClaim s n = some k ∧ b = fld (claimW k 5) 1 0 ∧ bitOf s.pwr.domains 2 =
    true ∧ bitOf s.pwr.iso 2 = false ∧ k.use = 0 ∧ (tbGet s.tb b).set = true ∧ k.nextNs ≤ tbNs (tbGet s.tb b)) ∧
  (∃ (n : Nat) (s : State) (k : AuxClaim) (b : Nat), n < 8 ∧ timerClaim s n = some k ∧ b = fld (claimW k 5) 1 0 ∧ bitOf s.pwr.domains 2 =
    true ∧ bitOf s.pwr.iso 2 = false ∧ k.use = 0 ∧ ((tbGet s.tb b).set = false ∨ tbNs (tbGet s.tb b) < k.nextNs)) ∧
  (∃ (first period now : Nat), 0 < period ∧ first < now) ∧
  (∃ (n : Nat) (s : State), n < 8 ∧ (timerClaim s n = none ∨ bitOf s.pwr.domains 2 = false ∨ bitOf s.pwr.iso 2 = true)) :=
  ⟨⟨cmd .pf0 [(2,7),(3,7),(4,0),(5,3),(7,999999999),(8,1000),(9,990)], rdy, _, _, _, _, rfl, (by decide +kernel), rfl, rfl, rfl,
    (by decide +kernel), (by decide +kernel), (by decide +kernel), (by decide +kernel), (by decide +kernel), (by decide +kernel)⟩,
  ⟨cmd .pf0 [(2,7),(3,7),(4,1),(9,4000000)], withClaims rdy [{ pin := 7, timer := 7, use := 3 }], _, _, _, _, _, rfl, (by decide +kernel),
    rfl, rfl, rfl, (by decide +kernel), (by decide +kernel), (by decide +kernel), (by decide +kernel), (Option.some_get
    (by decide +kernel)).symm⟩,
  ⟨cmd .pf0 [(2,7),(3,7),(4,1),(9,100)], withClaims rdy [{ pin := 0, timer := 7, use := 0 }], _, _, _, _, _, rfl, (by decide +kernel),
    rfl, rfl, rfl, (by decide +kernel), (by decide +kernel), (by decide +kernel), (by decide +kernel), (by decide +kernel),
    (by decide +kernel), (Option.some_get (by decide +kernel)).symm⟩,
  ⟨cmd .pf0 [(2,7),(3,0xFF)], withClaims rdy [{ pin := 7, timer := 0xFF, use := 2 }], _, _, _, rfl, (by decide +kernel), rfl, rfl, (⟨_,
    rfl, by decide⟩), (by decide +kernel)⟩,
  ⟨cmd .pf0 [(4,47),(5,0xFF)], withClaims rdy [{ pin := 7, timer := 7, use := 3, output := 47 }], _, _, _, _, rfl, (by decide +kernel),
    rfl, rfl, rfl, (by decide +kernel), (by decide +kernel)⟩,
  ⟨cmd .pf0 [(4,47),(5,7),(6,7)], rdy, _, _, _, _, rfl, (by decide +kernel), rfl, rfl, rfl, (by decide +kernel), (by decide +kernel),
    (by decide +kernel), (by decide +kernel), (by decide +kernel)⟩,
  ⟨cmd .pf0 [(4,47),(5,8)], rdy, _, _, _, _, rfl, (by decide +kernel), rfl, rfl, rfl, (by decide +kernel), (by decide +kernel),
    (by decide +kernel)⟩,
  ⟨7, atTime 5 (withClaims rdy [{ pin := 7, timer := 7, use := 0, nextNs := 5 }]), _, _, (by decide +kernel), (Option.some_get
    (by decide +kernel)).symm, rfl, (by decide +kernel), (by decide +kernel), (by decide +kernel), (by decide +kernel),
    (by decide +kernel)⟩,
  ⟨7, atTime 4 (withClaims rdy [{ pin := 7, timer := 7, use := 0, nextNs := 5 }]), _, _, (by decide +kernel), (Option.some_get
    (by decide +kernel)).symm, rfl, (by decide +kernel), (by decide +kernel), (by decide +kernel), (by decide +kernel)⟩,
  ⟨1, 1, 2, (by decide +kernel), (by decide +kernel)⟩,
  ⟨7, rdy, (by decide +kernel), (by decide +kernel)⟩⟩

/-- States and operands that meet the hypotheses of each clause of `CastOnStagingAndIdentity`. -/
theorem witness_CastOnStagingAndIdentity :
  (∃ (b : Boot) (n : Nat) (env : BootEnv), env.slot0 = none ∧ env.slot1 = none ∧ env.uartR = false ∧ (indGet b).active = n ∧ n < 2 ∧
    (slotOfBoot b n).verdict = 0 ∧ (indGet b).trial = false ∧ b.wdFlag = false ∧ (indGet b).fails < 3) ∧
  (∃ (b : Boot) (env : BootEnv), env.slot0 = none ∧ env.slot1 = none ∧ (env.uartR = true ∨ 3 ≤ (indGet b).fails) ∧ b.wdFlag = false) ∧
  (∃ (s : State), s.boot.resetN = true) ∧
  (∃ (s : State), s.boot.resetN = false) ∧
  (∃ (s : State) (t : _), s.boot.wdAt = some t ∧ t + 60000000000 ≤ t2Ns s) ∧
  (∃ (s : State) (t : _), s.boot.wdAt = some t ∧ t2Ns s < t + 60000000000) ∧
  (∃ (s : State), s.boot.wdAt = none) ∧
  (∃ (s : State) (t : _), s.boot.restartAt = some t ∧ 0 < t ∧ t2Ns s < t + 1000000) ∧
  (∃ (s : State) (t : _), s.boot.restartAt = some t ∧ (t = 0 ∨ t + 1000000 ≤ t2Ns s)) ∧
  (∃ (s : State), s.boot.restartAt = none) ∧
  (∃ (s : State), s.pwr.mode = .castOn ∧ 4 ≤ s.boot.step ∧ s.boot.restartAt = none) ∧
  (∃ (s : State), (s.pwr.mode ≠ .castOn ∨ s.boot.step < 4)) ∧
  (∃ (c : Cmd) (s u : State), u = takeCmd c s ∧ Taken 0x0A01 c s ∧ (s.pwr.mode = .maintenance ∨ (c.port ≠ .maint ∧ (s.pwr.mode = .ready ∨
    s.pwr.mode = .safeHold)))) ∧
  (∃ (c : Cmd) (s u : State), u = takeCmd c s ∧ Taken 0x0A01 c s ∧ s.pwr.mode ≠ .maintenance ∧ s.pwr.mode ≠ .ready ∧ s.pwr.mode ≠
    .safeHold) ∧
  (∃ (c : Cmd) (s u : State) (f : FwFile), u = takeCmd c s ∧ Taken 0x0A00 c s ∧ c.env.card = some f ∧ f.size ≤ 33554432 ∧ (s.pwr.mode =
    .ready ∨ s.pwr.mode = .follow ∨ s.pwr.mode = .maintenance ∨ s.pwr.mode = .safeHold) ∧ headerBad f = none) ∧
  (∃ (c : Cmd) (s u : State) (f : FwFile) (n : _), u = takeCmd c s ∧ Taken 0x0A00 c s ∧ c.env.card = some f ∧ f.size ≤ 33554432 ∧
    (s.pwr.mode = .ready ∨ s.pwr.mode = .follow ∨ s.pwr.mode = .maintenance ∨ s.pwr.mode = .safeHold) ∧ headerBad f = some n) ∧
  (∃ (s : State) (o : Outst), outstOf 0x0A00 s = some o ∧ o.target < 2) ∧
  (∃ (c : Cmd) (s u : State), u = takeCmd c s ∧ Taken 0x0A02 c s) ∧
  (∃ (c : Cmd) (s u : State), u = takeCmd c s ∧ Taken 0x0001 c s) :=
  ⟨⟨{ slot1 := { verdict := 0 }, ind0 := { valid := true, active := 1, fails := 2 } }, 1, {}, (by decide +kernel), (by decide +kernel),
    (by decide +kernel), (by decide +kernel), (by decide +kernel), (by decide +kernel), (by decide +kernel), (by decide +kernel),
    (by decide +kernel)⟩,
  ⟨{ ind0 := { valid := true, active := 1, fails := 3 } }, {}, (by decide +kernel), (by decide +kernel), (by decide +kernel),
    (by decide +kernel)⟩,
  ⟨rdy, (by decide +kernel)⟩,
  ⟨State.reset, (by decide +kernel)⟩,
  ⟨atTime 60000000000 { rdy with boot := { rdy.boot with wdAt := some 0 } }, 0, (by decide +kernel), (by decide +kernel)⟩,
  ⟨atTime 59999999999 { rdy with boot := { rdy.boot with wdAt := some 0 } }, 0, (by decide +kernel), (by decide +kernel)⟩,
  ⟨rdy, (by decide +kernel)⟩,
  ⟨atTime 1000000 { rdy with boot := { rdy.boot with restartAt := some 1 } }, 1, (by decide +kernel), (by decide +kernel),
    (by decide +kernel)⟩,
  ⟨atTime 1000001 { rdy with boot := { rdy.boot with restartAt := some 1 } }, 1, (by decide +kernel), (by decide +kernel)⟩,
  ⟨rdy, (by decide +kernel)⟩,
  ⟨{ inMode .castOn with boot := { rdy.boot with step := 4 } }, (by decide +kernel), (by decide +kernel), (by decide +kernel)⟩,
  ⟨{ inMode .castOn with boot := { rdy.boot with step := 3 } }, (by decide +kernel)⟩,
  ⟨cmd .pf0 [], inMode .safeHold, _, rfl, (by decide +kernel), (by decide +kernel)⟩,
  ⟨cmd .pf0 [], inMode .lead, _, rfl, (by decide +kernel), (by decide +kernel), (by decide +kernel), (by decide +kernel)⟩,
  ⟨{ cmd .pf0 [] with env := { card := some (fwFile 33554432) } }, rdy, _, _, rfl, (by decide +kernel), (Option.some_get
    (by decide +kernel)).symm, (by decide +kernel), (by decide +kernel), (by decide +kernel)⟩,
  ⟨{ cmd .pf0 [] with env := { card := some { header := [], size := 4096, verdict := 0 } } }, rdy, _, _, 0, rfl, (by decide +kernel),
    (Option.some_get (by decide +kernel)).symm, (by decide +kernel), (by decide +kernel), (by decide +kernel)⟩,
  ⟨outst 0x0A00 1, _, (Option.some_get (by decide +kernel)).symm, (by decide +kernel)⟩,
  ⟨cmd .pf0 [], rdy, _, rfl, (by decide +kernel)⟩,
  ⟨cmd .pf0 [], rdy, _, rfl, (by decide +kernel)⟩⟩

/-- States and operands that meet the hypotheses of each clause of `RecoveryLoadsAnImage`. -/
theorem witness_RecoveryLoadsAnImage :
  (∃ (q : RecovReq) (s : State), s.pwr.mode = .recovery ∧ s.boot.recov.phase ≠ 3 ∧ 4096 ≤ q.arg ∧ q.arg ≤ 33554432) ∧
  (∃ (q : RecovReq) (s : State), s.pwr.mode = .recovery ∧ s.boot.recov.phase ≠ 3 ∧ (q.arg < 4096 ∨ 33554432 < q.arg)) ∧
  (∃ (q : RecovReq) (s : State), s.pwr.mode = .recovery ∧ s.boot.recov.phase ≠ 3 ∧ crc32c q.data ≠ q.crc.toNat) ∧
  (∃ (q : RecovReq) (s : State), s.pwr.mode = .recovery ∧ s.boot.recov.phase ≠ 3 ∧ crc32c q.data = q.crc.toNat ∧ s.boot.recov.lastData =
    some (q.arg, q.len, q.crc.toNat)) ∧
  (∃ (q : RecovReq) (s : State), s.pwr.mode = .recovery ∧ s.boot.recov.phase ≠ 3 ∧ crc32c q.data = q.crc.toNat ∧ s.boot.recov.lastData ≠
    some (q.arg, q.len, q.crc.toNat) ∧ s.boot.recov.phase = 1 ∧ q.arg = s.boot.recov.buf.length ∧ q.data.length = q.len ∧ q.len ≤ 1024 ∧
    q.arg + q.len ≤ s.boot.recov.length) ∧
  (∃ (q : RecovReq) (s : State), s.pwr.mode = .recovery ∧ s.boot.recov.phase ≠ 3 ∧ crc32c q.data = q.crc.toNat ∧ s.boot.recov.lastData ≠
    some (q.arg, q.len, q.crc.toNat) ∧ q.arg ≠ s.boot.recov.buf.length) ∧
  (∃ (q : RecovReq) (s : State), s.pwr.mode = .recovery ∧ s.boot.recov.phase ≠ 3 ∧ crc32c q.data = q.crc.toNat ∧ q.data.length = 256 ∧
    identityOk q.data = true) ∧
  (∃ (s : State), s.pwr.mode = .recovery ∧ s.boot.recov.phase ≠ 3 ∧ (s.boot.recov.phase ≠ 1 ∨ s.boot.recov.buf.length <
    s.boot.recov.length)) ∧
  (∃ (f : FwFile) (s : State) (g : FwFile), s.pwr.mode = .recovery ∧ s.boot.recov.phase ≠ 3 ∧ s.boot.recov.phase = 1 ∧ s.boot.recov.length
    ≤ s.boot.recov.buf.length ∧ g = { f with header := s.boot.recov.buf.take 4096, size := s.boot.recov.buf.length }) ∧
  (∃ (f : FwFile), (imageOf f).verdict ≠ 0) ∧
  (∃ (f : FwFile) (ok : Bool), (imageOf f).verdict = 0 ∧ ok = false) ∧
  (∃ (f : FwFile) (ok : Bool), (imageOf f).verdict = 0 ∧ ok = true) ∧
  (∃ (s : State), s.pwr.mode ≠ .recovery) ∧
  (∃ (s : State), s.pwr.mode = .recovery ∧ (s.boot.lineAt = 0 ∨ s.boot.lineAt + 1000000000 ≤ t2Ns s)) ∧
  (∃ (s : State), s.pwr.mode = .recovery ∧ s.boot.lineAt ≠ 0 ∧ t2Ns s < s.boot.lineAt + 1000000000) :=
  ⟨⟨recq 33554432 [], inMode .recovery, (by decide +kernel), (by decide +kernel), (by decide +kernel), (by decide +kernel)⟩,
  ⟨recq 4095 [], inMode .recovery, (by decide +kernel), (by decide +kernel), (by decide +kernel)⟩,
  ⟨{ recq 0 [1] with crc := 0 }, inMode .recovery, (by decide +kernel), (by decide +kernel), (by decide +kernel)⟩,
  ⟨recq 0 [1], withRecov (inMode .recovery) { phase := 1, lastData := some (0, 1, crc32c [1]) }, (by decide +kernel), (by decide +kernel),
    (by decide +kernel), (by decide +kernel)⟩,
  ⟨recq 1 [1], withRecov (inMode .recovery) { phase := 1, length := 2, buf := [7] }, (by decide +kernel), (by decide +kernel),
    (by decide +kernel), (by decide +kernel), (by decide +kernel), (by decide +kernel), (by decide +kernel), (by decide +kernel),
    (by decide +kernel)⟩,
  ⟨recq 1 [1], inMode .recovery, (by decide +kernel), (by decide +kernel), (by decide +kernel), (by decide +kernel), (by decide +kernel)⟩,
  ⟨recq 0 idBlock, inMode .recovery, (by decide +kernel), (by decide +kernel), (recq_crc _ idBlock_crc), idBlock_length, idBlock_ok⟩,
  ⟨withRecov (inMode .recovery) { phase := 1, length := 2, buf := [7] }, (by decide +kernel), (by decide +kernel), (by decide +kernel)⟩,
  ⟨fwFile 4096, withRecov (inMode .recovery) { phase := 1, length := 1, buf := [7] }, _, (by decide +kernel), (by decide +kernel),
    (by decide +kernel), (by decide +kernel), rfl⟩,
  ⟨{ fwFile 4096 with verdict := 2 }, (by decide +kernel)⟩,
  ⟨fwFile 4096, false, (by decide +kernel), (by decide +kernel)⟩,
  ⟨fwFile 4096, true, (by decide +kernel), (by decide +kernel)⟩,
  ⟨rdy, (by decide +kernel)⟩,
  ⟨atTime 1000000001 { inMode .recovery with boot := { rdy.boot with lineAt := 1 } }, (by decide +kernel), (by decide +kernel)⟩,
  ⟨atTime 1000000000 { inMode .recovery with boot := { rdy.boot with lineAt := 1 } }, (by decide +kernel), (by decide +kernel),
    (by decide +kernel)⟩⟩

/-- States and operands that meet the hypotheses of each clause of `NetworkCommandsSetTheirTables`. -/
theorem witness_NetworkCommandsSetTheirTables :
  (∃ (c : Cmd) (s u : State) (k : Nat) (m e0 e1 : Bool) (w w2 : W32) (xs : List Nat), u = takeCmd c s ∧ Taken 0x0200 c s ∧ k = fld (cw c
    2) 1 0 ∧ m = bitOf (cw c 2) 4 ∧ e0 = bitOf (cw c 2) 8 ∧ e1 = bitOf (cw c 2) 9 ∧ w = cw c 3 ∧ w2 = cw c 2 ∧ (m = true → e1 = false) ∧
    phyOk m (fld w 3 0) (fld w 5 4) = true ∧ (m = false → phyOk m (fld w 11 8) (fld w 13 12) = true) ∧ ((e0 = true ∨ e1 = true) → bitOf
    s.pwr.domains 4 = true ∧ bitOf s.pwr.iso 4 = false) ∧ laneBroken u (portLanes k m e0 e1) = none ∧ xs = (portLanes k m e0 e1).filter
    (fun i => laneState u i == 6) ∧ (m = pair100 s k ∨ ((netGet s (2 * k)).en = false ∧ (netGet s (2 * k + 1)).en = false ∧
    (s.net.flows.any fun x => flValidB x.2.rcd && flPorts x.2.rcd / 2 ^ (2 * k) % 4 != 0) = false)) ∧ xs = []) ∧
  (∃ (c : Cmd) (s u : State) (k : Nat) (m e0 e1 : Bool) (w w2 : W32) (xs : List Nat), u = takeCmd c s ∧ Taken 0x0200 c s ∧ k = fld (cw c
    2) 1 0 ∧ m = bitOf (cw c 2) 4 ∧ e0 = bitOf (cw c 2) 8 ∧ e1 = bitOf (cw c 2) 9 ∧ w = cw c 3 ∧ w2 = cw c 2 ∧ (m = true → e1 = false) ∧
    phyOk m (fld w 3 0) (fld w 5 4) = true ∧ (m = false → phyOk m (fld w 11 8) (fld w 13 12) = true) ∧ ((e0 = true ∨ e1 = true) → bitOf
    s.pwr.domains 4 = true ∧ bitOf s.pwr.iso 4 = false) ∧ laneBroken u (portLanes k m e0 e1) = none ∧ xs = (portLanes k m e0 e1).filter
    (fun i => laneState u i == 6) ∧ (m = pair100 s k ∨ ((netGet s (2 * k)).en = false ∧ (netGet s (2 * k + 1)).en = false ∧
    (s.net.flows.any fun x => flValidB x.2.rcd && flPorts x.2.rcd / 2 ^ (2 * k) % 4 != 0) = false)) ∧ xs ≠ []) ∧
  (∃ (c : Cmd) (s u : State) (k : Nat) (m e0 e1 : Bool) (w w2 : W32) (xs : List Nat), u = takeCmd c s ∧ Taken 0x0200 c s ∧ k = fld (cw c
    2) 1 0 ∧ m = bitOf (cw c 2) 4 ∧ e0 = bitOf (cw c 2) 8 ∧ e1 = bitOf (cw c 2) 9 ∧ w = cw c 3 ∧ w2 = cw c 2 ∧ (m = true → e1 = false) ∧
    phyOk m (fld w 3 0) (fld w 5 4) = true ∧ (m = false → phyOk m (fld w 11 8) (fld w 13 12) = true) ∧ ((e0 = true ∨ e1 = true) → bitOf
    s.pwr.domains 4 = true ∧ bitOf s.pwr.iso 4 = false) ∧ laneBroken u (portLanes k m e0 e1) = none ∧ xs = (portLanes k m e0 e1).filter
    (fun i => laneState u i == 6) ∧ m ≠ pair100 s k ∧ (netGet s (2 * k)).en = true) ∧
  (∃ (w2 : W32) (s : State) (k : Nat), k = fld w2 1 0 ∧ (bitOf w2 8 = true ∨ (netGet s (2 * k)).up = false) ∧ (bitOf w2 9 = true ∨ (netGet
    s (2 * k + 1)).up = false) ∧ (bitOf w2 8 = true → (netGet s (2 * k)).en = true) ∧ (bitOf w2 9 = true → (netGet s (2 * k + 1)).en =
    true)) ∧
  (∃ (p : Nat) (s : State), (netGet s p).en = false) ∧
  (∃ (c : Cmd) (s u : State) (p i mac : Nat), u = takeCmd c s ∧ Taken 0x0201 c s ∧ p = fld (cw c 2) 2 0 ∧ i = fld (cw c 2) 19 16 ∧ mac =
    macOf (cw c 3) (cw c 4) ∧ bitOf (cw c 2) 8 = true) ∧
  (∃ (c : Cmd) (s u : State) (p i mac : Nat), u = takeCmd c s ∧ Taken 0x0201 c s ∧ p = fld (cw c 2) 2 0 ∧ i = fld (cw c 2) 19 16 ∧ mac =
    macOf (cw c 3) (cw c 4) ∧ bitOf (cw c 2) 8 = false ∧ i ≤ 3) ∧
  (∃ (c : Cmd) (s u : State) (p i mac : Nat), u = takeCmd c s ∧ Taken 0x0201 c s ∧ p = fld (cw c 2) 2 0 ∧ i = fld (cw c 2) 19 16 ∧ mac =
    macOf (cw c 3) (cw c 4) ∧ bitOf (cw c 2) 8 = false ∧ 3 < i) ∧
  (∃ (c : Cmd) (s u : State) (k : Nat) (x : PktClass), u = takeCmd c s ∧ Taken 0x0204 c s ∧ k = (cw c 2).toNat ∧ x = classRefill (classGet
    s k) (t2Ns s) ∧ k ≤ 6 ∧ (cw c 4).toNat ≤ 1000000 ∧ 1 ≤ (cw c 5).toNat ∧ (cw c 5).toNat ≤ 4096) ∧
  (∃ (c : Cmd) (s u : State) (k : Nat) (x : PktClass), u = takeCmd c s ∧ Taken 0x0204 c s ∧ k = (cw c 2).toNat ∧ x = classRefill (classGet
    s k) (t2Ns s) ∧ k ≤ 6 ∧ (cw c 4).toNat ≤ 1000000 ∧ cw c 5 = 0) ∧
  (∃ (c : Cmd) (s u : State) (k : Nat) (x : PktClass), u = takeCmd c s ∧ Taken 0x0204 c s ∧ k = (cw c 2).toNat ∧ x = classRefill (classGet
    s k) (t2Ns s) ∧ 6 < k) ∧
  (∃ (c : Cmd) (s u : State) (n : Nat) (r : List Byte), u = takeCmd c s ∧ Taken 0x0202 c s ∧ n = fld (cw c 4) 9 0 ∧ r = padB 64 (crec c) ∧
    c.port = .pf0 ∧ flValidB r = false ∧ isLive (strGet s (flStream r)) = false) ∧
  (∃ (c : Cmd) (s u : State) (n : Nat) (r : List Byte), u = takeCmd c s ∧ Taken 0x0202 c s ∧ n = fld (cw c 4) 9 0 ∧ r = padB 64 (crec c) ∧
    c.port = .pf0 ∧ ((flValidB r = false ∧ isLive (strGet s (flStream r)) = true) ∨ (flValidB r = true ∧ flowBad r s = none ∧ flowConflict
    n r s = false))) ∧
  (∃ (c : Cmd) (s u : State) (n : Nat) (r : List Byte) (x : _), u = takeCmd c s ∧ Taken 0x0202 c s ∧ n = fld (cw c 4) 9 0 ∧ r = padB 64
    (crec c) ∧ c.port = .pf0 ∧ flValidB r = true ∧ flowBad r s = some x) ∧
  (∃ (c : Cmd) (s u : State) (n : Nat) (r : List Byte), u = takeCmd c s ∧ Taken 0x0202 c s ∧ n = fld (cw c 4) 9 0 ∧ r = padB 64 (crec c) ∧
    flValidB r = true ∧ isLive (strGet s (flStream r)) = false) ∧
  (∃ (c : Cmd) (s u : State) (n : Nat) (r : List Byte), u = takeCmd c s ∧ Taken 0x0202 c s ∧ n = fld (cw c 4) 9 0 ∧ r = padB 64 (crec c) ∧
    c.port = .pf0 ∧ flValidB r = true ∧ flowBad r s = none ∧ flowConflict n r s = true) ∧
  (∃ (c : Cmd) (s u : State) (n : Nat) (r : List Byte), u = takeCmd c s ∧ Taken 0x0202 c s ∧ n = fld (cw c 4) 9 0 ∧ r = padB 64 (crec c) ∧
    c.port = .pf1 ∧ (strGet s (flStream r)).opener ≠ .pf1) ∧
  (∃ (c : Cmd) (s u : State) (n : Nat), u = takeCmd c s ∧ Taken 0x0203 c s ∧ n = fld (cw c 4) 9 0 ∧ c.port = .pf0) ∧
  (∃ (c : Cmd) (s : State) (n : Nat), Taken 0x0203 c s ∧ n = fld (cw c 4) 9 0 ∧ c.port = .pf1 ∧ (∀ x, tfind n s.net.flows = some x →
    (strGet s (flStream x.rcd)).opener ≠ .pf1)) ∧
  (∃ (n m : Nat), m ≠ n) :=
  ⟨⟨cmd .pf0 [(2,0x203),(3,0x2402)], laneUpd 71 (fun x => { x with cal := true }) (netOn), _, _, _, _, _, _, _, _, rfl,
    (by decide +kernel), rfl, rfl, rfl, rfl, rfl, rfl, (by decide +kernel), (by decide +kernel), (by decide +kernel), (by decide +kernel),
    (by decide +kernel), rfl, (by decide +kernel), (by decide +kernel)⟩,
  ⟨cmd .pf0 [(2,0x113),(3,0x3)], lanesAll { cal := true }, _, _, _, _, _, _, _, _, rfl, (by decide +kernel), rfl, rfl, rfl, rfl, rfl, rfl,
    (by decide +kernel), (by decide +kernel), (by decide +kernel), (by decide +kernel), (by decide +kernel), rfl, (by decide +kernel),
    (by decide +kernel)⟩,
  ⟨cmd .pf0 [(2,0x113)], { lanesAll { cal := true } with net := { rdy.net with ports := [(6, { en := true })] } }, _, _, _, _, _, _, _, _,
    rfl, (by decide +kernel), rfl, rfl, rfl, rfl, rfl, rfl, (by decide +kernel), (by decide +kernel), (by decide +kernel),
    (by decide +kernel), (by decide +kernel), rfl, (by decide +kernel), (by decide +kernel)⟩,
  ⟨0x203, netOn, _, rfl, (by decide +kernel), (by decide +kernel), (by decide +kernel), (by decide +kernel)⟩,
  ⟨7, rdy, (by decide +kernel)⟩,
  ⟨cmd .pf0 [(2,0xF0107),(5,1)], rdy, _, _, _, _, rfl, (by decide +kernel), rfl, rfl, rfl, (by decide +kernel)⟩,
  ⟨cmd .pf0 [(2,0x30007),(5,1)], rdy, _, _, _, _, rfl, (by decide +kernel), rfl, rfl, rfl, (by decide +kernel), (by decide +kernel)⟩,
  ⟨cmd .pf0 [(2,0x40007),(5,1)], rdy, _, _, _, _, rfl, (by decide +kernel), rfl, rfl, rfl, (by decide +kernel), (by decide +kernel)⟩,
  ⟨cmd .pf0 [(2,6),(3,0x101),(4,1000000),(5,4096)], rdy, _, _, _, rfl, (by decide +kernel), rfl, rfl, (by decide +kernel),
    (by decide +kernel), (by decide +kernel), (by decide +kernel)⟩,
  ⟨cmd .pf0 [(2,6),(4,1000000)], rdy, _, _, _, rfl, (by decide +kernel), rfl, rfl, (by decide +kernel), (by decide +kernel),
    (by decide +kernel)⟩,
  ⟨cmd .pf0 [(2,7)], rdy, _, _, _, rfl, (by decide +kernel), rfl, rfl, (by decide +kernel)⟩,
  ⟨cmd .pf0 [(4,1023)] (recd 16 []), rdy, _, _, _, rfl, (by decide +kernel), rfl, rfl, (by decide +kernel), (by decide +kernel),
    (by decide +kernel)⟩,
  ⟨cmd .pf0 [(4,1023)] flowRec, strOn 255 0, _, _, _, rfl, (by decide +kernel), rfl, rfl, (by decide +kernel), (by decide +kernel)⟩,
  ⟨cmd .pf0 [(4,1023)] flowRec, rdy, _, _, _, _, rfl, (by decide +kernel), rfl, rfl, (by decide +kernel), (by decide +kernel),
    (Option.some_get (by decide +kernel)).symm⟩,
  ⟨cmd .pf1 [(4,1023)] flowRec, rdy, _, _, _, rfl, (by decide +kernel), rfl, rfl, (by decide +kernel), (by decide +kernel)⟩,
  ⟨cmd .pf0 [(4,1022)] flowRec, strOn 255 0 netOn, _, _, _, rfl, (by decide +kernel), rfl, rfl, (by decide +kernel), (by decide +kernel),
    (by decide +kernel), (by decide +kernel)⟩,
  ⟨cmd .pf1 [(4,1022)] flowRec, strOn 255 0, _, _, _, rfl, (by decide +kernel), rfl, rfl, (by decide +kernel), (by decide +kernel)⟩,
  ⟨cmd .pf0 [(4,1023)], netOn, _, _, rfl, (by decide +kernel), rfl, (by decide +kernel)⟩,
  ⟨cmd .pf1 [(4,1023)], rdy, _, (by decide +kernel), rfl, (by decide +kernel), (fun _ h => nomatch h)⟩,
  ⟨1023, 0, (by decide +kernel)⟩⟩

/-- States and operands that meet the hypotheses of each clause of `ReceptionIsCheckedCountedAndRouted`. -/
theorem witness_ReceptionIsCheckedCountedAndRouted :
  (∃ (p : Nat) (s : State), p < 8 ∧ ((netGet s p).en = false ∨ (netGet s p).up = false ∨ works s 4 = false)) ∧
  (∃ (p : Nat) (f : EthFrame) (s : State), p < 8 ∧ (netGet s p).en = true ∧ (netGet s p).up = true ∧ works s 4 = true ∧ (∀ i ∈
    portLaneList s p, laneOut s i = false) ∧ f.faults = [] ∧ f.fcsOk = false) ∧
  (∃ (p : Nat) (f : EthFrame) (s : State), p < 8 ∧ (netGet s p).en = true ∧ (netGet s p).up = true ∧ works s 4 = true ∧ (∀ i ∈
    portLaneList s p, laneOut s i = false) ∧ f.faults = [] ∧ f.fcsOk = true ∧ f.parityOk = false) ∧
  (∃ (p : Nat) (f : EthFrame) (s : State), p < 8 ∧ (netGet s p).en = true ∧ (netGet s p).up = true ∧ works s 4 = true ∧ (∀ i ∈
    portLaneList s p, laneOut s i = false) ∧ f.faults = [] ∧ f.fcsOk = true ∧ f.parityOk = true ∧ f.body = .pause) ∧
  (∃ (p : Nat) (f : EthFrame) (s : State), p < 8 ∧ (netGet s p).en = true ∧ (netGet s p).up = true ∧ works s 4 = true ∧ (∀ i ∈
    portLaneList s p, laneOut s i = false) ∧ f.faults = [] ∧ f.fcsOk = true ∧ f.parityOk = true ∧ f.body ≠ .pause ∧ (9600 < f.len ∨ 1 <
    f.tags ∨ f.ipBad = true ∨ filterPass s p f = false)) ∧
  (∃ (p : Nat) (f : EthFrame) (s : State), p < 8 ∧ (netGet s p).en = true ∧ (netGet s p).up = true ∧ works s 4 = true ∧ (∀ i ∈
    portLaneList s p, laneOut s i = false) ∧ f.faults = [] ∧ f.fcsOk = true ∧ f.parityOk = true ∧ f.body ≠ .pause ∧ f.len ≤ 9600 ∧ f.tags
    ≤ 1 ∧ f.ipBad = false ∧ filterPass s p f = true) ∧
  (∃ (p : Nat) (f : EthFrame) (s : State) (k : _), bodyClass f.body = some k ∧ (∀ d, f.body = .udp d → flowLookup s p f d = none)) ∧
  (∃ (p : Nat) (f : EthFrame) (s : State) (d : _), f.body = .udp d ∧ flowLookup s p f d = none ∧ bodyClass f.body = none ∧ isUnicast s p
    f.dst = false ∧ f.dst ≠ macBroadcast) ∧
  (∃ (p : Nat) (f : EthFrame) (s : State) (d n x : _), f.body = .udp d ∧ flowLookup s p f d = some (n, x) ∧ flChecks x.rcd d = false) ∧
  (∃ (p : Nat) (f : EthFrame) (s : State) (d n x h : _), f.body = .udp d ∧ flowLookup s p f d = some (n, x) ∧ flChecks x.rcd d = true ∧
    flKind x.rcd ≠ 3 ∧ d.rtp = some h) ∧
  (∃ (s : State) (k : _), ((classRefill (classGet s k) (t2Ns s)).rate = 0 ∨ (classRefill (classGet s k) (t2Ns s)).tokens < 1000000000)) ∧
  (∃ (p : Nat) (s : State), p < 8 ∧ (netGet s p).up = false ∧ (netGet s p).en = true ∧ (∀ i ∈ portLaneList s p, (laneGet s i).ovl ≠ 4)) ∧
  (∃ (p : Nat) (s : State), p < 8 ∧ (netGet s p).up = true) ∧
  (∃ (p : Nat) (s : State) (b : _), p < 8 ∧ (netGet s p).up = b) ∧
  (∃ (k : Nat) (s : State) (e : StreamE), e = strGet s k ∧ strFormat e < 4 ∧ (∀ v ∈ e.opens, holdOver e (t2Ns s) v = false)) ∧
  (∃ (k : Nat) (s : State) (e : StreamE), e = strGet s k ∧ 4 ≤ strFormat e) ∧
  (∃ (k : Nat) (s : State) (e : StreamE), e = strGet s k ∧ strFormat e ≠ 4 ∧ strFormat e ≠ 5) ∧
  (∃ (k : Nat) (s : State) (e : StreamE), e = strGet s k ∧ (∀ v ∈ e.opens, holdOver e (t2Ns s) v = false ∧ t2Ns s < v.openedAt + 2 * (leAt
    v.rcd 8 8 / 2 ^ 32) + holdNs e v)) ∧
  (∃ (k : Nat) (s : State) (e : StreamE) (v : OpenUnit) (noWait : AccUnit → AccUnit), e = strGet s k ∧ (∀ b, noWait b =
    { b with waitAt := none }) ∧ e.opens = [v] ∧ v.dropped = false ∧ (e.wantRap = true ∨ (e.starting = true ∧ recWaitRap e.rcd = true) →
    v.rap = true) ∧ recClass e.rcd < 2 ∧ bufUsed e + ((auHeld e v).flatMap Held.bytes).length ≤ recBitbuf e.rcd * 2 ^ 20 ∧ (e.merged =
    true → e.pathA.up = true → t2Ns s < e.pathA.at_ + recPathLoss e.rcd * 1000000) ∧ (e.merged = true → e.pathB.up = true → t2Ns s <
    e.pathB.at_ + recPathLoss e.rcd * 1000000) ∧ (strFormat e < 4 ∧ holdOver e (t2Ns s) v = true)) ∧
  (∃ (k : Nat) (s : State) (e : StreamE) (v : OpenUnit) (noWait : AccUnit → AccUnit), e = strGet s k ∧ (∀ b, noWait b =
    { b with waitAt := none }) ∧ e.opens = [v] ∧ v.dropped = false ∧ (e.wantRap = true ∨ (e.starting = true ∧ recWaitRap e.rcd = true) →
    v.rap = true) ∧ recClass e.rcd < 2 ∧ bufUsed e + ((auHeld e v).flatMap Held.bytes).length ≤ recBitbuf e.rcd * 2 ^ 20 ∧ (e.merged =
    true → e.pathA.up = true → t2Ns s < e.pathA.at_ + recPathLoss e.rcd * 1000000) ∧ (e.merged = true → e.pathB.up = true → t2Ns s <
    e.pathB.at_ + recPathLoss e.rcd * 1000000) ∧ (strFormat e = 5 ∧ (holdOver e (t2Ns s) v = true ∨ v.openedAt + 2 * (leAt v.rcd 8 8 / 2 ^
    32) + holdNs e v ≤ t2Ns s))) ∧
  (∃ (k p : Nat) (s : State) (e : StreamE) (x : Path), p < 2 ∧ e = strGet s k ∧ x = (if p = 0 then e.pathA else e.pathB) ∧ e.merged = true
    ∧ x.up = true ∧ x.at_ + recPathLoss e.rcd * 1000000 ≤ t2Ns s) ∧
  (∃ (k p : Nat) (s : State) (e : StreamE) (x : Path), p < 2 ∧ e = strGet s k ∧ x = (if p = 0 then e.pathA else e.pathB) ∧ (e.merged =
    false ∨ x.up = false ∨ t2Ns s < x.at_ + recPathLoss e.rcd * 1000000)) ∧
  (∃ (p : Nat) (s : State), p < 8 ∧ ((netGet s p).en = false ∨ t2Ns s < tget 0 s.net.statsAt p + s.net.statsMs * 1000000)) ∧
  (∃ (p : Nat) (s : State), p < 8 ∧ (netGet s p).en = true ∧ tget 0 s.net.statsAt p + s.net.statsMs * 1000000 ≤ t2Ns s) :=
  ⟨⟨7, rdy, (by decide +kernel), (by decide +kernel)⟩,
  ⟨7, { frm with fcs := 0 }, netOn, (by decide +kernel), (by decide +kernel), (by decide +kernel), (by decide +kernel),
    (by decide +kernel), (by decide +kernel), (by decide +kernel)⟩,
  ⟨7, { frm with parityOk := false }, netOn, (by decide +kernel), (by decide +kernel), (by decide +kernel), (by decide +kernel),
    (by decide +kernel), (by decide +kernel), (by decide +kernel), (by decide +kernel)⟩,
  ⟨7, fr (ethOf 0x8808 []), netOn, (by decide +kernel), (by decide +kernel), (by decide +kernel), (by decide +kernel),
    (by decide +kernel), (by decide +kernel), (by decide +kernel), (by decide +kernel), (by decide +kernel)⟩,
  ⟨7, fr (ethOf 0x8100 (be 2 0 ++ be 2 0x8100 ++ be 2 0 ++ be 2 0x0800)), netOn, (by decide +kernel), (by decide +kernel),
    (by decide +kernel), (by decide +kernel), (by decide +kernel), (by decide +kernel), (by decide +kernel), (by decide +kernel),
    (by decide +kernel), (by decide +kernel)⟩,
  ⟨7, frm, netOn, (by decide +kernel), (by decide +kernel), (by decide +kernel), (by decide +kernel), (by decide +kernel),
    (by decide +kernel), (by decide +kernel), (by decide +kernel), (by decide +kernel), (by decide +kernel), (by decide +kernel),
    (by decide +kernel), (by decide +kernel)⟩,
  ⟨7, arpFrm, netOn, 3, (by decide +kernel), (arp_no_udp _)⟩,
  ⟨7, frm, rdy, udp, (by decide +kernel), (by decide +kernel), (by decide +kernel), (by decide +kernel), (by decide +kernel)⟩,
  ⟨7, fr (ethOf 0x0800 (ip4 17 (udpTo 5004 []))), netOn, { udp with data := [] }, 1023, ({ rcd := flowRec } : Flow), (by decide +kernel),
    (by decide +kernel), (by decide +kernel)⟩,
  ⟨7, frm, netOn, udp, 1023, ({ rcd := flowRec } : Flow), _, (by decide +kernel), (by decide +kernel), (by decide +kernel),
    (by decide +kernel), (Option.some_get (by decide +kernel)).symm⟩,
  ⟨{ netOn with net := { rdy.net with classes := [(6, { rate := 1, tokens := 999999999 })] } }, 6, (by decide +kernel)⟩,
  ⟨7, { netOn with net := { rdy.net with ports := [(7, { en := true })] } }, (by decide +kernel), (by decide +kernel),
    (by decide +kernel), (by decide +kernel)⟩,
  ⟨7, netOn, (by decide +kernel), (by decide +kernel)⟩,
  ⟨7, netOn, true, (by decide +kernel), (by decide +kernel)⟩,
  ⟨255, strSet 255 { st := 1, rcd := strRec 0, opens := [{ unitOpen with markerAt := none }] } (atTime 999999999999 rdy), _, rfl,
    (by decide +kernel), (by decide +kernel)⟩,
  ⟨255, strOn 255 4, _, rfl, (by decide +kernel)⟩,
  ⟨255, strOn 255 0, _, rfl, (by decide +kernel), (by decide +kernel)⟩,
  ⟨255, strSet 255 { st := 1, rcd := strRec 5, opens := [{ unitOpen with rcd := strRec 5, markerAt := none }] } (atTime 33333333 rdy), _,
    rfl, (by decide +kernel)⟩,
  ⟨255, strSet 255 { st := 1, rcd := strRec 0, opens := [unitOpen] } (atTime 999999999999 rdy), _, unitOpen, fun b =>
    { b with waitAt := none }, rfl, (fun _ => rfl), (by decide +kernel), (by decide +kernel), (by decide +kernel), (by decide +kernel),
    (by decide +kernel), (by decide +kernel), (by decide +kernel), (by decide +kernel)⟩,
  ⟨255, strSet 255 { st := 1, rcd := strRec 5, opens := [{ unitOpen with rcd := strRec 5, markerAt := none }] } (atTime 33333334 rdy), _,
    { unitOpen with rcd := strRec 5, markerAt := none }, fun b => { b with waitAt := none }, rfl, (fun _ => rfl), (by decide +kernel),
    (by decide +kernel), (by decide +kernel), (by decide +kernel), (by decide +kernel), (by decide +kernel), (by decide +kernel),
    (by decide +kernel)⟩,
  ⟨255, 1, strSet 255 { st := 1, rcd := strRec 0, merged := true, pathB := { up := true } } (atTime 50000000 rdy), _, _,
    (by decide +kernel), rfl, rfl, (by decide +kernel), (by decide +kernel), (by decide +kernel)⟩,
  ⟨255, 1, strSet 255 { st := 1, rcd := strRec 0, merged := true, pathB := { up := true } } (atTime 49999999 rdy), _, _,
    (by decide +kernel), rfl, rfl, (by decide +kernel)⟩,
  ⟨7, atTime 999999999 netOn, (by decide +kernel), (by decide +kernel)⟩,
  ⟨7, atTime 1000000000 netOn, (by decide +kernel), (by decide +kernel), (by decide +kernel)⟩⟩

/-- States and operands that meet the hypotheses of each clause of `BasebandInputsFollowTheirRules`. -/
theorem witness_BasebandInputsFollowTheirRules :
  (∃ (c : Cmd) (s u : State) (q : Nat), u = takeCmd c s ∧ Taken 0x0205 c s ∧ q = fld (cw c 2) 1 0 ∧ (∀ j, j < 4 → (bbGet s (4 * q + j)).en
    = false)) ∧
  (∃ (c : Cmd) (s u : State) (q : Nat) (j : _), u = takeCmd c s ∧ Taken 0x0205 c s ∧ q = fld (cw c 2) 1 0 ∧ j < 4 ∧ (bbGet s (4 * q +
    j)).en = true ∧ (∀ i, i < j → (bbGet s (4 * q + i)).en = false)) ∧
  (∃ (c : Cmd) (s u : State) (n : Nat), u = takeCmd c s ∧ n = (cw c 4).toNat ∧ n ≤ 15 ∧ inputLanes s n ≠ 0 ∧ Taken 0x0206 c s ∧ (cw c
    5).toNat ≤ 1 ∧ (bbGet s n).en = false) ∧
  (∃ (c : Cmd) (s u : State) (n : Nat), u = takeCmd c s ∧ n = (cw c 4).toNat ∧ n ≤ 15 ∧ inputLanes s n ≠ 0 ∧ Taken 0x0207 c s ∧ bitOf
    s.pwr.domains 5 = true ∧ bitOf s.pwr.iso 5 = false ∧ (∀ j, j < inputLanes s n → (laneGet s (48 + n + j)).cal = true ∧ laneState u (48
    + n + j) ≠ 6)) ∧
  (∃ (c : Cmd) (s u : State) (n : Nat), u = takeCmd c s ∧ n = (cw c 4).toNat ∧ n ≤ 15 ∧ inputLanes s n ≠ 0 ∧ Taken 0x0207 c s ∧ bitOf
    s.pwr.domains 5 = false) ∧
  (∃ (c : Cmd) (s u : State) (n : Nat), u = takeCmd c s ∧ n = (cw c 4).toNat ∧ n ≤ 15 ∧ inputLanes s n ≠ 0 ∧ Taken 0x0208 c s ∧ (bbGet s
    n).trained = false) ∧
  (∃ (s : State) (o : Outst) (d : List Byte), loadOutst s = some o ∧ o.opcode = 0x0206 ∧ crc32c d ≠ o.arg.getD 1 0) ∧
  (∃ (s : State) (o : Outst) (d : List Byte), loadOutst s = some o ∧ o.opcode = 0x0206 ∧ crc32c d = o.arg.getD 1 0 ∧ o.arg.getD 0 0 = 1) ∧
  (∃ (s : State) (o : Outst) (d : List Byte), loadOutst s = some o ∧ o.opcode = 0x0206 ∧ crc32c d = o.arg.getD 1 0 ∧ o.arg.getD 0 0 = 0 ∧
    capBad d = none) ∧
  (∃ (n lanes rate : Nat) (s : State), (bbGet s n).en = true ∧ (bbGet s n).ihpd = true ∧ works s 5 = true ∧ n ≤ 15 ∧ 1 ≤ lanes ∧ lanes ≤
    inputLanes s n ∧ rate ≤ 6 ∧ inputUser s n = none) ∧
  (∃ (n lanes : Nat) (s : State), ((bbGet s n).en = false ∨ inputLanes s n < lanes)) ∧
  (∃ (n : Nat) (s : State), (bbGet s n).trained = true ∧ inputUser s n = none) ∧
  (∃ (n : Nat) (s : State), (bbGet s n).trained = false) ∧
  (∃ (n : Nat) (s : State), (bbGet s n).en = false) ∧
  (∃ (n : Nat) (x : AuxTrans) (s : State) (e : List Byte), (bbGet s n).en = true ∧ works s 5 = true ∧ inputLanes s n ≠ 0 ∧ x.len ≤ 16 ∧
    x.native = false ∧ x.write = false ∧ x.addr = 0x50 ∧ (bbGet s n).edid = some e) ∧
  (∃ (n : Nat) (x : AuxTrans) (s : State), (bbGet s n).en = true ∧ works s 5 = true ∧ inputLanes s n ≠ 0 ∧ x.len ≤ 16 ∧ x.native = true ∧
    x.write = true ∧ x.data.length ≤ x.len ∧ (∀ j, j < x.data.length → dpcdOwn (x.addr + j) = false)) ∧
  (∃ (n : Nat) (s : State), (bbGet s n).en = false) ∧
  (∃ (n : Nat) (s : State), ((bbGet s n).en = false ∨ (bbGet s n).trained = false ∨ (bbGet s n).d3 = true)) ∧
  (∃ (n : Nat) (f : BbFrame) (s : State), (bbGet s n).en = true ∧ (bbGet s n).trained = true ∧ (bbGet s n).d3 = false ∧ works s 5 = true ∧
    s.pwr.mode ≠ .bindOff ∧ n ≤ 15 ∧ inputLanes s n ≠ 0 ∧ (∀ i ∈ inputLaneList s n, laneOut s i = false) ∧ bbExcluded s n f = false ∧
    (bbGet s n).unsupported = false ∧ inputUser s n = none) ∧
  (∃ (n : Nat) (f : BbFrame) (s : State) (k : _), (bbGet s n).en = true ∧ (bbGet s n).trained = true ∧ (bbGet s n).d3 = false ∧ works s 5
    = true ∧ s.pwr.mode ≠ .bindOff ∧ n ≤ 15 ∧ inputLanes s n ≠ 0 ∧ (∀ i ∈ inputLaneList s n, laneOut s i = false) ∧ bbExcluded s n f =
    false ∧ (bbGet s n).unsupported = false ∧ inputUser s n = some k ∧ (strGet s k).st = 1) :=
  ⟨⟨cmd .pf0 [(2,0x33)], rdy, _, _, rfl, (by decide +kernel), rfl, (by decide +kernel)⟩,
  ⟨cmd .pf0 [(2,0x33)], bbOf 15 { en := true }, _, _, 3, rfl, (by decide +kernel), rfl, (by decide +kernel), (by decide +kernel),
    (by decide +kernel)⟩,
  ⟨cmd .pf0 [(4,12),(5,1)], rdy, _, 12, rfl, (by decide +kernel), (by decide +kernel), (by decide +kernel), (by decide +kernel),
    (by decide +kernel), (by decide +kernel)⟩,
  ⟨cmd .pf0 [(4,12)], { lanesAll { cal := true } with bb := { rdy.bb with ins := [(12, { en := true })] } }, _, 12, rfl,
    (by decide +kernel), (by decide +kernel), (by decide +kernel), (by decide +kernel), (by decide +kernel), (by decide +kernel),
    (by decide +kernel)⟩,
  ⟨cmd .pf0 [(4,12)], { rdy with pwr := { rdy.pwr with domains := 0x7FDF } }, _, 12, rfl, (by decide +kernel), (by decide +kernel),
    (by decide +kernel), (by decide +kernel), (by decide +kernel)⟩,
  ⟨cmd .pf0 [(4,12)], bbOf 12 { en := true }, _, 12, rfl, (by decide +kernel), (by decide +kernel), (by decide +kernel),
    (by decide +kernel), (by decide +kernel)⟩,
  ⟨outst 0x0206 12 [0, 1], _, [], (Option.some_get (by decide +kernel)).symm, (by decide +kernel), (by decide +kernel)⟩,
  ⟨outst 0x0206 12 [1, crc32c [1]], _, [1], (Option.some_get (by decide +kernel)).symm, (by decide +kernel), (by decide +kernel),
    (by decide +kernel)⟩,
  ⟨outst 0x0206 12 [0, crc32c [1]], _, [1], (Option.some_get (by decide +kernel)).symm, (by decide +kernel), (by decide +kernel),
    (by decide +kernel), (by decide +kernel)⟩,
  ⟨12, 4, 6, bbOf 12 { en := true, ihpd := true }, (by decide +kernel), (by decide +kernel), (by decide +kernel), (by decide +kernel),
    (by decide +kernel), (by decide +kernel), (by decide +kernel), (by decide +kernel)⟩,
  ⟨12, 5, rdy, (by decide +kernel)⟩,
  ⟨12, bbOf 12 { trained := true }, (by decide +kernel), (by decide +kernel)⟩,
  ⟨12, rdy, (by decide +kernel)⟩,
  ⟨12, rdy, (by decide +kernel)⟩,
  ⟨12, { native := false, write := false, addr := 0x50, len := 16 }, bbOf 12 { en := true, edid := some [0] }, [0], (by decide +kernel),
    (by decide +kernel), (by decide +kernel), (by decide +kernel), (by decide +kernel), (by decide +kernel), (by decide +kernel),
    (by decide +kernel)⟩,
  ⟨12, { write := true, addr := 0x300, len := 16, data := List.replicate 16 0, native := Bool.not false }, bbOf 12 { en := true },
    (by decide +kernel), (by decide +kernel), (by decide +kernel), (by decide +kernel), (by decide +kernel), (by decide +kernel),
    (by decide +kernel), (by decide +kernel)⟩,
  ⟨12, rdy, (by decide +kernel)⟩,
  ⟨12, bbOf 12 { en := true, trained := true, d3 := true }, (by decide +kernel)⟩,
  ⟨12, bbFrm, bbOf 12 { en := true, trained := true }, (by decide +kernel), (by decide +kernel), (by decide +kernel), (by decide +kernel),
    (by decide +kernel), (by decide +kernel), (by decide +kernel), (by decide +kernel), (by decide +kernel), (by decide +kernel),
    (by decide +kernel)⟩,
  ⟨12, bbFrm, strSet 255 { st := 1, rcd := recd 32 [(0, 0x60000000), (16, 0xC00)] } (bbOf 12 { en := true, trained := true }), 255,
    (by decide +kernel), (by decide +kernel), (by decide +kernel), (by decide +kernel), (by decide +kernel), (by decide +kernel),
    (by decide +kernel), (by decide +kernel), (by decide +kernel), (by decide +kernel), (by decide +kernel), (by decide +kernel)⟩⟩

/-- States and operands that meet the hypotheses of each clause of `StreamCommandsFollowTheirRules`. -/
theorem witness_StreamCommandsFollowTheirRules :
  (∃ (c : Cmd) (s u : State) (k : Nat) (r : List Byte) (home : _), u = takeCmd c s ∧ Taken 0x0300 c s ∧ k = strNo c ∧ r = normRecord (crec
    c) ∧ c.port = .pf0 ∧ recordBad r = none ∧ (strGet s k).st = 0 ∧ recFld r 0 31 28 ≠ 6 ∧ supplyMet u (supplyNeeds 0x0300 opStreamOpen c
    u) = true ∧ admitStream u u.str.ents r true = .ok home) ∧
  (∃ (c : Cmd) (s u : State) (k : Nat) (r : List Byte), u = takeCmd c s ∧ Taken 0x0300 c s ∧ k = strNo c ∧ r = normRecord (crec c) ∧
    c.port = .pf0 ∧ recordBad r = none ∧ (strGet s k).st = 0 ∧ recFld r 0 31 28 = 6 ∧ (bbGet s (recBbInput r)).trained = false ∧ inputUser
    s (recBbInput r) = none ∧ supplyMet u (supplyNeeds 0x0300 opStreamOpen c u) = true) ∧
  (∃ (c : Cmd) (s u : State) (k : Nat) (r : List Byte) (n : _), u = takeCmd c s ∧ Taken 0x0300 c s ∧ k = strNo c ∧ r = normRecord (crec c)
    ∧ c.port = .pf0 ∧ recordBad r = some n) ∧
  (∃ (c : Cmd) (s u : State) (k : Nat) (r : List Byte), u = takeCmd c s ∧ Taken 0x0300 c s ∧ k = strNo c ∧ r = normRecord (crec c) ∧
    c.port = .pf0 ∧ recordBad r = none ∧ (strGet s k).st ≠ 0) ∧
  (∃ (c : Cmd) (s u : State) (k : Nat) (r : List Byte) (x : Reply), u = takeCmd c s ∧ Taken 0x0300 c s ∧ k = strNo c ∧ r = normRecord
    (crec c) ∧ c.port = .pf0 ∧ recordBad r = none ∧ (strGet s k).st = 0 ∧ recFld r 0 31 28 ≠ 6 ∧ admitStream u u.str.ents r true = .no x) ∧
  (∃ (c : Cmd) (s u : State) (k : Nat) (e : StreamE) (r cur : List Byte), u = takeCmd c s ∧ Taken 0x0301 c s ∧ k = strNo c ∧ e = strGet s
    k ∧ r = normRecord (crec c) ∧ cur = e.next.getD e.rcd ∧ c.port = .pf0 ∧ e.st ≠ 0 ∧ e.st ≠ 5 ∧ recordBad r = none ∧ reopenDiffers cur r
    = none ∧ recFld cur 0 25 15 = recFld r 0 25 15 ∧ s.str.shed = [] ∧ supplyMet u (supplyNeeds 0x0301 opStreamModify c u) = true) ∧
  (∃ (c : Cmd) (s u : State) (k : Nat) (e : StreamE) (r cur : List Byte) (n : _), u = takeCmd c s ∧ Taken 0x0301 c s ∧ k = strNo c ∧ e =
    strGet s k ∧ r = normRecord (crec c) ∧ cur = e.next.getD e.rcd ∧ c.port = .pf0 ∧ e.st ≠ 0 ∧ e.st ≠ 5 ∧ recordBad r = none ∧
    reopenDiffers cur r = some n) ∧
  (∃ (c : Cmd) (s u : State) (k : Nat), u = takeCmd c s ∧ k = strNo c ∧ c.port = .pf0 ∧ (strGet s k).st ≠ 0 ∧ (strGet s k).st ≠ 5 ∧ Taken
    0x0302 c s) ∧
  (∃ (c : Cmd) (s u : State) (k : Nat), u = takeCmd c s ∧ k = strNo c ∧ c.port = .pf0 ∧ (strGet s k).st ≠ 0 ∧ (strGet s k).st ≠ 5 ∧ Taken
    0x0303 c s ∧ (cw c 8).toNat < 1000000000) ∧
  (∃ (c : Cmd) (s u : State), u = takeCmd c s ∧ ((strGet s (strNo c)).st = 0 ∨ (strGet s (strNo c)).st = 5) ∧ Taken 0x0302 c s) ∧
  (∃ (c : Cmd) (s u : State), u = takeCmd c s ∧ ((strGet s (strNo c)).st = 0 ∨ (strGet s (strNo c)).st = 5) ∧ Taken 0x0303 c s) ∧
  (∃ (c : Cmd) (s u : State), u = takeCmd c s ∧ ((strGet s (strNo c)).st = 0 ∨ (strGet s (strNo c)).st = 5) ∧ Taken 0x0301 c s) ∧
  (∃ (k : Nat) (s : State), (strGet s k).st = 5 ∧ (readFrames s k = [] ∨ (strGet s k).closedAt + 2 * slowestPeriod s ≤ t2Ns s)) ∧
  (∃ (k : Nat) (s : State), ((strGet s k).st ≠ 5 ∨ (readFrames s k ≠ [] ∧ t2Ns s < (strGet s k).closedAt + 2 * slowestPeriod s))) ∧
  (∃ (k : Nat) (s : State) (a : _), (strGet s k).anchor = some a ∧ a.at_ + recAnchorLife (strGet s k).rcd * 1000000000 < t2Ns s) ∧
  (∃ (k : Nat) (s : State) (a : _), (strGet s k).anchor = some a ∧ t2Ns s ≤ a.at_ + recAnchorLife (strGet s k).rcd * 1000000000) ∧
  (∃ (k : Nat) (s : State), (strGet s k).anchor = none) ∧
  (∃ (c : Cmd) (s u : State), u = takeCmd c s ∧ Taken 0x0307 c s) ∧
  (∃ (c : Cmd) (s u : State) (n : Nat) (old : Watch) (new : WatchCfg), u = takeCmd c s ∧ Taken 0x0304 c s ∧ n = fld (cw c 2) 8 0 ∧ old =
    tget {} s.str.watches n ∧ new = watchNew c ∧ 1 ≤ new.w ∧ new.w ≤ 256 ∧ 1 ≤ new.h ∧ new.h ≤ 64 ∧ 100 ≤ new.period ∧ new.period ≤ 60000
    ∧ new.cntThr ≤ 16384 ∧ ((watchLast old).stream = new.stream ∨ windowNamed u (watchLast old).stream n = false)) ∧
  (∃ (c : Cmd) (s u : State) (n : Nat) (old : Watch) (new : WatchCfg), u = takeCmd c s ∧ Taken 0x0304 c s ∧ n = fld (cw c 2) 8 0 ∧ old =
    tget {} s.str.watches n ∧ new = watchNew c ∧ 1 ≤ new.w ∧ new.w ≤ 256 ∧ 1 ≤ new.h ∧ new.h ≤ 64 ∧ 100 ≤ new.period ∧ new.period ≤ 60000
    ∧ new.cntThr ≤ 16384 ∧ (watchLast old).stream ≠ new.stream ∧ windowNamed u (watchLast old).stream n = true) ∧
  (∃ (k num first : Nat) (restart : Bool) (w : Watch) (c : WatchCfg), w.next = some (first, restart, c) ∧ c.stream = k ∧ first ≤ num ∧
    restart = true) ∧
  (∃ (k num first : Nat) (restart : Bool) (w : Watch) (c : WatchCfg), w.next = some (first, restart, c) ∧ c.stream = k ∧ first ≤ num ∧
    restart = false) ∧
  (∃ (k num first : Nat) (restart : Bool) (w : Watch) (c : WatchCfg), w.next = some (first, restart, c) ∧ (c.stream ≠ k ∨ num < first)) :=
  ⟨⟨cmd .pf0 [(4,255)] (strRec 0), gauged rdy, _, _, _, ([] : List Nat), rfl, (by decide +kernel), rfl, rfl, (by decide +kernel),
    (by decide +kernel), (by decide +kernel), (by decide +kernel), (by decide +kernel), (by decide +kernel)⟩,
  ⟨cmd .pf0 [(4,255)] (strRec 6), rdy, _, _, _, rfl, (by decide +kernel), rfl, rfl, (by decide +kernel), (by decide +kernel),
    (by decide +kernel), (by decide +kernel), (by decide +kernel), (by decide +kernel), (by decide +kernel)⟩,
  ⟨cmd .pf0 [(4,255)] (recd 32 [(0, 0x70000000)]), rdy, _, _, _, _, rfl, (by decide +kernel), rfl, rfl, (by decide +kernel),
    (Option.some_get (by decide +kernel)).symm⟩,
  ⟨cmd .pf0 [(4,255)] (strRec 4), strOn 255 4, _, _, _, rfl, (by decide +kernel), rfl, rfl, (by decide +kernel), (by decide +kernel),
    (by decide +kernel)⟩,
  ⟨cmd .pf0 [(4,255)] (strRec 0), { rdy with pwr := { rdy.pwr with domains := 0x7F3F } }, _, _, _, overCap, rfl, (by decide +kernel), rfl,
    rfl, (by decide +kernel), (by decide +kernel), (by decide +kernel), (by decide +kernel), (by decide +kernel)⟩,
  ⟨cmd .pf0 [(4,255)] (strRec 4), strOn 255 4, _, _, _, _, _, rfl, (by decide +kernel), rfl, rfl, rfl, rfl, (by decide +kernel),
    (by decide +kernel), (by decide +kernel), (by decide +kernel), (by decide +kernel), (by decide +kernel), (by decide +kernel),
    (by decide +kernel)⟩,
  ⟨cmd .pf0 [(4,255)] (strRec 4), strOn 255 0, _, _, _, _, _, _, rfl, (by decide +kernel), rfl, rfl, rfl, rfl, (by decide +kernel),
    (by decide +kernel), (by decide +kernel), (by decide +kernel), (Option.some_get (by decide +kernel)).symm⟩,
  ⟨cmd .pf0 [(4,255)], strOn 255 4, _, _, rfl, rfl, (by decide +kernel), (by decide +kernel), (by decide +kernel), (by decide +kernel)⟩,
  ⟨cmd .pf0 [(4,255),(8,999999999)], strOn 255 4, _, _, rfl, rfl, (by decide +kernel), (by decide +kernel), (by decide +kernel),
    (by decide +kernel), (by decide +kernel)⟩,
  ⟨cmd .pf0 [(4,255)], rdy, _, rfl, (by decide +kernel), (by decide +kernel)⟩,
  ⟨cmd .pf0 [(4,255)], rdy, _, rfl, (by decide +kernel), (by decide +kernel)⟩,
  ⟨cmd .pf0 [(4,255)], rdy, _, rfl, (by decide +kernel), (by decide +kernel)⟩,
  ⟨255, strSet 255 { st := 5 } rdy, (by decide +kernel), (by decide +kernel)⟩,
  ⟨255, rdy, (by decide +kernel)⟩,
  ⟨255, strSet 255 { st := 1, rcd := strRec 0, anchor := some ⟨0, 0, 0⟩ } (atTime 20000000001 rdy), (⟨0, 0, 0⟩ : Anchor),
    (by decide +kernel), (by decide +kernel)⟩,
  ⟨255, strSet 255 { st := 1, rcd := strRec 0, anchor := some ⟨0, 0, 0⟩ } (atTime 20000000000 rdy), (⟨0, 0, 0⟩ : Anchor),
    (by decide +kernel), (by decide +kernel)⟩,
  ⟨255, rdy, (by decide +kernel)⟩,
  ⟨cmd .pf0 [], rdy, _, rfl, (by decide +kernel)⟩,
  ⟨cmd .pf0 [(2,511),(3,255),(5,0x00010001),(6,100),(8,1)], rdy, _, _, _, _, rfl, (by decide +kernel), rfl, rfl, rfl, (by decide +kernel),
    (by decide +kernel), (by decide +kernel), (by decide +kernel), (by decide +kernel), (by decide +kernel), (by decide +kernel),
    (by decide +kernel)⟩,
  ⟨cmd .pf0 [(2,511),(3,255),(5,0x00010001),(6,100),(8,1)],
    { rdy with comp := { rdy.comp with ledger := { staging := [(0, recW 8 [(0, 0x80000000), (4, 0xFFFF01FF)])] } } }, _, _, _, _, rfl,
    (by decide +kernel), rfl, rfl, rfl, (by decide +kernel), (by decide +kernel), (by decide +kernel), (by decide +kernel),
    (by decide +kernel), (by decide +kernel), (by decide +kernel), (by decide +kernel), (by decide +kernel)⟩,
  ⟨255, 7, 7, true, ({ next := some (7, true, { stream := 255 }) } : Watch), ({ stream := 255 } : WatchCfg), (by decide +kernel),
    (by decide +kernel), (by decide +kernel), (by decide +kernel)⟩,
  ⟨255, 7, 7, false, ({ next := some (7, false, { stream := 255 }) } : Watch), ({ stream := 255 } : WatchCfg), (by decide +kernel),
    (by decide +kernel), (by decide +kernel), (by decide +kernel)⟩,
  ⟨255, 6, 7, false, ({ next := some (7, false, { stream := 255 }) } : Watch), ({ stream := 255 } : WatchCfg), (by decide +kernel),
    (by decide +kernel)⟩⟩

/-- States and operands that meet the hypotheses of each clause of `EnginesTakeAndFinishWork`. -/
theorem witness_EnginesTakeAndFinishWork :
  (∃ (c : Cmd) (s u : State) (n : Nat) (j : _), u = takeCmd c s ∧ n = fld (cw c 4) 4 0 ∧ n ≤ 23 ∧ Taken 0x0305 c s ∧ (engGet s n).st = 0 ∧
    (engGet s n).held = [] ∧ (s.str.ents.any fun x => x.2.st == 1 && decodes x.2 && !widthServed u n (recWidth x.2.rcd)) = false ∧ (engGet
    s n).job = some j) ∧
  (∃ (c : Cmd) (s u : State) (n : Nat), u = takeCmd c s ∧ n = fld (cw c 4) 4 0 ∧ n ≤ 23 ∧ Taken 0x0305 c s ∧ (engGet s n).st = 0 ∧ (engGet
    s n).held = [] ∧ (s.str.ents.any fun x => x.2.st == 1 && decodes x.2 && !widthServed u n (recWidth x.2.rcd)) = false ∧ (engGet s
    n).job = none) ∧
  (∃ (c : Cmd) (s u : State) (n : Nat), u = takeCmd c s ∧ n = fld (cw c 4) 4 0 ∧ n ≤ 23 ∧ Taken 0x0305 c s ∧ (engGet s n).st ≠ 0) ∧
  (∃ (c : Cmd) (s u : State) (n : Nat), u = takeCmd c s ∧ n = fld (cw c 4) 4 0 ∧ n ≤ 23 ∧ Taken 0x0306 c s ∧ ((engGet s n).st = 2 ∨
    (engGet s n).st = 4)) ∧
  (∃ (c : Cmd) (s u : State) (n : Nat), u = takeCmd c s ∧ n = fld (cw c 4) 4 0 ∧ n ≤ 23 ∧ Taken 0x0306 c s ∧ (engGet s n).st = 0) ∧
  (∃ (n : Nat) (s : State), (engGet s n).st = 3 ∧ s.str.shed = []) ∧
  (∃ (n : Nat) (s : State), (engGet s n).st ≠ 3) ∧
  (∃ (n : Nat) (s : State), engFree s n = false) ∧
  (∃ (n : Nat) (s : State) (k a : _), n < 16 ∧ engFree s n = true ∧ gangOf s n = none ∧ pinnedTo s n = [] ∧ readyAu (strGet s k) = some a
    ∧ bestOf ((readyList s).filter fun x => isPooled (strGet s x.1) && takesPooled s n (readyWidth s x.1) (strGet s x.1).rcd) = some k ∧
    (engGet s n).held = []) ∧
  (∃ (n : Nat) (s : State), (engGet s n).job = none) ∧
  (∃ (s : State), readyList s = []) ∧
  (∃ (n : Nat) (s : State) (j : _), (engGet s n).job = some j ∧ (engGet s n).st ≠ 0) ∧
  (∃ (n : Nat) (s : State) (j : _), (engGet s n).job = some j ∧ pinnedTo s n = [] ∧ gangOf s n = none ∧ runClass s (strGet s j.stream) <
    2) ∧
  (∃ (n : Nat) (s : State) (j : _), (engGet s n).job = some j ∧ pinnedTo s n = [] ∧ gangOf s n = none ∧ (engGet s n).st = 0 ∧ 2 ≤ runClass
    s (strGet s j.stream) ∧ (∃ x ∈ readyList s, runClass s (strGet s x.1) < 2 ∧ isPooled (strGet s x.1) = true ∧ takesAlone s n
    (readyWidth s x.1) (strGet s x.1).rcd = true)) ∧
  (∃ (n : Nat) (s : State), (engGet s n).job = none) ∧
  (∃ (n : Nat) (p : DecPicture) (s : State) (j a e : _), (engGet s n).job = some j ∧ e = strGet s j.stream ∧ (e.aus.find? fun a => a.num
    == j.au) = some a ∧ p.contextFailed = true ∧ j.loaded = true) ∧
  (∃ (n : Nat) (p : DecPicture) (s : State) (j a e : _), (engGet s n).job = some j ∧ e = strGet s j.stream ∧ (e.aus.find? fun a => a.num
    == j.au) = some a ∧ p.contextFailed = false ∧ p.showSlot = none ∧ pictureUnsupported e p = true ∧ e.st ≠ 3) ∧
  (∃ (n : Nat) (p : DecPicture) (s : State) (j a e slot : _), (engGet s n).job = some j ∧ e = strGet s j.stream ∧ (e.aus.find? fun a =>
    a.num == j.au) = some a ∧ p.contextFailed = false ∧ p.showSlot = none ∧ p.last = true ∧ pictureUnsupported e p = false ∧ decSlot s
    j.stream = some slot ∧ e.st ≠ 3) ∧
  (∃ (n : Nat) (p : DecPicture) (s : State) (j a e slot : _), (engGet s n).job = some j ∧ e = strGet s j.stream ∧ (e.aus.find? fun a =>
    a.num == j.au) = some a ∧ p.contextFailed = false ∧ p.showSlot = none ∧ p.last = false ∧ pictureUnsupported e p = false ∧ decSlot s
    j.stream = some slot ∧ e.st ≠ 3) ∧
  (∃ (n : Nat) (p : DecPicture) (s : State) (j a e q x : _), (engGet s n).job = some j ∧ e = strGet s j.stream ∧ (e.aus.find? fun a =>
    a.num == j.au) = some a ∧ p.contextFailed = false ∧ strFormat e = 2 ∧ p.showSlot = some q ∧ p.last = true ∧ p.faults = [] ∧ tfind q
    e.slots = some x ∧ x.lost = false ∧ e.lastAu = some a.num) ∧
  (∃ (n : Nat) (s : State) (j a e : _), (engGet s n).job = some j ∧ e = strGet s j.stream ∧ (e.aus.find? fun a => a.num == j.au) = some a
    ∧ t2Ns s < j.startedAt + 4 * strPeriodNs e) ∧
  (∃ (n : Nat) (p : DecPicture) (s : State) (j a e slot dogs : _), (engGet s n).job = some j ∧ e = strGet s j.stream ∧ (e.aus.find? fun a
    => a.num == j.au) = some a ∧ decSlot s j.stream = some slot ∧ pictureUnsupported e p = false ∧ j.startedAt + 4 * strPeriodNs e ≤ t2Ns
    s ∧ dogs = ((engGet s n).wdogs.filter fun x => s.tb.t2.sec.toNat < x + 60) ++ [s.tb.t2.sec.toNat] ∧ dogs.length < 3) ∧
  (∃ (k : Nat) (s : State) (e : StreamE), e = strGet s k ∧ (readyAu e = none ∨ decSlot s k ≠ none)) ∧
  (∃ (k : Nat) (s : State) (e : StreamE) (a as : _), e = strGet s k ∧ e.aus = a :: as ∧ readyAu e = some a ∧ decSlot s k = none ∧ a.waitAt
    = none ∧ 0 < strPeriodNs e ∧ (∀ b ∈ as, b.num ≠ a.num)) ∧
  (∃ (k : Nat) (s : State) (e : StreamE) (a as x : _), e = strGet s k ∧ e.aus = a :: as ∧ readyAu e = some a ∧ decSlot s k = none ∧
    a.waitAt = some x ∧ a.stalled = false ∧ x + strPeriodNs e ≤ t2Ns s ∧ (∀ b ∈ as, b.num ≠ a.num)) ∧
  (∃ (k : Nat) (s : State) (e : StreamE) (t : _), e = strGet s k ∧ e.taintAt = some t ∧ isLive e = true ∧ e.refreshAt ≤ t2Ns s) ∧
  (∃ (k : Nat) (s : State) (e : StreamE), e = strGet s k ∧ (e.taintAt = none ∨ t2Ns s < e.refreshAt)) ∧
  (∃ (e : StreamE) (r : RefEntry) (x : RefSlot), strFormat e = 2 ∧ tfind r.key.toNat e.slots = some x ∧ r.id = none ∧ x.lost = true) ∧
  (∃ (p : DecPicture), p.grain = none) ∧
  (∃ (p : DecPicture) (seed ps : _), p.grain = some (seed, ps)) :=
  ⟨⟨cmd .pf0 [(4,23)], decoding 23 {} rdy, _, 23, _, rfl, (by decide +kernel), (by decide +kernel), (by decide +kernel),
    (by decide +kernel), (by decide +kernel), (by decide +kernel), (Option.some_get (by decide +kernel)).symm⟩,
  ⟨cmd .pf0 [(4,23)], strOn 255 0, _, 23, rfl, (by decide +kernel), (by decide +kernel), (by decide +kernel), (by decide +kernel),
    (by decide +kernel), (by decide +kernel), (by decide +kernel)⟩,
  ⟨cmd .pf0 [(4,23)], engUpd 23 (fun x => { x with st := 2 }) rdy, _, 23, rfl, (by decide +kernel), (by decide +kernel),
    (by decide +kernel), (by decide +kernel)⟩,
  ⟨cmd .pf0 [(4,23)], engUpd 23 (fun x => { x with st := 4 }) rdy, _, 23, rfl, (by decide +kernel), (by decide +kernel),
    (by decide +kernel), (by decide +kernel)⟩,
  ⟨cmd .pf0 [(4,23)], rdy, _, 23, rfl, (by decide +kernel), (by decide +kernel), (by decide +kernel), (by decide +kernel)⟩,
  ⟨23, engUpd 23 (fun x => { x with st := 3 }) rdy, (by decide +kernel), (by decide +kernel)⟩,
  ⟨23, rdy, (by decide +kernel)⟩,
  ⟨24, rdy, (by decide +kernel)⟩,
  ⟨15, strSet 255 { st := 1, rcd := strRec 0, aus := [auOf 0] } rdy, 255, auOf 0, (by decide +kernel), (by decide +kernel),
    (by decide +kernel), (by decide +kernel), (by decide +kernel), (by decide +kernel), (by decide +kernel)⟩,
  ⟨23, rdy, (by decide +kernel)⟩,
  ⟨rdy, (by decide +kernel)⟩,
  ⟨23, engUpd 23 (fun x => { x with st := 1 }) (decoding 23 {}), _, (Option.some_get (by decide +kernel)).symm, (by decide +kernel)⟩,
  ⟨15, decoding 15 { rcd := strRec 0 }, _, (Option.some_get (by decide +kernel)).symm, (by decide +kernel), (by decide +kernel),
    (by decide +kernel)⟩,
  ⟨15, engUpd 15 (fun x => { x with job := some ⟨254, 0, 0, false, [15], false⟩ }) (strSet 254
    { st := 1, rcd := strRec 0, demoted := true } (strSet 255 { st := 1, rcd := strRec 0, aus := [auOf 0] } rdy)), _, (Option.some_get
    (by decide +kernel)).symm, (by decide +kernel), (by decide +kernel), (by decide +kernel), (by decide +kernel), (by decide +kernel)⟩,
  ⟨23, rdy, (by decide +kernel)⟩,
  ⟨23, { pic64 with contextFailed := true }, decoding 23 { rcd := strRec 0 }, job255 23, auOf 0, _, (by decide +kernel), rfl,
    (by decide +kernel), (by decide +kernel), (by decide +kernel)⟩,
  ⟨23, { pic64 with level := 52 }, decoding 23 { rcd := strRec 0 }, job255 23, auOf 0, _, (by decide +kernel), rfl, (by decide +kernel),
    (by decide +kernel), (by decide +kernel), (by decide +kernel), (by decide +kernel)⟩,
  ⟨23, pic64, decoding 23 { rcd := strRec 0 }, job255 23, auOf 0, _, _, (by decide +kernel), rfl, (by decide +kernel),
    (by decide +kernel), (by decide +kernel), (by decide +kernel), (by decide +kernel), (Option.some_get (by decide +kernel)).symm,
    (by decide +kernel)⟩,
  ⟨23, { pic64 with last := false }, decoding 23 { rcd := strRec 0 }, job255 23, auOf 0, _, _, (by decide +kernel), rfl,
    (by decide +kernel), (by decide +kernel), (by decide +kernel), (by decide +kernel), (by decide +kernel), (Option.some_get
    (by decide +kernel)).symm, (by decide +kernel)⟩,
  ⟨23, { pic64 with showSlot := some 7 }, decoding 23 { rcd := strRec 2, slots := [(7, { pic := 0 })], lastAu := some 0 }, job255 23, auOf
    0, _, 7, _, (by decide +kernel), rfl, (by decide +kernel), (by decide +kernel), (by decide +kernel), (by decide +kernel),
    (by decide +kernel), (by decide +kernel), (Option.some_get (by decide +kernel)).symm, (by decide +kernel), (by decide +kernel)⟩,
  ⟨23, decoding 23 { rcd := strRec 0 } (atTime 66666667 rdy), job255 23, auOf 0, _, (by decide +kernel), rfl, (by decide +kernel),
    (by decide +kernel)⟩,
  ⟨23, pic64, engUpd 23 (fun x => { x with wdogs := [0] }) (decoding 23 { rcd := strRec 0 } (atTime 66666668 rdy)), job255 23, auOf 0, _,
    _, _, (by decide +kernel), rfl, (by decide +kernel), (Option.some_get (by decide +kernel)).symm, (by decide +kernel),
    (by decide +kernel), rfl, (by decide +kernel)⟩,
  ⟨255, strSet 255 { st := 1, rcd := strRec 0, aus := [auOf 0] } rdy, _, rfl, (by decide +kernel)⟩,
  ⟨255, strSet 255 fullStream rdy, _, auOf 0, ([] : List AccUnit), rfl, (by decide +kernel), (by decide +kernel), (by decide +kernel),
    (by decide +kernel), (by decide +kernel), (by decide +kernel)⟩,
  ⟨255, atTime 16666667 (strSet 255 { fullStream with aus := [{ auOf 0 with waitAt := some 0 }] } rdy), _,
    { auOf 0 with waitAt := some 0 }, ([] : List AccUnit), 0, rfl, (by decide +kernel), (by decide +kernel), (by decide +kernel),
    (by decide +kernel), (by decide +kernel), (by decide +kernel), (by decide +kernel)⟩,
  ⟨255, strSet 255 { st := 1, rcd := strRec 0, taintAt := some 0 } rdy, _, 0, rfl, (by decide +kernel), (by decide +kernel),
    (by decide +kernel)⟩,
  ⟨255, rdy, _, rfl, (by decide +kernel)⟩,
  ⟨{ rcd := strRec 2, slots := [(7, { pic := 0, lost := true })] }, { key := 7 }, _, (by decide +kernel), (Option.some_get
    (by decide +kernel)).symm, (by decide +kernel), (by decide +kernel)⟩,
  ⟨pic64, (by decide +kernel)⟩,
  ⟨{ pic64 with grain := some (1, []) }, 1, ([] : List Nat), (by decide +kernel)⟩⟩

/-- States and operands that meet the hypotheses of each clause of `LedgerIsStagedCommittedAndCopied`. -/
theorem witness_LedgerIsStagedCommittedAndCopied :
  (∃ (c : Cmd) (s u : State) (n : Nat), u = takeCmd c s ∧ Taken 0x0400 c s ∧ n = fld (cw c 4) 4 0 ∧ 1 ≤ n ∧ n ≤ 16 ∧ c.port = .pf0 ∧ (∀ i,
    i < n → entryBad (writeEntry c i) = none)) ∧
  (∃ (c : Cmd) (s u : State) (n : Nat) (i x : _), u = takeCmd c s ∧ Taken 0x0400 c s ∧ n = fld (cw c 4) 4 0 ∧ 1 ≤ n ∧ n ≤ 16 ∧ c.port =
    .pf0 ∧ i < n ∧ entryBad (writeEntry c i) = some x ∧ (∀ j, j < i → entryBad (writeEntry c j) = none)) ∧
  (∃ (c : Cmd) (s u : State) (n : Nat) (i : _), u = takeCmd c s ∧ Taken 0x0400 c s ∧ n = fld (cw c 4) 4 0 ∧ 1 ≤ n ∧ n ≤ 16 ∧ c.port = .pf1
    ∧ i < n ∧ pf1Entry (tget [] s.comp.ledger.staging (writeNumber c i)) (writeEntry c i) s.hif.pf1 = false) ∧
  (∃ (c : Cmd) (s u : State) (e : Nat) (l : Ledger), u = takeCmd c s ∧ Taken 0x0401 c s ∧ e = commitE c s ∧ l = s.comp.ledger ∧ (cw c
    5).toNat < 1000000000 ∧ ledgerPending s < 8 ∧ (∀ g, l.gens.getLast? = some g → g.e ≤ e) ∧ ledgerBroken l.staging u = none ∧ tallyCount
    l.staging 0 u ≤ 64) ∧
  (∃ (c : Cmd) (s u : State) (e : Nat) (l : Ledger) (k : _), u = takeCmd c s ∧ Taken 0x0401 c s ∧ e = commitE c s ∧ l = s.comp.ledger ∧
    (cw c 5).toNat < 1000000000 ∧ ledgerPending s < 8 ∧ (∀ g, l.gens.getLast? = some g → g.e ≤ e) ∧ ledgerBroken l.staging u = some k) ∧
  (∃ (c : Cmd) (s u : State) (e : Nat) (l : Ledger), u = takeCmd c s ∧ Taken 0x0401 c s ∧ e = commitE c s ∧ l = s.comp.ledger ∧ (cw c
    5).toNat < 1000000000 ∧ ledgerPending s < 8 ∧ (∀ g, l.gens.getLast? = some g → g.e ≤ e) ∧ ledgerBroken l.staging u = none ∧ 64 <
    tallyCount l.staging 0 u) ∧
  (∃ (c : Cmd) (s u : State) (e : Nat) (l : Ledger), u = takeCmd c s ∧ Taken 0x0401 c s ∧ e = commitE c s ∧ l = s.comp.ledger ∧ (cw c
    5).toNat < 1000000000 ∧ (8 ≤ ledgerPending s ∨ ∃ g, l.gens.getLast? = some g ∧ e < g.e)) ∧
  (∃ (t : Tab (List W32)) (k x y : Nat), (∀ z ∈ t, leValid z.2 = true → leStream z.2 = k → leDefault z.2 = false ∧ leHolds z.2 x y =
    false)) ∧
  (∃ (t : Tab (List W32)) (k x y : Nat) (e : _), govern t k x y = some e) :=
  ⟨⟨cmd .pf0 [(4,16)], rdy, _, _, rfl, (by decide +kernel), rfl, (by decide +kernel), (by decide +kernel), (by decide +kernel),
    (by decide +kernel)⟩,
  ⟨cmd .pf0 [(4,16)] (List.replicate 480 0 ++ recd 8 [(0, 0x80000000), (3, 19)]), rdy, _, _, 15, 12, rfl, (by decide +kernel), rfl,
    (by decide +kernel), (by decide +kernel), (by decide +kernel), (by decide +kernel), (by decide +kernel), (by decide +kernel)⟩,
  ⟨cmd .pf1 [(4,1)], rdy, _, _, 0, rfl, (by decide +kernel), rfl, (by decide +kernel), (by decide +kernel), (by decide +kernel),
    (by decide +kernel), (by decide +kernel)⟩,
  ⟨cmd .pf0 [(5,999999999)], rdy, _, _, _, rfl, (by decide +kernel), rfl, rfl, (by decide +kernel), (by decide +kernel),
    (fun g h => by cases h), (by decide +kernel), (by decide +kernel)⟩,
  ⟨cmd .pf0 [],
    { rdy with comp := { rdy.comp with ledger := { staging := [(7, recW 8 [(0, 0x90000000)]), (8, recW 8 [(0, 0x90000000)])] } } }, _, _,
    _, _, rfl, (by decide +kernel), rfl, rfl, (by decide +kernel), (by decide +kernel), (fun g h => by cases h), (Option.some_get
    (by decide +kernel)).symm⟩,
  ⟨cmd .pf0 [], tallyMany, _, _, _, rfl, (by decide +kernel), rfl, rfl, (by decide +kernel), (by decide +kernel), (fun g h => by cases h),
    (by decide +kernel), (by decide +kernel)⟩,
  ⟨cmd .pf0 [], { rdy with comp := { rdy.comp with ledger := { gens := List.replicate 8 { id := 0, e := 0, table := [] } } } }, _, _, _,
    rfl, (by decide +kernel), rfl, rfl, (by decide +kernel), (by decide +kernel)⟩,
  ⟨[], 255, 0, 0, (by decide +kernel)⟩,
  ⟨[(0, recW 8 [(0, 0x900000FF)])], 255, 0, 0, recW 8 [(0, 0x900000FF)], (by decide +kernel)⟩⟩

/-- States and operands that meet the hypotheses of each clause of `LayoutIsPreparedAndCommitted`. -/
theorem witness_LayoutIsPreparedAndCommitted :
  (∃ (c : Cmd) (s u : State) (k w h fetch lf : Nat) (old : Canvas), u = takeCmd c s ∧ Taken 0x0402 c s ∧ k = (cw c 2).toNat ∧ w = fld (cw
    c 3) 15 0 ∧ h = fld (cw c 3) 31 16 ∧ fetch = (if (cw c 11).toNat = 0 then 200 else (cw c 11).toNat) ∧ old = canGet s k ∧ k ≤ 63 ∧ 64 ≤
    w ∧ w ≤ 32768 ∧ w % 2 = 0 ∧ 64 ≤ h ∧ h ≤ 16384 ∧ 20 ≤ fetch ∧ fetch ≤ 1000 ∧ (bitOf (cw c 4) 0 = true → k < 48) ∧ (bitOf (cw c 4) 1 =
    true ∨ (old.active.bgAlpha = 3 ∧ old.pend.bgAlpha = 3)) ∧ bufOk s (w64of (cw c 5) (cw c 6)) w h = true ∧ bufOk s (w64of (cw c 7) (cw c
    8)) w h = true ∧ lf = w64of (cw c 9) (cw c 10) ∧ (lf = 0 ∨ (k < 48 ∧ bufOk s lf w h = true)) ∧ scanners s k = [] ∧ encReads s k =
    false ∧ bankClosed s k = false) ∧
  (∃ (c : Cmd) (s u : State) (k w h fetch lf : Nat) (old : Canvas), u = takeCmd c s ∧ Taken 0x0402 c s ∧ k = (cw c 2).toNat ∧ w = fld (cw
    c 3) 15 0 ∧ h = fld (cw c 3) 31 16 ∧ fetch = (if (cw c 11).toNat = 0 then 200 else (cw c 11).toNat) ∧ old = canGet s k ∧ k ≤ 63 ∧ 64 ≤
    w ∧ w ≤ 32768 ∧ w % 2 = 0 ∧ 64 ≤ h ∧ h ≤ 16384 ∧ 20 ≤ fetch ∧ fetch ≤ 1000 ∧ (bitOf (cw c 4) 0 = true → k < 48) ∧ (bitOf (cw c 4) 1 =
    true ∨ (old.active.bgAlpha = 3 ∧ old.pend.bgAlpha = 3)) ∧ bufOk s (w64of (cw c 5) (cw c 6)) w h = true ∧ bufOk s (w64of (cw c 7) (cw c
    8)) w h = true ∧ lf = w64of (cw c 9) (cw c 10) ∧ (lf = 0 ∨ (k < 48 ∧ bufOk s lf w h = true)) ∧ (scanners s k ≠ [] ∨ encReads s k =
    true ∨ bankClosed s k = true)) ∧
  (∃ (c : Cmd) (s u : State) (r : List W32) (k : Nat), u = takeCmd c s ∧ Taken 0x0403 c s ∧ r = wordsOf 16 (padB 64 (crec c)) ∧ k =
    lrCanvas r ∧ (canGet s k).set = true ∧ layerBad r s = none ∧ bankClosed s k = false ∧ (lrEnable r = true → slotHolder s k (lrSlot r) =
    none)) ∧
  (∃ (c : Cmd) (s u : State) (r : List W32) (k : Nat), u = takeCmd c s ∧ Taken 0x0403 c s ∧ r = wordsOf 16 (padB 64 (crec c)) ∧ k =
    lrCanvas r ∧ (canGet s k).set = true ∧ layerBad r s = none ∧ bankClosed s k = true) ∧
  (∃ (c : Cmd) (s u : State) (r : List W32) (k : Nat) (o : _), u = takeCmd c s ∧ Taken 0x0403 c s ∧ r = wordsOf 16 (padB 64 (crec c)) ∧ k
    = lrCanvas r ∧ (canGet s k).set = true ∧ layerBad r s = none ∧ bankClosed s k = false ∧ lrEnable r = true ∧ slotHolder s k (lrSlot r)
    = some o) ∧
  (∃ (c : Cmd) (s u : State) (k l lead life : Nat) (x : Canvas), u = takeCmd c s ∧ Taken 0x0404 c s ∧ k = (cw c 2).toNat ∧ x = canGet s k
    ∧ k ≤ 63 ∧ x.set = true ∧ l = (if fld (cw c 3) 6 0 = 0 then 2 else fld (cw c 3) 6 0) ∧ lead =
    (if (cw c 4).toNat = 0 then 240 else (cw c 4).toNat) ∧ life = (if fld (cw c 5) 15 0 = 0 then 1000 else fld (cw c 5) 15 0) ∧
    (if x.chase = true then 2 ≤ l ∧ l ≤ 64 ∧ 240 ≤ lead ∧ lead ≤ 4000 else 1 ≤ l ∧ l ≤ 8) ∧ (bitOf (cw c 5) 31 = true ∨ x.life ≠ 0) ∧ 100
    ≤ life ∧ life ≤ 10000 ∧ (x.premul = true ∨ fld (cw c 9) 1 0 = 3) ∧ bankClosed s k = false) ∧
  (∃ (c : Cmd) (s u : State) (k l lead life : Nat) (x : Canvas), u = takeCmd c s ∧ Taken 0x0404 c s ∧ k = (cw c 2).toNat ∧ x = canGet s k
    ∧ k ≤ 63 ∧ x.set = true ∧ l = (if fld (cw c 3) 6 0 = 0 then 2 else fld (cw c 3) 6 0) ∧ lead =
    (if (cw c 4).toNat = 0 then 240 else (cw c 4).toNat) ∧ life = (if fld (cw c 5) 15 0 = 0 then 1000 else fld (cw c 5) 15 0) ∧
    (if x.chase = true then 2 ≤ l ∧ l ≤ 64 ∧ 240 ≤ lead ∧ lead ≤ 4000 else 1 ≤ l ∧ l ≤ 8) ∧ (bitOf (cw c 5) 31 = true ∨ x.life ≠ 0) ∧ 100
    ≤ life ∧ life ≤ 10000 ∧ (x.premul = true ∨ fld (cw c 9) 1 0 = 3) ∧ bankClosed s k = true) ∧
  (∃ (c : Cmd) (s u : State) (k w h : Nat), u = takeCmd c s ∧ k = (cw c 4).toNat ∧ w = fld (cw c 5) 15 0 ∧ h = fld (cw c 5) 31 16 ∧ Taken
    0x0405 c s ∧ k ≤ 63 ∧ (canGet s k).set = true ∧ (cw c 5).toNat ≤ 3 ∧ bankClosed s k = false) ∧
  (∃ (c : Cmd) (s u : State) (k w h : Nat), u = takeCmd c s ∧ k = (cw c 4).toNat ∧ w = fld (cw c 5) 15 0 ∧ h = fld (cw c 5) 31 16 ∧ Taken
    0x0406 c s ∧ k ≤ 15 ∧ anyLayer s (fun r => lrXferEn r && lrXfer r == k) = false) ∧
  (∃ (c : Cmd) (s u : State) (k w h : Nat), u = takeCmd c s ∧ k = (cw c 4).toNat ∧ w = fld (cw c 5) 15 0 ∧ h = fld (cw c 5) 31 16 ∧ Taken
    0x0407 c s ∧ k ≤ 255 ∧ 1 ≤ w ∧ w ≤ 7680 ∧ 1 ≤ h ∧ h ≤ 4320 ∧ bufOk s (stillSurf k w h).base w h = true ∧ anyLayer s
    (fun r => lrStill r && lrSource r == k) = false) ∧
  (∃ (c : Cmd) (s u : State) (k w h : Nat), u = takeCmd c s ∧ k = (cw c 4).toNat ∧ w = fld (cw c 5) 15 0 ∧ h = fld (cw c 5) 31 16 ∧ Taken
    0x0407 c s ∧ k ≤ 255 ∧ 1 ≤ w ∧ w ≤ 7680 ∧ 1 ≤ h ∧ h ≤ 4320 ∧ bufOk s (stillSurf k w h).base w h = true ∧ anyLayer s
    (fun r => lrStill r && lrSource r == k) = true) ∧
  (∃ (c : Cmd) (s u : State) (k w h : Nat), u = takeCmd c s ∧ k = (cw c 4).toNat ∧ w = fld (cw c 5) 15 0 ∧ h = fld (cw c 5) 31 16 ∧ Taken
    0x0407 c s ∧ k ≤ 255 ∧ 1 ≤ w ∧ w ≤ 7680 ∧ 1 ≤ h ∧ h ≤ 4320 ∧ bufOk s (stillSurf k w h).base w h = false) ∧
  (∃ (c : Cmd) (s u : State) (k w h : Nat), u = takeCmd c s ∧ k = (cw c 4).toNat ∧ w = fld (cw c 5) 15 0 ∧ h = fld (cw c 5) 31 16 ∧ Taken
    0x0405 c s ∧ k ≤ 63 ∧ (canGet s k).set = true ∧ (cw c 5).toNat ≤ 3 ∧ bankClosed s k = true) ∧
  (∃ (c : Cmd) (s u : State) (k w h : Nat), u = takeCmd c s ∧ k = (cw c 4).toNat ∧ w = fld (cw c 5) 15 0 ∧ h = fld (cw c 5) 31 16 ∧ Taken
    0x0406 c s ∧ k ≤ 15 ∧ anyLayer s (fun r => lrXferEn r && lrXfer r == k) = true) ∧
  (∃ (s : State) (o : Outst) (d : List Byte), loadOutst s = some o ∧ o.opcode = 0x0405 ∧ crc32c d = o.arg.getD 1 0 ∧ coefBad d = false) ∧
  (∃ (s : State) (o : Outst) (d : List Byte), loadOutst s = some o ∧ o.opcode = 0x0405 ∧ crc32c d ≠ o.arg.getD 1 0) ∧
  (∃ (s : State) (o : Outst) (d : List Byte), loadOutst s = some o ∧ o.opcode = 0x0405 ∧ crc32c d = o.arg.getD 1 0 ∧ coefBad d = true) ∧
  (∃ (s : State) (o : Outst) (d : List Byte), loadOutst s = some o ∧ o.opcode = 0x0406 ∧ (crc32c d ≠ o.arg.getD 0 0 ∨ d.length ≠ 2048)) ∧
  (∃ (s : State) (o : Outst) (d : List Byte), loadOutst s = some o ∧ o.opcode = 0x0406 ∧ crc32c d = o.arg.getD 0 0 ∧ d.length = 2048 ∧ (∃
    i, i < 1024 ∧ 65472 < leAt d (2 * i) 2)) ∧
  (∃ (s : State) (o : Outst) (d : List Byte), loadOutst s = some o ∧ o.opcode = 0x0406 ∧ crc32c d = o.arg.getD 0 0 ∧ d.length = 2048 ∧ (∀
    i, i < 1024 → leAt d (2 * i) 2 ≤ 65472)) ∧
  (∃ (s : State) (o : Outst) (d : List Byte) (w h v : _), loadOutst s = some o ∧ o.opcode = 0x0407 ∧ w = o.arg.getD 0 0 ∧ h = o.arg.getD 1
    0 ∧ v = (busWrite (o.arg.getD 2 0) 23 (bufBytes w h / 4096 + 2) (stillSurf o.target w h).base (d.take (bufBytes w h)) s).2) ∧
  (∃ (c : Cmd) (s u : State) (m : W64) (cs : List Nat) (g n : Nat) (x : _), u = takeCmd c s ∧ Taken 0x0408 c s ∧ m = BitVec.ofNat 64
    (w64of (cw c 2) (cw c 3)) ∧ cs = canvasesOf m ∧ cs ≠ [] ∧ (∀ k ∈ cs, (canGet s k).set = true ∧ canvasGen s k = some g ∧ bankBad s k =
    false ∧ bankClosed s k = false) ∧ n = frameNamed (flGet s g) (cw c 4) ∧ slotClash s cs = some x) ∧
  (∃ (c : Cmd) (s u : State) (m : W64) (cs : List Nat) (g n : Nat), u = takeCmd c s ∧ Taken 0x0408 c s ∧ m = BitVec.ofNat 64 (w64of (cw c
    2) (cw c 3)) ∧ cs = canvasesOf m ∧ cs ≠ [] ∧ (∀ k ∈ cs, (canGet s k).set = true ∧ canvasGen s k = some g ∧ bankBad s k = false ∧
    bankClosed s k = false) ∧ n = frameNamed (flGet s g) (cw c 4) ∧ slotClash s cs = none ∧ 64 < tallyCount (ledgerLatest s) m u) ∧
  (∃ (c : Cmd) (s u : State) (m : W64) (cs : List Nat) (g n : Nat), u = takeCmd c s ∧ Taken 0x0408 c s ∧ m = BitVec.ofNat 64 (w64of (cw c
    2) (cw c 3)) ∧ cs = canvasesOf m ∧ cs ≠ [] ∧ (∀ k ∈ cs, (canGet s k).set = true ∧ canvasGen s k = some g ∧ bankBad s k = false ∧
    bankClosed s k = false) ∧ n = frameNamed (flGet s g) (cw c 4) ∧ slotClash s cs = none ∧ tallyCount (ledgerLatest s) m u ≤ 64 ∧
    capacityOk u m = false) ∧
  (∃ (c : Cmd) (s u : State) (m : W64) (cs : List Nat) (g n : Nat), u = takeCmd c s ∧ Taken 0x0408 c s ∧ m = BitVec.ofNat 64 (w64of (cw c
    2) (cw c 3)) ∧ cs = canvasesOf m ∧ cs ≠ [] ∧ (∀ k ∈ cs, (canGet s k).set = true ∧ canvasGen s k = some g ∧ bankBad s k = false ∧
    bankClosed s k = false) ∧ n = frameNamed (flGet s g) (cw c 4) ∧ slotClash s cs = none ∧ tallyCount (ledgerLatest s) m u ≤ 64 ∧
    capacityOk u m = true ∧ (flGet s g).next ≤ n + 1 ∧ (∀ k ∈ cs, t0Ns s + 2000000 ≤ commitCut s k n) ∧ supplyMet u (supplyNeeds 0x0408
    opLayoutCommit c u) = true) ∧
  (∃ (c : Cmd) (s u : State) (m : W64) (cs : List Nat) (g n : Nat), u = takeCmd c s ∧ Taken 0x0408 c s ∧ m = BitVec.ofNat 64 (w64of (cw c
    2) (cw c 3)) ∧ cs = canvasesOf m ∧ cs ≠ [] ∧ (∀ k ∈ cs, (canGet s k).set = true ∧ canvasGen s k = some g ∧ bankBad s k = false ∧
    bankClosed s k = false) ∧ n = frameNamed (flGet s g) (cw c 4) ∧ slotClash s cs = none ∧ tallyCount (ledgerLatest s) m u ≤ 64 ∧
    capacityOk u m = true ∧ (n + 1 < (flGet s g).next ∨ ∃ k ∈ cs, commitCut s k n < t0Ns s + 2000000)) ∧
  (∃ (c : Cmd) (s u : State) (k : Commit), u = takeCmd c s ∧ Taken 0x0409 c s ∧ (s.comp.commits.find? fun k => !k.applied && k.id == cw c
    5) = some k ∧ (∀ x ∈ canvasesOf k.mask, t0Ns s + 2000000 ≤ commitCut s x k.frame)) ∧
  (∃ (c : Cmd) (s u : State) (k : Commit), u = takeCmd c s ∧ Taken 0x0409 c s ∧ (s.comp.commits.find? fun k => !k.applied && k.id == cw c
    5) = some k ∧ (∃ x ∈ canvasesOf k.mask, commitCut s x k.frame < t0Ns s + 2000000)) ∧
  (∃ (c : Cmd) (s u : State), u = takeCmd c s ∧ Taken 0x0409 c s ∧ (∀ k ∈ s.comp.commits, k.applied = true ∨ k.id ≠ cw c 5)) :=
  ⟨⟨cmd .pf0 [(2,63),(3,0x40008000),(7,0x1000),(11,1000)], canRdy, _, _, _, _, _, _, _, rfl, (by decide +kernel), rfl, rfl, rfl, rfl, rfl,
    (by decide +kernel), (by decide +kernel), (by decide +kernel), (by decide +kernel), (by decide +kernel), (by decide +kernel),
    (by decide +kernel), (by decide +kernel), (by decide +kernel), (by decide +kernel), (by decide +kernel), (by decide +kernel), rfl,
    (by decide +kernel), (by decide +kernel), (by decide +kernel), (by decide +kernel)⟩,
  ⟨cmd .pf0 [(2,47),(3,0x00400040),(4,1),(7,0x1000),(11,20)], canSet 47 { closed := true } canRdy, _, _, _, _, _, _, _, rfl,
    (by decide +kernel), rfl, rfl, rfl, rfl, rfl, (by decide +kernel), (by decide +kernel), (by decide +kernel), (by decide +kernel),
    (by decide +kernel), (by decide +kernel), (by decide +kernel), (by decide +kernel), (by decide +kernel), (by decide +kernel),
    (by decide +kernel), (by decide +kernel), rfl, (by decide +kernel), (by decide +kernel)⟩,
  ⟨cmd .pf0 [] (recd 16 (layRec 63 1023 255)), can63, _, _, _, rfl, (by decide +kernel), rfl, rfl, (by decide +kernel),
    (by decide +kernel), (by decide +kernel), (fun _ => by decide +kernel)⟩,
  ⟨cmd .pf0 [] (recd 16 (layRec 63 1023 255)), can63 { canOf 64 64 with closed := true }, _, _, _, rfl, (by decide +kernel), rfl, rfl,
    (by decide +kernel), (by decide +kernel), (by decide +kernel)⟩,
  ⟨cmd .pf0 [] (recd 16 (layRec 63 1023 255)), canSet 0 { pend := { layers := [(1023, recW 16 (layRec 0 1023 255))] } } can63, _, _, _, _,
    rfl, (by decide +kernel), rfl, rfl, (by decide +kernel), (by decide +kernel), (by decide +kernel), (by decide +kernel),
    (Option.some_get (by decide +kernel)).symm⟩,
  ⟨cmd .pf0 [(2,63),(3,8),(5,0x80002710),(9,3)], can63, _, _, _, _, _, _, rfl, (by decide +kernel), rfl, rfl, (by decide +kernel),
    (by decide +kernel), rfl, rfl, rfl, (by decide +kernel), (by decide +kernel), (by decide +kernel), (by decide +kernel),
    (by decide +kernel), (by decide +kernel)⟩,
  ⟨cmd .pf0 [(2,63),(3,64),(4,4000),(5,0x80000064),(9,3)], can63 { canOf 64 64 with chase := true, closed := true }, _, _, _, _, _, _,
    rfl, (by decide +kernel), rfl, rfl, (by decide +kernel), (by decide +kernel), rfl, rfl, rfl, (by decide +kernel), (by decide +kernel),
    (by decide +kernel), (by decide +kernel), (by decide +kernel), (by decide +kernel)⟩,
  ⟨cmd .pf0 [(4,63),(5,3)], can63, _, _, _, _, rfl, rfl, rfl, rfl, (by decide +kernel), (by decide +kernel), (by decide +kernel),
    (by decide +kernel), (by decide +kernel)⟩,
  ⟨cmd .pf0 [(4,15)], rdy, _, _, _, _, rfl, rfl, rfl, rfl, (by decide +kernel), (by decide +kernel), (by decide +kernel)⟩,
  ⟨cmd .pf0 [(4,255),(5,0x10E01E00)], canRdy, _, _, _, _, rfl, rfl, rfl, rfl, (by decide +kernel), (by decide +kernel),
    (by decide +kernel), (by decide +kernel), (by decide +kernel), (by decide +kernel), (still_fits _ rfl _ _ _ (by decide +kernel)),
    (by decide +kernel)⟩,
  ⟨cmd .pf0 [(4,255),(5,0x00010001)], can63 { canOf 64 64 with active := { layers := [(0, recW 16 [(0,0x80000000),(1,0x400000FF)])] } },
    _, _, _, _, rfl, rfl, rfl, rfl, (by decide +kernel), (by decide +kernel), (by decide +kernel), (by decide +kernel),
    (by decide +kernel), (by decide +kernel), (still_fits _ rfl _ _ _ (by decide +kernel)), (by decide +kernel)⟩,
  ⟨cmd .pf0 [(4,255),(5,0x00010001)], rdy, _, _, _, _, rfl, rfl, rfl, rfl, (by decide +kernel), (by decide +kernel), (by decide +kernel),
    (by decide +kernel), (by decide +kernel), (by decide +kernel), (still_none _ _ _)⟩,
  ⟨cmd .pf0 [(4,63),(5,3)], can63 { canOf 64 64 with closed := true }, _, _, _, _, rfl, rfl, rfl, rfl, (by decide +kernel),
    (by decide +kernel), (by decide +kernel), (by decide +kernel), (by decide +kernel)⟩,
  ⟨cmd .pf0 [(4,15)], can63 { canOf 64 64 with active := { layers := [(0, recW 16 [(0,0x80000000),(6,0x000F8000)])] } }, _, _, _, _, rfl,
    rfl, rfl, rfl, (by decide +kernel), (by decide +kernel), (by decide +kernel)⟩,
  ⟨outst 0x0405 63 [3, crc32c coefImage], _, coefImage, (load_coef _), rfl, (second_arg _ _), coefImage_good⟩,
  ⟨outst 0x0405 63 [3, 1], _, [], (Option.some_get (by decide +kernel)).symm, (by decide +kernel), (by decide +kernel)⟩,
  ⟨outst 0x0405 63 [3, crc32c []], _, [], (load_coef _), rfl, (second_arg _ _), (by decide +kernel)⟩,
  ⟨outst 0x0406 15 [1], _, [], (Option.some_get (by decide +kernel)).symm, (by decide +kernel), (by decide +kernel)⟩,
  ⟨outst 0x0406 15 [crc32c (List.replicate 2048 0xFF)], _, List.replicate 2048 0xFF, (load_transfer _), rfl, (first_arg _),
    List.length_replicate, (⟨0, by decide, by decide⟩)⟩,
  ⟨outst 0x0406 15 [crc32c (List.replicate 2048 0)], _, List.replicate 2048 0, (load_transfer _), rfl, (first_arg _),
    List.length_replicate, zeros_low⟩,
  ⟨outst 0x0407 255 [1, 1, 4], _, [], _, _, _, load_still, (by decide +kernel), rfl, rfl, rfl⟩,
  ⟨cmd .pf0 [(3,0x80000000),(4,2)], canSet 0 { pend := { layers := [(1023, recW 16 (layRec 0 1023 255))] } } (can63
    { canOf 64 64 with pend := { layers := [(1023, recW 16 (layRec 63 1023 255))] } }), _, _, _, 0, _, _, rfl, (by decide +kernel), rfl,
    rfl, (by decide +kernel), (by decide +kernel), rfl, (Option.some_get (by decide +kernel)).symm⟩,
  ⟨cmd .pf0 [(3,0x80000000),(4,2)],
    { tallyMany with comp := { tallyMany.comp with ledger := { gens := [{ id := 1, e := 0, table := tallyMany.comp.ledger.staging }] } } },
    _, _, _, 0, _, rfl, (by decide +kernel), rfl, rfl, (by decide +kernel), (by decide +kernel), rfl, (by decide +kernel),
    (by decide +kernel)⟩,
  ⟨cmd .pf0 [(3,0x80000000),(4,2)], heavy, _, _, _, 0, _, rfl, (by decide +kernel), rfl, rfl, (by decide +kernel), (by decide +kernel),
    rfl, (by decide +kernel), (by decide +kernel), (by decide +kernel)⟩,
  ⟨cmd .pf0 [(3,0x80000000),(4,2)], gauged (atTime 14666667 can63), _, _, _, 0, _, rfl, (by decide +kernel), rfl, rfl,
    (by decide +kernel), (by decide +kernel), rfl, (by decide +kernel), (by decide +kernel), (by decide +kernel), (by decide +kernel),
    (by decide +kernel), (by decide +kernel)⟩,
  ⟨cmd .pf0 [(3,0x80000000),(4,2)], atTime 14666668 can63, _, _, _, 0, _, rfl, (by decide +kernel), rfl, rfl, (by decide +kernel),
    (by decide +kernel), rfl, (by decide +kernel), (by decide +kernel), (by decide +kernel), (by decide +kernel)⟩,
  ⟨cmd .pf0 [(5,7)], atTime 14666667 { can63 with comp := { can63.comp with commits := [commit63] } }, _, commit63, rfl,
    (by decide +kernel), (by decide +kernel), (by decide +kernel)⟩,
  ⟨cmd .pf0 [(5,7)], atTime 14666668 { can63 with comp := { can63.comp with commits := [commit63] } }, _, commit63, rfl,
    (by decide +kernel), (by decide +kernel), (by decide +kernel)⟩,
  ⟨cmd .pf0 [(5,7)], rdy, _, rfl, (by decide +kernel), (by decide +kernel)⟩⟩

/-- States and operands that meet the hypotheses of each clause of `CanvasFramesAreCutAndJudged`. -/
theorem witness_CanvasFramesAreCutAndJudged :
  (∃ (c : Nat) (s : State), c < 64 ∧ (canvasGen s c = none ∨ (canGet s c).set = false ∨ works s 9 = false ∨ s.pwr.mode = .bindOff)) ∧
  (∃ (c : Nat) (env : CutEnv) (s : State) (g : _), c < 64 ∧ canvasGen s c = some g ∧ (canGet s c).chase = false ∧ (t0Ns s < cutTime (flGet
    s g) env.frame ∨ displayTime (flGet s g) env.frame - 80000 < t0Ns s ∨ ∃ m, (canGet s c).taken = some m ∧ env.frame ≤ m)) ∧
  (∃ (c : Nat) (env : CutEnv) (s : State) (g : _), c < 64 ∧ canvasGen s c = some g ∧ (canGet s c).chase = false ∧ (canGet s c).set = true
    ∧ works s 9 = true ∧ s.pwr.mode ≠ .bindOff ∧ (flGet s g).en = true ∧ cutTime (flGet s g) env.frame ≤ t0Ns s ∧ t0Ns s ≤ displayTime
    (flGet s g) env.frame - 80000 ∧ (∀ m, (canGet s c).taken = some m → m < env.frame)) ∧
  (∃ (c : Nat) (env : CutEnv) (s : State) (g : _), c < 64 ∧ canvasGen s c = some g ∧ (canGet s c).chase = true ∧ (canGet s c).set = true ∧
    works s 9 = true ∧ s.pwr.mode ≠ .bindOff ∧ (flGet s g).en = true ∧ env.row < stitchN (canGet s c).h ∧ chaseCut s c env.frame env.row
    (canGet s c).active.lead ≤ t0Ns s ∧ t0Ns s ≤ cutDeadline s c g env.frame env.row ∧ (∀ m, (canGet s c).taken = some m → m ≤ env.frame)) ∧
  (∃ (c : Nat) (env : CutEnv) (s : State), (canGet s c).job = none ∧ (canGet s c).tail = none ∧ (∀ k ∈ s.comp.commits, c ∉ k.done →
    k.mask.getLsbD c = true → env.frame < k.frame)) ∧
  (∃ (c n : Nat) (s : State) (k : Commit), (s.comp.commits.find? fun k => !k.done.contains c && k.mask.getLsbD c && k.frame ≤ n) = some k) ∧
  (∃ (c : Nat) (s : State) (j : Compose) (g dl : Nat), c < 64 ∧ (canGet s c).job = some j ∧ canvasGen s c = some g ∧ dl = displayTime
    (flGet s g) j.frame - 80000 ∧ (canGet s c).chase = false ∧ j.finish = false ∧ dl ≤ t0Ns s) ∧
  (∃ (c : Nat) (s : State) (j : Compose) (g dl : Nat), c < 64 ∧ (canGet s c).job = some j ∧ canvasGen s c = some g ∧ dl = displayTime
    (flGet s g) j.frame - 80000 ∧ (canGet s c).chase = false ∧ (j.finish = true ∨ t0Ns s < dl)) ∧
  (∃ (c : Nat) (s : State) (j : Compose) (g dl : Nat) (row : _), c < 64 ∧ (canGet s c).job = some j ∧ canvasGen s c = some g ∧ dl =
    cutDeadline s c g j.frame row ∧ (canGet s c).chase = true ∧ row < stitchN (canGet s c).h ∧ (canGet s c).tail = none ∧ row ∉ j.rows ∧
    row ∉ j.missed ∧ dl ≤ t0Ns s) ∧
  (∃ (c : Nat) (s : State) (j : Compose) (g dl : Nat) (row : _), c < 64 ∧ (canGet s c).job = some j ∧ canvasGen s c = some g ∧ dl =
    cutDeadline s c g j.frame row ∧ (canGet s c).chase = true ∧ (canGet s c).tail = none ∧ (row ∈ j.rows ∨ row ∈ j.missed ∨ t0Ns s < dl)) ∧
  (∃ (c : Nat) (s : State), c < 64 ∧ (canGet s c).job = none ∧ (canGet s c).tail = none) ∧
  (∃ (c slot row waited : Nat) (s : State) (j : _), c < 64 ∧ (canGet s c).job = some j ∧ (bankLayers (canGet s c).active).any
    (fun r => lrSlot r == slot && lrAlpha r != 0 && (List.range (stitchN (canGet s c).w)).any fun sx => contributes (canGet s c) r sx row)
    = true ∧ tfind slot j.under = none ∧ (canGet s c).fetch * 1000 ≤ waited ∧ (∀ k ∈ j.rows, k < row)) ∧
  (∃ (c waited : Nat) (s : State), c < 64 ∧ ((canGet s c).job = none ∨ waited < (canGet s c).fetch * 1000)) :=
  ⟨⟨63, rdy, (by decide +kernel), (by decide +kernel)⟩,
  ⟨63, { frame := 2 }, atTime 16666666 can63, 0, (by decide +kernel), (by decide +kernel), (by decide +kernel), (.inl
    (by decide +kernel))⟩,
  ⟨63, { frame := 2 }, atTime 16666667 can63, 0, (by decide +kernel), (by decide +kernel), (by decide +kernel), (by decide +kernel),
    (by decide +kernel), (by decide +kernel), (by decide +kernel), (by decide +kernel), (by decide +kernel), (fun m h => by cases h)⟩,
  ⟨63, { frame := 2, row := 0 }, atTime 33093333 (can63 { canOf 64 64 with chase := true }), 0, (by decide +kernel), (by decide +kernel),
    (by decide +kernel), (by decide +kernel), (by decide +kernel), (by decide +kernel), (by decide +kernel), (by decide +kernel),
    (by decide +kernel), (by decide +kernel), (fun m h => by cases h)⟩,
  ⟨63, { frame := 2 }, can63, (by decide +kernel), (by decide +kernel), (by decide +kernel)⟩,
  ⟨63, 2, { can63 with comp := { can63.comp with commits := [commit63] } }, commit63, (by decide +kernel)⟩,
  ⟨63, atTime 33253333 (can63 { canOf 64 64 with job := some (jobOf false) }), jobOf false, 0, _, (by decide +kernel),
    (by decide +kernel), (by decide +kernel), rfl, (by decide +kernel), (by decide +kernel), (by decide +kernel)⟩,
  ⟨63, atTime 33253332 (can63 { canOf 64 64 with job := some (jobOf false) }), jobOf false, 0, _, (by decide +kernel),
    (by decide +kernel), (by decide +kernel), rfl, (by decide +kernel), (by decide +kernel)⟩,
  ⟨63, atTime 40000000 (can63 { canOf 64 64 with chase := true, job := some (jobOf false) }), jobOf false, 0, _, 1, (by decide +kernel),
    (by decide +kernel), (by decide +kernel), rfl, (by decide +kernel), (by decide +kernel), (by decide +kernel), (by decide +kernel),
    (by decide +kernel), (by decide +kernel)⟩,
  ⟨63, atTime 33253332 (can63 { canOf 64 64 with chase := true, job := some (jobOf false) }), jobOf false, 0, _, 1, (by decide +kernel),
    (by decide +kernel), (by decide +kernel), rfl, (by decide +kernel), (by decide +kernel), (by decide +kernel)⟩,
  ⟨63, can63, (by decide +kernel), (by decide +kernel), (by decide +kernel)⟩,
  ⟨63, 1023, 1, 200000, can63
    { canOf 64 64 with job := some (jobOf false), active := { layers := [(1023, recW 16 (layRec 63 1023 255))] } }, jobOf false,
    (by decide +kernel), (by decide +kernel), (by decide +kernel), (by decide +kernel), (by decide +kernel), (by decide +kernel)⟩,
  ⟨63, 199999, can63 { canOf 64 64 with job := some (jobOf false) }, (by decide +kernel), (by decide +kernel)⟩⟩

/-- States and operands that meet the hypotheses of each clause of `OnlyVerifiedTimelyPixelsAreLive`. -/
theorem witness_OnlyVerifiedTimelyPixelsAreLive :
  (∃ (g : RowCtx) (cx cy : Nat) (s : State) (p : Part) (fs : List CompFail) (t : State) (x : _), canvasPart g cx cy s = (p, fs, t) ∧
    p.kind = 0 ∧ upsetAt 0x30 [1, 3, 5, 7] g.faults cx cy = some x) ∧
  (∃ (g : RowCtx) (cx cy : Nat) (s : State), (canvasPart g cx cy s).1.kind = 2) ∧
  (∃ (g : RowCtx) (ps : List Part) (sx : Nat) (p : _), p ∈ ps ∧ (egressStitch g ps sx).1.kind = 0 ∧ (g.vx + 32 * sx) / 32 ≤ p.cx ∧ p.cx ≤
    (g.vx + 32 * sx + stitchExt (orW g.r) sx - 1) / 32) :=
  ⟨⟨{ rowCtx with faults := [{ stage := 0x30, kind := 1, sx := 0, sy := 0, times := 1 }] }, 0, 0, liveStitch, (canvasPart
    { rowCtx with faults := [{ stage := 0x30, kind := 1, sx := 0, sy := 0, times := 1 }] } 0 0 liveStitch).1, (canvasPart
    { rowCtx with faults := [{ stage := 0x30, kind := 1, sx := 0, sy := 0, times := 1 }] } 0 0 liveStitch).2.1, (canvasPart
    { rowCtx with faults := [{ stage := 0x30, kind := 1, sx := 0, sy := 0, times := 1 }] } 0 0 liveStitch).2.2, _, (triple_eta _),
    (by decide +kernel), (Option.some_get (by decide +kernel)).symm⟩,
  ⟨rowCtx, 0, 0, canRdy, (by decide +kernel)⟩,
  ⟨rowCtx, [(canvasPart rowCtx 0 0 liveStitch).1], 0, (canvasPart rowCtx 0 0 liveStitch).1, (by decide +kernel), (by decide +kernel),
    (by decide +kernel), (by decide +kernel)⟩⟩

/-- States and operands that meet the hypotheses of each clause of `OutputCommandsFollowTheirRules`. -/
theorem witness_OutputCommandsFollowTheirRules :
  (∃ (c : Cmd) (s u : State) (r : List W32) (o : Nat), u = takeCmd c s ∧ Taken 0x0500 c s ∧ r = wordsOf 16 (crec c) ∧ o = orOutput r ∧ o ≤
    47 ∧ (outGet s o).en = false ∧ outputBad u o r = none) ∧
  (∃ (c : Cmd) (s u : State) (r : List W32) (o : Nat) (n : _), u = takeCmd c s ∧ Taken 0x0500 c s ∧ r = wordsOf 16 (crec c) ∧ o = orOutput
    r ∧ o ≤ 47 ∧ (outGet s o).en = false ∧ outputBad u o r = some n) ∧
  (∃ (c : Cmd) (s u : State) (r : List W32) (o : Nat), u = takeCmd c s ∧ Taken 0x0500 c s ∧ r = wordsOf 16 (crec c) ∧ o = orOutput r ∧ o ≤
    47 ∧ (outGet s o).en = true) ∧
  (∃ (c : Cmd) (s u : State) (o : Nat) (r : List W32), u = takeCmd c s ∧ o = (cw c 4).toNat ∧ o ≤ 47 ∧ r = outRec s o ∧ Taken 0x0501 c s ∧
    (outGet s o).en = true) ∧
  (∃ (c : Cmd) (s u : State) (o : Nat) (r : List W32), u = takeCmd c s ∧ o = (cw c 4).toNat ∧ o ≤ 47 ∧ r = outRec s o ∧ Taken 0x0501 c s ∧
    (outGet s o).en = false ∧ bitOf s.pwr.domains (outDomain o) = true ∧ bitOf s.pwr.iso (outDomain o) = false ∧ bitOf s.pwr.domains 9 =
    true ∧ bitOf s.pwr.iso 9 = false ∧ outputBad u o r = none ∧ quadOk (quadUse u o) = true ∧ commitClash u r = false ∧ scanRates u o ≤
    24000000000 * 1001 ∧ (∀ i ∈ outLaneList o r, (laneGet s i).cal = true ∧ laneState u i ≠ 6) ∧ supplyMet u (supplyNeeds 0x0501
    opOutputEnable c u) = true) ∧
  (∃ (c : Cmd) (s u : State) (o : Nat) (r : List W32), u = takeCmd c s ∧ o = (cw c 4).toNat ∧ o ≤ 47 ∧ r = outRec s o ∧ Taken 0x0501 c s ∧
    (outGet s o).en = false ∧ bitOf s.pwr.domains (outDomain o) = true ∧ bitOf s.pwr.iso (outDomain o) = false ∧ bitOf s.pwr.domains 9 =
    true ∧ bitOf s.pwr.iso 9 = false ∧ outputBad u o r = none ∧ quadOk (quadUse u o) = true ∧ supplyMet u (supplyNeeds 0x0501
    opOutputEnable c u) = true ∧ commitClash u r = true) ∧
  (∃ (c : Cmd) (s u : State) (o : Nat) (r : List W32), u = takeCmd c s ∧ o = (cw c 4).toNat ∧ o ≤ 47 ∧ r = outRec s o ∧ Taken 0x0501 c s ∧
    (outGet s o).en = false ∧ bitOf s.pwr.domains (outDomain o) = true ∧ bitOf s.pwr.iso (outDomain o) = false ∧ bitOf s.pwr.domains 9 =
    true ∧ bitOf s.pwr.iso 9 = false ∧ outputBad u o r = none ∧ quadOk (quadUse u o) = true ∧ supplyMet u (supplyNeeds 0x0501
    opOutputEnable c u) = true ∧ commitClash u r = false ∧ 24000000000 * 1001 < scanRates u o) ∧
  (∃ (c : Cmd) (s u : State) (o : Nat) (r : List W32), u = takeCmd c s ∧ o = (cw c 4).toNat ∧ o ≤ 47 ∧ r = outRec s o ∧ Taken 0x0501 c s ∧
    (outGet s o).en = false ∧ bitOf s.pwr.domains (outDomain o) = true ∧ bitOf s.pwr.iso (outDomain o) = false ∧ bitOf s.pwr.domains 9 =
    true ∧ bitOf s.pwr.iso 9 = false ∧ outputBad u o r = none ∧ quadOk (quadUse u o) = true ∧ supplyMet u (supplyNeeds 0x0501
    opOutputEnable c u) = true ∧ commitClash u r = false ∧ scanRates u o ≤ 24000000000 * 1001 ∧ laneBroken u (outLaneList o r) = none ∧ (∃
    i ∈ outLaneList o r, laneState u i = 6)) ∧
  (∃ (c : Cmd) (s u : State) (o : Nat) (r : List W32) (p : _), u = takeCmd c s ∧ o = (cw c 4).toNat ∧ o ≤ 47 ∧ r = outRec s o ∧ Taken
    0x0502 c s ∧ (outGet s o).en = true ∧ p ≠ o) ∧
  (∃ (c : Cmd) (s u : State) (o : Nat) (r : List W32), u = takeCmd c s ∧ o = (cw c 4).toNat ∧ o ≤ 47 ∧ r = outRec s o ∧ Taken 0x0502 c s ∧
    (outGet s o).en = false) ∧
  (∃ (c : Cmd) (s u : State) (o : Nat) (r : List W32), u = takeCmd c s ∧ o = (cw c 4).toNat ∧ o ≤ 47 ∧ r = outRec s o ∧ Taken 0x0504 c s) ∧
  (∃ (c : Cmd) (s u : State) (o : Nat) (r : List W32), u = takeCmd c s ∧ o = (cw c 4).toNat ∧ o ≤ 47 ∧ r = outRec s o ∧ Taken 0x0508 c s) ∧
  (∃ (c : Cmd) (s u : State) (o vx vy n cut : Nat) (r : List W32), u = takeCmd c s ∧ Taken 0x0503 c s ∧ o = (cw c 4).toNat ∧ o ≤ 47 ∧
    (outGet s o).en = true ∧ r = outRec s o ∧ vx = fld (cw c 5) 15 0 ∧ vy = fld (cw c 5) 31 16 ∧ n = frameNamed (flGet s (orGen r)) (cw c
    6) ∧ cut =
    (if (canGet s (orCanvas r)).chase then chaseCut s (orCanvas r) n 0 (canGet s (orCanvas r)).active.lead else cutTime (flGet s (orGen r)) n)
    ∧ viewInside s r vx vy = true ∧ chaseViewBad s o r vy = false ∧ (flGet s (orGen r)).next ≤ n + 1 ∧ t0Ns s + 2000000 ≤ cut) ∧
  (∃ (c : Cmd) (s u : State) (o vx vy n cut : Nat) (r : List W32), u = takeCmd c s ∧ Taken 0x0503 c s ∧ o = (cw c 4).toNat ∧ o ≤ 47 ∧
    (outGet s o).en = true ∧ r = outRec s o ∧ vx = fld (cw c 5) 15 0 ∧ vy = fld (cw c 5) 31 16 ∧ n = frameNamed (flGet s (orGen r)) (cw c
    6) ∧ cut =
    (if (canGet s (orCanvas r)).chase then chaseCut s (orCanvas r) n 0 (canGet s (orCanvas r)).active.lead else cutTime (flGet s (orGen r)) n)
    ∧ viewInside s r vx vy = true ∧ chaseViewBad s o r vy = false ∧ (n + 1 < (flGet s (orGen r)).next ∨ cut < t0Ns s + 2000000)) ∧
  (∃ (c : Cmd) (s u : State) (o len : Nat) (a : _), u = takeCmd c s ∧ Taken 0x0505 c s ∧ o = (cw c 4).toNat ∧ o ≤ 47 ∧ len = fld (cw c 5)
    28 24 ∧ 1 ≤ len ∧ len ≤ 16 ∧ (outGet s o).training = false ∧ bitOf s.pwr.domains (outDomain o) = true ∧ bitOf s.pwr.iso (outDomain o)
    = false ∧ bitOf (cw c 5) 30 = false ∧ c.env.aux = some a ∧ a.ack = true) ∧
  (∃ (c : Cmd) (s u : State) (o len : Nat), u = takeCmd c s ∧ Taken 0x0505 c s ∧ o = (cw c 4).toNat ∧ o ≤ 47 ∧ len = fld (cw c 5) 28 24 ∧
    1 ≤ len ∧ len ≤ 16 ∧ (outGet s o).training = false ∧ bitOf s.pwr.domains (outDomain o) = true ∧ bitOf s.pwr.iso (outDomain o) = false
    ∧ bitOf (cw c 5) 30 = false ∧ (∀ a, c.env.aux = some a → a.ack = false)) ∧
  (∃ (c : Cmd) (s u : State) (o len : Nat), u = takeCmd c s ∧ Taken 0x0505 c s ∧ o = (cw c 4).toNat ∧ o ≤ 47 ∧ len = fld (cw c 5) 28 24 ∧
    1 ≤ len ∧ len ≤ 16 ∧ (outGet s o).training = false ∧ bitOf s.pwr.domains (outDomain o) = true ∧ bitOf s.pwr.iso (outDomain o) = false
    ∧ bitOf (cw c 5) 30 = true ∧ (bitOf (cw c 5) 31 = true ∨ 0x300 ≤ fld (cw c 5) 19 0 ∨ fld (cw c 5) 19 0 + len ≤ 0x100)) ∧
  (∃ (c : Cmd) (s u : State) (o len : Nat), u = takeCmd c s ∧ Taken 0x0505 c s ∧ o = (cw c 4).toNat ∧ o ≤ 47 ∧ len = fld (cw c 5) 28 24 ∧
    1 ≤ len ∧ len ≤ 16 ∧ (outGet s o).training = false ∧ bitOf s.pwr.domains (outDomain o) = true ∧ bitOf s.pwr.iso (outDomain o) = false
    ∧ bitOf (cw c 5) 30 = true ∧ bitOf (cw c 5) 31 = false ∧ fld (cw c 5) 19 0 < 0x300 ∧ 0x100 < fld (cw c 5) 19 0 + len) ∧
  (∃ (c : Cmd) (s u : State) (o : Nat), u = takeCmd c s ∧ Taken 0x0505 c s ∧ o = (cw c 4).toNat ∧ o ≤ 47 ∧ (outGet s o).training = true ∧
    bitOf s.pwr.domains (outDomain o) = true ∧ bitOf s.pwr.iso (outDomain o) = false ∧ 1 ≤ fld (cw c 5) 28 24 ∧ fld (cw c 5) 28 24 ≤ 16 ∧
    (bitOf (cw c 5) 30 = false ∨ bitOf (cw c 5) 31 = true)) ∧
  (∃ (c : Cmd) (s u : State) (o : Nat), u = takeCmd c s ∧ Taken 0x0507 c s ∧ o = (cw c 4).toNat ∧ o = 0xFF) ∧
  (∃ (c : Cmd) (s u : State) (o : Nat), u = takeCmd c s ∧ Taken 0x0507 c s ∧ o = (cw c 4).toNat ∧ o ≤ 47 ∧ (cw c 5).toNat ≤ 2 ∧ (cw c
    6).toNat ≤ 3 ∧ ((cw c 5).toNat = 0 ∨ s.pwr.mode = .ready ∨ s.pwr.mode = .maintenance)) ∧
  (∃ (c : Cmd) (s u : State) (o : Nat), u = takeCmd c s ∧ Taken 0x0507 c s ∧ o = (cw c 4).toNat ∧ o ≤ 47 ∧ 1 ≤ (cw c 5).toNat ∧ (cw c
    5).toNat ≤ 2 ∧ (cw c 6).toNat ≤ 3 ∧ s.pwr.mode ≠ .ready ∧ s.pwr.mode ≠ .maintenance) ∧
  (∃ (c : Cmd) (s u : State), u = takeCmd c s ∧ 47 < (cw c 4).toNat ∧ Taken 0x0502 c s) ∧
  (∃ (c : Cmd) (s u : State), u = takeCmd c s ∧ 47 < (cw c 4).toNat ∧ Taken 0x0504 c s) ∧
  (∃ (c : Cmd) (s u : State), u = takeCmd c s ∧ 47 < (cw c 4).toNat ∧ Taken 0x0508 c s) ∧
  (∃ (c : Cmd) (s u : State), u = takeCmd c s ∧ 47 < (cw c 4).toNat ∧ Taken 0x0503 c s) ∧
  (∃ (c : Cmd) (s u : State), u = takeCmd c s ∧ 47 < (cw c 4).toNat ∧ Taken 0x0505 c s) ∧
  (∃ (c : Cmd) (s u : State), u = takeCmd c s ∧ 47 < (cw c 4).toNat ∧ Taken 0x0501 c s ∧ supplyMet u (supplyNeeds 0x0501 opOutputEnable c
    u) = true) ∧
  (∃ (c : Cmd) (s u : State), u = takeCmd c s ∧ 47 < (cw c 4).toNat ∧ Taken 0x0507 c s ∧ (cw c 4).toNat ≠ 0xFF) ∧
  (∃ (c : Cmd) (s u : State), u = takeCmd c s ∧ Taken 0x0500 c s ∧ 47 < orOutput (wordsOf 16 (crec c))) :=
  ⟨⟨cmd .pf0 [] (recd 16 outRecd), out47, _, _, _, rfl, (by decide +kernel), rfl, rfl, (by decide +kernel), (by decide +kernel),
    (by decide +kernel)⟩,
  ⟨cmd .pf0 [] (recd 16 outRecd), canRdy, _, _, _, _, rfl, (by decide +kernel), rfl, rfl, (by decide +kernel), (by decide +kernel),
    (Option.some_get (by decide +kernel)).symm⟩,
  ⟨cmd .pf0 [] (recd 16 outRecd), out47 { en := true }, _, _, _, rfl, (by decide +kernel), rfl, rfl, (by decide +kernel),
    (by decide +kernel)⟩,
  ⟨cmd .pf0 [(4,47)], out47 { en := true }, _, _, _, rfl, rfl, (by decide +kernel), rfl, (by decide +kernel), (by decide +kernel)⟩,
  ⟨cmd .pf0 [(4,47)], gauged (laneUpd 47 (fun x => { x with cal := true, ovl := 5 }) out47), _, _, _, rfl, rfl, (by decide +kernel), rfl,
    (by decide +kernel), (by decide +kernel), (by decide +kernel), (by decide +kernel), (by decide +kernel), (by decide +kernel),
    (by decide +kernel), (by decide +kernel), (by decide +kernel), (by decide +kernel), (by decide +kernel), (by decide +kernel)⟩,
  ⟨cmd .pf0 [(4,47)], { out47 with comp := { out47.comp with commits := [{ mask := 0x800000000000, frame := 2, id := 7, gen := 1 }] } },
    _, _, _, rfl, rfl, (by decide +kernel), rfl, (by decide +kernel), (by decide +kernel), (by decide +kernel), (by decide +kernel),
    (by decide +kernel), (by decide +kernel), (by decide +kernel), (by decide +kernel), (by decide +kernel), (by decide +kernel)⟩,
  ⟨cmd .pf0 [(4,47)], outSet 46
    { en := true, rcd := recW 16 [(0, pack [(31, 26, 46), (25, 20, 46), (14, 12, 6)]), (2, 0xFFFFFFFF), (4, 0xFFFFFFFF)] } out47, _, _, _,
    rfl, rfl, (by decide +kernel), rfl, (by decide +kernel), (by decide +kernel), (by decide +kernel), (by decide +kernel),
    (by decide +kernel), (by decide +kernel), (by decide +kernel), (by decide +kernel), (by decide +kernel), (by decide +kernel),
    (by decide +kernel)⟩,
  ⟨cmd .pf0 [(4,47)], gauged (laneUpd 47 (fun x => { x with cal := true }) out47), _, _, _, rfl, rfl, (by decide +kernel), rfl,
    (by decide +kernel), (by decide +kernel), (by decide +kernel), (by decide +kernel), (by decide +kernel), (by decide +kernel),
    (by decide +kernel), (by decide +kernel), (by decide +kernel), (by decide +kernel), (by decide +kernel), (by decide +kernel),
    (by decide +kernel)⟩,
  ⟨cmd .pf0 [(4,47)], out47 { en := true }, _, _, _, 0, rfl, rfl, (by decide +kernel), rfl, (by decide +kernel), (by decide +kernel),
    (by decide +kernel)⟩,
  ⟨cmd .pf0 [(4,47)], rdy, _, _, _, rfl, rfl, (by decide +kernel), rfl, (by decide +kernel), (by decide +kernel)⟩,
  ⟨cmd .pf0 [(4,47)], rdy, _, _, _, rfl, rfl, (by decide +kernel), rfl, (by decide +kernel)⟩,
  ⟨cmd .pf0 [(4,47)], rdy, _, _, _, rfl, rfl, (by decide +kernel), rfl, (by decide +kernel)⟩,
  ⟨cmd .pf0 [(4,47),(6,2)], atTime 14666667 (out47 { en := true }), _, _, _, _, _, _, _, rfl, (by decide +kernel), rfl,
    (by decide +kernel), (by decide +kernel), rfl, rfl, rfl, rfl, rfl, (by decide +kernel), (by decide +kernel), (by decide +kernel),
    (by decide +kernel)⟩,
  ⟨cmd .pf0 [(4,47),(6,2)], atTime 14666668 (out47 { en := true }), _, _, _, _, _, _, _, rfl, (by decide +kernel), rfl,
    (by decide +kernel), (by decide +kernel), rfl, rfl, rfl, rfl, rfl, (by decide +kernel), (by decide +kernel), (by decide +kernel)⟩,
  ⟨{ cmd .pf0 [(4,47),(5,0x10000000)] with env := { aux := some { ack := true, data := [1] } } }, rdy, _, _, _, _, rfl,
    (by decide +kernel), rfl, (by decide +kernel), rfl, (by decide +kernel), (by decide +kernel), (by decide +kernel),
    (by decide +kernel), (by decide +kernel), (by decide +kernel), (Option.some_get (by decide +kernel)).symm, (by decide +kernel)⟩,
  ⟨cmd .pf0 [(4,47),(5,0x10000000)], rdy, _, _, _, rfl, (by decide +kernel), rfl, (by decide +kernel), rfl, (by decide +kernel),
    (by decide +kernel), (by decide +kernel), (by decide +kernel), (by decide +kernel), (by decide +kernel), (fun _ h => nomatch h)⟩,
  ⟨cmd .pf0 [(4,47),(5,0x50000300)], rdy, _, _, _, rfl, (by decide +kernel), rfl, (by decide +kernel), rfl, (by decide +kernel),
    (by decide +kernel), (by decide +kernel), (by decide +kernel), (by decide +kernel), (by decide +kernel), (by decide +kernel)⟩,
  ⟨cmd .pf0 [(4,47),(5,0x500002FF)], rdy, _, _, _, rfl, (by decide +kernel), rfl, (by decide +kernel), rfl, (by decide +kernel),
    (by decide +kernel), (by decide +kernel), (by decide +kernel), (by decide +kernel), (by decide +kernel), (by decide +kernel),
    (by decide +kernel), (by decide +kernel)⟩,
  ⟨cmd .pf0 [(4,47),(5,0x10000000)], out47 { training := true }, _, _, rfl, (by decide +kernel), rfl, (by decide +kernel),
    (by decide +kernel), (by decide +kernel), (by decide +kernel), (by decide +kernel), (by decide +kernel), (by decide +kernel)⟩,
  ⟨cmd .pf0 [(4,0xFF)], rdy, _, _, rfl, (by decide +kernel), rfl, (by decide +kernel)⟩,
  ⟨cmd .pf0 [(4,47),(5,2),(6,3)], inMode .maintenance, _, _, rfl, (by decide +kernel), rfl, (by decide +kernel), (by decide +kernel),
    (by decide +kernel), (by decide +kernel)⟩,
  ⟨cmd .pf0 [(4,47),(5,1),(6,3)], inMode .solo, _, _, rfl, (by decide +kernel), rfl, (by decide +kernel), (by decide +kernel),
    (by decide +kernel), (by decide +kernel), (by decide +kernel), (by decide +kernel)⟩,
  ⟨cmd .pf0 [(4,48)], rdy, _, rfl, (by decide +kernel), (by decide +kernel)⟩,
  ⟨cmd .pf0 [(4,48)], rdy, _, rfl, (by decide +kernel), (by decide +kernel)⟩,
  ⟨cmd .pf0 [(4,48)], rdy, _, rfl, (by decide +kernel), (by decide +kernel)⟩,
  ⟨cmd .pf0 [(4,48)], rdy, _, rfl, (by decide +kernel), (by decide +kernel)⟩,
  ⟨cmd .pf0 [(4,48)], rdy, _, rfl, (by decide +kernel), (by decide +kernel)⟩,
  ⟨cmd .pf0 [(4,48)], rdy, _, rfl, (by decide +kernel), (by decide +kernel), (by decide +kernel)⟩,
  ⟨cmd .pf0 [(4,48)], rdy, _, rfl, (by decide +kernel), (by decide +kernel), (by decide +kernel)⟩,
  ⟨cmd .pf0 [] (recd 16 (outRecd 48)), rdy, _, rfl, (by decide +kernel), (by decide +kernel)⟩⟩

/-- States and operands that meet the hypotheses of each clause of `LinksFollowVhpdTrainingAndEcho`. -/
theorem witness_LinksFollowVhpdTrainingAndEcho :
  (∃ (o : Nat) (s : State), o < 48 ∧ (outGet s o).vhpd = false ∧ linkHandled s o = true) ∧
  (∃ (o : Nat) (s : State), o < 48 ∧ (outGet s o).vhpd = false ∧ linkHandled s o = false) ∧
  (∃ (o : Nat) (s : State), o < 48 ∧ (outGet s o).vhpd = true ∧ linkHandled s o = true) ∧
  (∃ (o : Nat) (s : State), o < 48 ∧ (outGet s o).vhpd = true ∧ linkHandled s o = false) ∧
  (∃ (o : Nat) (s : State), o < 48 ∧ linkHandled s o = true ∧ (outGet s o).up = true) ∧
  (∃ (o : Nat) (s : State), o < 48 ∧ ((outGet s o).up = false ∨ linkHandled s o = false)) ∧
  (∃ (o : Nat) (s : State), o < 48 ∧ ((outGet s o).training = false ∨ linkHandled s o = false)) ∧
  (∃ (o : Nat) (x : LinkTraining) (s : State), o < 48 ∧ (outGet s o).training = true ∧ linkHandled s o = true ∧ x.ok = true) ∧
  (∃ (o : Nat) (x : LinkTraining) (s : State), o < 48 ∧ (outGet s o).training = true ∧ linkHandled s o = true ∧ x.ok = false) ∧
  (∃ (o : Nat) (s : State) (a : _), o < 48 ∧ (outGet s o).trainFailed = some a ∧ linkHandled s o = true ∧ (outGet s o).vhpd = true ∧ a +
    1000000000 ≤ t2Ns s) ∧
  (∃ (o : Nat) (s : State) (a : _), o < 48 ∧ (outGet s o).trainFailed = some a ∧ (t2Ns s < a + 1000000000 ∨ linkHandled s o = false ∨
    (outGet s o).vhpd = false)) ∧
  (∃ (o : Nat) (s : State), o < 48 ∧ (outGet s o).trainFailed = none) ∧
  (∃ (o gap : Nat) (s : State), o < 48 ∧ gap = (if drillEchoes s = true then 100 else orEchoInt (outRec s o)) * 1000000 ∧ ((outGet s o).en
    = false ∨ (outGet s o).up = false ∨ (outGet s o).echo = false ∨ (orEcho (outRec s o) = false ∧ drillEchoes s = false) ∨ t2Ns s <
    (outGet s o).echoAt + gap)) ∧
  (∃ (o gap : Nat) (s : State), o < 48 ∧ gap = (if drillEchoes s = true then 100 else orEchoInt (outRec s o)) * 1000000 ∧ (outGet s o).en
    = true ∧ (outGet s o).up = true ∧ (outGet s o).echo = true ∧ (orEcho (outRec s o) = true ∨ drillEchoes s = true) ∧ (outGet s o).echoAt
    + gap ≤ t2Ns s) :=
  ⟨⟨47, out47 { en := true }, (by decide +kernel), (by decide +kernel), (by decide +kernel)⟩,
  ⟨47, out47, (by decide +kernel), (by decide +kernel), (by decide +kernel)⟩,
  ⟨47, out47 { en := true, vhpd := true }, (by decide +kernel), (by decide +kernel), (by decide +kernel)⟩,
  ⟨47, out47 { vhpd := true }, (by decide +kernel), (by decide +kernel), (by decide +kernel)⟩,
  ⟨47, out47 { en := true, up := true }, (by decide +kernel), (by decide +kernel), (by decide +kernel)⟩,
  ⟨47, rdy, (by decide +kernel), (by decide +kernel)⟩,
  ⟨47, out47 { en := true }, (by decide +kernel), (by decide +kernel)⟩,
  ⟨47, { ok := true }, out47 { en := true, training := true }, (by decide +kernel), (by decide +kernel), (by decide +kernel),
    (by decide +kernel)⟩,
  ⟨47, { ok := false }, out47 { en := true, training := true }, (by decide +kernel), (by decide +kernel), (by decide +kernel),
    (by decide +kernel)⟩,
  ⟨47, atTime 1000000000 (out47 { en := true, vhpd := true, trainFailed := some 0 }), 0, (by decide +kernel), (by decide +kernel),
    (by decide +kernel), (by decide +kernel), (by decide +kernel)⟩,
  ⟨47, atTime 999999999 (out47 { en := true, vhpd := true, trainFailed := some 0 }), 0, (by decide +kernel), (by decide +kernel),
    (by decide +kernel)⟩,
  ⟨47, rdy, (by decide +kernel), (by decide +kernel)⟩,
  ⟨47, _, rdy, (by decide +kernel), rfl, (by decide +kernel)⟩,
  ⟨47, _, atTime 10000000000 (out47 { en := true, up := true, echo := true }), (by decide +kernel), rfl, (by decide +kernel),
    (by decide +kernel), (by decide +kernel), (by decide +kernel), (by decide +kernel)⟩⟩

/-- States and operands that meet the hypotheses of each clause of `FramesAreFetchedComparedAndAudited`. -/
theorem witness_FramesAreFetchedComparedAndAudited :
  (∃ (g : Nat) (s : State), g < 8 ∧ ((flGet s g).en = false ∨ (flGet s g).num = 0 ∨ t0Ns s < displayTime (flGet s g) (flGet s g).next)) ∧
  (∃ (g : Nat) (s : State), g < 8 ∧ (flGet s g).en = true ∧ (flGet s g).num ≠ 0 ∧ displayTime (flGet s g) (flGet s g).next ≤ t0Ns s) ∧
  (∃ (o row : Nat) (s : State) (x : Output) (r : List W32), o < 48 ∧ x = outGet s o ∧ r = outRec s o ∧ (x.en = false ∨ works s (outDomain
    o) = false ∨ egRows r ≤ row ∨ (0 < row ∧ x.cur = none))) ∧
  (∃ (o row : Nat) (s : State) (x : Output) (r : List W32) (n : _), o < 48 ∧ x = outGet s o ∧ r = outRec s o ∧ x.cur = some n ∧ 0 < row ∧
    (x.rows.length ≠ row ∨ t0Ns s + 80000 < rowTime (flGet s (orGen r)) (orVTotal r) n row)) ∧
  (∃ (o row : Nat) (s : State) (x : Output) (r : List W32) (n : _), o < 48 ∧ x = outGet s o ∧ r = outRec s o ∧ x.cur = some n ∧ 0 < row ∧
    row < egRows r ∧ x.en = true ∧ works s (outDomain o) = true ∧ x.rows.length = row ∧ rowTime (flGet s (orGen r)) (orVTotal r) n row ≤
    t0Ns s + 80000) ∧
  (∃ (o row : Nat) (s : State) (x : Output) (r : List W32) (n : _), o < 48 ∧ x = outGet s o ∧ r = outRec s o ∧ row = 0 ∧ 0 < egRows r ∧
    x.en = true ∧ works s (outDomain o) = true ∧ frameDue s o = some n ∧ (x.cur ≠ some n ∨ x.again = true) ∧ (x.audited = true ∨
    x.rows.length < egRows r)) ∧
  (∃ (o row : Nat) (s : State) (x : Output) (r : List W32) (n : _), o < 48 ∧ x = outGet s o ∧ r = outRec s o ∧ row = 0 ∧ frameDue s o =
    some n ∧ ((x.cur = some n ∧ x.again = false) ∨ (x.audited = false ∧ egRows r ≤ x.rows.length))) ∧
  (∃ (o row : Nat) (s : State) (x : Output) (r : List W32), o < 48 ∧ x = outGet s o ∧ r = outRec s o ∧ row = 0 ∧ frameDue s o = none) ∧
  (∃ (o row n : Nat) (crc : List (List Nat) → W32) (s : State) (x : Output) (e : EgRow), o < 48 ∧ x = outGet s o ∧ x.cur = some n ∧ crc =
    egressCrc (orDepth10 (outRec s o)) ∧ tfind row x.rows = some e ∧ (x.en = false ∨ x.up = false ∨ x.offTx = true ∨ e.sent = false ∨ e.rb
    ≠ 0 ∨ t0Ns s < rowEnd s o n row)) ∧
  (∃ (o row n : Nat) (bad : List (Nat × List (List Nat))) (crc : List (List Nat) → W32) (s : State) (x : Output) (e : EgRow), o < 48 ∧ x =
    outGet s o ∧ x.cur = some n ∧ crc = egressCrc (orDepth10 (outRec s o)) ∧ tfind row x.rows = some e ∧ x.en = true ∧ e.sent = true ∧
    e.rb = 0 ∧ x.up = true ∧ x.offTx = false ∧ rowEnd s o n row ≤ t0Ns s ∧ (∀ b ∈ bad, b.1 < e.stitches.length → (e.stitches.getD b.1
    {}).crc = crc b.2)) ∧
  (∃ (o row n : Nat) (bad : List (Nat × List (List Nat))) (crc : List (List Nat) → W32) (s : State) (x : Output) (e : EgRow), o < 48 ∧ x =
    outGet s o ∧ x.cur = some n ∧ crc = egressCrc (orDepth10 (outRec s o)) ∧ tfind row x.rows = some e ∧ x.en = true ∧ e.sent = true ∧
    e.rb = 0 ∧ x.up = true ∧ x.offTx = false ∧ rowEnd s o n row ≤ t0Ns s ∧ (∃ b ∈ bad, b.1 < e.stitches.length ∧ (e.stitches.getD b.1
    {}).crc ≠ crc b.2)) ∧
  (∃ (o : Nat) (s : State), o < 48 ∧ ((outGet s o).en = false ∨ (outGet s o).up = false ∨ (outGet s o).offTx = true ∨ laneBusy s o = true
    ∨ works s (outDomain o) = false)) ∧
  (∃ (o : Nat) (s : State), o < 48 ∧ (outGet s o).en = true ∧ (outGet s o).up = true ∧ (outGet s o).offTx = false ∧ laneBusy s o = false ∧
    works s (outDomain o) = true) ∧
  (∃ (o n : Nat) (s : State) (x : Output), o < 48 ∧ x = outGet s o ∧ x.cur = some n ∧ (x.en = false ∨ orKa (outRec s o) = false ∨ works s
    (outDomain o) = false ∨ (∀ f, x.frame0 = some f → n < f) ∨ x.kaDone = true ∨ x.rows.length ≠ egRows (outRec s o) ∨ t0Ns s < activeEnd
    s o n)) ∧
  (∃ (o n : Nat) (s : State) (x : Output) (f : _), o < 48 ∧ x = outGet s o ∧ x.cur = some n ∧ x.frame0 = some f ∧ f ≤ n ∧ x.en = true ∧
    orKa (outRec s o) = true ∧ x.kaDone = false ∧ x.rows.length = egRows (outRec s o) ∧ activeEnd s o n ≤ t0Ns s ∧ works s (outDomain o) =
    true) ∧
  (∃ (o n : Nat) (s : State) (x : Output), o < 48 ∧ x = outGet s o ∧ x.cur = some n ∧ (x.en = false ∨ works s (outDomain o) = false ∨
    x.audited = true ∨ x.rows.length ≠ egRows (outRec s o) ∨ (x.again = false ∧ t0Ns s < activeEnd s o n))) ∧
  (∃ (o n : Nat) (s : State) (x : Output), o < 48 ∧ x = outGet s o ∧ x.cur = some n ∧ x.en = true ∧ x.audited = false ∧ x.rows.length =
    egRows (outRec s o) ∧ (x.up = false ∨ x.offTx = true ∨ ∀ y ∈ x.rows, y.2.sent = false ∨ y.2.rb ≠ 0) ∧ (x.again = true ∨ activeEnd s o
    n ≤ t0Ns s) ∧ works s (outDomain o) = true) ∧
  (∃ (s : State), ringRoom (ringGet s 0 14) 1 = true) ∧
  (∃ (s : State), ringRoom (ringGet s 0 14) 1 = false) :=
  ⟨⟨7, atTime 16666665 (flSet 7 { en := true, num := 60, next := 1 } rdy), (by decide +kernel), (by decide +kernel)⟩,
  ⟨7, atTime 16666667 (flSet 7 { en := true, num := 60, next := 1 } rdy), (by decide +kernel), (by decide +kernel), (by decide +kernel),
    (by decide +kernel)⟩,
  ⟨47, 2, out47 { en := true }, _, _, (by decide +kernel), rfl, rfl, (by decide +kernel)⟩,
  ⟨47, 1, out47 { en := true, cur := some 2, rows := [(0, {})] }, _, _, 2, (by decide +kernel), rfl, rfl, (by decide +kernel),
    (by decide +kernel), (by decide +kernel)⟩,
  ⟨47, 1, atTime 50000000 (out47 { en := true, cur := some 2, rows := [(0, {})] }), _, _, 2, (by decide +kernel), rfl, rfl,
    (by decide +kernel), (by decide +kernel), (by decide +kernel), (by decide +kernel), (by decide +kernel), (by decide +kernel),
    (by decide +kernel)⟩,
  ⟨47, 0, out47 { en := true }, _, _, 0, (by decide +kernel), rfl, rfl, (by decide +kernel), (by decide +kernel), (by decide +kernel),
    (by decide +kernel), (by decide +kernel), (by decide +kernel), (by decide +kernel)⟩,
  ⟨47, 0, out47 { en := true, cur := some 0 }, _, _, 0, (by decide +kernel), rfl, rfl, (by decide +kernel), (by decide +kernel),
    (by decide +kernel)⟩,
  ⟨47, 0, out47 { en := true } (flSet 0 {} canRdy), _, _, (by decide +kernel), rfl, rfl, (by decide +kernel), (by decide +kernel)⟩,
  ⟨47, 1, 2, _, out47 { en := true, cur := some 2, rows := [(1, {})] }, _, _, (by decide +kernel), rfl, (by decide +kernel), rfl,
    (Option.some_get (by decide +kernel)).symm, (by decide +kernel)⟩,
  ⟨47, 1, 2, [(1, [])], _, atTime 50000000 (out47
    { en := true, up := true, cur := some 2, rows := [(1, { sent := true, stitches := [{}, {}] })] }), _, _, (by decide +kernel), rfl,
    (by decide +kernel), rfl, (Option.some_get (by decide +kernel)).symm, (by decide +kernel), (by decide +kernel), (by decide +kernel),
    (by decide +kernel), (by decide +kernel), (by decide +kernel), (by decide +kernel)⟩,
  ⟨47, 1, 2, [(1, [[1]])], _, atTime 50000000 (out47
    { en := true, up := true, cur := some 2, rows := [(1, { sent := true, stitches := [{}, {}] })] }), _, _, (by decide +kernel), rfl,
    (by decide +kernel), rfl, (Option.some_get (by decide +kernel)).symm, (by decide +kernel), (by decide +kernel), (by decide +kernel),
    (by decide +kernel), (by decide +kernel), (by decide +kernel), (by decide +kernel)⟩,
  ⟨47, out47 { en := true }, (by decide +kernel), (by decide +kernel)⟩,
  ⟨47, out47 { en := true, up := true }, (by decide +kernel), (by decide +kernel), (by decide +kernel), (by decide +kernel),
    (by decide +kernel), (by decide +kernel)⟩,
  ⟨47, 2, out47 { en := true, cur := some 2 }, _, (by decide +kernel), rfl, (by decide +kernel), (by decide +kernel)⟩,
  ⟨47, 2, atTime 50000000 (out47 { en := true, cur := some 2, frame0 := some 2, rows := [(0, {}), (1, {})] }), _, 2, (by decide +kernel),
    rfl, (by decide +kernel), (by decide +kernel), (by decide +kernel), (by decide +kernel), (by decide +kernel), (by decide +kernel),
    (by decide +kernel), (by decide +kernel), (by decide +kernel)⟩,
  ⟨47, 2, out47 { en := true, cur := some 2 }, _, (by decide +kernel), rfl, (by decide +kernel), (by decide +kernel)⟩,
  ⟨47, 2, atTime 50000000 (out47 { en := true, cur := some 2, audited := false, rows := [(0, {}), (1, { sent := true, rb := 1 })] }), _,
    (by decide +kernel), rfl, (by decide +kernel), (by decide +kernel), (by decide +kernel), (by decide +kernel), (by decide +kernel),
    (by decide +kernel), (by decide +kernel)⟩,
  ⟨rdy, (by decide +kernel)⟩,
  ⟨{ rdy with hif := { rdy.hif with fn0 := {} } }, (by decide +kernel)⟩⟩

/-- States and operands that meet the hypotheses of each clause of `EncodeChannelsAreSetAndEnabled`. -/
theorem witness_EncodeChannelsAreSetAndEnabled :
  (∃ (c : Cmd) (s u : State) (r : List W32) (k : Nat), u = takeCmd c s ∧ Taken 0x0600 c s ∧ r = wordsOf 16 (crec c) ∧ k = erChan r ∧
    (ecGet s k).en = true) ∧
  (∃ (c : Cmd) (s u : State) (r : List W32) (k : Nat) (n : _), u = takeCmd c s ∧ Taken 0x0600 c s ∧ r = wordsOf 16 (crec c) ∧ k = erChan r
    ∧ (ecGet s k).en = false ∧ encBad u r = some n) ∧
  (∃ (c : Cmd) (s u : State) (r : List W32) (k : Nat), u = takeCmd c s ∧ Taken 0x0600 c s ∧ r = wordsOf 16 (crec c) ∧ k = erChan r ∧
    (ecGet s k).en = false ∧ encBad u r = none) ∧
  (∃ (c : Cmd) (s u : State) (k : Nat) (x : EncChan), u = takeCmd c s ∧ k = (cw c 4).toNat ∧ x = ecGet s k ∧ Taken 0x0601 c s ∧ (7 < k ∨
    x.rcd = [])) ∧
  (∃ (c : Cmd) (s u : State) (k : Nat) (x : EncChan), u = takeCmd c s ∧ k = (cw c 4).toNat ∧ x = ecGet s k ∧ Taken 0x0601 c s ∧ k ≤ 7 ∧
    x.rcd ≠ [] ∧ (bitOf s.pwr.domains 8 = false ∨ bitOf s.pwr.iso 8 = true)) ∧
  (∃ (c : Cmd) (s u : State) (k : Nat) (x : EncChan), u = takeCmd c s ∧ k = (cw c 4).toNat ∧ x = ecGet s k ∧ Taken 0x0601 c s ∧ k ≤ 7 ∧
    x.rcd ≠ [] ∧ bitOf s.pwr.domains 8 = true ∧ bitOf s.pwr.iso 8 = false ∧ x.en = true) ∧
  (∃ (c : Cmd) (s u : State) (k : Nat) (x : EncChan), u = takeCmd c s ∧ k = (cw c 4).toNat ∧ x = ecGet s k ∧ Taken 0x0601 c s ∧ k ≤ 7 ∧
    x.rcd ≠ [] ∧ bitOf s.pwr.domains 8 = true ∧ bitOf s.pwr.iso 8 = false ∧ x.en = false ∧ erView x.rcd = true ∧ (outGet s (erSrc
    x.rcd)).en = false) ∧
  (∃ (c : Cmd) (s u : State) (k : Nat) (x : EncChan), u = takeCmd c s ∧ k = (cw c 4).toNat ∧ x = ecGet s k ∧ Taken 0x0601 c s ∧ k ≤ 7 ∧
    x.rcd ≠ [] ∧ bitOf s.pwr.domains 8 = true ∧ bitOf s.pwr.iso 8 = false ∧ x.en = false ∧ (erView x.rcd = false ∨ (outGet s (erSrc
    x.rcd)).en = true) ∧ encBad u x.rcd ≠ none) ∧
  (∃ (c : Cmd) (s u : State) (k : Nat) (x : EncChan), u = takeCmd c s ∧ k = (cw c 4).toNat ∧ x = ecGet s k ∧ Taken 0x0601 c s ∧ k ≤ 7 ∧
    x.rcd ≠ [] ∧ bitOf s.pwr.domains 8 = true ∧ bitOf s.pwr.iso 8 = false ∧ x.en = false ∧ (erView x.rcd = false ∨ (outGet s (erSrc
    x.rcd)).en = true) ∧ encBad u x.rcd = none ∧ supplyMet u (supplyNeeds 0x0601 opEncEnable c u) = true) ∧
  (∃ (c : Cmd) (s u : State) (k : Nat) (x : EncChan), u = takeCmd c s ∧ k = (cw c 4).toNat ∧ x = ecGet s k ∧ Taken 0x0602 c s ∧ 7 < k) ∧
  (∃ (c : Cmd) (s u : State) (k : Nat) (x : EncChan), u = takeCmd c s ∧ k = (cw c 4).toNat ∧ x = ecGet s k ∧ Taken 0x0602 c s ∧ k ≤ 7 ∧
    x.en = false) ∧
  (∃ (c : Cmd) (s u : State) (k : Nat) (x : EncChan), u = takeCmd c s ∧ k = (cw c 4).toNat ∧ x = ecGet s k ∧ Taken 0x0602 c s ∧ k ≤ 7 ∧
    x.en = true) ∧
  (∃ (c : Cmd) (s u : State) (k : Nat) (x : EncChan), u = takeCmd c s ∧ k = (cw c 4).toNat ∧ x = ecGet s k ∧ Taken 0x0603 c s ∧ k ≤ 7) ∧
  (∃ (c : Cmd) (s u : State) (k : Nat) (x : EncChan), u = takeCmd c s ∧ k = (cw c 4).toNat ∧ x = ecGet s k ∧ Taken 0x0603 c s ∧ 7 < k) ∧
  (∃ (c : Cmd) (s u : State) (k : Nat) (x : EncChan), u = takeCmd c s ∧ k = (cw c 4).toNat ∧ x = ecGet s k ∧ Taken 0x0604 c s ∧ k ≤ 7 ∧
    x.en = true) ∧
  (∃ (c : Cmd) (s u : State) (k : Nat) (x : EncChan), u = takeCmd c s ∧ k = (cw c 4).toNat ∧ x = ecGet s k ∧ Taken 0x0604 c s ∧ (7 < k ∨
    x.en = false)) ∧
  (∃ (s : State) (o : Outst) (d : List Byte), loadOutst s = some o ∧ o.opcode = 0x0603 ∧ crc32c d = o.arg.getD 0 0 ∧ coefBad d = false) ∧
  (∃ (s : State) (o : Outst) (d : List Byte), loadOutst s = some o ∧ o.opcode = 0x0603 ∧ crc32c d ≠ o.arg.getD 0 0) ∧
  (∃ (s : State) (o : Outst) (d : List Byte), loadOutst s = some o ∧ o.opcode = 0x0603 ∧ crc32c d = o.arg.getD 0 0 ∧ coefBad d = true) ∧
  (∃ (ch : Nat) (a : RegW) (s : State) (x : EncChan) (n : Nat), ch < 8 ∧ Writes (0xC100 + 0x10 * ch) a s ∧ x = ecGet s ch ∧ n = fld a.val
    27 0 ∧ n % 64 = 0 ∧ 64 ≤ n ∧ n ≤ 2 ^ erLog2 x.rcd - 64 ∧ ((x.cons ≤ x.prod ∧ x.cons ≤ n ∧ n ≤ x.prod) ∨ (x.prod < x.cons ∧ (x.cons ≤ n
    ∨ n ≤ x.prod)))) ∧
  (∃ (ch : Nat) (a : RegW) (s : State) (x : EncChan) (n : Nat), ch < 8 ∧ Writes (0xC100 + 0x10 * ch) a s ∧ x = ecGet s ch ∧ n = fld a.val
    27 0 ∧ (n % 64 ≠ 0 ∨ n < 64 ∨ 2 ^ erLog2 x.rcd - 64 < n ∨ (x.cons ≤ x.prod ∧ (n < x.cons ∨ x.prod < n)) ∨ (x.prod < x.cons ∧ x.prod <
    n ∧ n < x.cons))) :=
  ⟨⟨cmd .pf0 [] (recd 16 encRecd), enc7 { en := true }, _, _, _, rfl, (by decide +kernel), rfl, rfl, (by decide +kernel)⟩,
  ⟨cmd .pf0 [] (recd 16 encRecd), rdy, _, _, _, _, rfl, (by decide +kernel), rfl, rfl, (by decide +kernel), (Option.some_get
    (by decide +kernel)).symm⟩,
  ⟨cmd .pf0 [] (recd 16 encRecd), can63, _, _, _, rfl, (by decide +kernel), rfl, rfl, (by decide +kernel), (by decide +kernel)⟩,
  ⟨cmd .pf0 [(4,8)], rdy, _, _, _, rfl, rfl, rfl, (by decide +kernel), (by decide +kernel)⟩,
  ⟨cmd .pf0 [(4,7)], { enc7 with pwr := { rdy.pwr with domains := 0x7EFF } }, _, _, _, rfl, rfl, rfl, (by decide +kernel),
    (by decide +kernel), (by decide +kernel), (by decide +kernel)⟩,
  ⟨cmd .pf0 [(4,7)], enc7 { en := true }, _, _, _, rfl, rfl, rfl, (by decide +kernel), (by decide +kernel), (by decide +kernel),
    (by decide +kernel), (by decide +kernel), (by decide +kernel)⟩,
  ⟨cmd .pf0 [(4,7)], ecSet 7 { rcd := recW 16 [(0, 0xF0000000)] } rdy, _, _, _, rfl, rfl, rfl, (by decide +kernel), (by decide +kernel),
    (by decide +kernel), (by decide +kernel), (by decide +kernel), (by decide +kernel), (by decide +kernel), (by decide +kernel)⟩,
  ⟨cmd .pf0 [(4,7)], enc7 {} rdy, _, _, _, rfl, rfl, rfl, (by decide +kernel), (by decide +kernel), (by decide +kernel),
    (by decide +kernel), (by decide +kernel), (by decide +kernel), (by decide +kernel), (by decide +kernel)⟩,
  ⟨cmd .pf0 [(4,7)], enc7, _, _, _, rfl, rfl, rfl, (by decide +kernel), (by decide +kernel), (by decide +kernel), (by decide +kernel),
    (by decide +kernel), (by decide +kernel), (by decide +kernel), (by decide +kernel), (by decide +kernel)⟩,
  ⟨cmd .pf0 [(4,8)], rdy, _, _, _, rfl, rfl, rfl, (by decide +kernel), (by decide +kernel)⟩,
  ⟨cmd .pf0 [(4,7)], rdy, _, _, _, rfl, rfl, rfl, (by decide +kernel), (by decide +kernel), (by decide +kernel)⟩,
  ⟨cmd .pf0 [(4,7)], enc7 { en := true }, _, _, _, rfl, rfl, rfl, (by decide +kernel), (by decide +kernel), (by decide +kernel)⟩,
  ⟨cmd .pf0 [(4,7)], rdy, _, _, _, rfl, rfl, rfl, (by decide +kernel), (by decide +kernel)⟩,
  ⟨cmd .pf0 [(4,8)], rdy, _, _, _, rfl, rfl, rfl, (by decide +kernel), (by decide +kernel)⟩,
  ⟨cmd .pf0 [(4,7)], enc7 { en := true }, _, _, _, rfl, rfl, rfl, (by decide +kernel), (by decide +kernel), (by decide +kernel)⟩,
  ⟨cmd .pf0 [(4,8)], rdy, _, _, _, rfl, rfl, rfl, (by decide +kernel), (by decide +kernel)⟩,
  ⟨outst 0x0603 7 [crc32c coefImage], _, coefImage, (load_enc _), rfl, (first_arg _), coefImage_good⟩,
  ⟨outst 0x0603 7 [1], _, [], (Option.some_get (by decide +kernel)).symm, (by decide +kernel), (by decide +kernel)⟩,
  ⟨outst 0x0603 7 [crc32c []], _, [], (load_enc _), rfl, (first_arg _), (by decide +kernel)⟩,
  ⟨7, wr 0xFFC0, enc7 { prod := 64, cons := 0xFFC0 }, _, _, (by decide +kernel), (by decide +kernel), rfl, rfl, (by decide +kernel),
    (by decide +kernel), (by decide +kernel), (by decide +kernel)⟩,
  ⟨7, wr 0x10000, enc7, _, _, (by decide +kernel), (by decide +kernel), rfl, rfl, (by decide +kernel)⟩⟩

/-- States and operands that meet the hypotheses of each clause of `EncodeFramesAreReadClosedAndWritten`. -/
theorem witness_EncodeFramesAreReadClosedAndWritten :
  (∃ (k : Nat) (s : State) (r : List W32), k < 8 ∧ r = (ecGet s k).rcd ∧ encDue s k = none) ∧
  (∃ (k : Nat) (s : State) (r : List W32) (n : _), k < 8 ∧ r = (ecGet s k).rcd ∧ encDue s k = some n ∧ t0Ns s < displayTime (encGen s r)
    n) ∧
  (∃ (k : Nat) (s : State) (r : List W32) (n : _), k < 8 ∧ r = (ecGet s k).rcd ∧ encDue s k = some n ∧ displayTime (encGen s r) n ≤ t0Ns s
    ∧ encNoInput s r = false ∧ erView r = true ∧ viewJudged s r n = false) ∧
  (∃ (k : Nat) (s : State) (r : List W32) (n : _), k < 8 ∧ r = (ecGet s k).rcd ∧ encDue s k = some n ∧ displayTime (encGen s r) n ≤ t0Ns s
    ∧ (encNoInput s r = true ∨ erView r = false ∨ viewJudged s r n = true)) ∧
  (∃ (k : Nat) (s : State) (r : List W32) (fs f : _), k < 8 ∧ r = (ecGet s k).rcd ∧ (∀ n, encDue s k = some n → t0Ns s + 80000 <
    displayTime (encGen s r) (n + 1)) ∧ (ecGet s k).frames = fs ++ [f] ∧ (f.t0 ≠ none ∨ t0Ns s + 80000 < displayTime (encGen s r) (f.n +
    1))) ∧
  (∃ (k : Nat) (s : State) (r : List W32) (fs f : _), k < 8 ∧ r = (ecGet s k).rcd ∧ (∀ n, encDue s k = some n → t0Ns s + 80000 <
    displayTime (encGen s r) (n + 1)) ∧ (ecGet s k).frames = fs ++ [f] ∧ f.t0 = none ∧ displayTime (encGen s r) (f.n + 1) ≤ t0Ns s +
    80000) ∧
  (∃ (k : Nat) (s : State) (r : List W32), k < 8 ∧ r = (ecGet s k).rcd ∧ (∀ n, encDue s k = some n → t0Ns s + 80000 < displayTime (encGen
    s r) (n + 1)) ∧ (ecGet s k).frames = []) ∧
  (∃ (k : Nat) (s : State) (r : List W32) (n : _), k < 8 ∧ r = (ecGet s k).rcd ∧ encDue s k = some n ∧ displayTime (encGen s r) (n + 1) ≤
    t0Ns s + 80000) ∧
  (∃ (k : Nat) (s : State) (x : EncChan), k < 8 ∧ x = ecGet s k ∧ (x.frames = [] ∨ (∃ f fs, x.frames = f :: fs ∧ f.t0 = none) ∨ x.en =
    false ∨ works s 8 = false)) ∧
  (∃ (k : Nat) (s : State) (x : EncChan) (f fs : _), k < 8 ∧ x = ecGet s k ∧ x.frames = f :: fs ∧ f.t0 ≠ none ∧ x.en = true ∧ works s 8 =
    true) ∧
  (∃ (k : Nat) (s : State), k < 8 ∧ ((ecGet s k).sum.frames = 0 ∨ s.tb.t2.sec.toNat ≤ (ecGet s k).sum.second)) ∧
  (∃ (k : Nat) (s : State), k < 8 ∧ (ecGet s k).sum.frames ≠ 0 ∧ (ecGet s k).sum.second < s.tb.t2.sec.toNat) :=
  ⟨⟨7, rdy, _, (by decide +kernel), rfl, (by decide +kernel)⟩,
  ⟨7, atTime 16666665 (enc7 { en := true } (flSet 0 { en := true, num := 60, next := 2 } can63)), _, 1, (by decide +kernel), rfl,
    (by decide +kernel), (by decide +kernel)⟩,
  ⟨7, atTime 16666667 (ecSet 7 { en := true, rcd := recW 16 [(0, pack [(31,29,7),(28,28,1),(27,22,47),(16,13,1)])] } (out47
    { en := true, up := true } (flSet 0 { en := true, num := 60, next := 2 } rdy))), _, 1, (by decide +kernel), rfl, (by decide +kernel),
    (by decide +kernel), (by decide +kernel), (by decide +kernel), (by decide +kernel)⟩,
  ⟨7, atTime 16666667 (enc7 { en := true } (flSet 0 { en := true, num := 60, next := 2 } can63)), _, 1, (by decide +kernel), rfl,
    (by decide +kernel), (by decide +kernel), (by decide +kernel)⟩,
  ⟨7, enc7 { frames := [recFrm (some 0)] }, _, ([] : List RecFrame), recFrm (some 0), (by decide +kernel), rfl, (fun n h => by cases h),
    (by decide +kernel), (by decide +kernel)⟩,
  ⟨7, atTime 16586666 (enc7 { frames := [recFrm none] }), _, ([] : List RecFrame), recFrm none, (by decide +kernel), rfl,
    (fun n h => by cases h), (by decide +kernel), (by decide +kernel), (by decide +kernel)⟩,
  ⟨7, rdy, _, (by decide +kernel), rfl, (fun n h => by cases h), (by decide +kernel)⟩,
  ⟨7, atTime 33333333 (enc7 { en := true } (flSet 0 { en := true, num := 60, next := 2 } can63)), _, 1, (by decide +kernel), rfl,
    (by decide +kernel), (by decide +kernel)⟩,
  ⟨7, rdy, _, (by decide +kernel), rfl, (.inl rfl)⟩,
  ⟨7, enc7 { en := true, frames := [recFrm (some 0)] }, _, recFrm (some 0), ([] : List RecFrame), (by decide +kernel), rfl,
    (by decide +kernel), (by decide +kernel), (by decide +kernel), (by decide +kernel)⟩,
  ⟨7, rdy, (by decide +kernel), (by decide +kernel)⟩,
  ⟨7, { enc7 { sum := { second := 0, mask := 0, frames := 1, rows := 1 } } with tb := { rdy.tb with t2 := { rdy.tb.t2 with sec := 1 } } },
    (by decide +kernel), (by decide +kernel), (by decide +kernel)⟩⟩

/-- States and operands that meet the hypotheses of each clause of `PairCommandsFollowTheirModes`. -/
theorem witness_PairCommandsFollowTheirModes :
  (∃ (c : Cmd) (s u : State) (limit : Nat) (leads : Bool) (p : PairUnit), u = takeCmd c s ∧ Taken 0x0700 c s ∧ limit =
    (if (cw c 3).toNat = 0 then 120 else (cw c 3).toNat) ∧ leads = (bitOf (cw c 2) 31 && (s.pwr.mode == .solo || (s.pwr.mode == .ready &&
    !peerLeads u))) ∧ p =
    { s.pair with enabled := bitOf (cw c 2) 31, posB := bitOf (cw c 2) 30, refGen := fld (cw c 2) 2 0, limitS := limit } ∧ (s.pwr.mode =
    .ready ∨ s.pwr.mode = .solo ∨ (s.pwr.mode = .lead ∧ peerJoined u = false)) ∧ 10 ≤ limit ∧ limit ≤ 3600 ∧ leads = false) ∧
  (∃ (c : Cmd) (s u : State) (limit : Nat) (leads : Bool) (p : PairUnit), u = takeCmd c s ∧ Taken 0x0700 c s ∧ limit =
    (if (cw c 3).toNat = 0 then 120 else (cw c 3).toNat) ∧ leads = (bitOf (cw c 2) 31 && (s.pwr.mode == .solo || (s.pwr.mode == .ready &&
    !peerLeads u))) ∧ p =
    { s.pair with enabled := bitOf (cw c 2) 31, posB := bitOf (cw c 2) 30, refGen := fld (cw c 2) 2 0, limitS := limit } ∧ (s.pwr.mode =
    .ready ∨ s.pwr.mode = .solo ∨ (s.pwr.mode = .lead ∧ peerJoined u = false)) ∧ 10 ≤ limit ∧ limit ≤ 3600 ∧ leads = true ∧ pairRefused u
    = false) ∧
  (∃ (c : Cmd) (s u : State) (limit : Nat) (leads : Bool) (p : PairUnit), u = takeCmd c s ∧ Taken 0x0700 c s ∧ limit =
    (if (cw c 3).toNat = 0 then 120 else (cw c 3).toNat) ∧ leads = (bitOf (cw c 2) 31 && (s.pwr.mode == .solo || (s.pwr.mode == .ready &&
    !peerLeads u))) ∧ p =
    { s.pair with enabled := bitOf (cw c 2) 31, posB := bitOf (cw c 2) 30, refGen := fld (cw c 2) 2 0, limitS := limit } ∧ (s.pwr.mode =
    .ready ∨ s.pwr.mode = .solo ∨ (s.pwr.mode = .lead ∧ peerJoined u = false)) ∧ 10 ≤ limit ∧ limit ≤ 3600 ∧ leads = true ∧ pairRefused u
    = true) ∧
  (∃ (c : Cmd) (s u : State) (limit : Nat) (leads : Bool) (p : PairUnit), u = takeCmd c s ∧ Taken 0x0700 c s ∧ limit =
    (if (cw c 3).toNat = 0 then 120 else (cw c 3).toNat) ∧ leads = (bitOf (cw c 2) 31 && (s.pwr.mode == .solo || (s.pwr.mode == .ready &&
    !peerLeads u))) ∧ p =
    { s.pair with enabled := bitOf (cw c 2) 31, posB := bitOf (cw c 2) 30, refGen := fld (cw c 2) 2 0, limitS := limit } ∧ (s.pwr.mode =
    .ready ∨ s.pwr.mode = .solo ∨ (s.pwr.mode = .lead ∧ peerJoined u = false)) ∧ (limit < 10 ∨ 3600 < limit)) ∧
  (∃ (c : Cmd) (s u : State) (limit : Nat) (leads : Bool) (p : PairUnit), u = takeCmd c s ∧ Taken 0x0700 c s ∧ limit =
    (if (cw c 3).toNat = 0 then 120 else (cw c 3).toNat) ∧ leads = (bitOf (cw c 2) 31 && (s.pwr.mode == .solo || (s.pwr.mode == .ready &&
    !peerLeads u))) ∧ p =
    { s.pair with enabled := bitOf (cw c 2) 31, posB := bitOf (cw c 2) 30, refGen := fld (cw c 2) 2 0, limitS := limit } ∧ (s.pwr.mode ≠
    .ready ∧ s.pwr.mode ≠ .solo ∧ (s.pwr.mode ≠ .lead ∨ peerJoined u = true))) ∧
  (∃ (c : Cmd) (s u : State), u = takeCmd c s ∧ Taken 0x0701 c s ∧ s.pwr.mode = .lead ∧ 1 ≤ (cw c 2).toNat ∧ (cw c 2).toNat ≤ 3600 ∧ bitOf
    s.pwr.domains 14 = true ∧ bitOf s.pwr.iso 14 = false) ∧
  (∃ (c : Cmd) (s u : State), u = takeCmd c s ∧ Taken 0x0701 c s ∧ s.pwr.mode = .lead ∧ ((cw c 2).toNat = 0 ∨ 3600 < (cw c 2).toNat)) ∧
  (∃ (c : Cmd) (s u : State), u = takeCmd c s ∧ Taken 0x0701 c s ∧ s.pwr.mode = .lead ∧ 1 ≤ (cw c 2).toNat ∧ (cw c 2).toNat ≤ 3600 ∧
    (bitOf s.pwr.domains 14 = false ∨ bitOf s.pwr.iso 14 = true)) ∧
  (∃ (c : Cmd) (s u : State), u = takeCmd c s ∧ Taken 0x0701 c s ∧ s.pwr.mode ≠ .lead) ∧
  (∃ (c : Cmd) (s u : State), u = takeCmd c s ∧ Taken 0x0702 c s ∧ s.pwr.mode = .ready ∧ s.pair.enabled = true ∧ pairRefused u = false ∧
    bitOf s.pwr.domains 14 = true ∧ bitOf s.pwr.iso 14 = false ∧ (∀ i ∈ [80, 81, 82, 83], (laneGet s i).cal = true ∧ laneState u i ≠ 6)) ∧
  (∃ (c : Cmd) (s u : State), u = takeCmd c s ∧ Taken 0x0702 c s ∧ s.pwr.mode = .ready ∧ s.pair.enabled = true ∧ pairRefused u = false ∧
    bitOf s.pwr.domains 14 = true ∧ bitOf s.pwr.iso 14 = false ∧ (∀ i ∈ [80, 81, 82, 83], (laneGet s i).cal = true) ∧ (∃ i ∈ [80, 81, 82,
    83], laneState u i = 6)) ∧
  (∃ (c : Cmd) (s u : State) (i : _), u = takeCmd c s ∧ Taken 0x0702 c s ∧ s.pwr.mode = .ready ∧ s.pair.enabled = true ∧ pairRefused u =
    false ∧ bitOf s.pwr.domains 14 = true ∧ bitOf s.pwr.iso 14 = false ∧ laneBroken u [80, 81, 82, 83] = some i) ∧
  (∃ (c : Cmd) (s u : State), u = takeCmd c s ∧ Taken 0x0702 c s ∧ s.pwr.mode = .ready ∧ s.pair.enabled = true ∧ pairRefused u = false ∧
    (bitOf s.pwr.domains 14 = false ∨ bitOf s.pwr.iso 14 = true)) ∧
  (∃ (c : Cmd) (s u : State), u = takeCmd c s ∧ Taken 0x0702 c s ∧ s.pwr.mode = .ready ∧ s.pair.enabled = true ∧ pairRefused u = true) ∧
  (∃ (c : Cmd) (s u : State), u = takeCmd c s ∧ Taken 0x0702 c s ∧ s.pwr.mode = .ready ∧ s.pair.enabled = false) ∧
  (∃ (c : Cmd) (s u : State), u = takeCmd c s ∧ Taken 0x0702 c s ∧ s.pwr.mode ≠ .ready) ∧
  (∃ (c : Cmd) (s u : State) (n ret : Nat), u = takeCmd c s ∧ Taken 0x0703 c s ∧ n = frameNamed (refGenOf s) (cw c 4) ∧ ret = (cw c
    5).toNat ∧ s.pwr.mode = .lead ∧ s.pair.peerFit = true ∧ ret ≤ 86400 ∧ (refGenOf s).en = true ∧ t0Ns s + 100000000 ≤ displayTime
    (refGenOf s) n) ∧
  (∃ (c : Cmd) (s u : State) (n ret : Nat), u = takeCmd c s ∧ Taken 0x0703 c s ∧ n = frameNamed (refGenOf s) (cw c 4) ∧ ret = (cw c
    5).toNat ∧ s.pwr.mode = .lead ∧ s.pair.peerFit = true ∧ ret ≤ 86400 ∧ ((refGenOf s).en = false ∨ displayTime (refGenOf s) n < t0Ns s +
    100000000)) ∧
  (∃ (c : Cmd) (s u : State) (n ret : Nat), u = takeCmd c s ∧ Taken 0x0703 c s ∧ n = frameNamed (refGenOf s) (cw c 4) ∧ ret = (cw c
    5).toNat ∧ s.pwr.mode = .lead ∧ s.pair.peerFit = true ∧ 86400 < ret) ∧
  (∃ (c : Cmd) (s u : State) (n ret : Nat), u = takeCmd c s ∧ Taken 0x0703 c s ∧ n = frameNamed (refGenOf s) (cw c 4) ∧ ret = (cw c
    5).toNat ∧ (s.pwr.mode ≠ .lead ∨ s.pair.peerFit = false)) ∧
  (∃ (c : Cmd) (s u : State), u = takeCmd c s ∧ Taken 0x0704 c s ∧ (s.pwr.mode = .follow ∨ s.pwr.mode = .knitUp)) ∧
  (∃ (c : Cmd) (s u : State), u = takeCmd c s ∧ Taken 0x0704 c s ∧ s.pwr.mode = .lead ∧ peerJoined u = true) ∧
  (∃ (c : Cmd) (s u : State), u = takeCmd c s ∧ Taken 0x0704 c s ∧ s.pwr.mode = .lead ∧ peerJoined u = false) ∧
  (∃ (c : Cmd) (s u : State), u = takeCmd c s ∧ Taken 0x0704 c s ∧ s.pwr.mode ≠ .lead ∧ s.pwr.mode ≠ .follow ∧ s.pwr.mode ≠ .knitUp) ∧
  (∃ (c : Cmd) (s u : State), u = takeCmd c s ∧ Taken 0x0705 c s) :=
  ⟨⟨cmd .pf0 [(2,0xC0000007),(3,10)], pairIn .lead {}, _, _, _, _, rfl, (by decide +kernel), rfl, rfl, rfl, (by decide +kernel),
    (by decide +kernel), (by decide +kernel), (by decide +kernel)⟩,
  ⟨cmd .pf0 [(2,0x80000000),(3,3600)], pairIn .solo {}, _, _, _, _, rfl, (by decide +kernel), rfl, rfl, rfl, (by decide +kernel),
    (by decide +kernel), (by decide +kernel), (by decide +kernel), (by decide +kernel)⟩,
  ⟨cmd .pf0 [(2,0x80000000)], inMode .solo, _, _, _, _, rfl, (by decide +kernel), rfl, rfl, rfl, (by decide +kernel), (by decide +kernel),
    (by decide +kernel), (by decide +kernel), (by decide +kernel)⟩,
  ⟨cmd .pf0 [(3,9)], rdy, _, _, _, _, rfl, (by decide +kernel), rfl, rfl, rfl, (by decide +kernel), (by decide +kernel)⟩,
  ⟨cmd .pf0 [], inMode .follow, _, _, _, _, rfl, (by decide +kernel), rfl, rfl, rfl, (by decide +kernel)⟩,
  ⟨cmd .pf0 [(2,3600)], inMode .lead, _, rfl, (by decide +kernel), (by decide +kernel), (by decide +kernel), (by decide +kernel),
    (by decide +kernel), (by decide +kernel)⟩,
  ⟨cmd .pf0 [(2,3601)], inMode .lead, _, rfl, (by decide +kernel), (by decide +kernel), (by decide +kernel)⟩,
  ⟨cmd .pf0 [(2,3600)], { inMode .lead with pwr := { (inMode .lead).pwr with domains := 0x3FFF } }, _, rfl, (by decide +kernel),
    (by decide +kernel), (by decide +kernel), (by decide +kernel), (by decide +kernel)⟩,
  ⟨cmd .pf0 [], rdy, _, rfl, (by decide +kernel), (by decide +kernel)⟩,
  ⟨cmd .pf0 [], lanesAll { cal := true } (linked .ready { enabled := true }), _, rfl, (by decide +kernel), (by decide +kernel),
    (by decide +kernel), (by decide +kernel), (by decide +kernel), (by decide +kernel), (by decide +kernel)⟩,
  ⟨cmd .pf0 [], lanesAll { cal := true } (pairIn .ready { enabled := true }), _, rfl, (by decide +kernel), (by decide +kernel),
    (by decide +kernel), (by decide +kernel), (by decide +kernel), (by decide +kernel), (by decide +kernel), (by decide +kernel)⟩,
  ⟨cmd .pf0 [], pairIn .ready { enabled := true }, _, _, rfl, (by decide +kernel), (by decide +kernel), (by decide +kernel),
    (by decide +kernel), (by decide +kernel), (by decide +kernel), (Option.some_get (by decide +kernel)).symm⟩,
  ⟨cmd .pf0 [], { pairIn .ready { enabled := true } with pwr := { rdy.pwr with domains := 0x3FFF } }, _, rfl, (by decide +kernel),
    (by decide +kernel), (by decide +kernel), (by decide +kernel), (by decide +kernel)⟩,
  ⟨cmd .pf0 [], { rdy with pair := { enabled := true } }, _, rfl, (by decide +kernel), (by decide +kernel), (by decide +kernel),
    (by decide +kernel)⟩,
  ⟨cmd .pf0 [], rdy, _, rfl, (by decide +kernel), (by decide +kernel), (by decide +kernel)⟩,
  ⟨cmd .pf0 [], inMode .solo, _, rfl, (by decide +kernel), (by decide +kernel)⟩,
  ⟨cmd .pf0 [(4,12),(5,86400)], genOn 0 (pairIn .lead { peerFit := true } 100000000), _, _, _, rfl, (by decide +kernel), rfl, rfl,
    (by decide +kernel), (by decide +kernel), (by decide +kernel), (by decide +kernel), (by decide +kernel)⟩,
  ⟨cmd .pf0 [(4,11),(5,86400)], genOn 0 (pairIn .lead { peerFit := true } 100000000), _, _, _, rfl, (by decide +kernel), rfl, rfl,
    (by decide +kernel), (by decide +kernel), (by decide +kernel), (by decide +kernel)⟩,
  ⟨cmd .pf0 [(4,12),(5,86401)], genOn 0 (pairIn .lead { peerFit := true } 100000000), _, _, _, rfl, (by decide +kernel), rfl, rfl,
    (by decide +kernel), (by decide +kernel), (by decide +kernel)⟩,
  ⟨cmd .pf0 [(4,11)], rdy, _, _, _, rfl, (by decide +kernel), rfl, rfl, (by decide +kernel)⟩,
  ⟨cmd .pf0 [], inMode .knitUp, _, rfl, (by decide +kernel), (by decide +kernel)⟩,
  ⟨cmd .pf0 [], linked .lead { peerMode := 6 }, _, rfl, (by decide +kernel), (by decide +kernel), (by decide +kernel)⟩,
  ⟨cmd .pf0 [], inMode .lead, _, rfl, (by decide +kernel), (by decide +kernel), (by decide +kernel)⟩,
  ⟨cmd .pf0 [], rdy, _, rfl, (by decide +kernel), (by decide +kernel), (by decide +kernel), (by decide +kernel)⟩,
  ⟨cmd .pf0 [], rdy, _, rfl, (by decide +kernel)⟩⟩

/-- States and operands that meet the hypotheses of each clause of `HeartbeatsAndPinsDecideTheLead`. -/
theorem witness_HeartbeatsAndPinsDecideTheLead :
  (∃ (s v : State), v = withPair s
    { s.pair with lastTx := t2Ns s, hbTx := s.pair.hbTx + 1, hbMiss := if s.pair.linkUp = true ∧ s.pair.lastRx ≤ s.pair.lastTx then sat32 (s.pair.hbMiss + 1) else s.pair.hbMiss, leadOut := s.pair.leadOut || s.pwr.mode == .lead }
    ∧ (pairWorks s = false ∨ s.pair.enabled = false ∨ t2Ns s < s.pair.lastTx + 10000)) ∧
  (∃ (s v : State), v = withPair s
    { s.pair with lastTx := t2Ns s, hbTx := s.pair.hbTx + 1, hbMiss := if s.pair.linkUp = true ∧ s.pair.lastRx ≤ s.pair.lastTx then sat32 (s.pair.hbMiss + 1) else s.pair.hbMiss, leadOut := s.pair.leadOut || s.pwr.mode == .lead }
    ∧ pairWorks s = true ∧ s.pair.enabled = true ∧ s.pair.lastTx + 10000 ≤ t2Ns s) ∧
  (∃ (lane : Nat) (h : Heartbeat) (s v : State), lane < 4 ∧ v = withPair s
    { s.pair with hbRx := h.seq, lastRx := t2Ns s, silent := false, peerMode := h.mode, peerLeadOut := h.leadOut, leadIn := h.leadOut, peerFit := h.fit, peerRequest := h.request, peerFrame := h.frame }
    ∧ (pairWorks s = false ∨ s.pair.linkUp = false ∨ bitOf s.pair.lanes lane = false ∨ h.crcOk = false ∨ h.mode = 0 ∨ 12 < h.mode)) ∧
  (∃ (lane : Nat) (h : Heartbeat) (s v : State), lane < 4 ∧ v = withPair s
    { s.pair with hbRx := h.seq, lastRx := t2Ns s, silent := false, peerMode := h.mode, peerLeadOut := h.leadOut, leadIn := h.leadOut, peerFit := h.fit, peerRequest := h.request, peerFrame := h.frame }
    ∧ pairWorks s = true ∧ s.pair.linkUp = true ∧ bitOf s.pair.lanes lane = true ∧ h.crcOk = true ∧ 1 ≤ h.mode ∧ h.mode ≤ 10 ∧ (h.request
    ≠ 1 ∨ s.pwr.mode ≠ .follow ∨ s.pair.hand ≠ none ∨ s.pair.take ≠ none ∨ h.leadOut = false)) ∧
  (∃ (lane : Nat) (h : Heartbeat) (s v : State), lane < 4 ∧ v = withPair s
    { s.pair with hbRx := h.seq, lastRx := t2Ns s, silent := false, peerMode := h.mode, peerLeadOut := h.leadOut, leadIn := h.leadOut, peerFit := h.fit, peerRequest := h.request, peerFrame := h.frame }
    ∧ pairWorks s = true ∧ s.pair.linkUp = true ∧ bitOf s.pair.lanes lane = true ∧ h.crcOk = true ∧ 1 ≤ h.mode ∧ h.mode ≤ 10 ∧ h.request =
    1 ∧ s.pwr.mode = .follow ∧ s.pair.hand = none ∧ s.pair.take = none ∧ h.leadOut = true) ∧
  (∃ (lane : Nat) (h : Heartbeat) (s v : State), lane < 4 ∧ v = withPair s
    { s.pair with hbRx := h.seq, lastRx := t2Ns s, silent := false, peerMode := h.mode, peerLeadOut := h.leadOut, leadIn := h.leadOut, peerFit := h.fit, peerRequest := h.request, peerFrame := h.frame }
    ∧ pairWorks s = true ∧ s.pair.linkUp = true ∧ bitOf s.pair.lanes lane = true ∧ h.crcOk = true ∧ (h.mode = 11 ∨ h.mode = 12) ∧
    followSide s = true ∧ s.pair.hand = none ∧ s.pair.take = none) ∧
  (∃ (lane : Nat) (h : Heartbeat) (s v : State), lane < 4 ∧ v = withPair s
    { s.pair with hbRx := h.seq, lastRx := t2Ns s, silent := false, peerMode := h.mode, peerLeadOut := h.leadOut, leadIn := h.leadOut, peerFit := h.fit, peerRequest := h.request, peerFrame := h.frame }
    ∧ pairWorks s = true ∧ s.pair.linkUp = true ∧ bitOf s.pair.lanes lane = true ∧ h.crcOk = true ∧ (h.mode = 11 ∨ h.mode = 12) ∧
    s.pwr.mode = .knitUp) ∧
  (∃ (lane : Nat) (h : Heartbeat) (s v : State), lane < 4 ∧ v = withPair s
    { s.pair with hbRx := h.seq, lastRx := t2Ns s, silent := false, peerMode := h.mode, peerLeadOut := h.leadOut, leadIn := h.leadOut, peerFit := h.fit, peerRequest := h.request, peerFrame := h.frame }
    ∧ pairWorks s = true ∧ s.pair.linkUp = true ∧ bitOf s.pair.lanes lane = true ∧ h.crcOk = true ∧ (h.mode = 11 ∨ h.mode = 12) ∧
    followSide s = true ∧ (s.pair.hand ≠ none ∨ s.pair.take ≠ none)) ∧
  (∃ (lane : Nat) (h : Heartbeat) (s v : State), lane < 4 ∧ v = withPair s
    { s.pair with hbRx := h.seq, lastRx := t2Ns s, silent := false, peerMode := h.mode, peerLeadOut := h.leadOut, leadIn := h.leadOut, peerFit := h.fit, peerRequest := h.request, peerFrame := h.frame }
    ∧ pairWorks s = true ∧ s.pair.linkUp = true ∧ bitOf s.pair.lanes lane = true ∧ h.crcOk = true ∧ (h.mode = 11 ∨ h.mode = 12) ∧ leadSide
    s = true ∧ s.pair.peerMode ≠ 11 ∧ s.pair.peerMode ≠ 12) ∧
  (∃ (lane : Nat) (h : Heartbeat) (s v : State), lane < 4 ∧ v = withPair s
    { s.pair with hbRx := h.seq, lastRx := t2Ns s, silent := false, peerMode := h.mode, peerLeadOut := h.leadOut, leadIn := h.leadOut, peerFit := h.fit, peerRequest := h.request, peerFrame := h.frame }
    ∧ pairWorks s = true ∧ s.pair.linkUp = true ∧ bitOf s.pair.lanes lane = true ∧ h.crcOk = true ∧ (h.mode = 11 ∨ h.mode = 12) ∧ leadSide
    s = true ∧ (s.pair.peerMode = 11 ∨ s.pair.peerMode = 12)) ∧
  (∃ (lane : Nat) (h : Heartbeat) (s v : State), lane < 4 ∧ v = withPair s
    { s.pair with hbRx := h.seq, lastRx := t2Ns s, silent := false, peerMode := h.mode, peerLeadOut := h.leadOut, leadIn := h.leadOut, peerFit := h.fit, peerRequest := h.request, peerFrame := h.frame }
    ∧ pairWorks s = true ∧ s.pair.linkUp = true ∧ bitOf s.pair.lanes lane = true ∧ h.crcOk = true ∧ (h.mode = 11 ∨ h.mode = 12) ∧
    followSide s = false ∧ leadSide s = false ∧ s.pwr.mode ≠ .knitUp) ∧
  (∃ (lane : Nat) (h : Heartbeat) (s v : State), lane < 4 ∧ v = withPair s
    { s.pair with hbRx := h.seq, lastRx := t2Ns s, silent := false, peerMode := h.mode, peerLeadOut := h.leadOut, leadIn := h.leadOut, peerFit := h.fit, peerRequest := h.request, peerFrame := h.frame }
    ∧ pairWorks s = true ∧ s.pair.linkUp = true ∧ bitOf s.pair.lanes lane = true ∧ h.crcOk = true ∧ (h.mode = 11 ∨ h.mode = 12) ∧
    s.pwr.mode = .lead ∧ s.pair.drill = none ∧ s.pair.peerMode ≠ 11 ∧ s.pair.peerMode ≠ 12) ∧
  (∃ (s v : State), v = withPair s { s.pair with silent := true, peerFit := false } ∧ (pairWorks s = false ∨ s.pair.linkUp = false ∨
    s.pair.silent = true ∨ t2Ns s < s.pair.lastRx + 30000)) ∧
  (∃ (s v : State), v = withPair s { s.pair with silent := true, peerFit := false } ∧ pairWorks s = true ∧ s.pair.linkUp = true ∧
    s.pair.silent = false ∧ s.pair.lastRx + 30000 ≤ t2Ns s ∧ followSide s = true ∧ s.pair.take ≠ none) ∧
  (∃ (s v : State), v = withPair s { s.pair with silent := true, peerFit := false } ∧ pairWorks s = true ∧ s.pair.linkUp = true ∧
    s.pair.silent = false ∧ s.pair.lastRx + 30000 ≤ t2Ns s ∧ leadSide s = true) ∧
  (∃ (s v : State), v = withPair s { s.pair with silent := true, peerFit := false } ∧ pairWorks s = true ∧ s.pair.linkUp = true ∧
    s.pair.silent = false ∧ s.pair.lastRx + 30000 ≤ t2Ns s ∧ followSide s = true ∧ s.pair.take = none) ∧
  (∃ (s v : State), v = withPair s { s.pair with silent := true, peerFit := false } ∧ pairWorks s = true ∧ s.pair.linkUp = true ∧
    s.pair.silent = false ∧ s.pair.lastRx + 30000 ≤ t2Ns s ∧ s.pwr.mode = .lead ∧ s.pair.drill = none) ∧
  (∃ (s v : State), v = withPair s { s.pair with silent := true, peerFit := false } ∧ pairWorks s = true ∧ s.pair.linkUp = true ∧
    s.pair.silent = false ∧ s.pair.lastRx + 30000 ≤ t2Ns s ∧ s.pwr.mode = .knitUp) ∧
  (∃ (s v : State), v = withPair s { s.pair with silent := true, peerFit := false } ∧ pairWorks s = true ∧ s.pair.linkUp = true ∧
    s.pair.silent = false ∧ s.pair.lastRx + 30000 ≤ t2Ns s ∧ s.pwr.mode ≠ .follow ∧ s.pwr.mode ≠ .lead ∧ s.pwr.mode ≠ .knitUp ∧ s.pwr.mode
    ≠ .drill) ∧
  (∃ (s : State), s.pair.leadOut = true ∧ s.pair.lastTx + 20000 ≤ t2Ns s ∧ s.pwr.state ≠ .off) ∧
  (∃ (s : State) (d : _), s.pwr.mode = .drill ∧ s.pair.drill = some d) ∧
  (∃ (s : State), (s.pair.leadOut = false ∨ t2Ns s < s.pair.lastTx + 20000 ∨ s.pwr.state = .off)) ∧
  (∃ (s : State), (s.pair.leadOut = false ∨ (s.pwr.mode ≠ .lead ∧ s.pwr.mode ≠ .drill))) ∧
  (∃ (s : State), s.pair.leadOut = true ∧ (s.pwr.mode = .lead ∨ s.pwr.mode = .drill)) ∧
  (∃ (s : State), pairWorks s = true ∧ s.pair.linkUp = true ∧ s.pair.silent = false) ∧
  (∃ (s : State), (pairWorks s = false ∨ s.pair.linkUp = false ∨ s.pair.silent = true)) :=
  ⟨⟨pairIn .lead { enabled := true } 9999, _, rfl, (by decide +kernel)⟩,
  ⟨pairIn .lead { enabled := true } 10000, _, rfl, (by decide +kernel), (by decide +kernel), (by decide +kernel)⟩,
  ⟨3, { seq := 1, mode := 13, leadOut := true }, linked .lead {}, _, (by decide +kernel), rfl, (by decide +kernel)⟩,
  ⟨3, { seq := 1, mode := 10, leadOut := true }, linked .lead {}, _, (by decide +kernel), rfl, (by decide +kernel), (by decide +kernel),
    (by decide +kernel), (by decide +kernel), (by decide +kernel), (by decide +kernel), (by decide +kernel)⟩,
  ⟨3, { seq := 1, mode := 5, leadOut := true, request := 1 }, linked .follow {}, _, (by decide +kernel), rfl, (by decide +kernel),
    (by decide +kernel), (by decide +kernel), (by decide +kernel), (by decide +kernel), (by decide +kernel), (by decide +kernel),
    (by decide +kernel), (by decide +kernel), (by decide +kernel), (by decide +kernel)⟩,
  ⟨3, { seq := 1, mode := 11, leadOut := true }, linked .follow {}, _, (by decide +kernel), rfl, (by decide +kernel), (by decide +kernel),
    (by decide +kernel), (by decide +kernel), (by decide +kernel), (by decide +kernel), (by decide +kernel), (by decide +kernel)⟩,
  ⟨3, { seq := 1, mode := 12, leadOut := true }, linked .knitUp {}, _, (by decide +kernel), rfl, (by decide +kernel), (by decide +kernel),
    (by decide +kernel), (by decide +kernel), (by decide +kernel), (by decide +kernel)⟩,
  ⟨3, { seq := 1, mode := 12, leadOut := true }, linked .follow { take := take2 }, _, (by decide +kernel), rfl, (by decide +kernel),
    (by decide +kernel), (by decide +kernel), (by decide +kernel), (by decide +kernel), (by decide +kernel), (by decide +kernel)⟩,
  ⟨3, { seq := 1, mode := 12, leadOut := true }, linked .lead {}, _, (by decide +kernel), rfl, (by decide +kernel), (by decide +kernel),
    (by decide +kernel), (by decide +kernel), (by decide +kernel), (by decide +kernel), (by decide +kernel), (by decide +kernel)⟩,
  ⟨3, { seq := 1, mode := 12, leadOut := true }, linked .lead { peerMode := 12 }, _, (by decide +kernel), rfl, (by decide +kernel),
    (by decide +kernel), (by decide +kernel), (by decide +kernel), (by decide +kernel), (by decide +kernel), (by decide +kernel)⟩,
  ⟨3, { seq := 1, mode := 12, leadOut := true }, linked .ready {}, _, (by decide +kernel), rfl, (by decide +kernel), (by decide +kernel),
    (by decide +kernel), (by decide +kernel), (by decide +kernel), (by decide +kernel), (by decide +kernel), (by decide +kernel)⟩,
  ⟨3, { seq := 1, mode := 12, leadOut := true }, linked .lead {}, _, (by decide +kernel), rfl, (by decide +kernel), (by decide +kernel),
    (by decide +kernel), (by decide +kernel), (by decide +kernel), (by decide +kernel), (by decide +kernel), (by decide +kernel),
    (by decide +kernel)⟩,
  ⟨linked .follow {} 29999, _, rfl, (by decide +kernel)⟩,
  ⟨linked .follow { take := take2 } 30000, _, rfl, (by decide +kernel), (by decide +kernel), (by decide +kernel), (by decide +kernel),
    (by decide +kernel), (by decide +kernel)⟩,
  ⟨linked .lead {} 30000, _, rfl, (by decide +kernel), (by decide +kernel), (by decide +kernel), (by decide +kernel), (by decide +kernel)⟩,
  ⟨linked .follow {} 30000, _, rfl, (by decide +kernel), (by decide +kernel), (by decide +kernel), (by decide +kernel),
    (by decide +kernel), (by decide +kernel)⟩,
  ⟨linked .lead {} 30000, _, rfl, (by decide +kernel), (by decide +kernel), (by decide +kernel), (by decide +kernel), (by decide +kernel),
    (by decide +kernel)⟩,
  ⟨linked .knitUp {} 30000, _, rfl, (by decide +kernel), (by decide +kernel), (by decide +kernel), (by decide +kernel),
    (by decide +kernel)⟩,
  ⟨linked .ready {} 30000, _, rfl, (by decide +kernel), (by decide +kernel), (by decide +kernel), (by decide +kernel),
    (by decide +kernel), (by decide +kernel), (by decide +kernel), (by decide +kernel)⟩,
  ⟨pairIn .lead { leadOut := true } 20000, (by decide +kernel), (by decide +kernel), (by decide +kernel)⟩,
  ⟨pairIn .drill { drill := some { frame := 2, ret := 0 } }, _, (by decide +kernel), (Option.some_get (by decide +kernel)).symm⟩,
  ⟨pairIn .lead { leadOut := true } 19999, (by decide +kernel)⟩,
  ⟨pairIn .ready { leadOut := true }, (by decide +kernel)⟩,
  ⟨pairIn .drill { leadOut := true }, (by decide +kernel), (by decide +kernel)⟩,
  ⟨linked .lead {}, (by decide +kernel), (by decide +kernel), (by decide +kernel)⟩,
  ⟨linked .lead { silent := true }, (by decide +kernel)⟩⟩

/-- States and operands that meet the hypotheses of each clause of `CorlerLinkCarriesThePair`. -/
theorem witness_CorlerLinkCarriesThePair :
  (∃ (r : CorlerTraining) (s : State) (l : W32), l = r.lanes &&& 0xF ∧ (pairWorks s = false ∨ (s.pair.training = false ∧ (s.pwr.mode ≠
    .lead ∨ s.pair.acceptUntil = none)))) ∧
  (∃ (r : CorlerTraining) (s : State) (l : W32), l = r.lanes &&& 0xF ∧ pairWorks s = true ∧ (s.pair.training = true ∨ (s.pwr.mode = .lead
    ∧ s.pair.acceptUntil ≠ none)) ∧ l = 0) ∧
  (∃ (r : CorlerTraining) (s : State) (l : W32), l = r.lanes &&& 0xF ∧ pairWorks s = true ∧ (s.pair.training = true ∨ (s.pwr.mode = .lead
    ∧ s.pair.acceptUntil ≠ none)) ∧ l ≠ 0 ∧ s.pwr.mode = .knitUp ∧ pairCompatible (ownPairWord s) r.peerWord = true ∧ r.accepting = true ∧
    r.posB ≠ s.pair.posB) ∧
  (∃ (r : CorlerTraining) (s : State) (l : W32), l = r.lanes &&& 0xF ∧ pairWorks s = true ∧ (s.pair.training = true ∨ (s.pwr.mode = .lead
    ∧ s.pair.acceptUntil ≠ none)) ∧ l ≠ 0 ∧ s.pwr.mode = .knitUp ∧ (pairCompatible (ownPairWord s) r.peerWord = false ∨ r.accepting =
    false ∨ r.posB = s.pair.posB)) ∧
  (∃ (r : CorlerTraining) (s : State) (l : W32), l = r.lanes &&& 0xF ∧ pairWorks s = true ∧ (s.pair.training = true ∨ (s.pwr.mode = .lead
    ∧ s.pair.acceptUntil ≠ none)) ∧ l ≠ 0 ∧ s.pwr.mode ≠ .knitUp ∧ pairCompatible (ownPairWord s) r.peerWord = false) ∧
  (∃ (r : CorlerTraining) (s : State) (l : W32), l = r.lanes &&& 0xF ∧ pairWorks s = true ∧ (s.pair.training = true ∨ (s.pwr.mode = .lead
    ∧ s.pair.acceptUntil ≠ none)) ∧ l ≠ 0 ∧ s.pwr.mode ≠ .knitUp ∧ pairCompatible (ownPairWord s) r.peerWord = true) ∧
  (∃ (s : State) (a : _), s.pair.trainFailed = some a ∧ a + 1000000000 ≤ t2Ns s ∧ (s.pwr.mode = .knitUp ∨ (s.pwr.mode = .lead ∧
    s.pair.acceptUntil ≠ none))) ∧
  (∃ (s : State) (a : _), s.pair.trainFailed = some a ∧ (t2Ns s < a + 1000000000 ∨ (s.pwr.mode ≠ .knitUp ∧ (s.pwr.mode ≠ .lead ∨
    s.pair.acceptUntil = none)))) ∧
  (∃ (s : State), s.pair.trainFailed = none) ∧
  (∃ (lane : Nat) (s v : State), lane < 4 ∧ v = withPair s { s.pair with replays := tset lane 0 s.pair.replays } ∧ (pairWorks s = false ∨
    s.pair.linkUp = false ∨ bitOf s.pair.lanes lane = false)) ∧
  (∃ (lane : Nat) (f : CorlerFrame) (s v : State), lane < 4 ∧ v = withPair s { s.pair with replays := tset lane 0 s.pair.replays } ∧
    pairWorks s = true ∧ s.pair.linkUp = true ∧ bitOf s.pair.lanes lane = true ∧ f.crcOk = true ∧ f.msg = .ordinary) ∧
  (∃ (lane : Nat) (f : CorlerFrame) (s v : State) (w : _), lane < 4 ∧ v = withPair s { s.pair with replays := tset lane 0 s.pair.replays }
    ∧ pairWorks s = true ∧ s.pair.linkUp = true ∧ bitOf s.pair.lanes lane = true ∧ f.crcOk = true ∧ f.msg = .unlisted w) ∧
  (∃ (lane : Nat) (f : CorlerFrame) (s v : State) (n ret : _), lane < 4 ∧ v = withPair s
    { s.pair with replays := tset lane 0 s.pair.replays } ∧ pairWorks s = true ∧ s.pair.linkUp = true ∧ bitOf s.pair.lanes lane = true ∧
    f.crcOk = true ∧ f.msg = .drill n ret ∧ s.pwr.mode = .follow) ∧
  (∃ (lane : Nat) (f : CorlerFrame) (s v : State), lane < 4 ∧ v = withPair s { s.pair with replays := tset lane 0 s.pair.replays } ∧
    pairWorks s = true ∧ s.pair.linkUp = true ∧ bitOf s.pair.lanes lane = true ∧ f.crcOk = true ∧ f.msg = .snapshotRequest ∧ s.pwr.mode =
    .lead) ∧
  (∃ (lane : Nat) (f : CorlerFrame) (s v : State) (n ret : _), lane < 4 ∧ v = withPair s
    { s.pair with replays := tset lane 0 s.pair.replays } ∧ pairWorks s = true ∧ s.pair.linkUp = true ∧ bitOf s.pair.lanes lane = true ∧
    f.crcOk = true ∧ f.msg = .drill n ret ∧ s.pwr.mode ≠ .follow) ∧
  (∃ (lane : Nat) (f : CorlerFrame) (s v : State), lane < 4 ∧ v = withPair s { s.pair with replays := tset lane 0 s.pair.replays } ∧
    pairWorks s = true ∧ s.pair.linkUp = true ∧ bitOf s.pair.lanes lane = true ∧ f.crcOk = true ∧ f.msg = .snapshotRequest ∧ s.pwr.mode ≠
    .lead) ∧
  (∃ (lane : Nat) (f : CorlerFrame) (s v : State) (n i k bs : _), lane < 4 ∧ v = withPair s
    { s.pair with replays := tset lane 0 s.pair.replays } ∧ pairWorks s = true ∧ s.pair.linkUp = true ∧ bitOf s.pair.lanes lane = true ∧
    f.crcOk = true ∧ f.msg = .lifeline n i k bs ∧ (s.pwr.mode = .knitUp ∧ (s.pair.phase = 4 ∨ s.pair.phase = 5) ∧ 0 < stitchN (canGet s
    n).w)) ∧
  (∃ (lane : Nat) (f : CorlerFrame) (s v : State) (n i k bs : _), lane < 4 ∧ v = withPair s
    { s.pair with replays := tset lane 0 s.pair.replays } ∧ pairWorks s = true ∧ s.pair.linkUp = true ∧ bitOf s.pair.lanes lane = true ∧
    f.crcOk = true ∧ f.msg = .lifeline n i k bs ∧ (s.pwr.mode ≠ .knitUp ∨ (s.pair.phase ≠ 4 ∧ s.pair.phase ≠ 5))) ∧
  (∃ (lane : Nat) (f : CorlerFrame) (s v : State), lane < 4 ∧ v = withPair s { s.pair with replays := tset lane 0 s.pair.replays } ∧
    pairWorks s = true ∧ s.pair.linkUp = true ∧ bitOf s.pair.lanes lane = true ∧ f.crcOk = false ∧ f.cls ≠ 1 ∧ f.cls ≠ 3 ∧ f.cls ≠ 4) ∧
  (∃ (lane : Nat) (f : CorlerFrame) (s v : State), lane < 4 ∧ v = withPair s { s.pair with replays := tset lane 0 s.pair.replays } ∧
    pairWorks s = true ∧ s.pair.linkUp = true ∧ bitOf s.pair.lanes lane = true ∧ f.crcOk = false ∧ (f.cls = 1 ∨ f.cls = 3 ∨ f.cls = 4) ∧
    tget 0 s.pair.replays lane < 4) ∧
  (∃ (lane : Nat) (f : CorlerFrame) (s v : State), lane < 4 ∧ v = withPair s { s.pair with replays := tset lane 0 s.pair.replays } ∧
    pairWorks s = true ∧ s.pair.linkUp = true ∧ bitOf s.pair.lanes lane = true ∧ f.crcOk = false ∧ (f.cls = 1 ∨ f.cls = 3 ∨ f.cls = 4) ∧ 4
    ≤ tget 0 s.pair.replays lane) ∧
  (∃ (lane : Nat) (f : CorlerFrame) (s : State) (i : W16) (echo prev : Option (W16 × PairStamp)), lane < 4 ∧ pairWorks s = true ∧
    s.pair.linkUp = true ∧ bitOf s.pair.lanes lane = true ∧ f.crcOk = true ∧ f.msg = .timing i echo prev) ∧
  (∃ (ownTx peerRx peerTx ownRx d : Nat) (o : Int), (peerRx : Int) = ownTx + d + 4 * o ∧ (peerTx : Int) + d = ownRx + 4 * o) ∧
  (∃ (s : State), (pairWorks s = false ∨ s.pair.linkUp = false ∨ t2Ns s < s.pair.tmAt + 10000000)) ∧
  (∃ (s : State), pairWorks s = true ∧ s.pair.linkUp = true ∧ s.pair.tmAt + 10000000 ≤ t2Ns s ∧ pairOffsets s = none) ∧
  (∃ (s : State) (a b : _), pairWorks s = true ∧ s.pair.linkUp = true ∧ s.pair.tmAt + 10000000 ≤ t2Ns s ∧ pairOffsets s = some (a, b)) ∧
  (∃ (r : PeerDigest) (s : State) (b : DigRec), r.output < 48 ∧ b =
    { output := r.output, frame := r.frame, digest := r.digest, slipped := r.slipped, rescan := r.rescan, readback := r.readback } ∧
    (pairWorks s = false ∨ pairCompares s = false ∨ s.pair.linkUp = false)) ∧
  (∃ (r : PeerDigest) (s : State) (b : DigRec), r.output < 48 ∧ b =
    { output := r.output, frame := r.frame, digest := r.digest, slipped := r.slipped, rescan := r.rescan, readback := r.readback } ∧
    pairWorks s = true ∧ pairCompares s = true ∧ s.pair.linkUp = true) ∧
  (∃ (o : Nat) (s : State), o < 48 ∧ s.pair.ownRecs.find? (fun a => a.output == o) = none) ∧
  (∃ (o : Nat) (s : State) (a : _), o < 48 ∧ s.pair.ownRecs.find? (fun a => a.output == o) = some a ∧ (flGet s (orGen (outRec s o))).next
    < frameNamed (flGet s (orGen (outRec s o))) a.frame + 6) ∧
  (∃ (o : Nat) (s : State) (a : _), o < 48 ∧ s.pair.ownRecs.find? (fun a => a.output == o) = some a ∧ frameNamed (flGet s (orGen (outRec s
    o))) a.frame + 6 ≤ (flGet s (orGen (outRec s o))).next ∧ s.pair.peerSeen.contains o = true) ∧
  (∃ (o : Nat) (s : State) (a : _), o < 48 ∧ s.pair.ownRecs.find? (fun a => a.output == o) = some a ∧ frameNamed (flGet s (orGen (outRec s
    o))) a.frame + 6 ≤ (flGet s (orGen (outRec s o))).next ∧ s.pair.peerSeen.contains o = false) ∧
  (∃ (s : State), pairCompares s = false) ∧
  (∃ (s : State) (d : W32), pairCompares s = true ∧ s.pair.peerDigest = some d ∧ d = configDigest s) ∧
  (∃ (s : State) (d : W32) (a : _), pairCompares s = true ∧ s.pair.peerDigest = some d ∧ d ≠ configDigest s ∧ s.pair.cfgSince = some a ∧
    s.pair.cfgRaised = false ∧ a + 100000000 ≤ t2Ns s) ∧
  (∃ (s : State) (d : W32), pairCompares s = true ∧ s.pair.peerDigest = some d ∧ d ≠ configDigest s ∧ s.pair.cfgSince = none) ∧
  (∃ (s : State) (d : W32) (a : _), pairCompares s = true ∧ s.pair.peerDigest = some d ∧ d ≠ configDigest s ∧ s.pair.cfgSince = some a ∧
    (s.pair.cfgRaised = true ∨ t2Ns s < a + 100000000)) :=
  ⟨⟨{ lanes := 0xF, peerWord := 0, posB := true }, rdy, _, rfl, (by decide +kernel)⟩,
  ⟨{ lanes := 0x10, peerWord := 0 }, pairIn .knitUp { training := true }, _, rfl, (by decide +kernel), (by decide +kernel),
    (by decide +kernel)⟩,
  ⟨{ lanes := 0xF, peerWord := 0, posB := true }, pairIn .knitUp { training := true }, _, rfl, (by decide +kernel), (by decide +kernel),
    (by decide +kernel), (by decide +kernel), (by decide +kernel), (by decide +kernel), (by decide +kernel)⟩,
  ⟨{ lanes := 0xF, peerWord := 0, accepting := false, posB := true }, pairIn .knitUp { training := true }, _, rfl, (by decide +kernel),
    (by decide +kernel), (by decide +kernel), (by decide +kernel), (by decide +kernel)⟩,
  ⟨{ lanes := 0xF, peerWord := 0xFFFFFFFF }, pairIn .lead { training := true }, _, rfl, (by decide +kernel), (by decide +kernel),
    (by decide +kernel), (by decide +kernel), (by decide +kernel)⟩,
  ⟨{ lanes := 0xF, peerWord := 0, posB := true }, pairIn .lead { acceptUntil := some 0 }, _, rfl, (by decide +kernel),
    (by decide +kernel), (by decide +kernel), (by decide +kernel), (by decide +kernel)⟩,
  ⟨pairIn .knitUp { trainFailed := some 0 } 1000000000, _, (Option.some_get (by decide +kernel)).symm, (by decide +kernel),
    (by decide +kernel)⟩,
  ⟨pairIn .knitUp { trainFailed := some 0 } 999999999, _, (Option.some_get (by decide +kernel)).symm, (by decide +kernel)⟩,
  ⟨rdy, (by decide +kernel)⟩,
  ⟨3, rdy, _, (by decide +kernel), rfl, (by decide +kernel)⟩,
  ⟨3, {}, linked .lead {}, _, (by decide +kernel), rfl, (by decide +kernel), (by decide +kernel), (by decide +kernel),
    (by decide +kernel), (by decide +kernel)⟩,
  ⟨3, { msg := .unlisted 0 }, linked .lead {}, _, (0 : W32), (by decide +kernel), rfl, (by decide +kernel), (by decide +kernel),
    (by decide +kernel), (by decide +kernel), (by decide +kernel)⟩,
  ⟨3, { msg := .drill 2 3 }, linked .follow {}, _, (2 : Nat), (3 : Nat), (by decide +kernel), rfl, (by decide +kernel),
    (by decide +kernel), (by decide +kernel), (by decide +kernel), (by decide +kernel), (by decide +kernel)⟩,
  ⟨3, { msg := .snapshotRequest }, linked .lead {}, _, (by decide +kernel), rfl, (by decide +kernel), (by decide +kernel),
    (by decide +kernel), (by decide +kernel), (by decide +kernel), (by decide +kernel)⟩,
  ⟨3, { msg := .drill 2 3 }, linked .lead {}, _, (2 : Nat), (3 : Nat), (by decide +kernel), rfl, (by decide +kernel), (by decide +kernel),
    (by decide +kernel), (by decide +kernel), (by decide +kernel), (by decide +kernel)⟩,
  ⟨3, { msg := .snapshotRequest }, linked .follow {}, _, (by decide +kernel), rfl, (by decide +kernel), (by decide +kernel),
    (by decide +kernel), (by decide +kernel), (by decide +kernel), (by decide +kernel)⟩,
  ⟨3, { msg := .lifeline 63 3 7 [] }, canSet 63 (canOf 64 64) (linked .knitUp { phase := 5 }), _, 63, 3, 7, ([] : List Byte),
    (by decide +kernel), rfl, (by decide +kernel), (by decide +kernel), (by decide +kernel), (by decide +kernel), (by decide +kernel),
    (by decide +kernel)⟩,
  ⟨3, { msg := .lifeline 63 3 7 [] }, linked .lead {}, _, 63, 3, 7, ([] : List Byte), (by decide +kernel), rfl, (by decide +kernel),
    (by decide +kernel), (by decide +kernel), (by decide +kernel), (by decide +kernel), (by decide +kernel)⟩,
  ⟨3, { crcOk := false, cls := 0 }, linked .lead {}, _, (by decide +kernel), rfl, (by decide +kernel), (by decide +kernel),
    (by decide +kernel), (by decide +kernel), (by decide +kernel), (by decide +kernel), (by decide +kernel)⟩,
  ⟨3, { crcOk := false, cls := 4 }, linked .lead { replays := [(3, 3)] }, _, (by decide +kernel), rfl, (by decide +kernel),
    (by decide +kernel), (by decide +kernel), (by decide +kernel), (by decide +kernel), (by decide +kernel)⟩,
  ⟨3, { crcOk := false, cls := 1 }, linked .lead { replays := [(3, 4)] }, _, (by decide +kernel), rfl, (by decide +kernel),
    (by decide +kernel), (by decide +kernel), (by decide +kernel), (by decide +kernel), (by decide +kernel)⟩,
  ⟨3, { msg := .timing 1 none none }, linked .lead {}, 1, none, none, (by decide +kernel), (by decide +kernel), (by decide +kernel),
    (by decide +kernel), (by decide +kernel), (by decide +kernel)⟩,
  ⟨0, 14, 14, 20, 10, (1 : Int), (by decide +kernel), (by decide +kernel)⟩,
  ⟨rdy, (by decide +kernel)⟩,
  ⟨linked .lead {} 10000000, (by decide +kernel), (by decide +kernel), (by decide +kernel), (by decide +kernel)⟩,
  ⟨stamped (linked .lead { tmEcho := some (5, ⟨8, 8⟩), tmBack := some (⟨0, 0⟩, ⟨0, 0⟩) } 10000000), (1 : Int), (1 : Int),
    (by decide +kernel), (by decide +kernel), (by decide +kernel), (by decide +kernel)⟩,
  ⟨peer47, rdy, _, (by decide +kernel), rfl, (by decide +kernel)⟩,
  ⟨peer47, linked .follow {}, _, (by decide +kernel), rfl, (by decide +kernel), (by decide +kernel), (by decide +kernel)⟩,
  ⟨47, rdy, (by decide +kernel), (by decide +kernel)⟩,
  ⟨47, flSet 0 { en := true, num := 60, next := 7 } (out47 {} (pairIn .lead { ownRecs := [dig47] })), _, (by decide +kernel),
    (Option.some_get (by decide +kernel)).symm, (by decide +kernel)⟩,
  ⟨47, flSet 0 { en := true, num := 60, next := 8 } (out47 {} (pairIn .lead { ownRecs := [dig47], peerSeen := [47] })), _,
    (by decide +kernel), (Option.some_get (by decide +kernel)).symm, (by decide +kernel), (by decide +kernel)⟩,
  ⟨47, flSet 0 { en := true, num := 60, next := 8 } (out47 {} (pairIn .lead { ownRecs := [dig47] })), _, (by decide +kernel),
    (Option.some_get (by decide +kernel)).symm, (by decide +kernel), (by decide +kernel)⟩,
  ⟨rdy, (by decide +kernel)⟩,
  ⟨linked .lead { peerDigest := some (configDigest (linked .lead {})) }, configDigest (linked .lead {}), (by decide +kernel), rfl,
    ((linked_digest _ _ _).symm)⟩,
  ⟨linked .lead { peerDigest := some (configDigest (linked .lead {} 100000000) + 1), cfgSince := some 0 } 100000000, configDigest (linked
    .lead {} 100000000) + 1, _, (by decide +kernel), rfl, (digest_ne _ _ _), (Option.some_get (by decide +kernel)).symm,
    (by decide +kernel), (by decide +kernel)⟩,
  ⟨linked .lead { peerDigest := some (configDigest (linked .lead {}) + 1) }, configDigest (linked .lead {}) + 1, (by decide +kernel), rfl,
    (digest_ne _ _ _), (by decide +kernel)⟩,
  ⟨linked .lead { peerDigest := some (configDigest (linked .lead {} 99999999) + 1), cfgSince := some 0 } 99999999, configDigest (linked
    .lead {} 99999999) + 1, _, (by decide +kernel), rfl, (digest_ne _ _ _), (Option.some_get (by decide +kernel)).symm,
    (by decide +kernel)⟩⟩

/-- States and operands that meet the hypotheses of each clause of `RolesMoveAtTheirFrames`. -/
theorem witness_RolesMoveAtTheirFrames :
  (∃ (s : State), s.pair.take = none) ∧
  (∃ (s : State) (k : _), s.pair.take = some k ∧ (t0Ns s < k.due ∨ followSide s = false)) ∧
  (∃ (s : State) (k : _), s.pair.take = some k ∧ k.due ≤ t0Ns s ∧ followSide s = true) ∧
  (∃ (s : State), s.pair.want = none) ∧
  (∃ (s : State) (r : _), s.pair.want = some r ∧ s.pwr.mode ≠ .lead) ∧
  (∃ (s : State) (r : _), s.pair.want = some r ∧ s.pwr.mode = .lead ∧ s.pair.peerFit = true ∧ s.pair.silent = false ∧ (refGenOf s).en =
    true) ∧
  (∃ (s : State) (r : _), s.pair.want = some r ∧ s.pwr.mode = .lead ∧ (s.pair.peerFit = false ∨ s.pair.silent = true ∨ (refGenOf s).en =
    false)) ∧
  (∃ (s : State), s.pair.hand = none) ∧
  (∃ (s : State) (h : _), s.pair.hand = some h ∧ refReached s h.frame 0 = false) ∧
  (∃ (s : State) (h : _), s.pair.hand = some h ∧ ((h.reason ≠ none ∧ s.pwr.mode ≠ .lead) ∨ (h.reason = none ∧ s.pwr.mode ≠ .follow))) ∧
  (∃ (s : State) (h r : _), s.pair.hand = some h ∧ h.reason = some r ∧ refReached s h.frame 0 = true ∧ s.pwr.mode = .lead) ∧
  (∃ (s : State) (h : _), s.pair.hand = some h ∧ h.reason = none ∧ refReached s h.frame 0 = true ∧ s.pwr.mode = .follow ∧
    s.pair.peerLeadOut = true) ∧
  (∃ (s : State) (h : _), s.pair.hand = some h ∧ h.reason = none ∧ refReached s h.frame 0 = true ∧ s.pwr.mode = .follow ∧
    s.pair.peerLeadOut = false) ∧
  (∃ (s : State), (s.pair.silent = true ∨ s.pair.peerLeadOut = false ∨ (s.pair.hand = none ∧ s.pair.drill = none))) ∧
  (∃ (s : State) (h : _), s.pair.silent = false ∧ s.pair.peerLeadOut = true ∧ s.pair.hand = some h ∧ h.reason = none ∧ s.pwr.mode =
    .follow ∧ refReached s h.frame 0 = true ∧ displayTime (refGenOf s) h.frame + 100000 ≤ t0Ns s) ∧
  (∃ (s : State) (h : _), s.pair.silent = false ∧ s.pair.peerLeadOut = true ∧ s.pair.hand = some h ∧ h.reason = none ∧ s.pwr.mode =
    .follow ∧ (t0Ns s < displayTime (refGenOf s) h.frame + 100000 ∨ refReached s h.frame 0 = false)) ∧
  (∃ (s : State) (h : _), s.pair.hand = some h ∧ (h.reason ≠ none ∨ s.pwr.mode ≠ .follow)) ∧
  (∃ (s : State) (d : _), s.pair.silent = false ∧ s.pair.peerLeadOut = true ∧ s.pair.hand = none ∧ s.pair.drill = some d ∧ followSide s =
    true ∧ d.swaps = 0 ∧ refReached s d.frame 0 = true ∧ displayTime (refGenOf s) d.frame + 100000 ≤ t0Ns s) ∧
  (∃ (s : State) (d : _), s.pair.silent = false ∧ s.pair.peerLeadOut = true ∧ s.pair.hand = none ∧ s.pair.drill = some d ∧ (followSide s =
    false ∨ d.swaps ≠ 0 ∨ refReached s d.frame 0 = false ∨ t0Ns s < displayTime (refGenOf s) d.frame + 100000)) ∧
  (∃ (s : State), pairWorks s = true ∧ s.pair.linkUp = true ∧ (s.pwr.mode = .follow ∨ s.pwr.mode = .knitUp)) ∧
  (∃ (s : State), (pairWorks s = false ∨ s.pair.linkUp = false ∨ (s.pwr.mode ≠ .follow ∧ s.pwr.mode ≠ .knitUp))) ∧
  (∃ (s : State), (s.pair.drill = none ∨ s.pwr.mode ≠ .drill)) ∧
  (∃ (s : State) (d : Drill), s.pair.drill = some d ∧ s.pwr.mode = .drill ∧ d.swaps = 0 ∧ refReached s d.frame 0 = true ∧ s.pair.leadOut =
    true) ∧
  (∃ (s : State) (d : Drill), s.pair.drill = some d ∧ s.pwr.mode = .drill ∧ d.swaps = 0 ∧ refReached s d.frame 0 = true ∧ s.pair.leadOut =
    false ∧ s.pair.peerLeadOut = false) ∧
  (∃ (s : State) (d : Drill), s.pair.drill = some d ∧ s.pwr.mode = .drill ∧ (d.swaps ≠ 0 ∨ refReached s d.frame 0 = false ∨
    (s.pair.leadOut = false ∧ s.pair.peerLeadOut = true))) ∧
  (∃ (s : State) (d : Drill), s.pair.drill = some d ∧ s.pwr.mode = .drill ∧ d.swaps = 1 ∧ d.ret ≠ 0 ∧ refReached s (drillBack s d) 0 =
    true ∧ s.pair.leadOut = true) ∧
  (∃ (s : State) (d : Drill), s.pair.drill = some d ∧ s.pwr.mode = .drill ∧ d.swaps = 1 ∧ d.ret ≠ 0 ∧ refReached s (drillBack s d) 0 =
    true ∧ s.pair.leadOut = false ∧ s.pair.peerLeadOut = false) ∧
  (∃ (s : State) (d : Drill), s.pair.drill = some d ∧ s.pwr.mode = .drill ∧ (d.swaps ≠ 1 ∨ d.ret = 0 ∨ refReached s (drillBack s d) 0 =
    false ∨ (s.pair.leadOut = false ∧ s.pair.peerLeadOut = true))) ∧
  (∃ (s : State) (d : Drill), s.pair.drill = some d ∧ s.pwr.mode = .drill ∧ (if d.ret = 0 then 1 else 2) ≤ d.swaps ∧ d.swapAt + 3000000000
    ≤ t0Ns s) ∧
  (∃ (s : State) (d : Drill), s.pair.drill = some d ∧ s.pwr.mode = .drill ∧ (d.swaps < (if d.ret = 0 then 1 else 2) ∨ t0Ns s < d.swapAt +
    3000000000)) ∧
  (∃ (s : State), s.pair.drill = none) ∧
  (∃ (s : State) (d : _), s.pair.drill = some d) :=
  ⟨⟨rdy, (by decide +kernel)⟩,
  ⟨pairIn .follow { take := take2 } 999, _, (Option.some_get (by decide +kernel)).symm, (by decide +kernel)⟩,
  ⟨pairIn .follow { take := take2 } 1000, _, (Option.some_get (by decide +kernel)).symm, (by decide +kernel), (by decide +kernel)⟩,
  ⟨rdy, (by decide +kernel)⟩,
  ⟨pairIn .safeHold { want := some .bindOff }, _, (Option.some_get (by decide +kernel)).symm, (by decide +kernel)⟩,
  ⟨genOn 0 (pairIn .lead { want := some .bindOff, peerFit := true }), _, (Option.some_get (by decide +kernel)).symm, (by decide +kernel),
    (by decide +kernel), (by decide +kernel), (by decide +kernel)⟩,
  ⟨genOn 0 (pairIn .lead { want := some (.outputFault 47) }), _, (Option.some_get (by decide +kernel)).symm, (by decide +kernel),
    (by decide +kernel)⟩,
  ⟨rdy, (by decide +kernel)⟩,
  ⟨genOn 0 (pairIn .lead { hand := hand2 none } 33233332), _, (Option.some_get (by decide +kernel)).symm, (by decide +kernel)⟩,
  ⟨pairIn .lead { hand := hand2 none }, _, (Option.some_get (by decide +kernel)).symm, (by decide +kernel)⟩,
  ⟨genOn 0 (pairIn .lead { hand := hand2 (some .bindOff) } 33233333), _, _, (Option.some_get (by decide +kernel)).symm, (Option.some_get
    (by decide +kernel)).symm, (by decide +kernel), (by decide +kernel)⟩,
  ⟨genOn 0 (pairIn .follow { hand := hand2 none, peerLeadOut := true } 33233333), _, (Option.some_get (by decide +kernel)).symm,
    (by decide +kernel), (by decide +kernel), (by decide +kernel), (by decide +kernel)⟩,
  ⟨genOn 0 (pairIn .follow { hand := hand2 none } 33233333), _, (Option.some_get (by decide +kernel)).symm, (by decide +kernel),
    (by decide +kernel), (by decide +kernel), (by decide +kernel)⟩,
  ⟨rdy, (by decide +kernel)⟩,
  ⟨genOn 0 (pairIn .follow { hand := hand2 none, peerLeadOut := true } 33433333), _, (by decide +kernel), (by decide +kernel),
    (Option.some_get (by decide +kernel)).symm, (by decide +kernel), (by decide +kernel), (by decide +kernel), (by decide +kernel)⟩,
  ⟨genOn 0 (pairIn .follow { hand := hand2 none, peerLeadOut := true } 33433332), _, (by decide +kernel), (by decide +kernel),
    (Option.some_get (by decide +kernel)).symm, (by decide +kernel), (by decide +kernel), (by decide +kernel)⟩,
  ⟨pairIn .lead { hand := hand2 none }, _, (Option.some_get (by decide +kernel)).symm, (by decide +kernel)⟩,
  ⟨genOn 0 (pairIn .follow { drill := some { frame := 2, ret := 0 }, peerLeadOut := true } 33433333), _, (by decide +kernel),
    (by decide +kernel), (by decide +kernel), (Option.some_get (by decide +kernel)).symm, (by decide +kernel), (by decide +kernel),
    (by decide +kernel), (by decide +kernel)⟩,
  ⟨genOn 0 (pairIn .follow { drill := some { frame := 2, ret := 0 }, peerLeadOut := true } 33433332), _, (by decide +kernel),
    (by decide +kernel), (by decide +kernel), (Option.some_get (by decide +kernel)).symm, (by decide +kernel)⟩,
  ⟨linked .knitUp {}, (by decide +kernel), (by decide +kernel), (by decide +kernel)⟩,
  ⟨linked .ready {}, (by decide +kernel)⟩,
  ⟨pairIn .lead { drill := some { frame := 2, ret := 0 } }, (by decide +kernel)⟩,
  ⟨genOn 0 (pairIn .drill { drill := some { frame := 2, ret := 0 }, leadOut := true } 33233333), _, (Option.some_get
    (by decide +kernel)).symm, (by decide +kernel), (by decide +kernel), (by decide +kernel), (by decide +kernel)⟩,
  ⟨genOn 0 (pairIn .drill { drill := some { frame := 2, ret := 0 } } 33233333), _, (Option.some_get (by decide +kernel)).symm,
    (by decide +kernel), (by decide +kernel), (by decide +kernel), (by decide +kernel), (by decide +kernel)⟩,
  ⟨genOn 0 (pairIn .drill { drill := some { frame := 2, ret := 0 } } 33233332), _, (Option.some_get (by decide +kernel)).symm,
    (by decide +kernel), (by decide +kernel)⟩,
  ⟨genOn 0 (pairIn .drill { drill := some { frame := 2, ret := 3, swaps := 1 }, leadOut := true } 4000000000), _, (Option.some_get
    (by decide +kernel)).symm, (by decide +kernel), (by decide +kernel), (by decide +kernel), (by decide +kernel), (by decide +kernel)⟩,
  ⟨genOn 0 (pairIn .drill { drill := some { frame := 2, ret := 3, swaps := 1 } } 4000000000), _, (Option.some_get
    (by decide +kernel)).symm, (by decide +kernel), (by decide +kernel), (by decide +kernel), (by decide +kernel), (by decide +kernel),
    (by decide +kernel)⟩,
  ⟨genOn 0 (pairIn .drill { drill := some { frame := 2, ret := 3, swaps := 1 } } 3000000000), _, (Option.some_get
    (by decide +kernel)).symm, (by decide +kernel), (by decide +kernel)⟩,
  ⟨genOn 0 (pairIn .drill { drill := some { frame := 2, ret := 0, swaps := 1 } } 3000000000), _, (Option.some_get
    (by decide +kernel)).symm, (by decide +kernel), (by decide +kernel), (by decide +kernel)⟩,
  ⟨genOn 0 (pairIn .drill { drill := some { frame := 2, ret := 3, swaps := 2 } } 2999999999), _, (Option.some_get
    (by decide +kernel)).symm, (by decide +kernel), (by decide +kernel)⟩,
  ⟨rdy, (by decide +kernel)⟩,
  ⟨pairIn .drill { drill := some { frame := 2, ret := 0 } }, _, (Option.some_get (by decide +kernel)).symm⟩⟩

/-- States and operands that meet the hypotheses of each clause of `KnitUpPassesItsPhasesInOrder`. -/
theorem witness_KnitUpPassesItsPhasesInOrder :
  (∃ (s : State), (s.pwr.mode ≠ .knitUp ∨ pairWorks s = false ∨ s.pair.linkUp = false ∨ s.pair.phase < 2 ∨ 5 < s.pair.phase)) ∧
  (∃ (s : State), s.pwr.mode = .knitUp ∧ pairWorks s = true ∧ s.pair.linkUp = true ∧ s.pair.phase = 2 ∧ timeProven s = true) ∧
  (∃ (s : State), s.pwr.mode = .knitUp ∧ pairWorks s = true ∧ s.pair.linkUp = true ∧ s.pair.phase = 2 ∧ timeProven s = false) ∧
  (∃ (k : KnitEnd) (s : State) (p : _), s.pwr.mode = .knitUp ∧ pairWorks s = true ∧ s.pair.linkUp = true ∧ s.pair.phase = 3 ∧ k.snap =
    some p) ∧
  (∃ (k : KnitEnd) (s : State), s.pwr.mode = .knitUp ∧ pairWorks s = true ∧ s.pair.linkUp = true ∧ s.pair.phase = 3 ∧ k.snap = none) ∧
  (∃ (k : KnitEnd) (s : State), s.pwr.mode = .knitUp ∧ pairWorks s = true ∧ s.pair.linkUp = true ∧ s.pair.phase = 4 ∧ k.caughtUp = true ∧
    (∀ n ∈ codedOpen s, n ∈ s.pair.copyDone ∨ n ∈ s.pair.rapWait)) ∧
  (∃ (k : KnitEnd) (s : State), s.pwr.mode = .knitUp ∧ pairWorks s = true ∧ s.pair.linkUp = true ∧ s.pair.phase = 4 ∧ (k.caughtUp = false
    ∨ ∃ n ∈ codedOpen s, n ∉ s.pair.copyDone ∧ n ∉ s.pair.rapWait)) ∧
  (∃ (s : State), s.pwr.mode = .knitUp ∧ pairWorks s = true ∧ s.pair.linkUp = true ∧ s.pair.phase = 5 ∧ 8 ≤ s.pair.proofFrames ∧ pairFit s
    = true) ∧
  (∃ (s : State), s.pwr.mode = .knitUp ∧ pairWorks s = true ∧ s.pair.linkUp = true ∧ s.pair.phase = 5 ∧ (s.pair.proofFrames < 8 ∨ pairFit
    s = false)) ∧
  (∃ (n : Nat) (s : State), n < 256 ∧ (pairWorks s = false ∨ s.pair.linkUp = false ∨ n ∉ codedOpen s ∨ n ∈ s.pair.copyDone ∨ n ∈
    s.pair.rapWait)) ∧
  (∃ (n : Nat) (s : State), n < 256 ∧ (s.pwr.mode ≠ .lead ∨ s.pair.peerMode ≠ 7) ∧ (s.pwr.mode ≠ .knitUp ∨ s.pair.phase ≠ 4)) ∧
  (∃ (n : Nat) (x : StreamCopy) (s : State), n < 256 ∧ pairWorks s = true ∧ s.pair.linkUp = true ∧ n ∈ codedOpen s ∧ n ∉ s.pair.copyDone ∧
    n ∉ s.pair.rapWait ∧ ((s.pwr.mode = .lead ∧ s.pair.peerMode = 7) ∨ (s.pwr.mode = .knitUp ∧ s.pair.phase = 4)) ∧ x.wouldWait = true ∧
    tget 0 s.pair.copyTries n < 2) ∧
  (∃ (n : Nat) (x : StreamCopy) (s : State), n < 256 ∧ pairWorks s = true ∧ s.pair.linkUp = true ∧ n ∈ codedOpen s ∧ n ∉ s.pair.copyDone ∧
    n ∉ s.pair.rapWait ∧ ((s.pwr.mode = .lead ∧ s.pair.peerMode = 7) ∨ (s.pwr.mode = .knitUp ∧ s.pair.phase = 4)) ∧ x.wouldWait = true ∧ 2
    ≤ tget 0 s.pair.copyTries n) ∧
  (∃ (n : Nat) (x : StreamCopy) (s : State) (bad : _), n < 256 ∧ pairWorks s = true ∧ s.pair.linkUp = true ∧ n ∈ codedOpen s ∧ n ∉
    s.pair.copyDone ∧ n ∉ s.pair.rapWait ∧ ((s.pwr.mode = .lead ∧ s.pair.peerMode = 7) ∨ (s.pwr.mode = .knitUp ∧ s.pair.phase = 4)) ∧
    x.wouldWait = false ∧ bad =
    (if s.pwr.mode = .lead then (moverRead n true x.faults s).1 else (moverRead n false x.faults (if x.verified = true then copyIn n x s else s)).1)
    ∧ (bad = true ∨ x.verified = false)) ∧
  (∃ (n : Nat) (x : StreamCopy) (s : State) (bad : _), n < 256 ∧ pairWorks s = true ∧ s.pair.linkUp = true ∧ n ∈ codedOpen s ∧ n ∉
    s.pair.copyDone ∧ n ∉ s.pair.rapWait ∧ ((s.pwr.mode = .lead ∧ s.pair.peerMode = 7) ∨ (s.pwr.mode = .knitUp ∧ s.pair.phase = 4)) ∧
    x.wouldWait = false ∧ bad =
    (if s.pwr.mode = .lead then (moverRead n true x.faults s).1 else (moverRead n false x.faults (if x.verified = true then copyIn n x s else s)).1)
    ∧ bad = false ∧ x.verified = true) ∧
  (∃ (s : State), s.pwr.mode = .knitUp ∧ s.pair.knitAt + s.pair.limitS * 1000000000 ≤ t2Ns s) ∧
  (∃ (s : State), (s.pwr.mode ≠ .knitUp ∨ t2Ns s < s.pair.knitAt + s.pair.limitS * 1000000000)) ∧
  (∃ (s : State) (a : _), s.pair.acceptUntil = some a ∧ a ≤ t2Ns s) ∧
  (∃ (s : State) (a : _), s.pair.acceptUntil = some a ∧ t2Ns s < a) ∧
  (∃ (s : State), s.pair.acceptUntil = none) :=
  ⟨⟨linked .knitUp { phase := 6 }, (by decide +kernel)⟩,
  ⟨linked .knitUp { phase := 2, timeOk := some (0, 0) } 1000000000, (by decide +kernel), (by decide +kernel), (by decide +kernel),
    (by decide +kernel), (by decide +kernel)⟩,
  ⟨linked .knitUp { phase := 2, timeOk := some (0, 0) } 999999999, (by decide +kernel), (by decide +kernel), (by decide +kernel),
    (by decide +kernel), (by decide +kernel)⟩,
  ⟨{ snap := some {} }, linked .knitUp { phase := 3 }, _, (by decide +kernel), (by decide +kernel), (by decide +kernel),
    (by decide +kernel), (Option.some_get (by decide +kernel)).symm⟩,
  ⟨{}, linked .knitUp { phase := 3 }, (by decide +kernel), (by decide +kernel), (by decide +kernel), (by decide +kernel),
    (by decide +kernel)⟩,
  ⟨{}, strOn 255 0 (linked .knitUp { phase := 4, copyDone := [255] }), (by decide +kernel), (by decide +kernel), (by decide +kernel),
    (by decide +kernel), (by decide +kernel), (by decide +kernel)⟩,
  ⟨{}, strOn 255 0 (linked .knitUp { phase := 4 }), (by decide +kernel), (by decide +kernel), (by decide +kernel), (by decide +kernel),
    (by decide +kernel)⟩,
  ⟨linked .knitUp { phase := 5, proofFrames := 8, peerDigest := some (configDigest (linked .knitUp {})) }, (by decide +kernel),
    (by decide +kernel), (by decide +kernel), (by decide +kernel), (by decide +kernel), knit_fit⟩,
  ⟨linked .knitUp { phase := 5, proofFrames := 7 }, (by decide +kernel), (by decide +kernel), (by decide +kernel), (by decide +kernel),
    (by decide +kernel)⟩,
  ⟨255, rdy, (by decide +kernel), (by decide +kernel)⟩,
  ⟨255, rdy, (by decide +kernel), (by decide +kernel), (by decide +kernel)⟩,
  ⟨255, { wouldWait := true }, strOn 255 0 (linked .lead { peerMode := 7, copyTries := [(255, 1)] }), (by decide +kernel),
    (by decide +kernel), (by decide +kernel), (by decide +kernel), (by decide +kernel), (by decide +kernel), (by decide +kernel),
    (by decide +kernel), (by decide +kernel)⟩,
  ⟨255, { wouldWait := true }, strOn 255 0 (linked .knitUp { phase := 4, copyTries := [(255, 2)] }), (by decide +kernel),
    (by decide +kernel), (by decide +kernel), (by decide +kernel), (by decide +kernel), (by decide +kernel), (by decide +kernel),
    (by decide +kernel), (by decide +kernel)⟩,
  ⟨255, { verified := false }, strOn 255 0 (linked .knitUp { phase := 4 }), _, (by decide +kernel), (by decide +kernel),
    (by decide +kernel), (by decide +kernel), (by decide +kernel), (by decide +kernel), (by decide +kernel), (by decide +kernel), rfl,
    (by decide +kernel)⟩,
  ⟨255, {}, strOn 255 0 (linked .knitUp { phase := 4 }), _, (by decide +kernel), (by decide +kernel), (by decide +kernel),
    (by decide +kernel), (by decide +kernel), (by decide +kernel), (by decide +kernel), (by decide +kernel), rfl, (by decide +kernel),
    (by decide +kernel)⟩,
  ⟨pairIn .knitUp {} 120000000000, (by decide +kernel), (by decide +kernel)⟩,
  ⟨pairIn .knitUp {} 119999999999, (by decide +kernel)⟩,
  ⟨pairIn .lead { acceptUntil := some 1000 } 1000, _, (Option.some_get (by decide +kernel)).symm, (by decide +kernel)⟩,
  ⟨pairIn .lead { acceptUntil := some 1000 } 999, _, (Option.some_get (by decide +kernel)).symm, (by decide +kernel)⟩,
  ⟨rdy, (by decide +kernel)⟩⟩

/-- States and operands that meet the hypotheses of each clause of `TouchPanelsAreSetEnabledAndTested`. -/
theorem witness_TouchPanelsAreSetEnabledAndTested :
  (∃ (c : Cmd) (s u : State) (r : List W32) (p : Nat), u = takeCmd c s ∧ Taken 0x0800 c s ∧ r = wordsOf 16 (crec c) ∧ p = prPanel r ∧
    (tpGet s p).st ≠ 0) ∧
  (∃ (c : Cmd) (s u : State) (r : List W32) (p : Nat), u = takeCmd c s ∧ Taken 0x0800 c s ∧ r = wordsOf 16 (crec c) ∧ p = prPanel r ∧
    (tpGet s p).st = 0 ∧ splitHeld u r = true) ∧
  (∃ (c : Cmd) (s u : State) (r : List W32) (p : Nat) (n : _), u = takeCmd c s ∧ Taken 0x0800 c s ∧ r = wordsOf 16 (crec c) ∧ p = prPanel
    r ∧ (tpGet s p).st = 0 ∧ splitHeld u r = false ∧ panelBad u r = some n) ∧
  (∃ (c : Cmd) (s u : State) (r : List W32) (p : Nat), u = takeCmd c s ∧ Taken 0x0800 c s ∧ r = wordsOf 16 (crec c) ∧ p = prPanel r ∧
    (tpGet s p).st = 0 ∧ splitHeld u r = false ∧ panelBad u r = none) ∧
  (∃ (c : Cmd) (s u : State) (p : Nat) (x : TouchPanel), u = takeCmd c s ∧ p = (cw c 4).toNat ∧ x = tpGet s p ∧ Taken 0x0801 c s ∧ (7 < p
    ∨ x.rcd = [] ∨ panelExists u p = false)) ∧
  (∃ (c : Cmd) (s u : State) (p : Nat) (x : TouchPanel), u = takeCmd c s ∧ p = (cw c 4).toNat ∧ x = tpGet s p ∧ Taken 0x0801 c s ∧ p ≤ 7 ∧
    x.rcd ≠ [] ∧ panelExists u p = true ∧ bitOf s.pwr.domains 12 = true ∧ bitOf s.pwr.iso 12 = false ∧ x.st ≠ 0) ∧
  (∃ (c : Cmd) (s u : State) (p : Nat) (x : TouchPanel), u = takeCmd c s ∧ p = (cw c 4).toNat ∧ x = tpGet s p ∧ Taken 0x0801 c s ∧ p ≤ 7 ∧
    x.rcd ≠ [] ∧ panelExists u p = true ∧ bitOf s.pwr.domains 12 = true ∧ bitOf s.pwr.iso 12 = false ∧ x.st = 0) ∧
  (∃ (c : Cmd) (s u : State) (p : Nat) (x : TouchPanel), u = takeCmd c s ∧ p = (cw c 4).toNat ∧ x = tpGet s p ∧ Taken 0x0801 c s ∧ p ≤ 7 ∧
    x.rcd ≠ [] ∧ panelExists u p = true ∧ (bitOf s.pwr.domains 12 = false ∨ bitOf s.pwr.iso 12 = true)) ∧
  (∃ (c : Cmd) (s u : State) (p : Nat) (x : TouchPanel), u = takeCmd c s ∧ p = (cw c 4).toNat ∧ x = tpGet s p ∧ Taken 0x0802 c s ∧ 7 < p) ∧
  (∃ (c : Cmd) (s u : State) (p : Nat) (x : TouchPanel), u = takeCmd c s ∧ p = (cw c 4).toNat ∧ x = tpGet s p ∧ Taken 0x0803 c s ∧
    (s.pwr.mode = .ready ∨ s.pwr.mode = .maintenance) ∧ (7 < p ∨ x.st = 0)) ∧
  (∃ (c : Cmd) (s u : State) (p : Nat) (x : TouchPanel), u = takeCmd c s ∧ p = (cw c 4).toNat ∧ x = tpGet s p ∧ Taken 0x0803 c s ∧
    (s.pwr.mode = .ready ∨ s.pwr.mode = .maintenance) ∧ p ≤ 7 ∧ x.st ≠ 0 ∧ (x.st = 1 ∨ x.st = 4 ∨ x.contacts ≠ [])) ∧
  (∃ (c : Cmd) (s u : State) (p : Nat) (x : TouchPanel), u = takeCmd c s ∧ p = (cw c 4).toNat ∧ x = tpGet s p ∧ Taken 0x0804 c s ∧
    (s.pwr.mode = .ready ∨ s.pwr.mode = .maintenance) ∧ (7 < p ∨ x.st = 0)) ∧
  (∃ (c : Cmd) (s u : State) (p : Nat) (x : TouchPanel), u = takeCmd c s ∧ p = (cw c 4).toNat ∧ x = tpGet s p ∧ Taken 0x0804 c s ∧
    (s.pwr.mode = .ready ∨ s.pwr.mode = .maintenance) ∧ p ≤ 7 ∧ x.st ≠ 0 ∧ (bitOf s.pwr.domains 12 = false ∨ bitOf s.pwr.iso 12 = true)) ∧
  (∃ (c : Cmd) (s u : State) (p : Nat) (x : TouchPanel), u = takeCmd c s ∧ p = (cw c 4).toNat ∧ x = tpGet s p ∧ Taken 0x0802 c s ∧ p ≤ 7 ∧
    x.st = 0) ∧
  (∃ (c : Cmd) (s u : State) (p : Nat) (x : TouchPanel), u = takeCmd c s ∧ p = (cw c 4).toNat ∧ x = tpGet s p ∧ Taken 0x0802 c s ∧ p ≤ 7 ∧
    x.st ≠ 0) ∧
  (∃ (c : Cmd) (s u : State) (p : Nat) (x : TouchPanel), u = takeCmd c s ∧ p = (cw c 4).toNat ∧ x = tpGet s p ∧ Taken 0x0803 c s ∧
    (s.pwr.mode = .ready ∨ s.pwr.mode = .maintenance) ∧ p ≤ 7 ∧ x.st ≠ 0 ∧ x.st ≠ 1 ∧ x.st ≠ 4 ∧ x.contacts = []) ∧
  (∃ (c : Cmd) (s u : State) (p : Nat) (x : TouchPanel), u = takeCmd c s ∧ p = (cw c 4).toNat ∧ x = tpGet s p ∧ Taken 0x0803 c s ∧
    s.pwr.mode ≠ .ready ∧ s.pwr.mode ≠ .maintenance) ∧
  (∃ (c : Cmd) (s u : State) (p : Nat) (x : TouchPanel), u = takeCmd c s ∧ p = (cw c 4).toNat ∧ x = tpGet s p ∧ Taken 0x0804 c s ∧
    (s.pwr.mode = .ready ∨ s.pwr.mode = .maintenance) ∧ p ≤ 7 ∧ x.st ≠ 0 ∧ bitOf s.pwr.domains 12 = true ∧ bitOf s.pwr.iso 12 = false) ∧
  (∃ (c : Cmd) (s u : State) (p : Nat) (x : TouchPanel), u = takeCmd c s ∧ p = (cw c 4).toNat ∧ x = tpGet s p ∧ Taken 0x0804 c s ∧
    s.pwr.mode ≠ .ready ∧ s.pwr.mode ≠ .maintenance) ∧
  (∃ (c : Cmd) (s u : State) (p : Nat) (x : TouchPanel), u = takeCmd c s ∧ p = (cw c 4).toNat ∧ x = tpGet s p ∧ Taken 0x0805 c s ∧ p ≤ 7) ∧
  (∃ (c : Cmd) (s u : State) (p : Nat) (x : TouchPanel), u = takeCmd c s ∧ p = (cw c 4).toNat ∧ x = tpGet s p ∧ Taken 0x0805 c s ∧ 7 < p) ∧
  (∃ (s : State), (outstOf 0x0803 s = none ∨ s.touch.saving = none)) ∧
  (∃ (s : State) (o : Outst) (p : Nat) (r : TouchRef), outstOf 0x0803 s = some o ∧ s.touch.saving = some (p, r)) ∧
  (∃ (p : Nat) (s : State) (x : TouchPanel), p < 8 ∧ x = tpGet s p ∧ (x.st ≠ 1 ∨ x.scans < 64)) ∧
  (∃ (p : Nat) (s : State) (x : TouchPanel), p < 8 ∧ x = tpGet s p ∧ x.st = 1 ∧ 64 ≤ x.scans) ∧
  (∃ (p : Nat) (a : TouchTest) (s : State) (x : TouchPanel) (m : List Nat × List Nat) (refs : Option (List Nat × List Nat)) (od sd os ss :
    List Nat), p < 8 ∧ x = tpGet s p ∧ m = electrodeSums x.rcd (rawCounts x.rcd a.slots) ∧ refs = ((touchRef s p).map fun q =>
    electrodeSums x.rcd ((tget [] q.base (prStart x.rcd)).map fun v => v / 256)) ∧ od = openOnes m.1 (refs.map Prod.fst) ∧ os = openOnes
    m.2 (refs.map Prod.snd) ∧ sd = shortOnes ((List.range (prDrv x.rcd - 1)).map fun i => a.drvPairs.getD i 0) ∧ ss = shortOnes
    ((List.range (prSns x.rcd - 1)).map fun i => a.snsPairs.getD i 0) ∧ x.st ≠ 4) ∧
  (∃ (p : Nat) (a : TouchTest) (s : State) (x : TouchPanel) (m : List Nat × List Nat) (refs : Option (List Nat × List Nat)) (od sd os ss :
    List Nat), p < 8 ∧ x = tpGet s p ∧ m = electrodeSums x.rcd (rawCounts x.rcd a.slots) ∧ refs = ((touchRef s p).map fun q =>
    electrodeSums x.rcd ((tget [] q.base (prStart x.rcd)).map fun v => v / 256)) ∧ od = openOnes m.1 (refs.map Prod.fst) ∧ os = openOnes
    m.2 (refs.map Prod.snd) ∧ sd = shortOnes ((List.range (prDrv x.rcd - 1)).map fun i => a.drvPairs.getD i 0) ∧ ss = shortOnes
    ((List.range (prSns x.rcd - 1)).map fun i => a.snsPairs.getD i 0) ∧ x.st = 4) :=
  ⟨⟨cmd .pf0 [] (recd 16 (panRec 7)), panOn 7 { st := 1 }, _, wordsOf 16 (recd 16 (panRec 7)), 7, rfl, (by decide +kernel),
    (by decide +kernel), (by decide +kernel), (by decide +kernel)⟩,
  ⟨cmd .pf0 [] (recd 16 (panRec 6)), panOn 7 { st := 2 }, _, wordsOf 16 (recd 16 (panRec 6)), 6, rfl, (by decide +kernel),
    (by decide +kernel), (by decide +kernel), (by decide +kernel), (by decide +kernel)⟩,
  ⟨cmd .pf0 [] (recd 16 (panRec 7)), rdy, _, wordsOf 16 (recd 16 (panRec 7)), 7, _, rfl, (by decide +kernel), (by decide +kernel),
    (by decide +kernel), (by decide +kernel), (by decide +kernel), (Option.some_get (by decide +kernel)).symm⟩,
  ⟨cmd .pf0 [] (recd 16 (panRec 6)), rdy, _, wordsOf 16 (recd 16 (panRec 6)), 6, rfl, (by decide +kernel), (by decide +kernel),
    (by decide +kernel), (by decide +kernel), (by decide +kernel), (by decide +kernel)⟩,
  ⟨cmd .pf0 [(4,8)], rdy, _, 8, _, rfl, (by decide +kernel), rfl, (by decide +kernel), (by decide +kernel)⟩,
  ⟨cmd .pf0 [(4,6)], panOn 6 { st := 1 }, _, 6, _, rfl, (by decide +kernel), rfl, (by decide +kernel), (by decide +kernel),
    (by decide +kernel), (by decide +kernel), (by decide +kernel), (by decide +kernel), (by decide +kernel)⟩,
  ⟨cmd .pf0 [(4,6)], panOn 6 {}, _, 6, _, rfl, (by decide +kernel), rfl, (by decide +kernel), (by decide +kernel), (by decide +kernel),
    (by decide +kernel), (by decide +kernel), (by decide +kernel), (by decide +kernel)⟩,
  ⟨cmd .pf0 [(4,6)], { panOn 6 {} with pwr := { rdy.pwr with domains := 0x6FFF } }, _, 6, _, rfl, (by decide +kernel), rfl,
    (by decide +kernel), (by decide +kernel), (by decide +kernel), (by decide +kernel), (by decide +kernel)⟩,
  ⟨cmd .pf0 [(4,8)], rdy, _, 8, _, rfl, (by decide +kernel), rfl, (by decide +kernel), (by decide +kernel)⟩,
  ⟨cmd .pf0 [(4,8)], rdy, _, 8, _, rfl, (by decide +kernel), rfl, (by decide +kernel), (by decide +kernel), (by decide +kernel)⟩,
  ⟨cmd .pf0 [(4,7)], panOn 7 { st := 1 }, _, 7, _, rfl, (by decide +kernel), rfl, (by decide +kernel), (by decide +kernel),
    (by decide +kernel), (by decide +kernel), (by decide +kernel)⟩,
  ⟨cmd .pf0 [(4,8)], rdy, _, 8, _, rfl, (by decide +kernel), rfl, (by decide +kernel), (by decide +kernel), (by decide +kernel)⟩,
  ⟨cmd .pf0 [(4,7)], { panOn 7 { st := 2 } with pwr := { rdy.pwr with domains := 0x6FFF } }, _, 7, _, rfl, (by decide +kernel), rfl,
    (by decide +kernel), (by decide +kernel), (by decide +kernel), (by decide +kernel), (by decide +kernel)⟩,
  ⟨cmd .pf0 [(4,7)], rdy, _, 7, _, rfl, (by decide +kernel), rfl, (by decide +kernel), (by decide +kernel), (by decide +kernel)⟩,
  ⟨cmd .pf0 [(4,7)], panOn 7 { st := 1 }, _, 7, _, rfl, (by decide +kernel), rfl, (by decide +kernel), (by decide +kernel),
    (by decide +kernel)⟩,
  ⟨cmd .pf0 [(4,7)], panOn 7 { st := 2 }, _, 7, _, rfl, (by decide +kernel), rfl, (by decide +kernel), (by decide +kernel),
    (by decide +kernel), (by decide +kernel), (by decide +kernel), (by decide +kernel), (by decide +kernel)⟩,
  ⟨cmd .pf0 [(4,7)], inMode .solo, _, 7, _, rfl, (by decide +kernel), rfl, (by decide +kernel), (by decide +kernel), (by decide +kernel)⟩,
  ⟨cmd .pf0 [(4,7)], panOn 7 { st := 2 }, _, 7, _, rfl, (by decide +kernel), rfl, (by decide +kernel), (by decide +kernel),
    (by decide +kernel), (by decide +kernel), (by decide +kernel), (by decide +kernel)⟩,
  ⟨cmd .pf0 [(4,7)], inMode .solo, _, 7, _, rfl, (by decide +kernel), rfl, (by decide +kernel), (by decide +kernel), (by decide +kernel)⟩,
  ⟨cmd .pf0 [(4,7)], rdy, _, 7, _, rfl, (by decide +kernel), rfl, (by decide +kernel), (by decide +kernel)⟩,
  ⟨cmd .pf0 [(4,8)], rdy, _, 8, _, rfl, (by decide +kernel), rfl, (by decide +kernel), (by decide +kernel)⟩,
  ⟨rdy, (by decide +kernel)⟩,
  ⟨{ outst 0x0803 7 with touch := { saving := some (7, ref1) } },
    { port := .pf0, ring := 0, opcode := 0x803, tag := 0, seq := 1, cons := 1, target := 7 }, 7, ref1, (by decide +kernel),
    (by decide +kernel)⟩,
  ⟨7, panOn 7 { st := 1, scans := 63 }, _, (by decide +kernel), rfl, (by decide +kernel)⟩,
  ⟨7, panOn 7 { st := 1, scans := 64 }, _, (by decide +kernel), rfl, (by decide +kernel), (by decide +kernel)⟩,
  ⟨7, {}, panOn 7 {}, _, _, _, _, _, _, _, (by decide +kernel), rfl, rfl, rfl, rfl, rfl, rfl, rfl, (by decide +kernel)⟩,
  ⟨7, {}, panOn 7 { st := 4 }, _, _, _, _, _, _, _, (by decide +kernel), rfl, rfl, rfl, rfl, rfl, rfl, rfl, (by decide +kernel)⟩⟩

/-- States and operands that meet the hypotheses of each clause of `TouchScansContactsAndGating`. -/
theorem witness_TouchScansContactsAndGating :
  (∃ (e : Nat) (s : State), e < 4 ∧ (scanDue (tePhase s e) (scanNow s) = none ∨ (teGet s e).cur ≠ none ∨ ∃ k, scanDue (tePhase s e)
    (scanNow s) = some k ∧ (teGet s e).lastK = some (scanOnT0 s, k))) ∧
  (∃ (e : Nat) (s : State) (k : Nat) (K : Nat → Option ScanKind), e < 4 ∧ scanDue (tePhase s e) (scanNow s) = some k ∧ (teGet s e).cur =
    none ∧ (teGet s e).lastK ≠ some (scanOnT0 s, k) ∧ (∀ p, K p = if scanRuns s ((hopApply k (tpGet s p)).st == 3) && panelExists s p then
    scanKind (hopApply k (tpGet s p)) k else none) ∧ K (2 * e) = none ∧ K (2 * e + 1) = none) ∧
  (∃ (e : Nat) (s : State) (k : Nat) (K : Nat → Option ScanKind), e < 4 ∧ scanDue (tePhase s e) (scanNow s) = some k ∧ (teGet s e).cur =
    none ∧ (teGet s e).lastK ≠ some (scanOnT0 s, k) ∧ (∀ p, K p = if scanRuns s ((hopApply k (tpGet s p)).st == 3) && panelExists s p then
    scanKind (hopApply k (tpGet s p)) k else none) ∧ (K (2 * e) ≠ none ∨ K (2 * e + 1) ≠ none)) ∧
  (∃ (e : Nat) (s : State), e < 4 ∧ (teGet s e).cur = none) ∧
  (∃ (e : Nat) (s : State) (c : _), e < 4 ∧ (teGet s e).cur = some c ∧ (if c.onT0 = true then t0Ns s else t2Ns s) < c.at_) ∧
  (∃ (e : Nat) (s : State) (c : _), e < 4 ∧ (teGet s e).cur = some c ∧ c.at_ ≤ (if c.onT0 = true then t0Ns s else t2Ns s)) ∧
  (∃ (v : Nat), v ≠ 0 ∧ v ≠ 3) ∧
  (∃ (last : Option Nat) (l : _), last = some l ∧ l ≠ 0 ∧ l ≠ 1) ∧
  (∃ (last : Option Nat) (v : Nat) (l : _), last = some l ∧ (l = 0 ∨ l = 1) ∧ v ≠ 0 ∧ v ≠ 3) ∧
  (∃ (last : Option Nat), last ≠ none) ∧
  (∃ (r : List W32) (px py : Nat) (s : State) (x : Output) (q : List W32) (z : Int × Int), x = outGet s (prOutput r) ∧ q = outRec s
    (prOutput r) ∧ z = pixelAt r px py ∧ (47 < prOutput r ∨ x.en = false ∨ z.1 < 0 ∨ (orW q : Int) ≤ z.1 ∨ z.2 < 0 ∨ (orH q : Int) ≤ z.2)) ∧
  (∃ (r : List W32) (px py : Nat) (onT0 : Bool) (s : State) (x : Output) (q : List W32) (z : Int × Int), x = outGet s (prOutput r) ∧ q =
    outRec s (prOutput r) ∧ z = pixelAt r px py ∧ prOutput r ≤ 47 ∧ x.en = true ∧ 0 ≤ z.1 ∧ z.1 < (orW q : Int) ∧ 0 ≤ z.2 ∧ z.2 < (orH q :
    Int) ∧ onT0 = true ∧ s.pwr.mode = .safeHold) ∧
  (∃ (r : List W32) (px py at_ : Nat) (onT0 : Bool) (s : State) (x : Output) (q : List W32) (z : Int × Int), x = outGet s (prOutput r) ∧ q
    = outRec s (prOutput r) ∧ z = pixelAt r px py ∧ (contactVerdict r px py at_ onT0 s).verdict = 0) ∧
  (∃ (p : Nat) (s : State) (x : TouchPanel), p < 8 ∧ x = tpGet s p ∧ s.pwr.mode = .night ∧ x.st = 2 ∧ prNight x.rcd = true ∧ x.contacts =
    [] ∧ works s 12 = true ∧ x.idleAt + prIdle x.rcd * 1000000000 ≤ scanNow s) ∧
  (∃ (p : Nat) (s : State) (x : TouchPanel), p < 8 ∧ x = tpGet s p ∧ (s.pwr.mode ≠ .night ∨ x.st ≠ 2 ∨ prNight x.rcd = false ∨ x.contacts
    ≠ [] ∨ works s 12 = false ∨ scanNow s < x.idleAt + prIdle x.rcd * 1000000000)) :=
  ⟨⟨3, tpSet 6 { rcd := recW 16 (panRec 6 false false 4166666) } rdy, (by decide +kernel), (.inl (by decide +kernel))⟩,
  ⟨3, rdy, 0, fun p => if scanRuns rdy ((hopApply 0 (tpGet rdy p)).st == 3) && panelExists rdy p then scanKind (hopApply 0 (tpGet rdy p))
    0 else none, (by decide +kernel), (by decide +kernel), (by decide +kernel), (by decide +kernel), (fun _ => rfl), (by decide +kernel),
    (by decide +kernel)⟩,
  ⟨3, panOn 6 { st := 1 }, 0, fun p => if scanRuns (panOn 6 { st := 1 }) ((hopApply 0 (tpGet (panOn 6 { st := 1 }) p)).st == 3) &&
    panelExists (panOn 6 { st := 1 }) p then scanKind (hopApply 0 (tpGet (panOn 6 { st := 1 }) p)) 0 else none, (by decide +kernel),
    (by decide +kernel), (by decide +kernel), (by decide +kernel), (fun _ => rfl), (by decide +kernel)⟩,
  ⟨3, rdy, (by decide +kernel), (by decide +kernel)⟩,
  ⟨3, teSet 3 scan1 (atTime 999 rdy), _, (by decide +kernel), (Option.some_get (by decide +kernel)).symm, (by decide +kernel)⟩,
  ⟨3, teSet 3 scan1 (atTime 1000 rdy), _, (by decide +kernel), (Option.some_get (by decide +kernel)).symm, (by decide +kernel)⟩,
  ⟨1, (by decide +kernel), (by decide +kernel)⟩,
  ⟨some 3, _, (Option.some_get (by decide +kernel)).symm, (by decide +kernel), (by decide +kernel)⟩,
  ⟨some 1, 2, _, (Option.some_get (by decide +kernel)).symm, (by decide +kernel), (by decide +kernel), (by decide +kernel)⟩,
  ⟨some 0, (by decide +kernel)⟩,
  ⟨recW 16 (panRec 7), 400, 0, out47 { en := true }, _, _, _, rfl, rfl, rfl, (by decide +kernel)⟩,
  ⟨recW 16 (panRec 7), 0, 0, true, out47 { en := true } (inMode .safeHold), _, _, _, rfl, rfl, rfl, (by decide +kernel),
    (by decide +kernel), (by decide +kernel), (by decide +kernel), (by decide +kernel), (by decide +kernel), (by decide +kernel),
    (by decide +kernel)⟩,
  ⟨recW 16 (panRec 7), 0, 0, 0, true, out47 { en := true, rows := [(0, { stitches := [{}] })] }, _, _, _, rfl, rfl, rfl,
    (by decide +kernel)⟩,
  ⟨7, tpSet 7 { st := 2, rcd := recW 16 (panRec 7 true) } (atTime 30000000000 (inMode .night)), _, (by decide +kernel), rfl,
    (by decide +kernel), (by decide +kernel), (by decide +kernel), (by decide +kernel), (by decide +kernel), (by decide +kernel)⟩,
  ⟨7, tpSet 7 { st := 2, rcd := recW 16 (panRec 7 true) } (atTime 29999999999 (inMode .night)), _, (by decide +kernel), rfl,
    (by decide +kernel)⟩⟩

end Sys2Proof.Tests
end

section
/-! SUPPORT. The touch engines' scans: what a scan's start and completion make of the engine and its panels, how contacts are gated, and
when a panel changes to ganged scanning; the obligation about them. -/

namespace Sys2Proof.Machine

/-! ### What changes a panel alone -/

/-- Of the engines, the panels, the memory, the outputs and the power unit, `t` differs from `s` in panel `p` at most. -/
structure PanelOnly (p : Nat) (s t : State) : Prop where
  engines : ∀ e, teGet t e = teGet s e
  panels : ∀ q, q ≠ p → tpGet t q = tpGet s q
  mem : t.mem = s.mem
  scan : t.scan = s.scan
  pwr : t.pwr = s.pwr

/-- Moreover panel `p` keeps its state, its count of scans and the identifiers of its contacts. -/
structure PanelKept (p : Nat) (s t : State) : Prop extends PanelOnly p s t where
  st : (tpGet t p).st = (tpGet s p).st
  fulls : (tpGet t p).fulls = (tpGet s p).fulls
  ids : (tpGet t p).contacts.map Contact.id = (tpGet s p).contacts.map Contact.id

@[simp] theorem tpGet_teSet (e p : Nat) (x : TouchEngine) (s : State) : tpGet (teSet e x s) p = tpGet s p := rfl
@[simp] theorem teGet_tpSet (e p : Nat) (x : TouchPanel) (s : State) : teGet (tpSet p x s) e = teGet s e := rfl

theorem PanelOnly.refl (p : Nat) (s : State) : PanelOnly p s s := ⟨fun _ => rfl, fun _ _ => rfl, rfl, rfl, rfl⟩

theorem PanelOnly.trans {p : Nat} {s t u : State} (h : PanelOnly p s t) (g : PanelOnly p t u) : PanelOnly p s u where
  engines e := (g.engines e).trans (h.engines e)
  panels q hq := (g.panels q hq).trans (h.panels q hq)
  mem := g.mem.trans h.mem
  scan := g.scan.trans h.scan
  pwr := g.pwr.trans h.pwr

theorem PanelKept.refl (p : Nat) (s : State) : PanelKept p s s := ⟨.refl p s, rfl, rfl, rfl⟩

theorem PanelKept.trans {p : Nat} {s t u : State} (h : PanelKept p s t) (g : PanelKept p t u) : PanelKept p s u where
  toPanelOnly := h.toPanelOnly.trans g.toPanelOnly
  st := g.st.trans h.st
  fulls := g.fulls.trans h.fulls
  ids := g.ids.trans h.ids

theorem PanelKept.ite {p : Nat} {c : Prop} [Decidable c] {s t u : State} (ht : PanelKept p s t) (hu : PanelKept p s u) :
    PanelKept p s (if c then t else u) := by
  split
  · exact ht
  · exact hu

theorem PanelKept.foldl {α : Type} {p : Nat} {f : State → α → State} (hf : ∀ u a, PanelKept p u (f u a)) (l : List α) (s : State) :
    PanelKept p s (l.foldl f s) := by
  induction l generalizing s with
  | nil => exact .refl p s
  | cons a l ih => exact (hf s a).trans (ih (f s a))

theorem panelOnly_tpSet (p : Nat) (x : TouchPanel) (s : State) : PanelOnly p s (tpSet p x s) :=
  ⟨fun _ => rfl, fun q hq => by rw [tpGet_tpSet, if_neg hq], rfl, rfl, rfl⟩

/-- A panel replaced by one with the same state, count of scans and contacts' identifiers. -/
theorem panelKept_tpSet {p : Nat} {x : TouchPanel} {s : State} (hst : x.st = (tpGet s p).st) (hfulls : x.fulls = (tpGet s p).fulls)
    (hids : x.contacts.map Contact.id = (tpGet s p).contacts.map Contact.id) : PanelKept p s (tpSet p x s) :=
  ⟨panelOnly_tpSet p x s, by simpa using hst, by simpa using hfulls, by simpa using hids⟩

theorem panelKept_raise (p code : Nat) (ws : List W32) (s : State) : PanelKept p s (raise code ws s) :=
  ⟨⟨by simp, by simp, by simp, by simp, by simp⟩, by simp, by simp, by simp⟩

theorem PanelKept.raise {p code : Nat} {ws : List W32} {s t : State} (h : PanelKept p s t) : PanelKept p s (raise code ws t) :=
  h.trans (panelKept_raise ..)

/-- Offering a descriptor to a ring changes the host interface and the record of what was sent, and nothing else. -/
theorem ringWrite_other (fn r : Nat) (ws : List W32) (now : Bool) (s : State) :
    ∃ o f x, ringWrite fn r ws now s = { s with outbox := o, free := f, hif := x } :=
  (ringWrite_frame fn r ws now s (Agree.refl {} s)).only_host

/-! ### Reports and judgements of a panel -/

/-- A report descriptor changes nothing of a panel but its count of lost ones. -/
theorem panelKept_touchPut (fn p : Nat) (ws : List W32) (s : State) : PanelKept p s (touchPut fn p ws s) := by
  obtain ⟨o, f, x, hw⟩ := ringWrite_other fn 9
    ((wd ws 0 ||| pack [(7, 1, satTo 127 (if fn = 0 then s.touch.lost0 else s.touch.lost1))]) :: ws.drop 1) false s
  have written (u : TouchUnit) (he : u.engines = s.touch.engines) (hp : u.panels = s.touch.panels) :
      PanelKept p s (withTouch { s with outbox := o, free := f, hif := x } u) := by
    constructor
    · constructor <;> simp [teGet, tpGet, he, hp]
    all_goals simp [tpGet, hp]
  unfold touchPut
  simp only [hw]
  split
  · split
    · exact written _ rfl rfl
    · exact written _ rfl rfl
  · refine .trans (?_ : PanelKept p s _) (panelKept_tpSet rfl rfl rfl)
    split
    · exact written _ rfl rfl
    · exact written _ rfl rfl

theorem panelKept_touchReport (p freq : Nat) (sc : TouchScan) (repeated ovl : Bool) (entries : List (List W32)) (s : State) :
    PanelKept p s (touchReport p freq sc repeated ovl entries s) := by
  unfold touchReport
  exact .foldl (fun u fn => .ite (.foldl (fun v _ => panelKept_touchPut fn p _ v) _ u) (.refl p u)) _ s

/-- A report of a panel's own contacts keeps their identifiers. -/
theorem panelKept_reportContacts {p freq : Nat} {sc : TouchScan} {repeated : Bool} {live ended : List Contact} {s : State}
    (h : live.map Contact.id = (tpGet s p).contacts.map Contact.id) : PanelKept p s (reportContacts p freq sc repeated live ended s) := by
  unfold reportContacts
  dsimp only
  have noted (g : Contact → Contact) (hg : ∀ c, (g c).id = c.id) :
      PanelKept p s (tpUpd p (fun x => { x with contacts := live.map g }) s) := by
    refine panelKept_tpSet rfl rfl ?_
    simp [← h, hg, Function.comp_def]
  split
  · exact noted _ fun c => by split <;> rfl
  · exact (noted _ fun c => by split <;> rfl).trans (panelKept_touchReport ..)

/-- Looking for long contacts raises events, and keeps the contacts' identifiers. -/
theorem panelKept_longContacts (p : Nat) (sc : TouchScan) (cs : List Contact) (acc : State × List Contact) :
    PanelKept p acc.1 (cs.foldl (longContact p sc) acc).1 ∧
      (cs.foldl (longContact p sc) acc).2.map Contact.id = acc.2.map Contact.id ++ cs.map Contact.id := by
  induction cs generalizing acc with
  | nil => exact ⟨.refl p _, by simp⟩
  | cons c cs ih =>
    have one : PanelKept p acc.1 (longContact p sc acc c).1 ∧
        (longContact p sc acc c).2.map Contact.id = acc.2.map Contact.id ++ [c.id] := by
      unfold longContact
      dsimp only
      split
      · exact ⟨.refl p _, by simp⟩
      · exact ⟨panelKept_raise .., by simp⟩
    obtain ⟨hs, hids⟩ := ih (longContact p sc acc c)
    refine ⟨one.1.trans hs, ?_⟩
    rw [List.foldl_cons, hids, one.2]
    simp

theorem panelKept_noiseJudge (p : Nat) (sc : TouchScan) (n : List Nat) (s : State) : PanelKept p s (noiseJudge p sc n s) := by
  unfold noiseJudge
  dsimp only
  split
  · exact panelKept_tpSet rfl rfl rfl
  · split
    · exact panelKept_tpSet rfl rfl rfl
    · exact .raise (panelKept_tpSet rfl rfl rfl)

/-! ### The four kinds of scan -/

/-- The baselines after a full scan are stored with the rest of the panel. -/
theorem rebase_stores (x : TouchPanel) (f : Nat) (raw delta : List Int) (k at_ p : Nat) (s : State) :
    ∃ y : TouchPanel, y.st = x.st ∧ y.fulls = x.fulls ∧ y.contacts = x.contacts ∧
      PanelKept p (tpSet p y s) (rebase x f raw delta k at_ p s) := by
  unfold rebase
  dsimp only
  split
  · refine ⟨_, ?_, ?_, ?_, .refl p _⟩ <;> rfl
  · refine ⟨_, ?_, ?_, ?_, panelKept_raise ..⟩ <;> rfl

/-- A full scan stores a panel with one more scan counted. -/
theorem fullScan_stores (p f : Nat) (sc : TouchScan) (raw : List Int) (s : State) :
    ∃ y : TouchPanel, y.st = (tpGet s p).st ∧ y.fulls = (tpGet s p).fulls + 1 ∧ PanelKept p (tpSet p y s) (fullScan p f sc raw s) := by
  unfold fullScan
  dsimp only
  generalize List.map _ (List.range _) = delta
  generalize htr : trackContacts (tpGet s p) delta sc.at_ = tr
  obtain ⟨y, hst, hfulls, hcontacts, hy⟩ := rebase_stores
    { tpGet s p with contacts := tr.1, fulls := (tpGet s p).fulls + 1, first := false,
                     idleAt := if tr.1.isEmpty then (tpGet s p).idleAt else sc.at_ } f raw delta sc.k sc.at_ p s
  obtain ⟨hs, hids⟩ := panelKept_longContacts p sc tr.1 (rebase _ f raw delta sc.k sc.at_ p s, [])
  refine ⟨y, hst, hfulls, (hy.trans hs).trans (panelKept_reportContacts ?_)⟩
  rw [hids, (hy.trans hs).ids]
  simp [hcontacts]

/-- A refresh scan stores a panel with one more scan counted and the same contacts. -/
theorem refreshScan_stores (p f : Nat) (sc : TouchScan) (raw : List Int) (s : State) :
    ∃ y : TouchPanel, y.st = (tpGet s p).st ∧ y.fulls = (tpGet s p).fulls + 1 ∧ y.contacts = (tpGet s p).contacts ∧
      PanelKept p (tpSet p y s) (refreshScan p f sc raw s) := by
  unfold refreshScan
  dsimp only
  obtain ⟨hs, hids⟩ := panelKept_longContacts p sc (tpGet s p).contacts (tpSet p
    { tpGet s p with base := tset f (drift (tpGet s p) raw (tget [] (tpGet s p).base f)) (tpGet s p).base
                     fulls := (tpGet s p).fulls + 1, refreshes := (tpGet s p).refreshes + 1 } s, [])
  refine ⟨_, ?_, ?_, ?_, hs.trans (panelKept_reportContacts ?_)⟩
  · rfl
  · rfl
  · rfl
  · rw [hids, hs.ids]
    simp

/-- One of the first four ganged scans adds to the bands. -/
theorem gangScan_learns {p : Nat} {s : State} (sc : TouchScan) (raw : List Int) (h : (tpGet s p).gangs < 4) :
    gangScan p sc raw s =
      tpSet p { tpGet s p with gangs := (tpGet s p).gangs + 1, bands := addLists (tpGet s p).bands raw } s := by
  unfold gangScan
  exact if_pos h

/-- A ganged scan changes its panel, after which its approach may wake the module. -/
theorem gangScan_cases (p : Nat) (sc : TouchScan) (raw : List Int) (s : State) :
    ∃ u, PanelOnly p s u ∧ (gangScan p sc raw s = u ∨ gangScan p sc raw s = touchApproachWake u) := by
  unfold gangScan
  dsimp only
  generalize (if List.any _ _ = true then _ else 0) = near
  split
  · exact ⟨_, panelOnly_tpSet .., .inl rfl⟩
  · split
    · exact ⟨_, panelOnly_tpSet .., .inl rfl⟩
    · refine ⟨_, ?_, .inr rfl⟩
      have left : PanelOnly p s (gangLeave sc.at_ p (tpSet p { tpGet s p with near := 0 } s)) :=
        ((panelOnly_tpSet ..).trans (panelOnly_tpSet ..)).trans (panelKept_raise ..).toPanelOnly
      exact left.trans (panelKept_raise ..).toPanelOnly

/-! ### What a panel makes of a scan -/

/-- In Run there is nothing to wake. -/
theorem touchApproachWake_run {s : State} (h : s.pwr.state = .run) : touchApproachWake s = s := by
  simp [touchApproachWake, h]

/-- A touch approach asks for Run, and leaves the engines as they are. -/
theorem teGet_touchApproachWake (s : State) (e : Nat) : teGet (touchApproachWake s) e = teGet s e := by
  unfold touchApproachWake
  split
  case isFalse => rfl
  case isTrue h =>
    simp only [Bool.and_eq_true, Option.isNone_iff_eq_none] at h
    simp only [wakeUp, powerAsk, withPwr_pwr, h.2, powerStart]
    split <;> rfl

/-- A panel's part of a scan changes that panel, after which its approach may wake the module. -/
theorem panelResult_cases (p : Nat) (sc : TouchScan) (kind : Option ScanKind) (noise : List Nat) (m : List (List Int)) (s : State) :
    ∃ u, PanelOnly p s u ∧ (panelResult p sc kind noise m s = u ∨ panelResult p sc kind noise m s = touchApproachWake u) := by
  unfold panelResult
  dsimp only
  split
  case h_1 => exact ⟨_, panelOnly_tpSet .., .inl rfl⟩
  case h_2 =>
    obtain ⟨y, -, -, h⟩ := fullScan_stores p _ sc (rawCounts (tpGet s p).rcd m) s
    exact ⟨_, (panelOnly_tpSet p y s).trans (h.trans (panelKept_noiseJudge ..)).toPanelOnly, .inl rfl⟩
  case h_3 =>
    obtain ⟨y, -, -, -, h⟩ := refreshScan_stores p _ sc (rawCounts (tpGet s p).rcd m) s
    exact ⟨_, (panelOnly_tpSet p y s).trans (h.trans (panelKept_noiseJudge ..)).toPanelOnly, .inl rfl⟩
  case h_4 => exact gangScan_cases ..
  case h_5 => exact ⟨s, .refl p s, .inl rfl⟩

theorem panelOnly_panelResult (p : Nat) (sc : TouchScan) (kind : Option ScanKind) (noise : List Nat) (m : List (List Int)) {s : State}
    (h : s.pwr.state = .run) : PanelOnly p s (panelResult p sc kind noise m s) := by
  obtain ⟨u, hu, e | e⟩ := panelResult_cases p sc kind noise m s
  · exact e ▸ hu
  · rw [e, touchApproachWake_run (hu.pwr ▸ h)]
    exact hu

@[simp] theorem teGet_panelResult (p : Nat) (sc : TouchScan) (kind : Option ScanKind) (noise : List Nat) (m : List (List Int))
    (s : State) (e : Nat) : teGet (panelResult p sc kind noise m s) e = teGet s e := by
  obtain ⟨u, hu, h | h⟩ := panelResult_cases p sc kind noise m s
  · rw [h, hu.engines]
  · rw [h, teGet_touchApproachWake, hu.engines]

/-- A disabled panel makes nothing of a scan. -/
theorem panelResult_disabled {p : Nat} {s : State} (sc : TouchScan) (kind : Option ScanKind) (noise : List Nat) (m : List (List Int))
    (h : (tpGet s p).st = 0) : panelResult p sc kind noise m s = s := by
  unfold panelResult
  simp only [h]

/-- A full scan of a running panel counts. -/
theorem panelResult_full {p : Nat} {s : State} (f : Nat) (sc : TouchScan) (noise : List Nat) (m : List (List Int))
    (hst : (tpGet s p).st = 2) : ∃ y : TouchPanel, y.st = 2 ∧ y.fulls = (tpGet s p).fulls + 1 ∧
      PanelKept p (tpSet p y s) (panelResult p sc (some (.full f)) noise m s) := by
  obtain ⟨y, hyst, hyfulls, hy⟩ := fullScan_stores p f sc (rawCounts (tpGet s p).rcd m) s
  refine ⟨y, hyst.trans hst, hyfulls, ?_⟩
  simp only [panelResult, hst]
  exact hy.trans (panelKept_noiseJudge ..)

/-- A refresh scan of a running panel counts, and keeps its contacts. -/
theorem panelResult_refresh {p : Nat} {s : State} (f : Nat) (sc : TouchScan) (noise : List Nat) (m : List (List Int))
    (hst : (tpGet s p).st = 2) : ∃ y : TouchPanel, y.st = 2 ∧ y.fulls = (tpGet s p).fulls + 1 ∧ y.contacts = (tpGet s p).contacts ∧
      PanelKept p (tpSet p y s) (panelResult p sc (some (.refresh f)) noise m s) := by
  obtain ⟨y, hyst, hyfulls, hcontacts, hy⟩ := refreshScan_stores p f sc (rawCounts (tpGet s p).rcd m) s
  refine ⟨y, hyst.trans hst, hyfulls, hcontacts, ?_⟩
  simp only [panelResult, hst]
  exact hy.trans (panelKept_noiseJudge ..)

/-- What a scan of kind `d` makes of a panel `x`: `y` (R488, R489, R498). -/
structure PanelScanned (d : Option ScanKind) (x y : TouchPanel) : Prop where
  start : ∀ f, d = some (.start f) → x.st = 1 → y.scans = x.scans + 1 ∧ y.st = 1
  full : ∀ f, (d = some (.full f) ∨ d = some (.refresh f)) → x.st = 2 → y.fulls = x.fulls + 1 ∧ y.st = 2
  refresh : ∀ f, d = some (.refresh f) → x.st = 2 → y.contacts.map Contact.id = x.contacts.map Contact.id
  ganged : d = some .ganged → x.st = 3 → x.gangs < 4 → y.gangs = x.gangs + 1

theorem panelScanned_panelResult (p : Nat) (sc : TouchScan) (d : Option ScanKind) (noise : List Nat) (m : List (List Int)) (s : State) :
    PanelScanned d (tpGet s p) (tpGet (panelResult p sc d noise m s) p) where
  start f hd hst := by
    have h : panelResult p sc d noise m s = startScan p f (rawCounts (tpGet s p).rcd m) s := by simp only [panelResult, hd, hst]
    simp [h, startScan, tpUpd, hst]
  full f hd hst := by
    rcases hd with rfl | rfl
    · obtain ⟨y, hyst, hyfulls, kept⟩ := panelResult_full f sc noise m hst
      rw [kept.fulls, kept.st]
      simp [hyfulls, hyst]
    · obtain ⟨y, hyst, hyfulls, -, kept⟩ := panelResult_refresh f sc noise m hst
      rw [kept.fulls, kept.st]
      simp [hyfulls, hyst]
  refresh f hd hst := by
    subst hd
    obtain ⟨y, -, -, hcontacts, kept⟩ := panelResult_refresh f sc noise m hst
    rw [kept.ids]
    simp [hcontacts]
  ganged hd hst hgangs := by
    have h : panelResult p sc d noise m s = gangScan p sc (bandCounts m) s := by simp only [panelResult, hd, hst]
    rw [h, gangScan_learns sc _ hgangs]
    simp

/-! ### TOUCH_SCAN_COMPLETE -/

theorem touchScanComplete_none {e : Nat} {s : State} (env : ScanCounts) (h : (teGet s e).cur = none) : touchScanComplete e env s = s := by
  simp [touchScanComplete, h]

/-- Before its sample time a scan goes on. -/
theorem touchScanComplete_early {e : Nat} {c : TouchScan} {s : State} (env : ScanCounts) (hc : (teGet s e).cur = some c)
    (h : (if c.onT0 = true then t0Ns s else t2Ns s) < c.at_) : touchScanComplete e env s = s := by
  simp [touchScanComplete, hc, h]

/-- At its sample time a scan ends, and its two panels make of it what they do. -/
theorem touchScanComplete_due {e : Nat} {c : TouchScan} {s : State} (env : ScanCounts) (hc : (teGet s e).cur = some c)
    (h : c.at_ ≤ (if c.onT0 = true then t0Ns s else t2Ns s)) : touchScanComplete e env s =
      panelResult (2 * e + 1) c c.p1 c.noise1 env.p1
        (panelResult (2 * e) c c.p0 c.noise0 env.p0 (teSet e { teGet s e with cur := none } s)) := by
  simp [touchScanComplete, hc, Nat.not_lt.mpr h]

/-- A scan completed in Run changes its own engine and that engine's two panels alone, each by its own part. -/
theorem touchScanComplete_run {e : Nat} {c : TouchScan} {s : State} (env : ScanCounts) (hc : (teGet s e).cur = some c)
    (h : c.at_ ≤ (if c.onT0 = true then t0Ns s else t2Ns s)) (hrun : s.pwr.state = .run) :
    ((∀ i, i ≠ e → teGet (touchScanComplete e env s) i = teGet s i) ∧
      (∀ p, p / 2 ≠ e → tpGet (touchScanComplete e env s) p = tpGet s p) ∧ (touchScanComplete e env s).mem = s.mem ∧
      (touchScanComplete e env s).scan = s.scan ∧ (touchScanComplete e env s).pwr = s.pwr) ∧
    PanelScanned c.p0 (tpGet s (2 * e)) (tpGet (touchScanComplete e env s) (2 * e)) ∧
    PanelScanned c.p1 (tpGet s (2 * e + 1)) (tpGet (touchScanComplete e env s) (2 * e + 1)) := by
  rw [touchScanComplete_due env hc h]
  generalize ha : teSet e { teGet s e with cur := none } s = a
  generalize hb : panelResult (2 * e) c c.p0 c.noise0 env.p0 a = b
  have hpwr : a.pwr = s.pwr := by simp [← ha]
  have first : PanelOnly (2 * e) a b := hb ▸ panelOnly_panelResult _ c _ _ _ (hpwr ▸ hrun)
  have second := panelOnly_panelResult (2 * e + 1) c c.p1 c.noise1 env.p1 (s := b) (by rw [first.pwr, hpwr, hrun])
  have scanned0 := panelScanned_panelResult (2 * e) c c.p0 c.noise0 env.p0 a
  have scanned1 := panelScanned_panelResult (2 * e + 1) c c.p1 c.noise1 env.p1 b
  rw [first.panels _ (by omega)] at scanned1
  rw [hb, ← second.panels _ (by omega)] at scanned0
  have panels (p : Nat) : tpGet a p = tpGet s p := by simp [← ha]
  rw [panels] at scanned0 scanned1
  refine ⟨⟨fun i hi => ?_, fun p hp => ?_, ?_, ?_, ?_⟩, scanned0, scanned1⟩
  · rw [second.engines, first.engines, ← ha, teGet_teSet, if_neg hi]
  · rw [second.panels p (by omega), first.panels p (by omega), panels]
  · rw [second.mem, first.mem, ← ha, teSet_mem]
  · rw [second.scan, first.scan, ← ha, teSet_scan]
  · rw [second.pwr, first.pwr, hpwr]

/-! ### TOUCH_SCAN_START -/

/-- What panel `p` does in scan `k`: nothing unless it exists and its engine scans. -/
def panelKind (k : Nat) (s : State) (p : Nat) : Option ScanKind :=
  if scanRuns s ((hopApply k (tpGet s p)).st == 3) && panelExists s p then scanKind (hopApply k (tpGet s p)) k else none

@[simp] theorem hopApply_rcd (k : Nat) (x : TouchPanel) : (hopApply k x).rcd = x.rcd := by
  unfold hopApply
  split
  · split <;> rfl
  · rfl

/-- What a panel does in a scan depends on the power unit, the panel, and its engine's SPLIT. -/
theorem panelKind_congr {s t : State} (k p : Nat) (hpwr : t.pwr = s.pwr) (hp : tpGet t p = tpGet s p)
    (hsplit : teSplit t (p / 2) = teSplit s (p / 2)) : panelKind k t p = panelKind k s p := by
  have hruns (gang : Bool) : scanRuns t gang = scanRuns s gang := by simp only [scanRuns, works, hpwr]
  have hexists : panelExists t p = panelExists s p := by simp only [panelExists, hsplit]
  rw [panelKind, panelKind, hp, hruns, hexists]

/-- A panel that does nothing in a scan stays as it is. -/
theorem panelScan_none {k p : Nat} {s : State} (vs : List (List Int)) (h : panelKind k s p = none) :
    panelScan k vs p s = (none, [], s) := by
  unfold panelKind at h
  simp only [panelScan, h]

/-- A panel that does something in a scan notes its number. -/
theorem panelScan_some {k p : Nat} {s : State} {d : ScanKind} (vs : List (List Int)) (h : panelKind k s p = some d) :
    ∃ n y, panelScan k vs p s = (some d, n, tpSet p y s) ∧ y.rcd = (tpGet s p).rcd ∧ y.scanNo = w32 k := by
  unfold panelKind at h
  simp only [panelScan, h]
  exact ⟨_, _, rfl, hopApply_rcd .., rfl⟩

/-- A panel at the start of a scan: only that panel changes, it keeps its record, and it notes the scan's number when it takes part. -/
structure ScanNoted (k p : Nat) (s t : State) : Prop extends PanelOnly p s t where
  hif : t.hif = s.hif
  rcd : ∀ q, (tpGet t q).rcd = (tpGet s q).rcd
  scanNo : panelKind k s p ≠ none → (tpGet t p).scanNo = w32 k

theorem panelScan_notes (k p : Nat) (vs : List (List Int)) (s : State) :
    ∃ n t, panelScan k vs p s = (panelKind k s p, n, t) ∧ ScanNoted k p s t := by
  cases h : panelKind k s p with
  | none => exact ⟨[], s, panelScan_none vs h, .refl p s, rfl, fun _ => rfl, fun hne => absurd h hne⟩
  | some d =>
    obtain ⟨n, y, hscan, hrcd, hno⟩ := panelScan_some vs h
    refine ⟨n, _, hscan, panelOnly_tpSet p y s, rfl, fun q => ?_, fun _ => by simpa using hno⟩
    rw [tpGet_tpSet]
    split
    · next hq => rw [hrcd, hq]
    · rfl

/-- Panel 2e's start of a scan changes nothing that panel 2e + 1 looks at. -/
theorem ScanNoted.panelKind_sibling {k e : Nat} {s t : State} (h : ScanNoted k (2 * e) s t) :
    panelKind k t (2 * e + 1) = panelKind k s (2 * e + 1) :=
  panelKind_congr k _ h.pwr (h.panels _ (by omega)) (by simp only [teSplit, h.rcd])

/-- Without a due scan, with one under way, or at a scan already started, the engine does nothing. -/
theorem touchScanStart_idle {e : Nat} {s : State} (env : ListenEnv)
    (h : scanDue (tePhase s e) (scanNow s) = none ∨ (teGet s e).cur ≠ none ∨
      ∃ k, scanDue (tePhase s e) (scanNow s) = some k ∧ (teGet s e).lastK = some (scanOnT0 s, k)) :
    touchScanStart e env s = s := by
  unfold touchScanStart
  rcases h with h | h | ⟨k, hk, hlast⟩
  · simp only [h]
  · cases scanDue (tePhase s e) (scanNow s) with
    | none => rfl
    | some k => simp [Option.isSome_iff_ne_none.mpr h]
  · simp [hk, hlast]

/-- An idle engine at a scan that it has not started asks its two panels in turn, and starts the scan when one of them takes part. -/
theorem touchScanStart_fresh {e k : Nat} {s : State} (env : ListenEnv) (hk : scanDue (tePhase s e) (scanNow s) = some k)
    (hcur : (teGet s e).cur = none) (hlast : (teGet s e).lastK ≠ some (scanOnT0 s, k)) :
    ∃ n0 n1 t u, ScanNoted k (2 * e) s t ∧ ScanNoted k (2 * e + 1) t u ∧ touchScanStart e env s =
      if (panelKind k s (2 * e)).isNone && (panelKind k s (2 * e + 1)).isNone then u
      else teSet e { cur := some { k := k, onT0 := scanOnT0 s, at_ := scanStart (tePhase s e) k + sampleOffset (teSplit s e),
                                   p0 := panelKind k s (2 * e), p1 := panelKind k s (2 * e + 1), noise0 := n0, noise1 := n1 },
                     lastK := some (scanOnT0 s, k) } u := by
  obtain ⟨n0, t, h0, noted0⟩ := panelScan_notes k (2 * e) env.p0 s
  obtain ⟨n1, u, h1, noted1⟩ := panelScan_notes k (2 * e + 1) env.p1 t
  rw [noted0.panelKind_sibling] at h1
  refine ⟨n0, n1, t, u, noted0, noted1, ?_⟩
  unfold touchScanStart
  simp only [hk, h0, h1]
  rw [if_neg]
  cases h : (teGet s e).lastK with
  | none => simp [hcur]
  | some b =>
    have other : b.1 = scanOnT0 s → b.2 ≠ k := fun hbase hno => hlast (by rw [h, ← hbase, ← hno])
    simpa [hcur] using other

/-- A scan in which neither panel takes part is not started. -/
theorem touchScanStart_unused {e k : Nat} {s : State} (env : ListenEnv) (hk : scanDue (tePhase s e) (scanNow s) = some k)
    (h0 : panelKind k s (2 * e) = none) (h1 : panelKind k s (2 * e + 1) = none) : touchScanStart e env s = s := by
  simp [touchScanStart, hk, panelScan_none _ h0, panelScan_none _ h1]

/-- A scan in which a panel takes part is started: the engine holds it and its number, and the panels that take part note the number. -/
theorem touchScanStart_starts {e k : Nat} {s : State} (env : ListenEnv) (hk : scanDue (tePhase s e) (scanNow s) = some k)
    (hcur : (teGet s e).cur = none) (hlast : (teGet s e).lastK ≠ some (scanOnT0 s, k))
    (hpanels : panelKind k s (2 * e) ≠ none ∨ panelKind k s (2 * e + 1) ≠ none) :
    ∃ t c, touchScanStart e env s = t ∧ (teGet t e).cur = some c ∧ (teGet t e).lastK = some (scanOnT0 s, k) ∧
      c.k = k ∧ c.onT0 = scanOnT0 s ∧ c.at_ = scanStart (tePhase s e) k + sampleOffset (teSplit s e) ∧
      c.p0 = panelKind k s (2 * e) ∧ c.p1 = panelKind k s (2 * e + 1) ∧
      (panelKind k s (2 * e) ≠ none → (tpGet t (2 * e)).scanNo = w32 k) ∧
      (panelKind k s (2 * e + 1) ≠ none → (tpGet t (2 * e + 1)).scanNo = w32 k) ∧
      (∀ i, i ≠ e → teGet t i = teGet s i) ∧ (∀ p, p / 2 ≠ e → tpGet t p = tpGet s p) ∧ t.mem = s.mem ∧ t.hif = s.hif := by
  obtain ⟨n0, n1, t, u, noted0, noted1, hstart⟩ := touchScanStart_fresh env hk hcur hlast
  have taken : ¬((panelKind k s (2 * e)).isNone && (panelKind k s (2 * e + 1)).isNone) = true := by
    rw [Bool.and_eq_true, Option.isNone_iff_eq_none, Option.isNone_iff_eq_none]
    exact fun hnone => hpanels.elim (fun h0 => h0 hnone.1) (fun h1 => h1 hnone.2)
  rw [if_neg taken] at hstart
  refine ⟨_, _, hstart, by rw [teGet_teSet, if_pos rfl], by rw [teGet_teSet, if_pos rfl], rfl, rfl, rfl, rfl, rfl,
    fun h => ?_, fun h => ?_, fun i hi => ?_, fun p hp => ?_, ?_, ?_⟩
  · rw [tpGet_teSet, noted1.panels _ (by omega), noted0.scanNo h]
  · rw [tpGet_teSet, noted1.scanNo (noted0.panelKind_sibling ▸ h)]
  · rw [teGet_teSet, if_neg hi, noted1.engines, noted0.engines]
  · rw [tpGet_teSet, noted1.panels p (by omega), noted0.panels p (by omega)]
  · rw [teSet_mem, noted1.mem, noted0.mem]
  · rw [teSet_hif, noted1.hif, noted0.hif]

/-! ### Contacts and their verdicts -/

/-- A contact's first report: DOWN, unless its panel suppresses it. -/
theorem contactState_new (suppress : Bool) (v : Nat) :
    contactState suppress none false v = if suppress = true ∧ v ≠ 0 ∧ v ≠ 3 then 3 else 0 := by
  cases suppress <;> by_cases h0 : v = 0 <;> by_cases h3 : v = 3 <;> simp [contactState, h0, h3]

/-- A panel that does not suppress reports every later scan as HELD, and the end as UP. -/
theorem contactState_open (last : Option Nat) (ended : Bool) (v : Nat) (h : ended = true ∨ last ≠ none) :
    contactState false last ended v = if ended then 2 else 1 := by
  cases ended with
  | true => simp [contactState]
  | false =>
    obtain ⟨l, rfl⟩ := Option.ne_none_iff_exists'.mp (h.resolve_left Bool.false_ne_true)
    simp [contactState]

/-- A contact that was never DOWN, or no longer, stays SUPPRESSED and ends as GONE. -/
theorem contactState_suppressed {l : Nat} (ended : Bool) (v : Nat) (h0 : l ≠ 0) (h1 : l ≠ 1) :
    contactState true (some l) ended v = if ended then 5 else 3 := by
  cases ended <;> simp [contactState, h0, h1]

/-- A pressed contact is HELD while its verdict is LIVE or NONE, CANCELLED when it loses it, and UP at its end. -/
theorem contactState_pressed {l : Nat} (ended : Bool) (v : Nat) (h : l = 0 ∨ l = 1) :
    contactState true (some l) ended v = if ended then 2 else if v = 0 ∨ v = 3 then 1 else 4 := by
  cases ended <;> simp [contactState, h]

/-- The pixel under a position lies in the active area of an enabled output. -/
def OverPicture (r : List W32) (px py : Nat) (s : State) : Prop :=
  prOutput r ≤ 47 ∧ (outGet s (prOutput r)).en = true ∧ 0 ≤ (pixelAt r px py).1 ∧
    (pixelAt r px py).1 < (orW (outRec s (prOutput r)) : Int) ∧ 0 ≤ (pixelAt r px py).2 ∧
    (pixelAt r px py).2 < (orH (outRec s (prOutput r)) : Int)

/-- A contact over no picture has no verdict. -/
theorem contactVerdict_outside {r : List W32} {px py : Nat} {s : State} (at_ : Nat) (onT0 : Bool) (h : ¬ OverPicture r px py s) :
    contactVerdict r px py at_ onT0 s = { verdict := 3 } := by
  unfold contactVerdict
  refine if_pos ?_
  rw [Bool.not_eq_true', ← Bool.not_eq_true]
  exact fun hin => h (by simpa [OverPicture, Nat.lt_succ_iff, and_assoc] using hin)

/-- In Safe hold a contact over a picture is STALE, for the reason of Safe hold. -/
theorem contactVerdict_safeHold {r : List W32} {px py : Nat} {s : State} (at_ : Nat) (h : OverPicture r px py s)
    (hmode : s.pwr.mode = .safeHold) : (contactVerdict r px py at_ true s).verdict = 1 ∧ (contactVerdict r px py at_ true s).reason = 3 := by
  obtain ⟨ho, hen, hx0, hx, hy0, hy⟩ := h
  simp [contactVerdict, Nat.lt_succ_iff.mpr ho, hen, hx0, hx, hy0, hy, hmode]

/-- A contact is LIVE only over a picture timed on T0, outside Safe hold, knit-up and a gap, on a stitch shown live and verified. -/
theorem contactVerdict_live {r : List W32} {px py at_ : Nat} {onT0 : Bool} {s : State}
    (h : (contactVerdict r px py at_ onT0 s).verdict = 0) :
    onT0 = true ∧ (outGet s (prOutput r)).en = true ∧ s.pwr.mode ≠ .safeHold ∧ s.pwr.mode ≠ .knitUp ∧ s.pair.gap = none ∧
      ∃ g, shownStitch (outGet s (prOutput r)) ((pixelAt r px py).1.toNat / 32) ((pixelAt r px py).2.toNat / 32) at_ = some g ∧
        g.kind = 0 ∧ g.unver = false := by
  by_cases hover : OverPicture r px py s
  case neg => simp [contactVerdict_outside at_ onT0 hover] at h
  obtain ⟨-, hen, -⟩ := hover
  unfold contactVerdict at h
  dsimp only at h
  split at h
  case isTrue => simp at h
  split at h
  case isTrue => simp at h
  split at h
  case isTrue => simp at h
  split at h
  case isTrue => simp at h
  next honT0 hhold hshown =>
    split at h
    case h_1 => simp at h
    next g hg =>
      split at h
      case isTrue => simp at h
      split at h
      case isTrue => simp at h
      next hunver hkind =>
        simp only [Bool.or_eq_true, not_or, Bool.not_eq_true, Option.isSome_eq_false_iff, Option.isNone_iff_eq_none] at hshown
        obtain ⟨⟨⟨hgap, -⟩, hknit⟩, -⟩ := hshown
        exact ⟨by simpa using honT0, hen, by simpa using hhold, by simpa using hknit, hgap, g, hg, by simpa using hkind,
          by simpa using hunver⟩

/-! ### GANGED_SCAN_ENTRY -/

/-- When a panel changes to ganged scanning (R498). -/
def GangDue (p : Nat) (s : State) : Prop :=
  s.pwr.mode = .night ∧ (tpGet s p).st = 2 ∧ prNight (tpGet s p).rcd = true ∧ (tpGet s p).contacts = [] ∧ works s 12 = true ∧
    (tpGet s p).idleAt + prIdle (tpGet s p).rcd * 1000000000 ≤ scanNow s

theorem gangedEntry_due {p : Nat} {s : State} (h : GangDue p s) : gangedEntry p s = gangEnter p s := by
  obtain ⟨hmode, hst, hnight, hcontacts, hworks, hidle⟩ := h
  simp [gangedEntry, hmode, hst, hnight, hcontacts, hworks, hidle]

theorem gangedEntry_other {p : Nat} {s : State} (h : ¬ GangDue p s) : gangedEntry p s = s := by
  unfold gangedEntry
  refine if_neg ?_
  simpa [GangDue, and_assoc] using h

/-- Entering ganged scanning changes its panel alone: its contacts end, and the bands are taken anew. -/
theorem gangEnter_panel (p : Nat) (s : State) : PanelOnly p s (gangEnter p s) ∧
    tpGet (gangEnter p s) p = { tpDrop (tpGet s p) with st := 3, gangs := 0, bands := [], near := 0 } :=
  ⟨(panelOnly_tpSet ..).trans (panelKept_raise ..).toPanelOnly, by simp [gangEnter, touchEvent, tpUpd]⟩

/-! ### The obligation -/

theorem exec_touchScanStart {e : Nat} (env : ListenEnv) (s : State) (he : e < 4) :
    exec (.touchScanStart e env) s = .next (touchScanStart e env s) := by
  show Host.Outcome.next (touchScanStart (e % 4) env s) = _
  rw [Nat.mod_eq_of_lt he]

theorem exec_touchScanComplete {e : Nat} (env : ScanCounts) (s : State) (he : e < 4) :
    exec (.touchScanComplete e env) s = .next (touchScanComplete e env s) := by
  show Host.Outcome.next (touchScanComplete (e % 4) env s) = _
  rw [Nat.mod_eq_of_lt he]

theorem exec_gangedScanEntry {p : Nat} (s : State) (hp : p < 8) : exec (.gangedScanEntry p) s = .next (gangedEntry p s) := by
  show Host.Outcome.next (gangedEntry (p % 8) s) = _
  rw [Nat.mod_eq_of_lt hp]

/-- Settles O60, clause by clause: the start and the completion of a scan, the states of a contact, its verdict, and the change to ganged
scanning. -/
theorem touchScansContactsAndGating : Obligations.TouchScansContactsAndGating := by
  unfold Obligations.TouchScansContactsAndGating
  refine ⟨fun e env s he => ?start, fun e env s he => ?complete, fun last v => ?state,
    fun r px py at_ onT0 s x q z hx hq hz => ?verdict, fun p s x hp hx => ?ganged⟩
  case start =>
    rw [exec_touchScanStart env s he]
    refine ⟨fun h => by rw [touchScanStart_idle env h], fun k K hk hcur hlast hK => ?_⟩
    obtain rfl : K = panelKind k s := funext hK
    refine ⟨fun h0 h1 => by rw [touchScanStart_unused env hk h0 h1], fun hpanels => ?_⟩
    obtain ⟨t, c, rfl, h⟩ := touchScanStart_starts env hk hcur hlast hpanels
    exact ⟨_, c, rfl, h⟩
  case complete =>
    rw [exec_touchScanComplete env s he]
    refine ⟨fun h => by rw [touchScanComplete_none env h], fun c hc h => by rw [touchScanComplete_early env hc h],
      fun c hc h => ⟨_, rfl, ?_, ?_, fun hrun => (touchScanComplete_run env hc h hrun).1, fun p d hrun hd => ?_, fun h0 h1 => ?_⟩⟩
    · simp [touchScanComplete_due env hc h]
    · simp [touchScanComplete_due env hc h]
    · obtain ⟨-, scanned0, scanned1⟩ := touchScanComplete_run env hc h hrun
      have scanned : PanelScanned d (tpGet s p) (tpGet (touchScanComplete e env s) p) := by
        rcases hd with ⟨rfl, rfl⟩ | ⟨rfl, rfl⟩
        · exact scanned0
        · exact scanned1
      exact ⟨scanned.start, scanned.full, scanned.refresh, scanned.ganged⟩
    · simp [touchScanComplete_due env hc h, panelResult_disabled, h0, h1]
  case state =>
    refine ⟨?_, fun h0 h3 => ?_, ?_, ?_, ?_, ?_, fun h => ?_⟩
    · rw [contactState_new]
      by_cases h0 : v = 0 <;> simp [h0]
    · rw [contactState_new, if_pos ⟨rfl, h0, h3⟩]
    · simp [contactState_new]
    · rintro l rfl h0 h1
      simp [contactState_suppressed _ v h0 h1]
    · rintro l rfl hl
      by_cases h0 : v = 0 <;> simp +contextual [contactState_pressed _ _ hl, h0]
    · simp [contactState_open last true v (.inl rfl)]
    · simp [contactState_open last false v (.inr h)]
  case verdict =>
    subst hx hq hz
    refine ⟨fun h => ?_, fun ho hen hx0 hx hy0 hy hT0 hmode => ?_, contactVerdict_live⟩
    · rw [contactVerdict_outside at_ onT0]
      rintro ⟨ho, hen, hx0, hx, hy0, hy⟩
      simp only [hen, Bool.true_eq_false, false_or] at h
      omega
    · subst hT0
      exact contactVerdict_safeHold at_ ⟨ho, hen, hx0, hx, hy0, hy⟩ hmode
  case ganged =>
    subst hx
    rw [exec_gangedScanEntry s hp]
    refine ⟨fun hmode hst hnight hcontacts hworks hidle => ?_, fun h => ?_⟩
    · obtain ⟨only, hpanel⟩ := gangEnter_panel p s
      rw [gangedEntry_due ⟨hmode, hst, hnight, hcontacts, hworks, hidle⟩]
      exact ⟨_, rfl, hpanel, only.panels, only.mem, only.scan⟩
    · rw [gangedEntry_other]
      rintro ⟨hmode, hst, hnight, hcontacts, hworks, hidle⟩
      simp only [hmode, hst, hnight, hcontacts, hworks, ne_eq, not_true, Bool.true_eq_false, false_or] at h
      omega

end Sys2Proof.Machine
end

section
/-! SUPPORT. Scan-out: when a verdict is live, what a verified fetch has read, what a canvas part and an egress stitch are judged and drawn
by; the obligation about live pixels. -/

namespace Sys2Proof.Machine

/-! ### Verdicts and their reasons (R121 to R123) -/

theorem hasFlag_or (a b f : Nat) : hasFlag (a ||| b) f = (hasFlag a f || hasFlag b f) := by
  unfold hasFlag
  rw [Nat.and_or_distrib_right, Bool.eq_iff_iff]
  simp only [bne_iff_ne, ne_eq, Bool.or_eq_true, Nat.or_eq_zero_iff]
  exact Decidable.not_and_iff_or_not

/-- The conditions of R121, all of which a live part meets. -/
theorem verdict_eq_live_iff (flags due display age : Nat) (hold : Bool) : verdict flags due display age hold = 0 ↔
    hold = false ∧ hasFlag flags forceStale = false ∧ 2 ^ 19 ≤ (display + 2 ^ 20 - due) % 2 ^ 20 ∧ age < 2 ^ 18 ∧
      hasFlag flags flagTEST = false := by
  unfold verdict
  generalize (display + 2 ^ 20 - due) % 2 ^ 20 = d
  repeat' split
  next hhold => exact iff_of_false (by decide) fun ⟨h, _⟩ => absurd (hhold.symm.trans h) (by decide)
  next hstale => exact iff_of_false (by decide) fun ⟨_, h, _⟩ => absurd (hstale.symm.trans h) (by decide)
  next hdue => exact iff_of_false (by decide) fun ⟨_, _, h, _⟩ => absurd hdue (Nat.not_lt.mpr h)
  next hage => exact iff_of_false (by decide) fun ⟨_, _, _, h, _⟩ => absurd hage (Nat.not_le.mpr h)
  next htest => exact iff_of_false (by decide) fun ⟨_, _, _, _, h⟩ => absurd (htest.symm.trans h) (by decide)
  next hhold hstale hdue hage htest =>
    exact iff_of_true rfl ⟨eq_false_of_ne_true hhold, eq_false_of_ne_true hstale, Nat.not_lt.mp hdue,
      Nat.not_le.mp hage, eq_false_of_ne_true htest⟩

/-- What the first condition that holds names stands in the list. -/
theorem mem_of_firstOf {α : Type} {cs : List (Bool × α)} {a : α} (h : firstOf cs = some a) : a ∈ cs.map Prod.snd := by
  induction cs with
  | nil => cases h
  | cons c cs ih =>
    obtain ⟨b, x⟩ := c
    cases b with
    | true => simp_all
    | false => exact List.mem_cons_of_mem _ (ih h)

/-- A stale part is counted under one of the precedences 1 to 10. -/
theorem one_le_reasonOf (flags : Nat) (hold : Bool) : 1 ≤ reasonOf flags hold := by
  unfold reasonOf
  generalize hc : firstOf _ = r
  cases r with
  | none => simp
  | some a =>
    have := mem_of_firstOf hc
    simp only [List.map_cons, List.map_nil, List.mem_cons, List.not_mem_nil, or_false] at this
    simp only [Option.getD_some]
    omega

/-! ### Verified reads (R69, R71, R72) -/

section
variable {stage : Nat} {us : List StageFault} {init port : Nat} {f : Surf} {sx sy : Nat} {s : State}

/-- A first read that verifies and that no upset strikes is what a fetch gives. -/
theorem fetchStitch_first {bs : List Byte} {tag : Nat} {s1 : State} (hu : upsetAt stage [1, 3, 5, 7] us sx sy = none)
    (hr : readStitch init port f sx sy s = (bs, some tag, s1)) :
    fetchStitch stage us init port f sx sy s = ({ bytes := bs, tag := some tag }, s1) := by
  simp [fetchStitch, hu, hr]

/-- After a first read that failed, a fetch gives a tag only from a retry that verifies and that the upset does not strike again; the
retry then counts. -/
theorem fetchStitch_retried {tag : Nat}
    (hfirst : ((upsetAt stage [1, 3, 5, 7] us sx sy).isNone && (readStitch init port f sx sy s).2.1.isSome) = false)
    (h : (fetchStitch stage us init port f sx sy s).1.tag = some tag) :
    (∀ x, upsetAt stage [1, 3, 5, 7] us sx sy = some x → x.times < 2) ∧
      ∃ v, readStitch init port f sx sy (readStitch init port f sx sy s).2.2 = ((fetchStitch stage us init port f sx sy s).1.bytes, some tag, v) ∧
        (fetchStitch stage us init port f sx sy s).2 = countRetry stage v := by
  unfold fetchStitch at h ⊢
  simp only [hfirst, Bool.false_eq_true, if_false] at h ⊢
  generalize readStitch init port f sx sy (readStitch init port f sx sy s).2.2 = r at h ⊢
  obtain ⟨bs, t, v⟩ := r
  cases hu : upsetAt stage [1, 3, 5, 7] us sx sy with
  | none =>
    simp only [hu] at h ⊢
    subst h
    exact ⟨by simp, v, rfl, rfl⟩
  | some x =>
    simp only [hu] at h ⊢
    split at h
    case isTrue => cases h
    case isFalse ht =>
      subst h
      simp only [ht, if_false]
      exact ⟨by rintro _ ⟨⟩; omega, v, rfl, rfl⟩

/-- A fetch that gives a tag has read and verified the stitch, at once or at the retry, and no detected upset struck both reads. -/
theorem fetchStitch_verified {tag : Nat} (h : (fetchStitch stage us init port f sx sy s).1.tag = some tag) :
    (∀ x, upsetAt stage [1, 3, 5, 7] us sx sy = some x → x.times < 2) ∧
      ∃ u v, (u = s ∨ u = (readStitch init port f sx sy s).2.2) ∧
        readStitch init port f sx sy u = ((fetchStitch stage us init port f sx sy s).1.bytes, some tag, v) ∧
        ((fetchStitch stage us init port f sx sy s).2 = v ∨ (fetchStitch stage us init port f sx sy s).2 = countRetry stage v) := by
  cases hfirst : (upsetAt stage [1, 3, 5, 7] us sx sy).isNone && (readStitch init port f sx sy s).2.1.isSome with
  | false =>
    obtain ⟨hx, v, hr, hs⟩ := fetchStitch_retried hfirst h
    exact ⟨hx, _, v, .inr rfl, hr, .inr hs⟩
  | true =>
    obtain ⟨hu, ht⟩ := Bool.and_eq_true_iff.mp hfirst
    rw [Option.isNone_iff_eq_none] at hu
    obtain ⟨tag', ht⟩ := Option.isSome_iff_exists.mp ht
    have hr : readStitch init port f sx sy s = ((readStitch init port f sx sy s).1, some tag', (readStitch init port f sx sy s).2.2) := by
      rw [← ht]
    have hfetch := fetchStitch_first hu hr
    rw [hfetch] at h ⊢
    cases h
    exact ⟨by simp [hu], s, _, .inl rfl, hr, .inl rfl⟩

end

/-! ### Canvas parts (R80, R82, R119, R121) -/

/-- The flags that canvas stitch `(cx, cy)` of a buffer is judged by: those of its tag, UNVERIFIED, and CUSTODY_FAIL where it does not
verify. -/
def canvasFlags (g : RowCtx) (buf cx cy : Nat) (s : State) : Nat :=
  tagFlags (rawTag 15 (soPort g.o) (canSurf g.canvas buf) cx cy s) ||| (if g.unver then flagUNVERIFIED else 0) |||
    (if (fetchStitch 0x30 g.faults 15 (soPort g.o) (canSurf g.canvas buf) cx cy s).1.tag.isNone then flagCUSTODY_FAIL else 0)

/-- The verdict of canvas stitch `(cx, cy)` of a buffer cut at full tick `cut`. -/
def canvasVerdict (g : RowCtx) (buf cut cx cy : Nat) (s : State) : Nat :=
  verdict (canvasFlags g buf cx cy s) (tagDue (rawTag 15 (soPort g.o) (canSurf g.canvas buf) cx cy s)) (g.fullTick % 2 ^ 20)
    (g.fullTick - cut) g.hold

/-- Flags of a stitch that does not verify force the stale treatment. -/
theorem fetch_verified_of_canvasFlags {g : RowCtx} {buf cx cy : Nat} {s : State}
    (h : hasFlag (canvasFlags g buf cx cy s) forceStale = false) :
    ∃ tag, (fetchStitch 0x30 g.faults 15 (soPort g.o) (canSurf g.canvas buf) cx cy s).1.tag = some tag := by
  rw [canvasFlags, hasFlag_or, Bool.or_eq_false_iff] at h
  cases ht : (fetchStitch 0x30 g.faults 15 (soPort g.o) (canSurf g.canvas buf) cx cy s).1.tag with
  | some tag => exact ⟨tag, rfl⟩
  | none =>
    have hfail := h.2
    rw [ht] at hfail
    cases hfail

section
variable {g : RowCtx} {cx cy : Nat} {s : State}

/-- A part of a canvas that has no frame to show is stale. -/
theorem canvasPart_unread (h : rowSource s (orCanvas g.r) g.shot g.n cy = none) : (canvasPart g cx cy s).1.kind = 2 ∧
    (canvasPart g cx cy s).1.draw = (if g.dark then .black else .purl) ∧ 1 ≤ (canvasPart g cx cy s).1.reason := by
  simp only [canvasPart, h]
  exact ⟨trivial, trivial, one_le_reasonOf ..⟩

/-- A part that is not judged stale is drawn from what was fetched, as its verdict says. -/
theorem canvasPart_shown {buf cut : Nat} (h : rowSource s (orCanvas g.r) g.shot g.n cy = some (buf, cut))
    (hk : canvasVerdict g buf cut cx cy s ≠ 2) :
    (canvasPart g cx cy s).1 =
        { cx := cx, cy := cy, kind := canvasVerdict g buf cut cx cy s, reason := 0, flags := canvasFlags g buf cx cy s,
          due := tagDue (rawTag 15 (soPort g.o) (canSurf g.canvas buf) cx cy s),
          draw := if canvasVerdict g buf cut cx cy s = 1 then .test else .live,
          bytes := (fetchStitch 0x30 g.faults 15 (soPort g.o) (canSurf g.canvas buf) cx cy s).1.bytes } ∧
      (∀ tag, (fetchStitch 0x30 g.faults 15 (soPort g.o) (canSurf g.canvas buf) cx cy s).1.tag = some tag → (canvasPart g cx cy s).2.1 = []) ∧
      (canvasPart g cx cy s).2.2 = (fetchStitch 0x30 g.faults 15 (soPort g.o) (canSurf g.canvas buf) cx cy s).2 := by
  rw [← bne_iff_ne, canvasVerdict, canvasFlags] at hk
  simp only [canvasPart, h, hk, if_true]
  exact ⟨rfl, fun tag ht => by simp [ht], trivial⟩

/-- A part that is judged stale has a reason, and is drawn black, in purl, or over its lifeline. -/
theorem canvasPart_stale {buf cut : Nat} (h : rowSource s (orCanvas g.r) g.shot g.n cy = some (buf, cut))
    (hk : canvasVerdict g buf cut cx cy s = 2) : (canvasPart g cx cy s).1.kind = 2 ∧
      ((canvasPart g cx cy s).1.draw = .overLife ∨ (canvasPart g cx cy s).1.draw = (if g.dark then .black else .purl)) ∧
      1 ≤ (canvasPart g cx cy s).1.reason := by
  have hk' : (canvasVerdict g buf cut cx cy s != 2) = false := by simp [hk]
  rw [canvasVerdict, canvasFlags] at hk'
  simp only [canvasPart, h, hk', Bool.false_eq_true, if_false]
  split
  · exact ⟨rfl, .inr rfl, one_le_reasonOf ..⟩
  · split
    · exact ⟨rfl, .inl rfl, one_le_reasonOf ..⟩
    · exact ⟨rfl, .inr rfl, one_le_reasonOf ..⟩

/-- What a live part rests on: its row's buffer, and the flags and the verdict of its stitch there. -/
theorem canvasPart_live (hk : (canvasPart g cx cy s).1.kind = 0) : ∃ buf cut,
    rowSource s (orCanvas g.r) g.shot g.n cy = some (buf, cut) ∧ canvasVerdict g buf cut cx cy s = 0 := by
  cases hsrc : rowSource s (orCanvas g.r) g.shot g.n cy with
  | none => simp [(canvasPart_unread hsrc).1] at hk
  | some x =>
    refine ⟨x.1, x.2, rfl, ?_⟩
    by_cases hv : canvasVerdict g x.1 x.2 cx cy s = 2
    · simp [(canvasPart_stale hsrc hv).1] at hk
    · rwa [(canvasPart_shown hsrc hv).1] at hk

/-- A stale part is drawn without its canvas pixels, or over its lifeline, and has a reason. -/
theorem canvasPart_of_stale (hk : (canvasPart g cx cy s).1.kind = 2) :
    ((canvasPart g cx cy s).1.draw = .overLife ∨ (canvasPart g cx cy s).1.draw = (if g.dark then .black else .purl)) ∧
      1 ≤ (canvasPart g cx cy s).1.reason := by
  cases hsrc : rowSource s (orCanvas g.r) g.shot g.n cy with
  | none => exact ⟨.inr (canvasPart_unread hsrc).2.1, (canvasPart_unread hsrc).2.2⟩
  | some x =>
    by_cases hv : canvasVerdict g x.1 x.2 cx cy s = 2
    · exact (canvasPart_stale hsrc hv).2
    · rw [(canvasPart_shown hsrc hv).1] at hk
      exact absurd hk hv

end

/-! ### Egress stitches (R124, R82) -/

/-- A part that an egress stitch shows is one of those it is judged over. -/
theorem mem_egParts {g : RowCtx} {ps : List Part} {sx : Nat} {p : Part} : p ∈ egParts g ps sx ↔
    p ∈ ps ∧ (g.vx + 32 * sx) / 32 ≤ p.cx ∧ p.cx ≤ (g.vx + 32 * sx + stitchExt (orW g.r) sx - 1) / 32 := by
  simp [egParts]

/-- An egress stitch is live where no stage failed in it and none of its parts is stale or under the test overlay. -/
theorem egressStitch_live_iff (g : RowCtx) (ps : List Part) (sx : Nat) : (egressStitch g ps sx).1.kind = 0 ↔
    packFault g sx = [] ∧ ∀ p ∈ egParts g ps sx, p.kind ≠ 2 ∧ p.kind ≠ 1 := by
  simp only [egressStitch]
  repeat' split
  next hbad =>
    refine iff_of_false (by decide) fun ⟨hf, hp⟩ => ?_
    simp only [hf, List.isEmpty_nil, Bool.not_true, Bool.false_or, Bool.not_eq_true', List.isEmpty_eq_false_iff_exists_mem,
      List.mem_filter, beq_iff_eq] at hbad
    obtain ⟨p, hm, h⟩ := hbad
    exact (hp p hm).1 h
  next htest =>
    obtain ⟨p, hm, h⟩ := List.any_eq_true.mp htest
    exact iff_of_false (by decide) fun ⟨_, hp⟩ => (hp p hm).2 (beq_iff_eq.mp h)
  next hbad htest =>
    simp only [Bool.or_eq_true, Bool.not_eq_true', not_or, Bool.not_eq_false, List.isEmpty_iff, List.filter_eq_nil_iff, beq_iff_eq] at hbad
    simp only [Bool.not_eq_true, List.any_eq_false, beq_iff_eq] at htest
    exact iff_of_true rfl ⟨hbad.1, fun p hm => ⟨hbad.2 p hm, htest p hm⟩⟩

/-- Settles O48: the verdict rule of R121, what a fetch that verifies has read, and the judgement of an egress stitch over its parts. -/
theorem onlyVerifiedTimelyPixelsAreLive : Obligations.OnlyVerifiedTimelyPixelsAreLive := by
  unfold Obligations.OnlyVerifiedTimelyPixelsAreLive
  refine ⟨verdict_eq_live_iff, fun g cx cy s p fs t hpart hk => ?_, fun g cx cy s hk => ?_, fun g ps sx hk => ?_⟩
  · obtain rfl : (canvasPart g cx cy s).1 = p := by rw [hpart]
    obtain rfl : (canvasPart g cx cy s).2.1 = fs := by rw [hpart]
    obtain rfl : (canvasPart g cx cy s).2.2 = t := by rw [hpart]
    obtain ⟨buf, cut, hsrc, hv⟩ := canvasPart_live hk
    obtain ⟨hshown, hfails, hstate⟩ := canvasPart_shown hsrc (by rw [hv]; decide)
    obtain ⟨hhold, hstale, hdue, hage, htest⟩ := (verdict_eq_live_iff ..).mp hv
    obtain ⟨tag, htag⟩ := fetch_verified_of_canvasFlags hstale
    obtain ⟨hupset, u, v, hu, hread, hs⟩ := fetchStitch_verified htag
    rw [hshown, hstate]
    exact ⟨hhold, hupset, hstale, htest, by rw [hv]; rfl, hfails tag htag, buf, cut, _, tag, u, v, hsrc, hu, hread, rfl, hs, hdue, hage⟩
  · obtain ⟨hdraw, hreason⟩ := canvasPart_of_stale hk
    refine ⟨?_, ?_, hreason⟩ <;> obtain h | h := hdraw <;> rw [h] <;> cases g.dark <;> decide
  · obtain ⟨hfault, hparts⟩ := (egressStitch_live_iff g ps sx).mp hk
    exact ⟨hfault, fun p hp h0 h1 => hparts p (mem_egParts.mpr ⟨hp, h0, h1⟩)⟩

end Sys2Proof.Machine
end

section
/-! SUPPORT. Reception: what becomes of a received frame, of a link that changes, of a coded unit whose time is over, of a silent path and
of a statistics interval; the obligation about them. -/

namespace Sys2Proof.Machine

/-! ### Frames on a port (R60, R228 to R231) -/

@[simp] theorem netGet_netUpd (p q : Nat) (f : NetPort → NetPort) (s : State) :
    netGet (netUpd p f s) q = if q = p then f (netGet s p) else netGet s q := by
  simp only [netGet, netUpd, withNet_net, tget_tupd]

/-- A port receives: it is enabled, its link is up, its domain works, and no lane of it is out of service. -/
structure Receives (p : Nat) (s : State) : Prop where
  en : (netGet s p).en = true
  up : (netGet s p).up = true
  domain : works s 4 = true
  lanes : ∀ i ∈ portLaneList s p, laneOut s i = false

theorem ethReceive_out {p : Nat} {s : State} (f : EthFrame) (h : (netGet s p).en = false ∨ (netGet s p).up = false ∨ works s 4 = false) :
    ethReceive p f s = s := by
  unfold ethReceive
  rw [if_pos]
  rcases h with h | h | h <;> simp [h]

section
variable {p : Nat} {f : EthFrame} {s : State} (hs : Receives p s)
include hs

/-- The state of a port that receives keeps no frame out. -/
theorem Receives.guard : (!((netGet s p).en && (netGet s p).up) || !works s 4 || (portLaneList s p).any (laneOut s)) = false := by
  simpa [hs.en, hs.up, hs.domain] using hs.lanes

theorem ethReceive_badFcs (hf : f.fcsOk = false) : ethReceive p f s = netCount p 2 s := by
  simp only [ethReceive, hs.guard, hf, Bool.false_eq_true, Bool.not_false, if_false, if_true]

theorem ethReceive_badParity (hf : f.fcsOk = true) (hp : f.parityOk = false) : ethReceive p f s =
    raise 0x01 [custodyP0 0x01 3 16 p 0, pack [(31, 16, p), (15, 0, 1)], 0, 0, 0] (netCount p 3 s) := by
  simp only [ethReceive, hs.guard, hf, hp, Bool.false_eq_true, Bool.not_false, Bool.not_true, if_false, if_true]

variable (hu : f.faults = []) (hf : f.fcsOk = true) (hp : f.parityOk = true)
include hu hf hp

/-- A frame without upset that is intact is counted good, and then judged by what it is. -/
theorem ethReceive_good : ethReceive p f s =
    if f.body = .pause then netUpd p (fun x => { x with pauses := sat32 (x.pauses + 1) }) (netCount p 1 s)
    else if 9600 < f.len || 1 < f.tags || f.ipBad || !filterPass s p f then netCount p 4 (netCount p 1 s)
    else routeFrame p f (netCount p 1 s) := by
  simp only [ethReceive, hs.guard, hf, hp, hu, upsetsAdd, List.isEmpty_nil, Bool.false_eq_true, Bool.not_true, if_false, if_true]

theorem ethReceive_pause (hb : f.body = .pause) :
    ethReceive p f s = netUpd p (fun x => { x with pauses := sat32 (x.pauses + 1) }) (netCount p 1 s) := by
  rw [ethReceive_good hs hu hf hp, if_pos hb]

theorem ethReceive_filtered (hb : f.body ≠ .pause) (h : 9600 < f.len ∨ 1 < f.tags ∨ f.ipBad = true ∨ filterPass s p f = false) :
    ethReceive p f s = netCount p 4 (netCount p 1 s) := by
  rw [ethReceive_good hs hu hf hp, if_neg hb, if_pos (by simpa [or_assoc] using h)]

theorem ethReceive_routed (hb : f.body ≠ .pause) (hlen : f.len ≤ 9600) (htags : f.tags ≤ 1) (hip : f.ipBad = false)
    (hpass : filterPass s p f = true) : ethReceive p f s = routeFrame p f (netCount p 1 s) := by
  rw [ethReceive_good hs hu hf hp, if_neg hb, if_neg (by simp [hlen, htags, hip, hpass])]

end

/-! ### Routing (R234, R237, R253, R254) -/

/-- Where no video flow takes a frame, it is the host's. -/
theorem routeFrame_unmatched {p : Nat} {f : EthFrame} {s : State} (h : ∀ d, f.body = .udp d → flowLookup s p f d = none) :
    routeFrame p f s = hostFrame p f s := by
  unfold routeFrame
  split
  next d hd => rw [h d hd]
  next => rfl

theorem hostFrame_class {f : EthFrame} {k : Nat} (p : Nat) (s : State) (h : bodyClass f.body = some k) :
    hostFrame p f s = classDeliver p k f s := by
  simp only [hostFrame, h]

/-- A UDP packet of no class that is for no address of ours. -/
theorem hostFrame_foreignUdp {p : Nat} {f : EthFrame} {s : State} {d : UdpPkt} (hd : f.body = .udp d) (hc : bodyClass f.body = none)
    (hu : isUnicast s p f.dst = false) (hb : f.dst ≠ macBroadcast) : hostFrame p f s = netCount p 5 s := by
  rw [hd] at hc
  simp [hostFrame, hd, hc, hu, hb]

section
variable {p n : Nat} {f : EthFrame} {s : State} {d : UdpPkt} {x : Flow} (hd : f.body = .udp d) (hl : flowLookup s p f d = some (n, x))
include hd hl

theorem routeFrame_refused (hc : flChecks x.rcd d = false) :
    routeFrame p f s = withNet s { s.net with flows := tset n { x with refused := sat32 (x.refused + 1) } s.net.flows } := by
  simp [routeFrame, hd, hl, hc]

theorem routeFrame_video {h : RtpPkt} (hc : flChecks x.rcd d = true) (hk : flKind x.rcd ≠ 3) (hr : d.rtp = some h) :
    routeFrame p f s = videoPacket p n x h (t0Ns s + f.stamp.ns) s := by
  simp [routeFrame, hd, hl, hc, hk, hr, arrivalNs]

end

/-- A class whose bucket holds no token, or that takes nothing, discards. -/
theorem classDeliver_drops {k : Nat} {s : State} (p : Nat) (f : EthFrame)
    (h : (classRefill (classGet s k) (t2Ns s)).rate = 0 ∨ (classRefill (classGet s k) (t2Ns s)).tokens < 1000000000) :
    classDeliver p k f s = classDrop k 1 (classSet k (classRefill (classGet s k) (t2Ns s)) s) := by
  unfold classDeliver
  exact if_pos (by simpa using h)

/-! ### Links (R232) -/

theorem netLink_same {p : Nat} {s : State} {b : Bool} (h : (netGet s p).up = b) : netLink p b s = s := by
  simp [netLink, h]

theorem netLink_up {p : Nat} {s : State} (hup : (netGet s p).up = false) (hen : (netGet s p).en = true)
    (hl : ∀ i ∈ portLaneList s p, (laneGet s i).ovl ≠ 4) :
    netLink p true s = raise 0x11 [pack [(31, 29, p), (28, 28, 1)]] (netUpd p (fun x => { x with up := true }) s) := by
  have hloop : ((portLaneList s p).any fun i => (laneGet s i).ovl == 4) = false := by simpa using hl
  simp [netLink, hup, hen, hloop, b1]

theorem netLink_down {p : Nat} {s : State} (hup : (netGet s p).up = true) : netLink p false s =
    (List.range 256).foldl (streamLinkDown p) (raise 0x11 [pack [(31, 29, p), (28, 28, 0)]] (netUpd p (fun x => { x with up := false }) s)) := by
  simp [netLink, hup, b1]

/-! ### Paths (R249) -/

/-- A path of a stream. -/
def streamPath (e : StreamE) (p : Nat) : Path := if p = 0 then e.pathA else e.pathB

theorem pathLoss_idle {k p : Nat} {s : State} (h : (strGet s k).merged = true → (streamPath (strGet s k) p).up = true →
    t2Ns s < (streamPath (strGet s k) p).at_ + recPathLoss (strGet s k).rcd * 1000000) : pathLoss k p s = s := by
  unfold pathLoss
  refine if_neg ?_
  simpa [and_imp, streamPath] using h

theorem pathLoss_due {k p : Nat} {s : State} (hm : (strGet s k).merged = true) (hup : (streamPath (strGet s k) p).up = true)
    (h : (streamPath (strGet s k) p).at_ + recPathLoss (strGet s k).rcd * 1000000 ≤ t2Ns s) : pathLoss k p s =
    raise 0x12 [pack [(31, 24, k), (23, 23, p), (22, 22, 0)], w32 (lowestOpen (strGet s k))]
      (strSet k (if p = 0 then { strGet s k with pathA := { streamPath (strGet s k) p with up := false } }
        else { strGet s k with pathB := { streamPath (strGet s k) p with up := false } }) s) := by
  unfold streamPath at hup h ⊢
  simp [pathLoss, pathSet, hm, hup, h, b1]

/-! ### Statistics (R271) -/

theorem ingestStats_early {p : Nat} {s : State}
    (h : (netGet s p).en = false ∨ t2Ns s < tget 0 s.net.statsAt p + s.net.statsMs * 1000000) : ingestStats p s = s := by
  unfold ingestStats
  exact if_pos (by simpa using h)

/-- The event by which an interval is reported. -/
def statsReport (p : Nat) (s : State) : State :=
  raise 0x10 (pack [(31, 29, p)] :: [1, 2, 3, 4, 5, 6, 7].map fun k => w32 (tget 0 (netGet s p).stats k)) s

theorem ingestStats_due {p : Nat} {s : State} (hen : (netGet s p).en = true)
    (h : tget 0 s.net.statsAt p + s.net.statsMs * 1000000 ≤ t2Ns s) : ingestStats p s = withNet (statsReport p s)
      { s.net with ports := tupd {} p (fun x => { x with stats := [] }) s.net.ports, statsAt := tset p (t2Ns s) s.net.statsAt } := by
  simp [ingestStats, hen, Nat.not_lt.mpr h, statsReport, netUpd, withNet]

/-- An event whose masks let it through nowhere, and that no function must take, is not raised. -/
theorem raise_masked {code : Nat} {s : State} (ws : List W32) (h0 : maskBit s.hif.mask0 code = false) (h1 : maskBit s.hif.mask1 code = false)
    (h2 : maskBit s.hif.mask2 code = false) (hc : code ≠ 0x40 ∧ code ≠ 0x42) : raise code ws s = s := by
  simp [raise, h0, h1, h2, hc]

/-! ### Streams alone -/

/-- `t` is `s` but for the stream unit, in which the other streams are the same. -/
structure StreamOnly (k : Nat) (s t : State) : Prop where
  others : ∀ j, j ≠ k → strGet t j = strGet s j
  rest : t = { s with str := t.str }

theorem StreamOnly.refl (k : Nat) (s : State) : StreamOnly k s s := ⟨fun _ _ => rfl, rfl⟩

theorem StreamOnly.trans {k : Nat} {s t u : State} (h : StreamOnly k s t) (g : StreamOnly k t u) : StreamOnly k s u where
  others j hj := (g.others j hj).trans (h.others j hj)
  rest := by rw [g.rest, h.rest]

theorem streamOnly_strUpd (k : Nat) (f : StreamE → StreamE) (s : State) : StreamOnly k s (strUpd k f s) :=
  ⟨fun j hj => by rw [strUpd, strGet_strSet, if_neg hj], rfl⟩

theorem StreamOnly.t2Ns {k : Nat} {s t : State} (h : StreamOnly k s t) : t2Ns t = t2Ns s := by
  rw [h.rest]
  rfl

@[simp] theorem strGet_strUpd_same (k : Nat) (f : StreamE → StreamE) (s : State) : strGet (strUpd k f s) k = f (strGet s k) := by
  rw [strUpd, strGet_strSet, if_pos rfl]

/-! ### Access units (R242, R243) -/

/-- An access unit apart from its wait for a surface. -/
def noWait (a : AccUnit) : AccUnit := { a with waitAt := none }

/-- The blocks of an access unit hold its bytes in order. -/
theorem blocksOf_bytes (origin base : Nat) (gaps : List Nat) {fuel : Nat} (off : Nat) {bs : List Byte} (h : bs.length ≤ 2048 * fuel) :
    (blocksOf origin base gaps fuel off bs).flatMap Block.bytes = bs := by
  induction fuel generalizing off bs with
  | zero => simp_all [blocksOf]
  | succ fuel ih =>
    unfold blocksOf
    split
    case isTrue hnil => simpa using (List.isEmpty_iff.mp hnil).symm
    case isFalse =>
      rw [List.flatMap_cons, ih _ (by rw [List.length_drop]; omega)]
      exact List.take_append_drop 2048 bs

/-- The wait of a ready access unit for a surface may begin: nothing else changes. -/
theorem auWait_waits (k : Nat) (s : State) : StreamOnly k s (auWait k s) ∧ (strGet (auWait k s) k).opens = (strGet s k).opens ∧
    (strGet (auWait k s) k).aus.map noWait = (strGet s k).aus.map noWait := by
  have same : StreamOnly k s s ∧ (strGet s k).opens = (strGet s k).opens ∧ (strGet s k).aus.map noWait = (strGet s k).aus.map noWait :=
    ⟨.refl k s, rfl, rfl⟩
  unfold auWait
  split
  · split
    · refine ⟨streamOnly_strUpd .., by simp, ?_⟩
      simp only [strGet_strUpd_same, List.map_map]
      refine List.map_congr_left fun b _ => ?_
      simp only [Function.comp_apply]
      split <;> rfl
    · exact same
  · exact same

/-- Only streams of class 2 and 3 have a backlog limit. -/
theorem backlog_unlimited {k : Nat} {s : State} (h : recClass (strGet s k).rcd < 2) : backlog k s = s := by
  unfold backlog
  exact if_pos (by simp [h])

/-- The access unit that a coded unit of a stream becomes at a moment of T2. -/
def codedUnit (e : StreamE) (u : OpenUnit) (degraded : Bool) (now : Nat) : AccUnit :=
  { num := u.num, arrival := u.arrival, origin := u.origin, arrTimed := u.arrTimed, degraded := degraded,
    incomplete := !(unitGaps (codedFirst e u) 0 (auHeld e u)).isEmpty || u.marker.isNone, rap := u.rap, closedAt := now,
    blocks := blocksOf u.origin ((if u.arrTimed then flagARRIVAL_TIMED else 0) ||| (if degraded then flagDEGRADED else 0))
      (unitGaps (codedFirst e u) 0 (auHeld e u)) (((auHeld e u).flatMap Held.bytes).length / 2048 + 1) 0 ((auHeld e u).flatMap Held.bytes) }

theorem codedUnit_bytes (e : StreamE) (u : OpenUnit) (degraded : Bool) (now : Nat) :
    (codedUnit e u degraded now).blocks.flatMap Block.bytes = (auHeld e u).flatMap Held.bytes :=
  blocksOf_bytes _ _ _ _ (by omega)

/-- A stream keeps a closing unit: it is the random access point that the stream may wait for, and its bytes have room. -/
structure Keeps (e : StreamE) (u : OpenUnit) : Prop where
  rap : e.wantRap = true ∨ (e.starting = true ∧ recWaitRap e.rcd = true) → u.rap = true
  class_ : recClass e.rcd < 2
  room : bufUsed e + ((auHeld e u).flatMap Held.bytes).length ≤ recBitbuf e.rcd * 2 ^ 20

/-- The stream with an access unit at its place in decode order. -/
def auTaken (a : AccUnit) (e : StreamE) : StreamE := { e with aus := auInsert a e.aus, wantRap := false, starting := false }

/-- A unit that its stream keeps takes its place in decode order. -/
theorem closeCoded_kept {k : Nat} {u : OpenUnit} {s : State} (degraded : Bool) (h : Keeps (strGet s k) u) :
    closeCoded k u degraded s = auWait k (strUpd k (auTaken (codedUnit (strGet s k) u degraded (t2Ns s))) s) := by
  have hrap : (((strGet s k).wantRap || ((strGet s k).starting && recWaitRap (strGet s k).rcd)) && !u.rap) = false := by
    cases hu : u.rap with
    | true => rw [Bool.not_true, Bool.and_false]
    | false =>
      rw [Bool.not_false, Bool.and_true]
      refine eq_false_of_ne_true fun hw => Bool.false_ne_true (hu.symm.trans (h.rap ?_))
      simpa only [Bool.or_eq_true, Bool.and_eq_true] using hw
  unfold closeCoded
  simp only [hrap, Bool.false_eq_true, if_false]
  rw [if_neg (Nat.not_lt.mpr h.room), backlog_unlimited (by simpa [auTaken] using h.class_)]
  rfl

/-! ### Units whose time is over (R242, R246) -/

theorem closeWhere_none {k : Nat} {p : OpenUnit → Bool} {s : State} (h : ∀ v ∈ (strGet s k).opens, p v = false) : closeWhere k p s = s := by
  unfold closeWhere
  exact if_pos (by simpa using h)

theorem closeWhere_lone {k : Nat} {p : OpenUnit → Bool} {s : State} {v : OpenUnit} (hv : (strGet s k).opens = [v]) (hp : p v = true) :
    closeWhere k p s = closeNext k 1 (closeUnit k v s) := by
  simp [closeWhere, hv, hp]

theorem closeNext_closed {k : Nat} {s : State} (fuel : Nat) (h : (strGet s k).opens = []) : closeNext k fuel s = s := by
  cases fuel with
  | zero => rfl
  | succ fuel => simp [closeNext, h]

/-- The one open unit of a stream may close without loss: it was not dropped, the stream keeps it, and no path goes down with it. -/
structure LoneUnit (e : StreamE) (v : OpenUnit) (now : Nat) : Prop extends Keeps e v where
  lone : e.opens = [v]
  formed : v.dropped = false
  format : strFormat e ≠ 4
  paths : ∀ p, p < 2 → e.merged = true → (streamPath e p).up = true → now < (streamPath e p).at_ + recPathLoss e.rcd * 1000000

/-- Unit `v` of stream `k` has closed into access unit `a`, and nothing else has changed. -/
structure ClosedInto (k : Nat) (v : OpenUnit) (a : AccUnit) (s t : State) : Prop where
  opens : (strGet t k).opens = []
  aus : (strGet t k).aus.map noWait = (auInsert a (strGet s k).aus).map noWait
  num : a.num = v.num
  origin : a.origin = v.origin
  rap : a.rap = v.rap
  closedAt : a.closedAt = t2Ns s
  bytes : a.blocks.flatMap Block.bytes = (auHeld (strGet s k) v).flatMap Held.bytes
  only : StreamOnly k s t

/-- The stream once its one open unit is closed. -/
def unitGone (u : OpenUnit) (now : Nat) (e : StreamE) : StreamE :=
  { e with opens := e.opens.filter fun v => v.ts != u.ts,
           closed := closedUnit u :: e.closed.filter fun v => decide (now < v.openedAt + closedSpan) }

/-- Such a unit closes into an access unit of the stream that is left of it. -/
theorem closeUnit_coded {k : Nat} {v : OpenUnit} {s : State} (h : LoneUnit (strGet s k) v (t2Ns s)) : ∃ degraded,
    closeUnit k v s = auWait k (strUpd k (auTaken (codedUnit (unitGone v (t2Ns s) (strGet s k)) v degraded (t2Ns s)))
      (strUpd k (unitGone v (t2Ns s)) s)) := by
  have hpaths : pathLoss k 1 (pathLoss k 0 s) = s := by
    rw [pathLoss_idle (h.paths 0 (by decide)), pathLoss_idle (h.paths 1 (by decide))]
  have hkeeps : Keeps (strGet (strUpd k (unitGone v (t2Ns s)) s) k) v := by
    rw [strGet_strUpd_same]
    exact ⟨h.rap, h.class_, h.room⟩
  refine ⟨(strGet s k).merged && !((strGet s k).pathA.up && (strGet s k).pathB.up), ?_⟩
  calc closeUnit k v s
    _ = closeCoded k v ((strGet s k).merged && !((strGet s k).pathA.up && (strGet s k).pathB.up))
          (strUpd k (unitGone v (t2Ns s)) s) := by
      simp only [closeUnit, hpaths, h.formed, h.format, Bool.false_eq_true, if_false]
      rfl
    _ = _ := by
      rw [closeCoded_kept _ hkeeps, strGet_strUpd_same, (streamOnly_strUpd ..).t2Ns]

theorem closeUnit_into {k : Nat} {v : OpenUnit} {s : State} (h : LoneUnit (strGet s k) v (t2Ns s)) :
    ∃ a, ClosedInto k v a s (closeUnit k v s) := by
  obtain ⟨degraded, hclose⟩ := closeUnit_coded h
  obtain ⟨hwait, hopens, haus⟩ := auWait_waits k (strUpd k (auTaken (codedUnit (unitGone v (t2Ns s) (strGet s k)) v degraded (t2Ns s)))
    (strUpd k (unitGone v (t2Ns s)) s))
  rw [hclose]
  refine ⟨codedUnit (unitGone v (t2Ns s) (strGet s k)) v degraded (t2Ns s), ?_⟩
  constructor
  case opens =>
    rw [hopens, strGet_strUpd_same, strGet_strUpd_same]
    simp [auTaken, unitGone, h.lone]
  case aus =>
    rw [haus, strGet_strUpd_same, strGet_strUpd_same]
    rfl
  case num => rfl
  case origin => rfl
  case rap => rfl
  case closedAt => rfl
  case bytes => exact codedUnit_bytes ..
  case only => exact ((streamOnly_strUpd ..).trans (streamOnly_strUpd ..)).trans hwait

/-- Where the one open unit of a stream meets the condition, it closes, and nothing waited for it. -/
theorem closeWhere_into {k : Nat} {p : OpenUnit → Bool} {v : OpenUnit} {s : State} (h : LoneUnit (strGet s k) v (t2Ns s)) (hp : p v = true) :
    ∃ a, ClosedInto k v a s (closeWhere k p s) := by
  obtain ⟨a, ha⟩ := closeUnit_into h
  rw [closeWhere_lone h.lone hp, closeNext_closed 1 ha.opens]
  exact ⟨a, ha⟩

/-- The condition under which RECEPTION_WINDOW_TIMEOUT closes a frame (R246, points 2 to 4). -/
def windowOver (e : StreamE) (now : Nat) (u : OpenUnit) : Bool :=
  holdOver e now u || decide (u.openedAt + 2 * (leAt u.rcd 8 8 / 2 ^ 32) + holdNs e u ≤ now)

theorem windowOver_eq_false {e : StreamE} {now : Nat} {u : OpenUnit} (hhold : holdOver e now u = false)
    (h : now < u.openedAt + 2 * (leAt u.rcd 8 8 / 2 ^ 32) + holdNs e u) : windowOver e now u = false := by
  rw [windowOver, hhold, Bool.false_or, decide_eq_false (Nat.not_le.mpr h)]

theorem auTimeout_coded {k : Nat} {s : State} (h : strFormat (strGet s k) < 4) :
    auTimeout k s = closeWhere k (holdOver (strGet s k) (t2Ns s)) s := if_pos h

theorem auTimeout_other {k : Nat} {s : State} (h : 4 ≤ strFormat (strGet s k)) : auTimeout k s = s := if_neg (Nat.not_lt.mpr h)

theorem windowTimeout_st2110 {k : Nat} {s : State} (h : strFormat (strGet s k) = 4 ∨ strFormat (strGet s k) = 5) :
    windowTimeout k s = closeWhere k (windowOver (strGet s k) (t2Ns s)) s :=
  if_pos (by simpa using h)

theorem windowTimeout_other {k : Nat} {s : State} (h4 : strFormat (strGet s k) ≠ 4) (h5 : strFormat (strGet s k) ≠ 5) :
    windowTimeout k s = s := if_neg (by simp [h4, h5])

/-! ### The obligation -/

theorem exec_ethFrameReceive {p : Nat} (f : EthFrame) (s : State) (hp : p < 8) :
    exec (.ethFrameReceive p f) s = .next (ethReceive p f s) := by
  show Host.Outcome.next (ethReceive (p % 8) f s) = _
  rw [Nat.mod_eq_of_lt hp]

theorem exec_netLinkChange {p : Nat} (up : Bool) (s : State) (hp : p < 8) : exec (.netLinkChange p up) s = .next (netLink p up s) := by
  show Host.Outcome.next (netLink (p % 8) up s) = _
  rw [Nat.mod_eq_of_lt hp]

theorem exec_accessUnitHoldTimeout (k : Nat) (s : State) : exec (.accessUnitHoldTimeout k) s = .next (auTimeout k s) := rfl

theorem exec_receptionWindowTimeout (k : Nat) (s : State) : exec (.receptionWindowTimeout k) s = .next (windowTimeout k s) := rfl

theorem exec_pathLossTimeout {p : Nat} (k : Nat) (s : State) (hp : p < 2) : exec (.pathLossTimeout k p) s = .next (pathLoss k p s) := by
  show Host.Outcome.next (pathLoss k (p % 2) s) = _
  rw [Nat.mod_eq_of_lt hp]

theorem exec_ingestStatsInterval {p : Nat} (s : State) (hp : p < 8) : exec (.ingestStatsInterval p) s = .next (ingestStats p s) := by
  show Host.Outcome.next (ingestStats (p % 8) s) = _
  rw [Nat.mod_eq_of_lt hp]

/-- Settles O41, clause by clause: the checks of a received frame, its route, a link, the units whose time is over, a silent path, and a
statistics interval. -/
theorem receptionIsCheckedCountedAndRouted : Obligations.ReceptionIsCheckedCountedAndRouted := by
  unfold Obligations.ReceptionIsCheckedCountedAndRouted
  refine ⟨fun p f s hp => ?receive, fun p f s => ?route, fun p s hp => ?link, fun k s e he => ?units, fun k p s e x hp he hx => ?path,
    fun p s hp => ?stats⟩
  case receive =>
    rw [exec_ethFrameReceive f s hp]
    refine ⟨fun h => by rw [ethReceive_out f h], fun hen hup hdomain hlanes hu => ?_⟩
    have hs : Receives p s := ⟨hen, hup, hdomain, hlanes⟩
    exact ⟨fun hf => by rw [ethReceive_badFcs hs hf], fun hf hpar => by rw [ethReceive_badParity hs hf hpar], fun hf hpar =>
      ⟨fun hb => by rw [ethReceive_pause hs hu hf hpar hb], fun hb h => by rw [ethReceive_filtered hs hu hf hpar hb h],
        fun hb hlen htags hip hpass => by rw [ethReceive_routed hs hu hf hpar hb hlen htags hip hpass]⟩⟩
  case route =>
    refine ⟨fun k hk hd => ?_, fun d hd hl hc hu hb => ?_, fun d n x hd hl hc => routeFrame_refused hd hl hc,
      fun d n x h hd hl hc hk hr => routeFrame_video hd hl hc hk hr, fun k h => classDeliver_drops p f h⟩
    · rw [routeFrame_unmatched hd, hostFrame_class p s hk]
    · have hnone : ∀ d', f.body = .udp d' → flowLookup s p f d' = none := fun d' hd' => by
        cases hd.symm.trans hd'
        exact hl
      rw [routeFrame_unmatched hnone, hostFrame_foreignUdp hd hc hu hb]
  case link =>
    refine ⟨fun hup hen hl => ?_, fun hup => ?_, fun b hb => ?_⟩
    · rw [exec_netLinkChange true s hp, netLink_up hup hen hl]
    · rw [exec_netLinkChange false s hp, netLink_down hup]
    · rw [exec_netLinkChange b s hp, netLink_same hb]
  case units =>
    subst he
    refine ⟨fun hfmt h => ?_, fun hfmt => ?_, fun h4 h5 => ?_, fun h => ?_,
      fun v w hw hlone hformed hrap hclass hroom hA hB => ⟨fun ⟨hfmt, hover⟩ => ?_, fun ⟨hfmt, hover⟩ => ?_⟩⟩
    · rw [exec_accessUnitHoldTimeout, auTimeout_coded hfmt, closeWhere_none h]
    · rw [exec_accessUnitHoldTimeout, auTimeout_other hfmt]
    · rw [exec_receptionWindowTimeout, windowTimeout_other h4 h5]
    · rw [exec_receptionWindowTimeout]
      by_cases hfmt : strFormat (strGet s k) = 4 ∨ strFormat (strGet s k) = 5
      · rw [windowTimeout_st2110 hfmt, closeWhere_none fun v hv => windowOver_eq_false (h v hv).1 (h v hv).2]
      · rw [windowTimeout_other (not_or.mp hfmt).1 (not_or.mp hfmt).2]
    all_goals
      obtain rfl : w = noWait := funext hw
      have hv : LoneUnit (strGet s k) v (t2Ns s) := by
        refine ⟨⟨hrap, hclass, hroom⟩, hlone, hformed, by omega, fun p hp => ?_⟩
        obtain rfl | rfl : p = 0 ∨ p = 1 := by omega
        · exact hA
        · exact hB
    · obtain ⟨a, ha⟩ := closeWhere_into hv hover
      exact ⟨_, a, by rw [exec_accessUnitHoldTimeout, auTimeout_coded hfmt], ha.opens, ha.aus, ha.num, ha.origin, ha.rap, ha.closedAt,
        ha.bytes, ha.only.others, ha.only.rest⟩
    · obtain ⟨a, ha⟩ := closeWhere_into (p := windowOver (strGet s k) (t2Ns s)) hv (by simpa [windowOver] using hover)
      exact ⟨_, a, by rw [exec_receptionWindowTimeout, windowTimeout_st2110 (.inr hfmt)], ha.opens, ha.aus, ha.num, ha.closedAt,
        ha.bytes, ha.only.others, ha.only.rest⟩
  case path =>
    subst he hx
    rw [exec_pathLossTimeout k s hp]
    refine ⟨fun hm hup h => by rw [pathLoss_due hm hup h]; rfl, fun h => ?_⟩
    rw [pathLoss_idle fun hm hup => ?_]
    rcases h with h | h | h
    · simp [hm] at h
    · simp [streamPath, h] at hup
    · exact h
  case stats =>
    rw [exec_ingestStatsInterval s hp]
    refine ⟨fun h => by rw [ingestStats_early h], fun hen h => ⟨_, rfl, ?_⟩⟩
    rw [ingestStats_due hen h]
    refine ⟨by simp [netGet, tget_tupd], by simp [netGet, tget_tupd], by simp [tget_tset], fun q hq => by simp [netGet, tget_tupd, hq],
      ⟨_, _, rfl, rfl⟩, fun h0 h1 h2 => ?_⟩
    rw [statsReport, raise_masked _ h0 h1 h2 (by decide)]
    rfl

end Sys2Proof.Machine
end

section
/-! SUPPORT. Composition: what the cut of a frame-mode canvas leaves, when a commit takes effect, what a deadline and an underrun make of the
frame under composition; the obligation about them. -/

namespace Sys2Proof.Machine

/-! ### Parts of a state that the composition of a row keeps -/

/-- A canvas is the same where the composition unit is. -/
theorem Agree.canGet {m : Units} {s t : State} (h : Agree m s t) (hm : m.comp = false) (c : Nat) : canGet t c = canGet s c := by
  unfold Sys2Proof.Machine.canGet
  rw [h.comp.resolve_left (by simp [hm])]

theorem composeReport_agree (c : Nat) (j : Compose) (s : State) : Agree { str := true } s (composeReport c j s) :=
  composeReport_frame c j s (.refl _ s) rfl

theorem slippedEvent_agree (c cause frame p2 count first : Nat) (s : State) : Agree {} s (slippedEvent c cause frame p2 count first s) :=
  slippedEvent_frame c cause frame p2 count first s (.refl _ s)

/-- Composing rows adds them to the job's rows, and what it finds to the job's failures and sources. -/
theorem composeRows_job (c : Nat) (j : Compose) (cutFull : Nat) (sels : List LayerSel) (faults : List StageFault) (rows : List Nat)
    (s : State) : ∃ fails fetched, (composeRows c j cutFull sels faults rows s).1 =
      { j with fails := fails, fetched := fetched, rows := j.rows ++ rows } :=
  ⟨_, _, rfl⟩

/-! ### The cut of a frame-mode canvas (R107 to R109, R337) -/

/-- The job of a frame as its cut opens it: the selections made at the cut, no row composed yet. -/
def cutJob (c g : Nat) (env : CutEnv) (s : State) : Compose :=
  { openJob (canGet s c) env.frame (cutTime (flGet s g) env.frame) with
    sels := frameSels s (canGet s c) (period32 (flGet s g)) (cutTime (flGet s g) env.frame)
    finish := env.finish
    lates := tset 0 env.late [] }

/-- The rows of a frame that are composed at its cut: all where it finishes. -/
def cutRows (c : Nat) (env : CutEnv) (s : State) : List Nat :=
  List.range (if env.finish then stitchN (canGet s c).h else Nat.min env.row (stitchN (canGet s c).h))

theorem settle_idle {c : Nat} {s : State} (h : (canGet s c).job = none) : settle c s = s := by
  unfold settle
  rw [h]

theorem takeCommit_none {c n : Nat} {s : State}
    (h : ∀ k ∈ s.comp.commits, c ∉ k.done → k.mask.getLsbD c = true → n < k.frame) : takeCommit c n s = s := by
  have hnone : (s.comp.commits.find? fun k => !k.done.contains c && k.mask.getLsbD c && decide (k.frame ≤ n)) = none := by
    rw [List.find?_eq_none]
    intro k hk hdue
    simp only [Bool.and_eq_true, Bool.not_eq_true', List.contains_eq_mem, decide_eq_false_iff_not, decide_eq_true_eq] at hdue
    obtain ⟨⟨hdone, hmask⟩, hframe⟩ := hdue
    exact absurd (h k hk hdone hmask) (Nat.not_lt.mpr hframe)
  unfold takeCommit
  rw [hnone]

/-- The block once the frame's job is open, before any row of it is composed. -/
def cutOpened (c g : Nat) (env : CutEnv) (s : State) : State :=
  let s0 := canSet c { canGet s c with job := some (cutJob c g env s), taken := some env.frame } s
  if (canGet s c).last.isSome then sourceLate c (cutJob c g env s) s0 else s0

/-- The job with the rows that are composed at the cut, and the block after them. -/
def cutComposed (c g : Nat) (env : CutEnv) (s : State) : Compose × State :=
  composeRows c (cutJob c g env s) (cutJob c g env s).cutFull (cutJob c g env s).sels env.faults (cutRows c env s) (cutOpened c g env s)

/-- The cut of a frame, with no earlier frame to settle and no commit due. -/
theorem frameCut_eq {c g : Nat} {env : CutEnv} {s : State} (hjob : (canGet s c).job = none) (hcommit : takeCommit c env.frame s = s) :
    frameCut c g env s =
      let t := canUpd c (fun x => { x with job := some (cutComposed c g env s).1 }) (cutComposed c g env s).2
      if env.finish then composeReport c (cutComposed c g env s).1 t else t := by
  unfold frameCut
  rw [settle_idle hjob]
  dsimp only
  rw [hcommit]
  rfl

/-- Beside the job, opening and composing it changes only the memory, the streams' counts and the host interface. -/
theorem cutComposed_agree (c g : Nat) (env : CutEnv) (s : State) : Agree { mem := true, str := true }
    (canSet c { canGet s c with job := some (cutJob c g env s), taken := some env.frame } s) (cutComposed c g env s).2 := by
  have opened : Agree { mem := true, str := true }
      (canSet c { canGet s c with job := some (cutJob c g env s), taken := some env.frame } s) (cutOpened c g env s) := by
    unfold cutOpened
    dsimp only
    split
    · exact sourceLate_frame _ _ _ (.refl _ _)
    · exact .refl _ _
  exact composeRows_frame _ _ _ _ _ _ _ opened rfl rfl

/-- The frame is the canvas's job, with the rows composed at its cut, and no other canvas changes. -/
theorem canGet_frameCut {c g : Nat} {env : CutEnv} {s : State} (hjob : (canGet s c).job = none) (hcommit : takeCommit c env.frame s = s) :
    ∃ fails fetched, ∀ d, canGet (frameCut c g env s) d = if d = c then { canGet s c with
      job := some { cutJob c g env s with fails := fails, fetched := fetched, rows := cutRows c env s }, taken := some env.frame }
      else canGet s d := by
  obtain ⟨fails, fetched, hj⟩ : ∃ fails fetched, (cutComposed c g env s).1 =
    { cutJob c g env s with fails := fails, fetched := fetched, rows := cutRows c env s } := composeRows_job ..
  have hu : ∀ d, canGet (cutComposed c g env s).2 d = _ := (cutComposed_agree c g env s).canGet rfl
  have hreport (b : Bool) (j : Compose) (t : State) (d : Nat) : canGet (if b then composeReport c j t else t) d = canGet t d := by
    cases b
    · rfl
    · exact (composeReport_agree c j t).canGet rfl d
  refine ⟨fails, fetched, fun d => ?_⟩
  rw [frameCut_eq hjob hcommit, hj]
  dsimp only
  rw [hreport, canUpd, canGet_canSet, hu, hu, canGet_canSet, canGet_canSet, if_pos rfl]
  split <;> rfl

/-! ### Commits take effect (R362) -/

/-- A commit that is due swaps the canvas's banks, and closes the pending one. -/
theorem takeCommit_due {c n : Nat} {s : State} {k : Commit}
    (h : (s.comp.commits.find? fun k => !k.done.contains c && k.mask.getLsbD c && decide (k.frame ≤ n)) = some k) :
    ∃ lives, canGet (takeCommit c n s) c =
      { canGet s c with active := (canGet s c).pend, pend := (canGet s c).active, closed := true, commitId := k.id, lives := lives } := by
  unfold takeCommit
  rw [h]
  exact ⟨_, (canGet_canSet c c _ s).trans (if_pos rfl)⟩

/-! ### CANVAS_CUT (R337) -/

theorem cutDeadline_frameMode {c g n row : Nat} {s : State} (h : (canGet s c).chase = false) :
    cutDeadline s c g n row = displayTime (flGet s g) n - 80000 := by
  simp [cutDeadline, h]

theorem exec_canvasCut {c : Nat} (env : CutEnv) (s : State) (hc : c < 64) : exec (.canvasCut c env) s = .next (canvasCut c env s) := by
  show Host.Outcome.next (canvasCut (c % 64) env s) = _
  rw [Nat.mod_eq_of_lt hc]

/-- A canvas's frames are composed: it is set, its domain is in service, the module is not in Bind-off. -/
structure Composes (c : Nat) (s : State) : Prop where
  set : (canGet s c).set = true
  domain : works s 9 = true
  mode : s.pwr.mode ≠ .bindOff

theorem canvasCut_out {c : Nat} (env : CutEnv) {s : State}
    (h : canvasGen s c = none ∨ (canGet s c).set = false ∨ works s 9 = false ∨ s.pwr.mode = .bindOff) : canvasCut c env s = s := by
  unfold canvasCut
  cases hg : canvasGen s c with
  | none => rfl
  | some g =>
    dsimp only
    rw [if_pos]
    obtain h | h | h := h.resolve_left (by simp [hg]) <;> simp [h]

section
variable {c g : Nat} {env : CutEnv} {s : State} (hg : canvasGen s c = some g)
include hg

/-- The cut of a frame-mode canvas that comes too early, too late, or for a frame that has been cut. -/
theorem canvasCut_untimely (hchase : (canGet s c).chase = false) (h : t0Ns s < cutTime (flGet s g) env.frame ∨
    displayTime (flGet s g) env.frame - 80000 < t0Ns s ∨ ∃ m, (canGet s c).taken = some m ∧ env.frame ≤ m) : canvasCut c env s = s := by
  unfold canvasCut
  rw [hg]
  dsimp only
  rw [if_pos]
  obtain h | h | ⟨m, hm, h⟩ := h
  · simp [hchase, h]
  · simp [cutDeadline_frameMode hchase, h]
  · simp [hchase, hm, h]

/-- A cut in its time, of a frame or row that has not been cut. -/
theorem canvasCut_timely (hcan : Composes c s) (hen : (flGet s g).en = true)
    (hdue : (if (canGet s c).chase then chaseCut s c env.frame env.row (canGet s c).active.lead else cutTime (flGet s g) env.frame) ≤ t0Ns s)
    (hdl : t0Ns s ≤ cutDeadline s c g env.frame env.row) (hrow : (canGet s c).chase = true → env.row < stitchN (canGet s c).h)
    (hfresh : ∀ m, (canGet s c).taken = some m → if (canGet s c).chase then m ≤ env.frame else m < env.frame) :
    canvasCut c env s = if (canGet s c).chase then chaseRow c env s else frameCut c g env s := by
  obtain ⟨hset, hworks, hmode⟩ := hcan
  have hrows : (decide (stitchN (canGet s c).h ≤ env.row) && (canGet s c).chase) = false := by
    cases hchase : (canGet s c).chase with
    | false => rw [Bool.and_false]
    | true => rw [decide_eq_false (Nat.not_le.mpr (hrow hchase)), Bool.false_and]
  unfold canvasCut
  rw [hg]
  dsimp only
  rw [if_neg]
  simp only [hset, hworks, hen, hrows, decide_eq_false (Nat.not_lt.mpr hdue), decide_eq_false (Nat.not_lt.mpr hdl)]
  cases htaken : (canGet s c).taken with
  | none => simp [hmode]
  | some m => cases hchase : (canGet s c).chase <;> simpa [hmode, hchase] using hfresh m htaken

end

/-! ### Deadlines (R110, R115) -/

theorem exec_composeDeadline {c : Nat} (s : State) (hc : c < 64) : exec (.composeDeadline c) s = .next (composeDeadline c s) := by
  show Host.Outcome.next (composeDeadline (c % 64) s) = _
  rw [Nat.mod_eq_of_lt hc]

theorem exec_chaseRowDeadline {c : Nat} (row : Nat) (s : State) (hc : c < 64) :
    exec (.chaseRowDeadline c row) s = .next (chaseRowDeadline c row s) := by
  show Host.Outcome.next (chaseRowDeadline (c % 64) row s) = _
  rw [Nat.mod_eq_of_lt hc]

/-- A frame that is abandoned: the canvas is left without a job, to show the frame before, and no other canvas changes. -/
theorem canGet_abandon (c : Nat) (j : Compose) (late : Nat) (s : State) (d : Nat) : canGet (abandon c j late s) d =
    if d = c then { canGet s c with
      job := none, rescan := some j.frame, rescanLate := (fellBack j).length
      slipReg := if (canGet s c).last.isSome then sat32 ((canGet s c).slipReg + 1) else (canGet s c).slipReg }
    else canGet s d := by
  have hreport (x : Canvas) : canGet (composeReport c j (canSet c x s)) d = if d = c then x else canGet s d :=
    ((composeReport_agree c j _).canGet rfl d).trans (canGet_canSet c d x s)
  unfold abandon
  dsimp only
  split
  · rw [(slippedEvent_agree ..).canGet rfl d, hreport]
  · rw [hreport]

theorem abandon_mem (c : Nat) (j : Compose) (late : Nat) (s : State) : (abandon c j late s).mem = s.mem :=
  (abandon_frame c j late s (Agree.refl { str := true, comp := true } s) rfl rfl).mem.resolve_left Bool.false_ne_true

/-- Without a job there is nothing to abandon. -/
theorem composeDeadline_idle {c : Nat} {s : State} (h : (canGet s c).job = none) : composeDeadline c s = s := by
  unfold composeDeadline
  simp only [h]

/-- Without a job there is no row to miss. -/
theorem chaseRowDeadline_idle {c : Nat} (row : Nat) {s : State} (hjob : (canGet s c).job = none) (htail : (canGet s c).tail = none) :
    chaseRowDeadline c row s = s := by
  unfold chaseRowDeadline
  simp only [hjob, htail, Option.bind_none]
  split
  · rfl
  · split <;> rfl

/-- A row that is due, neither written nor counted yet, is late. -/
theorem rowLate_due {c g row : Nat} {s : State} {j : Compose} (hrows : row ∉ j.rows) (hmissed : row ∉ j.missed)
    (hdl : cutDeadline s c g j.frame row ≤ t0Ns s) :
    rowLate s c g row j = some (j, Nat.max (t0Ns s - cutDeadline s c g j.frame row) (tget 0 j.lates row)) := by
  unfold rowLate
  dsimp only
  rw [if_neg (by simp [hrows, hmissed, hdl])]

theorem rowLate_none {c g row : Nat} {s : State} {j : Compose}
    (h : row ∈ j.rows ∨ row ∈ j.missed ∨ t0Ns s < cutDeadline s c g j.frame row) : rowLate s c g row j = none := by
  unfold rowLate
  dsimp only
  rw [if_pos (by simpa [or_assoc] using h)]

section
variable {c g : Nat} {s : State} {j : Compose} (hjob : (canGet s c).job = some j) (hg : canvasGen s c = some g)
include hjob hg

theorem composeDeadline_unfinished (hchase : (canGet s c).chase = false) (hfinish : j.finish = false)
    (hdl : cutDeadline s c g j.frame 0 ≤ t0Ns s) : ∃ late, composeDeadline c s = abandon c j late s := by
  refine ⟨Nat.max (t0Ns s - cutDeadline s c g j.frame 0) (tget 0 j.lates 0), ?_⟩
  unfold composeDeadline
  simp only [hjob, hg]
  rw [if_neg (by simp [hchase, hfinish, hdl])]

theorem composeDeadline_kept (h : j.finish = true ∨ t0Ns s < cutDeadline s c g j.frame 0) : composeDeadline c s = s := by
  unfold composeDeadline
  simp only [hjob, hg]
  rw [if_pos (by obtain h | h := h <;> simp [h])]

variable {row : Nat}

theorem chaseRowDeadline_missed (hchase : (canGet s c).chase = true) (htail : (canGet s c).tail = none)
    (hrow : row < stitchN (canGet s c).h) (hrows : row ∉ j.rows) (hmissed : row ∉ j.missed)
    (hdl : cutDeadline s c g j.frame row ≤ t0Ns s) : chaseRowDeadline c row s = canSet c { slipMore (canGet s c) 1 with
      job := some (missRow j row (Nat.max (t0Ns s - cutDeadline s c g j.frame row) (tget 0 j.lates row))) } s := by
  unfold chaseRowDeadline
  simp only [hg, hjob, htail, Option.bind_none, Option.bind_some, rowLate_due hrows hmissed hdl]
  rw [if_neg (by simp [hchase, hrow])]

theorem chaseRowDeadline_kept (htail : (canGet s c).tail = none)
    (h : row ∈ j.rows ∨ row ∈ j.missed ∨ t0Ns s < cutDeadline s c g j.frame row) : chaseRowDeadline c row s = s := by
  unfold chaseRowDeadline
  simp only [hg, hjob, htail, Option.bind_none, Option.bind_some, rowLate_none h, ite_self]

end

/-! ### Underruns (R366 to R369) -/

theorem exec_layerUnderrun {c : Nat} (slot row waited : Nat) (s : State) (hc : c < 64) :
    exec (.layerUnderrun c slot row waited) s = .next (layerUnderrun c slot row waited s) := by
  show Host.Outcome.next (layerUnderrun (c % 64) slot row waited s) = _
  rw [Nat.mod_eq_of_lt hc]

/-- An underrun of a layer that the row reads, the first of that layer in the frame, in a row after those written. -/
theorem layerUnderrun_recorded {c slot row waited : Nat} {s : State} {j : Compose} (hjob : (canGet s c).job = some j)
    (hreads : (bankLayers (canGet s c).active).any (fun r => lrSlot r == slot && lrAlpha r != 0 &&
      (List.range (stitchN (canGet s c).w)).any fun sx => contributes (canGet s c) r sx row) = true)
    (hnew : tfind slot j.under = none) (hlimit : (canGet s c).fetch * 1000 ≤ waited) (hrows : ∀ k ∈ j.rows, k < row) :
    layerUnderrun c slot row waited s =
      canSet c { canGet s c with job := some { j with under := j.under ++ [(slot, row, waited)] } } s := by
  have hagain : (j.rows.filter fun k => decide (row ≤ k)) = [] := by
    rw [List.filter_eq_nil_iff]
    exact fun k hk => by simpa using hrows k hk
  unfold layerUnderrun
  simp only [hjob, hreads, hagain, List.foldl_nil]
  rw [if_neg (by simp [hnew, hlimit])]

theorem layerUnderrun_none {c slot row waited : Nat} {s : State}
    (h : (canGet s c).job = none ∨ waited < (canGet s c).fetch * 1000) : layerUnderrun c slot row waited s = s := by
  unfold layerUnderrun
  cases hjob : (canGet s c).job with
  | none => simp only [hjob]
  | some j =>
    have hlimit : waited < (canGet s c).fetch * 1000 := h.resolve_left (by simp [hjob])
    simp only [hjob]
    exact if_pos (by simp [hlimit])

/-! ### The obligation -/

/-- Settles O47, clause by clause: when a cut comes to effect, what it leaves, a commit that is due, the two deadlines, and underruns. -/
theorem canvasFramesAreCutAndJudged : Obligations.CanvasFramesAreCutAndJudged := by
  unfold Obligations.CanvasFramesAreCutAndJudged
  refine ⟨fun c env s hc => ?cuts, fun c g env s hjob htail hcommits => ?opened, fun c n s k hk => ?commit,
    fun c s j g dl hc hjob hg => ?deadlines, fun c row s hc hjob htail => ?idle, fun c slot row waited s hc => ?underruns⟩
  case cuts =>
    rw [exec_canvasCut env s hc]
    refine ⟨fun h => ?_, fun g hg hchase h => ?_, fun g hg hchase hset hworks hmode hen hcut hdl hfresh => ?_,
      fun g hg hchase hset hworks hmode hen hrow hcut hdl hfresh => ?_⟩
    · rw [canvasCut_out env h]
    · rw [canvasCut_untimely hg hchase h]
    · rw [canvasCut_timely hg ⟨hset, hworks, hmode⟩ hen (by simpa [hchase] using hcut) (cutDeadline_frameMode hchase ▸ hdl)
        (by simp [hchase]) (by simpa [hchase] using hfresh), hchase]
      rfl
    · rw [canvasCut_timely hg ⟨hset, hworks, hmode⟩ hen (by simpa [hchase] using hcut) hdl (fun _ => hrow) (by simpa [hchase] using hfresh),
        if_pos hchase]
  case opened =>
    have hcommit := takeCommit_none hcommits
    obtain ⟨fails, fetched, hcan⟩ := canGet_frameCut (g := g) hjob hcommit
    have hself := (hcan c).trans (if_pos rfl)
    have hkeep := frameCut_frame c g env s (Agree.refl { mem := true, str := true, comp := true } s) rfl rfl rfl
    refine ⟨_, congrArg Canvas.job hself, rfl, rfl, rfl, rfl, ?_, fun hfinish => ?_, congrArg Canvas.taken hself, by rw [hself],
      hkeep.tb.resolve_left Bool.false_ne_true, hkeep.scan.resolve_left Bool.false_ne_true, fun d hd => (hcan d).trans (if_neg hd)⟩
    · simp only [cutJob, openJob, nextBuf, htail]
      cases (canGet s c).last <;> rfl
    · simp only [cutRows, hfinish, if_true]
  case commit =>
    obtain ⟨lives, h⟩ := takeCommit_due hk
    rw [h]
    exact ⟨rfl, rfl, rfl, rfl⟩
  case deadlines =>
    rw [exec_composeDeadline s hc]
    refine ⟨fun hdl hchase => ?_, fun row hdl hchase => ?_⟩
    · obtain rfl := hdl.trans (cutDeadline_frameMode (row := 0) hchase).symm
      refine ⟨fun hfinish hdue => ?_, fun h => by rw [composeDeadline_kept hjob hg h]⟩
      obtain ⟨late, h⟩ := composeDeadline_unfinished hjob hg hchase hfinish hdue
      have hcan := canGet_abandon c j late s
      have hself := (hcan c).trans (if_pos rfl)
      exact ⟨_, by rw [h], congrArg Canvas.job hself, congrArg Canvas.rescan hself, by rw [hself], abandon_mem ..,
        fun d hd => (hcan d).trans (if_neg hd)⟩
    · subst hdl
      rw [exec_chaseRowDeadline row s hc]
      refine ⟨fun hrow htail hrows hmissed hdue => ?_, fun htail h => by rw [chaseRowDeadline_kept hjob hg htail h]⟩
      rw [chaseRowDeadline_missed hjob hg hchase htail hrow hrows hmissed hdue]
      exact ⟨_, rfl, by simp [missRow], rfl, rfl⟩
  case idle =>
    rw [exec_composeDeadline s hc, exec_chaseRowDeadline row s hc, composeDeadline_idle hjob, chaseRowDeadline_idle row hjob htail]
    exact ⟨rfl, rfl⟩
  case underruns =>
    rw [exec_layerUnderrun slot row waited s hc]
    exact ⟨fun j hjob hreads hnew hlimit hrows => by rw [layerUnderrun_recorded hjob hreads hnew hlimit hrows],
      fun h => by rw [layerUnderrun_none h]⟩

end Sys2Proof.Machine
end

section
/-! SUPPORT. Output commands: what OUTPUT_SET keeps of its record; the refutation of the obligation about output commands, with the block and
the command that it fails on. -/

namespace Sys2Proof.Machine

/-- OUTPUT_SET of a lawful record for a disabled output keeps the record's eight words of Table 09-2, and not its reserved words (R8). -/
theorem exec_outputSet_stores {c : Cmd} {s : State} {r : List W32} (h : Taken 0x0500 c s) (hr : r = (wordsOf 16 (crec c)).take 8)
    (ho : orOutput r ≤ 47) (hen : (outGet s (orOutput r)).en = false) (hbad : outputBad (takeCmd c s) (orOutput r) r = none) :
    exec (.outputSet c) s = .next (answer 0x0500 c s (.ok []) (outSet (orOutput r) { outGet s (orOutput r) with rcd := r, pos := none }
      (takeCmd c s))) := by
  subst hr
  show Host.Outcome.next (hostCommand 0x0500 opOutputSet c s) = _
  rw [hostCommand_taken _ _ _ _ h]
  unfold opOutputSet
  dsimp only
  rw [checked_pass _ _ (by simp [hbad, hen, Nat.not_lt.mpr ho]), outUpd, outGet_takeCmd]

/-- A block in Ready and Run with a command waiting on ring 0 of PF0, canvas 0 of 64 by 64 pixels, and generator 0 at 60 frames/s. -/
def readyToScan : State :=
  { State.reset with
    hif := { State.reset.hif with fn0 := { rings := [(0, { en := true, prod := 1 }), (4, { en := true })] } }
    pwr := { State.reset.pwr with mode := .ready }
    boot := { State.reset.boot with step := 7 }
    tb := { State.reset.tb with fl := [(0, { en := true, num := 60 })] }
    comp := { State.reset.comp with canvases := [(0, { set := true, w := 64, h := 64 })] } }

/-- OUTPUT_SET on ring 0 of PF0: output 0 on canvas 0, one lane at 20 Gbit/s, 64 by 64 pixels of 400 by 128; a 1 in the last of the record's
reserved words. -/
def setWithReservedWord : Cmd :=
  { port := .pf0, w := [], record := some (wordBytes [0x6000, 0, 0x01900040, 0, 0x00800040, 0, 0, 0, 0, 0, 0, 0, 0, 0, 0, 1]) }

/-- Refutes O49: of a lawful record whose reserved words are not 0 the obligation asks that all sixteen words be stored, where OUTPUT_SET
keeps eight and ignores the reserved ones, as R8 has it. `setWithReservedWord` on `readyToScan` stores 0 as word 15, not 1. -/
theorem not_outputCommandsFollowTheirRules : ¬ Obligations.OutputCommandsFollowTheirRules := by
  unfold Obligations.OutputCommandsFollowTheirRules
  rintro ⟨hset, -⟩
  have htaken : Taken 0x0500 setWithReservedWord readyToScan := by decide +kernel
  obtain ⟨hstores, -⟩ := hset setWithReservedWord readyToScan _ _ 0 rfl htaken rfl (by decide +kernel) (by decide +kernel)
  have claimed := hstores (by decide +kernel) (by decide +kernel)
  have stored := exec_outputSet_stores htaken rfl (by decide +kernel) (by decide +kernel) (by decide +kernel)
  have houtput : orOutput ((wordsOf 16 (crec setWithReservedWord)).take 8) = 0 := by decide +kernel
  rw [houtput] at stored
  have word15 := congrArg (fun t => wd (outGet t 0).rcd 15) (Host.Outcome.next.inj (stored.symm.trans claimed))
  simp only [outGet_answer, outGet_outSet, if_true] at word15
  exact absurd word15 (by decide +kernel)

end Sys2Proof.Machine
end

section
/-! SUPPORT. Network commands: what an accepted or refused command of the ports, filters, control classes and flows leaves; the obligation
about them. -/

namespace Sys2Proof.Machine

/-! ### Commands and lanes -/

/-- A taken command is answered with its work's reply, on the block that its work leaves. -/
theorem hostCommand_answers {op : Nat} {f : Cmd → State → State × Reply} {c : Cmd} {s t : State} {r : Reply} (h : Taken op c s)
    (hf : f c (takeCmd c s) = (t, r)) : hostCommand op f c s = answer op c s r t := by
  rw [hostCommand_taken _ _ _ _ h, hf]

/-- An enable on lanes none of which is in state 6 takes effect at once (R700). -/
theorem laneEnable_warm {is : List Nat} {s : State} (target : Nat) (arg : List Nat) (work : State → State × Reply)
    (hcal : laneBroken s is = none) (hwarm : (is.filter fun i => laneState s i == 6) = []) :
    laneEnable is target arg work s = work s := by
  simp only [laneEnable, hcal, hwarm, List.isEmpty_nil, if_true]

/-- An enable on lanes some of which are in state 6 calibrates those first (R700). -/
theorem laneEnable_cold {is : List Nat} {s : State} (target : Nat) (arg : List Nat) (work : State → State × Reply)
    (hcal : laneBroken s is = none) (hcold : (is.filter fun i => laneState s i == 6) ≠ []) :
    laneEnable is target arg work s =
      ((is.filter fun i => laneState s i == 6).foldl (fun st i => laneEnter 3 5 i st) s, .later target arg) := by
  simp only [laneEnable, hcal, List.isEmpty_eq_false_iff.mpr hcold, Bool.false_eq_true, if_false]

/-! ### Tables -/

/-- Of two entries set for one number the later stands. -/
theorem tset_tset {α : Type} (k : Nat) (v w : α) (t : Tab α) : tset k v (tset k w t) = tset k v t := by
  induction t with
  | nil => simp [tset]
  | cons e t ih =>
    obtain ⟨a, b⟩ := e
    by_cases hk : k = a
    · simp [tset, hk]
    · by_cases hlt : k < a
      · simp [tset, hk, hlt]
      · simp [tset, hk, hlt, ih]

/-! ### Ports (R225 to R227, R271) -/

/-- A valid flow names a port of lane pair `k`. -/
def pairNamed (s : State) (k : Nat) : Bool := s.net.flows.any fun x => flValidB x.2.rcd && flPorts x.2.rcd / 2 ^ (2 * k) % 4 != 0

/-- Mode `m` of lane pair `k` changes nothing, or changes it under neither an enabled port nor a named flow. -/
def PairModeFree (k : Nat) (m : Bool) (s : State) : Prop :=
  m = pair100 s k ∨ ((netGet s (2 * k)).en = false ∧ (netGet s (2 * k + 1)).en = false ∧ pairNamed s k = false)

/-- NET_PORT_SET in a mode that the pair may take, of layers within Table 06-2 and with its domain on, enables the pair's lanes. -/
theorem opNetPortSet_accepted {c : Cmd} {s : State} (hmode : PairModeFree (fld (cw c 2) 1 0) (bitOf (cw c 2) 4) s)
    (hsecond : bitOf (cw c 2) 4 = true → bitOf (cw c 2) 9 = false)
    (hphy0 : phyOk (bitOf (cw c 2) 4) (fld (cw c 3) 3 0) (fld (cw c 3) 5 4) = true)
    (hphy1 : bitOf (cw c 2) 4 = false → phyOk (bitOf (cw c 2) 4) (fld (cw c 3) 11 8) (fld (cw c 3) 13 12) = true)
    (hdomain : (bitOf (cw c 2) 8 = true ∨ bitOf (cw c 2) 9 = true) → bitOf s.pwr.domains 4 = true ∧ bitOf s.pwr.iso 4 = false) :
    opNetPortSet c s = laneEnable (portLanes (fld (cw c 2) 1 0) (bitOf (cw c 2) 4) (bitOf (cw c 2) 8) (bitOf (cw c 2) 9)) 0
      [(cw c 2).toNat, (cw c 3).toNat] (fun s => (portApply (cw c 2) (cw c 3) s, .ok [])) s := by
  have mode : (bitOf (cw c 2) 4 != pair100 s (fld (cw c 2) 1 0) && ((netGet s (2 * fld (cw c 2) 1 0)).en ||
      (netGet s (2 * fld (cw c 2) 1 0 + 1)).en || pairNamed s (fld (cw c 2) 1 0))) = false := by
    obtain h | ⟨h0, h1, h2⟩ := hmode
    · simp [h]
    · simp [h0, h1, h2]
  have second : (bitOf (cw c 2) 4 && bitOf (cw c 2) 9) = false := by simpa using hsecond
  have phy : (!phyOk (bitOf (cw c 2) 4) (fld (cw c 3) 3 0) (fld (cw c 3) 5 4) ||
      (!bitOf (cw c 2) 4 && !phyOk (bitOf (cw c 2) 4) (fld (cw c 3) 11 8) (fld (cw c 3) 13 12))) = false := by
    simpa [hphy0] using hphy1
  have domain : ((bitOf (cw c 2) 8 || bitOf (cw c 2) 9) && (domainOff s 4).1) = false := by
    simpa [domainOff] using hdomain
  unfold pairNamed at mode
  unfold opNetPortSet
  dsimp only
  rw [checked_pass]
  simp only [mode, second, phy, domain, firstOf_false, firstOf_nil]

/-- A change of the pair's mode over its enabled first port is refused. -/
theorem opNetPortSet_modeHeld {c : Cmd} {s : State} (hmode : bitOf (cw c 2) 4 ≠ pair100 s (fld (cw c 2) 1 0))
    (hen : (netGet s (2 * fld (cw c 2) 1 0)).en = true) : opNetPortSet c s = (s, badField 8) := by
  unfold opNetPortSet
  dsimp only
  rw [checked_fail]
  simp [bne_iff_ne.mpr hmode, hen]

/-- A port that is not newly enabled, and whose link is down where it is disabled, takes its setting and nothing else. -/
theorem portSet_keeps {p : Nat} {en : Bool} {s : State} (phy fec : Nat) (hup : en = true ∨ (netGet s p).up = false)
    (hen : en = true → (netGet s p).en = true) :
    portSet p en phy fec s = netUpd p (fun x => { x with en := en, phy := phy, fec := fec }) s := by
  cases en with
  | true => simp [portSet, hen rfl]
  | false =>
    have hdown : (netGet s p).up = false := hup.resolve_left Bool.false_ne_true
    simp only [portSet, Bool.false_and, Bool.false_eq_true, if_false]
    exact netLink_same (by simpa using hdown)

/-- A port being enabled starts a statistics interval. -/
theorem portSet_starts {p : Nat} {s : State} (phy fec : Nat) (hen : (netGet s p).en = false) :
    portSet p true phy fec s = withNet s { s.net with
      ports := tset p { netGet s p with stats := [], en := true, phy := phy, fec := fec } s.net.ports,
      statsAt := tset p (t2Ns s) s.net.statsAt } := by
  have hstart : (true && !(netGet s p).en) = true := by simp [hen]
  simp only [portSet, hstart, if_true, statsStart]
  simp [netUpd, withNet, tupd, tset_tset, tget_tset, netGet]

/-- Of a lane pair whose ports take their settings and nothing else, mode and settings change. -/
theorem portApply_keeps {w2 : W32} {s : State} (w3 : W32) (hup0 : bitOf w2 8 = true ∨ (netGet s (2 * fld w2 1 0)).up = false)
    (hup1 : bitOf w2 9 = true ∨ (netGet s (2 * fld w2 1 0 + 1)).up = false)
    (hen0 : bitOf w2 8 = true → (netGet s (2 * fld w2 1 0)).en = true)
    (hen1 : bitOf w2 9 = true → (netGet s (2 * fld w2 1 0 + 1)).en = true) :
    portApply w2 w3 s = netUpd (2 * fld w2 1 0 + 1) (fun x => { x with en := bitOf w2 9, phy := fld w3 11 8, fec := fld w3 13 12 })
      (netUpd (2 * fld w2 1 0) (fun x => { x with en := bitOf w2 8, phy := fld w3 3 0, fec := fld w3 5 4 })
        (withNet s { s.net with mode100 := tset (fld w2 1 0) (bitOf w2 4) s.net.mode100 })) := by
  unfold portApply
  dsimp only
  have other (f : NetPort → NetPort) (u : State) :
      netGet (netUpd (2 * fld w2 1 0) f u) (2 * fld w2 1 0 + 1) = netGet u (2 * fld w2 1 0 + 1) := by
    rw [netGet_netUpd, if_neg (Nat.succ_ne_self _)]
  rw [portSet_keeps (fld w3 3 0) (fld w3 5 4) (by exact hup0) (by exact hen0), portSet_keeps]
  · rw [other]
    exact hup1
  · rw [other]
    exact hen1

/-! ### Filters (R230) -/

theorem opNetFilterSet_multicast {c : Cmd} (s : State) (h : bitOf (cw c 2) 8 = true) : opNetFilterSet c s =
    (netUpd (fld (cw c 2) 2 0) (fun x => { x with
      multicast := if bitOf (cw c 5) 0 then tset (fld (cw c 2) 19 16) (macOf (cw c 3) (cw c 4)) x.multicast
        else tdel (fld (cw c 2) 19 16) x.multicast }) s, .ok []) := by
  simp [opNetFilterSet, h, checked]

theorem opNetFilterSet_unicast {c : Cmd} (s : State) (h : bitOf (cw c 2) 8 = false) (hi : fld (cw c 2) 19 16 ≤ 3) : opNetFilterSet c s =
    (netUpd (fld (cw c 2) 2 0) (fun x => { x with
      unicast := if bitOf (cw c 5) 0 then tset (fld (cw c 2) 19 16) (macOf (cw c 3) (cw c 4)) x.unicast
        else tdel (fld (cw c 2) 19 16) x.unicast }) s, .ok []) := by
  simp [opNetFilterSet, h, checked, Nat.not_lt.mpr hi]

theorem opNetFilterSet_range {c : Cmd} (s : State) (h : bitOf (cw c 2) 8 = false) (hi : 3 < fld (cw c 2) 19 16) :
    opNetFilterSet c s = (s, badField 8) := by
  simp [opNetFilterSet, h, checked, hi]

/-! ### Control classes (R254, R733) -/

/-- PKTIN_CLASS_SET of values in range: the class refilled, then its settings, its tokens within the burst. -/
theorem opPktinClassSet_sets {c : Cmd} (s : State) {burst : Nat} (hk : (cw c 2).toNat ≤ 6) (hrate : (cw c 4).toNat ≤ 1000000)
    (hmax : (cw c 5).toNat ≤ 4096)
    (hburst : (if (cw c 5).toNat = 0 then (classDefault (cw c 2).toNat).burst else (cw c 5).toNat) = burst) :
    opPktinClassSet c s =
      (classSet (cw c 2).toNat { classRefill (classGet s (cw c 2).toNat) (t2Ns s) with
        fn := fld (cw c 3) 8 8, ring := fld (cw c 3) 0 0, rate := (cw c 4).toNat, burst := burst,
        tokens := Nat.min (classRefill (classGet s (cw c 2).toNat) (t2Ns s)).tokens (burst * 1000000000) } s, .ok []) := by
  subst hburst
  unfold opPktinClassSet
  dsimp only
  rw [checked_pass _ _ (by simp [Nat.not_lt.mpr hk, Nat.not_lt.mpr hrate, Nat.not_lt.mpr hmax])]

theorem opPktinClassSet_range {c : Cmd} (s : State) (hk : 6 < (cw c 2).toNat) : opPktinClassSet c s = (s, badField 8) := by
  unfold opPktinClassSet
  exact checked_fail _ _ (by simp [hk])

/-! ### Flows (R233 to R236, R280, R538) -/

/-- A port other than PF1, as the commands' checks of right ask for it. -/
theorem port_beq_pf1 {p : Port} (h : p ≠ .pf1) : (p == Port.pf1) = false := by
  cases p with
  | pf0 => rfl
  | pf1 => exact absurd rfl h
  | maint => rfl

@[simp] theorem flowBad_takeCmd (r : List Byte) (c : Cmd) (s : State) : flowBad r (takeCmd c s) = flowBad r s := by
  simp only [flowBad, strGet_takeCmd]

@[simp] theorem flowConflict_takeCmd (n : Nat) (r : List Byte) (c : Cmd) (s : State) :
    flowConflict n r (takeCmd c s) = flowConflict n r s := by
  simp only [flowConflict, takeCmd_net]

@[simp] theorem settleMerge_net (k : Nat) (s : State) : (settleMerge k s).net = s.net := rfl

/-- An entry of a stream that is not live has a field out of range. -/
theorem flowBad_of_not_live {r : List Byte} {s : State} (h : isLive (strGet s (flStream r)) = false) : ∃ x, flowBad r s = some x := by
  unfold flowBad
  dsimp only
  rw [h]
  cases (decide (3 < flKind r) || decide (1 < flVer r)) with
  | true => exact ⟨0, rfl⟩
  | false => exact ⟨4, rfl⟩

/-- FLOW_SET has nothing against record `r` for entry `n`: it empties the entry for a live stream, or is lawful and clashes with none. -/
def FlowLawful (n : Nat) (r : List Byte) (s : State) : Prop :=
  (flValidB r = false ∧ isLive (strGet s (flStream r)) = true) ∨
    (flValidB r = true ∧ flowBad r s = none ∧ flowConflict n r s = false)

section
variable {c : Cmd} {s : State} {r : List Byte} (hport : c.port ≠ .pf1) (hr : r = padB 64 (crec c))
include hport hr

theorem opFlowSet_notLive (hv : flValidB r = false) (hlive : isLive (strGet s (flStream r)) = false) :
    opFlowSet c s = (s, badRecord 4) := by
  subst hr
  unfold opFlowSet
  exact checked_fail _ _ (by simp [port_beq_pf1 hport, hv, hlive])

theorem opFlowSet_range {x : Nat} (hv : flValidB r = true) (hbad : flowBad r s = some x) : opFlowSet c s = (s, badRecord x) := by
  subst hr
  unfold opFlowSet
  exact checked_fail _ _ (by simp [port_beq_pf1 hport, hv, hbad])

variable {n : Nat} (hn : n = fld (cw c 4) 9 0)
include hn

theorem opFlowSet_clash (hv : flValidB r = true) (hbad : flowBad r s = none) (hclash : flowConflict n r s = true) :
    opFlowSet c s = (s, badRecord 0) := by
  subst hr hn
  unfold opFlowSet
  exact checked_fail _ _ (by simp [port_beq_pf1 hport, hv, hbad, hclash])

/-- What FLOW_SET stores: the record at its index, after what the entry held has given up its stream (R236). -/
theorem opFlowSet_stores (h : FlowLawful n r s) : ∃ k v,
    opFlowSet c s = (settleMerge (flStream r) (settleMerge k
      (withNet v { v.net with flows := tset n { rcd := r } v.net.flows })), .ok []) ∧
      (tfind n s.net.flows = none → k = flStream r ∧ v = s) := by
  subst hr hn
  unfold opFlowSet
  dsimp only
  rw [checked_pass]
  · refine ⟨_, _, rfl, fun hnone => ?_⟩
    simp only [hnone, Bool.false_eq_true, if_false, and_self]
  · obtain ⟨hv, hlive⟩ | ⟨hv, hbad, hclash⟩ := h
    · simp [port_beq_pf1 hport, hv, hlive]
    · simp [port_beq_pf1 hport, hv, hbad, hclash]

end

/-- PF1 may not set an entry of a stream that it has not opened. -/
theorem opFlowSet_noRight {c : Cmd} {s : State} (hport : c.port = .pf1)
    (hopener : (strGet s (flStream (padB 64 (crec c)))).opener ≠ .pf1) : opFlowSet c s = (s, .no 2 0) := by
  unfold opFlowSet
  exact checked_fail _ _ (by simp [hport, port_beq_pf1 hopener, noRight])

/-- What FLOW_CLEAR leaves: the entry empty, after what it held has given up its stream (R236). -/
theorem opFlowClear_clears {c : Cmd} {s : State} {n : Nat} (hport : c.port ≠ .pf1) (hn : n = fld (cw c 4) 9 0) : ∃ t,
    opFlowClear c s = (t, .ok []) ∧ tfind n t.net.flows = none ∧
      (tfind n s.net.flows = none → t = withNet s { s.net with flows := tdel n s.net.flows }) := by
  subst hn
  unfold opFlowClear
  dsimp only
  rw [checked_pass _ _ (by simp [port_beq_pf1 hport])]
  refine ⟨_, rfl, ?_, fun hnone => by simp [hnone, flowMoved]⟩
  split <;> simp [tfind_tdel]

/-- PF1 may not clear an entry of a stream that it has not opened. -/
theorem opFlowClear_noRight {c : Cmd} {s : State} (hport : c.port = .pf1)
    (hopener : ∀ x, tfind (fld (cw c 4) 9 0) s.net.flows = some x → (strGet s (flStream x.rcd)).opener ≠ .pf1) :
    opFlowClear c s = (s, .no 2 0) := by
  unfold opFlowClear
  refine checked_fail _ _ ?_
  cases hold : tfind (fld (cw c 4) 9 0) s.net.flows with
  | none => simp [hport, noRight]
  | some x => simp [hport, port_beq_pf1 (hopener x hold), noRight]

/-! ### The obligation -/

/-- Settles O40, clause by clause: ports, filters, control classes and the flow table. -/
theorem networkCommandsSetTheirTables : Obligations.NetworkCommandsSetTheirTables := by
  unfold Obligations.NetworkCommandsSetTheirTables
  refine ⟨?ports, ?pairs, fun p phy fec s h => portSet_starts phy fec h, ?filters, ?classes, ?flowSet, ?flowClear, ?flowClearRight,
    fun n m x t h => ⟨(tfind_tset ..).trans (if_neg h), (tfind_tdel ..).trans (if_neg h)⟩⟩
  case ports =>
    rintro c s u k m e0 e1 w w2 xs hu ht rfl rfl rfl rfl rfl rfl hsecond hphy0 hphy1 hdomain hcal rfl
    have hpwr : u.pwr = s.pwr := by rw [hu, takeCmd_pwr]
    have hnet : u.net = s.net := by rw [hu, takeCmd_net]
    subst hu
    refine ⟨fun hmode => ?_, fun hmode hen => congrArg _ (hostCommand_answers ht (opNetPortSet_modeHeld ?_ ?_))⟩
    · have accepted := opNetPortSet_accepted (s := takeCmd c s)
        (by simpa only [PairModeFree, pairNamed, pair100, netGet, hnet] using hmode) hsecond hphy0 hphy1 (by rwa [hpwr])
      exact ⟨fun hwarm => congrArg _ (hostCommand_answers ht (accepted.trans (laneEnable_warm _ _ _ hcal hwarm))),
        fun hcold => congrArg _ (hostCommand_answers ht (accepted.trans (laneEnable_cold _ _ _ hcal hcold)))⟩
    · simpa only [pair100, hnet] using hmode
    · simpa using hen
  case pairs =>
    rintro w2 w3 s k rfl hup0 hup1 hen0 hen1
    exact portApply_keeps w3 hup0 hup1 hen0 hen1
  case filters =>
    rintro c s u p i mac rfl ht rfl rfl rfl
    exact ⟨fun h => congrArg _ (hostCommand_answers ht (opNetFilterSet_multicast _ h)),
      fun h hi => congrArg _ (hostCommand_answers ht (opNetFilterSet_unicast _ h hi)),
      fun h hi => congrArg _ (hostCommand_answers ht (opNetFilterSet_range _ h hi))⟩
  case classes =>
    rintro c s u k x rfl ht rfl rfl
    rw [← classGet_takeCmd c s, ← t2Ns_takeCmd c s]
    refine ⟨fun hk hrate hmin hmax => ?_, fun hk hrate h0 => ?_,
      fun hk => congrArg _ (hostCommand_answers ht (opPktinClassSet_range _ hk))⟩
    · exact congrArg _ (hostCommand_answers ht (opPktinClassSet_sets _ hk hrate hmax (if_neg (by omega))))
    · exact congrArg _ (hostCommand_answers ht (opPktinClassSet_sets _ hk hrate (by simp [h0]) (if_pos (by simp [h0]))))
  case flowSet =>
    rintro c s u n r rfl ht hn hr
    refine ⟨fun hport hv hlive => ?_, fun hport h => ?_, fun x hport hv hbad => ?_, fun _ hlive => flowBad_of_not_live hlive,
      fun hport hv hbad hclash => ?_, fun hport hopener => ?_⟩
    · exact congrArg _ (hostCommand_answers ht (opFlowSet_notLive (by simp [hport]) hr hv (by simpa using hlive)))
    · obtain ⟨k, v, hop, hfresh⟩ := opFlowSet_stores (s := takeCmd c s) (by simp [hport]) hr hn (by simpa [FlowLawful] using h)
      refine ⟨_, congrArg _ (hostCommand_answers ht hop), tfind_tset_same .., fun hnone => ?_⟩
      obtain ⟨rfl, rfl⟩ := hfresh (by simpa using hnone)
      rw [takeCmd_net]
    · exact congrArg _ (hostCommand_answers ht (opFlowSet_range (by simp [hport]) hr hv (by simpa using hbad)))
    · exact congrArg _ (hostCommand_answers ht (opFlowSet_clash (by simp [hport]) hr hn hv (by simpa using hbad) (by simpa using hclash)))
    · exact congrArg _ (hostCommand_answers ht (opFlowSet_noRight hport (by simpa [hr] using hopener)))
  case flowClear =>
    rintro c s u n rfl ht hn hport
    obtain ⟨t, hop, hempty, hnone⟩ := opFlowClear_clears (s := takeCmd c s) (by simp [hport]) hn
    exact ⟨t, congrArg _ (hostCommand_answers ht hop), hempty, by simpa using hnone⟩
  case flowClearRight =>
    rintro c s n ht rfl hport hopener
    exact congrArg _ (hostCommand_answers ht (opFlowClear_noRight hport (by simpa using hopener)))

end Sys2Proof.Machine
end

section
/-! SUPPORT. Baseband inputs: what their commands, the copy of an image, a link, an AUX transaction and a frame leave; the obligation about
them. -/

namespace Sys2Proof.Machine

/-! ### Quads (R259) -/

@[simp] theorem inputLanes_takeCmd (c : Cmd) (s : State) (n : Nat) : inputLanes (takeCmd c s) n = inputLanes s n := by
  simp only [inputLanes, quadSplit, takeCmd_bb]

/-- The four inputs of a quad with their default images, as they stand at cast-on. -/
def quadReset (q : Nat) (s : State) : State := (List.range 4).foldl (fun st j => bbSet (4 * q + j) {} st) s

theorem bbGet_quadReset (q n : Nat) (s : State) : bbGet (quadReset q s) n = if n / 4 = q then {} else bbGet s n := by
  simp only [quadReset, List.range_succ, List.range_zero, List.nil_append, List.cons_append, List.foldl_cons, List.foldl_nil, bbGet_bbSet]
  by_cases hq : n / 4 = q
  · have inQuad : n = 4 * q + 3 ∨ n = 4 * q + 2 ∨ n = 4 * q + 1 ∨ n = 4 * q + 0 := by omega
    obtain rfl | rfl | rfl | rfl := inQuad <;> simp [hq]
  · rw [if_neg hq, if_neg (by omega), if_neg (by omega), if_neg (by omega), if_neg (by omega)]

/-- Of the block only the baseband units change. -/
theorem quadReset_other (q : Nat) (b : BbUnit) (s : State) :
    quadReset q { s with bb := b } = { s with bb := (quadReset q { s with bb := b }).bb } := rfl

/-- BB_QUAD_SET of a quad without an enabled input. -/
theorem opBbQuadSet_splits {c : Cmd} {s : State} (hoff : ∀ j, j < 4 → (bbGet s (4 * fld (cw c 2) 1 0 + j)).en = false) :
    opBbQuadSet c s = (quadReset (fld (cw c 2) 1 0)
      { s with bb := { s.bb with splits := tset (fld (cw c 2) 1 0) (fld (cw c 2) 5 4) s.bb.splits } }, .ok []) := by
  have hnone : ((List.range 4).find? fun j => (bbGet s (4 * fld (cw c 2) 1 0 + j)).en) = none := by
    simpa [List.find?_eq_none] using hoff
  unfold opBbQuadSet
  dsimp only
  rw [checked_pass _ _ (by simp [hnone])]
  rfl

/-- BB_QUAD_SET names the first enabled input of its quad as the holder. -/
theorem opBbQuadSet_held {c : Cmd} {s : State} {j : Nat} (hj : j < 4) (hon : (bbGet s (4 * fld (cw c 2) 1 0 + j)).en = true)
    (hfirst : ∀ i, i < j → (bbGet s (4 * fld (cw c 2) 1 0 + i)).en = false) :
    opBbQuadSet c s = (s, held 0xFF (4 * fld (cw c 2) 1 0 + j)) := by
  have hsome : ((List.range 4).find? fun j => (bbGet s (4 * fld (cw c 2) 1 0 + j)).en) = some j := by
    rw [List.find?_range_eq_some]
    exact ⟨hon, List.mem_range.mpr hj, fun i hi => by simp [hfirst i hi]⟩
  unfold opBbQuadSet
  exact checked_fail _ _ (by simp [hsome])

/-! ### Inputs that exist (R261, R262, R264, R700) -/

/-- An input that its quad's split gives lanes. -/
theorem noInput_eq_false {s : State} {n : Nat} (hn : n ≤ 15) (hlanes : inputLanes s n ≠ 0) : noInput s n = false := by
  simp [noInput, Nat.not_lt.mpr hn, hlanes]

/-- A link that is not trained does not end. -/
theorem bbEnd_untrained {n : Nat} {s : State} (h : (bbGet s n).trained = false) : bbEnd n s = s := if_neg (by simp [h])

section
variable {c : Cmd} {s : State} {n : Nat} (hn : n = (cw c 4).toNat) (hinput : noInput s n = false)
include hn hinput

theorem opBbDpcdLoad_waits (hwhich : (cw c 5).toNat ≤ 1) (hoff : (bbGet s n).en = false) :
    opBbDpcdLoad c s = (s, .later n [(cw c 5).toNat, (cw c 6).toNat]) := by
  subst hn
  unfold opBbDpcdLoad bbNo
  dsimp only
  rw [checked_pass _ _ (by simp [hinput, Nat.not_lt.mpr hwhich, hoff])]

theorem opBbEnable_domainOff (hdomain : bitOf s.pwr.domains 5 = false) : opBbEnable c s = (s, held 0xFF 5) := by
  subst hn
  unfold opBbEnable bbNo
  exact checked_fail _ _ (by simp [hinput, domainOff, hdomain])

theorem opBbEnable_warm (hdomain : bitOf s.pwr.domains 5 = true) (hiso : bitOf s.pwr.iso 5 = false)
    (hlanes : ∀ j, j < inputLanes s n → (laneGet s (48 + n + j)).cal = true ∧ laneState s (48 + n + j) ≠ 6) :
    opBbEnable c s = (bbSet n { bbGet s n with en := true, ihpd := true } s, .ok []) := by
  subst hn
  unfold opBbEnable bbNo
  dsimp only
  rw [checked_pass _ _ (by simp [hinput, domainOff, hdomain, hiso]), laneEnable_warm]
  · rfl
  · simpa [laneBroken, List.find?_eq_none] using fun j hj => (hlanes j hj).1
  · simpa [List.filter_eq_nil_iff] using fun j hj => (hlanes j hj).2

theorem opBbDisable_untrained (htrained : (bbGet s n).trained = false) : opBbDisable c s =
    (bbSet n { bbGet s n with en := false, ihpd := false, d3 := false, dpcd := [], i2cOfs := 0, i2cSeg := 0 } s, .ok []) := by
  subst hn
  unfold opBbDisable bbNo
  dsimp only
  rw [checked_pass _ _ (by simp [hinput]), bbEnd_untrained htrained]
  rfl

end

/-! ### The copy of an image (R261, R262, R535) -/

/-- The data of a BB_DPCD_LOAD are judged as an image for the input that it named. -/
theorem loadEnd_dpcd {s : State} {o : Outst} (d : List Byte) (ho : loadOutst s = some o) (hop : o.opcode = 0x0206) :
    loadEnd (some d) s = loadReply o (dpcdLoaded o.target (o.arg.getD 0 0) (o.arg.getD 1 0) d s).2
      (dpcdLoaded o.target (o.arg.getD 0 0) (o.arg.getD 1 0) d s).1 := by
  simp only [loadEnd, ho, loadApply, hop]

theorem dpcdLoaded_badCrc {crc : Nat} {image : List Byte} (n which : Nat) (s : State) (h : crc32c image ≠ crc) :
    dpcdLoaded n which crc image s = (s, badField 24) := by
  unfold dpcdLoaded
  exact checked_fail _ _ (by simp [bne_iff_ne.mpr h])

theorem dpcdLoaded_edid {crc : Nat} {image : List Byte} (n : Nat) (s : State) (h : crc32c image = crc) :
    dpcdLoaded n 1 crc image s = (bbSet n { bbGet s n with edid := some image } s, .ok []) := by
  unfold dpcdLoaded
  exact checked_pass _ _ (by simp [h])

theorem dpcdLoaded_cap {crc : Nat} {image : List Byte} (n : Nat) (s : State) (h : crc32c image = crc) (hcap : capBad image = none) :
    dpcdLoaded n 0 crc image s = (bbSet n { bbGet s n with cap := some image } s, .ok []) := by
  unfold dpcdLoaded
  exact checked_pass _ _ (by simp [h, hcap])

/-! ### Links (R264, R268, R270, R281) -/

@[simp] theorem inputUser_bbLink (n st m : Nat) (s : State) : inputUser (bbLink n st s) m = inputUser s m := by
  simp only [inputUser, bbLink, raise_str]

@[simp] theorem inputUser_bbSet (n m : Nat) (x : BbIn) (s : State) : inputUser (bbSet n x s) m = inputUser s m := rfl

/-- An input that no stream names takes no stream with it. -/
theorem inputLost_unused {n : Nat} {s : State} (h : inputUser s n = none) : inputLost n s = s := by
  simp only [inputLost, h]

theorem bbTrained_accepted {n lanes rate : Nat} {s : State} (hen : (bbGet s n).en = true) (hhpd : (bbGet s n).ihpd = true)
    (hworks : works s 5 = true) (hinput : noInput s n = false) (hmin : 1 ≤ lanes) (hmax : lanes ≤ inputLanes s n) (hrate : rate ≤ 6)
    (huser : inputUser s n = none) : bbTrained n lanes rate s =
      bbLink n 1 (bbSet n { bbGet s n with trained := true, lanes := lanes, rate := rate, prevArrival := none } s) := by
  unfold bbTrained
  rw [if_neg (by simp [hen, hhpd, hworks, hinput, outside, Nat.one_le_iff_ne_zero.mp hmin, hmax, hrate])]
  simp only [bbUpd, inputUser_bbLink, inputUser_bbSet, huser]

theorem bbTrained_ignored {n lanes : Nat} {s : State} (rate : Nat) (h : (bbGet s n).en = false ∨ inputLanes s n < lanes) :
    bbTrained n lanes rate s = s := by
  unfold bbTrained
  rw [if_pos]
  obtain h | h := h <;> simp [h, outside]

theorem bbLoss_lost {n : Nat} {s : State} (htrained : (bbGet s n).trained = true) (huser : inputUser s n = none) : bbLoss n true s =
    send (.ihpdPulse n) (bbLink n 0 (bbSet n { bbGet s n with trained := false, d3 := false, prevArrival := none } s)) := by
  simp only [bbLoss, bbEnd, htrained, if_true, bbUpd]
  rw [inputLost_unused (by simpa using huser)]

theorem bbLoss_untrained {n : Nat} {s : State} (h : (bbGet s n).trained = false) : bbLoss n true s = s := by
  simp [bbLoss, h]

theorem bbLoss_status {n : Nat} {s : State} (hen : (bbGet s n).en = true) (hhpd : (bbGet s n).ihpd = true) (hworks : works s 5 = true) :
    bbLoss n false s = send (.ihpdPulse n) (bbLink n 4 s) := by
  simp [bbLoss, hen, hhpd, hworks]

theorem bbLoss_disabled {n : Nat} {s : State} (h : (bbGet s n).en = false) : bbLoss n false s = s := by
  simp [bbLoss, h]

/-! ### The AUX responder (R261, R263, R264) -/

theorem bbSet_bbSet (n : Nat) (x y : BbIn) (s : State) : bbSet n x (bbSet n y s) = bbSet n x s := by
  simp only [bbSet, tset_tset]

/-- An input replaced by itself: every input is as it was. -/
theorem bbGet_bbSet_self (n m : Nat) (s : State) : bbGet (bbSet n (bbGet s n) s) m = bbGet s m := by
  rw [bbGet_bbSet]
  split
  · next h => rw [h]
  · rfl

/-- Writes to addresses outside the responder's own registers leave the file as it is. -/
theorem dpcdPut_others {addr : Nat} {data : List Byte} (i : BbIn) (h : ∀ j, j < data.length → dpcdOwn (addr + j) = false) :
    (List.range data.length).foldl (fun y j => dpcdPut (addr + j) (data.getD j 0) y) i = i := by
  refine List.foldlRecOn (motive := fun y => y = i) _ _ rfl fun y hy j hj => ?_
  rw [dpcdPut, h j (List.mem_range.mp hj), if_neg Bool.false_ne_true, hy]

theorem bbAux_disabled {n : Nat} {s : State} (x : AuxTrans) (h : (bbGet s n).en = false) : bbAux n x s = s := by
  simp [bbAux, h]

/-- The responder of an input answers: the input is enabled and has lanes, and its domain works. -/
structure Responds (n : Nat) (s : State) : Prop where
  en : (bbGet s n).en = true
  domain : works s 5 = true
  lanes : inputLanes s n ≠ 0

section
variable {n : Nat} {s : State} {x : AuxTrans} (hs : Responds n s) (hlen : x.len ≤ 16)
include hs hlen

/-- Nothing keeps the responder from serving a transaction of up to 16 bytes. -/
theorem Responds.guard : ¬ (!(bbGet s n).en || !works s 5 || inputLanes s n = 0 || 16 < x.len) = true := by
  simp [hs.en, hs.domain, hs.lanes, hlen]

/-- An I2C read of the EDID: the image's bytes from the offset on; the offset moves on, and the segment stays while the transaction does. -/
theorem bbAux_edidRead {e : List Byte} (hnative : x.native = false) (hwrite : x.write = false) (haddr : x.addr = 0x50)
    (he : (bbGet s n).edid = some e) : bbAux n x s =
      send (.auxReply n ((List.range x.len).map fun j => e.getD ((bbGet s n).i2cSeg * 256 + ((bbGet s n).i2cOfs + j) % 256) 0))
        (bbSet n { bbGet s n with
          i2cOfs := ((bbGet s n).i2cOfs + x.len) % 256, i2cSeg := if x.mot then (bbGet s n).i2cSeg else 0 } s) := by
  unfold bbAux
  dsimp only
  rw [if_neg (hs.guard hlen)]
  cases hmot : x.mot <;> simp [hnative, hwrite, haddr, he, i2cEnd, hmot, bbUpd, bbSet_bbSet]

/-- A native write to addresses of which none is the responder's own is acknowledged, and kept nowhere. -/
theorem bbAux_writeIgnored (hnative : x.native = true) (hwrite : x.write = true) (hdata : x.data.length ≤ x.len)
    (hown : ∀ j, j < x.data.length → dpcdOwn (x.addr + j) = false) : bbAux n x s = send (.auxReply n []) (bbSet n (bbGet s n) s) := by
  have hpower : (decide (x.addr ≤ 0x600) && decide (0x600 < x.addr + x.data.length)) = false := by
    refine eq_false_of_ne_true fun hin => ?_
    obtain ⟨hlo, hhi⟩ : x.addr ≤ 0x600 ∧ 0x600 < x.addr + x.data.length := by simpa using hin
    have h600 := hown (0x600 - x.addr) (by omega)
    rw [Nat.add_sub_cancel' hlo] at h600
    exact absurd h600 (by decide)
  unfold bbAux
  dsimp only
  rw [if_neg (hs.guard hlen)]
  simp only [hnative, hwrite, if_true, List.take_of_length_le hdata, hpower, Bool.false_eq_true, if_false, bbUpd, dpcdPut_others _ hown]

end

/-! ### Frames (R265 to R269) -/

theorem bbFrame_ignored {n : Nat} {s : State} (f : BbFrame)
    (h : (bbGet s n).en = false ∨ (bbGet s n).trained = false ∨ (bbGet s n).d3 = true) : bbFrame n f s = s := by
  unfold bbFrame
  dsimp only
  rw [if_pos]
  obtain h | h | h := h <;> simp [h]

/-- An input takes frames: it is enabled, its link is trained and not in D3, its domain works, Bind-off has not begun, and all its lanes
serve it. -/
structure TakesFrames (n : Nat) (s : State) : Prop where
  en : (bbGet s n).en = true
  trained : (bbGet s n).trained = true
  awake : (bbGet s n).d3 = false
  domain : works s 5 = true
  mode : s.pwr.mode ≠ .bindOff
  input : noInput s n = false
  lanes : ∀ i ∈ inputLaneList s n, laneOut s i = false

/-- The block once a frame of a supported format is stored, where a live stream names its input. -/
def bbKept (n : Nat) (f : BbFrame) (s : State) : State :=
  match inputUser s n with
  | some k => if (strGet s k).st != 1 then s else bbStore n k f s
  | none => s

section
variable {n : Nat} {f : BbFrame} {s : State} (hs : TakesFrames n s) (hformat : bbExcluded s n f = false)
  (hold : (bbGet s n).unsupported = false)
include hs hformat hold

/-- A frame of a supported format, as the one before it was, is stored, and its arrival and scan are noted. -/
theorem bbFrame_supported : bbFrame n f s =
    bbUpd n (fun x => { x with prevArrival := some (bbArrival f s), interlaced := f.interlaced }) (bbKept n f s) := by
  have hmode : (s.pwr.mode == .bindOff) = false := by
    cases h : s.pwr.mode with
    | bindOff => exact absurd h hs.mode
    | _ => rfl
  have hlanes : (inputLaneList s n).any (laneOut s) = false := by simpa using hs.lanes
  have hevent : formatEvent n false f s = s := if_pos (by simp [hold])
  unfold bbFrame
  dsimp only
  rw [if_neg (by simp [hs.en, hs.trained, hs.awake, hs.domain, hmode, hs.input, hlanes]), hformat, hevent]
  unfold bbKept
  cases inputUser s n <;> rfl

theorem bbFrame_unused (huser : inputUser s n = none) : bbFrame n f s =
    bbSet n { bbGet s n with prevArrival := some (bbArrival f s), interlaced := f.interlaced } s := by
  rw [bbFrame_supported hs hformat hold, bbKept, huser]
  rfl

theorem bbFrame_stored {k : Nat} (huser : inputUser s n = some k) (hlive : (strGet s k).st = 1) : bbFrame n f s =
    bbUpd n (fun x => { x with prevArrival := some (bbArrival f s), interlaced := f.interlaced }) (bbStore n k f s) := by
  rw [bbFrame_supported hs hformat hold, bbKept, huser]
  simp only [hlive, bne_self_eq_false, Bool.false_eq_true, if_false]

end

/-! ### The obligation -/

/-- Settles O42, clause by clause: quads, the commands of an input, the copy of an image, links, the responder and frames. -/
theorem basebandInputsFollowTheirRules : Obligations.BasebandInputsFollowTheirRules := by
  unfold Obligations.BasebandInputsFollowTheirRules
  refine ⟨?quads, ?commands, fun s o d ho hop => ?loads, ?links, ?responder, fun n x s h => congrArg _ (bbAux_disabled x h), ?frames⟩
  case quads =>
    rintro c s u q rfl ht rfl
    refine ⟨fun hoff => ⟨_, congrArg _ (hostCommand_answers ht (opBbQuadSet_splits (by simpa using hoff))), quadReset_other .., ?_,
      fun r hr => ?_, fun j hj => ?_, fun n hn => ?_⟩, fun j hj hon hfirst => ?_⟩
    · exact (tget_tset ..).trans (if_pos rfl)
    · refine (tget_tset_other _ hr ..).trans ?_
      rw [takeCmd_bb, quadSplit]
    · rw [bbGet_quadReset, if_pos (by omega)]
    · rw [bbGet_quadReset, if_neg hn]
      exact bbGet_takeCmd c s n
    · exact congrArg _ (hostCommand_answers ht (opBbQuadSet_held hj (by simpa using hon) (by simpa using hfirst)))
  case commands =>
    rintro c s u n rfl hn hrange hlanes
    have hinput : noInput (takeCmd c s) n = false := noInput_eq_false hrange (by simpa using hlanes)
    rw [← bbGet_takeCmd c s]
    refine ⟨fun ht hwhich hoff => ?_, fun ht hdomain hiso hready => ?_, fun ht hdomain => ?_, fun ht htrained => ?_⟩
    · exact congrArg _ (hostCommand_answers ht (opBbDpcdLoad_waits hn hinput hwhich hoff))
    · exact congrArg _ (hostCommand_answers ht
        (opBbEnable_warm hn hinput (by simpa using hdomain) (by simpa using hiso) (by simpa using hready)))
    · exact congrArg _ (hostCommand_answers ht (opBbEnable_domainOff hn hinput (by simpa using hdomain)))
    · exact congrArg _ (hostCommand_answers ht (opBbDisable_untrained hn hinput htrained))
  case loads =>
    have hload := loadEnd_dpcd d ho hop
    refine ⟨fun hcrc => congrArg Host.Outcome.next ?_, fun hcrc hwhich => congrArg Host.Outcome.next ?_,
      fun hcrc hwhich hcap => congrArg Host.Outcome.next ?_⟩
    · rw [hload, dpcdLoaded_badCrc _ _ _ hcrc]
      rfl
    · rw [hload, hwhich, dpcdLoaded_edid _ _ hcrc]
      rfl
    · rw [hload, hwhich, dpcdLoaded_cap _ _ hcrc hcap]
      rfl
  case links =>
    intro n lanes rate s
    exact ⟨fun hen hhpd hworks hn hmin hmax hrate huser => congrArg _
        (bbTrained_accepted hen hhpd hworks (noInput_eq_false hn (by omega)) hmin hmax hrate huser),
      fun h => congrArg _ (bbTrained_ignored rate h), fun htrained huser => congrArg _ (bbLoss_lost htrained huser),
      fun h => congrArg _ (bbLoss_untrained h), fun hen hhpd hworks => congrArg _ (bbLoss_status hen hhpd hworks),
      fun h => congrArg _ (bbLoss_disabled h)⟩
  case responder =>
    intro n x s e hen hworks hlanes hlen
    have hs : Responds n s := ⟨hen, hworks, hlanes⟩
    exact ⟨fun hnative hwrite haddr he => congrArg _ (bbAux_edidRead hs hlen hnative hwrite haddr he),
      fun hnative hwrite hdata hown => ⟨_, congrArg _ (bbAux_writeIgnored hs hlen hnative hwrite hdata hown),
        fun m => bbGet_bbSet_self n m s, rfl⟩⟩
  case frames =>
    intro n f s
    refine ⟨fun h => congrArg _ (bbFrame_ignored f h), fun hen htrained hawake hworks hmode hn hlanes hlanesOk hformat hold => ?_⟩
    have hs : TakesFrames n s := ⟨hen, htrained, hawake, hworks, hmode, noInput_eq_false hn hlanes, hlanesOk⟩
    exact ⟨fun huser => congrArg _ (bbFrame_unused hs hformat hold huser),
      fun k huser hlive => congrArg _ (bbFrame_stored hs hformat hold huser hlive)⟩

end Sys2Proof.Machine
end

section
/-! SUPPORT. The decode cluster: how engines retire, are tested and take work, what a decoded picture, a watchdog, a stall, the meter and
standing taint leave; the obligation about them. -/

namespace Sys2Proof.Machine

/-! ### Engines and streams apart -/

@[simp] theorem engGet_strSet (k n : Nat) (e : StreamE) (s : State) : engGet (strSet k e s) n = engGet s n := rfl
@[simp] theorem strGet_engSet (n k : Nat) (x : Engine) (s : State) : strGet (engSet n x s) k = strGet s k := rfl

theorem engGet_engUpd (n m : Nat) (f : Engine → Engine) (s : State) :
    engGet (engUpd n f s) m = if m = n then f (engGet s n) else engGet s m := engGet_engSet ..

/-- Engines are looked up in one table. -/
theorem engGet_congr {s t : State} (h : t.str.engines = s.str.engines) (n : Nat) : engGet t n = engGet s n := by
  rw [engGet, engGet, h]

/-! ### Engines that leave service (R309, R310) -/

@[simp] theorem coreState_str (n st cause shed : Nat) (s : State) : (coreState n st cause shed s).str = s.str := raise_str ..

theorem setStream_engines (k st cause : Nat) (s : State) : (setStream k st cause s).str.engines = s.str.engines := by
  rw [setStream, raise_str]
  rfl

theorem settleHomes_engines (s : State) : (settleHomes s).1.str.engines = s.str.engines :=
  List.foldlRecOn (motive := fun acc : State × Bool => acc.1.str.engines = s.str.engines) _ _ rfl fun acc hacc k _ => by
    cases rehome acc.1 k <;> exact hacc

theorem shedLoop_engines (fuel n : Nat) (s : State) : (shedLoop fuel n s).1.str.engines = s.str.engines := by
  induction fuel generalizing n s with
  | zero => rfl
  | succ fuel ih =>
    have hsettled := settleHomes_engines s
    unfold shedLoop
    dsimp only
    split
    · exact hsettled
    · split
      · exact hsettled
      · rw [ih, ← hsettled]
        exact setStream_engines ..

/-- Of the engines, only the one that is retired changes: streams are rehomed and shed, and contexts given up, among streams alone. -/
theorem retireDone_engines (n cause : Nat) (s : State) : (retireDone n cause s).str.engines =
    (engUpd n (fun x => { x with st := 2, cause := cause, job := none, held := [] }) s).str.engines := by
  unfold retireDone
  dsimp only
  rw [coreState_str, shedLoop_engines]
  exact List.foldlRecOn (motive := fun t : State => t.str.engines = _) _ _ rfl fun _ ht _ _ => ht

theorem engGet_retireDone (n cause m : Nat) (s : State) : engGet (retireDone n cause s) m =
    if m = n then { engGet s n with st := 2, cause := cause, job := none, held := [] } else engGet s m := by
  rw [engGet_congr (retireDone_engines n cause s) m, engGet_engUpd]

theorem retireDone_mem (n cause : Nat) (s : State) : (retireDone n cause s).mem = s.mem :=
  (retireDone_frame (m := { str := true }) n cause s (.refl _ s) rfl).mem.resolve_left Bool.false_ne_true

/-- The block once engine `n` retires for the host: RETIRING is reported. -/
def retiring (n : Nat) (s : State) : State := coreState n 1 1 0 (engSet n { engGet s n with st := 1, cause := 1 } s)

theorem engGet_retiring (n m : Nat) (s : State) :
    engGet (retiring n s) m = if m = n then { engGet s n with st := 1, cause := 1 } else engGet s m :=
  (engGet_raise ..).trans (engGet_engSet ..)

theorem retiring_mem (n : Nat) (s : State) : (retiring n s).mem = s.mem := raise_mem ..

section
variable {c : Cmd} {s : State} {n : Nat} (hn : n = fld (cw c 4) 4 0)
include hn

section
variable (hrange : n ≤ 23) (hst : (engGet s n).st = 0)
  (hserved : (s.str.ents.any fun x => x.2.st == 1 && decodes x.2 && !widthServed s n (recWidth x.2.rcd)) = false)
include hrange hst hserved

theorem opCoreRetire_retires :
    opCoreRetire c s = (if (engGet s n).job.isNone then retireStep n (retiring n s) else retiring n s, .ok []) := by
  subst hn
  unfold opCoreRetire
  dsimp only
  rw [checked_pass _ _ (by simp [hst, hserved, Nat.not_lt.mpr hrange])]
  rfl

theorem opCoreRetire_atWork {j : Job} (hjob : (engGet s n).job = some j) : opCoreRetire c s = (retiring n s, .ok []) := by
  rw [opCoreRetire_retires hn hrange hst hserved, hjob]
  rfl

theorem opCoreRetire_idle (hjob : (engGet s n).job = none) (hheld : (engGet s n).held = []) :
    opCoreRetire c s = (retireDone n 1 (retiring n s), .ok []) := by
  have hengine : engGet (retiring n s) n = { engGet s n with st := 1, cause := 1 } := (engGet_retiring ..).trans (if_pos rfl)
  rw [opCoreRetire_retires hn hrange hst hserved, hjob, Option.isNone_none, if_pos rfl, retireStep, hengine, hheld]

end

theorem opCoreRetire_outOfService (hst : (engGet s n).st ≠ 0) : opCoreRetire c s = (s, badField 16) := by
  subst hn
  unfold opCoreRetire
  exact checked_fail _ _ (by rw [bne_iff_ne.mpr hst, Bool.or_true, firstOf_true])

theorem opCoreReturn_tests (hrange : n ≤ 23) (hst : (engGet s n).st = 2 ∨ (engGet s n).st = 4) :
    opCoreReturn c s = (coreState n 3 4 0 (engSet n { engGet s n with st := 3, cause := 4 } s), .ok []) := by
  subst hn
  unfold opCoreReturn
  dsimp only
  have hout : ((engGet s (fld (cw c 4) 4 0)).st == 2 || (engGet s (fld (cw c 4) 4 0)).st == 4) = true := by simpa using hst
  rw [checked_pass _ _ (by simp [hout, Nat.not_lt.mpr hrange, -Bool.not_or])]
  rfl

theorem opCoreReturn_inService (hst : (engGet s n).st = 0) : opCoreReturn c s = (s, badField 16) := by
  subst hn
  unfold opCoreReturn
  exact checked_fail _ _ (by simp [hst])

end

/-! ### Self-tests (R312) -/

theorem coreTested_passed {n : Nat} {s : State} (hst : (engGet s n).st = 3) (hshed : s.str.shed = []) :
    coreTested n true s = coreState n 0 4 0 (engSet n {} s) := by
  have hnone : (engSet n {} s).str.shed = [] := hshed
  simp [coreTested, hst, readmit, hnone]

theorem coreTested_failed {n : Nat} {s : State} (hst : (engGet s n).st = 3) :
    coreTested n false s = coreState n 4 4 0 (engSet n { engGet s n with st := 4 } s) := by
  simp [coreTested, hst, engUpd]

theorem coreTested_ignored {n : Nat} {s : State} (pass : Bool) (hst : (engGet s n).st ≠ 3) : coreTested n pass s = s :=
  if_pos (by simpa using hst)

/-! ### Dispatch (R287, R288; the width of a ready frame by log 18) -/

/-- Among frames to start, the best pick is the frame of the best key. -/
theorem bestPick_starts (l : List (Nat × (Nat × Nat × Nat))) :
    bestPick (l.map fun x => (Pick.start x.1, x.2)) = (bestOf l).map Pick.start := by
  cases l with
  | nil => rfl
  | cons x xs =>
    rw [List.map_cons, bestPick, bestOf, List.foldl_map, Option.map_some]
    refine congrArg (fun y : Pick × (Nat × Nat × Nat) => some y.1)
      (List.foldl_hom (fun y : Nat × (Nat × Nat × Nat) => (Pick.start y.1, y.2)) (fun b y => ?_))
    dsimp only
    split <;> rfl

theorem dispatch_busy {n : Nat} {s : State} (h : engFree s n = false) : dispatch n s = s := if_pos (by simp [h])

/-- A free row pipeline that nothing is reserved on, and that holds no context, starts the pooled frame of the best key. -/
theorem dispatch_rowPipeline {n k : Nat} {s : State} (hrp : n < 16) (hfree : engFree s n = true) (hgang : gangOf s n = none)
    (hpins : pinnedTo s n = []) (hheld : (engGet s n).held = [])
    (hbest : bestOf ((readyList s).filter fun x =>
      isPooled (strGet s x.1) && takesPooled s n (readyWidth s x.1) (strGet s x.1).rcd) = some k) :
    dispatch n s = startJob k [n] false s := by
  have hpick : bestPick (picks s n (fun k => isPooled (strGet s k) && takesPooled s n (readyWidth s k) (strGet s k).rcd) fun _ => true) =
      some (.start k) := by
    rw [picks, hheld, List.filter_nil, List.map_nil, List.append_nil, bestPick_starts, hbest, Option.map_some]
  simp [dispatch, hfree, hgang, hpins, hpick, isRp, hrp]

/-- The job of a stream's access unit on one engine. -/
def soloJob (k n : Nat) (a : AccUnit) (s : State) : Job :=
  { stream := k, au := a.num, startedAt := t2Ns s, borrowed := false, gang := [n],
    loaded := (strGet s k).ctxAt.isNone || (strGet s k).ctxAt != some n }

/-- The stream whose access unit starts on engine `n`, which then holds its context. -/
def startedOn (n : Nat) (a : AccUnit) (e : StreamE) : StreamE :=
  { e with ctxAt := some n, aus := e.aus.map fun b => if b.num = a.num then { b with started := true, waitAt := none } else b }

theorem startJob_solo {k n : Nat} {a : AccUnit} {s : State} (h : readyAu (strGet s k) = some a) : startJob k [n] false s =
    engUpd n (fun x => { x with job := some (soloJob k n a s) }) (strUpd k (startedOn n a) s) := by
  unfold startJob
  dsimp only
  rw [h]
  rfl

theorem startedOn_started {n : Nat} {a b : AccUnit} {e : StreamE} (hb : b ∈ (startedOn n a e).aus) (hnum : b.num = a.num) :
    b.started = true := by
  obtain ⟨b₀, -, rfl⟩ := List.mem_map.mp hb
  split at hnum
  case isTrue h => rw [if_pos h]
  case isFalse h => exact absurd hnum h

/-! ### Pre-emption (R289, R290) -/

theorem blockRow_idle {n : Nat} {s : State} (h : (engGet s n).job = none) : blockRow n s = s := by
  rw [blockRow, h]

section
variable {n : Nat} {s : State} {j : Job} (hjob : (engGet s n).job = some j)
include hjob

theorem blockRow_outOfService (hst : (engGet s n).st ≠ 0) : blockRow n s = s := by
  rw [blockRow, hjob]
  exact if_pos (by simpa using hst)

/-- On an engine that nothing is reserved on, a frame of class 2 or 3 yields to a ready pooled one of class 0 or 1, and no other does. -/
theorem blockRow_unreserved (hpins : pinnedTo s n = []) (hgang : gangOf s n = none) (hst : (engGet s n).st = 0) : blockRow n s =
    if 2 ≤ runClass s (strGet s j.stream) && (readyList s).any fun x => runClass s (strGet s x.1) < 2 && isPooled (strGet s x.1) &&
        takesAlone s n (readyWidth s x.1) (strGet s x.1).rcd
    then dispatch n (preemptPool j s) else s := by
  simp [blockRow, hjob, hpins, hgang, hst]

theorem blockRow_urgent (hpins : pinnedTo s n = []) (hgang : gangOf s n = none) (hclass : runClass s (strGet s j.stream) < 2) :
    blockRow n s = s := by
  by_cases hst : (engGet s n).st = 0
  · rw [blockRow_unreserved hjob hpins hgang hst, if_neg (by simp [Nat.not_le.mpr hclass])]
  · exact blockRow_outOfService hjob hst

theorem blockRow_yields (hpins : pinnedTo s n = []) (hgang : gangOf s n = none) (hst : (engGet s n).st = 0)
    (hclass : 2 ≤ runClass s (strGet s j.stream))
    (hready : ∃ x ∈ readyList s, runClass s (strGet s x.1) < 2 ∧ isPooled (strGet s x.1) = true ∧
      takesAlone s n (readyWidth s x.1) (strGet s x.1).rcd = true) : blockRow n s = dispatch n (preemptPool j s) := by
  rw [blockRow_unreserved hjob hpins hgang hst, if_pos (by simpa [hclass, and_assoc] using hready)]

end

theorem blockRow_nothingReady {n : Nat} {s : State} (h : readyList s = []) : blockRow n s = s := by
  unfold blockRow
  cases (engGet s n).job with
  | none => rfl
  | some j => cases gangOf s n <;> simp [h]

/-! ### Pictures (R293, R297, R307) -/

theorem pictureDone_idle {n : Nat} {s : State} (p : DecPicture) (h : (engGet s n).job = none) : pictureDone n p s = s := by
  rw [pictureDone, h]

theorem engineWatchdog_idle {n : Nat} {s : State} (p : DecPicture) (h : (engGet s n).job = none) : engineWatchdog n p s = s := by
  rw [engineWatchdog, h]

/-- Engine `n` works at job `j`, on access unit `a` of its stream. -/
structure WorksAt (n : Nat) (j : Job) (a : AccUnit) (s : State) : Prop where
  job : (engGet s n).job = some j
  unit : ((strGet s j.stream).aus.find? fun b => b.num == j.au) = some a

/-- A unit that goes on being decoded loses no reference slot. -/
theorem unitBegins_same {a : AccUnit} {e : StreamE} (h : e.lastAu = some a.num) : unitBegins a e = e := if_pos (by simp [h])

/-- The cores of a gang that take part in a picture. -/
def pictureCores (j : Job) (p : DecPicture) : List Nat := j.gang.take (Nat.max 1 p.pieces)

/-- The times of an engine's watchdogs within the last 60 s, with one now. -/
def watchdogs (n : Nat) (s : State) : List Nat :=
  ((engGet s n).wdogs.filter fun x => s.tb.t2.sec.toNat < x + 60) ++ [s.tb.t2.sec.toNat]

/-- The block after a picture of a job: after the last one of the access unit the job ends. -/
def pictureEnds (j : Job) (a : AccUnit) (p : DecPicture) (s : State) : State :=
  if p.last then endJob j (strUpd j.stream (unitEnds a) s) else s

theorem pictureEnds_last {p : DecPicture} (h : p.last = true) (j : Job) (a : AccUnit) (s : State) :
    pictureEnds j a p s = endJob j (strUpd j.stream (unitEnds a) s) := if_pos h

theorem pictureEnds_more {p : DecPicture} (h : p.last = false) (j : Job) (a : AccUnit) (s : State) : pictureEnds j a p s = s :=
  if_neg (by simp [h])

section
variable {n : Nat} {p : DecPicture} {s : State} {j : Job} {a : AccUnit} (h : WorksAt n j a s)
include h

theorem pictureDone_contextFailed (hctx : p.contextFailed = true) (hloaded : j.loaded = true) : pictureDone n p s =
    refreshWanted j.stream (decodeError j.stream 6 n a.num 0 (strUpd j.stream discardToRap (endJob j s))) := by
  simp [pictureDone, h.job, h.unit, hctx, hloaded]

theorem pictureDone_unsupported (hctx : p.contextFailed = false) (hshow : p.showSlot = none)
    (hbad : pictureUnsupported (strGet s j.stream) p = true) (hst : (strGet s j.stream).st ≠ 3) : pictureDone n p s =
    setStream j.stream 3 4 (decodeError j.stream 4 n a.num 0 (strUpd j.stream discardToRap (endJob j s))) := by
  simp [pictureDone, h.job, h.unit, hctx, hshow, hbad, hst]

theorem pictureDone_stored {slot : Nat} (hctx : p.contextFailed = false) (hshow : p.showSlot = none)
    (hgood : pictureUnsupported (strGet s j.stream) p = false) (hslot : decSlot s j.stream = some slot)
    (hst : (strGet s j.stream).st ≠ 3) : pictureDone n p s = retireBad (pictureCores j p) (pictureEnds j a p
      (coreRuns j.stream (pictureCores j p) p.faults (storePicture n j a p [] [] slot s))) := by
  simp [pictureDone, h.job, h.unit, hctx, hshow, hgood, hslot, hst, pictureCores, pictureEnds]

theorem pictureDone_shown {q : Nat} {x : RefSlot} (hctx : p.contextFailed = false) (hfmt : strFormat (strGet s j.stream) = 2)
    (hshow : p.showSlot = some q) (hx : tfind q (strGet s j.stream).slots = some x) (hkept : x.lost = false)
    (hlast : (strGet s j.stream).lastAu = some a.num) : pictureDone n p s =
    pictureEnds j a p (showPicture j.stream x.pic (detected p.faults) a (strUpd j.stream (unitBegins a) s)) := by
  have hagain : showAgain j.stream q (detected p.faults) a (strUpd j.stream (unitBegins a) s) =
      showPicture j.stream x.pic (detected p.faults) a (strUpd j.stream (unitBegins a) s) := by
    simp [showAgain, unitBegins_same hlast, hx, hkept]
  simp [pictureDone, h.job, h.unit, hctx, hfmt, hshow, hagain, pictureEnds]

theorem engineWatchdog_early (htime : t2Ns s < j.startedAt + 4 * strPeriodNs (strGet s j.stream)) : engineWatchdog n p s = s := by
  rw [engineWatchdog, h.job]
  exact if_pos htime

theorem engineWatchdog_stored {slot : Nat} (hslot : decSlot s j.stream = some slot)
    (hgood : pictureUnsupported (strGet s j.stream) p = false) (htime : j.startedAt + 4 * strPeriodNs (strGet s j.stream) ≤ t2Ns s)
    (hfew : (watchdogs n s).length < 3) : engineWatchdog n p s =
    engUpd n (fun x => { x with wdogs := watchdogs n s }) (endJob j (storePicture n j a p
      ((stitches { base := 0, fmt := 0, w := p.w, h := p.h }).filter fun q => !p.written.contains q) [5] slot s)) := by
  unfold watchdogs at hfew ⊢
  simp only [engineWatchdog, h.job, h.unit, hslot, hgood, Nat.not_lt.mpr htime, Nat.not_le.mpr hfew, decide_false, Bool.false_and,
    Bool.false_eq_true, if_false]

end

/-! ### Stalls (R300) -/

/-- A ready unit stays ready when its list changes otherwise than by a start. -/
theorem readyAu_replaced {e : StreamE} {a b : AccUnit} {as : List AccUnit} (bs : List AccUnit) (haus : e.aus = a :: as)
    (h : readyAu e = some a) (hb : b.started = a.started) : readyAu { e with aus := b :: bs } = some b := by
  obtain ⟨hdec, hidle⟩ : decodes e = true ∧ a.started = false := by simpa [readyAu, haus] using h
  have hdec' : decodes { e with aus := b :: bs } = true := hdec
  simp [readyAu, hdec', hb, hidle]

/-- Changing the units of one number in a list of which only the first has it. -/
theorem map_first_unit (f : AccUnit → AccUnit) {a : AccUnit} {as : List AccUnit} (h : ∀ b ∈ as, b.num ≠ a.num) :
    ((a :: as).map fun b => if b.num = a.num then f b else b) = f a :: as := by
  rw [List.map_cons, if_pos rfl, List.map_congr_left fun b hb => if_neg (h b hb), List.map_id']

section
variable {k : Nat} {s : State}

theorem auWait_unneeded (h : readyAu (strGet s k) = none ∨ decSlot s k ≠ none) : auWait k s = s := by
  unfold auWait
  cases hau : readyAu (strGet s k) with
  | none => rfl
  | some a =>
    have hslot : decSlot s k ≠ none := h.resolve_left (by simp [hau])
    simp [hslot]

theorem decodeStall_unneeded (h : readyAu (strGet s k) = none ∨ decSlot s k ≠ none) : decodeStall k s = s := by
  unfold decodeStall
  rw [auWait_unneeded h]
  cases hau : readyAu (strGet s k) with
  | none => simp only [hau]
  | some a =>
    have hslot : decSlot s k ≠ none := h.resolve_left (by simp [hau])
    cases hwait : a.waitAt <;> simp [hau, hslot, hwait]

variable {a : AccUnit} {as : List AccUnit} (haus : (strGet s k).aus = a :: as) (hready : readyAu (strGet s k) = some a)
  (hslot : decSlot s k = none) (hnum : ∀ b ∈ as, b.num ≠ a.num)
include haus hready hslot hnum

theorem auWait_begins (hwait : a.waitAt = none) :
    auWait k s = strSet k { strGet s k with aus := { a with waitAt := some (t2Ns s) } :: as } s := by
  simp only [auWait, hready, hwait, hslot, Option.isNone_none, Bool.and_self, if_true]
  rw [strUpd, haus, map_first_unit (fun b => { b with waitAt := some (t2Ns s) }) hnum]

theorem decodeStall_begins (hwait : a.waitAt = none) (hperiod : 0 < strPeriodNs (strGet s k)) :
    decodeStall k s = strSet k { strGet s k with aus := { a with waitAt := some (t2Ns s) } :: as } s := by
  have hwaiting := readyAu_replaced as haus hready (b := { a with waitAt := some (t2Ns s) }) rfl
  unfold decodeStall
  rw [auWait_begins haus hready hslot hnum hwait]
  simp only [strGet_strSet, if_true, hwaiting]
  refine if_neg fun hdue => ?_
  have hover : t2Ns s + strPeriodNs (strGet s k) ≤ t2Ns s := of_decide_eq_true (Bool.and_eq_true_iff.mp hdue).2
  omega

theorem decodeStall_reports {x : Nat} (hwait : a.waitAt = some x) (hquiet : a.stalled = false)
    (htime : x + strPeriodNs (strGet s k) ≤ t2Ns s) :
    decodeStall k s = raise 0x1D [pack [(31, 24, k)], w32 (strGet s k).nextFrame]
      (strSet k { strGet s k with aus := { a with stalled := true } :: as } s) := by
  have hsame : auWait k s = s := by simp [auWait, hready, hwait]
  simp only [decodeStall, hsame, hready, hwait, hslot, hquiet, htime, Option.isNone_none, Bool.not_false, decide_true, Bool.and_self,
    if_true]
  rw [strUpd, haus, map_first_unit (fun b => { b with stalled := true }) hnum, hwait]

end

/-! ### Standing taint (R306) -/

theorem refreshDue_repeats {k t : Nat} {s : State} (htaint : (strGet s k).taintAt = some t) (hlive : isLive (strGet s k) = true)
    (htime : (strGet s k).refreshAt ≤ t2Ns s) : refreshDue k s = refreshWanted k
      (strSet k { strGet s k with refreshAt := (strGet s k).refreshAt + recRefresh (strGet s k).rcd * 1000000 } s) := by
  simp [refreshDue, htaint, hlive, htime, strUpd]

theorem refreshDue_early {k : Nat} {s : State} (h : (strGet s k).taintAt = none ∨ t2Ns s < (strGet s k).refreshAt) :
    refreshDue k s = s := by
  unfold refreshDue
  refine if_neg ?_
  obtain hclean | htime := h
  · simp [hclean]
  · simp [Nat.not_le.mpr htime]

/-! ### The meter (R294) -/

/-- A stream judged by the meter in second `sec` of T2. -/
def metered (sec : Nat) (e : StreamE) : StreamE :=
  { e with demoted := e.demoted || (isLive e && e.meterSec == sec && fmtCoded (strFormat e) && overrate e) }

theorem overrateOne_meters (s : State) (k j : Nat) :
    strGet (overrateOne s k) j = if j = k then metered s.tb.t2.sec.toNat (strGet s k) else strGet s j := by
  unfold overrateOne
  dsimp only
  split
  case isTrue hover =>
    simp only [Bool.and_eq_true, Bool.not_eq_true'] at hover
    obtain ⟨⟨⟨⟨hlive, hsec⟩, -⟩, hfmt⟩, hrate⟩ := hover
    simp [strUpd, metered, hlive, hsec, hfmt, hrate]
  case isFalse hover =>
    have hsame : metered s.tb.t2.sec.toNat (strGet s k) = strGet s k := by
      unfold metered
      cases hdem : (strGet s k).demoted with
      | true => rw [Bool.true_or, ← hdem]
      | false =>
        rw [hdem, Bool.not_false, Bool.and_true, Bool.not_eq_true] at hover
        rw [hover, Bool.false_or, ← hdem]
    rw [hsame]
    split
    case isTrue hj => rw [hj]
    case isFalse => rfl

theorem meterStreams_other (n : Nat) (s : State) : Agree { str := true } s ((List.range n).foldl overrateOne s) :=
  agree_foldl (fun t k ht => overrateOne_frame t k ht rfl) (.refl _ s)

/-- Each of the first streams is judged once. -/
theorem meterStreams_meters (n k : Nat) (s : State) : strGet ((List.range n).foldl overrateOne s) k =
    if k < n then metered s.tb.t2.sec.toNat (strGet s k) else strGet s k := by
  induction n generalizing k with
  | zero => rfl
  | succ n ih =>
    have htb : ((List.range n).foldl overrateOne s).tb = s.tb := (meterStreams_other n s).tb.resolve_left Bool.false_ne_true
    rw [List.range_succ, List.foldl_append, List.foldl_cons, List.foldl_nil, overrateOne_meters, htb, ih, ih]
    obtain hlt | rfl | hgt := Nat.lt_trichotomy k n
    · rw [if_neg (Nat.ne_of_lt hlt), if_pos hlt, if_pos (Nat.lt_succ_of_lt hlt)]
    · rw [if_pos rfl, if_neg (Nat.lt_irrefl k), if_pos (Nat.lt_succ_self k)]
    · rw [if_neg (Nat.ne_of_gt hgt), if_neg (by omega), if_neg (by omega)]

/-! ### References and samples (R278, R301) -/

/-- A slot that counts as missing gives no reference without an identifier. -/
theorem resolveRef_lost {e : StreamE} {r : RefEntry} {x : RefSlot} (hfmt : strFormat e = 2) (hx : tfind r.key.toNat e.slots = some x)
    (hid : r.id = none) (hlost : x.lost = true) : resolveRef e r = none := by
  simp [resolveRef, hfmt, hx, hid, hlost]

theorem grained_none {p : DecPicture} (c x y v : Nat) (h : p.grain = none) : grained p c x y v = v := by
  rw [grained, h]

theorem grained_some {p : DecPicture} {seed : Nat} {ps : List Nat} (c x y v : Nat) (h : p.grain = some (seed, ps)) :
    grained p c x y v = Config.filmGrain seed ps c (y * p.w + x) v % (if p.depth10 then 1024 else 256) := by
  rw [grained, h]

/-! ### The obligation -/

/-- Settles O44, clause by clause: engines that leave and re-enter service, the work that a free engine takes, pre-emption, pictures and
watchdogs, stalls and standing taint, the meter, references and samples. -/
theorem enginesTakeAndFinishWork : Obligations.EnginesTakeAndFinishWork := by
  unfold Obligations.EnginesTakeAndFinishWork
  refine ⟨?commands, ?tests, ?work, ?pictures, ?stalls, fun s => ?meter, fun e r x hfmt hx hid hlost => resolveRef_lost hfmt hx hid hlost,
    fun p c x y v => ⟨grained_none c x y v, fun seed ps => grained_some c x y v⟩⟩
  case commands =>
    rintro c s u n rfl hn hrange
    rw [← engGet_takeCmd c s]
    refine ⟨fun ht hst hheld hserved => ⟨fun j hj => ?_, fun hidle => ?_⟩,
      fun ht hst => congrArg _ (hostCommand_answers ht (opCoreRetire_outOfService hn hst)),
      fun ht hst => congrArg _ (hostCommand_answers ht (opCoreReturn_tests hn hrange hst)),
      fun ht hst => congrArg _ (hostCommand_answers ht (opCoreReturn_inService hn hst))⟩
    · exact congrArg _ (hostCommand_answers ht (opCoreRetire_atWork hn hrange hst (by simpa using hserved) hj))
    · refine ⟨retireDone n 1 (retiring n (takeCmd c s)), congrArg Host.Outcome.next
        (hostCommand_answers ht (opCoreRetire_idle hn hrange hst (by simpa using hserved) hidle hheld)), ?_⟩
      have hretired := (engGet_retireDone n 1 n (retiring n (takeCmd c s))).trans (if_pos rfl)
      refine ⟨by rw [hretired], by rw [hretired], by rw [hretired], fun m hm => ?_, ?_⟩
      · rw [engGet_retireDone, if_neg hm, engGet_retiring, if_neg hm, engGet_takeCmd]
      · rw [retireDone_mem, retiring_mem, takeCmd_mem]
  case tests =>
    intro n s
    exact ⟨fun hst hshed => congrArg _ (coreTested_passed hst hshed), fun hst => congrArg _ (coreTested_failed hst),
      fun b hst => congrArg _ (coreTested_ignored b hst)⟩
  case work =>
    intro n s
    refine ⟨fun h => congrArg _ (dispatch_busy h), fun k a hrp hfree hgang hpins hready hbest hheld => ?_,
      fun h => congrArg _ (blockRow_idle h), fun h => congrArg _ (blockRow_nothingReady h),
      fun j hj hst => congrArg _ (blockRow_outOfService hj hst),
      fun j hj hpins hgang hclass => congrArg _ (blockRow_urgent hj hpins hgang hclass),
      fun j hj hpins hgang hst hclass h => congrArg _ (blockRow_yields hj hpins hgang hst hclass h)⟩
    refine ⟨_, congrArg Host.Outcome.next
      ((dispatch_rowPipeline hrp hfree hgang hpins hheld hbest).trans (startJob_solo hready)), ?_⟩
    refine ⟨?_, ?_, fun m hm => ?_, fun i hi => ?_, fun b hb hnum => ?_, rfl⟩
    · rw [engGet_engUpd, if_pos rfl]
      rfl
    · rw [engUpd, strGet_engSet, strGet_strUpd_same]
      rfl
    · rw [engGet_engUpd, if_neg hm]
      rfl
    · exact (streamOnly_strUpd ..).others i hi
    · rw [engUpd, strGet_engSet, strGet_strUpd_same] at hb
      exact startedOn_started hb hnum
  case pictures =>
    intro n p s
    refine ⟨fun h => ⟨congrArg _ (pictureDone_idle p h), congrArg _ (engineWatchdog_idle p h)⟩, ?_⟩
    rintro j a e hjob rfl ha
    have h : WorksAt n j a s := ⟨hjob, ha⟩
    refine ⟨fun hctx hloaded => congrArg _ (pictureDone_contextFailed h hctx hloaded),
      fun hctx hshow hbad hst => congrArg _ (pictureDone_unsupported h hctx hshow hbad hst),
      fun slot hctx hshow hlast hgood hslot hst => congrArg Host.Outcome.next ?stored,
      fun slot hctx hshow hlast hgood hslot hst => congrArg Host.Outcome.next ?storedMore,
      fun q x hctx hfmt hshow hlast hfaults hx hkept hsame => congrArg Host.Outcome.next ?shown,
      fun htime => congrArg _ (engineWatchdog_early h htime), ?watchdog⟩
    case stored =>
      exact (pictureDone_stored h hctx hshow hgood hslot hst).trans (congrArg (retireBad _) (pictureEnds_last hlast ..))
    case storedMore =>
      exact (pictureDone_stored h hctx hshow hgood hslot hst).trans (congrArg (retireBad _) (pictureEnds_more hlast ..))
    case shown =>
      rw [pictureDone_shown h hctx hfmt hshow hx hkept hsame, pictureEnds_last hlast, hfaults]
      rfl
    case watchdog =>
      rintro slot dogs hslot hgood htime rfl hfew
      exact congrArg _ (engineWatchdog_stored h hslot hgood htime hfew)
  case stalls =>
    rintro k s e rfl
    exact ⟨fun h => congrArg _ (decodeStall_unneeded h),
      fun a as haus hready hslot hwait hperiod hnum => congrArg _ (decodeStall_begins haus hready hslot hnum hwait hperiod),
      fun a as x haus hready hslot hwait hquiet htime hnum => congrArg _ (decodeStall_reports haus hready hslot hnum hwait hquiet htime),
      fun t htaint hlive htime => congrArg _ (refreshDue_repeats htaint hlive htime), fun h => congrArg _ (refreshDue_early h)⟩
  case meter =>
    have hother := meterStreams_other 256 s
    exact ⟨_, rfl, fun k hk => (meterStreams_meters 256 k s).trans (if_pos hk), hother.mem.resolve_left Bool.false_ne_true,
      hother.tb.resolve_left Bool.false_ne_true⟩

end Sys2Proof.Machine
end

section
/-! SUPPORT. The Region Ledger: what LEDGER_WRITE stages, LEDGER_COMMIT appends and a copy changes, and which entry governs a stitch; the
obligation about it. -/

namespace Sys2Proof.Machine

/-! ### Checks in order -/

@[simp] theorem checked_nil (work : State → State × Reply) (s : State) : checked [] work s = work s := rfl

/-- A command's first check refuses it, or leaves it to the checks after. -/
theorem checked_cons (b : Bool) (r : Reply) (cs : List (Bool × Reply)) (work : State → State × Reply) (s : State) :
    checked ((b, r) :: cs) work s = if b then (s, r) else checked cs work s := by
  cases b <;> rfl

theorem outside_eq_false {lo hi v : Nat} (hlo : lo ≤ v) (hhi : v ≤ hi) : outside lo hi v = false := by
  rw [outside, decide_eq_false (Nat.not_lt.mpr hlo), decide_eq_false (Nat.not_lt.mpr hhi), Bool.false_or]

/-- Of a list of numbers, the first that meets the condition names the answer. -/
theorem firstOf_map {α : Type} (b : Nat → Bool) (a : Nat → α) (is : List Nat) :
    firstOf (is.map fun i => (b i, a i)) = (is.find? b).map a := by
  induction is with
  | nil => rfl
  | cons i is ih => cases h : b i <;> simp [h, ih]

/-- What does not read the host interface is the same once a command is taken. -/
theorem takeCmd_same {α : Type} (f : State → α) (hf : ∀ s h, f { s with hif := h } = f s) (c : Cmd) (s : State) :
    f (takeCmd c s) = f s := by
  obtain ⟨h, eq⟩ := takeCmd_other c s
  rw [eq, hf]

/-! ### Entries entered in a table -/

/-- The table with a list of entries entered one after the other. -/
def tsetAll {α : Type} (key : Nat → Nat) (val : Nat → α) (is : List Nat) (t : Tab α) : Tab α :=
  is.foldl (fun t i => tset (key i) (val i) t) t

/-- A number that none of the entries has keeps what it had. -/
theorem tfind_tsetAll_other {α : Type} {key : Nat → Nat} {val : Nat → α} {m : Nat} {is : List Nat} (t : Tab α)
    (h : ∀ i ∈ is, key i ≠ m) : tfind m (tsetAll key val is t) = tfind m t := by
  refine List.foldlRecOn (motive := fun u => tfind m u = tfind m t) _ _ rfl fun u hu i hi => ?_
  rw [tfind_tset, if_neg (h i hi).symm, hu]

/-- Of the entries with one number, the last one stands. -/
theorem tfind_tsetAll_last {α : Type} {key : Nat → Nat} {val : Nat → α} {n i : Nat} (t : Tab α) (hi : i < n)
    (h : ∀ j, i < j → j < n → key j ≠ key i) : tfind (key i) (tsetAll key val (List.range n) t) = some (val i) := by
  induction n with
  | zero => exact absurd hi (Nat.not_lt_zero i)
  | succ n ih =>
    rw [tsetAll, List.range_succ, List.foldl_append, List.foldl_cons, List.foldl_nil]
    obtain rfl | hlt := Nat.eq_or_lt_of_le (Nat.le_of_lt_succ hi)
    · exact tfind_tset_same ..
    · rw [tfind_tset, if_neg (h n hlt n.lt_succ_self).symm]
      exact ih hlt fun j hij hjn => h j hij (Nat.lt_succ_of_lt hjn)

/-! ### LEDGER_WRITE (R324, R326) -/

@[simp] theorem takeCmd_pf1 (c : Cmd) (s : State) : (takeCmd c s).hif.pf1 = s.hif.pf1 := by
  cases h : c.port <;> simp [takeCmd, h, ringSet, fnSet, portFn]

/-- The number in a LEDGER_WRITE of the first of its `n` entries that has a field that R326 refuses. -/
def badEntry (c : Cmd) (n : Nat) : Option Nat := (List.range n).find? fun i => (entryBad (writeEntry c i)).isSome

theorem firstOf_entryBad (c : Cmd) (n : Nat) :
    (firstOf ((List.range n).map fun i => ((entryBad (writeEntry c i)).isSome, 32 * i + (entryBad (writeEntry c i)).getD 0))) =
      (badEntry c n).map fun i => 32 * i + (entryBad (writeEntry c i)).getD 0 :=
  firstOf_map ..

theorem badEntry_none {c : Cmd} {n : Nat} (h : ∀ i, i < n → entryBad (writeEntry c i) = none) : badEntry c n = none := by
  simpa [badEntry, List.find?_eq_none] using h

theorem badEntry_first {c : Cmd} {n i x : Nat} (hi : i < n) (hbad : entryBad (writeEntry c i) = some x)
    (hfirst : ∀ j, j < i → entryBad (writeEntry c j) = none) : badEntry c n = some i := by
  rw [badEntry, List.find?_range_eq_some]
  exact ⟨by rw [hbad]; rfl, List.mem_range.mpr hi, fun j hj => by rw [hfirst j hj]; rfl⟩

/-- What LEDGER_WRITE leaves: its `n` entries staged at their numbers, and the numbers recorded. -/
def writeStaged (c : Cmd) (n : Nat) (s : State) : State :=
  withLedger s { s.comp.ledger with
    staging := tsetAll (writeNumber c) (writeEntry c) (List.range n) s.comp.ledger.staging
    staged := s.comp.ledger.staged ++ (List.range n).map (writeNumber c) }

section
variable {c : Cmd} {s : State} {n : Nat} (hn : n = fld (cw c 4) 4 0) (hmin : 1 ≤ n) (hmax : n ≤ 16)
include hn hmin hmax

/-- LEDGER_WRITE of up to 16 entries by PF0 is refused for the first entry that has a bad field, or stages them all. -/
theorem opLedgerWrite_pf0 (hport : c.port = .pf0) : opLedgerWrite c s =
    match badEntry c n with
    | some i => (s, badRecord (32 * i + (entryBad (writeEntry c i)).getD 0))
    | none => (writeStaged c n s, .ok []) := by
  subst hn
  have hcount : (decide (fld (cw c 4) 4 0 < 1) || decide (16 < fld (cw c 4) 4 0)) = false := outside_eq_false hmin hmax
  have hpf1 : (c.port == .pf1) = false := port_beq_pf1 (by simp [hport])
  unfold opLedgerWrite
  simp only [checked_cons, checked_nil, hcount, hpf1, firstOf_entryBad, Bool.false_and, Bool.false_eq_true, if_false]
  cases badEntry c (fld (cw c 4) 4 0) <;> rfl

/-- PF1 may not stage an entry that differs from the one staged in more than its budget. -/
theorem opLedgerWrite_noRight (hport : c.port = .pf1) {i : Nat} (hi : i < n)
    (h : pf1Entry (tget [] s.comp.ledger.staging (writeNumber c i)) (writeEntry c i) s.hif.pf1 = false) :
    opLedgerWrite c s = (s, .no 2 0) := by
  subst hn
  have hcount : (decide (fld (cw c 4) 4 0 < 1) || decide (16 < fld (cw c 4) 4 0)) = false := outside_eq_false hmin hmax
  have hright : ((List.range (fld (cw c 4) 4 0)).any fun i =>
      !pf1Entry (tget [] s.comp.ledger.staging (writeNumber c i)) (writeEntry c i) s.hif.pf1) = true :=
    List.any_eq_true.mpr ⟨i, List.mem_range.mpr hi, by rw [h]; rfl⟩
  unfold opLedgerWrite
  simp only [checked_cons, hcount, hport, hright, beq_self_eq_true, Bool.and_self, Bool.false_eq_true, if_false, if_true]
  rfl

end

/-! ### LEDGER_COMMIT (R322, R326, R330) -/

@[simp] theorem ledgerBroken_takeCmd (t : Tab (List W32)) (c : Cmd) (s : State) : ledgerBroken t (takeCmd c s) = ledgerBroken t s :=
  takeCmd_same (ledgerBroken t) (fun _ _ => rfl) c s

@[simp] theorem tallyCount_takeCmd (t : Tab (List W32)) (m : W64) (c : Cmd) (s : State) :
    tallyCount t m (takeCmd c s) = tallyCount t m s :=
  takeCmd_same (tallyCount t m) (fun _ _ => rfl) c s

@[simp] theorem ledgerPending_takeCmd (c : Cmd) (s : State) : ledgerPending (takeCmd c s) = ledgerPending s :=
  takeCmd_same ledgerPending (fun _ _ => rfl) c s

@[simp] theorem ledgerLatest_takeCmd (c : Cmd) (s : State) : ledgerLatest (takeCmd c s) = ledgerLatest s :=
  takeCmd_same ledgerLatest (fun _ _ => rfl) c s

@[simp] theorem commitE_takeCmd (d c : Cmd) (s : State) : commitE d (takeCmd c s) = commitE d s :=
  takeCmd_same (commitE d) (fun _ _ => rfl) c s

/-- A further generation finds room, and takes effect at `e` not before the last one (R326, R330). -/
def LedgerTakes (e : Nat) (s : State) : Prop :=
  ledgerPending s < 8 ∧ ∀ g, s.comp.ledger.gens.getLast? = some g → g.e ≤ e

/-- The generation that a LEDGER_COMMIT appends. -/
def commitGen (c : Cmd) (s : State) : Gen :=
  { id := cw c 2, e := commitE c s, table := s.comp.ledger.staging,
    waiting := changedSources (ledgerLatest s) s.comp.ledger.staging }

@[simp] theorem commitGen_takeCmd (d c : Cmd) (s : State) : commitGen d (takeCmd c s) = commitGen d s :=
  takeCmd_same (commitGen d) (fun _ _ => rfl) c s

section
variable {c : Cmd} {s : State} (hns : (cw c 5).toNat < 1000000000)
include hns

/-- LEDGER_COMMIT that finds room is refused for a rule that the staging ledger breaks, or for its tally layers, or appends its generation. -/
theorem opLedgerCommit_judged (h : LedgerTakes (commitE c s) s) : opLedgerCommit c s =
    match ledgerBroken s.comp.ledger.staging s with
    | some k => (s, badRule k)
    | none => if 64 < tallyCount s.comp.ledger.staging 0 s then (s, held 0xFF 64)
      else (withLedger s { s.comp.ledger with staged := [], gens := s.comp.ledger.gens ++ [commitGen c s] }, .ok []) := by
  obtain ⟨hroom, hlast⟩ := h
  unfold opLedgerCommit
  simp only [checked_cons, checked_nil, decide_eq_false (Nat.not_le.mpr hns), Bool.false_eq_true, if_false]
  rw [if_neg]
  · cases ledgerBroken s.comp.ledger.staging s <;> simp [commitGen]
  · cases hg : s.comp.ledger.gens.getLast? with
    | none => simp [hroom]
    | some g => simp [hroom, hlast g hg]

/-- LEDGER_COMMIT is held while eight commits wait, or where it would take effect before the last one. -/
theorem opLedgerCommit_held (h : 8 ≤ ledgerPending s ∨ ∃ g, s.comp.ledger.gens.getLast? = some g ∧ commitE c s < g.e) :
    opLedgerCommit c s = (s, held 0xFF 0) := by
  unfold opLedgerCommit
  simp only [checked_cons, decide_eq_false (Nat.not_le.mpr hns), Bool.false_eq_true, if_false]
  rw [if_pos]
  obtain h | ⟨g, hg, h⟩ := h
  · simp [h]
  · simp [hg, h]

end

/-! ### LEDGER_GENERATION_COPY (R327) -/

theorem length_copyFirst (gs : List Gen) : (copyFirst gs).length = gs.length := by
  induction gs with
  | nil => rfl
  | cons g gs ih =>
    unfold copyFirst
    split
    · rw [List.length_cons, ih, List.length_cons]
    · rfl

theorem copyFirst_copied {gs : List Gen} (h : ∀ g ∈ gs, g.copied = true) : copyFirst gs = gs := by
  induction gs with
  | nil => rfl
  | cons g gs ih =>
    rw [copyFirst, if_pos (h g List.mem_cons_self), ih fun x hx => h x (List.mem_cons_of_mem g hx)]

/-- Only the oldest generation that is not copied changes: it is copied. -/
theorem copyFirst_oldest {gs : List Gen} {i : Nat} {g : Gen} (hi : gs[i]? = some g) (hg : g.copied = false)
    (hold : ∀ j x, j < i → gs[j]? = some x → x.copied = true) : copyFirst gs = gs.set i { g with copied := true } := by
  induction gs generalizing i with
  | nil => cases hi
  | cons x gs ih =>
    cases i with
    | zero =>
      obtain rfl : x = g := Option.some.inj hi
      rw [copyFirst, if_neg (by simp [hg]), List.set_cons_zero]
    | succ i =>
      rw [copyFirst, if_pos (hold 0 x i.succ_pos rfl), List.set_cons_succ,
        ih hi fun j y hj hy => hold (j + 1) y (Nat.succ_lt_succ hj) hy]

/-! ### The entry that governs a stitch (R323) -/

theorem mem_leOf {t : Tab (List W32)} {k : Nat} {e : List W32} (h : e ∈ (leOf t k).map Prod.snd) :
    (∃ n, (n, e) ∈ t) ∧ leValid e = true ∧ leStream e = k := by
  simpa [leOf] using h

/-- An entry that governs a stitch is a valid one of its source that holds it, or its default region. -/
theorem govern_some {t : Tab (List W32)} {k x y : Nat} {e : List W32} (h : govern t k x y = some e) :
    ((∃ n, (n, e) ∈ t) ∧ leValid e = true ∧ leStream e = k) ∧ (leHolds e x y = true ∨ leDefault e = true) := by
  unfold govern at h
  dsimp only at h
  split at h
  · next hfind =>
    obtain rfl := Option.some.inj h
    exact ⟨mem_leOf (List.mem_of_find?_eq_some hfind), .inl (List.find?_some (p := fun e => leHolds e x y) hfind)⟩
  · exact ⟨mem_leOf (List.mem_of_find?_eq_some h), .inr (List.find?_some h)⟩

theorem budgetOf_governed {t : Tab (List W32)} {k x y : Nat} {e : List W32} (h : govern t k x y = some e) :
    budgetOf t k x y = leBudget e := by
  rw [budgetOf, h]

/-- A source without an entry that holds the stitch, and without a default region, has the budget of 20 ms. -/
theorem budgetOf_ungoverned {t : Tab (List W32)} {k x y : Nat}
    (h : ∀ z ∈ t, leValid z.2 = true → leStream z.2 = k → leDefault z.2 = false ∧ leHolds z.2 x y = false) :
    budgetOf t k x y = 20 := by
  cases hg : govern t k x y with
  | none => rw [budgetOf, hg]
  | some e =>
    obtain ⟨⟨⟨n, hmem⟩, hvalid, hstream⟩, hholds⟩ := govern_some hg
    obtain ⟨hdefault, hnot⟩ := h (n, e) hmem hvalid hstream
    simp [hdefault, hnot] at hholds

/-! ### The obligation -/

/-- Settles O45, clause by clause: LEDGER_WRITE, LEDGER_COMMIT, the copy of a generation, and the entry that governs a stitch. -/
theorem ledgerIsStagedCommittedAndCopied : Obligations.LedgerIsStagedCommittedAndCopied := by
  unfold Obligations.LedgerIsStagedCommittedAndCopied
  refine ⟨?write, ?commit, fun s => ?copy, fun t k x y => ⟨budgetOf_ungoverned, fun e he => ?governed⟩⟩
  case write =>
    rintro c s u n rfl ht hn hmin hmax
    refine ⟨fun hport hgood => ?_, fun hport i x hi hbad hfirst => ?_, fun hport i hi hright => ?_⟩
    · have hop := opLedgerWrite_pf0 (s := takeCmd c s) hn hmin hmax hport
      rw [badEntry_none hgood, writeStaged, takeCmd_comp] at hop
      refine ⟨_, ?_, fun m hm => ?_, fun i hi hlast => tfind_tsetAll_last s.comp.ledger.staging hi hlast⟩
      · rw [takeCmd_comp]
        exact congrArg _ (hostCommand_answers ht hop)
      · exact tfind_tsetAll_other _ fun i hi => hm i (List.mem_range.mp hi)
    · have hop := opLedgerWrite_pf0 (s := takeCmd c s) hn hmin hmax hport
      rw [badEntry_first hi hbad hfirst] at hop
      simp only [hbad, Option.getD_some] at hop
      exact congrArg _ (hostCommand_answers ht hop)
    · rw [← takeCmd_comp c s, ← takeCmd_pf1 c s] at hright
      exact congrArg _ (hostCommand_answers ht (opLedgerWrite_noRight hn hmin hmax hport hi hright))
  case commit =>
    rintro c s u e l rfl ht rfl rfl hns
    refine ⟨fun hroom hlast => ?_, fun h => congrArg _ (hostCommand_answers ht (opLedgerCommit_held hns (by simpa using h)))⟩
    have hop := opLedgerCommit_judged (s := takeCmd c s) hns (by simpa [LedgerTakes] using And.intro hroom hlast)
    simp only [takeCmd_comp, tallyCount_takeCmd, ledgerBroken_takeCmd, commitGen_takeCmd] at hop
    rw [ledgerBroken_takeCmd, tallyCount_takeCmd]
    refine ⟨fun hrules htally => ?_, fun k hbroken => ?_, fun hrules htally => ?_⟩
    · rw [hrules] at hop
      exact congrArg _ (hostCommand_answers ht (hop.trans (if_neg (Nat.not_lt.mpr htally))))
    · rw [hbroken] at hop
      exact congrArg _ (hostCommand_answers ht hop)
    · rw [hrules] at hop
      exact congrArg _ (hostCommand_answers ht (hop.trans (if_pos htally)))
  case copy =>
    refine ⟨_, rfl, length_copyFirst _, fun i g hi hg hold => ?_, copyFirst_copied⟩
    rw [copyFirst_oldest hi hg hold]
    exact ⟨by rw [List.getElem?_set_self', hi]; rfl, fun j hj => List.getElem?_set_ne hj.symm⟩
  case governed =>
    obtain ⟨⟨-, hvalid, hstream⟩, hholds⟩ := govern_some he
    exact ⟨budgetOf_governed he, hstream, hvalid, hholds⟩

end Sys2Proof.Machine
end

section
/-! SUPPORT. Layouts: what the commands that set canvases, layers, bank parameters and loads do when their fields are lawful, and when a
commit is scheduled or refused; the obligation about them. -/

namespace Sys2Proof.Machine

/-! ### What the checks read is the same once a command is taken -/

@[simp] theorem scanners_takeCmd (c : Cmd) (s : State) (k : Nat) : scanners (takeCmd c s) k = scanners s k :=
  takeCmd_same (scanners · k) (fun _ _ => rfl) c s

@[simp] theorem encReads_takeCmd (c : Cmd) (s : State) (k : Nat) : encReads (takeCmd c s) k = encReads s k :=
  takeCmd_same (encReads · k) (fun _ _ => rfl) c s

@[simp] theorem bankClosed_takeCmd (c : Cmd) (s : State) (k : Nat) : bankClosed (takeCmd c s) k = bankClosed s k :=
  takeCmd_same (bankClosed · k) (fun _ _ => rfl) c s

@[simp] theorem bufOk_takeCmd (c : Cmd) (s : State) (a w h : Nat) : bufOk (takeCmd c s) a w h = bufOk s a w h :=
  takeCmd_same (bufOk · a w h) (fun _ _ => rfl) c s

@[simp] theorem layerBad_takeCmd (r : List W32) (c : Cmd) (s : State) : layerBad r (takeCmd c s) = layerBad r s :=
  takeCmd_same (layerBad r) (fun _ _ => rfl) c s

@[simp] theorem slotHolder_takeCmd (c : Cmd) (s : State) (k slot : Nat) : slotHolder (takeCmd c s) k slot = slotHolder s k slot :=
  takeCmd_same (slotHolder · k slot) (fun _ _ => rfl) c s

@[simp] theorem anyLayer_takeCmd (c : Cmd) (s : State) (p : List W32 → Bool) : anyLayer (takeCmd c s) p = anyLayer s p :=
  takeCmd_same (anyLayer · p) (fun _ _ => rfl) c s

@[simp] theorem canvasGen_takeCmd (c : Cmd) (s : State) (k : Nat) : canvasGen (takeCmd c s) k = canvasGen s k :=
  takeCmd_same (canvasGen · k) (fun _ _ => rfl) c s

@[simp] theorem bankBad_takeCmd (c : Cmd) (s : State) (k : Nat) : bankBad (takeCmd c s) k = bankBad s k :=
  takeCmd_same (bankBad · k) (fun _ _ => rfl) c s

@[simp] theorem slotClash_takeCmd (c : Cmd) (s : State) (ks : List Nat) : slotClash (takeCmd c s) ks = slotClash s ks :=
  takeCmd_same (slotClash · ks) (fun _ _ => rfl) c s

@[simp] theorem commitCut_takeCmd (c : Cmd) (s : State) (k n : Nat) : commitCut (takeCmd c s) k n = commitCut s k n :=
  takeCmd_same (commitCut · k n) (fun _ _ => rfl) c s

/-! ### CANVAS_SET (R316 to R320) -/

/-- The size, the lifeline base and the fetch limit of a CANVAS_SET. -/
def canvasW (c : Cmd) : Nat := fld (cw c 3) 15 0
def canvasH (c : Cmd) : Nat := fld (cw c 3) 31 16
def canvasLife (c : Cmd) : Nat := w64of (cw c 9) (cw c 10)
def canvasFetch (c : Cmd) : Nat := if (cw c 11).toNat = 0 then 200 else (cw c 11).toNat

/-- CANVAS_SET's fields are lawful for canvas `k`. -/
structure CanvasLawful (c : Cmd) (k : Nat) (s : State) : Prop where
  number : k ≤ 63
  width : outside 64 32768 (canvasW c) = false
  even : canvasW c % 2 = 0
  height : outside 64 16384 (canvasH c) = false
  fetch : outside 20 1000 (canvasFetch c) = false
  chase : bitOf (cw c 4) 0 = true → k < 48
  premul : bitOf (cw c 4) 1 = true ∨ ((canGet s k).active.bgAlpha = 3 ∧ (canGet s k).pend.bgAlpha = 3)
  buf0 : bufOk s (w64of (cw c 5) (cw c 6)) (canvasW c) (canvasH c) = true
  buf1 : bufOk s (w64of (cw c 7) (cw c 8)) (canvasW c) (canvasH c) = true
  life : canvasLife c = 0 ∨ (k < 48 ∧ bufOk s (canvasLife c) (canvasW c) (canvasH c) = true)

/-- An output or an encode channel reads canvas `k`, or a commit keeps its pending bank closed. -/
def canvasBusy (s : State) (k : Nat) : Bool := !(scanners s k).isEmpty || encReads s k || bankClosed s k

@[simp] theorem canvasBusy_takeCmd (c : Cmd) (s : State) (k : Nat) : canvasBusy (takeCmd c s) k = canvasBusy s k :=
  takeCmd_same (canvasBusy · k) (fun _ _ => rfl) c s

theorem canvasBusy_eq_true {s : State} {k : Nat} :
    canvasBusy s k = true ↔ scanners s k ≠ [] ∨ encReads s k = true ∨ bankClosed s k = true := by
  simp [canvasBusy, or_assoc]

/-- A bank of a canvas that becomes a chase canvas, or ceases to be one, takes that mode's defaults. -/
def modeBank (old : Canvas) (chase : Bool) (b : Bank) : Bank := if old.chase != chase then { b with allow := 2, lead := 240 } else b

theorem modeBank_same {old : Canvas} {chase : Bool} (b : Bank) (h : old.chase = chase) : modeBank old chase b = b := by
  simp [modeBank, h]

theorem modeBank_changed {old : Canvas} {chase : Bool} (b : Bank) (h : old.chase ≠ chase) :
    modeBank old chase b = { b with allow := 2, lead := 240 } := by
  simp [modeBank, h]

theorem modeBank_layers (old : Canvas) (chase : Bool) (b : Bank) : (modeBank old chase b).layers = b.layers := by
  unfold modeBank
  split <;> rfl

/-- The canvas as CANVAS_SET leaves it: set anew, with nothing composed for it. -/
def canvasAs (c : Cmd) (old : Canvas) : Canvas :=
  { old with
    set := true, w := canvasW c, h := canvasH c, premul := bitOf (cw c 4) 1, chase := bitOf (cw c 4) 0
    buf0 := w64of (cw c 5) (cw c 6), buf1 := w64of (cw c 7) (cw c 8), life := canvasLife c, fetch := canvasFetch c
    gen := fld (cw c 12) 2 0, active := modeBank old (bitOf (cw c 4) 0) old.active
    pend := modeBank old (bitOf (cw c 4) 0) old.pend
    job := none, tail := none, last := none, rescan := none, rescanLate := 0, rowLog := [], lives := [] }

theorem opCanvasSet_lawful {c : Cmd} {k : Nat} {s : State} (hk : k = (cw c 2).toNat) (h : CanvasLawful c k s) :
    opCanvasSet c s = if canvasBusy s k then (s, held 0xFF k) else (canSet k (canvasAs c (canGet s k)) s, .ok []) := by
  subst hk
  have hsize : (outside 64 32768 (canvasW c) || canvasW c % 2 != 0 || outside 64 16384 (canvasH c)) = false := by
    simp [h.width, h.even, h.height]
  have hmode : ((bitOf (cw c 4) 0 && decide (48 ≤ (cw c 2).toNat)) ||
      (!bitOf (cw c 4) 1 && ((canGet s (cw c 2).toNat).active.bgAlpha != 3 || (canGet s (cw c 2).toNat).pend.bgAlpha != 3))) = false := by
    obtain hp | ⟨ha, hb⟩ := h.premul
    · simpa [hp] using h.chase
    · simpa [ha, hb] using h.chase
  have hlife : (canvasLife c != 0 && (decide (48 ≤ (cw c 2).toNat) || !bufOk s (canvasLife c) (canvasW c) (canvasH c))) = false := by
    obtain hl | ⟨hk, hl⟩ := h.life
    · simp [hl]
    · simp [hl, hk]
  have hbuf0 := congrArg Bool.not h.buf0
  have hbuf1 := congrArg Bool.not h.buf1
  have hfetch := h.fetch
  have hnumber := decide_eq_false (Nat.not_lt.mpr h.number)
  simp only [canvasW, canvasH, canvasLife, canvasFetch] at hsize hlife hbuf0 hbuf1 hfetch
  unfold opCanvasSet
  simp only [checked_cons, checked_nil, hsize, hmode, hlife, hbuf0, hbuf1, hfetch, hnumber, Bool.not_true, Bool.false_eq_true, if_false]
  rfl

/-! ### LAYER_SET (R331, R332) -/

theorem opLayerSet_lawful {c : Cmd} {s : State} {r : List W32} (hr : r = wordsOf 16 (padB 64 (crec c)))
    (hset : (canGet s (lrCanvas r)).set = true) (hgood : layerBad r s = none) : opLayerSet c s =
      if bankClosed s (lrCanvas r) then (s, held 0xFF (lrCanvas r))
      else if lrEnable r && (slotHolder s (lrCanvas r) (lrSlot r)).isSome then (s, held 0xFF (lrSlot r))
      else (canUpd (lrCanvas r) (fun x => { x with pend := { x.pend with layers := tset (lrSlot r) r x.pend.layers } }) s, .ok []) := by
  subst hr
  unfold opLayerSet
  simp only [checked_cons, checked_nil, hset, hgood, Bool.not_true, Option.isSome_none, Bool.false_eq_true, if_false]

/-! ### BANK_PARAM_SET (R151, R319, R359, R364) -/

/-- The age allowance, the chase lead and the lifeline age of a BANK_PARAM_SET. -/
def paramAllow (c : Cmd) : Nat := if fld (cw c 3) 6 0 = 0 then 2 else fld (cw c 3) 6 0
def paramLead (c : Cmd) : Nat := if (cw c 4).toNat = 0 then 240 else (cw c 4).toNat
def paramLife (c : Cmd) : Nat := if fld (cw c 5) 15 0 = 0 then 1000 else fld (cw c 5) 15 0

/-- The bank as BANK_PARAM_SET leaves it on canvas `x`: the lead is a chase canvas's alone. -/
def paramBank (c : Cmd) (x : Canvas) : Bank :=
  { x.pend with
    allow := paramAllow c, lead := if x.chase then paramLead c else x.pend.lead, purl := bitOf (cw c 5) 31, lifeMs := paramLife c
    colA := cw c 6, colB := cw c 7, bg := cw c 8, bgAlpha := fld (cw c 9) 1 0 }

/-- BANK_PARAM_SET's fields are lawful for canvas `x`. -/
structure ParamsLawful (c : Cmd) (x : Canvas) : Prop where
  mode : if x.chase = true then 2 ≤ paramAllow c ∧ paramAllow c ≤ 64 ∧ 240 ≤ paramLead c ∧ paramLead c ≤ 4000
    else 1 ≤ paramAllow c ∧ paramAllow c ≤ 8
  stale : bitOf (cw c 5) 31 = true ∨ x.life ≠ 0
  life : outside 100 10000 (paramLife c) = false
  background : x.premul = true ∨ fld (cw c 9) 1 0 = 3

/-- The allowance and the lead lie in the ranges of the canvas's mode. -/
theorem ParamsLawful.ranges {c : Cmd} {x : Canvas} (h : ParamsLawful c x) :
    (if x.chase then outside 2 64 (paramAllow c) else outside 1 8 (paramAllow c)) = false ∧
      (x.chase && outside 240 4000 (paramLead c)) = false := by
  have hmode := h.mode
  split at hmode
  · next hchase =>
    obtain ⟨hamin, hamax, hlmin, hlmax⟩ := hmode
    simp [hchase, outside_eq_false, hamin, hamax, hlmin, hlmax]
  · next hchase =>
    obtain ⟨hamin, hamax⟩ := hmode
    simp [hchase, outside_eq_false, hamin, hamax]

theorem opBankParamSet_lawful {c : Cmd} {k : Nat} {s : State} (hk : k = (cw c 2).toNat) (hmax : k ≤ 63) (hset : (canGet s k).set = true)
    (h : ParamsLawful c (canGet s k)) : opBankParamSet c s = if bankClosed s k then (s, held 0xFF k)
      else (canSet k { canGet s k with pend := paramBank c (canGet s k) } s, .ok []) := by
  subst hk
  have hnumber : (decide (63 < (cw c 2).toNat) || !(canGet s (cw c 2).toNat).set) = false := by simp [hmax, hset]
  obtain ⟨hallow, hlead⟩ := h.ranges
  have hlife : ((!bitOf (cw c 5) 31 && (canGet s (cw c 2).toNat).life == 0) || outside 100 10000 (paramLife c)) = false := by
    obtain hpurl | hlifeline := h.stale
    · simp [h.life, hpurl]
    · simp [h.life, hlifeline]
  have hbackground : (!(canGet s (cw c 2).toNat).premul && fld (cw c 9) 1 0 != 3) = false := by
    obtain hpremul | halpha := h.background
    · simp [hpremul]
    · simp [halpha]
  simp only [paramAllow, paramLead, paramLife] at hallow hlead hlife
  unfold opBankParamSet
  simp only [checked_cons, checked_nil, hnumber, hallow, hlead, hlife, hbackground, Bool.false_eq_true, if_false]
  rfl

/-! ### Loading commands (R335, R336, R348, R353, R535) -/

section
variable {c : Cmd} {s : State} {k : Nat} (hk : k = (cw c 4).toNat)
include hk

theorem opCoefLoad_lawful (hmax : k ≤ 63) (hset : (canGet s k).set = true) (hbank : (cw c 5).toNat ≤ 3) : opCoefLoad c s =
    if bankClosed s k then (s, held 0xFF k) else (s, .later k [(cw c 5).toNat, (cw c 6).toNat]) := by
  subst hk
  unfold opCoefLoad
  simp only [checked_cons, checked_nil, hset, decide_eq_false (Nat.not_lt.mpr hmax), decide_eq_false (Nat.not_lt.mpr hbank),
    Bool.not_true, Bool.or_self, Bool.false_eq_true, if_false]

theorem opXferLoad_lawful (hmax : k ≤ 15) : opXferLoad c s =
    if anyLayer s fun r => lrXferEn r && lrXfer r == k then (s, held 0xFF k) else (s, .later k [(cw c 6).toNat]) := by
  subst hk
  unfold opXferLoad
  simp only [checked_cons, checked_nil, decide_eq_false (Nat.not_lt.mpr hmax), Bool.false_eq_true, if_false]

/-- STILL_LOAD of a still in range: refused where its surface lies in no window for it, or where a layer uses it. -/
theorem opStillLoad_inRange {w h : Nat} (hw : w = fld (cw c 5) 15 0) (hh : h = fld (cw c 5) 31 16) (hmax : k ≤ 255)
    (hwidth : outside 1 7680 w = false) (hheight : outside 1 4320 h = false) : opStillLoad c s =
      if !bufOk s (stillSurf k w h).base w h then (s, badField 16)
      else if anyLayer s fun r => lrStill r && lrSource r == k then (s, held 0xFF k) else (s, .later k [w, h, portInit c.port]) := by
  subst hk hw hh
  unfold opStillLoad
  simp only [checked_cons, checked_nil, hwidth, hheight, decide_eq_false (Nat.not_lt.mpr hmax), Bool.or_self, Bool.false_eq_true,
    if_false]

end

/-- The data of the loading command that waits are judged and applied, and the command is answered. -/
theorem loadEnd_applies {s t : State} {o : Outst} {d : List Byte} {r : Reply} (ho : loadOutst s = some o)
    (h : loadApply o d s = (t, r)) : loadEnd (some d) s = loadReply o r t := by
  simp only [loadEnd, ho, h]

section
variable {o : Outst} (d : List Byte) (s : State)

theorem loadApply_coef (hop : o.opcode = 0x0405) :
    loadApply o d s = coefLoaded o.target (o.arg.getD 0 0) (o.arg.getD 1 0) d s := by
  simp only [loadApply, hop]

theorem loadApply_xfer (hop : o.opcode = 0x0406) : loadApply o d s = xferLoaded o.target (o.arg.getD 0 0) d s := by
  simp only [loadApply, hop]

theorem loadApply_still (hop : o.opcode = 0x0407) :
    loadApply o d s = stillLoaded o.target (o.arg.getD 0 0) (o.arg.getD 1 0) (o.arg.getD 2 0) d s := by
  simp only [loadApply, hop]

end

theorem coefLoaded_eq (k bank crc : Nat) (image : List Byte) (s : State) : coefLoaded k bank crc image s =
    if crc32c image ≠ crc then (s, badField 24) else if coefBad image then (s, badRecord 0)
    else (canUpd k (fun x => { x with pend := { x.pend with coefs := tset bank (coefsOf image) x.pend.coefs } }) s, .ok []) := by
  simp only [coefLoaded, checked_cons, checked_nil, bne_iff_ne]

/-- The values of a transfer table's image. -/
def xferVals (image : List Byte) : List Nat := (List.range 1024).map fun i => leAt image (2 * i) 2

/-- A value of the image lies above the largest that a table may hold (R353). -/
def xferBad (image : List Byte) : Bool := (xferVals image).any fun v => 65472 < v

theorem xferBad_eq_true {image : List Byte} : xferBad image = true ↔ ∃ i, i < 1024 ∧ 65472 < leAt image (2 * i) 2 := by
  simp [xferBad, xferVals]

theorem xferBad_eq_false {image : List Byte} : xferBad image = false ↔ ∀ i, i < 1024 → leAt image (2 * i) 2 ≤ 65472 := by
  simp [xferBad, xferVals]

theorem xferLoaded_eq (k crc : Nat) (image : List Byte) (s : State) : xferLoaded k crc image s =
    if crc32c image ≠ crc ∨ image.length ≠ 2048 then (s, badField 24) else if xferBad image then (s, badRecord 0)
    else (withComp s { s.comp with xfers := tset k (xferVals image) s.comp.xfers }, .ok []) := by
  simp only [xferLoaded, checked_cons, checked_nil, Bool.or_eq_true, bne_iff_ne]
  rfl

/-! ### LAYOUT_COMMIT (R340, R360, R361) -/

/-- A command that is refused waits for no supply (R610). -/
theorem supplied_refused {op : Nat} {f : Cmd → State → State × Reply} {c : Cmd} {s t : State} {status : Nat} {detail : W32}
    (h : f c s = (t, .no status detail)) : supplied op f c s = (t, .no status detail) := by
  have hneeds : supplyNeeds op f c s = [] := by simp only [supplyNeeds, supplyState, h]
  simp [supplied, hneeds, supplyMet, h]

/-- A commit may name canvas `k`: it is set, takes its frames from generator `g`, and its pending bank is lawful and open. -/
structure Committable (g : Nat) (s : State) (k : Nat) : Prop where
  set : (canGet s k).set = true
  gen : canvasGen s k = some g
  lawful : bankBad s k = false
  opened : bankClosed s k = false

/-- Frame `n` of generator `g` is past, or the cut of one of the canvases `ks` for it is less than 2 ms away. -/
def commitLate (ks : List Nat) (g n : Nat) (s : State) : Bool :=
  decide (n + 1 < (flGet s g).next) || ks.any fun k => decide (commitCut s k n < t0Ns s + 2000000)

@[simp] theorem commitLate_takeCmd (ks : List Nat) (g n : Nat) (c : Cmd) (s : State) :
    commitLate ks g n (takeCmd c s) = commitLate ks g n s :=
  takeCmd_same (commitLate ks g n) (fun _ _ => rfl) c s

theorem commitLate_eq_false {ks : List Nat} {g n : Nat} {s : State} :
    commitLate ks g n s = false ↔ (flGet s g).next ≤ n + 1 ∧ ∀ k ∈ ks, t0Ns s + 2000000 ≤ commitCut s k n := by
  simp [commitLate]

theorem commitLate_eq_true {ks : List Nat} {g n : Nat} {s : State} :
    commitLate ks g n s = true ↔ n + 1 < (flGet s g).next ∨ ∃ k ∈ ks, commitCut s k n < t0Ns s + 2000000 := by
  simp [commitLate]

/-- LAYOUT_COMMIT of canvases that may be committed: refused for a slot, for the tally layers, for capacity, for its time, or scheduled. -/
theorem opLayoutCommit_judged {c : Cmd} {s : State} {m : W64} {ks : List Nat} {g n : Nat}
    (hm : m = BitVec.ofNat 64 (w64of (cw c 2) (cw c 3))) (hks : ks = canvasesOf m) (hn : n = frameNamed (flGet s g) (cw c 4))
    (hnamed : ks ≠ []) (h : ∀ k ∈ ks, Committable g s k) : opLayoutCommit c s =
      match slotClash s ks with
      | some x => (s, held 0xFF x)
      | none => if 64 < tallyCount (ledgerLatest s) m s then (s, held 0xFF 64)
        else if capacityOk s m = false then (s, overCap)
        else if commitLate ks g n s then (s, tooLate)
        else (encAssign none (withComp s { s.comp with
          commits := s.comp.commits ++ [{ mask := m, frame := n, id := cw c 5, gen := g }] }), .ok []) := by
  have hempty : ks.isEmpty = false := List.isEmpty_eq_false_iff.mpr hnamed
  have hset : (ks.any fun k => !(canGet s k).set) = false := by simpa using fun k hk => (h k hk).set
  have hhead : (ks.map (canvasGen s)).headD none = some g := by
    obtain ⟨k, ks', rfl⟩ := List.exists_cons_of_ne_nil hnamed
    exact (h k List.mem_cons_self).gen
  have hgens : ((some g).isNone || (ks.map (canvasGen s)).any fun x => x != some g) = false := by
    simpa using fun k hk => (h k hk).gen
  have hbad : ks.any (bankBad s) = false := by simpa using fun k hk => (h k hk).lawful
  have hopen : ks.find? (bankClosed s) = none := by simpa using fun k hk => (h k hk).opened
  subst hn hks hm
  unfold opLayoutCommit
  simp only [checked_cons, checked_nil, hempty, hset, hhead, hgens, hbad, hopen, Option.isSome_none, Option.getD_some,
    Bool.false_eq_true, if_false]
  cases slotClash s _ with
  | some x => rfl
  | none => simp [commitLate]

/-! ### LAYOUT_CANCEL (R361) -/

theorem opLayoutCancel_found {c : Cmd} {s : State} {k : Commit}
    (h : (s.comp.commits.find? fun k => !k.applied && k.id == cw c 5) = some k) : opLayoutCancel c s =
      if ∃ x ∈ canvasesOf k.mask, commitCut s x k.frame < t0Ns s + 2000000 then (s, tooLate)
      else (withComp s { s.comp with commits := s.comp.commits.erase k }, .ok []) := by
  simp [opLayoutCancel, h]

theorem opLayoutCancel_unknown {c : Cmd} {s : State} (h : ∀ k ∈ s.comp.commits, k.applied = true ∨ k.id ≠ cw c 5) :
    opLayoutCancel c s = (s, badField 20) := by
  have hnone : (s.comp.commits.find? fun k => !k.applied && k.id == cw c 5) = none := by
    rw [List.find?_eq_none]
    intro k hk
    obtain happlied | hid := h k hk
    · simp [happlied]
    · simp [hid]
  simp only [opLayoutCancel, hnone]

/-! ### The obligation -/

/-- Settles O46, clause by clause: CANVAS_SET, LAYER_SET, BANK_PARAM_SET, the loading commands and their ends, LAYOUT_COMMIT and
LAYOUT_CANCEL. -/
theorem layoutIsPreparedAndCommitted : Obligations.LayoutIsPreparedAndCommitted := by
  unfold Obligations.LayoutIsPreparedAndCommitted
  refine ⟨?canvas, ?layer, ?params, ?loads, fun s o d ho => ?loadEnds, ?commit, ?cancel⟩
  case canvas =>
    rintro c s u k w h fetch lf old rfl ht hk rfl rfl rfl rfl hnumber hwmin hwmax heven hhmin hhmax hfmin hfmax hchase hpremul hbuf0 hbuf1
      rfl hlife
    have lawful : CanvasLawful c k (takeCmd c s) :=
      { number := hnumber, width := outside_eq_false hwmin hwmax, even := heven, height := outside_eq_false hhmin hhmax
        fetch := outside_eq_false hfmin hfmax, chase := hchase, premul := by simpa using hpremul
        buf0 := (bufOk_takeCmd ..).trans hbuf0, buf1 := (bufOk_takeCmd ..).trans hbuf1
        life := hlife.imp_right fun ⟨hk, hl⟩ => ⟨hk, (bufOk_takeCmd ..).trans hl⟩ }
    have hop := opCanvasSet_lawful hk lawful
    rw [canvasBusy_takeCmd, canGet_takeCmd] at hop
    refine ⟨fun hscan henc hclosed => ⟨canvasAs c (canGet s k), congrArg _ (hostCommand_answers ht (hop.trans (if_neg ?_))),
      rfl, rfl, rfl, rfl, rfl, rfl, rfl, rfl, rfl, rfl, rfl, rfl, rfl, rfl, rfl, rfl, modeBank_layers .., modeBank_layers ..,
      fun hmode => ⟨modeBank_same _ hmode, modeBank_same _ hmode⟩,
      fun hmode => ⟨modeBank_changed _ hmode, modeBank_changed _ hmode⟩⟩,
      fun h => congrArg _ (hostCommand_answers ht (hop.trans (if_pos (canvasBusy_eq_true.mpr h))))⟩
    simp [canvasBusy, hscan, henc, hclosed]
  case layer =>
    rintro c s u r k rfl ht hr rfl hset hgood
    have hop := opLayerSet_lawful (s := takeCmd c s) hr (by simpa using hset) (by simpa using hgood)
    rw [bankClosed_takeCmd, slotHolder_takeCmd] at hop
    refine ⟨fun hclosed hfree => ?_, fun hclosed => congrArg _ (hostCommand_answers ht (hop.trans (if_pos hclosed))),
      fun o hclosed hen hholder => ?_⟩
    · exact congrArg _ (hostCommand_answers ht (hop.trans ((if_neg (by simp [hclosed])).trans (if_neg (by simpa using hfree)))))
    · exact congrArg _ (hostCommand_answers ht (hop.trans ((if_neg (by simp [hclosed])).trans (if_pos (by simp [hen, hholder])))))
  case params =>
    rintro c s u k l lead life x rfl ht hk rfl hmax hset rfl rfl rfl hmode hstale hlmin hlmax hbackground
    have lawful : ParamsLawful c (canGet s k) :=
      { mode := hmode, stale := hstale, life := outside_eq_false hlmin hlmax, background := hbackground }
    have hop := opBankParamSet_lawful (s := takeCmd c s) hk hmax (by simpa using hset) (by simpa using lawful)
    rw [bankClosed_takeCmd, canGet_takeCmd] at hop
    exact ⟨fun hclosed => congrArg _ (hostCommand_answers ht (hop.trans (if_neg (by simp [hclosed])))),
      fun hclosed => congrArg _ (hostCommand_answers ht (hop.trans (if_pos hclosed)))⟩
  case loads =>
    rintro c s u k w h rfl hk hw hh
    have coef (hmax : k ≤ 63) (hset : (canGet s k).set = true) (hbank : (cw c 5).toNat ≤ 3) :=
      opCoefLoad_lawful (s := takeCmd c s) hk hmax (by simpa using hset) hbank
    have xfer (hmax : k ≤ 15) := opXferLoad_lawful (s := takeCmd c s) hk hmax
    have still (hmax : k ≤ 255) (hwmin : 1 ≤ w) (hwmax : w ≤ 7680) (hhmin : 1 ≤ h) (hhmax : h ≤ 4320) :=
      opStillLoad_inRange (s := takeCmd c s) hk hw hh hmax (outside_eq_false hwmin hwmax) (outside_eq_false hhmin hhmax)
    simp only [bankClosed_takeCmd, anyLayer_takeCmd, bufOk_takeCmd] at coef xfer still
    refine ⟨fun ht hmax hset hbank hclosed => ?_, fun ht hmax hused => ?_, fun ht hmax hwmin hwmax hhmin hhmax hbuf hused => ?_,
      fun ht hmax hwmin hwmax hhmin hhmax hbuf hused => ?_, fun ht hmax hwmin hwmax hhmin hhmax hbuf => ?_,
      fun ht hmax hset hbank hclosed => ?_, fun ht hmax hused => ?_⟩
    · exact congrArg _ (hostCommand_answers ht ((coef hmax hset hbank).trans (if_neg (by simp [hclosed]))))
    · exact congrArg _ (hostCommand_answers ht ((xfer hmax).trans (if_neg (by simp [hused]))))
    · exact congrArg _ (hostCommand_answers ht ((still hmax hwmin hwmax hhmin hhmax).trans
        ((if_neg (by simp [hbuf])).trans (if_neg (by simp [hused])))))
    · exact congrArg _ (hostCommand_answers ht ((still hmax hwmin hwmax hhmin hhmax).trans
        ((if_neg (by simp [hbuf])).trans (if_pos hused))))
    · exact congrArg _ (hostCommand_answers ht ((still hmax hwmin hwmax hhmin hhmax).trans (if_pos (by simp [hbuf]))))
    · exact congrArg _ (hostCommand_answers ht ((coef hmax hset hbank).trans (if_pos hclosed)))
    · exact congrArg _ (hostCommand_answers ht ((xfer hmax).trans (if_pos hused)))
  case loadEnds =>
    have coef (hop : o.opcode = 0x0405) := (loadApply_coef d s hop).trans (coefLoaded_eq ..)
    have xfer (hop : o.opcode = 0x0406) := (loadApply_xfer d s hop).trans (xferLoaded_eq ..)
    refine ⟨fun hop hcrc hgood => ?_, fun hop hcrc => ?_, fun hop hcrc hbad => ?_, fun hop hcrc => ?_, fun hop hcrc hlen hbad => ?_,
      fun hop hcrc hlen hgood => ?_, fun w h v hop hw hh hv => ⟨?_, ?_⟩⟩
    · exact congrArg _ (loadEnd_applies ho ((coef hop).trans ((if_neg (· hcrc)).trans (if_neg (by simp [hgood])))))
    · exact congrArg _ (loadEnd_applies ho ((coef hop).trans (if_pos hcrc)))
    · exact congrArg _ (loadEnd_applies ho ((coef hop).trans ((if_neg (· hcrc)).trans (if_pos hbad))))
    · exact congrArg _ (loadEnd_applies ho ((xfer hop).trans (if_pos hcrc)))
    · exact congrArg _ (loadEnd_applies ho ((xfer hop).trans ((if_neg (by simp [hcrc, hlen])).trans (if_pos (xferBad_eq_true.mpr hbad)))))
    · exact congrArg _ (loadEnd_applies ho ((xfer hop).trans
        ((if_neg (by simp [hcrc, hlen])).trans (if_neg (by simp [xferBad_eq_false.mpr hgood])))))
    · subst hw hh hv
      exact congrArg _ (loadEnd_applies ho (loadApply_still d s hop))
    · have hkeep := busWrite_frame (o.arg.getD 2 0) 23 (bufBytes w h / 4096 + 2) (stillSurf o.target w h).base
        (d.take (bufBytes w h)) s (Agree.refl { mem := true } s) rfl
      rw [hv]
      exact ⟨hkeep.comp.resolve_left Bool.false_ne_true, hkeep.scan.resolve_left Bool.false_ne_true⟩
  case commit =>
    rintro c s u m ks g n rfl ht hm hks hnamed hall hn
    have committable (k : Nat) (hk : k ∈ ks) : Committable g (takeCmd c s) k := by
      obtain ⟨hset, hgen, hlawful, hopen⟩ := hall k hk
      exact ⟨by simpa using hset, by simpa using hgen, by simpa using hlawful, by simpa using hopen⟩
    have hop := opLayoutCommit_judged hm hks (by simpa using hn) hnamed committable
    rw [slotClash_takeCmd, ledgerLatest_takeCmd, commitLate_takeCmd, takeCmd_comp] at hop
    have refused {x : State} {status : Nat} {detail : W32} (h : opLayoutCommit c (takeCmd c s) = (x, .no status detail)) :
        exec (.layoutCommit c) s = .next (answer 0x0408 c s (.no status detail) x) :=
      congrArg _ (hostCommand_answers ht (supplied_refused h))
    refine ⟨fun x hclash => ?_, fun hclash htally => ?_, fun hclash htally hcap => ?_, fun hclash htally hcap hnext hcut hmet => ?_,
      fun hclash htally hcap hlate => ?_⟩ <;> rw [hclash] at hop
    · exact refused hop
    · exact refused (hop.trans (if_pos htally))
    · exact refused (hop.trans ((if_neg (Nat.not_lt.mpr htally)).trans (if_pos hcap)))
    · rw [takeCmd_comp]
      exact congrArg _ (hostCommand_answers ht ((if_pos hmet).trans (hop.trans ((if_neg (Nat.not_lt.mpr htally)).trans
        ((if_neg (by simp [hcap])).trans (if_neg (by simp [commitLate_eq_false.mpr ⟨hnext, hcut⟩])))))))
    · exact refused (hop.trans ((if_neg (Nat.not_lt.mpr htally)).trans
        ((if_neg (by simp [hcap])).trans (if_pos (commitLate_eq_true.mpr hlate)))))
  case cancel =>
    rintro c s u rfl ht
    refine ⟨fun k hk => ?_, fun hnone => congrArg _ (hostCommand_answers ht (opLayoutCancel_unknown (by simpa using hnone)))⟩
    have hop := opLayoutCancel_found (s := takeCmd c s) (by simpa using hk)
    simp only [commitCut_takeCmd, t0Ns_takeCmd, takeCmd_comp] at hop
    refine ⟨fun hcut => ?_, fun hlate => congrArg _ (hostCommand_answers ht (hop.trans (if_pos hlate)))⟩
    rw [takeCmd_comp]
    exact congrArg _ (hostCommand_answers ht (hop.trans (if_neg (by simpa using hcut))))

end Sys2Proof.Machine
end

section
/-! SUPPORT. The links of outputs: what a change of VHPD, a training and a poll of the sink's echo make of an output and leave of the
others; the obligation about them. -/

namespace Sys2Proof.Machine

/-! ### What changes an output alone -/

/-- Of the outputs, the memory and the compositor, `t` differs from `s` in output `o` at most, which has become `x`. -/
structure OutputBecomes (o : Nat) (x : Output) (s t : State) : Prop where
  output : outGet t o = x
  others : ∀ p, p ≠ o → outGet t p = outGet s p
  mem : t.mem = s.mem
  comp : t.comp = s.comp

theorem OutputBecomes.refl (o : Nat) (s : State) : OutputBecomes o (outGet s o) s s := ⟨rfl, fun _ _ => rfl, rfl, rfl⟩

/-- An event raised meanwhile makes no difference. -/
theorem OutputBecomes.raise {o : Nat} {x : Output} {s t : State} (h : OutputBecomes o x s t) (code : Nat) (ws : List W32) :
    OutputBecomes o x s (raise code ws t) :=
  ⟨by simpa using h.output, by simpa using h.others, by simpa using h.mem, by simpa using h.comp⟩

/-- An output replaced after another change of it. -/
theorem OutputBecomes.outSet {o : Nat} {x : Output} {s t : State} (h : OutputBecomes o x s t) (y : Output) :
    OutputBecomes o y s (outSet o y t) :=
  ⟨by simp, fun p hp => by simpa [hp] using h.others p hp, h.mem, h.comp⟩

theorem OutputBecomes.outUpd {o : Nat} {x : Output} {s t : State} (h : OutputBecomes o x s t) (f : Output → Output) :
    OutputBecomes o (f x) s (outUpd o f t) := by
  rw [← h.output]
  exact h.outSet _

theorem OutputBecomes.ite {o : Nat} {x : Output} {c : Prop} [Decidable c] {s t u : State} (ht : OutputBecomes o x s t)
    (hu : OutputBecomes o x s u) : OutputBecomes o x s (if c then t else u) := by
  split
  · exact ht
  · exact hu

/-- OUTPUT_LINK changes the output's LINK code alone (R379). -/
theorem OutputBecomes.linkEvent {o : Nat} {x : Output} {s t : State} (h : OutputBecomes o x s t) (code : Nat) :
    OutputBecomes o { x with link := code } s (linkEvent o code t) :=
  (h.outUpd fun x => { x with link := code }).raise ..

theorem OutputBecomes.trainBegin {o : Nat} {x : Output} {s t : State} (h : OutputBecomes o x s t) :
    OutputBecomes o { x with up := false, training := true, trainFailed := none } s (trainBegin o t) :=
  h.outUpd fun x => { x with up := false, training := true, trainFailed := none }

/-! ### VHPD (R379) -/

theorem vhpdHigh_rises {o : Nat} {s : State} (hlow : (outGet s o).vhpd = false) (hh : linkHandled s o = true) :
    OutputBecomes o { outGet s o with vhpd := true, link := 1, up := false, training := true, trainFailed := none } s (vhpdHigh o s) := by
  simp only [vhpdHigh, hlow, hh, Bool.false_eq_true, if_false, if_true]
  exact (((OutputBecomes.refl o s).outUpd fun x => { x with vhpd := true }).linkEvent 1).trainBegin

theorem vhpdLow_falls {o : Nat} {s : State} (hhigh : (outGet s o).vhpd = true) (hh : linkHandled s o = true) :
    OutputBecomes o { outGet s o with vhpd := false, link := 0, up := false, training := false, trainFailed := none } s (vhpdLow o s) := by
  simp only [vhpdLow, hhigh, hh, Bool.not_true, Bool.false_eq_true, if_false, if_true]
  exact (((OutputBecomes.refl o s).outUpd fun x => { x with vhpd := false }).outUpd
    fun x => { x with up := false, training := false, trainFailed := none }).linkEvent 0

theorem vhpdIrq_other {o : Nat} {s : State} (b : Bool) (h : (outGet s o).up = false ∨ linkHandled s o = false) : vhpdIrq o b s = s := by
  unfold vhpdIrq
  refine if_neg ?_
  rcases h with h | h <;> simp [h]

/-! ### Trainings (R379, R396 to R398, R403) -/

/-- An output whose training of result `t` has succeeded under record `r` at T0 `now`: the features that sink and record allow, and the next
frame to go whole (log 26). -/
def trained (x : Output) (r : List W32) (t : LinkTraining) (now : Nat) : Output :=
  let pr := orPr r && t.pr
  { x with
    training := false, up := true, ever := true, pr := pr, echo := t.testCrc && !pr, whole := true,
    async := orAsync r && !pr && (match t.asyncMin with | some m => m ≤ orAsyncMin r | none => false),
    trainedAt := x.trainedAt.orElse fun _ => some now,
    link := if x.ever then 5 else 2 }

theorem trained_async {x : Output} {r : List W32} {t : LinkTraining} {now : Nat} : (trained x r t now).async = true ↔
    orAsync r = true ∧ (trained x r t now).pr = false ∧ ∃ m, t.asyncMin = some m ∧ m ≤ orAsyncMin r := by
  simp only [trained, Bool.and_eq_true, Bool.not_eq_true', and_assoc]
  cases t.asyncMin <;> simp

theorem trainEnd_other {o : Nat} {s : State} (t : LinkTraining) (h : (outGet s o).training = false ∨ linkHandled s o = false) :
    trainEnd o t s = s := by
  unfold trainEnd
  refine if_pos ?_
  rcases h with h | h <;> simp [h]

section
variable {o : Nat} {t : LinkTraining} {s : State} (htraining : (outGet s o).training = true) (hh : linkHandled s o = true)
include htraining hh

theorem trainEnd_succeeds (hok : t.ok = true) : OutputBecomes o (trained (outGet s o) (outRec s o) t (t0Ns s)) s (trainEnd o t s) := by
  simp only [trainEnd, htraining, hh, hok, Bool.and_self, Bool.not_true, Bool.false_eq_true, if_false, if_true]
  have stored := (OutputBecomes.refl o s).outSet { trained (outGet s o) (outRec s o) t (t0Ns s) with link := (outGet s o).link }
  exact stored.linkEvent (if (outGet s o).ever then 5 else 2)

theorem trainEnd_fails (hok : t.ok = false) :
    OutputBecomes o { outGet s o with training := false, up := false, trainFailed := some (t2Ns s), link := 3 } s (trainEnd o t s) := by
  simp only [trainEnd, htraining, hh, hok, Bool.and_self, Bool.not_true, Bool.false_eq_true, if_false]
  have stored := (OutputBecomes.refl o s).outSet
    { outGet s o with training := false, up := false, trainFailed := some (t2Ns s) }
  exact stored.linkEvent 3

end

theorem trainRetry_due {o a : Nat} {s : State} (hfailed : (outGet s o).trainFailed = some a) (hh : linkHandled s o = true)
    (hhigh : (outGet s o).vhpd = true) (hdue : a + 1000000000 ≤ t2Ns s) : trainRetry o s = trainBegin o s := by
  simp [trainRetry, hfailed, hh, hhigh, hdue]

theorem trainRetry_early {o a : Nat} {s : State} (hfailed : (outGet s o).trainFailed = some a)
    (h : t2Ns s < a + 1000000000 ∨ linkHandled s o = false ∨ (outGet s o).vhpd = false) : trainRetry o s = s := by
  simp only [trainRetry, hfailed]
  refine if_neg ?_
  rcases h with h | h | h <;> simp [h]

theorem trainRetry_none {o : Nat} {s : State} (h : (outGet s o).trainFailed = none) : trainRetry o s = s := by
  simp only [trainRetry, h]

/-! ### Sink echo (R402, R403, R473) -/

/-- The time in ns from one poll of output `o` to the next. -/
def echoGap (o : Nat) (s : State) : Nat := (if drillEchoes s = true then 100 else orEchoInt (outRec s o)) * 1000000

/-- The sink's echo of output `o` is to be polled. -/
def EchoDue (o : Nat) (s : State) : Prop :=
  (outGet s o).en = true ∧ (outGet s o).up = true ∧ (outGet s o).echo = true ∧ (orEcho (outRec s o) = true ∨ drillEchoes s = true) ∧
    (outGet s o).echoAt + echoGap o s ≤ t2Ns s

/-- The three CRCs of an echo as one number. -/
def echoValue (e : EchoRead) : Nat := e.r.toNat * 2 ^ 32 + e.g.toNat * 2 ^ 16 + e.b.toNat

/-- An answer matches: its CRCs are those of a frame sent, and its count has moved on. -/
def echoMatches (x : Output) : Option EchoRead → Bool
  | some e => x.testCrcs.contains (echoValue e) && x.echoCount != some e.count
  | none => false

/-- An output after a poll at T2 `now` that brought the answer `a`. -/
def polled (x : Output) (a : Option EchoRead) (now : Nat) : Output :=
  { x with echoCount := (a.map fun e => e.count).orElse fun _ => x.echoCount, echoBad := !echoMatches x a, echoAt := now }

theorem polled_match {x : Output} {e : EchoRead} {now : Nat} : (polled x (some e) now).echoBad = false ↔
    x.testCrcs.contains (echoValue e) = true ∧ x.echoCount ≠ some e.count := by
  simp [polled, echoMatches]

/-- What counts for a drill is kept by the pair unit alone. -/
theorem OutputBecomes.drillEcho {o : Nat} {x : Output} {s t : State} (h : OutputBecomes o x s t) (good : Bool) :
    OutputBecomes o x s (drillEcho o good t) := by
  have hkeep := drillEcho_frame o good t (Agree.refl { pair := true } t) rfl
  have hscan := hkeep.scan.resolve_left Bool.false_ne_true
  have hout (p : Nat) : outGet (Machine.drillEcho o good t) p = outGet t p := by simp only [outGet, hscan]
  exact ⟨(hout o).trans h.output, fun p hp => (hout p).trans (h.others p hp),
    (hkeep.mem.resolve_left Bool.false_ne_true).trans h.mem, (hkeep.comp.resolve_left Bool.false_ne_true).trans h.comp⟩

theorem echoPoll_due {o : Nat} (a : Option EchoRead) {s : State} (h : EchoDue o s) :
    OutputBecomes o (polled (outGet s o) a (t2Ns s)) s (echoPoll o a s) := by
  obtain ⟨hen, hup, hecho, hwanted, hdue⟩ := h
  have drilled := ((OutputBecomes.refl o s).outSet (polled (outGet s o) a (t2Ns s))).drillEcho (echoMatches (outGet s o) a)
  unfold echoPoll
  dsimp only
  rw [if_neg (by simp only [hen, hup, hecho, Bool.or_eq_true_iff.mpr hwanted]; simpa [echoGap] using hdue)]
  cases a with
  | none => exact drilled.ite (drilled.raise ..)
  | some e => exact drilled.ite (drilled.raise ..)

theorem echoPoll_other {o : Nat} (a : Option EchoRead) {s : State} (h : ¬ EchoDue o s) : echoPoll o a s = s := by
  unfold echoPoll
  refine if_pos (Classical.byContradiction fun hpolls => h ?_)
  simp only [Bool.or_eq_true, Bool.not_eq_true', not_or, Bool.not_eq_false, Bool.and_eq_true, decide_eq_true_eq, Nat.not_lt] at hpolls
  obtain ⟨⟨⟨⟨hen, hup⟩, hecho⟩, hwanted⟩, hdue⟩ := hpolls
  exact ⟨hen, hup, hecho, hwanted, hdue⟩

/-! ### The obligation -/

section
variable {o : Nat} (s : State) (ho : o < 48)
include ho

theorem exec_vhpdHigh : exec (.vhpdHigh o) s = .next (vhpdHigh o s) :=
  congrArg (fun k => Host.Outcome.next (vhpdHigh k s)) (Nat.mod_eq_of_lt ho)

theorem exec_vhpdLow : exec (.vhpdLow o) s = .next (vhpdLow o s) :=
  congrArg (fun k => Host.Outcome.next (vhpdLow k s)) (Nat.mod_eq_of_lt ho)

theorem exec_vhpdIrqPulse (b : Bool) : exec (.vhpdIrqPulse o b) s = .next (vhpdIrq o b s) :=
  congrArg (fun k => Host.Outcome.next (vhpdIrq k b s)) (Nat.mod_eq_of_lt ho)

theorem exec_outputLinkTrainingEnd (t : LinkTraining) : exec (.outputLinkTrainingEnd o t) s = .next (trainEnd o t s) :=
  congrArg (fun k => Host.Outcome.next (trainEnd k t s)) (Nat.mod_eq_of_lt ho)

theorem exec_linkTrainingRetry : exec (.linkTrainingRetry o) s = .next (trainRetry o s) :=
  congrArg (fun k => Host.Outcome.next (trainRetry k s)) (Nat.mod_eq_of_lt ho)

theorem exec_sinkEchoPoll (a : Option EchoRead) : exec (.sinkEchoPoll o a) s = .next (echoPoll o a s) :=
  congrArg (fun k => Host.Outcome.next (echoPoll k a s)) (Nat.mod_eq_of_lt ho)

end

/-- Settles O50, clause by clause: the changes of VHPD and its pulse, the end of a training, its retry, and the poll of the sink's echo. -/
theorem linksFollowVhpdTrainingAndEcho : Obligations.LinksFollowVhpdTrainingAndEcho := by
  unfold Obligations.LinksFollowVhpdTrainingAndEcho
  refine ⟨fun o s ho => ?vhpd, fun o x s ho => ?training, fun o s ho => ?retry, fun o gap a s ho hgap => ?echo⟩
  case vhpd =>
    simp only [exec_vhpdHigh s ho, exec_vhpdLow s ho, exec_vhpdIrqPulse s ho, Host.Outcome.next.injEq]
    refine ⟨fun hhigh => ?_, fun hlow => ?_, fun hlow hh => ?_, fun hlow hh => ?_, fun hhigh hh => ?_, fun hhigh hh => ?_,
      fun hh hup => ?_, fun b h => vhpdIrq_other b h⟩
    · simp [vhpdHigh, hhigh]
    · simp [vhpdLow, hlow]
    · obtain ⟨houtput, hothers, hmem, hcomp⟩ := vhpdHigh_rises hlow hh
      exact ⟨_, rfl, houtput, hothers, hmem, hcomp⟩
    · simp [vhpdHigh, hlow, hh, outUpd]
    · obtain ⟨houtput, hothers, hmem, hcomp⟩ := vhpdLow_falls hhigh hh
      exact ⟨_, rfl, houtput, hothers, hmem, hcomp⟩
    · simp [vhpdLow, hhigh, hh, outUpd]
    · simp [vhpdIrq, hh, hup]
  case training =>
    rw [exec_outputLinkTrainingEnd s ho]
    refine ⟨fun h => by rw [trainEnd_other x h], fun htraining hh => ⟨fun hok => ?_, fun hok => ?_⟩⟩
    · obtain ⟨houtput, hothers, hmem, -⟩ := trainEnd_succeeds htraining hh hok
      exact ⟨_, _, rfl, houtput.symm, rfl, rfl, rfl, rfl, rfl, trained_async, rfl, rfl, fun hfirst => by simp [trained, hfirst],
        hothers, hmem⟩
    · obtain ⟨houtput, hothers, hmem, -⟩ := trainEnd_fails htraining hh hok
      exact ⟨_, rfl, houtput, hothers, hmem⟩
  case retry =>
    simp only [exec_linkTrainingRetry s ho, Host.Outcome.next.injEq]
    exact ⟨fun a => trainRetry_due, fun a => trainRetry_early, trainRetry_none⟩
  case echo =>
    subst hgap
    rw [exec_sinkEchoPoll s ho]
    refine ⟨fun h => ?_, fun hen hup hecho hwanted hdue => ?_⟩
    · rw [echoPoll_other]
      rintro ⟨hen, hup, hecho, hwanted, hdue⟩
      simp only [hen, hup, hecho, Bool.true_eq_false, false_or] at h
      obtain ⟨hrecord, hdrill⟩ | hearly := h
      · simp [hrecord, hdrill] at hwanted
      · exact absurd hdue (Nat.not_le.mpr hearly)
    · obtain ⟨houtput, hothers, hmem, -⟩ := echoPoll_due a ⟨hen, hup, hecho, hwanted, hdue⟩
      refine ⟨_, rfl, ?_⟩
      rw [houtput]
      refine ⟨rfl, ?_, ?_, hothers, hmem⟩
      · rintro rfl
        exact ⟨rfl, rfl⟩
      · rintro e rfl
        exact ⟨rfl, polled_match⟩

end Sys2Proof.Machine
end

section
/-! SUPPORT. The encoder's channels: what their commands, the copy of their coefficients and a write of their consumer offset leave; the
obligation about them. -/

namespace Sys2Proof.Machine

/-! ### A channel changed -/

@[simp] theorem ecGet_ecUpd (k j : Nat) (f : EncChan → EncChan) (s : State) :
    ecGet (ecUpd k f s) j = if j = k then f (ecGet s k) else ecGet s j := ecGet_ecSet ..

@[simp] theorem encBad_takeCmd (c : Cmd) (s : State) (r : List W32) : encBad (takeCmd c s) r = encBad s r :=
  takeCmd_same (encBad · r) (fun _ _ => rfl) c s

@[simp] theorem ecGet_encStateEvent (k kind cause n : Nat) (s : State) (j : Nat) : ecGet (encStateEvent k kind cause n s) j = ecGet s j :=
  ecGet_raise ..

/-! ### The assignment (R429) -/

/-- An assignment of kinds changes of a channel only the kind that waits for its next recorded frame. -/
theorem ecGet_encAssign (named : Option Nat) (s : State) (j : Nat) :
    ∃ next, ecGet (encAssign named s) j = { ecGet s j with next := next } := by
  refine List.foldlRecOn (motive := fun t => ∃ next, ecGet t j = { ecGet s j with next := next }) _ _ ⟨_, rfl⟩
    fun t ⟨next, ht⟩ p _ => ?_
  rw [ecGet_ecSet]
  split
  · next hj =>
    subst hj
    exact ⟨_, by rw [ht]⟩
  · exact ⟨next, ht⟩

theorem encAssign_mem (named : Option Nat) (s : State) : (encAssign named s).mem = s.mem :=
  (encAssign_frame named s (Agree.refl { enc := true } s) rfl).mem.resolve_left Bool.false_ne_true

/-! ### ENC_SET (R412, R413) -/

theorem opEncSet_judged {c : Cmd} {s : State} {r : List W32} (hr : r = wordsOf 16 (crec c)) : opEncSet c s =
    if (ecGet s (erChan r)).en then (s, held 0xFF (erChan r))
    else match encBad s r with
      | some n => (s, badRecord n)
      | none => (ecSet (erChan r) { ecGet s (erChan r) with rcd := r } s, .ok []) := by
  subst hr
  unfold opEncSet
  simp only [checked_cons, checked_nil]
  cases encBad s (wordsOf 16 (crec c)) <;> rfl

/-! ### A channel disabled (R412, R429) -/

/-- A disabled channel: it keeps its record, its coefficients and its output buffer, and gives up its frames. -/
def stoppedChan (x : EncChan) : EncChan := { x with en := false, kind := 0, next := none, frames := [] }

/-- The block with channel `k` disabled, and the event that tells of it where the channel had a kind. -/
def chanStopped (k : Nat) (s : State) : State :=
  if (ecGet s k).kind = 0 then ecSet k (stoppedChan (ecGet s k)) s
  else encStateEvent k 0 1 (encGen s (ecGet s k).rcd).next (ecSet k (stoppedChan (ecGet s k)) s)

theorem ecGet_chanStopped (k j : Nat) (s : State) :
    ecGet (chanStopped k s) j = if j = k then stoppedChan (ecGet s k) else ecGet s j := by
  unfold chanStopped
  split <;> simp

theorem chanStopped_mem (k : Nat) (s : State) : (chanStopped k s).mem = s.mem := by
  unfold chanStopped encStateEvent
  split <;> simp

/-- Channel `k` disabled and the others assigned anew: `k` has given up its frames and keeps its record and its offsets; the others stay
enabled or disabled, with their frames. -/
theorem encAssign_chanStopped (k : Nat) (s : State) : ∀ t, t = encAssign none (chanStopped k s) → (ecGet t k).en = false ∧
    (ecGet t k).frames = [] ∧ (ecGet t k).kind = 0 ∧ (ecGet t k).rcd = (ecGet s k).rcd ∧ (ecGet t k).cons = (ecGet s k).cons ∧
    (∀ i, i ≠ k → (ecGet t i).en = (ecGet s i).en ∧ (ecGet t i).frames = (ecGet s i).frames) ∧ t.mem = s.mem := by
  rintro _ rfl
  obtain ⟨next, hself⟩ := ecGet_encAssign none (chanStopped k s) k
  rw [ecGet_chanStopped, if_pos rfl] at hself
  rw [hself, encAssign_mem, chanStopped_mem]
  refine ⟨rfl, rfl, rfl, rfl, rfl, fun i hi => ?_, rfl⟩
  obtain ⟨_, hother⟩ := ecGet_encAssign none (chanStopped k s) i
  rw [hother, ecGet_chanStopped, if_neg hi]
  exact ⟨rfl, rfl⟩

/-! ### ENC_ENABLE (R413, R427, R429, R683; the record's re-check by log 37) -/

/-- The present state asks of VCORE nothing that it does not ask already. -/
theorem raisedReqs_self (s : State) : raisedReqs s s = [] := by
  rw [raisedReqs, List.filterMap_eq_nil_iff]
  intro d _
  cases h : loadFraction s d with
  | none => rfl
  | some p => simp

/-- A command that is accepted and changes nothing waits for no supply (R610). -/
theorem supplied_unchanged {op : Nat} {f : Cmd → State → State × Reply} {c : Cmd} {s : State} {ws : List W32} (hop : op ≠ 0x0006)
    (h : f c s = (s, .ok ws)) : supplied op f c s = (s, .ok ws) := by
  have hneeds : supplyNeeds op f c s = [] := by simp [supplyNeeds, supplyState, h, hop, raisedReqs_self]
  simp [supplied, hneeds, supplyMet, h]

/-- A channel as ENC_ENABLE starts it: of what it was, its record and its coefficients stay. -/
def startedChan (x : EncChan) : EncChan := { rcd := x.rcd, coefs := x.coefs, en := true, keyDue := true, refill := true }

section
variable {c : Cmd} {s : State} {k : Nat} (hk : k = (cw c 4).toNat)
include hk

theorem opEncEnable_unset (h : 7 < k ∨ (ecGet s k).rcd = []) : opEncEnable c s = (s, badField 16) := by
  subst hk
  unfold opEncEnable chanArg
  exact checked_fail _ _ (by obtain h | h := h <;> simp [h])

/-- ENC_ENABLE of a channel that has a record: refused where the domain, a viewport's output or the record does not serve, or carried
out. -/
theorem opEncEnable_judged (hmax : k ≤ 7) (hset : (ecGet s k).rcd ≠ []) : opEncEnable c s =
    if !bitOf s.pwr.domains 8 || bitOf s.pwr.iso 8 then (s, held 0xFF 8)
    else if (ecGet s k).en then (s, .ok [])
    else if erView (ecGet s k).rcd && !(outGet s (erSrc (ecGet s k).rcd)).en then (s, held 0xFF (erSrc (ecGet s k).rcd))
    else if (encBad s (ecGet s k).rcd).isSome then (s, badField 16)
    else (encAssign (some k) (ecSet k (startedChan (ecGet s k)) s), .ok []) := by
  subst hk
  have hchan : (decide (7 < (cw c 4).toNat) || (ecGet s (cw c 4).toNat).rcd.isEmpty) = false := by simp [hmax, hset]
  unfold opEncEnable chanArg domainOff
  simp only [checked_cons, checked_nil, hchan, Bool.false_eq_true, if_false]
  cases (ecGet s (cw c 4).toNat).en <;> rfl

/-! ### ENC_DISABLE (R412, R429) -/

theorem opEncDisable_range (h : 7 < k) : opEncDisable c s = (s, badField 16) := by
  subst hk
  unfold opEncDisable chanArg
  exact checked_fail _ _ (by simp [h])

theorem opEncDisable_inRange (hmax : k ≤ 7) : opEncDisable c s =
    if (ecGet s k).en then (encAssign none (chanStopped k s), .ok []) else (s, .ok []) := by
  subst hk
  unfold opEncDisable chanArg
  dsimp only
  rw [checked_pass _ _ (by simp [Nat.not_lt.mpr hmax])]
  cases (ecGet s (cw c 4).toNat).en <;> rfl

/-! ### ENC_COEF_LOAD and ENC_KEYFRAME (R412, R417) -/

theorem opEncCoefLoad_eq : opEncCoefLoad c s = if 7 < k then (s, badField 16) else (s, .later k [(cw c 6).toNat]) := by
  subst hk
  unfold opEncCoefLoad chanArg
  simp only [checked_cons, checked_nil, decide_eq_true_eq]

theorem opEncKeyframe_eq : opEncKeyframe c s = if 7 < k ∨ (ecGet s k).en = false then (s, badField 16)
    else (ecSet k { ecGet s k with keyAsk := true } s, .ok []) := by
  subst hk
  unfold opEncKeyframe chanArg
  simp only [checked_cons, checked_nil, Bool.or_eq_true, decide_eq_true_eq, Bool.not_eq_true']
  rfl

end

theorem loadApply_enc {o : Outst} (d : List Byte) (s : State) (hop : o.opcode = 0x0603) :
    loadApply o d s = encCoefLoaded o.target (o.arg.getD 0 0) d s := by
  simp only [loadApply, hop]

theorem encCoefLoaded_eq (k crc : Nat) (image : List Byte) (s : State) : encCoefLoaded k crc image s =
    if crc32c image ≠ crc then (s, badField 24) else if coefBad image then (s, badRecord 0)
    else (ecSet k { ecGet s k with coefs := some (coefsOf image) } s, .ok []) := by
  simp only [encCoefLoaded, checked_cons, checked_nil, bne_iff_ne]
  rfl

/-! ### VC_ENCc_CONS (R683) -/

/-- The whole word of a write through BAR0 that passes the checks of R583 takes effect. -/
theorem regWrite_writes {off : Nat} {a : RegW} {s : State} (i : RegInfo) (eff : W32 → State → State) (h : Writes off a s) :
    regWrite off i a eff s = eff a.val s := by
  obtain ⟨hpath, hbe, hpass⟩ := h
  simp only [regWrite, hpath, hpass, hbe, if_true]

theorem exec_vcEncConsWrite {k : Nat} {a : RegW} {s : State} (hk : k < 8) (h : Writes (0xC100 + 0x10 * k) a s) :
    exec (.vcEncConsWrite k a) s = .next (encConsWrite k a.init a.val s) := by
  show Host.Outcome.next (regWrite (0xC100 + 0x10 * (k % 8)) (encConsInfo (k % 8) s) a (encConsWrite (k % 8) a.init) s) = _
  rw [Nat.mod_eq_of_lt hk, regWrite_writes _ _ h]

/-- An offset that the consumer may move to: a multiple of 64 in the buffer, not past the producer. -/
theorem consOk_eq_true {x : EncChan} {n : Nat} : consOk x n = true ↔ n % 64 = 0 ∧ 64 ≤ n ∧ n ≤ 2 ^ erLog2 x.rcd - 64 ∧
    ((x.cons ≤ x.prod ∧ x.cons ≤ n ∧ n ≤ x.prod) ∨ (x.prod < x.cons ∧ (x.cons ≤ n ∨ n ≤ x.prod))) := by
  unfold consOk
  by_cases h : x.cons ≤ x.prod
  · simp [h, Nat.not_lt.mpr h, and_assoc]
  · simp [h, Nat.not_le.mp h, and_assoc]

/-! ### The obligation -/

/-- Settles O52, clause by clause: the five commands, the end of a coefficient bank's copy, and the consumer offset. -/
theorem encodeChannelsAreSetAndEnabled : Obligations.EncodeChannelsAreSetAndEnabled := by
  unfold Obligations.EncodeChannelsAreSetAndEnabled
  refine ⟨?set, ?commands, fun s o d ho hop => ?loads, ?consumer⟩
  case set =>
    rintro c s u r k rfl ht hr rfl
    have hop := opEncSet_judged (s := takeCmd c s) hr
    simp only [ecGet_takeCmd] at hop
    refine ⟨fun hen => ?_, fun n hen hbad => ?_, fun hen hgood => ?_⟩
    · exact congrArg _ (hostCommand_answers ht (hop.trans (if_pos hen)))
    · exact congrArg _ (hostCommand_answers ht (hop.trans (by simp only [hen, hbad, Bool.false_eq_true, if_false])))
    · exact congrArg _ (hostCommand_answers ht (hop.trans (by simp only [hen, hgood, Bool.false_eq_true, if_false])))
  case commands =>
    rintro c s u k x rfl hk rfl
    have enable (hmax : k ≤ 7) (hset : (ecGet s k).rcd ≠ []) := opEncEnable_judged (s := takeCmd c s) hk hmax (by simpa using hset)
    have keyframe := opEncKeyframe_eq (s := takeCmd c s) hk
    simp only [takeCmd_pwr, ecGet_takeCmd, outGet_takeCmd, encBad_takeCmd] at enable keyframe
    refine ⟨fun ht h => ?_, fun ht hmax hset hoff => ?_, fun ht hmax hset hdomain hiso => ?_, fun ht hmax => ?_, fun ht hmax hen => ?_,
      fun ht hmax hen => ?_, fun ht hmax => ?_, fun ht hmax => ?_, fun ht hmax hen => ?_, fun ht h => ?_⟩
    · exact congrArg _ (hostCommand_answers ht (supplied_refused (opEncEnable_unset hk (by simpa using h))))
    · exact congrArg _ (hostCommand_answers ht (supplied_refused ((enable hmax hset).trans (if_pos (by simpa using hoff)))))
    · have hop := (enable hmax hset).trans (if_neg (by simp [hdomain, hiso]))
      have served (hsource : erView (ecGet s k).rcd = false ∨ (outGet s (erSrc (ecGet s k).rcd)).en = true) :
          ¬ (erView (ecGet s k).rcd && !(outGet s (erSrc (ecGet s k).rcd)).en) = true := by
        obtain hview | hout := hsource
        · simp [hview]
        · simp [hout]
      refine ⟨fun hen => ?_, fun hen hview hout => ?_, fun hen hsource hbad => ?_, fun hen hsource hgood hmet => ?_⟩
      · exact congrArg _ (hostCommand_answers ht (supplied_unchanged (by decide) (hop.trans (if_pos hen))))
      · exact congrArg _ (hostCommand_answers ht (supplied_refused (hop.trans ((if_neg (by simp [hen])).trans
          (if_pos (by simp [hview, hout]))))))
      · rw [encBad_takeCmd] at hbad
        exact congrArg _ (hostCommand_answers ht (supplied_refused (hop.trans ((if_neg (by simp [hen])).trans
          ((if_neg (served hsource)).trans (if_pos (Option.isSome_iff_ne_none.mpr hbad)))))))
      · rw [encBad_takeCmd] at hgood
        exact congrArg _ (hostCommand_answers ht ((if_pos hmet).trans (hop.trans ((if_neg (by simp [hen])).trans
          ((if_neg (served hsource)).trans (if_neg (by simp [hgood])))))))
    · exact congrArg _ (hostCommand_answers ht (opEncDisable_range hk hmax))
    · exact congrArg _ (hostCommand_answers ht ((opEncDisable_inRange hk hmax).trans (if_neg (by simp [hen]))))
    · have hothers (i : Nat) (hi : i ≠ k) : ecGet (chanStopped k (takeCmd c s)) i = ecGet s i := by simp [ecGet_chanStopped, hi]
      obtain ⟨hstopped, hframes, hkind, hrcd, hcons, hleft, hmem⟩ := encAssign_chanStopped k (takeCmd c s) _ rfl
      simp only [ecGet_takeCmd, takeCmd_mem] at hrcd hcons hleft hmem
      exact ⟨_, _, congrArg _ (hostCommand_answers ht ((opEncDisable_inRange hk hmax).trans (if_pos (by simpa using hen)))), rfl,
        by simp [ecGet_chanStopped, stoppedChan], hothers, hstopped, hframes, hkind, hrcd, hcons, hleft, hmem⟩
    · exact congrArg _ (hostCommand_answers ht ((opEncCoefLoad_eq hk).trans (if_neg (Nat.not_lt.mpr hmax))))
    · exact congrArg _ (hostCommand_answers ht ((opEncCoefLoad_eq hk).trans (if_pos hmax)))
    · exact congrArg _ (hostCommand_answers ht (keyframe.trans (if_neg (by simp [hmax, hen]))))
    · exact congrArg _ (hostCommand_answers ht (keyframe.trans (if_pos h)))
  case loads =>
    have hload := (loadApply_enc d s hop).trans (encCoefLoaded_eq ..)
    refine ⟨fun hcrc hgood => ?_, fun hcrc => ?_, fun hcrc hbad => ?_, ?_⟩
    · exact congrArg _ (loadEnd_applies ho (hload.trans ((if_neg (· hcrc)).trans (if_neg (by simp [hgood])))))
    · exact congrArg _ (loadEnd_applies ho (hload.trans (if_pos hcrc)))
    · exact congrArg _ (loadEnd_applies ho (hload.trans ((if_neg (· hcrc)).trans (if_pos hbad))))
    · show Host.Outcome.next (loadEnd none s) = _
      simp only [loadEnd, ho]
      rfl
  case consumer =>
    rintro k a s x n hk hw rfl rfl
    rw [exec_vcEncConsWrite hk hw]
    refine ⟨fun hmult hmin hmax horder => ?_, fun h => ?_⟩
    · exact congrArg _ (if_pos (consOk_eq_true.mpr ⟨hmult, hmin, hmax, horder⟩))
    · refine congrArg _ (if_neg fun hok => ?_)
      obtain ⟨hmult, hmin, hmax, horder⟩ := consOk_eq_true.mp hok
      omega

end Sys2Proof.Machine
end

section
/-! SUPPORT. The encoder's frames: how a channel takes up a source frame, closes its input and writes its record, and the summaries of its
unrecorded rows; the obligation about them. -/

namespace Sys2Proof.Machine

/-! ### What leaves the channels as they are -/

theorem Agree.ecGet {m : Units} {s t : State} (h : Agree m s t) (hm : m.enc = false) (k : Nat) : ecGet t k = ecGet s k := by
  unfold Sys2Proof.Machine.ecGet
  rw [h.enc.resolve_left (by simp [hm])]

/-- A channel's generator is read from the time bases, the outputs and the canvases. -/
theorem Agree.encGen {m : Units} {s t : State} (h : Agree m s t) (htb : m.tb = false) (hscan : m.scan = false) (hcomp : m.comp = false)
    (r : List W32) : encGen t r = encGen s r := by
  unfold Sys2Proof.Machine.encGen encGenNo flGet outRec outGet
  rw [h.tb.resolve_left (by simp [htb]), h.scan.resolve_left (by simp [hscan]), h.comp.resolve_left (by simp [hcomp])]

@[simp] theorem ecGet_custodyReport (stage init inst still surf frame : Nat) (fs : List Failure) (s : State) (k : Nat) :
    ecGet (custodyReport stage init inst still surf frame fs s) k = ecGet s k :=
  (custodyReport_frame stage init inst still surf frame fs s (Agree.refl { str := true } s) rfl).ecGet rfl k

@[simp] theorem ecGet_readFrame (k n : Nat) (env : EncEnv) (s : State) (j : Nat) : ecGet (readFrame k n env s).2.2.2 j = ecGet s j :=
  (readFrame_frame k n env s (Agree.refl { mem := true, str := true } s) rfl rfl).ecGet rfl j

/-- An audit entry changes the audit ring and its counts, and no channel. -/
@[simp] theorem ecGet_auditWrite (ws : List W32) (s : State) (k : Nat) : ecGet (auditWrite ws s) k = ecGet s k := by
  unfold auditWrite
  dsimp only
  split
  · exact (ringWrite_frame 0 14 _ false _ (Agree.refl {} _)).ecGet rfl k
  · split
    · rfl
    · exact ecGet_raise ..

/-! ### One channel changed -/

/-- Channel `k` of `t` is `x`, and the other channels are those of `s`. -/
structure ChannelBecomes (k : Nat) (x : EncChan) (s t : State) : Prop where
  channel : ecGet t k = x
  others : ∀ j, j ≠ k → ecGet t j = ecGet s j

theorem ChannelBecomes.refl (k : Nat) (s : State) : ChannelBecomes k (ecGet s k) s s := ⟨rfl, fun _ _ => rfl⟩

section
variable {k : Nat} {x : EncChan} {s t u : State} (h : ChannelBecomes k x s t)
include h

theorem ChannelBecomes.ecSet (y : EncChan) : ChannelBecomes k y s (ecSet k y t) :=
  ⟨by simp, fun j hj => by simp [hj, h.others j hj]⟩

/-- What leaves every channel as it is comes after it. -/
theorem ChannelBecomes.kept (hu : ∀ j, ecGet u j = ecGet t j) : ChannelBecomes k x s u :=
  ⟨(hu k).trans h.channel, fun j hj => (hu j).trans (h.others j hj)⟩

end

/-! ### Rows marked -/

/-- Rows marked with a cause gain its bit. -/
theorem tfind_markRows (rows : List Nat) (bit : Nat) (t : Tab Nat) (i : Nat) :
    tfind i (markRows rows bit t) = if i ∈ rows then some (tget 0 t i ||| 2 ^ bit) else tfind i t := by
  induction rows generalizing t with
  | nil => simp [markRows]
  | cons a rows ih =>
    rw [markRows, List.foldl_cons, ← markRows, ih, tget_tupd, tupd, tfind_tset]
    by_cases ha : i = a
    · have once : tget 0 t a ||| 2 ^ bit ||| 2 ^ bit = tget 0 t a ||| 2 ^ bit := by rw [Nat.or_assoc, Nat.or_self]
      simp only [ha, if_true, once, ite_self, List.mem_cons, true_or]
    · simp only [ha, if_false, List.mem_cons, false_or]

/-- Every row of a frame without input carries the cause alone. -/
theorem tfind_markAll {rows i : Nat} (bit : Nat) (hi : i < rows) : tfind i (markRows (List.range rows) bit []) = some (2 ^ bit) := by
  rw [tfind_markRows, if_pos (List.mem_range.mpr hi)]
  simp [tget, tfind]

/-- A cause that a row carries already changes nothing. -/
theorem tfind_markRows_again {bit i : Nat} {t : Tab Nat} (rows : List Nat) (h : tfind i t = some (2 ^ bit)) :
    tfind i (markRows rows bit t) = some (2 ^ bit) := by
  rw [tfind_markRows, tget, h]
  simp

/-! ### A frame taken up (R410, R414, R418, R429) -/

/-- A channel once the kind that waits for its next recorded frame is taken. -/
def kindTaken (x : EncChan) : EncChan := { x with kind := (x.next.map Prod.fst).getD x.kind, next := none }

theorem kindTaken_of_none {x : EncChan} (h : x.next = none) : kindTaken x = x := by
  cases x
  cases h
  rfl

@[simp] theorem ecGet_encTakeKind (k n : Nat) (s : State) (j : Nat) :
    ecGet (encTakeKind k n s) j = if j = k then kindTaken (ecGet s k) else ecGet s j := by
  unfold encTakeKind
  dsimp only
  split
  · next kind cause hnext => rw [ecGet_encStateEvent, ecGet_ecSet, kindTaken, hnext]; rfl
  · next hnext =>
    rw [kindTaken_of_none hnext]
    split
    · next hj => rw [hj]
    · rfl

theorem encTakeKind_agree (k n : Nat) (s : State) : Agree { enc := true } s (encTakeKind k n s) :=
  encTakeKind_frame k n s (.refl _ s) rfl

/-- A channel with one more frame under way. -/
def frameAdded (n : Nat) (f : RecFrame) (x : EncChan) : EncChan :=
  { x with frames := x.frames ++ [f], num := x.num + 1, lastN := some n, keyAsk := false }

@[simp] theorem ecGet_encPush (k n : Nat) (f : RecFrame) (s : State) (j : Nat) :
    ecGet (encPush k n f s) j = if j = k then frameAdded n f (ecGet s k) else ecGet s j := ecGet_ecUpd ..

/-- Frame `f` is the next one of channel `k`: source frame `n`, its input still open. -/
structure NextFrame (k n : Nat) (s : State) (f : RecFrame) : Prop where
  num : f.num = (ecGet s k).num
  source : f.n = n
  at_ : f.at_ = displayTime (encGen s (ecGet s k).rcd) n
  key : f.key = (ecGet s k).keyAsk
  t0 : f.t0 = none

theorem emptyFrame_next (k n bit : Nat) (s : State) : NextFrame k n s (emptyFrame s k n bit) := ⟨rfl, rfl, rfl, rfl, rfl⟩

theorem readFrame_next (k n : Nat) (env : EncEnv) (s : State) : NextFrame k n s (readFrame k n env s).1 := ⟨rfl, rfl, rfl, rfl, rfl⟩

theorem tfind_emptyFrame {k i : Nat} {s : State} (n bit : Nat) (hi : i < erRows (ecGet s k).rcd) :
    tfind i (emptyFrame s k n bit).unrec = some (2 ^ bit) := tfind_markAll bit hi

/-- Channel `k` has taken up source frame `n` as `f`, and the other channels are as they were. -/
structure TakesUp (k n : Nat) (f : RecFrame) (s t : State) : Prop
    extends ChannelBecomes k (frameAdded n f (kindTaken (ecGet s k))) s t where
  frame : NextFrame k n s f

/-- A frame read, or left without input, once the channel has taken its kind; then no channel has changed until the frame is added. -/
theorem takesUp_encPush {k n : Nat} {f : RecFrame} {s u : State} (hf : NextFrame k n (encTakeKind k n s) f)
    (hu : ∀ j, ecGet u j = ecGet (encTakeKind k n s) j) : TakesUp k n f s (encPush k n f u) := by
  have htaken : ecGet (encTakeKind k n s) k = kindTaken (ecGet s k) := by simp
  obtain ⟨hnum, hn, hat, hkey, ht0⟩ := hf
  rw [htaken] at hnum hat hkey
  rw [(encTakeKind_agree k n s).encGen rfl rfl rfl] at hat
  exact ⟨⟨by simp [hu], fun j hj => by simp [hu, hj]⟩, hnum, hn, hat, hkey, ht0⟩

/-! ### ENC_FRAME_START (R414, R418; a viewport's input once its rows are judged by log 37) -/

section
variable {k n : Nat} (env : EncEnv) {s : State}

theorem encFrameStart_none (hdue : encDue s k = none) : encFrameStart k env s = s := by
  simp only [encFrameStart, hdue]

theorem encFrameStart_early (hdue : encDue s k = some n) (h : t0Ns s < displayTime (encGen s (ecGet s k).rcd) n) :
    encFrameStart k env s = s := by
  simp only [encFrameStart, hdue, h, if_true]

variable (hdue : encDue s k = some n) (htime : displayTime (encGen s (ecGet s k).rcd) n ≤ t0Ns s)
include hdue htime

theorem encFrameStart_unjudged (hin : encNoInput s (ecGet s k).rcd = false) (hview : erView (ecGet s k).rcd = true)
    (hjudged : viewJudged s (ecGet s k).rcd n = false) : encFrameStart k env s = s := by
  simp [encFrameStart, hdue, Nat.not_lt.mpr htime, hin, hview, hjudged]

theorem encFrameStart_noInput (hin : encNoInput s (ecGet s k).rcd = true) :
    encFrameStart k env s = encPush k n (emptyFrame (encTakeKind k n s) k n 3) (encTakeKind k n s) := by
  simp [encFrameStart, hdue, Nat.not_lt.mpr htime, hin]

theorem encFrameStart_reads (hin : encNoInput s (ecGet s k).rcd = false)
    (hjudged : erView (ecGet s k).rcd = false ∨ viewJudged s (ecGet s k).rcd n = true) :
    ∃ f, TakesUp k n f s (encFrameStart k env s) := by
  have hread : ¬ (erView (ecGet s k).rcd && !viewJudged s (ecGet s k).rcd n) = true := by
    obtain h | h := hjudged <;> simp [h]
  unfold encFrameStart
  simp only [hdue, if_neg (Nat.not_lt.mpr htime), hin, Bool.false_eq_true, if_false, if_neg hread]
  exact ⟨_, takesUp_encPush (readFrame_next ..) (by simp)⟩

/-- Once its time has come a frame is taken up, unless a viewport's rows are still to be judged; with no input all its rows are unrecorded
for that cause. -/
theorem encFrameStart_takesUp (h : encNoInput s (ecGet s k).rcd = true ∨ erView (ecGet s k).rcd = false ∨
      viewJudged s (ecGet s k).rcd n = true) : ∃ f, TakesUp k n f s (encFrameStart k env s) ∧
    (encNoInput s (ecGet s k).rcd = true → ∀ i, i < erRows (ecGet s k).rcd → tfind i f.unrec = some 8) := by
  cases hin : encNoInput s (ecGet s k).rcd with
  | true =>
    rw [encFrameStart_noInput env hdue htime hin]
    exact ⟨_, takesUp_encPush (emptyFrame_next ..) fun _ => rfl, fun _ i hi => tfind_emptyFrame n 3 (by simpa [kindTaken] using hi)⟩
  | false =>
    obtain ⟨f, htakes⟩ := encFrameStart_reads env hdue htime hin (h.resolve_left (by simp [hin]))
    exact ⟨f, htakes, fun h => absurd h Bool.false_ne_true⟩

end

/-! ### ENC_INPUT_DEADLINE (R425; the state of T0 at the deadline by log 37) -/

/-- A list is what a function gives that finds each of its elements by number. -/
theorem filterMap_range_eq {α : Type} {find : Nat → Option α} {l : List α} (h : ∀ i (hi : i < l.length), find i = some l[i]) :
    (List.range l.length).filterMap find = l := by
  induction l generalizing find with
  | nil => rfl
  | cons a l ih =>
    rw [List.length_cons, List.range_succ_eq_map, List.filterMap_cons_some (h 0 (Nat.succ_pos _)), List.filterMap_map,
      ih (find := find ∘ Nat.succ) fun i hi => h (i + 1) (Nat.succ_lt_succ hi)]
    rfl

theorem updLast_concat (g : RecFrame → RecFrame) (fs : List RecFrame) (f : RecFrame) : updLast g (fs ++ [f]) = fs ++ [g f] := by
  have hlength : (fs ++ [f]).length = (fs ++ [g f]).length := by rw [List.length_append, List.length_append]; rfl
  unfold updLast
  rw [hlength]
  refine filterMap_range_eq fun i hi => ?_
  rw [← hlength] at hi ⊢
  rw [List.getElem?_eq_getElem hi, Option.map_some]
  rw [List.length_append, List.length_singleton] at hi ⊢
  obtain hlt | rfl := Nat.lt_or_eq_of_le (Nat.le_of_lt_succ hi)
  · rw [if_neg (by omega), List.getElem_append_left hlt, List.getElem_append_left hlt]
  · rw [if_pos rfl, List.getElem_concat_length rfl, List.getElem_concat_length rfl]

/-- A frame whose input is closed at `stop`, with `rows` not read. -/
def inputClosed (rows : List Nat) (stop : Nat) (s : State) (f : RecFrame) : RecFrame :=
  { f with unrec := markRows rows 1 f.unrec, t0 := some (t0Worst f.at_ stop s) }

/-- The input of channel `k`'s newest frame closed where it is open and its time by generator `x` has come; of its rows, `rows` have not
been read. -/
def closeNewest (k : Nat) (rows : List Nat) (x : FrameLock) (s : State) : State :=
  match (ecGet s k).frames.getLast? with
  | none => s
  | some f =>
    if f.t0.isSome || t0Ns s + 80000 < displayTime x (f.n + 1) then s
    else ecUpd k (fun y => { y with frames := updLast (inputClosed rows (displayTime x (f.n + 1) - 80000) s) y.frames }) s

section
variable {k : Nat} (rows : List Nat) (x : FrameLock) {s : State}

theorem closeNewest_nil (h : (ecGet s k).frames = []) : closeNewest k rows x s = s := by
  simp only [closeNewest, h, List.getLast?_nil]

variable {fs : List RecFrame} {f : RecFrame} (hfs : (ecGet s k).frames = fs ++ [f])
include hfs

theorem closeNewest_kept (h : f.t0 ≠ none ∨ t0Ns s + 80000 < displayTime x (f.n + 1)) : closeNewest k rows x s = s := by
  simp only [closeNewest, hfs, List.getLast?_concat]
  rw [if_pos]
  simpa [← Option.isSome_iff_ne_none] using h

theorem closeNewest_closes (hopen : f.t0 = none) (htime : displayTime x (f.n + 1) ≤ t0Ns s + 80000) : closeNewest k rows x s =
    ecSet k { ecGet s k with frames := fs ++ [inputClosed rows (displayTime x (f.n + 1) - 80000) s f] } s := by
  simp only [closeNewest, hfs, List.getLast?_concat]
  rw [if_neg (by simp [hopen, htime]), ecUpd, hfs, updLast_concat]

end

section
variable {k : Nat} (rows : List Nat) {s : State} {r : List W32} (hr : r = (ecGet s k).rcd)
include hr

/-- With no frame whose reading should have begun, the newest frame's input is closed. -/
theorem encDeadline_begun (h : ∀ n, encDue s k = some n → t0Ns s + 80000 < displayTime (encGen s r) (n + 1)) :
    encDeadline k rows s = closeNewest k (rows.filter fun i => i < erRows r) (encGen s r) s := by
  subst hr
  unfold encDeadline
  cases hdue : encDue s k with
  | none => rfl
  | some n => simp only [h n hdue, if_true]; rfl

/-- A frame whose reading never began is taken up without input, and closed. -/
theorem encDeadline_unbegun {n : Nat} (hdue : encDue s k = some n) (h : displayTime (encGen s r) (n + 1) ≤ t0Ns s + 80000) :
    encDeadline k rows s = closeNewest k (rows.filter fun i => i < erRows r) (encGen s r)
      (encPush k n (emptyFrame (encTakeKind k n s) k n 1) (encTakeKind k n s)) := by
  subst hr
  unfold encDeadline
  simp only [hdue, if_neg (Nat.not_lt.mpr h)]
  rfl

end

/-- The frame that is taken up has its input closed and every row late. -/
theorem encDeadline_late {k n : Nat} (rows : List Nat) {s : State} {r : List W32} (hr : r = (ecGet s k).rcd) (hdue : encDue s k = some n)
    (h : displayTime (encGen s r) (n + 1) ≤ t0Ns s + 80000) : ∃ f, NextFrame k n s f ∧ (∀ i, i < erRows r → tfind i f.unrec = some 2) ∧
      ∃ late stop u, ChannelBecomes k (frameAdded n (inputClosed late stop u f) (kindTaken (ecGet s k))) s (encDeadline k rows s) := by
  have htakes := takesUp_encPush (emptyFrame_next k n 1 (encTakeKind k n s)) fun _ => rfl
  have hkeep := encPush_frame k n (emptyFrame (encTakeKind k n s) k n 1) _ (encTakeKind_agree k n s) rfl
  refine ⟨_, htakes.frame, fun i hi => tfind_emptyFrame n 1 (by simpa [kindTaken, hr] using hi), ?_⟩
  rw [encDeadline_unbegun rows hr hdue h, closeNewest_closes _ _ (congrArg EncChan.frames htakes.channel) htakes.frame.t0
    (by rwa [htakes.frame.source, t0Ns, hkeep.tb.resolve_left Bool.false_ne_true]), htakes.channel]
  exact ⟨_, _, _, htakes.toChannelBecomes.ecSet _⟩

/-! ### The output buffer (R427, R428, R683) -/

theorem length_bytesLE (n v : Nat) : (bytesLE n v).length = n := by
  induction n generalizing v with
  | zero => rfl
  | succ n ih => rw [bytesLE, List.length_cons, ih]

theorem length_wordBytes (ws : List W32) : (wordBytes ws).length = 4 * ws.length := by
  induction ws with
  | nil => rfl
  | cons w ws ih =>
    rw [wordBytes, List.flatMap_cons, ← wordBytes, List.length_append, length_bytesLE, ih, List.length_cons]
    omega

/-- A record has a header of 64 bytes, and its sequence number after the payload. -/
theorem length_recBytes (k seq : Nat) (f : RecFrame) (key : Bool) (un : Tab Nat) (lost : Nat) (payload : List Byte) :
    68 ≤ (recBytes k seq f key un lost payload).length := by
  simp only [recBytes, List.length_append, length_wordBytes, length_bytesLE, padW, List.length_map, List.length_range]
  omega

theorem roundUp_mod (n a : Nat) : roundUp n a % n = 0 := Nat.mul_mod_left ..

/-- The producer offset after a record is a multiple of 64. -/
theorem recPlace_aligned {size prod cons len a next : Nat} (h : recPlace size prod cons len = some (a, next)) : next % 64 = 0 := by
  simp only [recPlace, Option.ite_none_right_eq_some, Option.some.injEq, Prod.mk.injEq] at h
  obtain ⟨-, -, rfl⟩ := h
  rw [apply_ite (· % 64), roundUp_mod]
  exact ite_self 0

/-- A channel once a record of `len` bytes is placed in its output buffer, or found not to fit. -/
def recordPlaced (len : Nat) (x : EncChan) : EncChan :=
  match recPlace (2 ^ erLog2 x.rcd) x.prod x.cons len with
  | some p => { x with count := x.count + 1, prod := p.2, lost := 0 }
  | none => { x with lost := x.lost + 1, keyDue := true }

theorem recordPlaced_keeps (len : Nat) (x : EncChan) : (recordPlaced len x).frames = x.frames ∧ (recordPlaced len x).rcd = x.rcd ∧
    (recordPlaced len x).num = x.num ∧ (recordPlaced len x).cons = x.cons ∧ (recordPlaced len x).fill = x.fill := by
  unfold recordPlaced
  split <;> exact ⟨rfl, rfl, rfl, rfl, rfl⟩

/-- A record is placed and counted, or is counted as lost and makes the next coded picture a key frame. -/
theorem recordPlaced_cases (len : Nat) (x : EncChan) :
    (∃ a, recPlace (2 ^ erLog2 x.rcd) x.prod x.cons len = some (a, (recordPlaced len x).prod) ∧
      (recordPlaced len x).count = x.count + 1 ∧ (recordPlaced len x).lost = 0 ∧ (recordPlaced len x).prod % 64 = 0) ∨
    (recPlace (2 ^ erLog2 x.rcd) x.prod x.cons len = none ∧ (recordPlaced len x).count = x.count ∧
      (recordPlaced len x).prod = x.prod ∧ (recordPlaced len x).lost = x.lost + 1 ∧ (recordPlaced len x).keyDue = true) := by
  unfold recordPlaced
  cases h : recPlace (2 ^ erLog2 x.rcd) x.prod x.cons len with
  | none => exact .inr ⟨rfl, rfl, rfl, rfl, rfl⟩
  | some p => exact .inl ⟨p.1, rfl, rfl, rfl, recPlace_aligned h⟩

/-! ### The summaries of unrecorded rows (R436) -/

section
variable {k : Nat} {x : EncChan} {s t : State} (h : ChannelBecomes k x s t)
include h

theorem ChannelBecomes.unrecRaise : ∃ sum, ChannelBecomes k { x with sum := sum } s (unrecRaise k t) := by
  unfold Sys2Proof.Machine.unrecRaise
  dsimp only
  split
  · exact ⟨x.sum, h⟩
  · rw [Sys2Proof.Machine.ecUpd, h.channel]
    exact ⟨{}, (h.ecSet _).kept fun _ => ecGet_raise ..⟩

theorem ChannelBecomes.unrecCount (un : Tab Nat) (mask : Nat) :
    ∃ sum, ChannelBecomes k { x with sum := sum } s (unrecCount k un mask t) := by
  unfold Sys2Proof.Machine.unrecCount
  dsimp only
  split
  · exact ⟨x.sum, h⟩
  · obtain ⟨sum, hraised⟩ : ∃ sum, ChannelBecomes k { x with sum := sum } s
        (if (ecGet t k).sum.second = t.tb.t2.sec.toNat then t else Sys2Proof.Machine.unrecRaise k t) := by
      split
      · exact ⟨x.sum, h⟩
      · exact h.unrecRaise
    rw [Sys2Proof.Machine.ecUpd, hraised.channel]
    exact ⟨_, hraised.ecSet _⟩

end

/-- The summary of a second that is over is told of, and cleared. -/
theorem encUnrecorded_due {k : Nat} {s : State} (hframes : (ecGet s k).sum.frames ≠ 0)
    (hsecond : (ecGet s k).sum.second < s.tb.t2.sec.toNat) : encUnrecorded k s = raise 0x29
      [pack [(31, 29, k), (28, 24, (ecGet s k).sum.mask)], w32 (sat32 (ecGet s k).sum.frames), w32 (sat32 (ecGet s k).sum.rows)]
      (ecSet k { ecGet s k with sum := {} } s) := by
  rw [encUnrecorded, if_pos (by simp [hframes, hsecond]), unrecRaise]
  exact if_neg hframes

theorem encUnrecorded_none {k : Nat} {s : State} (h : (ecGet s k).sum.frames = 0 ∨ s.tb.t2.sec.toNat ≤ (ecGet s k).sum.second) :
    encUnrecorded k s = s := by
  unfold encUnrecorded
  rw [if_neg]
  obtain h | h := h <;> simp [h]

/-! ### ENC_RECORD_WRITE (R427, R428) -/

theorem recWrite_becomes (k : Nat) (f : RecFrame) (key : Bool) (un : Tab Nat) (payload : List Byte) (s : State) :
    ∃ len sum, 68 ≤ len ∧ ChannelBecomes k { recordPlaced len (ecGet s k) with sum := sum } s (recWrite k f key un payload s) := by
  have hlen := length_recBytes k ((ecGet s k).count % 2 ^ 32) f key un (ecGet s k).lost payload
  unfold recWrite
  refine ⟨_, (ChannelBecomes.unrecCount (x := recordPlaced _ (ecGet s k)) ?placed un _).imp fun _ h => ⟨hlen, h⟩⟩
  unfold recordPlaced
  cases recPlace _ (ecGet s k).prod (ecGet s k).cons _ with
  | some p => exact ((ChannelBecomes.refl k s).ecSet _).kept (by simp)
  | none => exact ((ChannelBecomes.refl k s).ecSet _).kept (by simp)

/-- Channel `y` is channel `x` once its oldest frame `f` is coded, or its statistics are taken, and `fs` are left. -/
structure FrameLeaves (f : RecFrame) (fs : List RecFrame) (x y : EncChan) : Prop where
  frames : y.frames = fs
  rcd : y.rcd = x.rcd
  num : y.num = x.num
  count : y.count = x.count
  prod : y.prod = x.prod
  cons : y.cons = x.cons
  lost : y.lost = x.lost
  fill : f.full = false → y.fill = x.fill

section
variable {k : Nat} (p : EncCoded) {s : State}

theorem encRecord_idle (h : (ecGet s k).frames = [] ∨ (∃ f fs, (ecGet s k).frames = f :: fs ∧ f.t0 = none) ∨ (ecGet s k).en = false ∨
    works s 8 = false) : encRecord k p s = s := by
  unfold encRecord
  dsimp only
  split
  · rfl
  · next f fs hfs =>
    rw [if_pos]
    obtain h | ⟨g, gs, hg, hopen⟩ | h | h := h
    · simp [h] at hfs
    · obtain ⟨rfl, -⟩ := List.cons.inj (hg.symm.trans hfs)
      simp [hopen]
    · simp [h]
    · simp [h]

theorem encRecord_writes {f : RecFrame} {fs : List RecFrame} (hfs : (ecGet s k).frames = f :: fs) (hclosed : f.t0 ≠ none)
    (hen : (ecGet s k).en = true) (hworks : works s 8 = true) : ∃ y key un payload, FrameLeaves f fs (ecGet s k) y ∧
      encRecord k p s = recWrite k f key un payload (ecSet k y s) := by
  have hready : ¬ (f.t0.isNone || !(ecGet s k).en || !works s 8) = true := by simp [hclosed, hen, hworks]
  unfold encRecord
  simp only [hfs, if_neg hready]
  cases hfull : f.full with
  | true =>
    refine ⟨_, _, _, _, ?_, rfl⟩
    exact ⟨rfl, rfl, rfl, rfl, rfl, rfl, rfl, fun h => absurd (hfull.symm.trans h) (by decide)⟩
  | false =>
    refine ⟨_, _, _, _, ?_, rfl⟩
    exact ⟨rfl, rfl, rfl, rfl, rfl, rfl, rfl, fun _ => rfl⟩

/-- The oldest frame leaves channel `k`, and its record is placed in the channel's output buffer or lost. -/
theorem encRecord_becomes {f : RecFrame} {fs : List RecFrame} (hfs : (ecGet s k).frames = f :: fs) (hclosed : f.t0 ≠ none)
    (hen : (ecGet s k).en = true) (hworks : works s 8 = true) : ∃ len sum y, 68 ≤ len ∧ FrameLeaves f fs (ecGet s k) y ∧
      ChannelBecomes k { recordPlaced len y with sum := sum } s (encRecord k p s) := by
  obtain ⟨y, key, un, payload, hleaves, hwrites⟩ := encRecord_writes p hfs hclosed hen hworks
  obtain ⟨len, sum, hlen, hchannel, hothers⟩ := recWrite_becomes k f key un payload (ecSet k y s)
  rw [ecGet_ecSet, if_pos rfl] at hchannel
  rw [hwrites]
  exact ⟨len, sum, y, hlen, hleaves, hchannel, fun j hj => (hothers j hj).trans (by simp [hj])⟩

end

/-! ### The obligation -/

section
variable {k : Nat} (s : State) (hk : k < 8)
include hk

theorem exec_encFrameStart (env : EncEnv) : exec (.encFrameStart k env) s = .next (encFrameStart k env s) :=
  congrArg (fun k => Host.Outcome.next (encFrameStart k env s)) (Nat.mod_eq_of_lt hk)

theorem exec_encInputDeadline (rows : List Nat) : exec (.encInputDeadline k rows) s = .next (encDeadline k rows s) :=
  congrArg (fun k => Host.Outcome.next (encDeadline k rows s)) (Nat.mod_eq_of_lt hk)

theorem exec_encRecordWrite (p : EncCoded) : exec (.encRecordWrite k p) s = .next (encRecord k p s) :=
  congrArg (fun k => Host.Outcome.next (encRecord k p s)) (Nat.mod_eq_of_lt hk)

theorem exec_encUnrecorded : exec (.encUnrecorded k) s = .next (encUnrecorded k s) :=
  congrArg (fun k => Host.Outcome.next (encUnrecorded k s)) (Nat.mod_eq_of_lt hk)

end

/-- Settles O53, clause by clause: frames taken up, their inputs closed, their records written, and the summaries of unrecorded rows. -/
theorem encodeFramesAreReadClosedAndWritten : Obligations.EncodeFramesAreReadClosedAndWritten := by
  unfold Obligations.EncodeFramesAreReadClosedAndWritten
  refine ⟨fun k env s r hk hr => ?start, fun k rows s r hk hr => ?deadline, fun k p s x hk hx => ?record, fun k s hk => ?summary⟩
  case start =>
    subst hr
    rw [exec_encFrameStart s hk]
    refine ⟨fun hdue => congrArg _ (encFrameStart_none env hdue),
      fun n hdue hearly => congrArg _ (encFrameStart_early env hdue hearly),
      fun n hdue htime => ⟨fun hin hview hjudged => congrArg _ (encFrameStart_unjudged env hdue htime hin hview hjudged), fun h => ?_⟩⟩
    have hkeep := encFrameStart_frame k env s (Agree.refl { mem := true, str := true, enc := true } s) rfl rfl rfl
    obtain ⟨f, htakes, hempty⟩ := encFrameStart_takesUp env hdue htime h
    obtain ⟨⟨hchannel, hothers⟩, hnum, hn, hat, hkey, ht0⟩ := htakes
    refine ⟨_, f, rfl, ?_⟩
    rw [hchannel]
    exact ⟨rfl, hnum, hn, hat, hkey, ht0, rfl, rfl, rfl, rfl, fun p hp => by simp [frameAdded, kindTaken, hp], hempty, hothers,
      hkeep.scan.resolve_left Bool.false_ne_true, hkeep.comp.resolve_left Bool.false_ne_true⟩
  case deadline =>
    rw [exec_encInputDeadline s hk]
    refine ⟨fun fs f hbegun hfs => ?_, fun hbegun hfs => ?_, fun n hdue hlate => ?_⟩
    · rw [encDeadline_begun rows hr hbegun]
      exact ⟨fun h => congrArg _ (closeNewest_kept _ _ hfs h),
        fun hopen htime => congrArg _ (closeNewest_closes _ _ hfs hopen htime)⟩
    · rw [encDeadline_begun rows hr hbegun, closeNewest_nil _ _ hfs]
    · have hkeep := encDeadline_frame k rows s (Agree.refl { enc := true } s) rfl
      obtain ⟨f, hnext, hall, late, stop, u, hchannel, hothers⟩ := encDeadline_late rows hr hdue hlate
      refine ⟨_, inputClosed late stop u f, rfl, ?_⟩
      rw [hchannel]
      exact ⟨rfl, hnext.source, hnext.num, Option.some_ne_none _,
        fun i hi => tfind_markRows_again (bit := 1) late (hall i hi), rfl, hothers,
        hkeep.mem.resolve_left Bool.false_ne_true, hkeep.scan.resolve_left Bool.false_ne_true⟩
  case record =>
    subst hx
    rw [exec_encRecordWrite s hk]
    refine ⟨fun h => congrArg _ (encRecord_idle p h), fun f fs hfs hclosed hen hworks => ?_⟩
    have hkeep := encRecord_frame k p s (Agree.refl { enc := true } s) rfl
    obtain ⟨len, sum, y, hlen, hleaves, hchannel, hothers⟩ := encRecord_becomes p hfs hclosed hen hworks
    obtain ⟨hframes, hrcd, hnum, hcount, hprod, hcons, hlost, hfill⟩ := hleaves
    obtain ⟨hframes', hrcd', hnum', hcons', hfill'⟩ := recordPlaced_keeps len y
    have hplaced := recordPlaced_cases len y
    rw [hrcd, hprod, hcons, hcount, hlost] at hplaced
    refine ⟨_, _, rfl, rfl, ?_⟩
    rw [hchannel]
    exact ⟨hframes'.trans hframes, hrcd'.trans hrcd, hnum'.trans hnum, hcons'.trans hcons, ⟨len, hlen, hplaced⟩,
      fun hfull => hfill'.trans (hfill hfull), hothers, hkeep.mem.resolve_left Bool.false_ne_true,
      hkeep.scan.resolve_left Bool.false_ne_true, hkeep.comp.resolve_left Bool.false_ne_true⟩
  case summary =>
    rw [exec_encUnrecorded s hk]
    exact ⟨fun h => congrArg _ (encUnrecorded_none h), fun hframes hsecond => congrArg _ (encUnrecorded_due hframes hsecond)⟩

end Sys2Proof.Machine
end

section
/-! SUPPORT. The pair: what its events, changes of role and drills leave unchanged; the pair commands and the obligation about them. -/

namespace Sys2Proof.Machine

/-! ### The pair's events and changes of role -/

/-- The units that a change of role may change. -/
def roleUnits : Units := { pwr := true, boot := true, lane := true, pair := true, touch := true }

theorem Agree.roleKeeps {s t : State} (h : Agree roleUnits s t) : t.mem = s.mem ∧ t.comp = s.comp ∧ t.scan = s.scan ∧ t.tb = s.tb :=
  ⟨h.mem.resolve_left Bool.false_ne_true, h.comp.resolve_left Bool.false_ne_true, h.scan.resolve_left Bool.false_ne_true,
    h.tb.resolve_left Bool.false_ne_true⟩

@[simp] theorem roleEvent_pwr (new prev cause frame ns : Nat) (s : State) : (roleEvent new prev cause frame ns s).pwr = s.pwr :=
  raise_pwr ..
@[simp] theorem roleEvent_pair (new prev cause frame ns : Nat) (s : State) : (roleEvent new prev cause frame ns s).pair = s.pair :=
  raise_pair ..
@[simp] theorem knitEvent_pwr (result cause : Nat) (s : State) : (knitEvent result cause s).pwr = s.pwr := raise_pwr ..
@[simp] theorem knitEvent_pair (result cause : Nat) (s : State) : (knitEvent result cause s).pair = s.pair := raise_pair ..
@[simp] theorem linkEventPair_pwr (removed : Nat) (silence : Bool) (s : State) : (linkEventPair removed silence s).pwr = s.pwr :=
  raise_pwr ..
@[simp] theorem linkEventPair_pair (removed : Nat) (silence : Bool) (s : State) : (linkEventPair removed silence s).pair = s.pair :=
  raise_pair ..

/-- The end of a drill leaves nothing of it in the pair's unit. -/
@[simp] theorem drillEnd_pair (s : State) : (drillEnd s).pair = { s.pair with drill := none } := by
  unfold drillEnd
  split
  · simp
  · next h => simp [← h]

@[simp] theorem drillEnd_pwr (s : State) : (drillEnd s).pwr = s.pwr :=
  (drillEnd_frame s (Agree.refl { pair := true } s) rfl).pwr.resolve_left Bool.false_ne_true

theorem drillEnd_none {s : State} (h : s.pair.drill = none) : drillEnd s = s := by
  unfold drillEnd
  rw [h]

/-- A knit-up that fails leaves the module in Ready, its link down. -/
theorem knitFail_ready (cause why port : Nat) (s : State) : (knitFail cause why port s).pwr.mode = .ready ∧
    (knitFail cause why port s).pair = { pairLinkDown (knitOver s.pair) with leadOut := false } := by
  simp [knitFail]

theorem knitFail_keeps (cause why port : Nat) (s : State) : Agree roleUnits s (knitFail cause why port s) :=
  knitFail_frame cause why port s (.refl _ s) rfl rfl rfl rfl

/-- A Follow that leaves is in Ready, its link down. -/
theorem followLeaves_ready (cause port : Nat) (s : State) : (followLeaves cause port s).pwr.mode = .ready ∧
    (followLeaves cause port s).pair = { pairLinkDown s.pair with leadOut := false } := by
  simp [followLeaves]

/-! ### What was sent stays sent -/

section
variable {o : Outgoing} {s : State} (h : o ∈ s.outbox)
include h

theorem mem_outbox_send (e : Outgoing) : o ∈ (send e s).outbox := List.mem_append_left _ h

theorem mem_outbox_signalVector (fn v : Nat) : o ∈ (signalVector fn v s).outbox := by
  unfold signalVector
  dsimp only
  split
  · unfold fnSet
    split <;> exact h
  · exact mem_outbox_send h _

theorem mem_outbox_ringSet (fn r : Nat) (x : Ring) : o ∈ (ringSet s fn r x).outbox := by
  unfold ringSet fnSet
  split <;> exact h

theorem mem_outbox_ringWrite (fn r : Nat) (ws : List W32) (now : Bool) : o ∈ (ringWrite fn r ws now s).outbox := by
  unfold ringWrite
  split
  · unfold ringPut
    dsimp only
    split
    · exact mem_outbox_signalVector (mem_outbox_ringSet (mem_outbox_send h _) ..) ..
    · exact mem_outbox_ringSet (mem_outbox_send h _) ..
  · exact mem_outbox_ringSet h ..

theorem mem_outbox_eventToFn (fn code : Nat) (p : List W32) : o ∈ (eventToFn fn code p s).outbox := by
  unfold eventToFn
  dsimp only
  split <;> exact mem_outbox_ringWrite h ..

theorem mem_outbox_sendMaint (src : MaintSrc) (letter : Nat) (words : List W32) : o ∈ (sendMaint src letter words s).outbox := by
  cases src <;> exact mem_outbox_send h _

omit h in
theorem mem_outbox_ite {c : Prop} [Decidable c] {t u : State} (ht : o ∈ t.outbox) (hu : o ∈ u.outbox) :
    o ∈ (if c then t else u).outbox := by
  split
  · exact ht
  · exact hu

theorem mem_outbox_eventToMaint (code : Nat) (p : List W32) : o ∈ (eventToMaint code p s).outbox := by
  unfold eventToMaint
  cases s.hif.maintDest with
  | some src => exact mem_outbox_ite (mem_outbox_sendMaint (by exact h) ..) h
  | none => exact h

/-- An event adds to what was sent. -/
theorem mem_outbox_raise (code : Nat) (p : List W32) : o ∈ (raise code p s).outbox := by
  have toPf0 := mem_outbox_ite (c := (maskBit s.hif.mask0 code || code == 0x40 || code == 0x42) = true) (mem_outbox_eventToFn h 0 code p) h
  have toPf1 := mem_outbox_ite (c := (maskBit s.hif.mask1 code && maskBit s.hif.allow1 code) = true)
    (mem_outbox_eventToFn toPf0 1 code p) toPf0
  exact mem_outbox_ite (mem_outbox_eventToMaint toPf1 code p) toPf1

/-- So does a change of mode that neither commits a trial nor ends ganged scanning. -/
theorem mem_outbox_setMode {new : Mode} (cause sh port : Nat) (hnew : new ≠ .ready) (hold : s.pwr.mode ≠ .night) :
    o ∈ (setMode new cause sh port s).outbox := by
  unfold setMode
  simp only [beq_eq_false_iff_ne.mpr hnew, beq_eq_false_iff_ne.mpr hold, Bool.false_eq_true, if_false]
  exact mem_outbox_raise (by exact h) ..

end

/-! ### The pair commands -/

@[simp] theorem refGenOf_takeCmd (c : Cmd) (s : State) : refGenOf (takeCmd c s) = refGenOf s := by simp [refGenOf]

/-- A module that takes PAIR_SET: Ready, Solo, or Lead without a joined peer. -/
def TakesPairSet (s : State) : Prop := s.pwr.mode = .ready ∨ s.pwr.mode = .solo ∨ (s.pwr.mode = .lead ∧ peerJoined s = false)

/-- PAIR_SET of a pair enabled in Solo, or in Ready with no peer Lead, makes the module Lead. -/
def pairSetLeads (c : Cmd) (s : State) : Bool := bitOf (cw c 2) 31 && (s.pwr.mode == .solo || (s.pwr.mode == .ready && !peerLeads s))

/-- The time limit that PAIR_SET gives. -/
def pairSetLimit (c : Cmd) : Nat := if (cw c 3).toNat = 0 then 120 else (cw c 3).toNat

/-- The settings of PAIR_SET. -/
def pairSettings (c : Cmd) (u : PairUnit) : PairUnit :=
  { u with enabled := bitOf (cw c 2) 31, posB := bitOf (cw c 2) 30, refGen := fld (cw c 2) 2 0, limitS := pairSetLimit c }

section
variable {c : Cmd} {s : State}

theorem takesPairSet_iff : TakesPairSet s ↔
    (s.pwr.mode == .ready || s.pwr.mode == .solo || (s.pwr.mode == .lead && !peerJoined s)) = true := by
  simp [TakesPairSet, or_assoc]

theorem opPairSet_wrongMode (h : ¬ TakesPairSet s) : opPairSet c s = (s, .no 6 0) := by
  rw [takesPairSet_iff, Bool.not_eq_true] at h
  unfold opPairSet
  simp only [checked_cons, h, Bool.not_false, if_true]
  rfl

/-- In a mode that takes it, PAIR_SET is judged by its limit and, where the module would lead, by R448. -/
theorem opPairSet_judged (h : TakesPairSet s) : opPairSet c s =
    if pairSetLimit c < 10 ∨ 3600 < pairSetLimit c then (s, badField 12)
    else if pairSetLeads c s = true ∧ pairRefused s = true then (s, badField 8)
    else if pairSetLeads c s = true then (setMode .lead 1 0 (portInit c.port) (withPair s (pairSettings c s.pair)), .ok [])
    else (withPair s (pairSettings c s.pair), .ok []) := by
  rw [takesPairSet_iff] at h
  unfold opPairSet
  simp only [checked_cons, checked_nil, h, Bool.not_true, Bool.false_eq_true, if_false, Bool.or_eq_true, decide_eq_true_eq,
    Bool.and_eq_true (a := _ && _)]
  simp only [← apply_ite (·, Reply.ok [])]
  rfl

/-! ### PAIR_ACCEPT, PAIR_KNIT and PAIR_DRILL (R462, R463, R472) -/

theorem opPairAccept_wrongMode (h : s.pwr.mode ≠ .lead) : opPairAccept c s = (s, .no 6 0) := by
  unfold opPairAccept
  simp only [checked_cons, bne_iff_ne.mpr h, if_true, wrongMode]

theorem opPairAccept_judged (h : s.pwr.mode = .lead) : opPairAccept c s =
    if (cw c 2).toNat = 0 ∨ 3600 < (cw c 2).toNat then (s, badField 8)
    else if bitOf s.pwr.domains 14 = false ∨ bitOf s.pwr.iso 14 = true then (s, held 0xFF 14)
    else (withPair s { s.pair with acceptUntil := some (t2Ns s + (cw c 2).toNat * 1000000000),
                                   training := !s.pair.linkUp || s.pair.training }, .ok []) := by
  unfold opPairAccept
  simp only [domainOff, checked_cons, checked_nil, h, bne_self_eq_false, Bool.false_eq_true, if_false, Bool.or_eq_true,
    decide_eq_true_eq, Bool.not_eq_true']

theorem opPairKnit_wrongMode (h : s.pwr.mode ≠ .ready) : opPairKnit c s = (s, .no 6 0) := by
  unfold opPairKnit
  simp only [checked_cons, bne_iff_ne.mpr h, if_true, wrongMode]

theorem opPairKnit_judged (h : s.pwr.mode = .ready) : opPairKnit c s =
    if s.pair.enabled = false ∨ pairRefused s = true then (s, badField 0)
    else if bitOf s.pwr.domains 14 = false ∨ bitOf s.pwr.iso 14 = true then (s, held 0xFF 14)
    else laneEnable [80, 81, 82, 83] 0 [] (fun s => (knitBegin s, .ok [])) s := by
  unfold opPairKnit
  simp only [domainOff, checked_cons, checked_nil, h, bne_self_eq_false, Bool.false_eq_true, if_false, Bool.or_eq_true,
    Bool.not_eq_true']

theorem opPairDrill_wrongMode (h : s.pwr.mode ≠ .lead ∨ s.pair.peerFit = false) : opPairDrill c s = (s, .no 6 0) := by
  have hmode : (s.pwr.mode != .lead || !s.pair.peerFit) = true := by simpa using h
  unfold opPairDrill
  simp only [checked_cons, hmode, if_true, wrongMode]

theorem opPairDrill_judged (h : s.pwr.mode = .lead) (hfit : s.pair.peerFit = true) : opPairDrill c s =
    if 86400 < (cw c 5).toNat then (s, badField 20)
    else if (refGenOf s).en = false ∨ displayTime (refGenOf s) (frameNamed (refGenOf s) (cw c 4)) < t0Ns s + 100000000 then (s, .no 5 0)
    else (drillBegin (frameNamed (refGenOf s) (cw c 4)) (cw c 5).toNat 1 (portInit c.port)
      (send (.corler 1 [2, cw c 4, w32 (cw c 5).toNat]) s), .ok []) := by
  unfold opPairDrill
  simp only [checked_cons, checked_nil, h, hfit, bne_self_eq_false, Bool.not_true, Bool.or_self, Bool.false_eq_true, if_false,
    Bool.or_eq_true, decide_eq_true_eq, Bool.not_eq_true', tooLate]

/-- A knit-up begins in phase 1, with a new training of the link. -/
theorem knitBegin_pair : (knitBegin s).pair =
    { knitOver (pairLinkDown s.pair) with phase := 1, knitAt := t2Ns s, training := true, leadOut := false } := by
  simp [knitBegin]

theorem knitBegin_mode : (knitBegin s).pwr.mode = .knitUp := by simp [knitBegin]

/-- A drill begins with LEAD_OUT as it was. -/
theorem drillBegin_pair (frame ret cause port : Nat) : (drillBegin frame ret cause port s).pair =
    { s.pair with gaps := [], drill := some { frame := frame, ret := ret, wasLead := s.pair.leadOut } } := by
  simp [drillBegin]

theorem drillBegin_mode (frame ret cause port : Nat) : (drillBegin frame ret cause port s).pwr.mode = .drill := by simp [drillBegin]

theorem laneBroken_eq_none {is : List Nat} (h : ∀ i ∈ is, (laneGet s i).cal = true) : laneBroken s is = none :=
  List.find?_eq_none.mpr fun i hi => by simp [h i hi]

/-! ### PAIR_LEAVE (R447) -/

theorem opPairLeave_taken (h : s.pwr.mode = .lead ∨ s.pwr.mode = .follow ∨ s.pwr.mode = .knitUp) :
    opPairLeave c s = (pairLeave (portInit c.port) s, .ok []) := by
  have hmode : (s.pwr.mode == .lead || s.pwr.mode == .follow || s.pwr.mode == .knitUp) = true := by simpa [or_assoc] using h
  unfold opPairLeave
  simp only [checked_cons, checked_nil, hmode, Bool.not_true, Bool.false_eq_true, if_false]

theorem opPairLeave_wrongMode (h : s.pwr.mode ≠ .lead) (h' : s.pwr.mode ≠ .follow) (h'' : s.pwr.mode ≠ .knitUp) :
    opPairLeave c s = (s, .no 6 0) := by
  have hmode : (s.pwr.mode == .lead || s.pwr.mode == .follow || s.pwr.mode == .knitUp) = false := by simp [h, h', h'']
  unfold opPairLeave
  simp only [checked_cons, hmode, Bool.not_false, if_true, wrongMode]

theorem pairLeave_keeps (port : Nat) : Agree roleUnits s (pairLeave port s) :=
  pairLeave_frame port s (.refl _ s) rfl rfl rfl rfl

theorem pairLeave_follow (port : Nat) (h : s.pwr.mode = .follow) : pairLeave port s = followLeaves 1 port s := by
  rw [pairLeave, h]

theorem pairLeave_knitUp (port : Nat) (h : s.pwr.mode = .knitUp) : pairLeave port s = knitFail 5 1 port s := by
  rw [pairLeave, h]

theorem pairLeave_joined (port : Nat) (h : s.pwr.mode = .lead) (hjoined : peerJoined s = true) : pairLeave port s =
    withPair (send (.corler 1 [1]) s) { s.pair with peerFit := false, peerMode := 3, want := none, hand := none } := by
  simp [pairLeave, h, hjoined]

/-- A Lead without a joined peer leaves its pair for Solo. -/
theorem pairLeave_alone (port : Nat) (h : s.pwr.mode = .lead) (hjoined : peerJoined s = false) : (pairLeave port s).pwr.mode = .solo ∧
    (pairLeave port s).pair = { pairLinkDown s.pair with acceptUntil := none, want := none, leadOut := false } := by
  simp [pairLeave, h, hjoined]

end

/-! ### The obligation -/

/-- Settles O54, command by command. -/
theorem pairCommandsFollowTheirModes : Obligations.PairCommandsFollowTheirModes := by
  unfold Obligations.PairCommandsFollowTheirModes
  refine ⟨?set, ?accept, ?knit, ?drill, ?leave, fun c s u hu ht => ?status⟩
  case set =>
    rintro c s u limit leads p rfl ht hlimit hleads hp
    obtain rfl : limit = pairSetLimit c := hlimit
    obtain rfl : leads = pairSetLeads c (takeCmd c s) := by simpa [pairSetLeads] using hleads
    obtain rfl : p = pairSettings c (takeCmd c s).pair := by simpa [pairSettings] using hp
    rw [← takeCmd_pwr c s]
    refine ⟨fun hmode => ?_, fun hmode => congrArg _ (hostCommand_answers ht (opPairSet_wrongMode ?mode))⟩
    case mode => simpa [TakesPairSet, imp_iff_not_or] using hmode
    have hop := opPairSet_judged (c := c) hmode
    have lawful (hmin : 10 ≤ pairSetLimit c) (hmax : pairSetLimit c ≤ 3600) := hop.trans (if_neg (by omega))
    refine ⟨fun hmin hmax hno => ?_, fun hmin hmax hlead hgood => ⟨?_, by simp⟩, fun hmin hmax hlead hbad => ?_, fun hlimit => ?_⟩
    · exact congrArg _ (hostCommand_answers ht ((lawful hmin hmax).trans ((if_neg (by simp [hno])).trans (if_neg (by simp [hno])))))
    · exact congrArg _ (hostCommand_answers ht ((lawful hmin hmax).trans ((if_neg (by simp [hgood])).trans (if_pos hlead))))
    · exact congrArg _ (hostCommand_answers ht ((lawful hmin hmax).trans (if_pos ⟨hlead, hbad⟩)))
    · exact congrArg _ (hostCommand_answers ht (hop.trans (if_pos hlimit)))
  case accept =>
    rintro c s u rfl ht
    have judged (hlead : s.pwr.mode = .lead) := opPairAccept_judged (c := c) (s := takeCmd c s) (by simpa using hlead)
    simp only [takeCmd_pwr, t2Ns_takeCmd] at judged
    refine ⟨fun hlead hmin hmax hdomain hiso => ?_, fun hlead hbad => ?_, fun hlead hmin hmax hoff => ?_, fun hmode => ?_⟩
    · exact congrArg _ (hostCommand_answers ht ((judged hlead).trans ((if_neg (by omega)).trans (if_neg (by simp [hdomain, hiso])))))
    · exact congrArg _ (hostCommand_answers ht ((judged hlead).trans (if_pos hbad)))
    · exact congrArg _ (hostCommand_answers ht ((judged hlead).trans ((if_neg (by omega)).trans (if_pos hoff))))
    · exact congrArg _ (hostCommand_answers ht (opPairAccept_wrongMode (by simpa using hmode)))
  case knit =>
    rintro c s u rfl ht
    have judged (hready : s.pwr.mode = .ready) := opPairKnit_judged (c := c) (s := takeCmd c s) (by simpa using hready)
    simp only [takeCmd_pwr, takeCmd_pair] at judged
    have served (hready : s.pwr.mode = .ready) (hen : s.pair.enabled = true) (hgood : pairRefused (takeCmd c s) = false)
        (hdomain : bitOf s.pwr.domains 14 = true) (hiso : bitOf s.pwr.iso 14 = false) :=
      (judged hready).trans ((if_neg (by simp [hen, hgood])).trans (if_neg (by simp [hdomain, hiso])))
    refine ⟨fun hready hen hgood hdomain hiso hlanes => ?_, fun hready hen hgood hdomain hiso hcal hcold => ?_,
      fun i hready hen hgood hdomain hiso hbroken => ?_, fun hready hen hgood hoff => ?_, fun hready hen hbad => ?_,
      fun hready hen => ?_, fun hmode => ?_⟩
    · have hcal := laneBroken_eq_none (s := takeCmd c s) fun i hi => by simpa using (hlanes i hi).1
      have hwarm : ([80, 81, 82, 83].filter fun i => laneState (takeCmd c s) i == 6) = [] :=
        List.filter_eq_nil_iff.mpr fun i hi => by simpa using (hlanes i hi).2
      have hop := (served hready hen hgood hdomain hiso).trans (laneEnable_warm 0 [] _ hcal hwarm)
      obtain ⟨hmem, hcomp, hscan, -⟩ := (knitBegin_frame (takeCmd c s) (.refl roleUnits _) rfl rfl rfl rfl).roleKeeps
      refine ⟨_, congrArg _ (hostCommand_answers ht hop), knitBegin_mode, ?_⟩
      rw [knitBegin_pair, hmem, hcomp, hscan]
      exact ⟨rfl, t2Ns_takeCmd c s, rfl, rfl, rfl, takeCmd_mem c s, takeCmd_comp c s, takeCmd_scan c s⟩
    · have hcal := laneBroken_eq_none (s := takeCmd c s) fun i hi => by simpa using hcal i hi
      have hcold : ([80, 81, 82, 83].filter fun i => laneState (takeCmd c s) i == 6) ≠ [] := fun hnil => by
        obtain ⟨i, hi, h6⟩ := hcold
        exact List.filter_eq_nil_iff.mp hnil i hi (beq_iff_eq.mpr h6)
      exact congrArg _ (hostCommand_answers ht ((served hready hen hgood hdomain hiso).trans (laneEnable_cold 0 [] _ hcal hcold)))
    · exact congrArg _ (hostCommand_answers ht ((served hready hen hgood hdomain hiso).trans (by rw [laneEnable, hbroken]; rfl)))
    · exact congrArg _ (hostCommand_answers ht ((judged hready).trans ((if_neg (by simp [hen, hgood])).trans (if_pos hoff))))
    · exact congrArg _ (hostCommand_answers ht ((judged hready).trans (if_pos (.inr hbad))))
    · exact congrArg _ (hostCommand_answers ht ((judged hready).trans (if_pos (.inl hen))))
    · exact congrArg _ (hostCommand_answers ht (opPairKnit_wrongMode (by simpa using hmode)))
  case drill =>
    rintro c s u n ret rfl ht rfl rfl
    have judged (hlead : s.pwr.mode = .lead) (hfit : s.pair.peerFit = true) :=
      opPairDrill_judged (c := c) (s := takeCmd c s) (by simpa using hlead) (by simpa using hfit)
    simp only [refGenOf_takeCmd, t0Ns_takeCmd] at judged
    refine ⟨fun hlead hfit hret hen htime => ?_, fun hlead hfit hret hlate => ?_, fun hlead hfit hret => ?_, fun h => ?_⟩
    · have hop := (judged hlead hfit).trans ((if_neg (Nat.not_lt.mpr hret)).trans (if_neg (by simp [hen, htime])))
      obtain ⟨hmem, hcomp, hscan, htb⟩ := (drillBegin_frame _ _ 1 (portInit c.port) _ (send_frame _ _ (.refl roleUnits (takeCmd c s)))
        rfl rfl rfl rfl).roleKeeps
      refine ⟨_, congrArg _ (hostCommand_answers ht hop), drillBegin_mode .., ?_⟩
      rw [drillBegin_pair, hmem, hcomp, hscan, htb]
      have hsent := mem_outbox_setMode (new := .drill) (s := send (.corler 1 [2, cw c 4, w32 (cw c 5).toNat]) (takeCmd c s))
        (List.mem_append_right _ (List.mem_singleton.mpr rfl)) 1 0 (portInit c.port) (by decide) (by simp [hlead])
      exact ⟨by simp, hsent, takeCmd_mem c s, takeCmd_scan c s, takeCmd_comp c s, takeCmd_tb c s⟩
    · exact congrArg _ (hostCommand_answers ht ((judged hlead hfit).trans ((if_neg (Nat.not_lt.mpr hret)).trans (if_pos hlate))))
    · exact congrArg _ (hostCommand_answers ht ((judged hlead hfit).trans (if_pos hret)))
    · exact congrArg _ (hostCommand_answers ht (opPairDrill_wrongMode (by simpa using h)))
  case leave =>
    rintro c s u rfl ht
    have leaves (h : s.pwr.mode = .lead ∨ s.pwr.mode = .follow ∨ s.pwr.mode = .knitUp) :=
      hostCommand_answers ht (opPairLeave_taken (s := takeCmd c s) (by simpa using h))
    obtain ⟨hmem, hcomp, hscan, -⟩ := (pairLeave_keeps (s := takeCmd c s) (portInit c.port)).roleKeeps
    simp only [takeCmd_mem, takeCmd_comp, takeCmd_scan] at hmem hcomp hscan
    refine ⟨fun h => ⟨_, congrArg _ (leaves (.inr h)), ?_⟩, fun hlead hjoined => ?_, fun hlead halone => ?_, fun h h' h'' => ?_⟩
    · rw [hmem, hcomp, hscan]
      obtain h | h := h
      · obtain ⟨hmode, hpair⟩ := followLeaves_ready 1 (portInit c.port) (takeCmd c s)
        rw [pairLeave_follow _ (by simpa using h), hmode, hpair]
        exact ⟨rfl, rfl, rfl, fun h' => by simp [h] at h', rfl, rfl, rfl⟩
      · obtain ⟨hmode, hpair⟩ := knitFail_ready 5 1 (portInit c.port) (takeCmd c s)
        rw [pairLeave_knitUp _ (by simpa using h), hmode, hpair]
        exact ⟨rfl, rfl, rfl, fun _ => rfl, rfl, rfl, rfl⟩
    · exact congrArg _ ((leaves (.inl hlead)).trans (congrArg _ (pairLeave_joined _ (by simpa using hlead) hjoined)))
    · obtain ⟨hmode, hpair⟩ := pairLeave_alone (portInit c.port) (by simpa using hlead) halone
      refine ⟨_, congrArg _ (leaves (.inl hlead)), hmode, ?_⟩
      rw [hpair]
      exact ⟨rfl, rfl, rfl, hmem, hscan⟩
    · exact congrArg _ (hostCommand_answers ht (opPairLeave_wrongMode (by simpa using h) (by simpa using h') (by simpa using h'')))
  case status =>
    subst hu
    exact congrArg _ (hostCommand_answers ht (by simp [opPairStatus, pairStatWord]))

end Sys2Proof.Machine
end

section
/-! SUPPORT. Heartbeats, their silence and the LEAD pins: what each makes of the pair's unit and of the module's role; the obligation about
them. -/

namespace Sys2Proof.Machine

/-! ### The sides of a pair -/

/-- A module on the Follow's side is not in Knit-up. -/
theorem followSide_knitUp {s : State} (h : followSide s = true) : (s.pwr.mode == .knitUp) = false := by
  unfold followSide at h
  cases hmode : s.pwr.mode <;> simp_all

/-- A module on the Lead's side is neither in Knit-up nor on the Follow's side. -/
theorem leadSide_excludes {s : State} (h : leadSide s = true) : (s.pwr.mode == .knitUp) = false ∧ followSide s = false := by
  unfold leadSide at h
  unfold followSide
  cases hmode : s.pwr.mode <;> simp_all

theorem leadSide_of_lead {s : State} (h : s.pwr.mode = .lead) : leadSide s = true := by simp [leadSide, h]

/-- The peer is gone in Safe hold (11) and in Bind-off (12). -/
theorem peerGone_iff {m : Nat} : peerGone m = true ↔ m = 11 ∨ m = 12 := by simp [peerGone]

theorem peerGone_eq_false {m : Nat} : peerGone m = false ↔ m ≠ 11 ∧ m ≠ 12 := by simp [peerGone]

/-! ### What the loss of the peer brings about (R451, R457) -/

/-- A takeover noted at once, with the time at which the other module was last known to drive its outputs. -/
def takeoverNoted (cause old : Nat) (s : State) : State :=
  withPair s { s.pair with hand := none, take := some { frame := refFrame s (takeoverDue s (t0Ns s)), due := takeoverDue s (t0Ns s),
                                                         cause := cause, detected := t0Ns s, old := old } }

theorem startTakeover_again {s : State} (cause : Nat) (h : s.pair.take ≠ none) : startTakeover cause s = s :=
  if_pos (Option.isSome_iff_ne_none.mpr h)

/-- A peer that is gone drove its outputs until now. -/
theorem startTakeover_gone {s : State} (h : s.pair.take = none) : startTakeover 2 s = takeoverNoted 2 (t0Ns s) s := by
  simp [startTakeover, takeoverNoted, h]

/-- A silent peer was last known to drive its outputs at its last good heartbeat (log 41). -/
theorem startTakeover_silent {s : State} (h : s.pair.take = none) :
    startTakeover 1 s = takeoverNoted 1 (t0Ns s - (t2Ns s - s.pair.lastRx)) s := by
  simp [startTakeover, takeoverNoted, h]

/-- A knit-up that loses its Lead ends in Safe hold with cause 6. -/
theorem leadLost_safeHold (s : State) : (leadLost s).pwr.mode = .safeHold ∧ (leadLost s).pwr.cause = 6 ∧ (leadLost s).pair.phase = 0 ∧
    (leadLost s).mem = s.mem :=
  ⟨enterSafeHold_mode .., enterSafeHold_cause .., by simp [leadLost, pairDrop],
    (leadLost_frame s (.refl roleUnits s) rfl rfl rfl rfl rfl).roleKeeps.1⟩

/-- A Lead without a drill that loses its Follow stays Lead, and says so. -/
theorem followLost_lead {s : State} (silence : Bool) (hmode : s.pwr.mode = .lead) (hdrill : s.pair.drill = none) :
    followLost silence s = linkEventPair 0xF silence (withPair s { s.pair with peerFit := false }) := by
  simp [followLost, drillEnd_none hdrill, hmode]

/-- A drill that loses its Follow is over, and its module Lead. -/
theorem followLost_drill {s : State} (silence : Bool) (hmode : s.pwr.mode = .drill) : (followLost silence s).pwr.mode = .lead ∧
    (followLost silence s).pair.drill = none ∧ (followLost silence s).pair.peerFit = false ∧ (followLost silence s).mem = s.mem := by
  refine ⟨?_, ?_, ?_, (followLost_frame silence s (.refl roleUnits s) rfl rfl rfl rfl).roleKeeps.1⟩ <;> simp [followLost, hmode]

/-! ### HEARTBEAT_SEND (R449) -/

theorem foldl_send {α : Type} (f : α → Outgoing) (l : List α) (s : State) :
    l.foldl (fun st a => send (f a) st) s = { s with outbox := s.outbox ++ l.map f } := by
  induction l generalizing s with
  | nil => simp
  | cons a l ih =>
    rw [List.foldl_cons, ih]
    simp [send]

/-- The pair's unit once a heartbeat is due: it is numbered, an interval without one received counts, and a Lead drives LEAD_OUT. -/
def heartbeatNumbered (s : State) : State :=
  withPair s { s.pair with
    lastTx := t2Ns s, hbTx := s.pair.hbTx + 1,
    hbMiss := if s.pair.linkUp = true ∧ s.pair.lastRx ≤ s.pair.lastTx then sat32 (s.pair.hbMiss + 1) else s.pair.hbMiss,
    leadOut := s.pair.leadOut || s.pwr.mode == .lead }

section
variable {s : State}

theorem heartbeatSend_idle (h : pairWorks s = false ∨ s.pair.enabled = false ∨ t2Ns s < s.pair.lastTx + 10000) : heartbeatSend s = s :=
  if_pos (by simpa [or_assoc] using h)

theorem heartbeatSend_due (hworks : pairWorks s = true) (hen : s.pair.enabled = true) (htime : s.pair.lastTx + 10000 ≤ t2Ns s) :
    heartbeatSend s = if s.pair.linkUp = true
      then { heartbeatNumbered s with
        outbox := s.outbox ++ ((List.range 4).filter fun i => bitOf s.pair.lanes i).map (heartbeatOn (heartbeatNumbered s)) }
      else heartbeatNumbered s := by
  have numbered : withPair s { s.pair with
      lastTx := t2Ns s, hbTx := s.pair.hbTx + 1,
      hbMiss := if (s.pair.linkUp && decide (s.pair.lastRx ≤ s.pair.lastTx)) = true then sat32 (s.pair.hbMiss + 1) else s.pair.hbMiss,
      leadOut := s.pair.leadOut || s.pwr.mode == .lead } = heartbeatNumbered s := by
    simp [heartbeatNumbered]
  refine (if_neg (by simp [hworks, hen, htime])).trans ?_
  dsimp only
  rw [numbered, foldl_send]
  by_cases hlink : s.pair.linkUp = true
  · rw [if_neg (by simp [hlink]), if_pos hlink]
    rfl
  · rw [if_pos (by simpa using hlink), if_neg hlink]

/-! ### HEARTBEAT_RECEIVE (R449, R451, R459) -/

/-- The pair's unit with what a heartbeat says of the peer. -/
def heartbeatTaken (h : Heartbeat) (s : State) : State :=
  withPair s { s.pair with
    hbRx := h.seq, lastRx := t2Ns s, silent := false, peerMode := h.mode, peerLeadOut := h.leadOut, leadIn := h.leadOut, peerFit := h.fit,
    peerRequest := h.request, peerFrame := h.frame }

theorem heartbeatReceive_ignored {lane : Nat} {h : Heartbeat} (hlane : lane < 4)
    (hbad : pairWorks s = false ∨ s.pair.linkUp = false ∨ bitOf s.pair.lanes lane = false ∨ h.crcOk = false ∨ h.mode = 0 ∨
      12 < h.mode) : heartbeatReceive lane h s = s :=
  if_pos (by simpa [Nat.mod_eq_of_lt hlane, or_assoc] using hbad)

theorem heartbeatReceive_good {lane : Nat} {h : Heartbeat} (hlane : lane < 4) (hworks : pairWorks s = true) (hlink : s.pair.linkUp = true)
    (hused : bitOf s.pair.lanes lane = true) (hcrc : h.crcOk = true) (hmin : 1 ≤ h.mode) (hmax : h.mode ≤ 12) :
    heartbeatReceive lane h s = heartbeatActs h s.pair.peerMode (heartbeatTaken h s) :=
  if_neg (by simp [Nat.mod_eq_of_lt hlane, hworks, hlink, hused, hcrc, Nat.not_lt.mpr hmax]; omega)

/-- A peer that is not gone brings about nothing, unless a Follow takes its request for a handover. -/
theorem heartbeatActs_present {h : Heartbeat} (old : Nat) (hmax : h.mode ≤ 10)
    (hno : h.request ≠ 1 ∨ s.pwr.mode ≠ .follow ∨ s.pair.hand ≠ none ∨ s.pair.take ≠ none ∨ h.leadOut = false) :
    heartbeatActs h old s = s := by
  have hhere : peerGone h.mode = false := peerGone_eq_false.mpr (by omega)
  refine (if_neg (by simp [hhere])).trans (if_neg fun hreq => ?_)
  simp only [Bool.and_eq_true, beq_iff_eq, Option.isNone_iff_eq_none] at hreq
  obtain ⟨⟨⟨⟨hreq, hmode⟩, hhand⟩, htake⟩, hout⟩ := hreq
  simp [hreq, hmode, hhand, htake, hout] at hno

theorem heartbeatActs_request {h : Heartbeat} (old : Nat) (hmax : h.mode ≤ 10) (hreq : h.request = 1) (hmode : s.pwr.mode = .follow)
    (hhand : s.pair.hand = none) (htake : s.pair.take = none) (hout : h.leadOut = true) : heartbeatActs h old s =
      withPair s { s.pair with
        hand := some { frame := frameNamed (refGenOf s) (w32 h.frame), reason := none, requestedAt := t0Ns s } } := by
  have hhere : peerGone h.mode = false := peerGone_eq_false.mpr (by omega)
  simp [heartbeatActs, hhere, hreq, hmode, hhand, htake, hout]

section
variable {h : Heartbeat} (old : Nat) (hgone : h.mode = 11 ∨ h.mode = 12)
include hgone

/-- A peer that is gone is answered by the module's side of the pair. -/
theorem heartbeatActs_gone : heartbeatActs h old s =
    if s.pwr.mode == .knitUp then leadLost s
    else if followSide s then (if s.pair.hand.isSome then s else startTakeover 2 s)
    else if leadSide s && !peerGone old then followLost false s
    else s :=
  if_pos (peerGone_iff.mpr hgone)

theorem heartbeatActs_gone_knitUp (hmode : s.pwr.mode = .knitUp) : heartbeatActs h old s = leadLost s :=
  (heartbeatActs_gone old hgone).trans (if_pos (beq_iff_eq.mpr hmode))

theorem heartbeatActs_gone_follow (hside : followSide s = true) :
    heartbeatActs h old s = if s.pair.hand.isSome then s else startTakeover 2 s := by
  rw [heartbeatActs_gone old hgone, followSide_knitUp hside, hside]
  rfl

theorem heartbeatActs_gone_lead (hside : leadSide s = true) :
    heartbeatActs h old s = if peerGone old then s else followLost false s := by
  obtain ⟨hknit, hfollow⟩ := leadSide_excludes hside
  rw [heartbeatActs_gone old hgone, hknit, hfollow, hside]
  cases peerGone old <;> rfl

theorem heartbeatActs_gone_other (hfollow : followSide s = false) (hlead : leadSide s = false) (hmode : s.pwr.mode ≠ .knitUp) :
    heartbeatActs h old s = s := by
  rw [heartbeatActs_gone old hgone, beq_eq_false_iff_ne.mpr hmode, hfollow, hlead]
  rfl

end

/-! ### HEARTBEAT_SILENCE (R450) -/

/-- The pair's unit once the peer is silent. -/
def peerSilent (s : State) : State := withPair s { s.pair with silent := true, peerFit := false }

theorem peerSilent_unfit (s : State) : withPair (peerSilent s) { (peerSilent s).pair with peerFit := false } = peerSilent s := rfl

theorem heartbeatSilence_early (h : pairWorks s = false ∨ s.pair.linkUp = false ∨ s.pair.silent = true ∨
    t2Ns s < s.pair.lastRx + 30000) : heartbeatSilence s = s :=
  if_pos (by simpa [or_assoc] using h)

section
variable (hworks : pairWorks s = true) (hlink : s.pair.linkUp = true) (hheard : s.pair.silent = false)
  (htime : s.pair.lastRx + 30000 ≤ t2Ns s)
include hworks hlink hheard htime

theorem heartbeatSilence_due : heartbeatSilence s =
    if s.pwr.mode == .knitUp then leadLost (peerSilent s)
    else if followSide s then startTakeover 1 (peerSilent s)
    else if leadSide s then followLost true (peerSilent s)
    else peerSilent s :=
  if_neg (by simp [hworks, hlink, hheard, htime])

theorem heartbeatSilence_knitUp (hmode : s.pwr.mode = .knitUp) : heartbeatSilence s = leadLost (peerSilent s) :=
  (heartbeatSilence_due hworks hlink hheard htime).trans (if_pos (beq_iff_eq.mpr hmode))

theorem heartbeatSilence_follow (hside : followSide s = true) : heartbeatSilence s = startTakeover 1 (peerSilent s) := by
  rw [heartbeatSilence_due hworks hlink hheard htime, followSide_knitUp hside, hside]
  rfl

theorem heartbeatSilence_lead (hside : leadSide s = true) : heartbeatSilence s = followLost true (peerSilent s) := by
  obtain ⟨hknit, hfollow⟩ := leadSide_excludes hside
  rw [heartbeatSilence_due hworks hlink hheard htime, hknit, hfollow, hside]
  rfl

theorem heartbeatSilence_other (hfollow : s.pwr.mode ≠ .follow) (hlead : s.pwr.mode ≠ .lead) (hknit : s.pwr.mode ≠ .knitUp)
    (hdrill : s.pwr.mode ≠ .drill) : heartbeatSilence s = peerSilent s := by
  rw [heartbeatSilence_due hworks hlink hheard htime]
  simp [followSide, leadSide, hfollow, hlead, hknit, hdrill]

end

/-! ### The pins (R442 to R445) -/

theorem leadInYield_other (h : s.pair.leadOut = false ∨ (s.pwr.mode ≠ .lead ∧ s.pwr.mode ≠ .drill)) :
    leadInYield s = withPair s { s.pair with leadIn := true } :=
  if_pos (by
    obtain h | ⟨hlead, hdrill⟩ := h
    · simp [h]
    · simp [leadSide, hlead, hdrill])

/-- A Lead yields: it goes to Safe hold with cause 5, its LEAD_OUT low. -/
theorem leadInYield_lead (hout : s.pair.leadOut = true) (h : s.pwr.mode = .lead ∨ s.pwr.mode = .drill) :
    (leadInYield s).pwr.mode = .safeHold ∧ (leadInYield s).pwr.cause = 5 ∧ (leadInYield s).pwr.faultN = true ∧
      (leadInYield s).pair.leadOut = false ∧ (leadInYield s).pair.leadIn = true := by
  have hlead : (leadSide s && s.pair.leadOut) = true := by
    obtain h | h := h <;> simp [leadSide, h, hout]
  simp [leadInYield, hlead, pinEvent, pairDrop]

end

theorem exec_heartbeatReceive (lane : Nat) (h : Heartbeat) (s : State) :
    exec (.heartbeatReceive lane h) s = .next (heartbeatReceive lane h s) := rfl

theorem exec_heartbeatSilence (s : State) : exec .heartbeatSilence s = .next (heartbeatSilence s) := rfl

/-! ### The obligation -/

/-- Settles O55, event by event. -/
theorem heartbeatsAndPinsDecideTheLead : Obligations.HeartbeatsAndPinsDecideTheLead := by
  unfold Obligations.HeartbeatsAndPinsDecideTheLead
  refine ⟨?send, ?receive, ?silence, fun s => ?pins⟩
  case send =>
    rintro s v rfl
    exact ⟨fun h => congrArg _ (heartbeatSend_idle h), fun hworks hen htime => congrArg _ (heartbeatSend_due hworks hen htime)⟩
  case receive =>
    rintro lane h s v hlane hv
    obtain rfl : v = heartbeatTaken h s := hv
    rw [exec_heartbeatReceive]
    refine ⟨fun hbad => congrArg _ (heartbeatReceive_ignored hlane hbad), fun hworks hlink hused hcrc => ?_⟩
    have acts := heartbeatReceive_good (h := h) hlane hworks hlink hused hcrc
    refine ⟨fun hmin hmax hno => ?_, fun hmin hmax hreq hmode hhand htake hout => ?_, fun hgone => ?_⟩
    · exact congrArg _ ((acts hmin (by omega)).trans (heartbeatActs_present _ hmax hno))
    · exact congrArg _ ((acts hmin (by omega)).trans (heartbeatActs_request _ hmax hreq hmode hhand htake hout))
    have acts := acts (by omega) (by omega)
    have follow (hside : followSide s = true) :=
      acts.trans (heartbeatActs_gone_follow (s := heartbeatTaken h s) s.pair.peerMode hgone hside)
    have lead (hside : leadSide s = true) :=
      acts.trans (heartbeatActs_gone_lead (s := heartbeatTaken h s) s.pair.peerMode hgone hside)
    refine ⟨fun hside hhand htake => ?_, fun hmode => ?_, fun hside hunder => ?_, fun hside h11 h12 => ?_, fun hside hold => ?_,
      fun hfollow hlead hmode => ?_, fun hmode hdrill h11 h12 => ?_⟩
    · exact congrArg _ ((follow hside).trans ((if_neg (by simp [heartbeatTaken, hhand])).trans
        (startTakeover_gone (s := heartbeatTaken h s) htake)))
    · exact ⟨_, congrArg _ (acts.trans (heartbeatActs_gone_knitUp (s := heartbeatTaken h s) _ hgone hmode)), leadLost_safeHold _⟩
    · refine congrArg _ ((follow hside).trans ?_)
      split
      · rfl
      · next hhand =>
        exact startTakeover_again (s := heartbeatTaken h s) 2 (hunder.resolve_left (by simpa [heartbeatTaken] using hhand))
    · exact congrArg _ ((lead hside).trans (if_neg (by simp [peerGone_iff, h11, h12])))
    · exact congrArg _ ((lead hside).trans (if_pos (peerGone_iff.mpr hold)))
    · exact congrArg _ (acts.trans (heartbeatActs_gone_other (s := heartbeatTaken h s) _ hgone hfollow hlead hmode))
    · exact congrArg _ ((lead (leadSide_of_lead hmode)).trans ((if_neg (by simp [peerGone_iff, h11, h12])).trans
        (followLost_lead (s := heartbeatTaken h s) false hmode hdrill)))
  case silence =>
    rintro s v hv
    obtain rfl : v = peerSilent s := hv
    rw [exec_heartbeatSilence]
    refine ⟨fun h => congrArg _ (heartbeatSilence_early h), fun hworks hlink hheard htime => ?_⟩
    refine ⟨fun hside htake => ?_, fun hside => ?_, fun hside htake => ?_, fun hmode hdrill => ?_, fun hmode => ?_,
      fun hfollow hlead hknit hdrill => ?_⟩
    · exact congrArg _ ((heartbeatSilence_follow hworks hlink hheard htime hside).trans (startTakeover_again (s := peerSilent s) 1 htake))
    · exact congrArg _ (heartbeatSilence_lead hworks hlink hheard htime hside)
    · exact congrArg _ ((heartbeatSilence_follow hworks hlink hheard htime hside).trans (startTakeover_silent (s := peerSilent s) htake))
    · rw [heartbeatSilence_lead hworks hlink hheard htime (leadSide_of_lead hmode),
        followLost_lead (s := peerSilent s) true hmode hdrill, peerSilent_unfit]
    · exact ⟨_, congrArg _ (heartbeatSilence_knitUp hworks hlink hheard htime hmode), leadLost_safeHold _⟩
    · exact congrArg _ (heartbeatSilence_other hworks hlink hheard htime hfollow hlead hknit hdrill)
  case pins =>
    refine ⟨fun hout htime hon => congrArg _ (if_pos ?_), fun silence d hmode _ => followLost_drill silence hmode,
      fun h => congrArg _ (if_neg ?_), fun h => congrArg _ (leadInYield_other h), fun hout hmode => ?_,
      fun hworks hlink hheard => congrArg _ (if_neg ?_), fun h => congrArg _ (if_pos ?_)⟩
    · simp [hout, htime, hon]
    · simp only [Bool.and_eq_true, decide_eq_true_eq, bne_iff_ne]
      rintro ⟨⟨hout, htime⟩, hon⟩
      simp [hout, hon, Nat.not_lt.mpr htime] at h
    · obtain ⟨hsafe, hcause, hfault, hlow, hin⟩ := leadInYield_lead hout hmode
      obtain ⟨hmem, -, hscan, -⟩ := (leadInYield_frame s (.refl roleUnits s) rfl rfl rfl rfl rfl).roleKeeps
      exact ⟨_, rfl, hsafe, hcause, hfault, hlow, hin, hmem, hscan⟩
    · simp [hworks, hlink, hheard]
    · simpa [or_assoc] using h

end Sys2Proof.Machine
end

section
/-! SUPPORT. What DRILL_RESULT tells of the outputs whose echo matched; the refutation of the obligation about changes of role, with the
block that it fails on. -/

namespace Sys2Proof.Machine

/-- A module in a drill with a match on output 0, which the table of outputs lists twice: disabled, then enabled. PF0's event ring is
enabled and takes DRILL_RESULT. -/
def drilledTwiceListed : State :=
  { State.reset with
    hif := { State.reset.hif with
             mask0 := [0, w32 (2 ^ 20), 0, 0]
             mask1 := [0, 0, 0, 0]
             fn0 := { rings := [(8, { en := true })] } }
    scan := { outs := [(0, {}), (0, { en := true })] }
    pair := { drill := some { frame := 0, ret := 0, matched := [0] } } }

/-- The outputs 0 to 31 that the last descriptor sent reports as matched, as a mask (Table 11-8). -/
def matchesReported (s : State) : W32 :=
  match s.outbox.getLast? with
  | some (.desc _ _ _ _ words) => wd words 10
  | _ => 0

/-- No output of that block is enabled, as its table is read. -/
theorem drilledTwiceListed_disabled (o : Nat) : (outGet drilledTwiceListed o).en = false := by
  by_cases h : o = 0 <;> simp [outGet, drilledTwiceListed, tget, tfind, h]

/-- A descriptor that a ring without an interrupt has room for is sent last. -/
theorem ringWrite_sends {fn r : Nat} {s : State} (ws : List W32) (now : Bool) (hroom : ringRoom (ringGet s fn r) 1 = true)
    (hirq : (ringGet s fn r).irqEn = false) : ∃ prod addr phase, (ringWrite fn r ws now s).outbox =
      s.outbox ++ [.desc fn r prod addr (padW 16 ((wd ws 0 ||| phase) :: ws.drop 1))] := by
  have sent (u : State) (x : Ring) : (ringSet u fn r x).outbox = u.outbox := by
    unfold ringSet fnSet
    split <;> rfl
  refine ⟨(ringGet s fn r).prod, slotAddr (ringGet s fn r) (ringGet s fn r).prod,
    w32 (phaseBit (ringGet s fn r) (ringGet s fn r).prod), ?_⟩
  rw [ringWrite, if_pos hroom, ringPut]
  simp only [hirq, Bool.false_and, Bool.false_eq_true, if_false, sent]
  rfl

/-- A DRILL_RESULT of that block is sent as its parameters give it. -/
theorem matchesReported_raise (w a b c d e : W32) (u : PairUnit) :
    matchesReported (raise 0x34 [w, a, b, c, d, e] (withPair drilledTwiceListed u)) = b := by
  have hpf0 : raise 0x34 [w, a, b, c, d, e] (withPair drilledTwiceListed u) =
      eventToFn 0 0x34 [w, a, b, c, d, e] (withPair drilledTwiceListed u) := by
    have h0 : maskBit drilledTwiceListed.hif.mask0 0x34 = true := by decide
    have h1 : maskBit drilledTwiceListed.hif.mask1 0x34 = false := by decide
    have h2 : maskBit drilledTwiceListed.hif.mask2 0x34 = false := by decide
    simp [raise, h0, h1, h2]
  have hroom : ringRoom (ringGet drilledTwiceListed 0 8) 1 = true := by decide
  have hirq : (ringGet drilledTwiceListed 0 8).irqEn = false := by decide
  obtain ⟨prod, addr, phase, hsent⟩ := ringWrite_sends (fn := 0) (r := 8) (s := withPair drilledTwiceListed u)
    (eventWords 0x34 drilledTwiceListed.hif.dest0.seq [w, a, b, c, d, e] (withPair drilledTwiceListed u)) false hroom hirq
  have hlast : (eventToFn 0 0x34 [w, a, b, c, d, e] (withPair drilledTwiceListed u)).outbox.getLast? = _ :=
    (congrArg List.getLast? hsent).trans List.getLast?_concat
  rw [hpf0, matchesReported, hlast]
  rfl

/-- Refutes O57, in its clause on how a drill ends: on `drilledTwiceListed`, DRILL_RESULT reports output 0 as matched, for it goes by the
entries of the table of outputs, the second of which is enabled, where the obligation asks that each output so reported be enabled as
`outGet` reads it, which is from the first. The obligation asks it of every block, also of one whose table lists a number twice. -/
theorem not_rolesMoveAtTheirFrames : ¬ Obligations.RolesMoveAtTheirFrames := by
  unfold Obligations.RolesMoveAtTheirFrames
  rintro ⟨-, -, -, -, -, -, -, hends⟩
  obtain ⟨w, good, bad, hresult, -, hgood, -⟩ := (hends drilledTwiceListed).2 _ rfl
  have hnone : good = [] := List.eq_nil_iff_forall_not_mem.mpr fun o ho => by
    simpa [drilledTwiceListed_disabled] using (hgood o ho).1
  have claimed : matchesReported (drillEnd drilledTwiceListed) = 0 := by
    rw [hresult, hnone]
    exact matchesReported_raise ..
  have reported : matchesReported (drillEnd drilledTwiceListed) = 1 := by decide +kernel
  exact absurd (reported.symm.trans claimed) (by decide)

end Sys2Proof.Machine
end

section
/-! SUPPORT. Knit-up: the ends of its phases, the snapshot and the state that it applies, the copies of streams, and its time limits; the
obligation about them. -/

namespace Sys2Proof.Machine

/-! ### Phases (R463) -/

/-- A phase that ends is followed by the next. -/
@[simp] theorem phaseNext_pair (s : State) : (phaseNext s).pair = { s.pair with phase := s.pair.phase + 1 } := by simp [phaseNext]

theorem phaseNext_keeps (s : State) : Agree { pair := true } s (phaseNext s) := phaseNext_frame s (.refl _ s) rfl

/-- The block in Follow at the end of a knit-up. -/
def knitsIn (s : State) : State := setMode .follow 3 0 0xFF (withPair (knitEvent 1 0 s) (knitOver s.pair))

/-- The block at the end of phase 4, the Lead's state applied where it came. -/
def stateTaken (k : KnitEnd) (s : State) : State := (k.state.map fun p => applyState p s).getD s

section
variable {k : KnitEnd} {s : State}

theorem knitPhaseEnd_idle (h : s.pwr.mode ≠ .knitUp ∨ pairWorks s = false ∨ s.pair.linkUp = false ∨ s.pair.phase < 2 ∨
    5 < s.pair.phase) : knitPhaseEnd k s = s := by
  unfold knitPhaseEnd
  dsimp only
  split
  · rfl
  · next hguard =>
    simp only [Bool.or_eq_true, bne_iff_ne, Bool.not_eq_true', not_or, Bool.not_eq_false, not_not] at hguard
    obtain ⟨⟨hmode, hworks⟩, hlink⟩ := hguard
    simp only [hmode, hworks, hlink, ne_eq, not_true_eq_false, Bool.true_eq_false, false_or] at h
    split
    · omega
    · omega
    · omega
    · omega
    · rfl

variable (hmode : s.pwr.mode = .knitUp) (hworks : pairWorks s = true) (hlink : s.pair.linkUp = true)
include hmode hworks hlink

theorem knitPhaseEnd_guard : (s.pwr.mode != .knitUp || !pairWorks s || !s.pair.linkUp) = false := by simp [hmode, hworks, hlink]

theorem knitPhaseEnd_second (hphase : s.pair.phase = 2) :
    knitPhaseEnd k s = if timeProven s then phaseNext (send (.corler 1 [3]) s) else s := by
  rw [knitPhaseEnd, knitPhaseEnd_guard hmode hworks hlink, hphase]
  rfl

theorem knitPhaseEnd_third (hphase : s.pair.phase = 3) {p : PairCopy} (hsnap : k.snap = some p) :
    knitPhaseEnd k s = phaseNext (applySnapshot p s) := by
  rw [knitPhaseEnd, knitPhaseEnd_guard hmode hworks hlink, hphase, hsnap]
  rfl

theorem knitPhaseEnd_third_none (hphase : s.pair.phase = 3) (hsnap : k.snap = none) : knitPhaseEnd k s = s := by
  rw [knitPhaseEnd, knitPhaseEnd_guard hmode hworks hlink, hphase, hsnap]
  rfl

theorem knitPhaseEnd_fourth (hphase : s.pair.phase = 4) : knitPhaseEnd k s =
    if k.caughtUp = true ∧ ∀ n ∈ codedOpen s, n ∈ s.pair.copyDone ∨ n ∈ s.pair.rapWait
    then phaseNext (withPair (stateTaken k s) { (stateTaken k s).pair with proofFrames := 0 }) else s := by
  rw [knitPhaseEnd, knitPhaseEnd_guard hmode hworks hlink, hphase]
  simp only [stateTaken]
  cases k.state <;> simp

theorem knitPhaseEnd_fifth (hphase : s.pair.phase = 5) : knitPhaseEnd k s = if 8 ≤ s.pair.proofFrames ∧ pairFit s = true
    then roleEvent 6 7 7 (refFrame (knitsIn s) (t0Ns (knitsIn s))) (t0Ns (knitsIn s)) (knitsIn s) else s := by
  rw [knitPhaseEnd, knitPhaseEnd_guard hmode hworks hlink, hphase]
  simp [knitsIn]

end

theorem stateTaken_keeps (k : KnitEnd) (s : State) : Agree { mem := true, comp := true, enc := true } s (stateTaken k s) := by
  unfold stateTaken
  cases k.state with
  | some p => exact applyState_frame p s (.refl _ s) rfl rfl rfl
  | none => exact .refl _ s

/-- A knit-up that succeeds leaves the module in Follow, its link up. -/
theorem knitsIn_follow (s : State) : (knitsIn s).pwr.mode = .follow ∧ (knitsIn s).pair = { knitOver s.pair with leadOut := false } := by
  simp [knitsIn]

theorem knitsIn_keeps (s : State) : Agree roleUnits s (knitsIn s) :=
  setMode_frame _ _ _ _ _ (withPair_frame _ _ (knitEvent_frame 1 0 s (.refl _ s)) rfl) rfl rfl rfl rfl

/-! ### The snapshot (R464) -/

/-- Outputs that take records are enabled as before, and one that takes none is the same. -/
theorem outGet_recordsTaken (ps : Tab (List W32)) (o : Nat) (s : State) :
    let t := ps.foldl (fun st x => outUpd x.1 (fun y => { y with rcd := x.2 }) st) s
    (outGet t o).en = (outGet s o).en ∧ ((∀ x ∈ ps, x.1 ≠ o) → outGet t o = outGet s o) := by
  induction ps generalizing s with
  | nil => exact ⟨rfl, fun _ => rfl⟩
  | cons x ps ih =>
    obtain ⟨hen, hsame⟩ := ih (outUpd x.1 (fun y => { y with rcd := x.2 }) s)
    refine ⟨hen.trans ?_, fun h => (hsame fun y hy => h y (List.mem_cons_of_mem x hy)).trans ?_⟩
    · rw [outUpd, outGet_outSet]
      split
      · next ho => rw [ho]
      · rfl
    · rw [outUpd, outGet_outSet, if_neg (h x List.mem_cons_self).symm]

/-- Encode channels that take records are enabled as before. -/
theorem ecGet_recordsTaken (ps : Tab (List W32)) (c : Nat) (s : State) :
    (ecGet (ps.foldl (fun st x => ecUpd x.1 (fun y => { y with rcd := ownBuffer y.rcd x.2 }) st) s) c).en = (ecGet s c).en := by
  induction ps generalizing s with
  | nil => rfl
  | cons x ps ih =>
    refine (ih _).trans ?_
    rw [ecGet_ecUpd]
    split
    · next hc => rw [hc]
    · rfl

/-- The snapshot's settings: streams, flows, generators, ledger, canvases, commits, transfer functions and stills. -/
def settingsTaken (p : PairCopy) (s : State) : State :=
  let s1 := copyStreams p.streams s
  let s2 := withNet s1 { s1.net with flows := p.flows.map fun x => (x.1, ({ rcd := x.2 } : Flow)) }
  let s3 := withTb s2 { s2.tb with fl := p.gens.map fun x => (x.1, copyGen s2 x.2) }
  withComp s3 { s3.comp with ledger := p.ledger, canvases := p.canvases.map fun x => (x.1, copyCanvas (canGet s3 x.1) x.2),
                             commits := p.commits, xfers := p.xfers, stills := p.stills }

/-- The records of outputs and encode channels that follow, and the stills' bytes. -/
def recordsTaken (p : PairCopy) (s : State) : State :=
  copyStills p (p.encs.foldl (fun st x => ecUpd x.1 (fun y => { y with rcd := ownBuffer y.rcd x.2 }) st)
    (p.outs.foldl (fun st x => outUpd x.1 (fun y => { y with rcd := x.2 }) st) s))

theorem applySnapshot_eq (p : PairCopy) (s : State) : applySnapshot p s = withPair (recordsTaken p (settingsTaken p s))
    { (recordsTaken p (settingsTaken p s)).pair with disabledCh := unsetBuffers p s } := rfl

theorem recordsTaken_keeps (p : PairCopy) (s : State) : Agree { mem := true, scan := true, enc := true } s (recordsTaken p s) :=
  copyStills_frame p _ (agree_foldl (fun _ _ h => ecUpd_frame _ _ _ h rfl) (agree_foldl (fun _ _ h => outUpd_frame _ _ _ h rfl)
    (.refl _ s))) rfl

theorem settingsTaken_keeps (p : PairCopy) (s : State) :
    Agree { tb := true, str := true, net := true, comp := true } s (settingsTaken p s) :=
  withComp_frame _ _ (withTb_frame _ _ (withNet_frame _ _ (copyStreams_frame _ _ (.refl _ s) rfl) rfl) rfl) rfl

theorem Agree.outGet {m : Units} {s t : State} (h : Agree m s t) (hm : m.scan = false) (o : Nat) : outGet t o = outGet s o := by
  unfold Sys2Proof.Machine.outGet
  rw [h.scan.resolve_left (by simp [hm])]

theorem outGet_recordsTaken_snapshot (p : PairCopy) (s : State) (o : Nat) : (outGet (recordsTaken p s) o).en = (outGet s o).en ∧
    ((∀ x ∈ p.outs, x.1 ≠ o) → outGet (recordsTaken p s) o = outGet s o) := by
  have hrest : outGet (recordsTaken p s) o = outGet (p.outs.foldl (fun st x => outUpd x.1 (fun y => { y with rcd := x.2 }) st) s) o :=
    (copyStills_frame p _ (agree_foldl (fun _ _ h => ecUpd_frame _ _ _ h rfl) (.refl { mem := true, enc := true } _)) rfl).outGet rfl o
  rw [hrest]
  exact outGet_recordsTaken p.outs o s

theorem ecGet_recordsTaken_snapshot (p : PairCopy) (s : State) (c : Nat) : (ecGet (recordsTaken p s) c).en = (ecGet s c).en := by
  have hstills := copyStills_frame p (p.encs.foldl (fun st x => ecUpd x.1 (fun y => { y with rcd := ownBuffer y.rcd x.2 }) st)
    (p.outs.foldl (fun st x => outUpd x.1 (fun y => { y with rcd := x.2 }) st) s)) (.refl { mem := true } _) rfl
  have houts := agree_foldl (l := p.outs) (fun _ x h => outUpd_frame x.1 (fun y => { y with rcd := x.2 }) _ h rfl)
    (Agree.refl { scan := true } s)
  rw [recordsTaken, hstills.ecGet rfl, ecGet_recordsTaken, houts.ecGet rfl]

/-- The snapshot applied: the module holds the Lead's ledger, commits, transfer functions, stills and flows; what is enabled, its time and
its power unit stay its own. -/
theorem applySnapshot_holds (p : PairCopy) (s : State) : ∀ t, t = applySnapshot p s →
    t.pair.phase = s.pair.phase ∧ t.comp.ledger = p.ledger ∧ t.comp.commits = p.commits ∧ t.comp.xfers = p.xfers ∧
      t.comp.stills = p.stills ∧ (∀ x ∈ t.net.flows, ∃ y ∈ p.flows, x.1 = y.1 ∧ x.2.rcd = y.2) ∧
      (∀ o, (∀ x ∈ p.outs, x.1 ≠ o) → outGet t o = outGet s o) ∧ (∀ o, (outGet t o).en = (outGet s o).en) ∧
      (∀ c, (ecGet t c).en = (ecGet s c).en) ∧ t.pwr = s.pwr ∧ t.tb.t0 = s.tb.t0 := by
  rintro t rfl
  rw [applySnapshot_eq]
  have hsettings := settingsTaken_keeps p s
  have hrecords := recordsTaken_keeps p (settingsTaken p s)
  have hstreams := copyStreams_frame p.streams s (.refl { str := true } s) rfl
  have hcomp := hrecords.comp.resolve_left Bool.false_ne_true
  have hnet := hrecords.net.resolve_left Bool.false_ne_true
  have htb := hrecords.tb.resolve_left Bool.false_ne_true
  have houts (o : Nat) := outGet_recordsTaken_snapshot p (settingsTaken p s) o
  have hencs (c : Nat) := ecGet_recordsTaken_snapshot p (settingsTaken p s) c
  simp only [hsettings.outGet rfl, hsettings.ecGet rfl] at houts hencs
  have hpair := (hrecords.pair.resolve_left Bool.false_ne_true).trans (hsettings.pair.resolve_left Bool.false_ne_true)
  have hpwr := (hrecords.pwr.resolve_left Bool.false_ne_true).trans (hsettings.pwr.resolve_left Bool.false_ne_true)
  refine ⟨by rw [withPair_pair, hpair], congrArg CompUnit.ledger hcomp, congrArg CompUnit.commits hcomp, congrArg CompUnit.xfers hcomp,
    congrArg CompUnit.stills hcomp, fun x hx => ?_, fun o ho => (houts o).2 ho, fun o => (houts o).1, hencs, hpwr, ?_⟩
  · rw [withPair_net, hnet] at hx
    obtain ⟨y, hy, rfl⟩ := List.mem_map.mp hx
    exact ⟨y, hy, rfl, rfl⟩
  · rw [withPair_tb, htb]
    show (copyStreams p.streams s).tb.t0 = s.tb.t0
    rw [hstreams.tb.resolve_left Bool.false_ne_true]

/-! ### What the mover reads (R74, R466) -/

/-- A custody report changes no stream. -/
theorem custodyReport_ents (stage init inst still surf frame : Nat) (fs : List Failure) (s : State) :
    (custodyReport stage init inst still surf frame fs s).str.ents = s.str.ents := by
  unfold custodyReport custodyReportOf
  dsimp only
  split
  · rfl
  · split <;> simp

/-- Nor does a stitch that is read, once or twice. -/
theorem fetchStitch_ents (stage : Nat) (us : List StageFault) (init port : Nat) (f : Surf) (sx sy : Nat) (s : State) :
    (fetchStitch stage us init port f sx sy s).2.str.ents = s.str.ents := by
  have reads (u : State) : (readStitch init port f sx sy u).2.2.str = u.str :=
    (readStitch_frame init port f sx sy u (.refl { mem := true } u) rfl).str.resolve_left Bool.false_ne_true
  have retried (c : Bool) (u : State) : (if c then countRetry stage u else u).str.ents = u.str.ents := by
    cases c <;> rfl
  unfold fetchStitch
  dsimp only
  split
  · rw [reads]
  · split
    · split
      · rw [reads, reads]
      · rw [retried, reads, reads]
    · rw [retried, reads, reads]

theorem foldl_snd_ents {α β : Type} {f : β × State → α → β × State} (hf : ∀ r a, (f r a).2.str.ents = r.2.str.ents)
    (l : List α) (r : β × State) : (l.foldl f r).2.str.ents = r.2.str.ents := by
  induction l generalizing r with
  | nil => rfl
  | cons a l ih => exact (ih (f r a)).trans (hf r a)

theorem moverStitch_ents (k : Nat) (sends : Bool) (us : List StageFault) (f : Surf) (r : List Failure × State) (c : Nat × Nat) :
    (moverStitch k sends us f r c).2.str.ents = r.2.str.ents := by
  have hfetch := fetchStitch_ents 0x50 us 20 19 f c.1 c.2 r.2
  unfold moverStitch
  dsimp only
  split <;> split <;> exact hfetch

theorem moverSurface_ents (k : Nat) (sends : Bool) (us : List StageFault) (slot frame : Nat) (f : Surf) (r : Bool × State) :
    (moverSurface k sends us slot frame f r).2.str.ents = r.2.str.ents :=
  (custodyReport_ents ..).trans (foldl_snd_ents (fun r c => moverStitch_ents k sends _ f r c) _ _)

/-- The mover's reads change no stream. -/
theorem moverRead_ents (k : Nat) (sends : Bool) (us : List StageFault) (s : State) : (moverRead k sends us s).2.str.ents = s.str.ents :=
  (foldl_snd_ents (fun r _ => moverSurface_ents k sends us _ _ _ r) _ _).trans
    (foldl_snd_ents (fun r _ => moverSurface_ents k sends us _ _ _ r) _ _)

/-! ### KNIT_STREAM_COPY (R466, R467) -/

theorem strGet_of_ents {s t : State} (h : t.str.ents = s.str.ents) (k : Nat) : strGet t k = strGet s k := by
  unfold strGet
  rw [h]

theorem strGet_withPair (s : State) (u : PairUnit) (k : Nat) : strGet (withPair s u) k = strGet s k := rfl

/-- The rejoining module takes over the stream that is copied, and no other. -/
theorem copyIn_ents (k : Nat) (x : StreamCopy) (s : State) : (copyIn k x s).str.ents =
    (match x.entry with | some e => strUpd k (fun own => copyEntry own e) s | none => s).str.ents := by
  have puts {α : Type} (l : List α) (at_ : α → Nat) (bytes : α → List Byte) (u : State) :
      (l.foldl (fun st y => (busWrite 3 20 ((bytes y).length / 4096 + 2) (at_ y) (bytes y) st).2) u).str = u.str :=
    (agree_foldl (fun _ _ h => busWrite_frame _ _ _ _ _ _ h rfl) (Agree.refl { mem := true } u)).str.resolve_left Bool.false_ne_true
  unfold copyIn
  dsimp only
  rw [puts, puts]
  rfl

theorem copyIn_keeps (k : Nat) (x : StreamCopy) (s : State) : Agree { mem := true, str := true } s (copyIn k x s) :=
  copyIn_frame k x s (.refl _ s) rfl rfl

theorem strGet_copyIn_other {k m : Nat} (x : StreamCopy) (s : State) (hm : m ≠ k) : strGet (copyIn k x s) m = strGet s m := by
  rw [strGet_of_ents (copyIn_ents k x s)]
  cases x.entry with
  | some e => exact (streamOnly_strUpd k _ s).others m hm
  | none => rfl

theorem strGet_copyIn {k : Nat} {x : StreamCopy} {e : StreamE} (s : State) (h : x.entry = some e) :
    strGet (copyIn k x s) k = copyEntry (strGet s k) e := by
  rw [strGet_of_ents (copyIn_ents k x s), h]
  exact strGet_strUpd_same ..

/-- What a copy of a stream reads: on the Lead the stream, on the rejoining module its own copy where it verified. -/
def copyRead (k : Nat) (x : StreamCopy) (s : State) : Bool × State :=
  if s.pwr.mode = .lead then moverRead k true x.faults s else moverRead k false x.faults (if x.verified then copyIn k x s else s)

theorem copyRead_keeps (k : Nat) (x : StreamCopy) (s : State) : Agree { mem := true, str := true } s (copyRead k x s).2 := by
  unfold copyRead
  split
  · exact moverRead_frame k true x.faults s (.refl _ s) rfl rfl
  · exact moverRead_frame k false x.faults _ (ite_frame (copyIn_keeps k x s) (.refl _ s)) rfl rfl

theorem strGet_copyRead_other {k m : Nat} (x : StreamCopy) (s : State) (hm : m ≠ k) : strGet (copyRead k x s).2 m = strGet s m := by
  unfold copyRead
  split
  · exact strGet_of_ents (moverRead_ents ..) m
  · rw [strGet_of_ents (moverRead_ents ..)]
    split
    · exact strGet_copyIn_other x s hm
    · rfl

theorem strGet_copyRead_lead {k : Nat} (x : StreamCopy) {s : State} (hmode : s.pwr.mode = .lead) (m : Nat) :
    strGet (copyRead k x s).2 m = strGet s m := by
  rw [copyRead, if_pos hmode]
  exact strGet_of_ents (moverRead_ents ..) m

theorem strGet_copyRead_joins {k : Nat} {x : StreamCopy} {e : StreamE} {s : State} (hmode : s.pwr.mode = .knitUp)
    (hverified : x.verified = true) (he : x.entry = some e) : strGet (copyRead k x s).2 k = copyEntry (strGet s k) e := by
  rw [copyRead, if_neg (by simp [hmode]), strGet_of_ents (moverRead_ents ..), if_pos hverified]
  exact strGet_copyIn s he

/-- A stream that waits for a random access point, as the module in Knit-up notes in its entry. -/
def rapAwaited (k : Nat) (s : State) : State :=
  let s1 := withPair s { s.pair with rapWait := k :: s.pair.rapWait }
  if s.pwr.mode == .knitUp then strUpd k (fun e => { e with wantRap := true }) s1 else s1

theorem copyFailed_again {k : Nat} {s : State} (h : tget 0 s.pair.copyTries k < 2) : copyFailed k true s =
    withPair s { s.pair with copyTries := tset k (tget 0 s.pair.copyTries k + 1) s.pair.copyTries } :=
  if_pos (by simp; omega)

theorem copyFailed_last {k : Nat} {abandoned : Bool} {s : State} (hnew : k ∉ s.pair.rapWait)
    (h : abandoned = false ∨ 2 ≤ tget 0 s.pair.copyTries k) : copyFailed k abandoned s = rapAwaited k s := by
  have hlast : ¬ (abandoned && decide (tget 0 s.pair.copyTries k + 1 < 3)) = true := by
    obtain h | h := h
    · simp [h]
    · simp; omega
  refine (if_neg hlast).trans ?_
  simp [rapAwaited, hnew]

@[simp] theorem rapAwaited_pair (k : Nat) (s : State) : (rapAwaited k s).pair = { s.pair with rapWait := k :: s.pair.rapWait } := by
  unfold rapAwaited
  dsimp only
  split <;> rfl

theorem strGet_rapAwaited_other {k m : Nat} (s : State) (hm : m ≠ k) : strGet (rapAwaited k s) m = strGet s m := by
  unfold rapAwaited
  dsimp only
  split
  · exact (streamOnly_strUpd k _ _).others m hm
  · rfl

theorem strGet_rapAwaited {k : Nat} {s : State} (hmode : s.pwr.mode = .knitUp) :
    strGet (rapAwaited k s) k = { strGet s k with wantRap := true } := by
  rw [rapAwaited, if_pos (beq_iff_eq.mpr hmode)]
  exact strGet_strUpd_same ..

section
variable {k : Nat} {x : StreamCopy} {s : State}

/-- A stream is copied by a Lead to a rejoining peer, and by the module that rejoins in phase 4. -/
def Copies (s : State) : Prop := (s.pwr.mode = .lead ∧ s.pair.peerMode = 7) ∨ (s.pwr.mode = .knitUp ∧ s.pair.phase = 4)

theorem copies_iff : Copies s ↔ (s.pwr.mode == .lead && s.pair.peerMode == 7 || s.pwr.mode == .knitUp && s.pair.phase == 4) = true := by
  simp [Copies]

theorem streamCopy_ignored (h : pairWorks s = false ∨ s.pair.linkUp = false ∨ ¬ Copies s ∨ k ∉ codedOpen s ∨
    k ∈ s.pair.copyDone ∨ k ∈ s.pair.rapWait) : streamCopy k x s = s := by
  rw [copies_iff, Bool.not_eq_true] at h
  refine if_pos ?_
  obtain h | h | h | h | h | h := h <;> simp [h]

variable (hworks : pairWorks s = true) (hlink : s.pair.linkUp = true) (hcopies : Copies s) (hopen : k ∈ codedOpen s)
  (hdone : k ∉ s.pair.copyDone) (hrap : k ∉ s.pair.rapWait)
include hworks hlink hcopies hopen hdone hrap

theorem streamCopy_judged : streamCopy k x s =
    if x.wouldWait then copyFailed k true s
    else if (copyRead k x s).1 || !x.verified then copyFailed k false (copyRead k x s).2
    else withPair (copyRead k x s).2 { (copyRead k x s).2.pair with copyDone := k :: (copyRead k x s).2.pair.copyDone } := by
  have hguard : (!pairWorks s || !s.pair.linkUp || !(s.pwr.mode == .lead && s.pair.peerMode == 7 || s.pwr.mode == .knitUp &&
      s.pair.phase == 4) || !(codedOpen s).contains k || s.pair.copyDone.contains k || s.pair.rapWait.contains k) = false := by
    simp [hworks, hlink, copies_iff.mp hcopies, hopen, hdone, hrap]
  refine (if_neg (by rw [hguard]; exact Bool.false_ne_true)).trans ?_
  unfold copyRead
  obtain ⟨hmode, hpeer⟩ | ⟨hmode, hphase⟩ := hcopies
  · simp only [hmode, hpeer]
    rfl
  · simp only [hmode]
    rfl

end

/-! ### Time limits (R462, R470) -/

theorem knitTimeout_due {s : State} (hmode : s.pwr.mode = .knitUp) (htime : s.pair.knitAt + s.pair.limitS * 1000000000 ≤ t2Ns s) :
    knitTimeout s = knitFail 4 3 0xFF s :=
  if_pos (by simp [hmode, htime])

theorem knitTimeout_early {s : State} (h : s.pwr.mode ≠ .knitUp ∨ t2Ns s < s.pair.knitAt + s.pair.limitS * 1000000000) :
    knitTimeout s = s :=
  if_neg (by
    obtain h | h := h
    · simp [h]
    · simp [Nat.not_le.mpr h])

theorem acceptExpiry_none {s : State} (h : s.pair.acceptUntil = none) : acceptExpiry s = s := by
  rw [acceptExpiry, h]

theorem acceptExpiry_some {s : State} {a : Nat} (h : s.pair.acceptUntil = some a) : acceptExpiry s = if a ≤ t2Ns s
    then withPair s { s.pair with acceptUntil := none, training := s.pair.training && s.pwr.mode != .lead, trainFailed := none }
    else s := by
  rw [acceptExpiry, h]

theorem exec_knitTimeout (s : State) : exec .knitTimeout s = .next (knitTimeout s) := rfl

theorem exec_knitPhaseEnd (k : KnitEnd) (s : State) : exec (.knitPhaseEnd k) s = .next (knitPhaseEnd k s) := rfl

theorem exec_knitStreamCopy {n : Nat} (x : StreamCopy) (s : State) (hn : n < 256) :
    exec (.knitStreamCopy n x) s = .next (streamCopy n x s) :=
  congrArg (fun n => Host.Outcome.next (streamCopy n x s)) (Nat.mod_eq_of_lt hn)

/-! ### The obligation -/

/-- Settles O58, clause by clause: the phases of a knit-up, the copies of streams, and the time limits. -/
theorem knitUpPassesItsPhasesInOrder : Obligations.KnitUpPassesItsPhasesInOrder := by
  unfold Obligations.KnitUpPassesItsPhasesInOrder
  refine ⟨fun k s h => congrArg _ (knitPhaseEnd_idle h), fun k s hmode hworks hlink => ?phases, fun n x s hn => ?copies,
    fun s => ?limits⟩
  case phases =>
    rw [exec_knitPhaseEnd]
    have second := knitPhaseEnd_second (k := k) hmode hworks hlink
    have fourth := knitPhaseEnd_fourth (k := k) hmode hworks hlink
    have fifth := knitPhaseEnd_fifth (k := k) hmode hworks hlink
    refine ⟨fun hphase hproven => ?_, fun hphase hproven => ?_, fun p hphase hsnap => ?_, fun hphase hsnap => ?_,
      fun hphase hcaught hall => ?_, fun hphase hopen => ?_, fun hphase hframes hfit => ?_, fun hphase h => ?_⟩
    · have hkeep := phaseNext_keeps (send (.corler 1 [3]) s)
      refine ⟨_, congrArg _ ((second hphase).trans (if_pos hproven)), ?_, hkeep.comp.resolve_left Bool.false_ne_true,
        hkeep.mem.resolve_left Bool.false_ne_true⟩
      simp [hphase]
    · exact congrArg _ ((second hphase).trans (if_neg (by simp [hproven])))
    · have hkeep := phaseNext_keeps (applySnapshot p s)
      obtain ⟨hstays, hledger, hcommits, hxfers, hstills, hflows, hsame, hen, hchan, hpwr, ht0⟩ := applySnapshot_holds p s _ rfl
      refine ⟨_, congrArg _ (knitPhaseEnd_third hmode hworks hlink hphase hsnap), by simp [hstays, hphase], ?_⟩
      simp only [hkeep.outGet rfl, hkeep.ecGet rfl, hkeep.comp.resolve_left Bool.false_ne_true,
        hkeep.net.resolve_left Bool.false_ne_true, hkeep.pwr.resolve_left Bool.false_ne_true, hkeep.tb.resolve_left Bool.false_ne_true]
      exact ⟨hledger, hcommits, hxfers, hstills, hflows, hsame, hen, hchan, hpwr, ht0⟩
    · exact congrArg _ (knitPhaseEnd_third_none hmode hworks hlink hphase hsnap)
    · have hkeep := phaseNext_keeps (withPair (stateTaken k s) { (stateTaken k s).pair with proofFrames := 0 })
      have htaken := stateTaken_keeps k s
      refine ⟨_, congrArg _ ((fourth hphase).trans (if_pos ⟨hcaught, hall⟩)), ?_, ?_⟩
      · simp [htaken.pair.resolve_left Bool.false_ne_true, hphase]
      · rw [hkeep.pwr.resolve_left Bool.false_ne_true, hkeep.str.resolve_left Bool.false_ne_true,
          hkeep.scan.resolve_left Bool.false_ne_true, hkeep.mem.resolve_left Bool.false_ne_true,
          hkeep.comp.resolve_left Bool.false_ne_true, hkeep.enc.resolve_left Bool.false_ne_true]
        refine ⟨htaken.pwr.resolve_left Bool.false_ne_true, htaken.str.resolve_left Bool.false_ne_true,
          htaken.scan.resolve_left Bool.false_ne_true, fun hnone => ?_⟩
        simp [stateTaken, hnone]
    · refine congrArg _ ((fourth hphase).trans (if_neg ?_))
      rintro ⟨hcaught, hall⟩
      obtain h | ⟨n, hn, hdone, hrap⟩ := hopen
      · simp [h] at hcaught
      · exact (hall n hn).elim hdone hrap
    · obtain ⟨hfollow, hpair⟩ := knitsIn_follow s
      obtain ⟨hmem, hcomp, hscan, -⟩ := (roleEvent_frame 6 7 7 (refFrame (knitsIn s) (t0Ns (knitsIn s))) (t0Ns (knitsIn s)) _
        (knitsIn_keeps s)).roleKeeps
      refine ⟨_, congrArg _ ((fifth hphase).trans (if_pos ⟨hframes, hfit⟩)), ?_⟩
      rw [hmem, hcomp, hscan, roleEvent_pwr, roleEvent_pair, hpair]
      exact ⟨hfollow, rfl, rfl, hlink, rfl, rfl, rfl⟩
    · refine congrArg _ ((fifth hphase).trans (if_neg ?_))
      rintro ⟨hframes, hfit⟩
      obtain h | h := h
      · omega
      · simp [h] at hfit
  case copies =>
    rw [exec_knitStreamCopy x s hn]
    refine ⟨fun h => congrArg _ (streamCopy_ignored ?_), fun hlead hjoins => congrArg _ (streamCopy_ignored (.inr (.inr (.inl ?_)))),
      fun hworks hlink hopen hdone hrap hcopies => ?_⟩
    · tauto
    · unfold Copies
      tauto
    have judged := streamCopy_judged (x := x) hworks hlink hcopies hopen hdone hrap
    have hkeep := copyRead_keeps n x s
    have hpair := hkeep.pair.resolve_left Bool.false_ne_true
    have hpwr := hkeep.pwr.resolve_left Bool.false_ne_true
    refine ⟨fun hwait htries => ?_, fun hwait htries => ?_, fun bad hgo hbad => ?_⟩
    · exact congrArg _ (judged.trans ((if_pos hwait).trans (copyFailed_again htries)))
    · refine ⟨_, congrArg _ (judged.trans ((if_pos hwait).trans (copyFailed_last hrap (.inr htries)))), rapAwaited_pair n s,
        fun hlead => ?_, fun hknit => strGet_rapAwaited hknit, ?_⟩
      · simp [rapAwaited, hlead]
      · unfold rapAwaited
        dsimp only
        split <;> rfl
    have hread : (copyRead n x s).1 = bad := by
      rw [hbad, copyRead]
      split <;> rfl
    have going := judged.trans (if_neg (by simp [hgo]))
    refine ⟨fun hfails => ?_, fun hpassed hverified => ?_⟩
    · have hfailed := going.trans ((if_pos (by simpa [hread] using hfails)).trans
        (copyFailed_last (abandoned := false) (by rwa [hpair]) (.inl rfl)))
      refine ⟨_, congrArg _ hfailed, by rw [rapAwaited_pair, hpair], fun hknit => ?_, fun m hm => ?_⟩
      · rw [strGet_rapAwaited (by rwa [hpwr])]
      · exact (strGet_rapAwaited_other _ hm).trans (strGet_copyRead_other x s hm)
    · have hcopied := going.trans (if_neg (by simp [hread, hpassed, hverified]))
      refine ⟨_, congrArg _ hcopied, by rw [withPair_pair, hpair], fun hlead => strGet_copyRead_lead x hlead n, fun e hknit he => ?_,
        fun m hm => strGet_copyRead_other x s hm⟩
      rw [strGet_withPair, strGet_copyRead_joins hknit hverified he]
      exact ⟨rfl, rfl, rfl, rfl⟩
  case limits =>
    rw [exec_knitTimeout]
    refine ⟨fun hmode htime => ?_, fun h => congrArg _ (knitTimeout_early h), fun a ha htime => ?_, fun a ha htime => ?_,
      fun h => congrArg _ (acceptExpiry_none h)⟩
    · obtain ⟨hready, hpair⟩ := knitFail_ready 4 3 0xFF s
      obtain ⟨hmem, -, hscan, -⟩ := (knitFail_keeps 4 3 0xFF s).roleKeeps
      refine ⟨_, congrArg _ (knitTimeout_due hmode htime), hready, ?_⟩
      rw [hpair]
      exact ⟨rfl, rfl, hmem, hscan⟩
    · exact congrArg _ ((acceptExpiry_some ha).trans (if_pos htime))
    · exact congrArg _ ((acceptExpiry_some ha).trans (if_neg (Nat.not_le.mpr htime)))

end Sys2Proof.Machine
end

section
/-! SUPPORT. The host rings: what replacing a ring, writing a descriptor, taking a command and completing one leave; the obligations about
sequence numbers and completions. -/

namespace Sys2Proof.Machine

/-! ### Functions and rings -/

@[simp] theorem fnGet_fnSet_same (fn : Nat) (f : Fn) (s : State) : fnGet (fnSet s fn f) fn = f := by
  unfold fnGet fnSet
  split <;> rfl

theorem fnGet_fnSet_other {fn k : Nat} (hfn : fn < 2) (hk : k < 2) (h : k ≠ fn) (f : Fn) (s : State) :
    fnGet (fnSet s fn f) k = fnGet s k := by
  unfold fnGet fnSet
  split
  · rw [if_neg (by omega)]
  · rw [if_pos (by omega)]

@[simp] theorem ringGet_ringSet_same (fn r : Nat) (x : Ring) (s : State) : ringGet (ringSet s fn r x) fn r = x := by
  simp [ringGet, ringSet, tget_tset]

theorem ringGet_ringSet_other {fn r k j : Nat} (hfn : fn < 2) (hk : k < 2) (h : k ≠ fn ∨ j ≠ r) (x : Ring) (s : State) :
    ringGet (ringSet s fn r x) k j = ringGet s k j := by
  by_cases hfk : k = fn
  · subst hfk
    simp [ringGet, ringSet, tget_tset, h.resolve_left (not_not_intro rfl)]
  · simp only [ringGet, ringSet, fnGet_fnSet_other hfn hk hfk]

theorem portFn_lt (p : Port) : portFn p < 2 := by cases p <;> decide

/-- The block with the rings of both functions replaced. -/
def withRings (s : State) (a b : Tab Ring) : State :=
  { s with hif := { s.hif with fn0 := { s.hif.fn0 with rings := a }, fn1 := { s.hif.fn1 with rings := b } } }

/-- Replacing a ring changes nothing but rings. -/
theorem ringSet_rings (fn r : Nat) (x : Ring) (s : State) : ∃ a b, ringSet s fn r x = withRings s a b := by
  unfold ringSet fnSet fnGet
  split
  · exact ⟨tset r x s.hif.fn0.rings, s.hif.fn1.rings, rfl⟩
  · exact ⟨s.hif.fn0.rings, tset r x s.hif.fn1.rings, rfl⟩

/-! ### Commands taken (R532, R533) -/

/-- The block with its next sequence number given and its place served. -/
def numbered (c : Cmd) (s : State) : State :=
  { s with hif := { s.hif with cmdSeq := nextSeq s.hif.cmdSeq, lastServed := servePos c } }

theorem takeCmd_maint {c : Cmd} (h : c.port = .maint) (s : State) : takeCmd c s = numbered c s := by
  unfold takeCmd
  rw [h]
  rfl

theorem takeCmd_ring {c : Cmd} (h : c.port ≠ .maint) (s : State) : takeCmd c s = ringSet (numbered c s) (portFn c.port) c.ring
    { ringGet s (portFn c.port) c.ring with cons := (ringGet s (portFn c.port) c.ring).cons + 1 } := by
  unfold takeCmd
  cases hp : c.port with
  | maint => exact absurd hp h
  | pf0 => rfl
  | pf1 => rfl

theorem takeCmd_rings (c : Cmd) (s : State) : ∃ a b, takeCmd c s = withRings (numbered c s) a b := by
  by_cases h : c.port = .maint
  · exact ⟨s.hif.fn0.rings, s.hif.fn1.rings, takeCmd_maint h s⟩
  · rw [takeCmd_ring h]
    exact ringSet_rings ..

@[simp] theorem takeCmd_cmdSeq (c : Cmd) (s : State) : (takeCmd c s).hif.cmdSeq = nextSeq s.hif.cmdSeq := by
  obtain ⟨a, b, h⟩ := takeCmd_rings c s
  rw [h]
  rfl

theorem nextSeq_ne_zero {q : W32} (h : q ≠ 0xFFFFFFFF) : nextSeq q ≠ 0 := by
  unfold nextSeq
  split
  · decide
  · bv_omega

/-! ### Words of a descriptor -/

theorem wd_padW {n i : Nat} (h : i < n) (ws : List W32) : wd (padW n ws) i = wd ws i := by
  simp [wd, padW, List.getD_eq_getElem?_getD, h]

/-- A phase bit or-ed into a word whose low bits are clear is added to it. -/
theorem toNat_or_bit {w : W32} {p : Nat} (hw : w.toNat % 16 = 0) (hp : p < 2) : (w ||| w32 p).toNat = w.toNat + p := by
  have hor := Nat.two_pow_add_eq_or_of_lt (i := 4) (by omega : p < 2 ^ 4) (w.toNat / 16)
  have hmul : 2 ^ 4 * (w.toNat / 16) = w.toNat := by omega
  rw [hmul] at hor
  rw [BitVec.toNat_or, w32, BitVec.toNat_ofNat, Nat.mod_eq_of_lt (by omega), hor]

/-! ### Completions (R526, R527, R531) -/

/-- The words in which a descriptor is written at a ring's producer index, with the phase bit of that index. -/
def phased (x : Ring) (ws : List W32) : List W32 := padW 16 ((wd ws 0 ||| w32 (phaseBit x x.prod)) :: ws.drop 1)

/-- A completion as it is written: its fields at their places (Tables 13-7, 13-9). -/
theorem phased_cplWords {x : Ring} {tag : W16} {st ring op : Nat} {seq cons det : W32} {res ws : List W32} (hst : st < 256)
    (hring : ring < 16) (hop : op < 65536) (hws : ws = phased x (cplWords tag st ring op seq cons det res)) :
    fld (wd ws 0) 31 16 = tag.toNat ∧ fld (wd ws 0) 15 8 = st ∧ fld (wd ws 0) 7 4 = ring ∧ fld (wd ws 0) 0 0 = phaseBit x x.prod ∧
      fld (wd ws 1) 31 16 = op ∧ wd ws 2 = seq ∧ wd ws 3 = cons ∧ wd ws 4 = det ∧ ∀ i, i < 10 → wd ws (6 + i) = wd res i := by
  subst hws
  have hfirst : (pack [(31, 16, tag.toNat), (15, 8, st), (7, 4, ring)]).toNat = tag.toNat * 65536 + st * 256 + ring * 16 := by
    have := tag.isLt
    simp only [pack, put, List.foldl_cons, List.foldl_nil, BitVec.toNat_ofNat]
    omega
  have hclear : (pack [(31, 16, tag.toNat), (15, 8, st), (7, 4, ring)]).toNat % 16 = 0 := by omega
  have hsecond : (pack [(31, 16, op)]).toNat = op * 65536 := by
    simp only [pack, put, List.foldl_cons, List.foldl_nil, BitVec.toNat_ofNat]
    omega
  have hphase : phaseBit x x.prod < 2 := Nat.mod_lt _ (by decide)
  have hzero : (wd (phased x (cplWords tag st ring op seq cons det res)) 0).toNat = tag.toNat * 65536 + st * 256 + ring * 16 +
      phaseBit x x.prod := (toNat_or_bit hclear hphase).trans (congrArg (· + _) hfirst)
  have hone : (wd (phased x (cplWords tag st ring op seq cons det res)) 1).toNat = op * 65536 := hsecond
  simp only [fld, fldN, hzero, hone]
  refine ⟨by omega, by omega, by omega, by omega, by omega, rfl, rfl, rfl, fun i hi => ?_⟩
  rw [phased, wd_padW (by omega), Nat.add_comm]
  exact wd_padW hi res

/-- A ring with one more entry written and not signalled, at a time of T2. -/
def advanced (x : Ring) (now : Nat) : Ring :=
  { x with prod := x.prod + 1, unsignalled := x.unsignalled + 1, firstAt := if x.unsignalled = 0 then now else x.firstAt }

/-- A descriptor offered to a ring with room that signals nothing is written at the producer index. -/
theorem ringWrite_quiet {fn r : Nat} {x : Ring} {s : State} (ws : List W32) (now : Bool) (hx : x = ringGet s fn r)
    (hroom : ringRoom x 1 = true) (hirq : x.irqEn = false) : ringWrite fn r ws now s =
      ringSet (send (.desc fn r x.prod (slotAddr x x.prod) (phased x ws)) s) fn r (advanced x (t2Ns s)) := by
  subst hx
  rw [ringWrite, if_pos hroom, ringPut]
  simp [hirq, phased, advanced]

/-- What the completion of a command taken in `s` is written from. -/
def ownRecord (op : Nat) (c : Cmd) (s : State) : Outst :=
  { port := c.port, ring := c.ring, opcode := op, tag := c.tag, seq := (takeCmd c s).hif.cmdSeq, cons := consOf c (takeCmd c s),
    target := 0, src := c.src }

theorem answer_ok (op : Nat) (c : Cmd) (s : State) (ws : List W32) (u : State) :
    answer op c s (.ok ws) u = complete (ownRecord op c s) 0 0 ws u := rfl

theorem answer_no {st : Nat} (h : st ≠ 2) (op : Nat) (c : Cmd) (s : State) (d : W32) (u : State) :
    answer op c s (.no st d) u = complete (ownRecord op c s) st d [] u := if_neg h

/-- The completion of a function's command goes to the completion ring that CPL names. -/
theorem complete_ring {o : Outst} (hport : o.port ≠ .maint) (hkept : o.discarded = false) (st : Nat) (d : W32) (res : List W32)
    (s : State) : complete o st d res s = ringWrite (portFn o.port) (cplRing s (portFn o.port) o.ring)
      (cplWords o.tag st o.ring o.opcode o.seq o.cons d res) false s := by
  unfold complete
  cases hp : o.port with
  | maint => exact absurd hp hport
  | pf0 => simp [hkept]
  | pf1 => simp [hkept]

/-! ### The obligations -/

/-- Settles O8: a command taken gives the next number and moves its own ring's consumer index alone. -/
theorem takingGivesTheNextSequenceNumber : Obligations.TakingGivesTheNextSequenceNumber := by
  have peeks (init : Nat) (s : State) : regPeek 0x3800 init s = some s.hif.cmdSeq := rfl
  refine ⟨fun c s h => ?_, fun c s hport => ?_, fun c s fn r hfn h => ?_, peeks, peeks 0 _, fun _ _ _ _ _ _ _ _ => rfl, fun c s => ?_⟩
  · rw [takeCmd_cmdSeq]
    exact ⟨rfl, nextSeq_ne_zero h, nextSeq_ok h⟩
  · rw [takeCmd_ring hport, ringGet_ringSet_same]
    exact ⟨rfl, rfl⟩
  · by_cases hport : c.port = .maint
    · rw [takeCmd_maint hport]
      rfl
    · rw [takeCmd_ring hport, ringGet_ringSet_other (portFn_lt _) hfn (h.resolve_left hport)]
      rfl
  · obtain ⟨a, b, h⟩ := takeCmd_rings c s
    exact ⟨_, h, rfl, rfl, rfl, rfl, rfl, rfl, rfl, rfl, rfl, rfl, rfl, rfl, rfl, rfl⟩

/-- Settles O9: an answer that finds room on a quiet completion ring is one descriptor with its fields. -/
theorem completionIsOneDescriptorWithItsFields : Obligations.CompletionIsOneDescriptorWithItsFields := by
  intro op c s u q x res r st det hr hport hring hop hlen hq hx hroom hirq
  have hsplit : answer op c s r u = complete (ownRecord op c s) st det res u ∧ st < 256 := by
    rcases hr with ⟨rfl, rfl, rfl⟩ | ⟨rfl, rfl, hst, hst2⟩
    · exact ⟨answer_ok .., by decide⟩
    · exact ⟨answer_no hst2 .., hst⟩
  obtain ⟨hcomplete, hst⟩ := hsplit
  obtain ⟨ws, hws⟩ : ∃ ws, ws = phased x (cplWords c.tag st c.ring op (takeCmd c s).hif.cmdSeq (consOf c (takeCmd c s)) det res) :=
    ⟨_, rfl⟩
  have written : answer op c s r u = ringSet (send (.desc (portFn c.port) q x.prod (slotAddr x x.prod) ws) u) (portFn c.port) q
      (advanced x (t2Ns u)) := by
    rw [hcomplete, complete_ring (o := ownRecord op c s) hport rfl, hws]
    subst hq
    exact ringWrite_quiet _ false hx hroom hirq
  obtain ⟨a, b, hrings⟩ := ringSet_rings (portFn c.port) q (advanced x (t2Ns u))
    (send (.desc (portFn c.port) q x.prod (slotAddr x x.prod) ws) u)
  obtain ⟨htag, hstatus, hfrom, hphase, hopcode, hseq, hcons, hdet, hres⟩ := phased_cplWords hst hring hop hws
  rw [written]
  exact ⟨ws, by rw [hrings]; rfl, htag, hstatus, hfrom, hphase, hopcode, hseq, hcons, hdet, hres, by rw [ringGet_ringSet_same]; rfl,
    fun fn k hfn h => ringGet_ringSet_other (portFn_lt _) hfn h .., _, _, _, hrings, rfl, rfl, rfl, rfl⟩

end Sys2Proof.Machine
end

section
/-! SUPPORT. Commands: which are refused beforehand, how the next one is chosen and run, what the general commands set, and the maintenance
port; the obligations about a step, about refused and general commands, about the round-robin order and about the maintenance port. -/

namespace Sys2Proof.Machine

/-! ### Refusals beforehand (R536, R537, R540, R620, R649) -/

/-- The port has the right to an opcode whose ports are given (Table 13-11). -/
def hasRight (p : Port) (a b m : Bool) : Bool := match p with | .pf0 => a | .pf1 => b | .maint => m

section
variable {op : Nat} {c : Cmd} {u : State} {a b m : Bool}

theorem gatekeep_unlisted (h : opPorts op = none) : gatekeep op c u = some (.no 9 0) := by rw [gatekeep, h]

theorem gatekeep_listed (h : opPorts op = some (a, b, m)) : gatekeep op c u = firstOf [
    (!hasRight c.port a b m, noRight),
    (u.pwr.mode == .castOn && !(op ∈ [0x0000, 0x0001, 0x0A02]), wrongMode),
    (u.pwr.trans.isSome && !(op ∈ [0x0000, 0x0001, 0x0005]), wrongMode),
    (opHasRecord op && c.record.isNone, dmaError)] := by
  rw [gatekeep, h]
  rfl

theorem gatekeep_noRight (h : opPorts op = some (a, b, m)) (hright : hasRight c.port a b m = false) :
    gatekeep op c u = some noRight := by
  rw [gatekeep_listed h, hright]
  rfl

theorem gatekeep_wrongMode (h : opPorts op = some (a, b, m)) (hright : hasRight c.port a b m = true)
    (hmode : (u.pwr.mode = .castOn ∧ op ∉ [0x0000, 0x0001, 0x0A02]) ∨ (u.pwr.trans.isSome = true ∧ op ∉ [0x0000, 0x0001, 0x0005])) :
    gatekeep op c u = some wrongMode := by
  rw [gatekeep_listed h, hright, Bool.not_true, firstOf_false]
  rcases hmode with ⟨hm, hop⟩ | ⟨ht, hop⟩
  · simp [hm, hop, firstOf]
  · simp only [ht, hop, firstOf, decide_false, Bool.not_false, Bool.and_true, if_true]
    split <;> rfl

theorem gatekeep_unread (h : opPorts op = some (a, b, m)) (hright : hasRight c.port a b m = true) (hmode : u.pwr.mode ≠ .castOn)
    (htrans : u.pwr.trans = none) (hrec : opHasRecord op = true) (hnone : c.record = none) : gatekeep op c u = some dmaError := by
  rw [gatekeep_listed h, hright]
  simp [firstOf, hmode, htrans, hrec, hnone]

end

/-- An answer of NOT_PERMITTED is a completion with that status, reported by an event (R537, R554). -/
theorem answer_noRight (op : Nat) (c : Cmd) (s u : State) : answer op c s noRight u =
    notPermitted (portInit c.port) 1 op (takeCmd c s).hif.cmdSeq c.tag.toNat (complete (ownRecord op c s) 2 0 [] u) := rfl

/-- Settles O10: each refusal is the first of `gatekeep` that applies, and the command's own work is not run. -/
theorem gatekeptCommandsDoNothing : Obligations.GatekeptCommandsDoNothing := by
  refine ⟨fun op c s hready hop => ?_, fun op work c s a b m hready hop => ⟨fun hright => ?_, fun hright => ⟨fun hmode => ?_,
    fun hmode htrans hrec hnone => ?_⟩⟩⟩
  · have runs : unknownOpcode op c s = hostCommand (op % 65536) opNop c s := if_pos (by rw [hop]; rfl)
    exact congrArg _ (runs.trans (hostCommand_refused _ _ c s _ hready (gatekeep_unlisted hop)))
  · rw [hostCommand_refused _ _ c s _ hready (gatekeep_noRight hop hright), answer_noRight]
    rfl
  · exact hostCommand_refused _ _ c s _ hready (gatekeep_wrongMode hop hright (by rwa [takeCmd_pwr]))
  · exact hostCommand_refused _ _ c s _ hready
      (gatekeep_unread hop hright (by rwa [takeCmd_pwr]) (by rwa [takeCmd_pwr]) hrec hnone)

/-! ### A step (R532) -/

/-- Settles O1. -/
theorem stepRunsTheFrontCommandOrIdles : Obligations.StepRunsTheFrontCommandOrIdles :=
  ⟨fun _ _ _ => rfl, fun s h => by rw [step, h]⟩

/-- Settles O2: the meaning of every command answers a next state. -/
theorem everyCommandAnswersANextState : Obligations.EveryCommandAnswersANextState := by
  intro c s
  cases c <;> exact ⟨_, rfl⟩

/-! ### General commands (R538, R540, R550, R556) -/

@[simp] theorem takeCmd_allow1 (c : Cmd) (s : State) : (takeCmd c s).hif.allow1 = s.hif.allow1 := by
  obtain ⟨a, b, h⟩ := takeCmd_rings c s
  rw [h]
  rfl

/-- The block with the mask of a command's target set (Table 13-11); the maintenance port's own makes its sender the destination. -/
def maskStored (c : Cmd) (s : State) : State :=
  match (cw c 2).toNat with
  | 0 => { s with hif := { s.hif with mask0 := maskWords c } }
  | 1 => { s with hif := { s.hif with allow1 := maskWords c } }
  | 2 => { s with hif := { s.hif with mask2 := maskWords c, maintDest := if c.port == .maint then some c.src else s.hif.maintDest } }
  | _ => { s with hif := { s.hif with mask1 := maskWords c } }

theorem opEventMaskSet_stores {c : Cmd} {s : State} (htarget : (cw c 2).toNat < 4)
    (hpf1 : c.port = .pf1 → (cw c 2).toNat = 3 ∧ maskWithin (maskWords c) s.hif.allow1 = true)
    (hmaint : c.port = .maint → (cw c 2).toNat = 2) : opEventMaskSet c s = (maskStored c s, .ok []) := by
  have hchecks : firstOf [(c.port == .pf1 && (cw c 2).toNat != 3, noRight), (c.port == .maint && (cw c 2).toNat != 2, noRight),
      (!decide ((cw c 2).toNat < 4), badField 8), (c.port == .pf1 && !maskWithin (maskWords c) s.hif.allow1, noRight)] = none := by
    cases hport : c.port with
    | pf0 => simp [firstOf, htarget]
    | pf1 => simp [firstOf, hpf1 hport]
    | maint => simp [firstOf, hmaint hport]
  unfold opEventMaskSet maskStored
  dsimp only
  rw [checked_pass _ s hchecks]
  match (cw c 2).toNat with
  | 0 => rfl
  | 1 => rfl
  | 2 => rfl
  | _ + 3 => rfl

theorem opPf1LimitsSet_stores {c : Cmd} (s : State) (hclasses : (cw c 2).toNat < 16) (hregions : (cw c 3).toNat < 16)
    (hlimits : ∀ i, i < 4 → limitBad c i = false) (hstreams : (cw c 8).toNat ≤ 192) : opPf1LimitsSet c s =
      ({ s with hif := { s.hif with pf1 :=
        { classes := (cw c 2).toNat, regions := (cw c 3).toNat, streams := (cw c 8).toNat,
          budgets := [(0, fld (cw c 4) 15 0, fld (cw c 4) 31 16), (1, fld (cw c 5) 15 0, fld (cw c 5) 31 16),
                      (2, fld (cw c 6) 15 0, fld (cw c 6) 31 16), (3, fld (cw c 7) 15 0, fld (cw c 7) 31 16)] } } }, .ok []) := by
  refine checked_pass _ s ?_
  simp [firstOf, hlimits, Nat.not_le.mpr hclasses, Nat.not_le.mpr hregions, Nat.not_lt.mpr hstreams]

theorem selftestEnd_some {s : State} {o : Outst} (failed : W32) (h : outstOf 0x0007 s = some o) :
    selftestEnd failed s = completeOutst o 0 0 [failed &&& w32 o.target] s := by rw [selftestEnd, h]

/-- Settles O11: each general command's accepted forms, by its own equation. -/
theorem generalCommandsChangeWhatTheyName : Obligations.GeneralCommandsChangeWhatTheyName := by
  refine ⟨fun c s h => congrArg _ (hostCommand_taken _ _ _ _ h), fun c s u hu h => ?_, fun c s u hu h hclasses hregions hlimits hstreams => ?_,
    fun c s h hmode => ?_, fun failed s o ho => congrArg _ (selftestEnd_some failed ho)⟩
  · subst hu
    have stores (htarget : (cw c 2).toNat < 4)
        (hpf1 : c.port = .pf1 → (cw c 2).toNat = 3 ∧ maskWithin (maskWords c) (takeCmd c s).hif.allow1 = true)
        (hmaint : c.port = .maint → (cw c 2).toNat = 2) :
        exec (.eventMaskSet c) s = .next (answer 0x0002 c s (.ok []) (maskStored c (takeCmd c s))) :=
      congrArg _ (hostCommand_answers h (opEventMaskSet_stores htarget hpf1 hmaint))
    refine ⟨fun hp hw => ?_, fun hp hw => ?_, fun hp hw => ?_, fun hp hw => ?_, fun hp hw hwithin => ?_, fun hp hw => ?_⟩
    all_goals
      rw [stores (by simp [hw]) (by simp [*]) (by simp [hp, hw])]
      simp [maskStored, hp, hw]
  · subst hu
    exact congrArg _ (hostCommand_answers h (opPf1LimitsSet_stores _ hclasses hregions hlimits hstreams))
  · refine congrArg _ (hostCommand_answers h (checked_pass _ _ ?_))
    simp [firstOf, hmode]

/-! ### The choice of the next command (R529, R532) -/

theorem placeNext_some {s : State} {p : Nat} (h : placeNext s = some p) : ∃ i, i < 9 ∧ p = (s.hif.lastServed + 1 + i) % 9 ∧
    placeEligible s p = true ∧ ∀ j, j < i → placeEligible s ((s.hif.lastServed + 1 + j) % 9) = false := by
  rw [placeNext, List.find?_map, Option.map_eq_some_iff] at h
  obtain ⟨i, hi, rfl⟩ := h
  obtain ⟨helig, hmem, hfirst⟩ := List.find?_range_eq_some.mp hi
  exact ⟨i, List.mem_range.mp hmem, rfl, helig, fun j hj => by simpa using hfirst j hj⟩

section
variable {s : State} {p : Nat} {d : Option Descriptor}

theorem commandTake_none (h : placeNext s = none) : commandTake d s = s := by
  rw [commandTake, h]
  split <;> rfl

/-- The device takes commands and is free to take one. -/
def Serves (s : State) : Prop := commandsTaken s = true ∧ deviceFree s = true

theorem commandTake_maint (hs : Serves s) (hp : placeNext s = some 8) : commandTake d s = takeWaiting s := by
  rw [commandTake, if_neg (by simp [hs.1, hs.2]), hp]
  rfl

theorem commandTake_ring (hs : Serves s) (hp : placeNext s = some p) (hlt : p < 8) : commandTake d s = match d with
    | none => ringStop (p / 4) (p % 4) 2 0 s
    | some d => runCommand (opcodeOf d.words) (opWork (opcodeOf d.words))
        (cmdOf (if p < 4 then .pf0 else .pf1) (p % 4) .uart d.words d.io) s := by
  rw [commandTake, if_neg (by simp [hs.1, hs.2]), hp]
  split
  · next h => cases h
  · next h => cases h; omega
  · next h => cases h; rfl

theorem takeWaiting_some {op : Nat} {c : Cmd} (h : s.hif.maintWait = some (op, c)) :
    takeWaiting s = runCommand op (opWork op) c { s with hif := { s.hif with maintWait := none } } := by
  rw [takeWaiting, h]

end

/-- Settles O12: the search of `placeNext` and the branches of `commandTake`. -/
theorem commandTakeServesRoundRobin : Obligations.CommandTakeServesRoundRobin := by
  refine ⟨fun s p => placeNext_some, fun d s p htaken hfree hp hlt => congrArg _ (commandTake_ring ⟨htaken, hfree⟩ hp hlt),
    fun d s op c htaken hfree hp hw => ?_, fun s p htaken hfree hp hlt => congrArg _ (commandTake_ring ⟨htaken, hfree⟩ hp hlt),
    fun d s hp => congrArg _ (commandTake_none hp), fun c s hready => congrArg _ (if_pos hready)⟩
  exact congrArg _ ((commandTake_maint ⟨htaken, hfree⟩ hp).trans (takeWaiting_some hw))

/-! ### The maintenance port (R556 to R558) -/

section
variable {op : Nat} {c : Cmd} {s : State}

theorem maintArrive_busy (hears : maintHears s = true) (busy : maintBusy s = true) : maintArrive op c s = maintBusyReply op c s := by
  simp [maintArrive, hears, busy]

/-- The block with a maintenance command that has arrived. -/
def arrived (op : Nat) (c : Cmd) (s : State) : State := { s with hif := { s.hif with maintWait := some (op, c) } }

theorem maintArrive_idle (hears : maintHears s = true) (idle : maintBusy s = false) : maintArrive op c s =
    if (commandsTaken s && deviceFree s && placeNext (arrived op c s) == some 8) = true then takeWaiting (arrived op c s)
    else arrived op c s := by
  rw [maintArrive, if_neg (by simp [hears]), if_neg (by simp [idle])]
  rfl

end

theorem maintUdp_command {bs : List Byte} (h : bs.length = 64) (ip : W32) (p : W16) (io : CmdIn) (s : State) : maintUdp ip p bs io s =
    maintArrive (opcodeOf (bytesWords bs)) (cmdOf .maint 0 (.udp ip p) (bytesWords bs) io) s := if_neg (by simp [h])

theorem maintUdp_discarded {bs : List Byte} (h : bs.length ≠ 64) (ip : W32) (p : W16) (io : CmdIn) (s : State) :
    maintUdp ip p bs io s = s := if_pos (by simp [h])

theorem maintUart_heard {s : State} (hears : maintHears s = true) (line : List Byte) (io : CmdIn) : maintUart line io s =
    match uartBytes line with
    | some bs => maintArrive (opcodeOf (bytesWords bs)) (cmdOf .maint 0 .uart (bytesWords bs) io) s
    | none => sendMaint .uart 75 (cplWords 0 1 0 0xFFFF 0 0 0 []) s := if_neg (by simp [hears])

theorem maintFrame_answers {s : State} (h : maintAnswers s = true) (f : MaintFrame) : maintFrame f s = match f with
    | .arp target sender => if target = ownAddr s then send (.arpReply sender) s else s
    | .icmpEcho target sender payload => if target = ownAddr s then send (.icmpReply sender payload) s else s
    | .other => s := if_neg (by simp [h])

/-- Settles O17: a command that arrives is answered BUSY, run or kept; other frames by their kind. -/
theorem maintenancePortTakesOneCommandAtATime : Obligations.MaintenancePortTakesOneCommandAtATime := by
  refine ⟨fun ip p bs io s s1 ws c hlen hws hc hears hs1 => ?_, fun ip p bs io s hlen => congrArg _ (maintUdp_discarded hlen ..),
    fun line bs io s hline hears => ?_, fun line io s hline hears => ?_, fun snd s h => ⟨?_, fun pl => ?_, ?_⟩⟩
  · subst hws hc hs1
    refine ⟨fun busy => ?_, fun idle htaken hfree hnext => ?_, fun idle hwait => ?_⟩
    all_goals refine congrArg _ ((maintUdp_command hlen ..).trans ?_)
    · exact maintArrive_busy hears busy
    · exact (maintArrive_idle hears idle).trans ((if_pos (by simp [htaken, hfree, arrived, hnext])).trans (takeWaiting_some rfl))
    · refine (maintArrive_idle hears idle).trans (if_neg ?_)
      simp only [Bool.and_eq_true, beq_iff_eq]
      rintro ⟨⟨htaken, hfree⟩, hnext⟩
      rcases hwait with h | h | h
      · rw [htaken] at h; cases h
      · rw [hfree] at h; cases h
      · exact h hnext
  · exact congrArg _ ((maintUart_heard hears ..).trans (by rw [hline]))
  · exact congrArg _ ((maintUart_heard hears ..).trans (by rw [hline]))
  · exact congrArg _ ((maintFrame_answers h (.arp (ownAddr s) snd)).trans (if_pos rfl))
  · exact congrArg _ ((maintFrame_answers h (.icmpEcho (ownAddr s) snd pl)).trans (if_pos rfl))
  · exact congrArg _ (maintFrame_answers h .other)

end Sys2Proof.Machine
end

section
/-! SUPPORT. Doorbells, ring control, function resets and merging windows: the obligations about each. -/

namespace Sys2Proof.Machine

/-! ### Doorbells (R525) -/

section
variable {fn r : Nat} {v : W32} {s : State} {x : Ring}

theorem exec_doorbellWrite (hfn : fn < 2) : exec (.doorbellWrite fn r v) s = .next (doorbell fn r v s) := by
  change Host.Outcome.next (doorbell (fn % 2) r v s) = _
  rw [Nat.mod_eq_of_lt hfn]

theorem doorbell_ignored (h : ringExists fn r = false ∨ (ringGet s fn r).en = false ∨ (ringGet s fn r).stopped = true) :
    doorbell fn r v s = s := by
  refine if_pos ?_
  rcases h with h | h | h <;> simp [h]

/-- A ring stopped for a bad doorbell, with its RING_ERROR. -/
def doorbellStop (fn r : Nat) (v : W32) (s : State) : State :=
  raise 0x42 [pack [(31, 31, fn), (27, 24, r), (23, 20, 1)], v, (ringGet s fn r).prod, (ringGet s fn r).cons]
    (ringSet s fn r { ringGet s fn r with stopped := true, cause := 1 })

theorem doorbell_judged (hex : ringExists fn r = true) (hen : (ringGet s fn r).en = true) (hrun : (ringGet s fn r).stopped = false) :
    doorbell fn r v s = if hostProduced r = true then
        if idxDiff v (ringGet s fn r).cons ≤ ringSize (ringGet s fn r) ∧ idxDiff v (ringGet s fn r).prod ≤ ringSize (ringGet s fn r)
        then ringSet s fn r { ringGet s fn r with prod := v } else doorbellStop fn r v s
      else if idxDiff v (ringGet s fn r).cons ≤ ringUsed (ringGet s fn r)
        then ringSet s fn r { ringGet s fn r with cons := v } else doorbellStop fn r v s := by
  refine (if_neg (by simp [hex, hen, hrun])).trans ?_
  simp only [Bool.and_eq_true, decide_eq_true_eq]
  rfl

end

/-- Settles O13: the check of a ring's side, and the index or the stop. -/
theorem doorbellMovesTheIndexOrStopsTheRing : Obligations.DoorbellMovesTheIndexOrStopsTheRing := by
  refine ⟨fun fn r v s x hfn hex hx hen hrun => ?_, fun fn r v s hfn h => (exec_doorbellWrite hfn).trans (congrArg _ (doorbell_ignored h))⟩
  subst hx
  have judged := (exec_doorbellWrite (v := v) hfn).trans (congrArg _ (doorbell_judged hex hen hrun))
  refine ⟨fun hhost hc hp => ?_, fun hhost hbad => ?_, fun hdev hc => ?_, fun hdev hbad => ?_⟩
  all_goals refine judged.trans (congrArg _ ?_)
  · exact (if_pos hhost).trans (if_pos ⟨hc, hp⟩)
  · exact (if_pos hhost).trans (if_neg fun h => hbad.elim (Nat.not_lt.mpr h.1) (Nat.not_lt.mpr h.2))
  · exact (if_neg (by simp [hdev])).trans (if_pos hc)
  · exact (if_neg (by simp [hdev])).trans (if_neg (Nat.not_le.mpr hbad))

/-! ### Ring control (R523) -/

section
variable {fn r : Nat} {a : RegW} {s : State} {v : W32}

theorem ringCtlReg_writes (hfn : fn < 2) (hex : ringExists fn r = true) (h : Writes (ringOff fn r + 8) a s) :
    exec (.ringDisable fn r a) s = .next (ringCtlWrite fn r a.val s) := by
  change Host.Outcome.next (ringCtlReg (fn % 2) r a s) = _
  rw [Nat.mod_eq_of_lt hfn]
  exact congrArg _ ((if_pos hex).trans (regWrite_writes _ _ h))

theorem ringCtlWrite_enabled (h : (ringGet s fn r).en = true) : ringCtlWrite fn r v s =
    ringSet s fn r { ringGet s fn r with en := bitOf v 31, vector := fld v 13 8, irqEn := bitOf v 7 } := if_pos h

/-- A disabled ring's fields as a write of its CTL stores them. -/
def ringFields (v : W32) (x : Ring) : Ring :=
  { x with log2 := fld v 28 24, slot := fld v 23 22, cpl := fld v 19 18, vector := fld v 13 8, irqEn := bitOf v 7 }

/-- A ring that is enabled: its indices and its stop are cleared. -/
def ringStarted (x : Ring) : Ring := { x with en := true, prod := 0, cons := 0, stopped := false, cause := 0, unsignalled := 0 }

theorem ringCtlWrite_stores (h : (ringGet s fn r).en = false) (hv : bitOf v 31 = false) :
    ringCtlWrite fn r v s = ringSet s fn r (ringFields v (ringGet s fn r)) := by
  simp only [ringCtlWrite, h, hv, Bool.false_eq_true, if_false, ringFields]

theorem ringCtlWrite_starts (h : (ringGet s fn r).en = false) (hv : bitOf v 31 = true) : ringCtlWrite fn r v s =
    if 6 ≤ fld v 28 24 ∧ fld v 28 24 ≤ 16 then ringSet s fn r (ringStarted (ringFields v (ringGet s fn r)))
    else ringStop fn r 3 0 (ringSet s fn r (ringStarted (ringFields v (ringGet s fn r)))) := by
  simp only [ringCtlWrite, h, hv, Bool.false_eq_true, if_false, if_true, Bool.and_eq_true, decide_eq_true_eq]
  rfl

end

/-- Settles O14: the three writes of a ring's CTL. -/
theorem ringControlStartsAndStopsRings : Obligations.RingControlStartsAndStopsRings := by
  refine ⟨fun fn r a s x z hfn hex h hx hoff hv hz => ?_, fun fn r a s x hfn hex h hx => ?_⟩
  · subst hx
    have started : z = ringStarted (ringFields a.val (ringGet s fn r)) := hz
    have enables : exec (.ringEnable fn r a) s = .next _ := (ringCtlReg_writes hfn hex h).trans (congrArg _ (ringCtlWrite_starts hoff hv))
    rw [← started] at enables
    refine ⟨fun hmin hmax => enables.trans (congrArg _ (if_pos ⟨hmin, hmax⟩)), fun hbad => enables.trans (congrArg _ ?_)⟩
    rw [if_neg (by omega), ringStop, ringGet_ringSet_same, hz]
    rfl
  · subst hx
    refine ⟨fun hen => ?_, rfl, fun hoff hv => ?_⟩
    · exact (ringCtlReg_writes hfn hex h).trans (congrArg _ (ringCtlWrite_enabled hen))
    · exact (ringCtlReg_writes hfn hex h).trans (congrArg _ (ringCtlWrite_stores hoff hv))

/-! ### Function resets (R513, R668) -/

theorem tfind_map {α : Type} (g : α → α) (k : Nat) (t : Tab α) : tfind k (t.map fun e => (e.1, g e.2)) = (tfind k t).map g := by
  induction t with
  | nil => rfl
  | cons e t ih =>
    simp only [List.map_cons, tfind, ih]
    split <;> rfl

/-- An outstanding command whose completion a reset of its function discards. -/
def discardFor (fn : Nat) (o : Outst) : Outst := if o.port != .maint && portFn o.port == fn then { o with discarded := true } else o

theorem discardFor_own {fn : Nat} {o : Outst} (hport : o.port ≠ .maint) (hfn : portFn o.port = fn) :
    (discardFor fn o).discarded = true := by simp [discardFor, hport, hfn]

theorem discardFor_port (fn : Nat) (o : Outst) : (discardFor fn o).port = o.port := by
  unfold discardFor
  split <;> rfl

theorem discardFor_discarded (fn : Nat) {o : Outst} (h : o.discarded = true) : (discardFor fn o).discarded = true := by
  unfold discardFor
  split
  · rfl
  · exact h

section
variable (fn : Nat) (s : State)

theorem fnQuiet_eq : ∃ a b, fnQuiet fn s = { s with hif := { s.hif with fn0 := a, fn1 := b, outst := s.hif.outst.map (discardFor fn) } } := by
  unfold fnQuiet fnSet
  dsimp only
  split <;> exact ⟨_, _, rfl⟩

theorem fnQuiet_outst : (fnQuiet fn s).hif.outst = s.hif.outst.map (discardFor fn) := by
  obtain ⟨a, b, h⟩ := fnQuiet_eq fn s
  rw [h]

theorem fnGet_fnQuiet : fnGet (fnQuiet fn s) fn =
    { rings := (fnGet s fn).rings.map fun e => (e.1, ringOffNow e.2), msix := [], pba := 0 } := fnGet_fnSet_same fn _ s

theorem fnGet_fnQuiet_other {k : Nat} (hfn : fn < 2) (hk : k < 2) (h : k ≠ fn) : fnGet (fnQuiet fn s) k = fnGet s k :=
  fnGet_fnSet_other hfn hk h _ s

theorem ringGet_fnQuiet_en (r : Nat) : (ringGet (fnQuiet fn s) fn r).en = false := by
  rw [ringGet, fnGet_fnQuiet, tget, tfind_map]
  cases tfind r (fnGet s fn).rings <;> rfl

theorem fnQuiet_discards : ∀ o ∈ (fnQuiet fn s).hif.outst, portFn o.port = fn → o.port ≠ .maint → o.discarded = true := by
  intro o ho hfn hport
  rw [fnQuiet_outst] at ho
  obtain ⟨p, -, rfl⟩ := List.mem_map.mp ho
  rw [discardFor_port] at hfn hport
  exact discardFor_own hport hfn

end

theorem exec_functionLevelReset {fn : Nat} (hfn : fn < 2) (s : State) :
    exec (.functionLevelReset fn) s = .next (dropPending fn (fnQuiet fn s)) := by
  change Host.Outcome.next (dropPending (fn % 2) (fnQuiet (fn % 2) s)) = _
  rw [Nat.mod_eq_of_lt hfn]

theorem exec_d3hotEntry {fn : Nat} (hfn : fn < 2) (s : State) : exec (.d3hotEntry fn) s = .next (fnQuiet fn s) := by
  change Host.Outcome.next (fnQuiet (fn % 2) s) = _
  rw [Nat.mod_eq_of_lt hfn]

/-- Both functions after the loss of the host link. -/
theorem linkLoss_discards (s : State) : ∀ o ∈ (linkLoss s).hif.outst, o.port ≠ .maint → o.discarded = true := by
  intro o ho hport
  change o ∈ (fnQuiet 1 (fnQuiet 0 s)).hif.outst at ho
  rw [fnQuiet_outst, fnQuiet_outst] at ho
  obtain ⟨q, hq, rfl⟩ := List.mem_map.mp ho
  obtain ⟨p, -, rfl⟩ := List.mem_map.mp hq
  rw [discardFor_port, discardFor_port] at hport
  cases hp : p.port with
  | maint => exact absurd hp hport
  | pf0 => exact discardFor_discarded 1 (discardFor_own hport (by rw [hp]; rfl))
  | pf1 => exact discardFor_own (by rwa [discardFor_port]) (by rw [discardFor_port, hp]; rfl)

/-- Settles O16: what `fnQuiet` leaves of each function, once or for both. -/
theorem functionResetsTouchOnlyTheHostInterface : Obligations.FunctionResetsTouchOnlyTheHostInterface := by
  refine ⟨fun fn s hfn => ?_, fun s => ?_⟩
  · obtain ⟨a, b, hq⟩ := fnQuiet_eq fn s
    have hother : fnGet (fnQuiet fn s) (1 - fn) = fnGet s (1 - fn) := fnGet_fnQuiet_other fn s hfn (by omega) (by omega)
    have hmsix : (fnGet (fnQuiet fn s) fn).msix = [] := by rw [fnGet_fnQuiet]
    have hdrop := fnQuiet_discards fn s
    refine ⟨(dropPending fn (fnQuiet fn s)).hif, (fnQuiet fn s).hif, (exec_functionLevelReset hfn s).trans ?_,
      (exec_d3hotEntry hfn s).trans ?_, fun r => ⟨ringGet_fnQuiet_en fn s r, ringGet_fnQuiet_en fn s r⟩, hmsix, hmsix, hother, hother,
      by rw [hq], fun e he => ?_, hdrop, ?_⟩
    · rw [hq]; rfl
    · rw [hq]
    · have hmem := List.mem_filter.mp he
      rw [hq] at hmem
      exact ⟨hmem.1, by simpa using hmem.2⟩
    · rw [hq]
      exact ⟨rfl, rfl, rfl, rfl, rfl⟩
  · obtain ⟨a, b, h0⟩ := fnQuiet_eq 0 s
    obtain ⟨a', b', h1⟩ := fnQuiet_eq 1 (fnQuiet 0 s)
    have hfirst : fnGet (fnQuiet 1 (fnQuiet 0 s)) 0 = fnGet (fnQuiet 0 s) 0 :=
      fnGet_fnQuiet_other 1 _ (by decide) (by decide) (by decide)
    refine ⟨(linkLoss s).hif, ?_, rfl, rfl, ?_, ?_, fun fn r => ?_, ?_, ?_, linkLoss_discards s⟩
    · change Host.Outcome.next (linkLoss s) = _
      rw [linkLoss, h1, h0]
    · exact (congrArg Fn.msix hfirst).trans (by rw [fnGet_fnQuiet])
    · exact congrArg Fn.msix (fnGet_fnQuiet 1 (fnQuiet 0 s))
    · by_cases hfn : fn = 0
      · subst hfn
        refine Eq.trans ?_ (ringGet_fnQuiet_en 0 s r)
        exact congrArg (fun f : Fn => (tget {} f.rings r : Ring).en) hfirst
      · refine Eq.trans ?_ (ringGet_fnQuiet_en 1 (fnQuiet 0 s) r)
        simp only [ringGet, fnGet, if_neg hfn]
        rfl
    · change (fnQuiet 1 (fnQuiet 0 s)).hif.cmdSeq = _
      rw [h1, h0]
    · change (fnQuiet 1 (fnQuiet 0 s)).hif.mask0 = _
      rw [h1, h0]

/-! ### What an event leaves of the host interface (R549 to R553) -/

/-- The merging windows and the outstanding commands are as they were. -/
structure HostKeeps (s t : State) : Prop where
  windows : t.hif.windows = s.hif.windows
  outst : t.hif.outst = s.hif.outst

namespace HostKeeps
variable {s t u : State}

theorem refl (s : State) : HostKeeps s s := ⟨rfl, rfl⟩

theorem trans (h : HostKeeps s t) (g : HostKeeps t u) : HostKeeps s u := ⟨g.windows.trans h.windows, g.outst.trans h.outst⟩

theorem ite {c : Prop} [Decidable c] (ht : HostKeeps s t) (hu : HostKeeps s u) : HostKeeps s (if c then t else u) := by
  split
  · exact ht
  · exact hu

theorem send (h : HostKeeps s t) (o : Outgoing) : HostKeeps s (send o t) := h.trans ⟨rfl, rfl⟩

theorem fnSet (h : HostKeeps s t) (fn : Nat) (f : Fn) : HostKeeps s (fnSet t fn f) := by
  unfold Machine.fnSet
  split <;> exact h.trans ⟨rfl, rfl⟩

theorem ringSet (h : HostKeeps s t) (fn r : Nat) (x : Ring) : HostKeeps s (ringSet t fn r x) := h.fnSet ..

theorem signalVector (h : HostKeeps s t) (fn v : Nat) : HostKeeps s (signalVector fn v t) := .ite (h.fnSet ..) (h.send _)

theorem ringWrite (h : HostKeeps s t) (fn r : Nat) (ws : List W32) (now : Bool) : HostKeeps s (ringWrite fn r ws now t) := by
  refine .ite ?_ (h.ringSet ..)
  unfold ringPut
  exact .ite (((h.send _).ringSet ..).signalVector ..) ((h.send _).ringSet ..)

theorem sendMaint (h : HostKeeps s t) (src : MaintSrc) (letter : Nat) (ws : List W32) : HostKeeps s (sendMaint src letter ws t) := by
  cases src <;> exact h.send _

theorem eventToFn (h : HostKeeps s t) (fn code : Nat) (p : List W32) : HostKeeps s (eventToFn fn code p t) :=
  .ite ((h.ringWrite ..).trans ⟨rfl, rfl⟩) ((h.ringWrite ..).trans ⟨rfl, rfl⟩)

theorem eventToMaint (h : HostKeeps s t) (code : Nat) (p : List W32) : HostKeeps s (eventToMaint code p t) := by
  unfold Machine.eventToMaint
  dsimp only
  split
  · refine .ite (sendMaint ?_ ..) (h.trans ⟨rfl, rfl⟩)
    exact h.trans ⟨rfl, rfl⟩
  · exact h.trans ⟨rfl, rfl⟩

theorem raise (h : HostKeeps s t) (code : Nat) (p : List W32) : HostKeeps s (raise code p t) := by
  have first := ite (c := (maskBit t.hif.mask0 code || code == 0x40 || code == 0x42) = true) (h.eventToFn 0 code p) h
  have second := ite (c := (maskBit t.hif.mask1 code && maskBit t.hif.allow1 code) = true) (first.eventToFn 1 code p) first
  exact ite (second.eventToMaint code p) second

theorem complete (h : HostKeeps s t) (o : Outst) (st : Nat) (d : W32) (res : List W32) : HostKeeps s (complete o st d res t) := by
  unfold Machine.complete
  split
  · exact h.sendMaint ..
  · exact .ite h (h.ringWrite ..)

end HostKeeps

/-! ### Merging windows (R554) -/

section
variable {k : WindowKey} {x : MergeWin} {l : List MergeWin}

theorem windowFind_key (h : windowFind k l = some x) : x.key = k := by
  induction l with
  | nil => cases h
  | cons y l ih =>
    rw [windowFind] at h
    split at h
    · next hy =>
      cases h
      exact hy
    · exact ih h

theorem windowFind_append (h : windowFind k l = none) (hx : x.key = k) : windowFind k (l ++ [x]) = some x := by
  induction l with
  | nil => simp [windowFind, hx]
  | cons y l ih =>
    rw [windowFind] at h
    rw [List.cons_append, windowFind]
    split at h
    · cases h
    · next hy => rw [if_neg hy, ih h]

theorem windowFind_windowSet {y : MergeWin} (h : windowFind k l = some y) (hx : x.key = k) : windowFind k (windowSet x l) = some x := by
  induction l with
  | nil => cases h
  | cons z l ih =>
    rw [windowFind] at h
    rw [windowSet, List.map_cons, windowFind, hx]
    split at h
    · next hz => rw [if_pos hz, if_pos hx]
    · next hz =>
      rw [if_neg hz, if_neg hz]
      subst hx
      exact ih h

theorem windowFind_windowSet_other {k' : WindowKey} (hk : k' ≠ x.key) (l : List MergeWin) :
    windowFind k' (windowSet x l) = windowFind k' l := by
  induction l with
  | nil => rfl
  | cons z l ih =>
    change windowFind k' ((if z.key = x.key then x else z) :: windowSet x l) = _
    by_cases hz : z.key = x.key
    · rw [if_pos hz, windowFind, windowFind, if_neg (Ne.symm hk), if_neg (by rw [hz]; exact Ne.symm hk), ih]
    · rw [if_neg hz, windowFind, windowFind, ih]

theorem windowFind_removed (k : WindowKey) (l : List MergeWin) : windowFind k (l.filter fun y => y.key != k) = none := by
  induction l with
  | nil => rfl
  | cons z l ih =>
    by_cases hz : z.key = k
    · rwa [List.filter_cons_of_neg (by simp [hz])]
    · rwa [List.filter_cons_of_pos (by simp [hz]), windowFind, if_neg hz]

end

section
variable {k : WindowKey} {s : State} {x : MergeWin}

theorem raiseMerged_opens (ws : List W32) (h : windowFind k s.hif.windows = none) : ∃ t, raiseMerged k ws s =
    { raise (windowCode k) (windowWords k ws 1 false) s with hif := t } ∧
      windowFind k t.windows = some { key := k, openedAt := t2Ns s } := by
  refine ⟨{ (raise (windowCode k) (windowWords k ws 1 false) s).hif with
    windows := (raise (windowCode k) (windowWords k ws 1 false) s).hif.windows ++ [{ key := k, openedAt := t2Ns s }] }, ?_, ?_⟩
  · rw [raiseMerged, h]
  · refine windowFind_append ?_ rfl
    rwa [((HostKeeps.refl s).raise ..).windows]

theorem raiseMerged_counts (ws : List W32) (h : windowFind k s.hif.windows = some x) : raiseMerged k ws s =
    { s with hif := { s.hif with windows := windowSet { x with count := sat32 (x.count + 1), last := ws } s.hif.windows } } := by
  rw [raiseMerged, h]

/-- The block with the window of a key ended. -/
def windowGone (k : WindowKey) (s : State) : State :=
  { s with hif := { s.hif with windows := s.hif.windows.filter fun y => y.key != k } }

theorem windowClose_found (h : windowFind k s.hif.windows = some x) : windowClose k s =
    if x.openedAt + 10000000 ≤ t2Ns s then
      if x.count = 0 then windowGone k s else raise (windowCode k) (windowWords k x.last x.count true) (windowGone k s)
    else s := by
  rw [windowClose, h]
  rfl

end

/-- Settles O19: a window opens, counts and ends. -/
theorem mergedRefusalsAreCountedOnce : Obligations.MergedRefusalsAreCountedOnce := by
  refine ⟨fun k ws s h => raiseMerged_opens ws h, fun k ws s x h => ?_, fun k s s1 x h hs1 => ?_⟩
  · have hkey := windowFind_key h
    exact ⟨_, raiseMerged_counts ws h, windowFind_windowSet h hkey, fun k' hk => windowFind_windowSet_other (by rwa [hkey]) _⟩
  · subst hs1
    have closes : exec (.notPermittedWindowClose k) s = .next _ := congrArg Host.Outcome.next (windowClose_found h)
    refine ⟨fun hearly => ?_, fun hdue hnone => ?_, fun hdue hsome => ?_, windowFind_removed k _⟩
    · exact closes.trans (congrArg _ (if_neg (by omega)))
    · exact closes.trans (congrArg _ ((if_pos hdue).trans (if_pos hnone)))
    · exact closes.trans (congrArg _ ((if_pos hdue).trans (if_neg hsome)))

end Sys2Proof.Machine
end

section
/-! SUPPORT. Register accesses: what a write and a read do by their path, their byte enables and the checks of R583; the obligation about
them. -/

namespace Sys2Proof.Machine

/-! ### Writes (R583, R658, R662, R671, R672) -/

section
variable {off : Nat} {a : RegW} {s : State}

theorem writeAny_unlisted (h : regPeek off a.init s = none) : writeAny off a s = s := if_neg (by simp [h])

theorem writeAny_listed (h : (regPeek off a.init s).isSome = true) :
    writeAny off a s = regWrite off (regInfo off a.init s) a (regApply off a.init) s := if_pos h

variable {i : RegInfo} {eff : W32 → State → State}

theorem regWrite_peek (h : a.path = .peek) : regWrite off i a eff s = s := by rw [regWrite, h]

theorem regWrite_refused (hpath : a.path ≠ .peek) (h : judgeReg a.init off true s ≠ .pass) :
    regWrite off i a eff s = refusedReg (judgeReg a.init off true s) a.init off true s := by
  unfold regWrite
  split
  · next hp => exact absurd hp hpath
  all_goals
    split
    · next hj => exact absurd hj h
    · rfl

theorem regWrite_partial (hpath : a.path ≠ .peek) (hbe : a.beFull = false) (h : judgeReg a.init off true s = .pass) :
    regWrite off i a eff s = paramRefused a.init off a.val s := by
  cases hp : a.path with
  | peek => exact absurd hp hpath
  | bar0 => simp [regWrite, hp, h, hbe]
  | bar1 b => simp [regWrite, hp, h, hbe]

/-- A word with one bit set. -/
theorem bitOf_two_pow {k : Nat} (hk : k < 32) (b : Nat) : bitOf (w32 (2 ^ b)) k = decide (b = k) := by
  rw [bitOf, w32, BitVec.getLsbD_ofNat, Nat.testBit_two_pow, decide_eq_true hk, Bool.true_and]

@[simp] theorem bitOf_and (v w : W32) (k : Nat) : bitOf (v &&& w) k = (bitOf v k && bitOf w k) := BitVec.getLsbD_and
@[simp] theorem bitOf_or (v w : W32) (k : Nat) : bitOf (v ||| w) k = (bitOf v k || bitOf w k) := BitVec.getLsbD_or
theorem bitOf_not {k : Nat} (hk : k < 32) (w : W32) : bitOf (~~~w) k = !bitOf w k := by
  rw [bitOf, BitVec.getLsbD_not, decide_eq_true hk, Bool.true_and, bitOf]

/-- The word of a register with bit `b` of its writable bits set or cleared. -/
def aliasWord (rw cur : W32) (b : Nat) (set : Bool) : W32 :=
  if set then (cur &&& rw) ||| w32 (2 ^ b) else (cur &&& rw) &&& ~~~w32 (2 ^ b)

theorem bitOf_aliasWord (rw cur : W32) {b k : Nat} (hk : k < 32) (set : Bool) :
    bitOf (aliasWord rw cur b set) k = if k = b then set else bitOf cur k && bitOf rw k := by
  cases set
  · rw [aliasWord, if_neg (by decide), bitOf_and, bitOf_and, bitOf_not hk, bitOf_two_pow hk]
    by_cases hb : k = b <;> simp [hb, Ne.symm]
  · rw [aliasWord, if_pos rfl, bitOf_or, bitOf_and, bitOf_two_pow hk]
    by_cases hb : k = b <;> simp [hb, Ne.symm]

variable {b : Nat}

theorem regWrite_alias_wide (hpath : a.path = .bar1 b) (h : judgeReg a.init off true s = .pass) (hwide : i.wide = true) :
    regWrite off i a eff s = paramRefused a.init off a.val s := by simp [regWrite, hpath, h, hwide]

theorem regWrite_alias_bit (hpath : a.path = .bar1 b) (hb : b < 32) (hbe : a.beFull = true) (h : judgeReg a.init off true s = .pass)
    (hwide : i.wide = false) (hbit : bitOf i.rw b = true) :
    regWrite off i a eff s = eff (aliasWord i.rw i.cur b (bitOf a.val 0)) s := by
  simp only [regWrite, hpath, h, hbe, hwide, Nat.mod_eq_of_lt hb, hbit, Bool.not_true, Bool.or_self, Bool.false_eq_true, if_false,
    if_true, aliasWord]

end

/-! ### Reads (R583, R584, R658, R667, R669, R672) -/

section
variable {off : Nat} {a : RegR} {s : State}

theorem readAny_unlisted (h : regPeek off a.init s = none) : readAny off a s = send (.readData a.init off a.path 0) s := by
  rw [readAny, h]

theorem readAny_listed {v : W32} (h : regPeek off a.init s = some v) : readAny off a s = regRead off a (readBy off a.init v) s := by
  rw [readAny, h]

theorem regRead_refused (rd : RegPath → State → W32 × State) (h : judgeReg a.init off false s ≠ .pass) : regRead off a rd s =
    send (.readData a.init off a.path (if judgeReg a.init off false s = .off then 0x0FF00FF0 else 0))
      (refusedReg (judgeReg a.init off false s) a.init off false s) := by
  cases hj : judgeReg a.init off false s with
  | pass => exact absurd hj h
  | off => simp [regRead, hj]
  | np => simp [regRead, hj]
  | gate => simp [regRead, hj]

/-- A read that passes answers the word of its path, and leaves what that path leaves. -/
theorem readAny_pass {v w : W32} {p : RegPath} {t : State} (hv : regPeek off a.init s = some v) (h : judgeReg a.init off false s = .pass)
    (hpath : readPath a = p) (hread : readBy off a.init v p s = (w, t)) :
    readAny off a s = send (.readData a.init off p (pathWord p w)) t := by
  simp only [readAny_listed hv, regRead, h, hpath, hread]

theorem readPath_peek (h : a.path = .peek ∨ a.beFull = false) : readPath a = .peek := by
  unfold readPath
  rcases h with h | h <;> simp [h]

theorem readPath_full (h : a.beFull = true) : readPath a = a.path := if_pos h

variable {init : Nat} {v : W32}

theorem readBy_bar0 (htxq : isTxqId off = false) : readBy off init v .bar0 s =
    if wideLow off = true then (v, latchHigh off init s)
    else if wideHigh off = true then ((tfind (wideKey init (off - 4)) s.hif.shadow).getD v, s)
    else (v, (rcFields off).foldl (fun st f => regClear off f.2 st) s) := if_neg (by simp [htxq])

end

/-- Settles O18: writes by path and checks, then reads by path and checks. -/
theorem registerAccessesByPath : Obligations.RegisterAccessesByPath := by
  refine ⟨fun off a s h => congrArg _ (writeAny_unlisted h), fun off a s hpath => ?_, fun off a s hlisted hpath h => ?_,
    fun off a s hlisted h => ?_, fun off a s hlisted hpath hbe h => ?_, fun off b a s cur hcur hpath hb hbe h => ?_,
    fun off a s v hv h => ?_, fun off a s hlisted h => ?_, fun off a s h => congrArg _ (readAny_unlisted h)⟩
  · refine congrArg Host.Outcome.next ?_
    by_cases hlisted : (regPeek off a.init s).isSome = true
    · exact (writeAny_listed hlisted).trans (regWrite_peek hpath)
    · exact if_neg hlisted
  · exact congrArg _ ((writeAny_listed hlisted).trans (regWrite_refused hpath h))
  · exact congrArg _ ((writeAny_listed hlisted).trans (regWrite_writes _ _ h))
  · exact congrArg _ ((writeAny_listed hlisted).trans (regWrite_partial hpath hbe h))
  · have listed : writeAny off a s = regWrite off (regInfo off a.init s) a (regApply off a.init) s := writeAny_listed (by simp [hcur])
    have hinfo : (regInfo off a.init s).cur = cur := by simp [regInfo, hcur]
    refine ⟨fun hwide => congrArg _ (listed.trans (regWrite_alias_wide hpath h ?_)), fun hlow hhigh hbit => ?_⟩
    · rcases hwide with hw | hw <;> simp [regInfo, hw]
    · have narrow : (regInfo off a.init s).wide = false := by simp [regInfo, hlow, hhigh]
      refine ⟨_, congrArg _ (listed.trans (regWrite_alias_bit hpath hb hbe h narrow hbit)), ?_, fun k hk hne => ?_⟩
      · exact (bitOf_aliasWord _ _ hb _).trans (if_pos rfl)
      · rw [bitOf_aliasWord _ _ hk, if_neg hne, hinfo]
        rfl
  · refine ⟨fun hpath => ?_, fun b hpath hb hbe => ?_, fun hpath hbe htxq hlow hhigh => ?_, fun hpath hbe htxq hlow => ?_,
      fun hpath hbe htxq hlow hhigh => ?_⟩
    · exact congrArg _ (readAny_pass hv h (readPath_peek hpath) rfl)
    · have reads := readAny_pass hv h ((readPath_full hbe).trans hpath) rfl
      rw [pathWord, Nat.mod_eq_of_lt hb] at reads
      exact congrArg _ reads
    all_goals refine congrArg _ (readAny_pass hv h ((readPath_full hbe).trans hpath) ((readBy_bar0 htxq).trans ?_))
    · exact (if_neg (by simp [hlow])).trans (if_neg (by simp [hhigh]))
    · exact if_pos hlow
    · exact (if_neg (by simp [hlow])).trans (if_pos hhigh)
  · obtain ⟨v, hv⟩ := Option.isSome_iff_exists.mp hlisted
    exact congrArg _ ((readAny_listed hv).trans (regRead_refused _ h))

end Sys2Proof.Machine
end

section
/-! SUPPORT. Serial lanes: what a test loop, a recalibration and the end of the calibrations of an enable make of a lane and leave of the
others; the obligation about them. -/

namespace Sys2Proof.Machine

/-! ### Lanes that enter and leave a state (R700, R712) -/

section
variable {m : Units} {s t : State}

theorem Agree.laneGet (h : Agree m s t) (hm : m.lane = false) (i : Nat) : laneGet t i = laneGet s i :=
  congrArg (fun u : LaneUnit => (tget {} u.lanes i : Lane)) (h.lane.resolve_left (by simp [hm]))

theorem Agree.t2Ns (h : Agree m s t) (hm : m.tb = false) : t2Ns t = t2Ns s :=
  congrArg (fun u : TimeUnit => tbNs u.t2) (h.tb.resolve_left (by simp [hm]))

end

section
variable (ovl cause i j : Nat) (s : State)

theorem laneGet_laneEnter : laneGet (laneEnter ovl cause i s) j =
    if j = i then { laneGet s i with ovl := ovl, cause := cause, since := t2Ns s, wait := false } else laneGet s j := by
  simp [laneEnter, laneEvent]

theorem laneGet_laneLeave : laneGet (laneLeave cause i s) j =
    if j = i then { laneGet s i with ovl := 0, loop := 0, cause := 0 } else laneGet s j := by simp [laneLeave, laneEvent]

theorem laneLeave_agree : Agree { lane := true } s (laneLeave cause i s) := laneLeave_frame _ _ _ (.refl _ s) rfl

end

theorem laneGroup_eq_three {i : Nat} : laneGroup i = 3 ↔ 80 ≤ i := by
  unfold laneGroup
  grind

/-- A lane of a domain in service, in no state that stands over its function's and calibrated. -/
structure LaneFree (i : Nat) (s : State) : Prop where
  domain : bitOf s.pwr.domains (laneDomain i) = true
  iso : bitOf s.pwr.iso (laneDomain i) = false
  ovl : (laneGet s i).ovl = 0
  cal : (laneGet s i).cal = true

theorem LaneFree.takeCmd {i : Nat} {s : State} (h : LaneFree i s) (c : Cmd) : LaneFree i (takeCmd c s) where
  domain := by rw [takeCmd_pwr]; exact h.domain
  iso := by rw [takeCmd_pwr]; exact h.iso
  ovl := by rw [laneGet_takeCmd]; exact h.ovl
  cal := by rw [laneGet_takeCmd]; exact h.cal

/-! ### LANE_LOOP (R701, R702) -/

theorem loopDetach_agree (i : Nat) (s : State) :
    Agree { mem := true, scan := true, net := true, bb := true, str := true, comp := true } s (loopDetach i s) :=
  loopDetach_frame i s (.refl _ s) rfl rfl rfl rfl rfl rfl

theorem laneGet_loopStart (i k j : Nat) (s : State) : laneGet (loopStart i k s) j =
    if j = i then { laneGet s i with ovl := 4, loop := k + 1, cause := 4, since := t2Ns s, wait := false } else laneGet s j := by
  have hlane := fun j => (loopDetach_agree i s).laneGet rfl j
  rw [loopStart, laneGet_laneUpd]
  simp only [laneGet_laneEnter, if_true, hlane, (loopDetach_agree i s).t2Ns rfl]
  split
  · rfl
  · rfl

theorem loopStart_agree (i k : Nat) (s : State) :
    Agree { lane := true, mem := true, scan := true, net := true, bb := true, str := true, comp := true } s (loopStart i k s) :=
  loopStart_frame i k s (.refl _ s) rfl rfl rfl rfl rfl rfl rfl

section
variable {c : Cmd} {s : State} {i : Nat}

theorem opLaneLoop_wrongMode (h : s.pwr.mode ≠ .maintenance) : opLaneLoop c s = (s, .no 6 0) := by
  simp [opLaneLoop, checked_cons, h, wrongMode]

variable (hlane : laneNamed (cw c 2) = some i) (hmode : s.pwr.mode = .maintenance)
include hlane hmode

theorem opLaneLoop_badKind (h : loopListed (laneGroup i) (fld (cw c 3) 1 0) = false) : opLaneLoop c s = (s, badField 12) := by
  simp [opLaneLoop, checked_cons, hmode, hlane, h]

theorem opLaneLoop_starts (hkind : loopListed (laneGroup i) (fld (cw c 3) 1 0) = true) (hmin : 0 < (cw c 4).toNat)
    (hmax : (cw c 4).toNat ≤ 60000) (h : LaneFree i s) :
    opLaneLoop c s = (loopStart i (fld (cw c 3) 1 0) s, .later i [fld (cw c 3) 1 0, (cw c 4).toNat]) := by
  simp [opLaneLoop, checked_cons, hmode, hlane, hkind, Nat.not_lt.mpr hmax, Nat.pos_iff_ne_zero.mp hmin, domainOff, h.domain, h.iso, h.ovl, h.cal]

end

/-! ### LANE_LOOP_END (R702, R703) -/

theorem loopAttach_agree (i : Nat) (s : State) : Agree { scan := true, bb := true } s (loopAttach i s) :=
  loopAttach_frame i s (.refl _ s) rfl rfl

/-- A function that resumes after a loop changes its own unit alone. -/
theorem loopAttach_hif (i : Nat) (s : State) : (loopAttach i s).hif = s.hif := by
  unfold loopAttach
  repeat' split
  all_goals rfl

theorem loopAttach_none {i : Nat} (h : ¬ laneGroup i ≤ 1) (s : State) : loopAttach i s = s := by
  unfold loopAttach
  split
  · omega
  · omega
  · rfl

theorem completeOutst_drops (o : Outst) (st : Nat) (d : W32) (res : List W32) (s : State) :
    ∀ x ∈ (completeOutst o st d res s).hif.outst, x.seq ≠ o.seq := by
  intro x hx
  rw [completeOutst, ((HostKeeps.refl (outstDrop o s)).complete ..).outst] at hx
  simpa using (List.mem_filter.mp hx).2

section
variable {r : LoopResult} {s : State} {o : Outst} (ho : outstOf 8 s = some o)
include ho

theorem loopEnd_early (h : t2Ns s < (laneGet s o.target).since + o.arg.getD 1 0 * 1000000) : loopEnd r s = s := by
  rw [loopEnd, ho]
  exact if_pos h

/-- The block at the end of a loop, before the lane's function resumes. -/
def loopOver (r : LoopResult) (o : Outst) (s : State) : State :=
  completeOutst o 0 0 (loopWords (o.arg.getD 0 0) r) (laneLeave 4 o.target s)

theorem loopEnd_due (h : (laneGet s o.target).since + o.arg.getD 1 0 * 1000000 ≤ t2Ns s) :
    loopEnd r s = loopAttach o.target (loopOver r o s) := by
  rw [loopEnd, ho]
  exact if_neg (Nat.not_lt.mpr h)

end

theorem loopEnd_none {r : LoopResult} {s : State} (h : outstOf 8 s = none) : loopEnd r s = s := by rw [loopEnd, h]

theorem laneGet_loopOver (r : LoopResult) (o : Outst) (j : Nat) (s : State) : laneGet (loopOver r o s) j =
    if j = o.target then { laneGet s o.target with ovl := 0, loop := 0, cause := 0 } else laneGet s j := by
  rw [loopOver, laneGet_completeOutst, laneGet_laneLeave]

/-! ### LANE_RECAL (R705 to R707) -/

theorem laneGet_recalStart (i j : Nat) (s : State) : laneGet (recalStart s i) j =
    if j = i then { laneGet s i with ovl := 3, cause := 1, since := t2Ns s, wait := false, recals := sat16 ((laneGet s i).recals + 1) }
    else laneGet s j := by
  rw [recalStart, laneGet_laneEnter]
  simp only [laneGet_laneUpd, if_true]
  split <;> rfl

@[simp] theorem laneOutput_takeCmd (c : Cmd) (s : State) (i : Nat) : laneOutput (takeCmd c s) i = laneOutput s i :=
  takeCmd_same (laneOutput · i) (fun _ _ => rfl) c s

@[simp] theorem frameQuiet_takeCmd (c : Cmd) (s : State) (o : Nat) : frameQuiet (takeCmd c s) o = frameQuiet s o :=
  takeCmd_same (frameQuiet · o) (fun _ _ => rfl) c s

@[simp] theorem otherPLane_takeCmd (c : Cmd) (s : State) (i : Nat) : otherPLane (takeCmd c s) i = otherPLane s i :=
  takeCmd_same (otherPLane · i) (fun _ _ => rfl) c s

section
variable {c : Cmd} {s : State} {i : Nat}

theorem opLaneRecal_begins (hlane : laneNamed (cw c 2) = some i) (h : LaneFree i s) (hwait : (laneGet s i).wait = false)
    (hother : i < 80 ∨ otherPLane s i = true) : opLaneRecal c s = (recalBegin i s, .ok []) := by
  have hgroup : (laneGroup i == 3 && !otherPLane s i) = false := by
    rcases hother with hi | hp
    · simp [laneGroup_eq_three, hi]
    · simp [hp]
  simp [opLaneRecal, checked_cons, hlane, domainOff, h.domain, h.iso, h.ovl, h.cal, hwait, hgroup]

theorem opLaneRecal_held (hlane : laneNamed (cw c 2) = some i) (hdomain : bitOf s.pwr.domains (laneDomain i) = true)
    (hiso : bitOf s.pwr.iso (laneDomain i) = false) (h : (laneGet s i).ovl ≠ 0 ∨ (80 ≤ i ∧ otherPLane s i = false)) :
    opLaneRecal c s = (s, laneHeld i) := by
  rcases h with h | ⟨hi, hp⟩
  · simp [opLaneRecal, checked_cons, hlane, domainOff, hdomain, hiso, h]
  · simp [opLaneRecal, checked_cons, hlane, domainOff, hdomain, hiso, laneGroup_eq_three.mpr hi, hp]

variable (i) (s)

theorem recalBegin_agree : Agree { mem := true, lane := true, pair := true, str := true, comp := true } s (recalBegin i s) :=
  recalBegin_frame i s (.refl _ s) rfl rfl rfl rfl rfl

variable {i} {s}

/-- A V lane of no enabled output, and an I lane, recalibrate at once. -/
theorem recalBegin_atOnce (h : (i < 48 ∧ laneOutput s i = none) ∨ (48 ≤ i ∧ i < 64)) : recalBegin i s = recalStart s i := by
  rcases h with ⟨hi, hout⟩ | ⟨hmin, hmax⟩
  · have hgroup : laneGroup i = 0 := if_pos hi
    rw [recalBegin, hgroup]
    simp only [outputOfLane, hout]
  · have hgroup : laneGroup i = 1 := (if_neg (by omega)).trans (if_pos hmax)
    rw [recalBegin, hgroup]
    rfl

/-- A V lane that is sending waits for the end of the frame (R706). -/
theorem recalBegin_waits {o : Nat} (hi : i < 48) (hout : laneOutput s i = some o) (hbusy : frameQuiet s o = false) :
    recalBegin i s = laneUpd i (fun x => { x with wait := true }) s := by
  have hgroup : laneGroup i = 0 := if_pos hi
  rw [recalBegin, hgroup]
  simp only [outputOfLane, hout]
  exact if_neg (by rw [show frameQuiet (laneUpd i (fun x => { x with wait := true }) s) o = frameQuiet s o from rfl, hbusy]; decide)

/-- An N or P lane starts at once, whatever becomes of its port's streams or of the pair link. -/
theorem recalBegin_starts (hi : 64 ≤ i) :
    Agree { mem := true, pair := true, str := true, comp := true } (recalStart s i) (recalBegin i s) := by
  have hself := Agree.refl { mem := true, pair := true, str := true, comp := true } (recalStart s i)
  unfold recalBegin
  split
  · next h => unfold laneGroup at h; split_ifs at h; omega
  · exact ite_frame (agree_foldl (fun u k hu => streamLinkDown_frame _ u k hu rfl rfl rfl) hself) hself
  · exact withPair_frame _ _ hself rfl
  · exact hself

theorem bitOf_clear (w : W32) (k : Nat) : bitOf (w &&& ~~~w32 (2 ^ k)) k = false := by
  by_cases hk : k < 32
  · simp [bitOf_not hk, bitOf_two_pow hk]
  · exact BitVec.getLsbD_of_ge _ _ (Nat.not_lt.mp hk)

theorem bitOf_set (w : W32) {k : Nat} (hk : k < 32) : bitOf (w ||| w32 (2 ^ k)) k = true := by
  simp [bitOf_two_pow hk]

/-- A P lane leaves the pair link (R707). -/
theorem recalBegin_leavesLink (hi : 80 ≤ i) : bitOf (recalBegin i s).pair.lanes (i - 80) = false := by
  rw [recalBegin, laneGroup_eq_three.mpr hi]
  exact bitOf_clear ..

end

/-! ### LANE_RECAL_END (R705, R707) -/

/-- A lane recalibrates for one of the causes 1 to 3. -/
structure Recalibrates (i : Nat) (s : State) : Prop where
  ovl : (laneGet s i).ovl = 3
  min : 1 ≤ (laneGet s i).cause
  max : (laneGet s i).cause ≤ 3

theorem recalReturn_agree (i : Nat) (s : State) : Agree { pair := true, scan := true } s (recalReturn i s) :=
  recalReturn_frame i s (.refl _ s) rfl rfl

theorem recalReturn_joins {i : Nat} {s : State} (hmin : 80 ≤ i) (hmax : i < 84) (hlink : s.pair.linkUp = true) :
    bitOf (recalReturn i s).pair.lanes (i - 80) = true := by
  rw [recalReturn, if_pos (by simp [laneGroup_eq_three.mpr hmin, hlink])]
  exact bitOf_set _ (by omega)

section
variable {i : Nat} {s : State}

theorem recalEnd_idle (ok : Bool) (h : (laneGet s i).ovl ≠ 3 ∨ (laneGet s i).cause = 0 ∨ 3 < (laneGet s i).cause) :
    recalEnd i ok s = s := by
  refine if_pos ?_
  rcases h with h | h | h <;> simp [h]

variable (h : Recalibrates i s)
include h

theorem Recalibrates.guard :
    ((laneGet s i).ovl != 3 || decide ((laneGet s i).cause = 0) || decide (3 < (laneGet s i).cause)) = false := by
  have := h.min
  have := h.max
  simp [h.ovl]
  omega

theorem recalEnd_passed : recalEnd i true s = recalReturn i (laneLeave (laneGet s i).cause i s) := by
  simp only [recalEnd, h.guard, Bool.false_eq_true, if_false, if_true]

theorem recalEnd_failed (hi : i < 80) : recalEnd i false s = laneLeave 6 i s := by
  simp only [recalEnd, h.guard, Bool.false_eq_true, if_false, Nat.not_le.mpr hi]

theorem recalEnd_failed_p (hi : 80 ≤ i) : recalEnd i false s =
    linkEventPair (i - 80) false (laneUpd i (fun y => { y with ovl := 5, cause := 0 }) (laneLeave 6 i s)) := by
  simp only [recalEnd, h.guard, Bool.false_eq_true, if_false, hi, if_true]

/-- A recalibration that ends changes its own lane, the pair link and the outputs alone. -/
theorem recalEnd_ends (ok : Bool) : (∀ j, j ≠ i → laneGet (recalEnd i ok s) j = laneGet s j) ∧ ((ok = true ∨ i < 80) →
    (laneGet (recalEnd i ok s) i).ovl = 0) ∧ (ok = false → 80 ≤ i → (laneGet (recalEnd i ok s) i).ovl = 5) := by
  cases ok with
  | true =>
    have hlane := (recalReturn_agree i (laneLeave (laneGet s i).cause i s)).laneGet rfl
    rw [recalEnd_passed h]
    refine ⟨fun j hj => ?_, fun _ => ?_, fun hno => absurd hno (by decide)⟩
    · rw [hlane, laneGet_laneLeave, if_neg hj]
    · rw [hlane, laneGet_laneLeave, if_pos rfl]
  | false =>
    by_cases hi : 80 ≤ i
    · rw [recalEnd_failed_p h hi]
      refine ⟨fun j hj => ?_, fun hok => absurd (hok.resolve_left (by decide)) (by omega), fun _ _ => ?_⟩
      · simp [linkEventPair, laneGet_laneLeave, hj]
      · simp [linkEventPair]
    · rw [recalEnd_failed h (by omega)]
      refine ⟨fun j hj => ?_, fun _ => ?_, fun _ hmin => absurd hmin hi⟩
      · rw [laneGet_laneLeave, if_neg hj]
      · rw [laneGet_laneLeave, if_pos rfl]

end

/-! ### LANE_CALIBRATION_END (R700) -/

/-- The lanes that calibrate for an enable. -/
def calibrating (s : State) : List Nat := (List.range 84).filter fun i => (laneGet s i).ovl == 3 && (laneGet s i).cause == 5

/-- The enable that waits for its lanes. -/
def enableWaits (s : State) : Option Outst := s.hif.outst.find? fun o => enableOps.contains o.opcode

section
variable {failed : List Nat} {s : State} {o : Outst}

theorem calibrationEnd_idle (h : s.hif.supply ≠ none ∨ enableWaits s = none) : calibrationEnd failed s = s := by
  unfold calibrationEnd
  split
  · rfl
  · rfl
  · next hsupply hwaits =>
    rcases h with h | h
    · exact absurd (Option.isNone_iff_eq_none.mp hsupply) h
    · rw [enableWaits, hwaits] at h
      cases h

variable (hsupply : s.hif.supply = none) (ho : enableWaits s = some o)
include hsupply ho

theorem calibrationEnd_judged : calibrationEnd failed s = match (calibrating s).filter fun i => failed.contains i with
    | i :: _ => completeOutst o 3 (pack [(31, 24, 0xFF), (15, 0, 0x300 + i)]) []
        ((calibrating s).foldl (fun st j => laneLeave (if failed.contains j then 6 else 5) j st) s)
    | [] => completeOutst o 0 0 [] ((calibrating s).foldl (fun st j => laneLeave 5 j st) (enableWork o s)) := by
  rw [enableWaits] at ho
  rw [calibrationEnd, hsupply, ho]
  rfl

theorem calibrationEnd_passes (h : ∀ i ∈ calibrating s, i ∉ failed) : calibrationEnd failed s =
    completeOutst o 0 0 [] ((calibrating s).foldl (fun st j => laneLeave 5 j st) (enableWork o s)) := by
  have hnone : (calibrating s).filter (fun i => failed.contains i) = [] := by simpa [List.filter_eq_nil_iff] using h
  rw [calibrationEnd_judged hsupply ho, hnone]

theorem calibrationEnd_fails {i : Nat} (h : (calibrating s).find? (fun i => failed.contains i) = some i) : calibrationEnd failed s =
    completeOutst o 3 (pack [(31, 24, 0xFF), (15, 0, 0x300 + i)]) []
      ((calibrating s).foldl (fun st j => laneLeave (if failed.contains j then 6 else 5) j st) s) := by
  rw [← List.head?_filter, List.head?_eq_some_iff] at h
  obtain ⟨rest, hrest⟩ := h
  rw [calibrationEnd_judged hsupply ho, hrest]

end

/-! ### The obligation -/

theorem loadEnd_none {s : State} (d : Option (List Byte)) (h : loadOutst s = none) : loadEnd d s = s := by
  simp only [loadEnd, h]

theorem loadEnd_unread {s : State} {o : Outst} (h : loadOutst s = some o) : loadEnd none s = completeOutst o 10 0 [] s := by
  simp only [loadEnd, h, loadReply, dmaError]

theorem exec_laneRecalEnd {i : Nat} (hi : i < 84) (ok : Bool) (s : State) : exec (.laneRecalEnd i ok) s = .next (recalEnd i ok s) := by
  change Host.Outcome.next (recalEnd (i % 84) ok s) = _
  rw [Nat.mod_eq_of_lt hi]

/-- Settles O36: each row by its own equation, the lanes by what `laneEnter` and `laneLeave` make of them. -/
theorem lanesAreTakenOutAndGivenBack : Obligations.LanesAreTakenOutAndGivenBack := by
  refine ⟨fun c s u i k t hu h hlane hk ht => ?loop, fun i k s => ?started, fun r s o ho => ?loopEnd,
    fun r s h => congrArg _ (loopEnd_none h), fun c s u i hu h hlane hdomain hiso => ?recal, fun i s => ?recalStarted,
    fun i ok s hi => ?recalEnd, fun failed s o busy hsupply ho hbusy => ?calibrated, fun failed s h => congrArg _ (calibrationEnd_idle ?_),
    fun d s h => congrArg _ (loadEnd_none d h), fun s o h => congrArg _ (loadEnd_unread h)⟩
  case loop =>
    subst hu hk ht
    refine ⟨fun hmode hkind hmin hmax hdomain hiso hovl hcal => ?_, fun hmode => ?_, fun hmode hkind => ?_⟩
    all_goals refine congrArg _ (hostCommand_answers h ?_)
    · exact opLaneLoop_starts hlane (by rwa [takeCmd_pwr]) hkind hmin hmax (LaneFree.takeCmd ⟨hdomain, hiso, hovl, hcal⟩ c)
    · exact opLaneLoop_wrongMode (by rwa [takeCmd_pwr])
    · exact opLaneLoop_badKind hlane (by rwa [takeCmd_pwr]) hkind
  case started =>
    refine ⟨(laneGet_loopStart ..).trans (if_pos rfl), fun j hj => (laneGet_loopStart ..).trans (if_neg hj), ?_, ?_⟩
    · exact (loopStart_agree i k s).tb.resolve_left (by decide)
    · exact (loopStart_agree i k s).pair.resolve_left (by decide)
  case loopEnd =>
    refine ⟨fun htime => congrArg _ (loopEnd_early ho htime), fun htime => ⟨_, congrArg Host.Outcome.next (loopEnd_due ho htime), ?_⟩⟩
    have hattach := loopAttach_agree o.target (loopOver r o s)
    have hlane (j : Nat) := (hattach.laneGet rfl j).trans (laneGet_loopOver r o j s)
    refine ⟨by rw [hlane, if_pos rfl], by rw [hlane, if_pos rfl], fun j hj => (hlane j).trans (if_neg hj), ?_, ?_,
      fun hgroup => loopAttach_none hgroup _⟩
    · exact (hattach.mem.resolve_left (by decide)).trans ((completeOutst_mem ..).trans ((laneLeave_agree ..).mem.resolve_left (by decide)))
    · rw [loopAttach_hif]
      exact completeOutst_drops o _ _ _ _
  case recal =>
    subst hu
    refine ⟨fun hovl hwait hcal hother => ?_, fun hi hother => ?_, fun hovl => ?_⟩
    · have hfree := LaneFree.takeCmd ⟨hdomain, hiso, hovl, hcal⟩ c
      have hstart (hi : 64 ≤ i) (j : Nat) := (recalBegin_starts (s := takeCmd c s) hi).laneGet rfl j
      refine ⟨recalBegin i (takeCmd c s), congrArg _ (hostCommand_answers h (opLaneRecal_begins hlane hfree (by simpa) (by simpa))),
        ?_, fun hi hout => recalBegin_atOnce (.inl ⟨hi, by simpa⟩), fun hmin hmax => recalBegin_atOnce (.inr ⟨hmin, hmax⟩),
        fun o hi hout hbusy => recalBegin_waits hi (by simpa using hout) (by simpa), fun hi => ⟨?_, fun j hj => ?_⟩, recalBegin_leavesLink⟩
      · exact ((recalBegin_agree (takeCmd c s) i).tb.resolve_left (by decide)).trans (takeCmd_tb ..)
      · rw [hstart hi, laneGet_recalStart, if_pos rfl]
      · rw [hstart hi, laneGet_recalStart, if_neg hj, laneGet_takeCmd]
    all_goals
      refine congrArg _ (hostCommand_answers h (opLaneRecal_held hlane (by rwa [takeCmd_pwr]) (by rwa [takeCmd_pwr]) ?_))
    · exact .inr ⟨hi, by simpa⟩
    · exact .inl (by simpa)
  case recalStarted =>
    exact ⟨(laneGet_recalStart ..).trans (if_pos rfl), fun j hj => (laneGet_recalStart ..).trans (if_neg hj)⟩
  case recalEnd =>
    refine ⟨fun h => (exec_laneRecalEnd hi ok s).trans (congrArg _ (recalEnd_idle ok h)), fun hovl hmin hmax => ?_⟩
    have hcal : Recalibrates i s := ⟨hovl, hmin, hmax⟩
    have hagree := recalEnd_frame (m := { lane := true, pair := true, scan := true }) i ok s (.refl _ s) rfl rfl rfl
    obtain ⟨hothers, hback, hremoved⟩ := recalEnd_ends hcal ok
    refine ⟨_, exec_laneRecalEnd hi ok s, hothers, hagree.mem.resolve_left (by decide), hagree.tb.resolve_left (by decide), hback,
      hremoved, fun hok hp hlink => ?_⟩
    subst hok
    rw [recalEnd_passed hcal]
    refine recalReturn_joins hp hi ?_
    rw [(laneLeave_agree ..).pair.resolve_left (by decide)]
    exact hlink
  case calibrated =>
    subst hbusy
    exact ⟨fun h => congrArg _ (calibrationEnd_passes hsupply ho h), fun i h => congrArg _ (calibrationEnd_fails hsupply ho h)⟩
  · exact h.imp id fun hno => List.find?_eq_none.mpr fun o ho => by simpa using hno o ho

end Sys2Proof.Machine
end

section
/-! SUPPORT. Cast-on: the slot that the ROM chooses, the way to Ready, staging, and the words of FW_IDENT and DEVICE_STATUS; the
obligation about them. -/

namespace Sys2Proof.Machine

/-! ### The slot indicator (R642) -/

section
variable (x : SlotInd) (b : Boot)

theorem indWrite_wdAt : (indWrite x b).wdAt = b.wdAt := by
  unfold indWrite
  grind

theorem indWrite_step : (indWrite x b).step = b.step := by
  unfold indWrite
  grind

theorem indWrite_record : (indWrite x b).record = b.record := by
  unfold indWrite
  grind

theorem slotOfBoot_indWrite (n : Nat) : slotOfBoot (indWrite x b) n = slotOfBoot b n := by
  unfold indWrite slotOfBoot
  grind

variable {b}

/-- The update goes into the first copy when it is the invalid one or the lower. -/
theorem indWrite_first (h : b.ind0.valid = false ∨ (b.ind1.valid = true ∧ b.ind0.seq.toNat < b.ind1.seq.toNat)) :
    indWrite x b = { b with ind0 := { x with valid := true, seq := (indGet b).seq + 1 } } := by
  unfold indWrite
  grind

theorem indWrite_second (h : b.ind0.valid = true ∧ (b.ind1.valid = false ∨ b.ind1.seq.toNat ≤ b.ind0.seq.toNat)) :
    indWrite x b = { b with ind1 := { x with valid := true, seq := (indGet b).seq + 1 } } := by
  unfold indWrite
  grind

end

/-! ### Choosing a slot (R645) -/

section
variable {uartR : Bool} {b : Boot}

/-- The active slot, where it verifies and no trial of it has failed. -/
theorem chooseSlot_active (huart : uartR = false) (hok : (slotOfBoot b (indGet b).active).verdict = 0) (htrial : (indGet b).trial = false)
    (hflag : b.wdFlag = false) (hfails : (indGet b).fails < 3) : ∃ log, chooseSlot uartR b =
      { slot := some (indGet b).active, ind := indGet b, log := log } :=
  ⟨b.record ++ [] ++ [fwWords 1 (indGet b).active 0 (indGet b).fails b], by
    simp [chooseSlot, verifySlots, huart, hflag, htrial, hok, Nat.not_le.mpr hfails]⟩

/-- None, with UART_R high or after three failures. -/
theorem chooseSlot_none (h : uartR = true ∨ 3 ≤ (indGet b).fails) (hflag : b.wdFlag = false) :
    chooseSlot uartR b = { slot := none, ind := indGet b, log := b.record ++ [] } := by
  simp [chooseSlot, hflag, h]

end

/-! ### Cast-on (R648, R649) -/

section
variable {env : BootEnv} {b : Boot} (s : State) {log : List (List W32)}

/-- The flash as the ROM of a restart finds it, with what the choice of a slot leaves in the boot unit. -/
def chosenBoot (env : BootEnv) (b : Boot) (log : List (List W32)) : Boot :=
  { flashOf env b with wdFlag := false, record := log, failsAtStart := (indGet b).fails, trialAtStart := (indGet b).trial }

/-- The boot unit as the main processor starts from a slot. -/
def startedBoot (env : BootEnv) (b : Boot) (log : List (List W32)) (n : Nat) : Boot :=
  { chosenBoot env b log with step := 4, running := n, startPath := if b.afterRecovery then 3 else 0, afterRecovery := false,
                              wdAt := some 0, fwVersion := (slotOfBoot (flashOf env b) n).version }

/-- The block as the main processor starts. -/
def started (env : BootEnv) (b : Boot) (s : State) : State :=
  { blank b s with hif := { (blank b s).hif with link := env.link, linkUp := true } }

theorem castOnFrom_starts {n : Nat} (h : chooseSlot env.uartR (flashOf env b) = { slot := some n, ind := indGet b, log := log }) :
    castOnFrom env b s = started env (startedBoot env b log n) s := by
  have hind : (indGet b == indGet (flashOf env b)) = true := beq_self_eq_true (indGet b)
  simp only [castOnFrom, h, hind, if_true]
  rfl

theorem castOnFrom_recovers (h : chooseSlot env.uartR (flashOf env b) = { slot := none, ind := indGet b, log := log }) :
    castOnFrom env b s = withPwr (blank { chosenBoot env b log with step := 3 } s) { ({} : State).pwr with mode := .recovery } := by
  have hind : (indGet b == indGet (flashOf env b)) = true := beq_self_eq_true (indGet b)
  simp only [castOnFrom, h, hind, if_true]
  rfl

end

section
variable {env : BootEnv} {s : State} {t : Nat}

theorem resetRelease_high (h : s.boot.resetN = true) : resetRelease env s = s := if_pos h

theorem resetRelease_low (h : s.boot.resetN = false) : resetRelease env s = castOnFrom env { s.boot with wdFlag := false } s :=
  if_neg (by simp [h])

theorem watchdogExpiry_due (h : s.boot.wdAt = some t) (ht : t + 60000000000 ≤ t2Ns s) :
    watchdogExpiry env s = castOnFrom env { s.boot with wdFlag := true } s := by
  simp only [watchdogExpiry, h, ht, if_true]

theorem watchdogExpiry_early (h : s.boot.wdAt = some t) (ht : t2Ns s < t + 60000000000) : watchdogExpiry env s = s := by
  simp only [watchdogExpiry, h, Nat.not_le.mpr ht, if_false]

theorem watchdogExpiry_stopped (h : s.boot.wdAt = none) : watchdogExpiry env s = s := by simp only [watchdogExpiry, h]

theorem castOnRestart_due (h : s.boot.restartAt = some t) (ht : t = 0 ∨ t + 1000000 ≤ t2Ns s) :
    castOnRestart env s = castOnFrom env s.boot s := by
  simp [castOnRestart, h, ht]

theorem castOnRestart_early (h : s.boot.restartAt = some t) (hpos : 0 < t) (ht : t2Ns s < t + 1000000) : castOnRestart env s = s := by
  simp [castOnRestart, h, Nat.ne_of_gt hpos, Nat.not_le.mpr ht]

theorem castOnRestart_none (h : s.boot.restartAt = none) : castOnRestart env s = s := by simp only [castOnRestart, h]

end

/-! ### READY_REACHED (R647, R649, R700) -/

/-- One lane, as step 6 leaves it. -/
def laneCalibrate (failed : List Nat) (s : State) (i : Nat) : State :=
  if failed.contains i then laneEvent i 6 6 0 s else laneUpd i (fun x => { x with cal := true }) s

section
variable {failed : List Nat} {i : Nat} {s : State}

theorem laneCalibrate_keeps_cal (j : Nat) (h : (laneGet s i).cal = true) : (laneGet (laneCalibrate failed s j) i).cal = true := by
  unfold laneCalibrate
  split
  · rwa [laneEvent, laneGet_raise]
  · rw [laneGet_laneUpd]
    split
    · rfl
    · exact h

theorem laneCalibrate_cal (h : i ∉ failed) : (laneGet (laneCalibrate failed s i) i).cal = true := by
  simp [laneCalibrate, h]

/-- Of the lanes that are calibrated in turn each is calibrated that did not fail. -/
theorem cal_foldl_laneCalibrate (hi : i ∉ failed) (l : List Nat) (h : i ∈ l ∨ (laneGet s i).cal = true) :
    (laneGet (l.foldl (laneCalibrate failed) s) i).cal = true := by
  induction l generalizing s with
  | nil => exact h.resolve_left List.not_mem_nil
  | cons j l ih =>
    refine ih ?_
    rcases h with h | h
    · rcases List.mem_cons.mp h with rfl | h
      · exact .inr (laneCalibrate_cal hi)
      · exact .inl h
    · exact .inr (laneCalibrate_keeps_cal j h)

theorem lanesCalibrated_cal (hrange : i < 84) (hi : i ∉ failed) : (laneGet (lanesCalibrated failed s) i).cal = true :=
  cal_foldl_laneCalibrate hi _ (.inl (List.mem_range.mpr hrange))

end

/-- The block with its stack trained, its lanes calibrated and its boot record told. -/
def prepared (env : ReadyEnv) (s : State) : State :=
  let w : MemWindow := { en := winMayEnable s.mem 0 { en := true, rowCount := 12288 }, rowCount := 12288 }
  let s2 := lanesCalibrated env.failedLanes { s with mem := { s.mem with mcState := 2, windows := tset 0 w s.mem.windows } }
  s2.boot.record.foldl (fun st ws => raise 0x58 ws st) s2

/-- The block as it enters Ready: the watchdog stopped, FAULT_N released. -/
def readied (env : ReadyEnv) (s : State) : State :=
  withPwr (withBoot (prepared env s) { (prepared env s).boot with record := [], step := 7, wdAt := none })
    { (prepared env s).pwr with faultN := false }

section
variable {env : ReadyEnv} {s : State}

theorem readyReached_enters (hmode : s.pwr.mode = .castOn) (hstep : 4 ≤ s.boot.step) (hrestart : s.boot.restartAt = none) :
    readyReached env s = setMode .ready 4 0 0xFF (readied env s) :=
  if_neg (by simp [hmode, hrestart, Nat.not_lt.mpr hstep])

theorem readyReached_stays (h : s.pwr.mode ≠ .castOn ∨ s.boot.step < 4) : readyReached env s = s := by
  refine if_pos ?_
  rcases h with h | h <;> simp [h]

theorem foldl_raise_agree (code : Nat) (wss : List (List W32)) (s : State) :
    Agree {} s (wss.foldl (fun st ws => raise code ws st) s) :=
  agree_foldl (fun u ws h => raise_frame code ws u h) (.refl _ s)

theorem readied_cal {i : Nat} (hrange : i < 84) (hi : i ∉ env.failedLanes) : (laneGet (readied env s) i).cal = true := by
  have hlane : (laneGet (prepared env s) i).cal = true := by
    rw [prepared, (foldl_raise_agree ..).laneGet rfl]
    exact lanesCalibrated_cal hrange hi
  rw [laneGet] at hlane
  rw [laneGet, readied, withPwr_lane, withBoot_lane, hlane]

theorem prepared_pwr (env : ReadyEnv) (s : State) : (prepared env s).pwr = s.pwr :=
  ((foldl_raise_agree ..).pwr.resolve_left (by decide)).trans
    ((lanesCalibrated_frame env.failedLanes _ (.refl { lane := true } _) rfl).pwr.resolve_left (by decide))

/-- An entry to Ready from cast-on is what every entry is, and nothing of another mode's leaving. -/
theorem setMode_ready_castOn {cause sh port : Nat} (h : s.pwr.mode = .castOn) :
    ∃ u, u.boot = s.boot ∧ setMode .ready cause sh port s = trialCommit u := by
  unfold setMode
  rw [h]
  refine ⟨_, ?_, rfl⟩
  exact raise_boot ..

/-- The commitment of a trial writes the indicator alone. -/
theorem trialCommit_boot (s : State) : ∃ x, (trialCommit s).boot = s.boot ∨ (trialCommit s).boot = indWrite x s.boot := by
  refine ⟨{ indGet s.boot with trial := false, fails := 0, prevOk := true }, ?_⟩
  unfold trialCommit
  dsimp only
  split
  · exact .inl rfl
  · split
    · exact .inr (raise_boot ..)
    · exact .inr rfl

theorem trialCommit_keeps (s : State) : (trialCommit s).boot.wdAt = s.boot.wdAt ∧ (trialCommit s).boot.step = s.boot.step ∧
    (trialCommit s).boot.record = s.boot.record := by
  obtain ⟨x, h | h⟩ := trialCommit_boot s <;> rw [h]
  · exact ⟨rfl, rfl, rfl⟩
  · exact ⟨indWrite_wdAt .., indWrite_step .., indWrite_record ..⟩

/-- The entry to Ready leaves the memory, the time bases and the outputs as training leaves them. -/
theorem readied_agree (env : ReadyEnv) (s : State) : ∃ u, u.mem.mcState = 2 ∧ u.mem.hbm = s.mem.hbm ∧ u.tb = s.tb ∧ u.scan = s.scan ∧
    Agree { lane := true, pwr := true, boot := true, pair := true, touch := true } u (setMode .ready 4 0 0xFF (readied env s)) :=
  ⟨{ s with mem := { s.mem with mcState := 2, windows := _ } }, rfl, rfl, rfl, rfl,
    setMode_frame _ _ _ _ _ (withPwr_frame _ _ (withBoot_frame _ _ (agree_foldl (fun u ws h => raise_frame 0x58 ws u h)
      (lanesCalibrated_frame env.failedLanes _ (.refl _ _) rfl)) rfl) rfl) rfl rfl rfl rfl⟩

/-- What the entry to Ready leaves of the block that cast-on has trained. -/
theorem readyReached_ready (hmode : s.pwr.mode = .castOn) :
    (setMode .ready 4 0 0xFF (readied env s)).pwr.mode = .ready ∧ (setMode .ready 4 0 0xFF (readied env s)).pwr.faultN = false ∧
      (setMode .ready 4 0 0xFF (readied env s)).boot.wdAt = none ∧ (setMode .ready 4 0 0xFF (readied env s)).boot.step = 7 ∧
      (setMode .ready 4 0 0xFF (readied env s)).boot.record = [] := by
  have hold : (readied env s).pwr.mode = .castOn := (congrArg PowerUnit.mode (prepared_pwr env s)).trans hmode
  obtain ⟨u, hboot, hu⟩ := setMode_ready_castOn (cause := 4) (sh := 0) (port := 0xFF) hold
  obtain ⟨hwd, hstep, hrecord⟩ := trialCommit_keeps u
  rw [hboot, readied, withPwr_boot, withBoot_boot] at hwd hstep hrecord
  refine ⟨by rw [setMode_pwr], by rw [setMode_pwr, readied, withPwr_pwr], ?_⟩
  rw [hu]
  exact ⟨hwd, hstep, hrecord⟩

end

/-! ### CAST_ON and FW_STAGE (R629, R651) -/

section
variable {c : Cmd} {s : State} {f : FwFile}

theorem opCastOn_restarts (h : s.pwr.mode = .maintenance ∨ (c.port ≠ .maint ∧ (s.pwr.mode = .ready ∨ s.pwr.mode = .safeHold))) :
    opCastOn c s = (withBoot s { s.boot with restartAt := some (Nat.max 1 (t2Ns s)) }, .ok []) := by
  have hmode : (!(s.pwr.mode == .maintenance || (c.port != .maint && (s.pwr.mode == .ready || s.pwr.mode == .safeHold)))) = false := by
    rcases h with h | ⟨hport, h | h⟩
    · simp [h]
    · simp [h, hport]
    · simp [h, hport]
  rw [opCastOn, hmode]
  rfl

theorem opCastOn_wrongMode (hmaint : s.pwr.mode ≠ .maintenance) (hready : s.pwr.mode ≠ .ready) (hhold : s.pwr.mode ≠ .safeHold) :
    opCastOn c s = (s, .no 6 0) := by
  have hmode : (!(s.pwr.mode == .maintenance || (c.port != .maint && (s.pwr.mode == .ready || s.pwr.mode == .safeHold)))) = true := by
    simp [hmaint, hready, hhold]
  rw [opCastOn, hmode]
  rfl

/-- In a mode that stages, a file of no more than 32 MiB is judged by its header. -/
theorem opFwStage_judges (hcard : c.env.card = some f) (hsize : f.size ≤ 33554432)
    (hmode : s.pwr.mode = .ready ∨ s.pwr.mode = .follow ∨ s.pwr.mode = .maintenance ∨ s.pwr.mode = .safeHold) :
    opFwStage c s = match headerBad f with
      | none => (slotWrite (idleSlot s) {} s, .later (idleSlot s) (imageArgs (imageOf f)))
      | some n => (s, badRecord n) := by
  have hstages : (!(s.pwr.mode == .ready || s.pwr.mode == .follow || s.pwr.mode == .maintenance || s.pwr.mode == .safeHold)) = false := by
    rcases hmode with h | h | h | h <;> simp [h]
  simp only [opFwStage, hcard, checked_cons, checked_nil, hstages, Nat.not_lt.mpr hsize, decide_false]
  cases headerBad f <;> rfl

end

/-! ### FW_STAGE_END (R651) -/

section
variable {s : State} {o : Outst} (ho : outstOf 0x0A00 s = some o)

/-- The boot unit as a staging leaves it. -/
def stagedBoot (o : Outst) (s : State) : Boot :=
  indWrite { indGet (slotWrite o.target (imageFrom o.arg) s).boot with active := o.target, trial := true, fails := 0, prevOk := true }
    (slotWrite o.target (imageFrom o.arg) s).boot

include ho in
theorem stageEnd_failed : stageEnd false s = completeOutst o 11 0 [] s := by
  rw [stageEnd, ho]
  rfl

include ho in
theorem stageEnd_done : stageEnd true s = raise 0x58 (fwWords 6 o.target 0 0 (stagedBoot o s))
    (completeOutst o 0 0 [] (withBoot (slotWrite o.target (imageFrom o.arg) s) (stagedBoot o s))) := by
  rw [stageEnd, ho]
  rfl

theorem slotWrite_inds (n : Nat) (x : SlotImage) (s : State) :
    (slotWrite n x s).boot.ind0 = s.boot.ind0 ∧ (slotWrite n x s).boot.ind1 = s.boot.ind1 := by
  unfold slotWrite
  split <;> exact ⟨rfl, rfl⟩

theorem indGet_slotWrite (n : Nat) (x : SlotImage) (s : State) : indGet (slotWrite n x s).boot = indGet s.boot := by
  obtain ⟨hfirst, hsecond⟩ := slotWrite_inds n x s
  simp only [indGet, indCopy, hfirst, hsecond]

theorem slotOfBoot_slotWrite (n : Nat) (x : SlotImage) (s : State) : slotOfBoot (slotWrite n x s).boot n = x := by
  by_cases h : n = 0 <;> simp [slotOfBoot, slotWrite, h]

theorem slotOfBoot_slotWrite_other {n : Nat} (hn : n < 2) (x : SlotImage) (s : State) :
    slotOfBoot (slotWrite n x s).boot (1 - n) = slotOfBoot s.boot (1 - n) := by
  have hcase : n = 0 ∨ n = 1 := by omega
  rcases hcase with rfl | rfl <;> rfl

/-- The indicator names the image for a trial in the copy that is updated; the other copy stays. -/
theorem stagedBoot_first (h : s.boot.ind0.valid = false ∨ (s.boot.ind1.valid = true ∧ s.boot.ind0.seq.toNat < s.boot.ind1.seq.toNat)) :
    (stagedBoot o s).ind1 = s.boot.ind1 ∧ (stagedBoot o s).ind0 =
      { active := o.target, trial := true, fails := 0, prevOk := true, valid := true, seq := (indGet s.boot).seq + 1 } := by
  obtain ⟨hfirst, hsecond⟩ := slotWrite_inds o.target (imageFrom o.arg) s
  rw [stagedBoot, indWrite_first _ (by rwa [hfirst, hsecond]), ← indGet_slotWrite o.target (imageFrom o.arg) s]
  exact ⟨hsecond, rfl⟩

theorem stagedBoot_second (h : s.boot.ind0.valid = true ∧ (s.boot.ind1.valid = false ∨ s.boot.ind1.seq.toNat ≤ s.boot.ind0.seq.toNat)) :
    (stagedBoot o s).ind0 = s.boot.ind0 ∧ (stagedBoot o s).ind1 =
      { active := o.target, trial := true, fails := 0, prevOk := true, valid := true, seq := (indGet s.boot).seq + 1 } := by
  obtain ⟨hfirst, hsecond⟩ := slotWrite_inds o.target (imageFrom o.arg) s
  rw [stagedBoot, indWrite_second _ (by rwa [hfirst, hsecond]), ← indGet_slotWrite o.target (imageFrom o.arg) s]
  exact ⟨hfirst, rfl⟩

end

/-! ### FW_IDENT and DEVICE_STATUS (R543, R655) -/

theorem b1_lt (b : Bool) : b1 b < 2 := by cases b <;> decide

theorem bitOf_eq_decide (w : W32) (i : Nat) : bitOf w i = decide (w.toNat / 2 ^ i % 2 = 1) := Nat.testBit_eq_decide_div_mod_eq

theorem decide_b1 (b : Bool) : decide (b1 b = 1) = b := by cases b <;> rfl

theorem modeNum_lt (m : Mode) : modeNum m < 16 := by cases m <;> decide

theorem powerNum_lt (p : PowerState) : powerNum p < 8 := by cases p <;> decide

theorem t0Num_lt (t : T0State) : t0Num t < 4 := by cases t <;> decide

/-- A packed word by the values of its fields. -/
theorem toNat_pack (fs : List (Nat × Nat × Nat)) : (pack fs).toNat = (fs.map fun f => put f.1 f.2.1 f.2.2).sum % 4294967296 := by
  rw [pack, BitVec.toNat_ofNat, List.sum_eq_foldl, List.foldl_map]

theorem put_eq {hi lo v a b : Nat} (ha : 2 ^ (hi + 1 - lo) = a) (hb : 2 ^ lo = b) : put hi lo v = v % a * b := by rw [put, ha, hb]

/-- Table 16-6, W6. The fields are rewritten one by one: `simp` on their sum leaves the kernel a check that recurs on `2 ^ 31`. -/
theorem fwIdent_first_word (run path fails key : Nat) (trial : Bool) {w : W32}
    (hw : w = pack [(31, 31, run), (30, 30, b1 trial), (29, 28, path), (27, 26, fails), (25, 24, key)]) :
    bitOf w 30 = trial ∧ fld w 29 28 = path % 4 := by
  have htrial := b1_lt trial
  have hrunField : put 31 31 run = run % 2 * 2147483648 := put_eq rfl rfl
  have htrialField : put 30 30 (b1 trial) = b1 trial % 2 * 1073741824 := put_eq rfl rfl
  have hpathField : put 29 28 path = path % 4 * 268435456 := put_eq rfl rfl
  have hfailsField : put 27 26 fails = fails % 4 * 67108864 := put_eq rfl rfl
  have hkeyField : put 25 24 key = key % 4 * 16777216 := put_eq rfl rfl
  have hsum : w.toNat = run % 2 * 2147483648 + b1 trial * 1073741824 + path % 4 * 268435456 + fails % 4 * 67108864 +
      key % 4 * 16777216 := by
    rw [hw, toNat_pack]
    iterate 5 rw [List.map_cons, List.sum_cons]
    rw [List.map_nil, List.sum_nil, hrunField, htrialField, hpathField, hfailsField, hkeyField]
    omega
  refine ⟨?_, ?_⟩
  · rw [bitOf_eq_decide, show w.toNat / 2 ^ 30 % 2 = b1 trial by omega, decide_b1]
  · simp only [fld, fldN]
    omega

/-- Table 13-14, W6. -/
theorem statusWord_fields (s : State) : fld (statusWord s) 31 28 = modeNum s.pwr.mode ∧ fld (statusWord s) 27 25 = powerNum s.pwr.state ∧
    fld (statusWord s) 24 23 = t0Num s.tb.state ∧ bitOf (statusWord s) 21 = s.pair.enabled := by
  have hmode := modeNum_lt s.pwr.mode
  have hpower := powerNum_lt s.pwr.state
  have ht0 := t0Num_lt s.tb.state
  have hpos := b1_lt s.pair.posB
  have henabled := b1_lt s.pair.enabled
  have hsum : (statusWord s).toNat = modeNum s.pwr.mode * 268435456 + powerNum s.pwr.state * 33554432 + t0Num s.tb.state * 8388608 +
      b1 s.pair.posB * 4194304 + b1 s.pair.enabled * 2097152 + satTo 255 (liveCount s) % 256 * 256 := by
    simp only [statusWord, pack, put, List.foldl_cons, List.foldl_nil, BitVec.toNat_ofNat]
    omega
  refine ⟨?_, ?_, ?_, ?_⟩
  · simp only [fld, fldN]
    omega
  · simp only [fld, fldN]
    omega
  · simp only [fld, fldN]
    omega
  · rw [bitOf_eq_decide, show (statusWord s).toNat / 2 ^ 21 % 2 = b1 s.pair.enabled by omega, decide_b1]

/-- The lid's and the junction's temperature share a word. -/
theorem fld_two_halves (a b : W16) : fld (pack [(31, 16, a.toNat), (15, 0, b.toNat)]) 15 0 = b.toNat := by
  have ha := a.isLt
  have hb := b.isLt
  simp only [fld, fldN, pack, put, List.foldl_cons, List.foldl_nil, BitVec.toNat_ofNat]
  omega

theorem takeCmd_maintLost (c : Cmd) (s : State) : (takeCmd c s).hif.maintLost = s.hif.maintLost := by
  obtain ⟨a, b, h⟩ := takeCmd_rings c s
  rw [h]
  rfl

theorem opFwIdent_words (c : Cmd) (s : State) : ∃ ws, opFwIdent c s = (s, .ok ws) ∧ ws.length = 9 ∧ wd ws 1 = s.boot.fwVersion ∧
    wd ws 2 = (slotOfBoot s.boot s.boot.running).build ∧ bitOf (wd ws 0) 30 = (indGet s.boot).trial ∧
    fld (wd ws 0) 29 28 = s.boot.startPath % 4 :=
  ⟨_, rfl, rfl, rfl, rfl, fwIdent_first_word _ _ _ _ _ rfl⟩

theorem opDeviceStatus_words (c : Cmd) (s : State) : ∃ ws, opDeviceStatus c s = (s, .ok ws) ∧ ws.length = 7 ∧
    fld (wd ws 0) 31 28 = modeNum s.pwr.mode ∧ fld (wd ws 0) 27 25 = powerNum s.pwr.state ∧ fld (wd ws 0) 24 23 = t0Num s.tb.state ∧
    bitOf (wd ws 0) 21 = s.pair.enabled ∧ fld (wd ws 2) 15 0 = s.pwr.junctionTemp.toNat ∧ wd ws 6 = w32 s.hif.maintLost := by
  obtain ⟨hmode, hpower, ht0, henabled⟩ := statusWord_fields s
  exact ⟨_, rfl, rfl, hmode, hpower, ht0, henabled, fld_two_halves _ _, rfl⟩

/-! ### The obligation -/

/-- Settles O38: each row by its own equation, and the words of the two identities by their sums. -/
theorem castOnStagingAndIdentity : Obligations.CastOnStagingAndIdentity := by
  refine ⟨fun s => ⟨_, rfl, rfl, rfl, rfl, rfl, rfl, rfl, rfl, rfl, rfl, rfl⟩,
    fun b n env s h0 h1 huart hactive hn hok htrial hflag hfails => ?starts,
    fun b env s h0 h1 h hflag => ?recovers, fun env s => ⟨fun h => congrArg Host.Outcome.next (resetRelease_high h),
      fun h => congrArg Host.Outcome.next (resetRelease_low h)⟩, fun env s => ?dues, fun env s hmode hstep hrestart => ?ready,
    fun env s h => congrArg Host.Outcome.next (readyReached_stays h), fun c s u hu h => ?castOn, fun c s u f hu h hcard hsize hmode => ?stage,
    fun s o ho => ⟨congrArg Host.Outcome.next (stageEnd_failed ho), fun htarget => ?stageEnd⟩, fun c s u hu => ?identity⟩
  case starts =>
    subst hactive
    have hslots : slotOfBoot (flashOf env b) (indGet b).active = slotOfBoot b (indGet b).active := by simp only [flashOf, h0, h1]; rfl
    obtain ⟨log, hlog⟩ := chooseSlot_active (b := flashOf env b) huart (hslots ▸ hok) htrial hflag hfails
    rw [castOnFrom_starts s hlog]
    refine ⟨_, rfl, rfl, rfl, rfl, congrArg SlotImage.version hslots, rfl, ?_, ?_, rfl, rfl, rfl, rfl, rfl, rfl, rfl, rfl, rfl⟩
    · simp only [started, blank, startedBoot, chosenBoot, flashOf, h0]
    · simp only [started, blank, startedBoot, chosenBoot, flashOf, h1]
  case recovers =>
    rw [castOnFrom_recovers s (chooseSlot_none (b := flashOf env b) h hflag)]
    exact ⟨rfl, rfl⟩
  case dues =>
    exact ⟨fun t h ht => congrArg Host.Outcome.next (watchdogExpiry_due h ht),
      fun t h ht => congrArg Host.Outcome.next (watchdogExpiry_early h ht),
      fun h => congrArg Host.Outcome.next (watchdogExpiry_stopped h),
      fun t h hpos ht => congrArg Host.Outcome.next (castOnRestart_early h hpos ht),
      fun t h ht => congrArg Host.Outcome.next (castOnRestart_due h ht), fun h => congrArg Host.Outcome.next (castOnRestart_none h)⟩
  case ready =>
    obtain ⟨u, hmc, hhbm, htb, hscan, hagree⟩ := readied_agree env s
    have hmem := hagree.mem.resolve_left (by decide)
    obtain ⟨hready, hfault, hwd, hseven, hrecord⟩ := readyReached_ready (env := env) hmode
    refine ⟨_, congrArg Host.Outcome.next (readyReached_enters hmode hstep hrestart), hready, hfault, hwd, hseven, hrecord,
      (congrArg MemState.mcState hmem).trans hmc, (congrArg MemState.hbm hmem).trans hhbm,
      (hagree.tb.resolve_left (by decide)).trans htb, (hagree.scan.resolve_left (by decide)).trans hscan, fun i hi hfailed => ?_⟩
    rw [(setMode_agree ..).laneGet rfl]
    exact readied_cal hi hfailed
  case castOn =>
    subst hu
    refine ⟨fun hmode => congrArg Host.Outcome.next (hostCommand_answers h ?_), fun hmaint hready hhold =>
      congrArg Host.Outcome.next (hostCommand_answers h (opCastOn_wrongMode ?_ ?_ ?_))⟩
    · rw [opCastOn_restarts (by rwa [takeCmd_pwr]), t2Ns_takeCmd]
    all_goals rwa [takeCmd_pwr]
  case stage =>
    subst hu
    have hidle : idleSlot (takeCmd c s) = idleSlot s := by simp only [idleSlot, takeCmd_boot]
    have hjudged := opFwStage_judges (s := takeCmd c s) hcard hsize (by rwa [takeCmd_pwr])
    rw [hidle] at hjudged
    refine ⟨fun hgood => congrArg Host.Outcome.next (hostCommand_answers h (hjudged.trans ?_)),
      fun n hbad => congrArg Host.Outcome.next (hostCommand_answers h (hjudged.trans ?_))⟩
    · rw [hgood]
    · rw [hbad]
  case stageEnd =>
    have hboot : (raise 0x58 (fwWords 6 o.target 0 0 (stagedBoot o s))
        (completeOutst o 0 0 [] (withBoot (slotWrite o.target (imageFrom o.arg) s) (stagedBoot o s)))).boot = stagedBoot o s := by simp
    refine ⟨_, congrArg Host.Outcome.next (stageEnd_done ho), ?_, ?_, ?_, ?_, _, hboot, stagedBoot_first, stagedBoot_second⟩
    · rw [hboot, stagedBoot, slotOfBoot_indWrite, slotOfBoot_slotWrite]
    · rw [hboot, stagedBoot, slotOfBoot_indWrite, slotOfBoot_slotWrite_other htarget]
    · simp [slotWrite]
    · simp [slotWrite]
  case identity =>
    subst hu
    refine ⟨fun h => ?_, fun h => ?_⟩
    · obtain ⟨ws, hws, hfields⟩ := opFwIdent_words c (takeCmd c s)
      rw [takeCmd_boot] at hfields
      exact ⟨ws, congrArg Host.Outcome.next (hostCommand_answers h hws), hfields⟩
    · obtain ⟨ws, hws, hfields⟩ := opDeviceStatus_words c (takeCmd c s)
      rw [takeCmd_pwr, takeCmd_tb, takeCmd_pair, takeCmd_maintLost] at hfields
      exact ⟨ws, congrArg Host.Outcome.next (hostCommand_answers h hws), hfields⟩

end Sys2Proof.Machine
end

section
/-! SUPPORT. The stack's memory: the address-map orders never coincide, and what a request writes and reads; the obligations about them. -/

namespace Sys2Proof.Machine

/-! ### The lowest set bits of a mask -/

/-- The search from bit `i` finds the set bit below which, from bit 0, as many bits are set as below `i` and `k` more. -/
theorem nthBit_spec {mask : W32} {fuel i k : Nat} (h : popBits i mask + k < popBits (i + fuel) mask) :
    bitOf mask (nthBit mask fuel i k) = true ∧ nthBit mask fuel i k < i + fuel ∧
      popBits (nthBit mask fuel i k) mask = popBits i mask + k := by
  induction fuel generalizing i k with
  | zero => exact absurd h (by simp)
  | succ fuel ih =>
    rw [show i + (fuel + 1) = i + 1 + fuel by omega] at h ⊢
    have hstep : popBits (i + 1) mask = popBits i mask + b1 (bitOf mask i) := rfl
    unfold nthBit
    by_cases hbit : bitOf mask i = true
    · rw [hbit] at hstep
      rw [if_pos hbit]
      cases k with
      | zero => exact ⟨hbit, by simp; omega, rfl⟩
      | succ k =>
        obtain ⟨hset, hlt, hpop⟩ := ih (i := i + 1) (k := k) (by rw [hstep]; simp [b1]; omega)
        exact ⟨hset, hlt, hpop.trans (by rw [hstep]; simp [b1]; omega)⟩
    · rw [if_neg hbit]
      rw [Bool.not_eq_true] at hbit
      rw [hbit] at hstep
      obtain ⟨hset, hlt, hpop⟩ := ih (i := i + 1) (k := k) (by rw [hstep]; simpa [b1] using h)
      exact ⟨hset, hlt, hpop.trans (by rw [hstep]; simp [b1])⟩

/-- The pseudo-channel of a window's `k`-th share. -/
theorem nthBit_channel {w : MemWindow} {k : Nat} (h : k < winChannels w) :
    bitOf w.mask (nthBit w.mask 32 0 k) = true ∧ nthBit w.mask 32 0 k < 32 ∧ popBits (nthBit w.mask 32 0 k) w.mask = k := by
  simpa [popBits] using nthBit_spec (mask := w.mask) (fuel := 32) (i := 0) (k := k) (by simpa [popBits, winChannels] using h)

/-! ### The address-map orders (R567) -/

/-- A number is told from its high bits and its low bits exclusive-ored with a known number. -/
theorem eq_of_xor_mod {n v v' : Nat} (c : Nat) (hhigh : v / 2 ^ n = v' / 2 ^ n) (hlow : (v ^^^ c) % 2 ^ n = (v' ^^^ c) % 2 ^ n) :
    v = v' := by
  rw [Nat.xor_mod_two_pow, Nat.xor_mod_two_pow] at hlow
  have hmod : v % 2 ^ n = v' % 2 ^ n := Nat.xor_right_injective (x := c % 2 ^ n) (by simpa [Nat.xor_comm] using hlow)
  rw [← Nat.div_add_mod v (2 ^ n), ← Nat.div_add_mod v' (2 ^ n), hhigh, hmod]

/-- A window that keeps the rules of R563 and R564 for itself: its rows exist, and only order 3 leaves pseudo-channels out. -/
def MemWindow.Fits (w : MemWindow) : Prop := w.rowBase + w.rowCount ≤ 12288 ∧ (w.order = 3 ∨ w.mask = 0xFFFFFFFF)

/-- A device address lies in a window. -/
def MemWindow.Holds (w : MemWindow) (a : Nat) : Prop := winBase w ≤ a ∧ a < winBase w + winSize w

theorem MemWindow.Holds.offset_lt {w : MemWindow} {a : Nat} (h : w.Holds a) : a - winBase w < winSize w := by
  obtain ⟨hle, hlt⟩ := h
  omega

theorem winChannels_full {w : MemWindow} (h : w.mask = 0xFFFFFFFF) : winChannels w = 32 := by
  rw [winChannels, h]
  decide

theorem mapOrder_zero {w : MemWindow} (h : w.order = 0) (o : Nat) : mapOrder w o =
    ((o / 1024 ^^^ (o / 1024 / 32) ^^^ (o / 1024 / 1024)) % 32, (o / 1024 / 32 ^^^ (o / 1024 / 32 / 64)) % 64,
      w.rowBase + o / 1024 / 32 / 64, o / 32 % 32) := by
  simp only [mapOrder, h]

theorem mapOrder_one {w : MemWindow} (h : w.order = 1) (o : Nat) : mapOrder w o =
    ((o / 1024 / 4) % 32, (o / 1024 / 128 ^^^ (o / 1024 / 128 / 16)) % 16 * 4 + o / 1024 % 4,
      w.rowBase + o / 1024 / 128 / 16, o / 32 % 32) := by
  simp only [mapOrder, h]

theorem mapOrder_two {w : MemWindow} (h : w.order = 2) (o : Nat) : mapOrder w o =
    ((o / 256 ^^^ (o / 256 / 32)) % 32, (o / 256 / 32 / 4 ^^^ (o / 256 / 32 / 4 / 64)) % 64,
      w.rowBase + o / 256 / 32 / 4 / 64, 8 * (o / 256 / 32 % 4) + o / 32 % 8) := by
  simp only [mapOrder, h]

theorem mapOrder_three {w : MemWindow} (h : 3 ≤ w.order) (o : Nat) : mapOrder w o =
    (nthBit w.mask 32 0 (o / 1024 % winChannels w), (o / 1024 / winChannels w ^^^ (o / 1024 / winChannels w / 64)) % 64,
      w.rowBase + o / 1024 / winChannels w / 64, o / 32 % 32) := by
  obtain ⟨n, hn⟩ : ∃ n, w.order = n + 3 := ⟨w.order - 3, by omega⟩
  simp only [mapOrder, hn]

/-- Where an offset of a window lies: in one of the window's pseudo-channels and rows. -/
structure Placed (w : MemWindow) (p : Nat × Nat × Nat × Nat) : Prop where
  channel : bitOf w.mask p.1 = true
  channel_lt : p.1 < 32
  bank : p.2.1 < 64
  row_ge : w.rowBase ≤ p.2.2.1
  row_lt : p.2.2.1 < w.rowBase + w.rowCount
  column : p.2.2.2 < 32

theorem bitOf_full {i : Nat} (h : i < 32) : bitOf 0xFFFFFFFF i = true := by
  show (BitVec.allOnes 32).getLsbD i = true
  rw [BitVec.getLsbD_allOnes, decide_eq_true h]

theorem mapOrder_placed {w : MemWindow} {o : Nat} (hw : w.Fits) (ho : o < winSize w) : Placed w (mapOrder w o) := by
  obtain ⟨-, hmask⟩ := hw
  by_cases hthree : 3 ≤ w.order
  case pos =>
    rw [mapOrder_three hthree]
    have hsize : o / 1024 < w.rowCount * 64 * winChannels w := by
      rw [Nat.div_lt_iff_lt_mul (by decide)]
      calc o < winSize w := ho
        _ = _ := by unfold winSize; ring
    have hk : 0 < winChannels w := Nat.pos_of_ne_zero fun h => by simp [h] at hsize
    obtain ⟨hset, hlt, -⟩ := nthBit_channel (Nat.mod_lt (o / 1024) hk)
    have hv : o / 1024 / winChannels w < w.rowCount * 64 := Nat.div_lt_of_lt_mul (by rwa [Nat.mul_comm])
    exact ⟨hset, hlt, Nat.mod_lt _ (by decide), Nat.le_add_right .., by dsimp only; omega, Nat.mod_lt _ (by decide)⟩
  case neg =>
    replace hmask := hmask.resolve_left (by omega)
    rw [winSize, winChannels_full hmask] at ho
    obtain h | h | h : w.order = 0 ∨ w.order = 1 ∨ w.order = 2 := by omega
    · rw [mapOrder_zero h]
      refine ⟨hmask ▸ bitOf_full (Nat.mod_lt _ (by decide)), ?_, ?_, ?_, ?_, ?_⟩ <;> dsimp only <;> omega
    · rw [mapOrder_one h]
      refine ⟨hmask ▸ bitOf_full (Nat.mod_lt _ (by decide)), ?_, ?_, ?_, ?_, ?_⟩ <;> dsimp only <;> omega
    · rw [mapOrder_two h]
      refine ⟨hmask ▸ bitOf_full (Nat.mod_lt _ (by decide)), ?_, ?_, ?_, ?_, ?_⟩ <;> dsimp only <;> omega

theorem mapOrder_inj {w : MemWindow} {o o' : Nat} (ho : o < winSize w)
    (h : mapOrder w o = mapOrder w o') (hbyte : o % 32 = o' % 32) : o = o' := by
  by_cases hthree : 3 ≤ w.order
  case pos =>
    have hk : 0 < winChannels w := Nat.pos_of_ne_zero fun h => by simp [winSize, h] at ho
    rw [mapOrder_three hthree, mapOrder_three hthree] at h
    simp only [Prod.mk.injEq] at h
    obtain ⟨hpc, hbank, hrow, hcol⟩ := h
    obtain ⟨-, -, hpop⟩ := nthBit_channel (Nat.mod_lt (o / 1024) hk)
    obtain ⟨-, -, hpop'⟩ := nthBit_channel (Nat.mod_lt (o' / 1024) hk)
    have hshare : o / 1024 % winChannels w = o' / 1024 % winChannels w := by rw [← hpop, hpc, hpop']
    replace hrow : o / 1024 / winChannels w / 64 = o' / 1024 / winChannels w / 64 := by omega
    have hv := eq_of_xor_mod (n := 6) _ hrow (by rwa [hrow] at hbank)
    have hu : o / 1024 = o' / 1024 := by
      rw [← Nat.div_add_mod (o / 1024) (winChannels w), hv, hshare, Nat.div_add_mod]
    omega
  case neg =>
    obtain hord | hord | hord : w.order = 0 ∨ w.order = 1 ∨ w.order = 2 := by omega
    · rw [mapOrder_zero hord, mapOrder_zero hord] at h
      simp only [Prod.mk.injEq] at h
      obtain ⟨hpc, hbank, hrow, hcol⟩ := h
      replace hrow : o / 1024 / 32 / 64 = o' / 1024 / 32 / 64 := by omega
      have hv := eq_of_xor_mod (n := 6) _ hrow (by rwa [hrow] at hbank)
      have hhigh : o / 1024 / 1024 = o' / 1024 / 1024 := by omega
      rw [Nat.xor_assoc, Nat.xor_assoc, hv, hhigh] at hpc
      have hu := eq_of_xor_mod (n := 5) _ hv hpc
      omega
    · rw [mapOrder_one hord, mapOrder_one hord] at h
      simp only [Prod.mk.injEq] at h
      obtain ⟨hpc, hbank, hrow, hcol⟩ := h
      replace hrow : o / 1024 / 128 / 16 = o' / 1024 / 128 / 16 := by omega
      have hv := eq_of_xor_mod (n := 4) (o' / 1024 / 128 / 16) hrow (by rw [hrow] at hbank; norm_num only; omega)
      omega
    · rw [mapOrder_two hord, mapOrder_two hord] at h
      simp only [Prod.mk.injEq] at h
      obtain ⟨hpc, hbank, hrow, hcol⟩ := h
      replace hrow : o / 256 / 32 / 4 / 64 = o' / 256 / 32 / 4 / 64 := by omega
      have hv := eq_of_xor_mod (n := 6) _ hrow (by rwa [hrow] at hbank)
      have hx : o / 256 / 32 = o' / 256 / 32 := by omega
      rw [hx] at hpc
      have hg := eq_of_xor_mod (n := 5) _ hx hpc
      omega

/-- The last digit of a number, and the digits before it, are told from the number. -/
theorem digits_inj {n a r a' r' : Nat} (hr : r < n) (hr' : r' < n) (h : a * n + r = a' * n + r') : a = a' ∧ r = r' := by
  have split {b t : Nat} (ht : t < n) : (b * n + t) / n = b ∧ (b * n + t) % n = t :=
    (Nat.div_mod_unique (Nat.zero_lt_of_lt ht)).2 ⟨by ring, ht⟩
  obtain ⟨hdiv, hmod⟩ := split (b := a) hr
  obtain ⟨hdiv', hmod'⟩ := split (b := a') hr'
  exact ⟨by rw [← hdiv, h, hdiv'], by rw [← hmod, h, hmod']⟩

/-- A physical index spells its pseudo-channel, bank, row, column and byte. -/
theorem physIndex_inj {pc bk row col byte pc' bk' row' col' byte' : Nat} (hbk : bk < 64) (hrow : row < 12288) (hcol : col < 32)
    (hbyte : byte < 32) (hbk' : bk' < 64) (hrow' : row' < 12288) (hcol' : col' < 32) (hbyte' : byte' < 32)
    (h : ((pc * 64 + bk) * 12288 + row) * 1024 + col * 32 + byte = ((pc' * 64 + bk') * 12288 + row') * 1024 + col' * 32 + byte') :
    (pc, bk, row, col) = (pc', bk', row', col') ∧ byte = byte' := by
  obtain ⟨hrows, hlow⟩ := digits_inj (n := 1024) (r := col * 32 + byte) (r' := col' * 32 + byte') (by omega) (by omega)
    (by rwa [← Nat.add_assoc, ← Nat.add_assoc])
  obtain ⟨rfl, rfl⟩ := digits_inj hbyte hbyte' hlow
  obtain ⟨hbanks, rfl⟩ := digits_inj hrow hrow' hrows
  obtain ⟨rfl, rfl⟩ := digits_inj hbk hbk' hbanks
  exact ⟨rfl, rfl⟩

theorem physOf_eq (w : MemWindow) (a : Nat) : physOf w a =
    (((mapOrder w (a - winBase w)).1 * 64 + (mapOrder w (a - winBase w)).2.1) * 12288 + (mapOrder w (a - winBase w)).2.2.1) * 1024 +
      (mapOrder w (a - winBase w)).2.2.2 * 32 + (a - winBase w) % 32 := by
  unfold physOf
  rfl

theorem physOf_spells {x y : MemWindow} {a b : Nat} (hx : x.Fits) (hy : y.Fits) (ha : x.Holds a) (hb : y.Holds b)
    (h : physOf x a = physOf y b) :
    mapOrder x (a - winBase x) = mapOrder y (b - winBase y) ∧ (a - winBase x) % 32 = (b - winBase y) % 32 := by
  have hp := mapOrder_placed hx ha.offset_lt
  have hq := mapOrder_placed hy hb.offset_lt
  rw [physOf_eq, physOf_eq] at h
  exact physIndex_inj hp.bank (hp.row_lt.trans_le hx.1) hp.column (Nat.mod_lt _ (by decide)) hq.bank (hq.row_lt.trans_le hy.1) hq.column
    (Nat.mod_lt _ (by decide)) h

/-- Within one window no two addresses share a byte. -/
theorem physOf_inj {w : MemWindow} {a b : Nat} (hw : w.Fits) (ha : w.Holds a) (hb : w.Holds b) (h : physOf w a = physOf w b) : a = b := by
  obtain ⟨hmap, hbyte⟩ := physOf_spells hw hw ha hb h
  have hoffset := mapOrder_inj ha.offset_lt hmap hbyte
  obtain ⟨hle, -⟩ := ha
  obtain ⟨hle', -⟩ := hb
  omega

/-- Two windows that do not clash share no byte. -/
theorem physOf_ne_of_no_clash {x y : MemWindow} {a b : Nat} (hx : x.Fits) (hy : y.Fits) (ha : x.Holds a) (hb : y.Holds b)
    (h : winClash x y = false) : physOf x a ≠ physOf y b := by
  intro hphys
  obtain ⟨hmap, -⟩ := physOf_spells hx hy ha hb hphys
  have hp := mapOrder_placed hx ha.offset_lt
  have hq := mapOrder_placed hy hb.offset_lt
  rw [← hmap] at hq
  generalize mapOrder x (a - winBase x) = p at hp hq
  have hmeet : rangesMeet x.rowBase x.rowCount y.rowBase y.rowCount = true := by
    have := hp.row_ge; have := hp.row_lt; have := hq.row_ge; have := hq.row_lt
    simp only [rangesMeet, Bool.and_eq_true, bne_iff_ne, decide_eq_true_eq]
    omega
  have hmask : x.mask &&& y.mask ≠ 0 := by
    intro hzero
    have hboth : bitOf (x.mask &&& y.mask) p.1 = true := by rw [bitOf_and, hp.channel, hq.channel]; rfl
    rw [hzero] at hboth
    simp [bitOf] at hboth
  simp only [winClash, hmeet, Bool.true_and, Bool.or_eq_false_iff, bne_eq_false_iff_eq] at h
  exact hmask h.2

/-- Settles O26: within a window the map of its order is injective, and two windows that are both enabled share no row of a pseudo-channel. -/
theorem enabledWindowsNeverAlias : Obligations.EnabledWindowsNeverAlias := by
  unfold Obligations.EnabledWindowsNeverAlias
  rintro ws i j a b x y ⟨hfits, hclash⟩ hi hj rfl rfl hx hy hxa hax hyb hby hne
  by_cases hij : i = j
  · subst hij
    exact fun h => hne (physOf_inj (hfits i hi hx) ⟨hxa, hax⟩ ⟨hyb, hby⟩ h)
  · exact physOf_ne_of_no_clash (hfits i hi hx) (hfits j hj hy) ⟨hxa, hax⟩ ⟨hyb, hby⟩ (hclash i j hi hj hij hx hy)


/-! ### The stack's bytes -/

/-- Below the first listed address every byte reads 0. -/
theorem memGet_below {lo k : Nat} {m : List Host.Cell} (h : memAbove lo m = true) (hk : k < lo) : memGet m k = 0 := by
  induction m generalizing lo with
  | nil => rfl
  | cons e m ih =>
    obtain ⟨a, b⟩ := e
    simp only [memAbove, Bool.and_eq_true, decide_eq_true_eq] at h
    obtain ⟨⟨hlo, -⟩, hrest⟩ := h
    rw [memGet, if_neg (by omega), ih hrest (by omega)]

/-- A byte listed before others, or left out as a zero, where it read 0 so far. -/
theorem memGet_listed {m : List Host.Cell} {k : Nat} (h : memGet m k = 0) (v : Byte) (j : Nat) :
    memGet (if v = 0 then m else (k, v) :: m) j = if j = k then v else memGet m j := by
  split
  · next hv =>
    split
    · next hj => rw [hj, h, hv]
    · rfl
  · rfl

theorem memGet_memSet {lo : Nat} {m : List Host.Cell} (h : memAbove lo m = true) (k : Nat) (v : Byte) (j : Nat) :
    memGet (memSet k v m) j = if j = k then v else memGet m j := by
  induction m generalizing lo with
  | nil => exact memGet_listed rfl v j
  | cons e m ih =>
    obtain ⟨a, b⟩ := e
    simp only [memAbove, Bool.and_eq_true] at h
    obtain ⟨-, hrest⟩ := h
    unfold memSet
    obtain hk | rfl | hk := Nat.lt_trichotomy k a
    · rw [if_pos hk]
      exact memGet_listed (by rw [memGet, if_neg (Nat.ne_of_lt hk), memGet_below hrest (by omega)]) v j
    · rw [if_neg (Nat.lt_irrefl k), if_pos rfl, memGet_listed (memGet_below hrest (by omega)), memGet]
      split <;> rfl
    · rw [if_neg (by omega), if_neg (by omega), memGet, ih hrest, memGet]
      by_cases hj : j = a
      · simp [hj, Nat.ne_of_lt hk]
      · simp [hj]

/-- A byte that no write names stays. -/
theorem memGet_memSetAll_other {l : List (Nat × Byte)} {m : List Host.Cell} {j : Nat} (h : Memory.wf m = true)
    (hj : ∀ e ∈ l, e.1 ≠ j) : memGet (memSetAll l m) j = memGet m j := by
  induction l generalizing m with
  | nil => rfl
  | cons e l ih =>
    refine (ih (memSet_above 0 e.1 e.2 m (Nat.zero_le _) h) fun x hx => hj x (List.mem_cons_of_mem e hx)).trans ?_
    rw [memGet_memSet h, if_neg (hj e List.mem_cons_self).symm]

/-- A byte reads what is written, where all writes of it agree. -/
theorem memGet_memSetAll_written {l : List (Nat × Byte)} {m : List Host.Cell} {j : Nat} {v : Byte} (h : Memory.wf m = true)
    (hj : (j, v) ∈ l) (hall : ∀ e ∈ l, e.1 = j → e.2 = v) : memGet (memSetAll l m) j = v := by
  induction l generalizing m with
  | nil => cases hj
  | cons e l ih =>
    have hwf := memSet_above 0 e.1 e.2 m (Nat.zero_le _) h
    by_cases hlater : (j, v) ∈ l
    · exact ih hwf hlater fun x hx => hall x (List.mem_cons_of_mem e hx)
    · obtain rfl := (List.mem_cons.mp hj).resolve_right hlater
      refine (memGet_memSetAll_other hwf fun x hx hxj => hlater ?_).trans ?_
      · obtain ⟨k, w⟩ := x
        obtain rfl : k = j := hxj
        rwa [← hall (k, w) (List.mem_cons_of_mem _ hx) rfl]
      · rw [memGet_memSet h, if_pos rfl]

/-! ### Windows and units -/

/-- The window that holds an address is an enabled one of the eight. -/
theorem winOf_some {m : MemState} {a : Nat} {w : MemWindow} (h : winOf m a = some w) :
    ∃ n, n < 8 ∧ w = tget {} m.windows n ∧ w.en = true ∧ w.Holds a := by
  have hin := List.find?_some h
  obtain ⟨n, hn, rfl⟩ := List.mem_map.mp (List.mem_of_find?_eq_some h)
  simp only [Bool.and_eq_true, decide_eq_true_eq] at hin
  obtain ⟨⟨hen, hle⟩, hlt⟩ := hin
  exact ⟨n, List.mem_range.mp hn, rfl, hen, hle, hlt⟩

/-- Windows begin and end at units, so that all bytes of a unit lie in one. -/
theorem winOf_unit (m : MemState) (a : Nat) : winOf m (a / 64 * 64) = winOf m a := by
  have hsize (w : MemWindow) : winSize w = w.rowCount * winChannels w * 1024 * 64 := by unfold winSize; ring
  unfold winOf
  congr 1
  funext w
  have hle : winBase w ≤ a / 64 * 64 ↔ winBase w ≤ a := by unfold winBase; omega
  have hlt : a / 64 * 64 < winBase w + winSize w ↔ a < winBase w + winSize w := by rw [hsize]; unfold winBase; omega
  simp only [hle, hlt]

/-- Two addresses that are mapped by lawful windows are two bytes. -/
theorem physOf_ne_of_winOf {m : MemState} {a b : Nat} {x y : MemWindow} (h : WindowsLawful m.windows) (hx : winOf m a = some x)
    (hy : winOf m b = some y) (hne : a ≠ b) : physOf x a ≠ physOf y b := by
  obtain ⟨i, hi, hxi, hxen, hxa, hax⟩ := winOf_some hx
  obtain ⟨j, hj, hyj, hyen, hyb, hby⟩ := winOf_some hy
  exact enabledWindowsNeverAlias m.windows i j a b x y h hi hj hxi hyj hxen hyen hxa hax hyb hby hne

theorem winOf_congr {m m' : MemState} (h : m'.windows = m.windows) (a : Nat) : winOf m' a = winOf m a := by
  unfold winOf winGet
  rw [h]

/-- A unit that is served lies in a window. -/
theorem winOf_of_served {m : MemState} {init a p : Nat} {write : Bool} (h : unitFate m init a write = .served p) :
    ∃ w, winOf m a = some w := by
  unfold unitFate at h
  cases hw : winOf m a with
  | none => simp [hw] at h
  | some w => exact ⟨w, rfl⟩

/-- Each unit of a request holds one of its bytes. -/
theorem mem_unitsOf {a n x : Nat} (hn : 0 < n) (h : x ∈ unitsOf a n) : ∃ i, i < n ∧ x = (a + i) / 64 * 64 := by
  obtain ⟨k, hk, rfl⟩ := List.mem_map.mp h
  rw [List.mem_range] at hk
  by_cases hfirst : k = 0
  · exact ⟨0, hn, by omega⟩
  · exact ⟨64 * k - a % 64, by omega, by omega⟩

/-! ### Requests (R566, R581) -/

theorem forbiddenUnits_nil_and_unmappedUnits_nil {m : MemState} {init : Nat} {us : List Nat} {write : Bool} :
    (forbiddenUnits m init us write = [] ∧ unmappedUnits m init us write = []) ↔ ∀ x ∈ us, ∃ p, unitFate m init x write = .served p := by
  simp only [forbiddenUnits, unmappedUnits, List.filterMap_eq_nil_iff, List.filter_eq_nil_iff, ← forall_and, beq_iff_eq]
  refine forall_congr' fun x => ?_
  cases unitFate m init x write <;> simp

/-- The block after a request that the memory answers has served it. -/
def requested (port a n : Nat) (hbm : List Host.Cell) (s : State) : State :=
  { s with mem := { s.mem with
      hbm := hbm
      ports := tset port (portIssue (portRefill (portGet s.mem port) (t2Ns s)) (unitsOf a n).length) s.mem.ports } }

theorem request_off {init port a n : Nat} {data : Option (List Byte)} {s : State} (h : memoryOn s = false) : request init port a n data s =
    (true, (List.range n).map fun i => if (a + i) % 2 = 0 then 0xF0 else 0x0F, offBlock init 13 data.isSome true a s) := by
  unfold request
  exact if_pos (by rw [h]; rfl)


/-- A request that the memory answers: its units are judged, a read answers their bytes, a write puts in the bytes of those that are served,
and the others are reported. -/
theorem request_on {init port a n : Nat} {data : Option (List Byte)} {s : State} (h : memoryOn s = true) : request init port a n data s =
    (!((forbiddenUnits s.mem init (unitsOf a n) data.isSome).isEmpty && (unmappedUnits s.mem init (unitsOf a n) data.isSome).isEmpty),
      if data.isSome then [] else readBytes s.mem init a n,
      requestUnmapped init (unmappedUnits s.mem init (unitsOf a n) data.isSome)
        (requestDenied init data.isSome (forbiddenUnits s.mem init (unitsOf a n) data.isSome)
          (requested port a n (match data with | some bs => memSetAll (writeCells s.mem init a bs) s.mem.hbm | none => s.mem.hbm) s))) := by
  unfold request
  exact if_neg (by rw [h]; decide)

/-- A request ends without error where all its units are served. -/
theorem request_error_iff {init port a n : Nat} {data : Option (List Byte)} {s : State} (h : memoryOn s = true) :
    (request init port a n data s).1 = false ↔ ∀ x ∈ unitsOf a n, ∃ p, unitFate s.mem init x data.isSome = .served p := by
  rw [request_on h, ← forbiddenUnits_nil_and_unmappedUnits_nil]
  simp

@[simp] theorem raiseMerged_mem (k : WindowKey) (ws : List W32) (s : State) : (raiseMerged k ws s).mem = s.mem :=
  (raiseMerged_frame k ws s (Agree.refl {} s)).mem.resolve_left Bool.false_ne_true

@[simp] theorem memState_mem (cause pc : Nat) (above : Bool) (addr p3 : Nat) (s : State) :
    (memState cause pc above addr p3 s).mem = s.mem := raise_mem ..

@[simp] theorem requestDenied_hbm (init : Nat) (write : Bool) (fs : List (Nat × Nat)) (s : State) :
    (requestDenied init write fs s).mem.hbm = s.mem.hbm := by
  cases fs with
  | nil => rfl
  | cons f fs => simp [requestDenied]

@[simp] theorem requestUnmapped_hbm (init : Nat) (us : List Nat) (s : State) : (requestUnmapped init us s).mem.hbm = s.mem.hbm := by
  cases us with
  | nil => rfl
  | cons a us => simp [requestUnmapped]

@[simp] theorem offBlock_mem (init domain : Nat) (write memory : Bool) (addr : Nat) (s : State) :
    (offBlock init domain write memory addr s).mem = s.mem :=
  (offBlock_frame init domain write memory addr s (Agree.refl {} s)).mem.resolve_left Bool.false_ne_true

/-- A read changes no byte. -/
theorem request_read_hbm (init port a n : Nat) (s : State) : (request init port a n none s).2.2.mem.hbm = s.mem.hbm := by
  cases h : memoryOn s with
  | false => simp [request_off h]
  | true => simp [request_on h, requested]

/-- A write whose units are all served ends without error, and puts in its bytes. -/
theorem request_write_served {init port a : Nat} {bs : List Byte} {s : State} (hon : memoryOn s = true)
    (h : ∀ x ∈ unitsOf a bs.length, ∃ p, unitFate s.mem init x true = .served p) : request init port a bs.length (some bs) s =
      (false, [], requested port a bs.length (memSetAll (writeCells s.mem init a bs) s.mem.hbm) s) := by
  obtain ⟨hf, hu⟩ := forbiddenUnits_nil_and_unmappedUnits_nil.mpr h
  simp [request_on hon, hf, hu, requestUnmapped, requestDenied]

/-! ### What a write leaves (R566, R581) -/

theorem mem_writeCells {m : MemState} {init a : Nat} {bs : List Byte} {e : Nat × Byte} : e ∈ writeCells m init a bs ↔
    ∃ i, i < bs.length ∧ ∃ w p, unitFate m init ((a + i) / 64 * 64) true = .served p ∧ winOf m (a + i) = some w ∧
      (physOf w (a + i), bs.getD i 0) = e := by
  simp only [writeCells, List.mem_filterMap, List.mem_range]
  refine exists_congr fun i => and_congr_right fun _ => ?_
  cases unitFate m init ((a + i) / 64 * 64) true <;> cases winOf m (a + i) <;> simp

section
variable {m m' : MemState} {init a : Nat} {bs : List Byte} (hwf : Memory.wf m.hbm = true) (hwin : WindowsLawful m.windows)
  (hbytes : m'.hbm = memSetAll (writeCells m init a bs) m.hbm) (hsame : m'.windows = m.windows)
include hwf hwin hbytes hsame

/-- The bytes of a served unit read as they were written. -/
theorem devByte_written {i p : Nat} (hi : i < bs.length) (h : unitFate m init ((a + i) / 64 * 64) true = .served p) :
    devByte m' (a + i) = bs.getD i 0 := by
  obtain ⟨w, hw⟩ := winOf_of_served h
  rw [winOf_unit] at hw
  rw [devByte, winOf_congr hsame, hw, hbytes]
  refine memGet_memSetAll_written hwf (mem_writeCells.mpr ⟨i, hi, w, p, h, hw, rfl⟩) fun e he hphys => ?_
  obtain ⟨j, -, y, q, -, hy, rfl⟩ := mem_writeCells.mp he
  by_cases hij : a + j = a + i
  · rw [Nat.add_left_cancel hij]
  · exact absurd hphys (physOf_ne_of_winOf hwin hy hw hij)

/-- Every address outside the write reads as before. -/
theorem devByte_not_written {b : Nat} (hb : b < a ∨ a + bs.length ≤ b) : devByte m' b = devByte m b := by
  rw [devByte, devByte, winOf_congr hsame]
  cases hw : winOf m b with
  | none => rfl
  | some w =>
    dsimp only
    rw [hbytes]
    refine memGet_memSetAll_other hwf fun e he => ?_
    obtain ⟨i, hi, y, -, -, hy, rfl⟩ := mem_writeCells.mp he
    exact physOf_ne_of_winOf hwin hy hw (by omega)

end

/-- Settles O27: the writes of a request go to bytes that no other device address names. -/
theorem aStackWriteIsReadBack : Obligations.AStackWriteIsReadBack := by
  unfold Obligations.AStackWriteIsReadBack
  refine ⟨fun init port a bs s s1 hgood hon hserved hne hs1 => ?_, request_read_hbm⟩
  have hall : ∀ x ∈ unitsOf a bs.length, ∃ p, unitFate s.mem init x true = .served p := by
    intro x hx
    obtain ⟨i, hi, rfl⟩ := mem_unitsOf (List.length_pos_of_ne_nil hne) hx
    exact hserved i hi
  rw [request_write_served hon hall] at hs1
  subst hs1
  refine ⟨by rw [request_write_served hon hall], memSetAll_wf _ _ hgood.mem, fun i hi => ?_, fun b hb => ?_⟩
  · obtain ⟨p, hp⟩ := hserved i hi
    exact devByte_written (m' := (requested ..).mem) hgood.mem hgood.win rfl rfl hi hp
  · exact devByte_not_written (m' := (requested ..).mem) hgood.mem hgood.win rfl rfl hb

end Sys2Proof.Machine
end

section
/-! SUPPORT. What arrives at the stack and its registers: requests of the ports, windows and rates, and the upkeep of the stack; the
obligations about them. -/

namespace Sys2Proof.Machine

/-! ### MEMORY_REQUEST (R560, R571, R581) -/

/-- A request that no port would make, or one that a stopped port holds back. -/
def RequestWaits (r : MemReq) (s : State) : Prop := requestOk r = false ∨
  (memoryOn s = true ∧ portStalled (portRefill (portGet s.mem r.port) (t2Ns s)) (r.len / 64) = true)

theorem memoryRequest_waits {r : MemReq} {s : State} (h : RequestWaits r s) : memoryRequest r s = s := by
  unfold memoryRequest
  refine if_pos ?_
  rcases h with h | ⟨hon, hstall⟩
  · simp [h]
  · simp [hon, hstall]

theorem memoryRequest_answers {r : MemReq} {s : State} (h : ¬ RequestWaits r s) : memoryRequest r s =
    send (.memReply r.init (request r.init r.port r.addr r.len r.data s).1 (request r.init r.port r.addr r.len r.data s).2.1)
      (request r.init r.port r.addr r.len r.data s).2.2 := by
  unfold memoryRequest
  refine if_neg ?_
  simpa [RequestWaits] using h

/-! ### MC_WINn_CTL and MC_PORTp_RATE (R564, R565, R572) -/

section
variable {n : Nat} {a : RegW} {s : State}

theorem exec_mcWinEnable (hn : n < 8) (h : Writes (0x5020 + 0x10 * n) a s) :
    exec (.mcWinEnable n a) s = .next (winCtlWrite n a.init a.val s) := by
  show Host.Outcome.next (regWrite (0x5020 + 0x10 * (n % 8)) (winCtlInfo (n % 8) s) a (winCtlWrite (n % 8) a.init) s) = _
  rw [Nat.mod_eq_of_lt hn, regWrite_writes _ _ h]

theorem exec_mcPortRateWrite (hn : n < 24) (h : Writes (0x5100 + 0x10 * n) a s) :
    exec (.mcPortRateWrite n a) s = .next (portRateWrite n a.init a.val s) := by
  show Host.Outcome.next (regWrite (0x5100 + 0x10 * (n % 24)) _ a (portRateWrite (n % 24) a.init) s) = _
  rw [Nat.mod_eq_of_lt hn, regWrite_writes _ _ h]

end

section
variable {n init : Nat} {v : W32} {s : State}

/-- The block with window `n` replaced. -/
def winSet (n : Nat) (y : MemWindow) (s : State) : State := withMem s { s.mem with windows := tset n y s.mem.windows }

/-- A window as a write of its CTL would have it while it is disabled. -/
def winEnabled (n : Nat) (v : W32) (s : State) : MemWindow := { winGet s.mem n with order := fld v 1 0, en := true }

theorem winCtlWrite_otherMode (h : winMode s.pwr.mode = false) : winCtlWrite n init v s = paramRefused init (0x5020 + 0x10 * n) v s := by
  simp [winCtlWrite, h]

theorem winCtlWrite_enabled (hmode : winMode s.pwr.mode = true) (hen : (winGet s.mem n).en = true) : winCtlWrite n init v s =
    if bitOf v 31 then paramRefused init (0x5020 + 0x10 * n) v s else winSet n { winGet s.mem n with en := false } s := by
  simp [winCtlWrite, hmode, hen, winSet]

theorem winCtlWrite_disabled (hmode : winMode s.pwr.mode = true) (hen : (winGet s.mem n).en = false) : winCtlWrite n init v s =
    if bitOf v 31 then
      if winMayEnable s.mem n (winEnabled n v s) then winSet n (winEnabled n v s) s else paramRefused init (0x5020 + 0x10 * n) v s
    else winSet n { winGet s.mem n with order := fld v 1 0 } s := by
  simp only [winCtlWrite, hmode, hen, Bool.not_true, Bool.false_eq_true, if_false]
  cases bitOf v 31 <;> rfl

theorem winCtlWrite_refused (h : winMode s.pwr.mode = false ∨
    (bitOf v 31 = true ∧ ((winGet s.mem n).en = true ∨ winMayEnable s.mem n (winEnabled n v s) = false))) :
    winCtlWrite n init v s = paramRefused init (0x5020 + 0x10 * n) v s := by
  cases hmode : winMode s.pwr.mode with
  | false => exact winCtlWrite_otherMode hmode
  | true =>
    obtain ⟨hv, hno⟩ := h.resolve_left (by simp [hmode])
    cases hen : (winGet s.mem n).en with
    | true => rw [winCtlWrite_enabled hmode hen, if_pos hv]
    | false => rw [winCtlWrite_disabled hmode hen, if_pos hv, hno.resolve_left (by simp [hen]), if_neg Bool.false_ne_true]

end

/-- Settles O28: a request by whether the memory answers and whether it waits, then the two registers by their checks. -/
theorem requestsWindowsAndRates : Obligations.RequestsWindowsAndRates := by
  unfold Obligations.RequestsWindowsAndRates
  refine ⟨fun r s hok hon hrun => ?served, fun r s hok hoff => ?off, fun r s h => congrArg Host.Outcome.next (memoryRequest_waits h),
    fun n a s x put hn hw hx hput => ?window, fun p a s m hp hw hm => ?rate⟩
  case served =>
    have hgoes : ¬ RequestWaits r s := by simp [RequestWaits, hok, hrun]
    refine ⟨_, _, _, congrArg Host.Outcome.next (memoryRequest_answers hgoes), rfl, request_error_iff hon, fun hread => ?_⟩
    simp [request_on hon, hread]
  case off =>
    have hgoes : ¬ RequestWaits r s := by simp [RequestWaits, hok, hoff]
    refine ⟨_, (congrArg Host.Outcome.next (memoryRequest_answers hgoes)).trans (by rw [request_off hoff]), by simp⟩
  case window =>
    subst hx
    obtain rfl : put = fun y => winSet n y s := funext hput
    rw [exec_mcWinEnable hn hw]
    refine ⟨fun hmode hen hv => ?_, fun hmode hen hv hmay => ?_, fun hmode hen hv => ?_, fun h => ?_⟩
    · rw [winCtlWrite_disabled hmode hen, hv, if_neg Bool.false_ne_true]
    · rw [winCtlWrite_disabled hmode hen, if_pos hv, if_pos (by exact hmay)]
      rfl
    · rw [winCtlWrite_enabled hmode hen, hv, if_neg Bool.false_ne_true]
    · rw [winCtlWrite_refused h]
  case rate =>
    rw [exec_mcPortRateWrite hp hw, hm]
    exact ⟨fun h => congrArg Host.Outcome.next (if_neg (Nat.not_lt.mpr h)), fun h => congrArg Host.Outcome.next (if_pos h)⟩


/-! ### Refresh, temperature and scrub (R574, R576 to R578) -/

theorem exec_bankRefresh {pc : Nat} (s : State) (h : pc < 32) : exec (.bankRefresh pc) s = .next (bankRefresh pc s) := by
  show Host.Outcome.next (bankRefresh (pc % 32) s) = _
  rw [Nat.mod_eq_of_lt h]

theorem stackTemp_eq (temp : W16) (s : State) :
    stackTemp temp s = if decide (1360 < temp.toInt) = s.mem.hot then
        withMem s { s.mem with temp := w32 temp.toNat, hot := decide (1360 < temp.toInt) }
      else memState 3 0xFF (decide (1360 < temp.toInt)) 0 0
        (withMem s { s.mem with temp := w32 temp.toNat, hot := decide (1360 < temp.toInt) }) := by
  unfold stackTemp
  by_cases h : decide (1360 < temp.toInt) = s.mem.hot
  · rw [if_pos h]
    exact if_neg (by simp [h])
  · rw [if_neg h]
    exact if_pos (by simpa using h)

theorem scrubRead_stopped {s : State} (a : Nat) (r : ScrubResult) (h : s.mem.mcState ≠ 2) : scrubRead a r s = s := by
  unfold scrubRead
  split
  · rfl
  · exact if_pos (by simp [h])

/-- A scrub of a mapped unit, while scrubbing is on and the stack works. -/
structure Scrubs (a : Nat) (w : MemWindow) (s : State) : Prop where
  mapped : winOf s.mem a = some w
  enabled : bitOf s.mem.scrub 31 = true
  ready : s.mem.mcState = 2

/-- The block with the error counters of a pseudo-channel replaced. -/
def eccSet (pc : Nat) (e : Ecc) (s : State) : State := withMem s { s.mem with ecc := tset pc e s.mem.ecc }

section
variable {a : Nat} {w : MemWindow} {s : State} (h : Scrubs a w s)
include h

theorem scrubRead_clean : scrubRead a .clean s = s := by
  simp [scrubRead, h.mapped, h.enabled, h.ready]

theorem scrubRead_corrected : scrubRead a .corrected s =
    let e := eccGet s.mem (pcOf w a)
    let counted := eccSet (pcOf w a) { e with corrected := sat16 (e.corrected + 1), total := e.total + 1 } s
    if (e.total + 1) % 256 = 0 then memState 1 (pcOf w a) false 0 (sat16 (e.corrected + 1)) counted else counted := by
  simp [scrubRead, h.mapped, h.enabled, h.ready, eccSet]

theorem scrubRead_uncorrected : scrubRead a .uncorrected s =
    let e := eccGet s.mem (pcOf w a)
    memState 2 (pcOf w a) false a 0 (eccSet (pcOf w a) { e with uncorrected := sat16 (e.uncorrected + 1) } s) := by
  simp [scrubRead, h.mapped, h.enabled, h.ready, eccSet]

end

/-! ### Retraining (R575) -/

theorem retrain_stopped {s : State} (low : Bool) (h : s.mem.mcState ≠ 2) : retrain low s = s := if_pos (by simpa using h)

/-- The stack's memory after a slice of good margin. -/
def retrained (m : MemState) : MemState :=
  { m with retrainNext := (m.retrainNext + 1) % 32, retrainFails := tset m.retrainNext 0 m.retrainFails
           slices := tset m.retrainNext ((tget 0 m.slices m.retrainNext + 1) % 16) m.slices }

section
variable {s : State} (h : s.mem.mcState = 2)
include h

/-- A slice of low margin is counted and reported; the third in a row is a Safe-hold cause. -/
theorem retrain_low : retrain true s =
    let pc := s.mem.retrainNext
    let n := tget 0 s.mem.retrainFails pc + 1
    let t := memState 5 pc false 0 0
      (withMem s { s.mem with retrainNext := (pc + 1) % 32, retrainFails := tset pc n s.mem.retrainFails })
    if n = 3 then safeHoldCause 2 0xFF (withPwr t { t.pwr with memFault := true }) else t := by
  simp only [retrain, h, bne_self_eq_false, Bool.false_eq_true, if_false, if_true]
  rfl

theorem retrain_good : ∃ u, retrain false s = u ∧ u.mem = retrained s.mem ∧ (s.pwr.memFault = false → u = withMem s u.mem) := by
  refine ⟨_, if_neg (by simp [h]), ?_⟩
  dsimp only
  rw [if_neg Bool.false_ne_true]
  split
  · next hfault => exact ⟨rfl, fun hno => by simp [hno] at hfault⟩
  · exact ⟨rfl, fun _ => rfl⟩

end

/-- Settles O29, row by row. -/
theorem memoryUpkeepTouchesItsCounters : Obligations.MemoryUpkeepTouchesItsCounters := by
  unfold Obligations.MemoryUpkeepTouchesItsCounters
  refine ⟨fun pc s hpc h => (exec_bankRefresh s hpc).trans (congrArg _ (if_pos h)), fun temp s s1 hs1 => ?temp,
    fun a w s pc e hw hen hready hpc he => ?scrub, fun s pc m1 h hpc hm1 => ?retrain,
    fun s h => ⟨fun pc => congrArg Host.Outcome.next (if_neg h), fun a r => congrArg Host.Outcome.next (scrubRead_stopped a r h),
      fun b => congrArg Host.Outcome.next (retrain_stopped b h)⟩⟩
  case temp =>
    subst hs1
    exact ⟨fun h => congrArg Host.Outcome.next ((stackTemp_eq temp s).trans (if_pos h)),
      fun h => congrArg Host.Outcome.next ((stackTemp_eq temp s).trans (if_neg h))⟩
  case scrub =>
    subst hpc he
    have hscrub : Scrubs a w s := ⟨hw, hen, hready⟩
    exact ⟨congrArg Host.Outcome.next (scrubRead_clean hscrub), congrArg Host.Outcome.next (scrubRead_corrected hscrub),
      congrArg Host.Outcome.next (scrubRead_uncorrected hscrub)⟩
  case retrain =>
    subst hpc hm1
    refine ⟨fun hn => congrArg Host.Outcome.next ((retrain_low h).trans (if_neg hn)), fun hn =>
      ⟨_, congrArg Host.Outcome.next ((retrain_low h).trans (if_pos hn)), rfl, ?_⟩, ?_⟩
    · dsimp only at hn ⊢
      rw [hn, withPwr_mem, memState_mem]
      rfl
    · obtain ⟨u, hu, hmem, hsame⟩ := retrain_good h
      exact ⟨u, congrArg Host.Outcome.next hu, hmem, hsame⟩

end Sys2Proof.Machine
end

section
/-! SUPPORT. Access gates: what staging and committing their rules leave, what a gate allows and the order of R583's checks; the obligation
about them. -/

namespace Sys2Proof.Machine

/-! ### GATE_STAGE (R585) -/

/-- A range that GATE_STAGE takes for a gate: of whole 64-byte units below 32 GB for a memory gate, of whole registers for a register gate. -/
structure StageOk (g base limit : Nat) : Prop where
  gate : g < 24
  memory : g < 8 → base % 64 = 0 ∧ (limit + 1) % 64 = 0 ∧ limit < 2 ^ 35 ∧ base ≤ limit
  register : 8 ≤ g → base % 4 = 0 ∧ base ≤ 0xFFF ∧ (limit + 1) % 4 = 0 ∧ limit ≤ 0xFFF

/-- The rule that GATE_STAGE spells. -/
def stagedRule (c : Cmd) : Rule :=
  { valid := bitOf (cw c 9) 31, base := w64of (cw c 4) (cw c 5), limit := w64of (cw c 6) (cw c 7), mask := cw c 8,
    wr := bitOf (cw c 9) 1, rd := bitOf (cw c 9) 0 }

theorem opGateStage_stages {c : Cmd} (s : State) (h : StageOk (fld (cw c 2) 4 0) (w64of (cw c 4) (cw c 5)) (w64of (cw c 6) (cw c 7))) :
    opGateStage c s = (gateSet (fld (cw c 2) 4 0) { gateGet s.mem (fld (cw c 2) 4 0) with
      shadow := tset (fld (cw c 3) 5 0) (stagedRule c) (gateGet s.mem (fld (cw c 2) 4 0)).shadow } s, .ok []) := by
  obtain ⟨hgate, hmemory, hregister⟩ := h
  unfold opGateStage
  refine (checked_pass _ s ?_).trans rfl
  generalize fld (cw c 2) 4 0 = g at *
  generalize w64of (cw c 4) (cw c 5) = base at *
  generalize w64of (cw c 6) (cw c 7) = limit at *
  by_cases hkind : g < 8
  · obtain ⟨hbase, hlimit, hmax, hle⟩ := hmemory hkind
    have hreg : ¬ 8 ≤ g := Nat.not_le.mpr hkind
    have hend : ¬ 2 ^ 35 ≤ limit := Nat.not_le.mpr hmax
    simp only [Nat.not_le.mpr hgate, hkind, hreg, hbase, hlimit, hend, Nat.not_lt.mpr hle, decide_true, decide_false, bne_self_eq_false,
      Bool.and_false, Bool.false_and, Bool.or_self, firstOf_false, firstOf_nil]
  · obtain ⟨hbase, hbaseMax, hlimit, hmax⟩ := hregister (Nat.not_lt.mp hkind)
    simp only [Nat.not_le.mpr hgate, hkind, hbase, hlimit, Nat.not_lt.mpr hbaseMax, Nat.not_lt.mpr hmax, decide_false, bne_self_eq_false,
      Bool.and_false, Bool.false_and, Bool.or_self, firstOf_false, firstOf_nil]

/-! ### GATE_COMMIT and its end (R586, R587) -/

/-- The gates' table after some gates have taken their shadow sets under an epoch. -/
def gatesTaken (epoch : W32) (gs : List Nat) (gates : Tab Gate) : Tab Gate :=
  gs.foldl (fun t g => tset g (gateTake epoch (tget {} t g)) t) gates

/-- Each gate that is named has its shadow set as its active one, and the others stay. -/
theorem tget_gatesTaken (epoch : W32) (gs : List Nat) (gates : Tab Gate) (g : Nat) :
    tget {} (gatesTaken epoch gs gates) g = if g ∈ gs then gateTake epoch (tget {} gates g) else (tget {} gates g : Gate) := by
  induction gs generalizing gates with
  | nil => rfl
  | cons k gs ih =>
    refine (ih _).trans ?_
    rw [tget_tset]
    by_cases hk : g = k
    · simp [hk, gateTake]
    · simp [hk]

/-- The block after a commit. -/
def committed (c : Cmd) (s : State) : State :=
  withMem s { s.mem with gates := gatesTaken (cw c 3) (gatesOf (cw c 2)) s.mem.gates
                         commits := s.mem.commits ++ [{ gates := cw c 2 &&& 0xFFFFFF, epoch := cw c 3, since := t2Ns s }] }

theorem gateGet_committed (c : Cmd) (s : State) (g : Nat) : gateGet (committed c s).mem g =
    if g ∈ gatesOf (cw c 2) then gateTake (cw c 3) (gateGet s.mem g) else gateGet s.mem g :=
  tget_gatesTaken ..

section
variable {c : Cmd} {s : State}

theorem opGateCommit_held {g : Nat} (h : (gatesOf (cw c 2)).find? (fun g => bitOf (gatesPending s.mem) g) = some g) :
    opGateCommit c s = (s, held 0xFF g) := by
  have hany : (gatesOf (cw c 2)).any (fun g => bitOf (gatesPending s.mem) g) = true :=
    List.any_eq_true.mpr ⟨g, List.mem_of_find?_eq_some h, List.find?_some (p := fun g => bitOf (gatesPending s.mem) g) h⟩
  simp only [opGateCommit, checked_cons, hany, if_true, h, Option.getD_some]

variable (hfree : ∀ g ∈ gatesOf (cw c 2), bitOf (gatesPending s.mem) g = false)
include hfree

theorem opGateCommit_free : opGateCommit c s =
    if (gatesOf (cw c 2)).any fun g => (gateGet s.mem g).epoch == cw c 3 then (s, badField 12) else (committed c s, .ok []) := by
  have hany : (gatesOf (cw c 2)).any (fun g => bitOf (gatesPending s.mem) g) = false := by simpa using hfree
  simp only [opGateCommit, checked_cons, hany, Bool.false_eq_true, if_false, checked_nil]
  rfl

theorem opGateCommit_commits (hnew : ∀ g ∈ gatesOf (cw c 2), (gateGet s.mem g).epoch ≠ cw c 3) :
    opGateCommit c s = (committed c s, .ok []) := by
  rw [opGateCommit_free hfree, if_neg (by simpa using hnew)]

theorem opGateCommit_inForce (hold : ∃ g ∈ gatesOf (cw c 2), (gateGet s.mem g).epoch = cw c 3) :
    opGateCommit c s = (s, badField 12) := by
  rw [opGateCommit_free hfree, if_pos (by simpa using hold)]

end

theorem gateCommitDone_oldest {s : State} {k : GateCommit} {ks : List GateCommit} (h : s.mem.commits = k :: ks) : gateCommitDone s =
    raise 0x49 [k.gates, k.epoch, w32 (sat32 (t2Ns s - k.since))]
      (withMem s { s.mem with commits := ks, gtDone := s.mem.gtDone ||| k.gates }) := by
  rw [gateCommitDone, h]

theorem gateCommitDone_none {s : State} (h : s.mem.commits = []) : gateCommitDone s = s := by
  rw [gateCommitDone, h]

/-! ### What a gate allows (R580), and the checks of a register access (R583) -/

theorem gateAllows_unruled {g : Gate} {a : Nat} (init : Nat) (w : Bool) (h : rulesAt g a = []) : gateAllows g init a w = true := by
  simp [gateAllows, h]

theorem gateAllows_ruled {g : Gate} {a : Nat} (init : Nat) (w : Bool) (h : rulesAt g a ≠ []) : gateAllows g init a w = true ↔
    ∃ r ∈ rulesAt g a, init < 21 ∧ bitOf r.mask init = true ∧ (if w then r.wr else r.rd) = true := by
  simp [gateAllows, List.isEmpty_eq_false_iff.mpr h, and_assoc]

theorem judgeReg_noRight {init off : Nat} (s : State) (h : mayWrite init off = false) : judgeReg init off true s = .np :=
  if_pos (by simp [h])

theorem judgeReg_gated {init off : Nat} {s : State} (hright : mayWrite init off = true) (hinit : init ≠ 4)
    (h : gateAllows (gateGet s.mem (8 + off / 0x1000)) init (off % 0x1000) true = false) : judgeReg init off true s = .gate := by
  simp [judgeReg, hright, hinit, h]

/-- Settles O30, clause by clause. -/
theorem gateRulesAreStagedAndCommitted : Obligations.GateRulesAreStagedAndCommitted := by
  unfold Obligations.GateRulesAreStagedAndCommitted
  refine ⟨fun c s u g base limit r hu h hg hgate hbase hlimit hmemory hregister hr => ?stage, fun c s u hu h hfree hnew => ?commit,
    fun c s u hu h => ?refused, fun s k ks h => congrArg Host.Outcome.next (gateCommitDone_oldest h),
    fun s h => congrArg Host.Outcome.next (gateCommitDone_none h), fun g init a w => gateAllows_unruled init w,
    fun g init a w => gateAllows_ruled init w, fun init off s => judgeReg_noRight s, fun init off s => judgeReg_gated⟩
  case stage =>
    subst hu hg hbase hlimit hr
    exact congrArg Host.Outcome.next (hostCommand_answers h (opGateStage_stages _ ⟨hgate, hmemory, hregister⟩))
  case commit =>
    subst hu
    rw [← takeCmd_mem c s] at hfree hnew ⊢
    refine ⟨committed c (takeCmd c s), _, congrArg Host.Outcome.next (hostCommand_answers h (opGateCommit_commits hfree hnew)), rfl,
      fun g hg => ?_, fun g hg => ?_⟩
    · rw [gateGet_committed, if_pos hg]
      exact ⟨rfl, rfl, rfl, rfl⟩
    · rw [gateGet_committed, if_neg hg]
  case refused =>
    subst hu
    rw [← takeCmd_mem c s]
    exact ⟨fun g hg => congrArg Host.Outcome.next (hostCommand_answers h (opGateCommit_held hg)),
      fun hfree hold => congrArg Host.Outcome.next (hostCommand_answers h (opGateCommit_inForce hfree hold))⟩

end Sys2Proof.Machine
end

section
/-! SUPPORT. The control fabric: which parked request is granted, where an arrival waits, and what a grant leaves; the obligation about it. -/

namespace Sys2Proof.Machine

/-! ### The request granted next (R594) -/

/-- `r` is the request of `l` to grant: the promoted one parked first, else, where none is promoted, the first of the best rank. -/
structure GrantNext (l : List FabReq) (r : FabReq) : Prop where
  mem : r ∈ l
  promoted : r.promoted = true → l.find? (fun x => x.promoted) = some r
  ranked : r.promoted = false → (∀ x ∈ l, x.promoted = false ∧ fabricRank r.init ≤ fabricRank x.init) ∧
    l.find? (fun x => fabricRank x.init == fabricRank r.init) = some r

theorem grantNext_single (r : FabReq) : GrantNext [r] r :=
  ⟨List.mem_singleton_self r, fun h => by simp [h], fun h => by simp [h]⟩

/-- A further request, parked later, is granted only if it is better. -/
theorem GrantNext.append {l : List FabReq} {r : FabReq} (h : GrantNext l r) (y : FabReq) : GrantNext (l ++ [y]) (fabBetter r y) := by
  unfold fabBetter
  cases hr : r.promoted with
  | true => exact ⟨List.mem_append_left _ h.mem, fun _ => by simp [List.find?_append, h.promoted hr], fun hno => by simp [hr] at hno⟩
  | false =>
    obtain ⟨hbest, hfirst⟩ := h.ranked hr
    cases hy : y.promoted with
    | true =>
      have hnone : l.find? (fun x => x.promoted) = none := by simpa using fun x hx => (hbest x hx).1
      exact ⟨by simp, fun _ => by simp [List.find?_append, hnone, hy], fun hno => by simp [hy] at hno⟩
    | false =>
      by_cases hrank : fabricRank y.init < fabricRank r.init
      · have hnone : l.find? (fun x => fabricRank x.init == fabricRank y.init) = none := by
          simpa using fun x hx => Nat.ne_of_gt (hrank.trans_le (hbest x hx).2)
        simp only [Bool.false_eq_true, if_false, if_pos hrank]
        refine ⟨by simp, fun hno => by simp [hy] at hno, fun _ => ⟨fun x hx => ?_, by simp [List.find?_append, hnone]⟩⟩
        rcases List.mem_append.mp hx with hx | hx
        · exact ⟨(hbest x hx).1, (hrank.trans_le (hbest x hx).2).le⟩
        · obtain rfl := List.mem_singleton.mp hx
          exact ⟨hy, le_rfl⟩
      · simp only [Bool.false_eq_true, if_false, if_neg hrank]
        refine ⟨List.mem_append_left _ h.mem, fun hno => by simp [hr] at hno, fun _ => ⟨fun x hx => ?_, by
          simp [List.find?_append, hfirst]⟩⟩
        rcases List.mem_append.mp hx with hx | hx
        · exact hbest x hx
        · obtain rfl := List.mem_singleton.mp hx
          exact ⟨hy, Nat.not_lt.mp hrank⟩

theorem GrantNext.foldl {l : List FabReq} {r : FabReq} (h : GrantNext l r) (ys : List FabReq) : GrantNext (l ++ ys) (ys.foldl fabBetter r) := by
  induction ys generalizing l r with
  | nil => simpa using h
  | cons y ys ih => simpa using ih (h.append y)

theorem fabChoose_grantNext {l : List FabReq} {r : FabReq} (h : fabChoose l = some r) : GrantNext l r := by
  cases l with
  | nil => cases h
  | cons x xs =>
    obtain rfl : xs.foldl fabBetter x = r := Option.some.inj h
    exact (grantNext_single x).foldl xs

/-! ### Arrivals (R593) -/

/-- A request of an initiator that has none on the fabric yet: parked while a place is free, else at its port. -/
theorem fabArrive_new {m : MemState} {a : FabArrival} (hon : onFabric a.init = true) (hnew : ∀ x ∈ m.parked ++ m.atPort, x.init ≠ a.init) :
    fabArrive m a = if m.parked.length < 8 then { m with parked := m.parked ++ [{ init := a.init, addr := a.addr, beats := Nat.max 1 a.beats }] }
      else { m with atPort := m.atPort ++ [{ init := a.init, addr := a.addr, beats := Nat.max 1 a.beats }] } := by
  have hknown : (m.parked ++ m.atPort).any (fun r => r.init == a.init) = false := by
    rw [List.any_eq_false]
    exact fun x hx => by simpa using hnew x hx
  unfold fabArrive
  rw [hknown, hon]
  rfl

/-- An arrival parks only where a place is free. -/
theorem fabArrive_parked_le (m : MemState) (a : FabArrival) : (fabArrive m a).parked.length ≤ Nat.max 8 m.parked.length := by
  unfold fabArrive
  dsimp only
  split
  · exact Nat.le_max_right ..
  · split
    · next h => exact (List.length_append.trans_le h).trans (Nat.le_max_left ..)
    · exact Nat.le_max_right ..

/-! ### FABRIC_GRANT (R592 to R594) -/

/-- The requests that a grant of `r` passes over. -/
def passedOver (parked : List FabReq) (r : FabReq) : List FabReq := (parked.filter fun x => x.init != r.init).map fabPassed

/-- A request passed over is one that was parked, counted once more, and promoted at four. -/
theorem mem_passedOver {parked : List FabReq} {r x : FabReq} (h : x ∈ passedOver parked r) : ∃ y ∈ parked, x.init = y.init ∧
    x.passed = y.passed + 1 ∧ x.promoted = (y.promoted || decide (4 ≤ y.passed + 1)) := by
  obtain ⟨y, hy, rfl⟩ := List.mem_map.mp h
  exact ⟨y, List.mem_of_mem_filter hy, rfl, rfl, rfl⟩

section
variable {as : List FabArrival} {s : State} {r : FabReq}

theorem fabricGrant_empty (h : (as.foldl fabArrive s.mem).parked = []) :
    fabricGrant as s = withMem s { as.foldl fabArrive s.mem with owner := none } := by
  simp only [fabricGrant, h, fabChoose]

variable (h : fabChoose (as.foldl fabArrive s.mem).parked = some r)
include h

theorem fabricGrant_grants (hport : (as.foldl fabArrive s.mem).atPort = []) : fabricGrant as s = lockCut r (withMem s
    { as.foldl fabArrive s.mem with parked := passedOver (as.foldl fabArrive s.mem).parked r, owner := some r }) := by
  simp only [fabricGrant, h, hport, passedOver]

/-- The request that waits longest at a port takes the place that the grant leaves. -/
theorem fabricGrant_refills {w : FabReq} {ws : List FabReq} (hport : (as.foldl fabArrive s.mem).atPort = w :: ws) :
    fabricGrant as s = lockCut r (withMem s { as.foldl fabArrive s.mem with
      parked := passedOver (as.foldl fabArrive s.mem).parked r ++ [w], atPort := ws, owner := some r }) := by
  simp only [fabricGrant, h, hport, passedOver]

end

/-- Settles O31: the choice by induction over the parked requests, then arrivals and the grant. -/
theorem theFabricGrantsByRank : Obligations.TheFabricGrantsByRank := by
  unfold Obligations.TheFabricGrantsByRank
  refine ⟨fun l r h => ?choice, fun m a r hon hnew hr => ?arrival, fun as s m hm => ?grant, fun r s h => if_pos h, fabArrive_parked_le⟩
  case choice =>
    obtain ⟨hmem, hpromoted, hranked⟩ := fabChoose_grantNext h
    exact ⟨hmem, hpromoted, hranked⟩
  case arrival =>
    subst hr
    exact ⟨fun h => (fabArrive_new hon hnew).trans (if_pos h), fun h => (fabArrive_new hon hnew).trans (if_neg (Nat.not_lt.mpr h))⟩
  case grant =>
    subst hm
    refine ⟨fun h => congrArg Host.Outcome.next (fabricGrant_empty h), fun r h => ⟨_, rfl, fun x => mem_passedOver, fun hport =>
      congrArg Host.Outcome.next (fabricGrant_grants h hport), fun w ws hport => congrArg Host.Outcome.next (fabricGrant_refills h hport)⟩⟩

end Sys2Proof.Machine
end

section
/-! SUPPORT. The check-value units: what a write of a unit's CTL, a feed, an alive write and the alive timeout leave; the obligation about
them. -/

namespace Sys2Proof.Machine

section
variable {u : Nat} {a : RegW} {s : State} (hu : u < 4)
include hu

theorem exec_cvuCtl (h : Writes (0x7000 + 0x40 * u) a s) : exec (.cvuInit u a) s = .next (cvuCtlWrite u a.val s) ∧
    exec (.cvuPolyWrite u a) s = .next (cvuCtlWrite u a.val s) ∧ exec (.cvuAliveEnable u a) s = .next (cvuCtlWrite u a.val s) := by
  have hwrite : regWrite (cvuOff (u % 4)) (cvuCtlInfo (u % 4) s) a (cvuCtlWrite (u % 4)) s = cvuCtlWrite u a.val s := by
    rw [Nat.mod_eq_of_lt hu]
    exact regWrite_writes _ _ h
  exact ⟨congrArg Host.Outcome.next hwrite, congrArg Host.Outcome.next hwrite, congrArg Host.Outcome.next hwrite⟩

theorem exec_cvuFeed (z : FeedSize) (h : Writes (0x7000 + 0x40 * u + feedOff z) a s) :
    exec (.cvuFeed u z a) s = .next (cvuFeed u (bytesLE (feedBytes z) a.val.toNat) s) := by
  show Host.Outcome.next (regWrite (cvuOff (u % 4) + feedOff z) { rw := 0 } a
    (fun v st => cvuFeed (u % 4) (bytesLE (feedBytes z) v.toNat) st) s) = _
  rw [Nat.mod_eq_of_lt hu]
  exact congrArg Host.Outcome.next (regWrite_writes _ _ h)

theorem exec_cvuAliveWrite (h : Writes (0x701C + 0x40 * u) a s) : exec (.cvuAliveWrite u a) s = .next (cvuAlive u a.init a.val s) := by
  have hoff : 0x701C + 0x40 * u = cvuOff u + 0x1C := by unfold cvuOff; omega
  rw [hoff] at h
  show Host.Outcome.next (regWrite (cvuOff (u % 4) + 0x1C) _ a (cvuAlive (u % 4) a.init) s) = _
  rw [Nat.mod_eq_of_lt hu, regWrite_writes _ _ h]

theorem exec_cvuAliveTimeout : exec (.cvuAliveTimeout u) s = .next (cvuTimeout u s) := by
  show Host.Outcome.next (cvuTimeout (u % 4) s) = _
  rw [Nat.mod_eq_of_lt hu]

end

/-! ### CVUu_CTL (R688) and the feeds (R689) -/

/-- ALIVE_EN as a write leaves it, and the reference, which its rise clears. -/
theorem aliveEn_written (y : Cvu) (en was : Bool) :
    (if en && !was then { y with aliveEn := true, aliveSet := false } else { y with aliveEn := en } : Cvu) =
      { y with aliveEn := en, aliveSet := if en && !was then false else y.aliveSet } := by
  cases en <;> cases was <;> rfl

/-- A unit after a write of its CTL. -/
theorem cvuCtlWrite_eq (u : Nat) (v : W32) (s : State) : cvuCtlWrite u v s = cvuSet u { (if bitOf v 8 || fld v 1 0 != (cvuGet s u).poly
      then { cvuGet s u with poly := fld v 1 0, acc := cvuInit (fld v 1 0), count := 0, fed := true } else cvuGet s u) with
        aliveEn := bitOf v 31
        aliveSet := if bitOf v 31 && !(cvuGet s u).aliveEn then false else (cvuGet s u).aliveSet } s := by
  unfold cvuCtlWrite
  dsimp only
  rw [aliveEn_written]
  split <;> rfl

theorem byte_of_word (v : W32) (k : Nat) : BitVec.ofNat 8 (v.toNat / 2 ^ k) = (v >>> k).setWidth 8 := by
  apply BitVec.eq_of_toNat_eq
  simp [Nat.shiftRight_eq_div_pow]

/-- The bytes of a fed word, lowest first. -/
theorem feed_bytes (z : FeedSize) (v : W32) : bytesLE (feedBytes z) v.toNat = match z with
    | .feed8 => [v.setWidth 8]
    | .feed16 => [v.setWidth 8, (v >>> 8).setWidth 8]
    | .feed32 => [v.setWidth 8, (v >>> 8).setWidth 8, (v >>> 16).setWidth 8, (v >>> 24).setWidth 8] := by
  have h0 : BitVec.ofNat 8 v.toNat = v.setWidth 8 := by simp
  have h8 := byte_of_word v 8
  have h16 := byte_of_word v 16
  have h24 := byte_of_word v 24
  norm_num only at h8 h16 h24
  cases z <;> simp only [feedBytes, bytesLE, Nat.div_div_eq_div_mul, h0, h8, h16, h24, Nat.reduceMul]

/-! ### Alive writes and their timeout (R691, R692) -/

/-- A unit that has taken an alive value. -/
def cvuTaken (u : Nat) (c : W16) (s : State) : Cvu := { cvuGet s u with alive := c, aliveAt := t2Ns s, expired := false }

section
variable {u init : Nat} {v : W32} {s : State}

theorem cvuAlive_disabled (hen : (cvuGet s u).aliveEn = false) : cvuAlive u init v s = cvuSet u (cvuTaken u (v.setWidth 16) s) s := by
  simp [cvuAlive, hen, cvuTaken]

theorem cvuAlive_first (hen : (cvuGet s u).aliveEn = true) (hset : (cvuGet s u).aliveSet = false) :
    cvuAlive u init v s = cvuSet u { cvuTaken u (v.setWidth 16) s with aliveSet := true } s := by
  simp [cvuAlive, hen, hset, cvuTaken]

variable (hen : (cvuGet s u).aliveEn = true) (hset : (cvuGet s u).aliveSet = true)
include hen hset

/-- With a reference held, the difference to it tells a repeat, a jump and the next value apart. -/
theorem cvuAlive_judged : cvuAlive u init v s =
    if (v.setWidth 16 - (cvuGet s u).alive).toNat = 0 then
      cvuAlarm u 1 init (cvuGet s u).alive.toNat (v.setWidth 16).toNat (cvuSet u { cvuTaken u (v.setWidth 16) s with rep := true } s)
    else if 1 < (v.setWidth 16 - (cvuGet s u).alive).toNat then
      cvuAlarm u 2 init (cvuGet s u).alive.toNat (v.setWidth 16).toNat (cvuSet u { cvuTaken u (v.setWidth 16) s with skip := true } s)
    else cvuSet u (cvuTaken u (v.setWidth 16) s) s := by
  unfold cvuAlive
  exact (if_neg (by simp [hen])).trans (if_neg (by simp [hset]))

theorem cvuAlive_next (h : v.setWidth 16 = (cvuGet s u).alive + 1) : cvuAlive u init v s = cvuSet u (cvuTaken u (v.setWidth 16) s) s := by
  have hd : (v.setWidth 16 - (cvuGet s u).alive).toNat = 1 := by rw [h]; bv_omega
  rw [cvuAlive_judged hen hset, hd, if_neg (by decide), if_neg (by decide)]

theorem cvuAlive_repeat (h : v.setWidth 16 = (cvuGet s u).alive) : cvuAlive u init v s =
    cvuAlarm u 1 init (cvuGet s u).alive.toNat (v.setWidth 16).toNat (cvuSet u { cvuTaken u (v.setWidth 16) s with rep := true } s) := by
  rw [cvuAlive_judged hen hset, if_pos (by rw [h]; bv_omega)]

theorem cvuAlive_jump (hrep : v.setWidth 16 ≠ (cvuGet s u).alive) (hnext : v.setWidth 16 ≠ (cvuGet s u).alive + 1) :
    cvuAlive u init v s = cvuAlarm u 2 init (cvuGet s u).alive.toNat (v.setWidth 16).toNat
      (cvuSet u { cvuTaken u (v.setWidth 16) s with skip := true } s) := by
  have hd : 1 < (v.setWidth 16 - (cvuGet s u).alive).toNat := by
    generalize v.setWidth 16 = c at *
    generalize (cvuGet s u).alive = x at *
    bv_omega
  rw [cvuAlive_judged hen hset, if_neg (by omega), if_pos hd]

end

section
variable {u : Nat} {s : State}

theorem cvuTimeout_due (hen : (cvuGet s u).aliveEn = true) (hset : (cvuGet s u).aliveSet = true) (htmo : (cvuGet s u).aliveTmo ≠ 0)
    (hnew : (cvuGet s u).expired = false) (hdue : (cvuGet s u).aliveTmo ≤ (t2Ns s - (cvuGet s u).aliveAt) / 1000000) : cvuTimeout u s =
      cvuAlarm u 3 0x1F 0 (cvuGet s u).alive.toNat (cvuSet u { cvuGet s u with tmo := true, expired := true } s) := by
  refine if_pos ?_
  simp [cvuExpired, hen, hset, htmo, hnew, hdue]

theorem cvuTimeout_early (h : (cvuGet s u).expired = true ∨ (t2Ns s - (cvuGet s u).aliveAt) / 1000000 < (cvuGet s u).aliveTmo) :
    cvuTimeout u s = s := by
  refine if_neg ?_
  rcases h with h | h <;> simp [cvuExpired, h]

end

/-- Settles O25: a unit's CTL, the feeds, the other units, alive writes and the timeout, in this order. -/
theorem checkValueUnitsFollowTheirRules : Obligations.CheckValueUnitsFollowTheirRules := by
  unfold Obligations.CheckValueUnitsFollowTheirRules
  refine ⟨fun u a s t x y hu h hx hy ht => ?ctl, fun u z a s x bs hu h hx hbs => ?feed,
    fun u v x s hne => ⟨by rw [cvuGet_cvuSet, if_neg (Ne.symm hne)], by rw [cvuGet_cvuSet, if_pos rfl]⟩,
    fun u a s x y c hu h hx hc hy => ?alive, fun u s x hu hx hen hset htmo => ?timeout⟩
  case ctl =>
    subst hx hy
    rw [ht, ← cvuCtlWrite_eq]
    exact exec_cvuCtl hu h
  case feed =>
    subst hx hbs
    rw [exec_cvuFeed hu z h, feed_bytes]
    rfl
  case alive =>
    subst hx hc hy
    rw [exec_cvuAliveWrite hu h]
    exact ⟨fun hen => congrArg _ (cvuAlive_disabled hen), fun hen hset => congrArg _ (cvuAlive_first hen hset),
      fun hen hset hn => congrArg _ (cvuAlive_next hen hset hn), fun hen hset hr => congrArg _ (cvuAlive_repeat hen hset hr),
      fun hen hset hr hn => congrArg _ (cvuAlive_jump hen hset hr hn)⟩
  case timeout =>
    subst hx
    rw [exec_cvuAliveTimeout hu]
    exact ⟨fun hnew hdue => congrArg _ (cvuTimeout_due hen hset htmo hnew hdue), fun h => congrArg _ (cvuTimeout_early h)⟩

end Sys2Proof.Machine
end

section
/-! SUPPORT. Recovery: when the ROM serves a request, what it does with the pieces of an image, and what it installs; the obligation about it. -/

namespace Sys2Proof.Machine

/-! ### Requests (R652, R653) -/

/-- The ROM serves requests: the module is in Recovery, and the ROM writes no image. -/
structure RomServes (s : State) : Prop where
  mode : s.pwr.mode = .recovery
  idle : s.boot.recov.phase ≠ 3

section
variable {q : RecovReq} {s : State}

theorem inRecovery_serves (work : State → State) (h : RomServes s) : inRecovery q work s = work s := by
  simp [inRecovery, h.mode, h.idle]

theorem inRecovery_other (work : State → State) (h : s.pwr.mode ≠ .recovery) : inRecovery q work s = s := if_pos (by simpa using h)

theorem recovStatus_serves (h : RomServes s) :
    recovStatus q s = recovSend q 0 s.boot.recov.buf.length s.boot.recov.phase s := by
  simp [recovStatus, h.mode, h.idle]

theorem recovStatus_other (h : s.pwr.mode ≠ .recovery) : recovStatus q s = s := if_pos (by simpa using h)

/-! ### BEGIN and DATA -/

theorem recovBegin_opens (hmin : 4096 ≤ q.arg) (hmax : q.arg ≤ 33554432) :
    recovBegin q s = recovReply q 0 (withRecov s { phase := 1, length := q.arg }) := if_pos (by simp [hmin, hmax])

theorem recovBegin_outOfRange (h : q.arg < 4096 ∨ 33554432 < q.arg) : recovBegin q s = recovReply q 2 s := by
  refine if_neg ?_
  simp only [Bool.and_eq_true, decide_eq_true_eq]
  omega

theorem recovData_badCrc (h : crc32c q.data ≠ q.crc.toNat) : recovData q s = recovReply q 1 s := if_pos (by simpa using h)

section
variable (hcrc : crc32c q.data = q.crc.toNat)
include hcrc

theorem recovData_repeat (hlast : s.boot.recov.lastData = some (q.arg, q.len, q.crc.toNat)) : recovData q s = recovReply q 0 s :=
  (if_neg (by simp [hcrc])).trans (if_pos (by simp [hlast]))

variable (hlast : s.boot.recov.lastData ≠ some (q.arg, q.len, q.crc.toNat))
include hlast

theorem recovData_otherOffset (hoff : q.arg ≠ s.boot.recov.buf.length) : recovData q s = recovReply q 2 s :=
  (if_neg (by simp [hcrc])).trans ((if_neg (by simpa using hlast)).trans (if_pos (by simp [hoff])))

theorem recovData_appends (hphase : s.boot.recov.phase = 1) (hoff : q.arg = s.boot.recov.buf.length) (hlen : q.data.length = q.len)
    (hpiece : q.len ≤ 1024) (hmax : q.arg + q.len ≤ s.boot.recov.length) : recovData q s = recovReply q 0
      (withRecov s { s.boot.recov with buf := s.boot.recov.buf ++ q.data, lastData := some (q.arg, q.len, q.crc.toNat) }) := by
  refine (if_neg (by simp [hcrc])).trans ((if_neg (by simpa using hlast)).trans (if_neg ?_))
  simp only [Bool.or_eq_true, bne_iff_ne, decide_eq_true_eq]
  omega

end

/-- An identity block that is whole, under the right CRC, takes the place of the old one. -/
theorem recovIdentity_rewrites (hcrc : crc32c q.data = q.crc.toNat) (hlen : q.data.length = 256) (hok : identityOk q.data = true) :
    recovIdentity q s = recovReply q 0 (withBoot s { s.boot with identity := q.data }) := by
  simp [recovIdentity, hcrc, hlen, hok]

end

/-! ### END, CARD and what is installed (R644, R653, R654) -/

section
variable {q : RecovReq} {f : FwFile} {ok : Bool} {s : State}

theorem recovEnd_incomplete (h : s.boot.recov.phase ≠ 1 ∨ s.boot.recov.buf.length < s.boot.recov.length) :
    recovEnd q f ok s = recovReply q 3 s := if_pos (by simpa using h)

theorem recovEnd_installs {g : FwFile} (hphase : s.boot.recov.phase = 1) (hlen : s.boot.recov.length ≤ s.boot.recov.buf.length)
    (hg : g = { f with header := s.boot.recov.buf.take 4096, size := s.boot.recov.buf.length }) :
    recovEnd q f ok s = recovReply q (recovInstall g ok s).2 (recovInstall g ok s).1 := by
  subst hg
  exact if_neg (by simpa [hphase] using hlen)

theorem uartLoad_card (h : RomServes s) : uartLoad [0x4C] (some f) ok s = (recovInstall f ok s).1 := if_pos (by simp [h.mode, h.idle])

theorem uartLoad_other {l : List Byte} {c : Option FwFile} (h : s.pwr.mode ≠ .recovery) : uartLoad l c ok s = s := if_neg (by simp [h])

theorem recovInstall_unverified (h : (imageOf f).verdict ≠ 0) : recovInstall f ok s = (withRecov s {}, 3) := if_pos (by simpa using h)

theorem recovInstall_flashFails (h : (imageOf f).verdict = 0) :
    recovInstall f false s = (withRecov (slotWrite 1 {} (slotWrite 0 {} s)) {}, 4) := (if_neg (by simp [h])).trans (if_pos rfl)

/-- An update of the indicator writes one of its copies, and nothing else of the boot unit. -/
theorem indWrite_writes (x : SlotInd) (b : Boot) : ∃ i0 i1, indWrite x b = { b with ind0 := i0, ind1 := i1 } ∧
    (i0 = { x with valid := true, seq := (indGet b).seq + 1 } ∨ i1 = { x with valid := true, seq := (indGet b).seq + 1 }) := by
  by_cases h : b.ind0.valid = false ∨ (b.ind1.valid = true ∧ b.ind0.seq.toNat < b.ind1.seq.toNat)
  · exact ⟨_, b.ind1, indWrite_first x h, .inl rfl⟩
  · refine ⟨b.ind0, _, indWrite_second x ?_, .inr rfl⟩
    obtain ⟨hvalid, hseq⟩ := not_or.mp h
    refine ⟨by simpa using hvalid, ?_⟩
    by_cases hsecond : b.ind1.valid = true
    · exact .inr (Nat.not_lt.mp fun hlt => hseq ⟨hsecond, hlt⟩)
    · exact .inl (by simpa using hsecond)

/-- The indicator after Recovery, but for its sequence number. -/
def recoveredInd : SlotInd := { active := 0, trial := false, fails := 0, prevOk := true, valid := true }

/-- An image that verifies stands in both slots, the indicator names slot 0 without a trial, and cast-on is due; the rest stays. -/
theorem recovInstall_installs (h : (imageOf f).verdict = 0) : ∃ t, recovInstall f true s = (t, 0) ∧ t.boot.slot0 = imageOf f ∧
    t.boot.slot1 = imageOf f ∧ t.boot.restartAt = some 0 ∧
    (∃ y : SlotInd, y = { recoveredInd with seq := (indGet s.boot).seq + 1 } ∧ (t.boot.ind0 = y ∨ t.boot.ind1 = y)) ∧
    t.boot.identity = s.boot.identity ∧ t = withBoot s t.boot := by
  refine ⟨_, (if_neg (by simp [h])).trans (if_neg (by decide)), ?_⟩
  obtain ⟨i0, i1, hind, hcopy⟩ := indWrite_writes { active := 0, trial := false, fails := 0, prevOk := true }
    (slotWrite 1 (imageOf f) (slotWrite 0 (imageOf f) s)).boot
  rw [indGet_slotWrite, indGet_slotWrite] at hcopy
  simp only [hind]
  exact ⟨rfl, rfl, rfl, ⟨_, rfl, hcopy⟩, rfl, rfl⟩

/-! ### The status line (R654) -/

/-- The word RECOVERY and a space. -/
def recoveryWord : List Byte := [0x52, 0x45, 0x43, 0x4F, 0x56, 0x45, 0x52, 0x59, 32]

theorem statusLine_due (hmode : s.pwr.mode = .recovery) (h : s.boot.lineAt = 0 ∨ s.boot.lineAt + 1000000000 ≤ t2Ns s) :
    ∃ line, statusLine s = withBoot (send (.uart (recoveryWord ++ line)) s) { s.boot with lineAt := Nat.max 1 (t2Ns s) } := by
  refine ⟨decimal s.boot.recov.phase ++ ([32] ++ decimal s.boot.recov.buf.length), (if_pos (by simpa [hmode] using h)).trans ?_⟩
  rw [List.append_assoc, List.append_assoc]
  rfl

theorem statusLine_early (hsent : s.boot.lineAt ≠ 0) (h : t2Ns s < s.boot.lineAt + 1000000000) : statusLine s = s := by
  refine if_neg ?_
  simp [hsent, Nat.not_le.mpr h]

theorem statusLine_other (h : s.pwr.mode ≠ .recovery) : statusLine s = s := if_neg (by simp [h])

end

/-- Settles O39: requests in Recovery, what is installed, the other modes, and the status line. -/
theorem recoveryLoadsAnImage : Obligations.RecoveryLoadsAnImage := by
  unfold Obligations.RecoveryLoadsAnImage
  have served {q : RecovReq} {s t : State} {work : State → State} (h : RomServes s) (ht : work s = t) :
      Host.Outcome.next (inRecovery q work s) = (.next t : Res) := by rw [inRecovery_serves work h, ht]
  refine ⟨fun q s hmode hidle => ?pieces, fun q f ok s hmode hidle => ?images, fun f ok s => ⟨recovInstall_unverified,
    fun h hok => by rw [hok, recovInstall_flashFails h], fun h hok => by rw [hok]; exact recovInstall_installs h⟩, fun q f c l ok s h => ?other,
    fun s hmode => ?line⟩
  case pieces =>
    have h : RomServes s := ⟨hmode, hidle⟩
    exact ⟨fun hmin hmax => served h (recovBegin_opens hmin hmax), fun hout => served h (recovBegin_outOfRange hout),
      fun hcrc => served h (recovData_badCrc hcrc), fun hcrc hlast => served h (recovData_repeat hcrc hlast),
      fun hcrc hlast hphase hoff hlen hpiece hmax => served h (recovData_appends hcrc hlast hphase hoff hlen hpiece hmax),
      fun hcrc hlast hoff => served h (recovData_otherOffset hcrc hlast hoff), congrArg Host.Outcome.next (recovStatus_serves h),
      fun hcrc hlen hok => served h (recovIdentity_rewrites hcrc hlen hok)⟩
  case images =>
    have h : RomServes s := ⟨hmode, hidle⟩
    exact ⟨fun hno => served h (recovEnd_incomplete hno), fun g hphase hlen hg => served h (recovEnd_installs hphase hlen hg),
      served h rfl, served h rfl, congrArg Host.Outcome.next (uartLoad_card h)⟩
  case other =>
    have unserved (work : State → State) : Host.Outcome.next (inRecovery q work s) = (.next s : Res) := by rw [inRecovery_other work h]
    exact ⟨unserved _, unserved _, congrArg Host.Outcome.next (recovStatus_other h), unserved _, unserved _, unserved _,
      congrArg Host.Outcome.next (uartLoad_other h), congrArg Host.Outcome.next (statusLine_other h)⟩
  case line =>
    refine ⟨fun h => ?_, fun hsent h => congrArg Host.Outcome.next (statusLine_early hsent h)⟩
    obtain ⟨line, hline⟩ := statusLine_due hmode h
    exact ⟨line, congrArg Host.Outcome.next hline⟩

end Sys2Proof.Machine
end

section
/-! SUPPORT. What events, completions and a Safe-hold cause leave: the host link, a command held for the supply, what was sent, and the power
unit's fields. -/

namespace Sys2Proof.Machine

/-! ### The host link, a held command and the record -/

/-- `t` keeps the state of the host link of `s`, its command held for the supply, and what it sent. -/
structure LinkKept (s t : State) : Prop where
  linkUp : t.hif.linkUp = s.hif.linkUp
  supply : t.hif.supply = s.hif.supply
  sent : s.outbox <+: t.outbox

theorem LinkKept.refl (s : State) : LinkKept s s := ⟨rfl, rfl, List.prefix_rfl⟩

theorem LinkKept.trans {s t u : State} (h : LinkKept s t) (g : LinkKept t u) : LinkKept s u :=
  ⟨g.linkUp.trans h.linkUp, g.supply.trans h.supply, h.sent.trans g.sent⟩

/-- A state that differs from `s` elsewhere at first. -/
theorem LinkKept.after {s t u : State} (h : LinkKept t u) (hlink : t.hif.linkUp = s.hif.linkUp) (hsupply : t.hif.supply = s.hif.supply)
    (hsent : t.outbox = s.outbox) : LinkKept s u :=
  ⟨h.linkUp.trans hlink, h.supply.trans hsupply, hsent ▸ h.sent⟩

theorem LinkKept.ite {c : Prop} [Decidable c] {s t u : State} (ht : LinkKept s t) (hu : LinkKept s u) :
    LinkKept s (if c then t else u) := by
  split
  · exact ht
  · exact hu

theorem LinkKept.foldl {α : Type} {f : State → α → State} (hf : ∀ u a, LinkKept u (f u a)) (l : List α) (s : State) :
    LinkKept s (l.foldl f s) := by
  induction l generalizing s with
  | nil => exact .refl s
  | cons a l ih => exact (hf s a).trans (ih (f s a))

section
variable (s : State)

theorem linkKept_send (e : Outgoing) : LinkKept s (send e s) := ⟨rfl, rfl, List.prefix_append ..⟩

theorem linkKept_fnSet (fn : Nat) (f : Fn) : LinkKept s (fnSet s fn f) := .ite ⟨rfl, rfl, List.prefix_rfl⟩ ⟨rfl, rfl, List.prefix_rfl⟩

theorem linkKept_ringSet (fn r : Nat) (x : Ring) : LinkKept s (ringSet s fn r x) := linkKept_fnSet ..

theorem linkKept_signalVector (fn v : Nat) : LinkKept s (signalVector fn v s) := .ite (linkKept_fnSet ..) (linkKept_send ..)

theorem linkKept_ringWrite (fn r : Nat) (ws : List W32) (now : Bool) : LinkKept s (ringWrite fn r ws now s) := by
  have put : LinkKept s (ringPut fn r ws now s) := by
    unfold ringPut
    exact .ite (((linkKept_send ..).trans (linkKept_ringSet ..)).trans (linkKept_signalVector ..))
      ((linkKept_send ..).trans (linkKept_ringSet ..))
  exact .ite put (linkKept_ringSet ..)

theorem linkKept_sendMaint (src : MaintSrc) (letter : Nat) (ws : List W32) : LinkKept s (sendMaint src letter ws s) := by
  cases src <;> exact linkKept_send ..

theorem linkKept_eventToFn (fn code : Nat) (p : List W32) : LinkKept s (eventToFn fn code p s) := by
  unfold eventToFn
  exact .ite ((linkKept_ringWrite ..).trans ⟨rfl, rfl, List.prefix_rfl⟩) ((linkKept_ringWrite ..).trans ⟨rfl, rfl, List.prefix_rfl⟩)

theorem linkKept_eventToMaint (code : Nat) (p : List W32) : LinkKept s (eventToMaint code p s) := by
  unfold eventToMaint
  dsimp only
  split
  · exact .ite ((linkKept_sendMaint ..).after rfl rfl rfl) ⟨rfl, rfl, List.prefix_rfl⟩
  · exact ⟨rfl, rfl, List.prefix_rfl⟩

theorem linkKept_raise (code : Nat) (p : List W32) : LinkKept s (raise code p s) := by
  have first : LinkKept s (if maskBit s.hif.mask0 code || code == 0x40 || code == 0x42 then eventToFn 0 code p s else s) :=
    .ite (linkKept_eventToFn ..) (.refl s)
  unfold raise
  dsimp only
  generalize (if maskBit s.hif.mask0 code || code == 0x40 || code == 0x42 then eventToFn 0 code p s else s) = t at first
  have second : LinkKept s (if maskBit s.hif.mask1 code && maskBit s.hif.allow1 code then eventToFn 1 code p t else t) :=
    .ite (first.trans (linkKept_eventToFn ..)) first
  exact .ite (second.trans (linkKept_eventToMaint ..)) second

theorem linkKept_complete (o : Outst) (st : Nat) (d : W32) (res : List W32) : LinkKept s (complete o st d res s) := by
  unfold complete
  dsimp only
  split
  · exact linkKept_sendMaint ..
  · exact .ite (.refl s) (linkKept_ringWrite ..)

theorem linkKept_completeOutst (o : Outst) (st : Nat) (d : W32) (res : List W32) : LinkKept s (completeOutst o st d res s) :=
  (linkKept_complete ..).after rfl rfl rfl

theorem linkKept_powerComplete (o : PowerOrigin) (st : Nat) (d : W32) : LinkKept s (powerComplete o st d s) := by
  unfold powerComplete
  split
  · split
    · exact linkKept_completeOutst ..
    · exact .refl s
  · exact .refl s

theorem linkKept_wakeEvent (bits at_ : Nat) : LinkKept s (wakeEvent bits at_ s) := .ite (.refl s) (linkKept_raise ..)

/-! ### Lanes, panels and modes -/

theorem linkKept_laneUpd (i : Nat) (f : Lane → Lane) : LinkKept s (laneUpd i f s) := ⟨rfl, rfl, List.prefix_rfl⟩

theorem linkKept_lanesDeep (p : Nat → Bool) : LinkKept s (lanesDeep p s) := .foldl (fun u _ => linkKept_laneUpd u ..) _ s

theorem linkKept_laneEnter (ovl cause i : Nat) : LinkKept s (laneEnter ovl cause i s) := (linkKept_raise ..).after rfl rfl rfl

theorem linkKept_laneLeave (cause i : Nat) : LinkKept s (laneLeave cause i s) := (linkKept_raise ..).after rfl rfl rfl

theorem linkKept_lanesWake (cause : Nat) (p : Nat → Bool) : LinkKept s (lanesWake cause p s) :=
  .foldl (fun u _ => linkKept_laneEnter u ..) _ s

theorem linkKept_lanesBack : LinkKept s (lanesBack s) := .foldl (fun u _ => linkKept_laneLeave u ..) _ s

theorem linkKept_gangLeave (now p : Nat) : LinkKept s (gangLeave now p s) := (linkKept_raise ..).after rfl rfl rfl

theorem linkKept_gangsLeave : LinkKept s (gangsLeave s) := .foldl (fun u _ => linkKept_gangLeave u ..) _ s

theorem linkKept_trialCommit : LinkKept s (trialCommit s) := by
  unfold trialCommit
  exact .ite (.refl s) (.ite ((linkKept_raise ..).after rfl rfl rfl) ⟨rfl, rfl, List.prefix_rfl⟩)

theorem linkKept_setMode (new : Mode) (cause sh port : Nat) : LinkKept s (setMode new cause sh port s) := by
  have raised (ws : List W32) (u : PowerUnit) (v : PairUnit) : LinkKept s (raise 0x51 ws (withPair (withPwr s u) v)) :=
    (linkKept_raise ..).after rfl rfl rfl
  have committed (ws : List W32) (u : PowerUnit) (v : PairUnit) : LinkKept s (if new == .ready then
      trialCommit (raise 0x51 ws (withPair (withPwr s u) v)) else raise 0x51 ws (withPair (withPwr s u) v)) :=
    .ite ((raised ..).trans (linkKept_trialCommit ..)) (raised ..)
  exact .ite ((committed ..).trans (linkKept_gangsLeave ..)) (committed ..)

/-! ### Safe hold (R630, R631) -/

theorem linkKept_drillEnd : LinkKept s (drillEnd s) := by
  unfold drillEnd
  split
  · exact (linkKept_raise ..).after rfl rfl rfl
  · exact .refl s

theorem linkKept_pairDrop : LinkKept s (pairDrop s) := (linkKept_drillEnd s).trans ⟨rfl, rfl, List.prefix_rfl⟩

theorem linkKept_domainDown (d : Nat) : LinkKept s (domainDown d s) := (linkKept_lanesDeep ..).after rfl rfl rfl

theorem linkKept_enterSafeHold (cause port : Nat) : LinkKept s (enterSafeHold cause port s) := by
  have entered := (linkKept_pairDrop s).trans (linkKept_setMode _ .safeHold 2 cause port)
  have caused (u : PowerUnit) : LinkKept s (withPwr (setMode .safeHold 2 cause port (pairDrop s)) u) :=
    entered.trans ⟨rfl, rfl, List.prefix_rfl⟩
  exact (caused _).trans (.foldl (fun u d => linkKept_domainDown u d) _ _)

theorem linkKept_safeHoldCause (cause port : Nat) : LinkKept s (safeHoldCause cause port s) := by
  unfold safeHoldCause
  exact .ite ⟨rfl, rfl, List.prefix_rfl⟩ (.ite (.refl s) (.ite ⟨rfl, rfl, List.prefix_rfl⟩ (linkKept_enterSafeHold ..)))

/-- The power unit `q` with what a Safe-hold cause sets as in `p`: the mode, AUTO, the cause, FAULT_N and the domains. -/
def holdPart (p q : PowerUnit) : PowerUnit :=
  { q with mode := p.mode, auto := p.auto, cause := p.cause, faultN := p.faultN, shDomains := p.shDomains, domains := p.domains,
           iso := p.iso, rising := p.rising }

/-- `q` differs from `p` at most in what a Safe-hold cause sets. -/
def HoldSets (p q : PowerUnit) : Prop := holdPart p q = p

theorem HoldSets.trans {p q r : PowerUnit} (h : HoldSets p q) (g : HoldSets q r) : HoldSets p r :=
  (congrArg (holdPart p) g : holdPart p (holdPart q r) = holdPart p q).trans h

@[simp] theorem pairDrop_pwr : (pairDrop s).pwr = s.pwr := drillEnd_pwr s

/-- Domains that leave service one after another change only the three masks of domains. -/
theorem domainsDown_sets (ds : List Nat) : HoldSets s.pwr (ds.foldl (fun st d => domainDown d st) s).pwr := by
  induction ds generalizing s with
  | nil => rfl
  | cons d ds ih =>
    refine HoldSets.trans ?_ (ih (domainDown d s))
    rw [domainDown_pwr]
    rfl

theorem enterSafeHold_sets (cause port : Nat) : HoldSets s.pwr (enterSafeHold cause port s).pwr := by
  refine HoldSets.trans ?_ (domainsDown_sets ..)
  rw [withPwr_pwr, setMode_pwr, pairDrop_pwr]
  rfl

theorem safeHoldCause_sets (cause port : Nat) : HoldSets s.pwr (safeHoldCause cause port s).pwr := by
  unfold safeHoldCause
  split
  · rfl
  · split
    · rfl
    · split
      · rfl
      · exact enterSafeHold_sets ..

end

end Sys2Proof.Machine
end

section
/-! SUPPORT. Power states: what a request meets, how entries and exits end, and which wake sources ask for Run; the obligation about them. -/

namespace Sys2Proof.Machine

/-! ### Requests (R619, R620, R622) -/

/-- The transition that a request begins. -/
def transBegun (tgt : PowerState) (o : PowerOrigin) (bits at_ : Nat) (s : State) : PowerTrans :=
  { source := s.pwr.state, target := tgt, since := t2Ns s, origin := o, entry := tgt != .run, wakeBits := bits, wakeAt := at_ }

/-- The block with a transition under way. -/
def withTrans (t : PowerTrans) (s : State) : State := withPwr s { s.pwr with trans := some t }

section
variable {tgt : PowerState} {o : PowerOrigin} {bits at_ : Nat} {s : State}

theorem powerStart_inForce (h : tgt = s.pwr.state) : powerStart tgt o bits at_ s = (s, .done) := if_pos h

variable (hnew : tgt ≠ s.pwr.state)
include hnew

theorem powerStart_run (h : tgt = .run) : powerStart tgt o bits at_ s = (withTrans (transBegun tgt o bits at_ s) s, .waits) :=
  (if_neg hnew).trans (if_pos h)

theorem powerStart_off (h : tgt = .off) (hmode : s.pwr.mode = .ready ∨ s.pwr.mode = .safeHold) :
    powerStart tgt o bits at_ s = (touchQuiesce (withTrans (transBegun tgt o bits at_ s) s), .waits) :=
  (if_neg hnew).trans ((if_neg (by simp [h])).trans ((if_pos h).trans (if_pos (by simpa using hmode))))

theorem powerStart_wrongMode (hrun : tgt ≠ .run) (hready : s.pwr.mode ≠ .ready) (hoff : s.pwr.mode ≠ .safeHold ∨ tgt ≠ .off) :
    powerStart tgt o bits at_ s = (s, .refused wrongMode) := by
  refine (if_neg hnew).trans ((if_neg hrun).trans ?_)
  by_cases h : tgt = .off
  · exact (if_pos h).trans (if_neg (by simpa [hready] using hoff.resolve_right (not_not_intro h)))
  · exact (if_neg h).trans (if_pos (by simpa using hready))

variable (hrun : tgt ≠ .run) (hoff : tgt ≠ .off) (hready : s.pwr.mode = .ready)
include hrun hoff hready

/-- A request for a sleeping state in Ready is judged by what is enabled. -/
theorem powerStart_sleep : powerStart tgt o bits at_ s = match busyWith s with
    | some n => (s, .refused (held 0xFF n))
    | none => (touchQuiesce (withTrans (transBegun tgt o bits at_ s) s), .waits) :=
  (if_neg hnew).trans ((if_neg hrun).trans ((if_neg hoff).trans (if_neg (by simp [hready]))))

theorem powerStart_sleeps (hbusy : busyWith s = none) :
    powerStart tgt o bits at_ s = (touchQuiesce (withTrans (transBegun tgt o bits at_ s) s), .waits) := by
  rw [powerStart_sleep hnew hrun hoff hready, hbusy]

theorem powerStart_busy {n : Nat} (hbusy : busyWith s = some n) : powerStart tgt o bits at_ s = (s, .refused (held 0xFF n)) := by
  rw [powerStart_sleep hnew hrun hoff hready, hbusy]

end

section
variable {tgt : PowerState} {o : PowerOrigin} {bits : Nat} {s : State}

theorem powerAsk_free (h : s.pwr.trans = none) : powerAsk tgt o bits s = powerStart tgt o bits (t2Ns s) s := by
  simp only [powerAsk, h]

variable {t : PowerTrans} (h : s.pwr.trans = some t)
include h

theorem powerAsk_aborts (hrun : tgt = .run) (hentry : t.entry = true) (hidle : t.target ≠ .idle) (hearly : t2Ns s - t.since < 310000) :
    powerAsk tgt o bits s = (powerAbort t bits (t2Ns s) s, .done) := by
  simp only [powerAsk, h]
  exact if_pos (by simp [hrun, hentry, hidle, beforeStep4, hearly])

theorem powerAsk_pends (hlate : tgt ≠ .run ∨ t.entry = false ∨ t.target = .idle ∨ 310000 ≤ t2Ns s - t.since) (hpend : s.pwr.pend = none) :
    powerAsk tgt o bits s =
      (withPwr s { s.pwr with pend := some { target := tgt, origin := o, wakeBits := bits, since := t2Ns s } }, .waits) := by
  simp only [powerAsk, h, hpend]
  refine if_neg ?_
  simp only [beforeStep4, Bool.and_eq_true, decide_eq_true_eq, bne_iff_ne]
  rintro ⟨⟨⟨hrun, hentry⟩, hidle⟩, hearly⟩
  rcases hlate with h | h | h | h
  · exact h hrun
  · simp [h] at hentry
  · exact hidle h
  · exact absurd hearly (Nat.not_lt.mpr h)

end

/-! ### POWER_STATE (R619) -/

/-- The reply of POWER_STATE to what its request meets. -/
def powerReply (n : Nat) : PowerAns → Reply
  | .done => .ok []
  | .refused r => r
  | .waits => .later n []

theorem opPowerState_asks {c : Cmd} {s v : State} {n : Nat} {r : PowerAns} (hn : n = fld (cw c 2) 2 0) (hle : n ≤ 4)
    (h : powerAsk (powerOf n) (.cmd c.port c.ring s.hif.cmdSeq) 0 s = (v, r)) : opPowerState c s = (v, powerReply n r) := by
  subst hn
  unfold opPowerState
  dsimp only
  rw [if_neg (Nat.not_lt.mpr hle), h]
  cases r <;> rfl

theorem opPowerState_range {c : Cmd} (s : State) (h : 4 < fld (cw c 2) 2 0) : opPowerState c s = (s, badField 8) := if_pos h

/-- A POWER_STATE that is taken makes its request. -/
theorem exec_powerState_asks {c : Cmd} {s u v : State} {n : Nat} {r : PowerAns} (hu : u = takeCmd c s) (h : Taken 0x0005 c s)
    (hn : n = fld (cw c 2) 2 0) (hle : n ≤ 4) (hask : powerAsk (powerOf n) (.cmd c.port c.ring u.hif.cmdSeq) 0 u = (v, r)) :
    exec (.powerState c) s = .next (answer 0x0005 c s (powerReply n r) v) := by
  subst hu
  exact congrArg Host.Outcome.next (hostCommand_answers h (opPowerState_asks hn hle hask))

/-! ### The end of a transition (R621, R623, R627) -/

@[simp] theorem powerComplete_pwr (o : PowerOrigin) (st : Nat) (d : W32) (s : State) : (powerComplete o st d s).pwr = s.pwr :=
  (powerComplete_frame o st d s (Agree.refl {} s)).pwr.resolve_left Bool.false_ne_true

@[simp] theorem lanesDeep_pwr (p : Nat → Bool) (s : State) : (lanesDeep p s).pwr = s.pwr :=
  (lanesDeep_agree p s).pwr.resolve_left Bool.false_ne_true

@[simp] theorem lanesWake_pwr (cause : Nat) (p : Nat → Bool) (s : State) : (lanesWake cause p s).pwr = s.pwr :=
  (lanesWake_frame cause p s (Agree.refl { lane := true } s) rfl).pwr.resolve_left Bool.false_ne_true

@[simp] theorem wakeEvent_pwr (bits at_ : Nat) (s : State) : (wakeEvent bits at_ s).pwr = s.pwr :=
  (wakeEvent_frame bits at_ s (Agree.refl {} s)).pwr.resolve_left Bool.false_ne_true

@[simp] theorem linkLoss_pwr (s : State) : (linkLoss s).pwr = s.pwr :=
  (linkLoss_frame s (Agree.refl {} s)).pwr.resolve_left Bool.false_ne_true

@[simp] theorem vcoreHold_pwr (mv : Nat) (s : State) : (vcoreHold mv s).pwr = { s.pwr with vcore := mv } := by
  unfold vcoreHold
  dsimp only
  split <;> rfl

@[simp] theorem t2Ns_linkLoss (s : State) : t2Ns (linkLoss s) = t2Ns s := by
  simp only [t2Ns, (linkLoss_frame s (Agree.refl {} s)).tb.resolve_left Bool.false_ne_true]

/-- The module in Off: only PD0 is on, the host link is down, and FAULT_N stays as it is. -/
theorem enterOff_pwr (s : State) : (enterOff s).pwr = { s.pwr with
    state := .off, vcore := 0, trans := none, pend := none, owed := none, stateSince := t2Ns s, iso := 0x7FFE, domains := 1
    rising := 0 } := by
  simp [enterOff]

/-- The state that an entry ends in. -/
def entered : PowerState → PowerState
  | .idle => .idle | .sleep => .sleep | .deepSleep => .deepSleep | _ => .off

theorem entryEnd_enters (t : PowerTrans) (s : State) :
    (entryEnd t s).pwr.state = entered t.target ∧ (entryEnd t s).pwr.trans = none := by
  unfold entryEnd
  cases ht : t.target <;> simp [entered, enterOff_pwr]

/-- The block as an exit resumes Run: VCORE back, and after Deep sleep the link, the time bases and the lanes. -/
def exitResumed (t : PowerTrans) (env : ExitEnv) (s : State) : State :=
  let s0 := withPwr s { s.pwr with owed := none }
  let s1 := if t.source == .deepSleep || t.source == .sleep then vcoreHold s0.pwr.vcmd s0 else s0
  resumeRun (if t.source == .deepSleep then
    lanesBack (deepTimes { s1 with hif := { s1.hif with link := env.link, linkUp := true } }) else s1)

/-- The reports of an exit. -/
def exitReported (t : PowerTrans) (s u : State) : State :=
  let s5 := match s.pwr.owed with | some w => raise 0x50 w u | none => u
  gangsLeave (powerComplete t.origin 0 0 (wakeEvent t.wakeBits t.wakeAt
    (raise 0x50 (powerWords .run t.source (if t.wakeBits != 0 then 2 else 0) s) s5)))

theorem exitEnd_eq (t : PowerTrans) (env : ExitEnv) (s : State) : exitEnd t env s =
    let u := exitReported t s (exitResumed t env s)
    if t.source == .deepSleep && !env.helpersOk then safeHoldCause 4 0xFF (withPwr u { u.pwr with fwMiss := true }) else u := rfl

theorem resumeRun_pwr (s : State) : (resumeRun s).pwr.state = .run ∧ (resumeRun s).pwr.trans = none := by
  simp [resumeRun]

theorem exitReported_keeps (t : PowerTrans) (s u : State) : LinkKept u (exitReported t s u) ∧
    Agree { touch := true } u (exitReported t s u) := by
  have owed : LinkKept u (match s.pwr.owed with | some w => raise 0x50 w u | none => u) ∧
      Agree { touch := true } u (match s.pwr.owed with | some w => raise 0x50 w u | none => u) := by
    cases s.pwr.owed with
    | none => exact ⟨.refl u, .refl _ u⟩
    | some w => exact ⟨linkKept_raise .., raise_frame _ _ _ (.refl _ u)⟩
  exact ⟨owed.1.trans ((linkKept_raise ..).trans ((linkKept_wakeEvent ..).trans ((linkKept_powerComplete ..).trans (linkKept_gangsLeave _)))),
    gangsLeave_frame _ (powerComplete_frame _ _ _ _ (wakeEvent_frame _ _ _ (raise_frame _ _ _ owed.2))) rfl⟩

theorem HoldSets.run {p q : PowerUnit} (h : HoldSets p q) : q.state = p.state ∧ q.trans = p.trans :=
  ⟨(congrArg PowerUnit.state (show holdPart p q = p from h) :), (congrArg PowerUnit.trans (show holdPart p q = p from h) :)⟩

theorem exitEnd_run (t : PowerTrans) (env : ExitEnv) (s : State) :
    (exitEnd t env s).pwr.state = .run ∧ (exitEnd t env s).pwr.trans = none := by
  have resumed : (exitResumed t env s).pwr.state = .run ∧ (exitResumed t env s).pwr.trans = none := resumeRun_pwr _
  rw [← (exitReported_keeps t s _).2.pwr.resolve_left Bool.false_ne_true] at resumed
  rw [exitEnd_eq]
  dsimp only
  split
  · obtain ⟨hstate, htrans⟩ := (safeHoldCause_sets (withPwr (exitReported t s (exitResumed t env s))
      { (exitReported t s (exitResumed t env s)).pwr with fwMiss := true }) 4 0xFF).run
    exact ⟨hstate.trans resumed.1, htrans.trans resumed.2⟩
  · exact resumed

theorem setT0State_state (new : T0State) (cause : Nat) (s : State) : (setT0State new cause s).tb.state = new := by
  unfold setT0State
  dsimp only
  split
  · next h => exact h
  · rw [raise_tb]
    split <;> rfl

theorem linkKept_setT0State (new : T0State) (cause : Nat) (s : State) : LinkKept s (setT0State new cause s) := by
  unfold setT0State
  dsimp only
  split
  · exact .refl s
  · refine (linkKept_raise ..).after ?_ ?_ ?_ <;> split <;> rfl

theorem linkKept_deepTimes (s : State) : LinkKept s (deepTimes s) := (linkKept_setT0State ..).after rfl rfl rfl

theorem linkKept_resumeRun (s : State) : LinkKept s (resumeRun s) := (linkKept_lanesWake ..).after rfl rfl rfl

/-- An exit from Deep sleep resumes Run with the host link up and T0 UNSET. -/
theorem exitResumed_deep {t : PowerTrans} (env : ExitEnv) (s : State) (h : t.source = .deepSleep) :
    (exitResumed t env s).hif.linkUp = true ∧ (exitResumed t env s).tb.state = .unset := by
  have back (u : State) (hup : u.hif.linkUp = true) :
      (resumeRun (lanesBack (deepTimes u))).hif.linkUp = true ∧ (resumeRun (lanesBack (deepTimes u))).tb.state = .unset := by
    have link := (linkKept_deepTimes u).trans ((linkKept_lanesBack _).trans (linkKept_resumeRun _))
    have times := resumeRun_frame (m := { mem := true, pwr := true, lane := true }) _
      (lanesBack_frame _ (Agree.refl _ (deepTimes u)) rfl) rfl rfl rfl
    exact ⟨link.linkUp.trans hup,
      (congrArg TimeUnit.state (times.tb.resolve_left Bool.false_ne_true)).trans (setT0State_state ..)⟩
  simp only [exitResumed, h, beq_self_eq_true, if_true]
  exact back _ rfl

/-- After Deep sleep the host link is up and T0 is UNSET. -/
theorem exitEnd_deep {t : PowerTrans} (env : ExitEnv) (s : State) (h : t.source = .deepSleep) :
    (exitEnd t env s).hif.linkUp = true ∧ (exitEnd t env s).tb.state = .unset := by
  obtain ⟨hlink, hstate⟩ := exitResumed_deep env s h
  obtain ⟨link, frame⟩ := exitReported_keeps t s (exitResumed t env s)
  replace hlink := link.linkUp.trans hlink
  replace hstate := (congrArg TimeUnit.state (frame.tb.resolve_left Bool.false_ne_true)).trans hstate
  rw [exitEnd_eq]
  dsimp only
  split
  · have held := safeHoldCause_frame 4 0xFF _ (Agree.refl { pwr := true, boot := true, lane := true, pair := true, touch := true }
      (withPwr (exitReported t s (exitResumed t env s)) { (exitReported t s (exitResumed t env s)).pwr with fwMiss := true })) rfl rfl rfl rfl rfl
    exact ⟨(linkKept_safeHoldCause ..).linkUp.trans hlink,
      (congrArg TimeUnit.state (held.tb.resolve_left Bool.false_ne_true)).trans hstate⟩
  · exact ⟨hlink, hstate⟩

/-! ### POWER_TRANSITION_END -/

section
variable {t : PowerTrans} {env : ExitEnv} {s : State}

theorem transitionEnd_none (h : s.pwr.trans = none) : transitionEnd env s = s := by simp only [transitionEnd, h]

theorem transitionEnd_early (h : s.pwr.trans = some t) (hentry : t.entry = true)
    (hearly : t2Ns s - t.since < (if t.target = .idle then 300000 else 310000)) : transitionEnd env s = s := by
  simp only [transitionEnd, h, hentry, hearly, if_true]

theorem transitionEnd_entry (h : s.pwr.trans = some t) (hentry : t.entry = true)
    (hdue : (if t.target = .idle then 300000 else 310000) ≤ t2Ns s - t.since) :
    transitionEnd env s = levelWake (powerPending (entryEnd t s)) := by
  simp only [transitionEnd, h, hentry, Nat.not_lt.mpr hdue, if_true, if_false]

theorem transitionEnd_exit (h : s.pwr.trans = some t) (hexit : t.entry = false) :
    transitionEnd env s = powerPending (exitEnd t env s) := by
  simp only [transitionEnd, h, hexit, Bool.false_eq_true, if_false]

end

/-! ### PWC_REQ_GO (R620) -/

/-- PWC_REQ with the state written. -/
def withReq (n : Nat) (s : State) : State := withPwr s { s.pwr with reqState := n }

/-- What a write of PWC_REQ leaves of what its request met. -/
def pwcAnswered (init : Nat) (v : W32) (w : State) : PowerAns → State
  | .refused _ => paramRefused init 0x1004 v w
  | _ => w

section
variable {init : Nat} {v : W32} {s w : State} {r : PowerAns}

theorem pwcReqWrite_idle (h : bitOf v 31 = false) : pwcReqWrite init v s = withReq (fld v 2 0) s := if_pos (by simp [h])

variable (hgo : bitOf v 31 = true)
include hgo

theorem pwcReqWrite_range (h : 4 < fld v 2 0) : pwcReqWrite init v s = paramRefused init 0x1004 v (withReq (fld v 2 0) s) :=
  (if_neg (by simp [hgo])).trans (if_pos h)

/-- A request makes its wake, with the bits it is counted under. -/
theorem pwcReqWrite_asks {bits : Nat} (hle : fld v 2 0 ≤ 4)
    (hbits : (if fld v 2 0 = 0 && (s.pwr.state = .idle || s.pwr.state = .sleep) then 8 else 0) = bits)
    (hask : powerAsk (powerOf (fld v 2 0)) .reg bits
      (withPwr (withReq (fld v 2 0) s) { (withReq (fld v 2 0) s).pwr with wakeStat := s.pwr.wakeStat ||| bits }) = (w, r)) :
    pwcReqWrite init v s = pwcAnswered init v w r := by
  subst hbits
  refine (if_neg (by simp [hgo])).trans ((if_neg (Nat.not_lt.mpr hle)).trans ?_)
  dsimp only [withReq, withPwr_pwr] at hask ⊢
  rw [hask]
  cases r <;> rfl

/-- A request that is no wake. -/
theorem pwcReqWrite_plain (hle : fld v 2 0 ≤ 4) (hwake : fld v 2 0 ≠ 0 ∨ (s.pwr.state ≠ .idle ∧ s.pwr.state ≠ .sleep))
    (hask : powerAsk (powerOf (fld v 2 0)) .reg 0 (withReq (fld v 2 0) s) = (w, r)) :
    pwcReqWrite init v s = pwcAnswered init v w r := by
  have same : withPwr (withReq (fld v 2 0) s) { (withReq (fld v 2 0) s).pwr with wakeStat := s.pwr.wakeStat ||| 0 } =
      withReq (fld v 2 0) s := by
    rw [Nat.or_zero]; rfl
  refine pwcReqWrite_asks hgo hle (if_neg ?_) (same ▸ hask)
  simp only [Bool.and_eq_true, Bool.or_eq_true, decide_eq_true_eq]
  rintro ⟨hzero, hstate⟩
  rcases hwake with hne | ⟨hidle, hsleep⟩
  · exact hne hzero
  · exact hstate.elim hidle hsleep

end

theorem exec_pwcReqGo {a : RegW} {s : State} (h : Writes 0x1004 a s) : exec (.pwcReqGo a) s = .next (pwcReqWrite a.init a.val s) :=
  congrArg Host.Outcome.next (regWrite_writes (pwcReqInfo s) _ h)

/-! ### Wake sources (R624, R626) -/

/-- A wake with no transition under way begins the exit. -/
theorem wakeUp_begins {bit : Nat} {s : State} (htrans : s.pwr.trans = none) (hstate : s.pwr.state ≠ .run) :
    wakeUp bit s = withPwr s { s.pwr with
      wakeStat := s.pwr.wakeStat ||| 2 ^ bit, trans := some (transBegun .run .wake (2 ^ bit) (t2Ns s) s) } :=
  congrArg Prod.fst ((powerAsk_free (s := withPwr s { s.pwr with wakeStat := s.pwr.wakeStat ||| 2 ^ bit }) htrans).trans
    (powerStart_run (Ne.symm hstate) rfl))

section
variable {level : Bool} {s : State}

theorem wakePin_quiet (h : pinActive s.pwr level = false ∨ (s.pwr.state = .run ∧ s.pwr.trans = none)) :
    wakePin level s = withPwr s { s.pwr with wakeLevel := level } := by
  cases hpin : pinActive s.pwr level with
  | false => exact if_pos (by simp [hpin])
  | true =>
    obtain ⟨hrun, hnone⟩ := h.resolve_left (by simp [hpin])
    exact (if_neg (by simp [hpin])).trans ((if_neg (by simp [hrun])).trans (if_pos (by simp [hrun, hnone])))

variable (hpin : pinActive s.pwr level = true)
include hpin

theorem wakePin_off (hoff : s.pwr.state = .off) (hreset : s.boot.resetN = true) : wakePin level s =
    withBoot (withPwr s { s.pwr with wakeLevel := level }) { s.boot with restartAt := some 0 } :=
  (if_neg (by simp [hpin])).trans ((if_pos hoff).trans (if_pos hreset))

theorem wakePin_wakes (hsleep : s.pwr.state = .idle ∨ s.pwr.state = .sleep ∨ s.pwr.state = .deepSleep) (hnone : s.pwr.trans = none) :
    wakePin level s = wakeUp 0 (withPwr s { s.pwr with wakeLevel := level }) := by
  have hoff : s.pwr.state ≠ .off := by rcases hsleep with h | h | h <;> simp [h]
  have hrun : s.pwr.state ≠ .run := by rcases hsleep with h | h | h <;> simp [h]
  exact (if_neg (by simp [hpin])).trans ((if_neg hoff).trans (if_neg (by simp [hrun, edgeLost, hnone])))

end

theorem hostAccessWake_wakes {s : State} (hsleep : s.pwr.state = .idle ∨ s.pwr.state = .sleep) (hnone : s.pwr.trans = none) :
    hostAccessWake s = wakeUp 1 s := if_pos (by simpa [hnone] using hsleep)

theorem hostAccessWake_awake {s : State} (hidle : s.pwr.state ≠ .idle) (hsleep : s.pwr.state ≠ .sleep) : hostAccessWake s = s :=
  if_neg (by simp [hidle, hsleep])

theorem busyWith_takeCmd (c : Cmd) (s : State) : busyWith (takeCmd c s) = busyWith s := takeCmd_same busyWith (fun _ _ => rfl) c s

/-- Settles O33: a request meets what the state in force and the mode allow, and the end of a transition and a wake act as their lemmas
say. -/
theorem powerRequestsAndTransitions : Obligations.PowerRequestsAndTransitions := by
  refine ⟨?_, ?_, ?_, ?_, ?_, ?_, ?_, ?_, ?_, ?_⟩
  case refine_1 =>
    intro c s u n tr hu hc hn hle hnone htr
    have hpwr : u.pwr = s.pwr := by rw [hu, takeCmd_pwr]
    have hnow : t2Ns u = t2Ns s := by rw [hu, t2Ns_takeCmd]
    have hbusy : busyWith u = busyWith s := by rw [hu, busyWith_takeCmd]
    rw [← hpwr, ← hnow] at htr
    subst htr
    rw [← hbusy, ← hpwr]
    have free := powerAsk_free (tgt := powerOf n) (o := .cmd c.port c.ring u.hif.cmdSeq) (bits := 0) ((congrArg PowerUnit.trans hpwr).trans hnone)
    exact ⟨fun hst => exec_powerState_asks hu hc hn hle (free.trans (powerStart_inForce hst)),
      fun hst hoff hmode => exec_powerState_asks hu hc hn hle (free.trans (powerStart_off hst hoff hmode)),
      fun hst hrun hoff hready hb => exec_powerState_asks hu hc hn hle (free.trans (powerStart_sleeps hst hrun hoff hready hb)),
      fun hst hrun hready hoff => exec_powerState_asks hu hc hn hle (free.trans (powerStart_wrongMode hst hrun hready hoff)),
      fun o hst hrun hoff hready hb => exec_powerState_asks hu hc hn hle (free.trans (powerStart_busy hst hrun hoff hready hb))⟩
  case refine_2 =>
    intro c s u v n r hu hc hn
    refine ⟨fun hle hask => (exec_powerState_asks hu hc hn hle hask).trans (by cases r <;> rfl), fun hrange => ?_⟩
    subst hu hn
    exact congrArg Host.Outcome.next (hostCommand_answers hc (opPowerState_range _ hrange))
  case refine_3 =>
    intro c s u n tr p hu hc hn hle htrans hp
    have hpwr : u.pwr = s.pwr := by rw [hu, takeCmd_pwr]
    have hnow : t2Ns u = t2Ns s := by rw [hu, t2Ns_takeCmd]
    rw [← hnow] at hp
    subst hp
    rw [← hpwr] at htrans ⊢
    rw [← hnow]
    exact ⟨fun hrun hentry hidle hearly => exec_powerState_asks hu hc hn hle (powerAsk_aborts htrans hrun hentry hidle hearly),
      fun hlate hpend => exec_powerState_asks hu hc hn hle (powerAsk_pends htrans hlate hpend)⟩
  case refine_4 =>
    intro env s tr htrans
    exact ⟨fun hentry hearly => congrArg Host.Outcome.next (transitionEnd_early htrans hentry hearly),
      fun hentry hdue => congrArg Host.Outcome.next (transitionEnd_entry htrans hentry hdue),
      fun hexit => congrArg Host.Outcome.next (transitionEnd_exit htrans hexit)⟩
  case refine_5 => exact fun env s hnone => congrArg Host.Outcome.next (transitionEnd_none hnone)
  case refine_6 =>
    intro tr s
    obtain ⟨hstate, htrans⟩ := entryEnd_enters tr s
    refine ⟨hstate.trans ?_, htrans⟩
    cases tr.target <;> rfl
  case refine_7 =>
    intro tr env s
    obtain ⟨hstate, htrans⟩ := exitEnd_run tr env s
    exact ⟨hstate, htrans, exitEnd_deep env s⟩
  case refine_8 =>
    intro a s s1 n tr hw hn htr hs1
    subst hn htr hs1
    rw [exec_pwcReqGo hw]
    refine ⟨fun hgo => congrArg _ (pwcReqWrite_idle hgo), fun hgo hrange => congrArg _ (pwcReqWrite_range hgo hrange),
      fun hgo hle hnone hst hrun hoff hready hbusy => ?_, fun v r hgo hle hwake hask => ?_, fun v r hgo hzero hsleep hask => ?_⟩
    · have hzero : fld a.val 2 0 ≠ 0 := fun h => hrun (by rw [h]; rfl)
      have entry : (powerOf (fld a.val 2 0) != .run) = true := bne_iff_ne.mpr hrun
      rw [pwcReqWrite_plain hgo hle (.inl hzero) ((powerAsk_free (s := withReq (fld a.val 2 0) s) hnone).trans
        (powerStart_sleeps hst hrun hoff hready hbusy)), transBegun, entry]
      rfl
    · rw [pwcReqWrite_plain hgo hle hwake hask]
      cases r <;> rfl
    · have hle : fld a.val 2 0 ≤ 4 := by omega
      have bits : (if fld a.val 2 0 = 0 && (s.pwr.state = .idle || s.pwr.state = .sleep) then 8 else 0) = 8 :=
        if_pos (by simpa [hzero] using hsleep)
      have run : powerOf (fld a.val 2 0) = .run := by rw [hzero]; rfl
      rw [← run] at hask
      rw [pwcReqWrite_asks hgo hle bits hask]
      cases r <;> rfl
  case refine_9 =>
    intro level s s1 tr hs1 htr
    subst hs1 htr
    refine ⟨fun h => congrArg Host.Outcome.next (wakePin_quiet h),
      fun hpin hoff hreset => congrArg Host.Outcome.next (wakePin_off hpin hoff hreset), fun hpin hsleep hnone => ?_⟩
    have hrun : s.pwr.state ≠ .run := by rcases hsleep with h | h | h <;> simp [h]
    exact congrArg Host.Outcome.next ((wakePin_wakes hpin hsleep hnone).trans (wakeUp_begins hnone hrun))
  case refine_10 =>
    intro s tr hnone htr
    subst htr
    refine ⟨fun hsleep => ?_, fun hidle hsleep => congrArg Host.Outcome.next (hostAccessWake_awake hidle hsleep)⟩
    have hrun : s.pwr.state ≠ .run := by rcases hsleep with h | h <;> simp [h]
    exact congrArg Host.Outcome.next ((hostAccessWake_wakes hsleep hnone).trans (wakeUp_begins hnone hrun))

end Sys2Proof.Machine
end

section
/-! SUPPORT. Domains, temperatures and watchdogs: what DOMAIN_SET switches, when a domain is ready, and what enters Off or Safe hold; the
obligation about them. -/

namespace Sys2Proof.Machine

/-! ### Domains switched one after another (R615, R616) -/

theorem bitOf_domain {k : Nat} (hk : k < 32) (d : Nat) : bitOf (w32 (2 ^ d)) k = (k == d) := by
  rw [bitOf_two_pow hk, beq_eq_decide, decide_eq_decide]
  exact eq_comm

/-- A domain switched on is marked as coming up if it is off, and nothing else changes. -/
theorem domainUp_rising (d : Nat) (s : State) : ∃ r : W32, domainUp d s = withPwr s { s.pwr with rising := r } ∧
    ∀ k, k < 32 → bitOf r k = (bitOf s.pwr.rising k || (k == d && !bitOf s.pwr.domains k)) := by
  cases hon : bitOf s.pwr.domains d with
  | true =>
    refine ⟨s.pwr.rising, if_pos hon, fun k _ => ?_⟩
    by_cases hd : k = d
    · simp [hd, hon]
    · simp [hd]
  | false =>
    refine ⟨s.pwr.rising ||| w32 (2 ^ d), if_neg (by simp [hon]), fun k hk => ?_⟩
    rw [bitOf_or, bitOf_domain hk]
    by_cases hd : k = d
    · simp [hd, hon]
    · rw [beq_false_of_ne hd, Bool.false_and]

/-- Domains switched on mark each that is off as coming up, and change nothing else. -/
theorem domainsUp_rising (ds : List Nat) (s : State) : ∃ r : W32, ds.foldl (fun st d => domainUp d st) s = withPwr s { s.pwr with rising := r } ∧
    ∀ k, k < 32 → bitOf r k = (bitOf s.pwr.rising k || (decide (k ∈ ds) && !bitOf s.pwr.domains k)) := by
  induction ds generalizing s with
  | nil => exact ⟨s.pwr.rising, rfl, fun k _ => by simp⟩
  | cons d ds ih =>
    obtain ⟨r, heq, hbits⟩ := ih (domainUp d s)
    obtain ⟨q, hup, hq⟩ := domainUp_rising d s
    refine ⟨r, by rw [List.foldl_cons, heq, hup]; rfl, fun k hk => ?_⟩
    rw [hbits k hk, hup, List.decide_mem_cons, Bool.and_or_distrib_right, ← Bool.or_assoc]
    exact congrArg (· || _) (hq k hk)

/-- Domains switched off are off and isolated; the other domains stay. -/
theorem domainsDown_bits (ds : List Nat) (s : State) {k : Nat} (hk : k < 32) :
    bitOf (ds.foldl (fun st d => domainDown d st) s).pwr.domains k = (bitOf s.pwr.domains k && !decide (k ∈ ds)) ∧
      bitOf (ds.foldl (fun st d => domainDown d st) s).pwr.iso k = (bitOf s.pwr.iso k || decide (k ∈ ds)) := by
  induction ds generalizing s with
  | nil => simp
  | cons d ds ih =>
    obtain ⟨hdomains, hiso⟩ := ih (domainDown d s)
    rw [List.foldl_cons, hdomains, hiso, domainDown_pwr]
    simp only [bitOf_and, bitOf_or, bitOf_not hk, bitOf_domain hk, List.decide_mem_cons, Bool.not_or, Bool.and_assoc, Bool.or_assoc,
      and_self]

/-- Domains switched off leave the memory, the mode and the power state. -/
theorem domainsDown_leaves (ds : List Nat) (s : State) : (ds.foldl (fun st d => domainDown d st) s).mem = s.mem ∧
    (ds.foldl (fun st d => domainDown d st) s).pwr.mode = s.pwr.mode ∧
    (ds.foldl (fun st d => domainDown d st) s).pwr.state = s.pwr.state := by
  induction ds generalizing s with
  | nil => exact ⟨rfl, rfl, rfl⟩
  | cons d ds ih =>
    obtain ⟨hmem, hmode, hstate⟩ := ih (domainDown d s)
    have frame := domainDown_frame (m := { pwr := true, lane := true }) d s (.refl _ s) rfl rfl
    exact ⟨hmem.trans (frame.mem.resolve_left Bool.false_ne_true), hmode.trans (by rw [domainDown_pwr]),
      hstate.trans (by rw [domainDown_pwr])⟩

/-! ### DOMAIN_SET (R615, R616) -/

/-- The domains that DOMAIN_SET names. -/
def domainsNamed (c : Cmd) : List Nat := (List.range 15).filter fun d => bitOf (cw c 2) d

/-- A domain that DOMAIN_SET may name. -/
def Switchable (d : Nat) : Prop := d ≠ 0 ∧ d ≠ 1 ∧ d ≠ 2 ∧ d ≠ 3 ∧ d ≠ 13

section
variable {c : Cmd} {s : State}

theorem opDomainSet_checked (c : Cmd) (s : State) : opDomainSet c s =
    if ((domainsNamed c).any fun d => d ∈ [0, 1, 2, 3, 13]) = true then (s, badField 8)
    else if (!bitOf (cw c 3) 0 && ((domainsNamed c).find? fun d => !domainFree s d).isSome) = true then
      (s, held 0xFF (((domainsNamed c).find? fun d => !domainFree s d).getD 0))
    else ((domainsNamed c).foldl (fun st d => if bitOf (cw c 3) 0 then domainUp d st else domainDown d st) s, .ok []) := by
  simp only [opDomainSet, checked_cons, checked_nil, domainsNamed]
  rfl

theorem opDomainSet_forbidden (h : ∃ d ∈ domainsNamed c, d = 0 ∨ d = 1 ∨ d = 2 ∨ d = 3 ∨ d = 13) : opDomainSet c s = (s, badField 8) := by
  have any : (domainsNamed c).any (fun d => d ∈ [0, 1, 2, 3, 13]) = true := by simpa using h
  exact (opDomainSet_checked c s).trans (if_pos any)

variable (hall : ∀ d ∈ domainsNamed c, Switchable d)
include hall

/-- A DOMAIN_SET of domains that it may name is judged by what is in use. -/
theorem opDomainSet_eq : opDomainSet c s =
    if (!bitOf (cw c 3) 0 && ((domainsNamed c).find? fun d => !domainFree s d).isSome) = true then
      (s, held 0xFF (((domainsNamed c).find? fun d => !domainFree s d).getD 0))
    else ((domainsNamed c).foldl (fun st d => if bitOf (cw c 3) 0 then domainUp d st else domainDown d st) s, .ok []) := by
  have none : ¬ (domainsNamed c).any (fun d => d ∈ [0, 1, 2, 3, 13]) = true := by
    simpa [Switchable] using hall
  exact (opDomainSet_checked c s).trans (if_neg none)

theorem opDomainSet_on (hon : bitOf (cw c 3) 0 = true) :
    opDomainSet c s = ((domainsNamed c).foldl (fun st d => domainUp d st) s, .ok []) := by
  rw [opDomainSet_eq hall, hon]
  rfl

theorem opDomainSet_off (hoff : bitOf (cw c 3) 0 = false) (hfree : ∀ d ∈ domainsNamed c, domainFree s d = true) :
    opDomainSet c s = ((domainsNamed c).foldl (fun st d => domainDown d st) s, .ok []) := by
  have idle : ((domainsNamed c).find? fun d => !domainFree s d) = none := by
    rw [List.find?_eq_none]
    intro d hd
    simp [hfree d hd]
  rw [opDomainSet_eq hall, hoff, idle]
  rfl

theorem opDomainSet_stuck {d : Nat} (hoff : bitOf (cw c 3) 0 = false)
    (hstuck : ((domainsNamed c).find? fun d => !domainFree s d) = some d) : opDomainSet c s = (s, held 0xFF d) := by
  rw [opDomainSet_eq hall, hoff, hstuck]
  rfl

end

/-- A command whose supply is met is applied at once. -/
theorem supplied_met {op : Nat} {f : Cmd → State → State × Reply} {c : Cmd} {s : State} (h : supplyMet s (supplyNeeds op f c s) = true) :
    supplied op f c s = f c s := if_pos h

/-- DOMAIN_SET off waits for no supply: R610 does not name it. -/
theorem supplied_domainSet_off {c : Cmd} {s t : State} {ws : List W32} (hoff : bitOf (cw c 3) 0 = false) (h : opDomainSet c s = (t, .ok ws)) :
    supplied 0x0006 opDomainSet c s = (t, .ok ws) := by
  have hneeds : supplyNeeds 0x0006 opDomainSet c s = [] := by simp [supplyNeeds, supplyState, h, hoff]
  rw [supplied_met (by simp [hneeds, supplyMet]), h]

theorem exec_domainSet {c : Cmd} {s t : State} {r : Reply} (h : Taken 0x0006 c s)
    (hf : supplied 0x0006 opDomainSet c (takeCmd c s) = (t, r)) : exec (.domainSet c) s = .next (answer 0x0006 c s r t) :=
  congrArg Host.Outcome.next (hostCommand_answers h hf)

theorem domainFree_takeCmd (c : Cmd) (s : State) : domainFree (takeCmd c s) = domainFree s := takeCmd_same domainFree (fun _ _ => rfl) c s

/-! ### DOMAIN_READY (R616) -/

theorem domainReady_idle {d : Nat} {s : State} (h : bitOf s.pwr.rising d = false) : domainReady d s = s := if_pos (by simp [h])

section
variable {d : Nat} {s : State} (h : bitOf s.pwr.rising d = true)
include h

theorem domainReady_pwr : (domainReady d s).pwr = { s.pwr with
    domains := s.pwr.domains ||| w32 (2 ^ d), iso := s.pwr.iso &&& ~~~(w32 (2 ^ d)), rising := s.pwr.rising &&& ~~~(w32 (2 ^ d)) } := by
  simp [domainReady, h]

theorem domainReady_bits {k : Nat} (hk : k < 32) :
    bitOf (domainReady d s).pwr.domains k = (bitOf s.pwr.domains k || k == d) ∧
      bitOf (domainReady d s).pwr.iso k = (bitOf s.pwr.iso k && k != d) ∧
      bitOf (domainReady d s).pwr.rising k = (bitOf s.pwr.rising k && k != d) := by
  simp only [domainReady_pwr h, bitOf_and, bitOf_or, bitOf_not hk, bitOf_domain hk]
  exact ⟨trivial, rfl, rfl⟩

end

theorem domainReady_leaves (d : Nat) (s : State) : (domainReady d s).mem = s.mem ∧ (domainReady d s).scan = s.scan := by
  have frame := domainReady_frame (m := { pwr := true, lane := true }) d s (.refl _ s) rfl rfl
  exact ⟨frame.mem.resolve_left Bool.false_ne_true, frame.scan.resolve_left Bool.false_ne_true⟩

/-! ### Temperature (R614) -/

/-- The power unit with new readings of the lid and of the hottest junction. -/
def thermalRead (lid j : W16) (s : State) : PowerUnit :=
  let hot := aboveNow 1840 s.pwr.hot115 j.toInt
  { s.pwr with lidTemp := lid, junctionTemp := j, hotLid := aboveNow 1520 s.pwr.hotLid lid.toInt,
               hotJunction := aboveNow 1680 s.pwr.hotJunction j.toInt, hot115 := hot,
               hot115At := if hot && !s.pwr.hot115 then t2Ns s else s.pwr.hot115At,
               hotGoneAt := if s.pwr.hot115 && !hot then t2Ns s else s.pwr.hotGoneAt }

/-- The report of a threshold crossed, and none of one that is not. -/
def crossed (lid j : W16) (k : Nat) (old new : Bool) (s : State) : State := if new != old then thermalEvent k new lid j s else s

theorem thermalCrossing_reads {lid j : W16} {s : State} (h : s.pwr.state ≠ .off) :
    thermalCrossing lid j s = crossed lid j 3 s.pwr.hot115 (thermalRead lid j s).hot115
      (crossed lid j 2 s.pwr.hotJunction (thermalRead lid j s).hotJunction
        (crossed lid j 1 s.pwr.hotLid (thermalRead lid j s).hotLid (withPwr s (thermalRead lid j s)))) := if_neg h

theorem crossed_eq (lid j : W16) (k : Nat) (old new : Bool) (s : State) : crossed lid j k old new s =
    if new = old then s else raise 0x54 [pack [(31, 24, k), (23, 23, b1 new)], pack [(31, 16, lid.toNat), (15, 0, j.toNat)]] s := by
  by_cases h : new = old
  · exact (if_neg (by simp [h])).trans (if_pos h).symm
  · exact (if_pos (by simpa using h)).trans (if_neg h).symm

theorem thermalTrip_off {j : W16} {s : State} (h : s.pwr.state = .off) : thermalTrip j s = s := if_pos (by simp [h])

theorem thermalTrip_below {j : W16} {s : State} (h : j.toInt ≤ 2000) : thermalTrip j s = s := if_pos (by simp [h])

theorem thermalTrip_above {j : W16} {s : State} (hoff : s.pwr.state ≠ .off) (h : 2000 < j.toInt) :
    thermalTrip j s = enterOff (withPwr s { s.pwr with junctionTemp := j, faultN := true }) := if_neg (by simp [hoff, h])

theorem enterOff_linkUp (s : State) : (enterOff s).hif.linkUp = false := rfl

/-! ### Safe-hold causes (R614, R630, R631) -/

theorem junctionOverheat_due {s : State} (hhot : s.pwr.hot115 = true) (hdue : s.pwr.hot115At + 100000000 ≤ t2Ns s)
    (hrun : s.pwr.state = .run) : junctionOverheat s = safeHoldCause 1 0xFF s := if_pos (by simp [hhot, hdue, hrun])

theorem junctionOverheat_early {s : State} (h : s.pwr.hot115 = false ∨ t2Ns s < s.pwr.hot115At + 100000000 ∨ s.pwr.state ≠ .run) :
    junctionOverheat s = s := by
  refine if_neg ?_
  simp only [Bool.and_eq_true, decide_eq_true_eq]
  rintro ⟨⟨hhot, hdue⟩, hrun⟩
  rcases h with h | h | h
  · simp [h] at hhot
  · exact absurd hdue (Nat.not_le.mpr h)
  · exact h hrun

theorem watchdogMiss_strikes {p : Nat} {s : State} (hlo : 4 ≤ p) (hhi : p ≤ 10) (hrun : s.pwr.state = .run)
    (hmode : holdable s.pwr.mode = true ∨ s.pwr.mode = .safeHold) :
    watchdogMiss p s = safeHoldCause 4 0xFF (withPwr s { s.pwr with fwMiss := true }) := by
  refine if_neg ?_
  rcases hmode with h | h <;> simp [hlo, hhi, hrun, h]

theorem watchdogMiss_idle {p : Nat} {s : State}
    (h : p < 4 ∨ 10 < p ∨ s.pwr.state ≠ .run ∨ (holdable s.pwr.mode = false ∧ s.pwr.mode ≠ .safeHold)) : watchdogMiss p s = s := by
  refine if_pos ?_
  rcases h with h | h | h | ⟨h, hsafe⟩
  · simp [Nat.not_le.mpr h]
  · simp [Nat.not_le.mpr h]
  · simp [h]
  · simp [h, hsafe]

section
variable {cause port : Nat} {s : State}

theorem safeHoldCause_again (h : s.pwr.mode = .safeHold) : safeHoldCause cause port s = withPwr s { s.pwr with cause := cause } :=
  if_pos (by simp [h])

theorem safeHoldCause_handover (hlead : s.pwr.mode = .lead) (hfit : s.pair.peerFit = true) (hcause : cause ∈ [1, 2, 3, 4, 7]) :
    safeHoldCause cause port s = withPair s { s.pair with want := some (.safeHold cause) } :=
  (if_neg (by simp [hlead])).trans ((if_neg (by simp [hlead, holdable, modeNum])).trans (if_pos (by simpa [hlead, hfit] using hcause)))

theorem safeHoldCause_enters (hmode : holdable s.pwr.mode = true) (hlone : s.pwr.mode ≠ .lead ∨ s.pair.peerFit = false) :
    safeHoldCause cause port s = enterSafeHold cause port s := by
  have outside : s.pwr.mode ≠ .safeHold := by
    intro h
    simp [h, holdable, modeNum] at hmode
  refine (if_neg (by simpa using outside)).trans ((if_neg (by simp [hmode])).trans (if_neg ?_))
  rcases hlone with h | h <;> simp [h]

end

/-- In Safe hold the domains DECA, DECB, ENC and INT are off. -/
theorem enterSafeHold_domains (cause port : Nat) (s : State) {d : Nat} (h : d = 6 ∨ d = 7 ∨ d = 8 ∨ d = 9) :
    bitOf (enterSafeHold cause port s).pwr.domains d = false := by
  have hlt : d < 32 := by omega
  have before : bitOf (withPwr (setMode .safeHold 2 cause port (pairDrop s)) { (setMode .safeHold 2 cause port (pairDrop s)).pwr with
      cause := cause, faultN := true, shDomains := s.pwr.domains &&& 0x3C0 }).pwr.domains d = bitOf s.pwr.domains d := by simp
  refine (domainsDown_bits _ _ hlt).1.trans ?_
  rw [before]
  have named : bitOf (s.pwr.domains &&& 0x3C0) d = bitOf s.pwr.domains d := by
    rw [bitOf_and]
    rcases h with rfl | rfl | rfl | rfl <;> exact Bool.and_true _
  simp only [List.mem_filter, named]
  cases bitOf s.pwr.domains d <;> simp [h]

/-- Settles O34: DOMAIN_SET and DOMAIN_READY bit by bit, the readings and thresholds, and the Safe-hold causes case by case. -/
theorem domainsTemperaturesAndWatchdogs : Obligations.DomainsTemperaturesAndWatchdogs := by
  refine ⟨?_, ?_, ?_, ?_, ?_, ?_, ?_, ?_, ?_, ?_, ?_, ?_, ?_⟩
  case refine_1 =>
    intro c s u ds hu hc hds
    have hpwr : u.pwr = s.pwr := by rw [hu, takeCmd_pwr]
    have hmem : u.mem = s.mem := by rw [hu, takeCmd_mem]
    have hfree : domainFree u = domainFree s := by rw [hu, domainFree_takeCmd]
    rw [← hpwr, ← hmem, ← hfree]
    subst hds hu
    refine ⟨fun h => exec_domainSet hc (supplied_refused (opDomainSet_forbidden h)), fun hall hon hmet => ?_, fun hall hoff hidle => ?_,
      fun d hall hoff hstuck => exec_domainSet hc (supplied_refused (opDomainSet_stuck hall hoff hstuck))⟩
    · obtain ⟨r, heq, hbits⟩ := domainsUp_rising (domainsNamed c) (takeCmd c s)
      have set := exec_domainSet hc ((supplied_met hmet).trans (opDomainSet_on hall hon))
      rw [heq] at set
      exact ⟨_, set, rfl, hbits⟩
    · obtain ⟨hm, hmode, hstate⟩ := domainsDown_leaves (domainsNamed c) (takeCmd c s)
      exact ⟨_, exec_domainSet hc (supplied_domainSet_off hoff (opDomainSet_off hall hoff hidle)), hm, hmode, hstate,
        fun k hk => domainsDown_bits _ _ hk⟩
  case refine_2 =>
    intro d s hd
    have run : exec (.domainReady d) s = .next (domainReady d s) := by
      show Host.Outcome.next (domainReady (d % 15) s) = _
      rw [Nat.mod_eq_of_lt hd]
    rw [run]
    obtain ⟨hmem, hscan⟩ := domainReady_leaves d s
    exact ⟨fun h => ⟨_, rfl, hmem, hscan, fun k hk => domainReady_bits h hk⟩, fun h => congrArg _ (domainReady_idle h)⟩
  case refine_3 =>
    intro lid j s ev hoff hev
    have report : ev = crossed lid j := by
      funext k old new v
      rw [hev, crossed_eq]
    subst report
    exact ⟨thermalRead lid j s, congrArg Host.Outcome.next (thermalCrossing_reads hoff), rfl, rfl, rfl, rfl, rfl, rfl, rfl, rfl,
      fun hwas hhot => if_pos (Bool.and_eq_true_iff.mpr ⟨hhot, by rw [hwas]; rfl⟩)⟩
  case refine_4 =>
    exact fun lid j s hoff => ⟨congrArg Host.Outcome.next (if_pos hoff), congrArg Host.Outcome.next (thermalTrip_off hoff)⟩
  case refine_5 =>
    exact fun j s hoff => ⟨fun h => congrArg Host.Outcome.next (thermalTrip_above hoff h),
      fun h => congrArg Host.Outcome.next (thermalTrip_below h)⟩
  case refine_6 =>
    intro s
    rw [enterOff_pwr]
    exact ⟨rfl, rfl, rfl, enterOff_linkUp s⟩
  case refine_7 => exact fun s hhot hdue hrun => congrArg Host.Outcome.next (junctionOverheat_due hhot hdue hrun)
  case refine_8 => exact fun s h => congrArg Host.Outcome.next (junctionOverheat_early h)
  case refine_9 => exact fun p s hlo hhi hrun hmode => congrArg Host.Outcome.next (watchdogMiss_strikes hlo hhi hrun hmode)
  case refine_10 => exact fun p s h => congrArg Host.Outcome.next (watchdogMiss_idle h)
  case refine_11 => exact fun cause port s hlead hfit hcause => safeHoldCause_handover hlead hfit hcause
  case refine_12 =>
    intro cause port s hmode hlone
    rw [safeHoldCause_enters hmode hlone]
    exact ⟨enterSafeHold_mode .., enterSafeHold_cause .., enterSafeHold_faultN .., fun d hd => enterSafeHold_domains cause port s hd⟩
  case refine_13 => exact fun cause port s h => safeHoldCause_again h

end Sys2Proof.Machine
end

section
/-! SUPPORT. The gauges and the supply: when a command waits for VCORE, what a control period reads, steps and reports, and the regulator;
the obligation about them. -/

namespace Sys2Proof.Machine

/-! ### Commands that wait for VCORE (R610) -/

theorem supplied_held {op : Nat} {f : Cmd → State → State × Reply} {c : Cmd} {s : State} (h : supplyMet s (supplyNeeds op f c s) = false) :
    supplied op f c s = (supplyHold op c (supplyNeeds op f c s) s, .later 0 []) := if_neg (by simp [h])

section
variable {s : State}

theorem supplyRelease_none (h : s.hif.supply = none) : supplyRelease s = s := by simp only [supplyRelease, h]

/-- The block as a held command is judged: no longer held, and its place among the outstanding ones free. -/
def released (o : Outst) (s : State) : State := outstDrop o { s with hif := { s.hif with supply := none } }

variable {h : SupplyHold} (hheld : s.hif.supply = some h)
include hheld

theorem supplyRelease_waits (hlow : supplyMet s h.reqs = false) (hearly : t2Ns s < h.since + 15000000) : supplyRelease s = s := by
  simp only [supplyRelease, hheld]
  exact if_pos (by simp [hlow, hearly])

/-- A held command whose level is reached, or whose time is over, is applied if it still passes its checks. -/
theorem supplyRelease_applies {o : Outst} (hdue : supplyMet s h.reqs = true ∨ h.since + 15000000 ≤ t2Ns s)
    (ho : s.hif.outst.find? (fun x => x.seq == h.seq) = some o) (hpass : gatekeep h.opcode h.cmd (released o s) = none) :
    supplyRelease s = finishOutst o (supplyWork h.opcode h.cmd (released o s)).2 (supplyWork h.opcode h.cmd (released o s)).1 := by
  have due : ¬ (!supplyMet s h.reqs && decide (t2Ns s < h.since + 15000000)) = true := by
    rcases hdue with hmet | hlate
    · simp [hmet]
    · simp [Nat.not_lt.mpr hlate]
  simp only [released] at hpass
  simp only [supplyRelease, hheld, due, Bool.false_eq_true, if_false, ho, hpass, released]

end

/-! ### What a control period keeps -/

/-- `q` keeps the gauges of `p`, their period, and VCORE as commanded and as read back. -/
structure GaugesKept (p q : PowerUnit) : Prop where
  gauges : q.gauges = p.gauges
  gaugeAt : q.gaugeAt = p.gaugeAt
  gaugeLow : q.gaugeLow = p.gaugeLow
  vcmd : q.vcmd = p.vcmd
  vcore : q.vcore = p.vcore

theorem GaugesKept.refl (p : PowerUnit) : GaugesKept p p := ⟨rfl, rfl, rfl, rfl, rfl⟩

theorem HoldSets.gauges {p q : PowerUnit} (h : HoldSets p q) : GaugesKept p q :=
  have eq : holdPart p q = p := h
  ⟨(congrArg PowerUnit.gauges eq :), (congrArg PowerUnit.gaugeAt eq :), (congrArg PowerUnit.gaugeLow eq :), (congrArg PowerUnit.vcmd eq :),
    (congrArg PowerUnit.vcore eq :)⟩

section
variable (s : State)

theorem voltReport_gauges : GaugesKept s.pwr (voltReport s).pwr := by
  unfold voltReport
  split
  · split
    · exact .refl _
    · rw [raise_pwr]
      exact ⟨rfl, rfl, rfl, rfl, rfl⟩
  · exact .refl _

theorem linkKept_voltReport : LinkKept s (voltReport s) := by
  unfold voltReport
  split
  · exact .ite (.refl s) ((linkKept_raise ..).after rfl rfl rfl)
  · exact .refl s

/-! ### The regulator (R612) -/

variable {bad : Bool} {s}

theorem regulator_same (h : s.pwr.vrFault = bad) : regulator bad s = s := if_pos (by simp [h])

theorem regulator_fails (h : s.pwr.vrFault = false) : regulator true s =
    safeHoldCause 3 0xFF (raise 0x53 (voltWords 3 (leastHeadroom s.pwr.gauges) s) (withPwr s { s.pwr with vrFault := true })) :=
  (if_neg (by simp [h])).trans (if_pos rfl)

theorem regulator_heals (h : s.pwr.vrFault = true) :
    regulator false s = withPwr s { s.pwr with vrFault := false, vrGoneAt := t2Ns s } :=
  (if_neg (by simp [h])).trans (if_neg Bool.false_ne_true)

/-- Whatever the regulator's condition, the gauges stay, and the host link with what was sent. -/
theorem regulator_keeps (bad : Bool) (s : State) : GaugesKept s.pwr (regulator bad s).pwr ∧ LinkKept s (regulator bad s) := by
  by_cases hsame : s.pwr.vrFault = bad
  · rw [regulator_same hsame]
    exact ⟨.refl _, .refl s⟩
  · cases bad with
    | true =>
      rw [regulator_fails (by simpa using hsame)]
      have faulted := (safeHoldCause_sets (raise 0x53 (voltWords 3 (leastHeadroom s.pwr.gauges) s)
        (withPwr s { s.pwr with vrFault := true })) 3 0xFF).gauges
      rw [raise_pwr] at faulted
      have raised := linkKept_raise (withPwr s { s.pwr with vrFault := true }) 0x53 (voltWords 3 (leastHeadroom s.pwr.gauges) s)
      exact ⟨⟨faulted.gauges, faulted.gaugeAt, faulted.gaugeLow, faulted.vcmd, faulted.vcore⟩,
        (raised.trans (linkKept_safeHoldCause _ 3 0xFF)).after rfl rfl rfl⟩
    | false =>
      rw [regulator_heals (by simpa using hsame)]
      exact ⟨⟨rfl, rfl, rfl, rfl, rfl⟩, ⟨rfl, rfl, List.prefix_rfl⟩⟩

/-- Reading VCORE back sets it to what an acknowledged read gave. -/
theorem readVcore_keeps (readVout : Nat) (ack : Bool) (s : State) :
    GaugesKept { s.pwr with vcore := if ack then readVout % 4096 else s.pwr.vcore } (readVcore readVout ack s).pwr ∧
      LinkKept s (readVcore readVout ack s) := by
  obtain ⟨gauges, link⟩ := regulator_keeps (!ack || readVout + 15 < s.pwr.vcmd || s.pwr.vcmd + 15 < readVout)
    (withPwr s { s.pwr with vcore := if ack then readVout % 4096 else s.pwr.vcore })
  exact ⟨gauges, link.after rfl rfl rfl⟩

end

/-! ### GAUGE_CONTROL_PERIOD (R609, R611) -/

/-- The level that a control period asks for, from the least headroom. -/
def gaugeTarget (g : Gauge) (s : State) : Nat := if s.pwr.auto then nextVcore g.reading g.req s else s.pwr.vcmd

/-- The power unit with the gauges `gs` taken at a control period, `g` of which has the least headroom. -/
def gaugeTaken (gs : Tab Gauge) (g : Gauge) (s : State) : PowerUnit :=
  let low : Bool := g.reading < g.req
  let high : Bool := g.req * 110 < g.reading * 100
  let lowered : Bool := gaugeTarget g s < s.pwr.vcmd
  { s.pwr with
    gauges := gs, gaugeAt := t2Ns s, gaugeLow := low,
    headHighAt :=
      if !high then none
      else if lowered then some (t2Ns s) else s.pwr.headHighAt.orElse fun _ => some (t2Ns s),
    headLowAt := if low && s.pwr.vcmd = 850 then s.pwr.headLowAt.orElse fun _ => some (t2Ns s) else none,
    headLost := s.pwr.headLost && low && s.pwr.vcmd = 850 }

/-- VCORE stepped to a level, and the step kept for its report. -/
def gaugeStepped (env : GaugeEnv) (d : Nat) (g : Gauge) (mv : Nat) (s : State) : State :=
  let s1 := setVcore mv env.readVout env.ack s
  withPwr s1 { s1.pwr with voltStep := some (voltWords 1 (some (d, g)) s1), voltSecond := s1.tb.t2.sec.toNat }

/-- What a control period leaves of a block that reads the gauges `gs`, with the least headroom in `g`. -/
structure PeriodTaken (env : GaugeEnv) (gs : Tab Gauge) (g : Gauge) (s t : State) : Prop where
  gauges : t.pwr.gauges = gs
  gaugeAt : t.pwr.gaugeAt = t2Ns s
  gaugeLow : t.pwr.gaugeLow = decide (g.reading < g.req)
  vcmd : t.pwr.vcmd = gaugeTarget g s
  step : gaugeTarget g s ≠ s.pwr.vcmd →
    Outgoing.pmbus (gaugeTarget g s) ∈ t.outbox ∧ (env.ack = true → t.pwr.vcore = env.readVout % 4096)
  supply : t.hif.supply = s.hif.supply

/-- The time of the next control period has come. -/
def GaugeDue (s : State) : Prop := s.pwr.gaugeAt + (if s.pwr.gaugeLow then 50000 else 1000000) ≤ t2Ns s

theorem gaugePeriod_idle {env : GaugeEnv} {s : State} (h : ¬ GaugeDue s ∨ s.pwr.state ≠ .run ∨ s.pwr.trans ≠ none) :
    gaugePeriod env s = s := by
  unfold gaugePeriod
  dsimp only
  refine if_pos ?_
  rcases h with h | h | h
  · simp [Nat.not_le.mp h]
  · simp [h]
  · simp [Option.isSome_iff_ne_none.mpr h]

section
variable {env : GaugeEnv} {s : State} {gs : Tab Gauge} {d : Nat} {g : Gauge} (hrun : s.pwr.state = .run) (hnone : s.pwr.trans = none) (hdue : GaugeDue s)
  (hgs : gaugesNow env.readings s = gs) (hleast : leastHeadroom gs = some (d, g))
include hrun hnone hdue hgs hleast

theorem gaugePeriod_due : gaugePeriod env s =
    let s1 := voltReport (withPwr s (gaugeTaken gs g s))
    if gaugeTarget g s = s.pwr.vcmd then (if s.pwr.auto then s1 else readVcore env.readVout env.ack s1)
    else gaugeStepped env d g (gaugeTarget g s) s1 := by
  have due : ¬ (s.pwr.state != .run || s.pwr.trans.isSome ||
      decide (t2Ns s < s.pwr.gaugeAt + (if s.pwr.gaugeLow then 50000 else 1000000))) = true := by
    simp [hrun, hnone, Nat.not_lt.mpr hdue]
  unfold gaugePeriod
  dsimp only
  rw [if_neg due, hgs, hleast]
  rfl

/-- A control period takes the gauges, commands the level asked for, and leaves a held command; a step is sent and read back. -/
theorem gaugePeriod_takes : PeriodTaken env gs g s (gaugePeriod env s) := by
  have taken := voltReport_gauges (withPwr s (gaugeTaken gs g s))
  have sent := (linkKept_voltReport (withPwr s (gaugeTaken gs g s))).supply
  rw [gaugePeriod_due hrun hnone hdue hgs hleast]
  generalize voltReport (withPwr s (gaugeTaken gs g s)) = t at taken sent
  obtain ⟨hgauges, hat, hlow, hvcmd, -⟩ := taken
  dsimp only
  split
  · next hstay =>
    split
    · exact ⟨hgauges, hat, hlow, hvcmd.trans hstay.symm, fun h => absurd hstay h, sent⟩
    · obtain ⟨gauges, link⟩ := readVcore_keeps env.readVout env.ack t
      exact ⟨gauges.gauges.trans hgauges, gauges.gaugeAt.trans hat, gauges.gaugeLow.trans hlow,
        gauges.vcmd.trans (hvcmd.trans hstay.symm), fun h => absurd hstay h, link.supply.trans sent⟩
  · obtain ⟨gauges, link⟩ := readVcore_keeps env.readVout env.ack
      (send (.pmbus (gaugeTarget g s)) (withPwr t { t.pwr with vcmd := gaugeTarget g s }))
    exact ⟨gauges.gauges.trans hgauges, gauges.gaugeAt.trans hat, gauges.gaugeLow.trans hlow, gauges.vcmd,
      fun _ => ⟨link.sent.subset (List.mem_append_right _ (List.mem_singleton_self _)), fun hack => gauges.vcore.trans (if_pos hack)⟩,
      link.supply.trans sent⟩

end

theorem nextVcore_low {r q : Nat} {s : State} (h : r * 100 < q * 102) : nextVcore r q s = Nat.min 850 (s.pwr.vcmd + 10) := if_pos h

theorem nextVcore_within {r q : Nat} {s : State} (hlo : q * 102 ≤ r * 100) (hhi : r * 100 ≤ q * 110) : nextVcore r q s = s.pwr.vcmd := by
  refine (if_neg (Nat.not_lt.mpr hlo)).trans ?_
  split
  · exact if_neg (by simp [Nat.not_lt.mpr hhi])
  · rfl

theorem nextVcore_high {r q at_ : Nat} {s : State} (h : q * 110 < r * 100) (hat : s.pwr.headHighAt = some at_) :
    nextVcore r q s = if at_ + 100000000 ≤ t2Ns s then Nat.max 550 (s.pwr.vcmd - 5) else s.pwr.vcmd := by
  refine (if_neg (by omega)).trans ?_
  rw [hat]
  simp [h]

theorem exec_gaugeControlPeriod (env : GaugeEnv) (s : State) :
    exec (.gaugeControlPeriod env) s = .next (supplyRelease (gaugePeriod env s)) := rfl

/-! ### HEADROOM_LOST, GA_CTL and GA_VSET (R611, R613, R662) -/

section
variable {s : State} {at_ : Nat} (h : s.pwr.headLowAt = some at_)
include h

theorem headroomLost_due (hlost : s.pwr.headLost = false) (hdue : at_ + 10000000 ≤ t2Ns s) :
    headroomLost s = raise 0x53 (voltWords 2 (leastHeadroom s.pwr.gauges) s) (withPwr s { s.pwr with headLost := true }) := by
  simp only [headroomLost, h]
  exact if_pos (by simp [hlost, hdue])

theorem headroomLost_early (hidle : s.pwr.headLost = true ∨ t2Ns s < at_ + 10000000) : headroomLost s = s := by
  simp only [headroomLost, h]
  refine if_neg ?_
  rcases hidle with hlost | hearly
  · simp [hlost]
  · simp [Nat.not_le.mpr hearly]

end

theorem headroomLost_none {s : State} (h : s.pwr.headLowAt = none) : headroomLost s = s := by simp only [headroomLost, h]

theorem exec_gaCtlWrite {a : RegW} {s : State} (h : Writes 0xE000 a s) : exec (.gaCtlWrite a) s = .next (gaCtlWrite a.init a.val s) :=
  congrArg Host.Outcome.next (regWrite_writes (gaCtlInfo s) _ h)

theorem exec_gaVsetWrite {a : RegW} {s : State} (h : Writes 0xE008 a s) : exec (.gaVsetWrite a) s = .next (gaVsetWrite a.init a.val s) :=
  congrArg Host.Outcome.next (regWrite_writes (gaVsetInfo s) _ h)

/-- With AUTO 0, GA_VSET is VCORE's command. -/
theorem manualVcore_manual {s : State} (h : s.pwr.auto = false) :
    manualVcore s = send (.pmbus s.pwr.vset) (withPwr s { s.pwr with vcmd := s.pwr.vset }) := by
  simp [manualVcore, h]

theorem manualVcore_auto {s : State} (h : s.pwr.auto = true) : manualVcore s = s := by simp [manualVcore, h]

section
variable {init : Nat} {v : W32} {s : State}

theorem gaVsetWrite_taken (hlo : 550 ≤ fld v 11 0) (hhi : fld v 11 0 ≤ 850) :
    gaVsetWrite init v s = manualVcore (withPwr s { s.pwr with vset := fld v 11 0 }) := if_pos (by simp [hlo, hhi])

theorem gaVsetWrite_range (h : fld v 11 0 < 550 ∨ 850 < fld v 11 0) : gaVsetWrite init v s = paramRefused init 0xE008 v s := by
  refine if_neg ?_
  rcases h with h | h <;> simp [Nat.not_le.mpr h]

theorem gaCtlWrite_auto (h : bitOf v 0 = true) : gaCtlWrite init v s = withPwr s { s.pwr with auto := true } := if_pos h

theorem gaCtlWrite_manual (h : bitOf v 0 = false) (hmode : s.pwr.mode = .maintenance) :
    gaCtlWrite init v s = send (.pmbus s.pwr.vset) (withPwr s { s.pwr with auto := false, vcmd := s.pwr.vset }) :=
  (if_neg (by simp [h])).trans ((if_pos (by simp [hmode])).trans (manualVcore_manual rfl))

theorem gaCtlWrite_refused (h : bitOf v 0 = false) (hmode : s.pwr.mode ≠ .maintenance) :
    gaCtlWrite init v s = paramRefused init 0xE000 v s := (if_neg (by simp [h])).trans (if_neg (by simpa using hmode))

end

/-- Settles O35: a control period takes the gauges and steps VCORE as `nextVcore` asks, a held command is released as its level or its
time allows, and the regulator and the registers act as their lemmas say. -/
theorem gaugesHoldVcore : Obligations.GaugesHoldVcore := by
  refine ⟨?_, ?_, ?_, ?_, ?_, ?_, ?_, ?_, ?_, ?_, ?_⟩
  case refine_1 =>
    intro op c s _
    exact ⟨supplied_met, fun h => ⟨_, supplied_held h, rfl, rfl, rfl, rfl, rfl⟩⟩
  case refine_2 =>
    intro env s t h o ht hheld ho
    subst ht
    rw [exec_gaugeControlPeriod]
    refine ⟨fun hlow hearly => congrArg _ (supplyRelease_waits hheld hlow hearly), fun hdue v hv hpass => ?_⟩
    subst hv
    exact congrArg _ (supplyRelease_applies hheld hdue ho hpass)
  case refine_3 =>
    intro env s gs d g hrun hnone hsupply hdue hgs hleast
    obtain ⟨hgauges, hat, hlow, hvcmd, hstep, hkept⟩ := gaugePeriod_takes hrun hnone hdue hgs.symm hleast
    have frame := gaugePeriod_frame (m := { pwr := true, boot := true, lane := true, pair := true, touch := true }) env s (.refl _ s)
      rfl rfl rfl rfl rfl
    have auto (h : s.pwr.auto = true) : gaugeTarget g s = nextVcore g.reading g.req s := if_pos h
    refine ⟨gaugePeriod env s, congrArg _ (supplyRelease_none (hkept.trans hsupply)), hgauges, hat, hlow, ?_⟩
    rw [hvcmd]
    exact ⟨fun h => if_neg (by simp [h]), fun h hl => (auto h).trans (nextVcore_low hl),
      fun h hlo hhi => (auto h).trans (nextVcore_within hlo hhi), fun at_ h hhigh hsince => (auto h).trans (nextVcore_high hhigh hsince),
      hstep, frame.mem.resolve_left Bool.false_ne_true, frame.tb.resolve_left Bool.false_ne_true⟩
  case refine_4 =>
    intro env s hsupply h
    rw [exec_gaugeControlPeriod, gaugePeriod_idle (h.imp_left Nat.not_le.mpr), supplyRelease_none hsupply]
  case refine_5 =>
    exact fun s at_ h => ⟨fun hlost hdue => congrArg Host.Outcome.next (headroomLost_due h hlost hdue),
      fun hidle => congrArg Host.Outcome.next (headroomLost_early h hidle)⟩
  case refine_6 => exact fun s h => congrArg Host.Outcome.next (headroomLost_none h)
  case refine_7 => exact fun s h => congrArg Host.Outcome.next (regulator_fails h)
  case refine_8 => exact fun s h => congrArg Host.Outcome.next (regulator_heals h)
  case refine_9 => exact fun b s h => congrArg Host.Outcome.next (regulator_same h)
  case refine_10 =>
    intro a s hw
    rw [exec_gaCtlWrite hw]
    exact ⟨fun h => congrArg _ (gaCtlWrite_auto h), fun h hmode => congrArg _ (gaCtlWrite_manual h hmode),
      fun h hmode => congrArg _ (gaCtlWrite_refused h hmode)⟩
  case refine_11 =>
    intro a s mv hw hmv
    subst hmv
    rw [exec_gaVsetWrite hw]
    exact ⟨fun hlo hhi hauto => congrArg _ ((gaVsetWrite_taken hlo hhi).trans (manualVcore_auto hauto)),
      fun hlo hhi hauto => congrArg _ ((gaVsetWrite_taken hlo hhi).trans (manualVcore_manual hauto)),
      fun h => congrArg _ (gaVsetWrite_range h)⟩

end Sys2Proof.Machine
end

section
/-! SUPPORT. The block's invariant: it holds at reset, every command keeps it and with it the queue, the growth of the record and of the count
of open values; the obligations about reset, about the invariant and about what no command touches. -/

namespace Sys2Proof.Machine

/-! ### Reset (R185, R518, R533, R550, R666) -/

/-- Settles O3: every value is the default of its field, or of an entry that no table lists. -/
theorem resetHoldsTheTabledValues : Obligations.ResetHoldsTheTabledValues := by
  have rings (fn r : Nat) : ringGet State.reset fn r = {} := by
    unfold ringGet fnGet
    split <;> rfl
  have zero (b : Bool) : tbNs { set := b } = 0 := by cases b <;> decide
  have bases (n : Nat) : (tbGet State.reset.tb n).inc = 0x200000000 ∧ (tbGet State.reset.tb n).thr = 1000 ∧
      tbNs (tbGet State.reset.tb n) = 0 := by
    match n with
    | 0 | 1 | 2 | _ + 3 => exact ⟨rfl, rfl, zero _⟩
  refine ⟨rfl, rfl, rfl, rfl, fun fn r => ?_, bases, rfl, rfl, rfl, rfl, rfl, rfl, rfl, rfl, rfl, rfl, rfl, rfl, rfl,
    fun _ => ⟨rfl, rfl, rfl⟩, rfl, rfl, rfl, rfl, rfl⟩
  rw [rings]
  exact ⟨rfl, rfl, rfl, rfl, rfl, rfl⟩

/-- A time base at its nominal increment, with nothing waiting and its value at 0, is sound (R173, R176). -/
theorem nominal_sound {n : Nat} {b : Bool} (h : incIn n 0x200000000 = true) : TimeBase.Sound n { set := b } :=
  ⟨by cases b <;> decide, by cases b <;> decide, h, fun _ hv => (by cases hv), fun _ _ _ _ _ hm => (by cases hm)⟩

/-- Settles O4. -/
theorem resetIsGood : Obligations.ResetIsGood :=
  { mem := rfl
    win := windowsLawful_nil
    time := ⟨nominal_sound (by decide), nominal_sound (by decide), nominal_sound (by decide), nominal_sound (by decide), rfl⟩
    seq := by decide }

/-! ### Every command -/

section
variable {Q : List Instr} {O : List Outgoing} {N : Nat} {s t : State}

/-- The state that an outcome answers keeps what `Kept` says; an outcome that answers none says nothing. -/
def AnswerKept (Q : List Instr) (O : List Outgoing) (N : Nat) : Res → Prop
  | .next t => Kept Q O N t
  | _ => True

/-- What the meaning of each command answers keeps what the state that it is given keeps. -/
theorem exec_keeps (i : Instr) (h : Kept Q O N s) : AnswerKept Q O N (exec i s) :=
  match i with
  | .nop _ => hostCommand_inv _ _ _ _ opNop_inv h
  | .deviceStatus _ => hostCommand_inv _ _ _ _ opDeviceStatus_inv h
  | .eventMaskSet _ => hostCommand_inv _ _ _ _ opEventMaskSet_inv h
  | .pf1LimitsSet _ => hostCommand_inv _ _ _ _ opPf1LimitsSet_inv h
  | .modeSet _ => hostCommand_inv _ _ _ _ opModeSet_inv h
  | .powerState _ => hostCommand_inv _ _ _ _ opPowerState_inv h
  | .domainSet _ => hostCommand_inv _ _ _ _ (fun _ _ => supplied_inv _ _ _ _ opDomainSet_inv) h
  | .selftest _ => hostCommand_inv _ _ _ _ opSelftest_inv h
  | .laneLoop _ => hostCommand_inv _ _ _ _ opLaneLoop_inv h
  | .laneRecal _ => hostCommand_inv _ _ _ _ opLaneRecal_inv h
  | .auxioClaim _ => hostCommand_inv _ _ _ _ opAuxioClaim_inv h
  | .auxioRelease _ => hostCommand_inv _ _ _ _ opAuxioRelease_inv h
  | .netPortSet _ => hostCommand_inv _ _ _ _ opNetPortSet_inv h
  | .netFilterSet _ => hostCommand_inv _ _ _ _ opNetFilterSet_inv h
  | .flowSet _ => hostCommand_inv _ _ _ _ opFlowSet_inv h
  | .flowClear _ => hostCommand_inv _ _ _ _ opFlowClear_inv h
  | .pktinClassSet _ => hostCommand_inv _ _ _ _ opPktinClassSet_inv h
  | .bbQuadSet _ => hostCommand_inv _ _ _ _ opBbQuadSet_inv h
  | .bbDpcdLoad _ => hostCommand_inv _ _ _ _ opBbDpcdLoad_inv h
  | .bbEnable _ => hostCommand_inv _ _ _ _ opBbEnable_inv h
  | .bbDisable _ => hostCommand_inv _ _ _ _ opBbDisable_inv h
  | .streamOpen _ => hostCommand_inv _ _ _ _ (fun _ _ => supplied_inv _ _ _ _ opStreamOpen_inv) h
  | .streamModify _ => hostCommand_inv _ _ _ _ (fun _ _ => supplied_inv _ _ _ _ opStreamModify_inv) h
  | .streamClose _ => hostCommand_inv _ _ _ _ opStreamClose_inv h
  | .streamAnchor _ => hostCommand_inv _ _ _ _ opStreamAnchor_inv h
  | .watchSet _ => hostCommand_inv _ _ _ _ opWatchSet_inv h
  | .coreRetire _ => hostCommand_inv _ _ _ _ opCoreRetire_inv h
  | .coreReturn _ => hostCommand_inv _ _ _ _ opCoreReturn_inv h
  | .streamStatus _ => hostCommand_inv _ _ _ _ opStreamStatus_inv h
  | .ledgerWrite _ => hostCommand_inv _ _ _ _ opLedgerWrite_inv h
  | .ledgerCommit _ => hostCommand_inv _ _ _ _ opLedgerCommit_inv h
  | .canvasSet _ => hostCommand_inv _ _ _ _ opCanvasSet_inv h
  | .layerSet _ => hostCommand_inv _ _ _ _ opLayerSet_inv h
  | .bankParamSet _ => hostCommand_inv _ _ _ _ opBankParamSet_inv h
  | .coefLoad _ => hostCommand_inv _ _ _ _ opCoefLoad_inv h
  | .xferLoad _ => hostCommand_inv _ _ _ _ opXferLoad_inv h
  | .stillLoad _ => hostCommand_inv _ _ _ _ opStillLoad_inv h
  | .layoutCommit _ => hostCommand_inv _ _ _ _ (fun _ _ => supplied_inv _ _ _ _ opLayoutCommit_inv) h
  | .layoutCancel _ => hostCommand_inv _ _ _ _ opLayoutCancel_inv h
  | .outputSet _ => hostCommand_inv _ _ _ _ opOutputSet_inv h
  | .outputEnable _ => hostCommand_inv _ _ _ _ (fun _ _ => supplied_inv _ _ _ _ opOutputEnable_inv) h
  | .outputDisable _ => hostCommand_inv _ _ _ _ opOutputDisable_inv h
  | .outputView _ => hostCommand_inv _ _ _ _ opOutputView_inv h
  | .outputFaultClear _ => hostCommand_inv _ _ _ _ opOutputFaultClear_inv h
  | .outputAux _ => hostCommand_inv _ _ _ _ opOutputAux_inv h
  | .nightPaceSet _ => hostCommand_inv _ _ _ _ opNightPaceSet_inv h
  | .swatchSet _ => hostCommand_inv _ _ _ _ opSwatchSet_inv h
  | .outputStatus _ => hostCommand_inv _ _ _ _ opOutputStatus_inv h
  | .encSet _ => hostCommand_inv _ _ _ _ opEncSet_inv h
  | .encEnable _ => hostCommand_inv _ _ _ _ (fun _ _ => supplied_inv _ _ _ _ opEncEnable_inv) h
  | .encDisable _ => hostCommand_inv _ _ _ _ opEncDisable_inv h
  | .encCoefLoad _ => hostCommand_inv _ _ _ _ opEncCoefLoad_inv h
  | .encKeyframe _ => hostCommand_inv _ _ _ _ opEncKeyframe_inv h
  | .pairSet _ => hostCommand_inv _ _ _ _ opPairSet_inv h
  | .pairAccept _ => hostCommand_inv _ _ _ _ opPairAccept_inv h
  | .pairKnit _ => hostCommand_inv _ _ _ _ opPairKnit_inv h
  | .pairDrill _ => hostCommand_inv _ _ _ _ opPairDrill_inv h
  | .pairLeave _ => hostCommand_inv _ _ _ _ opPairLeave_inv h
  | .pairStatus _ => hostCommand_inv _ _ _ _ opPairStatus_inv h
  | .touchPanelSet _ => hostCommand_inv _ _ _ _ opTouchPanelSet_inv h
  | .touchEnable _ => hostCommand_inv _ _ _ _ opTouchEnable_inv h
  | .touchDisable _ => hostCommand_inv _ _ _ _ opTouchDisable_inv h
  | .touchRefSave _ => hostCommand_inv _ _ _ _ opTouchRefSave_inv h
  | .touchSelftest _ => hostCommand_inv _ _ _ _ opTouchSelftest_inv h
  | .touchStatus _ => hostCommand_inv _ _ _ _ opTouchStatus_inv h
  | .gateStage _ => hostCommand_inv _ _ _ _ opGateStage_inv h
  | .gateCommit _ => hostCommand_inv _ _ _ _ opGateCommit_inv h
  | .fwStage _ => hostCommand_inv _ _ _ _ opFwStage_inv h
  | .castOn _ => hostCommand_inv _ _ _ _ opCastOn_inv h
  | .fwIdent _ => hostCommand_inv _ _ _ _ opFwIdent_inv h
  | .unknownOpcode _ _ => unknownOpcode_inv _ _ _ h
  | .commandTake _ => commandTake_inv _ _ h
  | .doorbellWrite _ _ _ => doorbell_inv _ _ _ _ h
  | .ringEnable _ _ _ => ringCtlReg_inv _ _ _ _ h
  | .ringDisable _ _ _ => ringCtlReg_inv _ _ _ _ h
  | .irqModerationTimeout _ _ => moderationExpire_inv _ _ _ h
  | .packetOutTake _ _ _ => packetOutTake_inv _ _ _ _ h
  | .frameTransmit _ _ => frameTransmit_inv _ _ _ h
  | .txqIdRead _ _ => regRead_inv _ _ _ _ (txqRead_inv _) h
  | .functionLevelReset _ => dropPending_inv _ _ (fnQuiet_inv _ _ h)
  | .d3hotEntry _ => fnQuiet_inv _ _ h
  | .hostLinkLoss => linkLoss_inv _ h
  | .maintUdpCommand _ _ _ _ => maintUdp_inv _ _ _ _ _ h
  | .maintUartLine _ _ => maintUart_inv _ _ _ h
  | .registerWrite _ _ => writeAny_inv _ _ _ h
  | .notPermittedWindowClose _ => windowClose_inv _ _ h
  | .registerReadClear _ _ => readAny_inv _ _ _ h
  | .registerReadLoLatch _ _ => readAny_inv _ _ _ h
  | .tbSnap _ => regWrite_inv _ _ _ _ _ (fun _ _ hu => ite_good (snapAll_inv _ hu) hu) h
  | .tbIncCommit _ _ => regWrite_inv _ _ _ _ _ (incCommit_inv _ _) h
  | .tbStepCommit _ _ => regWrite_inv _ _ _ _ _ (stepCommit_inv _ _) h
  | .tbLoad _ _ => regWrite_inv _ _ _ _ _ (tbCtlWrite_inv _ _) h
  | .tbStepOvr _ _ => regWrite_inv _ _ _ _ _ (tbCtlWrite_inv _ _) h
  | .declareLock _ => regWrite_inv _ _ _ _ _ t0Declare_inv h
  | .declareHold _ => regWrite_inv _ _ _ _ _ t0Declare_inv h
  | .declareUnlock _ => regWrite_inv _ _ _ _ _ t0Declare_inv h
  | .tb0ErrEstWrite _ => regWrite_inv _ _ _ _ _ errEstWrite_inv h
  | .flCtlWrite _ _ => regWrite_inv _ _ _ _ _ (flCtlWrite_inv _ _) h
  | .flParamWrite _ _ _ => regWrite_inv _ _ _ _ _ (flParamWrite_inv _ _ _) h
  | .pwcReqGo _ => regWrite_inv _ _ _ _ _ (pwcReqWrite_inv _) h
  | .gaCtlWrite _ => regWrite_inv _ _ _ _ _ (gaCtlWrite_inv _) h
  | .gaVsetWrite _ => regWrite_inv _ _ _ _ _ (gaVsetWrite_inv _) h
  | .mcWinEnable _ _ => regWrite_inv _ _ _ _ _ (winCtlWrite_inv _ _) h
  | .mcPortRateWrite _ _ => regWrite_inv _ _ _ _ _ (portRateWrite_inv _ _) h
  | .cvuInit _ _ => regWrite_inv _ _ _ _ _ (cvuCtlWrite_inv _) h
  | .cvuPolyWrite _ _ => regWrite_inv _ _ _ _ _ (cvuCtlWrite_inv _) h
  | .cvuAliveEnable _ _ => regWrite_inv _ _ _ _ _ (cvuCtlWrite_inv _) h
  | .cvuFeed _ _ _ => regWrite_inv _ _ _ _ _ (fun _ _ => cvuFeed_inv _ _ _) h
  | .cvuAliveWrite _ _ => regWrite_inv _ _ _ _ _ (cvuAlive_inv _ _) h
  | .cvuAliveTimeout _ => cvuTimeout_inv _ _ h
  | .vcEncConsWrite _ _ => regWrite_inv _ _ _ _ _ (encConsWrite_inv _ _) h
  | .timeBaseTick => timeTick_inv _ h
  | .overrideLapse _ => ite_good (setTb_inv _ _ _ h (tbGet_sound h _).1 (tbGet_sound h _).2) h
  | .servoTimeout => ite_good (setT0State_inv _ _ _ h) h
  | .holdoverLimitExceeded => ite_good (setT0State_inv _ _ _ h) h
  | .ppsInEdge => ppsEdge_inv _ h
  | .pairOffsetMeasure _ => pairMeasure_inv _ _ h
  | .anchorExpiry _ => anchorExpiry_inv _ _ h
  | .ethFrameReceive _ _ => ethReceive_inv _ _ _ h
  | .netLinkChange _ _ => netLink_inv _ _ _ h
  | .accessUnitHoldTimeout _ => auTimeout_inv _ _ h
  | .receptionWindowTimeout _ => windowTimeout_inv _ _ h
  | .pathLossTimeout _ _ => pathLoss_inv _ _ _ h
  | .ingestStatsInterval _ => ingestStats_inv _ _ h
  | .bbAuxTransaction _ _ => bbAux_inv _ _ _ h
  | .bbLinkTrained _ _ _ => bbTrained_inv _ _ _ _ h
  | .bbLinkLoss _ => bbLoss_inv _ _ _ h
  | .bbFrameArrival _ _ => bbFrame_inv _ _ _ h
  | .decodeDispatch _ => dispatch_inv _ _ h
  | .blockRowBoundary _ => blockRow_inv _ _ h
  | .decodePictureDone _ _ => pictureDone_inv _ _ _ h
  | .engineWatchdog _ => engineWatchdog_inv _ _ _ h
  | .decodeStall _ => decodeStall_inv _ _ h
  | .overrateMeter => foldl_inv (fun _ _ => overrateOne_inv _ _) h
  | .refreshWanted _ => refreshDue_inv _ _ h
  | .coreSelftestDone _ _ => coreTested_inv _ _ _ h
  | .streamClosingRelease _ => closingRelease_inv _ _ h
  | .ledgerGenerationCopy => withLedger_inv _ _ h
  | .canvasCut _ _ => canvasCut_inv _ _ _ h
  | .composeDeadline _ => composeDeadline_inv _ _ h
  | .chaseRowDeadline _ _ => chaseRowDeadline_inv _ _ _ h
  | .layerUnderrun _ _ _ _ => layerUnderrun_inv _ _ _ _ _ h
  | .frameDisplayStart _ => frameStart_inv _ _ h
  | .scanRowFetch _ _ _ => scanRow_inv _ _ _ _ h
  | .readbackCompare _ _ _ => readbackCompare_inv _ _ _ _ h
  | .readbackLockLoss _ => lockLoss_inv _ _ h
  | .keepaliveSet _ => keepAlive_inv _ _ h
  | .auditEntryWrite _ => auditEntry_inv _ _ h
  | .vhpdHigh _ => vhpdHigh_inv _ _ h
  | .vhpdIrqPulse _ _ => vhpdIrq_inv _ _ _ h
  | .vhpdLow _ => vhpdLow_inv _ _ h
  | .linkTrainingRetry _ => trainRetry_inv _ _ h
  | .sinkEchoPoll _ _ => echoPoll_inv _ _ _ h
  | .encFrameStart _ _ => encFrameStart_inv _ _ _ h
  | .encInputDeadline _ _ => encDeadline_inv _ _ _ h
  | .encRecordWrite _ _ => encRecord_inv _ _ _ h
  | .encUnrecorded _ => encUnrecorded_inv _ _ h
  | .heartbeatSend => heartbeatSend_inv _ h
  | .heartbeatReceive _ _ => heartbeatReceive_inv _ _ _ h
  | .heartbeatSilence => heartbeatSilence_inv _ h
  | .heartbeatTxWatchdog => txWatchdog_inv _ h
  | .leadInYield => leadInYield_inv _ h
  | .pairPin => pairPin_inv _ h
  | .takeover => takeover_inv _ h
  | .corlerFrameReceive _ _ => corlerFrame_inv _ _ _ h
  | .corlerLinkTraining _ => corlerTraining_inv _ _ h
  | .digestRecordReceive _ => digestReceive_inv _ _ h
  | .digestRecordLate _ => digestLate_inv _ _ h
  | .pairConfig => ite_good (pairConfig_inv _ h) h
  | .handoverRequest => handoverRequest_inv _ h
  | .handoverSwitch => handoverSwitch_inv _ h
  | .handoverTimeout => handoverTimeout_inv _ h
  | .leaveMessageReceive => leaveReceive_inv _ h
  | .knitPhaseEnd _ => knitPhaseEnd_inv _ _ h
  | .knitStreamCopy _ _ => streamCopy_inv _ _ _ h
  | .knitTimeout => knitTimeout_inv _ h
  | .pairAcceptExpiry => acceptExpiry_inv _ h
  | .drillSwap => drillSwap_inv _ h
  | .drillReturn => drillReturn_inv _ h
  | .drillResult _ => drillResult_inv _ h
  | .touchScanStart _ _ => touchScanStart_inv _ _ _ h
  | .touchScanComplete _ _ => touchScanComplete_inv _ _ _ h
  | .touchBaselineDone _ => baselineDone_inv _ _ h
  | .gangedScanEntry _ => gangedEntry_inv _ _ h
  | .touchSelftestDone _ _ => selftestDone_inv _ _ _ h
  | .powerTransitionEnd _ => transitionEnd_inv _ _ h
  | .wakePin _ => wakePin_inv _ _ h
  | .hostAccessWake => hostAccessWake_inv _ h
  | .domainReady _ => domainReady_inv _ _ h
  | .gaugeControlPeriod _ => supplyRelease_inv _ (gaugePeriod_inv _ _ h)
  | .headroomLost => headroomLost_inv _ h
  | .vrAlert _ => regulator_inv _ _ h
  | .thermalCrossing _ _ => thermalCrossing_inv _ _ _ h
  | .junctionOverheat => junctionOverheat_inv _ h
  | .thermalTrip _ => thermalTrip_inv _ _ h
  | .firmwareWatchdogMiss _ => watchdogMiss_inv _ _ h
  | .bindOffEnd => bindOffEnd_inv _ h
  | .bankRefresh _ => bankRefresh_inv _ _ h
  | .stackTempCrossing _ => stackTemp_inv _ _ h
  | .retrainWindow _ => retrain_inv _ _ h
  | .scrubRead _ _ => scrubRead_inv _ _ _ h
  | .memoryRequest _ => memoryRequest_inv _ _ h
  | .gateCommitDone => gateCommitDone_inv _ h
  | .fabricGrant _ => fabricGrant_inv _ _ h
  | .resetNRelease _ => resetRelease_inv _ _ h
  | .resetNAssert => resetAssert_inv _ h
  | .bootWatchdogExpiry _ => watchdogExpiry_inv _ _ h
  | .readyReached _ => readyReached_inv _ _ h
  | .recoveryBegin _ => inRecovery_inv _ _ _ (recovBegin_inv _) h
  | .recoveryData _ => inRecovery_inv _ _ _ (recovData_inv _) h
  | .recoveryEnd _ _ _ => inRecovery_inv _ _ _ (recovEnd_inv _ _ _) h
  | .recoveryStatus _ => recovStatus_inv _ _ h
  | .recoveryCard _ _ _ => inRecovery_inv _ _ _ (recovCard_inv _ _ _) h
  | .recoveryIdentity _ => inRecovery_inv _ _ _ (recovIdentity_inv _) h
  | .recoveryUartLoad _ _ _ => uartLoad_inv _ _ _ _ h
  | .recoveryStatusLine => statusLine_inv _ h
  | .auxioPulse _ => auxPulse_inv _ _ h
  | .laneRecalEnd _ _ => recalEnd_inv _ _ _ h
  | .laneLoopEnd _ => loopEnd_inv _ _ h
  | .selftestEnd _ => selftestEnd_inv _ _ h
  | .fwStageEnd _ => stageEnd_inv _ _ h
  | .loadCopyEnd _ => loadEnd_inv _ _ h
  | .touchRefSaveEnd _ => refSaveEnd_inv _ _ h
  | .outputLinkTrainingEnd _ _ => trainEnd_inv _ _ _ h
  | .laneCalibrationEnd _ => calibrationEnd_inv _ _ h
  | .corlerTrainingRetry => trainingRetry_inv _ h
  | .castOnRestart _ => castOnRestart_inv _ _ h
  | .maintFrameReceive _ => maintFrame_inv _ _ h

theorem exec_inv {i : Instr} (h : Kept Q O N s) (he : exec i s = .next t) : Kept Q O N t := by
  have := exec_keeps i h
  rwa [he] at this

/-- A block that meets the invariant keeps its own queue, its own record and its own count. -/
theorem State.Good.kept (h : s.Good) : Kept s.pending s.outbox s.free s :=
  ⟨rfl, List.prefix_refl _, Nat.le_refl _, h.mem, h.win, h.time, h.seq⟩

theorem Kept.good (h : Kept Q O N s) : s.Good := ⟨h.mem, h.win, h.time, h.seq⟩

end

/-! ### The obligations -/

/-- Settles O7. -/
theorem commandsKeepTheQueueAndTheRecord : Obligations.CommandsKeepTheQueueAndTheRecord := by
  intro c s t h he
  obtain ⟨queue, sent, opened, -⟩ := exec_inv h.kept he
  exact ⟨queue, sent, opened⟩

/-- Settles O5: a step is an idle one or the front command's, run on a block that differs in its queue alone. -/
theorem everyStepKeepsTheInvariant : Obligations.EveryStepKeepsTheInvariant := by
  intro s t h hs
  unfold step at hs
  split at hs
  · cases hs
    exact h
  · next rest _ =>
    have hrest : ({ s with pending := rest } : State).Good := ⟨h.mem, h.win, h.time, h.seq⟩
    exact (exec_inv hrest.kept hs).good

/-- The invariant holds along every run from a block that meets it. -/
theorem reaches_good {s t : State} (h : s.Good) (hr : Reaches s t) : t.Good := by
  induction hr with
  | refl => exact h
  | tail _ hstep ih => exact everyStepKeepsTheInvariant _ _ ih hstep

/-- Settles O6, by induction on the run. -/
theorem reachableBlocksGiveLawfulNumbers : Obligations.ReachableBlocksGiveLawfulNumbers := by
  intro s t h hr
  have good := reaches_good h hr
  exact ⟨good, nextSeq_ok good.seq, nextSeq_ne_zero good.seq⟩

end Sys2Proof.Machine
end

section
/-! SUPPORT. The time bases: their table, what a tick makes of each, and what a write of the registers of one leaves of the others; the
obligations about the tick, about writes, and about increments, steps, loads and the override. -/

namespace Sys2Proof.Machine

/-! ### The table of the time bases -/

@[simp] theorem tbGet_tbSet_same (u : TimeUnit) (n : Nat) (t : TimeBase) : tbGet (tbSet u n t) n = t := by
  match n with
  | 0 | 1 | 2 | _ + 3 => rfl

theorem tbGet_tbSet_other {n m : Nat} (hn : n < 4) (hm : m < 4) (h : m ≠ n) (u : TimeUnit) (t : TimeBase) :
    tbGet (tbSet u n t) m = tbGet u m := by
  interval_cases n <;> interval_cases m <;> simp_all [tbGet, tbSet]

@[simp] theorem tbSet_tbSet (u : TimeUnit) (n : Nat) (t t' : TimeBase) : tbSet (tbSet u n t) n t' = tbSet u n t' := by
  match n with
  | 0 | 1 | 2 | _ + 3 => rfl

@[simp] theorem setTb_tb (n : Nat) (t : TimeBase) (s : State) : (setTb n t s).tb = tbSet s.tb n t := rfl
@[simp] theorem setTb_pwr (n : Nat) (t : TimeBase) (s : State) : (setTb n t s).pwr = s.pwr := rfl

theorem tbGet_setTb (n : Nat) (t : TimeBase) (s : State) : tbGet (setTb n t s).tb n = t := tbGet_tbSet_same ..

@[simp] theorem setTb_setTb (n : Nat) (t t' : TimeBase) (s : State) : setTb n t' (setTb n t s) = setTb n t' s :=
  congrArg (withTb s) (tbSet_tbSet ..)

@[simp] theorem dropLo_tb (init off : Nat) (s : State) : (dropLo init off s).tb = s.tb := rfl
@[simp] theorem dropLo_pwr (init off : Nat) (s : State) : (dropLo init off s).pwr = s.pwr := rfl

/-! ### The tick (R174, R176, R184) -/

/-- The value of a time base as one 32.32 number of nanoseconds. -/
def tbFixed (t : TimeBase) : Nat := (t.sec.toNat * 1000000000 + t.ns.toNat) * 2 ^ 32 + t.frac.toNat

theorem tbTakeInc_none {t : TimeBase} (h : t.incNext = none) : tbTakeInc t = t := by rw [tbTakeInc, h]

theorem tbTakeOp_nil {t : TimeBase} (h : t.ops = []) : tbTakeOp t = t := by rw [tbTakeOp, h]

/-- With nothing waiting, a tick is an advance. -/
theorem tbTick_quiet {t : TimeBase} (hops : t.ops = []) (hinc : t.incNext = none) : tbTick t = tbAdvance t := by
  rw [tbTick, tbTakeInc_none hinc, tbTakeOp_nil ((tbAdvance_ops t).trans hops)]

/-- An advance adds the increment; a whole second goes to the seconds (R174). -/
theorem tbFixed_tbAdvance {n : Nat} {t : TimeBase} (h : t.Sound n) (hsec : t.sec.toNat + 1 < 2 ^ 64) :
    tbFixed (tbAdvance t) = tbFixed t + t.inc.toNat := by
  obtain ⟨hns, -, hinc, -⟩ := h
  have hinc := incIn_le hinc
  have hfrac := t.frac.isLt
  unfold tbFixed tbAdvance w32
  dsimp only
  split
  · have carried : (t.sec + 1).toNat = t.sec.toNat + 1 := by
      rw [BitVec.toNat_add_of_lt]
      · rfl
      · exact hsec
    simp only [carried, BitVec.toNat_ofNat, Nat.reducePow, Nat.reduceMul] at *
    omega
  · simp only [BitVec.toNat_ofNat, Nat.reducePow, Nat.reduceMul] at *
    omega

/-- The block with each of its time bases one tick further. -/
def ticking (s : State) : State :=
  withTb s { s.tb with t0 := tbTick s.tb.t0, t1 := tbTick s.tb.t1, t2 := tbTick s.tb.t2, t3 := tbTick s.tb.t3 }

/-- A tick that applies nothing to T0 moves the four time bases and nothing else. -/
theorem tbTickAll_quiet {s : State} (h : s.tb.t0.ops = []) : tbTickAll s = ticking s := by
  unfold tbTickAll
  rw [h]
  rfl

/-- The module is past reset, outside Off and Deep sleep: its time bases tick. -/
theorem timeTick_ticks {s : State} (hreset : s.boot.resetN = true) (hoff : s.pwr.state ≠ .off) (hdeep : s.pwr.state ≠ .deepSleep) :
    timeTick s = absorbStep (stepNext s) (tbTickAll s) := if_neg (by simp [hreset, hoff, hdeep])

theorem stepNext_nil {s : State} (h : s.tb.t0.ops = []) : stepNext s = 0 := by rw [stepNext, h]

/-- Settles O21: an advance adds the increment, and a tick with nothing waiting is an advance of each. -/
theorem aTickAddsTheIncrement : Obligations.ATickAddsTheIncrement := by
  refine ⟨fun n t hsound hops hinc hsec => ?_, fun s hreset hoff hdeep hops => congrArg Host.Outcome.next ?_⟩
  · rw [tbTick_quiet hops hinc]
    exact ⟨tbFixed_tbAdvance hsound hsec, tbAdvance_inc t⟩
  · rw [timeTick_ticks hreset hoff hdeep, stepNext_nil hops]
    exact tbTickAll_quiet hops

/-! ### What one time base's registers reach (R172) -/

/-- From `s` to `t`, no time base but the one numbered `n` has changed, and that one still stands at the value it counted to. -/
structure OnlyBase (n : Nat) (s t : State) : Prop where
  others : ∀ m, m < 4 → m ≠ n → tbGet t.tb m = tbGet s.tb m
  value : tbNs (tbGet t.tb n) = tbNs (tbGet s.tb n)
  frac : (tbGet t.tb n).frac = (tbGet s.tb n).frac

/-- Every time base stands as it stood. -/
structure SameBases (s t : State) : Prop where
  base : ∀ m, tbGet t.tb m = tbGet s.tb m

theorem SameBases.refl (s : State) : SameBases s s := ⟨fun _ => rfl⟩

theorem SameBases.trans {s t u : State} (h : SameBases s t) (h' : SameBases t u) : SameBases s u :=
  ⟨fun m => (h'.base m).trans (h.base m)⟩

theorem sameBases_of_tb {s t : State} (h : t.tb = s.tb) : SameBases s t := ⟨fun m => congrArg (tbGet · m) h⟩

/-- Fields of the time unit other than the bases change no base. -/
theorem sameBases_of_bases {s t : State} (h0 : t.tb.t0 = s.tb.t0) (h1 : t.tb.t1 = s.tb.t1) (h2 : t.tb.t2 = s.tb.t2)
    (h3 : t.tb.t3 = s.tb.t3) : SameBases s t := by
  refine ⟨fun m => ?_⟩
  match m with
  | 0 => exact h0
  | 1 => exact h1
  | 2 => exact h2
  | _ + 3 => exact h3

theorem SameBases.ite {s a b : State} {p : Prop} [Decidable p] (ha : SameBases s a) (hb : SameBases s b) :
    SameBases s (if p then a else b) := by
  split
  · exact ha
  · exact hb

section
variable {n : Nat} {s t u : State}

theorem SameBases.only (h : SameBases s t) : OnlyBase n s t :=
  ⟨fun m _ _ => h.base m, congrArg tbNs (h.base n), congrArg TimeBase.frac (h.base n)⟩

theorem OnlyBase.refl (n : Nat) (s : State) : OnlyBase n s s := ⟨fun _ _ _ => rfl, rfl, rfl⟩

theorem OnlyBase.trans (h : OnlyBase n s t) (h' : OnlyBase n t u) : OnlyBase n s u :=
  ⟨fun m hm hne => (h'.others m hm hne).trans (h.others m hm hne), h'.value.trans h.value, h'.frac.trans h.frac⟩

theorem OnlyBase.then_same (h : OnlyBase n s t) (h' : SameBases t u) : OnlyBase n s u := h.trans h'.only

theorem OnlyBase.ite {p : Prop} [Decidable p] (ht : OnlyBase n s t) (hu : OnlyBase n s u) : OnlyBase n s (if p then t else u) := by
  split
  · exact ht
  · exact hu

/-- Time base `n` replaced by one that stands at the same value. -/
theorem onlyBase_setTb (hn : n < 4) {b : TimeBase} (hsec : b.sec = (tbGet s.tb n).sec) (hns : b.ns = (tbGet s.tb n).ns)
    (hfrac : b.frac = (tbGet s.tb n).frac) : OnlyBase n s (setTb n b s) where
  others m hm hne := tbGet_tbSet_other hn hm hne ..
  value := by
    rw [tbGet_setTb]
    simp only [tbNs, hsec, hns]
  frac := by rw [tbGet_setTb, hfrac]

end

theorem paramRefused_tb (init off : Nat) (v : W32) (s : State) : (paramRefused init off v s).tb = s.tb := raise_tb ..

theorem refusedReg_tb (j : Judged) (init off : Nat) (write : Bool) (s : State) : (refusedReg j init off write s).tb = s.tb :=
  (refusedReg_frame j init off write s (Agree.refl { mem := true } s) rfl).tb.resolve_left Bool.false_ne_true

theorem sameBases_servoActive (s : State) : SameBases s (servoActive s) := sameBases_of_bases rfl rfl rfl rfl

theorem sameBases_setT0State (new : T0State) (cause : Nat) (s : State) : SameBases s (setT0State new cause s) := by
  unfold setT0State
  split
  · exact sameBases_of_tb rfl
  · refine .trans ?_ (sameBases_of_tb (raise_tb ..))
    split <;> exact sameBases_of_bases rfl rfl rfl rfl

/-- A register write that may take effect by its rule, be refused, or be dropped. -/
theorem onlyBase_regWrite {n off : Nat} {i : RegInfo} {a : RegW} {eff : W32 → State → State} {s : State}
    (h : ∀ v, OnlyBase n s (eff v s)) : OnlyBase n s (regWrite off i a eff s) := by
  have refused := fun v => (sameBases_of_tb (paramRefused_tb a.init off v s)).only (n := n)
  have judged := fun j => (sameBases_of_tb (refusedReg_tb j a.init off true s)).only (n := n)
  unfold regWrite
  split
  · exact .refl n s
  · split
    · exact .ite (h _) (refused _)
    · exact judged _
  · split
    · exact .ite (refused _) (.ite (h _) (.ite (h _) (.refl n s)))
    · exact judged _

/-- What a commit of an increment or a step leaves, with its servo activity (R187). -/
theorem OnlyBase.servo {n : Nat} {s t : State} (h : OnlyBase n s t) : OnlyBase n s (if n = 0 then servoActive t else t) :=
  .ite (h.then_same (sameBases_servoActive t)) h

/-- The block with a step written to the registers of time base `n`, before it is judged (R180, R668). -/
def stepWritten (n init : Nat) (v : W32) (s : State) : State :=
  setTb n { tbGet s.tb n with stepLo := commitLo init (0x2030 + 0x100 * n) (tbGet s.tb n).stepLo s, stepHi := v }
    (dropLo init (0x2030 + 0x100 * n) s)

/-- The step that a commit makes: its low word pending or current, its high word as written. -/
def stepValue (n init : Nat) (v : W32) (s : State) : Int :=
  sext 64 (w64of (commitLo init (0x2030 + 0x100 * n) (tbGet s.tb n).stepLo s) v)

theorem stepCommit_t2 (init : Nat) (v : W32) (s : State) :
    stepCommit 2 init v s = stepRefused 2 3 (stepValue 2 init v s) (stepWritten 2 init v s) := rfl

theorem stepCommit_judged {n : Nat} (h : n ≠ 2) (init : Nat) (v : W32) (s : State) : stepCommit n init v s =
    if n = 0 then servoActive (judgeStep n (stepValue n init v s) (TbOp.step (stepValue n init v s)) (stepWritten n init v s))
    else judgeStep n (stepValue n init v s) (TbOp.step (stepValue n init v s)) (stepWritten n init v s) := by
  simp only [stepCommit, if_neg h, stepValue, stepWritten]

/-- A value in its range is stored, one outside is refused (R662). -/
theorem onlyBase_ranged {n : Nat} {s t : State} (p : Prop) [Decidable p] (init off : Nat) (v : W32) (h : OnlyBase n s t) :
    OnlyBase n s (if p then t else paramRefused init off v s) :=
  .ite h (sameBases_of_tb (paramRefused_tb init off v s)).only

theorem sameBases_t0Declare (v : W32) (s : State) : SameBases s (t0Declare v s) := by
  have declared (new : T0State) : SameBases s (setT0State new 1 s) := sameBases_setT0State new 1 s
  exact .ite (.ite ((.refl s)) (declared _)) (.ite (.ite (declared _) (.refl s)) (.ite (.ite (sameBases_servoActive s)
    ((sameBases_servoActive s).trans (sameBases_setT0State _ _ _))) (.refl s)))

section
variable {n : Nat} (hn : n < 4)
include hn

/-- A rule may drop the pending low word of its register first. -/
theorem onlyBase_setTb_dropLo {s : State} (init off : Nat) {b : TimeBase} (hsec : b.sec = (tbGet s.tb n).sec)
    (hns : b.ns = (tbGet s.tb n).ns) (hfrac : b.frac = (tbGet s.tb n).frac) : OnlyBase n s (setTb n b (dropLo init off s)) :=
  (sameBases_of_tb (s := s) (t := dropLo init off s) rfl).only.trans (onlyBase_setTb hn hsec hns hfrac)

theorem onlyBase_incCommit (init : Nat) (v : W32) (s : State) : OnlyBase n s (incCommit n init v s) :=
  .servo (.ite (onlyBase_setTb_dropLo hn _ _ rfl rfl rfl) (onlyBase_setTb_dropLo hn _ _ rfl rfl rfl))

theorem onlyBase_stepRefused (reason : Nat) (d : Int) (s : State) : OnlyBase n s (stepRefused n reason d s) :=
  .then_same (t := setTb n { tbGet s.tb n with stepRefused := true } s) (onlyBase_setTb hn rfl rfl rfl) (sameBases_of_tb (raise_tb ..))

theorem onlyBase_judgeStep (d : Int) (mk : Bool → TbOp) (s : State) : OnlyBase n s (judgeStep n d mk s) := by
  have disarmed : OnlyBase n s (setTb n { tbGet s.tb n with ovrArmed := false } s) := onlyBase_setTb hn rfl rfl rfl
  exact .ite (disarmed.trans (onlyBase_stepRefused hn ..)) (.ite (disarmed.trans (onlyBase_stepRefused hn ..))
    (onlyBase_setTb hn rfl rfl rfl))

theorem onlyBase_stepCommit (init : Nat) (v : W32) (s : State) : OnlyBase n s (stepCommit n init v s) := by
  have written : OnlyBase n s (stepWritten n init v s) := onlyBase_setTb_dropLo hn _ _ rfl rfl rfl
  by_cases h2 : n = 2
  · subst h2
    exact written.trans (onlyBase_stepRefused hn ..)
  · rw [stepCommit_judged h2]
    exact .servo (written.trans (onlyBase_judgeStep hn ..))

theorem onlyBase_tbLoad (s : State) : OnlyBase n s (tbLoad n s) :=
  .ite (.refl n s) (.ite (onlyBase_judgeStep hn ..) (onlyBase_setTb hn rfl rfl rfl))

theorem onlyBase_tbCtlWrite (init : Nat) (v : W32) (s : State) : OnlyBase n s (tbCtlWrite n init v s) := by
  have enabled : OnlyBase n s (setTb n { tbGet s.tb n with ppsEn := bitOf v 4 } s) := onlyBase_setTb hn rfl rfl rfl
  have armed : OnlyBase n s (if bitOf v 3 && init == 0 then setTb n { tbGet (setTb n { tbGet s.tb n with ppsEn := bitOf v 4 } s).tb n with
      ovrArmed := true, ovrAt := t2Ns s } (setTb n { tbGet s.tb n with ppsEn := bitOf v 4 } s)
      else setTb n { tbGet s.tb n with ppsEn := bitOf v 4 } s) := .ite (enabled.trans (onlyBase_setTb hn rfl rfl rfl)) enabled
  exact .ite (armed.trans (onlyBase_tbLoad hn _)) armed

theorem onlyBase_tbPlainWrite {off : Nat} (hoff : (off - 0x2000) / 0x100 = n) (init : Nat) (v : W32) (s : State) :
    OnlyBase n s (tbPlainWrite off init v s) := by
  have held : OnlyBase n s (holdLo init off v s) := (sameBases_of_tb (s := s) (t := holdLo init off v s) rfl).only
  have stored (u : TimeUnit) (h0 : u.t0 = s.tb.t0) (h1 : u.t1 = s.tb.t1) (h2 : u.t2 = s.tb.t2) (h3 : u.t3 = s.tb.t3) :
      OnlyBase n s (withTb s u) := (sameBases_of_bases h0 h1 h2 h3).only
  unfold tbPlainWrite
  dsimp only
  rw [hoff]
  split
  iterate 4 exact onlyBase_ranged _ init _ v (stored _ rfl rfl rfl rfl)
  split
  · exact onlyBase_ranged _ init off v (onlyBase_setTb hn rfl rfl rfl)
  · exact held
  · exact onlyBase_setTb_dropLo hn init (off - 4) rfl rfl rfl
  · exact .ite (.refl n s) (onlyBase_ranged _ init off v (onlyBase_setTb hn rfl rfl rfl))
  · exact .ite (.refl n s) held
  · exact held
  · exact .refl n s

/-- Whatever register of a time base's block a word is applied to, no other base changes. -/
theorem onlyBase_regApply {off : Nat} (hlo : 0x2000 + 0x100 * n ≤ off) (hhi : off < 0x2100 + 0x100 * n) (init : Nat) (v : W32)
    (s : State) : OnlyBase n s (regApply off init v s) := by
  have hblock : off / 0x1000 = 2 := by omega
  have hoff : (off - 0x2000) / 0x100 = n := by omega
  have hbase : off < 0x2400 := by omega
  unfold regApply tbApplyWrite
  simp only [hblock, hbase, if_true, hoff]
  split
  · exact onlyBase_tbCtlWrite hn init v s
  · exact onlyBase_incCommit hn init v s
  · exact onlyBase_stepCommit hn init v s
  · exact (sameBases_t0Declare v s).only
  · exact (sameBases_of_bases (s := s) (t := errEstWrite v s) rfl rfl rfl rfl).only
  · exact onlyBase_tbPlainWrite hn hoff init v s

/-- A write by any of a time base's own rows, or of any register of its block. -/
theorem onlyBase_write (a : RegW) {s t : State} (h : exec (.tbIncCommit n a) s = .next t ∨ exec (.tbStepCommit n a) s = .next t ∨
    exec (.tbLoad n a) s = .next t ∨ exec (.tbStepOvr n a) s = .next t ∨
    ∃ off, 0x2000 + 0x100 * n ≤ off ∧ off < 0x2100 + 0x100 * n ∧ exec (.registerWrite off a) s = .next t) : OnlyBase n s t := by
  have hmod : n % 4 = n := Nat.mod_eq_of_lt hn
  rcases h with h | h | h | h | ⟨off, hlo, hhi, h⟩ <;> injection h with h <;> subst h
  · rw [hmod]
    exact onlyBase_regWrite fun v => onlyBase_incCommit hn a.init v s
  · rw [hmod]
    exact onlyBase_regWrite fun v => onlyBase_stepCommit hn a.init v s
  · rw [hmod]
    exact onlyBase_regWrite fun v => onlyBase_tbCtlWrite hn a.init v s
  · rw [hmod]
    exact onlyBase_regWrite fun v => onlyBase_tbCtlWrite hn a.init v s
  · exact .ite (onlyBase_regWrite fun v => onlyBase_regApply hn hlo hhi a.init v s) (.refl n s)

end

/-! ### Each base ticks from its own value -/

theorem sameBases_flRenumber (now : Nat) (back : Bool) (s : State) (g : Nat) : SameBases s (flRenumber now back s g) := by
  unfold flRenumber flSlip
  refine .ite ?_ (.refl s)
  exact .trans (t := flSet g _ _) (sameBases_of_bases rfl rfl rfl rfl) (sameBases_of_tb (raise_tb ..))

theorem sameBases_foldl {α : Type} {f : State → α → State} (hf : ∀ s a, SameBases s (f s a)) (l : List α) (s : State) :
    SameBases s (l.foldl f s) := by
  induction l generalizing s with
  | nil => exact .refl s
  | cons a l ih => exact (hf s a).trans (ih _)

theorem sameBases_t0Applied (o : TbOp) (s : State) : SameBases s (t0Applied o s) := by
  have renumbered (d : Int) (u : State) : SameBases u ((List.range 8).foldl (flRenumber (t0Ns u) (d < 0)) u) :=
    sameBases_foldl (fun _ _ => sameBases_flRenumber ..) _ _
  have same : SameBases s s := .refl s
  have unlocked (cause : Nat) : SameBases s (if s.tb.state = .unset then s else setT0State .unlocked cause s) :=
    .ite same (sameBases_setT0State ..)
  cases o with
  | step d beyond => exact .ite ((unlocked 4).trans (renumbered d _)) same
  | load sec ns first beyond d =>
    have counted : SameBases s (if first then (if s.tb.state = .unset then setT0State .unlocked 5 s else s)
        else if beyond then (if s.tb.state = .unset then s else setT0State .unlocked 4 s) else s) :=
      .ite (.ite (sameBases_setT0State ..) same) (.ite (unlocked 4) same)
    exact .ite (counted.trans (renumbered d _)) counted

theorem tbGet_tbTickAll (s : State) (m : Nat) : tbGet (tbTickAll s).tb m = tbTick (tbGet s.tb m) := by
  have ticked : SameBases (ticking s) (tbTickAll s) := by
    unfold tbTickAll
    cases s.tb.t0.ops.head? with
    | none => exact .refl _
    | some o => exact sameBases_t0Applied o _
  rw [ticked.base m]
  match m with
  | 0 | 1 | 2 | _ + 3 => rfl

/-! ### T2 is never stepped or loaded (R181) -/

theorem regWrite_t2 {off : Nat} {i : RegInfo} {a : RegW} {eff : W32 → State → State} {s : State}
    (h : ∀ v, (eff v s).tb.t2.ops = s.tb.t2.ops ∧ (eff v s).tb.t2.inc = s.tb.t2.inc) :
    (regWrite off i a eff s).tb.t2.ops = s.tb.t2.ops ∧ (regWrite off i a eff s).tb.t2.inc = s.tb.t2.inc := by
  unfold regWrite
  repeat' split
  all_goals simp [h, paramRefused_tb, refusedReg_tb]

theorem stepCommit_t2_keeps (init : Nat) (v : W32) (s : State) :
    (stepCommit 2 init v s).tb.t2.ops = s.tb.t2.ops ∧ (stepCommit 2 init v s).tb.t2.inc = s.tb.t2.inc := by
  simp [stepCommit_t2, stepRefused, stepWritten, tbSet, tbGet]

theorem tbCtlWrite_t2_keeps (init : Nat) (v : W32) (s : State) :
    (tbCtlWrite 2 init v s).tb.t2.ops = s.tb.t2.ops ∧ (tbCtlWrite 2 init v s).tb.t2.inc = s.tb.t2.inc := by
  simp only [tbCtlWrite, tbLoad, if_true, ite_self]
  split <;> simp [tbSet, tbGet]

/-- The increments of Table 05-1. -/
theorem incOk_iff (v : Nat) : (incOk 0 v = true ↔ 0x1FFF2E48F ≤ v ∧ v ≤ 0x2000D1B71) ∧
    (incOk 1 v = true ↔ 0x1FF7CED92 ≤ v ∧ v ≤ 0x20083126E) ∧ incOk 2 v = false ∧ incOk 3 v = incOk 0 v := by
  simp [incOk]

/-- Settles O20: every write, by a row or as a plain register write, keeps to its own base; a tick takes each base from itself. -/
theorem aWriteToOneTimeBaseChangesNoOther : Obligations.AWriteToOneTimeBaseChangesNoOther := by
  refine ⟨fun n m a s t hn hm hne h => ?_, fun m s _ => tbGet_tbTickAll s m, fun a s t h => ?_, incOk_iff⟩
  · obtain ⟨others, value, frac⟩ := onlyBase_write hn a h
    exact ⟨others m hm hne, value, frac⟩
  · rcases h with h | h <;> injection h with h <;> subst h
    · exact regWrite_t2 fun v => stepCommit_t2_keeps a.init v s
    · exact regWrite_t2 fun v => tbCtlWrite_t2_keeps a.init v s

end Sys2Proof.Machine
end

section
/-! SUPPORT. Increments, steps, loads and the override of the time bases (R176 to R183): what each rule answers, case by case. -/

namespace Sys2Proof.Machine

/-! ### A step is judged (R181 to R183) -/

section
variable {n : Nat} {d : Int} {mk : Bool → TbOp} {s : State} {t : TimeBase}

theorem judgeStep_within (ht : tbGet s.tb n = t) (h : d.natAbs ≤ t.thr.toNat * 1000) :
    judgeStep n d mk s = setTb n { t with ovrArmed := false, ops := t.ops ++ [mk false] } s := by
  subst ht
  simp [judgeStep, thrNs, Nat.not_lt.mpr h]

theorem judgeStep_armed (ht : tbGet s.tb n = t) (h : t.thr.toNat * 1000 < d.natAbs) (harmed : t.ovrArmed = true)
    (hjump : n = 0 → t0MayJump s.pwr.mode = true) :
    judgeStep n d mk s = setTb n { t with ovrArmed := false, ops := t.ops ++ [mk true] } s := by
  subst ht
  simp only [judgeStep, thrNs, h, harmed, decide_true, Bool.not_true, Bool.and_false, Bool.false_eq_true, if_false, Bool.true_and,
    Bool.and_eq_true, beq_iff_eq, Bool.not_eq_true']
  exact if_neg fun ⟨hn, hmode⟩ => by simp [hjump hn] at hmode

/-- A step beyond the threshold is refused: reason 2 where the override did not help, else reason 1 (Table 05-5). -/
theorem judgeStep_refused (ht : tbGet s.tb n = t) (h : t.thr.toNat * 1000 < d.natAbs)
    (hwhy : t.ovrArmed = false ∨ (n = 0 ∧ t0MayJump s.pwr.mode = false)) :
    judgeStep n d mk s = stepRefused n (if t.ovrArmed then 2 else 1) d (setTb n { t with ovrArmed := false } s) := by
  subst ht
  cases harmed : (tbGet s.tb n).ovrArmed with
  | false => simp [judgeStep, thrNs, h, harmed]
  | true =>
    obtain hno | ⟨rfl, hmode⟩ := hwhy
    · simp [harmed] at hno
    · simp [judgeStep, thrNs, h, harmed, hmode]

end

/-- The words of STEP_REFUSED are the halves of the step as 64 bits (Table 05-5). -/
theorem stepRefused_eq (n reason : Nat) (d : Int) (s : State) : stepRefused n reason d s =
    raise 0x0B [pack [(31, 24, n), (23, 16, reason)], (BitVec.ofInt 64 d).setWidth 32, ((BitVec.ofInt 64 d) >>> 32).setWidth 32]
      (setTb n { tbGet s.tb n with stepRefused := true } s) := by
  have low (v : BitVec 64) : w32 v.toNat = v.setWidth 32 := rfl
  have high (v : BitVec 64) : w32 (v.toNat / 2 ^ 32) = (v >>> 32).setWidth 32 := by
    apply BitVec.eq_of_toNat_eq
    simp [w32, Nat.shiftRight_eq_div_pow]
  simp only [stepRefused, low, high]

theorem tbGet_stepWritten (n init : Nat) (v : W32) (s : State) : tbGet (stepWritten n init v s).tb n =
    { tbGet s.tb n with stepLo := commitLo init (0x2030 + 0x100 * n) (tbGet s.tb n).stepLo s, stepHi := v } := tbGet_setTb ..

/-! ### The rows -/

section
variable {n : Nat} {a : RegW} {s : State} (hn : n < 4)
include hn

theorem exec_tbIncCommit (h : Writes (0x200C + 0x100 * n) a s) : exec (.tbIncCommit n a) s = .next (incCommit n a.init a.val s) := by
  show Host.Outcome.next (regWrite (0x200C + 0x100 * (n % 4)) { rw := 0xFFFFFFFF, wide := true } a (incCommit (n % 4) a.init) s) = _
  rw [Nat.mod_eq_of_lt hn, regWrite_writes _ _ h]

theorem exec_tbStepCommit (h : Writes (0x2034 + 0x100 * n) a s) : exec (.tbStepCommit n a) s = .next (stepCommit n a.init a.val s) := by
  show Host.Outcome.next (regWrite (0x2034 + 0x100 * (n % 4)) { rw := 0xFFFFFFFF, wide := true } a (stepCommit (n % 4) a.init) s) = _
  rw [Nat.mod_eq_of_lt hn, regWrite_writes _ _ h]

/-- TBn_CTL written by either row. -/
theorem exec_tbCtl (h : Writes (0x2000 + 0x100 * n) a s) : exec (.tbLoad n a) s = .next (tbCtlWrite n a.init a.val s) ∧
    exec (.tbStepOvr n a) s = .next (tbCtlWrite n a.init a.val s) := by
  refine and_self_iff.mpr ?_
  show Host.Outcome.next (regWrite (0x2000 + 0x100 * (n % 4)) (tbCtlInfo (n % 4) s) a (tbCtlWrite (n % 4) a.init) s) = _
  rw [Nat.mod_eq_of_lt hn, regWrite_writes _ _ h]

end

section
variable {n init : Nat} {v : W32} {s : State}

/-- A write of TBn_CTL that asks for a load alone. -/
theorem tbCtlWrite_load {t : TimeBase} (ht : t = { tbGet s.tb n with ppsEn := bitOf v 4 }) (hload : bitOf v 2 = true)
    (hovr : bitOf v 3 = false) : tbCtlWrite n init v s = tbLoad n (setTb n t s) := by
  simp only [tbCtlWrite, hload, hovr, ← ht, Bool.false_and, Bool.false_eq_true, if_false, if_true]

/-- A write of TBn_CTL that asks for the override alone: PF0's arms it (R182). -/
theorem tbCtlWrite_ovr {t : TimeBase} (ht : t = { tbGet s.tb n with ppsEn := bitOf v 4 }) (hload : bitOf v 2 = false)
    (hovr : bitOf v 3 = true) : tbCtlWrite n init v s =
      if init = 0 then setTb n { t with ovrArmed := true, ovrAt := t2Ns s } s else setTb n t s := by
  simp only [tbCtlWrite, hload, hovr, ← ht, Bool.true_and, Bool.false_eq_true, if_false, beq_iff_eq, tbGet_setTb, setTb_setTb]

/-- The first load of an unset time base waits, whatever its size (R181). -/
theorem tbLoad_first {t : TimeBase} (ht : t = tbGet s.tb n) (h2 : n ≠ 2) (hset : t.set = false) (hops : t.ops = []) :
    tbLoad n s = setTb n { t with ovrArmed := false, ops := [.load (BitVec.ofNat 64 (w64of t.loadLo t.loadHi)) t.loadNs true
      (decide (t.thr.toNat * 1000 < (loadStep t).natAbs)) (loadStep t)] } s := by
  simp only [tbLoad, ← ht, if_neg h2, hset, hops, List.any_nil, Bool.or_false, Bool.false_eq_true, if_false, List.nil_append]
  rfl

/-- A later load is the step that it makes (R181). -/
theorem tbLoad_later {t : TimeBase} (ht : t = tbGet s.tb n) (h2 : n ≠ 2) (hset : t.set = true) : tbLoad n s =
    judgeStep n (loadStep t) (fun b => .load (BitVec.ofNat 64 (w64of t.loadLo t.loadHi)) t.loadNs false b (loadStep t)) s := by
  simp only [tbLoad, ← ht, if_neg h2, hset, Bool.true_or, if_true]

end

theorem overrideLapse_eq {n : Nat} (hn : n < 4) (s : State) : exec (.overrideLapse n) s = .next
    (if (tbGet s.tb n).ovrArmed = true ∧ (tbGet s.tb n).ovrAt + 1000000000 ≤ t2Ns s then
      setTb n { tbGet s.tb n with ovrArmed := false } s else s) := by
  show execOverrideLapse n s = _
  simp only [execOverrideLapse, Nat.mod_eq_of_lt hn, Bool.and_eq_true, decide_eq_true_eq]

/-- Settles O22, row by row: snapshot, increment, step, T2's step, control register and the end of the override. -/
theorem stepsLoadsAndIncrements : Obligations.StepsLoadsAndIncrements := by
  unfold Obligations.StepsLoadsAndIncrements
  refine ⟨fun a s h hbit => ?snapshot, ?increment, ?step, ?t2, ?control, fun n s hn => ?lapse⟩
  case snapshot =>
    refine (congrArg Host.Outcome.next (regWrite_writes _ _ h)).trans ?_
    simp only [hbit, if_true]
    rfl
  case increment =>
    rintro n a s s1 t v hn h rfl rfl rfl
    rw [exec_tbIncCommit hn h]
    refine ⟨fun hok => ?_, fun hbad => ?_, rfl⟩
    · simp only [incCommit, hok, if_true]
    · simp only [incCommit, hbad, Bool.false_eq_true, if_false]
  case step =>
    rintro n a s s1 t t1 lo d hn h2 h rfl rfl hd rfl rfl
    have value : stepValue n a.init a.val s = d := hd.symm
    have written := tbGet_stepWritten n a.init a.val s
    rw [exec_tbStepCommit hn h, stepCommit_judged h2, value]
    refine ⟨fun hin => ?_, fun hout harmed hjump => ?_, fun u hout hwhy hu => ?_⟩
    · rw [judgeStep_within written hin, stepWritten, setTb_setTb]
    · rw [judgeStep_armed written hout harmed hjump, stepWritten, setTb_setTb]
    · subst hu
      rw [judgeStep_refused written hout hwhy, stepRefused_eq, stepWritten, tbGet_setTb, setTb_setTb, setTb_setTb]
  case t2 =>
    rintro a s s1 lo h rfl rfl
    rw [exec_tbStepCommit (by decide) h]
    rfl
  case control =>
    rintro n a s s1 t hn h ht rfl
    obtain ⟨hload, hovr⟩ := exec_tbCtl hn h
    have stored : t = tbGet (setTb n t s).tb n := (tbGet_setTb ..).symm
    refine ⟨fun hl ho h2 hset hops => ?_, fun hl ho h2 hset => ?_, fun hl ho h2 => ?_, fun ho hl hinit => ?_, fun ho hl hinit => ?_⟩
    · rw [hload, tbCtlWrite_load ht hl ho, tbLoad_first stored h2 hset hops]
    · rw [hload, tbCtlWrite_load ht hl ho, tbLoad_later stored h2 hset]
    · rw [hload, tbCtlWrite_load ht hl ho, tbLoad, if_pos h2]
    · rw [hovr, tbCtlWrite_ovr ht hl ho, if_pos hinit, setTb_setTb]
    · rw [hovr, tbCtlWrite_ovr ht hl ho, if_neg hinit]
  case lapse =>
    rw [overrideLapse_eq hn]
    refine ⟨fun harmed hpast => congrArg _ (if_pos ⟨harmed, hpast⟩), fun hnot => congrArg _ (if_neg ?_)⟩
    rintro ⟨harmed, hpast⟩
    obtain hoff | hearly := hnot
    · simp [harmed] at hoff
    · omega

end Sys2Proof.Machine
end

section
/-! SUPPORT. T0's states (R186 to R192), the captures of PPS_IN (R200) and the frame-lock generators (R211 to R219): what each row answers. -/

namespace Sys2Proof.Machine

/-! ### T0's states -/

theorem w32_sat32_toNat (v : W32) : w32 (sat32 v.toNat) = v := by
  have : sat32 v.toNat = v.toNat := by
    unfold sat32 satTo
    split <;> omega
  rw [this, w32, BitVec.ofNat_toNat, BitVec.setWidth_eq]

/-- TIME_STATE carries the estimated error of HOLDOVER where T0 leaves that state, and the estimate elsewhere (R189, Table 05-5). -/
theorem setT0State_change {new : T0State} (cause : Nat) {s : State} (h : s.tb.state ≠ new) : setT0State new cause s =
    raise 0x0A [pack [(31, 24, t0Num new), (23, 16, t0Num s.tb.state), (15, 8, cause)],
        (if s.tb.state = .holdover then w32 (sat32 (errNs s)) else s.tb.errEst), s.tb.t0.sec.setWidth 32, s.tb.t0.ns]
      (withTb s
        { s.tb with state := new, entered := tupd 0 (t0Num new) (· + 1) s.tb.entered, hist := (t0Ns s, new) :: s.tb.hist
                    e0 := if new = .holdover then s.tb.errEst else s.tb.e0
                    holdAt := if new = .holdover then t2Ns s else s.tb.holdAt }) := by
  by_cases hnew : new = .holdover
  · subst hnew
    simp [setT0State, h, w32_sat32_toNat]
  · by_cases hold : s.tb.state = .holdover
    · simp [setT0State, hnew, hold, Ne.symm hnew]
    · simp [setT0State, h, hnew, hold, w32_sat32_toNat]

section
variable {v : W32} {s : State}

theorem t0Declare_unlock (h : bitOf v 5 = true) : t0Declare v s = if s.tb.state = .unset then s else setT0State .unlocked 1 s :=
  if_pos h

theorem t0Declare_hold (hunlock : bitOf v 5 = false) (h : bitOf v 6 = true) :
    t0Declare v s = if s.tb.state = .locked then setT0State .holdover 1 s else s := by
  simp [t0Declare, hunlock, h]

theorem t0Declare_lock (hunlock : bitOf v 5 = false) (hhold : bitOf v 6 = false) (h : bitOf v 7 = true) :
    t0Declare v s = if s.tb.state = .unset then servoActive s else setT0State .locked 1 (servoActive s) := by
  simp [t0Declare, hunlock, hhold, h]

end

/-- TB0_STATE written by any of its three rows. -/
theorem exec_t0Declare {a : RegW} {s : State} (h : Writes 0x2050 a s) : exec (.declareLock a) s = .next (t0Declare a.val s) ∧
    exec (.declareHold a) s = .next (t0Declare a.val s) ∧ exec (.declareUnlock a) s = .next (t0Declare a.val s) :=
  have := congrArg Host.Outcome.next (regWrite_writes t0StateInfo t0Declare h)
  ⟨this, this, this⟩

theorem exec_servoTimeout (s : State) : exec .servoTimeout s = .next
    (if s.tb.state = .locked ∧ s.tb.servoAt + s.tb.servoTmo.toNat * 1000000 ≤ t2Ns s then setT0State .holdover 2 s else s) := by
  show execServoTimeout s = _
  simp only [execServoTimeout, Bool.and_eq_true, beq_iff_eq, decide_eq_true_eq]

theorem exec_holdoverLimitExceeded (s : State) : exec .holdoverLimitExceeded s = .next
    (if s.tb.state = .holdover ∧ s.tb.holdLimit.toNat * 1000 < errNs s then setT0State .unlocked 3 s else s) := by
  show execHoldoverLimitExceeded s = _
  simp only [execHoldoverLimitExceeded, Bool.and_eq_true, beq_iff_eq, decide_eq_true_eq]

/-- Settles O23: the declarations, the two timers, what a change leaves, the estimate and the PPS edge. -/
theorem t0StateFollowsItsTable : Obligations.T0StateFollowsItsTable := by
  refine ⟨fun a s h => ?declared, fun s hlocked hpast => ?_, fun s hnot => ?_, fun s hhold hover => ?_, fun s hnot => ?_,
    fun new cause s h => ?change, fun a s h => ?_, fun s => rfl⟩
  case declared =>
    obtain ⟨lock, hold, unlock⟩ := exec_t0Declare h
    rw [lock, hold, unlock]
    refine ⟨fun h5 h6 h7 hset => ?_, fun h5 h6 h7 hunset => ?_, fun h5 h6 hst => ?_, fun h5 h6 hst => ?_, fun h5 hset => ?_,
      fun h5 hunset => ?_⟩
    · rw [t0Declare_lock h5 h6 h7, if_neg hset]
    · rw [t0Declare_lock h5 h6 h7, if_pos hunset]
    · rw [t0Declare_hold h5 h6, if_pos hst]
    · rw [t0Declare_hold h5 h6, if_neg hst]
    · rw [t0Declare_unlock h5, if_neg hset]
    · rw [t0Declare_unlock h5, if_pos hunset]
  · rw [exec_servoTimeout, if_pos ⟨hlocked, hpast⟩]
  · rw [exec_servoTimeout, if_neg fun ⟨hlocked, hpast⟩ => hnot.elim (· hlocked) (by omega)]
  · rw [exec_holdoverLimitExceeded, if_pos ⟨hhold, hover⟩]
  · rw [exec_holdoverLimitExceeded, if_neg fun ⟨hhold, hover⟩ => hnot.elim (· hhold) (Nat.not_le.mpr hover)]
  case change =>
    refine ⟨_, _, _, setT0State_change cause h, fun k => ?_, fun hnew => ?_, fun hnew => ?_⟩
    · rw [tget_tupd]
      split
      · rename_i hk
        rw [hk]
      · rfl
    · simp only [if_pos hnew, and_self]
    · simp only [if_neg hnew, and_self]
  · exact congrArg Host.Outcome.next (regWrite_writes _ errEstWrite h)

/-! ### Frame lock -/

section
variable {g : Nat} {a : RegW} {s : State} (hg : g < 8)
include hg

theorem exec_flCtlWrite (h : Writes (0x2C00 + 0x20 * g) a s) : exec (.flCtlWrite g a) s = .next (flCtlWrite g a.init a.val s) := by
  show Host.Outcome.next (regWrite (0x2C00 + 0x20 * (g % 8)) (flCtlInfo (g % 8) s) a (flCtlWrite (g % 8) a.init) s) = _
  rw [Nat.mod_eq_of_lt hg, regWrite_writes _ _ h]

theorem exec_flParamWrite {p : FlParam} {off : Nat} (hoff : off = 0x2C00 + 0x20 * g + flParamOff p) (h : Writes off a s) :
    exec (.flParamWrite g p a) s = .next (flParamWrite g a.init p a.val s) := by
  subst hoff
  show Host.Outcome.next (regWrite (0x2C00 + 0x20 * (g % 8) + flParamOff p) (flParamInfo (g % 8) p s) a
    (flParamWrite (g % 8) a.init p) s) = _
  rw [Nat.mod_eq_of_lt hg, regWrite_writes _ _ h]

end

theorem flValid_iff (x : FrameLock) : flValid x = true ↔ 24 * flDen x ≤ x.num.toNat ∧ x.num.toNat ≤ 240 * flDen x ∧
    (x.phase.toNat + 1) * x.num.toNat ≤ 1000000000 * flDen x ∧ (x.den1001 = true → flOrigin x % 1001 = 0) := by
  simp only [flValid, Bool.and_eq_true, Bool.or_eq_true, decide_eq_true_eq, beq_iff_eq, Bool.not_eq_true', and_assoc,
    ← Bool.not_eq_true, ← imp_iff_not_or]

theorem flDen_pos (x : FrameLock) : 0 < flDen x := by
  unfold flDen
  split <;> decide

/-- The first number whose multiple of `den / num` reaches from `base` to `t`. -/
theorem le_add_div_iff_ceilDiv_le {num den : Nat} (hnum : 0 < num) (hden : 0 < den) (base t n : Nat) :
    t ≤ base + n * den / num ↔ (if t ≤ base then 0 else ceilDiv ((t - base) * num) den) ≤ n := by
  split
  · next hearly => exact iff_of_true (Nat.le_add_right_of_le hearly) (Nat.zero_le n)
  · calc t ≤ base + n * den / num
      _ ↔ t - base ≤ n * den / num := Nat.sub_le_iff_le_add'.symm
      _ ↔ (t - base) * num ≤ den * n := by rw [Nat.le_div_iff_mul_le hnum, Nat.mul_comm n]
      _ ↔ ceilDiv ((t - base) * num) den ≤ n := (ceilDiv_le_iff_le_mul hden).symm

/-- The display time of a frame is at least `t` from the first such frame on (R211). -/
theorem le_displayTime_iff {x : FrameLock} (hnum : x.num ≠ 0) (t n : Nat) : t ≤ displayTime x n ↔ firstFrame x t ≤ n := by
  have hpos : 0 < x.num.toNat := Nat.pos_of_ne_zero fun h => hnum (BitVec.eq_of_toNat_eq h)
  have hden : 0 < 1000000000 * flDen x := Nat.mul_pos (by decide) (flDen_pos x)
  rw [displayTime, Nat.mul_assoc n]
  exact le_add_div_iff_ceilDiv_le hpos hden _ t n

/-- Settles O24: the control register, the parameters of an enabled and of a disabled generator, and the first frame. -/
theorem frameLockTakesParametersWhileDisabled : Obligations.FrameLockTakesParametersWhileDisabled := by
  refine ⟨?control, fun g p a s hg h hen => ?_, flValid_iff, fun x t hnum => ?first, ?parameters⟩
  case control =>
    rintro g a s x y hg h rfl rfl
    rw [exec_flCtlWrite hg h]
    have disabled (hen : (flGet s g).en = false) : ¬ (flGet s g).en = true := by simp [hen]
    refine ⟨fun hen => ?_, fun hen hoff => ?_, fun hen hon hvalid => ?_, fun hen hon hbad => ?_⟩
    · exact congrArg _ (if_pos hen)
    · exact congrArg _ ((if_neg (disabled hen)).trans (if_neg (by simp [hoff])))
    · exact congrArg _ ((if_neg (disabled hen)).trans ((if_pos hon).trans (if_pos hvalid)))
    · exact congrArg _ ((if_neg (disabled hen)).trans ((if_pos hon).trans (if_neg (by simp [hbad]))))
  · rw [exec_flParamWrite hg rfl h]
    exact congrArg _ (if_pos hen)
  case first =>
    exact ⟨(le_displayTime_iff hnum t _).mpr le_rfl, fun n hn => Nat.not_le.mp fun h => (Nat.not_le.mpr hn)
      ((le_displayTime_iff hnum t n).mp h)⟩
  case parameters =>
    rintro g a s x hg rfl hen
    have written (p : FlParam) {off : Nat} (hoff : off = 0x2C00 + 0x20 * g + flParamOff p) (h : Writes off a s) :=
      (exec_flParamWrite hg hoff h).trans (congrArg _ (if_neg (by simp [hen])))
    refine ⟨fun h => ?_, fun h => ?_, fun h => ?_, fun h => ?_⟩
    · exact written .num (by simp only [flParamOff]; omega) h
    · exact written .phase (by simp only [flParamOff]; omega) h
    · exact written .originLo (by simp only [flParamOff]; omega) h
    · exact written .originHi (by simp only [flParamOff]; omega) h

end Sys2Proof.Machine
end

section
/-! SUPPORT. Interrupt moderation (R528), packet-out descriptors (R258, R545), host frames (R257) and the transmit stamps (R197, R198). -/

namespace Sys2Proof.Machine

theorem fnOf_of_lt {fn : Nat} (h : fn < 2) : fnOf fn = fn := Nat.mod_eq_of_lt h

theorem moderationExpire_due {fn r : Nat} {s : State} (hdev : deviceProduced fn r = true) (hirq : (ringGet s fn r).irqEn = true)
    (hwait : (ringGet s fn r).unsignalled ≠ 0) (hdue : (ringGet s fn r).firstAt + (ringGet s fn r).modTime * 1000 ≤ t2Ns s) :
    moderationExpire fn r s = signalVector fn (ringGet s fn r).vector (ringSet s fn r { ringGet s fn r with unsignalled := 0 }) :=
  if_pos (by simp [hdev, hirq, hwait, hdue])

/-! ### Packet-out descriptors -/

theorem ringWrite_net (fn r : Nat) (ws : List W32) (now : Bool) (s : State) : (ringWrite fn r ws now s).net = s.net := by
  obtain ⟨o, f, x, h⟩ := ringWrite_other fn r ws now s
  rw [h]

theorem ringSet_net (s : State) (fn r : Nat) (x : Ring) : (ringSet s fn r x).net = s.net := by
  unfold ringSet fnSet
  split <;> rfl

section
variable {fn : Nat} {d : PacketOut} {s : State}

theorem pktoutJudge_stamp (hfn : fn = 1) (hstamp : bitOf (wd d.words 0) 12 = true) : pktoutJudge fn d s = (2, 0) := by
  simp [pktoutJudge, hfn, hstamp]

variable (hwho : fn = 0 ∨ bitOf (wd d.words 0) 12 = false)
include hwho

theorem pktout_may_stamp : (fn == 1 && bitOf (wd d.words 0) 12) = false := by
  obtain rfl | h := hwho
  · rfl
  · simp [h]

theorem pktoutJudge_port (hport : (netGet s (fld (wd d.words 0) 15 13)).en = false) : pktoutJudge fn d s = (1, 0) := by
  simp [pktoutJudge, pktout_may_stamp hwho, hport]

variable (hport : (netGet s (fld (wd d.words 0) 15 13)).en = true)
include hport

theorem pktoutJudge_length (hlen : fld (wd d.words 1) 15 0 < 60 ∨ 9596 < fld (wd d.words 1) 15 0) : pktoutJudge fn d s = (1, 4) := by
  have hout : outside 60 9596 (fld (wd d.words 1) 15 0) = true := by simpa [outside] using hlen
  simp [pktoutJudge, pktout_may_stamp hwho, hport, hout]

variable (hmin : 60 ≤ fld (wd d.words 1) 15 0) (hmax : fld (wd d.words 1) 15 0 ≤ 9596)
include hmin hmax

theorem pktoutJudge_unread (hframe : d.frame = none) : pktoutJudge fn d s = (10, 0) := by
  simp [pktoutJudge, pktout_may_stamp hwho, hport, outside_eq_false hmin hmax, hframe]

theorem pktoutJudge_lawful {f : List Byte} (hframe : d.frame = some f) : pktoutJudge fn d s = (0, 0) := by
  simp [pktoutJudge, pktout_may_stamp hwho, hport, outside_eq_false hmin hmax, hframe]

end

/-- The block once a descriptor of packet-out ring `10 + ring` is consumed. -/
def pktoutConsumed (fn ring : Nat) (s : State) : State :=
  ringSet s fn (10 + ring) { ringGet s fn (10 + ring) with cons := (ringGet s fn (10 + ring)).cons + 1 }

/-- The consumed descriptor completed with a status and DETAIL (Table 13-9). -/
def pktoutDone (fn ring : Nat) (d : PacketOut) (s : State) (st det : Nat) : State :=
  ringWrite fn (cplRing (pktoutConsumed fn ring s) fn (10 + ring)) (cplWords (BitVec.ofNat 16 (fld (wd d.words 0) 31 16)) st
    (10 + ring) 0xFFFE 0xFFFFFFFF ((ringGet s fn (10 + ring)).cons + 1) (w32 det) []) false (pktoutConsumed fn ring s)

/-- The host frame that a lawful descriptor brings (R257). -/
def pktoutFrame (fn ring : Nat) (d : PacketOut) : TxFrame :=
  { port := fld (wd d.words 0) 15 13, ring := 2 * fn + ring, frame := (d.frame.getD []).take (fld (wd d.words 1) 15 0)
    ts := if bitOf (wd d.words 0) 12 then some (fld (wd d.words 0) 11 10, BitVec.ofNat 16 (fld (wd d.words 1) 31 16)) else none }

theorem fld_tag (w : W32) : (BitVec.ofNat 16 (fld w 31 16)).toNat = fld w 31 16 :=
  (BitVec.toNat_ofNat ..).trans (Nat.mod_eq_of_lt (Nat.mod_lt _ (by decide)))

section
variable {fn ring : Nat} {d : PacketOut} {s : State} (hring : ring < 2) (hel : pktoutEligible s fn (10 + ring) = true)
include hring hel

theorem packetOutTake_lawful (hjudge : pktoutJudge fn d s = (0, 0)) : packetOutTake fn ring (some d) s =
    withNet (if bitOf (wd d.words 0) 9 then pktoutDone fn ring d s 0 0 else pktoutConsumed fn ring s)
      { s.net with tx := s.net.tx ++ [pktoutFrame fn ring d] } := by
  have hnet : (if bitOf (wd d.words 0) 9 then pktoutDone fn ring d s 0 0 else pktoutConsumed fn ring s).net = s.net := by
    split
    · exact (ringWrite_net ..).trans (ringSet_net ..)
    · exact ringSet_net ..
  simp only [packetOutTake, Nat.mod_eq_of_lt hring, hel, hjudge]
  exact congrArg (fun n : NetUnit => withNet _ { n with tx := n.tx ++ [pktoutFrame fn ring d] }) hnet

theorem packetOutTake_refused {st det : Nat} (hst : st ≠ 0) (h2 : st ≠ 2) (hjudge : pktoutJudge fn d s = (st, det)) :
    packetOutTake fn ring (some d) s = pktoutDone fn ring d s st det := by
  have hcompleted : (st != 0) = true := bne_iff_ne.mpr hst
  simp only [packetOutTake, Nat.mod_eq_of_lt hring, hel, hjudge, hcompleted, hst, h2, if_false, Bool.true_or]
  rfl

theorem packetOutTake_notPermitted (hjudge : pktoutJudge fn d s = (2, 0)) :
    packetOutTake fn ring (some d) s = notPermitted fn 3 0 0 (fld (wd d.words 0) 31 16) (pktoutDone fn ring d s 2 0) := by
  simp only [packetOutTake, Nat.mod_eq_of_lt hring, hel, hjudge, fld_tag]
  rfl

theorem packetOutTake_unread : packetOutTake fn ring none s = ringStop fn (10 + ring) 2 0 s := by
  simp only [packetOutTake, Nat.mod_eq_of_lt hring, hel]
  rfl

end

theorem packetOutTake_ineligible {fn ring : Nat} {d : Option PacketOut} {s : State} (hring : ring < 2)
    (hel : pktoutEligible s fn (10 + ring) = false) : packetOutTake fn ring d s = s :=
  if_pos (by simp [Nat.mod_eq_of_lt hring, hel])

theorem exec_packetOutTake {fn : Nat} (hfn : fn < 2) (ring : Nat) (d : Option PacketOut) (s : State) :
    exec (.packetOutTake fn ring d) s = .next (packetOutTake fn ring d s) := by
  show Host.Outcome.next (packetOutTake (fnOf fn) ring d s) = _
  rw [fnOf_of_lt hfn]

/-! ### Host frames -/

theorem exec_frameTransmit {p : Nat} (hp : p < 8) (st : StampNs) (s : State) :
    exec (.frameTransmit p st) s = .next (frameTransmit p st s) := by
  show Host.Outcome.next (frameTransmit (p % 8) st s) = _
  rw [Nat.mod_eq_of_lt hp]

theorem frameTransmit_dark {p : Nat} {s : State} (h : (netGet s p).en = false ∨ (netGet s p).up = false) (st : StampNs) :
    frameTransmit p st s = s :=
  if_pos (by obtain h | h := h <;> simp [h])

/-- The waiting frame of the ring whose turn it is goes out with its FCS; its stamp enters the port's queue. -/
theorem frameTransmit_sends {p r : Nat} {s : State} {f : TxFrame} (hen : (netGet s p).en = true) (hup : (netGet s p).up = true)
    (hring : txNextRing s p = some r) (hframe : (s.net.tx.find? fun t => t.port == p && t.ring == r) = some f) (st : StampNs) :
    frameTransmit p st s =
      let s1 := send (.ethSend p (withFcs f.frame))
        { s with net := { s.net with tx := s.net.tx.erase f }, hif := { s.hif with txLast := tset p r s.hif.txLast } }
      match f.ts with
      | some (base, ident) =>
        let ns := tbNs (tbGet s.tb base) + st.ns
        txqPush p { ident := ident, tbase := base, nsq := w32 (ns % 1000000000 * 4 + st.qns % 4), sec := ns / 1000000000 } s1
      | none => s1 := by
  simp only [frameTransmit, hen, hup, hring, hframe]
  rfl

/-! ### Transmit stamps -/

/-- A read through BAR0 that passes the checks of R583 answers its word. -/
theorem regRead_reads {off : Nat} {a : RegR} {s : State} (rd : RegPath → State → W32 × State) (h : Reads off a s) :
    regRead off a rd s = send (.readData a.init off .bar0 (rd .bar0 s).1) (rd .bar0 s).2 := by
  obtain ⟨hpath, hbe, hpass⟩ := h
  simp only [regRead, readPath, hpath, hbe, hpass, if_true, pathWord]

/-- The word of TXQq_ID with an entry: VALID and the identifier (Table 05-10). -/
theorem txqId_fields (base : Nat) (ident : W16) {w : W32} (hw : w = pack [(31, 31, 1), (29, 28, base), (15, 0, ident.toNat)]) :
    bitOf w 31 = true ∧ fld w 15 0 = ident.toNat := by
  have hident := ident.isLt
  have hvalidField : put 31 31 1 = 2147483648 := put_eq rfl rfl
  have hbaseField : put 29 28 base = base % 4 * 268435456 := put_eq rfl rfl
  have hidentField : put 15 0 ident.toNat = ident.toNat % 65536 * 1 := put_eq rfl rfl
  have hsum : w.toNat = 2147483648 + base % 4 * 268435456 + ident.toNat := by
    rw [hw, toNat_pack]
    iterate 3 rw [List.map_cons, List.sum_cons]
    rw [List.map_nil, List.sum_nil, hvalidField, hbaseField, hidentField]
    omega
  refine ⟨?_, ?_⟩
  · rw [bitOf_eq_decide, decide_eq_true_eq]
    omega
  · simp only [fld, fldN]
    omega

theorem txqRead_empty {q : Nat} {s : State} (h : (txqGet s q).q = []) : txqRead q .bar0 s = (0, s) := by
  simp only [txqRead, h, txqId]

theorem txqRead_head {q : Nat} {s : State} {e : TxStamp} {rest : List TxStamp} (h : (txqGet s q).q = e :: rest) :
    txqRead q .bar0 s = (pack [(31, 31, 1), (29, 28, e.tbase), (15, 0, e.ident.toNat)], txqSet q
      { txqGet s q with q := rest, nsq := e.nsq, secLo := w32 e.sec, secHi := w32 (e.sec / 2 ^ 32 % 65536) } s) := by
  simp only [txqRead, h, txqId]

/-- The two words of a stamp's seconds hold 48 bits. -/
theorem w64of_seconds (n : Nat) : w64of (w32 n) (w32 (n / 2 ^ 32 % 65536)) = n % 2 ^ 48 := by
  simp only [w64of, w32, BitVec.toNat_ofNat]
  omega

theorem exec_txqIdRead {q : Nat} {a : RegR} {s : State} (hq : q < 9) (h : Reads (0x2800 + 0x20 * q) a s) : exec (.txqIdRead q a) s =
    .next (send (.readData a.init (0x2800 + 0x20 * q) .bar0 (txqRead q .bar0 s).1) (txqRead q .bar0 s).2) := by
  show Host.Outcome.next (regRead (0x2800 + 0x20 * (q % 9)) a (txqRead (q % 9)) s) = _
  rw [Nat.mod_eq_of_lt hq, regRead_reads _ h]

/-- Settles O15: moderation, the descriptors by how they are judged, host frames, and the stamps read. -/
theorem packetsOutAndStampsInOrder : Obligations.PacketsOutAndStampsInOrder := by
  refine ⟨?moderation, ?descriptor, fun fn ring s hfn hring hel => ?unread, fun fn ring d s hfn hring hel => ?ineligible,
    fun p st s hp h => ?dark, ?transmit, fun q a s hq h => ?stamps⟩
  case moderation =>
    rintro fn r s x hfn rfl hdev hirq hwait hdue
    show Host.Outcome.next (moderationExpire (fnOf fn) r s) = _
    rw [fnOf_of_lt hfn, moderationExpire_due hdev hirq hwait hdue]
  case descriptor =>
    rintro fn ring d s s1 x w0 w1 done hfn hring hel rfl rfl rfl rfl hdone
    obtain rfl : done = pktoutDone fn ring d s := funext₂ hdone
    simp only [exec_packetOutTake hfn]
    refine ⟨fun f hframe hwho hmin hmax hport => ?_, fun hf hstamp => ?_, fun hwho hport => ?_, fun hwho hport hlen => ?_,
      fun hframe hwho hmin hmax hport => ?_⟩
    · rw [packetOutTake_lawful hring hel (pktoutJudge_lawful hwho hport hmin hmax hframe)]
      refine ⟨_, rfl, ?_, rfl⟩
      show { s.net with tx := s.net.tx ++ [pktoutFrame fn ring d] } = _
      rw [pktoutFrame, hframe]
      rfl
    · subst hf
      rw [packetOutTake_notPermitted hring hel (pktoutJudge_stamp rfl hstamp)]
    · rw [packetOutTake_refused hring hel (by decide) (by decide) (pktoutJudge_port hwho hport)]
    · rw [packetOutTake_refused hring hel (by decide) (by decide) (pktoutJudge_length hwho hport hlen)]
    · rw [packetOutTake_refused hring hel (by decide) (by decide) (pktoutJudge_unread hwho hport hmin hmax hframe)]
  case unread => rw [exec_packetOutTake hfn, packetOutTake_unread hring hel]
  case ineligible =>
    rw [exec_packetOutTake hfn, packetOutTake_ineligible hring hel]
  case dark => rw [exec_frameTransmit hp, frameTransmit_dark h]
  case transmit =>
    rintro p r st s s1 f hp hen hup hring hframe rfl
    rw [exec_frameTransmit hp, frameTransmit_sends hen hup hring hframe]
    refine ⟨fun hts => ?_, fun base ident ns hts hns => ?_⟩
    · rw [hts]
    · rw [hts, hns]
  case stamps =>
    rw [exec_txqIdRead hq h]
    refine ⟨fun hempty => ⟨0, rfl, ?_⟩, fun e rest hhead => ?_⟩
    · rw [txqRead_empty hempty]
    · rw [txqRead_head hhead]
      obtain ⟨hvalid, hident⟩ := txqId_fields e.tbase e.ident rfl
      refine ⟨_, _, rfl, hvalid, hident, ?_⟩
      simp only [txqGet_txqSet, if_true, w64of_seconds, and_self]

end Sys2Proof.Machine
end

section
/-! SUPPORT. The AUX_IO pins and event timers: claims and their release (R405, R709, R710), and the pulses of an event timer (R201, R711). -/

namespace Sys2Proof.Machine

/-! ### A pin and a timer that are held -/

@[simp] theorem pinClaim_takeCmd (c : Cmd) (s : State) (p : Nat) : pinClaim (takeCmd c s) p = pinClaim s p := by simp [pinClaim]
@[simp] theorem timerClaim_takeCmd (c : Cmd) (s : State) (t : Nat) : timerClaim (takeCmd c s) t = timerClaim s t := by simp [timerClaim]

section
variable {s : State} {pin timer : Nat} (work : State → State × Reply)

theorem claimHeld_free (hpin : pinClaim s pin = none) (htimer : timer = 0xFF ∨ timerClaim s timer = none) :
    checked (claimHeld s pin timer) work s = work s := by
  refine checked_pass work s ?_
  obtain rfl | htimer := htimer
  · simp [claimHeld, hpin]
  · simp [claimHeld, hpin, htimer]

theorem claimHeld_pin {k : AuxClaim} (hpin : pinClaim s pin = some k) :
    checked (claimHeld s pin timer) work s = (s, held (if k.use = 3 then 0xFF else 0) (0x100 + pin)) :=
  checked_fail work s (by simp [claimHeld, hpin, claimHolder])

theorem claimHeld_timer {k : AuxClaim} (hpin : pinClaim s pin = none) (hsome : timer ≠ 0xFF) (htimer : timerClaim s timer = some k) :
    checked (claimHeld s pin timer) work s = (s, held (if k.use = 3 then 0xFF else 0) (0x200 + timer)) :=
  checked_fail work s (by simp [claimHeld, hpin, bne_iff_ne.mpr hsome, htimer, claimHolder])

end

/-! ### AUXIO_CLAIM (R709, Table 18-6) -/

/-- The timer that AUXIO_CLAIM names: a lead indication has none. -/
def claimTimer (c : Cmd) : Nat := if (cw c 4).toNat = 2 then 0xFF else fld (cw c 3) 2 0

/-- The claim that AUXIO_CLAIM makes. -/
def claimMade (c : Cmd) (s : State) : AuxClaim :=
  { pin := fld (cw c 2) 2 0, timer := claimTimer c, use := (cw c 4).toNat, args := c.w, level := bitOf (cw c 5) 31
    nextNs := if (cw c 4).toNat = 0 then
        nextEdge ((cw c 6).toNat * 1000000000 + (cw c 7).toNat) (cw c 8).toNat (tbNs (tbGet s.tb (fld (cw c 5) 1 0)))
      else 0 }

/-- With lawful fields a claim turns on who holds its pin and timer. -/
theorem opAuxioClaim_lawful {c : Cmd} {use : Nat} (huse : use = (cw c 4).toNat) (hknown : use ≤ 2) (hlead : use = 2 → cw c 3 = 0xFF)
    (hbase : use = 0 → (cw c 7).toNat < 1000000000 ∧ 1000 ≤ (cw c 8).toNat ∧ (cw c 8).toNat ≤ 1000000000 ∧ 10 ≤ (cw c 9).toNat ∧
      (cw c 9).toNat + 10 ≤ (cw c 8).toNat)
    (htouch : use = 1 → 100 ≤ (cw c 9).toNat ∧ (cw c 9).toNat ≤ 4000000) (s : State) :
    opAuxioClaim c s = checked (claimHeld s (fld (cw c 2) 2 0) (claimTimer c))
      (fun s => (withClaims s (s.lane.claims ++ [claimMade c s]), .ok [])) s := by
  subst huse
  have hcases : (cw c 4).toNat = 0 ∨ (cw c 4).toNat = 1 ∨ (cw c 4).toNat = 2 := by omega
  unfold opAuxioClaim
  simp only [List.cons_append, List.nil_append, checked_cons]
  obtain h | h | h := hcases
  · obtain ⟨hns, hmin, hmax, hwidth, hgap⟩ := hbase h
    simp only [h, Nat.not_lt.mpr hmin, Nat.not_lt.mpr hmax, Nat.not_lt.mpr hwidth, Nat.not_lt.mpr hgap, Nat.not_le.mpr hns]
    simp [claimTimer, claimMade, h]
  · obtain ⟨hmin, hmax⟩ := htouch h
    simp only [h, Nat.not_lt.mpr hmin, Nat.not_lt.mpr hmax]
    simp [claimTimer, claimMade, h]
  · simp only [h, hlead h]
    simp [claimTimer, claimMade, h]

/-! ### AUXIO_RELEASE and NIGHT_PACE_SET (R405, R710) -/

theorem opAuxioRelease_claimed {c : Cmd} {s : State} {pin timer : Nat} (hpin : pin = fld (cw c 2) 2 0)
    (htimer : timer = if cw c 3 = 0xFF then 0xFF else fld (cw c 3) 2 0) (howner : ∃ k, pinClaim s pin = some k ∧ k.use ≠ 3)
    (hmine : ∃ k ∈ s.lane.claims, k.use ≠ 3 ∧ k.pin = pin ∧ k.timer = timer) :
    opAuxioRelease c s = (withClaims s (s.lane.claims.filter fun k => !(k.use != 3 && k.pin == pin && k.timer == timer)), .ok []) := by
  obtain ⟨k, hk, huse⟩ := howner
  have hany : (s.lane.claims.any fun k => k.use != 3 && k.pin == pin && k.timer == timer) = true := by
    simpa [List.any_eq_true, and_assoc] using hmine
  unfold opAuxioRelease
  simp only [← hpin, ← htimer]
  refine checked_pass _ s ?_
  simp [hk, bne_iff_ne.mpr huse, hany]

theorem opNightPaceSet_release {c : Cmd} {s : State} (hout : (cw c 4).toNat < 48) (hpin : (cw c 5).toNat = 0xFF) :
    opNightPaceSet c s =
      (withClaims s (s.lane.claims.filter fun k => !(k.use == 3 && k.output == (cw c 4).toNat)), .ok []) := by
  simp only [opNightPaceSet, hpin, if_true]
  exact checked_pass _ s (by simp [Nat.not_lt.mpr (Nat.le_of_lt_succ hout)])

theorem opNightPaceSet_pin {c : Cmd} {s : State} (hout : (cw c 4).toNat < 48) (hpin : (cw c 5).toNat ≠ 0xFF) (hbad : 7 < (cw c 5).toNat) :
    opNightPaceSet c s = (s, badField 20) := by
  simp only [opNightPaceSet, if_neg hpin]
  exact checked_fail _ s (by simp [Nat.not_lt.mpr (Nat.le_of_lt_succ hout), hbad])

theorem opNightPaceSet_claim {c : Cmd} {s : State} (hout : (cw c 4).toNat < 48) (hpin : (cw c 5).toNat < 8) (htimer : (cw c 6).toNat < 8)
    (hfree : pinClaim s (cw c 5).toNat = none) (hidle : timerClaim s (cw c 6).toNat = none) : opNightPaceSet c s =
      (withClaims s (s.lane.claims ++ [{ pin := (cw c 5).toNat, timer := (cw c 6).toNat, use := 3, output := (cw c 4).toNat }]), .ok []) := by
  have hclaims : (cw c 5).toNat ≠ 0xFF := by omega
  simp only [opNightPaceSet, if_neg hclaims, List.cons_append, List.nil_append, checked_cons, Nat.not_lt.mpr (Nat.le_of_lt_succ hout),
    Nat.not_lt.mpr (Nat.le_of_lt_succ hpin), Nat.not_lt.mpr (Nat.le_of_lt_succ htimer), decide_false, Bool.false_eq_true, if_false]
  exact claimHeld_free _ hfree (.inr hidle)

/-! ### Pulses (R201, R711) -/

theorem exec_auxioPulse {n : Nat} (hn : n < 8) (s : State) : exec (.auxioPulse n) s = .next (auxPulse n s) := by
  show Host.Outcome.next (auxPulse (n % 8) s) = _
  rw [Nat.mod_eq_of_lt hn]

theorem auxPulse_tb {n : Nat} {s : State} {k : AuxClaim} (hk : timerClaim s n = some k) (hon : bitOf s.pwr.domains 2 = true)
    (hiso : bitOf s.pwr.iso 2 = false) (huse : k.use = 0) : auxPulse n s = tbPulse k s := by
  simp [auxPulse, hk, hon, hiso, huse]

theorem auxPulse_still {n : Nat} {s : State} (h : timerClaim s n = none ∨ bitOf s.pwr.domains 2 = false ∨ bitOf s.pwr.iso 2 = true) :
    auxPulse n s = s := by
  unfold auxPulse
  obtain h | h | h := h
  · rw [h]
  · split <;> simp [h]
  · split <;> simp [h]

theorem tbPulse_due {k : AuxClaim} {b : Nat} {s : State} (hb : b = fld (claimW k 5) 1 0) (hset : (tbGet s.tb b).set = true)
    (hdue : k.nextNs ≤ tbNs (tbGet s.tb b)) : tbPulse k s = send (.pulse k.pin b k.nextNs (claimW k 9).toNat) (claimSet
      { k with nextNs := nextEdge (k.nextNs + (claimW k 8).toNat) (claimW k 8).toNat (tbNs (tbGet s.tb b) + 1) } s) := by
  subst hb
  exact if_neg (by simp [hset, hdue])

theorem tbPulse_early {k : AuxClaim} {b : Nat} {s : State} (hb : b = fld (claimW k 5) 1 0)
    (h : (tbGet s.tb b).set = false ∨ tbNs (tbGet s.tb b) < k.nextNs) : tbPulse k s = s := by
  subst hb
  exact if_pos (by simpa using h)

/-- The edge of a train next at or after a moment: on the train, not early, and less than a period late (Table 18-6). -/
theorem nextEdge_spec {first period now : Nat} (hperiod : 0 < period) : now ≤ nextEdge first period now ∧
    first ≤ nextEdge first period now ∧ (nextEdge first period now - first) % period = 0 ∧
    (first < now → nextEdge first period now < now + period) := by
  have hsome : period ≠ 0 := hperiod.ne'
  by_cases hearly : now ≤ first
  · have hedge : nextEdge first period now = first := if_pos (by simp [hearly])
    rw [hedge]
    refine ⟨hearly, le_rfl, by simp, fun h => absurd h (Nat.not_lt.mpr hearly)⟩
  · have hedge : nextEdge first period now = first + ceilDiv (now - first) period * period := if_neg (by simp [hearly, hsome])
    have hreach : now - first ≤ ceilDiv (now - first) period * period := by
      rw [Nat.mul_comm]
      exact (ceilDiv_le_iff_le_mul hperiod).mp le_rfl
    have hclose : ceilDiv (now - first) period * period ≤ now - first + period - 1 := Nat.div_mul_le_self ..
    rw [hedge]
    refine ⟨by omega, Nat.le_add_right .., by simp, fun _ => by omega⟩

/-- Settles O37: the claim, its release, Night pacing, the pulse of a time-base claim, and the train of edges. -/
theorem pinsAndTimersFollowTheirClaims : Obligations.PinsAndTimersFollowTheirClaims := by
  refine ⟨?claim, ?release, ?night, ?pulse, fun first period now hperiod => nextEdge_spec hperiod, fun n s hn h => ?still⟩
  case claim =>
    rintro c s u use pin timer rfl ht rfl rfl rfl hknown hlead hbase htouch
    have hop := opAuxioClaim_lawful rfl hknown hlead hbase htouch (takeCmd c s)
    refine ⟨fun hpin htimer => ?_, fun k hk => ?_, fun k hpin hsome hk => ?_⟩
    · rw [claimHeld_free _ (by simpa using hpin) (by simpa [claimTimer] using htimer)] at hop
      refine ⟨claimMade c (takeCmd c s), (congrArg _ (hostCommand_answers ht hop)).trans ?_, rfl, rfl, rfl, rfl, fun huse => ?_⟩
      · rw [takeCmd_lane]
      · simp only [claimMade, if_pos huse, takeCmd_tb]
    · exact congrArg _ (hostCommand_answers ht (hop.trans (claimHeld_pin _ (by simpa using hk))))
    · exact congrArg _ (hostCommand_answers ht (hop.trans (claimHeld_timer _ (by simpa using hpin) hsome (by simpa [claimTimer] using hk))))
  case release =>
    rintro c s u pin timer rfl ht hpin htimer howner hmine
    have hop := opAuxioRelease_claimed (s := takeCmd c s) hpin htimer (by simpa using howner) (by simpa using hmine)
    rw [takeCmd_lane] at hop
    exact congrArg _ (hostCommand_answers ht hop)
  case night =>
    rintro c s u o pin timer rfl ht rfl rfl rfl hout
    refine ⟨fun hpin => ?_, fun hpin htimer hfree hidle => ?_, fun hpin hbad => ?_⟩
    · have hop := opNightPaceSet_release (s := takeCmd c s) hout hpin
      rw [takeCmd_lane] at hop
      exact congrArg _ (hostCommand_answers ht hop)
    · have hop := opNightPaceSet_claim (s := takeCmd c s) hout hpin htimer (by simpa using hfree) (by simpa using hidle)
      rw [takeCmd_lane] at hop
      exact congrArg _ (hostCommand_answers ht hop)
    · exact congrArg _ (hostCommand_answers ht (opNightPaceSet_pin hout hpin hbad))
  case pulse =>
    intro n s k b hn hk hb hon hiso huse
    rw [exec_auxioPulse hn, auxPulse_tb hk hon hiso huse]
    exact ⟨fun hset hdue => by rw [tbPulse_due hb hset hdue], fun h => by rw [tbPulse_early hb h]⟩
  case still => rw [exec_auxioPulse hn, auxPulse_still h]

end Sys2Proof.Machine
end

section
/-! SUPPORT. The commands of the stream table (R280 to R283, R541, R542), anchors (R204, R206), and the settings of watch windows (R737). -/

namespace Sys2Proof.Machine

/-! ### Entries -/

@[simp] theorem strGet_setStream (k j st cause : Nat) (s : State) :
    strGet (setStream k st cause s) j = if j = k then { strGet s k with st := st } else strGet s j := by
  rw [setStream, strGet_raise, strGet_strSet]

@[simp] theorem strGet_strUpd_other {k j : Nat} (h : j ≠ k) (f : StreamE → StreamE) (s : State) :
    strGet (strUpd k f s) j = strGet s j := by
  rw [strUpd, strGet_strSet, if_neg h]

theorem setStream_units (k st cause : Nat) (s : State) : (setStream k st cause s).mem = s.mem ∧ (setStream k st cause s).net = s.net ∧
    (setStream k st cause s).comp = s.comp ∧ (setStream k st cause s).scan = s.scan := by
  simp only [setStream, raise_mem, raise_net, raise_comp, raise_scan, strSet_mem, strSet_net, strSet_comp, strSet_scan, and_self]

theorem not_pf1 {c : Cmd} (h : c.port = .pf0) : (c.port == .pf1) = false := by
  rw [h]
  rfl

theorem strGet_settleMerge_other {k j : Nat} (h : j ≠ k) (s : State) : strGet (settleMerge k s) j = strGet s j :=
  strGet_strUpd_other h _ s

theorem strGet_settleMerge (k : Nat) (s : State) :
    ∃ m a b, strGet (settleMerge k s) k = { strGet s k with merged := m, pathA := a, pathB := b } := by
  simp only [settleMerge, strGet_strUpd_same]
  split
  · exact ⟨true, _, _, rfl⟩
  · exact ⟨_, _, _, rfl⟩

theorem strGet_watchRestart (k j : Nat) (s : State) : strGet (watchRestart k s) j = strGet s j := strGet_of_ents rfl j

/-! ### STREAM_OPEN -/

/-- A command that changes nothing waits for no supply (R610). -/
theorem supplied_still {op : Nat} {f : Cmd → State → State × Reply} {c : Cmd} {s : State} {r : Reply} (hdomain : op ≠ 0x0006)
    (houtput : op ≠ 0x0501) (h : f c s = (s, r)) : supplied op f c s = (s, r) := by
  cases r with
  | ok ws => exact supplied_unchanged hdomain h
  | no status detail => exact supplied_refused h
  | later target arg =>
    have hneeds : supplyNeeds op f c s = [] := by simp only [supplyNeeds, supplyState, h, if_neg houtput]
    rw [supplied_met (by rw [hneeds]; rfl), h]

/-- The block with a record entered in the table, before the entry takes its state (R280, R297). -/
def streamEntered (c : Cmd) (r : List Byte) (home : List Nat) (s : State) : State :=
  let s1 := watchRestart (strNo c) (settleMerge (strNo c) (strSet (strNo c) (freshStream c r 0 home s.str.nextOrder) s))
  withStr s1 { s1.str with nextOrder := s1.str.nextOrder + 1 }

/-- The block with an entry opened in a state. -/
def streamOpened (c : Cmd) (r : List Byte) (home : List Nat) (st cause : Nat) (s : State) : State :=
  setStream (strNo c) st cause (streamEntered c r home s)

section
variable (c : Cmd) (r : List Byte) (home : List Nat) (st cause : Nat) (s : State)

theorem strGet_streamEntered (j : Nat) : strGet (streamEntered c r home s) j =
    strGet (settleMerge (strNo c) (strSet (strNo c) (freshStream c r 0 home s.str.nextOrder) s)) j := strGet_of_ents rfl j

theorem strGet_streamOpened : ∃ m a b, strGet (streamOpened c r home st cause s) (strNo c) =
    { freshStream c r st home s.str.nextOrder with merged := m, pathA := a, pathB := b } := by
  obtain ⟨m, a, b, h⟩ := strGet_settleMerge (strNo c) (strSet (strNo c) (freshStream c r 0 home s.str.nextOrder) s)
  refine ⟨m, a, b, ?_⟩
  rw [streamOpened, strGet_setStream, if_pos rfl, strGet_streamEntered, h, strGet_strSet, if_pos rfl]
  rfl

theorem strGet_streamOpened_other {j : Nat} (h : j ≠ strNo c) : strGet (streamOpened c r home st cause s) j = strGet s j := by
  rw [streamOpened, strGet_setStream, if_neg h, strGet_streamEntered, strGet_settleMerge_other h, strGet_strSet, if_neg h]

theorem streamOpened_units : (streamOpened c r home st cause s).mem = s.mem ∧ (streamOpened c r home st cause s).net = s.net ∧
    (streamOpened c r home st cause s).comp = s.comp ∧ (streamOpened c r home st cause s).scan = s.scan :=
  setStream_units (strNo c) st cause (streamEntered c r home s)

theorem streamOpened_nextOrder : (streamOpened c r home st cause s).str.nextOrder = s.str.nextOrder + 1 := by
  rw [streamOpened, setStream, raise_str]
  rfl

end

section
variable {c : Cmd} {s : State} {r : List Byte} (hr : r = normRecord (crec c)) (hport : c.port = .pf0)
include hr hport

theorem opStreamOpen_record {n : Nat} (hbad : recordBad r = some n) : opStreamOpen c s = (s, badRecord n) := by
  subst hr
  unfold opStreamOpen
  exact checked_fail _ s (by simp [not_pf1 hport, hbad])

theorem opStreamOpen_taken (hgood : recordBad r = none) (hst : (strGet s (strNo c)).st ≠ 0) :
    opStreamOpen c s = (s, held (openerOf (strGet s (strNo c))) (strNo c)) := by
  subst hr
  unfold opStreamOpen
  exact checked_fail _ s (by simp [not_pf1 hport, hgood, bne_iff_ne.mpr hst])

section
variable (hgood : recordBad r = none) (hst : (strGet s (strNo c)).st = 0)
include hgood hst

/-- A record of a format other than baseband is judged by admission (R296). -/
theorem opStreamOpen_admitted (hfmt : recFld r 0 31 28 ≠ 6) : opStreamOpen c s = match admitStream s s.str.ents r true with
    | .no x => (s, x)
    | .ok home => (streamOpened c r home 1 1 s, .ok []) := by
  subst hr
  have hno : (recFld (normRecord (crec c)) 0 31 28 == 6) = false := beq_eq_false_iff_ne.mpr hfmt
  unfold opStreamOpen
  simp only [hno]
  exact checked_pass _ s (by simp [not_pf1 hport, hgood, hst])

/-- A baseband record whose input is not trained waits for it (R281). -/
theorem opStreamOpen_waits (hfmt : recFld r 0 31 28 = 6) (hlink : (bbGet s (recBbInput r)).trained = false)
    (huser : inputUser s (recBbInput r) = none) : opStreamOpen c s = (streamOpened c r [] 4 6 s, .ok []) := by
  subst hr
  unfold opStreamOpen
  simp only [hfmt, hlink]
  exact checked_pass _ s (by simp [not_pf1 hport, hgood, hst, huser])

end

end

/-! ### STREAM_MODIFY, STREAM_CLOSE and STREAM_ANCHOR on an entry that is not open -/

section
variable {c : Cmd} {s : State} (h : (strGet s (strNo c)).st = 0 ∨ (strGet s (strNo c)).st = 5)
include h

theorem notOpen : ((strGet s (strNo c)).st == 0 || (strGet s (strNo c)).st == 5) = true := by simpa using h

theorem opStreamModify_notOpen : opStreamModify c s = (s, badField 16) := by
  unfold opStreamModify
  exact checked_fail _ s (by rw [notOpen h]; rfl)

theorem opStreamClose_notOpen : opStreamClose c s = (s, badField 16) := by
  unfold opStreamClose
  exact checked_fail _ s (by rw [notOpen h]; rfl)

theorem opStreamAnchor_notOpen : opStreamAnchor c s = (s, badField 16) := by
  unfold opStreamAnchor
  exact checked_fail _ s (by rw [notOpen h]; rfl)


end

/-! ### The same on an open entry, by PF0 -/

theorem readmit_none {s : State} (h : s.str.shed = []) : readmit s = s := by rw [readmit, h, List.foldl_nil]

section
variable {c : Cmd} {s : State} (hport : c.port = .pf0) (h0 : (strGet s (strNo c)).st ≠ 0) (h5 : (strGet s (strNo c)).st ≠ 5)
include hport h0 h5

section
variable {e : StreamE} {r cur : List Byte} (he : e = strGet s (strNo c)) (hr : r = normRecord (crec c)) (hcur : cur = e.next.getD e.rcd)
  (hgood : recordBad r = none)
include he hr hcur hgood

/-- A record with the residence of the one in force waits for the next boundary with the same engines (R542). -/
theorem opStreamModify_stores (hsame : reopenDiffers cur r = none) (hres : recFld cur 0 25 15 = recFld r 0 25 15)
    (hshed : s.str.shed = []) :
    opStreamModify c s = (strSet (strNo c) { e with next := some r, nextHome := some (accepted e).home } s, .ok []) := by
  subst he hr hcur
  unfold opStreamModify
  simp only [hres, beq_self_eq_true, Bool.true_or, if_true]
  rw [checked_pass _ s (by simp [not_pf1 hport, beq_eq_false_iff_ne.mpr h0, beq_eq_false_iff_ne.mpr h5, modifyBad, hgood, hsame])]
  exact congrArg (·, Reply.ok []) (readmit_none hshed)

theorem opStreamModify_reopen {n : Nat} (hdiff : reopenDiffers cur r = some n) : opStreamModify c s = (s, badRecord n) := by
  subst he hr hcur
  unfold opStreamModify
  exact checked_fail _ s (by simp [not_pf1 hport, beq_eq_false_iff_ne.mpr h0, beq_eq_false_iff_ne.mpr h5, modifyBad, hgood, hdiff])

end

theorem opStreamAnchor_stores (hns : (cw c 8).toNat < 1000000000) : opStreamAnchor c s = (strSet (strNo c) { strGet s (strNo c) with
    anchorNext := some { rtp := cw c 5, ns := w64of (cw c 6) (cw c 7) * 1000000000 + (cw c 8).toNat, at_ := t2Ns s } } s, .ok []) := by
  unfold opStreamAnchor
  exact checked_pass _ s (by simp [not_pf1 hport, beq_eq_false_iff_ne.mpr h0, beq_eq_false_iff_ne.mpr h5, Nat.not_le.mpr hns])

end

/-! ### A stream that closes -/

theorem strGet_withShed (l : List Nat) (s : State) (k : Nat) : strGet (withStr s { s.str with shed := l }) k = strGet s k := rfl

/-- Trying another shed stream, or any WAITING one, leaves an entry that is CLOSING as it stands. -/
theorem strGet_tryShed_other {k j : Nat} (h : k ≠ j) (s : State) : strGet (tryShed s j) k = strGet s k := by
  unfold tryShed
  dsimp only
  split
  · rfl
  · split
    · rw [strGet_withShed, strGet_setStream, if_neg h, strGet_strUpd_other h]
    · rfl

theorem strGet_tryWaiting_closing {k : Nat} {s : State} (h : (strGet s k).st = 5) (j : Nat) : strGet (tryWaiting s j) k = strGet s k := by
  unfold tryWaiting
  dsimp only
  split
  · rfl
  · next hwaits =>
    have hother : k ≠ j := by
      rintro rfl
      simp [h] at hwaits
    split
    · rw [strGet_setStream, if_neg hother, strGet_strUpd_other hother]
    · split
      · rfl
      · rw [strGet_setStream, if_neg hother, strGet_strUpd_other hother]

theorem strGet_liveChanged_closing {k : Nat} {s : State} (h : (strGet s k).st = 5) (hshed : k ∉ s.str.shed) :
    strGet (liveChanged s) k = strGet s k := by
  have hreadmit : strGet (readmit s) k = strGet s k := List.foldlRecOn (motive := fun t => strGet t k = strGet s k) _ _ rfl
    fun t ht j hj => (strGet_tryShed_other (ne_of_mem_of_not_mem hj hshed).symm t).trans ht
  exact List.foldlRecOn (motive := fun t => strGet t k = strGet s k) _ _ hreadmit
    fun t ht j _ => (strGet_tryWaiting_closing (by rw [ht, h]) j).trans ht

/-- The block with an entry CLOSING, and what it had under reception dropped (R280). -/
def streamClosing (k : Nat) (s : State) : State :=
  let s1 := setStream k 5 1 (strUpd k (fun x => { x with home := [], nextHome := none, opens := [], aus := [], closedAt := t2Ns s }) s)
  withStr s1 { s1.str with shed := s1.str.shed.filter fun j => j != k }

theorem strGet_streamClosing (k : Nat) (s : State) : strGet (streamClosing k s) k =
    { strGet s k with st := 5, home := [], nextHome := none, opens := [], aus := [], closedAt := t2Ns s } := by
  rw [streamClosing, strGet_withShed, strGet_setStream, if_pos rfl, strGet_strUpd_same]

theorem opStreamClose_closes {c : Cmd} {s : State} (hport : c.port = .pf0) (h0 : (strGet s (strNo c)).st ≠ 0)
    (h5 : (strGet s (strNo c)).st ≠ 5) : opStreamClose c s = (liveChanged (streamClosing (strNo c) s), .ok []) := by
  unfold opStreamClose
  exact checked_pass _ s (by simp [not_pf1 hport, beq_eq_false_iff_ne.mpr h0, beq_eq_false_iff_ne.mpr h5])

theorem strGet_closed (k : Nat) (s : State) : strGet (liveChanged (streamClosing k s)) k =
    { strGet s k with st := 5, home := [], nextHome := none, opens := [], aus := [], closedAt := t2Ns s } := by
  rw [strGet_liveChanged_closing (by rw [strGet_streamClosing]) (by simp [streamClosing]), strGet_streamClosing]

theorem closed_units (k : Nat) (s : State) : (liveChanged (streamClosing k s)).mem = s.mem ∧
    (liveChanged (streamClosing k s)).net = s.net ∧ (liveChanged (streamClosing k s)).comp = s.comp := by
  have kept := liveChanged_frame _ (Agree.refl { str := true } (streamClosing k s)) rfl
  exact ⟨(kept.mem.resolve_left Bool.false_ne_true).trans (raise_mem ..), (kept.net.resolve_left Bool.false_ne_true).trans (raise_net ..),
    (kept.comp.resolve_left Bool.false_ne_true).trans (raise_comp ..)⟩

/-- A CLOSING entry that may be freed (R280). -/
theorem closingRelease_frees {k : Nat} {s : State} (hst : (strGet s k).st = 5)
    (hfree : readFrames s k = [] ∨ (strGet s k).closedAt + 2 * slowestPeriod s ≤ t2Ns s) : closingRelease k s =
      withStr (setStream k 0 1 s) { (setStream k 0 1 s).str with ents := tdel k (setStream k 0 1 s).str.ents } :=
  if_pos (by simpa [hst] using hfree)

theorem closingRelease_keeps {k : Nat} {s : State}
    (h : (strGet s k).st ≠ 5 ∨ (readFrames s k ≠ [] ∧ t2Ns s < (strGet s k).closedAt + 2 * slowestPeriod s)) : closingRelease k s = s := by
  refine if_neg ?_
  simp only [Bool.and_eq_true, Bool.or_eq_true, beq_iff_eq, decide_eq_true_eq, List.isEmpty_iff, not_and, not_or, Nat.not_le]
  intro hst
  exact h.resolve_left (· hst)

theorem strGet_tdel (k j : Nat) (s : State) :
    strGet (withStr s { s.str with ents := tdel k s.str.ents }) j = if j = k then {} else strGet s j := by
  show (tfind j (tdel k s.str.ents)).getD {} = _
  rw [tfind_tdel]
  split <;> rfl

/-! ### Anchors and watch windows -/

theorem anchorExpiry_eq {k : Nat} {a : Anchor} {s : State} (ha : (strGet s k).anchor = some a) : anchorExpiry k s =
    if a.at_ + recAnchorLife (strGet s k).rcd * 1000000000 < t2Ns s then strSet k { strGet s k with anchor := none } s else s := by
  simp only [anchorExpiry, anchorOld, ha, Option.isSome_some, Bool.true_and, decide_eq_true_eq]
  rfl

theorem anchorExpiry_none {k : Nat} {s : State} (ha : (strGet s k).anchor = none) : anchorExpiry k s = s :=
  if_neg (by simp [ha])

section
variable {c : Cmd} {s : State} {n : Nat} {old : Watch} {new : WatchCfg} (hn : n = fld (cw c 2) 8 0) (hold : old = tget {} s.str.watches n)
  (hnew : new = watchNew c) (hw : 1 ≤ new.w) (hw' : new.w ≤ 256) (hh : 1 ≤ new.h) (hh' : new.h ≤ 64) (hp : 100 ≤ new.period)
  (hp' : new.period ≤ 60000) (hthr : new.cntThr ≤ 16384)
include hn hold hnew hw hw' hh hh' hp hp' hthr

/-- A window in range is set unless a ledger of its present source names it (R737). -/
theorem opWatchSet_eq : opWatchSet c s =
    if (watchLast old).stream ≠ new.stream ∧ windowNamed s (watchLast old).stream n = true then (s, held 0xFF n)
    else (withStr s { s.str with watches := tset n (watchPut s old new) s.str.watches }, .ok []) := by
  subst hn hold hnew
  simp only [opWatchSet, checked_cons, checked_nil, outside_eq_false hw hw', outside_eq_false hh hh', outside_eq_false hp hp',
    Nat.not_lt.mpr hthr, decide_false, Bool.or_self, Bool.false_eq_true, if_false, Bool.and_eq_true, bne_iff_ne]

end

@[simp] theorem windowNamed_takeCmd (c : Cmd) (s : State) (k n : Nat) : windowNamed (takeCmd c s) k n = windowNamed s k n :=
  takeCmd_same (windowNamed · k n) (fun _ _ => rfl) c s

@[simp] theorem inputUser_takeCmd (c : Cmd) (s : State) (n : Nat) : inputUser (takeCmd c s) n = inputUser s n :=
  takeCmd_same (inputUser · n) (fun _ _ => rfl) c s

/-! ### STREAM_STATUS (Table 13-11) -/

/-- The words of STREAM_STATUS where the stream has a frame. -/
theorem opStreamStatus_answers (c : Cmd) (s : State) : ∃ ws, opStreamStatus c s = (s, .ok ws) ∧ ws.length = 5 ∧
    (∀ f, (strGet s (strNo c)).frames.getLast? = some f → wd ws 1 = w32 f.num ∧ wd ws 2 = w32 (f.origin / 1000000000) ∧
      wd ws 3 = w32 (f.origin % 1000000000) ∧ wd ws 4 = w32 f.tainted) := by
  refine ⟨_, rfl, rfl, fun f hf => ?_⟩
  rw [hf]
  exact ⟨rfl, rfl, rfl, rfl⟩

/-! ### The obligation -/

section
variable {c : Cmd} {s t : State} {r : Reply}

theorem exec_streamOpen (h : Taken 0x0300 c s) (hf : supplied 0x0300 opStreamOpen c (takeCmd c s) = (t, r)) :
    exec (.streamOpen c) s = .next (answer 0x0300 c s r t) := congrArg _ (hostCommand_answers h hf)

theorem exec_streamModify (h : Taken 0x0301 c s) (hf : supplied 0x0301 opStreamModify c (takeCmd c s) = (t, r)) :
    exec (.streamModify c) s = .next (answer 0x0301 c s r t) := congrArg _ (hostCommand_answers h hf)

end

/-- Settles O43, command by command, with the two timers of an entry and the settling of a watch window. -/
theorem streamCommandsFollowTheirRules : Obligations.StreamCommandsFollowTheirRules := by
  refine ⟨?opening, ?modify, ?closing, ?notOpen, fun k s => ?timers, ?status, ?watch, ?settle⟩
  case opening =>
    rintro c s u k r rfl ht rfl hr hport
    have hstr := strGet_takeCmd c s (strNo c)
    refine ⟨fun hgood hst hfmt hmet home hadmit => ?_, fun hgood hst hfmt hlink huser hmet => ?_, fun n hbad => ?_, fun hgood hst => ?_,
      fun x hgood hst hfmt hadmit => ?_⟩
    · have hop := opStreamOpen_admitted hr hport hgood (hstr ▸ hst) hfmt
      rw [hadmit] at hop
      obtain ⟨m, a, b, hentry⟩ := strGet_streamOpened c r home 1 1 (takeCmd c s)
      obtain ⟨hmem, hnet, hcomp, hscan⟩ := streamOpened_units c r home 1 1 (takeCmd c s)
      refine ⟨_, exec_streamOpen ht ((supplied_met hmet).trans hop), ?_⟩
      simp only [takeCmd_mem, takeCmd_net, takeCmd_comp, takeCmd_scan] at hmem hnet hcomp hscan
      rw [hentry, streamOpened_nextOrder, hmem, hnet, hcomp, hscan]
      refine ⟨rfl, rfl, rfl, hport, ?_, ?_, fun j hj => ?_, rfl, rfl, rfl, rfl⟩
      · show (takeCmd c s).str.nextOrder = _
        rw [takeCmd_str]
      · rw [takeCmd_str]
      · rw [strGet_streamOpened_other _ _ _ _ _ _ hj, strGet_takeCmd]
    · have hop := opStreamOpen_waits (s := takeCmd c s) hr hport hgood (hstr ▸ hst) hfmt (by simpa using hlink) (by simpa using huser)
      obtain ⟨m, a, b, hentry⟩ := strGet_streamOpened c r [] 4 6 (takeCmd c s)
      refine ⟨_, exec_streamOpen ht ((supplied_met hmet).trans hop), ?_⟩
      rw [hentry]
      refine ⟨rfl, rfl, fun j hj => ?_⟩
      rw [strGet_streamOpened_other _ _ _ _ _ _ hj, strGet_takeCmd]
    · exact exec_streamOpen ht (supplied_refused (opStreamOpen_record hr hport hbad))
    · rw [← hstr] at hst ⊢
      exact exec_streamOpen ht (supplied_refused (opStreamOpen_taken hr hport hgood hst))
    · have hop := opStreamOpen_admitted hr hport hgood (hstr ▸ hst) hfmt
      rw [hadmit] at hop
      exact exec_streamOpen ht (supplied_still (by decide) (by decide) hop)
  case modify =>
    rintro c s u k e r cur rfl ht rfl he hr hcur hport h0 h5
    have he : e = strGet (takeCmd c s) (strNo c) := he.trans (strGet_takeCmd ..).symm
    rw [he] at h0 h5
    refine ⟨fun hgood hsame hres hshed hmet => ?_, fun n hgood hdiff => ?_⟩
    · exact exec_streamModify ht ((supplied_met hmet).trans
        (opStreamModify_stores hport h0 h5 he hr hcur hgood hsame hres (by rwa [takeCmd_str])))
    · exact exec_streamModify ht (supplied_refused (opStreamModify_reopen hport h0 h5 he hr hcur hgood hdiff))
  case closing =>
    rintro c s u k rfl rfl hport h0 h5
    rw [← strGet_takeCmd c s] at h0 h5 ⊢
    refine ⟨fun ht => ⟨_, congrArg _ (hostCommand_answers ht (opStreamClose_closes hport h0 h5)), ?_⟩, fun ht hns => ?_⟩
    · obtain ⟨hmem, hnet, hcomp⟩ := closed_units (strNo c) (takeCmd c s)
      rw [strGet_closed, hmem, hnet, hcomp, t2Ns_takeCmd, takeCmd_mem, takeCmd_net, takeCmd_comp]
      exact ⟨rfl, rfl, rfl, rfl⟩
    · have hop := opStreamAnchor_stores hport h0 h5 hns
      rw [t2Ns_takeCmd] at hop
      exact congrArg _ (hostCommand_answers ht hop)
  case notOpen =>
    rintro c s u rfl h
    rw [← strGet_takeCmd c s] at h
    exact ⟨fun ht => congrArg _ (hostCommand_answers ht (opStreamClose_notOpen h)),
      fun ht => congrArg _ (hostCommand_answers ht (opStreamAnchor_notOpen h)),
      fun ht => exec_streamModify ht (supplied_refused (opStreamModify_notOpen h))⟩
  case timers =>
    refine ⟨fun hst hfree => ⟨closingRelease k s, rfl, ?_⟩, fun h => congrArg Host.Outcome.next (closingRelease_keeps h),
      fun a ha hold => congrArg Host.Outcome.next ((anchorExpiry_eq ha).trans (if_pos hold)),
      fun a ha hyoung => congrArg Host.Outcome.next ((anchorExpiry_eq ha).trans (if_neg (Nat.not_lt.mpr hyoung))),
      fun ha => congrArg Host.Outcome.next (anchorExpiry_none ha)⟩
    obtain ⟨hmem, -⟩ := setStream_units k 0 1 s
    rw [closingRelease_frees hst hfree]
    refine ⟨?_, fun j hj => ?_, hmem⟩
    · rw [strGet_tdel, if_pos rfl]
    · rw [strGet_tdel, if_neg hj, strGet_setStream, if_neg hj]
  case status =>
    rintro c s u rfl ht
    obtain ⟨ws, hop, hlen, hframe⟩ := opStreamStatus_answers c (takeCmd c s)
    rw [strGet_takeCmd] at hframe
    exact ⟨ws, congrArg _ (hostCommand_answers ht hop), hlen, hframe⟩
  case watch =>
    rintro c s u n old new rfl ht hn hold hnew hw hw' hh hh' hp hp' hthr
    have hop := opWatchSet_eq (s := takeCmd c s) hn (hold.trans (by rw [takeCmd_str])) hnew hw hw' hh hh' hp hp' hthr
    refine ⟨fun hfree => ?_, fun hother hnamed => congrArg _ (hostCommand_answers ht (hop.trans (if_pos ⟨hother, hnamed⟩)))⟩
    have hput := hop.trans (if_neg fun ⟨hother, hnamed⟩ => hfree.elim hother (by simp [hnamed]))
    simp only [watchPut, strGet_takeCmd] at hput
    rw [← takeCmd_str c s]
    exact congrArg _ (hostCommand_answers ht hput)
  case settle =>
    intro k num first restart w c hnext
    refine ⟨fun hk hnum hrestart => ?_, fun hk hnum hrestart => ?_, fun h => ?_⟩
    · simp [watchSettle, hnext, hk, hnum, hrestart]
    · simp [watchSettle, hnext, hk, hnum, hrestart]
    · simp only [watchSettle, hnext]
      exact if_neg (by simpa [or_iff_not_imp_left] using h)

end Sys2Proof.Machine
end

section
/-! SUPPORT. The frames of an output: the generator's next frame (R211), the fetch of a row (R383), the read-back (R389, R390), keep-alive and
audit entries (R399, R431, R434): what each leaves of the outputs and of the memory. -/

namespace Sys2Proof.Machine

/-! ### The generator reaches a frame's display time -/

/-- The block past D(n) of a generator's next frame. -/
def frameStarted (g : Nat) (s : State) : State :=
  let n := (flGet s g).next
  let outs := (s.scan.outs.filter fun y => y.2.en && orGen (outRec s y.1) == g).map Prod.fst
  let s1 := outs.foldl (frameLanes n) (flSet g { flGet s g with next := n + 1 } s)
  let s2 := (s1.comp.canvases.map Prod.fst).foldl (frameSettle g n) s1
  nightPulses g n (proofStep g (commitsShown g n s2))

theorem Agree.flGet {m : Units} {s t : State} (h : Agree m s t) (hm : m.tb = false) (g : Nat) : flGet t g = flGet s g := by
  unfold Sys2Proof.Machine.flGet
  rw [h.tb.resolve_left (by simp [hm])]

theorem frameStart_early {g : Nat} {s : State}
    (h : (flGet s g).en = false ∨ (flGet s g).num = 0 ∨ t0Ns s < displayTime (flGet s g) (flGet s g).next) : frameStart g s = s :=
  if_pos (by simpa [or_assoc] using h)

theorem frameStart_due {g : Nat} {s : State} (hen : (flGet s g).en = true) (hnum : (flGet s g).num ≠ 0)
    (hdue : displayTime (flGet s g) (flGet s g).next ≤ t0Ns s) : frameStart g s = frameStarted g s :=
  if_neg (by simpa [hen, hdue] using hnum)

/-- Past its display time a frame concerns outputs, canvases, commits and the proof of a knit-up. -/
theorem frameStarted_keeps (g : Nat) (s : State) : Agree { pair := true, scan := true, str := true, comp := true }
    (flSet g { flGet s g with next := (flGet s g).next + 1 } s) (frameStarted g s) :=
  nightPulses_frame _ _ _ (proofStep_frame _ _ (commitsShown_frame _ _ _ (agree_foldl (fun _ _ hu => frameSettle_frame _ _ _ _ hu rfl rfl)
    (agree_foldl (fun _ _ hu => frameLanes_frame _ _ _ hu rfl) (Agree.refl _ _))) rfl) rfl)

theorem exec_frameDisplayStart {g : Nat} (hg : g < 8) (s : State) : exec (.frameDisplayStart g) s = .next (frameStart g s) := by
  show Host.Outcome.next (frameStart (g % 8) s) = _
  rw [Nat.mod_eq_of_lt hg]

/-! ### The outputs, as a change elsewhere leaves them -/

section
variable {o : Nat} {x : Output} {s t u : State}

/-- A change outside the outputs, the memory and the compositor keeps what an output became. -/
theorem OutputBecomes.agree {m : Units} (h : OutputBecomes o x s t) (ha : Agree m t u) (hscan : m.scan = false) (hmem : m.mem = false)
    (hcomp : m.comp = false) : OutputBecomes o x s u :=
  ⟨(ha.outGet hscan o).trans h.output, fun p hp => (ha.outGet hscan p).trans (h.others p hp),
    (ha.mem.resolve_left (by simp [hmem])).trans h.mem, (ha.comp.resolve_left (by simp [hcomp])).trans h.comp⟩

theorem OutputBecomes.recalWaiting (h : OutputBecomes o x s t) (p : Nat) : OutputBecomes o x s (recalWaiting p t) :=
  h.agree (recalWaiting_frame p t (.refl { lane := true } t) rfl) rfl rfl rfl

theorem OutputBecomes.gapCheck (h : OutputBecomes o x s t) (p : Nat) : OutputBecomes o x s (gapCheck p t) :=
  h.agree (gapCheck_frame p t (.refl { pair := true } t) rfl) rfl rfl rfl

/-- A fault holds its output; its rows, and that it is bad, stay (R390 to R393). -/
theorem OutputBecomes.outputFault (h : OutputBecomes o x s t) (cause sy sx : Nat) (crc got : W32) :
    ∃ y, OutputBecomes o y s (outputFault o cause sy sx crc got t) ∧ y.hold = true ∧ y.bad = x.bad ∧ y.rows = x.rows := by
  unfold Sys2Proof.Machine.outputFault
  rw [h.output]
  dsimp only
  split
  · next hheld => exact ⟨x, h, hheld, rfl, rfl⟩
  · have swapped (p : Prop) [Decidable p] (y : Output) (w : PairUnit) :
        OutputBecomes o y s (if p then withPair (Sys2Proof.Machine.outSet o y t) w else Sys2Proof.Machine.outSet o y t) :=
      .ite ((h.outSet y).agree (withPair_frame _ w (.refl { pair := true } _) rfl) rfl rfl rfl) (h.outSet y)
    refine ⟨_, (swapped _ _ _).raise _ _, ?_⟩
    split <;> exact ⟨rfl, rfl, rfl⟩

end

/-! ### Rows are fetched (R383) -/

/-- From `s` to `t`, output `o` keeps its rows and every other output stands as it stood. -/
structure RowsStay (o : Nat) (s t : State) : Prop where
  rows : (outGet t o).rows = (outGet s o).rows
  others : ∀ p, p ≠ o → outGet t p = outGet s p

section
variable {o : Nat} {s t u : State}

theorem RowsStay.trans (h : RowsStay o s t) (h' : RowsStay o t u) : RowsStay o s u :=
  ⟨h'.rows.trans h.rows, fun p hp => (h'.others p hp).trans (h.others p hp)⟩

theorem RowsStay.of_agree {m : Units} (h : Agree m s t) (hscan : m.scan = false) : RowsStay o s t :=
  ⟨congrArg Output.rows (h.outGet hscan o), fun p _ => h.outGet hscan p⟩

theorem RowsStay.outUpd {f : Output → Output} (hf : ∀ x, (f x).rows = x.rows) (s : State) : RowsStay o s (outUpd o f s) :=
  ⟨by simp [Sys2Proof.Machine.outUpd, hf], fun p hp => by simp [Sys2Proof.Machine.outUpd, hp]⟩

/-- Failures found on the way are kept with the output. -/
theorem RowsStay.failures (l : List CompFail) (s : State) :
    RowsStay o s (if l.isEmpty then s else Sys2Proof.Machine.outUpd o (fun y => { y with fails := y.fails ++ l }) s) := by
  split
  · exact .of_agree (.refl {} s) rfl
  · exact .outUpd (f := fun y => { y with fails := y.fails ++ l }) (fun _ => rfl) s

end

/-- Writing a lifeline touches the rows of no output. -/
theorem lifeWrite_rows (g : RowCtx) (rescan : Bool) (s : State) (p : Part) : RowsStay g.o s (lifeWrite g rescan s p) := by
  have verified := lifeVerify_frame g p s (.refl { mem := true, str := true } s) rfl rfl
  unfold lifeWrite
  dsimp only
  split
  · generalize lifeVerify g p s = v at verified
    obtain ⟨found, fs, s1⟩ := v
    have first : RowsStay g.o s s1 := .of_agree verified rfl
    cases found with
    | none => exact first.trans (.failures fs s1)
    | some found =>
      have written := writeStitch_frame 0x31 g.faults 15 soLifePort (lifeSurf (canGet s (orCanvas g.r))) p.cx p.cy found.1
        (tagWord (tagCrc found.2) (tick (displayTime (flGet s (orGen g.r)) g.n)) 0) s1 (.refl { mem := true, comp := true } s1) rfl
      have kept (f : Canvas → Canvas) := first.trans (.of_agree (canUpd_frame (orCanvas g.r) f _ written rfl) rfl)
      dsimp only
      split
      · exact (kept _).trans (.failures _ _)
      · split
        · exact .trans (kept _) (.of_agree (send_frame _ _ (.refl {} _)) rfl)
        · exact kept _
  · exact .of_agree (.refl {} s) rfl

/-- A fetched row joins the rows of its output: judged whole, not yet compared, and not sent where the frame may not be. -/
theorem rowFetch_row {o row n : Nat} {env : ScanEnv} {s : State} (hcur : (outGet s o).cur = some n) :
    ∃ e : EgRow, (outGet (rowFetch o row env s) o).rows = tset row e (outGet s o).rows ∧ e.stitches.length = egCols (outRec s o) ∧
      e.rb = 0 ∧ ((outGet s o).maySend = false → e.sent = false) ∧ (∀ p, p ≠ o → outGet (rowFetch o row env s) p = outGet s p) := by
  have judged := judgeRow_frame (rowCtx s o n row env.faults) s (.refl { mem := true, str := true } s) rfl rfl
  have whole : (judgeRow (rowCtx s o n row env.faults) s).1.length = egCols (outRec s o) := by
    simp only [judgeRow, List.length_map, List.length_range, rowCtx]
  simp only [rowFetch, hcur]
  generalize judgeRow (rowCtx s o n row env.faults) s = j at judged whole
  obtain ⟨es, ps, fs, lines, s1⟩ := j
  dsimp only at judged whole ⊢
  rw [judged.outGet rfl o]
  have entered {y : Output} {e : EgRow} {z : State} (hz : RowsStay o (outSet o y s1) z) (hy : y.rows = tset row e (outGet s o).rows) :
      (outGet z o).rows = tset row e (outGet s o).rows ∧ ∀ p, p ≠ o → outGet z p = outGet s p := by
    refine ⟨hz.rows.trans (by rw [outGet_outSet, if_pos rfl, hy]), fun p hp => (hz.others p hp).trans ?_⟩
    rw [outGet_outSet, if_neg hp, judged.outGet rfl p]
  have lifelines (z : State) (b : Bool) : RowsStay o z (if (rowCtx s o n row env.faults).pic == .canvas then
      ps.foldl (lifeWrite (rowCtx s o n row env.faults) b) z else z) := by
    split
    · exact List.foldlRecOn (motive := fun w => RowsStay o z w) _ _ (.of_agree (.refl {} z) rfl)
        fun w hw p _ => hw.trans (lifeWrite_rows (rowCtx s o n row env.faults) b w p)
    · exact .of_agree (.refl {} z) rfl
  refine ⟨{ stitches := es, at_ := rowTime (flGet s (orGen (outRec s o))) (orVTotal (outRec s o)) n row
            sent := (outGet s o).maySend && rbUnav s o == 0 &&
              ((outGet s o).sendAll || ((outGet s o).pr && rowChanged (outGet s o) row es)) },
    (entered (lifelines _ _) rfl).1, whole, rfl, fun hmay => ?_, (entered (lifelines _ _) rfl).2⟩
  simp [hmay]

theorem rowFetch_tb (o row : Nat) (env : ScanEnv) (s : State) : (rowFetch o row env s).tb = s.tb :=
  (rowFetch_frame o row env s (.refl { mem := true, scan := true, str := true, comp := true } s) rfl rfl rfl rfl).tb.resolve_left
    Bool.false_ne_true

section
variable {o row : Nat} {env : ScanEnv} {s : State}

theorem exec_scanRowFetch (ho : o < 48) : exec (.scanRowFetch o row env) s = .next (scanRow o row env s) := by
  show Host.Outcome.next (scanRow (o % 48) row env s) = _
  rw [Nat.mod_eq_of_lt ho]

theorem scanRow_still (h : (outGet s o).en = false ∨ works s (outDomain o) = false ∨ egRows (outRec s o) ≤ row ∨
    (0 < row ∧ (outGet s o).cur = none)) : scanRow o row env s = s := by
  unfold scanRow
  dsimp only
  split
  · rfl
  · next hfetch =>
    obtain ⟨hrow, hcur⟩ : 0 < row ∧ (outGet s o).cur = none := by
      rcases h with h | h | h | h
      · simp [h] at hfetch
      · simp [h] at hfetch
      · simp [h] at hfetch
      · exact h
    rw [if_neg hrow.ne', hcur]

/-- A row after the first is fetched in its order, and not before its time. -/
theorem scanRow_later {n : Nat} (hcur : (outGet s o).cur = some n) (hrow : 0 < row) : scanRow o row env s =
    if !(outGet s o).en || !works s (outDomain o) || egRows (outRec s o) ≤ row then s
    else if (outGet s o).rows.length != row ||
      t0Ns s + 80000 < rowTime (flGet s (orGen (outRec s o))) (orVTotal (outRec s o)) n row then s
    else rowFetch o row env s := by
  simp only [scanRow, hcur, if_neg hrow.ne']

/-- The first row begins the frame that is due, once the frame before it is closed. -/
theorem scanRow_first : scanRow o 0 env s =
    if !(outGet s o).en || !works s (outDomain o) || egRows (outRec s o) ≤ 0 then s
    else match frameDue s o with
    | none => s
    | some n =>
      if ((outGet s o).cur == some n && !(outGet s o).again) ||
        !((outGet s o).audited || (outGet s o).rows.length < egRows (outRec s o)) then s
      else rowFetch o 0 env (frameBegin o n s) := rfl

end

/-! ### Read-back (R389, R390) -/

/-- The stitches of a row that do not read back as they were sent. -/
def wrongStitches (o : Nat) (seen : List (Nat × List (List Nat))) (e : EgRow) (s : State) : List (Nat × W32) :=
  (seen.map fun b => (b.1, egressCrc (orDepth10 (outRec s o)) b.2)).filter fun b =>
    b.1 < e.stitches.length && (e.stitches.getD b.1 {}).crc != b.2

/-- An output with a row compared, some of whose stitches failed. -/
def rowCompared (x : Output) (row : Nat) (e : EgRow) (k : Nat) : Output :=
  { x with rows := tset row { e with rb := if k = 0 then 1 else 2 } x.rows, rbFailed := x.rbFailed + k, rbFail := sat32 (x.rbFail + k)
           bad := x.bad || k != 0 }

section
variable {o row n : Nat} {seen : List (Nat × List (List Nat))} {s : State} {e : EgRow} (hcur : (outGet s o).cur = some n)
  (he : tfind row (outGet s o).rows = some e)
include hcur he

theorem readbackCompare_still (h : (outGet s o).en = false ∨ (outGet s o).up = false ∨ (outGet s o).offTx = true ∨ e.sent = false ∨
    e.rb ≠ 0 ∨ t0Ns s < rowEnd s o n row) : readbackCompare o row seen s = s := by
  simp only [readbackCompare, hcur, he]
  refine if_pos ?_
  rcases h with h | h | h | h | h | h
  · simp [h]
  · simp [h]
  · simp [h]
  · simp [h]
  · simp [bne_iff_ne.mpr h]
  · simp [h]

variable (hen : (outGet s o).en = true) (hsent : e.sent = true) (hrb : e.rb = 0) (hup : (outGet s o).up = true)
  (hoff : (outGet s o).offTx = false) (hdue : rowEnd s o n row ≤ t0Ns s)
include hen hsent hrb hup hoff hdue

theorem readbackCompare_compares : readbackCompare o row seen s = recalWaiting o (gapCheck o
    (match wrongStitches o seen e s with
      | b :: _ => outputFault o 1 row b.1 (e.stitches.getD b.1 {}).crc b.2
          (outSet o (rowCompared (outGet s o) row e (wrongStitches o seen e s).length) s)
      | [] => outSet o (rowCompared (outGet s o) row e (wrongStitches o seen e s).length) s)) := by
  unfold readbackCompare
  dsimp only
  split
  · next m f hm hf =>
    obtain rfl : m = n := Option.some.inj (hm.symm.trans hcur)
    obtain rfl : f = e := Option.some.inj (hf.symm.trans he)
    rw [if_neg (by simp [hen, hsent, hrb, hup, hoff, hdue])]
    rfl
  · next hnone => exact (hnone n e hcur he).elim

theorem readbackCompare_passes (hgood : wrongStitches o seen e s = []) : OutputBecomes o
    { outGet s o with rows := tset row { e with rb := 1 } (outGet s o).rows, rbFail := sat32 (outGet s o).rbFail } s
    (readbackCompare o row seen s) := by
  rw [readbackCompare_compares hcur he hen hsent hrb hup hoff hdue, hgood]
  have passed : rowCompared (outGet s o) row e 0 =
      { outGet s o with rows := tset row { e with rb := 1 } (outGet s o).rows, rbFail := sat32 (outGet s o).rbFail } := by
    simp [rowCompared]
  rw [← passed]
  exact (((OutputBecomes.refl o s).outSet _).gapCheck o).recalWaiting o

theorem readbackCompare_fails (hbad : wrongStitches o seen e s ≠ []) : ∃ y, OutputBecomes o y s (readbackCompare o row seen s) ∧
    y.hold = true ∧ y.bad = true ∧ tfind row y.rows = some { e with rb := 2 } := by
  rw [readbackCompare_compares hcur he hen hsent hrb hup hoff hdue]
  obtain ⟨b, bs, hwrong⟩ := List.exists_cons_of_ne_nil hbad
  rw [hwrong]
  obtain ⟨y, hy, hhold, hybad, hrows⟩ := ((OutputBecomes.refl o s).outSet (rowCompared (outGet s o) row e (b :: bs).length)).outputFault 1
    row b.1 (e.stitches.getD b.1 {}).crc b.2
  refine ⟨y, (hy.gapCheck o).recalWaiting o, hhold, ?_, ?_⟩
  · rw [hybad]
    simp [rowCompared]
  · rw [hrows]
    simp [rowCompared, tfind_tset_same]

end

theorem wrongStitches_eq_nil {o : Nat} {seen : List (Nat × List (List Nat))} {e : EgRow} {s : State} :
    wrongStitches o seen e s = [] ↔
      ∀ b ∈ seen, b.1 < e.stitches.length → (e.stitches.getD b.1 {}).crc = egressCrc (orDepth10 (outRec s o)) b.2 := by
  rw [wrongStitches, List.filter_eq_nil_iff, List.forall_mem_map]
  simp only [Bool.and_eq_true, decide_eq_true_eq, bne_iff_ne, not_and, not_not]

section
variable {o : Nat} {s : State}

theorem lockLoss_still (h : (outGet s o).en = false ∨ (outGet s o).up = false ∨ (outGet s o).offTx = true ∨ laneBusy s o = true ∨
    works s (outDomain o) = false) : lockLoss o s = s :=
  if_pos (by rcases h with h | h | h | h | h <;> simp [h])

/-- The loss of lock holds a sending output. -/
theorem lockLoss_holds (hen : (outGet s o).en = true) (hup : (outGet s o).up = true) (hoff : (outGet s o).offTx = false)
    (hlanes : laneBusy s o = false) (hworks : works s (outDomain o) = true) :
    ∃ y, OutputBecomes o y s (lockLoss o s) ∧ y.hold = true ∧ y.bad = true := by
  have drawn : OutputBecomes o (outGet s o) s (takeFree s).2 :=
    (OutputBecomes.refl o s).agree (takeFree_frame s (.refl {} s)) rfl rfl rfl
  have faulted (x : Output) (hbad : x.bad = true) (row : Nat) (crc w : W32) :
      ∃ y, OutputBecomes o y s (outputFault o 2 row 0 crc w (outSet o x (takeFree s).2)) ∧ y.hold = true ∧ y.bad = true := by
    obtain ⟨y, hy, hhold, hybad, -⟩ := (drawn.outSet x).outputFault 2 row 0 crc w
    exact ⟨y, hy, hhold, hybad.trans hbad⟩
  unfold lockLoss
  dsimp only
  rw [if_neg (by simp [hen, hup, hoff, hlanes, hworks])]
  split
  · exact faulted _ rfl _ _ _
  · exact faulted _ rfl _ _ _

/-! ### Keep-alive packets and audit entries (R399, R431) -/

theorem keepAlive_still {n : Nat} (hcur : (outGet s o).cur = some n) (h : (outGet s o).en = false ∨ orKa (outRec s o) = false ∨
    works s (outDomain o) = false ∨ (∀ f, (outGet s o).frame0 = some f → n < f) ∨ (outGet s o).kaDone = true ∨
    (outGet s o).rows.length ≠ egRows (outRec s o) ∨ t0Ns s < activeEnd s o n) : keepAlive o s = s := by
  cases hf : (outGet s o).frame0 with
  | none => simp only [keepAlive, hcur, hf]
  | some f =>
    simp only [keepAlive, hcur, hf]
    refine if_pos ?_
    rcases h with h | h | h | h | h | h | h
    · simp [h]
    · simp [h]
    · simp [h]
    · simp [h f hf]
    · simp [h]
    · simp [bne_iff_ne.mpr h]
    · simp [h]

theorem keepAlive_goes {n f : Nat} (hcur : (outGet s o).cur = some n) (hf : (outGet s o).frame0 = some f) (hfn : f ≤ n)
    (hen : (outGet s o).en = true) (hka : orKa (outRec s o) = true) (hnot : (outGet s o).kaDone = false)
    (hrows : (outGet s o).rows.length = egRows (outRec s o)) (hend : activeEnd s o n ≤ t0Ns s) (hworks : works s (outDomain o) = true) :
    OutputBecomes o { outGet s o with kaDone := true } s (keepAlive o s) := by
  have marked : OutputBecomes o { outGet s o with kaDone := true } s (outSet o { outGet s o with kaDone := true } s) :=
    (OutputBecomes.refl o s).outSet _
  unfold keepAlive
  dsimp only
  split
  · next m f0 hm hf0 =>
    obtain rfl : m = n := Option.some.inj (hm.symm.trans hcur)
    obtain rfl : f0 = f := Option.some.inj (hf0.symm.trans hf)
    rw [if_neg (by simp [hen, hka, hnot, hfn, hrows, hend, hworks])]
    refine OutputBecomes.recalWaiting ?_ o
    split
    · exact marked.agree (agree_foldl (fun _ _ hu => send_frame _ _ hu) (Agree.refl {} _)) rfl rfl rfl
    · exact marked
  · next hnone => exact (hnone n f hcur hf).elim

theorem auditEntry_still {n : Nat} (hcur : (outGet s o).cur = some n) (h : (outGet s o).en = false ∨ works s (outDomain o) = false ∨
    (outGet s o).audited = true ∨ (outGet s o).rows.length ≠ egRows (outRec s o) ∨
    ((outGet s o).again = false ∧ t0Ns s < activeEnd s o n)) : auditEntry o s = s := by
  simp only [auditEntry, hcur]
  refine if_pos ?_
  rcases h with h | h | h | h | ⟨h, h'⟩
  · simp [h]
  · simp [h]
  · simp [h]
  · simp [bne_iff_ne.mpr h]
  · simp [h, h']

/-- A frame that ends is audited under its number with its read-back code; its hold stays. -/
theorem frameFinish_becomes (n : Nat) : ∃ y, OutputBecomes o y s (frameFinish o n s) ∧ y.audited = true ∧ y.last = w32 n ∧
    y.lastRb = readbackCode (outGet s o) ∧ y.hold = (outGet s o).hold := by
  unfold frameFinish
  dsimp only
  refine ⟨_, OutputBecomes.agree (OutputBecomes.outSet (x := outGet s o) (OutputBecomes.agree (.refl o s) (m := { str := true, enc := true })
    (auditWrite_frame _ _ (verdictEvent_frame _ _ _ _ _ _ (verdictEvent_frame _ _ _ _ _ _ (verdictEvent_frame _ _ _ _ _ _
      (scanReport_frame _ _ _ _ (.refl _ s) rfl)))) rfl) rfl rfl rfl) _) (ownDigest_frame _ _ (.refl { pair := true } _) rfl) rfl rfl rfl,
    rfl, rfl, rfl, rfl⟩

theorem auditEntry_goes {n : Nat} (hcur : (outGet s o).cur = some n) (hen : (outGet s o).en = true) (hnot : (outGet s o).audited = false)
    (hrows : (outGet s o).rows.length = egRows (outRec s o))
    (hcompared : (outGet s o).up = false ∨ (outGet s o).offTx = true ∨ ∀ y ∈ (outGet s o).rows, y.2.sent = false ∨ y.2.rb ≠ 0)
    (hend : (outGet s o).again = true ∨ activeEnd s o n ≤ t0Ns s) (hworks : works s (outDomain o) = true) :
    auditEntry o s = recalWaiting o (frameFinish o n s) := by
  have compared : ((outGet s o).rows.all fun y => !y.2.sent || y.2.rb != 0 || !(outGet s o).up || (outGet s o).offTx) = true := by
    rw [List.all_eq_true]
    intro y hy
    rcases hcompared with h | h | h
    · simp [h]
    · simp [h]
    · rcases h y hy with h | h
      · simp [h]
      · simp [bne_iff_ne.mpr h]
  have ended : (!(outGet s o).again && decide (t0Ns s < activeEnd s o n)) = false := by
    rcases hend with h | h <;> simp [h]
  simp only [auditEntry, hcur, compared, ended]
  exact if_neg (by simp [hen, hnot, hrows, hworks])

end

/-! ### The audit ring (R431, R434) -/

theorem ringGet_signalVector (fn v k j : Nat) (s : State) : ringGet (signalVector fn v s) k j = ringGet s k j := by
  unfold signalVector
  dsimp only
  split
  · unfold ringGet fnSet fnGet
    split <;> split <;> rfl
  · rfl

/-- Writing to a ring, or counting what it lost, leaves the other rings. -/
theorem ringGet_ringWrite_other {fn r k j : Nat} (hfn : fn < 2) (hk : k < 2) (h : k ≠ fn ∨ j ≠ r) (ws : List W32) (now : Bool) (s : State) :
    ringGet (ringWrite fn r ws now s) k j = ringGet s k j := by
  unfold ringWrite ringPut ringDiscard
  dsimp only
  split
  · split
    · rw [ringGet_signalVector, ringGet_ringSet_other hfn hk h]
      rfl
    · rw [ringGet_ringSet_other hfn hk h]
      rfl
  · rw [ringGet_ringSet_other hfn hk h]

theorem ringGet_eventToFn {fn k j : Nat} (hfn : fn < 2) (hk : k < 2) (hj : j ≠ 8) (code : Nat) (p : List W32) (s : State) :
    ringGet (eventToFn fn code p s) k j = ringGet s k j := by
  unfold eventToFn
  dsimp only
  split
  · exact ringGet_ringWrite_other hfn hk (.inr hj) ..
  · exact ringGet_ringWrite_other hfn hk (.inr hj) ..

theorem ringGet_eventToMaint (k j code : Nat) (p : List W32) (s : State) : ringGet (eventToMaint code p s) k j = ringGet s k j := by
  unfold eventToMaint sendMaint
  dsimp only
  repeat' split
  all_goals rfl

/-- An event goes to the event rings alone. -/
theorem ringGet_raise {k j : Nat} (hk : k < 2) (hj : j ≠ 8) (code : Nat) (p : List W32) (s : State) :
    ringGet (raise code p s) k j = ringGet s k j := by
  have offered (c : Prop) [Decidable c] (fn : Nat) (hfn : fn < 2) (u : State) (hu : ringGet u k j = ringGet s k j) :
      ringGet (if c then eventToFn fn code p u else u) k j = ringGet s k j := by
    split
    · rw [ringGet_eventToFn hfn hk hj, hu]
    · exact hu
  have both := offered (maskBit s.hif.mask1 code && maskBit s.hif.allow1 code) 1 (by decide) _
    (offered (maskBit s.hif.mask0 code || code == 0x40 || code == 0x42) 0 (by decide) s rfl)
  unfold raise
  dsimp only
  split
  · rw [ringGet_eventToMaint]
    exact both
  · exact both

theorem auditWrite_room {ws : List W32} {s : State} (h : ringRoom (ringGet s 0 14) 1 = true) :
    auditWrite ws s = ringWrite 0 14 (auditWords ws s.enc.auditLost) false (withEnc s { s.enc with auditLost := 0 }) :=
  if_pos h

theorem ringGet_ringDiscard_prod (fn r n : Nat) (s : State) : (ringGet (ringDiscard fn r n s) fn r).prod = (ringGet s fn r).prod := by
  rw [ringDiscard, ringGet_ringSet_same]

theorem auditWrite_full {ws : List W32} {s : State} (h : ringRoom (ringGet s 0 14) 1 = false) :
    (auditWrite ws s).enc.auditLost = s.enc.auditLost + 1 ∧ (ringGet (auditWrite ws s) 0 14).prod = (ringGet s 0 14).prod := by
  unfold auditWrite
  dsimp only
  rw [h]
  split
  · cases ‹false = true›
  · split
    · exact ⟨rfl, ringGet_ringDiscard_prod ..⟩
    · rw [raise_enc, ringGet_raise (by decide) (by decide)]
      exact ⟨rfl, ringGet_ringDiscard_prod ..⟩

/-! ### The obligation -/

section
variable {o : Nat} (ho : o < 48)
include ho

theorem exec_readbackCompare (row : Nat) (seen : List (Nat × List (List Nat))) (s : State) :
    exec (.readbackCompare o row seen) s = .next (readbackCompare o row seen s) := by
  show Host.Outcome.next (readbackCompare (o % 48) row seen s) = _
  rw [Nat.mod_eq_of_lt ho]

theorem exec_readbackLockLoss (s : State) : exec (.readbackLockLoss o) s = .next (lockLoss o s) := by
  show Host.Outcome.next (lockLoss (o % 48) s) = _
  rw [Nat.mod_eq_of_lt ho]

theorem exec_keepaliveSet (s : State) : exec (.keepaliveSet o) s = .next (keepAlive o s) := by
  show Host.Outcome.next (keepAlive (o % 48) s) = _
  rw [Nat.mod_eq_of_lt ho]

theorem exec_auditEntryWrite (s : State) : exec (.auditEntryWrite o) s = .next (auditEntry o s) := by
  show Host.Outcome.next (auditEntry (o % 48) s) = _
  rw [Nat.mod_eq_of_lt ho]

end

/-- Settles O51: the generator's step, the fetch of a row, its read-back, the loss of lock, the end of a frame, and the audit ring. -/
theorem framesAreFetchedComparedAndAudited : Obligations.FramesAreFetchedComparedAndAudited := by
  refine ⟨fun g s hg => ?display, ?fetch, ?readback, fun o s ho => ?lock, ?frameEnd, fun ws s => ⟨auditWrite_room, auditWrite_full⟩⟩
  case display =>
    rw [exec_frameDisplayStart hg]
    refine ⟨fun h => congrArg _ (frameStart_early h), fun hen hnum hdue => ⟨_, congrArg _ (frameStart_due hen hnum hdue), ?_⟩⟩
    have kept := frameStarted_keeps g s
    have base := kept.tb.resolve_left Bool.false_ne_true
    refine ⟨?_, fun k hk => ?_, ?_, kept.mem.resolve_left Bool.false_ne_true, kept.net.resolve_left Bool.false_ne_true⟩
    · rw [kept.flGet rfl, flGet_flSet, if_pos rfl]
    · rw [kept.flGet rfl, flGet_flSet, if_neg hk]
    · rw [base]
      rfl
  case fetch =>
    rintro o row env s x r ho rfl rfl
    simp only [exec_scanRowFetch ho]
    refine ⟨fun h => congrArg _ (scanRow_still h), fun n hcur hrow h => ?_, fun n hcur hrow hlast hen hworks horder hdue => ?_,
      fun n hrow hlast hen hworks hdue hnew hclosed => ?_, fun n hrow hdue h => ?_, fun hrow hdue => ?_⟩
    · rw [scanRow_later hcur hrow]
      exact congrArg _ ((ite_congr rfl (fun _ => rfl) fun _ => if_pos (by simpa using h)).trans (ite_self s))
    · rw [scanRow_later hcur hrow, if_neg (by simp [hen, hworks, hlast]), if_neg (by simp [horder, hdue])]
      obtain ⟨e, hrows, hwhole, hrb, hsent, hothers⟩ := rowFetch_row (row := row) (env := env) hcur
      exact ⟨_, e, rfl, hrows, hwhole, hrb, hsent, hothers, rowFetch_tb ..⟩
    · rw [scanRow_first, if_neg (by simp [hen, hworks, Nat.ne_of_gt hlast]), hdue]
      refine congrArg _ (if_neg ?_)
      rcases hnew with hnew | hnew <;> rcases hclosed with hclosed | hclosed <;> simp [hnew, hclosed]
    · rw [scanRow_first, hdue]
      refine congrArg _ ((ite_congr rfl (fun _ => rfl) fun _ => if_pos ?_).trans (ite_self s))
      rcases h with ⟨hcur, hagain⟩ | ⟨hopen, hall⟩
      · simp [hcur, hagain]
      · simp [hopen, Nat.not_lt.mpr hall]
    · rw [scanRow_first, hdue]
      exact congrArg _ (ite_self s)
  case readback =>
    rintro o row n bad crc s x e ho rfl hcur rfl he
    rw [exec_readbackCompare ho]
    refine ⟨fun h => congrArg _ (readbackCompare_still hcur he h), fun hen hsent hrb hup hoff hdue => ⟨fun hgood => ?_, fun hbad => ?_⟩⟩
    · have passed := readbackCompare_passes hcur he hen hsent hrb hup hoff hdue (wrongStitches_eq_nil.mpr hgood)
      exact ⟨_, rfl, passed.output, passed.others, passed.mem⟩
    · obtain ⟨b, hb, hlt, hne⟩ := hbad
      obtain ⟨y, hy, hhold, hybad, hrow⟩ := readbackCompare_fails hcur he hen hsent hrb hup hoff hdue
        fun hnil => hne (wrongStitches_eq_nil.mp hnil b hb hlt)
      refine ⟨_, rfl, ?_, ?_, ?_, hy.others, hy.mem⟩
      · rw [hy.output, hhold]
      · rw [hy.output, hybad]
      · rw [hy.output, hrow]
  case lock =>
    rw [exec_readbackLockLoss ho]
    refine ⟨fun h => congrArg _ (lockLoss_still h), fun hen hup hoff hlanes hworks => ?_⟩
    obtain ⟨y, hy, hhold, hbad⟩ := lockLoss_holds hen hup hoff hlanes hworks
    refine ⟨_, rfl, ?_, ?_, hy.others, hy.mem⟩
    · rw [hy.output, hhold]
    · rw [hy.output, hbad]
  case frameEnd =>
    rintro o n s x ho rfl hcur
    rw [exec_keepaliveSet ho, exec_auditEntryWrite ho]
    refine ⟨fun h => congrArg _ (keepAlive_still hcur h), fun f hf hfn hen hka hnot hrows hend hworks => ?_,
      fun h => congrArg _ (auditEntry_still hcur h), fun hen hnot hrows hcompared hend hworks => ?_⟩
    · have gone := keepAlive_goes hcur hf hfn hen hka hnot hrows hend hworks
      exact ⟨_, rfl, gone.output, gone.others, gone.mem⟩
    · obtain ⟨y, hy, haudited, hlast, hrb, hhold⟩ := frameFinish_becomes (o := o) (s := s) n
      have closed := hy.recalWaiting o
      rw [auditEntry_goes hcur hen hnot hrows hcompared hend hworks]
      refine ⟨_, rfl, ?_, ?_, ?_, ?_, closed.others, closed.mem⟩
      · rw [closed.output, haudited]
      · rw [closed.output, hlast]
      · rw [closed.output, hrb, readbackCode]
      · rw [closed.output, hhold]

end Sys2Proof.Machine
end

section
/-! SUPPORT. The Corler link (R438, R439, R441), the pair's offsets (R210) and its digest records (R453 to R455): what a training, a frame, a
measurement and a record make of the pair's unit, and what they leave. -/

namespace Sys2Proof.Machine

/-! ### The end of a training -/

/-- The lanes of a mask back in use after an earlier removal. -/
def lanesInUse (lanes : W32) (s : State) : State :=
  (List.range 4).foldl (fun st i =>
    if bitOf lanes i then laneUpd (80 + i) (fun x => if x.ovl == 5 then { x with ovl := 0 } else x) st else st) s

/-- The block with its link up on the lanes that a training gave. -/
def linkTrained (r : CorlerTraining) (s : State) : State :=
  send (.corler 1 [ownPairWord s]) (withPair (lanesInUse (r.lanes &&& 0xF) s) { s.pair with
    training := false, trainFailed := none, linkUp := true, lanes := r.lanes &&& 0xF, replays := [], lastRx := t2Ns s, silent := false,
    peerPair := r.peerWord, peerSeen := [], ownRecs := [], peerRecs := [] })

theorem lanesInUse_frame {m : Units} {s₀ : State} (lanes : W32) (s : State) (hg : Agree m s₀ s) (h_lane : m.lane = true) :
    Agree m s₀ (lanesInUse lanes s) :=
  agree_foldl (fun st i h => by
    split
    · exact laneUpd_frame _ _ _ h h_lane
    · exact h) hg

theorem linkTrained_keeps (r : CorlerTraining) (s : State) : Agree { lane := true, pair := true } s (linkTrained r s) :=
  send_frame _ _ (withPair_frame _ _ (lanesInUse_frame _ _ (Agree.refl _ s) rfl) rfl)

section
variable {r : CorlerTraining} {s : State}

/-- Without a training of its own, or a knit-up that a Lead accepts, the end of one is ignored. -/
theorem corlerTraining_skips
    (h : pairWorks s = false ∨ (s.pair.training = false ∧ (s.pwr.mode ≠ .lead ∨ s.pair.acceptUntil = none))) : corlerTraining r s = s := by
  refine if_pos ?_
  obtain hw | ⟨ht, hm | ha⟩ := h
  · simp [hw]
  · simp [ht, beq_eq_false_iff_ne.mpr hm]
  · simp [ht, ha]

section
variable (hw : pairWorks s = true) (ht : s.pair.training = true ∨ (s.pwr.mode = .lead ∧ s.pair.acceptUntil ≠ none))
include hw ht

theorem training_runs : ¬ (!pairWorks s || !(s.pair.training || (s.pwr.mode == .lead && s.pair.acceptUntil.isSome))) = true := by
  obtain ht | ⟨hm, ha⟩ := ht
  · simp [hw, ht]
  · simp [hw, hm, Option.isSome_iff_ne_none.mpr ha]

theorem corlerTraining_noLane (hl : r.lanes &&& 0xF = 0) :
    corlerTraining r s = withPair s { s.pair with training := false, trainFailed := some (t2Ns s) } :=
  (if_neg (training_runs hw ht)).trans (if_pos hl)

variable (hl : r.lanes &&& 0xF ≠ 0)
include hl

theorem corlerTraining_ends (hm : s.pwr.mode ≠ .knitUp) (hc : pairCompatible (ownPairWord s) r.peerWord = false) :
    corlerTraining r s = withPair s { s.pair with training := false } :=
  (if_neg (training_runs hw ht)).trans <| (if_neg hl).trans <| (if_neg (by simp [hm])).trans <| (if_neg (by simp [hm])).trans <|
    if_pos (by simp [hc])

theorem corlerTraining_fails (hm : s.pwr.mode = .knitUp)
    (h : pairCompatible (ownPairWord s) r.peerWord = false ∨ r.accepting = false ∨ r.posB = s.pair.posB) :
    ∃ cause, corlerTraining r s = knitFail cause 3 0xFF s := by
  cases hc : pairCompatible (ownPairWord s) r.peerWord with
  | false => exact ⟨2, (if_neg (training_runs hw ht)).trans <| (if_neg hl).trans <| if_pos (by simp [hm, hc])⟩
  | true =>
    have hrefused : r.accepting = false ∨ r.posB = s.pair.posB := h.resolve_left (by simp [hc])
    exact ⟨3, (if_neg (training_runs hw ht)).trans <| (if_neg hl).trans <| (if_neg (by simp [hc])).trans <|
      if_pos (by simpa [hm] using hrefused)⟩

theorem corlerTraining_links (hc : pairCompatible (ownPairWord s) r.peerWord = true)
    (hk : s.pwr.mode = .knitUp → r.accepting = true ∧ r.posB ≠ s.pair.posB) :
    corlerTraining r s = if (s.pwr.mode == .knitUp && s.pair.phase == 1) = true then phaseNext (linkTrained r s) else linkTrained r s := by
  have haccepted : ¬ (s.pwr.mode == .knitUp && (!r.accepting || r.posB == s.pair.posB)) = true := by
    simpa using fun hm => hk hm
  exact (if_neg (training_runs hw ht)).trans <| (if_neg hl).trans <| (if_neg (by simp [hc])).trans <| (if_neg haccepted).trans <|
    if_neg (by simp [hc])

end

/-- In phase 1 of a knit-up the trained link is the end of the phase. -/
theorem knitLinked_pair (hm : s.pwr.mode = .knitUp) (t : State)
    (h : t = if (s.pwr.mode == .knitUp && s.pair.phase == 1) = true then phaseNext (linkTrained r s) else linkTrained r s) :
    Agree { lane := true, pair := true } s t ∧
      t.pair = { (linkTrained r s).pair with phase := if s.pair.phase = 1 then 2 else s.pair.phase } := by
  by_cases h1 : s.pair.phase = 1
  · have ht : t = phaseNext (linkTrained r s) := h.trans (if_pos (by simp [hm, h1]))
    refine ⟨ht ▸ phaseNext_frame _ (linkTrained_keeps r s) rfl, ?_⟩
    rw [ht, phaseNext_pair, if_pos h1]
    exact congrArg (fun n => { (linkTrained r s).pair with phase := n + 1 }) h1
  · have ht : t = linkTrained r s := h.trans (if_neg (by simp [h1]))
    refine ⟨ht ▸ linkTrained_keeps r s, ?_⟩
    rw [ht, if_neg h1]
    rfl

/-! ### The retry of a training (R441) -/

theorem trainingRetry_starts {a : Nat} (ha : s.pair.trainFailed = some a) (hdue : a + 1000000000 ≤ t2Ns s)
    (hm : s.pwr.mode = .knitUp ∨ (s.pwr.mode = .lead ∧ s.pair.acceptUntil ≠ none)) :
    trainingRetry s = withPair s { s.pair with training := true, trainFailed := none } := by
  unfold trainingRetry
  rw [ha]
  refine if_pos ?_
  obtain hm | ⟨hm, hacc⟩ := hm
  · simp [hdue, hm]
  · simp [hdue, hm, Option.isSome_iff_ne_none.mpr hacc]

theorem trainingRetry_waits {a : Nat} (ha : s.pair.trainFailed = some a)
    (h : t2Ns s < a + 1000000000 ∨ (s.pwr.mode ≠ .knitUp ∧ (s.pwr.mode ≠ .lead ∨ s.pair.acceptUntil = none))) : trainingRetry s = s := by
  unfold trainingRetry
  rw [ha]
  refine if_neg ?_
  obtain hlate | ⟨hk, hl | hacc⟩ := h
  · simp [Nat.not_le.mpr hlate]
  · simp [hk, hl]
  · simp [hk, hacc]

theorem trainingRetry_none (h : s.pair.trainFailed = none) : trainingRetry s = s := by
  unfold trainingRetry
  rw [h]

end

/-! ### The configuration digest -/

/-- Two blocks whose memory answers a read alike. -/
structure ReadsAlike (s t : State) : Prop where
  mem : t.mem = s.mem
  tb : t.tb = s.tb
  pwr : t.pwr = s.pwr
  boot : t.boot = s.boot

theorem ReadsAlike.memoryOn {s t : State} (h : ReadsAlike s t) : memoryOn t = memoryOn s := by
  have hq : quiesced t = quiesced s := by
    unfold quiesced Sys2Proof.Machine.t2Ns
    rw [h.pwr, h.tb]
  unfold Sys2Proof.Machine.memoryOn domainAnswers
  rw [h.pwr, h.boot, hq]

theorem requestDenied_mem_congr (init : Nat) (write : Bool) (fs : List (Nat × Nat)) {s t : State} (h : t.mem = s.mem) :
    (requestDenied init write fs t).mem = (requestDenied init write fs s).mem := by
  cases fs with
  | nil => exact h
  | cons f fs => simp only [requestDenied, raiseMerged_mem, h]

theorem requestUnmapped_mem_congr (init : Nat) (us : List Nat) {s t : State} (h : t.mem = s.mem) :
    (requestUnmapped init us t).mem = (requestUnmapped init us s).mem := by
  cases us with
  | nil => exact h
  | cons a us => simp only [requestUnmapped, memState_mem, h]

theorem requested_mem_congr (port a n : Nat) (hbm : List Host.Cell) {s t : State} (h : ReadsAlike s t) :
    (requested port a n hbm t).mem = (requested port a n hbm s).mem := by
  simp only [requested, Sys2Proof.Machine.t2Ns, h.mem, h.tb]

/-- A read answers the same bytes in both, and they go on alike. -/
theorem ReadsAlike.request {s t : State} (h : ReadsAlike s t) (init port a n : Nat) :
    (request init port a n none t).2.1 = (request init port a n none s).2.1 ∧
      ReadsAlike (request init port a n none s).2.2 (request init port a n none t).2.2 := by
  have hs := request_frame init port a n none s (Agree.refl { mem := true } s) rfl
  have ht := request_frame init port a n none t (Agree.refl { mem := true } t) rfl
  have keep : (Sys2Proof.Machine.request init port a n none t).2.2.mem = (Sys2Proof.Machine.request init port a n none s).2.2.mem →
      ReadsAlike (Sys2Proof.Machine.request init port a n none s).2.2 (Sys2Proof.Machine.request init port a n none t).2.2 := fun hmem =>
    { mem := hmem
      tb := (ht.tb.resolve_left Bool.false_ne_true).trans (h.tb.trans (hs.tb.resolve_left Bool.false_ne_true).symm)
      pwr := (ht.pwr.resolve_left Bool.false_ne_true).trans (h.pwr.trans (hs.pwr.resolve_left Bool.false_ne_true).symm)
      boot := (ht.boot.resolve_left Bool.false_ne_true).trans (h.boot.trans (hs.boot.resolve_left Bool.false_ne_true).symm) }
  cases hon : Sys2Proof.Machine.memoryOn s with
  | false =>
    have honT := h.memoryOn.trans hon
    refine ⟨by rw [request_off honT, request_off hon], keep ?_⟩
    rw [request_off honT, request_off hon]
    simp only [offBlock_mem, h.mem]
  | true =>
    have honT := h.memoryOn.trans hon
    refine ⟨by rw [request_on honT, request_on hon, h.mem], keep ?_⟩
    rw [request_on honT, request_on hon, h.mem]
    exact requestUnmapped_mem_congr _ _ (requestDenied_mem_congr _ _ _ (requested_mem_congr _ _ _ _ h))

theorem ReadsAlike.busRead (init port fuel : Nat) : ∀ (a n : Nat) {s t : State}, ReadsAlike s t →
    (busRead init port fuel a n t).2.1 = (busRead init port fuel a n s).2.1 := by
  induction fuel with
  | zero => exact fun _ _ _ _ _ => rfl
  | succ fuel ih =>
    intro a n s t h
    unfold Sys2Proof.Machine.busRead
    split
    · rfl
    · obtain ⟨hbytes, hnext⟩ := h.request init port a (Nat.min n (4096 - a % 4096))
      dsimp only
      rw [hbytes, ih _ _ hnext]

theorem ReadsAlike.stillImage {s t : State} (h : ReadsAlike s t) (k : Nat) (x : Still) : stillImage t k x = stillImage s k x := by
  simp only [Sys2Proof.Machine.stillImage, rawTag, h.busRead]

/-- The pair's unit is no part of the configuration digest (R455). -/
theorem configDigest_withPair (s : State) (u : PairUnit) : configDigest (withPair s u) = configDigest s := by
  have himage : ∀ k x, stillImage (withPair s u) k x = stillImage s k x := ReadsAlike.stillImage ⟨rfl, rfl, rfl, rfl⟩
  have hrec : ∀ o, outRec (withPair s u) o = outRec s o := fun _ => rfl
  have hledger : liveLedger (withPair s u) = liveLedger s := rfl
  simp only [configDigest, himage, hrec, hledger, withPair_comp, withPair_str, withPair_net, withPair_scan, withPair_tb]

end Sys2Proof.Machine
end

section
/-! SUPPORT. The Corler link's frames (R439) and timing messages (R199, R210): what each makes of the block. -/

namespace Sys2Proof.Machine

/-! ### The frames of the link -/

/-- The block that a good frame on a lane finds, its replays forgotten. -/
def frameHeard (lane : Nat) (s : State) : State := withPair s { s.pair with replays := tset lane 0 s.pair.replays }

section
variable {lane : Nat} {f : CorlerFrame} {s : State} (hlane : lane < 4)
include hlane

theorem corlerFrame_skips (h : pairWorks s = false ∨ s.pair.linkUp = false ∨ bitOf s.pair.lanes lane = false) : corlerFrame lane f s = s := by
  refine if_pos ?_
  rw [Nat.mod_eq_of_lt hlane]
  obtain h | h | h := h <;> simp [h]

section
variable (hw : pairWorks s = true) (hup : s.pair.linkUp = true) (hin : bitOf s.pair.lanes lane = true)
include hw hup hin

theorem frame_arrives : ¬ (!pairWorks s || !s.pair.linkUp || !bitOf s.pair.lanes (lane % 4)) = true := by
  simp [hw, hup, hin, Nat.mod_eq_of_lt hlane]

theorem corlerFrame_good (hok : f.crcOk = true) : corlerFrame lane f s = corlerMessage f.stamp f.msg (frameHeard lane s) :=
  (if_neg (frame_arrives hlane hw hup hin)).trans <| (if_pos hok).trans <|
    congrArg (fun i => corlerMessage f.stamp f.msg (frameHeard i s)) (Nat.mod_eq_of_lt hlane)

theorem corlerFrame_dropped (hbad : f.crcOk = false) (h1 : f.cls ≠ 1) (h3 : f.cls ≠ 3) (h4 : f.cls ≠ 4) : corlerFrame lane f s = s :=
  (if_neg (frame_arrives hlane hw hup hin)).trans <| (if_neg (by simp [hbad])).trans <| if_neg (by simp [h1, h3, h4])

variable (hbad : f.crcOk = false) (hcls : f.cls = 1 ∨ f.cls = 3 ∨ f.cls = 4)
include hbad hcls

theorem corlerFrame_replays (hn : tget 0 s.pair.replays lane < 4) :
    corlerFrame lane f s = withPair s { s.pair with replays := tset lane (tget 0 s.pair.replays lane + 1) s.pair.replays } := by
  refine (if_neg (frame_arrives hlane hw hup hin)).trans <| (if_neg (by simp [hbad])).trans <| (if_pos (by simpa [or_assoc] using hcls)).trans ?_
  rw [Nat.mod_eq_of_lt hlane]
  exact if_pos hn

theorem corlerFrame_removes (hn : 4 ≤ tget 0 s.pair.replays lane) : corlerFrame lane f s = laneRemove lane s := by
  refine (if_neg (frame_arrives hlane hw hup hin)).trans <| (if_neg (by simp [hbad])).trans <| (if_pos (by simpa [or_assoc] using hcls)).trans ?_
  rw [Nat.mod_eq_of_lt hlane]
  exact if_neg (Nat.not_lt.mpr hn)

end
end

theorem laneRemove_pair (i : Nat) (s : State) : (laneRemove i s).pair =
    { s.pair with lanes := s.pair.lanes &&& ~~~(w32 (2 ^ i)), replays := tset i 0 s.pair.replays } := by
  simp [laneRemove]

theorem laneRemove_ovl (i : Nat) (s : State) : (laneGet (laneRemove i s) (80 + i)).ovl = 5 := by
  unfold laneRemove
  rw [(linkEventPair_frame _ _ _ (Agree.refl {} _)).laneGet rfl]
  show (laneGet (laneUpd (80 + i) _ s) (80 + i)).ovl = 5
  rw [laneGet_laneUpd, if_pos rfl]

theorem laneRemove_keeps (i : Nat) (s : State) : Agree { lane := true, pair := true } s (laneRemove i s) :=
  laneRemove_frame i s (.refl _ s) rfl rfl

/-! ### The messages -/

section
variable {p : StampNs} {s : State}

theorem corlerMessage_drill (n ret : Nat) (hm : s.pwr.mode = .follow) :
    corlerMessage p (.drill n ret) s = drillBegin (frameNamed (refGenOf s) (w32 n)) ret 3 0xFF s := if_pos (by simp [hm])

theorem corlerMessage_noDrill (n ret : Nat) (hm : s.pwr.mode ≠ .follow) : corlerMessage p (.drill n ret) s = s := if_neg (by simp [hm])

theorem drillBegin_mem (frame ret cause port : Nat) : (drillBegin frame ret cause port s).mem = s.mem :=
  (drillBegin_frame frame ret cause port s (Agree.refl roleUnits s) rfl rfl rfl rfl).roleKeeps.1

theorem corlerMessage_snapshot (hm : s.pwr.mode = .lead) : corlerMessage p .snapshotRequest s =
    raise 0x32 [0, s.hif.cmdSeq] (send (.corler 4 [configDigest s]) (withPair s { s.pair with copyTries := [], copyDone := [], rapWait := [] })) :=
  if_pos (by simp [hm])

theorem corlerMessage_noSnapshot (hm : s.pwr.mode ≠ .lead) : corlerMessage p .snapshotRequest s = s := if_neg (by simp [hm])

theorem corlerMessage_lifeline (n i k : Nat) (bs : List Byte) (hm : s.pwr.mode = .knitUp) (hp : s.pair.phase = 4 ∨ s.pair.phase = 5) :
    corlerMessage p (.lifeline n i k bs) s = takeLifeline n i k bs s := if_pos (by simpa [hm] using hp)

theorem corlerMessage_noLifeline (n i k : Nat) (bs : List Byte) (h : s.pwr.mode ≠ .knitUp ∨ (s.pair.phase ≠ 4 ∧ s.pair.phase ≠ 5)) :
    corlerMessage p (.lifeline n i k bs) s = s := by
  refine if_neg ?_
  obtain hm | ⟨h4, h5⟩ := h
  · simp [hm]
  · simp [h4, h5]

end

/-! ### A lifeline of the Lead -/

section
variable {c : Nat} {s : State} (i t : Nat) (bs : List Byte)

theorem takeLifeline_lives (hcols : 0 < stitchN (canGet s c).w) : tfind i (canGet (takeLifeline c i t bs s) c).lives = some t := by
  have h : takeLifeline c i t bs s = canUpd c (fun k => { k with lives := tset i t k.lives }) _ := if_neg (Nat.pos_iff_ne_zero.mp hcols)
  rw [h, canUpd, canGet_canSet, if_pos rfl, tfind_tset_same]

theorem takeLifeline_others {d : Nat} (hd : d ≠ c) : canGet (takeLifeline c i t bs s) d = canGet s d := by
  unfold takeLifeline
  dsimp only
  split
  · rfl
  · rw [canUpd, canGet_canSet, if_neg hd]
    exact (writeStitch_frame _ _ _ _ _ _ _ _ _ _ (Agree.refl { mem := true } s) rfl).canGet rfl d

theorem takeLifeline_keeps : Agree { mem := true, comp := true } s (takeLifeline c i t bs s) :=
  takeLifeline_frame c i t bs s (.refl _ s) rfl rfl

end

/-! ### Offsets (R199, R210) -/

/-- Over a symmetric link the delay cancels and the peer's offset is left. -/
theorem twoWay_symmetric {ownTx peerRx peerTx ownRx d : Nat} {o : Int} (hthere : (peerRx : Int) = ownTx + d + 4 * o)
    (hback : (peerTx : Int) + d = ownRx + 4 * o) : twoWay ownTx peerRx peerTx ownRx = o := by
  unfold twoWay
  omega

theorem txqPush_queues (q : Nat) (e : TxStamp) (s : State) : ∃ x, txqPush q e s = txqSet q x s := by
  unfold txqPush
  dsimp only
  split <;> exact ⟨_, rfl⟩

/-- Beside what goes out, a timing message moves its queue, the pair's echo and the moment of the measurement. -/
theorem pairSend_leaves (p : StampNs) (s : State) : ∃ o f q, pairSend p s =
    { s with outbox := o, free := f, tb := { s.tb with txq := q }, pair := { s.pair with tmEcho := none, tmAt := t2Ns s } } := by
  unfold pairSend
  dsimp only
  obtain ⟨x, hx⟩ := txqPush_queues 8 (pairTxStamp ((takeFree s).1.setWidth 16) (pairStampNow p (takeFree s).2))
    (txqSet 8 { txqGet (takeFree s).2 8 with q := [] } (takeFree s).2)
  rw [hx]
  exact ⟨_, _, _, rfl⟩

/-- The block with the offsets of a measurement stored. -/
def offsetsStored (a b : Int) (s : State) : State :=
  withTb s { s.tb with pairT0Ofs := ofsWord a, pairT3Ofs := ofsWord b, pairOver := decide (s.tb.pairLimit.toNat < a.natAbs) }

section
variable (a b : Int) (s : State)

theorem pairReport_tb : (pairReport a b s).tb =
    { s.tb with pairT0Ofs := ofsWord a, pairT3Ofs := ofsWord b, pairOver := decide (s.tb.pairLimit.toNat < a.natAbs) } := by
  unfold pairReport
  dsimp only
  split <;> simp

theorem pairReport_pair : ∃ v, (pairReport a b s).pair = { s.pair with timeOk := v } ∧ (s.tb.pairLimit.toNat < a.natAbs → v = none) := by
  unfold pairReport
  dsimp only
  refine ⟨timeOkStep (!decide (s.tb.pairLimit.toNat < a.natAbs)) (offsetsStored a b s), ?_, fun h => if_pos (by simp [h])⟩
  split
  · rfl
  · exact raise_pair ..

theorem pairReport_mem : (pairReport a b s).mem = s.mem :=
  (pairReport_frame a b s (Agree.refl { tb := true, pair := true } s) rfl rfl).mem.resolve_left Bool.false_ne_true

end

section
variable {p : StampNs} {s : State}

theorem pairMeasure_skips (h : pairWorks s = false ∨ s.pair.linkUp = false ∨ t2Ns s < s.pair.tmAt + 10000000) : pairMeasure p s = s :=
  if_pos (by simpa [or_assoc] using h)

variable (hw : pairWorks s = true) (hup : s.pair.linkUp = true) (hdue : s.pair.tmAt + 10000000 ≤ t2Ns s)
include hw hup hdue

theorem measure_due : ¬ (!pairWorks s || !s.pair.linkUp || decide (t2Ns s < s.pair.tmAt + 10000000)) = true := by
  simp [hw, hup, hdue]

theorem pairMeasure_sends (h : pairOffsets s = none) : pairMeasure p s = pairSend p s := by
  refine (if_neg (measure_due hw hup hdue)).trans ?_
  rw [h]

theorem pairMeasure_reports {a b : Int} (h : pairOffsets s = some (a, b)) : pairMeasure p s = pairSend p (pairReport a b s) := by
  refine (if_neg (measure_due hw hup hdue)).trans ?_
  rw [h]

end

end Sys2Proof.Machine
end

section
/-! SUPPORT. The digest records of a pair (R453 to R455) and the obligation about the Corler link. -/

namespace Sys2Proof.Machine

/-! ### The configuration digests compared (R455) -/

section
variable {s : State}

/-- The pair's unit with another timing of a mismatch. -/
def cfgTimed (since : Option Nat) (raised : Bool) (u : PairUnit) : PairUnit := { u with cfgSince := since, cfgRaised := raised }

theorem configCheck_unknown (hd : s.pair.peerDigest = none) : configCheck s = s := by
  unfold configCheck
  dsimp only
  rw [hd]

theorem configCheck_keeps (s : State) : Agree { pair := true } s (configCheck s) := configCheck_frame s (.refl _ s) rfl

theorem configCheck_agrees (hd : s.pair.peerDigest = some (configDigest s)) :
    (configCheck s).pair = { s.pair with cfgSince := none, cfgRaised := false } := by
  unfold configCheck
  dsimp only
  rw [hd]
  dsimp only
  rw [if_pos (beq_self_eq_true _)]
  split
  · exact raise_pair ..
  · rfl

variable {d : W32} (hd : s.pair.peerDigest = some d) (hne : d ≠ configDigest s)
include hd hne

theorem configCheck_starts (hnone : s.pair.cfgSince = none) : configCheck s = withPair s { s.pair with cfgSince := some (t2Ns s) } := by
  unfold configCheck
  dsimp only
  rw [hd]
  exact (if_neg (by simpa using hne)).trans (if_pos (by rw [hnone]; rfl))

theorem configCheck_times {a : Nat} (ha : s.pair.cfgSince = some a) : configCheck s = s := by
  unfold configCheck
  dsimp only
  rw [hd]
  exact (if_neg (by simpa using hne)).trans (if_neg (by simp [ha]))

theorem pairConfig_starts (hnone : s.pair.cfgSince = none) : pairConfig s = withPair s { s.pair with cfgSince := some (t2Ns s) } := by
  unfold pairConfig
  rw [configCheck_starts hd hne hnone]
  exact if_neg (by simp [t2Ns])

theorem pairConfig_raises {a : Nat} (ha : s.pair.cfgSince = some a) (hr : s.pair.cfgRaised = false) (hdue : a + 100000000 ≤ t2Ns s) :
    pairConfig s = raise 0x31 [pack [(31, 31, 1)], configDigest s, d] (withPair s { s.pair with cfgRaised := true }) := by
  unfold pairConfig
  rw [configCheck_times hd hne ha]
  dsimp only
  rw [ha]
  refine (if_pos (by simp [hr, hdue])).trans ?_
  simp only [configEvent, configDigest_withPair, withPair_pair, hd, Option.getD_some, b1, if_true]

theorem pairConfig_waits {a : Nat} (ha : s.pair.cfgSince = some a) (h : s.pair.cfgRaised = true ∨ t2Ns s < a + 100000000) :
    pairConfig s = s := by
  unfold pairConfig
  rw [configCheck_times hd hne ha]
  dsimp only
  rw [ha]
  refine if_neg ?_
  obtain hr | hearly := h
  · simp [hr]
  · simp [Nat.not_le.mpr hearly]

end

theorem configCheck_pair (s : State) : ∃ a b, (configCheck s).pair = cfgTimed a b s.pair := by
  cases hd : s.pair.peerDigest with
  | none => exact ⟨s.pair.cfgSince, s.pair.cfgRaised, congrArg State.pair (configCheck_unknown hd)⟩
  | some d =>
    by_cases hne : d = configDigest s
    · exact ⟨none, false, configCheck_agrees (hne ▸ hd)⟩
    · cases ha : s.pair.cfgSince with
      | none => exact ⟨some (t2Ns s), s.pair.cfgRaised, congrArg State.pair (configCheck_starts hd hne ha)⟩
      | some a => exact ⟨s.pair.cfgSince, s.pair.cfgRaised, congrArg State.pair (configCheck_times hd hne ha)⟩

/-- Digests that agree again leave nothing timed. -/
theorem pairConfig_agrees {s : State} (hd : s.pair.peerDigest = some (configDigest s)) :
    pairConfig s = configCheck s := by
  unfold pairConfig
  dsimp only
  rw [configCheck_agrees hd]

/-! ### The comparison of two records (Table 11-4) -/

section
variable {a b : DigRec} {s : State}

theorem comparePair_match (h : a.digest = b.digest) : (comparePair a b s).pair =
    { s.pair with cmpLast := tset a.output 1 s.pair.cmpLast, cmpMatch := sat32 (s.pair.cmpMatch + 1) } := by
  simp [comparePair, compareRecs, cmpResult, h]

theorem diverged_pair (a b : DigRec) (s : State) :
    ∃ v, (diverged a b s).pair = { s.pair with cmpDiverge := sat32 (s.pair.cmpDiverge + 1), div := v } := by
  unfold diverged
  dsimp only
  split
  · exact ⟨_, rfl⟩
  · exact ⟨_, raise_pair ..⟩

variable (hne : a.digest ≠ b.digest)
include hne

theorem comparePair_excused (h : a.slipped ≠ 0 ∨ b.slipped ≠ 0 ∨ a.rescan = true ∨ b.rescan = true) : (comparePair a b s).pair =
    { s.pair with cmpLast := tset a.output 2 s.pair.cmpLast, cmpExcused := sat32 (s.pair.cmpExcused + 1) } := by
  have hexcuse : (a.slipped != 0 || b.slipped != 0 || a.rescan || b.rescan) = true := by simpa [or_assoc] using h
  simp [comparePair, compareRecs, cmpResult, hne, hexcuse]

theorem comparePair_diverges (ha : a.slipped = 0) (hb : b.slipped = 0) (hra : a.rescan = false) (hrb : b.rescan = false) :
    ∃ v, (comparePair a b s).pair =
      { s.pair with cmpLast := tset a.output 3 s.pair.cmpLast, cmpDiverge := sat32 (s.pair.cmpDiverge + 1), div := v } := by
  obtain ⟨v, hv⟩ := diverged_pair a b (cmpResult a.output 3 s)
  have hcmp : comparePair a b s = diverged a b (cmpResult a.output 3 s) := by
    simp [comparePair, compareRecs, hne, ha, hb, hra, hrb]
  exact ⟨v, (congrArg State.pair hcmp).trans hv⟩

end

/-- A comparison touches only results: the records that wait and what is known of the peer stand. -/
theorem comparePair_waiting (a b : DigRec) (s : State) : (comparePair a b s).pair.ownRecs = s.pair.ownRecs ∧
    (comparePair a b s).pair.peerRecs = s.pair.peerRecs ∧ (comparePair a b s).pair.peerDigest = s.pair.peerDigest ∧
    (comparePair a b s).pair.peerSeen = s.pair.peerSeen := by
  unfold comparePair compareRecs
  dsimp only
  split
  · exact ⟨rfl, rfl, rfl, rfl⟩
  · split
    · exact ⟨rfl, rfl, rfl, rfl⟩
    · obtain ⟨v, hv⟩ := diverged_pair a b (cmpResult a.output 3 s)
      rw [hv]
      exact ⟨rfl, rfl, rfl, rfl⟩

/-! ### The peer's record (R453) -/

theorem notCompared_none (o : Nat) (s : State) : notCompared o 5 s =
    withPair s { s.pair with cmpLast := tset o 5 s.pair.cmpLast, cmpNone := sat32 (s.pair.cmpNone + 1) } := rfl

/-- The peer's record as a record of the module. -/
def peerRec (r : PeerDigest) : DigRec :=
  { output := r.output, frame := r.frame, digest := r.digest, slipped := r.slipped, rescan := r.rescan, readback := r.readback }

/-- The outputs of which the peer has sent a record. -/
def seenNow (r : PeerDigest) (s : State) : List Nat :=
  if s.pair.peerSeen.contains r.output then s.pair.peerSeen else r.output :: s.pair.peerSeen

/-- The block once the digest that came with a record has been compared. -/
def digestHeard (r : PeerDigest) (s : State) : State :=
  configCheck (withPair s { s.pair with peerDigest := some r.config, peerSeen := seenNow r s })

/-- The same with the own record of that frame taken out for the comparison. -/
def ownTaken (r : PeerDigest) (s : State) : State :=
  withPair (digestHeard r s) { (digestHeard r s).pair with ownRecs := s.pair.ownRecs.filter fun x => !sameFrame (peerRec r) x }

theorem mem_seenNow (r : PeerDigest) (s : State) : r.output ∈ seenNow r s := by
  unfold seenNow
  split
  · next h => exact List.contains_iff_mem.mp h
  · exact List.mem_cons_self

theorem digestHeard_keeps (r : PeerDigest) (s : State) : Agree { pair := true } s (digestHeard r s) :=
  configCheck_frame _ (withPair_frame _ _ (.refl _ s) rfl) rfl

theorem digestHeard_pair (r : PeerDigest) (s : State) : ∃ a b, (digestHeard r s).pair =
    { s.pair with peerDigest := some r.config, peerSeen := seenNow r s, cfgSince := a, cfgRaised := b } :=
  configCheck_pair _

theorem ownRecs_heard (r : PeerDigest) (s : State) : (digestHeard r s).pair.ownRecs = s.pair.ownRecs := by
  obtain ⟨a, b, h⟩ := digestHeard_pair r s
  rw [h]

theorem digestReceive_keeps (r : PeerDigest) (s : State) : Agree { pair := true } s (digestReceive r s) :=
  digestReceive_frame r s (.refl _ s) rfl

section
variable {r : PeerDigest} {s : State}

theorem digestReceive_skips (h : pairWorks s = false ∨ pairCompares s = false ∨ s.pair.linkUp = false) : digestReceive r s = s :=
  if_pos (by simpa [or_assoc] using h)

variable (ho : r.output < 48) (hw : pairWorks s = true) (hc : pairCompares s = true) (hup : s.pair.linkUp = true)
include ho hw hc hup

theorem digestReceive_eq : digestReceive r s =
    if !(outGet s r.output).en then notCompared r.output 5 (digestHeard r s)
    else match (digestHeard r s).pair.ownRecs.find? (sameFrame (peerRec r)) with
      | some a => comparePair a (peerRec r) (withPair (digestHeard r s)
          { (digestHeard r s).pair with ownRecs := (digestHeard r s).pair.ownRecs.filter fun x => !sameFrame (peerRec r) x })
      | none => withPair (digestHeard r s) { (digestHeard r s).pair with peerRecs := (digestHeard r s).pair.peerRecs ++ [peerRec r] } := by
  rw [← (digestHeard_keeps r s).outGet rfl]
  unfold digestReceive
  dsimp only
  rw [if_neg (by simp [hw, hc, hup]), Nat.mod_eq_of_lt ho]
  rfl

/-- A record of a disabled output is not compared. -/
theorem digestReceive_off (hen : (outGet s r.output).en = false) : digestReceive r s = notCompared r.output 5 (digestHeard r s) := by
  rw [digestReceive_eq ho hw hc hup, hen]
  rfl

section
variable (hen : (outGet s r.output).en = true)
include hen

/-- Where the own record is still to come, the peer's is kept. -/
theorem digestReceive_kept (hnone : s.pair.ownRecs.find? (sameFrame (peerRec r)) = none) : digestReceive r s =
    withPair (digestHeard r s) { (digestHeard r s).pair with peerRecs := (digestHeard r s).pair.peerRecs ++ [peerRec r] } := by
  rw [digestReceive_eq ho hw hc hup, hen, ownRecs_heard, hnone]
  rfl

theorem digestReceive_compares {a : DigRec} (ha : s.pair.ownRecs.find? (sameFrame (peerRec r)) = some a) :
    digestReceive r s = comparePair a (peerRec r) (ownTaken r s) := by
  rw [digestReceive_eq ho hw hc hup, hen, ownRecs_heard, ha]
  rfl

end

/-- Whatever becomes of the record, the peer's digest and its output are known from then on. -/
theorem digestReceive_knows : (digestReceive r s).pair.peerDigest = some r.config ∧ r.output ∈ (digestReceive r s).pair.peerSeen := by
  obtain ⟨x, y, hpair⟩ := digestHeard_pair r s
  have hseen := mem_seenNow r s
  cases hen : (outGet s r.output).en with
  | false =>
    rw [digestReceive_off ho hw hc hup hen, notCompared_none, withPair_pair, hpair]
    exact ⟨rfl, hseen⟩
  | true =>
    cases hfind : s.pair.ownRecs.find? (sameFrame (peerRec r)) with
    | none =>
      rw [digestReceive_kept ho hw hc hup hen hfind, withPair_pair, hpair]
      exact ⟨rfl, hseen⟩
    | some a =>
      obtain ⟨-, -, hdigest, houts⟩ := comparePair_waiting a (peerRec r) (ownTaken r s)
      rw [digestReceive_compares ho hw hc hup hen hfind, hdigest, houts, ownTaken, withPair_pair, hpair]
      exact ⟨rfl, hseen⟩

end

/-- A record that is found is one of the output asked for. -/
theorem output_of_find {l : List DigRec} {a b : DigRec} (h : l.find? (sameFrame b) = some a) : a.output = b.output := by
  have hsame := List.find?_some h
  simp only [sameFrame, Bool.and_eq_true, beq_iff_eq] at hsame
  exact hsame.1.symm

/-! ### A peer's record that is late (R453) -/

section
variable {o : Nat} {s : State}

theorem digestLate_nothing (h : s.pair.ownRecs.find? (fun a => a.output == o) = none) : digestLate o s = s := by
  unfold digestLate
  dsimp only
  rw [h]

variable {a : DigRec} (h : s.pair.ownRecs.find? (fun a => a.output == o) = some a)
include h

theorem digestLate_waits (hearly : (flGet s (orGen (outRec s o))).next < frameNamed (flGet s (orGen (outRec s o))) a.frame + 6) :
    digestLate o s = s := by
  unfold digestLate
  dsimp only
  rw [h]
  exact if_neg (Nat.not_le.mpr hearly)

theorem digestLate_due (hdue : frameNamed (flGet s (orGen (outRec s o))) a.frame + 6 ≤ (flGet s (orGen (outRec s o))).next) :
    digestLate o s = notCompared o (if s.pair.peerSeen.contains o then 4 else 5)
      (withPair s { s.pair with ownRecs := s.pair.ownRecs.filter fun x => !sameFrame a x }) := by
  unfold digestLate
  dsimp only
  rw [h]
  exact if_pos hdue

end

/-! ### The Corler link -/

/-- Settles O56, clause by clause from the rules of trainings, frames, offsets and digest records. -/
theorem corlerLinkCarriesThePair : Obligations.CorlerLinkCarriesThePair := by
  unfold Obligations.CorlerLinkCarriesThePair
  refine ⟨?training, ?retry, ?frames, ?timing, ?symmetric, ?offsets, ?records, ?late, ?config⟩
  case training =>
    rintro r s _ rfl
    refine ⟨fun h => congrArg Host.Outcome.next (corlerTraining_skips h), fun hw ht =>
      ⟨fun hl => congrArg Host.Outcome.next (corlerTraining_noLane hw ht hl), fun hl hm hc hacc hpos => ?_, fun hl hm h => ?_,
        fun hl hm hc => congrArg Host.Outcome.next (corlerTraining_ends hw ht hl hm hc), fun hl hm hc => ?_⟩⟩
    · obtain ⟨hkeep, hpair⟩ := knitLinked_pair hm _ (corlerTraining_links hw ht hl hc fun _ => ⟨hacc, hpos⟩)
      refine ⟨_, rfl, ?_, ?_, ?_, fun h1 => ?_, fun h1 => ?_, hkeep.pwr.resolve_left Bool.false_ne_true,
        hkeep.mem.resolve_left Bool.false_ne_true, hkeep.comp.resolve_left Bool.false_ne_true⟩
      · rw [hpair]; rfl
      · rw [hpair]; rfl
      · rw [hpair]; rfl
      · rw [hpair, if_pos h1]
      · rw [hpair, if_neg h1]
    · obtain ⟨cause, hfail⟩ := corlerTraining_fails hw ht hl hm h
      obtain ⟨hmode, hpair⟩ := knitFail_ready cause 3 0xFF s
      refine ⟨_, congrArg Host.Outcome.next hfail, hmode, ?_, ?_, (knitFail_keeps cause 3 0xFF s).roleKeeps.1⟩
      · rw [hpair]; rfl
      · rw [hpair]; rfl
    · have hlink := (corlerTraining_links hw ht hl hc fun hk => absurd hk hm).trans (if_neg (by simp [hm]))
      have hkeep := linkTrained_keeps r s
      exact ⟨_, congrArg Host.Outcome.next hlink, rfl, rfl, rfl, List.mem_append_right _ List.mem_cons_self,
        hkeep.pwr.resolve_left Bool.false_ne_true, hkeep.mem.resolve_left Bool.false_ne_true⟩
  case retry =>
    exact fun s => ⟨fun _ ha hdue hm => congrArg Host.Outcome.next (trainingRetry_starts ha hdue hm),
      fun _ ha h => congrArg Host.Outcome.next (trainingRetry_waits ha h), fun h => congrArg Host.Outcome.next (trainingRetry_none h)⟩
  case frames =>
    rintro lane f s _ hlane rfl
    refine ⟨fun h => congrArg Host.Outcome.next (corlerFrame_skips hlane h), fun hw hup hin => ?_⟩
    have good : ∀ m, f.crcOk = true → f.msg = m → exec (.corlerFrameReceive lane f) s = .next (corlerMessage f.stamp m (frameHeard lane s)) :=
      fun m hok hmsg => congrArg Host.Outcome.next (hmsg ▸ corlerFrame_good hlane hw hup hin hok)
    refine ⟨fun hok hmsg => good _ hok hmsg, fun w hok hmsg => good _ hok hmsg, fun n ret hok hmsg hm => ?_, fun hok hmsg hm => ?_,
      ⟨fun n ret hok hmsg hm => ?_, fun hok hmsg hm => ?_⟩, fun n i k bs hok hmsg => ⟨fun ⟨hm, hp, hcols⟩ => ?_, fun h => ?_⟩,
      fun hbad h1 h3 h4 => congrArg Host.Outcome.next (corlerFrame_dropped hlane hw hup hin hbad h1 h3 h4),
      fun hbad hcls hn => congrArg Host.Outcome.next (corlerFrame_replays hlane hw hup hin hbad hcls hn), fun hbad hcls hn => ?_⟩
    · refine ⟨_, (good _ hok hmsg).trans (congrArg Host.Outcome.next (corlerMessage_drill n ret hm)), drillBegin_mode .., ?_, ?_,
        drillBegin_mem ..⟩
      · rw [drillBegin_pair]; rfl
      · rw [drillBegin_pair]; rfl
    · refine ⟨_, (good _ hok hmsg).trans (congrArg Host.Outcome.next (corlerMessage_snapshot hm)), mem_outbox_raise ?_ .., ?_, ?_, ?_, ?_⟩
      · exact List.mem_append_right _ (by rw [frameHeard, configDigest_withPair]; exact List.mem_cons_self)
      · rw [raise_pair]; rfl
      · rw [raise_pair]; rfl
      · rw [raise_pair]; rfl
      · rw [raise_mem]; rfl
    · exact (good _ hok hmsg).trans (congrArg Host.Outcome.next (corlerMessage_noDrill n ret hm))
    · exact (good _ hok hmsg).trans (congrArg Host.Outcome.next (corlerMessage_noSnapshot hm))
    · have hkeep := takeLifeline_keeps (c := n) (s := frameHeard lane s) i k bs
      exact ⟨_, (good _ hok hmsg).trans (congrArg Host.Outcome.next (corlerMessage_lifeline n i k bs hm hp)), takeLifeline_lives i k bs hcols,
        fun d hd => takeLifeline_others i k bs hd, hkeep.pair.resolve_left Bool.false_ne_true, hkeep.scan.resolve_left Bool.false_ne_true⟩
    · exact (good _ hok hmsg).trans (congrArg Host.Outcome.next (corlerMessage_noLifeline n i k bs h))
    · refine ⟨_, congrArg Host.Outcome.next (corlerFrame_removes hlane hw hup hin hbad hcls hn), ?_, laneRemove_ovl lane s, ?_,
        (laneRemove_keeps lane s).mem.resolve_left Bool.false_ne_true⟩
      · rw [laneRemove_pair]
      · rw [laneRemove_pair]; exact hup
  case timing =>
    intro lane f s i echo prev hlane hw hup hin hok hmsg
    exact ⟨_, congrArg Host.Outcome.next ((corlerFrame_good hlane hw hup hin hok).trans (congrArg (corlerMessage f.stamp · _) hmsg)),
      rfl, rfl, rfl, rfl, rfl⟩
  case symmetric => exact fun _ _ _ _ _ _ hthere hback => twoWay_symmetric hthere hback
  case offsets =>
    refine fun p s => ⟨fun h => congrArg Host.Outcome.next (pairMeasure_skips h), fun hw hup hdue => ⟨fun h => ?_, fun a b h => ?_⟩⟩
    · obtain ⟨o, f, q, hsend⟩ := pairSend_leaves p s
      exact ⟨_, congrArg Host.Outcome.next ((pairMeasure_sends hw hup hdue h).trans hsend), rfl, rfl, rfl, rfl, rfl⟩
    · obtain ⟨o, f, q, hsend⟩ := pairSend_leaves p (pairReport a b s)
      obtain ⟨v, hpair, hover⟩ := pairReport_pair a b s
      have htb := pairReport_tb a b s
      refine ⟨_, congrArg Host.Outcome.next ((pairMeasure_reports hw hup hdue h).trans hsend), ?_, ?_, ?_, ?_, ?_, ?_, ?_, rfl,
        pairReport_mem a b s, fun hlim => ?_⟩
      · dsimp only; rw [htb]; rfl
      · dsimp only; rw [htb]; rfl
      · dsimp only; rw [htb]
      · dsimp only; rw [htb]
      · dsimp only; rw [htb]
      · dsimp only; rw [hpair]
      · dsimp only; unfold t2Ns; rw [htb]
      · dsimp only; rw [hpair]; exact hover hlim
  case records =>
    intro r s b ho hb
    obtain rfl : b = peerRec r := hb
    refine ⟨fun h => congrArg Host.Outcome.next (digestReceive_skips h), fun hw hc hup => ?_⟩
    have hkeep := digestReceive_keeps r s
    obtain ⟨x, y, hpair⟩ := digestHeard_pair r s
    obtain ⟨hdigest, hseen⟩ := digestReceive_knows ho hw hc hup
    refine ⟨_, rfl, hdigest, hseen, hkeep.mem.resolve_left Bool.false_ne_true, hkeep.scan.resolve_left Bool.false_ne_true,
      fun hen => ?_, fun hen hnone => ?_, fun a hen ha => ?_⟩
    · rw [digestReceive_off ho hw hc hup hen, notCompared_none, withPair_pair, hpair]
      exact ⟨rfl, by rw [tget_tset, if_pos rfl], rfl, rfl⟩
    · rw [digestReceive_kept ho hw hc hup hen hnone, withPair_pair, hpair]
      exact ⟨rfl, rfl, rfl⟩
    · have hout : a.output = r.output := output_of_find ha
      obtain ⟨hown, hpeer, -, -⟩ := comparePair_waiting a (peerRec r) (ownTaken r s)
      rw [digestReceive_compares ho hw hc hup hen ha]
      refine ⟨hown, hpeer.trans (by rw [ownTaken, withPair_pair, hpair]), fun hd => ?_, fun hd hex => ?_, fun hd h1 h2 h3 h4 => ?_⟩
      · rw [comparePair_match hd, ownTaken, withPair_pair, hpair]
        exact ⟨rfl, by rw [tget_tset, if_pos hout.symm]⟩
      · rw [comparePair_excused hd hex, ownTaken, withPair_pair, hpair]
        exact ⟨rfl, by rw [tget_tset, if_pos hout.symm]⟩
      · obtain ⟨v, hv⟩ := comparePair_diverges (s := ownTaken r s) hd h1 h2 h3 h4
        rw [hv, ownTaken, withPair_pair, hpair]
        exact ⟨rfl, by rw [tget_tset, if_pos hout.symm]⟩
  case late =>
    intro o s ho
    have hexec : exec (.digestRecordLate o) s = .next (digestLate o s) :=
      congrArg (fun n => Host.Outcome.next (digestLate n s)) (Nat.mod_eq_of_lt ho)
    rw [hexec]
    refine ⟨fun h => congrArg Host.Outcome.next (digestLate_nothing h), fun a h =>
      ⟨fun hearly => congrArg Host.Outcome.next (digestLate_waits h hearly), fun hdue => ⟨fun hseen => ?_, fun hseen => ?_⟩⟩⟩
    · refine congrArg Host.Outcome.next ((digestLate_due h hdue).trans ?_)
      rw [hseen]; rfl
    · refine congrArg Host.Outcome.next ((digestLate_due h hdue).trans ?_)
      rw [hseen]; rfl
  case config =>
    refine fun s d => ⟨fun h => congrArg Host.Outcome.next (if_neg (by simp [h])), fun hc hd => ?_⟩
    have hexec : exec .pairConfig s = .next (pairConfig s) := congrArg Host.Outcome.next (if_pos hc)
    rw [hexec]
    refine ⟨?_, fun a hne ha hr hdue => congrArg Host.Outcome.next (pairConfig_raises hd hne ha hr hdue),
      fun hne hnone => congrArg Host.Outcome.next (pairConfig_starts hd hne hnone),
      fun a hne ha h => congrArg Host.Outcome.next (pairConfig_waits hd hne ha h)⟩
    rintro rfl
    exact ⟨_, congrArg Host.Outcome.next (pairConfig_agrees hd), configCheck_agrees hd,
      (configCheck_keeps s).mem.resolve_left Bool.false_ne_true⟩

end Sys2Proof.Machine
end
